-- ==== Sys2Proof/Word.lean ====
section
/-! DEFINITION.
The register word of the device (R7: bits 35:0 of an eight-byte slot) and the plainest arithmetic on it.
-/
namespace Sys2Proof

/-- A register word, 36 bits (R7). -/
abbrev Word := BitVec 36

/-- A byte string, most significant byte first. -/
abbrev Bytes := List (BitVec 8)

/-- The largest 36-bit value, at which counters and PS36 values saturate (R6, R93). -/
abbrev wordMax : Nat := 68719476735

/-- A 36-bit value stored with saturation (R6). -/
def sat36 (n : Nat) : Nat := min n wordMax

/-- A two's complement value of `w` bits read as an integer. -/
def toSigned (w n : Nat) : Int :=
  if n % 2 ^ w < 2 ^ (w - 1) then (n % 2 ^ w : Nat) else (n % 2 ^ w : Nat) - (2 ^ w : Nat)

/-- An integer as a two's complement value of `w` bits. -/
def ofSigned (w : Nat) (z : Int) : Nat := (z % (2 ^ w : Nat)).toNat

/-- `z` held between `lo` and `hi`. -/
def clampInt (lo hi z : Int) : Int := max lo (min hi z)

/-- `n` held between `lo` and `hi`. -/
def clampNat (lo hi n : Nat) : Nat := max lo (min hi n)

end Sys2Proof
end

