-- ==== Sys2Proof/Syntax.lean ====
section
/-! DEFINITION.
The commands of the device: one constructor of `Instr` for each row of spec/opcode_table.json, with its operands.  The rows give no
operand fields, so the operands are read from the rule each row names (log entry 1).  Instants are given as
`tick`, the AXCLK ticks since the last AXMARK.
-/
namespace Sys2Proof

/-- The three masters of register accesses (spec/04, "Decoding BAR0"). -/
inductive Master where
  | pf0
  | pf1
  | spi
  deriving DecidableEq, Repr

/-- The instructions of the test access port that take over the pins (R52). -/
inductive PinInstr where
  | extest
  | extestPulse
  | extestTrain
  | clamp
  | highz
  deriving DecidableEq, Repr

/-- A record given to the NVM controller (R68, R69): area code (0 journal, 1 key store, 2 life cycle, 3 start and save, 4 holdover),
TYPE, payload, whether its read-back matches (or, at a power-fail warning, whether it can finish in time), and the tick of its writing. -/
structure NvWrite where
  area : Nat
  type : Nat
  payload : List Word
  ok : Bool
  tick : Nat
  deriving DecidableEq, Repr

/-- AO's count of one island clock over 1 ms against its oscillator (R13), in kHz, and loss of lock. -/
structure ClockReading where
  khz : Nat
  unlocked : Bool
  deriving DecidableEq, Repr

/-- What has happened to one time core since the last update (R129): an upset that moves its frequency word by `dy` (F36 units) and its counter by `dt`
(2^-48 ns) for good, a corrupted signature, an uncorrectable error in its own state (SELF), and corrected errors of its state memory. -/
structure CoreReport where
  dy : Int
  dt : Int
  badSig : Bool
  self : Bool
  corr : Nat
  deriving DecidableEq, Repr

/-- A candidate's raw sample before R143 reduces it: the last stamp of a REF_IN input in PPS mode; the counted edges of one in FREQ mode; the accumulated
phase of a recovered clock (SyncE) at its nominal frequency (2^-48 ns) at an axle instant; a candidate time minus the scale (S72 units) at an axle instant, with
the logMessageInterval of the Sync for PTP; or the cell's measurement for ATOM.  Instants are in units of 2^-48 ns. -/
inductive RawSample where
  | pps
  | edges
  | phase (c : Int) (t : Int)
  | offset (t : Int) (o : Int) (logSync : Int)
  | cell
  deriving DecidableEq, Repr

/-- The counts of one converter's code-density calibration (R224): edges collected, edges per phase interval, edges per tap, and whether any edge reached
TAP 255. -/
structure CalResult where
  n : Nat
  np : List Nat
  ck : List Nat
  topTap : Bool
  deriving DecidableEq, Repr

/-- The code of an edge in a converter pair: the AXCLK tick before it, the phase interval and the tap (R22, R215). -/
structure Stamp where
  tick : Nat
  phase : Nat
  tap : Nat
  deriving DecidableEq, Repr

/-- What the navigation engine solves for one constellation at an epoch (R236 to R238, R248): 0 GPS, 1 Galileo, 2 BeiDou, 3 QZSS, 4 GLONASS; its satellites in
the solution; its clock offset, system time (UTC for GLONASS) minus the stamp; the broadcast sub-second correction toward its UTC(k); and satellites and offset
from the signals of each band alone; and the residuals of its satellites in the solution.  Offsets are in S72 units. -/
structure ConsMeas where
  sys : Nat
  sats : Nat
  off : Int
  utck : Int
  sats1 : Nat
  off1 : Int
  sats5 : Nat
  off5 : Int
  resid : List Nat
  deriving DecidableEq, Repr

/-- A measurement epoch (R236): the code of the sample edge, the constellations solved, the position solution (ECEF, mm) with its 3D standard
deviation (cm) where four satellites give one, the mean C/N0 of each band, the standard deviation of the solution (in the unit of the residuals), the in-band noise of
each band in 0.1 dB, and whether the navigation message has given an almanac and the ephemeris since the epoch before. -/
structure GnssEpoch where
  st : Stamp
  cons : List ConsMeas
  pos : Option (Int × Int × Int)
  sigma : Nat
  cn1 : Nat
  cn5 : Nat
  dev : Nat
  noise1 : Nat
  noise5 : Nat
  almanac : Bool
  ephemeris : Bool
  deriving DecidableEq, Repr

/-! ## Frames, given by the fields that the spec names (log entry 26) -/

/-- A TLV of a PTP message: the unicast negotiation TLVs (R356), the organization extension (R270), and any other by its tlvType and length. -/
inductive Tlv where
  | request (mtype : Nat) (log : Int) (dur : Nat)
  | grant (mtype : Nat) (log : Int) (dur : Nat) (renew : Bool)
  | cancel (mtype : Nat)
  | ackCancel (mtype : Nat)
  | org (bytes : List Nat)
  | other (type : Nat) (len : Nat)
  deriving DecidableEq, Repr

/-- The AUTHENTICATION TLV (R339); `last`: it is the last TLV of its message. -/
structure AuthTlv where
  spp : Nat
  param : Nat
  keyId : Nat
  icv : Nat
  last : Bool
  deriving DecidableEq, Repr

/-- The body of an Announce message (R338). -/
structure AnnBody where
  utc : Int
  prio1 : Nat
  cls : Nat
  acc : Nat
  var : Nat
  prio2 : Nat
  gmId : Nat
  steps : Nat
  timeSrc : Nat
  deriving DecidableEq, Repr

/-- The flags of a PTP message (R337, R338). -/
structure PtpFlags where
  twoStep : Bool
  leap61 : Bool
  leap59 : Bool
  utcValid : Bool
  ptpScale : Bool
  timeTrace : Bool
  freqTrace : Bool
  deriving DecidableEq, Repr

/-- A PTP message: messageType, domainNumber, flags, correctionField (2^-16 ns), sourcePortIdentity (clockIdentity, then portNumber), sequenceId,
logMessageInterval, the timestamp field, requestingPortIdentity or targetPortIdentity, and the rest by type. -/
structure PtpMsg where
  mtype : Nat
  domain : Nat
  flags : PtpFlags
  corr : Int
  srcId : Nat
  seq : Nat
  log : Int
  sec : Nat
  ns : Nat
  reqId : Nat
  ann : Option AnnBody
  tlvs : List Tlv
  auth : Option AuthTlv
  deriving DecidableEq, Repr

/-- The NTS extension fields of an NTP message (R344); `layoutOk`: they are those of R344 and no others; `spare`: cookie placeholders; `nonce` and `box`: the
nonce and the ciphertext of the authenticator. -/
structure NtsFields where
  layoutOk : Bool
  uid : List Nat
  cookie : List Nat
  spare : Nat
  nonce : List Nat
  box : List Nat
  deriving DecidableEq, Repr

/-- An NTP message (R341); timestamps of 64 bits. -/
structure NtpMsg where
  li : Nat
  version : Nat
  mode : Nat
  stratum : Nat
  poll : Int
  precision : Int
  rootDelay : Nat
  rootDisp : Nat
  refId : Nat
  refTs : Nat
  orgTs : Nat
  recTs : Nat
  xmtTs : Nat
  nts : Option NtsFields
  deriving DecidableEq, Repr

/-- What a frame carries: a PTP or NTP message, MAC Control PAUSE or PFC (R279, R282), or anything else. -/
inductive Body where
  | ptp (msg : PtpMsg)
  | ntp (msg : NtpMsg)
  | pause (quanta : Nat)
  | pfc (enable : Nat) (quanta : List Nat)
  | other (content : Nat)
  deriving DecidableEq, Repr

/-- The IP and UDP headers of a frame, where it has them; `plain`: IPv4 without options and not fragmented, or IPv6 without extension headers (R323); UDP ports
where the frame is UDP. -/
structure IpHdr where
  v6 : Bool
  src : Nat
  dst : Nat
  dscp : Nat
  ttl : Nat
  plain : Bool
  udp : Option (Nat × Nat)
  deriving DecidableEq, Repr

/-- An Ethernet frame: addresses, tags outermost first (whether the TPID is 0x88A8, and the TCI), IP header, length in bytes as R279 counts it, content, and
whether its checksums and its message lengths are right (R323). -/
structure Frame where
  dst : Nat
  src : Nat
  tags : List (Bool × Nat)
  ip : Option IpHdr
  len : Nat
  body : Body
  sumOk : Bool
  lenOk : Bool
  deriving DecidableEq, Repr

/-- The frame whose sending an event cuts short: the next frame of an egress queue, by class, or a carriage at its launch, by CID. -/
inductive TxRef where
  | queued (cls : Nat)
  | carriage (cid : Nat)
  deriving DecidableEq, Repr

/-- A transmit descriptor (R483): frame without FCS as its fields, egress port, class field byte, host tag. -/
structure TxDesc where
  frame : Frame
  port : Nat
  flags : Nat
  tag : Nat
  deriving DecidableEq, Repr

/-- What a DMA descriptor fetch finds (R481, R483). -/
inductive DmaDesc where
  | rx (addr : Nat) (len : Nat)
  | tx (d : TxDesc)
  deriving DecidableEq, Repr

/-- A client entry (R350), NEXT apart, which follows from the index chains. -/
structure ClientEntry where
  state : Nat
  isStatic : Bool
  port : Nat
  transport : Nat
  twoStep : Bool
  auth : Bool
  tags : List (Bool × Nat)
  keySlot : Nat
  place : Nat
  mac : Nat
  ip : Nat
  portId : Nat
  logAnn : Int
  logSync : Int
  logDresp : Int
  annG : Bool
  syncG : Bool
  drespG : Bool
  annOk : Bool
  upEpoch : Nat
  annEnd : Nat
  syncEnd : Nat
  drespEnd : Nat
  annSeq : Nat
  syncSeq : Nat
  lastDreq : Nat
  deriving DecidableEq, Repr

/-- The payload of a Dugil frame (R425). T108 values are given in 2^-48 ns. -/
inductive DugBody where
  | tt (tx : Int) (rxSeq : Nat) (rx : Int) (teb : Nat) (stage : Nat) (src : Nat)
  | renew (lease : Nat) (e : Int)
  | ack (lease : Nat) (e : Int)
  | claim (eOld : Int)
  | reply (serial : Nat) (verdict : Nat)
  | handover (serial : Nat) (eh : Int)
  | sel (status : Word) (kind : Nat) (amount : Int) (apply_ : Int)
  | leap (field : Nat) (at_ : Word)
  | client (sweep : Bool) (deleted : Bool) (e : ClientEntry)
  | sweep (no : Nat) (isEnd : Bool) (count : Nat)
  deriving DecidableEq, Repr

/-- A Dugil frame (R424); `ok`: its MAGIC, FCS and TYPE are right. -/
structure DugFrame where
  ok : Bool
  role : Nat
  ready : Bool
  timed : Bool
  follows : Bool
  seq : Nat
  serial : Nat
  group : Nat
  prio : Nat
  body : DugBody
  deriving DecidableEq, Repr

/-- What a register write's row needs beyond the master, the slot and the word: the instant at which the write reaches its island, as ticks since the last
AXMARK and as MGT µs; microseconds since the master armed its expert window; how the record that it asks for ends, or whether the two key engines agree; and the
frames whose sending it meets, as the rows give them; the slot of the switch fabric; and the events of the page, bit per event, that occurred in the cycle of a clearing write (R107). -/
structure Arrival where
  tick : Nat
  us : Nat
  sinceArm : Nat
  ok : Bool
  sending : Bool
  cuts : List (Nat × TxRef)
  slot : Nat
  same : Nat
  deriving DecidableEq, Repr

/-- The commands, in the order of spec/opcode_table.json. -/
inductive Instr where
  /-- VIN_GOOD (R56): VIN rises through 10.5 V: AO leaves power-on reset, starts its oscillator, reads its retained settings and arms the tamper monitor. Operands: VIN, in mV, rises through 10.5 V (R56). -/
  | vinGood (mv : Nat)
  /-- HOLDUP_READY (R56): The hold-up store finishes charging and PWR.STAT.HOLDUP_RDY sets, so a power-fail save becomes possible. -/
  | holdupReady
  /-- HITCHED_ENTRY (R54): AO releases MGT and KV at the end of its own start, SPI and PCIe configuration space begin to answer, and KV reads the life-cycle record. -/
  | hitchedEntry
  /-- NVM_SCAN (R77): At each power-on or RESET_N start the NVM scan classifies the latest records and acts on what it finds. Operands: word errors that the scan meets: the number of corrected ones; and each record, by area code and number in its area, or word, by 5 for bank A or 6 for bank B and its number, that cannot be corrected. -/
  | nvmScan (corr : Nat) (bad : List (Nat × Nat))
  /-- KEY_LOAD (R386): KV loads every persistent key slot from its newest committed KEY record. -/
  | keyLoad
  /-- BANK_SELECT (R72): Both image banks are validated and one is chosen by BOOT.CTRL.PREF, or the HITCHED hold NO_IMAGE is entered. -/
  | bankSelect
  /-- ISLAND_RELEASE (R56): DRAM training completes, the remaining islands are released, the axle clock PLL locks and the AXCLK deskew is calibrated. -/
  | islandRelease
  /-- IMAGE_APPLY (R71): The image entries are written to registers and shadows, code sections are loaded and measured, and the port stamp units are calibrated. Operands: start and stop converters of the TICs in order, then the pairs 0 to 60 in order, and the temperature of their calibration. -/
  | imageApply (cals : List CalResult) (temp : Int)
  /-- ROLLING_ENTRY (R56): Generation 1 commits at an AXMARK, the transmitters are unsquelched, link training starts, the antenna bias is applied if enabled and a START record is written. Operands: `us`: microseconds since VIN good. -/
  | rollingEntry (us : Nat)
  /-- TIMED_ENTRY (R60): At an AXMARK the TIMED condition first holds, and TIME_VALID and authenticated service start. -/
  | timedEntry
  /-- STEADY_ENTRY (R54): At an AXMARK the OCXO is warm, the cell is locked and holdover learning is complete, so the stage becomes STEADY. -/
  | steadyEntry
  /-- RESET_N_ASSERT (R63): RESET_N is seen low for 32 AO samples: the brake acts, every island except AO enters reset and the unflushed records are written to the journal. -/
  | resetNAssert
  /-- RESET_N_RELEASE (R62): RESET_N rises and the device returns to HITCHED 25 ms later, or after the flush if that ends later. -/
  | resetNRelease
  /-- PERST_ASSERT (R477): PERST_N goes low: the PCIe endpoint is reset, all rings stop, and the MSI-X tables and the DMA page are reset. -/
  | perstAssert
  /-- PERST_RELEASE (R57): PERST_N rises and the endpoint answers configuration requests within 100 ms, or at HITCHED if that is later. -/
  | perstRelease
  /-- PCIE_CONFIG_REQUEST (R57): A configuration request that arrives before the endpoint is ready is answered with Configuration Request Retry Status. Operands: `pf`: the function addressed, 0 or 1; `ready`: the endpoint is ready, which it is at the latest 100 ms after PERST_N rises or at HITCHED; `msix`: MSI-X Enable and Function Mask, where the request writes them. -/
  | pcieConfigRequest (pf : Nat) (ready : Bool) (msix : Option (Bool × Bool))
  /-- POWER_FAIL_WARNING (R74): VIN stays below 10.0 V for 2 µs: the warning latches at t0, event PFW is raised, a record in progress is finished or abandoned, and the PF_SAVE write and the journal flush begin. Operands: the warning latches at `tick` with VIN at `mv` millivolts; `writing`: the record being written at t0, with whether it can finish by t0 + 200 µs. -/
  | powerFailWarning (tick : Nat) (mv : Nat) (writing : Option NvWrite)
  /-- PF_SHUTDOWN (R74): At t0 + 1.0 ms with VIN not restored, AO brakes, forces line 25 FATAL and holds every island except AO in reset. -/
  | pfShutdown (tick : Nat)
  /-- PF_SAVE_DONE (R74): The PF_SAVE record and the journal flush finish with their commit words. -/
  | pfSaveDone
  /-- RIDE_THROUGH (R75): VIN returns to 10.5 V before t0 + 1.0 ms: the save and the flush complete, a RIDE record follows, PWR.RIDE_COUNT increments and PFW_RIDE is raised. Operands: the lowest VIN since t0 and VIN now, in mV. -/
  | rideThrough (minMv : Nat) (mv : Nat)
  /-- HOLDUP_END (R74): At t0 + 3.0 ms the hold-up ends and the pins take their unpowered states. -/
  | holdupEnd
  /-- POWER_ON_AFTER_SHUTDOWN (R511): After a power-fail shutdown, a power-on start begins at the later of t0 + 3 ms and VIN being back at 10.5 V. -/
  | powerOnAfterShutdown (mv : Nat)
  /-- NVM_RECORD_WRITE (R69): The NVM controller writes a record, reads it back and then writes the commit word. Operands: `w.ok`: the read-back matches. -/
  | nvmRecordWrite (w : NvWrite)
  /-- NVM_SECTOR_ERASE (R81): A 128 KiB sector is erased after the wear table has been updated. -/
  | nvmSectorErase (sector : Nat)
  /-- BOOT_LOAD (R59): BOOT.CMD LOAD ends a HITCHED hold if a valid bank exists, and otherwise completes INVALID. -/
  | bootLoad (m : Master)
  /-- BOOT_ERASE (R73): BOOT.CMD ERASE starts erasing the named bank, subject to the refusal table. -/
  | bootErase (m : Master) (bank : Nat)
  /-- BANK_ERASE_DONE (R73): A bank erase finishes: the bank's WHY becomes 1, VALID 0 and IMG_SEQ 0, and the command completes DONE. -/
  | bankEraseDone
  /-- WRITE_OPEN (R73): BOOT.CMD WRITE_OPEN opens a write session at the first word of an erased bank. -/
  | writeOpen (m : Master) (bank : Nat)
  /-- IMG_DATA_WRITE (R73): A write to BOOT.IMG_DATA places one word at the session's write position and advances it, holding back the last word. -/
  | imgDataWrite (m : Master) (w : Word)
  /-- WRITE_CLOSE (R73): BOOT.CMD WRITE_CLOSE validates the bank and writes the held-back IMG_END commit word only if the bank is valid. -/
  | writeClose (m : Master) (bank : Nat)
  /-- FABRIC_RESET (R64): BOOT.CMD FABRIC_RESET squelches the ports, flushes the queues and resets MGT, SW and the coaches, then reconfigures them and commits a new generation. -/
  | fabricReset (m : Master) (force : Bool)
  /-- FABRIC_DONE (R64): The ports re-enter service, FABRIC_DOWN clears and event FABRIC_DONE is raised. Operands: the pairs of the ports, 8 to 55 in order, and the temperature of their calibration. -/
  | fabricDone (cals : List CalResult) (temp : Int)
  /-- ISLAND_CLOCK_CHECK (R13): Each millisecond AO counts every island clock and raises line 29 for a loss of lock or a deviation above 5 %. Operands: `oscDev`: AO oscillator deviation in 0.01 %; `readings`: one per island, in the order of the island codes; `mv`: VIN in mV as last measured. -/
  | islandClockCheck (oscDev : Int) (readings : List ClockReading) (mv : Nat)
  /-- COUPLING_TRANSFER (R16): A data group crosses a coupling lane and is acknowledged, or refused with ERR and repeated. Operands: one crossing from island `src` to island `dst` on coupling `ch`: 0 data, 1 the memory coupling of a coach, 2 the register coupling; `full`: the receiver has no room. -/
  | couplingTransfer (src : Nat) (dst : Nat) (ch : Nat) (parityOk : Bool) (full : Bool)
  /-- COUPLING_RESUME (R17): A receiver with a full buffer frees room and raises the ACK it withheld, so the held group completes. Operands: as COUPLING_TRANSFER. -/
  | couplingResume (src : Nat) (dst : Nat) (ch : Nat)
  /-- AXLE_SUBFRAME (R20): An AXTOD subframe arrives, its CRC is checked and its increment takes effect from the next subframe. Operands: subframe `k` arrives in `island` with the bits named in `err` inverted, bit 0 for the first bit sent. -/
  | axleSubframe (island : Nat) (k : Nat) (err : Nat)
  /-- AXMARK (R23): The voted scale passes a whole millisecond, and every device-wide change due at that tick takes effect in every island. Operands: the mark falls `tick` ticks after the one before; `cuts`: frames in transmission on the ports of coaches that are fenced at it, by port; `ready`: the islands that a fabric service reset or a WAKE holds are ready to be reconfigured. -/
  | axmark (tick : Nat) (cuts : List (Nat × TxRef)) (ready : Bool)
  /-- VOTE_UPDATE (R130): At each update VOTE compares the cores' words, signatures and times and produces FREQ and INC_NEXT. Operands: the update that starts subframe `k`. -/
  | voteUpdate (k : Nat) (r0 : CoreReport) (r1 : CoreReport) (r2 : CoreReport)
  /-- CORE_CATCHUP_DONE (R133): A loaded core finishes its buffered updates and enters PROBATION with REJOIN_LEFT set. -/
  | coreCatchupDone (core : Nat)
  /-- REJOIN_EXPIRY (R134): REJOIN_LEFT reaches 0 without a disagreement. -/
  | rejoinExpiry (core : Nat)
  /-- CORE_READMIT (R134): At the next second mark the core becomes IN, the mode returns to TRIAD and CORE_IN is raised. -/
  | coreReadmit (core : Nat)
  /-- CORE_SHUNT_APPLY (R136): At the first update after a core shunt request, the core becomes OUT with OUT_WHY HOST, or the shunt is refused with status PAIR. -/
  | coreShuntApply
  /-- VOTE_SET (R122): VOTE.CMD SET loads VOTE.SET_T at the mark after its announcement, or completes TRACED or REFUSED. -/
  | voteSet (m : Master)
  /-- HOST_STEP_SUBMIT (R123): A write to the low slot of VOTE.STEP submits a host step for announcement at the next mark. -/
  | hostStepSubmit (m : Master) (low : Word)
  /-- CANCEL_STEP (R124): VOTE.CMD CANCEL_STEP refuses every host step accepted and not yet announced. -/
  | cancelStep (m : Master)
  /-- RECOVER (R137): VOTE.CMD RECOVER in FAILED reloads the other two cores from the named donor at the next second mark. -/
  | recover (m : Master) (donor : Nat)
  /-- UTC_OFFSET_WRITE (R127): A host write to VOTE.UTC.OFFSET takes effect at the next AXMARK, sets VALID and cancels any pending leap. -/
  | utcOffsetWrite (m : Master) (v : Word)
  /-- LEAP_SCHEDULE (R128): A write to VOTE.LEAP_CTRL.KIND schedules a leap at LEAP_AT, or is refused with LEAP_REJ. Operands: `v`: the word written to VOTE.LEAP_CTRL. -/
  | leapSchedule (m : Master) (v : Word)
  /-- LEAP_PEND (R128): LEAP_AT − WARN is reached, so the pending bits show KIND and LEAP_PEND is raised. -/
  | leapPend
  /-- OCXO_WARM_SET (R110): The oven has stayed within ±0.05 K of its setpoint for 60 s, so OCXO.WARM sets. -/
  | ocxoWarmSet
  /-- OCXO_WARM_CLEAR (R110): The oven error has exceeded ±0.5 K for 1 s, so OCXO.WARM clears and line 24 becomes present. -/
  | ocxoWarmClear
  /-- CELL_HEAT_DONE (R112): The cell and laser have been within ±0.02 K for 10 s, so the cell enters SCAN. -/
  | cellHeatDone
  /-- CELL_LINE_FOUND (R112): The absorption line is found and the cell enters ACQUIRE. -/
  | cellLineFound
  /-- CELL_RESONANCE_LOCK (R112): The resonance locks and the cell enters LOCKED. -/
  | cellResonanceLock
  /-- CELL_ACQUIRE_TIMEOUT (R112): ACQUIRE does not lock within 1.5 min, so the cell returns to SCAN, or goes to FAULT after three failures. -/
  | cellAcquireTimeout
  /-- CELL_SIGNAL_LOST (R114): The resonance signal is lost for 100 ms: the cell returns to ACQUIRE, the EFC is frozen, the discipline stops and line 23 rises. -/
  | cellSignalLost
  /-- CELL_MEASUREMENT (R113): Each second the cell measures the OCXO, updates VOTE.CELL_Y and steers the EFC under the slew limit. Operands: `y`: the measurement, F36 units. -/
  | cellMeasurement (y : Int)
  /-- CELL_RESTART (R112): VOTE.CELL_CMD RESTART puts the cell into HEAT. -/
  | cellRestart (m : Master)
  /-- CELL_STOP (R139): VOTE.CELL_CMD STOP puts the cell into OFF with the EFC frozen. -/
  | cellStop (m : Master)
  /-- CANDIDATE_SAMPLE (R146): A candidate sample arrives, is reduced to an offset and passes the phase, frequency and noise checks. -/
  | candidateSample (slot : Nat) (raw : RawSample)
  /-- CAND_TIMEOUT (R146): No sample arrives within CAND.TIMEOUT, so the slot fails NO_SIGNAL. Operands: `tick` ticks after the last AXMARK. -/
  | candTimeout (slot : Nat) (tick : Nat)
  /-- CAND_QUALIFIED (R147): QUAL_LEFT reaches 0 at an AXMARK, so the slot becomes QUALIFIED and its wait-to-restore starts. -/
  | candQualified (slot : Nat)
  /-- WTR_DONE (R147): WTR_LEFT reaches 0 and event WTR_DONE is raised. -/
  | wtrDone (slot : Nat)
  /-- REF_IN_EDGE (R142): An edge on a REF_IN input is stamped by its converter pair. Operands: a rising or falling edge `tick` ticks after the last AXMARK, with the converter code of R218. -/
  | refInEdge (input : Nat) (falling : Bool) (tick : Nat) (phase : Nat) (tap : Nat)
  /-- ESMC_RECEIVE (R161): An ESMC message updates CAND.ESMC and raises QL_CHANGE when the SSM changes. -/
  | esmcReceive (slot : Nat) (ssm : Nat) (enh : Nat)
  /-- ESMC_TIMEOUT (R161): No valid ESMC has arrived for 5 s, so the SSM reads 0xF. -/
  | esmcTimeout (slot : Nat)
  /-- SEL_SWITCH (R151): SEL.CMD SWITCH starts a switch to an eligible slot, or is refused. -/
  | selSwitch (m : Master) (slot : Nat)
  /-- SEL_HOLDOVER (R151): SEL.CMD HOLDOVER forces the selector into HOLDOVER and sets FORCED_HOLD. -/
  | selHoldover (m : Master)
  /-- SEL_RELEASE (R151): SEL.CMD RELEASE ends forced holdover. -/
  | selRelease (m : Master)
  /-- SEL_CLEAR_WTR (R147): SEL.CMD CLEAR_WTR ends the wait-to-restore of the named slot at once. -/
  | selClearWtr (m : Master) (slot : Nat)
  /-- LOCKOUT_WRITE (R149): A write to SEL.LOCKOUT changes eligibility from the next mark. -/
  | lockoutWrite (m : Master) (v : Word)
  /-- PREPARE_END (R152): PREP_TIME has passed with a target sample in hand, so COMMIT begins and the step or load of R153 is submitted. -/
  | prepareEnd
  /-- SETTLE_TIMEOUT (R152): SETTLE_MAX passes before the servo locks, so the target goes LOST with WHY SETTLE. -/
  | settleTimeout
  /-- STEER_SUBMIT (R157): A write to the low slot of SEL.PHASE_STEP adds an amount to the target of the steering bias. -/
  | steerSubmit (m : Master) (low : Word)
  /-- STEER_DONE (R157): The steering bias reaches its target. -/
  | steerDone
  /-- SERVO_UPDATE (R163): In each subframe the servo processes the accepted feed samples and sends its frequency word to VOTE. Operands: the update that starts subframe `k`; `temp`: the cell block sensor, 2^-10 degrees. -/
  | servoUpdate (k : Nat) (temp : Int)
  /-- HOST_FEED_MODE (R173): A write to SRV.FEED_CTRL.HOST switches the servo between the host feed and the selector feed. -/
  | hostFeedMode (m : Master) (v : Word)
  /-- HOST_OFFSET_SUBMIT (R173): A write to the low slot of SRV.OFFSET_FEED submits one host sample, or is rejected while HOST is 0. -/
  | hostOffsetSubmit (m : Master) (low : Word) (tick : Nat)
  /-- HOLD_FIT (R177): Each counted hour yields an hourly mean, and the least-squares fit of z0, AGE and TC is repeated. -/
  | holdFit
  /-- HOLD_RECORD_PERIOD (R179): REC_PERIOD seconds pass with LEARN COMPLETE, so a HOLD record is written. -/
  | holdRecordPeriod
  /-- PLL_BAND_CHOSEN (R193): The VCO band search ends, the band is set and the loop is closed. -/
  | pllBandChosen (pll : Nat) (band : Nat)
  /-- PLL_LOCKED (R193): The phase error stays within LOCK_WIN for 8,192 ticks, so the PLL is LOCKED. Operands: `us`: duration of the lock sequence; `errPs`: the greatest phase error of its 8,192 last ticks. -/
  | pllLocked (pll : Nat) (us : Nat) (errPs : Nat)
  /-- PLL_LOCK_FAIL (R196): A lock attempt fails and TRIES increments, with FAULT when RETRY_MAX is reached. -/
  | pllLockFail (pll : Nat)
  /-- PLL_UNLOCK (R194): The phase error exceeds UNLOCK_WIN at four ticks, so the PLL enters RELOCK and its outputs move to bypass. Operands: `errPs`: the least phase error of four ticks in a row. -/
  | pllUnlock (pll : Nat) (errPs : Nat)
  /-- PLL_REF_LOST (R195): The AXCLK branch is lost, so REF_OK clears, line 7 rises and the outputs move to bypass. -/
  | pllRefLost (pll : Nat)
  /-- PLL_REF_RESTORED (R195): REF_OK has been 1 for 1 ms, so the lock sequence reruns. Operands: `held`: REF_OK has been 1 for 1 ms; else it has only just become 1. -/
  | pllRefRestored (pll : Nat) (held : Bool)
  /-- PLL_RELOCK (R196): PLL.CMD RELOCK runs a new lock sequence, from FAULT as well. -/
  | pllRelock (m : Master) (pll : Nat)
  /-- PLL_DISABLE (R206): Clearing a PLL's PG_CTRL.EN takes it to OFF and mutes its outputs at the end of their period. -/
  | pllDisable (m : Master) (pll : Nat)
  /-- BYPASS_SYNTH_UNLOCK (R197): The bypass synthesiser loses lock, line 7 rises and outputs due for bypass mute. -/
  | bypassSynthUnlock
  /-- CLK_RETURN_TO_PLL (R198): A bypassed CLK_OUT returns to its PLL at the first change point after 1 ms of LOCKED. -/
  | clkReturnToPll (n : Nat)
  /-- STARTED (R203): An enabled output's START condition holds, so it starts on a full aligned period with MISALIGN 0. Operands: `out`: 0 to 3 CLK_OUT, 4 to 7 PULSE_OUT. -/
  | started (out : Nat)
  /-- PULSE_EDGE (R201): A PULSE_OUT edge scheduler reaches the next programmed edge instant and places the edge. -/
  | pulseEdge (n : Nat)
  /-- OUT_REALIGN (R205): A write to OUT.REALIGN captures MISALIGN for each named output and starts moving it back. Operands: the write reaches RH at `tick`. -/
  | outRealign (m : Master) (clk : Nat) (pulse : Nat) (tick : Nat)
  /-- REALIGN_DONE (R205): Every named output finishes its move and REALIGN completes DONE. -/
  | realignDone
  /-- DRV_FAULT (R209): Three consecutive edges disagree with the land readback, so the output is muted and line 8 rises. -/
  | drvFault (out : Nat)
  /-- OUT_DISABLE (R206): Clearing OUT.PG_CTRL.EN mutes every output at the end of its current period. -/
  | outDisable (m : Master)
  /-- TIC_ARM (R219): TIC.CMD ARM arms the counter at the next AXCLK tick. -/
  | ticArm (m : Master) (tic : Nat)
  /-- TIC_ARM_AT (R219): TIC.CMD ARM_AT schedules arming at the instant in TIC.ARM_AT. Operands: the command reaches RH at `tick`. -/
  | ticArmAt (m : Master) (tic : Nat) (tick : Nat)
  /-- TIC_ARM_AT_REACHED (R219): The ARM_AT instant is reached and the TIC is armed. -/
  | ticArmAtReached (tic : Nat) (tick : Nat)
  /-- TIC_EDGE (R218): A qualifying edge reaches an enabled channel and is stamped, ending the measurement DONE when all stamps are taken. -/
  | ticEdge (tic : Nat) (stop : Bool) (falling : Bool) (tick : Nat) (phase : Nat) (tap : Nat)
  /-- TIC_TIMEOUT (R219): TIC.TIMEOUT passes from arming, so the measurement ends TIMEOUT. -/
  | ticTimeout (tic : Nat)
  /-- TIC_DISARM (R220): TIC.CMD DISARM ends a measurement ABORT and keeps the stamps taken. -/
  | ticDisarm (m : Master) (tic : Nat)
  /-- TIC_CALIBRATE (R226): TIC.CMD CALIBRATE starts a code-density calibration of both converters. -/
  | ticCalibrate (m : Master) (tic : Nat)
  /-- TIC_AUTO_CAL (R226): An idle TIC with AUTO set sees the temperature move beyond DTEMP and starts a calibration. -/
  | ticAutoCal (tic : Nat) (temp : Int)
  /-- TIC_CAL_DONE (R225): A calibration finishes, and its result is accepted or rejected by the checks. -/
  | ticCalDone (tic : Nat) (r0 : CalResult) (r1 : CalResult) (temp : Int)
  /-- TIC_DISABLE (R220): Clearing TIC PG_CTRL.EN aborts a measurement or calibration. -/
  | ticDisable (m : Master) (tic : Nat)
  /-- PAIR_RECAL (R227): The off-duty member of a converter pair recalibrates after 600 s, or after a 1 K temperature move. Operands: pairs 0 to 3 REF_IN, 4 to 7 PULSE_OUT, 8 + 2p and 9 + 2p the receive and transmit stamp points of port p, 56 + 2n and 57 + 2n those of DUGn, 60 the samples of GN. -/
  | pairRecal (pair : Nat) (r : CalResult) (temp : Int)
  /-- PAIR_SWAP (R227): An accepted off-duty member goes on duty at the next AXMARK. -/
  | pairSwap (pair : Nat) (tick : Nat)
  /-- GNSS_EPOCH (R236): At each measurement epoch GN stamps the sample edge, solves the time and runs the consistency checks. -/
  | gnssEpoch (e : GnssEpoch)
  /-- GNSS_SAMPLE_DELIVERY (R236): The navigation engine delivers the epoch's sample to RH. -/
  | gnssSampleDelivery
  /-- CHANNEL_ACQUIRED (R233): An acquisition dwell finds a signal and the channel starts tracking. Operands: `sig`: the signal, 0 to 8 in the order of R232; found `dop` Hz and `chips` chips from the middle of the search by `sums` non-coherent sums. -/
  | channelAcquired (ch : Nat) (sig : Nat) (sat : Nat) (dop : Int) (chips : Nat) (sums : Nat)
  /-- CHANNEL_LOCK_DROP (R235): C/N0 stays below 24 dB-Hz for 1 s, so the channel drops lock and starts a hot search. Operands: `cn0`: the greatest C/N0 of the last second, dB-Hz. -/
  | channelLockDrop (ch : Nat) (cn0 : Nat)
  /-- CHANNEL_SEARCH_WARM (R235): A hot search has run for 10 s, so the channel moves to a warm search. -/
  | channelSearchWarm (ch : Nat)
  /-- ENGINE (R240): The engine traps or delivers no epoch for 3 s: FAULT, line 10 and an automatic restart. -/
  | engine
  /-- SURVEY_DONE (R242): The survey meets TIME_S and SIGMA, so HOLD begins. Operands: `sigma`: 3D standard deviation of the surveyed mean, cm. -/
  | surveyDone (sigma : Nat)
  /-- JAM_SET (R252): In-band noise exceeds the baseline by RISE for 2 s, so JAM sets. -/
  | jamSet
  /-- JAM_CLEAR (R252): Both bands stay more than 2 dB below the threshold for 10 s, so JAM clears. -/
  | jamClear
  /-- ANT (R253): The antenna supply changes state among OK, OPEN, SHORT and EXTDC. Operands: bias current in mA, land voltage in 0.1 V, and whether the current has been at its limit for 1 ms (or below 5 mA for 1 s). -/
  | ant (ma : Nat) (dv : Nat) (limit : Bool)
  /-- ANT_BIAS_RETRY (R253): Each second in SHORT, the full bias is retried. -/
  | antBiasRetry
  /-- COLD_START (R255): GNS.CMD COLD_START discards almanac, ephemeris and position and starts a cold search. -/
  | coldStart (m : Master)
  /-- CLEAR_SUSPECT (R251): GNS.CMD CLEAR_SUSPECT clears SUSPECT at the next epoch. -/
  | clearSuspect (m : Master)
  /-- RESURVEY (R242): GNS.CMD RESURVEY restarts SURVEY from NO_FIX. -/
  | resurvey (m : Master)
  /-- CODE_OPEN (R241): GNS.CMD CODE_OPEN opens a code-load session on a shunted engine. -/
  | codeOpen (m : Master)
  /-- CODE_DATA_WRITE (R241): A write to GNS.CODE_DATA adds one code word to the open session. -/
  | codeDataWrite (m : Master) (w : Word)
  /-- CODE_CLOSE (R241): GNS.CMD CODE_CLOSE installs the loaded code and updates GNS.CODE_HASH. -/
  | codeClose (m : Master)
  /-- GNSS_DISABLE (R254): Clearing GNS.PG_CTRL.EN lets the current dwells finish, starts no more and drops the epoch in progress. -/
  | gnssDisable (m : Master)
  /-- FRAME_RECEIVE (R279): A frame arrives at a port, is stamped and filtered, and is counted and passed to PARSE or discarded. Operands: stamp of the timestamp point at the land, the frame, whether its FCS or a code inside it is wrong, whether it meets a full ingress FIFO, and code errors, corrected and uncorrectable codewords counted since the frame before. -/
  | frameReceive (port : Nat) (st : Stamp) (f : Frame) (bad : Bool) (full : Bool) (codes : Nat) (corr : Nat) (uncorr : Nat)
  /-- LINK_LOSS (R284): A loss takes a port to DOWN: the frame in transmission is aborted, the queues are flushed and departures are discarded. Operands: `why`: 0 signal, 1 PCS lock, 2 FEC lock, 3 local fault, 4 remote fault, 5 retrain; `cut`: the frame whose sending it cuts short. -/
  | linkLoss (port : Nat) (why : Nat) (cut : Option TxRef)
  /-- LINK_LOCK (R283): PCS, FEC and training are locked with no fault, so the port enters HOLD. -/
  | linkLock (port : Nat)
  /-- LINK_HOLD_EXPIRY (R283): LINK_HOLD passes without a loss, so the port enters UP. Operands: `ms`: for how long the port has been in HOLD. -/
  | linkHoldExpiry (port : Nat) (ms : Nat)
  /-- PORT_DISABLE (R285): Clearing PRT.PG_CTRL.EN completes the frame in transmission, flushes the queues and squelches the transmitter. Operands: `sending`: a frame is in transmission. -/
  | portDisable (m : Master) (port : Nat) (sending : Bool)
  /-- MODULE_RESET_RELEASE (R286): From ROLLING entry, Pn_RST_N is released port by port, 2 ms apart. -/
  | moduleResetRelease (port : Nat)
  /-- MODULE_RST_WRITE (R286): A write to PRT.MODULE.RST drives Pn_RST_N low or releases it. -/
  | moduleRstWrite (m : Master) (port : Nat) (rst : Bool)
  /-- MOD_PRESENT (R286): Pn_PRS_N changes after its 10 ms debounce, and a transaction in progress ends NOMOD on removal. -/
  | modPresent (port : Nat) (present : Bool)
  /-- MOD_INT (R286): Pn_INT_N changes level and MODULE.INT follows. -/
  | modInt (port : Nat) (low : Bool)
  /-- I2C_READ (R286): PRT.I2C_CMD READ queues a read of 1 to 4 bytes on the coach's bus. -/
  | i2cRead (m : Master) (port : Nat) (len : Nat) (offset : Nat) (dev : Nat)
  /-- I2C_WRITE (R286): PRT.I2C_CMD WRITE queues a write of 1 to 4 bytes on the coach's bus. -/
  | i2cWrite (m : Master) (port : Nat) (len : Nat) (offset : Nat) (dev : Nat)
  /-- RESTART_BUS (R286): PRT.I2C_CMD RESTART_BUS clears STUCK on the bus. -/
  | restartBus (m : Master) (port : Nat)
  /-- I2C_DONE (R286): A cage transaction completes with DONE, NACK, NOMOD or BUS. Operands: whether the module acknowledged, and the bytes read. -/
  | i2cDone (coach : Nat) (ack : Bool) (data : Nat)
  /-- I2C_STUCK (R42): SDA stays low for 25 ms: nine SCL pulses and a STOP are sent, and the bus is marked STUCK if that fails. Operands: `freed`: nine pulses and a STOP free the bus. -/
  | i2cStuck (coach : Nat) (freed : Bool)
  /-- GEAR_WINDOW (R287): At the end of each 256 ns window the coach's demand is judged against the gear thresholds. -/
  | gearWindow (coach : Nat)
  /-- FRAME_ADMISSION (R304): At the first cell, a frame gets its destination set and class, and each queue admits or refuses a copy. Operands: the coach whose next frame reaches the switch, and the slot of the fabric, counted from the release of SW (R296). -/
  | frameAdmission (coach : Nat) (slot : Nat)
  /-- CELL_ARRIVAL (R298): A cell reaches the resequencer at its egress output and is joined to its frame. Operands: fabric output and slot; `ecc`: 0 none, 1 corrected, 2 uncorrectable. -/
  | cellArrival (output : Nat) (slot : Nat) (ecc : Nat)
  /-- FRAME_RELEASE (R298): All cells of a frame are present and earlier frames are done, so it is released to its egress queue, or discarded for ST 1 or 2. Operands: as CELL_ARRIVAL. -/
  | frameRelease (output : Nat) (input : Nat) (fid : Nat)
  /-- RESEQ_SKIP (R300): An awaited FSEQ has no cell for RESEQ_TMO, so that frame is skipped. Operands: `us`: for how long the output has awaited the FSEQ. -/
  | reseqSkip (output : Nat) (input : Nat) (cls : Nat) (us : Nat)
  /-- SPILL_REISSUE (R307): DRAM re-issues a queue's oldest spilled frame once room and order permit. Operands: destination 0 to 23 or 24 for the host, class, slot of the fabric, and whether the spilled cells meet an uncorrectable error. -/
  | spillReissue (dst : Nat) (cls : Nat) (slot : Nat) (ecc : Bool)
  /-- AGED (R310): A copy older than MAX_AGE is discarded when its queue reaches it. -/
  | aged (dst : Nat) (cls : Nat)
  /-- FDB_AGE_SWEEP (R302): Once a second, learned entries not refreshed for FDB_AGE are removed. -/
  | fdbAgeSweep
  /-- ADD_STATIC (R303): SWF.FDB_CMD ADD_STATIC writes a static forwarding entry. -/
  | addStatic (m : Master)
  /-- FDB_DELETE (R303): SWF.FDB_CMD DELETE removes the entry for the address. -/
  | fdbDelete (m : Master)
  /-- FDB_READ (R303): SWF.FDB_CMD READ returns the entry in FDB_DEST. -/
  | fdbRead (m : Master)
  /-- FLUSH_LEARNED (R303): SWF.FDB_CMD FLUSH_LEARNED removes every learned entry. -/
  | flushLearned (m : Master)
  /-- FLUSH_PORT (R303): SWF.FDB_CMD FLUSH_PORT removes the learned entries of the named ports. -/
  | flushPort (m : Master)
  /-- SWITCH_DISABLE (R311): Clearing SWF.PG_CTRL.EN completes frames past their point of no return and discards the rest. Operands: the slot of the fabric. -/
  | switchDisable (m : Master) (slot : Nat)
  /-- FRAME_TRANSMIT (R331): The egress scheduler starts an ordinary frame that fits outside every reservation and sends it. Operands: egress queue, SRAM errors in its cells (0 none, 1 corrected, 2 uncorrectable), and the instant at which the timestamp point passes the land. -/
  | frameTransmit (port : Nat) (cls : Nat) (ecc : Nat) (st : Stamp)
  /-- DRAM_TRANSFER_ERROR (R314): A DRAM transfer fails its CRC and is retried, and a fifth failure or an ECC error is uncorrectable and raises line 18. Operands: CRC failures in a row, ECC errors (1 corrected, 2 uncorrectable), and the spilled frame of the transfer. -/
  | dramTransferError (fails : Nat) (ecc : Nat) (spill : Option (Nat × Nat))
  /-- THROTTLE (R314): The stack temperature crosses 85 °C and the refresh rate doubles or returns to normal. Operands: stack temperature in 2^-10 °C, and the bandwidth used over the last 1 ms. -/
  | throttle (temp : Int) (load : Nat)
  /-- CARRIAGE_PARSE (R322): PARSE checks a received frame at its end, and CLASS sets the VERDICT and drops carriages it may not serve. -/
  | carriageParse (coach : Nat) (cid : Nat)
  /-- UPSTREAM_ANNOUNCE_TIMEOUT (R340): The announceReceiptTimeout of the chosen master expires. -/
  | upstreamAnnounceTimeout (port : Nat) (tick : Nat)
  /-- LOOKUP_DONE (R326): LOOKUP obtains the client entry and the rate bucket, waiting for DRAM on a miss, and writes CLIENT and RATE_ACT. Operands: `hit`: the client entry is in the cache; `ecc`: its read meets an uncorrectable error. -/
  | lookupDone (coach : Nat) (cid : Nat) (hit : Bool) (ecc : Bool)
  /-- VERIFY_DONE (R328): The crypto lane finishes checking the ICV or opening the cookie, and the key version is pinned. Operands: `disagree`: the lane check path disagrees. -/
  | verifyDone (coach : Nat) (cid : Nat) (disagree : Bool)
  /-- COMPOSE (R330): COMPOSE builds the answer, chooses and reserves DEPART and writes the time fields. -/
  | composeCarriage (coach : Nat) (cid : Nat) (tick : Nat)
  /-- SIGN_QUEUE_ADMIT (R332): A carriage waiting in COMPOSE enters its lane's SIGN queue once room allows. -/
  | signQueueAdmit (coach : Nat) (cid : Nat)
  /-- SIGN_DONE (R322): The lane completes the ICV or AEAD over the message. Operands: as VERIFY_DONE. -/
  | signDone (coach : Nat) (cid : Nat) (disagree : Bool)
  /-- SEAL_SETUP_CHECK (R333): At DEPART − SEAL.SETUP, SEAL drops a carriage that is not signed as LATE. -/
  | sealSetupCheck (coach : Nat) (cid : Nat) (tick : Nat)
  /-- LAUNCH (R334): At the start of its reservation the frame is launched at DEPART, or the launch is refused. Operands: `st`: the egress stamp of a two-step Sync. -/
  | launch (coach : Nat) (cid : Nat) (tick : Nat) (st : Stamp)
  /-- MULTICAST_TIMER (R365): An on-chip timer creates a multicast Announce or Sync, or a client-path Delay_Req. Operands: `kind`: 0 multicast Announce, 1 multicast Sync, 2 client-path Delay_Req. -/
  | multicastTimer (port : Nat) (kind : Nat) (tick : Nat)
  /-- COACH_DISABLE (R346): Clearing CO.PG_CTRL.EN drops carriages before their point of no return and lets the others complete. -/
  | coachDisable (m : Master) (coach : Nat)
  /-- DRAINED (R88): The last work of a disabled page drains, so PG_STAT.BUSY clears. Operands: page number. -/
  | drained (page : Nat)
  /-- WHEEL_SLOT (R363): At the start of each 2^-10 s slot the timetable stage reads the slot head. Operands: `ecc`: the slot head meets an uncorrectable error. -/
  | wheelSlot (coach : Nat) (tick : Nat) (ecc : Bool)
  /-- WHEEL_VISIT (R363): The stage visits a record, creating a timetable carriage, freeing the record or moving it on. Operands: `ecc`: 0 none; 1 the client entry, 2 the record meets an uncorrectable error. -/
  | wheelVisit (coach : Nat) (tick : Nat) (ecc : Nat)
  /-- GRANT_EXPIRY (R359): A grant reaches its END second and ends, and the entry becomes DRAINING if that was its last grant. Operands: entry number and messageType of the grant. -/
  | grantExpiry (client : Nat) (mtype : Nat)
  /-- ENTRY_FREE (R355): An entry that has been DRAINING for 17 s is unlinked and returned to the free list. -/
  | entryFree (client : Nat)
  /-- CLIENT_SCRUB (R360): The scrub visits entries at 64 per second and rewrites a LAST_DREQ that is too old. -/
  | clientScrub
  /-- CLT_ADD (R361): CLT.CMD ADD creates an ACTIVE entry from the window. -/
  | cltAdd (m : Master)
  /-- CLT_DELETE (R361): CLT.CMD DELETE makes the entry DRAINING without sending a CANCEL. -/
  | cltDelete (m : Master)
  /-- CLT_READ (R361): CLT.CMD READ copies the entry to the window. -/
  | cltRead (m : Master)
  /-- CLT_FIND (R361): CLT.CMD FIND looks up the key held in the window. -/
  | cltFind (m : Master)
  /-- CLT_CANCEL (R361): CLT.CMD CANCEL sends the client CANCEL TLVs and clears its grants. -/
  | cltCancel (m : Master)
  /-- CLT_WRITE (R361): CLT.CMD WRITE replaces the entry's fields. -/
  | cltWrite (m : Master)
  /-- REBUILD (R366): TTB.CMD REBUILD, or the automatic rebuild after a loss, empties and rebuilds a wheel. Operands: TTB.CMD.COACH. -/
  | rebuild (m : Master) (coach : Nat)
  /-- REBUILD_DONE (R366): A wheel rebuild completes. -/
  | rebuildDone (coach : Nat)
  /-- LCY_CONFIRM (R375): A write to LCY.CONFIRM arms or confirms the admission of one life-cycle command. Operands: the word written, and the MGT microsecond. -/
  | lcyConfirm (m : Master) (w : Word) (us : Nat)
  /-- PROVISION (R373): LCY.CMD PROVISION moves MANUFACTURE to PROVISIONED, draws OWNER_ROOT and fixes the attestation mode. Operands: LCY.CMD.ATT_MODE, ATT_SLOT, and the MGT microsecond. -/
  | lcyProvision (m : Master) (mode : Nat) (slot : Nat) (us : Nat)
  /-- DEPLOY (R373): LCY.CMD DEPLOY moves PROVISIONED to DEPLOYED and locks TMP.POLICY. -/
  | lcyDeploy (m : Master) (us : Nat)
  /-- RETURN (R373): LCY.CMD RETURN moves the device to RETURNED and zeroizes the slots. -/
  | lcyReturn (m : Master) (us : Nat)
  /-- DISABLE (R373): LCY.CMD DISABLE moves the device to DISABLED and erases OWNER_ROOT. -/
  | lcyDisable (m : Master) (us : Nat)
  /-- LCY_CHANGE_DONE (R374): The LCY record commits and the fuse is programmed, so the state change completes. Operands: `ok`: the LCY record commits. -/
  | lcyChangeDone (ok : Bool)
  /-- CREATE (R380): KEY.CMD CREATE gives an EMPTY slot its attributes. -/
  | keyCreate (m : Master)
  /-- GENERATE (R380): KEY.CMD GENERATE writes a PENDING version by HKDF with a DRBG salt. -/
  | keyGenerate (m : Master)
  /-- DERIVE (R380): KEY.CMD DERIVE writes a PENDING version from a WRAP slot or the root and a label. Operands: KEY.CMD.SRC. -/
  | keyDerive (m : Master) (src : Nat)
  /-- IMPORT (R380): KEY.CMD IMPORT writes a PENDING version from plaintext. -/
  | keyImport (m : Master)
  /-- UNWRAP (R380): KEY.CMD UNWRAP writes a PENDING version from wrapped bytes. Operands: KEY.CMD.SRC. -/
  | keyUnwrap (m : Master) (src : Nat)
  /-- KEY_VERIFY (R381): KEY.CMD VERIFY computes the KCV on two engines and marks the PENDING version VERIFIED. Operands: KEY.CMD.CHECK, and whether the two engines agree. -/
  | keyVerify (m : Master) (check : Bool) (agree : Bool)
  /-- COMMIT (R382): KEY.CMD COMMIT writes the KEY record and delivers the version to the coaches and the engine. Operands: `nvOk`: the KEY record commits; `ack`: ticks from the last AXMARK to the last acknowledgement. -/
  | keyCommit (m : Master) (nvOk : Bool) (ack : Nat)
  /-- ACTIVATED (R382): At the AXMARK after the acknowledgement, the version becomes ACTIVE and the old one RETIRING. -/
  | activated
  /-- DISCARD (R380): KEY.CMD DISCARD removes the PENDING version. -/
  | keyDiscard (m : Master)
  /-- REVOKE (R380): KEY.CMD REVOKE ends the RETIRING grace at the next AXMARK. -/
  | keyRevoke (m : Master)
  /-- ERASE (R384): KEY.CMD ERASE puts the slot into ERASING at the next AXMARK. Operands: `nvOk`: the ERASE record commits. -/
  | keyErase (m : Master) (nvOk : Bool)
  /-- KEY_ERASE_DONE (R384): No version of an erasing slot remains, so the slot becomes EMPTY. -/
  | keyEraseDone (slot : Nat)
  /-- MINT (R390): KEY.CMD MINT makes 1 to 8 initial NTS cookies. -/
  | keyMint (m : Master)
  /-- RELOAD (R394): KEY.CMD RELOAD reloads every slot from the key store once the tamper latch is clear. -/
  | keyReload (m : Master)
  /-- KEY_DATA_ACCESS (R380): An access to KEY.DATA moves a buffer word and advances KEY.DATA_IDX. Operands: the word written, none for a read. -/
  | keyDataAccess (m : Master) (w : Option Word)
  /-- KEY_PIN (R383): A coach's pin message increments a version's pin count. -/
  | keyPin (coach : Nat)
  /-- KEY_RELEASE (R383): A coach's release message decrements a version's pin count. -/
  | keyRelease (coach : Nat)
  /-- KEY_GRACE_END (R383): A RETIRING version's grace ends and it becomes DRAINING if pins remain. -/
  | keyGraceEnd (slot : Nat)
  /-- FREED (R383): At the first AXMARK with grace ended and no pins, the version is freed. -/
  | freed (slot : Nat)
  /-- DRBG_RESEED (R372): The DRBG reseeds from the entropy source after 2^20 requests. -/
  | drbgReseed
  /-- KEY_STORE_COMPACT (R385): When the key store half in use is full, the newest records are copied to the other half and the full half is erased. -/
  | keyStoreCompact
  /-- KEY_MEMORY_ERROR (R399): An uncorrectable KV key memory error zeroizes the slot and raises line 19. -/
  | keyMemoryError (slot : Nat)
  /-- TAMPER_ALARM (R392): A tamper sensor alarms: KV is zeroized, TMP.LATCH sets, line 20 rises and authenticated service stops. Operands: sensor of R391. -/
  | tamperAlarm (sensor : Nat)
  /-- TMP_LATCH_CLEAR (R394): A write of 1 to TMP.LATCH clears the bits whose sensors are no longer active. Operands: the word written. -/
  | tmpLatchClear (m : Master) (w : Word)
  /-- TMP_POLICY_WRITE (R395): A TMP.POLICY write in PROVISIONED is saved as an LCY record, and is otherwise refused. Operands: the word written; `ok`: the LCY record commits. -/
  | tmpPolicyWrite (m : Master) (w : Word) (ok : Bool)
  /-- STATEMENT (R396): ATT.CMD STATEMENT builds and signs or MACs the attestation statement. -/
  | statement (m : Master)
  /-- GEN_HASH (R398): After a commit the configuration-generation hash completes and GEN_HASH_OK sets. -/
  | genHash
  /-- GEN_PREPARE (R406): GEN.CMD PREPARE schedules a commit at T, and each participant copies its shadows into staging. Operands: the command reaches MGT at `tick`. -/
  | genPrepare (m : Master) (tick : Nat)
  /-- GEN_CANCEL (R407): GEN.CMD CANCEL acts as a missing report before D, or completes LATE. -/
  | genCancel (m : Master)
  /-- PREPARED_REPORT (R406): A participant reports PREPARED to MGT. -/
  | preparedReport (island : Nat)
  /-- GEN_DECISION (R407): At D, MGT announces the generation or cancels it with its laggards. -/
  | genDecision
  /-- APPLIED_REPORT (R408): A participant reports APPLIED after the commit. -/
  | appliedReport (island : Nat)
  /-- APPLIED_TIMEOUT (R408): At T + 1 ms any participant without APPLIED is fenced. Operands: frames in transmission on the ports of coaches that are fenced, by port. -/
  | appliedTimeout (cuts : List (Nat × TxRef))
  /-- UNFENCED (R409): At the first AXMARK after a fenced island reports APPLIED, its fence lifts. -/
  | unfenced
  /-- MIGRATION_START (R410): At the AXMARK after the command, the old placement stops taking new carriages. -/
  | migrationStart (lane : Nat)
  /-- MIGRATION_FENCE_FIXED (R411): F is fixed when the last old-placement carriage passes COMPOSE or at Tm + 10 µs. Operands: the tick of the lane's coach. -/
  | migrationFenceFixed (lane : Nat) (tick : Nat)
  /-- MIGRATION_FENCE (R411): At F the old lane's epoch increments and the PLACE rewrite begins. -/
  | migrationFence (lane : Nat) (tick : Nat)
  /-- MIGRATED (R412): The PLACE rewrite completes and SHNT.MIGRATIONS increments. -/
  | migrated (lane : Nat)
  /-- SHUNT (R413): SHNT.CMD SHUNT takes a unit of the named kind out of service. -/
  | shuntCmd (m : Master) (kind : Nat) (index : Nat)
  /-- SHNT_RETURN (R413): SHNT.CMD RETURN runs a shunted or fenced unit's return path. -/
  | shntReturn (m : Master) (kind : Nat) (index : Nat)
  /-- MIGRATE (R413): SHNT.CMD MIGRATE moves a lane's clients to lane TO while the lane stays IN. -/
  | migrateCmd (m : Master) (kind : Nat) (index : Nat) (dest : Nat)
  /-- SHUNT_RETURN_DONE (R413): A unit's shunt entry or return completes, including the known-answer tests of a lane. Operands: known-answer tests of a lane; calibrations of a coach's pairs, two for each in pair order, with their temperature; frames in transmission on the ports of a coach that enters its shunt. -/
  | shuntReturnDone (kind : Nat) (index : Nat) (ok : Bool) (cals : List CalResult) (temp : Int) (cuts : List (Nat × TxRef))
  /-- PROVE_START (R414): At PROVE.AT, or after RUN_NOW, a proving run starts or is skipped. -/
  | proveStart
  /-- RUN_NOW (R414): PROVE.CMD RUN_NOW requests a run at the next second mark. -/
  | runNow (m : Master)
  /-- PROVE_STOP (R418): PROVE.CMD STOP aborts the run and returns the unit under test. -/
  | proveStop (m : Master)
  /-- PROVE_UNIT_DONE (R415): A unit's proving test completes with a pass or a fail and the run moves on. Operands: kind as PROVE.STATUS.KIND; the two calibrations of a TIC with their temperature. -/
  | proveUnitDone (kind : Nat) (unit : Nat) (pass : Bool) (cals : List CalResult) (temp : Int)
  /-- PROVE_WINDOW_END (R418): PROVE.WINDOW ends and aborts the run. -/
  | proveWindowEnd
  /-- TT_SEND (R425): At AXMARK + 500 µs a TT frame is sent one-step on lane 0. -/
  | ttSend
  /-- TT_RECEIVE (R426): A TT frame arrives and yields θ and D for the peer. Operands: `link`: 0 DUG0, 1 DUG1; `st`: the stamp of its arrival. -/
  | ttReceive (link : Nat) (f : DugFrame) (st : Stamp)
  /-- RENEW_SEND (R429): The holder sends RENEW with a new lease end every RENEW_MS. -/
  | renewSend (tick : Nat)
  /-- RENEW_RECEIVE (R429): A member receives RENEW and answers with ACK. -/
  | renewReceive (link : Nat) (f : DugFrame) (tick : Nat)
  /-- ACK_RECEIVE (R429): An ACK completes the quorum and moves E_in forward. -/
  | ackReceive (link : Nat) (f : DugFrame)
  /-- LEASE_STOP (R431): At S = E_in − guard without renewal, the holder stops serving. -/
  | leaseStop (tick : Nat)
  /-- CLAIM_START (R432): A standby passes E_in + guard and sends CLAIM. -/
  | claimStart (tick : Nat)
  /-- CLAIM_RECEIVE (R432): A member answers a CLAIM with a REPLY verdict. -/
  | claimReceive (link : Nat) (f : DugFrame) (tick : Nat)
  /-- REPLY_RECEIVE (R432): A claimant gathers grants and becomes HOLDER when its quorum is complete. -/
  | replyReceive (link : Nat) (f : DugFrame) (tick : Nat)
  /-- CLAIM_TIMEOUT (R432): No quorum arrives within 1 ms, so the claimant returns to STANDBY or ISOLATED. -/
  | claimTimeout (tick : Nat)
  /-- HANDOVER (R439): DUG.CMD HANDOVER sends HANDOVER and stops renewing. Operands: `dest`: the TO field. -/
  | handover (m : Master) (dest : Nat) (tick : Nat)
  /-- HANDOVER_RECEIVE (R439): The target receives HANDOVER with E_H. -/
  | handoverReceive (link : Nat) (f : DugFrame)
  /-- HANDOVER_TAKE (R439): At E_H + guard the target becomes HOLDER. -/
  | handoverTake (tick : Nat)
  /-- HANDOVER_TIMEOUT (R439): No RENEW has arrived by E_H + 5 ms, so the ordinary claim follows. -/
  | handoverTimeout (tick : Nat)
  /-- SEL_FRAME_RECEIVE (R435): A follower applies the holder's SEL frame and submits its steps and loads. -/
  | selFrameReceive (link : Nat) (f : DugFrame)
  /-- LEAP_FRAME_RECEIVE (R435): A follower applies a LEAP frame as the host writes of R127 and R128 would. -/
  | leapFrameReceive (link : Nat) (f : DugFrame)
  /-- LEAP_FRAME_SEND (R425): The holder sends LEAP on each change and every 1 s. -/
  | leapFrameSend
  /-- CLIENT_FRAME_RECEIVE (R437): A follower applies a mirrored client entry by key. -/
  | clientFrameReceive (link : Nat) (f : DugFrame)
  /-- SWEEP_RECEIVE (R437): A follower receives a SWEEP frame and, at the end frame, frees entries not swept. -/
  | sweepReceive (link : Nat) (f : DugFrame) (tick : Nat)
  /-- SWEEP_SEND (R437): Every SWEEP_S seconds the holder sends its whole client table. -/
  | sweepSend
  /-- HB_LOST (R428): Heartbeat on a port is lost by loss of signal or lock, or after HB_TMO without a valid frame. -/
  | hbLost (link : Nat) (tick : Nat)
  /-- HEARTBEAT_RETURN (R428): Heartbeat returns at the first valid TT after 10 ms of lane lock. -/
  | heartbeatReturn (link : Nat) (tick : Nat)
  /-- DUG_LINK_DOWN_TIMER (R441): A configured link that has been down for 1 s raises line 27. -/
  | dugLinkDownTimer (link : Nat)
  /-- SLEEP (R440): DUG.CMD SLEEP puts a standby into the cold-spare state. -/
  | sleep (m : Master)
  /-- WAKE (R440): DUG.CMD WAKE restarts the held islands and enters WAKING. -/
  | wake (m : Master)
  /-- WAKE_DONE (R440): The woken ports enter LINK_HOLD and the device becomes STANDBY. Operands: two results for each pair of the ports, 8 to 55 in order, and the temperature of their calibration. -/
  | wakeDone (cals : List CalResult) (temp : Int)
  /-- FAULT_LINE_RISE (R446): AO latches a rising fault line, orders it into FIRST or MERGED, and applies its reaction. Operands: `lines`: the lines AO sees rising in one cycle, bit per line; `cuts`: frames in transmission, by port; `slot`: the slot of the switch fabric (R296). -/
  | faultLineRise (lines : Nat) (tick : Nat) (cuts : List (Nat × TxRef)) (slot : Nat)
  /-- FAULT_LINE_FALL (R446): A fault line falls, its fall instant is recorded and its DEGRADE penalty ends. -/
  | faultLineFall (line : Nat) (tick : Nat)
  /-- FLT_ACK (R448): FLT.CMD ACK clears FIRST.VALID and MERGED. -/
  | fltAck (m : Master)
  /-- FLT_RELEASE (R454): FLT.CMD RELEASE requests the end of a brake, or completes with a refusal status. -/
  | fltRelease (m : Master)
  /-- RELEASED (R454): At the next AXMARK the brake ends and the outputs start again. -/
  | released
  /-- FLT_LATCH_CLEAR (R448): A write of 1 to FLT.LATCH clears the bits of lines that are no longer present. -/
  | fltLatchClear (m : Master) (bits : Word)
  /-- FLT_SEV_WRITE (R456): A write to FLT.SEV_LO or SEV_HI changes the reactions from the write. Operands: `high`: FLT.SEV_HI; `cuts` and `slot` as for FAULT_LINE_RISE. -/
  | fltSevWrite (m : Master) (high : Bool) (v : Word) (cuts : List (Nat × TxRef)) (slot : Nat)
  /-- FLT_SOFT_WRITE (R457): A write to FLT.SOFT.RAISE raises or drops line 34. -/
  | fltSoftWrite (m : Master) (v : Word)
  /-- WDOG_KICK (R458): A write to FLT.WDOG restarts the watchdog period and drops line 35. -/
  | wdogKick (m : Master)
  /-- WDOG_CFG_WRITE (R458): A write to FLT.WDOG_CFG.PERIOD arms, disarms or restarts the watchdog. -/
  | wdogCfgWrite (m : Master) (v : Word)
  /-- WDOG_EXPIRY (R458): PERIOD passes without a kick, so line 35 rises. Operands: milliseconds since the period started. -/
  | wdogExpiry (ms : Nat)
  /-- INJ_SRAM_ECC (R459): FLT.INJ SRAM_ECC inverts check bits of the next buffer cell written. -/
  | injSramEcc (m : Master) (unit : Nat) (quiet : Bool)
  /-- INJ_COUPLE (R459): FLT.INJ COUPLE inverts parity on the next groups of a coupling. -/
  | injCouple (m : Master) (src : Nat) (dst : Nat) (count : Nat) (quiet : Bool)
  /-- INJ_DRAM_CRC (R459): FLT.INJ DRAM_CRC corrupts the next DRAM transfers. -/
  | injDramCrc (m : Master) (count : Nat) (quiet : Bool)
  /-- INJ_VOTE (R459): FLT.INJ VOTE corrupts a core's signature at the next update. -/
  | injVote (m : Master) (core : Nat) (quiet : Bool)
  /-- INJ_NVM_CRC (R459): FLT.INJ NVM_CRC corrupts the read-back of the next NVM record. -/
  | injNvmCrc (m : Master) (quiet : Bool)
  /-- INJ_DONE (R459): An injection completes DETECTED, or MISSED after 10 ms. Operands: `expired`: 10 ms have passed since the inverted transfer. -/
  | injDone (expired : Bool)
  /-- THM_SAMPLE (R506): Every millisecond AO reads the junction sensors and applies the alert, critical and tamper thresholds. Operands: the 16 junction sensors, 2^-10 degrees. -/
  | thmSample (temps : List Int)
  /-- REC_TRIGGER (R465): A recorder trigger reaches MGT and is queued, suppressed or lost. Operands: the oldest trigger in transit from `island` arrives; `us`: the MGT clock. -/
  | recTrigger (island : Nat) (us : Nat)
  /-- REC_RECORD_WRITE (R465): MGT takes a trigger from the queue, snapshots its registers and writes the ring record. -/
  | recRecordWrite
  /-- JOURNAL_BATCH_WRITE (R469): BATCH records are waiting, or the oldest is MAX_AGE old, so a journal batch is written. Operands: `ageMs`: the age of the oldest waiting record in milliseconds; `ecc`: record of the batch and word whose reading from the ring meets an uncorrectable error, and the word as read; `ok`: the batch is written and read back; `retryOk`: its second writing. -/
  | journalBatchWrite (ageMs : Nat) (ecc : Option (Nat × Nat × Word)) (ok : Bool) (retryOk : Bool)
  /-- FETCH (R472): REC.FETCH_CMD FETCH copies a journal record into the fetch buffer. -/
  | fetch (m : Master)
  /-- FETCH_DONE (R472): A fetch completes DONE, NOT_FOUND or CRC. -/
  | fetchDone
  /-- HOST_MARK (R466): A write to REC.HOST_MARK raises a HOST trigger. -/
  | hostMark (m : Master) (v : Word)
  /-- CODE_SEL_WRITE (R473): A write to REC.CODE_SEL loads the code's snapshot list into the staging list. -/
  | codeSelWrite (m : Master) (v : Word)
  /-- CODE_CFG_WRITE (R473): A write to REC.CODE_CFG commits the staging list and the bucket for the code. -/
  | codeCfgWrite (m : Master) (v : Word)
  /-- SPI_READ (R479): An SPI READ transaction issues a register read and returns its value after 0x5A. Operands: the address bytes received; the bytes of 0xFF before the value is ready; the bytes clocked after the address. -/
  | spiRead (addr : List Nat) (wait : Nat) (clocked : Nat) (tick : Nat)
  /-- SPI_WRITE (R479): An SPI WRITE takes effect at the rise of CS_N if it has ten bytes and a good CRC. Operands: all the bytes received, the command byte first. -/
  | spiWrite (bytes : List Nat) (a : Arrival)
  /-- SPI_STATUS (R478): An SPI STATUS transaction returns SPI.STATUS. Operands: the command byte, 0x05 or one that R478 does not define, and the bytes clocked after it. -/
  | spiStatus (cmd : Nat) (clocked : Nat)
  /-- FLR (R477): A Function Level Reset stops that PF's rings and resets its MSI-X table. -/
  | flr (pf : Nat)
  /-- PCIE_LINK_LOST (R477): The PCIe link is lost after training, so every ring stops and line 28 is raised. Operands: PCIe errors, correctable and uncorrectable, that the endpoint has detected with it. -/
  | pcieLinkLost (corr : Nat) (uncorr : Nat)
  /-- PCIE_LINK_UP (R475): The PCIe link trains and PCI.LINK.UP sets. Operands: lanes, and 1 to 5 for 2.5 GT/s to 32 GT/s. -/
  | pcieLinkUp (width : Nat) (speed : Nat)
  /-- DMA_TAIL_WRITE (R480): A write to DMA.TAIL hands descriptors to the device, or is ignored as BAD_TAIL. Operands: the word written. -/
  | dmaTailWrite (m : Master) (ring : Nat) (idx : Nat)
  /-- DMA_DESC_FETCH (R480): The device fetches the next descriptor of a ring. Operands: the slot of the switch fabric; the descriptor and, for a transmit descriptor, the frame that host memory holds. -/
  | dmaDescFetch (ring : Nat) (slot : Nat) (d : DmaDesc)
  /-- DMA_RX_FRAME (R482): A host-bound frame is written to a receive buffer and completed, or waits for a descriptor. Operands: the host queue by class. -/
  | dmaRxFrame (cls : Nat)
  /-- DMA_TX_COMPLETE (R484): A transmit descriptor completes with its status. -/
  | dmaTxComplete (ring : Nat)
  /-- DMA_STAMP_TIMEOUT (R484): No stamp arrives 10 ms after launch, so the descriptor completes STAMP_LOST. Operands: milliseconds since the launch. -/
  | dmaStampTimeout (ring : Nat) (idx : Nat) (ms : Nat)
  /-- RING_ERR (R485): A host access fails, so the ring stops with HOST_ERR. Operands: PCIe errors, correctable and uncorrectable, that the endpoint has detected with it. -/
  | ringErr (ring : Nat) (corr : Nat) (uncorr : Nat)
  /-- DMA_MOD_TIMER (R486): Completions have been waiting for MOD.TIME, so DQ_PEND sets. Operands: microseconds since the later of the first completion between SEEN and DONE and the last clearing of the bit. -/
  | dmaModTimer (ring : Nat) (us : Nat)
  /-- DQ_PEND_CLEAR (R486): A W1C write to DMA.DQ_PEND clears the bit. Operands: the word written. -/
  | dqPendClear (m : Master) (v : Word)
  /-- DMA_RING_ENABLE (R490): A write to DMA.CFG.EN enables a ring and zeroes its indices, or disables it. Operands: the word written to DMA.CFGq. -/
  | dmaRingEnable (m : Master) (ring : Nat) (w : Word)
  /-- DMA_DISABLE (R487): Clearing DMA.PG_CTRL.EN stops every ring. -/
  | dmaDisable (m : Master)
  /-- EXPERT_KEY_WRITE (R90): A write to GLB.EXPERT_KEY arms, opens or closes the writing master's expert window. Operands: `sinceArm`: microseconds since the master armed its window. -/
  | expertKeyWrite (m : Master) (v : Word) (sinceArm : Nat)
  /-- EXPERT_WINDOW_TIMEOUT (R91): TIMEOUT seconds pass without an effective expert write, so the window closes. -/
  | expertWindowTimeout (m : Master)
  /-- VECTOR_ACK (R105): A write of 1 to EVT.VEC_ACK resends the vector's MSI-X message if its level is 1. -/
  | vectorAck (m : Master) (v : Word)
  /-- MSIX_UNMASK (R105): Unmasking a vector sends its pending message. Operands: the mask bit of the entry after the write. -/
  | msixUnmask (pf : Nat) (vec : Nat) (masked : Bool)
  /-- PG_EVT_CLEAR (R87): A W1C write to PG_EVT clears latched events, unless their condition persists. Operands: `same`: the bits whose event has occurred in the cycle of the write. -/
  | pgEvtClear (m : Master) (page : Nat) (v : Word) (same : Nat)
  /-- RS_LEAD_READ (R95): A read of an RS group's lead snapshots every member for the reading master. Operands: as T108_READ_SNAPSHOT. -/
  | rsLeadRead (m : Master) (slot : Nat) (tick : Nat)
  /-- T108_READ_SNAPSHOT (R3): A read of the lowest slot of a T108 or S72 register snapshots its other slots for the master. Operands: a read of `slot` at `tick`. -/
  | t108ReadSnapshot (m : Master) (slot : Nat) (tick : Nat)
  /-- T108_COMMIT_WRITE (R3): A write to the highest slot commits a multi-word time value with the master's staged words. Operands: `slot`: the highest slot of the register; `a`: the instant of the write. -/
  | t108CommitWrite (m : Master) (slot : Nat) (v : Word) (a : Arrival)
  /-- SHADOW_WRITE (R96): A write to an RWS register changes its shadow. -/
  | shadowWrite (m : Master) (slot : Nat) (v : Word)
  /-- WIDTH_ACCESS (R84): A 32-bit access is refused and raises ACCESS_ERR with cause WIDTH. -/
  | widthAccess (m : Master) (write : Bool) (slot : Nat)
  /-- REGISTER_WRITE (R85): A write to a register without its own row takes effect in the master's order. -/
  | registerWrite (m : Master) (slot : Nat) (v : Word) (a : Arrival)
  /-- JTAG_PIN_INSTRUCTION (R52): A pin-taking boundary-scan instruction takes the pins, or acts as BYPASS with JTAG_REFUSED. Operands: `pin`: the instruction loaded. -/
  | jtagPinInstruction (pin : PinInstr)
  /-- JTAG_PRIVATE_INSTRUCTION (R53): A Gorzitex private test instruction acts only in MANUFACTURE and RETURNED. -/
  | jtagPrivateInstruction
  /-- JTAG_INSTRUCTION_EXIT (R59): The TAP leaves a pin-taking instruction and the start sequence continues. -/
  | jtagInstructionExit
  /-- TMP_NOW_CLEAR (R394): A tamper sensor's alarm condition ends, so its TMP.NOW bit and the level event ACTIVE fall and its latch bit becomes clearable. -/
  | tmpNowClear (sensor : Nat)
  /-- LANE_LOCK_CHANGE (R443): A Dugil lane gains or loses PCS lock, updating DUG.PEER_STAT LANE0_UP or LANE1_UP and raising DUG event LINK. -/
  | laneLockChange (link : Nat) (lane : Nat) (locked : Bool) (tick : Nat)
  /-- BYPASS_SYNTH_RELOCK (R197): The bypass synthesiser regains lock, so outputs may enter bypass again and fault line 7 for that loss ends. -/
  | bypassSynthRelock
  /-- PLL_LOCK_HELD (R196): A PLL has stayed LOCKED for 1 s, so the attempt counts as a success and PLL.STATUS.TRIES clears. -/
  | pllLockHeld (pll : Nat)
  deriving DecidableEq, Repr

end Sys2Proof
end

