-- ==== Sys2Proof/Decode.lean ====
section
/-! DEFINITION.
The words of commands.  spec/opcode_table.json gives no row any bits: the device takes register accesses, pins, frames and timers as they come, and no
word of bits spells a command (log entry 1).
-/
namespace Sys2Proof

/-- No row of the table has bits, so no word decodes. -/
def decodeTableWord (_nbits _w : Nat) : Option Instr := none

end Sys2Proof
end

