-- ==== Sys2Proof/Config.lean ====
section
/-! DEFINITION.
What the spec leaves open, as constants without a body: no statement can rest on a value of theirs.
-/
namespace Sys2Proof.Config
open Sys2Proof

/-- The free value with number `n` (log entry 3): a value that the spec leaves open. -/
opaque free : Nat → Nat

/-- Whether a quotient that is not a whole number is rounded up, where the spec does not say how it is rounded (log entry 5). -/
opaque roundUp : Int → Nat → Bool

/-- SHA-384 over a list of words, each as five bytes (R68, R70), as a number of 384 bits (log entry 6). -/
opaque sha384 : List Word → Nat

/-- The change of the EFC code that the cell's proportional-integral loop asks for, from the measurements, the time constant and the code (R113; log entry 20). -/
opaque cellLoop : List Int → Nat → Nat → Int

/-- The delay, in ps, from the reference point of a TIC source to the converter of the channel, as measured in the factory (R222): TIC, channel,
source (log entry 25). -/
opaque ticPath : Nat → Nat → Nat → Nat

/-- The delay, in 2^-48 ns, from an instant to the first point of a port's launch grid at or after it, by the port's mode (R330; log entry 27). -/
opaque gridDelay : Nat → Nat → Int → Nat

/-- The hash of a source address behind SRCH (R321; log entry 28). -/
opaque srcHash : Nat → BitVec 32

/-- The hash set of an address in the forwarding table (R302; log entry 28). -/
opaque fdbSet : Nat → BitVec 14

/-- The 16-byte ICV of a PTP message: algorithm (R377), key, and the message's fields in order (R339; log entry 6). -/
opaque ptpIcv : Nat → Nat → List Int → Nat

/-- AEAD_AES_SIV_CMAC_256 (RFC 5297): key, associated data, plaintext; the synthetic IV and the ciphertext (R388; log entry 6). -/
opaque sivSeal : Nat → List (List Nat) → List Nat → List Nat

/-- The plaintext of a sealed text that authenticates (log entry 6). -/
opaque sivOpen : Nat → List (List Nat) → List Nat → Option (List Nat)

/-- HKDF-SHA-384 (R376): input key, salt, info string, length in bytes (log entry 6). -/
opaque hkdf : Nat → Nat → List Nat → Nat → Nat

/-- HMAC-SHA-384 (R381, R396): key, message; 384 bits (log entry 6). -/
opaque hmac384 : Nat → List Nat → Nat

/-- AES-256 key wrap with padding (RFC 5649): wrapping key, key, its length in bytes; the wrapped bytes as a number (R385; log entry 6). -/
opaque keyWrap : Nat → Nat → Nat → Nat

/-- The key and its length that wrapped bytes hold, if they unwrap: wrapping key, bytes (log entry 6). -/
opaque keyUnwrap : Nat → List Nat → Option (Nat × Nat)

/-- ECDSA P-384 with SHA-384 (R396): private key, message bytes; r and s (log entry 6). -/
opaque ecdsa : Nat → List Nat → Nat × Nat

/-- The public key of an identity key, X then Y (R396; log entry 6). -/
opaque pubKey : Nat → Nat × Nat

/-- The secrets programmed at manufacture and the serial number (R372, R400; log entry 29). -/
opaque testRoot : Nat
opaque devRoot : Nat
opaque rmaRoot : Nat
opaque serial : BitVec 64

/-- What a FREQ input's prescaler divides by beyond the least factor that keeps the edge rate at 25 MHz or below (R142; log entry 40). -/
opaque prescale : Nat → Nat

/-- The delay of the GNSS front end from the land to its converter, in ps, as measured in the factory (R236; log entry 25). -/
opaque gnssPath : Nat

end Sys2Proof.Config
end

