-- ==== Sys2Proof/Machine/Regs.lean ====
section
/-! DEFINITION.
The register map of the device, written from the register tables of spec/03 to spec/22 and the page
directory of R98.  `R` holds one slot address for each register (page * 512 + slot index, R70) and one
bit field for each named field, `E` one bit number for each page event, `P` one page number for each page,
and `pageDir` is the directory with the layout of each page.  Reserved fields are in no mask: they read 0 and
ignore writes (R8).
-/
namespace Sys2Proof.Machine

/-- A field of a register: the slot address, the lowest bit and the width. -/
structure Fld where
  slot : Nat
  lo : Nat
  w : Nat
  deriving DecidableEq, Repr

/-- One row of a page map: `count` elements, `stride` slots apart, each of `n` slots, from slot index `lo`.
The masks name the writable bits by access code (R9); `time` is 1 for T108, 2 for S72 (R3, R4);
`reset` is the reset word of each slot. -/
structure RegDef where
  lo : Nat
  count : Nat
  stride : Nat
  n : Nat
  rw : Nat
  rws : Nat
  w1c : Nat
  wc : Nat
  time : Nat
  reset : Nat
  deriving DecidableEq, Repr

/-- One row of the page directory (R98), with the header contents of R87 for each page of the family:
first page, number of pages, first event source, island code of the first page (R99; 16 marks the pages kept in all three
cores, 17 the pages of the port's coach), PG_CAP, the defined events, the events enabled at reset (R102), whether PG_CTRL.EN acts (R88), the
RS groups by first and last slot index (R95), and the registers. -/
structure PageRow where
  first : Nat
  count : Nat
  source : Nat
  island : Nat
  cap : Nat
  evts : Nat
  evtEn : Nat
  enActs : Bool
  rs : List (Nat × Nat)
  regs : List RegDef
  deriving DecidableEq, Repr

/-! ## Page numbers (R98) -/
namespace P
abbrev GLB : Nat := 0
abbrev BOOT : Nat := 1
abbrev EVT : Nat := 2
abbrev FLT : Nat := 3
abbrev REC : Nat := 4
abbrev AO : Nat := 5
abbrev PWR : Nat := 6
abbrev THM : Nat := 7
abbrev TMP : Nat := 8
abbrev NVM : Nat := 9
abbrev TCORE (k : Nat) : Nat := 16 + k
abbrev VOTE : Nat := 19
abbrev SEL : Nat := 32
abbrev SRV : Nat := 33
abbrev HOLD : Nat := 34
abbrev OUT : Nat := 35
abbrev TEB : Nat := 36
abbrev CAND (k : Nat) : Nat := 48 + k
abbrev PLL (k : Nat) : Nat := 64 + k
abbrev TIC (k : Nat) : Nat := 72 + k
abbrev GNS : Nat := 80
abbrev CO (k : Nat) : Nat := 96 + k
abbrev PRT (k : Nat) : Nat := 128 + k
abbrev STA (k : Nat) : Nat := 160 + k
abbrev SWF : Nat := 192
abbrev BUF : Nat := 193
abbrev DRM : Nat := 194
abbrev CLT : Nat := 200
abbrev TTB : Nat := 201
abbrev RATE : Nat := 202
abbrev KEY : Nat := 208
abbrev ATT : Nat := 209
abbrev LCY : Nat := 210
abbrev GEN : Nat := 224
abbrev SHNT : Nat := 225
abbrev PROVE : Nat := 226
abbrev DUG : Nat := 240
abbrev PCI : Nat := 256
abbrev SPI : Nat := 257
abbrev DMA : Nat := 258
end P

/-! ## Page events (R79, R100, R139, R160, R162, R187, R189, R212, R214, R231, R256, R273, R291 to R294, R316 to R320, R348, R369 to R371, R399 to R402, R419 to R421, R443, R461, R462, R474, R488 to R491, R508) -/
namespace E
abbrev GLB_ACCESS_ERR : Nat := 0
abbrev GLB_EXPERT_OPEN : Nat := 1
abbrev GLB_EXPERT_CLOSE : Nat := 2
abbrev GLB_COUPLE_BROKEN : Nat := 3
abbrev GLB_JTAG_REFUSED : Nat := 4
abbrev GLB_WC_REJECT : Nat := 5
abbrev BOOT_STAGE : Nat := 0
abbrev BOOT_NO_IMAGE : Nat := 1
abbrev BOOT_BANK_FALLBACK : Nat := 2
abbrev BOOT_FABRIC_DONE : Nat := 3
abbrev BOOT_UNSAVED : Nat := 4
abbrev BOOT_NVM_CORRUPT : Nat := 5
abbrev FLT_LATCH : Nat := 0
abbrev FLT_BRAKE : Nat := 1
abbrev FLT_RELEASED : Nat := 2
abbrev FLT_MERGED : Nat := 3
abbrev FLT_INJ_DONE : Nat := 4
abbrev FLT_ALARM : Nat := 5
abbrev REC_PENDING : Nat := 0
abbrev REC_SUPPRESS : Nat := 1
abbrev REC_JRN_LOST : Nat := 2
abbrev REC_ECC : Nat := 3
abbrev REC_JRN_FAIL : Nat := 4
abbrev REC_FETCH_DONE : Nat := 5
abbrev REC_Q_LOST : Nat := 6
abbrev AO_ISLCLK : Nat := 0
abbrev AO_OSC : Nat := 1
abbrev AO_PARITY : Nat := 2
abbrev PWR_PFW : Nat := 0
abbrev PWR_PFW_RIDE : Nat := 1
abbrev THM_ALERT : Nat := 0
abbrev THM_CRIT : Nat := 1
abbrev TMP_ALARM : Nat := 0
abbrev TMP_ACTIVE : Nat := 1
abbrev NVM_WRITE_FAIL : Nat := 0
abbrev NVM_ECC_UNCORR : Nat := 1
abbrev NVM_WEAR : Nat := 2
abbrev TCORE_STATE : Nat := 0
abbrev TCORE_AXLE_SLIP : Nat := 1
abbrev TCORE_AXLE_FAULT : Nat := 2
abbrev TCORE_SELF_ERR : Nat := 3
abbrev VOTE_MODE : Nat := 0
abbrev VOTE_CORE_OUT : Nat := 1
abbrev VOTE_CORE_IN : Nat := 2
abbrev VOTE_REJOIN_FAIL : Nat := 3
abbrev VOTE_STEP_DONE : Nat := 4
abbrev VOTE_STEP_REJ : Nat := 5
abbrev VOTE_LEAP_PEND : Nat := 6
abbrev VOTE_LEAP_DONE : Nat := 7
abbrev VOTE_LEAP_REJ : Nat := 8
abbrev VOTE_LEAP_CANCEL : Nat := 9
abbrev VOTE_OCXO_WARM : Nat := 10
abbrev VOTE_CELL : Nat := 11
abbrev VOTE_EFC_RAIL : Nat := 12
abbrev VOTE_TS_SET : Nat := 13
abbrev VOTE_CELL_LOCK : Nat := 14
abbrev SEL_SWITCH_START : Nat := 0
abbrev SEL_SWITCH_DONE : Nat := 1
abbrev SEL_ABORT : Nat := 2
abbrev SEL_HOLDOVER : Nat := 3
abbrev SEL_BETTER_AVAIL : Nat := 4
abbrev SEL_DISPUTE : Nat := 5
abbrev SEL_STEP_BIG : Nat := 6
abbrev SEL_SETTLE_FAIL : Nat := 7
abbrev SEL_CMD_REJ : Nat := 8
abbrev SEL_STEER_DONE : Nat := 9
abbrev SEL_AXLE_SLIP : Nat := 10
abbrev SEL_AXLE_FAULT : Nat := 11
abbrev SRV_STATE : Nat := 0
abbrev SRV_LOCK : Nat := 1
abbrev SRV_UNLOCK : Nat := 2
abbrev SRV_CLAMP : Nat := 3
abbrev SRV_HOST_MODE : Nat := 4
abbrev HOLD_ENTER : Nat := 0
abbrev HOLD_EXIT : Nat := 1
abbrev HOLD_LEARN_DONE : Nat := 2
abbrev HOLD_MODEL : Nat := 3
abbrev HOLD_RESTORED : Nat := 4
abbrev OUT_BYPASS : Nat := 0
abbrev OUT_MISALIGN : Nat := 1
abbrev OUT_REALIGN_DONE : Nat := 2
abbrev OUT_DRV_FAULT : Nat := 3
abbrev OUT_CFG_ERR : Nat := 4
abbrev OUT_STARTED : Nat := 5
abbrev TEB_VALID : Nat := 0
abbrev TEB_OVER : Nat := 1
abbrev TEB_SAT : Nat := 2
abbrev TEB_CLASS : Nat := 3
abbrev TEB_COMP : Nat := 4
abbrev CAND_STATE : Nat := 0
abbrev CAND_PHASE_HIT : Nat := 1
abbrev CAND_QL_CHANGE : Nat := 2
abbrev CAND_BIND_ERR : Nat := 3
abbrev CAND_WTR_DONE : Nat := 4
abbrev PLL_STATE : Nat := 0
abbrev PLL_LOCK : Nat := 1
abbrev PLL_UNLOCK : Nat := 2
abbrev PLL_REF_LOST : Nat := 3
abbrev PLL_FAULT : Nat := 4
abbrev PLL_CFG_ERR : Nat := 5
abbrev TIC_DONE : Nat := 0
abbrev TIC_TIMEOUT : Nat := 1
abbrev TIC_ABORT : Nat := 2
abbrev TIC_CAL_DONE : Nat := 3
abbrev TIC_CAL_FAIL : Nat := 4
abbrev TIC_CFG_ERR : Nat := 5
abbrev TIC_CAL_STALE : Nat := 6
abbrev GNS_SPOOF : Nat := 0
abbrev GNS_SUSPECT_CLEAR : Nat := 1
abbrev GNS_CONS_EXCL : Nat := 2
abbrev GNS_JAM : Nat := 3
abbrev GNS_ANT : Nat := 4
abbrev GNS_SURVEY_DONE : Nat := 5
abbrev GNS_ENGINE : Nat := 6
abbrev GNS_SUSPECT : Nat := 7
abbrev GNS_AXLE_SLIP : Nat := 8
abbrev GNS_AXLE_FAULT : Nat := 9
abbrev CO_LATE : Nat := 0
abbrev CO_LANE_FAULT : Nat := 1
abbrev CO_DEPART_ERR : Nat := 2
abbrev CO_GEAR : Nat := 3
abbrev CO_DRAINED : Nat := 4
abbrev CO_CFG_ERR : Nat := 5
abbrev CO_AXLE_SLIP : Nat := 6
abbrev CO_AXLE_FAULT : Nat := 7
abbrev PRT_LINK : Nat := 0
abbrev PRT_UP : Nat := 1
abbrev PRT_FC_REFUSED : Nat := 2
abbrev PRT_MOD_PRESENT : Nat := 3
abbrev PRT_MOD_INT : Nat := 4
abbrev PRT_I2C_DONE : Nat := 5
abbrev PRT_I2C_STUCK : Nat := 6
abbrev PRT_STAMP : Nat := 7
abbrev PRT_TSF_GAP : Nat := 8
abbrev PRT_CFG_ERR : Nat := 9
abbrev SWF_FDB_FULL : Nat := 0
abbrev SWF_RESEQ_SKIP : Nat := 1
abbrev SWF_EXP_OVER : Nat := 2
abbrev BUF_SRAM_LOW : Nat := 0
abbrev BUF_SPILLING : Nat := 1
abbrev BUF_EXP_DROP : Nat := 2
abbrev BUF_SPILL_FULL : Nat := 3
abbrev BUF_AGED : Nat := 4
abbrev BUF_ECC_UNCORR : Nat := 5
abbrev DRM_ECC_UNCORR : Nat := 0
abbrev DRM_CRC_RETRY : Nat := 1
abbrev DRM_THROTTLE : Nat := 2
abbrev CLT_FULL : Nat := 0
abbrev CLT_REFUSED : Nat := 1
abbrev CLT_ECC_LOST : Nat := 2
abbrev TTB_SLIP : Nat := 0
abbrev TTB_SKIP : Nat := 1
abbrev TTB_REBUILD_DONE : Nat := 2
abbrev TTB_ECC_LOST : Nat := 3
abbrev RATE_DROP : Nat := 0
abbrev RATE_KISS : Nat := 1
abbrev KEY_CMD_DONE : Nat := 0
abbrev KEY_KEY_ROLLBACK : Nat := 1
abbrev KEY_ZEROIZED : Nat := 2
abbrev KEY_ACTIVATED : Nat := 3
abbrev KEY_FREED : Nat := 4
abbrev KEY_UNREADABLE : Nat := 5
abbrev ATT_DONE : Nat := 0
abbrev ATT_GEN_HASH : Nat := 1
abbrev LCY_STATE : Nat := 0
abbrev LCY_CMD_DONE : Nat := 1
abbrev GEN_COMMITTED : Nat := 0
abbrev GEN_CANCELLED : Nat := 1
abbrev GEN_FENCED : Nat := 2
abbrev GEN_UNFENCED : Nat := 3
abbrev SHNT_DONE : Nat := 0
abbrev SHNT_MIGRATED : Nat := 1
abbrev SHNT_REFUSED : Nat := 2
abbrev PROVE_START : Nat := 0
abbrev PROVE_DONE : Nat := 1
abbrev PROVE_FAIL : Nat := 2
abbrev PROVE_ABORT : Nat := 3
abbrev DUG_ROLE : Nat := 0
abbrev DUG_LINK : Nat := 1
abbrev DUG_HB_LOST : Nat := 2
abbrev DUG_DUAL : Nat := 3
abbrev DUG_CLAIM_LOST : Nat := 4
abbrev DUG_READY : Nat := 5
abbrev DUG_CFG_ERR : Nat := 6
abbrev PCI_LINK : Nat := 0
abbrev PCI_UP : Nat := 1
abbrev PCI_FLR : Nat := 2
abbrev PCI_ERR : Nat := 3
abbrev SPI_CRC_ERR : Nat := 0
abbrev DMA_NOBUF : Nat := 0
abbrev DMA_RING_ERR : Nat := 1
abbrev DMA_CFG_ERR : Nat := 2
/-- FORMAT_ERR of every page (R87). -/
abbrev FORMAT_ERR : Nat := 31
end E

/-! ## Page header (R87) -/
namespace R
/-- PG_ID of page `p` (R87). -/
abbrev PG_ID (p : Nat) : Nat := p * 512 + 0
/-- PG_CAP of page `p` (R87). -/
abbrev PG_CAP (p : Nat) : Nat := p * 512 + 1
abbrev PG_CAP_EXPERT (p : Nat) : Fld := ⟨PG_CAP p, 35, 1⟩
abbrev PG_CAP_SHADOW (p : Nat) : Fld := ⟨PG_CAP p, 34, 1⟩
abbrev PG_CAP_SHUNT (p : Nat) : Fld := ⟨PG_CAP p, 33, 1⟩
abbrev PG_CAP_TIME (p : Nat) : Fld := ⟨PG_CAP p, 32, 1⟩
/-- PG_CTRL of page `p` (R87). -/
abbrev PG_CTRL (p : Nat) : Nat := p * 512 + 2
abbrev PG_CTRL_EN (p : Nat) : Fld := ⟨PG_CTRL p, 0, 1⟩
abbrev PG_CTRL_XEN (p : Nat) : Fld := ⟨PG_CTRL p, 1, 1⟩
/-- PG_STAT of page `p` (R87). -/
abbrev PG_STAT (p : Nat) : Nat := p * 512 + 3
abbrev PG_STAT_BUSY (p : Nat) : Fld := ⟨PG_STAT p, 0, 1⟩
abbrev PG_STAT_SHUNTED (p : Nat) : Fld := ⟨PG_STAT p, 1, 1⟩
abbrev PG_STAT_FENCED (p : Nat) : Fld := ⟨PG_STAT p, 2, 1⟩
abbrev PG_STAT_GEN_PENDING (p : Nat) : Fld := ⟨PG_STAT p, 3, 1⟩
abbrev PG_STAT_STAGED (p : Nat) : Fld := ⟨PG_STAT p, 4, 1⟩
/-- PG_EVT of page `p` (R87). -/
abbrev PG_EVT (p : Nat) : Nat := p * 512 + 4
/-- PG_EVT_EN of page `p` (R87). -/
abbrev PG_EVT_EN (p : Nat) : Nat := p * 512 + 5
/-- PG_EVT_NOW of page `p` (R87). -/
abbrev PG_EVT_NOW (p : Nat) : Nat := p * 512 + 6
/-- PG_GEN of page `p` (R87). -/
abbrev PG_GEN (p : Nat) : Nat := p * 512 + 7
abbrev PG_GEN_GEN (p : Nat) : Fld := ⟨PG_GEN p, 0, 24⟩
end R

namespace R
/-- BOOT.STAGE, offset 0x040 (spec/03_staged_start_and_power.md). -/
abbrev BOOT_STAGE : Nat := 520
abbrev BOOT_STAGE_HOLD_WHY : Fld := ⟨BOOT_STAGE, 8, 4⟩
abbrev BOOT_STAGE_STEADY_LOST : Fld := ⟨BOOT_STAGE, 5, 1⟩
abbrev BOOT_STAGE_FABRIC_DOWN : Fld := ⟨BOOT_STAGE, 4, 1⟩
abbrev BOOT_STAGE_STAGE : Fld := ⟨BOOT_STAGE, 0, 3⟩
/-- BOOT.CAUSE, offset 0x048 (spec/03_staged_start_and_power.md). -/
abbrev BOOT_CAUSE : Nat := 521
abbrev BOOT_CAUSE_KEYS_SUPPRESSED : Fld := ⟨BOOT_CAUSE, 5, 1⟩
abbrev BOOT_CAUSE_UNSAVED : Fld := ⟨BOOT_CAUSE, 4, 1⟩
abbrev BOOT_CAUSE_PFAIL_SAVED : Fld := ⟨BOOT_CAUSE, 3, 1⟩
abbrev BOOT_CAUSE_FABRIC : Fld := ⟨BOOT_CAUSE, 2, 1⟩
abbrev BOOT_CAUSE_RESET_N : Fld := ⟨BOOT_CAUSE, 1, 1⟩
abbrev BOOT_CAUSE_POR : Fld := ⟨BOOT_CAUSE, 0, 1⟩
/-- BOOT.CTRL, offset 0x050 (spec/03_staged_start_and_power.md). -/
abbrev BOOT_CTRL : Nat := 522
abbrev BOOT_CTRL_HOLD : Fld := ⟨BOOT_CTRL, 2, 1⟩
abbrev BOOT_CTRL_PREF : Fld := ⟨BOOT_CTRL, 0, 2⟩
/-- BOOT.IMG_STAT, offset 0x058 (spec/03_staged_start_and_power.md). -/
abbrev BOOT_IMG_STAT : Nat := 523
abbrev BOOT_IMG_STAT_B_WHY : Fld := ⟨BOOT_IMG_STAT, 12, 4⟩
abbrev BOOT_IMG_STAT_A_WHY : Fld := ⟨BOOT_IMG_STAT, 8, 4⟩
abbrev BOOT_IMG_STAT_FALLBACK : Fld := ⟨BOOT_IMG_STAT, 4, 1⟩
abbrev BOOT_IMG_STAT_B_VALID : Fld := ⟨BOOT_IMG_STAT, 3, 1⟩
abbrev BOOT_IMG_STAT_A_VALID : Fld := ⟨BOOT_IMG_STAT, 2, 1⟩
abbrev BOOT_IMG_STAT_LOADED : Fld := ⟨BOOT_IMG_STAT, 0, 2⟩
/-- BOOT.IMG_SEQ_A, offset 0x060 (spec/03_staged_start_and_power.md). -/
abbrev BOOT_IMG_SEQ_A : Nat := 524
abbrev BOOT_IMG_SEQ_A_W : Fld := ⟨BOOT_IMG_SEQ_A, 0, 36⟩
/-- BOOT.IMG_SEQ_B, offset 0x068 (spec/03_staged_start_and_power.md). -/
abbrev BOOT_IMG_SEQ_B : Nat := 525
abbrev BOOT_IMG_SEQ_B_W : Fld := ⟨BOOT_IMG_SEQ_B, 0, 36⟩
/-- BOOT.CMD, offset 0x070 (spec/03_staged_start_and_power.md). -/
abbrev BOOT_CMD : Nat := 526
abbrev BOOT_CMD_STATUS : Fld := ⟨BOOT_CMD, 32, 4⟩
abbrev BOOT_CMD_FORCE : Fld := ⟨BOOT_CMD, 8, 1⟩
abbrev BOOT_CMD_BANK : Fld := ⟨BOOT_CMD, 4, 2⟩
abbrev BOOT_CMD_OP : Fld := ⟨BOOT_CMD, 0, 4⟩
/-- BOOT.IMG_DATA, offset 0x078 (spec/03_staged_start_and_power.md). -/
abbrev BOOT_IMG_DATA : Nat := 527
abbrev BOOT_IMG_DATA_W : Fld := ⟨BOOT_IMG_DATA, 0, 36⟩
/-- BOOT.T_ROLLING, offset 0x080 (spec/03_staged_start_and_power.md). -/
abbrev BOOT_T_ROLLING : Nat := 528
abbrev BOOT_T_ROLLING_W : Fld := ⟨BOOT_T_ROLLING, 0, 36⟩
/-- BOOT.TIMED_AT, offset 0x088 (spec/03_staged_start_and_power.md). -/
abbrev BOOT_TIMED_AT : Nat := 529
abbrev BOOT_TIMED_AT_W : Fld := ⟨BOOT_TIMED_AT, 0, 36⟩
/-- BOOT.STEADY_AT, offset 0x0A0 (spec/03_staged_start_and_power.md). -/
abbrev BOOT_STEADY_AT : Nat := 532
abbrev BOOT_STEADY_AT_W : Fld := ⟨BOOT_STEADY_AT, 0, 36⟩
/-- BOOT.PF_T, offset 0x0B8 (spec/03_staged_start_and_power.md). -/
abbrev BOOT_PF_T : Nat := 535
abbrev BOOT_PF_T_W : Fld := ⟨BOOT_PF_T, 0, 36⟩
/-- BOOT.NVM_SCAN, offset 0x0D0 (spec/03_staged_start_and_power.md). -/
abbrev BOOT_NVM_SCAN : Nat := 538
abbrev BOOT_NVM_SCAN_CORRUPT : Fld := ⟨BOOT_NVM_SCAN, 8, 8⟩
abbrev BOOT_NVM_SCAN_UNCOMMITTED : Fld := ⟨BOOT_NVM_SCAN, 0, 8⟩
/-- PWR.STAT, offset 0x040 (spec/03_staged_start_and_power.md). -/
abbrev PWR_STAT : Nat := 3080
abbrev PWR_STAT_HOLDUP_RDY : Fld := ⟨PWR_STAT, 2, 1⟩
abbrev PWR_STAT_PFW : Fld := ⟨PWR_STAT, 1, 1⟩
abbrev PWR_STAT_VIN_GOOD : Fld := ⟨PWR_STAT, 0, 1⟩
/-- PWR.VIN, offset 0x048 (spec/03_staged_start_and_power.md). -/
abbrev PWR_VIN : Nat := 3081
abbrev PWR_VIN_MV : Fld := ⟨PWR_VIN, 0, 16⟩
/-- PWR.RIDE_COUNT, offset 0x050 (spec/03_staged_start_and_power.md). -/
abbrev PWR_RIDE_COUNT : Nat := 3082
abbrev PWR_RIDE_COUNT_COUNT : Fld := ⟨PWR_RIDE_COUNT, 0, 16⟩
/-- PWR.RIDE_MIN, offset 0x058 (spec/03_staged_start_and_power.md). -/
abbrev PWR_RIDE_MIN : Nat := 3083
abbrev PWR_RIDE_MIN_MV : Fld := ⟨PWR_RIDE_MIN, 0, 16⟩
/-- NVM.STATUS, offset 0x040 (spec/03_staged_start_and_power.md). -/
abbrev NVM_STATUS : Nat := 4616
abbrev NVM_STATUS_WEAR : Fld := ⟨NVM_STATUS, 2, 1⟩
abbrev NVM_STATUS_PFW_HOLD : Fld := ⟨NVM_STATUS, 1, 1⟩
abbrev NVM_STATUS_BUSY : Fld := ⟨NVM_STATUS, 0, 1⟩
/-- NVM.RECORDS, offset 0x048 (spec/03_staged_start_and_power.md). -/
abbrev NVM_RECORDS : Nat := 4617
abbrev NVM_RECORDS_COUNT : Fld := ⟨NVM_RECORDS, 0, 36⟩
/-- NVM.ERASES, offset 0x050 (spec/03_staged_start_and_power.md). -/
abbrev NVM_ERASES : Nat := 4618
abbrev NVM_ERASES_COUNT : Fld := ⟨NVM_ERASES, 0, 36⟩
/-- NVM.WRITE_FAIL, offset 0x058 (spec/03_staged_start_and_power.md). -/
abbrev NVM_WRITE_FAIL : Nat := 4619
abbrev NVM_WRITE_FAIL_COUNT : Fld := ⟨NVM_WRITE_FAIL, 0, 36⟩
/-- NVM.ECC_CORR, offset 0x060 (spec/03_staged_start_and_power.md). -/
abbrev NVM_ECC_CORR : Nat := 4620
abbrev NVM_ECC_CORR_COUNT : Fld := ⟨NVM_ECC_CORR, 0, 36⟩
/-- NVM.ECC_UNCORR, offset 0x068 (spec/03_staged_start_and_power.md). -/
abbrev NVM_ECC_UNCORR : Nat := 4621
abbrev NVM_ECC_UNCORR_COUNT : Fld := ⟨NVM_ECC_UNCORR, 0, 36⟩
/-- NVM.MAX_ERASE, offset 0x070 (spec/03_staged_start_and_power.md). -/
abbrev NVM_MAX_ERASE : Nat := 4622
abbrev NVM_MAX_ERASE_SECTOR : Fld := ⟨NVM_MAX_ERASE, 27, 9⟩
abbrev NVM_MAX_ERASE_COUNT : Fld := ⟨NVM_MAX_ERASE, 0, 27⟩
/-- GLB.EXPERT_KEY, offset 0x040 (spec/04_register_model.md). -/
abbrev GLB_EXPERT_KEY : Nat := 8
abbrev GLB_EXPERT_KEY_KEY : Fld := ⟨GLB_EXPERT_KEY, 0, 36⟩
/-- GLB.EXPERT_STAT, offset 0x048 (spec/04_register_model.md). -/
abbrev GLB_EXPERT_STAT : Nat := 9
abbrev GLB_EXPERT_STAT_ARMED : Fld := ⟨GLB_EXPERT_STAT, 4, 3⟩
abbrev GLB_EXPERT_STAT_OPEN : Fld := ⟨GLB_EXPERT_STAT, 0, 3⟩
/-- GLB.EXPERT_CTRL, offset 0x050 (spec/04_register_model.md). -/
abbrev GLB_EXPERT_CTRL : Nat := 10
abbrev GLB_EXPERT_CTRL_TIMEOUT : Fld := ⟨GLB_EXPERT_CTRL, 8, 8⟩
abbrev GLB_EXPERT_CTRL_PERMIT_PF1 : Fld := ⟨GLB_EXPERT_CTRL, 0, 1⟩
/-- GLB.ACCESS_ERR, offset 0x058 (spec/04_register_model.md). -/
abbrev GLB_ACCESS_ERR : Nat := 11
abbrev GLB_ACCESS_ERR_CAUSE : Fld := ⟨GLB_ACCESS_ERR, 32, 3⟩
abbrev GLB_ACCESS_ERR_MASTER : Fld := ⟨GLB_ACCESS_ERR, 30, 2⟩
abbrev GLB_ACCESS_ERR_WRITE : Fld := ⟨GLB_ACCESS_ERR, 23, 1⟩
abbrev GLB_ACCESS_ERR_SLOT : Fld := ⟨GLB_ACCESS_ERR, 0, 23⟩
/-- GLB.ACCESS_ERR_COUNT, offset 0x060 (spec/04_register_model.md). -/
abbrev GLB_ACCESS_ERR_COUNT : Nat := 12
abbrev GLB_ACCESS_ERR_COUNT_COUNT : Fld := ⟨GLB_ACCESS_ERR_COUNT, 0, 36⟩
/-- GLB.COUPLE_RETRY, offset 0x068 (spec/04_register_model.md). -/
abbrev GLB_COUPLE_RETRY : Nat := 13
abbrev GLB_COUPLE_RETRY_COUNT : Fld := ⟨GLB_COUPLE_RETRY, 0, 36⟩
/-- GLB.COUPLE_BROKEN, offset 0x070 (spec/04_register_model.md). -/
abbrev GLB_COUPLE_BROKEN : Nat := 14
abbrev GLB_COUPLE_BROKEN_FIRST_FROM : Fld := ⟨GLB_COUPLE_BROKEN, 20, 4⟩
abbrev GLB_COUPLE_BROKEN_FIRST_TO : Fld := ⟨GLB_COUPLE_BROKEN, 16, 4⟩
abbrev GLB_COUPLE_BROKEN_ISLANDS : Fld := ⟨GLB_COUPLE_BROKEN, 0, 16⟩
/-- GLB.SCRATCH, offset 0x078 (spec/04_register_model.md). -/
abbrev GLB_SCRATCH : Nat := 15
abbrev GLB_SCRATCH_DATA : Fld := ⟨GLB_SCRATCH, 0, 36⟩
/-- GLB.WC_REJECT, offset 0x080 (spec/04_register_model.md). -/
abbrev GLB_WC_REJECT : Nat := 16
abbrev GLB_WC_REJECT_COUNT : Fld := ⟨GLB_WC_REJECT, 0, 36⟩
/-- GLB.WC_REJECT_LAST, offset 0x088 (spec/04_register_model.md). -/
abbrev GLB_WC_REJECT_LAST : Nat := 17
abbrev GLB_WC_REJECT_LAST_MASTER : Fld := ⟨GLB_WC_REJECT_LAST, 30, 2⟩
abbrev GLB_WC_REJECT_LAST_SLOT : Fld := ⟨GLB_WC_REJECT_LAST, 0, 23⟩
/-- EVT.LATCH0 to 3, offset 0x040 (spec/04_register_model.md). -/
abbrev EVT_LATCH (i : Nat) : Nat := 1032 + i
abbrev EVT_LATCH_SRC (i : Nat) : Fld := ⟨EVT_LATCH i, 0, 32⟩
/-- EVT.EN0 to 3, offset 0x060 (spec/04_register_model.md). -/
abbrev EVT_EN (i : Nat) : Nat := 1036 + i
abbrev EVT_EN_EN (i : Nat) : Fld := ⟨EVT_EN i, 0, 32⟩
/-- EVT.MAP0 to 21, offset 0x080 (spec/04_register_model.md). -/
abbrev EVT_MAP (i : Nat) : Nat := 1040 + i
abbrev EVT_MAP_ROUTE (i : Nat) : Fld := ⟨EVT_MAP i, 0, 36⟩
/-- EVT.VEC_PF, offset 0x130 (spec/04_register_model.md). -/
abbrev EVT_VEC_PF : Nat := 1062
abbrev EVT_VEC_PF_PF : Fld := ⟨EVT_VEC_PF, 0, 32⟩
/-- EVT.VEC_ACK, offset 0x138 (spec/04_register_model.md). -/
abbrev EVT_VEC_ACK : Nat := 1063
abbrev EVT_VEC_ACK_ACK : Fld := ⟨EVT_VEC_ACK, 0, 32⟩
/-- EVT.VEC_STAT, offset 0x140 (spec/04_register_model.md). -/
abbrev EVT_VEC_STAT : Nat := 1064
abbrev EVT_VEC_STAT_LEVEL : Fld := ⟨EVT_VEC_STAT, 0, 32⟩
/-- EVT.IRQ_STAT, offset 0x148 (spec/04_register_model.md). -/
abbrev EVT_IRQ_STAT : Nat := 1065
abbrev EVT_IRQ_STAT_ASSERTED : Fld := ⟨EVT_IRQ_STAT, 0, 1⟩
/-- TCORE.STATE, offset 0x040 (spec/05_timebase_and_triad.md). -/
abbrev TCORE_STATE (p : Nat) : Nat := (16 + p) * 512 + 8
abbrev TCORE_STATE_OUT_WHY (p : Nat) : Fld := ⟨TCORE_STATE p, 4, 4⟩
abbrev TCORE_STATE_STATE (p : Nat) : Fld := ⟨TCORE_STATE p, 0, 3⟩
/-- TCORE.FREQ, offset 0x048 (spec/05_timebase_and_triad.md). -/
abbrev TCORE_FREQ (p : Nat) : Nat := (16 + p) * 512 + 9
abbrev TCORE_FREQ_Y (p : Nat) : Fld := ⟨TCORE_FREQ p, 0, 36⟩
/-- TCORE.NOW, offset 0x050 (spec/05_timebase_and_triad.md). -/
abbrev TCORE_NOW (p : Nat) : Nat := (16 + p) * 512 + 10
abbrev TCORE_NOW_T (p : Nat) : Fld := ⟨TCORE_NOW p, 0, 36⟩
/-- TCORE.OUT_COUNT, offset 0x068 (spec/05_timebase_and_triad.md). -/
abbrev TCORE_OUT_COUNT (p : Nat) : Nat := (16 + p) * 512 + 13
abbrev TCORE_OUT_COUNT_COUNT (p : Nat) : Fld := ⟨TCORE_OUT_COUNT p, 0, 16⟩
/-- TCORE.REJOIN_LEFT, offset 0x070 (spec/05_timebase_and_triad.md). -/
abbrev TCORE_REJOIN_LEFT (p : Nat) : Nat := (16 + p) * 512 + 14
abbrev TCORE_REJOIN_LEFT_S (p : Nat) : Fld := ⟨TCORE_REJOIN_LEFT p, 0, 12⟩
/-- TCORE.LAST_DIFF, offset 0x078 (spec/05_timebase_and_triad.md). -/
abbrev TCORE_LAST_DIFF (p : Nat) : Nat := (16 + p) * 512 + 15
abbrev TCORE_LAST_DIFF_Y (p : Nat) : Fld := ⟨TCORE_LAST_DIFF p, 0, 36⟩
/-- TCORE.SELF_ERR, offset 0x080 (spec/05_timebase_and_triad.md). -/
abbrev TCORE_SELF_ERR (p : Nat) : Nat := (16 + p) * 512 + 16
abbrev TCORE_SELF_ERR_COUNT (p : Nat) : Fld := ⟨TCORE_SELF_ERR p, 0, 36⟩
/-- TCORE.AXLE_CRC, offset 0x088 (spec/05_timebase_and_triad.md). -/
abbrev TCORE_AXLE_CRC (p : Nat) : Nat := (16 + p) * 512 + 17
abbrev TCORE_AXLE_CRC_COUNT (p : Nat) : Fld := ⟨TCORE_AXLE_CRC p, 0, 36⟩
/-- TCORE.AXLE_TRIM, offset 0x090 (spec/05_timebase_and_triad.md). -/
abbrev TCORE_AXLE_TRIM (p : Nat) : Nat := (16 + p) * 512 + 18
abbrev TCORE_AXLE_TRIM_COUNT (p : Nat) : Fld := ⟨TCORE_AXLE_TRIM p, 0, 36⟩
/-- TCORE.AXLE_SLIP, offset 0x098 (spec/05_timebase_and_triad.md). -/
abbrev TCORE_AXLE_SLIP (p : Nat) : Nat := (16 + p) * 512 + 19
abbrev TCORE_AXLE_SLIP_COUNT (p : Nat) : Fld := ⟨TCORE_AXLE_SLIP p, 0, 36⟩
/-- TCORE.AXLE_FAULT, offset 0x0A0 (spec/05_timebase_and_triad.md). -/
abbrev TCORE_AXLE_FAULT (p : Nat) : Nat := (16 + p) * 512 + 20
abbrev TCORE_AXLE_FAULT_COUNT (p : Nat) : Fld := ⟨TCORE_AXLE_FAULT p, 0, 36⟩
/-- TCORE.AXLE_LOAD, offset 0x0A8 (spec/05_timebase_and_triad.md). -/
abbrev TCORE_AXLE_LOAD (p : Nat) : Nat := (16 + p) * 512 + 21
abbrev TCORE_AXLE_LOAD_COUNT (p : Nat) : Fld := ⟨TCORE_AXLE_LOAD p, 0, 36⟩
/-- VOTE.STATUS, offset 0x040 (spec/05_timebase_and_triad.md). -/
abbrev VOTE_STATUS : Nat := 9736
abbrev VOTE_STATUS_LEAP_PEND : Fld := ⟨VOTE_STATUS, 14, 1⟩
abbrev VOTE_STATUS_STEP_PEND : Fld := ⟨VOTE_STATUS, 13, 1⟩
abbrev VOTE_STATUS_TS_SET : Fld := ⟨VOTE_STATUS, 12, 1⟩
abbrev VOTE_STATUS_DONOR : Fld := ⟨VOTE_STATUS, 8, 2⟩
abbrev VOTE_STATUS_IN : Fld := ⟨VOTE_STATUS, 4, 3⟩
abbrev VOTE_STATUS_MODE : Fld := ⟨VOTE_STATUS, 0, 3⟩
/-- VOTE.FREQ, offset 0x048 (spec/05_timebase_and_triad.md). -/
abbrev VOTE_FREQ : Nat := 9737
abbrev VOTE_FREQ_Y : Fld := ⟨VOTE_FREQ, 0, 36⟩
/-- VOTE.TOL_F, offset 0x050 (spec/05_timebase_and_triad.md). -/
abbrev VOTE_TOL_F : Nat := 9738
abbrev VOTE_TOL_F_Y : Fld := ⟨VOTE_TOL_F, 0, 36⟩
/-- VOTE.TOL_T, offset 0x058 (spec/05_timebase_and_triad.md). -/
abbrev VOTE_TOL_T : Nat := 9739
abbrev VOTE_TOL_T_PS : Fld := ⟨VOTE_TOL_T, 0, 36⟩
/-- VOTE.PERSIST, offset 0x060 (spec/05_timebase_and_triad.md). -/
abbrev VOTE_PERSIST : Nat := 9740
abbrev VOTE_PERSIST_N : Fld := ⟨VOTE_PERSIST, 0, 8⟩
/-- VOTE.REJOIN, offset 0x068 (spec/05_timebase_and_triad.md). -/
abbrev VOTE_REJOIN : Nat := 9741
abbrev VOTE_REJOIN_RETRY_MAX : Fld := ⟨VOTE_REJOIN, 16, 4⟩
abbrev VOTE_REJOIN_SECONDS : Fld := ⟨VOTE_REJOIN, 0, 12⟩
/-- VOTE.CMD, offset 0x070 (spec/05_timebase_and_triad.md). -/
abbrev VOTE_CMD : Nat := 9742
abbrev VOTE_CMD_STATUS : Fld := ⟨VOTE_CMD, 32, 4⟩
abbrev VOTE_CMD_DONOR : Fld := ⟨VOTE_CMD, 4, 2⟩
abbrev VOTE_CMD_OP : Fld := ⟨VOTE_CMD, 0, 4⟩
/-- VOTE.NOW, offset 0x078 (spec/05_timebase_and_triad.md). -/
abbrev VOTE_NOW : Nat := 9743
abbrev VOTE_NOW_T : Fld := ⟨VOTE_NOW, 0, 36⟩
/-- VOTE.SET_T, offset 0x090 (spec/05_timebase_and_triad.md). -/
abbrev VOTE_SET_T : Nat := 9746
abbrev VOTE_SET_T_T : Fld := ⟨VOTE_SET_T, 0, 36⟩
/-- VOTE.STEP, offset 0x0A8 (spec/05_timebase_and_triad.md). -/
abbrev VOTE_STEP : Nat := 9749
abbrev VOTE_STEP_S : Fld := ⟨VOTE_STEP, 0, 36⟩
/-- VOTE.STEP_LAST, offset 0x0B8 (spec/05_timebase_and_triad.md). -/
abbrev VOTE_STEP_LAST : Nat := 9751
abbrev VOTE_STEP_LAST_S : Fld := ⟨VOTE_STEP_LAST, 0, 36⟩
/-- VOTE.UTC, offset 0x0C8 (spec/05_timebase_and_triad.md). -/
abbrev VOTE_UTC : Nat := 9753
abbrev VOTE_UTC_VALID : Fld := ⟨VOTE_UTC, 12, 1⟩
abbrev VOTE_UTC_OFFSET : Fld := ⟨VOTE_UTC, 0, 12⟩
/-- VOTE.LEAP_AT, offset 0x0D0 (spec/05_timebase_and_triad.md). -/
abbrev VOTE_LEAP_AT : Nat := 9754
abbrev VOTE_LEAP_AT_S : Fld := ⟨VOTE_LEAP_AT, 0, 36⟩
/-- VOTE.LEAP_CTRL, offset 0x0D8 (spec/05_timebase_and_triad.md). -/
abbrev VOTE_LEAP_CTRL : Nat := 9755
abbrev VOTE_LEAP_CTRL_WARN : Fld := ⟨VOTE_LEAP_CTRL, 4, 20⟩
abbrev VOTE_LEAP_CTRL_KIND : Fld := ⟨VOTE_LEAP_CTRL, 0, 2⟩
/-- VOTE.OSC_STAT, offset 0x0E0 (spec/05_timebase_and_triad.md). -/
abbrev VOTE_OSC_STAT : Nat := 9756
abbrev VOTE_OSC_STAT_CELL_STATE : Fld := ⟨VOTE_OSC_STAT, 4, 3⟩
abbrev VOTE_OSC_STAT_DISC : Fld := ⟨VOTE_OSC_STAT, 3, 1⟩
abbrev VOTE_OSC_STAT_CELL_LOCK : Fld := ⟨VOTE_OSC_STAT, 2, 1⟩
abbrev VOTE_OSC_STAT_EFC_RAIL : Fld := ⟨VOTE_OSC_STAT, 1, 1⟩
abbrev VOTE_OSC_STAT_OCXO_WARM : Fld := ⟨VOTE_OSC_STAT, 0, 1⟩
/-- VOTE.OSC_EFC, offset 0x0E8 (spec/05_timebase_and_triad.md). -/
abbrev VOTE_OSC_EFC : Nat := 9757
abbrev VOTE_OSC_EFC_CODE : Fld := ⟨VOTE_OSC_EFC, 0, 24⟩
/-- VOTE.CELL_Y, offset 0x0F0 (spec/05_timebase_and_triad.md). -/
abbrev VOTE_CELL_Y : Nat := 9758
abbrev VOTE_CELL_Y_Y : Fld := ⟨VOTE_CELL_Y, 0, 36⟩
/-- VOTE.CELL_CMD, offset 0x0F8 (spec/05_timebase_and_triad.md). -/
abbrev VOTE_CELL_CMD : Nat := 9759
abbrev VOTE_CELL_CMD_STATUS : Fld := ⟨VOTE_CELL_CMD, 32, 4⟩
abbrev VOTE_CELL_CMD_OP : Fld := ⟨VOTE_CELL_CMD, 0, 2⟩
/-- VOTE.DISAGREE, offset 0x100 (spec/05_timebase_and_triad.md). -/
abbrev VOTE_DISAGREE : Nat := 9760
abbrev VOTE_DISAGREE_COUNT : Fld := ⟨VOTE_DISAGREE, 0, 36⟩
/-- VOTE.CELL_TAU, offset 0x400 (spec/05_timebase_and_triad.md). -/
abbrev VOTE_CELL_TAU : Nat := 9856
abbrev VOTE_CELL_TAU_S : Fld := ⟨VOTE_CELL_TAU, 0, 13⟩
/-- VOTE.EFC_SLEW, offset 0x408 (spec/05_timebase_and_triad.md). -/
abbrev VOTE_EFC_SLEW : Nat := 9857
abbrev VOTE_EFC_SLEW_RATE : Fld := ⟨VOTE_EFC_SLEW, 0, 16⟩
/-- SEL.STATUS, offset 0x040 (spec/06_reference_candidates.md). -/
abbrev SEL_STATUS : Nat := 16392
abbrev SEL_STATUS_PREV : Fld := ⟨SEL_STATUS, 20, 4⟩
abbrev SEL_STATUS_TARGET : Fld := ⟨SEL_STATUS, 16, 4⟩
abbrev SEL_STATUS_SELECTED : Fld := ⟨SEL_STATUS, 12, 4⟩
abbrev SEL_STATUS_MANUAL : Fld := ⟨SEL_STATUS, 7, 1⟩
abbrev SEL_STATUS_FORCED_HOLD : Fld := ⟨SEL_STATUS, 6, 1⟩
abbrev SEL_STATUS_WAIT_VOTE : Fld := ⟨SEL_STATUS, 5, 1⟩
abbrev SEL_STATUS_FREQ_ONLY : Fld := ⟨SEL_STATUS, 4, 1⟩
abbrev SEL_STATUS_ATOM_HOLD : Fld := ⟨SEL_STATUS, 3, 1⟩
abbrev SEL_STATUS_STATE : Fld := ⟨SEL_STATUS, 0, 3⟩
/-- SEL.MODE, offset 0x048 (spec/06_reference_candidates.md). -/
abbrev SEL_MODE : Nat := 16393
abbrev SEL_MODE_REVERT : Fld := ⟨SEL_MODE, 0, 1⟩
/-- SEL.LOCKOUT, offset 0x050 (spec/06_reference_candidates.md). -/
abbrev SEL_LOCKOUT : Nat := 16394
abbrev SEL_LOCKOUT_MASK : Fld := ⟨SEL_LOCKOUT, 0, 12⟩
/-- SEL.CMD, offset 0x058 (spec/06_reference_candidates.md). -/
abbrev SEL_CMD : Nat := 16395
abbrev SEL_CMD_STATUS : Fld := ⟨SEL_CMD, 32, 4⟩
abbrev SEL_CMD_SLOT : Fld := ⟨SEL_CMD, 4, 4⟩
abbrev SEL_CMD_OP : Fld := ⟨SEL_CMD, 0, 4⟩
/-- SEL.PREP_TIME, offset 0x060 (spec/06_reference_candidates.md). -/
abbrev SEL_PREP_TIME : Nat := 16396
abbrev SEL_PREP_TIME_MS : Fld := ⟨SEL_PREP_TIME, 0, 14⟩
/-- SEL.SETTLE_MAX, offset 0x068 (spec/06_reference_candidates.md). -/
abbrev SEL_SETTLE_MAX : Nat := 16397
abbrev SEL_SETTLE_MAX_S : Fld := ⟨SEL_SETTLE_MAX, 0, 12⟩
/-- SEL.DISAGREE, offset 0x070 (spec/06_reference_candidates.md). -/
abbrev SEL_DISAGREE : Nat := 16398
abbrev SEL_DISAGREE_Y : Fld := ⟨SEL_DISAGREE, 0, 36⟩
/-- SEL.ARB_TOL, offset 0x078 (spec/06_reference_candidates.md). -/
abbrev SEL_ARB_TOL : Nat := 16399
abbrev SEL_ARB_TOL_Y : Fld := ⟨SEL_ARB_TOL, 0, 36⟩
/-- SEL.FREQ_WIN, offset 0x080 (spec/06_reference_candidates.md). -/
abbrev SEL_FREQ_WIN : Nat := 16400
abbrev SEL_FREQ_WIN_S : Fld := ⟨SEL_FREQ_WIN, 0, 12⟩
/-- SEL.PHASE_STEP, offset 0x088 (spec/06_reference_candidates.md). -/
abbrev SEL_PHASE_STEP : Nat := 16401
abbrev SEL_PHASE_STEP_S : Fld := ⟨SEL_PHASE_STEP, 0, 36⟩
/-- SEL.STEER_BIAS, offset 0x098 (spec/06_reference_candidates.md). -/
abbrev SEL_STEER_BIAS : Nat := 16403
abbrev SEL_STEER_BIAS_S : Fld := ⟨SEL_STEER_BIAS, 0, 36⟩
/-- SEL.STEER_RATE, offset 0x0A8 (spec/06_reference_candidates.md). -/
abbrev SEL_STEER_RATE : Nat := 16405
abbrev SEL_STEER_RATE_PS : Fld := ⟨SEL_STEER_RATE, 0, 36⟩
/-- SEL.STEP_LAST, offset 0x0B0 (spec/06_reference_candidates.md). -/
abbrev SEL_STEP_LAST : Nat := 16406
abbrev SEL_STEP_LAST_S : Fld := ⟨SEL_STEP_LAST, 0, 36⟩
/-- SEL.STEP_WARN, offset 0x0C0 (spec/06_reference_candidates.md). -/
abbrev SEL_STEP_WARN : Nat := 16408
abbrev SEL_STEP_WARN_PS : Fld := ⟨SEL_STEP_WARN, 0, 36⟩
/-- SEL.SWITCHES, offset 0x0C8 (spec/06_reference_candidates.md). -/
abbrev SEL_SWITCHES : Nat := 16409
abbrev SEL_SWITCHES_COUNT : Fld := ⟨SEL_SWITCHES, 0, 36⟩
/-- SEL.ABORTS, offset 0x0D0 (spec/06_reference_candidates.md). -/
abbrev SEL_ABORTS : Nat := 16410
abbrev SEL_ABORTS_COUNT : Fld := ⟨SEL_ABORTS, 0, 36⟩
/-- SEL.REFIN_CFG0 to 3, offset 0x0D8 (spec/06_reference_candidates.md). -/
abbrev SEL_REFIN_CFG (i : Nat) : Nat := 16411 + i
abbrev SEL_REFIN_CFG_THRESH (i : Nat) : Fld := ⟨SEL_REFIN_CFG i, 4, 8⟩
abbrev SEL_REFIN_CFG_AC (i : Nat) : Fld := ⟨SEL_REFIN_CFG i, 3, 1⟩
abbrev SEL_REFIN_CFG_EDGE (i : Nat) : Fld := ⟨SEL_REFIN_CFG i, 2, 1⟩
abbrev SEL_REFIN_CFG_MODE (i : Nat) : Fld := ⟨SEL_REFIN_CFG i, 0, 2⟩
/-- SEL.AXLE_CRC, offset 0x0F8 (spec/06_reference_candidates.md). -/
abbrev SEL_AXLE_CRC : Nat := 16415
abbrev SEL_AXLE_CRC_COUNT : Fld := ⟨SEL_AXLE_CRC, 0, 36⟩
/-- SEL.AXLE_TRIM, offset 0x100 (spec/06_reference_candidates.md). -/
abbrev SEL_AXLE_TRIM : Nat := 16416
abbrev SEL_AXLE_TRIM_COUNT : Fld := ⟨SEL_AXLE_TRIM, 0, 36⟩
/-- SEL.AXLE_SLIP, offset 0x108 (spec/06_reference_candidates.md). -/
abbrev SEL_AXLE_SLIP : Nat := 16417
abbrev SEL_AXLE_SLIP_COUNT : Fld := ⟨SEL_AXLE_SLIP, 0, 36⟩
/-- SEL.AXLE_FAULT, offset 0x110 (spec/06_reference_candidates.md). -/
abbrev SEL_AXLE_FAULT : Nat := 16418
abbrev SEL_AXLE_FAULT_COUNT : Fld := ⟨SEL_AXLE_FAULT, 0, 36⟩
/-- SEL.AXLE_LOAD, offset 0x118 (spec/06_reference_candidates.md). -/
abbrev SEL_AXLE_LOAD : Nat := 16419
abbrev SEL_AXLE_LOAD_COUNT : Fld := ⟨SEL_AXLE_LOAD, 0, 36⟩
/-- CAND.BIND, offset 0x040 (spec/06_reference_candidates.md). -/
abbrev CAND_BIND (p : Nat) : Nat := (48 + p) * 512 + 8
abbrev CAND_BIND_UNIT (p : Nat) : Fld := ⟨CAND_BIND p, 8, 5⟩
abbrev CAND_BIND_SRC (p : Nat) : Fld := ⟨CAND_BIND p, 4, 4⟩
abbrev CAND_BIND_RANK (p : Nat) : Fld := ⟨CAND_BIND p, 0, 4⟩
/-- CAND.STATUS, offset 0x048 (spec/06_reference_candidates.md). -/
abbrev CAND_STATUS (p : Nat) : Nat := (48 + p) * 512 + 9
abbrev CAND_STATUS_WHY (p : Nat) : Fld := ⟨CAND_STATUS p, 16, 4⟩
abbrev CAND_STATUS_SELECTED (p : Nat) : Fld := ⟨CAND_STATUS p, 12, 1⟩
abbrev CAND_STATUS_BIND_ERR (p : Nat) : Fld := ⟨CAND_STATUS p, 11, 1⟩
abbrev CAND_STATUS_WTR_RUN (p : Nat) : Fld := ⟨CAND_STATUS p, 10, 1⟩
abbrev CAND_STATUS_DISAGREE (p : Nat) : Fld := ⟨CAND_STATUS p, 9, 1⟩
abbrev CAND_STATUS_FREQ_KIND (p : Nat) : Fld := ⟨CAND_STATUS p, 8, 1⟩
abbrev CAND_STATUS_STATE (p : Nat) : Fld := ⟨CAND_STATUS p, 0, 3⟩
/-- CAND.QUAL, offset 0x050 (spec/06_reference_candidates.md). -/
abbrev CAND_QUAL (p : Nat) : Nat := (48 + p) * 512 + 10
abbrev CAND_QUAL_S (p : Nat) : Fld := ⟨CAND_QUAL p, 0, 12⟩
/-- CAND.WTR, offset 0x058 (spec/06_reference_candidates.md). -/
abbrev CAND_WTR (p : Nat) : Nat := (48 + p) * 512 + 11
abbrev CAND_WTR_S (p : Nat) : Fld := ⟨CAND_WTR p, 0, 12⟩
/-- CAND.ACC, offset 0x060 (spec/06_reference_candidates.md). -/
abbrev CAND_ACC (p : Nat) : Nat := (48 + p) * 512 + 12
abbrev CAND_ACC_PS (p : Nat) : Fld := ⟨CAND_ACC p, 0, 36⟩
/-- CAND.PH_LIM, offset 0x068 (spec/06_reference_candidates.md). -/
abbrev CAND_PH_LIM (p : Nat) : Nat := (48 + p) * 512 + 13
abbrev CAND_PH_LIM_PS (p : Nat) : Fld := ⟨CAND_PH_LIM p, 0, 36⟩
/-- CAND.FR_LIM, offset 0x070 (spec/06_reference_candidates.md). -/
abbrev CAND_FR_LIM (p : Nat) : Nat := (48 + p) * 512 + 14
abbrev CAND_FR_LIM_Y (p : Nat) : Fld := ⟨CAND_FR_LIM p, 0, 36⟩
/-- CAND.NS_LIM, offset 0x078 (spec/06_reference_candidates.md). -/
abbrev CAND_NS_LIM (p : Nat) : Nat := (48 + p) * 512 + 15
abbrev CAND_NS_LIM_PS (p : Nat) : Fld := ⟨CAND_NS_LIM p, 0, 36⟩
/-- CAND.DELAY, offset 0x080 (spec/06_reference_candidates.md). -/
abbrev CAND_DELAY (p : Nat) : Nat := (48 + p) * 512 + 16
abbrev CAND_DELAY_S (p : Nat) : Fld := ⟨CAND_DELAY p, 0, 36⟩
/-- CAND.NOM, offset 0x090 (spec/06_reference_candidates.md). -/
abbrev CAND_NOM (p : Nat) : Nat := (48 + p) * 512 + 18
abbrev CAND_NOM_HZ (p : Nat) : Fld := ⟨CAND_NOM p, 0, 36⟩
/-- CAND.PTP_CFG, offset 0x098 (spec/06_reference_candidates.md). -/
abbrev CAND_PTP_CFG (p : Nat) : Nat := (48 + p) * 512 + 19
abbrev CAND_PTP_CFG_DOMAIN (p : Nat) : Fld := ⟨CAND_PTP_CFG p, 8, 8⟩
abbrev CAND_PTP_CFG_CLASS_MAX (p : Nat) : Fld := ⟨CAND_PTP_CFG p, 0, 8⟩
/-- CAND.QL_MIN, offset 0x0A0 (spec/06_reference_candidates.md). -/
abbrev CAND_QL_MIN (p : Nat) : Nat := (48 + p) * 512 + 20
abbrev CAND_QL_MIN_SSM (p : Nat) : Fld := ⟨CAND_QL_MIN p, 0, 4⟩
/-- CAND.OFFSET, offset 0x0A8 (spec/06_reference_candidates.md). -/
abbrev CAND_OFFSET (p : Nat) : Nat := (48 + p) * 512 + 21
abbrev CAND_OFFSET_S (p : Nat) : Fld := ⟨CAND_OFFSET p, 0, 36⟩
/-- CAND.DIFF, offset 0x0B8 (spec/06_reference_candidates.md). -/
abbrev CAND_DIFF (p : Nat) : Nat := (48 + p) * 512 + 23
abbrev CAND_DIFF_S (p : Nat) : Fld := ⟨CAND_DIFF p, 0, 36⟩
/-- CAND.FREQ, offset 0x0C8 (spec/06_reference_candidates.md). -/
abbrev CAND_FREQ (p : Nat) : Nat := (48 + p) * 512 + 25
abbrev CAND_FREQ_Y (p : Nat) : Fld := ⟨CAND_FREQ p, 0, 36⟩
/-- CAND.NOISE, offset 0x0D0 (spec/06_reference_candidates.md). -/
abbrev CAND_NOISE (p : Nat) : Nat := (48 + p) * 512 + 26
abbrev CAND_NOISE_PS (p : Nat) : Fld := ⟨CAND_NOISE p, 0, 36⟩
/-- CAND.QUAL_LEFT, offset 0x0D8 (spec/06_reference_candidates.md). -/
abbrev CAND_QUAL_LEFT (p : Nat) : Nat := (48 + p) * 512 + 27
abbrev CAND_QUAL_LEFT_S (p : Nat) : Fld := ⟨CAND_QUAL_LEFT p, 0, 12⟩
/-- CAND.WTR_LEFT, offset 0x0E0 (spec/06_reference_candidates.md). -/
abbrev CAND_WTR_LEFT (p : Nat) : Nat := (48 + p) * 512 + 28
abbrev CAND_WTR_LEFT_S (p : Nat) : Fld := ⟨CAND_WTR_LEFT p, 0, 12⟩
/-- CAND.SAMPLES, offset 0x0E8 (spec/06_reference_candidates.md). -/
abbrev CAND_SAMPLES (p : Nat) : Nat := (48 + p) * 512 + 29
abbrev CAND_SAMPLES_COUNT (p : Nat) : Fld := ⟨CAND_SAMPLES p, 0, 36⟩
/-- CAND.HITS, offset 0x0F0 (spec/06_reference_candidates.md). -/
abbrev CAND_HITS (p : Nat) : Nat := (48 + p) * 512 + 30
abbrev CAND_HITS_COUNT (p : Nat) : Fld := ⟨CAND_HITS p, 0, 36⟩
/-- CAND.LOSSES, offset 0x0F8 (spec/06_reference_candidates.md). -/
abbrev CAND_LOSSES (p : Nat) : Nat := (48 + p) * 512 + 31
abbrev CAND_LOSSES_COUNT (p : Nat) : Fld := ⟨CAND_LOSSES p, 0, 36⟩
/-- CAND.ESMC, offset 0x100 (spec/06_reference_candidates.md). -/
abbrev CAND_ESMC (p : Nat) : Nat := (48 + p) * 512 + 32
abbrev CAND_ESMC_ENH (p : Nat) : Fld := ⟨CAND_ESMC p, 8, 8⟩
abbrev CAND_ESMC_SSM (p : Nat) : Fld := ⟨CAND_ESMC p, 0, 4⟩
/-- CAND.NOISE_WIN, offset 0x400 (spec/06_reference_candidates.md). -/
abbrev CAND_NOISE_WIN (p : Nat) : Nat := (48 + p) * 512 + 128
abbrev CAND_NOISE_WIN_N (p : Nat) : Fld := ⟨CAND_NOISE_WIN p, 0, 11⟩
/-- CAND.TIMEOUT, offset 0x408 (spec/06_reference_candidates.md). -/
abbrev CAND_TIMEOUT (p : Nat) : Nat := (48 + p) * 512 + 129
abbrev CAND_TIMEOUT_MS (p : Nat) : Fld := ⟨CAND_TIMEOUT p, 0, 16⟩
/-- SRV.STATUS, offset 0x040 (spec/07_discipline_and_holdover.md). -/
abbrev SRV_STATUS : Nat := 16904
abbrev SRV_STATUS_BW_NOW : Fld := ⟨SRV_STATUS, 16, 5⟩
abbrev SRV_STATUS_SLOT : Fld := ⟨SRV_STATUS, 12, 4⟩
abbrev SRV_STATUS_HOST : Fld := ⟨SRV_STATUS, 5, 1⟩
abbrev SRV_STATUS_BW_LIMITED : Fld := ⟨SRV_STATUS, 4, 1⟩
abbrev SRV_STATUS_CLAMP : Fld := ⟨SRV_STATUS, 3, 1⟩
abbrev SRV_STATUS_STATE : Fld := ⟨SRV_STATUS, 0, 3⟩
/-- SRV.BW, offset 0x048 (spec/07_discipline_and_holdover.md). -/
abbrev SRV_BW : Nat := 16905
abbrev SRV_BW_DAMP : Fld := ⟨SRV_BW, 8, 2⟩
abbrev SRV_BW_TRK : Fld := ⟨SRV_BW, 0, 5⟩
/-- SRV.BW_ACQ, offset 0x050 (spec/07_discipline_and_holdover.md). -/
abbrev SRV_BW_ACQ : Nat := 16906
abbrev SRV_BW_ACQ_ACQ : Fld := ⟨SRV_BW_ACQ, 0, 5⟩
/-- SRV.FREQ_LIM, offset 0x058 (spec/07_discipline_and_holdover.md). -/
abbrev SRV_FREQ_LIM : Nat := 16907
abbrev SRV_FREQ_LIM_Y : Fld := ⟨SRV_FREQ_LIM, 0, 36⟩
/-- SRV.LOCK_PH, offset 0x060 (spec/07_discipline_and_holdover.md). -/
abbrev SRV_LOCK_PH : Nat := 16908
abbrev SRV_LOCK_PH_PS : Fld := ⟨SRV_LOCK_PH, 0, 36⟩
/-- SRV.LOCK_TIME, offset 0x068 (spec/07_discipline_and_holdover.md). -/
abbrev SRV_LOCK_TIME : Nat := 16909
abbrev SRV_LOCK_TIME_S : Fld := ⟨SRV_LOCK_TIME, 0, 12⟩
/-- SRV.UNLOCK_PH, offset 0x070 (spec/07_discipline_and_holdover.md). -/
abbrev SRV_UNLOCK_PH : Nat := 16910
abbrev SRV_UNLOCK_PH_PS : Fld := ⟨SRV_UNLOCK_PH, 0, 36⟩
/-- SRV.OFFSET_LAST, offset 0x078 (spec/07_discipline_and_holdover.md). -/
abbrev SRV_OFFSET_LAST : Nat := 16911
abbrev SRV_OFFSET_LAST_S : Fld := ⟨SRV_OFFSET_LAST, 0, 36⟩
/-- SRV.FREQ_OUT, offset 0x088 (spec/07_discipline_and_holdover.md). -/
abbrev SRV_FREQ_OUT : Nat := 16913
abbrev SRV_FREQ_OUT_Y : Fld := ⟨SRV_FREQ_OUT, 0, 36⟩
/-- SRV.INTEG, offset 0x090 (spec/07_discipline_and_holdover.md). -/
abbrev SRV_INTEG : Nat := 16914
abbrev SRV_INTEG_Y : Fld := ⟨SRV_INTEG, 0, 36⟩
/-- SRV.RESIDUAL, offset 0x098 (spec/07_discipline_and_holdover.md). -/
abbrev SRV_RESIDUAL : Nat := 16915
abbrev SRV_RESIDUAL_PS : Fld := ⟨SRV_RESIDUAL, 0, 36⟩
/-- SRV.SAMPLES, offset 0x0A0 (spec/07_discipline_and_holdover.md). -/
abbrev SRV_SAMPLES : Nat := 16916
abbrev SRV_SAMPLES_COUNT : Fld := ⟨SRV_SAMPLES, 0, 36⟩
/-- SRV.LOCKS, offset 0x0A8 (spec/07_discipline_and_holdover.md). -/
abbrev SRV_LOCKS : Nat := 16917
abbrev SRV_LOCKS_COUNT : Fld := ⟨SRV_LOCKS, 0, 36⟩
/-- SRV.UNLOCKS, offset 0x0B0 (spec/07_discipline_and_holdover.md). -/
abbrev SRV_UNLOCKS : Nat := 16918
abbrev SRV_UNLOCKS_COUNT : Fld := ⟨SRV_UNLOCKS, 0, 36⟩
/-- SRV.CLAMPS, offset 0x0B8 (spec/07_discipline_and_holdover.md). -/
abbrev SRV_CLAMPS : Nat := 16919
abbrev SRV_CLAMPS_COUNT : Fld := ⟨SRV_CLAMPS, 0, 36⟩
/-- SRV.FEED_CTRL, offset 0x400 (spec/07_discipline_and_holdover.md). -/
abbrev SRV_FEED_CTRL : Nat := 17024
abbrev SRV_FEED_CTRL_RATE : Fld := ⟨SRV_FEED_CTRL, 1, 15⟩
abbrev SRV_FEED_CTRL_HOST : Fld := ⟨SRV_FEED_CTRL, 0, 1⟩
/-- SRV.OFFSET_FEED, offset 0x408 (spec/07_discipline_and_holdover.md). -/
abbrev SRV_OFFSET_FEED : Nat := 17025
abbrev SRV_OFFSET_FEED_S : Fld := ⟨SRV_OFFSET_FEED, 0, 36⟩
/-- SRV.HOST_ACC, offset 0x418 (spec/07_discipline_and_holdover.md). -/
abbrev SRV_HOST_ACC : Nat := 17027
abbrev SRV_HOST_ACC_PS : Fld := ⟨SRV_HOST_ACC, 0, 36⟩
/-- SRV.FEED_REJ, offset 0x420 (spec/07_discipline_and_holdover.md). -/
abbrev SRV_FEED_REJ : Nat := 17028
abbrev SRV_FEED_REJ_COUNT : Fld := ⟨SRV_FEED_REJ, 0, 36⟩
/-- SRV.FEED_OVERRUN, offset 0x428 (spec/07_discipline_and_holdover.md). -/
abbrev SRV_FEED_OVERRUN : Nat := 17029
abbrev SRV_FEED_OVERRUN_COUNT : Fld := ⟨SRV_FEED_OVERRUN, 0, 36⟩
/-- HOLD.STATUS, offset 0x040 (spec/07_discipline_and_holdover.md). -/
abbrev HOLD_STATUS : Nat := 17416
abbrev HOLD_STATUS_SEGMENT : Fld := ⟨HOLD_STATUS, 5, 1⟩
abbrev HOLD_STATUS_RESTORED : Fld := ⟨HOLD_STATUS, 4, 1⟩
abbrev HOLD_STATUS_LEARN : Fld := ⟨HOLD_STATUS, 2, 2⟩
abbrev HOLD_STATUS_MODEL : Fld := ⟨HOLD_STATUS, 1, 1⟩
abbrev HOLD_STATUS_IN_HOLD : Fld := ⟨HOLD_STATUS, 0, 1⟩
/-- HOLD.WINDOW, offset 0x048 (spec/07_discipline_and_holdover.md). -/
abbrev HOLD_WINDOW : Nat := 17417
abbrev HOLD_WINDOW_S : Fld := ⟨HOLD_WINDOW, 0, 17⟩
/-- HOLD.EXCLUDE, offset 0x050 (spec/07_discipline_and_holdover.md). -/
abbrev HOLD_EXCLUDE : Nat := 17418
abbrev HOLD_EXCLUDE_S : Fld := ⟨HOLD_EXCLUDE, 0, 10⟩
/-- HOLD.LEARNED, offset 0x058 (spec/07_discipline_and_holdover.md). -/
abbrev HOLD_LEARNED : Nat := 17419
abbrev HOLD_LEARNED_S : Fld := ⟨HOLD_LEARNED, 0, 24⟩
/-- HOLD.Y0, offset 0x060 (spec/07_discipline_and_holdover.md). -/
abbrev HOLD_Y0 : Nat := 17420
abbrev HOLD_Y0_Y : Fld := ⟨HOLD_Y0, 0, 36⟩
/-- HOLD.AGE, offset 0x068 (spec/07_discipline_and_holdover.md). -/
abbrev HOLD_AGE : Nat := 17421
abbrev HOLD_AGE_Y : Fld := ⟨HOLD_AGE, 0, 36⟩
/-- HOLD.TC, offset 0x070 (spec/07_discipline_and_holdover.md). -/
abbrev HOLD_TC : Nat := 17422
abbrev HOLD_TC_Y : Fld := ⟨HOLD_TC, 0, 36⟩
/-- HOLD.TEMP, offset 0x078 (spec/07_discipline_and_holdover.md). -/
abbrev HOLD_TEMP : Nat := 17423
abbrev HOLD_TEMP_T : Fld := ⟨HOLD_TEMP, 0, 18⟩
/-- HOLD.TEMP0, offset 0x080 (spec/07_discipline_and_holdover.md). -/
abbrev HOLD_TEMP0 : Nat := 17424
abbrev HOLD_TEMP0_T : Fld := ⟨HOLD_TEMP0, 0, 18⟩
/-- HOLD.ENTER_T, offset 0x088 (spec/07_discipline_and_holdover.md). -/
abbrev HOLD_ENTER_T : Nat := 17425
abbrev HOLD_ENTER_T_T : Fld := ⟨HOLD_ENTER_T, 0, 36⟩
/-- HOLD.ELAPSED, offset 0x0A0 (spec/07_discipline_and_holdover.md). -/
abbrev HOLD_ELAPSED : Nat := 17428
abbrev HOLD_ELAPSED_S : Fld := ⟨HOLD_ELAPSED, 0, 36⟩
/-- HOLD.ENVELOPE, offset 0x0A8 (spec/07_discipline_and_holdover.md). -/
abbrev HOLD_ENVELOPE : Nat := 17429
abbrev HOLD_ENVELOPE_PS : Fld := ⟨HOLD_ENVELOPE, 0, 36⟩
/-- HOLD.PRED_Y, offset 0x0B0 (spec/07_discipline_and_holdover.md). -/
abbrev HOLD_PRED_Y : Nat := 17430
abbrev HOLD_PRED_Y_Y : Fld := ⟨HOLD_PRED_Y, 0, 36⟩
/-- HOLD.ENTRIES, offset 0x0B8 (spec/07_discipline_and_holdover.md). -/
abbrev HOLD_ENTRIES : Nat := 17431
abbrev HOLD_ENTRIES_COUNT : Fld := ⟨HOLD_ENTRIES, 0, 36⟩
/-- HOLD.REC_PERIOD, offset 0x0C0 (spec/07_discipline_and_holdover.md). -/
abbrev HOLD_REC_PERIOD : Nat := 17432
abbrev HOLD_REC_PERIOD_S : Fld := ⟨HOLD_REC_PERIOD, 0, 17⟩
/-- HOLD.UNC_A, offset 0x400 (spec/07_discipline_and_holdover.md). -/
abbrev HOLD_UNC_A : Nat := 17536
abbrev HOLD_UNC_A_PS : Fld := ⟨HOLD_UNC_A, 0, 36⟩
/-- HOLD.UNC_B, offset 0x408 (spec/07_discipline_and_holdover.md). -/
abbrev HOLD_UNC_B : Nat := 17537
abbrev HOLD_UNC_B_Y : Fld := ⟨HOLD_UNC_B, 0, 36⟩
/-- HOLD.UNC_C, offset 0x410 (spec/07_discipline_and_holdover.md). -/
abbrev HOLD_UNC_C : Nat := 17538
abbrev HOLD_UNC_C_Y : Fld := ⟨HOLD_UNC_C, 0, 36⟩
/-- HOLD.UNC_T, offset 0x418 (spec/07_discipline_and_holdover.md). -/
abbrev HOLD_UNC_T : Nat := 17539
abbrev HOLD_UNC_T_Y : Fld := ⟨HOLD_UNC_T, 0, 36⟩
/-- HOLD.OCXO_B, offset 0x420 (spec/07_discipline_and_holdover.md). -/
abbrev HOLD_OCXO_B : Nat := 17540
abbrev HOLD_OCXO_B_Y : Fld := ⟨HOLD_OCXO_B, 0, 36⟩
/-- HOLD.OCXO_C, offset 0x428 (spec/07_discipline_and_holdover.md). -/
abbrev HOLD_OCXO_C : Nat := 17541
abbrev HOLD_OCXO_C_Y : Fld := ⟨HOLD_OCXO_C, 0, 36⟩
/-- HOLD.OCXO_T, offset 0x430 (spec/07_discipline_and_holdover.md). -/
abbrev HOLD_OCXO_T : Nat := 17542
abbrev HOLD_OCXO_T_Y : Fld := ⟨HOLD_OCXO_T, 0, 36⟩
/-- PLL.STATUS, offset 0x040 (spec/08_synthesis_and_outputs.md). -/
abbrev PLL_STATUS (p : Nat) : Nat := (64 + p) * 512 + 8
abbrev PLL_STATUS_BAND (p : Nat) : Fld := ⟨PLL_STATUS p, 10, 6⟩
abbrev PLL_STATUS_TRIES (p : Nat) : Fld := ⟨PLL_STATUS p, 4, 4⟩
abbrev PLL_STATUS_REF_OK (p : Nat) : Fld := ⟨PLL_STATUS p, 3, 1⟩
abbrev PLL_STATUS_STATE (p : Nat) : Fld := ⟨PLL_STATUS p, 0, 3⟩
/-- PLL.FREQ, offset 0x048 (spec/08_synthesis_and_outputs.md). -/
abbrev PLL_FREQ (p : Nat) : Nat := (64 + p) * 512 + 9
abbrev PLL_FREQ_F (p : Nat) : Fld := ⟨PLL_FREQ p, 0, 36⟩
/-- PLL.DIV1, offset 0x050 (spec/08_synthesis_and_outputs.md). -/
abbrev PLL_DIV1 (p : Nat) : Nat := (64 + p) * 512 + 10
abbrev PLL_DIV1_D1 (p : Nat) : Fld := ⟨PLL_DIV1 p, 0, 9⟩
/-- PLL.DIV2, offset 0x058 (spec/08_synthesis_and_outputs.md). -/
abbrev PLL_DIV2 (p : Nat) : Nat := (64 + p) * 512 + 11
abbrev PLL_DIV2_D2 (p : Nat) : Fld := ⟨PLL_DIV2 p, 0, 30⟩
/-- PLL.VCO, offset 0x060 (spec/08_synthesis_and_outputs.md). -/
abbrev PLL_VCO (p : Nat) : Nat := (64 + p) * 512 + 12
abbrev PLL_VCO_MHZ (p : Nat) : Fld := ⟨PLL_VCO p, 0, 14⟩
/-- PLL.LOCK_US, offset 0x068 (spec/08_synthesis_and_outputs.md). -/
abbrev PLL_LOCK_US (p : Nat) : Nat := (64 + p) * 512 + 13
abbrev PLL_LOCK_US_US (p : Nat) : Fld := ⟨PLL_LOCK_US p, 0, 10⟩
/-- PLL.CMD, offset 0x070 (spec/08_synthesis_and_outputs.md). -/
abbrev PLL_CMD (p : Nat) : Nat := (64 + p) * 512 + 14
abbrev PLL_CMD_STATUS (p : Nat) : Fld := ⟨PLL_CMD p, 32, 4⟩
abbrev PLL_CMD_OP (p : Nat) : Fld := ⟨PLL_CMD p, 0, 2⟩
/-- PLL.LOCKS, offset 0x078 (spec/08_synthesis_and_outputs.md). -/
abbrev PLL_LOCKS (p : Nat) : Nat := (64 + p) * 512 + 15
abbrev PLL_LOCKS_COUNT (p : Nat) : Fld := ⟨PLL_LOCKS p, 0, 36⟩
/-- PLL.UNLOCKS, offset 0x080 (spec/08_synthesis_and_outputs.md). -/
abbrev PLL_UNLOCKS (p : Nat) : Nat := (64 + p) * 512 + 16
abbrev PLL_UNLOCKS_COUNT (p : Nat) : Fld := ⟨PLL_UNLOCKS p, 0, 36⟩
/-- PLL.REF_LOSSES, offset 0x088 (spec/08_synthesis_and_outputs.md). -/
abbrev PLL_REF_LOSSES (p : Nat) : Nat := (64 + p) * 512 + 17
abbrev PLL_REF_LOSSES_COUNT (p : Nat) : Fld := ⟨PLL_REF_LOSSES p, 0, 36⟩
/-- PLL.LOCK_WIN, offset 0x400 (spec/08_synthesis_and_outputs.md). -/
abbrev PLL_LOCK_WIN (p : Nat) : Nat := (64 + p) * 512 + 128
abbrev PLL_LOCK_WIN_PS (p : Nat) : Fld := ⟨PLL_LOCK_WIN p, 0, 36⟩
/-- PLL.UNLOCK_WIN, offset 0x408 (spec/08_synthesis_and_outputs.md). -/
abbrev PLL_UNLOCK_WIN (p : Nat) : Nat := (64 + p) * 512 + 129
abbrev PLL_UNLOCK_WIN_PS (p : Nat) : Fld := ⟨PLL_UNLOCK_WIN p, 0, 36⟩
/-- PLL.RETRY_MAX, offset 0x410 (spec/08_synthesis_and_outputs.md). -/
abbrev PLL_RETRY_MAX (p : Nat) : Nat := (64 + p) * 512 + 130
abbrev PLL_RETRY_MAX_N (p : Nat) : Fld := ⟨PLL_RETRY_MAX p, 0, 4⟩
/-- OUT.STAT, offset 0x040 (spec/08_synthesis_and_outputs.md). -/
abbrev OUT_STAT : Nat := 17928
abbrev OUT_STAT_PULSE : Fld := ⟨OUT_STAT, 16, 16⟩
abbrev OUT_STAT_CLK : Fld := ⟨OUT_STAT, 0, 16⟩
/-- OUT.REALIGN, offset 0x048 (spec/08_synthesis_and_outputs.md). -/
abbrev OUT_REALIGN : Nat := 17929
abbrev OUT_REALIGN_STATUS : Fld := ⟨OUT_REALIGN, 32, 4⟩
abbrev OUT_REALIGN_PULSE : Fld := ⟨OUT_REALIGN, 4, 4⟩
abbrev OUT_REALIGN_CLK : Fld := ⟨OUT_REALIGN, 0, 4⟩
/-- OUT.CLK_CFG0 to 3, offset 0x050 (spec/08_synthesis_and_outputs.md). -/
abbrev OUT_CLK_CFG (i : Nat) : Nat := 17930 + i
abbrev OUT_CLK_CFG_SQUELCH (i : Nat) : Fld := ⟨OUT_CLK_CFG i, 11, 1⟩
abbrev OUT_CLK_CFG_START (i : Nat) : Fld := ⟨OUT_CLK_CFG i, 9, 2⟩
abbrev OUT_CLK_CFG_ALIGN (i : Nat) : Fld := ⟨OUT_CLK_CFG i, 8, 1⟩
abbrev OUT_CLK_CFG_INVERT (i : Nat) : Fld := ⟨OUT_CLK_CFG i, 7, 1⟩
abbrev OUT_CLK_CFG_SWING (i : Nat) : Fld := ⟨OUT_CLK_CFG i, 5, 2⟩
abbrev OUT_CLK_CFG_BYPASS_OK (i : Nat) : Fld := ⟨OUT_CLK_CFG i, 4, 1⟩
abbrev OUT_CLK_CFG_PLL (i : Nat) : Fld := ⟨OUT_CLK_CFG i, 2, 2⟩
abbrev OUT_CLK_CFG_EN (i : Nat) : Fld := ⟨OUT_CLK_CFG i, 0, 1⟩
/-- OUT.PULSE_CFG0 to 3, offset 0x070 (spec/08_synthesis_and_outputs.md). -/
abbrev OUT_PULSE_CFG (i : Nat) : Nat := 17934 + i
abbrev OUT_PULSE_CFG_SQUELCH (i : Nat) : Fld := ⟨OUT_PULSE_CFG i, 11, 1⟩
abbrev OUT_PULSE_CFG_START (i : Nat) : Fld := ⟨OUT_PULSE_CFG i, 9, 2⟩
abbrev OUT_PULSE_CFG_EPOCH (i : Nat) : Fld := ⟨OUT_PULSE_CFG i, 8, 1⟩
abbrev OUT_PULSE_CFG_INVERT (i : Nat) : Fld := ⟨OUT_PULSE_CFG i, 7, 1⟩
abbrev OUT_PULSE_CFG_EN (i : Nat) : Fld := ⟨OUT_PULSE_CFG i, 0, 1⟩
/-- OUT.PULSE_PERIOD0 to 3, offset 0x090 (spec/08_synthesis_and_outputs.md). -/
abbrev OUT_PULSE_PERIOD (i : Nat) : Nat := 17938 + i
abbrev OUT_PULSE_PERIOD_NS (i : Nat) : Fld := ⟨OUT_PULSE_PERIOD i, 0, 36⟩
/-- OUT.PULSE_WIDTH0 to 3, offset 0x0B0 (spec/08_synthesis_and_outputs.md). -/
abbrev OUT_PULSE_WIDTH (i : Nat) : Nat := 17942 + i
abbrev OUT_PULSE_WIDTH_NS (i : Nat) : Fld := ⟨OUT_PULSE_WIDTH i, 0, 36⟩
/-- OUT.PULSE_FRAME0 to 3, offset 0x0D0 (spec/08_synthesis_and_outputs.md). -/
abbrev OUT_PULSE_FRAME (i : Nat) : Nat := 17946 + i
abbrev OUT_PULSE_FRAME_N (i : Nat) : Fld := ⟨OUT_PULSE_FRAME i, 20, 16⟩
abbrev OUT_PULSE_FRAME_MULT (i : Nat) : Fld := ⟨OUT_PULSE_FRAME i, 0, 16⟩
/-- OUT.CLK_COMP0 to 3, offset 0x0F0 (spec/08_synthesis_and_outputs.md). -/
abbrev OUT_CLK_COMP (i : Nat) : Nat := 17950 + i
abbrev OUT_CLK_COMP_PS (i : Nat) : Fld := ⟨OUT_CLK_COMP i, 0, 36⟩
/-- OUT.PULSE_COMP0 to 3, offset 0x110 (spec/08_synthesis_and_outputs.md). -/
abbrev OUT_PULSE_COMP (i : Nat) : Nat := 17954 + i
abbrev OUT_PULSE_COMP_PS (i : Nat) : Fld := ⟨OUT_PULSE_COMP i, 0, 36⟩
/-- OUT.MISALIGN_C0 to 3, offset 0x130 (spec/08_synthesis_and_outputs.md). -/
abbrev OUT_MISALIGN_C (i : Nat) : Nat := 17958 + 2 * i
abbrev OUT_MISALIGN_C_S (i : Nat) : Fld := ⟨OUT_MISALIGN_C i, 0, 36⟩
/-- OUT.MISALIGN_P0 to 3, offset 0x170 (spec/08_synthesis_and_outputs.md). -/
abbrev OUT_MISALIGN_P (i : Nat) : Nat := 17966 + 2 * i
abbrev OUT_MISALIGN_P_S (i : Nat) : Fld := ⟨OUT_MISALIGN_P i, 0, 36⟩
/-- OUT.BYPASSES, offset 0x1B0 (spec/08_synthesis_and_outputs.md). -/
abbrev OUT_BYPASSES : Nat := 17974
abbrev OUT_BYPASSES_COUNT : Fld := ⟨OUT_BYPASSES, 0, 36⟩
/-- OUT.REALIGNS, offset 0x1B8 (spec/08_synthesis_and_outputs.md). -/
abbrev OUT_REALIGNS : Nat := 17975
abbrev OUT_REALIGNS_COUNT : Fld := ⟨OUT_REALIGNS, 0, 36⟩
/-- OUT.CLK_SLEW, offset 0x400 (spec/08_synthesis_and_outputs.md). -/
abbrev OUT_CLK_SLEW : Nat := 18048
abbrev OUT_CLK_SLEW_PS_PER_US : Fld := ⟨OUT_CLK_SLEW, 0, 10⟩
/-- TIC.CFG, offset 0x040 (spec/09_interval_counters.md). -/
abbrev TIC_CFG (p : Nat) : Nat := (72 + p) * 512 + 8
abbrev TIC_CFG_STOP_SRC (p : Nat) : Fld := ⟨TIC_CFG p, 19, 5⟩
abbrev TIC_CFG_STOP_EDGE (p : Nat) : Fld := ⟨TIC_CFG p, 18, 1⟩
abbrev TIC_CFG_START_SRC (p : Nat) : Fld := ⟨TIC_CFG p, 11, 5⟩
abbrev TIC_CFG_START_EDGE (p : Nat) : Fld := ⟨TIC_CFG p, 10, 1⟩
abbrev TIC_CFG_ORDER (p : Nat) : Fld := ⟨TIC_CFG p, 0, 1⟩
/-- TIC.HOLDOFF, offset 0x048 (spec/09_interval_counters.md). -/
abbrev TIC_HOLDOFF (p : Nat) : Nat := (72 + p) * 512 + 9
abbrev TIC_HOLDOFF_NS (p : Nat) : Fld := ⟨TIC_HOLDOFF p, 0, 36⟩
/-- TIC.SKIP, offset 0x050 (spec/09_interval_counters.md). -/
abbrev TIC_SKIP (p : Nat) : Nat := (72 + p) * 512 + 10
abbrev TIC_SKIP_N (p : Nat) : Fld := ⟨TIC_SKIP p, 0, 24⟩
/-- TIC.TIMEOUT, offset 0x058 (spec/09_interval_counters.md). -/
abbrev TIC_TIMEOUT (p : Nat) : Nat := (72 + p) * 512 + 11
abbrev TIC_TIMEOUT_MS (p : Nat) : Fld := ⟨TIC_TIMEOUT p, 0, 16⟩
/-- TIC.CMD, offset 0x060 (spec/09_interval_counters.md). -/
abbrev TIC_CMD (p : Nat) : Nat := (72 + p) * 512 + 12
abbrev TIC_CMD_STATUS (p : Nat) : Fld := ⟨TIC_CMD p, 32, 4⟩
abbrev TIC_CMD_OP (p : Nat) : Fld := ⟨TIC_CMD p, 0, 4⟩
/-- TIC.ARM_AT, offset 0x068 (spec/09_interval_counters.md). -/
abbrev TIC_ARM_AT (p : Nat) : Nat := (72 + p) * 512 + 13
abbrev TIC_ARM_AT_T (p : Nat) : Fld := ⟨TIC_ARM_AT p, 0, 36⟩
/-- TIC.STATUS, offset 0x080 (spec/09_interval_counters.md). -/
abbrev TIC_STATUS (p : Nat) : Nat := (72 + p) * 512 + 16
abbrev TIC_STATUS_CAL_STALE (p : Nat) : Fld := ⟨TIC_STATUS p, 8, 1⟩
abbrev TIC_STATUS_CAL_VALID (p : Nat) : Fld := ⟨TIC_STATUS p, 7, 1⟩
abbrev TIC_STATUS_LATE_ARM (p : Nat) : Fld := ⟨TIC_STATUS p, 6, 1⟩
abbrev TIC_STATUS_STOP_OK (p : Nat) : Fld := ⟨TIC_STATUS p, 5, 1⟩
abbrev TIC_STATUS_START_OK (p : Nat) : Fld := ⟨TIC_STATUS p, 4, 1⟩
abbrev TIC_STATUS_STATE (p : Nat) : Fld := ⟨TIC_STATUS p, 0, 3⟩
/-- TIC.START_RAW, offset 0x088 (spec/09_interval_counters.md). -/
abbrev TIC_START_RAW (p : Nat) : Nat := (72 + p) * 512 + 17
abbrev TIC_START_RAW_RAW (p : Nat) : Fld := ⟨TIC_START_RAW p, 0, 36⟩
/-- TIC.STOP_RAW, offset 0x090 (spec/09_interval_counters.md). -/
abbrev TIC_STOP_RAW (p : Nat) : Nat := (72 + p) * 512 + 18
abbrev TIC_STOP_RAW_RAW (p : Nat) : Fld := ⟨TIC_STOP_RAW p, 0, 36⟩
/-- TIC.START_T, offset 0x098 (spec/09_interval_counters.md). -/
abbrev TIC_START_T (p : Nat) : Nat := (72 + p) * 512 + 19
abbrev TIC_START_T_T (p : Nat) : Fld := ⟨TIC_START_T p, 0, 36⟩
/-- TIC.STOP_T, offset 0x0B0 (spec/09_interval_counters.md). -/
abbrev TIC_STOP_T (p : Nat) : Nat := (72 + p) * 512 + 22
abbrev TIC_STOP_T_T (p : Nat) : Fld := ⟨TIC_STOP_T p, 0, 36⟩
/-- TIC.STEP_SUM, offset 0x0C8 (spec/09_interval_counters.md). -/
abbrev TIC_STEP_SUM (p : Nat) : Nat := (72 + p) * 512 + 25
abbrev TIC_STEP_SUM_S (p : Nat) : Fld := ⟨TIC_STEP_SUM p, 0, 36⟩
/-- TIC.MEASURES, offset 0x0D8 (spec/09_interval_counters.md). -/
abbrev TIC_MEASURES (p : Nat) : Nat := (72 + p) * 512 + 27
abbrev TIC_MEASURES_COUNT (p : Nat) : Fld := ⟨TIC_MEASURES p, 0, 36⟩
/-- TIC.TIMEOUTS, offset 0x0E0 (spec/09_interval_counters.md). -/
abbrev TIC_TIMEOUTS (p : Nat) : Nat := (72 + p) * 512 + 28
abbrev TIC_TIMEOUTS_COUNT (p : Nat) : Fld := ⟨TIC_TIMEOUTS p, 0, 36⟩
/-- TIC.CAL_STAT, offset 0x0E8 (spec/09_interval_counters.md). -/
abbrev TIC_CAL_STAT (p : Nat) : Nat := (72 + p) * 512 + 29
abbrev TIC_CAL_STAT_TEMP (p : Nat) : Fld := ⟨TIC_CAL_STAT p, 3, 18⟩
abbrev TIC_CAL_STAT_WHY (p : Nat) : Fld := ⟨TIC_CAL_STAT p, 0, 3⟩
/-- TIC.CAL_COUNT, offset 0x0F0 (spec/09_interval_counters.md). -/
abbrev TIC_CAL_COUNT (p : Nat) : Nat := (72 + p) * 512 + 30
abbrev TIC_CAL_COUNT_COUNT (p : Nat) : Fld := ⟨TIC_CAL_COUNT p, 0, 36⟩
/-- TIC.CAL_FAILS, offset 0x0F8 (spec/09_interval_counters.md). -/
abbrev TIC_CAL_FAILS (p : Nat) : Nat := (72 + p) * 512 + 31
abbrev TIC_CAL_FAILS_COUNT (p : Nat) : Fld := ⟨TIC_CAL_FAILS p, 0, 36⟩
/-- TIC.START_PATH, offset 0x100 (spec/09_interval_counters.md). -/
abbrev TIC_START_PATH (p : Nat) : Nat := (72 + p) * 512 + 32
abbrev TIC_START_PATH_PS (p : Nat) : Fld := ⟨TIC_START_PATH p, 0, 36⟩
/-- TIC.STOP_PATH, offset 0x108 (spec/09_interval_counters.md). -/
abbrev TIC_STOP_PATH (p : Nat) : Nat := (72 + p) * 512 + 33
abbrev TIC_STOP_PATH_PS (p : Nat) : Fld := ⟨TIC_STOP_PATH p, 0, 36⟩
/-- TIC.RH_PAIRS, offset 0x110 (spec/09_interval_counters.md). -/
abbrev TIC_RH_PAIRS (p : Nat) : Nat := (72 + p) * 512 + 34
abbrev TIC_RH_PAIRS_UNCAL (p : Nat) : Fld := ⟨TIC_RH_PAIRS p, 16, 8⟩
abbrev TIC_RH_PAIRS_FAILED (p : Nat) : Fld := ⟨TIC_RH_PAIRS p, 0, 16⟩
/-- TIC.RH_RECALS, offset 0x118 (spec/09_interval_counters.md). -/
abbrev TIC_RH_RECALS (p : Nat) : Nat := (72 + p) * 512 + 35
abbrev TIC_RH_RECALS_COUNT (p : Nat) : Fld := ⟨TIC_RH_RECALS p, 0, 36⟩
/-- TIC.CAL_CTRL, offset 0x400 (spec/09_interval_counters.md). -/
abbrev TIC_CAL_CTRL (p : Nat) : Nat := (72 + p) * 512 + 128
abbrev TIC_CAL_CTRL_DTEMP (p : Nat) : Fld := ⟨TIC_CAL_CTRL p, 8, 8⟩
abbrev TIC_CAL_CTRL_EDGES (p : Nat) : Fld := ⟨TIC_CAL_CTRL p, 1, 4⟩
abbrev TIC_CAL_CTRL_AUTO (p : Nat) : Fld := ⟨TIC_CAL_CTRL p, 0, 1⟩
/-- TIC.TAB_SEL, offset 0x408 (spec/09_interval_counters.md). -/
abbrev TIC_TAB_SEL (p : Nat) : Nat := (72 + p) * 512 + 129
abbrev TIC_TAB_SEL_CONV (p : Nat) : Fld := ⟨TIC_TAB_SEL p, 9, 1⟩
abbrev TIC_TAB_SEL_ENTRY (p : Nat) : Fld := ⟨TIC_TAB_SEL p, 0, 9⟩
/-- TIC.TAB_DATA, offset 0x410 (spec/09_interval_counters.md). -/
abbrev TIC_TAB_DATA (p : Nat) : Nat := (72 + p) * 512 + 130
abbrev TIC_TAB_DATA_W (p : Nat) : Fld := ⟨TIC_TAB_DATA p, 0, 36⟩
/-- GNS.STATUS, offset 0x040 (spec/10_gnss_receiver.md). -/
abbrev GNS_STATUS : Nat := 40968
abbrev GNS_STATUS_ANT : Fld := ⟨GNS_STATUS, 19, 3⟩
abbrev GNS_STATUS_ENGINE : Fld := ⟨GNS_STATUS, 16, 3⟩
abbrev GNS_STATUS_EXCL : Fld := ⟨GNS_STATUS, 11, 5⟩
abbrev GNS_STATUS_JAM : Fld := ⟨GNS_STATUS, 8, 1⟩
abbrev GNS_STATUS_SUSPECT : Fld := ⟨GNS_STATUS, 7, 1⟩
abbrev GNS_STATUS_TIME_OK : Fld := ⟨GNS_STATUS, 6, 1⟩
abbrev GNS_STATUS_POS : Fld := ⟨GNS_STATUS, 0, 3⟩
/-- GNS.CFG, offset 0x048 (spec/10_gnss_receiver.md). -/
abbrev GNS_CFG : Nat := 40969
abbrev GNS_CFG_SIG_EN : Fld := ⟨GNS_CFG, 12, 9⟩
abbrev GNS_CFG_TIME_REF : Fld := ⟨GNS_CFG, 8, 2⟩
abbrev GNS_CFG_UTCK : Fld := ⟨GNS_CFG, 7, 1⟩
abbrev GNS_CFG_POS_MODE : Fld := ⟨GNS_CFG, 3, 2⟩
/-- GNS.ANT_CTRL, offset 0x050 (spec/10_gnss_receiver.md). -/
abbrev GNS_ANT_CTRL : Nat := 40970
abbrev GNS_ANT_CTRL_BIAS : Fld := ⟨GNS_ANT_CTRL, 0, 2⟩
/-- GNS.ANT_MON, offset 0x058 (spec/10_gnss_receiver.md). -/
abbrev GNS_ANT_MON : Nat := 40971
abbrev GNS_ANT_MON_DV : Fld := ⟨GNS_ANT_MON, 8, 8⟩
abbrev GNS_ANT_MON_MA : Fld := ⟨GNS_ANT_MON, 0, 8⟩
/-- GNS.CABLE_DELAY, offset 0x060 (spec/10_gnss_receiver.md). -/
abbrev GNS_CABLE_DELAY : Nat := 40972
abbrev GNS_CABLE_DELAY_PS : Fld := ⟨GNS_CABLE_DELAY, 0, 36⟩
/-- GNS.SURVEY, offset 0x068 (spec/10_gnss_receiver.md). -/
abbrev GNS_SURVEY : Nat := 40973
abbrev GNS_SURVEY_TIME_S : Fld := ⟨GNS_SURVEY, 16, 16⟩
abbrev GNS_SURVEY_SIGMA : Fld := ⟨GNS_SURVEY, 0, 16⟩
/-- GNS.POS_FIXED0 to 2, offset 0x070 (spec/10_gnss_receiver.md). -/
abbrev GNS_POS_FIXED (i : Nat) : Nat := 40974 + i
abbrev GNS_POS_FIXED_MM (i : Nat) : Fld := ⟨GNS_POS_FIXED i, 0, 36⟩
/-- GNS.POS0 to 2, offset 0x088 (spec/10_gnss_receiver.md). -/
abbrev GNS_POS (i : Nat) : Nat := 40977 + i
abbrev GNS_POS_MM (i : Nat) : Fld := ⟨GNS_POS i, 0, 36⟩
/-- GNS.POS_QUAL, offset 0x0A0 (spec/10_gnss_receiver.md). -/
abbrev GNS_POS_QUAL : Nat := 40980
abbrev GNS_POS_QUAL_SATS : Fld := ⟨GNS_POS_QUAL, 16, 8⟩
abbrev GNS_POS_QUAL_SIGMA : Fld := ⟨GNS_POS_QUAL, 0, 16⟩
/-- GNS.SURVEY_LEFT, offset 0x0A8 (spec/10_gnss_receiver.md). -/
abbrev GNS_SURVEY_LEFT : Nat := 40981
abbrev GNS_SURVEY_LEFT_S : Fld := ⟨GNS_SURVEY_LEFT, 0, 16⟩
/-- GNS.TRACK, offset 0x0B0 (spec/10_gnss_receiver.md). -/
abbrev GNS_TRACK : Nat := 40982
abbrev GNS_TRACK_SATS : Fld := ⟨GNS_TRACK, 0, 30⟩
/-- GNS.CN0, offset 0x0B8 (spec/10_gnss_receiver.md). -/
abbrev GNS_CN0 : Nat := 40983
abbrev GNS_CN0_L5 : Fld := ⟨GNS_CN0, 8, 8⟩
abbrev GNS_CN0_L1 : Fld := ⟨GNS_CN0, 0, 8⟩
/-- GNS.CHECKS, offset 0x0C0 (spec/10_gnss_receiver.md). -/
abbrev GNS_CHECKS : Nat := 40984
abbrev GNS_CHECKS_RESULT : Fld := ⟨GNS_CHECKS, 0, 8⟩
/-- GNS.SUSPECT_LEFT, offset 0x0C8 (spec/10_gnss_receiver.md). -/
abbrev GNS_SUSPECT_LEFT : Nat := 40985
abbrev GNS_SUSPECT_LEFT_S : Fld := ⟨GNS_SUSPECT_LEFT, 0, 12⟩
/-- GNS.CMD, offset 0x0D0 (spec/10_gnss_receiver.md). -/
abbrev GNS_CMD : Nat := 40986
abbrev GNS_CMD_STATUS : Fld := ⟨GNS_CMD, 32, 4⟩
abbrev GNS_CMD_OP : Fld := ⟨GNS_CMD, 0, 4⟩
/-- GNS.CODE_DATA, offset 0x0D8 (spec/10_gnss_receiver.md). -/
abbrev GNS_CODE_DATA : Nat := 40987
abbrev GNS_CODE_DATA_W : Fld := ⟨GNS_CODE_DATA, 0, 36⟩
/-- GNS.SAMPLES, offset 0x0E0 (spec/10_gnss_receiver.md). -/
abbrev GNS_SAMPLES : Nat := 40988
abbrev GNS_SAMPLES_COUNT : Fld := ⟨GNS_SAMPLES, 0, 36⟩
/-- GNS.WITHHELD, offset 0x0E8 (spec/10_gnss_receiver.md). -/
abbrev GNS_WITHHELD : Nat := 40989
abbrev GNS_WITHHELD_COUNT : Fld := ⟨GNS_WITHHELD, 0, 36⟩
/-- GNS.SUSPECTS, offset 0x0F0 (spec/10_gnss_receiver.md). -/
abbrev GNS_SUSPECTS : Nat := 40990
abbrev GNS_SUSPECTS_COUNT : Fld := ⟨GNS_SUSPECTS, 0, 36⟩
/-- GNS.DROPPED, offset 0x0F8 (spec/10_gnss_receiver.md). -/
abbrev GNS_DROPPED : Nat := 40991
abbrev GNS_DROPPED_COUNT : Fld := ⟨GNS_DROPPED, 0, 36⟩
/-- GNS.CODE_HASH0 to 10, offset 0x100 (spec/10_gnss_receiver.md). -/
abbrev GNS_CODE_HASH (i : Nat) : Nat := 40992 + i
abbrev GNS_CODE_HASH_D (i : Nat) : Fld := ⟨GNS_CODE_HASH i, 0, 36⟩
/-- GNS.AXLE_CRC, offset 0x158 (spec/10_gnss_receiver.md). -/
abbrev GNS_AXLE_CRC : Nat := 41003
abbrev GNS_AXLE_CRC_COUNT : Fld := ⟨GNS_AXLE_CRC, 0, 36⟩
/-- GNS.AXLE_TRIM, offset 0x160 (spec/10_gnss_receiver.md). -/
abbrev GNS_AXLE_TRIM : Nat := 41004
abbrev GNS_AXLE_TRIM_COUNT : Fld := ⟨GNS_AXLE_TRIM, 0, 36⟩
/-- GNS.AXLE_SLIP, offset 0x168 (spec/10_gnss_receiver.md). -/
abbrev GNS_AXLE_SLIP : Nat := 41005
abbrev GNS_AXLE_SLIP_COUNT : Fld := ⟨GNS_AXLE_SLIP, 0, 36⟩
/-- GNS.AXLE_FAULT, offset 0x170 (spec/10_gnss_receiver.md). -/
abbrev GNS_AXLE_FAULT : Nat := 41006
abbrev GNS_AXLE_FAULT_COUNT : Fld := ⟨GNS_AXLE_FAULT, 0, 36⟩
/-- GNS.AXLE_LOAD, offset 0x178 (spec/10_gnss_receiver.md). -/
abbrev GNS_AXLE_LOAD : Nat := 41007
abbrev GNS_AXLE_LOAD_COUNT : Fld := ⟨GNS_AXLE_LOAD, 0, 36⟩
/-- GNS.CONS_TOL, offset 0x400 (spec/10_gnss_receiver.md). -/
abbrev GNS_CONS_TOL : Nat := 41088
abbrev GNS_CONS_TOL_PS : Fld := ⟨GNS_CONS_TOL, 0, 36⟩
/-- GNS.BAND_TOL, offset 0x408 (spec/10_gnss_receiver.md). -/
abbrev GNS_BAND_TOL : Nat := 41089
abbrev GNS_BAND_TOL_PS : Fld := ⟨GNS_BAND_TOL, 0, 36⟩
/-- GNS.CLOCK_TOL, offset 0x410 (spec/10_gnss_receiver.md). -/
abbrev GNS_CLOCK_TOL : Nat := 41090
abbrev GNS_CLOCK_TOL_PS : Fld := ⟨GNS_CLOCK_TOL, 0, 36⟩
/-- GNS.POS_TOL, offset 0x418 (spec/10_gnss_receiver.md). -/
abbrev GNS_POS_TOL : Nat := 41091
abbrev GNS_POS_TOL_M : Fld := ⟨GNS_POS_TOL, 0, 16⟩
/-- GNS.CLOCK_WIN, offset 0x420 (spec/10_gnss_receiver.md). -/
abbrev GNS_CLOCK_WIN : Nat := 41092
abbrev GNS_CLOCK_WIN_S : Fld := ⟨GNS_CLOCK_WIN, 0, 12⟩
/-- GNS.CHECK_CTRL, offset 0x428 (spec/10_gnss_receiver.md). -/
abbrev GNS_CHECK_CTRL : Nat := 41093
abbrev GNS_CHECK_CTRL_SUSPECT_HOLD : Fld := ⟨GNS_CHECK_CTRL, 12, 12⟩
abbrev GNS_CHECK_CTRL_PERSIST : Fld := ⟨GNS_CHECK_CTRL, 8, 4⟩
abbrev GNS_CHECK_CTRL_EN : Fld := ⟨GNS_CHECK_CTRL, 0, 4⟩
/-- GNS.JAM, offset 0x430 (spec/10_gnss_receiver.md). -/
abbrev GNS_JAM : Nat := 41094
abbrev GNS_JAM_RISE : Fld := ⟨GNS_JAM, 0, 10⟩
/-- TEB.STATUS, offset 0x040 (spec/11_error_bound.md). -/
abbrev TEB_STATUS : Nat := 18440
abbrev TEB_STATUS_CLASS : Fld := ⟨TEB_STATUS, 8, 8⟩
abbrev TEB_STATUS_FREQ_ONLY : Fld := ⟨TEB_STATUS, 4, 1⟩
abbrev TEB_STATUS_HOLD_USED : Fld := ⟨TEB_STATUS, 3, 1⟩
abbrev TEB_STATUS_SAT : Fld := ⟨TEB_STATUS, 2, 1⟩
abbrev TEB_STATUS_OVER : Fld := ⟨TEB_STATUS, 1, 1⟩
abbrev TEB_STATUS_VALID : Fld := ⟨TEB_STATUS, 0, 1⟩
/-- TEB.BOUND, offset 0x048 (spec/11_error_bound.md). -/
abbrev TEB_BOUND : Nat := 18441
abbrev TEB_BOUND_PS : Fld := ⟨TEB_BOUND, 0, 36⟩
/-- TEB.CAND, offset 0x050 (spec/11_error_bound.md). -/
abbrev TEB_CAND : Nat := 18442
abbrev TEB_CAND_PS : Fld := ⟨TEB_CAND, 0, 36⟩
/-- TEB.SERVO, offset 0x058 (spec/11_error_bound.md). -/
abbrev TEB_SERVO : Nat := 18443
abbrev TEB_SERVO_PS : Fld := ⟨TEB_SERVO, 0, 36⟩
/-- TEB.HOLD, offset 0x060 (spec/11_error_bound.md). -/
abbrev TEB_HOLD : Nat := 18444
abbrev TEB_HOLD_PS : Fld := ⟨TEB_HOLD, 0, 36⟩
/-- TEB.FAULT, offset 0x068 (spec/11_error_bound.md). -/
abbrev TEB_FAULT : Nat := 18445
abbrev TEB_FAULT_PS : Fld := ⟨TEB_FAULT, 0, 36⟩
/-- TEB.QUANT_OUT, offset 0x070 (spec/11_error_bound.md). -/
abbrev TEB_QUANT_OUT : Nat := 18446
abbrev TEB_QUANT_OUT_PS : Fld := ⟨TEB_QUANT_OUT, 0, 36⟩
/-- TEB.LIMIT, offset 0x078 (spec/11_error_bound.md). -/
abbrev TEB_LIMIT : Nat := 18447
abbrev TEB_LIMIT_PS : Fld := ⟨TEB_LIMIT, 0, 36⟩
/-- TEB.HYST, offset 0x080 (spec/11_error_bound.md). -/
abbrev TEB_HYST : Nat := 18448
abbrev TEB_HYST_PS : Fld := ⟨TEB_HYST, 0, 36⟩
/-- TEB.CLASS_CFG, offset 0x088 (spec/11_error_bound.md). -/
abbrev TEB_CLASS_CFG : Nat := 18449
abbrev TEB_CLASS_CFG_DEGRADED : Fld := ⟨TEB_CLASS_CFG, 16, 8⟩
abbrev TEB_CLASS_CFG_HOLD : Fld := ⟨TEB_CLASS_CFG, 8, 8⟩
abbrev TEB_CLASS_CFG_LOCKED : Fld := ⟨TEB_CLASS_CFG, 0, 8⟩
/-- TEB.NOISE_K, offset 0x090 (spec/11_error_bound.md). -/
abbrev TEB_NOISE_K : Nat := 18450
abbrev TEB_NOISE_K_K : Fld := ⟨TEB_NOISE_K, 0, 6⟩
/-- TEB.DEG_PEN, offset 0x098 (spec/11_error_bound.md). -/
abbrev TEB_DEG_PEN : Nat := 18451
abbrev TEB_DEG_PEN_PS : Fld := ⟨TEB_DEG_PEN, 0, 36⟩
/-- TEB.FREQ_RATE, offset 0x0A0 (spec/11_error_bound.md). -/
abbrev TEB_FREQ_RATE : Nat := 18452
abbrev TEB_FREQ_RATE_Y : Fld := ⟨TEB_FREQ_RATE, 0, 36⟩
/-- TEB.QUANT_STALE, offset 0x0A8 (spec/11_error_bound.md). -/
abbrev TEB_QUANT_STALE : Nat := 18453
abbrev TEB_QUANT_STALE_PS : Fld := ⟨TEB_QUANT_STALE, 0, 36⟩
/-- TEB.QUANT_UNCAL, offset 0x0B0 (spec/11_error_bound.md). -/
abbrev TEB_QUANT_UNCAL : Nat := 18454
abbrev TEB_QUANT_UNCAL_PS : Fld := ⟨TEB_QUANT_UNCAL, 0, 36⟩
/-- TEB.ORG_ID, offset 0x0B8 (spec/11_error_bound.md). -/
abbrev TEB_ORG_ID : Nat := 18455
abbrev TEB_ORG_ID_ID : Fld := ⟨TEB_ORG_ID, 0, 24⟩
/-- TEB.ORG_SUB, offset 0x0C0 (spec/11_error_bound.md). -/
abbrev TEB_ORG_SUB : Nat := 18456
abbrev TEB_ORG_SUB_SUB : Fld := ⟨TEB_ORG_SUB, 0, 24⟩
/-- TEB.EXPORT, offset 0x0C8 (spec/11_error_bound.md). -/
abbrev TEB_EXPORT : Nat := 18457
abbrev TEB_EXPORT_NTP_ALARM : Fld := ⟨TEB_EXPORT, 2, 1⟩
abbrev TEB_EXPORT_ORG_SYNC : Fld := ⟨TEB_EXPORT, 1, 1⟩
abbrev TEB_EXPORT_ORG_ANN : Fld := ⟨TEB_EXPORT, 0, 1⟩
/-- TEB.REC_DELTA, offset 0x0D0 (spec/11_error_bound.md). -/
abbrev TEB_REC_DELTA : Nat := 18458
abbrev TEB_REC_DELTA_PS : Fld := ⟨TEB_REC_DELTA, 0, 36⟩
/-- TEB.OVERS, offset 0x0D8 (spec/11_error_bound.md). -/
abbrev TEB_OVERS : Nat := 18459
abbrev TEB_OVERS_COUNT : Fld := ⟨TEB_OVERS, 0, 36⟩
/-- TEB.OVER_MS, offset 0x0E0 (spec/11_error_bound.md). -/
abbrev TEB_OVER_MS : Nat := 18460
abbrev TEB_OVER_MS_COUNT : Fld := ⟨TEB_OVER_MS, 0, 36⟩
/-- TEB.PATH0 to 23, offset 0x100 (spec/11_error_bound.md). -/
abbrev TEB_PATH (i : Nat) : Nat := 18464 + i
abbrev TEB_PATH_PS (i : Nat) : Fld := ⟨TEB_PATH i, 0, 36⟩
/-- TEB.PORT0 to 23, offset 0x200 (spec/11_error_bound.md). -/
abbrev TEB_PORT (i : Nat) : Nat := 18496 + i
abbrev TEB_PORT_PS (i : Nat) : Fld := ⟨TEB_PORT i, 0, 36⟩
/-- PRT.STATUS, offset 0x040 (spec/12_ports.md). -/
abbrev PRT_STATUS (p : Nat) : Nat := (128 + p) * 512 + 8
abbrev PRT_STATUS_FC_REFUSED (p : Nat) : Fld := ⟨PRT_STATUS p, 11, 1⟩
abbrev PRT_STATUS_FEC_LOCK (p : Nat) : Fld := ⟨PRT_STATUS p, 10, 1⟩
abbrev PRT_STATUS_REMOTE_FAULT (p : Nat) : Fld := ⟨PRT_STATUS p, 9, 1⟩
abbrev PRT_STATUS_LOCAL_FAULT (p : Nat) : Fld := ⟨PRT_STATUS p, 8, 1⟩
abbrev PRT_STATUS_TRAINING (p : Nat) : Fld := ⟨PRT_STATUS p, 4, 1⟩
abbrev PRT_STATUS_LINK (p : Nat) : Fld := ⟨PRT_STATUS p, 0, 3⟩
/-- PRT.MODE, offset 0x048 (spec/12_ports.md). -/
abbrev PRT_MODE (p : Nat) : Nat := (128 + p) * 512 + 9
abbrev PRT_MODE_TRAIN (p : Nat) : Fld := ⟨PRT_MODE p, 7, 1⟩
abbrev PRT_MODE_FEC (p : Nat) : Fld := ⟨PRT_MODE p, 4, 1⟩
abbrev PRT_MODE_MODE (p : Nat) : Fld := ⟨PRT_MODE p, 0, 3⟩
/-- PRT.CFG, offset 0x050 (spec/12_ports.md). -/
abbrev PRT_CFG (p : Nat) : Nat := (128 + p) * 512 + 10
abbrev PRT_CFG_MC_ALL (p : Nat) : Fld := ⟨PRT_CFG p, 7, 1⟩
abbrev PRT_CFG_TC_EN (p : Nat) : Fld := ⟨PRT_CFG p, 6, 1⟩
abbrev PRT_CFG_FC_OBEY (p : Nat) : Fld := ⟨PRT_CFG p, 4, 2⟩
abbrev PRT_CFG_RX_INV (p : Nat) : Fld := ⟨PRT_CFG p, 1, 1⟩
abbrev PRT_CFG_TX_INV (p : Nat) : Fld := ⟨PRT_CFG p, 0, 1⟩
/-- PRT.FRAME_MAX, offset 0x058 (spec/12_ports.md). -/
abbrev PRT_FRAME_MAX (p : Nat) : Nat := (128 + p) * 512 + 11
abbrev PRT_FRAME_MAX_BYTES (p : Nat) : Fld := ⟨PRT_FRAME_MAX p, 0, 14⟩
/-- PRT.LINK_HOLD, offset 0x060 (spec/12_ports.md). -/
abbrev PRT_LINK_HOLD (p : Nat) : Nat := (128 + p) * 512 + 12
abbrev PRT_LINK_HOLD_MS (p : Nat) : Fld := ⟨PRT_LINK_HOLD p, 0, 14⟩
/-- PRT.DELAY_RX, offset 0x068 (spec/12_ports.md). -/
abbrev PRT_DELAY_RX (p : Nat) : Nat := (128 + p) * 512 + 13
abbrev PRT_DELAY_RX_PS (p : Nat) : Fld := ⟨PRT_DELAY_RX p, 0, 36⟩
/-- PRT.DELAY_TX, offset 0x070 (spec/12_ports.md). -/
abbrev PRT_DELAY_TX (p : Nat) : Nat := (128 + p) * 512 + 14
abbrev PRT_DELAY_TX_PS (p : Nat) : Fld := ⟨PRT_DELAY_TX p, 0, 36⟩
/-- PRT.DELAY_ASYM, offset 0x078 (spec/12_ports.md). -/
abbrev PRT_DELAY_ASYM (p : Nat) : Nat := (128 + p) * 512 + 15
abbrev PRT_DELAY_ASYM_PS (p : Nat) : Fld := ⟨PRT_DELAY_ASYM p, 0, 36⟩
/-- PRT.MC_HASH0 to 15, offset 0x080 (spec/12_ports.md). -/
abbrev PRT_MC_HASH (p : Nat) (i : Nat) : Nat := (128 + p) * 512 + 16 + i
abbrev PRT_MC_HASH_BINS (p : Nat) (i : Nat) : Fld := ⟨PRT_MC_HASH p i, 0, 32⟩
/-- PRT.LINK_DOWNS, offset 0x100 (spec/12_ports.md). -/
abbrev PRT_LINK_DOWNS (p : Nat) : Nat := (128 + p) * 512 + 32
abbrev PRT_LINK_DOWNS_COUNT (p : Nat) : Fld := ⟨PRT_LINK_DOWNS p, 0, 36⟩
/-- PRT.TSF_STAT, offset 0x108 (spec/12_ports.md). -/
abbrev PRT_TSF_STAT (p : Nat) : Nat := (128 + p) * 512 + 33
abbrev PRT_TSF_STAT_HWM (p : Nat) : Fld := ⟨PRT_TSF_STAT p, 9, 9⟩
abbrev PRT_TSF_STAT_LEVEL (p : Nat) : Fld := ⟨PRT_TSF_STAT p, 0, 9⟩
/-- PRT.STAMP_STAT, offset 0x110 (spec/12_ports.md). -/
abbrev PRT_STAMP_STAT (p : Nat) : Nat := (128 + p) * 512 + 34
abbrev PRT_STAMP_STAT_TX_STALE (p : Nat) : Fld := ⟨PRT_STAMP_STAT p, 7, 1⟩
abbrev PRT_STAMP_STAT_TX_UNCAL (p : Nat) : Fld := ⟨PRT_STAMP_STAT p, 6, 1⟩
abbrev PRT_STAMP_STAT_TX_FAILED (p : Nat) : Fld := ⟨PRT_STAMP_STAT p, 4, 2⟩
abbrev PRT_STAMP_STAT_RX_STALE (p : Nat) : Fld := ⟨PRT_STAMP_STAT p, 3, 1⟩
abbrev PRT_STAMP_STAT_RX_UNCAL (p : Nat) : Fld := ⟨PRT_STAMP_STAT p, 2, 1⟩
abbrev PRT_STAMP_STAT_RX_FAILED (p : Nat) : Fld := ⟨PRT_STAMP_STAT p, 0, 2⟩
/-- PRT.MODULE, offset 0x118 (spec/12_ports.md). -/
abbrev PRT_MODULE (p : Nat) : Nat := (128 + p) * 512 + 35
abbrev PRT_MODULE_INT (p : Nat) : Fld := ⟨PRT_MODULE p, 2, 1⟩
abbrev PRT_MODULE_PRESENT (p : Nat) : Fld := ⟨PRT_MODULE p, 1, 1⟩
abbrev PRT_MODULE_RST (p : Nat) : Fld := ⟨PRT_MODULE p, 0, 1⟩
/-- PRT.I2C_CFG, offset 0x120 (spec/12_ports.md). -/
abbrev PRT_I2C_CFG (p : Nat) : Nat := (128 + p) * 512 + 36
abbrev PRT_I2C_CFG_FAST (p : Nat) : Fld := ⟨PRT_I2C_CFG p, 0, 1⟩
/-- PRT.I2C_CMD, offset 0x128 (spec/12_ports.md). -/
abbrev PRT_I2C_CMD (p : Nat) : Nat := (128 + p) * 512 + 37
abbrev PRT_I2C_CMD_STATUS (p : Nat) : Fld := ⟨PRT_I2C_CMD p, 32, 4⟩
abbrev PRT_I2C_CMD_LEN (p : Nat) : Fld := ⟨PRT_I2C_CMD p, 24, 3⟩
abbrev PRT_I2C_CMD_OFFSET (p : Nat) : Fld := ⟨PRT_I2C_CMD p, 16, 8⟩
abbrev PRT_I2C_CMD_DEV (p : Nat) : Fld := ⟨PRT_I2C_CMD p, 8, 7⟩
abbrev PRT_I2C_CMD_OP (p : Nat) : Fld := ⟨PRT_I2C_CMD p, 0, 4⟩
/-- PRT.I2C_DATA, offset 0x130 (spec/12_ports.md). -/
abbrev PRT_I2C_DATA (p : Nat) : Nat := (128 + p) * 512 + 38
abbrev PRT_I2C_DATA_BYTES (p : Nat) : Fld := ⟨PRT_I2C_DATA p, 0, 32⟩
/-- PRT.I2C_ERRS, offset 0x138 (spec/12_ports.md). -/
abbrev PRT_I2C_ERRS (p : Nat) : Nat := (128 + p) * 512 + 39
abbrev PRT_I2C_ERRS_COUNT (p : Nat) : Fld := ⟨PRT_I2C_ERRS p, 0, 36⟩
/-- STA.RX_FRAMES, offset 0x040 (spec/12_ports.md). -/
abbrev STA_RX_FRAMES (p : Nat) : Nat := (160 + p) * 512 + 8
abbrev STA_RX_FRAMES_COUNT (p : Nat) : Fld := ⟨STA_RX_FRAMES p, 0, 36⟩
/-- STA.RX_UCAST, offset 0x048 (spec/12_ports.md). -/
abbrev STA_RX_UCAST (p : Nat) : Nat := (160 + p) * 512 + 9
abbrev STA_RX_UCAST_COUNT (p : Nat) : Fld := ⟨STA_RX_UCAST p, 0, 36⟩
/-- STA.RX_MCAST, offset 0x050 (spec/12_ports.md). -/
abbrev STA_RX_MCAST (p : Nat) : Nat := (160 + p) * 512 + 10
abbrev STA_RX_MCAST_COUNT (p : Nat) : Fld := ⟨STA_RX_MCAST p, 0, 36⟩
/-- STA.RX_BCAST, offset 0x058 (spec/12_ports.md). -/
abbrev STA_RX_BCAST (p : Nat) : Nat := (160 + p) * 512 + 11
abbrev STA_RX_BCAST_COUNT (p : Nat) : Fld := ⟨STA_RX_BCAST p, 0, 36⟩
/-- STA.RX_RUNT, offset 0x060 (spec/12_ports.md). -/
abbrev STA_RX_RUNT (p : Nat) : Nat := (160 + p) * 512 + 12
abbrev STA_RX_RUNT_COUNT (p : Nat) : Fld := ⟨STA_RX_RUNT p, 0, 36⟩
/-- STA.RX_OVERSIZE, offset 0x068 (spec/12_ports.md). -/
abbrev STA_RX_OVERSIZE (p : Nat) : Nat := (160 + p) * 512 + 13
abbrev STA_RX_OVERSIZE_COUNT (p : Nat) : Fld := ⟨STA_RX_OVERSIZE p, 0, 36⟩
/-- STA.RX_JABBER, offset 0x070 (spec/12_ports.md). -/
abbrev STA_RX_JABBER (p : Nat) : Nat := (160 + p) * 512 + 14
abbrev STA_RX_JABBER_COUNT (p : Nat) : Fld := ⟨STA_RX_JABBER p, 0, 36⟩
/-- STA.RX_FCS_ERR, offset 0x078 (spec/12_ports.md). -/
abbrev STA_RX_FCS_ERR (p : Nat) : Nat := (160 + p) * 512 + 15
abbrev STA_RX_FCS_ERR_COUNT (p : Nat) : Fld := ⟨STA_RX_FCS_ERR p, 0, 36⟩
/-- STA.RX_FILTERED, offset 0x080 (spec/12_ports.md). -/
abbrev STA_RX_FILTERED (p : Nat) : Nat := (160 + p) * 512 + 16
abbrev STA_RX_FILTERED_COUNT (p : Nat) : Fld := ⟨STA_RX_FILTERED p, 0, 36⟩
/-- STA.RX_PAUSE, offset 0x088 (spec/12_ports.md). -/
abbrev STA_RX_PAUSE (p : Nat) : Nat := (160 + p) * 512 + 17
abbrev STA_RX_PAUSE_COUNT (p : Nat) : Fld := ⟨STA_RX_PAUSE p, 0, 36⟩
/-- STA.RX_PFC, offset 0x090 (spec/12_ports.md). -/
abbrev STA_RX_PFC (p : Nat) : Nat := (160 + p) * 512 + 18
abbrev STA_RX_PFC_COUNT (p : Nat) : Fld := ⟨STA_RX_PFC p, 0, 36⟩
/-- STA.RX_FIFO_DROP, offset 0x098 (spec/12_ports.md). -/
abbrev STA_RX_FIFO_DROP (p : Nat) : Nat := (160 + p) * 512 + 19
abbrev STA_RX_FIFO_DROP_COUNT (p : Nat) : Fld := ⟨STA_RX_FIFO_DROP p, 0, 36⟩
/-- STA.TX_FRAMES, offset 0x0A0 (spec/12_ports.md). -/
abbrev STA_TX_FRAMES (p : Nat) : Nat := (160 + p) * 512 + 20
abbrev STA_TX_FRAMES_COUNT (p : Nat) : Fld := ⟨STA_TX_FRAMES p, 0, 36⟩
/-- STA.TX_MCAST, offset 0x0A8 (spec/12_ports.md). -/
abbrev STA_TX_MCAST (p : Nat) : Nat := (160 + p) * 512 + 21
abbrev STA_TX_MCAST_COUNT (p : Nat) : Fld := ⟨STA_TX_MCAST p, 0, 36⟩
/-- STA.TX_BCAST, offset 0x0B0 (spec/12_ports.md). -/
abbrev STA_TX_BCAST (p : Nat) : Nat := (160 + p) * 512 + 22
abbrev STA_TX_BCAST_COUNT (p : Nat) : Fld := ⟨STA_TX_BCAST p, 0, 36⟩
/-- STA.TX_MISSED, offset 0x0B8 (spec/12_ports.md). -/
abbrev STA_TX_MISSED (p : Nat) : Nat := (160 + p) * 512 + 23
abbrev STA_TX_MISSED_COUNT (p : Nat) : Fld := ⟨STA_TX_MISSED p, 0, 36⟩
/-- STA.TX_Q_FLUSH, offset 0x0C0 (spec/12_ports.md). -/
abbrev STA_TX_Q_FLUSH (p : Nat) : Nat := (160 + p) * 512 + 24
abbrev STA_TX_Q_FLUSH_COUNT (p : Nat) : Fld := ⟨STA_TX_Q_FLUSH p, 0, 36⟩
/-- STA.TX_DOWN_DROP, offset 0x0C8 (spec/12_ports.md). -/
abbrev STA_TX_DOWN_DROP (p : Nat) : Nat := (160 + p) * 512 + 25
abbrev STA_TX_DOWN_DROP_COUNT (p : Nat) : Fld := ⟨STA_TX_DOWN_DROP p, 0, 36⟩
/-- STA.TX_ABORT, offset 0x0D0 (spec/12_ports.md). -/
abbrev STA_TX_ABORT (p : Nat) : Nat := (160 + p) * 512 + 26
abbrev STA_TX_ABORT_COUNT (p : Nat) : Fld := ⟨STA_TX_ABORT p, 0, 36⟩
/-- STA.TX_TC, offset 0x0D8 (spec/12_ports.md). -/
abbrev STA_TX_TC (p : Nat) : Nat := (160 + p) * 512 + 27
abbrev STA_TX_TC_COUNT (p : Nat) : Fld := ⟨STA_TX_TC p, 0, 36⟩
/-- STA.TSF_DROP, offset 0x0E0 (spec/12_ports.md). -/
abbrev STA_TSF_DROP (p : Nat) : Nat := (160 + p) * 512 + 28
abbrev STA_TSF_DROP_COUNT (p : Nat) : Fld := ⟨STA_TSF_DROP p, 0, 36⟩
/-- STA.RX_CODE_ERR, offset 0x0E8 (spec/12_ports.md). -/
abbrev STA_RX_CODE_ERR (p : Nat) : Nat := (160 + p) * 512 + 29
abbrev STA_RX_CODE_ERR_COUNT (p : Nat) : Fld := ⟨STA_RX_CODE_ERR p, 0, 36⟩
/-- STA.FEC_CORR, offset 0x0F0 (spec/12_ports.md). -/
abbrev STA_FEC_CORR (p : Nat) : Nat := (160 + p) * 512 + 30
abbrev STA_FEC_CORR_COUNT (p : Nat) : Fld := ⟨STA_FEC_CORR p, 0, 36⟩
/-- STA.FEC_UNCORR, offset 0x0F8 (spec/12_ports.md). -/
abbrev STA_FEC_UNCORR (p : Nat) : Nat := (160 + p) * 512 + 31
abbrev STA_FEC_UNCORR_COUNT (p : Nat) : Fld := ⟨STA_FEC_UNCORR p, 0, 36⟩
/-- STA.RX_OCTETS, offset 0x100 (spec/12_ports.md). -/
abbrev STA_RX_OCTETS (p : Nat) : Nat := (160 + p) * 512 + 32
abbrev STA_RX_OCTETS_COUNT (p : Nat) : Fld := ⟨STA_RX_OCTETS p, 0, 36⟩
/-- STA.TX_OCTETS, offset 0x110 (spec/12_ports.md). -/
abbrev STA_TX_OCTETS (p : Nat) : Nat := (160 + p) * 512 + 34
abbrev STA_TX_OCTETS_COUNT (p : Nat) : Fld := ⟨STA_TX_OCTETS p, 0, 36⟩
/-- SWF.FLOOD_MASK, offset 0x040 (spec/13_switch_core.md). -/
abbrev SWF_FLOOD_MASK : Nat := 98312
abbrev SWF_FLOOD_MASK_HOST : Fld := ⟨SWF_FLOOD_MASK, 24, 1⟩
abbrev SWF_FLOOD_MASK_PORTS : Fld := ⟨SWF_FLOOD_MASK, 0, 24⟩
/-- SWF.PCP_MAP, offset 0x048 (spec/13_switch_core.md). -/
abbrev SWF_PCP_MAP : Nat := 98313
abbrev SWF_PCP_MAP_UNTAG : Fld := ⟨SWF_PCP_MAP, 24, 3⟩
abbrev SWF_PCP_MAP_MAP : Fld := ⟨SWF_PCP_MAP, 0, 24⟩
/-- SWF.WEIGHT, offset 0x050 (spec/13_switch_core.md). -/
abbrev SWF_WEIGHT : Nat := 98314
abbrev SWF_WEIGHT_W : Fld := ⟨SWF_WEIGHT, 0, 28⟩
/-- SWF.FDB_AGE, offset 0x058 (spec/13_switch_core.md). -/
abbrev SWF_FDB_AGE : Nat := 98315
abbrev SWF_FDB_AGE_S : Fld := ⟨SWF_FDB_AGE, 0, 16⟩
/-- SWF.FDB_CMD, offset 0x060 (spec/13_switch_core.md). -/
abbrev SWF_FDB_CMD : Nat := 98316
abbrev SWF_FDB_CMD_STATUS : Fld := ⟨SWF_FDB_CMD, 32, 4⟩
abbrev SWF_FDB_CMD_OP : Fld := ⟨SWF_FDB_CMD, 0, 4⟩
/-- SWF.FDB_MAC_HI, offset 0x068 (spec/13_switch_core.md). -/
abbrev SWF_FDB_MAC_HI : Nat := 98317
abbrev SWF_FDB_MAC_HI_MAC : Fld := ⟨SWF_FDB_MAC_HI, 0, 16⟩
/-- SWF.FDB_MAC_LO, offset 0x070 (spec/13_switch_core.md). -/
abbrev SWF_FDB_MAC_LO : Nat := 98318
abbrev SWF_FDB_MAC_LO_MAC : Fld := ⟨SWF_FDB_MAC_LO, 0, 32⟩
/-- SWF.FDB_DEST, offset 0x078 (spec/13_switch_core.md). -/
abbrev SWF_FDB_DEST : Nat := 98319
abbrev SWF_FDB_DEST_STATIC : Fld := ⟨SWF_FDB_DEST, 25, 1⟩
abbrev SWF_FDB_DEST_HOST : Fld := ⟨SWF_FDB_DEST, 24, 1⟩
abbrev SWF_FDB_DEST_PORTS : Fld := ⟨SWF_FDB_DEST, 0, 24⟩
/-- SWF.FDB_COUNT, offset 0x080 (spec/13_switch_core.md). -/
abbrev SWF_FDB_COUNT : Nat := 98320
abbrev SWF_FDB_COUNT_N : Fld := ⟨SWF_FDB_COUNT, 0, 17⟩
/-- SWF.FDB_LEARN_FAIL, offset 0x088 (spec/13_switch_core.md). -/
abbrev SWF_FDB_LEARN_FAIL : Nat := 98321
abbrev SWF_FDB_LEARN_FAIL_COUNT : Fld := ⟨SWF_FDB_LEARN_FAIL, 0, 36⟩
/-- SWF.SAME_PORT, offset 0x090 (spec/13_switch_core.md). -/
abbrev SWF_SAME_PORT : Nat := 98322
abbrev SWF_SAME_PORT_COUNT : Fld := ⟨SWF_SAME_PORT, 0, 36⟩
/-- SWF.RESEQ_SKIP, offset 0x098 (spec/13_switch_core.md). -/
abbrev SWF_RESEQ_SKIP : Nat := 98323
abbrev SWF_RESEQ_SKIP_COUNT : Fld := ⟨SWF_RESEQ_SKIP, 0, 36⟩
/-- SWF.RESEQ_LATE, offset 0x0A0 (spec/13_switch_core.md). -/
abbrev SWF_RESEQ_LATE : Nat := 98324
abbrev SWF_RESEQ_LATE_COUNT : Fld := ⟨SWF_RESEQ_LATE, 0, 36⟩
/-- SWF.DIS_DROP, offset 0x0A8 (spec/13_switch_core.md). -/
abbrev SWF_DIS_DROP : Nat := 98325
abbrev SWF_DIS_DROP_COUNT : Fld := ⟨SWF_DIS_DROP, 0, 36⟩
/-- SWF.EXP_MAX, offset 0x0B0 (spec/13_switch_core.md). -/
abbrev SWF_EXP_MAX : Nat := 98326
abbrev SWF_EXP_MAX_NS : Fld := ⟨SWF_EXP_MAX, 0, 12⟩
/-- SWF.EXP_OVER, offset 0x0B8 (spec/13_switch_core.md). -/
abbrev SWF_EXP_OVER : Nat := 98327
abbrev SWF_EXP_OVER_COUNT : Fld := ⟨SWF_EXP_OVER, 0, 36⟩
/-- SWF.RESEQ_TMO, offset 0x400 (spec/13_switch_core.md). -/
abbrev SWF_RESEQ_TMO : Nat := 98432
abbrev SWF_RESEQ_TMO_US : Fld := ⟨SWF_RESEQ_TMO, 0, 10⟩
/-- BUF.STATUS, offset 0x040 (spec/13_switch_core.md). -/
abbrev BUF_STATUS : Nat := 98824
abbrev BUF_STATUS_SPILLING : Fld := ⟨BUF_STATUS, 1, 1⟩
abbrev BUF_STATUS_SRAM_LOW : Fld := ⟨BUF_STATUS, 0, 1⟩
/-- BUF.SRAM_FREE, offset 0x048 (spec/13_switch_core.md). -/
abbrev BUF_SRAM_FREE : Nat := 98825
abbrev BUF_SRAM_FREE_CELLS : Fld := ⟨BUF_SRAM_FREE, 0, 18⟩
/-- BUF.DRAM_FREE, offset 0x050 (spec/13_switch_core.md). -/
abbrev BUF_DRAM_FREE : Nat := 98826
abbrev BUF_DRAM_FREE_CELLS : Fld := ⟨BUF_DRAM_FREE, 0, 25⟩
/-- BUF.EXP_RESERVE, offset 0x058 (spec/13_switch_core.md). -/
abbrev BUF_EXP_RESERVE : Nat := 98827
abbrev BUF_EXP_RESERVE_CELLS : Fld := ⟨BUF_EXP_RESERVE, 0, 16⟩
/-- BUF.SPILL_AT, offset 0x060 (spec/13_switch_core.md). -/
abbrev BUF_SPILL_AT : Nat := 98828
abbrev BUF_SPILL_AT_CELLS : Fld := ⟨BUF_SPILL_AT, 0, 18⟩
/-- BUF.SPILL_FREE, offset 0x068 (spec/13_switch_core.md). -/
abbrev BUF_SPILL_FREE : Nat := 98829
abbrev BUF_SPILL_FREE_CELLS : Fld := ⟨BUF_SPILL_FREE, 0, 18⟩
/-- BUF.Q_LIMIT, offset 0x070 (spec/13_switch_core.md). -/
abbrev BUF_Q_LIMIT : Nat := 98830
abbrev BUF_Q_LIMIT_CELLS : Fld := ⟨BUF_Q_LIMIT, 0, 25⟩
/-- BUF.MAX_AGE, offset 0x078 (spec/13_switch_core.md). -/
abbrev BUF_MAX_AGE : Nat := 98831
abbrev BUF_MAX_AGE_MS : Fld := ⟨BUF_MAX_AGE, 0, 16⟩
/-- BUF.EXP_DROP, offset 0x080 (spec/13_switch_core.md). -/
abbrev BUF_EXP_DROP : Nat := 98832
abbrev BUF_EXP_DROP_COUNT : Fld := ⟨BUF_EXP_DROP, 0, 36⟩
/-- BUF.SPILL_FULL, offset 0x088 (spec/13_switch_core.md). -/
abbrev BUF_SPILL_FULL : Nat := 98833
abbrev BUF_SPILL_FULL_COUNT : Fld := ⟨BUF_SPILL_FULL, 0, 36⟩
/-- BUF.SPILLED, offset 0x090 (spec/13_switch_core.md). -/
abbrev BUF_SPILLED : Nat := 98834
abbrev BUF_SPILLED_COUNT : Fld := ⟨BUF_SPILLED, 0, 36⟩
/-- BUF.AGED, offset 0x098 (spec/13_switch_core.md). -/
abbrev BUF_AGED : Nat := 98835
abbrev BUF_AGED_COUNT : Fld := ⟨BUF_AGED, 0, 36⟩
/-- BUF.AGE_LAST, offset 0x0A0 (spec/13_switch_core.md). -/
abbrev BUF_AGE_LAST : Nat := 98836
abbrev BUF_AGE_LAST_PORT : Fld := ⟨BUF_AGE_LAST, 3, 5⟩
abbrev BUF_AGE_LAST_CLASS : Fld := ⟨BUF_AGE_LAST, 0, 3⟩
/-- BUF.ECC_CORR, offset 0x0A8 (spec/13_switch_core.md). -/
abbrev BUF_ECC_CORR : Nat := 98837
abbrev BUF_ECC_CORR_COUNT : Fld := ⟨BUF_ECC_CORR, 0, 36⟩
/-- BUF.ECC_UNCORR, offset 0x0B0 (spec/13_switch_core.md). -/
abbrev BUF_ECC_UNCORR : Nat := 98838
abbrev BUF_ECC_UNCORR_COUNT : Fld := ⟨BUF_ECC_UNCORR, 0, 36⟩
/-- BUF.Q_SEL, offset 0x0B8 (spec/13_switch_core.md). -/
abbrev BUF_Q_SEL : Nat := 98839
abbrev BUF_Q_SEL_PORT : Fld := ⟨BUF_Q_SEL, 3, 5⟩
abbrev BUF_Q_SEL_CLASS : Fld := ⟨BUF_Q_SEL, 0, 3⟩
/-- BUF.Q_DEPTH, offset 0x0C0 (spec/13_switch_core.md). -/
abbrev BUF_Q_DEPTH : Nat := 98840
abbrev BUF_Q_DEPTH_SPILL : Fld := ⟨BUF_Q_DEPTH, 35, 1⟩
abbrev BUF_Q_DEPTH_CELLS : Fld := ⟨BUF_Q_DEPTH, 0, 25⟩
/-- BUF.Q_DROP0 to 23, offset 0x100 (spec/13_switch_core.md). -/
abbrev BUF_Q_DROP (i : Nat) : Nat := 98848 + i
abbrev BUF_Q_DROP_COUNT (i : Nat) : Fld := ⟨BUF_Q_DROP i, 0, 36⟩
/-- BUF.MC_DROP0 to 23, offset 0x200 (spec/13_switch_core.md). -/
abbrev BUF_MC_DROP (i : Nat) : Nat := 98880 + i
abbrev BUF_MC_DROP_COUNT (i : Nat) : Fld := ⟨BUF_MC_DROP i, 0, 36⟩
/-- DRM.STATUS, offset 0x040 (spec/13_switch_core.md). -/
abbrev DRM_STATUS : Nat := 99336
abbrev DRM_STATUS_THROTTLE : Fld := ⟨DRM_STATUS, 1, 1⟩
abbrev DRM_STATUS_TRAINED : Fld := ⟨DRM_STATUS, 0, 1⟩
/-- DRM.ECC_CORR, offset 0x048 (spec/13_switch_core.md). -/
abbrev DRM_ECC_CORR : Nat := 99337
abbrev DRM_ECC_CORR_COUNT : Fld := ⟨DRM_ECC_CORR, 0, 36⟩
/-- DRM.ECC_UNCORR, offset 0x050 (spec/13_switch_core.md). -/
abbrev DRM_ECC_UNCORR : Nat := 99338
abbrev DRM_ECC_UNCORR_COUNT : Fld := ⟨DRM_ECC_UNCORR, 0, 36⟩
/-- DRM.CRC_RETRY, offset 0x058 (spec/13_switch_core.md). -/
abbrev DRM_CRC_RETRY : Nat := 99339
abbrev DRM_CRC_RETRY_COUNT : Fld := ⟨DRM_CRC_RETRY, 0, 36⟩
/-- DRM.LOAD, offset 0x060 (spec/13_switch_core.md). -/
abbrev DRM_LOAD : Nat := 99340
abbrev DRM_LOAD_PERMILLE : Fld := ⟨DRM_LOAD, 0, 10⟩
/-- DRM.TEMP, offset 0x068 (spec/13_switch_core.md). -/
abbrev DRM_TEMP : Nat := 99341
abbrev DRM_TEMP_T : Fld := ⟨DRM_TEMP, 0, 18⟩
/-- CO.STATUS, offset 0x040 (spec/14_time_service_pipeline.md). -/
abbrev CO_STATUS (p : Nat) : Nat := (96 + p) * 512 + 8
abbrev CO_STATUS_DRAINING (p : Nat) : Fld := ⟨CO_STATUS p, 1, 1⟩
abbrev CO_STATUS_SERVING (p : Nat) : Fld := ⟨CO_STATUS p, 0, 1⟩
/-- CO.GEAR_CTRL, offset 0x048 (spec/14_time_service_pipeline.md). -/
abbrev CO_GEAR_CTRL (p : Nat) : Nat := (96 + p) * 512 + 9
abbrev CO_GEAR_CTRL_DWELL (p : Nat) : Fld := ⟨CO_GEAR_CTRL p, 20, 16⟩
abbrev CO_GEAR_CTRL_UP (p : Nat) : Fld := ⟨CO_GEAR_CTRL p, 13, 7⟩
abbrev CO_GEAR_CTRL_DOWN (p : Nat) : Fld := ⟨CO_GEAR_CTRL p, 6, 7⟩
abbrev CO_GEAR_CTRL_MAX (p : Nat) : Fld := ⟨CO_GEAR_CTRL p, 2, 2⟩
abbrev CO_GEAR_CTRL_MIN (p : Nat) : Fld := ⟨CO_GEAR_CTRL p, 0, 2⟩
/-- CO.GEAR_NOW, offset 0x050 (spec/14_time_service_pipeline.md). -/
abbrev CO_GEAR_NOW (p : Nat) : Nat := (96 + p) * 512 + 10
abbrev CO_GEAR_NOW_GEAR (p : Nat) : Fld := ⟨CO_GEAR_NOW p, 0, 2⟩
/-- CO.GEAR_UPS, offset 0x058 (spec/14_time_service_pipeline.md). -/
abbrev CO_GEAR_UPS (p : Nat) : Nat := (96 + p) * 512 + 11
abbrev CO_GEAR_UPS_COUNT (p : Nat) : Fld := ⟨CO_GEAR_UPS p, 0, 36⟩
/-- CO.GEAR_DOWNS, offset 0x060 (spec/14_time_service_pipeline.md). -/
abbrev CO_GEAR_DOWNS (p : Nat) : Nat := (96 + p) * 512 + 12
abbrev CO_GEAR_DOWNS_COUNT (p : Nat) : Fld := ⟨CO_GEAR_DOWNS p, 0, 36⟩
/-- CO.PIPE_LEAD, offset 0x068 (spec/14_time_service_pipeline.md). -/
abbrev CO_PIPE_LEAD (p : Nat) : Nat := (96 + p) * 512 + 13
abbrev CO_PIPE_LEAD_NS (p : Nat) : Fld := ⟨CO_PIPE_LEAD p, 0, 24⟩
/-- CO.LEAD_MIN, offset 0x070 (spec/14_time_service_pipeline.md). -/
abbrev CO_LEAD_MIN (p : Nat) : Nat := (96 + p) * 512 + 14
abbrev CO_LEAD_MIN_NS (p : Nat) : Fld := ⟨CO_LEAD_MIN p, 0, 16⟩
/-- CO.LANES, offset 0x078 (spec/14_time_service_pipeline.md). -/
abbrev CO_LANES (p : Nat) : Nat := (96 + p) * 512 + 15
abbrev CO_LANES_STATE (p : Nat) : Fld := ⟨CO_LANES p, 0, 8⟩
/-- CO.TS_CFG0 to 3, offset 0x080 (spec/14_time_service_pipeline.md). -/
abbrev CO_TS_CFG (p : Nat) (i : Nat) : Nat := (96 + p) * 512 + 16 + i
abbrev CO_TS_CFG_PDELAY (p : Nat) (i : Nat) : Fld := ⟨CO_TS_CFG p i, 8, 1⟩
abbrev CO_TS_CFG_DELAY_REQ (p : Nat) (i : Nat) : Fld := ⟨CO_TS_CFG p i, 7, 1⟩
abbrev CO_TS_CFG_UDP6 (p : Nat) (i : Nat) : Fld := ⟨CO_TS_CFG p i, 6, 1⟩
abbrev CO_TS_CFG_UDP4 (p : Nat) (i : Nat) : Fld := ⟨CO_TS_CFG p i, 5, 1⟩
abbrev CO_TS_CFG_ETH (p : Nat) (i : Nat) : Fld := ⟨CO_TS_CFG p i, 4, 1⟩
abbrev CO_TS_CFG_NTP_PLAIN (p : Nat) (i : Nat) : Fld := ⟨CO_TS_CFG p i, 3, 1⟩
abbrev CO_TS_CFG_NTS (p : Nat) (i : Nat) : Fld := ⟨CO_TS_CFG p i, 2, 1⟩
abbrev CO_TS_CFG_PTP_PLAIN (p : Nat) (i : Nat) : Fld := ⟨CO_TS_CFG p i, 1, 1⟩
abbrev CO_TS_CFG_PTP_AUTH (p : Nat) (i : Nat) : Fld := ⟨CO_TS_CFG p i, 0, 1⟩
/-- CO.MC_CFG0 to 3, offset 0x0A0 (spec/14_time_service_pipeline.md). -/
abbrev CO_MC_CFG (p : Nat) (i : Nat) : Nat := (96 + p) * 512 + 20 + i
abbrev CO_MC_CFG_KEY_SLOT (p : Nat) (i : Nat) : Fld := ⟨CO_MC_CFG p i, 16, 8⟩
abbrev CO_MC_CFG_LOG_ANN (p : Nat) (i : Nat) : Fld := ⟨CO_MC_CFG p i, 12, 4⟩
abbrev CO_MC_CFG_LOG_SYNC (p : Nat) (i : Nat) : Fld := ⟨CO_MC_CFG p i, 8, 4⟩
abbrev CO_MC_CFG_TRANSPORT (p : Nat) (i : Nat) : Fld := ⟨CO_MC_CFG p i, 4, 2⟩
abbrev CO_MC_CFG_AUTH (p : Nat) (i : Nat) : Fld := ⟨CO_MC_CFG p i, 2, 1⟩
abbrev CO_MC_CFG_TWO_STEP (p : Nat) (i : Nat) : Fld := ⟨CO_MC_CFG p i, 1, 1⟩
abbrev CO_MC_CFG_EN (p : Nat) (i : Nat) : Fld := ⟨CO_MC_CFG p i, 0, 1⟩
/-- CO.UP_CFG0 to 3, offset 0x0C0 (spec/14_time_service_pipeline.md). -/
abbrev CO_UP_CFG (p : Nat) (i : Nat) : Nat := (96 + p) * 512 + 24 + i
abbrev CO_UP_CFG_KEY_SLOT (p : Nat) (i : Nat) : Fld := ⟨CO_UP_CFG p i, 16, 8⟩
abbrev CO_UP_CFG_LOG_DREQ (p : Nat) (i : Nat) : Fld := ⟨CO_UP_CFG p i, 12, 4⟩
abbrev CO_UP_CFG_AUTH (p : Nat) (i : Nat) : Fld := ⟨CO_UP_CFG p i, 11, 1⟩
abbrev CO_UP_CFG_TRANSPORT (p : Nat) (i : Nat) : Fld := ⟨CO_UP_CFG p i, 8, 3⟩
/-- CO.MAC_HI0 to 3, offset 0x100 (spec/14_time_service_pipeline.md). -/
abbrev CO_MAC_HI (p : Nat) (i : Nat) : Nat := (96 + p) * 512 + 32 + 8 * i
abbrev CO_MAC_HI_MAC (p : Nat) (i : Nat) : Fld := ⟨CO_MAC_HI p i, 0, 16⟩
/-- CO.MAC_LO0 to 3, offset 0x108 (spec/14_time_service_pipeline.md). -/
abbrev CO_MAC_LO (p : Nat) (i : Nat) : Nat := (96 + p) * 512 + 33 + 8 * i
abbrev CO_MAC_LO_MAC (p : Nat) (i : Nat) : Fld := ⟨CO_MAC_LO p i, 0, 32⟩
/-- CO.IPV40 to 3, offset 0x110 (spec/14_time_service_pipeline.md). -/
abbrev CO_IPV4 (p : Nat) (i : Nat) : Nat := (96 + p) * 512 + 34 + 8 * i
abbrev CO_IPV4_ADDR (p : Nat) (i : Nat) : Fld := ⟨CO_IPV4 p i, 0, 32⟩
/-- CO.IPV6_00 to 3, offset 0x118 (spec/14_time_service_pipeline.md). -/
abbrev CO_IPV6_0 (p : Nat) (i : Nat) : Nat := (96 + p) * 512 + 35 + 8 * i
abbrev CO_IPV6_0_ADDR (p : Nat) (i : Nat) : Fld := ⟨CO_IPV6_0 p i, 0, 32⟩
/-- CO.IPV6_10 to 3, offset 0x120 (spec/14_time_service_pipeline.md). -/
abbrev CO_IPV6_1 (p : Nat) (i : Nat) : Nat := (96 + p) * 512 + 36 + 8 * i
abbrev CO_IPV6_1_ADDR (p : Nat) (i : Nat) : Fld := ⟨CO_IPV6_1 p i, 0, 32⟩
/-- CO.IPV6_20 to 3, offset 0x128 (spec/14_time_service_pipeline.md). -/
abbrev CO_IPV6_2 (p : Nat) (i : Nat) : Nat := (96 + p) * 512 + 37 + 8 * i
abbrev CO_IPV6_2_ADDR (p : Nat) (i : Nat) : Fld := ⟨CO_IPV6_2 p i, 0, 32⟩
/-- CO.IPV6_30 to 3, offset 0x130 (spec/14_time_service_pipeline.md). -/
abbrev CO_IPV6_3 (p : Nat) (i : Nat) : Nat := (96 + p) * 512 + 38 + 8 * i
abbrev CO_IPV6_3_ADDR (p : Nat) (i : Nat) : Fld := ⟨CO_IPV6_3 p i, 0, 32⟩
/-- CO.PTP_ID_HI, offset 0x200 (spec/14_time_service_pipeline.md). -/
abbrev CO_PTP_ID_HI (p : Nat) : Nat := (96 + p) * 512 + 64
abbrev CO_PTP_ID_HI_ID (p : Nat) : Fld := ⟨CO_PTP_ID_HI p, 0, 32⟩
/-- CO.PTP_ID_LO, offset 0x208 (spec/14_time_service_pipeline.md). -/
abbrev CO_PTP_ID_LO (p : Nat) : Nat := (96 + p) * 512 + 65
abbrev CO_PTP_ID_LO_ID (p : Nat) : Fld := ⟨CO_PTP_ID_LO p, 0, 32⟩
/-- CO.PTP_CFG, offset 0x210 (spec/14_time_service_pipeline.md). -/
abbrev CO_PTP_CFG (p : Nat) : Nat := (96 + p) * 512 + 66
abbrev CO_PTP_CFG_ICV_CF (p : Nat) : Fld := ⟨CO_PTP_CFG p, 25, 1⟩
abbrev CO_PTP_CFG_BC_PASS (p : Nat) : Fld := ⟨CO_PTP_CFG p, 24, 1⟩
abbrev CO_PTP_CFG_PRIO2 (p : Nat) : Fld := ⟨CO_PTP_CFG p, 16, 8⟩
abbrev CO_PTP_CFG_PRIO1 (p : Nat) : Fld := ⟨CO_PTP_CFG p, 8, 8⟩
abbrev CO_PTP_CFG_DOMAIN (p : Nat) : Fld := ⟨CO_PTP_CFG p, 0, 8⟩
/-- CO.PTP_VAR, offset 0x218 (spec/14_time_service_pipeline.md). -/
abbrev CO_PTP_VAR (p : Nat) : Nat := (96 + p) * 512 + 67
abbrev CO_PTP_VAR_VAR (p : Nat) : Fld := ⟨CO_PTP_VAR p, 0, 16⟩
/-- CO.NTP_CFG, offset 0x220 (spec/14_time_service_pipeline.md). -/
abbrev CO_NTP_CFG (p : Nat) : Nat := (96 + p) * 512 + 68
abbrev CO_NTP_CFG_SMEAR (p : Nat) : Fld := ⟨CO_NTP_CFG p, 0, 1⟩
/-- CO.RX_TS, offset 0x280 (spec/14_time_service_pipeline.md). -/
abbrev CO_RX_TS (p : Nat) : Nat := (96 + p) * 512 + 80
abbrev CO_RX_TS_COUNT (p : Nat) : Fld := ⟨CO_RX_TS p, 0, 36⟩
/-- CO.NOT_READY, offset 0x288 (spec/14_time_service_pipeline.md). -/
abbrev CO_NOT_READY (p : Nat) : Nat := (96 + p) * 512 + 81
abbrev CO_NOT_READY_COUNT (p : Nat) : Fld := ⟨CO_NOT_READY p, 0, 36⟩
/-- CO.TS_OFF, offset 0x290 (spec/14_time_service_pipeline.md). -/
abbrev CO_TS_OFF (p : Nat) : Nat := (96 + p) * 512 + 82
abbrev CO_TS_OFF_COUNT (p : Nat) : Fld := ⟨CO_TS_OFF p, 0, 36⟩
/-- CO.MALFORMED, offset 0x298 (spec/14_time_service_pipeline.md). -/
abbrev CO_MALFORMED (p : Nat) : Nat := (96 + p) * 512 + 83
abbrev CO_MALFORMED_COUNT (p : Nat) : Fld := ⟨CO_MALFORMED p, 0, 36⟩
/-- CO.AUTH_FAIL, offset 0x2A0 (spec/14_time_service_pipeline.md). -/
abbrev CO_AUTH_FAIL (p : Nat) : Nat := (96 + p) * 512 + 84
abbrev CO_AUTH_FAIL_COUNT (p : Nat) : Fld := ⟨CO_AUTH_FAIL p, 0, 36⟩
/-- CO.AUTH_UNKNOWN, offset 0x2A8 (spec/14_time_service_pipeline.md). -/
abbrev CO_AUTH_UNKNOWN (p : Nat) : Nat := (96 + p) * 512 + 85
abbrev CO_AUTH_UNKNOWN_COUNT (p : Nat) : Fld := ⟨CO_AUTH_UNKNOWN p, 0, 36⟩
/-- CO.KEY_OFF, offset 0x2B0 (spec/14_time_service_pipeline.md). -/
abbrev CO_KEY_OFF (p : Nat) : Nat := (96 + p) * 512 + 86
abbrev CO_KEY_OFF_COUNT (p : Nat) : Fld := ⟨CO_KEY_OFF p, 0, 36⟩
/-- CO.NTS_NAK, offset 0x2B8 (spec/14_time_service_pipeline.md). -/
abbrev CO_NTS_NAK (p : Nat) : Nat := (96 + p) * 512 + 87
abbrev CO_NTS_NAK_COUNT (p : Nat) : Fld := ⟨CO_NTS_NAK p, 0, 36⟩
/-- CO.LATE, offset 0x2C0 (spec/14_time_service_pipeline.md). -/
abbrev CO_LATE (p : Nat) : Nat := (96 + p) * 512 + 88
abbrev CO_LATE_COUNT (p : Nat) : Fld := ⟨CO_LATE p, 0, 36⟩
/-- CO.DIS_DROP, offset 0x2C8 (spec/14_time_service_pipeline.md). -/
abbrev CO_DIS_DROP (p : Nat) : Nat := (96 + p) * 512 + 89
abbrev CO_DIS_DROP_COUNT (p : Nat) : Fld := ⟨CO_DIS_DROP p, 0, 36⟩
/-- CO.MIGRATE_DROP, offset 0x2D0 (spec/14_time_service_pipeline.md). -/
abbrev CO_MIGRATE_DROP (p : Nat) : Nat := (96 + p) * 512 + 90
abbrev CO_MIGRATE_DROP_COUNT (p : Nat) : Fld := ⟨CO_MIGRATE_DROP p, 0, 36⟩
/-- CO.LANE_DROP, offset 0x2D8 (spec/14_time_service_pipeline.md). -/
abbrev CO_LANE_DROP (p : Nat) : Nat := (96 + p) * 512 + 91
abbrev CO_LANE_DROP_COUNT (p : Nat) : Fld := ⟨CO_LANE_DROP p, 0, 36⟩
/-- CO.FAULT_STOP, offset 0x2E0 (spec/14_time_service_pipeline.md). -/
abbrev CO_FAULT_STOP (p : Nat) : Nat := (96 + p) * 512 + 92
abbrev CO_FAULT_STOP_COUNT (p : Nat) : Fld := ⟨CO_FAULT_STOP p, 0, 36⟩
/-- CO.PTP_TX, offset 0x2E8 (spec/14_time_service_pipeline.md). -/
abbrev CO_PTP_TX (p : Nat) : Nat := (96 + p) * 512 + 93
abbrev CO_PTP_TX_COUNT (p : Nat) : Fld := ⟨CO_PTP_TX p, 0, 36⟩
/-- CO.NTP_TX, offset 0x2F0 (spec/14_time_service_pipeline.md). -/
abbrev CO_NTP_TX (p : Nat) : Nat := (96 + p) * 512 + 94
abbrev CO_NTP_TX_COUNT (p : Nat) : Fld := ⟨CO_NTP_TX p, 0, 36⟩
/-- CO.DEPART_ERR, offset 0x2F8 (spec/14_time_service_pipeline.md). -/
abbrev CO_DEPART_ERR (p : Nat) : Nat := (96 + p) * 512 + 95
abbrev CO_DEPART_ERR_COUNT (p : Nat) : Fld := ⟨CO_DEPART_ERR p, 0, 36⟩
/-- CO.UP_SAMPLES, offset 0x300 (spec/14_time_service_pipeline.md). -/
abbrev CO_UP_SAMPLES (p : Nat) : Nat := (96 + p) * 512 + 96
abbrev CO_UP_SAMPLES_COUNT (p : Nat) : Fld := ⟨CO_UP_SAMPLES p, 0, 36⟩
/-- CO.AXLE_CRC, offset 0x308 (spec/14_time_service_pipeline.md). -/
abbrev CO_AXLE_CRC (p : Nat) : Nat := (96 + p) * 512 + 97
abbrev CO_AXLE_CRC_COUNT (p : Nat) : Fld := ⟨CO_AXLE_CRC p, 0, 36⟩
/-- CO.AXLE_TRIM, offset 0x310 (spec/14_time_service_pipeline.md). -/
abbrev CO_AXLE_TRIM (p : Nat) : Nat := (96 + p) * 512 + 98
abbrev CO_AXLE_TRIM_COUNT (p : Nat) : Fld := ⟨CO_AXLE_TRIM p, 0, 36⟩
/-- CO.AXLE_SLIP, offset 0x318 (spec/14_time_service_pipeline.md). -/
abbrev CO_AXLE_SLIP (p : Nat) : Nat := (96 + p) * 512 + 99
abbrev CO_AXLE_SLIP_COUNT (p : Nat) : Fld := ⟨CO_AXLE_SLIP p, 0, 36⟩
/-- CO.AXLE_FAULT, offset 0x320 (spec/14_time_service_pipeline.md). -/
abbrev CO_AXLE_FAULT (p : Nat) : Nat := (96 + p) * 512 + 100
abbrev CO_AXLE_FAULT_COUNT (p : Nat) : Fld := ⟨CO_AXLE_FAULT p, 0, 36⟩
/-- CO.AXLE_LOAD, offset 0x328 (spec/14_time_service_pipeline.md). -/
abbrev CO_AXLE_LOAD (p : Nat) : Nat := (96 + p) * 512 + 101
abbrev CO_AXLE_LOAD_COUNT (p : Nat) : Fld := ⟨CO_AXLE_LOAD p, 0, 36⟩
/-- CO.MC_PLACE, offset 0x330 (spec/14_time_service_pipeline.md). -/
abbrev CO_MC_PLACE (p : Nat) : Nat := (96 + p) * 512 + 102
abbrev CO_MC_PLACE_PLACE (p : Nat) : Fld := ⟨CO_MC_PLACE p, 0, 32⟩
/-- CO.SEAL_SETUP, offset 0x400 (spec/14_time_service_pipeline.md). -/
abbrev CO_SEAL_SETUP (p : Nat) : Nat := (96 + p) * 512 + 128
abbrev CO_SEAL_SETUP_NS (p : Nat) : Fld := ⟨CO_SEAL_SETUP p, 0, 11⟩
/-- CO.SIGN_QMAX, offset 0x408 (spec/14_time_service_pipeline.md). -/
abbrev CO_SIGN_QMAX (p : Nat) : Nat := (96 + p) * 512 + 129
abbrev CO_SIGN_QMAX_NS (p : Nat) : Fld := ⟨CO_SIGN_QMAX p, 0, 12⟩
/-- CLT.COUNT, offset 0x040 (spec/15_clients_and_timetable.md). -/
abbrev CLT_COUNT : Nat := 102408
abbrev CLT_COUNT_N : Fld := ⟨CLT_COUNT, 0, 21⟩
/-- CLT.FREE, offset 0x048 (spec/15_clients_and_timetable.md). -/
abbrev CLT_FREE : Nat := 102409
abbrev CLT_FREE_N : Fld := ⟨CLT_FREE, 0, 21⟩
/-- CLT.POLICY, offset 0x050 (spec/15_clients_and_timetable.md). -/
abbrev CLT_POLICY : Nat := 102410
abbrev CLT_POLICY_SIG_HOST : Fld := ⟨CLT_POLICY, 3, 1⟩
abbrev CLT_POLICY_DREQ_NOGRANT : Fld := ⟨CLT_POLICY, 2, 1⟩
abbrev CLT_POLICY_TWO_STEP : Fld := ⟨CLT_POLICY, 1, 1⟩
abbrev CLT_POLICY_NEGOTIATE : Fld := ⟨CLT_POLICY, 0, 1⟩
/-- CLT.POL_ANN, offset 0x058 (spec/15_clients_and_timetable.md). -/
abbrev CLT_POL_ANN : Nat := 102411
abbrev CLT_POL_ANN_DUR_MAX : Fld := ⟨CLT_POL_ANN, 16, 10⟩
abbrev CLT_POL_ANN_DUR_MIN : Fld := ⟨CLT_POL_ANN, 8, 8⟩
abbrev CLT_POL_ANN_LOG_MIN : Fld := ⟨CLT_POL_ANN, 4, 4⟩
abbrev CLT_POL_ANN_LOG_MAX : Fld := ⟨CLT_POL_ANN, 0, 4⟩
/-- CLT.POL_SYNC, offset 0x060 (spec/15_clients_and_timetable.md). -/
abbrev CLT_POL_SYNC : Nat := 102412
abbrev CLT_POL_SYNC_DUR_MAX : Fld := ⟨CLT_POL_SYNC, 16, 10⟩
abbrev CLT_POL_SYNC_DUR_MIN : Fld := ⟨CLT_POL_SYNC, 8, 8⟩
abbrev CLT_POL_SYNC_LOG_MIN : Fld := ⟨CLT_POL_SYNC, 4, 4⟩
abbrev CLT_POL_SYNC_LOG_MAX : Fld := ⟨CLT_POL_SYNC, 0, 4⟩
/-- CLT.POL_DRESP, offset 0x068 (spec/15_clients_and_timetable.md). -/
abbrev CLT_POL_DRESP : Nat := 102413
abbrev CLT_POL_DRESP_DUR_MAX : Fld := ⟨CLT_POL_DRESP, 16, 10⟩
abbrev CLT_POL_DRESP_DUR_MIN : Fld := ⟨CLT_POL_DRESP, 8, 8⟩
abbrev CLT_POL_DRESP_LOG_MIN : Fld := ⟨CLT_POL_DRESP, 4, 4⟩
abbrev CLT_POL_DRESP_LOG_MAX : Fld := ⟨CLT_POL_DRESP, 0, 4⟩
/-- CLT.PORT_MAX, offset 0x070 (spec/15_clients_and_timetable.md). -/
abbrev CLT_PORT_MAX : Nat := 102414
abbrev CLT_PORT_MAX_N : Fld := ⟨CLT_PORT_MAX, 0, 21⟩
/-- CLT.CMD, offset 0x078 (spec/15_clients_and_timetable.md). -/
abbrev CLT_CMD : Nat := 102415
abbrev CLT_CMD_STATUS : Fld := ⟨CLT_CMD, 32, 4⟩
abbrev CLT_CMD_OP : Fld := ⟨CLT_CMD, 0, 4⟩
/-- CLT.CMD_IDX, offset 0x080 (spec/15_clients_and_timetable.md). -/
abbrev CLT_CMD_IDX : Nat := 102416
abbrev CLT_CMD_IDX_INDEX : Fld := ⟨CLT_CMD_IDX, 0, 21⟩
/-- CLT.ENTRY0 to 15, offset 0x088 (spec/15_clients_and_timetable.md). -/
abbrev CLT_ENTRY (i : Nat) : Nat := 102417 + i
abbrev CLT_ENTRY_BYTES (i : Nat) : Fld := ⟨CLT_ENTRY i, 0, 32⟩
/-- CLT.GRANTS, offset 0x108 (spec/15_clients_and_timetable.md). -/
abbrev CLT_GRANTS : Nat := 102433
abbrev CLT_GRANTS_COUNT : Fld := ⟨CLT_GRANTS, 0, 36⟩
/-- CLT.RENEWALS, offset 0x110 (spec/15_clients_and_timetable.md). -/
abbrev CLT_RENEWALS : Nat := 102434
abbrev CLT_RENEWALS_COUNT : Fld := ⟨CLT_RENEWALS, 0, 36⟩
/-- CLT.REF_TYPE, offset 0x118 (spec/15_clients_and_timetable.md). -/
abbrev CLT_REF_TYPE : Nat := 102435
abbrev CLT_REF_TYPE_COUNT : Fld := ⟨CLT_REF_TYPE, 0, 36⟩
/-- CLT.REF_POLICY, offset 0x120 (spec/15_clients_and_timetable.md). -/
abbrev CLT_REF_POLICY : Nat := 102436
abbrev CLT_REF_POLICY_COUNT : Fld := ⟨CLT_REF_POLICY, 0, 36⟩
/-- CLT.REF_FULL, offset 0x128 (spec/15_clients_and_timetable.md). -/
abbrev CLT_REF_FULL : Nat := 102437
abbrev CLT_REF_FULL_COUNT : Fld := ⟨CLT_REF_FULL, 0, 36⟩
/-- CLT.REF_PORT, offset 0x130 (spec/15_clients_and_timetable.md). -/
abbrev CLT_REF_PORT : Nat := 102438
abbrev CLT_REF_PORT_COUNT : Fld := ⟨CLT_REF_PORT, 0, 36⟩
/-- CLT.REF_BUDGET, offset 0x138 (spec/15_clients_and_timetable.md). -/
abbrev CLT_REF_BUDGET : Nat := 102439
abbrev CLT_REF_BUDGET_COUNT : Fld := ⟨CLT_REF_BUDGET, 0, 36⟩
/-- CLT.EXPIRED, offset 0x140 (spec/15_clients_and_timetable.md). -/
abbrev CLT_EXPIRED : Nat := 102440
abbrev CLT_EXPIRED_COUNT : Fld := ⟨CLT_EXPIRED, 0, 36⟩
/-- CLT.CANCELS, offset 0x148 (spec/15_clients_and_timetable.md). -/
abbrev CLT_CANCELS : Nat := 102441
abbrev CLT_CANCELS_COUNT : Fld := ⟨CLT_CANCELS, 0, 36⟩
/-- CLT.DREQ_FAST, offset 0x150 (spec/15_clients_and_timetable.md). -/
abbrev CLT_DREQ_FAST : Nat := 102442
abbrev CLT_DREQ_FAST_COUNT : Fld := ⟨CLT_DREQ_FAST, 0, 36⟩
/-- CLT.NO_GRANT, offset 0x158 (spec/15_clients_and_timetable.md). -/
abbrev CLT_NO_GRANT : Nat := 102443
abbrev CLT_NO_GRANT_COUNT : Fld := ⟨CLT_NO_GRANT, 0, 36⟩
/-- CLT.SIG_HOST, offset 0x160 (spec/15_clients_and_timetable.md). -/
abbrev CLT_SIG_HOST : Nat := 102444
abbrev CLT_SIG_HOST_COUNT : Fld := ⟨CLT_SIG_HOST, 0, 36⟩
/-- CLT.CACHE_HIT, offset 0x168 (spec/15_clients_and_timetable.md). -/
abbrev CLT_CACHE_HIT : Nat := 102445
abbrev CLT_CACHE_HIT_COUNT : Fld := ⟨CLT_CACHE_HIT, 0, 36⟩
/-- CLT.CACHE_MISS, offset 0x170 (spec/15_clients_and_timetable.md). -/
abbrev CLT_CACHE_MISS : Nat := 102446
abbrev CLT_CACHE_MISS_COUNT : Fld := ⟨CLT_CACHE_MISS, 0, 36⟩
/-- CLT.ECC_LOST, offset 0x178 (spec/15_clients_and_timetable.md). -/
abbrev CLT_ECC_LOST : Nat := 102447
abbrev CLT_ECC_LOST_COUNT : Fld := ⟨CLT_ECC_LOST, 0, 36⟩
/-- TTB.CFG, offset 0x040 (spec/15_clients_and_timetable.md). -/
abbrev TTB_CFG : Nat := 102920
abbrev TTB_CFG_SKIP_AFTER : Fld := ⟨TTB_CFG, 8, 4⟩
abbrev TTB_CFG_AUTO_REBUILD : Fld := ⟨TTB_CFG, 0, 1⟩
/-- TTB.BUDGET, offset 0x048 (spec/15_clients_and_timetable.md). -/
abbrev TTB_BUDGET : Nat := 102921
abbrev TTB_BUDGET_RATE : Fld := ⟨TTB_BUDGET, 0, 24⟩
/-- TTB.SLOT_MAX, offset 0x050 (spec/15_clients_and_timetable.md). -/
abbrev TTB_SLOT_MAX : Nat := 102922
abbrev TTB_SLOT_MAX_N : Fld := ⟨TTB_SLOT_MAX, 0, 16⟩
/-- TTB.COMMIT0 to 5, offset 0x058 (spec/15_clients_and_timetable.md). -/
abbrev TTB_COMMIT (i : Nat) : Nat := 102923 + i
abbrev TTB_COMMIT_RATE (i : Nat) : Fld := ⟨TTB_COMMIT i, 0, 24⟩
/-- TTB.RECORDS, offset 0x088 (spec/15_clients_and_timetable.md). -/
abbrev TTB_RECORDS : Nat := 102929
abbrev TTB_RECORDS_N : Fld := ⟨TTB_RECORDS, 0, 22⟩
/-- TTB.CMD, offset 0x090 (spec/15_clients_and_timetable.md). -/
abbrev TTB_CMD : Nat := 102930
abbrev TTB_CMD_STATUS : Fld := ⟨TTB_CMD, 32, 4⟩
abbrev TTB_CMD_COACH : Fld := ⟨TTB_CMD, 4, 3⟩
abbrev TTB_CMD_OP : Fld := ⟨TTB_CMD, 0, 4⟩
/-- TTB.CREATED, offset 0x098 (spec/15_clients_and_timetable.md). -/
abbrev TTB_CREATED : Nat := 102931
abbrev TTB_CREATED_COUNT : Fld := ⟨TTB_CREATED, 0, 36⟩
/-- TTB.NOT_UP, offset 0x0A0 (spec/15_clients_and_timetable.md). -/
abbrev TTB_NOT_UP : Nat := 102932
abbrev TTB_NOT_UP_COUNT : Fld := ⟨TTB_NOT_UP, 0, 36⟩
/-- TTB.HELD, offset 0x0A8 (spec/15_clients_and_timetable.md). -/
abbrev TTB_HELD : Nat := 102933
abbrev TTB_HELD_COUNT : Fld := ⟨TTB_HELD, 0, 36⟩
/-- TTB.SKIPPED, offset 0x0B0 (spec/15_clients_and_timetable.md). -/
abbrev TTB_SKIPPED : Nat := 102934
abbrev TTB_SKIPPED_COUNT : Fld := ⟨TTB_SKIPPED, 0, 36⟩
/-- TTB.SLIPPED, offset 0x0B8 (spec/15_clients_and_timetable.md). -/
abbrev TTB_SLIPPED : Nat := 102935
abbrev TTB_SLIPPED_COUNT : Fld := ⟨TTB_SLIPPED, 0, 36⟩
/-- TTB.ECC_LOST, offset 0x0C0 (spec/15_clients_and_timetable.md). -/
abbrev TTB_ECC_LOST : Nat := 102936
abbrev TTB_ECC_LOST_COUNT : Fld := ⟨TTB_ECC_LOST, 0, 36⟩
/-- TTB.SLOT_PEAK, offset 0x0C8 (spec/15_clients_and_timetable.md). -/
abbrev TTB_SLOT_PEAK : Nat := 102937
abbrev TTB_SLOT_PEAK_N : Fld := ⟨TTB_SLOT_PEAK, 0, 20⟩
/-- RATE.CFG, offset 0x040 (spec/15_clients_and_timetable.md). -/
abbrev RATE_CFG : Nat := 103432
abbrev RATE_CFG_PTP_REG_EXEMPT : Fld := ⟨RATE_CFG, 2, 1⟩
abbrev RATE_CFG_NTP_ACT : Fld := ⟨RATE_CFG, 1, 1⟩
/-- RATE.NTP, offset 0x048 (spec/15_clients_and_timetable.md). -/
abbrev RATE_NTP : Nat := 103433
abbrev RATE_NTP_FILL : Fld := ⟨RATE_NTP, 8, 24⟩
abbrev RATE_NTP_DEPTH : Fld := ⟨RATE_NTP, 0, 8⟩
/-- RATE.PTP, offset 0x050 (spec/15_clients_and_timetable.md). -/
abbrev RATE_PTP : Nat := 103434
abbrev RATE_PTP_FILL : Fld := ⟨RATE_PTP, 8, 24⟩
abbrev RATE_PTP_DEPTH : Fld := ⟨RATE_PTP, 0, 8⟩
/-- RATE.PASSED, offset 0x058 (spec/15_clients_and_timetable.md). -/
abbrev RATE_PASSED : Nat := 103435
abbrev RATE_PASSED_COUNT : Fld := ⟨RATE_PASSED, 0, 36⟩
/-- RATE.DROP_NTP, offset 0x060 (spec/15_clients_and_timetable.md). -/
abbrev RATE_DROP_NTP : Nat := 103436
abbrev RATE_DROP_NTP_COUNT : Fld := ⟨RATE_DROP_NTP, 0, 36⟩
/-- RATE.DROP_PTP, offset 0x068 (spec/15_clients_and_timetable.md). -/
abbrev RATE_DROP_PTP : Nat := 103437
abbrev RATE_DROP_PTP_COUNT : Fld := ⟨RATE_DROP_PTP, 0, 36⟩
/-- RATE.KISS, offset 0x070 (spec/15_clients_and_timetable.md). -/
abbrev RATE_KISS : Nat := 103438
abbrev RATE_KISS_COUNT : Fld := ⟨RATE_KISS, 0, 36⟩
/-- RATE.LAST_DROP, offset 0x078 (spec/15_clients_and_timetable.md). -/
abbrev RATE_LAST_DROP : Nat := 103439
abbrev RATE_LAST_DROP_BUCKET : Fld := ⟨RATE_LAST_DROP, 0, 18⟩
/-- KEY.STATUS, offset 0x040 (spec/16_keys_and_attestation.md). -/
abbrev KEY_STATUS : Nat := 106504
abbrev KEY_STATUS_SUPPRESSED : Fld := ⟨KEY_STATUS, 10, 1⟩
abbrev KEY_STATUS_ZEROIZED : Fld := ⟨KEY_STATUS, 9, 1⟩
abbrev KEY_STATUS_IN_USE : Fld := ⟨KEY_STATUS, 0, 9⟩
/-- KEY.SEL, offset 0x048 (spec/16_keys_and_attestation.md). -/
abbrev KEY_SEL : Nat := 106505
abbrev KEY_SEL_SLOT : Fld := ⟨KEY_SEL, 0, 8⟩
/-- KEY.SLOT_ATTR, offset 0x050 (spec/16_keys_and_attestation.md). -/
abbrev KEY_SLOT_ATTR : Nat := 106506
abbrev KEY_SLOT_ATTR_ATTR : Fld := ⟨KEY_SLOT_ATTR, 0, 36⟩
/-- KEY.SLOT_STAT, offset 0x058 (spec/16_keys_and_attestation.md). -/
abbrev KEY_SLOT_STAT : Nat := 106507
abbrev KEY_SLOT_STAT_SLOT : Fld := ⟨KEY_SLOT_STAT, 28, 3⟩
abbrev KEY_SLOT_STAT_PEND : Fld := ⟨KEY_SLOT_STAT, 26, 2⟩
abbrev KEY_SLOT_STAT_OLD : Fld := ⟨KEY_SLOT_STAT, 24, 2⟩
abbrev KEY_SLOT_STAT_OLD_VER : Fld := ⟨KEY_SLOT_STAT, 16, 8⟩
abbrev KEY_SLOT_STAT_PEND_VER : Fld := ⟨KEY_SLOT_STAT, 8, 8⟩
abbrev KEY_SLOT_STAT_ACT_VER : Fld := ⟨KEY_SLOT_STAT, 0, 8⟩
/-- KEY.SLOT_REFS, offset 0x060 (spec/16_keys_and_attestation.md). -/
abbrev KEY_SLOT_REFS : Nat := 106508
abbrev KEY_SLOT_REFS_OLD : Fld := ⟨KEY_SLOT_REFS, 18, 18⟩
abbrev KEY_SLOT_REFS_ACT : Fld := ⟨KEY_SLOT_REFS, 0, 18⟩
/-- KEY.SLOT_KCV, offset 0x068 (spec/16_keys_and_attestation.md). -/
abbrev KEY_SLOT_KCV : Nat := 106509
abbrev KEY_SLOT_KCV_KCV : Fld := ⟨KEY_SLOT_KCV, 0, 36⟩
/-- KEY.SLOT_GRACE, offset 0x070 (spec/16_keys_and_attestation.md). -/
abbrev KEY_SLOT_GRACE : Nat := 106510
abbrev KEY_SLOT_GRACE_LEFT : Fld := ⟨KEY_SLOT_GRACE, 0, 24⟩
/-- KEY.SLOT_KEYID, offset 0x078 (spec/16_keys_and_attestation.md). -/
abbrev KEY_SLOT_KEYID : Nat := 106511
abbrev KEY_SLOT_KEYID_ID : Fld := ⟨KEY_SLOT_KEYID, 0, 32⟩
/-- KEY.NEW_ATTR, offset 0x080 (spec/16_keys_and_attestation.md). -/
abbrev KEY_NEW_ATTR : Nat := 106512
abbrev KEY_NEW_ATTR_ATTR : Fld := ⟨KEY_NEW_ATTR, 0, 36⟩
/-- KEY.NEW_GRACE, offset 0x088 (spec/16_keys_and_attestation.md). -/
abbrev KEY_NEW_GRACE : Nat := 106513
abbrev KEY_NEW_GRACE_S : Fld := ⟨KEY_NEW_GRACE, 0, 24⟩
/-- KEY.NEW_KEYID, offset 0x090 (spec/16_keys_and_attestation.md). -/
abbrev KEY_NEW_KEYID : Nat := 106514
abbrev KEY_NEW_KEYID_ID : Fld := ⟨KEY_NEW_KEYID, 0, 32⟩
/-- KEY.KCV_EXP, offset 0x098 (spec/16_keys_and_attestation.md). -/
abbrev KEY_KCV_EXP : Nat := 106515
abbrev KEY_KCV_EXP_KCV : Fld := ⟨KEY_KCV_EXP, 0, 36⟩
/-- KEY.CMD, offset 0x0A0 (spec/16_keys_and_attestation.md). -/
abbrev KEY_CMD : Nat := 106516
abbrev KEY_CMD_STATUS : Fld := ⟨KEY_CMD, 32, 4⟩
abbrev KEY_CMD_SRC : Fld := ⟨KEY_CMD, 16, 8⟩
abbrev KEY_CMD_CHECK : Fld := ⟨KEY_CMD, 8, 1⟩
abbrev KEY_CMD_OP : Fld := ⟨KEY_CMD, 0, 4⟩
/-- KEY.DATA_IDX, offset 0x0A8 (spec/16_keys_and_attestation.md). -/
abbrev KEY_DATA_IDX : Nat := 106517
abbrev KEY_DATA_IDX_IDX : Fld := ⟨KEY_DATA_IDX, 0, 8⟩
/-- KEY.DATA, offset 0x0B0 (spec/16_keys_and_attestation.md). -/
abbrev KEY_DATA : Nat := 106518
abbrev KEY_DATA_BYTES : Fld := ⟨KEY_DATA, 0, 32⟩
/-- KEY.MINT, offset 0x0B8 (spec/16_keys_and_attestation.md). -/
abbrev KEY_MINT : Nat := 106519
abbrev KEY_MINT_REC_SLOT : Fld := ⟨KEY_MINT, 8, 8⟩
abbrev KEY_MINT_SEALED : Fld := ⟨KEY_MINT, 4, 1⟩
abbrev KEY_MINT_COUNT : Fld := ⟨KEY_MINT, 0, 4⟩
/-- KEY.ROLLBACKS, offset 0x0C0 (spec/16_keys_and_attestation.md). -/
abbrev KEY_ROLLBACKS : Nat := 106520
abbrev KEY_ROLLBACKS_COUNT : Fld := ⟨KEY_ROLLBACKS, 0, 36⟩
/-- KEY.ZEROIZES, offset 0x0C8 (spec/16_keys_and_attestation.md). -/
abbrev KEY_ZEROIZES : Nat := 106521
abbrev KEY_ZEROIZES_COUNT : Fld := ⟨KEY_ZEROIZES, 0, 36⟩
/-- KEY.MINTED, offset 0x0D0 (spec/16_keys_and_attestation.md). -/
abbrev KEY_MINTED : Nat := 106522
abbrev KEY_MINTED_COUNT : Fld := ⟨KEY_MINTED, 0, 36⟩
/-- LCY.STATE, offset 0x040 (spec/16_keys_and_attestation.md). -/
abbrev LCY_STATE : Nat := 107528
abbrev LCY_STATE_ROOT : Fld := ⟨LCY_STATE, 4, 3⟩
abbrev LCY_STATE_STATE : Fld := ⟨LCY_STATE, 0, 3⟩
/-- LCY.CONFIRM, offset 0x048 (spec/16_keys_and_attestation.md). -/
abbrev LCY_CONFIRM : Nat := 107529
abbrev LCY_CONFIRM_KEY : Fld := ⟨LCY_CONFIRM, 0, 36⟩
/-- LCY.CMD, offset 0x050 (spec/16_keys_and_attestation.md). -/
abbrev LCY_CMD : Nat := 107530
abbrev LCY_CMD_STATUS : Fld := ⟨LCY_CMD, 32, 4⟩
abbrev LCY_CMD_ATT_SLOT : Fld := ⟨LCY_CMD, 8, 8⟩
abbrev LCY_CMD_ATT_MODE : Fld := ⟨LCY_CMD, 4, 2⟩
abbrev LCY_CMD_OP : Fld := ⟨LCY_CMD, 0, 4⟩
/-- LCY.SERIAL_HI, offset 0x058 (spec/16_keys_and_attestation.md). -/
abbrev LCY_SERIAL_HI : Nat := 107531
abbrev LCY_SERIAL_HI_SN : Fld := ⟨LCY_SERIAL_HI, 0, 32⟩
/-- LCY.SERIAL_LO, offset 0x060 (spec/16_keys_and_attestation.md). -/
abbrev LCY_SERIAL_LO : Nat := 107532
abbrev LCY_SERIAL_LO_SN : Fld := ⟨LCY_SERIAL_LO, 0, 32⟩
/-- ATT.STATUS, offset 0x040 (spec/16_keys_and_attestation.md). -/
abbrev ATT_STATUS : Nat := 107016
abbrev ATT_STATUS_GEN_HASH_OK : Fld := ⟨ATT_STATUS, 2, 1⟩
abbrev ATT_STATUS_MODE : Fld := ⟨ATT_STATUS, 0, 2⟩
/-- ATT.CMD, offset 0x048 (spec/16_keys_and_attestation.md). -/
abbrev ATT_CMD : Nat := 107017
abbrev ATT_CMD_STATUS : Fld := ⟨ATT_CMD, 32, 4⟩
abbrev ATT_CMD_OP : Fld := ⟨ATT_CMD, 0, 4⟩
/-- ATT.NONCE0 to 11, offset 0x050 (spec/16_keys_and_attestation.md). -/
abbrev ATT_NONCE (i : Nat) : Nat := 107018 + i
abbrev ATT_NONCE_BYTES (i : Nat) : Fld := ⟨ATT_NONCE i, 0, 32⟩
/-- ATT.OUT_IDX, offset 0x0B0 (spec/16_keys_and_attestation.md). -/
abbrev ATT_OUT_IDX : Nat := 107030
abbrev ATT_OUT_IDX_IDX : Fld := ⟨ATT_OUT_IDX, 0, 7⟩
/-- ATT.OUT_DATA, offset 0x0B8 (spec/16_keys_and_attestation.md). -/
abbrev ATT_OUT_DATA : Nat := 107031
abbrev ATT_OUT_DATA_BYTES : Fld := ⟨ATT_OUT_DATA, 0, 32⟩
/-- ATT.PUBKEY0 to 23, offset 0x0C0 (spec/16_keys_and_attestation.md). -/
abbrev ATT_PUBKEY (i : Nat) : Nat := 107032 + i
abbrev ATT_PUBKEY_BYTES (i : Nat) : Fld := ⟨ATT_PUBKEY i, 0, 32⟩
/-- ATT.GEN_HASH0 to 11, offset 0x180 (spec/16_keys_and_attestation.md). -/
abbrev ATT_GEN_HASH (i : Nat) : Nat := 107056 + i
abbrev ATT_GEN_HASH_BYTES (i : Nat) : Fld := ⟨ATT_GEN_HASH i, 0, 32⟩
/-- ATT.STATEMENTS, offset 0x1E0 (spec/16_keys_and_attestation.md). -/
abbrev ATT_STATEMENTS : Nat := 107068
abbrev ATT_STATEMENTS_COUNT : Fld := ⟨ATT_STATEMENTS, 0, 36⟩
/-- TMP.NOW, offset 0x040 (spec/16_keys_and_attestation.md). -/
abbrev TMP_NOW : Nat := 4104
abbrev TMP_NOW_SENSOR : Fld := ⟨TMP_NOW, 0, 6⟩
/-- TMP.LATCH, offset 0x048 (spec/16_keys_and_attestation.md). -/
abbrev TMP_LATCH : Nat := 4105
abbrev TMP_LATCH_SENSOR : Fld := ⟨TMP_LATCH, 0, 6⟩
/-- TMP.POLICY, offset 0x050 (spec/16_keys_and_attestation.md). -/
abbrev TMP_POLICY : Nat := 4106
abbrev TMP_POLICY_EN : Fld := ⟨TMP_POLICY, 8, 6⟩
abbrev TMP_POLICY_DISABLE : Fld := ⟨TMP_POLICY, 0, 6⟩
/-- TMP.FIRST, offset 0x058 (spec/16_keys_and_attestation.md). -/
abbrev TMP_FIRST : Nat := 4107
abbrev TMP_FIRST_SENSOR : Fld := ⟨TMP_FIRST, 8, 4⟩
/-- TMP.ALARMS, offset 0x060 (spec/16_keys_and_attestation.md). -/
abbrev TMP_ALARMS : Nat := 4108
abbrev TMP_ALARMS_COUNT : Fld := ⟨TMP_ALARMS, 0, 36⟩
/-- GEN.STATUS, offset 0x040 (spec/17_generations_and_shunting.md). -/
abbrev GEN_STATUS : Nat := 114696
abbrev GEN_STATUS_STATE : Fld := ⟨GEN_STATUS, 0, 3⟩
/-- GEN.IN_FORCE, offset 0x048 (spec/17_generations_and_shunting.md). -/
abbrev GEN_IN_FORCE : Nat := 114697
abbrev GEN_IN_FORCE_GEN : Fld := ⟨GEN_IN_FORCE, 0, 24⟩
/-- GEN.NEXT, offset 0x050 (spec/17_generations_and_shunting.md). -/
abbrev GEN_NEXT : Nat := 114698
abbrev GEN_NEXT_GEN : Fld := ⟨GEN_NEXT, 0, 24⟩
/-- GEN.COMMIT_AT, offset 0x058 (spec/17_generations_and_shunting.md). -/
abbrev GEN_COMMIT_AT : Nat := 114699
abbrev GEN_COMMIT_AT_T : Fld := ⟨GEN_COMMIT_AT, 0, 36⟩
/-- GEN.CMD, offset 0x070 (spec/17_generations_and_shunting.md). -/
abbrev GEN_CMD : Nat := 114702
abbrev GEN_CMD_STATUS : Fld := ⟨GEN_CMD, 32, 4⟩
abbrev GEN_CMD_OP : Fld := ⟨GEN_CMD, 0, 4⟩
/-- GEN.GUARD, offset 0x078 (spec/17_generations_and_shunting.md). -/
abbrev GEN_GUARD : Nat := 114703
abbrev GEN_GUARD_MS : Fld := ⟨GEN_GUARD, 0, 10⟩
/-- GEN.PREPARED, offset 0x080 (spec/17_generations_and_shunting.md). -/
abbrev GEN_PREPARED : Nat := 114704
abbrev GEN_PREPARED_ISLANDS : Fld := ⟨GEN_PREPARED, 0, 16⟩
/-- GEN.LAGGARDS, offset 0x088 (spec/17_generations_and_shunting.md). -/
abbrev GEN_LAGGARDS : Nat := 114705
abbrev GEN_LAGGARDS_ISLANDS : Fld := ⟨GEN_LAGGARDS, 0, 16⟩
/-- GEN.FENCED, offset 0x090 (spec/17_generations_and_shunting.md). -/
abbrev GEN_FENCED : Nat := 114706
abbrev GEN_FENCED_ISLANDS : Fld := ⟨GEN_FENCED, 0, 16⟩
/-- GEN.COMMITS, offset 0x098 (spec/17_generations_and_shunting.md). -/
abbrev GEN_COMMITS : Nat := 114707
abbrev GEN_COMMITS_COUNT : Fld := ⟨GEN_COMMITS, 0, 36⟩
/-- GEN.CANCELS, offset 0x0A0 (spec/17_generations_and_shunting.md). -/
abbrev GEN_CANCELS : Nat := 114708
abbrev GEN_CANCELS_COUNT : Fld := ⟨GEN_CANCELS, 0, 36⟩
/-- GEN.FENCES, offset 0x0A8 (spec/17_generations_and_shunting.md). -/
abbrev GEN_FENCES : Nat := 114709
abbrev GEN_FENCES_COUNT : Fld := ⟨GEN_FENCES, 0, 36⟩
/-- GEN.STALE_DROP, offset 0x0B0 (spec/17_generations_and_shunting.md). -/
abbrev GEN_STALE_DROP : Nat := 114710
abbrev GEN_STALE_DROP_COUNT : Fld := ⟨GEN_STALE_DROP, 0, 36⟩
/-- GEN.LAST_T, offset 0x0B8 (spec/17_generations_and_shunting.md). -/
abbrev GEN_LAST_T : Nat := 114711
abbrev GEN_LAST_T_T : Fld := ⟨GEN_LAST_T, 0, 36⟩
/-- SHNT.CMD, offset 0x040 (spec/17_generations_and_shunting.md). -/
abbrev SHNT_CMD : Nat := 115208
abbrev SHNT_CMD_STATUS : Fld := ⟨SHNT_CMD, 32, 4⟩
abbrev SHNT_CMD_TO : Fld := ⟨SHNT_CMD, 19, 5⟩
abbrev SHNT_CMD_INDEX : Fld := ⟨SHNT_CMD, 14, 5⟩
abbrev SHNT_CMD_KIND : Fld := ⟨SHNT_CMD, 8, 3⟩
abbrev SHNT_CMD_OP : Fld := ⟨SHNT_CMD, 0, 4⟩
/-- SHNT.UNITS, offset 0x048 (spec/17_generations_and_shunting.md). -/
abbrev SHNT_UNITS : Nat := 115209
abbrev SHNT_UNITS_GNSS : Fld := ⟨SHNT_UNITS, 21, 1⟩
abbrev SHNT_UNITS_PLL : Fld := ⟨SHNT_UNITS, 17, 4⟩
abbrev SHNT_UNITS_TIC : Fld := ⟨SHNT_UNITS, 9, 8⟩
abbrev SHNT_UNITS_CORE : Fld := ⟨SHNT_UNITS, 6, 3⟩
abbrev SHNT_UNITS_COACH : Fld := ⟨SHNT_UNITS, 0, 6⟩
/-- SHNT.LANES, offset 0x050 (spec/17_generations_and_shunting.md). -/
abbrev SHNT_LANES : Nat := 115210
abbrev SHNT_LANES_LANE : Fld := ⟨SHNT_LANES, 0, 24⟩
/-- SHNT.MIG_STAT, offset 0x058 (spec/17_generations_and_shunting.md). -/
abbrev SHNT_MIG_STAT : Nat := 115211
abbrev SHNT_MIG_STAT_ACTIVE : Fld := ⟨SHNT_MIG_STAT, 10, 1⟩
abbrev SHNT_MIG_STAT_TO : Fld := ⟨SHNT_MIG_STAT, 5, 5⟩
abbrev SHNT_MIG_STAT_FROM : Fld := ⟨SHNT_MIG_STAT, 0, 5⟩
/-- SHNT.MIG_FENCE, offset 0x060 (spec/17_generations_and_shunting.md). -/
abbrev SHNT_MIG_FENCE : Nat := 115212
abbrev SHNT_MIG_FENCE_T : Fld := ⟨SHNT_MIG_FENCE, 0, 36⟩
/-- SHNT.MIGRATIONS, offset 0x078 (spec/17_generations_and_shunting.md). -/
abbrev SHNT_MIGRATIONS : Nat := 115215
abbrev SHNT_MIGRATIONS_COUNT : Fld := ⟨SHNT_MIGRATIONS, 0, 36⟩
/-- SHNT.SHUNTS, offset 0x080 (spec/17_generations_and_shunting.md). -/
abbrev SHNT_SHUNTS : Nat := 115216
abbrev SHNT_SHUNTS_COUNT : Fld := ⟨SHNT_SHUNTS, 0, 36⟩
/-- PROVE.CTRL, offset 0x040 (spec/17_generations_and_shunting.md). -/
abbrev PROVE_CTRL : Nat := 115720
abbrev PROVE_CTRL_GNSS : Fld := ⟨PROVE_CTRL, 6, 1⟩
abbrev PROVE_CTRL_CORE : Fld := ⟨PROVE_CTRL, 5, 1⟩
abbrev PROVE_CTRL_PLL : Fld := ⟨PROVE_CTRL, 4, 1⟩
abbrev PROVE_CTRL_LANE : Fld := ⟨PROVE_CTRL, 3, 1⟩
abbrev PROVE_CTRL_TIC : Fld := ⟨PROVE_CTRL, 2, 1⟩
abbrev PROVE_CTRL_CHECK : Fld := ⟨PROVE_CTRL, 1, 1⟩
abbrev PROVE_CTRL_EN : Fld := ⟨PROVE_CTRL, 0, 1⟩
/-- PROVE.AT, offset 0x048 (spec/17_generations_and_shunting.md). -/
abbrev PROVE_AT : Nat := 115721
abbrev PROVE_AT_S : Fld := ⟨PROVE_AT, 0, 17⟩
/-- PROVE.WINDOW, offset 0x050 (spec/17_generations_and_shunting.md). -/
abbrev PROVE_WINDOW : Nat := 115722
abbrev PROVE_WINDOW_S : Fld := ⟨PROVE_WINDOW, 0, 12⟩
/-- PROVE.CMD, offset 0x058 (spec/17_generations_and_shunting.md). -/
abbrev PROVE_CMD : Nat := 115723
abbrev PROVE_CMD_STATUS : Fld := ⟨PROVE_CMD, 32, 4⟩
abbrev PROVE_CMD_OP : Fld := ⟨PROVE_CMD, 0, 4⟩
/-- PROVE.STATUS, offset 0x060 (spec/17_generations_and_shunting.md). -/
abbrev PROVE_STATUS : Nat := 115724
abbrev PROVE_STATUS_KIND : Fld := ⟨PROVE_STATUS, 8, 3⟩
abbrev PROVE_STATUS_UNIT : Fld := ⟨PROVE_STATUS, 3, 5⟩
abbrev PROVE_STATUS_STATE : Fld := ⟨PROVE_STATUS, 0, 3⟩
/-- PROVE.FAIL_UNITS, offset 0x068 (spec/17_generations_and_shunting.md). -/
abbrev PROVE_FAIL_UNITS : Nat := 115725
abbrev PROVE_FAIL_UNITS_UNITS : Fld := ⟨PROVE_FAIL_UNITS, 0, 36⟩
/-- PROVE.FAIL_LANES, offset 0x070 (spec/17_generations_and_shunting.md). -/
abbrev PROVE_FAIL_LANES : Nat := 115726
abbrev PROVE_FAIL_LANES_LANE : Fld := ⟨PROVE_FAIL_LANES, 0, 24⟩
/-- PROVE.SKIP_UNITS, offset 0x078 (spec/17_generations_and_shunting.md). -/
abbrev PROVE_SKIP_UNITS : Nat := 115727
abbrev PROVE_SKIP_UNITS_UNITS : Fld := ⟨PROVE_SKIP_UNITS, 0, 36⟩
/-- PROVE.SKIP_LANES, offset 0x080 (spec/17_generations_and_shunting.md). -/
abbrev PROVE_SKIP_LANES : Nat := 115728
abbrev PROVE_SKIP_LANES_LANE : Fld := ⟨PROVE_SKIP_LANES, 0, 24⟩
/-- PROVE.LAST_START, offset 0x088 (spec/17_generations_and_shunting.md). -/
abbrev PROVE_LAST_START : Nat := 115729
abbrev PROVE_LAST_START_T : Fld := ⟨PROVE_LAST_START, 0, 36⟩
/-- PROVE.LAST_LEN, offset 0x0A0 (spec/17_generations_and_shunting.md). -/
abbrev PROVE_LAST_LEN : Nat := 115732
abbrev PROVE_LAST_LEN_S : Fld := ⟨PROVE_LAST_LEN, 0, 12⟩
/-- PROVE.RUNS, offset 0x0A8 (spec/17_generations_and_shunting.md). -/
abbrev PROVE_RUNS : Nat := 115733
abbrev PROVE_RUNS_COUNT : Fld := ⟨PROVE_RUNS, 0, 36⟩
/-- PROVE.FAILS, offset 0x0B0 (spec/17_generations_and_shunting.md). -/
abbrev PROVE_FAILS : Nat := 115734
abbrev PROVE_FAILS_COUNT : Fld := ⟨PROVE_FAILS, 0, 36⟩
/-- PROVE.ABORTS, offset 0x0B8 (spec/17_generations_and_shunting.md). -/
abbrev PROVE_ABORTS : Nat := 115735
abbrev PROVE_ABORTS_COUNT : Fld := ⟨PROVE_ABORTS, 0, 36⟩
/-- DUG.STATUS, offset 0x040 (spec/18_redundancy_group.md). -/
abbrev DUG_STATUS : Nat := 122888
abbrev DUG_STATUS_HOLDER_AT : Fld := ⟨DUG_STATUS, 16, 2⟩
abbrev DUG_STATUS_VOTERS : Fld := ⟨DUG_STATUS, 12, 2⟩
abbrev DUG_STATUS_HB_OK : Fld := ⟨DUG_STATUS, 8, 2⟩
abbrev DUG_STATUS_DUAL : Fld := ⟨DUG_STATUS, 5, 1⟩
abbrev DUG_STATUS_FOLLOW : Fld := ⟨DUG_STATUS, 4, 1⟩
abbrev DUG_STATUS_READY : Fld := ⟨DUG_STATUS, 3, 1⟩
abbrev DUG_STATUS_ROLE : Fld := ⟨DUG_STATUS, 0, 3⟩
/-- DUG.CFG, offset 0x048 (spec/18_redundancy_group.md). -/
abbrev DUG_CFG : Nat := 122889
abbrev DUG_CFG_GROUP : Fld := ⟨DUG_CFG, 16, 16⟩
abbrev DUG_CFG_PRIO : Fld := ⟨DUG_CFG, 8, 8⟩
abbrev DUG_CFG_PORT_EN : Fld := ⟨DUG_CFG, 4, 2⟩
abbrev DUG_CFG_SIZE : Fld := ⟨DUG_CFG, 2, 2⟩
abbrev DUG_CFG_MODE : Fld := ⟨DUG_CFG, 0, 2⟩
/-- DUG.LEASE, offset 0x050 (spec/18_redundancy_group.md). -/
abbrev DUG_LEASE : Nat := 122890
abbrev DUG_LEASE_RENEW_MS : Fld := ⟨DUG_LEASE, 8, 8⟩
abbrev DUG_LEASE_MS : Fld := ⟨DUG_LEASE, 0, 8⟩
/-- DUG.GUARD, offset 0x058 (spec/18_redundancy_group.md). -/
abbrev DUG_GUARD : Nat := 122891
abbrev DUG_GUARD_NS : Fld := ⟨DUG_GUARD, 0, 24⟩
/-- DUG.LEASE_END, offset 0x060 (spec/18_redundancy_group.md). -/
abbrev DUG_LEASE_END : Nat := 122892
abbrev DUG_LEASE_END_T : Fld := ⟨DUG_LEASE_END, 0, 36⟩
/-- DUG.CMD, offset 0x078 (spec/18_redundancy_group.md). -/
abbrev DUG_CMD : Nat := 122895
abbrev DUG_CMD_STATUS : Fld := ⟨DUG_CMD, 32, 4⟩
abbrev DUG_CMD_TO : Fld := ⟨DUG_CMD, 4, 2⟩
abbrev DUG_CMD_OP : Fld := ⟨DUG_CMD, 0, 4⟩
/-- DUG.SYNC, offset 0x080 (spec/18_redundancy_group.md). -/
abbrev DUG_SYNC : Nat := 122896
abbrev DUG_SYNC_SWEEP_S : Fld := ⟨DUG_SYNC, 16, 8⟩
abbrev DUG_SYNC_SEQ_JUMP : Fld := ⟨DUG_SYNC, 0, 16⟩
/-- DUG.TAKEOVERS, offset 0x088 (spec/18_redundancy_group.md). -/
abbrev DUG_TAKEOVERS : Nat := 122897
abbrev DUG_TAKEOVERS_COUNT : Fld := ⟨DUG_TAKEOVERS, 0, 36⟩
/-- DUG.HANDOVERS, offset 0x090 (spec/18_redundancy_group.md). -/
abbrev DUG_HANDOVERS : Nat := 122898
abbrev DUG_HANDOVERS_COUNT : Fld := ⟨DUG_HANDOVERS, 0, 36⟩
/-- DUG.CLAIMS_LOST, offset 0x098 (spec/18_redundancy_group.md). -/
abbrev DUG_CLAIMS_LOST : Nat := 122899
abbrev DUG_CLAIMS_LOST_COUNT : Fld := ⟨DUG_CLAIMS_LOST, 0, 36⟩
/-- DUG.DUALS, offset 0x0A0 (spec/18_redundancy_group.md). -/
abbrev DUG_DUALS : Nat := 122900
abbrev DUG_DUALS_COUNT : Fld := ⟨DUG_DUALS, 0, 36⟩
/-- DUG.REINS_DROP, offset 0x0A8 (spec/18_redundancy_group.md). -/
abbrev DUG_REINS_DROP : Nat := 122901
abbrev DUG_REINS_DROP_COUNT : Fld := ⟨DUG_REINS_DROP, 0, 36⟩
/-- DUG.SWEEPS, offset 0x0B0 (spec/18_redundancy_group.md). -/
abbrev DUG_SWEEPS : Nat := 122902
abbrev DUG_SWEEPS_COUNT : Fld := ⟨DUG_SWEEPS, 0, 36⟩
/-- DUG.LATE_STEPS, offset 0x0B8 (spec/18_redundancy_group.md). -/
abbrev DUG_LATE_STEPS : Nat := 122903
abbrev DUG_LATE_STEPS_COUNT : Fld := ⟨DUG_LATE_STEPS, 0, 36⟩
/-- DUG.PEER_STAT0 to 2, offset 0x100 (spec/18_redundancy_group.md). -/
abbrev DUG_PEER_STAT (i : Nat) : Nat := 122912 + 16 * i
abbrev DUG_PEER_STAT_LANE1_UP (i : Nat) : Fld := ⟨DUG_PEER_STAT i, 9, 1⟩
abbrev DUG_PEER_STAT_LANE0_UP (i : Nat) : Fld := ⟨DUG_PEER_STAT i, 8, 1⟩
abbrev DUG_PEER_STAT_HB_OK (i : Nat) : Fld := ⟨DUG_PEER_STAT i, 6, 1⟩
abbrev DUG_PEER_STAT_FLAGS (i : Nat) : Fld := ⟨DUG_PEER_STAT i, 3, 3⟩
abbrev DUG_PEER_STAT_ROLE (i : Nat) : Fld := ⟨DUG_PEER_STAT i, 0, 3⟩
/-- DUG.PEER_SERIAL_HI0 to 2, offset 0x108 (spec/18_redundancy_group.md). -/
abbrev DUG_PEER_SERIAL_HI (i : Nat) : Nat := 122913 + 16 * i
abbrev DUG_PEER_SERIAL_HI_SN (i : Nat) : Fld := ⟨DUG_PEER_SERIAL_HI i, 0, 36⟩
/-- DUG.PEER_SERIAL_LO0 to 2, offset 0x110 (spec/18_redundancy_group.md). -/
abbrev DUG_PEER_SERIAL_LO (i : Nat) : Nat := 122914 + 16 * i
abbrev DUG_PEER_SERIAL_LO_SN (i : Nat) : Fld := ⟨DUG_PEER_SERIAL_LO i, 0, 36⟩
/-- DUG.ASYM0 to 2, offset 0x118 (spec/18_redundancy_group.md). -/
abbrev DUG_ASYM (i : Nat) : Nat := 122915 + 16 * i
abbrev DUG_ASYM_PS (i : Nat) : Fld := ⟨DUG_ASYM i, 0, 36⟩
/-- DUG.OFFSET0 to 2, offset 0x120 (spec/18_redundancy_group.md). -/
abbrev DUG_OFFSET (i : Nat) : Nat := 122916 + 16 * i
abbrev DUG_OFFSET_S (i : Nat) : Fld := ⟨DUG_OFFSET i, 0, 36⟩
/-- DUG.DELAY0 to 2, offset 0x130 (spec/18_redundancy_group.md). -/
abbrev DUG_DELAY (i : Nat) : Nat := 122918 + 16 * i
abbrev DUG_DELAY_PS (i : Nat) : Fld := ⟨DUG_DELAY i, 0, 36⟩
/-- DUG.PEER_TEB0 to 2, offset 0x138 (spec/18_redundancy_group.md). -/
abbrev DUG_PEER_TEB (i : Nat) : Nat := 122919 + 16 * i
abbrev DUG_PEER_TEB_PS (i : Nat) : Fld := ⟨DUG_PEER_TEB i, 0, 36⟩
/-- DUG.RX_ERR0 to 2, offset 0x140 (spec/18_redundancy_group.md). -/
abbrev DUG_RX_ERR (i : Nat) : Nat := 122920 + 16 * i
abbrev DUG_RX_ERR_COUNT (i : Nat) : Fld := ⟨DUG_RX_ERR i, 0, 36⟩
/-- DUG.HB_LOSS0 to 2, offset 0x148 (spec/18_redundancy_group.md). -/
abbrev DUG_HB_LOSS (i : Nat) : Nat := 122921 + 16 * i
abbrev DUG_HB_LOSS_COUNT (i : Nat) : Fld := ⟨DUG_HB_LOSS i, 0, 36⟩
/-- DUG.DRIFT, offset 0x400 (spec/18_redundancy_group.md). -/
abbrev DUG_DRIFT : Nat := 123008
abbrev DUG_DRIFT_Y : Fld := ⟨DUG_DRIFT, 0, 36⟩
/-- DUG.MARGIN, offset 0x408 (spec/18_redundancy_group.md). -/
abbrev DUG_MARGIN : Nat := 123009
abbrev DUG_MARGIN_PS : Fld := ⟨DUG_MARGIN, 0, 36⟩
/-- DUG.XFER_ACC, offset 0x410 (spec/18_redundancy_group.md). -/
abbrev DUG_XFER_ACC : Nat := 123010
abbrev DUG_XFER_ACC_PS : Fld := ⟨DUG_XFER_ACC, 0, 36⟩
/-- DUG.HB_TMO, offset 0x418 (spec/18_redundancy_group.md). -/
abbrev DUG_HB_TMO : Nat := 123011
abbrev DUG_HB_TMO_MS : Fld := ⟨DUG_HB_TMO, 0, 4⟩
/-- FLT.LATCH, offset 0x040 (spec/19_faults.md). -/
abbrev FLT_LATCH : Nat := 1544
abbrev FLT_LATCH_LINES : Fld := ⟨FLT_LATCH, 0, 36⟩
/-- FLT.NOW, offset 0x048 (spec/19_faults.md). -/
abbrev FLT_NOW : Nat := 1545
abbrev FLT_NOW_LINES : Fld := ⟨FLT_NOW, 0, 36⟩
/-- FLT.SEV_LO, offset 0x050 (spec/19_faults.md). -/
abbrev FLT_SEV_LO : Nat := 1546
abbrev FLT_SEV_LO_SEV : Fld := ⟨FLT_SEV_LO, 0, 36⟩
/-- FLT.SEV_HI, offset 0x058 (spec/19_faults.md). -/
abbrev FLT_SEV_HI : Nat := 1547
abbrev FLT_SEV_HI_SEV : Fld := ⟨FLT_SEV_HI, 0, 36⟩
/-- FLT.FIRST, offset 0x060 (spec/19_faults.md). -/
abbrev FLT_FIRST : Nat := 1548
abbrev FLT_FIRST_VALID : Fld := ⟨FLT_FIRST, 35, 1⟩
abbrev FLT_FIRST_NO_TIME : Fld := ⟨FLT_FIRST, 34, 1⟩
abbrev FLT_FIRST_SEV : Fld := ⟨FLT_FIRST, 32, 2⟩
abbrev FLT_FIRST_LINE : Fld := ⟨FLT_FIRST, 24, 6⟩
abbrev FLT_FIRST_SEC_HI : Fld := ⟨FLT_FIRST, 0, 24⟩
/-- FLT.FIRST_MID, offset 0x068 (spec/19_faults.md). -/
abbrev FLT_FIRST_MID : Nat := 1549
abbrev FLT_FIRST_MID_SEC_LO : Fld := ⟨FLT_FIRST_MID, 12, 24⟩
abbrev FLT_FIRST_MID_NS_HI : Fld := ⟨FLT_FIRST_MID, 0, 12⟩
/-- FLT.FIRST_LOW, offset 0x070 (spec/19_faults.md). -/
abbrev FLT_FIRST_LOW : Nat := 1550
abbrev FLT_FIRST_LOW_NS_LO : Fld := ⟨FLT_FIRST_LOW, 18, 18⟩
abbrev FLT_FIRST_LOW_FRAC : Fld := ⟨FLT_FIRST_LOW, 0, 18⟩
/-- FLT.MERGED, offset 0x078 (spec/19_faults.md). -/
abbrev FLT_MERGED : Nat := 1551
abbrev FLT_MERGED_COUNT : Fld := ⟨FLT_MERGED, 0, 16⟩
/-- FLT.CTRL, offset 0x080 (spec/19_faults.md). -/
abbrev FLT_CTRL : Nat := 1552
abbrev FLT_CTRL_ALARM_SEV : Fld := ⟨FLT_CTRL, 0, 2⟩
/-- FLT.CMD, offset 0x088 (spec/19_faults.md). -/
abbrev FLT_CMD : Nat := 1553
abbrev FLT_CMD_STATUS : Fld := ⟨FLT_CMD, 32, 4⟩
abbrev FLT_CMD_OP : Fld := ⟨FLT_CMD, 0, 4⟩
/-- FLT.STATUS, offset 0x090 (spec/19_faults.md). -/
abbrev FLT_STATUS : Nat := 1554
abbrev FLT_STATUS_ALARM : Fld := ⟨FLT_STATUS, 9, 1⟩
abbrev FLT_STATUS_SEV_AUTH : Fld := ⟨FLT_STATUS, 8, 1⟩
abbrev FLT_STATUS_SEV_COACH : Fld := ⟨FLT_STATUS, 2, 6⟩
abbrev FLT_STATUS_SEV_ALL : Fld := ⟨FLT_STATUS, 1, 1⟩
abbrev FLT_STATUS_BRAKE : Fld := ⟨FLT_STATUS, 0, 1⟩
/-- FLT.BRAKES, offset 0x098 (spec/19_faults.md). -/
abbrev FLT_BRAKES : Nat := 1555
abbrev FLT_BRAKES_COUNT : Fld := ⟨FLT_BRAKES, 0, 36⟩
/-- FLT.LINE_SEL, offset 0x0A0 (spec/19_faults.md). -/
abbrev FLT_LINE_SEL : Nat := 1556
abbrev FLT_LINE_SEL_LINE : Fld := ⟨FLT_LINE_SEL, 0, 6⟩
/-- FLT.LINE_STAT, offset 0x0A8 (spec/19_faults.md). -/
abbrev FLT_LINE_STAT : Nat := 1557
abbrev FLT_LINE_STAT_NO_TIME : Fld := ⟨FLT_LINE_STAT, 17, 1⟩
abbrev FLT_LINE_STAT_NOW : Fld := ⟨FLT_LINE_STAT, 16, 1⟩
abbrev FLT_LINE_STAT_RISES : Fld := ⟨FLT_LINE_STAT, 0, 16⟩
/-- FLT.LINE_SET_T, offset 0x0B0 (spec/19_faults.md). -/
abbrev FLT_LINE_SET_T : Nat := 1558
abbrev FLT_LINE_SET_T_T : Fld := ⟨FLT_LINE_SET_T, 0, 36⟩
/-- FLT.LINE_CLR_T, offset 0x0C8 (spec/19_faults.md). -/
abbrev FLT_LINE_CLR_T : Nat := 1561
abbrev FLT_LINE_CLR_T_T : Fld := ⟨FLT_LINE_CLR_T, 0, 36⟩
/-- FLT.SOFT, offset 0x0E0 (spec/19_faults.md). -/
abbrev FLT_SOFT : Nat := 1564
abbrev FLT_SOFT_RAISE : Fld := ⟨FLT_SOFT, 0, 1⟩
/-- FLT.WDOG_CFG, offset 0x0E8 (spec/19_faults.md). -/
abbrev FLT_WDOG_CFG : Nat := 1565
abbrev FLT_WDOG_CFG_PERIOD : Fld := ⟨FLT_WDOG_CFG, 0, 16⟩
/-- FLT.WDOG, offset 0x0F0 (spec/19_faults.md). -/
abbrev FLT_WDOG : Nat := 1566
abbrev FLT_WDOG_KICK : Fld := ⟨FLT_WDOG, 0, 36⟩
/-- FLT.INJ, offset 0x400 (spec/19_faults.md). -/
abbrev FLT_INJ : Nat := 1664
abbrev FLT_INJ_STATUS : Fld := ⟨FLT_INJ, 32, 4⟩
abbrev FLT_INJ_QUIET : Fld := ⟨FLT_INJ, 21, 1⟩
abbrev FLT_INJ_COUNT : Fld := ⟨FLT_INJ, 18, 3⟩
abbrev FLT_INJ_TO : Fld := ⟨FLT_INJ, 12, 4⟩
abbrev FLT_INJ_UNIT : Fld := ⟨FLT_INJ, 8, 4⟩
abbrev FLT_INJ_CHECKER : Fld := ⟨FLT_INJ, 0, 4⟩
/-- FLT.INJ_DETECT, offset 0x408 (spec/19_faults.md). -/
abbrev FLT_INJ_DETECT : Nat := 1665
abbrev FLT_INJ_DETECT_COUNT : Fld := ⟨FLT_INJ_DETECT, 0, 36⟩
/-- AO.STATUS, offset 0x040 (spec/19_faults.md). -/
abbrev AO_STATUS : Nat := 2568
abbrev AO_STATUS_OSC_BAD : Fld := ⟨AO_STATUS, 1, 1⟩
abbrev AO_STATUS_ISLCLK_BAD : Fld := ⟨AO_STATUS, 0, 1⟩
/-- AO.OSC_DEV, offset 0x048 (spec/19_faults.md). -/
abbrev AO_OSC_DEV : Nat := 2569
abbrev AO_OSC_DEV_DEV : Fld := ⟨AO_OSC_DEV, 0, 16⟩
/-- AO.ISLCLK_FAIL, offset 0x050 (spec/19_faults.md). -/
abbrev AO_ISLCLK_FAIL : Nat := 2570
abbrev AO_ISLCLK_FAIL_ISLANDS : Fld := ⟨AO_ISLCLK_FAIL, 0, 16⟩
/-- AO.ISLCLK_SEL, offset 0x058 (spec/19_faults.md). -/
abbrev AO_ISLCLK_SEL : Nat := 2571
abbrev AO_ISLCLK_SEL_ISLAND : Fld := ⟨AO_ISLCLK_SEL, 0, 4⟩
/-- AO.ISLCLK_FREQ, offset 0x060 (spec/19_faults.md). -/
abbrev AO_ISLCLK_FREQ : Nat := 2572
abbrev AO_ISLCLK_FREQ_KHZ : Fld := ⟨AO_ISLCLK_FREQ, 0, 21⟩
/-- AO.PARITY_ERR, offset 0x068 (spec/19_faults.md). -/
abbrev AO_PARITY_ERR : Nat := 2573
abbrev AO_PARITY_ERR_COUNT : Fld := ⟨AO_PARITY_ERR, 0, 36⟩
/-- AO.ISLCLK_EVENTS, offset 0x070 (spec/19_faults.md). -/
abbrev AO_ISLCLK_EVENTS : Nat := 2574
abbrev AO_ISLCLK_EVENTS_COUNT : Fld := ⟨AO_ISLCLK_EVENTS, 0, 36⟩
/-- REC.HEAD, offset 0x040 (spec/20_event_recorder.md). -/
abbrev REC_HEAD : Nat := 2056
abbrev REC_HEAD_SEQ : Fld := ⟨REC_HEAD, 0, 35⟩
/-- REC.OLDEST, offset 0x048 (spec/20_event_recorder.md). -/
abbrev REC_OLDEST : Nat := 2057
abbrev REC_OLDEST_SEQ : Fld := ⟨REC_OLDEST, 0, 36⟩
/-- REC.JRN_HEAD, offset 0x050 (spec/20_event_recorder.md). -/
abbrev REC_JRN_HEAD : Nat := 2058
abbrev REC_JRN_HEAD_SEQ : Fld := ⟨REC_JRN_HEAD, 0, 36⟩
/-- REC.JRN_OLDEST, offset 0x058 (spec/20_event_recorder.md). -/
abbrev REC_JRN_OLDEST : Nat := 2059
abbrev REC_JRN_OLDEST_SEQ : Fld := ⟨REC_JRN_OLDEST, 0, 36⟩
/-- REC.READ_MARK, offset 0x060 (spec/20_event_recorder.md). -/
abbrev REC_READ_MARK : Nat := 2060
abbrev REC_READ_MARK_SEQ : Fld := ⟨REC_READ_MARK, 0, 36⟩
/-- REC.NOTIFY, offset 0x068 (spec/20_event_recorder.md). -/
abbrev REC_NOTIFY : Nat := 2061
abbrev REC_NOTIFY_N : Fld := ⟨REC_NOTIFY, 0, 12⟩
/-- REC.RD_IDX, offset 0x070 (spec/20_event_recorder.md). -/
abbrev REC_RD_IDX : Nat := 2062
abbrev REC_RD_IDX_IDX : Fld := ⟨REC_RD_IDX, 0, 11⟩
/-- REC.RD_SRC, offset 0x078 (spec/20_event_recorder.md). -/
abbrev REC_RD_SRC : Nat := 2063
abbrev REC_RD_SRC_SRC : Fld := ⟨REC_RD_SRC, 0, 1⟩
/-- REC.FETCH_SEQ, offset 0x080 (spec/20_event_recorder.md). -/
abbrev REC_FETCH_SEQ : Nat := 2064
abbrev REC_FETCH_SEQ_SEQ : Fld := ⟨REC_FETCH_SEQ, 0, 36⟩
/-- REC.FETCH_CMD, offset 0x088 (spec/20_event_recorder.md). -/
abbrev REC_FETCH_CMD : Nat := 2065
abbrev REC_FETCH_CMD_STATUS : Fld := ⟨REC_FETCH_CMD, 32, 4⟩
abbrev REC_FETCH_CMD_OP : Fld := ⟨REC_FETCH_CMD, 0, 4⟩
/-- REC.HOST_MARK, offset 0x090 (spec/20_event_recorder.md). -/
abbrev REC_HOST_MARK : Nat := 2066
abbrev REC_HOST_MARK_VALUE : Fld := ⟨REC_HOST_MARK, 0, 36⟩
/-- REC.JRN_CFG, offset 0x098 (spec/20_event_recorder.md). -/
abbrev REC_JRN_CFG : Nat := 2067
abbrev REC_JRN_CFG_MAX_AGE : Fld := ⟨REC_JRN_CFG, 4, 16⟩
/-- REC.JRN_BATCH, offset 0x0A0 (spec/20_event_recorder.md). -/
abbrev REC_JRN_BATCH : Nat := 2068
abbrev REC_JRN_BATCH_BATCH : Fld := ⟨REC_JRN_BATCH, 0, 5⟩
/-- REC.SUPPRESSED, offset 0x0A8 (spec/20_event_recorder.md). -/
abbrev REC_SUPPRESSED : Nat := 2069
abbrev REC_SUPPRESSED_COUNT : Fld := ⟨REC_SUPPRESSED, 0, 36⟩
/-- REC.JRN_LOST, offset 0x0B0 (spec/20_event_recorder.md). -/
abbrev REC_JRN_LOST : Nat := 2070
abbrev REC_JRN_LOST_COUNT : Fld := ⟨REC_JRN_LOST, 0, 36⟩
/-- REC.ECC_UNCORR, offset 0x0B8 (spec/20_event_recorder.md). -/
abbrev REC_ECC_UNCORR : Nat := 2071
abbrev REC_ECC_UNCORR_COUNT : Fld := ⟨REC_ECC_UNCORR, 0, 36⟩
/-- REC.JRN_FAIL, offset 0x0C0 (spec/20_event_recorder.md). -/
abbrev REC_JRN_FAIL : Nat := 2072
abbrev REC_JRN_FAIL_COUNT : Fld := ⟨REC_JRN_FAIL, 0, 36⟩
/-- REC.Q_LOST, offset 0x0C8 (spec/20_event_recorder.md). -/
abbrev REC_Q_LOST : Nat := 2073
abbrev REC_Q_LOST_COUNT : Fld := ⟨REC_Q_LOST, 0, 36⟩
/-- REC.AO_LOST, offset 0x0D0 (spec/20_event_recorder.md). -/
abbrev REC_AO_LOST : Nat := 2074
abbrev REC_AO_LOST_COUNT : Fld := ⟨REC_AO_LOST, 0, 36⟩
/-- REC.WIN0 to 61, offset 0x200 (spec/20_event_recorder.md). -/
abbrev REC_WIN (i : Nat) : Nat := 2112 + i
abbrev REC_WIN_WORD (i : Nat) : Fld := ⟨REC_WIN i, 0, 36⟩
/-- REC.CODE_SEL, offset 0x400 (spec/20_event_recorder.md). -/
abbrev REC_CODE_SEL : Nat := 2176
abbrev REC_CODE_SEL_CODE : Fld := ⟨REC_CODE_SEL, 0, 8⟩
/-- REC.CODE_CFG, offset 0x408 (spec/20_event_recorder.md). -/
abbrev REC_CODE_CFG : Nat := 2177
abbrev REC_CODE_CFG_FILL : Fld := ⟨REC_CODE_CFG, 16, 16⟩
abbrev REC_CODE_CFG_DEPTH : Fld := ⟨REC_CODE_CFG, 8, 8⟩
abbrev REC_CODE_CFG_NSNAP : Fld := ⟨REC_CODE_CFG, 0, 5⟩
/-- REC.SNAP0 to 23, offset 0x410 (spec/20_event_recorder.md). -/
abbrev REC_SNAP (i : Nat) : Nat := 2178 + i
abbrev REC_SNAP_SLOT (i : Nat) : Fld := ⟨REC_SNAP i, 0, 23⟩
/-- PCI.LINK, offset 0x040 (spec/21_host_interface.md). -/
abbrev PCI_LINK : Nat := 131080
abbrev PCI_LINK_UP : Fld := ⟨PCI_LINK, 8, 1⟩
abbrev PCI_LINK_WIDTH : Fld := ⟨PCI_LINK, 4, 4⟩
abbrev PCI_LINK_SPEED : Fld := ⟨PCI_LINK, 0, 4⟩
/-- PCI.LINK_DOWNS, offset 0x048 (spec/21_host_interface.md). -/
abbrev PCI_LINK_DOWNS : Nat := 131081
abbrev PCI_LINK_DOWNS_COUNT : Fld := ⟨PCI_LINK_DOWNS, 0, 36⟩
/-- PCI.FLRS, offset 0x050 (spec/21_host_interface.md). -/
abbrev PCI_FLRS : Nat := 131082
abbrev PCI_FLRS_PF1 : Fld := ⟨PCI_FLRS, 18, 18⟩
abbrev PCI_FLRS_PF0 : Fld := ⟨PCI_FLRS, 0, 18⟩
/-- PCI.ERR_CORR, offset 0x058 (spec/21_host_interface.md). -/
abbrev PCI_ERR_CORR : Nat := 131083
abbrev PCI_ERR_CORR_COUNT : Fld := ⟨PCI_ERR_CORR, 0, 36⟩
/-- PCI.ERR_UNCORR, offset 0x060 (spec/21_host_interface.md). -/
abbrev PCI_ERR_UNCORR : Nat := 131084
abbrev PCI_ERR_UNCORR_COUNT : Fld := ⟨PCI_ERR_UNCORR, 0, 36⟩
/-- SPI.STATUS, offset 0x040 (spec/21_host_interface.md). -/
abbrev SPI_STATUS : Nat := 131592
abbrev SPI_STATUS_EXPERT : Fld := ⟨SPI_STATUS, 4, 1⟩
abbrev SPI_STATUS_ABORTED : Fld := ⟨SPI_STATUS, 3, 1⟩
abbrev SPI_STATUS_CRC : Fld := ⟨SPI_STATUS, 2, 1⟩
abbrev SPI_STATUS_ERR : Fld := ⟨SPI_STATUS, 1, 1⟩
abbrev SPI_STATUS_DONE : Fld := ⟨SPI_STATUS, 0, 1⟩
/-- SPI.CRC_ERR, offset 0x048 (spec/21_host_interface.md). -/
abbrev SPI_CRC_ERR : Nat := 131593
abbrev SPI_CRC_ERR_COUNT : Fld := ⟨SPI_CRC_ERR, 0, 36⟩
/-- SPI.ABORTED, offset 0x050 (spec/21_host_interface.md). -/
abbrev SPI_ABORTED : Nat := 131594
abbrev SPI_ABORTED_COUNT : Fld := ⟨SPI_ABORTED, 0, 36⟩
/-- SPI.TRANSFERS, offset 0x058 (spec/21_host_interface.md). -/
abbrev SPI_TRANSFERS : Nat := 131595
abbrev SPI_TRANSFERS_COUNT : Fld := ⟨SPI_TRANSFERS, 0, 36⟩
/-- DMA.STATUS, offset 0x040 (spec/21_host_interface.md). -/
abbrev DMA_STATUS : Nat := 132104
abbrev DMA_STATUS_RUN : Fld := ⟨DMA_STATUS, 0, 8⟩
/-- DMA.DQ_PEND, offset 0x048 (spec/21_host_interface.md). -/
abbrev DMA_DQ_PEND : Nat := 132105
abbrev DMA_DQ_PEND_PEND : Fld := ⟨DMA_DQ_PEND, 0, 8⟩
/-- DMA.RX_MAP, offset 0x050 (spec/21_host_interface.md). -/
abbrev DMA_RX_MAP : Nat := 132106
abbrev DMA_RX_MAP_RING : Fld := ⟨DMA_RX_MAP, 0, 16⟩
/-- DMA.BAD_DESC, offset 0x058 (spec/21_host_interface.md). -/
abbrev DMA_BAD_DESC : Nat := 132107
abbrev DMA_BAD_DESC_COUNT : Fld := ⟨DMA_BAD_DESC, 0, 36⟩
/-- DMA.BAD_TAIL, offset 0x060 (spec/21_host_interface.md). -/
abbrev DMA_BAD_TAIL : Nat := 132108
abbrev DMA_BAD_TAIL_COUNT : Fld := ⟨DMA_BAD_TAIL, 0, 36⟩
/-- DMA.BASE_LO0 to 7, offset 0x100 (spec/21_host_interface.md). -/
abbrev DMA_BASE_LO (i : Nat) : Nat := 132128 + 8 * i
abbrev DMA_BASE_LO_ADDR (i : Nat) : Fld := ⟨DMA_BASE_LO i, 0, 32⟩
/-- DMA.BASE_HI0 to 7, offset 0x108 (spec/21_host_interface.md). -/
abbrev DMA_BASE_HI (i : Nat) : Nat := 132129 + 8 * i
abbrev DMA_BASE_HI_ADDR (i : Nat) : Fld := ⟨DMA_BASE_HI i, 0, 32⟩
/-- DMA.CFG0 to 7, offset 0x110 (spec/21_host_interface.md). -/
abbrev DMA_CFG (i : Nat) : Nat := 132130 + 8 * i
abbrev DMA_CFG_HOST_ERR (i : Nat) : Fld := ⟨DMA_CFG i, 9, 1⟩
abbrev DMA_CFG_PF (i : Nat) : Fld := ⟨DMA_CFG i, 8, 1⟩
abbrev DMA_CFG_LOG2 (i : Nat) : Fld := ⟨DMA_CFG i, 4, 4⟩
abbrev DMA_CFG_EN (i : Nat) : Fld := ⟨DMA_CFG i, 0, 1⟩
/-- DMA.TAIL0 to 7, offset 0x118 (spec/21_host_interface.md). -/
abbrev DMA_TAIL (i : Nat) : Nat := 132131 + 8 * i
abbrev DMA_TAIL_IDX (i : Nat) : Fld := ⟨DMA_TAIL i, 0, 16⟩
/-- DMA.HEAD0 to 7, offset 0x120 (spec/21_host_interface.md). -/
abbrev DMA_HEAD (i : Nat) : Nat := 132132 + 8 * i
abbrev DMA_HEAD_IDX (i : Nat) : Fld := ⟨DMA_HEAD i, 0, 16⟩
/-- DMA.DONE0 to 7, offset 0x128 (spec/21_host_interface.md). -/
abbrev DMA_DONE (i : Nat) : Nat := 132133 + 8 * i
abbrev DMA_DONE_IDX (i : Nat) : Fld := ⟨DMA_DONE i, 0, 16⟩
/-- DMA.SEEN0 to 7, offset 0x130 (spec/21_host_interface.md). -/
abbrev DMA_SEEN (i : Nat) : Nat := 132134 + 8 * i
abbrev DMA_SEEN_IDX (i : Nat) : Fld := ⟨DMA_SEEN i, 0, 16⟩
/-- DMA.MOD0 to 7, offset 0x138 (spec/21_host_interface.md). -/
abbrev DMA_MOD (i : Nat) : Nat := 132135 + 8 * i
abbrev DMA_MOD_TIME (i : Nat) : Fld := ⟨DMA_MOD i, 16, 16⟩
abbrev DMA_MOD_COUNT (i : Nat) : Fld := ⟨DMA_MOD i, 0, 16⟩
/-- DMA.FRAMES0 to 7, offset 0x300 (spec/21_host_interface.md). -/
abbrev DMA_FRAMES (i : Nat) : Nat := 132192 + 3 * i
abbrev DMA_FRAMES_COUNT (i : Nat) : Fld := ⟨DMA_FRAMES i, 0, 36⟩
/-- DMA.DROP0 to 7, offset 0x308 (spec/21_host_interface.md). -/
abbrev DMA_DROP (i : Nat) : Nat := 132193 + 3 * i
abbrev DMA_DROP_COUNT (i : Nat) : Fld := ⟨DMA_DROP i, 0, 36⟩
/-- DMA.TOOBIG0 to 7, offset 0x310 (spec/21_host_interface.md). -/
abbrev DMA_TOOBIG (i : Nat) : Nat := 132194 + 3 * i
abbrev DMA_TOOBIG_COUNT (i : Nat) : Fld := ⟨DMA_TOOBIG i, 0, 36⟩
/-- THM.STATUS, offset 0x040 (spec/22_electrical.md). -/
abbrev THM_STATUS : Nat := 3592
abbrev THM_STATUS_CRIT : Fld := ⟨THM_STATUS, 1, 1⟩
abbrev THM_STATUS_ALERT : Fld := ⟨THM_STATUS, 0, 1⟩
/-- THM.TJ, offset 0x048 (spec/22_electrical.md). -/
abbrev THM_TJ : Nat := 3593
abbrev THM_TJ_T : Fld := ⟨THM_TJ, 0, 18⟩
/-- THM.TJ_PEAK, offset 0x050 (spec/22_electrical.md). -/
abbrev THM_TJ_PEAK : Nat := 3594
abbrev THM_TJ_PEAK_T : Fld := ⟨THM_TJ_PEAK, 0, 18⟩
/-- THM.ALERT_SET, offset 0x058 (spec/22_electrical.md). -/
abbrev THM_ALERT_SET : Nat := 3595
abbrev THM_ALERT_SET_T : Fld := ⟨THM_ALERT_SET, 0, 18⟩
/-- THM.ALERT_CLR, offset 0x060 (spec/22_electrical.md). -/
abbrev THM_ALERT_CLR : Nat := 3596
abbrev THM_ALERT_CLR_T : Fld := ⟨THM_ALERT_CLR, 0, 18⟩
/-- THM.CRIT, offset 0x068 (spec/22_electrical.md). -/
abbrev THM_CRIT : Nat := 3597
abbrev THM_CRIT_T : Fld := ⟨THM_CRIT, 0, 18⟩
/-- THM.HOURS_HOT, offset 0x070 (spec/22_electrical.md). -/
abbrev THM_HOURS_HOT : Nat := 3598
abbrev THM_HOURS_HOT_COUNT : Fld := ⟨THM_HOURS_HOT, 0, 36⟩
end R

/-! ## The page maps -/
namespace PageMap
/-- Registers of the GLB page map. -/
def GLB : List RegDef := [
  ⟨8, 1, 1, 1, 0x0, 0x0, 0x0, 0xFFFFFFFFF, 0, 0x0⟩,
  ⟨9, 1, 1, 1, 0x0, 0x0, 0x0, 0x0, 0, 0x0⟩,
  ⟨10, 1, 1, 1, 0xFF01, 0x0, 0x0, 0x0, 0, 0xA00⟩,
  ⟨11, 1, 1, 1, 0x0, 0x0, 0x0, 0x0, 0, 0x0⟩,
  ⟨12, 1, 1, 1, 0x0, 0x0, 0x0, 0x0, 0, 0x0⟩,
  ⟨13, 1, 1, 1, 0x0, 0x0, 0x0, 0x0, 0, 0x0⟩,
  ⟨14, 1, 1, 1, 0x0, 0x0, 0x0, 0x0, 0, 0x0⟩,
  ⟨15, 1, 1, 1, 0xFFFFFFFFF, 0x0, 0x0, 0x0, 0, 0x0⟩,
  ⟨16, 1, 1, 1, 0x0, 0x0, 0x0, 0x0, 0, 0x0⟩,
  ⟨17, 1, 1, 1, 0x0, 0x0, 0x0, 0x0, 0, 0x0⟩]
/-- Registers of the BOOT page map. -/
def BOOT : List RegDef := [
  ⟨8, 1, 1, 1, 0x0, 0x0, 0x0, 0x0, 0, 0x1⟩,
  ⟨9, 1, 1, 1, 0x0, 0x0, 0x0, 0x0, 0, 0x0⟩,
  ⟨10, 1, 1, 1, 0x7, 0x0, 0x0, 0x0, 0, 0x0⟩,
  ⟨11, 1, 1, 1, 0x0, 0x0, 0x0, 0x0, 0, 0x0⟩,
  ⟨12, 1, 1, 1, 0x0, 0x0, 0x0, 0x0, 0, 0x0⟩,
  ⟨13, 1, 1, 1, 0x0, 0x0, 0x0, 0x0, 0, 0x0⟩,
  ⟨14, 1, 1, 1, 0x0, 0x0, 0x0, 0x13F, 0, 0x0⟩,
  ⟨15, 1, 1, 1, 0xFFFFFFFFF, 0x0, 0x0, 0x0, 0, 0x0⟩,
  ⟨16, 1, 1, 1, 0x0, 0x0, 0x0, 0x0, 0, 0x0⟩,
  ⟨17, 1, 3, 3, 0x0, 0x0, 0x0, 0x0, 1, 0x0⟩,
  ⟨20, 1, 3, 3, 0x0, 0x0, 0x0, 0x0, 1, 0x0⟩,
  ⟨23, 1, 3, 3, 0x0, 0x0, 0x0, 0x0, 1, 0x0⟩,
  ⟨26, 1, 1, 1, 0x0, 0x0, 0x0, 0x0, 0, 0x0⟩]
/-- Registers of the EVT page map. -/
def EVT : List RegDef := [
  ⟨8, 4, 1, 1, 0x0, 0x0, 0x0, 0x0, 0, 0x0⟩,
  ⟨12, 1, 1, 1, 0xFFFFFFFF, 0x0, 0x0, 0x0, 0, 0x14A⟩,
  ⟨13, 1, 1, 1, 0xFFFFFFFF, 0x0, 0x0, 0x0, 0, 0x0⟩,
  ⟨14, 1, 1, 1, 0xFFFFFFFF, 0x0, 0x0, 0x0, 0, 0x0⟩,
  ⟨15, 1, 1, 1, 0xFFFFFFFF, 0x0, 0x0, 0x0, 0, 0x0⟩,
  ⟨16, 1, 1, 1, 0xFFFFFFFFF, 0x0, 0x0, 0x0, 0, 0x41800800⟩,
  ⟨17, 1, 1, 1, 0xFFFFFFFFF, 0x0, 0x0, 0x0, 0, 0x820A2061⟩,
  ⟨18, 1, 1, 1, 0xFFFFFFFFF, 0x0, 0x0, 0x0, 0, 0x1040C30C3⟩,
  ⟨19, 1, 1, 1, 0xFFFFFFFFF, 0x0, 0x0, 0x0, 0, 0x145145104⟩,
  ⟨20, 1, 1, 1, 0xFFFFFFFFF, 0x0, 0x0, 0x0, 0, 0x1C7186186⟩,
  ⟨21, 1, 1, 1, 0xFFFFFFFFF, 0x0, 0x0, 0x0, 0, 0x2082081C7⟩,
  ⟨22, 1, 1, 1, 0xFFFFFFFFF, 0x0, 0x0, 0x0, 0, 0x28A249249⟩,
  ⟨23, 1, 1, 1, 0xFFFFFFFFF, 0x0, 0x0, 0x0, 0, 0x2CB2CB28A⟩,
  ⟨24, 1, 1, 1, 0xFFFFFFFFF, 0x0, 0x0, 0x0, 0, 0x34D30C30C⟩,
  ⟨25, 1, 1, 1, 0xFFFFFFFFF, 0x0, 0x0, 0x0, 0, 0x38E38E34D⟩,
  ⟨26, 1, 1, 1, 0xFFFFFFFFF, 0x0, 0x0, 0x0, 0, 0x4103CF3CF⟩,
  ⟨27, 1, 1, 1, 0xFFFFFFFFF, 0x0, 0x0, 0x0, 0, 0x451451410⟩,
  ⟨28, 1, 1, 1, 0xFFFFFFFFF, 0x0, 0x0, 0x0, 0, 0x4D3492492⟩,
  ⟨29, 1, 1, 1, 0xFFFFFFFFF, 0x0, 0x0, 0x0, 0, 0x5145144D3⟩,
  ⟨30, 1, 1, 1, 0xFFFFFFFFF, 0x0, 0x0, 0x0, 0, 0x596555555⟩,
  ⟨31, 1, 1, 1, 0xFFFFFFFFF, 0x0, 0x0, 0x0, 0, 0x5D75D7596⟩,
  ⟨32, 1, 1, 1, 0xFFFFFFFFF, 0x0, 0x0, 0x0, 0, 0x659618618⟩,
  ⟨33, 1, 1, 1, 0xFFFFFFFFF, 0x0, 0x0, 0x0, 0, 0x69A69A659⟩,
  ⟨34, 1, 1, 1, 0xFFFFFFFFF, 0x0, 0x0, 0x0, 0, 0x71C6DB6DB⟩,
  ⟨35, 1, 1, 1, 0xFFFFFFFFF, 0x0, 0x0, 0x0, 0, 0x75D75D71C⟩,
  ⟨36, 1, 1, 1, 0xFFFFFFFFF, 0x0, 0x0, 0x0, 0, 0x7DF79E79E⟩,
  ⟨37, 1, 1, 1, 0xFFF, 0x0, 0x0, 0x0, 0, 0x7DF⟩,
  ⟨38, 1, 1, 1, 0xFFFFFFFF, 0x0, 0x0, 0x0, 0, 0x0⟩,
  ⟨39, 1, 1, 1, 0x0, 0x0, 0x0, 0xFFFFFFFF, 0, 0x0⟩,
  ⟨40, 1, 1, 1, 0x0, 0x0, 0x0, 0x0, 0, 0x0⟩,
  ⟨41, 1, 1, 1, 0x0, 0x0, 0x0, 0x0, 0, 0x0⟩]
/-- Registers of the FLT page map. -/
def FLT : List RegDef := [
  ⟨8, 1, 1, 1, 0x0, 0x0, 0xFFFFFFFFF, 0x0, 0, 0x0⟩,
  ⟨9, 1, 1, 1, 0x0, 0x0, 0x0, 0x0, 0, 0x0⟩,
  ⟨10, 1, 1, 1, 0xFFFFFFFFF, 0x0, 0x0, 0x0, 0, 0xEAA957D56⟩,
  ⟨11, 1, 1, 1, 0xFFFFFFFFF, 0x0, 0x0, 0x0, 0, 0x85685D52B⟩,
  ⟨12, 1, 1, 1, 0x0, 0x0, 0x0, 0x0, 0, 0x0⟩,
  ⟨13, 1, 1, 1, 0x0, 0x0, 0x0, 0x0, 0, 0x0⟩,
  ⟨14, 1, 1, 1, 0x0, 0x0, 0x0, 0x0, 0, 0x0⟩,
  ⟨15, 1, 1, 1, 0x0, 0x0, 0x0, 0x0, 0, 0x0⟩,
  ⟨16, 1, 1, 1, 0x3, 0x0, 0x0, 0x0, 0, 0x2⟩,
  ⟨17, 1, 1, 1, 0x0, 0x0, 0x0, 0xF, 0, 0x0⟩,
  ⟨18, 1, 1, 1, 0x0, 0x0, 0x0, 0x0, 0, 0x200⟩,
  ⟨19, 1, 1, 1, 0x0, 0x0, 0x0, 0x0, 0, 0x0⟩,
  ⟨20, 1, 1, 1, 0x3F, 0x0, 0x0, 0x0, 0, 0x0⟩,
  ⟨21, 1, 1, 1, 0x0, 0x0, 0x0, 0x0, 0, 0x0⟩,
  ⟨22, 1, 3, 3, 0x0, 0x0, 0x0, 0x0, 1, 0x0⟩,
  ⟨25, 1, 3, 3, 0x0, 0x0, 0x0, 0x0, 1, 0x0⟩,
  ⟨28, 1, 1, 1, 0x1, 0x0, 0x0, 0x0, 0, 0x0⟩,
  ⟨29, 1, 1, 1, 0xFFFF, 0x0, 0x0, 0x0, 0, 0x0⟩,
  ⟨30, 1, 1, 1, 0x0, 0x0, 0x0, 0xFFFFFFFFF, 0, 0x0⟩,
  ⟨128, 1, 1, 1, 0x0, 0x0, 0x0, 0x3CFF0F, 0, 0x0⟩,
  ⟨129, 1, 1, 1, 0x0, 0x0, 0x0, 0x0, 0, 0x0⟩]
/-- Registers of the REC page map. -/
def REC : List RegDef := [
  ⟨8, 1, 1, 1, 0x0, 0x0, 0x0, 0x0, 0, 0x0⟩,
  ⟨9, 1, 1, 1, 0x0, 0x0, 0x0, 0x0, 0, 0x0⟩,
  ⟨10, 1, 1, 1, 0x0, 0x0, 0x0, 0x0, 0, 0x0⟩,
  ⟨11, 1, 1, 1, 0x0, 0x0, 0x0, 0x0, 0, 0x0⟩,
  ⟨12, 1, 1, 1, 0xFFFFFFFFF, 0x0, 0x0, 0x0, 0, 0x0⟩,
  ⟨13, 1, 1, 1, 0xFFF, 0x0, 0x0, 0x0, 0, 0x10⟩,
  ⟨14, 1, 1, 1, 0x7FF, 0x0, 0x0, 0x0, 0, 0x0⟩,
  ⟨15, 1, 1, 1, 0x1, 0x0, 0x0, 0x0, 0, 0x0⟩,
  ⟨16, 1, 1, 1, 0xFFFFFFFFF, 0x0, 0x0, 0x0, 0, 0x0⟩,
  ⟨17, 1, 1, 1, 0x0, 0x0, 0x0, 0xF, 0, 0x0⟩,
  ⟨18, 1, 1, 1, 0x0, 0x0, 0x0, 0xFFFFFFFFF, 0, 0x0⟩,
  ⟨19, 1, 1, 1, 0xFFFF0, 0x0, 0x0, 0x0, 0, 0x3E80⟩,
  ⟨20, 1, 1, 1, 0x1F, 0x0, 0x0, 0x0, 0, 0x10⟩,
  ⟨21, 1, 1, 1, 0x0, 0x0, 0x0, 0x0, 0, 0x0⟩,
  ⟨22, 1, 1, 1, 0x0, 0x0, 0x0, 0x0, 0, 0x0⟩,
  ⟨23, 1, 1, 1, 0x0, 0x0, 0x0, 0x0, 0, 0x0⟩,
  ⟨24, 1, 1, 1, 0x0, 0x0, 0x0, 0x0, 0, 0x0⟩,
  ⟨25, 1, 1, 1, 0x0, 0x0, 0x0, 0x0, 0, 0x0⟩,
  ⟨26, 1, 1, 1, 0x0, 0x0, 0x0, 0x0, 0, 0x0⟩,
  ⟨64, 62, 1, 1, 0x0, 0x0, 0x0, 0x0, 0, 0x0⟩,
  ⟨128, 1, 1, 1, 0xFF, 0x0, 0x0, 0x0, 0, 0x0⟩,
  ⟨129, 1, 1, 1, 0xFFFFFF1F, 0x0, 0x0, 0x0, 0, 0x0⟩,
  ⟨130, 24, 1, 1, 0x7FFFFF, 0x0, 0x0, 0x0, 0, 0x0⟩]
/-- Registers of the AO page map. -/
def AO : List RegDef := [
  ⟨8, 1, 1, 1, 0x0, 0x0, 0x0, 0x0, 0, 0x0⟩,
  ⟨9, 1, 1, 1, 0x0, 0x0, 0x0, 0x0, 0, 0x0⟩,
  ⟨10, 1, 1, 1, 0x0, 0x0, 0x0, 0x0, 0, 0x0⟩,
  ⟨11, 1, 1, 1, 0xF, 0x0, 0x0, 0x0, 0, 0x1⟩,
  ⟨12, 1, 1, 1, 0x0, 0x0, 0x0, 0x0, 0, 0x0⟩,
  ⟨13, 1, 1, 1, 0x0, 0x0, 0x0, 0x0, 0, 0x0⟩,
  ⟨14, 1, 1, 1, 0x0, 0x0, 0x0, 0x0, 0, 0x0⟩]
/-- Registers of the PWR page map. -/
def PWR : List RegDef := [
  ⟨8, 1, 1, 1, 0x0, 0x0, 0x0, 0x0, 0, 0x1⟩,
  ⟨9, 1, 1, 1, 0x0, 0x0, 0x0, 0x0, 0, 0x0⟩,
  ⟨10, 1, 1, 1, 0x0, 0x0, 0x0, 0x0, 0, 0x0⟩,
  ⟨11, 1, 1, 1, 0x0, 0x0, 0x0, 0x0, 0, 0x0⟩]
/-- Registers of the THM page map. -/
def THM : List RegDef := [
  ⟨8, 1, 1, 1, 0x0, 0x0, 0x0, 0x0, 0, 0x0⟩,
  ⟨9, 1, 1, 1, 0x0, 0x0, 0x0, 0x0, 0, 0x0⟩,
  ⟨10, 1, 1, 1, 0x0, 0x0, 0x0, 0x0, 0, 0x0⟩,
  ⟨11, 1, 1, 1, 0x3FFFF, 0x0, 0x0, 0x0, 0, 0x17C00⟩,
  ⟨12, 1, 1, 1, 0x3FFFF, 0x0, 0x0, 0x0, 0, 0x16800⟩,
  ⟨13, 1, 1, 1, 0x3FFFF, 0x0, 0x0, 0x0, 0, 0x1A400⟩,
  ⟨14, 1, 1, 1, 0x0, 0x0, 0x0, 0x0, 0, 0x0⟩]
/-- Registers of the TMP page map. -/
def TMP : List RegDef := [
  ⟨8, 1, 1, 1, 0x0, 0x0, 0x0, 0x0, 0, 0x0⟩,
  ⟨9, 1, 1, 1, 0x0, 0x0, 0x3F, 0x0, 0, 0x0⟩,
  ⟨10, 1, 1, 1, 0x3F3F, 0x0, 0x0, 0x0, 0, 0x3F00⟩,
  ⟨11, 1, 1, 1, 0x0, 0x0, 0x0, 0x0, 0, 0xF00⟩,
  ⟨12, 1, 1, 1, 0x0, 0x0, 0x0, 0x0, 0, 0x0⟩]
/-- Registers of the NVM page map. -/
def NVM : List RegDef := [
  ⟨8, 1, 1, 1, 0x0, 0x0, 0x0, 0x0, 0, 0x0⟩,
  ⟨9, 1, 1, 1, 0x0, 0x0, 0x0, 0x0, 0, 0x0⟩,
  ⟨10, 1, 1, 1, 0x0, 0x0, 0x0, 0x0, 0, 0x0⟩,
  ⟨11, 1, 1, 1, 0x0, 0x0, 0x0, 0x0, 0, 0x0⟩,
  ⟨12, 1, 1, 1, 0x0, 0x0, 0x0, 0x0, 0, 0x0⟩,
  ⟨13, 1, 1, 1, 0x0, 0x0, 0x0, 0x0, 0, 0x0⟩,
  ⟨14, 1, 1, 1, 0x0, 0x0, 0x0, 0x0, 0, 0x0⟩]
/-- Registers of the TCORE page map. -/
def TCORE : List RegDef := [
  ⟨8, 1, 1, 1, 0x0, 0x0, 0x0, 0x0, 0, 0x0⟩,
  ⟨9, 1, 1, 1, 0x0, 0x0, 0x0, 0x0, 0, 0x0⟩,
  ⟨10, 1, 3, 3, 0x0, 0x0, 0x0, 0x0, 1, 0x0⟩,
  ⟨13, 1, 1, 1, 0x0, 0x0, 0x0, 0x0, 0, 0x0⟩,
  ⟨14, 1, 1, 1, 0x0, 0x0, 0x0, 0x0, 0, 0x0⟩,
  ⟨15, 1, 1, 1, 0x0, 0x0, 0x0, 0x0, 0, 0x0⟩,
  ⟨16, 1, 1, 1, 0x0, 0x0, 0x0, 0x0, 0, 0x0⟩,
  ⟨17, 1, 1, 1, 0x0, 0x0, 0x0, 0x0, 0, 0x0⟩,
  ⟨18, 1, 1, 1, 0x0, 0x0, 0x0, 0x0, 0, 0x0⟩,
  ⟨19, 1, 1, 1, 0x0, 0x0, 0x0, 0x0, 0, 0x0⟩,
  ⟨20, 1, 1, 1, 0x0, 0x0, 0x0, 0x0, 0, 0x0⟩,
  ⟨21, 1, 1, 1, 0x0, 0x0, 0x0, 0x0, 0, 0x0⟩]
/-- Registers of the VOTE page map. -/
def VOTE : List RegDef := [
  ⟨8, 1, 1, 1, 0x0, 0x0, 0x0, 0x0, 0, 0x71⟩,
  ⟨9, 1, 1, 1, 0x0, 0x0, 0x0, 0x0, 0, 0x0⟩,
  ⟨10, 1, 1, 1, 0x0, 0xFFFFFFFFF, 0x0, 0x0, 0, 0x100⟩,
  ⟨11, 1, 1, 1, 0x0, 0xFFFFFFFFF, 0x0, 0x0, 0, 0x0⟩,
  ⟨12, 1, 1, 1, 0x0, 0xFF, 0x0, 0x0, 0, 0x2⟩,
  ⟨13, 1, 1, 1, 0x0, 0xF0FFF, 0x0, 0x0, 0, 0x3003C⟩,
  ⟨14, 1, 1, 1, 0x0, 0x0, 0x0, 0x3F, 0, 0x0⟩,
  ⟨15, 1, 3, 3, 0x0, 0x0, 0x0, 0x0, 1, 0x0⟩,
  ⟨18, 1, 3, 3, 0xFFFFFFFFF, 0x0, 0x0, 0x0, 1, 0x0⟩,
  ⟨21, 1, 2, 2, 0xFFFFFFFFF, 0x0, 0x0, 0x0, 2, 0x0⟩,
  ⟨23, 1, 2, 2, 0x0, 0x0, 0x0, 0x0, 2, 0x0⟩,
  ⟨25, 1, 1, 1, 0xFFF, 0x0, 0x0, 0x0, 0, 0x0⟩,
  ⟨26, 1, 1, 1, 0xFFFFFFFFF, 0x0, 0x0, 0x0, 0, 0x0⟩,
  ⟨27, 1, 1, 1, 0xFFFFF3, 0x0, 0x0, 0x0, 0, 0x151800⟩,
  ⟨28, 1, 1, 1, 0x0, 0x0, 0x0, 0x0, 0, 0x0⟩,
  ⟨29, 1, 1, 1, 0x0, 0x0, 0x0, 0x0, 0, 0x0⟩,
  ⟨30, 1, 1, 1, 0x0, 0x0, 0x0, 0x0, 0, 0x0⟩,
  ⟨31, 1, 1, 1, 0x0, 0x0, 0x0, 0x3, 0, 0x0⟩,
  ⟨32, 1, 1, 1, 0x0, 0x0, 0x0, 0x0, 0, 0x0⟩,
  ⟨128, 1, 1, 1, 0x1FFF, 0x0, 0x0, 0x0, 0, 0x1F4⟩,
  ⟨129, 1, 1, 1, 0xFFFF, 0x0, 0x0, 0x0, 0, 0x119⟩]
/-- Registers of the SEL page map. -/
def SEL : List RegDef := [
  ⟨8, 1, 1, 1, 0x0, 0x0, 0x0, 0x0, 0, 0xFFF000⟩,
  ⟨9, 1, 1, 1, 0x0, 0x1, 0x0, 0x0, 0, 0x1⟩,
  ⟨10, 1, 1, 1, 0xFFF, 0x0, 0x0, 0x0, 0, 0x0⟩,
  ⟨11, 1, 1, 1, 0x0, 0x0, 0x0, 0xFF, 0, 0x0⟩,
  ⟨12, 1, 1, 1, 0x0, 0x3FFF, 0x0, 0x0, 0, 0x64⟩,
  ⟨13, 1, 1, 1, 0x0, 0xFFF, 0x0, 0x0, 0, 0x258⟩,
  ⟨14, 1, 1, 1, 0x0, 0xFFFFFFFFF, 0x0, 0x0, 0, 0xDBE7⟩,
  ⟨15, 1, 1, 1, 0x0, 0xFFFFFFFFF, 0x0, 0x0, 0, 0x6DF3⟩,
  ⟨16, 1, 1, 1, 0x0, 0xFFF, 0x0, 0x0, 0, 0x64⟩,
  ⟨17, 1, 2, 2, 0xFFFFFFFFF, 0x0, 0x0, 0x0, 2, 0x0⟩,
  ⟨19, 1, 2, 2, 0x0, 0x0, 0x0, 0x0, 2, 0x0⟩,
  ⟨21, 1, 1, 1, 0xFFFFFFFFF, 0x0, 0x0, 0x0, 0, 0x2710⟩,
  ⟨22, 1, 2, 2, 0x0, 0x0, 0x0, 0x0, 2, 0x0⟩,
  ⟨24, 1, 1, 1, 0xFFFFFFFFF, 0x0, 0x0, 0x0, 0, 0xF4240⟩,
  ⟨25, 1, 1, 1, 0x0, 0x0, 0x0, 0x0, 0, 0x0⟩,
  ⟨26, 1, 1, 1, 0x0, 0x0, 0x0, 0x0, 0, 0x0⟩,
  ⟨27, 4, 1, 1, 0x0, 0xFFF, 0x0, 0x0, 0, 0x320⟩,
  ⟨31, 1, 1, 1, 0x0, 0x0, 0x0, 0x0, 0, 0x0⟩,
  ⟨32, 1, 1, 1, 0x0, 0x0, 0x0, 0x0, 0, 0x0⟩,
  ⟨33, 1, 1, 1, 0x0, 0x0, 0x0, 0x0, 0, 0x0⟩,
  ⟨34, 1, 1, 1, 0x0, 0x0, 0x0, 0x0, 0, 0x0⟩,
  ⟨35, 1, 1, 1, 0x0, 0x0, 0x0, 0x0, 0, 0x0⟩]
/-- Registers of the SRV page map. -/
def SRV : List RegDef := [
  ⟨8, 1, 1, 1, 0x0, 0x0, 0x0, 0x0, 0, 0xF000⟩,
  ⟨9, 1, 1, 1, 0x0, 0x31F, 0x0, 0x0, 0, 0x3⟩,
  ⟨10, 1, 1, 1, 0x0, 0x1F, 0x0, 0x0, 0, 0x9⟩,
  ⟨11, 1, 1, 1, 0x0, 0xFFFFFFFFF, 0x0, 0x0, 0, 0x218DEF41⟩,
  ⟨12, 1, 1, 1, 0x0, 0xFFFFFFFFF, 0x0, 0x0, 0, 0x2710⟩,
  ⟨13, 1, 1, 1, 0x0, 0xFFF, 0x0, 0x0, 0, 0x1E⟩,
  ⟨14, 1, 1, 1, 0x0, 0xFFFFFFFFF, 0x0, 0x0, 0, 0x186A0⟩,
  ⟨15, 1, 2, 2, 0x0, 0x0, 0x0, 0x0, 2, 0x0⟩,
  ⟨17, 1, 1, 1, 0x0, 0x0, 0x0, 0x0, 0, 0x0⟩,
  ⟨18, 1, 1, 1, 0x0, 0x0, 0x0, 0x0, 0, 0x0⟩,
  ⟨19, 1, 1, 1, 0x0, 0x0, 0x0, 0x0, 0, 0x0⟩,
  ⟨20, 1, 1, 1, 0x0, 0x0, 0x0, 0x0, 0, 0x0⟩,
  ⟨21, 1, 1, 1, 0x0, 0x0, 0x0, 0x0, 0, 0x0⟩,
  ⟨22, 1, 1, 1, 0x0, 0x0, 0x0, 0x0, 0, 0x0⟩,
  ⟨23, 1, 1, 1, 0x0, 0x0, 0x0, 0x0, 0, 0x0⟩,
  ⟨128, 1, 1, 1, 0xFFFF, 0x0, 0x0, 0x0, 0, 0x2⟩,
  ⟨129, 1, 2, 2, 0xFFFFFFFFF, 0x0, 0x0, 0x0, 2, 0x0⟩,
  ⟨131, 1, 1, 1, 0xFFFFFFFFF, 0x0, 0x0, 0x0, 0, 0xF4240⟩,
  ⟨132, 1, 1, 1, 0x0, 0x0, 0x0, 0x0, 0, 0x0⟩,
  ⟨133, 1, 1, 1, 0x0, 0x0, 0x0, 0x0, 0, 0x0⟩]
/-- Registers of the HOLD page map. -/
def HOLD : List RegDef := [
  ⟨8, 1, 1, 1, 0x0, 0x0, 0x0, 0x0, 0, 0x2⟩,
  ⟨9, 1, 1, 1, 0x0, 0x1FFFF, 0x0, 0x0, 0, 0xE10⟩,
  ⟨10, 1, 1, 1, 0x0, 0x3FF, 0x0, 0x0, 0, 0x1E⟩,
  ⟨11, 1, 1, 1, 0x0, 0x0, 0x0, 0x0, 0, 0x0⟩,
  ⟨12, 1, 1, 1, 0x0, 0x0, 0x0, 0x0, 0, 0x0⟩,
  ⟨13, 1, 1, 1, 0x0, 0x0, 0x0, 0x0, 0, 0x0⟩,
  ⟨14, 1, 1, 1, 0x0, 0x0, 0x0, 0x0, 0, 0x0⟩,
  ⟨15, 1, 1, 1, 0x0, 0x0, 0x0, 0x0, 0, 0x0⟩,
  ⟨16, 1, 1, 1, 0x0, 0x0, 0x0, 0x0, 0, 0x0⟩,
  ⟨17, 1, 3, 3, 0x0, 0x0, 0x0, 0x0, 1, 0x0⟩,
  ⟨20, 1, 1, 1, 0x0, 0x0, 0x0, 0x0, 0, 0x0⟩,
  ⟨21, 1, 1, 1, 0x0, 0x0, 0x0, 0x0, 0, 0x0⟩,
  ⟨22, 1, 1, 1, 0x0, 0x0, 0x0, 0x0, 0, 0x0⟩,
  ⟨23, 1, 1, 1, 0x0, 0x0, 0x0, 0x0, 0, 0x0⟩,
  ⟨24, 1, 1, 1, 0x0, 0x1FFFF, 0x0, 0x0, 0, 0xE10⟩,
  ⟨128, 1, 1, 1, 0xFFFFFFFFF, 0x0, 0x0, 0x0, 0, 0x7D0⟩,
  ⟨129, 1, 1, 1, 0xFFFFFFFFF, 0x0, 0x0, 0x0, 0, 0x466⟩,
  ⟨130, 1, 1, 1, 0xFFFFFFFFF, 0x0, 0x0, 0x0, 0, 0x1B8D⟩,
  ⟨131, 1, 1, 1, 0xFFFFFFFFF, 0x0, 0x0, 0x0, 0, 0x38⟩,
  ⟨132, 1, 1, 1, 0xFFFFFFFFF, 0x0, 0x0, 0x0, 0, 0x225C2⟩,
  ⟨133, 1, 1, 1, 0xFFFFFFFFF, 0x0, 0x0, 0x0, 0, 0xAFF⟩,
  ⟨134, 1, 1, 1, 0xFFFFFFFFF, 0x0, 0x0, 0x0, 0, 0x6DF4⟩]
/-- Registers of the OUT page map. -/
def OUT : List RegDef := [
  ⟨8, 1, 1, 1, 0x0, 0x0, 0x0, 0x0, 0, 0x0⟩,
  ⟨9, 1, 1, 1, 0x0, 0x0, 0x0, 0xFF, 0, 0x0⟩,
  ⟨10, 1, 1, 1, 0x0, 0xFFD, 0x0, 0x0, 0, 0x110⟩,
  ⟨11, 1, 1, 1, 0x0, 0xFFD, 0x0, 0x0, 0, 0x114⟩,
  ⟨12, 1, 1, 1, 0x0, 0xFFD, 0x0, 0x0, 0, 0x118⟩,
  ⟨13, 1, 1, 1, 0x0, 0xFFD, 0x0, 0x0, 0, 0x11C⟩,
  ⟨14, 4, 1, 1, 0x0, 0xF81, 0x0, 0x0, 0, 0x400⟩,
  ⟨18, 4, 1, 1, 0x0, 0xFFFFFFFFF, 0x0, 0x0, 0, 0x3B9ACA00⟩,
  ⟨22, 4, 1, 1, 0x0, 0xFFFFFFFFF, 0x0, 0x0, 0, 0x186A0⟩,
  ⟨26, 4, 1, 1, 0x0, 0xFFFF0FFFF, 0x0, 0x0, 0, 0x2⟩,
  ⟨30, 4, 1, 1, 0x0, 0xFFFFFFFFF, 0x0, 0x0, 0, 0x0⟩,
  ⟨34, 4, 1, 1, 0x0, 0xFFFFFFFFF, 0x0, 0x0, 0, 0x0⟩,
  ⟨38, 4, 2, 2, 0x0, 0x0, 0x0, 0x0, 2, 0x0⟩,
  ⟨46, 4, 2, 2, 0x0, 0x0, 0x0, 0x0, 2, 0x0⟩,
  ⟨54, 1, 1, 1, 0x0, 0x0, 0x0, 0x0, 0, 0x0⟩,
  ⟨55, 1, 1, 1, 0x0, 0x0, 0x0, 0x0, 0, 0x0⟩,
  ⟨128, 1, 1, 1, 0x3FF, 0x0, 0x0, 0x0, 0, 0xA⟩]
/-- Registers of the TEB page map. -/
def TEB : List RegDef := [
  ⟨8, 1, 1, 1, 0x0, 0x0, 0x0, 0x0, 0, 0xF804⟩,
  ⟨9, 1, 1, 1, 0x0, 0x0, 0x0, 0x0, 0, 0xFFFFFFFFF⟩,
  ⟨10, 1, 1, 1, 0x0, 0x0, 0x0, 0x0, 0, 0xFFFFFFFFF⟩,
  ⟨11, 1, 1, 1, 0x0, 0x0, 0x0, 0x0, 0, 0x0⟩,
  ⟨12, 1, 1, 1, 0x0, 0x0, 0x0, 0x0, 0, 0x0⟩,
  ⟨13, 1, 1, 1, 0x0, 0x0, 0x0, 0x0, 0, 0x0⟩,
  ⟨14, 1, 1, 1, 0x0, 0x0, 0x0, 0x0, 0, 0x96⟩,
  ⟨15, 1, 1, 1, 0x0, 0xFFFFFFFFF, 0x0, 0x0, 0, 0xF4240⟩,
  ⟨16, 1, 1, 1, 0x0, 0xFFFFFFFFF, 0x0, 0x0, 0, 0x0⟩,
  ⟨17, 1, 1, 1, 0x0, 0xFFFFFF, 0x0, 0x0, 0, 0x340706⟩,
  ⟨18, 1, 1, 1, 0x0, 0x3F, 0x0, 0x0, 0, 0x8⟩,
  ⟨19, 1, 1, 1, 0x0, 0xFFFFFFFFF, 0x0, 0x0, 0, 0x2710⟩,
  ⟨20, 1, 1, 1, 0x0, 0xFFFFFFFFF, 0x0, 0x0, 0, 0xAFF⟩,
  ⟨21, 1, 1, 1, 0x0, 0xFFFFFFFFF, 0x0, 0x0, 0, 0x1F4⟩,
  ⟨22, 1, 1, 1, 0x0, 0xFFFFFFFFF, 0x0, 0x0, 0, 0x7D0⟩,
  ⟨23, 1, 1, 1, 0x0, 0xFFFFFF, 0x0, 0x0, 0, 0x0⟩,
  ⟨24, 1, 1, 1, 0x0, 0xFFFFFF, 0x0, 0x0, 0, 0x0⟩,
  ⟨25, 1, 1, 1, 0x0, 0x7, 0x0, 0x0, 0, 0x4⟩,
  ⟨26, 1, 1, 1, 0xFFFFFFFFF, 0x0, 0x0, 0x0, 0, 0x3E8⟩,
  ⟨27, 1, 1, 1, 0x0, 0x0, 0x0, 0x0, 0, 0x0⟩,
  ⟨28, 1, 1, 1, 0x0, 0x0, 0x0, 0x0, 0, 0x0⟩,
  ⟨32, 24, 1, 1, 0x0, 0xFFFFFFFFF, 0x0, 0x0, 0, 0x0⟩,
  ⟨64, 24, 1, 1, 0x0, 0x0, 0x0, 0x0, 0, 0xFFFFFFFFF⟩]
/-- Registers of the CAND page map. -/
def CAND : List RegDef := [
  ⟨8, 1, 1, 1, 0x0, 0x1FFF, 0x0, 0x0, 0, 0x0⟩,
  ⟨9, 1, 1, 1, 0x0, 0x0, 0x0, 0x0, 0, 0x0⟩,
  ⟨10, 1, 1, 1, 0x0, 0xFFF, 0x0, 0x0, 0, 0x3C⟩,
  ⟨11, 1, 1, 1, 0x0, 0xFFF, 0x0, 0x0, 0, 0x12C⟩,
  ⟨12, 1, 1, 1, 0x0, 0xFFFFFFFFF, 0x0, 0x0, 0, 0x186A0⟩,
  ⟨13, 1, 1, 1, 0x0, 0xFFFFFFFFF, 0x0, 0x0, 0, 0xF4240⟩,
  ⟨14, 1, 1, 1, 0x0, 0xFFFFFFFFF, 0x0, 0x0, 0, 0xD6BF95⟩,
  ⟨15, 1, 1, 1, 0x0, 0xFFFFFFFFF, 0x0, 0x0, 0, 0x186A0⟩,
  ⟨16, 1, 2, 2, 0x0, 0xFFFFFFFFF, 0x0, 0x0, 2, 0x0⟩,
  ⟨18, 1, 1, 1, 0x0, 0xFFFFFFFFF, 0x0, 0x0, 0, 0x2625A000⟩,
  ⟨19, 1, 1, 1, 0x0, 0xFFFF, 0x0, 0x0, 0, 0x6⟩,
  ⟨20, 1, 1, 1, 0x0, 0xF, 0x0, 0x0, 0, 0x4⟩,
  ⟨21, 1, 2, 2, 0x0, 0x0, 0x0, 0x0, 2, 0x0⟩,
  ⟨23, 1, 2, 2, 0x0, 0x0, 0x0, 0x0, 2, 0x0⟩,
  ⟨25, 1, 1, 1, 0x0, 0x0, 0x0, 0x0, 0, 0x0⟩,
  ⟨26, 1, 1, 1, 0x0, 0x0, 0x0, 0x0, 0, 0x0⟩,
  ⟨27, 1, 1, 1, 0x0, 0x0, 0x0, 0x0, 0, 0x0⟩,
  ⟨28, 1, 1, 1, 0x0, 0x0, 0x0, 0x0, 0, 0x0⟩,
  ⟨29, 1, 1, 1, 0x0, 0x0, 0x0, 0x0, 0, 0x0⟩,
  ⟨30, 1, 1, 1, 0x0, 0x0, 0x0, 0x0, 0, 0x0⟩,
  ⟨31, 1, 1, 1, 0x0, 0x0, 0x0, 0x0, 0, 0x0⟩,
  ⟨32, 1, 1, 1, 0x0, 0x0, 0x0, 0x0, 0, 0xF⟩,
  ⟨128, 1, 1, 1, 0x7FF, 0x0, 0x0, 0x0, 0, 0x40⟩,
  ⟨129, 1, 1, 1, 0xFFFF, 0x0, 0x0, 0x0, 0, 0x0⟩]
/-- Registers of the PLL page map. -/
def PLL : List RegDef := [
  ⟨8, 1, 1, 1, 0x0, 0x0, 0x0, 0x0, 0, 0x0⟩,
  ⟨9, 1, 1, 1, 0x0, 0xFFFFFFFFF, 0x0, 0x0, 0, 0x1312D000⟩,
  ⟨10, 1, 1, 1, 0x0, 0x0, 0x0, 0x0, 0, 0x0⟩,
  ⟨11, 1, 1, 1, 0x0, 0x0, 0x0, 0x0, 0, 0x0⟩,
  ⟨12, 1, 1, 1, 0x0, 0x0, 0x0, 0x0, 0, 0x0⟩,
  ⟨13, 1, 1, 1, 0x0, 0x0, 0x0, 0x0, 0, 0x0⟩,
  ⟨14, 1, 1, 1, 0x0, 0x0, 0x0, 0x3, 0, 0x0⟩,
  ⟨15, 1, 1, 1, 0x0, 0x0, 0x0, 0x0, 0, 0x0⟩,
  ⟨16, 1, 1, 1, 0x0, 0x0, 0x0, 0x0, 0, 0x0⟩,
  ⟨17, 1, 1, 1, 0x0, 0x0, 0x0, 0x0, 0, 0x0⟩,
  ⟨128, 1, 1, 1, 0xFFFFFFFFF, 0x0, 0x0, 0x0, 0, 0x14⟩,
  ⟨129, 1, 1, 1, 0xFFFFFFFFF, 0x0, 0x0, 0x0, 0, 0xC8⟩,
  ⟨130, 1, 1, 1, 0xF, 0x0, 0x0, 0x0, 0, 0x3⟩]
/-- Registers of the TIC page map. -/
def TIC : List RegDef := [
  ⟨8, 1, 1, 1, 0x0, 0xFCFC01, 0x0, 0x0, 0, 0x0⟩,
  ⟨9, 1, 1, 1, 0x0, 0xFFFFFFFFF, 0x0, 0x0, 0, 0x0⟩,
  ⟨10, 1, 1, 1, 0x0, 0xFFFFFF, 0x0, 0x0, 0, 0x0⟩,
  ⟨11, 1, 1, 1, 0x0, 0xFFFF, 0x0, 0x0, 0, 0x0⟩,
  ⟨12, 1, 1, 1, 0x0, 0x0, 0x0, 0xF, 0, 0x0⟩,
  ⟨13, 1, 3, 3, 0xFFFFFFFFF, 0x0, 0x0, 0x0, 1, 0x0⟩,
  ⟨16, 1, 1, 1, 0x0, 0x0, 0x0, 0x0, 0, 0x0⟩,
  ⟨17, 1, 1, 1, 0x0, 0x0, 0x0, 0x0, 0, 0x0⟩,
  ⟨18, 1, 1, 1, 0x0, 0x0, 0x0, 0x0, 0, 0x0⟩,
  ⟨19, 1, 3, 3, 0x0, 0x0, 0x0, 0x0, 1, 0x0⟩,
  ⟨22, 1, 3, 3, 0x0, 0x0, 0x0, 0x0, 1, 0x0⟩,
  ⟨25, 1, 2, 2, 0x0, 0x0, 0x0, 0x0, 2, 0x0⟩,
  ⟨27, 1, 1, 1, 0x0, 0x0, 0x0, 0x0, 0, 0x0⟩,
  ⟨28, 1, 1, 1, 0x0, 0x0, 0x0, 0x0, 0, 0x0⟩,
  ⟨29, 1, 1, 1, 0x0, 0x0, 0x0, 0x0, 0, 0x0⟩,
  ⟨30, 1, 1, 1, 0x0, 0x0, 0x0, 0x0, 0, 0x0⟩,
  ⟨31, 1, 1, 1, 0x0, 0x0, 0x0, 0x0, 0, 0x0⟩,
  ⟨32, 1, 1, 1, 0x0, 0x0, 0x0, 0x0, 0, 0x0⟩,
  ⟨33, 1, 1, 1, 0x0, 0x0, 0x0, 0x0, 0, 0x0⟩,
  ⟨34, 1, 1, 1, 0x0, 0x0, 0x0, 0x0, 0, 0x0⟩,
  ⟨35, 1, 1, 1, 0x0, 0x0, 0x0, 0x0, 0, 0x0⟩,
  ⟨128, 1, 1, 1, 0xFF1F, 0x0, 0x0, 0x0, 0, 0xA11⟩,
  ⟨129, 1, 1, 1, 0x3FF, 0x0, 0x0, 0x0, 0, 0x0⟩,
  ⟨130, 1, 1, 1, 0x0, 0x0, 0x0, 0x0, 0, 0x0⟩]
/-- Registers of the GNS page map. -/
def GNS : List RegDef := [
  ⟨8, 1, 1, 1, 0x0, 0x0, 0x0, 0x0, 0, 0x0⟩,
  ⟨9, 1, 1, 1, 0x0, 0x1FF398, 0x0, 0x0, 0, 0x1FF000⟩,
  ⟨10, 1, 1, 1, 0x0, 0x3, 0x0, 0x0, 0, 0x0⟩,
  ⟨11, 1, 1, 1, 0x0, 0x0, 0x0, 0x0, 0, 0x0⟩,
  ⟨12, 1, 1, 1, 0x0, 0xFFFFFFFFF, 0x0, 0x0, 0, 0x0⟩,
  ⟨13, 1, 1, 1, 0x0, 0xFFFFFFFF, 0x0, 0x0, 0, 0xE100064⟩,
  ⟨14, 3, 1, 1, 0x0, 0xFFFFFFFFF, 0x0, 0x0, 0, 0x0⟩,
  ⟨17, 3, 1, 1, 0x0, 0x0, 0x0, 0x0, 0, 0x0⟩,
  ⟨20, 1, 1, 1, 0x0, 0x0, 0x0, 0x0, 0, 0xFFFF⟩,
  ⟨21, 1, 1, 1, 0x0, 0x0, 0x0, 0x0, 0, 0x0⟩,
  ⟨22, 1, 1, 1, 0x0, 0x0, 0x0, 0x0, 0, 0x0⟩,
  ⟨23, 1, 1, 1, 0x0, 0x0, 0x0, 0x0, 0, 0x0⟩,
  ⟨24, 1, 1, 1, 0x0, 0x0, 0x0, 0x0, 0, 0x0⟩,
  ⟨25, 1, 1, 1, 0x0, 0x0, 0x0, 0x0, 0, 0x0⟩,
  ⟨26, 1, 1, 1, 0x0, 0x0, 0x0, 0xF, 0, 0x0⟩,
  ⟨27, 1, 1, 1, 0xFFFFFFFFF, 0x0, 0x0, 0x0, 0, 0x0⟩,
  ⟨28, 1, 1, 1, 0x0, 0x0, 0x0, 0x0, 0, 0x0⟩,
  ⟨29, 1, 1, 1, 0x0, 0x0, 0x0, 0x0, 0, 0x0⟩,
  ⟨30, 1, 1, 1, 0x0, 0x0, 0x0, 0x0, 0, 0x0⟩,
  ⟨31, 1, 1, 1, 0x0, 0x0, 0x0, 0x0, 0, 0x0⟩,
  ⟨32, 11, 1, 1, 0x0, 0x0, 0x0, 0x0, 0, 0x0⟩,
  ⟨43, 1, 1, 1, 0x0, 0x0, 0x0, 0x0, 0, 0x0⟩,
  ⟨44, 1, 1, 1, 0x0, 0x0, 0x0, 0x0, 0, 0x0⟩,
  ⟨45, 1, 1, 1, 0x0, 0x0, 0x0, 0x0, 0, 0x0⟩,
  ⟨46, 1, 1, 1, 0x0, 0x0, 0x0, 0x0, 0, 0x0⟩,
  ⟨47, 1, 1, 1, 0x0, 0x0, 0x0, 0x0, 0, 0x0⟩,
  ⟨128, 1, 1, 1, 0xFFFFFFFFF, 0x0, 0x0, 0x0, 0, 0xC350⟩,
  ⟨129, 1, 1, 1, 0xFFFFFFFFF, 0x0, 0x0, 0x0, 0, 0x7530⟩,
  ⟨130, 1, 1, 1, 0xFFFFFFFFF, 0x0, 0x0, 0x0, 0, 0xC350⟩,
  ⟨131, 1, 1, 1, 0xFFFF, 0x0, 0x0, 0x0, 0, 0x32⟩,
  ⟨132, 1, 1, 1, 0xFFF, 0x0, 0x0, 0x0, 0, 0x258⟩,
  ⟨133, 1, 1, 1, 0xFFFF0F, 0x0, 0x0, 0x0, 0, 0x12C20F⟩,
  ⟨134, 1, 1, 1, 0x3FF, 0x0, 0x0, 0x0, 0, 0x64⟩]
/-- Registers of the CO page map. -/
def CO : List RegDef := [
  ⟨8, 1, 1, 1, 0x0, 0x0, 0x0, 0x0, 0, 0x0⟩,
  ⟨9, 1, 1, 1, 0x0, 0xFFFFFFFCF, 0x0, 0x0, 0, 0x3E8A0F08⟩,
  ⟨10, 1, 1, 1, 0x0, 0x0, 0x0, 0x0, 0, 0x0⟩,
  ⟨11, 1, 1, 1, 0x0, 0x0, 0x0, 0x0, 0, 0x0⟩,
  ⟨12, 1, 1, 1, 0x0, 0x0, 0x0, 0x0, 0, 0x0⟩,
  ⟨13, 1, 1, 1, 0x0, 0xFFFFFF, 0x0, 0x0, 0, 0xFA0⟩,
  ⟨14, 1, 1, 1, 0x0, 0x0, 0x0, 0x0, 0, 0x8FC⟩,
  ⟨15, 1, 1, 1, 0x0, 0x0, 0x0, 0x0, 0, 0x0⟩,
  ⟨16, 4, 1, 1, 0x0, 0x1FF, 0x0, 0x0, 0, 0xF0⟩,
  ⟨20, 4, 1, 1, 0x0, 0xFFFF37, 0x0, 0x0, 0, 0x1000⟩,
  ⟨24, 4, 1, 1, 0x0, 0xFFFF00, 0x0, 0x0, 0, 0x0⟩,
  ⟨32, 4, 8, 1, 0x0, 0xFFFF, 0x0, 0x0, 0, 0x0⟩,
  ⟨33, 4, 8, 1, 0x0, 0xFFFFFFFF, 0x0, 0x0, 0, 0x0⟩,
  ⟨34, 4, 8, 1, 0x0, 0xFFFFFFFF, 0x0, 0x0, 0, 0x0⟩,
  ⟨35, 4, 8, 1, 0x0, 0xFFFFFFFF, 0x0, 0x0, 0, 0x0⟩,
  ⟨36, 4, 8, 1, 0x0, 0xFFFFFFFF, 0x0, 0x0, 0, 0x0⟩,
  ⟨37, 4, 8, 1, 0x0, 0xFFFFFFFF, 0x0, 0x0, 0, 0x0⟩,
  ⟨38, 4, 8, 1, 0x0, 0xFFFFFFFF, 0x0, 0x0, 0, 0x0⟩,
  ⟨64, 1, 1, 1, 0x0, 0xFFFFFFFF, 0x0, 0x0, 0, 0x0⟩,
  ⟨65, 1, 1, 1, 0x0, 0xFFFFFFFF, 0x0, 0x0, 0, 0x0⟩,
  ⟨66, 1, 1, 1, 0x0, 0x3FFFFFF, 0x0, 0x0, 0, 0x808000⟩,
  ⟨67, 1, 1, 1, 0x0, 0xFFFF, 0x0, 0x0, 0, 0xFFFF⟩,
  ⟨68, 1, 1, 1, 0x0, 0x1, 0x0, 0x0, 0, 0x0⟩,
  ⟨80, 1, 1, 1, 0x0, 0x0, 0x0, 0x0, 0, 0x0⟩,
  ⟨81, 1, 1, 1, 0x0, 0x0, 0x0, 0x0, 0, 0x0⟩,
  ⟨82, 1, 1, 1, 0x0, 0x0, 0x0, 0x0, 0, 0x0⟩,
  ⟨83, 1, 1, 1, 0x0, 0x0, 0x0, 0x0, 0, 0x0⟩,
  ⟨84, 1, 1, 1, 0x0, 0x0, 0x0, 0x0, 0, 0x0⟩,
  ⟨85, 1, 1, 1, 0x0, 0x0, 0x0, 0x0, 0, 0x0⟩,
  ⟨86, 1, 1, 1, 0x0, 0x0, 0x0, 0x0, 0, 0x0⟩,
  ⟨87, 1, 1, 1, 0x0, 0x0, 0x0, 0x0, 0, 0x0⟩,
  ⟨88, 1, 1, 1, 0x0, 0x0, 0x0, 0x0, 0, 0x0⟩,
  ⟨89, 1, 1, 1, 0x0, 0x0, 0x0, 0x0, 0, 0x0⟩,
  ⟨90, 1, 1, 1, 0x0, 0x0, 0x0, 0x0, 0, 0x0⟩,
  ⟨91, 1, 1, 1, 0x0, 0x0, 0x0, 0x0, 0, 0x0⟩,
  ⟨92, 1, 1, 1, 0x0, 0x0, 0x0, 0x0, 0, 0x0⟩,
  ⟨93, 1, 1, 1, 0x0, 0x0, 0x0, 0x0, 0, 0x0⟩,
  ⟨94, 1, 1, 1, 0x0, 0x0, 0x0, 0x0, 0, 0x0⟩,
  ⟨95, 1, 1, 1, 0x0, 0x0, 0x0, 0x0, 0, 0x0⟩,
  ⟨96, 1, 1, 1, 0x0, 0x0, 0x0, 0x0, 0, 0x0⟩,
  ⟨97, 1, 1, 1, 0x0, 0x0, 0x0, 0x0, 0, 0x0⟩,
  ⟨98, 1, 1, 1, 0x0, 0x0, 0x0, 0x0, 0, 0x0⟩,
  ⟨99, 1, 1, 1, 0x0, 0x0, 0x0, 0x0, 0, 0x0⟩,
  ⟨100, 1, 1, 1, 0x0, 0x0, 0x0, 0x0, 0, 0x0⟩,
  ⟨101, 1, 1, 1, 0x0, 0x0, 0x0, 0x0, 0, 0x0⟩,
  ⟨102, 1, 1, 1, 0x0, 0x0, 0x0, 0x0, 0, 0x0⟩,
  ⟨128, 1, 1, 1, 0x7FF, 0x0, 0x0, 0x0, 0, 0x190⟩,
  ⟨129, 1, 1, 1, 0xFFF, 0x0, 0x0, 0x0, 0, 0x3E8⟩]
/-- Registers of the PRT page map. -/
def PRT : List RegDef := [
  ⟨8, 1, 1, 1, 0x0, 0x0, 0x0, 0x0, 0, 0x0⟩,
  ⟨9, 1, 1, 1, 0x0, 0x97, 0x0, 0x0, 0, 0x0⟩,
  ⟨10, 1, 1, 1, 0x0, 0xF3, 0x0, 0x0, 0, 0x40⟩,
  ⟨11, 1, 1, 1, 0x0, 0x3FFF, 0x0, 0x0, 0, 0x5F2⟩,
  ⟨12, 1, 1, 1, 0x0, 0x3FFF, 0x0, 0x0, 0, 0x64⟩,
  ⟨13, 1, 1, 1, 0x0, 0xFFFFFFFFF, 0x0, 0x0, 0, 0x0⟩,
  ⟨14, 1, 1, 1, 0x0, 0xFFFFFFFFF, 0x0, 0x0, 0, 0x0⟩,
  ⟨15, 1, 1, 1, 0x0, 0xFFFFFFFFF, 0x0, 0x0, 0, 0x0⟩,
  ⟨16, 16, 1, 1, 0x0, 0xFFFFFFFF, 0x0, 0x0, 0, 0x0⟩,
  ⟨32, 1, 1, 1, 0x0, 0x0, 0x0, 0x0, 0, 0x0⟩,
  ⟨33, 1, 1, 1, 0x0, 0x0, 0x0, 0x0, 0, 0x0⟩,
  ⟨34, 1, 1, 1, 0x0, 0x0, 0x0, 0x0, 0, 0x0⟩,
  ⟨35, 1, 1, 1, 0x1, 0x0, 0x0, 0x0, 0, 0x0⟩,
  ⟨36, 1, 1, 1, 0x1, 0x0, 0x0, 0x0, 0, 0x0⟩,
  ⟨37, 1, 1, 1, 0x0, 0x0, 0x0, 0x7FF7F0F, 0, 0x0⟩,
  ⟨38, 1, 1, 1, 0xFFFFFFFF, 0x0, 0x0, 0x0, 0, 0x0⟩,
  ⟨39, 1, 1, 1, 0x0, 0x0, 0x0, 0x0, 0, 0x0⟩]
/-- Registers of the STA page map. -/
def STA : List RegDef := [
  ⟨8, 1, 1, 1, 0x0, 0x0, 0x0, 0x0, 0, 0x0⟩,
  ⟨9, 1, 1, 1, 0x0, 0x0, 0x0, 0x0, 0, 0x0⟩,
  ⟨10, 1, 1, 1, 0x0, 0x0, 0x0, 0x0, 0, 0x0⟩,
  ⟨11, 1, 1, 1, 0x0, 0x0, 0x0, 0x0, 0, 0x0⟩,
  ⟨12, 1, 1, 1, 0x0, 0x0, 0x0, 0x0, 0, 0x0⟩,
  ⟨13, 1, 1, 1, 0x0, 0x0, 0x0, 0x0, 0, 0x0⟩,
  ⟨14, 1, 1, 1, 0x0, 0x0, 0x0, 0x0, 0, 0x0⟩,
  ⟨15, 1, 1, 1, 0x0, 0x0, 0x0, 0x0, 0, 0x0⟩,
  ⟨16, 1, 1, 1, 0x0, 0x0, 0x0, 0x0, 0, 0x0⟩,
  ⟨17, 1, 1, 1, 0x0, 0x0, 0x0, 0x0, 0, 0x0⟩,
  ⟨18, 1, 1, 1, 0x0, 0x0, 0x0, 0x0, 0, 0x0⟩,
  ⟨19, 1, 1, 1, 0x0, 0x0, 0x0, 0x0, 0, 0x0⟩,
  ⟨20, 1, 1, 1, 0x0, 0x0, 0x0, 0x0, 0, 0x0⟩,
  ⟨21, 1, 1, 1, 0x0, 0x0, 0x0, 0x0, 0, 0x0⟩,
  ⟨22, 1, 1, 1, 0x0, 0x0, 0x0, 0x0, 0, 0x0⟩,
  ⟨23, 1, 1, 1, 0x0, 0x0, 0x0, 0x0, 0, 0x0⟩,
  ⟨24, 1, 1, 1, 0x0, 0x0, 0x0, 0x0, 0, 0x0⟩,
  ⟨25, 1, 1, 1, 0x0, 0x0, 0x0, 0x0, 0, 0x0⟩,
  ⟨26, 1, 1, 1, 0x0, 0x0, 0x0, 0x0, 0, 0x0⟩,
  ⟨27, 1, 1, 1, 0x0, 0x0, 0x0, 0x0, 0, 0x0⟩,
  ⟨28, 1, 1, 1, 0x0, 0x0, 0x0, 0x0, 0, 0x0⟩,
  ⟨29, 1, 1, 1, 0x0, 0x0, 0x0, 0x0, 0, 0x0⟩,
  ⟨30, 1, 1, 1, 0x0, 0x0, 0x0, 0x0, 0, 0x0⟩,
  ⟨31, 1, 1, 1, 0x0, 0x0, 0x0, 0x0, 0, 0x0⟩,
  ⟨32, 1, 2, 2, 0x0, 0x0, 0x0, 0x0, 0, 0x0⟩,
  ⟨34, 1, 2, 2, 0x0, 0x0, 0x0, 0x0, 0, 0x0⟩]
/-- Registers of the SWF page map. -/
def SWF : List RegDef := [
  ⟨8, 1, 1, 1, 0x0, 0x1FFFFFF, 0x0, 0x0, 0, 0xFFFFFF⟩,
  ⟨9, 1, 1, 1, 0x0, 0x7FFFFFF, 0x0, 0x0, 0, 0xFAC688⟩,
  ⟨10, 1, 1, 1, 0x0, 0xFFFFFFF, 0x0, 0x0, 0, 0x1111111⟩,
  ⟨11, 1, 1, 1, 0x0, 0xFFFF, 0x0, 0x0, 0, 0x12C⟩,
  ⟨12, 1, 1, 1, 0x0, 0x0, 0x0, 0xF, 0, 0x0⟩,
  ⟨13, 1, 1, 1, 0xFFFF, 0x0, 0x0, 0x0, 0, 0x0⟩,
  ⟨14, 1, 1, 1, 0xFFFFFFFF, 0x0, 0x0, 0x0, 0, 0x0⟩,
  ⟨15, 1, 1, 1, 0x1FFFFFF, 0x0, 0x0, 0x0, 0, 0x0⟩,
  ⟨16, 1, 1, 1, 0x0, 0x0, 0x0, 0x0, 0, 0x0⟩,
  ⟨17, 1, 1, 1, 0x0, 0x0, 0x0, 0x0, 0, 0x0⟩,
  ⟨18, 1, 1, 1, 0x0, 0x0, 0x0, 0x0, 0, 0x0⟩,
  ⟨19, 1, 1, 1, 0x0, 0x0, 0x0, 0x0, 0, 0x0⟩,
  ⟨20, 1, 1, 1, 0x0, 0x0, 0x0, 0x0, 0, 0x0⟩,
  ⟨21, 1, 1, 1, 0x0, 0x0, 0x0, 0x0, 0, 0x0⟩,
  ⟨22, 1, 1, 1, 0x0, 0x0, 0x0, 0x0, 0, 0x0⟩,
  ⟨23, 1, 1, 1, 0x0, 0x0, 0x0, 0x0, 0, 0x0⟩,
  ⟨128, 1, 1, 1, 0x3FF, 0x0, 0x0, 0x0, 0, 0x14⟩]
/-- Registers of the BUF page map. -/
def BUF : List RegDef := [
  ⟨8, 1, 1, 1, 0x0, 0x0, 0x0, 0x0, 0, 0x0⟩,
  ⟨9, 1, 1, 1, 0x0, 0x0, 0x0, 0x0, 0, 0x30000⟩,
  ⟨10, 1, 1, 1, 0x0, 0x0, 0x0, 0x0, 0, 0x1800000⟩,
  ⟨11, 1, 1, 1, 0x0, 0xFFFF, 0x0, 0x0, 0, 0x1000⟩,
  ⟨12, 1, 1, 1, 0x0, 0x3FFFF, 0x0, 0x0, 0, 0x800⟩,
  ⟨13, 1, 1, 1, 0x0, 0x3FFFF, 0x0, 0x0, 0, 0x4000⟩,
  ⟨14, 1, 1, 1, 0x0, 0x1FFFFFF, 0x0, 0x0, 0, 0x40000⟩,
  ⟨15, 1, 1, 1, 0x0, 0xFFFF, 0x0, 0x0, 0, 0x1F4⟩,
  ⟨16, 1, 1, 1, 0x0, 0x0, 0x0, 0x0, 0, 0x0⟩,
  ⟨17, 1, 1, 1, 0x0, 0x0, 0x0, 0x0, 0, 0x0⟩,
  ⟨18, 1, 1, 1, 0x0, 0x0, 0x0, 0x0, 0, 0x0⟩,
  ⟨19, 1, 1, 1, 0x0, 0x0, 0x0, 0x0, 0, 0x0⟩,
  ⟨20, 1, 1, 1, 0x0, 0x0, 0x0, 0x0, 0, 0x0⟩,
  ⟨21, 1, 1, 1, 0x0, 0x0, 0x0, 0x0, 0, 0x0⟩,
  ⟨22, 1, 1, 1, 0x0, 0x0, 0x0, 0x0, 0, 0x0⟩,
  ⟨23, 1, 1, 1, 0xFF, 0x0, 0x0, 0x0, 0, 0x0⟩,
  ⟨24, 1, 1, 1, 0x0, 0x0, 0x0, 0x0, 0, 0x0⟩,
  ⟨32, 24, 1, 1, 0x0, 0x0, 0x0, 0x0, 0, 0x0⟩,
  ⟨64, 24, 1, 1, 0x0, 0x0, 0x0, 0x0, 0, 0x0⟩]
/-- Registers of the DRM page map. -/
def DRM : List RegDef := [
  ⟨8, 1, 1, 1, 0x0, 0x0, 0x0, 0x0, 0, 0x0⟩,
  ⟨9, 1, 1, 1, 0x0, 0x0, 0x0, 0x0, 0, 0x0⟩,
  ⟨10, 1, 1, 1, 0x0, 0x0, 0x0, 0x0, 0, 0x0⟩,
  ⟨11, 1, 1, 1, 0x0, 0x0, 0x0, 0x0, 0, 0x0⟩,
  ⟨12, 1, 1, 1, 0x0, 0x0, 0x0, 0x0, 0, 0x0⟩,
  ⟨13, 1, 1, 1, 0x0, 0x0, 0x0, 0x0, 0, 0x0⟩]
/-- Registers of the CLT page map. -/
def CLT : List RegDef := [
  ⟨8, 1, 1, 1, 0x0, 0x0, 0x0, 0x0, 0, 0x0⟩,
  ⟨9, 1, 1, 1, 0x0, 0x0, 0x0, 0x0, 0, 0x100000⟩,
  ⟨10, 1, 1, 1, 0x0, 0xF, 0x0, 0x0, 0, 0x1⟩,
  ⟨11, 1, 1, 1, 0x0, 0x3FFFFFF, 0x0, 0x0, 0, 0x12C0AD4⟩,
  ⟨12, 1, 1, 1, 0x0, 0x3FFFFFF, 0x0, 0x0, 0, 0x12C0A94⟩,
  ⟨13, 1, 1, 1, 0x0, 0x3FFFFFF, 0x0, 0x0, 0, 0x12C0A94⟩,
  ⟨14, 1, 1, 1, 0x0, 0x1FFFFF, 0x0, 0x0, 0, 0x100000⟩,
  ⟨15, 1, 1, 1, 0x0, 0x0, 0x0, 0xF, 0, 0x0⟩,
  ⟨16, 1, 1, 1, 0x1FFFFF, 0x0, 0x0, 0x0, 0, 0x0⟩,
  ⟨17, 16, 1, 1, 0xFFFFFFFF, 0x0, 0x0, 0x0, 0, 0x0⟩,
  ⟨33, 1, 1, 1, 0x0, 0x0, 0x0, 0x0, 0, 0x0⟩,
  ⟨34, 1, 1, 1, 0x0, 0x0, 0x0, 0x0, 0, 0x0⟩,
  ⟨35, 1, 1, 1, 0x0, 0x0, 0x0, 0x0, 0, 0x0⟩,
  ⟨36, 1, 1, 1, 0x0, 0x0, 0x0, 0x0, 0, 0x0⟩,
  ⟨37, 1, 1, 1, 0x0, 0x0, 0x0, 0x0, 0, 0x0⟩,
  ⟨38, 1, 1, 1, 0x0, 0x0, 0x0, 0x0, 0, 0x0⟩,
  ⟨39, 1, 1, 1, 0x0, 0x0, 0x0, 0x0, 0, 0x0⟩,
  ⟨40, 1, 1, 1, 0x0, 0x0, 0x0, 0x0, 0, 0x0⟩,
  ⟨41, 1, 1, 1, 0x0, 0x0, 0x0, 0x0, 0, 0x0⟩,
  ⟨42, 1, 1, 1, 0x0, 0x0, 0x0, 0x0, 0, 0x0⟩,
  ⟨43, 1, 1, 1, 0x0, 0x0, 0x0, 0x0, 0, 0x0⟩,
  ⟨44, 1, 1, 1, 0x0, 0x0, 0x0, 0x0, 0, 0x0⟩,
  ⟨45, 1, 1, 1, 0x0, 0x0, 0x0, 0x0, 0, 0x0⟩,
  ⟨46, 1, 1, 1, 0x0, 0x0, 0x0, 0x0, 0, 0x0⟩,
  ⟨47, 1, 1, 1, 0x0, 0x0, 0x0, 0x0, 0, 0x0⟩]
/-- Registers of the TTB page map. -/
def TTB : List RegDef := [
  ⟨8, 1, 1, 1, 0x1, 0xF00, 0x0, 0x0, 0, 0x201⟩,
  ⟨9, 1, 1, 1, 0x0, 0xFFFFFF, 0x0, 0x0, 0, 0x7A1200⟩,
  ⟨10, 1, 1, 1, 0x0, 0xFFFF, 0x0, 0x0, 0, 0x3000⟩,
  ⟨11, 6, 1, 1, 0x0, 0x0, 0x0, 0x0, 0, 0x0⟩,
  ⟨17, 1, 1, 1, 0x0, 0x0, 0x0, 0x0, 0, 0x0⟩,
  ⟨18, 1, 1, 1, 0x0, 0x0, 0x0, 0x7F, 0, 0x0⟩,
  ⟨19, 1, 1, 1, 0x0, 0x0, 0x0, 0x0, 0, 0x0⟩,
  ⟨20, 1, 1, 1, 0x0, 0x0, 0x0, 0x0, 0, 0x0⟩,
  ⟨21, 1, 1, 1, 0x0, 0x0, 0x0, 0x0, 0, 0x0⟩,
  ⟨22, 1, 1, 1, 0x0, 0x0, 0x0, 0x0, 0, 0x0⟩,
  ⟨23, 1, 1, 1, 0x0, 0x0, 0x0, 0x0, 0, 0x0⟩,
  ⟨24, 1, 1, 1, 0x0, 0x0, 0x0, 0x0, 0, 0x0⟩,
  ⟨25, 1, 1, 1, 0x0, 0x0, 0x0, 0x0, 0, 0x0⟩]
/-- Registers of the RATE page map. -/
def RATE : List RegDef := [
  ⟨8, 1, 1, 1, 0x0, 0x6, 0x0, 0x0, 0, 0x6⟩,
  ⟨9, 1, 1, 1, 0x0, 0xFFFFFFFF, 0x0, 0x0, 0, 0x10020⟩,
  ⟨10, 1, 1, 1, 0x0, 0xFFFFFFFF, 0x0, 0x0, 0, 0x80040⟩,
  ⟨11, 1, 1, 1, 0x0, 0x0, 0x0, 0x0, 0, 0x0⟩,
  ⟨12, 1, 1, 1, 0x0, 0x0, 0x0, 0x0, 0, 0x0⟩,
  ⟨13, 1, 1, 1, 0x0, 0x0, 0x0, 0x0, 0, 0x0⟩,
  ⟨14, 1, 1, 1, 0x0, 0x0, 0x0, 0x0, 0, 0x0⟩,
  ⟨15, 1, 1, 1, 0x0, 0x0, 0x0, 0x0, 0, 0x0⟩]
/-- Registers of the KEY page map. -/
def KEY : List RegDef := [
  ⟨8, 1, 1, 1, 0x0, 0x0, 0x0, 0x0, 0, 0x0⟩,
  ⟨9, 1, 1, 1, 0xFF, 0x0, 0x0, 0x0, 0, 0x0⟩,
  ⟨10, 1, 1, 1, 0x0, 0x0, 0x0, 0x0, 0, 0x0⟩,
  ⟨11, 1, 1, 1, 0x0, 0x0, 0x0, 0x0, 0, 0x0⟩,
  ⟨12, 1, 1, 1, 0x0, 0x0, 0x0, 0x0, 0, 0x0⟩,
  ⟨13, 1, 1, 1, 0x0, 0x0, 0x0, 0x0, 0, 0x0⟩,
  ⟨14, 1, 1, 1, 0x0, 0x0, 0x0, 0x0, 0, 0x0⟩,
  ⟨15, 1, 1, 1, 0x0, 0x0, 0x0, 0x0, 0, 0x0⟩,
  ⟨16, 1, 1, 1, 0xFFFFFFFFF, 0x0, 0x0, 0x0, 0, 0x0⟩,
  ⟨17, 1, 1, 1, 0xFFFFFF, 0x0, 0x0, 0x0, 0, 0xE10⟩,
  ⟨18, 1, 1, 1, 0xFFFFFFFF, 0x0, 0x0, 0x0, 0, 0x0⟩,
  ⟨19, 1, 1, 1, 0xFFFFFFFFF, 0x0, 0x0, 0x0, 0, 0x0⟩,
  ⟨20, 1, 1, 1, 0x0, 0x0, 0x0, 0xFF010F, 0, 0x0⟩,
  ⟨21, 1, 1, 1, 0xFF, 0x0, 0x0, 0x0, 0, 0x0⟩,
  ⟨22, 1, 1, 1, 0xFFFFFFFF, 0x0, 0x0, 0x0, 0, 0x0⟩,
  ⟨23, 1, 1, 1, 0xFF1F, 0x0, 0x0, 0x0, 0, 0x1⟩,
  ⟨24, 1, 1, 1, 0x0, 0x0, 0x0, 0x0, 0, 0x0⟩,
  ⟨25, 1, 1, 1, 0x0, 0x0, 0x0, 0x0, 0, 0x0⟩,
  ⟨26, 1, 1, 1, 0x0, 0x0, 0x0, 0x0, 0, 0x0⟩]
/-- Registers of the ATT page map. -/
def ATT : List RegDef := [
  ⟨8, 1, 1, 1, 0x0, 0x0, 0x0, 0x0, 0, 0x0⟩,
  ⟨9, 1, 1, 1, 0x0, 0x0, 0x0, 0xF, 0, 0x0⟩,
  ⟨10, 12, 1, 1, 0xFFFFFFFF, 0x0, 0x0, 0x0, 0, 0x0⟩,
  ⟨22, 1, 1, 1, 0x7F, 0x0, 0x0, 0x0, 0, 0x0⟩,
  ⟨23, 1, 1, 1, 0x0, 0x0, 0x0, 0x0, 0, 0x0⟩,
  ⟨24, 24, 1, 1, 0x0, 0x0, 0x0, 0x0, 0, 0x0⟩,
  ⟨48, 12, 1, 1, 0x0, 0x0, 0x0, 0x0, 0, 0x0⟩,
  ⟨60, 1, 1, 1, 0x0, 0x0, 0x0, 0x0, 0, 0x0⟩]
/-- Registers of the LCY page map. -/
def LCY : List RegDef := [
  ⟨8, 1, 1, 1, 0x0, 0x0, 0x0, 0x0, 0, 0x0⟩,
  ⟨9, 1, 1, 1, 0x0, 0x0, 0x0, 0xFFFFFFFFF, 0, 0x0⟩,
  ⟨10, 1, 1, 1, 0x0, 0x0, 0x0, 0xFF3F, 0, 0x0⟩,
  ⟨11, 1, 1, 1, 0x0, 0x0, 0x0, 0x0, 0, 0x0⟩,
  ⟨12, 1, 1, 1, 0x0, 0x0, 0x0, 0x0, 0, 0x0⟩]
/-- Registers of the GEN page map. -/
def GEN : List RegDef := [
  ⟨8, 1, 1, 1, 0x0, 0x0, 0x0, 0x0, 0, 0x0⟩,
  ⟨9, 1, 1, 1, 0x0, 0x0, 0x0, 0x0, 0, 0x0⟩,
  ⟨10, 1, 1, 1, 0x0, 0x0, 0x0, 0x0, 0, 0x0⟩,
  ⟨11, 1, 3, 3, 0xFFFFFFFFF, 0x0, 0x0, 0x0, 1, 0x0⟩,
  ⟨14, 1, 1, 1, 0x0, 0x0, 0x0, 0xF, 0, 0x0⟩,
  ⟨15, 1, 1, 1, 0x3FF, 0x0, 0x0, 0x0, 0, 0xA⟩,
  ⟨16, 1, 1, 1, 0x0, 0x0, 0x0, 0x0, 0, 0x0⟩,
  ⟨17, 1, 1, 1, 0x0, 0x0, 0x0, 0x0, 0, 0x0⟩,
  ⟨18, 1, 1, 1, 0x0, 0x0, 0x0, 0x0, 0, 0x0⟩,
  ⟨19, 1, 1, 1, 0x0, 0x0, 0x0, 0x0, 0, 0x0⟩,
  ⟨20, 1, 1, 1, 0x0, 0x0, 0x0, 0x0, 0, 0x0⟩,
  ⟨21, 1, 1, 1, 0x0, 0x0, 0x0, 0x0, 0, 0x0⟩,
  ⟨22, 1, 1, 1, 0x0, 0x0, 0x0, 0x0, 0, 0x0⟩,
  ⟨23, 1, 3, 3, 0x0, 0x0, 0x0, 0x0, 1, 0x0⟩]
/-- Registers of the SHNT page map. -/
def SHNT : List RegDef := [
  ⟨8, 1, 1, 1, 0x0, 0x0, 0x0, 0xFFC70F, 0, 0x0⟩,
  ⟨9, 1, 1, 1, 0x0, 0x0, 0x0, 0x0, 0, 0x0⟩,
  ⟨10, 1, 1, 1, 0x0, 0x0, 0x0, 0x0, 0, 0x0⟩,
  ⟨11, 1, 1, 1, 0x0, 0x0, 0x0, 0x0, 0, 0x0⟩,
  ⟨12, 1, 3, 3, 0x0, 0x0, 0x0, 0x0, 1, 0x0⟩,
  ⟨15, 1, 1, 1, 0x0, 0x0, 0x0, 0x0, 0, 0x0⟩,
  ⟨16, 1, 1, 1, 0x0, 0x0, 0x0, 0x0, 0, 0x0⟩]
/-- Registers of the PROVE page map. -/
def PROVE : List RegDef := [
  ⟨8, 1, 1, 1, 0x0, 0x7F, 0x0, 0x0, 0, 0x3F⟩,
  ⟨9, 1, 1, 1, 0x0, 0x1FFFF, 0x0, 0x0, 0, 0x2A30⟩,
  ⟨10, 1, 1, 1, 0x0, 0xFFF, 0x0, 0x0, 0, 0x708⟩,
  ⟨11, 1, 1, 1, 0x0, 0x0, 0x0, 0xF, 0, 0x0⟩,
  ⟨12, 1, 1, 1, 0x0, 0x0, 0x0, 0x0, 0, 0x0⟩,
  ⟨13, 1, 1, 1, 0x0, 0x0, 0x0, 0x0, 0, 0x0⟩,
  ⟨14, 1, 1, 1, 0x0, 0x0, 0x0, 0x0, 0, 0x0⟩,
  ⟨15, 1, 1, 1, 0x0, 0x0, 0x0, 0x0, 0, 0x0⟩,
  ⟨16, 1, 1, 1, 0x0, 0x0, 0x0, 0x0, 0, 0x0⟩,
  ⟨17, 1, 3, 3, 0x0, 0x0, 0x0, 0x0, 1, 0x0⟩,
  ⟨20, 1, 1, 1, 0x0, 0x0, 0x0, 0x0, 0, 0x0⟩,
  ⟨21, 1, 1, 1, 0x0, 0x0, 0x0, 0x0, 0, 0x0⟩,
  ⟨22, 1, 1, 1, 0x0, 0x0, 0x0, 0x0, 0, 0x0⟩,
  ⟨23, 1, 1, 1, 0x0, 0x0, 0x0, 0x0, 0, 0x0⟩]
/-- Registers of the DUG page map. -/
def DUG : List RegDef := [
  ⟨8, 1, 1, 1, 0x0, 0x0, 0x0, 0x0, 0, 0x31000⟩,
  ⟨9, 1, 1, 1, 0x0, 0xFFFFFF3F, 0x0, 0x0, 0, 0x8008⟩,
  ⟨10, 1, 1, 1, 0x0, 0xFFFF, 0x0, 0x0, 0, 0x514⟩,
  ⟨11, 1, 1, 1, 0x0, 0x0, 0x0, 0x0, 0, 0x0⟩,
  ⟨12, 1, 3, 3, 0x0, 0x0, 0x0, 0x0, 1, 0x0⟩,
  ⟨15, 1, 1, 1, 0x0, 0x0, 0x0, 0x3F, 0, 0x0⟩,
  ⟨16, 1, 1, 1, 0x0, 0xFFFFFF, 0x0, 0x0, 0, 0x10100⟩,
  ⟨17, 1, 1, 1, 0x0, 0x0, 0x0, 0x0, 0, 0x0⟩,
  ⟨18, 1, 1, 1, 0x0, 0x0, 0x0, 0x0, 0, 0x0⟩,
  ⟨19, 1, 1, 1, 0x0, 0x0, 0x0, 0x0, 0, 0x0⟩,
  ⟨20, 1, 1, 1, 0x0, 0x0, 0x0, 0x0, 0, 0x0⟩,
  ⟨21, 1, 1, 1, 0x0, 0x0, 0x0, 0x0, 0, 0x0⟩,
  ⟨22, 1, 1, 1, 0x0, 0x0, 0x0, 0x0, 0, 0x0⟩,
  ⟨23, 1, 1, 1, 0x0, 0x0, 0x0, 0x0, 0, 0x0⟩,
  ⟨32, 3, 16, 1, 0x0, 0x0, 0x0, 0x0, 0, 0x0⟩,
  ⟨33, 3, 16, 1, 0x0, 0x0, 0x0, 0x0, 0, 0x0⟩,
  ⟨34, 3, 16, 1, 0x0, 0x0, 0x0, 0x0, 0, 0x0⟩,
  ⟨35, 3, 16, 1, 0x0, 0xFFFFFFFFF, 0x0, 0x0, 0, 0x0⟩,
  ⟨36, 3, 16, 2, 0x0, 0x0, 0x0, 0x0, 2, 0x0⟩,
  ⟨38, 3, 16, 1, 0x0, 0x0, 0x0, 0x0, 0, 0x0⟩,
  ⟨39, 3, 16, 1, 0x0, 0x0, 0x0, 0x0, 0, 0xFFFFFFFFF⟩,
  ⟨40, 3, 16, 1, 0x0, 0x0, 0x0, 0x0, 0, 0x0⟩,
  ⟨41, 3, 16, 1, 0x0, 0x0, 0x0, 0x0, 0, 0x0⟩,
  ⟨128, 1, 1, 1, 0xFFFFFFFFF, 0x0, 0x0, 0x0, 0, 0x218DEF41⟩,
  ⟨129, 1, 1, 1, 0xFFFFFFFFF, 0x0, 0x0, 0x0, 0, 0xF4240⟩,
  ⟨130, 1, 1, 1, 0xFFFFFFFFF, 0x0, 0x0, 0x0, 0, 0x64⟩,
  ⟨131, 1, 1, 1, 0xF, 0x0, 0x0, 0x0, 0, 0x3⟩]
/-- Registers of the PCI page map. -/
def PCI : List RegDef := [
  ⟨8, 1, 1, 1, 0x0, 0x0, 0x0, 0x0, 0, 0x0⟩,
  ⟨9, 1, 1, 1, 0x0, 0x0, 0x0, 0x0, 0, 0x0⟩,
  ⟨10, 1, 1, 1, 0x0, 0x0, 0x0, 0x0, 0, 0x0⟩,
  ⟨11, 1, 1, 1, 0x0, 0x0, 0x0, 0x0, 0, 0x0⟩,
  ⟨12, 1, 1, 1, 0x0, 0x0, 0x0, 0x0, 0, 0x0⟩]
/-- Registers of the SPI page map. -/
def SPI : List RegDef := [
  ⟨8, 1, 1, 1, 0x0, 0x0, 0x0, 0x0, 0, 0x0⟩,
  ⟨9, 1, 1, 1, 0x0, 0x0, 0x0, 0x0, 0, 0x0⟩,
  ⟨10, 1, 1, 1, 0x0, 0x0, 0x0, 0x0, 0, 0x0⟩,
  ⟨11, 1, 1, 1, 0x0, 0x0, 0x0, 0x0, 0, 0x0⟩]
/-- Registers of the DMA page map. -/
def DMA : List RegDef := [
  ⟨8, 1, 1, 1, 0x0, 0x0, 0x0, 0x0, 0, 0x0⟩,
  ⟨9, 1, 1, 1, 0x0, 0x0, 0xFF, 0x0, 0, 0x0⟩,
  ⟨10, 1, 1, 1, 0xFFFF, 0x0, 0x0, 0x0, 0, 0x0⟩,
  ⟨11, 1, 1, 1, 0x0, 0x0, 0x0, 0x0, 0, 0x0⟩,
  ⟨12, 1, 1, 1, 0x0, 0x0, 0x0, 0x0, 0, 0x0⟩,
  ⟨32, 8, 8, 1, 0xFFFFFFFF, 0x0, 0x0, 0x0, 0, 0x0⟩,
  ⟨33, 8, 8, 1, 0xFFFFFFFF, 0x0, 0x0, 0x0, 0, 0x0⟩,
  ⟨34, 8, 8, 1, 0x1F1, 0x0, 0x200, 0x0, 0, 0xA0⟩,
  ⟨35, 8, 8, 1, 0xFFFF, 0x0, 0x0, 0x0, 0, 0x0⟩,
  ⟨36, 8, 8, 1, 0x0, 0x0, 0x0, 0x0, 0, 0x0⟩,
  ⟨37, 8, 8, 1, 0x0, 0x0, 0x0, 0x0, 0, 0x0⟩,
  ⟨38, 8, 8, 1, 0xFFFF, 0x0, 0x0, 0x0, 0, 0x0⟩,
  ⟨39, 8, 8, 1, 0xFFFFFFFF, 0x0, 0x0, 0x0, 0, 0x140020⟩,
  ⟨96, 8, 3, 1, 0x0, 0x0, 0x0, 0x0, 0, 0x0⟩,
  ⟨97, 8, 3, 1, 0x0, 0x0, 0x0, 0x0, 0, 0x0⟩,
  ⟨98, 8, 3, 1, 0x0, 0x0, 0x0, 0x0, 0, 0x0⟩]
end PageMap

/-- The page directory (R98). -/
def pageDir : List PageRow := [
  ⟨0, 1, 0, 1, 0x824361000, 0x3F, 0x0, false, [], PageMap.GLB⟩,
  ⟨1, 1, 1, 0, 0x100000000, 0x8000003F, 0x8000003F, false, [], PageMap.BOOT⟩,
  ⟨2, 1, 2, 1, 0x0, 0x0, 0x0, false, [], PageMap.EVT⟩,
  ⟨3, 1, 3, 0, 0x900000000, 0x8000003F, 0x8000003F, false, [(12, 14), (21, 27)], PageMap.FLT⟩,
  ⟨4, 1, 4, 1, 0x900000000, 0x8000007F, 0x0, false, [], PageMap.REC⟩,
  ⟨5, 1, 5, 0, 0x0, 0x7, 0x0, false, [], PageMap.AO⟩,
  ⟨6, 1, 6, 0, 0x0, 0x3, 0x3, false, [], PageMap.PWR⟩,
  ⟨7, 1, 7, 0, 0x0, 0x3, 0x0, false, [], PageMap.THM⟩,
  ⟨8, 1, 8, 0, 0x0, 0x3, 0x3, false, [], PageMap.TMP⟩,
  ⟨9, 1, 9, 0, 0x0, 0x7, 0x0, false, [], PageMap.NVM⟩,
  ⟨16, 3, 10, 2, 0x300000000, 0x8000000F, 0x0, false, [], PageMap.TCORE⟩,
  ⟨19, 1, 13, 5, 0xD00000000, 0x80007FFF, 0x0, false, [], PageMap.VOTE⟩,
  ⟨32, 1, 14, 6, 0x500000000, 0x80000FFF, 0x0, false, [], PageMap.SEL⟩,
  ⟨33, 1, 15, 16, 0xD00000000, 0x8000001F, 0x0, false, [], PageMap.SRV⟩,
  ⟨34, 1, 16, 16, 0xD00000000, 0x8000001F, 0x0, false, [], PageMap.HOLD⟩,
  ⟨35, 1, 17, 6, 0xD00000000, 0x8000003F, 0x0, true, [], PageMap.OUT⟩,
  ⟨36, 1, 18, 6, 0x400000000, 0x1F, 0x0, false, [], PageMap.TEB⟩,
  ⟨48, 12, 19, 6, 0xD00000000, 0x8000001F, 0x0, false, [], PageMap.CAND⟩,
  ⟨64, 4, 31, 6, 0xE00000000, 0x3F, 0x0, true, [], PageMap.PLL⟩,
  ⟨72, 8, 35, 6, 0xF00000000, 0x8000007F, 0x0, true, [(17, 26)], PageMap.TIC⟩,
  ⟨80, 1, 43, 7, 0xE00000000, 0x3FF, 0x0, true, [(17, 20)], PageMap.GNS⟩,
  ⟨96, 6, 44, 8, 0xF00000000, 0x800000FF, 0x0, true, [], PageMap.CO⟩,
  ⟨128, 24, 50, 17, 0x400000000, 0x3FF, 0x0, true, [], PageMap.PRT⟩,
  ⟨160, 24, 74, 17, 0x0, 0xFFFFFF, 0x0, false, [(32, 33), (34, 35)], PageMap.STA⟩,
  ⟨192, 1, 98, 14, 0xC00000000, 0x7, 0x0, true, [], PageMap.SWF⟩,
  ⟨193, 1, 99, 14, 0x400000000, 0x3F, 0x0, false, [], PageMap.BUF⟩,
  ⟨194, 1, 100, 14, 0x0, 0x7, 0x0, false, [], PageMap.DRM⟩,
  ⟨200, 1, 101, 14, 0x400000000, 0x7, 0x0, false, [], PageMap.CLT⟩,
  ⟨201, 1, 102, 14, 0x400000000, 0xF, 0x0, false, [], PageMap.TTB⟩,
  ⟨202, 1, 103, 14, 0x400000000, 0x3, 0x0, false, [], PageMap.RATE⟩,
  ⟨208, 1, 104, 15, 0x0, 0x3F, 0x0, false, [], PageMap.KEY⟩,
  ⟨209, 1, 105, 15, 0x0, 0x3, 0x0, false, [], PageMap.ATT⟩,
  ⟨210, 1, 106, 15, 0x0, 0x3, 0x0, false, [], PageMap.LCY⟩,
  ⟨224, 1, 107, 1, 0x100000000, 0x8000000F, 0x0, false, [], PageMap.GEN⟩,
  ⟨225, 1, 108, 1, 0x100000000, 0x80000007, 0x0, false, [], PageMap.SHNT⟩,
  ⟨226, 1, 109, 1, 0x500000000, 0x8000000F, 0x0, false, [], PageMap.PROVE⟩,
  ⟨240, 1, 110, 6, 0xD00000000, 0x8000007F, 0x0, false, [], PageMap.DUG⟩,
  ⟨256, 1, 111, 1, 0x0, 0xF, 0x0, false, [], PageMap.PCI⟩,
  ⟨257, 1, 112, 1, 0x0, 0x1, 0x0, false, [], PageMap.SPI⟩,
  ⟨258, 1, 113, 1, 0x0, 0x7, 0x0, true, [], PageMap.DMA⟩]

end Sys2Proof.Machine
end

