-- ==== Sys2Proof/Machine/Store.lean ====
section
/-! DEFINITION.
Finite maps kept in one canonical form, and the register store: a map from slot addresses to words that lists a
slot only while its word differs from the word the slot resets to.
-/
namespace Sys2Proof.Machine

/-! ## Maps with natural-number keys, keys strictly rising -/

/-- The value at key `k`, if the map holds one. -/
def kvGet {α : Type} (m : List (Nat × α)) (k : Nat) : Option α :=
  match m with
  | [] => none
  | (j, v) :: t => if j = k then some v else kvGet t k

/-- The map without key `k`. -/
def kvDel {α : Type} (m : List (Nat × α)) (k : Nat) : List (Nat × α) :=
  m.filter (fun p => p.1 ≠ k)

/-- The pair `(k, v)` placed before the first larger key. -/
def kvIns {α : Type} (m : List (Nat × α)) (k : Nat) (v : α) : List (Nat × α) :=
  match m with
  | [] => [(k, v)]
  | (j, w) :: t => if k < j then (k, v) :: (j, w) :: t else (j, w) :: kvIns t k v

/-- The map with `v` at key `k`. -/
def kvPut {α : Type} (m : List (Nat × α)) (k : Nat) (v : α) : List (Nat × α) :=
  kvIns (kvDel m k) k v

/-- The keys rise strictly. -/
def kvSorted {α : Type} (m : List (Nat × α)) : Bool :=
  match m with
  | [] => true
  | [_] => true
  | (j, _) :: (k, w) :: t => decide (j < k) && kvSorted ((k, w) :: t)

/-! ## The page directory looked up -/

/-- The directory row of a page and the page's number within its family (R98). -/
def pageRow? (page : Nat) : Option (PageRow × Nat) :=
  match pageDir.find? (fun r => decide (r.first ≤ page ∧ page < r.first + r.count)) with
  | some r => some (r, page - r.first)
  | none => none

/-- The element and the slot within it that slot index `idx` names in a page-map row, if it names one. -/
def RegDef.at? (d : RegDef) (idx : Nat) : Option (Nat × Nat) :=
  if d.lo ≤ idx ∧ (idx - d.lo) / d.stride < d.count ∧ (idx - d.lo) % d.stride < d.n then
    some ((idx - d.lo) / d.stride, (idx - d.lo) % d.stride)
  else none

/-- The page-map row that holds slot index `idx`. -/
def PageRow.reg? (r : PageRow) (idx : Nat) : Option RegDef :=
  r.regs.find? (fun d => (d.at? idx).isSome)

/-- The word of the page header slot `idx` (0 to 7) at reset (R87, R98, R102). -/
def headerReset (r : PageRow) (k idx : Nat) : Nat :=
  match idx with
  | 0 => r.first * 65536 + k * 256 + 1
  | 1 => r.cap
  | 2 => 1
  | 5 => r.evtEn
  | _ => 0

/-- The word that slot address `a` holds at reset: the page header (R87) or the register table's value; 0 for a slot
that no page map lists (R82).  The slots 0x200 to 0x220 exist in CO0 only (R347); a table value read there in another coach is
0 as well. -/
def regReset (a : Nat) : Word :=
  match pageRow? (a / 512) with
  | none => 0
  | some (r, k) =>
    if a % 512 < 8 then BitVec.ofNat 36 (headerReset r k (a % 512))
    else match r.reg? (a % 512) with
      | some d => BitVec.ofNat 36 d.reset
      | none => 0

/-! ## The register store -/

/-- Slot addresses with the words that differ from their reset words, addresses strictly rising. -/
abbrev Store := List (Nat × Word)

/-- The word at slot `a`. -/
def Store.read (m : Store) (a : Nat) : Word :=
  match kvGet m a with
  | some v => v
  | none => regReset a

/-- The store with `v` at slot `a`; a slot that holds its reset word is not listed. -/
def Store.write (m : Store) (a : Nat) (v : Word) : Store :=
  if v = regReset a then kvDel m a else kvPut m a v

/-- Canonical form: addresses strictly rising, and no entry equal to its slot's reset word. -/
def Store.wf (m : Store) : Bool :=
  kvSorted m && m.all (fun p => decide (p.2 ≠ regReset p.1))

/-- The store with every slot of the pages `p` satisfies back at its reset word. -/
def Store.resetPages (m : Store) (p : Nat → Bool) : Store :=
  m.filter (fun e => !p (e.1 / 512))

/-- The value of a field in a word. -/
def Fld.of (f : Fld) (v : Word) : Nat := (v.toNat / 2 ^ f.lo) % 2 ^ f.w

/-- The word with the field holding `n`, reduced to the field's width. -/
def Fld.put (f : Fld) (v : Word) (n : Nat) : Word :=
  BitVec.ofNat 36 (v.toNat - f.of v * 2 ^ f.lo + (n % 2 ^ f.w) * 2 ^ f.lo)

end Sys2Proof.Machine
end

