-- ==== Sys2Proof/Machine/StateBoot.lean ====
section
/-! DEFINITION.
The parts of the state that the AO and MGT islands keep beside their registers: start sequence and pins, islands and couplings,
nonvolatile memory, fault lines, masters and MSI-X, event recorder.
-/
namespace Sys2Proof.Machine

/-! ## Start, power and pins (R34, R35, R54, R56, R74) -/

/-- Where the start sequence of R56 stands. -/
inductive StartPos where
  | off        -- power-on reset, VIN not yet good
  | ao         -- AO runs; every other island is in reset
  | hitched    -- MGT and KV released
  | scanned    -- NVM scan done
  | keys       -- key slots loaded
  | held       -- both banks validated and a hold of R59 stands
  | chosen     -- a bank is chosen and no hold stands
  | released   -- the remaining islands run, axle running
  | applied    -- image entries applied
  | rolling    -- ROLLING or a later stage
  deriving DecidableEq, Repr

/-- The condition that fixes the output pins (R34, R35). -/
inductive PinCond where
  | unpowered
  | inReset
  | hitched
  | driven
  deriving DecidableEq, Repr

/-- The power-fail sequence of R74. -/
inductive PowerFail where
  | none       -- no warning stands
  | warned     -- from t0 to t0 + 1.0 ms
  | down       -- shut down; the hold-up still runs
  | dark       -- the hold-up has ended
  deriving DecidableEq, Repr

/-- What the test access port holds (R51 to R53). -/
inductive TapInstr where
  | reset      -- Test-Logic-Reset, in which IDCODE is selected
  | pins (i : PinInstr)
  | bypass     -- BYPASS, or a private instruction that acts as BYPASS
  deriving DecidableEq, Repr

/-- The instruction that would take over the pins (R52). -/
def TapInstr.pin? : TapInstr → Option PinInstr
  | .pins i => some i
  | _ => none

/-- The start sequencer, the power pins and the pin states that no register shows. -/
structure BootPart where
  pos : StartPos
  pins : PinCond
  resetLow : Bool              -- RESET_N is low
  perstLow : Bool              -- PERST_N is low
  pcieReady : Bool             -- the endpoint answers configuration requests (R57)
  pf : PowerFail
  session : Nat                -- open write session: 0 none, 1 bank A, 2 bank B (R73)
  heldBack : Option Word       -- the last word received in the session, not yet written (R73)
  erasing : Nat                -- bank whose erase runs: 0 none, 1 A, 2 B
  tap : TapInstr               -- the instruction that the test access port holds (R51 to R53)
  holdAtReset : Bool           -- BOOT.CTRL.HOLD as the reset found it (R59)
  txOn : Nat                   -- ports whose transmitter is not squelched, bit per port
  dugOn : Bool                 -- the Dugil transmitters are not squelched
  portRst : Nat                -- ports whose Pn_RST_N is released, bit per port (R286)
  rstNext : Nat                -- the port whose Pn_RST_N is released next (R286)
  prs : Nat                    -- ports whose Pn_PRS_N has been sampled low, bit per port (R35)
  intLow : Nat                 -- ports whose Pn_INT_N has been sampled low, bit per port (R35)
  timeValid : Bool             -- TIME_VALID is high (R265)
  thermAlert : Bool            -- THERM_ALERT_N is low (R35)
  antBias : Nat                -- GNSS antenna bias: 0 off, 1 3.3 V, 2 5.0 V (R45)
  thmSeen : Bool               -- the junction sensors have been read since power-on (R506)
  loading : Bool               -- image entries are being applied: writes take effect as the image's own (R61)
  hotMs : Nat                  -- milliseconds with TJ above 100 °C beyond the whole hours counted (R506)
  deriving DecidableEq, Repr

def BootPart.init : BootPart :=
  { pos := .off, pins := .unpowered, resetLow := false, perstLow := true,
    pcieReady := false, pf := .none, session := 0, heldBack := none, erasing := 0,
    tap := .reset, holdAtReset := false, txOn := 0, dugOn := false, portRst := 0, rstNext := 0, prs := 0, intLow := 0, timeValid := false, thermAlert := false, antBias := 0, thmSeen := false, loading := false, hotMs := 0 }

/-! ## Islands and couplings (R12 to R17) -/

/-- A coupling, named by the codes of its sending and receiving islands (R99) and by which of the couplings of these two islands it is: 0 the data
coupling of R17's table, 1 the memory coupling of a coach, 2 the register coupling. -/
structure Link where
  src : Nat
  dst : Nat
  ch : Nat
  deriving DecidableEq, Repr

structure IslandPart where
  inReset : Nat                      -- islands in reset, bit per island code (R99)
  refused : List (Nat × Nat)         -- data groups refused in a row, by 256 * ch + 16 * src + dst (R16)
  broken : List Link                 -- broken couplings, first broken first (R16)
  withheld : List Link               -- couplings whose receiver withholds ACK (R17)
  healed : List (Nat × Nat)          -- ends of broken couplings that have been reset or returned since (coupling, island)
  khz : List (Nat × Nat)             -- last count of each island's clock (R462)
  clkReset : Nat                     -- islands reset since their clock failed, bit per island (R462)
  mgtLost : Bool                     -- MGT is lost to an island fault, until it is reset (R28)
  deriving DecidableEq, Repr

def IslandPart.init : IslandPart :=
  { inReset := 0xFFFE, refused := [], broken := [], withheld := [], healed := [], khz := [], clkReset := 0, mgtLost := false }

/-! ## Nonvolatile memory (R67 to R69, R81) -/

/-- State of an NVM record (R69). -/
inductive RecState where
  | committed
  | uncommitted
  | corrupt
  deriving DecidableEq, Repr

/-- A record in an NVM area (R68): its first word's position in the area, TYPE, SEQ, T108 value at writing, payload, and state. -/
structure NvRec where
  at_ : Nat
  type : Nat
  seq : Nat
  time : Nat
  payload : List Word
  state : RecState
  deriving DecidableEq, Repr

/-- The record areas of R67. -/
inductive NvArea where
  | journal
  | keyStore
  | lifeCycle
  | startSave
  | holdover
  deriving DecidableEq, Repr

/-- One record area: its records, oldest first, and the position of its next word. -/
structure NvRing where
  recs : List NvRec
  next : Nat
  deriving DecidableEq, Repr

def NvRing.empty : NvRing := { recs := [], next := 0 }

structure NvmPart where
  bankA : List Word                  -- words written in bank A from its first word on; the rest is erased
  bankB : List Word
  journal : NvRing
  keyStore : NvRing
  lifeCycle : NvRing
  startSave : NvRing
  holdover : NvRing
  wear : List (Nat × Nat)            -- erase counts of the sectors erased at least once (R81)
  saving : Option (List Word)        -- payload of the PF_SAVE under way (R74)
  savingBatches : List (List Word)   -- journal batches of the flush under way (R470)
  deriving DecidableEq, Repr

def NvmPart.init : NvmPart :=
  { bankA := [], bankB := [], journal := .empty, keyStore := .empty, lifeCycle := .empty, startSave := .empty,
    holdover := .empty, wear := [], saving := none, savingBatches := [] }

/-! ## Fault lines (R444 to R459) -/

/-- A fault injection in progress (R459). -/
structure Injection where
  checker : Nat
  unit : Nat
  to_ : Nat
  left : Nat
  quiet : Bool
  flagged : Bool
  deriving DecidableEq, Repr

/-- Which brake stands (R451, R453). -/
inductive Brake where
  | off
  | fault
  | resetN
  | shutdown
  deriving DecidableEq, Repr

structure FaultPart where
  causes : List (Nat × Nat)     -- (line, cause) pairs that hold lines present; cause 0 is an occurrence (R444)
  rises : List (Nat × Nat)      -- rises since power-on by line (R446)
  setT : List (Nat × Nat)       -- T108 of the last rise by line
  clrT : List (Nat × Nat)       -- T108 of the last fall by line
  noTime : Nat                  -- lines with an instant not taken, bit per line
  forcedFatal : Nat             -- lines forced FATAL by R445, bit per line
  brake : Brake
  swStopped : Bool              -- the brake came from line 17 or 18 (R452)
  releaseAsked : Bool           -- FLT.CMD RELEASE accepted, waiting for the AXMARK (R454)
  inj : Option Injection
  deriving DecidableEq, Repr

def FaultPart.init : FaultPart :=
  { causes := [], rises := [], setT := [], clrT := [], noTime := 0, forcedFatal := 0, brake := .off, swStopped := false,
    releaseAsked := false, inj := none }

/-! ## Masters and MSI-X (R89 to R95, R105, R476) -/

/-- What the device keeps for one master. -/
structure MasterState where
  window : Nat                    -- expert window: 0 closed, 1 armed, 2 open (R90)
  snap : List (Nat × Word)        -- snapshot words by slot address (R3, R94, R95)
  staged : List (Nat × Word)      -- staged words by slot address (R94)
  key : List (Nat × Word)         -- the KEY registers from 0x048 to 0x0B8, held per master (R378), by slot address
  keyBuf : List (Nat × Word)      -- KEY.DATA buffer words by index (R380)
  readData : Word                 -- the value the master's last read command returned
  deriving DecidableEq, Repr

def MasterState.init : MasterState :=
  { window := 0, snap := [], staged := [], key := [], keyBuf := [], readData := 0 }

/-- The MSI-X capability and table of one function (R476). -/
structure MsixPart where
  enabled : Bool
  funcMask : Bool
  masked : Nat                    -- vectors masked in the table, bit per vector
  pend : Nat                      -- pending bits, bit per vector
  deriving DecidableEq, Repr

def MsixPart.init : MsixPart := { enabled := false, funcMask := false, masked := 0xFFFFFFFF, pend := 0 }

structure HostPart where
  m0 : MasterState                -- PF0
  m1 : MasterState                -- PF1
  m2 : MasterState                -- SPI
  x0 : MsixPart
  x1 : MsixPart
  enAsked : List Nat              -- pages whose PG_CTRL.EN was set while BUSY and that start once BUSY is 0 (R88)
  deriving DecidableEq, Repr

def HostPart.init : HostPart := { m0 := .init, m1 := .init, m2 := .init, x0 := .init, x1 := .init, enAsked := [] }

/-! ## Event recorder (R463 to R473) -/

/-- A recorder trigger on its way to MGT (R465). -/
structure Trigger where
  island : Nat
  code : Nat
  noTime : Bool
  inst : Nat                      -- T108
  gen : Nat
  args : List Nat
  deriving DecidableEq, Repr

/-- The configuration of one trigger code (R466, R467). -/
structure CodeCfg where
  fill : Nat
  depth : Nat
  snap : List Nat                 -- slot addresses
  deriving DecidableEq, Repr

structure RecPart where
  transit : List Trigger          -- sent and not yet at MGT, oldest first
  aoQueue : List Trigger          -- raised in AO before MGT release, up to 16 (R466)
  queue : List Trigger            -- at MGT, up to 256 (R465)
  qGap : Bool                     -- a trigger was lost in the queue since the last record
  held : List (Nat × Nat)         -- triggers lost per island during a fabric service reset
  ring : List (Nat × List Word)   -- ring slots written, by ring index (R464)
  waiting : List Nat              -- SEQ values not yet in the journal, oldest first
  cfg : List (Nat × CodeCfg)      -- codes whose configuration a host has changed
  tokens : List (Nat × (Nat × Nat)) -- per code: tokens left, in millionths, and the MGT µs of the last refill (R467)
  supp : List (Nat × Nat)         -- per code: records suppressed since the last one written
  failed : List Nat               -- SEQ values whose batch failed twice; left to the ring (R469)
  fetchBuf : List Word            -- fetch buffer (R472)
  fetching : Option Nat           -- SEQ of the fetch under way
  deriving DecidableEq, Repr

def RecPart.init : RecPart :=
  { transit := [], aoQueue := [], queue := [], qGap := false, held := [], ring := [], waiting := [], cfg := [], tokens := [],
    supp := [], failed := [], fetchBuf := [], fetching := none }

end Sys2Proof.Machine
end

