-- ==== Sys2Proof/Machine/StateTime.lean ====
section
/-! DEFINITION.
The parts of the state that carry the time scale: the axle and the local time counters, the triad and the voter, the OCXO
and the cell.  Times and increments are in units of 2^-48 ns; a time is counted from 1970-01-01 00:00:00 TAI.
-/
namespace Sys2Proof.Machine

/-- What the signature of a subframe stands for (R129): the counter at its first tick, the increment, and the counter's base at its end; two counters with the
same three agree at every tick (log entry 12). -/
structure CtrSig where
  start : Int
  inc : Nat
  base : Int
  deriving DecidableEq, Repr

/-- A counter of axle time (R20, R116): its value at tick `baseTick` since the last AXMARK, the increment in force, and the increment that
takes effect at tick `nextTick`. -/
structure AxCtr where
  base : Int
  baseTick : Nat
  inc : Nat
  nextTick : Nat
  incNext : Nat
  latch : Int            -- value latched at the last AXMARK (R21)
  badSub0 : Nat          -- consecutive subframes 0 with a CRC failure (R21)
  step : Int             -- step announced for the next AXMARK, in units of 2^-48 ns
  load : Bool            -- the announced change is a load (R121)
  loadNow : Bool         -- a load took effect at the last AXMARK; the next good subframe 0 sets the counter
  last : Bool            -- no subframe begins at `nextTick` any more: the increment in force continues to the mark (R120)
  start : Int            -- value at the first tick of the subframe
  prevSig : CtrSig       -- signature of the last subframe before the mark
  genNext : Option Nat   -- GEN_NEXT of the last subframe 0 with a good CRC (R19)
  leap : Nat             -- LEAP of the last subframe 0 with a good CRC (R127)
  deriving DecidableEq, Repr

/-- The nominal increment, 0x6_6666_6666_6666 (R117). -/
abbrev incNominal : Nat := 1801439850948198

def AxCtr.init : AxCtr :=
  { base := 0, baseTick := 0, inc := incNominal, nextTick := 6250, incNext := incNominal, latch := 0, badSub0 := 0, step := 0,
    load := false, loadNow := false, last := false, start := 0, prevSig := { start := 0, inc := incNominal, base := 0 }, genNext := none, leap := 0 }

/-- A change of phase accepted by VOTE (R121 to R125). -/
structure PhaseReq where
  source : Nat           -- 0 selector, 1 host, 2 load, 3 Dugil (code 0x20 of R466)
  amount : Int           -- S72 units, 2^-16 ns
  deriving DecidableEq, Repr

/-- The voted scale and what the axle announces. -/
structure AxlePart where
  running : Bool
  started : Bool                 -- the first AXMARK has been given
  mark : Int                     -- MARK_T of the last AXMARK
  ocxo : Int                     -- nominal OCXO time since the axle started at the last AXMARK: 6.4 ns for each tick
  stepTotal : Int                -- sum of the steps applied, S72 units
  loads : Nat                    -- loads applied
  v : AxCtr                      -- the voted scale
  ctrs : List (Nat × AxCtr)      -- local counters by island code: 2 to 4, 6 to 13
  steps : List PhaseReq          -- accepted, not yet announced
  setReq : Option Int            -- host load accepted, not yet announced (R122)
  selLoad : Option (Nat × Bool × Int)  -- selector or Dugil load accepted, as annLoad
  annSteps : List PhaseReq       -- announced for the next mark
  annLoad : Option (Nat × Bool × Int)  -- announced load: source, and an absolute value, or a correction in S72 units to add to the scale at the mark
  utcReq : Option Nat            -- VOTE.UTC.OFFSET write waiting for the next AXMARK (R127)
  leapNow : Bool                 -- LEAP bit 0 of the last subframe 0: the leap takes effect at the next AXMARK
  secMark : Bool                 -- the last AXMARK was a second mark (R119)
  marks : Nat                    -- AXMARKs since the axle's start
  genNext : Option Nat           -- GEN_NEXT of the last subframe 0
  deriving DecidableEq, Repr

def AxlePart.init : AxlePart :=
  { running := false, started := false, mark := 0, ocxo := 0, stepTotal := 0, loads := 0, v := .init,
    ctrs := [2, 3, 4, 6, 7, 8, 9, 10, 11, 12, 13].map (fun k => (k, AxCtr.init)),
    steps := [], setReq := none, selLoad := none, annSteps := [], annLoad := none, utcReq := none, leapNow := false, secMark := false, marks := 0, genNext := none }

/-- What VOTE keeps for one core. -/
structure CoreVote where
  run : Nat              -- consecutive updates with the word far from both others (R130)
  retries : List Nat     -- scale seconds of the failed reloads of the last hour (R134)
  probMs : Nat           -- marks left of PROBATION
  ready : Bool           -- REJOIN_LEFT has reached 0; waiting for the second mark (R134)
  returned : Bool        -- the host has returned the core; reload at the next second mark (R136)
  loadT : Int            -- MARK_T of the state copy (R133)
  axleBad : Bool         -- the core has raised AXLE_FAULT since the last update (R138)
  deriving DecidableEq, Repr

def CoreVote.init : CoreVote := { run := 0, retries := [], probMs := 0, ready := false, returned := false, loadT := 0, axleBad := false }

structure TriadPart where
  c0 : CoreVote
  c1 : CoreVote
  c2 : CoreVote
  pairRun : Nat                  -- consecutive updates with the pair apart (R130)
  shuntReq : Option Nat          -- host core shunt waiting for the update (R136)
  recoverReq : Option Nat        -- RECOVER accepted; donor; waiting for the second mark (R137)
  recovering : Option Nat        -- RECOVER under way; donor
  deriving DecidableEq, Repr

def TriadPart.init : TriadPart :=
  { c0 := .init, c1 := .init, c2 := .init, pairRun := 0, shuntReq := none, recoverReq := none, recovering := none }

/-- The OCXO and the cell (R109 to R114). -/
structure OscPart where
  warm : Bool                    -- OCXO.WARM, carried across RESET_N and fabric service resets
  warmEver : Bool                -- the flag has set since power-on
  lockedEver : Bool              -- the cell has locked since power-on
  efcLog : List Nat              -- EFC codes at the last 60 whole seconds of OCXO time, newest first (R114)
  fromScan : Bool                -- the present ACQUIRE follows a SCAN (R112)
  failedCycles : Nat             -- SCAN-to-ACQUIRE cycles failed in a row
  deriving DecidableEq, Repr

def OscPart.init : OscPart := { warm := false, warmEver := false, lockedEver := false, efcLog := [], fromScan := false, failedCycles := 0 }

end Sys2Proof.Machine
end

