-- ==== Sys2Proof/Machine/StateRef.lean ====
section
/-! DEFINITION.
The parts of the state behind the reference chapters: candidate slots and selector (RH), servo and holdover estimator (TC0 to TC2, in
lockstep).  Times are in units of 2^-48 ns, offsets in S72 units of 2^-16 ns, frequencies in F36 units of 2^-48 unless a field says otherwise.
-/
namespace Sys2Proof.Machine

/-- One measured offset of a candidate: axle instant (2^-48 ns) and offset (S72 units). -/
structure Meas where
  t : Int
  o : Int
  deriving DecidableEq, Repr

/-- One point of the frequency window: OCXO time and candidate time, both in 2^-48 ns and free of steps. -/
structure FreqPt where
  u : Int
  c : Int
  deriving DecidableEq, Repr

/-- What RH keeps for one candidate slot beside its registers (R140 to R147). -/
structure CandSlot where
  fit : List Meas          -- accepted samples of the line fit, newest first
  win : List FreqPt        -- points of the frequency window, newest first
  nacc : Nat               -- accepted samples since the slot last left LOST
  hits : List Int          -- OCXO instants of the phase hits of the last 10 s
  syncs : List Int         -- OCXO instants of the last 16 PTP Syncs, newest first
  logSync : Int            -- logMessageInterval of the last Sync; 127 unknown
  origin : Option Int      -- offset origin of a frequency candidate, 2^-48 ns
  base : Option Int        -- whole-second base of a GNSS slot while TS_SET is 0, 2^-48 ns (R245)
  qualMs : Nat             -- marks left of the qualification time
  wtrMs : Nat              -- marks left of the wait-to-restore
  manualOk : Bool          -- its WTR_DONE fell after the last manual COMMIT (R151)
  betterSeen : Bool        -- BETTER_AVAIL raised for this slot (R151)
  prep : List Meas         -- offsets collected in PREPARE, newest first (R152)
  annClass : Option Nat    -- clockClass of the master's last Announce, while its receipt timeout has not expired (R140)
  last : Int               -- OCXO instant of the last sample, or of the commit that enabled the slot (R146)
  deriving DecidableEq, Repr

def CandSlot.init : CandSlot :=
  { fit := [], win := [], nacc := 0, hits := [], syncs := [], logSync := 127, origin := none, base := none, qualMs := 0, wtrMs := 0, manualOk := false,
    betterSeen := false, prep := [], annClass := none, last := 0 }

/-- What waits for step 3 of R149 at the next mark, in arrival order. -/
inductive SelReq where
  | lockout (mask : Nat)
  | switch (slot : Nat)
  | holdover
  | release
  deriving DecidableEq, Repr

/-- A REF_IN input's last stamp (R142). -/
structure RefStamp where
  stamp : Int              -- units of 2^-48 ns
  prev : Option Int        -- the stamp before it
  cold : Bool
  uncal : Bool
  stale : Bool             -- of R228
  cycles : Nat             -- edges stamped since the input was configured
  fresh : Bool             -- no sample has been taken from it yet
  deriving DecidableEq, Repr

structure SelPart where
  slots : List (Nat × CandSlot)  -- by slot number; a slot not listed is as after reset
  reqs : List SelReq
  lockout : Nat                  -- SEL.LOCKOUT as applied at the last mark
  was : Nat                      -- STATE before the switch in progress
  prepMs : Nat                   -- marks since PREPARE began
  commitAge : Nat                -- marks since Mc
  mcT : Int                      -- MARK_T of Mc
  feedFrom : Int                 -- samples of the selected slot measured before this instant are not fed
  manualSwitch : Bool            -- the switch in progress was started by SEL.CMD SWITCH
  manualWas : Bool               -- SEL.STATUS.MANUAL before the COMMIT in progress
  okWas : List Nat               -- the slots with `manualOk` before the COMMIT in progress
  holdAfter : Bool               -- SEL.CMD HOLDOVER accepted in COMMIT (R151)
  submitted : Bool               -- the step or load of R153 is submitted and not yet announced
  shift : Int                    -- offset at Mc + 2 of a frequency target, S72 units
  bias : Int                     -- steering bias B in force, millionths of S72 units
  biasTarget : Int
  refStamps : List (Nat × RefStamp)
  firstNext : Bool               -- the next sample of the selected slot is flagged FIRST
  lastTimeSrc : Nat              -- SRC of the last time candidate committed
  settleMs : Nat                 -- marks since SETTLE began
  moved : Bool                   -- a command has begun a switch at this mark (R149)
  steering : Bool                -- the bias is on its way to its target (R157)
  deriving DecidableEq, Repr

def SelPart.init : SelPart :=
  { slots := [], reqs := [], lockout := 0, was := 0, prepMs := 0, commitAge := 0, mcT := 0, feedFrom := 0, manualSwitch := false, manualWas := false, okWas := [],
    holdAfter := false, submitted := false, shift := 0, bias := 0, biasTarget := 0, refStamps := [], firstNext := false, lastTimeSrc := 0, settleMs := 0, moved := false, steering := false }

/-- A feed sample (R144). -/
structure FeedSample where
  slot : Nat
  freq : Bool
  first : Bool
  cold : Bool
  t : Int
  o : Int
  deriving DecidableEq, Repr

/-- The servo (R163 to R174). `integ` and `word` are in units of 2^-80. -/
structure SrvPart where
  integ : Int
  drop : Int                      -- the integral step that the anti-windup left out at the last accepted sample (R166)
  word : Int
  feed : List FeedSample          -- feed samples not yet processed, oldest first
  prev : Option Int               -- instant of the previous accepted sample
  lastO : Int                     -- offset of the last accepted sample
  resid : List Nat                -- |o| of the last 64 accepted samples in ps, newest first
  recent : List Int               -- instants of the accepted samples of the last 10 s, newest first
  lockFrom : Option Int           -- start of the run with |o| at or below LOCK_PH
  hostSeen : Bool                 -- the last update ran on the host feed
  acc : List Int                  -- instants of the last eight accepted samples, newest first
  accN : Nat                      -- samples accepted since the feed's first one, up to ten (R165)
  keepI : Bool                    -- the next FIRST sample keeps I: the host feed has been left (R174)
  farRun : Nat                    -- consecutive accepted samples above UNLOCK_PH
  selSeen : Nat                   -- selector state in force in the servo (R170)
  selElig : Bool                  -- the old candidate was eligible when that state was taken
  firstNext : Bool                -- the next feed sample is to be treated as FIRST
  cellYs : List Int               -- last 64 VOTE.CELL_Y values, newest first
  secSum : Int                    -- sum of the words of this second's updates, F36
  secN : Nat
  secOk : Bool                    -- the learning conditions have held throughout this second (R175)
  deriving DecidableEq, Repr

def SrvPart.init : SrvPart :=
  { integ := 0, drop := 0, word := 0, feed := [], prev := none, lastO := 0, resid := [], recent := [], lockFrom := none, hostSeen := false, acc := [], accN := 0, keepI := false, farRun := 0, selSeen := 0,
    selElig := false, firstNext := false, cellYs := [], secSum := 0, secN := 0, secOk := false }

/-- One counted second or hourly mean: referred frequency in F36 units and HOLD.TEMP in 2^-10 degrees. -/
structure ZPoint where
  z : Int
  th : Int
  deriving DecidableEq, Repr

/-- An hourly mean with the scale second at which its hour ended. -/
structure HourPt where
  z : Int
  th : Int
  at_ : Option Int          -- unknown for a restored mean
  deriving DecidableEq, Repr

/-- The holdover estimator (R175 to R182). Fit results in F36 units. -/
structure HoldPart where
  secs : List ZPoint              -- counted seconds, newest first
  hours : List HourPt             -- hourly means, newest first, at most 168
  fitDue : Bool                   -- a new hourly mean waits for its fit
  hourZ : Int                     -- sums of the counted hour in progress
  hourTh : Int
  hourN : Nat
  thetaBar : Int                  -- mean temperature of the Y0 window, 2^-10 degrees
  sY0 : Nat
  sAge : Nat
  sTc : Nat
  tcFitted : Bool                 -- a fit has determined TC
  enterT : Int                    -- instant of the last entry
  clock : Option Int              -- start of the envelope's clock
  au : Nat                        -- a_u in ps
  inCell : Bool                   -- the model at the envelope's clock start is CELL
  stepped : Bool                  -- a COMMIT has applied its step since the servo entered its state (R182)
  integral : Nat                  -- integral of |HOLD.TEMP - HOLD.TEMP0|, in 2^-10 K s
  frozen : Int                    -- the word held under MODEL OCXO, units of 2^-80
  noneY0 : Option Int             -- Y0 taken at entry with LEARN NONE
  recSecs : Nat                   -- seconds since the last periodic HOLD record
  deriving DecidableEq, Repr

def HoldPart.init : HoldPart :=
  { secs := [], hours := [], fitDue := false, hourZ := 0, hourTh := 0, hourN := 0, thetaBar := 0, sY0 := 0, sAge := 0, sTc := 0, tcFitted := false,
    enterT := 0, clock := none, au := 0, inCell := false, stepped := false, integral := 0, frozen := 0, noneY0 := none, recSecs := 0 }

/-! ## The copies of the three cores (R86, R129, R133, R172) -/

/-- One core's own copy of servo, estimator and SRV and HOLD pages. -/
structure CoreImg where
  srv : SrvPart
  hold : HoldPart
  regs : Store
  deriving DecidableEq, Repr

/-- The cores' copies: the parts `srv` and `hold` of the state and the SRV and HOLD pages of `regs` are the copy of core `now` and of every core not listed in
`apart`; and the feed samples that a core's coupling without ACK holds back in RH (R17). -/
structure CoresPart where
  now : Nat
  apart : List (Nat × CoreImg)
  held : List (Nat × List FeedSample)
  deriving DecidableEq, Repr

def CoresPart.init : CoresPart := { now := 0, apart := [], held := [] }

end Sys2Proof.Machine
end

