-- ==== Sys2Proof/Machine/StateOut.lean ====
section
/-! DEFINITION.
The parts of the state behind the outputs, the interval counters and the converters of RH.
-/
namespace Sys2Proof.Machine

/-- What RH keeps for one output, 0 to 3 CLK_OUT, 4 to 7 PULSE_OUT (R197 to R209).  Instants and moves are in units of 2^-48 ps, in which a picosecond, a
nanosecond and an S72 unit are whole numbers. -/
structure OutState where
  move : Int              -- realignment still to be taken, added to the edges (R205)
  compMove : Int          -- change of COMP still to be taken (R206)
  leapMove : Int          -- leap move still to be taken (R207)
  named : Bool            -- named by the REALIGN in progress
  high : Bool             -- PULSE_OUT: the high phase is in progress
  idx : Int               -- PULSE_OUT: number of the last rising edge in the grid of R201
  lastRise : Int          -- PULSE_OUT: instant of the last rising edge
  nextT : Int             -- PULSE_OUT: the next programmed edge instant
  ending : Bool           -- mutes at the end of the current period
  endT : Int              -- CLK_OUT: the current period has ended by this instant
  drvHeld : Bool          -- drive fault: muted until EN is cleared and set (R209)
  quiet : Bool            -- CLK_OUT: mutes at the end of the current period because TIME_VALID is low (R203)
  per : Int               -- PULSE_OUT: the period of the pulse in progress, as the settings at its rise gave it (R206)
  hi : Int                -- PULSE_OUT: its high phase (R202)
  taken : Int             -- PULSE_OUT: what the low phase in progress has taken of moves (R205)
  leapTaken : Int         -- PULSE_OUT: what it has taken of a leap (R207)
  edge : Int              -- PULSE_OUT: the last edge as the digital-to-time converter placed it (R190)
  fall : Int              -- CLK_OUT: the falling edge of the old source from which the last change of source held the output low (R198)
  rise : Int              -- CLK_OUT: the rising edge of the new source that ended it
  deriving DecidableEq, Repr

def OutState.init : OutState :=
  { move := 0, compMove := 0, leapMove := 0, named := false, high := false, idx := 0, lastRise := 0, nextT := 0, ending := false, endT := 0,
    drvHeld := false, quiet := false, per := 0, hi := 0, taken := 0, leapTaken := 0, edge := 0, fall := 0, rise := 0 }

/-- What RH keeps for one output PLL beside its registers. -/
structure PllState where
  lossSeq : Bool          -- the lock sequence in progress follows a loss of lock or of reference (R193)
  held : Bool             -- LOCKED has lasted 1 s (R196)
  running : Bool          -- a lock sequence is in progress
  refWait : Bool          -- REF_OK is 1 again, for less than 1 ms (R195)
  deriving DecidableEq, Repr

def PllState.init : PllState := { lossSeq := false, held := false, running := false, refWait := false }

structure OutPart where
  outs : List (Nat × OutState)    -- by output; one not listed is as after reset
  plls : List (Nat × PllState)
  synthOk : Bool                  -- the bypass synthesiser is locked
  deriving DecidableEq, Repr

def OutPart.init : OutPart := { outs := [], plls := [], synthOk := false }

/-- The tables of a converter (R216, R224): nominal, or the counts of an accepted calibration (edges, edges per phase interval, edges per
tap) with the temperature at which it was made, 2^-10 degrees. -/
inductive ConvTable where
  | nominal
  | counted (n : Nat) (np : List Nat) (ck : List Nat) (temp : Int)
  deriving DecidableEq, Repr

/-- The configuration a measurement took at arming (R219). -/
structure TicCfg where
  startSrc : Nat
  stopSrc : Nat
  startFall : Bool                -- falling edges qualify (R218)
  stopFall : Bool
  seq : Bool
  holdoff : Nat
  skip : Nat
  timeout : Nat
  deriving DecidableEq, Repr

structure TicState where
  start : ConvTable
  stop : ConvTable
  cfg : TicCfg                    -- in force for the measurement in progress or finished
  skipLeft : Nat
  startT : Int                    -- stamps in 2^-48 ns
  stopT : Int
  marks : Nat                     -- AXMARKs since arming
  startIdx : Nat                  -- AXMARKs since arming at each stamped edge
  stopIdx : Nat
  steps : List (Nat × Int)        -- steps and loads applied since arming: number of the mark, amount in S72 units
  armAt : Option Int              -- ARM_AT accepted and not yet reached
  calKind : Nat                   -- 0 none; 1 commanded; 2 automatic; 3 start, return or proving
  back : Nat                      -- STATE to return to after a calibration
  startNo : Nat                   -- number of the calibration that made each channel's table, of those that have ended; 0 none (R226)
  stopNo : Nat
  calNo : Nat
  deriving DecidableEq, Repr

def TicState.init : TicState :=
  { start := .nominal, stop := .nominal, cfg := { startSrc := 0, stopSrc := 0, startFall := false, stopFall := false, seq := false, holdoff := 0, skip := 0, timeout := 0 }, skipLeft := 0,
    startT := 0, stopT := 0, marks := 0, startIdx := 0, stopIdx := 0, steps := [], armAt := none, calKind := 0, back := 0, startNo := 0, stopNo := 0, calNo := 0 }

/-- A converter pair (R227, R228). -/
structure PairState where
  duty : Nat                      -- member on duty, 0 or 1
  t0 : ConvTable
  t1 : ConvTable
  fails0 : Nat                    -- calibrations failed in a row
  fails1 : Nat
  swap : Bool                     -- the off-duty member goes on duty at the next AXMARK
  deriving DecidableEq, Repr

def PairState.init : PairState := { duty := 0, t0 := .nominal, t1 := .nominal, fails0 := 0, fails1 := 0, swap := false }

structure TicPart where
  tics : List (Nat × TicState)
  pairs : List (Nat × PairState)  -- 0 to 3 REF_IN, 4 to 7 PULSE_OUT, 8 + 2p receive and 9 + 2p transmit stamp point of port p, 56 + 2n and 57 + 2n of DUGn, 60 of GNSS
  temps : List (Nat × Int)        -- temperature last reported for an island, by island code, 2^-10 degrees
  deriving DecidableEq, Repr

def TicPart.init : TicPart := { tics := [], pairs := [], temps := [] }

end Sys2Proof.Machine
end

