-- ==== Sys2Proof/Machine/StateGns.lean ====
section
/-! DEFINITION.
What the GN island keeps beside its registers (R232 to R254).
-/
namespace Sys2Proof.Machine
open Sys2Proof

/-- What a channel does (R233, R235). -/
inductive ChanState where
  | idle
  | cold
  | warm
  | hot
  | track
  deriving DecidableEq, Repr

/-- One baseband channel: its state, signal and satellite. -/
structure GnsChan where
  st : ChanState
  sig : Nat
  sat : Nat
  deriving DecidableEq, Repr

/-- The inputs of one full-pass second to the learned means (R248): clock offsets by constellation, and L1 minus L5 offsets by constellation, S72 units. -/
structure GnsLearn where
  offs : List (Nat × Int)
  bands : List (Nat × Int)
  deriving DecidableEq, Repr

/-- A sample on its way to RH: stamp (2^-48 ns), offset (S72), the steps and loads applied when it was measured. -/
structure GnsSample where
  stamp : Int
  o : Int
  steps : Int
  loads : Nat
  deriving DecidableEq, Repr

structure GnsPart where
  chans : List (Nat × GnsChan)   -- by channel, 0 to 191; one not listed is idle
  almAt : Option Int             -- OCXO instant at which the almanac held was received
  ephAt : Option Int             -- OCXO instant at which the ephemeris held was received
  search : ChanState             -- the search that channels without one of their own are in
  utck : List (Nat × Int)        -- the last broadcast correction toward UTC(k), by constellation, S72 units
  sol : List (Int × Int)         -- the latest time solution and the one before: sample instant (2^-48 ns) and GNSS time minus the scale (S72)
  epochAt : Option Nat           -- number of the AXMARK of the last epoch
  noise : List (Nat × Nat)       -- in-band noise of the bands in 0.1 dB over the last 24 h of bias, newest first
  biasSecs : Nat                 -- seconds since the bias was applied
  jamRun : Nat                   -- seconds in a row with the noise above the threshold
  calmRun : Nat                  -- seconds in a row with both bands more than 2 dB below it
  surveyN : Nat                  -- epochs averaged in the survey in progress
  surveyX : Int
  surveyY : Int
  surveyZ : Int
  hist : List GnsLearn           -- the last 3600 full-pass seconds, newest first
  fly : Option Int               -- flywheel F, TAI in 2^-48 ns, at the last epoch
  flyU : Int                     -- OCXO time of that epoch
  passRun : Nat                  -- full-pass seconds in a row since the last anchor
  refly : Bool                   -- re-anchor at the first passing second
  runs : List Nat                -- holding seconds in a row of CONS, BAND, CLOCK, POS
  outRun : Option (Nat × Nat)    -- outlier constellation and its seconds in a row
  agree : List (Nat × Nat)       -- agreeing seconds in a row of the excluded constellations
  clearAsked : Bool              -- CLEAR_SUSPECT waits for the next epoch
  ready : Option GnsSample       -- the epoch's sample, not yet delivered
  faults : List Int              -- OCXO instants of the engine faults of the last hour
  code : List Word               -- code in the engine's memory
  session : Option (List Word)   -- words of the open code session
  foldback : Bool                -- the antenna supply is folded back (R253)
  busyMs : Nat                   -- marks until the last dwell has ended (R254)
  deriving DecidableEq, Repr

def GnsPart.init : GnsPart :=
  { chans := [], almAt := none, ephAt := none, search := .idle, utck := [], sol := [], epochAt := none, noise := [], biasSecs := 0, jamRun := 0, calmRun := 0,
    surveyN := 0, surveyX := 0, surveyY := 0, surveyZ := 0, hist := [], fly := none, flyU := 0, passRun := 0, refly := false,
    runs := [0, 0, 0, 0], outRun := none, agree := [], clearAsked := false, ready := none, faults := [], code := [], session := none, foldback := false,
    busyMs := 0 }

end Sys2Proof.Machine
end

