-- ==== Sys2Proof/Machine/StateTeb.lean ====
section
/-! DEFINITION.
What RH keeps for the time-error bound, and what it publishes to the coaches (R257 to R271).
-/
namespace Sys2Proof.Machine
open Sys2Proof

/-- What RH sends one coach after an AXMARK: the bound, the quantisation and the path allowance of its four ports, and the components and states behind
them (R264, R270). -/
structure TebPub where
  ports : List Nat
  quants : List Nat
  paths : List Nat
  badQuant : Nat          -- ports of the coach whose quantisation is STALE or UNCAL, bit per port
  cand : Nat
  servo : Nat
  hold : Nat
  fault : Nat
  cls : Nat               -- clockClass (R267)
  timed : Bool            -- stage TIMED or later
  valid : Bool            -- TIME_VALID is high
  sat : Bool
  isOver : Bool
  freqOnly : Bool
  holdUsed : Bool
  source : Nat            -- byte 12 of R270
  elapsed : Nat
  deriving DecidableEq, Repr

def TebPub.init : TebPub :=
  { ports := [wordMax, wordMax, wordMax, wordMax], quants := [150, 150, 150, 150], paths := [0, 0, 0, 0], badQuant := 0, cand := wordMax, servo := 0, hold := 0,
    fault := 0, cls := 248, timed := false, valid := false, sat := true, isOver := false, freqOnly := false, holdUsed := false, source := 0xFF, elapsed := 0 }

/-- A coach's published values: those in force from subframe 1 after the last AXMARK, those before, and the last ones published while the coach was shunted or
fenced (R264). -/
structure CoachPub where
  before : TebPub
  after : TebPub
  waiting : Option TebPub
  deriving DecidableEq, Repr

def CoachPub.init : CoachPub := { before := .init, after := .init, waiting := none }

structure TebPart where
  candUpd : Nat           -- TEB.CAND at the last update at which no condition of R258's third row held
  hostAdd : Nat           -- magnitude of host steps since the last accepted sample, ps (R259)
  ef : Nat                -- E_f of R260
  efFrom : Int            -- applying mark of the COMMIT to the frequency candidate
  row : Nat               -- row of R260 in force: 0 otherwise, 1 holdover, 2 frequency only
  fell : Bool             -- TIME_VALID has fallen at TIMED or later
  lastComps : List Nat    -- the five components in the last TEB_COMP record
  lastSrc : List Nat      -- their sources in that record
  force : Bool            -- a TEB_COMP record was suppressed (R271)
  lastLimit : List Bool   -- OVER, SAT and TIME_VALID at the last AXMARK
  coaches : List (Nat × CoachPub)
  deriving DecidableEq, Repr

def TebPart.init : TebPart :=
  { candUpd := wordMax, hostAdd := 0, ef := 0, efFrom := 0, row := 0, fell := false, lastComps := [wordMax, 0, 0, 0, 150], lastSrc := [15, 0, 0, 0, 0],
    force := false, lastLimit := [false, true, false], coaches := [] }

end Sys2Proof.Machine
end

