-- ==== Sys2Proof/Machine/StatePipe.lean ====
section
/-! DEFINITION.
What the coaches and the switch keep beside their registers: ports, cage buses, carriages, lanes, the switch core, the client table, the timetable and the
rate buckets (R274 to R371).  Instants are in units of 2^-48 ns.
-/
namespace Sys2Proof.Machine
open Sys2Proof

/-! ## Ports (R274 to R294) -/

/-- An entry of a transmit-timestamp FIFO (R290); the tag is a CID or a descriptor index with its ring. -/
structure TsfEntry where
  stamp : Int
  tag : Nat
  ring : Nat
  origin : Nat
  gap : Bool
  deriving DecidableEq, Repr

structure PortState where
  ups : Nat                        -- moves to UP, modulo 16 (R365)
  mcUps : Nat                      -- `ups` at the last multicast visit
  mcOk : Bool                      -- a multicast Announce has been created since
  mcAnnSeq : Nat                   -- sequenceId of the next multicast Announce, Sync and Delay_Req
  mcSyncSeq : Nat
  dreqSeq : Nat
  pause : List (Nat × Int)         -- end of the obeyed pause by class (R282)
  tsf : List TsfEntry              -- oldest first
  gap : Bool                       -- a stamp was dropped since the last entry stored
  fcSeen : List Nat                -- FC_OBEY, service bits and PTP binding at the last commit (R282)
  closing : Bool                   -- EN cleared, the frame in transmission still completing (R285)
  awaits : List (Nat × Nat)        -- TS_REQ frames sent whose stamp has not reached the DMA completion: ring, index (R484)
  deriving DecidableEq, Repr

def PortState.init : PortState :=
  { ups := 0, mcUps := 0, mcOk := false, mcAnnSeq := 0, mcSyncSeq := 0, dreqSeq := 0, pause := [], tsf := [], gap := false, fcSeen := [], closing := false, awaits := [] }

/-- A cage transaction (R286): port, operation (1 READ, 2 WRITE, 3 RESTART_BUS), bytes, offset, device address, write data. -/
structure I2cTx where
  port : Nat
  op : Nat
  len : Nat
  offset : Nat
  dev : Nat
  data : Nat
  deriving DecidableEq, Repr

structure BusState where
  queue : List I2cTx               -- oldest first
  stuck : Bool                     -- the bus is STUCK (R42)
  sel : Option Nat                 -- the port whose Pn_SEL_N is low (R41)
  deriving DecidableEq, Repr

/-! ## Carriages (R24, R321, R322) -/

/-- What a timetable carriage sends; `cancel` names the message types in bits 0 Announce, 1 Sync, 2 Delay_Resp. -/
inductive TtKind where
  | announce
  | sync
  | followUp
  | delayReq
  | cancel (types : Nat)
  deriving DecidableEq, Repr

/-- Where a carriage stands (R322). -/
inductive Stage where
  | parse
  | forward        -- VERDICT 1 to 3: on its way to the switch
  | lookup
  | verify
  | compose
  | composed       -- COMPOSE done; waits for the SIGN queue (R332)
  | sign
  | seal
  deriving DecidableEq, Repr

structure Carriage where
  cid : Nat
  origin : Nat
  port : Nat                       -- the port that it came by or leaves by
  portIn : Nat                     -- PORT_IN of R24: 31 for a carriage not from a port
  place : Nat
  gen : Nat
  ingT : Int
  verdict : Nat
  tclass : Nat
  buf : Nat                        -- BUF of R24
  tebv : Nat                       -- TEBV of R321, from COMPOSE on
  client : Nat                     -- 0x1FFFFF none
  rateAct : Nat
  key : Option (Nat × Nat)         -- pinned slot and version (R328)
  cookKey : Option (Nat × Nat)     -- version for new cookies
  c2s : Nat                        -- C2S and S2C keys of the opened cookie
  s2c : Nat
  ncook : Nat                      -- new cookies to return
  nak : Bool                       -- an NTS NAK is due (R345)
  depart : Option Int
  scaleNo : Nat                    -- the number of the AXMARK from which DEPART's scale holds: it is written on the scale of an announced step (R126)
  laneNs : Nat                     -- lane time of VERIFY, of SIGN from COMPOSE on
  stage : Stage
  kind : TtKind                    -- of a timetable carriage
  ent : Option ClientEntry         -- the client entry as a timetable carriage has read it (R353)
  frame : Frame                    -- the received frame; the answer from COMPOSE on
  srch : Nat                       -- hash of the source (R321)
  deriving DecidableEq, Repr

/-- The PTP client of an upstream port (R340). -/
structure UpState where
  master : Option Nat              -- sourcePortIdentity of the chosen master
  ann : Option AnnBody             -- its last Announce, with ING_T and logMessageInterval
  annAt : Int
  annLog : Int
  addr : Option (Nat × Nat)        -- source MAC and IP address of its last Sync
  sync : Option (Int × PtpMsg)     -- a two-step Sync waiting for its Follow_Up, with its ING_T
  reqs : List (Nat × Int)          -- Delay_Req sent: sequenceId and DEPART, newest first
  pair : Option (Int × Int × Int)  -- t3, t4, cD of the latest pair
  pairAt : Int                     -- DEPART of that Delay_Req
  deriving DecidableEq, Repr

def UpState.init : UpState := { master := none, ann := none, annAt := 0, annLog := 0, addr := none, sync := none, reqs := [], pair := none, pairAt := 0 }

structure CoachState where
  nextCid : Nat
  cars : List Carriage             -- oldest first
  toSw : List Nat                  -- CIDs of the carriages for the switch, in the order sent (R15)
  epochs : List (Nat × Nat)        -- placement epoch by lane (R410)
  demand : Nat                     -- carriages asked for in this window (R287)
  lowRun : Nat                     -- consecutive windows at or below the lower threshold
  stopped : Bool                   -- EN is 0 or a fault reaction of R346 is in force
  draining : Bool                  -- EN cleared with carriages past their point of no return
  ups : List (Nat × UpState)       -- upstream clients by port
  lastLeap : Option (Int × Int)    -- LEAP_AT second and sign of the last leap, kept 43,200 s (R343)
  deriving DecidableEq, Repr

def CoachState.init : CoachState :=
  { nextCid := 0, cars := [], toSw := [], epochs := [], demand := 0, lowRun := 0, stopped := true, draining := false, ups := [], lastLeap := none }

/-! ## Switch core (R295 to R320) -/

/-- A copy of a frame toward one destination, 0 to 23 or 24 for the host (R304, R305). -/
structure Copy where
  dst : Nat
  spilled : Bool                   -- held in DRAM or on its way there (R307)
  issued : Bool                    -- its first cell has been issued into stage 1
  cells : Nat                      -- cells that have reached the resequencer, or DRAM
  entered : Bool                   -- a cell has entered the resequencing buffer: a reservation of 64 cells is held (R299)
  last : Bool                      -- LAST has arrived: the unused part of the reservation is given back (R299)
  ready : Bool                     -- released to its egress queue (R298)
  begun : Bool                     -- the host copy's data write has begun
  deriving DecidableEq, Repr

structure SwFrame where
  input : Nat                      -- fabric input 0 to 6
  fid : Nat
  frame : Frame
  portIn : Nat                     -- 31 for a host-originated frame
  verdict : Nat
  origin : Nat
  gen : Nat
  ingT : Int
  cls : Nat
  bound : Nat                      -- n of R304
  total : Nat                      -- cells up to LAST
  used : Option Nat                -- cells used, once LAST has been issued
  st : Nat                         -- ST of the last cell
  fseq : List (Nat × Nat)          -- FSEQ by fabric output (R295)
  place : Nat                      -- PLACE, BUF and DEPART of its header (R24)
  buf : Nat
  depart : Option Int
  copies : List Copy
  admT : Int                       -- instant of admission, MARK_T of the AXMARK before
  desc : Option (Nat × Nat × Bool) -- ring, descriptor index and TS_REQ of a host-originated frame
  cold : Nat                       -- stamp flags for R481: bit 0 COLD, 1 STALE, 2 UNCAL
  flooded : Bool                   -- the frame was also forwarded to ports
  deriving DecidableEq, Repr

/-- An entry of the forwarding table (R302, R303). -/
structure FdbEntry where
  mac : Nat
  ports : Nat
  host : Bool
  isStatic : Bool
  seen : Nat                       -- sweeps since it was last refreshed
  deriving DecidableEq, Repr

/-- A cell's header (R295): IN, FID, IDX, LAST, and the class of its frame.  BYTES, ST, SPILL, HDR, PMASK and FSEQ follow from its frame. -/
structure Cell where
  input : Nat
  fid : Nat
  idx : Nat
  last : Bool
  cls : Nat
  deriving DecidableEq, Repr

structure SwPart where
  frames : List SwFrame            -- in order of admission
  slot : Nat                       -- slots of the fabric that stage 1 has run, from the release of SW (R296)
  issue : List (Nat × List Cell)   -- cells at each fabric input, in issue order (R296)
  banks : List (Nat × List Cell)   -- the banks' FIFOs by 208 * bank + 8 * queue + class; queue 25 is the DRAM path (R297)
  sent : List (Nat × Nat)          -- by output: the first slot not yet used by stage 2
  turn7 : List (Nat × Nat)         -- by 8 * bank + output: the queue whose class 7 cell was sent last
  turn : List (Nat × Nat)          -- the same for classes 0 to 6
  drr : List (Nat × Nat × Nat)     -- by 32 * bank + queue: the class in its turn and the rest of its quantum (R297)
  fseq : List (Nat × Nat)          -- next FSEQ by 64 * input + 8 * output + class
  waiting : List (Nat × Nat)       -- FSEQ awaited, by 64 * input + 8 * output + class
  done : List (Nat × Nat)          -- FSEQ values released, skipped or discarded out of order: key as above and value
  spill : Nat                      -- queues in spill mode, bit 8 * dst + class
  fdb : List FdbEntry              -- newest refresh first
  lost : List (Nat × Nat × Nat × Nat)  -- frames lost to memory errors before any cell reached an output: key and FSEQ as above, input and FID (R300, R313)
  skipped : List (Nat × Nat × Nat) -- skipped frames whose cells may still arrive: output, input and FID
  deriving DecidableEq, Repr

def SwPart.init : SwPart :=
  { frames := [], slot := 0, issue := [], banks := [], sent := [], turn7 := [], turn := [], drr := [], fseq := [], waiting := [], done := [], spill := 0, fdb := [], lost := [],
    skipped := [] }

/-! ## Clients, timetable, rate buckets (R349 to R371) -/

/-- A timetable record (R362); `sync`: its TYPE is Sync. -/
structure TtRecord where
  client : Nat
  sync : Bool
  place : Nat
  changed : Bool                   -- a renewal has changed the grant's interval since the record was placed (R363)
  deriving DecidableEq, Repr

/-- The slot that a coach's timetable stage works through (R363). -/
structure SlotWork where
  slot : Nat
  start : Int                      -- slot start
  count : Nat                      -- COUNT at the start
  left : List TtRecord             -- records still to visit
  deriving DecidableEq, Repr

structure WheelState where
  slots : List (Nat × List TtRecord)
  work : List SlotWork             -- slots begun and not completed, oldest first
  rebuilding : Bool
  deriving DecidableEq, Repr

def WheelState.init : WheelState := { slots := [], work := [], rebuilding := false }

/-- A rate bucket (R367); counts in sixteenths of a token, instants in 2^-16 s. -/
structure Bucket where
  tokN : Nat
  tokP : Nat
  kissed : Bool
  last : Nat
  deriving DecidableEq, Repr

structure CltPart where
  entries : List (Nat × ClientEntry)   -- by entry number; one not listed is FREE
  chains : List (Nat × List Nat)       -- index chains, head first (R351)
  wheels : List (Nat × WheelState)     -- by coach
  buckets : List (Nat × Bucket)
  scrubAt : Nat                        -- next entry of the scrub (R360)
  migrating : List (Nat × Nat)         -- entries of an old placement with the lane assigned to each (R410)
  drainAt : List (Nat × Nat)           -- for each DRAINING entry the count of AXMARKs when it became so (R355)
  toBuild : List Nat                   -- coaches whose wheel waits for its rebuild, in turn (R366)
  deriving DecidableEq, Repr

def CltPart.init : CltPart := { entries := [], chains := [], wheels := [], buckets := [], scrubAt := 0, migrating := [], drainAt := [], toBuild := [] }

structure PipePart where
  ports : List (Nat × PortState)
  buses : List (Nat × BusState)        -- cage buses by coach
  coaches : List (Nat × CoachState)
  lastAcc : Int                        -- instant of the last time-candidate sample accepted by the servo (R341)
  deriving DecidableEq, Repr

def PipePart.init : PipePart := { ports := [], buses := [], coaches := [], lastAcc := 0 }

end Sys2Proof.Machine
end

