-- ==== Sys2Proof/Machine/StateKey.lean ====
section
/-! DEFINITION.
What KV, MGT and RH keep beside their registers for keys and the life cycle, generations, shunts and proving runs, the redundancy group, DMA rings and the SPI
target (R372 to R491).
-/
namespace Sys2Proof.Machine
open Sys2Proof

/-! ## Keys (R372 to R402) -/

/-- A key version: number, key (as a number of the usage's length), keyID, KCV and pins. -/
structure KeyVer where
  num : Nat
  key : Nat
  keyId : Nat
  kcv : Nat
  pins : Nat
  deriving DecidableEq, Repr

/-- A key slot (R377, R379); `st` is coded as KEY.SLOT_STAT.SLOT. -/
structure KeySlot where
  st : Nat
  attr : Nat
  grace : Nat
  pend : Option KeyVer
  verified : Bool
  act : Option KeyVer
  old : Option KeyVer
  draining : Bool                  -- the old version's grace has ended
  graceEnd : Option Int            -- instant at which it ends; none: at the next AXMARK
  gone : List KeyVer               -- versions ended by ERASE or zeroization whose pins drain
  deriving DecidableEq, Repr

def KeySlot.init : KeySlot :=
  { st := 0, attr := 0, grace := 0, pend := none, verified := false, act := none, old := none, draining := false, graceEnd := none, gone := [] }

/-- A KEY.CMD as written: its master, OP, SRC, CHECK, and what the rule's steps answer: the NVM record's read-back, and the instant of the acknowledgement
(R382). -/
structure KeyCmd where
  m : Master
  op : Nat
  src : Nat
  check : Bool
  nvOk : Bool
  ackAt : Int
  slot : Nat                       -- the slot, once the command runs
  deriving DecidableEq, Repr

/-- LCY.CONFIRM of one master (R375). -/
structure Confirm where
  armedAt : Option Nat             -- MGT µs of the first write
  okAt : Option Nat                -- MGT µs of the second
  deriving DecidableEq, Repr

structure KeyPart where
  slots : List (Nat × KeySlot)
  running : Option KeyCmd          -- COMMIT, ERASE or RELOAD under way
  waiting : List KeyCmd            -- commands of the masters, in arrival order
  msgs : List (Nat × Bool × Nat × Nat) -- pin (true) and release messages on their way to KV, oldest first: coach, slot, version
  fuses : Nat                      -- life-cycle fuses, bit per state (R374)
  owner : Option Nat               -- OWNER_ROOT, while its array is intact
  alive : Bool                     -- storage key, identity key and DRBG state are held (not zeroized)
  lcyRun : Option (Nat × Nat × Nat) -- life-cycle change under way: state, attestation mode, slot
  attMode : Nat
  attSlot : Nat
  c0 : Confirm
  c1 : Confirm
  c2 : Confirm
  drbg : Nat                       -- DRBG requests since the last reseed
  half : Nat                       -- key-store half in use (R385)
  stmt : List Word                 -- the statement held for ATT.OUT_DATA
  attAsked : Option Nat            -- a STATEMENT waits for GEN_HASH_OK; VOTE.NOW at its start (R396, R397)
  tampered : Bool                  -- a tamper alarm has zeroized the slots since they were last loaded (R392)
  deriving DecidableEq, Repr

def KeyPart.init : KeyPart :=
  { slots := [], running := none, waiting := [], msgs := [], fuses := 1, owner := none, alive := false, lcyRun := none, attMode := 0, attSlot := 0,
    c0 := { armedAt := none, okAt := none }, c1 := { armedAt := none, okAt := none }, c2 := { armedAt := none, okAt := none }, drbg := 0, half := 0, stmt := [],
    attAsked := none, tampered := false }

/-! ## Generations, migrations, shunts, proving runs (R403 to R421) -/

/-- A migration in progress (R410 to R412). -/
structure Migration where
  lane : Nat
  to_ : Nat                        -- 31 balanced
  start : Int                      -- Tm
  asked : Nat                      -- count of AXMARKs when the command reached the coach; the next starts it
  begun : Bool
  fence : Option Int
  fenced : Bool                    -- F has passed: the epoch has moved
  shunt : Bool                     -- the lane is to be SHUNTED at F
  oldPlace : Nat
  oldCids : List Nat               -- carriages that held the old placement at Tm
  deriving DecidableEq, Repr

structure GenPart where
  before : Store                   -- the set in force before the last commit (R405)
  beforeNum : Nat
  at_ : Int                        -- T of the pending commit
  asked : Bool                     -- a CANCEL has arrived before D
  parts : Nat                      -- participants, bit per island code
  gone : Nat                       -- participants that have faulted after PREPARED
  applied : Nat                    -- participants that have reported APPLIED
  late : List (Nat × Nat)          -- fenced islands that have reported APPLIED and wait for the AXMARK, with the count of AXMARKs then
  keep : List (Nat × Store)        -- committed values that MGT has still to write to a fenced island, by island (R409)
  returned : Nat                   -- fenced islands whose return path has been run, bit per island
  reconf : Nat                     -- islands reset and waiting to be reconfigured from the image at an AXMARK, bit per island (R64, R440)
  deriving DecidableEq, Repr

def GenPart.init : GenPart :=
  { before := [], beforeNum := 0, at_ := 0, asked := false, parts := 0, gone := 0, applied := 0, late := [], keep := [], returned := 0, reconf := 0 }

/-- A unit under a host SHUNT or RETURN: kind and index (R413). -/
structure ShuntCmd where
  op : Nat
  kind : Nat
  index : Nat
  to_ : Nat
  deriving DecidableEq, Repr

structure ShuntPart where
  cmd : Option ShuntCmd            -- the host command under way
  ask : Option ShuntCmd            -- a coach SHUNT waiting for the AXMARK
  migs : List Migration
  coaches : Nat                    -- coaches from the AXMARK of their shunt to the end of their return, bit per coach
  back : List (Nat × Nat)          -- units on their return path: kind and index
  deriving DecidableEq, Repr

def ShuntPart.init : ShuntPart := { cmd := none, ask := none, migs := [], coaches := 0, back := [] }

structure ProvePart where
  running : Bool
  asked : Bool                     -- RUN_NOW waits for the second mark
  start : Int
  left : List (Nat × Nat)          -- units still to test: kind and unit
  testing : List (Nat × Nat)       -- units under test: lanes of several coaches, or one unit
  units : Nat                      -- units that a run has left shunted, in the layout of SHNT.UNITS (R417)
  lanes : Nat
  failed : Nat                     -- lines raised by failures of R417 that AO has not seen yet, bit per line (R418)
  deriving DecidableEq, Repr

def ProvePart.init : ProvePart := { running := false, asked := false, start := 0, left := [], testing := [], units := 0, lanes := 0, failed := 0 }

/-! ## Redundancy group (R422 to R443) -/

/-- A TT frame sent: its SEQ, T_TX, and the steps and loads applied before it. -/
structure TtSent where
  seq : Nat
  t : Int
  epoch : Nat
  deriving DecidableEq, Repr

/-- What the device knows of the peer on one Dugil port. -/
structure PeerState where
  txSeq : Nat                      -- SEQ of the next frame sent on lane 0
  txSeq1 : Nat                     -- and on lane 1
  sent : List TtSent               -- newest first
  rx : Option (Nat × Int)          -- SEQ and arrival stamp of the last TT received
  serial : Nat
  prio : Nat
  thetas : List Int                -- last 64 offsets, S72 units, newest first
  applyT : Option Int              -- APPLY of the peer's last step or load
  deriving DecidableEq, Repr

def PeerState.init : PeerState := { txSeq := 0, txSeq1 := 0, sent := [], rx := none, serial := 0, prio := 0, thetas := [], applyT := none }

/-- A step (`load` false, S72 units) or load (T108 value) of a SEL frame that waits for its mark. -/
structure DueStep where
  load : Bool
  amount : Int
  at_ : Int                        -- the mark before which it is announced: MARK_T without the step
  deriving DecidableEq, Repr

structure DugPart where
  p0 : PeerState
  p1 : PeerState
  lease : Nat                      -- LEASE_SEQ of the last RENEW sent or received
  leaseOf : Nat                    -- serial of the member that the last lease known belongs to
  pendE : Int                      -- E of the last RENEW sent
  renewed : Bool                   -- a RENEW has been sent or received since the GROUP commit
  groupAt : Int                    -- MARK_T of the GROUP commit
  claimT : Int                     -- instant of the last CLAIM
  claimed : Bool                   -- a claim has failed: the next follows after RENEW_MS
  grants : Nat                     -- ports that have granted the claim
  refused : Bool                   -- the claim has met VERDICT 2
  stopping : Bool                  -- HANDOVER sent: no more RENEW
  target : Nat                     -- serial of the handover's target
  handT : Option Int               -- E_H of a handover under way
  due : List DueStep
  followed : Bool                  -- the device has followed a holder since the GROUP commit
  feedFirst : Bool                 -- the next offset fed to the servo is flagged FIRST
  sweepNo : Nat
  sweepKeys : List (Nat × Nat)     -- keys received in the sweep in progress: port, PORT_ID
  inSweep : Bool
  swept : Bool                     -- one complete sweep has arrived from the current holder
  sweepT : Int                     -- instant at which the last complete one ended
  epoch : Nat                      -- steps and loads applied
  soloEnd : Option Int             -- S of the lease held when the device left GROUP (R422)
  soloOff : Bool                   -- that instant has passed
  deriving DecidableEq, Repr

def DugPart.init : DugPart :=
  { p0 := .init, p1 := .init, lease := 0, leaseOf := 0, pendE := 0, renewed := false, groupAt := 0, claimT := 0, claimed := false, grants := 0, refused := false,
    stopping := false, target := 0, handT := none, due := [], followed := false, feedFirst := false, sweepNo := 0, sweepKeys := [], inSweep := false, swept := false,
    sweepT := 0, epoch := 0, soloEnd := none, soloOff := false }

/-! ## DMA rings, SPI (R480 to R490) -/

/-- A transmit descriptor fetched and not yet written back; `res` its status once known, with the stamp. -/
structure TxJob where
  idx : Nat
  flags : Nat
  tag : Nat
  port : Nat
  sent : Bool
  res : Option (Nat × Int)
  deriving DecidableEq, Repr

structure RingState where
  rx : List (Nat × Nat)            -- receive descriptors fetched and not used: index and buffer length
  tx : List TxJob                  -- transmit descriptors fetched and not written back, oldest first
  noted : List Nat                 -- descriptors written back that count toward DQ_PEND and lie at or after SEEN
  nobuf : Bool                     -- NOBUF has been raised since the ring was enabled
  stopped : Bool                   -- stopped by R477, R485 or R487 and not enabled since: receive frames wait in their host queue
  deriving DecidableEq, Repr

def RingState.init : RingState := { rx := [], tx := [], noted := [], nobuf := false, stopped := false }

structure DmaPart where
  rings : List (Nat × RingState)
  closing : Bool                   -- PG_CTRL.EN cleared with frames past their point of no return
  deriving DecidableEq, Repr

def DmaPart.init : DmaPart := { rings := [], closing := false }

end Sys2Proof.Machine
end

