-- ==== Sys2Proof/Machine/State.lean ====
section
/-! DEFINITION.
The state of the device, the ways a step stops, and the state right after reset.
-/
namespace Sys2Proof.Machine
open Sys2Proof

/-- How a step stops with a fault. -/
inductive Fault where
  /-- A command names a port, slot, core, PLL, output, island or other unit that the device does not have; raised by the meanings of commands that
  take a unit number.  Safe: the spec gives such a command no meaning. -/
  | noSuchUnit
  deriving DecidableEq, Repr

/-- How a step is refused. -/
inductive Refusal where
  /-- A command that has no meaning in the model yet; raised by exec's own arms only.  Safe. -/
  | notModelled (mnemonic : String)
  /-- A Gorzitex private test instruction acts in MANUFACTURE or RETURNED (R53), and the spec says nothing of what it does; raised by the meaning of
  JTAG_PRIVATE_INSTRUCTION.  Safe. -/
  | privateTest
  deriving DecidableEq, Repr

/-- What leaves the device through a pin, a lane or the PCIe link; the model keeps the list of all of it (log entry 4). -/
inductive Out where
  /-- an MSI-X message of vector `vec` to function `pf` (R105) -/
  | msix (pf vec : Nat)
  /-- a configuration request of function `pf` completed: with Configuration Request Retry Status, or accepted (R57) -/
  | pcieConfig (pf : Nat) (retry : Bool)
  /-- a frame leaves port `port` with its timestamp point at the land at `at_` (T108) and a valid FCS, or is ended with an invalid one (R284, R334) -/
  | frame (port : Nat) (f : Frame) (at_ : Nat) (good : Bool)
  /-- a Dugil frame leaves a link on a lane (R424) -/
  | dugil (link lane : Nat) (f : DugFrame)
  /-- a frame is written to host memory at the buffer address of a receive descriptor (R481) -/
  | hostFrame (ring idx : Nat) (f : Frame)
  /-- a descriptor is written back: ring, index, the fields the device writes (R481, R483) -/
  | dmaDone (ring idx : Nat) (fields : List Nat)
  /-- the bytes an SPI transaction returned after the fill bytes (R478, R479) -/
  | spi (bytes : List Nat)
  /-- a transaction on the cage bus of a coach, at 400 kHz or at 100 kHz (R286) -/
  | cage (coach : Nat) (t : I2cTx) (fast : Bool)
  /-- Pn_SEL_N of a port goes low, or returns high (R41) -/
  | sel (port : Nat) (low : Bool)
  deriving DecidableEq, Repr

/-- The state of the device. -/
structure State where
  regs : Store                 -- every register's word in force
  shadow : Store               -- the shadows of the RWS registers (R96)
  staging : Store              -- the staging set of a prepared generation (R97)
  boot : BootPart
  isl : IslandPart
  nvm : NvmPart
  flt : FaultPart
  host : HostPart
  erec : RecPart
  ax : AxlePart
  tri : TriadPart
  osc : OscPart
  sel : SelPart
  srv : SrvPart
  hold : HoldPart
  cores : CoresPart
  out : OutPart
  tic : TicPart
  gns : GnsPart
  teb : TebPart
  pipe : PipePart
  sw : SwPart
  clt : CltPart
  key : KeyPart
  gen : GenPart
  shunt : ShuntPart
  prove : ProvePart
  dug : DugPart
  dma : DmaPart
  sent : List Out              -- what has left the device, newest first
  free : Nat                   -- the number of free values taken so far (log entry 3)
  pending : List Instr         -- the commands that wait, first in, first out
  deriving DecidableEq, Repr

/-- The device in power-on reset, VIN not yet good: every register at its reset word (R62, R56). -/
def State.reset : State :=
  { regs := [], shadow := [], staging := [], boot := .init, isl := .init, nvm := .init, flt := .init, host := .init, erec := .init, ax := .init,
    tri := .init, osc := .init, sel := .init, srv := .init, hold := .init, cores := .init, out := .init, tic := .init, gns := .init, teb := .init,
    pipe := .init, sw := .init, clt := .init, key := .init, gen := .init, shunt := .init, prove := .init, dug := .init, dma := .init, sent := [], free := 0, pending := [] }

end Sys2Proof.Machine
end

