-- ==== Sys2Proof/Machine/Ops.lean ====
section
/-! DEFINITION.
The shared operations on the state: register fields and counters, value formats, rounding, page access, free values, output, and the axle counters.
-/
namespace Sys2Proof.Machine
open Sys2Proof

/-! ## Registers -/

/-- The word in force at slot `a`. -/
def State.rd (s : State) (a : Nat) : Word := s.regs.read a

/-- The state with `v` in force at slot `a`. -/
def State.wr (s : State) (a : Nat) (v : Word) : State := { s with regs := s.regs.write a v }

/-- The value in force of a field. -/
def State.get (s : State) (f : Fld) : Nat := f.of (s.rd f.slot)

/-- The state with `n` in force in a field. -/
def State.set (s : State) (f : Fld) (n : Nat) : State := s.wr f.slot (f.put (s.rd f.slot) n)

/-- The field read as two's complement. -/
def State.getS (s : State) (f : Fld) : Int := toSigned f.w (s.get f)

/-- The field written as two's complement. -/
def State.setS (s : State) (f : Fld) (z : Int) : State := s.set f (ofSigned f.w z)

/-- A one-bit field. -/
def State.flag (s : State) (f : Fld) : Bool := decide (s.get f = 1)

/-- A one-bit field set from a condition. -/
def State.setFlag (s : State) (f : Fld) (b : Bool) : State := s.set f (if b then 1 else 0)

/-- A counter moved up by `n`, saturating at the top of its field (R93). -/
def State.bumpBy (s : State) (f : Fld) (n : Nat) : State := s.set f (min (s.get f + n) (2 ^ f.w - 1))

/-- A counter moved up by one, saturating (R93). -/
def State.bump (s : State) (f : Fld) : State := s.bumpBy f 1

/-- The whole word at `a` as a field. -/
abbrev wordFld (a : Nat) : Fld := ⟨a, 0, 36⟩

/-- `n` in one-bit-per-item mask `m`. -/
def bitOn (m n : Nat) : Bool := m.testBit n

/-- The mask with bit `n` set or cleared. -/
def setBit (m n : Nat) (b : Bool) : Nat :=
  if b then m ||| 2 ^ n else if m.testBit n then m - 2 ^ n else m

/-! ## Value formats (R2 to R6) -/

/-- Units of 2^-48 ns in one nanosecond, one millisecond and one second. -/
abbrev nsU : Int := 281474976710656
abbrev msU : Int := 281474976710656000000
abbrev secU : Int := 281474976710656000000000

/-- Units of 2^-48 ns in one S72 unit of 2^-16 ns. -/
abbrev s72U : Int := 4294967296

/-- A time in 2^-48 ns as a T108 value; the 18 lowest fraction bits are dropped (R2, R116). A negative time reads 0. -/
def toT108 (t : Int) : Nat :=
  let n := t.toNat
  (n / 281474976710656000000000) * 2 ^ 60 + (n / 281474976710656 % 1000000000) * 2 ^ 30 + n % 281474976710656 / 2 ^ 18

/-- The time in 2^-48 ns of a T108 value. -/
def ofT108 (v : Nat) : Int :=
  ((v / 2 ^ 60) * 281474976710656000000000 + (v / 2 ^ 30 % 2 ^ 30) * 281474976710656 + (v % 2 ^ 30) * 2 ^ 18 : Nat)

/-- A time as a T108 field carries it. -/
def cutT (t : Int) : Int := ofT108 (toT108 t)

/-- A written T108 value is rejected when its nanoseconds exceed 999,999,999 (R2). -/
def t108Ok (v : Nat) : Bool := decide (v / 2 ^ 30 % 2 ^ 30 ≤ 999999999)

/-- The T108 value in the three slots from `a` on (R3). -/
def State.rdT (s : State) (a : Nat) : Nat :=
  (s.rd a).toNat * 2 ^ 72 + (s.rd (a + 1)).toNat * 2 ^ 36 + (s.rd (a + 2)).toNat

/-- The three slots from `a` on set to a T108 value (R3). -/
def State.wrT (s : State) (a v : Nat) : State :=
  ((s.wr a (BitVec.ofNat 36 (v / 2 ^ 72))).wr (a + 1) (BitVec.ofNat 36 (v / 2 ^ 36))).wr (a + 2) (BitVec.ofNat 36 v)

/-- The S72 value in the two slots from `a` on (R4). -/
def State.rdS (s : State) (a : Nat) : Int := toSigned 72 ((s.rd a).toNat * 2 ^ 36 + (s.rd (a + 1)).toNat)

/-- The two slots from `a` on set to an S72 value (R4). -/
def State.wrS (s : State) (a : Nat) (z : Int) : State :=
  (s.wr a (BitVec.ofNat 36 (ofSigned 72 z / 2 ^ 36))).wr (a + 1) (BitVec.ofNat 36 (ofSigned 72 z))

/-- The three words of a T108 value, highest first. -/
def t108Words (v : Nat) : List Word := [BitVec.ofNat 36 (v / 2 ^ 72), BitVec.ofNat 36 (v / 2 ^ 36), BitVec.ofNat 36 v]

/-- The two words of an S72 value, highest first, as numbers. -/
def s72Words (z : Int) : List Nat := [ofSigned 72 z / 2 ^ 36, ofSigned 72 z % 2 ^ 36]

/-- A quotient where the spec does not say how it is rounded: exact when it is a whole number, else one of the two whole numbers next to it
(log entry 5). -/
def quot (n : Int) (d : Nat) : Int :=
  if n % (d : Int) = 0 then n / (d : Int)
  else if Config.roundUp n d then n / (d : Int) + 1 else n / (d : Int)

/-- A quotient rounded to the nearest whole number, halves away from zero. -/
def quotNear (n : Int) (d : Nat) : Int :=
  if 0 ≤ n then (2 * n + d) / (2 * d : Int) else -((2 * -n + d) / (2 * d : Int))

/-- A quotient rounded to the nearest whole number, where the spec does not say which way a half goes (log entry 5). -/
def nearQ (n : Int) (d : Nat) : Int := if 2 * (n % (d : Int)) = d then quot n d else quotNear n d

/-- Picoseconds of a duration in 2^-48 ns units, as magnitude. -/
def psOf (d : Int) : Int := quot (d * 1000) 281474976710656

/-- Duration in 2^-48 ns units of picoseconds. -/
def ofPs (p : Int) : Int := quot (p * 281474976710656) 1000

/-! ## Parts of the state -/

/-- The value of `m` at key `k`, or `d`. -/
def kvGetD {α : Type} (m : List (Nat × α)) (k : Nat) (d : α) : α := (kvGet m k).getD d

def State.slotOf (s : State) (k : Nat) : CandSlot := kvGetD s.sel.slots k .init
def State.putSlot (s : State) (k : Nat) (c : CandSlot) : State := { s with sel := { s.sel with slots := kvPut s.sel.slots k c } }
def State.outOf (s : State) (k : Nat) : OutState := kvGetD s.out.outs k .init
def State.putOut (s : State) (k : Nat) (c : OutState) : State := { s with out := { s.out with outs := kvPut s.out.outs k c } }
def State.pllOf (s : State) (k : Nat) : PllState := kvGetD s.out.plls k .init
def State.putPll (s : State) (k : Nat) (c : PllState) : State := { s with out := { s.out with plls := kvPut s.out.plls k c } }
def State.ticOf (s : State) (k : Nat) : TicState := kvGetD s.tic.tics k .init
def State.putTic (s : State) (k : Nat) (c : TicState) : State := { s with tic := { s.tic with tics := kvPut s.tic.tics k c } }
def State.pairOf (s : State) (k : Nat) : PairState := kvGetD s.tic.pairs k .init
def State.putPair (s : State) (k : Nat) (c : PairState) : State := { s with tic := { s.tic with pairs := kvPut s.tic.pairs k c } }

/-- The state a master keeps. -/
def State.mst (s : State) (m : Master) : MasterState :=
  match m with
  | .pf0 => s.host.m0
  | .pf1 => s.host.m1
  | .spi => s.host.m2

def State.putMst (s : State) (m : Master) (x : MasterState) : State :=
  match m with
  | .pf0 => { s with host := { s.host with m0 := x } }
  | .pf1 => { s with host := { s.host with m1 := x } }
  | .spi => { s with host := { s.host with m2 := x } }

/-- The code of a master in GLB.ACCESS_ERR (R99). -/
def masterCode (m : Master) : Nat :=
  match m with
  | .pf0 => 0
  | .pf1 => 1
  | .spi => 2

/-- What VOTE keeps for core `k`. -/
def State.coreOf (s : State) (k : Nat) : CoreVote :=
  match k with
  | 0 => s.tri.c0
  | 1 => s.tri.c1
  | _ => s.tri.c2

def State.putCore (s : State) (k : Nat) (c : CoreVote) : State :=
  match k with
  | 0 => { s with tri := { s.tri with c0 := c } }
  | 1 => { s with tri := { s.tri with c1 := c } }
  | _ => { s with tri := { s.tri with c2 := c } }

/-- Something leaves the device. -/
def State.emit (s : State) (o : Out) : State := { s with sent := o :: s.sent }

/-- A free value and the state that has taken it (log entry 3). -/
def State.takeFree (s : State) : Nat × State := (Config.free s.free, { s with free := s.free + 1 })

/-- A command's unit number is below the number of such units. -/
def withUnit (u lim : Nat) (t : State) : Host.Outcome State Fault Refusal :=
  if u < lim then .next t else .fault .noSuchUnit

/-! ## The axle's counters (R20, R116, R117) -/

/-- The counter at `tick` ticks after the last AXMARK. -/
def AxCtr.at_ (c : AxCtr) (tick : Nat) : Int :=
  if tick ≤ c.nextTick ∨ c.last then c.base + ((tick : Int) - c.baseTick) * c.inc
  else c.base + ((c.nextTick : Int) - c.baseTick) * c.inc + ((tick : Int) - c.nextTick) * c.incNext

/-- The counter as the subframe that begins at `tick` begins: the increment that waited takes effect (R20); `last`: no other begins before the mark. -/
def AxCtr.turn (c : AxCtr) (tick : Nat) (last : Bool) : AxCtr :=
  { c with base := c.at_ tick, baseTick := tick, inc := c.incNext, nextTick := tick + 6250, last := last, start := c.at_ tick }

/-- The signature of the subframe in progress (R129). -/
def AxCtr.sig (c : AxCtr) : CtrSig := { start := c.start, inc := c.inc, base := c.base }

/-- The counter moved by `d`. -/
def AxCtr.add (c : AxCtr) (d : Int) : AxCtr := { c with base := c.base + d }

/-- The counter at an AXMARK `tick` ticks after the one before: the tick becomes tick 0, the announced step is applied, and the value is
latched (R20, R21). -/
def AxCtr.mark (c : AxCtr) (tick : Nat) : AxCtr :=
  let v := c.at_ tick + (if c.load then 0 else c.step)
  { c with base := v, baseTick := 0, inc := c.incNext, nextTick := 6250, latch := v, step := 0, load := false, loadNow := c.load, last := false, start := v,
           prevSig := c.sig }

/-- The local time counter of an island (R20). -/
def State.ctrOf (s : State) (island : Nat) : AxCtr := kvGetD s.ax.ctrs island .init
def State.putCtr (s : State) (island : Nat) (c : AxCtr) : State := { s with ax := { s.ax with ctrs := kvPut s.ax.ctrs island c } }

/-- RH's local time at a tick (R20, R446). -/
def State.rhTime (s : State) (tick : Nat) : Int := (s.ctrOf 6).at_ tick

/-- The voted scale at a tick. -/
def State.voteTime (s : State) (tick : Nat) : Int := s.ax.v.at_ tick

/-- The first tick after the last AXMARK at which the counter is at or past `target` (R119). -/
def AxCtr.reach (c : AxCtr) (target : Int) : Nat :=
  let vn := c.at_ c.nextTick
  let up (d : Int) (i : Nat) : Nat := ((d + i - 1) / (i : Int)).toNat
  if target ≤ vn ∨ c.last then c.baseTick + up (target - c.base) c.inc else c.nextTick + up (target - vn) c.incNext

/-- The whole millisecond at which the next AXMARK falls (R119, R120). -/
def nextMs (mark : Int) : Int :=
  let t := (mark / msU + 1) * msU
  if t - mark < msU / 2 then t + msU else t

/-- INC_NEXT for a frequency word (R117): round(6.4 * 2^48 + 6.4 * FREQ). -/
def incOf (freq : Int) : Nat := (quotNear (64 * (nsU + freq)) 10).toNat

/-! ## Configuration words with stated replacements -/

/-- A field whose values outside `lo` to `hi` act as `d`. -/
def State.getOr (s : State) (f : Fld) (lo hi d : Nat) : Nat :=
  let n := s.get f
  if lo ≤ n ∧ n ≤ hi then n else d

/-- A field whose value 0 acts as 1. -/
def State.get1 (s : State) (f : Fld) : Nat := max 1 (s.get f)

end Sys2Proof.Machine
end

