-- ==== Sys2Proof/Machine/Flags.lean ====
section
/-! DEFINITION.
Events and what follows from them: PG_EVT latches, level events, event sources, vectors and MSI-X (R87, R101 to R107), recorder triggers on their
way to MGT (R465, R466), and the causes that hold fault lines present (R444).
-/
namespace Sys2Proof.Machine
open Sys2Proof

/-! ## Islands -/

/-- Island codes (R99). -/
abbrev islAO : Nat := 0
abbrev islMGT : Nat := 1
abbrev islVOTE : Nat := 5
abbrev islRH : Nat := 6
abbrev islGN : Nat := 7
abbrev islSW : Nat := 14
abbrev islKV : Nat := 15

/-- The island is out of reset. -/
def State.up (s : State) (island : Nat) : Bool := !bitOn s.isl.inReset island

/-- The coupling `ch` joins island `a` to island `b` (R17's table, and the coupling of R139): 0 data, 1 the memory coupling of a coach, 2 the register coupling. -/
def coupled (a b ch : Nat) : Bool :=
  let one (a b : Nat) : Bool :=
    match ch with
    | 0 => decide (8 ≤ a ∧ a ≤ 13 ∧ (b = 14 ∨ b = 15 ∨ b = 1)) || decide (2 ≤ a ∧ a ≤ 4 ∧ (b = 6 ∨ b = 5)) || decide (b = 6 ∧ a = 7) || decide (a = 6 ∧ b = 5) ||
        decide (a = 14 ∧ b = 1)
    | 1 => decide (8 ≤ a ∧ a ≤ 13 ∧ b = 14)
    | 2 => decide (b = 1 ∧ a ≠ 1 ∧ a < 16)
    | _ => false
  one a b || one b a

/-- Some coupling joins the two islands. -/
def coupledAny (a b : Nat) : Bool := (List.range 3).any (fun ch => coupled a b ch)

/-- The two islands can exchange data groups on the coupling: it joins them, it is not broken, and both ends are out of reset (R16). -/
def State.linkUp (s : State) (l : Link) : Bool := coupled l.src l.dst l.ch && s.up l.src && s.up l.dst && !s.isl.broken.contains l

/-- A group sent on the coupling now crosses it: no group is held on it, and neither end's clock has failed (R13, R16, R17). -/
def State.linkOpen (s : State) (src dst ch : Nat) : Bool :=
  let l : Link := { src := src, dst := dst, ch := ch }
  s.linkUp l && !s.isl.withheld.contains l && !bitOn (s.get R.AO_ISLCLK_FAIL_ISLANDS) src && !bitOn (s.get R.AO_ISLCLK_FAIL_ISLANDS) dst

/-- A coupling of the coach is broken: the coach is lost (R28). -/
def State.coachCut (s : State) (c : Nat) : Bool := s.isl.broken.any (fun l => decide (l.src = 8 + c ∨ l.dst = 8 + c))

/-- The islands a page lives in (R98): one, or the three cores for SRV and HOLD. -/
def pageIslands (page : Nat) : List Nat :=
  match pageRow? page with
  | none => []
  | some (r, k) =>
    if r.island = 16 then [2, 3, 4] else if r.island = 17 then [8 + k / 4] else if r.count = 1 then [r.island] else
      if r.island = 2 ∨ r.island = 8 then [r.island + k] else [r.island]

/-! ## Event sources and vectors -/

/-- The page whose summary is event source `k` (R98, R101). -/
def pageOfSource (k : Nat) : Option Nat :=
  match pageDir.find? (fun r => decide (r.source ≤ k ∧ k < r.source + r.count)) with
  | some r => some (r.first + (k - r.source))
  | none => none

/-- The event source of a page. -/
def sourceOfPage (page : Nat) : Nat :=
  match pageRow? page with
  | some (r, k) => r.source + k
  | none => 127

/-- The level of event source `k`: a page summary, a DMA queue source, or 0 (R101). -/
def State.source (s : State) (k : Nat) : Bool :=
  if 114 ≤ k then if k < 122 then bitOn (s.rd R.DMA_DQ_PEND).toNat (k - 114) else false
  else match pageOfSource k with
    | some p => decide ((s.rd (R.PG_EVT p)).toNat &&& (s.rd (R.PG_EVT_EN p)).toNat ≠ 0)
    | none => false

/-- The source is enabled in EVT.EN (R103). -/
def State.sourceEn (s : State) (k : Nat) : Bool := bitOn (s.rd (R.EVT_EN (k / 32))).toNat (k % 32)

/-- The route of source `k` in EVT.MAP (R104). -/
def State.route (s : State) (k : Nat) : Nat := (s.rd (R.EVT_MAP (k / 6))).toNat / 2 ^ (6 * (k % 6)) % 64

/-- The level of vector `v` (R105). -/
def State.vecLevel (s : State) (v : Nat) : Bool :=
  (List.range 122).any (fun k => s.sourceEn k && decide (s.route k % 32 = v) && s.source k)

/-- IRQ_N is driven low (R106); it is released while MGT is in reset (R65). -/
def State.irqLow (s : State) : Bool :=
  s.up islMGT && (List.range 122).any (fun k => s.sourceEn k && decide (32 ≤ s.route k) && s.source k)

/-- Vector `v`'s message falls due (R105): it is sent to the function that EVT.VEC_PF names, or kept pending while masked; it needs MSI-X enabled. -/
def State.sendVec (s : State) (v : Nat) : State :=
  let pf := if bitOn (s.rd R.EVT_VEC_PF).toNat v then 1 else 0
  let x := if pf = 1 then s.host.x1 else s.host.x0
  if !x.enabled then s
  else if x.funcMask || bitOn x.masked v then
    let x' := { x with pend := setBit x.pend v true }
    { s with host := if pf = 1 then { s.host with x1 := x' } else { s.host with x0 := x' } }
  else s.emit (.msix pf v)

/-- The function's MSI-X part. -/
def State.msixOf (s : State) (pf : Nat) : MsixPart := if pf = 1 then s.host.x1 else s.host.x0

def State.putMsix (s : State) (pf : Nat) (x : MsixPart) : State :=
  { s with host := if pf = 1 then { s.host with x1 := x } else { s.host with x0 := x } }

/-- The function's pending messages that nothing masks any more are sent (R105). -/
def State.sendPending (s : State) (pf : Nat) : State :=
  let x := s.msixOf pf
  if !x.enabled || x.funcMask then s
  else (List.range 32).foldl (fun (t : State) v =>
    let y := t.msixOf pf
    if bitOn y.pend v && !bitOn y.masked v then (t.putMsix pf { y with pend := setBit y.pend v false }).emit (.msix pf v) else t) s

/-- Messages for the vectors whose level is 1 in `s` and was 0 in `old` (R105). -/
def State.vecRises (old s : State) : State :=
  if s.up islMGT then
    (List.range 32).foldl (fun t v => if s.vecLevel v && !old.vecLevel v then t.sendVec v else t) s
  else s

/-- PG_EVT of `page` replaced; the messages that follow are sent. -/
def State.putEvt (s : State) (page new : Nat) : State :=
  let old := (s.rd (R.PG_EVT page)).toNat
  let en := (s.rd (R.PG_EVT_EN page)).toNat
  let t := s.wr (R.PG_EVT page) (BitVec.ofNat 36 new)
  if old &&& en = 0 ∧ new &&& en ≠ 0 ∧ s.sourceEn (sourceOfPage page) then State.vecRises s t else t

/-- Event `bit` of `page` occurs (R87). -/
def State.raise (s : State) (page bit : Nat) : State :=
  s.putEvt page (setBit (s.rd (R.PG_EVT page)).toNat bit true)

/-- The event occurs if the condition holds. -/
def State.raiseIf (s : State) (b : Bool) (page bit : Nat) : State := if b then s.raise page bit else s

/-- The condition of a level event (R87): PG_EVT_NOW shows it, and the latch sets while it holds. -/
def State.level (s : State) (page bit : Nat) (on : Bool) : State :=
  let t := s.wr (R.PG_EVT_NOW page) (BitVec.ofNat 36 (setBit (s.rd (R.PG_EVT_NOW page)).toNat bit on))
  if on then t.raise page bit else t

/-- PG_EVT bits in `mask` cleared, except level events whose condition holds (R87). -/
def State.clearEvt (s : State) (page mask : Nat) : State :=
  let old := (s.rd (R.PG_EVT page)).toNat
  let now := (s.rd (R.PG_EVT_NOW page)).toNat
  s.wr (R.PG_EVT page) (BitVec.ofNat 36 ((old - (old &&& mask)) ||| (old &&& mask &&& now)))

/-! ## Instants and recorder triggers -/

/-- The T108 instant of the last AXMARK, 0 when the axle does not run; the instant the model gives a happening that comes without a tick (log entry 7). -/
def State.nowT (s : State) : Nat := if s.ax.running then toT108 s.ax.mark else 0

/-- The T108 instant of the tick, stamped by RH; 0 when it cannot be taken (R446). -/
def State.instAt (s : State) (tick : Nat) : Nat := if s.ax.running && s.up islRH then toT108 (s.rhTime tick) else 0

/-- No instant can be taken: RH or the axle is not running (R446). -/
def State.noTime (s : State) : Bool := !(s.ax.running && s.up islRH)

/-- A trigger with a given T108 instant sets out to MGT; one raised before MGT is released waits in the AO queue, or is lost when that is full (R465,
R466). During a fabric service reset another island holds up to 16 (R65). -/
def State.trigAt (s : State) (island code inst : Nat) (args : List Nat) : State :=
  let t : Trigger := { island := island, code := code, noTime := s.noTime, inst := inst, gen := s.get R.GEN_IN_FORCE_GEN, args := args }
  if s.up islMGT then { s with erec := { s.erec with transit := s.erec.transit ++ [t] } }
  else if (s.erec.aoQueue.filter (fun x => x.island = island)).length < 16 then
    { s with erec := { s.erec with aoQueue := s.erec.aoQueue ++ [t] } }
  else { s with erec := { s.erec with held := kvPut s.erec.held island (kvGetD s.erec.held island 0 + 1) } }

/-- A trigger with the present instant. -/
def State.trig (s : State) (island code : Nat) (args : List Nat) : State := s.trigAt island code s.nowT args

/-! ## Fault lines -/

/-- Some cause holds the line present (R444). -/
def State.lineHeld (s : State) (line : Nat) : Bool := s.flt.causes.any (fun c => decide (c.1 = line))

/-- A cause holds the line present; AO sees the rise at FAULT_LINE_RISE (log entry 8). -/
def State.lineOn (s : State) (line cause : Nat) : State :=
  if s.flt.causes.contains (line, cause) then s else { s with flt := { s.flt with causes := s.flt.causes ++ [(line, cause)] } }

/-- The cause no longer holds the line. -/
def State.lineOff (s : State) (line cause : Nat) : State :=
  { s with flt := { s.flt with causes := s.flt.causes.filter (fun c => c ≠ (line, cause)) } }

/-- The cause holds the line exactly while the condition holds. -/
def State.lineSet (s : State) (line cause : Nat) (on : Bool) : State := if on then s.lineOn line cause else s.lineOff line cause

/-- A fault that is an occurrence holds its line for 1 µs (R444); cause 0. -/
def State.pulse (s : State) (line : Nat) : State := s.lineOn line 0

/-- The severity in force of a line: FATAL where R445 forces it, else by FLT.SEV_LO and FLT.SEV_HI. -/
def State.sev (s : State) (line : Nat) : Nat :=
  if bitOn s.flt.forcedFatal line then 3
  else if line < 18 then (s.rd R.FLT_SEV_LO).toNat / 2 ^ (2 * line) % 4
  else (s.rd R.FLT_SEV_HI).toNat / 2 ^ (2 * (line - 18)) % 4

/-- The lines present in FLT.NOW. -/
def State.present (s : State) (line : Nat) : Bool := bitOn (s.rd R.FLT_NOW).toNat line

/-- The line's latch bit is set. -/
def State.latched (s : State) (line : Nat) : Bool := bitOn (s.rd R.FLT_LATCH).toNat line

/-- A SEVERE or FATAL reaction of the line is in force (R449). -/
def State.severe (s : State) (line : Nat) : Bool := decide (2 ≤ s.sev line) && (s.present line || s.latched line)

/-- What a fault reaction stops in a coach: 0 nothing, 1 authenticated work, 2 all time service (R450, R409); a coach with a broken coupling is lost (R28). -/
def State.stopScope (s : State) (c : Nat) : Nat :=
  if s.flag R.FLT_STATUS_SEV_ALL || bitOn (s.get R.FLT_STATUS_SEV_COACH) c || s.flag (R.PG_STAT_FENCED (P.CO c)) || s.flag R.FLT_STATUS_BRAKE || s.coachCut c then 2
  else if s.flag R.FLT_STATUS_SEV_AUTH then 1 else 0

/-- CO.STATUS.SERVING of a coach, with the record of its change; the record's event bit has no stated value and is a free value (R347, R348; log entry 3). -/
def State.showServing (s : State) (c : Nat) : State :=
  let on := s.flag (R.PG_CTRL_EN (P.CO c)) && decide (s.stopScope c = 0) && s.up (8 + c)
  if s.flag (R.CO_STATUS_SERVING c) = on then s
  else
    let f := s.takeFree
    (f.2.setFlag (R.CO_STATUS_SERVING c) on).trig (8 + c) 0x70 [c, f.1, 0]

/-- SERVING of every coach. -/
def State.showServings (s : State) : State := (List.range 6).foldl (fun t c => t.showServing c) s

/-- FLT.STATUS and ALARM_N brought in line with the lines, the severities and the brake (R449, R450, R455). -/
def State.refreshFaults (s : State) : State :=
  let fatal := (List.range 36).any (fun l => decide (s.sev l = 3) && (s.present l || s.latched l))
  let all := fatal || (List.range 36).any (fun l => s.severe l && !(decide (11 ≤ l ∧ l ≤ 16)) && !(decide (l = 19 ∨ l = 20)))
  let coach := (List.range 6).foldl (fun m n => if s.severe (11 + n) then m + 2 ^ n else m) 0
  let auth := s.severe 19 || s.severe 20
  let braked := decide (s.flt.brake ≠ .off)
  let early := decide (s.boot.pins ≠ .driven)
  let alarm := braked || early || (List.range 36).any (fun l => s.latched l && decide (s.get R.FLT_CTRL_ALARM_SEV ≤ s.sev l))
  let t := (((s.setFlag R.FLT_STATUS_SEV_ALL all).set R.FLT_STATUS_SEV_COACH coach).setFlag R.FLT_STATUS_SEV_AUTH auth)
  let t := (t.setFlag R.FLT_STATUS_BRAKE braked).setFlag R.FLT_STATUS_ALARM alarm
  let t := if s.flag R.FLT_STATUS_BRAKE = braked then t else t.level P.FLT E.FLT_BRAKE braked
  let t := t.showServings
  if s.flag R.FLT_STATUS_ALARM = alarm then t else t.level P.FLT E.FLT_ALARM alarm

/-- The field of OUT.STAT that holds output `o`'s source, 0 to 3 CLK_OUT, 4 to 7 PULSE_OUT (R213). -/
def outSrc (o : Nat) : Fld := ⟨R.OUT_STAT, 4 * o, 2⟩
def outSlewing (o : Nat) : Fld := ⟨R.OUT_STAT, 4 * o + 2, 1⟩
def outDrv (o : Nat) : Fld := ⟨R.OUT_STAT, 4 * o + 3, 1⟩

/-- TIME_VALID driven; TEB.STATUS.VALID mirrors it and each change raises TEB event VALID; a fall is kept for R265's hysteresis. -/
def State.setTimeValid (s : State) (b : Bool) : State :=
  if s.boot.timeValid = b then s
  else ({ s with boot := { s.boot with timeValid := b }, teb := { s.teb with fell := s.teb.fell || !b } }.setFlag R.TEB_STATUS_VALID b).raise P.TEB E.TEB_VALID

/-- An output's source state set, and a change recorded (R190, R214). -/
def State.putSrc (s : State) (o new : Nat) : State :=
  let old := s.get (outSrc o)
  if old = new then s else (s.set (outSrc o) new).trig islRH 0x50 [o, old, new]

/-- What an output keeps when it stops. -/
def OutState.stopped (c : OutState) : OutState :=
  { c with move := 0, compMove := 0, leapMove := 0, named := false, ending := false, high := false, quiet := false, taken := 0, leapTaken := 0 }

/-- Level event BYPASS (R197). -/
def State.showBypass (s : State) : State := s.level P.OUT E.OUT_BYPASS ((List.range 4).any (fun n => decide (s.get (outSrc n) = 2)))

/-- A brake: outputs to BRAKE and driven low, TIME_VALID low; the brakes of RESET_N and of a shutdown also squelch the port and Dugil transmitters (R208,
R451 to R453). -/
def State.brakeOn (s : State) (b : Brake) : State :=
  let t := (List.range 8).foldl (fun t o => ((t.putSrc o 3).set (outSlewing o) 0).putOut o (t.outOf o).stopped) s
  let t := { t with flt := { t.flt with brake := b, releaseAsked := false } }
  let t := t.setTimeValid false
  let t := if b = .fault then t else { t with boot := { t.boot with txOn := 0, dugOn := false } }
  (t.showBypass.bump R.FLT_BRAKES_COUNT).refreshFaults

end Sys2Proof.Machine
end

