-- ==== Sys2Proof/Machine/Operands.lean ====
section
/-! DEFINITION.
The forms of a register access: dead pages, access errors, the expert region, running commands, staged words of multi-word registers, and shadows (R82 to
R96).
-/
namespace Sys2Proof.Machine
open Sys2Proof

/-- The island is dead to the register fabric: in reset, its clock failed, or its register coupling broken (R86). -/
def State.islandDead (s : State) (i : Nat) : Bool :=
  !s.up i || bitOn (s.get R.AO_ISLCLK_FAIL_ISLANDS) i || s.isl.broken.any (fun l => decide (l.ch = 2 ∧ ((l.src = i ∧ l.dst = 1) ∨ (l.src = 1 ∧ l.dst = i))))

/-- The page is dead: every island it lives in is dead (R86). -/
def State.pageDead (s : State) (page : Nat) : Bool := (pageIslands page).all (fun i => s.islandDead i)

/-- The stage is HITCHED (R54). -/
def State.inHitched (s : State) : Bool := s.up islMGT && decide (s.get R.BOOT_STAGE_STAGE = 1)

/-- A pin-taking instruction is in force: only while RESET_N is low or in HITCHED; loaded at another time it acts as BYPASS (R52). -/
def State.tapInForce (s : State) : Bool := s.boot.tap.pin?.isSome && (s.boot.resetLow || s.inHitched)

/-- MGT serves accesses: it is out of reset, its clock runs, and no island fault has taken it (R13, R28, R54, R65). -/
def State.mgtServes (s : State) : Bool := s.up islMGT && !bitOn (s.get R.AO_ISLCLK_FAIL_ISLANDS) islMGT && !s.isl.mgtLost

/-- A master can reach the register fabric: SPI from HITCHED on, while no boundary-scan instruction holds its pins; a PCIe function from ROLLING on, with PERST_N
high and the link up (R28, R52, R54, R62, R66). -/
def State.hostUp (s : State) (m : Master) : Bool :=
  s.mgtServes && (match m with
    | .spi => !s.tapInForce
    | _ => !s.inHitched && !s.boot.perstLow && s.flag R.PCI_LINK_UP)

/-- ACCESS_ERR (R99, R100): counted, and shown if none has been shown since GLB PG_EVT bit 0 was last cleared. -/
def State.accessErr (s : State) (m : Master) (cause : Nat) (write : Bool) (slot : Nat) : State :=
  let t := s.bump R.GLB_ACCESS_ERR_COUNT_COUNT
  let t := if bitOn (s.rd (R.PG_EVT P.GLB)).toNat E.GLB_ACCESS_ERR then t else
    t.wr R.GLB_ACCESS_ERR (BitVec.ofNat 36 (cause * 2 ^ 32 + masterCode m * 2 ^ 30 + (if write then 2 ^ 23 else 0) + slot % 2 ^ 23))
  t.raise P.GLB E.GLB_ACCESS_ERR

/-- A write to a running WC register: ignored, counted and recorded (R9, R99, R100). -/
def State.wcReject (s : State) (m : Master) (slot : Nat) : State :=
  let t := s.bump R.GLB_WC_REJECT_COUNT
  let t := t.wr R.GLB_WC_REJECT_LAST (BitVec.ofNat 36 (masterCode m * 2 ^ 30 + slot % 2 ^ 23))
  t.raise P.GLB E.GLB_WC_REJECT

/-- The slot lies in the expert region, from offset 0x400 on (spec/04). -/
def expertSlot (slot : Nat) : Bool := decide (128 ≤ slot % 512)

/-- An expert write of the master takes effect (R89): XEN of the page and the master's window open; an image entry needs neither (R71). -/
def State.expertOk (s : State) (m : Master) (page : Nat) : Bool := s.boot.loading || s.flag (R.PG_CTRL_XEN page) && decide ((s.mst m).window = 2)

/-- A master's write to a defined slot has the effect `k`, or is refused as DEAD or EXPERT; without a host path nothing happens (R54, R86, R89). -/
def State.hostWrite (s : State) (m : Master) (slot : Nat) (k : State → State) : State :=
  if !s.hostUp m then s
  else if s.pageDead (slot / 512) then s.accessErr m 4 true slot
  else if expertSlot slot && !s.expertOk m (slot / 512) then s.accessErr m 3 true slot
  else k s

/-- A command through a WC register: as a write, and ignored while a command of the register runs, STATUS 1 (R9). -/
def State.hostCmd (s : State) (m : Master) (status : Fld) (k : State → State) : State :=
  s.hostWrite m status.slot (fun s => if s.get status = 1 then s.wcReject m status.slot else k s)

/-- The master's open expert window closes (R91). -/
def State.closeWindow (s : State) (m : Master) : State :=
  if (s.mst m).window = 2 then (s.putMst m { s.mst m with window := 0 }).raise P.GLB E.GLB_EXPERT_CLOSE else s

/-- The write is refused with cause WORLD. -/
def State.worldErr (s : State) (m : Master) (slot : Nat) : State := s.accessErr m 5 true slot

/-! ## Shadowed registers -/

/-- The shadowed bits of a slot (R9). -/
def rwsMask (a : Nat) : Nat :=
  if a % 512 < 8 then 0
  else match pageRow? (a / 512) with
    | none => 0
    | some (r, _) => match r.reg? (a % 512) with
      | some d => d.rws
      | none => 0

/-- The shadowed bits of the slots on the pages `p` take their values from `src` (R97). -/
def mergeRws (regs src : Store) (p : Nat → Bool) : Store :=
  (src ++ regs).foldl (fun (m : Store) (e : Nat × Word) =>
    let k := rwsMask e.1
    if k = 0 || !p (e.1 / 512) then m
    else m.write e.1 ((regs.read e.1 &&& ~~~(BitVec.ofNat 36 k)) ||| (src.read e.1 &&& BitVec.ofNat 36 k))) regs

/-! ## Multi-word registers (R3, R94) -/

/-- The words the master has staged for a multi-word register whose lowest slot is `a`; a word not staged keeps its value in `src`. -/
def State.stagedWord (s : State) (m : Master) (src : Store) (a : Nat) : Nat :=
  match kvGet (s.mst m).staged a with
  | some v => v.toNat
  | none => (src.read a).toNat

/-- The master's staging set emptied, as each commit leaves it (R94). -/
def State.clearStaged (s : State) (m : Master) : State := s.putMst m { s.mst m with staged := [] }

/-- A word written to a slot below the highest one is staged for its master (R3, R94). -/
def State.stage (s : State) (m : Master) (a : Nat) (v : Word) : State :=
  s.putMst m { s.mst m with staged := kvPut (s.mst m).staged a v }

/-- The S72 value that a write of the low slot commits: the master's staged high word, or the one in force (R4, R94). -/
def State.commitS72 (s : State) (m : Master) (a : Nat) (low : Word) : Int :=
  toSigned 72 (s.stagedWord m s.regs a * 2 ^ 36 + low.toNat)

/-- The low slot of an RW S72 register is written: the register takes the staged high word and the low word. -/
def State.writeS72 (s : State) (m : Master) (a : Nat) (low : Word) : State :=
  (s.wrS a (s.commitS72 m a low)).clearStaged m

end Sys2Proof.Machine
end

