-- ==== Sys2Proof/Machine/Cores.lean ====
section
/-! DEFINITION.
The three cores' copies of servo, estimator and SRV and HOLD pages: in lockstep until a fault, a coupling or a missed commit parts them, and equal again once a
state copy makes them so (R86, R129, R133, R172).
-/
namespace Sys2Proof.Machine
open Sys2Proof

/-- The page lives in each core: SRV and HOLD. -/
def corePage (p : Nat) : Bool := decide (p = P.SRV ∨ p = P.HOLD)

/-- The entries of SRV and HOLD. -/
def coreRegs (r : Store) : Store := r.filter (fun e => corePage (e.1 / 512))

/-- The store with the SRV and HOLD words of `img`. -/
def putCoreRegs (r img : Store) : Store :=
  (img ++ r).foldl (fun (m : Store) (e : Nat × Word) => if corePage (e.1 / 512) then m.write e.1 (img.read e.1) else m) r

/-- The copy that the state shows. -/
def State.mainImg (s : State) : CoreImg := { srv := s.srv, hold := s.hold, regs := coreRegs s.regs }

/-- The copy of core `k`. -/
def State.imgOf (s : State) (k : Nat) : CoreImg := (kvGet s.cores.apart k).getD s.mainImg

/-- The state with a copy in place of the one it shows. -/
def State.withImg (s : State) (i : CoreImg) : State := { s with srv := i.srv, hold := i.hold, regs := putCoreRegs s.regs i.regs }

/-- The state as core `k` sees it. -/
def State.asCore (s : State) (k : Nat) : State :=
  match kvGet s.cores.apart k with
  | none => s
  | some i => s.withImg i

/-- Core `d`'s copy is shown, and each core `k` has the copy `f k`. -/
def State.setImgs (s : State) (d : Nat) (f : Nat → CoreImg) : State :=
  { s.withImg (f d) with
    cores := { s.cores with now := d, apart := ((List.range 3).filter (fun k => decide (f k ≠ f d))).map (fun k => (k, f k)) } }

/-- Core `k`'s copy replaced. -/
def State.putImg (s : State) (k : Nat) (i : CoreImg) : State := s.setImgs s.cores.now (fun j => if j = k then i else s.imgOf j)

/-- Core `d`'s copy is the one shown. -/
def State.showCore (s : State) (d : Nat) : State := if s.cores.now = d then s else s.setImgs d s.imgOf

/-- What the cores do, each on its own copy; what leaves them is what the core shown sends. -/
def State.perCore (s : State) (m : State → State) : State :=
  match s.cores.apart with
  | [] => m s
  | l =>
    let t := m s
    t.setImgs s.cores.now (fun k => match kvGet l k with
      | none => t.mainImg
      | some i => (m (s.withImg i)).mainImg)

/-- What a host write does in every core that is not dead (R86). -/
def State.perLive (s : State) (m : State → State) : State :=
  if (List.range 3).all (fun k => !s.islandDead (2 + k)) then s.perCore m
  else (m s).setImgs s.cores.now (fun k => if s.islandDead (2 + k) then s.imgOf k else (m (s.asCore k)).mainImg)

/-- The core that answers a read of SRV or HOLD: the lowest that is IN and not dead, else the lowest that is not dead (R86). -/
def State.reader (s : State) : Nat :=
  let live := (List.range 3).filter (fun k => !s.islandDead (2 + k))
  ((live.filter (fun k => decide (s.get (R.TCORE_STATE_STATE k) = 0 ∧ s.get R.VOTE_STATUS_MODE ≠ 3))).head?).getD (live.headD 0)

/-- A feed sample in a core's copy; a host sample takes the place of one not yet processed (R174). -/
def CoreImg.take (i : CoreImg) (host : Bool) (f : FeedSample) : CoreImg :=
  { i with srv := { i.srv with feed := if host then [f] else i.srv.feed ++ [f] } }

/-- RH sends one feed sample to the three cores, over a coupling each: one that withholds ACK keeps it in RH, a broken one loses it (R16, R17, R129). -/
def State.sendFeed (s : State) (f : FeedSample) : State :=
  let host := s.flag R.SRV_FEED_CTRL_HOST
  let shut (k : Nat) : Bool := !s.linkOpen 6 (2 + k) 0
  let waits (k : Nat) : Bool := s.isl.withheld.contains (Link.mk 6 (2 + k) 0) || bitOn (s.get R.AO_ISLCLK_FAIL_ISLANDS) (2 + k)
  if (List.range 3).all (fun k => !shut k) then s.perCore (fun t => { t with srv := (t.mainImg.take host f).srv })
  else
    let late := ((List.range 3).filter waits).foldl (fun m k => kvPut m k (kvGetD m k [] ++ [f])) s.cores.held
    { s with cores := { s.cores with held := late } }.setImgs s.cores.now (fun k => if shut k then s.imgOf k else (s.imgOf k).take host f)

/-- The samples that a core's coupling has held back reach it. -/
def State.freeFeed (s : State) (k : Nat) : State :=
  let t := s.putImg k ((kvGetD s.cores.held k []).foldl (fun i f => i.take (s.flag R.SRV_FEED_CTRL_HOST) f) (s.imgOf k))
  { t with cores := { t.cores with held := kvDel t.cores.held k } }

/-- A core's copy as after reset. -/
def CoreImg.init : CoreImg := { srv := .init, hold := .init, regs := [] }

end Sys2Proof.Machine
end

