-- ==== Sys2Proof/Machine/Faults.lean ====
section
/-! DEFINITION.
The fault collector: latching and ordering, reactions, the brake and its release, severities, host lines and fault injection (R444 to R461).
-/
namespace Sys2Proof.Machine
open Sys2Proof

/-- The lines of a mask in the FIRST order: highest severity first, then lowest line number (R447). -/
def State.firstOrder (s : State) (lines : Nat) : List Nat :=
  [3, 2, 1, 0].flatMap (fun sv => (List.range 36).filter (fun l => bitOn lines l && decide (s.sev l = sv)))

/-- The three words of FLT.FIRST (R447, R460). -/
def firstWords (line sev inst : Nat) (noTime : Bool) : List Word :=
  let sec := inst / 2 ^ 60
  let ns := inst / 2 ^ 30 % 2 ^ 30
  let frac := inst % 2 ^ 30
  [BitVec.ofNat 36 (2 ^ 35 + (if noTime then 2 ^ 34 else 0) + sev * 2 ^ 32 + line * 2 ^ 24 + sec / 2 ^ 24 % 2 ^ 24),
   BitVec.ofNat 36 (sec % 2 ^ 24 * 2 ^ 12 + ns / 2 ^ 18), BitVec.ofNat 36 (ns % 2 ^ 18 * 2 ^ 18 + frac / 2 ^ 12)]

/-- FLT.FIRST set to three words. -/
def State.wrFirst (s : State) (w : List Word) : State :=
  ((s.wr R.FLT_FIRST (w.getD 0 0)).wr R.FLT_FIRST_MID (w.getD 1 0)).wr R.FLT_FIRST_LOW (w.getD 2 0)

/-- AO latches one line (R446, R447): LATCH, NOW, the rise instant and count, FIRST or MERGED, the event and the FAULT record; the record of line 29 names the
islands whose clocks have failed, in ARG4 (R13; log entry 8). -/
def State.latchLine (s : State) (line inst : Nat) : State :=
  let nt := s.noTime
  let sv := s.sev line
  let first := !s.flag R.FLT_FIRST_VALID
  let s := s.wr R.FLT_LATCH (BitVec.ofNat 36 (setBit (s.rd R.FLT_LATCH).toNat line true))
  let s := s.wr R.FLT_NOW (BitVec.ofNat 36 (setBit (s.rd R.FLT_NOW).toNat line true))
  let s := { s with flt := { s.flt with rises := kvPut s.flt.rises line (min (kvGetD s.flt.rises line 0 + 1) 65535),
                                        setT := kvPut s.flt.setT line inst, noTime := setBit s.flt.noTime line nt } }
  let s := if first then s.wrFirst (firstWords line sv inst nt) else (s.bump R.FLT_MERGED_COUNT).raise P.FLT E.FLT_MERGED
  let s := s.raise P.FLT E.FLT_LATCH
  s.trigAt islAO 0x10 inst ([line, sv, if first then 1 else 0, s.get R.FLT_MERGED_COUNT] ++ if line = 29 then [s.get R.AO_ISLCLK_FAIL_ISLANDS] else [])

/-- The brake of a FATAL line (R451, R452). -/
def State.fatalBrake (s : State) (lines : List Nat) : State :=
  let f := lines.filter (fun l => decide (s.sev l = 3))
  if f.isEmpty then s
  else
    let s := { s with flt := { s.flt with swStopped := s.flt.swStopped || f.contains 17 || f.contains 18 } }
    if s.flt.brake = .off then s.brakeOn .fault else s

/-- FAULT_LINE_FALL (R446, R449): the occurrences on the line end; a line that no cause holds any more falls. -/
def execFaultLineFall (line tick : Nat) (s : State) : Host.Outcome State Fault Refusal :=
  withUnit line 36 (
    let s := s.lineOff line 0
    if s.present line && !s.lineHeld line then
      let inst := s.instAt tick
      let sv := s.sev line
      let s := s.wr R.FLT_NOW (BitVec.ofNat 36 (setBit (s.rd R.FLT_NOW).toNat line false))
      let s := { s with flt := { s.flt with clrT := kvPut s.flt.clrT line inst, noTime := setBit s.flt.noTime line (bitOn s.flt.noTime line || s.noTime),
                                            forcedFatal := if line = 33 then setBit s.flt.forcedFatal 33 false else s.flt.forcedFatal } }
      (s.trigAt islAO 0x11 inst ([line, sv] ++ (t108Words (kvGetD s.flt.setT line 0)).map BitVec.toNat)).refreshFaults
    else s)

/-- FLT_ACK (R448): FIRST.VALID and MERGED to 0; FLT.LATCH stays. -/
def execFltAck (m : Master) (s : State) : Host.Outcome State Fault Refusal :=
  .next (s.hostCmd m R.FLT_CMD_STATUS fun s =>
    (((s.set R.FLT_FIRST_VALID 0).set R.FLT_MERGED_COUNT 0).set R.FLT_CMD_STATUS 2))

/-- The status with which FLT.CMD RELEASE completes before its mark, if any: the first matching row of R454. -/
def State.releaseStatus (s : State) : Option Nat :=
  if s.flt.brake = .off then some 3
  else if (List.range 36).any (fun l => decide (s.sev l = 3) && (s.present l || s.latched l)) then some 4
  else if s.get R.VOTE_STATUS_MODE = 3 then some 5
  else if s.flt.brake ≠ .fault then some 6
  else none

/-- FLT_RELEASE (R454): refused by the table, or accepted for the next AXMARK. -/
def execFltRelease (m : Master) (s : State) : Host.Outcome State Fault Refusal :=
  .next (s.hostCmd m R.FLT_CMD_STATUS fun s =>
    match s.releaseStatus with
    | some st => s.set R.FLT_CMD_STATUS st
    | none => { s with flt := { s.flt with releaseAsked := true } }.set R.FLT_CMD_STATUS 1)

/-- FLT_LATCH_CLEAR (R448): a 1 clears the latch bit of a line that is not present. -/
def execFltLatchClear (m : Master) (bits : Word) (s : State) : Host.Outcome State Fault Refusal :=
  .next (s.hostWrite m R.FLT_LATCH fun s =>
    (s.wr R.FLT_LATCH (s.rd R.FLT_LATCH &&& ~~~(bits &&& ~~~(s.rd R.FLT_NOW)))).refreshFaults)

/-- FLT_SOFT_WRITE (R457): line 34 is present while RAISE is 1. -/
def execFltSoftWrite (m : Master) (v : Word) (s : State) : Host.Outcome State Fault Refusal :=
  .next (s.hostWrite m R.FLT_SOFT fun s =>
    let r := R.FLT_SOFT_RAISE.of v
    (s.set R.FLT_SOFT_RAISE r).lineSet 34 1 (decide (r = 1)))

/-- WDOG_KICK (R458): the period restarts and line 35 falls. -/
def execWdogKick (m : Master) (s : State) : Host.Outcome State Fault Refusal :=
  .next (s.hostWrite m R.FLT_WDOG fun s => s.lineOff 35 1)

/-- WDOG_CFG_WRITE (R458): PERIOD changes, and the period restarts. -/
def execWdogCfgWrite (m : Master) (v : Word) (s : State) : Host.Outcome State Fault Refusal :=
  .next (s.hostWrite m R.FLT_WDOG_CFG fun s => s.set R.FLT_WDOG_CFG_PERIOD (R.FLT_WDOG_CFG_PERIOD.of v))

/-- WDOG_EXPIRY (R458): `ms` milliseconds have passed since the period started; with PERIOD not 0 and passed, line 35 rises. -/
def execWdogExpiry (ms : Nat) (s : State) : Host.Outcome State Fault Refusal :=
  .next (if s.get R.FLT_WDOG_CFG_PERIOD = 0 ∨ ms < s.get R.FLT_WDOG_CFG_PERIOD then s else s.lineOn 35 1)

/-! ## Injection (R459) -/

/-- The injection completes with a status (R459). -/
def State.injEnd (s : State) (st : Nat) : State :=
  let s := ({ s with flt := { s.flt with inj := none } }.set R.FLT_INJ_STATUS st).raise P.FLT E.FLT_INJ_DONE
  s.trig islAO 0x12 [(s.rd R.FLT_INJ).toNat]

/-- A proving run has the checker under test: PROVE.STATUS.KIND 1 (CHECK) and UNIT naming it (R415, R421; log entry 9). -/
def State.provingChecker (s : State) (c : Nat) : Bool := decide (s.get R.PROVE_STATUS_KIND = 1) && decide (s.get R.PROVE_STATUS_UNIT = c)

/-- The unit that an injection takes: below `lim` the one named; R459 gives the others no meaning, and the unit is then a free one of the `lim` (log entry 9). -/
def State.injUnit (s : State) (unit lim : Nat) : Nat × State :=
  if unit < lim then (unit, s) else let f := s.takeFree; (f.1 % lim, f.2)

/-- An injection on one of `lim` units is armed, or completes PROVING or STATE (R459). -/
def State.inject (s : State) (m : Master) (bad : Bool) (lim : Nat) (i : Injection) : State :=
  s.hostCmd m R.FLT_INJ_STATUS fun s =>
    if s.provingChecker i.checker then s.injEnd 4
    else if bad || decide (s.get R.BOOT_STAGE_STAGE < 2) then s.injEnd 5
    else
      let u := s.injUnit i.unit lim
      { u.2 with flt := { u.2.flt with inj := some { i with unit := u.1 } } }.set R.FLT_INJ_STATUS 1

/-- A COUNT of 0 acts as 1, one above the maximum as the maximum (R459). -/
def injCount (n hi : Nat) : Nat := clampNat 1 hi n

/-- INJ_SRAM_ECC (R459). -/
def execInjSramEcc (m : Master) (unit : Nat) (quiet : Bool) (s : State) : Host.Outcome State Fault Refusal :=
  .next (s.inject m false 2 { checker := 1, unit := unit, to_ := 0, left := 1, quiet := quiet, flagged := false })

/-- INJ_COUPLE (R459): islands without a coupling between them complete STATE. -/
def execInjCouple (m : Master) (src dst count : Nat) (quiet : Bool) (s : State) : Host.Outcome State Fault Refusal :=
  .next (s.inject m (!coupledAny src dst) 16 { checker := 2, unit := src, to_ := dst, left := injCount count 3, quiet := quiet, flagged := false })

/-- INJ_DRAM_CRC (R459). -/
def execInjDramCrc (m : Master) (count : Nat) (quiet : Bool) (s : State) : Host.Outcome State Fault Refusal :=
  .next (s.inject m false 1 { checker := 3, unit := 0, to_ := 0, left := injCount count 5, quiet := quiet, flagged := false })

/-- INJ_VOTE (R459): in PAIR or FAILED it completes STATE; the core's signature is corrupted at the next update. -/
def execInjVote (m : Master) (core : Nat) (quiet : Bool) (s : State) : Host.Outcome State Fault Refusal :=
  .next (s.inject m (decide (s.get R.VOTE_STATUS_MODE ≠ 1)) 3
    { checker := 4, unit := core, to_ := 0, left := 1, quiet := quiet, flagged := false })

/-- INJ_NVM_CRC (R459): the read-back of the next record is corrupted. -/
def execInjNvmCrc (m : Master) (quiet : Bool) (s : State) : Host.Outcome State Fault Refusal :=
  .next (s.inject m false 1 { checker := 5, unit := 0, to_ := 0, left := 1, quiet := quiet, flagged := false })

/-- The line of a checker's block (R444, R459). -/
def injLine (i : Injection) : Nat :=
  match i.checker with
  | 1 => 17
  | 2 => 30
  | 3 => 18
  | 4 => 2 + i.unit
  | _ => 22

/-- INJ_DONE (R459): the injection held completes DETECTED once the checker has flagged its transfer; `expired`: 10 ms have passed since an inverted transfer that it
has not flagged, and the injection completes MISSED, with the line of the checker's block even in QUIET. -/
def execInjDone (expired : Bool) (s : State) : Host.Outcome State Fault Refusal :=
  .next (
    match s.flt.inj with
    | none => s
    | some i =>
      if i.flagged then (s.bump R.FLT_INJ_DETECT_COUNT).injEnd 2
      else if expired then (s.pulse (injLine i)).injEnd 3
      else s)

end Sys2Proof.Machine
end

