-- ==== Sys2Proof/Machine/Nvm.lean ====
section
/-! DEFINITION.
The nonvolatile memory: areas, sectors and wear, records and their states, CRC-32 (R67 to R69, R81).
-/
namespace Sys2Proof.Machine
open Sys2Proof

/-! ## CRC-32 (IEEE 802.3) over words (R68) -/

/-- One bit of the reflected CRC-32 register. -/
def crcBit (c : Nat) : Nat := if c % 2 = 1 then c / 2 ^^^ 0xEDB88320 else c / 2

/-- One byte into the CRC-32 register. -/
def crcByte (c b : Nat) : Nat :=
  crcBit (crcBit (crcBit (crcBit (crcBit (crcBit (crcBit (crcBit (c ^^^ b))))))))

/-- One word as five bytes, most significant first, the top four bits of the first zero (R68). -/
def crcWord (c : Nat) (w : Word) : Nat :=
  let n := w.toNat
  crcByte (crcByte (crcByte (crcByte (crcByte c (n / 2 ^ 32)) (n / 2 ^ 24 % 256)) (n / 2 ^ 16 % 256)) (n / 2 ^ 8 % 256)) (n % 256)

/-- IEEE 802.3 CRC-32 over words. -/
def crc32 (ws : List Word) : Nat := ws.foldl crcWord 0xFFFFFFFF ^^^ 0xFFFFFFFF

/-! ## Areas (R67) -/

/-- A sector holds 16,384 words (R81). -/
abbrev sectorWords : Nat := 16384

/-- An area by its code. -/
def areaOf (n : Nat) : NvArea :=
  match n with
  | 0 => .journal
  | 1 => .keyStore
  | 2 => .lifeCycle
  | 3 => .startSave
  | _ => .holdover

/-- The sectors of an area (R67). -/
def NvArea.sectors (a : NvArea) : Nat :=
  match a with
  | .journal => 64
  | _ => 8

/-- The first sector of an area, the areas taken in the order of R67 (DEDUCED, log entry 10). -/
def NvArea.first (a : NvArea) : Nat :=
  match a with
  | .journal => 256
  | .keyStore => 320
  | .lifeCycle => 328
  | .startSave => 336
  | .holdover => 344

/-- The record types of an area (R69). -/
def NvArea.types (a : NvArea) : List Nat :=
  match a with
  | .journal => [0x20]
  | .keyStore => [0x02]
  | .lifeCycle => [0x01]
  | .startSave => [0x31, 0x32, 0x33]
  | .holdover => [0x30]

def State.ringOf (s : State) (a : NvArea) : NvRing :=
  match a with
  | .journal => s.nvm.journal
  | .keyStore => s.nvm.keyStore
  | .lifeCycle => s.nvm.lifeCycle
  | .startSave => s.nvm.startSave
  | .holdover => s.nvm.holdover

def State.putRing (s : State) (a : NvArea) (r : NvRing) : State :=
  match a with
  | .journal => { s with nvm := { s.nvm with journal := r } }
  | .keyStore => { s with nvm := { s.nvm with keyStore := r } }
  | .lifeCycle => { s with nvm := { s.nvm with lifeCycle := r } }
  | .startSave => { s with nvm := { s.nvm with startSave := r } }
  | .holdover => { s with nvm := { s.nvm with holdover := r } }

/-- The committed records of an area, oldest first (R69). -/
def State.committed (s : State) (a : NvArea) : List NvRec := (s.ringOf a).recs.filter (fun r => decide (r.state = .committed))

/-- The newest committed record of an area whose type is in `types`. -/
def State.newest (s : State) (a : NvArea) (types : List Nat) : Option NvRec :=
  ((s.committed a).filter (fun r => types.contains r.type)).getLast?

/-- NVM.MAX_ERASE and the WEAR condition from the wear table (R81). -/
def State.showWear (s : State) : State :=
  let top := s.nvm.wear.foldl (fun m p => if m.2 < p.2 then p else m) (0, 0)
  let t := (s.set R.NVM_MAX_ERASE_SECTOR top.1).set R.NVM_MAX_ERASE_COUNT (min top.2 134217727)
  let on := decide (90000 ≤ top.2)
  (t.setFlag R.NVM_STATUS_WEAR on).level P.NVM E.NVM_WEAR on

/-- The wear table takes an erase of the sector, before the erase starts; NVM.ERASES counts it (R81). -/
def State.wearErase (s : State) (sector : Nat) : State :=
  ({ s with nvm := { s.nvm with wear := kvPut s.nvm.wear sector (kvGetD s.nvm.wear sector 0 + 1) } }.bump R.NVM_ERASES_COUNT).showWear

/-- A sector of a record area is erased: its records are gone. -/
def State.eraseAreaSector (s : State) (a : NvArea) (k : Nat) : State :=
  let r := s.ringOf a
  (s.putRing a { r with recs := r.recs.filter (fun x => x.at_ / sectorWords ≠ k) }).wearErase (a.first + k)

/-- The sector in use cannot hold a record of `n` words: the next sector is erased and used (R469; the same in the other areas, log entry 10). -/
def State.roomFor (s : State) (a : NvArea) (n : Nat) : State :=
  let r := s.ringOf a
  let k := r.next / sectorWords
  if r.next % sectorWords ≠ 0 ∧ r.next + n ≤ (k + 1) * sectorWords then s
  else
    let k' := if r.next % sectorWords = 0 then k % a.sectors else (k + 1) % a.sectors
    let t := if r.recs.any (fun x => decide (x.at_ / sectorWords = k')) then s.eraseAreaSector a k' else s
    t.putRing a { t.ringOf a with next := k' * sectorWords }

/-- One record put down in its area with a given state; `time`: the scale at writing, that of the last AXMARK where the command has no tick (R68; log entry 7). -/
def State.putRec (s : State) (a : NvArea) (type : Nat) (payload : List Word) (st : RecState) (time : Nat := s.nowT) : State :=
  let n := payload.length + 7
  let s := s.roomFor a n
  let r := s.ringOf a
  let seq := match r.recs.getLast? with
    | some x => (x.seq + 1) % 2 ^ 36
    | none => 1
  s.putRing a { recs := r.recs ++ [{ at_ := r.next, type := type, seq := seq, time := time, payload := payload, state := st }],
                next := r.next + n }

/-- A read-back fails: the record stays without its commit word, the failure is counted and line 22 rises (R69, R81, R444). -/
def State.writeFail (s : State) (a : NvArea) (type : Nat) (payload : List Word) (time : Nat := s.nowT) : State :=
  (((s.putRec a type payload .uncommitted time).bump R.NVM_WRITE_FAIL_COUNT).raise P.NVM E.NVM_WRITE_FAIL).pulse 22

/-- An injection of checker `c` that waits for its transfer (R459). -/
def State.injWaits (s : State) (c : Nat) : Option Injection :=
  match s.flt.inj with
  | some i => if i.checker = c && !i.flagged then some i else none
  | none => none

/-- The checker has flagged the inverted transfer. -/
def State.injFlag (s : State) : State := { s with flt := { s.flt with inj := s.flt.inj.map (fun i => { i with flagged := true }) } }

/-- The controller writes a record and reads it back; with a match it writes the commit word (R69).  An injected CRC fault that is not QUIET makes the
first read-back fail and the record is written again after it (R459).  The second component says whether the record is committed. -/
def State.nvWrite (s : State) (a : NvArea) (type : Nat) (payload : List Word) (ok : Bool) (time : Nat := s.nowT) : State × Bool :=
  let s := match s.injWaits 5 with
    | some i => (if i.quiet then s else s.writeFail a type payload time).injFlag
    | none => s
  if ok then ((s.putRec a type payload .committed time).bump R.NVM_RECORDS_COUNT, true)
  else (s.writeFail a type payload time, false)

/-- A record the device itself writes; its read-back matches but for an injection (log entry 10). -/
def State.nvPut (s : State) (a : NvArea) (type : Nat) (payload : List Word) (time : Nat := s.nowT) : State := (s.nvWrite a type payload true time).1

/-- The erased word. -/
abbrev erased : Word := BitVec.ofNat 36 0xFFFFFFFFF

/-- A sector of a bank is erased. -/
def eraseBankSector (b : List Word) (k : Nat) : List Word :=
  (b.zipIdx).map (fun p => if p.2 / sectorWords = k then erased else p.1)

/-- NVM_RECORD_WRITE (R68, R69, R81): a record of one of the area's types, which fits a sector, is written while AO runs. -/
def execNvmRecordWrite (w : NvWrite) (s : State) : Host.Outcome State Fault Refusal :=
  withUnit w.area 5 (
    if s.boot.pos ≠ .off ∧ (areaOf w.area).types.contains w.type = true ∧ w.payload.length + 7 ≤ sectorWords then
      (s.nvWrite (areaOf w.area) w.type w.payload w.ok (s.instAt w.tick)).1
    else s)

/-- NVM_SECTOR_ERASE (R81): the wear table counts the erase, and the sector's words read erased. -/
def execNvmSectorErase (sector : Nat) (s : State) : Host.Outcome State Fault Refusal :=
  withUnit sector 512 (
    if s.boot.pos = .off then s
    else if sector < 128 then { s with nvm := { s.nvm with bankA := eraseBankSector s.nvm.bankA sector } }.wearErase sector
    else if sector < 256 then { s with nvm := { s.nvm with bankB := eraseBankSector s.nvm.bankB (sector - 128) } }.wearErase sector
    else if sector < 320 then s.eraseAreaSector .journal (sector - 256)
    else if sector < 328 then s.eraseAreaSector .keyStore (sector - 320)
    else if sector < 336 then s.eraseAreaSector .lifeCycle (sector - 328)
    else if sector < 344 then s.eraseAreaSector .startSave (sector - 336)
    else if sector < 352 then s.eraseAreaSector .holdover (sector - 344)
    else s.wearErase sector)

end Sys2Proof.Machine
end

