-- ==== Sys2Proof/Machine/Axle.lean ====
section
/-! DEFINITION.
Islands, couplings and the axle stream (R12 to R23), and the island clock monitor (R13, R462).
-/
namespace Sys2Proof.Machine
open Sys2Proof

/-! ## Island clocks -/

/-- The clock of a gear in kHz (R287). -/
def gearKhz (g : Nat) : Nat :=
  match g with
  | 0 => 312500
  | 1 => 625000
  | _ => 1250000

/-- The nominal clock of an island in kHz (R12); a coach runs at the gear in force. -/
def State.nominalKhz (s : State) (island : Nat) : Nat :=
  match island with
  | 0 => 32000
  | 1 => 500000
  | 2 => 312500
  | 3 => 312500
  | 4 => 312500
  | 5 => 312500
  | 6 => 625000
  | 7 => 800000
  | 14 => 1250000
  | 15 => 400000
  | _ => gearKhz (s.get (R.CO_GEAR_NOW_GEAR (island - 8)))

/-- The clock deviates from nominal by more than 5 % once the count is corrected by the AO oscillator's deviation (R13, R462), or has lost lock. -/
def clockBad (r : ClockReading) (nominal : Nat) (dev : Int) : Bool :=
  r.unlocked || decide (((r.khz : Int) * (10000 + dev) - nominal * 10000).natAbs > 500 * nominal)

/-- One island's clock judged: a failure sets its bit, counts and raises ISLCLK; a good clock clears the bit once the island has been reset. -/
def State.checkClock (s : State) (dev : Int) (island : Nat) (r : ClockReading) : State :=
  let s := { s with isl := { s.isl with khz := kvPut s.isl.khz island r.khz } }
  let mask := s.get R.AO_ISLCLK_FAIL_ISLANDS
  if island = 0 ∨ s.up island = false then s
  else if clockBad r (s.nominalKhz island) dev then
    if bitOn mask island then s
    else
      let s := { s with isl := { s.isl with clkReset := setBit s.isl.clkReset island false } }
      ((s.set R.AO_ISLCLK_FAIL_ISLANDS (setBit mask island true)).bump R.AO_ISLCLK_EVENTS_COUNT).raise P.AO E.AO_ISLCLK
  else if bitOn mask island && bitOn s.isl.clkReset island then s.set R.AO_ISLCLK_FAIL_ISLANDS (setBit mask island false)
  else s

/-- ISLAND_CLOCK_CHECK (R13, R462): the AO oscillator's deviation and each island clock are judged; lines 0 and 29 follow.  PWR.VIN takes the newest of AO's
measurements of VIN (R80; log entry 22). -/
def execIslandClockCheck (oscDev : Int) (readings : List ClockReading) (mv : Nat) (s : State) : Host.Outcome State Fault Refusal :=
  .next (
    if s.boot.pos = .off then s
    else
      let bad := decide (1000 < oscDev.natAbs)
      let s := s.set R.PWR_VIN_MV (min mv 65535)
      let s := s.setS R.AO_OSC_DEV_DEV (clampInt (-32768) 32767 oscDev)
      let s := (s.setFlag R.AO_STATUS_OSC_BAD bad).level P.AO E.AO_OSC bad
      let s := s.lineSet 0 1 bad
      let s := (readings.zipIdx.filter (fun p => decide (p.2 < 16))).foldl (fun t p => t.checkClock oscDev p.2 p.1) s
      let fail := decide (s.get R.AO_ISLCLK_FAIL_ISLANDS ≠ 0)
      (s.setFlag R.AO_STATUS_ISLCLK_BAD fail).lineSet 29 1 fail)

/-! ## Couplings (R14 to R17, R99) -/

/-- The key of a coupling. -/
def linkKey (l : Link) : Nat := 256 * l.ch + 16 * l.src + l.dst

/-- GLB.COUPLE_BROKEN from the broken couplings (R99). -/
def State.showBroken (s : State) : State :=
  let mask := s.isl.broken.foldl (fun m l => setBit (setBit m l.src true) l.dst true) 0
  let f : Link := s.isl.broken.head?.getD (Link.mk 0 0 0)
  ((s.set R.GLB_COUPLE_BROKEN_ISLANDS mask).set R.GLB_COUPLE_BROKEN_FIRST_FROM f.src).set R.GLB_COUPLE_BROKEN_FIRST_TO f.dst

/-- The island has been reset, or shunted and returned: a coupling both of whose ends have been is in use again (R16, R99). -/
def State.healLinks (s : State) (i : Nat) : State :=
  let touched := s.isl.broken.filter (fun l => decide (l.src = i ∨ l.dst = i))
  let marks := touched.map (fun l => (linkKey l, i))
  let healed := s.isl.healed.filter (fun h => !marks.contains h) ++ marks
  let whole (l : Link) : Bool := healed.contains (linkKey l, l.src) && healed.contains (linkKey l, l.dst)
  let s := (touched.filter whole).foldl (fun t l => t.lineOff 30 (1 + linkKey l)) s
  let keep := s.isl.broken.filter (fun l => !whole l)
  { s with isl := { s.isl with broken := keep, healed := healed.filter (fun h => keep.any (fun l => linkKey l = h.1)) } }.showBroken

/-- The island has been reset: its couplings hold no group, and its clock's failure may clear (R16, R462). -/
def State.healIsland (s : State) (i : Nat) : State :=
  { s with isl := { s.isl with clkReset := setBit s.isl.clkReset i true, withheld := s.isl.withheld.filter (fun l => l.src ≠ i ∧ l.dst ≠ i) } }.healLinks i

/-- The coupling breaks: the group is discarded, both ends stop using it, line 30 is raised (R16). -/
def State.breakLink (s : State) (l : Link) : State :=
  let s := { s with isl := { s.isl with broken := s.isl.broken ++ [l], refused := kvDel s.isl.refused (linkKey l) } }
  ((s.showBroken.raise P.GLB E.GLB_COUPLE_BROKEN).lineOn 30 (1 + linkKey l)).showServings

/-- A group is refused with ERR and counted; the third refusal in a row breaks the coupling (R16). -/
def State.refuseGroup (s : State) (l : Link) : State :=
  let n := kvGetD s.isl.refused (linkKey l) 0 + 1
  let s := { s with isl := { s.isl with refused := kvPut s.isl.refused (linkKey l) n } }
  let s := s.bump R.GLB_COUPLE_RETRY_COUNT
  if n < 3 then s else s.breakLink l

/-- The injection of COUPLE that waits for a group between these islands (R459; on whichever of their couplings, log entry 32). -/
def State.coupleInj (s : State) (l : Link) : Option Injection :=
  match s.injWaits 2 with
  | some i => if i.unit = l.src ∧ i.to_ = l.dst ∧ 0 < i.left then some i else none
  | none => none

/-- COUPLING_TRANSFER (R14 to R17, R459): a group crosses, is refused with ERR, or is held in the sender while the receiver withholds ACK because it has no room
or its clock has failed (R13); behind a group that is held, no other crosses. -/
def execCouplingTransfer (src dst ch : Nat) (parityOk full : Bool) (s : State) : Host.Outcome State Fault Refusal :=
  withUnit (max src dst) 16 (
    let l : Link := { src := src, dst := dst, ch := ch }
    if !s.linkUp l || s.isl.withheld.contains l then s
    else if full || bitOn (s.get R.AO_ISLCLK_FAIL_ISLANDS) dst then { s with isl := { s.isl with withheld := s.isl.withheld ++ [l] } }
    else
      match s.coupleInj l with
      | some i =>
        if i.quiet then s.injFlag
        else
          let t := s.refuseGroup l
          let i' := { i with left := i.left - 1, flagged := decide (i.left ≤ 1) }
          { t with flt := { t.flt with inj := some i' } }
      | none =>
        if parityOk then { s with isl := { s.isl with refused := kvDel s.isl.refused (linkKey l) } }
        else s.refuseGroup l)

/-- COUPLING_RESUME (R17): the receiver gives ACK again, and the group that the sender held crosses. -/
def execCouplingResume (src dst ch : Nat) (s : State) : Host.Outcome State Fault Refusal :=
  withUnit (max src dst) 16 (
    let l : Link := { src := src, dst := dst, ch := ch }
    if s.isl.withheld.contains l && !bitOn (s.get R.AO_ISLCLK_FAIL_ISLANDS) dst then
      let s := { s with isl := { s.isl with withheld := s.isl.withheld.filter (fun x => x ≠ l), refused := kvDel s.isl.refused (linkKey l) } }
      if src = islRH ∧ 2 ≤ dst ∧ dst ≤ 4 ∧ ch = 0 then s.freeFeed (dst - 2) else s
    else s)

/-! ## The axle stream in an island (R19 to R21, R121) -/

/-- The counters, events and fault line of an island that keeps a local time counter (R21). -/
structure AxleRegs where
  crc : Fld
  trim : Fld
  slip : Fld
  fault : Fld
  load : Fld
  page : Nat
  slipBit : Nat
  faultBit : Nat
  line : Nat
  deriving DecidableEq, Repr

def axleRegs (island : Nat) : Option AxleRegs :=
  if 2 ≤ island ∧ island ≤ 4 then
    let p := island - 2
    some { crc := R.TCORE_AXLE_CRC_COUNT p, trim := R.TCORE_AXLE_TRIM_COUNT p, slip := R.TCORE_AXLE_SLIP_COUNT p, fault := R.TCORE_AXLE_FAULT_COUNT p,
           load := R.TCORE_AXLE_LOAD_COUNT p, page := P.TCORE p, slipBit := E.TCORE_AXLE_SLIP, faultBit := E.TCORE_AXLE_FAULT, line := island }
  else if island = 6 then
    some { crc := R.SEL_AXLE_CRC_COUNT, trim := R.SEL_AXLE_TRIM_COUNT, slip := R.SEL_AXLE_SLIP_COUNT, fault := R.SEL_AXLE_FAULT_COUNT,
           load := R.SEL_AXLE_LOAD_COUNT, page := P.SEL, slipBit := E.SEL_AXLE_SLIP, faultBit := E.SEL_AXLE_FAULT, line := 6 }
  else if island = 7 then
    some { crc := R.GNS_AXLE_CRC_COUNT, trim := R.GNS_AXLE_TRIM_COUNT, slip := R.GNS_AXLE_SLIP_COUNT, fault := R.GNS_AXLE_FAULT_COUNT,
           load := R.GNS_AXLE_LOAD_COUNT, page := P.GNS, slipBit := E.GNS_AXLE_SLIP, faultBit := E.GNS_AXLE_FAULT, line := 10 }
  else if 8 ≤ island ∧ island ≤ 13 then
    let p := island - 8
    some { crc := R.CO_AXLE_CRC_COUNT p, trim := R.CO_AXLE_TRIM_COUNT p, slip := R.CO_AXLE_SLIP_COUNT p, fault := R.CO_AXLE_FAULT_COUNT p,
           load := R.CO_AXLE_LOAD_COUNT p, page := P.CO p, slipBit := E.CO_AXLE_SLIP, faultBit := E.CO_AXLE_FAULT, line := 3 + island }
  else none

/-! ### The stream's bits (R19) -/

/-- The bits of a field, most significant first, in which order the fields are sent (DESIGN CHOICE, log entry 36). -/
def bitsBE (w n : Nat) : List Bool := (List.range w).map (fun i => n.testBit (w - 1 - i))

/-- The number that bits spell, most significant first. -/
def bitsNat (l : List Bool) : Nat := l.foldl (fun n b => 2 * n + (if b then 1 else 0)) 0

/-- One bit into the CRC-32 register, in the order sent (log entry 36). -/
def crcSerial (c : Nat) (b : Bool) : Nat :=
  let d := 2 * c % 2 ^ 32
  if c.testBit 31 != b then d ^^^ 0x04C11DB7 else d

/-- The CRC-32 of a run of bits. -/
def crcBits (l : List Bool) : Nat := (l.foldl crcSerial 0xFFFFFFFF) ^^^ 0xFFFFFFFF

/-- The sum of the steps announced for the next mark, in S72 units. -/
def State.announcedS72 (s : State) : Int := s.ax.annSteps.foldl (fun z q => z + q.amount) 0

/-- The sum of the steps announced for the next mark, in units of 2^-48 ns. -/
def State.announced (s : State) : Int := s.announcedS72 * s72U

/-- The LEAP field (R127). -/
def State.leapField (s : State) : Nat :=
  s.get R.VOTE_UTC_OFFSET * 16 + (if s.flag R.VOTE_STATUS_LEAP_PEND then s.get R.VOTE_LEAP_CTRL_KIND * 4 else 0) +
    s.get R.VOTE_UTC_VALID * 2 + (if s.ax.leapNow then 1 else 0)

/-- The fields of subframe `k` between the sync word and the CRC, with their widths (R19): a load is announced as -2^71 (R121). -/
def State.subFields (s : State) (k : Nat) : List (Nat × Nat) :=
  (if k = 0 then
    [(108, toT108 s.ax.mark), (72, ofSigned 72 (if s.ax.annLoad.isSome then -(2 ^ 71) else s.announcedS72)),
     (25, match s.ax.genNext with
      | some n => 2 ^ 24 + n
      | none => 0),
     (16, s.leapField)]
  else []) ++ [(56, s.ax.v.incNext)]

/-- Subframe `k` as VOTE sends it: the sync word, the fields, and the CRC-32 over what follows the sync word (R19). -/
def State.subBits (s : State) (k : Nat) : List Bool :=
  let body := (s.subFields k).flatMap (fun f => bitsBE f.1 f.2)
  bitsBE 16 0xB5C3 ++ body ++ bitsBE 32 (crcBits body)

/-- What an island reads from the bits of subframe `k`, where the sync word and the CRC are right: the numbers of its fields in order. -/
def readSub (k : Nat) (l : List Bool) : Option (List Nat) :=
  let ws : List Nat := if k = 0 then [108, 72, 25, 16, 56] else [56]
  let n := ws.foldl (· + ·) 0
  let body := (l.drop 16).take n
  if bitsNat (l.take 16) = 0xB5C3 ∧ bitsNat ((l.drop (16 + n)).take 32) = crcBits body then
    some ((ws.foldl (fun (p : List Nat × List Bool) w => (p.1 ++ [bitsNat (p.2.take w)], p.2.drop w)) ([], body)).1)
  else none

/-- The bits with those of `err` inverted, bit 0 of `err` for the first. -/
def flipBits (err : Nat) (l : List Bool) : List Bool := l.zipIdx.map (fun p => p.1 != err.testBit p.2)

/-! ### An island's counter (R20, R21) -/

/-- The island counts an AXLE_FAULT, raises its event and its own line (R21, R444); in a core it is a time disagreement at the next update as well (R138). -/
def State.axleFault (s : State) (island : Nat) (r : AxleRegs) : State :=
  let s := ((s.bump r.fault).raise r.page r.faultBit).pulse r.line
  if 2 ≤ island ∧ island ≤ 4 then s.putCore (island - 2) { s.coreOf (island - 2) with axleBad := true } else s

/-- The latch compared with MARK_T, at the resolution of T108, and the difference acted on (R21; log entry 36); at the mark of an announced load the counter takes
MARK_T whatever the difference (R121). -/
def State.axleCompare (s : State) (island : Nat) (r : AxleRegs) (markT : Nat) : State :=
  let c := s.ctrOf island
  let d := if c.loadNow then ofT108 markT - c.latch else ofT108 markT - ofT108 (toT108 c.latch)
  let s := s.putCtr island { c.add d with latch := c.latch + d, badSub0 := 0, loadNow := false, start := if c.loadNow then c.start + d else c.start }
  if c.loadNow then s.bump r.load
  else if d = 0 then s
  else if d.natAbs * 1000 ≤ nsU.natAbs then s.bump r.trim
  else if d.natAbs * 10 ≤ 64 * nsU.natAbs then (s.bump r.slip).raise r.page r.slipBit
  else s.axleFault island r

/-- Subframe 0 with a good CRC: the comparison, and what it announces for the next mark (R19, R21, R121). -/
def State.axleSub0 (s : State) (island : Nat) (r : AxleRegs) (f : List Nat) : State :=
  let s := s.axleCompare island r (f.getD 0 0)
  let c := s.ctrOf island
  let step := toSigned 72 (f.getD 1 0)
  let load := decide (step = -(2 ^ 71))
  let gen := f.getD 2 0
  s.putCtr island { c with step := if load then 0 else step * s72U, load := load, genNext := if 2 ^ 24 ≤ gen then some (gen % 2 ^ 24) else none,
                           leap := f.getD 3 0, incNext := f.getD 4 0 }

/-- A subframe without a good CRC leaves the increment in force and is counted; nothing of subframe 0 is known then (R20, R21). -/
def State.axleLost (s : State) (island k : Nat) (r : AxleRegs) : State :=
  let c := s.ctrOf island
  let c' := { c with incNext := c.inc, badSub0 := if k = 0 then c.badSub0 + 1 else c.badSub0, genNext := if k = 0 then none else c.genNext }
  let s := (s.putCtr island c').bump r.crc
  if k = 0 ∧ 1 ≤ c.badSub0 then s.axleFault island r else s

/-- The subframe that would begin at tick 6250 `k` begins: the next mark is at least 400 ticks away from there (R120). -/
def State.subStarts (s : State) (k : Nat) : Bool := !s.ax.started || decide (6250 * k + 400 ≤ s.ax.v.reach (nextMs s.ax.mark))

end Sys2Proof.Machine
end

