-- ==== Sys2Proof/Machine/Outputs.lean ====
section
/-! DEFINITION.
Clock synthesis and outputs (R190 to R214).
-/
namespace Sys2Proof.Machine
open Sys2Proof

/-! ## Units: 2^-48 ps -/

/-- Units of 2^-48 ps in a picosecond, a nanosecond, an S72 unit and a second. -/
abbrev psX : Int := 281474976710656
abbrev nsX : Int := 281474976710656000
abbrev s72X : Int := 4294967296000
abbrev secX : Int := 281474976710656000000000000

/-- The least whole number at or above `n / d`. -/
def ceilDiv (n : Int) (d : Nat) : Int := -((-n) / (d : Int))

/-! ## Output PLLs (R191 to R196) -/

/-- The PLL's state changes: event STATE and a PLL record (R212, R466). -/
def State.setPll (s : State) (p st : Nat) : State :=
  if s.get (R.PLL_STATUS_STATE p) = st then s
  else
    let s := (s.set (R.PLL_STATUS_STATE p) st).raise (P.PLL p) E.PLL_STATE
    s.trig islRH 0x51 [p, (s.rd (R.PLL_STATUS p)).toNat]

/-- The dividers D1 and D2 planned for PLL.FREQ (R191). -/
def planDiv (freq : Nat) : Nat × Nat :=
  let d0 := (ceilDiv 192000000000 (max 1 freq)).toNat
  if d0 ≤ 256 then (d0, 1) else (8, (d0 + 7) / 8)

/-- The plan in force is shown (R191). -/
def State.planPll (s : State) (p : Nat) : State :=
  let f := s.get (R.PLL_FREQ_F p)
  let d := planDiv f
  ((s.set (R.PLL_DIV1_D1 p) d.1).set (R.PLL_DIV2_D2 p) d.2).set (R.PLL_VCO_MHZ p) (quot (f * d.1 * d.2 : Nat) 32000000).toNat

/-- The increment in force at a tick after the last AXMARK (R20, R117). -/
def AxCtr.incAt (c : AxCtr) (tick : Nat) : Nat := if tick < c.nextTick ∨ c.last then c.inc else c.incNext

/-- The feedback ratio N of a PLL at a tick, in units of 2^-48: vco × INC × 2^-48 × 10^-9, from the plan in force and the increment in force in RH, which each
subframe changes (R192). -/
def State.pllRatio (s : State) (p tick : Nat) : Int :=
  quot (s.get (R.PLL_FREQ_F p) * s.get (R.PLL_DIV1_D1 p) * s.get (R.PLL_DIV2_D2 p) * (s.ctrOf islRH).incAt tick : Nat) 32000000000

/-- The divider of a CLK_OUT's bypass clock at a tick, in units of 2^-36: from 3.2 GHz of the OCXO to the programmed frequency scaled by INC (R197). -/
def State.bypassRatio (s : State) (n tick : Nat) : Int :=
  quot (655360000000 * 2 ^ 84) (max 1 (s.get (R.PLL_FREQ_F (s.get (R.OUT_CLK_CFG_PLL n))) * (s.ctrOf islRH).incAt tick))

/-- A PLL may run its lock sequence: its page is enabled and the unit not shunted, from the commit of generation 1 on (R193, R210). -/
def State.pllServes (s : State) (p : Nat) : Bool :=
  s.flag (R.PG_CTRL_EN (P.PLL p)) && !s.flag (R.PG_STAT_SHUNTED (P.PLL p)) && decide (2 ≤ s.get R.BOOT_STAGE_STAGE)

/-- The lock sequence starts; `loss`: it follows a loss of lock or of reference (R193 to R195). -/
def State.pllStart (s : State) (p : Nat) (loss : Bool) : State :=
  if !s.pllServes p then s
  else if !s.flag (R.PLL_STATUS_REF_OK p) then (s.setPll p 4).putPll p { PllState.init with lossSeq := true }
  else ((s.planPll p).setPll p (if loss then 4 else 1)).putPll p { PllState.init with lossSeq := loss, running := true }

/-! ## Output states -/

/-- The frequency of a CLK_OUT's PLL is a whole number of hertz (R200). -/
def wholeHz (freq : Nat) : Bool := decide (freq % 32 = 0)

/-- The slot of an output's MISALIGN register (R213). -/
def misSlot (o : Nat) : Nat := if o < 4 then R.OUT_MISALIGN_C o else R.OUT_MISALIGN_P (o - 4)

/-- Level event MISALIGN (R204). -/
def State.showMisalign (s : State) : State := s.level P.OUT E.OUT_MISALIGN ((List.range 8).any (fun o => decide (s.rdS (misSlot o) ≠ 0)))

/-- An output's MISALIGN set. -/
def State.setMisalign (s : State) (o : Nat) (z : Int) : State := if s.rdS (misSlot o) = z then s else (s.wrS (misSlot o) z).showMisalign

/-- OUT.PG_STAT.BUSY holds while the page is disabled and an output is not yet muted (R206). -/
def State.showOutBusy (s : State) : State :=
  s.setFlag (R.PG_STAT_BUSY P.OUT) (!s.flag (R.PG_CTRL_EN P.OUT) && (List.range 8).any (fun o => decide (s.get (outSrc o) = 1 ∨ s.get (outSrc o) = 2)))

/-- An output mutes (R203 to R206): driven low, its move ended, MISALIGN 0. -/
def State.muteOut (s : State) (o : Nat) : State :=
  let s := ((s.putSrc o 0).set (outSlewing o) 0).putOut o (s.outOf o).stopped
  ((s.setMisalign o 0).showBypass).showOutBusy

/-! ## Clock edges and changes of source (R198 to R200) -/

/-- The output is phase-aligned (R200). -/
def State.outAligned (s : State) (o : Nat) : Bool :=
  decide (4 ≤ o) || (s.flag (R.OUT_CLK_CFG_ALIGN o) && wholeHz (s.get (R.PLL_FREQ_F (s.get (R.OUT_CLK_CFG_PLL o)))))

/-- The frequency of a CLK_OUT in units of 1/32 Hz, and its nominal period. -/
def State.clkFreq (s : State) (n : Nat) : Nat := s.get1 (R.PLL_FREQ_F (s.get (R.OUT_CLK_CFG_PLL n)))
def State.clkPeriod (s : State) (n : Nat) : Int := ceilDiv (32 * secX) (s.clkFreq n)

/-- How far the rising edges of an aligned CLK_OUT lie after the whole second plus k ÷ f: its misalignment less CLK_COMP, as far as a change of that has been
moved (R200, R206). -/
def State.clkShift (s : State) (n : Nat) : Int := s.rdS (misSlot n) * s72X - s.getS (R.OUT_CLK_COMP_PS n) * psX - (s.outOf n).compMove

/-- Rising edge `k` of an aligned CLK_OUT (R200). -/
def State.clkRise (s : State) (n : Nat) (k : Int) : Int := ceilDiv (k * (32 * secX)) (s.clkFreq n) + s.clkShift n

/-- The first rising edge of an aligned CLK_OUT at or after an instant. -/
def State.clkNext (s : State) (n : Nat) (t : Int) : Int := s.clkRise n (ceilDiv ((t - s.clkShift n) * s.clkFreq n) (32 * secX).toNat)

/-- An instant by which the period of a CLK_OUT in progress at `t` has ended. -/
def State.clkEnd (s : State) (n : Nat) (t : Int) : Int := if s.outAligned n then s.clkNext n (t + 1) else t + s.clkPeriod n

/-- A CLK_OUT changes source (R198): held low from the first falling edge of the old source, a free value within a period of the decision, to the first rising
edge of the new source at least 40 % of a period later: on the alignment for a PLL, within 500 ps of it for the bypass clock, anywhere for an output of frequency only
(log entry 41). -/
def State.changeSrc (s : State) (n new : Nat) : State :=
  let p := s.clkPeriod n
  let a := s.takeFree
  let b := a.2.takeFree
  let fall := s.ax.mark * 1000 + (a.1 : Int) % (p + 1)
  let least := fall + ceilDiv (2 * p) 5
  let off : Int := if new = 2 then ((b.1 : Int) % 1001 - 500) * psX else 0
  let rise := if s.outAligned n then s.clkNext n (least - off) + off else least + (b.1 : Int) % p
  (b.2.putOut n { s.outOf n with fall := fall, rise := rise }).putSrc n new

/-- An output that runs mutes at the end of its current period; `v`: with the settings under which it runs (R203, R206). -/
def State.endOutAs (s v : State) (o : Nat) : State :=
  let src := s.get (outSrc o)
  if src = 1 ∨ src = 2 then s.putOut o { s.outOf o with ending := true, endT := v.clkEnd o (s.ax.mark * 1000) } else s

def State.endOut (s : State) (o : Nat) : State := s.endOutAs s o

/-- A CLK_OUT on its PLL enters bypass, or mutes where bypass is not allowed or the bypass synthesiser has lost lock (R197). -/
def State.toBypass (s : State) (n : Nat) : State :=
  if s.get (outSrc n) ≠ 1 then s
  else if s.flag (R.OUT_CLK_CFG_BYPASS_OK n) && s.out.synthOk then ((s.changeSrc n 2).bump R.OUT_BYPASSES_COUNT).showBypass
  else s.muteOut n

/-- The CLK_OUTs that select PLL `p`. -/
def State.clksOf (s : State) (p : Nat) : List Nat := (List.range 4).filter (fun n => decide (s.get (R.OUT_CLK_CFG_PLL n) = p))

/-- Every CLK_OUT of the PLL enters bypass (R194, R195, R210). -/
def State.pllToBypass (s : State) (p : Nat) : State := (s.clksOf p).foldl State.toBypass s

/-- A lock attempt has failed (R196): TRIES, and FAULT at RETRY_MAX; else the sequence runs again. -/
def State.pllFail (s : State) (p : Nat) (loss : Bool) : State :=
  let s := s.bump (R.PLL_STATUS_TRIES p)
  if s.get1 (R.PLL_RETRY_MAX_N p) ≤ s.get (R.PLL_STATUS_TRIES p) then
    (((s.setPll p 5).raise (P.PLL p) E.PLL_FAULT).lineOn 7 (1 + p)).putPll p { PllState.init with lossSeq := loss }
  else s.pllStart p loss

/-- A command of RH has its effect while RH is out of reset. -/
def State.inRh (s : State) (t : State) : State := if s.up islRH then t else s

/-- PLL_BAND_CHOSEN (R193): PLL.STATUS.BAND; SEARCH becomes SETTLE, RELOCK stays. -/
def execPllBandChosen (pll band : Nat) (s : State) : Host.Outcome State Fault Refusal :=
  withUnit pll 4 (s.inRh (
    let st := s.get (R.PLL_STATUS_STATE pll)
    if (s.pllOf pll).running ∧ (st = 1 ∨ st = 4) then
      let s := s.set (R.PLL_STATUS_BAND pll) band
      if st = 1 then s.setPll pll 2 else s
    else s))

/-- PLL_LOCKED (R193): within 300 µs the phase error, at most `errPs` over 8,192 ticks, has stayed inside LOCK_WIN; LOCK_US, LOCKS and event LOCK. -/
def execPllLocked (pll us errPs : Nat) (s : State) : Host.Outcome State Fault Refusal :=
  withUnit pll 4 (s.inRh (
    let st := s.get (R.PLL_STATUS_STATE pll)
    if (s.pllOf pll).running ∧ (st = 2 ∨ st = 4) ∧ us ≤ 300 ∧ errPs ≤ s.get (R.PLL_LOCK_WIN_PS pll) then
      let s := (((s.setPll pll 3).set (R.PLL_LOCK_US_US pll) us).bump (R.PLL_LOCKS_COUNT pll)).raise (P.PLL pll) E.PLL_LOCK
      s.putPll pll .init
    else s))

/-- PLL_LOCK_HELD (R196): LOCKED has lasted 1 s; TRIES clears. -/
def execPllLockHeld (pll : Nat) (s : State) : Host.Outcome State Fault Refusal :=
  withUnit pll 4 (s.inRh (
    if s.get (R.PLL_STATUS_STATE pll) = 3 then (s.set (R.PLL_STATUS_TRIES pll) 0).putPll pll { s.pllOf pll with held := true } else s))

/-- PLL_LOCK_FAIL (R196): the sequence has not reached LOCKED within 300 µs. -/
def execPllLockFail (pll : Nat) (s : State) : Host.Outcome State Fault Refusal :=
  withUnit pll 4 (s.inRh (if (s.pllOf pll).running then s.pllFail pll (s.pllOf pll).lossSeq else s))

/-- The unlock window in force: one below LOCK_WIN acts as LOCK_WIN (R211). -/
def State.unlockWin (s : State) (p : Nat) : Nat := max (s.get (R.PLL_UNLOCK_WIN_PS p)) (s.get (R.PLL_LOCK_WIN_PS p))

/-- PLL_UNLOCK (R194, R196): the phase error, at least `errPs` at four ticks in a row, exceeds the window: UNLOCKS, RELOCK, outputs to bypass, and the sequence again; within 1 s of LOCKED it is a failed attempt. -/
def execPllUnlock (pll errPs : Nat) (s : State) : Host.Outcome State Fault Refusal :=
  withUnit pll 4 (s.inRh (
    if s.get (R.PLL_STATUS_STATE pll) = 3 ∧ s.unlockWin pll < errPs then
      let held := (s.pllOf pll).held
      let s := ((s.bump (R.PLL_UNLOCKS_COUNT pll)).raise (P.PLL pll) E.PLL_UNLOCK).setPll pll 4
      let s := s.pllToBypass pll
      if held then s.pllStart pll true else s.pllFail pll true
    else s))

/-- PLL_REF_LOST (R195): REF_OK clears, REF_LOSSES, line 7, outputs to bypass; a PLL that is not OFF or in FAULT waits in RELOCK. -/
def execPllRefLost (pll : Nat) (s : State) : Host.Outcome State Fault Refusal :=
  withUnit pll 4 (s.inRh (
    if s.flag (R.PLL_STATUS_REF_OK pll) then
      let s := (((s.set (R.PLL_STATUS_REF_OK pll) 0).bump (R.PLL_REF_LOSSES_COUNT pll)).raise (P.PLL pll) E.PLL_REF_LOST).lineOn 7 (5 + pll)
      let s := s.pllToBypass pll
      let st := s.get (R.PLL_STATUS_STATE pll)
      if st = 0 ∨ st = 5 then s.putPll pll { s.pllOf pll with refWait := false } else (s.setPll pll 4).putPll pll { PllState.init with lossSeq := true }
    else s))

/-- PLL_REF_RESTORED (R195): the AXCLK branch is back and REF_OK is 1; `held`: it has been 1 for 1 ms, and a PLL that waits in RELOCK reruns its sequence. -/
def execPllRefRestored (pll : Nat) (held : Bool) (s : State) : Host.Outcome State Fault Refusal :=
  withUnit pll 4 (s.inRh (
    let c := s.pllOf pll
    if !s.flag (R.PLL_STATUS_REF_OK pll) then ((s.set (R.PLL_STATUS_REF_OK pll) 1).lineOff 7 (5 + pll)).putPll pll { c with refWait := true }
    else if held ∧ c.refWait then
      let s := s.putPll pll { c with refWait := false }
      if s.get (R.PLL_STATUS_STATE pll) = 4 then s.pllStart pll true else s
    else s))

/-- PLL_RELOCK (R193, R196, R211): status STATE while the page is disabled or the PLL shunted; else the sequence runs and the command is DONE. -/
def execPllRelock (m : Master) (pll : Nat) (s : State) : Host.Outcome State Fault Refusal :=
  withUnit pll 4 (s.hostCmd m (R.PLL_CMD_STATUS pll) fun s =>
    if !s.pllServes pll then s.set (R.PLL_CMD_STATUS pll) 3
    else (((s.pllToBypass pll).lineOff 7 (1 + pll)).pllStart pll false).set (R.PLL_CMD_STATUS pll) 2)

/-- The PLL's page is disabled: OFF, and its outputs mute at the end of their current period without bypass (R206). -/
def State.pllOff (s : State) (p : Nat) : State :=
  let s := ((s.setPll p 0).lineOff 7 (1 + p)).putPll p .init
  (s.clksOf p).foldl State.endOut s

/-- PLL_DISABLE (R206): PG_CTRL.EN of the PLL's page is cleared. -/
def execPllDisable (m : Master) (pll : Nat) (s : State) : Host.Outcome State Fault Refusal :=
  withUnit pll 4 (s.hostWrite m (R.PG_CTRL (P.PLL pll)) fun s => (s.set (R.PG_CTRL_EN (P.PLL pll)) 0).pllOff pll)

/-- BYPASS_SYNTH_UNLOCK (R197): line 7, and every output on bypass mutes. -/
def execBypassSynthUnlock (s : State) : Host.Outcome State Fault Refusal :=
  .next (s.inRh (
    let s := { s with out := { s.out with synthOk := false } }
    let s := s.lineOn 7 9
    (List.range 4).foldl (fun t n => if t.get (outSrc n) = 2 then t.muteOut n else t) s))

/-- BYPASS_SYNTH_RELOCK (R197): line 7 no longer held; bypass is possible again. -/
def execBypassSynthRelock (s : State) : Host.Outcome State Fault Refusal :=
  .next (s.inRh ({ s with out := { s.out with synthOk := true } }.lineOff 7 9))

/-- CLK_RETURN_TO_PLL (R198): the PLL has been LOCKED for 1 ms, and the output on bypass changes back. -/
def execClkReturnToPll (n : Nat) (s : State) : Host.Outcome State Fault Refusal :=
  withUnit n 4 (s.inRh (
    if s.get (outSrc n) = 2 ∧ s.get (R.PLL_STATUS_STATE (s.get (R.OUT_CLK_CFG_PLL n))) = 3 then (s.changeSrc n 1).showBypass else s))

/-! ## Starting (R203) -/

def State.outEn (s : State) (o : Nat) : Bool := if o < 4 then s.flag (R.OUT_CLK_CFG_EN o) else s.flag (R.OUT_PULSE_CFG_EN (o - 4))
def State.outSquelch (s : State) (o : Nat) : Bool := if o < 4 then s.flag (R.OUT_CLK_CFG_SQUELCH o) else s.flag (R.OUT_PULSE_CFG_SQUELCH (o - 4))

/-- The START code as it acts: 0 LOCK, 1 TS_SET, 2 TIMED. -/
def State.outStartCode (s : State) (o : Nat) : Nat :=
  if o < 4 then (if s.get (R.OUT_CLK_CFG_START o) = 3 then 0 else s.get (R.OUT_CLK_CFG_START o))
  else if s.get (R.OUT_PULSE_CFG_START (o - 4)) = 2 then 2 else 1

/-- The START condition of an output holds (R203); none starts in SLEEP (R440). -/
def State.startHolds (s : State) (o : Nat) : Bool :=
  let lock := decide (4 ≤ o) || decide (s.get (R.PLL_STATUS_STATE (s.get (R.OUT_CLK_CFG_PLL o))) = 3)
  let timed := match s.outStartCode o with
    | 0 => true
    | 1 => s.flag R.VOTE_STATUS_TS_SET
    | _ => decide (3 ≤ s.get R.BOOT_STAGE_STAGE)
  lock && timed && (!s.outSquelch o || s.boot.timeValid) && decide (s.get R.DUG_STATUS_ROLE ≠ 5)

/-- The UTC or TAI epoch of a PULSE_OUT, in 2^-48 ps (R201). -/
def State.pulseEpoch (s : State) (n : Nat) : Int := if s.flag (R.OUT_PULSE_CFG_EPOCH n) then s.get R.VOTE_UTC_OFFSET * secX else 0

/-- The grid of R201 without misalignment: the instant of rising edge `k`. -/
def State.pulseGrid (s : State) (n : Nat) (k : Int) : Int :=
  s.pulseEpoch n - s.getS (R.OUT_PULSE_COMP_PS n) * psX + k * (s.get (R.OUT_PULSE_PERIOD_NS n) * nsX)

/-- The first edge of the grid at or after an instant. -/
def State.pulseNext (s : State) (n : Nat) (t : Int) : Int :=
  ceilDiv (t - s.pulseGrid n 0) (max 1 (s.get (R.OUT_PULSE_PERIOD_NS n)) * nsX.toNat)

/-- The high phase of the pulse with number `k`: WIDTH, or WIDTH times MULT for a marked one (R201, R202). -/
def State.pulseHigh (s : State) (n : Nat) (k : Int) : Int :=
  let w : Int := s.get (R.OUT_PULSE_WIDTH_NS n) * nsX
  let f := s.get (R.OUT_PULSE_FRAME_N n)
  if 2 ≤ f ∧ k % (f : Int) = 0 then w * s.get1 (R.OUT_PULSE_FRAME_MULT n) else w

/-- An instant as the digital-to-time converter places an edge: the nearest of its 1.5 ps steps from the tick before (R190; log entry 41). -/
def State.placedEdge (s : State) (t : Int) : Int :=
  let c := s.ctrOf islRH
  let inc : Int := max 1 c.inc * 1000
  let at_ := c.base * 1000 + (t - c.base * 1000) / inc * inc
  at_ + quot (nearQ (2 * (t - at_)) (3 * psX).toNat * 3 * psX) 2

/-- A pulse begins: the rising edge `k` at `t`, with the settings in force (R201, R202, R206). -/
def State.pulseRise (s : State) (o : Nat) (k t : Int) : State :=
  let h := s.pulseHigh (o - 4) k
  s.putOut o { s.outOf o with high := true, idx := k, lastRise := t, nextT := t + h, per := s.get (R.OUT_PULSE_PERIOD_NS (o - 4)) * nsX, hi := h, taken := 0, leapTaken := 0,
                              edge := s.placedEdge t }

/-- STARTED (R203): an enabled, muted output whose START condition holds begins a full period at its next aligned rising edge, with MISALIGN 0. -/
def execStarted (out : Nat) (s : State) : Host.Outcome State Fault Refusal :=
  withUnit out 8 (s.inRh (
    if s.get (outSrc out) = 0 ∧ s.outEn out ∧ s.flag (R.PG_CTRL_EN P.OUT) ∧ s.startHolds out ∧ !(s.outOf out).drvHeld then
      let n := out - 4
      let k := s.pulseNext n (s.rhTime 0 * 1000)
      let s := (s.setMisalign out 0).putOut out (s.outOf out).stopped
      ((if out < 4 then s else s.pulseRise out k (s.pulseGrid n k)).putSrc out 1).raise P.OUT E.OUT_STARTED
    else s))

/-! ## Pulse edges and moves (R199 to R207) -/

/-- The moves taken in a low phase whose end lies `room` ahead, in the limits of each low phase: a lengthening up to PERIOD - WIDTH, a shortening up to half the
nominal low phase (R205); an insertion of a leap in full, a deletion while the low phase keeps the lesser of WIDTH and half its nominal length (R199, R207). -/
def State.takeMoves (s : State) (o : Nat) (room : Int) : State :=
  let c := s.outOf o
  let w : Int := s.get (R.OUT_PULSE_WIDTH_NS (o - 4)) * nsX
  let low := c.per - c.hi
  let lo := max (-(low / 2) - c.taken) (-room)
  let hi := c.per - w - c.taken
  let a := clampInt lo hi c.move
  let b := clampInt (lo - a) (hi - a) c.compMove
  let keep := low - min w (low / 2)
  let d := if 0 ≤ c.leapMove then c.leapMove else max c.leapMove (min 0 (max (-keep - (c.taken + c.leapTaken + a + b)) (-(room + a + b))))
  let s := s.putOut o { c with move := c.move - a, compMove := c.compMove - b, leapMove := c.leapMove - d, taken := c.taken + a + b, leapTaken := c.leapTaken + d,
                               nextT := c.nextT + a + b + d }
  s.setMisalign o (s.rdS (misSlot o) + a / s72X)

/-- An output of which TIME_VALID low mutes (R203). -/
def State.squelched (s : State) (o : Nat) : Bool := s.outSquelch o && !s.boot.timeValid

/-- TIME_VALID has changed, or SQUELCH: a running CLK_OUT that is to mute does so at the end of its current period; a PULSE_OUT looks when its period ends (R203). -/
def State.showSquelch (s : State) : State :=
  (List.range 4).foldl (fun t n =>
    let c := t.outOf n
    let src := t.get (outSrc n)
    if (src = 1 ∨ src = 2) ∧ t.squelched n ∧ !c.quiet then t.putOut n { c with quiet := true, endT := if c.ending then c.endT else t.clkEnd n (t.ax.mark * 1000) }
    else if c.quiet ∧ !t.squelched n then t.putOut n { c with quiet := false }
    else t) s

/-- PULSE_EDGE (R201 to R206): the next programmed edge of PULSE_OUTn falls; at a fall the moves are taken in the low phase that begins; a rise that would end
a last period mutes the output. -/
def execPulseEdge (n : Nat) (s : State) : Host.Outcome State Fault Refusal :=
  withUnit n 4 (s.inRh (
    let o := n + 4
    let c := s.outOf o
    if s.get (outSrc o) ≠ 1 then s
    else if c.high then
      let s := s.putOut o { c with high := false, nextT := c.lastRise + c.per, edge := s.placedEdge c.nextT }
      s.takeMoves o (c.per - c.hi)
    else if c.ending || s.squelched o then s.muteOut o
    else s.pulseRise o (c.idx + 1) c.nextT))

/-- The interval that MISALIGN is reduced by, as numerator and denominator in S72 units (R204). -/
def State.misPeriod (s : State) (o : Nat) : Nat × Nat :=
  if o < 4 then (32 * 65536000000000, max 1 (s.get (R.PLL_FREQ_F (s.get (R.OUT_CLK_CFG_PLL o)))))
  else
    let n := o - 4
    (s.get (R.OUT_PULSE_PERIOD_NS n) * max 1 (s.get (R.OUT_PULSE_FRAME_N n)) * 65536, 1)

/-- `x` reduced into (-P/2, P/2] for P = num/den. -/
def reduceHalf (x : Int) (num den : Nat) : Int :=
  let k := ceilDiv (2 * x * den - num) (2 * max 1 num)
  quot (x * den - k * num) den

/-- A step or load of `amount` S72 units: added to MISALIGN of each running output; no edge moves (R126, R204). -/
def State.outStep (s : State) (amount : Int) : State :=
  (List.range 8).foldl (fun t o =>
    let src := t.get (outSrc o)
    if src = 1 ∨ src = 2 then
      let c := t.outOf o
      let t := t.putOut o { c with lastRise := c.lastRise + amount * s72X, nextT := c.nextT + amount * s72X, endT := c.endT + amount * s72X,
                                      edge := c.edge + amount * s72X, fall := c.fall + amount * s72X, rise := c.rise + amount * s72X }
      if t.outAligned o then t.setMisalign o (reduceHalf (t.rdS (misSlot o) + amount) (t.misPeriod o).1 (t.misPeriod o).2) else t
    else t) s

/-- The UTC offset has moved by `d` seconds: every running UTC output follows from its next period (R207). -/
def State.outLeap (s : State) (d : Int) : State :=
  (List.range 4).foldl (fun t n =>
    let o := n + 4
    if t.get (outSrc o) = 1 ∧ t.flag (R.OUT_PULSE_CFG_EPOCH n) then
      let c := t.outOf o
      let p : Int := max 1 (t.get (R.OUT_PULSE_PERIOD_NS n)) * nsX
      let big := p * max 1 (t.get (R.OUT_PULSE_FRAME_N n))
      let m := (d.natAbs : Int) * secX % big
      let whole := ((d.natAbs : Int) * secX - m) / p
      let sg : Int := if 0 ≤ d then 1 else -1
      t.putOut o { c with leapMove := c.leapMove + sg * m, idx := c.idx - sg * whole }
    else t) s

/-- OUT_REALIGN (R205): each named output's MISALIGN is captured as R and the output is to move by -R; a muted one finishes at once. -/
def execOutRealign (m : Master) (clk pulse tick : Nat) (s : State) : Host.Outcome State Fault Refusal :=
  .next (s.hostCmd m R.OUT_REALIGN_STATUS fun s =>
    let s := s.set R.OUT_REALIGN_STATUS 1
    let now := s.rhTime tick * 1000
    (List.range 8).foldl (fun t o =>
      let src := t.get (outSrc o)
      if (if o < 4 then bitOn clk o else bitOn pulse (o - 4)) && decide (src = 1 ∨ src = 2) then
        let c := t.outOf o
        let t := t.putOut o { c with named := true, move := -(t.rdS (misSlot o)) * s72X }
        if o < 4 then t.setFlag (outSlewing o) (decide (t.rdS (misSlot o) ≠ 0))
        else if !c.high && decide (now + 1000 * nsX ≤ c.nextT) then t.takeMoves o (c.nextT - now) else t
      else t) s)

/-- One millisecond of CLK_OUT slewing at OUT.CLK_SLEW picoseconds per microsecond (R205). -/
def State.slewClks (s : State) : State :=
  let most : Int := s.get1 R.OUT_CLK_SLEW_PS_PER_US * nsX
  (List.range 4).foldl (fun t n =>
    let c := t.outOf n
    if c.move = 0 ∧ c.compMove = 0 then t
    else
      let a := clampInt (-most) most c.move
      let b := clampInt (-most) most (a + c.compMove) - a
      let t := t.putOut n { c with move := c.move - a, compMove := c.compMove - b }
      let t := t.setMisalign n (t.rdS (misSlot n) + a / s72X)
      t.setFlag (outSlewing n) (decide ((t.outOf n).move ≠ 0 ∨ (t.outOf n).compMove ≠ 0))) s

/-- The CLK_OUTs whose last period has ended by the mark mute (R203, R206). -/
def State.endClks (s : State) : State :=
  (List.range 4).foldl (fun t n => if ((t.outOf n).ending || (t.outOf n).quiet) && decide ((t.outOf n).endT ≤ t.ax.mark * 1000) then t.muteOut n else t) s

/-- REALIGN_DONE (R205): no named output has a move left but what a CLK_OUT slews in less than a millisecond; REALIGNS, STATUS DONE, the event, and a record
of each output moved, whose source stays (R214; log entry 41). -/
def execRealignDone (s : State) : Host.Outcome State Fault Refusal :=
  .next (s.inRh (
    let most : Int := s.get1 R.OUT_CLK_SLEW_PS_PER_US * nsX
    let left (o : Nat) : Bool := (s.outOf o).named && (if o < 4 then decide (most < ((s.outOf o).move.natAbs : Int)) else decide ((s.outOf o).move ≠ 0))
    if s.get R.OUT_REALIGN_STATUS = 1 ∧ !(List.range 8).any left then
      let s := (List.range 8).foldl (fun t o =>
        let c := t.outOf o
        if c.named then
          let t := t.putOut o { c with named := false, move := 0 }
          let t := t.setMisalign o (t.rdS (misSlot o) + c.move / s72X)
          let t := if o < 4 then t.setFlag (outSlewing o) (decide (c.compMove ≠ 0)) else t
          t.trig islRH 0x50 [o, t.get (outSrc o), t.get (outSrc o)]
        else t) s
      ((s.set R.OUT_REALIGN_STATUS 2).bump R.OUT_REALIGNS_COUNT).raise P.OUT E.OUT_REALIGN_DONE
    else s))

/-- DRV_FAULT (R209): the output mutes and is held; its DRV_FAULT bit, line 8 and the event. -/
def execDrvFault (out : Nat) (s : State) : Host.Outcome State Fault Refusal :=
  withUnit out 8 (s.inRh (
    let src := s.get (outSrc out)
    if src = 1 ∨ src = 2 then
      let s := s.muteOut out
      let s := (s.set (outDrv out) 1).putOut out { s.outOf out with drvHeld := true }
      (s.lineOn 8 (1 + out)).raise P.OUT E.OUT_DRV_FAULT
    else s))

/-- OUT_DISABLE (R206): PG_CTRL.EN of the OUT page is cleared; every output mutes at the end of its current period, and BUSY shows it. -/
def execOutDisable (m : Master) (s : State) : Host.Outcome State Fault Refusal :=
  .next (s.hostWrite m (R.PG_CTRL P.OUT) fun s =>
    let s := s.set (R.PG_CTRL_EN P.OUT) 0
    ((List.range 8).foldl State.endOut s).showOutBusy)

/-! ## The commit (R191, R201, R202, R206) -/

/-- A value in force goes back to what it was: the register refuses the committed value. -/
def State.refuse (s : State) (old : Store) (a : Nat) : State := s.wr a (old.read a)

/-- PLL.FREQ outside 32 to 48,000,000,000 is refused with CFG_ERR; a change mutes the PLL's outputs and runs the lock sequence.  A PLL that is OFF and
enabled starts at the commit (R193). -/
def State.commitPll (s : State) (old : Store) (p : Nat) : State :=
  let a := R.PLL_FREQ p
  let f := s.get (R.PLL_FREQ_F p)
  let bad := decide (f < 32 ∨ 48000000000 < f)
  let same := decide (s.rd a = old.read a)
  let s := if !same && bad then (s.refuse old a).raise (P.PLL p) E.PLL_CFG_ERR else s
  if s.get (R.PLL_STATUS_STATE p) = 0 then s.pllStart p false
  else if same || bad then s
  else
      let clks := (List.range 4).filter (fun n => decide ((R.OUT_CLK_CFG_PLL n).of (old.read (R.OUT_CLK_CFG n)) = p))
      let s := clks.foldl (fun t n => t.endOutAs { t with regs := old } n) s
      if s.get (R.PLL_STATUS_STATE p) = 0 ∨ s.get (R.PLL_STATUS_STATE p) = 5 then s else s.pllStart p false

/-- A signed COMP beyond 10,000,000 ps is clamped with CFG_ERR; the difference is moved as R205 moves it. -/
def State.commitComp (s : State) (old : Store) (o : Nat) : State :=
  let f := if o < 4 then R.OUT_CLK_COMP_PS o else R.OUT_PULSE_COMP_PS (o - 4)
  let z := clampInt (-10000000) 10000000 (s.getS f)
  let s := if z = s.getS f then s else (s.setS f z).raise P.OUT E.OUT_CFG_ERR
  let d := z - toSigned 36 (old.read f.slot).toNat
  if d = 0 ∨ s.get (outSrc o) = 0 ∨ s.get (outSrc o) = 3 ∨ !s.outAligned o then s
  else
    let s := s.putOut o { s.outOf o with compMove := (s.outOf o).compMove - d * psX }
    let c := s.outOf o
    let now := s.ax.mark * 1000
    if 4 ≤ o ∧ !c.high ∧ now + 1000 * nsX ≤ c.nextT then s.takeMoves o (c.nextT - now) else s

/-- The period, width and frame of a PULSE_OUT can stand together (R201, R202, R213). -/
def State.pulseOk (s : State) (n : Nat) : Bool :=
  let p := s.get (R.OUT_PULSE_PERIOD_NS n)
  let w := s.get (R.OUT_PULSE_WIDTH_NS n)
  let f := s.get (R.OUT_PULSE_FRAME_N n)
  decide (100 ≤ p ∧ p ≤ 64000000000 ∧ 10 ≤ w ∧ w + 10 ≤ p) && (decide (f < 2) || decide (w * s.get1 (R.OUT_PULSE_FRAME_MULT n) + 10 < p))

/-- The registers of a PULSE_OUT at a commit: values that cannot stand are refused with CFG_ERR, the frame first, then the width and the period. -/
def State.commitPulse (s : State) (old : Store) (n : Nat) : State :=
  let o := n + 4
  let s :=
    if s.pulseOk n then s
    else
      let t := s.raise P.OUT E.OUT_CFG_ERR
      let t1 := t.refuse old (R.OUT_PULSE_FRAME n)
      let t2 := t.refuse old (R.OUT_PULSE_WIDTH n)
      let t3 := t1.refuse old (R.OUT_PULSE_WIDTH n)
      if t1.pulseOk n then t1 else if t2.pulseOk n then t2 else if t3.pulseOk n then t3 else t3.refuse old (R.OUT_PULSE_PERIOD n)
  let moved := decide (s.rd (R.OUT_PULSE_PERIOD n) ≠ old.read (R.OUT_PULSE_PERIOD n)) ||
    decide (s.get (R.OUT_PULSE_FRAME_N n) ≠ (R.OUT_PULSE_FRAME_N n).of (old.read (R.OUT_PULSE_FRAME n))) ||
    decide (s.get (R.OUT_PULSE_CFG_EPOCH n) ≠ (R.OUT_PULSE_CFG_EPOCH n).of (old.read (R.OUT_PULSE_CFG n)))
  if moved then s.endOutAs { s with regs := old } o else s

/-- The source PLL of a CLK_OUT changes: at one frequency at the next change point, else it mutes and starts again (R206). -/
def State.commitClk (s : State) (old : Store) (n : Nat) : State :=
  let pOld := (R.OUT_CLK_CFG_PLL n).of (old.read (R.OUT_CLK_CFG n))
  let pNew := s.get (R.OUT_CLK_CFG_PLL n)
  if pOld = pNew then s
  else if old.read (R.PLL_FREQ pOld) = s.rd (R.PLL_FREQ pNew) then
    let src := s.get (outSrc n)
    if src ≠ 1 ∧ src ≠ 2 then s
    else if s.get (R.PLL_STATUS_STATE pNew) = 3 then (s.changeSrc n 1).showBypass else s.toBypass n
  else s.endOutAs { s with regs := old } n

/-- EN of an output at a commit: cleared, it mutes at the end of its period; a drive fault is forgotten once EN has been cleared and is set (R206, R209). -/
def State.commitEn (s : State) (old : Store) (o : Nat) : State :=
  let f := if o < 4 then R.OUT_CLK_CFG_EN o else R.OUT_PULSE_CFG_EN (o - 4)
  let was := f.of (old.read f.slot)
  if s.get f = was then s
  else if s.get f = 0 then s.endOutAs { s with regs := old } o
  else if (s.outOf o).drvHeld then
    ((s.set (outDrv o) 0).lineOff 8 (1 + o)).putOut o { s.outOf o with drvHeld := false }
  else s

/-- The PLL and OUT registers take force at a commit; `old` holds the values before it. -/
def State.commitOutputs (s : State) (old : Store) : State :=
  let s := (List.range 4).foldl (fun t p => t.commitPll old p) s
  let s := (List.range 4).foldl (fun t n => t.commitPulse old n) s
  let s := (List.range 4).foldl (fun t n => t.commitClk old n) s
  let s := (List.range 8).foldl (fun t o => t.commitComp old o) s
  ((List.range 8).foldl (fun t o => t.commitEn old o) s).showSquelch

end Sys2Proof.Machine
end

