-- ==== Sys2Proof/Machine/Tic.lean ====
section
/-! DEFINITION.
Time-to-digital converters, interval counters, calibration and converter pairs (R215 to R231).
-/
namespace Sys2Proof.Machine
open Sys2Proof

/-! ## The converter (R215, R216) -/

/-- The sum of the first `k` entries. -/
def sumTo (l : List Nat) (k : Nat) : Nat := (l.take k).foldl (· + ·) 0

/-- The offset d of R216 of code (PHASE `p`, TAP `k`), in units of 2^-48 ns. -/
def ConvTable.offset (c : ConvTable) (p k : Nat) : Int :=
  match c with
  | .nominal =>
    let s4 : Int := if k < 178 then 6 * k + 3 else 1068
    quot (((p + 1 : Nat) * 25600 - 24 * s4) * nsU) 96000
  | .counted n np ck _ =>
    let a : Int := sumTo np (p + 1)
    let s2 : Int := 2 * sumTo ck k + ck.getD k 0
    quot (6400 * nsU * (2 * n * a - s2 * np.getD p 0)) (2000 * n * n)

/-- The tables come from no accepted calibration (R221). -/
def ConvTable.uncal (c : ConvTable) : Bool :=
  match c with
  | .nominal => true
  | .counted _ _ _ _ => false

/-- The table's temperature lies more than `step`/10 K from `temp` (2^-10 degrees). -/
def ConvTable.far (c : ConvTable) (temp : Int) (step : Nat) : Bool :=
  match c with
  | .nominal => false
  | .counted _ _ _ t => decide (step * 1024 < (temp - t).natAbs * 10)

/-- An entry of a table in 2^-10 ps: 0 to 255 W[k], 256 to 279 PH[p], else 0 (R230). -/
def ConvTable.entry (c : ConvTable) (e : Nat) : Nat :=
  match c with
  | .nominal => if e < 178 then 1536 else if e < 256 then 0 else if e < 280 then (quot 6553600 24).toNat else 0
  | .counted n np ck _ =>
    if e < 256 then (quot (6400 * 1024 * ck.getD e 0 : Nat) (24 * n)).toNat
    else if e < 280 then (quot (6400 * 1024 * np.getD (e - 256) 0 : Nat) n).toNat else 0

/-- The first failing check of R225 on a calibration with `edges` edges asked for; 0 when it is accepted. -/
def calWhy (edges : Nat) (r : CalResult) : Nat :=
  let top := (List.range 256).foldl (fun m k => if 0 < r.ck.getD k 0 then k else m) 0
  let used := (List.range 256).countP (fun k => decide (0 < r.ck.getD k 0))
  let sum := sumTo r.ck 256
  if r.n < edges then 1
  else if r.topTap || decide (0 < r.ck.getD 255 0) then 2
  else if (List.range 24).any (fun p => decide (64000 * r.np.getD p 0 < 2133 * r.n ∨ 3200 * r.n < 64000 * r.np.getD p 0)) then 3
  else if (List.range top).any (fun k => decide (r.ck.getD k 0 = 0)) then 4
  else if (List.range 256).any (fun k => decide (96 * r.n < 6400 * r.ck.getD k 0)) then 5
  else if 64000 * sum < 312 * r.n * used ∨ 528 * r.n * used < 64000 * sum then 6
  else 0

/-- The tables of an accepted calibration. -/
def calTable (r : CalResult) (temp : Int) : ConvTable := .counted r.n r.np r.ck temp

/-- The temperature last reported for an island, 2^-10 degrees. -/
def State.tempOf (s : State) (island : Nat) : Int := kvGetD s.tic.temps island 0

def State.putTemp (s : State) (island : Nat) (t : Int) : State := { s with tic := { s.tic with temps := kvPut s.tic.temps island t } }

/-! ## Converter pairs (R227, R228) -/

/-- The number of pairs: four REF_IN, four PULSE_OUT, two for each port and for each Dugil lane 0, one for the samples of GN (R227, R236, R426). -/
abbrev pairCount : Nat := 61

/-- The island of a pair: RH, the port's coach, or GN. -/
def pairIsland (pair : Nat) : Nat := if pair < 8 then islRH else if pair < 56 then 8 + (pair - 8) / 8 else if pair < 60 then islRH else islGN

/-- The fault line of a pair (R228); of a Dugil pair the TIC line of its island, of the pair of GN the GNSS line (DESIGN CHOICE, log entry 25). -/
def pairLine (pair : Nat) : Nat := if pair < 8 then 9 else if pair < 56 then 11 + (pair - 8) / 8 else if pair < 60 then 9 else 10

def PairState.table (c : PairState) (m : Nat) : ConvTable := if m = 0 then c.t0 else c.t1
def PairState.fails (c : PairState) (m : Nat) : Nat := if m = 0 then c.fails0 else c.fails1
def PairState.put (c : PairState) (m : Nat) (t : ConvTable) (f : Nat) : PairState :=
  if m = 0 then { c with t0 := t, fails0 := f } else { c with t1 := t, fails1 := f }

/-- A member that has failed three times in a row is FAILED (R228). -/
def PairState.failed (c : PairState) (m : Nat) : Bool := decide (3 ≤ c.fails m)

/-- The table of the member on duty. -/
def PairState.onDuty (c : PairState) : ConvTable := c.table c.duty

/-- The pair's stamps carry UNCAL (R228). -/
def State.pairUncal (s : State) (pair : Nat) : Bool := (s.pairOf pair).onDuty.uncal

/-- The pair's stamps carry STALE: it runs on one member and the temperature has moved 3 K (R228). -/
def State.pairStale (s : State) (pair : Nat) : Bool :=
  let c := s.pairOf pair
  (c.failed 0 || c.failed 1) && c.onDuty.far (s.tempOf (pairIsland pair)) 30

/-- The pair's bits of TIC.RH_PAIRS or of the port's PRT page (R230, R293). -/
def State.showPair (s : State) (pair : Nat) : State :=
  let c := s.pairOf pair
  if pair < 8 then
    let f := s.get (R.TIC_RH_PAIRS_FAILED 0)
    let f := setBit (setBit f (2 * pair) (c.failed 0)) (2 * pair + 1) (c.failed 1)
    (s.set (R.TIC_RH_PAIRS_FAILED 0) f).set (R.TIC_RH_PAIRS_UNCAL 0) (setBit (s.get (R.TIC_RH_PAIRS_UNCAL 0)) pair c.onDuty.uncal)
  else if 56 ≤ pair then s
  else
    let p := (pair - 8) / 2
    let was := s.rd (R.PRT_STAMP_STAT p)
    let bits := (if c.failed 0 then 1 else 0) + (if c.failed 1 then 2 else 0) + (if c.onDuty.uncal then 4 else 0) + (if s.pairStale pair then 8 else 0)
    let s := s.set ⟨R.PRT_STAMP_STAT p, 4 * ((pair - 8) % 2), 4⟩ bits
    s.raiseIf (decide (s.rd (R.PRT_STAMP_STAT p) ≠ was)) (P.PRT p) E.PRT_STAMP

/-- The bits of every pair of an island. -/
def State.showPairs (s : State) (island : Nat) : State :=
  ((List.range pairCount).filter (fun p => decide (pairIsland p = island))).foldl (fun t p => t.showPair p) s

/-- The instant that the code of a pair stands for: the counter of the pair's island at the tick, and the offset by the tables of the member on duty, unscaled
(R22, R216, R227). -/
def State.stampOf (s : State) (pair : Nat) (x : Stamp) : Int :=
  (s.ctrOf (pairIsland pair)).at_ x.tick + (s.pairOf pair).onDuty.offset x.phase x.tap

/-! ## TIC registers -/

/-- The older of a TIC's two tables; an accepted one where the other is nominal (R226). -/
def TicState.older (c : TicState) : ConvTable :=
  if c.start.uncal then c.stop else if c.stop.uncal then c.start else if c.stopNo < c.startNo then c.stop else c.start

/-- TIC.STATUS.CAL_VALID and the level CAL_STALE (R226, R230). -/
def State.showCal (s : State) (t : Nat) : State :=
  let c := s.ticOf t
  let stale := c.older.far (s.tempOf islRH) (s.get1 (R.TIC_CAL_CTRL_DTEMP t))
  ((s.setFlag (R.TIC_STATUS_CAL_VALID t) (!c.start.uncal && !c.stop.uncal)).setFlag (R.TIC_STATUS_CAL_STALE t) stale).level (P.TIC t) E.TIC_CAL_STALE stale

/-- The STATE of a TIC. -/
def State.ticSt (s : State) (t : Nat) : Nat := s.get (R.TIC_STATUS_STATE t)

/-- A measurement is in progress: ARMED or START_TAKEN. -/
def State.ticArmed (s : State) (t : Nat) : Bool := decide (s.ticSt t = 1 ∨ s.ticSt t = 2)

/-- The TIC takes commands: its page is enabled and it is not shunted. -/
def State.ticServes (s : State) (t : Nat) : Bool := s.flag (R.PG_CTRL_EN (P.TIC t)) && !s.flag (R.PG_STAT_SHUNTED (P.TIC t))

/-- A source code as it acts (R217). -/
def srcCode (n : Nat) : Nat := if n < 16 then n else 0

/-- The configuration in force, as a measurement takes it at arming. -/
def State.ticConfig (s : State) (t : Nat) : TicCfg :=
  { startSrc := srcCode (s.get (R.TIC_CFG_START_SRC t)), stopSrc := srcCode (s.get (R.TIC_CFG_STOP_SRC t)), seq := s.flag (R.TIC_CFG_ORDER t),
    startFall := s.flag (R.TIC_CFG_START_EDGE t), stopFall := s.flag (R.TIC_CFG_STOP_EDGE t), holdoff := min 64000000000 (s.get (R.TIC_HOLDOFF_NS t)), skip := s.get (R.TIC_SKIP_N t), timeout := s.get (R.TIC_TIMEOUT_MS t) }

/-- The words of a measurement are cleared at arming. -/
def State.clearMeas (s : State) (t : Nat) : State :=
  let s := (s.wr (R.TIC_START_RAW t) 0).wr (R.TIC_STOP_RAW t) 0
  let s := ((s.wrT (R.TIC_START_T t) 0).wrT (R.TIC_STOP_T t) 0).wrS (R.TIC_STEP_SUM t) 0
  ((s.set (R.TIC_STATUS_START_OK t) 0).set (R.TIC_STATUS_STOP_OK t) 0).set (R.TIC_STATUS_LATE_ARM t) 0

/-- The TIC arms (R219). -/
def State.ticArmNow (s : State) (t : Nat) (late : Bool) : State :=
  let cfg := s.ticConfig t
  let s := ((s.clearMeas t).set (R.TIC_STATUS_STATE t) 1).setFlag (R.TIC_STATUS_LATE_ARM t) late
  s.putTic t { s.ticOf t with cfg := cfg, skipLeft := cfg.skip, marks := 0, startIdx := 0, stopIdx := 0, steps := [], armAt := none, calKind := 0 }

/-- ARM and ARM_AT before they arm (R220): STATE, CAL, CFG, or a pending ARM is admitted and an automatic calibration abandoned. -/
def State.ticAdmit (s : State) (t : Nat) (k : State → State) : State :=
  let c := s.ticConfig t
  if !s.ticServes t then s.set (R.TIC_CMD_STATUS t) 7
  else if s.ticSt t = 4 ∧ (s.ticOf t).calKind ≠ 2 then s.set (R.TIC_CMD_STATUS t) 6
  else if c.startSrc = 0 ∨ (c.seq ∧ c.stopSrc = 0 ∧ c.skip ≠ 0) then (s.set (R.TIC_CMD_STATUS t) 5).raise (P.TIC t) E.TIC_CFG_ERR
  else
    let s := s.set (R.TIC_CMD_STATUS t) 1
    k (if s.ticSt t = 4 then (s.set (R.TIC_STATUS_STATE t) (s.ticOf t).back).putTic t { s.ticOf t with calKind := 0 } else s)

/-- ARM and ARM_AT as they are written: while a commanded calibration runs they complete with status CAL, and it runs on (R220). -/
def State.ticCmd (s : State) (m : Master) (t : Nat) (k : State → State) : State :=
  if s.ticSt t = 4 ∧ (s.ticOf t).calKind = 1 then s.hostWrite m (R.TIC_CMD t) fun s => s.set (R.TIC_CMD_STATUS t) 6
  else s.hostCmd m (R.TIC_CMD_STATUS t) fun s => s.ticAdmit t k

/-- TIC_ARM (R219, R220). -/
def execTicArm (m : Master) (tic : Nat) (s : State) : Host.Outcome State Fault Refusal :=
  withUnit tic 8 (s.ticCmd m tic fun s => s.ticArmNow tic false)

/-- TIC_ARM_AT (R219): arms at the instant of TIC.ARM_AT, or at once with LATE_ARM when that is past. -/
def execTicArmAt (m : Master) (tic tick : Nat) (s : State) : Host.Outcome State Fault Refusal :=
  withUnit tic 8 (s.ticCmd m tic fun s =>
    let t := ofT108 (s.rdT (R.TIC_ARM_AT tic))
    if t ≤ s.rhTime tick then s.ticArmNow tic true else s.putTic tic { s.ticOf tic with armAt := some t })

/-- TIC_ARM_AT_REACHED (R219): RH's counter has reached the instant of ARM_AT at `tick`. -/
def execTicArmAtReached (tic tick : Nat) (s : State) : Host.Outcome State Fault Refusal :=
  withUnit tic 8 (s.inRh (
    match (s.ticOf tic).armAt with
    | some t => if t ≤ s.rhTime tick then s.ticArmNow tic false else s
    | none => s))

/-- TIC.STEP_SUM (R223): the steps applied after the earlier stamped edge and at or before the later one. -/
def stepSum (c : TicState) : Int :=
  let a := min c.startIdx c.stopIdx
  let b := max c.startIdx c.stopIdx
  let z := (c.steps.filter (fun p => decide (a < p.1 ∧ p.1 ≤ b))).foldl (fun z p => z + p.2) 0
  if c.startIdx ≤ c.stopIdx then z else -z

/-- A measurement ends with the status and STATE given; STEP_SUM is formed when both edges are stamped. -/
def State.ticEnd (s : State) (t status st : Nat) : State :=
  let both := s.flag (R.TIC_STATUS_START_OK t) && s.flag (R.TIC_STATUS_STOP_OK t)
  let s := if both then s.wrS (R.TIC_STEP_SUM t) (stepSum (s.ticOf t)) else s
  ((s.set (R.TIC_CMD_STATUS t) status).set (R.TIC_STATUS_STATE t) st).putTic t { s.ticOf t with armAt := none }

/-- A measurement in progress, or an ARM_AT that waits, ends ABORT (R220). -/
def State.ticAbort (s : State) (t : Nat) : State :=
  if s.ticArmed t || (s.ticOf t).armAt.isSome then (s.ticEnd t 4 0).raise (P.TIC t) E.TIC_ABORT else s

/-- A calibration in progress is abandoned and the old tables are kept (R220). -/
def State.ticDropCal (s : State) (t : Nat) : State :=
  if s.ticSt t = 4 then
    let c := s.ticOf t
    let s := if c.calKind = 1 then s.set (R.TIC_CMD_STATUS t) 4 else s
    (s.set (R.TIC_STATUS_STATE t) 0).putTic t { c with calKind := 0 }
  else s

/-- The raw word of R221. -/
def State.ticRaw (s : State) (t : Nat) (c : ConvTable) (tick phase tap : Nat) : Word :=
  BitVec.ofNat 36 (tick % 2 ^ 18 * 2 ^ 18 + phase % 32 * 2 ^ 13 + tap % 256 * 2 ^ 5 + 2 ^ 4 + (if s.flag R.VOTE_OSC_STAT_OCXO_WARM then 0 else 8) +
    (if c.uncal then 4 else 0) + (if c.far (s.tempOf islRH) (s.get1 (R.TIC_CAL_CTRL_DTEMP t)) then 2 else 0) +
    (if s.flag R.VOTE_STATUS_TS_SET then 0 else 1))

/-- PATH of a source in units of 2^-48 ns (R222). -/
def ticPathU (t : Nat) (stop : Bool) (src : Nat) : Int :=
  if src = 0 ∨ 13 ≤ src then 0 else ofPs (Config.ticPath t (if stop then 1 else 0) src)

/-- The scale instant, in 2^-48 ns, of the GNSS second pulse nearest `t`: where the latest time solution, extrapolated at its own frequency from the one before,
puts a whole second (R247). -/
def State.gnsSecond (s : State) (t : Int) : Option Int :=
  match s.gns.sol with
  | [] => none
  | (t1, o1) :: l =>
    let p := (l.head?).getD (t1, o1)
    let dt := t1 - p.1
    let df := (o1 - p.2) * s72U
    let at_ := nearQ (t + o1 * s72U) secU.toNat * secU - o1 * s72U
    some (if dt ≤ 0 then at_ else t1 + quot ((at_ - t1) * dt) (dt + df).toNat)

/-- The GNSS second pulse falls in the AXCLK tick given, in a step of 1.5 ps; there is none without a time solution, older than two seconds, or while SUSPECT (R247;
log entry 14). -/
def State.gnsPulse (s : State) (tick : Nat) : Bool :=
  let c := s.ctrOf islRH
  match s.gnsSecond (c.at_ tick) with
  | some t =>
    let p := s.placedEdge (t * 1000)
    s.flag R.GNS_STATUS_TIME_OK && !s.flag R.GNS_STATUS_SUSPECT && decide (t - (s.gns.sol.headD (0, 0)).1 < 2 * secU) &&
      decide (c.at_ tick * 1000 ≤ p ∧ p < c.at_ (tick + 1) * 1000)
  | none => false

/-- The source gives an edge at a tick (R217): an input that is off and an output that is muted or braked give none, AXMARK and the second mark give theirs at tick 0
of their mark, and there is no GNSS second pulse without a time solution, while SUSPECT, or in another tick than its own (R247). -/
def State.ticSrcGives (s : State) (src tick : Nat) : Bool :=
  if src = 0 then false
  else if src ≤ 4 then decide (s.get (R.SEL_REFIN_CFG_MODE (src - 1)) < 2 ∧ s.boot.pins = .driven)
  else if src ≤ 12 then decide (s.get (outSrc (src - 5)) = 1 ∨ s.get (outSrc (src - 5)) = 2)
  else if src = 13 then decide (tick = 0)
  else if src = 14 then decide (tick = 0) && s.ax.secMark
  else s.gnsPulse tick

/-- The edge qualifies by its direction; AXMARK and the second mark have none (R217, R218). -/
def edgeFits (src : Nat) (want falling : Bool) : Bool := decide (src = 13 ∨ src = 14) || (want == falling)

/-- A channel takes its edge. -/
def State.ticTake (s : State) (t : Nat) (stop : Bool) (tick phase tap : Nat) (stamp : Int) : State :=
  let c := s.ticOf t
  let w := s.ticRaw t (if stop then c.stop else c.start) tick phase tap
  let s :=
    if stop then (((s.wr (R.TIC_STOP_RAW t) w).wrT (R.TIC_STOP_T t) (toT108 stamp)).set (R.TIC_STATUS_STOP_OK t) 1).putTic t { c with stopT := stamp, stopIdx := c.marks }
    else (((s.wr (R.TIC_START_RAW t) w).wrT (R.TIC_START_T t) (toT108 stamp)).set (R.TIC_STATUS_START_OK t) 1).putTic t { c with startT := stamp, startIdx := c.marks }
  let s := if stop then s else s.set (R.TIC_STATUS_STATE t) 2
  let needStop := decide (c.cfg.stopSrc ≠ 0)
  if s.flag (R.TIC_STATUS_START_OK t) && (!needStop || s.flag (R.TIC_STATUS_STOP_OK t)) then
    ((s.ticEnd t 2 3).bump (R.TIC_MEASURES_COUNT t)).raise (P.TIC t) E.TIC_DONE
  else s

/-- TIC_EDGE (R215 to R223, R247): an edge of a channel's source with its code; the channel takes it when it is enabled and the edge qualifies. -/
def execTicEdge (tic : Nat) (stop falling : Bool) (tick phase tap : Nat) (s : State) : Host.Outcome State Fault Refusal :=
  withUnit tic 8 (s.inRh (
    let c := s.ticOf tic
    let src := if stop then c.cfg.stopSrc else c.cfg.startSrc
    let stamp := s.rhTime tick + (if stop then c.stop else c.start).offset phase tap - ticPathU tic stop src
    if !s.ticArmed tic || !s.ticSrcGives src tick || !edgeFits src (if stop then c.cfg.stopFall else c.cfg.startFall) falling then s
    else if !stop then (if s.flag (R.TIC_STATUS_START_OK tic) then s else s.ticTake tic false tick phase tap stamp)
    else if s.flag (R.TIC_STATUS_STOP_OK tic) then s
    else if c.cfg.seq then
      if !s.flag (R.TIC_STATUS_START_OK tic) || decide (stamp < c.startT + c.cfg.holdoff * nsU) then s
      else if 0 < c.skipLeft then s.putTic tic { c with skipLeft := c.skipLeft - 1 }
      else s.ticTake tic true tick phase tap stamp
    else s.ticTake tic true tick phase tap stamp))

/-- TIC_TIMEOUT (R219): TIC.TIMEOUT milliseconds have passed from arming; stamps taken are kept. -/
def execTicTimeout (tic : Nat) (s : State) : Host.Outcome State Fault Refusal :=
  withUnit tic 8 (s.inRh (
    if s.ticArmed tic ∧ (s.ticOf tic).cfg.timeout ≠ 0 then
      ((s.ticEnd tic 3 0).bump (R.TIC_TIMEOUTS_COUNT tic)).raise (P.TIC tic) E.TIC_TIMEOUT
    else s))

/-- TIC_DISARM (R9, R220): admitted while a command runs; a measurement ends ABORT; status STATE when nothing is armed, and a calibration runs on. -/
def execTicDisarm (m : Master) (tic : Nat) (s : State) : Host.Outcome State Fault Refusal :=
  withUnit tic 8 (s.hostWrite m (R.TIC_CMD tic) fun s =>
    if s.ticArmed tic || (s.ticOf tic).armAt.isSome then s.ticAbort tic
    else s.set (R.TIC_CMD_STATUS tic) 7)

/-- A calibration of the TIC begins. -/
def State.ticCalStart (s : State) (t kind : Nat) : State :=
  let st := s.ticSt t
  (s.set (R.TIC_STATUS_STATE t) 4).putTic t { s.ticOf t with calKind := kind, back := if st = 4 then (s.ticOf t).back else st }

/-- TIC_CALIBRATE (R226): a commanded calibration begins; an automatic one under way becomes the commanded one. -/
def execTicCalibrate (m : Master) (tic : Nat) (s : State) : Host.Outcome State Fault Refusal :=
  withUnit tic 8 (s.hostCmd m (R.TIC_CMD_STATUS tic) fun s =>
    if !s.ticServes tic then s.set (R.TIC_CMD_STATUS tic) 7
    else (s.set (R.TIC_CMD_STATUS tic) 1).ticCalStart tic 1)

/-- An island's sensor reads `temp`: the flags that follow from it are shown again (R226, R228). -/
def State.newTemp (s : State) (island : Nat) (temp : Int) : State :=
  let s := s.putTemp island temp
  if island = islRH then (List.range 8).foldl (fun t k => t.showCal k) s else s.showPairs island

/-- TIC_AUTO_CAL (R226): the RH sensor reads `temp`; an idle TIC whose tables were made more than DTEMP from it calibrates while AUTO is 1. -/
def execTicAutoCal (tic : Nat) (temp : Int) (s : State) : Host.Outcome State Fault Refusal :=
  withUnit tic 8 (s.inRh (
    let s := s.newTemp islRH temp
    let st := s.ticSt tic
    if s.ticServes tic ∧ s.flag (R.TIC_CAL_CTRL_AUTO tic) ∧ (st = 0 ∨ st = 3 ∨ st = 5) ∧ (s.ticOf tic).armAt.isNone ∧ s.flag (R.TIC_STATUS_CAL_STALE tic) then
      s.ticCalStart tic 2
    else s))

/-- The edge count of a TIC's calibration (R225). -/
def State.calEdges (s : State) (t : Nat) : Nat :=
  let e := s.get (R.TIC_CAL_CTRL_EDGES t)
  2 ^ (16 + (if 4 ≤ e ∧ e ≤ 8 then e else 8))

/-- The first check that a channel's result of a TIC calibration fails, 0 when both pass (R228). -/
def State.ticCalWhy (s : State) (t : Nat) (r0 r1 : CalResult) : Nat :=
  let w0 := calWhy (s.calEdges t) r0
  if w0 = 0 then calWhy (s.calEdges t) r1 else w0

/-- Both results of a TIC calibration taken (R225, R226, R228): each accepted one replaces its table; the first failing check is shown, and each converter's result
recorded (R231). -/
def State.ticCalTake (s : State) (t : Nat) (r0 r1 : CalResult) (temp : Int) : State :=
  let w0 := calWhy (s.calEdges t) r0
  let w1 := calWhy (s.calEdges t) r1
  let why := s.ticCalWhy t r0 r1
  let c := s.ticOf t
  let n := c.calNo + 1
  let c := { c with calNo := n, start := if w0 = 0 then calTable r0 temp else c.start, stop := if w1 = 0 then calTable r1 temp else c.stop,
                    startNo := if w0 = 0 then n else c.startNo, stopNo := if w1 = 0 then n else c.stopNo }
  let s := (s.putTic t c).newTemp islRH temp
  let s := if why = 0 then ((s.setS (R.TIC_CAL_STAT_TEMP t) temp).bump (R.TIC_CAL_COUNT_COUNT t)).raise (P.TIC t) E.TIC_CAL_DONE
    else ((s.set (R.TIC_CAL_STAT_WHY t) why).bump (R.TIC_CAL_FAILS_COUNT t)).raise (P.TIC t) E.TIC_CAL_FAIL
  let s := if c.start.uncal || c.stop.uncal then s.pulse 9 else s
  (s.trig islRH 0x58 [t, w0, ofSigned 36 temp]).trig islRH 0x58 [t, w1, ofSigned 36 temp]

/-- TIC_CAL_DONE (R224 to R228): the calibration ends; a commanded one completes DONE or FAIL. -/
def execTicCalDone (tic : Nat) (r0 r1 : CalResult) (temp : Int) (s : State) : Host.Outcome State Fault Refusal :=
  withUnit tic 8 (s.inRh (
    if s.ticSt tic ≠ 4 then s
    else
      let kind := (s.ticOf tic).calKind
      let ok := decide (s.ticCalWhy tic r0 r1 = 0)
      let back := (s.ticOf tic).back
      let s := s.ticCalTake tic r0 r1 temp
      let c := s.ticOf tic
      let s := if kind = 1 then s.set (R.TIC_CMD_STATUS tic) (if ok then 2 else 8) else s
      let s := s.set (R.TIC_STATUS_STATE tic) (if c.start.uncal || c.stop.uncal then 5 else if back = 5 then 0 else back)
      s.putTic tic { s.ticOf tic with calKind := 0 }))

/-- TIC_DISABLE (R220): PG_CTRL.EN is cleared: the measurement ends ABORT, a calibration is abandoned. -/
def execTicDisable (m : Master) (tic : Nat) (s : State) : Host.Outcome State Fault Refusal :=
  withUnit tic 8 (s.hostWrite m (R.PG_CTRL (P.TIC tic)) fun s => (((s.set (R.PG_CTRL_EN (P.TIC tic)) 0).ticAbort tic).ticDropCal tic))

/-- A step or load of `amount` S72 units at an AXMARK, in the measurements in progress (R223); with 0 the mark is counted only. -/
def State.ticMark (s : State) (amount : Int) : State :=
  (List.range 8).foldl (fun t k =>
    if t.ticArmed k then
      let c := t.ticOf k
      t.putTic k { c with marks := c.marks + 1, steps := if amount = 0 then c.steps else c.steps ++ [(c.marks + 1, amount)] }
    else t) s

/-! ## Pair calibrations (R227, R228) -/

/-- One member's result at an edge count of 2^24 (R224, R228). -/
def State.pairTake (s : State) (pair m : Nat) (r : CalResult) (temp : Int) : State :=
  let c := s.pairOf pair
  let why := calWhy (2 ^ 24) r
  let s := s.newTemp (pairIsland pair) temp
  let s :=
    if why = 0 then
      let s := s.putPair pair (c.put m (calTable r temp) 0)
      if pair < 8 then s.bump (R.TIC_RH_RECALS_COUNT 0) else s
    else
      let n := c.fails m + 1
      let s := s.putPair pair (c.put m (c.table m) n)
      if n = 3 then s.pulse (pairLine pair) else s
  (s.showPair pair).trig (pairIsland pair) 0x58 [8 + pair, why, ofSigned 36 temp]

/-- PAIR_RECAL (R227, R228): the off-duty member has recalibrated; an accepted member goes on duty at the next AXMARK.  A pair with a FAILED member
recalibrates no more, and only the temperature counts. -/
def execPairRecal (pair : Nat) (r : CalResult) (temp : Int) (s : State) : Host.Outcome State Fault Refusal :=
  withUnit pair pairCount (
    let c := s.pairOf pair
    if !s.up (pairIsland pair) then s
    else if c.failed 0 || c.failed 1 then (s.newTemp (pairIsland pair) temp).showPair pair
    else
      let m := 1 - c.duty
      let s := s.pairTake pair m r temp
      s.putPair pair { s.pairOf pair with swap := decide (calWhy (2 ^ 24) r = 0) })

/-- PAIR_SWAP (R227): at the AXMARK the accepted member goes on duty; `tick`: AXCLK ticks since the AXMARK, 0 at the mark itself. -/
def execPairSwap (pair tick : Nat) (s : State) : Host.Outcome State Fault Refusal :=
  withUnit pair pairCount (
    let c := s.pairOf pair
    if c.swap ∧ tick = 0 then
      let s := s.putPair pair { c with duty := 1 - c.duty, swap := false }
      (s.showPair pair).trig (pairIsland pair) 0x58 [8 + pair, 0, ofSigned 36 (s.tempOf (pairIsland pair))]
    else s)

/-- Both members of a pair calibrate, at start or at a coach's return (R227, R228): the first accepted one is on duty; when both fail the line is raised.  Each member's result is recorded (R231). -/
def State.pairStart (s : State) (pair : Nat) (r0 r1 : CalResult) (temp : Int) : State :=
  let w0 := calWhy (2 ^ 24) r0
  let w1 := calWhy (2 ^ 24) r1
  let s := s.putPair pair { duty := if w0 = 0 ∨ w1 ≠ 0 then 0 else 1, t0 := if w0 = 0 then calTable r0 temp else .nominal,
                            t1 := if w1 = 0 then calTable r1 temp else .nominal, fails0 := if w0 = 0 then 0 else 1, fails1 := if w1 = 0 then 0 else 1, swap := false }
  let s := s.newTemp (pairIsland pair) temp
  let s := if w0 ≠ 0 ∧ w1 ≠ 0 then s.pulse (pairLine pair) else s
  ((s.showPair pair).trig (pairIsland pair) 0x58 [8 + pair, w0, ofSigned 36 temp]).trig (pairIsland pair) 0x58 [8 + pair, w1, ofSigned 36 temp]

end Sys2Proof.Machine
end

