-- ==== Sys2Proof/Machine/Cand.lean ====
section
/-! DEFINITION.
Reference candidates: bindings, samples and their checks, candidate states, ESMC and the offset feed (R140 to R148, R158, R161).
-/
namespace Sys2Proof.Machine
open Sys2Proof

/-! ## Bindings (R140, R141) -/

def State.candSt (s : State) (k : Nat) : Nat := s.get (R.CAND_STATUS_STATE k)

/-- The source of a slot as it acts: a SRC value outside R140's table acts as 0. -/
def State.candSrc (s : State) (k : Nat) : Nat := if s.get (R.CAND_BIND_SRC k) ≤ 6 then s.get (R.CAND_BIND_SRC k) else 0

def State.candUnit (s : State) (k : Nat) : Nat := s.get (R.CAND_BIND_UNIT k)

/-- The slot is a frequency candidate: REF_IN in FREQ mode, SyncE or ATOM. -/
def State.candFreq (s : State) (k : Nat) : Bool :=
  let src := s.candSrc k
  decide (src = 4 ∨ src = 6) || (decide (src = 1) && decide (s.get (R.SEL_REFIN_CFG_MODE (s.candUnit k)) = 1))

/-- The slot is bound to a REF_IN input in PPS mode. -/
def State.candPps (s : State) (k : Nat) : Bool := decide (s.candSrc k = 1) && decide (s.get (R.SEL_REFIN_CFG_MODE (s.candUnit k)) = 0)

/-- The UNIT names a unit of the source (R141). -/
def unitOk (src unit : Nat) : Bool :=
  match src with
  | 1 => decide (unit ≤ 3)
  | 3 => decide (unit ≤ 23)
  | 4 => decide (unit ≤ 23)
  | 5 => decide (unit ≤ 1)
  | _ => true

/-- A binding keeps the limits of R141 beside the bindings `l` of the lower slots. -/
def bindFits (l : List (Nat × Nat)) (src unit : Nat) : Bool :=
  let n := (l.filter (fun p => decide (p.1 = src))).length
  let clash := l.any (fun p => decide (p.2 = unit ∧ (p.1 = 3 ∨ p.1 = 4)))
  match src with
  | 1 => !l.contains (1, unit)
  | 2 => decide (n = 0)
  | 3 => decide (n < 2) && !clash
  | 4 => decide (n < 4) && !clash
  | 5 => !l.contains (5, unit)
  | 6 => decide (n = 0)
  | _ => true

/-- The slots whose binding is refused, in ascending order, and the bindings that stand.  A slot of rank 0 or without a source binds nothing and is refused
nothing (DESIGN CHOICE, log entry 11). -/
def State.bindErrs (s : State) : List Nat × List (Nat × Nat) :=
  (List.range 12).foldl (fun acc k =>
    let src := s.candSrc k
    let u := s.candUnit k
    if s.get (R.CAND_BIND_RANK k) = 0 ∨ src = 0 then acc
    else if unitOk src u && bindFits acc.2 src u then (acc.1, acc.2 ++ [(src, u)])
    else (acc.1 ++ [k], acc.2)) ([], [])

/-- The slot is enabled: a rank, a source, and no refused binding. -/
def State.candOn (s : State) (k : Nat) : Bool :=
  decide (s.get (R.CAND_BIND_RANK k) ≠ 0) && decide (s.candSrc k ≠ 0) && !s.flag (R.CAND_STATUS_BIND_ERR k)

/-- A slot is eligible (R148). -/
def State.eligible (s : State) (k : Nat) : Bool :=
  decide (s.candSt k = 4) && !bitOn s.sel.lockout k && decide (s.candSrc k ≠ 6)

/-! ## State changes (R145, R147) -/

/-- The wait-to-restore of a slot ends (R147). -/
def State.wtrEnd (s : State) (k : Nat) : State :=
  let s := (s.set (R.CAND_STATUS_WTR_RUN k) 0).set (R.CAND_WTR_LEFT_S k) 0
  (s.putSlot k { s.slotOf k with wtrMs := 0, manualOk := true }).raise (P.CAND k) E.CAND_WTR_DONE

/-- The wait-to-restore starts at the entry to QUALIFIED; a wait of 0 s ends at once (R147). -/
def State.wtrStart (s : State) (k : Nat) : State :=
  let w := min 3600 (s.get (R.CAND_WTR_S k))
  if w = 0 then s.wtrEnd k
  else ((s.set (R.CAND_STATUS_WTR_RUN k) 1).set (R.CAND_WTR_LEFT_S k) w).putSlot k { s.slotOf k with wtrMs := 1000 * w }

/-- What entering a state starts and what leaving one ends. -/
def State.candEnter (s : State) (k new : Nat) : State :=
  let c := s.slotOf k
  let s := (s.set (R.CAND_STATUS_WTR_RUN k) 0).set (R.CAND_WTR_LEFT_S k) 0
  let s := s.putSlot k { c with wtrMs := 0, qualMs := 0, betterSeen := false }
  if new = 3 then
    let q := s.get1 (R.CAND_QUAL_S k)
    (s.set (R.CAND_QUAL_LEFT_S k) q).putSlot k { s.slotOf k with qualMs := 1000 * q }
  else
    let s := s.set (R.CAND_QUAL_LEFT_S k) 0
    if new = 4 then s.wtrStart k else s

/-- A candidate changes state: event STATE, LOSSES, and a CAND record (R145, R162, R466). -/
def State.setCand (s : State) (k new why : Nat) : State :=
  let old := s.candSt k
  if old = new then s
  else
    let s := s.set (R.CAND_STATUS_STATE k) new
    let s := if new = 1 then s.set (R.CAND_STATUS_WHY k) why else s
    let s := if (old = 4 ∨ old = 5) ∧ (new = 1 ∨ new = 6) then s.bump (R.CAND_LOSSES_COUNT k) else s
    let s := (s.candEnter k new).raise (P.CAND k) E.CAND_STATE
    s.trig islRH 0x30 [k, old, new, s.get (R.CAND_STATUS_WHY k), (s.rd (R.CAND_FREQ k)).toNat, (s.rd (R.CAND_NOISE k)).toNat]

/-- The slot qualifies (R147). -/
def State.qualify (s : State) (k : Nat) : State := s.setCand k 4 0

/-! ## The line fit, the frequency and the noise (R146) -/

/-- Whole square root, at most 2^36 - 1. -/
def isqrt (n : Nat) : Nat :=
  (List.range 36).foldr (fun b r => if (r + 2 ^ b) * (r + 2 ^ b) ≤ n then r + 2 ^ b else r) 0

/-- The sums of a least-squares line over samples, instants counted from `t0`. -/
structure FitSums where
  n : Int
  x : Int
  y : Int
  xx : Int
  xy : Int
  yy : Int

def fitSums (l : List Meas) (t0 : Int) : FitSums :=
  l.foldl (fun f m =>
    let x := m.t - t0
    { n := f.n + 1, x := f.x + x, y := f.y + m.o, xx := f.xx + x * x, xy := f.xy + x * m.o, yy := f.yy + m.o * m.o })
    { n := 0, x := 0, y := 0, xx := 0, xy := 0, yy := 0 }

/-- The line's value at `x` as numerator and denominator; no line through fewer than two instants (DEDUCED, log entry 11). -/
def FitSums.at_ (f : FitSums) (x : Int) : Option (Int × Nat) :=
  let sxx := f.n * f.xx - f.x * f.x
  let sxy := f.n * f.xy - f.x * f.y
  if f.n < 2 ∨ sxx ≤ 0 then none else some (f.y * sxx + sxy * (f.n * x - f.x), (f.n * sxx).toNat)

/-- A sample lies more than `lim` ps from the line. -/
def isHit (l : List Meas) (m : Meas) (lim : Nat) : Bool :=
  match (fitSums l m.t).at_ 0 with
  | none => false
  | some (p, d) => decide ((lim * 65536 * d : Int) < ((m.o * d - p).natAbs * 1000 : Nat))

/-- The rms residual of the line in ps, 0 through fewer than three samples. -/
def noisePs (l : List Meas) : Nat :=
  let f := fitSums l (l.head?.map (·.t) |>.getD 0)
  let sxx := f.n * f.xx - f.x * f.x
  let sxy := f.n * f.xy - f.x * f.y
  let syy := f.n * f.yy - f.y * f.y
  if f.n < 3 ∨ sxx ≤ 0 then 0
  else
    let num := ((syy * sxx - sxy * sxy) * 1000000).toNat
    let den := (f.n * f.n * sxx * 4294967296).toNat
    let r := isqrt (num / den)
    if r * r * den = num then r else if Config.roundUp num den then sat36 (r + 1) else r

/-- Nominal OCXO time at a scale instant near the last AXMARK. -/
def State.ocxoAt (s : State) (t : Int) : Int :=
  s.ax.ocxo + quot ((t - s.ax.mark) * nsU) (nsU + s.getS R.VOTE_FREQ_Y).toNat

/-- CAND.FREQ over the window, newest point first: from its first and last points (DESIGN CHOICE, log entry 11). -/
def winFreq (l : List FreqPt) : Int :=
  match l.head?, l.getLast? with
  | some a, some b =>
    if a.u - b.u ≤ 0 then 0
    else clampInt (-34359738368) 34359738367 (quot (((a.c - a.u) - (b.c - b.u)) * nsU) (a.u - b.u).toNat)
  | _, _ => 0

/-! ## Derived registers -/

def State.selected (s : State) : Nat := s.get R.SEL_STATUS_SELECTED

/-- CAND.DIFF of every slot (R161): its offset minus the selected one's, 0 when none is selected; an ATOM slot's reads 0 (R146). -/
def State.showDiffs (s : State) : State :=
  let cur := s.selected
  (List.range 12).foldl (fun t k =>
    let d := if cur < 12 ∧ t.candOn k ∧ t.candSrc k ≠ 6 then t.rdS (R.CAND_OFFSET k) - t.rdS (R.CAND_OFFSET cur) else 0
    if t.rdS (R.CAND_DIFF k) = d then t else t.wrS (R.CAND_DIFF k) d) s

/-- The quality of a SyncE code, best first (R161); an unlisted code ranks as DNU. -/
def ssmRank (c : Nat) : Nat :=
  match c with
  | 2 => 0
  | 4 => 1
  | 8 => 2
  | 11 => 3
  | _ => 4

/-- Input cycles for each stamped edge of a FREQ input (R142): above 25 MHz the prescaler's factor is the implementation's (log entry 40). -/
def prescale (nom : Nat) : Nat := if nom ≤ 1600000000 then 1 else (nom + 1599999999) / 1600000000 + Config.prescale nom

/-- Nominal time of the edges counted on a FREQ input, in seconds over CAND.NOM (R143). -/
def State.edgeTime (s : State) (k n : Nat) : Int := (n * prescale (s.get1 (R.CAND_NOM_HZ k)) * 64 : Nat) * secU

/-- Phase accumulated on a FREQ input by its counted edges (R143). -/
def State.edgePhase (s : State) (k : Nat) (r : RefStamp) : Int := quot (s.edgeTime k r.cycles) (s.get1 (R.CAND_NOM_HZ k))

/-- The input's period, between its last two stamped edges, lies within 1e-4 of CAND.NOM (R140). -/
def State.periodOk (s : State) (k : Nat) (r : RefStamp) : Bool :=
  let d := (r.stamp - r.prev.getD r.stamp) * s.get1 (R.CAND_NOM_HZ k)
  decide ((d - s.edgeTime k 1).natAbs * 10000 ≤ s.edgeTime k 1)

/-- The source-specific condition of R140 fails with this WHY, 0 when it holds (R146); `srcOk`: what only the caller knows of it. -/
def State.srcWhy (s : State) (k : Nat) (srcOk : Bool) : Nat :=
  match s.candSrc k with
  | 1 => if s.candFreq k && !srcOk then 3 else 0
  | 3 =>
    let good := match (s.slotOf k).annClass with
      | some c => decide (c ≤ s.get (R.CAND_PTP_CFG_CLASS_MAX k))
      | none => false
    if good && srcOk then 0 else 6
  | 4 => if ssmRank (s.get (R.CAND_ESMC_SSM k)) ≤ ssmRank (s.get (R.CAND_QL_MIN_SSM k)) ∧ srcOk then 0 else 5
  | 5 => if srcOk then 0 else 7
  | 6 => if s.flag R.VOTE_OSC_STAT_CELL_LOCK && s.flag R.VOTE_OSC_STAT_OCXO_WARM then 0 else 10
  | _ => 0

/-! ## Samples -/

/-- The checks of R146 after a sample: the WHY of the first that fails, 0 when all pass. -/
def State.candWhy (s : State) (k : Nat) (srcOk : Bool) : Nat :=
  if 3 ≤ (s.slotOf k).hits.length then 2
  else if s.getS (R.CAND_FR_LIM_Y k) < (s.getS (R.CAND_FREQ_Y k)).natAbs then 3
  else if s.get (R.CAND_NS_LIM_PS k) < s.get (R.CAND_NOISE_PS k) then 4
  else s.srcWhy k srcOk

/-- The origin of a frequency candidate moves so that the offset at `t` is 0 (R143, R153); the stored offsets follow. -/
def State.freqOrigin (s : State) (k : Nat) (c t : Int) : State :=
  let sl := s.slotOf k
  match sl.origin with
  | none => s.putSlot k { sl with origin := some (c - t) }
  | some o0 =>
    let d := quot (c - t - o0) s72U.toNat
    let mv (l : List Meas) : List Meas := l.map (fun m => { m with o := m.o - d })
    (s.putSlot k { sl with origin := some (c - t), fit := mv sl.fit, prep := mv sl.prep }).wrS (R.CAND_OFFSET k) (s.rdS (R.CAND_OFFSET k) - d)

/-- The number of samples in the line fit. -/
def State.noiseWin (s : State) (k : Nat) : Nat := s.getOr (R.CAND_NOISE_WIN_N k) 16 1024 64

/-- CAND.OFFSET (R146): the line at the newest accepted sample, or that sample while fewer than two count. -/
def State.candOffset (s : State) (k : Nat) : Int :=
  let c := s.slotOf k
  match c.fit with
  | [] => 0
  | m :: _ =>
    if c.nacc < 2 then m.o
    else match (fitSums c.fit m.t).at_ 0 with
      | some (p, d) => quot p d
      | none => m.o

/-- A slot leaves LOST at an accepted sample: the samples counted for FREQ and OFFSET start with this one, and a frequency candidate's offset at 0 (R143, R146). -/
def State.leaveLost (s : State) (k : Nat) (pt : FreqPt) (t c : Int) (wait : Bool) : State :=
  let s := s.putSlot k { s.slotOf k with win := [pt], nacc := 1 }
  let s := if s.candFreq k then s.freqOrigin k c t else s
  ((s.wrS (R.CAND_OFFSET k) (s.candOffset k)).setCand k (if wait then 2 else 3) 0).showDiffs

/-- The state follows from the checks (R145).  A failed PHASE starts the line afresh, and a discarded sample never ends LOST (log entry 11). -/
def State.candJudge (s : State) (k why : Nat) (hit : Bool) (pt : FreqPt) (t c : Int) : State :=
  let st := s.candSt k
  let s := if why = 2 then s.putSlot k { s.slotOf k with fit := [] } else s
  if st = 6 ∨ st = 0 then s
  else if why ≠ 0 then s.setCand k 1 why
  else
    let wait := s.candPps k && !s.flag R.VOTE_STATUS_TS_SET
    if st = 1 then (if hit then s else s.leaveLost k pt t c wait)
    else if st = 2 ∧ !wait then s.setCand k 3 0
    else s

/-- The sample goes to the servo: the slot is selected, the host does not feed, and the phase of R152 lets it pass (R144). -/
def State.feedPasses (s : State) (k : Nat) (t : Int) : Bool :=
  decide (s.selected = k) && !s.flag R.SRV_FEED_CTRL_HOST && !s.flag R.DUG_STATUS_FOLLOW &&
    (match s.get R.SEL_STATUS_STATE with
     | 2 => s.eligible k
     | 3 => s.eligible k
     | 4 => decide (t < s.sel.mcT)
     | 5 => decide (s.sel.feedFrom ≤ t)
     | 6 => decide (s.sel.feedFrom ≤ t)
     | _ => false)

/-- One feed sample to the cores (R144). -/
def State.feed (s : State) (k : Nat) (cold : Bool) (t o : Int) : State :=
  if s.feedPasses k t then
    let f : FeedSample := { slot := k, freq := s.candFreq k, first := s.sel.firstNext, cold := cold, t := cutT t, o := o + quot s.sel.bias 1000000 }
    { s with sel := { s.sel with firstNext := false } }.sendFeed f
  else s

/-- The target's offsets are collected in PREPARE (R152). -/
def State.collect (s : State) (k : Nat) (m : Meas) : State :=
  if s.get R.SEL_STATUS_STATE = 3 ∧ s.get R.SEL_STATUS_TARGET = k then s.putSlot k { s.slotOf k with prep := m :: (s.slotOf k).prep } else s

/-- An accepted sample enters the fit and the window; OFFSET, NOISE, FREQ and DIFF follow. -/
def State.candAccept (s : State) (k : Nat) (m : Meas) (pt : FreqPt) : State :=
  let c := s.slotOf k
  let w : Int := s.getOr R.SEL_FREQ_WIN_S 10 3600 100 * secU
  let s := s.putSlot k { c with fit := (m :: c.fit).take (s.noiseWin k), win := (pt :: c.win).filter (fun q => decide (pt.u - w ≤ q.u)), nacc := c.nacc + 1 }
  let s := s.wrS (R.CAND_OFFSET k) (s.candOffset k)
  let s := s.set (R.CAND_NOISE_PS k) (noisePs (s.slotOf k).fit)
  (s.setS (R.CAND_FREQ_Y k) (winFreq (s.slotOf k).win)).showDiffs

/-- A sample of a slot other than ATOM: measured at scale instant `t`, candidate time `c` (2^-48 ns), offset `o` (S72), stamp taken cold. -/
def State.candSample (s : State) (k : Nat) (t c o : Int) (cold srcOk : Bool) : State :=
  if !s.candOn k then s
  else
    let s := s.bump (R.CAND_SAMPLES_COUNT k)
    let u := s.ocxoAt t
    let pt : FreqPt := { u := u, c := c }
    let m : Meas := { t := t, o := o }
    let sl := s.slotOf k
    let hits := sl.hits.filter (fun h => decide (u - 10 * secU ≤ h))
    let hit := isHit sl.fit m (s.get (R.CAND_PH_LIM_PS k))
    let s := s.putSlot k { sl with hits := if hit then u :: hits else hits, last := u }
    let s := if hit then (s.bump (R.CAND_HITS_COUNT k)).raise (P.CAND k) E.CAND_PHASE_HIT else s.candAccept k m pt
    let s := s.candJudge k (s.candWhy k srcOk) hit pt t c
    if hit then s else (s.feed k cold t o).collect k m

/-- A sample of a frequency input: its accumulated phase `c` at instant `t`, against the origin (R143). -/
def State.phaseSample (s : State) (k : Nat) (c t : Int) (cold srcOk : Bool) : State :=
  let s := if (s.slotOf k).origin.isNone then s.freqOrigin k c t else s
  s.candSample k t c (quot (c - t - (s.slotOf k).origin.getD 0) s72U.toNat) cold srcOk

/-- The whole second of the scale nearest an instant; which one an instant exactly half way is given is open (log entry 5). -/
def nearSecond (t : Int) : Int := nearQ t secU.toNat * secU

/-- The stamp of the slot's REF_IN input from which no sample has been taken, and the state in which one has. -/
def State.takeEdge (s : State) (k : Nat) : Option (RefStamp × State) :=
  match kvGet s.sel.refStamps (s.candUnit k) with
  | some r => if r.fresh then some (r, { s with sel := { s.sel with refStamps := kvPut s.sel.refStamps (s.candUnit k) { r with fresh := false } } }) else none
  | none => none

/-- CANDIDATE_SAMPLE (R140, R143, R146): the sample is reduced to an offset and passes the checks; a form that does not fit the slot's source is no sample
of it. -/
def execCandidateSample (slot : Nat) (raw : RawSample) (s : State) : Host.Outcome State Fault Refusal :=
  withUnit slot 12 (s.inRh (
    if !s.candOn slot then s
    else
      let cold := !s.flag R.VOTE_OSC_STAT_OCXO_WARM
      match raw with
      | .pps =>
        match s.candPps slot, s.takeEdge slot with
        | true, some (r, s) =>
          let c := nearSecond r.stamp + s.rdS (R.CAND_DELAY slot) * s72U
          s.candSample slot r.stamp c (quot (c - r.stamp) s72U.toNat) r.cold true
        | _, _ => s
      | .edges =>
        match s.candFreq slot && decide (s.candSrc slot = 1), s.takeEdge slot with
        | true, some (r, t) => if r.prev.isSome then t.phaseSample slot (t.edgePhase slot r) r.stamp r.cold (t.periodOk slot r) else s
        | _, _ => s
      | .phase c t => if s.candSrc slot = 4 then s.phaseSample slot c t cold true else s
      | .offset t o logSync =>
        if s.candSrc slot = 2 ∨ s.candSrc slot = 3 then
          let sl := s.slotOf slot
          let s := if s.candSrc slot = 3 then s.putSlot slot { sl with logSync := logSync, syncs := (s.ocxoAt t :: sl.syncs).take 16 } else s
          s.candSample slot t (t + o * s72U) o cold true
        else s
      | .cell =>
        if s.candSrc slot = 6 then
          let s := s.bump (R.CAND_SAMPLES_COUNT slot)
          let w := s.srcWhy slot true
          if w ≠ 0 then s.setCand slot 1 w else if s.candSt slot = 1 then s.setCand slot 3 0 else s
        else s))

/-- The nominal sample interval of a slot in 2^-48 ns (R140). -/
def State.candInterval (s : State) (k : Nat) : Int :=
  match s.candSrc k with
  | 3 =>
    let c := s.slotOf k
    if c.logSync = 127 ∨ c.syncs = [] then
      match c.syncs.head?, c.syncs.getLast? with
      | some a, some b => if 2 ≤ c.syncs.length then quot (a - b) (c.syncs.length - 1) else secU
      | _, _ => secU
    else if 0 ≤ c.logSync then secU * 2 ^ c.logSync.toNat else quot secU (2 ^ c.logSync.natAbs)
  | 4 => msU
  | 5 => msU
  | 1 => if s.candFreq k then msU else secU
  | _ => secU

/-- How long a slot may go without a sample (R146). -/
def State.candWait (s : State) (k : Nat) : Int :=
  if s.get (R.CAND_TIMEOUT_MS k) = 0 then 3 * s.candInterval k else s.get (R.CAND_TIMEOUT_MS k) * msU

/-- CAND_TIMEOUT (R146): no sample within CAND.TIMEOUT, or three intervals: NO_SIGNAL; the samples, the window and a frequency origin are discarded (R143; log
entry 11). -/
def execCandTimeout (slot tick : Nat) (s : State) : Host.Outcome State Fault Refusal :=
  withUnit slot 12 (s.inRh (
    let st := s.candSt slot
    if s.candSrc slot = 6 ∨ st = 0 ∨ st = 6 ∨ s.ax.ocxo + quot ((tick : Int) * 64 * nsU) 10 - (s.slotOf slot).last < s.candWait slot then s
    else
      let s := s.putSlot slot { s.slotOf slot with fit := [], win := [], nacc := 0, origin := none }
      s.setCand slot 1 1))

/-- CAND_QUALIFIED (R147): at the AXMARK at which QUAL_LEFT reaches 0. -/
def execCandQualified (slot : Nat) (s : State) : Host.Outcome State Fault Refusal :=
  withUnit slot 12 (s.inRh (if s.candSt slot = 3 ∧ (s.slotOf slot).qualMs ≤ 1 then s.qualify slot else s))

/-- WTR_DONE (R147): at the AXMARK at which WTR_LEFT reaches 0. -/
def execWtrDone (slot : Nat) (s : State) : Host.Outcome State Fault Refusal :=
  withUnit slot 12 (s.inRh (if s.flag (R.CAND_STATUS_WTR_RUN slot) ∧ (s.slotOf slot).wtrMs ≤ 1 then s.wtrEnd slot else s))

/-- REF_IN_EDGE (R35, R142, R143, R218, R227, R228): the active edge of an input that is on is stamped by the member of the pair on duty; REF_IN is ignored
until the pins work. -/
def execRefInEdge (input : Nat) (falling : Bool) (tick phase tap : Nat) (s : State) : Host.Outcome State Fault Refusal :=
  withUnit input 4 (s.inRh (
    if 2 ≤ s.get (R.SEL_REFIN_CFG_MODE input) ∨ s.flag (R.SEL_REFIN_CFG_EDGE input) ≠ falling ∨ s.boot.pins ≠ .driven then s
    else
      let was := kvGet s.sel.refStamps input
      let r : RefStamp := { stamp := s.rhTime tick + (s.pairOf input).onDuty.offset phase tap, prev := was.map (·.stamp), cold := !s.flag R.VOTE_OSC_STAT_OCXO_WARM,
                            uncal := s.pairUncal input, stale := s.pairStale input, cycles := (was.map (·.cycles)).getD 0 + 1, fresh := true }
      { s with sel := { s.sel with refStamps := kvPut s.sel.refStamps input r } }))

/-- CAND.ESMC set; QL_CHANGE on a change of the SSM (R161, R162). -/
def State.setEsmc (s : State) (k ssm enh : Nat) : State :=
  let was := s.get (R.CAND_ESMC_SSM k)
  let s := (s.set (R.CAND_ESMC_SSM k) ssm).set (R.CAND_ESMC_ENH k) enh
  s.raiseIf (decide (s.get (R.CAND_ESMC_SSM k) ≠ was)) (P.CAND k) E.CAND_QL_CHANGE

/-- ESMC_RECEIVE (R161): a valid ESMC of the port that a SyncE slot is bound to. -/
def execEsmcReceive (slot ssm enh : Nat) (s : State) : Host.Outcome State Fault Refusal :=
  withUnit slot 12 (s.inRh (if s.candSrc slot = 4 then s.setEsmc slot ssm enh else s))

/-- ESMC_TIMEOUT (R161): no valid ESMC for 5 s; the SSM reads 0xF. -/
def execEsmcTimeout (slot : Nat) (s : State) : Host.Outcome State Fault Refusal :=
  withUnit slot 12 (s.inRh (s.setEsmc slot 15 0))

/-! ## The commit (R141, R145, R158) -/

/-- The slot is bound to another SRC, UNIT or REF_IN mode than before. -/
def State.rebound (s : State) (old : Store) (k : Nat) : Bool :=
  let b := s.rd (R.CAND_BIND k)
  let a := old.read (R.CAND_BIND k)
  let u := s.candUnit k
  decide ((R.CAND_BIND_SRC k).of a ≠ (R.CAND_BIND_SRC k).of b ∨ (R.CAND_BIND_UNIT k).of a ≠ (R.CAND_BIND_UNIT k).of b) ||
    (decide (s.candSrc k = 1 ∧ u ≤ 3) && decide ((R.SEL_REFIN_CFG_MODE u).of (old.read (R.SEL_REFIN_CFG u)) ≠ s.get (R.SEL_REFIN_CFG_MODE u)))

/-- Its history starts afresh (R158). -/
def State.candFresh (s : State) (k : Nat) : State :=
  let s := ((s.wrS (R.CAND_OFFSET k) 0).wr (R.CAND_FREQ k) 0).wr (R.CAND_NOISE k) 0
  s.putSlot k { CandSlot.init with last := s.ax.ocxo }

/-- One slot at a commit.  The WHY of an entry from OFF to LOST is open: NO_SIGNAL, or REBIND where the binding changed (DESIGN CHOICE, log entry 11). -/
def State.commitCand (s : State) (old : Store) (errs : List Nat) (k : Nat) : State :=
  let e := errs.contains k
  let s := s.raiseIf (e && !s.flag (R.CAND_STATUS_BIND_ERR k)) (P.CAND k) E.CAND_BIND_ERR
  let s := (s.setFlag (R.CAND_STATUS_BIND_ERR k) e).setFlag (R.CAND_STATUS_FREQ_KIND k) (s.candFreq k)
  if !s.candOn k then (if s.candSt k = 0 then s else (s.setCand k 0 0).candFresh k)
  else if s.rebound old k then
    let s := s.candFresh k
    let s := (s.set (R.CAND_STATUS_WHY k) 9).setCand k 1 9
    s.set (R.CAND_QUAL_LEFT_S k) 0
  else if s.candSt k = 0 then (s.putSlot k { s.slotOf k with last := s.ax.ocxo }).setCand k 1 1
  else s

/-- The candidate bindings take force at a commit; `old` holds the values before it. -/
def State.commitCands (s : State) (old : Store) : State :=
  let errs := s.bindErrs.1
  ((List.range 12).foldl (fun t k => t.commitCand old errs k) s).showDiffs

/-! ## Steps and loads of the scale -/

/-- A step of `d` S72 units: stored samples keep their meaning on the stepped scale (log entry 11). -/
def State.candStep (s : State) (d : Int) : State :=
  let mv (l : List Meas) : List Meas := l.map (fun m => { t := m.t + d * s72U, o := m.o - d })
  let s := (List.range 12).foldl (fun t k =>
    let c := t.slotOf k
    let t := if c.fit = [] ∧ c.prep = [] then t else t.putSlot k { c with fit := mv c.fit, prep := mv c.prep }
    if t.candOn k ∧ t.candSrc k ≠ 6 ∧ c.fit ≠ [] then t.wrS (R.CAND_OFFSET k) (t.rdS (R.CAND_OFFSET k) - d) else t) s
  let st (p : Nat × RefStamp) : Nat × RefStamp := (p.1, { p.2 with stamp := p.2.stamp + d * s72U, prev := p.2.prev.map (· + d * s72U) })
  { s with sel := { s.sel with refStamps := s.sel.refStamps.map st }, gns := { s.gns with sol := s.gns.sol.map (fun (p : Int × Int) => (p.1 + d * s72U, p.2 - d)) } }.showDiffs

/-- A load of the scale: the samples taken on the old scale are discarded (R121; log entry 11). -/
def State.candLoad (s : State) : State :=
  let s := { s with sel := { s.sel with refStamps := s.sel.refStamps.map (fun (p : Nat × RefStamp) => (p.1, { p.2 with prev := none, fresh := false })) }, gns := { s.gns with sol := [] } }
  (List.range 12).foldl (fun t k =>
    let c := t.slotOf k
    t.putSlot k { c with fit := [], prep := [], hits := [], nacc := 0, origin := none, base := none, win := if t.candFreq k then c.win else [] }) s

end Sys2Proof.Machine
end

