-- ==== Sys2Proof/Machine/Links.lean ====
section
/-! DEFINITION.
Frames sent on the Dugil links (R424, R425).
-/
namespace Sys2Proof.Machine
open Sys2Proof

/-- The links in use: enabled in DUG.CFG with a MODE other than OFF, transmitters not squelched (R422). -/
def State.dugLinks (s : State) : List Nat :=
  let m := s.get R.DUG_CFG_MODE
  if (m = 1 ∨ m = 2) ∧ s.boot.dugOn ∧ s.up islRH then (List.range 2).filter (fun n => bitOn (s.get R.DUG_CFG_PORT_EN) n) else []

def State.peer (s : State) (n : Nat) : PeerState := if n = 0 then s.dug.p0 else s.dug.p1
def State.putPeer (s : State) (n : Nat) (x : PeerState) : State :=
  { s with dug := if n = 0 then { s.dug with p0 := x } else { s.dug with p1 := x } }

/-- The device's time comes over a Dugil link: it follows, or its selected slot is a PEER (R140, R424, R436). -/
def State.dugFollows (s : State) : Bool := s.flag R.DUG_STATUS_FOLLOW || (decide (s.selected < 12) && decide (s.candSrc s.selected = 5))

/-- One frame on a lane of a link (R424). -/
def State.dugSend (s : State) (n lane : Nat) (body : DugBody) : State :=
  if !s.dugLinks.contains n then s
  else
    let x := s.peer n
    let f : DugFrame := { ok := true, role := s.get R.DUG_STATUS_ROLE, ready := s.flag R.DUG_STATUS_READY, timed := decide (3 ≤ s.get R.BOOT_STAGE_STAGE), follows := s.dugFollows,
                          seq := if lane = 0 then x.txSeq else x.txSeq1, serial := Config.serial.toNat, group := s.get R.DUG_CFG_GROUP, prio := s.get R.DUG_CFG_PRIO, body := body }
    let x' : PeerState := if lane = 0 then { x with txSeq := (x.txSeq + 1) % 2 ^ 32 } else { x with txSeq1 := (x.txSeq1 + 1) % 2 ^ 32 }
    (s.putPeer n x').emit (.dugil n lane f)

/-- The same frame on every link in use. -/
def State.dugSendAll (s : State) (lane : Nat) (body : DugBody) : State := s.dugLinks.foldl (fun t n => t.dugSend n lane body) s

/-- A SEL frame of the holder (R425): KIND 0 phase, 1 step, 2 load. -/
def State.selFrame (s : State) (kind : Nat) (amount at_ : Int) : State :=
  if s.get R.DUG_STATUS_ROLE = 1 then s.dugSendAll 1 (.sel (s.rd R.SEL_STATUS) kind amount at_) else s

end Sys2Proof.Machine
end

