-- ==== Sys2Proof/Machine/Triad.lean ====
section
/-! DEFINITION.
The OCXO and the cell, the voter and the three time cores, loads and steps of the scale, UTC and leap seconds (R109 to R139).
-/
namespace Sys2Proof.Machine
open Sys2Proof

/-! ## OCXO and cell (R109 to R114) -/

/-- An OSC record (R466). -/
def State.oscRec (s : State) : State := s.trig islRH 0x23 [(s.rd R.VOTE_OSC_STAT).toNat]

/-- The discipline is active while the cell is LOCKED and the OCXO warm (R113); after STEADY, STEADY_LOST shows that one of them is absent (R55). -/
def State.showDisc (s : State) : State :=
  let both := s.flag R.VOTE_OSC_STAT_CELL_LOCK && s.flag R.VOTE_OSC_STAT_OCXO_WARM
  let s := s.setFlag R.VOTE_OSC_STAT_DISC both
  if s.get R.BOOT_STAGE_STAGE = 4 then s.setFlag R.BOOT_STAGE_STEADY_LOST (!both) else s

/-- The EFC code, with EFC_RAIL and line 24 (R111). -/
def State.setEfc (s : State) (code : Int) : State :=
  let c := (clampInt 0 0xFFFFFF code).toNat
  let s := s.set R.VOTE_OSC_EFC_CODE c
  let rail := decide (c < 0x028F5C ∨ 0xFD70A3 < c)
  if s.flag R.VOTE_OSC_STAT_EFC_RAIL = rail then s
  else (((s.setFlag R.VOTE_OSC_STAT_EFC_RAIL rail).level P.VOTE E.VOTE_EFC_RAIL rail).lineSet 24 2 rail).oscRec

/-- OCXO.WARM as the oven control shows it (R110); line 24 once the flag has set since power-on. -/
def State.setWarm (s : State) (on : Bool) : State :=
  let s := { s with osc := { s.osc with warm := on, warmEver := s.osc.warmEver || on } }
  let s := s.lineSet 24 1 (!on && s.osc.warmEver)
  if s.up islVOTE then (((s.setFlag R.VOTE_OSC_STAT_OCXO_WARM on).level P.VOTE E.VOTE_OCXO_WARM on).showDisc).oscRec else s

/-- OCXO_WARM_SET (R110). -/
def execOcxoWarmSet (s : State) : Host.Outcome State Fault Refusal :=
  .next (if s.boot.pos ≠ .off ∧ !s.osc.warm then s.setWarm true else s)

/-- OCXO_WARM_CLEAR (R110): the oven error has exceeded 0.5 K for 1 s. -/
def execOcxoWarmClear (s : State) : Host.Outcome State Fault Refusal :=
  .next (if s.boot.pos ≠ .off ∧ s.osc.warm then s.setWarm false else s)

/-- The EFC code at a whole second of OCXO time is kept for the mean of R114. -/
def State.logEfc (s : State) : State := { s with osc := { s.osc with efcLog := (s.get R.VOTE_OSC_EFC_CODE :: s.osc.efcLog).take 60 } }

/-- The mean of the EFC values of the last 60 s (R114); before the first of them the EFC had the value it has at the first. -/
def State.efcMean (s : State) : Int :=
  let l := s.osc.efcLog
  let first : Nat := l.getLast?.getD (s.get R.VOTE_OSC_EFC_CODE)
  quot ((l.foldl (· + ·) 0 + (60 - l.length) * first : Nat) : Int) 60

/-- The cell changes state: event CELL, CELL_LOCK, the discipline and line 23 (R112 to R114). -/
def State.setCell (s : State) (st : Nat) : State :=
  let old := s.get R.VOTE_OSC_STAT_CELL_STATE
  if old = st then s
  else
    let s := if old = 4 then s.setEfc s.efcMean else s
    let s := (s.set R.VOTE_OSC_STAT_CELL_STATE st).raise P.VOTE E.VOTE_CELL
    let lock := decide (st = 4)
    let s := if lock then { s with osc := { s.osc with lockedEver := true, failedCycles := 0 } } else s
    let s := if (old = 4) ≠ (st = 4) then (s.setFlag R.VOTE_OSC_STAT_CELL_LOCK lock).level P.VOTE E.VOTE_CELL_LOCK lock else s
    ((s.showDisc).lineSet 23 1 (!lock && s.osc.lockedEver)).oscRec

/-- The cell is in state `a`, and goes to state `b`. -/
def State.cellMove (s : State) (a b : Nat) : State := s.inRh (if s.get R.VOTE_OSC_STAT_CELL_STATE = a then s.setCell b else s)

/-- CELL_HEAT_DONE (R112). -/
def execCellHeatDone (s : State) : Host.Outcome State Fault Refusal := .next (s.cellMove 1 2)

/-- CELL_LINE_FOUND (R112). -/
def execCellLineFound (s : State) : Host.Outcome State Fault Refusal := .next ({ s with osc := { s.osc with fromScan := true } }.cellMove 2 3)

/-- CELL_RESONANCE_LOCK (R112, R114). -/
def execCellResonanceLock (s : State) : Host.Outcome State Fault Refusal := .next (s.cellMove 3 4)

/-- CELL_ACQUIRE_TIMEOUT (R112): back to SCAN, or to FAULT after the third failed cycle from SCAN in a row. -/
def execCellAcquireTimeout (s : State) : Host.Outcome State Fault Refusal :=
  .next (s.inRh (
    if s.get R.VOTE_OSC_STAT_CELL_STATE = 3 then
      let n := if s.osc.fromScan then s.osc.failedCycles + 1 else s.osc.failedCycles
      let s := { s with osc := { s.osc with failedCycles := n } }
      s.setCell (if 3 ≤ n then 5 else 2)
    else s))

/-- CELL_SIGNAL_LOST (R112, R114). -/
def execCellSignalLost (s : State) : Host.Outcome State Fault Refusal := .next ({ s with osc := { s.osc with fromScan := false } }.cellMove 4 3)

/-- The largest EFC change of one second in codes: the slew limit over the tuning range of 8e-7 in 2^24 codes (R109, R113). -/
def efcMost (rate : Nat) : Int := rate * 10000000 / 134217728

/-- In a holdover under MODEL OCXO the EFC is frozen (R181). -/
def State.efcHeld (s : State) : Bool := s.flag R.HOLD_STATUS_IN_HOLD && decide (s.get R.HOLD_STATUS_MODEL = 1)

/-- CELL_MEASUREMENT (R113): VOTE.CELL_Y, and with the discipline active the EFC moves within the slew limit. -/
def execCellMeasurement (y : Int) (s : State) : Host.Outcome State Fault Refusal :=
  .next (s.inRh (
    if s.get R.VOTE_OSC_STAT_CELL_STATE = 4 then
      let s := s.setS R.VOTE_CELL_Y_Y (clampInt (-34359738368) 34359738367 y)
      let ys := (s.getS R.VOTE_CELL_Y_Y :: s.srv.cellYs).take 64
      let s := s.perCore (fun t => { t with srv := { t.srv with cellYs := (t.getS R.VOTE_CELL_Y_Y :: t.srv.cellYs).take 64 } })
      let code := s.get R.VOTE_OSC_EFC_CODE
      if s.flag R.VOTE_OSC_STAT_DISC && !s.efcHeld then
        let m := efcMost (s.get R.VOTE_EFC_SLEW_RATE)
        s.setEfc (code + clampInt (-m) m (Config.cellLoop ys (s.get R.VOTE_CELL_TAU_S) code))
      else s
    else s))

/-- CELL_RESTART (R112): from OFF or FAULT the cell starts HEAT; in any other state nothing changes (DEDUCED, log entry 12). -/
def execCellRestart (m : Master) (s : State) : Host.Outcome State Fault Refusal :=
  .next (s.hostCmd m R.VOTE_CELL_CMD_STATUS fun s =>
    let st := s.get R.VOTE_OSC_STAT_CELL_STATE
    let s := s.set R.VOTE_CELL_CMD_STATUS 2
    if st = 0 ∨ st = 5 then { s with osc := { s.osc with failedCycles := 0 } }.setCell 1 else s)

/-- CELL_STOP (R114, R139): OFF, with the EFC frozen. -/
def execCellStop (m : Master) (s : State) : Host.Outcome State Fault Refusal :=
  .next (s.hostCmd m R.VOTE_CELL_CMD_STATUS fun s => (s.set R.VOTE_CELL_CMD_STATUS 2).setCell 0)

/-! ## Core states and modes (R131 to R137) -/

def State.mode (s : State) : Nat := s.get R.VOTE_STATUS_MODE
def State.coreSt (s : State) (k : Nat) : Nat := s.get (R.TCORE_STATE_STATE k)

/-- The cores that are IN, lowest first. -/
def State.inCores (s : State) : List Nat := if s.mode = 3 then [] else (List.range 3).filter (fun k => decide (s.coreSt k = 0))

/-- VOTE.STATUS.IN; the copy shown is that of the lowest core that is IN. -/
def State.showIn (s : State) : State :=
  (s.set R.VOTE_STATUS_IN (s.inCores.foldl (fun m k => m + 2 ^ k) 0)).showCore (s.inCores.headD s.cores.now)

/-- A core that has missed commits takes the shadowed values of SRV and HOLD in force (R135). -/
def State.takeGen (s : State) (k : Nat) : State :=
  match kvGet s.gen.keep (2 + k) with
  | none => s
  | some src =>
    let i := s.imgOf k
    { s.putImg k { i with regs := coreRegs (mergeRws i.regs src corePage) } with gen := { s.gen with keep := kvDel s.gen.keep (2 + k) } }

/-- A core changes state (R138, R466). -/
def State.setCore (s : State) (k st why : Nat) : State :=
  let old := s.coreSt k
  let s := (s.set (R.TCORE_STATE_STATE k) st).set (R.TCORE_STATE_OUT_WHY k) why
  if old = st then s
  else (s.raise (P.TCORE k) E.TCORE_STATE).trig islVOTE 0x20 [k, old, st, why]

/-- The vote's mode changes (R130, R466). -/
def State.setMode (s : State) (m : Nat) : State :=
  let old := s.mode
  if old = m then s
  else ((s.set R.VOTE_STATUS_MODE m).raise P.VOTE E.VOTE_MODE).trig islVOTE 0x20 [3, old, m, 0]

/-- A core is back IN: its line falls (R131). -/
def State.coreIn (s : State) (k : Nat) : State :=
  ((((s.takeGen k).setCore k 0 0).set (R.TCORE_REJOIN_LEFT_S k) 0).lineOff (2 + k) 1).putCore k { s.coreOf k with run := 0, ready := false, probMs := 0 }

/-- The core begins a reload from the donor: LOADING; it takes the donor's copy with the generation in force, and its counter is set by the load rule (R133, R135,
R172).  The updates it buffers from then on are run as they come, which ends in the same state as running them later (DEDUCED, log entry 12). -/
def State.reload (s : State) (k d : Nat) : State :=
  let s := s.putImg k (s.imgOf d)
  let s := { s with gen := { s.gen with keep := match kvGet s.gen.keep (2 + d) with
                                        | some src => kvPut s.gen.keep (2 + k) src
                                        | none => kvDel s.gen.keep (2 + k) },
                    cores := { s.cores with held := kvDel s.cores.held k } }
  let s := s.takeGen k
  let s := s.putCore k { s.coreOf k with run := 0, ready := false, returned := false, loadT := s.ax.mark, probMs := 0 }
  (s.setCore k 2 (s.get (R.TCORE_STATE_OUT_WHY k))).putCtr (2 + k) { s.ctrOf (2 + k) with loadNow := true }

/-- The scale second of the last AXMARK. -/
def State.scaleSec (s : State) : Nat := (s.ax.mark / secU).toNat

/-- A core in PROBATION disagrees: OUT, REJOIN_FAIL, and RETRY_MAX after as many failed reloads within one hour (R134); the hour is counted in seconds of the voted
scale (DESIGN CHOICE, log entry 12). -/
def State.rejoinFail (s : State) (k why : Nat) : State :=
  let now := s.scaleSec
  let r := now :: (s.coreOf k).retries.filter (fun t => decide (now < t + 3600))
  let lim := s.get R.VOTE_REJOIN_RETRY_MAX
  let s := s.putCore k { s.coreOf k with retries := r, ready := false, probMs := 0, run := 0 }
  let s := (s.set (R.TCORE_REJOIN_LEFT_S k) 0).setCore k 1 (if lim ≠ 0 ∧ lim ≤ r.length then 5 else why)
  ((s.bump R.VOTE_DISAGREE_COUNT).raise P.VOTE E.VOTE_REJOIN_FAIL)

/-- CORE_CATCHUP_DONE (R133): PROBATION, and REJOIN_LEFT starts. -/
def execCoreCatchupDone (core : Nat) (s : State) : Host.Outcome State Fault Refusal :=
  withUnit core 3 (
    if s.coreSt core = 2 ∧ !(s.ctrOf (2 + core)).loadNow then
      let n := s.getOr R.VOTE_REJOIN_SECONDS 1 3600 60
      let s := s.putCore core { s.coreOf core with probMs := 1000 * n, ready := false, run := 0 }
      (s.set (R.TCORE_REJOIN_LEFT_S core) n).setCore core 3 (s.get (R.TCORE_STATE_OUT_WHY core))
    else s)

/-- REJOIN_LEFT has reached 0 without a disagreement (R134). -/
def State.rejoined (s : State) (k : Nat) : State :=
  (s.set (R.TCORE_REJOIN_LEFT_S k) 0).putCore k { s.coreOf k with probMs := 0, ready := true }

/-- REJOIN_EXPIRY (R134). -/
def execRejoinExpiry (core : Nat) (s : State) : Host.Outcome State Fault Refusal :=
  withUnit core 3 (if s.coreSt core = 3 ∧ (s.coreOf core).probMs ≤ 1 then s.rejoined core else s)

/-- The vote is a triad again after RECOVER (R137). -/
def State.recovered (s : State) : State :=
  let s := { s with tri := { s.tri with recovering := none }, flt := { s.flt with forcedFatal := setBit s.flt.forcedFatal 5 false } }
  let s := (List.range 3).foldl (fun t k => (t.coreIn k).raise P.VOTE E.VOTE_CORE_IN) s
  (s.setMode 1).showIn

/-- CORE_READMIT (R134, R137): at the second mark after its PROBATION the core is IN and the mode TRIAD; after a RECOVER, once both reloaded cores are
ready. -/
def execCoreReadmit (core : Nat) (s : State) : Host.Outcome State Fault Refusal :=
  withUnit core 3 (
    if s.coreSt core ≠ 3 ∨ !(s.coreOf core).ready ∨ !s.ax.secMark then s
    else
      match s.tri.recovering with
      | some d => if (List.range 3).all (fun k => decide (k = d) || (decide (s.coreSt k = 3) && (s.coreOf k).ready)) then s.recovered else s
      | none => if s.mode = 2 then (((s.coreIn core).setMode 1).showIn).raise P.VOTE E.VOTE_CORE_IN else s)

/-! ## The vote (R129, R130, R132) -/

/-- One core's input to an update. -/
structure CoreInput where
  y : Int
  t : Int
  sig : CtrSig × Nat     -- what the signature stands for, and by which core's fault it is corrupted, 0 none
  self : Bool

/-- The median of three. -/
def median3 (a b c : Int) : Int := max (min a b) (min (max a b) c)

/-- The frequency words differ by more than TOL_F. -/
def State.farF (s : State) (a b : Int) : Bool := decide (max 0 (s.getS R.VOTE_TOL_F_Y) < ((a - b).natAbs : Int))

/-- The times differ by more than TOL_T. -/
def State.farT (s : State) (a b : Int) : Bool := decide ((s.get R.VOTE_TOL_T_PS : Int) * nsU < (a - b).natAbs * 1000)

/-- tbad of R130. -/
def State.timeBad (s : State) (x p q : CoreInput) : Bool :=
  (decide (x.sig ≠ p.sig) && decide (x.sig ≠ q.sig)) || (s.farT x.t p.t && s.farT x.t q.t)

/-- The updates in a row with core `x` far from both others, this one included. -/
def State.farRun (s : State) (k : Nat) (x p q : CoreInput) : Nat := if s.farF x.y p.y && s.farF x.y q.y then (s.coreOf k).run + 1 else 0

/-- The OUT_WHY of a core's tests, SELF before FREQ before TIME, 0 when it passes (order DEDUCED, log entry 12). -/
def State.outWhy (s : State) (k : Nat) (x p q : CoreInput) : Nat :=
  if x.self then 3 else if s.get1 R.VOTE_PERSIST_N ≤ s.farRun k x p q then 1 else if s.timeBad x p q then 2 else 0

/-- Core `x` is excluded (R131). -/
def State.excludeCore (s : State) (k why : Nat) (diff : Int) : State :=
  let s := (s.setCore k 1 why).setS (R.TCORE_LAST_DIFF_Y k) (clampInt (-34359738368) 34359738367 diff)
  let s := ((s.bump (R.TCORE_OUT_COUNT_COUNT k)).bump R.VOTE_DISAGREE_COUNT).lineOn (2 + k) 1
  let s := { s.putCore k { s.coreOf k with run := 0 } with tri := { (s.putCore k { s.coreOf k with run := 0 }).tri with pairRun := 0 } }
  let s := (s.setMode 2).showIn
  (s.set R.VOTE_STATUS_DONOR (s.inCores.headD 0)).raise P.VOTE E.VOTE_CORE_OUT

/-- fatal_vote() (R132): line 5 as FATAL, mode FAILED, and every core that was IN is OUT. -/
def State.fatalVote (s : State) (why : Nat → Nat) (tick : Nat) : State :=
  let inC := s.inCores
  let d := inC.headD 0
  let v := s.ax.v
  let s := if s.mode = 2 then { s with ax := { s.ax with v := v.add ((s.ctrOf (2 + d)).at_ tick - v.at_ tick) } } else s
  let s := inC.foldl (fun t k => t.setCore k 1 (why k)) s
  let s := { s with flt := { s.flt with forcedFatal := setBit s.flt.forcedFatal 5 true } }
  let s := ((s.pulse 5).set R.VOTE_STATUS_DONOR d).setMode 3
  s.showIn

/-- VOTE.FREQ takes the voted word. -/
def State.setFreq (s : State) (y : Int) : State := s.setS R.VOTE_FREQ_Y (clampInt (-34359738368) 34359738367 y)

/-- The scale follows the counter of a core that agrees (R130); at the mark of a load VOTE's value stands until the core has taken it (R121). -/
def State.followCore (s : State) (k tick : Nat) : State :=
  let c := s.ctrOf (2 + k)
  if c.loadNow then s else { s with ax := { s.ax with v := s.ax.v.add (c.at_ tick - s.ax.v.at_ tick) } }

/-- An update in TRIAD (R130). -/
def State.voteTriad (s : State) (x0 x1 x2 : CoreInput) (tick : Nat) : State :=
  let w0 := s.outWhy 0 x0 x1 x2
  let w1 := s.outWhy 1 x1 x0 x2
  let w2 := s.outWhy 2 x2 x0 x1
  let med := median3 x0.y x1.y x2.y
  let n := (if w0 = 0 then 0 else 1) + (if w1 = 0 then 0 else 1) + (if w2 = 0 then 0 else 1)
  let r0 := s.farRun 0 x0 x1 x2
  let r1 := s.farRun 1 x1 x0 x2
  let r2 := s.farRun 2 x2 x0 x1
  let s := ((s.putCore 0 { s.coreOf 0 with run := r0 }).putCore 1 { s.coreOf 1 with run := r1 }).putCore 2 { s.coreOf 2 with run := r2 }
  if 2 ≤ n then s.fatalVote (fun k => if k = 0 then w0 else if k = 1 then w1 else w2) tick
  else
    let s := (s.setFreq med).followCore (if w0 = 0 then 0 else 1) tick
    if w0 ≠ 0 then s.excludeCore 0 w0 (x0.y - med)
    else if w1 ≠ 0 then s.excludeCore 1 w1 (x1.y - med)
    else if w2 ≠ 0 then s.excludeCore 2 w2 (x2.y - med)
    else s

/-- A core in PROBATION compared with the two cores in the vote (R134). -/
def State.voteProbation (s : State) (k : Nat) (x p q : CoreInput) : State :=
  let w := s.outWhy k x p q
  let r := s.farRun k x p q
  let s := s.putCore k { s.coreOf k with run := r }
  if w = 0 then s else s.rejoinFail k w

/-- An update in PAIR, core `d` the lower one IN and `o` the one not IN (R130). -/
def State.votePair (s : State) (d o : Nat) (xd xe xo : CoreInput) (tick : Nat) : State :=
  let run := if s.farF xd.y xe.y then s.tri.pairRun + 1 else 0
  let s := { s with tri := { s.tri with pairRun := run } }
  let freq := decide (s.get1 R.VOTE_PERSIST_N ≤ run)
  let time := decide (xd.sig ≠ xe.sig) || s.farT xd.t xe.t
  let why := if freq then 1 else if time then 2 else 0
  if freq || time || xd.self || xe.self then
    s.fatalVote (fun k => if (if k = d then xd.self else xe.self) then 3 else why) tick
  else
    let s := (s.setFreq xd.y).followCore d tick
    if s.coreSt o = 3 then s.voteProbation o xo xd xe else s

/-- An update in FAILED while a RECOVER compares the donor and two reloaded cores (R137). -/
def State.voteRecover (s : State) (d : Nat) (x0 x1 x2 : CoreInput) : State :=
  if (List.range 3).all (fun k => decide (k = d ∨ s.coreSt k = 3)) then
    let w (k : Nat) : Nat := if k = 0 then s.outWhy 0 x0 x1 x2 else if k = 1 then s.outWhy 1 x1 x0 x2 else s.outWhy 2 x2 x0 x1
    let r0 := s.farRun 0 x0 x1 x2
    let r1 := s.farRun 1 x1 x0 x2
    let r2 := s.farRun 2 x2 x0 x1
    let t := ((s.putCore 0 { s.coreOf 0 with run := r0 }).putCore 1 { s.coreOf 1 with run := r1 }).putCore 2 { s.coreOf 2 with run := r2 }
    if w 0 = 0 ∧ w 1 = 0 ∧ w 2 = 0 then t
    else
      let t := { t with tri := { t.tri with recovering := none } }
      (List.range 3).foldl (fun t k => if k = d then t else t.rejoinFail k (w k)) t
  else s

/-- The upset that a report tells of: it moves the core's word, and what the word comes from, and the core's counter, until a state copy (R129, R133). -/
def State.upset (s : State) (k : Nat) (r : CoreReport) : State :=
  let s := if r.dt = 0 then s else s.putCtr (2 + k) ((s.ctrOf (2 + k)).add r.dt)
  if r.dy = 0 then s
  else
    let v := s.asCore k
    let v := { v with srv := { v.srv with integ := v.srv.integ + r.dy * 4294967296, word := v.srv.word + r.dy * 4294967296 } }
    s.putImg k (v.setS R.SRV_FREQ_OUT_Y (clampInt (-34359738368) 34359738367 (v.getS R.SRV_FREQ_OUT_Y + r.dy))).mainImg

/-- What VOTE takes from core `k` at the update that starts subframe `j`: its word (the last one sent in place of a SELF report), its counter, and the signature of
the subframe before, which a fault of its own, an AXLE_FAULT or an injection corrupts (R129, R138, R459).  With a report that does not cross its coupling VOTE has
the last word and no signature that agrees with another (DESIGN CHOICE, log entry 12). -/
def State.coreInput (s : State) (k j : Nat) (r : CoreReport) : CoreInput :=
  let cut := !s.linkOpen (2 + k) islVOTE 0
  let y := if r.self || cut then s.getS (R.TCORE_FREQ_Y k) else (s.asCore k).getS R.SRV_FREQ_OUT_Y
  let inj := match s.injWaits 4 with
    | some i => decide (i.unit = k) && !i.quiet
    | none => false
  let c := s.ctrOf (2 + k)
  { y := y, t := c.at_ (6250 * j), sig := (if j = 0 then c.prevSig else c.sig, if r.badSig || inj || cut || (s.coreOf k).axleBad then k + 1 else 0), self := r.self && !cut }

/-- TCORE.FREQ and TCORE.SELF_ERR from a core's report. -/
def State.noteReport (s : State) (k : Nat) (x : CoreInput) (r : CoreReport) : State :=
  let s := s.putCore k { s.coreOf k with axleBad := false }
  let s := (s.setS (R.TCORE_FREQ_Y k) x.y).bumpBy (R.TCORE_SELF_ERR_COUNT k) r.corr
  s.raiseIf (decide (r.corr ≠ 0) || r.self) (P.TCORE k) E.TCORE_SELF_ERR

/-- VOTE_UPDATE (R117, R118, R120, R129 to R132): the three reports are compared, FREQ is voted and INC_NEXT follows; in FAILED the increment stays. -/
def execVoteUpdate (k : Nat) (r0 r1 r2 : CoreReport) (s : State) : Host.Outcome State Fault Refusal :=
  .next (
    if !s.ax.running || !s.up islVOTE || !s.subStarts k then s
    else
      let tick := 6250 * k
      let s := if k = 0 then s else { s with ax := { s.ax with v := s.ax.v.turn tick (!s.subStarts (k + 1)) } }
      let s := ((s.upset 0 r0).upset 1 r1).upset 2 r2
      let x0 := s.coreInput 0 k r0
      let x1 := s.coreInput 1 k r1
      let x2 := s.coreInput 2 k r2
      let s := if (s.injWaits 4).isSome then s.injFlag else s
      let s := ((s.noteReport 0 x0 r0).noteReport 1 x1 r1).noteReport 2 x2 r2
      let s :=
        if s.mode = 1 then s.voteTriad x0 x1 x2 tick
        else if s.mode = 2 then
          (if s.coreSt 0 ≠ 0 then s.votePair 1 0 x1 x2 x0 tick else if s.coreSt 1 ≠ 0 then s.votePair 0 1 x0 x2 x1 tick else s.votePair 0 2 x0 x1 x2 tick)
        else match s.tri.recovering with
          | some d => s.voteRecover d x0 x1 x2
          | none => s
      if s.mode = 3 then s else { s with ax := { s.ax with v := { s.ax.v with incNext := incOf (s.getS R.VOTE_FREQ_Y) } } })

/-- What the triad does at an AXMARK: REJOIN_LEFT counts, and at a second mark the reloads of R133, R136 and R137 begin. -/
def State.triadMark (s : State) : State :=
  let s := (List.range 3).foldl (fun t k =>
    let c := t.coreOf k
    if t.coreSt k = 3 ∧ 0 < c.probMs then
      let t := (t.set (R.TCORE_REJOIN_LEFT_S k) ((c.probMs - 1 + 999) / 1000)).putCore k { c with probMs := c.probMs - 1 }
      if c.probMs = 1 then t.rejoined k else t
    else t) s
  if !s.ax.secMark then s
  else if s.mode = 2 then
    (List.range 3).foldl (fun t k =>
      let why := t.get (R.TCORE_STATE_OUT_WHY k)
      let auto := decide (1 ≤ why ∧ why ≤ 3 ∧ t.get R.VOTE_REJOIN_RETRY_MAX ≠ 0)
      if t.coreSt k = 1 ∧ (auto ∨ (t.coreOf k).returned) then t.reload k (t.get R.VOTE_STATUS_DONOR) else t) s
  else match s.mode, s.tri.recoverReq with
    | 3, some d =>
      let s := { s with tri := { s.tri with recoverReq := none, recovering := some d } }
      let s := (s.set R.VOTE_CMD_STATUS 2).set R.VOTE_STATUS_DONOR d
      (List.range 3).foldl (fun t k => if k = d then t else t.reload k d) s
    | _, _ => s

/-- RECOVER (R137): only in FAILED, and only with a donor; it completes when the reloads begin (DEDUCED, log entry 12). -/
def execRecover (m : Master) (donor : Nat) (s : State) : Host.Outcome State Fault Refusal :=
  .next (s.hostCmd m R.VOTE_CMD_STATUS fun s =>
    if s.mode ≠ 3 then s.set R.VOTE_CMD_STATUS 3
    else if 3 ≤ donor then s.set R.VOTE_CMD_STATUS 5
    else { s with tri := { s.tri with recoverReq := some donor } }.set R.VOTE_CMD_STATUS 1)

/-! ## Loads and steps (R121 to R125) -/

/-- VOTE.STATUS.STEP_PEND. -/
def State.showStepPend (s : State) : State :=
  let a := s.ax
  s.setFlag R.VOTE_STATUS_STEP_PEND (decide (a.steps ≠ [] ∨ a.annSteps ≠ []) || a.setReq.isSome || a.selLoad.isSome || a.annLoad.isSome)

/-- A host step is refused: STEP_REJ and its record (R124, R125). -/
def State.stepRej (s : State) (amount : Int) : State :=
  (s.raise P.VOTE E.VOTE_STEP_REJ).trig islVOTE 0x21 (1 :: s72Words amount)

/-- A time candidate is committed: the selected slot is one. -/
def State.timeCommitted (s : State) : Bool := decide (s.selected < 12) && !s.candFreq s.selected

/-- A SET is refused: it completes with a status, changes nothing, and is recorded with what it would have added to the scale of the last AXMARK (R122, R125;
the amount DESIGN CHOICE, log entry 12). -/
def State.setRej (s : State) (v : Int) (st : Nat) : State :=
  (s.set R.VOTE_CMD_STATUS st).trig islVOTE 0x21 (2 :: s72Words (quot (v - s.ax.mark) s72U.toNat))

/-- VOTE_SET (R122, R125): accepted while the scale is unset or no time candidate is committed, and not while following. -/
def execVoteSet (m : Master) (s : State) : Host.Outcome State Fault Refusal :=
  .next (s.hostCmd m R.VOTE_CMD_STATUS fun s =>
    let v := ofT108 (s.rdT R.VOTE_SET_T)
    if s.mode = 3 then s.setRej v 5
    else if s.flag R.DUG_STATUS_FOLLOW || (s.flag R.VOTE_STATUS_TS_SET && s.timeCommitted) then s.setRej v 4
    else ({ s with ax := { s.ax with setReq := some v } }.set R.VOTE_CMD_STATUS 1).showStepPend)

/-- The sum of the steps accepted or announced, in units of 2^-48 ns. -/
def State.stepsWaiting (s : State) : Int := ((s.ax.steps ++ s.ax.annSteps).foldl (fun z q => z + q.amount) 0) * s72U

/-- A host step is submitted (R123 to R125): refused while TS_SET is 0, in FAILED, or when the seconds would go below 0, which is judged on the scale of the last
AXMARK with every step that waits (DESIGN CHOICE, log entry 12). -/
def State.hostStep (s : State) (d : Int) : State :=
  if !s.flag R.VOTE_STATUS_TS_SET || decide (s.mode = 3) || decide (s.voteTime 0 + s.stepsWaiting + d * s72U < 0) then s.stepRej d
  else { s with ax := { s.ax with steps := s.ax.steps ++ [PhaseReq.mk 1 d] } }.showStepPend

/-- HOST_STEP_SUBMIT (R123 to R125): the low slot of VOTE.STEP is written. -/
def execHostStepSubmit (m : Master) (low : Word) (s : State) : Host.Outcome State Fault Refusal :=
  .next (s.hostWrite m (R.VOTE_STEP + 1) fun s =>
    let d := s.commitS72 m R.VOTE_STEP low
    (s.writeS72 m R.VOTE_STEP low).hostStep d)

/-- Every host step accepted and not yet announced is refused. -/
def State.dropHostSteps (s : State) : State :=
  let h := s.ax.steps.filter (fun q => decide (q.source = 1))
  let s := { s with ax := { s.ax with steps := s.ax.steps.filter (fun q => decide (q.source ≠ 1)) } }
  (h.foldl (fun t q => t.stepRej q.amount) s).showStepPend

/-- CANCEL_STEP (R124): the host steps not yet announced are refused; REFUSED when there is none. -/
def execCancelStep (m : Master) (s : State) : Host.Outcome State Fault Refusal :=
  .next (s.hostCmd m R.VOTE_CMD_STATUS fun s =>
    if s.ax.steps.any (fun q => decide (q.source = 1)) then (s.dropHostSteps).set R.VOTE_CMD_STATUS 2
    else s.set R.VOTE_CMD_STATUS 5)

/-- A pending SET completes with a status and changes nothing. -/
def State.dropSet (s : State) (st : Nat) : State :=
  match s.ax.setReq with
  | some v => { s with ax := { s.ax with setReq := none } }.setRej v st
  | none => s

/-- Steps and loads of the holder are submitted for the mark at which they are due (R435). -/
def State.takeDue (s : State) : State :=
  let now := nextMs s.ax.mark
  let due := s.dug.due.filter (fun (d : DueStep) => decide (d.at_ ≤ now + msU / 2))
  let s := { s with dug := { s.dug with due := s.dug.due.filter (fun (d : DueStep) => decide (now + msU / 2 < d.at_)) } }
  due.foldl (fun (t : State) (d : DueStep) =>
    if d.load then { t with ax := { t.ax with selLoad := some (3, true, d.amount) } }
    else { t with ax := { t.ax with steps := t.ax.steps ++ [PhaseReq.mk 3 d.amount] } }) s

/-- The value the scale will show at the next mark, with what is announced (R119 to R121). -/
def State.nextMark (s : State) : Int :=
  let t := nextMs s.ax.mark
  match s.ax.annLoad with
  | some (_, true, v) => v
  | some (_, false, d) => t + d * s72U
  | none => t + s.announced

/-- A holder tells its followers of the step or load announced (R425). -/
def State.announceSel (s : State) (next : Int) : State :=
  match s.ax.annLoad with
  | some _ => s.selFrame 2 ((toT108 next : Nat) % 2 ^ 72 : Int) next
  | none => if s.ax.annSteps = [] then s else s.selFrame 1 (s.ax.annSteps.foldl (fun z q => z + q.amount) 0) next

/-- VOTE announces for the next mark what it has accepted (R121 to R125). -/
def State.announce (s : State) : State :=
  let s := s.takeDue
  let s :=
    if s.mode = 3 then
      let t := (s.dropHostSteps).dropSet 5
      { t with ax := { t.ax with steps := [], selLoad := none, annSteps := [], annLoad := none } }
    else match s.ax.selLoad with
      | some l =>
        let t := (s.dropHostSteps).dropSet 4
        { t with ax := { t.ax with selLoad := none, annLoad := some l, steps := [], annSteps := [] } }
      | none =>
        let s := if s.ax.steps.any (fun q => decide (q.source ≠ 1)) then s.dropSet 4 else s
        match s.ax.setReq with
        | some v =>
          let t := s.dropHostSteps
          { t with ax := { t.ax with setReq := none, annLoad := some (2, true, v), steps := [], annSteps := [] } }
        | none => { s with ax := { s.ax with annSteps := s.ax.steps, steps := [], annLoad := none } }
  (s.announceSel s.nextMark).showStepPend

/-! ## UTC and leap seconds (R127, R128) -/

/-- A LEAP record (R466). -/
def State.leapRec (s : State) (bit : Nat) : State := s.trig islVOTE 0x22 [bit, (s.rd R.VOTE_UTC).toNat]

/-- The pending bits and the level event LEAP_PEND. -/
def State.setLeapPend (s : State) (b : Bool) : State :=
  if s.flag R.VOTE_STATUS_LEAP_PEND = b then s else (s.setFlag R.VOTE_STATUS_LEAP_PEND b).level P.VOTE E.VOTE_LEAP_PEND b

/-- UTC_OFFSET_WRITE (R127): the offset waits for the next AXMARK. -/
def execUtcOffsetWrite (m : Master) (v : Word) (s : State) : Host.Outcome State Fault Refusal :=
  .next (s.hostWrite m R.VOTE_UTC fun s => { s with ax := { s.ax with utcReq := some (R.VOTE_UTC_OFFSET.of v) } })

/-- The offset written takes effect: VALID, and a pending leap, one with LEAP_PEND set, is cancelled (R127; what counts as pending DESIGN CHOICE, log entry 12).
A record with no event carries 15 (DESIGN CHOICE, log entry 12). -/
def State.utcMark (s : State) : State :=
  match s.ax.utcReq with
  | none => s
  | some o =>
    let d : Int := (o : Int) - s.get R.VOTE_UTC_OFFSET
    let s := { s with ax := { s.ax with utcReq := none } }
    let s := ((s.set R.VOTE_UTC_OFFSET o).set R.VOTE_UTC_VALID 1).outLeap d
    if s.flag R.VOTE_STATUS_LEAP_PEND then
      (((s.set R.VOTE_LEAP_CTRL_KIND 0).setLeapPend false).raise P.VOTE E.VOTE_LEAP_CANCEL).leapRec E.VOTE_LEAP_CANCEL
    else s.leapRec 15

/-- VOTE.LEAP_CTRL.KIND written: a KIND of 3, a KIND without VALID, or one less than 2 s ahead is refused with LEAP_REJ (R128).  A KIND of 0 that is not refused
withdraws the leap: LEAP_PEND falls, and no event is raised (DESIGN CHOICE, log entry 12). -/
def State.leapKind (s : State) (k : Nat) : State :=
  if k = 3 ∨ s.get R.VOTE_UTC_VALID = 0 ∨ s.get R.VOTE_LEAP_AT_S < (s.voteTime 0 / secU).toNat + 2 then s.raise P.VOTE E.VOTE_LEAP_REJ
  else if k = 0 then (s.set R.VOTE_LEAP_CTRL_KIND 0).setLeapPend false
  else s.set R.VOTE_LEAP_CTRL_KIND k

/-- LEAP_SCHEDULE (R128): VOTE.LEAP_CTRL is written. -/
def execLeapSchedule (m : Master) (v : Word) (s : State) : Host.Outcome State Fault Refusal :=
  .next (s.hostWrite m R.VOTE_LEAP_CTRL fun s => (s.set R.VOTE_LEAP_CTRL_WARN (R.VOTE_LEAP_CTRL_WARN.of v)).leapKind (R.VOTE_LEAP_CTRL_KIND.of v))

/-- A scheduled leap comes within WARN seconds (R128). -/
def State.leapWarn (s : State) : State :=
  if s.get R.VOTE_LEAP_CTRL_KIND ≠ 0 ∧ s.get R.VOTE_LEAP_AT_S ≤ s.scaleSec + s.get R.VOTE_LEAP_CTRL_WARN ∧ !s.flag R.VOTE_STATUS_LEAP_PEND then
    (s.setLeapPend true).leapRec E.VOTE_LEAP_PEND
  else s

/-- LEAP_PEND (R128): from LEAP_AT - WARN on the pending bits show KIND. -/
def execLeapPend (s : State) : Host.Outcome State Fault Refusal := .next (if s.ax.running && s.up islVOTE then s.leapWarn else s)

/-- A LEAP field whose leap has taken effect: the new offset, and nothing pending (R20, R127). -/
def leapTaken (l : Nat) : Nat :=
  let o := if l / 4 % 4 = 1 then l / 16 + 1 else if l / 4 % 4 = 2 then l / 16 + 4095 else l / 16
  o % 4096 * 16 + l / 2 % 2 * 2

/-- The islands that bit 0 of LEAP has told of the leap take the new offset in the tick of the mark; a coach keeps the leap for its smear (R20, R127, R343). -/
def State.leapIslands (s : State) (sg : Int) : State :=
  let l : Int := s.get R.VOTE_LEAP_AT_S
  let told := (s.ax.ctrs.filter (fun (p : Nat × AxCtr) => p.2.leap.testBit 0)).map (fun p => p.1)
  let s := told.foldl (fun (t : State) i => t.putCtr i { t.ctrOf i with leap := leapTaken (t.ctrOf i).leap }) s
  let keep (m : List (Nat × CoachState)) (i : Nat) : List (Nat × CoachState) :=
    if 8 ≤ i ∧ i ≤ 13 then kvPut m (i - 8) { kvGetD m (i - 8) .init with lastLeap := some (l, sg) } else m
  { s with pipe := { s.pipe with coaches := told.foldl keep s.pipe.coaches } }

/-- A leap is kept for 43,200 s (R343). -/
def State.leapOld (s : State) : State :=
  let drop (x : CoachState) : CoachState := { x with lastLeap := x.lastLeap.filter (fun p => decide ((s.scaleSec : Int) ≤ p.1 + 43200)) }
  { s with pipe := { s.pipe with coaches := s.pipe.coaches.map (fun (p : Nat × CoachState) => (p.1, drop p.2)) } }

/-- The leap takes effect at a second mark at or past LEAP_AT, or at the mark of a step or load that carries the scale there (R128); RH knows of it by bit 0 of the
LEAP field that reached it (R127). -/
def State.leapMark (s : State) (jumped : Bool) : State :=
  let s := if s.ax.secMark then s.leapOld else s
  let k := s.get R.VOTE_LEAP_CTRL_KIND
  if k ≠ 0 ∧ s.get R.VOTE_LEAP_AT_S ≤ s.scaleSec ∧ (s.ax.secMark ∨ jumped) then
    let o := s.get R.VOTE_UTC_OFFSET
    let o' := if k = 1 then (o + 1) % 4096 else (o + 4095) % 4096
    let s := s.set R.VOTE_UTC_OFFSET o'
    let s := if (s.ctrOf islRH).leap.testBit 0 then s.outLeap (if k = 1 then 1 else -1) else s
    let s := s.leapIslands (if k = 1 then 1 else -1)
    (((s.set R.VOTE_LEAP_CTRL_KIND 0).setLeapPend false).raise P.VOTE E.VOTE_LEAP_DONE).leapRec E.VOTE_LEAP_DONE
  else s

/-- LEAP bit 0 of the subframe 0 that follows: the leap takes effect at the next AXMARK (R127, R128). -/
def State.leapFlag (s : State) : State :=
  let b := decide (s.get R.VOTE_LEAP_CTRL_KIND ≠ 0) && decide ((s.get R.VOTE_LEAP_AT_S : Int) ≤ s.nextMark / secU)
  { s with ax := { s.ax with leapNow := b } }

end Sys2Proof.Machine
end

