-- ==== Sys2Proof/Machine/Selector.lean ====
section
/-! DEFINITION.
The selector: choice of the best candidate, the equal-rank rule, host commands, the switch sequence and steering (R149 to R158).
-/
namespace Sys2Proof.Machine
open Sys2Proof

def State.selSt (s : State) : Nat := s.get R.SEL_STATUS_STATE
def State.target (s : State) : Nat := s.get R.SEL_STATUS_TARGET

/-- A switch phase change with its SEL record (R162, R466); a holder sends a SEL frame (R425). -/
def State.setSel (s : State) (new : Nat) (abort : Bool) : State :=
  let old := s.selSt
  ((s.set R.SEL_STATUS_STATE new).trig islRH 0x31 [old, new, s.target, if abort then 1 else 0]).selFrame 0 0 s.ax.mark

/-- FREQ_ONLY, ATOM_HOLD, and CAND.STATUS.SELECTED (R148, R159, R161). -/
def State.showSel (s : State) : State :=
  let cur := s.selected
  let s := s.setFlag R.SEL_STATUS_FREQ_ONLY (decide (cur < 12) && s.candFreq cur)
  let s := s.setFlag R.SEL_STATUS_ATOM_HOLD (decide (s.selSt = 1) && (List.range 12).any (fun k => decide (s.candSrc k = 6 ∧ s.candSt k = 4)))
  (List.range 12).foldl (fun t k => t.setFlag (R.CAND_STATUS_SELECTED k) (decide (cur = k))) s

/-- The best candidate of R149, `cur` being kept among equals. -/
def State.best (s : State) (cur : Nat) : Option Nat :=
  let e := (List.range 12).filter (fun k => s.eligible k)
  let r := e.foldl (fun m k => min m (s.get (R.CAND_BIND_RANK k))) 16
  let g := e.filter (fun k => decide (s.get (R.CAND_BIND_RANK k) = r))
  if g.contains cur then some cur else g.head?

/-- The selector enters HOLDOVER (R151, R156). -/
def State.enterHold (s : State) (abort : Bool) : State :=
  let cur := s.selected
  let s := if cur < 12 then s.set R.SEL_STATUS_PREV cur else s
  let s := ((s.set R.SEL_STATUS_SELECTED 15).set R.SEL_STATUS_MANUAL 0).set R.SEL_STATUS_WAIT_VOTE 0
  let s := ((s.set R.SEL_STATUS_TARGET 15).setSel 1 abort).raise P.SEL E.SEL_HOLDOVER
  s.showSel.showDiffs

/-- A switch starts: DECIDE (R152). -/
def State.startSwitch (s : State) (t : Nat) (manual abort : Bool) : State :=
  let st := s.selSt
  let was := if st = 2 ∨ st = 3 then s.sel.was else if st = 5 then 6 else st
  let s := { s with sel := { s.sel with was := was, prepMs := 0, manualSwitch := manual, moved := true } }
  let s := (((s.set R.SEL_STATUS_TARGET t).set R.SEL_STATUS_WAIT_VOTE 0).bump R.SEL_SWITCHES_COUNT).setSel 2 abort
  (s.raise P.SEL E.SEL_SWITCH_START).showSel

/-- The switch rules of R151 with no switch in progress. -/
def State.decide_ (s : State) : State :=
  let cur := s.selected
  if s.flag R.SEL_STATUS_FORCED_HOLD then s
  else if cur < 12 ∧ s.eligible cur then
    match s.best cur with
    | none => s
    | some b =>
      if s.get (R.CAND_BIND_RANK b) < s.get (R.CAND_BIND_RANK cur) then
        let c := s.slotOf b
        if s.flag R.SEL_MODE_REVERT then
          if c.wtrMs = 0 ∧ (!s.flag R.SEL_STATUS_MANUAL ∨ c.manualOk) then s.startSwitch b false false else s
        else if c.betterSeen then s
        else (s.putSlot b { c with betterSeen := true }).raise P.SEL E.SEL_BETTER_AVAIL
      else s
  else
    match s.best cur with
    | some b => s.startSwitch b false false
    | none => if cur < 12 then s.enterHold false else s

/-- The switch in progress is aborted (R154): ABORTS and the event; without a switch to follow, the current candidate stays selected, or the selector is
back where no candidate is selected.  A switch that follows goes to the best of R149 whatever its wait-to-restore. -/
def State.abortSwitch (s : State) (follow : Bool) : State :=
  let cur := s.selected
  let s := (s.bump R.SEL_ABORTS_COUNT).raise P.SEL E.SEL_ABORT
  let s := s.putSlot s.target { s.slotOf s.target with prep := [] }
  if !follow then s
  else
    match s.best cur with
    | some b =>
      if b = cur then (((s.setSel 6 true).set R.SEL_STATUS_TARGET 15).set R.SEL_STATUS_WAIT_VOTE 0).showSel else s.startSwitch b false true
    | none =>
      if s.sel.was = 0 ∧ 12 ≤ cur then ((s.setSel 0 true).set R.SEL_STATUS_TARGET 15).set R.SEL_STATUS_WAIT_VOTE 0
      else s.enterHold true

/-! ## Step 1: candidate states at a mark (R145, R147) -/

/-- One slot's counts at an AXMARK. -/
def State.candMark (s : State) (k : Nat) : State :=
  let c := s.slotOf k
  let st := s.candSt k
  if st = 2 ∧ s.flag R.VOTE_STATUS_TS_SET then s.setCand k 3 0
  else if st = 3 then
    let s := (s.putSlot k { c with qualMs := c.qualMs - 1 }).set (R.CAND_QUAL_LEFT_S k) ((c.qualMs - 1 + 999) / 1000)
    if c.qualMs ≤ 1 then s.qualify k else s
  else if s.flag (R.CAND_STATUS_WTR_RUN k) then
    let s := (s.putSlot k { c with wtrMs := c.wtrMs - 1 }).set (R.CAND_WTR_LEFT_S k) ((c.wtrMs - 1 + 999) / 1000)
    if c.wtrMs ≤ 1 then s.wtrEnd k else s
  else s

/-! ## Step 2: the equal-rank rule (R150) -/

/-- One rank group at a second mark. -/
def State.dispute (s : State) (rank : Nat) : State :=
  let g := (List.range 12).filter (fun k =>
    decide (s.get (R.CAND_BIND_RANK k) = rank) && decide (s.candSrc k ≠ 6) && (decide (s.candSt k = 4) || decide (s.candSt k = 5)))
  let lim := s.getS R.SEL_DISAGREE_Y
  let dis := g.any (fun i => g.any (fun j => decide (lim < ((s.getS (R.CAND_FREQ_Y i) - s.getS (R.CAND_FREQ_Y j)).natAbs : Int))))
  let arb := dis && decide (s.get R.BOOT_STAGE_STAGE = 4) && !s.flag R.BOOT_STAGE_STEADY_LOST && s.flag R.VOTE_OSC_STAT_DISC
  let s := s.raiseIf dis P.SEL E.SEL_DISPUTE
  g.foldl (fun t k =>
    let t := t.setFlag (R.CAND_STATUS_DISAGREE k) dis
    let out := arb && decide (t.getS R.SEL_ARB_TOL_Y < ((t.getS (R.CAND_FREQ_Y k)).natAbs : Int))
    if out then t.setCand k 5 0 else t.setCand k 4 0) s

/-- The rule over all ranks; a slot in no group is not in disagreement. -/
def State.disputes (s : State) : State :=
  let s := (List.range 12).foldl (fun t k => if t.candSt k = 4 ∨ t.candSt k = 5 then t else t.set (R.CAND_STATUS_DISAGREE k) 0) s
  (List.range 15).foldl (fun t r => t.dispute (r + 1)) s

/-! ## Step 3: host commands (R149, R151) -/

/-- SEL.CMD completes; a refusal raises CMD_REJ. -/
def State.selDone (s : State) (st : Nat) : State := (s.set R.SEL_CMD_STATUS st).raiseIf (decide (st = 3 ∨ st = 4)) P.SEL E.SEL_CMD_REJ

/-- SEL.CMD SWITCH at the mark. -/
def State.takeSwitch (s : State) (slot : Nat) : State :=
  let st := s.selSt
  let cur := if st = 4 then s.target else s.selected
  if 12 ≤ slot ∨ !s.eligible slot then s.selDone 3
  else if slot = cur then
    if st = 2 ∨ st = 3 then
      let s := s.abortSwitch false
      (((s.setSel 6 true).set R.SEL_STATUS_TARGET 15).set R.SEL_STATUS_WAIT_VOTE 0).showSel.selDone 2
    else s.selDone 2
  else if st = 4 ∨ st = 5 then s.selDone 4
  else if st = 1 ∧ s.flag R.SEL_STATUS_FORCED_HOLD then s.selDone 4
  else if st = 2 ∨ st = 3 then ((s.abortSwitch false).startSwitch slot true true).selDone 2
  else (s.startSwitch slot true false).selDone 2

/-- SEL.CMD HOLDOVER at the mark. -/
def State.takeHoldover (s : State) : State :=
  let st := s.selSt
  if st = 4 then { s with sel := { s.sel with holdAfter := true } }
  else if st = 1 then ((s.set R.SEL_STATUS_FORCED_HOLD 1)).selDone 2
  else if st = 2 ∨ st = 3 then (((s.abortSwitch false).enterHold true).set R.SEL_STATUS_FORCED_HOLD 1).selDone 2
  else ((s.enterHold false).set R.SEL_STATUS_FORCED_HOLD 1).selDone 2

/-- One request in its turn. -/
def State.takeReq (s : State) (q : SelReq) : State :=
  match q with
  | .lockout m => { s with sel := { s.sel with lockout := m } }
  | .switch k => s.takeSwitch k
  | .holdover => s.takeHoldover
  | .release => (s.set R.SEL_STATUS_FORCED_HOLD 0).selDone 2

/-- SEL.CMD SWITCH, HOLDOVER and RELEASE wait for the next mark. -/
def State.selAsk (s : State) (m : Master) (q : SelReq) : State :=
  s.hostCmd m R.SEL_CMD_STATUS fun s => { s with sel := { s.sel with reqs := s.sel.reqs ++ [q] } }.set R.SEL_CMD_STATUS 1

/-- SEL_SWITCH (R151). -/
def execSelSwitch (m : Master) (slot : Nat) (s : State) : Host.Outcome State Fault Refusal := .next (s.selAsk m (.switch slot))

/-- SEL_HOLDOVER (R151). -/
def execSelHoldover (m : Master) (s : State) : Host.Outcome State Fault Refusal := .next (s.selAsk m .holdover)

/-- SEL_RELEASE (R151). -/
def execSelRelease (m : Master) (s : State) : Host.Outcome State Fault Refusal := .next (s.selAsk m .release)

/-- SEL_CLEAR_WTR (R147): the wait of the named slot ends at once. -/
def execSelClearWtr (m : Master) (slot : Nat) (s : State) : Host.Outcome State Fault Refusal :=
  .next (s.hostCmd m R.SEL_CMD_STATUS fun s =>
    (if slot < 12 ∧ s.flag (R.CAND_STATUS_WTR_RUN slot) then s.wtrEnd slot else s).set R.SEL_CMD_STATUS 2)

/-- LOCKOUT_WRITE (R149): the mask is applied at the next mark. -/
def execLockoutWrite (m : Master) (v : Word) (s : State) : Host.Outcome State Fault Refusal :=
  .next (s.hostWrite m R.SEL_LOCKOUT fun s =>
    let k := R.SEL_LOCKOUT_MASK.of v
    { s with sel := { s.sel with reqs := s.sel.reqs ++ [SelReq.lockout k] } }.set R.SEL_LOCKOUT_MASK k)

/-! ## Step 4: the switch sequence (R152 to R155) -/

/-- A switch before COMMIT is to be aborted (R154). -/
def State.switchDead (s : State) : Bool :=
  !s.eligible s.target || (!s.sel.manualSwitch && decide (s.best s.selected ≠ some s.target))

/-- The offset of the target at Mc + 2 from its PREPARE offsets and CAND.FREQ, in S72 units (R153). -/
def stepOf (prep : List Meas) (freq mc : Int) : Int :=
  let n : Int := prep.length
  let so := prep.foldl (fun z m => z + m.o) 0
  let st := prep.foldl (fun z m => z + m.t) 0
  nearQ (so * 2 ^ 80 + freq * (n * (mc + 2 * msU) - st)) (n.toNat * 2 ^ 80)

/-- PREPARE_END (R152, R153, R155): at the first mark with PREP_TIME passed and a target sample in hand, COMMIT begins, or the switch waits while the mode is
FAILED. -/
def execPrepareEnd (s : State) : Host.Outcome State Fault Refusal :=
  .next (s.inRh (
    let t := s.target
    let c := s.slotOf t
    if s.flag R.DUG_STATUS_FOLLOW ∨ s.selSt ≠ 3 ∨ s.sel.prepMs < s.getOr R.SEL_PREP_TIME_MS 10 10000 100 ∨ c.prep = [] ∨ s.switchDead then s
    else if s.mode = 3 then s.set R.SEL_STATUS_WAIT_VOTE 1
    else
      let mc := s.ax.mark
      let amount := stepOf c.prep (s.getS (R.CAND_FREQ_Y t)) mc
      let ok := (List.range 12).filter (fun k => (s.slotOf k).manualOk)
      let s := { s with sel := { s.sel with mcT := mc, commitAge := 0, shift := amount, submitted := true, manualWas := s.flag R.SEL_STATUS_MANUAL, okWas := ok } }
      let s := if s.sel.manualSwitch then (List.range 12).foldl (fun u k => u.putSlot k { u.slotOf k with manualOk := false }) s else s
      let s := ((s.set R.SEL_STATUS_WAIT_VOTE 0).setFlag R.SEL_STATUS_MANUAL s.sel.manualSwitch).setSel 4 false
      if s.candFreq t then s.wrS R.SEL_STEP_LAST 0
      else if s.flag R.VOTE_STATUS_TS_SET then
        let s := s.wrS R.SEL_STEP_LAST amount
        let s := s.raiseIf (decide ((s.get R.SEL_STEP_WARN_PS : Int) * 65536 < amount.natAbs * 1000)) P.SEL E.SEL_STEP_BIG
        { s with ax := { s.ax with steps := s.ax.steps ++ [PhaseReq.mk 0 amount] } }.showStepPend
      else
        { s with ax := { s.ax with selLoad := some (0, false, amount + quot (c.base.getD 0) s72U.toNat) } }.showStepPend))

/-- The applying mark Mc + 2 (R152): the target is selected and the bias is 0; a frequency target's origin moves so that its offset is 0. -/
def State.commitSwitch (s : State) : State :=
  let old := s.selected
  let t := s.target
  let freq := s.candFreq t
  let c := s.slotOf t
  let s :=
    if freq then
      match c.origin with
      | some o => s.freqOrigin t (o + s.sel.shift * s72U) 0
      | none => s
    else s
  let s := s.putSlot t { s.slotOf t with prep := [] }
  let s := { s with sel := { s.sel with bias := 0, biasTarget := 0, steering := false, feedFrom := s.ax.mark, firstNext := true, settleMs := 0, submitted := false,
                                        lastTimeSrc := if freq then s.sel.lastTimeSrc else s.candSrc t } }
  let s := s.wrS R.SEL_STEER_BIAS 0
  let s :=
    if s.sel.holdAfter then
      let s := { s with sel := { s.sel with holdAfter := false } }
      let s := (((s.set R.SEL_STATUS_PREV t).set R.SEL_STATUS_SELECTED 15).set R.SEL_STATUS_TARGET 15).set R.SEL_STATUS_MANUAL 0
      (((s.set R.SEL_STATUS_FORCED_HOLD 1).setSel 1 false).raise P.SEL E.SEL_HOLDOVER).selDone 2
    else
      let s := (s.set R.SEL_STATUS_PREV old).set R.SEL_STATUS_SELECTED t
      (s.setSel 5 false).set R.SEL_STATUS_TARGET 15
  s.showSel.showDiffs

/-- The selected slot is lost in SETTLE (R154). -/
def State.settleLost (s : State) : Bool := decide (s.selSt = 5 ∧ (s.candSt s.selected = 0 ∨ s.candSt s.selected = 1 ∨ s.candSt s.selected = 6))

/-- A submitted step that the mode FAILED keeps from its announcement is discarded, and the switch is back at the end of PREPARE (R155), where a HOLDOVER
accepted in COMMIT acts as R151 has it act in PREPARE (DEDUCED, log entry 13). -/
def State.uncommit (s : State) : State :=
  let s := { s with ax := { s.ax with steps := s.ax.steps.filter (fun q => decide (q.source ≠ 0)), selLoad := none }, sel := { s.sel with submitted := false } }
  let s := s.sel.okWas.foldl (fun u k => u.putSlot k { u.slotOf k with manualOk := true }) s
  let s := (((s.setFlag R.SEL_STATUS_MANUAL s.sel.manualWas).set R.SEL_STATUS_WAIT_VOTE 1).setSel 3 false).showStepPend
  if s.sel.holdAfter then { s with sel := { s.sel with holdAfter := false } }.takeHoldover else s

/-- COMMIT at the marks Mc + 1 and Mc + 2; a target lost in COMMIT ends SETTLE as it begins (R154, R155). -/
def State.commitMark (s : State) : State :=
  let n := s.sel.commitAge + 1
  let s := { s with sel := { s.sel with commitAge := n } }
  if n = 1 ∧ s.mode = 3 ∧ !s.candFreq s.target then s.uncommit
  else if 2 ≤ n then
    let s := s.commitSwitch
    if s.settleLost then s.decide_ else s
  else s

/-- SETTLE at a mark: the target is lost, or the servo reports LOCKED (R152, R154). -/
def State.settleMark (s : State) : State :=
  let s := { s with sel := { s.sel with settleMs := s.sel.settleMs + 1 } }
  if s.settleLost then s.decide_
  else if s.get R.SRV_STATUS_STATE = 2 then (s.setSel 6 false).raise P.SEL E.SEL_SWITCH_DONE
  else s

/-- Step 4 of R149 at a mark; `fresh`: a host command has begun DECIDE at this mark, and it ends at the next. -/
def State.selAdvance (s : State) (fresh : Bool) : State :=
  match s.selSt with
  | 2 =>
    if s.switchDead then s.abortSwitch true
    else if fresh then s
    else
      let t := s.target
      ({ s with sel := { s.sel with prepMs := 0 } }.putSlot t { s.slotOf t with prep := [] }).setSel 3 false
  | 3 => if s.switchDead then s.abortSwitch true else { s with sel := { s.sel with prepMs := s.sel.prepMs + 1 } }
  | 4 => s.commitMark
  | 5 => s.settleMark
  | _ => s.decide_

/-- SETTLE_TIMEOUT (R152): SETTLE_MAX has passed; the target goes LOST with WHY SETTLE, and R151 starts the next switch. -/
def execSettleTimeout (s : State) : Host.Outcome State Fault Refusal :=
  .next (s.inRh (
    if !s.flag R.DUG_STATUS_FOLLOW ∧ s.selSt = 5 ∧ 1000 * s.getOr R.SEL_SETTLE_MAX_S 10 3600 600 ≤ s.sel.settleMs then
      (((s.setCand s.selected 1 8).raise P.SEL E.SEL_SETTLE_FAIL)).decide_.showSel
    else s))

/-! ## Steering (R157) -/

/-- STEER_SUBMIT (R157): the low slot of SEL.PHASE_STEP adds to the bias target; refused in FREERUN, HOLDOVER and COMMIT. -/
def execSteerSubmit (m : Master) (low : Word) (s : State) : Host.Outcome State Fault Refusal :=
  .next (s.hostWrite m (R.SEL_PHASE_STEP + 1) fun s =>
    let st := s.selSt
    if st = 0 ∨ st = 1 ∨ st = 4 then (s.clearStaged m).raise P.SEL E.SEL_CMD_REJ
    else
      let d := s.commitS72 m R.SEL_PHASE_STEP low
      let s := s.writeS72 m R.SEL_PHASE_STEP low
      { s with sel := { s.sel with biasTarget := s.sel.biasTarget + d * 1000000, steering := true } })

/-- The bias moves for one millisecond at STEER_RATE. -/
def State.steerMark (s : State) : State :=
  if s.sel.bias = s.sel.biasTarget then s
  else
    let r : Int := s.get1 R.SEL_STEER_RATE_PS * 65536
    let b := s.sel.bias + clampInt (-r) r (s.sel.biasTarget - s.sel.bias)
    { s with sel := { s.sel with bias := b } }.wrS R.SEL_STEER_BIAS (quot b 1000000)

/-- STEER_DONE (R157): the bias has reached its target. -/
def execSteerDone (s : State) : Host.Outcome State Fault Refusal :=
  .next (s.inRh (
    if s.sel.steering ∧ s.sel.bias = s.sel.biasTarget then { s with sel := { s.sel with steering := false } }.raise P.SEL E.SEL_STEER_DONE
    else s))

/-- A request while the device follows a holder, when the selector makes no decisions (R435): a lockout applies, a command is refused (log entry 33). -/
def State.followReq (s : State) (q : SelReq) : State :=
  match q with
  | .lockout m => { s with sel := { s.sel with lockout := m } }
  | _ => s.selDone 4

/-- The selector at an AXMARK, in the order of R149. -/
def State.selMark (s : State) : State :=
  let s := (List.range 12).foldl (fun t k => t.candMark k) s
  let s := if s.ax.secMark then s.disputes else s
  let q := s.sel.reqs
  let s := { s with sel := { s.sel with reqs := [], moved := false } }
  if s.flag R.DUG_STATUS_FOLLOW then (q.foldl State.followReq s).steerMark
  else
    let s := q.foldl State.takeReq s
    let s := s.selAdvance s.sel.moved
    s.steerMark.showSel

end Sys2Proof.Machine
end

