-- ==== Sys2Proof/Machine/Servo.lean ====
section
/-! DEFINITION.
The servo and the holdover estimator (R163 to R189).  Words and the integral term are in units of 2^-80; F36 values are 2^32 such units.
-/
namespace Sys2Proof.Machine
open Sys2Proof

/-! ## Loop constants (R163 to R165) -/

/-- pi as a fraction of 10^39 (DESIGN CHOICE, log entry 13). -/
abbrev piN : Int := 3141592653589793238462643383279502884197

/-- A bandwidth code as it acts (R164). -/
def bwCode (n : Nat) : Nat := if n ≤ 19 then n else 3

/-- The bandwidth of a code in mHz (R164). -/
def bwMhz (c : Nat) : Nat := (if c % 3 = 0 then 1 else if c % 3 = 1 then 2 else 5) * 10 ^ (c / 3)

/-- The damping of a code in thousandths (R164). -/
def dampOf (d : Nat) : Nat :=
  match d with
  | 0 => 707
  | 1 => 1000
  | 2 => 2000
  | _ => 4000

/-- The integral step wn^2 * o * Ts (R163); `o` in S72 units, `ts` in 2^-48 ns. -/
def integStep (bw : Nat) (o ts : Int) : Int := quot (4 * piN * piN * bw * bw * 65536 * o * ts) (10 ^ 102)

/-- The proportional term 2 * zeta * wn * o (R163). -/
def propTerm (bw damp : Nat) (o : Int) : Int := quot (4 * damp * piN * bw * o * 2 ^ 64) (10 ^ 54)

def State.srvSt (s : State) : Nat := s.get R.SRV_STATUS_STATE
def State.hostFeed (s : State) : Bool := s.flag R.SRV_FEED_CTRL_HOST

/-- The nominal sample interval of the feed, in 2^-48 ns; offsets of a holder come at one per ms (R435). -/
def State.feedInterval (s : State) : Int :=
  if s.hostFeed then quot secU (clampNat 1 25000 (s.get R.SRV_FEED_CTRL_RATE))
  else if s.flag R.DUG_STATUS_FOLLOW then msU
  else s.candInterval (s.get R.SRV_STATUS_SLOT)

/-- The sample rate of R165 in samples per 1000 s: once ten samples of the feed exist, the mean rate over the last 10 s. -/
def State.feedRate (s : State) : Nat :=
  if s.hostFeed then 1000 * clampNat 1 25000 (s.get R.SRV_FEED_CTRL_RATE)
  else if s.srv.accN = 10 then s.srv.recent.length * 100
  else (1000 * secU / max 1 s.feedInterval).toNat

/-- The highest code whose bandwidth does not exceed a tenth of the rate; code 0 when none does. -/
def rateCode (rate : Nat) : Nat := ((List.range 20).filter (fun c => decide (10 * bwMhz c ≤ rate))).getLast?.getD 0

/-- The code set for the servo state. -/
def State.setCode (s : State) : Nat := bwCode (if s.srvSt = 2 then s.get R.SRV_BW_TRK else s.get R.SRV_BW_ACQ_ACQ)

/-- The code in force (R165). -/
def State.bwNow (s : State) : Nat := min s.setCode (rateCode s.feedRate)

/-- The proportional term in force. -/
def State.prop (s : State) (o : Int) : Int := propTerm (bwMhz s.bwNow) (dampOf (s.get R.SRV_BW_DAMP)) o

/-- FREQ_LIM as a word (R166). -/
def State.wordLim (s : State) : Int := (min (s.get R.SRV_FREQ_LIM_Y) 34359738367 : Nat) * 4294967296

/-- A servo state change (R168, R466): out of SWITCH_HOLD and HOLDOVER the envelope is 0 (R182), and outside ACQUIRE and LOCKED no slot feeds (R186). -/
def State.setSrv (s : State) (new : Nat) : State :=
  let old := s.srvSt
  if old = new then s
  else
    let s := (s.set R.SRV_STATUS_STATE new).setFlag R.HOLD_STATUS_IN_HOLD (decide (new = 4))
    let s := if new = 3 ∨ new = 4 then s else s.set R.HOLD_ENVELOPE_PS 0
    let s := if new = 1 ∨ new = 2 then s else s.set R.SRV_STATUS_SLOT 15
    (s.raise P.SRV E.SRV_STATE).trig 2 0x40 [old, new]

/-- SRV.STATUS.CLAMP, its count and its level event (R166). -/
def State.setClamp (s : State) (on : Bool) : State :=
  if s.flag R.SRV_STATUS_CLAMP = on then s
  else
    let s := (s.setFlag R.SRV_STATUS_CLAMP on).level P.SRV E.SRV_CLAMP on
    if on then s.bump R.SRV_CLAMPS_COUNT else s

/-- The word sent: the word of the state within the limit, and CLAMP while it lies beyond (R166). -/
def State.sendWord (s : State) (raw : Int) : State :=
  let w := clampInt (-s.wordLim) s.wordLim raw
  let s := s.setClamp (decide (w ≠ raw))
  let s := { s with srv := { s.srv with word := w } }
  (s.setS R.SRV_FREQ_OUT_Y (quot w 4294967296)).setS R.SRV_INTEG_Y (clampInt (-34359738368) 34359738367 (quot s.srv.integ 4294967296))

/-! ## Holdover model -/

/-- A HOLD record (R189, R466). -/
def State.holdRec (s : State) (bit : Nat) : State :=
  s.trig 2 0x41 [bit, (s.rd R.HOLD_Y0).toNat, (s.rd R.HOLD_AGE).toNat, (s.rd R.HOLD_TC).toNat]

/-- A HOLD event with its record. -/
def State.holdEvt (s : State) (bit : Nat) : State := (s.raise P.HOLD bit).holdRec bit

def State.learn (s : State) : Nat := s.get R.HOLD_STATUS_LEARN
def State.holdTemp (s : State) : Int := s.getS R.HOLD_TEMP_T

/-- The mean of the last 64 VOTE.CELL_Y values as a word. -/
def State.cellMean (s : State) : Int :=
  match s.srv.cellYs with
  | [] => 0
  | l => quot (l.foldl (· + ·) 0 * 4294967296) l.length

/-- The prediction of R180 at `t` (2^-48 ns) after the entry; with LEARN NONE at entry the Y0 taken there, without AGE and TC. -/
def State.predict (s : State) (t : Int) : Int :=
  match s.hold.noneY0 with
  | some y => y + s.cellMean
  | none =>
    let w : Int := s.getOr R.HOLD_WINDOW_S 100 86400 3600
    let e : Int := min 600 (s.get R.HOLD_EXCLUDE_S)
    let y0 := s.getS R.HOLD_Y0_Y * 4294967296
    let age := quot (s.getS R.HOLD_AGE_Y * 4294967296 * (2 * t + (2 * e + w) * secU)) (172800 * secU.toNat)
    let tc := quot (s.getS R.HOLD_TC_Y * 4194304 * (s.holdTemp - s.hold.thetaBar)) 1
    y0 + age + tc + s.cellMean

/-- A coefficient register, negative values read as 0 (R188). -/
def State.coef (s : State) (f : Fld) : Int := max 0 (s.getS f)

/-- Time since the envelope's clock started. -/
def State.holdClock (s : State) (now : Int) : Int :=
  match s.hold.clock with
  | some c => max 0 (now - c)
  | none => 0

/-- The growth of the envelope (R182) after time `t` with a temperature integral, as a numerator over `envDen` seconds: b_u, c_u and t_u of the model in force. -/
def State.envNum (s : State) (t : Int) (integral : Nat) : Int :=
  let k : Int := if s.learn = 2 then 1 else 4
  let cell := decide (s.get R.HOLD_STATUS_MODEL = 0)
  let b := if cell then max (k * s.coef R.HOLD_UNC_B_Y) (3 * s.hold.sY0) else s.coef R.HOLD_OCXO_B_Y
  let c := if cell then max (k * s.coef R.HOLD_UNC_C_Y) (3 * s.hold.sAge) else s.coef R.HOLD_OCXO_C_Y
  let u := if cell then max (s.coef R.HOLD_UNC_T_Y) (3 * s.hold.sTc) else s.coef R.HOLD_OCXO_T_Y
  b * t * 176947200 * secU + c * t * t * 1024 + u * integral * 172800 * secU * secU

/-- The denominator of `envNum`. -/
def envDen : Nat := (176947200 * nsU * secU * secU).toNat

/-- HOLD.ENVELOPE at an instant (R182). -/
def State.envelope (s : State) (now : Int) : Nat :=
  sat36 (s.hold.au + (quot (s.envNum (s.holdClock now) s.hold.integral * 1000000000000) envDen).toNat)

/-- The envelope's clock starts with a given a_u (R180 to R182). -/
def State.startClock (s : State) (now : Int) (au : Nat) : State :=
  { s with hold := { s.hold with clock := some now, au := au, integral := 0, stepped := false } }.setS R.HOLD_TEMP0_T s.holdTemp

/-- a_u at an entry (R182). -/
def State.entryAu (s : State) : Nat := max (s.get R.HOLD_UNC_A_PS) (s.get R.SRV_RESIDUAL_PS)

/-- The HOLD record written to NVM (R179). -/
def State.holdPayload (s : State) : List Word :=
  [s.rd R.HOLD_Y0, s.rd R.HOLD_AGE, s.rd R.HOLD_TC, BitVec.ofNat 36 (ofSigned 18 s.hold.thetaBar), BitVec.ofNat 36 (s.get R.VOTE_OSC_EFC_CODE),
   BitVec.ofNat 36 (s.get R.HOLD_LEARNED_S), BitVec.ofNat 36 s.hold.hours.length] ++ (s.hold.hours.reverse.map (fun h => BitVec.ofNat 36 (ofSigned 36 h.z)))

def State.writeHold (s : State) : State := { s.nvPut .holdover 0x30 s.holdPayload with hold := { (s.nvPut .holdover 0x30 s.holdPayload).hold with recSecs := 0 } }

/-- The servo enters HOLDOVER (R180). -/
def State.enterHoldover (s : State) (now : Int) : State :=
  let none_ := decide (s.learn = 0)
  let s := { s with hold := { s.hold with noneY0 := if none_ then some (s.srv.integ - s.cellMean) else none, enterT := now } }
  let s := ((s.startClock now s.entryAu).wrT R.HOLD_ENTER_T (toT108 now)).bump R.HOLD_ENTRIES_COUNT
  let s := ((s.set R.HOLD_ELAPSED_S 0).set R.HOLD_STATUS_SEGMENT 0).set R.HOLD_ENVELOPE_PS s.entryAu
  let s := { s with hold := { s.hold with frozen := s.predict 0 } }
  ((s.setSrv 4).holdEvt E.HOLD_ENTER).writeHold

/-- MODEL follows ATOM_HOLD; a change during holdover restarts the envelope's clock from the envelope reached (R181). -/
def State.holdModel (s : State) (now : Int) : State :=
  let m := if s.flag R.SEL_STATUS_ATOM_HOLD then 0 else 1
  if s.get R.HOLD_STATUS_MODEL = m then s
  else if s.srvSt = 4 ∧ s.flag R.HOLD_STATUS_IN_HOLD then
    let e := s.envelope now
    let w := s.predict (now - s.hold.enterT)
    let s := { s with hold := { s.hold with frozen := w } }
    let st := s.hold.stepped
    let s := s.startClock now e
    let s := { s with hold := { s.hold with stepped := st } }
    ((s.set R.HOLD_STATUS_MODEL m).set R.HOLD_STATUS_SEGMENT 1).holdEvt E.HOLD_MODEL
  else s.set R.HOLD_STATUS_MODEL m

/-! ## Servo states (R168 to R170) -/

/-- The servo enters SWITCH_HOLD: the word is I, without the proportional term. -/
def State.enterSwitchHold (s : State) (now : Int) : State := ((s.startClock now s.entryAu).set R.HOLD_ENVELOPE_PS s.entryAu).setSrv 3

/-- The selector's state takes effect in the servo. -/
def State.takeSel (s : State) (now : Int) : State :=
  let sel := s.selSt
  let elig := decide (s.selected < 12) && s.eligible s.selected
  let s := { s with srv := { s.srv with selSeen := sel, selElig := elig } }
  let st := s.srvSt
  let run := decide (st = 1 ∨ st = 2)
  if sel = 0 then s.setSrv 0
  else if sel = 1 then (if st = 4 then s else s.enterHoldover now)
  else if run && (decide (sel = 4) || (decide (sel = 3) && !elig)) then s.enterSwitchHold now
  else s

/-- The word of the state in force (R168). -/
def State.stateWord (s : State) (now : Int) : Int :=
  match s.srvSt with
  | 0 => if s.flag R.HOLD_STATUS_RESTORED then s.predict 0 else 0
  | 3 => s.srv.integ
  | 4 => if s.get R.HOLD_STATUS_MODEL = 0 then s.predict (now - s.hold.enterT) else s.hold.frozen
  | _ => s.srv.integ + s.srv.drop + s.prop s.srv.lastO

/-- A FIRST sample starts ACQUIRE (R167, R170): I takes the word that the servo was sending; after SWITCH_HOLD, which holds I, and after a host feed that has ended
(R174), it is kept.  From IDLE, SWITCH_HOLD and HOLDOVER the residual window is emptied. -/
def State.acquire (s : State) (now : Int) : State :=
  let st := s.srvSt
  let fresh := decide (st = 0 ∨ st = 3 ∨ st = 4)
  let i := if st = 3 ∨ s.srv.keepI then s.srv.integ else clampInt (-s.wordLim) s.wordLim (s.stateWord now)
  let s := { s with srv := { s.srv with integ := i, drop := 0, resid := if fresh then [] else s.srv.resid, lockFrom := none, farRun := 0, accN := 0, recent := [],
                                        keepI := false } }
  let s := { s with hold := { s.hold with noneY0 := none } }
  s.setSrv 1

/-- The offset is at most `lim` ps in magnitude. -/
def within (o : Int) (lim : Nat) : Bool := decide (o.natAbs * 1000 ≤ lim * 65536)

/-- The lock and unlock tests of R169. -/
def State.lockTest (s : State) (t o : Int) : State :=
  if s.srvSt = 1 then
    if within o (s.get R.SRV_LOCK_PH_PS) then
      let from_ := s.srv.lockFrom.getD t
      let s := { s with srv := { s.srv with lockFrom := some from_ } }
      let span : Int := s.get1 R.SRV_LOCK_TIME_S * secU
      let eight : Bool := match s.srv.acc.getLast? with
        | some a => decide (s.srv.acc.length = 8) && decide (t - span ≤ a)
        | none => false
      if span ≤ t - from_ ∧ eight then
        ({ s with srv := { s.srv with farRun := 0 } }.setSrv 2).bump R.SRV_LOCKS_COUNT |>.raise P.SRV E.SRV_LOCK
      else s
    else { s with srv := { s.srv with lockFrom := none } }
  else if s.srvSt = 2 then
    let n := if within o (s.get R.SRV_UNLOCK_PH_PS) then 0 else s.srv.farRun + 1
    let s := { s with srv := { s.srv with farRun := n } }
    if 3 ≤ n then
      ({ s with srv := { s.srv with farRun := 0, lockFrom := none } }.setSrv 1).bump R.SRV_UNLOCKS_COUNT |>.raise P.SRV E.SRV_UNLOCK
    else s
  else s

/-- An accepted sample (R163, R166, R167): a step of I that would drive a word beyond the limit further out is left out of I, and out of no word; the instant of a time
candidate's sample is kept for R341. -/
def State.acceptFeed (s : State) (f : FeedSample) : State :=
  let s : State := { s with teb := { s.teb with hostAdd := 0 }, pipe := { s.pipe with lastAcc := if f.freq then s.pipe.lastAcc else f.t } }
  let s := s.set R.SRV_STATUS_SLOT f.slot
  let cap := 10 * s.feedInterval
  let ts := match s.srv.prev with
    | some p => clampInt 0 cap (f.t - p)
    | none => 0
  let di := integStep (bwMhz s.bwNow) f.o ts
  let y := s.srv.integ + di + s.prop f.o
  let beyond := decide (s.wordLim < y ∨ y < -s.wordLim)
  let out := beyond && (decide (0 < di ∧ 0 < y) || decide (di < 0 ∧ y < 0))
  let resid := (sat36 (psOf ((f.o.natAbs : Int) * s72U)).toNat :: s.srv.resid).take 64
  let s := { s with srv := { s.srv with integ := if out then s.srv.integ else s.srv.integ + di, drop := if out then di else 0,
                                        accN := min 10 (s.srv.accN + 1), prev := some f.t, lastO := f.o, resid := resid, acc := (f.t :: s.srv.acc).take 8,
                                        recent := (f.t :: s.srv.recent).filter (fun q => decide (f.t - 10 * secU < q)), secOk := s.srv.secOk && !f.cold } }
  let s := s.wrS R.SRV_OFFSET_LAST f.o
  let s := s.set R.SRV_RESIDUAL_PS (resid.foldl max 0)
  s.lockTest f.t f.o

/-- One feed sample in its update (R168, R170, R173); a sample that a servo back in TRACK finds in SWITCH_HOLD acts as FIRST (DEDUCED, log entry 13). -/
def State.takeFeed (now : Int) (s : State) (f : FeedSample) : State :=
  let s := s.bump R.SRV_SAMPLES_COUNT
  let st := s.srvSt
  let first := f.first || (decide (st = 3) && decide (s.srv.selSeen = 6) && !s.hostFeed && !s.flag R.DUG_STATUS_FOLLOW)
  if first then (s.acquire now).acceptFeed f
  else if st = 1 ∨ st = 2 then s.acceptFeed f
  else s

/-- The learning conditions of R61 and R175 hold at this update. -/
def State.learns (s : State) : Bool :=
  decide (3 ≤ s.get R.BOOT_STAGE_STAGE) && s.timeCommitted && s.flag R.VOTE_OSC_STAT_OCXO_WARM && s.flag R.VOTE_OSC_STAT_CELL_LOCK &&
    decide (s.srvSt = 2) && decide (s.selSt = 6) && !s.hostFeed && decide (s.mode ≠ 3)

/-- One servo update: the selector's state takes effect at subframe 0, the samples at least 2 µs old are processed, and the word is sent (R118, R129, R163 to
R170, R180). -/
def State.servoUpdate (s : State) (k : Nat) (temp : Int) : State :=
  let now := s.voteTime (6250 * k)
  let s := s.setS R.HOLD_TEMP_T temp
  let host := s.hostFeed
  let s := s.holdModel now
  let s := if !host && !s.flag R.DUG_STATUS_FOLLOW && (decide (k = 0) || s.srv.hostSeen) then s.takeSel now else s
  let s := { s with srv := { s.srv with hostSeen := host, recent := s.srv.recent.filter (fun q => decide (now - 10 * secU < q)) } }.setFlag R.SRV_STATUS_HOST host
  let due := s.srv.feed.filter (fun f => decide (f.t + 2000 * nsU ≤ now))
  let s := { s with srv := { s.srv with feed := s.srv.feed.filter (fun f => decide (now < f.t + 2000 * nsU)) } }
  let s := due.foldl (State.takeFeed now) s
  let s := (s.set R.SRV_STATUS_BW_NOW s.bwNow).setFlag R.SRV_STATUS_BW_LIMITED (decide (s.bwNow < s.setCode))
  let s : State := s.sendWord (s.stateWord now)
  let s := if s.srvSt = 4 ∨ s.srvSt = 0 then s.wr R.HOLD_PRED_Y (s.rd R.SRV_FREQ_OUT) else s
  { s with srv := { s.srv with secSum := s.srv.secSum + s.getS R.SRV_FREQ_OUT_Y, secN := s.srv.secN + 1, secOk := s.srv.secOk && s.learns } }

/-! ## The host feed (R173, R174) -/

/-- SRV.FEED_CTRL in one core (R173, R174). -/
def State.putFeedCtrl (s : State) (v : Word) : State :=
  let was := s.hostFeed
  let s := (s.set R.SRV_FEED_CTRL_RATE (R.SRV_FEED_CTRL_RATE.of v)).set R.SRV_FEED_CTRL_HOST (R.SRV_FEED_CTRL_HOST.of v)
  if s.hostFeed = was then s
  else
    let s := { s with srv := { s.srv with feed := [], firstNext := !was, keepI := was } }
    (s.set R.SRV_STATUS_SLOT 15).raise P.SRV E.SRV_HOST_MODE

/-- HOST_FEED_MODE (R173, R174): SRV.FEED_CTRL is written; a change of HOST raises HOST_MODE, and the next sample of the feed is FIRST. -/
def execHostFeedMode (m : Master) (v : Word) (s : State) : Host.Outcome State Fault Refusal :=
  .next (s.hostWrite m R.SRV_FEED_CTRL fun s =>
    let was := s.hostFeed
    let s := s.perLive (fun t => t.putFeedCtrl v)
    if s.hostFeed = was then s
    else { s with sel := { s.sel with firstNext := was || s.sel.firstNext } }.trig 2 0x40 [s.srvSt, s.srvSt])

/-- HOST_OFFSET_SUBMIT (R173, R174): one host sample, stamped at the tick at which RH forwards it; it takes the place of one not yet processed. -/
def execHostOffsetSubmit (m : Master) (low : Word) (tick : Nat) (s : State) : Host.Outcome State Fault Refusal :=
  .next (s.hostWrite m (R.SRV_OFFSET_FEED + 1) fun s =>
    if !s.hostFeed then (s.clearStaged m).perLive (fun t => t.bump R.SRV_FEED_REJ_COUNT)
    else
      let o := s.commitS72 m R.SRV_OFFSET_FEED low
      let first := s.srv.firstNext || s.srv.feed.any (fun f => f.first)
      let f : FeedSample := { slot := 15, freq := false, first := first, cold := !s.flag R.VOTE_OSC_STAT_OCXO_WARM, t := s.rhTime tick, o := o }
      let put (t : State) : State :=
        let t := t.wrS R.SRV_OFFSET_FEED o
        let t := if t.srv.feed = [] then t else t.bump R.SRV_FEED_OVERRUN_COUNT
        { t with srv := { t.srv with firstNext := false } }
      ((s.clearStaged m).perLive put).sendFeed f)

/-! ## Learning (R175 to R179) -/

/-- HOLD.STATUS.LEARN, with LEARN_DONE and its record at the move to COMPLETE (R178, R179). -/
def State.showLearn (s : State) : State :=
  let n := s.get R.HOLD_LEARNED_S
  let l := if 86400 ≤ n then 2 else if n = 0 ∧ !s.flag R.HOLD_STATUS_RESTORED then 0 else 1
  if s.learn = l then s
  else
    let s := s.set R.HOLD_STATUS_LEARN l
    if l = 2 then (s.holdEvt E.HOLD_LEARN_DONE).writeHold else s

/-- Y0 and the mean temperature over the window (R176). -/
def State.learnY0 (s : State) : State :=
  let w := s.getOr R.HOLD_WINDOW_S 100 86400 3600
  let e := min 600 (s.get R.HOLD_EXCLUDE_S)
  let l := (s.hold.secs.drop e).take w
  if l = [] then s
  else
    let z := quot (l.foldl (fun a p => a + p.z) 0) l.length
    let th := quot (l.foldl (fun a p => a + p.th) 0) l.length
    { s with hold := { s.hold with thetaBar := th } }.setS R.HOLD_Y0_Y (clampInt (-34359738368) 34359738367 z)

/-- A counted second: one learning sample, the hour in progress, and Y0 (R175 to R177). -/
def State.countSecond (s : State) : State :=
  let z := quot (s.srv.secSum - s.getS R.VOTE_CELL_Y_Y * s.srv.secN) s.srv.secN
  let p : ZPoint := { z := z, th := s.holdTemp }
  let h := s.hold
  let n := h.hourN + 1
  let hz := h.hourZ + z
  let ht := h.hourTh + p.th
  let h := { h with secs := (p :: h.secs).take 87000 }
  let h :=
    if n = 3600 then
      let q : HourPt := { z := quot hz 3600, th := quot ht 3600, at_ := some (s.ax.mark / secU) }
      { h with hours := (q :: h.hours).take 168, hourN := 0, hourZ := 0, hourTh := 0, fitDue := true }
    else { h with hourN := n, hourZ := hz, hourTh := ht }
  (({ s with hold := h }.bump R.HOLD_LEARNED_S).learnY0).showLearn

/-- What the estimator does at a second mark: the second is counted when its conditions held throughout, and the envelope, the elapsed time and the temperature
integral move on (R175, R182). -/
def State.holdSecond (s : State) : State :=
  let s := if s.srv.secOk ∧ 0 < s.srv.secN then s.countSecond else s
  let s := { s with srv := { s.srv with secSum := 0, secN := 0, secOk := true } }
  let s := if s.learn = 2 ∧ s.srvSt ≠ 4 then { s with hold := { s.hold with recSecs := s.hold.recSecs + 1 } } else s
  let s := if s.srvSt = 4 then s.set R.HOLD_ELAPSED_S (sat36 ((s.ax.mark - s.hold.enterT) / secU).toNat) else s
  if (s.srvSt = 3 ∨ s.srvSt = 4) ∧ !s.hold.stepped then
    let dt := (s.holdTemp - s.getS R.HOLD_TEMP0_T).natAbs
    let s := { s with hold := { s.hold with integral := s.hold.integral + dt } }
    s.set R.HOLD_ENVELOPE_PS (s.envelope s.ax.mark)
  else if s.get R.HOLD_ENVELOPE_PS = 0 then s
  else s.set R.HOLD_ENVELOPE_PS 0

/-- A COMMIT applies its step (R182, R185): the envelope is 0 until the next entry, and a holdover ends with EXIT. -/
def State.holdCommit (s : State) : State :=
  let s := if s.srvSt = 4 then s.holdEvt E.HOLD_EXIT else s
  { s with hold := { s.hold with stepped := true, clock := none } }.set R.HOLD_ENVELOPE_PS 0

/-- The whole number nearest below or above a square root of `num / den`. -/
def sqrtQuot (num : Int) (den : Nat) : Nat :=
  let r := isqrt (num.toNat / max 1 den)
  if r * r * den = num.toNat then r else if Config.roundUp num den then sat36 (r + 1) else r

/-- The seconds of the hourly means before the newest one; a restored mean lies one hour before the next newer one (DEDUCED, log entry 13). -/
def hourTimes (l : List HourPt) (prev : Option Int) : List Int :=
  match l with
  | [] => []
  | h :: t =>
    let a := match h.at_, prev with
      | some x, _ => x
      | none, some p => p - 3600
      | none, none => 0
    a :: hourTimes t (some a)

/-- Sums of products over two lists. -/
def dot (a b : List Int) : Int := (a.zip b).foldl (fun z p => z + p.1 * p.2) 0
def sumInt (a : List Int) : Int := a.foldl (· + ·) 0

/-- The fit of R177 with three parameters, or with TC held when the temperatures span less than 0.1 K. -/
def State.fitHours (s : State) : State :=
  let l := s.hold.hours
  let n : Int := l.length
  let at0 := (hourTimes l none).headD 0
  let t := (hourTimes l none).map (fun a => a - at0)
  let th := l.map (fun h => h.th)
  let z := l.map (fun h => h.z)
  let w := th.map (fun x => n * x - sumInt th)
  let st := sumInt t
  let stt := dot t t
  let hi := th.foldl max (th.headD 0)
  let lo := th.foldl min (th.headD 0)
  let put (s : State) (f : Fld) (v : Int) : State := s.setS f (clampInt (-34359738368) 34359738367 v)
  if 1024 ≤ 10 * (hi - lo) then
    let stw := dot t w
    let sww := dot w w
    let sz := sumInt z
    let stz := dot t z
    let swz := dot w z
    let d := n * (stt * sww - stw * stw) - st * st * sww
    if d ≤ 0 then s
    else
      let d0 := sz * (stt * sww - stw * stw) - st * (stz * sww - stw * swz)
      let d1 := n * (stz * sww - stw * swz) - sz * st * sww
      let d2 := n * (stt * swz - stz * stw) - st * st * swz + sz * st * stw
      let rss := dot z z * d - (d0 * sz + d1 * stz + d2 * swz)
      let den := (d * d * (n - 3)).toNat
      let s := (put s R.HOLD_AGE_Y (quot (86400 * d1) d.toNat))
      let s := put s R.HOLD_TC_Y (quot (1024 * n * d2) d.toNat)
      { s with hold := { s.hold with tcFitted := true, sY0 := sqrtQuot (rss * (stt * sww - stw * stw)) den,
                                     sAge := sqrtQuot (rss * n * sww * 86400 * 86400) den,
                                     sTc := sqrtQuot (rss * (n * stt - st * st) * (1024 * n) * (1024 * n)) den } }
  else
    let tc := s.getS R.HOLD_TC_Y
    let zz := (z.zip w).map (fun p => 1024 * n * p.1 - tc * p.2)
    let sz := sumInt zz
    let stz := dot t zz
    let d := n * stt - st * st
    if d ≤ 0 then s
    else
      let d0 := sz * stt - st * stz
      let d1 := n * stz - st * sz
      let rss := dot zz zz * d - (d0 * sz + d1 * stz)
      let den := (d * d * (n - 2) * (1024 * n) * (1024 * n)).toNat
      let s := put s R.HOLD_AGE_Y (quot (86400 * d1) (d * 1024 * n).toNat)
      { s with hold := { s.hold with sY0 := sqrtQuot (rss * stt) den, sAge := sqrtQuot (rss * n * 86400 * 86400) den } }

/-- HOLD_FIT (R177): a new hourly mean; the fit runs once at least 24 exist. -/
def execHoldFit (s : State) : Host.Outcome State Fault Refusal :=
  .next (
    if s.hold.fitDue then
      s.perCore (fun t =>
        let t := { t with hold := { t.hold with fitDue := false } }
        if 24 ≤ t.hold.hours.length then (t.fitHours).holdRec 5 else t)
    else s)

/-- HOLD_RECORD_PERIOD (R179): REC_PERIOD seconds have passed with LEARN COMPLETE and the servo not in HOLDOVER. -/
def execHoldRecordPeriod (s : State) : Host.Outcome State Fault Refusal :=
  .next (
    if s.learn = 2 ∧ s.srvSt ≠ 4 ∧ s.getOr R.HOLD_REC_PERIOD_S 600 86400 3600 ≤ s.hold.recSecs then s.perCore State.writeHold else s)

/-- The newest committed HOLD record at start (R109, R179). -/
def State.holdRestore (s : State) : State :=
  match s.newest .holdover [0x30] with
  | none => s.set R.VOTE_OSC_EFC_CODE 0x800000
  | some r =>
    let w (i : Nat) : Nat := (r.payload.getD i 0).toNat
    let th := toSigned 18 (w 3)
    let zs := (r.payload.drop 7).take (w 6)
    let s := ((s.set R.HOLD_Y0_Y (w 0)).set R.HOLD_AGE_Y (w 1)).set R.HOLD_TC_Y (w 2)
    let s := s.setEfc (w 4 % 2 ^ 24 : Nat)
    let s := { s with hold := { s.hold with thetaBar := th, hours := zs.reverse.map (fun (z : Word) => HourPt.mk (toSigned 36 z.toNat) th none) } }
    ((s.set R.HOLD_STATUS_RESTORED 1).showLearn).holdEvt E.HOLD_RESTORED

/-! ## Steps and loads of the scale -/

/-- A step of `d` S72 units: instants and waiting offsets follow the stepped scale (log entry 11). -/
def State.srvStep (s : State) (d : Int) : State :=
  let v := d * s72U
  { s with srv := { s.srv with feed := s.srv.feed.map (fun f => { f with t := f.t + v, o := f.o - d }), prev := s.srv.prev.map (· + v),
                               recent := s.srv.recent.map (· + v), acc := s.srv.acc.map (· + v), lockFrom := s.srv.lockFrom.map (· + v) },
           hold := { s.hold with clock := s.hold.clock.map (· + v), enterT := s.hold.enterT + v } }

/-- A load that moves the scale by `v` (2^-48 ns): samples on the old scale are gone. -/
def State.srvLoad (s : State) (v : Int) : State :=
  { s with srv := { s.srv with feed := [], prev := none, recent := [], acc := [], lockFrom := none },
           hold := { s.hold with clock := s.hold.clock.map (· + v), enterT := s.hold.enterT + v,
                                 hours := s.hold.hours.map (fun h => { h with at_ := h.at_.map (· + v / secU) }) } }

end Sys2Proof.Machine
end

