-- ==== Sys2Proof/Machine/Gnss.lean ====
section
/-! DEFINITION.
The GNSS receiver (R232 to R256).
-/
namespace Sys2Proof.Machine
open Sys2Proof

/-! ## Events, channels and the engine -/

/-- A GNSS record (R256, R466). -/
def State.gnsRec (s : State) (bit : Nat) : State := s.trig islGN 0x60 [bit, (s.rd R.GNS_STATUS).toNat]

/-- A GNS event with its record. -/
def State.gnsEvt (s : State) (bit : Nat) : State := (s.raise P.GNS bit).gnsRec bit

/-- GN is out of reset. -/
def State.inGn (s : State) (t : State) : State := if s.up islGN then t else s

/-- The engine runs its code (R239, R240). -/
def State.engineRuns (s : State) : Bool := s.up islGN && decide (s.get R.GNS_STATUS_ENGINE = 2)

/-- The engine's state, each change recorded (R256). -/
def State.setEngine (s : State) (st : Nat) : State :=
  if s.get R.GNS_STATUS_ENGINE = st then s else (s.set R.GNS_STATUS_ENGINE st).gnsRec E.GNS_ENGINE

/-- The constellation of a signal (R232). -/
def sigSys (sig : Nat) : Nat := if sig < 8 then sig / 2 else 4

/-- GNS.TRACK: satellites tracked, by constellation (R255). -/
def State.showTrack (s : State) : State :=
  let n (c : Nat) : Nat :=
    ((s.gns.chans.filter (fun p => decide (p.2.st = .track) && decide (sigSys p.2.sig = c))).map (fun p => p.2.sat)).dedup.length
  s.set R.GNS_TRACK_SATS (min 63 (n 0) + 64 * min 63 (n 1) + 4096 * min 63 (n 2) + 262144 * min 63 (n 3) + 16777216 * min 63 (n 4))

/-- Every channel starts a search of one kind. -/
def State.searchAll (s : State) (k : ChanState) : State :=
  { s with gns := { s.gns with search := k, chans := s.gns.chans.map (fun (p : Nat × GnsChan) => (p.1, { p.2 with st := k })) } }.showTrack

/-- The position is HOLD or FIXED. -/
def State.posHeld (s : State) : Bool := decide (3 ≤ s.get R.GNS_STATUS_POS)

/-- Data received at `t` is younger than a limit in seconds. -/
def State.younger (s : State) (t : Option Int) (secs : Int) : Bool :=
  match t with
  | some u => decide (s.ax.ocxo - u < secs * secU)
  | none => false

/-- The search that what is known allows (R233): hot with an ephemeris less than 2 h old, warm with an almanac less than 30 days old, both with the scale loaded and the
position held or fixed, else cold. -/
def State.searchKind (s : State) : ChanState :=
  if s.flag R.VOTE_STATUS_TS_SET && s.posHeld && s.younger s.gns.almAt 2592000 then (if s.younger s.gns.ephAt 7200 then .hot else .warm) else .cold

/-- The engine runs its code and searches; without code it is NO_CODE (R239). -/
def State.engineRun (s : State) (k : ChanState) : State := if s.gns.code = [] then s.setEngine 0 else (s.setEngine 2).searchAll k

/-- The engine starts or restarts on its code (R233, R239, R240). -/
def State.engineStart (s : State) : State := s.engineRun s.searchKind

/-- The page is enabled again: a hot or a warm search; an engine in FAULT stays there (R240, R254). -/
def State.engineEnable (s : State) : State :=
  if s.get R.GNS_STATUS_ENGINE = 4 then s else s.engineRun (if s.searchKind = .hot then .hot else .warm)

/-- The engine returns from a shunt: an open code session ends, and a hot search starts where the page is enabled (R240, R241). -/
def State.engineReturn (s : State) : State :=
  let s := { s with gns := { s.gns with session := none } }
  if s.flag (R.PG_CTRL_EN P.GNS) then s.engineRun .hot else s.setEngine (if s.gns.code = [] then 0 else 5)

/-- What a search covers (R233): the Doppler span in Hz around zero or the prediction, and the chips around the prediction, none for the whole code period. -/
def searchSpan (k : ChanState) : Nat × Option Nat :=
  match k with
  | .hot => (200, some 10)
  | .warm => (600, none)
  | _ => (5000, none)

/-- The code period of a signal in ms (R232), and the length in ms of a dwell of `sums` sums of it (R233). -/
def codeMs (sig : Nat) : Nat := if sig = 2 then 4 else if sig = 4 then 10 else 1
def dwellMs (sig sums : Nat) : Nat := min 80 (sums * codeMs sig)

/-- CHANNEL_ACQUIRED (R233): a dwell of `sums` non-coherent sums has found an enabled signal `dop` Hz and `chips` chips from where the search is centred, and the
channel tracks it. -/
def execChannelAcquired (ch sig sat : Nat) (dop : Int) (chips sums : Nat) (s : State) : Host.Outcome State Fault Refusal :=
  withUnit ch 192 (
    let c := searchSpan ((kvGet s.gns.chans ch).map (·.st) |>.getD s.gns.search)
    if s.engineRuns && decide (sig < 9) && bitOn (s.get R.GNS_CFG_SIG_EN) sig && decide (dop.natAbs ≤ c.1 ∧ chips ≤ c.2.getD chips ∧ 1 ≤ sums ∧ sums ≤ 20) then
      { s with gns := { s.gns with chans := kvPut s.gns.chans ch { st := .track, sig := sig, sat := sat } } }.showTrack
    else s)

/-- CHANNEL_LOCK_DROP (R235): the C/N0 has been `cn0` dB-Hz at most for 1 s; below 24 a hot search follows. -/
def execChannelLockDrop (ch cn0 : Nat) (s : State) : Host.Outcome State Fault Refusal :=
  withUnit ch 192 (s.inGn (
    match kvGet s.gns.chans ch with
    | some c => if c.st = .track ∧ cn0 < 24 then { s with gns := { s.gns with chans := kvPut s.gns.chans ch { c with st := .hot } } }.showTrack else s
    | none => s))

/-- CHANNEL_SEARCH_WARM (R235): the hot search has run for 10 s. -/
def execChannelSearchWarm (ch : Nat) (s : State) : Host.Outcome State Fault Refusal :=
  withUnit ch 192 (s.inGn (
    match kvGet s.gns.chans ch with
    | some c => if c.st = .hot then { s with gns := { s.gns with chans := kvPut s.gns.chans ch { c with st := .warm } } } else s
    | none => s))

/-- ENGINE (R240): FAULT, line 10 and the event; up to three times in an hour the engine restarts from its code. -/
def execEngine (s : State) : Host.Outcome State Fault Refusal :=
  .next (
    if s.engineRuns then
      let now := s.ax.ocxo
      let f := now :: s.gns.faults.filter (fun t => decide (now < t + 3600 * secU))
      let s := { s with gns := { s.gns with faults := f, ready := none, sol := [] } }
      let s := (((s.setEngine 4).raise P.GNS E.GNS_ENGINE).pulse 10)
      if f.length ≤ 3 then s.engineStart else s
    else s)

/-! ## Epochs (R236 to R238, R244, R245) -/

/-- One second in S72 units. -/
abbrev s72Sec : Int := 65536000000000

/-- Some signal of the constellation on the band is enabled (R232). -/
def State.bandOn (s : State) (sys band : Nat) : Bool :=
  let en := s.get R.GNS_CFG_SIG_EN
  if sys < 4 then bitOn en (2 * sys + band) else decide (band = 0) && bitOn en 8

/-- The constellation may be used: a signal of it is enabled, and it gives satellites. -/
def State.consOn (s : State) (c : ConsMeas) : Bool := decide (c.sys < 5 ∧ 0 < c.sats) && (s.bandOn c.sys 0 || s.bandOn c.sys 1)

/-- The constellation's clock offset as TAI minus the stamp (R237). -/
def State.taiOff (s : State) (c : ConsMeas) : Int :=
  c.off + (if c.sys = 2 then 33 else if c.sys = 4 then (s.get R.VOTE_UTC_OFFSET : Int) else 19) * s72Sec

/-- The constellation is excluded (R249). -/
def State.excluded (s : State) (sys : Nat) : Bool := bitOn (s.get R.GNS_STATUS_EXCL) sys

/-- TIME_REF as it acts (R237). -/
def State.timeRef (s : State) : Nat := if s.get R.GNS_CFG_TIME_REF = 3 then 0 else s.get R.GNS_CFG_TIME_REF

/-- The time constellation (R244): TIME_REF, or the first of GPS, Galileo and BeiDou that is not excluded. -/
def State.timeCons (s : State) : Option Nat :=
  if s.excluded s.timeRef then [0, 1, 2].find? (fun c => !s.excluded c) else some s.timeRef

/-- POS_MODE as it acts. -/
def State.posMode (s : State) : Nat := if s.get R.GNS_CFG_POS_MODE = 3 then 0 else s.get R.GNS_CFG_POS_MODE

/-- The solution has enough satellites for a position or a time while the position is not held (R238). -/
def enoughSats (l : List ConsMeas) : Bool := decide (3 + l.length ≤ (l.map (fun c => c.sats)).sum)

/-- The epoch has a time solution (R238): a satellite of the time constellation in `time`, and the satellites of the solution `all`. -/
def State.timeOk (s : State) (all time : List ConsMeas) : Bool :=
  match s.timeCons with
  | none => false
  | some c => time.any (fun m => decide (m.sys = c)) && (s.posHeld || enoughSats all)

/-- Sum and number of the learned differences between two constellations (R248). -/
def pairMean (h : List GnsLearn) (a b : Nat) : Int × Nat :=
  h.foldl (fun acc e => match kvGet e.offs a, kvGet e.offs b with
    | some x, some y => (acc.1 + (x - y), acc.2 + 1)
    | _, _ => acc) (0, 0)

/-- A difference departs from its learned mean by more than `tol` ps. -/
def departsFrom (d : Int) (m : Int × Nat) (tol : Nat) : Bool := decide (0 < m.2 ∧ tol * 65536 * m.2 < (d * m.2 - m.1).natAbs * 1000)

/-- Two constellations depart from their learned difference (R248). -/
def State.consDepart (s : State) (a b : ConsMeas) : Bool :=
  departsFrom (s.taiOff a - s.taiOff b) (pairMean s.gns.hist a.sys b.sys) (s.get R.GNS_CONS_TOL_PS)

/-- The outlier of R249. -/
def State.outlier (s : State) (l : List ConsMeas) : Option Nat :=
  if l.length < 3 then none
  else
    let o := l.find? (fun x =>
      let r := l.filter (fun y => decide (y.sys ≠ x.sys))
      r.all (fun y => s.consDepart x y) && r.all (fun y => r.all (fun z => decide (y.sys = z.sys) || !s.consDepart y z)))
    o.map (fun x => x.sys)

/-- Seconds that a check must hold, and seconds to clear (R255). -/
def State.gnsPersist (s : State) : Nat := clampNat 1 10 (s.get R.GNS_CHECK_CTRL_PERSIST)
def State.suspectHold (s : State) : Nat := s.getOr R.GNS_CHECK_CTRL_SUSPECT_HOLD 1 3600 300

/-- An exclusion or a readmission (R249). -/
def State.setExcl (s : State) (sys : Nat) (on : Bool) : State :=
  let s := s.set R.GNS_STATUS_EXCL (setBit (s.get R.GNS_STATUS_EXCL) sys on)
  if on then s.gnsEvt E.GNS_CONS_EXCL else s.gnsRec E.GNS_CONS_EXCL

/-- An excluded constellation counts its agreeing seconds and is readmitted after SUSPECT_HOLD of them (R249). -/
def State.readmit (s : State) (all part : List ConsMeas) (sys : Nat) : State :=
  if !s.excluded sys then s
  else
    let ok := match all.find? (fun c => decide (c.sys = sys)) with
      | some c => decide (part ≠ []) && part.all (fun p => !s.consDepart c p && decide (0 < (pairMean s.gns.hist c.sys p.sys).2))
      | none => false
    let n := if ok then kvGetD s.gns.agree sys 0 + 1 else 0
    if s.suspectHold ≤ n then ({ s with gns := { s.gns with agree := kvDel s.gns.agree sys } }).setExcl sys false
    else { s with gns := { s.gns with agree := kvPut s.gns.agree sys n } }

/-- The result of CONS (0 not run, 1 pass, 2 holding; a difference with no learned mean yet departs from none) with exclusions applied, and the constellations that take part after them. -/
def State.checkCons (s : State) (all part : List ConsMeas) : State × Nat × List ConsMeas :=
  let s := (List.range 5).foldl (fun t c => t.readmit all part c) s
  let known := decide (2 ≤ part.length)
  let bad := part.any (fun a => part.any (fun b => decide (a.sys < b.sys) && s.consDepart a b))
  if !known then ({ s with gns := { s.gns with outRun := none } }, 0, part)
  else if !bad then ({ s with gns := { s.gns with outRun := none } }, 1, part)
  else
    match s.outlier part with
    | none => ({ s with gns := { s.gns with outRun := none } }, 2, part)
    | some x =>
      let n := match s.gns.outRun with
        | some (y, k) => if y = x then k + 1 else 1
        | none => 1
      if s.gnsPersist ≤ n then (({ s with gns := { s.gns with outRun := none } }).setExcl x true, 1, part.filter (fun c => decide (c.sys ≠ x)))
      else ({ s with gns := { s.gns with outRun := some (x, n) } }, 2, part)

/-- The constellation gives an offset on each band. -/
def State.bothBands (s : State) (c : ConsMeas) : Bool := decide (2 ≤ c.sats1 ∧ 2 ≤ c.sats5) && s.bandOn c.sys 0 && s.bandOn c.sys 1

/-- Sum and number of the learned band differences of a constellation. -/
def bandMean (h : List GnsLearn) (c : Nat) : Int × Nat :=
  h.foldl (fun acc e => match kvGet e.bands c with
    | some x => (acc.1 + x, acc.2 + 1)
    | none => acc) (0, 0)

/-- The result of BAND (R248). -/
def State.checkBand (s : State) (l : List ConsMeas) : Nat :=
  let b := l.filter (fun c => s.bothBands c)
  if b = [] then 0
  else if b.any (fun c => departsFrom (c.off1 - c.off5) (bandMean s.gns.hist c.sys) (s.get R.GNS_BAND_TOL_PS)) then 2 else 1

/-- The epoch's TAI time at the stamp: stamp plus the time constellation's offset, corrected by its learned mean to TIME_REF when that is excluded, and
toward UTC(k) of TIME_REF, by its last broadcast correction, where UTCK is 1 (R237, R244). -/
def State.epochR (s : State) (l : List ConsMeas) : Option Int :=
  match s.timeCons with
  | none => none
  | some c =>
    match l.find? (fun m => decide (m.sys = c)) with
    | none => none
    | some m =>
      let corr := if c = s.timeRef then 0
        else
          let p := pairMean s.gns.hist c s.timeRef
          if p.2 = 0 then 0 else -(quot p.1 p.2)
      some (s.taiOff m + corr + (if s.flag R.GNS_CFG_UTCK then kvGetD s.gns.utck s.timeRef 0 else 0))

/-- The inputs of CLOCK exist beside the epoch's time (R248). -/
def State.clockRuns (s : State) : Bool := decide (s.learn = 2) && s.flag R.VOTE_OSC_STAT_DISC

/-- The result of CLOCK (R248): F is first anchored to the measured time when the check first runs, which then passes (DESIGN CHOICE, log entry 14). -/
def State.checkClockF (s : State) (tai : Option Int) : Nat :=
  match tai, s.gns.fly with
  | none, _ => 0
  | some t, some f => if !s.clockRuns then 0 else if (s.get R.GNS_CLOCK_TOL_PS : Int) * nsU < (t - f).natAbs * 1000 then 2 else 1
  | some _, none => if s.clockRuns then 1 else 0

/-- The position in use, mm. -/
def State.posInUse (s : State) : Int × Int × Int := (s.getS (R.GNS_POS_MM 0), s.getS (R.GNS_POS_MM 1), s.getS (R.GNS_POS_MM 2))

/-- The result of POS (R248). -/
def State.checkPos (s : State) (pos : Option (Int × Int × Int)) : Nat :=
  match pos with
  | some (x, y, z) =>
    if s.posHeld then
      let p := s.posInUse
      let d := (x - p.1) * (x - p.1) + (y - p.2.1) * (y - p.2.1) + (z - p.2.2) * (z - p.2.2)
      let m : Int := 1000 * s.get1 R.GNS_POS_TOL_M
      if m * m < d then 2 else 1
    else 0
  | none => 0

/-! ## Position (R242, R243) -/

/-- GNS.POS_X, POS_Y, POS_Z. -/
def State.putPos (s : State) (p : Int × Int × Int) : State :=
  ((s.setS (R.GNS_POS_MM 0) p.1).setS (R.GNS_POS_MM 1) p.2.1).setS (R.GNS_POS_MM 2) p.2.2

/-- The survey's length (R255). -/
def State.surveyTime (s : State) : Nat := max 60 (s.get R.GNS_SURVEY_TIME_S)

/-- The survey and its averages start over from NO_FIX. -/
def State.surveyClear (s : State) : State :=
  (({ s with gns := { s.gns with surveyN := 0, surveyX := 0, surveyY := 0, surveyZ := 0 } }).set R.GNS_STATUS_POS 0).set R.GNS_SURVEY_LEFT_S 0

/-- POS_MODE and POS_FIXED take force at an epoch (R242). -/
def State.posSync (s : State) : State :=
  let m := s.posMode
  let st := s.get R.GNS_STATUS_POS
  if m = 1 then
    (s.set R.GNS_STATUS_POS 4).putPos (s.getS (R.GNS_POS_FIXED_MM 0), s.getS (R.GNS_POS_FIXED_MM 1), s.getS (R.GNS_POS_FIXED_MM 2))
  else if (m = 0 ∧ (st = 1 ∨ st = 4)) ∨ (m = 2 ∧ 2 ≤ st) then s.surveyClear
  else s

/-- The epoch's position solution (R242): the running solution in NAV and SURVEY, averaged in SURVEY. -/
def State.posTake (s : State) (pos : Option (Int × Int × Int)) (sigma sats : Nat) : State :=
  let s := s.set R.GNS_POS_QUAL_SATS (min 255 sats)
  let st := s.get R.GNS_STATUS_POS
  let s := if st = 3 then s else s.set R.GNS_POS_QUAL_SIGMA (min 65535 sigma)
  match pos with
  | none => s
  | some p =>
    if s.posMode = 2 then (s.set R.GNS_STATUS_POS 1).putPos p
    else if s.posMode = 0 ∧ st ≠ 3 then
      let n := s.gns.surveyN + 1
      let s := { s with gns := { s.gns with surveyN := n, surveyX := s.gns.surveyX + p.1, surveyY := s.gns.surveyY + p.2.1, surveyZ := s.gns.surveyZ + p.2.2 } }
      ((s.set R.GNS_STATUS_POS 2).putPos p).set R.GNS_SURVEY_LEFT_S (s.surveyTime - n)
    else s

/-- SURVEY_DONE (R242): TIME_S and SIGMA are met; HOLD begins on the surveyed mean. -/
def execSurveyDone (sigma : Nat) (s : State) : Host.Outcome State Fault Refusal :=
  .next (
    let g := s.gns
    if s.engineRuns && decide (s.get R.GNS_STATUS_POS = 2 ∧ s.surveyTime ≤ g.surveyN ∧ 0 < g.surveyN ∧ sigma ≤ s.get1 R.GNS_SURVEY_SIGMA) then
      let s := s.putPos (quot g.surveyX g.surveyN, quot g.surveyY g.surveyN, quot g.surveyZ g.surveyN)
      (((s.set R.GNS_STATUS_POS 3).set R.GNS_POS_QUAL_SIGMA (min 65535 sigma)).set R.GNS_SURVEY_LEFT_S 0).gnsEvt E.GNS_SURVEY_DONE
    else s)

/-! ## SUSPECT (R250, R251) -/

/-- The slot bound to GNSS. -/
def State.gnsSlot (s : State) : Option Nat := (List.range 12).find? (fun k => s.candOn k && decide (s.candSrc k = 2))

/-- The engine marks the slot SUSPECT (R250). -/
def State.setSuspect (s : State) : State :=
  let s := ((s.set R.GNS_STATUS_SUSPECT 1).level P.GNS E.GNS_SUSPECT true).bump R.GNS_SUSPECTS_COUNT
  let s := (s.set R.GNS_SUSPECT_LEFT_S s.suspectHold).gnsEvt E.GNS_SPOOF
  match s.gnsSlot with
  | some k => s.setCand k 6 0
  | none => s

/-- SUSPECT clears (R251): the slot qualifies, and F is re-anchored at the first passing second. -/
def State.clearSuspected (s : State) : State :=
  let s := { s with gns := { s.gns with clearAsked := false, refly := true, runs := [0, 0, 0, 0] } }
  let s := (((s.set R.GNS_STATUS_SUSPECT 0).level P.GNS E.GNS_SUSPECT false).set R.GNS_SUSPECT_LEFT_S 0).gnsEvt E.GNS_SUSPECT_CLEAR
  match s.gnsSlot with
  | some k => if s.candSt k = 6 then s.setCand k 3 0 else s
  | none => s

/-- What SUSPECT does at an epoch, given the results of the enabled checks. -/
def State.suspectEpoch (s : State) (res : List Nat) : State :=
  if s.flag R.GNS_STATUS_SUSPECT then
    if s.gns.clearAsked then s.clearSuspected
    else
      let pass := res.any (fun r => decide (r ≠ 0)) && res.all (fun r => decide (r ≠ 2))
      let n := if pass then s.get R.GNS_SUSPECT_LEFT_S - 1 else s.suspectHold
      if n = 0 then s.clearSuspected else s.set R.GNS_SUSPECT_LEFT_S n
  else
    let s := { s with gns := { s.gns with clearAsked := false } }
    if s.gns.runs.any (fun r => decide (s.gnsPersist ≤ r)) then s.setSuspect else s

/-! ## The flywheel (R248) -/

/-- F is advanced to the epoch at the frequency of R180; it is kept while CLOCK can run. -/
def State.flyAdvance (s : State) (stamp : Int) : State :=
  let u := s.ocxoAt stamp
  let du := u - s.gns.flyU
  let y := s.predict (if s.srvSt = 4 then stamp - s.hold.enterT else 0)
  let f := if s.clockRuns then s.gns.fly.map (fun f => f + du + quot (du * y) (2 ^ 80)) else none
  { s with gns := { s.gns with fly := f, flyU := u } }

/-- F is re-anchored to the measured time after CLOCK_WIN seconds in a row in which every check passed, at the first passing second after SUSPECT, or when it begins
(R248, R251). -/
def State.flyAnchor (s : State) (tai : Option Int) (full passing : Bool) : State :=
  let n := if full then s.gns.passRun + 1 else 0
  let due := (full && decide (s.getOr R.GNS_CLOCK_WIN_S 10 3600 600 ≤ n)) || (passing && s.gns.refly) || (s.clockRuns && s.gns.fly.isNone)
  match due, tai with
  | true, some t => { s with gns := { s.gns with fly := some t, passRun := 0, refly := false } }
  | _, _ => { s with gns := { s.gns with passRun := n } }

/-- The learned means take a full-pass second (R248, R250). -/
def State.learnGns (s : State) (l : List ConsMeas) : State :=
  let offs := l.foldl (fun m c => kvPut m c.sys (s.taiOff c)) []
  let bands := (l.filter (fun c => s.bothBands c)).foldl (fun m c => kvPut m c.sys (c.off1 - c.off5)) []
  { s with gns := { s.gns with hist := ({ offs := offs, bands := bands } :: s.gns.hist).take 3600 } }

/-- GNS.CABLE_DELAY as it acts, in S72 units (R244, R255). -/
def State.cableDelay (s : State) : Int := quot (clampInt (-10000000) 10000000 (s.getS R.GNS_CABLE_DELAY_PS) * 65536) 1000

/-- The epoch's sample for the slot bound to GNSS (R244, R245). -/
def State.makeSample (s : State) (stamp r : Int) : State :=
  match s.gnsSlot with
  | none => s
  | some k =>
    let raw := r + s.cableDelay
    let s :=
      if s.flag R.VOTE_STATUS_TS_SET ∨ (s.slotOf k).base.isSome then s
      else s.putSlot k { s.slotOf k with base := some (((stamp + r * s72U) / secU - stamp / secU) * secU) }
    let base := (s.slotOf k).base.getD 0
    { s with gns := { s.gns with ready := some { stamp := stamp, o := raw - base / s72U, steps := s.ax.stepTotal, loads := s.ax.loads } } }

/-- The median of a list: between the two middle values of an even number of them, rounded as log entry 5 says. -/
def medianOf (l : List Nat) : Nat :=
  let r := l.mergeSort
  let n := r.length
  if n % 2 = 1 then r.getD (n / 2) 0 else (quot (r.getD (n / 2 - 1) 0 + r.getD (n / 2) 0 : Nat) 2).toNat

/-- The antenna's noise at an epoch (R252): kept for 24 h of bias; the seconds above and below the threshold are counted against the baseline, its median, which is first
formed 10 min after the bias was applied. -/
def State.noiseTake (s : State) (n1 n5 : Nat) : State :=
  let g := s.gns
  if s.boot.antBias = 0 then { s with gns := { g with noise := [], biasSecs := 0, jamRun := 0, calmRun := 0 } }
  else
    let rise := s.get R.GNS_JAM_RISE
    let b1 := medianOf (g.noise.map (·.1)) + rise
    let b5 := medianOf (g.noise.map (·.2)) + rise
    let run := decide (600 ≤ g.biasSecs)
    { s with gns := { g with noise := ((n1, n5) :: g.noise).take 86400, biasSecs := g.biasSecs + 1, jamRun := if run ∧ (b1 < n1 ∨ b5 < n5) then g.jamRun + 1 else 0,
                             calmRun := if run ∧ n1 + 20 < b1 ∧ n5 + 20 < b5 then g.calmRun + 1 else 0 } }

/-- The almanac and the ephemeris received, and the broadcast corrections (R233, R237). -/
def State.navTake (s : State) (e : GnssEpoch) : State :=
  let g := s.gns
  { s with gns := { g with almAt := if e.almanac then some s.ax.ocxo else g.almAt, ephAt := if e.ephemeris then some s.ax.ocxo else g.ephAt,
                           utck := e.cons.foldl (fun m c => kvPut m c.sys c.utck) g.utck } }

/-- A constellation without the satellites whose residual exceeds three standard deviations (R235). -/
def fitCons (dev : Nat) (c : ConsMeas) : ConsMeas := { c with sats := c.sats - c.resid.countP (fun r => decide (3 * dev < r)) }

/-- The last AXMARK is a measurement epoch that has not been measured (R236): a second mark, or while TS_SET is 0 a whole number of thousands of marks from the start. -/
def State.epochDue (s : State) : Bool :=
  s.ax.started && (if s.flag R.VOTE_STATUS_TS_SET then s.ax.secMark else decide (s.ax.marks % 1000 = 0)) && decide (s.gns.epochAt ≠ some s.ax.marks)

/-- The stamp of the sample edge, referred to the land (R236). -/
def State.gnssStamp (s : State) (st : Stamp) : Int := s.stampOf 60 st - ofPs Config.gnssPath

/-- The time solution kept for the GNSS second pulse (R247). -/
def State.keepSol (s : State) (stamp : Int) (r : Option Int) : State :=
  match r with
  | some r => { s with gns := { s.gns with sol := (stamp, r + s.cableDelay) :: s.gns.sol.take 1 } }
  | none => { s with gns := { s.gns with sol := [] } }

/-- GNSS_EPOCH (R235 to R238, R242 to R252): the solution, the checks, SUSPECT, the flywheel and the sample. -/
def execGnssEpoch (e : GnssEpoch) (s : State) : Host.Outcome State Fault Refusal :=
  .next (
    if !s.engineRuns || !s.flag (R.PG_CTRL_EN P.GNS) || !s.epochDue then s
    else
      let stamp := s.gnssStamp e.st
      let s := { s with gns := { s.gns with epochAt := some s.ax.marks } }
      let s := ((s.noiseTake e.noise1 e.noise5).navTake e).posSync
      let l := (e.cons.map (fitCons e.dev)).filter (fun c => s.consOn c)
      let sats := (l.map (fun c => c.sats)).sum
      let usable (c : ConsMeas) : Bool := decide (c.sys ≠ 4) || s.flag R.VOTE_UTC_VALID
      let need := if s.posHeld then 2 else 4
      let all := l.filter (fun c => usable c && decide (need ≤ c.sats))
      let en := s.get R.GNS_CHECK_CTRL_EN
      let part := all.filter (fun c => !s.excluded c.sys)
      let (s, cons, _) := if bitOn en 0 then s.checkCons all part else (s, 0, part)
      let kept := l.filter (fun c => !s.excluded c.sys)
      let time := kept.filter (fun c => usable c)
      let r := if s.timeOk kept time then s.epochR time else none
      let tai := r.map (fun r => stamp + r * s72U)
      let band := if bitOn en 1 then s.checkBand time else 0
      let s := s.flyAdvance stamp
      let clock := if bitOn en 2 then s.checkClockF tai else 0
      let pos := if enoughSats kept then e.pos else none
      let posr := if bitOn en 3 then s.checkPos pos else 0
      let res := [cons, band, clock, posr]
      let runs : List Nat := (s.gns.runs.zip res).map (fun p => if p.2 = 2 then p.1 + 1 else 0)
      let s := { s with gns := { s.gns with runs := runs } }
      let was := s.flag R.GNS_STATUS_SUSPECT
      let s := s.suspectEpoch res
      let suspect := s.flag R.GNS_STATUS_SUSPECT
      let by3 := suspect && !was
      let code (i : Nat) : Nat := if by3 && decide (s.gnsPersist ≤ runs.getD i 0) then 3 else res.getD i 0
      let s := s.set R.GNS_CHECKS_RESULT (code 0 + 4 * code 1 + 16 * code 2 + 64 * code 3)
      let held := res.any (fun x => decide (x = 2)) || suspect
      let s := if held then s.bump R.GNS_WITHHELD_COUNT else s
      let passing := !held && tai.isSome
      let full := passing && (List.range 4).all (fun i => !bitOn en i || decide (res.getD i 0 = 1))
      let s := s.flyAnchor tai full passing
      let s := if full then s.learnGns time else s
      let s := (s.setFlag R.GNS_STATUS_TIME_OK r.isSome).posTake pos e.sigma sats
      let s := (s.set R.GNS_CN0_L1 (min 255 e.cn1)).set R.GNS_CN0_L5 (min 255 e.cn5)
      let s := { s with gns := { s.gns with ready := none } }.keepSol stamp r
      match held, r with
      | false, some r => s.makeSample stamp r
      | _, _ => s)

/-- GNSS_SAMPLE_DELIVERY (R236, R409): the epoch's sample reaches RH, unless GN is fenced; a step since the epoch moves it, a load discards it. -/
def execGnssSampleDelivery (s : State) : Host.Outcome State Fault Refusal :=
  .next (s.inRh (
    match if s.linkOpen 7 6 0 && !s.flag (R.PG_STAT_FENCED P.GNS) then s.gns.ready else none with
    | none => s
    | some q =>
      let s := { s with gns := { s.gns with ready := none } }
      if q.loads ≠ s.ax.loads then s
      else
        let d := s.ax.stepTotal - q.steps
        let s := s.bump R.GNS_SAMPLES_COUNT
        match s.gnsSlot with
        | none => s
        | some k =>
          let t := q.stamp + d * s72U
          let o := q.o - d
          s.candSample k t (t + o * s72U + (s.slotOf k).base.getD 0) o (!s.flag R.VOTE_OSC_STAT_OCXO_WARM) true))

/-! ## Jamming and the antenna supply (R252, R253) -/

/-- STATUS.JAM, its level event and its record (R252). -/
def State.setJam (s : State) (on : Bool) : State :=
  if s.flag R.GNS_STATUS_JAM = on then s else ((s.setFlag R.GNS_STATUS_JAM on).level P.GNS E.GNS_JAM on).gnsRec E.GNS_JAM

/-- JAM_SET (R252): the noise has been above the threshold for 2 s. -/
def execJamSet (s : State) : Host.Outcome State Fault Refusal := .next (s.inGn (if 2 ≤ s.gns.jamRun then s.setJam true else s))

/-- JAM_CLEAR (R252): both bands have been more than 2 dB below the threshold for 10 s. -/
def execJamClear (s : State) : Host.Outcome State Fault Refusal := .next (s.inGn (if 10 ≤ s.gns.calmRun then s.setJam false else s))

/-- BIAS as it acts (R253). -/
def State.antBias (s : State) : Nat := if s.get R.GNS_ANT_CTRL_BIAS = 3 then 0 else s.get R.GNS_ANT_CTRL_BIAS

/-- The state of the antenna supply from its current, the land's voltage and the limit or the low current lasting (R253). -/
def State.antState (s : State) (ma dv : Nat) (limit : Bool) : Nat :=
  let b := s.antBias
  if b = 0 then (if dv < 10 then 0 else 4)
  else if (if b = 1 then 36 else 53) < dv then 4
  else if limit && decide (ma < 5) then 2
  else if limit then 3
  else if 5 ≤ ma ∧ ma ≤ 130 then 1
  else s.get R.GNS_STATUS_ANT

/-- ANT (R253): GNS.ANT_MON and the state; event ANT on OPEN, SHORT and EXTDC; line 10 and foldback on SHORT. -/
def execAnt (ma dv : Nat) (limit : Bool) (s : State) : Host.Outcome State Fault Refusal :=
  .next (s.inGn (
    let s := (s.set R.GNS_ANT_MON_DV (min 255 dv)).set R.GNS_ANT_MON_MA (min 255 ma)
    let st := s.antState ma dv limit
    if s.get R.GNS_STATUS_ANT = st then s
    else
      let s := s.set R.GNS_STATUS_ANT st
      let s := { s with gns := { s.gns with foldback := decide (st = 3) } }
      let s := s.lineSet 10 2 (decide (st = 3))
      (s.raiseIf (decide (2 ≤ st)) P.GNS E.GNS_ANT).gnsRec E.GNS_ANT))

/-- ANT_BIAS_RETRY (R253): in SHORT the full bias is tried again. -/
def execAntBiasRetry (s : State) : Host.Outcome State Fault Refusal :=
  .next (s.inGn (if s.get R.GNS_STATUS_ANT = 3 then { s with gns := { s.gns with foldback := false } } else s))

/-! ## Commands (R241, R242, R251, R254, R255) -/

/-- COLD_START (R255): almanac, ephemeris and position are discarded; STATE while the engine is not in RUN. -/
def execColdStart (m : Master) (s : State) : Host.Outcome State Fault Refusal :=
  .next (s.hostCmd m R.GNS_CMD_STATUS fun s =>
    if s.engineRuns then
      let s := { s with gns := { s.gns with almAt := none, ephAt := none } }
      (s.surveyClear.searchAll .cold).set R.GNS_CMD_STATUS 2
    else s.set R.GNS_CMD_STATUS 3)

/-- CLEAR_SUSPECT (R251): takes effect at the next epoch. -/
def execClearSuspect (m : Master) (s : State) : Host.Outcome State Fault Refusal :=
  .next (s.hostCmd m R.GNS_CMD_STATUS fun s => { s with gns := { s.gns with clearAsked := true } }.set R.GNS_CMD_STATUS 2)

/-- RESURVEY (R242): the survey restarts from NO_FIX; STATE in another POS_MODE (DEDUCED, log entry 14). -/
def execResurvey (m : Master) (s : State) : Host.Outcome State Fault Refusal :=
  .next (s.hostCmd m R.GNS_CMD_STATUS fun s => if s.posMode = 0 then s.surveyClear.set R.GNS_CMD_STATUS 2 else s.set R.GNS_CMD_STATUS 3)

/-- CODE_OPEN (R241): on a shunted engine, and not from PF1. -/
def execCodeOpen (m : Master) (s : State) : Host.Outcome State Fault Refusal :=
  .next (s.hostCmd m R.GNS_CMD_STATUS fun s =>
    if m = .pf1 then s.set R.GNS_CMD_STATUS 4
    else if !s.flag (R.PG_STAT_SHUNTED P.GNS) then s.set R.GNS_CMD_STATUS 3
    else { s with gns := { s.gns with session := some [] } }.set R.GNS_CMD_STATUS 2)

/-- CODE_DATA_WRITE (R241): one word more in the open session. -/
def execCodeDataWrite (m : Master) (w : Word) (s : State) : Host.Outcome State Fault Refusal :=
  .next (s.hostWrite m R.GNS_CODE_DATA fun s =>
    { s with gns := { s.gns with session := s.gns.session.map (fun l => l ++ [w]) } })

/-- GNS.CODE_HASH: the digest in the top 384 of 396 bits (R239). -/
def State.putCodeHash (s : State) (d : Nat) : State :=
  (List.range 11).foldl (fun t i => t.set (R.GNS_CODE_HASH_D i) (d * 4096 / 2 ^ (36 * (10 - i)))) s

/-- Code is installed and measured (R239, R241). -/
def State.installCode (s : State) (w : List Word) : State := { s with gns := { s.gns with code := w } }.putCodeHash (Config.sha384 w)

/-- CODE_CLOSE (R241): no word or more than 524,288 of them is INVALID; without an open session STATE (DEDUCED, log entry 14). -/
def execCodeClose (m : Master) (s : State) : Host.Outcome State Fault Refusal :=
  .next (s.hostCmd m R.GNS_CMD_STATUS fun s =>
    if m = .pf1 then s.set R.GNS_CMD_STATUS 4
    else
      match s.gns.session with
      | none => s.set R.GNS_CMD_STATUS 3
      | some w =>
        let s := { s with gns := { s.gns with session := none } }
        if w = [] ∨ 524288 < w.length then s.set R.GNS_CMD_STATUS 5 else (s.installCode w).set R.GNS_CMD_STATUS 2)

/-- The receiver stops, disabled (`st` 5) or shunted (3): the epoch in progress is dropped, and the dwells under way finish within 80 ms (R254).  Disabling leaves an
engine that has no code, is shunted or in FAULT as it is (R240, R241). -/
def State.gnsStop (s : State) (st : Nat) : State :=
  let s := if s.gns.ready.isSome then s.bump R.GNS_DROPPED_COUNT else s
  let s := { s with gns := { s.gns with ready := none, busyMs := 80, sol := [] } }
  let was := s.get R.GNS_STATUS_ENGINE
  (s.set (R.PG_STAT_BUSY P.GNS) 1).setEngine (if st = 5 ∧ (was = 0 ∨ was = 3 ∨ was = 4) then was else st)

/-- The dwells under way at a mark; BUSY clears after the last (R254; the full 80 ms is the model's choice, log entry 14). -/
def State.gnsMark (s : State) : State :=
  if s.gns.busyMs = 0 then s
  else
    let s := { s with gns := { s.gns with busyMs := s.gns.busyMs - 1 } }
    if s.gns.busyMs = 0 then s.set (R.PG_STAT_BUSY P.GNS) 0 else s

/-- GN at a commit (R45, R232): the bias, and the channels of signals that are no longer enabled stop. -/
def State.commitGns (s : State) : State :=
  let en := s.get R.GNS_CFG_SIG_EN
  let g := { s.gns with chans := s.gns.chans.filter (fun (p : Nat × GnsChan) => bitOn en p.2.sig) }
  { s with boot := { s.boot with antBias := s.antBias }, gns := g }.showTrack

/-- GNSS_DISABLE (R254): GNS.PG_CTRL.EN is cleared. -/
def execGnssDisable (m : Master) (s : State) : Host.Outcome State Fault Refusal :=
  .next (s.hostWrite m (R.PG_CTRL P.GNS) fun s =>
    if s.flag (R.PG_CTRL_EN P.GNS) then (s.set (R.PG_CTRL_EN P.GNS) 0).gnsStop 5 else s)

end Sys2Proof.Machine
end

