-- ==== Sys2Proof/Machine/Teb.lean ====
section
/-! DEFINITION.
The time-error bound: its components, the published bound, TIME_VALID, the quality fields of PTP and NTP, and its records (R257 to R273).
-/
namespace Sys2Proof.Machine
open Sys2Proof

/-! ## Components (R257 to R262) -/

/-- The servo is in SWITCH_HOLD or HOLDOVER and no COMMIT has applied its step since it entered that state. -/
def State.holding (s : State) : Bool := decide (s.srvSt = 3 ∨ s.srvSt = 4) && !s.hold.stepped

/-- The selected slot is a frequency candidate; a follower has none (R435). -/
def State.freqSelected (s : State) : Bool := !s.flag R.DUG_STATUS_FOLLOW && decide (s.selected < 12) && s.candFreq s.selected

/-- The third row of R258 applies, whatever the rows before it say. -/
def State.candFrozen (s : State) : Bool := if s.flag R.DUG_STATUS_FOLLOW then s.holding else decide (s.selSt = 1) || s.holding || s.freqSelected

/-- The root mean square of the last 64 offsets of the holder, in ps (R435; log entry 33). -/
def thetaRms (l : List Int) : Nat :=
  sqrtQuot (l.foldl (fun z o => z + o * o) 0 * 1000000) (l.length * 65536 * 65536)

/-- TEB.CAND of a follower (R435): the holder's TEB field, the transfer accuracy, and the noise. -/
def State.tebFollow (s : State) : Nat :=
  let n := if s.get R.DUG_STATUS_HOLDER_AT = 2 then 1 else 0
  let x := if n = 0 then s.dug.p0 else s.dug.p1
  let noise := (quot ((s.get R.TEB_NOISE_K_K * thetaRms x.thetas : Nat) : Int) 4).toNat
  sat36 (s.get (R.DUG_PEER_TEB_PS n) + s.get R.DUG_XFER_ACC_PS + noise)

/-- TEB.CAND (R258). With no row of the table in force (a switch from FREERUN) the value stays (DEDUCED, log entry 15). -/
def State.tebCand (s : State) : Nat :=
  if s.flag R.DUG_STATUS_FOLLOW ∧ !s.hostFeed then (if s.holding then s.teb.candUpd else s.tebFollow)
  else if s.selSt = 0 ∧ !s.hostFeed then wordMax
  else if s.hostFeed then s.get R.SRV_HOST_ACC_PS
  else if s.candFrozen then s.teb.candUpd
  else
    let k := s.selected
    if k < 12 then
      let noise := (quot ((s.get R.TEB_NOISE_K_K * s.get (R.CAND_NOISE_PS k) : Nat) : Int) 4).toNat
      let bias := (quot ((s.rdS R.SEL_STEER_BIAS).natAbs * 1000 : Nat) 65536).toNat
      let peer := if s.candSrc k = 5 then s.get (R.DUG_PEER_TEB_PS (s.candUnit k % 2)) else 0
      sat36 (s.get (R.CAND_ACC_PS k) + noise + bias + peer)
    else s.teb.candUpd

/-- At a servo update: the value that R258's third row freezes. -/
def State.tebUpdate (s : State) : State :=
  if s.candFrozen then s else { s with teb := { s.teb with candUpd := s.tebCand } }

/-- TEB.SERVO (R259). -/
def State.tebServo (s : State) : Nat :=
  sat36 ((if decide (s.srvSt = 3 ∨ s.srvSt = 4) && decide (s.get R.HOLD_ENVELOPE_PS ≠ 0) then 0 else s.get R.SRV_RESIDUAL_PS) + s.teb.hostAdd)

/-- The row of R260 that applies. -/
def State.tebRow (s : State) : Nat := if s.holding then 1 else if s.freqSelected then 2 else 0

/-- The lead of the envelope: its growth over the next second at the present temperature, rounded up to a whole picosecond (R260). -/
def State.holdLead (s : State) (now : Int) : Nat :=
  let dt := (s.holdTemp - s.getS R.HOLD_TEMP0_T).natAbs
  let t := s.holdClock now
  (ceilDiv ((s.envNum (t + secU) (s.hold.integral + dt) - s.envNum t s.hold.integral) * 1000000000000) envDen).toNat

/-- TEB.HOLD as recomputed at an instant (R260). -/
def State.tebHoldNow (s : State) (now : Int) : Nat :=
  match s.tebRow with
  | 1 => sat36 (s.get R.HOLD_ENVELOPE_PS + s.holdLead now)
  | 2 =>
    let rate := (s.getS R.TEB_FREQ_RATE_Y).natAbs
    let secs := ((now - s.teb.efFrom) / secU).toNat
    sat36 (s.teb.ef + (quot ((rate * 1000000000000 * secs : Nat) : Int) nsU.toNat).toNat + (ceilDiv (rate * 1000000000000 : Nat) nsU.toNat).toNat)
  | _ => 0

/-- TEB.HOLD recomputed. -/
def State.tebHold (s : State) (now : Int) : State :=
  let v := s.tebHoldNow now
  let r := s.tebRow
  let s := { s with teb := { s.teb with row := r } }
  ((s.set R.TEB_HOLD_PS v).setFlag R.TEB_STATUS_HOLD_USED (decide (v ≠ 0))).setFlag R.TEB_STATUS_FREQ_ONLY (decide (r = 2))

/-- TEB.HOLD recomputed when another row of R260 applies than before. -/
def State.tebHoldRow (s : State) (now : Int) : State := if s.tebRow = s.teb.row then s else s.tebHold now

/-- The programmed severity of a line. -/
def State.progSev (s : State) (line : Nat) : Nat :=
  if line < 18 then (s.rd R.FLT_SEV_LO).toNat / 2 ^ (2 * line) % 4 else (s.rd R.FLT_SEV_HI).toNat / 2 ^ (2 * (line - 18)) % 4

/-- The lines that R261 counts, bit per line. -/
def State.penaltyLines (s : State) : Nat :=
  (List.range 36).foldl (fun m l => if s.present l ∧ s.progSev l = 1 ∧ l ≠ 32 then m + 2 ^ l else m) 0

/-- TEB.FAULT (R261). -/
def State.tebFault (s : State) : Nat :=
  sat36 (s.get R.TEB_DEG_PEN_PS * ((List.range 36).filter (fun l => bitOn s.penaltyLines l)).length)

/-- A converter pair's quantisation (R262). -/
def State.pairQuant (s : State) (pair : Nat) : Nat :=
  if s.pairUncal pair then s.get R.TEB_QUANT_UNCAL_PS else if s.pairStale pair then s.get R.TEB_QUANT_STALE_PS else 150

/-- TEB.QUANT_OUT (R262): the worst of the enabled PULSE_OUT outputs. -/
def State.tebQuantOut (s : State) : Nat :=
  match (List.range 4).filter (fun o => s.flag (R.OUT_PULSE_CFG_EN o)) with
  | [] => 150
  | l => l.foldl (fun m o => max m (s.pairQuant (4 + o))) 0

/-- A port's stamp pairs: neither is UNCAL or STALE, one is STALE and none UNCAL, or one is UNCAL. -/
def State.portQuantBad (s : State) (p : Nat) : Bool :=
  s.pairUncal (8 + 2 * p) || s.pairUncal (9 + 2 * p) || s.pairStale (8 + 2 * p) || s.pairStale (9 + 2 * p)

/-- The quantisation of port `p` (R262). -/
def State.portQuant (s : State) (p : Nat) : Nat :=
  if s.pairUncal (8 + 2 * p) || s.pairUncal (9 + 2 * p) then s.get R.TEB_QUANT_UNCAL_PS
  else if s.pairStale (8 + 2 * p) || s.pairStale (9 + 2 * p) then s.get R.TEB_QUANT_STALE_PS
  else 150

/-- The component registers that follow other blocks at once, brought up to date. -/
def State.tebShow (s : State) (now : Int) : State :=
  let s := (s.tebHoldRow now).set R.TEB_CAND_PS s.tebCand
  let s := s.set R.TEB_SERVO_PS s.tebServo
  (s.set R.TEB_FAULT_PS s.tebFault).set R.TEB_QUANT_OUT_PS s.tebQuantOut

/-- The five device components in the order of R263. -/
def State.tebComps (s : State) : List Nat :=
  [s.get R.TEB_CAND_PS, s.get R.TEB_SERVO_PS, s.get R.TEB_HOLD_PS, s.get R.TEB_FAULT_PS, s.get R.TEB_QUANT_OUT_PS]

/-- What a COMMIT's step changes at its applying mark (R258 to R260): the frequency-only growth counts from here. -/
def State.tebCommit (s : State) (freq : Bool) : State :=
  if freq then
    { s with teb := { s.teb with ef := s.get R.TEB_HOLD_PS, efFrom := s.ax.mark } }.tebHold s.ax.mark
  else s

/-- A host step of `d` S72 units takes effect (R259). -/
def State.tebHostStep (s : State) (d : Int) : State :=
  { s with teb := { s.teb with hostAdd := sat36 (s.teb.hostAdd + (quot (d.natAbs * 1000 : Nat) 65536).toNat) } }

/-- A host load takes effect (R258). -/
def State.tebHostLoad (s : State) : State := { s with teb := { s.teb with candUpd := wordMax } }

/-- The scale moves: the instant that R260 counts from moves with it. -/
def State.tebShift (s : State) (d : Int) : State := { s with teb := { s.teb with efFrom := s.teb.efFrom + d } }

/-- SERVO_UPDATE (R118, R129, R163 to R170, R180): one update of the servo; TEB.CAND is taken for freezing (R258). -/
def execServoUpdate (k : Nat) (temp : Int) (s : State) : Host.Outcome State Fault Refusal :=
  .next (if !s.ax.running || !s.subStarts k then s else ((s.perCore (fun t => t.servoUpdate k temp)).tebUpdate).tebHoldRow (s.voteTime (6250 * k)))

/-! ## The published bound (R263 to R267) -/

/-- The clockClass in force (R267). -/
def State.tebClass (s : State) : Nat :=
  if s.get R.BOOT_STAGE_STAGE < 3 then 248
  else if !s.boot.timeValid then s.get R.TEB_CLASS_CFG_DEGRADED
  else if s.hostFeed || (decide (s.selSt = 5 ∨ s.selSt = 6) && !s.freqSelected) then s.get R.TEB_CLASS_CFG_LOCKED
  else s.get R.TEB_CLASS_CFG_HOLD

/-- The class shown, with its event (R267). -/
def State.showClass (s : State) : State :=
  if s.get R.TEB_STATUS_CLASS = s.tebClass then s else (s.set R.TEB_STATUS_CLASS s.tebClass).raise P.TEB E.TEB_CLASS

/-- Byte 12 of the TLV (R270). -/
def State.tebSource (s : State) : Nat :=
  if s.hostFeed then 0xF0 else if s.selected < 12 then s.selected * 16 + s.candSrc s.selected else 0xFF

/-- What RH sends coach `c`, the components being those of `pre`, the state before the mark. -/
def State.mkPub (s pre : State) (c : Nat) : TebPub :=
  let four {α : Type} (f : Nat → α) : List α := [f (4 * c), f (4 * c + 1), f (4 * c + 2), f (4 * c + 3)]
  { ports := four (fun p => s.get (R.TEB_PORT_PS p)), quants := four (fun p => pre.portQuant p), paths := four (fun p => pre.get (R.TEB_PATH_PS p)),
    badQuant := (List.range 4).foldl (fun m i => if pre.portQuantBad (4 * c + i) then m + 2 ^ i else m) 0,
    cand := pre.get R.TEB_CAND_PS, servo := pre.get R.TEB_SERVO_PS, hold := pre.get R.TEB_HOLD_PS, fault := pre.get R.TEB_FAULT_PS, cls := s.get R.TEB_STATUS_CLASS,
    timed := decide (3 ≤ s.get R.BOOT_STAGE_STAGE), valid := s.boot.timeValid, sat := s.flag R.TEB_STATUS_SAT, isOver := s.flag R.TEB_STATUS_OVER,
    freqOnly := pre.flag R.TEB_STATUS_FREQ_ONLY, holdUsed := pre.flag R.TEB_STATUS_HOLD_USED, source := s.tebSource,
    elapsed := if pre.flag R.TEB_STATUS_HOLD_USED then min 0xFFFFFFFF (s.get R.HOLD_ELAPSED_S) else 0 }

/-- The coach is shunted or fenced, so that published values wait for its return (R264). -/
def State.pubHeld (s : State) (c : Nat) : Bool := s.flag (R.PG_STAT_SHUNTED (P.CO c)) || s.flag (R.PG_STAT_FENCED (P.CO c))

/-- The values in force in coach `c` at a tick after the last AXMARK (R264). -/
def State.pubAt (s : State) (c tick : Nat) : TebPub :=
  let p : CoachPub := kvGetD s.teb.coaches c .init
  if s.pubHeld c then (if tick < 6250 then p.before else p.after)
  else if tick < 6250 then p.waiting.getD p.before
  else p.waiting.getD p.after

/-- The coach takes the published values; one that is shunted or fenced keeps its own until it returns (R264). -/
def State.sendPub (s pre : State) (c : Nat) : State :=
  if !s.up (8 + c) then s
  else
    let p : CoachPub := kvGetD s.teb.coaches c .init
    let new : CoachPub :=
      if s.pubHeld c then { before := p.after, after := p.after, waiting := some (s.mkPub pre c) }
      else { before := p.waiting.getD p.after, after := s.mkPub pre c, waiting := none }
    { s with teb := { s.teb with coaches := kvPut s.teb.coaches c new } }

/-- TIME_VALID may be high with the bound at or below `lim` (R265). -/
def State.validAt (s : State) (lim : Nat) : Bool :=
  decide (3 ≤ s.get R.BOOT_STAGE_STAGE) && decide (s.mode ≠ 3) && decide (s.flt.brake = .off) && !s.flag R.TEB_STATUS_SAT &&
    decide (s.get R.TEB_BOUND_PS ≤ lim)

/-- TIME_VALID against LIMIT and HYST (R265). -/
def State.judgeValid (s : State) (lim hyst : Nat) : State :=
  if s.boot.timeValid then (if s.validAt lim then s else (s.setTimeValid false).showSquelch)
  else
    let lim := if s.teb.fell then lim - min lim hyst else lim
    if s.validAt lim then (s.setTimeValid true).showSquelch else s

/-- OVER and line 32 at a mark (R266). -/
def State.judgeOver (s : State) (lim : Nat) : State :=
  let was := s.flag R.TEB_STATUS_OVER
  let on := decide (3 ≤ s.get R.BOOT_STAGE_STAGE) && decide (lim < s.get R.TEB_BOUND_PS)
  let s := if on && !was then s.bump R.TEB_OVERS_COUNT else s
  let s := if on then s.bump R.TEB_OVER_MS_COUNT else s
  if on = was then s else ((s.setFlag R.TEB_STATUS_OVER on).level P.TEB E.TEB_OVER on).lineSet 32 1 on

/-- Sources of the components, as R271 watches them. -/
def State.tebSrcs (s : State) : List Nat :=
  [s.selected, if s.flag R.HOLD_STATUS_IN_HOLD then 1 else 0, if s.flag R.TEB_STATUS_FREQ_ONLY then 1 else 0, s.get R.HOLD_STATUS_MODEL, s.penaltyLines]

/-- The TEB_COMP and TEB_LIMIT records of a mark (R271); the source change code of ARG1 has no stated values and is a free value (log entry 3). -/
def State.tebRecords (s : State) (comps srcs : List Nat) : State :=
  let d := s.get1 R.TEB_REC_DELTA_PS
  let moved := ((comps.zip s.teb.lastComps).map (fun (p : Nat × Nat) => decide (d < max p.1 p.2 - min p.1 p.2)))
  let mask := (moved.zipIdx.foldl (fun m (p : Bool × Nat) => if p.1 then m + 2 ^ p.2 else m) 0)
  let s :=
    if mask ≠ 0 ∨ srcs ≠ s.teb.lastSrc ∨ s.teb.force then
      let f := s.takeFree
      let s := { f.2 with teb := { f.2.teb with lastComps := comps, lastSrc := srcs, force := false } }
      (s.trig islRH 0x48 [mask, f.1]).raise P.TEB E.TEB_COMP
    else s
  let lim := [s.flag R.TEB_STATUS_OVER, s.flag R.TEB_STATUS_SAT, s.boot.timeValid]
  if lim = s.teb.lastLimit then s
  else { s with teb := { s.teb with lastLimit := lim } }.trig islRH 0x49 [(s.rd R.TEB_STATUS).toNat]

/-- What RH does for the bound at an AXMARK: `pre` is the state at the tick before, its components shown (R263 to R267, R271); a commit that applies at the mark
changes LIMIT for the mark after (R266). -/
def State.tebMark (s pre : State) : State :=
  let comps := pre.tebComps
  let dev := comps.foldl (· + ·) 0
  let base := pre.get R.TEB_CAND_PS + pre.get R.TEB_SERVO_PS + pre.get R.TEB_HOLD_PS + pre.get R.TEB_FAULT_PS
  let port (p : Nat) : Nat := base + pre.portQuant p + pre.get (R.TEB_PATH_PS p)
  let sat := decide (wordMax < dev) || comps.any (fun x => decide (x = wordMax)) ||
    (List.range 24).any (fun p => decide (wordMax < port p) || decide (pre.portQuant p = wordMax) || decide (pre.get (R.TEB_PATH_PS p) = wordMax))
  let s := s.set R.TEB_BOUND_PS (sat36 dev)
  let s := (List.range 24).foldl (fun t p => t.set (R.TEB_PORT_PS p) (sat36 (port p))) s
  let s := if s.flag R.TEB_STATUS_SAT = sat then s else (s.setFlag R.TEB_STATUS_SAT sat).level P.TEB E.TEB_SAT sat
  let lim := pre.get R.TEB_LIMIT_PS
  let s := ((s.judgeValid lim (pre.get R.TEB_HYST_PS)).judgeOver lim).showClass
  let s := (List.range 6).foldl (fun t c => t.sendPub pre c) s
  s.tebRecords comps pre.tebSrcs

/-! ## Quality fields (R268 to R270) -/

/-- The bounds of R268 in tenths of a picosecond, from code 0x17 on. -/
def accuracySteps : List Nat :=
  [10, 25, 100, 250, 1000, 2500, 10000, 25000, 100000, 250000, 1000000, 2500000, 10000000, 25000000, 100000000, 250000000, 1000000000, 2500000000,
   10000000000, 25000000000, 100000000000, 250000000000]

/-- clockAccuracy (R268). -/
def clockAccuracy (p : TebPub) (i : Nat) : Nat :=
  if !p.timed || p.sat then 0xFE
  else 0x17 + (accuracySteps.filter (fun b => decide (b < 10 * p.ports.getD i 0))).length

/-- Leap indicator, stratum and root dispersion of an NTP answer (R269); `li`: the leap indicator of the pipeline. -/
def ntpQuality (p : TebPub) (i : Nat) (alarm : Bool) (li : Nat) : Nat × Nat × Nat :=
  let disp := max 1 (((p.ports.getD i 0) * 65536 + 999999999999) / 1000000000000)
  if !p.timed then (3, 16, 0x100000)
  else if p.valid then (li, 1, disp)
  else if alarm then (3, 16, if p.sat then 0x100000 else disp)
  else (li, 1, if p.sat then 0x100000 else disp)

/-- The `n` bytes of a number, most significant first. -/
def bytesBE (n v : Nat) : List Nat :=
  match n with
  | 0 => []
  | k + 1 => (v / 256 ^ k % 256) :: bytesBE k v

/-- The organization extension TLV of port `i` of a coach (R270). -/
def orgTlv (p : TebPub) (i id sub : Nat) : List Nat :=
  let b (x : Bool) (n : Nat) : Nat := if x then 2 ^ n else 0
  let flags := b p.holdUsed 0 + b p.isOver 1 + b p.sat 2 + b p.freqOnly 3 + b (bitOn p.badQuant i) 4
  bytesBE 2 3 ++ bytesBE 2 50 ++ bytesBE 3 id ++ bytesBE 3 sub ++ [1, flags, p.source, 0] ++ bytesBE 5 (p.ports.getD i 0) ++ bytesBE 5 p.cand ++ bytesBE 5 p.servo ++
    bytesBE 5 p.hold ++ bytesBE 5 p.fault ++ bytesBE 5 (p.quants.getD i 0) ++ bytesBE 5 (p.paths.getD i 0) ++ bytesBE 4 p.elapsed ++ [0]

end Sys2Proof.Machine
end

