-- ==== Sys2Proof/Machine/Frames.lean ====
section
/-! DEFINITION.
What ports, switch and pipeline share: parts of the state, the statistics counters, CRC-32, the configuration of a carriage's generation, wire times and the
transmit-timestamp FIFO (R24, R25, R276, R281, R290, R291, R405).
-/
namespace Sys2Proof.Machine
open Sys2Proof

/-! ## Parts of the state -/

def State.portOf (s : State) (p : Nat) : PortState := kvGetD s.pipe.ports p .init
def State.putPort (s : State) (p : Nat) (x : PortState) : State := { s with pipe := { s.pipe with ports := kvPut s.pipe.ports p x } }
def State.coachOf (s : State) (c : Nat) : CoachState := kvGetD s.pipe.coaches c .init
def State.putCoach (s : State) (c : Nat) (x : CoachState) : State := { s with pipe := { s.pipe with coaches := kvPut s.pipe.coaches c x } }
def State.busOf (s : State) (c : Nat) : BusState := kvGetD s.pipe.buses c { queue := [], stuck := false, sel := none }
def State.putBus (s : State) (c : Nat) (x : BusState) : State := { s with pipe := { s.pipe with buses := kvPut s.pipe.buses c x } }
def State.dmaRing (s : State) (q : Nat) : RingState := kvGetD s.dma.rings q .init
def State.putDma (s : State) (q : Nat) (x : RingState) : State := { s with dma := { s.dma with rings := kvPut s.dma.rings q x } }

/-- The coach is out of service for the switch and the timetable: shunted or fenced (R304, R363). -/
def State.coachOut (s : State) (c : Nat) : Bool := s.flag (R.PG_STAT_SHUNTED (P.CO c)) || s.flag (R.PG_STAT_FENCED (P.CO c))

/-- The coach is lost to the switch: out of service, or by a SEVERE fault of its line, or a broken coupling (R28). -/
def State.coachLost (s : State) (c : Nat) : Bool := s.coachOut c || s.severe (11 + c) || s.coachCut c

/-- The port's link state (R283). -/
def State.link (s : State) (p : Nat) : Nat := s.get (R.PRT_STATUS_LINK p)
def State.portUp (s : State) (p : Nat) : Bool := decide (s.link p = 3)

/-- The device serves time as far as its role goes: SOLO or HOLDER (R436). -/
def State.holdsReins (s : State) : Bool := decide (s.get R.DUG_STATUS_ROLE ≤ 1) && !s.dug.soloOff

/-- The switch takes frames: its page is enabled, and no brake of line 17 or 18 nor a fence stops it (R311, R409, R452). -/
def State.swOn (s : State) : Bool := s.flag (R.PG_CTRL_EN P.SWF) && !s.flt.swStopped

/-- The coach is asked to accept one more carriage in this window (R287). -/
def State.demand (s : State) (c : Nat) : State :=
  let x := s.coachOf c
  s.putCoach c { x with demand := x.demand + 1 }

/-! ## Statistics counters (R291, R292) -/

/-- Counter `k` of the port's STA page moves up by `n`, wrapping; crossing a multiple of 2^35 sets its event (R291, R294). -/
def State.sta (s : State) (p k n : Nat) : State :=
  let a := R.STA_RX_FRAMES p + k
  let old := (s.rd a).toNat
  let t := s.wr a (BitVec.ofNat 36 (old + n))
  t.raiseIf (decide (old / 2 ^ 35 ≠ (old + n) / 2 ^ 35)) (P.STA p) k

/-- A 72-bit octet counter moves up. -/
def State.octets (s : State) (a n : Nat) : State :=
  let v := (s.rd a).toNat * 2 ^ 36 + (s.rd (a + 1)).toNat + n
  (s.wr a (BitVec.ofNat 36 (v / 2 ^ 36))).wr (a + 1) (BitVec.ofNat 36 v)

/-! ## CRC-32 (R281, R351): the IEEE 802.3 FCS (PRESUMED, log entry 28) -/

/-- The IEEE 802.3 CRC-32 of a byte string, final complement included. -/
def crcBytes (l : List Nat) : Nat := (l.foldl crcByte 0xFFFFFFFF) ^^^ 0xFFFFFFFF

/-- A frame's destination is a group address: the first bit on the wire is 1. -/
def isGroup (mac : Nat) : Bool := (mac / 2 ^ 40) % 2 = 1

abbrev macBcast : Nat := 0xFFFFFFFFFFFF

/-! ## The configuration of a carriage (R25, R405) -/

/-- The generation in force at an instant: the one before while the instant precedes the last commit. -/
def State.genAt (s : State) (t : Int) : Nat := if t < ofT108 (s.rdT R.GEN_LAST_T) then s.gen.beforeNum else s.get R.GEN_IN_FORCE_GEN

/-- A carriage's generation names neither set held. -/
def State.staleGen (s : State) (g : Nat) : Bool := decide (g ≠ s.get R.GEN_IN_FORCE_GEN ∧ g ≠ s.gen.beforeNum)

/-- The set of a generation. -/
def State.cfg (s : State) (g : Nat) : Store := if g = s.get R.GEN_IN_FORCE_GEN then s.regs else s.gen.before

/-- A field's value under a generation. -/
def State.cget (s : State) (g : Nat) (f : Fld) : Nat := f.of ((s.cfg g).read f.slot)
def State.cflag (s : State) (g : Nat) (f : Fld) : Bool := decide (s.cget g f = 1)

/-- A signed delay register in ps, held to ±10,000,000 (R276, R293). -/
def State.cdelay (s : State) (g : Nat) (f : Fld) : Int := clampInt (-10000000) 10000000 (toSigned 36 (s.cget g f))

/-! ## Wire times -/

/-- The rate of a port mode in Gb/s (R274); 0 for a port that is off. -/
def modeRate (m : Nat) : Nat :=
  match m with
  | 1 => 1
  | 2 => 10
  | 3 => 25
  | 4 => 50
  | 5 => 100
  | _ => 0

/-- The wire time of `n` bytes in a mode. -/
def wireTime (m n : Nat) : Int := if modeRate m = 0 then 0 else quot (8 * n * nsU) (modeRate m)

def State.portMode (s : State) (p : Nat) : Nat := s.get (R.PRT_MODE_MODE p)

/-- The wire time of a frame whose timestamp point passes the land at `t`: from the start of the preamble to the end of the inter-frame gap (R331). -/
def wireSpan (m len : Nat) (t : Int) : Int × Int := (t - wireTime m 8, t + wireTime m (len + 12))

/-- The amount of the step announced to a coach for the next AXMARK (R20, R126). -/
def State.coachStep (s : State) (c : Nat) : Int := (s.ctrOf (8 + c)).step

/-- DEPART on the scale in force: one written on the scale of a step yet to be applied is taken back by the step (R126). -/
def State.departNow (s : State) (k : Carriage) : Option Int :=
  k.depart.map (fun d => if s.ax.marks < k.scaleNo then d - s.coachStep (k.port / 4) else d)

/-- The reservations of a port (R331), as wire times. -/
def State.reserved (s : State) (p : Nat) : List (Int × Int) :=
  (s.coachOf (p / 4)).cars.filterMap (fun (k : Carriage) =>
    match s.departNow k with
    | some d => if k.port = p then some (wireSpan (s.portMode p) k.frame.len (d - ofPs (s.cdelay k.gen (R.PRT_DELAY_TX_PS p)))) else none
    | none => none)

/-- Two wire times overlap. -/
def spansMeet (a b : Int × Int) : Bool := decide (a.1 < b.2 ∧ b.1 < a.2)

/-! ## The transmit-timestamp FIFO (R290) -/

def State.showTsf (s : State) (p : Nat) : State :=
  let n := (s.portOf p).tsf.length
  let s := s.set (R.PRT_TSF_STAT_LEVEL p) n
  if s.get (R.PRT_TSF_STAT_HWM p) < n then s.set (R.PRT_TSF_STAT_HWM p) n else s

/-- An egress stamp arrives. -/
def State.tsfStore (s : State) (p : Nat) (stamp : Int) (tag ring origin : Nat) : State :=
  let x := s.portOf p
  if 256 ≤ x.tsf.length then ((s.sta p 20 1).raise (P.PRT p) E.PRT_TSF_GAP).putPort p { x with gap := true }
  else
    let e : TsfEntry := { stamp := stamp, tag := tag, ring := ring, origin := origin, gap := x.gap }
    (s.putPort p { x with tsf := x.tsf ++ [e], gap := false }).showTsf p

/-! ## Transmit descriptors (R484) -/

/-- The result of a transmit descriptor, kept until its completion is written. -/
def State.txResult (s : State) (q idx st : Nat) (stamp : Int) : State :=
  let r := s.dmaRing q
  s.putDma q { r with tx := r.tx.map (fun (j : TxJob) => if j.idx = idx ∧ j.res = none then { j with res := some (st, stamp) } else j) }

/-- The same for a frame that came from a descriptor. -/
def State.descResult (s : State) (f : SwFrame) (st : Nat) : State :=
  match f.desc with
  | some (q, idx, _) => s.txResult q idx st 0
  | none => s

/-- Frames counted as sent on a port (R292): TX_FRAMES, TX_MCAST or TX_BCAST, TX_OCTETS; and the frame leaves. -/
def State.sendGood (s : State) (p : Nat) (f : Frame) (land : Int) : State :=
  let s := s.sta p 12 1
  let s := if f.dst = macBcast then s.sta p 14 1 else if isGroup f.dst then s.sta p 13 1 else s
  (s.octets (R.STA_TX_OCTETS p) f.len).emit (.frame p f (toT108 land) true)

/-- A frame ended with an invalid FCS (R284, R292). -/
def State.sendBad (s : State) (p : Nat) (f : Frame) : State := (s.sta p 18 1).emit (.frame p f s.nowT false)

end Sys2Proof.Machine
end

