-- ==== Sys2Proof/Machine/Switch.lean ====
section
/-! DEFINITION.
The switch core: forwarding, admission, spilling, the resequencer, egress queues, the forwarding table and the DRAM (R295 to R320).
-/
namespace Sys2Proof.Machine
open Sys2Proof

/-! ## Cells and queues -/

/-- The number of cells of `n` bytes (R295). -/
def cellsOf (n : Nat) : Nat := (n + 255) / 256

/-- The fabric output behind a destination (R296). -/
def fabOut (dst : Nat) : Nat := if dst = 24 then 6 else dst / 4

/-- The cells that a frame counts (R304). -/
def SwFrame.cells (f : SwFrame) : Nat := f.used.getD f.bound

def SwFrame.copyTo (f : SwFrame) (dst : Nat) : Option Copy := f.copies.find? (fun c => decide (c.dst = dst))

/-- The frames of one egress queue, in admission order. -/
def State.queue (s : State) (dst cls : Nat) : List SwFrame := s.sw.frames.filter (fun f => decide (f.cls = cls) && f.copies.any (fun c => decide (c.dst = dst)))

/-- Cells counted in a queue, all of them or those in SRAM only. -/
def State.queueCells (s : State) (dst cls : Nat) (sramOnly : Bool) : Nat :=
  (s.queue dst cls).foldl (fun n f => if sramOnly && f.copies.any (fun c => decide (c.dst = dst) && c.spilled) then n else n + f.cells) 0

def State.sramUsed (s : State) : Nat := s.sw.frames.foldl (fun n f => if f.copies.any (fun c => !c.spilled) then n + f.cells else n) 0
def State.dramUsed (s : State) : Nat := s.sw.frames.foldl (fun n f => if f.copies.any (fun c => c.spilled) then n + f.cells else n) 0
def State.expUsed (s : State) : Nat := s.sw.frames.foldl (fun n f => if f.cls = 7 then n + f.cells else n) 0

def State.sramFree (s : State) : Nat := 196608 - s.sramUsed
def State.dramFree (s : State) : Nat := 25165824 - s.dramUsed

/-- SRAM cells free to classes 0 to 6: the part of the express reserve that class 7 does not use is kept (R306; DEDUCED, log entry 27). -/
def State.sramOpen (s : State) (g : Nat) : Nat :=
  let r := s.cget g R.BUF_EXP_RESERVE_CELLS
  s.sramFree - (r - min r s.expUsed)

def State.spilling (s : State) (dst cls : Nat) : Bool := bitOn s.sw.spill (8 * dst + cls)

/-- The free counts, Q_DEPTH and the level events of the BUF page (R317, R318). -/
def State.showBuf (s : State) : State :=
  let s := (s.set R.BUF_SRAM_FREE_CELLS s.sramFree).set R.BUF_DRAM_FREE_CELLS s.dramFree
  let low := decide (s.sramFree < s.get R.BUF_SPILL_FREE_CELLS)
  let sp := decide (s.sw.spill ≠ 0)
  let s := if s.flag R.BUF_STATUS_SRAM_LOW = low then s else (s.setFlag R.BUF_STATUS_SRAM_LOW low).level P.BUF E.BUF_SRAM_LOW low
  let s := if s.flag R.BUF_STATUS_SPILLING = sp then s else (s.setFlag R.BUF_STATUS_SPILLING sp).level P.BUF E.BUF_SPILLING sp
  let d := s.get R.BUF_Q_SEL_PORT
  let c := s.get R.BUF_Q_SEL_CLASS
  (s.set R.BUF_Q_DEPTH_CELLS (s.queueCells d c false)).setFlag R.BUF_Q_DEPTH_SPILL (s.spilling d c)

/-- A queue leaves spill mode when nothing of it is in DRAM or on its way from there (R307). -/
def State.endSpill (s : State) : State :=
  let m := (List.range 200).foldl (fun m k =>
    if bitOn m k && (s.queue (k / 8) (k % 8)).all (fun f => f.copies.all (fun c => decide (c.dst ≠ k / 8) || (!c.spilled && (c.ready || decide (f.input ≠ 7)))))
    then setBit m k false else m) s.sw.spill
  { s with sw := { s.sw with spill := m } }

/-- The same frame of the switch, by input and FID. -/
def SwFrame.is (f : SwFrame) (input fid : Nat) : Bool := decide (f.input = input ∧ f.fid = fid)

def SwPart.frame (w : SwPart) (input fid : Nat) : Option SwFrame := w.frames.find? (fun f => f.is input fid)

def State.swFrame (s : State) (input fid : Nat) : Option SwFrame := s.sw.frame input fid

/-- Frames without a copy left give their cells back, and those of their cells that have not been issued are dropped (R304). -/
def State.tidy (s : State) : State :=
  let fr := s.sw.frames.filter (fun f => decide (f.copies ≠ []))
  let live (c : Cell) : Bool := fr.any (fun f => f.is c.input c.fid)
  { s with sw := { s.sw with frames := fr, issue := s.sw.issue.map (fun (e : Nat × List Cell) => (e.1, e.2.filter live)) } }.endSpill.showBuf

/-- A frame replaced. -/
def State.putSwFrame (s : State) (f : SwFrame) : State :=
  { s with sw := { s.sw with frames := s.sw.frames.map (fun g => if g.is f.input f.fid then f else g) } }

/-! ## The fabric (R296, R297, R299) -/

/-- Stage 1 at input `i` in a slot: its oldest class 7 cell, or its next cell, goes to bank (i + slot) mod 8, into the FIFO of each queue that its frame has a copy
for; LAST tells the cells used (R296, R297, R304). -/
def SwPart.issueOne (w : SwPart) (slot i : Nat) : SwPart :=
  match kvGetD w.issue i [] with
  | [] => w
  | h :: t =>
    let c := ((h :: t).find? (fun c => decide (c.cls = 7))).getD h
    let w := { w with issue := kvPut w.issue i ((h :: t).erase c) }
    match w.frame c.input c.fid with
    | none => w
    | some f =>
      let qs := (if f.copies.any (fun k => k.spilled) then [25] else []) ++ (f.copies.filter (fun k => !k.spilled)).map (fun k => k.dst)
      let g : SwFrame := { f with copies := f.copies.map (fun k => { k with issued := true }), used := if c.last then some f.total else f.used }
      { w with frames := w.frames.map (fun x => if x.is f.input f.fid then g else x),
               banks := qs.foldl (fun m q => let k := 208 * ((i + slot) % 8) + 8 * q + c.cls; kvPut m k (kvGetD m k [] ++ [c])) w.banks }

/-- Slots of stage 1 from `slot` on. -/
def SwPart.issueSlots (w : SwPart) (slot n : Nat) : SwPart :=
  match n with
  | 0 => w
  | k + 1 => ((List.range 8).foldl (fun z i => z.issueOne slot i) w).issueSlots (slot + 1) k

/-- Stage 1 has run every slot before `t`: it does nothing once no cell waits. -/
def State.toSlot (s : State) (t : Nat) : State :=
  if t ≤ s.sw.slot ∨ !s.up islSW then s
  else
    let n := s.sw.issue.foldl (fun n (e : Nat × List Cell) => max n e.2.length) 0
    { s with sw := { s.sw.issueSlots s.sw.slot (min (t - s.sw.slot) n) with slot := t } }

/-- Cells of the resequencing buffer of a destination that are taken: 64 for each frame that has begun to arrive, and from LAST on the frame's own (R299), until the
copy leaves (DEDUCED, log entry 27). -/
def SwPart.reseqUsed (w : SwPart) (dst : Nat) : Nat :=
  w.frames.foldl (fun n f => match f.copyTo dst with
    | some k => if k.entered then n + (if k.last then f.total else 64) else n
    | none => n) 0

/-- R299 permits stage 2 to send the cell to the queue: its frame holds a reservation, or 64 cells are free; 64 more are kept back for the earliest-admitted frame
with cells in flight there. -/
def SwPart.permits (w : SwPart) (q : Nat) (c : Cell) : Bool :=
  match (w.frame c.input c.fid).bind (fun f => f.copyTo q) with
  | none => true
  | some k =>
    let free := 512 - w.reseqUsed q
    let first := (w.frames.find? (fun f => f.copies.any (fun x => decide (x.dst = q ∧ x.cells < f.total) && x.issued && !x.spilled))).any (fun f => f.is c.input c.fid)
    k.entered || decide ((if first then 64 else 128) ≤ free)

/-- The classes of a queue in a bank whose head may be sent. -/
def SwPart.heads (w : SwPart) (bank q : Nat) : List Nat :=
  (List.range 8).filter (fun cls => match kvGetD w.banks (208 * bank + 8 * q + cls) [] with
    | c :: _ => w.permits q c
    | [] => false)

/-- Round robin: the members of an ascending list, those after the last one served first. -/
def inTurn (last : Nat) (l : List Nat) : List Nat := l.filter (fun x => decide (last < x)) ++ l.filter (fun x => decide (x ≤ last))

/-- The quantum of a class in cells, under the generation of the cell at the head (R297, R315). -/
def State.quantum (s : State) (bank q cls : Nat) : Nat :=
  let g := match kvGetD s.sw.banks (208 * bank + 8 * q + cls) [] with
    | c :: _ => ((s.swFrame c.input c.fid).map (fun f => f.gen)).getD (s.get R.GEN_IN_FORCE_GEN)
    | [] => s.get R.GEN_IN_FORCE_GEN
  max 1 (s.cget g R.SWF_WEIGHT_W / 16 ^ cls % 16)

/-- The queues behind a fabric output; 25 is the DRAM path. -/
def outQueues (out : Nat) : List Nat := if out = 6 then [24] else if out = 7 then [25] else [4 * out, 4 * out + 1, 4 * out + 2, 4 * out + 3]

/-- Stage 2: the queue and class whose head cell bank `bank` sends to an output, and the turns after it (R297). -/
def State.pickCell (s : State) (bank out : Nat) : Option (Nat × Nat × SwPart) :=
  let w := s.sw
  let qs := outQueues out
  let key := 8 * bank + out
  match inTurn (kvGetD w.turn7 key 25) (qs.filter (fun q => (w.heads bank q).contains 7)) with
  | q :: _ => some (q, 7, { w with turn7 := kvPut w.turn7 key q })
  | [] =>
    match inTurn (kvGetD w.turn key 25) (qs.filter (fun q => (w.heads bank q).any (fun c => decide (c < 7)))) with
    | [] => none
    | q :: _ =>
      let ok := (w.heads bank q).filter (fun c => decide (c < 7))
      let (cur, left) := kvGetD w.drr (32 * bank + q) (6, 0)
      let next : Nat × Nat :=
        if 0 < left ∧ ok.contains cur then (cur, left - 1)
        else match inTurn cur ok with
          | c :: _ => (c, s.quantum bank q c - 1)
          | [] => (cur, 0)
      some (q, next.1, { w with turn := kvPut w.turn key q, drr := kvPut w.drr (32 * bank + q) next })

/-- A cell of the frames still in the fabric. -/
def SwPart.holds (w : SwPart) (input fid : Nat) : Bool :=
  let here (e : Nat × List Cell) : Bool := e.2.any (fun c => decide (c.input = input ∧ c.fid = fid))
  w.issue.any here || w.banks.any here

/-- The cells of a frame join its input's cells in issue order. -/
def State.queueCellsIn (s : State) (f : SwFrame) : State :=
  let l := (List.range f.total).map (fun i => ({ input := f.input, fid := f.fid, idx := i, last := decide (i + 1 = f.total), cls := f.cls } : Cell))
  { s with sw := { s.sw with issue := kvPut s.sw.issue f.input (kvGetD s.sw.issue f.input [] ++ l) } }

/-! ## Frame sequence numbers (R298) -/

/-- The FSEQ key of an input, an output and a class (R298). -/
def fseqKey (input out cls : Nat) : Nat := 64 * input + 8 * out + cls

/-- FSEQ values at the head that are done move the awaited value on (R298). -/
def advanceSeq (done : List (Nat × Nat)) (key next fuel : Nat) : Nat :=
  match fuel with
  | 0 => next
  | n + 1 => if done.contains (key, next) then advanceSeq done key ((next + 1) % 4096) n else next

/-- An FSEQ is released, skipped or discarded at an output. -/
def State.seqDone (s : State) (key v : Nat) : State :=
  let d := (key, v) :: s.sw.done
  let w := advanceSeq d key (kvGetD s.sw.waiting key 0) 4096
  { s with sw := { s.sw with waiting := kvPut s.sw.waiting key w,
                             done := d.filter (fun (e : Nat × Nat) => decide (e.1 ≠ key ∨ (e.2 + 4096 - w) % 4096 < 2048)) } }

/-- The copies that satisfy `p` go; an FSEQ of an output to which no copy is left counts as done. -/
def State.dropCopies (s : State) (f : SwFrame) (p : Copy → Bool) : State :=
  let keep := f.copies.filter (fun c => !p c)
  let s := s.putSwFrame { f with copies := keep }
  f.fseq.foldl (fun t (e : Nat × Nat) =>
    if f.copies.any (fun c => decide (fabOut c.dst = e.1)) && !keep.any (fun c => decide (fabOut c.dst = e.1)) &&
       !f.copies.any (fun c => decide (fabOut c.dst = e.1) && c.ready) then t.seqDone (fseqKey f.input e.1 f.cls) e.2 else t) s

/-- A frame with all its copies goes. -/
def State.dropFrame (s : State) (f : SwFrame) : State := (s.dropCopies f (fun _ => true)).tidy

/-! ## The forwarding table (R302, R303) -/

def State.fdbFind (s : State) (mac : Nat) : Option FdbEntry := s.sw.fdb.find? (fun e => decide (e.mac = mac))

def State.putFdb (s : State) (l : List FdbEntry) : State := ({ s with sw := { s.sw with fdb := l } }).set R.SWF_FDB_COUNT_N l.length

/-- The entries of an address's hash set. -/
def State.fdbSetOf (s : State) (mac : Nat) : List FdbEntry := s.sw.fdb.filter (fun e => decide (Config.fdbSet e.mac = Config.fdbSet mac))

/-- A source address is learned or refreshed (R302). -/
def State.learn_ (s : State) (mac port : Nat) : State :=
  if isGroup mac then s
  else
    let s' : State :=
      match s.fdbFind mac with
      | some e =>
        if e.isStatic then s
        else s.putFdb ({ e with ports := 2 ^ port, host := false, seen := 0 } :: s.sw.fdb.filter (fun x => decide (x.mac ≠ mac)))
      | none =>
        if 4 ≤ (s.fdbSetOf mac).length then (s.bump R.SWF_FDB_LEARN_FAIL_COUNT).level P.SWF E.SWF_FDB_FULL true
        else
          let t := s.putFdb ({ mac := mac, ports := 2 ^ port, host := false, isStatic := false, seen := 0 } :: s.sw.fdb)
          if bitOn (t.rd (R.PG_EVT_NOW P.SWF)).toNat E.SWF_FDB_FULL then t.level P.SWF E.SWF_FDB_FULL false else t
    s'

/-- FDB_AGE_SWEEP (R302): learned entries not refreshed for FDB_AGE seconds go. -/
def execFdbAgeSweep (s : State) : Host.Outcome State Fault Refusal :=
  .next (
    let a := s.get R.SWF_FDB_AGE_S
    if !s.up islSW ∨ a = 0 then s
    else s.putFdb ((s.sw.fdb.map (fun e => { e with seen := e.seen + 1 })).filter (fun e => e.isStatic || decide (e.seen ≤ a))))

/-- The address in FDB_MAC (R303). -/
def State.fdbMac (s : State) : Nat := s.get R.SWF_FDB_MAC_HI_MAC * 2 ^ 32 + s.get R.SWF_FDB_MAC_LO_MAC

def State.fdbDone (s : State) (st : Nat) : State := s.set R.SWF_FDB_CMD_STATUS st

/-- ADD_STATIC (R303). -/
def execAddStatic (m : Master) (s : State) : Host.Outcome State Fault Refusal :=
  .next (s.hostCmd m R.SWF_FDB_CMD_STATUS fun s =>
    let mac := s.fdbMac
    let e : FdbEntry := { mac := mac, ports := s.get R.SWF_FDB_DEST_PORTS, host := s.flag R.SWF_FDB_DEST_HOST, isStatic := true, seen := 0 }
    let rest := s.sw.fdb.filter (fun x => decide (x.mac ≠ mac))
    let set := (s.fdbSetOf mac).filter (fun x => decide (x.mac ≠ mac))
    if set.length < 4 then (s.putFdb (e :: rest)).fdbDone 2
    else match (set.filter (fun x => !x.isStatic)).getLast? with
      | some old => (s.putFdb (e :: rest.filter (fun x => decide (x.mac ≠ old.mac)))).fdbDone 2
      | none => s.fdbDone 3)

/-- FDB_DELETE (R303). -/
def execFdbDelete (m : Master) (s : State) : Host.Outcome State Fault Refusal :=
  .next (s.hostCmd m R.SWF_FDB_CMD_STATUS fun s =>
    if (s.fdbFind s.fdbMac).isSome then (s.putFdb (s.sw.fdb.filter (fun x => decide (x.mac ≠ s.fdbMac)))).fdbDone 2 else s.fdbDone 4)

/-- FDB_READ (R303). -/
def execFdbRead (m : Master) (s : State) : Host.Outcome State Fault Refusal :=
  .next (s.hostCmd m R.SWF_FDB_CMD_STATUS fun s =>
    match s.fdbFind s.fdbMac with
    | some e => (((s.set R.SWF_FDB_DEST_PORTS e.ports).setFlag R.SWF_FDB_DEST_HOST e.host).setFlag R.SWF_FDB_DEST_STATIC e.isStatic).fdbDone 2
    | none => s.fdbDone 4)

/-- FLUSH_LEARNED (R303). -/
def execFlushLearned (m : Master) (s : State) : Host.Outcome State Fault Refusal :=
  .next (s.hostCmd m R.SWF_FDB_CMD_STATUS fun s => (s.putFdb (s.sw.fdb.filter (fun x => x.isStatic))).fdbDone 2)

/-- FLUSH_PORT (R303). -/
def execFlushPort (m : Master) (s : State) : Host.Outcome State Fault Refusal :=
  .next (s.hostCmd m R.SWF_FDB_CMD_STATUS fun s =>
    (s.putFdb (s.sw.fdb.filter (fun x => x.isStatic || decide (x.ports &&& s.get R.SWF_FDB_DEST_PORTS = 0)))).fdbDone 2)

/-! ## Destinations and admission (R301, R304 to R307) -/

/-- Destinations of a 25-bit mask, in port order with the host last. -/
def maskDsts (m : Nat) : List Nat := (List.range 25).filter (fun d => bitOn m d)

/-- The class of a frame by its outer tag (R301). -/
def State.pcpClass (s : State) (g : Nat) (f : Frame) : Nat :=
  match f.tags with
  | [] => s.cget g R.SWF_PCP_MAP_UNTAG
  | (_, tci) :: _ => s.cget g R.SWF_PCP_MAP_MAP / 2 ^ (3 * (tci / 2 ^ 13 % 8)) % 8

/-- The destination set before its reductions (R301). -/
def State.destSet (s : State) (g verdict : Nat) (f : Frame) : Nat :=
  if verdict = 3 then 2 ^ 24
  else match s.fdbFind f.dst with
    | some e => e.ports + (if e.host then 2 ^ 24 else 0)
    | none => s.cget g R.SWF_FLOOD_MASK_PORTS + s.cget g R.SWF_FLOOD_MASK_HOST * 2 ^ 24

/-- Why a copy is refused: 1 DOWN, 2 LIMIT, 3 SPACE; 0 admitted (R304). -/
def State.refusal (s : State) (g cls n dst : Nat) (spill : Bool) : Nat :=
  let lim := if s.cget g R.BUF_Q_LIMIT_CELLS = 0 then 64 else s.cget g R.BUF_Q_LIMIT_CELLS
  if dst < 24 ∧ (!s.portUp dst ∨ s.coachLost (dst / 4)) then 1
  else if lim < s.queueCells dst cls false + n then 2
  else if cls = 7 then (if s.sramFree < n then 3 else 0)
  else if spill then (if s.dramFree < n then 3 else 0)
  else if s.sramOpen g < n then 3 else 0

/-- The queue is in spill mode or enters it with this frame (R307). -/
def State.spillDue (s : State) (g cls dst : Nat) : Bool :=
  decide (cls ≠ 7) && (s.spilling dst cls || decide (s.cget g R.BUF_SPILL_AT_CELLS ≤ s.queueCells dst cls true) || decide (s.sramFree < s.cget g R.BUF_SPILL_FREE_CELLS))

/-- A frame as it is offered to the queues, with the fields of R24 that it keeps. -/
structure Offer where
  input : Nat
  fid : Nat
  frame : Frame
  portIn : Nat
  verdict : Nat
  origin : Nat
  gen : Nat
  ingT : Int
  cls : Nat
  bound : Nat
  dsts : List Nat
  desc : Option (Nat × Nat × Bool)
  cold : Nat
  place : Nat
  buf : Nat
  depart : Option Int

/-- A refused copy counted (R304, R305). -/
def State.countRefusal (s : State) (dst why : Nat) (single : Bool) : State :=
  let s := if why = 1 ∧ dst < 24 then s.sta dst 17 1 else s
  let s := if single ∧ (why = 2 ∨ why = 3) ∧ dst < 24 then s.bump (R.BUF_Q_DROP_COUNT dst) else s
  if !single ∧ dst < 24 then s.bump (R.BUF_MC_DROP_COUNT dst) else s

/-- A frame is offered to its queues and stored with its admitted copies (R304 to R307). -/
def State.admitFrame (s : State) (o : Offer) : State :=
  let single := decide (o.dsts.length = 1)
  let why : List (Nat × Nat) := o.dsts.map (fun d => (d, s.refusal o.gen o.cls o.bound d (s.spillDue o.gen o.cls d)))
  let s := why.foldl (fun t (e : Nat × Nat) => if e.2 = 0 then t else t.countRefusal e.1 e.2 single) s
  let s :=
    if why.any (fun e => decide (e.2 = 3)) then
      if o.cls = 7 then (s.bump R.BUF_EXP_DROP_COUNT).raise P.BUF E.BUF_EXP_DROP else (s.bump R.BUF_SPILL_FULL_COUNT).raise P.BUF E.BUF_SPILL_FULL
    else s
  let ok := (why.filter (fun e => decide (e.2 = 0))).map (·.1)
  match ok, o.desc with
  | [], some (q, idx, _) => s.txResult q idx (if why.any (fun e => decide (e.2 = 1)) then 2 else 3) 0
  | [], none => s
  | _, _ =>
    let spill := ok.any (fun d => s.spillDue o.gen o.cls d)
    let outs := if spill then [7] else (ok.map fabOut).dedup
    let seqs : List (Nat × Nat) := outs.map (fun u => (u, kvGetD s.sw.fseq (fseqKey o.input u o.cls) 0))
    let f : SwFrame :=
      { input := o.input, fid := o.fid, frame := o.frame, portIn := o.portIn, verdict := o.verdict, origin := o.origin, gen := o.gen, ingT := o.ingT, cls := o.cls,
        bound := o.bound, total := cellsOf o.frame.len, used := none, st := 0, fseq := if spill then [] else seqs, place := o.place, buf := o.buf, depart := o.depart,
        copies := ok.map (fun d => { dst := d, spilled := spill, issued := false, cells := 0, entered := false, last := false, ready := false, begun := false }),
        admT := s.ax.mark, desc := o.desc, cold := o.cold, flooded := ok.contains 24 && ok.any (fun d => decide (d < 24)) }
    let nf := seqs.foldl (fun m (e : Nat × Nat) => kvPut m (fseqKey o.input e.1 o.cls) ((e.2 + 1) % 4096)) s.sw.fseq
    let sp := if spill then ok.foldl (fun m d => setBit m (8 * d + o.cls) true) s.sw.spill else s.sw.spill
    let s := { s with sw := { s.sw with frames := s.sw.frames ++ [f], fseq := if spill then s.sw.fseq else nf, spill := sp } }
    (s.queueCellsIn f).showBuf

/-- The stamp flags of a port's receive stamp (R481): COLD, STALE, UNCAL. -/
def State.rxFlags (s : State) (p : Nat) : Nat :=
  (if s.flag R.VOTE_OSC_STAT_OCXO_WARM then 0 else 1) + (if s.pairStale (8 + 2 * p) then 2 else 0) + (if s.pairUncal (8 + 2 * p) then 4 else 0)

/-- A carriage of a coach leaves it. -/
def State.dropCar (s : State) (c cid : Nat) : State :=
  let x := s.coachOf c
  s.putCoach c { x with cars := x.cars.filter (fun (k : Carriage) => decide (k.cid ≠ cid)) }

/-- A frame from a coach at its first cell (R301). -/
def State.admitCarriage (s : State) (c : Nat) (k : Carriage) : State :=
  let s := s.dropCar c k.cid
  if s.staleGen k.gen then s.bump R.GEN_STALE_DROP_COUNT
  else if !s.swOn then s.bump R.SWF_DIS_DROP_COUNT
  else
    let s := if k.verdict = 1 ∨ k.verdict = 2 then s.learn_ k.frame.src k.port else s
    let set := setBit (s.destSet k.gen k.verdict k.frame) k.port false
    if set = 0 then s.bump R.SWF_SAME_PORT_COUNT
    else
      let reserved := decide (k.frame.dst / 16 = 0x0180C200000) && decide (k.verdict = 1 ∨ k.verdict = 2)
      let dsts := if reserved then [] else maskDsts set
      s.admitFrame { input := c, fid := k.cid, frame := k.frame, portIn := k.portIn, verdict := k.verdict, origin := 0, gen := k.gen, ingT := k.ingT,
                     cls := s.pcpClass k.gen k.frame, bound := cellsOf (s.cget k.gen (R.PRT_FRAME_MAX_BYTES k.port)), dsts := dsts, desc := none, cold := s.rxFlags k.port,
                     place := k.place, buf := k.buf, depart := k.depart }

/-- A host-originated frame at its first cell (R301, R483): `fid` is 65,536 times its ring less 4, plus its descriptor index. -/
def State.admitHost (s : State) (fid : Nat) (d : TxDesc) : State :=
  let q := 4 + fid / 65536
  let idx := fid % 65536
  let s := s.demand (d.port / 4)
  if !s.swOn then s.bump R.SWF_DIS_DROP_COUNT
  else
    let f := { d.frame with len := d.frame.len + 4 }
    let b := s.takeFree
    b.2.admitFrame { input := 6, fid := fid, frame := f, portIn := 31, verdict := 2, origin := 2, gen := s.get R.GEN_IN_FORCE_GEN, ingT := s.ax.mark, cls := d.flags % 8,
                       bound := cellsOf f.len, dsts := [d.port], desc := some (q, idx, bitOn d.flags 3), cold := 0, place := 0, buf := b.1 % 2 ^ 24, depart := none }

/-- FRAME_ADMISSION (R15, R24, R301, R304): the frame at the head of a coach's carriages for the switch crosses the CO-SW coupling with its first cell, before the
given slot of the fabric. -/
def execFrameAdmission (coach slot : Nat) (s : State) : Host.Outcome State Fault Refusal :=
  withUnit coach 6 (
    let x := s.coachOf coach
    match x.toSw with
    | [] => s
    | cid :: rest =>
      if !s.linkOpen (8 + coach) islSW 0 then s
      else
        let s := (s.toSlot slot).putCoach coach { x with toSw := rest }
        match x.cars.find? (fun (k : Carriage) => decide (k.cid = cid ∧ k.stage = .forward)) with
        | some k => s.admitCarriage coach k
        | none => s)

/-! ## Cells and the resequencer (R295 to R300, R313) -/

/-- An uncorrectable DRAM error (R314). -/
def State.dramUncorr (s : State) : State := ((s.bump R.DRM_ECC_UNCORR_COUNT).raise P.DRM E.DRM_ECC_UNCORR).pulse 18

/-- CRC failures of a transfer, retried up to four times (R314). -/
def State.crcRetry (s : State) (n : Nat) : State := (s.bumpBy R.DRM_CRC_RETRY_COUNT n).raiseIf (decide (0 < n)) P.DRM E.DRM_CRC_RETRY

/-- A DRAM transfer with or without an uncorrectable error: an injection of DRAM_CRC that waits takes it, and its fifth inverted transfer is an uncorrectable
error (R459). -/
def State.dramTransfer (s : State) (bad : Bool) : State × Bool :=
  match s.injWaits 3 with
  | some i => if i.quiet then (s.injFlag, bad) else (s.injFlag.crcRetry i.left, bad || decide (i.left = 5))
  | none => (s, bad)

/-- The ECC error of a switch buffer cell, 1 corrected, 2 uncorrectable: an injection of SRAM_ECC that waits inverts one or two of its check bits (R459). -/
def State.sramCell (s : State) (ecc : Nat) : State × Nat :=
  match s.injWaits 1 with
  | some i => (s.injFlag, if i.quiet then ecc else max ecc (i.unit + 1))
  | none => (s, ecc)

/-- A frame hit by an uncorrectable error goes with all its copies; line 17, or line 18 for a cell in DRAM (R313, R314).  At an output that none of its cells has
reached its FSEQ stays awaited until it is skipped (R300). -/
def State.eccFrame (s : State) (f : SwFrame) (dram : Bool) : State :=
  let s := if dram then s.dramUncorr
           else ((s.bump R.BUF_ECC_UNCORR_COUNT).raise P.BUF E.BUF_ECC_UNCORR).pulse 17
  let gone := f.fseq.filter (fun (e : Nat × Nat) => !f.copies.any (fun c => decide (fabOut c.dst = e.1 ∧ 0 < c.cells)) && f.copies.any (fun c => decide (fabOut c.dst = e.1)))
  let g : SwFrame := { f with fseq := f.fseq.filter (fun (e : Nat × Nat) => !gone.contains e) }
  let s := s.putSwFrame g
  { s with sw := { s.sw with lost := gone.map (fun (e : Nat × Nat) => (fseqKey f.input e.1 f.cls, e.2, f.input, f.fid)) ++ s.sw.lost } }.dropFrame g

/-- A cell reaches the resequencer of an output, or DRAM, for one queue (R295, R298, R299); a frame whose last cell carries ST 1 or 2 goes no further than DRAM's
path (R307, R312). -/
def State.takeCell (s0 : State) (out q : Nat) (c : Cell) (ecc0 : Nat) : State :=
  let (s1, ecc) := s0.sramCell ecc0
  let (s, bad) : State × Bool := if q = 25 then s1.dramTransfer false else (s1, false)
  let s := if ecc = 1 then s.bump R.BUF_ECC_CORR_COUNT else s
  let hit (k : Copy) : Bool := if q = 25 then k.spilled else decide (k.dst = q) && !k.spilled
  match s.swFrame c.input c.fid with
  | none => if s.sw.skipped.contains (out, c.input, c.fid) then s.bump R.SWF_RESEQ_LATE_COUNT else s
  | some f =>
    if !f.copies.any hit then (if s.sw.skipped.contains (out, c.input, c.fid) then s.bump R.SWF_RESEQ_LATE_COUNT else s)
    else if ecc = 2 ∨ bad then s.eccFrame f (decide (ecc ≠ 2))
    else
      let g : SwFrame := { f with copies := f.copies.map (fun k => if hit k then { k with cells := k.cells + 1, entered := decide (q ≠ 25), last := k.last || c.last } else k) }
      let s := s.putSwFrame g
      if q ≠ 25 ∨ !g.copies.any (fun k => k.spilled && decide (k.cells = f.total)) then s.showBuf
      else if f.st ≠ 0 then ((s.dropCopies g (fun k => k.spilled)).tidy)
      else (s.bump R.BUF_SPILLED_COUNT).showBuf

/-- The coupling behind a fabric output takes a group now; output 7 has none (R15 to R17, R296). -/
def State.outOpen (s : State) (out : Nat) : Bool := decide (out = 7) || s.linkOpen islSW (if out = 6 then islMGT else 8 + out) 0

/-- CELL_ARRIVAL (R295 to R300, R313): in a slot the bank connected to an output sends the cell that R297 chooses, and the cell crosses the coupling to the
resequencer; `ecc` 1 corrected, 2 uncorrectable. -/
def execCellArrival (output slot ecc : Nat) (s : State) : Host.Outcome State Fault Refusal :=
  withUnit output 8 (
    if !s.up islSW ∨ !s.outOpen output ∨ slot < s.sw.slot ∨ slot < kvGetD s.sw.sent output 0 then s
    else
      let s := s.toSlot slot
      let s := { s with sw := { s.sw with sent := kvPut s.sw.sent output (slot + 1) } }
      let bank := (output + slot) % 8
      match s.pickCell bank output with
      | none => s
      | some (q, cls, w) =>
        let key := 208 * bank + 8 * q + cls
        match kvGetD w.banks key [] with
        | [] => s
        | c :: rest => { s with sw := { w with banks := kvPut w.banks key rest } }.takeCell output q c ecc)

/-- FRAME_RELEASE (R298, R312): all cells of the frame are present at an output and the frames before it are done; a frame whose last cell carries ST 1 or 2 is
discarded there. -/
def execFrameRelease (output input fid : Nat) (s : State) : Host.Outcome State Fault Refusal :=
  withUnit output 7 (
    match s.swFrame input fid with
    | none => s
    | some f =>
      let key := fseqKey input output f.cls
      let mine (c : Copy) : Bool := decide (fabOut c.dst = output) && !c.spilled
      match f.fseq.find? (fun (e : Nat × Nat) => decide (e.1 = output)) with
      | none => s
      | some (_, v) =>
        let whole := f.copies.any mine && f.copies.all (fun c => !mine c || (decide (c.cells = f.total) && !c.ready))
        if !whole ∨ kvGetD s.sw.waiting key 0 ≠ v then s
        else if f.st ≠ 0 then (s.dropCopies f mine).tidy
        else (((s.putSwFrame { f with copies := f.copies.map (fun c => if mine c then { c with ready := true } else c) }).seqDone key v).endSpill).showBuf)

/-- An FSEQ is skipped (R300); cells of the frame that arrive later are counted. -/
def State.skip (s : State) (out input fid : Nat) : State :=
  let s := (s.bump R.SWF_RESEQ_SKIP_COUNT).raise P.SWF E.SWF_RESEQ_SKIP
  { s with sw := { s.sw with skipped := (out, input, fid) :: s.sw.skipped.filter (fun (e : Nat × Nat × Nat) => s.sw.holds e.2.1 e.2.2) } }

/-- RESEQ_SKIP (R300): an output has awaited an FSEQ for `us` µs with no cell of its frame. -/
def execReseqSkip (output input cls us : Nat) (s : State) : Host.Outcome State Fault Refusal :=
  withUnit output 7 (
    let key := fseqKey input output cls
    let v := kvGetD s.sw.waiting key 0
    let next := kvGetD s.sw.fseq key 0
    if v = next ∨ us < min 1000 (max 1 (s.get R.SWF_RESEQ_TMO_US)) then s
    else
      match s.sw.frames.find? (fun f => decide (f.input = input ∧ f.cls = cls) && f.fseq.contains (output, v)) with
      | some f =>
        let mine (c : Copy) : Bool := decide (fabOut c.dst = output)
        if f.copies.any (fun c => mine c && decide (0 < c.cells)) then s
        else ((s.skip output input f.fid).dropCopies f mine).tidy
      | none =>
        let s := match s.sw.lost.find? (fun (e : Nat × Nat × Nat × Nat) => decide (e.1 = key ∧ e.2.1 = v)) with
          | some e => { s.skip output input e.2.2.2 with sw := { (s.skip output input e.2.2.2).sw with lost := s.sw.lost.erase e } }
          | none => (s.bump R.SWF_RESEQ_SKIP_COUNT).raise P.SWF E.SWF_RESEQ_SKIP
        s.seqDone key v)

/-- SPILL_REISSUE (R307): DRAM re-issues the oldest spilled frame of a queue, as fabric input 7 before the given slot, once it is in DRAM whole and room and order
permit; `ecc`: the spilled cells meet an uncorrectable error (R313).  The re-issued copy is a frame of its own, named by its first input and FID and its
destination. -/
def execSpillReissue (dst cls slot : Nat) (ecc : Bool) (s : State) : Host.Outcome State Fault Refusal :=
  withUnit dst 25 (
    let s := s.toSlot slot
    match (s.queue dst cls).find? (fun f => f.copies.any (fun c => decide (c.dst = dst) && c.spilled)) with
    | none => s
    | some f =>
      let before := (s.queue dst cls).takeWhile (fun g => !g.is f.input f.fid)
      let clear := before.all (fun g => g.copies.all (fun c => decide (c.dst ≠ dst) || c.ready))
      let whole := f.copies.all (fun c => decide (c.dst ≠ dst) || decide (c.cells = f.total))
      if !clear ∨ !whole ∨ s.cget f.gen R.BUF_SPILL_AT_CELLS ≤ 2 * s.queueCells dst cls true then s
      else
        let (s, bad) := s.dramTransfer ecc
        if bad then s.eccFrame f true else
        let out := fabOut dst
        let v := kvGetD s.sw.fseq (fseqKey 7 out cls) 0
        let g : SwFrame := { f with input := 7, fid := f.fid + 2 ^ 20 * f.input + 2 ^ 23 * dst, fseq := [(out, v)],
                                    copies := (f.copies.filter (fun c => decide (c.dst = dst))).map (fun c => { c with spilled := false, issued := false, cells := 0, last := false }) }
        let f' := { f with copies := f.copies.filter (fun c => decide (c.dst ≠ dst)) }
        let fr := s.sw.frames.flatMap (fun x => if x.is f.input f.fid then [g, f'] else [x])
        { s with sw := { s.sw with frames := fr, fseq := kvPut s.sw.fseq (fseqKey 7 out cls) ((v + 1) % 4096) } }.tidy.queueCellsIn g)

/-! ## Ageing, port down, disable (R309 to R312) -/

/-- AGED (R310): the queue reaches a copy older than MAX_AGE whose first cell has not entered the resequencing buffer. -/
def execAged (dst cls : Nat) (s : State) : Host.Outcome State Fault Refusal :=
  withUnit dst 25 (
    match s.queue dst cls with
    | [] => s
    | f :: _ =>
      let a := s.cget f.gen R.BUF_MAX_AGE_MS
      if a = 0 ∨ f.copies.any (fun c => decide (c.dst = dst) && c.entered) ∨ s.ax.mark - f.admT < a * msU - msU then s
      else
        let s := ((s.bump R.BUF_AGED_COUNT).set R.BUF_AGE_LAST_PORT dst).set R.BUF_AGE_LAST_CLASS cls
        let s := (s.raise P.BUF E.BUF_AGED).descResult f 4
        (s.dropCopies f (fun c => decide (c.dst = dst))).tidy)

/-- A destination's queues are emptied (R309); each copy counts in TX_Q_FLUSH of its port. -/
def State.flushQueues (s : State) (dst : Nat) : State :=
  let l := s.sw.frames.filter (fun f => f.copies.any (fun c => decide (c.dst = dst)))
  let s := l.foldl (fun t f =>
    let t := if dst < 24 then t.sta dst 16 1 else t
    (t.descResult f 4).dropCopies f (fun c => decide (c.dst = dst))) s
  s.tidy

/-- A frame whose cells are still arriving ends with the next cell: LAST with ST 2 (R312). -/
def State.abortFrame (s : State) (f : SwFrame) : State :=
  let l := kvGetD s.sw.issue f.input []
  match l.find? (fun c => decide (c.fid = f.fid)) with
  | none => s
  | some h =>
    let cut (c : Cell) : Option Cell := if c.fid ≠ f.fid then some c else if c = h then some { h with last := true } else none
    let s := s.putSwFrame { f with st := 2, total := h.idx + 1 }
    { s with sw := { s.sw with issue := kvPut s.sw.issue f.input (l.filterMap cut) } }

/-- A coach is shunted, fenced or reset: its frames whose cells are still arriving get ST 2, and its carriages for the switch arrive no more (R312). -/
def State.abortInput (s : State) (c : Nat) : State :=
  let l := s.sw.frames.filter (fun f => decide (f.input = c) && f.used.isNone)
  let x := s.coachOf c
  (l.foldl State.abortFrame s).putCoach c { x with toSw := [], cars := x.cars.filter (fun (k : Carriage) => decide (k.stage ≠ .forward)) }

/-- PG_STAT.BUSY of the SWF page: it clears when the last frame past its point of no return is gone (R311). -/
def State.showSwBusy (s : State) : State :=
  if s.flag (R.PG_CTRL_EN P.SWF) then s else s.setFlag (R.PG_STAT_BUSY P.SWF) (decide (s.sw.frames.any (fun f => f.copies.any (fun c => !c.ready))))

/-- Switching stops before a slot of the fabric (R311, R452): a frame is past its point of no return once its first cell has been issued into stage 1 toward a coach
or MGT; the others are discarded. -/
def State.switchHalt (s : State) (slot : Nat) : State :=
  let s := s.toSlot slot
  let l := s.sw.frames.filter (fun f => !f.copies.any (fun c => c.issued && !c.spilled))
  ((l.foldl (fun t f => (t.bump R.SWF_DIS_DROP_COUNT).dropCopies f (fun _ => true)) s).tidy).showSwBusy

/-- SWF.PG_CTRL.EN cleared (R311). -/
def State.switchOff (s : State) (slot : Nat) : State := (s.setFlag (R.PG_CTRL_EN P.SWF) false).switchHalt slot

/-- SWITCH_DISABLE (R311). -/
def execSwitchDisable (m : Master) (slot : Nat) (s : State) : Host.Outcome State Fault Refusal :=
  .next (s.hostWrite m (R.PG_CTRL P.SWF) fun s => if s.flag (R.PG_CTRL_EN P.SWF) then s.switchOff slot else s)

/-! ## The egress scheduler (R289, R331) -/

/-- FC_OBEY as it acts under a generation (R282). -/
def State.fcObey (s : State) (g p : Nat) : Nat :=
  if s.flag (R.PRT_STATUS_FC_REFUSED p) then 0 else if s.cget g (R.PRT_CFG_FC_OBEY p) = 3 then 0 else s.cget g (R.PRT_CFG_FC_OBEY p)

/-- A pause holds the class at an instant (R282). -/
def State.paused (s : State) (p cls : Nat) (t : Int) : Bool := decide (s.fcObey (s.get R.GEN_IN_FORCE_GEN) p ≠ 0) && (s.portOf p).pause.any (fun (e : Nat × Int) => decide (e.1 = cls) && decide (t < e.2))

/-- SEAL's correction of a transparent-clock forward: the residence time in 2^-16 ns (R289). -/
def tcCorrect (f : Frame) (r : Int) : Frame :=
  match f.body with
  | .ptp msg => { f with body := .ptp { msg with corr := msg.corr + r } }
  | _ => f

/-- The head of a queue that has been released to the port. -/
def State.headOf (s : State) (p cls : Nat) : Option SwFrame :=
  match s.queue p cls with
  | [] => none
  | f :: _ => if f.copies.any (fun c => decide (c.dst = p) && c.ready) then some f else none

/-- The crossing of a class 7 frame (R308). -/
def State.expCross (s : State) (f : SwFrame) (land : Int) : State :=
  if f.cls ≠ 7 ∨ f.origin ≠ 0 then s
  else
    let d := land - (f.ingT + ofPs (s.cdelay f.gen (R.PRT_DELAY_RX_PS f.portIn)))
    let ns := min 4095 (d / nsU).toNat
    let s := if s.get R.SWF_EXP_MAX_NS < ns then s.set R.SWF_EXP_MAX_NS ns else s
    if 1200 * nsU < d then (s.bump R.SWF_EXP_OVER_COUNT).raise P.SWF E.SWF_EXP_OVER else s

/-- An ordinary frame is sent with its timestamp point at the land at `land`. -/
def State.sendOrdinary (s : State) (p : Nat) (f : SwFrame) (land : Int) : State :=
  let outer := land + ofPs (s.cdelay f.gen (R.PRT_DELAY_TX_PS p))
  let tc := decide (f.verdict = 1)
  let fr := if tc then tcCorrect f.frame (nearQ (outer - f.ingT) 4294967296) else f.frame
  let s := s.expCross f land
  let s := (s.dropCopies f (fun c => decide (c.dst = p))).tidy
  let s := s.sendGood p fr land
  let s := if tc then s.sta p 19 1 else s
  let s := match f.desc with
    | some (q, idx, ts) =>
      if ts then
        let x := s.portOf p
        (s.putPort p { x with awaits := x.awaits ++ [(q, idx)] }).tsfStore p outer idx q 2
      else s.txResult q idx 0 0
    | none => s
  s.showSwBusy

/-- FRAME_TRANSMIT (R289, R298, R313, R331): the scheduler sends the head of an egress queue with its timestamp point at the stamp; nothing is sent that would
overlap a reservation or that a pause holds, and a frame to the port of a lost coach is discarded (R28). `ecc`: 1 a corrected error in its cells, 2 an uncorrectable one. -/
def execFrameTransmit (port cls ecc : Nat) (st : Stamp) (s : State) : Host.Outcome State Fault Refusal :=
  withUnit port 24 (
    let land := s.stampOf (9 + 2 * port) st
    match s.headOf port cls with
    | none => s
    | some f =>
      let span := wireSpan (s.portMode port) f.frame.len land
      if !s.portUp port ∨ s.paused port cls land ∨ (s.reserved port).any (fun r => spansMeet span r) then s
      else if s.coachLost (port / 4) then (((s.descResult f 2).sta port 17 1).dropCopies f (fun c => decide (c.dst = port))).tidy
      else if s.staleGen f.gen then ((s.bump R.GEN_STALE_DROP_COUNT).dropCopies f (fun c => decide (c.dst = port))).tidy
      else
        let s := if ecc = 1 then s.bump R.BUF_ECC_CORR_COUNT else s
        if ecc = 2 then s.eccFrame f false else s.sendOrdinary port f land)

/-! ## DRAM (R314) -/

/-- DRAM_TRANSFER_ERROR (R314): a transfer fails its CRC `fails` times in a row, or meets an ECC error (1 corrected, 2 uncorrectable); in the spill region the
frame of the transfer goes. -/
def execDramTransferError (fails ecc : Nat) (spill : Option (Nat × Nat)) (s : State) : Host.Outcome State Fault Refusal :=
  .next (
    if !s.up islSW then s
    else
      let s := s.crcRetry (min fails 4)
      let s := if ecc = 1 then s.bump R.DRM_ECC_CORR_COUNT else s
      if 5 ≤ fails ∨ ecc = 2 then
        match spill.bind (fun (e : Nat × Nat) => s.swFrame e.1 e.2) with
        | some f => s.eccFrame f true
        | none => s.dramUncorr
      else s)

/-- THROTTLE (R314, R319): the stack temperature, in 2^-10 degrees, is taken, and crosses 85 °C; `load`: the bandwidth used over the last 1 ms, in 0.1 %. -/
def execThrottle (temp : Int) (load : Nat) (s : State) : Host.Outcome State Fault Refusal :=
  .next (
    if !s.up islSW then s
    else
      let on := decide (85 * 1024 < temp)
      let s := (s.setS R.DRM_TEMP_T temp).set R.DRM_LOAD_PERMILLE (min 1000 load)
      if s.flag R.DRM_STATUS_THROTTLE = on then s else (s.setFlag R.DRM_STATUS_THROTTLE on).level P.DRM E.DRM_THROTTLE on)

end Sys2Proof.Machine
end

