-- ==== Sys2Proof/Machine/Keys.lean ====
section
/-! DEFINITION.
The key vault: life cycle, slots and versions, KEY.CMD, key store and restart, PTP key map, NTS cookies and attestation (R372 to R402).
-/
namespace Sys2Proof.Machine
open Sys2Proof

/-! ## Byte strings -/

/-- The four bytes of a data word, first byte in bits 31:24. -/
def wordBytes (w : Word) : List Nat := bytesBE 4 (w.toNat % 2 ^ 32)

/-- A byte string as a number, first byte most significant. -/
def ofBytes (l : List Nat) : Nat := l.foldl (fun z b => z * 256 + b % 256) 0

/-- A byte string packed four bytes a word, the last word zero-filled. -/
def packWords (l : List Nat) (n : Nat) : List Word := (List.range n).map (fun i => BitVec.ofNat 36 (ofBytes ((List.range 4).map (fun j => l.getD (4 * i + j) 0))))

/-- A byte string packed five bytes a word, the last word zero-filled (R385). -/
def packFive (l : List Nat) : List Word :=
  (List.range ((l.length + 4) / 5)).map (fun i => BitVec.ofNat 36 (ofBytes ((List.range 5).map (fun j => l.getD (5 * i + j) 0))))

/-- The first `n` bytes of a string, zero-filled. -/
def takeBytes (l : List Nat) (n : Nat) : List Nat := (List.range n).map (fun i => l.getD i 0 % 256)

/-! ## Life-cycle state (R372, R374) -/

/-- The state: the highest fuse programmed. -/
def State.lcs (s : State) : Nat := ((List.range 5).filter (fun k => bitOn s.key.fuses k)).getLast?.getD 0

/-- The root in force (R372). -/
def State.root (s : State) : Option Nat :=
  match s.lcs with
  | 0 => some Config.testRoot
  | 1 => s.key.owner
  | 2 => s.key.owner
  | 3 => some Config.rmaRoot
  | _ => none

/-- LCY.STATE and ATT.STATUS.MODE. -/
def State.showLcy (s : State) : State :=
  let r := match s.lcs with
    | 0 => 1
    | 1 => 2
    | 2 => 2
    | 3 => 3
    | _ => 0
  ((s.set R.LCY_STATE_STATE s.lcs).set R.LCY_STATE_ROOT r).set R.ATT_STATUS_MODE s.key.attMode

/-- The info string of R376. -/
def hkdfInfo (purpose usage label : Nat) : List Nat := [0x47, 0x5A, 0x58, purpose, usage] ++ bytesBE 16 label

/-- The storage key of a root (R376). -/
def storageKey (root : Nat) : Nat := Config.hkdf root 0 (hkdfInfo 2 0 0) 32

/-- The order of P-384. -/
abbrev p384 : Nat := 39402006196394479212279040100143613805079739270465446667946905279627659399113263569398956308152294913554433653942643

/-- The identity private key (R376); none where the state has no identity (R372). -/
def State.identity (s : State) : Option Nat :=
  let d (r : Nat) : Nat := Config.hkdf r 0 (hkdfInfo 3 0 0) 56 % (p384 - 1) + 1
  match s.lcs with
  | 0 => some (d Config.testRoot)
  | 1 => some (d Config.devRoot)
  | 2 => some (d Config.devRoot)
  | _ => none

/-- ATT.PUBKEY: the identity's public key while KV holds it, else 0 (R401). -/
def State.showPub (s : State) : State :=
  let b : List Nat := match s.identity with
    | some d => if s.key.alive then bytesBE 48 (Config.pubKey d).1 ++ bytesBE 48 (Config.pubKey d).2 else []
    | none => []
  ((packWords b 24).zipIdx).foldl (fun t (p : Word × Nat) => t.wr (R.ATT_PUBKEY p.2) p.1) s

/-! ## Slot attributes (R377) -/

def attrSpp (a : Nat) : Nat := a / 2 ^ 18 % 256
def attrAlg (a : Nat) : Nat := a / 2 ^ 17 % 2
def attrPersist (a : Nat) : Bool := bitOn a 16
def attrLcs (a k : Nat) : Bool := bitOn a (11 + k)
def attrOps (a : Nat) : Bool := bitOn a 10
def attrUsage (a : Nat) : Nat := a % 32

/-- The bit of MASTERS of a master; 8 is the pipeline, 9 the GNSS engine. -/
def masterBit (m : Master) : Nat :=
  match m with
  | .pf0 => 5
  | .pf1 => 6
  | .spi => 7

/-- Exactly one USAGE bit, and ALG only with PTP_ICV (R377). -/
def attrOk (a : Nat) : Bool := [1, 2, 4, 8, 16].contains (attrUsage a) && (decide (attrAlg a = 0) || decide (attrUsage a = 4))

/-- The number of the USAGE bit. -/
def usageBit (a : Nat) : Nat := ((List.range 5).filter (fun k => bitOn a k)).headD 0

/-- Key lengths by usage (R377). -/
def keyLen (a : Nat) : Nat := if attrUsage a = 8 then 48 else if attrUsage a = 4 ∧ attrAlg a = 1 then 16 else 32

/-- The KCV of a key (R381). -/
def kcvOf (key : Nat) : Nat := Config.hmac384 key [0x4B, 0x43, 0x56] / 2 ^ 348 % 2 ^ 36

/-! ## Slots -/

def State.slotK (s : State) (k : Nat) : KeySlot := kvGetD s.key.slots k .init

/-- Slots IN_USE, in KEY.STATUS. -/
def State.showKeys (s : State) : State := s.set R.KEY_STATUS_IN_USE ((s.key.slots.filter (fun p => decide (p.2.st = 1))).length)

def State.putSlotK (s : State) (k : Nat) (x : KeySlot) : State := { s with key := { s.key with slots := kvPut s.key.slots k x } }.showKeys

/-- A KEY record of R466. -/
def State.keyRec (s : State) (slot what ver st : Nat) : State := s.trig islKV 0x80 [slot, what, ver, st]

/-- A KEY event with its record. -/
def State.keyEvt (s : State) (bit slot ver : Nat) : State := (s.raise P.KEY bit).keyRec slot bit ver 0

/-- The number of a slot's next version (R379). -/
def KeySlot.nextNum (x : KeySlot) : Nat :=
  let held := (x.act.toList ++ x.old.toList ++ x.gone).map (·.num)
  let from_ := match x.act with
    | some v => v.num
    | none => 0
  ((List.range 255).map (fun i => (from_ + i) % 255 + 1)).find? (fun n => !held.contains n) |>.getD 1

/-- The slot may be used by the holder of a MASTERS bit in the life-cycle state in force (R378). -/
def State.usable (s : State) (x : KeySlot) (bit : Nat) : Bool := decide (x.st = 1) && bitOn x.attr bit && attrLcs x.attr s.lcs

/-- The versions the pipeline finds in a slot: ACTIVE, and RETIRING until its grace ends. -/
def KeySlot.live (x : KeySlot) : List KeyVer := x.act.toList ++ (if x.draining then [] else x.old.toList)

/-- The PTP key map (R387): slot, version, algorithm and key of an (SPP, keyID) pair. -/
def State.ptpKey (s : State) (spp keyId : Nat) : Option (Nat × KeyVer × Nat) :=
  s.key.slots.findSome? (fun p =>
    let x := p.2
    if attrUsage x.attr = 4 ∧ s.usable x 8 ∧ attrSpp x.attr = spp then (x.live.find? (fun v => decide (v.keyId = keyId))).map (fun v => (p.1, v, attrAlg x.attr))
    else none)

/-- The slot's ACTIVE version for a pipeline carriage of ORIGIN 1 (R339). -/
def State.slotActive (s : State) (k : Nat) : Option (KeyVer × Nat × Nat) :=
  let x := s.slotK k
  if attrUsage x.attr = 4 ∧ s.usable x 8 then x.act.map (fun v => (v, attrAlg x.attr, attrSpp x.attr)) else none

/-! ## Cookies (R388 to R390) -/

/-- A cookie of 100 bytes from its slot, version, key, nonce and the 66-byte plaintext. -/
def makeCookie (slot ver key : Nat) (nonce plain : List Nat) : List Nat :=
  [slot, ver] ++ takeBytes nonce 16 ++ takeBytes (Config.sivSeal key [[slot, ver], takeBytes nonce 16] plain) 82

/-- The plaintext of a cookie: the algorithm, C2S and S2C. -/
def cookiePlain (c2s s2c : Nat) : List Nat := bytesBE 2 0x000F ++ bytesBE 32 c2s ++ bytesBE 32 s2c

/-- A cookie opened (R389): slot, the version for new cookies, C2S and S2C. -/
def State.openCookie (s : State) (c : List Nat) : Option (Nat × KeyVer × KeyVer × Nat × Nat) :=
  let k := c.getD 0 0
  let x := s.slotK k
  if attrUsage x.attr = 1 ∧ s.usable x 8 then
    match x.live.find? (fun v => decide (v.num = c.getD 1 0)), x.act with
    | some v, some a =>
      match Config.sivOpen v.key [c.take 2, (c.drop 2).take 16] (c.drop 18) with
      | some p => if ofBytes (p.take 2) = 0x000F then some (k, v, a, ofBytes ((p.drop 2).take 32), ofBytes ((p.drop 34).take 32)) else none
      | none => none
    | _, _ => none
  else none

/-! ## Pins (R383) -/

/-- A pin or release message sets out from a coach to KV (R383). -/
def State.sendPin (s : State) (c : Nat) (pin : Bool) (slot ver : Nat) : State := { s with key := { s.key with msgs := s.key.msgs ++ [(c, pin, slot, ver)] } }

/-- A version holds pins: those that KV has counted, or one whose message is on its way, so that no arrival decides (R27; log entry 24). -/
def State.pinned (s : State) (slot : Nat) (v : KeyVer) : Bool := decide (0 < v.pins) || s.key.msgs.any (fun q => decide (q.2 = (true, slot, v.num)))

/-- A version by slot and number, however it stands. -/
def State.verOf (s : State) (slot num : Nat) : Option KeyVer :=
  let x := s.slotK slot
  (x.act.toList ++ x.old.toList ++ x.gone).find? (fun v => decide (v.num = num))

/-- The pin count of a version moved. -/
def KeySlot.bumpPin (x : KeySlot) (ver : Nat) (up : Bool) : KeySlot :=
  let f (v : KeyVer) : KeyVer := if v.num = ver then { v with pins := if up then v.pins + 1 else v.pins - 1 } else v
  { x with act := x.act.map f, old := x.old.map f, gone := x.gone.map f }

/-- KV takes the oldest message of a coach, where it is a pin or a release as named: the coupling keeps their order (R15). -/
def State.takePin (s : State) (c : Nat) (pin : Bool) : State :=
  match s.key.msgs.find? (fun q => decide (q.1 = c)) with
  | some (_, p, slot, ver) =>
    if p = pin ∧ s.linkOpen (8 + c) islKV 0 then
      { s with key := { s.key with msgs := s.key.msgs.erase (c, p, slot, ver) } }.putSlotK slot ((s.slotK slot).bumpPin ver pin)
    else s
  | none => s

/-- KEY_PIN (R383). -/
def execKeyPin (coach : Nat) (s : State) : Host.Outcome State Fault Refusal := withUnit coach 6 (s.takePin coach true)

/-- KEY_RELEASE (R383). -/
def execKeyRelease (coach : Nat) (s : State) : Host.Outcome State Fault Refusal := withUnit coach 6 (s.takePin coach false)

/-! ## Loading and zeroization (R386, R392) -/

/-- A slot zeroized: every version is gone, and versions with pins drain (R393). -/
def State.wiped (s : State) (k : Nat) : KeySlot :=
  let x := s.slotK k
  { x with st := 5, pend := none, verified := false, act := none, old := none, draining := false, graceEnd := none,
           gone := (x.gone ++ x.act.toList ++ x.old.toList).filter (s.pinned k) }

/-- The wrapped keys of a KEY record: byte counts of each, and the bytes from word 6 on (R385). -/
def wrapLen (a : Nat) : Nat := (keyLen a + 7) / 8 * 8 + 8

def recBytes (ws : List Word) : List Nat := ws.flatMap (fun w => bytesBE 5 w.toNat)

/-- A slot from its newest committed record (R386). -/
def State.slotOfRec (s : State) (r : NvRec) : KeySlot × Bool :=
  let w (i : Nat) : Nat := (r.payload.getD i 0).toNat
  let attr := w 1
  let base : KeySlot := { KeySlot.init with attr := attr, grace := w 2 % 2 ^ 24 }
  if !attrLcs attr s.lcs then ({ base with st := 3 }, false)
  else
    let n := wrapLen attr
    let b := recBytes (r.payload.drop 6)
    match s.root with
    | none => ({ base with st := 4 }, true)
    | some root =>
      let sk := storageKey root
      let prev := w 0 / 2 ^ 16 % 256
      match Config.keyUnwrap sk (b.take n) with
      | none => ({ base with st := 4 }, true)
      | some (k, _) =>
        let v : KeyVer := { num := w 0 / 2 ^ 8 % 256, key := k, keyId := w 3 % 2 ^ 32, kcv := w 5, pins := 0 }
        let old : Option KeyVer :=
          if prev = 0 then none
          else (Config.keyUnwrap sk ((b.drop n).take n)).map (fun e => { num := prev, key := e.1, keyId := w 4 % 2 ^ 32, kcv := kcvOf e.1, pins := 0 })
        ({ base with st := 1, act := some v, old := old, graceEnd := if old.isSome then some (-1) else none }, false)

/-- The newest committed KEY record of each slot, oldest record first. -/
def State.keyRecs (s : State) : List (Nat × NvRec) :=
  ((s.committed .keyStore).filter (fun r => decide (r.type = 2))).foldl (fun m r => kvPut m ((r.payload.getD 0 0).toNat % 256) r) []

/-- KV loads every persistent slot (R386); a grace of a restored RETIRING version runs from the first AXMARK after ROLLING entry (`graceEnd` -1). A record whose
commit word is missing counts as a rollback. -/
def State.keyLoadAll (s : State) : State :=
  let drain := (s.key.slots.filter (fun p => p.2.gone ≠ [])).map (fun p => (p.1, { KeySlot.init with gone := p.2.gone }))
  let s := { s with key := { s.key with slots := drain, alive := true, tampered := false } }
  let cut := (s.nvm.keyStore.recs.filter (fun r => decide (r.type = 2 ∧ r.state = .uncommitted))).length
  let s := (List.range cut).foldl (fun t _ => (t.bump R.KEY_ROLLBACKS_COUNT).keyEvt E.KEY_KEY_ROLLBACK 0 0) s
  let s := s.keyRecs.foldl (fun t (p : Nat × NvRec) =>
    if (p.2.payload.getD 0 0).toNat / 2 ^ 32 ≠ 1 then t
    else
      let x := t.slotOfRec p.2
      let t := t.putSlotK p.1 { x.1 with gone := (t.slotK p.1).gone }
      if x.2 then t.keyEvt E.KEY_UNREADABLE p.1 0 else t) s
  (((s.set R.KEY_STATUS_ZEROIZED 0).set R.KEY_STATUS_SUPPRESSED 0).showKeys).showPub

/-- A zeroization is shown, counted, raised and recorded (R392, R399, R402). -/
def State.showZeroized (s : State) (slot : Nat) : State := ((s.set R.KEY_STATUS_ZEROIZED 1).bump R.KEY_ZEROIZES_COUNT).keyEvt E.KEY_ZEROIZED slot 0

/-- KV's slots are cleared (R373), and by tamper its secrets too (R392). -/
def State.zeroize (s : State) (tamper : Bool) : State :=
  let s := { s with key := { s.key with slots := (List.range 256).map (fun k => (k, s.wiped k)), alive := s.key.alive && !tamper, tampered := s.key.tampered || tamper } }
  (s.showZeroized 0).showKeys.showPub

/-! ## The masters' registers (R378, R380) -/

/-- A field of a register held per master. -/
def State.keyGet (s : State) (m : Master) (f : Fld) : Nat :=
  f.of (match kvGet (s.mst m).key f.slot with
    | some v => v
    | none => regReset f.slot)

def State.keySet (s : State) (m : Master) (f : Fld) (n : Nat) : State :=
  let x := s.mst m
  let w := match kvGet x.key f.slot with
    | some v => v
    | none => regReset f.slot
  let v := f.put w n
  s.putMst m { x with key := if v = regReset f.slot then kvDel x.key f.slot else kvPut x.key f.slot v }

/-- A word of the master's data buffer. -/
def State.bufWord (s : State) (m : Master) (i : Nat) : Word := kvGetD (s.mst m).keyBuf i 0

def State.putBuf (s : State) (m : Master) (ws : List Word) : State :=
  ws.zipIdx.foldl (fun t (p : Word × Nat) => t.putMst m { t.mst m with keyBuf := kvPut (t.mst m).keyBuf p.2 p.1 }) s

/-- The first `n` bytes of the buffer. -/
def State.bufBytes (s : State) (m : Master) (n : Nat) : List Nat := takeBytes ((List.range ((n + 3) / 4)).flatMap (fun i => wordBytes (s.bufWord m i))) n

/-- KEY.CMD completes. -/
def State.keyDone (s : State) (m : Master) (st : Nat) : State := (s.keySet m R.KEY_CMD_STATUS st).raise P.KEY E.KEY_CMD_DONE

/-! ## KEY.CMD (R378 to R390) -/

/-- DRBG bytes: a free value, counted as a request (R372). -/
def State.drbg (s : State) : Nat × State :=
  let f := s.takeFree
  (f.1, { f.2 with key := { f.2.key with drbg := f.2.key.drbg + 1 } })

/-- A key source writes PENDING (R380). -/
def State.writePend (s : State) (m : Master) (slot key : Nat) : State :=
  let x := s.slotK slot
  let v : KeyVer := { num := x.nextNum, key := key, keyId := s.keyGet m R.KEY_NEW_KEYID_ID, kcv := kcvOf key, pins := 0 }
  (s.putSlotK slot { x with pend := some v, verified := false }).keyDone m 2

/-- A master's use of a slot of a usage (R378, R380): its ACTIVE version, or the status that the use is refused with. -/
def State.useKey (s : State) (m : Master) (slot usage : Nat) : KeyVer ⊕ Nat :=
  let x := s.slotK slot
  if attrUsage x.attr ≠ usage ∨ x.st ≠ 1 then .inr 14
  else if !bitOn x.attr (masterBit m) then .inr 4
  else if !attrLcs x.attr s.lcs then .inr 13
  else match x.act with
    | some v => .inl v
    | none => .inr 5

/-- The versions of other slots, or the slot itself, that hold an (SPP, keyID) pair (R387). -/
def State.pairHeld (s : State) (spp keyId : Nat) : Bool :=
  s.key.slots.any (fun p => decide (attrUsage p.2.attr = 4 ∧ p.2.st = 1 ∧ attrSpp p.2.attr = spp) && bitOn p.2.attr 8 && attrLcs p.2.attr s.lcs &&
    p.2.live.any (fun v => decide (v.keyId = keyId)))

/-- The KEY record of a COMMIT (R385). -/
def commitPayload (slot : Nat) (x : KeySlot) (v : KeyVer) (root : Nat) : List Word :=
  let sk := storageKey root
  let n := wrapLen x.attr
  let wrap (k : Nat) : List Nat := bytesBE n (Config.keyWrap sk k (keyLen x.attr))
  let pv := match x.act with
    | some a => (a.num, a.keyId, wrap a.key)
    | none => (0, 0, [])
  [BitVec.ofNat 36 (2 ^ 32 + pv.1 * 2 ^ 16 + v.num * 2 ^ 8 + slot), BitVec.ofNat 36 x.attr, BitVec.ofNat 36 x.grace, BitVec.ofNat 36 v.keyId, BitVec.ofNat 36 pv.2.1,
   BitVec.ofNat 36 v.kcv] ++ packFive (wrap v.key ++ pv.2.2)

/-- A KEY record is written (R385); it needs the storage key. -/
def State.writeKeyRec (s : State) (payload : List Word) (ok : Bool) : State × Bool := s.nvWrite .keyStore 0x02 payload ok

/-- The plaintext that MINT seals: the data, unsealed under the NTS_REC slot where SEALED is 1; or a status (R390). -/
def State.mintPlain (s : State) (m : Master) : List Nat ⊕ Nat :=
  if s.keyGet m R.KEY_MINT_SEALED ≠ 1 then .inl (s.bufBytes m 66)
  else match s.useKey m (s.keyGet m R.KEY_MINT_REC_SLOT) 2 with
    | .inr st => .inr st
    | .inl v =>
      match Config.sivOpen v.key [] (s.bufBytes m 82) with
      | some p => .inl p
      | none => .inr 10

/-- MINT (R390). -/
def State.mintCookies (s : State) (m : Master) (slot : Nat) : State :=
  let n := s.keyGet m R.KEY_MINT_COUNT
  match s.useKey m slot 1, s.mintPlain m with
  | .inr st, _ => s.keyDone m st
  | _, .inr st => s.keyDone m st
  | .inl a, .inl p =>
    if n = 0 ∨ 8 < n ∨ ofBytes (p.take 2) ≠ 0x000F then s.keyDone m 10
    else
      let r := (List.range n).foldl (fun (acc : List Word × State) _ =>
        let d := acc.2.drbg
        (acc.1 ++ packWords (makeCookie slot a.num a.key (bytesBE 16 (d.1 % 2 ^ 128)) (takeBytes p 66)) 25, d.2)) ([], s)
      ((r.2.putBuf m r.1).bumpBy R.KEY_MINTED_COUNT n).keyDone m 2

/-- COMMIT up to the wait for the acknowledgement (R382, R387). -/
def State.startCommit (s : State) (c : KeyCmd) (slot : Nat) : State :=
  let x := s.slotK slot
  match x.pend, s.root with
  | some v, some root =>
    if !x.verified then s.keyDone c.m 5
    else if x.old.isSome then s.keyDone c.m 7
    else if attrUsage x.attr = 4 ∧ s.pairHeld (attrSpp x.attr) v.keyId then s.keyDone c.m 11
    else
      let s := s.keyRec slot 7 v.num 1
      let r := if attrPersist x.attr then s.writeKeyRec (commitPayload slot x v root) c.nvOk else (s, true)
      if r.2 then { r.1 with key := { r.1.key with running := some { c with slot := slot } } } else r.1.keyDone c.m 12
  | _, _ => s.keyDone c.m 5

/-- ERASE up to the next AXMARK (R384). -/
def State.startErase (s : State) (c : KeyCmd) (slot : Nat) : State :=
  let x := s.slotK slot
  if x.st = 0 then s.keyDone c.m 2
  else
    let s := s.keyRec slot 10 0 1
    let r := if attrPersist x.attr then
        s.writeKeyRec [BitVec.ofNat 36 (2 * 2 ^ 32 + slot), BitVec.ofNat 36 x.attr, BitVec.ofNat 36 x.grace] c.nvOk
      else (s, true)
    if r.2 then { r.1 with key := { r.1.key with running := some { c with slot := slot } } } else r.1.keyDone c.m 12

/-- One KEY.CMD in its turn (R378 to R390). -/
def State.keyExec (s : State) (c : KeyCmd) : State :=
  let m := c.m
  let slot := s.keyGet m R.KEY_SEL_SLOT
  let x := s.slotK slot
  let new := s.keyGet m R.KEY_NEW_ATTR_ATTR
  if s.rd R.TMP_LATCH ≠ 0 then s.keyDone m 8
  else if s.key.lcyRun.isSome then s.keyDone m 5
  else if m = .pf1 ∧ c.op ≤ 10 ∧ !attrOps (if c.op = 1 then new else x.attr) then s.keyDone m 3
  else match c.op with
    | 1 =>
      if x.st ≠ 0 then s.keyDone m 5
      else if !attrOk new then s.keyDone m 10
      else (s.putSlotK slot { KeySlot.init with st := 1, attr := new, grace := s.keyGet m R.KEY_NEW_GRACE_S }).keyDone m 2
    | 2 =>
      match x.st, s.root with
      | 1, some r =>
        let d := s.drbg
        d.2.writePend m slot (Config.hkdf r (d.1 % 2 ^ 384) (hkdfInfo 1 (attrUsage x.attr) 0) (keyLen x.attr))
      | _, _ => s.keyDone m 5
    | 3 =>
      let label := ofBytes (s.bufBytes m 16)
      let out (k : Nat) : State := s.writePend m slot (Config.hkdf k 0 (hkdfInfo 1 (attrUsage x.attr) label) (keyLen x.attr))
      if x.st ≠ 1 then s.keyDone m 5
      else if c.src = 0xFF then
        match s.root with
        | some r => out r
        | none => s.keyDone m 5
      else match s.useKey m c.src 16 with
        | .inl v => out v.key
        | .inr st => s.keyDone m st
    | 4 =>
      if x.st ≠ 1 then s.keyDone m 5
      else if attrUsage x.attr = 1 then s.keyDone m 14
      else s.writePend m slot (ofBytes (s.bufBytes m (keyLen x.attr)))
    | 5 =>
      if x.st ≠ 1 then s.keyDone m 5
      else match s.useKey m c.src 16 with
        | .inr st => s.keyDone m st
        | .inl w =>
          match Config.keyUnwrap w.key (s.bufBytes m (wrapLen x.attr)) with
          | some (v, n) => if n = keyLen x.attr then s.writePend m slot v else s.keyDone m 10
          | none => s.keyDone m 10
    | 6 =>
      match x.pend with
      | none => s.keyDone m 5
      | some v =>
        if c.nvOk ∧ (!c.check ∨ v.kcv = s.keyGet m R.KEY_KCV_EXP_KCV) then (s.putSlotK slot { x with verified := true }).keyDone m 2
        else (s.putSlotK slot { x with verified := false }).keyDone m 6
    | 7 => s.startCommit c slot
    | 8 => (s.putSlotK slot { x with pend := none, verified := false }).keyDone m 2
    | 9 => if x.old.isSome ∧ !x.draining then (s.putSlotK slot { x with graceEnd := none }).keyDone m 2 else s.keyDone m 5
    | 10 => s.startErase c slot
    | 11 => s.mintCookies m slot
    | 12 =>
      if m = .pf1 then s.keyDone m 3
      else if s.lcs = 4 then s.keyDone m 5
      else s.keyLoadAll.keyDone m 2
    | _ => s.keyDone m 10

/-- The waiting commands run in arrival order until one stays under way (R378). -/
def State.keyRun (s : State) (l : List KeyCmd) : State :=
  match l with
  | [] => { s with key := { s.key with waiting := [] } }
  | c :: t => if s.key.running.isSome then { s with key := { s.key with waiting := c :: t } } else (s.keyExec c).keyRun t

/-- KEY.CMD is written: busy until its turn, or rejected while a command of the same master runs (R9). -/
def State.keyAsk (s : State) (c : KeyCmd) : State :=
  s.hostWrite c.m R.KEY_CMD fun s =>
    if s.keyGet c.m R.KEY_CMD_STATUS = 1 then s.wcReject c.m R.KEY_CMD
    else (s.keySet c.m R.KEY_CMD_STATUS 1).keyRun (s.key.waiting ++ [c])

/-- A command without operands of its own. -/
def plainCmd (m : Master) (op : Nat) : KeyCmd := { m := m, op := op, src := 0, check := false, nvOk := true, ackAt := 0, slot := 0 }

/-- CREATE (R380). -/
def execKeyCreate (m : Master) (s : State) : Host.Outcome State Fault Refusal := .next (s.keyAsk (plainCmd m 1))
/-- GENERATE (R380). -/
def execKeyGenerate (m : Master) (s : State) : Host.Outcome State Fault Refusal := .next (s.keyAsk (plainCmd m 2))
/-- DERIVE (R380). -/
def execKeyDerive (m : Master) (src : Nat) (s : State) : Host.Outcome State Fault Refusal := .next (s.keyAsk { plainCmd m 3 with src := src })
/-- IMPORT (R380). -/
def execKeyImport (m : Master) (s : State) : Host.Outcome State Fault Refusal := .next (s.keyAsk (plainCmd m 4))
/-- UNWRAP (R380). -/
def execKeyUnwrap (m : Master) (src : Nat) (s : State) : Host.Outcome State Fault Refusal := .next (s.keyAsk { plainCmd m 5 with src := src })
/-- KEY_VERIFY (R381); `agree`: the two engines' results agree. -/
def execKeyVerify (m : Master) (check agree : Bool) (s : State) : Host.Outcome State Fault Refusal :=
  .next (s.keyAsk { plainCmd m 6 with check := check, nvOk := agree })
/-- COMMIT (R382); `nvOk`: the record's commit word is good; `ack`: ticks from the last AXMARK to the last acknowledgement. -/
def execKeyCommit (m : Master) (nvOk : Bool) (ack : Nat) (s : State) : Host.Outcome State Fault Refusal :=
  .next (s.keyAsk { plainCmd m 7 with nvOk := nvOk, ackAt := s.voteTime ack })
/-- DISCARD (R380). -/
def execKeyDiscard (m : Master) (s : State) : Host.Outcome State Fault Refusal := .next (s.keyAsk (plainCmd m 8))
/-- REVOKE (R380): the grace ends at the next AXMARK. -/
def execKeyRevoke (m : Master) (s : State) : Host.Outcome State Fault Refusal := .next (s.keyAsk (plainCmd m 9))
/-- ERASE (R384); `nvOk`: the ERASE record commits. -/
def execKeyErase (m : Master) (nvOk : Bool) (s : State) : Host.Outcome State Fault Refusal := .next (s.keyAsk { plainCmd m 10 with nvOk := nvOk })
/-- MINT (R390). -/
def execKeyMint (m : Master) (s : State) : Host.Outcome State Fault Refusal := .next (s.keyAsk (plainCmd m 11))
/-- RELOAD (R394). -/
def execKeyReload (m : Master) (s : State) : Host.Outcome State Fault Refusal := .next (s.keyAsk (plainCmd m 12))

/-- The command under way completes, and the waiting ones follow. -/
def State.endRunning (s : State) (st : Nat) : State :=
  match s.key.running with
  | some c =>
    let s := ({ s with key := { s.key with running := none } }).keyDone c.m st
    s.keyRun s.key.waiting
  | none => s

/-- ACTIVATED (R382): at the first AXMARK at least 100 µs after the acknowledgement the version becomes ACTIVE and the old one RETIRING. -/
def execActivated (s : State) : Host.Outcome State Fault Refusal :=
  .next (
    match s.key.running with
    | some c =>
      let slot := c.slot
      let x := s.slotK slot
      match x.pend with
      | some v =>
        if c.op ≠ 7 ∨ s.ax.mark < c.ackAt + 100000 * nsU then s
        else
          let x := { x with pend := none, verified := false, act := some v, old := x.act, draining := false,
                            graceEnd := if x.act.isSome then some (s.ax.mark + x.grace * secU) else none }
          ((s.putSlotK slot x).keyEvt E.KEY_ACTIVATED slot v.num).endRunning 2
      | none => s
    | none => s)

/-- A version is freed (R383). -/
def State.freeOld (s : State) (slot : Nat) : State :=
  let x := s.slotK slot
  match x.old with
  | some v => if x.draining ∧ !s.pinned slot v then (s.putSlotK slot { x with old := none, draining := false, graceEnd := none }).keyEvt E.KEY_FREED slot v.num else s
  | none => s

/-- KEY_GRACE_END (R383): the RETIRING version's grace ends; it becomes DRAINING while pins remain. -/
def execKeyGraceEnd (slot : Nat) (s : State) : Host.Outcome State Fault Refusal :=
  withUnit slot 256 (
    let x := s.slotK slot
    let due : Bool := match x.graceEnd with
      | some t => decide (0 ≤ t) && decide (t ≤ s.ax.mark)
      | none => false
    if x.old.isSome ∧ !x.draining ∧ due then (s.putSlotK slot { x with draining := true }).freeOld slot else s)

/-- FREED (R383): the first AXMARK at which the grace has ended and no pin is left. -/
def execFreed (slot : Nat) (s : State) : Host.Outcome State Fault Refusal := withUnit slot 256 (s.freeOld slot)

/-- Versions ended by ERASE or zeroization whose pins have drained are freed (R383, R384). -/
def State.freeGone (s : State) (slot : Nat) : State :=
  let x := s.slotK slot
  let l := x.gone.filter (fun v => !s.pinned slot v)
  if l = [] then s
  else l.foldl (fun t v => t.keyEvt E.KEY_FREED slot v.num) (s.putSlotK slot { x with gone := x.gone.filter (s.pinned slot) })

/-- KV at an AXMARK: an ERASE takes effect (R384), drained versions go, a revoked grace ends (R380), and the grace of a restored version starts (R386). -/
def State.keyMark (s : State) : State :=
  let s := match s.key.running with
    | some c =>
      let slot := c.slot
      let x := s.slotK slot
      if c.op = 10 ∧ x.st ≠ 2 ∧ x.st ≠ 0 then
        let l := x.act.toList ++ x.old.toList
        (s.putSlotK slot { x with st := 2, pend := none, verified := false, act := none, old := none, draining := false, graceEnd := none, gone := x.gone ++ l })
      else s
    | none => s
  s.key.slots.foldl (fun t (p : Nat × KeySlot) =>
    let t := t.freeGone p.1
    let x := t.slotK p.1
    if x.graceEnd = none ∧ x.old.isSome then t.putSlotK p.1 { x with graceEnd := some t.ax.mark }
    else if x.graceEnd = some (-1) ∧ 2 ≤ t.get R.BOOT_STAGE_STAGE then t.putSlotK p.1 { x with graceEnd := some (t.ax.mark + x.grace * secU) } else t) s

/-- KEY_ERASE_DONE (R384): no version of the erasing slot remains. -/
def execKeyEraseDone (slot : Nat) (s : State) : Host.Outcome State Fault Refusal :=
  withUnit slot 256 (
    let s := s.freeGone slot
    let x := s.slotK slot
    if x.st = 2 ∧ x.gone = [] then (s.putSlotK slot .init).endRunning 2 else s)

/-- DRBG_RESEED (R372): after 2^20 requests. -/
def execDrbgReseed (s : State) : Host.Outcome State Fault Refusal :=
  .next (if 2 ^ 20 ≤ s.key.drbg then { s with key := { s.key with drbg := 0 } } else s)

/-- KEY_STORE_COMPACT (R385): the half in use is full: the newest committed record of every persistent slot is copied, and the full half is erased. -/
def execKeyStoreCompact (s : State) : Host.Outcome State Fault Refusal :=
  .next (
    let keep := (s.keyRecs.map (·.2)).filter (fun r => decide ((r.payload.getD 0 0).toNat / 2 ^ 32 = 1))
    let half := 1 - s.key.half
    let s := { s with key := { s.key with half := half } }
    let sec := NvArea.keyStore.first + 4 * (1 - half)
    let s := (List.range 4).foldl (fun t i => t.wearErase (sec + i)) s
    let s := s.putRing .keyStore { recs := [], next := half * 4 * sectorWords }
    keep.foldl (fun t (r : NvRec) => t.nvPut .keyStore 0x02 r.payload) s)

/-- KEY_MEMORY_ERROR (R399): the slot is zeroized and line 19 raised. -/
def execKeyMemoryError (slot : Nat) (s : State) : Host.Outcome State Fault Refusal :=
  withUnit slot 256 (((s.putSlotK slot (s.wiped slot)).showZeroized slot).pulse 19)

/-- KEY_DATA_ACCESS (R380): a read, or a write of `w`, of the buffer word at KEY.DATA_IDX, which moves on by one. -/
def execKeyDataAccess (m : Master) (w : Option Word) (s : State) : Host.Outcome State Fault Refusal :=
  .next (
    let go (s : State) : State :=
      let i := s.keyGet m R.KEY_DATA_IDX_IDX
      let s := match w with
        | some v => s.putMst m { s.mst m with keyBuf := kvPut (s.mst m).keyBuf i (BitVec.ofNat 36 (v.toNat % 2 ^ 32)) }
        | none => s.putMst m { s.mst m with readData := s.bufWord m i }
      s.keySet m R.KEY_DATA_IDX_IDX (i + 1)
    match w with
    | some _ => s.hostWrite m R.KEY_DATA go
    | none => if !s.hostUp m then s else if s.pageDead P.KEY then (s.accessErr m 4 false R.KEY_DATA).putMst m { (s.mst m) with readData := BitVec.ofNat 36 wordMax } else go s)

/-! ## Life-cycle commands (R373 to R375) -/

def State.confirmOf (s : State) (m : Master) : Confirm :=
  match m with
  | .pf0 => s.key.c0
  | .pf1 => s.key.c1
  | .spi => s.key.c2

def State.putConfirm (s : State) (m : Master) (c : Confirm) : State :=
  match m with
  | .pf0 => { s with key := { s.key with c0 := c } }
  | .pf1 => { s with key := { s.key with c1 := c } }
  | .spi => { s with key := { s.key with c2 := c } }

/-- LCY_CONFIRM (R375): the first word arms, the second within 1 ms confirms. -/
def execLcyConfirm (m : Master) (w : Word) (us : Nat) (s : State) : Host.Outcome State Fault Refusal :=
  .next (s.hostWrite m R.LCY_CONFIRM fun s =>
    if w.toNat = 0x31C5DA947 then s.putConfirm m { armedAt := some us, okAt := none }
    else
      let c := s.confirmOf m
      match c.armedAt with
      | some a => if w.toNat = 0xCE3A256B8 ∧ us ≤ a + 1000 then s.putConfirm m { armedAt := none, okAt := some us } else s.putConfirm m { armedAt := none, okAt := none }
      | none => s.putConfirm m { armedAt := none, okAt := none })

def State.lcyDone (s : State) (st : Nat) : State := (s.set R.LCY_CMD_STATUS st).raise P.LCY E.LCY_CMD_DONE

/-- A life-cycle command (R373, R375): `froms` the states it starts from, `new` the state it leads to. -/
def State.lcyAsk (s : State) (m : Master) (us : Nat) (froms : List Nat) (new mode slot : Nat) (bad : Bool) : State :=
  s.hostCmd m R.LCY_CMD_STATUS fun s =>
    let c := s.confirmOf m
    let ok := match c.okAt with
      | some t => decide (us ≤ t + 10000000)
      | none => false
    if !ok then s.lcyDone 5
    else
      let s := s.putConfirm m { armedAt := none, okAt := none }
      if m = .pf1 then s.lcyDone 3
      else if !froms.contains s.lcs then s.lcyDone 4
      else if bad then s.lcyDone 8
      else { s with key := { s.key with lcyRun := some (new, mode, slot) } }.set R.LCY_CMD_STATUS 1

/-- PROVISION (R373). -/
def execLcyProvision (m : Master) (mode slot us : Nat) (s : State) : Host.Outcome State Fault Refusal :=
  .next (s.lcyAsk m us [0] 1 mode slot (decide (mode ≠ 1 ∧ mode ≠ 2)))
/-- DEPLOY (R373). -/
def execLcyDeploy (m : Master) (us : Nat) (s : State) : Host.Outcome State Fault Refusal := .next (s.lcyAsk m us [1] 2 s.key.attMode s.key.attSlot false)
/-- RETURN (R373). -/
def execLcyReturn (m : Master) (us : Nat) (s : State) : Host.Outcome State Fault Refusal := .next (s.lcyAsk m us [1, 2] 3 s.key.attMode s.key.attSlot false)
/-- DISABLE (R373). -/
def execLcyDisable (m : Master) (us : Nat) (s : State) : Host.Outcome State Fault Refusal := .next (s.lcyAsk m us [0, 1, 2, 3] 4 s.key.attMode s.key.attSlot false)

/-- The LCY record of R374. -/
def State.lcyPayload (s : State) (state mode slot : Nat) : List Word :=
  [BitVec.ofNat 36 state, BitVec.ofNat 36 (mode + slot * 2 ^ 8), s.rd R.TMP_POLICY]

/-- A state change applied (R373, R374): the fuse, the actions, the event. -/
def State.lcyApply (s : State) (new mode slot : Nat) : State :=
  let old := s.lcs
  let s := { s with key := { s.key with fuses := setBit s.key.fuses new true, lcyRun := none, attMode := mode, attSlot := slot } }
  let s : State := if new = 1 then
      let d := s.drbg
      { d.2 with key := { d.2.key with owner := some (d.1 % 2 ^ 384) } }
    else if new = 4 then { s with key := { s.key with owner := none } } else s
  let s := if new = 2 then s else s.zeroize false
  ((s.showLcy.showPub).raise P.LCY E.LCY_STATE).trig islKV 0x82 [old, new]

/-- LCY_CHANGE_DONE (R374): the record commits, or fails; the fuse is programmed and the actions of R373 are applied. -/
def execLcyChangeDone (ok : Bool) (s : State) : Host.Outcome State Fault Refusal :=
  .next (
    match s.key.lcyRun with
    | none => s
    | some (new, mode, slot) =>
      let host := decide (s.get R.LCY_CMD_STATUS = 1)
      let r := s.nvWrite .lifeCycle 0x01 (s.lcyPayload new mode slot) ok
      if r.2 then
        let s := r.1.lcyApply new mode slot
        if host then s.lcyDone 2 else s
      else
        let s := { r.1 with key := { r.1.key with lcyRun := none } }
        if host then s.lcyDone 6 else s)

/-- TMP_POLICY_WRITE (R395, R402): saved as an LCY record in PROVISIONED, refused in any other state. -/
def execTmpPolicyWrite (m : Master) (w : Word) (ok : Bool) (s : State) : Host.Outcome State Fault Refusal :=
  .next (s.hostWrite m R.TMP_POLICY fun s =>
    if s.lcs ≠ 1 then s.worldErr m R.TMP_POLICY
    else
      let v := (R.TMP_POLICY_EN.put (R.TMP_POLICY_DISABLE.put 0 (R.TMP_POLICY_DISABLE.of w)) ((R.TMP_POLICY_EN.of w) ||| 7))
      let r := s.nvWrite .lifeCycle 0x01 [BitVec.ofNat 36 1, BitVec.ofNat 36 (s.key.attMode + s.key.attSlot * 2 ^ 8), v] ok
      if r.2 then (r.1.wr R.TMP_POLICY v).trig islKV 0x82 [1, 1] else r.1)

/-- TMP_LATCH_CLEAR (R394): bits whose sensor is no longer active clear. -/
def execTmpLatchClear (m : Master) (w : Word) (s : State) : Host.Outcome State Fault Refusal :=
  .next (s.hostWrite m R.TMP_LATCH fun s =>
    let l := (s.rd R.TMP_LATCH).toNat
    let c := l &&& w.toNat
    let c := c - (c &&& (s.rd R.TMP_NOW).toNat)
    let s := s.wr R.TMP_LATCH (BitVec.ofNat 36 (l - c))
    if s.rd R.TMP_LATCH = 0 then s.set R.TMP_FIRST_SENSOR 0xF else s)

/-! ## Attestation (R396 to R398) -/

/-- The bytes that the configuration-generation hash covers, in words of one byte each (R398). -/
def State.genHashBytes (s : State) : List Nat :=
  pageDir.flatMap (fun r => (List.range (512 * r.count)).flatMap (fun j =>
    let a := r.first * 512 + j
    if rwsMask a = 0 then [] else bytesBE 3 a ++ bytesBE 5 (s.rd a).toNat))

/-- SHA-384 over bytes, given to the hash one byte a word. -/
def sha384Bytes (l : List Nat) : Nat := Config.sha384 (l.map (fun b => BitVec.ofNat 36 b))

/-- The key manifest hash (R398). -/
def State.manifestHash (s : State) : Nat :=
  sha384Bytes (s.key.slots.flatMap (fun (p : Nat × KeySlot) =>
    match p.2.st, p.2.act with
    | 1, some v => [p.1, usageBit p.2.attr, v.num] ++ bytesBE 5 v.kcv
    | _, _ => []))

def State.regBytes (s : State) (a n : Nat) : List Nat := (List.range n).flatMap (fun i => wordBytes (s.rd (a + i)))

/-- The digest of the code in GN as GNS.CODE_HASH shows it, 48 bytes (R239). -/
def State.codeDigest (s : State) : List Nat := bytesBE 48 ((List.range 11).foldl (fun n i => n * 2 ^ 36 + (s.rd (R.GNS_CODE_HASH 0 + i)).toNat) 0 / 4096)

/-- Bytes 0 to 275 of the statement (R397). -/
def State.statement (s : State) (digest now : Nat) : List Nat :=
  let b (x : Bool) (n : Nat) : Nat := if x then 2 ^ n else 0
  let flags := b (decide (s.rd R.TMP_LATCH ≠ 0)) 0 + b (s.flag R.BOOT_CAUSE_KEYS_SUPPRESSED) 1 + b (s.flag R.BOOT_IMG_STAT_FALLBACK) 2
  bytesBE 2 1 ++ bytesBE 2 0x2436 ++ [1, s.lcs, s.key.attMode, flags] ++ bytesBE 8 Config.serial.toNat ++ s.regBytes (R.ATT_NONCE 0) 12 ++ bytesBE 14 now ++
    [if s.boot.timeValid then 1 else 0, s.get R.BOOT_STAGE_STAGE] ++ bytesBE 3 (s.get R.GEN_IN_FORCE_GEN) ++ [s.get R.BOOT_IMG_STAT_LOADED] ++ bytesBE 48 digest ++
    s.codeDigest ++ s.regBytes (R.ATT_GEN_HASH 0) 12 ++ bytesBE 48 s.manifestHash

def State.attDone (s : State) (st : Nat) : State := (s.set R.ATT_CMD_STATUS st).raise P.ATT E.ATT_DONE

/-- The digest of the loaded bank's IMG_END (R70): its last twelve payload words of 32 bits, found as the bank's last written words before the commit word. -/
def State.bankDigest (s : State) : Nat :=
  let b := if s.get R.BOOT_IMG_STAT_LOADED = 1 then s.nvm.bankA else if s.get R.BOOT_IMG_STAT_LOADED = 2 then s.nvm.bankB else []
  if b = [] then 0 else ofBytes (((b.drop (b.length - 14)).take 12).flatMap wordBytes)

/-- The statement is signed or authenticated and held for ATT.OUT_DATA (R396); `now`: VOTE.NOW at the command's start. -/
def State.attest (s : State) (now : Nat) : State :=
  let st := s.statement s.bankDigest now
  let x := s.slotK s.key.attSlot
  let tail : List Nat :=
    if s.key.attMode = 1 then
      match s.identity with
      | some d => bytesBE 48 (Config.ecdsa d st).1 ++ bytesBE 48 (Config.ecdsa d st).2
      | none => []
    else match x.act with
      | some v => bytesBE 48 (Config.hmac384 v.key st % 2 ^ 384)
      | none => []
  let n := if s.key.attMode = 1 then 93 else 81
  (({ s with key := { s.key with stmt := packWords (st ++ tail) n, attAsked := none } }.set R.ATT_OUT_IDX_IDX 0).bump R.ATT_STATEMENTS_COUNT).attDone 2

/-- STATEMENT (R396, R378): refused by state, master or LCS; it waits for GEN_HASH_OK. -/
def execStatement (m : Master) (s : State) : Host.Outcome State Fault Refusal :=
  .next (s.hostCmd m R.ATT_CMD_STATUS fun s =>
    let x := s.slotK s.key.attSlot
    if s.rd R.TMP_LATCH ≠ 0 then s.attDone 6
    else if s.key.lcyRun.isSome ∨ s.lcs = 3 ∨ s.lcs = 4 ∨ s.key.attMode = 0 ∨ (s.key.attMode = 1 ∧ !s.key.alive) then s.attDone 3
    else if s.key.attMode = 2 ∧ (x.st ≠ 1 ∨ attrUsage x.attr ≠ 8 ∨ x.act = none) then s.attDone 3
    else if s.key.attMode = 2 ∧ !bitOn x.attr (masterBit m) then s.attDone 4
    else if s.key.attMode = 2 ∧ !attrLcs x.attr s.lcs then s.attDone 5
    else if s.flag R.ATT_STATUS_GEN_HASH_OK then s.attest s.nowT
    else { s with key := { s.key with attAsked := some s.nowT } }.set R.ATT_CMD_STATUS 1)

/-- GEN_HASH (R398): the hash of the generation in force is complete. -/
def execGenHash (s : State) : Host.Outcome State Fault Refusal :=
  .next (
    if !s.up islKV ∨ !s.up islMGT ∨ s.flag R.ATT_STATUS_GEN_HASH_OK ∨ s.get R.GEN_IN_FORCE_GEN = 0 then s
    else
      let h := bytesBE 48 (sha384Bytes s.genHashBytes)
      let s := ((packWords h 12).zipIdx).foldl (fun t (p : Word × Nat) => t.wr (R.ATT_GEN_HASH p.2) p.1) s
      let s := (s.set R.ATT_STATUS_GEN_HASH_OK 1).raise P.ATT E.ATT_GEN_HASH
      match s.key.attAsked with
      | some now => s.attest now
      | none => s)

end Sys2Proof.Machine
end

