-- ==== Sys2Proof/Machine/Clients.lean ====
section
/-! DEFINITION.
Lanes and placements, the client table, negotiation, the timetable wheel and the rate buckets (R327, R349 to R371).
-/
namespace Sys2Proof.Machine
open Sys2Proof

/-! ## Lanes and placements (R321, R327) -/

/-- State of a lane, 0 to 23, in CO.LANES: 0 IN, 1 SHUNTED, 2 FAULT. -/
def State.laneSt (s : State) (lane : Nat) : Nat := s.get (R.CO_LANES_STATE (lane / 4)) / 4 ^ (lane % 4) % 4

def State.setLane (s : State) (lane st : Nat) : State :=
  let f := R.CO_LANES_STATE (lane / 4)
  s.set f (s.get f - s.laneSt lane * 4 ^ (lane % 4) + st * 4 ^ (lane % 4))

/-- The lane is migrating: it takes no new client (R410). -/
def State.laneMoving (s : State) (lane : Nat) : Bool := s.shunt.migs.any (fun m => m.begun && decide (m.lane = lane))

/-- The lanes of a coach that are in service, the migrating ones left out (R327, R410). -/
def State.lanesIn (s : State) (c : Nat) : List Nat := ((List.range 4).map (4 * c + ·)).filter (fun l => decide (s.laneSt l = 0) && !s.laneMoving l)

/-- A lane's placement: lane in bits 4:0, its epoch in bits 7:5 (R321). -/
def State.placeOf (s : State) (lane : Nat) : Nat := lane + 32 * kvGetD (s.coachOf (lane / 4)).epochs lane 0

/-- Lane time queued at a lane: VERIFY work and SIGN work, in ns. -/
def State.laneLoad (s : State) (lane : Nat) : Nat :=
  (s.coachOf (lane / 4)).cars.foldl (fun n k => if k.place % 32 = lane ∧ (k.stage = .verify ∨ k.stage = .sign) then n + k.laneNs else n) 0

/-- SIGN time pending at a lane (R332). -/
def State.signLoad (s : State) (lane : Nat) : Nat :=
  (s.coachOf (lane / 4)).cars.foldl (fun n k => if k.place % 32 = lane ∧ k.stage = .sign then n + k.laneNs else n) 0

/-- The element with the least weight, the first on a tie. -/
def leastBy (w : Nat → Nat) (l : List Nat) : Option Nat :=
  match l with
  | [] => none
  | x :: t =>
    match leastBy w t with
    | some y => if w y < w x then some y else some x
    | none => some x

/-- The in-service lane with the least queued lane time; the coach's first lane when none is in service. -/
def State.freeLane (s : State) (c : Nat) : Nat := (leastBy (fun l => s.laneLoad l) (s.lanesIn c)).getD (4 * c)

/-- Clients placed on a lane, those assigned to it by a migration included (R410). -/
def State.placed (s : State) (lane : Nat) : Nat :=
  (s.clt.entries.filter (fun p => decide (p.2.place = s.placeOf lane) && (kvGet s.clt.migrating p.1).isNone)).length +
    (s.clt.migrating.filter (fun p => decide (p.2 = lane))).length

/-- The lane that a migrating client moves to (R410). -/
def State.destLane (s : State) (m : Migration) : Nat :=
  if m.to_ ≠ 31 then m.to_
  else (leastBy (fun l => s.placed l) ((s.lanesIn (m.lane / 4)).filter (fun l => decide (l ≠ m.lane)))).getD m.lane

/-- The placement that a new carriage of an entry takes, with the entry's assignment under a migration (R327, R410). -/
def State.clientPlace (s : State) (i : Nat) (e : ClientEntry) : Nat × State :=
  match s.shunt.migs.find? (fun m => m.begun && decide (m.oldPlace = e.place)) with
  | some m =>
    match kvGet s.clt.migrating i with
    | some l => (s.placeOf l, s)
    | none =>
      let l := s.destLane m
      (s.placeOf l, { s with clt := { s.clt with migrating := kvPut s.clt.migrating i l } })
  | none =>
    let lane := e.place % 32
    if s.laneSt lane = 0 then (e.place, s) else (s.placeOf (s.freeLane (lane / 4)), s)

/-- The multicast placement of a port (R327). -/
def mcFld (port : Nat) : Fld := ⟨R.CO_MC_PLACE (port / 4), 8 * (port % 4), 8⟩

/-- The placement of a new multicast or client-path carriage; it moves off a lane out of service (R327, R410, R412). -/
def State.mcPlace (s : State) (port : Nat) : Nat × State :=
  let p := s.get (mcFld port)
  match s.shunt.migs.find? (fun m => m.begun && !m.fenced && decide (m.oldPlace = p)) with
  | some m => (s.placeOf (s.destLane m), s)
  | none =>
    if s.laneSt (p % 32) = 0 then (p, s)
    else
      let q := s.placeOf (s.freeLane (port / 4))
      (q, s.set (mcFld port) q)

/-! ## Keys, chains, entries (R350, R351) -/

/-- The bytes of a key: the port, then PORT_ID. -/
def keyBytes (port portId : Nat) : List Nat := port % 256 :: bytesBE 10 portId

/-- The index slot of a key. -/
def keySlotOf (port portId : Nat) : Nat := crcBytes (keyBytes port portId) % 2 ^ 21

def State.entry (s : State) (i : Nat) : Option ClientEntry := kvGet s.clt.entries i

/-- LOOKUP's walk: the number of the entry with the key. -/
def State.findClient (s : State) (port portId : Nat) : Option Nat :=
  (kvGetD s.clt.chains (keySlotOf port portId) []).find? (fun i =>
    match s.entry i with
    | some e => decide (e.port = port ∧ e.portId = portId)
    | none => false)

/-- The number of no client. -/
abbrev noClient : Nat := 0x1FFFFF

/-- An entry enters the head of its chain, or leaves it. -/
def State.chainIn (s : State) (i : Nat) (e : ClientEntry) : State :=
  let h := keySlotOf e.port e.portId
  { s with clt := { s.clt with chains := kvPut s.clt.chains h (i :: kvGetD s.clt.chains h []) } }

def State.chainOut (s : State) (i : Nat) (e : ClientEntry) : State :=
  let h := keySlotOf e.port e.portId
  let l := (kvGetD s.clt.chains h []).filter (fun j => decide (j ≠ i))
  { s with clt := { s.clt with chains := if l = [] then kvDel s.clt.chains h else kvPut s.clt.chains h l } }

/-- Message rates are counted in units of 2^-128 per second. -/
def rateUnits (log : Int) : Nat := 2 ^ (128 - log).toNat

/-- What an entry adds to the committed rate of its coach (R358). -/
def entryRate (e : ClientEntry) : Nat :=
  (if e.syncG then (if e.twoStep then 2 else 1) * rateUnits e.logSync else 0) + (if e.annG then rateUnits e.logAnn else 0) + (if e.drespG then rateUnits e.logDresp else 0)

/-- The committed rate of a coach (R358). -/
def State.committedRate (s : State) (c : Nat) : Nat :=
  s.clt.entries.foldl (fun n p => if p.2.state = 1 ∧ p.2.port / 4 = c then n + entryRate p.2 else n) 0

def State.wheel (s : State) (c : Nat) : WheelState := kvGetD s.clt.wheels c .init
def State.putWheel (s : State) (c : Nat) (w : WheelState) : State := { s with clt := { s.clt with wheels := kvPut s.clt.wheels c w } }

/-- Records of a wheel. -/
def WheelState.count (w : WheelState) : Nat := w.slots.foldl (fun n p => n + p.2.length) 0 + w.work.foldl (fun n k => n + k.left.length) 0

/-- Entries that are FREE. -/
def State.cltFree (s : State) : Nat := 1048576 - s.clt.entries.length

/-- COUNT, FREE, FULL, COMMIT and RECORDS (R358, R369, R370). -/
def State.showClt (s : State) : State :=
  let s := (s.set R.CLT_COUNT_N ((s.clt.entries.filter (fun p => decide (p.2.state = 1))).length)).set R.CLT_FREE_N s.cltFree
  let full := decide (s.cltFree = 0)
  let s := if bitOn (s.rd (R.PG_EVT_NOW P.CLT)).toNat E.CLT_FULL = full then s else s.level P.CLT E.CLT_FULL full
  let s := (List.range 6).foldl (fun t c => t.set (R.TTB_COMMIT_RATE c) (min (2 ^ 24 - 1) (quot (t.committedRate c) (2 ^ 128)).toNat)) s
  s.set R.TTB_RECORDS_N (s.clt.wheels.foldl (fun n p => n + p.2.count) 0)

/-- The holder mirrors a write of the table (R437). -/
def State.mirror (s : State) (e : ClientEntry) : State :=
  if s.get R.DUG_STATUS_ROLE = 1 then s.dugSendAll 1 (.client false (decide (e.state ≠ 1)) e) else s

/-- An entry is DRAINING. -/
def isDraining (e : Option ClientEntry) : Bool := e.any (fun x => decide (x.state = 2))

/-- An entry written, as one write at the cache (R353); the 17 s of R355 run from the write that makes it DRAINING. -/
def State.putEntry (s : State) (i : Nat) (e : ClientEntry) : State :=
  let drains := if e.state ≠ 2 then kvDel s.clt.drainAt i else if isDraining (kvGet s.clt.entries i) then s.clt.drainAt else kvPut s.clt.drainAt i s.ax.marks
  { s with clt := { s.clt with entries := kvPut s.clt.entries i e, drainAt := drains } }.showClt

/-- An entry written by negotiation or by the host, and mirrored. -/
def State.writeEntry (s : State) (i : Nat) (e : ClientEntry) : State := (s.putEntry i e).mirror e

/-- The first FREE number at or after `n`. -/
def freeFrom (used : List (Nat × ClientEntry)) (n fuel : Nat) : Nat :=
  match fuel with
  | 0 => n
  | k + 1 => if (kvGet used n).isSome then freeFrom used ((n + 1) % 1048576) k else n

/-- An entry number from the free list, whose order the spec does not state (log entry 3). -/
def State.takeEntry (s : State) : Nat × State :=
  let f := s.takeFree
  (freeFrom s.clt.entries (f.1 % 1048576) s.clt.entries.length, f.2)

/-- An instant in units of 2^-16 s, modulo 2^32. -/
def unit16 (t : Int) : Nat := ((t * 65536 / secU) % 2 ^ 32).toNat

/-- LAST_DREQ of a new entry (R360). -/
def dreqStart (t : Int) : Nat := (unit16 t + 2 ^ 31) % 2 ^ 32

/-- A TAI second modulo 2^24. -/
def sec24 (t : Int) : Nat := (t / secU % 2 ^ 24).toNat

/-- The END second has begun at an instant (R359). -/
def ended (endSec : Nat) (t : Int) : Bool := decide ((sec24 t + 2 ^ 24 - endSec) % 2 ^ 24 < 2 ^ 23)

/-- The grant of a message type is in force at an instant: 0xB Announce, 0 Sync, 9 Delay_Resp. -/
def granted (e : ClientEntry) (m : Nat) (t : Int) : Bool :=
  decide (e.state = 1) &&
    (if m = 0xB then e.annG && (e.isStatic || !ended e.annEnd t)
     else if m = 0 then e.syncG && (e.isStatic || !ended e.syncEnd t)
     else if m = 9 then e.drespG && (e.isStatic || !ended e.drespEnd t) else false)

def grantBit (e : ClientEntry) (m : Nat) : Bool := if m = 0xB then e.annG else if m = 0 then e.syncG else if m = 9 then e.drespG else false
def grantLog (e : ClientEntry) (m : Nat) : Int := if m = 0xB then e.logAnn else if m = 0 then e.logSync else e.logDresp
def setGrant (e : ClientEntry) (m : Nat) (on : Bool) : ClientEntry :=
  if m = 0xB then { e with annG := on } else if m = 0 then { e with syncG := on } else if m = 9 then { e with drespG := on } else e

/-- No grant left. -/
def noGrant (e : ClientEntry) : Bool := !e.annG && !e.syncG && !e.drespG

/-- A grant ends; a non-static entry without a grant becomes DRAINING (R355). -/
def endGrant (e : ClientEntry) (m : Nat) : ClientEntry :=
  let e := setGrant e m false
  if noGrant e && !e.isStatic && decide (e.state = 1) then { e with state := 2 } else e

/-- An entry set DRAINING with every grant cleared (R354, R361). -/
def drained (e : ClientEntry) : ClientEntry := { e with state := 2, annG := false, syncG := false, drespG := false }

/-- An uncorrectable error in the read of an entry (R354). -/
def State.cltEcc (s : State) (i : Nat) : State :=
  let s := (s.dramUncorr.bump R.CLT_ECC_LOST_COUNT).raise P.CLT E.CLT_ECC_LOST
  match s.entry i with
  | some e => s.putEntry i (drained e)
  | none => s

/-! ## Placement on the wheel (R362) -/

/-- The interval of a grant in slots; an interval below one slot counts as one, one above a turn as a turn (log entry 16). -/
def slotsOf (log : Int) : Nat := if log + 10 ≤ 0 then 1 else if 14 ≤ log + 10 then 16384 else 2 ^ (log + 10).toNat

/-- The scale's slot length. -/
abbrev slotU : Int := 274877906944000000000

/-- Records held by slot `n`, visits still due included. -/
def WheelState.at_ (w : WheelState) (n : Nat) : Nat :=
  (kvGetD w.slots n []).length + w.work.foldl (fun z k => if k.slot = n then z + k.left.length else z) 0

/-- The largest count of the slots of a phase. -/
def WheelState.peak (w : WheelState) (i p : Nat) : Nat := (List.range (16384 / i)).foldl (fun m k => max m (w.at_ ((p + k * i) % 16384))) 0

/-- The phase for a new record, if one is eligible. -/
def WheelState.phase (w : WheelState) (i h lim : Nat) : Option Nat :=
  let ps := (List.range 8).map (fun j => (h % i + j * i / 8) % i)
  (leastBy (fun j => w.peak i (ps.getD j 0)) ((List.range 8).filter (fun j => decide (w.peak i (ps.getD j 0) < lim)))).map (fun j => ps.getD j 0)

/-- The slot of the first visit: the first of the phase that begins at least 2 slots after the grant. -/
def firstSlot (t : Int) (i p : Nat) : Nat :=
  let n := (ceilDiv t slotU.toNat).toNat + 2
  (n + (p + i - n % i) % i) % 16384

def WheelState.link (w : WheelState) (n : Nat) (r : TtRecord) : WheelState := { w with slots := kvPut w.slots n (kvGetD w.slots n [] ++ [r]) }

/-- The records of one grant leave the wheel. -/
def WheelState.unlink (w : WheelState) (client : Nat) (sync : Bool) : WheelState :=
  let keep (l : List TtRecord) : List TtRecord := l.filter (fun r => !(decide (r.client = client) && (r.sync == sync)))
  { w with slots := (w.slots.map (fun p => (p.1, keep p.2))).filter (fun p => decide (p.2 ≠ [])), work := w.work.map (fun k => { k with left := keep k.left }) }

/-- The records of the grant wait for R362 again at their next visit. -/
def WheelState.mark (w : WheelState) (client : Nat) (sync : Bool) : WheelState :=
  let f (l : List TtRecord) : List TtRecord := l.map (fun r => if r.client = client ∧ r.sync = sync then { r with changed := true } else r)
  { w with slots := w.slots.map (fun p => (p.1, f p.2)), work := w.work.map (fun k => { k with left := f k.left }) }

/-- The limit of records in a slot under a generation. -/
def State.slotMax (s : State) (g : Nat) : Nat := max 1 (s.cget g R.TTB_SLOT_MAX_N)

/-- A phase for the record of a grant, its own old records left out of the count. -/
def State.phaseFor (s : State) (g client port portId : Nat) (sync : Bool) (log : Int) : Option Nat :=
  ((s.wheel (port / 4)).unlink client sync).phase (slotsOf log) (crcBytes (keyBytes port portId)) (s.slotMax g)

/-- The record of a new grant is placed; it replaces a record of the same type that is still linked (log entry 16). -/
def State.placeRec (s : State) (g client : Nat) (e : ClientEntry) (sync : Bool) (t : Int) : State :=
  let c := e.port / 4
  let log := if sync then e.logSync else e.logAnn
  match s.phaseFor g client e.port e.portId sync log with
  | some p => s.putWheel c (((s.wheel c).unlink client sync).link (firstSlot t (slotsOf log) p) { client := client, sync := sync, place := e.place, changed := false })
  | none => s

/-- The records of an entry's grants after a write: new grants are placed, changed intervals wait for their next visit (R359, R362, R363). -/
def State.syncRecs (s : State) (g client : Nat) (old : Option ClientEntry) (e : ClientEntry) (t : Int) : State :=
  [true, false].foldl (fun z sync =>
    let m := if sync then 0 else 0xB
    if !grantBit e m then z
    else match old with
      | some o =>
        if !grantBit o m then z.placeRec g client e sync t
        else if grantLog o m ≠ grantLog e m then z.putWheel (e.port / 4) ((z.wheel (e.port / 4)).mark client sync) else z
      | none => z.placeRec g client e sync t) s

/-! ## Negotiation (R356 to R360) -/

/-- What COMPOSE knows of a Signaling request. -/
structure NegReq where
  port : Nat
  transport : Nat
  mac : Nat
  ip : Nat
  tags : List (Bool × Nat)
  portId : Nat
  auth : Bool
  keySlot : Nat
  place : Nat
  gen : Nat
  ingT : Int

/-- The policy field of a message type: `k` 0 LOG_MIN, 1 LOG_MAX, 2 DUR_MIN, 3 DUR_MAX. -/
def polFld (m k : Nat) : Fld :=
  let r := if m = 0xB then R.CLT_POL_ANN else if m = 0 then R.CLT_POL_SYNC else R.CLT_POL_DRESP
  match k with
  | 0 => ⟨r, 4, 4⟩
  | 1 => ⟨r, 0, 4⟩
  | 2 => ⟨r, 8, 8⟩
  | _ => ⟨r, 16, 10⟩

def State.polLog (s : State) (g m k : Nat) : Int := toSigned 4 (s.cget g (polFld m k))

/-- The entry that a request of an unknown key would create (R357). -/
def State.newEntry (s : State) (q : NegReq) : ClientEntry :=
  { state := 1, isStatic := false, port := q.port, transport := q.transport, twoStep := s.cflag q.gen R.CLT_POLICY_TWO_STEP, auth := q.auth, tags := q.tags, keySlot := q.keySlot,
    place := q.place, mac := q.mac, ip := q.ip, portId := q.portId, logAnn := 0, logSync := 0, logDresp := 0, annG := false, syncG := false, drespG := false, annOk := false,
    upEpoch := (s.portOf q.port).ups % 16, annEnd := 0, syncEnd := 0, drespEnd := 0, annSeq := 0, syncSeq := 0, lastDreq := dreqStart q.ingT }

/-- The budget check (R357, R358): the grant `new` of the entry in place of `old`. -/
def State.overBudget (s : State) (g : Nat) (old : Option ClientEntry) (new : ClientEntry) : Bool :=
  let o := match old with
    | some e => if e.state = 1 then entryRate e else 0
    | none => 0
  decide (s.cget g R.TTB_BUDGET_RATE * 2 ^ 128 < s.committedRate (new.port / 4) - o + entryRate new)

/-- ACTIVE entries of a port. -/
def State.portClients (s : State) (p : Nat) : Nat := (s.clt.entries.filter (fun e => decide (e.2.state = 1 ∧ e.2.port = p))).length

/-- The checks of R357 in their order: 0 granted, else the number of the first that fails. -/
def State.judgeReq (s : State) (q : NegReq) (client : Option Nat) (m : Nat) (log : Int) : Nat :=
  let old := client.bind (fun i => s.entry i)
  if m ≠ 0xB ∧ m ≠ 0 ∧ m ≠ 9 then 1
  else if log < s.polLog q.gen m 0 ∨ s.polLog q.gen m 1 < log then 2
  else if old.isNone ∧ s.cltFree = 0 then 3
  else if old.isNone ∧ s.cget q.gen R.CLT_PORT_MAX_N ≤ s.portClients q.port then 4
  else
    let e := old.getD (s.newEntry q)
    let same := old.isSome && granted e m q.ingT && decide (grantLog e m = log)
    let n := setGrant { e with state := 1, logAnn := if m = 0xB then log else e.logAnn, logSync := if m = 0 then log else e.logSync,
                               logDresp := if m = 9 then log else e.logDresp } m true
    let room := decide (m = 9) || same || (s.phaseFor q.gen (client.getD noClient) q.port q.portId (decide (m = 0)) log).isSome
    if !same ∧ (s.overBudget q.gen old n ∨ !room) then 5 else 0

/-- A granted request is applied (R357, R359). -/
def State.applyGrant (s : State) (q : NegReq) (client : Option Nat) (m : Nat) (log : Int) (dur : Nat) : State :=
  let old := client.bind (fun i => s.entry i)
  let (i, s) : Nat × State := match client with
    | some i => (i, s)
    | none => s.takeEntry
  let renew := match old with
    | some e => granted e m q.ingT
    | none => false
  let e := old.getD (s.newEntry q)
  let base : Option ClientEntry := old.map (fun o => if o.state = 1 then o else drained o)
  let e := if e.state = 1 then e else { drained e with state := 1 }
  let endSec := (sec24 q.ingT + dur) % 2 ^ 24
  let e := if m = 0xB then { e with annG := true, logAnn := log, annEnd := endSec, annOk := e.annOk && renew }
           else if m = 0 then { e with syncG := true, logSync := log, syncEnd := endSec } else { e with drespG := true, logDresp := log, drespEnd := endSec }
  let s := if old.isNone then s.chainIn i e else s
  let s := s.writeEntry i e
  let s := s.syncRecs q.gen i (base.map (fun o => if renew then o else setGrant o m false)) e q.ingT
  let s := s.bump R.CLT_GRANTS_COUNT
  (if renew then s.bump R.CLT_RENEWALS_COUNT else s).showClt

/-- A refusal counted (R357). -/
def State.refuseReq (s : State) (why : Nat) : State :=
  let f := match why with
    | 1 => R.CLT_REF_TYPE_COUNT
    | 2 => R.CLT_REF_POLICY_COUNT
    | 3 => R.CLT_REF_FULL_COUNT
    | 4 => R.CLT_REF_PORT_COUNT
    | _ => R.CLT_REF_BUDGET_COUNT
  (s.bump f).raise P.CLT E.CLT_REFUSED

/-- One negotiation TLV, with the TLV of the response (R356). -/
def State.negTlv (s : State) (q : NegReq) (v : Tlv) : State × List Tlv :=
  let client := s.findClient q.port q.portId
  match v with
  | .request m log dur =>
    let why := s.judgeReq q client m log
    if why ≠ 0 then (s.refuseReq why, [.grant m log 0 false])
    else
      let d := max (s.cget q.gen (polFld m 2)) (min dur (s.cget q.gen (polFld m 3)))
      (s.applyGrant q client m log d, [.grant m log d true])
  | .cancel m =>
    match client with
    | some i =>
      match s.entry i with
      | some e => (if granted e m q.ingT then ((s.writeEntry i (endGrant e m)).bump R.CLT_CANCELS_COUNT) else s, [.ackCancel m])
      | none => (s, [.ackCancel m])
    | none => (s, [.ackCancel m])
  | _ => (s, [])

/-- TLVs that R356 names. -/
def isNeg (v : Tlv) : Bool :=
  match v with
  | .request _ _ _ => true
  | .cancel _ => true
  | .ackCancel _ => true
  | _ => false

/-- The address of an entry found by key follows a Signaling request (R351). -/
def State.moveClient (s : State) (q : NegReq) : State :=
  match s.findClient q.port q.portId with
  | some i =>
    match s.entry i with
    | some e => if e.mac = q.mac ∧ e.ip = q.ip ∧ e.transport = q.transport then s else s.writeEntry i { e with mac := q.mac, ip := q.ip, transport := q.transport }
    | none => s
  | none => s

/-- A Signaling request at COMPOSE: the TLVs of the response (R351, R356). -/
def State.negotiate (s : State) (q : NegReq) (tlvs : List Tlv) : State × List Tlv :=
  (tlvs.take 8).foldl (fun (z : State × List Tlv) v =>
    let r := z.1.negTlv q v
    (r.1, z.2 ++ r.2)) (s.moveClient q, [])

/-! ## Entry life -/

/-- GRANT_EXPIRY (R359): the grant of a message type reaches its END second. -/
def execGrantExpiry (client mtype : Nat) (s : State) : Host.Outcome State Fault Refusal :=
  .next (
    match s.entry client with
    | some e =>
      if e.state = 1 ∧ grantBit e mtype ∧ !granted e mtype s.ax.mark then (s.putEntry client (endGrant e mtype)).bump R.CLT_EXPIRED_COUNT else s
    | none => s)

/-- ENTRY_FREE (R355): 17 s after it became DRAINING the entry is unlinked and returned to the free list. -/
def execEntryFree (client : Nat) (s : State) : Host.Outcome State Fault Refusal :=
  .next (
    match s.entry client with
    | some e =>
      if e.state ≠ 2 ∨ s.ax.marks < kvGetD s.clt.drainAt client 0 + 17000 then s
      else
        let s := s.chainOut client e
        { s with clt := { s.clt with
            entries := kvDel s.clt.entries client, migrating := kvDel s.clt.migrating client, drainAt := kvDel s.clt.drainAt client } }.showClt
    | none => s)

/-- CLIENT_SCRUB (R360): the next entry of the scrub is visited. -/
def execClientScrub (s : State) : Host.Outcome State Fault Refusal :=
  .next (
    if !s.up islSW then s
    else
      let i := s.clt.scrubAt
      let s : State := { s with clt := { s.clt with scrubAt := (i + 1) % 1048576 } }
      match s.entry i with
      | some e => if 2 ^ 31 < (unit16 s.ax.mark + 2 ^ 32 - e.lastDreq) % 2 ^ 32 then s.putEntry i { e with lastDreq := dreqStart s.ax.mark } else s
      | none => s)

/-! ## The host's window (R350, R361) -/

/-- The 64 bytes of an entry; `next`: its NEXT field. -/
def entryBytes (e : ClientEntry) (next : Nat) : List Nat :=
  let b (x : Bool) (n : Nat) : Nat := if x then 2 ^ n else 0
  let ad := match e.tags with
    | (a, _) :: _ => a
    | [] => false
  let ctrl := e.state % 4 * 2 ^ 30 + b e.isStatic 29 + e.port % 32 * 2 ^ 24 + e.transport % 4 * 2 ^ 22 + b e.twoStep 21 + b e.auth 20 + e.tags.length % 4 * 2 ^ 18 + b ad 17 +
    e.keySlot % 256 * 256 + e.place % 256
  let tci (i : Nat) : Nat := (e.tags.map (·.2)).getD i 0
  bytesBE 4 ctrl ++ bytesBE 6 e.mac ++ bytesBE 2 (tci 0) ++ bytesBE 2 (tci 1) ++ bytesBE 16 e.ip ++ bytesBE 10 e.portId ++
    [ofSigned 8 e.logAnn, ofSigned 8 e.logSync, ofSigned 8 e.logDresp, b e.annG 7 + b e.syncG 6 + b e.drespG 5 + b e.annOk 4 + e.upEpoch % 16] ++
    bytesBE 3 e.annEnd ++ bytesBE 3 e.syncEnd ++ bytesBE 3 e.drespEnd ++ bytesBE 2 e.annSeq ++ bytesBE 2 e.syncSeq ++ bytesBE 3 next ++ bytesBE 4 e.lastDreq

/-- An entry from its 64 bytes. -/
def entryOf (l : List Nat) : ClientEntry :=
  let n (i k : Nat) : Nat := ofBytes ((l.drop i).take k)
  let ctrl := n 0 4
  let fl := n 43 1
  let nt := min 2 (ctrl / 2 ^ 18 % 4)
  { state := ctrl / 2 ^ 30 % 4, isStatic := bitOn ctrl 29, port := ctrl / 2 ^ 24 % 32, transport := ctrl / 2 ^ 22 % 4, twoStep := bitOn ctrl 21, auth := bitOn ctrl 20,
    tags := ([(bitOn ctrl 17, n 10 2), (false, n 12 2)] : List (Bool × Nat)).take nt, keySlot := ctrl / 256 % 256, place := ctrl % 256, mac := n 4 6, ip := n 14 16, portId := n 30 10,
    logAnn := toSigned 8 (n 40 1), logSync := toSigned 8 (n 41 1), logDresp := toSigned 8 (n 42 1), annG := bitOn fl 7, syncG := bitOn fl 6, drespG := bitOn fl 5,
    annOk := bitOn fl 4, upEpoch := fl % 16, annEnd := n 44 3, syncEnd := n 47 3, drespEnd := n 50 3, annSeq := n 53 2, syncSeq := n 55 2, lastDreq := n 60 4 }

/-- The entry in CLT.ENTRY0 to ENTRY15. -/
def State.windowEntry (s : State) : ClientEntry := entryOf ((List.range 16).flatMap (fun i => bytesBE 4 (s.get (R.CLT_ENTRY_BYTES i))))

def State.putWindow (s : State) (l : List Nat) : State := (List.range 16).foldl (fun t i => t.set (R.CLT_ENTRY_BYTES i) (ofBytes ((l.drop (4 * i)).take 4))) s

/-- NEXT of an entry: the entry after it in its chain. -/
def State.nextOf (s : State) (i : Nat) (e : ClientEntry) : Nat :=
  match (kvGetD s.clt.chains (keySlotOf e.port e.portId) []).dropWhile (fun j => decide (j ≠ i)) with
  | _ :: j :: _ => j
  | _ => noClient

def State.cltDone (s : State) (st : Nat) : State := s.set R.CLT_CMD_STATUS st
def State.cltCmd (s : State) (m : Master) (k : State → State) : State := s.hostCmd m R.CLT_CMD_STATUS k

/-- Every grant of an entry has an eligible placement where it needs one. -/
def State.placeable (s : State) (client : Nat) (old : Option ClientEntry) (e : ClientEntry) : Bool :=
  [true, false].all (fun sync =>
    let m := if sync then 0 else 0xB
    !grantBit e m || (match old with
      | some o => grantBit o m && decide (grantLog o m = grantLog e m)
      | none => false) || (s.phaseFor (s.get R.GEN_IN_FORCE_GEN) client e.port e.portId sync (grantLog e m)).isSome)

/-- CLT_ADD (R361). -/
def execCltAdd (m : Master) (s : State) : Host.Outcome State Fault Refusal :=
  .next (s.cltCmd m fun s =>
    let w := s.windowEntry
    let g := s.get R.GEN_IN_FORCE_GEN
    let e := { w with state := 1, annOk := false, upEpoch := (s.portOf w.port).ups % 16, lastDreq := dreqStart s.ax.mark, place := s.placeOf (s.freeLane (w.port / 4)) }
    if 23 < w.port ∨ (s.findClient w.port w.portId).isSome then s.cltDone 5
    else if s.cltFree = 0 then s.cltDone 3
    else if s.overBudget g none e ∨ !s.placeable noClient none e then s.cltDone 6
    else
      let (i, s) := s.takeEntry
      let s := ((s.chainIn i e).writeEntry i e).syncRecs g i none e s.ax.mark
      (s.showClt.set R.CLT_CMD_IDX_INDEX i).cltDone 2)

/-- The ACTIVE entry that CLT.CMD_IDX names. -/
def State.cltNamed (s : State) : Option (Nat × ClientEntry) :=
  let i := s.get R.CLT_CMD_IDX_INDEX
  match s.entry i with
  | some e => if e.state = 1 then some (i, e) else none
  | none => none

/-- The grants of an entry, as message types. -/
def grantsOf (e : ClientEntry) : List Nat := [0xB, 0, 9].filter (fun m => grantBit e m)

/-- CLT_DELETE (R361): its grants end with it and count in CANCELS (R359). -/
def execCltDelete (m : Master) (s : State) : Host.Outcome State Fault Refusal :=
  .next (s.cltCmd m fun s =>
    match s.cltNamed with
    | some (i, e) => ((s.writeEntry i (drained e)).bumpBy R.CLT_CANCELS_COUNT (grantsOf e).length).cltDone 2
    | none => s.cltDone 4)

/-- CLT_READ (R361). A FREE entry reads with STATE 0 and bytes that the spec leaves open (log entry 3); a number beyond the table is NOT_FOUND. -/
def execCltRead (m : Master) (s : State) : Host.Outcome State Fault Refusal :=
  .next (s.cltCmd m fun s =>
    let i := s.get R.CLT_CMD_IDX_INDEX
    if 1048576 ≤ i then s.cltDone 4
    else match s.entry i with
      | some e => (s.putWindow (entryBytes e (s.nextOf i e))).cltDone 2
      | none =>
        let f := s.takeFree
        (f.2.putWindow (bytesBE 64 (f.1 % 2 ^ 510))).cltDone 2)

/-- CLT_FIND (R361). -/
def execCltFind (m : Master) (s : State) : Host.Outcome State Fault Refusal :=
  .next (s.cltCmd m fun s =>
    let w := s.windowEntry
    match s.findClient w.port w.portId with
    | some i => (s.set R.CLT_CMD_IDX_INDEX i).cltDone 2
    | none => s.cltDone 4)

/-- CLT_WRITE (R361); an entry that is not ACTIVE is NOT_FOUND (log entry 16). -/
def execCltWrite (m : Master) (s : State) : Host.Outcome State Fault Refusal :=
  .next (s.cltCmd m fun s =>
    match s.cltNamed with
    | some (i, o) =>
      let w := s.windowEntry
      let e := { w with state := o.state, port := o.port, annSeq := o.annSeq, syncSeq := o.syncSeq, annOk := w.annOk && o.annG }
      let g := s.get R.GEN_IN_FORCE_GEN
      if w.port ≠ o.port then s.cltDone 5
      else if s.overBudget g (some o) e ∨ !s.placeable i (some o) e then s.cltDone 6
      else
        let s := if e.portId = o.portId then s else (s.chainOut i o).chainIn i e
        ((s.writeEntry i e).syncRecs g i (some o) e s.ax.mark).showClt.cltDone 2
    | none => s.cltDone 4)

/-! ## Timetable carriages -/

/-- A carriage enters a coach with the next CID (R24); the buffer cell that BUF names, which the spec does not state, is a free value (log entry 3). -/
def State.addCar (s : State) (c : Nat) (f : Nat → Carriage) : State :=
  let r := s.takeFree
  let x := r.2.coachOf c
  r.2.putCoach c { x with nextCid := (x.nextCid + 1) % 2 ^ 20, cars := x.cars ++ [{ f x.nextCid with buf := r.1 % 2 ^ 24 }] }

/-- An empty frame for a carriage that has none yet. -/
def noFrame : Frame := { dst := 0, src := 0, tags := [], ip := none, len := 64, body := .other 0, sumOk := true, lenOk := true }

/-- A carriage of ORIGIN 1, created at `t` and sent to COMPOSE (R363, R365). -/
def State.addTimed (s : State) (port client place : Nat) (ent : Option ClientEntry) (kind : TtKind) (t : Int) : State :=
  (s.demand (port / 4)).addCar (port / 4) (fun cid =>
    { cid := cid, origin := 1, port := port, portIn := 31, place := place, gen := s.genAt t, ingT := t, verdict := 0, tclass := 0, buf := 0, tebv := 0, client := client, rateAct := 0, key := none, cookKey := none,
      c2s := 0, s2c := 0, ncook := 0, nak := false, depart := none, scaleNo := 0, laneNs := 0, stage := .compose, kind := kind, ent := ent, frame := noFrame, srch := 0 })

/-- CLT_CANCEL (R361). -/
def execCltCancel (m : Master) (s : State) : Host.Outcome State Fault Refusal :=
  .next (s.cltCmd m fun s =>
    match s.cltNamed with
    | some (i, e) =>
      let gs := grantsOf e
      let types := (if e.annG then 1 else 0) + (if e.syncG then 2 else 0) + (if e.drespG then 4 else 0)
      let (p, s) := s.clientPlace i e
      let s := if gs = [] then s else s.addTimed e.port i p (some e) (.cancel types) s.ax.mark
      ((s.writeEntry i (gs.foldl endGrant e)).bumpBy R.CLT_CANCELS_COUNT gs.length).cltDone 2
    | none => s.cltDone 4)

/-- S, the instant after which a holder promises no departure (R431); a member that is not HOLDER promises none (R434, R436), and one that has left GROUP
promises none after the S of its last lease (R422). -/
def State.reinsEnd (s : State) : Option Int :=
  let r := s.get R.DUG_STATUS_ROLE
  if r = 0 then s.dug.soloEnd
  else if r = 1 then some (ofT108 (s.rdT R.DUG_LEASE_END) - s.get R.DUG_GUARD_NS * nsU)
  else some 0

/-- The timetable of a coach may create a carriage at an instant (R346, R431, R436, R450); `ann`: an Announce; `auth`: an authenticated one. -/
def State.mayCreate (s : State) (c : Nat) (ann auth : Bool) (t : Int) : Bool :=
  let role := s.holdsReins && (match s.reinsEnd with
    | some e => decide (t ≤ e)
    | none => true)
  let sc := if s.flag (R.PG_STAT_FENCED (P.CO c)) then 3 else s.stopScope c
  role && s.flag (R.PG_CTRL_EN (P.CO c)) && (decide (sc = 0) || (decide (sc = 1) && !auth) || (decide (sc = 2) && ann)) && (!auth || decide (3 ≤ s.get R.BOOT_STAGE_STAGE))

/-- Visits that a fault reaction turns away count in CO.FAULT_STOP (R450). -/
def State.countStop (s : State) (c : Nat) : State := if s.stopScope c = 0 then s else s.bump (R.CO_FAULT_STOP_COUNT c)

/-! ## The wheel (R362 to R366) -/

/-- A loss of records (R366); the automatic rebuild takes each coach in turn. -/
def State.recLoss (s : State) (n : Nat) : State :=
  let s := (s.dramUncorr.bumpBy R.TTB_ECC_LOST_COUNT n).raise P.TTB E.TTB_ECC_LOST
  if s.flag R.TTB_CFG_AUTO_REBUILD ∧ s.clt.toBuild = [] then { s with clt := { s.clt with toBuild := List.range 6 } } else s

/-- The wheel of the first coach in turn is emptied and every grant placed anew; visits count as skipped until the rebuild ends (R366; log entry 16). -/
def State.buildNext (s : State) : State :=
  match s.clt.toBuild with
  | c :: _ =>
    if (s.wheel c).rebuilding then s
    else
      let g := s.get R.GEN_IN_FORCE_GEN
      let s := s.putWheel c { WheelState.init with rebuilding := true }
      (s.clt.entries.foldl (fun t p => if p.2.state = 1 ∧ p.2.port / 4 = c then t.syncRecs g p.1 none p.2 t.ax.mark else t) s).showClt
  | [] => s

/-- REBUILD (R366): TTB.CMD REBUILD of a coach, 6 and 7 all. -/
def execRebuild (m : Master) (coach : Nat) (s : State) : Host.Outcome State Fault Refusal :=
  .next (s.hostCmd m R.TTB_CMD_STATUS fun s =>
    let l : List Nat := if coach % 8 < 6 then [coach % 8] else List.range 6
    { (s.set R.TTB_CMD_STATUS 1) with clt := { s.clt with toBuild := s.clt.toBuild ++ l } }.buildNext)

/-- REBUILD_DONE (R366). -/
def execRebuildDone (coach : Nat) (s : State) : Host.Outcome State Fault Refusal :=
  withUnit coach 6 (
    match s.clt.toBuild with
    | c :: rest =>
      if c ≠ coach ∨ !(s.wheel c).rebuilding then s
      else
        let s := (s.putWheel c { s.wheel c with rebuilding := false }).raise P.TTB E.TTB_REBUILD_DONE
        let s : State := { s with clt := { s.clt with toBuild := rest } }
        let s := if rest = [] ∧ s.get R.TTB_CMD_STATUS = 1 then s.set R.TTB_CMD_STATUS 2 else s
        s.buildNext
    | [] => s)

/-- The scale's slot at an instant: its count. -/
def slotCount (t : Int) : Int := t / slotU

/-- WHEEL_SLOT (R362 to R364, R366): a slot of the coach's wheel begins; `ecc`: its head cannot be read. -/
def execWheelSlot (coach tick : Nat) (ecc : Bool) (s : State) : Host.Outcome State Fault Refusal :=
  withUnit coach 6 (
    if !s.linkOpen (8 + coach) islSW 1 then s
    else
      let t := (s.ctrOf (8 + coach)).at_ tick
      let n := (slotCount t % 16384).toNat
      let start := slotCount t * slotU
      let w := s.wheel coach
      let l := kvGetD w.slots n []
      let (s, bad) := s.dramTransfer ecc
      if w.work.any (fun k => decide (k.start = start)) then s
      else if bad then (((s.putWheel coach { w with slots := kvDel w.slots n }).recLoss l.length).buildNext).showClt
      else
        let s := if s.get R.TTB_SLOT_PEAK_N < l.length then s.set R.TTB_SLOT_PEAK_N l.length else s
        if l = [] then s
        else s.putWheel coach { w with slots := kvDel w.slots n, work := w.work ++ [{ slot := n, start := start, count := l.length, left := l }] })

/-- A record moved on: to its next slot, or by R362 where a renewal has changed the interval (R363). -/
def State.moveOn (s : State) (c slot : Nat) (r : TtRecord) (e : ClientEntry) (t : Int) : State :=
  let log := if r.sync then e.logSync else e.logAnn
  let i := slotsOf log
  let w := s.wheel c
  let r' := { r with changed := false }
  let next := s.putWheel c (w.link ((slot + i) % 16384) r')
  if r.changed then
    match s.phaseFor (s.get R.GEN_IN_FORCE_GEN) r.client e.port e.portId r.sync log with
    | some p => s.putWheel c (w.link (firstSlot t i p) r')
    | none => next
  else next

/-- One visit (R363, R365): the record of the slot's work, at instant `t`. -/
def State.visit (s : State) (c : Nat) (k : SlotWork) (r : TtRecord) (t : Int) : State :=
  let m := if r.sync then 0 else 0xB
  match s.entry r.client with
  | none => s
  | some e =>
    if !granted e m t then s
    else
      let ups := (s.portOf e.port).ups % 16
      let e : ClientEntry := if e.upEpoch = ups then e else { e with upEpoch := ups, annOk := false }
      let s := s.putEntry r.client e
      let r := { r with place := e.place }
      let skip : Int := max 1 (s.get R.TTB_CFG_SKIP_AFTER)
      if !s.portUp e.port ∨ s.coachOut c then (s.moveOn c k.slot r e t).bump R.TTB_NOT_UP_COUNT
      else if r.sync ∧ e.annG ∧ !e.annOk then (s.moveOn c k.slot r e t).bump R.TTB_HELD_COUNT
      else if k.start + skip * slotU < t ∨ (s.wheel c).rebuilding then ((s.moveOn c k.slot r e t).bump R.TTB_SKIPPED_COUNT).raise P.TTB E.TTB_SKIP
      else if !s.mayCreate c (!r.sync) e.auth t then (s.moveOn c k.slot r e t).countStop c
      else
        let (p, s) := s.clientPlace r.client e
        let s := s.addTimed e.port r.client p (some e) (if r.sync then .sync else .announce) t
        let e : ClientEntry := if r.sync then { e with syncSeq := (e.syncSeq + 1) % 65536 } else { e with annSeq := (e.annSeq + 1) % 65536, annOk := true }
        (((s.putEntry r.client e).moveOn c k.slot r e t).bump R.TTB_CREATED_COUNT)

/-- WHEEL_VISIT (R363, R364): the stage visits the next record of its oldest slot; `ecc`: 1 the entry, 2 the record cannot be read. -/
def execWheelVisit (coach tick ecc : Nat) (s : State) : Host.Outcome State Fault Refusal :=
  withUnit coach 6 (
    let w := s.wheel coach
    let t := (s.ctrOf (8 + coach)).at_ tick
    match w.work with
    | [] => s
    | k :: rest =>
      match k.left with
      | [] => s.putWheel coach { w with work := rest }
      | r :: left =>
        let j := k.count - k.left.length
        let due := k.start + slotU * j / k.count
        if t < due ∨ !s.linkOpen (8 + coach) islSW 1 then s else
        let (s, bad) := s.dramTransfer (decide (ecc = 2))
        let s' := s.putWheel coach { w with work := if left = [] then rest else { k with left := left } :: rest }
        if bad then (((s.putWheel coach { w with work := rest }).recLoss k.left.length).buildNext).showClt
        else
          let s := if due + slotU < t then (s'.bump R.TTB_SLIPPED_COUNT).raise P.TTB E.TTB_SLIP else s'
          if ecc = 1 then s.cltEcc r.client else (s.visit coach k r t).showClt)

/-! ## Rate buckets (R367, R368) -/

def Bucket.init : Bucket := { tokN := 0, tokP := 0, kissed := false, last := 0 }

/-- A count refilled: FILL units per second, up to DEPTH tokens. -/
def refill (n fill depth d : Nat) : Nat := min (max 1 depth * 16) (n + (quot ((fill * d : Nat) : Int) 65536).toNat)

/-- A carriage charged to its bucket: RATE_ACT (R367, R368). -/
def State.charge (s : State) (g hash : Nat) (ntp : Bool) (t : Int) : Nat × State :=
  let b := hash % 2 ^ 18
  let x := kvGetD s.clt.buckets b .init
  let now := unit16 t
  let d := (now + 2 ^ 32 - x.last) % 2 ^ 32
  let n := refill x.tokN (s.cget g R.RATE_NTP_FILL) (s.cget g R.RATE_NTP_DEPTH) d
  let p := refill x.tokP (s.cget g R.RATE_PTP_FILL) (s.cget g R.RATE_PTP_DEPTH) d
  let x := { x with tokN := n, tokP := p, last := now }
  let put (y : Bucket) : State := { s with clt := { s.clt with buckets := kvPut s.clt.buckets b y } }
  let drop (z : State) (f : Fld) : State := ((z.bump f).raise P.RATE E.RATE_DROP).set R.RATE_LAST_DROP_BUCKET b
  if ntp then
    if 16 ≤ n then (0, (put { x with tokN := n - 16, kissed := false }).bump R.RATE_PASSED_COUNT)
    else if s.cflag g R.RATE_CFG_NTP_ACT && !x.kissed then (2, ((put { x with kissed := true }).bump R.RATE_KISS_COUNT).raise P.RATE E.RATE_KISS)
    else (1, drop (put x) R.RATE_DROP_NTP_COUNT)
  else if 16 ≤ p then (0, (put { x with tokP := p - 16 }).bump R.RATE_PASSED_COUNT)
  else (1, drop (put x) R.RATE_DROP_PTP_COUNT)

end Sys2Proof.Machine
end

