-- ==== Sys2Proof/Machine/Pipe.lean ====
section
/-! DEFINITION.
The time-service pipeline: classification, lookup, verification, answers and departures, launches, and the ways a carriage fails to leave (R321 to R346).
-/
namespace Sys2Proof.Machine
open Sys2Proof

/-! ## Messages and addresses -/

/-- Header bytes of a frame around its message: Ethernet with FCS, tags, IP and UDP. -/
def hdrLen (f : Frame) : Nat :=
  18 + 4 * f.tags.length + (match f.ip with
    | some h => if h.v6 then 48 else 28
    | none => 0)

/-- Length of the message of a frame. -/
def msgLen (f : Frame) : Nat := f.len - hdrLen f

/-- A frame holding a message of `n` bytes. -/
def withLen (f : Frame) (n : Nat) : Frame := { f with len := max 64 (n + hdrLen f) }

/-- PROTO (R321, R323): 0 to 2 PTP over Ethernet, IPv4, IPv6; 3, 4 NTP; 7 other. The UDP ports of PTP are those of IEEE 1588 (PRESUMED, log entry 26). -/
def protoOf (f : Frame) : Nat :=
  if 2 < f.tags.length then 7
  else match f.body, f.ip with
    | .ptp _, none => 0
    | .ptp _, some h => if h.plain && (match h.udp with
        | some (_, d) => decide (d = 319 ∨ d = 320)
        | none => false) then (if h.v6 then 2 else 1) else 7
    | .ntp _, some h => if h.plain && h.udp.isSome then (if h.v6 then 4 else 3) else 7
    | _, _ => 7

/-- AUTHK (R321). -/
def authk (f : Frame) : Nat :=
  match f.body with
  | .ptp m => if m.auth.isSome then 1 else 0
  | .ntp m => if m.nts.isSome then 2 else 0
  | _ => 0

def ptpMac (a : Nat) : Bool := decide (a = 0x011B19000000 ∨ a = 0x011B19000001 ∨ a = 0x0180C200000E)
def ptpIp (v6 : Bool) (a : Nat) : Bool :=
  if v6 then decide (a = 0xFF0E0000000000000000000000000181 ∨ a = 0xFF02000000000000000000000000006B) else decide (a = 0xE0000181 ∨ a = 0xE000006B)

/-- The addresses of a port under a generation; an IP address of 0 is none (R347). -/
def State.portMac (s : State) (g p : Nat) : Nat := s.cget g (R.CO_MAC_HI_MAC (p / 4) (p % 4)) * 2 ^ 32 + s.cget g (R.CO_MAC_LO_MAC (p / 4) (p % 4))

def State.portIp (s : State) (g p : Nat) (v6 : Bool) : Nat :=
  let c := p / 4
  let i := p % 4
  if v6 then s.cget g (R.CO_IPV6_0_ADDR c i) * 2 ^ 96 + s.cget g (R.CO_IPV6_1_ADDR c i) * 2 ^ 64 + s.cget g (R.CO_IPV6_2_ADDR c i) * 2 ^ 32 + s.cget g (R.CO_IPV6_3_ADDR c i)
  else s.cget g (R.CO_IPV4_ADDR c i)

/-- The IP destination of a frame is the port's own. -/
def State.ownIp (s : State) (g p : Nat) (f : Frame) : Bool :=
  match f.ip with
  | some h => decide (h.dst ≠ 0 ∧ h.dst = s.portIp g p h.v6)
  | none => false

/-- The transport of a frame is enabled on its port: 0 Ethernet, 1 IPv4, 2 IPv6. -/
def State.transOn (s : State) (g p t : Nat) : Bool :=
  let c := p / 4
  if t = 0 then s.cflag g (R.CO_TS_CFG_ETH c (p % 4)) else if t = 1 then s.cflag g (R.CO_TS_CFG_UDP4 c (p % 4)) else s.cflag g (R.CO_TS_CFG_UDP6 c (p % 4))

/-- The transport code of R350 of a frame. -/
def transOf (f : Frame) : Nat :=
  match f.ip with
  | some h => if h.v6 then 2 else 1
  | none => 0

/-- The frame's destination is a multicast address of PTP. -/
def toPtpGroup (f : Frame) : Bool :=
  match f.ip with
  | some h => ptpIp h.v6 h.dst
  | none => ptpMac f.dst

/-- The message is for the device on port `p` (R324). -/
def State.forDevice (s : State) (g p : Nat) (f : Frame) : Bool :=
  s.transOn g p (transOf f) && (toPtpGroup f || (match f.ip with
    | some _ => s.ownIp g p f
    | none => decide (f.dst = s.portMac g p)))

/-- The PTP candidate bound to a port (R140). -/
def State.boundCand (s : State) (p : Nat) : Option Nat := (List.range 12).find? (fun k => s.candOn k && decide (s.candSrc k = 3 ∧ s.candUnit k = p))

/-- Authenticated time service is stopped by tamper (R392): an alarm has zeroized the key slots, or their load was suppressed. -/
def State.tamperOff (s : State) : Bool := s.key.tampered || s.flag R.KEY_STATUS_SUPPRESSED

/-- The device's own sourcePortIdentity on a port (R336). -/
def State.ownId (s : State) (g p : Nat) : Nat := (s.cget g (R.CO_PTP_ID_HI_ID 0) * 2 ^ 32 + s.cget g (R.CO_PTP_ID_LO_ID 0)) * 65536 + p + 1

/-! ## Carriages -/

def State.car (s : State) (c cid : Nat) : Option Carriage := (s.coachOf c).cars.find? (fun (k : Carriage) => decide (k.cid = cid))

def State.putCar (s : State) (c : Nat) (k : Carriage) : State :=
  let x := s.coachOf c
  s.putCoach c { x with cars := x.cars.map (fun (j : Carriage) => if j.cid = k.cid then k else j) }

/-- A carriage past its point of no return (R346). -/
def past (k : Carriage) : Bool :=
  match k.stage with
  | .compose => decide (k.origin = 0)
  | .composed => true
  | .sign => true
  | .seal => true
  | _ => false

/-- A time-service carriage that CLASS has let through. -/
def inService (k : Carriage) : Bool := decide (k.stage ≠ .parse ∧ k.stage ≠ .forward)

/-- The pins of a carriage are released (R328); after SIGN it holds none. -/
def State.unpin (s : State) (c : Nat) (k : Carriage) : State :=
  if k.stage = .seal then s
  else
    let s := match k.key with
      | some (sl, v) => s.sendPin c false sl v
      | none => s
    match k.cookKey with
    | some (sl, v) => s.sendPin c false sl v
    | none => s

/-- A carriage dropped, with its pins and its reservation (R328, R331). -/
def State.endCar (s : State) (c : Nat) (k : Carriage) : State := (s.unpin c k).dropCar c k.cid

/-- A carriage dropped and counted. -/
def State.lose (s : State) (c : Nat) (k : Carriage) (f : Fld) : State := (s.endCar c k).bump f

/-- The carriages that satisfy `p` are dropped and counted. -/
def State.loseAll (s : State) (c : Nat) (p : Carriage → Bool) (f : Fld) : State := ((s.coachOf c).cars.filter p).foldl (fun t k => t.lose c k f) s

/-- The carriage names a placement older than a migration fence (R411). -/
def State.oldPlace (s : State) (k : Carriage) : Bool := decide (k.place ≠ s.placeOf (k.place % 32))

/-- The carriage is authenticated: the request was, or its client entry or multicast configuration is. -/
def State.carAuth (s : State) (k : Carriage) : Bool :=
  if k.origin = 0 then decide (authk k.frame ≠ 0)
  else if k.key.isSome then true
  else match k.ent with
    | some e => e.auth
    | none =>
      match k.kind with
      | .delayReq => s.cflag k.gen (R.CO_UP_CFG_AUTH (k.port / 4) (k.port % 4))
      | _ => s.cflag k.gen (R.CO_MC_CFG_AUTH (k.port / 4) (k.port % 4))

/-- A carriage of a coach stands in a stage; a carriage whose generation is neither set held is discarded where it stands (R405). -/
def State.atStage (s : State) (c cid : Nat) (st : Stage) (f : Carriage → State → State) : State :=
  match s.car c cid with
  | some k =>
    if k.stage ≠ st ∨ !s.up (8 + c) then s
    else if s.staleGen k.gen then s.lose c k R.GEN_STALE_DROP_COUNT
    else f k s
  | none => s

/-! ## PARSE and CLASS (R322 to R325, R361) -/

/-- R323's faults of a time-service frame, and those of R344. -/
def malformed (f : Frame) : Bool :=
  !f.sumOk || !f.lenOk ||
    (match f.body with
     | .ntp m => !(decide (m.version = 3 ∨ m.version = 4)) || (match m.nts with
         | some x => decide (m.version = 3) || !x.layoutOk || decide (x.uid.length < 32)
         | none => false)
     | _ => false)

/-- What CLASS makes of a frame: a VERDICT, or a drop with its counter. -/
inductive ClassOf where
  | verdict (v : Nat)
  | client
  | drop (f : Fld)
  deriving DecidableEq, Repr

/-- The rows of R324, and R361 for Signaling. -/
def State.classOf (s : State) (k : Carriage) : ClassOf :=
  let p := k.port
  let g := k.gen
  let f := k.frame
  let c := p / 4
  let dev := s.forDevice g p f
  let pr := protoOf f
  let rest : ClassOf :=
    if decide (f.dst = s.portMac g p) || (s.ownIp g p f && !isGroup f.dst) || decide (f.dst / 16 = 0x0180C200000) then .verdict 3 else .verdict 2
  match f.body with
  | .ptp m =>
    if 2 < pr then rest
    else if dev then
      let home := decide (m.domain = s.cget g (R.CO_PTP_CFG_DOMAIN 0))
      let up := match s.boundCand p with
        | some b => decide (m.domain = s.cget g (R.CAND_PTP_CFG_DOMAIN b))
        | none => false
      let master := decide (m.mtype = 0 ∨ m.mtype = 8 ∨ m.mtype = 0xB ∨ m.mtype = 9)
      if home && decide (m.mtype = 1 ∨ m.mtype = 2) then .verdict 0
      else if home && decide (m.mtype = 0xC) then (if s.cflag g R.CLT_POLICY_NEGOTIATE then .verdict 0 else .verdict 3)
      else if up && master then .client
      else if m.mtype = 0xD then .verdict 3
      else if !home || master then .drop (R.CO_TS_OFF_COUNT c)
      else .drop (R.CO_MALFORMED_COUNT c)
    else if m.mtype < 4 then .verdict (if s.cflag g (R.PRT_CFG_TC_EN p) then 1 else 2)
    else rest
  | .ntp m =>
    let to123 := match f.ip with
      | some h => (match h.udp with
        | some (_, d) => decide (d = 123)
        | none => false)
      | none => false
    if pr = 7 then rest
    else if to123 && s.ownIp g p f && decide (m.mode = 3) then .verdict 0
    else if dev then .drop (R.CO_MALFORMED_COUNT c)
    else rest
  | _ => rest

/-- The service of a request is enabled on its port (R325): 0 no, 1 yes, 2 only in the other authentication. -/
def State.serviceOf (s : State) (k : Carriage) : Nat :=
  let c := k.port / 4
  let i := k.port % 4
  let on (f : Fld) : Bool := s.cflag k.gen f
  let pick (a u : Bool) : Nat := if !a && !u then 0 else if authk k.frame = 0 then (if u then 1 else 2) else if a then 1 else 2
  match k.frame.body with
  | .ptp m =>
    if m.mtype = 1 ∧ !on (R.CO_TS_CFG_DELAY_REQ c i) then 0
    else if m.mtype = 2 ∧ !on (R.CO_TS_CFG_PDELAY c i) then 0
    else pick (on (R.CO_TS_CFG_PTP_AUTH c i)) (on (R.CO_TS_CFG_PTP_PLAIN c i))
  | _ => pick (on (R.CO_TS_CFG_NTS c i)) (on (R.CO_TS_CFG_NTP_PLAIN c i))

/-- The drop of a VERDICT 0 carriage at CLASS (R323, R324, R436, R450), if any; the rows on service and authentication are for requests, not for the messages of
the client path (log entry 17). -/
def State.classDrop (s : State) (k : Carriage) (client : Bool) : Option Fld :=
  let n := k.port / 4
  let sv := if client then 1 else s.serviceOf k
  let auth := decide (authk k.frame ≠ 0)
  if malformed k.frame then some (R.CO_MALFORMED_COUNT n)
  else if !s.flag (R.PG_CTRL_EN (P.CO n)) || decide (sv = 0) || !s.holdsReins || bitOn s.shunt.coaches n then some (R.CO_TS_OFF_COUNT n)
  else if sv = 2 then some (R.CO_AUTH_FAIL_COUNT n)
  else if auth && !client && decide (s.get R.BOOT_STAGE_STAGE < 3) then some (R.CO_NOT_READY_COUNT n)
  else if auth && s.tamperOff then some (R.CO_KEY_OFF_COUNT n)
  else if s.stopScope n = 2 ∨ (s.stopScope n = 1 ∧ auth) then some (R.CO_FAULT_STOP_COUNT n)
  else none

/-- A carriage for the switch: it joins its coach's carriages for the CO-SW coupling, with the class that its tag gives it (R15, R24, R301). -/
def State.forward (s : State) (c : Nat) (k : Carriage) : State :=
  let s := s.putCar c { k with tclass := s.pcpClass k.gen k.frame, stage := .forward }
  let x := s.coachOf c
  s.putCoach c { x with toSw := x.toSw ++ [k.cid] }

/-- CARRIAGE_PARSE (R322 to R325): the frame has ended; PARSE checks it and CLASS sets its VERDICT. -/
def execCarriageParse (coach cid : Nat) (s : State) : Host.Outcome State Fault Refusal :=
  withUnit coach 6 (s.atStage coach cid .parse fun k s =>
    let src := match k.frame.ip with
      | some h => h.src
      | none => k.frame.src
    let k := { k with srch := (Config.srcHash src).toNat }
    let serve (client : Bool) : State :=
      let s := s.bump (R.CO_RX_TS_COUNT coach)
      match s.classDrop k client with
      | some f => s.lose coach k f
      | none => s.putCar coach { k with verdict := 0, stage := .lookup }
    match s.classOf k with
    | .verdict 0 => serve false
    | .client => serve true
    | .verdict v => s.forward coach { k with verdict := v }
    | .drop f => s.lose coach k f)

/-! ## LOOKUP (R326, R351, R354, R360, R367) -/

/-- The address of a Delay_Req agrees with its entry (R351). -/
def sameAddr (e : ClientEntry) (f : Frame) : Bool :=
  decide (e.mac = f.src ∧ e.transport = transOf f) && (match f.ip with
    | some h => decide (e.ip = h.src)
    | none => true)

/-- At least half of 2^LOG s lies between two instants in 2^-16 s (R360). -/
def halfPassed (log : Int) (d : Nat) : Bool :=
  if -15 ≤ log then decide (2 ^ (log + 15).toNat ≤ d) else decide (0 < d)

/-- Lane time of a message (R327): `n` ns, and 10 ns per started 64 bytes beyond the first 256 where the lane works at all. -/
def laneTime (n len : Nat) : Nat := if n = 0 then 0 else n + 10 * ((len - 256 + 63) / 64)

/-- VERIFY starts: the versions in force at that tick are found and pinned, and a cookie is opened under them (R328, R339, R345, R383, R387, R389). -/
def State.startVerify (s : State) (c : Nat) (k : Carriage) : Carriage × State :=
  match k.frame.body with
  | .ptp m =>
    match m.auth.bind (fun a => s.ptpKey a.spp a.keyId) with
    | some (sl, v, _) => ({ k with key := some (sl, v.num) }, s.sendPin c true sl v.num)
    | none => (k, s)
  | .ntp m =>
    match m.nts with
    | none => (k, s)
    | some x =>
      match s.openCookie x.cookie with
      | some (sl, v, a, c2s, s2c) =>
        ({ k with key := some (sl, v.num), cookKey := some (sl, a.num), c2s := c2s, s2c := s2c }, (s.sendPin c true sl v.num).sendPin c true sl a.num)
      | none => ({ k with nak := true }, s)
  | _ => (k, s)

/-- The carriage reaches VERIFY on its lane, and VERIFY starts (R327; log entry 24). -/
def State.toVerify (s : State) (c : Nat) (k0 : Carriage) : State :=
  let (k, s) := s.startVerify c k0
  let n := match authk k.frame with
    | 0 => 0
    | 1 => laneTime 60 (msgLen k.frame)
    | _ => laneTime 110 (msgLen k.frame)
  match s.entry k.client with
  | some e =>
    let r := s.clientPlace k.client e
    r.2.putCar c { k with place := r.1, laneNs := n, stage := .verify }
  | none => s.putCar c { k with place := s.placeOf (s.freeLane c), laneNs := n, stage := .verify }

/-- LOOKUP_DONE (R326, R351 to R354, R360, R367): `hit`: the client entry, or the bucket, was in the cache, else it is read over the memory coupling (R17);
`ecc`: its read meets an uncorrectable error. -/
def execLookupDone (coach cid : Nat) (hit ecc : Bool) (s : State) : Host.Outcome State Fault Refusal :=
  withUnit coach 6 (s.atStage coach cid .lookup fun k s => if !hit && !s.linkOpen (8 + coach) islSW 1 then s else
    match k.frame.body with
    | .ptp m =>
      let s := s.bump (if hit then R.CLT_CACHE_HIT_COUNT else R.CLT_CACHE_MISS_COUNT)
      let (s, bad) : State × Bool := if hit then (s, ecc) else s.dramTransfer ecc
      let found := s.findClient k.port m.srcId
      let dreq := decide (m.mtype = 1) && !toPtpGroup k.frame
      let e := found.bind (fun i => s.entry i)
      let ent := match e with
        | some x => !dreq || sameAddr x k.frame
        | none => false
      let client := if ent then found.getD noClient else noClient
      match (if bad then found else none) with
      | some i => (s.endCar coach k).cltEcc i
      | none =>
        let (act, s) : Nat × State := if found.isSome && s.cflag k.gen R.RATE_CFG_PTP_REG_EXEMPT then (0, s) else s.charge k.gen k.srch false k.ingT
        let k := { k with client := client, rateAct := act }
        let clientAuth := ent && (match e with
          | some x => x.auth
          | none => false)
        if act = 1 then s.endCar coach k
        else if s.stopScope coach = 1 ∧ clientAuth then s.lose coach k (R.CO_FAULT_STOP_COUNT coach)
        else if !dreq then s.toVerify coach k
        else match ent, e with
          | true, some x =>
            if granted x 9 k.ingT then
              if halfPassed x.logDresp ((unit16 k.ingT + 2 ^ 32 - x.lastDreq) % 2 ^ 32) then (s.putEntry client { x with lastDreq := unit16 k.ingT }).toVerify coach k
              else s.lose coach k R.CLT_DREQ_FAST_COUNT
            else if s.cflag k.gen R.CLT_POLICY_DREQ_NOGRANT then s.toVerify coach k else s.lose coach k R.CLT_NO_GRANT_COUNT
          | _, _ => if s.cflag k.gen R.CLT_POLICY_DREQ_NOGRANT then s.toVerify coach k else s.lose coach k R.CLT_NO_GRANT_COUNT
    | _ =>
      let (act, s) := s.charge k.gen k.srch true k.ingT
      let k := { k with rateAct := act }
      if act = 1 then s.endCar coach k else s.toVerify coach k)

/-! ## ICVs and the NTS fields (R339, R344) -/

/-- A TLV as numbers. -/
def tlvNums (v : Tlv) : List Int :=
  match v with
  | .request m l d => [4, m, l, d]
  | .grant m l d r => [5, m, l, d, if r then 1 else 0]
  | .cancel m => [6, m]
  | .ackCancel m => [7, m]
  | .org b => 3 :: b.map (fun x => (x : Int))
  | .other t n => [t, n]

/-- What the ICV covers: the message up to keyID, correctionField as zero where ICV_CF is 1 (R339). -/
def icvNums (m : PtpMsg) (zeroCf : Bool) (spp keyId : Nat) : List Int :=
  let b (x : Bool) : Int := if x then 1 else 0
  let f := m.flags
  let ann : List Int := match m.ann with
    | some a => [a.utc, a.prio1, a.cls, a.acc, a.var, a.prio2, a.gmId, a.steps, a.timeSrc]
    | none => []
  [(m.mtype : Int), m.domain, b f.twoStep, b f.leap61, b f.leap59, b f.utcValid, b f.ptpScale, b f.timeTrace, b f.freqTrace, if zeroCf then 0 else m.corr, m.srcId, m.seq, m.log, m.sec,
    m.ns, m.reqId] ++ ann ++ m.tlvs.flatMap tlvNums ++ [(spp : Int), 0, keyId]

def State.icvOf (s : State) (g alg key : Nat) (m : PtpMsg) (spp keyId : Nat) : Nat := Config.ptpIcv alg key (icvNums m (s.cflag g (R.CO_PTP_CFG_ICV_CF 0)) spp keyId)

/-- The 48 bytes of an NTP header. -/
def ntpHeader (m : NtpMsg) : List Nat :=
  [m.li % 4 * 64 + m.version % 8 * 8 + m.mode % 8, m.stratum % 256, ofSigned 8 m.poll, ofSigned 8 m.precision] ++ bytesBE 4 m.rootDelay ++ bytesBE 4 m.rootDisp ++
    bytesBE 4 m.refId ++ bytesBE 8 m.refTs ++ bytesBE 8 m.orgTs ++ bytesBE 8 m.recTs ++ bytesBE 8 m.xmtTs

/-- The associated data of the NTS authenticator: the message before it, then the nonce. -/
def ntsAd (m : NtpMsg) (x : NtsFields) : List (List Nat) := [ntpHeader m, x.uid, x.cookie, [x.spare], x.nonce]

/-! ## Lanes fail (R329) -/

/-- The carriage holds a lane: from VERIFY through SIGN. -/
def holdsLane (k : Carriage) (lane : Nat) : Bool :=
  decide (k.place % 32 = lane) && decide (k.stage = .verify ∨ k.stage = .compose ∨ k.stage = .composed ∨ k.stage = .sign)

/-- The two results of a lane disagree (R329). -/
def State.laneFault (s : State) (lane : Nat) : State :=
  let c := lane / 4
  let s := (s.setLane lane 2).loseAll c (fun k => holdsLane k lane) (R.CO_LANE_DROP_COUNT c)
  ((s.raise (P.CO c) E.CO_LANE_FAULT).pulse 31).trig (8 + c) 0x70 [c, E.CO_LANE_FAULT, lane]

/-! ## The client path (R340) -/

def State.upOf (s : State) (p : Nat) : UpState := kvGetD (s.coachOf (p / 4)).ups p .init
def State.putUp (s : State) (p : Nat) (u : UpState) : State :=
  let x := s.coachOf (p / 4)
  s.putCoach (p / 4) { x with ups := kvPut x.ups p u }

/-- The time of a message's timestamp field. -/
def stampTime (sec ns : Nat) : Int := (sec : Int) * secU + ns * nsU

/-- A Sync of the master, complete: t1, cS and t2 (R340); one offset sample for the candidate once a pair has arrived. -/
def State.upSync (s : State) (g p b : Nat) (t1 cS t2 log : Int) : State :=
  let u := s.upOf p
  let sl := s.slotOf b
  let s := s.putSlot b { sl with logSync := log, syncs := (s.ocxoAt t2 :: sl.syncs).take 16 }
  let ld := toSigned 4 (s.cget g (R.CO_UP_CFG_LOG_DREQ (p / 4) (p % 4)))
  let lim : Int := if 0 ≤ ld + 4 then secU * 2 ^ (ld + 4).toNat else secU / 2 ^ (-(ld + 4)).toNat
  match u.pair with
  | some (t3, t4, cD) =>
    if lim < t2 - t3 then s
    else
      let x := (t4 - t3 - cD * s72U) - (t2 - t1 - cS * s72U) + 2 * ofPs (s.cdelay g (R.PRT_DELAY_ASYM_PS p))
      let o := quot x (2 * s72U.toNat)
      let s := s.bump (R.CO_UP_SAMPLES_COUNT (p / 4))
      if s.up islRH then s.candSample b t2 (t2 + o * s72U) o (!s.flag R.VOTE_OSC_STAT_OCXO_WARM) true else s
  | none => s

/-- A message of the client path, verified where it carries a TLV (R340). -/
def State.upMsg (s : State) (k : Carriage) (m : PtpMsg) : State :=
  match s.boundCand k.port with
  | none => s
  | some b =>
    let p := k.port
    let u := s.upOf p
    if m.mtype = 0xB then
      match m.ann with
      | none => s
      | some a =>
        if u.master.isNone ∧ s.cget k.gen (R.CAND_PTP_CFG_CLASS_MAX b) < a.cls then s
        else if u.master.isNone ∨ u.master = some m.srcId then
          (s.putUp p { u with master := some m.srcId, ann := some a, annAt := k.ingT, annLog := m.log }).putSlot b { s.slotOf b with annClass := some a.cls }
        else s
    else if u.master ≠ some m.srcId then s
    else if m.mtype = 0 then
      let ip := match k.frame.ip with
        | some h => h.src
        | none => 0
      let s := s.putUp p { u with addr := some (k.frame.src, ip), sync := if m.flags.twoStep then some (k.ingT, m) else none }
      if m.flags.twoStep then s else s.upSync k.gen p b (stampTime m.sec m.ns) m.corr k.ingT m.log
    else if m.mtype = 8 then
      match u.sync with
      | some (t2, y) => if y.seq = m.seq then (s.putUp p { u with sync := none }).upSync k.gen p b (stampTime m.sec m.ns) (y.corr + m.corr) t2 y.log else s
      | none => s
    else
      match u.reqs.find? (fun (e : Nat × Int) => decide (e.1 = m.seq)) with
      | some (_, t3) => if m.reqId = s.ownId k.gen p ∧ (u.pair.isNone ∨ u.pairAt ≤ t3) then s.putUp p { u with pair := some (t3, stampTime m.sec m.ns, m.corr), pairAt := t3 } else s
      | none => s

/-- The length of 2^LOG s. -/
def logSpan (log : Int) : Int := if 0 ≤ log then secU * 2 ^ log.toNat else secU / 2 ^ (-log).toNat

/-- UPSTREAM_ANNOUNCE_TIMEOUT (R340): three Announce intervals after its last Announce the port's master is given up. -/
def execUpstreamAnnounceTimeout (port tick : Nat) (s : State) : Host.Outcome State Fault Refusal :=
  withUnit port 24 (
    let u := s.upOf port
    if u.master.isNone ∨ (s.ctrOf (8 + port / 4)).at_ tick < u.annAt + 3 * logSpan u.annLog then s
    else
      let s := s.putUp port { u with master := none, ann := none, sync := none }
      match s.boundCand port with
      | some b =>
        let s := s.putSlot b { s.slotOf b with annClass := none }
        if s.up islRH ∧ s.candSt b ≠ 0 ∧ s.candSt b ≠ 6 ∧ s.candSt b ≠ 1 then s.setCand b 1 6 else s
      | none => s)

/-! ## VERIFY (R328, R339, R344, R345) -/

/-- The carriage goes on to COMPOSE; a message of the client path is used and ends here. -/
def State.verified (s : State) (c : Nat) (k : Carriage) : State :=
  match k.frame.body with
  | .ptp m =>
    if m.mtype = 0 ∨ m.mtype = 8 ∨ m.mtype = 9 ∨ m.mtype = 0xB then
      let needs := s.cflag k.gen (R.CO_UP_CFG_AUTH c (k.port % 4))
      if needs && m.auth.isNone then s.lose c k (R.CO_AUTH_FAIL_COUNT c) else (s.upMsg k m).endCar c k
    else s.putCar c { k with stage := .compose }
  | _ => s.putCar c { k with stage := .compose }

/-- VERIFY_DONE (R328, R329, R339, R344, R345); `disagree`: the lane's check path disagrees. -/
def execVerifyDone (coach cid : Nat) (disagree : Bool) (s : State) : Host.Outcome State Fault Refusal :=
  withUnit coach 6 (s.atStage coach cid .verify fun k s =>
    if disagree then s.laneFault (k.place % 32)
    else if s.oldPlace k then s.lose coach k (R.CO_MIGRATE_DROP_COUNT coach)
    else match k.frame.body with
      | .ptp m =>
        match m.auth with
        | none => s.verified coach k
        | some a =>
          match k.key.bind (fun q => (s.verOf q.1 q.2).map (fun v => (attrAlg (s.slotK q.1).attr, v.key))) with
          | none => s.lose coach k (R.CO_AUTH_UNKNOWN_COUNT coach)
          | some (alg, key) =>
            if a.param ≠ 0 ∨ !a.last ∨ a.icv ≠ s.icvOf k.gen alg key m a.spp a.keyId then s.lose coach k (R.CO_AUTH_FAIL_COUNT coach)
            else s.verified coach k
      | .ntp m =>
        match m.nts with
        | none => s.verified coach k
        | some x =>
          if k.nak then s.verified coach k
          else if (Config.sivOpen k.c2s (ntsAd m { x with box := [] }) x.box).isNone then s.lose coach k (R.CO_AUTH_FAIL_COUNT coach)
          else s.verified coach { k with ncook := min 7 x.spare }
      | _ => s.verified coach k)

/-! ## Time fields (R337, R338, R341 to R343) -/

/-- The fraction of R337: bits 29:0 of a T108 value in units of 2^-16 ns, to the nearest. -/
def fracOf (t : Int) : Int := nearQ ((toT108 t % 2 ^ 30 : Nat) : Int) 16384

def secOf (t : Int) : Nat := toT108 t / 2 ^ 60
def nsOf (t : Int) : Nat := toT108 t / 2 ^ 30 % 2 ^ 30

/-- The LEAP field that a coach has: the UTC offset in force, the kind of the leap pending, and VALID (R20, R127). -/
def State.coachLeap (s : State) (c : Nat) : Nat := (s.ctrOf (8 + c)).leap
def State.coachOffset (s : State) (c : Nat) : Int := toSigned 12 (s.coachLeap c / 16)

/-- LEAP_AT and the sign of the leap that concerns a coach: the one that its LEAP field shows as pending, or the last one (R128, R342, R343). -/
def State.leapOf (s : State) (c : Nat) : Option (Int × Int × Bool) :=
  let k := s.coachLeap c / 4 % 4
  if k ≠ 0 then some ((s.get R.VOTE_LEAP_AT_S : Int), if k = 1 then 1 else -1, true) else (s.coachOf c).lastLeap.map (fun p => (p.1, p.2, false))

/-- The offsets before and after that leap. -/
def State.leapOffsets (s : State) (c : Nat) : Int × Int :=
  let o := s.coachOffset c
  match s.leapOf c with
  | some (_, sg, true) => (o, o + sg)
  | some (_, sg, false) => (o - sg, o)
  | none => (o, o)

/-- An instant as an NTP timestamp of a coach (R342, R343). -/
def State.ntpTime (s : State) (c : Nat) (smear : Bool) (t : Int) : Nat :=
  let (o0, o1) := s.leapOffsets c
  let plain (o : Int) : Int := nearQ (t * 2 ^ 32) secU.toNat - o * 2 ^ 32
  let v : Int := match s.leapOf c with
    | none => plain o0
    | some (l, sg, _) =>
      let a := (l - 43200) * secU
      if smear then
        if t < a then plain o0
        else if (l + 43200) * secU < t then plain o1
        else nearQ (((t - o0 * secU) * 86400 - sg * (t - a)) * 2 ^ 32) (secU.toNat * 86400)
      else if t < (if sg = 1 then l - 1 else l) * secU then plain o0 else plain o1
  ((v + 2208988800 * 2 ^ 32) % 2 ^ 64).toNat

/-- ING_T lies within the day before LEAP_AT, with the leap pending: 1 insertion, 2 deletion, 0 not. -/
def State.leapNear (s : State) (c : Nat) (t : Int) : Nat :=
  match s.leapOf c with
  | some (l, sg, true) => if (l - 86400) * secU ≤ t ∧ t < l * secU then (if sg = 1 then 1 else 2) else 0
  | _ => 0

/-- The values that RH published to a coach and that are in force at an instant (R264). -/
def State.pubFor (s : State) (c : Nat) (t : Int) : TebPub := s.pubAt c (if t < (s.ctrOf (8 + c)).at_ 6250 then 0 else 6250)

/-- timeSource (R338). -/
def State.timeSource (s : State) (p : TebPub) (pass : Option AnnBody) : Nat :=
  if p.source = 0xF0 then 0x60
  else if p.source = 0xFF ∨ s.candFreq (p.source / 16) then 0xA0
  else match p.source % 16 with
    | 2 => 0x20
    | 3 => match pass with
      | some a => a.timeSrc
      | none => 0x40
    | 1 => 0x90
    | 5 => 0x90
    | _ => 0xA0

/-- The upstream Announce that BC_PASS passes on (R338). -/
def State.passed (s : State) (g : Nat) (p : TebPub) : Option AnnBody :=
  if s.cflag g (R.CO_PTP_CFG_BC_PASS 0) ∧ p.source ≠ 0xFF ∧ p.source ≠ 0xF0 ∧ p.source % 16 = 3 then (s.upOf (s.candUnit (p.source / 16))).ann else none

/-- The flags of Announce, Sync and Follow_Up (R338). -/
def State.ptpFlags (s : State) (k : Carriage) (p : TebPub) (two : Bool) : PtpFlags :=
  let c := k.port / 4
  { twoStep := two, leap61 := decide (s.leapNear c k.ingT = 1), leap59 := decide (s.leapNear c k.ingT = 2), utcValid := (s.coachLeap c).testBit 1, ptpScale := true,
    timeTrace := p.valid && decide (p.cls = s.cget k.gen R.TEB_CLASS_CFG_LOCKED), freqTrace := p.valid }

/-- The body of an Announce of a port (R338, R450). -/
def State.annBody (s : State) (g port : Nat) (p : TebPub) : AnnBody :=
  let stop := decide (s.stopScope (port / 4) = 2)
  let c0 := 0
  let up := s.passed g p
  { utc := s.coachOffset (port / 4), cls := if stop then s.cget g R.TEB_CLASS_CFG_DEGRADED else p.cls, acc := if stop then 0xFE else clockAccuracy p (port % 4),
    var := s.cget g (R.CO_PTP_VAR_VAR c0), timeSrc := s.timeSource p up,
    prio1 := match up with
      | some a => a.prio1
      | none => s.cget g (R.CO_PTP_CFG_PRIO1 c0)
    prio2 := match up with
      | some a => a.prio2
      | none => s.cget g (R.CO_PTP_CFG_PRIO2 c0)
    gmId := match up with
      | some a => a.gmId
      | none => s.ownId g port / 65536
    steps := match up with
      | some a => a.steps + 1
      | none => 0 }

/-- The organization extension of a message, where it is exported (R270). -/
def State.orgTlvs (s : State) (g port : Nat) (p : TebPub) (on : Fld) : List Tlv :=
  let id := s.cget g R.TEB_ORG_ID_ID
  if s.cflag g on ∧ id ≠ 0 then [.org (orgTlv p (port % 4) id (s.cget g R.TEB_ORG_SUB_SUB))] else []

/-- The length of a PTP message (R339, R356, R270). -/
def ptpLen (m : PtpMsg) : Nat :=
  let base := if m.mtype = 0xB then 64 else if m.mtype = 9 ∨ m.mtype = 2 ∨ m.mtype = 3 then 54 else 44
  let tl (v : Tlv) : Nat := match v with
    | .request _ _ _ => 10
    | .grant _ _ _ _ => 12
    | .cancel _ => 6
    | .ackCancel _ => 6
    | .org b => b.length
    | .other _ n => n + 4
  base + (m.tlvs.foldl (fun n v => n + tl v) 0) + (if m.auth.isSome then 26 else 0)

/-- The length of an NTP message with its NTS fields: the Unique Identifier, and the authenticator around `n` cookies. -/
def ntpLen (m : NtpMsg) (n : Nat) (auth : Bool) : Nat :=
  48 + (match m.nts with
    | some x => 4 + x.uid.length + (if auth then 40 + 104 * n else 0)
    | none => 0)

/-! ## COMPOSE (R328, R330 to R332, R336 to R345) -/

/-- The answer's frame around a body: addresses and UDP ports exchanged; to the multicast address of a request sent to one (R322). -/
def State.replyFrame (s : State) (k : Carriage) (body : Body) (n : Nat) : Frame :=
  let f := k.frame
  let group := toPtpGroup f
  let ip := f.ip.map (fun h => { h with src := s.portIp k.gen k.port h.v6, dst := if group then h.dst else h.src, ttl := 64, udp := h.udp.map (fun u => (u.2, u.1)) })
  withLen { dst := if group then f.dst else f.src, src := s.portMac k.gen k.port, tags := f.tags, ip := ip, len := 64, body := body, sumOk := true, lenOk := true } n

/-- The frame of a carriage of ORIGIN 1: MAC, transport, IP address and tags of its receiver; the DSCP, which the spec does not state, is a free value; the UDP
ports of PTP are those of IEEE 1588 (PRESUMED, log entry 26). -/
def State.timedFrame (s : State) (k : Carriage) (mac trans ip : Nat) (tags : List (Bool × Nat)) (m : PtpMsg) : Frame × State :=
  let port := if m.mtype < 4 then 319 else 320
  let f := s.takeFree
  let h : Option IpHdr := if trans = 0 then none
    else some { v6 := decide (trans = 2), src := s.portIp k.gen k.port (decide (trans = 2)), dst := ip, dscp := f.1 % 64, ttl := 64, plain := true, udp := some (port, port) }
  (withLen { dst := mac, src := s.portMac k.gen k.port, tags := tags, ip := h, len := 64, body := .ptp m, sumOk := true, lenOk := true } (ptpLen m),
   if trans = 0 then s else f.2)

/-- The PTP multicast destination of a transport: MAC and IP address (R324, R281). -/
def groupAddr (trans : Nat) : Nat × Nat :=
  if trans = 0 then (0x011B19000000, 0) else if trans = 1 then (0x01005E000181, 0xE0000181) else (0x333300000181, 0xFF0E0000000000000000000000000181)

/-- A message with nothing in it yet. -/
def State.blankMsg (s : State) (k : Carriage) (mtype : Nat) : PtpMsg :=
  { mtype := mtype, domain := s.cget k.gen (R.CO_PTP_CFG_DOMAIN 0), flags := s.ptpFlags k (s.pubFor (k.port / 4) k.ingT) false, corr := 0, srcId := s.ownId k.gen k.port,
    seq := 0, log := 0x7F, sec := 0, ns := 0, reqId := 0, ann := none, tlvs := [], auth := none }

/-- An answer's flags: ptpTimescale only. -/
def plainFlags : PtpFlags := { twoStep := false, leap61 := false, leap59 := false, utcValid := false, ptpScale := true, timeTrace := false, freqTrace := false }

/-- The message of an answer before its departure is known, and the state after negotiation; none: nothing is sent (R336, R337, R356). -/
def State.ptpAnswer (s : State) (k : Carriage) (m : PtpMsg) : Option PtpMsg × State :=
  let auth := m.auth.map (fun a => { a with param := 0, icv := 0, last := true })
  let b := { s.blankMsg k 0 with flags := plainFlags, seq := m.seq, reqId := m.srcId, auth := auth }
  if m.mtype = 1 then (some { b with mtype := 9, sec := secOf k.ingT, ns := nsOf k.ingT, corr := m.corr - fracOf k.ingT }, s)
  else if m.mtype = 2 then (some { b with mtype := 3, corr := m.corr }, s)
  else
    let ip := match k.frame.ip with
      | some h => h.src
      | none => 0
    let q : NegReq := { port := k.port, transport := transOf k.frame, mac := k.frame.src, ip := ip, tags := k.frame.tags, portId := m.srcId, auth := m.auth.isSome,
                        keySlot := (k.key.getD (0, 0)).1, place := k.place, gen := k.gen, ingT := k.ingT }
    let other := m.tlvs.any (fun v => !isNeg v)
    let s := if other ∧ s.cflag k.gen R.CLT_POLICY_SIG_HOST then s.bump R.CLT_SIG_HOST_COUNT else s
    let r := s.negotiate q (m.tlvs.filter isNeg)
    (if r.2 = [] then none else some { b with mtype := 0xC, tlvs := r.2 }, r.1)

/-- Reference ID of a stratum 1 answer by SRC (R341). -/
def refIdOf (src : Nat) : Option Nat :=
  match src with
  | 1 => some 0x50505300
  | 2 => some 0x474E5353
  | 3 => some 0x50545000
  | 5 => some 0x50454552
  | _ => none

/-- The answer to an NTP request, its transmit timestamp not yet written (R341, R345, R368). -/
def State.ntpAnswer (s : State) (k : Carriage) (m : NtpMsg) : NtpMsg × State :=
  let nts : Option NtsFields := m.nts.map (fun x => { layoutOk := true, uid := x.uid, cookie := [], spare := 0, nonce := [], box := [] })
  let base : NtpMsg := { li := 3, version := m.version, mode := 4, stratum := 0, poll := m.poll, precision := -33, rootDelay := 0, rootDisp := 0, refId := 0, refTs := 0,
                         orgTs := m.xmtTs, recTs := 0, xmtTs := 0, nts := nts }
  if k.nak then ({ base with refId := 0x4E54534E }, s)
  else if k.rateAct = 2 then ({ base with refId := 0x52415445 }, s)
  else
    let smear := s.cflag k.gen (R.CO_NTP_CFG_SMEAR 0)
    let p := s.pubFor (k.port / 4) k.ingT
    let q := ntpQuality p (k.port % 4) (s.cflag k.gen R.TEB_EXPORT_NTP_ALARM) (if smear then 0 else s.leapNear (k.port / 4) k.ingT)
    let src := if p.source = 0xF0 then none else if p.source ≠ 0xFF ∧ !s.candFreq (p.source / 16) then refIdOf (p.source % 16) else refIdOf s.sel.lastTimeSrc
    let f := s.takeFree
    let (id, s) : Nat × State :=
      if q.2.1 = 16 then (0x494E4954, s)
      else if p.source = 0xF0 then (0x484F5354, s)
      else match src with
        | some x => (x, s)
        | none => (f.1 % 2 ^ 32, f.2)
    ({ base with li := q.1, stratum := q.2.1, rootDisp := q.2.2, refId := id, refTs := s.ntpTime (k.port / 4) smear s.pipe.lastAcc, recTs := s.ntpTime (k.port / 4) smear k.ingT }, s)

/-- The message of a timetable carriage to a client, with its interval and sequence (R337, R338). -/
def State.timedMsg (s : State) (k : Carriage) (two : Bool) (logA logS : Int) (seqA seqS : Nat) : PtpMsg :=
  let p := s.pubFor (k.port / 4) k.ingT
  match k.kind with
  | .announce => { s.blankMsg k 0xB with seq := seqA, log := logA, ann := some (s.annBody k.gen k.port p), tlvs := s.orgTlvs k.gen k.port p R.TEB_EXPORT_ORG_ANN }
  | .sync => { s.blankMsg k 0 with seq := seqS, log := logS, flags := s.ptpFlags k p two,
                                   tlvs := if two then [] else s.orgTlvs k.gen k.port p R.TEB_EXPORT_ORG_SYNC }
  | .followUp => { s.blankMsg k 8 with seq := seqS, log := logS, tlvs := s.orgTlvs k.gen k.port p R.TEB_EXPORT_ORG_SYNC }
  | .delayReq => { s.blankMsg k 1 with flags := plainFlags, seq := seqS }
  | .cancel t => { s.blankMsg k 0xC with flags := plainFlags, seq := seqS,
                                         tlvs := (if bitOn t 0 then [.cancel 0xB] else []) ++ (if bitOn t 1 then [.cancel 0] else []) ++ (if bitOn t 2 then [.cancel 9] else []) }

/-- The earliest free departure at or after `e` (R330, R331): reservations passed one after the other. -/
def departFrom (mode len port : Nat) (dtx : Int) (res : List (Int × Int)) (e : Int) (fuel : Nat) : Int :=
  let d := e + Config.gridDelay port mode e
  match fuel with
  | 0 => d
  | n + 1 =>
    match res.filter (fun r => spansMeet (wireSpan mode len (d - dtx)) r) with
    | [] => d
    | l => departFrom mode len port dtx res (l.foldl (fun m r => max m (r.2 + wireTime mode 8 + dtx)) (d + 1)) n

/-- DEPART on the scale in force (R330): `excess` ns beyond the 600 ns of SIGN. -/
def State.chooseDepart (s : State) (k : Carriage) (len : Nat) (now : Int) (excess : Nat) : Int :=
  let c := k.port / 4
  let lead := max (s.get (R.CO_LEAD_MIN_NS c)) (min 10000000 (s.cget k.gen (R.CO_PIPE_LEAD_NS c)))
  let res := s.reserved k.port
  departFrom (s.portMode k.port) len k.port (ofPs (s.cdelay k.gen (R.PRT_DELAY_TX_PS k.port))) res (now + (lead + excess : Nat) * nsU) (res.length + 1)

/-- The departure written into a message (R337, R341). -/
def State.writeDepart (s : State) (k : Carriage) (f : Frame) (d : Int) : Frame :=
  match f.body with
  | .ptp m =>
    match m.mtype with
    | 0 => { f with body := .ptp { m with sec := secOf d, ns := nsOf d, corr := if m.flags.twoStep then 0 else fracOf d } }
    | 1 => { f with body := .ptp { m with sec := secOf d, ns := nsOf d, corr := fracOf d } }
    | 3 => { f with body := .ptp { m with corr := m.corr + nearQ (d - k.ingT) s72U.toNat } }
    | _ => f
  | .ntp m => if m.stratum = 0 then f else { f with body := .ntp { m with xmtTs := s.ntpTime (k.port / 4) (s.cflag k.gen (R.CO_NTP_CFG_SMEAR 0)) d } }
  | _ => f

/-- The SIGN queue of the carriage's lane has room for it (R332). -/
def State.signRoom (s : State) (k : Carriage) : Bool :=
  let q := s.getOr (R.CO_SIGN_QMAX_NS (k.port / 4)) 250 4000 1000
  let load := s.signLoad (k.place % 32)
  decide (load + k.laneNs ≤ q) || (decide (q < k.laneNs) && decide (load = 0))

/-- The carriage goes to its SIGN queue, or waits in COMPOSE (R332). -/
def State.admitSign (s : State) (k : Carriage) : State :=
  s.putCar (k.port / 4) { k with stage := if s.signRoom k then .sign else .composed }

/-- DEPART as it is promised: one past the mark at which a step announced to the coach applies is written on the stepped scale (R126); with the number of the mark
from which that scale holds. -/
def State.promised (s : State) (c : Nat) (d : Int) : Int × Nat :=
  if s.coachStep c ≠ 0 ∧ nextMs s.ax.mark ≤ d then (d + s.coachStep c, s.ax.marks + 1) else (d, 0)

/-- A step or load is announced to a coach: the departures it has promised before for instants past the applying mark are discarded and counted MISSED (R126; for a
load DEDUCED, log entry 17). -/
def State.stepMissed (s : State) (c : Nat) : State :=
  let x := s.ctrOf (8 + c)
  if x.step = 0 ∧ !x.load then s
  else
    let far (k : Carriage) : Bool := decide (k.scaleNo ≤ s.ax.marks) && (match k.depart with
      | some d => decide (nextMs s.ax.mark ≤ d)
      | none => false)
    ((s.coachOf c).cars.filter far).foldl (fun t k => (t.endCar c k).sta k.port 15 1) s

/-- The answer is known: its departure is promised and it goes toward SIGN (R330 to R332, R431); on a port that is not UP none is promised (R284). -/
def State.promise (s : State) (k : Carriage) (f : Frame) (now : Int) (signNs : Nat) : State :=
  let c := k.port / 4
  let (d, no) := s.promised c (s.chooseDepart k f.len now (signNs - 600))
  let late := match s.reinsEnd with
    | some e => decide (e < d)
    | none => false
  if !s.portUp k.port then s.endCar c k
  else if late then s.lose c k R.DUG_REINS_DROP_COUNT
  else
    let k := { k with frame := s.writeDepart k f d, depart := some d, scaleNo := no, laneNs := signNs, tebv := (s.pubFor c k.ingT).ports.getD (k.port % 4) 0 }
    let s := match k.kind, k.origin with
      | .delayReq, 1 =>
        let u := s.upOf k.port
        let q := match f.body with
          | .ptp m => m.seq
          | _ => 0
        s.putUp k.port { u with reqs := ((q, d) :: u.reqs).take 64 }
      | _, _ => s
    s.admitSign k

/-- The key of a carriage of ORIGIN 1: the slot its configuration names, where the message is authenticated (R339). -/
def State.timedKey (s : State) (k : Carriage) : Option Nat :=
  let c := k.port / 4
  let i := k.port % 4
  match k.ent with
  | some e => if e.auth then some e.keySlot else none
  | none =>
    match k.kind with
    | .delayReq => if s.cflag k.gen (R.CO_UP_CFG_AUTH c i) then some (s.cget k.gen (R.CO_UP_CFG_KEY_SLOT c i)) else none
    | _ => if s.cflag k.gen (R.CO_MC_CFG_AUTH c i) then some (s.cget k.gen (R.CO_MC_CFG_KEY_SLOT c i)) else none

/-- A carriage of ORIGIN 1 at COMPOSE, its key pinned: receiver, message and departure; the sequenceId of a CANCEL, which the spec does not state, is a free
value. -/
def State.composeTimed (s : State) (k : Carriage) (auth : Option AuthTlv) (now : Int) : State :=
  let c := k.port / 4
  let i := k.port % 4
  let ns (m : PtpMsg) : Nat := if auth.isSome then laneTime 60 (ptpLen m) else 0
  match k.kind, k.ent with
  | .followUp, _ =>
    let m : PtpMsg := match k.frame.body with
      | .ptp y => { y with auth := auth }
      | _ => s.blankMsg k 8
    s.promise k (withLen { k.frame with body := .ptp m } (ptpLen m)) now (ns m)
  | .delayReq, _ =>
    let t := s.cget k.gen (R.CO_UP_CFG_TRANSPORT c i)
    let u := s.upOf k.port
    let x := s.portOf k.port
    let trans := if t = 1 ∨ t = 3 then 1 else if t = 2 ∨ t = 4 then 2 else 0
    let a := if 3 ≤ t then u.addr.getD (0, 0) else groupAddr trans
    let m := { s.timedMsg k false 0 0 0 x.dreqSeq with auth := auth }
    let (f, s) := (s.putPort k.port { x with dreqSeq := (x.dreqSeq + 1) % 65536 }).timedFrame k a.1 trans a.2 [] m
    s.promise k f now (ns m)
  | .cancel _, some e =>
    let fr := s.takeFree
    let m := { s.timedMsg k false 0 0 0 (fr.1 % 65536) with auth := auth }
    let (f, s) := fr.2.timedFrame k e.mac e.transport e.ip e.tags m
    s.promise k f now (ns m)
  | _, some e =>
    let m := { s.timedMsg k e.twoStep e.logAnn e.logSync e.annSeq e.syncSeq with auth := auth }
    let (f, s) := s.timedFrame k e.mac e.transport e.ip e.tags m
    s.promise k f now (ns m)
  | _, none =>
    let x := s.portOf k.port
    let trans := s.cget k.gen (R.CO_MC_CFG_TRANSPORT c i)
    let a := groupAddr trans
    let la := toSigned 4 (s.cget k.gen (R.CO_MC_CFG_LOG_ANN c i))
    let ls := toSigned 4 (s.cget k.gen (R.CO_MC_CFG_LOG_SYNC c i))
    let m := { s.timedMsg k (s.cflag k.gen (R.CO_MC_CFG_TWO_STEP c i)) la ls x.mcAnnSeq x.mcSyncSeq with auth := auth }
    let x' : PortState := if k.kind = .announce then { x with mcAnnSeq := (x.mcAnnSeq + 1) % 65536 } else { x with mcSyncSeq := (x.mcSyncSeq + 1) % 65536 }
    let (f, s) := (s.putPort k.port x').timedFrame k a.1 trans a.2 [] m
    s.promise k f now (ns m)

/-- COMPOSE (R328, R330, R336 to R345): the carriage enters COMPOSE at the tick of its coach. -/
def execComposeCarriage (coach cid tick : Nat) (s : State) : Host.Outcome State Fault Refusal :=
  withUnit coach 6 (s.atStage coach cid .compose fun k s =>
    let now := (s.ctrOf (8 + coach)).at_ tick
    if s.oldPlace k then s.lose coach k (R.CO_MIGRATE_DROP_COUNT coach)
    else if k.origin = 1 then
      match s.timedKey k with
      | none => s.composeTimed k none now
      | some slot =>
        let ver : Option (KeyVer × Nat × Nat) := match k.key with
          | some (_, n) => (s.verOf slot n).map (fun v => (v, attrAlg (s.slotK slot).attr, attrSpp (s.slotK slot).attr))
          | none => s.slotActive slot
        if s.tamperOff then s.lose coach k (R.CO_KEY_OFF_COUNT coach)
        else match ver with
          | none => s.lose coach k (R.CO_AUTH_UNKNOWN_COUNT coach)
          | some (v, _, spp) =>
            let k' := { k with key := some (slot, v.num) }
            (if k.key.isSome then s else s.sendPin coach true slot v.num).composeTimed k' (some { spp := spp, param := 0, keyId := v.keyId, icv := 0, last := true }) now
    else match k.frame.body with
      | .ptp m =>
        let r := s.ptpAnswer k m
        let s := if m.tlvs.any (fun v => !isNeg v) && decide (m.mtype = 0xC) && s.cflag k.gen R.CLT_POLICY_SIG_HOST then
            let n := (r.2.coachOf coach).nextCid
            let y : Carriage := { k with cid := n, verdict := 3, key := none, cookKey := none, depart := none, laneNs := 0 }
            (r.2.addCar coach (fun _ => y)).forward coach y
          else r.2
        match r.1 with
        | none => s.endCar coach k
        | some a => s.promise k (s.replyFrame k (.ptp a) (ptpLen a)) now (if a.auth.isSome then laneTime 60 (ptpLen a) else 0)
      | .ntp m =>
        let (a, s) := s.ntpAnswer k m
        let n := if k.rateAct = 2 then 1 else k.ncook + 1
        let box := a.nts.isSome && !k.nak
        let len := ntpLen a n box
        let s := if k.nak then s.bump (R.CO_NTS_NAK_COUNT coach) else s
        s.promise k (s.replyFrame k (.ntp a) len) now (if box then laneTime (120 + 50 * (n - 1)) len else 0)
      | _ => s.endCar coach k)

/-- SIGN_QUEUE_ADMIT (R332). -/
def execSignQueueAdmit (coach cid : Nat) (s : State) : Host.Outcome State Fault Refusal :=
  withUnit coach 6 (s.atStage coach cid .composed fun k s => s.admitSign k)

/-! ## SIGN and SEAL (R328, R329, R333 to R335, R411) -/

/-- `n` new cookies for a response (R344, R388); nonces are free values. -/
def State.newCookies (s : State) (k : Carriage) (n : Nat) : List Nat × State :=
  match k.cookKey with
  | none => ([], s)
  | some (slot, num) =>
    let key := match s.verOf slot num with
      | some v => v.key
      | none => 0
    (List.range n).foldl (fun (z : List Nat × State) _ =>
      let f := z.2.takeFree
      (z.1 ++ makeCookie slot num key (bytesBE 16 f.1) (cookiePlain k.c2s k.s2c), f.2)) ([], s)

/-- The signed message (R322, R339, R344). -/
def State.signFrame (s : State) (k : Carriage) : Frame × State :=
  match k.frame.body with
  | .ptp m =>
    match m.auth, k.key with
    | some a, some (slot, num) =>
      let key := match s.verOf slot num with
        | some v => v.key
        | none => 0
      let icv := s.icvOf k.gen (attrAlg (s.slotK slot).attr) key m a.spp a.keyId
      ({ k.frame with body := .ptp { m with auth := some { a with icv := icv } } }, s)
    | _, _ => (k.frame, s)
  | .ntp m =>
    match m.nts with
    | some x =>
      if k.nak then (k.frame, s)
      else
        let (cs, s) := s.newCookies k (if k.rateAct = 2 then 1 else k.ncook + 1)
        let f := s.takeFree
        let x := { x with nonce := bytesBE 16 f.1 }
        ({ k.frame with body := .ntp { m with nts := some { x with box := Config.sivSeal k.s2c (ntsAd m x) cs } } }, f.2)
    | none => (k.frame, s)
  | _ => (k.frame, s)

/-- SIGN_DONE (R322, R328, R329): the lane completes; its pins are released. -/
def execSignDone (coach cid : Nat) (disagree : Bool) (s : State) : Host.Outcome State Fault Refusal :=
  withUnit coach 6 (s.atStage coach cid .sign fun k s =>
    if disagree then s.laneFault (k.place % 32)
    else if s.oldPlace k then s.lose coach k (R.CO_MIGRATE_DROP_COUNT coach)
    else
      let (f, s) := s.signFrame k
      (s.unpin coach k).putCar coach { k with frame := f, stage := .seal })

/-- SEAL_SETUP_CHECK (R333): at DEPART less SEAL.SETUP a carriage that is not signed is LATE. -/
def execSealSetupCheck (coach cid tick : Nat) (s : State) : Host.Outcome State Fault Refusal :=
  withUnit coach 6 (
    match s.car coach cid with
    | some k =>
      match s.departNow k with
      | some d =>
        let setup := s.getOr (R.CO_SEAL_SETUP_NS coach) 200 2000 400
        if k.stage = .seal ∨ !s.up (8 + coach) ∨ (s.ctrOf (8 + coach)).at_ tick < d - setup * nsU then s
        else ((s.lose coach k (R.CO_LATE_COUNT coach)).sta k.port 15 1).raise (P.CO coach) E.CO_LATE
      | none => s
    | none => s)

/-- The launch is refused (R334). -/
def State.noLaunch (s : State) (k : Carriage) : Bool :=
  !s.portUp k.port || s.flag (R.PRT_STATUS_TRAINING k.port) || decide (s.flt.brake ≠ .off) || s.coachOut (k.port / 4) || s.oldPlace k

/-- A two-step Sync's stamp: stored, compared with DEPART and drained (R290, R335). -/
def State.syncStamp (s : State) (k : Carriage) (land d : Int) : State :=
  let c := k.port / 4
  let outer := land + ofPs (s.cdelay k.gen (R.PRT_DELAY_TX_PS k.port))
  let n := (s.portOf k.port).tsf.length
  let s := s.tsfStore k.port outer k.cid 0 1
  let x := s.portOf k.port
  if x.tsf.length = n then s
  else
    let s := (s.putPort k.port { x with tsf := x.tsf.dropLast }).showTsf k.port
    if 3 * nsU < (outer - d).natAbs * 2000 then
      ((((s.bump (R.CO_DEPART_ERR_COUNT c)).raise (P.CO c) E.CO_DEPART_ERR).pulse (11 + c)).trig (8 + c) 0x70 [c, E.CO_DEPART_ERR, k.place % 32])
    else s

/-- The Follow_Up of a launched two-step Sync enters COMPOSE (R337). -/
def State.addFollowUp (s : State) (k : Carriage) (d : Int) : State :=
  match k.frame.body with
  | .ptp m =>
    let p := s.pubFor (k.port / 4) k.ingT
    let y : PtpMsg := { m with mtype := 8, flags := { m.flags with twoStep := false }, sec := secOf d, ns := nsOf d, corr := fracOf d, auth := none,
                               tlvs := s.orgTlvs k.gen k.port p R.TEB_EXPORT_ORG_SYNC }
    let ip := k.frame.ip.map (fun h => { h with udp := some (320, 320) })
    let s := match k.key with
      | some (sl, v) => s.sendPin (k.port / 4) true sl v
      | none => s
    s.addCar (k.port / 4) (fun n => { k with cid := n, kind := .followUp, stage := .compose, depart := none, laneNs := 0, frame := { k.frame with ip := ip, body := .ptp y } })
  | _ => s

/-- The frame of a carriage leaves with its timestamp point at the land at DEPART less DELAY_TX (R334). -/
def State.launchCar (s : State) (k : Carriage) (d land : Int) : State :=
  let c := k.port / 4
  let s := (s.dropCar c k.cid).sendGood k.port k.frame land
  match k.frame.body with
  | .ntp _ => s.bump (R.CO_NTP_TX_COUNT c)
  | .ptp m =>
    let s := s.bump (R.CO_PTP_TX_COUNT c)
    if m.mtype = 0 ∧ m.flags.twoStep then (s.syncStamp k land d).addFollowUp k d else s
  | _ => s

/-- LAUNCH (R333 to R335): at the start of its reservation the frame is launched, or the launch is refused; `st`: the egress stamp of a two-step Sync. -/
def execLaunch (coach cid tick : Nat) (st : Stamp) (s : State) : Host.Outcome State Fault Refusal :=
  withUnit coach 6 (s.atStage coach cid .seal fun k s =>
    match s.departNow k with
    | none => s
    | some d =>
      let land := d - ofPs (s.cdelay k.gen (R.PRT_DELAY_TX_PS k.port))
      if (s.ctrOf (8 + coach)).at_ (tick + 1) < (wireSpan (s.portMode k.port) k.frame.len land).1 then s
      else if s.noLaunch k then
        let s := (s.endCar coach k).sta k.port 15 1
        if s.oldPlace k then s.bump (R.CO_MIGRATE_DROP_COUNT coach) else s
      else
        let two := match k.frame.body with
          | .ptp m => decide (m.mtype = 0) && m.flags.twoStep
          | _ => false
        s.launchCar k d (if two then s.stampOf (9 + 2 * k.port) st else land))

/-- The sending of a frame is cut short: the next frame of an egress queue, or a carriage at its launch; it ends with an invalid FCS (R284, R334, R451). -/
def State.cutTx (s : State) (p : Nat) (r : TxRef) : State :=
  match r with
  | .queued cls =>
    match s.headOf p cls with
    | some f => (((s.descResult f 5).dropCopies f (fun x => decide (x.dst = p))).tidy).sendBad p f.frame
    | none => s
  | .carriage cid =>
    match s.car (p / 4) cid with
    | some k => if k.port = p ∧ k.stage = .seal then ((s.endCar (p / 4) k).sta p 15 1).sendBad p k.frame else s
    | none => s

/-! ## Timers (R336, R340, R365) -/

/-- An instant is the first tick at or past a whole multiple of 2^LOG s. -/
def atMultiple (t log : Int) : Bool :=
  decide (t % logSpan log < 2 * incNominal)

/-- MULTICAST_TIMER (R336, R340, R365): `kind` 0 multicast Announce, 1 multicast Sync, 2 client-path Delay_Req. -/
def execMulticastTimer (port kind tick : Nat) (s : State) : Host.Outcome State Fault Refusal :=
  withUnit port 24 (
    let n := port / 4
    let i := port % 4
    let t := (s.ctrOf (8 + n)).at_ tick
    let x := s.portOf port
    let fresh := decide (x.mcUps = x.ups) && x.mcOk
    let auth := s.flag (R.CO_MC_CFG_AUTH n i)
    let x' : PortState := { x with mcUps := x.ups, mcOk := fresh }
    if !s.up (8 + n) ∨ s.shunt.coaches.testBit n then s
    else if kind = 0 then
      if !s.flag (R.CO_MC_CFG_EN n i) ∨ !atMultiple t (toSigned 4 (s.get (R.CO_MC_CFG_LOG_ANN n i))) then s
      else if !s.mayCreate n true auth t then s.countStop n
      else
        let (p, s) := (s.putPort port { x' with mcOk := true }).mcPlace port
        s.addTimed port noClient p none .announce t
    else if kind = 1 then
      if !s.flag (R.CO_MC_CFG_EN n i) ∨ !atMultiple t (toSigned 4 (s.get (R.CO_MC_CFG_LOG_SYNC n i))) then s
      else if !fresh then s.putPort port x'
      else if !s.mayCreate n false auth t then s.countStop n
      else
        let (p, s) := s.mcPlace port
        s.addTimed port noClient p none .sync t
    else
      let uni := decide (3 ≤ s.get (R.CO_UP_CFG_TRANSPORT n i))
      if (s.boundCand port).isNone ∨ (uni ∧ (s.upOf port).addr.isNone) ∨ !atMultiple t (toSigned 4 (s.get (R.CO_UP_CFG_LOG_DREQ n i))) then s
      else if !s.mayCreate n false (s.flag (R.CO_UP_CFG_AUTH n i)) t then s.countStop n
      else
        let (p, s) := s.mcPlace port
        s.addTimed port noClient p none .delayReq t)

/-! ## Stopping service (R346) -/

/-- Work past its point of no return is left in the coach. -/
def State.coachBusy (s : State) (c : Nat) : Bool := (s.coachOf c).cars.any past

/-- Time service drains: carriages before their point of no return are dropped, the others complete (R346). -/
def State.drainCoach (s : State) (c : Nat) : State :=
  let s := s.loseAll c (fun k => inService k && !past k) (R.CO_DIS_DROP_COUNT c)
  let b := s.coachBusy c
  let s := (s.setFlag (R.PG_STAT_BUSY (P.CO c)) b).setFlag (R.CO_STATUS_DRAINING c) b
  if b then s else s.raise (P.CO c) E.CO_DRAINED

/-- COACH_DISABLE (R346): CO.PG_CTRL.EN is cleared. -/
def execCoachDisable (m : Master) (coach : Nat) (s : State) : Host.Outcome State Fault Refusal :=
  withUnit coach 6 (s.hostWrite m (R.PG_CTRL (P.CO coach)) fun s =>
    if s.flag (R.PG_CTRL_EN (P.CO coach)) then ((s.setFlag (R.PG_CTRL_EN (P.CO coach)) false).drainCoach coach).showServing coach else s)

/-- A fault reaction begins in a coach (R346, R450): carriages in its scope before their point of no return are dropped. -/
def State.faultStop (s : State) (c : Nat) : State :=
  let sc := s.stopScope c
  if sc = 0 then s else s.loseAll c (fun k => inService k && !past k && (decide (sc = 2) || s.carAuth k)) (R.CO_FAULT_STOP_COUNT c)

/-- Tamper zeroization meets the carriages of a coach (R346). -/
def State.tamperStop (s : State) (c : Nat) : State :=
  s.loseAll c (fun k => inService k && s.carAuth k && decide (k.stage ≠ .seal)) (R.CO_KEY_OFF_COUNT c)

end Sys2Proof.Machine
end

