-- ==== Sys2Proof/Machine/Ports.lean ====
section
/-! DEFINITION.
The Ethernet ports: reception, link states, modules and the cage bus, gears (R274 to R294, R41, R42).
-/
namespace Sys2Proof.Machine
open Sys2Proof

/-! ## Reception (R276, R279 to R282) -/

/-- The reserved group addresses that are always accepted (R281). -/
def reservedGroup (a : Nat) : Bool :=
  decide (a / 16 = 0x0180C200000) || decide (a = 0x011B19000000 ∨ a = 0x011B19000001 ∨ a = 0x01005E000181 ∨ a = 0x333300000181 ∨ a = 0x01005E00006B ∨ a = 0x33330000006B)

/-- A destination passes the group filter of a port (R281). -/
def State.accepts (s : State) (g p mac : Nat) : Bool :=
  let bin := crcBytes (bytesBE 6 mac) % 512
  !isGroup mac || decide (mac = macBcast) || reservedGroup mac || s.cflag g (R.PRT_CFG_MC_ALL p) || bitOn (s.cget g (R.PRT_MC_HASH_BINS p (bin / 32))) (bin % 32)

/-- The end of a pause of `quanta` that begins at an instant. -/
def State.pauseEnd (s : State) (p quanta : Nat) (t : Int) : Int := t + wireTime (s.portMode p) (64 * quanta)

/-- The check of R279 that decides a frame: its counter, 0 when it passes to PARSE. -/
def State.rxCheck (s : State) (p g : Nat) (f : Frame) (bad full : Bool) : Nat :=
  if f.len < 64 then 4
  else if 16383 < f.len then 6
  else if s.cget g (R.PRT_FRAME_MAX_BYTES p) < f.len then 5
  else if bad then 7
  else if full then 11
  else match f.body with
    | .pause _ => 9
    | .pfc _ _ => 10
    | _ => if s.accepts g p f.dst then 0 else 8

/-- A frame passed to PARSE as a carriage (R24, R25, R279). -/
def State.rxPass (s : State) (p g : Nat) (f : Frame) (ingT : Int) : State :=
  let s := s.sta p 0 1
  let s := s.sta p (if f.dst = macBcast then 3 else if isGroup f.dst then 2 else 1) 1
  (s.octets (R.STA_RX_OCTETS p) f.len).addCar (p / 4) (fun cid =>
    { cid := cid, origin := 0, port := p, portIn := p, place := 0, gen := g, ingT := ingT, verdict := 0, tclass := 0, buf := 0, tebv := 0, client := noClient, rateAct := 0, key := none, cookKey := none, c2s := 0,
      s2c := 0, ncook := 0, nak := false, depart := none, scaleNo := 0, laneNs := 0, stage := .parse, kind := .announce, ent := none, frame := f, srch := 0 })

/-- FRAME_RECEIVE (R276, R279 to R282): a frame on a port that is UP; `bad`: FCS or code error; `full`: it meets a full ingress FIFO; code errors and codewords
counted since the frame before. -/
def execFrameReceive (port : Nat) (st : Stamp) (f : Frame) (bad full : Bool) (codes corr uncorr : Nat) (s : State) : Host.Outcome State Fault Refusal :=
  withUnit port 24 (
    let c := port / 4
    if !s.up (8 + c) ∨ !s.portUp port then s
    else
      let land := s.stampOf (8 + 2 * port) st
      let ingT := land - ofPs (s.cdelay (s.genAt land) (R.PRT_DELAY_RX_PS port))
      let g := s.genAt ingT
      let s := ((s.demand c).sta port 21 codes).sta port 22 corr
      let s := s.sta port 23 uncorr
      let k := s.rxCheck port g f bad full
      if k = 0 then s.rxPass port g f ingT
      else
        let s := s.sta port k 1
        let x := s.portOf port
        match f.body with
        | .pause q => if k = 9 ∧ s.fcObey g port = 1 then s.putPort port { x with pause := (List.range 8).map (fun cl => (cl, s.pauseEnd port q land)) } else s
        | .pfc en qs =>
          if k = 10 ∧ s.fcObey g port = 2 then
            s.putPort port { x with pause := (List.range 8).foldl (fun m cl => if bitOn en cl then kvPut m cl (s.pauseEnd port (qs.getD cl 0) land) else m) x.pause }
          else s
        | _ => s)

/-! ## Link states (R283 to R285) -/

/-- LINK changes, with its event and the level UP. -/
def State.setLink (s : State) (p st : Nat) : State :=
  if s.link p = st then s else ((s.set (R.PRT_STATUS_LINK p) st).raise (P.PRT p) E.PRT_LINK).level (P.PRT p) E.PRT_UP (decide (st = 3))

/-- The queues of a port are flushed and its promised departures discarded (R284). -/
def State.flushPort (s : State) (p : Nat) : State :=
  let s := s.flushQueues p
  let l := (s.coachOf (p / 4)).cars.filter (fun (k : Carriage) => decide (k.port = p) && k.depart.isSome)
  l.foldl (fun t k => ((t.endCar (p / 4) k).sta p 15 1).sta p 16 1) s

/-- A port goes DOWN (R284); `cut`: the frame that was in transmission. -/
def State.goDown (s : State) (p : Nat) (cut : List TxRef) : State :=
  let was := s.link p
  let s := if was = 3 then (((cut.take 1).foldl (fun t r => t.cutTx p r) s).flushPort p).bump (R.PRT_LINK_DOWNS_COUNT p) else s
  let m := s.portMode p
  let s := (s.setLink p 1).set (R.PRT_STATUS_FEC_LOCK p) 0
  s.setFlag (R.PRT_STATUS_TRAINING p) (s.flag (R.PRT_MODE_TRAIN p) && decide (3 ≤ m ∧ m ≤ 5))

/-- A port goes OFF: queues flushed, transmitter squelched (R283, R285). -/
def State.goOff (s : State) (p : Nat) : State :=
  let s := (s.flushPort p).setLink p 0
  let s := (s.set (R.PRT_STATUS_FEC_LOCK p) 0).set (R.PRT_STATUS_TRAINING p) 0
  { s with boot := { s.boot with txOn := setBit s.boot.txOn p false } }

/-- LINK_LOSS (R283, R284): `why` 0 signal, 1 PCS lock, 2 FEC lock, 3 local fault, 4 remote fault, 5 receiver retrain. -/
def execLinkLoss (port why : Nat) (cut : Option TxRef) (s : State) : Host.Outcome State Fault Refusal :=
  withUnit port 24 (
    if s.link port < 2 then s
    else
      let s := s.goDown port cut.toList
      let s := if why = 3 then s.set (R.PRT_STATUS_LOCAL_FAULT port) 1 else s
      if why = 4 then s.set (R.PRT_STATUS_REMOTE_FAULT port) 1 else s)

/-- The port enters UP (R283); its count of moves to UP rises (R365). -/
def State.goUp (s : State) (p : Nat) : State :=
  let x := s.portOf p
  (s.setLink p 3).putPort p { x with ups := (x.ups + 1) % 16 }

/-- LINK_LOCK (R283): locked and trained, no fault; a coach out of service holds its ports DOWN (R409, R413). -/
def execLinkLock (port : Nat) (s : State) : Host.Outcome State Fault Refusal :=
  withUnit port 24 (
    if s.link port ≠ 1 ∨ !s.up (8 + port / 4) ∨ s.coachOut (port / 4) then s
    else
      let m := s.portMode port
      let fec := decide (m = 4 ∨ m = 5) || (decide (m = 3) && s.flag (R.PRT_MODE_FEC port))
      let s := ((s.setFlag (R.PRT_STATUS_FEC_LOCK port) fec).set (R.PRT_STATUS_TRAINING port) 0).set (R.PRT_STATUS_LOCAL_FAULT port) 0
      let s := (s.set (R.PRT_STATUS_REMOTE_FAULT port) 0).setLink port 2
      if s.get (R.PRT_LINK_HOLD_MS port) = 0 then s.goUp port else s)

/-- LINK_HOLD_EXPIRY (R283): the port has been in HOLD for `ms` milliseconds without a loss. -/
def execLinkHoldExpiry (port ms : Nat) (s : State) : Host.Outcome State Fault Refusal :=
  withUnit port 24 (if s.link port = 2 ∧ s.up (8 + port / 4) ∧ min 10000 (s.get (R.PRT_LINK_HOLD_MS port)) ≤ ms then s.goUp port else s)

/-- PORT_DISABLE (R283, R285): PRT.PG_CTRL.EN is cleared; `sending`: a frame is in transmission, and completes. -/
def execPortDisable (m : Master) (port : Nat) (sending : Bool) (s : State) : Host.Outcome State Fault Refusal :=
  withUnit port 24 (s.hostWrite m (R.PG_CTRL (P.PRT port)) fun s =>
    if !s.flag (R.PG_CTRL_EN (P.PRT port)) then s
    else
      let s := s.setFlag (R.PG_CTRL_EN (P.PRT port)) false
      if s.link port = 0 then s
      else if sending then
        let on := s.boot.txOn
        let t := (s.goOff port).setFlag (R.PG_STAT_BUSY (P.PRT port)) true
        { t with boot := { t.boot with txOn := on } }.putPort port { t.portOf port with closing := true }
      else s.goOff port)

/-- The frame in transmission of a disabled port has completed (R285). -/
def State.portDrained (s : State) (p : Nat) : State :=
  let x := s.portOf p
  if !x.closing then s
  else
    let s := (s.putPort p { x with closing := false }).setFlag (R.PG_STAT_BUSY (P.PRT p)) false
    { s with boot := { s.boot with txOn := setBit s.boot.txOn p (s.flag (R.PG_CTRL_EN (P.PRT p)) && decide (s.link p ≠ 0)) } }

/-! ## What a commit does to a port (R275, R282, R283) -/

/-- FC_OBEY, service bits and PTP binding of a port, as R282 watches them. -/
def State.fcNow (s : State) (p : Nat) : List Nat :=
  [s.get (R.PRT_CFG_FC_OBEY p), (s.rd (R.CO_TS_CFG (p / 4) (p % 4))).toNat % 16, (match s.boundCand p with
    | some _ => 1
    | none => 0)]

/-- FC_REFUSED at a commit (R282). -/
def State.fcCommit (s : State) (p : Nat) : State :=
  let now := s.fcNow p
  let refused := decide (now.getD 0 0 = 1 ∨ now.getD 0 0 = 2) && (decide (now.getD 1 0 ≠ 0) || decide (now.getD 2 0 ≠ 0))
  let was := s.flag (R.PRT_STATUS_FC_REFUSED p)
  let x := s.portOf p
  let s := (s.setFlag (R.PRT_STATUS_FC_REFUSED p) refused).putPort p { x with fcSeen := now }
  s.raiseIf (refused && (!was || decide (x.fcSeen ≠ now))) (P.PRT p) E.PRT_FC_REFUSED

/-- The link of a port at a commit: `old` is the state before it, `cuts` the frames in transmission on the port (R275, R283). -/
def State.portCommit (s old : State) (p : Nat) (cuts : List TxRef) : State :=
  let s := s.fcCommit p
  let live := s.flag (R.PG_CTRL_EN (P.PRT p)) && decide (1 ≤ s.portMode p ∧ s.portMode p ≤ 5)
  let pol (z : State) : List Nat := [(z.rd (R.PRT_MODE p)).toNat, z.get (R.PRT_CFG_RX_INV p), z.get (R.PRT_CFG_TX_INV p)]
  if !live then (if s.link p = 0 then s else s.goOff p)
  else if s.link p = 0 then
    let t := s.goDown p []
    { t with boot := { t.boot with txOn := setBit t.boot.txOn p true } }
  else if pol s ≠ pol old then s.goDown p cuts
  else s

/-! ## Modules and the cage bus (R41, R42, R286) -/

/-- Pn_RST_N of a port. -/
def State.setRst (s : State) (p : Nat) (released : Bool) : State := { s with boot := { s.boot with portRst := setBit s.boot.portRst p released } }

/-- MODULE_RESET_RELEASE (R286): from ROLLING entry on, in port order; a port that MODULE.RST holds stays low. -/
def execModuleResetRelease (port : Nat) (s : State) : Host.Outcome State Fault Refusal :=
  withUnit port 24 (
    if s.get R.BOOT_STAGE_STAGE < 2 ∨ port ≠ s.boot.rstNext then s
    else { s with boot := { s.boot with rstNext := port + 1 } }.setRst port (!s.flag (R.PRT_MODULE_RST port)))

/-- MODULE_RST_WRITE (R286): a port whose turn has not come stays low (DEDUCED, log entry 29). -/
def execModuleRstWrite (m : Master) (port : Nat) (rst : Bool) (s : State) : Host.Outcome State Fault Refusal :=
  withUnit port 24 (s.hostWrite m (R.PRT_MODULE port) fun s =>
    let s := s.setFlag (R.PRT_MODULE_RST port) rst
    if s.boot.rstNext ≤ port then s else s.setRst port (!rst))

/-- A transaction completes on its port (R286): 2 DONE, 3 NACK, 4 NOMOD, 5 BUS. -/
def State.i2cEnd (s : State) (p st : Nat) : State :=
  let s := (s.set (R.PRT_I2C_CMD_STATUS p) st).raise (P.PRT p) E.PRT_I2C_DONE
  if 3 ≤ st then s.bump (R.PRT_I2C_ERRS_COUNT p) else s

/-- The bus has new requests: Pn_SEL_N of the port whose transaction is at the head is low, after that of another port has returned high (R41). -/
def State.runBus (s : State) (c : Nat) (b : BusState) : State :=
  let want := if b.stuck then none else b.queue.head?.map (fun t => t.port)
  if want = b.sel then s.putBus c b
  else
    let s := match b.sel with
      | some p => s.emit (.sel p false)
      | none => s
    let s := match want with
      | some p => s.emit (.sel p true)
      | none => s
    s.putBus c { b with sel := want }

/-- The cage inputs are sampled from HITCHED on (R35). -/
def State.cageOn (s : State) : Bool := decide (s.boot.pins = .hitched ∨ s.boot.pins = .driven)

/-- MOD_PRESENT (R35, R42, R286): `present`: Pn_PRS_N is low; a transaction in progress on a removed module ends NOMOD.  A request queued behind another stays
queued (DESIGN CHOICE, log entry 29). -/
def execModPresent (port : Nat) (present : Bool) (s : State) : Host.Outcome State Fault Refusal :=
  withUnit port 24 (
    let s := if s.cageOn then { s with boot := { s.boot with prs := setBit s.boot.prs port present } } else s
    if !s.cageOn ∨ !s.up (8 + port / 4) ∨ s.flag (R.PRT_MODULE_PRESENT port) = present then s
    else
      let s := (s.setFlag (R.PRT_MODULE_PRESENT port) present).raise (P.PRT port) E.PRT_MOD_PRESENT
      let b := s.busOf (port / 4)
      match present, b.queue with
      | false, t :: rest => if t.port = port then (s.runBus (port / 4) { b with queue := rest }).i2cEnd port 4 else s
      | _, _ => s)

/-- MOD_INT (R35, R286): `low`: Pn_INT_N is low. -/
def execModInt (port : Nat) (low : Bool) (s : State) : Host.Outcome State Fault Refusal :=
  withUnit port 24 (
    let s := if s.cageOn then { s with boot := { s.boot with intLow := setBit s.boot.intLow port low } } else s
    if !s.cageOn ∨ !s.up (8 + port / 4) ∨ s.flag (R.PRT_MODULE_INT port) = low then s
    else (s.setFlag (R.PRT_MODULE_INT port) low).level (P.PRT port) E.PRT_MOD_INT low)

/-- A transaction is queued (R42, R286). -/
def State.i2cAsk (s : State) (m : Master) (t : I2cTx) : State :=
  s.hostCmd m (R.PRT_I2C_CMD_STATUS t.port) fun s =>
    let b := s.busOf (t.port / 4)
    if b.stuck then s.i2cEnd t.port 5
    else if !s.flag (R.PRT_MODULE_PRESENT t.port) then s.i2cEnd t.port 4
    else (s.set (R.PRT_I2C_CMD_STATUS t.port) 1).runBus (t.port / 4) { b with queue := b.queue ++ [{ t with data := s.get (R.PRT_I2C_DATA_BYTES t.port) }] }

/-- LEN as it acts. -/
def i2cLen (n : Nat) : Nat := if n = 0 then 1 else min n 4

/-- I2C_READ (R286). -/
def execI2cRead (m : Master) (port len offset dev : Nat) (s : State) : Host.Outcome State Fault Refusal :=
  withUnit port 24 (s.i2cAsk m { port := port, op := 1, len := i2cLen len, offset := offset, dev := dev, data := 0 })

/-- I2C_WRITE (R286). -/
def execI2cWrite (m : Master) (port len offset dev : Nat) (s : State) : Host.Outcome State Fault Refusal :=
  withUnit port 24 (s.i2cAsk m { port := port, op := 2, len := i2cLen len, offset := offset, dev := dev, data := 0 })

/-- RESTART_BUS (R286). -/
def execRestartBus (m : Master) (port : Nat) (s : State) : Host.Outcome State Fault Refusal :=
  withUnit port 24 (s.hostCmd m (R.PRT_I2C_CMD_STATUS port) fun s =>
    let b := s.busOf (port / 4)
    (s.putBus (port / 4) { b with stuck := false }).i2cEnd port 2)

/-- I2C_DONE (R286): the transaction at the head of a coach's bus completes; `ack`: the module acknowledged; `data`: the bytes read. -/
def execI2cDone (coach : Nat) (ack : Bool) (data : Nat) (s : State) : Host.Outcome State Fault Refusal :=
  withUnit coach 6 (
    let b := s.busOf coach
    match b.queue with
    | [] => s
    | t :: rest =>
      let s := (s.emit (.cage coach t ((List.range 4).all (fun i => s.flag (R.PRT_I2C_CFG_FAST (4 * coach + i)))))).runBus coach { b with queue := rest }
      if !ack then s.i2cEnd t.port 3
      else
        let s := if t.op = 1 then s.set (R.PRT_I2C_DATA_BYTES t.port) (data % 2 ^ (8 * t.len)) else s
        s.i2cEnd t.port 2)

/-- I2C_STUCK (R42): SDA has been low for 25 ms; `freed`: nine pulses and a STOP free it. -/
def execI2cStuck (coach : Nat) (freed : Bool) (s : State) : Host.Outcome State Fault Refusal :=
  withUnit coach 6 (
    if freed ∨ !s.up (8 + coach) then s
    else
      let b := s.busOf coach
      let s := s.runBus coach { b with queue := [], stuck := true }
      let s := b.queue.foldl (fun t x => t.i2cEnd x.port 5) s
      (List.range 4).foldl (fun t i => t.raise (P.PRT (4 * coach + i)) E.PRT_I2C_STUCK) s)

/-! ## Gears (R287) -/

/-- The gear of a coach moves. -/
def State.setGear (s : State) (c g : Nat) : State :=
  let old := s.get (R.CO_GEAR_NOW_GEAR c)
  if old = g then s
  else
    let x := s.coachOf c
    let s := ((s.putCoach c { x with lowRun := 0 }).set (R.CO_GEAR_NOW_GEAR c) g).raise (P.CO c) E.CO_GEAR
    s.bump (if old < g then R.CO_GEAR_UPS_COUNT c else R.CO_GEAR_DOWNS_COUNT c)

/-- The gear held within MIN to MAX; MAX code 3 is not defined and acts as 2. -/
def State.clampGear (s : State) (c : Nat) : State :=
  s.setGear c (max (min 2 (s.get (R.CO_GEAR_CTRL_MIN c))) (min (min 2 (s.get (R.CO_GEAR_CTRL_MAX c))) (s.get (R.CO_GEAR_NOW_GEAR c))))

/-- GEAR_WINDOW (R287): a window of 256 ns ends. -/
def execGearWindow (coach : Nat) (s : State) : Host.Outcome State Fault Refusal :=
  withUnit coach 6 (
    if !s.up (8 + coach) ∨ !s.ax.running then s
    else
      let s := s.clampGear coach
      let x := s.coachOf coach
      let g := s.get (R.CO_GEAR_NOW_GEAR coach)
      let d := x.demand
      let cap := 80 * 2 ^ g
      let up := decide (g < min 2 (s.get (R.CO_GEAR_CTRL_MAX coach))) && decide (s.get (R.CO_GEAR_CTRL_UP coach) * cap < 100 * d)
      let low := decide (s.get (R.CO_GEAR_CTRL_MIN coach) < g) && decide (200 * d ≤ s.get (R.CO_GEAR_CTRL_DOWN coach) * cap)
      let run := if low then x.lowRun + 1 else 0
      let s := s.putCoach coach { x with demand := 0, lowRun := run }
      if up then s.setGear coach (g + 1)
      else if low ∧ s.get (R.CO_GEAR_CTRL_DWELL coach) * 1000 ≤ run * 256 then s.setGear coach (g - 1)
      else s)

end Sys2Proof.Machine
end

