-- ==== Sys2Proof/Machine/Dma.lean ====
section
/-! DEFINITION.
The PCIe endpoint's link and resets, and the DMA rings with their queue events (R475 to R477, R480 to R488, R490, R491).
-/
namespace Sys2Proof.Machine
open Sys2Proof

/-! ## Rings -/

/-- The number of descriptors of a ring: LOG2 6 to 15; other values act as 10 (R490). -/
def State.ringSize (s : State) (q : Nat) : Nat :=
  2 ^ (if 6 ≤ s.get (R.DMA_CFG_LOG2 q) then s.get (R.DMA_CFG_LOG2 q) else 10)

/-- The ring is enabled. -/
def State.ringOn (s : State) (q : Nat) : Bool := s.flag (R.DMA_CFG_EN q)

/-- EN and DMA.STATUS.RUN of a ring. -/
def State.putRun (s : State) (q : Nat) (on : Bool) : State :=
  let s := s.setFlag (R.DMA_CFG_EN q) on
  s.set R.DMA_STATUS_RUN (setBit (s.get R.DMA_STATUS_RUN) q on)

/-- A host-originated frame without its descriptor, renumbered so that the ring's next descriptors do not meet it (log entry 30). -/
def SwFrame.unring (f : SwFrame) (q n : Nat) : SwFrame :=
  match f.desc with
  | some (r, _, _) => if r = q then { f with desc := none, fid := if f.input = 6 then f.fid % 2 ^ 18 + n * 2 ^ 18 else f.fid } else f
  | none => f

/-- A ring without its work: descriptors in hand complete no further, and frames already admitted are sent without a completion (R477). -/
def State.emptyRing (s : State) (q : Nat) (stopped : Bool) : State :=
  let n := s.sw.frames.foldl (fun n f => if f.input = 6 then max n (f.fid / 2 ^ 18) else n) 0 + 1
  let s := { s with sw := { s.sw with frames := s.sw.frames.map (fun f => f.unring q n) } }
  let s := (List.range 24).foldl (fun (t : State) p =>
    let x := t.portOf p
    if x.awaits.any (fun (e : Nat × Nat) => decide (e.1 = q)) then t.putPort p { x with awaits := x.awaits.filter (fun (e : Nat × Nat) => decide (e.1 ≠ q)) } else t) s
  s.putDma q { RingState.init with stopped := stopped }

/-- A ring is stopped (R477). -/
def State.stopRing (s : State) (q : Nat) : State := if s.ringOn q then (s.putRun q false).emptyRing q true else s

/-- Every ring that satisfies `p` is stopped. -/
def State.stopRings (s : State) (p : Nat → Bool) : State := (List.range 8).foldl (fun (t : State) q => if p q then t.stopRing q else t) s

/-! ## Queue events (R486) -/

/-- DMA.DQ_PEND replaced; the messages of the sources 114 to 121 follow (R101, R105). -/
def State.putPend (s : State) (n : Nat) : State := State.vecRises s (s.set R.DMA_DQ_PEND_PEND n)

/-- A completion that counts toward the ring's DQ_PEND bit: the bit sets when their number reaches MOD.COUNT. -/
def State.note (s : State) (q idx : Nat) : State :=
  let r := s.dmaRing q
  let l := r.noted ++ [idx]
  let s := s.putDma q { r with noted := l }
  if l.length = s.get1 (R.DMA_MOD_COUNT q) then s.putPend (setBit (s.get R.DMA_DQ_PEND_PEND) q true) else s

/-- DMA.SEENq is written: the completions before it no longer count (R480, R486). -/
def State.writeSeen (s : State) (q v : Nat) : State :=
  let s := s.set (R.DMA_SEEN_IDX q) v
  let r := s.dmaRing q
  let n := s.ringSize q
  let done := s.get (R.DMA_DONE_IDX q)
  s.putDma q { r with noted := r.noted.filter (fun i => decide ((i + n - v % n) % n < (done + n - v % n) % n)) }

/-- DMA_MOD_TIMER (R486): completions have waited between SEEN and DONE for MOD.TIME, since the bit was last cleared. -/
def execDmaModTimer (ring us : Nat) (s : State) : Host.Outcome State Fault Refusal :=
  withUnit ring 8 (if (s.dmaRing ring).noted.isEmpty ∨ !s.up islMGT ∨ us < s.get1 (R.DMA_MOD_TIME ring) then s else s.putPend (setBit (s.get R.DMA_DQ_PEND_PEND) ring true))

/-- DQ_PEND_CLEAR (R486). -/
def execDqPendClear (m : Master) (v : Word) (s : State) : Host.Outcome State Fault Refusal :=
  .next (s.hostWrite m R.DMA_DQ_PEND fun s =>
    let old := s.get R.DMA_DQ_PEND_PEND
    s.set R.DMA_DQ_PEND_PEND (old - (old &&& v.toNat)))

/-! ## Descriptors (R480, R481, R483) -/

/-- A PF1 write to a ring of PF0 is refused (R490). -/
def State.ringWorld (s : State) (m : Master) (q : Nat) : Bool := decide (m = .pf1) && decide (s.get (R.DMA_CFG_PF q) = 0)

/-- DMA_TAIL_WRITE (R480, R490). -/
def execDmaTailWrite (m : Master) (ring idx : Nat) (s : State) : Host.Outcome State Fault Refusal :=
  withUnit ring 8 (s.hostWrite m (R.DMA_TAIL ring) fun s =>
    if s.ringWorld m ring then s.worldErr m (R.DMA_TAIL ring)
    else if s.ringSize ring ≤ idx % 65536 then s.bump R.DMA_BAD_TAIL_COUNT
    else s.set (R.DMA_TAIL_IDX ring) idx)

/-- A transmit descriptor lies within R483. -/
def State.descOk (s : State) (d : TxDesc) : Bool :=
  decide (d.port < 24 ∧ 60 ≤ d.frame.len ∧ d.frame.len + 4 ≤ s.get (R.PRT_FRAME_MAX_BYTES d.port) ∧ d.flags % 256 < 32)

/-- A transmit descriptor is taken: refused as BAD_DESC, or its frame enters the switch (R483, R484). -/
def State.takeTx (s : State) (q idx : Nat) (d : TxDesc) : State :=
  let r := s.dmaRing q
  let ok := s.descOk d
  let j : TxJob := { idx := idx, flags := d.flags, tag := d.tag, port := d.port, sent := ok, res := if ok then none else some (6, 0) }
  let s := s.putDma q { r with tx := r.tx ++ [j] }
  if ok then s.admitHost (65536 * (q - 4) + idx) d else s.bump R.DMA_BAD_DESC_COUNT

/-- DMA_DESC_FETCH (R480): the next descriptor of an enabled ring that is not empty; DMA runs from ROLLING onward.  A transmit frame reaches the switch over the
MGT-SW coupling before the given slot of the fabric (R15). -/
def execDmaDescFetch (ring slot : Nat) (d : DmaDesc) (s : State) : Host.Outcome State Fault Refusal :=
  withUnit ring 8 (
    let h := s.get (R.DMA_HEAD_IDX ring)
    if !s.up islMGT ∨ !s.ringOn ring ∨ !s.flag (R.PG_CTRL_EN P.DMA) ∨ s.get R.BOOT_STAGE_STAGE < 2 ∨ h = s.get (R.DMA_TAIL_IDX ring) then s
    else
      let t := s.set (R.DMA_HEAD_IDX ring) ((h + 1) % s.ringSize ring)
      match d with
      | .rx _ len => if ring < 4 then t.putDma ring { t.dmaRing ring with rx := (t.dmaRing ring).rx ++ [(h, len)] } else s
      | .tx x => if ring < 4 ∨ !s.linkOpen islMGT islSW 0 then s else (t.toSlot slot).takeTx ring h x)

/-- A completion is written: DONE passes the descriptor, and the ring's frames are counted (R480). -/
def State.complete (s : State) (q idx : Nat) (fields : List Nat) (counts : Bool) : State :=
  let s := (s.emit (.dmaDone q idx fields)).set (R.DMA_DONE_IDX q) ((idx + 1) % s.ringSize q)
  let s := s.bump (R.DMA_FRAMES_COUNT q)
  if counts then s.note q idx else s

/-! ## Receive rings (R481, R482) -/

/-- The receive ring of a host class. -/
def State.rxRing (s : State) (cls : Nat) : Nat := s.get R.DMA_RX_MAP_RING / 2 ^ (2 * cls) % 4

/-- NOBUF is raised once for the ring (R482). -/
def State.noBuf (s : State) (q : Nat) : State :=
  let r := s.dmaRing q
  if r.nobuf then s else (s.putDma q { r with nobuf := true }).raise P.DMA E.DMA_NOBUF

/-- The host copy of a frame goes. -/
def State.dropHost (s : State) (f : SwFrame) : State := ((s.dropCopies f (fun c => decide (c.dst = 24))).tidy).showSwBusy

/-- The fields that the device writes to a receive descriptor (R481). -/
def rxFields (f : SwFrame) : List Nat :=
  [f.frame.len - 4, f.portIn, f.cls + 8 * f.verdict, toT108 f.ingT, f.gen, f.cold % 8 + (if f.flooded then 8 else 0), 0, 128]

/-- DMA_RX_FRAME (R477, R481, R482): the head of a host queue meets its ring; a ring that an event has stopped leaves it waiting. -/
def execDmaRxFrame (cls : Nat) (s : State) : Host.Outcome State Fault Refusal :=
  withUnit cls 8 (
    let q := s.rxRing cls
    let r := s.dmaRing q
    match s.headOf 24 cls with
    | none => s
    | some f =>
      if !s.up islMGT ∨ r.stopped then s
      else if !s.ringOn q then (s.bump (R.DMA_DROP_COUNT q)).dropHost f
      else match r.rx with
        | [] => s.noBuf q
        | (idx, len) :: rest =>
          if len < f.frame.len - 4 then (s.bump (R.DMA_TOOBIG_COUNT q)).dropHost f
          else
            let s := (s.putDma q { r with rx := rest }).emit (.hostFrame q idx { f.frame with len := f.frame.len - 4 })
            (s.dropHost f).complete q idx (rxFields f) true)

/-! ## Transmit completions (R484) -/

/-- One entry of a port's transmit-timestamp FIFO reaches the DMA: frames awaited before it have lost their stamps. -/
def State.takeStamp (s : State) (p : Nat) (e : TsfEntry) : State :=
  let x := s.portOf p
  if x.awaits.contains (e.ring, e.tag) then
    let lost := x.awaits.takeWhile (fun a => a ≠ (e.ring, e.tag))
    let s := lost.foldl (fun (t : State) (a : Nat × Nat) => t.txResult a.1 a.2 1 0) s
    (s.putPort p { x with awaits := x.awaits.drop (lost.length + 1) }).txResult e.ring e.tag 0 e.stamp
  else s

/-- The FIFO of a port is drained. -/
def State.drainTsf (s : State) (p : Nat) : State :=
  let l := (s.portOf p).tsf
  if l.isEmpty then s
  else
    let s := l.foldl (fun (t : State) e => t.takeStamp p e) s
    (s.putPort p { s.portOf p with tsf := [] }).showTsf p

/-- The oldest transmit descriptor of a ring is written back (R480, R483, R484). -/
def State.backTx (s : State) (q : Nat) (j : TxJob) (rest : List TxJob) (st : Nat) (stamp : Int) : State :=
  (s.putDma q { s.dmaRing q with tx := rest }).complete q j.idx [toT108 stamp, st, 128] (bitOn j.flags 4)

/-- The frame of a descriptor is still in the switch, or its stamp is awaited. -/
def State.jobOpen (s : State) (q : Nat) (j : TxJob) : Bool :=
  s.sw.frames.any (fun f => match f.desc with
    | some (r, i, _) => decide (r = q ∧ i = j.idx)
    | none => false) || (List.range 24).any (fun p => (s.portOf p).awaits.contains (q, j.idx))

/-- DMA_TX_COMPLETE (R484): the oldest descriptor of a ring that waits completes once its status is known.  A frame that a disabled switch or a memory error
has removed has no status of its own in R484: a free value (log entry 3). -/
def execDmaTxComplete (ring : Nat) (s : State) : Host.Outcome State Fault Refusal :=
  withUnit ring 8 (
    match (s.dmaRing ring).tx with
    | [] => s
    | j :: _ =>
      if !s.up islMGT then s
      else
        let s := if j.port < 24 then s.drainTsf j.port else s
        match (s.dmaRing ring).tx with
        | [] => s
        | j :: rest =>
          match j.res with
          | some (st, stamp) => s.backTx ring j rest st stamp
          | none =>
            if s.jobOpen ring j then s
            else
              let f := s.takeFree
              f.2.backTx ring j rest (f.1 % 256) 0)

/-- DMA_STAMP_TIMEOUT (R484): 10 ms after its launch the stamp of a frame is still awaited. -/
def execDmaStampTimeout (ring idx ms : Nat) (s : State) : Host.Outcome State Fault Refusal :=
  withUnit ring 8 (
    if ms < 10 then s
    else match (List.range 24).find? (fun p => (s.portOf p).awaits.contains (ring, idx)) with
    | none => s
    | some p =>
      let x := s.portOf p
      (s.putPort p { x with awaits := x.awaits.filter (fun a => a ≠ (ring, idx)) }).txResult ring idx 1 0)

/-! ## Enabling and stopping (R477, R485, R487, R490) -/

/-- The PCIe errors that the endpoint detects (R488). -/
def State.pcieErrors (s : State) (corr uncorr : Nat) : State :=
  ((s.bumpBy R.PCI_ERR_CORR_COUNT corr).bumpBy R.PCI_ERR_UNCORR_COUNT uncorr).raiseIf (decide (0 < uncorr)) P.PCI E.PCI_ERR

/-- RING_ERR (R485, R488). -/
def execRingErr (ring corr uncorr : Nat) (s : State) : Host.Outcome State Fault Refusal :=
  withUnit ring 8 (
    if !s.up islMGT ∨ !s.ringOn ring then s
    else (((s.pcieErrors corr uncorr).stopRing ring).set (R.DMA_CFG_HOST_ERR ring) 1).raise P.DMA E.DMA_RING_ERR)

/-- A write of DMA.CFGq (R490). -/
def State.writeRing (s : State) (m : Master) (q : Nat) (w : Word) : State :=
  let s := if (R.DMA_CFG_HOST_ERR q).of w = 1 then s.set (R.DMA_CFG_HOST_ERR q) 0 else s
  let on := s.ringOn q
  let pf := if m = .pf1 then s.get (R.DMA_CFG_PF q) else (R.DMA_CFG_PF q).of w
  let lg := (R.DMA_CFG_LOG2 q).of w
  let en := decide ((R.DMA_CFG_EN q).of w = 1)
  let s := if on then s.raiseIf (decide (pf ≠ s.get (R.DMA_CFG_PF q) ∨ lg ≠ s.get (R.DMA_CFG_LOG2 q))) P.DMA E.DMA_CFG_ERR
    else (s.set (R.DMA_CFG_PF q) pf).set (R.DMA_CFG_LOG2 q) lg
  if en = on then s
  else if !en then (s.putRun q false).emptyRing q false
  else
    let s := ((s.set (R.DMA_HEAD_IDX q) 0).set (R.DMA_TAIL_IDX q) 0).set (R.DMA_DONE_IDX q) 0
    let s := ((s.set (R.DMA_SEEN_IDX q) 0).putRun q true).putDma q .init
    if decide (q < 4) && (List.range 8).any (fun c => decide (s.rxRing c = q) && (s.headOf 24 c).isSome) then s.noBuf q else s

/-- DMA_RING_ENABLE (R490): DMA.CFGq is written. -/
def execDmaRingEnable (m : Master) (ring : Nat) (w : Word) (s : State) : Host.Outcome State Fault Refusal :=
  withUnit ring 8 (s.hostWrite m (R.DMA_CFG ring) fun s =>
    if s.ringWorld m ring then s.worldErr m (R.DMA_CFG ring) else s.writeRing m ring w)

/-- PG_STAT.BUSY of the DMA page: an admitted transmit frame is still to be launched (R487). -/
def State.showDmaBusy (s : State) : State :=
  if s.flag (R.PG_CTRL_EN P.DMA) then s else s.setFlag (R.PG_STAT_BUSY P.DMA) (s.sw.frames.any (fun f => decide (f.origin = 2)))

/-- DMA_DISABLE (R487). -/
def execDmaDisable (m : Master) (s : State) : Host.Outcome State Fault Refusal :=
  .next (s.hostWrite m (R.PG_CTRL P.DMA) fun s =>
    if s.flag (R.PG_CTRL_EN P.DMA) then ((s.setFlag (R.PG_CTRL_EN P.DMA) false).stopRings (fun _ => true)).showDmaBusy else s)

/-! ## The endpoint (R475 to R477, R488) -/

/-- The MSI-X table of a function is reset. -/
def State.resetMsix (s : State) (pf : Nat) : State :=
  { s with host := if pf = 1 then { s.host with x1 := .init } else { s.host with x0 := .init } }

/-- FLR (R477). -/
def execFlr (pf : Nat) (s : State) : Host.Outcome State Fault Refusal :=
  withUnit pf 2 (
    if !s.mgtServes ∨ s.boot.perstLow ∨ !s.boot.pcieReady then s
    else
      let s := (s.stopRings (fun q => decide (s.get (R.DMA_CFG_PF q) = pf))).resetMsix pf
      (s.bump (if pf = 1 then R.PCI_FLRS_PF1 else R.PCI_FLRS_PF0)).raise P.PCI E.PCI_FLR)

/-- PCI.LINK cleared; its event and level follow. -/
def State.linkGone (s : State) : State :=
  if s.flag R.PCI_LINK_UP then ((s.wr R.PCI_LINK 0).raise P.PCI E.PCI_LINK).level P.PCI E.PCI_UP false else s

/-- PCIE_LINK_LOST (R477, R444, R488): after training. -/
def execPcieLinkLost (corr uncorr : Nat) (s : State) : Host.Outcome State Fault Refusal :=
  .next (
    if !s.up islMGT ∨ !s.flag R.PCI_LINK_UP then s
    else ((((s.pcieErrors corr uncorr).linkGone.bump R.PCI_LINK_DOWNS_COUNT).stopRings (fun _ => true)).pulse 28))

/-- PCIE_LINK_UP (R475, R488): the link trains while the endpoint is out of reset. -/
def execPcieLinkUp (width speed : Nat) (s : State) : Host.Outcome State Fault Refusal :=
  .next (
    if !s.up islMGT ∨ s.boot.perstLow ∨ s.flag R.PCI_LINK_UP then s
    else
      let s := ((s.set R.PCI_LINK_WIDTH width).set R.PCI_LINK_SPEED speed).set R.PCI_LINK_UP 1
      (s.raise P.PCI E.PCI_LINK).level P.PCI E.PCI_UP true)

end Sys2Proof.Machine
end

