-- ==== Sys2Proof/Machine/Gen.lean ====
section
/-! DEFINITION.
Generations: prepare, decision, commit, fences (R96, R97, R403 to R409, R419).
-/
namespace Sys2Proof.Machine
open Sys2Proof

/-- The pages that live in one island only. -/
def islandPages (i : Nat) : List Nat := pageDir.flatMap (fun r => ((List.range r.count).map (r.first + ·)).filter (fun p => decide (pageIslands p = [i])))

/-! ## Participants (R404) -/

/-- The islands that hold shadowed registers. -/
def genIslands : List Nat := [1, 2, 3, 4, 5, 6, 7, 8, 9, 10, 11, 12, 13, 14]

/-- The participants: a time core only while it is IN (R404, R135). -/
def State.participants (s : State) : List Nat := genIslands.filter (fun i => !(decide (2 ≤ i ∧ i ≤ 4)) || s.inCores.contains (i - 2))

/-- A mask of islands. -/
def maskOf (l : List Nat) : Nat := l.foldl (fun m i => setBit m i true) 0

def State.genState (s : State) : Nat := s.get R.GEN_STATUS_STATE
def State.setGenState (s : State) (st : Nat) : State := s.set R.GEN_STATUS_STATE st

/-- T − GUARD − 2 ms and the like: the guard in units of 2^-48 ns (R419). -/
def State.genGuard (s : State) : Int := (s.getOr R.GEN_GUARD_MS 2 1000 10 : Nat) * msU

/-- The number after the one in force (R403). -/
def State.genNextNum (s : State) : Nat := let n := s.get R.GEN_IN_FORCE_GEN; if n = 0xFFFFFF then 1 else n + 1

/-- A GEN record (R466). -/
def State.genRec (s : State) (bit num islands : Nat) : State := s.trig islMGT 0x90 [bit, num, islands]

/-! ## Prepare and decide (R406, R407) -/

/-- The status with which a PREPARE completes at once, if any (R406). -/
def State.prepareStatus (s : State) (arrival : Int) : Option Nat :=
  let raw := s.rdT R.GEN_COMMIT_AT
  let t := ofT108 raw
  if s.get R.BOOT_STAGE_STAGE < 2 then some 7
  else if s.get R.GEN_FENCED_ISLANDS ≠ 0 then some 5
  else if raw % 2 ^ 30 ≠ 0 ∨ raw / 2 ^ 30 % 2 ^ 30 % 1000000 ≠ 0 ∨ t < arrival + s.genGuard + 2 * msU ∨ arrival + 60 * secU < t then some 6
  else none

/-- A PREPARE that has reached MGT (R406): refused, or every participant copies its shadows into its staging set. -/
def State.prepare (s : State) (arrival : Int) : State :=
  match s.prepareStatus arrival with
  | some st => s.set R.GEN_CMD_STATUS st
  | none =>
    let s := { s with staging := s.shadow, gen := { s.gen with at_ := ofT108 (s.rdT R.GEN_COMMIT_AT), asked := false, parts := 0, gone := 0, applied := 0 } }
    (((s.set R.GEN_CMD_STATUS 1).set R.GEN_NEXT_GEN s.genNextNum).set R.GEN_PREPARED_ISLANDS 0).setGenState 1

/-- GEN_CANCEL (R9, R407): before D it acts as a missing report; otherwise it completes LATE. -/
def execGenCancel (m : Master) (s : State) : Host.Outcome State Fault Refusal :=
  .next (s.hostWrite m R.GEN_CMD fun s =>
    if s.genState = 1 ∨ s.genState = 2 then { s with gen := { s.gen with asked := true } } else s.set R.GEN_CMD_STATUS 4)

/-- PREPARED_REPORT (R406): the report of a running participant reaches MGT over its register coupling. -/
def execPreparedReport (island : Nat) (s : State) : Host.Outcome State Fault Refusal :=
  withUnit island 16 (
    if s.genState ≠ 1 ∨ !s.participants.contains island ∨ s.islandDead island ∨ !s.up islMGT then s
    else
      let m := setBit (s.get R.GEN_PREPARED_ISLANDS) island true
      let s := s.set R.GEN_PREPARED_ISLANDS m
      if s.participants.all (fun i => bitOn m i) then s.setGenState 2 else s)

/-- The commit is cancelled (R407, R97). -/
def State.cancelGen (s : State) (missing : Nat) : State :=
  let n := s.get R.GEN_NEXT_GEN
  let s := { s with staging := [], gen := { s.gen with asked := false, gone := 0 } }
  let s := (((s.set R.GEN_LAGGARDS_ISLANDS missing).set R.GEN_NEXT_GEN 0).set R.GEN_CMD_STATUS 3).setGenState 0
  ((s.bump R.GEN_CANCELS_COUNT).raise P.GEN E.GEN_CANCELLED).genRec E.GEN_CANCELLED n missing

/-- GEN_DECISION (R407): the decision at D, the AXMARK at or after T − GUARD. -/
def execGenDecision (s : State) : Host.Outcome State Fault Refusal :=
  .next (
    if (s.genState ≠ 1 ∧ s.genState ≠ 2) ∨ s.ax.mark < s.gen.at_ - s.genGuard then s
    else
      let missing := maskOf (s.participants.filter (fun i => !bitOn (s.get R.GEN_PREPARED_ISLANDS) i))
      if s.gen.asked ∨ missing ≠ 0 then s.cancelGen missing else s.setGenState 3)

/-! ## The commit (R97, R403, R407) -/

/-- The participant has not heard of the commit: its subframe 0 brought no GEN_NEXT, so nothing takes force in it at the mark (R19, R407). -/
def State.genMissed (s : State) (i : Nat) : Bool := (axleRegs i).isSome && decide ((s.ctrOf i).genNext ≠ some (s.get R.GEN_NEXT_GEN))

/-- A set takes force in every island but those of the mask `skip`, which get it from MGT later, and in every core that is IN; another core gets it with its state
copy (R97, R135, R408, R409). -/
def State.commitSet (s : State) (src : Store) (num skip : Nat) : State :=
  let old := s.regs
  let out := skip ||| maskOf ((List.range 3).filterMap (fun k => if s.inCores.contains k then none else some (2 + k)))
  let here (p : Nat) : Bool := if corePage p then !bitOn out (2 + s.cores.now) else (pageIslands p).any (fun i => genIslands.contains i && !bitOn out i)
  let imgs (k : Nat) : CoreImg :=
    let i := s.imgOf k
    if bitOn out (2 + k) then i else { i with regs := coreRegs (mergeRws i.regs src corePage) }
  let s := { s with regs := mergeRws s.regs src here, staging := [],
                    gen := { s.gen with before := old, beforeNum := s.get R.GEN_IN_FORCE_GEN,
                                        keep := (genIslands.filter (fun i => bitOn out i)).foldl (fun m i => kvPut m i src) s.gen.keep } }
  let s := s.setImgs s.cores.now imgs
  let s := ((s.set R.GEN_IN_FORCE_GEN num).set R.GEN_NEXT_GEN 0).wrT R.GEN_LAST_T (toT108 s.ax.mark)
  let s := ((s.bump R.GEN_COMMITS_COUNT).raise P.GEN E.GEN_COMMITTED).set R.ATT_STATUS_GEN_HASH_OK 0
  s.genRec E.GEN_COMMITTED num (maskOf s.participants)

/-- A participant has faulted (R408): its page is dead, or one of its couplings to MGT is broken. -/
def State.islandBad (s : State) (i : Nat) : Bool :=
  s.islandDead i || s.isl.broken.any (fun l => decide (l.src = i ∧ l.dst = islMGT ∨ l.src = islMGT ∧ l.dst = i))

/-- A fault line of a participant's block rises at SEVERE or FATAL severity (R408, R444). -/
def lineIslands (line : Nat) : List Nat :=
  match line with
  | 1 => [1]
  | 2 => [2]
  | 3 => [3]
  | 4 => [4]
  | 5 => [5]
  | 6 => [6]
  | 10 => [7]
  | 11 => [8]
  | 12 => [9]
  | 13 => [10]
  | 14 => [11]
  | 15 => [12]
  | 16 => [13]
  | 17 => [14]
  | 18 => [14]
  | _ => []

/-- The window of R408 after a report is open: a generation is pending, or T + 1 ms has not come. -/
def State.genOpen (s : State) : Bool := decide (s.genState ≠ 0) || decide (s.get R.GEN_IN_FORCE_GEN ≠ 0 ∧ s.ax.mark < ofT108 (s.rdT R.GEN_LAST_T) + msU)

/-! ## Fences (R408, R409) -/

/-- GEN.FENCED with its level event and line 33. -/
def State.showFences (s : State) : State :=
  let on := decide (s.get R.GEN_FENCED_ISLANDS ≠ 0)
  let s := if bitOn (s.rd (R.PG_EVT_NOW P.GEN)).toNat E.GEN_FENCED = on then s else s.level P.GEN E.GEN_FENCED on
  s.lineSet 33 1 on

/-- FENCED on an island's pages and in GEN.FENCED. -/
def State.putFenced (s : State) (i : Nat) (on : Bool) : State :=
  let s := s.set R.GEN_FENCED_ISLANDS (setBit (s.get R.GEN_FENCED_ISLANDS) i on)
  (islandPages i).foldl (fun (t : State) p => t.setFlag (R.PG_STAT_FENCED p) on) s

/-- The ports of a coach go DOWN, and its frames whose cells are still arriving get ST 2 (R284, R312, R409, R413); `cuts`: frames in transmission, by port. -/
def State.coachDown (s : State) (c : Nat) (cuts : List (Nat × TxRef)) : State :=
  (List.range 4).foldl (fun (t : State) i =>
    let p := 4 * c + i
    if t.link p < 2 then t else t.goDown p ((cuts.filter (fun e => decide (e.1 = p))).map (·.2))) (s.abortInput c)

/-- A core that has faulted is excluded with OUT_WHY SELF (R409); in PAIR as a core that reports SELF (R130). -/
def State.coreFault (s : State) (k : Nat) : State :=
  if !s.inCores.contains k then s
  else if s.mode = 1 then s.excludeCore k 3 (s.getS (R.TCORE_FREQ_Y k) - s.getS R.VOTE_FREQ_Y)
  else s.fatalVote (fun j => if j = k then 3 else 0) 0

/-- A brake begins: frames in transmission that carry a departure end with an invalid FCS (R451); `cuts`: frames in transmission, by port. -/
def State.cutLaunches (s : State) (cuts : List (Nat × TxRef)) : State :=
  cuts.foldl (fun (t : State) e => match e.2 with
    | .carriage _ => if e.1 < 24 then t.cutTx e.1 e.2 else t
    | .queued _ => t) s

/-- Every coach in which a reaction begins, or widens, drops the work that the reaction stops (R346, R450, R451); `old`: the state before. -/
def State.faultStops (old s : State) : State :=
  (List.range 6).foldl (fun (t : State) c => if old.stopScope c < t.stopScope c then t.faultStop c else t) s

/-- An island is fenced (R409, R445). -/
def State.fence (s : State) (i : Nat) (cuts : List (Nat × TxRef)) : State :=
  if 2 ≤ i ∧ i ≤ 4 then s.coreFault (i - 2)
  else if bitOn (s.get R.GEN_FENCED_ISLANDS) i then s
  else
    let old := s
    let s := ((s.putFenced i true).bump R.GEN_FENCES_COUNT).showFences
    let s := s.genRec E.GEN_FENCED (s.get R.GEN_IN_FORCE_GEN) (2 ^ i)
    let s := if 8 ≤ i ∧ i ≤ 13 then (State.faultStops old (s.coachDown (i - 8) cuts)).showServing (i - 8) else s
    let s := if i = 14 then ({ s with flt := { s.flt with swStopped := true } }.switchHalt s.sw.slot).stopRings (fun _ => true) else s
    let s := if i = 1 then { s with isl := { s.isl with mgtLost := true } } else s
    if i = 1 ∨ i = 5 ∨ i = 6 ∨ i = 14 then
      let s := { s with flt := { s.flt with forcedFatal := setBit s.flt.forcedFatal 33 true } }
      if s.present 33 ∧ s.flt.brake = .off then State.faultStops s ((s.brakeOn .fault).cutLaunches cuts) else s.refreshFaults
    else s

/-- The commit is over: DONE. -/
def State.endApply (s : State) : State := (s.setGenState 0).set R.GEN_CMD_STATUS 2

/-- The islands whose APPLIED the commit waits for: participants at T that are not fenced. -/
def State.toApply (s : State) : List Nat := genIslands.filter (fun i => bitOn s.gen.parts i && !bitOn (s.get R.GEN_FENCED_ISLANDS) i)

/-- APPLIED_TIMEOUT (R408): at T + 1 ms every participant without APPLIED is fenced; `cuts`: frames in transmission on the ports of fenced coaches. -/
def execAppliedTimeout (cuts : List (Nat × TxRef)) (s : State) : Host.Outcome State Fault Refusal :=
  .next (
    if s.genState ≠ 4 ∨ s.ax.mark < ofT108 (s.rdT R.GEN_LAST_T) + msU then s
    else
      let late := s.toApply.filter (fun i => !bitOn s.gen.applied i)
      (late.foldl (fun (t : State) i => t.fence i cuts) s).endApply)

/-- A fence lifts (R409). -/
def State.liftFence (s : State) (i : Nat) : State :=
  let s := { s with gen := { s.gen with late := kvDel s.gen.late i, returned := setBit s.gen.returned i false, keep := kvDel s.gen.keep i } }
  let s := ((s.putFenced i false).showFences).raise P.GEN E.GEN_UNFENCED
  let s := s.genRec E.GEN_UNFENCED (s.get R.GEN_IN_FORCE_GEN) (2 ^ i)
  if 8 ≤ i ∧ i ≤ 13 then s.showServing (i - 8) else s

/-- UNFENCED (R409): at the first AXMARK after APPLIED the fence lifts. -/
def execUnfenced (s : State) : Host.Outcome State Fault Refusal :=
  .next (s.gen.late.foldl (fun (t : State) (e : Nat × Nat) => if e.2 < s.ax.marks then t.liftFence e.1 else t) s)

/-- At the AXMARK whose MARK_T is at or past T the announced set takes force in the participants that have heard of it; those that have faulted after PREPARED are
fenced (R407, R408).  The
second component tells whether a commit took place. -/
def State.applyGen (s : State) (cuts : List (Nat × TxRef)) : State × Bool :=
  if s.genState ≠ 3 ∨ s.ax.mark < s.gen.at_ then (s, false)
  else
    let parts := maskOf s.participants
    let bad := genIslands.filter (fun i => bitOn parts i && (bitOn s.gen.gone i || s.islandBad i))
    let late := genIslands.filter (fun i => bitOn parts i && s.genMissed i)
    let s := s.commitSet s.staging (s.get R.GEN_NEXT_GEN) (maskOf (bad ++ late))
    let s := { s with gen := { s.gen with parts := parts, applied := 0 } }.setGenState 4
    (bad.foldl (fun (t : State) i => t.fence i cuts) { s with gen := { s.gen with gone := 0 } }, true)

/-- Participants that fault after their report (R408), seen as a line rises: one whose own line rises at SEVERE or FATAL severity, or whose page is dead or
whose coupling is broken (lines 29 and 30).  They are fenced at T, or at once when T has passed. -/
def State.genLines (s : State) (lines : List Nat) (cuts : List (Nat × TxRef)) : State :=
  if !s.genOpen then s
  else
    let own := (lines.filter (fun l => decide (2 ≤ s.sev l))).flatMap lineIslands
    let hit := (genIslands.filter (fun i => own.contains i || s.islandBad i)).filter (fun i => bitOn (s.get R.GEN_PREPARED_ISLANDS) i)
    if s.genState = 0 ∨ s.genState = 4 then hit.foldl (fun (t : State) i => t.fence i cuts) s
    else { s with gen := { s.gen with gone := hit.foldl (fun m i => setBit m i true) s.gen.gone } }

end Sys2Proof.Machine
end

