-- ==== Sys2Proof/Machine/Shunt.lean ====
section
/-! DEFINITION.
Migrations, shunts and returns (R410 to R413, R420, R136).
-/
namespace Sys2Proof.Machine
open Sys2Proof

/-- The bit of a unit in SHNT.UNITS, by SHNT.CMD kind (R420); none for a lane. -/
def unitBit (kind idx : Nat) : Option Nat :=
  match kind with
  | 1 => some idx
  | 2 => some (6 + idx)
  | 4 => some (9 + idx)
  | 5 => some (17 + idx)
  | 6 => some 21
  | _ => none

/-- The page of a unit. -/
def unitPage (kind idx : Nat) : Nat :=
  match kind with
  | 1 => P.CO idx
  | 2 => P.TCORE idx
  | 4 => P.TIC idx
  | 5 => P.PLL idx
  | _ => P.GNS

/-- The island that a unit is, where it is a whole island (R413, R16). -/
def unitIsland (kind idx : Nat) : Option Nat :=
  match kind with
  | 1 => some (8 + idx)
  | 2 => some (2 + idx)
  | 6 => some 7
  | _ => none

/-- The number of units of a kind (R413). -/
def unitCount (kind : Nat) : Nat :=
  match kind with
  | 1 => 6
  | 2 => 3
  | 3 => 24
  | 4 => 8
  | 5 => 4
  | 6 => 1
  | _ => 0

/-- SHNT.UNITS and PG_STAT.SHUNTED of a unit; for a lane SHNT.LANES and CO.LANES (R420).  A unit that a run has left out of service (R417) and that changes is
the run's no more. -/
def State.setShunted (s : State) (kind idx : Nat) (on : Bool) : State :=
  match unitBit kind idx with
  | some b =>
    let s := { s with prove := { s.prove with units := setBit s.prove.units b false } }
    (s.wr R.SHNT_UNITS (BitVec.ofNat 36 (setBit (s.rd R.SHNT_UNITS).toNat b on))).setFlag (R.PG_STAT_SHUNTED (unitPage kind idx)) on
  | none =>
    let s := { s with prove := { s.prove with lanes := setBit s.prove.lanes idx false } }
    (s.set R.SHNT_LANES_LANE (setBit (s.get R.SHNT_LANES_LANE) idx on)).setLane idx (if on then 1 else 0)

/-- The unit is shunted. -/
def State.isShunted (s : State) (kind idx : Nat) : Bool :=
  match unitBit kind idx with
  | some b => bitOn (s.rd R.SHNT_UNITS).toNat b
  | none => bitOn (s.get R.SHNT_LANES_LANE) idx

/-- A SHUNT record (R466). -/
def State.shuntRec (s : State) (kind idx event : Nat) : State := s.trig islMGT 0x91 [kind, idx, event]

/-- The kind of PROVE.STATUS that tests units of a SHNT.CMD kind (R413, R421). -/
def proveKind (kind : Nat) : Nat :=
  match kind with
  | 2 => 5
  | 3 => 3
  | 4 => 2
  | 5 => 4
  | 6 => 6
  | _ => 0

/-- A host command is refused (R413). -/
def State.shuntRefuse (s : State) (st : Nat) : State := (s.set R.SHNT_CMD_STATUS st).raise P.SHNT E.SHNT_REFUSED

/-- A host SHUNT or RETURN completes DONE (R413). -/
def State.shuntDone (s : State) (kind idx : Nat) : State :=
  let s := { s with shunt := { s.shunt with cmd := none } }.set R.SHNT_CMD_STATUS 2
  ((s.bump R.SHNT_SHUNTS_COUNT).raise P.SHNT E.SHNT_DONE).shuntRec kind idx E.SHNT_DONE

/-- A host command begins. -/
def State.shuntBusy (s : State) (op kind idx dest : Nat) : State :=
  { s with shunt := { s.shunt with cmd := some { op := op, kind := kind, index := idx, to_ := dest } } }.set R.SHNT_CMD_STATUS 1

/-- The host command under way is this one. -/
def State.isCmd (s : State) (op kind idx : Nat) : Bool :=
  match s.shunt.cmd with
  | some c => decide (c.op = op ∧ c.kind = kind ∧ c.index = idx)
  | none => false

/-- No command of the table names the unit (R413): before ROLLING, a kind or a unit the device does not have. -/
def State.noUnit (s : State) (kind idx : Nat) : Bool := decide (s.get R.BOOT_STAGE_STAGE < 2 ∨ unitCount kind ≤ idx)

/-- A proving run holds the unit. -/
def State.proves (s : State) (kind idx : Nat) : Bool := s.prove.testing.contains (proveKind kind, idx) && decide (proveKind kind ≠ 0)

/-- A migration that waits for its AXMARK (R410). -/
def State.addMig (s : State) (lane dest : Nat) (shunt : Bool) : State :=
  let m : Migration := { lane := lane, to_ := dest, start := s.ax.mark, asked := s.ax.marks, begun := false, fence := none, fenced := false, shunt := shunt, oldPlace := 0, oldCids := [] }
  { s with shunt := { s.shunt with migs := s.shunt.migs ++ [m] } }

/-- An output PLL leaves service (R210). -/
def State.shuntPll (s : State) (p : Nat) : State :=
  (((s.pllToBypass p).setPll p 0).lineOff 7 (1 + p)).putPll p .init |>.setShunted 5 p true

/-- A TIC leaves service: a measurement ends ABORT (R413, R220). -/
def State.shuntTic (s : State) (t : Nat) : State := ((s.ticAbort t).ticDropCal t).setShunted 4 t true

/-- The engine leaves service (R254). -/
def State.shuntGns (s : State) : State := (s.gnsStop 3).setShunted 6 0 true

/-- SHUNT (R413). -/
def execShuntCmd (m : Master) (kind index : Nat) (s : State) : Host.Outcome State Fault Refusal :=
  .next (s.hostCmd m R.SHNT_CMD_STATUS fun s =>
    if s.noUnit kind index then s.shuntRefuse 6
    else if s.proves kind index then s.shuntRefuse 5
    else if s.isShunted kind index then s.shuntRefuse 6
    else match kind with
      | 1 =>
        let s := s.shuntBusy 1 1 index 31
        { s with shunt := { s.shunt with ask := s.shunt.cmd } }
      | 2 =>
        let s := s.shuntBusy 1 2 index 31
        { s with tri := { s.tri with shuntReq := some index } }
      | 3 =>
        if (s.lanesIn (index / 4)).any (fun l => decide (l ≠ index)) then (s.shuntBusy 1 3 index 31).addMig index 31 true else s.shuntRefuse 4
      | 4 => (s.shuntTic index).shuntDone 4 index
      | 5 => (s.shuntPll index).shuntDone 5 index
      | _ => s.shuntGns.shuntDone 6 0)

/-- MIGRATE (R413, R420): lane INDEX to lane TO of the same coach, which is IN. -/
def execMigrateCmd (m : Master) (kind index dest : Nat) (s : State) : Host.Outcome State Fault Refusal :=
  .next (s.hostCmd m R.SHNT_CMD_STATUS fun s =>
    if kind ≠ 3 ∨ s.noUnit kind index then s.shuntRefuse 6
    else if s.proves 3 index then s.shuntRefuse 5
    else if s.laneSt index ≠ 0 ∨ dest / 4 ≠ index / 4 ∨ dest = index ∨ s.laneSt dest ≠ 0 then s.shuntRefuse 6
    else (s.shuntBusy 3 3 index dest).addMig index dest false)

/-! ## Migration (R410 to R412) -/

def State.migOf (s : State) (lane : Nat) : Option Migration := s.shunt.migs.find? (fun g => decide (g.lane = lane))
def State.putMig (s : State) (g : Migration) : State :=
  { s with shunt := { s.shunt with migs := s.shunt.migs.map (fun x => if x.lane = g.lane then g else x) } }

/-- MIGRATION_START (R410): at the AXMARK after the command. -/
def execMigrationStart (lane : Nat) (s : State) : Host.Outcome State Fault Refusal :=
  withUnit lane 24 (
    match s.migOf lane with
    | none => s
    | some g =>
      if g.begun ∨ s.ax.marks ≤ g.asked then s
      else
        let p := s.placeOf lane
        let cids := ((s.coachOf (lane / 4)).cars.filter (fun (k : Carriage) => decide (k.place = p) && holdsLane k lane)).map (fun (k : Carriage) => k.cid)
        let s := s.putMig { g with begun := true, start := s.ax.mark, oldPlace := p, oldCids := cids }
        ((s.set R.SHNT_MIG_STAT_ACTIVE 1).set R.SHNT_MIG_STAT_TO g.to_).set R.SHNT_MIG_STAT_FROM lane)

/-- A carriage has not passed COMPOSE. -/
def beforeCompose (k : Carriage) : Bool := decide (k.stage = .lookup ∨ k.stage = .verify ∨ k.stage = .compose)

/-- MIGRATION_FENCE_FIXED (R411): the last carriage of the old placement has passed COMPOSE, or Tm + 10 µs has come. -/
def execMigrationFenceFixed (lane tick : Nat) (s : State) : Host.Outcome State Fault Refusal :=
  withUnit lane 24 (
    match s.migOf lane with
    | none => s
    | some g =>
      let c := lane / 4
      let now := (s.ctrOf (8 + c)).at_ tick
      let waits (k : Carriage) : Bool := g.oldCids.contains k.cid && beforeCompose k
      if !g.begun ∨ g.fence.isSome ∨ ((s.coachOf c).cars.any waits ∧ now < g.start + 10000 * nsU) then s
      else
        let s := s.loseAll c waits (R.CO_MIGRATE_DROP_COUNT c)
        let f := (s.coachOf c).cars.foldl (fun (z : Int) (k : Carriage) =>
          match k.depart with
          | some d => if k.place = g.oldPlace then max z d else z
          | none => z) now
        (s.putMig { g with fence := some f }).wrT R.SHNT_MIG_FENCE (toT108 f))

/-- The multicast placements of a coach that name an old placement move (R412). -/
def State.moveMc (s : State) (g : Migration) : State :=
  (List.range 4).foldl (fun (t : State) i =>
    let f := mcFld (4 * (g.lane / 4) + i)
    if t.get f = g.oldPlace then t.set f (t.placeOf (t.destLane g)) else t) s

/-- MIGRATION_FENCE (R411, R412): at F the epoch increments, the lane of a shunt shows SHUNTED, and multicast placements move. -/
def execMigrationFence (lane tick : Nat) (s : State) : Host.Outcome State Fault Refusal :=
  withUnit lane 24 (
    match s.migOf lane with
    | none => s
    | some g =>
      match g.fence with
      | none => s
      | some f =>
        let c := lane / 4
        if g.fenced ∨ (s.ctrOf (8 + c)).at_ tick < f then s
        else
          let x := s.coachOf c
          let s := s.putCoach c { x with epochs := kvPut x.epochs lane ((kvGetD x.epochs lane 0 + 1) % 8) }
          let s := s.putMig { g with fenced := true }
          let s := if g.shunt then s.setShunted 3 lane true else s
          let fr := (s.moveMc g).takeFree
          fr.2.shuntRec 3 lane fr.1)

/-- Every entry of the old placement takes its destination (R410, R412). -/
def State.rewritePlaces (s : State) (g : Migration) : State :=
  let old := s.clt.entries.filter (fun e => decide (e.2.place = g.oldPlace))
  let s := old.foldl (fun (t : State) (e : Nat × ClientEntry) => (t.clientPlace e.1 e.2).2) s
  old.foldl (fun (t : State) (e : Nat × ClientEntry) =>
    let l := kvGetD t.clt.migrating e.1 (t.destLane g)
    { t with clt := { t.clt with entries := kvPut t.clt.entries e.1 { e.2 with place := t.placeOf l }, migrating := kvDel t.clt.migrating e.1 } }) s

/-- MIGRATED (R412): the rewrite is complete; a host command for the lane completes. -/
def execMigrated (lane : Nat) (s : State) : Host.Outcome State Fault Refusal :=
  withUnit lane 24 (
    match s.migOf lane with
    | none => s
    | some g =>
      if !g.fenced then s
      else
        let s := s.rewritePlaces g
        let migs := s.shunt.migs.filter (fun x => decide (x.lane ≠ lane))
        let s := { s with shunt := { s.shunt with migs := migs } }.setFlag R.SHNT_MIG_STAT_ACTIVE (migs.any (fun x => x.begun))
        let s := ((s.bump R.SHNT_MIGRATIONS_COUNT).raise P.SHNT E.SHNT_MIGRATED).shuntRec 3 lane E.SHNT_MIGRATED
        if s.isCmd 1 3 lane then s.shuntDone 3 lane
        else if s.isCmd 3 3 lane then { s with shunt := { s.shunt with cmd := none } }.set R.SHNT_CMD_STATUS 2
        else s)

/-! ## Core shunts (R136) -/

/-- CORE_SHUNT_APPLY (R136): at the first update after the request, after its vote; a core in the vote is refused unless the mode is TRIAD. -/
def execCoreShuntApply (s : State) : Host.Outcome State Fault Refusal :=
  .next (
    match s.tri.shuntReq with
    | none => s
    | some k =>
      if !s.up islVOTE then s
      else
        let s := { s with tri := { s.tri with shuntReq := none } }
        let inVote := s.inCores.contains k
        if s.mode = 2 ∨ (inVote ∧ s.mode ≠ 1) then (if s.isCmd 1 2 k then { s with shunt := { s.shunt with cmd := none } }.shuntRefuse 3 else s)
        else
          let s := (s.setCore k 1 4).putCore k { s.coreOf k with run := 0, returned := false, ready := false, probMs := 0 }
          let s :=
            if inVote then
              let t := ({ s with tri := { s.tri with pairRun := 0 } }.setMode 2).showIn
              t.set R.VOTE_STATUS_DONOR (t.inCores.headD 0)
            else s
          let s := s.setShunted 2 k true
          if s.isCmd 1 2 k then s.shuntDone 2 k else s.shuntRec 2 k E.SHNT_DONE)

/-- The host or a run returns a core: it is reloaded by R133 (R136). -/
def State.returnCore (s : State) (k : Nat) : State := ((s.setShunted 2 k false).healLinks (2 + k)).putCore k { s.coreOf k with returned := true, retries := [] }

/-! ## Returns (R413) -/

/-- The unit is fenced and its return lifts the fence (R413). -/
def State.fencedUnit (s : State) (kind idx : Nat) : Bool :=
  (decide (kind = 1) && bitOn (s.get R.GEN_FENCED_ISLANDS) (8 + idx)) || (decide (kind = 6) && bitOn (s.get R.GEN_FENCED_ISLANDS) islGN)

/-- A unit begins its return path. -/
def State.beginReturn (s : State) (kind idx : Nat) : State :=
  let s := { s with shunt := { s.shunt with back := s.shunt.back ++ [(kind, idx)] } }
  let s := if s.fencedUnit kind idx then { s with gen := { s.gen with returned := setBit s.gen.returned (if kind = 1 then 8 + idx else islGN) true } } else s
  match kind with
  | 4 => s.ticCalStart idx 3
  | 5 => (s.setShunted 5 idx false).pllStart idx false
  | 6 => (s.setShunted 6 0 false).engineReturn
  | _ => s

/-- SHNT_RETURN (R413). -/
def execShntReturn (m : Master) (kind index : Nat) (s : State) : Host.Outcome State Fault Refusal :=
  .next (s.hostCmd m R.SHNT_CMD_STATUS fun s =>
    if s.noUnit kind index then s.shuntRefuse 6
    else if s.proves kind index then s.shuntRefuse 5
    else if !s.isShunted kind index && !s.fencedUnit kind index then s.shuntRefuse 6
    else if kind = 2 then (s.returnCore index).shuntDone 2 index
    else (s.shuntBusy 2 kind index 31).beginReturn kind index)

/-- A coach enters its shunt: drained, its ports go DOWN (R413). -/
def State.coachShunted (s : State) (c : Nat) (cuts : List (Nat × TxRef)) : State := ((s.setShunted 1 c true).coachDown c cuts).shuntDone 1 c

/-- A coach is back in service: pairs calibrated, gear at MIN (R413, R227). -/
def State.coachBack (s : State) (c : Nat) (cals : List CalResult) (temp : Int) : State :=
  let none' : CalResult := { n := 0, np := [], ck := [], topTap := true }
  let s := (List.range 8).foldl (fun (t : State) i => t.pairStart (8 + 8 * c + i) (cals.getD (2 * i) none') (cals.getD (2 * i + 1) none') temp) s
  let s := s.setGear c (min 2 (s.get (R.CO_GEAR_CTRL_MIN c)))
  { s with shunt := { s.shunt with coaches := setBit s.shunt.coaches c false } }.setShunted 1 c false

/-- A unit's return is over. -/
def State.endReturn (s : State) (kind idx : Nat) : State :=
  let s := { s with shunt := { s.shunt with back := s.shunt.back.filter (fun u => u ≠ (kind, idx)) } }
  let s := match unitIsland kind idx with
    | some i => s.healLinks i
    | none => s
  if s.isCmd 2 kind idx then s.shuntDone kind idx else s.shuntRec kind idx E.SHNT_DONE

/-- A lane's known-answer tests have failed: it stays SHUNTED (R413). -/
def State.laneBad (s : State) (lane : Nat) : State :=
  let s := { s with shunt := { s.shunt with back := s.shunt.back.filter (fun u => u ≠ (3, lane)) } }.pulse 31
  if s.isCmd 2 3 lane then { s with shunt := { s.shunt with cmd := none } }.set R.SHNT_CMD_STATUS 7 else s

/-- A PLL's lock sequence is over: LOCKED or FAULT. -/
def State.pllSettled (s : State) (p : Nat) : Bool := decide (s.get (R.PLL_STATUS_STATE p) = 3 ∨ s.get (R.PLL_STATUS_STATE p) = 5 ∨ s.get (R.PLL_STATUS_STATE p) = 0)

/-- SHUNT_RETURN_DONE (R413): a coach's shunt entry, or the return of a unit, completes. -/
def execShuntReturnDone (kind index : Nat) (ok : Bool) (cals : List CalResult) (temp : Int) (cuts : List (Nat × TxRef)) (s : State) :
    Host.Outcome State Fault Refusal :=
  .next (
    if s.shunt.back.contains (kind, index) then
      match kind with
      | 1 => (s.coachBack index cals temp).endReturn 1 index
      | 3 => if ok then (s.setShunted 3 index false).endReturn 3 index else s.laneBad index
      | 4 => if s.ticSt index = 4 then s else (s.setShunted 4 index false).endReturn 4 index
      | 5 => if s.pllSettled index then s.endReturn 5 index else s
      | _ => s.endReturn kind index
    else if kind = 1 ∧ s.isCmd 1 1 index ∧ bitOn s.shunt.coaches index ∧ !s.coachBusy index then s.coachShunted index cuts
    else s)

/-- The AXMARK after a coach SHUNT: its time service drains (R413, R346). -/
def State.shuntMark (s : State) : State :=
  match s.shunt.ask with
  | some c => ({ s with shunt := { s.shunt with ask := none, coaches := setBit s.shunt.coaches c.index true } }.drainCoach c.index)
  | none => s

end Sys2Proof.Machine
end

