-- ==== Sys2Proof/Machine/Prove.lean ====
section
/-! DEFINITION.
Proving runs (R414 to R418, R421), and PREPARE, which ends one (R406).
-/
namespace Sys2Proof.Machine
open Sys2Proof

/-- A PROVE record (R466). -/
def State.proveRec (s : State) (event kind unit : Nat) : State := s.trig islMGT 0x92 [event, kind, unit]

/-- The SHNT.CMD kind of a tested kind; 0 for checkers. -/
def shuntKind (kind : Nat) : Nat :=
  match kind with
  | 2 => 4
  | 3 => 3
  | 4 => 5
  | 5 => 2
  | 6 => 6
  | _ => 0

/-- The bit of a tested unit in PROVE.FAIL_UNITS and SKIP_UNITS (R421); none for a lane. -/
def proveBit (kind unit : Nat) : Option Nat := if kind = 1 then some 22 else unitBit (shuntKind kind) unit

/-- A unit marked in the FAIL or the SKIP registers. -/
def State.markUnit (s : State) (units lanes : Fld) (kind unit : Nat) : State :=
  match proveBit kind unit with
  | some b => s.set units (setBit (s.get units) b true)
  | none => s.set lanes (setBit (s.get lanes) unit true)

/-- The unit under test as PROVE.STATUS shows it: the first of those under test (DESIGN CHOICE for lanes of several coaches, log entry 31). -/
def State.showProve (s : State) : State :=
  match s.prove.testing with
  | (k, u) :: _ => (s.set R.PROVE_STATUS_KIND k).set R.PROVE_STATUS_UNIT u
  | [] => (s.set R.PROVE_STATUS_KIND 0).set R.PROVE_STATUS_UNIT 0

/-- The run is over (R418): LAST_LEN, RUNS, the event and the record; RUN_NOW completes. -/
def State.proveEnd (s : State) (aborted : Bool) : State :=
  let len := ((s.ax.mark - s.prove.start) / secU).toNat
  let s := { s with prove := { s.prove with running := false, left := [], testing := [] } }
  let s := ((s.showProve.set R.PROVE_STATUS_STATE 0).set R.PROVE_LAST_LEN_S (min 4095 len)).bump R.PROVE_RUNS_COUNT
  let s := if s.get R.PROVE_CMD_STATUS = 1 then s.set R.PROVE_CMD_STATUS 2 else s
  if aborted then ((s.bump R.PROVE_ABORTS_COUNT).raise P.PROVE E.PROVE_ABORT).proveRec E.PROVE_ABORT 0 0
  else (s.raise P.PROVE E.PROVE_DONE).proveRec E.PROVE_DONE 0 0

/-! ## Units (R415, R416) -/

/-- An enabled CLK_OUT selects the PLL. -/
def State.pllUsed (s : State) (p : Nat) : Bool := (s.clksOf p).any (fun n => s.flag (R.OUT_CLK_CFG_EN n))

/-- A unit is passed over (R415): it cannot be tested silently, or it is already out of service. -/
def State.passOver (s : State) (kind unit : Nat) : Bool :=
  if kind = 1 then false
  else s.isShunted (shuntKind kind) unit || (match kind with
    | 2 => s.ticArmed unit || (s.ticOf unit).armAt.isSome
    | 3 => decide (s.laneSt unit ≠ 0) || decide (((s.lanesIn (unit / 4)).filter (fun l => decide (l ≠ unit))).length < 2)
    | 4 => s.pllUsed unit
    | 6 => decide (s.gnsSlot = some s.selected) || decide (2 ≤ s.get R.SEL_STATUS_STATE ∧ s.get R.SEL_STATUS_STATE ≤ 5)
    | _ => false)

/-- A unit comes under test: shunted, and its test begins (R415). -/
def State.beginTest (s : State) (kind unit : Nat) : State :=
  let s := { s with prove := { s.prove with testing := s.prove.testing ++ [(kind, unit)] } }
  match kind with
  | 2 => (s.shuntTic unit).ticCalStart unit 3
  | 3 => s.addMig unit 31 true
  | 4 => s.shuntPll unit
  | 5 => { s with tri := { s.tri with shuntReq := some unit } }
  | 6 => s.shuntGns
  | _ => s

/-- The next unit that may come under test: units in order, kind by kind; one lane of each coach at a time; a core waits for TRIAD (R415). -/
def State.nextUnit (s : State) : Option (Nat × Nat) :=
  match s.prove.left with
  | [] => none
  | (k, u) :: _ =>
    if k = 3 then
      if s.prove.testing.any (fun t => decide (t.1 ≠ 3)) then none
      else s.prove.left.find? (fun t => decide (t.1 = 3) && !s.prove.testing.any (fun x => decide (x.2 / 4 = t.2 / 4)))
    else if s.prove.testing ≠ [] then none
    else if k = 5 ∧ s.mode ≠ 1 then none
    else some (k, u)

/-- The run moves on: every unit that may come under test does, and with none left it ends. -/
def State.proveStep (s : State) (fuel : Nat) : State :=
  match fuel with
  | 0 => s.showProve
  | n + 1 =>
    if !s.prove.running then s
    else match s.nextUnit with
      | none => if s.prove.left = [] ∧ s.prove.testing = [] then s.proveEnd false else s.showProve
      | some (k, u) =>
        let s := { s with prove := { s.prove with left := s.prove.left.filter (fun t => t ≠ (k, u)) } }
        if s.passOver k u then (s.markUnit R.PROVE_SKIP_UNITS_UNITS R.PROVE_SKIP_LANES_LANE k u).proveStep n
        else (s.beginTest k u).proveStep n

/-- The units of the enabled kinds, in order (R415). -/
def State.proveList (s : State) : List (Nat × Nat) :=
  let on (f : Fld) (k n d : Nat) : List (Nat × Nat) := if s.flag f then (List.range n).map (fun u => (k, u + d)) else []
  on R.PROVE_CTRL_CHECK 1 5 1 ++ on R.PROVE_CTRL_TIC 2 8 0 ++ on R.PROVE_CTRL_LANE 3 24 0 ++ on R.PROVE_CTRL_PLL 4 4 0 ++
    on R.PROVE_CTRL_CORE 5 3 0 ++ on R.PROVE_CTRL_GNSS 6 1 0

/-! ## Starting (R414) -/

/-- Units that the host has shunted: those that no run has left out. -/
def State.hostShunts (s : State) : Bool :=
  (List.range 22).any (fun b => bitOn (s.rd R.SHNT_UNITS).toNat b && !bitOn s.prove.units b) ||
    (List.range 24).any (fun l => bitOn (s.get R.SHNT_LANES_LANE) l && !bitOn s.prove.lanes l)

/-- A run may start (R414). -/
def State.mayProve (s : State) : Bool :=
  s.flag R.PROVE_CTRL_EN && decide (3 ≤ s.get R.BOOT_STAGE_STAGE) && s.boot.timeValid && decide (s.mode = 1) && decide (s.genState = 0) &&
    decide (s.get R.GEN_FENCED_ISLANDS = 0) && !s.hostShunts

/-- The second mark is the one of PROVE.AT (R414). -/
def State.proveDue (s : State) : Bool :=
  let at_ := if s.get R.PROVE_AT_S ≤ 86399 then s.get R.PROVE_AT_S else 10800
  s.flag R.PROVE_CTRL_EN && decide ((s.ax.mark / secU) % 86400 = (at_ : Int))

/-- PROVE_START (R414, R421): at a second mark, by PROVE.AT or after RUN_NOW. -/
def execProveStart (s : State) : Host.Outcome State Fault Refusal :=
  .next (
    if !s.ax.secMark ∨ !s.up islMGT ∨ s.prove.running ∨ !(s.prove.asked || s.proveDue) then s
    else
      let asked := s.prove.asked
      let s := { s with prove := { s.prove with asked := false } }
      if !s.mayProve then
        let s := if asked then s.set R.PROVE_CMD_STATUS 3 else s
        ((s.bump R.PROVE_ABORTS_COUNT).raise P.PROVE E.PROVE_ABORT).proveRec E.PROVE_ABORT 0 0
      else
        let l := s.proveList
        let s := { s with prove := { s.prove with running := true, start := s.ax.mark, left := l, testing := [], failed := 0 } }
        let s := ((s.set R.PROVE_FAIL_UNITS_UNITS 0).set R.PROVE_FAIL_LANES_LANE 0).set R.PROVE_SKIP_UNITS_UNITS 0
        let s := ((s.set R.PROVE_SKIP_LANES_LANE 0).wrT R.PROVE_LAST_START (toT108 s.ax.mark)).set R.PROVE_STATUS_STATE 1
        ((s.raise P.PROVE E.PROVE_START).proveRec E.PROVE_START 0 0).proveStep (l.length + 1))

/-- RUN_NOW (R414). -/
def execRunNow (m : Master) (s : State) : Host.Outcome State Fault Refusal :=
  .next (s.hostCmd m R.PROVE_CMD_STATUS fun s => { s with prove := { s.prove with asked := true } }.set R.PROVE_CMD_STATUS 1)

/-! ## Results (R415, R417) -/

/-- The line of a failing unit (R417). -/
def proveLine (kind unit : Nat) : Nat :=
  match kind with
  | 1 => injLine { checker := unit, unit := 0, to_ := 0, left := 0, quiet := false, flagged := false }
  | 2 => 9
  | 3 => 31
  | 4 => 7
  | 5 => 2 + unit
  | _ => 10

/-- A test is over: the unit is no longer under test, and the run moves on. -/
def State.testOver (s : State) (kind unit : Nat) : State :=
  let s := { s with prove := { s.prove with testing := s.prove.testing.filter (fun t => t ≠ (kind, unit)) } }
  s.proveStep (s.prove.left.length + 1)

/-- A unit fails: it stays out of service (R417). -/
def State.unitFail (s : State) (kind unit : Nat) : State :=
  let s := match unitBit (shuntKind kind) unit with
    | some b => { s with prove := { s.prove with units := setBit s.prove.units b true } }
    | none => if kind = 3 then { s with prove := { s.prove with lanes := setBit s.prove.lanes unit true } } else s
  let s := s.markUnit R.PROVE_FAIL_UNITS_UNITS R.PROVE_FAIL_LANES_LANE kind unit
  let l := proveLine kind unit
  let s := if s.present l then s else { s with prove := { s.prove with failed := setBit s.prove.failed l true } }
  let s := if kind = 5 then s.lineOn l 1 else s.pulse l
  (((s.bump R.PROVE_FAILS_COUNT).raise P.PROVE E.PROVE_FAIL).proveRec E.PROVE_FAIL kind unit).testOver kind unit

/-- A TIC's test: its calibration is taken, and passes with the interval's check (R415, R224). -/
def State.ticTest (s : State) (t : Nat) (pass : Bool) (cals : List CalResult) (temp : Int) : State :=
  let none' : CalResult := { n := 0, np := [], ck := [], topTap := true }
  let ok := decide (s.ticCalWhy t (cals.getD 0 none') (cals.getD 1 none') = 0)
  let s := s.ticCalTake t (cals.getD 0 none') (cals.getD 1 none') temp
  let c := s.ticOf t
  let s := (s.set (R.TIC_STATUS_STATE t) (if c.start.uncal || c.stop.uncal then 5 else 0)).putTic t { c with calKind := 0 }
  if pass ∧ ok then (s.setShunted 4 t false).testOver 2 t else s.unitFail 2 t

/-- A core's test: the self-test while it is OUT, then its readmission (R415). -/
def State.coreTest (s : State) (k : Nat) (pass : Bool) : State :=
  if s.tri.shuntReq = some k then s
  else if s.coreSt k = 0 then s.testOver 5 k
  else if s.coreSt k ≠ 1 then s
  else if s.get (R.TCORE_STATE_OUT_WHY k) = 4 ∧ !(s.coreOf k).returned then (if pass then s.returnCore k else s.unitFail 5 k)
  else if (s.coreOf k).returned then s
  else s.unitFail 5 k

/-- PROVE_UNIT_DONE (R415, R417): the test of a unit completes. -/
def execProveUnitDone (kind unit : Nat) (pass : Bool) (cals : List CalResult) (temp : Int) (s : State) : Host.Outcome State Fault Refusal :=
  .next (
    if !s.prove.testing.contains (kind, unit) then s
    else match kind with
      | 1 => if pass then s.testOver 1 unit else s.unitFail 1 unit
      | 2 => s.ticTest unit pass cals temp
      | 3 => if (s.migOf unit).isSome then s else if pass then (s.setShunted 3 unit false).testOver 3 unit else s.unitFail 3 unit
      | 4 => if pass then ((s.setShunted 5 unit false).pllStart unit false).testOver 4 unit else s.unitFail 4 unit
      | 5 => s.coreTest unit pass
      | _ => if pass then ((s.setShunted 6 0 false).engineReturn).testOver 6 0 else s.unitFail 6 0)

/-! ## Aborting (R418) -/

/-- A unit under test is returned at once by its return path. -/
def State.returnUnit (s : State) (kind unit : Nat) : State :=
  match kind with
  | 2 => { s with shunt := { s.shunt with back := s.shunt.back ++ [(4, unit)] } }
  | 3 =>
    match s.migOf unit with
    | some g => if g.fenced then { s with shunt := { s.shunt with back := s.shunt.back ++ [(3, unit)] } } else s.putMig { g with shunt := false }
    | none => { s with shunt := { s.shunt with back := s.shunt.back ++ [(3, unit)] } }
  | 4 => (s.setShunted 5 unit false).pllStart unit false
  | 5 => if s.tri.shuntReq = some unit then { s with tri := { s.tri with shuntReq := none } } else if s.coreSt unit = 1 then s.returnCore unit else s
  | 6 => (s.setShunted 6 0 false).engineReturn
  | _ => s

/-- A run in progress is aborted. -/
def State.proveAbort (s : State) : State :=
  if !s.prove.running then s
  else (s.prove.testing.foldl (fun (t : State) (u : Nat × Nat) => t.returnUnit u.1 u.2) s).proveEnd true

/-- PROVE_STOP (R9, R418): admitted while RUN_NOW runs. -/
def execProveStop (m : Master) (s : State) : Host.Outcome State Fault Refusal :=
  .next (s.hostWrite m R.PROVE_CMD fun s =>
    let s := { s with prove := { s.prove with asked := false } }.proveAbort
    s.set R.PROVE_CMD_STATUS 2)

/-- PROVE_WINDOW_END (R418). -/
def execProveWindowEnd (s : State) : Host.Outcome State Fault Refusal :=
  .next (if s.ax.mark < s.prove.start + (s.getOr R.PROVE_WINDOW_S 300 3600 1800 : Nat) * secU then s else s.proveAbort)

/-- GEN_PREPARE (R9, R406, R418): a PREPARE while a generation is pending is rejected; one that reaches MGT aborts a proving run first. -/
def execGenPrepare (m : Master) (tick : Nat) (s : State) : Host.Outcome State Fault Refusal :=
  .next (s.hostWrite m R.GEN_CMD fun s =>
    if s.genState ≠ 0 then s.wcReject m R.GEN_CMD else s.proveAbort.prepare (s.voteTime tick))

/-- What a run does at an AXMARK: it ends when the vote has left TRIAD for another reason than its own core shunt, and a waiting core comes under test
(R415, R418). -/
def State.proveMark (s : State) : State :=
  if !s.prove.running then s
  else if s.mode ≠ 1 ∧ !s.prove.testing.any (fun t => decide (t.1 = 5)) ∧ !(List.range 3).any (fun k => bitOn s.prove.units (6 + k)) then s.proveAbort
  else s.proveStep (s.prove.left.length + 1)

end Sys2Proof.Machine
end

