-- ==== Sys2Proof/Machine/Resets.lean ====
section
/-! DEFINITION.
Islands entering reset: what every island loses, and what that ends elsewhere (R62, R64, R65, R440).
-/
namespace Sys2Proof.Machine
open Sys2Proof

/-- Every island that the page lives in is in the mask. -/
def pageIn (mask page : Nat) : Bool := decide (pageIslands page ≠ []) && (pageIslands page).all (fun i => bitOn mask i)

/-- The island whose state holds a cause of a fault line; AO for a cause that no reset of another island ends. -/
def causeIsland (line cause : Nat) : Nat :=
  if cause = 0 then islAO
  else match line with
    | 2 => islVOTE
    | 3 => islVOTE
    | 4 => islVOTE
    | 7 => islRH
    | 8 => islRH
    | 10 => islGN
    | 24 => if cause = 1 then islAO else islRH
    | 27 => islRH
    | 32 => islRH
    | 33 => islMGT
    | _ => islAO

/-- The units of SHNT.UNITS whose islands are in the mask, bit per unit. -/
def unitsIn (mask : Nat) : Nat :=
  maskOf ((List.range 22).filter (fun b =>
    if b < 6 then bitOn mask (8 + b) else if b < 9 then bitOn mask (b - 4) else if b < 21 then bitOn mask islRH else bitOn mask islGN))

/-- A coach loses its carriages, whose pins end with them, its frames still arriving at the switch (R312), its ports, its cage bus and its converter tables. -/
def State.resetCoach (s : State) (c : Nat) : State :=
  let s := (s.coachOf c).cars.foldl (fun (t : State) k => t.unpin c k) (s.abortInput c)
  let here (k : Nat) : Bool := decide (k / 4 = c)
  { s with pipe := { s.pipe with ports := s.pipe.ports.filter (fun p => !here p.1), buses := kvDel s.pipe.buses c, coaches := kvDel s.pipe.coaches c },
           tic := { s.tic with pairs := s.tic.pairs.filter (fun p => decide (p.1 < 8 + 8 * c ∨ 16 + 8 * c ≤ p.1)) },
           teb := { s.teb with coaches := kvDel s.teb.coaches c },
           shunt := { s.shunt with migs := s.shunt.migs.filter (fun m => !here m.lane), coaches := setBit s.shunt.coaches c false,
                                   back := s.shunt.back.filter (fun u => u ≠ (1, c) ∧ !(decide (u.1 = 3) && here u.2)) },
           boot := { s.boot with txOn := (List.range 4).foldl (fun m i => setBit m (4 * c + i) false) s.boot.txOn } }

/-- The sampled levels of the cage inputs of a coach show in its registers once it is out of reset (R35, R286). -/
def State.cagePins (s : State) (c : Nat) : State :=
  (List.range 4).foldl (fun (t : State) i =>
    let p := 4 * c + i
    let low := bitOn s.boot.intLow p
    let t := (t.setFlag (R.PRT_MODULE_PRESENT p) (bitOn s.boot.prs p)).setFlag (R.PRT_MODULE_INT p) low
    if low then t.level (P.PRT p) E.PRT_MOD_INT true else t) s

/-- What one island keeps beside its registers goes back to its reset state. -/
def State.resetPart (s : State) (i : Nat) : State :=
  if i = islMGT then
    { s with isl := { s.isl with mgtLost := false }, host := .init, gen := .init, dma := .init, shunt := { s.shunt with cmd := none, ask := none }, prove := .init }
  else if 2 ≤ i ∧ i ≤ 4 then
    let t := s.putImg (i - 2) .init
    { t with cores := { t.cores with held := kvDel t.cores.held (i - 2) } }
  else if i = islVOTE then { s.showCore 0 with ax := .init, tri := .init }
  else if i = islRH then
    let t := if s.osc.lockedEver then s.lineOn 23 1 else s
    { t with sel := .init, out := .init, teb := .init, dug := .init, tic := { TicPart.init with pairs := t.tic.pairs.filter (fun p => decide (8 ≤ p.1)), temps := t.tic.temps },
             osc := { OscPart.init with warm := t.osc.warm, warmEver := t.osc.warmEver, lockedEver := t.osc.lockedEver } }
  else if i = islGN then { s with gns := { GnsPart.init with almAt := s.gns.almAt, ephAt := s.gns.ephAt } }
  else if 8 ≤ i ∧ i ≤ 13 then s.resetCoach (i - 8)
  else if i = islSW then { s with sw := .init, clt := .init }
  else if i = islKV then
    { s with key := { KeyPart.init with fuses := s.key.fuses, owner := s.key.owner, half := s.key.half, attMode := s.key.attMode, attSlot := s.key.attSlot } }
  else s

/-- The islands of the mask enter reset: registers, shadows and what they keep return to reset values; broken couplings count them as reset (R16), fences on
them end (R409), and the causes that they held end. -/
def State.resetIslands (s : State) (mask : Nat) : State :=
  let l := (List.range 16).filter (fun i => bitOn mask i)
  let p := pageIn mask
  let units := (s.rd R.SHNT_UNITS).toNat
  let lanes := s.get R.SHNT_LANES_LANE
  let fenced := s.get R.GEN_FENCED_ISLANDS
  let s := l.foldl State.resetPart s
  let s := { s with regs := s.regs.resetPages p, shadow := s.shadow.resetPages p, staging := s.staging.resetPages p, isl := { s.isl with inReset := s.isl.inReset ||| mask },
                    flt := { s.flt with causes := s.flt.causes.filter (fun c => !bitOn mask (causeIsland c.1 c.2)) },
                    gen := { s.gen with keep := s.gen.keep.filter (fun k => !bitOn mask k.1), late := s.gen.late.filter (fun e => !bitOn mask e.1), returned := s.gen.returned - (s.gen.returned &&& mask) } }
  let s := s.wr R.SHNT_UNITS (BitVec.ofNat 36 (units - (units &&& unitsIn mask)))
  let s := s.set R.SHNT_LANES_LANE ((List.range 24).foldl (fun m n => if bitOn mask (8 + n / 4) then setBit m n false else m) lanes)
  let s := s.set R.GEN_FENCED_ISLANDS (fenced - (fenced &&& mask))
  let s := if fenced ≠ 0 ∨ bitOn mask islMGT then s.showFences else s
  l.foldl State.healIsland s

/-- Islands leave reset; a local time counter starts from the voted scale. -/
def State.releaseIslands (s : State) (mask : Nat) : State :=
  let s := { s with isl := { s.isl with inReset := s.isl.inReset - (s.isl.inReset &&& mask) } }
  let s := ((List.range 16).filter (fun i => bitOn mask i && (kvGet s.ax.ctrs i).isSome)).foldl (fun (t : State) i => t.putCtr i t.ax.v) s
  (List.range 6).foldl (fun (t : State) c => if bitOn mask (8 + c) then t.cagePins c else t) s

end Sys2Proof.Machine
end

