-- ==== Sys2Proof/Machine/Reactions.lean ====
section
/-! DEFINITION.
What the rise of fault lines and a change of their severities set off in the device, and the release of a brake (R408, R418, R446 to R456).
-/
namespace Sys2Proof.Machine
open Sys2Proof

/-- FATAL lines among `lines` brake (R451); with line 17 or 18 switching and host DMA stop as well (R28, R452).  `cuts`: frames in transmission, by port;
`slot`: the slot of the fabric. -/
def State.brakeLines (s : State) (lines : List Nat) (cuts : List (Nat × TxRef)) (slot : Nat) : State :=
  let t := s.fatalBrake lines
  let t := if s.flt.brake = .off ∧ t.flt.brake ≠ .off then t.cutLaunches cuts else t
  if !s.flt.swStopped && t.flt.swStopped then (t.switchHalt slot).stopRings (fun _ => true) else t

/-- What lines that rise, or whose severity changes, set off: reactions in the coaches, and the end of a proving run (R346, R418, R450).  `hard`: a line has risen
at SEVERE or FATAL severity that is no failure of R417; `old`: the state before. -/
def State.reactions (old s : State) (hard : Bool) : State :=
  let s := State.faultStops old s.refreshFaults
  if hard || (decide (old.flt.brake = .off) && decide (s.flt.brake ≠ .off)) || (old.boot.timeValid && !s.boot.timeValid) then s.proveAbort else s

/-- A line of MGT's own block rises or stands at SEVERE or FATAL severity: MGT is lost, and no master reaches the device until MGT is reset (R28, R444). -/
def State.mgtFault (s : State) (lines : List Nat) : State :=
  if lines.any (fun l => decide (l = 1) && decide (2 ≤ s.sev l)) then { s with isl := { s.isl with mgtLost := true } } else s

/-- A rise of line 0 that the oscillator does not hold is a parity error of an AO register (R444, R462). -/
def State.aoParity (s : State) (lines : List Nat) : State :=
  if lines.contains 0 && !s.lineHeld 0 then (s.bump R.AO_PARITY_ERR_COUNT).raise P.AO E.AO_PARITY else s

/-- FAULT_LINE_RISE (R408, R418, R446, R447, R449, R451): the lines of the mask that FLT.NOW does not show yet rise in one AO cycle. -/
def execFaultLineRise (lines tick : Nat) (cuts : List (Nat × TxRef)) (slot : Nat) (s : State) : Host.Outcome State Fault Refusal :=
  .next (
    let old := s
    let new := (s.firstOrder lines).filter (fun l => !s.present l)
    let hard := new.any (fun l => decide (2 ≤ s.sev l) && !bitOn s.prove.failed l)
    let s := (s.aoParity new).mgtFault new
    let s := new.foldl (fun (t : State) l => if t.lineHeld l then t else t.pulse l) s
    let s := s.brakeLines new cuts slot
    let inst := s.instAt tick
    let s := new.foldl (fun (t : State) l => t.latchLine l inst) s
    let s := { s with prove := { s.prove with failed := new.foldl (fun m l => setBit m l false) s.prove.failed } }
    (State.reactions old s hard).genLines new cuts)

/-- FLT_SEV_WRITE (R456): the severities change at the write; a present line made FATAL brakes as though it had risen now. -/
def execFltSevWrite (m : Master) (high : Bool) (v : Word) (cuts : List (Nat × TxRef)) (slot : Nat) (s : State) : Host.Outcome State Fault Refusal :=
  .next (s.hostWrite m (if high then R.FLT_SEV_HI else R.FLT_SEV_LO) fun s =>
    let t := s.wr (if high then R.FLT_SEV_HI else R.FLT_SEV_LO) v
    let t := t.mgtFault ((List.range 36).filter (fun l => s.present l))
    State.reactions s (t.brakeLines ((List.range 36).filter (fun l => s.present l && decide (s.sev l ≠ 3))) cuts slot) false)

/-- Switching resumes after a brake of line 17 or 18; the DRAM spill area has been emptied first (R452). -/
def State.switchResume (s : State) : State :=
  if !s.flt.swStopped then s
  else
    let s := { s with flt := { s.flt with swStopped := false } }
    ((s.sw.frames.foldl (fun (t : State) f => t.dropCopies f (fun c => c.spilled)) s).tidy).showSwBusy

/-- RELEASED (R454, R452, R208): at the AXMARK after an accepted RELEASE the brake ends, every output is muted and waits to start, and switching
resumes; a row of the table that holds by then completes the command instead. -/
def execReleased (s : State) : Host.Outcome State Fault Refusal :=
  .next (
    if s.flt.releaseAsked then
      let s := { s with flt := { s.flt with releaseAsked := false } }
      match s.releaseStatus with
      | some st => s.set R.FLT_CMD_STATUS st
      | none =>
        let s := { s with flt := { s.flt with brake := .off } }
        let s := (List.range 8).foldl (fun (t : State) o => (t.putSrc o 0).setMisalign o 0) s.switchResume
        ((s.set R.FLT_CMD_STATUS 2).raise P.FLT E.FLT_RELEASED).refreshFaults
    else s)

end Sys2Proof.Machine
end

