-- ==== Sys2Proof/Machine/Pins.lean ====
section
/-! DEFINITION.
Tamper sensors, junction sensors, the test access port and the PCIe endpoint's reset (R39, R51 to R53, R57, R391 to R394, R477, R506).
-/
namespace Sys2Proof.Machine
open Sys2Proof

/-! ## Tamper (R391 to R394) -/

/-- AO runs: VIN has risen through 10.5 V and the hold-up has not ended since (R56, R74). -/
def State.aoOn (s : State) : Bool := decide (s.boot.pos ≠ .off)

/-- The sensor is watched (R391). -/
def State.watched (s : State) (k : Nat) : Bool := decide (k < 3) || bitOn (s.get R.TMP_POLICY_EN) k

/-- TMP.NOW, its level event, and line 20 while a sensor's condition is present (R392, R394, R402). -/
def State.putTmpNow (s : State) (k : Nat) (on : Bool) : State :=
  let s := s.set R.TMP_NOW_SENSOR (setBit (s.get R.TMP_NOW_SENSOR) k on)
  let any := decide (s.get R.TMP_NOW_SENSOR ≠ 0)
  (s.level P.TMP E.TMP_ACTIVE any).lineSet 20 1 any

/-- The commands that KV runs are aborted with their results withheld (R393). -/
def State.abortKv (s : State) : State :=
  let s := s.endRunning 9
  let s := if s.key.lcyRun.isSome then
      let t := { s with key := { s.key with lcyRun := none } }
      if s.get R.LCY_CMD_STATUS = 1 then t.lcyDone 7 else t
    else s
  if s.key.attAsked.isSome then { s with key := { s.key with attAsked := none } }.attDone 7 else s

/-- The start has not loaded the key slots yet (R56, R393). -/
def State.beforeKeys (s : State) : Bool := decide (s.boot.pos = .ao ∨ s.boot.pos = .hitched ∨ s.boot.pos = .scanned)

/-- A sensor set in TMP.POLICY.DISABLE moves the device to DISABLED without confirmation, once KV runs (R392, R374). -/
def State.tamperDisable (s : State) : State :=
  if s.up islKV && decide ((s.rd R.TMP_LATCH).toNat &&& s.get R.TMP_POLICY_DISABLE ≠ 0) && decide (s.lcs ≠ 4) && s.key.lcyRun.isNone then
    { s with key := { s.key with lcyRun := some (4, s.key.attMode, s.key.attSlot) } }
  else s

/-- A tamper alarm (R392, R393). -/
def State.tamper (s : State) (k : Nat) : State :=
  let first := decide (s.rd R.TMP_LATCH = 0)
  let s := s.putTmpNow k true
  let s := s.wr R.TMP_LATCH (BitVec.ofNat 36 (setBit (s.rd R.TMP_LATCH).toNat k true))
  let s := if first then s.set R.TMP_FIRST_SENSOR k else s
  let s := (s.bump R.TMP_ALARMS_COUNT).raise P.TMP E.TMP_ALARM
  let s := s.trigAt islAO 0x81 s.nowT [k, s.get R.TMP_NOW_SENSOR]
  let s := s.lineOn 20 1
  let s := ((s.closeWindow .pf0).closeWindow .pf1).closeWindow .spi
  let s := if s.up islKV then s.abortKv.zeroize true else s
  let s := if s.beforeKeys then s.set R.BOOT_CAUSE_KEYS_SUPPRESSED 1 else s
  ((List.range 6).foldl (fun (t : State) c => t.tamperStop c) s).tamperDisable

/-- TAMPER_ALARM (R391, R392): a watched sensor's condition begins while AO runs. -/
def execTamperAlarm (sensor : Nat) (s : State) : Host.Outcome State Fault Refusal :=
  withUnit sensor 6 (if !s.aoOn ∨ !s.watched sensor ∨ bitOn (s.get R.TMP_NOW_SENSOR) sensor then s else s.tamper sensor)

/-- TMP_NOW_CLEAR (R394, R402): the condition of a sensor ends. -/
def execTmpNowClear (sensor : Nat) (s : State) : Host.Outcome State Fault Refusal :=
  withUnit sensor 6 (if bitOn (s.get R.TMP_NOW_SENSOR) sensor then s.putTmpNow sensor false else s)

/-! ## Junction temperature (R506 to R508) -/

/-- THERM_ALERT_N follows the thresholds from HITCHED onward; before it, the pin makes no edge toward its active level (R35, R36). -/
def State.thermPin (s : State) : State :=
  let on := s.flag R.THM_STATUS_ALERT
  { s with boot := { s.boot with thermAlert := on && (s.boot.thermAlert || decide (s.boot.pos ≠ .ao)) } }

/-- The hottest junction against the alert and critical thresholds (R506). -/
def State.thermal (s : State) (tj : Int) : State :=
  let hi := s.getS R.THM_ALERT_SET_T
  let lo := if s.getS R.THM_ALERT_CLR_T < hi then s.getS R.THM_ALERT_CLR_T else hi - 1024
  let crit := min (s.getS R.THM_CRIT_T) 122880
  let alert := decide (hi ≤ tj) || (s.flag R.THM_STATUS_ALERT && decide (lo ≤ tj))
  let hot := decide (crit ≤ tj) || (s.flag R.THM_STATUS_CRIT && decide (crit - 2048 ≤ tj))
  let s := (s.setFlag R.THM_STATUS_ALERT alert).level P.THM E.THM_ALERT alert
  let s := (s.setFlag R.THM_STATUS_CRIT hot).level P.THM E.THM_CRIT hot
  (s.lineSet 26 1 hot).thermPin

/-- One millisecond above 100 °C; each whole hour counts (R506, R507). -/
def State.hotMs (s : State) : State :=
  if s.boot.hotMs + 1 < 3600000 then { s with boot := { s.boot with hotMs := s.boot.hotMs + 1 } }
  else { s with boot := { s.boot with hotMs := 0 } }.bump R.THM_HOURS_HOT_COUNT

/-- THM_SAMPLE (R506, R391): the 16 junction sensors are read while AO runs. -/
def execThmSample (temps : List Int) (s : State) : Host.Outcome State Fault Refusal :=
  .next (
    match temps with
    | [] => s
    | t0 :: rest =>
      if !s.aoOn then s
      else
        let tj := clampInt (-131072) 131071 (rest.foldl max t0)
        let s := s.setS R.THM_TJ_T tj
        let s := if s.boot.thmSeen && decide (tj ≤ s.getS R.THM_TJ_PEAK_T) then s else s.setS R.THM_TJ_PEAK_T tj
        let s := { s with boot := { s.boot with thmSeen := true } }.thermal tj
        let s := if 102400 < tj then s.hotMs else s
        let bad := temps.any (fun t => decide (128000 < t ∨ t < -46080))
        let now := bitOn (s.get R.TMP_NOW_SENSOR) 4
        if bad && !now && s.watched 4 then s.tamper 4 else if !bad && now then s.putTmpNow 4 false else s)

/-! ## Test access port (R51 to R53, R59) -/

/-- HOLD_WHY shows the boundary-scan hold while the start sequence waits behind it (R59). -/
def State.jtagHold (s : State) : State :=
  let waits := decide (s.boot.pos = .chosen ∨ s.boot.pos = .released ∨ s.boot.pos = .applied)
  if waits then s.set R.BOOT_STAGE_HOLD_WHY (if s.tapInForce then 2 else 0) else s

/-- JTAG_REFUSED is raised while MGT runs (R52, R53). -/
def State.jtagRefused (s : State) : State := if s.up islMGT then s.raise P.GLB E.GLB_JTAG_REFUSED else s

/-- The port takes an instruction; HOLD_WHY follows. -/
def State.putTap (s : State) (t : TapInstr) : State := ({ s with boot := { s.boot with tap := t } }).jtagHold

/-- JTAG_PIN_INSTRUCTION (R52): in force while RESET_N is low or in HITCHED.  Loaded in a later stage it acts as BYPASS with JTAG_REFUSED; it takes the pins once
the device is in one of the two conditions again (log entry 42). -/
def execJtagPinInstruction (i : PinInstr) (s : State) : Host.Outcome State Fault Refusal :=
  .next (
    if !s.aoOn then s
    else
      let t := s.putTap (.pins i)
      if t.tapInForce then t else t.jtagRefused)

/-- JTAG_PRIVATE_INSTRUCTION (R53): BYPASS with JTAG_REFUSED, but in MANUFACTURE and RETURNED, where the spec does not say what the instruction does. -/
def execJtagPrivateInstruction (s : State) : Host.Outcome State Fault Refusal :=
  if !s.aoOn then .next s else if s.lcs = 0 ∨ s.lcs = 3 then .refused .privateTest else .next (s.putTap .bypass).jtagRefused

/-- JTAG_INSTRUCTION_EXIT (R51, R52, R59): the port leaves the instruction, as it does while TRST_N is low; the pins return to the device and the start sequence
continues from where it stood. -/
def execJtagInstructionExit (s : State) : Host.Outcome State Fault Refusal := .next (s.putTap .reset)

/-! ## PERST_N and configuration requests (R57, R477) -/

/-- PERST_ASSERT (R477, R62): the endpoint is reset, rings stop, both MSI-X tables and the DMA page are reset. -/
def execPerstAssert (s : State) : Host.Outcome State Fault Refusal :=
  .next (
    if s.boot.perstLow then s
    else
      let s := { s with boot := { s.boot with perstLow := true, pcieReady := false } }
      if !s.up islMGT then s
      else
        let s := (((s.stopRings (fun _ => true)).resetMsix 0).resetMsix 1).linkGone
        { s with regs := s.regs.resetPages (fun p => decide (p = P.DMA)) })

/-- PERST_RELEASE (R57). -/
def execPerstRelease (s : State) : Host.Outcome State Fault Refusal :=
  .next ({ s with boot := { s.boot with perstLow := false } })

/-- PCIE_CONFIG_REQUEST (R57, R105): answered with Configuration Request Retry Status until the endpoint is ready; an endpoint in reset answers nothing.  A
request that writes the MSI-X control takes its two bits. -/
def execPcieConfigRequest (pf : Nat) (ready : Bool) (msix : Option (Bool × Bool)) (s : State) : Host.Outcome State Fault Refusal :=
  withUnit pf 2 (
    if s.boot.perstLow ∨ !s.up islMGT then s
    else
      let ok := ready || s.boot.pcieReady
      let s := { s with boot := { s.boot with pcieReady := ok } }.emit (.pcieConfig pf (!ok))
      match msix with
      | none => s
      | some (en, mask) => if ok then (s.putMsix pf { s.msixOf pf with enabled := en, funcMask := mask }).sendPending pf else s)

end Sys2Proof.Machine
end

