-- ==== Sys2Proof/Machine/Read.lean ====
section
/-! DEFINITION.
The value that a register shows: registers that follow other state, dead pages, snapshots, the shadow alias (R82 to R87, R94, R95).
-/
namespace Sys2Proof.Machine
open Sys2Proof

/-! ## The page header (R87, R97) -/

/-- The page holds shadowed registers (PG_CAP.SHADOW). -/
def shadowPage (page : Nat) : Bool :=
  match pageRow? page with
  | none => false
  | some (r, _) => r.cap.testBit 34

/-- A shadow on the page differs from its value in force (R87). -/
def State.genPending (s : State) (page : Nat) : Bool :=
  (s.shadow ++ s.regs).any (fun (e : Nat × Word) =>
    let k := BitVec.ofNat 36 (rwsMask e.1)
    decide (e.1 / 512 = page) && decide (s.shadow.read e.1 &&& k ≠ s.regs.read e.1 &&& k))

/-- The shadows of the page are captured for a prepared generation (R97). -/
def State.staged (s : State) (page : Nat) : Bool :=
  shadowPage page && decide (1 ≤ s.genState ∧ s.genState ≤ 3) && (pageIslands page).any (fun i => s.participants.contains i)

/-- The generation in force on a page: a fenced island keeps the one before until MGT has written the new one (R97, R409). -/
def State.pageGen (s : State) (page : Nat) : Nat :=
  if (pageIslands page).any (fun i => (kvGet s.gen.keep i).isSome) then s.gen.beforeNum else s.get R.GEN_IN_FORCE_GEN

/-- The page's function has work in flight (R87), as its chapter says when BUSY clears: frames past their point of no return (R311), host-originated frames (R487),
carriages past theirs (R346), running outputs (R206), the receiver's engine (R254), a measurement or calibration (R220), a frame in a port's queues (R285).  A PLL has
no work that drains (R206; log entry 21). -/
def State.inFlight (s : State) (page : Nat) : Bool :=
  if page = P.SWF then s.sw.frames.any (fun f => f.copies.any (fun c => !c.ready))
  else if page = P.DMA then s.sw.frames.any (fun f => decide (f.origin = 2))
  else if page = P.OUT then (List.range 8).any (fun o => decide (s.get (outSrc o) = 1 ∨ s.get (outSrc o) = 2))
  else if page = P.GNS then decide (s.get R.GNS_STATUS_ENGINE = 2)
  else if P.CO 0 ≤ page ∧ page ≤ P.CO 5 then s.coachBusy (page - P.CO 0)
  else if P.TIC 0 ≤ page ∧ page ≤ P.TIC 7 then s.ticArmed (page - P.TIC 0) || decide ((s.ticOf (page - P.TIC 0)).calKind ≠ 0)
  else if P.PRT 0 ≤ page ∧ page ≤ P.PRT 23 then (List.range 8).any (fun c => !(s.queue (page - P.PRT 0) c).isEmpty)
  else false

/-- PG_STAT as it reads: BUSY from the disabled function's draining or, while the page is enabled, from its work in flight (R87, R88). -/
def State.pgStat (s : State) (page : Nat) : Word :=
  let busy := s.flag (R.PG_STAT_BUSY page) || (s.flag (R.PG_CTRL_EN page) && s.inFlight page)
  (R.PG_STAT_BUSY page).put ((R.PG_STAT_STAGED page).put ((R.PG_STAT_GEN_PENDING page).put (s.rd (R.PG_STAT page)) (if s.genPending page then 1 else 0))
    (if s.staged page then 1 else 0)) (if busy then 1 else 0)

/-! ## Registers that follow other state -/

/-- A sum of bits of a condition, bit `i` for element `i`. -/
def bitsOf (n : Nat) (p : Nat → Bool) : Nat := (List.range n).foldl (fun m i => if p i then m + 2 ^ i else m) 0

/-- GLB.EXPERT_STAT (R99). -/
def State.expertStat (s : State) : Nat :=
  let w (i : Nat) : Nat := (s.mst (if i = 0 then .pf0 else if i = 1 then .pf1 else .spi)).window
  bitsOf 3 (fun i => decide (w i = 2)) + 16 * bitsOf 3 (fun i => decide (w i = 1))

/-- The line in FLT.LINE_SEL and its registers: LINE_STAT, the last rise and the last fall (R460); 0 above line 35. -/
def State.lineWord (s : State) (j : Nat) : Word :=
  let l := s.get R.FLT_LINE_SEL_LINE
  if 35 < l then 0
  else if j = 0 then
    BitVec.ofNat 36 ((if bitOn s.flt.noTime l then 2 ^ 17 else 0) + (if s.present l then 2 ^ 16 else 0) + kvGetD s.flt.rises l 0)
  else if j < 4 then (t108Words (kvGetD s.flt.setT l 0)).getD (j - 1) 0
  else (t108Words (kvGetD s.flt.clrT l 0)).getD (j - 4) 0

/-- Word `k` of the record window (R471, R472). -/
def State.winWord (s : State) (k : Nat) : Word :=
  if s.flag R.REC_RD_SRC_SRC then s.erec.fetchBuf.getD k 0 else (kvGetD s.erec.ring (s.get R.REC_RD_IDX_IDX) []).getD k 0

/-- AO.ISLCLK_FREQ (R462): 0 for AO and for an island in reset. -/
def State.islKhz (s : State) : Nat :=
  let i := s.get R.AO_ISLCLK_SEL_ISLAND
  if i = 0 ∨ !s.up i then 0 else kvGetD s.isl.khz i 0

/-- The KEY registers of the slot in the master's KEY.SEL (R399). -/
def State.slotWord (s : State) (m : Master) (j : Nat) : Word :=
  let x := s.slotK (s.keyGet m R.KEY_SEL_SLOT)
  let num (v : Option KeyVer) : Nat := match v with
    | some e => e.num
    | none => 0
  let pins (v : Option KeyVer) : Nat := match v with
    | some e => min e.pins 262143
    | none => 0
  BitVec.ofNat 36 (match j with
    | 0 => x.attr
    | 1 =>
      x.st * 2 ^ 28 + (if x.pend.isNone then 0 else if x.verified then 2 else 1) * 2 ^ 26 + (if x.old.isNone then 0 else if x.draining then 2 else 1) * 2 ^ 24 +
        num x.old * 2 ^ 16 + num x.pend * 2 ^ 8 + num x.act
    | 2 => pins x.old * 2 ^ 18 + pins x.act
    | 3 => match x.pend, x.act with
      | some v, _ => v.kcv
      | none, some v => v.kcv
      | none, none => 0
    | 4 => match x.graceEnd with
      | some t => if x.old.isNone ∨ x.draining then 0 else if t = -1 then x.grace else (quot (max 0 (t - s.ax.mark)) secU.toNat).toNat % 2 ^ 24
      | none => 0
    | _ => match x.act with
      | some v => v.keyId % 2 ^ 32
      | none => 0)

/-- LCY.CONFIRM as its master reads it (R400): 0 closed, 1 armed, 2 confirmed. -/
def State.confirmWord (s : State) (m : Master) : Word :=
  let c := s.confirmOf m
  if c.okAt.isSome then 2 else if c.armedAt.isSome then 1 else 0

/-- The PATH of a TIC's source (R222). -/
def State.ticPathPs (s : State) (t : Nat) (stop : Bool) : Nat :=
  let src := srcCode (if stop then s.get (R.TIC_CFG_STOP_SRC t) else s.get (R.TIC_CFG_START_SRC t))
  if src = 0 ∨ 13 ≤ src then 0 else sat36 (Config.ticPath t (if stop then 1 else 0) src)

/-- TIC.TAB_DATA (R230): 0 as after reset until a calibration has ended. -/
def State.tabWord (s : State) (t : Nat) : Word :=
  let c := s.ticOf t
  if c.calNo = 0 then 0
  else BitVec.ofNat 36 ((if s.flag (R.TIC_TAB_SEL_CONV t) then c.stop else c.start).entry (s.get (R.TIC_TAB_SEL_ENTRY t)))

/-- The word of a three-slot time at offset `j` from its lowest slot. -/
def timeWord (t : Int) (j : Nat) : Word := (t108Words (toT108 t)).getD j 0

/-- Registers of MGT and AO that follow other state, by slot address. -/
def State.liveLow (s : State) (m : Option Master) (a : Nat) : Option Word :=
  if a = R.GLB_EXPERT_KEY then some (BitVec.ofNat 36 (match m with
    | some x => (s.mst x).window
    | none => 0))
  else if a = R.GLB_EXPERT_STAT then some (BitVec.ofNat 36 s.expertStat)
  else if R.EVT_LATCH 0 ≤ a ∧ a ≤ R.EVT_LATCH 3 then some (BitVec.ofNat 36 (bitsOf 32 (fun b => s.source (32 * (a - R.EVT_LATCH 0) + b))))
  else if a = R.EVT_VEC_STAT then some (BitVec.ofNat 36 (bitsOf 32 (fun v => s.vecLevel v)))
  else if a = R.EVT_IRQ_STAT then some (if s.irqLow then 1 else 0)
  else if R.FLT_LINE_STAT ≤ a ∧ a ≤ R.FLT_LINE_CLR_T + 2 then some (s.lineWord (a - R.FLT_LINE_STAT))
  else if R.REC_WIN 0 ≤ a ∧ a ≤ R.REC_WIN 61 then some (s.winWord (a - R.REC_WIN 0))
  else if a = R.AO_ISLCLK_FREQ then some (BitVec.ofNat 36 s.islKhz)
  else none

/-- Registers of the other islands that follow other state. -/
def State.liveHigh (s : State) (m : Option Master) (tick a : Nat) : Option Word :=
  let page := a / 512
  let at_ (n : Nat) : Bool := decide (a % 512 = n % 512)
  if P.TCORE 0 ≤ page ∧ page ≤ P.TCORE 2 ∧ R.TCORE_NOW (page - P.TCORE 0) ≤ a ∧ a ≤ R.TCORE_NOW (page - P.TCORE 0) + 2 then
    some (timeWord ((s.ctrOf (page - P.TCORE 0 + 2)).at_ tick) (a - R.TCORE_NOW (page - P.TCORE 0)))
  else if R.VOTE_NOW ≤ a ∧ a ≤ R.VOTE_NOW + 2 then some (timeWord (s.voteTime tick) (a - R.VOTE_NOW))
  else if page = P.TEB ∧ R.TEB_CAND ≤ a ∧ a ≤ R.TEB_QUANT_OUT then some ((s.tebShow s.ax.mark).rd a)
  else if P.TIC 0 ≤ page ∧ page ≤ P.TIC 7 ∧ at_ (R.TIC_START_PATH 0) then some (BitVec.ofNat 36 (s.ticPathPs (page - P.TIC 0) false))
  else if P.TIC 0 ≤ page ∧ page ≤ P.TIC 7 ∧ at_ (R.TIC_STOP_PATH 0) then some (BitVec.ofNat 36 (s.ticPathPs (page - P.TIC 0) true))
  else if P.TIC 0 ≤ page ∧ page ≤ P.TIC 7 ∧ at_ (R.TIC_TAB_DATA 0) then some (s.tabWord (page - P.TIC 0))
  else if a = R.BUF_Q_DEPTH then
    let d := s.get R.BUF_Q_SEL_PORT
    let c := s.get R.BUF_Q_SEL_CLASS
    some (R.BUF_Q_DEPTH_CELLS.put (R.BUF_Q_DEPTH_SPILL.put 0 (if s.spilling d c then 1 else 0)) (s.queueCells d c false))
  else if a = R.LCY_SERIAL_HI then some (BitVec.ofNat 36 (Config.serial.toNat / 2 ^ 32))
  else if a = R.LCY_SERIAL_LO then some (BitVec.ofNat 36 (Config.serial.toNat % 2 ^ 32))
  else if a = R.ATT_OUT_DATA then some (s.key.stmt.getD (s.get R.ATT_OUT_IDX_IDX) 0)
  else if a = R.SPI_STATUS then some (R.SPI_STATUS_EXPERT.put (s.rd a) (if s.host.m2.window = 2 then 1 else 0))
  else match m with
    | none => none
    | some x =>
      if a = R.LCY_CONFIRM then some (s.confirmWord x)
      else if R.KEY_SLOT_ATTR ≤ a ∧ a ≤ R.KEY_SLOT_KEYID then some (s.slotWord x (a - R.KEY_SLOT_ATTR))
      else if R.KEY_SEL ≤ a ∧ a ≤ R.KEY_MINT then some (BitVec.ofNat 36 (s.keyGet x (wordFld a)))
      else none

/-- A word of the page header. -/
def State.headerWord (s : State) (page j : Nat) : Word :=
  if j = 2 then (if s.host.enAsked.contains page then (R.PG_CTRL_EN page).put (s.rd (R.PG_CTRL page)) 1 else s.rd (R.PG_CTRL page))
  else if j = 3 then s.pgStat page else if j = 7 then BitVec.ofNat 36 (s.pageGen page) else s.rd (512 * page + j)

/-! ## A master's read -/

/-- The page is in the directory (R82, R98). -/
def pageDefined (page : Nat) : Bool := (pageRow? page).isSome

/-- The registers from 0x200 to 0x220 exist in CO0 only (R347). -/
def coOnly (a : Nat) : Bool := decide (P.CO 1 ≤ a / 512 ∧ a / 512 ≤ P.CO 5 ∧ 64 ≤ a % 512 ∧ a % 512 ≤ 68)

/-- The page-map row of a slot beyond the header. -/
def slotDef (a : Nat) : Option RegDef :=
  if a % 512 < 8 || coOnly a then none
  else match pageRow? (a / 512) with
    | none => none
    | some (r, _) => r.reg? (a % 512)

/-- The slot is in a page header or in a page map. -/
def slotDefined (a : Nat) : Bool := pageDefined (a / 512) && (decide (a % 512 < 8) || (slotDef a).isSome)

/-- The slots that a read of `a` snapshots: the rest of the RS group that it leads, or the other slots of a T108 or S72 register outside every group
(R3, R4, R95). -/
def snapSlots (a : Nat) : List Nat :=
  match pageRow? (a / 512) with
  | none => []
  | some (r, _) =>
    match r.rs.find? (fun g => decide (g.1 = a % 512)) with
    | some g => (List.range (g.2 - g.1)).map (fun i => a + 1 + i)
    | none =>
      if r.rs.any (fun g => decide (g.1 ≤ a % 512 ∧ a % 512 ≤ g.2)) then []
      else match slotDef a with
        | some d => if d.time ≠ 0 ∧ (a % 512 - d.lo) % d.stride = 0 then (List.range (d.n - 1)).map (fun i => a + 1 + i) else []
        | none => []

/-- The slot's value comes from the master's snapshot: a member of an RS group, or a slot of a T108 or S72 register, that is not the first. -/
def snapMember (a : Nat) : Bool :=
  match pageRow? (a / 512) with
  | none => false
  | some (r, _) =>
    if r.rs.any (fun g => decide (g.1 ≤ a % 512 ∧ a % 512 ≤ g.2)) then r.rs.all (fun g => decide (g.1 ≠ a % 512))
    else match slotDef a with
      | some d => decide (d.time ≠ 0 ∧ (a % 512 - d.lo) % d.stride ≠ 0)
      | none => false

end Sys2Proof.Machine
end

