-- ==== Sys2Proof/Machine/Recorder.lean ====
section
/-! DEFINITION.
The event recorder: configuration of the codes, the queue and its token buckets, ring records, journal batches, fetches (R463 to R474).
-/
namespace Sys2Proof.Machine
open Sys2Proof

/-! ## Codes (R466, R467) -/

/-- The snapshots of both TEB codes (R271). -/
def tebSnaps : List Nat :=
  [R.TEB_BOUND, R.TEB_CAND, R.TEB_SERVO, R.TEB_HOLD, R.TEB_FAULT, R.TEB_QUANT_OUT, R.SEL_STATUS, R.SRV_STATUS, R.HOLD_STATUS, R.VOTE_STATUS, R.FLT_NOW]

/-- The default snapshot list of a code (R466). -/
def defaultSnap (code : Nat) : List Nat :=
  match code with
  | 0x01 => [R.BOOT_STAGE, R.BOOT_CAUSE, R.BOOT_IMG_STAT, R.BOOT_NVM_SCAN, R.PWR_STAT]
  | 0x02 => [R.BOOT_STAGE, R.TEB_STATUS]
  | 0x10 => [R.FLT_LATCH, R.FLT_NOW, R.FLT_STATUS, R.FLT_MERGED]
  | 0x11 => [R.FLT_NOW, R.FLT_STATUS]
  | 0x20 => [R.VOTE_STATUS, R.VOTE_FREQ, R.TCORE_STATE 0, R.TCORE_STATE 1, R.TCORE_STATE 2]
  | 0x21 => [R.VOTE_STATUS, R.VOTE_STEP_LAST, R.VOTE_STEP_LAST + 1, R.SEL_STATUS]
  | 0x22 => [R.VOTE_UTC, R.VOTE_LEAP_AT, R.VOTE_LEAP_CTRL]
  | 0x23 => [R.VOTE_OSC_STAT, R.VOTE_OSC_EFC, R.VOTE_CELL_Y]
  | 0x30 => [R.SEL_STATUS, R.SEL_LOCKOUT]
  | 0x31 => [R.SEL_STATUS, R.SEL_STEP_LAST, R.SEL_STEP_LAST + 1, R.SEL_STEER_BIAS, R.SEL_STEER_BIAS + 1, R.SRV_STATUS]
  | 0x40 => [R.SRV_STATUS, R.SRV_FREQ_OUT, R.SRV_INTEG, R.SRV_RESIDUAL]
  | 0x41 => [R.HOLD_STATUS, R.HOLD_ENVELOPE, R.HOLD_LEARNED, R.HOLD_TEMP]
  | 0x48 => tebSnaps
  | 0x49 => tebSnaps
  | 0x50 => [R.OUT_STAT]
  | 0x58 => [R.TIC_RH_PAIRS 0]
  | 0x60 => [R.GNS_STATUS, R.GNS_CHECKS, R.GNS_TRACK, R.GNS_ANT_MON]
  | 0x80 => [R.KEY_STATUS]
  | 0x81 => [R.TMP_LATCH, R.TMP_NOW, R.TMP_POLICY]
  | 0x82 => [R.LCY_STATE]
  | 0x90 => [R.GEN_STATUS, R.GEN_PREPARED, R.GEN_LAGGARDS, R.GEN_FENCED]
  | 0x91 => [R.SHNT_UNITS, R.SHNT_LANES, R.SHNT_MIG_STAT]
  | 0x92 => [R.PROVE_STATUS, R.PROVE_FAIL_UNITS, R.PROVE_SKIP_UNITS]
  | 0xA0 => [R.DUG_STATUS, R.DUG_LEASE_END, R.DUG_LEASE_END + 1, R.DUG_LEASE_END + 2]
  | _ => []

/-- The bucket of a code at reset (R467). -/
def defaultCfg (code : Nat) : CodeCfg :=
  let free := [0x01, 0x02, 0x21, 0x22, 0x80, 0x81, 0x82, 0x90].contains code
  let fault := decide (code = 0x10 ∨ code = 0x11)
  { fill := if free then 0 else if fault then 1000 else 100, depth := if fault then 64 else 32, snap := defaultSnap code }

/-- The configuration in force of a code. -/
def State.codeCfg (s : State) (code : Nat) : CodeCfg := kvGetD s.erec.cfg code (defaultCfg code)

/-- REC.CODE_CFG shows the configuration of the code in REC.CODE_SEL (R473). -/
def State.codeWord (s : State) : Word :=
  let c := s.codeCfg (s.get R.REC_CODE_SEL_CODE)
  R.REC_CODE_CFG_FILL.put (R.REC_CODE_CFG_DEPTH.put (R.REC_CODE_CFG_NSNAP.put 0 c.snap.length) c.depth) c.fill

/-! ## The value of a register -/

/-- The first page of the shadow alias (R83). -/
abbrev aliasPage : Nat := 0x2000

/-- The value that a register shows at a tick, to a master or to the recorder, while its page is not dead (R82, R83, R87). -/
def State.live (s : State) (m : Option Master) (tick a : Nat) : Word :=
  if aliasPage ≤ a / 512 then
    let b := a - aliasPage * 512
    if slotDefined b then s.shadow.read b &&& BitVec.ofNat 36 (rwsMask b) else 0
  else if !slotDefined a then 0
  else if a % 512 < 8 then s.headerWord (a / 512) (a % 512)
  else if a = R.REC_CODE_CFG then s.codeWord
  else match s.liveLow m a with
    | some v => v
    | none => match s.liveHigh m tick a with
      | some v => v
      | none => s.rd a

/-! ## The levels and counters of the REC page (R473, R474) -/

/-- Sequence numbers run from 1 to 2^35 − 1 (R464). -/
abbrev seqMod : Nat := 34359738368

def nextSeq (n : Nat) : Nat := if n + 1 < seqMod then n + 1 else 1

/-- PENDING: REC.HEAD − REC.READ_MARK, modulo 2^35, is at least REC.NOTIFY (R474). -/
def State.showPending (s : State) : State :=
  let n := s.getOr R.REC_NOTIFY_N 1 2048 16
  let d := (s.get R.REC_HEAD_SEQ + seqMod - s.get R.REC_READ_MARK_SEQ % seqMod) % seqMod
  let on := decide (n ≤ d)
  if bitOn (s.rd (R.PG_EVT_NOW P.REC)).toNat E.REC_PENDING = on then s else s.level P.REC E.REC_PENDING on

/-- The sequence number of a record. -/
def recSeq (w : List Word) : Nat := (w.getD 0 0).toNat % seqMod

/-- REC.HEAD, with PENDING. -/
def State.putHead (s : State) (n : Nat) : State := (s.set R.REC_HEAD_SEQ n).showPending

/-- REC.OLDEST from the ring: the record furthest behind REC.HEAD. -/
def State.showOldest (s : State) : State :=
  let h := s.get R.REC_HEAD_SEQ
  let age (n : Nat) : Nat := (h + seqMod - n) % seqMod
  s.set R.REC_OLDEST_SEQ (s.erec.ring.foldl (fun m e => if m = 0 ∨ age m < age (recSeq e.2) then recSeq e.2 else m) 0)

/-- The records of a batch's payload, 62 words each (R469). -/
def chunks (n : Nat) (ws : List Word) : List (List Word) := (List.range (ws.length / n)).map (fun i => (ws.drop (n * i)).take n)

/-- The records in the journal, oldest first. -/
def State.journalRecs (s : State) : List (List Word) := (s.committed .journal).flatMap (fun r => chunks 62 r.payload)

/-- REC.JRN_HEAD and REC.JRN_OLDEST from the journal. -/
def State.showJournal (s : State) : State :=
  let l := s.journalRecs
  let seq (o : Option (List Word)) : Nat := match o with
    | some w => recSeq w
    | none => 0
  (s.set R.REC_JRN_HEAD_SEQ (seq l.getLast?)).set R.REC_JRN_OLDEST_SEQ (seq l.head?)

/-! ## Arrival at MGT (R465, R467) -/

/-- The bucket of a code, in millionths of a token, refilled up to `us`; a bucket never used is full. -/
def State.bucketAt (s : State) (code us : Nat) : Nat :=
  let c := s.codeCfg code
  let full := max 1 c.depth * 1000000
  match kvGet s.erec.tokens code with
  | none => full
  | some (n, last) => min full (n + c.fill * (us - last))

/-- A trigger of a code finds no token (R467); a suppressed TEB_COMP forces the next one (R271). -/
def State.suppress (s : State) (code us n : Nat) : State :=
  let k := kvGetD s.erec.supp code 0
  let s := { s with erec := { s.erec with tokens := kvPut s.erec.tokens code (n, us), supp := kvPut s.erec.supp code (k + 1) } }
  let s := (s.bump R.REC_SUPPRESSED_COUNT).raiseIf (decide (k = 0)) P.REC E.REC_SUPPRESS
  if code = 0x48 then { s with teb := { s.teb with force := true } } else s

/-- A trigger enters the queue of 256, or is lost there (R465). -/
def State.enqueue (s : State) (t : Trigger) : State :=
  if s.erec.queue.length < 256 then { s with erec := { s.erec with queue := s.erec.queue ++ [t] } }
  else ({ s with erec := { s.erec with qGap := true } }.bump R.REC_Q_LOST_COUNT).raise P.REC E.REC_Q_LOST

/-- A trigger reaches MGT: without an instant it takes the generation in force at arrival (R463). -/
def State.arrive (s : State) (t : Trigger) (us : Nat) : State :=
  let t := if t.noTime then { t with gen := s.get R.GEN_IN_FORCE_GEN } else t
  if (s.codeCfg t.code).fill = 0 then s.enqueue t
  else
    let n := s.bucketAt t.code us
    if n < 1000000 then s.suppress t.code us n
    else { s with erec := { s.erec with tokens := kvPut s.erec.tokens t.code (n - 1000000, us) } }.enqueue t

/-- The first trigger of an island taken from the list. -/
def takeFirst (island : Nat) (l : List Trigger) : Option (Trigger × List Trigger) :=
  match l with
  | [] => none
  | t :: rest =>
    if t.island = island then some (t, rest)
    else match takeFirst island rest with
      | some (x, r) => some (x, t :: r)
      | none => none

/-- REC_TRIGGER (R465, R467): the oldest trigger in transit from an island reaches MGT over the island's register coupling. -/
def execRecTrigger (island us : Nat) (s : State) : Host.Outcome State Fault Refusal :=
  withUnit island 16 (
    if island ≠ islMGT ∧ !s.linkOpen island islMGT 2 then s
    else match takeFirst island s.erec.transit with
      | none => s
      | some (t, rest) => ({ s with erec := { s.erec with transit := rest } }).arrive t us)

/-! ## Records (R463 to R465, R468) -/

/-- The CRC word of a record: words 0 to 60, with bit 35 of word 0 taken as 0 (R463). -/
def recCrc (ws : List Word) : Word := BitVec.ofNat 36 (crc32 (BitVec.ofNat 36 ((ws.getD 0 0).toNat % seqMod) :: (ws.drop 1).take 60))

/-- One snapshot entry: whether its page is dead, and its two words. -/
def State.snapEntry (s : State) (a : Nat) : Bool × List Word :=
  let dead := pageDefined (a / 512) && s.pageDead (a / 512)
  (dead, [BitVec.ofNat 36 (2 ^ 35 + (if dead then 2 ^ 23 else 0) + a % 2 ^ 23), if dead then BitVec.ofNat 36 wordMax else s.live none 0 a])

/-- The record of a trigger (R463). -/
def State.recordOf (s : State) (t : Trigger) (seq : Nat) : List Word :=
  let snaps := ((s.codeCfg t.code).snap.take 24).map s.snapEntry
  let supp := min 4095 (kvGetD s.erec.supp t.code 0)
  let w1 := t.code * 2 ^ 28 + snaps.length * 2 ^ 23 + (if t.noTime then 2 ^ 22 else 0) + (if s.erec.qGap then 2 ^ 21 else 0) +
    (if snaps.any (fun e => e.1) then 2 ^ 20 else 0) + supp
  let args := (List.range 7).map (fun i => BitVec.ofNat 36 (t.args.getD i 0))
  let body := [BitVec.ofNat 36 seq, BitVec.ofNat 36 w1] ++ t108Words (if t.noTime then 0 else t.inst) ++ [BitVec.ofNat 36 (t.island * 2 ^ 32 + t.gen % 2 ^ 24)] ++ args ++
    snaps.flatMap (fun e => e.2)
  let full := body ++ List.replicate (61 - body.length) 0
  full ++ [recCrc full]

/-- The sequence number of the next record (R464). -/
def State.seqNext (s : State) : Nat :=
  let h := s.get R.REC_HEAD_SEQ
  nextSeq (if h = 0 then s.get R.REC_JRN_HEAD_SEQ else h)

/-- A ring record that the journal does not hold is overwritten (R468). -/
def State.overwrite (s : State) (idx : Nat) : State :=
  match kvGet s.erec.ring idx with
  | none => s
  | some w =>
    let old := recSeq w
    if s.erec.waiting.contains old ∨ s.erec.failed.contains old then
      (({ s with erec := { s.erec with waiting := s.erec.waiting.filter (fun n => n ≠ old), failed := s.erec.failed.filter (fun n => n ≠ old) } }).bump R.REC_JRN_LOST_COUNT).raise
        P.REC E.REC_JRN_LOST
    else s

/-- The trigger at the head of the queue is recorded. -/
def State.record (s : State) (t : Trigger) (rest : List Trigger) : State :=
  let seq := s.seqNext
  let w := s.recordOf t seq
  let s := s.overwrite (seq % 2048)
  let s := { s with erec := { s.erec with queue := rest, qGap := false, ring := kvPut s.erec.ring (seq % 2048) w, waiting := s.erec.waiting ++ [seq],
                                          supp := kvDel s.erec.supp t.code } }
  (s.putHead seq).showOldest

/-- REC_RECORD_WRITE (R463 to R465). -/
def execRecRecordWrite (s : State) : Host.Outcome State Fault Refusal :=
  .next (
    match s.erec.queue with
    | [] => s
    | t :: rest => if s.up islMGT then s.record t rest else s)

/-! ## Journal (R469, R470) -/

/-- The ring words of records by sequence number. -/
def State.ringWords (s : State) (l : List Nat) : List Word := l.flatMap (fun n => kvGetD s.erec.ring (n % 2048) [])

/-- A batch fails (R469). -/
def State.batchFail (s : State) : State := ((s.bump R.REC_JRN_FAIL_COUNT).raise P.REC E.REC_JRN_FAIL).pulse 21

/-- An uncorrectable error of word `k` of a record met as the ring is read: the word stays as read, and the record's CRC fails from now on (R468; that the error is met
by a batch's reading is the model's choice, log entry 34). -/
def State.ringError (s : State) (seq k : Nat) (v : Word) : State :=
  match kvGet s.erec.ring (seq % 2048) with
  | none => s
  | some w => ((({ s with erec := { s.erec with ring := kvPut s.erec.ring (seq % 2048) (w.set k v) } }).bump R.REC_ECC_UNCORR_COUNT).raise P.REC E.REC_ECC).pulse 21

/-- JOURNAL_BATCH_WRITE (R468, R469): BATCH of the waiting records, or fewer once the oldest is MAX_AGE milliseconds old; a batch that fails is written once more. -/
def execJournalBatchWrite (ageMs : Nat) (ecc : Option (Nat × Nat × Word)) (ok retryOk : Bool) (s : State) : Host.Outcome State Fault Refusal :=
  .next (
    let n := s.getOr R.REC_JRN_BATCH_BATCH 1 16 16
    let l := s.erec.waiting.take n
    if l = [] ∨ !s.up islMGT ∨ s.nvm.savingBatches ≠ [] ∨ (l.length < n ∧ ageMs < s.getOr R.REC_JRN_CFG_MAX_AGE 10 60000 1000) then s
    else
      let s := match ecc with
        | some (i, k, v) => if i < l.length then s.ringError (l.getD i 0) k v else s
        | none => s
      let ws := s.ringWords l
      let r := s.nvWrite .journal 0x20 ws ok
      let r := if r.2 then r else r.1.batchFail.nvWrite .journal 0x20 ws retryOk
      let s := { r.1 with erec := { r.1.erec with waiting := r.1.erec.waiting.drop l.length } }
      if r.2 then s.showJournal else ({ s with erec := { s.erec with failed := s.erec.failed ++ l } }).batchFail)

/-- The payloads of a flush: the newest 64 records not yet journaled, in batches of up to 16, oldest first (R470). -/
def State.flushPayloads (s : State) : List (List Word) :=
  let l := s.erec.waiting.drop (s.erec.waiting.length - 64)
  ((List.range 4).map (fun i => s.ringWords ((l.drop (16 * i)).take 16))).filter (fun p => !p.isEmpty)

/-- The batches are written; the records in them, and older ones that still wait, are no longer waiting, and the older ones count as lost (R470). -/
def State.flushDone (s : State) (batches : List (List Word)) : State :=
  let done := batches.flatMap (fun p => (chunks 62 p).map recSeq)
  let s := batches.foldl (fun (t : State) p => t.nvPut .journal 0x20 p) s
  match done with
  | [] => s
  | first :: _ =>
    let old := s.erec.waiting.takeWhile (fun n => n ≠ first)
    let keep := (s.erec.waiting.drop old.length).filter (fun n => !done.contains n)
    (({ s with erec := { s.erec with waiting := keep, failed := s.erec.failed } }).bumpBy R.REC_JRN_LOST_COUNT old.length).showJournal

/-- The flush of a RESET_N or fabric service reset (R63, R65). -/
def State.flushRecords (s : State) : State := s.flushDone s.flushPayloads

/-! ## Reset and start (R464 to R466, R65) -/

/-- A trigger held in its island while MGT is in reset: up to 16 an island, further ones are lost (R65, R466). -/
def State.holdTrigger (s : State) (t : Trigger) : State :=
  if (s.erec.aoQueue.filter (fun x => x.island = t.island)).length < 16 then { s with erec := { s.erec with aoQueue := s.erec.aoQueue ++ [t] } }
  else { s with erec := { s.erec with held := kvPut s.erec.held t.island (kvGetD s.erec.held t.island 0 + 1) } }

/-- MGT enters reset: the recorder's settings and its queue go, the ring stays, and triggers on their way stay with the islands that are not reset (R63,
R65); `mask`: the islands that enter reset. -/
def State.resetRecorder (s : State) (mask : Nat) : State :=
  let stay (l : List Trigger) : List Trigger := l.filter (fun t => !bitOn mask t.island)
  (stay (s.erec.aoQueue ++ s.erec.transit)).foldl State.holdTrigger { s with erec := { RecPart.init with ring := s.erec.ring } }

/-- MGT is released: the record positions are found from the ring and the journal, RESTART comes first, and the triggers held meanwhile follow.  `head`:
REC.HEAD before the reset, 0 after power-on; `fabric`: after a fabric service reset, where losses show as Q_LOST and Q_GAP (R464 to R466, R65). -/
def State.startRecorder (s : State) (head : Nat) (fabric : Bool) : State :=
  let lost := (s.erec.held.map (·.2)).foldl (· + ·) 0
  let s := (s.showJournal.putHead head).showOldest
  let t : Trigger := { island := islMGT, code := 0x01, noTime := s.noTime, inst := s.nowT, gen := s.get R.GEN_IN_FORCE_GEN, args := [(s.rd R.BOOT_CAUSE).toNat, head] }
  let s := { s with erec := { s.erec with queue := [t], transit := s.erec.aoQueue, aoQueue := [], held := [], qGap := fabric && decide (0 < lost) } }
  if fabric then s.bumpBy R.REC_Q_LOST_COUNT lost else s.bumpBy R.REC_AO_LOST_COUNT lost

/-! ## Host commands (R466, R472, R473) -/

/-- FETCH (R472). -/
def execFetch (m : Master) (s : State) : Host.Outcome State Fault Refusal :=
  .next (s.hostCmd m R.REC_FETCH_CMD_STATUS fun s =>
    { s with erec := { s.erec with fetching := some (s.get R.REC_FETCH_SEQ_SEQ) } }.set R.REC_FETCH_CMD_STATUS 1)

/-- FETCH_DONE (R472): DONE, NOT_FOUND, or CRC with the record as stored. -/
def execFetchDone (s : State) : Host.Outcome State Fault Refusal :=
  .next (
    match s.erec.fetching with
    | none => s
    | some n =>
      let s := { s with erec := { s.erec with fetching := none } }
      match s.journalRecs.find? (fun w => decide (recSeq w = n)) with
      | none => (s.set R.REC_FETCH_CMD_STATUS 3).raise P.REC E.REC_FETCH_DONE
      | some w =>
        let good := decide (w.getD 61 0 = recCrc w)
        (({ s with erec := { s.erec with fetchBuf := w } }).set R.REC_FETCH_CMD_STATUS (if good then 2 else 4)).raise P.REC E.REC_FETCH_DONE)

/-- HOST_MARK (R466): a HOST trigger with the value and the master. -/
def execHostMark (m : Master) (v : Word) (s : State) : Host.Outcome State Fault Refusal :=
  .next (s.hostWrite m R.REC_HOST_MARK fun s => s.trig islMGT 0x03 [v.toNat, masterCode m])

/-- The staging list takes the list of a code. -/
def State.stageSnaps (s : State) (l : List Nat) : State :=
  (List.range 24).foldl (fun (t : State) k => t.set (R.REC_SNAP_SLOT k) (l.getD k 0)) s

/-- CODE_SEL_WRITE (R473). -/
def execCodeSelWrite (m : Master) (v : Word) (s : State) : Host.Outcome State Fault Refusal :=
  .next (s.hostWrite m R.REC_CODE_SEL fun s =>
    let c := R.REC_CODE_SEL_CODE.of v
    (s.set R.REC_CODE_SEL_CODE c).stageSnaps (s.codeCfg c).snap)

/-- CODE_CFG_WRITE (R473): the staging list and the bucket are committed for the code. -/
def execCodeCfgWrite (m : Master) (v : Word) (s : State) : Host.Outcome State Fault Refusal :=
  .next (s.hostWrite m R.REC_CODE_CFG fun s =>
    let n := min 24 (R.REC_CODE_CFG_NSNAP.of v)
    let c : CodeCfg := { fill := R.REC_CODE_CFG_FILL.of v, depth := R.REC_CODE_CFG_DEPTH.of v, snap := (List.range n).map (fun k => s.get (R.REC_SNAP_SLOT k)) }
    { s with erec := { s.erec with cfg := kvPut s.erec.cfg (s.get R.REC_CODE_SEL_CODE) c } })

end Sys2Proof.Machine
end

