-- ==== Sys2Proof/Machine/Access.lean ====
section
/-! DEFINITION.
A master's reads and its writes of registers without a row of their own; expert windows, events and vectors (R82 to R97, R105, R476).
-/
namespace Sys2Proof.Machine
open Sys2Proof

/-! ## Reads -/

/-- A read returns a value to its master. -/
def State.ret (s : State) (m : Master) (v : Word) : State := s.putMst m { s.mst m with readData := v }

/-- The state in which a row leaves the device, where the row takes a next state. -/
def settle (o : Host.Outcome State Fault Refusal) (s : State) : State :=
  match o with
  | .next t => t
  | _ => s

/-- A master reads the slot at a tick (R82 to R86, R94, R95, R380, R398): all ones from a dead page, 0 from an undefined slot, else the value of the master's
snapshot or the live one; a first slot snapshots the others.  A dead page answers so at the alias of every register, shadowed or not (DESIGN CHOICE, log entry
21). -/
def State.hostRead (s : State) (m : Master) (tick a : Nat) : State :=
  let b := if aliasPage ≤ a / 512 then a - aliasPage * 512 else a
  if !s.hostUp m then s
  else if !slotDefined b then s.ret m 0
  else if s.pageDead (b / 512) then (s.accessErr m 4 false a).ret m (BitVec.ofNat 36 wordMax)
  else if a = R.KEY_DATA then settle (execKeyDataAccess m none s) s
  else
    let view := if corePage (b / 512) then s.asCore s.reader else s
    let v := match if snapMember a then kvGet (s.mst m).snap a else none with
      | some v => v
      | none => view.live (some m) tick a
    let t := s.ret m v
    let t := (snapSlots a).foldl (fun (t : State) (k : Nat) => t.putMst m { t.mst m with snap := kvPut (t.mst m).snap k (view.live (some m) tick k) }) t
    if a = R.ATT_OUT_DATA then t.set R.ATT_OUT_IDX_IDX (s.get R.ATT_OUT_IDX_IDX + 1) else t

/-- RS_LEAD_READ (R95). -/
def execRsLeadRead (m : Master) (slot tick : Nat) (s : State) : Host.Outcome State Fault Refusal := .next (s.hostRead m tick slot)

/-- T108_READ_SNAPSHOT (R3, R4, R94). -/
def execT108ReadSnapshot (m : Master) (slot tick : Nat) (s : State) : Host.Outcome State Fault Refusal := .next (s.hostRead m tick slot)

/-- WIDTH_ACCESS (R7, R84). -/
def execWidthAccess (m : Master) (write : Bool) (slot : Nat) (s : State) : Host.Outcome State Fault Refusal :=
  .next (
    if !s.hostUp m then s
    else
      let t := s.accessErr m 1 write slot
      if write then t else t.ret m (BitVec.ofNat 36 0xFFFFFFFF))

/-! ## PG_CTRL.EN (R88) -/

/-- The enable of the page has a function. -/
def pageActs (page : Nat) : Bool :=
  match pageRow? page with
  | some (r, _) => r.enActs
  | none => false

/-- A page that has been enabled starts its function. -/
def State.startPage (s : State) (page : Nat) : State :=
  let s := s.setFlag (R.PG_CTRL_EN page) true
  if s.flag (R.PG_STAT_SHUNTED page) then s
  else if page = P.GNS then s.engineEnable
  else if P.PLL 0 ≤ page ∧ page ≤ P.PLL 3 then s.pllStart (page - P.PLL 0) false
  else if P.CO 0 ≤ page ∧ page ≤ P.CO 5 then s.showServing (page - P.CO 0)
  else s

/-- EN set: the function starts, once BUSY has cleared where it is still 1. -/
def State.enablePage (s : State) (page : Nat) : State :=
  if s.flag (R.PG_CTRL_EN page) ∨ s.host.enAsked.contains page then s
  else if s.flag (R.PG_STAT_BUSY page) then { s with host := { s.host with enAsked := s.host.enAsked ++ [page] } }
  else s.startPage page

/-- Pages enabled while BUSY start when BUSY has cleared. -/
def State.lateEnables (s : State) : State :=
  let l := s.host.enAsked.filter (fun p => !s.flag (R.PG_STAT_BUSY p))
  l.foldl State.startPage { s with host := { s.host with enAsked := s.host.enAsked.filter (fun p => !l.contains p) } }

/-- EN cleared: the page's own row. -/
def State.disablePage (s : State) (m : Master) (page : Nat) (a : Arrival) : State :=
  let s := { s with host := { s.host with enAsked := s.host.enAsked.filter (fun p => p ≠ page) } }
  if page = P.GNS then settle (execGnssDisable m s) s
  else if page = P.OUT then settle (execOutDisable m s) s
  else if page = P.SWF then settle (execSwitchDisable m a.slot s) s
  else if page = P.DMA then settle (execDmaDisable m s) s
  else if P.PLL 0 ≤ page ∧ page ≤ P.PLL 3 then settle (execPllDisable m (page - P.PLL 0) s) s
  else if P.TIC 0 ≤ page ∧ page ≤ P.TIC 7 then settle (execTicDisable m (page - P.TIC 0) s) s
  else if P.CO 0 ≤ page ∧ page ≤ P.CO 5 then settle (execCoachDisable m (page - P.CO 0) s) s
  else if P.PRT 0 ≤ page ∧ page ≤ P.PRT 23 then settle (execPortDisable m (page - P.PRT 0) a.sending s) s
  else s

/-- DRAINED (R88, R346, R487): the last work of a disabled page has drained. -/
def execDrained (page : Nat) (s : State) : Host.Outcome State Fault Refusal :=
  .next (
    let s := if page = P.SWF then s.showSwBusy
      else if page = P.DMA then s.showDmaBusy
      else if P.PRT 0 ≤ page ∧ page ≤ P.PRT 23 then s.portDrained (page - P.PRT 0)
      else if P.CO 0 ≤ page ∧ page ≤ P.CO 5 then
        let c := page - P.CO 0
        if !s.flag (R.PG_STAT_BUSY page) ∨ s.coachBusy c then s
        else ((s.set (R.PG_STAT_BUSY page) 0).set (R.CO_STATUS_DRAINING c) 0).raise page E.CO_DRAINED
      else s
    s.lateEnables)

/-! ## Writes -/

/-- The bits of `mask` taken from `v`, the others from `old`. -/
def mergeBits (old v : Word) (mask : Nat) : Word := (old &&& ~~~(BitVec.ofNat 36 mask)) ||| (v &&& BitVec.ofNat 36 mask)

/-- A write of a page header slot (R87 to R89, R105). -/
def State.writeHeader (s : State) (m : Master) (slot : Nat) (v : Word) (a : Arrival) : State :=
  let page := slot / 512
  if slot = R.PG_CTRL page then
    let s := s.set (R.PG_CTRL_XEN page) ((R.PG_CTRL_XEN page).of v)
    if !pageActs page then s
    else if (R.PG_CTRL_EN page).of v = 1 then s.enablePage page
    else s.disablePage m page a
  else if slot = R.PG_EVT page then let w := v.toNat % 2 ^ 32; s.clearEvt page (w - (w &&& a.same))
  else if slot = R.PG_EVT_EN page then State.vecRises s (s.wr slot (mergeBits (s.rd slot) v 0xFFFFFFFF))
  else s

/-- What follows at once from a written RW register. -/
def State.wrote (old s : State) (a : Nat) : State :=
  let page := a / 512
  if page = P.EVT then State.vecRises old s
  else if a = R.FLT_CTRL then s.refreshFaults
  else if a = R.REC_READ_MARK ∨ a = R.REC_NOTIFY then s.showPending
  else if a = R.VOTE_CELL_TAU then
    if 50 ≤ s.get R.VOTE_CELL_TAU_S ∧ s.get R.VOTE_CELL_TAU_S ≤ 5000 then s else s.wr a (old.rd a)
  else if P.TIC 0 ≤ page ∧ page ≤ P.TIC 7 ∧ a = R.TIC_CAL_CTRL (page - P.TIC 0) then s.showCal (page - P.TIC 0)
  else s

/-- A written signed value outside the stated range of its register acts, and is stored and read back, as the limit (R5): a negative value as 0 where the register
says so, delays within 10 us. -/
def clampSlot (a : Nat) (v : Word) : Word :=
  let z := toSigned 36 v.toNat
  let page := a / 512
  let delay := decide (a = R.GNS_CABLE_DELAY ∨ a = R.DUG_ASYM 0 ∨ a = R.DUG_ASYM 1) ||
    (decide (P.PRT 0 ≤ page ∧ page ≤ P.PRT 23) && decide (a = R.PRT_DELAY_RX (page - P.PRT 0) ∨ a = R.PRT_DELAY_TX (page - P.PRT 0)))
  if z < 0 ∧ [R.VOTE_TOL_F, R.HOLD_UNC_B, R.HOLD_UNC_C, R.HOLD_UNC_T, R.HOLD_OCXO_B, R.HOLD_OCXO_C, R.HOLD_OCXO_T].contains a then 0
  else if delay then BitVec.ofNat 36 (ofSigned 36 (clampInt (-10000000) 10000000 z))
  else v

/-- A register of one slot takes a word: its RW bits in force, its RWS bits in the shadow (R9, R96). -/
def State.writeWord (s : State) (m : Master) (a : Nat) (v : Word) (d : RegDef) : State :=
  let v := clampSlot a v
  if d.rw ≠ 0 ∧ R.KEY_SEL ≤ a ∧ a ≤ R.KEY_MINT then
    s.keySet m (wordFld a) (mergeBits (BitVec.ofNat 36 (s.keyGet m (wordFld a))) v d.rw).toNat
  else
    let t := if d.rw = 0 then s else s.wr a (mergeBits (s.rd a) v d.rw)
    let t := if d.rws = 0 then t else { t with shadow := t.shadow.write a (mergeBits (t.shadow.read a) v d.rws) }
    if d.rw = 0 then t else State.wrote s t a

/-- A word of a T108 or S72 register: staged, or with the highest slot committed, unless the T108 value is rejected (R2 to R4, R94).  A word not staged keeps its value
in force; a rejected write empties the staging set too (DESIGN CHOICE, log entry 21). -/
def State.writeTime (s : State) (m : Master) (a : Nat) (v : Word) (d : RegDef) : State :=
  let n := if d.time = 1 then 3 else 2
  let j := (a % 512 - d.lo) % d.stride
  if d.rw = 0 ∧ d.rws = 0 then s
  else if j + 1 < n then s.stage m a v
  else
    let base := a - (n - 1)
    let ws := (List.range n).map (fun i => if i + 1 = n then v.toNat else s.stagedWord m s.regs (base + i))
    let t := s.clearStaged m
    if d.time = 1 && !t108Ok (ws.foldl (fun x w => x * 2 ^ 36 + w) 0) then t.raise (a / 512) E.FORMAT_ERR
    else ws.zipIdx.foldl (fun (t : State) (p : Nat × Nat) =>
      if d.rw = 0 then { t with shadow := t.shadow.write (base + p.2) (BitVec.ofNat 36 p.1) } else t.wr (base + p.2) (BitVec.ofNat 36 p.1)) t

/-- A write to a DMA ring register without a row of its own (R486, R490). -/
def State.writeRingReg (s : State) (m : Master) (a : Nat) (v : Word) (d : RegDef) : State :=
  let q := (a - R.DMA_BASE_LO 0) / 8
  if s.ringWorld m q then s.worldErr m a
  else if a = R.DMA_BASE_LO q ∨ a = R.DMA_BASE_HI q then
    if s.ringOn q then s.raise P.DMA E.DMA_CFG_ERR
    else s.writeWord m a (if a = R.DMA_BASE_LO q then BitVec.ofNat 36 (v.toNat / 32 * 32) else v) d
  else if a = R.DMA_SEEN q then s.writeSeen q ((R.DMA_SEEN_IDX q).of v)
  else s.writeWord m a v d

/-- A defined slot that has no row of its own takes a word. -/
def State.writeSlot (s : State) (m : Master) (slot : Nat) (v : Word) (a : Arrival) : State :=
  if slot % 512 < 8 then s.writeHeader m slot v a
  else match slotDef slot with
    | none => s
    | some d =>
      if slot = R.GLB_EXPERT_CTRL ∧ m = .pf1 then s.worldErr m slot
      else if R.DMA_BASE_LO 0 ≤ slot ∧ slot ≤ R.DMA_MOD 7 then s.writeRingReg m slot v d
      else if d.time ≠ 0 then s.writeTime m slot v d
      else s.writeWord m slot v d

/-- A master's write: to an undefined slot or to the shadow alias it is ignored with cause UNDEF (R82, R83); else as the access forms say. -/
def State.plainWrite (s : State) (m : Master) (slot : Nat) (v : Word) (a : Arrival) : State :=
  if !s.hostUp m then s
  else if !slotDefined slot then s.accessErr m 2 true slot
  else s.hostWrite m slot fun s => s.writeSlot m slot v a

/-- What a write needs where nothing but its word matters. -/
def plainArrival : Arrival := { tick := 0, us := 0, sinceArm := 0, ok := true, sending := false, cuts := [], slot := 0, same := 0 }

/-- SHADOW_WRITE (R96): the shadow of an RWS register takes the word, the value in force stays. -/
def execShadowWrite (m : Master) (slot : Nat) (v : Word) (s : State) : Host.Outcome State Fault Refusal :=
  .next (if rwsMask slot = 0 then s else s.plainWrite m slot v plainArrival)

/-- PG_EVT_CLEAR (R9, R87, R107): `same` names the bits whose event has occurred in the cycle of the write; they stay set, and nothing behind them falls. -/
def execPgEvtClear (m : Master) (page : Nat) (v : Word) (same : Nat) (s : State) : Host.Outcome State Fault Refusal :=
  .next (s.plainWrite m (R.PG_EVT page) v { plainArrival with same := same })

/-! ## Expert windows (R90 to R92) -/

/-- The master's window: 0 closed, 1 armed, 2 open. -/
def State.setWindow (s : State) (m : Master) (w : Nat) : State := s.putMst m { s.mst m with window := w }

/-- EXPERT_KEY_WRITE (R90 to R92): the first value arms, the second opens within 1 ms, any other closes. -/
def execExpertKeyWrite (m : Master) (v : Word) (sinceArm : Nat) (s : State) : Host.Outcome State Fault Refusal :=
  .next (s.hostWrite m R.GLB_EXPERT_KEY fun s =>
    if v.toNat = 0x5C0A71E42 then (s.closeWindow m).setWindow m 1
    else if v.toNat = 0xA3F58E1BD then
      if (s.mst m).window = 2 then s
      else if (s.mst m).window = 1 ∧ sinceArm ≤ 1000 then
        if m = .pf1 ∧ s.get R.GLB_EXPERT_CTRL_PERMIT_PF1 = 0 then (s.setWindow m 0).worldErr m R.GLB_EXPERT_KEY
        else (s.setWindow m 2).raise P.GLB E.GLB_EXPERT_OPEN
      else s.setWindow m 0
    else (s.closeWindow m).setWindow m 0)

/-- EXPERT_WINDOW_TIMEOUT (R91): no expert write of the master has taken effect for TIMEOUT seconds. -/
def execExpertWindowTimeout (m : Master) (s : State) : Host.Outcome State Fault Refusal :=
  .next (if s.get R.GLB_EXPERT_CTRL_TIMEOUT = 0 then s else s.closeWindow m)

/-! ## Vectors (R105, R476) -/

/-- VECTOR_ACK (R105): each vector named is sent again if its level is 1. -/
def execVectorAck (m : Master) (v : Word) (s : State) : Host.Outcome State Fault Refusal :=
  .next (s.hostWrite m R.EVT_VEC_ACK fun s =>
    (List.range 32).foldl (fun (t : State) k => if v.toNat.testBit k && s.vecLevel k then t.sendVec k else t) s)

/-- MSIX_UNMASK (R105, R476): the mask bit of a table entry is written; an unmasked vector sends its pending message. -/
def execMsixUnmask (pf vec : Nat) (masked : Bool) (s : State) : Host.Outcome State Fault Refusal :=
  if 32 ≤ vec then .fault .noSuchUnit else withUnit pf 2 (
    let x := s.msixOf pf
    (s.putMsix pf { x with masked := setBit x.masked vec masked }).sendPending pf)

end Sys2Proof.Machine
end

