-- ==== Sys2Proof/Machine/Dugil.lean ====
section
/-! DEFINITION.
The redundancy group: links and heartbeat, two-way transfer, the reins lease, claims, handover, following, the mirror, and SLEEP (R422 to R443).
-/
namespace Sys2Proof.Machine
open Sys2Proof

/-! ## Status (R442, R443) -/

def State.role (s : State) : Nat := s.get R.DUG_STATUS_ROLE
def State.inGroup (s : State) : Bool := decide (s.get R.DUG_CFG_MODE = 2)
def State.heart (s : State) (n : Nat) : Bool := s.flag (R.DUG_PEER_STAT_HB_OK n)
def State.ownSerial (_ : State) : Nat := Config.serial.toNat

/-- E_in, the end of the last lease known (R429). -/
def State.leaseEnd (s : State) : Int := ofT108 (s.rdT R.DUG_LEASE_END)
def State.leaseLen (s : State) : Int := (s.get R.DUG_LEASE_MS : Int) * msU

/-- A DUGIL record about a port; a happening without a PG_EVT bit has no stated code, a free value (R466; log entry 3). -/
def State.dugRec (s : State) (ev : Option Nat) (n : Nat) : State :=
  let f := s.takeFree
  match ev with
  | some e => s.trig islRH 0xA0 [e, n, s.get (R.DUG_PEER_STAT_ROLE n)]
  | none => f.2.trig islRH 0xA0 [f.1, n, s.get (R.DUG_PEER_STAT_ROLE n)]

/-- The link whose TT frames carry the holder's scale: with two links to one peer the lower-numbered one with heartbeat (R423, R425). -/
def State.feedLink (s : State) : Option Nat :=
  let h := s.get R.DUG_STATUS_HOLDER_AT
  if h = 1 ∨ h = 2 then
    if s.get R.DUG_CFG_SIZE = 2 then some ((s.dugLinks.find? (fun n => s.heart n)).getD (h - 1)) else some (h - 1)
  else none

/-- The link that mirror traffic is taken from: with two links to one peer the lower-numbered one that is up (R425). -/
def State.mirrorLink (s : State) : Option Nat :=
  let h := s.get R.DUG_STATUS_HOLDER_AT
  if h = 1 ∨ h = 2 then
    if s.get R.DUG_CFG_SIZE = 2 then some ((s.dugLinks.find? (fun n => s.flag (R.DUG_PEER_STAT_LANE1_UP n))).getD (h - 1)) else some (h - 1)
  else none

/-- DUG.STATUS.READY (R437): a holder is READY when TIMED, a standby when TIMED and once a complete sweep has arrived. -/
def State.showReady (s : State) : State :=
  let on := s.inGroup && decide (3 ≤ s.get R.BOOT_STAGE_STAGE) && (decide (s.role = 1) || (decide (s.role = 2 ∨ s.role = 3) && s.dug.swept))
  if s.flag R.DUG_STATUS_READY = on then s else (s.setFlag R.DUG_STATUS_READY on).raise P.DUG E.DUG_READY

/-- DUG.STATUS.FOLLOW (R435, R440): a member that follows takes its servo's feed from the holder, whose first offset is flagged FIRST. -/
def State.showFollow (s : State) : State :=
  let on := s.inGroup && decide (s.role = 2 ∨ s.role = 5 ∨ s.role = 6) && (match s.feedLink with
    | some n => s.heart n
    | none => false)
  if s.flag R.DUG_STATUS_FOLLOW = on then s
  else
    let s := s.setFlag R.DUG_STATUS_FOLLOW on
    if on then { s.perCore (fun t => { t with srv := { t.srv with feed := [] } }) with dug := { s.dug with followed := true, feedFirst := true } } else s

/-- HB_OK and VOTERS. -/
def State.showHeart (s : State) : State :=
  let n := ((List.range 2).filter (fun n => s.heart n)).length
  let s := s.set R.DUG_STATUS_HB_OK (maskOf ((List.range 2).filter (fun n => s.heart n)))
  s.set R.DUG_STATUS_VOTERS (if s.inGroup then 1 + (if s.get R.DUG_CFG_SIZE = 2 then min 1 n else n) else 1)

/-- The DUAL state ends. -/
def State.endDual (s : State) : State :=
  if s.flag R.DUG_STATUS_DUAL then ((s.set R.DUG_STATUS_DUAL 0).level P.DUG E.DUG_DUAL false).lineOff 27 1 else s

/-- The role changes: event ROLE and its record (R443); an ISOLATED member holds line 27 present (R441). -/
def State.setRole (s : State) (r : Nat) : State :=
  if s.role = r then s
  else
    let s := (s.set R.DUG_STATUS_ROLE r).lineSet 27 2 (decide (r = 4))
    let s := if r = 1 then s.set R.DUG_STATUS_HOLDER_AT 0 else s.endDual
    let s := if r ≠ 1 ∧ s.get R.DUG_STATUS_HOLDER_AT = 0 then s.set R.DUG_STATUS_HOLDER_AT 3 else s
    let f := s.takeFree
    let g := f.2.takeFree
    let s := (g.2.raise P.DUG E.DUG_ROLE).trig islRH 0xA0 [E.DUG_ROLE, f.1, g.1]
    s.showFollow.showReady

/-! ## Frames received (R424) -/

/-- A frame arrives on a link: one with a wrong MAGIC, GROUP, FCS or TYPE is discarded and counted; otherwise the peer's flags are shown and `k` follows. -/
def State.dugTake (s : State) (n : Nat) (f : DugFrame) (k : State → State) : State :=
  if !s.dugLinks.contains n then s
  else if !f.ok ∨ f.group ≠ s.get R.DUG_CFG_GROUP then s.bump (R.DUG_RX_ERR_COUNT n)
  else
    let b (x : Bool) (v : Nat) : Nat := if x then v else 0
    let s := (s.set (R.DUG_PEER_STAT_ROLE n) f.role).set (R.DUG_PEER_STAT_FLAGS n) (b f.follows 4 + b f.timed 2 + b f.ready 1)
    let s := (s.set (R.DUG_PEER_SERIAL_HI_SN n) (f.serial / 2 ^ 32)).set (R.DUG_PEER_SERIAL_LO_SN n) (f.serial % 2 ^ 32)
    let s := s.putPeer n { s.peer n with serial := f.serial, prio := f.prio }
    let s := if (List.range 2).any (fun j => decide (s.get (R.DUG_PEER_STAT_ROLE j) = 1)) then s else s.endDual
    k s

/-- The same for a frame that only a group uses. -/
def State.groupTake (s : State) (n : Nat) (f : DugFrame) (k : State → State) : State := s.dugTake n f (fun s => if s.inGroup then k s else s)

/-- Precedence between two members (R432): READY, then the lower PRIO, then the lower serial. -/
def outranks (ready : Bool) (prio serial : Nat) (ready' : Bool) (prio' serial' : Nat) : Bool :=
  if ready ≠ ready' then ready else if prio ≠ prio' then decide (prio < prio') else decide (serial < serial')

/-- This device has precedence over the sender of a frame. -/
def State.outranksOf (s : State) (f : DugFrame) : Bool :=
  outranks (s.flag R.DUG_STATUS_READY) (s.get R.DUG_CFG_PRIO) s.ownSerial f.ready f.prio f.serial

/-! ## Two-way transfer (R425, R426) -/

/-- TT_SEND (R425): at AXMARK + 500 µs on each link, at the first point of its launch grid (R330). -/
def execTtSend (s : State) : Host.Outcome State Fault Refusal :=
  .next (
    if !s.ax.running then s
    else s.dugLinks.foldl (fun (t : State) n =>
      let x := t.peer n
      let e := t.ax.mark + 500 * 1000 * nsU
      let tx := cutT (e + Config.gridDelay 3 (24 + n) e)
      let f := t.takeFree
      let g := f.2.takeFree
      let (q, r, t) := match x.rx with
        | some (q, r) => (q, r, t)
        | none => (f.1 % 2 ^ 32, (g.1 : Int), g.2)
      let src := if t.selected < 12 then t.candSrc t.selected else 0xFF
      let t := t.putPeer n { x with sent := ({ seq := x.txSeq, t := tx, epoch := t.dug.epoch } :: x.sent).take 32 }
      t.dugSend n 0 (.tt tx q r (t.get R.TEB_BOUND_PS - t.get R.TEB_QUANT_OUT_PS) (t.get R.BOOT_STAGE_STAGE) src)) s)

/-- An offset of the holder feeds the servo (R435). -/
def State.feedTheta (s : State) (t2 theta : Int) : State :=
  if s.hostFeed then s
  else
    let f : FeedSample := { slot := 15, freq := false, first := s.dug.feedFirst, cold := !s.flag R.VOTE_OSC_STAT_OCXO_WARM, t := t2, o := theta }
    { s with dug := { s.dug with feedFirst := false } }.sendFeed f

/-- The PEER candidate bound to a link takes the offset as its sample (R140, R143). -/
def State.peerSample (s : State) (n : Nat) (t2 theta : Int) (srcOk : Bool) : State :=
  match (List.range 12).find? (fun k => s.candOn k && decide (s.candSrc k = 5 ∧ s.candUnit k = n)) with
  | some k => s.candSample k t2 (t2 + theta * s72U) theta (!s.flag R.VOTE_OSC_STAT_OCXO_WARM) srcOk
  | none => s

/-- θ and D of a TT frame (R426): none when RX_SEQ names no frame of the last 16 ms, or the pair spans a step or load at either end. -/
def State.ttPair (s : State) (n : Nat) (t1 t2 t4 : Int) (rxSeq : Nat) : Option (Int × Int) :=
  let x := s.peer n
  match x.sent.find? (fun (e : TtSent) => decide (e.seq = rxSeq)) with
  | none => none
  | some e =>
    let spans : Bool := match x.applyT with
      | some a => decide (t4 < a ∧ a ≤ t1)
      | none => false
    if 16 * msU < t2 - e.t ∨ e.epoch ≠ s.dug.epoch ∨ spans then none
    else
      let asym := ofPs (clampInt (-10000000) 10000000 (s.getS (R.DUG_ASYM_PS n)))
      some (quot ((t4 - e.t) - (t2 - t1) - asym) (2 * s72U.toNat), quot ((t4 - e.t) + (t2 - t1)) 2)

/-- The best READY standby with heartbeat, by precedence (R439). -/
def State.bestStandby (s : State) : Option Nat :=
  let l := (List.range 2).filter (fun n => s.heart n && decide (s.get (R.DUG_PEER_STAT_ROLE n) = 2) && bitOn (s.get (R.DUG_PEER_STAT_FLAGS n)) 0)
  match l with
  | [a, b] => if outranks true (s.peer b).prio (s.peer b).serial true (s.peer a).prio (s.peer a).serial then some b else some a
  | [a] => some a
  | _ => none

/-- The guard, in whole microseconds shown as ns (R430). -/
def State.dugGuard (s : State) : Nat :=
  let drift := 2 * s.getS R.DUG_DRIFT_Y * s.get R.DUG_LEASE_MS * 1000000000
  let fixed : Int := max (s.get (R.DUG_DELAY_PS 0)) (s.get (R.DUG_DELAY_PS 1)) + s.get R.DUG_MARGIN_PS
  let us := ceilDiv (drift + fixed * nsU) (1000000 * nsU.toNat)
  min (2 ^ 24 - 1) (1000 * us.toNat)

/-- The guard in force as a duration. -/
def State.guardT (s : State) : Int := (s.get R.DUG_GUARD_NS : Int) * nsU

/-- A handover to the standby on link `n` starts (R439). -/
def State.startHandover (s : State) (n : Nat) (now : Int) : State :=
  let eh := (ceilDiv (now + msU + 2 * s.guardT) msU.toNat) * msU
  let s := { s with dug := { s.dug with stopping := true, target := (s.peer n).serial, handT := some eh } }
  let s := (s.wrT R.DUG_LEASE_END (toT108 eh)).dugSendAll 0 (.handover (s.peer n).serial eh)
  s.dugRec none n

/-- A holder that is not READY hands over as soon as a READY standby has heartbeat (R433). -/
def State.autoHandover (s : State) (now : Int) : State :=
  if s.role = 1 ∧ s.inGroup ∧ !s.flag R.DUG_STATUS_READY ∧ !s.dug.stopping then
    match s.bestStandby with
    | some n => s.startHandover n now
    | none => s
  else s

/-- TT_RECEIVE (R426, R143, R435): `st`: the arrival. -/
def execTtReceive (link : Nat) (f : DugFrame) (st : Stamp) (s : State) : Host.Outcome State Fault Refusal :=
  withUnit link 2 (s.dugTake link f fun s =>
    match f.body with
    | .tt t1 rxSeq t4 teb _ _ =>
      let t2 := cutT (s.stampOf (56 + 2 * link) st)
      let s := s.set (R.DUG_PEER_TEB_PS link) (min wordMax teb)
      let pair := s.ttPair link t1 t2 t4 rxSeq
      let s := s.putPeer link { s.peer link with rx := some (f.seq, t2) }
      let s := match pair with
        | none => s
        | some (theta, d) =>
          let s := (s.wrS (R.DUG_OFFSET link) theta).set (R.DUG_DELAY_PS link) (sat36 (psOf d).toNat)
          let s := s.putPeer link { s.peer link with thetas := (theta :: (s.peer link).thetas).take 64 }
          let s := if s.flag R.DUG_STATUS_FOLLOW ∧ s.feedLink = some link then s.feedTheta t2 theta else s
          s.peerSample link t2 theta (f.timed && !f.follows)
      s.autoHandover t2
    | _ => s)

/-! ## The lease (R429 to R431) -/

/-- RENEW is sent at a tick: the guard is computed, and for SIZE 2 the holder alone is the quorum (R429, R430). -/
def State.renew (s : State) (tick : Nat) : State :=
  let e := cutT (s.rhTime tick + s.leaseLen)
  let q := (s.dug.lease + 1) % 2 ^ 32
  let s := { s with dug := { s.dug with lease := q, leaseOf := s.ownSerial, pendE := e, renewed := true } }
  let s := (s.set R.DUG_GUARD_NS s.dugGuard).dugSendAll 0 (.renew q e)
  if s.get R.DUG_CFG_SIZE = 2 then s.wrT R.DUG_LEASE_END (toT108 e) else s

/-- RENEW_SEND (R429, R452): a holder under brake, or handing over, sends none. -/
def execRenewSend (tick : Nat) (s : State) : Host.Outcome State Fault Refusal :=
  .next (if s.role = 1 ∧ s.inGroup ∧ s.up islRH ∧ s.ax.running ∧ !s.dug.stopping ∧ s.flt.brake = .off then s.renew tick else s)

/-- A holder receives another holder's RENEW: DUAL (R434). The second component: this device gives way. -/
def State.meetHolder (s : State) (n : Nat) (f : DugFrame) : State × Bool :=
  let s := if s.flag R.DUG_STATUS_DUAL then s else
    (((s.set R.DUG_STATUS_DUAL 1).bump R.DUG_DUALS_COUNT).level P.DUG E.DUG_DUAL true).lineOn 27 1 |>.dugRec (some E.DUG_DUAL) n
  if s.outranksOf f then (s, false)
  else ((((s.pulse 27).setRole 2).hostStep (s.rdS (R.DUG_OFFSET n))), true)

/-- What a member that is not HOLDER takes from a RENEW (R429, R430, R433, R439). -/
def State.takeRenew (s : State) (n : Nat) (f : DugFrame) (lease : Nat) (e now : Int) : State :=
  if s.dug.leaseOf ≠ f.serial ∧ s.dug.renewed ∧ now < s.leaseEnd + s.guardT ∧ s.dug.handT.isNone then s
  else
    let done := s.dug.stopping && decide (f.serial = s.dug.target)
    let s := if done then (s.bump R.DUG_HANDOVERS_COUNT).set R.DUG_CMD_STATUS (if s.get R.DUG_CMD_STATUS = 1 then 2 else s.get R.DUG_CMD_STATUS) else s
    let fresh := decide (s.dug.leaseOf = f.serial)
    let s := { s with dug := { s.dug with lease := lease, leaseOf := f.serial, renewed := true, claimed := false, handT := none, stopping := s.dug.stopping && !done,
                                          swept := s.dug.swept && fresh } }
    let s := ((s.wrT R.DUG_LEASE_END (toT108 e)).set R.DUG_GUARD_NS s.dugGuard).set R.DUG_STATUS_HOLDER_AT (n + 1)
    let s := if s.role = 3 ∨ s.role = 4 then s.setRole 2 else s
    (s.showFollow.showReady).dugSend n 0 (.ack lease e)

/-- RENEW_RECEIVE (R429, R433, R434). -/
def execRenewReceive (link : Nat) (f : DugFrame) (tick : Nat) (s : State) : Host.Outcome State Fault Refusal :=
  withUnit link 2 (s.groupTake link f fun s =>
    match f.body with
    | .renew lease e =>
      let now := s.rhTime tick
      if s.role = 1 then
        let (t, lost) := s.meetHolder link f
        if lost then ({ t with dug := { t.dug with leaseOf := f.serial } }).takeRenew link f lease e now else t
      else s.takeRenew link f lease e now
    | _ => s)

/-- ACK_RECEIVE (R429): the quorum of a group of three is complete with one. -/
def execAckReceive (link : Nat) (f : DugFrame) (s : State) : Host.Outcome State Fault Refusal :=
  withUnit link 2 (s.groupTake link f fun s =>
    match f.body with
    | .ack lease e =>
      if s.role = 1 ∧ !s.dug.stopping ∧ lease ≤ s.dug.lease ∧ e ≤ s.dug.pendE ∧ s.leaseEnd < e then s.wrT R.DUG_LEASE_END (toT108 e) else s
    | _ => s)

/-- LEASE_STOP (R431, R439, R422): at S a holder in handover becomes STANDBY, one of three whose lease is not renewed ISOLATED; a device that has left GROUP
stops serving. -/
def execLeaseStop (tick : Nat) (s : State) : Host.Outcome State Fault Refusal :=
  .next (
    let now := s.rhTime tick
    match s.reinsEnd with
    | none => s
    | some e =>
      if now < e then s
      else if s.role = 0 then { s with dug := { s.dug with soloOff := true } }
      else if s.role ≠ 1 ∨ !s.inGroup then s
      else if s.dug.stopping then s.setRole 2
      else if s.get R.DUG_CFG_SIZE = 3 then s.setRole 4
      else s)

/-! ## Claims and takeover (R432, R433, R438) -/

/-- The selector of a follower that becomes HOLDER (R438): the holder's slot is taken over where it is eligible, otherwise HOLDOVER. -/
def State.takeSelector (s : State) (now : Int) : State :=
  let k := s.selected
  if k < 12 ∧ s.eligible k then
    let s := (((s.set R.SEL_STATUS_STATE 6).set R.SEL_STATUS_TARGET 15).set R.SEL_STATUS_WAIT_VOTE 0).set R.SEL_STATUS_MANUAL 0
    { s with sel := { s.sel with firstNext := true, feedFrom := now, bias := 0, biasTarget := 0, steering := false, lastTimeSrc := s.candSrc k } }.showSel.showDiffs
  else s.enterHold false

/-- The device becomes HOLDER and sends RENEW; the grants, or the handover, stand for its first acknowledgement (R433, R438, R439; log entry 33). -/
def State.becomeHolder (s : State) (tick : Nat) : State :=
  let now := s.rhTime tick
  let was := s.dug.followed
  let s := { s with dug := { s.dug with stopping := false, claimed := false, handT := none, soloEnd := none, soloOff := false, due := [] } }
  let s := s.setRole 1
  let s := if was then s.takeSelector now else s
  let j := s.get R.DUG_SYNC_SEQ_JUMP
  let s : State := { s with clt := { s.clt with entries := s.clt.entries.map (fun (p : Nat × ClientEntry) =>
      (p.1, { p.2 with annSeq := (p.2.annSeq + j) % 65536, syncSeq := (p.2.syncSeq + j) % 65536, annOk := false })) } }
  let s := s.renew tick
  s.wrT R.DUG_LEASE_END (toT108 s.dug.pendE)

/-- The instant at which a member may claim (R432). -/
def State.claimFrom (s : State) : Int :=
  if s.dug.renewed then s.leaseEnd + s.guardT else s.dug.groupAt + s.leaseLen + s.dugGuard * nsU

/-- CLAIM_START (R432): the last lease known has ended; for SIZE 2 the claimant becomes HOLDER at once. -/
def execClaimStart (tick : Nat) (s : State) : Host.Outcome State Fault Refusal :=
  .next (
    let now := s.rhTime tick
    let may := decide (s.role = 2) || (decide (s.role = 4) && s.dug.claimed)
    if !may ∨ !s.inGroup ∨ !s.up islRH ∨ !s.ax.running ∨ s.dug.handT.isSome ∨ now < s.claimFrom ∨ (s.dug.claimed ∧ now < s.dug.claimT + (s.get R.DUG_LEASE_RENEW_MS : Int) * msU)
    then s
    else
      let s := { s with dug := { s.dug with claimT := now, grants := 0, refused := false } }.setRole 3
      let old := if s.dug.renewed then s.leaseEnd else 0
      let s := ((List.range 2).filter (fun n => s.heart n)).foldl (fun (t : State) n => (t.dugSend n 0 (.claim old)).dugRec none n) s
      if s.get R.DUG_CFG_SIZE = 2 then (s.bump R.DUG_TAKEOVERS_COUNT).becomeHolder tick else s)

/-- CLAIM_RECEIVE (R432): the VERDICT; a CLAIMING receiver that grants withdraws. -/
def execClaimReceive (link : Nat) (f : DugFrame) (tick : Nat) (s : State) : Host.Outcome State Fault Refusal :=
  withUnit link 2 (s.groupTake link f fun s =>
    match f.body with
    | .claim _ =>
      let s := s.dugRec none link
      let v := if s.role = 1 ∨ (s.dug.renewed ∧ s.rhTime tick < s.leaseEnd + s.guardT) then 2 else if s.role = 3 ∧ s.outranksOf f then 3 else 1
      let s := if v = 1 ∧ s.role = 3 then ((s.setRole 2).bump R.DUG_CLAIMS_LOST_COUNT).raise P.DUG E.DUG_CLAIM_LOST else s
      s.dugSend link 0 (.reply f.serial v)
    | _ => s)

/-- REPLY_RECEIVE (R432): a grant completes the quorum of a group of three within 1 ms of the CLAIM. -/
def execReplyReceive (link : Nat) (f : DugFrame) (tick : Nat) (s : State) : Host.Outcome State Fault Refusal :=
  withUnit link 2 (s.groupTake link f fun s =>
    match f.body with
    | .reply serial v =>
      let s := s.dugRec none link
      if s.role ≠ 3 ∨ serial ≠ s.ownSerial ∨ s.dug.claimT + msU < s.rhTime tick then s
      else if v = 1 then ({ s with dug := { s.dug with grants := setBit s.dug.grants link true } }.bump R.DUG_TAKEOVERS_COUNT).becomeHolder tick
      else if v = 2 then { s with dug := { s.dug with refused := true } }
      else s
    | _ => s)

/-- CLAIM_TIMEOUT (R432, R441): 1 ms after its CLAIM the claimant returns to STANDBY, or to ISOLATED without heartbeat or when a holder is alive beyond its
reach. -/
def execClaimTimeout (tick : Nat) (s : State) : Host.Outcome State Fault Refusal :=
  .next (
    if s.role ≠ 3 ∨ s.rhTime tick < s.dug.claimT + msU then s
    else
      let alone := s.dug.refused || !(List.range 2).any (fun n => s.heart n)
      { s with dug := { s.dug with claimed := true } }.setRole (if alone then 4 else 2))

/-! ## Handover (R439) -/

/-- HANDOVER (R439): DUG.CMD HANDOVER to the standby on TO, 0 the best one. -/
def execHandover (m : Master) (dest tick : Nat) (s : State) : Host.Outcome State Fault Refusal :=
  .next (s.hostCmd m R.DUG_CMD_STATUS fun s =>
    if s.role ≠ 1 ∨ !s.inGroup ∨ s.dug.stopping then s.set R.DUG_CMD_STATUS 3
    else
      let ok (n : Nat) : Bool := decide (n < 2) && s.heart n && decide (s.get (R.DUG_PEER_STAT_ROLE n) = 2) && bitOn (s.get (R.DUG_PEER_STAT_FLAGS n)) 0
      let t := if dest = 0 then s.bestStandby else if ok (dest - 1) then some (dest - 1) else none
      match t with
      | some n => (s.set R.DUG_CMD_STATUS 1).startHandover n (s.rhTime tick)
      | none => s.set R.DUG_CMD_STATUS 4)

/-- HANDOVER_RECEIVE (R439): every other member knows the lease's new end; the target will take the reins. -/
def execHandoverReceive (link : Nat) (f : DugFrame) (s : State) : Host.Outcome State Fault Refusal :=
  withUnit link 2 (s.groupTake link f fun s =>
    match f.body with
    | .handover serial eh =>
      if s.role = 1 ∨ s.role = 0 then s
      else
        let s := s.dugRec none link
        { s with dug := { s.dug with handT := some eh, leaseOf := serial, renewed := true, target := serial } }.wrT R.DUG_LEASE_END (toT108 eh)
    | _ => s)

/-- HANDOVER_TAKE (R439): at E_H + guard the target becomes HOLDER. -/
def execHandoverTake (tick : Nat) (s : State) : Host.Outcome State Fault Refusal :=
  .next (
    match s.dug.handT with
    | none => s
    | some eh =>
      if s.role ≠ 2 ∨ !s.inGroup ∨ s.dug.stopping ∨ s.dug.target ≠ s.ownSerial ∨ s.rhTime tick < eh + s.guardT then s
      else s.becomeHolder tick)

/-- HANDOVER_TIMEOUT (R439): no RENEW by E_H + 5 ms; the ordinary claim follows. A command that still runs completes, with a status that the spec does not
state: a free value (log entry 3). -/
def execHandoverTimeout (tick : Nat) (s : State) : Host.Outcome State Fault Refusal :=
  .next (
    match s.dug.handT with
    | none => s
    | some eh =>
      if s.role = 1 ∨ s.rhTime tick < eh + 5 * msU then s
      else
        let run := s.dug.stopping && decide (s.get R.DUG_CMD_STATUS = 1)
        let s := { s with dug := { s.dug with handT := none, stopping := false } }
        if run then
          let f := s.takeFree
          f.2.set R.DUG_CMD_STATUS (2 + f.1 % 3)
        else s)

/-! ## Following (R435) -/

/-- SEL_FRAME_RECEIVE (R435): SEL.STATUS reads as the holder's; a step or load is submitted for its mark, at once when that has passed. -/
def execSelFrameReceive (link : Nat) (f : DugFrame) (s : State) : Host.Outcome State Fault Refusal :=
  withUnit link 2 (s.groupTake link f fun s =>
    match f.body with
    | .sel status kind amount at_ =>
      let s := if kind = 0 then s else s.putPeer link { s.peer link with applyT := some at_ }
      if !s.flag R.DUG_STATUS_FOLLOW ∨ s.mirrorLink ≠ some link then s
      else
        let s := s.wr R.SEL_STATUS status
        if kind = 0 then s
        else
          let unset := !s.flag R.VOTE_STATUS_TS_SET && decide (kind = 2)
          let v := if kind = 2 then ofT108 (toT108 at_ / 2 ^ 72 * 2 ^ 72 + amount.toNat % 2 ^ 72) else amount
          let pre := if unset then 0 else if kind = 2 then at_ else at_ - amount * s72U
          let s := if !unset && decide (pre - msU / 2 ≤ s.ax.mark) then s.bump R.DUG_LATE_STEPS_COUNT else s
          { s with dug := { s.dug with due := s.dug.due ++ [{ load := decide (kind = 2), amount := v, at_ := pre }] } }
    | _ => s)

/-- LEAP_FRAME_SEND (R425): by the holder. -/
def execLeapFrameSend (s : State) : Host.Outcome State Fault Refusal :=
  .next (if s.role = 1 then s.dugSendAll 1 (.leap s.leapField (s.rd R.VOTE_LEAP_AT)) else s)

/-- LEAP_FRAME_RECEIVE (R435, R127, R128): what differs from the holder's is written as the host would. -/
def execLeapFrameReceive (link : Nat) (f : DugFrame) (s : State) : Host.Outcome State Fault Refusal :=
  withUnit link 2 (s.groupTake link f fun s =>
    match f.body with
    | .leap v at_ =>
      if !s.flag R.DUG_STATUS_FOLLOW ∨ s.mirrorLink ≠ some link ∨ v / 2 % 2 = 0 then s
      else
        let o := v / 16 % 4096
        let k := v / 4 % 4
        let s := if s.get R.VOTE_UTC_OFFSET = o ∧ s.get R.VOTE_UTC_VALID = 1 then s else { s with ax := { s.ax with utcReq := some o } }
        if k = 0 then (if s.flag R.VOTE_STATUS_LEAP_PEND then s.leapKind 0 else s)
        else if s.get R.VOTE_LEAP_CTRL_KIND = k ∧ s.rd R.VOTE_LEAP_AT = at_ then s
        else (s.wr R.VOTE_LEAP_AT at_).leapKind k
    | _ => s)

/-! ## The mirror (R437) -/

/-- An entry is freed with its records. -/
def State.freeEntry (s : State) (i : Nat) (e : ClientEntry) : State :=
  let c := e.port / 4
  let s := (s.chainOut i e).putWheel c (((s.wheel c).unlink i true).unlink i false)
  { s with clt := { s.clt with
      entries := kvDel s.clt.entries i, migrating := kvDel s.clt.migrating i, drainAt := kvDel s.clt.drainAt i } }.showClt

/-- A mirrored entry is applied by key; the follower keeps its own number and PLACE. -/
def State.applyMirror (s : State) (e : ClientEntry) (deleted : Bool) : State :=
  let g := s.get R.GEN_IN_FORCE_GEN
  match s.findClient e.port e.portId with
  | some i =>
    match s.entry i with
    | some o =>
      if deleted then s.putEntry i (drained o)
      else
        let n := { e with place := o.place }
        ((s.putEntry i n).syncRecs g i (some o) n s.ax.mark).showClt
    | none => s
  | none =>
    if deleted ∨ s.cltFree = 0 ∨ 24 ≤ e.port then s
    else
      let n := { e with place := s.placeOf (s.freeLane (e.port / 4)) }
      let (i, s) := s.takeEntry
      (((s.chainIn i n).putEntry i n).syncRecs g i none n s.ax.mark).showClt

/-- CLIENT_FRAME_RECEIVE (R437). -/
def execClientFrameReceive (link : Nat) (f : DugFrame) (s : State) : Host.Outcome State Fault Refusal :=
  withUnit link 2 (s.groupTake link f fun s =>
    match f.body with
    | .client sweep deleted e =>
      if !s.flag R.DUG_STATUS_FOLLOW ∨ s.mirrorLink ≠ some link ∨ !s.up islSW then s
      else
        let s := if sweep && s.dug.inSweep then { s with dug := { s.dug with sweepKeys := (e.port, e.portId) :: s.dug.sweepKeys } } else s
        s.applyMirror e deleted
    | _ => s)

/-- SWEEP_RECEIVE (R437): the end of a sweep that has arrived whole frees every entry it did not contain. -/
def execSweepReceive (link : Nat) (f : DugFrame) (tick : Nat) (s : State) : Host.Outcome State Fault Refusal :=
  withUnit link 2 (s.groupTake link f fun s =>
    match f.body with
    | .sweep no isEnd count =>
      if !s.flag R.DUG_STATUS_FOLLOW ∨ s.mirrorLink ≠ some link ∨ !s.up islSW then s
      else if !isEnd then { s with dug := { s.dug with inSweep := true, sweepNo := no, sweepKeys := [] } }
      else if !s.dug.inSweep ∨ s.dug.sweepNo ≠ no ∨ s.dug.sweepKeys.length ≠ count then { s with dug := { s.dug with inSweep := false } }
      else
        let keys := s.dug.sweepKeys
        let s := (s.clt.entries.filter (fun (p : Nat × ClientEntry) => !keys.contains (p.2.port, p.2.portId))).foldl (fun (t : State) p => t.freeEntry p.1 p.2) s
        ({ s with dug := { s.dug with inSweep := false, sweepKeys := [], swept := true, sweepT := s.rhTime tick } }.bump R.DUG_SWEEPS_COUNT).showReady
    | _ => s)

/-- SWEEP_SEND (R437): the holder's whole table between two SWEEP frames. -/
def execSweepSend (s : State) : Host.Outcome State Fault Refusal :=
  .next (
    if s.role ≠ 1 ∨ !s.up islSW then s
    else
      let no := (s.dug.sweepNo + 1) % 2 ^ 32
      let l := s.clt.entries.filter (fun (p : Nat × ClientEntry) => decide (p.2.state = 1 ∨ p.2.state = 2))
      let s := { s with dug := { s.dug with sweepNo := no } }.dugSendAll 1 (.sweep no false 0)
      let s := l.foldl (fun (t : State) p => t.dugSendAll 1 (.client true false p.2)) s
      (s.dugSendAll 1 (.sweep no true l.length)).bump R.DUG_SWEEPS_COUNT)

/-- A sweep is missed: none has ended for twice SWEEP_S (R441; log entry 33). -/
def State.sweepMissed (s : State) : State :=
  let p : Int := (clampNat 1 60 (s.get R.DUG_SYNC_SWEEP_S) : Nat) * secU
  if s.role = 2 ∧ s.dug.swept ∧ s.dug.sweepT + 2 * p < s.ax.mark then ({ s with dug := { s.dug with swept := false } }).showReady else s

/-! ## Heartbeat and locks (R428, R441, R443) -/

/-- Heartbeat on a port is lost; without the holder's offsets the servo enters HOLDOVER (R428, R435, R180). -/
def State.loseHeart (s : State) (n : Nat) (now : Int) : State :=
  if !s.heart n then s
  else
    let fed := s.flag R.DUG_STATUS_FOLLOW
    let s := ((s.set (R.DUG_PEER_STAT_HB_OK n) 0).bump (R.DUG_HB_LOSS_COUNT n)).raise P.DUG E.DUG_HB_LOST
    let s := ((s.dugRec (some E.DUG_HB_LOST) n).showHeart).showFollow
    if fed ∧ !s.flag R.DUG_STATUS_FOLLOW ∧ !s.hostFeed ∧ (s.srvSt = 1 ∨ s.srvSt = 2 ∨ s.srvSt = 3) then s.enterHoldover now else s

/-- HB_LOST (R428). -/
def execHbLost (link tick : Nat) (s : State) : Host.Outcome State Fault Refusal :=
  withUnit link 2 (s.inRh (s.loseHeart link (s.rhTime tick)))

/-- HEARTBEAT_RETURN (R428, R433): the first valid TT after lane 0 has been locked for 10 ms. -/
def execHeartbeatReturn (link tick : Nat) (s : State) : Host.Outcome State Fault Refusal :=
  withUnit link 2 (s.inRh (
    if !s.dugLinks.contains link ∨ s.heart link ∨ !s.flag (R.DUG_PEER_STAT_LANE0_UP link) then s
    else (((s.set (R.DUG_PEER_STAT_HB_OK link) 1).showHeart).showFollow).autoHandover (s.rhTime tick)))

/-- LANE_LOCK_CHANGE (R443, R428): a lane gains or loses PCS lock. -/
def execLaneLockChange (link lane : Nat) (locked : Bool) (tick : Nat) (s : State) : Host.Outcome State Fault Refusal :=
  withUnit link 2 (s.inRh (
    let f := if lane = 0 then R.DUG_PEER_STAT_LANE0_UP link else R.DUG_PEER_STAT_LANE1_UP link
    if !s.dugLinks.contains link ∨ 2 ≤ lane ∨ s.flag f = locked then s
    else
      let s := (s.setFlag f locked).raise P.DUG E.DUG_LINK
      if lane = 1 then s else if locked then s.lineOff 27 (3 + link) else s.loseHeart link (s.rhTime tick)))

/-- DUG_LINK_DOWN_TIMER (R441): a configured link has been down for 1 s. -/
def execDugLinkDownTimer (link : Nat) (s : State) : Host.Outcome State Fault Refusal :=
  withUnit link 2 (s.inRh (if s.dugLinks.contains link ∧ !s.flag (R.DUG_PEER_STAT_LANE0_UP link) then s.lineOn 27 (3 + link) else s))

/-! ## The commit (R422, R442) -/

/-- A field refused at a commit keeps its previous value and raises CFG_ERR. -/
def State.dugRefuse (s : State) (old : Store) (f : Fld) (bad : Bool) : State :=
  if bad then (s.set f (f.of (old.read f.slot))).raise P.DUG E.DUG_CFG_ERR else s

/-- A link goes out of use. -/
def State.linkOff (s : State) (n : Nat) : State :=
  (((s.set (R.DUG_PEER_STAT_HB_OK n) 0).set (R.DUG_PEER_STAT_LANE0_UP n) 0).set (R.DUG_PEER_STAT_LANE1_UP n) 0).lineOff 27 (3 + n) |>.putPeer n .init

/-- DUG.CFG and DUG.LEASE take force; `old` holds the values before (R422, R442). -/
def State.commitDug (s : State) (old : Store) : State :=
  let s := s.dugRefuse old R.DUG_CFG_SIZE (decide (s.get R.DUG_CFG_SIZE < 2))
  let s := s.dugRefuse old R.DUG_LEASE_MS (decide (s.get R.DUG_LEASE_MS < 10 ∨ 200 < s.get R.DUG_LEASE_MS))
  let s := s.dugRefuse old R.DUG_LEASE_RENEW_MS (decide (s.get R.DUG_LEASE_RENEW_MS < 1 ∨ s.get R.DUG_LEASE_MS < 2 * s.get R.DUG_LEASE_RENEW_MS))
  let was := decide (R.DUG_CFG_MODE.of (old.read R.DUG_CFG) = 2)
  let s := (List.range 2).foldl (fun (t : State) n => if t.dugLinks.contains n then t else t.linkOff n) s
  let s :=
    if s.inGroup = was then s
    else if s.inGroup then
      let s := { s with dug := { s.dug with groupAt := s.ax.mark, renewed := false, claimed := false, handT := none, stopping := false, followed := false, swept := false,
                                            inSweep := false, due := [], soloEnd := none, soloOff := false } }
      ((s.wrT R.DUG_LEASE_END 0).set R.DUG_STATUS_HOLDER_AT 3).setRole 2
    else
      let stop := if s.role = 1 then s.reinsEnd else none
      let s := { s with dug := { s.dug with soloEnd := stop, stopping := false, handT := none, due := [], swept := false } }
      (s.set R.DUG_STATUS_HOLDER_AT 3).setRole 0
  s.showHeart.showFollow.showReady

/-! ## SLEEP (R440) -/

/-- The islands that SLEEP holds in reset: GN, the coaches and SW. -/
abbrev sleepMask : Nat := 0x7F80

/-- SLEEP (R440): a STANDBY becomes a cold spare; outputs mute at the end of their period, ports go OFF. -/
def execSleep (m : Master) (s : State) : Host.Outcome State Fault Refusal :=
  .next (s.hostCmd m R.DUG_CMD_STATUS fun s =>
    if s.role ≠ 2 then s.set R.DUG_CMD_STATUS 3
    else
      let s := (List.range 8).foldl (fun (t : State) o => t.endOut o) s
      let s := (List.range 24).foldl (fun (t : State) p => t.goOff p) s
      let s := (s.flushQueues 24).resetIslands sleepMask
      let s := { s with boot := { s.boot with antBias := 0 }, dug := { s.dug with swept := false, inSweep := false, sweepKeys := [] } }
      (s.setRole 5).set R.DUG_CMD_STATUS 2)

/-- WAKE (R440, R64): the islands held in reset are to be reconfigured, at an AXMARK. -/
def execWake (m : Master) (s : State) : Host.Outcome State Fault Refusal :=
  .next (s.hostCmd m R.DUG_CMD_STATUS fun s =>
    if s.role ≠ 5 then s.set R.DUG_CMD_STATUS 3
    else { s with gen := { s.gen with reconf := sleepMask } }.set R.DUG_CMD_STATUS 1)

end Sys2Proof.Machine
end

