-- ==== Sys2Proof/Machine/Writes.lean ====
section
/-! DEFINITION.
A master's write of any register outside the bank commands: each slot and OP that has a row of its own takes that row's effect (R9, R85).
-/
namespace Sys2Proof.Machine
open Sys2Proof

/-- A write of a WC register whose OP names no command: rejected while the register's command runs, else without effect. -/
def State.noOp (s : State) (m : Master) (status : Fld) : State := s.hostCmd m status fun s => s

/-- KEY.CMD (R380). -/
def State.writeKeyCmd (s : State) (m : Master) (v : Word) (a : Arrival) : State :=
  let src := R.KEY_CMD_SRC.of v
  match R.KEY_CMD_OP.of v with
  | 1 => settle (execKeyCreate m s) s
  | 2 => settle (execKeyGenerate m s) s
  | 3 => settle (execKeyDerive m src s) s
  | 4 => settle (execKeyImport m s) s
  | 5 => settle (execKeyUnwrap m src s) s
  | 6 => settle (execKeyVerify m (decide (R.KEY_CMD_CHECK.of v = 1)) a.ok s) s
  | 7 => settle (execKeyCommit m a.ok a.tick s) s
  | 8 => settle (execKeyDiscard m s) s
  | 9 => settle (execKeyRevoke m s) s
  | 10 => settle (execKeyErase m a.ok s) s
  | 11 => settle (execKeyMint m s) s
  | 12 => settle (execKeyReload m s) s
  | _ => s.keyAsk (plainCmd m 0)

/-- Commands of KV: LCY.CMD, ATT.CMD (R373, R396). -/
def State.writeVaultCmd (s : State) (m : Master) (slot : Nat) (v : Word) (a : Arrival) : State :=
  if slot = R.KEY_CMD then s.writeKeyCmd m v a
  else if slot = R.LCY_CMD then
    match R.LCY_CMD_OP.of v with
    | 1 => settle (execLcyProvision m (R.LCY_CMD_ATT_MODE.of v) (R.LCY_CMD_ATT_SLOT.of v) a.us s) s
    | 2 => settle (execLcyDeploy m a.us s) s
    | 3 => settle (execLcyReturn m a.us s) s
    | 4 => settle (execLcyDisable m a.us s) s
    | _ => s.noOp m R.LCY_CMD_STATUS
  else if slot = R.ATT_CMD then
    if R.ATT_CMD_OP.of v = 1 then settle (execStatement m s) s else s.noOp m R.ATT_CMD_STATUS
  else if slot = R.LCY_CONFIRM then settle (execLcyConfirm m v a.us s) s
  else if slot = R.KEY_DATA then settle (execKeyDataAccess m (some v) s) s
  else s.plainWrite m slot v a

/-- Commands of the switch: SWF.FDB_CMD, CLT.CMD, TTB.CMD (R303, R361, R366). -/
def State.writeSwitchCmd (s : State) (m : Master) (slot : Nat) (v : Word) (a : Arrival) : State :=
  if slot = R.SWF_FDB_CMD then
    match R.SWF_FDB_CMD_OP.of v with
    | 1 => settle (execAddStatic m s) s
    | 2 => settle (execFdbDelete m s) s
    | 3 => settle (execFdbRead m s) s
    | 4 => settle (execFlushLearned m s) s
    | 5 => settle (execFlushPort m s) s
    | _ => s.noOp m R.SWF_FDB_CMD_STATUS
  else if slot = R.CLT_CMD then
    match R.CLT_CMD_OP.of v with
    | 1 => settle (execCltAdd m s) s
    | 2 => settle (execCltDelete m s) s
    | 3 => settle (execCltRead m s) s
    | 4 => settle (execCltFind m s) s
    | 5 => settle (execCltCancel m s) s
    | 6 => settle (execCltWrite m s) s
    | _ => s.noOp m R.CLT_CMD_STATUS
  else if slot = R.TTB_CMD then
    if R.TTB_CMD_OP.of v = 1 then settle (execRebuild m (R.TTB_CMD_COACH.of v) s) s else s.noOp m R.TTB_CMD_STATUS
  else s.plainWrite m slot v a

/-- Registers of AO and MGT with rows of their own: faults, recorder, expert window, vectors, generations, shunts, proving runs, DMA. -/
def State.writeLow (s : State) (m : Master) (slot : Nat) (v : Word) (a : Arrival) : State :=
  if slot = R.GLB_EXPERT_KEY then settle (execExpertKeyWrite m v a.sinceArm s) s
  else if slot = R.EVT_VEC_ACK then settle (execVectorAck m v s) s
  else if slot = R.FLT_LATCH then settle (execFltLatchClear m v s) s
  else if slot = R.FLT_SEV_LO ∨ slot = R.FLT_SEV_HI then settle (execFltSevWrite m (decide (slot = R.FLT_SEV_HI)) v a.cuts a.slot s) s
  else if slot = R.FLT_CMD then
    match R.FLT_CMD_OP.of v with
    | 1 => settle (execFltAck m s) s
    | 2 => settle (execFltRelease m s) s
    | _ => s.noOp m R.FLT_CMD_STATUS
  else if slot = R.FLT_SOFT then settle (execFltSoftWrite m v s) s
  else if slot = R.FLT_WDOG then settle (execWdogKick m s) s
  else if slot = R.FLT_WDOG_CFG then settle (execWdogCfgWrite m v s) s
  else if slot = R.FLT_INJ then
    let quiet := decide (R.FLT_INJ_QUIET.of v = 1)
    match R.FLT_INJ_CHECKER.of v with
    | 1 => settle (execInjSramEcc m (R.FLT_INJ_UNIT.of v) quiet s) s
    | 2 => settle (execInjCouple m (R.FLT_INJ_UNIT.of v) (R.FLT_INJ_TO.of v) (R.FLT_INJ_COUNT.of v) quiet s) s
    | 3 => settle (execInjDramCrc m (R.FLT_INJ_COUNT.of v) quiet s) s
    | 4 => settle (execInjVote m (R.FLT_INJ_UNIT.of v) quiet s) s
    | 5 => settle (execInjNvmCrc m quiet s) s
    | _ => s.noOp m R.FLT_INJ_STATUS
  else if slot = R.REC_FETCH_CMD then if R.REC_FETCH_CMD_OP.of v = 1 then settle (execFetch m s) s else s.noOp m R.REC_FETCH_CMD_STATUS
  else if slot = R.REC_HOST_MARK then settle (execHostMark m v s) s
  else if slot = R.REC_CODE_SEL then settle (execCodeSelWrite m v s) s
  else if slot = R.REC_CODE_CFG then settle (execCodeCfgWrite m v s) s
  else if slot = R.TMP_LATCH then settle (execTmpLatchClear m v s) s
  else if slot = R.TMP_POLICY then settle (execTmpPolicyWrite m v a.ok s) s
  else if slot = R.GEN_CMD then
    match R.GEN_CMD_OP.of v with
    | 1 => settle (execGenPrepare m a.tick s) s
    | 2 => settle (execGenCancel m s) s
    | _ => s.noOp m R.GEN_CMD_STATUS
  else if slot = R.SHNT_CMD then
    let k := R.SHNT_CMD_KIND.of v
    let i := R.SHNT_CMD_INDEX.of v
    match R.SHNT_CMD_OP.of v with
    | 1 => settle (execShuntCmd m k i s) s
    | 2 => settle (execShntReturn m k i s) s
    | 3 => settle (execMigrateCmd m k i (R.SHNT_CMD_TO.of v) s) s
    | _ => s.noOp m R.SHNT_CMD_STATUS
  else if slot = R.PROVE_CMD then
    match R.PROVE_CMD_OP.of v with
    | 1 => settle (execRunNow m s) s
    | 2 => settle (execProveStop m s) s
    | _ => s.noOp m R.PROVE_CMD_STATUS
  else if slot = R.DMA_DQ_PEND then settle (execDqPendClear m v s) s
  else if R.DMA_BASE_LO 0 ≤ slot ∧ slot ≤ R.DMA_MOD 7 ∧ slot = R.DMA_TAIL ((slot - R.DMA_BASE_LO 0) / 8) then
    settle (execDmaTailWrite m ((slot - R.DMA_BASE_LO 0) / 8) (R.DMA_TAIL_IDX 0 |>.of v) s) s
  else if R.DMA_BASE_LO 0 ≤ slot ∧ slot ≤ R.DMA_MOD 7 ∧ slot = R.DMA_CFG ((slot - R.DMA_BASE_LO 0) / 8) then
    settle (execDmaRingEnable m ((slot - R.DMA_BASE_LO 0) / 8) v s) s
  else s.plainWrite m slot v a

/-- Registers of the time part with rows of their own: VOTE, SEL, SRV, GNS, DUG, OUT. -/
def State.writeTimePart (s : State) (m : Master) (slot : Nat) (v : Word) (a : Arrival) : State :=
  if slot = R.VOTE_CMD then
    match R.VOTE_CMD_OP.of v with
    | 1 => settle (execRecover m (R.VOTE_CMD_DONOR.of v) s) s
    | 2 => settle (execVoteSet m s) s
    | 3 => settle (execCancelStep m s) s
    | _ => s.noOp m R.VOTE_CMD_STATUS
  else if slot = R.VOTE_CELL_CMD then
    match R.VOTE_CELL_CMD_OP.of v with
    | 1 => settle (execCellRestart m s) s
    | 2 => settle (execCellStop m s) s
    | _ => s.noOp m R.VOTE_CELL_CMD_STATUS
  else if slot = R.VOTE_STEP + 1 then settle (execHostStepSubmit m v s) s
  else if slot = R.VOTE_UTC then settle (execUtcOffsetWrite m v s) s
  else if slot = R.VOTE_LEAP_CTRL then settle (execLeapSchedule m v s) s
  else if slot = R.SEL_CMD then
    let k := R.SEL_CMD_SLOT.of v
    match R.SEL_CMD_OP.of v with
    | 1 => settle (execSelSwitch m k s) s
    | 2 => settle (execSelHoldover m s) s
    | 3 => settle (execSelRelease m s) s
    | 4 => settle (execSelClearWtr m k s) s
    | _ => s.noOp m R.SEL_CMD_STATUS
  else if slot = R.SEL_LOCKOUT then settle (execLockoutWrite m v s) s
  else if slot = R.SEL_PHASE_STEP + 1 then settle (execSteerSubmit m v s) s
  else if slot = R.SRV_FEED_CTRL then settle (execHostFeedMode m v s) s
  else if slot = R.SRV_OFFSET_FEED + 1 then settle (execHostOffsetSubmit m v a.tick s) s
  else if slot = R.GNS_CMD then
    match R.GNS_CMD_OP.of v with
    | 1 => settle (execColdStart m s) s
    | 2 => settle (execClearSuspect m s) s
    | 3 => settle (execResurvey m s) s
    | 4 => settle (execCodeOpen m s) s
    | 5 => settle (execCodeClose m s) s
    | _ => s.noOp m R.GNS_CMD_STATUS
  else if slot = R.GNS_CODE_DATA then settle (execCodeDataWrite m v s) s
  else if slot = R.DUG_CMD then
    match R.DUG_CMD_OP.of v with
    | 1 => settle (execHandover m (R.DUG_CMD_TO.of v) a.tick s) s
    | 2 => settle (execSleep m s) s
    | 3 => settle (execWake m s) s
    | _ => s.noOp m R.DUG_CMD_STATUS
  else if slot = R.OUT_REALIGN then settle (execOutRealign m (R.OUT_REALIGN_CLK.of v) (R.OUT_REALIGN_PULSE.of v) a.tick s) s
  else if corePage (slot / 512) ∧ s.hostUp m ∧ !s.pageDead (slot / 512) then s.perLive (fun t => t.plainWrite m slot v a)
  else s.plainWrite m slot v a

/-- Commands of the PLL, TIC and PRT pages. -/
def State.writeUnit (s : State) (m : Master) (slot : Nat) (v : Word) (a : Arrival) : State :=
  let page := slot / 512
  if P.PLL 0 ≤ page ∧ page ≤ P.PLL 3 ∧ slot = R.PLL_CMD (page - P.PLL 0) then
    let p := page - P.PLL 0
    if (R.PLL_CMD_OP p).of v = 1 then settle (execPllRelock m p s) s else s.noOp m (R.PLL_CMD_STATUS p)
  else if P.TIC 0 ≤ page ∧ page ≤ P.TIC 7 ∧ slot = R.TIC_CMD (page - P.TIC 0) then
    let t := page - P.TIC 0
    match (R.TIC_CMD_OP t).of v with
    | 1 => settle (execTicArm m t s) s
    | 2 => settle (execTicArmAt m t a.tick s) s
    | 3 => settle (execTicDisarm m t s) s
    | 4 => settle (execTicCalibrate m t s) s
    | _ => s.noOp m (R.TIC_CMD_STATUS t)
  else if P.PRT 0 ≤ page ∧ page ≤ P.PRT 23 ∧ slot = R.PRT_MODULE (page - P.PRT 0) then
    settle (execModuleRstWrite m (page - P.PRT 0) (decide ((R.PRT_MODULE_RST (page - P.PRT 0)).of v = 1)) s) s
  else if P.PRT 0 ≤ page ∧ page ≤ P.PRT 23 ∧ slot = R.PRT_I2C_CMD (page - P.PRT 0) then
    let p := page - P.PRT 0
    let len := (R.PRT_I2C_CMD_LEN p).of v
    let off := (R.PRT_I2C_CMD_OFFSET p).of v
    let dev := (R.PRT_I2C_CMD_DEV p).of v
    match (R.PRT_I2C_CMD_OP p).of v with
    | 1 => settle (execI2cRead m p len off dev s) s
    | 2 => settle (execI2cWrite m p len off dev s) s
    | 3 => settle (execRestartBus m p s) s
    | _ => s.noOp m (R.PRT_I2C_CMD_STATUS p)
  else s.plainWrite m slot v a

/-- A master's write of a register other than BOOT.CMD and BOOT.IMG_DATA. -/
def State.regWrite (s : State) (m : Master) (slot : Nat) (v : Word) (a : Arrival) : State :=
  let page := slot / 512
  if !slotDefined slot then s.plainWrite m slot v a
  else if page < P.TCORE 0 ∨ (P.GEN ≤ page ∧ page ≤ P.PROVE) ∨ page = P.DMA then s.writeLow m slot v a
  else if P.PLL 0 ≤ page ∧ page ≤ P.TIC 7 ∨ P.PRT 0 ≤ page ∧ page ≤ P.PRT 23 then s.writeUnit m slot v a
  else if P.SWF ≤ page ∧ page ≤ P.RATE then s.writeSwitchCmd m slot v a
  else if P.KEY ≤ page ∧ page ≤ P.LCY then s.writeVaultCmd m slot v a
  else s.writeTimePart m slot v a

end Sys2Proof.Machine
end

