-- ==== Sys2Proof/Machine/Image.lean ====
section
/-! DEFINITION.
The configuration image: banks, validation, choice of a bank, and its entries (R67 to R73).
-/
namespace Sys2Proof.Machine
open Sys2Proof

/-- The commit word of a record (R68). -/
abbrev commitWord : Word := BitVec.ofNat 36 0x96C3A5E21

/-- The words of a bank: 16 MiB in cells of eight bytes (R67). -/
abbrev bankWords : Nat := 2097152

/-- The words written in a bank, 1 A and 2 B. -/
def State.bank (s : State) (b : Nat) : List Word := if b = 1 then s.nvm.bankA else s.nvm.bankB

def State.putBank (s : State) (b : Nat) (ws : List Word) : State :=
  { s with nvm := if b = 1 then { s.nvm with bankA := ws } else { s.nvm with bankB := ws } }

/-! ## Records of a bank (R68 to R70) -/

/-- A record read from a bank: TYPE and payload. -/
structure ImgRec where
  type : Nat
  payload : List Word
  deriving DecidableEq, Repr

/-- The records from the words on, up to IMG_END, and the words before IMG_END; or the reason for which the bank is invalid: 2 uncommitted, 3 CRC, 4 structure
(R69, R72). -/
def bankWalk (fuel : Nat) (ws : List Word) : Nat ⊕ (List ImgRec × List Word) :=
  match fuel, ws with
  | 0, _ => .inl 2
  | _, [] => .inl 2
  | f + 1, h :: t =>
    let len := h.toNat % 2 ^ 24
    let body := (h :: t).take (len + 7)
    if h = erased ∨ body.length < len + 7 ∨ body.getD (len + 6) erased ≠ commitWord then .inl 2
    else if body.getD (len + 5) erased ≠ BitVec.ofNat 36 (crc32 (body.take (len + 5))) then .inl 3
    else if h.toNat / 2 ^ 24 % 16 ≠ 1 then .inl 4
    else
      let r : ImgRec := { type := h.toNat / 2 ^ 28, payload := (body.drop 5).take len }
      if r.type = 0x1F then .inr ([r], [])
      else match bankWalk f ((h :: t).drop (len + 7)) with
        | .inl why => .inl why
        | .inr (rs, pre) => .inr (r :: rs, body ++ pre)

/-- A number from words of 36 bits, most significant first. -/
def numOf (ws : List Word) : Nat := ws.foldl (fun n w => n * 2 ^ 36 + w.toNat) 0

/-- The entries of an IMG_REGS payload, and whether half an entry is left. -/
def imgEntries (ws : List Word) : List (Word × Word) × Bool :=
  match ws with
  | a :: b :: t => let r := imgEntries t; ((a, b) :: r.1, r.2)
  | [_] => ([], true)
  | [] => ([], false)

/-- Pages that no image entry may address (R71). -/
def imgPageBarred (page : Nat) : Bool := decide (page = P.BOOT ∨ page = P.KEY ∨ page = P.LCY ∨ page = P.ATT ∨ page = P.TMP)

/-- The slot holds an RW or RWS field. -/
def slotWritable (a : Nat) : Bool :=
  if a % 512 < 8 then pageDefined (a / 512) && decide (a % 512 = 2 ∨ a % 512 = 5)
  else match slotDef a with
    | some d => decide (d.rw ≠ 0 ∨ d.rws ≠ 0)
    | none => false

/-- An entry that is not illegal (R71). -/
def entryLegal (e : Word × Word) : Bool :=
  let op := e.1.toNat / 2 ^ 32
  let a := e.1.toNat % 2 ^ 23
  decide (op = 2) || (decide (op < 2) && slotWritable a && !imgPageBarred (a / 512))

/-- Every entry of an IMG_REGS payload is legal, and none is halved. -/
def regsLegal (ws : List Word) : Bool := let r := imgEntries ws; !r.2 && r.1.all entryLegal

/-- HEAD first, END last, nothing else between but IMG_REGS and IMG_CODE, the count and the digest match (R70, R72); `pre`: the words before IMG_END. -/
def imgShape (rs : List ImgRec) (pre : List Word) : Bool :=
  match rs with
  | h :: t =>
    let mid := t.dropLast
    let e := t.getLast?
    decide (h.type = 0x10 ∧ 7 ≤ h.payload.length) && mid.all (fun r => decide (r.type = 0x11 ∨ r.type = 0x12)) &&
      decide ((h.payload.getD 3 0).toNat = mid.length) &&
      (match e with
        | some x => decide (x.type = 0x1F ∧ x.payload.length = 11 ∧ numOf x.payload = Config.sha384 pre * 4096)
        | none => false)
  | [] => false

/-- Why a bank is invalid, 0 when it is valid, in the order of BOOT.IMG_STAT (R72); `lcs`: the life-cycle state. -/
def bankWhy (ws : List Word) (lcs : Nat) : Nat :=
  if ws.all (fun w => decide (w = erased)) then 1
  else match bankWalk (ws.length + 1) ws with
    | .inl why => why
    | .inr (rs, pre) =>
      let h := rs.head?.getD { type := 0, payload := [] }
      if !imgShape rs pre then 4
      else if h.payload.getD 1 0 ≠ BitVec.ofNat 36 (0x2436 * 2 ^ 20 + 1 * 2 ^ 16 + 1) then 5
      else if !bitOn (h.payload.getD 2 0).toNat lcs then 6
      else if !(rs.all (fun r => decide (r.type ≠ 0x11) || regsLegal r.payload)) then 7
      else 0

/-- The records of a bank. -/
def bankRecs (ws : List Word) : List ImgRec :=
  match bankWalk (ws.length + 1) ws with
  | .inl _ => []
  | .inr (rs, _) => rs

/-- IMAGE_SEQ of a valid bank. -/
def bankSeq (ws : List Word) : Nat :=
  match bankRecs ws with
  | h :: _ => (h.payload.getD 0 0).toNat
  | [] => 0

/-! ## BOOT.IMG_STAT (R72, R73, R78) -/

def whyFld (b : Nat) : Fld := if b = 1 then R.BOOT_IMG_STAT_A_WHY else R.BOOT_IMG_STAT_B_WHY
def validFld (b : Nat) : Fld := if b = 1 then R.BOOT_IMG_STAT_A_VALID else R.BOOT_IMG_STAT_B_VALID
def seqFld (b : Nat) : Fld := if b = 1 then R.BOOT_IMG_SEQ_A_W else R.BOOT_IMG_SEQ_B_W

/-- WHY, VALID and IMAGE_SEQ of a bank. -/
def State.showBank (s : State) (b why seq : Nat) : State :=
  ((s.set (whyFld b) why).setFlag (validFld b) (decide (why = 0))).set (seqFld b) (if why = 0 then seq else 0)

/-- The bank is validated and shown. -/
def State.validate (s : State) (b : Nat) : State := s.showBank b (bankWhy (s.bank b) s.lcs) (bankSeq (s.bank b))

/-- The bank chosen by BOOT.CTRL.PREF, 0 for none, and whether it is a fallback (R72). -/
def State.chooseBank (s : State) : Nat × Bool :=
  let a := s.flag R.BOOT_IMG_STAT_A_VALID
  let b := s.flag R.BOOT_IMG_STAT_B_VALID
  if !a && !b then (0, false)
  else match s.get R.BOOT_CTRL_PREF with
    | 1 => if a then (1, false) else (2, true)
    | 2 => if b then (2, false) else (1, true)
    | _ => (if a && (!b || decide (s.get R.BOOT_IMG_SEQ_B_W ≤ s.get R.BOOT_IMG_SEQ_A_W)) then 1 else 2, false)

/-- A bank is loaded: LOADED, FALLBACK and its event. -/
def State.loadBank (s : State) : State :=
  let c := s.chooseBank
  ((s.set R.BOOT_IMG_STAT_LOADED c.1).setFlag R.BOOT_IMG_STAT_FALLBACK c.2).raiseIf c.2 P.BOOT E.BOOT_BANK_FALLBACK

/-! ## Applying entries (R71) -/

/-- The pages `p` take the entries of the image, in order; writes go as those of the SPI target without window or staging of its own. -/
def State.applyEntries (s : State) (p : Nat → Bool) : State :=
  let keep := s.host.m2
  let es := (bankRecs (s.bank (s.get R.BOOT_IMG_STAT_LOADED))).flatMap (fun r => if r.type = 0x11 then (imgEntries r.payload).1 else [])
  let s := { s with boot := { s.boot with loading := true }, host := { s.host with m2 := .init } }
  let s := es.foldl (fun (t : State) (e : Word × Word) =>
    let a := e.1.toNat % 2 ^ 23
    if e.1.toNat / 2 ^ 32 < 2 && p (a / 512) then t.regWrite .spi a e.2 plainArrival else t) s
  { s with boot := { s.boot with loading := false }, host := { s.host with m2 := keep } }

/-- Code sections for the GNSS engine are loaded and measured (R70, R71). -/
def State.applyCode (s : State) : State :=
  (bankRecs (s.bank (s.get R.BOOT_IMG_STAT_LOADED))).foldl (fun (t : State) r =>
    if r.type = 0x12 ∧ r.payload.getD 0 0 = 1 then t.installCode ((r.payload.drop 1).take 524288) else t) s

end Sys2Proof.Machine
end

