-- ==== Sys2Proof/Machine/Commit.lean ====
section
/-! DEFINITION.
What the blocks do when a generation takes force: refused values, ports, outputs, candidates, gears, the antenna bias (R97, R272 to R293, R330, R347, R369).
-/
namespace Sys2Proof.Machine
open Sys2Proof

/-- A field refused at a commit keeps its previous value; on a page that reports it, CFG_ERR is raised. -/
def State.refuseFld (s : State) (old : Store) (f : Fld) (bad : Bool) (evt : Option Nat) : State :=
  if !bad then s
  else
    let s := s.set f (f.of (old.read f.slot))
    match evt with
    | some e => s.raise (f.slot / 512) e
    | none => s

/-- LEAD_MIN of a coach, from the generation in force, rounded up to 100 ns (R330). -/
def State.leadMin (s : State) (c : Nat) : Nat :=
  let cycle := match s.get (R.CO_GEAR_CTRL_MIN c) with
    | 0 => 32
    | 1 => 16
    | _ => 8
  let ns10 := 64 * cycle + 10 * s.getOr (R.CO_SIGN_QMAX_NS c) 250 4000 1000 + 6000 + 10 * s.getOr (R.CO_SEAL_SETUP_NS c) 200 2000 400
  (ns10 + 999) / 1000 * 100

/-- The CO registers of a coach at a commit (R287, R330, R347). -/
def State.commitCoach (s : State) (old : Store) (c : Nat) : State :=
  let bad := decide (s.get (R.CO_GEAR_CTRL_MAX c) < s.get (R.CO_GEAR_CTRL_MIN c))
  let s := s.refuseFld old (R.CO_GEAR_CTRL_MIN c) bad (some E.CO_CFG_ERR)
  let s := s.refuseFld old (R.CO_GEAR_CTRL_MAX c) (decide (s.get (R.CO_GEAR_CTRL_MAX c) < s.get (R.CO_GEAR_CTRL_MIN c))) none
  let s := (List.range 4).foldl (fun (t : State) i =>
    let t := t.refuseFld old (R.CO_MC_CFG_TRANSPORT c i) (decide (t.get (R.CO_MC_CFG_TRANSPORT c i) = 3)) (some E.CO_CFG_ERR)
    t.refuseFld old (R.CO_UP_CFG_TRANSPORT c i) (decide (4 < t.get (R.CO_UP_CFG_TRANSPORT c i))) (some E.CO_CFG_ERR)) s
  (s.clampGear c).set (R.CO_LEAD_MIN_NS c) (s.leadMin c)

/-- A policy register with LOG_MIN above LOG_MAX or DUR_MIN above DUR_MAX keeps its previous value (R369). -/
def State.commitPolicy (s : State) (old : Store) (a : Nat) (logMin logMax durMin durMax : Fld) : State :=
  if s.getS logMax < s.getS logMin ∨ s.get durMax < s.get durMin then s.wr a (old.read a) else s

/-- The CLT policies at a commit. -/
def State.commitPolicies (s : State) (old : Store) : State :=
  let s := s.commitPolicy old R.CLT_POL_ANN R.CLT_POL_ANN_LOG_MIN R.CLT_POL_ANN_LOG_MAX R.CLT_POL_ANN_DUR_MIN R.CLT_POL_ANN_DUR_MAX
  let s := s.commitPolicy old R.CLT_POL_SYNC R.CLT_POL_SYNC_LOG_MIN R.CLT_POL_SYNC_LOG_MAX R.CLT_POL_SYNC_DUR_MIN R.CLT_POL_SYNC_DUR_MAX
  s.commitPolicy old R.CLT_POL_DRESP R.CLT_POL_DRESP_LOG_MIN R.CLT_POL_DRESP_LOG_MAX R.CLT_POL_DRESP_DUR_MIN R.CLT_POL_DRESP_DUR_MAX

/-- A port at a commit (R275, R279, R282, R283, R293); `cuts`: frames in transmission, by port. -/
def State.commitPort (s : State) (old : Store) (cuts : List (Nat × TxRef)) (p : Nat) : State :=
  let n := s.get (R.PRT_FRAME_MAX_BYTES p)
  let s := s.refuseFld old (R.PRT_FRAME_MAX_BYTES p) (decide (n < 64 ∨ 9728 < n)) (some E.PRT_CFG_ERR)
  s.portCommit { s with regs := old } p ((cuts.filter (fun e => decide (e.1 = p))).map (·.2))

/-- The coaches and their ports at a commit. -/
def State.commitCoaches (s : State) (old : Store) (cuts : List (Nat × TxRef)) (mask : Nat) : State :=
  (List.range 6).foldl (fun (t : State) c =>
    if !t.up (8 + c) ∨ !bitOn mask (8 + c) then t
    else (List.range 4).foldl (fun (u : State) i => u.commitPort old cuts (4 * c + i)) (t.commitCoach old c)) s

/-- Every block of the islands in the mask that runs takes the values that have come into force; `old` holds the values before. -/
def State.commitBlocks (s : State) (old : Store) (cuts : List (Nat × TxRef)) (mask : Nat) : State :=
  let on (t : State) (i : Nat) : Bool := t.up i && bitOn mask i
  let s := s.commitCoaches old cuts mask
  let s := if on s islSW then s.commitPolicies old else s
  let s := if on s islRH then ((s.commitCands old).commitOutputs old).commitDug old else s
  if on s islGN then s.commitGns else s

/-- APPLIED_REPORT (R407 to R409): a participant in which the set has taken force reports APPLIED; a fenced coach or engine on its return path reports it once MGT has written the committed
values. -/
def execAppliedReport (island : Nat) (s : State) : Host.Outcome State Fault Refusal :=
  withUnit island 16 (
    if s.islandDead island ∨ !s.up islMGT then s
    else if bitOn (s.get R.GEN_FENCED_ISLANDS) island then
      if !bitOn s.gen.returned island ∨ (kvGet s.gen.late island).isSome then s
      else
        let src := kvGetD s.gen.keep island []
        let old := s.regs
        let kept := (kvGet s.gen.keep island).isSome
        let regs := if kept then mergeRws s.regs src (fun p => (pageIslands p).contains island) else s.regs
        let s := { s with regs := regs, gen := { s.gen with keep := kvDel s.gen.keep island, late := kvPut s.gen.late island s.ax.marks } }
        if kept then s.commitBlocks old [] (2 ^ island) else s
    else if s.genState ≠ 4 ∨ !bitOn s.gen.parts island ∨ (kvGet s.gen.keep island).isSome then s
    else
      let s := { s with gen := { s.gen with applied := setBit s.gen.applied island true } }
      if s.toApply.all (fun i => bitOn s.gen.applied i) then s.endApply else s)

end Sys2Proof.Machine
end

