-- ==== Sys2Proof/Machine/Marks.lean ====
section
/-! DEFINITION.
The AXMARK: the tick at which the scale passes a whole millisecond, and everything that takes effect at it (R19 to R23, R119 to R128, R64, R440).
-/
namespace Sys2Proof.Machine
open Sys2Proof

/-! ## The scale and the local counters (R20, R119 to R121) -/

/-- A counter at the first AXMARK: it reads 0. -/
def AxCtr.zero (c : AxCtr) : AxCtr :=
  { c with base := 0, baseTick := 0, inc := c.incNext, nextTick := 6250, latch := 0, step := 0, load := false, loadNow := false, last := false,
           start := 0, prevSig := c.sig }

/-- What the announced load or steps add to the scale at a mark whose scale reads `raw` before them. -/
def State.jumpAt (s : State) (raw : Int) : Int :=
  match s.ax.annLoad with
  | some (_, true, v) => v - raw
  | some (_, false, d) => d * s72U
  | none => s.announced

/-- The scale and every local counter at a mark `tick` ticks after the one before; OCXO time moves by 6.4 ns a tick.  A second mark is one at or past a whole
second (R119). -/
def State.moveScale (s : State) (tick : Nat) : State :=
  if !s.ax.started then
    { s with ax := { s.ax with started := true, mark := 0, secMark := true, marks := 0, v := s.ax.v.zero, ctrs := s.ax.ctrs.map (fun (p : Nat × AxCtr) => (p.1, p.2.zero)) } }
  else
    let raw := s.ax.v.at_ tick
    let jump := s.jumpAt raw
    let new := raw + jump
    { s with ax := { s.ax with mark := new, marks := s.ax.marks + 1, secMark := decide (s.ax.mark / secU < new / secU) || decide (new % secU < incNominal),
                               ocxo := s.ax.ocxo + quot ((tick : Int) * 64 * nsU) 10, v := { s.ax.v with step := jump, load := false }.mark tick,
                               ctrs := s.ax.ctrs.map (fun (p : Nat × AxCtr) => (p.1, p.2.mark tick)) } }

/-- The announced steps have been applied (R123, R126): the sum in VOTE.STEP_LAST, STEP_DONE, and a record for each with its source. -/
def State.stepsDone (s : State) : State :=
  let l := s.ax.annSteps
  let d := l.foldl (fun z q => z + q.amount) 0
  let s := { s with ax := { s.ax with annSteps := [], stepTotal := s.ax.stepTotal + d }, dug := { s.dug with epoch := s.dug.epoch + 1 } }
  let s := ((s.candStep d).perCore (fun t => t.srvStep d)).outStep d
  let s := ((s.ticMark d).tebShift (d * s72U)).wrS R.VOTE_STEP_LAST d
  let s := l.foldl (fun (t : State) q =>
    let t := if q.source = 1 then t.tebHostStep q.amount else t
    t.trig islVOTE 0x21 (q.source :: s72Words q.amount)) s
  s.raise P.VOTE E.VOTE_STEP_DONE

/-- The announced load has been applied and has moved the scale by `jump` (R121, R122); the record names a load, or Dugil for one of the holder's (R466). -/
def State.loadDone (s : State) (src : Nat) (jump : Int) : State :=
  let d := quot jump s72U.toNat
  let s := { s with ax := { s.ax with annLoad := none, annSteps := [], loads := s.ax.loads + 1 }, dug := { s.dug with epoch := s.dug.epoch + 1 } }
  let s := (s.candLoad.perCore (fun t => t.srvLoad jump)).outStep d
  let s := ((s.ticMark d).tebShift jump).setFlag R.VOTE_STATUS_TS_SET true
  let s := (s.raise P.VOTE E.VOTE_TS_SET).trig islVOTE 0x21 ((if src = 3 then 3 else 2) :: s72Words d)
  if src = 2 then s.tebHostLoad.set R.VOTE_CMD_STATUS 2 else s

/-- What the change of phase that takes effect at the mark does; `jump`: by how much the scale has moved. -/
def State.phaseDone (s : State) (jump : Int) : State :=
  match s.ax.annLoad with
  | some (src, _, _) => s.loadDone src jump
  | none => if s.ax.annSteps = [] then s.ticMark 0 else s.stepsDone

/-! ## Islands that return at a mark (R64, R440) -/

/-- The multicast entries of a coach's port k are placed on its lane k. -/
def State.placeMc (s : State) (c : Nat) : State :=
  (List.range 4).foldl (fun (t : State) i => t.set (mcFld (4 * c + i)) (t.placeOf (4 * c + i))) s

/-- The newest SEQ in the ring: the one whose successor the ring does not hold (R464, R65). -/
def State.ringHead (s : State) : Nat :=
  let l := s.erec.ring.map (fun (e : Nat × List Word) => recSeq e.2)
  (l.find? (fun n => !l.contains (nextSeq n))).getD 0

/-- Islands enter reset, MGT's recorder among them (R62 to R65). -/
def State.resetAll (s : State) (mask : Nat) : State := if bitOn mask islMGT then (s.resetIslands mask).resetRecorder mask else s.resetIslands mask

/-- Islands held by a fabric service reset or SLEEP are released and take the entries of the image loaded at the last start (R64 step 4, R440). -/
def State.reconfigure (s : State) (mask : Nat) : State :=
  let s := s.releaseIslands mask
  let s := if bitOn mask islMGT then s.startRecorder s.ringHead true else s
  let s := if bitOn mask islSW then s.set R.DRM_STATUS_TRAINED 1 else s
  let s := s.applyEntries (fun p => (pageIslands p).any (fun i => bitOn mask i))
  if bitOn mask islGN then s.applyCode else s

/-- The engine starts where its page is enabled (R239, R254). -/
def State.gnsGo (s : State) : State := if s.flag (R.PG_CTRL_EN P.GNS) then s.engineStart else s

/-- The commit of step 4 of R64: the generation in force plus one; islands that were not reset keep their values. -/
def State.reconfCommit (s : State) (cuts : List (Nat × TxRef)) : State :=
  let mask := s.gen.reconf
  let s := s.reconfigure mask
  let old := s.regs
  let src := mergeRws s.regs s.shadow (fun p => (pageIslands p).any (fun i => bitOn mask i))
  let s := (s.commitSet src s.genNextNum 0).commitBlocks old cuts mask
  let s := (List.range 6).foldl (fun (t : State) c => if bitOn mask (8 + c) then (t.placeMc c).showServing c else t) s
  let s := if bitOn mask islGN then (((s.gnsGo).searchAll .warm).setRole 6).set R.DUG_CMD_STATUS 2 else s
  { s with gen := { s.gen with reconf := 0 } }

/-- Generations at a mark: the announced set takes force, or islands that wait to be reconfigured return (R97, R407, R64). -/
def State.genMark (s : State) (cuts : List (Nat × TxRef)) (ready : Bool) : State :=
  let old := s.regs
  let r := s.applyGen cuts
  let s := if r.2 then r.1.commitBlocks old cuts 0xFFFF else r.1
  if s.gen.reconf ≠ 0 ∧ ready ∧ s.genState = 0 then s.reconfCommit cuts else s

/-! ## The subframes (R19 to R21) -/

/-- Subframe 0 reaches an island: what it announces is taken, and a coach hears of a step or load (R19, R126). -/
def State.hearSub0 (s : State) (island : Nat) (r : AxleRegs) (f : List Nat) : State :=
  let s := s.axleSub0 island r f
  if 8 ≤ island ∧ island ≤ 13 then s.stepMissed (island - 8) else s

/-- AXLE_SUBFRAME (R20, R21, R121): the increment that waited takes effect, the subframe arrives with the bits of `err` inverted, its CRC is checked, and its
content is taken; a coach that hears of a step or load discards the departures promised past it (R126). -/
def execAxleSubframe (island k err : Nat) (s : State) : Host.Outcome State Fault Refusal :=
  withUnit island 16 (
    match axleRegs island with
    | none => s
    | some r =>
      if !s.ax.running || !s.up island || !s.subStarts k then s
      else
        let s := if k = 0 then s else s.putCtr island ((s.ctrOf island).turn (6250 * k) (!s.subStarts (k + 1)))
        match readSub k (flipBits err (s.subBits k)) with
        | none => s.axleLost island k r
        | some f => if k = 0 then s.hearSub0 island r f else s.putCtr island { s.ctrOf island with incNext := f.getD 0 0 })

/-! ## The mark -/

/-- The selector at a mark; when a COMMIT applies its step, the estimator and the bound take it (R149, R182, R260). -/
def State.selectorMark (s : State) : State :=
  let was := decide (s.selSt = 4)
  let freq := s.candFreq s.target
  let s := s.selMark
  if was ∧ s.selSt ≠ 3 ∧ s.selSt ≠ 4 then (s.perCore State.holdCommit).tebCommit freq else s

/-- What the axle announces at the mark for the next one (R19, R121, R127). -/
def State.announceAll (s : State) : State :=
  let s := s.announce.leapWarn.leapFlag
  let next := s.nextMark
  { s with ax := { s.ax with genNext := if s.genState = 3 ∧ s.gen.at_ ≤ next then some (s.get R.GEN_NEXT_GEN) else none } }

/-- What follows the mark once a second. -/
def State.secondMark (s : State) : State := if s.ax.secMark then (s.perCore State.holdSecond).tebHold s.ax.mark else s

/-- The bound at the mark; a run of the proving schedule ends when TIME_VALID falls (R263 to R267, R418). -/
def State.boundMark (s pre : State) : State :=
  let t := s.secondMark.tebMark pre
  if pre.boot.timeValid && !t.boot.timeValid then t.proveAbort else t

/-- Everything due at the mark once the scale stands. -/
def State.atMark (s pre : State) (jump : Int) (cuts : List (Nat × TxRef)) (ready : Bool) : State :=
  let s := (s.phaseDone jump).genMark cuts ready
  let s := (s.utcMark.leapMark (decide (jump ≠ 0))).triadMark
  let s := s.selectorMark.shuntMark.proveMark
  let s := s.announceAll.slewClks.endClks
  let s := s.gnsMark.keyMark.sweepMissed
  (s.showReady.boundMark pre).lateEnables

/-- AXMARK (R19 to R23, R119, R120): the voted scale passes the next whole millisecond at the given tick; the first mark reads 0 s. -/
def execAxmark (tick : Nat) (cuts : List (Nat × TxRef)) (ready : Bool) (s : State) : Host.Outcome State Fault Refusal :=
  .next (
    if !s.ax.running then s
    else if s.ax.started && decide (tick ≠ s.ax.v.reach (nextMs s.ax.mark)) then s
    else
      let raw := s.ax.v.at_ tick
      let jump := if s.ax.started then s.jumpAt raw else 0
      let t := s.moveScale tick
      (if s.ax.ocxo / secU < t.ax.ocxo / secU then t.logEfc else t).atMark (s.tebShow raw) jump cuts ready)

end Sys2Proof.Machine
end

