-- ==== Sys2Proof/Machine/Boot.lean ====
section
/-! DEFINITION.
The staged start: from VIN good to ROLLING, and the entries to TIMED and STEADY (R54 to R61, R72, R77).
-/
namespace Sys2Proof.Machine
open Sys2Proof

/-! ## Stages (R54, R55, R79) -/

/-- A STAGE record, of a change of BOOT.STAGE.STAGE or FABRIC_DOWN since `old` (R466). -/
def State.stageRec (s old : State) : State := s.trig islAO 0x02 [(old.rd R.BOOT_STAGE).toNat, (s.rd R.BOOT_STAGE).toNat]

/-- A stage after HITCHED is entered: event STAGE and its record. -/
def State.enterStage (s : State) (n : Nat) : State := ((s.set R.BOOT_STAGE_STAGE n).raise P.BOOT E.BOOT_STAGE).stageRec s

/-- The start sequence stands at a new position. -/
def State.goto (s : State) (p : StartPos) : State := { s with boot := { s.boot with pos := p } }

/-! ## AO's own start (R56) -/

/-- The newest committed life-cycle record. -/
def State.lcyNewest (s : State) : Option NvRec := s.newest .lifeCycle [0x01]

/-- AO takes its retained settings from the newest committed LCY record (R374). -/
def State.retained (s : State) : State :=
  match s.lcyNewest with
  | some r => s.wr R.TMP_POLICY (r.payload.getD 2 0)
  | none => s

/-- AO leaves power-on reset with VIN at `mv` millivolts. -/
def State.aoStart (s : State) (mv : Nat) : State :=
  let s := { s with boot := { s.boot with pos := .ao, pins := .inReset, pf := .none, holdAtReset := false } }
  (((s.set R.PWR_VIN_MV mv).set R.BOOT_CAUSE_POR 1).showWear).retained

/-- VIN_GOOD (R56, R62): VIN rises through 10.5 V. -/
def execVinGood (mv : Nat) (s : State) : Host.Outcome State Fault Refusal :=
  .next (if s.boot.pos = .off ∧ 10500 ≤ mv then s.aoStart mv else s)

/-- HOLDUP_READY (R56, R76). -/
def execHoldupReady (s : State) : Host.Outcome State Fault Refusal :=
  .next (if s.boot.pos ≠ .off ∧ s.boot.pf = .none then s.set R.PWR_STAT_HOLDUP_RDY 1 else s)

/-! ## HITCHED (R54, R56) -/

/-- KV reads the life-cycle record; a change whose record names a state beyond the fuses is completed (R374). -/
def State.lcyLoad (s : State) : State :=
  match s.lcyNewest with
  | none => s.showLcy.showPub
  | some r =>
    let w (i : Nat) : Nat := (r.payload.getD i 0).toNat
    let mode := w 1 % 4
    let slot := w 1 / 2 ^ 8 % 256
    let s := { s with key := { s.key with attMode := mode, attSlot := slot } }
    if s.lcs < w 0 % 8 then s.lcyApply (w 0 % 8) mode slot else s.showLcy.showPub

/-- HITCHED_ENTRY (R54, R56): once the hold-up store is charged and with RESET_N high, MGT and KV are released. -/
def execHitchedEntry (s : State) : Host.Outcome State Fault Refusal :=
  .next (
    if s.boot.pos ≠ .ao ∨ s.boot.resetLow ∨ s.boot.pf = .down ∨ s.get R.PWR_STAT_HOLDUP_RDY = 0 then s
    else
      let s := s.releaseIslands (2 ^ islMGT + 2 ^ islKV)
      let s := { s with boot := { s.boot with pos := .hitched, pins := .hitched } }
      ((s.lcyLoad.startRecorder s.ringHead false).tamperDisable.thermPin).refreshFaults)

/-! ## NVM scan, keys, banks (R72, R77, R386) -/

/-- The records of every area. -/
def State.allRecs (s : State) : List NvRec :=
  s.nvm.journal.recs ++ s.nvm.keyStore.recs ++ s.nvm.lifeCycle.recs ++ s.nvm.startSave.recs ++ s.nvm.holdover.recs

/-- What the latest of START, PF_SAVE and RIDE says of the last loss of power (R77). -/
def State.scanSave (s : State) : State :=
  match s.newest .startSave [0x31, 0x32, 0x33] with
  | none => s
  | some r =>
    if r.type = 0x31 then
      let w (i : Nat) : Word := r.payload.getD i 0
      (((s.set R.BOOT_CAUSE_PFAIL_SAVED 1).wr R.BOOT_PF_T (w 0)).wr (R.BOOT_PF_T + 1) (w 1)).wr (R.BOOT_PF_T + 2) (w 2)
    else if s.flag R.BOOT_CAUSE_POR then (s.set R.BOOT_CAUSE_UNSAVED 1).raise P.BOOT E.BOOT_UNSAVED
    else s

/-- Words of an area's records that cannot be corrected on reading make their records fail the CRC (R81). -/
def NvRing.spoil (r : NvRing) (bad : List Nat) : NvRing :=
  { r with recs := r.recs.zipIdx.map (fun p => if bad.contains p.2 ∧ p.1.state = .committed then { p.1 with state := .corrupt } else p.1) }

/-- A bank whose words `bad` cannot be corrected on reading; which bits are wrong the spec does not say: the lowest (DESIGN CHOICE, log entry 10). -/
def spoilBank (b : List Word) (bad : List Nat) : List Word := b.zipIdx.map (fun p => if bad.contains p.2 then p.1 ^^^ 1 else p.1)

/-- The word errors that a scan meets: corrected ones, and for each area, then banks A and B, the records or words that cannot be corrected (R81). -/
def State.scanReads (s : State) (corr : Nat) (bad : List (Nat × Nat)) : State :=
  let of_ (k : Nat) : List Nat := (bad.filter (fun p => decide (p.1 = k))).map (·.2)
  let s := (List.range 5).foldl (fun (t : State) k => t.putRing (areaOf k) ((t.ringOf (areaOf k)).spoil (of_ k))) s
  let s := { s with nvm := { s.nvm with bankA := spoilBank s.nvm.bankA (of_ 5), bankB := spoilBank s.nvm.bankB (of_ 6) } }
  let s := (s.bumpBy R.NVM_ECC_CORR_COUNT corr).bumpBy R.NVM_ECC_UNCORR_COUNT bad.length
  s.raiseIf (decide (bad ≠ [])) P.NVM E.NVM_ECC_UNCORR

/-- How a bank's records end: 0 whole or erased, 2 with an uncommitted record, 3 with a corrupt one (R69, R77). -/
def bankEnd (ws : List Word) : Nat :=
  if ws.all (fun w => decide (w = erased)) then 0
  else match bankWalk (ws.length + 1) ws with
    | .inl why => why
    | .inr _ => 0

/-- NVM_SCAN (R69, R77, R81): records without a commit word and corrupt ones are counted, those of the banks among them; a corrupt one raises line 22. -/
def execNvmScan (corr : Nat) (errs : List (Nat × Nat)) (s : State) : Host.Outcome State Fault Refusal :=
  .next (
    if s.boot.pos ≠ .hitched then s
    else
      let s := s.scanReads corr errs
      let ends := [bankEnd s.nvm.bankA, bankEnd s.nvm.bankB]
      let cut := (s.allRecs.filter (fun r => decide (r.state = .uncommitted))).length + ends.count 2
      let bad := (s.allRecs.filter (fun r => decide (r.state = .corrupt))).length + ends.count 3
      let s := (s.set R.BOOT_NVM_SCAN_UNCOMMITTED (min 255 cut)).set R.BOOT_NVM_SCAN_CORRUPT (min 255 bad)
      let s := if bad = 0 then s else (s.raise P.BOOT E.BOOT_NVM_CORRUPT).pulse 22
      s.scanSave.goto .scanned)

/-- KEY_LOAD (R386, R393): the key slots load, unless an alarm is latched or present. -/
def execKeyLoad (s : State) : Host.Outcome State Fault Refusal :=
  .next (
    if s.boot.pos ≠ .scanned then s
    else if s.rd R.TMP_LATCH ≠ 0 ∨ s.get R.TMP_NOW_SENSOR ≠ 0 then ((s.set R.KEY_STATUS_SUPPRESSED 1).set R.BOOT_CAUSE_KEYS_SUPPRESSED 1).goto .keys
    else s.keyLoadAll.goto .keys)

/-- BANK_SELECT (R59, R72): both banks are validated and one is chosen, or the start holds in HITCHED. -/
def execBankSelect (s : State) : Host.Outcome State Fault Refusal :=
  .next (
    if s.boot.pos ≠ .keys then s
    else
      let s := (s.validate 1).validate 2
      if s.chooseBank.1 = 0 then ((s.set R.BOOT_STAGE_HOLD_WHY 1).raise P.BOOT E.BOOT_NO_IMAGE).goto .held
      else if s.boot.holdAtReset then (s.set R.BOOT_STAGE_HOLD_WHY 3).goto .held
      else (s.loadBank.goto .chosen).jtagHold)

/-- BOOT_LOAD (R59): a hold without image or by the host ends when a valid bank exists. -/
def execBootLoad (m : Master) (s : State) : Host.Outcome State Fault Refusal :=
  .next (s.hostCmd m R.BOOT_CMD_STATUS fun s =>
    if s.boot.pos ≠ .held then s.set R.BOOT_CMD_STATUS 3
    else if s.chooseBank.1 = 0 then s.set R.BOOT_CMD_STATUS 6
    else ((((s.set R.BOOT_CMD_STATUS 2).set R.BOOT_STAGE_HOLD_WHY 0).loadBank).goto .chosen).jtagHold)

/-! ## To ROLLING (R56) -/

/-- The islands that BANK_SELECT leaves in reset: the cores, VOTE, RH, GN, the coaches and SW. -/
abbrev startMask : Nat := 0x7FFC

/-- ISLAND_RELEASE (R56): DRAM is trained, the remaining islands run, the axle clock is locked. -/
def execIslandRelease (s : State) : Host.Outcome State Fault Refusal :=
  .next (
    if s.boot.pos ≠ .chosen ∨ s.tapInForce then s
    else
      let s := s.releaseIslands startMask
      let s := { s with ax := { s.ax with running := true } }
      let s := (List.range 4).foldl (fun (t : State) p => t.set (R.PLL_STATUS_REF_OK p) 1) (s.set R.DRM_STATUS_TRAINED 1)
      let s := if s.osc.warm then (s.set R.VOTE_OSC_STAT_OCXO_WARM 1).level P.VOTE E.VOTE_OCXO_WARM true else s
      s.holdRestore.goto .released)

/-- A calibration that gives no result. -/
abbrev noCal : CalResult := { n := 0, np := [], ck := [], topTap := true }

/-- The interval counters and stamp pairs calibrate at start: two results for each counter, then two for each pair (R224 to R228). -/
def State.startCals (s : State) (cals : List CalResult) (temp : Int) : State :=
  let r (i : Nat) : CalResult := cals.getD i noCal
  let s := (List.range 8).foldl (fun (t : State) k =>
    let t := t.ticCalTake k (r (2 * k)) (r (2 * k + 1)) temp
    if (t.ticOf k).start.uncal || (t.ticOf k).stop.uncal then t.set (R.TIC_STATUS_STATE k) 5 else t) s
  (List.range pairCount).foldl (fun (t : State) p => t.pairStart p (r (16 + 2 * p)) (r (17 + 2 * p)) temp) s

/-- IMAGE_APPLY (R56, R71, R239). -/
def execImageApply (cals : List CalResult) (temp : Int) (s : State) : Host.Outcome State Fault Refusal :=
  .next (
    if s.boot.pos ≠ .released ∨ s.tapInForce then s
    else (((s.applyEntries (fun _ => true)).applyCode.gnsGo).startCals cals temp).goto .applied)

/-- ROLLING_ENTRY (R56, R54): generation 1 commits at an AXMARK; the brake of a reset ends (R453); `us`: microseconds since VIN good. -/
def execRollingEntry (us : Nat) (s : State) : Host.Outcome State Fault Refusal :=
  .next (
    if s.boot.pos ≠ .applied ∨ s.tapInForce ∨ !s.ax.started then s
    else
      let s := { s with boot := { s.boot with pos := .rolling, pins := .driven, dugOn := true }, flt := { s.flt with brake := .off }, out := { s.out with synthOk := true } }
      let s := (s.enterStage 2).set R.BOOT_T_ROLLING_W (min us (2 ^ 36 - 1))
      let old := s.regs
      let s := (s.commitSet (mergeRws s.regs s.shadow (fun _ => true)) 1 0).commitBlocks old [] 0xFFFF
      let s := (List.range 6).foldl (fun (t : State) c => t.placeMc c) s
      ((s.cellMove 0 1).nvPut .startSave 0x32 []).refreshFaults.showServings)

/-! ## TIMED and STEADY (R54, R60, R435) -/

/-- The TIMED condition: a time candidate committed, the scale set, the servo LOCKED and a voted triad or pair; a follower's servo LOCKED, its triad not FAILED and its
holder TIMED (R132, R435). -/
def State.timedOk (s : State) : Bool :=
  if s.flag R.DUG_STATUS_FOLLOW then
    decide (s.srvSt = 2 ∧ s.mode ≠ 3) && (match s.feedLink with
      | some n => bitOn (s.get (R.DUG_PEER_STAT_FLAGS n)) 1
      | none => false)
  else s.timeCommitted && s.flag R.VOTE_STATUS_TS_SET && decide (s.srvSt = 2) && decide (s.mode = 1 ∨ s.mode = 2)

/-- TIMED_ENTRY (R54, R60, R435): at an AXMARK; TIME_VALID rises if the bound is within the limit. -/
def execTimedEntry (s : State) : Host.Outcome State Fault Refusal :=
  .next (
    if s.ax.started ∧ s.get R.BOOT_STAGE_STAGE = 2 ∧ s.timedOk then
      (((s.enterStage 3).wrT R.BOOT_TIMED_AT (toT108 s.ax.mark)).judgeValid (s.get R.TEB_LIMIT_PS) (s.get R.TEB_HYST_PS)).showClass.showReady
    else s)

/-- STEADY_ENTRY (R54): at an AXMARK with the OCXO warm, the cell locked and the learning complete. -/
def execSteadyEntry (s : State) : Host.Outcome State Fault Refusal :=
  .next (
    if s.ax.started ∧ s.get R.BOOT_STAGE_STAGE = 3 ∧ s.flag R.VOTE_OSC_STAT_OCXO_WARM ∧ s.flag R.VOTE_OSC_STAT_CELL_LOCK ∧ s.get R.HOLD_STATUS_LEARN = 2 then
      (s.enterStage 4).wrT R.BOOT_STEADY_AT (toT108 s.ax.mark)
    else s)

end Sys2Proof.Machine
end

