-- ==== Sys2Proof/Machine/Power.lean ====
section
/-! DEFINITION.
RESET_N, the power-fail sequence, and the fabric service reset (R62 to R65, R74 to R76, R511).
-/
namespace Sys2Proof.Machine
open Sys2Proof

/-! ## RESET_N (R62, R63) -/

/-- The AO slots that a RESET_N reset keeps: those that R62 names, and what AO goes on measuring (log entry 34). -/
def aoKept : List Nat :=
  [R.FLT_LATCH, R.FLT_NOW, R.FLT_FIRST, R.FLT_FIRST_MID, R.FLT_FIRST_LOW, R.FLT_MERGED, R.FLT_BRAKES, R.FLT_WDOG_CFG, R.BOOT_CAUSE, R.BOOT_CTRL,
   R.TMP_LATCH, R.TMP_NOW, R.TMP_ALARMS, R.PWR_STAT, R.PWR_VIN, R.PWR_RIDE_COUNT, R.PWR_RIDE_MIN, R.NVM_STATUS, R.NVM_RECORDS, R.NVM_ERASES,
   R.NVM_WRITE_FAIL, R.NVM_ECC_CORR, R.NVM_ECC_UNCORR, R.NVM_MAX_ERASE, R.THM_STATUS, R.THM_TJ, R.THM_TJ_PEAK, R.THM_HOURS_HOT, R.AO_STATUS, R.AO_OSC_DEV,
   R.AO_ISLCLK_FAIL, R.AO_ISLCLK_FREQ, R.AO_PARITY_ERR, R.AO_ISLCLK_EVENTS]

/-- The pages of AO. -/
def aoPages : List Nat := pageDir.flatMap (fun r => ((List.range r.count).map (r.first + ·)).filter (fun p => decide (pageIslands p = [islAO])))

/-- The AO pages at a RESET_N reset: what is not kept returns to reset values; an event latch stays set only while its condition holds. -/
def State.aoReset (s : State) : State :=
  let t := { s with regs := s.regs.resetPages (fun p => aoPages.contains p) }
  let t := aoKept.foldl (fun (u : State) a => u.wr a (s.rd a)) t
  aoPages.foldl (fun (u : State) p => (u.wr (R.PG_EVT_NOW p) (s.rd (R.PG_EVT_NOW p))).wr (R.PG_EVT p) (s.rd (R.PG_EVT_NOW p))) t

/-- What AO keeps beside its registers at a RESET_N reset. -/
def State.aoParts (s : State) : State :=
  { s with boot := { s.boot with pos := .ao, pins := .inReset, resetLow := true, pcieReady := false, session := 0, heldBack := none, txOn := 0, dugOn := false,
                                 portRst := 0, rstNext := 0, antBias := 0, loading := false, holdAtReset := s.flag R.BOOT_CTRL_HOLD },
           gns := .init,
           flt := { s.flt with forcedFatal := s.flt.forcedFatal &&& 2 ^ 25, brake := .resetN, swStopped := false, releaseAsked := false, inj := none } }

/-- A RESET_N reset: the journal takes the unflushed records, the brake acts, and every island but AO enters reset. -/
def State.resetN (s : State) : State :=
  let s := if s.nvm.saving.isSome then s else s.flushRecords
  let s := (((s.brakeOn .resetN).resetAll 0xFFFE).aoReset).aoParts
  let s := ((s.set R.BOOT_CAUSE_POR 0).set R.BOOT_CAUSE_RESET_N 1).set R.BOOT_CAUSE_FABRIC 0
  (((s.set R.BOOT_CAUSE_KEYS_SUPPRESSED 0).lineOff 34 1).retained).refreshFaults

/-- RESET_N_ASSERT (R63): RESET_N has been low for 32 samples.  Before HITCHED it only holds the start (R56; log entry 34). -/
def execResetNAssert (s : State) : Host.Outcome State Fault Refusal :=
  .next (
    if s.boot.resetLow then s
    else if s.boot.pos = .off ∨ s.boot.pos = .ao then { s with boot := { s.boot with resetLow := true } }
    else s.resetN)

/-- RESET_N_RELEASE (R62, R63): RESET_N rises; HITCHED_ENTRY follows. -/
def execResetNRelease (s : State) : Host.Outcome State Fault Refusal := .next { s with boot := { s.boot with resetLow := false } }

/-! ## Power fail (R74 to R76, R511) -/

/-- The shutdown: line 25 latched as FATAL, the brake, and every island but AO in reset (R74). -/
def State.shutdown (s : State) (tick : Nat) : State :=
  let inst := s.instAt tick
  let s := { s with flt := { s.flt with forcedFatal := setBit s.flt.forcedFatal 25 true } }.lineOn 25 1
  let s := if s.present 25 then s else s.latchLine 25 inst
  let s := (s.brakeOn .shutdown).resetAll 0xFFFE
  { s with boot := { s.boot with pos := .ao, pf := .down, pcieReady := false, session := 0, heldBack := none, portRst := 0, rstNext := 0, antBias := 0 } }.refreshFaults

/-- The PF_SAVE payload (R74). -/
def State.pfPayload (s : State) (t0 : Nat) : List Word :=
  t108Words t0 ++ [s.rd R.VOTE_FREQ, s.rd R.TEB_BOUND, s.rd R.FLT_LATCH, s.rd R.FLT_FIRST, s.rd R.FLT_FIRST_MID, s.rd R.FLT_FIRST_LOW, s.rd R.GEN_IN_FORCE, s.rd R.BOOT_STAGE]

/-- The record being written at t0 ends with its commit word if it can by t0 + 200 µs, and is abandoned otherwise (R74). -/
def State.endWriting (s : State) (w : NvWrite) : State :=
  if 5 ≤ w.area ∨ (areaOf w.area).types.contains w.type = false then s
  else if w.ok then s.nvPut (areaOf w.area) w.type w.payload (s.instAt w.tick)
  else s.putRec (areaOf w.area) w.type w.payload .uncommitted (s.instAt w.tick)

/-- POWER_FAIL_WARNING (R74, R76): the warning latches; the save and the flush start, or without a charged store the shutdown follows at once. -/
def execPowerFailWarning (tick mv : Nat) (writing : Option NvWrite) (s : State) : Host.Outcome State Fault Refusal :=
  .next (
    if s.boot.pos = .off ∨ s.boot.pf ≠ .none then s
    else
      let s := (((s.set R.PWR_VIN_MV (min mv 65535)).set R.PWR_STAT_PFW 1).set R.PWR_STAT_VIN_GOOD 0).raise P.PWR E.PWR_PFW
      let s := (match writing with
        | some w => s.endWriting w
        | none => s).set R.NVM_STATUS_PFW_HOLD 1
      if s.flag R.PWR_STAT_HOLDUP_RDY then
        { s with boot := { s.boot with pf := .warned }, nvm := { s.nvm with saving := some (s.pfPayload (s.instAt tick)), savingBatches := s.flushPayloads } }
      else s.shutdown tick)

/-- The save and the flush are complete, with their commit words (R74, R470). -/
def State.saveDone (s : State) : State :=
  match s.nvm.saving with
  | none => s
  | some p =>
    let l := s.nvm.savingBatches
    let s := { s with nvm := { s.nvm with saving := none, savingBatches := [] } }.nvPut .startSave 0x31 p
    if s.up islMGT then s.flushDone l else l.foldl (fun (t : State) b => t.nvPut .journal 0x20 b) s

/-- PF_SAVE_DONE (R74). -/
def execPfSaveDone (s : State) : Host.Outcome State Fault Refusal := .next s.saveDone

/-- PF_SHUTDOWN (R74): t0 + 1.0 ms has come and VIN has not risen. -/
def execPfShutdown (tick : Nat) (s : State) : Host.Outcome State Fault Refusal := .next (if s.boot.pf = .warned then s.shutdown tick else s)

/-- RIDE_THROUGH (R75): VIN is back; the save and the flush complete, and a RIDE record follows. -/
def execRideThrough (minMv mv : Nat) (s : State) : Host.Outcome State Fault Refusal :=
  .next (
    if s.boot.pf ≠ .warned then s
    else
      let s := (s.saveDone.nvPut .startSave 0x33 []).bump R.PWR_RIDE_COUNT_COUNT
      let s := (s.set R.PWR_RIDE_MIN_MV (min minMv 65535)).raise P.PWR E.PWR_PFW_RIDE
      let s := (((s.set R.PWR_VIN_MV (min mv 65535)).set R.PWR_STAT_PFW 0).set R.PWR_STAT_VIN_GOOD 1).set R.NVM_STATUS_PFW_HOLD 0
      { s with boot := { s.boot with pf := .none } })

/-- A bank whose erase the loss of power cuts: a free number of its sectors are erased, from the first on, and the wear table has counted each of
them and the one being erased (R72, R81; log entry 10). -/
def State.cutErase (s : State) : State :=
  let b := s.boot.erasing
  if b = 0 then s
  else
    let f := s.takeFree
    let n := f.1 % 129
    let t := (List.range (min n 127)).foldl (fun (t : State) k => t.wearErase (128 * (b - 1) + 1 + k)) f.2
    t.putBank b ((List.range n).foldl eraseBankSector (t.bank b))

/-- The device without power: NVM, fuses, the pins driven from outside, and what the model itself keeps stay (R62). -/
def State.powerOff (s : State) : State :=
  let s := s.cutErase
  { State.reset with boot := { BootPart.init with resetLow := s.boot.resetLow, perstLow := s.boot.perstLow, pf := .dark }, nvm := { s.nvm with saving := none, savingBatches := [] },
                     key := { KeyPart.init with fuses := s.key.fuses, owner := s.key.owner, half := s.key.half },
                     sent := s.sent, free := s.free, pending := s.pending }

/-- HOLDUP_END (R74): the hold-up ends once the save and the flush are complete; the pins take their unpowered states. -/
def execHoldupEnd (s : State) : Host.Outcome State Fault Refusal :=
  .next (if s.boot.pf = .down ∧ s.nvm.saving.isNone then s.powerOff else s)

/-- POWER_ON_AFTER_SHUTDOWN (R511, R62): VIN is back at 10.5 V; a power-on start begins, the save and the flush being complete. -/
def execPowerOnAfterShutdown (mv : Nat) (s : State) : Host.Outcome State Fault Refusal :=
  .next (if (s.boot.pf = .down ∨ s.boot.pf = .dark) ∧ s.nvm.saving.isNone ∧ 10500 ≤ mv then s.powerOff.aoStart mv else s)

/-! ## Fabric service reset (R64, R65) -/

/-- The islands of a fabric service reset: MGT, the coaches and SW. -/
abbrev fabricMask : Nat := 0x7F02

/-- What the flush of step 3 of R64 counts at each port, MISSED and Q_FLUSH: shown by the counters as they come out of the reset (DESIGN CHOICE, log entry 34). -/
def State.showFlushed (s old flushed : State) : State :=
  (List.range 24).foldl (fun (t : State) p =>
    let d (f : Fld) : Nat := flushed.get f - old.get f
    (t.bumpBy (R.STA_TX_MISSED_COUNT p) (d (R.STA_TX_MISSED_COUNT p))).bumpBy (R.STA_TX_Q_FLUSH_COUNT p) (d (R.STA_TX_Q_FLUSH_COUNT p))) s

/-- The fabric service reset up to the reset of its islands: the queues are flushed and counted (R64). -/
def State.fabricReset (s : State) : State :=
  let old := s
  let s := (List.range 24).foldl (fun (t : State) p => if t.up (8 + p / 4) then t.flushPort p else t) s
  let flushed := s
  let s := s.proveAbort.flushRecords
  let gen := s.get R.GEN_IN_FORCE_GEN
  let mask := (if s.role = 5 then 2 ^ islMGT else fabricMask) ||| s.gen.reconf
  let s := ((s.resetAll fabricMask).showFlushed old flushed).set R.GEN_IN_FORCE_GEN gen
  let s := { s with gen := { s.gen with reconf := mask }, boot := { s.boot with pcieReady := false } }
  let s := (((s.set R.BOOT_CMD_STATUS 1).set R.BOOT_STAGE_FABRIC_DOWN 1).set R.BOOT_CAUSE_FABRIC 1).stageRec old
  s.refreshFaults

/-- FABRIC_RESET (R64, R73): refused before ROLLING, while the device holds the reins unless FORCE is given, and while a generation is pending. -/
def execFabricReset (m : Master) (force : Bool) (s : State) : Host.Outcome State Fault Refusal :=
  .next (s.hostCmd m R.BOOT_CMD_STATUS fun s =>
    if s.get R.BOOT_STAGE_STAGE < 2 then s.set R.BOOT_CMD_STATUS 3
    else if s.role = 1 ∧ !force then s.set R.BOOT_CMD_STATUS 5
    else if s.genState ≠ 0 then s.set R.BOOT_CMD_STATUS 9
    else s.fabricReset)

/-- The stamp pairs of a coach calibrate as it comes back, and its gear is at MIN (R227, R64). -/
def State.coachFresh (s : State) (c : Nat) (cals : List CalResult) (temp : Int) : State :=
  let r (i : Nat) : CalResult := cals.getD i noCal
  let s := (List.range 8).foldl (fun (t : State) i => t.pairStart (8 + 8 * c + i) (r (16 * c + 2 * i)) (r (16 * c + 2 * i + 1)) temp) s
  s.setGear c (min 2 (s.get (R.CO_GEAR_CTRL_MIN c)))

/-- The coaches that run come back from a reset; `cals`: two results for each pair of each coach. -/
def State.coachesFresh (s : State) (cals : List CalResult) (temp : Int) : State :=
  (List.range 6).foldl (fun (t : State) c => if t.up (8 + c) then t.coachFresh c cals temp else t) s

/-- FABRIC_DONE (R64 step 5, R65). -/
def execFabricDone (cals : List CalResult) (temp : Int) (s : State) : Host.Outcome State Fault Refusal :=
  .next (
    if s.flag R.BOOT_STAGE_FABRIC_DOWN ∧ s.up islMGT then
      let old := s
      let s := (s.coachesFresh cals temp).set R.BOOT_STAGE_FABRIC_DOWN 0
      ((s.raise P.BOOT E.BOOT_FABRIC_DONE).set R.BOOT_CMD_STATUS 2).stageRec old
    else s)

/-- WAKE_DONE (R440): the woken ports have entered LINK_HOLD; their stamp pairs have been calibrated. -/
def execWakeDone (cals : List CalResult) (temp : Int) (s : State) : Host.Outcome State Fault Refusal :=
  .next (
    let on := (List.range 24).filter (fun p => decide (s.link p ≠ 0))
    if s.role = 6 ∧ (on = [] ∨ on.any (fun p => decide (2 ≤ s.link p))) then (s.coachesFresh cals temp).setRole 2 else s)

end Sys2Proof.Machine
end

