-- ==== Sys2Proof/Machine/HostWrite.lean ====
section
/-! DEFINITION.
The bank commands and write sessions (R73), a master's write of any register (R85), and the SPI target (R478, R479).
-/
namespace Sys2Proof.Machine
open Sys2Proof

/-! ## Bank commands (R73) -/

/-- BOOT.CMD completes with a status. -/
def State.bootDone (s : State) (st : Nat) : State := s.set R.BOOT_CMD_STATUS st

/-- ERASE or WRITE_OPEN up to the session's row of R73's table: the statuses WORLD, INVALID, NVM, IN_USE and SESSION, or the effect `k`. -/
def State.bankCmd (s : State) (m : Master) (bank : Nat) (k : State → State) : State :=
  s.hostCmd m R.BOOT_CMD_STATUS fun s =>
    if m = .pf1 then s.bootDone 4
    else if bank ≠ 1 ∧ bank ≠ 2 then s.bootDone 6
    else if s.flag R.NVM_STATUS_PFW_HOLD then s.bootDone 7
    else if s.get R.BOOT_IMG_STAT_LOADED = bank then s.bootDone 8
    else if s.boot.session ≠ 0 then s.bootDone 10
    else k s

/-- BOOT_ERASE (R73, R81): the wear table counts the first sector, whose erase starts. -/
def execBootErase (m : Master) (bank : Nat) (s : State) : Host.Outcome State Fault Refusal :=
  .next (s.bankCmd m bank fun s => (({ s with boot := { s.boot with erasing := bank } }.wearErase (128 * (bank - 1))).set R.NVM_STATUS_BUSY 1).bootDone 1)

/-- BANK_ERASE_DONE (R73, R81): the wear table has counted each further sector of the bank. -/
def execBankEraseDone (s : State) : Host.Outcome State Fault Refusal :=
  .next (
    let b := s.boot.erasing
    if b = 0 then s
    else
      let s := ({ s with boot := { s.boot with erasing := 0 } }.putBank b []).set R.NVM_STATUS_BUSY 0
      let s := (List.range 127).foldl (fun (t : State) k => t.wearErase (128 * (b - 1) + 1 + k)) s
      (s.showBank b 1 0).set R.BOOT_CMD_STATUS (if s.get R.BOOT_CMD_STATUS = 1 then 2 else s.get R.BOOT_CMD_STATUS))

/-- WRITE_OPEN (R73): a session opens on an erased bank. -/
def execWriteOpen (m : Master) (bank : Nat) (s : State) : Host.Outcome State Fault Refusal :=
  .next (s.bankCmd m bank fun s =>
    if s.get (whyFld bank) ≠ 1 then s.bootDone 11
    else (({ s with boot := { s.boot with session := bank, heldBack := none } }.putBank bank []).showBank bank 8 0).bootDone 2)

/-- The word held back goes to the write position, while the bank has room. -/
def State.placeHeld (s : State) : State :=
  match s.boot.heldBack with
  | some h => if (s.bank s.boot.session).length < bankWords then s.putBank s.boot.session (s.bank s.boot.session ++ [h]) else s
  | none => s

/-- IMG_DATA_WRITE (R73): the word is held back and the one before it is written; without a session the write is ignored. -/
def execImgDataWrite (m : Master) (w : Word) (s : State) : Host.Outcome State Fault Refusal :=
  .next (s.hostWrite m R.BOOT_IMG_DATA fun s => if s.boot.session = 0 then s else { s.placeHeld with boot := { s.boot with heldBack := some w } })

/-- The session's bank is validated with the word held back, which is written only if the bank is valid (R73, R72). -/
def State.closeSession (s : State) : State :=
  let b := s.boot.session
  let t := { s.placeHeld with boot := { s.boot with session := 0, heldBack := none } }
  let why := bankWhy (t.bank b) s.lcs
  if why = 0 then (t.showBank b 0 (bankSeq (t.bank b))).bootDone 2
  else ((t.putBank b (s.bank b)).showBank b why 0).bootDone 6

/-- WRITE_CLOSE (R73): ends the open session, whatever its BANK field holds. -/
def execWriteClose (m : Master) (_bank : Nat) (s : State) : Host.Outcome State Fault Refusal :=
  .next (s.hostCmd m R.BOOT_CMD_STATUS fun s =>
    if m = .pf1 then s.bootDone 4
    else if s.flag R.NVM_STATUS_PFW_HOLD then s.bootDone 7
    else if s.boot.session = 0 then s.bootDone 10
    else s.closeSession)

/-! ## Any register -/

/-- BOOT.CMD (R73); an OP that is no command completes INVALID. -/
def State.writeBootCmd (s : State) (m : Master) (v : Word) : State :=
  let bank := R.BOOT_CMD_BANK.of v
  match R.BOOT_CMD_OP.of v with
  | 1 => settle (execBootLoad m s) s
  | 2 => settle (execBootErase m bank s) s
  | 3 => settle (execWriteOpen m bank s) s
  | 4 => settle (execWriteClose m bank s) s
  | 5 => settle (execFabricReset m (decide (R.BOOT_CMD_FORCE.of v = 1)) s) s
  | _ => s.hostCmd m R.BOOT_CMD_STATUS fun s => s.bootDone 6

/-- A master's write of any slot (R85). -/
def State.writeAny (s : State) (m : Master) (slot : Nat) (v : Word) (a : Arrival) : State :=
  if slot = R.BOOT_CMD then s.writeBootCmd m v
  else if slot = R.BOOT_IMG_DATA then settle (execImgDataWrite m v s) s
  else s.regWrite m slot v a

/-- REGISTER_WRITE (R85). -/
def execRegisterWrite (m : Master) (slot : Nat) (v : Word) (a : Arrival) (s : State) : Host.Outcome State Fault Refusal := .next (s.writeAny m slot v a)

/-- T108_COMMIT_WRITE (R2 to R4, R94): the write to the highest slot of a multi-word value commits it with the master's staged words. -/
def execT108CommitWrite (m : Master) (slot : Nat) (v : Word) (a : Arrival) (s : State) : Host.Outcome State Fault Refusal := .next (s.regWrite m slot v a)

/-! ## SPI (R478, R479) -/

/-- One bit of the CRC-8 register: x^8 + x^2 + x + 1. -/
def crc8Bit (c : Nat) : Nat := if 128 ≤ c then (2 * c) % 256 ^^^ 0x07 else 2 * c

/-- One byte into the CRC-8 register. -/
def crc8Byte (c b : Nat) : Nat := crc8Bit (crc8Bit (crc8Bit (crc8Bit (crc8Bit (crc8Bit (crc8Bit (crc8Bit (c ^^^ b % 256))))))))

/-- The CRC-8 of bytes, initial value 0. -/
def crc8 (l : List Nat) : Nat := l.foldl crc8Byte 0

/-- A transaction is discarded and counted. -/
def State.spiAbort (s : State) : State := (s.bump R.SPI_ABORTED_COUNT).set R.SPI_STATUS_ABORTED 1

/-- What STATUS shows of the last WRITE. -/
def State.spiShow (s : State) (crc err done : Bool) : State :=
  ((s.setFlag R.SPI_STATUS_CRC crc).setFlag R.SPI_STATUS_ERR err).setFlag R.SPI_STATUS_DONE done

/-- A transaction completes. -/
def State.spiGood (s : State) : State := s.set R.SPI_STATUS_ABORTED 0

/-- SPI_READ (R478, R479): issued with the last address byte, and performed even if its value is not clocked out. -/
def execSpiRead (addr : List Nat) (wait clocked tick : Nat) (s : State) : Host.Outcome State Fault Refusal :=
  .next (
    if !s.hostUp .spi then s
    else if addr.length < 3 then s.spiAbort
    else
      let s := s.hostRead .spi tick (ofBytes (addr.take 3) % 2 ^ 23)
      let s := s.emit (.spi ((0x5A :: bytesBE 5 (s.mst .spi).readData.toNat).take (clocked - wait)))
      if addr.length = 3 ∧ clocked = wait + 6 then (s.bump R.SPI_TRANSFERS_COUNT).spiGood else s.spiAbort)

/-- The write of a good WRITE; whether it raised ACCESS_ERR, and whether it was rejected as a write to a running command. -/
def State.spiPut (s : State) (slot : Nat) (v : Word) (a : Arrival) : State × Bool × Bool :=
  let e := s.get R.GLB_ACCESS_ERR_COUNT_COUNT
  let w := s.get R.GLB_WC_REJECT_COUNT
  let t := ((s.set R.GLB_ACCESS_ERR_COUNT_COUNT 0).set R.GLB_WC_REJECT_COUNT 0).writeAny .spi slot v a
  if !t.hostUp .spi then (t, false, false)
  else ((t.bumpBy R.GLB_ACCESS_ERR_COUNT_COUNT e).bumpBy R.GLB_WC_REJECT_COUNT w, decide (t.get R.GLB_ACCESS_ERR_COUNT_COUNT ≠ 0), decide (t.get R.GLB_WC_REJECT_COUNT ≠ 0))

/-- SPI_WRITE (R478, R479): takes effect with exactly ten bytes and a good CRC. -/
def execSpiWrite (bytes : List Nat) (a : Arrival) (s : State) : Host.Outcome State Fault Refusal :=
  .next (
    if !s.hostUp .spi then s
    else if bytes.headD 0 ≠ 0x02 then s.spiAbort
    else if bytes.length ≠ 10 then (s.spiShow false false false).spiAbort
    else if crc8 (bytes.take 9) ≠ bytes.getD 9 0 then
      (((s.bump R.SPI_CRC_ERR_COUNT).raise P.SPI E.SPI_CRC_ERR).spiShow true false false).spiGood
    else
      let r := s.spiPut (ofBytes ((bytes.drop 1).take 3) % 2 ^ 23) (BitVec.ofNat 36 (ofBytes ((bytes.drop 4).take 5))) a
      if !r.1.hostUp .spi then r.1 else ((r.1.bump R.SPI_TRANSFERS_COUNT).spiShow false r.2.1 (!r.2.1 && !r.2.2)).spiGood)

/-- SPI_STATUS (R478, R479): one byte of SPI.STATUS; an unknown command byte, or another number of bytes, is counted as discarded. -/
def execSpiStatus (cmd clocked : Nat) (s : State) : Host.Outcome State Fault Refusal :=
  .next (
    if !s.hostUp .spi then s
    else if cmd ≠ 0x05 then s.spiAbort
    else
      let s := s.emit (.spi ([(s.live (some .spi) 0 R.SPI_STATUS).toNat % 256].take clocked))
      if clocked = 1 then s.spiGood else s.spiAbort)

end Sys2Proof.Machine
end

