-- ==== Sys2Proof/Machine/Dispatch.lean ====
section
/-! DEFINITION.
exec: one arm for each command, a direct call of its meaning or a rejection by name.
-/
namespace Sys2Proof.Machine
open Sys2Proof

def exec (i : Instr) (s : State) : Host.Outcome State Fault Refusal :=
  match i with
  | .vinGood mv => Sys2Proof.Machine.execVinGood mv s
  | .holdupReady => Sys2Proof.Machine.execHoldupReady s
  | .hitchedEntry => Sys2Proof.Machine.execHitchedEntry s
  | .nvmScan corr bad => Sys2Proof.Machine.execNvmScan corr bad s
  | .keyLoad => Sys2Proof.Machine.execKeyLoad s
  | .bankSelect => Sys2Proof.Machine.execBankSelect s
  | .islandRelease => Sys2Proof.Machine.execIslandRelease s
  | .imageApply cals temp => Sys2Proof.Machine.execImageApply cals temp s
  | .rollingEntry us => Sys2Proof.Machine.execRollingEntry us s
  | .timedEntry => Sys2Proof.Machine.execTimedEntry s
  | .steadyEntry => Sys2Proof.Machine.execSteadyEntry s
  | .resetNAssert => Sys2Proof.Machine.execResetNAssert s
  | .resetNRelease => Sys2Proof.Machine.execResetNRelease s
  | .perstAssert => Sys2Proof.Machine.execPerstAssert s
  | .perstRelease => Sys2Proof.Machine.execPerstRelease s
  | .pcieConfigRequest pf ready msix => Sys2Proof.Machine.execPcieConfigRequest pf ready msix s
  | .powerFailWarning tick mv writing => Sys2Proof.Machine.execPowerFailWarning tick mv writing s
  | .pfShutdown tick => Sys2Proof.Machine.execPfShutdown tick s
  | .pfSaveDone => Sys2Proof.Machine.execPfSaveDone s
  | .rideThrough minMv mv => Sys2Proof.Machine.execRideThrough minMv mv s
  | .holdupEnd => Sys2Proof.Machine.execHoldupEnd s
  | .powerOnAfterShutdown mv => Sys2Proof.Machine.execPowerOnAfterShutdown mv s
  | .nvmRecordWrite w => Sys2Proof.Machine.execNvmRecordWrite w s
  | .nvmSectorErase sector => Sys2Proof.Machine.execNvmSectorErase sector s
  | .bootLoad m => Sys2Proof.Machine.execBootLoad m s
  | .bootErase m bank => Sys2Proof.Machine.execBootErase m bank s
  | .bankEraseDone => Sys2Proof.Machine.execBankEraseDone s
  | .writeOpen m bank => Sys2Proof.Machine.execWriteOpen m bank s
  | .imgDataWrite m w => Sys2Proof.Machine.execImgDataWrite m w s
  | .writeClose m bank => Sys2Proof.Machine.execWriteClose m bank s
  | .fabricReset m force => Sys2Proof.Machine.execFabricReset m force s
  | .fabricDone cals temp => Sys2Proof.Machine.execFabricDone cals temp s
  | .islandClockCheck oscDev readings mv => Sys2Proof.Machine.execIslandClockCheck oscDev readings mv s
  | .couplingTransfer src dst ch parityOk full => Sys2Proof.Machine.execCouplingTransfer src dst ch parityOk full s
  | .couplingResume src dst ch => Sys2Proof.Machine.execCouplingResume src dst ch s
  | .axleSubframe island k err => Sys2Proof.Machine.execAxleSubframe island k err s
  | .axmark tick cuts ready => Sys2Proof.Machine.execAxmark tick cuts ready s
  | .voteUpdate k r0 r1 r2 => Sys2Proof.Machine.execVoteUpdate k r0 r1 r2 s
  | .coreCatchupDone core => Sys2Proof.Machine.execCoreCatchupDone core s
  | .rejoinExpiry core => Sys2Proof.Machine.execRejoinExpiry core s
  | .coreReadmit core => Sys2Proof.Machine.execCoreReadmit core s
  | .coreShuntApply => Sys2Proof.Machine.execCoreShuntApply s
  | .voteSet m => Sys2Proof.Machine.execVoteSet m s
  | .hostStepSubmit m low => Sys2Proof.Machine.execHostStepSubmit m low s
  | .cancelStep m => Sys2Proof.Machine.execCancelStep m s
  | .recover m donor => Sys2Proof.Machine.execRecover m donor s
  | .utcOffsetWrite m v => Sys2Proof.Machine.execUtcOffsetWrite m v s
  | .leapSchedule m v => Sys2Proof.Machine.execLeapSchedule m v s
  | .leapPend => Sys2Proof.Machine.execLeapPend s
  | .ocxoWarmSet => Sys2Proof.Machine.execOcxoWarmSet s
  | .ocxoWarmClear => Sys2Proof.Machine.execOcxoWarmClear s
  | .cellHeatDone => Sys2Proof.Machine.execCellHeatDone s
  | .cellLineFound => Sys2Proof.Machine.execCellLineFound s
  | .cellResonanceLock => Sys2Proof.Machine.execCellResonanceLock s
  | .cellAcquireTimeout => Sys2Proof.Machine.execCellAcquireTimeout s
  | .cellSignalLost => Sys2Proof.Machine.execCellSignalLost s
  | .cellMeasurement y => Sys2Proof.Machine.execCellMeasurement y s
  | .cellRestart m => Sys2Proof.Machine.execCellRestart m s
  | .cellStop m => Sys2Proof.Machine.execCellStop m s
  | .candidateSample slot raw => Sys2Proof.Machine.execCandidateSample slot raw s
  | .candTimeout slot tick => Sys2Proof.Machine.execCandTimeout slot tick s
  | .candQualified slot => Sys2Proof.Machine.execCandQualified slot s
  | .wtrDone slot => Sys2Proof.Machine.execWtrDone slot s
  | .refInEdge input falling tick phase tap => Sys2Proof.Machine.execRefInEdge input falling tick phase tap s
  | .esmcReceive slot ssm enh => Sys2Proof.Machine.execEsmcReceive slot ssm enh s
  | .esmcTimeout slot => Sys2Proof.Machine.execEsmcTimeout slot s
  | .selSwitch m slot => Sys2Proof.Machine.execSelSwitch m slot s
  | .selHoldover m => Sys2Proof.Machine.execSelHoldover m s
  | .selRelease m => Sys2Proof.Machine.execSelRelease m s
  | .selClearWtr m slot => Sys2Proof.Machine.execSelClearWtr m slot s
  | .lockoutWrite m v => Sys2Proof.Machine.execLockoutWrite m v s
  | .prepareEnd => Sys2Proof.Machine.execPrepareEnd s
  | .settleTimeout => Sys2Proof.Machine.execSettleTimeout s
  | .steerSubmit m low => Sys2Proof.Machine.execSteerSubmit m low s
  | .steerDone => Sys2Proof.Machine.execSteerDone s
  | .servoUpdate k temp => Sys2Proof.Machine.execServoUpdate k temp s
  | .hostFeedMode m v => Sys2Proof.Machine.execHostFeedMode m v s
  | .hostOffsetSubmit m low tick => Sys2Proof.Machine.execHostOffsetSubmit m low tick s
  | .holdFit => Sys2Proof.Machine.execHoldFit s
  | .holdRecordPeriod => Sys2Proof.Machine.execHoldRecordPeriod s
  | .pllBandChosen pll band => Sys2Proof.Machine.execPllBandChosen pll band s
  | .pllLocked pll us errPs => Sys2Proof.Machine.execPllLocked pll us errPs s
  | .pllLockFail pll => Sys2Proof.Machine.execPllLockFail pll s
  | .pllUnlock pll errPs => Sys2Proof.Machine.execPllUnlock pll errPs s
  | .pllRefLost pll => Sys2Proof.Machine.execPllRefLost pll s
  | .pllRefRestored pll held => Sys2Proof.Machine.execPllRefRestored pll held s
  | .pllRelock m pll => Sys2Proof.Machine.execPllRelock m pll s
  | .pllDisable m pll => Sys2Proof.Machine.execPllDisable m pll s
  | .bypassSynthUnlock => Sys2Proof.Machine.execBypassSynthUnlock s
  | .clkReturnToPll n => Sys2Proof.Machine.execClkReturnToPll n s
  | .started out => Sys2Proof.Machine.execStarted out s
  | .pulseEdge n => Sys2Proof.Machine.execPulseEdge n s
  | .outRealign m clk pulse tick => Sys2Proof.Machine.execOutRealign m clk pulse tick s
  | .realignDone => Sys2Proof.Machine.execRealignDone s
  | .drvFault out => Sys2Proof.Machine.execDrvFault out s
  | .outDisable m => Sys2Proof.Machine.execOutDisable m s
  | .ticArm m tic => Sys2Proof.Machine.execTicArm m tic s
  | .ticArmAt m tic tick => Sys2Proof.Machine.execTicArmAt m tic tick s
  | .ticArmAtReached tic tick => Sys2Proof.Machine.execTicArmAtReached tic tick s
  | .ticEdge tic stop falling tick phase tap => Sys2Proof.Machine.execTicEdge tic stop falling tick phase tap s
  | .ticTimeout tic => Sys2Proof.Machine.execTicTimeout tic s
  | .ticDisarm m tic => Sys2Proof.Machine.execTicDisarm m tic s
  | .ticCalibrate m tic => Sys2Proof.Machine.execTicCalibrate m tic s
  | .ticAutoCal tic temp => Sys2Proof.Machine.execTicAutoCal tic temp s
  | .ticCalDone tic r0 r1 temp => Sys2Proof.Machine.execTicCalDone tic r0 r1 temp s
  | .ticDisable m tic => Sys2Proof.Machine.execTicDisable m tic s
  | .pairRecal pair r temp => Sys2Proof.Machine.execPairRecal pair r temp s
  | .pairSwap pair tick => Sys2Proof.Machine.execPairSwap pair tick s
  | .gnssEpoch e => Sys2Proof.Machine.execGnssEpoch e s
  | .gnssSampleDelivery => Sys2Proof.Machine.execGnssSampleDelivery s
  | .channelAcquired ch sig sat dop chips sums => Sys2Proof.Machine.execChannelAcquired ch sig sat dop chips sums s
  | .channelLockDrop ch cn0 => Sys2Proof.Machine.execChannelLockDrop ch cn0 s
  | .channelSearchWarm ch => Sys2Proof.Machine.execChannelSearchWarm ch s
  | .engine => Sys2Proof.Machine.execEngine s
  | .surveyDone sigma => Sys2Proof.Machine.execSurveyDone sigma s
  | .jamSet => Sys2Proof.Machine.execJamSet s
  | .jamClear => Sys2Proof.Machine.execJamClear s
  | .ant ma dv limit => Sys2Proof.Machine.execAnt ma dv limit s
  | .antBiasRetry => Sys2Proof.Machine.execAntBiasRetry s
  | .coldStart m => Sys2Proof.Machine.execColdStart m s
  | .clearSuspect m => Sys2Proof.Machine.execClearSuspect m s
  | .resurvey m => Sys2Proof.Machine.execResurvey m s
  | .codeOpen m => Sys2Proof.Machine.execCodeOpen m s
  | .codeDataWrite m w => Sys2Proof.Machine.execCodeDataWrite m w s
  | .codeClose m => Sys2Proof.Machine.execCodeClose m s
  | .gnssDisable m => Sys2Proof.Machine.execGnssDisable m s
  | .frameReceive port st f bad full codes corr uncorr => Sys2Proof.Machine.execFrameReceive port st f bad full codes corr uncorr s
  | .linkLoss port why cut => Sys2Proof.Machine.execLinkLoss port why cut s
  | .linkLock port => Sys2Proof.Machine.execLinkLock port s
  | .linkHoldExpiry port ms => Sys2Proof.Machine.execLinkHoldExpiry port ms s
  | .portDisable m port sending => Sys2Proof.Machine.execPortDisable m port sending s
  | .moduleResetRelease port => Sys2Proof.Machine.execModuleResetRelease port s
  | .moduleRstWrite m port rst => Sys2Proof.Machine.execModuleRstWrite m port rst s
  | .modPresent port present => Sys2Proof.Machine.execModPresent port present s
  | .modInt port low => Sys2Proof.Machine.execModInt port low s
  | .i2cRead m port len offset dev => Sys2Proof.Machine.execI2cRead m port len offset dev s
  | .i2cWrite m port len offset dev => Sys2Proof.Machine.execI2cWrite m port len offset dev s
  | .restartBus m port => Sys2Proof.Machine.execRestartBus m port s
  | .i2cDone coach ack data => Sys2Proof.Machine.execI2cDone coach ack data s
  | .i2cStuck coach freed => Sys2Proof.Machine.execI2cStuck coach freed s
  | .gearWindow coach => Sys2Proof.Machine.execGearWindow coach s
  | .frameAdmission coach slot => Sys2Proof.Machine.execFrameAdmission coach slot s
  | .cellArrival output slot ecc => Sys2Proof.Machine.execCellArrival output slot ecc s
  | .frameRelease output input fid => Sys2Proof.Machine.execFrameRelease output input fid s
  | .reseqSkip output input cls us => Sys2Proof.Machine.execReseqSkip output input cls us s
  | .spillReissue dst cls slot ecc => Sys2Proof.Machine.execSpillReissue dst cls slot ecc s
  | .aged dst cls => Sys2Proof.Machine.execAged dst cls s
  | .fdbAgeSweep => Sys2Proof.Machine.execFdbAgeSweep s
  | .addStatic m => Sys2Proof.Machine.execAddStatic m s
  | .fdbDelete m => Sys2Proof.Machine.execFdbDelete m s
  | .fdbRead m => Sys2Proof.Machine.execFdbRead m s
  | .flushLearned m => Sys2Proof.Machine.execFlushLearned m s
  | .flushPort m => Sys2Proof.Machine.execFlushPort m s
  | .switchDisable m slot => Sys2Proof.Machine.execSwitchDisable m slot s
  | .frameTransmit port cls ecc st => Sys2Proof.Machine.execFrameTransmit port cls ecc st s
  | .dramTransferError fails ecc spill => Sys2Proof.Machine.execDramTransferError fails ecc spill s
  | .throttle temp load => Sys2Proof.Machine.execThrottle temp load s
  | .carriageParse coach cid => Sys2Proof.Machine.execCarriageParse coach cid s
  | .upstreamAnnounceTimeout port tick => Sys2Proof.Machine.execUpstreamAnnounceTimeout port tick s
  | .lookupDone coach cid hit ecc => Sys2Proof.Machine.execLookupDone coach cid hit ecc s
  | .verifyDone coach cid disagree => Sys2Proof.Machine.execVerifyDone coach cid disagree s
  | .composeCarriage coach cid tick => Sys2Proof.Machine.execComposeCarriage coach cid tick s
  | .signQueueAdmit coach cid => Sys2Proof.Machine.execSignQueueAdmit coach cid s
  | .signDone coach cid disagree => Sys2Proof.Machine.execSignDone coach cid disagree s
  | .sealSetupCheck coach cid tick => Sys2Proof.Machine.execSealSetupCheck coach cid tick s
  | .launch coach cid tick st => Sys2Proof.Machine.execLaunch coach cid tick st s
  | .multicastTimer port kind tick => Sys2Proof.Machine.execMulticastTimer port kind tick s
  | .coachDisable m coach => Sys2Proof.Machine.execCoachDisable m coach s
  | .drained page => Sys2Proof.Machine.execDrained page s
  | .wheelSlot coach tick ecc => Sys2Proof.Machine.execWheelSlot coach tick ecc s
  | .wheelVisit coach tick ecc => Sys2Proof.Machine.execWheelVisit coach tick ecc s
  | .grantExpiry client mtype => Sys2Proof.Machine.execGrantExpiry client mtype s
  | .entryFree client => Sys2Proof.Machine.execEntryFree client s
  | .clientScrub => Sys2Proof.Machine.execClientScrub s
  | .cltAdd m => Sys2Proof.Machine.execCltAdd m s
  | .cltDelete m => Sys2Proof.Machine.execCltDelete m s
  | .cltRead m => Sys2Proof.Machine.execCltRead m s
  | .cltFind m => Sys2Proof.Machine.execCltFind m s
  | .cltCancel m => Sys2Proof.Machine.execCltCancel m s
  | .cltWrite m => Sys2Proof.Machine.execCltWrite m s
  | .rebuild m coach => Sys2Proof.Machine.execRebuild m coach s
  | .rebuildDone coach => Sys2Proof.Machine.execRebuildDone coach s
  | .lcyConfirm m w us => Sys2Proof.Machine.execLcyConfirm m w us s
  | .lcyProvision m mode slot us => Sys2Proof.Machine.execLcyProvision m mode slot us s
  | .lcyDeploy m us => Sys2Proof.Machine.execLcyDeploy m us s
  | .lcyReturn m us => Sys2Proof.Machine.execLcyReturn m us s
  | .lcyDisable m us => Sys2Proof.Machine.execLcyDisable m us s
  | .lcyChangeDone ok => Sys2Proof.Machine.execLcyChangeDone ok s
  | .keyCreate m => Sys2Proof.Machine.execKeyCreate m s
  | .keyGenerate m => Sys2Proof.Machine.execKeyGenerate m s
  | .keyDerive m src => Sys2Proof.Machine.execKeyDerive m src s
  | .keyImport m => Sys2Proof.Machine.execKeyImport m s
  | .keyUnwrap m src => Sys2Proof.Machine.execKeyUnwrap m src s
  | .keyVerify m check agree => Sys2Proof.Machine.execKeyVerify m check agree s
  | .keyCommit m nvOk ack => Sys2Proof.Machine.execKeyCommit m nvOk ack s
  | .activated => Sys2Proof.Machine.execActivated s
  | .keyDiscard m => Sys2Proof.Machine.execKeyDiscard m s
  | .keyRevoke m => Sys2Proof.Machine.execKeyRevoke m s
  | .keyErase m nvOk => Sys2Proof.Machine.execKeyErase m nvOk s
  | .keyEraseDone slot => Sys2Proof.Machine.execKeyEraseDone slot s
  | .keyMint m => Sys2Proof.Machine.execKeyMint m s
  | .keyReload m => Sys2Proof.Machine.execKeyReload m s
  | .keyDataAccess m w => Sys2Proof.Machine.execKeyDataAccess m w s
  | .keyPin coach => Sys2Proof.Machine.execKeyPin coach s
  | .keyRelease coach => Sys2Proof.Machine.execKeyRelease coach s
  | .keyGraceEnd slot => Sys2Proof.Machine.execKeyGraceEnd slot s
  | .freed slot => Sys2Proof.Machine.execFreed slot s
  | .drbgReseed => Sys2Proof.Machine.execDrbgReseed s
  | .keyStoreCompact => Sys2Proof.Machine.execKeyStoreCompact s
  | .keyMemoryError slot => Sys2Proof.Machine.execKeyMemoryError slot s
  | .tamperAlarm sensor => Sys2Proof.Machine.execTamperAlarm sensor s
  | .tmpLatchClear m w => Sys2Proof.Machine.execTmpLatchClear m w s
  | .tmpPolicyWrite m w ok => Sys2Proof.Machine.execTmpPolicyWrite m w ok s
  | .statement m => Sys2Proof.Machine.execStatement m s
  | .genHash => Sys2Proof.Machine.execGenHash s
  | .genPrepare m tick => Sys2Proof.Machine.execGenPrepare m tick s
  | .genCancel m => Sys2Proof.Machine.execGenCancel m s
  | .preparedReport island => Sys2Proof.Machine.execPreparedReport island s
  | .genDecision => Sys2Proof.Machine.execGenDecision s
  | .appliedReport island => Sys2Proof.Machine.execAppliedReport island s
  | .appliedTimeout cuts => Sys2Proof.Machine.execAppliedTimeout cuts s
  | .unfenced => Sys2Proof.Machine.execUnfenced s
  | .migrationStart lane => Sys2Proof.Machine.execMigrationStart lane s
  | .migrationFenceFixed lane tick => Sys2Proof.Machine.execMigrationFenceFixed lane tick s
  | .migrationFence lane tick => Sys2Proof.Machine.execMigrationFence lane tick s
  | .migrated lane => Sys2Proof.Machine.execMigrated lane s
  | .shuntCmd m kind index => Sys2Proof.Machine.execShuntCmd m kind index s
  | .shntReturn m kind index => Sys2Proof.Machine.execShntReturn m kind index s
  | .migrateCmd m kind index dest => Sys2Proof.Machine.execMigrateCmd m kind index dest s
  | .shuntReturnDone kind index ok cals temp cuts => Sys2Proof.Machine.execShuntReturnDone kind index ok cals temp cuts s
  | .proveStart => Sys2Proof.Machine.execProveStart s
  | .runNow m => Sys2Proof.Machine.execRunNow m s
  | .proveStop m => Sys2Proof.Machine.execProveStop m s
  | .proveUnitDone kind unit pass cals temp => Sys2Proof.Machine.execProveUnitDone kind unit pass cals temp s
  | .proveWindowEnd => Sys2Proof.Machine.execProveWindowEnd s
  | .ttSend => Sys2Proof.Machine.execTtSend s
  | .ttReceive link f st => Sys2Proof.Machine.execTtReceive link f st s
  | .renewSend tick => Sys2Proof.Machine.execRenewSend tick s
  | .renewReceive link f tick => Sys2Proof.Machine.execRenewReceive link f tick s
  | .ackReceive link f => Sys2Proof.Machine.execAckReceive link f s
  | .leaseStop tick => Sys2Proof.Machine.execLeaseStop tick s
  | .claimStart tick => Sys2Proof.Machine.execClaimStart tick s
  | .claimReceive link f tick => Sys2Proof.Machine.execClaimReceive link f tick s
  | .replyReceive link f tick => Sys2Proof.Machine.execReplyReceive link f tick s
  | .claimTimeout tick => Sys2Proof.Machine.execClaimTimeout tick s
  | .handover m dest tick => Sys2Proof.Machine.execHandover m dest tick s
  | .handoverReceive link f => Sys2Proof.Machine.execHandoverReceive link f s
  | .handoverTake tick => Sys2Proof.Machine.execHandoverTake tick s
  | .handoverTimeout tick => Sys2Proof.Machine.execHandoverTimeout tick s
  | .selFrameReceive link f => Sys2Proof.Machine.execSelFrameReceive link f s
  | .leapFrameReceive link f => Sys2Proof.Machine.execLeapFrameReceive link f s
  | .leapFrameSend => Sys2Proof.Machine.execLeapFrameSend s
  | .clientFrameReceive link f => Sys2Proof.Machine.execClientFrameReceive link f s
  | .sweepReceive link f tick => Sys2Proof.Machine.execSweepReceive link f tick s
  | .sweepSend => Sys2Proof.Machine.execSweepSend s
  | .hbLost link tick => Sys2Proof.Machine.execHbLost link tick s
  | .heartbeatReturn link tick => Sys2Proof.Machine.execHeartbeatReturn link tick s
  | .dugLinkDownTimer link => Sys2Proof.Machine.execDugLinkDownTimer link s
  | .sleep m => Sys2Proof.Machine.execSleep m s
  | .wake m => Sys2Proof.Machine.execWake m s
  | .wakeDone cals temp => Sys2Proof.Machine.execWakeDone cals temp s
  | .faultLineRise lines tick cuts slot => Sys2Proof.Machine.execFaultLineRise lines tick cuts slot s
  | .faultLineFall line tick => Sys2Proof.Machine.execFaultLineFall line tick s
  | .fltAck m => Sys2Proof.Machine.execFltAck m s
  | .fltRelease m => Sys2Proof.Machine.execFltRelease m s
  | .released => Sys2Proof.Machine.execReleased s
  | .fltLatchClear m bits => Sys2Proof.Machine.execFltLatchClear m bits s
  | .fltSevWrite m high v cuts slot => Sys2Proof.Machine.execFltSevWrite m high v cuts slot s
  | .fltSoftWrite m v => Sys2Proof.Machine.execFltSoftWrite m v s
  | .wdogKick m => Sys2Proof.Machine.execWdogKick m s
  | .wdogCfgWrite m v => Sys2Proof.Machine.execWdogCfgWrite m v s
  | .wdogExpiry ms => Sys2Proof.Machine.execWdogExpiry ms s
  | .injSramEcc m unit quiet => Sys2Proof.Machine.execInjSramEcc m unit quiet s
  | .injCouple m src dst count quiet => Sys2Proof.Machine.execInjCouple m src dst count quiet s
  | .injDramCrc m count quiet => Sys2Proof.Machine.execInjDramCrc m count quiet s
  | .injVote m core quiet => Sys2Proof.Machine.execInjVote m core quiet s
  | .injNvmCrc m quiet => Sys2Proof.Machine.execInjNvmCrc m quiet s
  | .injDone expired => Sys2Proof.Machine.execInjDone expired s
  | .thmSample temps => Sys2Proof.Machine.execThmSample temps s
  | .recTrigger island us => Sys2Proof.Machine.execRecTrigger island us s
  | .recRecordWrite => Sys2Proof.Machine.execRecRecordWrite s
  | .journalBatchWrite ageMs ecc ok retryOk => Sys2Proof.Machine.execJournalBatchWrite ageMs ecc ok retryOk s
  | .fetch m => Sys2Proof.Machine.execFetch m s
  | .fetchDone => Sys2Proof.Machine.execFetchDone s
  | .hostMark m v => Sys2Proof.Machine.execHostMark m v s
  | .codeSelWrite m v => Sys2Proof.Machine.execCodeSelWrite m v s
  | .codeCfgWrite m v => Sys2Proof.Machine.execCodeCfgWrite m v s
  | .spiRead addr wait clocked tick => Sys2Proof.Machine.execSpiRead addr wait clocked tick s
  | .spiWrite bytes a => Sys2Proof.Machine.execSpiWrite bytes a s
  | .spiStatus cmd clocked => Sys2Proof.Machine.execSpiStatus cmd clocked s
  | .flr pf => Sys2Proof.Machine.execFlr pf s
  | .pcieLinkLost corr uncorr => Sys2Proof.Machine.execPcieLinkLost corr uncorr s
  | .pcieLinkUp width speed => Sys2Proof.Machine.execPcieLinkUp width speed s
  | .dmaTailWrite m ring idx => Sys2Proof.Machine.execDmaTailWrite m ring idx s
  | .dmaDescFetch ring slot d => Sys2Proof.Machine.execDmaDescFetch ring slot d s
  | .dmaRxFrame cls => Sys2Proof.Machine.execDmaRxFrame cls s
  | .dmaTxComplete ring => Sys2Proof.Machine.execDmaTxComplete ring s
  | .dmaStampTimeout ring idx ms => Sys2Proof.Machine.execDmaStampTimeout ring idx ms s
  | .ringErr ring corr uncorr => Sys2Proof.Machine.execRingErr ring corr uncorr s
  | .dmaModTimer ring us => Sys2Proof.Machine.execDmaModTimer ring us s
  | .dqPendClear m v => Sys2Proof.Machine.execDqPendClear m v s
  | .dmaRingEnable m ring w => Sys2Proof.Machine.execDmaRingEnable m ring w s
  | .dmaDisable m => Sys2Proof.Machine.execDmaDisable m s
  | .expertKeyWrite m v sinceArm => Sys2Proof.Machine.execExpertKeyWrite m v sinceArm s
  | .expertWindowTimeout m => Sys2Proof.Machine.execExpertWindowTimeout m s
  | .vectorAck m v => Sys2Proof.Machine.execVectorAck m v s
  | .msixUnmask pf vec masked => Sys2Proof.Machine.execMsixUnmask pf vec masked s
  | .pgEvtClear m page v same => Sys2Proof.Machine.execPgEvtClear m page v same s
  | .rsLeadRead m slot tick => Sys2Proof.Machine.execRsLeadRead m slot tick s
  | .t108ReadSnapshot m slot tick => Sys2Proof.Machine.execT108ReadSnapshot m slot tick s
  | .t108CommitWrite m slot v a => Sys2Proof.Machine.execT108CommitWrite m slot v a s
  | .shadowWrite m slot v => Sys2Proof.Machine.execShadowWrite m slot v s
  | .widthAccess m write slot => Sys2Proof.Machine.execWidthAccess m write slot s
  | .registerWrite m slot v a => Sys2Proof.Machine.execRegisterWrite m slot v a s
  | .jtagPinInstruction pin => Sys2Proof.Machine.execJtagPinInstruction pin s
  | .jtagPrivateInstruction => Sys2Proof.Machine.execJtagPrivateInstruction s
  | .jtagInstructionExit => Sys2Proof.Machine.execJtagInstructionExit s
  | .tmpNowClear sensor => Sys2Proof.Machine.execTmpNowClear sensor s
  | .laneLockChange link lane locked tick => Sys2Proof.Machine.execLaneLockChange link lane locked tick s
  | .bypassSynthRelock => Sys2Proof.Machine.execBypassSynthRelock s
  | .pllLockHeld pll => Sys2Proof.Machine.execPllLockHeld pll s

end Sys2Proof.Machine
end

