-- ==== Sys2Proof/Machine/Step.lean ====
section
/-! DEFINITION.
One step: take the command at the front of the queue and run it with the queue's rest.
-/
namespace Sys2Proof.Machine
open Sys2Proof

/-- The command at the front of the queue is executed with the queue's rest; on an empty queue the device idles (log entry 2). -/
def step (s : State) : Host.Outcome State Fault Refusal :=
  match s.pending with
  | [] => .next s
  | c :: rest => exec c { s with pending := rest }

/-- The command that the word spells, put at the front of the queue; the table gives no row any bits, so no word spells a command. -/
def State.withFetchWord (s : State) (nbits w : Nat) : State :=
  match Sys2Proof.decodeTableWord nbits w with
  | some c => { s with pending := c :: s.pending }
  | none => s

end Sys2Proof.Machine
end

