-- ==== Sys2Proof/WellFormed.lean ====
section
/-! DEFINITION.
Well-formed commands: every unit number names a unit that the device has (R1, R15, R13; the page counts of R98).
-/
namespace Sys2Proof

/-- The units a command names exist.  A command that names none, or whose number the spec takes from a register field and answers itself, is well formed. -/
def Instr.wf (c : Instr) : Bool :=
  match c with
  | .vinGood _ => true
  | .holdupReady => true
  | .hitchedEntry => true
  | .nvmScan _ _ => true
  | .keyLoad => true
  | .bankSelect => true
  | .islandRelease => true
  | .imageApply _ _ => true
  | .rollingEntry _ => true
  | .timedEntry => true
  | .steadyEntry => true
  | .resetNAssert => true
  | .resetNRelease => true
  | .perstAssert => true
  | .perstRelease => true
  | .pcieConfigRequest pf _ _ => decide (pf < 2)
  | .powerFailWarning _ _ _ => true
  | .pfShutdown _ => true
  | .pfSaveDone => true
  | .rideThrough _ _ => true
  | .holdupEnd => true
  | .powerOnAfterShutdown _ => true
  | .nvmRecordWrite w => decide (w.area < 5)
  | .nvmSectorErase sector => decide (sector < 512)
  | .bootLoad _ => true
  | .bootErase _ _ => true
  | .bankEraseDone => true
  | .writeOpen _ _ => true
  | .imgDataWrite _ _ => true
  | .writeClose _ _ => true
  | .fabricReset _ _ => true
  | .fabricDone _ _ => true
  | .islandClockCheck _ _ _ => true
  | .couplingTransfer src dst _ _ _ => decide (max src dst < 16)
  | .couplingResume src dst _ => decide (max src dst < 16)
  | .axleSubframe island _ _ => decide (island < 16)
  | .axmark _ _ _ => true
  | .voteUpdate _ _ _ _ => true
  | .coreCatchupDone core => decide (core < 3)
  | .rejoinExpiry core => decide (core < 3)
  | .coreReadmit core => decide (core < 3)
  | .coreShuntApply => true
  | .voteSet _ => true
  | .hostStepSubmit _ _ => true
  | .cancelStep _ => true
  | .recover _ _ => true
  | .utcOffsetWrite _ _ => true
  | .leapSchedule _ _ => true
  | .leapPend => true
  | .ocxoWarmSet => true
  | .ocxoWarmClear => true
  | .cellHeatDone => true
  | .cellLineFound => true
  | .cellResonanceLock => true
  | .cellAcquireTimeout => true
  | .cellSignalLost => true
  | .cellMeasurement _ => true
  | .cellRestart _ => true
  | .cellStop _ => true
  | .candidateSample slot _ => decide (slot < 12)
  | .candTimeout slot _ => decide (slot < 12)
  | .candQualified slot => decide (slot < 12)
  | .wtrDone slot => decide (slot < 12)
  | .refInEdge input _ _ _ _ => decide (input < 4)
  | .esmcReceive slot _ _ => decide (slot < 12)
  | .esmcTimeout slot => decide (slot < 12)
  | .selSwitch _ _ => true
  | .selHoldover _ => true
  | .selRelease _ => true
  | .selClearWtr _ _ => true
  | .lockoutWrite _ _ => true
  | .prepareEnd => true
  | .settleTimeout => true
  | .steerSubmit _ _ => true
  | .steerDone => true
  | .servoUpdate _ _ => true
  | .hostFeedMode _ _ => true
  | .hostOffsetSubmit _ _ _ => true
  | .holdFit => true
  | .holdRecordPeriod => true
  | .pllBandChosen pll _ => decide (pll < 4)
  | .pllLocked pll _ _ => decide (pll < 4)
  | .pllLockFail pll => decide (pll < 4)
  | .pllUnlock pll _ => decide (pll < 4)
  | .pllRefLost pll => decide (pll < 4)
  | .pllRefRestored pll _ => decide (pll < 4)
  | .pllRelock _ pll => decide (pll < 4)
  | .pllDisable _ pll => decide (pll < 4)
  | .bypassSynthUnlock => true
  | .clkReturnToPll n => decide (n < 4)
  | .started out => decide (out < 8)
  | .pulseEdge n => decide (n < 4)
  | .outRealign _ _ _ _ => true
  | .realignDone => true
  | .drvFault out => decide (out < 8)
  | .outDisable _ => true
  | .ticArm _ tic => decide (tic < 8)
  | .ticArmAt _ tic _ => decide (tic < 8)
  | .ticArmAtReached tic _ => decide (tic < 8)
  | .ticEdge tic _ _ _ _ _ => decide (tic < 8)
  | .ticTimeout tic => decide (tic < 8)
  | .ticDisarm _ tic => decide (tic < 8)
  | .ticCalibrate _ tic => decide (tic < 8)
  | .ticAutoCal tic _ => decide (tic < 8)
  | .ticCalDone tic _ _ _ => decide (tic < 8)
  | .ticDisable _ tic => decide (tic < 8)
  | .pairRecal pair _ _ => decide (pair < 61)
  | .pairSwap pair _ => decide (pair < 61)
  | .gnssEpoch _ => true
  | .gnssSampleDelivery => true
  | .channelAcquired ch _ _ _ _ _ => decide (ch < 192)
  | .channelLockDrop ch _ => decide (ch < 192)
  | .channelSearchWarm ch => decide (ch < 192)
  | .engine => true
  | .surveyDone _ => true
  | .jamSet => true
  | .jamClear => true
  | .ant _ _ _ => true
  | .antBiasRetry => true
  | .coldStart _ => true
  | .clearSuspect _ => true
  | .resurvey _ => true
  | .codeOpen _ => true
  | .codeDataWrite _ _ => true
  | .codeClose _ => true
  | .gnssDisable _ => true
  | .frameReceive port _ _ _ _ _ _ _ => decide (port < 24)
  | .linkLoss port _ _ => decide (port < 24)
  | .linkLock port => decide (port < 24)
  | .linkHoldExpiry port _ => decide (port < 24)
  | .portDisable _ port _ => decide (port < 24)
  | .moduleResetRelease port => decide (port < 24)
  | .moduleRstWrite _ port _ => decide (port < 24)
  | .modPresent port _ => decide (port < 24)
  | .modInt port _ => decide (port < 24)
  | .i2cRead _ port _ _ _ => decide (port < 24)
  | .i2cWrite _ port _ _ _ => decide (port < 24)
  | .restartBus _ port => decide (port < 24)
  | .i2cDone coach _ _ => decide (coach < 6)
  | .i2cStuck coach _ => decide (coach < 6)
  | .gearWindow coach => decide (coach < 6)
  | .frameAdmission coach _ => decide (coach < 6)
  | .cellArrival output _ _ => decide (output < 8)
  | .frameRelease output _ _ => decide (output < 7)
  | .reseqSkip output _ _ _ => decide (output < 7)
  | .spillReissue dst _ _ _ => decide (dst < 25)
  | .aged dst _ => decide (dst < 25)
  | .fdbAgeSweep => true
  | .addStatic _ => true
  | .fdbDelete _ => true
  | .fdbRead _ => true
  | .flushLearned _ => true
  | .flushPort _ => true
  | .switchDisable _ _ => true
  | .frameTransmit port _ _ _ => decide (port < 24)
  | .dramTransferError _ _ _ => true
  | .throttle _ _ => true
  | .carriageParse coach _ => decide (coach < 6)
  | .upstreamAnnounceTimeout port _ => decide (port < 24)
  | .lookupDone coach _ _ _ => decide (coach < 6)
  | .verifyDone coach _ _ => decide (coach < 6)
  | .composeCarriage coach _ _ => decide (coach < 6)
  | .signQueueAdmit coach _ => decide (coach < 6)
  | .signDone coach _ _ => decide (coach < 6)
  | .sealSetupCheck coach _ _ => decide (coach < 6)
  | .launch coach _ _ _ => decide (coach < 6)
  | .multicastTimer port _ _ => decide (port < 24)
  | .coachDisable _ coach => decide (coach < 6)
  | .drained _ => true
  | .wheelSlot coach _ _ => decide (coach < 6)
  | .wheelVisit coach _ _ => decide (coach < 6)
  | .grantExpiry _ _ => true
  | .entryFree _ => true
  | .clientScrub => true
  | .cltAdd _ => true
  | .cltDelete _ => true
  | .cltRead _ => true
  | .cltFind _ => true
  | .cltCancel _ => true
  | .cltWrite _ => true
  | .rebuild _ _ => true
  | .rebuildDone coach => decide (coach < 6)
  | .lcyConfirm _ _ _ => true
  | .lcyProvision _ _ _ _ => true
  | .lcyDeploy _ _ => true
  | .lcyReturn _ _ => true
  | .lcyDisable _ _ => true
  | .lcyChangeDone _ => true
  | .keyCreate _ => true
  | .keyGenerate _ => true
  | .keyDerive _ _ => true
  | .keyImport _ => true
  | .keyUnwrap _ _ => true
  | .keyVerify _ _ _ => true
  | .keyCommit _ _ _ => true
  | .activated => true
  | .keyDiscard _ => true
  | .keyRevoke _ => true
  | .keyErase _ _ => true
  | .keyEraseDone slot => decide (slot < 256)
  | .keyMint _ => true
  | .keyReload _ => true
  | .keyDataAccess _ _ => true
  | .keyPin coach => decide (coach < 6)
  | .keyRelease coach => decide (coach < 6)
  | .keyGraceEnd slot => decide (slot < 256)
  | .freed slot => decide (slot < 256)
  | .drbgReseed => true
  | .keyStoreCompact => true
  | .keyMemoryError slot => decide (slot < 256)
  | .tamperAlarm sensor => decide (sensor < 6)
  | .tmpLatchClear _ _ => true
  | .tmpPolicyWrite _ _ _ => true
  | .statement _ => true
  | .genHash => true
  | .genPrepare _ _ => true
  | .genCancel _ => true
  | .preparedReport island => decide (island < 16)
  | .genDecision => true
  | .appliedReport island => decide (island < 16)
  | .appliedTimeout _ => true
  | .unfenced => true
  | .migrationStart lane => decide (lane < 24)
  | .migrationFenceFixed lane _ => decide (lane < 24)
  | .migrationFence lane _ => decide (lane < 24)
  | .migrated lane => decide (lane < 24)
  | .shuntCmd _ _ _ => true
  | .shntReturn _ _ _ => true
  | .migrateCmd _ _ _ _ => true
  | .shuntReturnDone _ _ _ _ _ _ => true
  | .proveStart => true
  | .runNow _ => true
  | .proveStop _ => true
  | .proveUnitDone _ _ _ _ _ => true
  | .proveWindowEnd => true
  | .ttSend => true
  | .ttReceive link _ _ => decide (link < 2)
  | .renewSend _ => true
  | .renewReceive link _ _ => decide (link < 2)
  | .ackReceive link _ => decide (link < 2)
  | .leaseStop _ => true
  | .claimStart _ => true
  | .claimReceive link _ _ => decide (link < 2)
  | .replyReceive link _ _ => decide (link < 2)
  | .claimTimeout _ => true
  | .handover _ _ _ => true
  | .handoverReceive link _ => decide (link < 2)
  | .handoverTake _ => true
  | .handoverTimeout _ => true
  | .selFrameReceive link _ => decide (link < 2)
  | .leapFrameReceive link _ => decide (link < 2)
  | .leapFrameSend => true
  | .clientFrameReceive link _ => decide (link < 2)
  | .sweepReceive link _ _ => decide (link < 2)
  | .sweepSend => true
  | .hbLost link _ => decide (link < 2)
  | .heartbeatReturn link _ => decide (link < 2)
  | .dugLinkDownTimer link => decide (link < 2)
  | .sleep _ => true
  | .wake _ => true
  | .wakeDone _ _ => true
  | .faultLineRise _ _ _ _ => true
  | .faultLineFall line _ => decide (line < 36)
  | .fltAck _ => true
  | .fltRelease _ => true
  | .released => true
  | .fltLatchClear _ _ => true
  | .fltSevWrite _ _ _ _ _ => true
  | .fltSoftWrite _ _ => true
  | .wdogKick _ => true
  | .wdogCfgWrite _ _ => true
  | .wdogExpiry _ => true
  | .injSramEcc _ _ _ => true
  | .injCouple _ _ _ _ _ => true
  | .injDramCrc _ _ _ => true
  | .injVote _ _ _ => true
  | .injNvmCrc _ _ => true
  | .injDone _ => true
  | .thmSample _ => true
  | .recTrigger island _ => decide (island < 16)
  | .recRecordWrite => true
  | .journalBatchWrite _ _ _ _ => true
  | .fetch _ => true
  | .fetchDone => true
  | .hostMark _ _ => true
  | .codeSelWrite _ _ => true
  | .codeCfgWrite _ _ => true
  | .spiRead _ _ _ _ => true
  | .spiWrite _ _ => true
  | .spiStatus _ _ => true
  | .flr pf => decide (pf < 2)
  | .pcieLinkLost _ _ => true
  | .pcieLinkUp _ _ => true
  | .dmaTailWrite _ ring _ => decide (ring < 8)
  | .dmaDescFetch ring _ _ => decide (ring < 8)
  | .dmaRxFrame cls => decide (cls < 8)
  | .dmaTxComplete ring => decide (ring < 8)
  | .dmaStampTimeout ring _ _ => decide (ring < 8)
  | .ringErr ring _ _ => decide (ring < 8)
  | .dmaModTimer ring _ => decide (ring < 8)
  | .dqPendClear _ _ => true
  | .dmaRingEnable _ ring _ => decide (ring < 8)
  | .dmaDisable _ => true
  | .expertKeyWrite _ _ _ => true
  | .expertWindowTimeout _ => true
  | .vectorAck _ _ => true
  | .msixUnmask pf vec _ => decide (vec < 32) && decide (pf < 2)
  | .pgEvtClear _ _ _ _ => true
  | .rsLeadRead _ _ _ => true
  | .t108ReadSnapshot _ _ _ => true
  | .t108CommitWrite _ _ _ _ => true
  | .shadowWrite _ _ _ => true
  | .widthAccess _ _ _ => true
  | .registerWrite _ _ _ _ => true
  | .jtagPinInstruction _ => true
  | .jtagPrivateInstruction => true
  | .jtagInstructionExit => true
  | .tmpNowClear sensor => decide (sensor < 6)
  | .laneLockChange link _ _ _ => decide (link < 2)
  | .bypassSynthRelock => true
  | .pllLockHeld pll => decide (pll < 4)

end Sys2Proof
end

