-- ==== Sys2Proof/Safety.lean ====
section
/-! DEFINITION.
The words in which claims about the device are made: what it is for a command to complete, for a register to be open to a master, for an event to show, and
for a state to differ from another in named registers only.
-/
namespace Sys2Proof.Machine
open Sys2Proof

/-- The command answers a next state, and `P` holds of it. -/
def Completes (c : Instr) (s : State) (P : State → Prop) : Prop := ∃ t, exec c s = .next t ∧ P t

/-- A write of the master to the slot reaches its register: the register fabric is up, the page is not dead, and an expert slot finds its page's XEN set and the
master's window open (R54, R86, R89). -/
abbrev Open (s : State) (m : Master) (slot : Nat) : Prop :=
  s.hostUp m = true ∧ s.pageDead (slot / 512) = false ∧ (expertSlot slot = false ∨ s.expertOk m (slot / 512) = true)

/-- A command of the master through the WC register of this STATUS field is accepted: the register is open and its last command has completed (R9). -/
abbrev Accepts (s : State) (m : Master) (status : Fld) : Prop := Open s m status.slot ∧ s.get status ≠ 1

/-- The event's bit of PG_EVT is set (R87). -/
abbrev Event (t : State) (page bit : Nat) : Prop := bitOn (t.rd (R.PG_EVT page)).toNat bit = true

/-- Every register outside the list reads as before. -/
def OnlySlots (l : List Nat) (s t : State) : Prop := ∀ a, a ∉ l → t.rd a = s.rd a

/-- Every register outside the pages of the list reads as before. -/
def OnlyPages (l : List Nat) (s t : State) : Prop := ∀ a, a / 512 ∉ l → t.rd a = s.rd a

/-- Nothing but registers differs. -/
def OnlyRegs (s t : State) : Prop := t = { s with regs := t.regs }

/-- Nothing differs but registers, what reports to the host (messages and their pending bits, recorder triggers, what has left the device), and the count of free
values taken. -/
def OnlyReports (s t : State) : Prop := t = { s with regs := t.regs, host := t.host, erec := t.erec, sent := t.sent, free := t.free }

/-- The register stores are in canonical form: slot addresses strictly rising, and no slot listed with the word it resets to. -/
def RegsWf (s : State) : Prop := s.regs.wf = true ∧ s.shadow.wf = true ∧ s.staging.wf = true

/-- A KEY.CMD of the master runs at once: KEY is open to it, no command of KV runs or waits, no tamper is latched and no life-cycle change is under way (R378, R380). -/
abbrev KeyTurn (s : State) (m : Master) : Prop :=
  Open s m R.KEY_CMD ∧ s.keyGet m R.KEY_CMD_STATUS ≠ 1 ∧ s.key.running = none ∧ s.key.waiting = [] ∧ s.rd R.TMP_LATCH = 0 ∧ s.key.lcyRun = none

/-- The three cores hold the same SRV and HOLD registers, and none of them is dead (R86, R129). -/
def InStep (s : State) : Prop := s.cores.apart = [] ∧ ∀ k, k < 3 → s.islandDead (2 + k) = false

/-- No key slot but `k` differs. -/
def OnlyKey (k : Nat) (s t : State) : Prop := ∀ j, j ≠ k → t.slotK j = s.slotK j

/-- A Dugil frame on a link is taken: the link is in use, and the frame's MAGIC, FCS, TYPE and GROUP are right (R424). -/
abbrev Taken (s : State) (n : Nat) (f : DugFrame) : Prop := n ∈ s.dugLinks ∧ f.ok = true ∧ f.group = s.get R.DUG_CFG_GROUP

/-- From `s` to `t` a Dugil frame with the payload has left the link on the lane. -/
def Sends (s t : State) (n lane : Nat) (b : DugBody) : Prop := ∃ f l, t.sent = l ++ s.sent ∧ Out.dugil n lane f ∈ l ∧ f.body = b

end Sys2Proof.Machine
end

