-- ==== Sys2Proof/Certificates/Slice0/Obligations.lean ====
section
/-! DEFINITION.
The statements about the device that the provers prove.  `Completes c s P`: the command answers a next state of which `P` holds.
-/
section
open Sys2Proof Sys2Proof.Machine

/-! ## The staged start (R54 to R61, R72, R77) -/

/-- R54, R56, R59, R69, R72, R77, R81: the start from VIN good to the choice of a bank: AO leaves power-on reset; the hold-up store reports; MGT and KV are released and no
other island is; the scan counts the records without a commit word and the corrupt ones, in the areas and
in the banks, and the word errors that it meets; the key slots load unless the tamper latch is set; without a valid bank
the start holds in HITCHED with HOLD_WHY 1. -/
def Obligations.StartRunsToTheChoiceOfABank : Prop :=
  (∀ (s : State) (mv : Nat), s.boot.pos = .off → 10500 ≤ mv → mv < 65536 →
    Completes (.vinGood mv) s fun t => t.boot.pos = .ao ∧ t.boot.pins = .inReset ∧ t.get R.PWR_VIN_MV = mv ∧ t.get R.BOOT_CAUSE_POR = 1 ∧ t.isl = s.isl) ∧
  (∀ s : State, s.boot.pos ≠ .off → s.boot.pf = .none →
    Completes .holdupReady s fun t => t.get R.PWR_STAT_HOLDUP_RDY = 1 ∧ OnlyRegs s t ∧ OnlySlots [R.PWR_STAT] s t) ∧
  (∀ s : State, s.boot.pos = .ao → s.boot.resetLow = false → s.boot.pf ≠ .down → s.get R.PWR_STAT_HOLDUP_RDY = 1 →
    Completes .hitchedEntry s fun t => t.boot.pos = .hitched ∧ t.boot.pins = .hitched ∧ t.up islMGT = true ∧ t.up islKV = true ∧
      ∀ i, 2 ≤ i → i ≤ 14 → t.up i = s.up i) ∧
  (∀ (s : State) (corr : Nat) (errs : List (Nat × Nat)), s.boot.pos = .hitched →
    let u := s.scanReads corr errs
    let ends := [bankEnd u.nvm.bankA, bankEnd u.nvm.bankB]
    Completes (.nvmScan corr errs) s fun t => t.boot.pos = .scanned ∧ t.nvm = u.nvm ∧ (errs = [] → t.nvm = s.nvm) ∧
      t.get R.BOOT_NVM_SCAN_UNCOMMITTED = min 255 ((u.allRecs.filter (fun r => decide (r.state = .uncommitted))).length + ends.count 2) ∧
      t.get R.BOOT_NVM_SCAN_CORRUPT = min 255 ((u.allRecs.filter (fun r => decide (r.state = .corrupt))).length + ends.count 3) ∧
      t.get R.NVM_ECC_CORR_COUNT = min (s.get R.NVM_ECC_CORR_COUNT + corr) (2 ^ R.NVM_ECC_CORR_COUNT.w - 1) ∧
      t.get R.NVM_ECC_UNCORR_COUNT = min (s.get R.NVM_ECC_UNCORR_COUNT + errs.length) (2 ^ R.NVM_ECC_UNCORR_COUNT.w - 1)) ∧
  (∀ s : State, s.boot.pos = .scanned →
    Completes .keyLoad s fun t => t.boot.pos = .keys ∧
      (s.rd R.TMP_LATCH ≠ 0 → t.key.slots = s.key.slots ∧ t.get R.KEY_STATUS_SUPPRESSED = 1 ∧ t.get R.BOOT_CAUSE_KEYS_SUPPRESSED = 1) ∧
      (s.rd R.TMP_LATCH = 0 → s.get R.TMP_NOW_SENSOR = 0 → t.key.alive = true ∧ t.get R.KEY_STATUS_SUPPRESSED = 0)) ∧
  (∀ s : State, s.boot.pos = .keys →
    Completes .bankSelect s fun t =>
      (bankWhy s.nvm.bankA s.lcs ≠ 0 ∧ bankWhy s.nvm.bankB s.lcs ≠ 0 → t.boot.pos = .held ∧ t.get R.BOOT_STAGE_HOLD_WHY = 1 ∧ Event t P.BOOT E.BOOT_NO_IMAGE) ∧
      (bankWhy s.nvm.bankA s.lcs = 0 ∨ bankWhy s.nvm.bankB s.lcs = 0 → s.boot.holdAtReset = true → t.boot.pos = .held ∧ t.get R.BOOT_STAGE_HOLD_WHY = 3) ∧
      (bankWhy s.nvm.bankA s.lcs = 0 ∨ bankWhy s.nvm.bankB s.lcs = 0 → s.boot.holdAtReset = false → t.boot.pos = .chosen ∧ t.get R.BOOT_IMG_STAT_LOADED ≠ 0))

/-- R54, R56, R59, R60, R239: the start from a chosen bank to STEADY: LOAD ends a hold and loads the bank that BOOT.CTRL prefers; the remaining islands are released,
DRAM is trained and the axle clock runs; the image entries are applied; ROLLING commits generation 1 and ends the brake of a reset; TIMED and STEADY are entered
at an AXMARK, with the scale's time at it in TIMED_AT and STEADY_AT. -/
def Obligations.StartRunsFromABankToSteady : Prop :=
  (∀ (s : State) (m : Master), Accepts s m R.BOOT_CMD_STATUS → s.boot.pos = .held → s.chooseBank.1 ≠ 0 → s.tapInForce = false →
    Completes (.bootLoad m) s fun t => t.boot.pos = .chosen ∧ t.get R.BOOT_CMD_STATUS = 2 ∧ t.get R.BOOT_STAGE_HOLD_WHY = 0 ∧
      t.get R.BOOT_IMG_STAT_LOADED = s.chooseBank.1) ∧
  (∀ s : State, s.boot.pos = .chosen → s.tapInForce = false →
    Completes .islandRelease s fun t => t.boot.pos = .released ∧ t.ax.running = true ∧ t.get R.DRM_STATUS_TRAINED = 1 ∧
      (∀ i, 2 ≤ i → i ≤ 14 → t.up i = true)) ∧
  (∀ (s : State) (cals : List CalResult) (temp : Int), s.boot.pos = .released → s.tapInForce = false →
    Completes (.imageApply cals temp) s fun t => t.boot.pos = .applied ∧ t.boot.loading = false) ∧
  (∀ (s : State) (us : Nat), s.boot.pos = .applied → s.tapInForce = false → s.ax.started = true → us < 2 ^ 36 →
    Completes (.rollingEntry us) s fun t => t.boot.pos = .rolling ∧ t.boot.pins = .driven ∧ t.get R.BOOT_STAGE_STAGE = 2 ∧ t.flt.brake = .off ∧
      t.get R.GEN_IN_FORCE_GEN = 1 ∧ t.get R.BOOT_T_ROLLING_W = us) ∧
  (∀ s : State, s.ax.started = true → s.get R.BOOT_STAGE_STAGE = 2 → s.timedOk = true →
    Completes .timedEntry s fun t => t.get R.BOOT_STAGE_STAGE = 3 ∧ t.rdT R.BOOT_TIMED_AT = toT108 s.ax.mark % 2 ^ 108) ∧
  (∀ s : State, s.ax.started = true → s.get R.BOOT_STAGE_STAGE = 3 → s.flag R.VOTE_OSC_STAT_OCXO_WARM = true → s.flag R.VOTE_OSC_STAT_CELL_LOCK = true →
      s.get R.HOLD_STATUS_LEARN = 2 →
    Completes .steadyEntry s fun t => t.get R.BOOT_STAGE_STAGE = 4 ∧ t.rdT R.BOOT_STEADY_AT = toT108 s.ax.mark % 2 ^ 108)


/-! ## Pins, resets and the power-fail sequence (R57, R62, R63, R74 to R76, R475 to R477, R511) -/

/-- R62, R63, R57, R475, R477: RESET_N resets every island but AO and applies the brake, with FLT.LATCH kept and CAUSE naming it; its release is only seen by the next HITCHED
entry; PERST_N resets the endpoint, with every DMA register at its reset word; configuration requests are answered with Configuration Request Retry Status until
the endpoint is ready; FLR of one function counts; the link's loss and return show in PCI.LINK, with
the errors counted. -/
def Obligations.ResetPinsAndEndpoint : Prop :=
  (∀ s : State, s.boot.resetLow = false → s.boot.pos ≠ .off → s.boot.pos ≠ .ao →
    Completes .resetNAssert s fun t => t.boot.pos = .ao ∧ t.boot.resetLow = true ∧ t.flt.brake = .resetN ∧ t.get R.BOOT_CAUSE_RESET_N = 1 ∧
      t.rd R.FLT_LATCH = s.rd R.FLT_LATCH ∧ t.key.fuses = s.key.fuses ∧ ∀ i, 1 ≤ i → i ≤ 15 → t.up i = false) ∧
  (∀ s : State, Completes .resetNRelease s fun t => t = { s with boot := { s.boot with resetLow := false } }) ∧
  (∀ s : State, s.boot.perstLow = false → s.up islMGT = true →
    Completes .perstAssert s fun t => t.boot.perstLow = true ∧ t.boot.pcieReady = false ∧ ∀ a, a / 512 = P.DMA → t.rd a = regReset a) ∧
  (∀ s : State, Completes .perstRelease s fun t => t = { s with boot := { s.boot with perstLow := false } }) ∧
  (∀ (s : State) (pf : Nat), pf < 2 → s.boot.perstLow = false → s.up islMGT = true → s.boot.pcieReady = false →
    Completes (.pcieConfigRequest pf false none) s (fun t => t = s.emit (.pcieConfig pf true)) ∧
    Completes (.pcieConfigRequest pf true none) s (fun t => t.boot.pcieReady = true ∧ t.sent = .pcieConfig pf false :: s.sent ∧ OnlyRegs { s with boot := t.boot, sent := t.sent } t)) ∧
  (∀ (s : State) (pf : Nat), pf < 2 → s.mgtServes = true → s.boot.perstLow = false → s.boot.pcieReady = true →
    Completes (.flr pf) s fun t => Event t P.PCI E.PCI_FLR ∧
      t.get (if pf = 1 then R.PCI_FLRS_PF1 else R.PCI_FLRS_PF0) = min (s.get (if pf = 1 then R.PCI_FLRS_PF1 else R.PCI_FLRS_PF0) + 1) (2 ^ R.PCI_FLRS_PF0.w - 1)) ∧
  (∀ (s : State) (corr uncorr : Nat), s.up islMGT = true → s.flag R.PCI_LINK_UP = true →
    Completes (.pcieLinkLost corr uncorr) s fun t => t.get R.PCI_LINK_DOWNS_COUNT = min (s.get R.PCI_LINK_DOWNS_COUNT + 1) (2 ^ R.PCI_LINK_DOWNS_COUNT.w - 1) ∧
      t.get R.PCI_ERR_UNCORR_COUNT = min (s.get R.PCI_ERR_UNCORR_COUNT + uncorr) (2 ^ R.PCI_ERR_UNCORR_COUNT.w - 1) ∧ (0 < uncorr → Event t P.PCI E.PCI_ERR) ∧ t.get R.PCI_LINK_UP = 0 ∧ (28, 0) ∈ t.flt.causes ∧ ∀ q, q < 8 → t.ringOn q = false) ∧
  (∀ (s : State) (width speed : Nat), s.up islMGT = true → s.boot.perstLow = false → s.flag R.PCI_LINK_UP = false → width < 2 ^ R.PCI_LINK_WIDTH.w → speed < 2 ^ R.PCI_LINK_SPEED.w →
    Completes (.pcieLinkUp width speed) s fun t => t.get R.PCI_LINK_UP = 1 ∧ t.get R.PCI_LINK_WIDTH = width ∧ t.get R.PCI_LINK_SPEED = speed ∧ Event t P.PCI E.PCI_LINK)

/-- R74 to R76, R511: the warning latches PFW and PFW_HOLD and starts the save with the words of R74; without a charged store, or 1.0 ms later, the device shuts
down with the brake and every island but AO in reset; the save ends in a committed PF_SAVE record; a return of VIN within the millisecond ends the warning and
counts a ride-through; when the hold-up ends only what is nonvolatile is left; VIN back at 10.5 V begins a power-on start. -/
def Obligations.PowerFailSavesThenShutsDown : Prop :=
  (∀ (s : State) (tick : Nat) (mv : Nat) (w : Option NvWrite), s.boot.pos ≠ .off → s.boot.pf = .none → s.flag R.PWR_STAT_HOLDUP_RDY = true →
    Completes (.powerFailWarning tick mv w) s fun t => t.boot.pf = .warned ∧ t.get R.PWR_STAT_PFW = 1 ∧ t.get R.NVM_STATUS_PFW_HOLD = 1 ∧ Event t P.PWR E.PWR_PFW ∧
      (w = none → t.nvm.saving = some (s.pfPayload (s.instAt tick)))) ∧
  (∀ (s : State) (tick : Nat) (mv : Nat) (w : Option NvWrite), s.boot.pos ≠ .off → s.boot.pf = .none → s.flag R.PWR_STAT_HOLDUP_RDY = false →
    Completes (.powerFailWarning tick mv w) s fun t => t.boot.pf = .down ∧ t.flt.brake = .shutdown ∧ ∀ i, 1 ≤ i → i ≤ 15 → t.up i = false) ∧
  (∀ (s : State) (tick : Nat), s.boot.pf = .warned →
    Completes (.pfShutdown tick) s fun t => t.boot.pf = .down ∧ t.flt.brake = .shutdown ∧ ∀ i, 1 ≤ i → i ≤ 15 → t.up i = false) ∧
  (∀ (s : State) (p : List Word), s.nvm.saving = some p →
    Completes .pfSaveDone s fun t => t.nvm.saving = none ∧ (t.newest .startSave [0x31]).map (fun r => r.payload) = some p) ∧
  (∀ (s : State) (least mv : Nat), s.boot.pf = .warned → least < 65536 → mv < 65536 →
    Completes (.rideThrough least mv) s fun t => t.boot.pf = .none ∧ t.get R.PWR_STAT_PFW = 0 ∧ t.get R.PWR_STAT_VIN_GOOD = 1 ∧ t.get R.NVM_STATUS_PFW_HOLD = 0 ∧
      t.get R.PWR_RIDE_MIN_MV = least ∧ t.get R.PWR_VIN_MV = mv ∧ Event t P.PWR E.PWR_PFW_RIDE ∧ t.nvm.saving = none ∧
      t.get R.PWR_RIDE_COUNT_COUNT = min (s.get R.PWR_RIDE_COUNT_COUNT + 1) (2 ^ R.PWR_RIDE_COUNT_COUNT.w - 1)) ∧
  (∀ s : State, s.boot.pf = .down → s.nvm.saving = none → s.boot.erasing = 0 →
    Completes .holdupEnd s fun t => t.boot.pos = .off ∧ t.boot.pf = .dark ∧ t.regs = [] ∧ t.nvm = { s.nvm with savingBatches := [] } ∧ t.key.fuses = s.key.fuses) ∧
  (∀ (s : State) (mv : Nat), s.boot.pf = .down ∨ s.boot.pf = .dark → s.nvm.saving = none → 10500 ≤ mv → mv < 65536 →
    Completes (.powerOnAfterShutdown mv) s fun t => t.boot.pos = .ao ∧ t.boot.pf = .none ∧ t.get R.PWR_VIN_MV = mv ∧ t.get R.BOOT_CAUSE_POR = 1 ∧ t.key.fuses = s.key.fuses)


/-! ## Nonvolatile memory and the image banks (R67 to R73, R81) -/

/-- R68, R69, R72, R73, R81: a record that reads back well is the newest committed one of its area, with the scale at its writing, and one that does not stays without its commit word, with
WRITE_FAIL and line 22; an erase counts in the wear table; the bank commands erase, open, fill and close a bank, which keeps its last word only if it is valid. -/
def Obligations.NonvolatileMemoryAndBanks : Prop :=
  (∀ (s : State) (w : NvWrite), w.area < 5 → s.boot.pos ≠ .off → (areaOf w.area).types.contains w.type = true → w.payload.length + 7 ≤ sectorWords →
    Completes (.nvmRecordWrite w) s fun t =>
      (w.ok = true → (t.committed (areaOf w.area)).getLast?.map (fun r => (r.type, r.payload, r.time)) = some (w.type, w.payload, s.instAt w.tick)) ∧
      (w.ok = false → (t.ringOf (areaOf w.area)).recs.getLast?.map (fun r => r.state) = some .uncommitted ∧ Event t P.NVM E.NVM_WRITE_FAIL ∧ (22, 0) ∈ t.flt.causes)) ∧
  (∀ (s : State) (k : Nat), k < 512 → s.boot.pos ≠ .off →
    Completes (.nvmSectorErase k) s fun t => kvGetD t.nvm.wear k 0 = kvGetD s.nvm.wear k 0 + 1 ∧
      t.get R.NVM_ERASES_COUNT = min (s.get R.NVM_ERASES_COUNT + 1) (2 ^ R.NVM_ERASES_COUNT.w - 1)) ∧
  (∀ (s : State) (m : Master) (b : Nat), Accepts s m R.BOOT_CMD_STATUS → m ≠ .pf1 → b = 1 ∨ b = 2 → s.get R.NVM_STATUS_PFW_HOLD = 0 →
      s.get R.BOOT_IMG_STAT_LOADED ≠ b → s.boot.session = 0 →
    Completes (.bootErase m b) s fun t => t.boot.erasing = b ∧ t.get R.BOOT_CMD_STATUS = 1 ∧ t.get R.NVM_STATUS_BUSY = 1 ∧ t.nvm = s.nvm) ∧
  (∀ s : State, s.boot.erasing = 1 ∨ s.boot.erasing = 2 → s.get R.BOOT_CMD_STATUS = 1 →
    Completes .bankEraseDone s fun t => t.boot.erasing = 0 ∧ t.bank s.boot.erasing = [] ∧ t.get (whyFld s.boot.erasing) = 1 ∧ t.get R.BOOT_CMD_STATUS = 2 ∧
      t.get R.NVM_STATUS_BUSY = 0) ∧
  (∀ (s : State) (m : Master) (b : Nat), Accepts s m R.BOOT_CMD_STATUS → m ≠ .pf1 → b = 1 ∨ b = 2 → s.get R.NVM_STATUS_PFW_HOLD = 0 →
      s.get R.BOOT_IMG_STAT_LOADED ≠ b → s.boot.session = 0 → s.get (whyFld b) = 1 →
    Completes (.writeOpen m b) s fun t => t.boot.session = b ∧ t.bank b = [] ∧ t.get (whyFld b) = 8 ∧ t.get R.BOOT_CMD_STATUS = 2) ∧
  (∀ (s : State) (m : Master) (w : Word), Open s m R.BOOT_IMG_DATA → s.boot.session = 1 ∨ s.boot.session = 2 →
    Completes (.imgDataWrite m w) s fun t => t.boot.heldBack = some w ∧
      (∀ h, s.boot.heldBack = some h → (s.bank s.boot.session).length < bankWords → t.bank s.boot.session = s.bank s.boot.session ++ [h])) ∧
  (∀ (s : State) (m : Master) (b : Nat), Accepts s m R.BOOT_CMD_STATUS → m ≠ .pf1 → s.get R.NVM_STATUS_PFW_HOLD = 0 → s.boot.session = 1 ∨ s.boot.session = 2 →
    Completes (.writeClose m b) s fun t => t.boot.session = 0 ∧
      (bankWhy (s.placeHeld.bank s.boot.session) s.lcs = 0 → t.bank s.boot.session = s.placeHeld.bank s.boot.session ∧ t.get R.BOOT_CMD_STATUS = 2) ∧
      (bankWhy (s.placeHeld.bank s.boot.session) s.lcs ≠ 0 → t.bank s.boot.session = s.bank s.boot.session ∧ t.get R.BOOT_CMD_STATUS = 6))


/-! ## Fault collector (R444 to R459) -/

/-- R446 to R458: a line that rises is latched and shown, and the first one of the collector is named in FLT.FIRST; a FATAL line brakes; a line that nothing holds any
more falls and stays latched; ACK clears FIRST.VALID and MERGED and leaves FLT.LATCH; a severity takes effect at the write. -/
def Obligations.FaultLinesRiseLatchAndFall : Prop :=
  (∀ (s : State) (line tick : Nat) (cuts : List (Nat × TxRef)) (slot : Nat), line < 36 → s.present line = false →
    Completes (.faultLineRise (2 ^ line) tick cuts slot) s fun t => t.present line = true ∧ t.latched line = true ∧
      (s.get R.FLT_FIRST_VALID = 0 → t.rd R.FLT_FIRST = (firstWords line (s.sev line) (s.instAt tick) s.noTime).getD 0 0) ∧
      (s.sev line = 3 → t.flt.brake ≠ .off)) ∧
  (∀ (s : State) (line tick : Nat), line < 36 → s.present line = true → (∀ c, (line, c) ∈ s.flt.causes → c = 0) →
    Completes (.faultLineFall line tick) s fun t => t.present line = false ∧ t.rd R.FLT_LATCH = s.rd R.FLT_LATCH) ∧
  (∀ (s : State) (m : Master), Accepts s m R.FLT_CMD_STATUS →
    Completes (.fltAck m) s fun t => t.get R.FLT_CMD_STATUS = 2 ∧ t.get R.FLT_FIRST_VALID = 0 ∧ t.get R.FLT_MERGED_COUNT = 0 ∧ t.rd R.FLT_LATCH = s.rd R.FLT_LATCH ∧
      OnlyRegs s t ∧ OnlySlots [R.FLT_FIRST, R.FLT_MERGED, R.FLT_CMD] s t) ∧
  (∀ (s : State) (m : Master) (bits : Word), Open s m R.FLT_LATCH →
    Completes (.fltLatchClear m bits) s fun t => t.rd R.FLT_LATCH = s.rd R.FLT_LATCH &&& ~~~(bits &&& ~~~(s.rd R.FLT_NOW))) ∧
  (∀ (s : State) (m : Master) (v : Word) (cuts : List (Nat × TxRef)) (slot : Nat),
    (Open s m R.FLT_SEV_LO → Completes (.fltSevWrite m false v cuts slot) s fun t => t.rd R.FLT_SEV_LO = v ∧ t.rd R.FLT_SEV_HI = s.rd R.FLT_SEV_HI) ∧
    (Open s m R.FLT_SEV_HI → Completes (.fltSevWrite m true v cuts slot) s fun t => t.rd R.FLT_SEV_HI = v ∧ t.rd R.FLT_SEV_LO = s.rd R.FLT_SEV_LO)) ∧
  (∀ (s : State) (m : Master) (v : Word), Open s m R.FLT_SOFT →
    Completes (.fltSoftWrite m v) s fun t => t.get R.FLT_SOFT_RAISE = R.FLT_SOFT_RAISE.of v ∧ ((34, 1) ∈ t.flt.causes ↔ R.FLT_SOFT_RAISE.of v = 1)) ∧
  (∀ (s : State) (m : Master), Open s m R.FLT_WDOG → Completes (.wdogKick m) s fun t => (35, 1) ∉ t.flt.causes ∧ t.regs = s.regs) ∧
  (∀ (s : State) (m : Master) (v : Word), Open s m R.FLT_WDOG_CFG →
    Completes (.wdogCfgWrite m v) s fun t => t.get R.FLT_WDOG_CFG_PERIOD = R.FLT_WDOG_CFG_PERIOD.of v ∧ OnlyRegs s t ∧ OnlySlots [R.FLT_WDOG_CFG] s t) ∧
  (∀ (s : State) (ms : Nat), s.get R.FLT_WDOG_CFG_PERIOD ≠ 0 → s.get R.FLT_WDOG_CFG_PERIOD ≤ ms → Completes (.wdogExpiry ms) s fun t => (35, 1) ∈ t.flt.causes ∧ t.regs = s.regs)

/-- R454: RELEASE completes with the status of the first matching row of its table, or is accepted and takes effect at RELEASED: the brake ends, with its event. -/
def Obligations.BrakeIsReleasedByTheTable : Prop :=
  (∀ (s : State) (m : Master) (st : Nat), Accepts s m R.FLT_CMD_STATUS → s.releaseStatus = some st →
    Completes (.fltRelease m) s fun t => t.get R.FLT_CMD_STATUS = st ∧ t.flt = s.flt) ∧
  (∀ (s : State) (m : Master), Accepts s m R.FLT_CMD_STATUS → s.releaseStatus = none →
    Completes (.fltRelease m) s fun t => t.get R.FLT_CMD_STATUS = 1 ∧ t.flt.releaseAsked = true ∧ t.flt.brake = s.flt.brake) ∧
  (∀ s : State, s.flt.releaseAsked = true → s.releaseStatus = none →
    Completes .released s fun t => t.flt.releaseAsked = false ∧ t.flt.brake = .off ∧ t.flt.swStopped = false ∧ t.get R.FLT_CMD_STATUS = 2 ∧ Event t P.FLT E.FLT_RELEASED)

/-- R459: from ROLLING on, outside a proving run of the checker, each injection is armed with its unit and count, STATUS 1; it ends DETECTED, counted, or MISSED with the
line of the checker's block. -/
def Obligations.FaultInjectionsRunAndEnd : Prop :=
  (∀ (s : State) (m : Master) (unit : Nat) (quiet : Bool), unit < 2 → Accepts s m R.FLT_INJ_STATUS → s.provingChecker 1 = false → 2 ≤ s.get R.BOOT_STAGE_STAGE →
    Completes (.injSramEcc m unit quiet) s fun t => t.get R.FLT_INJ_STATUS = 1 ∧
      t.flt.inj = some { checker := 1, unit := unit, to_ := 0, left := 1, quiet := quiet, flagged := false }) ∧
  (∀ (s : State) (m : Master) (src dst n : Nat) (quiet : Bool), Accepts s m R.FLT_INJ_STATUS → s.provingChecker 2 = false → 2 ≤ s.get R.BOOT_STAGE_STAGE → coupledAny src dst = true →
    Completes (.injCouple m src dst n quiet) s fun t => t.get R.FLT_INJ_STATUS = 1 ∧
      t.flt.inj = some { checker := 2, unit := src, to_ := dst, left := clampNat 1 3 n, quiet := quiet, flagged := false }) ∧
  (∀ (s : State) (m : Master) (n : Nat) (quiet : Bool), Accepts s m R.FLT_INJ_STATUS → s.provingChecker 3 = false → 2 ≤ s.get R.BOOT_STAGE_STAGE →
    Completes (.injDramCrc m n quiet) s fun t => t.get R.FLT_INJ_STATUS = 1 ∧
      t.flt.inj = some { checker := 3, unit := 0, to_ := 0, left := clampNat 1 5 n, quiet := quiet, flagged := false }) ∧
  (∀ (s : State) (m : Master) (core : Nat) (quiet : Bool), core < 3 → Accepts s m R.FLT_INJ_STATUS → s.provingChecker 4 = false → 2 ≤ s.get R.BOOT_STAGE_STAGE → s.get R.VOTE_STATUS_MODE = 1 →
    Completes (.injVote m core quiet) s fun t => t.get R.FLT_INJ_STATUS = 1 ∧
      t.flt.inj = some { checker := 4, unit := core, to_ := 0, left := 1, quiet := quiet, flagged := false }) ∧
  (∀ (s : State) (m : Master) (quiet : Bool), Accepts s m R.FLT_INJ_STATUS → s.provingChecker 5 = false → 2 ≤ s.get R.BOOT_STAGE_STAGE →
    Completes (.injNvmCrc m quiet) s fun t => t.get R.FLT_INJ_STATUS = 1 ∧
      t.flt.inj = some { checker := 5, unit := 0, to_ := 0, left := 1, quiet := quiet, flagged := false }) ∧
  (∀ (s : State) (i : Injection) (expired : Bool), s.flt.inj = some i →
    Completes (.injDone expired) s fun t =>
      (i.flagged = true → t.flt.inj = none ∧ Event t P.FLT E.FLT_INJ_DONE ∧ t.get R.FLT_INJ_STATUS = 2 ∧
        t.get R.FLT_INJ_DETECT_COUNT = min (s.get R.FLT_INJ_DETECT_COUNT + 1) (2 ^ R.FLT_INJ_DETECT_COUNT.w - 1)) ∧
      (i.flagged = false → expired = true → t.flt.inj = none ∧ Event t P.FLT E.FLT_INJ_DONE ∧ t.get R.FLT_INJ_STATUS = 3 ∧ (injLine i, 0) ∈ t.flt.causes) ∧
      (i.flagged = false → expired = false → t = s))


/-! ## Islands, couplings and the fabric service reset (R12 to R21, R64, R65, R440, R462) -/

/-- R13 to R21, R64, R65, R462: an island whose clock fails shows in AO.ISLCLK_FAIL and in line 29; a group refused for the third time in a row breaks its coupling; a
withheld group waits and crosses later; an axle subframe with a bad CRC is counted; a fabric service reset puts MGT, the coaches and SW into reset and keeps the
number of the generation in force, and its end shows in FABRIC_DOWN and CMD. -/
def Obligations.IslandsCouplingsAndFabricReset : Prop :=
  (∀ (s : State) (dev : Int) (l : List ClockReading) (mv : Nat), s.boot.pos ≠ .off →
    Completes (.islandClockCheck dev l mv) s fun t => (t.get R.AO_STATUS_OSC_BAD = 1 ↔ 1000 < dev.natAbs) ∧ t.get R.PWR_VIN_MV = min mv 65535 ∧
      (t.get R.AO_STATUS_ISLCLK_BAD = 1 ↔ t.get R.AO_ISLCLK_FAIL_ISLANDS ≠ 0) ∧ ((29, 1) ∈ t.flt.causes ↔ t.get R.AO_ISLCLK_FAIL_ISLANDS ≠ 0)) ∧
  (∀ (s : State) (src dst ch : Nat), src < 16 → dst < 16 →
    let l : Link := Link.mk src dst ch
    s.linkUp l = true → l ∉ s.isl.withheld →
    (bitOn (s.get R.AO_ISLCLK_FAIL_ISLANDS) dst = false → s.coupleInj l = none →
      Completes (.couplingTransfer src dst ch true false) s (fun t => t.regs = s.regs ∧ kvGet t.isl.refused (linkKey l) = none) ∧
      Completes (.couplingTransfer src dst ch false false) s (fun t =>
        t.get R.GLB_COUPLE_RETRY_COUNT = min (s.get R.GLB_COUPLE_RETRY_COUNT + 1) (2 ^ R.GLB_COUPLE_RETRY_COUNT.w - 1) ∧
        (kvGetD s.isl.refused (linkKey l) 0 = 2 → l ∈ t.isl.broken ∧ Event t P.GLB E.GLB_COUPLE_BROKEN ∧ (30, 1 + linkKey l) ∈ t.flt.causes ∧ t.linkOpen src dst ch = false) ∧
        (kvGetD s.isl.refused (linkKey l) 0 < 2 → t.isl.broken = s.isl.broken))) ∧
    (∀ ok : Bool, Completes (.couplingTransfer src dst ch ok true) s fun t => l ∈ t.isl.withheld ∧ t.regs = s.regs ∧ t.isl.refused = s.isl.refused)) ∧
  (∀ (s : State) (src dst ch : Nat), src < 16 → dst < 16 → Link.mk src dst ch ∈ s.isl.withheld →
    (∀ ok full : Bool, Completes (.couplingTransfer src dst ch ok full) s fun t => t = s) ∧
    (bitOn (s.get R.AO_ISLCLK_FAIL_ISLANDS) dst = false →
      Completes (.couplingResume src dst ch) s fun t => Link.mk src dst ch ∉ t.isl.withheld ∧ (src ≠ islRH → t.regs = s.regs))) ∧
  (∀ (s : State) (island k err : Nat) (r : AxleRegs), island < 16 → axleRegs island = some r → s.ax.running = true → s.up island = true → k < 8 → s.subStarts k = true →
    readSub k (flipBits err (s.subBits k)) = none →
    Completes (.axleSubframe island k err) s fun t => t.get r.crc = min (s.get r.crc + 1) (2 ^ r.crc.w - 1) ∧ (t.ctrOf island).incNext = (t.ctrOf island).inc) ∧
  (∀ (s : State) (m : Master) (force : Bool), Accepts s m R.BOOT_CMD_STATUS → 2 ≤ s.get R.BOOT_STAGE_STAGE → s.role ≠ 1 ∨ force = true → s.genState = 0 →
    Completes (.fabricReset m force) s fun t => t.get R.BOOT_STAGE_FABRIC_DOWN = 1 ∧ t.get R.BOOT_CAUSE_FABRIC = 1 ∧ t.get R.BOOT_CMD_STATUS = 1 ∧
      t.get R.GEN_IN_FORCE_GEN = s.get R.GEN_IN_FORCE_GEN ∧ (∀ i, bitOn fabricMask i = true → t.up i = false) ∧ (∀ i, bitOn fabricMask i = false → t.up i = s.up i)) ∧
  (∀ (s : State) (cals : List CalResult) (temp : Int), s.get R.BOOT_STAGE_FABRIC_DOWN = 1 → s.up islMGT = true →
    Completes (.fabricDone cals temp) s fun t => t.get R.BOOT_STAGE_FABRIC_DOWN = 0 ∧ t.get R.BOOT_CMD_STATUS = 2 ∧ Event t P.BOOT E.BOOT_FABRIC_DONE)

/-! ## The scale, its steps and loads, UTC and leap seconds (R119 to R128) -/

/-- R119 to R125, R127, R128: the AXMARK takes the scale to the value of its counter at that tick, moved by what was announced; SET, STEP and CANCEL are taken up or
refused; an offset written waits for the mark; a leap is scheduled, refused, and pending from WARN seconds before it. -/
def Obligations.ScaleAndLeapSeconds : Prop :=
  (∀ (s : State) (tick : Nat) (cuts : List (Nat × TxRef)) (ready : Bool), s.ax.running = true → s.gen.reconf = 0 ∨ ready = false →
    (s.ax.started = false → Completes (.axmark tick cuts ready) s fun t => t.ax.started = true ∧ t.ax.mark = 0) ∧
    (s.ax.started = true → tick = s.ax.v.reach (nextMs s.ax.mark) →
      Completes (.axmark tick cuts ready) s fun t => t.ax.mark = s.ax.v.at_ tick + s.jumpAt (s.ax.v.at_ tick))) ∧
  (∀ (s : State) (m : Master), Accepts s m R.VOTE_CMD_STATUS → s.mode ≠ 3 → s.get R.DUG_STATUS_FOLLOW = 0 → s.get R.VOTE_STATUS_TS_SET = 0 ∨ s.timeCommitted = false →
    Completes (.voteSet m) s fun t => t.ax.setReq = some (ofT108 (s.rdT R.VOTE_SET_T)) ∧ t.get R.VOTE_CMD_STATUS = 1 ∧ t.get R.VOTE_STATUS_STEP_PEND = 1 ∧
      t.ax.mark = s.ax.mark) ∧
  (∀ (s : State) (m : Master) (low : Word), Open s m (R.VOTE_STEP + 1) →
    (s.get R.VOTE_STATUS_TS_SET = 1 → s.mode ≠ 3 → 0 ≤ s.voteTime 0 + s.stepsWaiting + s.commitS72 m R.VOTE_STEP low * s72U →
      Completes (.hostStepSubmit m low) s fun t => t.ax.steps = s.ax.steps ++ [PhaseReq.mk 1 (s.commitS72 m R.VOTE_STEP low)] ∧ t.get R.VOTE_STATUS_STEP_PEND = 1) ∧
    (s.get R.VOTE_STATUS_TS_SET = 0 →
      Completes (.hostStepSubmit m low) s fun t => t.ax = s.ax ∧ Event t P.VOTE E.VOTE_STEP_REJ)) ∧
  (∀ (s : State) (m : Master), Accepts s m R.VOTE_CMD_STATUS →
    (s.ax.steps.any (fun q => decide (q.source = 1)) = true →
      Completes (.cancelStep m) s fun t => t.ax.steps = s.ax.steps.filter (fun q => decide (q.source ≠ 1)) ∧ t.get R.VOTE_CMD_STATUS = 2 ∧ Event t P.VOTE E.VOTE_STEP_REJ) ∧
    (s.ax.steps.any (fun q => decide (q.source = 1)) = false → Completes (.cancelStep m) s fun t => t.ax = s.ax ∧ t.get R.VOTE_CMD_STATUS = 5)) ∧
  (∀ (s : State) (m : Master) (v : Word), Open s m R.VOTE_UTC →
    Completes (.utcOffsetWrite m v) s fun t => t.ax.utcReq = some (R.VOTE_UTC_OFFSET.of v) ∧ t.regs = s.regs) ∧
  (∀ (s : State) (m : Master) (v : Word), Open s m R.VOTE_LEAP_CTRL →
    (R.VOTE_LEAP_CTRL_KIND.of v ≠ 3 → s.get R.VOTE_UTC_VALID = 1 → (s.voteTime 0 / secU).toNat + 2 ≤ s.get R.VOTE_LEAP_AT_S →
      Completes (.leapSchedule m v) s fun t => t.get R.VOTE_LEAP_CTRL_KIND = R.VOTE_LEAP_CTRL_KIND.of v ∧ t.get R.VOTE_LEAP_CTRL_WARN = R.VOTE_LEAP_CTRL_WARN.of v ∧
        t.ax = s.ax ∧ (R.VOTE_LEAP_CTRL_KIND.of v ≠ 0 → OnlyRegs s t ∧ OnlySlots [R.VOTE_LEAP_CTRL] s t)) ∧
    (R.VOTE_LEAP_CTRL_KIND.of v = 3 ∨ s.get R.VOTE_UTC_VALID = 0 ∨ s.get R.VOTE_LEAP_AT_S < (s.voteTime 0 / secU).toNat + 2 →
      Completes (.leapSchedule m v) s fun t => t.get R.VOTE_LEAP_CTRL_KIND = s.get R.VOTE_LEAP_CTRL_KIND ∧ Event t P.VOTE E.VOTE_LEAP_REJ)) ∧
  (∀ s : State, s.ax.running = true → s.up islVOTE = true → s.get R.VOTE_LEAP_CTRL_KIND ≠ 0 → s.get R.VOTE_STATUS_LEAP_PEND = 0 →
      s.get R.VOTE_LEAP_AT_S ≤ s.scaleSec + s.get R.VOTE_LEAP_CTRL_WARN →
    Completes .leapPend s fun t => t.get R.VOTE_STATUS_LEAP_PEND = 1 ∧ Event t P.VOTE E.VOTE_LEAP_PEND ∧ t.get R.VOTE_LEAP_CTRL_KIND = s.get R.VOTE_LEAP_CTRL_KIND)

/-! ## The triad (R129 to R137) -/

/-- R117, R130, R131, R133, R134, R136, R137: three cores in agreement vote the median, and the increment follows; a reloaded core stays in PROBATION for
REJOIN_SECONDS and is then back IN at a second mark; a core shunted out of TRIAD leaves a pair; RECOVER is taken up in FAILED only, with a donor. -/
def Obligations.CoresVoteAndRejoin : Prop :=
  (∀ (s : State) (k : Nat) (r0 r1 r2 : CoreReport), s.ax.running = true → s.up islVOTE = true → s.subStarts k = true → s.mode = 1 → s.injWaits 4 = none →
    let v := if k = 0 then s else { s with ax := { s.ax with v := s.ax.v.turn (6250 * k) (!s.subStarts (k + 1)) } }
    let u := ((v.upset 0 r0).upset 1 r1).upset 2 r2
    let x0 := u.coreInput 0 k r0
    let x1 := u.coreInput 1 k r1
    let x2 := u.coreInput 2 k r2
    u.outWhy 0 x0 x1 x2 = 0 → u.outWhy 1 x1 x0 x2 = 0 → u.outWhy 2 x2 x0 x1 = 0 →
    Completes (.voteUpdate k r0 r1 r2) s fun t => t.getS R.VOTE_FREQ_Y = median3 x0.y x1.y x2.y ∧ t.ax.v.incNext = incOf (median3 x0.y x1.y x2.y) ∧ t.mode = 1) ∧
  (∀ (s : State) (k : Nat), k < 3 → s.coreSt k = 2 → (s.ctrOf (2 + k)).loadNow = false →
    Completes (.coreCatchupDone k) s fun t => t.coreSt k = 3 ∧ t.get (R.TCORE_REJOIN_LEFT_S k) = s.getOr R.VOTE_REJOIN_SECONDS 1 3600 60 ∧ Event t (P.TCORE k) E.TCORE_STATE) ∧
  (∀ (s : State) (k : Nat), k < 3 → s.coreSt k = 3 → (s.coreOf k).probMs ≤ 1 →
    Completes (.rejoinExpiry k) s fun t => (t.coreOf k).ready = true ∧ t.get (R.TCORE_REJOIN_LEFT_S k) = 0 ∧ t.coreSt k = 3) ∧
  (∀ (s : State) (k : Nat), k < 3 → s.coreSt k = 3 → (s.coreOf k).ready = true → s.ax.secMark = true → s.tri.recovering = none → s.mode = 2 →
    Completes (.coreReadmit k) s fun t => t.coreSt k = 0 ∧ t.mode = 1 ∧ Event t P.VOTE E.VOTE_CORE_IN ∧ (2 + k, 1) ∉ t.flt.causes) ∧
  (∀ (s : State) (k : Nat), k < 3 → s.tri.shuntReq = some k → s.up islVOTE = true →
    (s.mode = 1 → s.coreSt k = 0 →
      Completes .coreShuntApply s fun t => t.coreSt k = 1 ∧ t.get (R.TCORE_STATE_OUT_WHY k) = 4 ∧ t.mode = 2 ∧ t.tri.shuntReq = none) ∧
    (s.mode = 2 → Completes .coreShuntApply s fun t => t.coreSt k = s.coreSt k ∧ t.mode = 2 ∧ t.tri.shuntReq = none)) ∧
  (∀ (s : State) (m : Master) (donor : Nat), Accepts s m R.VOTE_CMD_STATUS →
    (s.mode = 3 → donor < 3 → Completes (.recover m donor) s fun t => t.tri.recoverReq = some donor ∧ t.get R.VOTE_CMD_STATUS = 1) ∧
    (s.mode ≠ 3 → Completes (.recover m donor) s fun t => t.get R.VOTE_CMD_STATUS = 3 ∧ OnlyRegs s t ∧ OnlySlots [R.VOTE_CMD] s t))

/-! ## The OCXO and the cell (R110 to R114, R139) -/

/-- R110 to R114, R139: OCXO WARM as the oven control shows it; the cell's states HEAT, SCAN, ACQUIRE and LOCKED, each change with its event; a lost signal ends the
discipline; a measurement shows in CELL_Y and moves the EFC by no more than the slew limit; RESTART and STOP. -/
def Obligations.CellFindsItsLineAndDisciplines : Prop :=
  (∀ s : State, s.boot.pos ≠ .off → s.osc.warm = false → s.up islVOTE = true →
    Completes .ocxoWarmSet s fun t => t.osc.warm = true ∧ t.get R.VOTE_OSC_STAT_OCXO_WARM = 1 ∧ t.get R.VOTE_OSC_STAT_DISC = s.get R.VOTE_OSC_STAT_CELL_LOCK) ∧
  (∀ s : State, s.boot.pos ≠ .off → s.osc.warm = true → s.up islVOTE = true →
    Completes .ocxoWarmClear s fun t => t.osc.warm = false ∧ t.get R.VOTE_OSC_STAT_OCXO_WARM = 0 ∧ t.get R.VOTE_OSC_STAT_DISC = 0 ∧
      (s.osc.warmEver = true → (24, 1) ∈ t.flt.causes)) ∧
  (∀ s : State, s.up islRH = true →
    (s.get R.VOTE_OSC_STAT_CELL_STATE = 1 → Completes .cellHeatDone s fun t => t.get R.VOTE_OSC_STAT_CELL_STATE = 2 ∧ Event t P.VOTE E.VOTE_CELL) ∧
    (s.get R.VOTE_OSC_STAT_CELL_STATE = 2 → Completes .cellLineFound s fun t => t.get R.VOTE_OSC_STAT_CELL_STATE = 3 ∧ t.osc.fromScan = true ∧ Event t P.VOTE E.VOTE_CELL) ∧
    (s.get R.VOTE_OSC_STAT_CELL_STATE = 3 →
      Completes .cellResonanceLock s (fun t => t.get R.VOTE_OSC_STAT_CELL_STATE = 4 ∧ t.get R.VOTE_OSC_STAT_CELL_LOCK = 1 ∧ Event t P.VOTE E.VOTE_CELL ∧
        t.get R.VOTE_OSC_STAT_DISC = s.get R.VOTE_OSC_STAT_OCXO_WARM ∧ (23, 1) ∉ t.flt.causes) ∧
      Completes .cellAcquireTimeout s (fun t =>
        t.osc.failedCycles = s.osc.failedCycles + (if s.osc.fromScan then 1 else 0) ∧ t.get R.VOTE_OSC_STAT_CELL_STATE = (if 3 ≤ t.osc.failedCycles then 5 else 2))) ∧
    (s.get R.VOTE_OSC_STAT_CELL_STATE = 4 →
      Completes .cellSignalLost s fun t => t.get R.VOTE_OSC_STAT_CELL_STATE = 3 ∧ t.get R.VOTE_OSC_STAT_CELL_LOCK = 0 ∧ t.get R.VOTE_OSC_STAT_DISC = 0 ∧ t.osc.fromScan = false ∧
        (t.get R.VOTE_OSC_EFC_CODE : Int) = clampInt 0 0xFFFFFF s.efcMean ∧ (s.osc.lockedEver = true → (23, 1) ∈ t.flt.causes))) ∧
  (∀ (s : State) (y : Int), s.up islRH = true → s.get R.VOTE_OSC_STAT_CELL_STATE = 4 → -34359738368 ≤ y → y ≤ 34359738367 →
    Completes (.cellMeasurement y) s fun t => t.getS R.VOTE_CELL_Y_Y = y ∧
      (s.get R.VOTE_OSC_STAT_DISC = 0 ∨ s.efcHeld = true → t.get R.VOTE_OSC_EFC_CODE = s.get R.VOTE_OSC_EFC_CODE) ∧
      ((t.get R.VOTE_OSC_EFC_CODE : Int) - s.get R.VOTE_OSC_EFC_CODE).natAbs ≤ (efcMost (s.get R.VOTE_EFC_SLEW_RATE)).toNat) ∧
  (∀ (s : State) (m : Master), Accepts s m R.VOTE_CELL_CMD_STATUS →
    (s.get R.VOTE_OSC_STAT_CELL_STATE = 0 ∨ s.get R.VOTE_OSC_STAT_CELL_STATE = 5 →
      Completes (.cellRestart m) s fun t => t.get R.VOTE_OSC_STAT_CELL_STATE = 1 ∧ t.get R.VOTE_CELL_CMD_STATUS = 2 ∧ t.osc.failedCycles = 0) ∧
    (s.get R.VOTE_OSC_STAT_CELL_STATE ≠ 0 →
      Completes (.cellStop m) s fun t => t.get R.VOTE_OSC_STAT_CELL_STATE = 0 ∧ t.get R.VOTE_CELL_CMD_STATUS = 2 ∧
        (s.get R.VOTE_OSC_STAT_CELL_STATE = 4 → t.get R.VOTE_OSC_STAT_DISC = 0 ∧ (t.get R.VOTE_OSC_EFC_CODE : Int) = clampInt 0 0xFFFFFF s.efcMean)))

/-! ## Reference candidates and the selector (R140 to R161) -/

/-- R140, R142, R145 to R147, R161: a sample of the slot's own form is counted, and one that lies too far from the line is a phase hit; no sample in time is NO_SIGNAL; the
qualification and the wait-to-restore end at their marks; an edge of an input is stamped; an SSM received or timed out shows. -/
def Obligations.CandidatesTakeSamplesAndQualify : Prop :=
  (∀ (s : State) (k : Nat) (raw : RawSample), k < 12 → s.up islRH = true → s.candOn k = true →
      (raw = .pps ∧ s.candPps k = true ∧ (kvGet s.sel.refStamps (s.candUnit k)).any (·.fresh) = true) ∨
      (raw = .edges ∧ s.candSrc k = 1 ∧ s.candFreq k = true ∧ (kvGet s.sel.refStamps (s.candUnit k)).any (fun r => r.fresh && r.prev.isSome) = true) ∨
      (∃ c i, raw = .phase c i ∧ s.candSrc k = 4) ∨
      (∃ i o l, raw = .offset i o l ∧ (s.candSrc k = 2 ∨ s.candSrc k = 3)) ∨ (raw = .cell ∧ s.candSrc k = 6) →
    Completes (.candidateSample k raw) s fun t =>
      t.get (R.CAND_SAMPLES_COUNT k) = min (s.get (R.CAND_SAMPLES_COUNT k) + 1) (2 ^ (R.CAND_SAMPLES_COUNT k).w - 1)) ∧
  (∀ (s : State) (k : Nat) (i o l : Int), k < 12 → s.up islRH = true → s.candOn k = true → s.candSrc k = 2 →
      isHit (s.slotOf k).fit { t := i, o := o } (s.get (R.CAND_PH_LIM_PS k)) = true →
    Completes (.candidateSample k (.offset i o l)) s fun t =>
      t.get (R.CAND_HITS_COUNT k) = min (s.get (R.CAND_HITS_COUNT k) + 1) (2 ^ (R.CAND_HITS_COUNT k).w - 1) ∧ Event t (P.CAND k) E.CAND_PHASE_HIT) ∧
  (∀ (s : State) (k tick : Nat), k < 12 → s.up islRH = true → s.candSrc k ≠ 6 → 2 ≤ s.candSt k → s.candSt k ≤ 5 →
      s.candWait k ≤ s.ax.ocxo + quot ((tick : Int) * 64 * nsU) 10 - (s.slotOf k).last →
    Completes (.candTimeout k tick) s fun t => t.candSt k = 1 ∧ t.get (R.CAND_STATUS_WHY k) = 1 ∧ (t.slotOf k).fit = [] ∧ (t.slotOf k).win = [] ∧ Event t (P.CAND k) E.CAND_STATE) ∧
  (∀ (s : State) (k : Nat), k < 12 → s.up islRH = true → s.candSt k = 3 → (s.slotOf k).qualMs ≤ 1 →
    Completes (.candQualified k) s fun t => t.candSt k = 4 ∧ t.get (R.CAND_QUAL_LEFT_S k) = 0 ∧ Event t (P.CAND k) E.CAND_STATE) ∧
  (∀ (s : State) (k : Nat), k < 12 → s.up islRH = true → s.get (R.CAND_STATUS_WTR_RUN k) = 1 → (s.slotOf k).wtrMs ≤ 1 →
    Completes (.wtrDone k) s fun t => t.get (R.CAND_STATUS_WTR_RUN k) = 0 ∧ t.get (R.CAND_WTR_LEFT_S k) = 0 ∧ (t.slotOf k).manualOk = true ∧
      Event t (P.CAND k) E.CAND_WTR_DONE) ∧
  (∀ (s : State) (n tick phase tap : Nat), n < 4 → s.up islRH = true → s.get (R.SEL_REFIN_CFG_MODE n) < 2 → s.boot.pins = .driven →
    Completes (.refInEdge n (s.flag (R.SEL_REFIN_CFG_EDGE n)) tick phase tap) s (fun t =>
      (kvGet t.sel.refStamps n).map (fun r => r.stamp) = some (s.rhTime tick + (s.pairOf n).onDuty.offset phase tap) ∧ t.regs = s.regs) ∧
    Completes (.refInEdge n (!s.flag (R.SEL_REFIN_CFG_EDGE n)) tick phase tap) s fun t => t = s) ∧
  (∀ (s : State) (k ssm enh : Nat), k < 12 → s.up islRH = true → s.candSrc k = 4 → ssm < 16 →
    Completes (.esmcReceive k ssm enh) s fun t => t.get (R.CAND_ESMC_SSM k) = ssm ∧ (s.get (R.CAND_ESMC_SSM k) ≠ ssm → Event t (P.CAND k) E.CAND_QL_CHANGE)) ∧
  (∀ (s : State) (k : Nat), k < 12 → s.up islRH = true →
    Completes (.esmcTimeout k) s fun t => t.get (R.CAND_ESMC_SSM k) = 15 ∧ (s.get (R.CAND_ESMC_SSM k) ≠ 15 → Event t (P.CAND k) E.CAND_QL_CHANGE))

/-- R147, R149, R151 to R154, R157: the commands wait for the next mark; a switch whose preparation is over commits, with a step for a time target, or waits while the vote has
FAILED; a target that does not settle goes LOST; steering moves the target of the bias, or is refused. -/
def Obligations.SelectorTakesCommandsAndSwitches : Prop :=
  (∀ (s : State) (m : Master) (k : Nat), Accepts s m R.SEL_CMD_STATUS →
    Completes (.selSwitch m k) s (fun t => t.sel.reqs = s.sel.reqs ++ [.switch k] ∧ t.get R.SEL_CMD_STATUS = 1 ∧ t.selSt = s.selSt) ∧
    Completes (.selHoldover m) s (fun t => t.sel.reqs = s.sel.reqs ++ [.holdover] ∧ t.get R.SEL_CMD_STATUS = 1 ∧ t.selSt = s.selSt) ∧
    Completes (.selRelease m) s (fun t => t.sel.reqs = s.sel.reqs ++ [.release] ∧ t.get R.SEL_CMD_STATUS = 1 ∧ t.selSt = s.selSt) ∧
    (k < 12 → s.get (R.CAND_STATUS_WTR_RUN k) = 1 →
      Completes (.selClearWtr m k) s fun t => t.get (R.CAND_STATUS_WTR_RUN k) = 0 ∧ t.get (R.CAND_WTR_LEFT_S k) = 0 ∧ t.get R.SEL_CMD_STATUS = 2 ∧
        Event t (P.CAND k) E.CAND_WTR_DONE)) ∧
  (∀ (s : State) (m : Master) (v : Word), Open s m R.SEL_LOCKOUT →
    Completes (.lockoutWrite m v) s fun t => t.sel.reqs = s.sel.reqs ++ [.lockout (R.SEL_LOCKOUT_MASK.of v)] ∧ t.get R.SEL_LOCKOUT_MASK = R.SEL_LOCKOUT_MASK.of v ∧
      t.sel.lockout = s.sel.lockout) ∧
  (∀ s : State, s.up islRH = true → s.get R.DUG_STATUS_FOLLOW = 0 → s.selSt = 3 → s.getOr R.SEL_PREP_TIME_MS 10 10000 100 ≤ s.sel.prepMs →
      (s.slotOf s.target).prep ≠ [] → s.switchDead = false →
    (s.mode = 3 → Completes .prepareEnd s fun t => t.get R.SEL_STATUS_WAIT_VOTE = 1 ∧ t.selSt = 3 ∧ t.ax = s.ax) ∧
    (s.mode ≠ 3 → Completes .prepareEnd s fun t => t.selSt = 4 ∧ t.sel.mcT = s.ax.mark ∧
      (s.candFreq s.target = true → t.ax.steps = s.ax.steps ∧ t.ax.selLoad = s.ax.selLoad) ∧
      (s.candFreq s.target = false → s.get R.VOTE_STATUS_TS_SET = 1 →
        t.ax.steps = s.ax.steps ++ [PhaseReq.mk 0 (stepOf (s.slotOf s.target).prep (s.getS (R.CAND_FREQ_Y s.target)) s.ax.mark)]))) ∧
  (∀ s : State, s.up islRH = true → s.get R.DUG_STATUS_FOLLOW = 0 → s.selSt = 5 → s.selected < 12 → s.candSt s.selected ≠ 1 →
      1000 * s.getOr R.SEL_SETTLE_MAX_S 10 3600 600 ≤ s.sel.settleMs →
    Completes .settleTimeout s fun t => t.candSt s.selected = 1 ∧ t.get (R.CAND_STATUS_WHY s.selected) = 8 ∧ Event t P.SEL E.SEL_SETTLE_FAIL) ∧
  (∀ (s : State) (m : Master) (low : Word), Open s m (R.SEL_PHASE_STEP + 1) →
    (s.selSt = 0 ∨ s.selSt = 1 ∨ s.selSt = 4 → Completes (.steerSubmit m low) s fun t => t.sel = s.sel ∧ Event t P.SEL E.SEL_CMD_REJ) ∧
    (s.selSt ≠ 0 → s.selSt ≠ 1 → s.selSt ≠ 4 →
      Completes (.steerSubmit m low) s fun t => t.sel.biasTarget = s.sel.biasTarget + s.commitS72 m R.SEL_PHASE_STEP low * 1000000 ∧ t.sel.bias = s.sel.bias)) ∧
  (∀ s : State, s.up islRH = true → s.sel.steering = true → s.sel.bias = s.sel.biasTarget →
    Completes .steerDone s fun t => t.sel.steering = false ∧ Event t P.SEL E.SEL_STEER_DONE)

/-! ## The servo and the holdover estimator (R163 to R189) -/

/-- R166, R168, R173, R174, R177, R179: with the three cores in agreement the word sent stays within FREQ_LIM, and in SWITCH_HOLD it is the integral term; the host feed is switched and takes one sample,
or rejects it while off; an hourly mean is taken up once; the periodic HOLD record is the newest of its area. -/
def Obligations.ServoSendsItsWordAndHoldRecords : Prop :=
  (∀ (s : State) (k : Nat) (temp : Int), InStep s → s.ax.running = true → s.subStarts k = true →
    Completes (.servoUpdate k temp) s fun t => (t.getS R.SRV_FREQ_OUT_Y).natAbs ≤ s.get R.SRV_FREQ_LIM_Y ∧
      (k ≠ 0 → s.hostFeed = false → s.srv.hostSeen = false → s.get R.DUG_STATUS_FOLLOW = 0 → s.srvSt = 3 → s.srv.feed = [] →
        t.srvSt = 3 ∧ t.getS R.SRV_FREQ_OUT_Y = quot (clampInt (-s.wordLim) s.wordLim s.srv.integ) 4294967296)) ∧
  (∀ (s : State) (m : Master) (v : Word), InStep s → Open s m R.SRV_FEED_CTRL →
    Completes (.hostFeedMode m v) s fun t => t.get R.SRV_FEED_CTRL_HOST = R.SRV_FEED_CTRL_HOST.of v ∧ t.get R.SRV_FEED_CTRL_RATE = R.SRV_FEED_CTRL_RATE.of v ∧
      (R.SRV_FEED_CTRL_HOST.of v ≠ s.get R.SRV_FEED_CTRL_HOST → t.srv.feed = [] ∧ Event t P.SRV E.SRV_HOST_MODE) ∧
      (R.SRV_FEED_CTRL_HOST.of v = s.get R.SRV_FEED_CTRL_HOST → OnlyRegs s t ∧ OnlySlots [R.SRV_FEED_CTRL] s t)) ∧
  (∀ (s : State) (m : Master) (low : Word) (tick : Nat), InStep s → Open s m (R.SRV_OFFSET_FEED + 1) →
    (s.get R.SRV_FEED_CTRL_HOST = 1 → (∀ k, k < 3 → s.linkOpen islRH (2 + k) 0 = true) → Completes (.hostOffsetSubmit m low tick) s fun t =>
      t.srv.feed.map (fun f => (f.slot, f.t, f.o)) = [(15, s.rhTime tick, s.commitS72 m R.SRV_OFFSET_FEED low)] ∧
      (s.srv.feed ≠ [] → t.get R.SRV_FEED_OVERRUN_COUNT = min (s.get R.SRV_FEED_OVERRUN_COUNT + 1) (2 ^ R.SRV_FEED_OVERRUN_COUNT.w - 1))) ∧
    (s.get R.SRV_FEED_CTRL_HOST = 0 → Completes (.hostOffsetSubmit m low tick) s fun t => t.srv = s.srv ∧
      t.get R.SRV_FEED_REJ_COUNT = min (s.get R.SRV_FEED_REJ_COUNT + 1) (2 ^ R.SRV_FEED_REJ_COUNT.w - 1))) ∧
  (∀ s : State, InStep s → s.hold.fitDue = true →
    Completes .holdFit s fun t => t.hold.fitDue = false ∧ t.hold.hours = s.hold.hours ∧ (s.hold.hours.length < 24 → t.regs = s.regs)) ∧
  (∀ s : State, InStep s → s.learn = 2 → s.srvSt ≠ 4 → s.getOr R.HOLD_REC_PERIOD_S 600 86400 3600 ≤ s.hold.recSecs →
    Completes .holdRecordPeriod s fun t => t.hold.recSecs = 0 ∧ (t.newest .holdover [0x30]).map (fun r => r.payload) = some s.holdPayload)

/-! ## Output PLLs (R191 to R197, R206, R211) -/

/-- R193 to R197, R206, R211: a PLL goes from its band to SETTLE and LOCKED; a lock that fails is counted and is FAULT at RETRY_MAX; a loss of lock or of the reference
sends its outputs to bypass, or mutes them; RELOCK, and the page disabled; and the bypass synthesiser's loss and return. -/
def Obligations.PllsLockAndLoseLock : Prop :=
  (∀ (s : State) (p band : Nat), p < 4 → s.up islRH = true → (s.pllOf p).running = true → band < 2 ^ (R.PLL_STATUS_BAND p).w →
    (s.get (R.PLL_STATUS_STATE p) = 1 → Completes (.pllBandChosen p band) s fun t => t.get (R.PLL_STATUS_BAND p) = band ∧ t.get (R.PLL_STATUS_STATE p) = 2) ∧
    (s.get (R.PLL_STATUS_STATE p) = 4 → Completes (.pllBandChosen p band) s fun t => t.get (R.PLL_STATUS_BAND p) = band ∧ t.get (R.PLL_STATUS_STATE p) = 4)) ∧
  (∀ (s : State) (p us err : Nat), p < 4 → s.up islRH = true → (s.pllOf p).running = true → s.get (R.PLL_STATUS_STATE p) = 2 ∨ s.get (R.PLL_STATUS_STATE p) = 4 → us ≤ 300 →
      err ≤ s.get (R.PLL_LOCK_WIN_PS p) →
    Completes (.pllLocked p us err) s fun t => t.get (R.PLL_STATUS_STATE p) = 3 ∧ t.get (R.PLL_LOCK_US_US p) = us ∧ Event t (P.PLL p) E.PLL_LOCK ∧
      t.get (R.PLL_LOCKS_COUNT p) = min (s.get (R.PLL_LOCKS_COUNT p) + 1) (2 ^ (R.PLL_LOCKS_COUNT p).w - 1)) ∧
  (∀ (s : State) (p : Nat), p < 4 → s.up islRH = true → s.get (R.PLL_STATUS_STATE p) = 3 →
    Completes (.pllLockHeld p) s fun t => t.get (R.PLL_STATUS_TRIES p) = 0 ∧ (t.pllOf p).held = true ∧ OnlySlots [R.PLL_STATUS p] s t) ∧
  (∀ (s : State) (p : Nat), p < 4 → s.up islRH = true → (s.pllOf p).running = true →
    Completes (.pllLockFail p) s fun t =>
      t.get (R.PLL_STATUS_TRIES p) = min (s.get (R.PLL_STATUS_TRIES p) + 1) (2 ^ (R.PLL_STATUS_TRIES p).w - 1) ∧
      (max 1 (s.get (R.PLL_RETRY_MAX_N p)) ≤ t.get (R.PLL_STATUS_TRIES p) →
        t.get (R.PLL_STATUS_STATE p) = 5 ∧ (t.pllOf p).running = false ∧ Event t (P.PLL p) E.PLL_FAULT ∧ (7, 1 + p) ∈ t.flt.causes)) ∧
  (∀ (s : State) (p err : Nat), p < 4 → s.up islRH = true → s.get (R.PLL_STATUS_STATE p) = 3 → s.unlockWin p < err → (s.pllOf p).held = true →
    Completes (.pllUnlock p err) s fun t => t.get (R.PLL_STATUS_STATE p) = 4 ∧ Event t (P.PLL p) E.PLL_UNLOCK ∧
      t.get (R.PLL_UNLOCKS_COUNT p) = min (s.get (R.PLL_UNLOCKS_COUNT p) + 1) (2 ^ (R.PLL_UNLOCKS_COUNT p).w - 1) ∧
      ∀ n, n < 4 → s.get (R.OUT_CLK_CFG_PLL n) = p → s.get (outSrc n) = 1 →
        t.get (outSrc n) = if s.get (R.OUT_CLK_CFG_BYPASS_OK n) = 1 ∧ s.out.synthOk = true then 2 else 0) ∧
  (∀ (s : State) (p : Nat), p < 4 → s.up islRH = true →
    (s.get (R.PLL_STATUS_REF_OK p) = 1 → Completes (.pllRefLost p) s fun t => t.get (R.PLL_STATUS_REF_OK p) = 0 ∧ Event t (P.PLL p) E.PLL_REF_LOST ∧
      (7, 5 + p) ∈ t.flt.causes ∧ (s.get (R.PLL_STATUS_STATE p) ≠ 0 → s.get (R.PLL_STATUS_STATE p) ≠ 5 → t.get (R.PLL_STATUS_STATE p) = 4 ∧ (t.pllOf p).running = false)) ∧
    (∀ held : Bool, s.get (R.PLL_STATUS_REF_OK p) = 0 → Completes (.pllRefRestored p held) s fun t => t.get (R.PLL_STATUS_REF_OK p) = 1 ∧ (7, 5 + p) ∉ t.flt.causes ∧
      (t.pllOf p).refWait = true ∧ t.get (R.PLL_STATUS_STATE p) = s.get (R.PLL_STATUS_STATE p)) ∧
    (s.get (R.PLL_STATUS_REF_OK p) = 1 → (s.pllOf p).refWait = true → s.get (R.PLL_STATUS_STATE p) = 4 → s.pllServes p = true →
      Completes (.pllRefRestored p true) s (fun t => t.get (R.PLL_STATUS_STATE p) = 4 ∧ (t.pllOf p).running = true ∧ (t.pllOf p).refWait = false) ∧
      Completes (.pllRefRestored p false) s (fun t => t = s))) ∧
  (∀ (s : State) (m : Master) (p : Nat), p < 4 → Accepts s m (R.PLL_CMD_STATUS p) →
    (s.pllServes p = false → Completes (.pllRelock m p) s fun t => t.get (R.PLL_CMD_STATUS p) = 3 ∧ OnlyRegs s t ∧ OnlySlots [R.PLL_CMD p] s t) ∧
    (s.pllServes p = true → Completes (.pllRelock m p) s fun t => t.get (R.PLL_CMD_STATUS p) = 2 ∧ (7, 1 + p) ∉ t.flt.causes ∧
      t.get (R.PLL_STATUS_STATE p) = if s.get (R.PLL_STATUS_REF_OK p) = 1 then 1 else 4)) ∧
  (∀ (s : State) (m : Master) (p : Nat), p < 4 → Open s m (R.PG_CTRL (P.PLL p)) →
    Completes (.pllDisable m p) s fun t => t.get (R.PG_CTRL_EN (P.PLL p)) = 0 ∧ t.get (R.PLL_STATUS_STATE p) = 0 ∧ (t.pllOf p).running = false ∧ (7, 1 + p) ∉ t.flt.causes) ∧
  (∀ s : State, s.up islRH = true →
    Completes .bypassSynthUnlock s (fun t => t.out.synthOk = false ∧ (7, 9) ∈ t.flt.causes ∧ ∀ n, n < 4 → s.get (outSrc n) = 2 → t.get (outSrc n) = 0) ∧
    Completes .bypassSynthRelock s (fun t => t.out.synthOk = true ∧ (7, 9) ∉ t.flt.causes ∧ t.regs = s.regs))

/-! ## Outputs (R198 to R209) -/

/-- R198, R201, R203 to R206, R209: an output starts in phase, a pulse output's edges follow one another, a clock output returns from bypass; REALIGN captures the misalignment
and is DONE when nothing is left to move; a drive fault mutes and holds an output; the page disabled ends every output with its period. -/
def Obligations.OutputsStartMoveAndMute : Prop :=
  (∀ (s : State) (n : Nat), n < 4 → s.up islRH = true → s.get (outSrc n) = 2 → s.get (R.PLL_STATUS_STATE (s.get (R.OUT_CLK_CFG_PLL n))) = 3 →
    Completes (.clkReturnToPll n) s fun t => t.get (outSrc n) = 1 ∧ t.get (R.PLL_STATUS_STATE (s.get (R.OUT_CLK_CFG_PLL n))) = 3) ∧
  (∀ (s : State) (o : Nat), o < 8 → s.up islRH = true → s.get (outSrc o) = 0 → s.outEn o = true → s.get (R.PG_CTRL_EN P.OUT) = 1 → s.startHolds o = true →
      (s.outOf o).drvHeld = false →
    Completes (.started o) s fun t => t.get (outSrc o) = 1 ∧ t.rdS (misSlot o) = 0 ∧ Event t P.OUT E.OUT_STARTED ∧ (4 ≤ o → (t.outOf o).high = true)) ∧
  (∀ (s : State) (n : Nat), n < 4 → s.up islRH = true → s.get (outSrc (n + 4)) = 1 →
    ((s.outOf (n + 4)).high = true → Completes (.pulseEdge n) s fun t => (t.outOf (n + 4)).high = false ∧ (t.outOf (n + 4)).idx = (s.outOf (n + 4)).idx) ∧
    ((s.outOf (n + 4)).high = false → (s.outOf (n + 4)).ending = false → s.squelched (n + 4) = false → Completes (.pulseEdge n) s fun t =>
      (t.outOf (n + 4)).high = true ∧ (t.outOf (n + 4)).idx = (s.outOf (n + 4)).idx + 1 ∧ (t.outOf (n + 4)).lastRise = (s.outOf (n + 4)).nextT ∧ t.regs = s.regs) ∧
    ((s.outOf (n + 4)).high = false → (s.outOf (n + 4)).ending = true ∨ s.squelched (n + 4) = true → Completes (.pulseEdge n) s fun t => t.get (outSrc (n + 4)) = 0)) ∧
  (∀ (s : State) (m : Master) (clk pulse tick : Nat), Accepts s m R.OUT_REALIGN_STATUS →
    Completes (.outRealign m clk pulse tick) s fun t => t.get R.OUT_REALIGN_STATUS = 1 ∧
      (∀ n, n < 4 → bitOn clk n = true → s.get (outSrc n) = 1 ∨ s.get (outSrc n) = 2 → (t.outOf n).named = true ∧ (t.outOf n).move = -(s.rdS (misSlot n)) * s72X) ∧
      (∀ n, n < 4 → bitOn pulse n = true → s.get (outSrc (n + 4)) = 1 → (t.outOf (n + 4)).named = true)) ∧
  (∀ s : State, s.up islRH = true → s.get R.OUT_REALIGN_STATUS = 1 →
      (∀ o, o < 8 → (s.outOf o).named = true → if o < 4 then ((s.outOf o).move.natAbs : Int) ≤ max 1 (s.get R.OUT_CLK_SLEW_PS_PER_US) * nsX else (s.outOf o).move = 0) →
    Completes .realignDone s fun t => t.get R.OUT_REALIGN_STATUS = 2 ∧ Event t P.OUT E.OUT_REALIGN_DONE ∧ (∀ o, o < 8 → (t.outOf o).named = false) ∧
      t.get R.OUT_REALIGNS_COUNT = min (s.get R.OUT_REALIGNS_COUNT + 1) (2 ^ R.OUT_REALIGNS_COUNT.w - 1)) ∧
  (∀ (s : State) (o : Nat), o < 8 → s.up islRH = true → s.get (outSrc o) = 1 ∨ s.get (outSrc o) = 2 →
    Completes (.drvFault o) s fun t => t.get (outSrc o) = 0 ∧ t.get (outDrv o) = 1 ∧ (t.outOf o).drvHeld = true ∧ (8, 1 + o) ∈ t.flt.causes ∧ Event t P.OUT E.OUT_DRV_FAULT) ∧
  (∀ (s : State) (m : Master), Open s m (R.PG_CTRL P.OUT) →
    Completes (.outDisable m) s fun t => t.get (R.PG_CTRL_EN P.OUT) = 0 ∧
      ∀ o, o < 8 → s.get (outSrc o) = 1 ∨ s.get (outSrc o) = 2 → (t.outOf o).ending = true ∧ t.get (outSrc o) = s.get (outSrc o) ∧ t.get (R.PG_STAT_BUSY P.OUT) = 1)

/-! ## Interval counters and converter pairs (R215 to R231) -/

/-- R217 to R228: ARM and ARM_AT are admitted with a start source, and an edge of the start source is stamped and ends the measurement where no stop is wanted; a
timeout, DISARM and the page disabled end it; a calibration is commanded, begins by itself, and ends with its result; a pair's member recalibrates and goes on duty. -/
def Obligations.IntervalCountersMeasureAndCalibrate : Prop :=
  (∀ (s : State) (m : Master) (k tick : Nat), k < 8 → Accepts s m (R.TIC_CMD_STATUS k) → s.ticServes k = true → s.ticSt k ≠ 4 ∨ (s.ticOf k).calKind = 2 →
    ((s.ticConfig k).startSrc ≠ 0 → ¬((s.ticConfig k).seq = true ∧ (s.ticConfig k).stopSrc = 0 ∧ (s.ticConfig k).skip ≠ 0) →
      Completes (.ticArm m k) s (fun t => t.ticSt k = 1 ∧ t.get (R.TIC_CMD_STATUS k) = 1 ∧ (t.ticOf k).cfg = s.ticConfig k ∧ t.get (R.TIC_STATUS_START_OK k) = 0) ∧
      (s.rhTime tick < ofT108 (s.rdT (R.TIC_ARM_AT k)) → Completes (.ticArmAt m k tick) s fun t =>
        (t.ticOf k).armAt = some (ofT108 (s.rdT (R.TIC_ARM_AT k))) ∧ t.get (R.TIC_CMD_STATUS k) = 1) ∧
      (ofT108 (s.rdT (R.TIC_ARM_AT k)) ≤ s.rhTime tick → Completes (.ticArmAt m k tick) s fun t =>
        t.ticSt k = 1 ∧ t.get (R.TIC_STATUS_LATE_ARM k) = 1 ∧ t.get (R.TIC_CMD_STATUS k) = 1)) ∧
    ((s.ticConfig k).startSrc = 0 → Completes (.ticArm m k) s fun t => t.get (R.TIC_CMD_STATUS k) = 5 ∧ t.ticSt k = s.ticSt k ∧ Event t (P.TIC k) E.TIC_CFG_ERR)) ∧
  (∀ (s : State) (m : Master) (k tick : Nat), k < 8 → Open s m (R.TIC_CMD k) → s.ticSt k = 4 → (s.ticOf k).calKind = 1 →
    Completes (.ticArm m k) s (fun t => t.get (R.TIC_CMD_STATUS k) = 6 ∧ t.ticSt k = 4 ∧ OnlyRegs s t ∧ OnlySlots [R.TIC_CMD k] s t) ∧
    Completes (.ticArmAt m k tick) s (fun t => t.get (R.TIC_CMD_STATUS k) = 6 ∧ t.ticSt k = 4 ∧ OnlyRegs s t ∧ OnlySlots [R.TIC_CMD k] s t)) ∧
  (∀ (s : State) (k tick : Nat) (a : Int), k < 8 → s.up islRH = true → (s.ticOf k).armAt = some a → a ≤ s.rhTime tick →
    Completes (.ticArmAtReached k tick) s fun t => t.ticSt k = 1 ∧ t.get (R.TIC_STATUS_LATE_ARM k) = 0 ∧ (t.ticOf k).armAt = none ∧ (t.ticOf k).cfg = s.ticConfig k) ∧
  (∀ (s : State) (k tick phase tap : Nat), k < 8 → s.up islRH = true → s.ticArmed k = true → s.get (R.TIC_STATUS_START_OK k) = 0 →
      s.ticSrcGives (s.ticOf k).cfg.startSrc tick = true →
    let stamp := toT108 (s.rhTime tick + (s.ticOf k).start.offset phase tap - ticPathU k false (s.ticOf k).cfg.startSrc)
    ((s.ticOf k).cfg.stopSrc ≠ 0 → s.get (R.TIC_STATUS_STOP_OK k) = 0 → Completes (.ticEdge k false (s.ticOf k).cfg.startFall tick phase tap) s fun t =>
      t.ticSt k = 2 ∧ t.get (R.TIC_STATUS_START_OK k) = 1 ∧ t.rdT (R.TIC_START_T k) = stamp % 2 ^ 108) ∧
    ((s.ticOf k).cfg.stopSrc = 0 → Completes (.ticEdge k false (s.ticOf k).cfg.startFall tick phase tap) s fun t =>
      t.ticSt k = 3 ∧ t.get (R.TIC_CMD_STATUS k) = 2 ∧ t.rdT (R.TIC_START_T k) = stamp % 2 ^ 108 ∧ Event t (P.TIC k) E.TIC_DONE ∧
      t.get (R.TIC_MEASURES_COUNT k) = min (s.get (R.TIC_MEASURES_COUNT k) + 1) (2 ^ (R.TIC_MEASURES_COUNT k).w - 1))) ∧
  (∀ (s : State) (k : Nat), k < 8 → s.up islRH = true → s.ticArmed k = true → (s.ticOf k).cfg.timeout ≠ 0 →
    Completes (.ticTimeout k) s fun t => t.ticSt k = 0 ∧ t.get (R.TIC_CMD_STATUS k) = 3 ∧ Event t (P.TIC k) E.TIC_TIMEOUT ∧
      t.rdT (R.TIC_START_T k) = s.rdT (R.TIC_START_T k)) ∧
  (∀ (s : State) (m : Master) (k : Nat), k < 8 → Open s m (R.TIC_CMD k) →
    (s.ticArmed k = true → Completes (.ticDisarm m k) s fun t => t.ticSt k = 0 ∧ t.get (R.TIC_CMD_STATUS k) = 4 ∧ Event t (P.TIC k) E.TIC_ABORT) ∧
    (s.ticArmed k = false → (s.ticOf k).armAt = none →
      Completes (.ticDisarm m k) s fun t => t.get (R.TIC_CMD_STATUS k) = 7 ∧ OnlyRegs s t ∧ OnlySlots [R.TIC_CMD k] s t)) ∧
  (∀ (s : State) (m : Master) (k : Nat), k < 8 → Accepts s m (R.TIC_CMD_STATUS k) →
    (s.ticServes k = true → Completes (.ticCalibrate m k) s fun t => t.ticSt k = 4 ∧ (t.ticOf k).calKind = 1 ∧ t.get (R.TIC_CMD_STATUS k) = 1) ∧
    (s.ticServes k = false → Completes (.ticCalibrate m k) s fun t => t.get (R.TIC_CMD_STATUS k) = 7 ∧ OnlyRegs s t ∧ OnlySlots [R.TIC_CMD k] s t)) ∧
  (∀ (s : State) (k : Nat) (temp : Int), k < 8 → s.up islRH = true → s.ticServes k = true → s.get (R.TIC_CAL_CTRL_AUTO k) = 1 →
      s.ticSt k = 0 ∨ s.ticSt k = 3 ∨ s.ticSt k = 5 → (s.ticOf k).armAt = none →
      (s.ticOf k).older.far temp (s.get1 (R.TIC_CAL_CTRL_DTEMP k)) = true →
    Completes (.ticAutoCal k temp) s fun t => t.ticSt k = 4 ∧ (t.ticOf k).calKind = 2 ∧ t.get (R.TIC_STATUS_CAL_STALE k) = 1) ∧
  (∀ (s : State) (k : Nat) (r0 r1 : CalResult) (temp : Int), k < 8 → s.up islRH = true → s.ticSt k = 4 → (s.ticOf k).calKind = 1 →
    (s.ticCalWhy k r0 r1 = 0 → Completes (.ticCalDone k r0 r1 temp) s fun t => t.get (R.TIC_CMD_STATUS k) = 2 ∧ (t.ticOf k).calKind = 0 ∧ Event t (P.TIC k) E.TIC_CAL_DONE ∧
      t.get (R.TIC_CAL_COUNT_COUNT k) = min (s.get (R.TIC_CAL_COUNT_COUNT k) + 1) (2 ^ (R.TIC_CAL_COUNT_COUNT k).w - 1)) ∧
    (s.ticCalWhy k r0 r1 ≠ 0 → Completes (.ticCalDone k r0 r1 temp) s fun t => t.get (R.TIC_CMD_STATUS k) = 8 ∧ (t.ticOf k).calKind = 0 ∧ Event t (P.TIC k) E.TIC_CAL_FAIL ∧
      t.get (R.TIC_CAL_FAILS_COUNT k) = min (s.get (R.TIC_CAL_FAILS_COUNT k) + 1) (2 ^ (R.TIC_CAL_FAILS_COUNT k).w - 1))) ∧
  (∀ (s : State) (m : Master) (k : Nat), k < 8 → Open s m (R.PG_CTRL (P.TIC k)) →
    Completes (.ticDisable m k) s fun t => t.get (R.PG_CTRL_EN (P.TIC k)) = 0 ∧ (s.ticArmed k = true → t.ticSt k = 0 ∧ t.get (R.TIC_CMD_STATUS k) = 4) ∧
      (s.ticSt k = 4 → t.ticSt k = 0)) ∧
  (∀ (s : State) (n : Nat) (r : CalResult) (temp : Int), n < pairCount → s.up (pairIsland n) = true → (s.pairOf n).failed 0 = false → (s.pairOf n).failed 1 = false →
    Completes (.pairRecal n r temp) s fun t => (t.pairOf n).swap = decide (calWhy (2 ^ 24) r = 0) ∧ (t.pairOf n).duty = (s.pairOf n).duty ∧
      (t.pairOf n).fails (1 - (s.pairOf n).duty) = if calWhy (2 ^ 24) r = 0 then 0 else (s.pairOf n).fails (1 - (s.pairOf n).duty) + 1) ∧
  (∀ (s : State) (n : Nat), n < pairCount → (s.pairOf n).swap = true →
    Completes (.pairSwap n 0) s fun t => (t.pairOf n).duty = 1 - (s.pairOf n).duty ∧ (t.pairOf n).swap = false)

/-! ## The GNSS receiver (R232 to R255) -/

/-- R233, R235, R236, R238, R240 to R242, R252 to R255: channels acquire, drop and search; the engine faults and restarts from its code up to three times in an hour; an epoch shows its
quality, and with no check enabled nothing is withheld; its sample is delivered unless a load came between; jamming and the antenna supply show. -/
def Obligations.GnssTracksEpochsAndSupply : Prop :=
  (∀ (s : State) (ch sig sat : Nat) (dop : Int) (chips sums : Nat), ch < 192 → s.engineRuns = true → sig < 9 → bitOn (s.get R.GNS_CFG_SIG_EN) sig = true →
    let span := searchSpan (((kvGet s.gns.chans ch).map (·.st)).getD s.gns.search)
    dop.natAbs ≤ span.1 → chips ≤ span.2.getD chips → 1 ≤ sums → sums ≤ 20 →
    Completes (.channelAcquired ch sig sat dop chips sums) s fun t => kvGet t.gns.chans ch = some { st := .track, sig := sig, sat := sat } ∧ OnlySlots [R.GNS_TRACK] s t) ∧
  (∀ (s : State) (ch cn0 : Nat) (c : GnsChan), ch < 192 → s.up islGN = true → kvGet s.gns.chans ch = some c →
    (c.st = .track → cn0 < 24 → Completes (.channelLockDrop ch cn0) s fun t => kvGet t.gns.chans ch = some { c with st := .hot } ∧ OnlySlots [R.GNS_TRACK] s t) ∧
    (c.st = .hot → Completes (.channelSearchWarm ch) s fun t => kvGet t.gns.chans ch = some { c with st := .warm } ∧ t.regs = s.regs)) ∧
  (∀ s : State, s.engineRuns = true → s.gns.code ≠ [] →
    Completes .engine s fun t => Event t P.GNS E.GNS_ENGINE ∧ (10, 0) ∈ t.flt.causes ∧
      t.get R.GNS_STATUS_ENGINE = if (s.gns.faults.filter (fun u => decide (s.ax.ocxo < u + 3600 * secU))).length < 3 then 2 else 4) ∧
  (∀ (s : State) (e : GnssEpoch), s.engineRuns = true → s.get (R.PG_CTRL_EN P.GNS) = 1 → s.epochDue = true →
    Completes (.gnssEpoch e) s fun t => t.get R.GNS_CN0_L1 = min 255 e.cn1 ∧ t.get R.GNS_CN0_L5 = min 255 e.cn5 ∧
      t.get R.GNS_POS_QUAL_SATS = min 255 (((e.cons.map (fitCons e.dev)).filter (fun c => s.consOn c)).map (fun c => c.sats)).sum ∧
      (s.get R.GNS_CHECK_CTRL_EN = 0 → s.get R.GNS_STATUS_SUSPECT = 0 →
        t.get R.GNS_CHECKS_RESULT = 0 ∧ t.get R.GNS_STATUS_SUSPECT = 0 ∧ t.get R.GNS_WITHHELD_COUNT = s.get R.GNS_WITHHELD_COUNT)) ∧
  (∀ (s : State) (q : GnsSample), s.up islRH = true → s.gns.ready = some q → s.linkOpen islGN islRH 0 = true → s.get (R.PG_STAT_FENCED P.GNS) = 0 →
    (q.loads = s.ax.loads → Completes .gnssSampleDelivery s fun t => t.gns.ready = none ∧
      t.get R.GNS_SAMPLES_COUNT = min (s.get R.GNS_SAMPLES_COUNT + 1) (2 ^ R.GNS_SAMPLES_COUNT.w - 1)) ∧
    (q.loads ≠ s.ax.loads → Completes .gnssSampleDelivery s fun t => t.gns.ready = none ∧ t.regs = s.regs)) ∧
  (∀ s : State, s.up islGN = true →
    (s.get R.GNS_STATUS_JAM = 0 → 2 ≤ s.gns.jamRun → Completes .jamSet s fun t => t.get R.GNS_STATUS_JAM = 1 ∧ Event t P.GNS E.GNS_JAM) ∧
    (s.get R.GNS_STATUS_JAM = 1 → 10 ≤ s.gns.calmRun → Completes .jamClear s fun t => t.get R.GNS_STATUS_JAM = 0 ∧ bitOn (t.rd (R.PG_EVT_NOW P.GNS)).toNat E.GNS_JAM = false) ∧
    (s.get R.GNS_STATUS_ANT = 3 → Completes .antBiasRetry s fun t => t.gns.foldback = false ∧ t.regs = s.regs)) ∧
  (∀ (s : State) (ma dv : Nat) (limit : Bool), s.up islGN = true →
    Completes (.ant ma dv limit) s fun t => t.get R.GNS_ANT_MON_MA = min 255 ma ∧ t.get R.GNS_ANT_MON_DV = min 255 dv ∧
      t.get R.GNS_STATUS_ANT = s.antState ma dv limit ∧
      (s.antState ma dv limit = 3 → s.get R.GNS_STATUS_ANT ≠ 3 → t.gns.foldback = true ∧ (10, 2) ∈ t.flt.causes ∧ Event t P.GNS E.GNS_ANT))

/-- R241, R242, R251, R254, R255: COLD_START, CLEAR_SUSPECT and RESURVEY; a survey that meets its time and sigma holds on its mean; a code session on a shunted engine
installs and measures what it was given; the page disabled stops the receiver. -/
def Obligations.GnssCommandsSurveyAndCode : Prop :=
  (∀ (s : State) (m : Master), Accepts s m R.GNS_CMD_STATUS →
    (s.engineRuns = true → Completes (.coldStart m) s fun t => t.get R.GNS_CMD_STATUS = 2 ∧ t.gns.almAt = none ∧ t.gns.ephAt = none ∧ t.get R.GNS_STATUS_POS = 0 ∧
      (∀ p ∈ t.gns.chans, p.2.st = .cold)) ∧
    (s.engineRuns = false → Completes (.coldStart m) s fun t => t.get R.GNS_CMD_STATUS = 3 ∧ OnlyRegs s t ∧ OnlySlots [R.GNS_CMD] s t) ∧
    Completes (.clearSuspect m) s (fun t => t.get R.GNS_CMD_STATUS = 2 ∧ t.gns.clearAsked = true ∧ OnlySlots [R.GNS_CMD] s t) ∧
    (s.posMode = 0 → Completes (.resurvey m) s fun t => t.get R.GNS_CMD_STATUS = 2 ∧ t.get R.GNS_STATUS_POS = 0 ∧ t.get R.GNS_SURVEY_LEFT_S = 0 ∧ t.gns.surveyN = 0) ∧
    (m ≠ .pf1 → s.get (R.PG_STAT_SHUNTED P.GNS) = 1 → Completes (.codeOpen m) s fun t => t.get R.GNS_CMD_STATUS = 2 ∧ t.gns.session = some []) ∧
    (m = .pf1 → Completes (.codeOpen m) s fun t => t.get R.GNS_CMD_STATUS = 4 ∧ t.gns = s.gns) ∧
    (∀ l, m ≠ .pf1 → s.gns.session = some l → l ≠ [] → l.length ≤ 524288 → Completes (.codeClose m) s fun t => t.get R.GNS_CMD_STATUS = 2 ∧ t.gns.session = none ∧
      t.gns.code = l ∧ ∀ i, i < 11 → t.get (R.GNS_CODE_HASH_D i) = Config.sha384 l * 4096 / 2 ^ (36 * (10 - i)) % 2 ^ 36)) ∧
  (∀ (s : State) (m : Master) (w : Word) (l : List Word), Open s m R.GNS_CODE_DATA → s.gns.session = some l →
    Completes (.codeDataWrite m w) s fun t => t.gns.session = some (l ++ [w]) ∧ t.regs = s.regs) ∧
  (∀ (s : State) (sigma : Nat), s.engineRuns = true → s.get R.GNS_STATUS_POS = 2 → s.surveyTime ≤ s.gns.surveyN → 0 < s.gns.surveyN → sigma ≤ max 1 (s.get R.GNS_SURVEY_SIGMA) →
    Completes (.surveyDone sigma) s fun t => t.get R.GNS_STATUS_POS = 3 ∧ t.get R.GNS_POS_QUAL_SIGMA = min 65535 sigma ∧ Event t P.GNS E.GNS_SURVEY_DONE) ∧
  (∀ (s : State) (m : Master), Open s m (R.PG_CTRL P.GNS) → s.get (R.PG_CTRL_EN P.GNS) = 1 →
    Completes (.gnssDisable m) s fun t => t.get (R.PG_CTRL_EN P.GNS) = 0 ∧ t.get (R.PG_STAT_BUSY P.GNS) = 1 ∧ t.gns.ready = none ∧
      t.get R.GNS_STATUS_ENGINE = (if s.get R.GNS_STATUS_ENGINE = 0 ∨ s.get R.GNS_STATUS_ENGINE = 3 ∨ s.get R.GNS_STATUS_ENGINE = 4 then s.get R.GNS_STATUS_ENGINE else 5))

/-! ## Ports, modules, the cage bus and gears (R274 to R294, R41, R42) -/

/-- R279, R283 to R285: a frame that fails a check is counted in that check's counter, and one that passes goes to PARSE; a link is lost, locks, and is UP after LINK_HOLD; a page
disabled takes its port OFF. -/
def Obligations.PortsReceiveAndFollowTheirLinks : Prop :=
  (∀ (s : State) (port : Nat) (st : Stamp) (f : Frame) (bad full : Bool) (codes corr uncorr : Nat), port < 24 → s.up (8 + port / 4) = true → s.link port = 3 →
    let land := s.stampOf (8 + 2 * port) st
    let ingT := land - ofPs (s.cdelay (s.genAt land) (R.PRT_DELAY_RX_PS port))
    let k := s.rxCheck port (s.genAt ingT) f bad full
    Completes (.frameReceive port st f bad full codes corr uncorr) s fun t =>
      t.rd (R.STA_RX_FRAMES port + k) = s.rd (R.STA_RX_FRAMES port + k) + 1 ∧
      (k = 0 → (t.coachOf (port / 4)).cars.length = (s.coachOf (port / 4)).cars.length + 1 ∧
        (t.coachOf (port / 4)).cars.getLast?.map (fun c => (c.stage, c.port, c.frame, c.ingT)) = some (.parse, port, f, ingT)) ∧
      (k ≠ 0 → (t.coachOf (port / 4)).cars = (s.coachOf (port / 4)).cars)) ∧
  (∀ (s : State) (port why : Nat) (cut : Option TxRef), port < 24 → 2 ≤ s.link port →
    Completes (.linkLoss port why cut) s fun t => t.link port = 1 ∧ t.get (R.PRT_STATUS_FEC_LOCK port) = 0 ∧ Event t (P.PRT port) E.PRT_LINK ∧
      (s.link port = 3 → t.get (R.PRT_LINK_DOWNS_COUNT port) = min (s.get (R.PRT_LINK_DOWNS_COUNT port) + 1) (2 ^ (R.PRT_LINK_DOWNS_COUNT port).w - 1)) ∧
      (why = 3 → t.get (R.PRT_STATUS_LOCAL_FAULT port) = 1) ∧ (why = 4 → t.get (R.PRT_STATUS_REMOTE_FAULT port) = 1)) ∧
  (∀ (s : State) (port : Nat), port < 24 → s.up (8 + port / 4) = true →
    (s.link port = 1 → s.coachOut (port / 4) = false → Completes (.linkLock port) s fun t =>
      t.link port = (if s.get (R.PRT_LINK_HOLD_MS port) = 0 then 3 else 2) ∧ t.get (R.PRT_STATUS_TRAINING port) = 0 ∧ Event t (P.PRT port) E.PRT_LINK) ∧
    (∀ ms, s.link port = 2 → min 10000 (s.get (R.PRT_LINK_HOLD_MS port)) ≤ ms → Completes (.linkHoldExpiry port ms) s fun t => t.link port = 3 ∧ (t.portOf port).ups = ((s.portOf port).ups + 1) % 16 ∧
      Event t (P.PRT port) E.PRT_LINK ∧ Event t (P.PRT port) E.PRT_UP)) ∧
  (∀ (s : State) (m : Master) (port : Nat) (sending : Bool), port < 24 → Open s m (R.PG_CTRL (P.PRT port)) → s.get (R.PG_CTRL_EN (P.PRT port)) = 1 → s.link port ≠ 0 →
    Completes (.portDisable m port sending) s fun t => t.get (R.PG_CTRL_EN (P.PRT port)) = 0 ∧ t.link port = 0 ∧
      (sending = true → t.get (R.PG_STAT_BUSY (P.PRT port)) = 1 ∧ (t.portOf port).closing = true ∧ t.boot.txOn = s.boot.txOn) ∧
      (sending = false → bitOn t.boot.txOn port = false))

/-- R41, R42, R286, R287: the module reset pins, presence and interrupt; a transaction is queued on its coach's bus or refused, and completes in order; a stuck bus ends what
waits on it, and RESTART_BUS frees it; at the end of a window the gear moves up past the threshold, within MAX. -/
def Obligations.ModulesCageBusAndGears : Prop :=
  (∀ (s : State) (port : Nat), port < 24 → 2 ≤ s.get R.BOOT_STAGE_STAGE → s.boot.rstNext = port →
    Completes (.moduleResetRelease port) s fun t => bitOn t.boot.portRst port = !s.flag (R.PRT_MODULE_RST port) ∧ t.boot.rstNext = port + 1 ∧ t.regs = s.regs) ∧
  (∀ (s : State) (m : Master) (port : Nat) (rst : Bool), port < 24 → Open s m (R.PRT_MODULE port) →
    Completes (.moduleRstWrite m port rst) s fun t => t.get (R.PRT_MODULE_RST port) = (if rst then 1 else 0) ∧
      (port < s.boot.rstNext → bitOn t.boot.portRst port = !rst) ∧ (s.boot.rstNext ≤ port → t.boot = s.boot)) ∧
  (∀ (s : State) (port : Nat) (b : Bool), port < 24 → s.up (8 + port / 4) = true → s.cageOn = true →
    (s.flag (R.PRT_MODULE_PRESENT port) = !b → Completes (.modPresent port b) s fun t => t.flag (R.PRT_MODULE_PRESENT port) = b ∧ Event t (P.PRT port) E.PRT_MOD_PRESENT) ∧
    (s.flag (R.PRT_MODULE_INT port) = !b → Completes (.modInt port b) s fun t => t.flag (R.PRT_MODULE_INT port) = b ∧ (b = true → Event t (P.PRT port) E.PRT_MOD_INT))) ∧
  (∀ (s : State) (m : Master) (port len offset dev : Nat), port < 24 → Accepts s m (R.PRT_I2C_CMD_STATUS port) → (s.busOf (port / 4)).stuck = false →
    (s.get (R.PRT_MODULE_PRESENT port) = 1 →
      Completes (.i2cRead m port len offset dev) s (fun t => t.get (R.PRT_I2C_CMD_STATUS port) = 1 ∧ ((s.busOf (port / 4)).queue = [] → (t.busOf (port / 4)).sel = some port) ∧ (t.busOf (port / 4)).queue = (s.busOf (port / 4)).queue ++
        [{ port := port, op := 1, len := i2cLen len, offset := offset, dev := dev, data := s.get (R.PRT_I2C_DATA_BYTES port) }]) ∧
      Completes (.i2cWrite m port len offset dev) s (fun t => t.get (R.PRT_I2C_CMD_STATUS port) = 1 ∧ (t.busOf (port / 4)).queue = (s.busOf (port / 4)).queue ++
        [{ port := port, op := 2, len := i2cLen len, offset := offset, dev := dev, data := s.get (R.PRT_I2C_DATA_BYTES port) }])) ∧
    (s.get (R.PRT_MODULE_PRESENT port) = 0 → Completes (.i2cRead m port len offset dev) s fun t =>
      t.get (R.PRT_I2C_CMD_STATUS port) = 4 ∧ Event t (P.PRT port) E.PRT_I2C_DONE ∧ t.pipe = s.pipe)) ∧
  (∀ (s : State) (m : Master) (port : Nat), port < 24 → Accepts s m (R.PRT_I2C_CMD_STATUS port) →
    Completes (.restartBus m port) s fun t => t.get (R.PRT_I2C_CMD_STATUS port) = 2 ∧ (t.busOf (port / 4)).stuck = false ∧ Event t (P.PRT port) E.PRT_I2C_DONE) ∧
  (∀ (s : State) (c : Nat) (x : I2cTx) (rest : List I2cTx) (data : Nat), c < 6 → (s.busOf c).queue = x :: rest → x.len ≤ 4 →
    Completes (.i2cDone c true data) s (fun t => (t.busOf c).queue = rest ∧ t.get (R.PRT_I2C_CMD_STATUS x.port) = 2 ∧ Event t (P.PRT x.port) E.PRT_I2C_DONE ∧
      (x.op = 1 → t.get (R.PRT_I2C_DATA_BYTES x.port) = data % 2 ^ (8 * x.len))) ∧
    Completes (.i2cDone c false data) s (fun t => (t.busOf c).queue = rest ∧ t.get (R.PRT_I2C_CMD_STATUS x.port) = 3 ∧ Event t (P.PRT x.port) E.PRT_I2C_DONE)) ∧
  (∀ (s : State) (c : Nat), c < 6 → s.up (8 + c) = true →
    Completes (.i2cStuck c false) s fun t => t.busOf c = { queue := [], stuck := true, sel := none } ∧ ∀ i, i < 4 → Event t (P.PRT (4 * c + i)) E.PRT_I2C_STUCK) ∧
  (∀ (s : State) (c : Nat), c < 6 → s.up (8 + c) = true → s.ax.running = true →
    Completes (.gearWindow c) s fun t => (t.coachOf c).demand = 0 ∧
      (s.get (R.CO_GEAR_CTRL_MIN c) ≤ s.get (R.CO_GEAR_NOW_GEAR c) → s.get (R.CO_GEAR_NOW_GEAR c) < min 2 (s.get (R.CO_GEAR_CTRL_MAX c)) →
        s.get (R.CO_GEAR_CTRL_UP c) * (80 * 2 ^ s.get (R.CO_GEAR_NOW_GEAR c)) < 100 * (s.coachOf c).demand →
        t.get (R.CO_GEAR_NOW_GEAR c) = s.get (R.CO_GEAR_NOW_GEAR c) + 1 ∧ Event t (P.CO c) E.CO_GEAR))

/-! ## The pipeline of a coach (R321 to R348) -/

/-- R322 to R332, R340: a request that CLASS lets through goes from PARSE to LOOKUP, VERIFY and COMPOSE, where its departure is promised; a frame for the switch is sent on; a
lane whose results disagree is faulty and loses its carriages; a master that has fallen silent is given up. -/
def Obligations.CarriagesPassFromParseToCompose : Prop :=
  (∀ (s : State) (c cid : Nat) (k : Carriage), c < 6 → s.car c cid = some k → k.stage = .parse → s.up (8 + c) = true → s.staleGen k.gen = false →
    (∀ v, s.classOf k = .verdict v → v ≠ 0 → Completes (.carriageParse c cid) s fun t =>
      (t.car c cid).map (fun x => (x.stage, x.verdict)) = some (.forward, v) ∧ t.regs = s.regs) ∧
    (s.classOf k = .verdict 0 → s.classDrop k false = none → Completes (.carriageParse c cid) s fun t =>
      (t.car c cid).map (fun x => (x.stage, x.verdict)) = some (.lookup, 0) ∧
      t.get (R.CO_RX_TS_COUNT c) = min (s.get (R.CO_RX_TS_COUNT c) + 1) (2 ^ (R.CO_RX_TS_COUNT c).w - 1)) ∧
    (∀ f, s.classOf k = .drop f → Completes (.carriageParse c cid) s fun t => t.car c cid = none ∧ t.get f = min (s.get f + 1) (2 ^ f.w - 1))) ∧
  (∀ (s : State) (c cid : Nat) (k : Carriage) (hit : Bool), c < 6 → s.car c cid = some k → k.stage = .lookup → s.up (8 + c) = true → s.staleGen k.gen = false →
      hit = true ∨ s.linkOpen (8 + c) islSW 1 = true →
    (∀ m, k.frame.body = .ntp m → Completes (.lookupDone c cid hit false) s fun t =>
      ((s.charge k.gen k.srch true k.ingT).1 = 1 → t.car c cid = none) ∧
      ((s.charge k.gen k.srch true k.ingT).1 ≠ 1 → (t.car c cid).map (fun x => x.stage) = some .verify)) ∧
    (∀ m ecc, k.frame.body = .ptp m → Completes (.lookupDone c cid hit ecc) s fun t =>
      t.get R.CLT_CACHE_HIT_COUNT = (if hit then min (s.get R.CLT_CACHE_HIT_COUNT + 1) (2 ^ R.CLT_CACHE_HIT_COUNT.w - 1) else s.get R.CLT_CACHE_HIT_COUNT) ∧
      t.get R.CLT_CACHE_MISS_COUNT = (if hit then s.get R.CLT_CACHE_MISS_COUNT else min (s.get R.CLT_CACHE_MISS_COUNT + 1) (2 ^ R.CLT_CACHE_MISS_COUNT.w - 1)))) ∧
  (∀ (s : State) (c cid : Nat) (k : Carriage), c < 6 → s.car c cid = some k → k.stage = .verify → s.up (8 + c) = true → s.staleGen k.gen = false →
    (∀ m, k.frame.body = .ntp m → m.nts = none → s.oldPlace k = false →
      Completes (.verifyDone c cid false) s fun t => (t.car c cid).map (fun x => x.stage) = some .compose ∧ t.regs = s.regs) ∧
    (k.place % 32 / 4 = c → Completes (.verifyDone c cid true) s fun t => t.car c cid = none ∧ t.laneSt (k.place % 32) = 2 ∧ Event t (P.CO c) E.CO_LANE_FAULT ∧ (31, 0) ∈ t.flt.causes)) ∧
  (∀ (s : State) (c cid tick : Nat) (k : Carriage) (m : NtpMsg), c < 6 → s.car c cid = some k → k.stage = .compose → s.up (8 + c) = true → s.staleGen k.gen = false →
      k.origin = 0 → k.frame.body = .ntp m → s.oldPlace k = false → k.port / 4 = c → s.link k.port = 3 → s.reinsEnd = none →
    Completes (.composeCarriage c cid tick) s fun t => ∃ x, t.car c cid = some x ∧ (x.stage = .sign ∨ x.stage = .composed) ∧ x.depart.isSome = true) ∧
  (∀ (s : State) (c cid : Nat) (k : Carriage), c < 6 → s.car c cid = some k → k.stage = .composed → s.up (8 + c) = true → s.staleGen k.gen = false → k.port / 4 = c →
    Completes (.signQueueAdmit c cid) s fun t => (t.car c cid).map (fun x => x.stage) = some (if s.signRoom k then .sign else .composed) ∧ t.regs = s.regs) ∧
  (∀ (s : State) (port tick : Nat), port < 24 → (s.upOf port).master.isSome = true →
      (s.upOf port).annAt + 3 * logSpan (s.upOf port).annLog ≤ (s.ctrOf (8 + port / 4)).at_ tick →
    Completes (.upstreamAnnounceTimeout port tick) s fun t => (t.upOf port).master = none ∧ (t.upOf port).ann = none ∧
      (∀ b, s.boundCand port = some b → s.up islRH = true → 2 ≤ s.candSt b → s.candSt b ≤ 5 → t.candSt b = 1 ∧ t.get (R.CAND_STATUS_WHY b) = 6))

/-- R322, R333 to R336, R346: SIGN hands a carriage to SEAL; one not signed in time is LATE; at its departure a frame is launched and leaves the port; a multicast timer
creates its carriage; a coach disabled drains, and BUSY and DRAINING show it. -/
def Obligations.CarriagesAreSealedLaunchedAndDrained : Prop :=
  (∀ (s : State) (c cid : Nat) (k : Carriage), c < 6 → s.car c cid = some k → k.stage = .sign → s.up (8 + c) = true → s.staleGen k.gen = false → s.oldPlace k = false →
    Completes (.signDone c cid false) s fun t => (t.car c cid).map (fun x => (x.stage, x.depart)) = some (.seal, k.depart)) ∧
  (∀ (s : State) (c cid tick : Nat) (k : Carriage) (d : Int), c < 6 → s.car c cid = some k → k.stage ≠ .seal → s.up (8 + c) = true → s.departNow k = some d → k.port / 4 = c →
      d - s.getOr (R.CO_SEAL_SETUP_NS c) 200 2000 400 * nsU ≤ (s.ctrOf (8 + c)).at_ tick →
    Completes (.sealSetupCheck c cid tick) s fun t => t.car c cid = none ∧ Event t (P.CO c) E.CO_LATE ∧
      t.get (R.CO_LATE_COUNT c) = min (s.get (R.CO_LATE_COUNT c) + 1) (2 ^ (R.CO_LATE_COUNT c).w - 1)) ∧
  (∀ (s : State) (c cid tick : Nat) (st : Stamp) (k : Carriage) (d : Int) (m : NtpMsg), c < 6 → s.car c cid = some k → k.stage = .seal → s.up (8 + c) = true →
      s.staleGen k.gen = false → s.departNow k = some d → k.frame.body = .ntp m → k.port / 4 = c → s.noLaunch k = false →
      (wireSpan (s.portMode k.port) k.frame.len (d - ofPs (s.cdelay k.gen (R.PRT_DELAY_TX_PS k.port)))).1 ≤ (s.ctrOf (8 + c)).at_ (tick + 1) →
    Completes (.launch c cid tick st) s fun t => t.car c cid = none ∧
      Out.frame k.port k.frame (toT108 (d - ofPs (s.cdelay k.gen (R.PRT_DELAY_TX_PS k.port)))) true ∈ t.sent ∧
      t.get (R.CO_NTP_TX_COUNT c) = min (s.get (R.CO_NTP_TX_COUNT c) + 1) (2 ^ (R.CO_NTP_TX_COUNT c).w - 1)) ∧
  (∀ (s : State) (port tick : Nat), port < 24 → s.up (8 + port / 4) = true → bitOn s.shunt.coaches (port / 4) = false → s.get (R.CO_MC_CFG_EN (port / 4) (port % 4)) = 1 →
      atMultiple ((s.ctrOf (8 + port / 4)).at_ tick) (toSigned 4 (s.get (R.CO_MC_CFG_LOG_ANN (port / 4) (port % 4)))) = true →
      s.mayCreate (port / 4) true (s.flag (R.CO_MC_CFG_AUTH (port / 4) (port % 4))) ((s.ctrOf (8 + port / 4)).at_ tick) = true →
    Completes (.multicastTimer port 0 tick) s fun t => (t.coachOf (port / 4)).cars.length = (s.coachOf (port / 4)).cars.length + 1 ∧
      (t.coachOf (port / 4)).cars.getLast?.map (fun k => (k.origin, k.port, k.stage, k.kind)) = some (1, port, .compose, .announce) ∧ (t.portOf port).mcOk = true) ∧
  (∀ (s : State) (m : Master) (c : Nat), c < 6 → Open s m (R.PG_CTRL (P.CO c)) → s.get (R.PG_CTRL_EN (P.CO c)) = 1 →
    Completes (.coachDisable m c) s fun t => t.get (R.PG_CTRL_EN (P.CO c)) = 0 ∧ t.get (R.CO_STATUS_SERVING c) = 0 ∧
      ((s.coachOf c).cars ≠ [] → (∀ k ∈ (s.coachOf c).cars, past k = true) → t.get (R.PG_STAT_BUSY (P.CO c)) = 1 ∧ t.get (R.CO_STATUS_DRAINING c) = 1) ∧
      (s.coachBusy c = false → t.get (R.PG_STAT_BUSY (P.CO c)) = 0 ∧ t.get (R.CO_STATUS_DRAINING c) = 0 ∧ Event t (P.CO c) E.CO_DRAINED)) ∧
  (∀ (s : State) (c : Nat), c < 6 → s.get (R.PG_STAT_BUSY (P.CO c)) = 1 → s.coachBusy c = false → s.host.enAsked = [] →
    Completes (.drained (P.CO c)) s fun t => t.get (R.PG_STAT_BUSY (P.CO c)) = 0 ∧ t.get (R.CO_STATUS_DRAINING c) = 0 ∧ Event t (P.CO c) E.CO_DRAINED)

/-! ## The switch and its forwarding table (R295 to R314) -/

/-- R295, R298 to R301, R304, R307, R309 to R314: a frame for the host is stored with its copy; cells arrive and are counted, an uncorrectable one takes its frame; a whole frame whose
turn has come is released; a lost one is skipped; a spilled one comes back; an aged copy goes; the switch disabled; transfers of the DRAM that fail, and its throttle. -/
def Obligations.SwitchStoresReleasesAndDropsFrames : Prop :=
  (∀ (s : State) (c slot cid : Nat) (rest : List Nat) (k : Carriage), c < 6 → s.linkOpen (8 + c) islSW 0 = true → (s.coachOf c).toSw = cid :: rest →
      s.staleGen k.gen = false → k.port < 24 → (s.coachOf c).cars.find? (fun x => decide (x.cid = cid ∧ x.stage = .forward)) = some k →
    let u := s.toSlot slot
    (s.swOn = false → Completes (.frameAdmission c slot) s fun t => t.car c cid = none ∧ (t.coachOf c).toSw = rest ∧ t.sw = u.sw ∧
      t.get R.SWF_DIS_DROP_COUNT = min (s.get R.SWF_DIS_DROP_COUNT + 1) (2 ^ R.SWF_DIS_DROP_COUNT.w - 1)) ∧
    (let cls := s.pcpClass k.gen k.frame
     s.swOn = true → k.verdict = 3 → u.refusal k.gen cls (cellsOf (s.cget k.gen (R.PRT_FRAME_MAX_BYTES k.port))) 24 (u.spillDue k.gen cls 24) = 0 →
      Completes (.frameAdmission c slot) s fun t => t.car c cid = none ∧ (t.coachOf c).toSw = rest ∧ t.sw.frames.length = u.sw.frames.length + 1 ∧
        t.sw.frames.getLast?.map (fun f => (f.input, f.fid, f.frame, f.copies.map (fun x => x.dst))) = some (c, cid, k.frame, [24]))) ∧
  (∀ (s : State) (out slot q cls : Nat) (w : SwPart) (x : Cell) (rest : List Cell) (f : SwFrame), out < 7 → s.up islSW = true → s.outOpen out = true → s.sw.slot ≤ slot →
      kvGetD s.sw.sent out 0 ≤ slot →
    let u := s.toSlot slot
    u.pickCell ((out + slot) % 8) out = some (q, cls, w) → kvGetD w.banks (208 * ((out + slot) % 8) + 8 * q + cls) [] = x :: rest → q ≠ 25 →
      u.swFrame x.input x.fid = some f → f.copies.any (fun k => decide (k.dst = q) && !k.spilled) = true → s.injWaits 1 = none →
    Completes (.cellArrival out slot 0) s (fun t => (t.swFrame x.input x.fid).map (fun g => g.copies) = some (f.copies.map (fun k =>
      if (decide (k.dst = q) && !k.spilled) = true then { k with cells := k.cells + 1, entered := true, last := k.last || x.last } else k)) ∧
      kvGetD t.sw.sent out 0 = slot + 1) ∧
    Completes (.cellArrival out slot 2) s (fun t => t.swFrame x.input x.fid = none ∧ (17, 0) ∈ t.flt.causes ∧ Event t P.BUF E.BUF_ECC_UNCORR ∧
      t.get R.BUF_ECC_UNCORR_COUNT = min (s.get R.BUF_ECC_UNCORR_COUNT + 1) (2 ^ R.BUF_ECC_UNCORR_COUNT.w - 1))) ∧
  (∀ (s : State) (out input fid v : Nat) (f : SwFrame), out < 7 → s.swFrame input fid = some f → f.fseq.find? (fun e => decide (e.1 = out)) = some (out, v) →
      kvGetD s.sw.waiting (fseqKey input out f.cls) 0 = v → f.st = 0 → (∃ x ∈ f.copies, fabOut x.dst = out ∧ x.spilled = false) →
      (∀ x ∈ f.copies, fabOut x.dst = out → x.spilled = false → x.cells = f.total ∧ x.ready = false) →
    Completes (.frameRelease out input fid) s fun t => (t.swFrame input fid).map (fun g => g.copies) = some (f.copies.map (fun x =>
      if (decide (fabOut x.dst = out) && !x.spilled) = true then { x with ready := true } else x))) ∧
  (∀ (s : State) (out input cls us : Nat), out < 7 →
    let v := kvGetD s.sw.waiting (fseqKey input out cls) 0
    v ≠ kvGetD s.sw.fseq (fseqKey input out cls) 0 → min 1000 (max 1 (s.get R.SWF_RESEQ_TMO_US)) ≤ us →
      (∀ f, s.sw.frames.find? (fun f => decide (f.input = input ∧ f.cls = cls) && f.fseq.contains (out, v)) = some f → ∀ x ∈ f.copies, fabOut x.dst = out → x.cells = 0) →
    Completes (.reseqSkip out input cls us) s fun t => Event t P.SWF E.SWF_RESEQ_SKIP ∧
      t.get R.SWF_RESEQ_SKIP_COUNT = min (s.get R.SWF_RESEQ_SKIP_COUNT + 1) (2 ^ R.SWF_RESEQ_SKIP_COUNT.w - 1)) ∧
  (∀ (s : State) (dst cls slot : Nat) (f : SwFrame), dst < 25 →
    let u := s.toSlot slot
    (u.queue dst cls).find? (fun f => f.copies.any (fun x => decide (x.dst = dst) && x.spilled)) = some f →
      ((u.queue dst cls).takeWhile (fun g => !g.is f.input f.fid)).all (fun g => g.copies.all (fun x => decide (x.dst ≠ dst) || x.ready)) = true →
      f.copies.all (fun x => decide (x.dst ≠ dst) || decide (x.cells = f.total)) = true →
      2 * u.queueCells dst cls true < u.cget f.gen R.BUF_SPILL_AT_CELLS → s.injWaits 3 = none →
    Completes (.spillReissue dst cls slot false) s fun t =>
      kvGetD t.sw.fseq (fseqKey 7 (fabOut dst) cls) 0 = (kvGetD s.sw.fseq (fseqKey 7 (fabOut dst) cls) 0 + 1) % 4096 ∧
      ∃ g ∈ t.sw.frames, g.input = 7 ∧ g.frame = f.frame ∧ g.copies.all (fun x => decide (x.dst = dst) && !x.spilled) = true) ∧
  (∀ (s : State) (dst cls : Nat) (f : SwFrame) (l : List SwFrame), dst < 25 → cls < 8 → s.queue dst cls = f :: l → s.cget f.gen R.BUF_MAX_AGE_MS ≠ 0 →
      (∀ x ∈ f.copies, x.dst = dst → x.entered = false) → (s.cget f.gen R.BUF_MAX_AGE_MS : Int) * msU - msU ≤ s.ax.mark - f.admT →
    Completes (.aged dst cls) s fun t => Event t P.BUF E.BUF_AGED ∧ t.get R.BUF_AGE_LAST_PORT = dst ∧ t.get R.BUF_AGE_LAST_CLASS = cls ∧
      t.get R.BUF_AGED_COUNT = min (s.get R.BUF_AGED_COUNT + 1) (2 ^ R.BUF_AGED_COUNT.w - 1)) ∧
  (∀ (s : State) (m : Master) (slot : Nat), Open s m (R.PG_CTRL P.SWF) → s.get (R.PG_CTRL_EN P.SWF) = 1 →
    Completes (.switchDisable m slot) s fun t => t.get (R.PG_CTRL_EN P.SWF) = 0 ∧
      (∀ f ∈ t.sw.frames, f.copies.any (fun x => x.issued && !x.spilled) = true) ∧
      (t.get (R.PG_STAT_BUSY P.SWF) = 1 ↔ ∃ f ∈ t.sw.frames, ∃ x ∈ f.copies, x.ready = false)) ∧
  (∀ (s : State) (fails ecc : Nat) (spill : Option (Nat × Nat)), s.up islSW = true →
    Completes (.dramTransferError fails ecc spill) s fun t =>
      t.get R.DRM_CRC_RETRY_COUNT = min (s.get R.DRM_CRC_RETRY_COUNT + min fails 4) (2 ^ R.DRM_CRC_RETRY_COUNT.w - 1) ∧
      t.get R.DRM_ECC_CORR_COUNT = (if ecc = 1 then min (s.get R.DRM_ECC_CORR_COUNT + 1) (2 ^ R.DRM_ECC_CORR_COUNT.w - 1) else s.get R.DRM_ECC_CORR_COUNT) ∧
      (5 ≤ fails ∨ ecc = 2 → (18, 0) ∈ t.flt.causes ∧ Event t P.DRM E.DRM_ECC_UNCORR)) ∧
  (∀ (s : State) (temp : Int) (load : Nat), s.up islSW = true → -131072 ≤ temp → temp < 131072 →
    Completes (.throttle temp load) s fun t => t.getS R.DRM_TEMP_T = temp ∧ t.get R.DRM_LOAD_PERMILLE = min 1000 load ∧
      t.flag R.DRM_STATUS_THROTTLE = decide (85 * 1024 < temp))

/-- R289, R298, R331: the head of an egress queue that has been released leaves its port, with a valid FCS, where no pause, reservation or stale generation keeps it. -/
def Obligations.EgressSchedulerSendsTheHead : Prop :=
  ∀ (s : State) (port cls ecc : Nat) (st : Stamp) (f : SwFrame), port < 24 → s.headOf port cls = some f → s.link port = 3 →
      s.paused port cls (s.stampOf (9 + 2 * port) st) = false →
      (∀ r ∈ s.reserved port, spansMeet (wireSpan (s.portMode port) f.frame.len (s.stampOf (9 + 2 * port) st)) r = false) → s.coachLost (port / 4) = false → s.staleGen f.gen = false → ecc < 2 →
    Completes (.frameTransmit port cls ecc st) s fun t => t.rd (R.STA_RX_FRAMES port + 12) = s.rd (R.STA_RX_FRAMES port + 12) + 1 ∧
      (f.verdict ≠ 1 → Out.frame port f.frame (toT108 (s.stampOf (9 + 2 * port) st)) true ∈ t.sent) ∧
      ∀ g, t.swFrame f.input f.fid = some g → ∀ x ∈ g.copies, x.dst ≠ port

/-- R302, R303: a sweep ages the learned entries; the FDB commands add, delete, read and flush entries of the forwarding table, with their statuses. -/
def Obligations.ForwardingTableCommands : Prop :=
  (∀ s : State, s.up islSW = true → s.get R.SWF_FDB_AGE_S ≠ 0 →
    Completes .fdbAgeSweep s fun t =>
      t.sw.fdb = (s.sw.fdb.map (fun e => { e with seen := e.seen + 1 })).filter (fun e => e.isStatic || decide (e.seen ≤ s.get R.SWF_FDB_AGE_S))) ∧
  (∀ (s : State) (m : Master), Accepts s m R.SWF_FDB_CMD_STATUS →
    (((s.fdbSetOf s.fdbMac).filter (fun x => decide (x.mac ≠ s.fdbMac))).length < 4 → Completes (.addStatic m) s fun t => t.get R.SWF_FDB_CMD_STATUS = 2 ∧
      t.fdbFind s.fdbMac = some { mac := s.fdbMac, ports := s.get R.SWF_FDB_DEST_PORTS, host := s.flag R.SWF_FDB_DEST_HOST, isStatic := true, seen := 0 }) ∧
    ((s.fdbFind s.fdbMac).isSome = true → Completes (.fdbDelete m) s fun t => t.get R.SWF_FDB_CMD_STATUS = 2 ∧ t.fdbFind s.fdbMac = none) ∧
    (s.fdbFind s.fdbMac = none → Completes (.fdbDelete m) s fun t => t.get R.SWF_FDB_CMD_STATUS = 4 ∧ t.sw = s.sw) ∧
    (∀ e, s.fdbFind s.fdbMac = some e → e.ports < 2 ^ 24 → Completes (.fdbRead m) s fun t => t.get R.SWF_FDB_CMD_STATUS = 2 ∧ t.get R.SWF_FDB_DEST_PORTS = e.ports ∧
      t.flag R.SWF_FDB_DEST_HOST = e.host ∧ t.flag R.SWF_FDB_DEST_STATIC = e.isStatic ∧ OnlyRegs s t ∧ OnlySlots [R.SWF_FDB_DEST, R.SWF_FDB_CMD] s t) ∧
    (s.fdbFind s.fdbMac = none → Completes (.fdbRead m) s fun t => t.get R.SWF_FDB_CMD_STATUS = 4 ∧ OnlyRegs s t ∧ OnlySlots [R.SWF_FDB_CMD] s t) ∧
    Completes (.flushLearned m) s (fun t => t.get R.SWF_FDB_CMD_STATUS = 2 ∧ t.sw.fdb = s.sw.fdb.filter (fun x => x.isStatic)) ∧
    Completes (.flushPort m) s (fun t => t.get R.SWF_FDB_CMD_STATUS = 2 ∧
      t.sw.fdb = s.sw.fdb.filter (fun x => x.isStatic || decide (x.ports &&& s.get R.SWF_FDB_DEST_PORTS = 0))))

/-! ## The client table and the timetable (R350 to R366) -/

/-- R361: FIND names the entry of the key, READ shows its 64 bytes, ADD makes an entry that FIND then finds, WRITE replaces what it may, DELETE makes the entry DRAINING, CANCEL
ends its grants and sends a cancellation; each names the reason when it does nothing. -/
def Obligations.ClientCommandsWorkOnTheTable : Prop :=
  (∀ (s : State) (m : Master), Accepts s m R.CLT_CMD_STATUS →
    (∀ i, s.findClient s.windowEntry.port s.windowEntry.portId = some i → i < 1048576 →
      Completes (.cltFind m) s fun t => t.get R.CLT_CMD_IDX_INDEX = i ∧ t.get R.CLT_CMD_STATUS = 2 ∧ t.clt = s.clt) ∧
    (s.findClient s.windowEntry.port s.windowEntry.portId = none →
      Completes (.cltFind m) s fun t => t.get R.CLT_CMD_STATUS = 4 ∧ t.get R.CLT_CMD_IDX_INDEX = s.get R.CLT_CMD_IDX_INDEX)) ∧
  (∀ (s : State) (m : Master), Accepts s m R.CLT_CMD_STATUS →
    (∀ e, s.entry (s.get R.CLT_CMD_IDX_INDEX) = some e → s.get R.CLT_CMD_IDX_INDEX < 1048576 →
      Completes (.cltRead m) s fun t => t.get R.CLT_CMD_STATUS = 2 ∧ t.clt = s.clt ∧
        ∀ j, j < 16 → t.get (R.CLT_ENTRY_BYTES j) = ofBytes (((entryBytes e (s.nextOf (s.get R.CLT_CMD_IDX_INDEX) e)).drop (4 * j)).take 4) % 2 ^ 32) ∧
    (1048576 ≤ s.get R.CLT_CMD_IDX_INDEX →
      Completes (.cltRead m) s fun t => t.get R.CLT_CMD_STATUS = 4 ∧ ∀ j, j < 16 → t.get (R.CLT_ENTRY_BYTES j) = s.get (R.CLT_ENTRY_BYTES j))) ∧
  (∀ (s : State) (m : Master) (i : Nat) (o : ClientEntry), Accepts s m R.CLT_CMD_STATUS → s.cltNamed = some (i, o) →
    Completes (.cltDelete m) s (fun t => t.entry i = some (drained o) ∧ t.get R.CLT_CMD_STATUS = 2 ∧ ∀ j, j ≠ i → t.entry j = s.entry j) ∧
    Completes (.cltCancel m) s (fun t => (t.entry i).map noGrant = some true ∧ t.get R.CLT_CMD_STATUS = 2 ∧ (∀ j, j ≠ i → t.entry j = s.entry j) ∧
      (grantsOf o ≠ [] → (t.coachOf (o.port / 4)).cars.getLast?.map (fun k => (k.origin, k.port, k.client, k.stage)) = some (1, o.port, i, .compose))) ∧
    (s.windowEntry.port ≠ o.port → Completes (.cltWrite m) s fun t => t.get R.CLT_CMD_STATUS = 5 ∧ t.clt = s.clt) ∧
    (∀ e, e = { s.windowEntry with state := o.state, port := o.port, annSeq := o.annSeq, syncSeq := o.syncSeq, annOk := s.windowEntry.annOk && o.annG } →
        s.windowEntry.port = o.port → s.overBudget (s.get R.GEN_IN_FORCE_GEN) (some o) e = false → s.placeable i (some o) e = true →
      Completes (.cltWrite m) s fun t => t.entry i = some e ∧ t.get R.CLT_CMD_STATUS = 2 ∧ ∀ j, j ≠ i → t.entry j = s.entry j)) ∧
  (∀ (s : State) (m : Master), Accepts s m R.CLT_CMD_STATUS → s.cltNamed = none →
    Completes (.cltDelete m) s (fun t => t.get R.CLT_CMD_STATUS = 4 ∧ t.clt = s.clt) ∧ Completes (.cltCancel m) s (fun t => t.get R.CLT_CMD_STATUS = 4 ∧ t.clt = s.clt) ∧
    Completes (.cltWrite m) s (fun t => t.get R.CLT_CMD_STATUS = 4 ∧ t.clt = s.clt)) ∧
  (∀ (s : State) (m : Master), Accepts s m R.CLT_CMD_STATUS →
    (23 < s.windowEntry.port → Completes (.cltAdd m) s fun t => t.get R.CLT_CMD_STATUS = 5 ∧ t.clt = s.clt) ∧
    (s.windowEntry.port ≤ 23 → s.findClient s.windowEntry.port s.windowEntry.portId = none → s.cltFree = 0 →
      Completes (.cltAdd m) s fun t => t.get R.CLT_CMD_STATUS = 3 ∧ t.clt = s.clt) ∧
    (∀ e, e = { s.windowEntry with state := 1, annOk := false, upEpoch := (s.portOf s.windowEntry.port).ups % 16, lastDreq := dreqStart s.ax.mark,
                                    place := s.placeOf (s.freeLane (s.windowEntry.port / 4)) } →
        s.windowEntry.port ≤ 23 → s.findClient s.windowEntry.port s.windowEntry.portId = none → s.cltFree ≠ 0 →
        s.overBudget (s.get R.GEN_IN_FORCE_GEN) none e = false → s.placeable noClient none e = true →
      Completes (.cltAdd m) s fun t => t.get R.CLT_CMD_STATUS = 2 ∧ s.entry (t.get R.CLT_CMD_IDX_INDEX) = none ∧ t.entry (t.get R.CLT_CMD_IDX_INDEX) = some e ∧
        t.findClient s.windowEntry.port s.windowEntry.portId = some (t.get R.CLT_CMD_IDX_INDEX)))

/-- R355, R359, R360: a grant whose END second has come ends, and an entry left without a grant drains; a drained entry leaves its chain and is free; the scrub keeps
LAST_DREQ of each entry it visits from standing more than half a turn back. -/
def Obligations.GrantsExpireAndEntriesAreFreed : Prop :=
  (∀ (s : State) (i mtype : Nat) (e : ClientEntry), s.entry i = some e → e.state = 1 → grantBit e mtype = true → granted e mtype s.ax.mark = false →
    Completes (.grantExpiry i mtype) s fun t => t.entry i = some (endGrant e mtype) ∧ t.get R.CLT_EXPIRED_COUNT = min (s.get R.CLT_EXPIRED_COUNT + 1) (2 ^ 36 - 1) ∧
      ∀ j, j ≠ i → t.entry j = s.entry j) ∧
  (∀ (s : State) (i : Nat) (e : ClientEntry), s.entry i = some e → e.state = 2 → kvGetD s.clt.drainAt i 0 + 17000 ≤ s.ax.marks →
    Completes (.entryFree i) s fun t => t.entry i = none ∧ i ∉ kvGetD t.clt.chains (keySlotOf e.port e.portId) [] ∧ ∀ j, j ≠ i → t.entry j = s.entry j) ∧
  (∀ s : State, s.up islSW = true →
    Completes .clientScrub s fun t => t.clt.scrubAt = (s.clt.scrubAt + 1) % 1048576 ∧
      ∀ e, s.entry s.clt.scrubAt = some e → 2 ^ 31 < (unit16 s.ax.mark + 2 ^ 32 - e.lastDreq) % 2 ^ 32 →
        (t.entry s.clt.scrubAt).map (fun x => x.lastDreq) = some (dreqStart s.ax.mark))

/-- R362 to R366: a slot that begins becomes work for its coach; a visit due creates a carriage and moves the sequence number on, or counts why it did not; a lost record
is counted; a rebuild empties a wheel and places its grants anew, and says when it is done. -/
def Obligations.WheelVisitsCreateCarriages : Prop :=
  (∀ (s : State) (c tick n : Nat) (l : List TtRecord), c < 6 → s.linkOpen (8 + c) islSW 1 = true → n = (slotCount ((s.ctrOf (8 + c)).at_ tick) % 16384).toNat →
      l = kvGetD (s.wheel c).slots n [] → (∀ k ∈ (s.wheel c).work, k.start ≠ slotCount ((s.ctrOf (8 + c)).at_ tick) * slotU) →
    (l ≠ [] → l.length < 2 ^ 20 → s.injWaits 3 = none → Completes (.wheelSlot c tick false) s fun t =>
      (t.wheel c).work = (s.wheel c).work ++ [{ slot := n, start := slotCount ((s.ctrOf (8 + c)).at_ tick) * slotU, count := l.length, left := l }] ∧
      kvGetD (t.wheel c).slots n [] = [] ∧ t.get R.TTB_SLOT_PEAK_N = max (s.get R.TTB_SLOT_PEAK_N) l.length) ∧
    Completes (.wheelSlot c tick true) s (fun t => t.get R.TTB_ECC_LOST_COUNT = min (s.get R.TTB_ECC_LOST_COUNT + l.length) (2 ^ 36 - 1) ∧ Event t P.TTB E.TTB_ECC_LOST)) ∧
  (∀ (s : State) (c tick : Nat) (k : SlotWork) (rest : List SlotWork) (r : TtRecord) (left : List TtRecord) (e : ClientEntry), c < 6 → s.linkOpen (8 + c) islSW 1 = true →
      s.injWaits 3 = none → (s.wheel c).work = k :: rest → k.left = r :: left → s.entry r.client = some e →
      k.start + slotU * (k.count - k.left.length : Nat) / k.count ≤ (s.ctrOf (8 + c)).at_ tick →
      granted e (if r.sync then 0 else 0xB) ((s.ctrOf (8 + c)).at_ tick) = true →
    (s.portUp e.port = false ∨ s.coachOut c = true → Completes (.wheelVisit c tick 0) s fun t => t.get R.TTB_NOT_UP_COUNT = min (s.get R.TTB_NOT_UP_COUNT + 1) (2 ^ 36 - 1) ∧
      t.pipe.coaches = s.pipe.coaches) ∧
    (r.sync = false → s.portUp e.port = true → s.coachOut c = false → (s.ctrOf (8 + c)).at_ tick ≤ k.start + slotU → (s.wheel c).rebuilding = false →
        s.mayCreate c true e.auth ((s.ctrOf (8 + c)).at_ tick) = true →
      Completes (.wheelVisit c tick 0) s fun t => t.get R.TTB_CREATED_COUNT = min (s.get R.TTB_CREATED_COUNT + 1) (2 ^ 36 - 1) ∧
        (t.entry r.client).map (fun x => (x.annSeq, x.annOk)) = some ((e.annSeq + 1) % 65536, true) ∧
        (t.coachOf (e.port / 4)).cars.getLast?.map (fun x => (x.origin, x.port, x.client, x.stage, x.kind)) = some (1, e.port, r.client, .compose, .announce))) ∧
  (∀ (s : State) (m : Master) (c : Nat), c < 6 → Accepts s m R.TTB_CMD_STATUS → s.clt.toBuild = [] → (s.wheel c).rebuilding = false →
    Completes (.rebuild m c) s fun t => t.get R.TTB_CMD_STATUS = 1 ∧ t.clt.toBuild = [c] ∧ (t.wheel c).rebuilding = true ∧ (t.wheel c).work = [] ∧ t.clt.entries = s.clt.entries) ∧
  (∀ (s : State) (c : Nat), c < 6 → s.clt.toBuild = [c] → (s.wheel c).rebuilding = true →
    Completes (.rebuildDone c) s fun t => t.clt.toBuild = [] ∧ (t.wheel c).rebuilding = false ∧ Event t P.TTB E.TTB_REBUILD_DONE ∧
      (s.get R.TTB_CMD_STATUS = 1 → t.get R.TTB_CMD_STATUS = 2))

/-! ## Key slots (R376 to R399) -/

/-- R377, R379, R380, R381: CREATE makes a slot in use; GENERATE, DERIVE, IMPORT and UNWRAP write its PENDING version, with the slot's next number; VERIFY marks it verified
when the engines and the expected KCV agree; DISCARD drops it; no other slot changes.  A command of PF1 on a slot without OPS is refused. -/
def Obligations.KeySourcesWriteThePendingVersion : Prop :=
  (∀ (s : State) (m : Master) (k : Nat), KeyTurn s m → k = s.keyGet m R.KEY_SEL_SLOT → (m = .pf1 → attrOps (s.keyGet m R.KEY_NEW_ATTR_ATTR) = true) →
    ((s.slotK k).st = 0 → attrOk (s.keyGet m R.KEY_NEW_ATTR_ATTR) = true → Completes (.keyCreate m) s fun t =>
      t.slotK k = { KeySlot.init with st := 1, attr := s.keyGet m R.KEY_NEW_ATTR_ATTR, grace := s.keyGet m R.KEY_NEW_GRACE_S } ∧ OnlyKey k s t ∧
        t.keyGet m R.KEY_CMD_STATUS = 2 ∧ Event t P.KEY E.KEY_CMD_DONE) ∧
    ((s.slotK k).st ≠ 0 → Completes (.keyCreate m) s fun t => t.key.slots = s.key.slots ∧ t.keyGet m R.KEY_CMD_STATUS = 5)) ∧
  (∀ (s : State) (m : Master) (k root : Nat), KeyTurn s m → k = s.keyGet m R.KEY_SEL_SLOT → (m = .pf1 → attrOps (s.slotK k).attr = true) → (s.slotK k).st = 1 →
      s.root = some root →
    Completes (.keyGenerate m) s (fun t => (t.slotK k).pend.map (fun v => (v.num, v.keyId)) = some ((s.slotK k).nextNum, s.keyGet m R.KEY_NEW_KEYID_ID) ∧
      (t.slotK k).verified = false ∧ (t.slotK k).act = (s.slotK k).act ∧ OnlyKey k s t ∧ t.keyGet m R.KEY_CMD_STATUS = 2) ∧
    Completes (.keyDerive m 0xFF) s (fun t => (t.slotK k).pend.map (fun v => (v.num, v.key)) = some ((s.slotK k).nextNum,
        Config.hkdf root 0 (hkdfInfo 1 (attrUsage (s.slotK k).attr) (ofBytes (s.bufBytes m 16))) (keyLen (s.slotK k).attr)) ∧ (t.slotK k).act = (s.slotK k).act ∧
      OnlyKey k s t ∧ t.keyGet m R.KEY_CMD_STATUS = 2)) ∧
  (∀ (s : State) (m : Master) (k : Nat), KeyTurn s m → k = s.keyGet m R.KEY_SEL_SLOT → (m = .pf1 → attrOps (s.slotK k).attr = true) → (s.slotK k).st = 1 →
    (attrUsage (s.slotK k).attr ≠ 1 → Completes (.keyImport m) s fun t =>
      (t.slotK k).pend.map (fun v => (v.num, v.key)) = some ((s.slotK k).nextNum, ofBytes (s.bufBytes m (keyLen (s.slotK k).attr))) ∧
        (t.slotK k).act = (s.slotK k).act ∧ OnlyKey k s t ∧ t.keyGet m R.KEY_CMD_STATUS = 2) ∧
    (attrUsage (s.slotK k).attr = 1 → Completes (.keyImport m) s fun t => t.key.slots = s.key.slots ∧ t.keyGet m R.KEY_CMD_STATUS = 14) ∧
    (∀ src w, s.useKey m src 16 = .inl w → Completes (.keyUnwrap m src) s fun t => OnlyKey k s t ∧
      match Config.keyUnwrap w.key (s.bufBytes m (wrapLen (s.slotK k).attr)) with
      | some (v, n) => if n = keyLen (s.slotK k).attr then
            (t.slotK k).pend.map (fun x => (x.num, x.key)) = some ((s.slotK k).nextNum, v) ∧ t.keyGet m R.KEY_CMD_STATUS = 2
          else t.key.slots = s.key.slots ∧ t.keyGet m R.KEY_CMD_STATUS = 10
      | none => t.key.slots = s.key.slots ∧ t.keyGet m R.KEY_CMD_STATUS = 10)) ∧
  (∀ (s : State) (m : Master) (k : Nat) (v : KeyVer) (check : Bool), KeyTurn s m → k = s.keyGet m R.KEY_SEL_SLOT → (m = .pf1 → attrOps (s.slotK k).attr = true) →
      (s.slotK k).pend = some v →
    (check = false ∨ v.kcv = s.keyGet m R.KEY_KCV_EXP_KCV → Completes (.keyVerify m check true) s fun t =>
      t.slotK k = { s.slotK k with verified := true } ∧ OnlyKey k s t ∧ t.keyGet m R.KEY_CMD_STATUS = 2) ∧
    (check = true → v.kcv ≠ s.keyGet m R.KEY_KCV_EXP_KCV → Completes (.keyVerify m check true) s fun t =>
      t.slotK k = { s.slotK k with verified := false } ∧ t.keyGet m R.KEY_CMD_STATUS = 6) ∧
    Completes (.keyVerify m check false) s (fun t => t.slotK k = { s.slotK k with verified := false } ∧ t.keyGet m R.KEY_CMD_STATUS = 6) ∧
    Completes (.keyDiscard m) s (fun t => t.slotK k = { s.slotK k with pend := none, verified := false } ∧ OnlyKey k s t ∧ t.keyGet m R.KEY_CMD_STATUS = 2)) ∧
  (∀ s : State, KeyTurn s .pf1 → attrOps (s.slotK (s.keyGet .pf1 R.KEY_SEL_SLOT)).attr = false →
    Completes (.keyGenerate .pf1) s fun t => t.key.slots = s.key.slots ∧ t.keyGet .pf1 R.KEY_CMD_STATUS = 3)

/-- R382 to R386, R390, R394: COMMIT stays under way until the version is activated at an AXMARK, which retires the old one; its grace and its pins hold the old one until
it is freed; ERASE stays under way until no version remains; REVOKE ends a grace; MINT counts its cookies; RELOAD loads the slots again; the store's halves change places. -/
def Obligations.KeyVersionsActivateRetireAndGo : Prop :=
  (∀ (s : State) (m : Master) (k ack root : Nat) (v : KeyVer), KeyTurn s m → k = s.keyGet m R.KEY_SEL_SLOT → (m = .pf1 → attrOps (s.slotK k).attr = true) →
      (s.slotK k).pend = some v → s.root = some root → (s.slotK k).old = none → (attrUsage (s.slotK k).attr = 4 → s.pairHeld (attrSpp (s.slotK k).attr) v.keyId = false) →
    ((s.slotK k).verified = false → Completes (.keyCommit m true ack) s fun t => t.key.slots = s.key.slots ∧ t.keyGet m R.KEY_CMD_STATUS = 5) ∧
    ((s.slotK k).verified = true → Completes (.keyCommit m true ack) s fun t => t.key.slots = s.key.slots ∧ t.keyGet m R.KEY_CMD_STATUS = 1 ∧
      t.key.running.map (fun c => (c.m, c.op, c.slot, c.ackAt)) = some (m, 7, k, s.voteTime ack))) ∧
  (∀ (s : State) (c : KeyCmd) (v : KeyVer), s.key.running = some c → c.op = 7 → (s.slotK c.slot).pend = some v → c.ackAt + 100000 * nsU ≤ s.ax.mark → s.key.waiting = [] →
    Completes .activated s fun t => (t.slotK c.slot).act = some v ∧ (t.slotK c.slot).old = (s.slotK c.slot).act ∧ (t.slotK c.slot).pend = none ∧
      ((s.slotK c.slot).act.isSome = true → (t.slotK c.slot).graceEnd = some (s.ax.mark + (s.slotK c.slot).grace * secU)) ∧ OnlyKey c.slot s t ∧
      t.key.running = none ∧ t.keyGet c.m R.KEY_CMD_STATUS = 2 ∧ Event t P.KEY E.KEY_ACTIVATED) ∧
  (∀ (s : State) (m : Master) (k : Nat), KeyTurn s m → k = s.keyGet m R.KEY_SEL_SLOT → (m = .pf1 → attrOps (s.slotK k).attr = true) →
    ((s.slotK k).old.isSome = true → (s.slotK k).draining = false → Completes (.keyRevoke m) s fun t =>
      t.slotK k = { s.slotK k with graceEnd := none } ∧ OnlyKey k s t ∧ t.keyGet m R.KEY_CMD_STATUS = 2) ∧
    ((s.slotK k).st = 0 → Completes (.keyErase m true) s fun t => t.key.slots = s.key.slots ∧ t.keyGet m R.KEY_CMD_STATUS = 2) ∧
    ((s.slotK k).st ≠ 0 → Completes (.keyErase m true) s fun t => t.key.slots = s.key.slots ∧ t.keyGet m R.KEY_CMD_STATUS = 1 ∧
      t.key.running.map (fun c => (c.m, c.op, c.slot)) = some (m, 10, k)) ∧
    (∀ a, attrUsage (s.slotK k).attr = 1 → (s.slotK k).st = 1 → bitOn (s.slotK k).attr (masterBit m) = true → attrLcs (s.slotK k).attr s.lcs = true →
        (s.slotK k).act = some a → s.keyGet m R.KEY_MINT_SEALED = 0 → ofBytes ((s.bufBytes m 66).take 2) = 0x000F → 1 ≤ s.keyGet m R.KEY_MINT_COUNT → s.keyGet m R.KEY_MINT_COUNT ≤ 8 →
      Completes (.keyMint m) s fun t => t.keyGet m R.KEY_CMD_STATUS = 2 ∧ t.key.slots = s.key.slots ∧
        (t.bufWord m 0).toNat / 2 ^ 16 = k % 256 * 256 + a.num % 256 ∧
        t.get R.KEY_MINTED_COUNT = min (s.get R.KEY_MINTED_COUNT + s.keyGet m R.KEY_MINT_COUNT) (2 ^ 36 - 1)) ∧
    (m ≠ .pf1 → s.lcs ≠ 4 → Completes (.keyReload m) s fun t => t.key.alive = true ∧ t.get R.KEY_STATUS_ZEROIZED = 0 ∧ t.keyGet m R.KEY_CMD_STATUS = 2)) ∧
  (∀ (s : State) (k : Nat) (v : KeyVer), k < 256 → (s.slotK k).old = some v →
    ((s.slotK k).draining = false → (∃ e : Int, (s.slotK k).graceEnd = some e ∧ 0 ≤ e ∧ e ≤ s.ax.mark) →
      Completes (.keyGraceEnd k) s fun t => OnlyKey k s t ∧ (s.pinned k v = false → (t.slotK k).old = none ∧ Event t P.KEY E.KEY_FREED) ∧
        (s.pinned k v = true → t.slotK k = { s.slotK k with draining := true })) ∧
    ((s.slotK k).draining = true → s.pinned k v = false → Completes (.freed k) s fun t => (t.slotK k).old = none ∧ (t.slotK k).act = (s.slotK k).act ∧ OnlyKey k s t ∧
      Event t P.KEY E.KEY_FREED)) ∧
  (∀ (s : State) (c k ver : Nat), c < 6 → k < 256 → s.linkOpen (8 + c) islKV 0 = true →
    (s.key.msgs.find? (fun q => decide (q.1 = c)) = some (c, true, k, ver) → Completes (.keyPin c) s fun t =>
      t.slotK k = (s.slotK k).bumpPin ver true ∧ t.key.msgs = s.key.msgs.erase (c, true, k, ver) ∧ OnlyKey k s t) ∧
    (s.key.msgs.find? (fun q => decide (q.1 = c)) = some (c, false, k, ver) → Completes (.keyRelease c) s fun t =>
      t.slotK k = (s.slotK k).bumpPin ver false ∧ t.key.msgs = s.key.msgs.erase (c, false, k, ver) ∧ OnlyKey k s t)) ∧
  (∀ (s : State) (k : Nat), k < 256 →
    Completes (.keyMemoryError k) s (fun t => (t.slotK k).st = 5 ∧ (t.slotK k).act = none ∧ (t.slotK k).pend = none ∧ OnlyKey k s t ∧ (19, 0) ∈ t.flt.causes)) ∧
  (∀ (s : State) (k : Nat) (c : KeyCmd), k < 256 → (s.slotK k).st = 2 → (∀ v ∈ (s.slotK k).gone, s.pinned k v = false) → s.key.running = some c → s.key.waiting = [] →
    Completes (.keyEraseDone k) s fun t => t.slotK k = .init ∧ OnlyKey k s t ∧ t.key.running = none ∧ t.keyGet c.m R.KEY_CMD_STATUS = 2) ∧
  (∀ s : State, (2 ^ 20 ≤ s.key.drbg → Completes .drbgReseed s fun t => t.key.drbg = 0 ∧ t.regs = s.regs) ∧
    Completes .keyStoreCompact s (fun t => t.key.half = 1 - s.key.half ∧ t.key.slots = s.key.slots ∧ ∀ r ∈ t.nvm.keyStore.recs, r.type = 2)) ∧
  (∀ (s : State) (m : Master) (w : Word), Open s m R.KEY_DATA →
    Completes (.keyDataAccess m (some w)) s (fun t => t.bufWord m (s.keyGet m R.KEY_DATA_IDX_IDX) = BitVec.ofNat 36 (w.toNat % 2 ^ 32) ∧
      t.keyGet m R.KEY_DATA_IDX_IDX = (s.keyGet m R.KEY_DATA_IDX_IDX + 1) % 2 ^ R.KEY_DATA_IDX_IDX.w) ∧
    Completes (.keyDataAccess m none) s (fun t => (t.mst m).readData = s.bufWord m (s.keyGet m R.KEY_DATA_IDX_IDX) ∧
      t.keyGet m R.KEY_DATA_IDX_IDX = (s.keyGet m R.KEY_DATA_IDX_IDX + 1) % 2 ^ R.KEY_DATA_IDX_IDX.w))

/-! ## The life cycle, tamper, the test port and attestation (R51 to R53, R372 to R375, R391 to R402) -/

/-- R375: an LCY.CMD write takes effect only within 10 s after its master has written the two words of LCY.CONFIRM, the second within 1 ms of the first; otherwise it completes with status CONFIRM;
each confirmation admits one command. R373, R374: a confirmed command starts a change from the states it may start from, and from PF1 or another state it does not; the change programs one
fuse when its record commits, and nothing when it fails. -/
def Obligations.LifeCycleCommandsNeedConfirmation : Prop :=
  (∀ (s : State) (m : Master) (us : Nat), Open s m R.LCY_CONFIRM →
    Completes (.lcyConfirm m (BitVec.ofNat 36 0x31C5DA947) us) s (fun t => t.confirmOf m = { armedAt := some us, okAt := none } ∧ t.regs = s.regs) ∧
    (∀ a, (s.confirmOf m).armedAt = some a → us ≤ a + 1000 →
      Completes (.lcyConfirm m (BitVec.ofNat 36 0xCE3A256B8) us) s fun t => t.confirmOf m = { armedAt := none, okAt := some us } ∧ t.regs = s.regs) ∧
    (∀ a, (s.confirmOf m).armedAt = some a → a + 1000 < us → Completes (.lcyConfirm m (BitVec.ofNat 36 0xCE3A256B8) us) s fun t => t.confirmOf m = { armedAt := none, okAt := none }) ∧
    ((s.confirmOf m).armedAt = none → Completes (.lcyConfirm m (BitVec.ofNat 36 0xCE3A256B8) us) s fun t => t.confirmOf m = { armedAt := none, okAt := none }) ∧
    (∀ w : Word, w.toNat ≠ 0x31C5DA947 → w.toNat ≠ 0xCE3A256B8 → Completes (.lcyConfirm m w us) s fun t => t.confirmOf m = { armedAt := none, okAt := none })) ∧
  (∀ (s : State) (m : Master) (us mode slot : Nat) (c : Instr), c ∈ [Instr.lcyProvision m mode slot us, .lcyDeploy m us, .lcyReturn m us, .lcyDisable m us] → Accepts s m R.LCY_CMD_STATUS →
    ((s.confirmOf m).okAt = none ∨ (∃ o, (s.confirmOf m).okAt = some o ∧ o + 10000000 < us) →
      Completes c s fun t => t.key = s.key ∧ t.get R.LCY_CMD_STATUS = 5 ∧ Event t P.LCY E.LCY_CMD_DONE) ∧
    (∀ o, (s.confirmOf m).okAt = some o → us ≤ o + 10000000 → Completes c s fun t => t.confirmOf m = { armedAt := none, okAt := none } ∧ t.get R.LCY_CMD_STATUS ≠ 5)) ∧
  (∀ (s : State) (m : Master) (us c : Nat), Accepts s m R.LCY_CMD_STATUS → (s.confirmOf m).okAt = some c → us ≤ c + 10000000 → m ≠ .pf1 →
    (∀ mode slot, s.lcs = 0 → mode = 1 ∨ mode = 2 → Completes (.lcyProvision m mode slot us) s fun t =>
      t.key.lcyRun = some (1, mode, slot) ∧ t.get R.LCY_CMD_STATUS = 1 ∧ t.key.fuses = s.key.fuses) ∧
    (∀ mode slot, s.lcs ≠ 0 → Completes (.lcyProvision m mode slot us) s fun t =>
      t.key.lcyRun = s.key.lcyRun ∧ t.get R.LCY_CMD_STATUS = 4 ∧ t.key.fuses = s.key.fuses ∧ Event t P.LCY E.LCY_CMD_DONE) ∧
    (s.lcs = 1 → Completes (.lcyDeploy m us) s fun t =>
      t.key.lcyRun = some (2, s.key.attMode, s.key.attSlot) ∧ t.get R.LCY_CMD_STATUS = 1 ∧ t.key.fuses = s.key.fuses) ∧
    (s.lcs = 1 ∨ s.lcs = 2 → Completes (.lcyReturn m us) s fun t =>
      t.key.lcyRun = some (3, s.key.attMode, s.key.attSlot) ∧ t.get R.LCY_CMD_STATUS = 1 ∧ t.key.fuses = s.key.fuses) ∧
    (s.lcs < 4 → Completes (.lcyDisable m us) s fun t =>
      t.key.lcyRun = some (4, s.key.attMode, s.key.attSlot) ∧ t.get R.LCY_CMD_STATUS = 1 ∧ t.key.fuses = s.key.fuses)) ∧
  (∀ (s : State) (us c : Nat), Accepts s .pf1 R.LCY_CMD_STATUS → (s.confirmOf .pf1).okAt = some c → us ≤ c + 10000000 →
    Completes (.lcyDisable .pf1 us) s fun t => t.key.fuses = s.key.fuses ∧ t.key.lcyRun = s.key.lcyRun ∧ t.get R.LCY_CMD_STATUS = 3) ∧
  (∀ (s : State) (new mode slot : Nat), s.key.lcyRun = some (new, mode, slot) →
    Completes (.lcyChangeDone true) s (fun t => bitOn t.key.fuses new = true ∧ (∀ j, j ≠ new → bitOn t.key.fuses j = bitOn s.key.fuses j) ∧ t.key.attMode = mode ∧
      t.key.lcyRun = none ∧ Event t P.LCY E.LCY_STATE ∧ (s.get R.LCY_CMD_STATUS = 1 → t.get R.LCY_CMD_STATUS = 2) ∧
      (new ≠ 2 → t.get R.KEY_STATUS_ZEROIZED = 1 ∧ ∀ k, k < 256 → (t.slotK k).act = none)) ∧
    Completes (.lcyChangeDone false) s (fun t => t.key.fuses = s.key.fuses ∧ t.key.slots = s.key.slots ∧ t.key.lcyRun = none ∧
      (s.get R.LCY_CMD_STATUS = 1 → t.get R.LCY_CMD_STATUS = 6)))

/-- R391 to R395, R402: a sensor that starts to alarm is latched, holds line 20, closes every expert window and takes KV's keys; the end of its condition lets go of the line but not of the
latch; a latch bit clears only when its condition has gone; the policy changes only in PROVISIONED, and always watches the first three sensors. -/
def Obligations.TamperLatchesAndTakesTheKeys : Prop :=
  (∀ (s : State) (k : Nat), k < 6 → s.aoOn = true → s.watched k = true → bitOn (s.get R.TMP_NOW_SENSOR) k = false →
    Completes (.tamperAlarm k) s fun t => bitOn (t.get R.TMP_NOW_SENSOR) k = true ∧ bitOn (t.rd R.TMP_LATCH).toNat k = true ∧ Event t P.TMP E.TMP_ALARM ∧
      (20, 1) ∈ t.flt.causes ∧ (s.rd R.TMP_LATCH = 0 → t.get R.TMP_FIRST_SENSOR = k) ∧
      t.get R.TMP_ALARMS_COUNT = min (s.get R.TMP_ALARMS_COUNT + 1) (2 ^ 36 - 1) ∧ (∀ m, (t.mst m).window ≠ 2) ∧
      (s.up islKV = true → t.key.alive = false ∧ t.get R.KEY_STATUS_ZEROIZED = 1 ∧ ∀ j, j < 256 → (t.slotK j).act = none ∧ (t.slotK j).pend = none)) ∧
  (∀ (s : State) (k : Nat), k < 6 → s.aoOn = true → bitOn (s.get R.TMP_NOW_SENSOR) k = true → Completes (.tamperAlarm k) s fun t => t = s) ∧
  (∀ (s : State) (k : Nat), k < 6 → bitOn (s.get R.TMP_NOW_SENSOR) k = true →
    Completes (.tmpNowClear k) s fun t => bitOn (t.get R.TMP_NOW_SENSOR) k = false ∧ (∀ j, j ≠ k → bitOn (t.get R.TMP_NOW_SENSOR) j = bitOn (s.get R.TMP_NOW_SENSOR) j) ∧
      t.rd R.TMP_LATCH = s.rd R.TMP_LATCH ∧ (t.get R.TMP_NOW_SENSOR = 0 → (20, 1) ∉ t.flt.causes)) ∧
  (∀ (s : State) (m : Master) (w : Word), Open s m R.TMP_LATCH →
    Completes (.tmpLatchClear m w) s fun t => (∀ j, bitOn (t.rd R.TMP_LATCH).toNat j =
        (bitOn (s.rd R.TMP_LATCH).toNat j && (!bitOn w.toNat j || bitOn (s.rd R.TMP_NOW).toNat j))) ∧ (t.rd R.TMP_LATCH = 0 → t.get R.TMP_FIRST_SENSOR = 15) ∧
      OnlySlots [R.TMP_LATCH, R.TMP_FIRST] s t) ∧
  (∀ (s : State) (m : Master) (w : Word), Open s m R.TMP_POLICY →
    (s.lcs = 1 → Completes (.tmpPolicyWrite m w true) s fun t => t.get R.TMP_POLICY_EN = (R.TMP_POLICY_EN.of w ||| 7) ∧ t.get R.TMP_POLICY_DISABLE = R.TMP_POLICY_DISABLE.of w) ∧
    (s.lcs ≠ 1 → Completes (.tmpPolicyWrite m w true) s fun t => t.rd R.TMP_POLICY = s.rd R.TMP_POLICY ∧ t.nvm = s.nvm ∧ Event t P.GLB E.GLB_ACCESS_ERR))

/-- R52, R53: an instruction that takes the pins is in force while RESET_N is low or in HITCHED, and is refused elsewhere; a private test instruction is refused outside MANUFACTURE
and RETURNED, where the spec does not say what it does and the model stops; the pins return when the instruction goes. -/
def Obligations.TestPortInstructionsAreGuarded : Prop :=
  (∀ (s : State) (i : PinInstr), s.aoOn = true →
    (s.boot.resetLow = true ∨ s.inHitched = true → Completes (.jtagPinInstruction i) s fun t => t.boot.tap = .pins i ∧ t.tapInForce = true ∧ t.key = s.key) ∧
    (s.boot.resetLow = false → s.inHitched = false → Completes (.jtagPinInstruction i) s fun t =>
      t.boot.tap = .pins i ∧ t.tapInForce = false ∧ t.key = s.key ∧ (s.up islMGT = true → Event t P.GLB E.GLB_JTAG_REFUSED))) ∧
  (∀ s : State, s.aoOn = true →
    (s.lcs ≠ 0 → s.lcs ≠ 3 → s.up islMGT = true → Completes .jtagPrivateInstruction s fun t => t.boot.tap = .bypass ∧ t.key = s.key ∧ Event t P.GLB E.GLB_JTAG_REFUSED) ∧
    (s.lcs = 0 ∨ s.lcs = 3 → exec .jtagPrivateInstruction s = .refused .privateTest)) ∧
  (∀ s : State, Completes .jtagInstructionExit s fun t => t.boot.tap = .reset ∧ t.tapInForce = false ∧
    (s.boot.pos = .chosen ∨ s.boot.pos = .released ∨ s.boot.pos = .applied → t.get R.BOOT_STAGE_HOLD_WHY ≠ 3))

/-- R396 to R398: a statement waits for the generation's hash, is held with its length, and is refused while tampered or where the device has no mode for it; the hash when complete is
announced and lets the waiting statement go. -/
def Obligations.AttestationStatesAndHashes : Prop :=
  (∀ (s : State) (m : Master), Accepts s m R.ATT_CMD_STATUS →
    (s.rd R.TMP_LATCH ≠ 0 → Completes (.statement m) s fun t => t.get R.ATT_CMD_STATUS = 6 ∧ t.key = s.key ∧ Event t P.ATT E.ATT_DONE) ∧
    (s.rd R.TMP_LATCH = 0 → s.key.attMode = 0 ∨ s.lcs = 3 ∨ s.lcs = 4 → Completes (.statement m) s fun t => t.get R.ATT_CMD_STATUS = 3 ∧ t.key = s.key) ∧
    (s.rd R.TMP_LATCH = 0 → s.key.lcyRun = none → s.lcs ≠ 3 → s.lcs ≠ 4 → s.key.attMode = 1 → s.key.alive = true →
      (s.get R.ATT_STATUS_GEN_HASH_OK = 1 → Completes (.statement m) s fun t => t.get R.ATT_CMD_STATUS = 2 ∧ t.key.stmt.length = 93 ∧ t.get R.ATT_OUT_IDX_IDX = 0 ∧
        t.get R.ATT_STATEMENTS_COUNT = min (s.get R.ATT_STATEMENTS_COUNT + 1) (2 ^ 36 - 1) ∧ Event t P.ATT E.ATT_DONE) ∧
      (s.get R.ATT_STATUS_GEN_HASH_OK = 0 → Completes (.statement m) s fun t => t.get R.ATT_CMD_STATUS = 1 ∧ t.key.attAsked = some s.nowT ∧ t.key.stmt = s.key.stmt))) ∧
  (∀ s : State, s.up islKV = true → s.up islMGT = true → s.get R.ATT_STATUS_GEN_HASH_OK = 0 → s.get R.GEN_IN_FORCE_GEN ≠ 0 →
    Completes .genHash s fun t => t.get R.ATT_STATUS_GEN_HASH_OK = 1 ∧ Event t P.ATT E.ATT_GEN_HASH ∧
      (s.key.attAsked.isSome = true → t.key.attAsked = none ∧ t.get R.ATT_CMD_STATUS = 2))

/-! ## Generations (R403 to R409) -/

/-- R406, R407: PREPARE copies the shadows into the staging sets, or completes at once with the reason why it cannot; the participants report; the decision at D cancels when a report is
missing or a CANCEL has come, and announces the commit otherwise.  No value in force changes. -/
def Obligations.GenerationsPrepareAndDecide : Prop :=
  (∀ (s : State) (m : Master) (tick : Nat), Open s m R.GEN_CMD → s.genState = 0 → s.prove.running = false →
    (s.get R.BOOT_STAGE_STAGE < 2 → Completes (.genPrepare m tick) s fun t => t.get R.GEN_CMD_STATUS = 7 ∧ t.genState = 0 ∧ t.staging = s.staging) ∧
    (2 ≤ s.get R.BOOT_STAGE_STAGE → s.get R.GEN_FENCED_ISLANDS ≠ 0 → Completes (.genPrepare m tick) s fun t =>
      t.get R.GEN_CMD_STATUS = 5 ∧ t.genState = 0 ∧ t.staging = s.staging) ∧
    (2 ≤ s.get R.BOOT_STAGE_STAGE → s.get R.GEN_FENCED_ISLANDS = 0 → ofT108 (s.rdT R.GEN_COMMIT_AT) < s.voteTime tick + s.genGuard + 2 * msU →
      Completes (.genPrepare m tick) s fun t => t.get R.GEN_CMD_STATUS = 6 ∧ t.genState = 0 ∧ t.staging = s.staging) ∧
    (2 ≤ s.get R.BOOT_STAGE_STAGE → s.get R.GEN_FENCED_ISLANDS = 0 → s.rdT R.GEN_COMMIT_AT % 2 ^ 30 = 0 → s.rdT R.GEN_COMMIT_AT / 2 ^ 30 % 2 ^ 30 % 1000000 = 0 →
        s.voteTime tick + s.genGuard + 2 * msU ≤ ofT108 (s.rdT R.GEN_COMMIT_AT) → ofT108 (s.rdT R.GEN_COMMIT_AT) ≤ s.voteTime tick + 60 * secU →
      Completes (.genPrepare m tick) s fun t => t.staging = s.shadow ∧ t.genState = 1 ∧ t.get R.GEN_CMD_STATUS = 1 ∧ t.get R.GEN_NEXT_GEN = s.genNextNum ∧
        t.get R.GEN_PREPARED_ISLANDS = 0 ∧ t.gen.at_ = ofT108 (s.rdT R.GEN_COMMIT_AT) ∧ OnlySlots [R.GEN_CMD, R.GEN_NEXT, R.GEN_PREPARED, R.GEN_STATUS] s t)) ∧
  (∀ (s : State) (m : Master) (tick : Nat), Open s m R.GEN_CMD → s.genState ≠ 0 →
    Completes (.genPrepare m tick) s fun t => t.staging = s.staging ∧ t.gen = s.gen ∧ t.genState = s.genState ∧ Event t P.GLB E.GLB_WC_REJECT) ∧
  (∀ (s : State) (m : Master), Open s m R.GEN_CMD →
    (s.genState = 1 ∨ s.genState = 2 → Completes (.genCancel m) s fun t => t.gen.asked = true ∧ t.regs = s.regs) ∧
    (s.genState ≠ 1 → s.genState ≠ 2 → Completes (.genCancel m) s fun t => t.gen = s.gen ∧ t.get R.GEN_CMD_STATUS = 4)) ∧
  (∀ (s : State) (i : Nat), i < 16 → s.genState = 1 → i ∈ s.participants → s.islandDead i = false → s.up islMGT = true →
    Completes (.preparedReport i) s fun t => bitOn (t.get R.GEN_PREPARED_ISLANDS) i = true ∧
      (∀ j, j ≠ i → bitOn (t.get R.GEN_PREPARED_ISLANDS) j = bitOn (s.get R.GEN_PREPARED_ISLANDS) j) ∧
      ((∀ j ∈ s.participants, j = i ∨ bitOn (s.get R.GEN_PREPARED_ISLANDS) j = true) → t.genState = 2) ∧
      (¬(∀ j ∈ s.participants, j = i ∨ bitOn (s.get R.GEN_PREPARED_ISLANDS) j = true) → t.genState = 1)) ∧
  (∀ s : State, s.genState = 1 ∨ s.genState = 2 → s.gen.at_ - s.genGuard ≤ s.ax.mark →
    (s.gen.asked = true ∨ (∃ i ∈ s.participants, bitOn (s.get R.GEN_PREPARED_ISLANDS) i = false) → Completes .genDecision s fun t =>
      t.genState = 0 ∧ t.staging = [] ∧ t.get R.GEN_CMD_STATUS = 3 ∧ t.get R.GEN_NEXT_GEN = 0 ∧ t.shadow = s.shadow ∧ Event t P.GEN E.GEN_CANCELLED ∧
        (∀ i ∈ s.participants, bitOn (t.get R.GEN_LAGGARDS_ISLANDS) i = !bitOn (s.get R.GEN_PREPARED_ISLANDS) i)) ∧
    (s.gen.asked = false → (∀ i ∈ s.participants, bitOn (s.get R.GEN_PREPARED_ISLANDS) i = true) → Completes .genDecision s fun t =>
      t.genState = 3 ∧ t.staging = s.staging ∧ OnlySlots [R.GEN_STATUS] s t))

/-- R407 to R409: a report of APPLIED is taken, and the last one ends the commit; at T + 1 ms what has not reported is fenced; a fenced island whose return has been run takes the
committed values, and its fence lifts at the next AXMARK. -/
def Obligations.CommitsEndAndFencesLift : Prop :=
  (∀ (s : State) (i : Nat), i < 16 → s.islandDead i = false → s.up islMGT = true → bitOn (s.get R.GEN_FENCED_ISLANDS) i = false → s.genState = 4 → bitOn s.gen.parts i = true →
      kvGet s.gen.keep i = none →
    Completes (.appliedReport i) s fun t => bitOn t.gen.applied i = true ∧
      ((∀ j ∈ s.toApply, j = i ∨ bitOn s.gen.applied j = true) → t.genState = 0 ∧ t.get R.GEN_CMD_STATUS = 2) ∧
      (¬(∀ j ∈ s.toApply, j = i ∨ bitOn s.gen.applied j = true) → t.regs = s.regs)) ∧
  (∀ (s : State) (i : Nat), i < 16 → s.islandDead i = false → s.up islMGT = true → bitOn (s.get R.GEN_FENCED_ISLANDS) i = true → bitOn s.gen.returned i = true →
      kvGet s.gen.late i = none →
    Completes (.appliedReport i) s fun t => kvGet t.gen.late i = some s.ax.marks ∧ kvGet t.gen.keep i = none) ∧
  (∀ (s : State) (cuts : List (Nat × TxRef)), s.genState = 4 → ofT108 (s.rdT R.GEN_LAST_T) + msU ≤ s.ax.mark →
    Completes (.appliedTimeout cuts) s fun t => t.genState = 0 ∧ t.get R.GEN_CMD_STATUS = 2 ∧
      ∀ i ∈ s.toApply, bitOn s.gen.applied i = false → i < 2 ∨ 4 < i → bitOn (t.get R.GEN_FENCED_ISLANDS) i = true) ∧
  (∀ s : State, Completes .unfenced s fun t => ∀ i ∈ genIslands, ∀ m, kvGet s.gen.late i = some m → m < s.ax.marks →
    bitOn (t.get R.GEN_FENCED_ISLANDS) i = false ∧ kvGet t.gen.late i = none ∧ Event t P.GEN E.GEN_UNFENCED)

/-! ## Migrations, shunts and returns (R410 to R413) -/

/-- R410 to R412: a migration starts at its AXMARK, fixes its fence when the old placement has passed COMPOSE or 10 µs have gone, moves the lane's epoch at the fence, and is over when
its entries are rewritten, which completes the host's command. -/
def Obligations.MigrationsMoveALane : Prop :=
  (∀ (s : State) (lane : Nat) (g : Migration), lane < 24 → s.migOf lane = some g → g.begun = false → g.asked < s.ax.marks →
    Completes (.migrationStart lane) s fun t => (t.migOf lane).map (fun x => (x.begun, x.start, x.oldPlace)) = some (true, s.ax.mark, s.placeOf lane) ∧
      t.get R.SHNT_MIG_STAT_ACTIVE = 1 ∧ t.get R.SHNT_MIG_STAT_FROM = lane ∧ OnlySlots [R.SHNT_MIG_STAT] s t) ∧
  (∀ (s : State) (lane tick : Nat) (g : Migration), lane < 24 → s.migOf lane = some g → g.begun = true → g.fence = none →
      (∀ k ∈ (s.coachOf (lane / 4)).cars, g.oldCids.contains k.cid = true → beforeCompose k = false) ∨
        g.start + 10000 * nsU ≤ (s.ctrOf (8 + lane / 4)).at_ tick →
    Completes (.migrationFenceFixed lane tick) s fun t => ∃ f, (t.migOf lane).map (fun x => x.fence) = some (some f) ∧ (s.ctrOf (8 + lane / 4)).at_ tick ≤ f ∧
      t.rdT R.SHNT_MIG_FENCE = toT108 f % 2 ^ 108 ∧ ∀ k ∈ (t.coachOf (lane / 4)).cars, k.place = g.oldPlace → ∀ d, k.depart = some d → d ≤ f) ∧
  (∀ (s : State) (lane tick : Nat) (g : Migration) (f : Int), lane < 24 → s.migOf lane = some g → g.fence = some f → g.fenced = false →
      f ≤ (s.ctrOf (8 + lane / 4)).at_ tick →
    Completes (.migrationFence lane tick) s fun t => kvGetD (t.coachOf (lane / 4)).epochs lane 0 = (kvGetD (s.coachOf (lane / 4)).epochs lane 0 + 1) % 8 ∧
      (t.migOf lane).map (fun x => x.fenced) = some true ∧ (g.shunt = true → t.laneSt lane = 1 ∧ t.isShunted 3 lane = true) ∧
      (g.shunt = false → t.laneSt lane = s.laneSt lane) ∧ (t.coachOf (lane / 4)).cars = (s.coachOf (lane / 4)).cars) ∧
  (∀ (s : State) (lane : Nat) (g : Migration), lane < 24 → s.migOf lane = some g → g.fenced = true →
    Completes (.migrated lane) s fun t => t.migOf lane = none ∧ Event t P.SHNT E.SHNT_MIGRATED ∧
      t.get R.SHNT_MIGRATIONS_COUNT = min (s.get R.SHNT_MIGRATIONS_COUNT + 1) (2 ^ 36 - 1) ∧
      (s.isCmd 1 3 lane = true ∨ s.isCmd 3 3 lane = true → t.get R.SHNT_CMD_STATUS = 2 ∧ t.shunt.cmd = none)) ∧
  (∀ (s : State) (m : Master) (lane dest : Nat), Accepts s m R.SHNT_CMD_STATUS →
    (s.noUnit 3 lane = false → s.proves 3 lane = false → s.laneSt lane = 0 → dest / 4 = lane / 4 → dest ≠ lane → s.laneSt dest = 0 →
      Completes (.migrateCmd m 3 lane dest) s fun t => t.get R.SHNT_CMD_STATUS = 1 ∧ t.shunt.migs.length = s.shunt.migs.length + 1 ∧
        t.shunt.migs.getLast?.map (fun x => (x.lane, x.to_, x.begun, x.shunt)) = some (lane, dest, false, false)) ∧
    (∀ kind, kind ≠ 3 → Completes (.migrateCmd m kind lane dest) s fun t => t.get R.SHNT_CMD_STATUS = 6 ∧ t.shunt = s.shunt ∧ Event t P.SHNT E.SHNT_REFUSED))

/-- R413, R136, R420: SHUNT takes a unit out, at once or when its work has ended; RETURN starts its return, which puts it back or, for a lane whose test fails, leaves it out; a unit the
device does not have, or that stands as asked, is refused. -/
def Obligations.UnitsAreShuntedAndReturned : Prop :=
  (∀ (s : State) (m : Master) (kind i : Nat), Accepts s m R.SHNT_CMD_STATUS → s.noUnit kind i = true →
    Completes (.shuntCmd m kind i) s (fun t => t.get R.SHNT_CMD_STATUS = 6 ∧ t.shunt = s.shunt ∧ Event t P.SHNT E.SHNT_REFUSED) ∧
    Completes (.shntReturn m kind i) s (fun t => t.get R.SHNT_CMD_STATUS = 6 ∧ t.shunt = s.shunt ∧ Event t P.SHNT E.SHNT_REFUSED)) ∧
  (∀ (s : State) (m : Master) (kind i : Nat), Accepts s m R.SHNT_CMD_STATUS → s.noUnit kind i = false → s.proves kind i = false → s.isShunted kind i = false →
    (kind = 1 → Completes (.shuntCmd m kind i) s fun t => t.get R.SHNT_CMD_STATUS = 1 ∧ t.shunt.ask = some { op := 1, kind := 1, index := i, to_ := 31 }) ∧
    (kind = 2 → Completes (.shuntCmd m kind i) s fun t => t.get R.SHNT_CMD_STATUS = 1 ∧ t.tri.shuntReq = some i) ∧
    (kind = 3 → (∃ l ∈ s.lanesIn (i / 4), l ≠ i) → Completes (.shuntCmd m kind i) s fun t => t.get R.SHNT_CMD_STATUS = 1 ∧
      t.shunt.migs.getLast?.map (fun x => (x.lane, x.to_, x.begun, x.shunt)) = some (i, 31, false, true)) ∧
    (kind = 3 → (∀ l ∈ s.lanesIn (i / 4), l = i) → Completes (.shuntCmd m kind i) s fun t => t.get R.SHNT_CMD_STATUS = 4 ∧ t.shunt = s.shunt) ∧
    (kind = 4 ∨ kind = 5 ∨ kind = 6 → Completes (.shuntCmd m kind i) s fun t => t.isShunted kind i = true ∧ t.get (R.PG_STAT_SHUNTED (unitPage kind i)) = 1 ∧
      t.get R.SHNT_CMD_STATUS = 2 ∧ t.get R.SHNT_SHUNTS_COUNT = min (s.get R.SHNT_SHUNTS_COUNT + 1) (2 ^ 36 - 1) ∧ Event t P.SHNT E.SHNT_DONE)) ∧
  (∀ (s : State) (m : Master) (kind i : Nat), Accepts s m R.SHNT_CMD_STATUS → s.noUnit kind i = false → s.proves kind i = false → s.isShunted kind i = true ∨ s.fencedUnit kind i = true →
    (kind = 2 → Completes (.shntReturn m kind i) s fun t => t.isShunted 2 i = false ∧ (t.coreOf i).returned = true ∧ t.get R.SHNT_CMD_STATUS = 2) ∧
    (kind ≠ 2 → Completes (.shntReturn m kind i) s fun t => (kind, i) ∈ t.shunt.back ∧ t.get R.SHNT_CMD_STATUS = 1) ∧
    (s.isShunted kind i = true → Completes (.shuntCmd m kind i) s fun t => t.shunt = s.shunt ∧ t.get R.SHNT_CMD_STATUS = 6)) ∧
  (∀ (s : State) (i : Nat) (cals : List CalResult) (temp : Int) (cuts : List (Nat × TxRef)),
    (i < 6 → (1, i) ∈ s.shunt.back → Completes (.shuntReturnDone 1 i true cals temp cuts) s fun t =>
      t.isShunted 1 i = false ∧ (1, i) ∉ t.shunt.back ∧ bitOn t.shunt.coaches i = false ∧ (s.isCmd 2 1 i = true → t.get R.SHNT_CMD_STATUS = 2)) ∧
    (i < 24 → (3, i) ∈ s.shunt.back → Completes (.shuntReturnDone 3 i true cals temp cuts) s fun t =>
      t.isShunted 3 i = false ∧ t.laneSt i = 0 ∧ (3, i) ∉ t.shunt.back ∧ (s.isCmd 2 3 i = true → t.get R.SHNT_CMD_STATUS = 2)) ∧
    (i < 24 → (3, i) ∈ s.shunt.back → Completes (.shuntReturnDone 3 i false cals temp cuts) s fun t =>
      t.laneSt i = s.laneSt i ∧ (3, i) ∉ t.shunt.back ∧ (31, 0) ∈ t.flt.causes ∧ (s.isCmd 2 3 i = true → t.get R.SHNT_CMD_STATUS = 7)) ∧
    (i < 8 → (4, i) ∈ s.shunt.back → s.ticSt i ≠ 4 → Completes (.shuntReturnDone 4 i true cals temp cuts) s fun t => t.isShunted 4 i = false ∧ (4, i) ∉ t.shunt.back) ∧
    (i < 6 → (1, i) ∉ s.shunt.back → s.isCmd 1 1 i = true → bitOn s.shunt.coaches i = true → s.coachBusy i = false →
      Completes (.shuntReturnDone 1 i true cals temp cuts) s fun t => t.isShunted 1 i = true ∧ t.get R.SHNT_CMD_STATUS = 2 ∧ t.shunt.cmd = none))

/-! ## Proving runs (R414 to R418) -/

/-- R414 to R418: RUN_NOW asks for a run at the next second mark; it starts with the first checker, or is refused and counted; the test of a unit passes or fails; the run ends with its
last unit, and a STOP or the end of its window aborts it. -/
def Obligations.ProvingRunsTestTheirUnits : Prop :=
  (∀ (s : State) (m : Master), Accepts s m R.PROVE_CMD_STATUS →
    Completes (.runNow m) s fun t => t.prove.asked = true ∧ t.get R.PROVE_CMD_STATUS = 1 ∧ t.prove.running = s.prove.running ∧ OnlySlots [R.PROVE_CMD] s t) ∧
  (∀ s : State, s.ax.secMark = true → s.up islMGT = true → s.prove.running = false → s.prove.asked = true ∨ s.proveDue = true →
    (s.mayProve = true → s.get R.PROVE_CTRL_CHECK = 1 → Completes .proveStart s fun t => t.prove.running = true ∧ t.prove.testing = [(1, 1)] ∧ t.prove.asked = false ∧
      t.prove.start = s.ax.mark ∧ t.get R.PROVE_STATUS_STATE = 1 ∧ t.get R.PROVE_STATUS_KIND = 1 ∧ t.get R.PROVE_STATUS_UNIT = 1 ∧ t.get R.PROVE_FAIL_UNITS_UNITS = 0 ∧
      Event t P.PROVE E.PROVE_START) ∧
    (s.mayProve = false → Completes .proveStart s fun t => t.prove.running = false ∧ t.prove.asked = false ∧ Event t P.PROVE E.PROVE_ABORT ∧
      t.get R.PROVE_ABORTS_COUNT = min (s.get R.PROVE_ABORTS_COUNT + 1) (2 ^ 36 - 1) ∧ (s.prove.asked = true → t.get R.PROVE_CMD_STATUS = 3))) ∧
  (∀ (s : State) (u : Nat) (cals : List CalResult) (temp : Int), s.prove.running = true → s.prove.left = [] → u < 8 →
    (s.prove.testing = [(1, u)] →
      Completes (.proveUnitDone 1 u true cals temp) s (fun t => t.prove.running = false ∧ t.prove.testing = [] ∧ t.get R.PROVE_STATUS_STATE = 0 ∧ Event t P.PROVE E.PROVE_DONE ∧
        t.get R.PROVE_RUNS_COUNT = min (s.get R.PROVE_RUNS_COUNT + 1) (2 ^ 36 - 1) ∧ t.get R.PROVE_FAILS_COUNT = s.get R.PROVE_FAILS_COUNT) ∧
      Completes (.proveUnitDone 1 u false cals temp) s (fun t => t.prove.testing = [] ∧ Event t P.PROVE E.PROVE_FAIL ∧
        t.get R.PROVE_FAILS_COUNT = min (s.get R.PROVE_FAILS_COUNT + 1) (2 ^ 36 - 1) ∧ bitOn (t.get R.PROVE_FAIL_UNITS_UNITS) 22 = true)) ∧
    (s.prove.testing = [(3, u)] → s.migOf u = none →
      Completes (.proveUnitDone 3 u true cals temp) s (fun t => t.isShunted 3 u = false ∧ t.laneSt u = 0 ∧ t.prove.testing = []) ∧
      Completes (.proveUnitDone 3 u false cals temp) s (fun t => t.laneSt u = s.laneSt u ∧ t.prove.testing = [] ∧ bitOn (t.get R.PROVE_FAIL_LANES_LANE) u = true ∧
        (31, 0) ∈ t.flt.causes)) ∧
    (s.prove.testing = [(2, u)] → Completes (.proveUnitDone 2 u false cals temp) s fun t => t.prove.testing = [] ∧ t.isShunted 4 u = s.isShunted 4 u ∧
      Event t P.PROVE E.PROVE_FAIL ∧ (9, 0) ∈ t.flt.causes)) ∧
  (∀ (s : State) (m : Master), Open s m R.PROVE_CMD →
    Completes (.proveStop m) s fun t => t.prove.running = false ∧ t.prove.asked = false ∧ t.get R.PROVE_CMD_STATUS = 2 ∧
      (s.prove.running = true → t.prove.testing = [] ∧ t.get R.PROVE_STATUS_STATE = 0 ∧ Event t P.PROVE E.PROVE_ABORT ∧
        t.get R.PROVE_ABORTS_COUNT = min (s.get R.PROVE_ABORTS_COUNT + 1) (2 ^ 36 - 1))) ∧
  (∀ s : State, s.prove.start + (s.getOr R.PROVE_WINDOW_S 300 3600 1800 : Nat) * secU ≤ s.ax.mark → s.prove.running = true →
    Completes .proveWindowEnd s fun t => t.prove.running = false ∧ t.prove.testing = [] ∧ Event t P.PROVE E.PROVE_ABORT)

/-! ## The redundancy group (R422 to R443) -/

/-- R425, R426, R428, R441, R443: a TT frame leaves on every link each cycle; one received gives its arrival, and an offset with the frame it answers; heartbeat and locks come, go and are
counted; a link down for a second holds line 27. -/
def Obligations.LinksExchangeTimeAndHeartbeat : Prop :=
  (∀ s : State, s.ax.running = true → Completes .ttSend s fun t => ∀ n ∈ s.dugLinks,
    (∃ tx q r teb st src, Sends s t n 0 (.tt tx q r teb st src)) ∧ (t.peer n).txSeq = ((s.peer n).txSeq + 1) % 2 ^ 32) ∧
  (∀ (s : State) (n : Nat) (f : DugFrame) (st : Stamp) (t1 t4 : Int) (q teb sg src : Nat), Taken s n f → f.body = .tt t1 q t4 teb sg src →
    Completes (.ttReceive n f st) s fun t => (t.peer n).rx = some (f.seq, cutT (s.stampOf (56 + 2 * n) st)) ∧ t.get (R.DUG_PEER_TEB_PS n) = min wordMax teb ∧
      t.get (R.DUG_PEER_STAT_ROLE n) = f.role % 8 ∧
      (∀ th d, s.ttPair n t1 (cutT (s.stampOf (56 + 2 * n) st)) t4 q = some (th, d) → -(2 ^ 71 : Int) ≤ th → th < 2 ^ 71 →
        t.rdS (R.DUG_OFFSET n) = th ∧ (t.peer n).thetas.head? = some th)) ∧
  (∀ (s : State) (n tick : Nat) (f : DugFrame) (st : Stamp), n ∈ s.dugLinks → f.ok = false ∨ f.group ≠ s.get R.DUG_CFG_GROUP →
    Completes (.ttReceive n f st) s (fun t => t = s.bump (R.DUG_RX_ERR_COUNT n)) ∧ Completes (.renewReceive n f tick) s (fun t => t = s.bump (R.DUG_RX_ERR_COUNT n))) ∧
  (∀ (s : State) (n tick : Nat), n < 2 → s.up islRH = true →
    (s.heart n = true → Completes (.hbLost n tick) s fun t => t.heart n = false ∧ Event t P.DUG E.DUG_HB_LOST ∧
      t.get (R.DUG_HB_LOSS_COUNT n) = min (s.get (R.DUG_HB_LOSS_COUNT n) + 1) (2 ^ (R.DUG_HB_LOSS_COUNT n).w - 1)) ∧
    (n ∈ s.dugLinks → s.heart n = false → s.get (R.DUG_PEER_STAT_LANE0_UP n) = 1 → Completes (.heartbeatReturn n tick) s fun t => t.heart n = true) ∧
    (n ∈ s.dugLinks → s.get (R.DUG_PEER_STAT_LANE0_UP n) = 0 → Completes (.dugLinkDownTimer n) s fun t => (27, 3 + n) ∈ t.flt.causes) ∧
    (n ∈ s.dugLinks → s.get (R.DUG_PEER_STAT_LANE0_UP n) = 0 → Completes (.laneLockChange n 0 true tick) s fun t =>
      t.get (R.DUG_PEER_STAT_LANE0_UP n) = 1 ∧ (27, 3 + n) ∉ t.flt.causes ∧ Event t P.DUG E.DUG_LINK) ∧
    (n ∈ s.dugLinks → s.get (R.DUG_PEER_STAT_LANE0_UP n) = 1 → Completes (.laneLockChange n 0 false tick) s fun t =>
      t.get (R.DUG_PEER_STAT_LANE0_UP n) = 0 ∧ t.heart n = false ∧ Event t P.DUG E.DUG_LINK))

/-- R429 to R434: a holder's RENEW moves the lease and, in a group of two, its end; a member takes it and answers, or keeps the lease that another still holds; one acknowledgement is the
quorum of three; a holder that meets another gives way by precedence; at the end of its promises a holder stops. -/
def Obligations.LeaseIsRenewedAcknowledgedAndEnds : Prop :=
  (∀ (s : State) (tick : Nat), s.role = 1 → s.inGroup = true → s.up islRH = true → s.ax.running = true → s.dug.stopping = false → s.flt.brake = .off →
    Completes (.renewSend tick) s fun t => t.dug.lease = (s.dug.lease + 1) % 2 ^ 32 ∧ t.dug.pendE = cutT (s.rhTime tick + s.leaseLen) ∧
      (∀ n ∈ s.dugLinks, Sends s t n 0 (.renew ((s.dug.lease + 1) % 2 ^ 32) (cutT (s.rhTime tick + s.leaseLen)))) ∧
      (s.get R.DUG_CFG_SIZE = 2 → t.rdT R.DUG_LEASE_END = toT108 (cutT (s.rhTime tick + s.leaseLen)) % 2 ^ 108) ∧
      (s.get R.DUG_CFG_SIZE ≠ 2 → t.rdT R.DUG_LEASE_END = s.rdT R.DUG_LEASE_END)) ∧
  (∀ (s : State) (tick : Nat), s.role = 1 → s.dug.stopping = true ∨ s.flt.brake ≠ .off → Completes (.renewSend tick) s fun t => t = s) ∧
  (∀ (s : State) (n tick lease : Nat) (e : Int) (f : DugFrame), Taken s n f → s.inGroup = true → f.body = .renew lease e →
    (s.role = 2 → s.dug.leaseOf = f.serial ∨ s.leaseEnd + s.guardT ≤ s.rhTime tick → Completes (.renewReceive n f tick) s fun t =>
      t.dug.lease = lease ∧ t.dug.leaseOf = f.serial ∧ t.rdT R.DUG_LEASE_END = toT108 e % 2 ^ 108 ∧ t.get R.DUG_STATUS_HOLDER_AT = n + 1 ∧ t.role = 2 ∧
        Sends s t n 0 (.ack lease e)) ∧
    (s.role = 2 → s.dug.leaseOf ≠ f.serial → s.dug.renewed = true → s.rhTime tick < s.leaseEnd + s.guardT → s.dug.handT = none →
      Completes (.renewReceive n f tick) s fun t => t.dug.lease = s.dug.lease ∧ t.rdT R.DUG_LEASE_END = s.rdT R.DUG_LEASE_END ∧ t.role = 2) ∧
    (s.role = 1 → f.role = 1 → s.outranksOf f = true → Completes (.renewReceive n f tick) s fun t =>
      t.role = 1 ∧ t.get R.DUG_STATUS_DUAL = 1 ∧ t.dug.lease = s.dug.lease) ∧
    (s.role = 1 → f.role = 1 → s.outranksOf f = false → Completes (.renewReceive n f tick) s fun t =>
      t.role = 2 ∧ t.get R.DUG_STATUS_DUAL = 0 ∧ t.dug.lease = lease ∧ t.dug.leaseOf = f.serial)) ∧
  (∀ (s : State) (n lease : Nat) (e : Int) (f : DugFrame), Taken s n f → s.inGroup = true → f.body = .ack lease e → s.role = 1 → s.dug.stopping = false →
      lease ≤ s.dug.lease → e ≤ s.dug.pendE → s.leaseEnd < e →
    Completes (.ackReceive n f) s fun t => t.rdT R.DUG_LEASE_END = toT108 e % 2 ^ 108) ∧
  (∀ (s : State) (tick : Nat), s.role = 1 → s.inGroup = true → s.leaseEnd - s.guardT ≤ s.rhTime tick →
    (s.dug.stopping = true → Completes (.leaseStop tick) s fun t => t.role = 2 ∧ Event t P.DUG E.DUG_ROLE) ∧
    (s.dug.stopping = false → s.get R.DUG_CFG_SIZE = 3 → Completes (.leaseStop tick) s fun t => t.role = 4 ∧ (27, 2) ∈ t.flt.causes ∧ Event t P.DUG E.DUG_ROLE) ∧
    (s.dug.stopping = false → s.get R.DUG_CFG_SIZE = 2 → Completes (.leaseStop tick) s fun t => t = s)) ∧
  (∀ (s : State) (tick : Nat) (e : Int), s.role = 0 → s.dug.soloEnd = some e → e ≤ s.rhTime tick → Completes (.leaseStop tick) s fun t => t.dug.soloOff = true ∧ t.regs = s.regs)

/-- R432, R433, R438, R439: a member whose holder's lease has ended claims, and in a group of two holds at once; a claim is answered by the lease and by precedence; a grant makes the
claimant HOLDER, and without one it stands back after 1 ms; a handover names its target, which takes the reins at its end. -/
def Obligations.ReinsAreClaimedAndHandedOver : Prop :=
  (∀ (s : State) (tick : Nat), s.role = 2 → s.inGroup = true → s.up islRH = true → s.ax.running = true → s.dug.handT = none → s.dug.claimed = false →
      s.claimFrom ≤ s.rhTime tick →
    (s.get R.DUG_CFG_SIZE = 2 → Completes (.claimStart tick) s fun t => t.role = 1 ∧ t.get R.DUG_TAKEOVERS_COUNT = min (s.get R.DUG_TAKEOVERS_COUNT + 1) (2 ^ 36 - 1) ∧
      t.dug.lease = (s.dug.lease + 1) % 2 ^ 32) ∧
    (s.get R.DUG_CFG_SIZE ≠ 2 → Completes (.claimStart tick) s fun t => t.role = 3 ∧ t.dug.claimT = s.rhTime tick)) ∧
  (∀ (s : State) (n tick : Nat) (old : Int) (f : DugFrame), Taken s n f → s.inGroup = true → f.body = .claim old →
    (s.role = 1 ∨ (s.dug.renewed = true ∧ s.rhTime tick < s.leaseEnd + s.guardT) → Completes (.claimReceive n f tick) s fun t =>
      Sends s t n 0 (.reply f.serial 2) ∧ t.role = s.role) ∧
    (s.role = 2 → s.leaseEnd + s.guardT ≤ s.rhTime tick → Completes (.claimReceive n f tick) s fun t => Sends s t n 0 (.reply f.serial 1) ∧ t.role = 2) ∧
    (s.role = 3 → s.leaseEnd + s.guardT ≤ s.rhTime tick → s.outranksOf f = true → Completes (.claimReceive n f tick) s fun t => Sends s t n 0 (.reply f.serial 3) ∧ t.role = 3) ∧
    (s.role = 3 → s.leaseEnd + s.guardT ≤ s.rhTime tick → s.outranksOf f = false → Completes (.claimReceive n f tick) s fun t =>
      Sends s t n 0 (.reply f.serial 1) ∧ t.role = 2 ∧ Event t P.DUG E.DUG_CLAIM_LOST)) ∧
  (∀ (s : State) (n tick v : Nat) (f : DugFrame), Taken s n f → s.inGroup = true → f.body = .reply s.ownSerial v → s.role = 3 → s.rhTime tick ≤ s.dug.claimT + msU →
    (v = 1 → Completes (.replyReceive n f tick) s fun t => t.role = 1 ∧ t.get R.DUG_TAKEOVERS_COUNT = min (s.get R.DUG_TAKEOVERS_COUNT + 1) (2 ^ 36 - 1)) ∧
    (v = 2 → Completes (.replyReceive n f tick) s fun t => t.role = 3 ∧ t.dug.refused = true)) ∧
  (∀ (s : State) (tick : Nat), s.role = 3 → s.dug.claimT + msU ≤ s.rhTime tick →
    (s.dug.refused = true ∨ (s.heart 0 = false ∧ s.heart 1 = false) → Completes (.claimTimeout tick) s fun t => t.role = 4 ∧ (27, 2) ∈ t.flt.causes ∧ t.dug.claimed = true) ∧
    (s.dug.refused = false → s.heart 0 = true ∨ s.heart 1 = true → Completes (.claimTimeout tick) s fun t => t.role = 2 ∧ t.dug.claimed = true)) ∧
  (∀ (s : State) (m : Master) (dest tick : Nat), Accepts s m R.DUG_CMD_STATUS →
    (s.role ≠ 1 → Completes (.handover m dest tick) s fun t => t.get R.DUG_CMD_STATUS = 3 ∧ t.dug = s.dug) ∧
    (s.role = 1 → s.inGroup = true → s.dug.stopping = false → s.bestStandby = none → Completes (.handover m 0 tick) s fun t => t.get R.DUG_CMD_STATUS = 4 ∧ t.dug = s.dug) ∧
    (∀ n, s.role = 1 → s.inGroup = true → s.dug.stopping = false → s.bestStandby = some n → Completes (.handover m 0 tick) s fun t =>
      t.get R.DUG_CMD_STATUS = 1 ∧ t.dug.stopping = true ∧ t.dug.target = (s.peer n).serial ∧
        ∃ eh, t.dug.handT = some eh ∧ s.rhTime tick + msU + 2 * s.guardT ≤ eh ∧ ∀ j ∈ s.dugLinks, Sends s t j 0 (.handover (s.peer n).serial eh))) ∧
  (∀ (s : State) (n serial : Nat) (eh : Int) (f : DugFrame), Taken s n f → s.inGroup = true → f.body = .handover serial eh → s.role ≠ 0 → s.role ≠ 1 →
    Completes (.handoverReceive n f) s fun t => t.dug.handT = some eh ∧ t.dug.target = serial ∧ t.rdT R.DUG_LEASE_END = toT108 eh % 2 ^ 108) ∧
  (∀ (s : State) (tick : Nat) (eh : Int), s.dug.handT = some eh →
    (s.role = 2 → s.inGroup = true → s.dug.stopping = false → s.dug.target = s.ownSerial → eh + s.guardT ≤ s.rhTime tick →
      Completes (.handoverTake tick) s fun t => t.role = 1 ∧ t.dug.handT = none) ∧
    (s.role ≠ 1 → eh + 5 * msU ≤ s.rhTime tick → Completes (.handoverTimeout tick) s fun t => t.dug.handT = none ∧ t.dug.stopping = false ∧ t.role = s.role))

/-- R435, R437, R440: a follower reads the selector's state, its steps and the leap as the holder's, and its clients as the mirror brings them; a sweep that has arrived whole frees what it
did not contain; the holder sends its own; a STANDBY sleeps and wakes. -/
def Obligations.FollowersMirrorTheHolder : Prop :=
  (∀ (s : State) (n : Nat) (f : DugFrame), Taken s n f → s.inGroup = true → s.get R.DUG_STATUS_FOLLOW = 1 → s.mirrorLink = some n →
    (∀ status kind amount at_, f.body = .sel status kind amount at_ → Completes (.selFrameReceive n f) s fun t => t.rd R.SEL_STATUS = status ∧
      (kind = 0 → t.dug.due = s.dug.due) ∧ (kind ≠ 0 → t.dug.due.length = s.dug.due.length + 1)) ∧
    (∀ v at_, f.body = .leap v at_ → v / 2 % 2 = 1 → v / 4 % 4 = 0 → s.get R.VOTE_STATUS_LEAP_PEND = 0 → s.get R.VOTE_UTC_OFFSET ≠ v / 16 % 4096 →
      Completes (.leapFrameReceive n f) s fun t => t.ax.utcReq = some (v / 16 % 4096)) ∧
    (∀ sw e, f.body = .client sw false e → s.up islSW = true → e.port < 24 → s.cltFree ≠ 0 → s.findClient e.port e.portId = none →
      Completes (.clientFrameReceive n f) s fun t => ((t.findClient e.port e.portId).bind t.entry).map (fun x => (x.state, x.port, x.portId, x.annSeq, x.syncSeq)) =
        some (e.state, e.port, e.portId, e.annSeq, e.syncSeq)) ∧
    (∀ sw e i o, f.body = .client sw true e → s.up islSW = true → s.findClient e.port e.portId = some i → s.entry i = some o →
      Completes (.clientFrameReceive n f) s fun t => t.entry i = some (drained o)) ∧
    (∀ no count tick, f.body = .sweep no false count → s.up islSW = true → Completes (.sweepReceive n f tick) s fun t =>
      t.dug.inSweep = true ∧ t.dug.sweepNo = no ∧ t.dug.sweepKeys = [] ∧ t.clt = s.clt) ∧
    (∀ no tick, f.body = .sweep no true s.dug.sweepKeys.length → s.up islSW = true → s.dug.inSweep = true → s.dug.sweepNo = no → Completes (.sweepReceive n f tick) s fun t =>
      t.dug.swept = true ∧ t.dug.inSweep = false ∧ t.get R.DUG_SWEEPS_COUNT = min (s.get R.DUG_SWEEPS_COUNT + 1) (2 ^ 36 - 1) ∧
        ∀ p ∈ t.clt.entries, (p.2.port, p.2.portId) ∈ s.dug.sweepKeys)) ∧
  (∀ s : State, s.role = 1 →
    Completes .leapFrameSend s (fun t => ∀ n ∈ s.dugLinks, Sends s t n 1 (.leap s.leapField (s.rd R.VOTE_LEAP_AT))) ∧
    (s.up islSW = true → Completes .sweepSend s fun t => t.dug.sweepNo = (s.dug.sweepNo + 1) % 2 ^ 32 ∧
      t.get R.DUG_SWEEPS_COUNT = min (s.get R.DUG_SWEEPS_COUNT + 1) (2 ^ 36 - 1) ∧
      ∀ n ∈ s.dugLinks, Sends s t n 1 (.sweep ((s.dug.sweepNo + 1) % 2 ^ 32) false 0) ∧
        Sends s t n 1 (.sweep ((s.dug.sweepNo + 1) % 2 ^ 32) true (s.clt.entries.filter (fun p => decide (p.2.state = 1 ∨ p.2.state = 2))).length))) ∧
  (∀ (s : State) (m : Master), Accepts s m R.DUG_CMD_STATUS →
    (s.role = 2 → Completes (.sleep m) s fun t => t.role = 5 ∧ t.get R.DUG_CMD_STATUS = 2 ∧ ∀ i, 7 ≤ i → i ≤ 14 → t.up i = false) ∧
    (s.role ≠ 2 → Completes (.sleep m) s fun t => t = s.set R.DUG_CMD_STATUS 3) ∧
    (s.role = 5 → Completes (.wake m) s fun t => t.gen.reconf = sleepMask ∧ t.get R.DUG_CMD_STATUS = 1 ∧ t.role = 5) ∧
    (s.role ≠ 5 → Completes (.wake m) s fun t => t = s.set R.DUG_CMD_STATUS 3)) ∧
  (∀ (s : State) (cals : List CalResult) (temp : Int), s.role = 6 → (∀ p, p < 24 → s.link p = 0) ∨ (∃ p, p < 24 ∧ 2 ≤ s.link p) →
    Completes (.wakeDone cals temp) s fun t => t.role = 2 ∧ Event t P.DUG E.DUG_ROLE)

/-! ## Junction temperature and the event recorder (R463 to R474, R506 to R508) -/

/-- R506, R391: the hottest of the junctions is TJ and the peak; at the alert threshold THERM_ALERT_N and ALERT are on; a junction out of the range that the tamper sensor watches
alarms. -/
def Obligations.JunctionSensorsAreSampled : Prop :=
  (∀ (s : State) (t0 : Int) (rest : List Int), s.aoOn = true → (∀ x ∈ t0 :: rest, -46080 ≤ x ∧ x ≤ 128000) → bitOn (s.get R.TMP_NOW_SENSOR) 4 = false →
    Completes (.thmSample (t0 :: rest)) s fun t => t.getS R.THM_TJ_T = rest.foldl max t0 ∧ t.boot.thmSeen = true ∧
      (s.boot.thmSeen = true → t.getS R.THM_TJ_PEAK_T = max (s.getS R.THM_TJ_PEAK_T) (rest.foldl max t0)) ∧
      (s.getS R.THM_ALERT_SET_T ≤ rest.foldl max t0 → t.get R.THM_STATUS_ALERT = 1 ∧ Event t P.THM E.THM_ALERT) ∧
      (min (s.getS R.THM_CRIT_T) 122880 ≤ rest.foldl max t0 → t.get R.THM_STATUS_CRIT = 1 ∧ (26, 1) ∈ t.flt.causes) ∧
      (rest.foldl max t0 ≤ 102400 → t.boot.hotMs = s.boot.hotMs) ∧ t.rd R.TMP_NOW = s.rd R.TMP_NOW) ∧
  (∀ (s : State) (temps : List Int), s.aoOn = true → s.watched 4 = true → bitOn (s.get R.TMP_NOW_SENSOR) 4 = false → (∃ x ∈ temps, 128000 < x ∨ x < -46080) →
    Completes (.thmSample temps) s fun t => bitOn (t.get R.TMP_NOW_SENSOR) 4 = true ∧ bitOn (t.rd R.TMP_LATCH).toNat 4 = true ∧ Event t P.TMP E.TMP_ALARM)

/-- R463 to R467, R473: a trigger that reaches MGT enters the queue if its code's bucket and the queue have room, and is counted if not; the head of the queue becomes the record with the next
sequence number; the host's mark is a trigger; a code's bucket and snapshot list are set through its registers; a batch takes the oldest waiting records (R469), and one that fails twice leaves them marked; a
fetch (R472) finds its record in the journal or says why not. -/
def Obligations.RecorderQueuesAndRecords : Prop :=
  (∀ (s : State) (i us : Nat) (tr : Trigger) (rest : List Trigger), i < 16 → i = islMGT ∨ s.linkOpen i islMGT 2 = true → s.erec.transit = tr :: rest → tr.island = i →
    ((s.codeCfg tr.code).fill = 0 ∨ 1000000 ≤ s.bucketAt tr.code us → s.erec.queue.length < 256 → Completes (.recTrigger i us) s fun t =>
      t.erec.transit = rest ∧ t.erec.queue.length = s.erec.queue.length + 1 ∧
        t.erec.queue.getLast?.map (fun x => (x.code, x.inst, x.args)) = some (tr.code, tr.inst, tr.args) ∧ t.regs = s.regs) ∧
    ((s.codeCfg tr.code).fill = 0 ∨ 1000000 ≤ s.bucketAt tr.code us → 256 ≤ s.erec.queue.length → Completes (.recTrigger i us) s fun t =>
      t.erec.queue = s.erec.queue ∧ t.erec.qGap = true ∧ t.get R.REC_Q_LOST_COUNT = min (s.get R.REC_Q_LOST_COUNT + 1) (2 ^ 36 - 1) ∧ Event t P.REC E.REC_Q_LOST) ∧
    ((s.codeCfg tr.code).fill ≠ 0 → s.bucketAt tr.code us < 1000000 → Completes (.recTrigger i us) s fun t =>
      t.erec.transit = rest ∧ t.erec.queue = s.erec.queue ∧ t.get R.REC_SUPPRESSED_COUNT = min (s.get R.REC_SUPPRESSED_COUNT + 1) (2 ^ 36 - 1) ∧
        kvGetD t.erec.supp tr.code 0 = kvGetD s.erec.supp tr.code 0 + 1)) ∧
  (∀ (s : State) (tr : Trigger) (rest : List Trigger), s.up islMGT = true → s.erec.queue = tr :: rest → tr.code < 256 →
    Completes .recRecordWrite s fun t => t.erec.queue = rest ∧ t.get R.REC_HEAD_SEQ = s.seqNext ∧ t.erec.qGap = false ∧
      ∃ w, kvGet t.erec.ring (s.seqNext % 2048) = some w ∧ w.length = 62 ∧ (w.getD 0 0).toNat = s.seqNext ∧ (w.getD 1 0).toNat / 2 ^ 28 = tr.code ∧ w.getD 61 0 = recCrc w) ∧
  (∀ (s : State) (m : Master) (v : Word), Open s m R.REC_HOST_MARK →
    Completes (.hostMark m v) s fun t => t.regs = s.regs ∧ t.erec.transit.length = s.erec.transit.length + 1 ∧
      t.erec.transit.getLast?.map (fun x => (x.island, x.code, x.args)) = some (islMGT, 0x03, [v.toNat, masterCode m])) ∧
  (∀ (s : State) (m : Master) (v : Word), Open s m R.REC_CODE_SEL →
    Completes (.codeSelWrite m v) s fun t => t.get R.REC_CODE_SEL_CODE = R.REC_CODE_SEL_CODE.of v ∧ t.erec = s.erec ∧
      ∀ k, k < 24 → t.get (R.REC_SNAP_SLOT k) = (s.codeCfg (R.REC_CODE_SEL_CODE.of v)).snap.getD k 0 % 2 ^ 23) ∧
  (∀ (s : State) (m : Master) (v : Word), Open s m R.REC_CODE_CFG →
    Completes (.codeCfgWrite m v) s fun t => (t.codeCfg (s.get R.REC_CODE_SEL_CODE)).fill = R.REC_CODE_CFG_FILL.of v ∧
      (t.codeCfg (s.get R.REC_CODE_SEL_CODE)).depth = R.REC_CODE_CFG_DEPTH.of v ∧ (t.codeCfg (s.get R.REC_CODE_SEL_CODE)).snap.length = min 24 (R.REC_CODE_CFG_NSNAP.of v) ∧
      (∀ c, c ≠ s.get R.REC_CODE_SEL_CODE → t.codeCfg c = s.codeCfg c) ∧ t.regs = s.regs) ∧
  (∀ (s : State) (ageMs : Nat) (retryOk : Bool) (l : List Nat), l = s.erec.waiting.take (s.getOr R.REC_JRN_BATCH_BATCH 1 16 16) → l ≠ [] → s.up islMGT = true → s.nvm.savingBatches = [] →
      l.length = s.getOr R.REC_JRN_BATCH_BATCH 1 16 16 ∨ s.getOr R.REC_JRN_CFG_MAX_AGE 10 60000 1000 ≤ ageMs →
    Completes (.journalBatchWrite ageMs none true retryOk) s (fun t => t.erec.waiting = s.erec.waiting.drop l.length ∧ t.erec.failed = s.erec.failed ∧
      t.get R.REC_JRN_FAIL_COUNT = s.get R.REC_JRN_FAIL_COUNT ∧ t.get R.REC_ECC_UNCORR_COUNT = s.get R.REC_ECC_UNCORR_COUNT) ∧
    Completes (.journalBatchWrite ageMs none false false) s (fun t => t.erec.waiting = s.erec.waiting.drop l.length ∧ t.erec.failed = s.erec.failed ++ l ∧ (21, 0) ∈ t.flt.causes ∧
      t.get R.REC_JRN_FAIL_COUNT = min (s.get R.REC_JRN_FAIL_COUNT + 2) (2 ^ 36 - 1) ∧ Event t P.REC E.REC_JRN_FAIL)) ∧
  (∀ (s : State) (m : Master), Accepts s m R.REC_FETCH_CMD_STATUS →
    Completes (.fetch m) s fun t => t.erec.fetching = some (s.get R.REC_FETCH_SEQ_SEQ) ∧ t.get R.REC_FETCH_CMD_STATUS = 1 ∧ OnlySlots [R.REC_FETCH_CMD] s t) ∧
  (∀ (s : State) (n : Nat), s.erec.fetching = some n →
    (s.journalRecs.find? (fun w => decide (recSeq w = n)) = none → Completes .fetchDone s fun t =>
      t.get R.REC_FETCH_CMD_STATUS = 3 ∧ t.erec.fetchBuf = s.erec.fetchBuf ∧ t.erec.fetching = none ∧ Event t P.REC E.REC_FETCH_DONE) ∧
    (∀ w, s.journalRecs.find? (fun w => decide (recSeq w = n)) = some w → Completes .fetchDone s fun t =>
      t.erec.fetchBuf = w ∧ t.erec.fetching = none ∧ t.get R.REC_FETCH_CMD_STATUS = (if w.getD 61 0 = recCrc w then 2 else 4) ∧ Event t P.REC E.REC_FETCH_DONE))

/-! ## The SPI target and the DMA (R475 to R491) -/

/-- R478, R479: a READ answers its fill byte and five bytes of the register; a WRITE takes effect only with its ten bytes and their CRC; STATUS answers one byte; anything else is
discarded and counted. -/
def Obligations.SpiReadsWritesAndDiscards : Prop :=
  (∀ (s : State) (a b c wait tick : Nat), s.hostUp .spi = true →
    Completes (.spiRead [a, b, c] wait (wait + 6) tick) s (fun t => t.get R.SPI_TRANSFERS_COUNT = min (s.get R.SPI_TRANSFERS_COUNT + 1) (2 ^ 36 - 1) ∧
      t.get R.SPI_STATUS_ABORTED = 0 ∧ t.sent.head? = some (.spi (0x5A :: bytesBE 5 (t.mst .spi).readData.toNat))) ∧
    Completes (.spiRead [a, b] wait 0 tick) s (fun t => t.get R.SPI_ABORTED_COUNT = min (s.get R.SPI_ABORTED_COUNT + 1) (2 ^ 36 - 1) ∧ t.get R.SPI_STATUS_ABORTED = 1 ∧
      t.host = s.host ∧ t.sent = s.sent)) ∧
  (∀ (s : State) (l : List Nat) (a : Arrival), s.hostUp .spi = true → l.length = 9 → l.headD 0 = 0x02 →
    (∀ crc, crc ≠ crc8 l → Completes (.spiWrite (l ++ [crc]) a) s fun t => t.get R.SPI_CRC_ERR_COUNT = min (s.get R.SPI_CRC_ERR_COUNT + 1) (2 ^ 36 - 1) ∧
      t.get R.SPI_STATUS_CRC = 1 ∧ t.get R.SPI_STATUS_DONE = 0 ∧ Event t P.SPI E.SPI_CRC_ERR ∧ OnlyPages [P.SPI] s t) ∧
    Completes (.spiWrite l a) s (fun t => t.get R.SPI_STATUS_DONE = 0 ∧ t.get R.SPI_ABORTED_COUNT = min (s.get R.SPI_ABORTED_COUNT + 1) (2 ^ 36 - 1) ∧ OnlyPages [P.SPI] s t)) ∧
  (∀ (s : State) (v : Word) (a : Arrival) (l : List Nat), Open s .spi R.FLT_LINE_SEL → l = 0x02 :: (bytesBE 3 R.FLT_LINE_SEL ++ bytesBE 5 v.toNat) →
    Completes (.spiWrite (l ++ [crc8 l]) a) s fun t => t.get R.FLT_LINE_SEL_LINE = R.FLT_LINE_SEL_LINE.of v ∧ t.get R.SPI_STATUS_DONE = 1 ∧ t.get R.SPI_STATUS_ERR = 0 ∧
      t.get R.SPI_TRANSFERS_COUNT = min (s.get R.SPI_TRANSFERS_COUNT + 1) (2 ^ 36 - 1)) ∧
  (∀ s : State, s.hostUp .spi = true →
    Completes (.spiStatus 0x05 1) s (fun t => t.get R.SPI_STATUS_ABORTED = 0 ∧ t.sent.head? = some (.spi [(s.live (some .spi) 0 R.SPI_STATUS).toNat % 256])) ∧
    ∀ cmd n, cmd ≠ 0x05 → Completes (.spiStatus cmd n) s fun t => t.get R.SPI_STATUS_ABORTED = 1 ∧ t.sent = s.sent)

/-- R480 to R484, R486, R490: the tail admits descriptors to a ring, a fetch takes the next, a received frame fills one and completes it or is counted, a sent frame's descriptor completes
with its status; the queue events set and clear. -/
def Obligations.RingsFetchAndComplete : Prop :=
  (∀ (s : State) (m : Master) (q idx : Nat), q < 8 → Open s m (R.DMA_TAIL q) → idx < 65536 →
    (s.ringWorld m q = false → idx < s.ringSize q → Completes (.dmaTailWrite m q idx) s fun t => t.get (R.DMA_TAIL_IDX q) = idx ∧ OnlySlots [R.DMA_TAIL q] s t) ∧
    (s.ringWorld m q = false → s.ringSize q ≤ idx → Completes (.dmaTailWrite m q idx) s fun t => t.get (R.DMA_TAIL_IDX q) = s.get (R.DMA_TAIL_IDX q) ∧
      t.get R.DMA_BAD_TAIL_COUNT = min (s.get R.DMA_BAD_TAIL_COUNT + 1) (2 ^ 36 - 1)) ∧
    (s.ringWorld m q = true → Completes (.dmaTailWrite m q idx) s fun t => t.get (R.DMA_TAIL_IDX q) = s.get (R.DMA_TAIL_IDX q) ∧ Event t P.GLB E.GLB_ACCESS_ERR)) ∧
  (∀ (s : State) (q slot : Nat), q < 8 → s.up islMGT = true → s.ringOn q = true → s.get (R.PG_CTRL_EN P.DMA) = 1 → 2 ≤ s.get R.BOOT_STAGE_STAGE →
      s.get (R.DMA_HEAD_IDX q) ≠ s.get (R.DMA_TAIL_IDX q) →
    (∀ addr len, q < 4 → Completes (.dmaDescFetch q slot (.rx addr len)) s fun t => t.get (R.DMA_HEAD_IDX q) = (s.get (R.DMA_HEAD_IDX q) + 1) % s.ringSize q ∧
      (t.dmaRing q).rx = (s.dmaRing q).rx ++ [(s.get (R.DMA_HEAD_IDX q), len)]) ∧
    (∀ d, 4 ≤ q → s.linkOpen islMGT islSW 0 = true → s.descOk d = false → Completes (.dmaDescFetch q slot (.tx d)) s fun t => t.get (R.DMA_HEAD_IDX q) = (s.get (R.DMA_HEAD_IDX q) + 1) % s.ringSize q ∧
      (t.dmaRing q).tx.getLast?.map (fun j => (j.idx, j.res)) = some (s.get (R.DMA_HEAD_IDX q), some (6, 0)) ∧
      t.get R.DMA_BAD_DESC_COUNT = min (s.get R.DMA_BAD_DESC_COUNT + 1) (2 ^ 36 - 1)) ∧
    (∀ d, 4 ≤ q → s.linkOpen islMGT islSW 0 = true → s.descOk d = true → Completes (.dmaDescFetch q slot (.tx d)) s fun t => t.get (R.DMA_HEAD_IDX q) = (s.get (R.DMA_HEAD_IDX q) + 1) % s.ringSize q ∧
      (t.dmaRing q).tx.length = (s.dmaRing q).tx.length + 1 ∧ t.get R.DMA_BAD_DESC_COUNT = s.get R.DMA_BAD_DESC_COUNT)) ∧
  (∀ (s : State) (cls q : Nat) (f : SwFrame), cls < 8 → q = s.rxRing cls → s.headOf 24 cls = some f → s.up islMGT = true → (s.dmaRing q).stopped = false →
    (s.ringOn q = false → Completes (.dmaRxFrame cls) s fun t => t.get (R.DMA_DROP_COUNT q) = min (s.get (R.DMA_DROP_COUNT q) + 1) (2 ^ 36 - 1)) ∧
    (s.ringOn q = true → (s.dmaRing q).rx = [] → (s.dmaRing q).nobuf = false → Completes (.dmaRxFrame cls) s fun t => t.sw = s.sw ∧ Event t P.DMA E.DMA_NOBUF ∧
      (t.dmaRing q).nobuf = true) ∧
    (∀ idx len rest, s.ringOn q = true → (s.dmaRing q).rx = (idx, len) :: rest → f.frame.len - 4 ≤ len → Completes (.dmaRxFrame cls) s fun t =>
      (t.dmaRing q).rx = rest ∧ t.get (R.DMA_DONE_IDX q) = (idx + 1) % s.ringSize q ∧ t.get (R.DMA_FRAMES_COUNT q) = min (s.get (R.DMA_FRAMES_COUNT q) + 1) (2 ^ 36 - 1) ∧
        Out.hostFrame q idx { f.frame with len := f.frame.len - 4 } ∈ t.sent ∧ Out.dmaDone q idx (rxFields f) ∈ t.sent)) ∧
  (∀ (s : State) (q st : Nat) (stamp : Int) (j : TxJob) (rest : List TxJob), q < 8 → (s.dmaRing q).tx = j :: rest → j.res = some (st, stamp) → s.up islMGT = true →
      (s.portOf j.port).tsf = [] →
    Completes (.dmaTxComplete q) s fun t => (t.dmaRing q).tx = rest ∧ t.get (R.DMA_DONE_IDX q) = (j.idx + 1) % s.ringSize q ∧
      t.get (R.DMA_FRAMES_COUNT q) = min (s.get (R.DMA_FRAMES_COUNT q) + 1) (2 ^ 36 - 1) ∧ Out.dmaDone q j.idx [toT108 stamp, st, 128] ∈ t.sent) ∧
  (∀ (s : State) (q idx p ms : Nat), q < 8 → 10 ≤ ms → (List.range 24).find? (fun p => (s.portOf p).awaits.contains (q, idx)) = some p →
    Completes (.dmaStampTimeout q idx ms) s fun t => (q, idx) ∉ (t.portOf p).awaits ∧ t.regs = s.regs ∧
      ∀ j ∈ (t.dmaRing q).tx, j.idx = idx → j.res ≠ none) ∧
  (∀ (s : State) (q us : Nat), q < 8 → s.up islMGT = true → (s.dmaRing q).noted ≠ [] → s.get1 (R.DMA_MOD_TIME q) ≤ us → Completes (.dmaModTimer q us) s fun t => bitOn (t.get R.DMA_DQ_PEND_PEND) q = true) ∧
  (∀ (s : State) (m : Master) (v : Word), Open s m R.DMA_DQ_PEND → Completes (.dqPendClear m v) s fun t =>
    (∀ b, bitOn (t.get R.DMA_DQ_PEND_PEND) b = (bitOn (s.get R.DMA_DQ_PEND_PEND) b && !bitOn v.toNat b)) ∧ OnlySlots [R.DMA_DQ_PEND] s t)

/-- R477, R485, R487, R490: a ring that is enabled starts empty, and its layout cannot change while it runs; a ring cleared, one that meets an error and all rings of a disabled page
stop. -/
def Obligations.RingsStartAndStop : Prop :=
  (∀ (s : State) (m : Master) (q : Nat) (w : Word), q < 8 → Open s m (R.DMA_CFG q) → s.ringWorld m q = false →
    (s.ringOn q = false → (R.DMA_CFG_EN q).of w = 1 → Completes (.dmaRingEnable m q w) s fun t => t.ringOn q = true ∧ t.get (R.DMA_CFG_LOG2 q) = (R.DMA_CFG_LOG2 q).of w ∧
      t.get (R.DMA_HEAD_IDX q) = 0 ∧ t.get (R.DMA_TAIL_IDX q) = 0 ∧ t.get (R.DMA_DONE_IDX q) = 0 ∧ t.get (R.DMA_SEEN_IDX q) = 0 ∧
      bitOn (t.get R.DMA_STATUS_RUN) q = true ∧ (t.dmaRing q).rx = [] ∧ (t.dmaRing q).tx = []) ∧
    (s.ringOn q = true → (R.DMA_CFG_EN q).of w = 0 → Completes (.dmaRingEnable m q w) s fun t => t.ringOn q = false ∧ bitOn (t.get R.DMA_STATUS_RUN) q = false ∧
      (t.dmaRing q).rx = [] ∧ (t.dmaRing q).tx = []) ∧
    (s.ringOn q = true → (R.DMA_CFG_EN q).of w = 1 → (R.DMA_CFG_LOG2 q).of w ≠ s.get (R.DMA_CFG_LOG2 q) → Completes (.dmaRingEnable m q w) s fun t =>
      t.ringOn q = true ∧ t.get (R.DMA_CFG_LOG2 q) = s.get (R.DMA_CFG_LOG2 q) ∧ Event t P.DMA E.DMA_CFG_ERR ∧ t.dma = s.dma)) ∧
  (∀ (s : State) (q corr uncorr : Nat), q < 8 → s.up islMGT = true → s.ringOn q = true →
    Completes (.ringErr q corr uncorr) s fun t => t.ringOn q = false ∧ t.get R.PCI_ERR_CORR_COUNT = min (s.get R.PCI_ERR_CORR_COUNT + corr) (2 ^ R.PCI_ERR_CORR_COUNT.w - 1) ∧
      t.get R.PCI_ERR_UNCORR_COUNT = min (s.get R.PCI_ERR_UNCORR_COUNT + uncorr) (2 ^ R.PCI_ERR_UNCORR_COUNT.w - 1) ∧ (0 < uncorr → Event t P.PCI E.PCI_ERR) ∧ t.get (R.DMA_CFG_HOST_ERR q) = 1 ∧ (t.dmaRing q).stopped = true ∧ Event t P.DMA E.DMA_RING_ERR) ∧
  (∀ (s : State) (m : Master), Open s m (R.PG_CTRL P.DMA) → s.get (R.PG_CTRL_EN P.DMA) = 1 →
    Completes (.dmaDisable m) s fun t => t.get (R.PG_CTRL_EN P.DMA) = 0 ∧ ∀ q, q < 8 → t.ringOn q = false)

/-! ## Register accesses (R82 to R97, R105) -/

/-- R82, R86, R94, R95: a read gives the live value, on SRV and HOLD that of the lowest core that is IN, or all ones from a dead page and 0 from an undefined slot; the first slot of a group snapshots the others for its master, and they
read from the snapshot; an access of a wrong width is an error.  No read changes a register but the report of its error and ATT.OUT_IDX. -/
def Obligations.ReadsAnswerTheirMaster : Prop :=
  (∀ (s : State) (m : Master) (a tick : Nat), s.hostUp m = true → a < 512 * aliasPage → slotDefined a = true → s.pageDead (a / 512) = false → a ≠ R.KEY_DATA → a ≠ R.ATT_OUT_DATA →
    let v := if corePage (a / 512) then s.asCore s.reader else s
    (snapMember a = false →
      Completes (.rsLeadRead m a tick) s (fun t => (t.mst m).readData = v.live (some m) tick a ∧ (∀ k ∈ snapSlots a, kvGet (t.mst m).snap k = some (v.live (some m) tick k)) ∧
        t.regs = s.regs) ∧
      Completes (.t108ReadSnapshot m a tick) s (fun t => (t.mst m).readData = v.live (some m) tick a ∧
        (∀ k ∈ snapSlots a, kvGet (t.mst m).snap k = some (v.live (some m) tick k)) ∧ t.regs = s.regs)) ∧
    (∀ w, snapMember a = true → kvGet (s.mst m).snap a = some w → Completes (.rsLeadRead m a tick) s fun t => (t.mst m).readData = w ∧ t.regs = s.regs)) ∧
  (∀ (s : State) (m : Master) (a tick : Nat), s.hostUp m = true → a < 512 * aliasPage →
    (slotDefined a = false → Completes (.rsLeadRead m a tick) s fun t => (t.mst m).readData = 0 ∧ t.regs = s.regs) ∧
    (slotDefined a = true → s.pageDead (a / 512) = true → Completes (.rsLeadRead m a tick) s fun t => (t.mst m).readData = BitVec.ofNat 36 wordMax ∧
      Event t P.GLB E.GLB_ACCESS_ERR ∧ OnlyPages [P.GLB] s t)) ∧
  (∀ (s : State) (m : Master) (slot : Nat), s.hostUp m = true →
    Completes (.widthAccess m false slot) s (fun t => (t.mst m).readData = BitVec.ofNat 36 0xFFFFFFFF ∧ Event t P.GLB E.GLB_ACCESS_ERR ∧ OnlyPages [P.GLB] s t) ∧
    Completes (.widthAccess m true slot) s (fun t => (t.mst m).readData = (s.mst m).readData ∧ Event t P.GLB E.GLB_ACCESS_ERR ∧ OnlyPages [P.GLB] s t))

/-- R82, R86, R89, R94, R96: a write to an undefined slot, to a dead page, or to the expert region without its window changes nothing but the report of the error; a shadowed register's
write goes to its shadow; the words of a time are staged, and its last word commits them if they are a time; a command is given by a write of its register. -/
def Obligations.WritesReachTheirRegisters : Prop :=
  (∀ (s : State) (m : Master) (slot : Nat) (v : Word) (a : Arrival), s.hostUp m = true →
    (slotDefined slot = false → Completes (.registerWrite m slot v a) s fun t => OnlyPages [P.GLB] s t ∧ t.shadow = s.shadow ∧ Event t P.GLB E.GLB_ACCESS_ERR) ∧
    (s.pageDead P.SEL = true → Completes (.registerWrite m R.SEL_STEER_RATE v a) s fun t => OnlyPages [P.GLB] s t ∧ Event t P.GLB E.GLB_ACCESS_ERR) ∧
    (s.pageDead P.FLT = false → s.expertOk m P.FLT = false →
      Completes (.registerWrite m R.FLT_INJ v a) s fun t => OnlyPages [P.GLB] s t ∧ t.flt = s.flt ∧ Event t P.GLB E.GLB_ACCESS_ERR)) ∧
  (∀ (s : State) (m : Master) (v : Word) (a : Arrival), Open s m R.FLT_LINE_SEL →
    Completes (.registerWrite m R.FLT_LINE_SEL v a) s fun t => t.get R.FLT_LINE_SEL_LINE = R.FLT_LINE_SEL_LINE.of v ∧ OnlySlots [R.FLT_LINE_SEL] s t ∧ t.shadow = s.shadow) ∧
  (∀ (s : State) (m : Master) (slot : Nat) (v : Word) (d : RegDef), slotDef slot = some d → d.rws ≠ 0 → d.rw = 0 → d.time = 0 →
    (Open s m slot → Completes (.shadowWrite m slot v) s fun t => t.shadow.read slot = mergeBits (s.shadow.read slot) v d.rws ∧
      (∀ b, b ≠ slot → t.shadow.read b = s.shadow.read b) ∧ t.regs = s.regs) ∧
    (s.hostUp m = true → s.pageDead (slot / 512) = true →
      Completes (.shadowWrite m slot v) s fun t => t.shadow = s.shadow ∧ OnlyPages [P.GLB] s t ∧ Event t P.GLB E.GLB_ACCESS_ERR)) ∧
  (∀ (s : State) (m : Master) (v : Word) (a : Arrival), Open s m R.GEN_COMMIT_AT →
    Completes (.registerWrite m R.GEN_COMMIT_AT v a) s (fun t => kvGet (t.mst m).staged R.GEN_COMMIT_AT = some v ∧ t.regs = s.regs) ∧
    Completes (.registerWrite m (R.GEN_COMMIT_AT + 1) v a) s (fun t => kvGet (t.mst m).staged (R.GEN_COMMIT_AT + 1) = some v ∧ t.regs = s.regs)) ∧
  (∀ (s : State) (m : Master) (v w0 w1 : Word) (a : Arrival), Open s m R.GEN_COMMIT_AT → kvGet (s.mst m).staged R.GEN_COMMIT_AT = some w0 →
      kvGet (s.mst m).staged (R.GEN_COMMIT_AT + 1) = some w1 →
    (t108Ok (w0.toNat * 2 ^ 72 + w1.toNat * 2 ^ 36 + v.toNat) = true → Completes (.t108CommitWrite m (R.GEN_COMMIT_AT + 2) v a) s fun t =>
      t.rdT R.GEN_COMMIT_AT = w0.toNat * 2 ^ 72 + w1.toNat * 2 ^ 36 + v.toNat ∧ kvGet (t.mst m).staged R.GEN_COMMIT_AT = none ∧
        OnlySlots [R.GEN_COMMIT_AT, R.GEN_COMMIT_AT + 1, R.GEN_COMMIT_AT + 2] s t) ∧
    (t108Ok (w0.toNat * 2 ^ 72 + w1.toNat * 2 ^ 36 + v.toNat) = false → Completes (.t108CommitWrite m (R.GEN_COMMIT_AT + 2) v a) s fun t =>
      t.rdT R.GEN_COMMIT_AT = s.rdT R.GEN_COMMIT_AT ∧ Event t P.GEN E.FORMAT_ERR)) ∧
  (∀ (s : State) (m : Master) (v : Word) (a : Arrival), R.SEL_CMD_OP.of v = 2 → exec (.registerWrite m R.SEL_CMD v a) s = exec (.selHoldover m) s) ∧
  (∀ (s : State) (m : Master) (v : Word) (a : Arrival), R.GEN_CMD_OP.of v = 1 → exec (.registerWrite m R.GEN_CMD v a) s = exec (.genPrepare m a.tick) s)

/-- R87, R90 to R92, R105: a master's expert window arms, opens and closes; an event bit clears unless its condition still holds or its event occurs in the same cycle; a vector acknowledged or unmasked is sent again. -/
def Obligations.WindowsEventsAndVectors : Prop :=
  (∀ (s : State) (m : Master) (since : Nat), Open s m R.GLB_EXPERT_KEY →
    Completes (.expertKeyWrite m (BitVec.ofNat 36 0x5C0A71E42) since) s (fun t => (t.mst m).window = 1) ∧
    ((s.mst m).window = 1 → since ≤ 1000 → (m = .pf1 → s.get R.GLB_EXPERT_CTRL_PERMIT_PF1 = 1) →
      Completes (.expertKeyWrite m (BitVec.ofNat 36 0xA3F58E1BD) since) s fun t => (t.mst m).window = 2 ∧ Event t P.GLB E.GLB_EXPERT_OPEN) ∧
    ((s.mst m).window = 1 → 1000 < since → Completes (.expertKeyWrite m (BitVec.ofNat 36 0xA3F58E1BD) since) s fun t => (t.mst m).window = 0 ∧ t.regs = s.regs) ∧
    (∀ v : Word, v.toNat ≠ 0x5C0A71E42 → v.toNat ≠ 0xA3F58E1BD → Completes (.expertKeyWrite m v since) s fun t => (t.mst m).window = 0)) ∧
  (∀ (s : State) (m : Master), (s.mst m).window = 2 →
    (s.get R.GLB_EXPERT_CTRL_TIMEOUT ≠ 0 → Completes (.expertWindowTimeout m) s fun t => (t.mst m).window = 0 ∧ Event t P.GLB E.GLB_EXPERT_CLOSE) ∧
    (s.get R.GLB_EXPERT_CTRL_TIMEOUT = 0 → Completes (.expertWindowTimeout m) s fun t => t = s)) ∧
  (∀ (s : State) (m : Master) (page : Nat) (v : Word) (same : Nat), pageDefined page = true → Open s m (R.PG_EVT page) →
    Completes (.pgEvtClear m page v same) s fun t => OnlySlots [R.PG_EVT page] s t ∧ ∀ b, b < 32 → bitOn (t.rd (R.PG_EVT page)).toNat b =
      (bitOn (s.rd (R.PG_EVT page)).toNat b && (!bitOn v.toNat b || bitOn same b || bitOn (s.rd (R.PG_EVT_NOW page)).toNat b))) ∧
  (∀ (s : State) (m : Master) (v : Word) (k pf : Nat), Open s m R.EVT_VEC_ACK → k < 32 → v.toNat.testBit k = true → s.vecLevel k = true →
      pf = (if bitOn (s.rd R.EVT_VEC_PF).toNat k then 1 else 0) → (s.msixOf pf).enabled = true → (s.msixOf pf).funcMask = false → bitOn (s.msixOf pf).masked k = false →
    Completes (.vectorAck m v) s fun t => (∃ l, t.sent = l ++ s.sent ∧ Out.msix pf k ∈ l) ∧ t.regs = s.regs) ∧
  (∀ (s : State) (pf vec : Nat), pf < 2 → vec < 32 →
    Completes (.msixUnmask pf vec true) s (fun t => bitOn (t.msixOf pf).masked vec = true ∧ t.regs = s.regs) ∧
    ((s.msixOf pf).enabled = true → (s.msixOf pf).funcMask = false → bitOn (s.msixOf pf).pend vec = true → Completes (.msixUnmask pf vec false) s fun t =>
      bitOn (t.msixOf pf).masked vec = false ∧ bitOn (t.msixOf pf).pend vec = false ∧ ∃ l, t.sent = l ++ s.sent ∧ Out.msix pf vec ∈ l))

/-! ## The step, reset, and what every command keeps -/

/-- A step takes the command at the front of the queue and executes it with the queue's rest; with nothing in the queue the state stays (the model's choice, log entry 2). -/
def Obligations.StepRunsTheFrontCommand : Prop :=
  (∀ (c : Instr) (rest : List Instr) (s : State), s.pending = c :: rest → step s = exec c { s with pending := rest }) ∧
  (∀ s : State, s.pending = [] → step s = .next s)

/-- R56, R62, R96: after reset every register of every store holds the reset word of its table, the stores are in canonical form, no command waits, the start has not begun, every
island but AO is in reset, no line is held and no page event is set (what lies behind the registers is the model's choice, log entries 18 and 19). -/
def Obligations.ResetIsTheRegisterTables : Prop :=
  RegsWf State.reset ∧ (∀ a, State.reset.rd a = regReset a ∧ State.reset.shadow.read a = regReset a) ∧ State.reset.pending = [] ∧ State.reset.boot.pos = .off ∧
  (∀ i, 1 ≤ i → i ≤ 15 → State.reset.up i = false) ∧ State.reset.up islAO = true ∧ State.reset.flt.causes = [] ∧ State.reset.lcs = 0 ∧
  (∀ p b, b < 32 → ¬ Event State.reset p b)

/-- Whatever command a step takes, the register stores stay in canonical form: slot addresses strictly rising, and no slot listed with the word that it resets to. -/
def Obligations.EveryStepKeepsTheRegistersCanonical : Prop :=
  ∀ s t : State, RegsWf s → step s = .next t → RegsWf t

/-- R373, R374: whatever command a step takes, no life-cycle fuse that has been programmed is ever cleared, and the life-cycle state never goes back. -/
def Obligations.FusesNeverGoBack : Prop :=
  ∀ s t : State, step s = .next t → (∀ k, bitOn s.key.fuses k = true → bitOn t.key.fuses k = true) ∧ s.lcs ≤ t.lcs

/-- Every well-formed command but JTAG_PRIVATE_INSTRUCTION completes in every state, with the queue as it was; JTAG_PRIVATE_INSTRUCTION stops only in the life-cycle states MANUFACTURE
and RETURNED (R53). -/
def Obligations.CommandsCompleteAndKeepTheQueue : Prop :=
  (∀ (c : Instr) (s : State), c.wf = true → c ≠ .jtagPrivateInstruction → Completes c s fun t => t.pending = s.pending) ∧
  (∀ s : State, s.lcs = 1 ∨ s.lcs = 2 ∨ s.lcs = 4 → Completes .jtagPrivateInstruction s fun t => t.pending = s.pending)

/-- R82, R83, R84: a read of an undefined slot returns 0, and a write to one is ignored and raises ACCESS_ERR with cause UNDEF; a read of the shadow alias returns the shadow of an RWS register
and 0 for any other, and every write to the alias is ignored with cause UNDEF; a 32-bit access changes nothing but the report of cause WIDTH, and a read of that width returns 0xFFFF_FFFF. -/
def Obligations.UndefinedSlotsAndTheShadowAlias : Prop :=
  (∀ (s : State) (m : Master) (a tick : Nat), s.hostUp m = true → a < 512 * aliasPage → slotDefined a = false →
    Completes (.rsLeadRead m a tick) s fun t => (t.mst m).readData = 0 ∧ t = s.ret m 0) ∧
  (∀ (s : State) (m : Master) (a : Nat) (v : Word) (x : Arrival), s.hostUp m = true → slotDefined a = false ∨ 512 * aliasPage ≤ a →
    Completes (.registerWrite m a v x) s fun t => OnlyReports s t ∧ OnlyPages [P.GLB] s t ∧ Event t P.GLB E.GLB_ACCESS_ERR ∧
      (¬ Event s P.GLB E.GLB_ACCESS_ERR → t.get R.GLB_ACCESS_ERR_CAUSE = 2 ∧ t.get R.GLB_ACCESS_ERR_WRITE = 1 ∧ t.get R.GLB_ACCESS_ERR_SLOT = a % 2 ^ 23)) ∧
  (∀ (s : State) (m : Master) (a tick : Nat), s.hostUp m = true → a < 512 * aliasPage → slotDefined a = true → s.pageDead (a / 512) = false →
    Completes (.rsLeadRead m (a + 512 * aliasPage) tick) s fun t => (t.mst m).readData = s.shadow.read a &&& BitVec.ofNat 36 (rwsMask a) ∧
      (rwsMask a = 0 → (t.mst m).readData = 0) ∧ t.regs = s.regs) ∧
  (∀ (s : State) (m : Master) (write : Bool) (a : Nat), s.hostUp m = true →
    Completes (.widthAccess m write a) s fun t => (write = false → (t.mst m).readData = BitVec.ofNat 36 0xFFFFFFFF) ∧ (t.mst m).snap = (s.mst m).snap ∧
      (t.mst m).staged = (s.mst m).staged ∧ (t.mst m).key = (s.mst m).key ∧ OnlyReports s t ∧ OnlyPages [P.GLB] s t ∧ Event t P.GLB E.GLB_ACCESS_ERR ∧
      (¬ Event s P.GLB E.GLB_ACCESS_ERR → t.get R.GLB_ACCESS_ERR_CAUSE = 1))


/-! ## What host commands leave alone -/

/-- Host commands change the registers of their own page, the reports of GLB, and the part of the device they name, and nothing else: register by register, and part
by part; so do the messages and expiries named here: a pin message changes the count of one key slot, an acknowledgement the lease's end and what its frame says of the peer, a grant's
expiry one entry of the client table. -/
def Obligations.CommandsStayInTheirUnit : Prop :=
  (∀ (m : Master) (k : Nat) (v : Word) (s t : State) (c : Instr), c ∈ [Instr.selSwitch m k, .selHoldover m, .selRelease m, .lockoutWrite m v, .steerSubmit m v] → exec c s = .next t →
    OnlyPages [P.GLB, P.SEL] s t ∧ t = { s with regs := t.regs, host := t.host, sent := t.sent, sel := t.sel }) ∧
  (∀ (m : Master) (v : Word) (k : Nat) (s t : State) (c : Instr), c ∈ [Instr.voteSet m, .cancelStep m, .hostStepSubmit m v, .recover m k, .utcOffsetWrite m v, .leapSchedule m v] →
      exec c s = .next t →
    OnlyPages [P.GLB, P.VOTE] s t ∧ t = { s with regs := t.regs, host := t.host, sent := t.sent, erec := t.erec, ax := t.ax, tri := t.tri }) ∧
  (∀ (m : Master) (s t : State) (c : Instr), c ∈ [Instr.addStatic m, .fdbDelete m, .fdbRead m, .flushLearned m, .flushPort m] → exec c s = .next t →
    OnlyPages [P.GLB, P.SWF] s t ∧ t = { s with regs := t.regs, host := t.host, sent := t.sent, sw := { s.sw with fdb := t.sw.fdb } }) ∧
  (∀ (m : Master) (s t : State) (c : Instr), c ∈ [Instr.cltRead m, .cltFind m] → exec c s = .next t →
    OnlyPages [P.GLB, P.CLT] s t ∧ t = { s with regs := t.regs, host := t.host, sent := t.sent, free := t.free }) ∧
  (∀ (m : Master) (v : Word) (s t : State) (c : Instr), c ∈ [Instr.hostMark m v, .fetch m, .codeSelWrite m v, .codeCfgWrite m v] → exec c s = .next t →
    OnlyPages [P.GLB, P.REC] s t ∧ t = { s with regs := t.regs, host := t.host, sent := t.sent, erec := t.erec }) ∧
  (∀ (m : Master) (v : Word) (s t : State) (c : Instr), c ∈ [Instr.codeOpen m, .codeDataWrite m v] → exec c s = .next t →
    OnlyPages [P.GLB, P.GNS] s t ∧ t = { s with regs := t.regs, host := t.host, sent := t.sent, gns := { s.gns with session := t.gns.session } }) ∧
  (∀ (m : Master) (s t : State), exec (.genCancel m) s = .next t →
    OnlyPages [P.GLB, P.GEN] s t ∧ t = { s with regs := t.regs, host := t.host, sent := t.sent, gen := { s.gen with asked := t.gen.asked } }) ∧
  (∀ (m : Master) (s t : State), exec (.runNow m) s = .next t →
    OnlyPages [P.GLB, P.PROVE] s t ∧ t = { s with regs := t.regs, host := t.host, sent := t.sent, prove := { s.prove with asked := t.prove.asked } }) ∧
  (∀ (m : Master) (v : Word) (s t : State), exec (.dqPendClear m v) s = .next t →
    OnlyPages [P.GLB, P.DMA] s t ∧ t = { s with regs := t.regs, host := t.host, sent := t.sent }) ∧
  (∀ (m : Master) (s t : State), exec (.wdogKick m) s = .next t →
    OnlyPages [P.GLB] s t ∧ t = { s with regs := t.regs, host := t.host, sent := t.sent, flt := { s.flt with causes := t.flt.causes } }) ∧
  (∀ (m : Master) (k : Nat) (s t : State), exec (.ticDisarm m k) s = .next t →
    OnlyPages [P.GLB, P.TIC k] s t ∧ t = { s with regs := t.regs, host := t.host, sent := t.sent, erec := t.erec, tic := { s.tic with tics := t.tic.tics } }) ∧
  (∀ (m : Master) (a k : Nat) (s t : State) (c : Instr), c ∈ [Instr.rsLeadRead m a k, .t108ReadSnapshot m a k] → exec c s = .next t →
    OnlyPages [P.GLB, P.ATT] s t ∧ t = { s with regs := t.regs, host := t.host, sent := t.sent }) ∧
  (∀ (coach : Nat) (s t : State) (c : Instr), c ∈ [Instr.keyPin coach, .keyRelease coach] → exec c s = .next t →
    OnlyPages [P.KEY] s t ∧ (∃ slot, OnlyKey slot s t) ∧ t = { s with regs := t.regs, key := { s.key with slots := t.key.slots, msgs := t.key.msgs } }) ∧
  (∀ (link : Nat) (f : DugFrame) (s t : State), exec (.ackReceive link f) s = .next t →
    OnlyPages [P.DUG] s t ∧ t = { s with regs := t.regs, host := t.host, sent := t.sent, flt := { s.flt with causes := t.flt.causes }, dug := { s.dug with p0 := t.dug.p0, p1 := t.dug.p1 } }) ∧
  (∀ (client mtype : Nat) (s t : State), exec (.grantExpiry client mtype) s = .next t →
    OnlyPages [P.CLT, P.TTB] s t ∧ (∀ i, i ≠ client → t.entry i = s.entry i) ∧
      t = { s with regs := t.regs, host := t.host, sent := t.sent, clt := { s.clt with entries := t.clt.entries, drainAt := t.clt.drainAt } }) ∧
  (∀ (m : Master) (w : Word) (s t : State), exec (.tmpLatchClear m w) s = .next t →
    OnlyPages [P.GLB, P.TMP] s t ∧ t = { s with regs := t.regs, host := t.host, sent := t.sent })


end
end

