-- ==== Sys2Proof/Laws/Store.lean ====
section
/-! SUPPORT.
The laws of the finite maps and of the register store: reading after writing, and the canonical form that every operation keeps.
-/
namespace Sys2Proof.Machine

variable {α : Type}

/-! ## Maps: reading after writing -/

theorem kvGet_kvIns_same (m : List (Nat × α)) (k : Nat) (v : α) (h : kvGet m k = none) : kvGet (kvIns m k v) k = some v := by
  induction m with
  | nil => simp [kvIns, kvGet]
  | cons p t ih =>
    obtain ⟨j, w⟩ := p
    by_cases hj : j = k
    · subst hj; simp [kvGet] at h
    · simp only [kvGet, if_neg hj] at h
      unfold kvIns
      split
      · simp [kvGet]
      · simp [kvGet, hj, ih h]

theorem kvGet_kvIns_other (m : List (Nat × α)) (k j : Nat) (v : α) (h : j ≠ k) : kvGet (kvIns m k v) j = kvGet m j := by
  induction m with
  | nil => simp [kvIns, kvGet, Ne.symm h]
  | cons p t ih =>
    obtain ⟨i, w⟩ := p
    unfold kvIns
    split
    · simp [kvGet, Ne.symm h]
    · simp only [kvGet]; rw [ih]

theorem kvGet_kvDel_same (m : List (Nat × α)) (k : Nat) : kvGet (kvDel m k) k = none := by
  induction m with
  | nil => simp [kvDel, kvGet]
  | cons p t ih =>
    obtain ⟨j, w⟩ := p
    by_cases hj : j = k
    · simpa [kvDel, hj] using ih
    · simpa [kvDel, kvGet, hj] using ih

theorem kvGet_kvDel_other (m : List (Nat × α)) (k j : Nat) (h : j ≠ k) : kvGet (kvDel m k) j = kvGet m j := by
  induction m with
  | nil => simp [kvDel]
  | cons p t ih =>
    obtain ⟨i, w⟩ := p
    by_cases hi : i = k
    · simpa [kvDel, kvGet, hi, Ne.symm h] using ih
    · by_cases hj : i = j
      · simp [kvDel, kvGet, hj, h]
      · simpa [kvDel, kvGet, hi, hj] using ih

@[simp] theorem kvGet_kvPut_same (m : List (Nat × α)) (k : Nat) (v : α) : kvGet (kvPut m k v) k = some v :=
  kvGet_kvIns_same _ _ _ (kvGet_kvDel_same _ _)

theorem kvGet_kvPut_other (m : List (Nat × α)) (k j : Nat) (v : α) (h : j ≠ k) : kvGet (kvPut m k v) j = kvGet m j := by
  rw [kvPut, kvGet_kvIns_other _ _ _ _ h, kvGet_kvDel_other _ _ _ h]

theorem kvGet_kvPut (m : List (Nat × α)) (k j : Nat) (v : α) : kvGet (kvPut m k v) j = if j = k then some v else kvGet m j := by
  split
  · next h => rw [h, kvGet_kvPut_same]
  · next h => exact kvGet_kvPut_other _ _ _ _ h

/-! ## Maps: the rising order of the keys -/

theorem kvSorted_iff (m : List (Nat × α)) : kvSorted m = true ↔ m.Pairwise (fun p q => p.1 < q.1) := by
  induction m with
  | nil => simp [kvSorted]
  | cons p t ih =>
    cases t with
    | nil => simp [kvSorted]
    | cons q u =>
      obtain ⟨j, v⟩ := p
      obtain ⟨k, w⟩ := q
      have hs : kvSorted ((j, v) :: (k, w) :: u) = (decide (j < k) && kvSorted ((k, w) :: u)) := rfl
      rw [hs, Bool.and_eq_true, ih, decide_eq_true_eq, List.pairwise_cons (a := (j, v))]
      constructor
      · rintro ⟨h, hp⟩
        refine ⟨fun x hx => ?_, hp⟩
        rcases List.mem_cons.1 hx with rfl | hx
        · exact h
        · exact Nat.lt_trans h ((List.pairwise_cons.1 hp).1 x hx)
      · rintro ⟨h, hp⟩
        exact ⟨h _ (List.mem_cons_self ..), hp⟩

theorem mem_kvIns (m : List (Nat × α)) (k : Nat) (v : α) (p : Nat × α) : p ∈ kvIns m k v ↔ p = (k, v) ∨ p ∈ m := by
  induction m with
  | nil => simp [kvIns]
  | cons q t ih =>
    obtain ⟨j, w⟩ := q
    unfold kvIns
    split
    · simp
    · simp only [List.mem_cons, ih]; tauto

theorem mem_kvDel (m : List (Nat × α)) (k : Nat) (p : Nat × α) : p ∈ kvDel m k ↔ p ∈ m ∧ p.1 ≠ k := by simp [kvDel]

theorem kvSorted_kvIns (m : List (Nat × α)) (k : Nat) (v : α) (h : kvSorted m = true) (hk : ∀ p ∈ m, p.1 ≠ k) : kvSorted (kvIns m k v) = true := by
  rw [kvSorted_iff] at *
  induction m with
  | nil => simp [kvIns]
  | cons q t ih =>
    obtain ⟨j, w⟩ := q
    have hp := List.pairwise_cons.1 h
    unfold kvIns
    split
    · next hlt =>
      refine List.pairwise_cons.2 ⟨fun x hx => ?_, h⟩
      rcases List.mem_cons.1 hx with rfl | hx
      · exact hlt
      · exact Nat.lt_trans hlt (hp.1 x hx)
    · next hge =>
      refine List.pairwise_cons.2 ⟨fun x hx => ?_, ih hp.2 (fun p hm => hk p (List.mem_cons_of_mem _ hm))⟩
      rcases (mem_kvIns _ _ _ _).1 hx with rfl | hx
      · have := hk (j, w) (List.mem_cons_self ..)
        simp only at this ⊢
        omega
      · exact hp.1 x hx

theorem kvSorted_filter (m : List (Nat × α)) (f : Nat × α → Bool) (h : kvSorted m = true) : kvSorted (m.filter f) = true := by
  rw [kvSorted_iff] at *
  exact h.filter f

theorem kvSorted_kvDel (m : List (Nat × α)) (k : Nat) (h : kvSorted m = true) : kvSorted (kvDel m k) = true := kvSorted_filter _ _ h

theorem kvSorted_kvPut (m : List (Nat × α)) (k : Nat) (v : α) (h : kvSorted m = true) : kvSorted (kvPut m k v) = true :=
  kvSorted_kvIns _ _ _ (kvSorted_kvDel _ _ h) (fun _ hp => ((mem_kvDel _ _ _).1 hp).2)

/-! ## The register store -/

/-- A slot reads the word last written to it, and no write changes another slot. -/
theorem Store.read_write (m : Store) (a b : Nat) (v : Word) : (m.write a v).read b = if b = a then v else m.read b := by
  by_cases hv : v = regReset a
  · rw [Store.write, if_pos hv]
    by_cases h : b = a
    · subst h; simp [Store.read, kvGet_kvDel_same, hv]
    · simp [Store.read, kvGet_kvDel_other _ _ _ h, h]
  · rw [Store.write, if_neg hv]
    by_cases h : b = a
    · subst h; simp [Store.read]
    · simp [Store.read, kvGet_kvPut_other _ _ _ _ h, h]

/-- The canonical form in the words of the two conditions. -/
theorem Store.wf_iff (m : Store) : m.wf = true ↔ kvSorted m = true ∧ ∀ p ∈ m, p.2 ≠ regReset p.1 := by
  simp [Store.wf]

theorem Store.wf_nil : Store.wf [] = true := rfl

/-- A write keeps the canonical form. -/
theorem Store.wf_write (m : Store) (a : Nat) (v : Word) (h : m.wf = true) : (m.write a v).wf = true := by
  rw [Store.wf_iff] at *
  unfold Store.write
  split
  · exact ⟨kvSorted_kvDel _ _ h.1, fun p hp => h.2 p ((mem_kvDel _ _ _).1 hp).1⟩
  · next hv =>
    refine ⟨kvSorted_kvPut _ _ _ h.1, fun p hp => ?_⟩
    rcases (mem_kvIns _ _ _ _).1 hp with rfl | hp
    · exact hv
    · exact h.2 p ((mem_kvDel _ _ _).1 hp).1

/-- Taking slots out of the store keeps the canonical form. -/
theorem Store.wf_filter (m : Store) (f : Nat × Word → Bool) (h : m.wf = true) : Store.wf (m.filter f) = true := by
  rw [Store.wf_iff] at *
  exact ⟨kvSorted_filter _ _ h.1, fun p hp => h.2 p (List.mem_filter.1 hp).1⟩

theorem Store.wf_resetPages (m : Store) (p : Nat → Bool) (h : m.wf = true) : (m.resetPages p).wf = true := Store.wf_filter _ _ h

theorem kvGet_filter_page (m : Store) (p : Nat → Bool) (b : Nat) :
    kvGet (m.filter (fun e => !p (e.1 / 512))) b = if p (b / 512) then none else kvGet m b := by
  induction m with
  | nil => simp [kvGet]
  | cons q t ih =>
    obtain ⟨j, w⟩ := q
    by_cases hj : j = b
    · subst hj
      by_cases hp : p (j / 512)
      · simpa [hp, kvGet] using ih
      · simp [hp, kvGet]
    · by_cases hp : p (j / 512)
      · simp [hp, kvGet, hj] at ih ⊢; exact ih
      · simp [hp, kvGet, hj] at ih ⊢; exact ih

/-- After a reset of pages their slots read their reset words, and every other slot reads as before. -/
theorem Store.read_resetPages (m : Store) (p : Nat → Bool) (b : Nat) :
    (m.resetPages p).read b = if p (b / 512) then regReset b else m.read b := by
  unfold Store.resetPages Store.read
  rw [kvGet_filter_page]
  by_cases h : p (b / 512) = true
  · rw [if_pos h, if_pos h]
  · rw [if_neg h, if_neg h]

/-! ## Fields -/

theorem Fld.of_lt (f : Fld) (v : Word) : f.of v < 2 ^ f.w := Nat.mod_lt _ (Nat.two_pow_pos _)

/-- The number a word with a replaced field is: what lies below the field, the field, what lies above. -/
theorem Fld.put_toNat (f : Fld) (v : Word) (n : Nat) (h : f.lo + f.w ≤ 36) :
    (f.put v n).toNat = v.toNat % 2 ^ f.lo + 2 ^ f.lo * (n % 2 ^ f.w) + 2 ^ (f.lo + f.w) * (v.toNat / 2 ^ (f.lo + f.w)) := by
  have h1 : v.toNat = v.toNat % 2 ^ f.lo + 2 ^ f.lo * f.of v + 2 ^ (f.lo + f.w) * (v.toNat / 2 ^ (f.lo + f.w)) := by
    have a := Nat.mod_add_div v.toNat (2 ^ f.lo)
    have b := Nat.mod_add_div (v.toNat / 2 ^ f.lo) (2 ^ f.w)
    rw [Nat.div_div_eq_div_mul, ← pow_add] at b
    have c : 2 ^ (f.lo + f.w) * (v.toNat / 2 ^ (f.lo + f.w)) = 2 ^ f.lo * (2 ^ f.w * (v.toNat / 2 ^ (f.lo + f.w))) := by
      rw [pow_add, Nat.mul_assoc]
    rw [c]
    unfold Fld.of
    rw [Nat.add_assoc, ← Nat.mul_add, b, a]
  have h2 : v.toNat % 2 ^ f.lo < 2 ^ f.lo := Nat.mod_lt _ (Nat.two_pow_pos _)
  have h3 : n % 2 ^ f.w < 2 ^ f.w := Nat.mod_lt _ (Nat.two_pow_pos _)
  have h4 : 2 ^ (f.lo + f.w) * (v.toNat / 2 ^ (f.lo + f.w) + 1) ≤ 2 ^ 36 := by
    have e : (2 : Nat) ^ 36 = 2 ^ (f.lo + f.w) * 2 ^ (36 - (f.lo + f.w)) := by rw [← pow_add]; congr 1; omega
    have : v.toNat / 2 ^ (f.lo + f.w) < 2 ^ (36 - (f.lo + f.w)) := by
      rw [Nat.div_lt_iff_lt_mul (Nat.two_pow_pos _), Nat.mul_comm, ← e]; exact v.isLt
    rw [e]
    exact Nat.mul_le_mul_left _ this
  have h5 : 2 ^ f.lo * (n % 2 ^ f.w) + 2 ^ f.lo ≤ 2 ^ (f.lo + f.w) := by
    have : n % 2 ^ f.w + 1 ≤ 2 ^ f.w := h3
    calc 2 ^ f.lo * (n % 2 ^ f.w) + 2 ^ f.lo = 2 ^ f.lo * (n % 2 ^ f.w + 1) := by rw [Nat.mul_add, Nat.mul_one]
      _ ≤ 2 ^ f.lo * 2 ^ f.w := Nat.mul_le_mul_left _ this
      _ = 2 ^ (f.lo + f.w) := (pow_add _ _ _).symm
  rw [Nat.mul_add, Nat.mul_one] at h4
  have m1 : f.of v * 2 ^ f.lo = 2 ^ f.lo * f.of v := Nat.mul_comm _ _
  have m2 : n % 2 ^ f.w * 2 ^ f.lo = 2 ^ f.lo * (n % 2 ^ f.w) := Nat.mul_comm _ _
  unfold Fld.put
  rw [BitVec.toNat_ofNat, m1, m2, Nat.mod_eq_of_lt] <;> omega

/-- A field reads the number put into it, reduced to its width. -/
theorem Fld.of_put (f : Fld) (v : Word) (n : Nat) (h : f.lo + f.w ≤ 36) : f.of (f.put v n) = n % 2 ^ f.w := by
  have e := f.put_toNat v n h
  unfold Fld.of
  rw [e, Nat.add_assoc, show 2 ^ (f.lo + f.w) * (v.toNat / 2 ^ (f.lo + f.w)) = 2 ^ f.lo * (2 ^ f.w * (v.toNat / 2 ^ (f.lo + f.w))) by rw [pow_add, Nat.mul_assoc],
    ← Nat.mul_add, Nat.add_mul_div_left _ _ (Nat.two_pow_pos _), Nat.div_eq_of_lt (Nat.mod_lt _ (Nat.two_pow_pos _)), Nat.zero_add,
    Nat.add_mul_mod_self_left, Nat.mod_mod]

/-- Putting a number into a field leaves a field that shares no bit with it. -/
theorem Fld.of_put_apart (f g : Fld) (v : Word) (n : Nat) (h : f.lo + f.w ≤ 36) (d : g.lo + g.w ≤ f.lo ∨ f.lo + f.w ≤ g.lo) :
    g.of (f.put v n) = g.of v := by
  have e := f.put_toNat v n h
  have e0 := f.put_toNat v (f.of v) h
  have same : (f.put v (f.of v)).toNat = v.toNat := by
    unfold Fld.put
    rw [BitVec.toNat_ofNat, Nat.mod_eq_of_lt (f.of_lt v)]
    have : f.of v * 2 ^ f.lo ≤ v.toNat := by
      unfold Fld.of
      exact le_trans (Nat.mul_le_mul_right _ (Nat.mod_le _ _)) (Nat.div_mul_le_self _ _)
    rw [Nat.sub_add_cancel this, Nat.mod_eq_of_lt v.isLt]
  rw [same] at e0
  rcases d with d | d
  · have key : ∀ k, (v.toNat % 2 ^ f.lo + 2 ^ f.lo * k + 2 ^ (f.lo + f.w) * (v.toNat / 2 ^ (f.lo + f.w))) % 2 ^ f.lo = v.toNat % 2 ^ f.lo := by
      intro k
      rw [pow_add, Nat.mul_assoc, Nat.add_mul_mod_self_left, Nat.add_mul_mod_self_left, Nat.mod_mod]
    have red : ∀ x : Nat, x / 2 ^ g.lo % 2 ^ g.w = x % 2 ^ f.lo / 2 ^ g.lo % 2 ^ g.w := by
      intro x
      have hs : (2 : Nat) ^ f.lo = 2 ^ g.lo * (2 ^ g.w * 2 ^ (f.lo - g.lo - g.w)) := by
        rw [← pow_add, ← pow_add]; congr 1; omega
      rw [hs, Nat.mod_mul_right_div_self, Nat.mod_mul_right_mod]
    unfold Fld.of
    rw [red, e, key, ← red]
  · have key : ∀ k, k < 2 ^ f.w → (v.toNat % 2 ^ f.lo + 2 ^ f.lo * k + 2 ^ (f.lo + f.w) * (v.toNat / 2 ^ (f.lo + f.w))) / 2 ^ (f.lo + f.w)
        = v.toNat / 2 ^ (f.lo + f.w) := by
      intro k hk
      have h2 : v.toNat % 2 ^ f.lo < 2 ^ f.lo := Nat.mod_lt _ (Nat.two_pow_pos _)
      have h5 : 2 ^ f.lo * k + 2 ^ f.lo ≤ 2 ^ (f.lo + f.w) := by
        calc 2 ^ f.lo * k + 2 ^ f.lo = 2 ^ f.lo * (k + 1) := by rw [Nat.mul_add, Nat.mul_one]
          _ ≤ 2 ^ f.lo * 2 ^ f.w := Nat.mul_le_mul_left _ hk
          _ = 2 ^ (f.lo + f.w) := (pow_add _ _ _).symm
      rw [Nat.add_mul_div_left _ _ (Nat.two_pow_pos _), Nat.div_eq_of_lt (by omega), Nat.zero_add]
    have red : ∀ x : Nat, x / 2 ^ g.lo = x / 2 ^ (f.lo + f.w) / 2 ^ (g.lo - (f.lo + f.w)) := by
      intro x
      rw [Nat.div_div_eq_div_mul, ← pow_add]; congr 2; omega
    unfold Fld.of
    rw [red, red v.toNat, e, key _ (Nat.mod_lt _ (Nat.two_pow_pos _))]

end Sys2Proof.Machine
end

