-- ==== Sys2Proof/Laws/State.lean ====
section
/-! SUPPORT.
Each basic update of the state, field by field, and what the registers read after it.
-/
namespace Sys2Proof.Machine

section
variable (s : State)

/-! ### `wr` -/
section
variable (a : Nat) (v : Word)
@[simp] theorem State.wr_shadow : (s.wr a v).shadow = s.shadow := rfl
@[simp] theorem State.wr_staging : (s.wr a v).staging = s.staging := rfl
@[simp] theorem State.wr_boot : (s.wr a v).boot = s.boot := rfl
@[simp] theorem State.wr_isl : (s.wr a v).isl = s.isl := rfl
@[simp] theorem State.wr_nvm : (s.wr a v).nvm = s.nvm := rfl
@[simp] theorem State.wr_flt : (s.wr a v).flt = s.flt := rfl
@[simp] theorem State.wr_host : (s.wr a v).host = s.host := rfl
@[simp] theorem State.wr_erec : (s.wr a v).erec = s.erec := rfl
@[simp] theorem State.wr_ax : (s.wr a v).ax = s.ax := rfl
@[simp] theorem State.wr_tri : (s.wr a v).tri = s.tri := rfl
@[simp] theorem State.wr_osc : (s.wr a v).osc = s.osc := rfl
@[simp] theorem State.wr_sel : (s.wr a v).sel = s.sel := rfl
@[simp] theorem State.wr_srv : (s.wr a v).srv = s.srv := rfl
@[simp] theorem State.wr_hold : (s.wr a v).hold = s.hold := rfl
@[simp] theorem State.wr_out : (s.wr a v).out = s.out := rfl
@[simp] theorem State.wr_tic : (s.wr a v).tic = s.tic := rfl
@[simp] theorem State.wr_gns : (s.wr a v).gns = s.gns := rfl
@[simp] theorem State.wr_teb : (s.wr a v).teb = s.teb := rfl
@[simp] theorem State.wr_pipe : (s.wr a v).pipe = s.pipe := rfl
@[simp] theorem State.wr_sw : (s.wr a v).sw = s.sw := rfl
@[simp] theorem State.wr_clt : (s.wr a v).clt = s.clt := rfl
@[simp] theorem State.wr_key : (s.wr a v).key = s.key := rfl
@[simp] theorem State.wr_gen : (s.wr a v).gen = s.gen := rfl
@[simp] theorem State.wr_shunt : (s.wr a v).shunt = s.shunt := rfl
@[simp] theorem State.wr_prove : (s.wr a v).prove = s.prove := rfl
@[simp] theorem State.wr_dug : (s.wr a v).dug = s.dug := rfl
@[simp] theorem State.wr_dma : (s.wr a v).dma = s.dma := rfl
@[simp] theorem State.wr_sent : (s.wr a v).sent = s.sent := rfl
@[simp] theorem State.wr_free : (s.wr a v).free = s.free := rfl
@[simp] theorem State.wr_pending : (s.wr a v).pending = s.pending := rfl
end

/-! ### `set` -/
section
variable (f : Fld) (n : Nat)
@[simp] theorem State.set_shadow : (s.set f n).shadow = s.shadow := rfl
@[simp] theorem State.set_staging : (s.set f n).staging = s.staging := rfl
@[simp] theorem State.set_boot : (s.set f n).boot = s.boot := rfl
@[simp] theorem State.set_isl : (s.set f n).isl = s.isl := rfl
@[simp] theorem State.set_nvm : (s.set f n).nvm = s.nvm := rfl
@[simp] theorem State.set_flt : (s.set f n).flt = s.flt := rfl
@[simp] theorem State.set_host : (s.set f n).host = s.host := rfl
@[simp] theorem State.set_erec : (s.set f n).erec = s.erec := rfl
@[simp] theorem State.set_ax : (s.set f n).ax = s.ax := rfl
@[simp] theorem State.set_tri : (s.set f n).tri = s.tri := rfl
@[simp] theorem State.set_osc : (s.set f n).osc = s.osc := rfl
@[simp] theorem State.set_sel : (s.set f n).sel = s.sel := rfl
@[simp] theorem State.set_srv : (s.set f n).srv = s.srv := rfl
@[simp] theorem State.set_hold : (s.set f n).hold = s.hold := rfl
@[simp] theorem State.set_out : (s.set f n).out = s.out := rfl
@[simp] theorem State.set_tic : (s.set f n).tic = s.tic := rfl
@[simp] theorem State.set_gns : (s.set f n).gns = s.gns := rfl
@[simp] theorem State.set_teb : (s.set f n).teb = s.teb := rfl
@[simp] theorem State.set_pipe : (s.set f n).pipe = s.pipe := rfl
@[simp] theorem State.set_sw : (s.set f n).sw = s.sw := rfl
@[simp] theorem State.set_clt : (s.set f n).clt = s.clt := rfl
@[simp] theorem State.set_key : (s.set f n).key = s.key := rfl
@[simp] theorem State.set_gen : (s.set f n).gen = s.gen := rfl
@[simp] theorem State.set_shunt : (s.set f n).shunt = s.shunt := rfl
@[simp] theorem State.set_prove : (s.set f n).prove = s.prove := rfl
@[simp] theorem State.set_dug : (s.set f n).dug = s.dug := rfl
@[simp] theorem State.set_dma : (s.set f n).dma = s.dma := rfl
@[simp] theorem State.set_sent : (s.set f n).sent = s.sent := rfl
@[simp] theorem State.set_free : (s.set f n).free = s.free := rfl
@[simp] theorem State.set_pending : (s.set f n).pending = s.pending := rfl
end

/-! ### `setS` -/
section
variable (f : Fld) (z : Int)
@[simp] theorem State.setS_shadow : (s.setS f z).shadow = s.shadow := rfl
@[simp] theorem State.setS_staging : (s.setS f z).staging = s.staging := rfl
@[simp] theorem State.setS_boot : (s.setS f z).boot = s.boot := rfl
@[simp] theorem State.setS_isl : (s.setS f z).isl = s.isl := rfl
@[simp] theorem State.setS_nvm : (s.setS f z).nvm = s.nvm := rfl
@[simp] theorem State.setS_flt : (s.setS f z).flt = s.flt := rfl
@[simp] theorem State.setS_host : (s.setS f z).host = s.host := rfl
@[simp] theorem State.setS_erec : (s.setS f z).erec = s.erec := rfl
@[simp] theorem State.setS_ax : (s.setS f z).ax = s.ax := rfl
@[simp] theorem State.setS_tri : (s.setS f z).tri = s.tri := rfl
@[simp] theorem State.setS_osc : (s.setS f z).osc = s.osc := rfl
@[simp] theorem State.setS_sel : (s.setS f z).sel = s.sel := rfl
@[simp] theorem State.setS_srv : (s.setS f z).srv = s.srv := rfl
@[simp] theorem State.setS_hold : (s.setS f z).hold = s.hold := rfl
@[simp] theorem State.setS_out : (s.setS f z).out = s.out := rfl
@[simp] theorem State.setS_tic : (s.setS f z).tic = s.tic := rfl
@[simp] theorem State.setS_gns : (s.setS f z).gns = s.gns := rfl
@[simp] theorem State.setS_teb : (s.setS f z).teb = s.teb := rfl
@[simp] theorem State.setS_pipe : (s.setS f z).pipe = s.pipe := rfl
@[simp] theorem State.setS_sw : (s.setS f z).sw = s.sw := rfl
@[simp] theorem State.setS_clt : (s.setS f z).clt = s.clt := rfl
@[simp] theorem State.setS_key : (s.setS f z).key = s.key := rfl
@[simp] theorem State.setS_gen : (s.setS f z).gen = s.gen := rfl
@[simp] theorem State.setS_shunt : (s.setS f z).shunt = s.shunt := rfl
@[simp] theorem State.setS_prove : (s.setS f z).prove = s.prove := rfl
@[simp] theorem State.setS_dug : (s.setS f z).dug = s.dug := rfl
@[simp] theorem State.setS_dma : (s.setS f z).dma = s.dma := rfl
@[simp] theorem State.setS_sent : (s.setS f z).sent = s.sent := rfl
@[simp] theorem State.setS_free : (s.setS f z).free = s.free := rfl
@[simp] theorem State.setS_pending : (s.setS f z).pending = s.pending := rfl
end

/-! ### `setFlag` -/
section
variable (f : Fld) (b : Bool)
@[simp] theorem State.setFlag_shadow : (s.setFlag f b).shadow = s.shadow := rfl
@[simp] theorem State.setFlag_staging : (s.setFlag f b).staging = s.staging := rfl
@[simp] theorem State.setFlag_boot : (s.setFlag f b).boot = s.boot := rfl
@[simp] theorem State.setFlag_isl : (s.setFlag f b).isl = s.isl := rfl
@[simp] theorem State.setFlag_nvm : (s.setFlag f b).nvm = s.nvm := rfl
@[simp] theorem State.setFlag_flt : (s.setFlag f b).flt = s.flt := rfl
@[simp] theorem State.setFlag_host : (s.setFlag f b).host = s.host := rfl
@[simp] theorem State.setFlag_erec : (s.setFlag f b).erec = s.erec := rfl
@[simp] theorem State.setFlag_ax : (s.setFlag f b).ax = s.ax := rfl
@[simp] theorem State.setFlag_tri : (s.setFlag f b).tri = s.tri := rfl
@[simp] theorem State.setFlag_osc : (s.setFlag f b).osc = s.osc := rfl
@[simp] theorem State.setFlag_sel : (s.setFlag f b).sel = s.sel := rfl
@[simp] theorem State.setFlag_srv : (s.setFlag f b).srv = s.srv := rfl
@[simp] theorem State.setFlag_hold : (s.setFlag f b).hold = s.hold := rfl
@[simp] theorem State.setFlag_out : (s.setFlag f b).out = s.out := rfl
@[simp] theorem State.setFlag_tic : (s.setFlag f b).tic = s.tic := rfl
@[simp] theorem State.setFlag_gns : (s.setFlag f b).gns = s.gns := rfl
@[simp] theorem State.setFlag_teb : (s.setFlag f b).teb = s.teb := rfl
@[simp] theorem State.setFlag_pipe : (s.setFlag f b).pipe = s.pipe := rfl
@[simp] theorem State.setFlag_sw : (s.setFlag f b).sw = s.sw := rfl
@[simp] theorem State.setFlag_clt : (s.setFlag f b).clt = s.clt := rfl
@[simp] theorem State.setFlag_key : (s.setFlag f b).key = s.key := rfl
@[simp] theorem State.setFlag_gen : (s.setFlag f b).gen = s.gen := rfl
@[simp] theorem State.setFlag_shunt : (s.setFlag f b).shunt = s.shunt := rfl
@[simp] theorem State.setFlag_prove : (s.setFlag f b).prove = s.prove := rfl
@[simp] theorem State.setFlag_dug : (s.setFlag f b).dug = s.dug := rfl
@[simp] theorem State.setFlag_dma : (s.setFlag f b).dma = s.dma := rfl
@[simp] theorem State.setFlag_sent : (s.setFlag f b).sent = s.sent := rfl
@[simp] theorem State.setFlag_free : (s.setFlag f b).free = s.free := rfl
@[simp] theorem State.setFlag_pending : (s.setFlag f b).pending = s.pending := rfl
end

/-! ### `bumpBy` -/
section
variable (f : Fld) (n : Nat)
@[simp] theorem State.bumpBy_shadow : (s.bumpBy f n).shadow = s.shadow := rfl
@[simp] theorem State.bumpBy_staging : (s.bumpBy f n).staging = s.staging := rfl
@[simp] theorem State.bumpBy_boot : (s.bumpBy f n).boot = s.boot := rfl
@[simp] theorem State.bumpBy_isl : (s.bumpBy f n).isl = s.isl := rfl
@[simp] theorem State.bumpBy_nvm : (s.bumpBy f n).nvm = s.nvm := rfl
@[simp] theorem State.bumpBy_flt : (s.bumpBy f n).flt = s.flt := rfl
@[simp] theorem State.bumpBy_host : (s.bumpBy f n).host = s.host := rfl
@[simp] theorem State.bumpBy_erec : (s.bumpBy f n).erec = s.erec := rfl
@[simp] theorem State.bumpBy_ax : (s.bumpBy f n).ax = s.ax := rfl
@[simp] theorem State.bumpBy_tri : (s.bumpBy f n).tri = s.tri := rfl
@[simp] theorem State.bumpBy_osc : (s.bumpBy f n).osc = s.osc := rfl
@[simp] theorem State.bumpBy_sel : (s.bumpBy f n).sel = s.sel := rfl
@[simp] theorem State.bumpBy_srv : (s.bumpBy f n).srv = s.srv := rfl
@[simp] theorem State.bumpBy_hold : (s.bumpBy f n).hold = s.hold := rfl
@[simp] theorem State.bumpBy_out : (s.bumpBy f n).out = s.out := rfl
@[simp] theorem State.bumpBy_tic : (s.bumpBy f n).tic = s.tic := rfl
@[simp] theorem State.bumpBy_gns : (s.bumpBy f n).gns = s.gns := rfl
@[simp] theorem State.bumpBy_teb : (s.bumpBy f n).teb = s.teb := rfl
@[simp] theorem State.bumpBy_pipe : (s.bumpBy f n).pipe = s.pipe := rfl
@[simp] theorem State.bumpBy_sw : (s.bumpBy f n).sw = s.sw := rfl
@[simp] theorem State.bumpBy_clt : (s.bumpBy f n).clt = s.clt := rfl
@[simp] theorem State.bumpBy_key : (s.bumpBy f n).key = s.key := rfl
@[simp] theorem State.bumpBy_gen : (s.bumpBy f n).gen = s.gen := rfl
@[simp] theorem State.bumpBy_shunt : (s.bumpBy f n).shunt = s.shunt := rfl
@[simp] theorem State.bumpBy_prove : (s.bumpBy f n).prove = s.prove := rfl
@[simp] theorem State.bumpBy_dug : (s.bumpBy f n).dug = s.dug := rfl
@[simp] theorem State.bumpBy_dma : (s.bumpBy f n).dma = s.dma := rfl
@[simp] theorem State.bumpBy_sent : (s.bumpBy f n).sent = s.sent := rfl
@[simp] theorem State.bumpBy_free : (s.bumpBy f n).free = s.free := rfl
@[simp] theorem State.bumpBy_pending : (s.bumpBy f n).pending = s.pending := rfl
end

/-! ### `bump` -/
section
variable (f : Fld)
@[simp] theorem State.bump_shadow : (s.bump f).shadow = s.shadow := rfl
@[simp] theorem State.bump_staging : (s.bump f).staging = s.staging := rfl
@[simp] theorem State.bump_boot : (s.bump f).boot = s.boot := rfl
@[simp] theorem State.bump_isl : (s.bump f).isl = s.isl := rfl
@[simp] theorem State.bump_nvm : (s.bump f).nvm = s.nvm := rfl
@[simp] theorem State.bump_flt : (s.bump f).flt = s.flt := rfl
@[simp] theorem State.bump_host : (s.bump f).host = s.host := rfl
@[simp] theorem State.bump_erec : (s.bump f).erec = s.erec := rfl
@[simp] theorem State.bump_ax : (s.bump f).ax = s.ax := rfl
@[simp] theorem State.bump_tri : (s.bump f).tri = s.tri := rfl
@[simp] theorem State.bump_osc : (s.bump f).osc = s.osc := rfl
@[simp] theorem State.bump_sel : (s.bump f).sel = s.sel := rfl
@[simp] theorem State.bump_srv : (s.bump f).srv = s.srv := rfl
@[simp] theorem State.bump_hold : (s.bump f).hold = s.hold := rfl
@[simp] theorem State.bump_out : (s.bump f).out = s.out := rfl
@[simp] theorem State.bump_tic : (s.bump f).tic = s.tic := rfl
@[simp] theorem State.bump_gns : (s.bump f).gns = s.gns := rfl
@[simp] theorem State.bump_teb : (s.bump f).teb = s.teb := rfl
@[simp] theorem State.bump_pipe : (s.bump f).pipe = s.pipe := rfl
@[simp] theorem State.bump_sw : (s.bump f).sw = s.sw := rfl
@[simp] theorem State.bump_clt : (s.bump f).clt = s.clt := rfl
@[simp] theorem State.bump_key : (s.bump f).key = s.key := rfl
@[simp] theorem State.bump_gen : (s.bump f).gen = s.gen := rfl
@[simp] theorem State.bump_shunt : (s.bump f).shunt = s.shunt := rfl
@[simp] theorem State.bump_prove : (s.bump f).prove = s.prove := rfl
@[simp] theorem State.bump_dug : (s.bump f).dug = s.dug := rfl
@[simp] theorem State.bump_dma : (s.bump f).dma = s.dma := rfl
@[simp] theorem State.bump_sent : (s.bump f).sent = s.sent := rfl
@[simp] theorem State.bump_free : (s.bump f).free = s.free := rfl
@[simp] theorem State.bump_pending : (s.bump f).pending = s.pending := rfl
end

/-! ### `wrT` -/
section
variable (a v : Nat)
@[simp] theorem State.wrT_shadow : (s.wrT a v).shadow = s.shadow := rfl
@[simp] theorem State.wrT_staging : (s.wrT a v).staging = s.staging := rfl
@[simp] theorem State.wrT_boot : (s.wrT a v).boot = s.boot := rfl
@[simp] theorem State.wrT_isl : (s.wrT a v).isl = s.isl := rfl
@[simp] theorem State.wrT_nvm : (s.wrT a v).nvm = s.nvm := rfl
@[simp] theorem State.wrT_flt : (s.wrT a v).flt = s.flt := rfl
@[simp] theorem State.wrT_host : (s.wrT a v).host = s.host := rfl
@[simp] theorem State.wrT_erec : (s.wrT a v).erec = s.erec := rfl
@[simp] theorem State.wrT_ax : (s.wrT a v).ax = s.ax := rfl
@[simp] theorem State.wrT_tri : (s.wrT a v).tri = s.tri := rfl
@[simp] theorem State.wrT_osc : (s.wrT a v).osc = s.osc := rfl
@[simp] theorem State.wrT_sel : (s.wrT a v).sel = s.sel := rfl
@[simp] theorem State.wrT_srv : (s.wrT a v).srv = s.srv := rfl
@[simp] theorem State.wrT_hold : (s.wrT a v).hold = s.hold := rfl
@[simp] theorem State.wrT_out : (s.wrT a v).out = s.out := rfl
@[simp] theorem State.wrT_tic : (s.wrT a v).tic = s.tic := rfl
@[simp] theorem State.wrT_gns : (s.wrT a v).gns = s.gns := rfl
@[simp] theorem State.wrT_teb : (s.wrT a v).teb = s.teb := rfl
@[simp] theorem State.wrT_pipe : (s.wrT a v).pipe = s.pipe := rfl
@[simp] theorem State.wrT_sw : (s.wrT a v).sw = s.sw := rfl
@[simp] theorem State.wrT_clt : (s.wrT a v).clt = s.clt := rfl
@[simp] theorem State.wrT_key : (s.wrT a v).key = s.key := rfl
@[simp] theorem State.wrT_gen : (s.wrT a v).gen = s.gen := rfl
@[simp] theorem State.wrT_shunt : (s.wrT a v).shunt = s.shunt := rfl
@[simp] theorem State.wrT_prove : (s.wrT a v).prove = s.prove := rfl
@[simp] theorem State.wrT_dug : (s.wrT a v).dug = s.dug := rfl
@[simp] theorem State.wrT_dma : (s.wrT a v).dma = s.dma := rfl
@[simp] theorem State.wrT_sent : (s.wrT a v).sent = s.sent := rfl
@[simp] theorem State.wrT_free : (s.wrT a v).free = s.free := rfl
@[simp] theorem State.wrT_pending : (s.wrT a v).pending = s.pending := rfl
end

/-! ### `wrS` -/
section
variable (a : Nat) (z : Int)
@[simp] theorem State.wrS_shadow : (s.wrS a z).shadow = s.shadow := rfl
@[simp] theorem State.wrS_staging : (s.wrS a z).staging = s.staging := rfl
@[simp] theorem State.wrS_boot : (s.wrS a z).boot = s.boot := rfl
@[simp] theorem State.wrS_isl : (s.wrS a z).isl = s.isl := rfl
@[simp] theorem State.wrS_nvm : (s.wrS a z).nvm = s.nvm := rfl
@[simp] theorem State.wrS_flt : (s.wrS a z).flt = s.flt := rfl
@[simp] theorem State.wrS_host : (s.wrS a z).host = s.host := rfl
@[simp] theorem State.wrS_erec : (s.wrS a z).erec = s.erec := rfl
@[simp] theorem State.wrS_ax : (s.wrS a z).ax = s.ax := rfl
@[simp] theorem State.wrS_tri : (s.wrS a z).tri = s.tri := rfl
@[simp] theorem State.wrS_osc : (s.wrS a z).osc = s.osc := rfl
@[simp] theorem State.wrS_sel : (s.wrS a z).sel = s.sel := rfl
@[simp] theorem State.wrS_srv : (s.wrS a z).srv = s.srv := rfl
@[simp] theorem State.wrS_hold : (s.wrS a z).hold = s.hold := rfl
@[simp] theorem State.wrS_out : (s.wrS a z).out = s.out := rfl
@[simp] theorem State.wrS_tic : (s.wrS a z).tic = s.tic := rfl
@[simp] theorem State.wrS_gns : (s.wrS a z).gns = s.gns := rfl
@[simp] theorem State.wrS_teb : (s.wrS a z).teb = s.teb := rfl
@[simp] theorem State.wrS_pipe : (s.wrS a z).pipe = s.pipe := rfl
@[simp] theorem State.wrS_sw : (s.wrS a z).sw = s.sw := rfl
@[simp] theorem State.wrS_clt : (s.wrS a z).clt = s.clt := rfl
@[simp] theorem State.wrS_key : (s.wrS a z).key = s.key := rfl
@[simp] theorem State.wrS_gen : (s.wrS a z).gen = s.gen := rfl
@[simp] theorem State.wrS_shunt : (s.wrS a z).shunt = s.shunt := rfl
@[simp] theorem State.wrS_prove : (s.wrS a z).prove = s.prove := rfl
@[simp] theorem State.wrS_dug : (s.wrS a z).dug = s.dug := rfl
@[simp] theorem State.wrS_dma : (s.wrS a z).dma = s.dma := rfl
@[simp] theorem State.wrS_sent : (s.wrS a z).sent = s.sent := rfl
@[simp] theorem State.wrS_free : (s.wrS a z).free = s.free := rfl
@[simp] theorem State.wrS_pending : (s.wrS a z).pending = s.pending := rfl
end

/-! ### `emit` -/
section
variable (x : Out)
@[simp] theorem State.emit_regs : (s.emit x).regs = s.regs := rfl
@[simp] theorem State.emit_shadow : (s.emit x).shadow = s.shadow := rfl
@[simp] theorem State.emit_staging : (s.emit x).staging = s.staging := rfl
@[simp] theorem State.emit_boot : (s.emit x).boot = s.boot := rfl
@[simp] theorem State.emit_isl : (s.emit x).isl = s.isl := rfl
@[simp] theorem State.emit_nvm : (s.emit x).nvm = s.nvm := rfl
@[simp] theorem State.emit_flt : (s.emit x).flt = s.flt := rfl
@[simp] theorem State.emit_host : (s.emit x).host = s.host := rfl
@[simp] theorem State.emit_erec : (s.emit x).erec = s.erec := rfl
@[simp] theorem State.emit_ax : (s.emit x).ax = s.ax := rfl
@[simp] theorem State.emit_tri : (s.emit x).tri = s.tri := rfl
@[simp] theorem State.emit_osc : (s.emit x).osc = s.osc := rfl
@[simp] theorem State.emit_sel : (s.emit x).sel = s.sel := rfl
@[simp] theorem State.emit_srv : (s.emit x).srv = s.srv := rfl
@[simp] theorem State.emit_hold : (s.emit x).hold = s.hold := rfl
@[simp] theorem State.emit_out : (s.emit x).out = s.out := rfl
@[simp] theorem State.emit_tic : (s.emit x).tic = s.tic := rfl
@[simp] theorem State.emit_gns : (s.emit x).gns = s.gns := rfl
@[simp] theorem State.emit_teb : (s.emit x).teb = s.teb := rfl
@[simp] theorem State.emit_pipe : (s.emit x).pipe = s.pipe := rfl
@[simp] theorem State.emit_sw : (s.emit x).sw = s.sw := rfl
@[simp] theorem State.emit_clt : (s.emit x).clt = s.clt := rfl
@[simp] theorem State.emit_key : (s.emit x).key = s.key := rfl
@[simp] theorem State.emit_gen : (s.emit x).gen = s.gen := rfl
@[simp] theorem State.emit_shunt : (s.emit x).shunt = s.shunt := rfl
@[simp] theorem State.emit_prove : (s.emit x).prove = s.prove := rfl
@[simp] theorem State.emit_dug : (s.emit x).dug = s.dug := rfl
@[simp] theorem State.emit_dma : (s.emit x).dma = s.dma := rfl
@[simp] theorem State.emit_free : (s.emit x).free = s.free := rfl
@[simp] theorem State.emit_pending : (s.emit x).pending = s.pending := rfl
end

/-! ### `putSlot` -/
section
variable (k : Nat) (c : CandSlot)
@[simp] theorem State.putSlot_regs : (s.putSlot k c).regs = s.regs := rfl
@[simp] theorem State.putSlot_shadow : (s.putSlot k c).shadow = s.shadow := rfl
@[simp] theorem State.putSlot_staging : (s.putSlot k c).staging = s.staging := rfl
@[simp] theorem State.putSlot_boot : (s.putSlot k c).boot = s.boot := rfl
@[simp] theorem State.putSlot_isl : (s.putSlot k c).isl = s.isl := rfl
@[simp] theorem State.putSlot_nvm : (s.putSlot k c).nvm = s.nvm := rfl
@[simp] theorem State.putSlot_flt : (s.putSlot k c).flt = s.flt := rfl
@[simp] theorem State.putSlot_host : (s.putSlot k c).host = s.host := rfl
@[simp] theorem State.putSlot_erec : (s.putSlot k c).erec = s.erec := rfl
@[simp] theorem State.putSlot_ax : (s.putSlot k c).ax = s.ax := rfl
@[simp] theorem State.putSlot_tri : (s.putSlot k c).tri = s.tri := rfl
@[simp] theorem State.putSlot_osc : (s.putSlot k c).osc = s.osc := rfl
@[simp] theorem State.putSlot_srv : (s.putSlot k c).srv = s.srv := rfl
@[simp] theorem State.putSlot_hold : (s.putSlot k c).hold = s.hold := rfl
@[simp] theorem State.putSlot_out : (s.putSlot k c).out = s.out := rfl
@[simp] theorem State.putSlot_tic : (s.putSlot k c).tic = s.tic := rfl
@[simp] theorem State.putSlot_gns : (s.putSlot k c).gns = s.gns := rfl
@[simp] theorem State.putSlot_teb : (s.putSlot k c).teb = s.teb := rfl
@[simp] theorem State.putSlot_pipe : (s.putSlot k c).pipe = s.pipe := rfl
@[simp] theorem State.putSlot_sw : (s.putSlot k c).sw = s.sw := rfl
@[simp] theorem State.putSlot_clt : (s.putSlot k c).clt = s.clt := rfl
@[simp] theorem State.putSlot_key : (s.putSlot k c).key = s.key := rfl
@[simp] theorem State.putSlot_gen : (s.putSlot k c).gen = s.gen := rfl
@[simp] theorem State.putSlot_shunt : (s.putSlot k c).shunt = s.shunt := rfl
@[simp] theorem State.putSlot_prove : (s.putSlot k c).prove = s.prove := rfl
@[simp] theorem State.putSlot_dug : (s.putSlot k c).dug = s.dug := rfl
@[simp] theorem State.putSlot_dma : (s.putSlot k c).dma = s.dma := rfl
@[simp] theorem State.putSlot_sent : (s.putSlot k c).sent = s.sent := rfl
@[simp] theorem State.putSlot_free : (s.putSlot k c).free = s.free := rfl
@[simp] theorem State.putSlot_pending : (s.putSlot k c).pending = s.pending := rfl
end

/-! ### `putOut` -/
section
variable (k : Nat) (c : OutState)
@[simp] theorem State.putOut_regs : (s.putOut k c).regs = s.regs := rfl
@[simp] theorem State.putOut_shadow : (s.putOut k c).shadow = s.shadow := rfl
@[simp] theorem State.putOut_staging : (s.putOut k c).staging = s.staging := rfl
@[simp] theorem State.putOut_boot : (s.putOut k c).boot = s.boot := rfl
@[simp] theorem State.putOut_isl : (s.putOut k c).isl = s.isl := rfl
@[simp] theorem State.putOut_nvm : (s.putOut k c).nvm = s.nvm := rfl
@[simp] theorem State.putOut_flt : (s.putOut k c).flt = s.flt := rfl
@[simp] theorem State.putOut_host : (s.putOut k c).host = s.host := rfl
@[simp] theorem State.putOut_erec : (s.putOut k c).erec = s.erec := rfl
@[simp] theorem State.putOut_ax : (s.putOut k c).ax = s.ax := rfl
@[simp] theorem State.putOut_tri : (s.putOut k c).tri = s.tri := rfl
@[simp] theorem State.putOut_osc : (s.putOut k c).osc = s.osc := rfl
@[simp] theorem State.putOut_sel : (s.putOut k c).sel = s.sel := rfl
@[simp] theorem State.putOut_srv : (s.putOut k c).srv = s.srv := rfl
@[simp] theorem State.putOut_hold : (s.putOut k c).hold = s.hold := rfl
@[simp] theorem State.putOut_tic : (s.putOut k c).tic = s.tic := rfl
@[simp] theorem State.putOut_gns : (s.putOut k c).gns = s.gns := rfl
@[simp] theorem State.putOut_teb : (s.putOut k c).teb = s.teb := rfl
@[simp] theorem State.putOut_pipe : (s.putOut k c).pipe = s.pipe := rfl
@[simp] theorem State.putOut_sw : (s.putOut k c).sw = s.sw := rfl
@[simp] theorem State.putOut_clt : (s.putOut k c).clt = s.clt := rfl
@[simp] theorem State.putOut_key : (s.putOut k c).key = s.key := rfl
@[simp] theorem State.putOut_gen : (s.putOut k c).gen = s.gen := rfl
@[simp] theorem State.putOut_shunt : (s.putOut k c).shunt = s.shunt := rfl
@[simp] theorem State.putOut_prove : (s.putOut k c).prove = s.prove := rfl
@[simp] theorem State.putOut_dug : (s.putOut k c).dug = s.dug := rfl
@[simp] theorem State.putOut_dma : (s.putOut k c).dma = s.dma := rfl
@[simp] theorem State.putOut_sent : (s.putOut k c).sent = s.sent := rfl
@[simp] theorem State.putOut_free : (s.putOut k c).free = s.free := rfl
@[simp] theorem State.putOut_pending : (s.putOut k c).pending = s.pending := rfl
end

/-! ### `putPll` -/
section
variable (k : Nat) (c : PllState)
@[simp] theorem State.putPll_regs : (s.putPll k c).regs = s.regs := rfl
@[simp] theorem State.putPll_shadow : (s.putPll k c).shadow = s.shadow := rfl
@[simp] theorem State.putPll_staging : (s.putPll k c).staging = s.staging := rfl
@[simp] theorem State.putPll_boot : (s.putPll k c).boot = s.boot := rfl
@[simp] theorem State.putPll_isl : (s.putPll k c).isl = s.isl := rfl
@[simp] theorem State.putPll_nvm : (s.putPll k c).nvm = s.nvm := rfl
@[simp] theorem State.putPll_flt : (s.putPll k c).flt = s.flt := rfl
@[simp] theorem State.putPll_host : (s.putPll k c).host = s.host := rfl
@[simp] theorem State.putPll_erec : (s.putPll k c).erec = s.erec := rfl
@[simp] theorem State.putPll_ax : (s.putPll k c).ax = s.ax := rfl
@[simp] theorem State.putPll_tri : (s.putPll k c).tri = s.tri := rfl
@[simp] theorem State.putPll_osc : (s.putPll k c).osc = s.osc := rfl
@[simp] theorem State.putPll_sel : (s.putPll k c).sel = s.sel := rfl
@[simp] theorem State.putPll_srv : (s.putPll k c).srv = s.srv := rfl
@[simp] theorem State.putPll_hold : (s.putPll k c).hold = s.hold := rfl
@[simp] theorem State.putPll_tic : (s.putPll k c).tic = s.tic := rfl
@[simp] theorem State.putPll_gns : (s.putPll k c).gns = s.gns := rfl
@[simp] theorem State.putPll_teb : (s.putPll k c).teb = s.teb := rfl
@[simp] theorem State.putPll_pipe : (s.putPll k c).pipe = s.pipe := rfl
@[simp] theorem State.putPll_sw : (s.putPll k c).sw = s.sw := rfl
@[simp] theorem State.putPll_clt : (s.putPll k c).clt = s.clt := rfl
@[simp] theorem State.putPll_key : (s.putPll k c).key = s.key := rfl
@[simp] theorem State.putPll_gen : (s.putPll k c).gen = s.gen := rfl
@[simp] theorem State.putPll_shunt : (s.putPll k c).shunt = s.shunt := rfl
@[simp] theorem State.putPll_prove : (s.putPll k c).prove = s.prove := rfl
@[simp] theorem State.putPll_dug : (s.putPll k c).dug = s.dug := rfl
@[simp] theorem State.putPll_dma : (s.putPll k c).dma = s.dma := rfl
@[simp] theorem State.putPll_sent : (s.putPll k c).sent = s.sent := rfl
@[simp] theorem State.putPll_free : (s.putPll k c).free = s.free := rfl
@[simp] theorem State.putPll_pending : (s.putPll k c).pending = s.pending := rfl
end

/-! ### `putTic` -/
section
variable (k : Nat) (c : TicState)
@[simp] theorem State.putTic_regs : (s.putTic k c).regs = s.regs := rfl
@[simp] theorem State.putTic_shadow : (s.putTic k c).shadow = s.shadow := rfl
@[simp] theorem State.putTic_staging : (s.putTic k c).staging = s.staging := rfl
@[simp] theorem State.putTic_boot : (s.putTic k c).boot = s.boot := rfl
@[simp] theorem State.putTic_isl : (s.putTic k c).isl = s.isl := rfl
@[simp] theorem State.putTic_nvm : (s.putTic k c).nvm = s.nvm := rfl
@[simp] theorem State.putTic_flt : (s.putTic k c).flt = s.flt := rfl
@[simp] theorem State.putTic_host : (s.putTic k c).host = s.host := rfl
@[simp] theorem State.putTic_erec : (s.putTic k c).erec = s.erec := rfl
@[simp] theorem State.putTic_ax : (s.putTic k c).ax = s.ax := rfl
@[simp] theorem State.putTic_tri : (s.putTic k c).tri = s.tri := rfl
@[simp] theorem State.putTic_osc : (s.putTic k c).osc = s.osc := rfl
@[simp] theorem State.putTic_sel : (s.putTic k c).sel = s.sel := rfl
@[simp] theorem State.putTic_srv : (s.putTic k c).srv = s.srv := rfl
@[simp] theorem State.putTic_hold : (s.putTic k c).hold = s.hold := rfl
@[simp] theorem State.putTic_out : (s.putTic k c).out = s.out := rfl
@[simp] theorem State.putTic_gns : (s.putTic k c).gns = s.gns := rfl
@[simp] theorem State.putTic_teb : (s.putTic k c).teb = s.teb := rfl
@[simp] theorem State.putTic_pipe : (s.putTic k c).pipe = s.pipe := rfl
@[simp] theorem State.putTic_sw : (s.putTic k c).sw = s.sw := rfl
@[simp] theorem State.putTic_clt : (s.putTic k c).clt = s.clt := rfl
@[simp] theorem State.putTic_key : (s.putTic k c).key = s.key := rfl
@[simp] theorem State.putTic_gen : (s.putTic k c).gen = s.gen := rfl
@[simp] theorem State.putTic_shunt : (s.putTic k c).shunt = s.shunt := rfl
@[simp] theorem State.putTic_prove : (s.putTic k c).prove = s.prove := rfl
@[simp] theorem State.putTic_dug : (s.putTic k c).dug = s.dug := rfl
@[simp] theorem State.putTic_dma : (s.putTic k c).dma = s.dma := rfl
@[simp] theorem State.putTic_sent : (s.putTic k c).sent = s.sent := rfl
@[simp] theorem State.putTic_free : (s.putTic k c).free = s.free := rfl
@[simp] theorem State.putTic_pending : (s.putTic k c).pending = s.pending := rfl
end

/-! ### `putPair` -/
section
variable (k : Nat) (c : PairState)
@[simp] theorem State.putPair_regs : (s.putPair k c).regs = s.regs := rfl
@[simp] theorem State.putPair_shadow : (s.putPair k c).shadow = s.shadow := rfl
@[simp] theorem State.putPair_staging : (s.putPair k c).staging = s.staging := rfl
@[simp] theorem State.putPair_boot : (s.putPair k c).boot = s.boot := rfl
@[simp] theorem State.putPair_isl : (s.putPair k c).isl = s.isl := rfl
@[simp] theorem State.putPair_nvm : (s.putPair k c).nvm = s.nvm := rfl
@[simp] theorem State.putPair_flt : (s.putPair k c).flt = s.flt := rfl
@[simp] theorem State.putPair_host : (s.putPair k c).host = s.host := rfl
@[simp] theorem State.putPair_erec : (s.putPair k c).erec = s.erec := rfl
@[simp] theorem State.putPair_ax : (s.putPair k c).ax = s.ax := rfl
@[simp] theorem State.putPair_tri : (s.putPair k c).tri = s.tri := rfl
@[simp] theorem State.putPair_osc : (s.putPair k c).osc = s.osc := rfl
@[simp] theorem State.putPair_sel : (s.putPair k c).sel = s.sel := rfl
@[simp] theorem State.putPair_srv : (s.putPair k c).srv = s.srv := rfl
@[simp] theorem State.putPair_hold : (s.putPair k c).hold = s.hold := rfl
@[simp] theorem State.putPair_out : (s.putPair k c).out = s.out := rfl
@[simp] theorem State.putPair_gns : (s.putPair k c).gns = s.gns := rfl
@[simp] theorem State.putPair_teb : (s.putPair k c).teb = s.teb := rfl
@[simp] theorem State.putPair_pipe : (s.putPair k c).pipe = s.pipe := rfl
@[simp] theorem State.putPair_sw : (s.putPair k c).sw = s.sw := rfl
@[simp] theorem State.putPair_clt : (s.putPair k c).clt = s.clt := rfl
@[simp] theorem State.putPair_key : (s.putPair k c).key = s.key := rfl
@[simp] theorem State.putPair_gen : (s.putPair k c).gen = s.gen := rfl
@[simp] theorem State.putPair_shunt : (s.putPair k c).shunt = s.shunt := rfl
@[simp] theorem State.putPair_prove : (s.putPair k c).prove = s.prove := rfl
@[simp] theorem State.putPair_dug : (s.putPair k c).dug = s.dug := rfl
@[simp] theorem State.putPair_dma : (s.putPair k c).dma = s.dma := rfl
@[simp] theorem State.putPair_sent : (s.putPair k c).sent = s.sent := rfl
@[simp] theorem State.putPair_free : (s.putPair k c).free = s.free := rfl
@[simp] theorem State.putPair_pending : (s.putPair k c).pending = s.pending := rfl
end

/-! ### `putCtr` -/
section
variable (k : Nat) (c : AxCtr)
@[simp] theorem State.putCtr_regs : (s.putCtr k c).regs = s.regs := rfl
@[simp] theorem State.putCtr_shadow : (s.putCtr k c).shadow = s.shadow := rfl
@[simp] theorem State.putCtr_staging : (s.putCtr k c).staging = s.staging := rfl
@[simp] theorem State.putCtr_boot : (s.putCtr k c).boot = s.boot := rfl
@[simp] theorem State.putCtr_isl : (s.putCtr k c).isl = s.isl := rfl
@[simp] theorem State.putCtr_nvm : (s.putCtr k c).nvm = s.nvm := rfl
@[simp] theorem State.putCtr_flt : (s.putCtr k c).flt = s.flt := rfl
@[simp] theorem State.putCtr_host : (s.putCtr k c).host = s.host := rfl
@[simp] theorem State.putCtr_erec : (s.putCtr k c).erec = s.erec := rfl
@[simp] theorem State.putCtr_tri : (s.putCtr k c).tri = s.tri := rfl
@[simp] theorem State.putCtr_osc : (s.putCtr k c).osc = s.osc := rfl
@[simp] theorem State.putCtr_sel : (s.putCtr k c).sel = s.sel := rfl
@[simp] theorem State.putCtr_srv : (s.putCtr k c).srv = s.srv := rfl
@[simp] theorem State.putCtr_hold : (s.putCtr k c).hold = s.hold := rfl
@[simp] theorem State.putCtr_out : (s.putCtr k c).out = s.out := rfl
@[simp] theorem State.putCtr_tic : (s.putCtr k c).tic = s.tic := rfl
@[simp] theorem State.putCtr_gns : (s.putCtr k c).gns = s.gns := rfl
@[simp] theorem State.putCtr_teb : (s.putCtr k c).teb = s.teb := rfl
@[simp] theorem State.putCtr_pipe : (s.putCtr k c).pipe = s.pipe := rfl
@[simp] theorem State.putCtr_sw : (s.putCtr k c).sw = s.sw := rfl
@[simp] theorem State.putCtr_clt : (s.putCtr k c).clt = s.clt := rfl
@[simp] theorem State.putCtr_key : (s.putCtr k c).key = s.key := rfl
@[simp] theorem State.putCtr_gen : (s.putCtr k c).gen = s.gen := rfl
@[simp] theorem State.putCtr_shunt : (s.putCtr k c).shunt = s.shunt := rfl
@[simp] theorem State.putCtr_prove : (s.putCtr k c).prove = s.prove := rfl
@[simp] theorem State.putCtr_dug : (s.putCtr k c).dug = s.dug := rfl
@[simp] theorem State.putCtr_dma : (s.putCtr k c).dma = s.dma := rfl
@[simp] theorem State.putCtr_sent : (s.putCtr k c).sent = s.sent := rfl
@[simp] theorem State.putCtr_free : (s.putCtr k c).free = s.free := rfl
@[simp] theorem State.putCtr_pending : (s.putCtr k c).pending = s.pending := rfl
end

/-! ### `putMst` -/
section
variable (m : Master) (x : MasterState)
@[simp] theorem State.putMst_regs : (s.putMst m x).regs = s.regs := by cases m <;> rfl
@[simp] theorem State.putMst_shadow : (s.putMst m x).shadow = s.shadow := by cases m <;> rfl
@[simp] theorem State.putMst_staging : (s.putMst m x).staging = s.staging := by cases m <;> rfl
@[simp] theorem State.putMst_boot : (s.putMst m x).boot = s.boot := by cases m <;> rfl
@[simp] theorem State.putMst_isl : (s.putMst m x).isl = s.isl := by cases m <;> rfl
@[simp] theorem State.putMst_nvm : (s.putMst m x).nvm = s.nvm := by cases m <;> rfl
@[simp] theorem State.putMst_flt : (s.putMst m x).flt = s.flt := by cases m <;> rfl
@[simp] theorem State.putMst_erec : (s.putMst m x).erec = s.erec := by cases m <;> rfl
@[simp] theorem State.putMst_ax : (s.putMst m x).ax = s.ax := by cases m <;> rfl
@[simp] theorem State.putMst_tri : (s.putMst m x).tri = s.tri := by cases m <;> rfl
@[simp] theorem State.putMst_osc : (s.putMst m x).osc = s.osc := by cases m <;> rfl
@[simp] theorem State.putMst_sel : (s.putMst m x).sel = s.sel := by cases m <;> rfl
@[simp] theorem State.putMst_srv : (s.putMst m x).srv = s.srv := by cases m <;> rfl
@[simp] theorem State.putMst_hold : (s.putMst m x).hold = s.hold := by cases m <;> rfl
@[simp] theorem State.putMst_out : (s.putMst m x).out = s.out := by cases m <;> rfl
@[simp] theorem State.putMst_tic : (s.putMst m x).tic = s.tic := by cases m <;> rfl
@[simp] theorem State.putMst_gns : (s.putMst m x).gns = s.gns := by cases m <;> rfl
@[simp] theorem State.putMst_teb : (s.putMst m x).teb = s.teb := by cases m <;> rfl
@[simp] theorem State.putMst_pipe : (s.putMst m x).pipe = s.pipe := by cases m <;> rfl
@[simp] theorem State.putMst_sw : (s.putMst m x).sw = s.sw := by cases m <;> rfl
@[simp] theorem State.putMst_clt : (s.putMst m x).clt = s.clt := by cases m <;> rfl
@[simp] theorem State.putMst_key : (s.putMst m x).key = s.key := by cases m <;> rfl
@[simp] theorem State.putMst_gen : (s.putMst m x).gen = s.gen := by cases m <;> rfl
@[simp] theorem State.putMst_shunt : (s.putMst m x).shunt = s.shunt := by cases m <;> rfl
@[simp] theorem State.putMst_prove : (s.putMst m x).prove = s.prove := by cases m <;> rfl
@[simp] theorem State.putMst_dug : (s.putMst m x).dug = s.dug := by cases m <;> rfl
@[simp] theorem State.putMst_dma : (s.putMst m x).dma = s.dma := by cases m <;> rfl
@[simp] theorem State.putMst_sent : (s.putMst m x).sent = s.sent := by cases m <;> rfl
@[simp] theorem State.putMst_free : (s.putMst m x).free = s.free := by cases m <;> rfl
@[simp] theorem State.putMst_pending : (s.putMst m x).pending = s.pending := by cases m <;> rfl
end

/-! ### `putCore` -/
section
variable (k : Nat) (c : CoreVote)
@[simp] theorem State.putCore_regs : (s.putCore k c).regs = s.regs := by unfold State.putCore; split <;> rfl
@[simp] theorem State.putCore_shadow : (s.putCore k c).shadow = s.shadow := by unfold State.putCore; split <;> rfl
@[simp] theorem State.putCore_staging : (s.putCore k c).staging = s.staging := by unfold State.putCore; split <;> rfl
@[simp] theorem State.putCore_boot : (s.putCore k c).boot = s.boot := by unfold State.putCore; split <;> rfl
@[simp] theorem State.putCore_isl : (s.putCore k c).isl = s.isl := by unfold State.putCore; split <;> rfl
@[simp] theorem State.putCore_nvm : (s.putCore k c).nvm = s.nvm := by unfold State.putCore; split <;> rfl
@[simp] theorem State.putCore_flt : (s.putCore k c).flt = s.flt := by unfold State.putCore; split <;> rfl
@[simp] theorem State.putCore_host : (s.putCore k c).host = s.host := by unfold State.putCore; split <;> rfl
@[simp] theorem State.putCore_erec : (s.putCore k c).erec = s.erec := by unfold State.putCore; split <;> rfl
@[simp] theorem State.putCore_ax : (s.putCore k c).ax = s.ax := by unfold State.putCore; split <;> rfl
@[simp] theorem State.putCore_osc : (s.putCore k c).osc = s.osc := by unfold State.putCore; split <;> rfl
@[simp] theorem State.putCore_sel : (s.putCore k c).sel = s.sel := by unfold State.putCore; split <;> rfl
@[simp] theorem State.putCore_srv : (s.putCore k c).srv = s.srv := by unfold State.putCore; split <;> rfl
@[simp] theorem State.putCore_hold : (s.putCore k c).hold = s.hold := by unfold State.putCore; split <;> rfl
@[simp] theorem State.putCore_out : (s.putCore k c).out = s.out := by unfold State.putCore; split <;> rfl
@[simp] theorem State.putCore_tic : (s.putCore k c).tic = s.tic := by unfold State.putCore; split <;> rfl
@[simp] theorem State.putCore_gns : (s.putCore k c).gns = s.gns := by unfold State.putCore; split <;> rfl
@[simp] theorem State.putCore_teb : (s.putCore k c).teb = s.teb := by unfold State.putCore; split <;> rfl
@[simp] theorem State.putCore_pipe : (s.putCore k c).pipe = s.pipe := by unfold State.putCore; split <;> rfl
@[simp] theorem State.putCore_sw : (s.putCore k c).sw = s.sw := by unfold State.putCore; split <;> rfl
@[simp] theorem State.putCore_clt : (s.putCore k c).clt = s.clt := by unfold State.putCore; split <;> rfl
@[simp] theorem State.putCore_key : (s.putCore k c).key = s.key := by unfold State.putCore; split <;> rfl
@[simp] theorem State.putCore_gen : (s.putCore k c).gen = s.gen := by unfold State.putCore; split <;> rfl
@[simp] theorem State.putCore_shunt : (s.putCore k c).shunt = s.shunt := by unfold State.putCore; split <;> rfl
@[simp] theorem State.putCore_prove : (s.putCore k c).prove = s.prove := by unfold State.putCore; split <;> rfl
@[simp] theorem State.putCore_dug : (s.putCore k c).dug = s.dug := by unfold State.putCore; split <;> rfl
@[simp] theorem State.putCore_dma : (s.putCore k c).dma = s.dma := by unfold State.putCore; split <;> rfl
@[simp] theorem State.putCore_sent : (s.putCore k c).sent = s.sent := by unfold State.putCore; split <;> rfl
@[simp] theorem State.putCore_free : (s.putCore k c).free = s.free := by unfold State.putCore; split <;> rfl
@[simp] theorem State.putCore_pending : (s.putCore k c).pending = s.pending := by unfold State.putCore; split <;> rfl
end

/-! ### `lineOff` -/
section
variable (l c : Nat)
@[simp] theorem State.lineOff_regs : (s.lineOff l c).regs = s.regs := rfl
@[simp] theorem State.lineOff_shadow : (s.lineOff l c).shadow = s.shadow := rfl
@[simp] theorem State.lineOff_staging : (s.lineOff l c).staging = s.staging := rfl
@[simp] theorem State.lineOff_boot : (s.lineOff l c).boot = s.boot := rfl
@[simp] theorem State.lineOff_isl : (s.lineOff l c).isl = s.isl := rfl
@[simp] theorem State.lineOff_nvm : (s.lineOff l c).nvm = s.nvm := rfl
@[simp] theorem State.lineOff_host : (s.lineOff l c).host = s.host := rfl
@[simp] theorem State.lineOff_erec : (s.lineOff l c).erec = s.erec := rfl
@[simp] theorem State.lineOff_ax : (s.lineOff l c).ax = s.ax := rfl
@[simp] theorem State.lineOff_tri : (s.lineOff l c).tri = s.tri := rfl
@[simp] theorem State.lineOff_osc : (s.lineOff l c).osc = s.osc := rfl
@[simp] theorem State.lineOff_sel : (s.lineOff l c).sel = s.sel := rfl
@[simp] theorem State.lineOff_srv : (s.lineOff l c).srv = s.srv := rfl
@[simp] theorem State.lineOff_hold : (s.lineOff l c).hold = s.hold := rfl
@[simp] theorem State.lineOff_out : (s.lineOff l c).out = s.out := rfl
@[simp] theorem State.lineOff_tic : (s.lineOff l c).tic = s.tic := rfl
@[simp] theorem State.lineOff_gns : (s.lineOff l c).gns = s.gns := rfl
@[simp] theorem State.lineOff_teb : (s.lineOff l c).teb = s.teb := rfl
@[simp] theorem State.lineOff_pipe : (s.lineOff l c).pipe = s.pipe := rfl
@[simp] theorem State.lineOff_sw : (s.lineOff l c).sw = s.sw := rfl
@[simp] theorem State.lineOff_clt : (s.lineOff l c).clt = s.clt := rfl
@[simp] theorem State.lineOff_key : (s.lineOff l c).key = s.key := rfl
@[simp] theorem State.lineOff_gen : (s.lineOff l c).gen = s.gen := rfl
@[simp] theorem State.lineOff_shunt : (s.lineOff l c).shunt = s.shunt := rfl
@[simp] theorem State.lineOff_prove : (s.lineOff l c).prove = s.prove := rfl
@[simp] theorem State.lineOff_dug : (s.lineOff l c).dug = s.dug := rfl
@[simp] theorem State.lineOff_dma : (s.lineOff l c).dma = s.dma := rfl
@[simp] theorem State.lineOff_sent : (s.lineOff l c).sent = s.sent := rfl
@[simp] theorem State.lineOff_free : (s.lineOff l c).free = s.free := rfl
@[simp] theorem State.lineOff_pending : (s.lineOff l c).pending = s.pending := rfl
end

/-! ### `lineOn` -/
section
variable (l c : Nat)
@[simp] theorem State.lineOn_regs : (s.lineOn l c).regs = s.regs := by unfold State.lineOn; split <;> rfl
@[simp] theorem State.lineOn_shadow : (s.lineOn l c).shadow = s.shadow := by unfold State.lineOn; split <;> rfl
@[simp] theorem State.lineOn_staging : (s.lineOn l c).staging = s.staging := by unfold State.lineOn; split <;> rfl
@[simp] theorem State.lineOn_boot : (s.lineOn l c).boot = s.boot := by unfold State.lineOn; split <;> rfl
@[simp] theorem State.lineOn_isl : (s.lineOn l c).isl = s.isl := by unfold State.lineOn; split <;> rfl
@[simp] theorem State.lineOn_nvm : (s.lineOn l c).nvm = s.nvm := by unfold State.lineOn; split <;> rfl
@[simp] theorem State.lineOn_host : (s.lineOn l c).host = s.host := by unfold State.lineOn; split <;> rfl
@[simp] theorem State.lineOn_erec : (s.lineOn l c).erec = s.erec := by unfold State.lineOn; split <;> rfl
@[simp] theorem State.lineOn_ax : (s.lineOn l c).ax = s.ax := by unfold State.lineOn; split <;> rfl
@[simp] theorem State.lineOn_tri : (s.lineOn l c).tri = s.tri := by unfold State.lineOn; split <;> rfl
@[simp] theorem State.lineOn_osc : (s.lineOn l c).osc = s.osc := by unfold State.lineOn; split <;> rfl
@[simp] theorem State.lineOn_sel : (s.lineOn l c).sel = s.sel := by unfold State.lineOn; split <;> rfl
@[simp] theorem State.lineOn_srv : (s.lineOn l c).srv = s.srv := by unfold State.lineOn; split <;> rfl
@[simp] theorem State.lineOn_hold : (s.lineOn l c).hold = s.hold := by unfold State.lineOn; split <;> rfl
@[simp] theorem State.lineOn_out : (s.lineOn l c).out = s.out := by unfold State.lineOn; split <;> rfl
@[simp] theorem State.lineOn_tic : (s.lineOn l c).tic = s.tic := by unfold State.lineOn; split <;> rfl
@[simp] theorem State.lineOn_gns : (s.lineOn l c).gns = s.gns := by unfold State.lineOn; split <;> rfl
@[simp] theorem State.lineOn_teb : (s.lineOn l c).teb = s.teb := by unfold State.lineOn; split <;> rfl
@[simp] theorem State.lineOn_pipe : (s.lineOn l c).pipe = s.pipe := by unfold State.lineOn; split <;> rfl
@[simp] theorem State.lineOn_sw : (s.lineOn l c).sw = s.sw := by unfold State.lineOn; split <;> rfl
@[simp] theorem State.lineOn_clt : (s.lineOn l c).clt = s.clt := by unfold State.lineOn; split <;> rfl
@[simp] theorem State.lineOn_key : (s.lineOn l c).key = s.key := by unfold State.lineOn; split <;> rfl
@[simp] theorem State.lineOn_gen : (s.lineOn l c).gen = s.gen := by unfold State.lineOn; split <;> rfl
@[simp] theorem State.lineOn_shunt : (s.lineOn l c).shunt = s.shunt := by unfold State.lineOn; split <;> rfl
@[simp] theorem State.lineOn_prove : (s.lineOn l c).prove = s.prove := by unfold State.lineOn; split <;> rfl
@[simp] theorem State.lineOn_dug : (s.lineOn l c).dug = s.dug := by unfold State.lineOn; split <;> rfl
@[simp] theorem State.lineOn_dma : (s.lineOn l c).dma = s.dma := by unfold State.lineOn; split <;> rfl
@[simp] theorem State.lineOn_sent : (s.lineOn l c).sent = s.sent := by unfold State.lineOn; split <;> rfl
@[simp] theorem State.lineOn_free : (s.lineOn l c).free = s.free := by unfold State.lineOn; split <;> rfl
@[simp] theorem State.lineOn_pending : (s.lineOn l c).pending = s.pending := by unfold State.lineOn; split <;> rfl
end

/-! ### `pulse` -/
section
variable (l : Nat)
@[simp] theorem State.pulse_regs : (s.pulse l).regs = s.regs := by simp [State.pulse]
@[simp] theorem State.pulse_shadow : (s.pulse l).shadow = s.shadow := by simp [State.pulse]
@[simp] theorem State.pulse_staging : (s.pulse l).staging = s.staging := by simp [State.pulse]
@[simp] theorem State.pulse_boot : (s.pulse l).boot = s.boot := by simp [State.pulse]
@[simp] theorem State.pulse_isl : (s.pulse l).isl = s.isl := by simp [State.pulse]
@[simp] theorem State.pulse_nvm : (s.pulse l).nvm = s.nvm := by simp [State.pulse]
@[simp] theorem State.pulse_host : (s.pulse l).host = s.host := by simp [State.pulse]
@[simp] theorem State.pulse_erec : (s.pulse l).erec = s.erec := by simp [State.pulse]
@[simp] theorem State.pulse_ax : (s.pulse l).ax = s.ax := by simp [State.pulse]
@[simp] theorem State.pulse_tri : (s.pulse l).tri = s.tri := by simp [State.pulse]
@[simp] theorem State.pulse_osc : (s.pulse l).osc = s.osc := by simp [State.pulse]
@[simp] theorem State.pulse_sel : (s.pulse l).sel = s.sel := by simp [State.pulse]
@[simp] theorem State.pulse_srv : (s.pulse l).srv = s.srv := by simp [State.pulse]
@[simp] theorem State.pulse_hold : (s.pulse l).hold = s.hold := by simp [State.pulse]
@[simp] theorem State.pulse_out : (s.pulse l).out = s.out := by simp [State.pulse]
@[simp] theorem State.pulse_tic : (s.pulse l).tic = s.tic := by simp [State.pulse]
@[simp] theorem State.pulse_gns : (s.pulse l).gns = s.gns := by simp [State.pulse]
@[simp] theorem State.pulse_teb : (s.pulse l).teb = s.teb := by simp [State.pulse]
@[simp] theorem State.pulse_pipe : (s.pulse l).pipe = s.pipe := by simp [State.pulse]
@[simp] theorem State.pulse_sw : (s.pulse l).sw = s.sw := by simp [State.pulse]
@[simp] theorem State.pulse_clt : (s.pulse l).clt = s.clt := by simp [State.pulse]
@[simp] theorem State.pulse_key : (s.pulse l).key = s.key := by simp [State.pulse]
@[simp] theorem State.pulse_gen : (s.pulse l).gen = s.gen := by simp [State.pulse]
@[simp] theorem State.pulse_shunt : (s.pulse l).shunt = s.shunt := by simp [State.pulse]
@[simp] theorem State.pulse_prove : (s.pulse l).prove = s.prove := by simp [State.pulse]
@[simp] theorem State.pulse_dug : (s.pulse l).dug = s.dug := by simp [State.pulse]
@[simp] theorem State.pulse_dma : (s.pulse l).dma = s.dma := by simp [State.pulse]
@[simp] theorem State.pulse_sent : (s.pulse l).sent = s.sent := by simp [State.pulse]
@[simp] theorem State.pulse_free : (s.pulse l).free = s.free := by simp [State.pulse]
@[simp] theorem State.pulse_pending : (s.pulse l).pending = s.pending := by simp [State.pulse]
end

/-! ### `lineSet` -/
section
variable (l c : Nat) (b : Bool)
@[simp] theorem State.lineSet_regs : (s.lineSet l c b).regs = s.regs := by unfold State.lineSet; split <;> simp
@[simp] theorem State.lineSet_shadow : (s.lineSet l c b).shadow = s.shadow := by unfold State.lineSet; split <;> simp
@[simp] theorem State.lineSet_staging : (s.lineSet l c b).staging = s.staging := by unfold State.lineSet; split <;> simp
@[simp] theorem State.lineSet_boot : (s.lineSet l c b).boot = s.boot := by unfold State.lineSet; split <;> simp
@[simp] theorem State.lineSet_isl : (s.lineSet l c b).isl = s.isl := by unfold State.lineSet; split <;> simp
@[simp] theorem State.lineSet_nvm : (s.lineSet l c b).nvm = s.nvm := by unfold State.lineSet; split <;> simp
@[simp] theorem State.lineSet_host : (s.lineSet l c b).host = s.host := by unfold State.lineSet; split <;> simp
@[simp] theorem State.lineSet_erec : (s.lineSet l c b).erec = s.erec := by unfold State.lineSet; split <;> simp
@[simp] theorem State.lineSet_ax : (s.lineSet l c b).ax = s.ax := by unfold State.lineSet; split <;> simp
@[simp] theorem State.lineSet_tri : (s.lineSet l c b).tri = s.tri := by unfold State.lineSet; split <;> simp
@[simp] theorem State.lineSet_osc : (s.lineSet l c b).osc = s.osc := by unfold State.lineSet; split <;> simp
@[simp] theorem State.lineSet_sel : (s.lineSet l c b).sel = s.sel := by unfold State.lineSet; split <;> simp
@[simp] theorem State.lineSet_srv : (s.lineSet l c b).srv = s.srv := by unfold State.lineSet; split <;> simp
@[simp] theorem State.lineSet_hold : (s.lineSet l c b).hold = s.hold := by unfold State.lineSet; split <;> simp
@[simp] theorem State.lineSet_out : (s.lineSet l c b).out = s.out := by unfold State.lineSet; split <;> simp
@[simp] theorem State.lineSet_tic : (s.lineSet l c b).tic = s.tic := by unfold State.lineSet; split <;> simp
@[simp] theorem State.lineSet_gns : (s.lineSet l c b).gns = s.gns := by unfold State.lineSet; split <;> simp
@[simp] theorem State.lineSet_teb : (s.lineSet l c b).teb = s.teb := by unfold State.lineSet; split <;> simp
@[simp] theorem State.lineSet_pipe : (s.lineSet l c b).pipe = s.pipe := by unfold State.lineSet; split <;> simp
@[simp] theorem State.lineSet_sw : (s.lineSet l c b).sw = s.sw := by unfold State.lineSet; split <;> simp
@[simp] theorem State.lineSet_clt : (s.lineSet l c b).clt = s.clt := by unfold State.lineSet; split <;> simp
@[simp] theorem State.lineSet_key : (s.lineSet l c b).key = s.key := by unfold State.lineSet; split <;> simp
@[simp] theorem State.lineSet_gen : (s.lineSet l c b).gen = s.gen := by unfold State.lineSet; split <;> simp
@[simp] theorem State.lineSet_shunt : (s.lineSet l c b).shunt = s.shunt := by unfold State.lineSet; split <;> simp
@[simp] theorem State.lineSet_prove : (s.lineSet l c b).prove = s.prove := by unfold State.lineSet; split <;> simp
@[simp] theorem State.lineSet_dug : (s.lineSet l c b).dug = s.dug := by unfold State.lineSet; split <;> simp
@[simp] theorem State.lineSet_dma : (s.lineSet l c b).dma = s.dma := by unfold State.lineSet; split <;> simp
@[simp] theorem State.lineSet_sent : (s.lineSet l c b).sent = s.sent := by unfold State.lineSet; split <;> simp
@[simp] theorem State.lineSet_free : (s.lineSet l c b).free = s.free := by unfold State.lineSet; split <;> simp
@[simp] theorem State.lineSet_pending : (s.lineSet l c b).pending = s.pending := by unfold State.lineSet; split <;> simp
end

/-! ### `trigAt` -/
section
variable (i c n : Nat) (l : List Nat)
@[simp] theorem State.trigAt_regs : (s.trigAt i c n l).regs = s.regs := by unfold State.trigAt; dsimp only; split <;> (try split) <;> rfl
@[simp] theorem State.trigAt_shadow : (s.trigAt i c n l).shadow = s.shadow := by unfold State.trigAt; dsimp only; split <;> (try split) <;> rfl
@[simp] theorem State.trigAt_staging : (s.trigAt i c n l).staging = s.staging := by unfold State.trigAt; dsimp only; split <;> (try split) <;> rfl
@[simp] theorem State.trigAt_boot : (s.trigAt i c n l).boot = s.boot := by unfold State.trigAt; dsimp only; split <;> (try split) <;> rfl
@[simp] theorem State.trigAt_isl : (s.trigAt i c n l).isl = s.isl := by unfold State.trigAt; dsimp only; split <;> (try split) <;> rfl
@[simp] theorem State.trigAt_nvm : (s.trigAt i c n l).nvm = s.nvm := by unfold State.trigAt; dsimp only; split <;> (try split) <;> rfl
@[simp] theorem State.trigAt_flt : (s.trigAt i c n l).flt = s.flt := by unfold State.trigAt; dsimp only; split <;> (try split) <;> rfl
@[simp] theorem State.trigAt_host : (s.trigAt i c n l).host = s.host := by unfold State.trigAt; dsimp only; split <;> (try split) <;> rfl
@[simp] theorem State.trigAt_ax : (s.trigAt i c n l).ax = s.ax := by unfold State.trigAt; dsimp only; split <;> (try split) <;> rfl
@[simp] theorem State.trigAt_tri : (s.trigAt i c n l).tri = s.tri := by unfold State.trigAt; dsimp only; split <;> (try split) <;> rfl
@[simp] theorem State.trigAt_osc : (s.trigAt i c n l).osc = s.osc := by unfold State.trigAt; dsimp only; split <;> (try split) <;> rfl
@[simp] theorem State.trigAt_sel : (s.trigAt i c n l).sel = s.sel := by unfold State.trigAt; dsimp only; split <;> (try split) <;> rfl
@[simp] theorem State.trigAt_srv : (s.trigAt i c n l).srv = s.srv := by unfold State.trigAt; dsimp only; split <;> (try split) <;> rfl
@[simp] theorem State.trigAt_hold : (s.trigAt i c n l).hold = s.hold := by unfold State.trigAt; dsimp only; split <;> (try split) <;> rfl
@[simp] theorem State.trigAt_out : (s.trigAt i c n l).out = s.out := by unfold State.trigAt; dsimp only; split <;> (try split) <;> rfl
@[simp] theorem State.trigAt_tic : (s.trigAt i c n l).tic = s.tic := by unfold State.trigAt; dsimp only; split <;> (try split) <;> rfl
@[simp] theorem State.trigAt_gns : (s.trigAt i c n l).gns = s.gns := by unfold State.trigAt; dsimp only; split <;> (try split) <;> rfl
@[simp] theorem State.trigAt_teb : (s.trigAt i c n l).teb = s.teb := by unfold State.trigAt; dsimp only; split <;> (try split) <;> rfl
@[simp] theorem State.trigAt_pipe : (s.trigAt i c n l).pipe = s.pipe := by unfold State.trigAt; dsimp only; split <;> (try split) <;> rfl
@[simp] theorem State.trigAt_sw : (s.trigAt i c n l).sw = s.sw := by unfold State.trigAt; dsimp only; split <;> (try split) <;> rfl
@[simp] theorem State.trigAt_clt : (s.trigAt i c n l).clt = s.clt := by unfold State.trigAt; dsimp only; split <;> (try split) <;> rfl
@[simp] theorem State.trigAt_key : (s.trigAt i c n l).key = s.key := by unfold State.trigAt; dsimp only; split <;> (try split) <;> rfl
@[simp] theorem State.trigAt_gen : (s.trigAt i c n l).gen = s.gen := by unfold State.trigAt; dsimp only; split <;> (try split) <;> rfl
@[simp] theorem State.trigAt_shunt : (s.trigAt i c n l).shunt = s.shunt := by unfold State.trigAt; dsimp only; split <;> (try split) <;> rfl
@[simp] theorem State.trigAt_prove : (s.trigAt i c n l).prove = s.prove := by unfold State.trigAt; dsimp only; split <;> (try split) <;> rfl
@[simp] theorem State.trigAt_dug : (s.trigAt i c n l).dug = s.dug := by unfold State.trigAt; dsimp only; split <;> (try split) <;> rfl
@[simp] theorem State.trigAt_dma : (s.trigAt i c n l).dma = s.dma := by unfold State.trigAt; dsimp only; split <;> (try split) <;> rfl
@[simp] theorem State.trigAt_sent : (s.trigAt i c n l).sent = s.sent := by unfold State.trigAt; dsimp only; split <;> (try split) <;> rfl
@[simp] theorem State.trigAt_free : (s.trigAt i c n l).free = s.free := by unfold State.trigAt; dsimp only; split <;> (try split) <;> rfl
@[simp] theorem State.trigAt_pending : (s.trigAt i c n l).pending = s.pending := by unfold State.trigAt; dsimp only; split <;> (try split) <;> rfl
end

/-! ### `trig` -/
section
variable (i c : Nat) (l : List Nat)
@[simp] theorem State.trig_regs : (s.trig i c l).regs = s.regs := by simp [State.trig]
@[simp] theorem State.trig_shadow : (s.trig i c l).shadow = s.shadow := by simp [State.trig]
@[simp] theorem State.trig_staging : (s.trig i c l).staging = s.staging := by simp [State.trig]
@[simp] theorem State.trig_boot : (s.trig i c l).boot = s.boot := by simp [State.trig]
@[simp] theorem State.trig_isl : (s.trig i c l).isl = s.isl := by simp [State.trig]
@[simp] theorem State.trig_nvm : (s.trig i c l).nvm = s.nvm := by simp [State.trig]
@[simp] theorem State.trig_flt : (s.trig i c l).flt = s.flt := by simp [State.trig]
@[simp] theorem State.trig_host : (s.trig i c l).host = s.host := by simp [State.trig]
@[simp] theorem State.trig_ax : (s.trig i c l).ax = s.ax := by simp [State.trig]
@[simp] theorem State.trig_tri : (s.trig i c l).tri = s.tri := by simp [State.trig]
@[simp] theorem State.trig_osc : (s.trig i c l).osc = s.osc := by simp [State.trig]
@[simp] theorem State.trig_sel : (s.trig i c l).sel = s.sel := by simp [State.trig]
@[simp] theorem State.trig_srv : (s.trig i c l).srv = s.srv := by simp [State.trig]
@[simp] theorem State.trig_hold : (s.trig i c l).hold = s.hold := by simp [State.trig]
@[simp] theorem State.trig_out : (s.trig i c l).out = s.out := by simp [State.trig]
@[simp] theorem State.trig_tic : (s.trig i c l).tic = s.tic := by simp [State.trig]
@[simp] theorem State.trig_gns : (s.trig i c l).gns = s.gns := by simp [State.trig]
@[simp] theorem State.trig_teb : (s.trig i c l).teb = s.teb := by simp [State.trig]
@[simp] theorem State.trig_pipe : (s.trig i c l).pipe = s.pipe := by simp [State.trig]
@[simp] theorem State.trig_sw : (s.trig i c l).sw = s.sw := by simp [State.trig]
@[simp] theorem State.trig_clt : (s.trig i c l).clt = s.clt := by simp [State.trig]
@[simp] theorem State.trig_key : (s.trig i c l).key = s.key := by simp [State.trig]
@[simp] theorem State.trig_gen : (s.trig i c l).gen = s.gen := by simp [State.trig]
@[simp] theorem State.trig_shunt : (s.trig i c l).shunt = s.shunt := by simp [State.trig]
@[simp] theorem State.trig_prove : (s.trig i c l).prove = s.prove := by simp [State.trig]
@[simp] theorem State.trig_dug : (s.trig i c l).dug = s.dug := by simp [State.trig]
@[simp] theorem State.trig_dma : (s.trig i c l).dma = s.dma := by simp [State.trig]
@[simp] theorem State.trig_sent : (s.trig i c l).sent = s.sent := by simp [State.trig]
@[simp] theorem State.trig_free : (s.trig i c l).free = s.free := by simp [State.trig]
@[simp] theorem State.trig_pending : (s.trig i c l).pending = s.pending := by simp [State.trig]
end

/-! ### What registers read -/

theorem State.rd_wr (a b : Nat) (v : Word) : (s.wr a v).rd b = if b = a then v else s.rd b := Store.read_write _ _ _ _

@[simp] theorem State.rd_wr_same (a : Nat) (v : Word) : (s.wr a v).rd a = v := by simp [State.rd_wr]

@[simp] theorem State.rd_wr_other (a b : Nat) (v : Word) (h : b ≠ a) : (s.wr a v).rd b = s.rd b := by simp [State.rd_wr, h]

/-- Two states with the same register store read the same. -/
theorem State.rd_congr {s t : State} (h : t.regs = s.regs) (a : Nat) : t.rd a = s.rd a := by unfold State.rd; rw [h]

@[simp] theorem State.rd_set_other (f : Fld) (n b : Nat) (h : b ≠ f.slot) : (s.set f n).rd b = s.rd b := by
  unfold State.set; exact State.rd_wr_other _ _ _ _ h

/-- A field reads the number last put into it, reduced to its width. -/
@[simp] theorem State.get_set_same (f : Fld) (n : Nat) (h : f.lo + f.w ≤ 36) : (s.set f n).get f = n % 2 ^ f.w := by
  unfold State.set State.get; rw [State.rd_wr_same, Fld.of_put _ _ _ h]

/-- A field of another slot, or of other bits, keeps its value. -/
@[simp] theorem State.get_set_other (f g : Fld) (n : Nat)
    (h : f.slot ≠ g.slot ∨ f.lo + f.w ≤ 36 ∧ (g.lo + g.w ≤ f.lo ∨ f.lo + f.w ≤ g.lo)) : (s.set f n).get g = s.get g := by
  unfold State.get
  by_cases e : g.slot = f.slot
  · rcases h with h | ⟨h, d⟩
    · exact absurd e.symm h
    · unfold State.set; rw [e, State.rd_wr_same, Fld.of_put_apart _ _ _ _ h d]
  · rw [State.rd_set_other _ _ _ _ e]

/-- A write of another slot leaves a field. -/
@[simp] theorem State.get_wr_other (f : Fld) (a : Nat) (v : Word) (h : f.slot ≠ a) : (s.wr a v).get f = s.get f := by
  unfold State.get; rw [State.rd_wr_other _ _ _ _ h]

theorem State.get_congr {s t : State} (h : t.regs = s.regs) (f : Fld) : t.get f = s.get f := by unfold State.get; rw [State.rd_congr h]

theorem State.flag_congr {s t : State} (h : t.regs = s.regs) (f : Fld) : t.flag f = s.flag f := by unfold State.flag; rw [State.get_congr h]

/-- A field is below two to the power of its width. -/
theorem State.get_lt (f : Fld) : s.get f < 2 ^ f.w := Fld.of_lt _ _

/-! ### Instants, emissions and records read no register anew -/

@[simp] theorem State.emit_rd (x : Out) (a : Nat) : (s.emit x).rd a = s.rd a := rfl
@[simp] theorem State.emit_get (x : Out) (f : Fld) : (s.emit x).get f = s.get f := rfl
@[simp] theorem State.trig_rd (i c : Nat) (l : List Nat) (a : Nat) : (s.trig i c l).rd a = s.rd a := State.rd_congr (State.trig_regs _ _ _ _) _
@[simp] theorem State.trig_get (i c : Nat) (l : List Nat) (f : Fld) : (s.trig i c l).get f = s.get f := State.get_congr (State.trig_regs _ _ _ _) _
@[simp] theorem State.trigAt_rd (i c n : Nat) (l : List Nat) (a : Nat) : (s.trigAt i c n l).rd a = s.rd a := State.rd_congr (State.trigAt_regs _ _ _ _ _) _
@[simp] theorem State.trigAt_get (i c n : Nat) (l : List Nat) (f : Fld) : (s.trigAt i c n l).get f = s.get f := State.get_congr (State.trigAt_regs _ _ _ _ _) _
@[simp] theorem State.lineOn_rd (l c a : Nat) : (s.lineOn l c).rd a = s.rd a := State.rd_congr (State.lineOn_regs _ _ _) _
@[simp] theorem State.lineOn_get (l c : Nat) (f : Fld) : (s.lineOn l c).get f = s.get f := State.get_congr (State.lineOn_regs _ _ _) _
@[simp] theorem State.lineOff_rd (l c a : Nat) : (s.lineOff l c).rd a = s.rd a := rfl
@[simp] theorem State.lineOff_get (l c : Nat) (f : Fld) : (s.lineOff l c).get f = s.get f := rfl
@[simp] theorem State.pulse_rd (l a : Nat) : (s.pulse l).rd a = s.rd a := State.rd_congr (State.pulse_regs _ _) _
@[simp] theorem State.pulse_get (l : Nat) (f : Fld) : (s.pulse l).get f = s.get f := State.get_congr (State.pulse_regs _ _) _
@[simp] theorem State.lineSet_rd (l c : Nat) (b : Bool) (a : Nat) : (s.lineSet l c b).rd a = s.rd a := State.rd_congr (State.lineSet_regs _ _ _ _) _
@[simp] theorem State.lineSet_get (l c : Nat) (b : Bool) (f : Fld) : (s.lineSet l c b).get f = s.get f := State.get_congr (State.lineSet_regs _ _ _ _) _

/-! ### Events: registers, the messages that follow and the pending messages of the two functions; nothing else -/

/-- What a message changes. -/
theorem State.sendVec_frame (v : Nat) : s.sendVec v = { s with host := (s.sendVec v).host, sent := (s.sendVec v).sent } := by
  unfold State.sendVec
  extract_lets pf x x'
  by_cases h1 : (!x.enabled) = true
  · simp only [h1, if_true]
  · by_cases h2 : (x.funcMask || bitOn x.masked v) = true
    · simp only [h1, h2, if_true]; rfl
    · simp only [h1, h2]; rfl

theorem State.vecRises_frame (old : State) : State.vecRises old s = { s with host := (State.vecRises old s).host, sent := (State.vecRises old s).sent } := by
  have key : ∀ (l : List Nat) (t : State), (∃ h e, t = { s with host := h, sent := e }) →
      ∃ h e, l.foldl (fun t v => if s.vecLevel v && !old.vecLevel v then t.sendVec v else t) t = { s with host := h, sent := e } := by
    intro l
    induction l with
    | nil => intro t h; exact h
    | cons v r ih =>
      rintro t ⟨h, e, ht⟩
      rw [List.foldl_cons]
      apply ih
      split
      · refine ⟨(t.sendVec v).host, (t.sendVec v).sent, ?_⟩
        have := State.sendVec_frame t v
        generalize t.sendVec v = u at this ⊢
        rw [this, ht]
      · exact ⟨h, e, ht⟩
  unfold State.vecRises
  split
  · obtain ⟨h, e, k⟩ := key (List.range 32) s ⟨s.host, s.sent, rfl⟩
    rw [k]
  · rfl

theorem State.putEvt_frame (page new : Nat) : s.putEvt page new =
    { s with regs := s.regs.write (R.PG_EVT page) (BitVec.ofNat 36 new), host := (s.putEvt page new).host, sent := (s.putEvt page new).sent } := by
  unfold State.putEvt; dsimp only
  split
  · rw [State.vecRises_frame]; rfl
  · rfl

section
variable (p n : Nat)
@[simp] theorem State.putEvt_shadow : (s.putEvt p n).shadow = s.shadow := by rw [State.putEvt_frame]
@[simp] theorem State.putEvt_staging : (s.putEvt p n).staging = s.staging := by rw [State.putEvt_frame]
@[simp] theorem State.putEvt_boot : (s.putEvt p n).boot = s.boot := by rw [State.putEvt_frame]
@[simp] theorem State.putEvt_isl : (s.putEvt p n).isl = s.isl := by rw [State.putEvt_frame]
@[simp] theorem State.putEvt_nvm : (s.putEvt p n).nvm = s.nvm := by rw [State.putEvt_frame]
@[simp] theorem State.putEvt_flt : (s.putEvt p n).flt = s.flt := by rw [State.putEvt_frame]
@[simp] theorem State.putEvt_erec : (s.putEvt p n).erec = s.erec := by rw [State.putEvt_frame]
@[simp] theorem State.putEvt_ax : (s.putEvt p n).ax = s.ax := by rw [State.putEvt_frame]
@[simp] theorem State.putEvt_tri : (s.putEvt p n).tri = s.tri := by rw [State.putEvt_frame]
@[simp] theorem State.putEvt_osc : (s.putEvt p n).osc = s.osc := by rw [State.putEvt_frame]
@[simp] theorem State.putEvt_sel : (s.putEvt p n).sel = s.sel := by rw [State.putEvt_frame]
@[simp] theorem State.putEvt_srv : (s.putEvt p n).srv = s.srv := by rw [State.putEvt_frame]
@[simp] theorem State.putEvt_hold : (s.putEvt p n).hold = s.hold := by rw [State.putEvt_frame]
@[simp] theorem State.putEvt_out : (s.putEvt p n).out = s.out := by rw [State.putEvt_frame]
@[simp] theorem State.putEvt_tic : (s.putEvt p n).tic = s.tic := by rw [State.putEvt_frame]
@[simp] theorem State.putEvt_gns : (s.putEvt p n).gns = s.gns := by rw [State.putEvt_frame]
@[simp] theorem State.putEvt_teb : (s.putEvt p n).teb = s.teb := by rw [State.putEvt_frame]
@[simp] theorem State.putEvt_pipe : (s.putEvt p n).pipe = s.pipe := by rw [State.putEvt_frame]
@[simp] theorem State.putEvt_sw : (s.putEvt p n).sw = s.sw := by rw [State.putEvt_frame]
@[simp] theorem State.putEvt_clt : (s.putEvt p n).clt = s.clt := by rw [State.putEvt_frame]
@[simp] theorem State.putEvt_key : (s.putEvt p n).key = s.key := by rw [State.putEvt_frame]
@[simp] theorem State.putEvt_gen : (s.putEvt p n).gen = s.gen := by rw [State.putEvt_frame]
@[simp] theorem State.putEvt_shunt : (s.putEvt p n).shunt = s.shunt := by rw [State.putEvt_frame]
@[simp] theorem State.putEvt_prove : (s.putEvt p n).prove = s.prove := by rw [State.putEvt_frame]
@[simp] theorem State.putEvt_dug : (s.putEvt p n).dug = s.dug := by rw [State.putEvt_frame]
@[simp] theorem State.putEvt_dma : (s.putEvt p n).dma = s.dma := by rw [State.putEvt_frame]
@[simp] theorem State.putEvt_free : (s.putEvt p n).free = s.free := by rw [State.putEvt_frame]
@[simp] theorem State.putEvt_pending : (s.putEvt p n).pending = s.pending := by rw [State.putEvt_frame]
end

section
variable (p b : Nat)
@[simp] theorem State.raise_shadow : (s.raise p b).shadow = s.shadow := by simp [State.raise]
@[simp] theorem State.raise_staging : (s.raise p b).staging = s.staging := by simp [State.raise]
@[simp] theorem State.raise_boot : (s.raise p b).boot = s.boot := by simp [State.raise]
@[simp] theorem State.raise_isl : (s.raise p b).isl = s.isl := by simp [State.raise]
@[simp] theorem State.raise_nvm : (s.raise p b).nvm = s.nvm := by simp [State.raise]
@[simp] theorem State.raise_flt : (s.raise p b).flt = s.flt := by simp [State.raise]
@[simp] theorem State.raise_erec : (s.raise p b).erec = s.erec := by simp [State.raise]
@[simp] theorem State.raise_ax : (s.raise p b).ax = s.ax := by simp [State.raise]
@[simp] theorem State.raise_tri : (s.raise p b).tri = s.tri := by simp [State.raise]
@[simp] theorem State.raise_osc : (s.raise p b).osc = s.osc := by simp [State.raise]
@[simp] theorem State.raise_sel : (s.raise p b).sel = s.sel := by simp [State.raise]
@[simp] theorem State.raise_srv : (s.raise p b).srv = s.srv := by simp [State.raise]
@[simp] theorem State.raise_hold : (s.raise p b).hold = s.hold := by simp [State.raise]
@[simp] theorem State.raise_out : (s.raise p b).out = s.out := by simp [State.raise]
@[simp] theorem State.raise_tic : (s.raise p b).tic = s.tic := by simp [State.raise]
@[simp] theorem State.raise_gns : (s.raise p b).gns = s.gns := by simp [State.raise]
@[simp] theorem State.raise_teb : (s.raise p b).teb = s.teb := by simp [State.raise]
@[simp] theorem State.raise_pipe : (s.raise p b).pipe = s.pipe := by simp [State.raise]
@[simp] theorem State.raise_sw : (s.raise p b).sw = s.sw := by simp [State.raise]
@[simp] theorem State.raise_clt : (s.raise p b).clt = s.clt := by simp [State.raise]
@[simp] theorem State.raise_key : (s.raise p b).key = s.key := by simp [State.raise]
@[simp] theorem State.raise_gen : (s.raise p b).gen = s.gen := by simp [State.raise]
@[simp] theorem State.raise_shunt : (s.raise p b).shunt = s.shunt := by simp [State.raise]
@[simp] theorem State.raise_prove : (s.raise p b).prove = s.prove := by simp [State.raise]
@[simp] theorem State.raise_dug : (s.raise p b).dug = s.dug := by simp [State.raise]
@[simp] theorem State.raise_dma : (s.raise p b).dma = s.dma := by simp [State.raise]
@[simp] theorem State.raise_free : (s.raise p b).free = s.free := by simp [State.raise]
@[simp] theorem State.raise_pending : (s.raise p b).pending = s.pending := by simp [State.raise]
end

section
variable (c : Bool) (p b : Nat)
@[simp] theorem State.raiseIf_shadow : (s.raiseIf c p b).shadow = s.shadow := by unfold State.raiseIf; split <;> simp
@[simp] theorem State.raiseIf_staging : (s.raiseIf c p b).staging = s.staging := by unfold State.raiseIf; split <;> simp
@[simp] theorem State.raiseIf_boot : (s.raiseIf c p b).boot = s.boot := by unfold State.raiseIf; split <;> simp
@[simp] theorem State.raiseIf_isl : (s.raiseIf c p b).isl = s.isl := by unfold State.raiseIf; split <;> simp
@[simp] theorem State.raiseIf_nvm : (s.raiseIf c p b).nvm = s.nvm := by unfold State.raiseIf; split <;> simp
@[simp] theorem State.raiseIf_flt : (s.raiseIf c p b).flt = s.flt := by unfold State.raiseIf; split <;> simp
@[simp] theorem State.raiseIf_erec : (s.raiseIf c p b).erec = s.erec := by unfold State.raiseIf; split <;> simp
@[simp] theorem State.raiseIf_ax : (s.raiseIf c p b).ax = s.ax := by unfold State.raiseIf; split <;> simp
@[simp] theorem State.raiseIf_tri : (s.raiseIf c p b).tri = s.tri := by unfold State.raiseIf; split <;> simp
@[simp] theorem State.raiseIf_osc : (s.raiseIf c p b).osc = s.osc := by unfold State.raiseIf; split <;> simp
@[simp] theorem State.raiseIf_sel : (s.raiseIf c p b).sel = s.sel := by unfold State.raiseIf; split <;> simp
@[simp] theorem State.raiseIf_srv : (s.raiseIf c p b).srv = s.srv := by unfold State.raiseIf; split <;> simp
@[simp] theorem State.raiseIf_hold : (s.raiseIf c p b).hold = s.hold := by unfold State.raiseIf; split <;> simp
@[simp] theorem State.raiseIf_out : (s.raiseIf c p b).out = s.out := by unfold State.raiseIf; split <;> simp
@[simp] theorem State.raiseIf_tic : (s.raiseIf c p b).tic = s.tic := by unfold State.raiseIf; split <;> simp
@[simp] theorem State.raiseIf_gns : (s.raiseIf c p b).gns = s.gns := by unfold State.raiseIf; split <;> simp
@[simp] theorem State.raiseIf_teb : (s.raiseIf c p b).teb = s.teb := by unfold State.raiseIf; split <;> simp
@[simp] theorem State.raiseIf_pipe : (s.raiseIf c p b).pipe = s.pipe := by unfold State.raiseIf; split <;> simp
@[simp] theorem State.raiseIf_sw : (s.raiseIf c p b).sw = s.sw := by unfold State.raiseIf; split <;> simp
@[simp] theorem State.raiseIf_clt : (s.raiseIf c p b).clt = s.clt := by unfold State.raiseIf; split <;> simp
@[simp] theorem State.raiseIf_key : (s.raiseIf c p b).key = s.key := by unfold State.raiseIf; split <;> simp
@[simp] theorem State.raiseIf_gen : (s.raiseIf c p b).gen = s.gen := by unfold State.raiseIf; split <;> simp
@[simp] theorem State.raiseIf_shunt : (s.raiseIf c p b).shunt = s.shunt := by unfold State.raiseIf; split <;> simp
@[simp] theorem State.raiseIf_prove : (s.raiseIf c p b).prove = s.prove := by unfold State.raiseIf; split <;> simp
@[simp] theorem State.raiseIf_dug : (s.raiseIf c p b).dug = s.dug := by unfold State.raiseIf; split <;> simp
@[simp] theorem State.raiseIf_dma : (s.raiseIf c p b).dma = s.dma := by unfold State.raiseIf; split <;> simp
@[simp] theorem State.raiseIf_free : (s.raiseIf c p b).free = s.free := by unfold State.raiseIf; split <;> simp
@[simp] theorem State.raiseIf_pending : (s.raiseIf c p b).pending = s.pending := by unfold State.raiseIf; split <;> simp
end

section
variable (p b : Nat) (c : Bool)
@[simp] theorem State.level_shadow : (s.level p b c).shadow = s.shadow := by unfold State.level; dsimp only; split <;> simp
@[simp] theorem State.level_staging : (s.level p b c).staging = s.staging := by unfold State.level; dsimp only; split <;> simp
@[simp] theorem State.level_boot : (s.level p b c).boot = s.boot := by unfold State.level; dsimp only; split <;> simp
@[simp] theorem State.level_isl : (s.level p b c).isl = s.isl := by unfold State.level; dsimp only; split <;> simp
@[simp] theorem State.level_nvm : (s.level p b c).nvm = s.nvm := by unfold State.level; dsimp only; split <;> simp
@[simp] theorem State.level_flt : (s.level p b c).flt = s.flt := by unfold State.level; dsimp only; split <;> simp
@[simp] theorem State.level_erec : (s.level p b c).erec = s.erec := by unfold State.level; dsimp only; split <;> simp
@[simp] theorem State.level_ax : (s.level p b c).ax = s.ax := by unfold State.level; dsimp only; split <;> simp
@[simp] theorem State.level_tri : (s.level p b c).tri = s.tri := by unfold State.level; dsimp only; split <;> simp
@[simp] theorem State.level_osc : (s.level p b c).osc = s.osc := by unfold State.level; dsimp only; split <;> simp
@[simp] theorem State.level_sel : (s.level p b c).sel = s.sel := by unfold State.level; dsimp only; split <;> simp
@[simp] theorem State.level_srv : (s.level p b c).srv = s.srv := by unfold State.level; dsimp only; split <;> simp
@[simp] theorem State.level_hold : (s.level p b c).hold = s.hold := by unfold State.level; dsimp only; split <;> simp
@[simp] theorem State.level_out : (s.level p b c).out = s.out := by unfold State.level; dsimp only; split <;> simp
@[simp] theorem State.level_tic : (s.level p b c).tic = s.tic := by unfold State.level; dsimp only; split <;> simp
@[simp] theorem State.level_gns : (s.level p b c).gns = s.gns := by unfold State.level; dsimp only; split <;> simp
@[simp] theorem State.level_teb : (s.level p b c).teb = s.teb := by unfold State.level; dsimp only; split <;> simp
@[simp] theorem State.level_pipe : (s.level p b c).pipe = s.pipe := by unfold State.level; dsimp only; split <;> simp
@[simp] theorem State.level_sw : (s.level p b c).sw = s.sw := by unfold State.level; dsimp only; split <;> simp
@[simp] theorem State.level_clt : (s.level p b c).clt = s.clt := by unfold State.level; dsimp only; split <;> simp
@[simp] theorem State.level_key : (s.level p b c).key = s.key := by unfold State.level; dsimp only; split <;> simp
@[simp] theorem State.level_gen : (s.level p b c).gen = s.gen := by unfold State.level; dsimp only; split <;> simp
@[simp] theorem State.level_shunt : (s.level p b c).shunt = s.shunt := by unfold State.level; dsimp only; split <;> simp
@[simp] theorem State.level_prove : (s.level p b c).prove = s.prove := by unfold State.level; dsimp only; split <;> simp
@[simp] theorem State.level_dug : (s.level p b c).dug = s.dug := by unfold State.level; dsimp only; split <;> simp
@[simp] theorem State.level_dma : (s.level p b c).dma = s.dma := by unfold State.level; dsimp only; split <;> simp
@[simp] theorem State.level_free : (s.level p b c).free = s.free := by unfold State.level; dsimp only; split <;> simp
@[simp] theorem State.level_pending : (s.level p b c).pending = s.pending := by unfold State.level; dsimp only; split <;> simp
end


theorem State.putEvt_rd (p n a : Nat) : (s.putEvt p n).rd a = if a = R.PG_EVT p then BitVec.ofNat 36 n else s.rd a := by
  unfold State.rd; rw [State.putEvt_frame]; exact Store.read_write _ _ _ _

/-- An event changes its page's PG_EVT and no other register. -/
@[simp] theorem State.raise_rd_other (p b a : Nat) (h : a ≠ R.PG_EVT p) : (s.raise p b).rd a = s.rd a := by
  unfold State.raise; rw [State.putEvt_rd, if_neg h]

/-- An event sets its bit of PG_EVT. -/
theorem State.raise_rd_evt (p b : Nat) : (s.raise p b).rd (R.PG_EVT p) = BitVec.ofNat 36 (setBit (s.rd (R.PG_EVT p)).toNat b true) := by
  unfold State.raise; rw [State.putEvt_rd, if_pos rfl]

@[simp] theorem State.raise_get_other (p b : Nat) (f : Fld) (h : f.slot ≠ R.PG_EVT p) : (s.raise p b).get f = s.get f := by
  unfold State.get; rw [State.raise_rd_other _ _ _ _ h]

@[simp] theorem State.raiseIf_rd_other (c : Bool) (p b a : Nat) (h : a ≠ R.PG_EVT p) : (s.raiseIf c p b).rd a = s.rd a := by
  unfold State.raiseIf; split
  · exact State.raise_rd_other _ _ _ _ h
  · rfl

@[simp] theorem State.raiseIf_get_other (c : Bool) (p b : Nat) (f : Fld) (h : f.slot ≠ R.PG_EVT p) : (s.raiseIf c p b).get f = s.get f := by
  unfold State.get; rw [State.raiseIf_rd_other _ _ _ _ _ h]

/-- A level event changes PG_EVT and PG_EVT_NOW of its page and no other register. -/
@[simp] theorem State.level_rd_other (p b : Nat) (c : Bool) (a : Nat) (h : a ≠ R.PG_EVT p) (h' : a ≠ R.PG_EVT_NOW p) : (s.level p b c).rd a = s.rd a := by
  unfold State.level; dsimp only; split
  · rw [State.raise_rd_other _ _ _ _ h, State.rd_wr_other _ _ _ _ h']
  · exact State.rd_wr_other _ _ _ _ h'

@[simp] theorem State.level_get_other (p b : Nat) (c : Bool) (f : Fld) (h : f.slot ≠ R.PG_EVT p) (h' : f.slot ≠ R.PG_EVT_NOW p) :
    (s.level p b c).get f = s.get f := by
  unfold State.get; rw [State.level_rd_other _ _ _ _ _ h h']

/-- Bit `b` of a mask with bit `b` set is set. -/
theorem testBit_setBit_on (m b : Nat) : (setBit m b true).testBit b = true := by
  unfold setBit; simp [Nat.testBit_or, Nat.testBit_two_pow_self]

/-- After an event its bit of PG_EVT reads 1. -/
theorem State.raise_evtBit (p b : Nat) (h : b < 36) : bitOn ((s.raise p b).rd (R.PG_EVT p)).toNat b = true := by
  rw [State.raise_rd_evt]
  unfold bitOn
  rw [BitVec.toNat_ofNat, Nat.testBit_mod_two_pow, testBit_setBit_on]
  simp [h]

end

end Sys2Proof.Machine
end

