-- ==== Sys2Proof/Laws/Fields.lean ====
section
/-! SUPPORT.
What flags, signed fields, counters, T108 and S72 values read after they are written.
-/
namespace Sys2Proof.Machine
open Sys2Proof

variable (s : State)

/-! ## One-bit fields -/

@[simp] theorem State.setFlag_get_same (f : Fld) (b : Bool) (h : f.lo + f.w ≤ 36) (w : f.w = 1) : (s.setFlag f b).get f = if b then 1 else 0 := by
  unfold State.setFlag; rw [State.get_set_same _ _ _ h, w]; cases b <;> rfl

@[simp] theorem State.setFlag_get_other (f g : Fld) (b : Bool)
    (h : f.slot ≠ g.slot ∨ f.lo + f.w ≤ 36 ∧ (g.lo + g.w ≤ f.lo ∨ f.lo + f.w ≤ g.lo)) : (s.setFlag f b).get g = s.get g := State.get_set_other _ _ _ _ h

@[simp] theorem State.setFlag_rd_other (f : Fld) (b : Bool) (a : Nat) (h : a ≠ f.slot) : (s.setFlag f b).rd a = s.rd a := State.rd_set_other _ _ _ _ h

@[simp] theorem State.setFlag_flag_same (f : Fld) (b : Bool) (h : f.lo + f.w ≤ 36) (w : f.w = 1) : (s.setFlag f b).flag f = b := by
  unfold State.flag; rw [State.setFlag_get_same _ _ _ h w]; cases b <;> rfl

/-- A one-bit field is 0 or 1. -/
theorem State.get_bit (f : Fld) (w : f.w = 1) : s.get f = 0 ∨ s.get f = 1 := by
  have := State.get_lt s f; rw [w] at this; omega

/-! ## Signed fields -/

theorem toSigned_ofSigned (w : Nat) (z : Int) (h : -(2 ^ (w - 1) : Nat) ≤ z) (h' : z < (2 ^ (w - 1) : Nat)) (hw : 0 < w) : toSigned w (ofSigned w z) = z := by
  have p : (2 ^ w : Nat) = 2 * 2 ^ (w - 1) := by
    obtain ⟨k, rfl⟩ : ∃ k, w = k + 1 := ⟨w - 1, by omega⟩
    simp [pow_succ, mul_comm]
  unfold toSigned ofSigned
  generalize (2 ^ (w - 1) : Nat) = q at *
  rw [p]
  by_cases n : 0 ≤ z
  · rw [Int.emod_eq_of_lt n (by omega)]
    have : z.toNat % (2 * q) = z.toNat := Nat.mod_eq_of_lt (by omega)
    rw [this, if_pos (by omega)]; omega
  · have e : z % ((2 * q : Nat) : Int) = z + (2 * q : Nat) := by
      rw [← Int.add_emod_right]
      exact Int.emod_eq_of_lt (by omega) (by omega)
    rw [e]
    have : (z + (2 * q : Nat)).toNat % (2 * q) = (z + (2 * q : Nat)).toNat := Nat.mod_eq_of_lt (by omega)
    rw [this, if_neg (by omega)]; omega

theorem ofSigned_lt (w : Nat) (z : Int) : ofSigned w z < 2 ^ w := by
  unfold ofSigned
  have : (0 : Int) < (2 ^ w : Nat) := by exact_mod_cast Nat.two_pow_pos w
  have := Int.emod_lt_of_pos z this
  have := Int.emod_nonneg z (b := ((2 ^ w : Nat) : Int)) (by omega)
  omega

@[simp] theorem State.setS_get_same (f : Fld) (z : Int) (h : f.lo + f.w ≤ 36) : (s.setS f z).get f = ofSigned f.w z := by
  unfold State.setS; rw [State.get_set_same _ _ _ h, Nat.mod_eq_of_lt (ofSigned_lt _ _)]

/-- A signed field reads the number last put into it, where the field holds it. -/
theorem State.getS_setS (f : Fld) (z : Int) (h : f.lo + f.w ≤ 36) (hw : 0 < f.w) (l : -(2 ^ (f.w - 1) : Nat) ≤ z) (u : z < (2 ^ (f.w - 1) : Nat)) :
    (s.setS f z).getS f = z := by
  unfold State.getS; rw [State.setS_get_same _ _ _ h, toSigned_ofSigned _ _ l u hw]

@[simp] theorem State.setS_get_other (f g : Fld) (z : Int)
    (h : f.slot ≠ g.slot ∨ f.lo + f.w ≤ 36 ∧ (g.lo + g.w ≤ f.lo ∨ f.lo + f.w ≤ g.lo)) : (s.setS f z).get g = s.get g := State.get_set_other _ _ _ _ h

@[simp] theorem State.setS_rd_other (f : Fld) (z : Int) (a : Nat) (h : a ≠ f.slot) : (s.setS f z).rd a = s.rd a := State.rd_set_other _ _ _ _ h

/-! ## Counters -/

/-- A counter moves up and stays at the top of its field (R93). -/
@[simp] theorem State.bumpBy_get_same (f : Fld) (n : Nat) (h : f.lo + f.w ≤ 36) : (s.bumpBy f n).get f = min (s.get f + n) (2 ^ f.w - 1) := by
  unfold State.bumpBy
  rw [State.get_set_same _ _ _ h, Nat.mod_eq_of_lt]
  have := Nat.two_pow_pos f.w; omega

@[simp] theorem State.bump_get_same (f : Fld) (h : f.lo + f.w ≤ 36) : (s.bump f).get f = min (s.get f + 1) (2 ^ f.w - 1) := State.bumpBy_get_same _ _ _ h

@[simp] theorem State.bumpBy_get_other (f g : Fld) (n : Nat)
    (h : f.slot ≠ g.slot ∨ f.lo + f.w ≤ 36 ∧ (g.lo + g.w ≤ f.lo ∨ f.lo + f.w ≤ g.lo)) : (s.bumpBy f n).get g = s.get g := State.get_set_other _ _ _ _ h

@[simp] theorem State.bump_get_other (f g : Fld)
    (h : f.slot ≠ g.slot ∨ f.lo + f.w ≤ 36 ∧ (g.lo + g.w ≤ f.lo ∨ f.lo + f.w ≤ g.lo)) : (s.bump f).get g = s.get g := State.get_set_other _ _ _ _ h

@[simp] theorem State.bumpBy_rd_other (f : Fld) (n a : Nat) (h : a ≠ f.slot) : (s.bumpBy f n).rd a = s.rd a := State.rd_set_other _ _ _ _ h

@[simp] theorem State.bump_rd_other (f : Fld) (a : Nat) (h : a ≠ f.slot) : (s.bump f).rd a = s.rd a := State.rd_set_other _ _ _ _ h

/-! ## T108 and S72 values (R2 to R4) -/

@[simp] theorem State.wrT_rd_other (a v b : Nat) (h : b < a ∨ a + 2 < b) : (s.wrT a v).rd b = s.rd b := by
  unfold State.wrT
  rw [State.rd_wr_other _ _ _ _ (by omega), State.rd_wr_other _ _ _ _ (by omega), State.rd_wr_other _ _ _ _ (by omega)]

@[simp] theorem State.wrS_rd_other (a : Nat) (z : Int) (b : Nat) (h : b < a ∨ a + 1 < b) : (s.wrS a z).rd b = s.rd b := by
  unfold State.wrS
  rw [State.rd_wr_other _ _ _ _ (by omega), State.rd_wr_other _ _ _ _ (by omega)]

@[simp] theorem State.wrT_get_other (a v : Nat) (f : Fld) (h : f.slot < a ∨ a + 2 < f.slot) : (s.wrT a v).get f = s.get f := by
  unfold State.get; rw [State.wrT_rd_other _ _ _ _ h]

@[simp] theorem State.wrS_get_other (a : Nat) (z : Int) (f : Fld) (h : f.slot < a ∨ a + 1 < f.slot) : (s.wrS a z).get f = s.get f := by
  unfold State.get; rw [State.wrS_rd_other _ _ _ _ h]

/-- A T108 register reads the value last written to it. -/
@[simp] theorem State.wrT_rdT_same (a v : Nat) : (s.wrT a v).rdT a = v % 2 ^ 108 := by
  unfold State.wrT State.rdT
  rw [State.rd_wr_other _ _ _ _ (by omega), State.rd_wr_other _ _ _ _ (by omega), State.rd_wr_same, State.rd_wr_other _ _ _ _ (by omega), State.rd_wr_same,
    State.rd_wr_same]
  simp only [BitVec.toNat_ofNat]
  omega

/-- An S72 register reads the number last written to it, where 72 bits hold it. -/
theorem State.wrS_rdS_same (a : Nat) (z : Int) (l : -(2 ^ 71 : Nat) ≤ z) (u : z < (2 ^ 71 : Nat)) : (s.wrS a z).rdS a = z := by
  unfold State.wrS State.rdS
  rw [State.rd_wr_other _ _ _ _ (by omega), State.rd_wr_same, State.rd_wr_same]
  simp only [BitVec.toNat_ofNat]
  have := ofSigned_lt 72 z
  have e : (ofSigned 72 z / 2 ^ 36) % 2 ^ 36 * 2 ^ 36 + ofSigned 72 z % 2 ^ 36 = ofSigned 72 z := by omega
  rw [e]
  exact toSigned_ofSigned 72 z l u (by omega)

end Sys2Proof.Machine
end

