-- ==== Sys2Proof/Laws/Ops.lean ====
section
/-! SUPPORT.
What the shared operations do, said once each: masks, access forms, unit numbers, and the maps of parts.
-/
namespace Sys2Proof.Machine
open Sys2Proof

/-! ## Registers of a state put together from parts -/

section
variable (u : State) (x1 : Store) (x2 : Store) (x3 : BootPart) (x4 : IslandPart) (x5 : NvmPart) (x6 : FaultPart) (x7 : HostPart) (x8 : RecPart) (x9 : AxlePart) (x10 : TriadPart) (x11 : OscPart) (x12 : SelPart) (x13 : SrvPart) (x14 : HoldPart) (x15 : CoresPart) (x16 : OutPart) (x17 : TicPart) (x18 : GnsPart) (x19 : TebPart) (x20 : PipePart) (x21 : SwPart) (x22 : CltPart) (x23 : KeyPart) (x24 : GenPart) (x25 : ShuntPart) (x26 : ProvePart) (x27 : DugPart) (x28 : DmaPart) (x29 : List Out) (x30 : Nat) (x31 : List Instr)
@[simp] theorem State.mk_rd (k : Nat) : (State.mk u.regs x1 x2 x3 x4 x5 x6 x7 x8 x9 x10 x11 x12 x13 x14 x15 x16 x17 x18 x19 x20 x21 x22 x23 x24 x25 x26 x27 x28 x29 x30 x31).rd k = u.rd k := rfl
@[simp] theorem State.mk_get (f : Fld) : (State.mk u.regs x1 x2 x3 x4 x5 x6 x7 x8 x9 x10 x11 x12 x13 x14 x15 x16 x17 x18 x19 x20 x21 x22 x23 x24 x25 x26 x27 x28 x29 x30 x31).get f = u.get f := rfl
@[simp] theorem State.mk_getS (f : Fld) : (State.mk u.regs x1 x2 x3 x4 x5 x6 x7 x8 x9 x10 x11 x12 x13 x14 x15 x16 x17 x18 x19 x20 x21 x22 x23 x24 x25 x26 x27 x28 x29 x30 x31).getS f = u.getS f := rfl
@[simp] theorem State.mk_flag (f : Fld) : (State.mk u.regs x1 x2 x3 x4 x5 x6 x7 x8 x9 x10 x11 x12 x13 x14 x15 x16 x17 x18 x19 x20 x21 x22 x23 x24 x25 x26 x27 x28 x29 x30 x31).flag f = u.flag f := rfl
end

@[simp] theorem State.mk_up (u : State) (x0 : Store) (x1 : Store) (x2 : Store) (x3 : BootPart) (x5 : NvmPart) (x6 : FaultPart) (x7 : HostPart) (x8 : RecPart) (x9 : AxlePart) (x10 : TriadPart) (x11 : OscPart) (x12 : SelPart) (x13 : SrvPart) (x14 : HoldPart) (x15 : CoresPart) (x16 : OutPart) (x17 : TicPart) (x18 : GnsPart) (x19 : TebPart) (x20 : PipePart) (x21 : SwPart) (x22 : CltPart) (x23 : KeyPart) (x24 : GenPart) (x25 : ShuntPart) (x26 : ProvePart) (x27 : DugPart) (x28 : DmaPart) (x29 : List Out) (x30 : Nat) (x31 : List Instr) (i : Nat) : (State.mk x0 x1 x2 x3 u.isl x5 x6 x7 x8 x9 x10 x11 x12 x13 x14 x15 x16 x17 x18 x19 x20 x21 x22 x23 x24 x25 x26 x27 x28 x29 x30 x31).up i = u.up i := rfl

/-! ## Masks -/

/-- Taking a mask's common bits out of a number clears exactly them. -/
theorem testBit_sub_and (a b i : Nat) : (a - (a &&& b)).testBit i = (a.testBit i && !b.testBit i) := by
  have key : ∀ a b : Nat, (a &&& b) ≤ a ∧ (a &&& b) / 2 = (a / 2 &&& b / 2) ∧ (a &&& b) % 2 = (a % 2) * (b % 2) := by
    intro a b
    refine ⟨Nat.and_le_left, by simpa using Nat.and_div_two_pow (a := a) (b := b) (n := 1), ?_⟩
    have h2 : (a &&& b) % 2 ^ 1 = (a % 2 ^ 1) &&& (b % 2 ^ 1) := Nat.and_mod_two_pow
    rw [pow_one] at h2
    rw [h2]
    rcases Nat.mod_two_eq_zero_or_one a with ha | ha <;> rcases Nat.mod_two_eq_zero_or_one b with hb | hb <;> rw [ha, hb] <;> rfl
  induction i generalizing a b with
  | zero =>
    obtain ⟨h, -, h2⟩ := key a b
    simp only [Nat.testBit_zero]
    rcases Nat.mod_two_eq_zero_or_one a with ha | ha <;> rcases Nat.mod_two_eq_zero_or_one b with hb | hb <;> rw [ha, hb] at h2 <;>
      simp [ha, hb] <;> omega
  | succ n ih =>
    obtain ⟨h, h1, h2⟩ := key a b
    rw [Nat.testBit_succ, Nat.testBit_succ, Nat.testBit_succ, ← ih, ← h1]
    congr 1
    rcases Nat.mod_two_eq_zero_or_one a with ha | ha <;> rcases Nat.mod_two_eq_zero_or_one b with hb | hb <;> rw [ha, hb] at h2 <;> omega

/-- A mask with one bit set or cleared. -/
theorem testBit_setBit (m b i : Nat) (v : Bool) : (setBit m b v).testBit i = if i = b then v else m.testBit i := by
  have two : (2 ^ b).testBit i = decide (b = i) := Nat.testBit_two_pow
  unfold setBit
  cases v with
  | true =>
    simp only [if_true, Nat.testBit_or, two]
    by_cases h : i = b
    · simp [h]
    · simp [h, show b ≠ i from fun e => h e.symm]
  | false =>
    simp only [Bool.false_eq_true, if_false]
    by_cases hb : m.testBit b = true
    · have e : m - 2 ^ b = m - (m &&& 2 ^ b) := by rw [Nat.and_two_pow, hb]; simp
      rw [if_pos hb, e, testBit_sub_and, two]
      by_cases h : i = b
      · simp [h]
      · have : b ≠ i := fun x => h x.symm
        simp [h, this]
    · rw [if_neg hb]
      by_cases h : i = b
      · subst h; simpa using hb
      · simp [h]

@[simp] theorem bitOn_setBit_same (m b : Nat) (v : Bool) : bitOn (setBit m b v) b = v := by simp [bitOn, testBit_setBit]

theorem bitOn_setBit_other (m b i : Nat) (v : Bool) (h : i ≠ b) : bitOn (setBit m b v) i = bitOn m i := by simp [bitOn, testBit_setBit, h]

/-! ## Access forms -/

/-- A write that reaches its register has its effect. -/
theorem hostWrite_open {s : State} {m : Master} {slot : Nat} {k : State → State} (h : Open s m slot) : s.hostWrite m slot k = k s := by
  obtain ⟨h1, h2, h3⟩ := h
  unfold State.hostWrite
  rcases h3 with h3 | h3 <;> simp [h1, h2, h3]

/-- An accepted command has its effect. -/
theorem hostCmd_accepts {s : State} {m : Master} {f : Fld} {k : State → State} (h : Accepts s m f) : s.hostCmd m f k = k s := by
  unfold State.hostCmd
  rw [hostWrite_open h.1, if_neg h.2]

/-- A command whose unit exists answers its next state. -/
theorem withUnit_next {u l : Nat} {t : State} (h : u < l) : withUnit u l t = .next t := if_pos h

/-- An event shows after it has been raised. -/
theorem event_raise (s : State) (p b : Nat) (h : b < 36) : Event (s.raise p b) p b := State.raise_evtBit s p b h

/-! ## Islands -/

theorem State.up_congr {s t : State} (h : t.isl = s.isl) (i : Nat) : t.up i = s.up i := by unfold State.up; rw [h]

/-- A fold whose every round leaves the islands alone leaves them alone. -/
theorem foldl_isl {α : Type} (f : State → α → State) (h : ∀ t a, (f t a).isl = t.isl) (l : List α) (s : State) : (l.foldl f s).isl = s.isl := by
  induction l generalizing s with
  | nil => rfl
  | cons a l ih => rw [List.foldl_cons, ih, h]

/-- The cage inputs of a coach show without a change of the islands. -/
theorem cagePins_isl (s : State) (c : Nat) : (s.cagePins c).isl = s.isl := by
  unfold State.cagePins
  refine foldl_isl _ (fun t i => ?_) _ _
  dsimp only
  split <;> simp

/-- Releasing islands takes exactly those of the mask out of reset. -/
theorem releaseIslands_up (s : State) (mask i : Nat) : (s.releaseIslands mask).up i = (s.up i || bitOn mask i) := by
  unfold State.releaseIslands State.up
  rw [foldl_isl (fun (t : State) c => if bitOn mask (8 + c) then t.cagePins c else t) (fun t c => by split <;> simp [cagePins_isl]) _ _,
    foldl_isl (fun (t : State) i => t.putCtr i t.ax.v) (fun t i => rfl) _ _]
  simp only [bitOn, testBit_sub_and]
  cases s.isl.inReset.testBit i <;> cases mask.testBit i <;> rfl

/-! ## Maps of parts -/

theorem kvGetD_kvPut_same {α : Type} (m : List (Nat × α)) (k : Nat) (v d : α) : kvGetD (kvPut m k v) k d = v := by simp [kvGetD]

theorem kvGetD_kvPut_other {α : Type} (m : List (Nat × α)) (k j : Nat) (v d : α) (h : j ≠ k) : kvGetD (kvPut m k v) j d = kvGetD m j d := by
  simp [kvGetD, kvGet_kvPut_other _ _ _ _ h]

end Sys2Proof.Machine
end

