-- ==== Sys2Proof/Laws/Boot.lean ====
section
/-! SUPPORT.
What the steps of the staged start do, said once each.
-/
namespace Sys2Proof.Machine
open Sys2Proof

/-! ## A new position of the sequence -/

section
variable (s : State) (p : StartPos)
@[simp] theorem State.goto_rd (a : Nat) : (s.goto p).rd a = s.rd a := rfl
@[simp] theorem State.goto_get (f : Fld) : (s.goto p).get f = s.get f := rfl
@[simp] theorem State.goto_flag (f : Fld) : (s.goto p).flag f = s.flag f := rfl
@[simp] theorem State.goto_up (i : Nat) : (s.goto p).up i = s.up i := rfl
@[simp] theorem State.goto_pos : (s.goto p).boot.pos = p := rfl
@[simp] theorem State.goto_tap : (s.goto p).boot.tap = s.boot.tap := rfl
@[simp] theorem State.goto_isl : (s.goto p).isl = s.isl := rfl
@[simp] theorem State.goto_nvm : (s.goto p).nvm = s.nvm := rfl
@[simp] theorem State.goto_ax : (s.goto p).ax = s.ax := rfl
@[simp] theorem State.goto_key : (s.goto p).key = s.key := rfl
@[simp] theorem State.goto_flt : (s.goto p).flt = s.flt := rfl
end

/-! ## Holds and the choice of a bank -/

/-- Behind a boundary-scan hold HOLD_WHY shows 2, without one it shows 0. -/
theorem jtagHold_chosen (s : State) (h : s.boot.pos = .chosen) : s.jtagHold = s.set R.BOOT_STAGE_HOLD_WHY (if s.tapInForce then 2 else 0) := by
  unfold State.jtagHold; simp [h]

/-- The choice of a bank follows four registers only. -/
theorem chooseBank_congr {s t : State} (h : t.rd R.BOOT_IMG_STAT = s.rd R.BOOT_IMG_STAT) (ha : t.rd R.BOOT_IMG_SEQ_A = s.rd R.BOOT_IMG_SEQ_A)
    (hb : t.rd R.BOOT_IMG_SEQ_B = s.rd R.BOOT_IMG_SEQ_B) (hc : t.rd R.BOOT_CTRL = s.rd R.BOOT_CTRL) : t.chooseBank = s.chooseBank := by
  unfold State.chooseBank State.flag State.get
  rw [h, ha, hb, hc]

/-- Loading a bank changes registers only, and the messages that its event sends. -/
@[simp] theorem loadBank_boot (s : State) : s.loadBank.boot = s.boot := by
  unfold State.loadBank State.raiseIf; dsimp only; split <;> simp [State.setFlag]

/-- A bank is 1 or 2, and 0 stands for none. -/
theorem chooseBank_le (s : State) : s.chooseBank.1 ≤ 2 := by
  unfold State.chooseBank
  dsimp only
  repeat' split
  all_goals simp

end Sys2Proof.Machine
end

