-- ==== Sys2Proof/Laws/Gen.lean ====
section
/-! SUPPORT.
What a commit of shadowed values leaves in the register store (R97).
-/
namespace Sys2Proof.Machine
open Sys2Proof

/-- Slots that a store does not list read their reset word. -/
theorem Store.read_unlisted (m : Store) (a : Nat) (h : a ∉ m.map Prod.fst) : m.read a = regReset a := by
  unfold Store.read
  have : kvGet m a = none := by
    induction m with
    | nil => rfl
    | cons e t ih =>
      simp only [List.map_cons, List.mem_cons, not_or] at h
      obtain ⟨j, w⟩ := e
      simp only [kvGet]
      rw [if_neg (fun x => h.1 x.symm)]
      exact ih h.2
  rw [this]

/-- The word that a commit leaves: the shadowed bits from `src`, the others as before. -/
theorem mergeRws_read (regs src : Store) (p : Nat → Bool) (a : Nat) :
    (mergeRws regs src p).read a =
      if p (a / 512) then (regs.read a &&& ~~~(BitVec.ofNat 36 (rwsMask a))) ||| (src.read a &&& BitVec.ofNat 36 (rwsMask a)) else regs.read a := by
  have zero : ∀ x y : Word, (x &&& ~~~(BitVec.ofNat 36 0)) ||| (y &&& BitVec.ofNat 36 0) = x := by
    intro x y
    have e : (BitVec.ofNat 36 0 : Word) = 0#36 := rfl
    ext i hi
    rw [e]
    simp only [BitVec.getElem_or, BitVec.getElem_and, BitVec.getElem_not, BitVec.getElem_zero]
    simp
  have same : ∀ x k : Word, (x &&& ~~~k) ||| (x &&& k) = x := by
    intro x k
    ext i hi
    simp only [BitVec.getElem_or, BitVec.getElem_and, BitVec.getElem_not]
    cases x[i] <;> cases k[i] <;> rfl
  have key : ∀ (l : List (Nat × Word)) (m : Store),
      (l.foldl (fun (m : Store) (e : Nat × Word) =>
        if rwsMask e.1 = 0 || !p (e.1 / 512) then m
        else m.write e.1 ((regs.read e.1 &&& ~~~(BitVec.ofNat 36 (rwsMask e.1))) ||| (src.read e.1 &&& BitVec.ofNat 36 (rwsMask e.1)))) m).read a =
      if a ∈ l.map Prod.fst ∧ rwsMask a ≠ 0 ∧ p (a / 512) = true then
        (regs.read a &&& ~~~(BitVec.ofNat 36 (rwsMask a))) ||| (src.read a &&& BitVec.ofNat 36 (rwsMask a)) else m.read a := by
    intro l
    induction l with
    | nil => intro m; simp
    | cons e t ih =>
      intro m
      rw [List.foldl_cons, ih]
      simp only [List.map_cons, List.mem_cons]
      by_cases he : a = e.1
      · rw [← he]
        by_cases hk : rwsMask a ≠ 0 ∧ p (a / 512) = true
        · have c : ¬((decide (rwsMask a = 0) || !p (a / 512)) = true) := by simp [hk.1, hk.2]
          rw [if_neg c, Store.read_write, if_pos rfl, ite_self, if_pos ⟨Or.inl rfl, hk⟩]
        · have c : (decide (rwsMask a = 0) || !p (a / 512)) = true := by
            by_cases z : rwsMask a = 0
            · simp [z]
            · cases w : p (a / 512) with
              | true => exact absurd ⟨z, w⟩ hk
              | false => simp
          rw [if_pos c, if_neg (fun h => hk h.2), if_neg (fun h => hk h.2)]
      · have r : ∀ v : Word, (m.write e.1 v).read a = m.read a := by intro v; rw [Store.read_write, if_neg he]
        have r' : ∀ (q : Prop) [Decidable q] (v : Word), (if q then m else m.write e.1 v).read a = m.read a := by
          intro q _ v; split
          · rfl
          · exact r v
        rw [r']
        simp only [he, false_or]
  unfold mergeRws
  rw [key]
  by_cases hp : p (a / 512) = true
  · rw [if_pos hp]
    by_cases hk : rwsMask a = 0
    · rw [if_neg (fun h => h.2.1 hk), hk, zero]
    · by_cases hl : a ∈ (src ++ regs).map Prod.fst
      · rw [if_pos ⟨hl, hk, hp⟩]
      · rw [if_neg (fun h => hl h.1)]
        simp only [List.map_append, List.mem_append, not_or] at hl
        rw [Store.read_unlisted _ _ hl.1, Store.read_unlisted _ _ hl.2, same]
  · rw [if_neg hp, if_neg (fun h => hp h.2.2)]

/-- A slot without shadowed bits, or on a page that takes no part, keeps its word. -/
theorem mergeRws_read_other (regs src : Store) (p : Nat → Bool) (a : Nat) (h : rwsMask a = 0 ∨ p (a / 512) = false) : (mergeRws regs src p).read a = regs.read a := by
  rw [mergeRws_read]
  rcases h with h | h
  · rw [h]
    split
    · have e : (BitVec.ofNat 36 0 : Word) = 0#36 := rfl
      ext i hi
      rw [e]
      simp only [BitVec.getElem_or, BitVec.getElem_and, BitVec.getElem_not, BitVec.getElem_zero]
      simp
    · rfl
  · rw [h]; rfl

/-- A commit keeps the store canonical. -/
theorem mergeRws_wf (regs src : Store) (p : Nat → Bool) (h : regs.wf = true) : (mergeRws regs src p).wf = true := by
  have key : ∀ (l : List (Nat × Word)) (m : Store), m.wf = true →
      Store.wf (l.foldl (fun (m : Store) (e : Nat × Word) =>
        if rwsMask e.1 = 0 || !p (e.1 / 512) then m
        else m.write e.1 ((regs.read e.1 &&& ~~~(BitVec.ofNat 36 (rwsMask e.1))) ||| (src.read e.1 &&& BitVec.ofNat 36 (rwsMask e.1)))) m) = true := by
    intro l
    induction l with
    | nil => intro m hm; exact hm
    | cons e t ih =>
      intro m hm
      rw [List.foldl_cons]
      apply ih
      split
      · exact hm
      · exact Store.wf_write _ _ _ hm
  exact key _ _ h

end Sys2Proof.Machine
end

