-- ==== Sys2Proof/Laws/Resets.lean ====
section
/-! SUPPORT.
What an island reset does, said once: which islands are in reset after it.
-/
namespace Sys2Proof.Machine
open Sys2Proof

/-- A fold of steps that keep an observation keeps it. -/
theorem foldl_keep {α β : Type} (f : State → α → State) (g : State → β) (h : ∀ t x, g (f t x) = g t) (l : List α) (s : State) : g (l.foldl f s) = g s := by
  induction l generalizing s with
  | nil => rfl
  | cons a l ih => rw [List.foldl_cons, ih, h]

theorem unpin_isl (s : State) (c : Nat) (k : Carriage) : (s.unpin c k).isl = s.isl := by
  unfold State.unpin
  repeat' (first | split | dsimp only)
  all_goals rfl

theorem abortInput_isl (s : State) (c : Nat) : (s.abortInput c).isl = s.isl := by
  unfold State.abortInput
  refine (rfl : _ = _).trans (foldl_keep State.abortFrame State.isl (fun t f => ?_) _ _)
  unfold State.abortFrame
  dsimp only
  split <;> rfl

theorem resetCoach_isl (s : State) (c : Nat) : (s.resetCoach c).isl = s.isl := by
  unfold State.resetCoach
  exact (foldl_keep (fun (t : State) k => t.unpin c k) State.isl (fun t k => unpin_isl t c k) _ _).trans (abortInput_isl s c)

theorem resetPart_inReset (s : State) (i : Nat) : (s.resetPart i).isl.inReset = s.isl.inReset := by
  unfold State.resetPart
  repeat' split
  all_goals first
    | rfl
    | rw [resetCoach_isl]
    | exact congrArg IslandPart.inReset (State.lineOn_isl _ _ _)
    | (unfold State.showCore; dsimp only; split <;> rfl)

theorem showFences_isl (s : State) : s.showFences.isl = s.isl := by
  unfold State.showFences
  dsimp only
  split <;> simp

theorem healIsland_inReset (s : State) (i : Nat) : (s.healIsland i).isl.inReset = s.isl.inReset := by
  have key : ∀ (l : List Link) (t : State), (l.foldl (fun (t : State) (l : Link) => t.lineOff 30 (1 + linkKey l)) t).isl = t.isl := by
    intro l t; exact foldl_keep (fun (t : State) (l : Link) => t.lineOff 30 (1 + linkKey l)) State.isl (fun _ _ => rfl) l t
  unfold State.healIsland State.healLinks State.showBroken
  simp only [State.set_isl, key]

/-- After the reset of the islands of a mask exactly they are in reset beside those that were. -/
theorem resetIslands_inReset (s : State) (mask : Nat) : (s.resetIslands mask).isl.inReset = s.isl.inReset ||| mask := by
  unfold State.resetIslands
  extract_lets l p units lanes fenced a _ _ _ b c d e f
  show (l.foldl State.healIsland f).isl.inReset = _
  rw [foldl_keep State.healIsland (fun t => t.isl.inReset) healIsland_inReset l f]
  have hf : f.isl = e.isl := by
    show (if fenced ≠ 0 ∨ bitOn mask islMGT then e.showFences else e).isl = e.isl
    split
    · exact showFences_isl e
    · rfl
  rw [hf]
  show (a.isl.inReset ||| mask) = _
  rw [foldl_keep State.resetPart (fun t => t.isl.inReset) resetPart_inReset l s]

theorem resetRecorder_isl (s : State) (mask : Nat) : (s.resetRecorder mask).isl = s.isl := by
  unfold State.resetRecorder
  exact foldl_keep _ State.isl (fun t x => by unfold State.holdTrigger; dsimp only; split <;> rfl) _ _

theorem resetAll_inReset (s : State) (mask : Nat) : (s.resetAll mask).isl.inReset = s.isl.inReset ||| mask := by
  unfold State.resetAll
  split
  · rw [resetRecorder_isl, resetIslands_inReset]
  · exact resetIslands_inReset s mask

/-- After the reset of the islands of a mask an island runs exactly if it ran and is not in the mask. -/
theorem resetAll_up (s : State) (mask i : Nat) : (s.resetAll mask).up i = (s.up i && !bitOn mask i) := by
  unfold State.up
  rw [resetAll_inReset]
  unfold bitOn
  rw [Nat.testBit_or]
  cases s.isl.inReset.testBit i <;> cases mask.testBit i <;> rfl

/-- Slots put back one by one read as they did in `s`; the others read as before. -/
theorem foldl_wr_rd (s : State) (l : List Nat) (t : State) (b : Nat) :
    (l.foldl (fun (u : State) a => u.wr a (s.rd a)) t).rd b = if b ∈ l then s.rd b else t.rd b := by
  induction l generalizing t with
  | nil => rfl
  | cons a l ih =>
    rw [List.foldl_cons, ih, State.rd_wr]
    by_cases h : b ∈ l
    · simp [h]
    · by_cases e : b = a
      · subst e; simp
      · simp [h, e]

/-- The registers of AO that a RESET_N reset keeps read as before (R62). -/
theorem aoReset_rd_kept (s : State) (b : Nat) (h : b ∈ aoKept) : s.aoReset.rd b = s.rd b := by
  have evt : ∀ (l : List Nat) (t : State), (l.foldl (fun (u : State) p => (u.wr (R.PG_EVT_NOW p) (s.rd (R.PG_EVT_NOW p))).wr (R.PG_EVT p) (s.rd (R.PG_EVT_NOW p))) t).rd b = t.rd b := by
    have n4 : b % 512 ≠ 4 ∧ b % 512 ≠ 6 := by
      have : aoKept.all (fun a => decide (a % 512 ≠ 4 ∧ a % 512 ≠ 6)) = true := by decide +kernel
      have w := List.all_eq_true.1 this b h
      simpa using w
    intro l t
    refine foldl_keep _ (fun u => u.rd b) (fun u p => ?_) l t
    have e4 : R.PG_EVT p % 512 = 4 := Nat.mul_add_mod_of_lt (by decide)
    have e6 : R.PG_EVT_NOW p % 512 = 6 := Nat.mul_add_mod_of_lt (by decide)
    have h4 : b ≠ R.PG_EVT p := fun x => n4.1 (x ▸ e4)
    have h6 : b ≠ R.PG_EVT_NOW p := fun x => n4.2 (x ▸ e6)
    rw [State.rd_wr_other _ _ _ _ h4, State.rd_wr_other _ _ _ _ h6]
  unfold State.aoReset
  dsimp only
  rw [evt, foldl_wr_rd, if_pos h]

end Sys2Proof.Machine
end

