-- ==== Sys2Proof/Laws/Dma.lean ====
section
/-! SUPPORT.
What stopping rings does, said once (R477).
-/
namespace Sys2Proof.Machine
open Sys2Proof

theorem emptyRing_regs (s : State) (q : Nat) (b : Bool) : (s.emptyRing q b).regs = s.regs := by
  have d : ∀ (t : State) (x : RingState), (t.putDma q x).regs = t.regs := fun _ _ => rfl
  unfold State.emptyRing
  dsimp only
  rw [d]
  refine (foldl_keep _ State.regs (fun t p => ?_) _ _).trans rfl
  split
  · rfl
  · rfl

/-- A ring that is stopped is disabled, and no ring is enabled by it. -/
theorem stopRing_ringOn (s : State) (q k : Nat) (hq : q < 8) (hk : k < 8) : (s.stopRing q).ringOn k = (s.ringOn k && decide (k ≠ q)) := by
  unfold State.stopRing
  split
  · rename_i h
    unfold State.ringOn State.flag
    rw [State.get_congr (emptyRing_regs _ _ _)]
    unfold State.putRun
    dsimp only
    rw [State.get_set_other _ _ _ _ (Or.inl (by show R.DMA_STATUS ≠ R.DMA_CFG k; unfold R.DMA_CFG R.DMA_STATUS; omega))]
    by_cases e : k = q
    · subst e
      rw [State.setFlag_get_same _ _ _ (by show 0 + 1 ≤ 36; decide) rfl]
      simp
    · rw [State.setFlag_get_other _ _ _ _ (Or.inl (by show R.DMA_CFG q ≠ R.DMA_CFG k; unfold R.DMA_CFG; omega))]
      simp [e]
  · rename_i h
    by_cases e : k = q
    · subst e; simpa using h
    · simp [e]

/-- Rings that satisfy `p` are disabled, the others as before. -/
theorem stopRings_ringOn (s : State) (p : Nat → Bool) (k : Nat) (hk : k < 8) : (s.stopRings p).ringOn k = (s.ringOn k && !p k) := by
  have key : ∀ (l : List Nat) (t : State), (∀ q ∈ l, q < 8) →
      (l.foldl (fun (t : State) q => if p q then t.stopRing q else t) t).ringOn k = (t.ringOn k && !(decide (k ∈ l) && p k)) := by
    intro l
    induction l with
    | nil => intro t _; simp
    | cons a l ih =>
      intro t h
      rw [List.foldl_cons, ih _ (fun q hq => h q (List.mem_cons_of_mem _ hq))]
      by_cases pa : p a = true
      · rw [if_pos pa, stopRing_ringOn _ _ _ (h a (List.mem_cons_self ..)) hk]
        by_cases e : k = a
        · subst e; simp [pa]
        · simp [e]
      · rw [if_neg pa]
        by_cases e : k = a
        · subst e; simp [Bool.eq_false_iff.2 pa]
        · simp [e]
  unfold State.stopRings
  rw [key _ _ (by intro q hq; simpa using hq)]
  simp [hk]

end Sys2Proof.Machine
end

