-- ==== Sys2Proof/Laws/Nvm.lean ====
section
/-! SUPPORT.
What the nonvolatile memory's controller does, said once: which areas a write leaves alone, and what it leaves in its own.
-/
namespace Sys2Proof.Machine
open Sys2Proof

/-! ## Areas -/

@[simp] theorem ringOf_putRing_same (s : State) (a : NvArea) (r : NvRing) : (s.putRing a r).ringOf a = r := by cases a <;> rfl

theorem putRing_nvm (s : State) (a : NvArea) (r : NvRing) : (s.putRing a r).nvm = match a with
    | .journal => { s.nvm with journal := r } | .keyStore => { s.nvm with keyStore := r } | .lifeCycle => { s.nvm with lifeCycle := r }
    | .startSave => { s.nvm with startSave := r } | .holdover => { s.nvm with holdover := r } := by
  cases a <;> rfl

theorem ringOf_putRing_other (s : State) (a b : NvArea) (r : NvRing) (h : b ≠ a) : (s.putRing a r).ringOf b = s.ringOf b := by
  unfold State.ringOf
  rw [putRing_nvm]
  generalize s.nvm = n
  cases a <;> cases b <;> first | exact absurd rfl h | rfl

theorem ringOf_congr {s t : State} (h : t.nvm = s.nvm) (a : NvArea) : t.ringOf a = s.ringOf a := by unfold State.ringOf; rw [h]

theorem showWear_nvm (s : State) : s.showWear.nvm = s.nvm := by
  unfold State.showWear State.setFlag
  extract_lets top t on
  rw [State.level_nvm, State.set_nvm]
  clear_value on
  show t.nvm = s.nvm
  exact (State.set_nvm _ _ _).trans (State.set_nvm _ _ _)

/-- An erase counts in the wear table and in NVM.ERASES, and leaves every area's records. -/
theorem wearErase_wear (s : State) (k : Nat) : (s.wearErase k).nvm = { s.nvm with wear := kvPut s.nvm.wear k (kvGetD s.nvm.wear k 0 + 1) } := by
  unfold State.wearErase; rw [showWear_nvm]; simp

theorem ringOf_wearErase (s : State) (k : Nat) (a : NvArea) : (s.wearErase k).ringOf a = s.ringOf a := by
  unfold State.ringOf; rw [wearErase_wear]

theorem ringOf_eraseAreaSector_other (s : State) (a b : NvArea) (k : Nat) (h : b ≠ a) : (s.eraseAreaSector a k).ringOf b = s.ringOf b := by
  unfold State.eraseAreaSector; rw [ringOf_wearErase, ringOf_putRing_other _ _ _ _ h]

theorem ringOf_roomFor_other (s : State) (a b : NvArea) (n : Nat) (h : b ≠ a) : (s.roomFor a n).ringOf b = s.ringOf b := by
  unfold State.roomFor
  extract_lets r k k' t
  split
  · rfl
  · rw [ringOf_putRing_other _ _ _ _ h]
    show (if _ then _ else _ : State).ringOf b = _
    split
    · exact ringOf_eraseAreaSector_other _ _ _ _ h
    · rfl

/-! ## Records -/

theorem ringOf_putRec_other (s : State) (a b : NvArea) (ty : Nat) (p : List Word) (st : RecState) (n : Nat) (h : b ≠ a) : (s.putRec a ty p st n).ringOf b = s.ringOf b := by
  unfold State.putRec
  dsimp only
  rw [ringOf_putRing_other _ _ _ _ h, ringOf_roomFor_other _ _ _ _ h]

/-- A record put down is the last of its area, with its type, payload and state. -/
theorem putRec_last (s : State) (a : NvArea) (ty : Nat) (p : List Word) (st : RecState) (n : Nat) :
    ∃ x l, ((s.putRec a ty p st n).ringOf a).recs = l ++ [x] ∧ x.type = ty ∧ x.payload = p ∧ x.state = st := by
  unfold State.putRec
  dsimp only
  rw [ringOf_putRing_same]
  exact ⟨_, _, rfl, rfl, rfl, rfl⟩

theorem raise_ringOf (s : State) (q b : Nat) (a : NvArea) : (s.raise q b).ringOf a = s.ringOf a := ringOf_congr (State.raise_nvm _ _ _) a
theorem bump_ringOf (s : State) (f : Fld) (a : NvArea) : (s.bump f).ringOf a = s.ringOf a := ringOf_congr (State.bump_nvm _ _) a
theorem pulse_ringOf (s : State) (l : Nat) (a : NvArea) : (s.pulse l).ringOf a = s.ringOf a := ringOf_congr (State.pulse_nvm _ _) a

theorem ringOf_writeFail (s : State) (a b : NvArea) (ty : Nat) (p : List Word) (n : Nat) : (s.writeFail a ty p n).ringOf b = (s.putRec a ty p .uncommitted n).ringOf b := by
  unfold State.writeFail; rw [pulse_ringOf, raise_ringOf, bump_ringOf]

theorem injFlag_nvm (s : State) : s.injFlag.nvm = s.nvm := rfl

/-- A write leaves the other areas' records. -/
theorem ringOf_nvWrite_other (s : State) (a b : NvArea) (ty : Nat) (p : List Word) (ok : Bool) (n : Nat) (h : b ≠ a) : (s.nvWrite a ty p ok n).1.ringOf b = s.ringOf b := by
  have e : ∀ u : State, u.injFlag.ringOf b = u.ringOf b := fun u => ringOf_congr (injFlag_nvm u) b
  have key : ∀ u : State, (if ok then ((u.putRec a ty p .committed n).bump R.NVM_RECORDS_COUNT, true) else (u.writeFail a ty p n, false)).1.ringOf b = u.ringOf b := by
    intro u
    split
    · rw [bump_ringOf, ringOf_putRec_other _ _ _ _ _ _ _ h]
    · rw [ringOf_writeFail, ringOf_putRec_other _ _ _ _ _ _ _ h]
  unfold State.nvWrite
  dsimp only
  rw [key]
  split
  · rw [e]
    split
    · rfl
    · rw [ringOf_writeFail, ringOf_putRec_other _ _ _ _ _ _ _ h]
  · rfl

theorem ringOf_nvPut_other (s : State) (a b : NvArea) (ty : Nat) (p : List Word) (n : Nat) (h : b ≠ a) : (s.nvPut a ty p n).ringOf b = s.ringOf b :=
  ringOf_nvWrite_other s a b ty p true n h

/-- A write puts its record down in some state, committed or without its commit word as its read-back says. -/
theorem nvWrite_cases (s : State) (a : NvArea) (ty : Nat) (p : List Word) (ok : Bool) (n : Nat) :
    ∃ u : State, s.nvWrite a ty p ok n = if ok then ((u.putRec a ty p .committed n).bump R.NVM_RECORDS_COUNT, true) else (u.writeFail a ty p n, false) := by
  unfold State.nvWrite
  exact ⟨_, rfl⟩

/-- A write whose read-back matches leaves its record committed, the newest of its types. -/
theorem nvWrite_newest (s : State) (a : NvArea) (ty : Nat) (p : List Word) (types : List Nat) (n : Nat) (h : types.contains ty = true) :
    ((s.nvWrite a ty p true n).1.newest a types).map (fun r => (r.type, r.payload)) = some (ty, p) := by
  obtain ⟨u, e⟩ := nvWrite_cases s a ty p true n
  rw [e]
  clear e
  rw [if_pos rfl]
  unfold State.newest State.committed
  rw [bump_ringOf]
  obtain ⟨x, l, e, h1, h2, h3⟩ := putRec_last u a ty p .committed n
  rw [e, List.filter_append, List.filter_append]
  simp only [List.contains_eq_mem, decide_eq_true_eq] at h
  simp [h1, h2, h3, h]

theorem nvPut_newest (s : State) (a : NvArea) (ty : Nat) (p : List Word) (types : List Nat) (n : Nat) (h : types.contains ty = true) :
    ((s.nvPut a ty p n).newest a types).map (fun r => (r.type, r.payload)) = some (ty, p) := nvWrite_newest s a ty p types n h

/-- A write whose read-back matches leaves its record committed, the last of its area. -/
theorem nvWrite_committed (s : State) (a : NvArea) (ty : Nat) (p : List Word) (n : Nat) :
    ((s.nvWrite a ty p true n).1.committed a).getLast?.map (fun r => (r.type, r.payload)) = some (ty, p) := by
  obtain ⟨u, e⟩ := nvWrite_cases s a ty p true n
  rw [e]
  clear e
  rw [if_pos rfl]
  unfold State.committed
  rw [bump_ringOf]
  obtain ⟨x, l, e, h1, h2, h3⟩ := putRec_last u a ty p .committed n
  rw [e, List.filter_append]
  simp [h1, h2, h3]

/-- A write whose read-back fails leaves its record without its commit word, raises WRITE_FAIL and line 22. -/
theorem nvWrite_fails (s : State) (a : NvArea) (ty : Nat) (p : List Word) (n : Nat) :
    ((s.nvWrite a ty p false n).1.ringOf a).recs.getLast?.map (fun r => r.state) = some .uncommitted ∧ Event (s.nvWrite a ty p false n).1 P.NVM E.NVM_WRITE_FAIL ∧
      (22, 0) ∈ (s.nvWrite a ty p false n).1.flt.causes := by
  obtain ⟨u, e⟩ := nvWrite_cases s a ty p false n
  rw [e]
  clear e
  rw [if_neg Bool.false_ne_true]
  refine ⟨?_, ?_, ?_⟩
  · rw [ringOf_writeFail]
    obtain ⟨x, l, e, -, -, h3⟩ := putRec_last u a ty p .uncommitted n
    rw [e]
    simp [h3]
  · unfold State.writeFail Event
    rw [State.pulse_rd]
    exact State.raise_evtBit _ _ _ (by decide)
  · unfold State.writeFail State.pulse State.lineOn
    split
    · rename_i h; simpa using h
    · simp

end Sys2Proof.Machine
end

