-- ==== Sys2Proof/Machine/Lands.lean ====
section
/-! DEFINITION.
What the lands show: the state of every signal as a function of the device's state, the test access port's registers, and the limit of the output stage
(R30, R34 to R37, R40, R41, R44, R45, R51, R52, R190, R199 to R201, R208, R499).
-/
namespace Sys2Proof.Machine
open Sys2Proof

/-! ## Signals (R31, R35) -/

/-- A signal of the land groups of R31. -/
inductive Land where
  | portTx (p : Nat)
  | portRx (p : Nat)
  | pcieTx (lane : Nat)
  | pcieRx (lane : Nat)
  | pcieRefclk
  | perstN
  | dugTx (link lane : Nat)
  | dugRx (link lane : Nat)
  | refIn (n : Nat)
  | clkP (n : Nat)
  | clkN (n : Nat)
  | pulse (n : Nat)
  | gnssAnt
  | selN (p : Nat)
  | rstN (p : Nat)
  | prsN (p : Nat)
  | intN (p : Nat)
  | i2cScl (c : Nat)
  | i2cSda (c : Nat)
  | resetN
  | irqN
  | alarmN
  | timeValid
  | thermAlertN
  | tamperIn (k : Nat)
  | sck
  | csN
  | mosi
  | miso
  | tck
  | tms
  | tdi
  | tdo
  | trstN
  | dnu (k : Nat)
  | vin
  | gnd
  deriving DecidableEq, Repr

/-- What a signal shows, or how the device takes it (R35). -/
inductive LandState where
  | highZ                                  -- high impedance; an open-drain output released
  | pulledLow                              -- high impedance with the passive resistor to GND
  | low
  | high
  | squelched
  | electricalIdle
  | trains                                 -- the PCIe link trains, or carries its traffic
  | sends                                  -- the transmitter or bus carries the device's signal
  | clock (inverted : Bool) (mV : Nat)     -- edges by R200, with the swing of R499 on each side
  | bias (v : Nat)                         -- the antenna bias: 0 off, 1 3.3 V, 2 5.0 V
  | whileSelected                          -- driven while CS_N is low
  | port1149                               -- as IEEE 1149.1 has it
  | scan (i : PinInstr)                    -- the boundary register drives it
  | tolerated
  | ignored
  | taken
  | plain                                  -- supply, ground, reserved
  deriving DecidableEq, Repr

/-! ## The test access port (R51, R52) -/

/-- Which boundary cells a signal has (R51). -/
inductive CellKind where
  | ac
  | observe
  | control
  | none
  deriving DecidableEq, Repr

def Land.cell : Land → CellKind
  | .portTx _ | .portRx _ | .pcieTx _ | .pcieRx _ | .dugTx _ _ | .dugRx _ _ => .ac
  | .pcieRefclk | .refIn _ => .observe
  | .gnssAnt | .vin | .gnd | .tck | .tms | .tdi | .tdo | .trstN | .dnu _ => .none
  | _ => .control

/-- The signal is driven by the device. -/
def Land.out : Land → Bool
  | .portTx _ | .pcieTx _ | .dugTx _ _ | .clkP _ | .clkN _ | .pulse _ | .selN _ | .rstN _ | .i2cScl _ | .i2cSda _ | .irqN | .alarmN | .timeValid
  | .thermAlertN | .miso => true
  | _ => false

/-- IDCODE: version, part number, manufacturer field and the bit that is always 1 (R51). -/
def idcode : Nat := 1 * 2 ^ 28 + 0x2436 * 2 ^ 12 + 0x079 * 2 + 1

/-- The data register between TDI and TDO. -/
inductive DataReg where
  | idcode
  | bypass
  | boundary
  deriving DecidableEq, Repr

/-- The instruction as it acts: a pin instruction that is not in force acts as BYPASS (R52). -/
def State.tapActs (s : State) : TapInstr := if s.boot.tap.pin?.isSome && !s.tapInForce then .bypass else s.boot.tap

/-- The data register that the instruction selects; CLAMP and HIGHZ select the bypass register, as IEEE 1149.1 has it (PRESUMED, log entry 42). -/
def State.dataReg (s : State) : DataReg :=
  match s.tapActs with
  | .reset => .idcode
  | .bypass => .bypass
  | .pins .clamp => .bypass
  | .pins .highz => .bypass
  | .pins _ => .boundary

/-! ## The table of R35 -/

/-- Unpowered. -/
def Land.unpowered : Land → LandState
  | .alarmN | .timeValid | .pulse _ => .pulledLow
  | .gnssAnt => .bias 0
  | .vin | .gnd | .dnu _ => .plain
  | x => if x.out || decide (x = .tdo) then .highZ else .tolerated

/-- In reset, and for most outputs in HITCHED too. -/
def State.landReset (s : State) : Land → LandState
  | .portTx _ | .dugTx _ _ => .squelched
  | .pcieTx _ => .electricalIdle
  | .clkP _ | .pulse _ | .rstN _ | .alarmN | .timeValid => .low
  | .clkN _ | .selN _ => .high
  | .i2cScl _ | .i2cSda _ | .irqN | .miso => .highZ
  | .thermAlertN => if s.boot.thermAlert then .low else .highZ
  | .gnssAnt => .bias 0
  | .tdo => .port1149
  | .pcieRefclk | .perstN | .resetN | .tamperIn _ | .tck | .tms | .tdi | .trstN => .taken
  | .vin | .gnd | .dnu _ => .plain
  | _ => .ignored

/-- From HITCHED on the control signals are in use; the others stay as in reset until ROLLING. -/
def State.landHitched (s : State) : Land → LandState
  | .pcieTx _ => if s.boot.perstLow then .electricalIdle else .trains
  | .pcieRx _ => if s.boot.perstLow then .ignored else .taken
  | .prsN _ | .intN _ | .sck | .csN | .mosi => .taken
  | .miso => .whileSelected
  | .irqN => if s.irqLow then .low else .highZ
  | .selN p => if (s.busOf (p / 4)).sel = some p then .low else .high
  | .i2cScl c | .i2cSda c => if (s.busOf c).stuck || (s.busOf c).queue.isEmpty then .highZ else .sends
  | x => s.landReset x

/-- The level of a PULSE_OUT (R190, R201, R208): an inverted one is active-low and muted high; under brake it is low either way. -/
def State.pulseLevel (s : State) (n : Nat) : Bool :=
  let src := s.get (outSrc (n + 4))
  decide (src ≠ 3) && ((decide (src ≠ 0) && (s.outOf (n + 4)).high) != s.flag (R.OUT_PULSE_CFG_INVERT n))

/-- The swing of a CLK_OUT on each side, in millivolts (R499). -/
def State.clkSwing (s : State) (n : Nat) : Nat := if s.get (R.OUT_CLK_CFG_SWING n) = 1 then 800 else 400

/-- One side of a CLK_OUT: muted and under brake P is low and N high; running, INVERT swaps the two (R34, R190, R200, R208). -/
def State.clkSide (s : State) (n : Nat) (neg : Bool) : LandState :=
  let src := s.get (outSrc n)
  if src = 1 ∨ src = 2 then .clock (neg != s.flag (R.OUT_CLK_CFG_INVERT n)) (s.clkSwing n) else if neg then .high else .low

/-- From ROLLING on every function drives its lands. -/
def State.landDriven (s : State) : Land → LandState
  | .portTx p => if bitOn s.boot.txOn p then .sends else .squelched
  | .dugTx _ _ => if s.boot.dugOn then .sends else .squelched
  | .portRx _ | .dugRx _ _ => .taken
  | .refIn n => if s.get (R.SEL_REFIN_CFG_MODE n) < 2 then .taken else .ignored
  | .clkP n => s.clkSide n false
  | .clkN n => s.clkSide n true
  | .pulse n => if s.pulseLevel n then .high else .low
  | .gnssAnt => .bias s.boot.antBias
  | .rstN p => if bitOn s.boot.portRst p then .highZ else .low
  | .alarmN => if s.flag R.FLT_STATUS_ALARM then .low else .high
  | .timeValid => if s.boot.timeValid then .high else .low
  | x => s.landHitched x

/-- The state of a signal (R35); an instruction that has taken the pins drives every output with a control cell from the boundary register, and HIGHZ releases
it (R52). -/
def State.land (s : State) (x : Land) : LandState :=
  match s.boot.pins with
  | .unpowered => x.unpowered
  | c =>
    match (if s.tapInForce && x.out && (decide (x.cell = .ac) || decide (x.cell = .control)) then s.boot.tap.pin? else none) with
    | some .highz => .highZ
    | some i => .scan i
    | none => match c with
      | .inReset => s.landReset x
      | .hitched => s.landHitched x
      | _ => s.landDriven x

/-! ## The output stage (R199) -/

/-- The least high or low phase of a CLK_OUT: 40 % of the nominal period. -/
def State.clkLimit (s : State) (n : Nat) : Int := ceilDiv (2 * s.clkPeriod n) 5

/-- The phases that leave the stage for those of its source, high and low in turn, the first one `p`: the level holds through a phase shorter than the limit. -/
def noRunt (limit : Int) (p : Int) (l : List Int) : List Int :=
  match l with
  | [] => [p]
  | [q] => if q < limit then [p + q] else [p, q]
  | q :: r :: rest => if q < limit then noRunt limit (p + q + r) rest else p :: noRunt limit q (r :: rest)
termination_by structural l

/-! ## Names (R30) -/

/-- The 19 letters of row codes. -/
def rowLetters : List Char := ['A', 'B', 'C', 'D', 'E', 'F', 'G', 'H', 'J', 'K', 'L', 'M', 'N', 'P', 'T', 'U', 'V', 'W', 'Y']

/-- The code of row `r`, 1 to 72. -/
def rowCode (r : Nat) : List Char :=
  let c (i : Nat) : Char := rowLetters.getD i 'A'
  if r ≤ 19 then [c (r - 1)] else [c ((r - 1) / 19 - 1), c ((r - 1) % 19)]

end Sys2Proof.Machine
end

