-- ==== Sys2Proof/Tests/Slice0.lean ====
section
/-! SUPPORT.
Small tests, each of one step on a small state; an ill-formed command for every check of WellFormed; and, for every statement with hypotheses, a state and operands
that meet them.  Every state here is dev0, a device in STEADY, with the fields set that the case needs.
-/
set_option linter.unusedVariables false

namespace Sys2Proof.Tests
open Sys2Proof Sys2Proof.Machine

/-! ## A running device, and samples of what commands carry -/

/-- The registers of a running device that the statements ask about: STEADY, three cores in TRIAD, every page as after reset otherwise. -/
def running : List (Fld × Nat) :=
  [(R.BOOT_STAGE_STAGE, 4), (R.VOTE_STATUS_MODE, 1), (R.VOTE_STATUS_TS_SET, 1), (R.PWR_STAT_HOLDUP_RDY, 1), (R.PWR_STAT_VIN_GOOD, 1), (R.PCI_LINK_UP, 1), (R.GEN_IN_FORCE_GEN, 1)]

/-- Fields set one after another. -/
def sets (s : State) (l : List (Fld × Nat)) : State := l.foldl (fun t x => t.set x.1 x.2) s

/-- A device in STEADY: every island runs, the axle runs, PCIe answers. -/
def dev0 : State :=
  sets { State.reset with
    boot := { BootPart.init with pos := .rolling, pins := .driven, pcieReady := true, perstLow := false, txOn := 0xFFFFFF, timeValid := true, thmSeen := true },
    isl := { IslandPart.init with inReset := 0 },
    ax := {
      AxlePart.init with 
        running := true, started := true, mark := 1000 * secU, v := { AxCtr.init with base := 1000 * secU, latch := 1000 * secU },
        ctrs := [2, 3, 4, 6, 7, 8, 9, 10, 11, 12, 13].map (fun k => (k, { AxCtr.init with base := 1000 * secU, latch := 1000 * secU })) },
    key := { KeyPart.init with alive := true } } running

/-- The page's expert region open to every master. -/
def expert (page : Nat) (s : State) : State :=
  let s := s.set (R.PG_CTRL_XEN page) 1
  { s with host := { s.host with m0 := { s.host.m0 with window := 2 }, m1 := { s.host.m1 with window := 2 }, m2 := { s.host.m2 with window := 2 } } }

def ptpF : PtpFlags := { twoStep := false, leap61 := false, leap59 := false, utcValid := true, ptpScale := true, timeTrace := true, freqTrace := true }

def ptpS : PtpMsg := { mtype := 0, domain := 0, flags := ptpF, corr := 0, srcId := 7, seq := 3, log := 0, sec := 1000, ns := 5, reqId := 9, ann := none, tlvs := [], auth := none }

def ptpD : PtpMsg := { ptpS with mtype := 1 }

def ntpC : NtpMsg := { li := 0, version := 4, mode := 3, stratum := 0, poll := 6, precision := 0, rootDelay := 0, rootDisp := 0, refId := 0, refTs := 0, orgTs := 0, recTs := 0, xmtTs := 0, nts := none }

def ip4 : IpHdr := { v6 := false, src := 0x0A000001, dst := 0x0A000002, dscp := 0, ttl := 64, plain := true, udp := some (123, 123) }

def fr0 : Frame := { dst := 0x010203040506, src := 0x020000000001, tags := [], ip := none, len := 90, body := .other 5, sumOk := true, lenOk := true }

def frP : Frame := { fr0 with body := .ptp ptpD }

def frN : Frame := { fr0 with ip := some ip4, body := .ntp ntpC }

def ent0 : ClientEntry := { entryOf [] with state := 2, port := 5, portId := 0x77, mac := 0x0A0B0C0D0E0F, annG := true, syncG := true, annOk := true, annEnd := 5000, syncEnd := 5000, drespEnd := 5000, place := 20 }

def car0 : Carriage :=
  { cid := 4, origin := 0, port := 5, portIn := 5, place := 20, gen := 1, ingT := 1000 * secU, verdict := 0, tclass := 0, buf := 0, tebv := 0, client := noClient, rateAct := 0, key := none, cookKey := none, c2s := 0,
    s2c := 0, ncook := 0, nak := false, depart := none, scaleNo := 0, laneNs := 0, stage := .parse, kind := .sync, ent := none, frame := frN, srch := 0 }

def copy0 : Copy := { dst := 3, spilled := false, issued := true, cells := 2, entered := false, last := false, ready := false, begun := false }

def swf0 : SwFrame :=
  { input := 1, fid := 9, frame := fr0, portIn := 5, verdict := 0, origin := 0, gen := 1, ingT := 1000 * secU, cls := 2, bound := 2, total := 2, used := none, st := 0, fseq := [(0, 0)], place := 0, buf := 0,
    depart := none, copies := [copy0], admT := 1000 * secU, desc := none, cold := 0, flooded := false }

def dug0 : DugFrame := { ok := true, role := 2, ready := true, timed := true, follows := true, seq := 5, serial := 3, group := 0, prio := 1, body := .tt 0 0 0 0 4 0 }

def st0 : Stamp := { tick := 10, phase := 3, tap := 100 }

def kver : KeyVer := { num := 1, key := 5, keyId := 6, kcv := 7, pins := 0 }

def mig0 : Migration := { lane := 5, to_ := 4, start := 999 * secU, asked := 0, begun := false, fence := none, fenced := false, shunt := false, oldPlace := 5, oldCids := [] }

def trig0 : Trigger := { island := 5, code := 0x30, noTime := false, inst := 0, gen := 1, args := [1, 2, 3, 4] }

def job0 : TxJob := { idx := 3, flags := 0, tag := 1, port := 5, sent := true, res := some (0, 1000 * secU) }

def gchan : GnsChan := { st := .track, sig := 1, sat := 5 }

def gsam : GnsSample := { stamp := 1000 * secU, o := 5, steps := 0, loads := 0 }

def epoch0 : GnssEpoch := { st := st0, cons := [], pos := none, sigma := 5, cn1 := 40, cn5 := 40, dev := 0, noise1 := 0, noise5 := 0, almanac := true, ephemeris := true }

def i2c0 : I2cTx := { port := 5, op := 0, len := 2, offset := 4, dev := 0x50, data := 0 }

def kcmd : KeyCmd := { m := .pf1, op := 7, src := 0, check := false, nvOk := true, ackAt := 0, slot := 5 }

def rep0 : CoreReport := { dy := 0, dt := 0, badSig := false, self := false, corr := 0 }

def cell0 : Cell := { input := 1, fid := 9, idx := 0, last := true, cls := 2 }

def ttr : TtRecord := { client := 7, sync := true, place := 0, changed := false }

def txd : TxDesc := { frame := fr0, port := 5, flags := 0, tag := 9 }

def kS (k : Nat) (f : KeySlot → KeySlot) (s : State) : State := { s with key := { s.key with slots := kvPut s.key.slots k (f (s.slotK k)) } }

def addCar (c : Nat) (k : Carriage) (s : State) : State := s.putCoach c { s.coachOf c with cars := k :: (s.coachOf c).cars }

def addEnt (i : Nat) (e : ClientEntry) (s : State) : State := { s with clt := { s.clt with entries := kvPut s.clt.entries i e } }

def addSwf (f : SwFrame) (s : State) : State := { s with sw := { s.sw with frames := f :: s.sw.frames } }

def cal0 : CalResult := { n := 1000000, np := [], ck := [], topTap := false }

def okCal : CalResult := { n := 152 * 2 ^ 20, np := List.replicate 24 6640981, ck := List.replicate 152 (2 ^ 20), topTap := false }

def winE (e : ClientEntry) (s : State) : State := s.putWindow (entryBytes e noClient)

def addCl (i : Nat) (e : ClientEntry) (s : State) : State := (addEnt i e s).chainIn i e

def zeros62 : List Word := List.replicate 62 0#36

/-- A device whose window holds a new client and whose client table is the list given. -/
def fullTable (l : List (Nat × ClientEntry)) : State := winE ent0 { dev0 with clt := { dev0.clt with entries := l } }

set_option maxRecDepth 100000 in
theorem full_table (l : List (Nat × ClientEntry)) :
    Accepts (fullTable l) Master.pf0 R.CLT_CMD_STATUS ∧ (fullTable l).windowEntry.port ≤ 23 ∧ (fullTable l).findClient (fullTable l).windowEntry.port (fullTable l).windowEntry.portId = none :=
  ⟨show Accepts (fullTable []) Master.pf0 R.CLT_CMD_STATUS by decide, show (fullTable []).windowEntry.port ≤ 23 by decide,
   show (fullTable []).findClient (fullTable []).windowEntry.port (fullTable []).windowEntry.portId = none by decide⟩

theorem full_free (l : List (Nat × ClientEntry)) : (fullTable l).cltFree = 1048576 - l.length := rfl

theorem full_length : 1048576 - (List.replicate 1048576 ((0 : Nat), ent0)).length = 0 := by rw [List.length_replicate]

/-! ## Ill-formed commands are refused -/

theorem test_wf_refuses_0 : ([
    .pcieConfigRequest 2 false none, .nvmRecordWrite { area := 5, type := 0x21, payload := [], ok := true, tick := 5 }, .nvmSectorErase 512,
    .couplingTransfer 0 16 0 false false, .couplingResume 0 16 0, .axleSubframe 16 0 0, .coreCatchupDone 3, .rejoinExpiry 3, .coreReadmit 3,
    .candidateSample 12 (.offset (1000 * secU) 4 (-3)), .candTimeout 12 0, .candQualified 12, .wtrDone 12, .refInEdge 4 false 0 0 0,
    .esmcReceive 12 0 0, .esmcTimeout 12, .pllBandChosen 4 0, .pllLocked 4 0 0, .pllLockFail 4, .pllUnlock 4 0, .pllRefLost 4,
    .pllRefRestored 4 false, .pllRelock .pf0 4, .pllDisable .pf0 4, .clkReturnToPll 4, .started 8] : List Instr).all (fun c => !c.wf) = true := by decide

theorem test_wf_refuses_1 : ([
    .pulseEdge 4, .drvFault 8, .ticArm .pf0 8, .ticArmAt .pf0 8 0, .ticArmAtReached 8 0, .ticEdge 8 false false 0 0 0, .ticTimeout 8,
    .ticDisarm .pf0 8, .ticCalibrate .pf0 8, .ticAutoCal 8 0, .ticCalDone 8 cal0 cal0 0, .ticDisable .pf0 8, .pairRecal 61 cal0 0, .pairSwap 61 0,
    .channelAcquired 192 0 0 0 0 0, .channelLockDrop 192 0, .channelSearchWarm 192, .frameReceive 24 st0 fr0 false false 0 0 0, .linkLoss 24 0 none,
    .linkLock 24, .linkHoldExpiry 24 0, .portDisable .pf0 24 false, .moduleResetRelease 24, .moduleRstWrite .pf0 24 false, .modPresent 24 false,
    .modInt 24 false] : List Instr).all (fun c => !c.wf) = true := by decide

theorem test_wf_refuses_2 : ([
    .i2cRead .pf0 24 0 0 0, .i2cWrite .pf0 24 0 0 0, .restartBus .pf0 24, .i2cDone 6 false 0, .i2cStuck 6 false, .gearWindow 6, .frameAdmission 6 0,
    .cellArrival 8 0 0, .frameRelease 7 0 0, .reseqSkip 7 0 0 0, .spillReissue 25 0 0 false, .aged 25 0, .frameTransmit 24 0 0 st0,
    .carriageParse 6 0, .upstreamAnnounceTimeout 24 0, .lookupDone 6 0 false false, .verifyDone 6 0 false, .composeCarriage 6 0 0,
    .signQueueAdmit 6 0, .signDone 6 0 false, .sealSetupCheck 6 0 0, .launch 6 0 0 st0, .multicastTimer 24 0 0, .coachDisable .pf0 6,
    .wheelSlot 6 0 false, .wheelVisit 6 0 0] : List Instr).all (fun c => !c.wf) = true := by decide

theorem test_wf_refuses_3 : ([
    .rebuildDone 6, .keyEraseDone 256, .keyPin 6, .keyRelease 6, .keyGraceEnd 256, .freed 256, .keyMemoryError 256, .tamperAlarm 6,
    .preparedReport 16, .appliedReport 16, .migrationStart 24, .migrationFenceFixed 24 0, .migrationFence 24 0, .migrated 24, .ttReceive 2 dug0 st0,
    .renewReceive 2 dug0 0, .ackReceive 2 dug0, .claimReceive 2 dug0 0, .replyReceive 2 dug0 0, .handoverReceive 2 dug0, .selFrameReceive 2 dug0,
    .leapFrameReceive 2 dug0, .clientFrameReceive 2 dug0, .sweepReceive 2 dug0 0, .hbLost 2 0, .heartbeatReturn 2 0] : List Instr).all (fun c => !c.wf) = true := by decide

theorem test_wf_refuses_4 : ([
    .dugLinkDownTimer 2, .faultLineFall 36 0, .recTrigger 16 0, .flr 2, .dmaTailWrite .pf0 8 0, .dmaDescFetch 8 0 (.rx 0 64), .dmaRxFrame 8,
    .dmaTxComplete 8, .dmaStampTimeout 8 0 0, .ringErr 8 0 0, .dmaModTimer 8 0, .dmaRingEnable .pf0 8 0, .msixUnmask 0 32 false,
    .msixUnmask 2 0 false, .tmpNowClear 6, .laneLockChange 2 0 false 0, .pllLockHeld 4] : List Instr).all (fun c => !c.wf) = true := by decide

/-! ## Steps -/

theorem test_empty_queue_idles : (match step State.reset with | .next t => decide (t.pending = [] ∧ t.boot.pos = .off) | _ => false) = true := by decide

/-- R56: VIN below 10.5 V starts nothing; 10.5 V does. -/
theorem test_vin_good_starts_at_10500 : (match exec (.vinGood 10500) State.reset with | .next t => decide (t.boot.pos = .ao) | _ => false) = true := by decide

/-- R104: MAP21 holds the vectors of sources 126 and 127, both 31. -/
theorem test_map21_resets_to_vector_31 : dev0.route 126 = 31 ∧ dev0.route 127 = 31 := by decide

def arr0 : Arrival := { tick := 0, us := 0, sinceArm := 0, ok := true, sending := false, cuts := [], slot := 0, same := 0 }

/-- R5, R89: a negative F36 written where the limit is 0 is held as 0, and with the window shut nothing is written. -/
theorem test_negative_holdover_term_reads_0 :
    (match exec (.registerWrite .pf0 R.HOLD_UNC_B (BitVec.ofInt 36 (-5)) arr0) (expert P.HOLD dev0) with
      | .next t => decide (t.rd R.HOLD_UNC_B = 0)
      | _ => false) = true ∧
    (match exec (.registerWrite .pf0 R.HOLD_UNC_B 7 arr0) dev0 with
      | .next t => decide (t.rd R.HOLD_UNC_B = 1126)
      | _ => false) = true := by decide

/-- A scratch register holds what is written, and nothing else of the page moves. -/
theorem test_scratch_holds_what_is_written :
    (match exec (.registerWrite .pf0 R.GLB_SCRATCH 0xFFFFFFFFF arr0) dev0 with
      | .next t => decide (t.rd R.GLB_SCRATCH = 0xFFFFFFFFF)
      | _ => false) = true := by decide

/-! ## The hypotheses of the statements can be met -/

set_option maxRecDepth 100000

def st0_0 : State := { dev0 with boot := { dev0.boot with pos := .off } }
def st0_1 : State := { dev0 with boot := { dev0.boot with pos := .ao } }
def st0_2 : State := { dev0 with boot := { dev0.boot with pos := .hitched } }
def st0_3 : State := { dev0 with boot := { dev0.boot with pos := .scanned } }
def st0_4 : State := { dev0 with boot := { dev0.boot with pos := .keys } }
theorem witness_StartRunsToTheChoiceOfABank :
    (∃ (s : State) (mv : Nat), s.boot.pos = .off ∧ 10500 ≤ mv ∧ mv < 65536) ∧
    (∃ (s : State), s.boot.pos ≠ .off ∧ s.boot.pf = .none) ∧
    (∃ (s : State), s.boot.pos = .ao ∧ s.boot.resetLow = false ∧ s.boot.pf ≠ .down ∧ s.get R.PWR_STAT_HOLDUP_RDY = 1) ∧
    (∃ (s : State) (corr : Nat) (errs : List (Nat × Nat)), s.boot.pos = .hitched) ∧
    (∃ (s : State), s.boot.pos = .scanned) ∧
    (∃ (s : State), s.boot.pos = .keys) :=
  ⟨⟨st0_0, 10500, by decide⟩,
   ⟨dev0, by decide⟩,
   ⟨st0_1, by decide⟩,
   ⟨st0_2, 0, [], by decide⟩,
   ⟨st0_3, by decide⟩,
   ⟨st0_4, by decide⟩⟩

def st1_0 : State := sets ({ dev0 with boot := { dev0.boot with pos := .held } }) [(R.BOOT_IMG_STAT_A_VALID, 1), (R.BOOT_IMG_STAT_LOADED, 0)]
def st1_1 : State := { dev0 with boot := { dev0.boot with pos := .chosen } }
def st1_2 : State := { dev0 with boot := { dev0.boot with pos := .released } }
def st1_3 : State := { dev0 with boot := { dev0.boot with pos := .applied } }
def st1_4 : State := sets dev0 [(R.BOOT_STAGE_STAGE, 2), (R.SRV_STATUS_STATE, 2), (R.SEL_STATUS_SELECTED, 0), (R.CAND_BIND_SRC 0, 2), (R.VOTE_STATUS_MODE,1), (R.VOTE_STATUS_TS_SET,1), (R.DUG_STATUS_FOLLOW, 0)]
def st1_5 : State := sets dev0 [(R.BOOT_STAGE_STAGE, 3), (R.VOTE_OSC_STAT_OCXO_WARM, 1), (R.VOTE_OSC_STAT_CELL_LOCK, 1), (R.HOLD_STATUS_LEARN, 2)]
theorem witness_StartRunsFromABankToSteady :
    (∃ (s : State) (m : Master), Accepts s m R.BOOT_CMD_STATUS ∧ s.boot.pos = .held ∧ s.chooseBank.1 ≠ 0 ∧ s.tapInForce = false) ∧
    (∃ (s : State), s.boot.pos = .chosen ∧ s.tapInForce = false) ∧
    (∃ (s : State) (cals : List CalResult) (temp : Int), s.boot.pos = .released ∧ s.tapInForce = false) ∧
    (∃ (s : State) (us : Nat), s.boot.pos = .applied ∧ s.tapInForce = false ∧ s.ax.started = true ∧ us < 2 ^ 36) ∧
    (∃ (s : State), s.ax.started = true ∧ s.get R.BOOT_STAGE_STAGE = 2 ∧ s.timedOk = true) ∧
    (∃ (s : State), s.ax.started = true ∧ s.get R.BOOT_STAGE_STAGE = 3 ∧ s.flag R.VOTE_OSC_STAT_OCXO_WARM = true ∧ s.flag R.VOTE_OSC_STAT_CELL_LOCK = true ∧ s.get R.HOLD_STATUS_LEARN = 2) :=
  ⟨⟨st1_0, Master.pf0, by decide⟩,
   ⟨st1_1, by decide⟩,
   ⟨st1_2, [], 0, by decide⟩,
   ⟨st1_3, (2 ^ 36 - 1), by decide⟩,
   ⟨st1_4, by decide⟩,
   ⟨st1_5, by decide⟩⟩

def st2_0 : State := { dev0 with boot := { dev0.boot with pcieReady := false } }
def st2_1 : State := sets dev0 [(R.PCI_LINK_UP, 0)]
theorem witness_ResetPinsAndEndpoint :
    (∃ (s : State), s.boot.resetLow = false ∧ s.boot.pos ≠ .off ∧ s.boot.pos ≠ .ao) ∧
    (∃ (s : State) (pf : Nat), pf < 2 ∧ s.boot.perstLow = false ∧ s.up islMGT = true ∧ s.boot.pcieReady = false) ∧
    (∃ (s : State) (pf : Nat), pf < 2 ∧ s.mgtServes = true ∧ s.boot.perstLow = false ∧ s.boot.pcieReady = true) ∧
    (∃ (s : State) (corr : Nat) (uncorr : Nat), s.up islMGT = true ∧ s.flag R.PCI_LINK_UP = true) ∧
    (∃ (s : State) (width : Nat) (speed : Nat), s.up islMGT = true ∧ s.boot.perstLow = false ∧ s.flag R.PCI_LINK_UP = false ∧ width < 2 ^ R.PCI_LINK_WIDTH.w ∧ speed < 2 ^ R.PCI_LINK_SPEED.w) :=
  ⟨⟨dev0, by decide⟩,
   ⟨st2_0, (2 - 1), by decide⟩,
   ⟨dev0, (2 - 1), by decide⟩,
   ⟨dev0, 0, 0, by decide⟩,
   ⟨st2_1, (2 ^ R.PCI_LINK_WIDTH.w - 1), (2 ^ R.PCI_LINK_SPEED.w - 1), by decide⟩⟩

def st3_0 : State := sets dev0 [(R.PWR_STAT_HOLDUP_RDY, 0)]
def st3_1 : State := { dev0 with boot := { dev0.boot with pf := .warned } }
def st3_2 : State := { dev0 with nvm := { dev0.nvm with saving := some ([]) } }
def st3_3 : State := { dev0 with boot := { dev0.boot with pf := .down } }
theorem witness_PowerFailSavesThenShutsDown :
    (∃ (s : State) (tick : Nat) (mv : Nat) (w : Option NvWrite), s.boot.pos ≠ .off ∧ s.boot.pf = .none ∧ s.flag R.PWR_STAT_HOLDUP_RDY = true) ∧
    (∃ (s : State) (tick : Nat) (mv : Nat) (w : Option NvWrite), s.boot.pos ≠ .off ∧ s.boot.pf = .none ∧ s.flag R.PWR_STAT_HOLDUP_RDY = false) ∧
    (∃ (s : State) (tick : Nat), s.boot.pf = .warned) ∧
    (∃ (s : State) (p : List Word), s.nvm.saving = some p) ∧
    (∃ (s : State) (least : Nat) (mv : Nat), s.boot.pf = .warned ∧ least < 65536 ∧ mv < 65536) ∧
    (∃ (s : State), s.boot.pf = .down ∧ s.nvm.saving = none ∧ s.boot.erasing = 0) ∧
    (∃ (s : State) (mv : Nat), (s.boot.pf = .down ∨ s.boot.pf = .dark) ∧ s.nvm.saving = none ∧ 10500 ≤ mv ∧ mv < 65536) :=
  ⟨⟨dev0, 0, 0, none, by decide⟩,
   ⟨st3_0, 0, 0, none, by decide⟩,
   ⟨st3_1, 0, by decide⟩,
   ⟨st3_2, [], by decide⟩,
   ⟨st3_1, (65536 - 1), (65536 - 1), by decide⟩,
   ⟨st3_3, by decide⟩,
   ⟨st3_3, 10500, by decide⟩⟩

def st4_0 : State := sets ({ dev0 with boot := { dev0.boot with erasing := 1 } }) [(R.BOOT_CMD_STATUS, 1)]
def st4_1 : State := sets dev0 [(whyFld 1, 1)]
def st4_2 : State := { dev0 with boot := { dev0.boot with session := 1 } }
theorem witness_NonvolatileMemoryAndBanks :
    (∃ (s : State) (w : NvWrite), w.area < 5 ∧ s.boot.pos ≠ .off ∧ (areaOf w.area).types.contains w.type = true ∧ w.payload.length + 7 ≤ sectorWords) ∧
    (∃ (s : State) (k : Nat), k < 512 ∧ s.boot.pos ≠ .off) ∧
    (∃ (s : State), (s.boot.erasing = 1 ∨ s.boot.erasing = 2) ∧ s.get R.BOOT_CMD_STATUS = 1) ∧
    (∃ (s : State) (m : Master) (b : Nat), Accepts s m R.BOOT_CMD_STATUS ∧ m ≠ .pf1 ∧ (b = 1 ∨ b = 2) ∧ s.get R.NVM_STATUS_PFW_HOLD = 0 ∧ s.get R.BOOT_IMG_STAT_LOADED ≠ b ∧ s.boot.session = 0 ∧ s.get (whyFld b) = 1) ∧
    (∃ (s : State) (m : Master) (w : Word), Open s m R.BOOT_IMG_DATA ∧ (s.boot.session = 1 ∨ s.boot.session = 2)) ∧
    (∃ (s : State) (m : Master) (b : Nat), Accepts s m R.BOOT_CMD_STATUS ∧ m ≠ .pf1 ∧ s.get R.NVM_STATUS_PFW_HOLD = 0 ∧ (s.boot.session = 1 ∨ s.boot.session = 2)) :=
  ⟨⟨dev0, {area := 4, type := 0x30, payload := [1#36], ok := true, tick := 7}, by decide⟩,
   ⟨dev0, 511, by decide⟩,
   ⟨st4_0, by decide⟩,
   ⟨st4_1, Master.spi, 1, by decide⟩,
   ⟨st4_2, Master.pf0, 0, by decide⟩,
   ⟨st4_2, Master.spi, 0, by decide⟩⟩

def st5_0 : State := sets dev0 [(R.FLT_NOW_LINES, 2^36-1)]
def st5_1 : State := sets dev0 [(R.FLT_WDOG_CFG_PERIOD, (0) + 1)]
theorem witness_FaultLinesRiseLatchAndFall :
    (∃ (s : State) (line : Nat) (tick : Nat) (cuts : List (Nat × TxRef)) (slot : Nat), line < 36 ∧ s.present line = false) ∧
    (∃ (s : State) (line : Nat) (tick : Nat), line < 36 ∧ s.present line = true ∧ (∀ c, ((line, c) ∈ s.flt.causes) → c = 0)) ∧
    (∃ (s : State) (m : Master), Accepts s m R.FLT_CMD_STATUS) ∧
    (∃ (s : State) (m : Master) (bits : Word), Open s m R.FLT_LATCH) ∧
    (∃ (s : State) (m : Master) (v : Word) (cuts : List (Nat × TxRef)) (slot : Nat), Open s m R.FLT_SEV_LO) ∧
    (∃ (s : State) (m : Master) (v : Word) (cuts : List (Nat × TxRef)) (slot : Nat), Open s m R.FLT_SEV_HI) ∧
    (∃ (s : State) (m : Master) (v : Word), Open s m R.FLT_SOFT) ∧
    (∃ (s : State) (m : Master), Open s m R.FLT_WDOG) ∧
    (∃ (s : State) (m : Master) (v : Word), Open s m R.FLT_WDOG_CFG) ∧
    (∃ (s : State) (ms : Nat), s.get R.FLT_WDOG_CFG_PERIOD ≠ 0 ∧ s.get R.FLT_WDOG_CFG_PERIOD ≤ ms) :=
  ⟨⟨dev0, (36 - 1), 0, [], 0, by decide⟩,
   ⟨st5_0, (36 - 1), 0, by decide, by decide, (fun c h => nomatch (show (36 - 1, c) ∈ ([] : List (Nat × Nat)) from h))⟩,
   ⟨dev0, Master.pf0, by decide⟩,
   ⟨dev0, Master.pf0, 0, by decide⟩,
   ⟨dev0, Master.pf0, 0, [], 0, by decide⟩,
   ⟨dev0, Master.pf0, 0, [], 0, by decide⟩,
   ⟨dev0, Master.pf0, 0, by decide⟩,
   ⟨dev0, Master.pf0, by decide⟩,
   ⟨dev0, Master.pf0, 0, by decide⟩,
   ⟨st5_1, 1, by decide⟩⟩

def st6_0 : State := sets { dev0 with flt := { dev0.flt with brake := .fault } } [(R.FLT_NOW_LINES,0),(R.FLT_LATCH_LINES,0),(R.VOTE_STATUS_MODE,1)]
def st6_1 : State := let s : State := { dev0 with flt := { dev0.flt with releaseAsked := true } }; sets { s with flt := { s.flt with brake := .fault } } [(R.FLT_NOW_LINES,0),(R.FLT_LATCH_LINES,0),(R.VOTE_STATUS_MODE,1)]
theorem witness_BrakeIsReleasedByTheTable :
    (∃ (s : State) (m : Master) (st : Nat), Accepts s m R.FLT_CMD_STATUS ∧ s.releaseStatus = some st) ∧
    (∃ (s : State) (m : Master), Accepts s m R.FLT_CMD_STATUS ∧ s.releaseStatus = none) ∧
    (∃ (s : State), s.flt.releaseAsked = true ∧ s.releaseStatus = none) :=
  ⟨⟨dev0, Master.pf0, ((dev0.releaseStatus)).get (by decide), by decide⟩,
   ⟨st6_0, Master.pf0, by decide⟩,
   ⟨st6_1, by decide⟩⟩

def st7_0 : State := expert (Fld.slot R.FLT_INJ_STATUS / 512) dev0
def st7_1 : State := { dev0 with flt := { dev0.flt with inj := some ({checker := 1, unit := 2, to_ := 0, left := 1, quiet := false, flagged := false}) } }
theorem witness_FaultInjectionsRunAndEnd :
    (∃ (s : State) (m : Master) (unit : Nat) (quiet : Bool), unit < 2 ∧ Accepts s m R.FLT_INJ_STATUS ∧ s.provingChecker 1 = false ∧ 2 ≤ s.get R.BOOT_STAGE_STAGE) ∧
    (∃ (s : State) (m : Master) (src : Nat) (dst : Nat) (n : Nat) (quiet : Bool), Accepts s m R.FLT_INJ_STATUS ∧ s.provingChecker 2 = false ∧ 2 ≤ s.get R.BOOT_STAGE_STAGE ∧ coupledAny src dst = true) ∧
    (∃ (s : State) (m : Master) (n : Nat) (quiet : Bool), Accepts s m R.FLT_INJ_STATUS ∧ s.provingChecker 3 = false ∧ 2 ≤ s.get R.BOOT_STAGE_STAGE) ∧
    (∃ (s : State) (m : Master) (core : Nat) (quiet : Bool), core < 3 ∧ Accepts s m R.FLT_INJ_STATUS ∧ s.provingChecker 4 = false ∧ 2 ≤ s.get R.BOOT_STAGE_STAGE ∧ s.get R.VOTE_STATUS_MODE = 1) ∧
    (∃ (s : State) (m : Master) (quiet : Bool), Accepts s m R.FLT_INJ_STATUS ∧ s.provingChecker 5 = false ∧ 2 ≤ s.get R.BOOT_STAGE_STAGE) ∧
    (∃ (s : State) (i : Injection) (expired : Bool), s.flt.inj = some i) :=
  ⟨⟨st7_0, Master.pf0, (2 - 1), true, by decide⟩,
   ⟨st7_0, Master.pf0, 0, 1, 0, true, by decide⟩,
   ⟨st7_0, Master.pf0, 0, true, by decide⟩,
   ⟨st7_0, Master.pf0, (3 - 1), true, by decide⟩,
   ⟨st7_0, Master.pf0, true, by decide⟩,
   ⟨st7_1, {checker := 1, unit := 2, to_ := 0, left := 1, quiet := false, flagged := false}, true, by decide⟩⟩

def st8_0 : State := { dev0 with isl := { dev0.isl with withheld := [Link.mk 8 14 0] } }
def st8_1 : State := sets dev0 [(R.BOOT_STAGE_FABRIC_DOWN, 1)]
theorem witness_IslandsCouplingsAndFabricReset :
    (∃ (s : State) (dev : Int) (l : List ClockReading) (mv : Nat), s.boot.pos ≠ .off) ∧
    (∃ (s : State) (src : Nat) (dst : Nat) (ch : Nat), src < 16 ∧ dst < 16 ∧ s.linkUp (Link.mk src dst ch) = true ∧ (Link.mk src dst ch) ∉ s.isl.withheld ∧ bitOn (s.get R.AO_ISLCLK_FAIL_ISLANDS) dst = false ∧ s.coupleInj (Link.mk src dst ch) = none) ∧
    (∃ (s : State) (src : Nat) (dst : Nat) (ch : Nat) (ok : Bool), src < 16 ∧ dst < 16 ∧ s.linkUp (Link.mk src dst ch) = true ∧ (Link.mk src dst ch) ∉ s.isl.withheld) ∧
    (∃ (s : State) (src : Nat) (dst : Nat) (ch : Nat) (ok : Bool) (full : Bool), src < 16 ∧ dst < 16 ∧ Link.mk src dst ch ∈ s.isl.withheld) ∧
    (∃ (s : State) (src : Nat) (dst : Nat) (ch : Nat), src < 16 ∧ dst < 16 ∧ Link.mk src dst ch ∈ s.isl.withheld ∧ bitOn (s.get R.AO_ISLCLK_FAIL_ISLANDS) dst = false) ∧
    (∃ (s : State) (island : Nat) (k : Nat) (err : Nat) (r : AxleRegs), island < 16 ∧ axleRegs island = some r ∧ s.ax.running = true ∧ s.up island = true ∧ k < 8 ∧ s.subStarts k = true ∧ readSub k (flipBits err (s.subBits k)) = none) ∧
    (∃ (s : State) (m : Master) (force : Bool), Accepts s m R.BOOT_CMD_STATUS ∧ 2 ≤ s.get R.BOOT_STAGE_STAGE ∧ (s.role ≠ 1 ∨ force = true) ∧ s.genState = 0) ∧
    (∃ (s : State) (cals : List CalResult) (temp : Int), s.get R.BOOT_STAGE_FABRIC_DOWN = 1 ∧ s.up islMGT = true) :=
  ⟨⟨dev0, 0, [], 0, by decide⟩,
   ⟨dev0, 8, 14, 0, by decide⟩,
   ⟨dev0, 8, 14, 0, true, by decide⟩,
   ⟨st8_0, 8, 14, 0, true, true, by decide⟩,
   ⟨st8_0, 8, 14, 0, by decide⟩,
   ⟨dev0, 13, (8 - 1), 1, ((axleRegs 13)).get (by decide), by decide⟩,
   ⟨dev0, Master.pf0, true, by decide⟩,
   ⟨st8_1, [], 0, by decide⟩⟩

def st9_0 : State := { dev0 with ax := { dev0.ax with started := false } }
def st9_1 : State := sets dev0 [(R.VOTE_STATUS_TS_SET, 0)]
def st9_2 : State := { dev0 with ax := { dev0.ax with steps := [{source := 1, amount := 5},{source := 0, amount := 5}] } }
def st9_3 : State := sets dev0 [(R.VOTE_UTC_VALID, 1), (R.VOTE_LEAP_AT_S, 1002)]
def st9_4 : State := sets dev0 [(R.VOTE_LEAP_CTRL_KIND, (0) + 1)]
theorem witness_ScaleAndLeapSeconds :
    (∃ (s : State) (tick : Nat) (cuts : List (Nat × TxRef)) (ready : Bool), s.ax.running = true ∧ (s.gen.reconf = 0 ∨ ready = false) ∧ s.ax.started = false) ∧
    (∃ (s : State) (tick : Nat) (cuts : List (Nat × TxRef)) (ready : Bool), s.ax.running = true ∧ (s.gen.reconf = 0 ∨ ready = false) ∧ s.ax.started = true ∧ tick = s.ax.v.reach (nextMs s.ax.mark)) ∧
    (∃ (s : State) (m : Master), Accepts s m R.VOTE_CMD_STATUS ∧ s.mode ≠ 3 ∧ s.get R.DUG_STATUS_FOLLOW = 0 ∧ (s.get R.VOTE_STATUS_TS_SET = 0 ∨ s.timeCommitted = false)) ∧
    (∃ (s : State) (m : Master) (low : Word), Open s m (R.VOTE_STEP + 1) ∧ s.get R.VOTE_STATUS_TS_SET = 1 ∧ s.mode ≠ 3 ∧ 0 ≤ s.voteTime 0 + s.stepsWaiting + s.commitS72 m R.VOTE_STEP low * s72U) ∧
    (∃ (s : State) (m : Master) (low : Word), Open s m (R.VOTE_STEP + 1) ∧ s.get R.VOTE_STATUS_TS_SET = 0) ∧
    (∃ (s : State) (m : Master), Accepts s m R.VOTE_CMD_STATUS ∧ s.ax.steps.any (fun q => decide (q.source = 1)) = true) ∧
    (∃ (s : State) (m : Master), Accepts s m R.VOTE_CMD_STATUS ∧ s.ax.steps.any (fun q => decide (q.source = 1)) = false) ∧
    (∃ (s : State) (m : Master) (v : Word), Open s m R.VOTE_UTC) ∧
    (∃ (s : State) (m : Master) (v : Word), Open s m R.VOTE_LEAP_CTRL ∧ R.VOTE_LEAP_CTRL_KIND.of v ≠ 3 ∧ s.get R.VOTE_UTC_VALID = 1 ∧ (s.voteTime 0 / secU).toNat + 2 ≤ s.get R.VOTE_LEAP_AT_S) ∧
    (∃ (s : State) (m : Master) (v : Word), Open s m R.VOTE_LEAP_CTRL ∧ (R.VOTE_LEAP_CTRL_KIND.of v = 3 ∨ s.get R.VOTE_UTC_VALID = 0 ∨ s.get R.VOTE_LEAP_AT_S < (s.voteTime 0 / secU).toNat + 2)) ∧
    (∃ (s : State), s.ax.running = true ∧ s.up islVOTE = true ∧ s.get R.VOTE_LEAP_CTRL_KIND ≠ 0 ∧ s.get R.VOTE_STATUS_LEAP_PEND = 0 ∧ s.get R.VOTE_LEAP_AT_S ≤ s.scaleSec + s.get R.VOTE_LEAP_CTRL_WARN) :=
  ⟨⟨st9_0, 0, [], true, by decide⟩,
   ⟨dev0, (dev0.ax.v.reach (nextMs dev0.ax.mark)), [], true, by decide⟩,
   ⟨dev0, Master.pf0, by decide⟩,
   ⟨dev0, Master.pf0, 0, by decide⟩,
   ⟨st9_1, Master.pf0, 0, by decide⟩,
   ⟨st9_2, Master.pf0, by decide⟩,
   ⟨dev0, Master.pf0, by decide⟩,
   ⟨dev0, Master.pf0, 0, by decide⟩,
   ⟨st9_3, Master.pf0, (R.VOTE_LEAP_CTRL_KIND.put 0 1), by decide⟩,
   ⟨dev0, Master.pf0, 0, by decide⟩,
   ⟨st9_4, by decide⟩⟩

def st10_0 : State := sets dev0 [(R.TCORE_STATE_STATE (3 - 1), 2)]
def st10_1 : State := sets dev0 [(R.TCORE_STATE_STATE (3 - 1), 3)]
def st10_2 : State := let s : State := sets dev0 [(R.TCORE_STATE_STATE (3 - 1), 3)]; let s : State := s.putCore (3 - 1) { s.coreOf (3 - 1) with ready := true }; sets ({ s with ax := { s.ax with secMark := true } }) [(R.VOTE_STATUS_MODE, 2)]
def st10_3 : State := { dev0 with tri := { dev0.tri with shuntReq := some (3 - 1) } }
def st10_4 : State := sets ({ dev0 with tri := { dev0.tri with shuntReq := some (3 - 1) } }) [(R.VOTE_STATUS_MODE, 2)]
def st10_5 : State := sets dev0 [(R.VOTE_STATUS_MODE, 3)]
theorem witness_CoresVoteAndRejoin :
    (∃ (s : State) (k : Nat) (r0 : CoreReport) (r1 : CoreReport) (r2 : CoreReport), s.ax.running = true ∧ s.up islVOTE = true ∧ s.subStarts k = true ∧ s.mode = 1 ∧ s.injWaits 4 = none ∧ ((((if k = 0 then s else { s with ax := { s.ax with v := s.ax.v.turn (6250 * k) (!s.subStarts (k + 1)) } }).upset 0 r0).upset 1 r1).upset 2 r2).outWhy 0 (((((if k = 0 then s else { s with ax := { s.ax with v := s.ax.v.turn (6250 * k) (!s.subStarts (k + 1)) } }).upset 0 r0).upset 1 r1).upset 2 r2).coreInput 0 k r0) (((((if k = 0 then s else { s with ax := { s.ax with v := s.ax.v.turn (6250 * k) (!s.subStarts (k + 1)) } }).upset 0 r0).upset 1 r1).upset 2 r2).coreInput 1 k r1) (((((if k = 0 then s else { s with ax := { s.ax with v := s.ax.v.turn (6250 * k) (!s.subStarts (k + 1)) } }).upset 0 r0).upset 1 r1).upset 2 r2).coreInput 2 k r2) = 0 ∧ ((((if k = 0 then s else { s with ax := { s.ax with v := s.ax.v.turn (6250 * k) (!s.subStarts (k + 1)) } }).upset 0 r0).upset 1 r1).upset 2 r2).outWhy 1 (((((if k = 0 then s else { s with ax := { s.ax with v := s.ax.v.turn (6250 * k) (!s.subStarts (k + 1)) } }).upset 0 r0).upset 1 r1).upset 2 r2).coreInput 1 k r1) (((((if k = 0 then s else { s with ax := { s.ax with v := s.ax.v.turn (6250 * k) (!s.subStarts (k + 1)) } }).upset 0 r0).upset 1 r1).upset 2 r2).coreInput 0 k r0) (((((if k = 0 then s else { s with ax := { s.ax with v := s.ax.v.turn (6250 * k) (!s.subStarts (k + 1)) } }).upset 0 r0).upset 1 r1).upset 2 r2).coreInput 2 k r2) = 0 ∧ ((((if k = 0 then s else { s with ax := { s.ax with v := s.ax.v.turn (6250 * k) (!s.subStarts (k + 1)) } }).upset 0 r0).upset 1 r1).upset 2 r2).outWhy 2 (((((if k = 0 then s else { s with ax := { s.ax with v := s.ax.v.turn (6250 * k) (!s.subStarts (k + 1)) } }).upset 0 r0).upset 1 r1).upset 2 r2).coreInput 2 k r2) (((((if k = 0 then s else { s with ax := { s.ax with v := s.ax.v.turn (6250 * k) (!s.subStarts (k + 1)) } }).upset 0 r0).upset 1 r1).upset 2 r2).coreInput 0 k r0) (((((if k = 0 then s else { s with ax := { s.ax with v := s.ax.v.turn (6250 * k) (!s.subStarts (k + 1)) } }).upset 0 r0).upset 1 r1).upset 2 r2).coreInput 1 k r1) = 0) ∧
    (∃ (s : State) (k : Nat), k < 3 ∧ s.coreSt k = 2 ∧ (s.ctrOf (2 + k)).loadNow = false) ∧
    (∃ (s : State) (k : Nat), k < 3 ∧ s.coreSt k = 3 ∧ (s.coreOf k).probMs ≤ 1) ∧
    (∃ (s : State) (k : Nat), k < 3 ∧ s.coreSt k = 3 ∧ (s.coreOf k).ready = true ∧ s.ax.secMark = true ∧ s.tri.recovering = none ∧ s.mode = 2) ∧
    (∃ (s : State) (k : Nat), k < 3 ∧ s.tri.shuntReq = some k ∧ s.up islVOTE = true ∧ s.mode = 1 ∧ s.coreSt k = 0) ∧
    (∃ (s : State) (k : Nat), k < 3 ∧ s.tri.shuntReq = some k ∧ s.up islVOTE = true ∧ s.mode = 2) ∧
    (∃ (s : State) (m : Master) (donor : Nat), Accepts s m R.VOTE_CMD_STATUS ∧ s.mode = 3 ∧ donor < 3) ∧
    (∃ (s : State) (m : Master) (donor : Nat), Accepts s m R.VOTE_CMD_STATUS ∧ s.mode ≠ 3) :=
  ⟨⟨dev0, 0, rep0, rep0, rep0, by decide⟩,
   ⟨st10_0, (3 - 1), by decide⟩,
   ⟨st10_1, (3 - 1), by decide⟩,
   ⟨st10_2, (3 - 1), by decide⟩,
   ⟨st10_3, (3 - 1), by decide⟩,
   ⟨st10_4, (3 - 1), by decide⟩,
   ⟨st10_5, Master.pf0, (3 - 1), by decide⟩,
   ⟨dev0, Master.pf0, 0, by decide⟩⟩

def st11_0 : State := { dev0 with osc := { dev0.osc with warm := true } }
def st11_1 : State := sets dev0 [(R.VOTE_OSC_STAT_CELL_STATE, 1)]
def st11_2 : State := sets dev0 [(R.VOTE_OSC_STAT_CELL_STATE, 2)]
def st11_3 : State := sets dev0 [(R.VOTE_OSC_STAT_CELL_STATE, 3)]
def st11_4 : State := sets dev0 [(R.VOTE_OSC_STAT_CELL_STATE, 4)]
def st11_5 : State := sets dev0 [(R.VOTE_OSC_STAT_CELL_STATE, (0) + 1)]
theorem witness_CellFindsItsLineAndDisciplines :
    (∃ (s : State), s.boot.pos ≠ .off ∧ s.osc.warm = false ∧ s.up islVOTE = true) ∧
    (∃ (s : State), s.boot.pos ≠ .off ∧ s.osc.warm = true ∧ s.up islVOTE = true) ∧
    (∃ (s : State), s.up islRH = true ∧ s.get R.VOTE_OSC_STAT_CELL_STATE = 1) ∧
    (∃ (s : State), s.up islRH = true ∧ s.get R.VOTE_OSC_STAT_CELL_STATE = 2) ∧
    (∃ (s : State), s.up islRH = true ∧ s.get R.VOTE_OSC_STAT_CELL_STATE = 3) ∧
    (∃ (s : State) (y : Int), s.up islRH = true ∧ s.get R.VOTE_OSC_STAT_CELL_STATE = 4 ∧ -34359738368 ≤ y ∧ y ≤ 34359738367) ∧
    (∃ (s : State) (m : Master), Accepts s m R.VOTE_CELL_CMD_STATUS ∧ (s.get R.VOTE_OSC_STAT_CELL_STATE = 0 ∨ s.get R.VOTE_OSC_STAT_CELL_STATE = 5)) ∧
    (∃ (s : State) (m : Master), Accepts s m R.VOTE_CELL_CMD_STATUS ∧ s.get R.VOTE_OSC_STAT_CELL_STATE ≠ 0) :=
  ⟨⟨dev0, by decide⟩,
   ⟨st11_0, by decide⟩,
   ⟨st11_1, by decide⟩,
   ⟨st11_2, by decide⟩,
   ⟨st11_3, by decide⟩,
   ⟨st11_4, (-34359738368), by decide⟩,
   ⟨dev0, Master.pf0, by decide⟩,
   ⟨st11_5, Master.pf0, by decide⟩⟩

def st12_0 : State := let s : State := sets dev0 [(R.CAND_BIND_RANK 11,1),(R.CAND_BIND_SRC 11,2),(R.CAND_STATUS_BIND_ERR 11,0)]; { (sets s [(R.CAND_BIND_SRC 11,1),(R.CAND_BIND_UNIT 11,2),(R.SEL_REFIN_CFG_MODE 2,1)]) with sel := { s.sel with refStamps := [(2, { stamp := 1000*secU, prev := some (999*secU), cold := false, uncal := false, stale := false, cycles := 5, fresh := true })] } }
def st12_1 : State := let s : State := sets dev0 [(R.CAND_BIND_RANK (12 - 1),1),(R.CAND_BIND_SRC (12 - 1),2),(R.CAND_STATUS_BIND_ERR (12 - 1),0)]; { s with sel := {s.sel with slots := [((12 - 1), {CandSlot.init with fit := [{t := 999*secU, o := 5},{t := 998*secU, o := 6}]})]}}
def st12_2 : State := sets dev0 [(R.CAND_STATUS_STATE (12 - 1), 2)]
def st12_3 : State := sets dev0 [(R.CAND_STATUS_STATE (12 - 1), 3)]
def st12_4 : State := sets dev0 [(R.CAND_STATUS_WTR_RUN (12 - 1), 1)]
def st12_5 : State := sets dev0 [(R.CAND_BIND_SRC (12 - 1), 4)]
theorem witness_CandidatesTakeSamplesAndQualify :
    (∃ (s : State) (k : Nat) (raw : RawSample), k < 12 ∧ s.up islRH = true ∧ s.candOn k = true ∧ ((raw = .pps ∧ s.candPps k = true ∧ (kvGet s.sel.refStamps (s.candUnit k)).any (·.fresh) = true) ∨ (raw = .edges ∧ s.candSrc k = 1 ∧ s.candFreq k = true ∧ (kvGet s.sel.refStamps (s.candUnit k)).any (fun r => r.fresh && r.prev.isSome) = true) ∨ (∃ c i, raw = .phase c i ∧ s.candSrc k = 4) ∨ (∃ i o l, raw = .offset i o l ∧ (s.candSrc k = 2 ∨ s.candSrc k = 3)) ∨ (raw = .cell ∧ s.candSrc k = 6))) ∧
    (∃ (s : State) (k : Nat) (i : Int) (o : Int) (l : Int), k < 12 ∧ s.up islRH = true ∧ s.candOn k = true ∧ s.candSrc k = 2 ∧ isHit (s.slotOf k).fit { t := i, o := o } (s.get (R.CAND_PH_LIM_PS k)) = true) ∧
    (∃ (s : State) (k : Nat) (tick : Nat), k < 12 ∧ s.up islRH = true ∧ s.candSrc k ≠ 6 ∧ 2 ≤ s.candSt k ∧ s.candSt k ≤ 5 ∧ s.candWait k ≤ s.ax.ocxo + quot ((tick : Int) * 64 * nsU) 10 - (s.slotOf k).last) ∧
    (∃ (s : State) (k : Nat), k < 12 ∧ s.up islRH = true ∧ s.candSt k = 3 ∧ (s.slotOf k).qualMs ≤ 1) ∧
    (∃ (s : State) (k : Nat), k < 12 ∧ s.up islRH = true ∧ s.get (R.CAND_STATUS_WTR_RUN k) = 1 ∧ (s.slotOf k).wtrMs ≤ 1) ∧
    (∃ (s : State) (n : Nat) (tick : Nat) (phase : Nat) (tap : Nat), n < 4 ∧ s.up islRH = true ∧ s.get (R.SEL_REFIN_CFG_MODE n) < 2 ∧ s.boot.pins = .driven) ∧
    (∃ (s : State) (k : Nat) (ssm : Nat) (enh : Nat), k < 12 ∧ s.up islRH = true ∧ s.candSrc k = 4 ∧ ssm < 16) :=
  ⟨⟨st12_0, 11, .edges, by decide, by decide, by decide, Or.inr (Or.inl (by decide))⟩,
   ⟨st12_1, (12 - 1), (1000 * secU), (2^60), 0, by decide⟩,
   ⟨st12_2, (12 - 1), 1000000000000000, by decide⟩,
   ⟨st12_3, (12 - 1), by decide⟩,
   ⟨st12_4, (12 - 1), by decide⟩,
   ⟨dev0, (4 - 1), 0, 0, 0, by decide⟩,
   ⟨st12_5, (12 - 1), (16 - 1), 0, by decide⟩⟩

def st13_0 : State := sets dev0 [(R.CAND_STATUS_WTR_RUN (12 - 1), 1)]
def st13_1 : State := let s : State := sets dev0 [(R.SEL_STATUS_STATE, 3), (R.VOTE_STATUS_MODE, 3)]; ({ (sets s [(R.SEL_STATUS_TARGET,2),(R.CAND_STATUS_STATE 2,4),(R.CAND_BIND_SRC 2,2)]) with sel := { s.sel with prepMs := 10000, lockout := 0, manualSwitch := true } }).putSlot 2 { s.slotOf 2 with prep := [{ t := 999*secU, o := 7 }] }
def st13_2 : State := let s : State := sets dev0 [(R.SEL_STATUS_STATE, 3)]; ({ (sets s [(R.SEL_STATUS_TARGET,2),(R.CAND_STATUS_STATE 2,4),(R.CAND_BIND_SRC 2,2)]) with sel := { s.sel with prepMs := 10000, lockout := 0, manualSwitch := true } }).putSlot 2 { s.slotOf 2 with prep := [{ t := 999*secU, o := 7 }] }
def st13_3 : State := let s : State := sets dev0 [(R.SEL_STATUS_STATE, 5)]; { (sets s [(R.SEL_STATUS_SELECTED,3),(R.CAND_STATUS_STATE 3,4)]) with sel := { s.sel with settleMs := 10000000 } }
def st13_4 : State := sets dev0 [(R.SEL_STATUS_STATE, 0 + 1), (R.SEL_STATUS_STATE, 1 + 1)]
def st13_5 : State := { dev0 with sel := { dev0.sel with steering := true } }
theorem witness_SelectorTakesCommandsAndSwitches :
    (∃ (s : State) (m : Master) (k : Nat), Accepts s m R.SEL_CMD_STATUS ∧ k < 12 ∧ s.get (R.CAND_STATUS_WTR_RUN k) = 1) ∧
    (∃ (s : State) (m : Master) (v : Word), Open s m R.SEL_LOCKOUT) ∧
    (∃ (s : State), s.up islRH = true ∧ s.get R.DUG_STATUS_FOLLOW = 0 ∧ s.selSt = 3 ∧ s.getOr R.SEL_PREP_TIME_MS 10 10000 100 ≤ s.sel.prepMs ∧ (s.slotOf s.target).prep ≠ [] ∧ s.switchDead = false ∧ s.mode = 3) ∧
    (∃ (s : State), s.up islRH = true ∧ s.get R.DUG_STATUS_FOLLOW = 0 ∧ s.selSt = 3 ∧ s.getOr R.SEL_PREP_TIME_MS 10 10000 100 ≤ s.sel.prepMs ∧ (s.slotOf s.target).prep ≠ [] ∧ s.switchDead = false ∧ s.mode ≠ 3) ∧
    (∃ (s : State), s.up islRH = true ∧ s.get R.DUG_STATUS_FOLLOW = 0 ∧ s.selSt = 5 ∧ s.selected < 12 ∧ s.candSt s.selected ≠ 1 ∧ 1000 * s.getOr R.SEL_SETTLE_MAX_S 10 3600 600 ≤ s.sel.settleMs) ∧
    (∃ (s : State) (m : Master) (low : Word), Open s m (R.SEL_PHASE_STEP + 1) ∧ (s.selSt = 0 ∨ s.selSt = 1 ∨ s.selSt = 4)) ∧
    (∃ (s : State) (m : Master) (low : Word), Open s m (R.SEL_PHASE_STEP + 1) ∧ s.selSt ≠ 0 ∧ s.selSt ≠ 1 ∧ s.selSt ≠ 4) ∧
    (∃ (s : State), s.up islRH = true ∧ s.sel.steering = true ∧ s.sel.bias = s.sel.biasTarget) :=
  ⟨⟨st13_0, Master.pf0, (12 - 1), by decide⟩,
   ⟨dev0, Master.pf0, 0, by decide⟩,
   ⟨st13_1, by decide⟩,
   ⟨st13_2, by decide⟩,
   ⟨st13_3, by decide⟩,
   ⟨dev0, Master.pf0, 0, by decide⟩,
   ⟨st13_4, Master.pf0, 0, by decide⟩,
   ⟨st13_5, by decide⟩⟩

def st14_0 : State := expert (R.SRV_FEED_CTRL / 512) dev0
def st14_1 : State := sets (expert ((R.SRV_OFFSET_FEED + 1) / 512) dev0) [(R.SRV_FEED_CTRL_HOST, 1)]
def st14_2 : State := expert ((R.SRV_OFFSET_FEED + 1) / 512) dev0
def st14_3 : State := { dev0 with hold := { dev0.hold with fitDue := true } }
def st14_4 : State := let s : State := sets dev0 [(R.HOLD_STATUS_LEARN, 2)]; { s with hold := { s.hold with recSecs := 90000 } }
theorem witness_ServoSendsItsWordAndHoldRecords :
    (∃ (s : State) (k : Nat) (temp : Int), InStep s ∧ s.ax.running = true ∧ s.subStarts k = true) ∧
    (∃ (s : State) (m : Master) (v : Word), InStep s ∧ Open s m R.SRV_FEED_CTRL) ∧
    (∃ (s : State) (m : Master) (low : Word) (tick : Nat), InStep s ∧ Open s m (R.SRV_OFFSET_FEED + 1) ∧ s.get R.SRV_FEED_CTRL_HOST = 1 ∧ (∀ k, (k < 3) → s.linkOpen islRH (2 + k) 0 = true)) ∧
    (∃ (s : State) (m : Master) (low : Word) (tick : Nat), InStep s ∧ Open s m (R.SRV_OFFSET_FEED + 1) ∧ s.get R.SRV_FEED_CTRL_HOST = 0) ∧
    (∃ (s : State), InStep s ∧ s.hold.fitDue = true) ∧
    (∃ (s : State), InStep s ∧ s.learn = 2 ∧ s.srvSt ≠ 4 ∧ s.getOr R.HOLD_REC_PERIOD_S 600 86400 3600 ≤ s.hold.recSecs) :=
  ⟨⟨dev0, 0, 0, by simp only [InStep]; decide⟩,
   ⟨st14_0, Master.pf0, 0, by simp only [InStep]; decide⟩,
   ⟨st14_1, Master.pf0, 0, 0, by simp only [InStep]; decide⟩,
   ⟨st14_2, Master.pf0, 0, 0, by simp only [InStep]; decide⟩,
   ⟨st14_3, by simp only [InStep]; decide⟩,
   ⟨st14_4, by simp only [InStep]; decide⟩⟩

def st15_0 : State := sets ({ dev0 with out := { dev0.out with plls := kvPut dev0.out.plls ((4 - 1)) { dev0.pllOf (4 - 1) with running := true } } }) [(R.PLL_STATUS_STATE (4 - 1), 1)]
def st15_1 : State := sets ({ dev0 with out := { dev0.out with plls := kvPut dev0.out.plls ((4 - 1)) { dev0.pllOf (4 - 1) with running := true } } }) [(R.PLL_STATUS_STATE (4 - 1), 4)]
def st15_2 : State := sets ({ dev0 with out := { dev0.out with plls := kvPut dev0.out.plls ((4 - 1)) { dev0.pllOf (4 - 1) with running := true } } }) [(R.PLL_STATUS_STATE (4 - 1), 2)]
def st15_3 : State := let s : State := sets dev0 [(R.PLL_STATUS_STATE (4 - 1), 3)]; { s with out := { s.out with plls := kvPut s.out.plls ((4 - 1)) { s.pllOf (4 - 1) with held := true } } }
def st15_4 : State := let s : State := sets dev0 [(R.PLL_STATUS_REF_OK (4 - 1), 1)]; sets ({ s with out := { s.out with plls := kvPut s.out.plls ((4 - 1)) { s.pllOf (4 - 1) with refWait := true } } }) [(R.PLL_STATUS_STATE (4 - 1), 4)]
def st15_5 : State := sets dev0 [(R.PG_CTRL_EN (P.PLL (4 - 1)), 0)]
theorem witness_PllsLockAndLoseLock :
    (∃ (s : State) (p : Nat) (band : Nat), p < 4 ∧ s.up islRH = true ∧ (s.pllOf p).running = true ∧ band < 2 ^ (R.PLL_STATUS_BAND p).w ∧ s.get (R.PLL_STATUS_STATE p) = 1) ∧
    (∃ (s : State) (p : Nat) (band : Nat), p < 4 ∧ s.up islRH = true ∧ (s.pllOf p).running = true ∧ band < 2 ^ (R.PLL_STATUS_BAND p).w ∧ s.get (R.PLL_STATUS_STATE p) = 4) ∧
    (∃ (s : State) (p : Nat) (us : Nat) (err : Nat), p < 4 ∧ s.up islRH = true ∧ (s.pllOf p).running = true ∧ (s.get (R.PLL_STATUS_STATE p) = 2 ∨ s.get (R.PLL_STATUS_STATE p) = 4) ∧ us ≤ 300 ∧ err ≤ s.get (R.PLL_LOCK_WIN_PS p)) ∧
    (∃ (s : State) (p : Nat) (err : Nat), p < 4 ∧ s.up islRH = true ∧ s.get (R.PLL_STATUS_STATE p) = 3 ∧ s.unlockWin p < err ∧ (s.pllOf p).held = true) ∧
    (∃ (s : State) (p : Nat) (held : Bool), p < 4 ∧ s.up islRH = true ∧ s.get (R.PLL_STATUS_REF_OK p) = 0) ∧
    (∃ (s : State) (p : Nat), p < 4 ∧ s.up islRH = true ∧ s.get (R.PLL_STATUS_REF_OK p) = 1 ∧ (s.pllOf p).refWait = true ∧ s.get (R.PLL_STATUS_STATE p) = 4 ∧ s.pllServes p = true) ∧
    (∃ (s : State) (m : Master) (p : Nat), p < 4 ∧ Accepts s m (R.PLL_CMD_STATUS p) ∧ s.pllServes p = false) ∧
    (∃ (s : State) (m : Master) (p : Nat), p < 4 ∧ Accepts s m (R.PLL_CMD_STATUS p) ∧ s.pllServes p = true) ∧
    (∃ (s : State) (m : Master) (p : Nat), p < 4 ∧ Open s m (R.PG_CTRL (P.PLL p))) :=
  ⟨⟨st15_0, (4 - 1), (2 ^ (R.PLL_STATUS_BAND (4 - 1)).w - 1), by decide⟩,
   ⟨st15_1, (4 - 1), (2 ^ (R.PLL_STATUS_BAND (4 - 1)).w - 1), by decide⟩,
   ⟨st15_2, (4 - 1), 0, 0, by decide⟩,
   ⟨st15_3, (4 - 1), 1000000000, by decide⟩,
   ⟨dev0, (4 - 1), true, by decide⟩,
   ⟨st15_4, (4 - 1), by decide⟩,
   ⟨st15_5, Master.pf0, (4 - 1), by decide⟩,
   ⟨dev0, Master.pf0, (4 - 1), by decide⟩,
   ⟨dev0, Master.pf0, (4 - 1), by decide⟩⟩

def st16_0 : State := let s : State := sets dev0 [(outSrc (4 - 1), 2)]; s.set (R.PLL_STATUS_STATE (s.get (R.OUT_CLK_CFG_PLL (4 - 1)))) (3)
def st16_1 : State := sets { dev0 with boot := { dev0.boot with timeValid := true } } ((if (8 - 1) < 4 then [(R.OUT_CLK_CFG_EN (8 - 1),1)] else [(R.OUT_PULSE_CFG_EN ((8 - 1)-4),1)]) ++ [(R.BOOT_STAGE_STAGE,4),(R.VOTE_STATUS_TS_SET,1),(R.DUG_STATUS_ROLE,0)] ++ (List.range 4).map (fun p => (R.PLL_STATUS_STATE p, 3)))
def st16_2 : State := let s : State := sets dev0 [(outSrc ((4 - 1) + 4), 1)]; { s with out := { s.out with outs := kvPut s.out.outs (((4 - 1) + 4)) { s.outOf ((4 - 1) + 4) with high := true } } }
def st16_3 : State := sets dev0 [(outSrc ((4 - 1) + 4), 1)]
def st16_4 : State := let s : State := sets dev0 [(outSrc ((4 - 1) + 4), 1)]; { s with out := { s.out with outs := kvPut s.out.outs (((4 - 1) + 4)) { s.outOf ((4 - 1) + 4) with ending := true } } }
def st16_5 : State := sets dev0 [(R.OUT_REALIGN_STATUS, 1)]
def st16_6 : State := sets dev0 [(outSrc (8 - 1), 1)]
theorem witness_OutputsStartMoveAndMute :
    (∃ (s : State) (n : Nat), n < 4 ∧ s.up islRH = true ∧ s.get (outSrc n) = 2 ∧ s.get (R.PLL_STATUS_STATE (s.get (R.OUT_CLK_CFG_PLL n))) = 3) ∧
    (∃ (s : State) (o : Nat), o < 8 ∧ s.up islRH = true ∧ s.get (outSrc o) = 0 ∧ s.outEn o = true ∧ s.get (R.PG_CTRL_EN P.OUT) = 1 ∧ s.startHolds o = true ∧ (s.outOf o).drvHeld = false) ∧
    (∃ (s : State) (n : Nat), n < 4 ∧ s.up islRH = true ∧ s.get (outSrc (n + 4)) = 1 ∧ (s.outOf (n + 4)).high = true) ∧
    (∃ (s : State) (n : Nat), n < 4 ∧ s.up islRH = true ∧ s.get (outSrc (n + 4)) = 1 ∧ (s.outOf (n + 4)).high = false ∧ (s.outOf (n + 4)).ending = false ∧ s.squelched (n + 4) = false) ∧
    (∃ (s : State) (n : Nat), n < 4 ∧ s.up islRH = true ∧ s.get (outSrc (n + 4)) = 1 ∧ (s.outOf (n + 4)).high = false ∧ ((s.outOf (n + 4)).ending = true ∨ s.squelched (n + 4) = true)) ∧
    (∃ (s : State) (m : Master) (clk : Nat) (pulse : Nat) (tick : Nat), Accepts s m R.OUT_REALIGN_STATUS) ∧
    (∃ (s : State), s.up islRH = true ∧ s.get R.OUT_REALIGN_STATUS = 1 ∧ (∀ o, (o < 8) → ((s.outOf o).named = true) → if o < 4 then ((s.outOf o).move.natAbs : Int) ≤ max 1 (s.get R.OUT_CLK_SLEW_PS_PER_US) * nsX else (s.outOf o).move = 0)) ∧
    (∃ (s : State) (o : Nat), o < 8 ∧ s.up islRH = true ∧ (s.get (outSrc o) = 1 ∨ s.get (outSrc o) = 2)) ∧
    (∃ (s : State) (m : Master), Open s m (R.PG_CTRL P.OUT)) :=
  ⟨⟨st16_0, (4 - 1), by decide⟩,
   ⟨st16_1, (8 - 1), by decide⟩,
   ⟨st16_2, (4 - 1), by decide⟩,
   ⟨st16_3, (4 - 1), by decide⟩,
   ⟨st16_4, (4 - 1), by decide⟩,
   ⟨dev0, Master.pf0, 0, 0, 0, by decide⟩,
   ⟨st16_5, by decide⟩,
   ⟨st16_6, (8 - 1), by decide⟩,
   ⟨dev0, Master.pf0, by decide⟩⟩

def st17_0 : State := (sets dev0 [(R.TIC_CFG_START_SRC (8 - 1),13),(R.TIC_CFG_STOP_SRC (8 - 1),14)]).wrT (R.TIC_ARM_AT (8 - 1)) (5000*2^60)
def st17_1 : State := (sets dev0 [(R.TIC_CFG_START_SRC (8 - 1),13),(R.TIC_CFG_STOP_SRC (8 - 1),14)]).wrT (R.TIC_ARM_AT (8 - 1)) 0
def st17_2 : State := let s : State := sets dev0 [(R.TIC_STATUS_STATE (8 - 1), 4)]; { s with tic := { s.tic with tics := kvPut s.tic.tics ((8 - 1)) { s.ticOf (8 - 1) with calKind := 1 } } }
def st17_3 : State := { dev0 with tic := { dev0.tic with tics := kvPut dev0.tic.tics ((8 - 1)) { dev0.ticOf (8 - 1) with armAt := some 0 } } }
def st17_4 : State := (dev0.set (R.TIC_STATUS_STATE (8 - 1)) 1).putTic (8 - 1) { dev0.ticOf (8 - 1) with cfg := { (dev0.ticOf (8 - 1)).cfg with startSrc := 13, stopSrc := 14 } }
def st17_5 : State := (dev0.set (R.TIC_STATUS_STATE (8 - 1)) 1).putTic (8 - 1) { dev0.ticOf (8 - 1) with cfg := { (dev0.ticOf (8 - 1)).cfg with startSrc := 13, stopSrc := 0 } }
def st17_6 : State := (dev0.set (R.TIC_STATUS_STATE (8 - 1)) 1).putTic (8 - 1) { dev0.ticOf (8 - 1) with cfg := { (dev0.ticOf (8 - 1)).cfg with timeout := 5 } }
def st17_7 : State := sets dev0 [(R.TIC_STATUS_STATE (8 - 1), 2)]
def st17_8 : State := sets dev0 [(R.PG_CTRL_EN (P.TIC (8 - 1)), 0)]
def st17_9 : State := dev0.putTic (8 - 1) { dev0.ticOf (8 - 1) with start := .counted 1 [] [] 0, stop := .counted 1 [] [] 0 }
def st17_10 : State := { dev0 with tic := { dev0.tic with pairs := kvPut dev0.tic.pairs ((pairCount - 1)) { dev0.pairOf (pairCount - 1) with swap := true } } }
theorem witness_IntervalCountersMeasureAndCalibrate :
    (∃ (s : State) (m : Master) (k : Nat) (tick : Nat), k < 8 ∧ Accepts s m (R.TIC_CMD_STATUS k) ∧ s.ticServes k = true ∧ (s.ticSt k ≠ 4 ∨ (s.ticOf k).calKind = 2) ∧ (s.ticConfig k).startSrc ≠ 0 ∧ ¬((s.ticConfig k).seq = true ∧ (s.ticConfig k).stopSrc = 0 ∧ (s.ticConfig k).skip ≠ 0) ∧ s.rhTime tick < ofT108 (s.rdT (R.TIC_ARM_AT k))) ∧
    (∃ (s : State) (m : Master) (k : Nat) (tick : Nat), k < 8 ∧ Accepts s m (R.TIC_CMD_STATUS k) ∧ s.ticServes k = true ∧ (s.ticSt k ≠ 4 ∨ (s.ticOf k).calKind = 2) ∧ (s.ticConfig k).startSrc ≠ 0 ∧ ¬((s.ticConfig k).seq = true ∧ (s.ticConfig k).stopSrc = 0 ∧ (s.ticConfig k).skip ≠ 0) ∧ ofT108 (s.rdT (R.TIC_ARM_AT k)) ≤ s.rhTime tick) ∧
    (∃ (s : State) (m : Master) (k : Nat) (tick : Nat), k < 8 ∧ Accepts s m (R.TIC_CMD_STATUS k) ∧ s.ticServes k = true ∧ (s.ticSt k ≠ 4 ∨ (s.ticOf k).calKind = 2) ∧ (s.ticConfig k).startSrc = 0) ∧
    (∃ (s : State) (m : Master) (k : Nat) (tick : Nat), k < 8 ∧ Open s m (R.TIC_CMD k) ∧ s.ticSt k = 4 ∧ (s.ticOf k).calKind = 1) ∧
    (∃ (s : State) (k : Nat) (tick : Nat) (a : Int), k < 8 ∧ s.up islRH = true ∧ (s.ticOf k).armAt = some a ∧ a ≤ s.rhTime tick) ∧
    (∃ (s : State) (k : Nat) (tick : Nat) (phase : Nat) (tap : Nat), k < 8 ∧ s.up islRH = true ∧ s.ticArmed k = true ∧ s.get (R.TIC_STATUS_START_OK k) = 0 ∧ s.ticSrcGives (s.ticOf k).cfg.startSrc tick = true ∧ (s.ticOf k).cfg.stopSrc ≠ 0 ∧ s.get (R.TIC_STATUS_STOP_OK k) = 0) ∧
    (∃ (s : State) (k : Nat) (tick : Nat) (phase : Nat) (tap : Nat), k < 8 ∧ s.up islRH = true ∧ s.ticArmed k = true ∧ s.get (R.TIC_STATUS_START_OK k) = 0 ∧ s.ticSrcGives (s.ticOf k).cfg.startSrc tick = true ∧ (s.ticOf k).cfg.stopSrc = 0) ∧
    (∃ (s : State) (k : Nat), k < 8 ∧ s.up islRH = true ∧ s.ticArmed k = true ∧ (s.ticOf k).cfg.timeout ≠ 0) ∧
    (∃ (s : State) (m : Master) (k : Nat), k < 8 ∧ Open s m (R.TIC_CMD k) ∧ s.ticArmed k = true) ∧
    (∃ (s : State) (m : Master) (k : Nat), k < 8 ∧ Open s m (R.TIC_CMD k) ∧ s.ticArmed k = false ∧ (s.ticOf k).armAt = none) ∧
    (∃ (s : State) (m : Master) (k : Nat), k < 8 ∧ Accepts s m (R.TIC_CMD_STATUS k) ∧ s.ticServes k = false) ∧
    (∃ (s : State) (k : Nat) (temp : Int), k < 8 ∧ s.up islRH = true ∧ s.ticServes k = true ∧ s.get (R.TIC_CAL_CTRL_AUTO k) = 1 ∧ (s.ticSt k = 0 ∨ s.ticSt k = 3 ∨ s.ticSt k = 5) ∧ (s.ticOf k).armAt = none ∧ (s.ticOf k).older.far temp (s.get1 (R.TIC_CAL_CTRL_DTEMP k)) = true) ∧
    (∃ (s : State) (k : Nat) (r0 : CalResult) (r1 : CalResult) (temp : Int), k < 8 ∧ s.up islRH = true ∧ s.ticSt k = 4 ∧ (s.ticOf k).calKind = 1 ∧ s.ticCalWhy k r0 r1 = 0) ∧
    (∃ (s : State) (k : Nat) (r0 : CalResult) (r1 : CalResult) (temp : Int), k < 8 ∧ s.up islRH = true ∧ s.ticSt k = 4 ∧ (s.ticOf k).calKind = 1 ∧ s.ticCalWhy k r0 r1 ≠ 0) ∧
    (∃ (s : State) (m : Master) (k : Nat), k < 8 ∧ Open s m (R.PG_CTRL (P.TIC k))) ∧
    (∃ (s : State) (n : Nat) (r : CalResult) (temp : Int), n < pairCount ∧ s.up (pairIsland n) = true ∧ (s.pairOf n).failed 0 = false ∧ (s.pairOf n).failed 1 = false) ∧
    (∃ (s : State) (n : Nat), n < pairCount ∧ (s.pairOf n).swap = true) :=
  ⟨⟨st17_0, Master.pf0, (8 - 1), 0, by decide⟩,
   ⟨st17_1, Master.pf0, (8 - 1), 0, by decide⟩,
   ⟨dev0, Master.pf0, (8 - 1), 0, by decide⟩,
   ⟨st17_2, Master.pf0, (8 - 1), 0, by decide⟩,
   ⟨st17_3, (8 - 1), 0, 0, by decide⟩,
   ⟨st17_4, (8 - 1), 0, 0, 0, by decide⟩,
   ⟨st17_5, (8 - 1), 0, 0, 0, by decide⟩,
   ⟨st17_6, (8 - 1), by decide⟩,
   ⟨st17_7, Master.pf0, (8 - 1), by decide⟩,
   ⟨dev0, Master.pf0, (8 - 1), by decide⟩,
   ⟨st17_8, Master.pf0, (8 - 1), by decide⟩,
   ⟨st17_9, (8 - 1), 100000000, by decide⟩,
   ⟨st17_2, (8 - 1), okCal, okCal, 0, by decide⟩,
   ⟨st17_2, (8 - 1), cal0, cal0, 0, by decide⟩,
   ⟨dev0, Master.pf0, (8 - 1), by decide⟩,
   ⟨dev0, (pairCount - 1), cal0, 0, by decide⟩,
   ⟨st17_10, (pairCount - 1), by decide⟩⟩

def st18_0 : State := sets dev0 [(R.GNS_STATUS_ENGINE, 2)]
def st18_1 : State := { dev0 with gns := { dev0.gns with chans := kvPut dev0.gns.chans (192 - 1) ({ gchan with st := .track }) } }
def st18_2 : State := { dev0 with gns := { dev0.gns with chans := kvPut dev0.gns.chans (192 - 1) ({ gchan with st := .hot }) } }
def st18_3 : State := let s : State := sets dev0 [(R.GNS_STATUS_ENGINE, 2)]; { s with gns := { s.gns with code := [1#36] } }
def st18_4 : State := let s : State := sets dev0 [(R.GNS_STATUS_ENGINE, 2)]; { s with ax := { s.ax with started := true, secMark := true, marks := 1000 }, gns := { s.gns with epochAt := none } }
def st18_5 : State := { dev0 with gns := { dev0.gns with ready := some ({ gsam with loads := dev0.ax.loads }) } }
def st18_6 : State := { dev0 with gns := { dev0.gns with ready := some ({ gsam with loads := dev0.ax.loads + 1 }) } }
def st18_7 : State := { dev0 with gns := { dev0.gns with jamRun := 2 } }
def st18_8 : State := let s : State := sets dev0 [(R.GNS_STATUS_JAM, 1)]; { s with gns := { s.gns with calmRun := 10 } }
def st18_9 : State := sets dev0 [(R.GNS_STATUS_ANT, 3)]
theorem witness_GnssTracksEpochsAndSupply :
    (∃ (s : State) (ch : Nat) (sig : Nat) (sat : Nat) (dop : Int) (chips : Nat) (sums : Nat), ch < 192 ∧ s.engineRuns = true ∧ sig < 9 ∧ bitOn (s.get R.GNS_CFG_SIG_EN) sig = true ∧ dop.natAbs ≤ (searchSpan (((kvGet s.gns.chans ch).map (·.st)).getD s.gns.search)).1 ∧ chips ≤ (searchSpan (((kvGet s.gns.chans ch).map (·.st)).getD s.gns.search)).2.getD chips ∧ 1 ≤ sums ∧ sums ≤ 20) ∧
    (∃ (s : State) (ch : Nat) (cn0 : Nat) (c : GnsChan), ch < 192 ∧ s.up islGN = true ∧ kvGet s.gns.chans ch = some c ∧ c.st = .track ∧ cn0 < 24) ∧
    (∃ (s : State) (ch : Nat) (cn0 : Nat) (c : GnsChan), ch < 192 ∧ s.up islGN = true ∧ kvGet s.gns.chans ch = some c ∧ c.st = .hot) ∧
    (∃ (s : State), s.engineRuns = true ∧ s.gns.code ≠ []) ∧
    (∃ (s : State) (e : GnssEpoch), s.engineRuns = true ∧ s.get (R.PG_CTRL_EN P.GNS) = 1 ∧ s.epochDue = true) ∧
    (∃ (s : State) (q : GnsSample), s.up islRH = true ∧ s.gns.ready = some q ∧ s.linkOpen islGN islRH 0 = true ∧ s.get (R.PG_STAT_FENCED P.GNS) = 0 ∧ q.loads = s.ax.loads) ∧
    (∃ (s : State) (q : GnsSample), s.up islRH = true ∧ s.gns.ready = some q ∧ s.linkOpen islGN islRH 0 = true ∧ s.get (R.PG_STAT_FENCED P.GNS) = 0 ∧ q.loads ≠ s.ax.loads) ∧
    (∃ (s : State), s.up islGN = true ∧ s.get R.GNS_STATUS_JAM = 0 ∧ 2 ≤ s.gns.jamRun) ∧
    (∃ (s : State), s.up islGN = true ∧ s.get R.GNS_STATUS_JAM = 1 ∧ 10 ≤ s.gns.calmRun) ∧
    (∃ (s : State), s.up islGN = true ∧ s.get R.GNS_STATUS_ANT = 3) ∧
    (∃ (s : State) (ma : Nat) (dv : Nat) (limit : Bool), s.up islGN = true) :=
  ⟨⟨st18_0, (192 - 1), (9 - 1), 0, 0, 0, 1, by decide⟩,
   ⟨st18_1, (192 - 1), (24 - 1), { gchan with st := .track }, by decide⟩,
   ⟨st18_2, (192 - 1), 0, { gchan with st := .hot }, by decide⟩,
   ⟨st18_3, by decide⟩,
   ⟨st18_4, epoch0, by decide⟩,
   ⟨st18_5, { gsam with loads := dev0.ax.loads }, by decide⟩,
   ⟨st18_6, { gsam with loads := dev0.ax.loads + 1 }, by decide⟩,
   ⟨st18_7, by decide⟩,
   ⟨st18_8, by decide⟩,
   ⟨st18_9, by decide⟩,
   ⟨dev0, 0, 0, true, by decide⟩⟩

def st19_0 : State := sets dev0 [(R.GNS_STATUS_ENGINE, 2)]
def st19_1 : State := sets dev0 [(R.PG_STAT_SHUNTED P.GNS, 1)]
def st19_2 : State := { dev0 with gns := { dev0.gns with session := some ([1#36,2#36]) } }
def st19_3 : State := { dev0 with gns := { dev0.gns with session := some ([]) } }
def st19_4 : State := let s : State := sets dev0 [(R.GNS_STATUS_ENGINE, 2), (R.GNS_STATUS_POS, 2)]; { (s.set R.GNS_SURVEY_TIME_S 60) with gns := { s.gns with surveyN := 100000 } }
theorem witness_GnssCommandsSurveyAndCode :
    (∃ (s : State) (m : Master), Accepts s m R.GNS_CMD_STATUS ∧ s.engineRuns = true) ∧
    (∃ (s : State) (m : Master), Accepts s m R.GNS_CMD_STATUS ∧ s.engineRuns = false) ∧
    (∃ (s : State) (m : Master), Accepts s m R.GNS_CMD_STATUS ∧ s.posMode = 0) ∧
    (∃ (s : State) (m : Master), Accepts s m R.GNS_CMD_STATUS ∧ m ≠ .pf1 ∧ s.get (R.PG_STAT_SHUNTED P.GNS) = 1) ∧
    (∃ (s : State) (m : Master), Accepts s m R.GNS_CMD_STATUS ∧ m = .pf1) ∧
    (∃ (s : State) (m : Master) (l : List Word), Accepts s m R.GNS_CMD_STATUS ∧ m ≠ .pf1 ∧ s.gns.session = some l ∧ l ≠ [] ∧ l.length ≤ 524288) ∧
    (∃ (s : State) (m : Master) (w : Word) (l : List Word), Open s m R.GNS_CODE_DATA ∧ s.gns.session = some l) ∧
    (∃ (s : State) (sigma : Nat), s.engineRuns = true ∧ s.get R.GNS_STATUS_POS = 2 ∧ s.surveyTime ≤ s.gns.surveyN ∧ 0 < s.gns.surveyN ∧ sigma ≤ max 1 (s.get R.GNS_SURVEY_SIGMA)) ∧
    (∃ (s : State) (m : Master), Open s m (R.PG_CTRL P.GNS) ∧ s.get (R.PG_CTRL_EN P.GNS) = 1) :=
  ⟨⟨st19_0, Master.pf0, by decide⟩,
   ⟨dev0, Master.pf0, by decide⟩,
   ⟨dev0, Master.pf0, by decide⟩,
   ⟨st19_1, Master.spi, by decide⟩,
   ⟨dev0, Master.pf1, by decide⟩,
   ⟨st19_2, Master.spi, [1#36,2#36], by decide⟩,
   ⟨st19_3, Master.pf0, 0, [], by decide⟩,
   ⟨st19_4, 0, by decide⟩,
   ⟨dev0, Master.pf0, by decide⟩⟩

def st20_0 : State := sets dev0 [(R.PRT_STATUS_LINK (24 - 1), 3)]
def st20_1 : State := sets dev0 [(R.PRT_STATUS_LINK (24 - 1), 2)]
def st20_2 : State := sets dev0 [(R.PRT_STATUS_LINK (24 - 1), 1)]
def st20_3 : State := sets dev0 [(R.PRT_STATUS_LINK (24 - 1), 0 + 1)]
theorem witness_PortsReceiveAndFollowTheirLinks :
    (∃ (s : State) (port : Nat) (st : Stamp) (f : Frame) (bad : Bool) (full : Bool) (codes : Nat) (corr : Nat) (uncorr : Nat), port < 24 ∧ s.up (8 + port / 4) = true ∧ s.link port = 3) ∧
    (∃ (s : State) (port : Nat) (why : Nat) (cut : Option TxRef), port < 24 ∧ 2 ≤ s.link port) ∧
    (∃ (s : State) (port : Nat), port < 24 ∧ s.up (8 + port / 4) = true ∧ s.link port = 1 ∧ s.coachOut (port / 4) = false) ∧
    (∃ (s : State) (port : Nat) (ms : Nat), port < 24 ∧ s.up (8 + port / 4) = true ∧ s.link port = 2 ∧ min 10000 (s.get (R.PRT_LINK_HOLD_MS port)) ≤ ms) ∧
    (∃ (s : State) (m : Master) (port : Nat) (sending : Bool), port < 24 ∧ Open s m (R.PG_CTRL (P.PRT port)) ∧ s.get (R.PG_CTRL_EN (P.PRT port)) = 1 ∧ s.link port ≠ 0) :=
  ⟨⟨st20_0, (24 - 1), st0, fr0, true, true, 0, 0, 0, by decide⟩,
   ⟨st20_1, (24 - 1), 0, none, by decide⟩,
   ⟨st20_2, (24 - 1), by decide⟩,
   ⟨st20_1, (24 - 1), 10000, by decide⟩,
   ⟨st20_3, Master.pf0, (24 - 1), true, by decide⟩⟩

def st21_0 : State := { dev0 with boot := { dev0.boot with rstNext := (24 - 1) } }
def st21_1 : State := sets dev0 [(R.PRT_MODULE_PRESENT (24 - 1), 1)]
def st21_2 : State := { dev0 with pipe := { dev0.pipe with buses := kvPut dev0.pipe.buses ((6 - 1)) { dev0.busOf (6 - 1) with queue := i2c0 :: ([]) } } }
theorem witness_ModulesCageBusAndGears :
    (∃ (s : State) (port : Nat), port < 24 ∧ 2 ≤ s.get R.BOOT_STAGE_STAGE ∧ s.boot.rstNext = port) ∧
    (∃ (s : State) (m : Master) (port : Nat) (rst : Bool), port < 24 ∧ Open s m (R.PRT_MODULE port)) ∧
    (∃ (s : State) (port : Nat) (b : Bool), port < 24 ∧ s.up (8 + port / 4) = true ∧ s.cageOn = true ∧ s.flag (R.PRT_MODULE_PRESENT port) = !b) ∧
    (∃ (s : State) (port : Nat) (b : Bool), port < 24 ∧ s.up (8 + port / 4) = true ∧ s.cageOn = true ∧ s.flag (R.PRT_MODULE_INT port) = !b) ∧
    (∃ (s : State) (m : Master) (port : Nat) (len : Nat) (offset : Nat) (dev : Nat), port < 24 ∧ Accepts s m (R.PRT_I2C_CMD_STATUS port) ∧ (s.busOf (port / 4)).stuck = false ∧ s.get (R.PRT_MODULE_PRESENT port) = 1) ∧
    (∃ (s : State) (m : Master) (port : Nat) (len : Nat) (offset : Nat) (dev : Nat), port < 24 ∧ Accepts s m (R.PRT_I2C_CMD_STATUS port) ∧ (s.busOf (port / 4)).stuck = false ∧ s.get (R.PRT_MODULE_PRESENT port) = 0) ∧
    (∃ (s : State) (c : Nat) (x : I2cTx) (rest : List I2cTx) (data : Nat), c < 6 ∧ (s.busOf c).queue = x :: rest ∧ x.len ≤ 4) ∧
    (∃ (s : State) (c : Nat), c < 6 ∧ s.up (8 + c) = true ∧ s.ax.running = true) :=
  ⟨⟨st21_0, (24 - 1), by decide⟩,
   ⟨dev0, Master.pf0, (24 - 1), true, by decide⟩,
   ⟨dev0, (24 - 1), true, by decide⟩,
   ⟨dev0, (24 - 1), true, by decide⟩,
   ⟨st21_1, Master.pf0, (24 - 1), 0, 0, 0, by decide⟩,
   ⟨dev0, Master.pf0, (24 - 1), 0, 0, 0, by decide⟩,
   ⟨st21_2, (6 - 1), i2c0, [], 0, by decide⟩,
   ⟨dev0, (6 - 1), by decide⟩⟩

def st22_0 : State := addCar (6 - 1) ({ car0 with frame := frP, cid := 0, stage := .parse }) dev0
def st22_1 : State := sets (addCar 1 ({ car0 with cid := 0, stage := .parse, port := 4*1+1, frame := { frP with dst := 0x011B19000000, body := .ptp { ptpD with domain := dev0.cget 1 (R.CO_PTP_CFG_DOMAIN 0) } } }) dev0) [(R.CO_TS_CFG_ETH 1 1,1),(R.CO_TS_CFG_DELAY_REQ 1 1,1),(R.CO_TS_CFG_PTP_PLAIN 1 1,1),(R.PG_CTRL_EN (P.CO 1),1),(R.DUG_STATUS_ROLE,0),(R.FLT_STATUS_SEV_ALL,0),(R.FLT_STATUS_SEV_COACH,0),(R.FLT_STATUS_BRAKE,0),(R.FLT_STATUS_SEV_AUTH,0),(R.PG_STAT_FENCED (P.CO 1),0)]
def st22_2 : State := addCar 1 ({ car0 with cid := 0, stage := .parse, port := 4*1+1, frame := { frP with dst := 0x011B19000000, body := .ptp { ptpD with mtype := 11, domain := dev0.cget 1 (R.CO_PTP_CFG_DOMAIN 0) } } }) dev0
def st22_3 : State := addCar (6 - 1) ({ car0 with cid := 0, stage := .lookup }) dev0
def st22_4 : State := addCar (6 - 1) ({ car0 with frame := frP, cid := 0, stage := .lookup }) dev0
def st22_5 : State := addCar (6 - 1) ({ car0 with cid := 0, stage := .verify }) dev0
def st22_6 : State := sets (addCar 1 ({ car0 with cid := 0, stage := .compose, port := 4*1+1, place := dev0.placeOf (4*1+1), frame := frN }) dev0) [(R.PRT_STATUS_LINK ({ car0 with cid := 0, stage := .compose, port := 4*1+1, place := dev0.placeOf (4*1+1), frame := frN }).port, 3)]
def st22_7 : State := addCar 1 ({ car0 with cid := 0, stage := .composed, port := 4*1+1 }) dev0
def st22_8 : State := dev0.putUp (24 - 1) { UpState.init with master := some 5 }
theorem witness_CarriagesPassFromParseToCompose :
    (∃ (s : State) (c : Nat) (cid : Nat) (k : Carriage) (v : Nat), c < 6 ∧ s.car c cid = some k ∧ k.stage = .parse ∧ s.up (8 + c) = true ∧ s.staleGen k.gen = false ∧ s.classOf k = .verdict v ∧ v ≠ 0) ∧
    (∃ (s : State) (c : Nat) (cid : Nat) (k : Carriage), c < 6 ∧ s.car c cid = some k ∧ k.stage = .parse ∧ s.up (8 + c) = true ∧ s.staleGen k.gen = false ∧ s.classOf k = .verdict 0 ∧ s.classDrop k false = none) ∧
    (∃ (s : State) (c : Nat) (cid : Nat) (k : Carriage) (f : Fld), c < 6 ∧ s.car c cid = some k ∧ k.stage = .parse ∧ s.up (8 + c) = true ∧ s.staleGen k.gen = false ∧ s.classOf k = .drop f) ∧
    (∃ (s : State) (c : Nat) (cid : Nat) (k : Carriage) (hit : Bool) (m : NtpMsg), c < 6 ∧ s.car c cid = some k ∧ k.stage = .lookup ∧ s.up (8 + c) = true ∧ s.staleGen k.gen = false ∧ (hit = true ∨ s.linkOpen (8 + c) islSW 1 = true) ∧ k.frame.body = .ntp m) ∧
    (∃ (s : State) (c : Nat) (cid : Nat) (k : Carriage) (hit : Bool) (m : PtpMsg) (ecc : Bool), c < 6 ∧ s.car c cid = some k ∧ k.stage = .lookup ∧ s.up (8 + c) = true ∧ s.staleGen k.gen = false ∧ (hit = true ∨ s.linkOpen (8 + c) islSW 1 = true) ∧ k.frame.body = .ptp m) ∧
    (∃ (s : State) (c : Nat) (cid : Nat) (k : Carriage) (m : NtpMsg), c < 6 ∧ s.car c cid = some k ∧ k.stage = .verify ∧ s.up (8 + c) = true ∧ s.staleGen k.gen = false ∧ k.frame.body = .ntp m ∧ m.nts = none ∧ s.oldPlace k = false) ∧
    (∃ (s : State) (c : Nat) (cid : Nat) (k : Carriage), c < 6 ∧ s.car c cid = some k ∧ k.stage = .verify ∧ s.up (8 + c) = true ∧ s.staleGen k.gen = false ∧ k.place % 32 / 4 = c) ∧
    (∃ (s : State) (c : Nat) (cid : Nat) (tick : Nat) (k : Carriage) (m : NtpMsg), c < 6 ∧ s.car c cid = some k ∧ k.stage = .compose ∧ s.up (8 + c) = true ∧ s.staleGen k.gen = false ∧ k.origin = 0 ∧ k.frame.body = .ntp m ∧ s.oldPlace k = false ∧ k.port / 4 = c ∧ s.link k.port = 3 ∧ s.reinsEnd = none) ∧
    (∃ (s : State) (c : Nat) (cid : Nat) (k : Carriage), c < 6 ∧ s.car c cid = some k ∧ k.stage = .composed ∧ s.up (8 + c) = true ∧ s.staleGen k.gen = false ∧ k.port / 4 = c) ∧
    (∃ (s : State) (port : Nat) (tick : Nat), port < 24 ∧ (s.upOf port).master.isSome = true ∧ (s.upOf port).annAt + 3 * logSpan (s.upOf port).annLog ≤ (s.ctrOf (8 + port / 4)).at_ tick) :=
  ⟨⟨st22_0, (6 - 1), 0, { car0 with frame := frP, cid := 0, stage := .parse }, 1, by decide⟩,
   ⟨st22_1, 1, 0, { car0 with cid := 0, stage := .parse, port := 4*1+1, frame := { frP with dst := 0x011B19000000, body := .ptp { ptpD with domain := dev0.cget 1 (R.CO_PTP_CFG_DOMAIN 0) } } }, by decide⟩,
   ⟨st22_2, 1, 0, { car0 with cid := 0, stage := .parse, port := 4*1+1, frame := { frP with dst := 0x011B19000000, body := .ptp { ptpD with mtype := 11, domain := dev0.cget 1 (R.CO_PTP_CFG_DOMAIN 0) } } }, (R.CO_TS_OFF_COUNT 1), by decide⟩,
   ⟨st22_3, (6 - 1), 0, { car0 with cid := 0, stage := .lookup }, true, ntpC, by decide⟩,
   ⟨st22_4, (6 - 1), 0, { car0 with frame := frP, cid := 0, stage := .lookup }, true, ptpD, true, by decide⟩,
   ⟨st22_5, (6 - 1), 0, { car0 with cid := 0, stage := .verify }, { ntpC with nts := none }, by decide⟩,
   ⟨st22_5, (6 - 1), 0, { car0 with cid := 0, stage := .verify }, by decide⟩,
   ⟨st22_6, 1, 0, 0, { car0 with cid := 0, stage := .compose, port := 4*1+1, place := dev0.placeOf (4*1+1), frame := frN }, ntpC, by decide⟩,
   ⟨st22_7, 1, 0, { car0 with cid := 0, stage := .composed, port := 4*1+1 }, by decide⟩,
   ⟨st22_8, (24 - 1), 0, by decide⟩⟩

def st23_0 : State := addCar (6 - 1) ({ car0 with cid := 0, stage := .sign }) dev0
def st23_1 : State := addCar (6 - 1) ({ car0 with cid := 0, stage := .sign, depart := some (500*secU), port := 4*(6 - 1) }) dev0
def st23_2 : State := sets (addCar 1 ({ car0 with cid := 3, stage := .seal, port := 4*1+1, place := dev0.placeOf (4*1+1), frame := frN, depart := some (999*secU) }) dev0) [(R.PRT_STATUS_LINK ({ car0 with cid := 3, stage := .seal, port := 4*1+1, place := dev0.placeOf (4*1+1), frame := frN, depart := some (999*secU) }).port,3),(R.PRT_STATUS_TRAINING ({ car0 with cid := 3, stage := .seal, port := 4*1+1, place := dev0.placeOf (4*1+1), frame := frN, depart := some (999*secU) }).port,0),(R.FLT_STATUS_SEV_COACH,0),(R.FLT_STATUS_SEV_ALL,0),(R.GEN_FENCED_ISLANDS,0)]
def st23_3 : State := sets dev0 [(R.CO_MC_CFG_EN ((24 - 1) / 4) ((24 - 1) % 4), 1)]
def st23_4 : State := sets dev0 [(R.PG_STAT_BUSY (P.CO (6 - 1)), 1)]
theorem witness_CarriagesAreSealedLaunchedAndDrained :
    (∃ (s : State) (c : Nat) (cid : Nat) (k : Carriage), c < 6 ∧ s.car c cid = some k ∧ k.stage = .sign ∧ s.up (8 + c) = true ∧ s.staleGen k.gen = false ∧ s.oldPlace k = false) ∧
    (∃ (s : State) (c : Nat) (cid : Nat) (tick : Nat) (k : Carriage) (d : Int), c < 6 ∧ s.car c cid = some k ∧ k.stage ≠ .seal ∧ s.up (8 + c) = true ∧ s.departNow k = some d ∧ k.port / 4 = c ∧ d - s.getOr (R.CO_SEAL_SETUP_NS c) 200 2000 400 * nsU ≤ (s.ctrOf (8 + c)).at_ tick) ∧
    (∃ (s : State) (c : Nat) (cid : Nat) (tick : Nat) (st : Stamp) (k : Carriage) (d : Int) (m : NtpMsg), c < 6 ∧ s.car c cid = some k ∧ k.stage = .seal ∧ s.up (8 + c) = true ∧ s.staleGen k.gen = false ∧ s.departNow k = some d ∧ k.frame.body = .ntp m ∧ k.port / 4 = c ∧ s.noLaunch k = false ∧ (wireSpan (s.portMode k.port) k.frame.len (d - ofPs (s.cdelay k.gen (R.PRT_DELAY_TX_PS k.port)))).1 ≤ (s.ctrOf (8 + c)).at_ (tick + 1)) ∧
    (∃ (s : State) (port : Nat) (tick : Nat), port < 24 ∧ s.up (8 + port / 4) = true ∧ bitOn s.shunt.coaches (port / 4) = false ∧ s.get (R.CO_MC_CFG_EN (port / 4) (port % 4)) = 1 ∧ atMultiple ((s.ctrOf (8 + port / 4)).at_ tick) (toSigned 4 (s.get (R.CO_MC_CFG_LOG_ANN (port / 4) (port % 4)))) = true ∧ s.mayCreate (port / 4) true (s.flag (R.CO_MC_CFG_AUTH (port / 4) (port % 4))) ((s.ctrOf (8 + port / 4)).at_ tick) = true) ∧
    (∃ (s : State) (m : Master) (c : Nat), c < 6 ∧ Open s m (R.PG_CTRL (P.CO c)) ∧ s.get (R.PG_CTRL_EN (P.CO c)) = 1) ∧
    (∃ (s : State) (c : Nat), c < 6 ∧ s.get (R.PG_STAT_BUSY (P.CO c)) = 1 ∧ s.coachBusy c = false ∧ s.host.enAsked = []) :=
  ⟨⟨st23_0, (6 - 1), 0, { car0 with cid := 0, stage := .sign }, by decide⟩,
   ⟨st23_1, (6 - 1), 0, 0, { car0 with cid := 0, stage := .sign, depart := some (500*secU), port := 4*(6 - 1) }, ((st23_1.departNow ({ car0 with cid := 0, stage := .sign, depart := some (500*secU), port := 4*(6 - 1) }))).get (by decide), by decide⟩,
   ⟨st23_2, 1, 3, 0, st0, { car0 with cid := 3, stage := .seal, port := 4*1+1, place := dev0.placeOf (4*1+1), frame := frN, depart := some (999*secU) }, ((st23_2.departNow ({ car0 with cid := 3, stage := .seal, port := 4*1+1, place := dev0.placeOf (4*1+1), frame := frN, depart := some (999*secU) }))).get (by decide), ntpC, by decide⟩,
   ⟨st23_3, (24 - 1), 0, by decide⟩,
   ⟨dev0, Master.pf0, (6 - 1), by decide⟩,
   ⟨st23_4, (6 - 1), by decide⟩⟩

def st24_0 : State := sets (addCar (6 - 1) ({ car0 with cid := 0, stage := .forward }) ({ dev0 with pipe := { dev0.pipe with coaches := kvPut dev0.pipe.coaches ((6 - 1)) { dev0.coachOf (6 - 1) with toSw := 0 :: ([1,2]) } } })) [(R.PG_CTRL_EN P.SWF, 0)]
def st24_1 : State := addCar 1 ({ car0 with cid := 0, stage := .forward, verdict := 3 }) ({ dev0 with pipe := { dev0.pipe with coaches := kvPut dev0.pipe.coaches (1) { dev0.coachOf 1 with toSw := 0 :: ([1,2]) } } })
def st24_2 : State := addSwf { swf0 with copies := [{ copy0 with dst := 5 }] } { dev0 with sw := { dev0.sw with banks := [(208*1+8*5+2,[cell0])] } }
def st24_3 : State := addSwf ({ swf0 with input := 0, fid := 0, st := 0 }) dev0
def st24_4 : State := { dev0 with sw := { dev0.sw with frames := [], waiting := [], fseq := [(fseqKey 0 (7 - 1) 0, 3)] } }
def st24_5 : State := sets { dev0 with sw := { dev0.sw with frames := [{ swf0 with copies := [{ copy0 with spilled := true, cells := 2 }] }] } } [(R.BUF_SPILL_AT_CELLS, 1000)]
def st24_6 : State := sets { dev0 with sw := { dev0.sw with frames := [{ swf0 with admT := 0 }] } } [(R.BUF_MAX_AGE_MS, 1000)]
theorem witness_SwitchStoresReleasesAndDropsFrames :
    (∃ (s : State) (c : Nat) (slot : Nat) (cid : Nat) (rest : List Nat) (k : Carriage), c < 6 ∧ s.linkOpen (8 + c) islSW 0 = true ∧ (s.coachOf c).toSw = cid :: rest ∧ s.staleGen k.gen = false ∧ k.port < 24 ∧ (s.coachOf c).cars.find? (fun x => decide (x.cid = cid ∧ x.stage = .forward)) = some k ∧ s.swOn = false) ∧
    (∃ (s : State) (c : Nat) (slot : Nat) (cid : Nat) (rest : List Nat) (k : Carriage), c < 6 ∧ s.linkOpen (8 + c) islSW 0 = true ∧ (s.coachOf c).toSw = cid :: rest ∧ s.staleGen k.gen = false ∧ k.port < 24 ∧ (s.coachOf c).cars.find? (fun x => decide (x.cid = cid ∧ x.stage = .forward)) = some k ∧ s.swOn = true ∧ k.verdict = 3 ∧ (s.toSlot slot).refusal k.gen (s.pcpClass k.gen k.frame) (cellsOf (s.cget k.gen (R.PRT_FRAME_MAX_BYTES k.port))) 24 ((s.toSlot slot).spillDue k.gen (s.pcpClass k.gen k.frame) 24) = 0) ∧
    (∃ (s : State) (out : Nat) (slot : Nat) (q : Nat) (cls : Nat) (w : SwPart) (x : Cell) (rest : List Cell) (f : SwFrame), out < 7 ∧ s.up islSW = true ∧ s.outOpen out = true ∧ s.sw.slot ≤ slot ∧ kvGetD s.sw.sent out 0 ≤ slot ∧ (s.toSlot slot).pickCell ((out + slot) % 8) out = some (q, cls, w) ∧ kvGetD w.banks (208 * ((out + slot) % 8) + 8 * q + cls) [] = x :: rest ∧ q ≠ 25 ∧ (s.toSlot slot).swFrame x.input x.fid = some f ∧ f.copies.any (fun k => decide (k.dst = q) && !k.spilled) = true ∧ s.injWaits 1 = none) ∧
    (∃ (s : State) (out : Nat) (input : Nat) (fid : Nat) (v : Nat) (f : SwFrame), out < 7 ∧ s.swFrame input fid = some f ∧ f.fseq.find? (fun e => decide (e.1 = out)) = some (out, v) ∧ kvGetD s.sw.waiting (fseqKey input out f.cls) 0 = v ∧ f.st = 0 ∧ (∃ x ∈ f.copies, fabOut x.dst = out ∧ x.spilled = false) ∧ (∀ x ∈ f.copies, fabOut x.dst = out → x.spilled = false → x.cells = f.total ∧ x.ready = false)) ∧
    (∃ (s : State) (out : Nat) (input : Nat) (cls : Nat) (us : Nat), out < 7 ∧ (kvGetD s.sw.waiting (fseqKey input out cls) 0) ≠ kvGetD s.sw.fseq (fseqKey input out cls) 0 ∧ min 1000 (max 1 (s.get R.SWF_RESEQ_TMO_US)) ≤ us ∧ (∀ f, (s.sw.frames.find? (fun f => decide (f.input = input ∧ f.cls = cls) && f.fseq.contains (out, (kvGetD s.sw.waiting (fseqKey input out cls) 0))) = some f) → ∀ x ∈ f.copies, fabOut x.dst = out → x.cells = 0)) ∧
    (∃ (s : State) (dst : Nat) (cls : Nat) (slot : Nat) (f : SwFrame), dst < 25 ∧ ((s.toSlot slot).queue dst cls).find? (fun f => f.copies.any (fun x => decide (x.dst = dst) && x.spilled)) = some f ∧ (((s.toSlot slot).queue dst cls).takeWhile (fun g => !g.is f.input f.fid)).all (fun g => g.copies.all (fun x => decide (x.dst ≠ dst) || x.ready)) = true ∧ f.copies.all (fun x => decide (x.dst ≠ dst) || decide (x.cells = f.total)) = true ∧ 2 * (s.toSlot slot).queueCells dst cls true < (s.toSlot slot).cget f.gen R.BUF_SPILL_AT_CELLS ∧ s.injWaits 3 = none) ∧
    (∃ (s : State) (dst : Nat) (cls : Nat) (f : SwFrame) (l : List SwFrame), dst < 25 ∧ cls < 8 ∧ s.queue dst cls = f :: l ∧ s.cget f.gen R.BUF_MAX_AGE_MS ≠ 0 ∧ (∀ x ∈ f.copies, x.dst = dst → x.entered = false) ∧ (s.cget f.gen R.BUF_MAX_AGE_MS : Int) * msU - msU ≤ s.ax.mark - f.admT) ∧
    (∃ (s : State) (m : Master) (slot : Nat), Open s m (R.PG_CTRL P.SWF) ∧ s.get (R.PG_CTRL_EN P.SWF) = 1) ∧
    (∃ (s : State) (fails : Nat) (ecc : Nat) (spill : Option (Nat × Nat)), s.up islSW = true) ∧
    (∃ (s : State) (temp : Int) (load : Nat), s.up islSW = true ∧ -131072 ≤ temp ∧ temp < 131072) :=
  ⟨⟨st24_0, (6 - 1), 0, 0, [1,2], { car0 with cid := 0, stage := .forward }, by decide⟩,
   ⟨st24_1, 1, 0, 0, [1,2], { car0 with cid := 0, stage := .forward, verdict := 3 }, by decide⟩,
   ⟨st24_2, 1, 8, 5, 2, ((match (st24_2.toSlot 8).pickCell ((1 + 8) % 8) 1 with | some (_, _, w) => [w] | none => []) : List (SwPart)).headD (dev0.sw), cell0, [], (((st24_2.toSlot 8).swFrame 1 9)).get (by decide), by decide⟩,
   ⟨st24_3, 0, 0, 0, 0, { swf0 with input := 0, fid := 0, st := 0 }, by decide⟩,
   ⟨st24_4, (7 - 1), 0, 0, 1000, by decide⟩,
   ⟨st24_5, 3, 2, 0, { swf0 with copies := [{ copy0 with spilled := true, cells := 2 }] }, by decide⟩,
   ⟨st24_6, 3, 2, ((st24_6.queue 3 2).head?).get (by decide), (st24_6.queue 3 2).drop 1, by decide⟩,
   ⟨dev0, Master.pf0, 0, by decide⟩,
   ⟨dev0, 0, 0, none, by decide⟩,
   ⟨dev0, (-131072), 0, by decide⟩⟩

def st25_0 : State := addSwf { swf0 with cls := 2, bound := 2, copies := [{ copy0 with dst := (24 - 1), ready := true }] } (sets dev0 [(R.PRT_STATUS_LINK (24 - 1), 3)])
theorem witness_EgressSchedulerSendsTheHead :
    (∃ (s : State) (port : Nat) (cls : Nat) (ecc : Nat) (st : Stamp) (f : SwFrame), port < 24 ∧ s.headOf port cls = some f ∧ s.link port = 3 ∧ s.paused port cls (s.stampOf (9 + 2 * port) st) = false ∧ (∀ r ∈ s.reserved port, spansMeet (wireSpan (s.portMode port) f.frame.len (s.stampOf (9 + 2 * port) st)) r = false) ∧ s.coachLost (port / 4) = false ∧ s.staleGen f.gen = false ∧ ecc < 2) :=
  ⟨st25_0, (24 - 1), 2, (2 - 1), st0, ((st25_0.headOf (24 - 1) 2)).get (by decide), by decide⟩

def st26_0 : State := { dev0 with sw := { dev0.sw with fdb := [{mac := dev0.fdbMac, ports := 0xFFFFFF, host := false, isStatic := true, seen := 0}] } }
theorem witness_ForwardingTableCommands :
    (∃ (s : State), s.up islSW = true ∧ s.get R.SWF_FDB_AGE_S ≠ 0) ∧
    (∃ (s : State) (m : Master), Accepts s m R.SWF_FDB_CMD_STATUS ∧ ((s.fdbSetOf s.fdbMac).filter (fun x => decide (x.mac ≠ s.fdbMac))).length < 4) ∧
    (∃ (s : State) (m : Master), Accepts s m R.SWF_FDB_CMD_STATUS ∧ (s.fdbFind s.fdbMac).isSome = true) ∧
    (∃ (s : State) (m : Master), Accepts s m R.SWF_FDB_CMD_STATUS ∧ s.fdbFind s.fdbMac = none) ∧
    (∃ (s : State) (m : Master) (e : FdbEntry), Accepts s m R.SWF_FDB_CMD_STATUS ∧ s.fdbFind s.fdbMac = some e ∧ e.ports < 2 ^ 24) :=
  ⟨⟨dev0, by decide⟩,
   ⟨dev0, Master.pf0, by decide⟩,
   ⟨st26_0, Master.pf0, by decide⟩,
   ⟨dev0, Master.pf0, by decide⟩,
   ⟨st26_0, Master.pf0, ((st26_0.fdbFind st26_0.fdbMac)).get (by decide), by decide⟩⟩

def st27_0 : State := winE ent0 (addCl 7 { ent0 with state := 1 } dev0)
def st27_1 : State := addEnt (dev0.get R.CLT_CMD_IDX_INDEX) ent0 dev0
def st27_2 : State := sets dev0 [(R.CLT_CMD_IDX_INDEX, 1048576)]
def st27_3 : State := winE { ent0 with port := 6 } ((addCl 7 ({ ent0 with state := 1 }) dev0).set R.CLT_CMD_IDX_INDEX 7)
def st27_4 : State := winE { ent0 with mac := 5 } ((addCl 7 ({ ent0 with state := 1 }) dev0).set R.CLT_CMD_IDX_INDEX 7)
def st27_5 : State := winE { ent0 with port := 24 } dev0
def st27_6 : State := fullTable (List.replicate 1048576 (0, ent0))
theorem witness_ClientCommandsWorkOnTheTable :
    (∃ (s : State) (m : Master) (i : Nat), Accepts s m R.CLT_CMD_STATUS ∧ s.findClient s.windowEntry.port s.windowEntry.portId = some i ∧ i < 1048576) ∧
    (∃ (s : State) (m : Master) (e : ClientEntry), Accepts s m R.CLT_CMD_STATUS ∧ s.entry (s.get R.CLT_CMD_IDX_INDEX) = some e ∧ s.get R.CLT_CMD_IDX_INDEX < 1048576) ∧
    (∃ (s : State) (m : Master), Accepts s m R.CLT_CMD_STATUS ∧ 1048576 ≤ s.get R.CLT_CMD_IDX_INDEX) ∧
    (∃ (s : State) (m : Master) (i : Nat) (o : ClientEntry), Accepts s m R.CLT_CMD_STATUS ∧ s.cltNamed = some (i, o) ∧ s.windowEntry.port ≠ o.port) ∧
    (∃ (s : State) (m : Master) (i : Nat) (o : ClientEntry) (e : ClientEntry), Accepts s m R.CLT_CMD_STATUS ∧ s.cltNamed = some (i, o) ∧ e = { s.windowEntry with state := o.state, port := o.port, annSeq := o.annSeq, syncSeq := o.syncSeq, annOk := s.windowEntry.annOk && o.annG } ∧ s.windowEntry.port = o.port ∧ s.overBudget (s.get R.GEN_IN_FORCE_GEN) (some o) e = false ∧ s.placeable i (some o) e = true) ∧
    (∃ (s : State) (m : Master), Accepts s m R.CLT_CMD_STATUS ∧ s.cltNamed = none) ∧
    (∃ (s : State) (m : Master), Accepts s m R.CLT_CMD_STATUS ∧ 23 < s.windowEntry.port) ∧
    (∃ (s : State) (m : Master), Accepts s m R.CLT_CMD_STATUS ∧ s.windowEntry.port ≤ 23 ∧ s.findClient s.windowEntry.port s.windowEntry.portId = none ∧ s.cltFree = 0) ∧
    (∃ (s : State) (m : Master) (e : ClientEntry), Accepts s m R.CLT_CMD_STATUS ∧ e = { s.windowEntry with state := 1, annOk := false, upEpoch := (s.portOf s.windowEntry.port).ups % 16, lastDreq := dreqStart s.ax.mark, place := s.placeOf (s.freeLane (s.windowEntry.port / 4)) } ∧ s.windowEntry.port ≤ 23 ∧ s.findClient s.windowEntry.port s.windowEntry.portId = none ∧ s.cltFree ≠ 0 ∧ s.overBudget (s.get R.GEN_IN_FORCE_GEN) none e = false ∧ s.placeable noClient none e = true) :=
  ⟨⟨st27_0, Master.pf0, ((st27_0.findClient st27_0.windowEntry.port st27_0.windowEntry.portId)).get (by decide), by decide⟩,
   ⟨st27_1, Master.pf0, ent0, by decide⟩,
   ⟨st27_2, Master.pf0, by decide⟩,
   ⟨st27_3, Master.pf0, 7, { ent0 with state := 1 }, by decide⟩,
   ⟨st27_4, Master.pf0, 7, { ent0 with state := 1 }, { st27_4.windowEntry with state := ({ ent0 with state := 1 }).state, port := ({ ent0 with state := 1 }).port, annSeq := ({ ent0 with state := 1 }).annSeq, syncSeq := ({ ent0 with state := 1 }).syncSeq, annOk := st27_4.windowEntry.annOk && ({ ent0 with state := 1 }).annG }, by decide⟩,
   ⟨dev0, Master.pf0, by decide⟩,
   ⟨st27_5, Master.pf0, by decide⟩,
   ⟨st27_6, Master.pf0, (full_table _).1, (full_table _).2.1, (full_table _).2.2, (full_free _).trans full_length⟩,
   ⟨dev0, Master.pf0, { dev0.windowEntry with state := 1, annOk := false, upEpoch := (dev0.portOf dev0.windowEntry.port).ups % 16, lastDreq := dreqStart dev0.ax.mark, place := dev0.placeOf (dev0.freeLane (dev0.windowEntry.port / 4)) }, by decide⟩⟩

def st28_0 : State := addEnt 0 ({ ent0 with state := 1, annEnd := 900, syncEnd := 900, drespEnd := 900, drespG := true }) dev0
def st28_1 : State := { (addCl 0 ent0 dev0) with ax := { dev0.ax with marks := 17000 } }
theorem witness_GrantsExpireAndEntriesAreFreed :
    (∃ (s : State) (i : Nat) (mtype : Nat) (e : ClientEntry), s.entry i = some e ∧ e.state = 1 ∧ grantBit e mtype = true ∧ granted e mtype s.ax.mark = false) ∧
    (∃ (s : State) (i : Nat) (e : ClientEntry), s.entry i = some e ∧ e.state = 2 ∧ kvGetD s.clt.drainAt i 0 + 17000 ≤ s.ax.marks) ∧
    (∃ (s : State), s.up islSW = true) :=
  ⟨⟨st28_0, 0, 0, { ent0 with state := 1, annEnd := 900, syncEnd := 900, drespEnd := 900, drespG := true }, by decide⟩,
   ⟨st28_1, 0, ent0, by decide⟩,
   ⟨dev0, by decide⟩⟩

def st29_0 : State := dev0.putWheel (6 - 1) { slots := [((slotCount ((dev0.ctrOf (8 + (6 - 1))).at_ 0) % 16384).toNat, [ttr])], work := [], rebuilding := false }
def st29_1 : State := (addEnt 7 ({ ent0 with state := 1, port := 4*1+1, syncEnd := 5000, isStatic := true }) dev0).putWheel 1 { slots := [], work := [({slot := 3, start := 1000*secU, count := 1, left := [ttr]})], rebuilding := false }
def st29_2 : State := (addEnt 7 ({ ent0 with state := 1, port := 4*1+1, isStatic := true }) (sets dev0 [(R.PRT_STATUS_LINK (4*1+1),3),(R.DUG_STATUS_ROLE,0),(R.PG_CTRL_EN (P.CO 1),1),(R.FLT_STATUS_SEV_ALL,0),(R.FLT_STATUS_SEV_COACH,0),(R.FLT_STATUS_BRAKE,0),(R.FLT_STATUS_SEV_AUTH,0),(R.PG_STAT_FENCED (P.CO 1),0),(R.GEN_FENCED_ISLANDS,0)])).putWheel 1 { slots := [], work := [({slot := 3, start := 1000*secU, count := 1, left := [{ ttr with sync := false }]})], rebuilding := false }
def st29_3 : State := let s : State := { dev0 with clt := { dev0.clt with toBuild := [(6 - 1)] } }; { s with clt := { s.clt with wheels := kvPut s.clt.wheels ((6 - 1)) { s.wheel (6 - 1) with rebuilding := true } } }
theorem witness_WheelVisitsCreateCarriages :
    (∃ (s : State) (c : Nat) (tick : Nat) (n : Nat) (l : List TtRecord), c < 6 ∧ s.linkOpen (8 + c) islSW 1 = true ∧ n = (slotCount ((s.ctrOf (8 + c)).at_ tick) % 16384).toNat ∧ l = kvGetD (s.wheel c).slots n [] ∧ (∀ k ∈ (s.wheel c).work, k.start ≠ slotCount ((s.ctrOf (8 + c)).at_ tick) * slotU) ∧ l ≠ [] ∧ l.length < 2 ^ 20 ∧ s.injWaits 3 = none) ∧
    (∃ (s : State) (c : Nat) (tick : Nat) (k : SlotWork) (rest : List SlotWork) (r : TtRecord) (left : List TtRecord) (e : ClientEntry), c < 6 ∧ s.linkOpen (8 + c) islSW 1 = true ∧ s.injWaits 3 = none ∧ (s.wheel c).work = k :: rest ∧ k.left = r :: left ∧ s.entry r.client = some e ∧ k.start + slotU * (k.count - k.left.length : Nat) / k.count ≤ (s.ctrOf (8 + c)).at_ tick ∧ granted e (if r.sync then 0 else 0xB) ((s.ctrOf (8 + c)).at_ tick) = true ∧ (s.portUp e.port = false ∨ s.coachOut c = true)) ∧
    (∃ (s : State) (c : Nat) (tick : Nat) (k : SlotWork) (rest : List SlotWork) (r : TtRecord) (left : List TtRecord) (e : ClientEntry), c < 6 ∧ s.linkOpen (8 + c) islSW 1 = true ∧ s.injWaits 3 = none ∧ (s.wheel c).work = k :: rest ∧ k.left = r :: left ∧ s.entry r.client = some e ∧ k.start + slotU * (k.count - k.left.length : Nat) / k.count ≤ (s.ctrOf (8 + c)).at_ tick ∧ granted e (if r.sync then 0 else 0xB) ((s.ctrOf (8 + c)).at_ tick) = true ∧ r.sync = false ∧ s.portUp e.port = true ∧ s.coachOut c = false ∧ (s.ctrOf (8 + c)).at_ tick ≤ k.start + slotU ∧ (s.wheel c).rebuilding = false ∧ s.mayCreate c true e.auth ((s.ctrOf (8 + c)).at_ tick) = true) ∧
    (∃ (s : State) (m : Master) (c : Nat), c < 6 ∧ Accepts s m R.TTB_CMD_STATUS ∧ s.clt.toBuild = [] ∧ (s.wheel c).rebuilding = false) ∧
    (∃ (s : State) (c : Nat), c < 6 ∧ s.clt.toBuild = [c] ∧ (s.wheel c).rebuilding = true) :=
  ⟨⟨st29_0, (6 - 1), 0, (slotCount ((st29_0.ctrOf (8 + (6 - 1))).at_ 0) % 16384).toNat, (kvGetD (st29_0.wheel (6 - 1)).slots ((slotCount ((st29_0.ctrOf (8 + (6 - 1))).at_ 0) % 16384).toNat) []), by decide⟩,
   ⟨st29_1, 1, 100000, {slot := 3, start := 1000*secU, count := 1, left := [ttr]}, [], ttr, [], { ent0 with state := 1, port := 4*1+1, syncEnd := 5000, isStatic := true }, by decide⟩,
   ⟨st29_2, 1, 10, {slot := 3, start := 1000*secU, count := 1, left := [{ ttr with sync := false }]}, [], { ttr with sync := false }, [], { ent0 with state := 1, port := 4*1+1, isStatic := true }, by decide⟩,
   ⟨dev0, Master.pf0, (6 - 1), by decide⟩,
   ⟨st29_3, (6 - 1), by decide⟩⟩

def st30_0 : State := (dev0.keySet Master.pf0 R.KEY_SEL_SLOT 5).keySet Master.pf0 R.KEY_NEW_ATTR_ATTR (8 + 2^10)
def st30_1 : State := kS 5 (fun x => { x with st := 2 }) ((dev0.keySet Master.pf0 R.KEY_SEL_SLOT 5).keySet Master.pf0 R.KEY_NEW_ATTR_ATTR (8 + 2^10))
def st30_2 : State := let s : State := dev0.keySet Master.pf0 R.KEY_SEL_SLOT 5; let s : State := { s with key := { s.key with slots := kvPut s.key.slots (5) { s.slotK 5 with st := 1 } } }; { (kS 5 (fun x => { x with attr := 2 + 0xFFE0 }) s) with key := { (kS 5 (fun x => { x with attr := 2 + 0xFFE0 }) s).key with fuses := 2, owner := some 9 } }
def st30_3 : State := let s : State := dev0.keySet Master.pf0 R.KEY_SEL_SLOT 5; { s with key := { s.key with slots := kvPut s.key.slots (5) { s.slotK 5 with st := 1 } } }
def st30_4 : State := let s : State := dev0.keySet Master.pf0 R.KEY_SEL_SLOT 5; kS 5 (fun x => { x with attr := 1 + 0xFFE0 }) ({ s with key := { s.key with slots := kvPut s.key.slots (5) { s.slotK 5 with st := 1 } } })
def st30_5 : State := let s : State := dev0.keySet Master.pf0 R.KEY_SEL_SLOT 5; kS 9 (fun x => { x with st := 1, attr := 16 + 0xFFE0, act := some kver }) (kS 5 (fun x => { x with attr := 8 + 0xFFE0 }) ({ s with key := { s.key with slots := kvPut s.key.slots (5) { s.slotK 5 with st := 1 } } }))
def st30_6 : State := let s : State := dev0.keySet Master.pf0 R.KEY_SEL_SLOT 5; { s with key := { s.key with slots := kvPut s.key.slots (5) { s.slotK 5 with pend := some kver } } }
theorem witness_KeySourcesWriteThePendingVersion :
    (∃ (s : State) (m : Master) (k : Nat), KeyTurn s m ∧ k = s.keyGet m R.KEY_SEL_SLOT ∧ ((m = .pf1) → attrOps (s.keyGet m R.KEY_NEW_ATTR_ATTR) = true) ∧ (s.slotK k).st = 0 ∧ attrOk (s.keyGet m R.KEY_NEW_ATTR_ATTR) = true) ∧
    (∃ (s : State) (m : Master) (k : Nat), KeyTurn s m ∧ k = s.keyGet m R.KEY_SEL_SLOT ∧ ((m = .pf1) → attrOps (s.keyGet m R.KEY_NEW_ATTR_ATTR) = true) ∧ (s.slotK k).st ≠ 0) ∧
    (∃ (s : State) (m : Master) (k : Nat) (root : Nat), KeyTurn s m ∧ k = s.keyGet m R.KEY_SEL_SLOT ∧ ((m = .pf1) → attrOps (s.slotK k).attr = true) ∧ (s.slotK k).st = 1 ∧ s.root = some root) ∧
    (∃ (s : State) (m : Master) (k : Nat), KeyTurn s m ∧ k = s.keyGet m R.KEY_SEL_SLOT ∧ ((m = .pf1) → attrOps (s.slotK k).attr = true) ∧ (s.slotK k).st = 1 ∧ attrUsage (s.slotK k).attr ≠ 1) ∧
    (∃ (s : State) (m : Master) (k : Nat), KeyTurn s m ∧ k = s.keyGet m R.KEY_SEL_SLOT ∧ ((m = .pf1) → attrOps (s.slotK k).attr = true) ∧ (s.slotK k).st = 1 ∧ attrUsage (s.slotK k).attr = 1) ∧
    (∃ (s : State) (m : Master) (k : Nat) (src : Nat) (w : KeyVer), KeyTurn s m ∧ k = s.keyGet m R.KEY_SEL_SLOT ∧ ((m = .pf1) → attrOps (s.slotK k).attr = true) ∧ (s.slotK k).st = 1 ∧ s.useKey m src 16 = .inl w) ∧
    (∃ (s : State) (m : Master) (k : Nat) (v : KeyVer) (check : Bool), KeyTurn s m ∧ k = s.keyGet m R.KEY_SEL_SLOT ∧ ((m = .pf1) → attrOps (s.slotK k).attr = true) ∧ (s.slotK k).pend = some v ∧ (check = false ∨ v.kcv = s.keyGet m R.KEY_KCV_EXP_KCV)) ∧
    (∃ (s : State) (m : Master) (k : Nat) (v : KeyVer) (check : Bool), KeyTurn s m ∧ k = s.keyGet m R.KEY_SEL_SLOT ∧ ((m = .pf1) → attrOps (s.slotK k).attr = true) ∧ (s.slotK k).pend = some v ∧ check = true ∧ v.kcv ≠ s.keyGet m R.KEY_KCV_EXP_KCV) ∧
    (∃ (s : State), KeyTurn s .pf1 ∧ attrOps (s.slotK (s.keyGet .pf1 R.KEY_SEL_SLOT)).attr = false) :=
  ⟨⟨st30_0, Master.pf0, 5, by decide⟩,
   ⟨st30_1, Master.pf0, 5, by decide⟩,
   ⟨st30_2, Master.pf0, 5, ((st30_2.root)).get (by decide), by decide⟩,
   ⟨st30_3, Master.pf0, 5, by decide⟩,
   ⟨st30_4, Master.pf0, 5, by decide⟩,
   ⟨st30_5, Master.pf0, 5, 9, ((match st30_5.useKey Master.pf0 9 16 with | .inl w => [w] | _ => []) : List (KeyVer)).headD (kver), by decide⟩,
   ⟨st30_6, Master.pf0, 5, kver, false, by decide⟩,
   ⟨st30_6, Master.pf0, 5, kver, true, by decide⟩,
   ⟨dev0, by decide⟩⟩

def st31_0 : State := let s : State := dev0.keySet Master.pf0 R.KEY_SEL_SLOT 5; let s : State := { s with key := { s.key with slots := kvPut s.key.slots (5) { s.slotK 5 with pend := some kver } } }; { (kS 5 (fun x => { x with attr := 2 + 0xFFE0 }) s) with key := { (kS 5 (fun x => { x with attr := 2 + 0xFFE0 }) s).key with fuses := 2, owner := some 9 } }
def st31_1 : State := let s : State := dev0.keySet Master.pf0 R.KEY_SEL_SLOT 5; let s : State := { s with key := { s.key with slots := kvPut s.key.slots (5) { s.slotK 5 with pend := some kver } } }; let s : State := { s with key := { s.key with slots := kvPut s.key.slots (5) { s.slotK 5 with verified := true } } }; { (kS 5 (fun x => { x with attr := 2 + 0xFFE0 }) s) with key := { (kS 5 (fun x => { x with attr := 2 + 0xFFE0 }) s).key with fuses := 2, owner := some 9 } }
def st31_2 : State := let s : State := { dev0 with key := { dev0.key with running := some ({ kcmd with op := 7 }) } }; { s with key := { s.key with slots := kvPut s.key.slots (({ kcmd with op := 7 }).slot) { s.slotK ({ kcmd with op := 7 }).slot with pend := some kver } } }
def st31_3 : State := kS 5 (fun x => { x with attr := 2 + 0xFFE0, old := some kver }) (dev0.keySet Master.pf0 R.KEY_SEL_SLOT 5)
def st31_4 : State := dev0.keySet Master.pf0 R.KEY_SEL_SLOT 5
def st31_5 : State := kS 5 (fun x => { x with attr := 2 + 0xFFE0, st := 2 }) (dev0.keySet Master.pf0 R.KEY_SEL_SLOT 5)
def st31_6 : State := let s : State := dev0.keySet Master.pf0 R.KEY_SEL_SLOT 5; let s : State := { s with key := { s.key with slots := kvPut s.key.slots (5) { s.slotK 5 with st := 1 } } }; (((kS 5 (fun x => { x with attr := 1 + 0xFFE0 }) ({ s with key := { s.key with slots := kvPut s.key.slots (5) { s.slotK 5 with act := some kver } } })).putBuf Master.pf0 [0x000F0000#36]).keySet Master.pf0 R.KEY_MINT_COUNT 3).keySet Master.pf0 R.KEY_MINT_SEALED 0
def st31_7 : State := dev0.keySet Master.spi R.KEY_SEL_SLOT 5
def st31_8 : State := kS (256 - 1) (fun x => { x with graceEnd := some 5, draining := false }) ({ dev0 with key := { dev0.key with slots := kvPut dev0.key.slots ((256 - 1)) { dev0.slotK (256 - 1) with old := some kver } } })
def st31_9 : State := let s : State := { dev0 with key := { dev0.key with slots := kvPut dev0.key.slots ((256 - 1)) { dev0.slotK (256 - 1) with old := some kver } } }; { s with key := { s.key with slots := kvPut s.key.slots ((256 - 1)) { s.slotK (256 - 1) with draining := true } } }
def st31_10 : State := { (kS (256 - 1) (fun x => { x with act := some kver }) dev0) with key := { (kS (256 - 1) (fun x => { x with act := some kver }) dev0).key with msgs := [((6 - 1), true, (256 - 1), 1)] } }
def st31_11 : State := { (kS (256 - 1) (fun x => { x with act := some { kver with pins := 2 } }) dev0) with key := { (kS (256 - 1) (fun x => { x with act := some { kver with pins := 2 } }) dev0).key with msgs := [((6 - 1), false, (256 - 1), 1)] } }
def st31_12 : State := let s : State := { dev0 with key := { dev0.key with slots := kvPut dev0.key.slots ((256 - 1)) { dev0.slotK (256 - 1) with st := 2 } } }; { s with key := { s.key with running := some kcmd } }
def st31_13 : State := { dev0 with key := { dev0.key with drbg := 2^20 } }
theorem witness_KeyVersionsActivateRetireAndGo :
    (∃ (s : State) (m : Master) (k : Nat) (ack : Nat) (root : Nat) (v : KeyVer), KeyTurn s m ∧ k = s.keyGet m R.KEY_SEL_SLOT ∧ ((m = .pf1) → attrOps (s.slotK k).attr = true) ∧ (s.slotK k).pend = some v ∧ s.root = some root ∧ (s.slotK k).old = none ∧ ((attrUsage (s.slotK k).attr = 4) → s.pairHeld (attrSpp (s.slotK k).attr) v.keyId = false) ∧ (s.slotK k).verified = false) ∧
    (∃ (s : State) (m : Master) (k : Nat) (ack : Nat) (root : Nat) (v : KeyVer), KeyTurn s m ∧ k = s.keyGet m R.KEY_SEL_SLOT ∧ ((m = .pf1) → attrOps (s.slotK k).attr = true) ∧ (s.slotK k).pend = some v ∧ s.root = some root ∧ (s.slotK k).old = none ∧ ((attrUsage (s.slotK k).attr = 4) → s.pairHeld (attrSpp (s.slotK k).attr) v.keyId = false) ∧ (s.slotK k).verified = true) ∧
    (∃ (s : State) (c : KeyCmd) (v : KeyVer), s.key.running = some c ∧ c.op = 7 ∧ (s.slotK c.slot).pend = some v ∧ c.ackAt + 100000 * nsU ≤ s.ax.mark ∧ s.key.waiting = []) ∧
    (∃ (s : State) (m : Master) (k : Nat), KeyTurn s m ∧ k = s.keyGet m R.KEY_SEL_SLOT ∧ ((m = .pf1) → attrOps (s.slotK k).attr = true) ∧ (s.slotK k).old.isSome = true ∧ (s.slotK k).draining = false) ∧
    (∃ (s : State) (m : Master) (k : Nat), KeyTurn s m ∧ k = s.keyGet m R.KEY_SEL_SLOT ∧ ((m = .pf1) → attrOps (s.slotK k).attr = true) ∧ (s.slotK k).st = 0) ∧
    (∃ (s : State) (m : Master) (k : Nat), KeyTurn s m ∧ k = s.keyGet m R.KEY_SEL_SLOT ∧ ((m = .pf1) → attrOps (s.slotK k).attr = true) ∧ (s.slotK k).st ≠ 0) ∧
    (∃ (s : State) (m : Master) (k : Nat) (a : KeyVer), KeyTurn s m ∧ k = s.keyGet m R.KEY_SEL_SLOT ∧ ((m = .pf1) → attrOps (s.slotK k).attr = true) ∧ attrUsage (s.slotK k).attr = 1 ∧ (s.slotK k).st = 1 ∧ bitOn (s.slotK k).attr (masterBit m) = true ∧ attrLcs (s.slotK k).attr s.lcs = true ∧ (s.slotK k).act = some a ∧ s.keyGet m R.KEY_MINT_SEALED = 0 ∧ ofBytes ((s.bufBytes m 66).take 2) = 0x000F ∧ 1 ≤ s.keyGet m R.KEY_MINT_COUNT ∧ s.keyGet m R.KEY_MINT_COUNT ≤ 8) ∧
    (∃ (s : State) (m : Master) (k : Nat), KeyTurn s m ∧ k = s.keyGet m R.KEY_SEL_SLOT ∧ ((m = .pf1) → attrOps (s.slotK k).attr = true) ∧ m ≠ .pf1 ∧ s.lcs ≠ 4) ∧
    (∃ (s : State) (k : Nat) (v : KeyVer), k < 256 ∧ (s.slotK k).old = some v ∧ (s.slotK k).draining = false ∧ (∃ e : Int, (s.slotK k).graceEnd = some e ∧ 0 ≤ e ∧ e ≤ s.ax.mark)) ∧
    (∃ (s : State) (k : Nat) (v : KeyVer), k < 256 ∧ (s.slotK k).old = some v ∧ (s.slotK k).draining = true ∧ s.pinned k v = false) ∧
    (∃ (s : State) (c : Nat) (k : Nat) (ver : Nat), c < 6 ∧ k < 256 ∧ s.linkOpen (8 + c) islKV 0 = true ∧ s.key.msgs.find? (fun q => decide (q.1 = c)) = some (c, true, k, ver)) ∧
    (∃ (s : State) (c : Nat) (k : Nat) (ver : Nat), c < 6 ∧ k < 256 ∧ s.linkOpen (8 + c) islKV 0 = true ∧ s.key.msgs.find? (fun q => decide (q.1 = c)) = some (c, false, k, ver)) ∧
    (∃ (s : State) (k : Nat) (c : KeyCmd), k < 256 ∧ (s.slotK k).st = 2 ∧ (∀ v ∈ (s.slotK k).gone, s.pinned k v = false) ∧ s.key.running = some c ∧ s.key.waiting = []) ∧
    (∃ (s : State), 2 ^ 20 ≤ s.key.drbg) ∧
    (∃ (s : State) (m : Master) (w : Word), Open s m R.KEY_DATA) :=
  ⟨⟨st31_0, Master.pf0, 5, 0, ((st31_0.root)).get (by decide), kver, by decide⟩,
   ⟨st31_1, Master.pf0, 5, 0, ((st31_1.root)).get (by decide), kver, by decide⟩,
   ⟨st31_2, { kcmd with op := 7 }, kver, by decide⟩,
   ⟨st31_3, Master.pf0, 5, by decide⟩,
   ⟨st31_4, Master.pf0, 5, by decide⟩,
   ⟨st31_5, Master.pf0, 5, by decide⟩,
   ⟨st31_6, Master.pf0, 5, kver, by decide⟩,
   ⟨st31_7, Master.spi, 5, by decide⟩,
   ⟨st31_8, (256 - 1), kver, by decide⟩,
   ⟨st31_9, (256 - 1), kver, by decide⟩,
   ⟨st31_10, (6 - 1), (256 - 1), 1, by decide⟩,
   ⟨st31_11, (6 - 1), (256 - 1), 1, by decide⟩,
   ⟨st31_12, (256 - 1), kcmd, by decide⟩,
   ⟨st31_13, by decide⟩,
   ⟨dev0, Master.pf0, 0, by decide⟩⟩

def st32_0 : State := dev0.putConfirm Master.pf0 { dev0.confirmOf Master.pf0 with armedAt := some 0 }
def st32_1 : State := dev0.putConfirm Master.pf0 { dev0.confirmOf Master.pf0 with armedAt := some 5 }
def st32_2 : State := dev0.putConfirm Master.pf0 { dev0.confirmOf Master.pf0 with okAt := some 4 }
def st32_3 : State := dev0.putConfirm Master.spi { dev0.confirmOf Master.spi with okAt := some 0 }
def st32_4 : State := let s : State := dev0.putConfirm Master.spi { dev0.confirmOf Master.spi with okAt := some 0 }; (if s.lcs = 0 then { s with key := { s.key with fuses := 2 } } else s)
def st32_5 : State := let s : State := dev0.putConfirm Master.spi { dev0.confirmOf Master.spi with okAt := some 0 }; { s with key := { s.key with fuses := 2 ^ 1 } }
def st32_6 : State := dev0.putConfirm .pf1 { dev0.confirmOf .pf1 with okAt := some 0 }
def st32_7 : State := { dev0 with key := { dev0.key with lcyRun := some (0, 0, 0) } }
theorem witness_LifeCycleCommandsNeedConfirmation :
    (∃ (s : State) (m : Master) (us : Nat) (a : Nat), Open s m R.LCY_CONFIRM ∧ (s.confirmOf m).armedAt = some a ∧ us ≤ a + 1000) ∧
    (∃ (s : State) (m : Master) (us : Nat) (a : Nat), Open s m R.LCY_CONFIRM ∧ (s.confirmOf m).armedAt = some a ∧ a + 1000 < us) ∧
    (∃ (s : State) (m : Master) (us : Nat), Open s m R.LCY_CONFIRM ∧ (s.confirmOf m).armedAt = none) ∧
    (∃ (s : State) (m : Master) (us : Nat) (w : Word), Open s m R.LCY_CONFIRM ∧ w.toNat ≠ 0x31C5DA947 ∧ w.toNat ≠ 0xCE3A256B8) ∧
    (∃ (s : State) (m : Master) (us : Nat) (mode : Nat) (slot : Nat) (c : Instr), c ∈ [Instr.lcyProvision m mode slot us, .lcyDeploy m us, .lcyReturn m us, .lcyDisable m us] ∧ Accepts s m R.LCY_CMD_STATUS ∧ ((s.confirmOf m).okAt = none ∨ (∃ o, (s.confirmOf m).okAt = some o ∧ o + 10000000 < us))) ∧
    (∃ (s : State) (m : Master) (us : Nat) (mode : Nat) (slot : Nat) (c : Instr) (o : Nat), c ∈ [Instr.lcyProvision m mode slot us, .lcyDeploy m us, .lcyReturn m us, .lcyDisable m us] ∧ Accepts s m R.LCY_CMD_STATUS ∧ (s.confirmOf m).okAt = some o ∧ us ≤ o + 10000000) ∧
    (∃ (s : State) (m : Master) (us : Nat) (c : Nat) (mode : Nat) (slot : Nat), Accepts s m R.LCY_CMD_STATUS ∧ (s.confirmOf m).okAt = some c ∧ us ≤ c + 10000000 ∧ m ≠ .pf1 ∧ s.lcs = 0 ∧ (mode = 1 ∨ mode = 2)) ∧
    (∃ (s : State) (m : Master) (us : Nat) (c : Nat) (mode : Nat) (slot : Nat), Accepts s m R.LCY_CMD_STATUS ∧ (s.confirmOf m).okAt = some c ∧ us ≤ c + 10000000 ∧ m ≠ .pf1 ∧ s.lcs ≠ 0) ∧
    (∃ (s : State) (m : Master) (us : Nat) (c : Nat), Accepts s m R.LCY_CMD_STATUS ∧ (s.confirmOf m).okAt = some c ∧ us ≤ c + 10000000 ∧ m ≠ .pf1 ∧ s.lcs = 1) ∧
    (∃ (s : State) (m : Master) (us : Nat) (c : Nat), Accepts s m R.LCY_CMD_STATUS ∧ (s.confirmOf m).okAt = some c ∧ us ≤ c + 10000000 ∧ m ≠ .pf1 ∧ (s.lcs = 1 ∨ s.lcs = 2)) ∧
    (∃ (s : State) (m : Master) (us : Nat) (c : Nat), Accepts s m R.LCY_CMD_STATUS ∧ (s.confirmOf m).okAt = some c ∧ us ≤ c + 10000000 ∧ m ≠ .pf1 ∧ s.lcs < 4) ∧
    (∃ (s : State) (us : Nat) (c : Nat), Accepts s .pf1 R.LCY_CMD_STATUS ∧ (s.confirmOf .pf1).okAt = some c ∧ us ≤ c + 10000000) ∧
    (∃ (s : State) (new : Nat) (mode : Nat) (slot : Nat), s.key.lcyRun = some (new, mode, slot)) :=
  ⟨⟨st32_0, Master.pf0, 0, 0, by decide⟩,
   ⟨st32_1, Master.pf0, 2000, 5, by decide⟩,
   ⟨dev0, Master.pf0, 0, by decide⟩,
   ⟨dev0, Master.pf0, 0, 0, by decide⟩,
   ⟨dev0, Master.pf0, 0, 0, 0, (Instr.lcyProvision Master.pf0 0 0 0), by decide⟩,
   ⟨st32_2, Master.pf0, 5, 0, 0, (Instr.lcyProvision Master.pf0 0 0 5), 4, by decide⟩,
   ⟨st32_3, Master.spi, 0, 0, 1, 0, by decide⟩,
   ⟨st32_4, Master.spi, 0, 0, 0, 0, by decide⟩,
   ⟨st32_5, Master.spi, 0, 0, by decide⟩,
   ⟨st32_5, Master.spi, 0, 0, by decide⟩,
   ⟨st32_3, Master.spi, 0, 0, by decide⟩,
   ⟨st32_6, 0, 0, by decide⟩,
   ⟨st32_7, 0, 0, 0, by decide⟩⟩

def st33_0 : State := dev0.set R.TMP_NOW_SENSOR (Nat.lor (dev0.get R.TMP_NOW_SENSOR) (2^(6 - 1)))
def st33_1 : State := { dev0 with key := { dev0.key with fuses := 2 ^ 1 } }
theorem witness_TamperLatchesAndTakesTheKeys :
    (∃ (s : State) (k : Nat), k < 6 ∧ s.aoOn = true ∧ s.watched k = true ∧ bitOn (s.get R.TMP_NOW_SENSOR) k = false) ∧
    (∃ (s : State) (k : Nat), k < 6 ∧ s.aoOn = true ∧ bitOn (s.get R.TMP_NOW_SENSOR) k = true) ∧
    (∃ (s : State) (m : Master) (w : Word), Open s m R.TMP_LATCH) ∧
    (∃ (s : State) (m : Master) (w : Word), Open s m R.TMP_POLICY ∧ s.lcs = 1) ∧
    (∃ (s : State) (m : Master) (w : Word), Open s m R.TMP_POLICY ∧ s.lcs ≠ 1) :=
  ⟨⟨dev0, (6 - 1), by decide⟩,
   ⟨st33_0, (6 - 1), by decide⟩,
   ⟨dev0, Master.pf0, 0, by decide⟩,
   ⟨st33_1, Master.pf0, 0, by decide⟩,
   ⟨dev0, Master.pf0, 0, by decide⟩⟩

def st34_0 : State := { dev0 with boot := { dev0.boot with resetLow := true } }
def st34_1 : State := (if dev0.lcs = 0 then { dev0 with key := { dev0.key with fuses := 2 } } else dev0)
theorem witness_TestPortInstructionsAreGuarded :
    (∃ (s : State) (i : PinInstr), s.aoOn = true ∧ (s.boot.resetLow = true ∨ s.inHitched = true)) ∧
    (∃ (s : State) (i : PinInstr), s.aoOn = true ∧ s.boot.resetLow = false ∧ s.inHitched = false) ∧
    (∃ (s : State), s.aoOn = true ∧ s.lcs ≠ 0 ∧ s.lcs ≠ 3 ∧ s.up islMGT = true) ∧
    (∃ (s : State), s.aoOn = true ∧ (s.lcs = 0 ∨ s.lcs = 3)) :=
  ⟨⟨st34_0, PinInstr.extest, by decide⟩,
   ⟨dev0, PinInstr.extest, by decide⟩,
   ⟨st34_1, by decide⟩,
   ⟨dev0, by decide⟩⟩

def st35_0 : State := dev0.wr R.TMP_LATCH 4
def st35_1 : State := sets ({ dev0 with key := { dev0.key with attMode := 1 } }) [(R.ATT_STATUS_GEN_HASH_OK, 1)]
def st35_2 : State := { dev0 with key := { dev0.key with attMode := 1 } }
theorem witness_AttestationStatesAndHashes :
    (∃ (s : State) (m : Master), Accepts s m R.ATT_CMD_STATUS ∧ s.rd R.TMP_LATCH ≠ 0) ∧
    (∃ (s : State) (m : Master), Accepts s m R.ATT_CMD_STATUS ∧ s.rd R.TMP_LATCH = 0 ∧ (s.key.attMode = 0 ∨ s.lcs = 3 ∨ s.lcs = 4)) ∧
    (∃ (s : State) (m : Master), Accepts s m R.ATT_CMD_STATUS ∧ s.rd R.TMP_LATCH = 0 ∧ s.key.lcyRun = none ∧ s.lcs ≠ 3 ∧ s.lcs ≠ 4 ∧ s.key.attMode = 1 ∧ s.key.alive = true ∧ s.get R.ATT_STATUS_GEN_HASH_OK = 1) ∧
    (∃ (s : State) (m : Master), Accepts s m R.ATT_CMD_STATUS ∧ s.rd R.TMP_LATCH = 0 ∧ s.key.lcyRun = none ∧ s.lcs ≠ 3 ∧ s.lcs ≠ 4 ∧ s.key.attMode = 1 ∧ s.key.alive = true ∧ s.get R.ATT_STATUS_GEN_HASH_OK = 0) ∧
    (∃ (s : State), s.up islKV = true ∧ s.up islMGT = true ∧ s.get R.ATT_STATUS_GEN_HASH_OK = 0 ∧ s.get R.GEN_IN_FORCE_GEN ≠ 0) :=
  ⟨⟨st35_0, Master.pf0, by decide⟩,
   ⟨dev0, Master.pf0, by decide⟩,
   ⟨st35_1, Master.pf0, by decide⟩,
   ⟨st35_2, Master.pf0, by decide⟩,
   ⟨dev0, by decide⟩⟩

def st36_0 : State := sets dev0 [(R.BOOT_STAGE_STAGE, (2) - 1)]
def st36_1 : State := sets dev0 [(R.GEN_FENCED_ISLANDS, (0) + 1)]
def st36_2 : State := dev0.wrT R.GEN_COMMIT_AT (1005 * 2^60)
def st36_3 : State := sets dev0 [(R.GEN_STATUS_STATE, 0 + 1)]
def st36_4 : State := sets dev0 [(R.GEN_STATUS_STATE, 1)]
def st36_5 : State := let s : State := sets dev0 [(R.GEN_STATUS_STATE, 1)]; { (s.set R.GEN_PREPARED_ISLANDS 0xFFFF) with gen := { s.gen with at_ := 0, asked := false } }
theorem witness_GenerationsPrepareAndDecide :
    (∃ (s : State) (m : Master) (tick : Nat), Open s m R.GEN_CMD ∧ s.genState = 0 ∧ s.prove.running = false ∧ s.get R.BOOT_STAGE_STAGE < 2) ∧
    (∃ (s : State) (m : Master) (tick : Nat), Open s m R.GEN_CMD ∧ s.genState = 0 ∧ s.prove.running = false ∧ 2 ≤ s.get R.BOOT_STAGE_STAGE ∧ s.get R.GEN_FENCED_ISLANDS ≠ 0) ∧
    (∃ (s : State) (m : Master) (tick : Nat), Open s m R.GEN_CMD ∧ s.genState = 0 ∧ s.prove.running = false ∧ 2 ≤ s.get R.BOOT_STAGE_STAGE ∧ s.get R.GEN_FENCED_ISLANDS = 0 ∧ ofT108 (s.rdT R.GEN_COMMIT_AT) < s.voteTime tick + s.genGuard + 2 * msU) ∧
    (∃ (s : State) (m : Master) (tick : Nat), Open s m R.GEN_CMD ∧ s.genState = 0 ∧ s.prove.running = false ∧ 2 ≤ s.get R.BOOT_STAGE_STAGE ∧ s.get R.GEN_FENCED_ISLANDS = 0 ∧ s.rdT R.GEN_COMMIT_AT % 2 ^ 30 = 0 ∧ s.rdT R.GEN_COMMIT_AT / 2 ^ 30 % 2 ^ 30 % 1000000 = 0 ∧ s.voteTime tick + s.genGuard + 2 * msU ≤ ofT108 (s.rdT R.GEN_COMMIT_AT) ∧ ofT108 (s.rdT R.GEN_COMMIT_AT) ≤ s.voteTime tick + 60 * secU) ∧
    (∃ (s : State) (m : Master) (tick : Nat), Open s m R.GEN_CMD ∧ s.genState ≠ 0) ∧
    (∃ (s : State) (m : Master), Open s m R.GEN_CMD ∧ (s.genState = 1 ∨ s.genState = 2)) ∧
    (∃ (s : State) (m : Master), Open s m R.GEN_CMD ∧ s.genState ≠ 1 ∧ s.genState ≠ 2) ∧
    (∃ (s : State) (i : Nat), i < 16 ∧ s.genState = 1 ∧ i ∈ s.participants ∧ s.islandDead i = false ∧ s.up islMGT = true) ∧
    (∃ (s : State), (s.genState = 1 ∨ s.genState = 2) ∧ s.gen.at_ - s.genGuard ≤ s.ax.mark ∧ (s.gen.asked = true ∨ (∃ i ∈ s.participants, bitOn (s.get R.GEN_PREPARED_ISLANDS) i = false))) ∧
    (∃ (s : State), (s.genState = 1 ∨ s.genState = 2) ∧ s.gen.at_ - s.genGuard ≤ s.ax.mark ∧ s.gen.asked = false ∧ (∀ i ∈ s.participants, bitOn (s.get R.GEN_PREPARED_ISLANDS) i = true)) :=
  ⟨⟨st36_0, Master.spi, 0, by decide⟩,
   ⟨st36_1, Master.pf0, 0, by decide⟩,
   ⟨dev0, Master.pf0, 0, by decide⟩,
   ⟨st36_2, Master.pf0, 0, by decide⟩,
   ⟨st36_3, Master.pf0, 0, by decide⟩,
   ⟨st36_4, Master.pf0, by decide⟩,
   ⟨dev0, Master.pf0, by decide⟩,
   ⟨st36_4, (st36_4.participants : List (Nat)).headD (0), by decide⟩,
   ⟨st36_4, by decide⟩,
   ⟨st36_5, by decide⟩⟩

def st37_0 : State := let s : State := sets dev0 [(R.GEN_STATUS_STATE, 4)]; { s with gen := { s.gen with parts := 0xFFFF } }
def st37_1 : State := let s : State := dev0.set R.GEN_FENCED_ISLANDS (Nat.lor (dev0.get R.GEN_FENCED_ISLANDS) (2^(16 - 1))); { s with gen := { s.gen with returned := 0xFFFF } }
def st37_2 : State := sets dev0 [(R.GEN_STATUS_STATE, 4)]
theorem witness_CommitsEndAndFencesLift :
    (∃ (s : State) (i : Nat), i < 16 ∧ s.islandDead i = false ∧ s.up islMGT = true ∧ bitOn (s.get R.GEN_FENCED_ISLANDS) i = false ∧ s.genState = 4 ∧ bitOn s.gen.parts i = true ∧ kvGet s.gen.keep i = none) ∧
    (∃ (s : State) (i : Nat), i < 16 ∧ s.islandDead i = false ∧ s.up islMGT = true ∧ bitOn (s.get R.GEN_FENCED_ISLANDS) i = true ∧ bitOn s.gen.returned i = true ∧ kvGet s.gen.late i = none) ∧
    (∃ (s : State) (cuts : List (Nat × TxRef)), s.genState = 4 ∧ ofT108 (s.rdT R.GEN_LAST_T) + msU ≤ s.ax.mark) :=
  ⟨⟨st37_0, (16 - 1), by decide⟩,
   ⟨st37_1, (16 - 1), by decide⟩,
   ⟨st37_2, [], by decide⟩⟩

def st38_0 : State := let s : State := { dev0 with shunt := { dev0.shunt with migs := [({ mig0 with lane := (24 - 1), begun := false })] } }; { s with ax := { s.ax with marks := 5 } }
def st38_1 : State := { dev0 with shunt := { dev0.shunt with migs := [({ mig0 with lane := (24 - 1), begun := true, fence := none, start := 500*secU })] } }
def st38_2 : State := { dev0 with shunt := { dev0.shunt with migs := [({ mig0 with lane := (24 - 1), fence := some (500*secU), fenced := false })] } }
def st38_3 : State := { dev0 with shunt := { dev0.shunt with migs := [({ mig0 with lane := (24 - 1), fenced := true })] } }
theorem witness_MigrationsMoveALane :
    (∃ (s : State) (lane : Nat) (g : Migration), lane < 24 ∧ s.migOf lane = some g ∧ g.begun = false ∧ g.asked < s.ax.marks) ∧
    (∃ (s : State) (lane : Nat) (tick : Nat) (g : Migration), lane < 24 ∧ s.migOf lane = some g ∧ g.begun = true ∧ g.fence = none ∧ ((∀ k ∈ (s.coachOf (lane / 4)).cars, g.oldCids.contains k.cid = true → beforeCompose k = false) ∨ g.start + 10000 * nsU ≤ (s.ctrOf (8 + lane / 4)).at_ tick)) ∧
    (∃ (s : State) (lane : Nat) (tick : Nat) (g : Migration) (f : Int), lane < 24 ∧ s.migOf lane = some g ∧ g.fence = some f ∧ g.fenced = false ∧ f ≤ (s.ctrOf (8 + lane / 4)).at_ tick) ∧
    (∃ (s : State) (lane : Nat) (g : Migration), lane < 24 ∧ s.migOf lane = some g ∧ g.fenced = true) ∧
    (∃ (s : State) (m : Master) (lane : Nat) (dest : Nat), Accepts s m R.SHNT_CMD_STATUS ∧ s.noUnit 3 lane = false ∧ s.proves 3 lane = false ∧ s.laneSt lane = 0 ∧ dest / 4 = lane / 4 ∧ dest ≠ lane ∧ s.laneSt dest = 0) ∧
    (∃ (s : State) (m : Master) (lane : Nat) (dest : Nat) (kind : Nat), Accepts s m R.SHNT_CMD_STATUS ∧ kind ≠ 3) :=
  ⟨⟨st38_0, (24 - 1), { mig0 with lane := (24 - 1), begun := false }, by decide⟩,
   ⟨st38_1, (24 - 1), 0, { mig0 with lane := (24 - 1), begun := true, fence := none, start := 500*secU }, by decide⟩,
   ⟨st38_2, (24 - 1), 0, { mig0 with lane := (24 - 1), fence := some (500*secU), fenced := false }, (500*secU), by decide⟩,
   ⟨st38_3, (24 - 1), { mig0 with lane := (24 - 1), fenced := true }, by decide⟩,
   ⟨dev0, Master.pf0, 0, 1, by decide⟩,
   ⟨dev0, Master.pf0, 0, 0, 0, by decide⟩⟩

def st39_0 : State := sets dev0 [(R.CO_LANES_STATE (23/4), 255 - 3*4^(23%4))]
def st39_1 : State := dev0.wr R.SHNT_UNITS (BitVec.ofNat 36 (2^36-1))
def st39_2 : State := { dev0 with shunt := { dev0.shunt with back := [(1,(6 - 1))], coaches := 0 } }
def st39_3 : State := { dev0 with shunt := { dev0.shunt with back := [(3,(24 - 1)),(1,2)] } }
def st39_4 : State := { dev0 with shunt := { dev0.shunt with back := [(4,(8 - 1)),(1,2)] } }
def st39_5 : State := { dev0 with shunt := { dev0.shunt with coaches := 0x3F, back := [], cmd := some { op := 1, kind := 1, index := (6 - 1), to_ := 0 } } }
theorem witness_UnitsAreShuntedAndReturned :
    (∃ (s : State) (m : Master) (kind : Nat) (i : Nat), Accepts s m R.SHNT_CMD_STATUS ∧ s.noUnit kind i = true) ∧
    (∃ (s : State) (m : Master) (kind : Nat) (i : Nat), Accepts s m R.SHNT_CMD_STATUS ∧ s.noUnit kind i = false ∧ s.proves kind i = false ∧ s.isShunted kind i = false ∧ kind = 1) ∧
    (∃ (s : State) (m : Master) (kind : Nat) (i : Nat), Accepts s m R.SHNT_CMD_STATUS ∧ s.noUnit kind i = false ∧ s.proves kind i = false ∧ s.isShunted kind i = false ∧ kind = 2) ∧
    (∃ (s : State) (m : Master) (kind : Nat) (i : Nat), Accepts s m R.SHNT_CMD_STATUS ∧ s.noUnit kind i = false ∧ s.proves kind i = false ∧ s.isShunted kind i = false ∧ kind = 3 ∧ (∃ l ∈ s.lanesIn (i / 4), l ≠ i)) ∧
    (∃ (s : State) (m : Master) (kind : Nat) (i : Nat), Accepts s m R.SHNT_CMD_STATUS ∧ s.noUnit kind i = false ∧ s.proves kind i = false ∧ s.isShunted kind i = false ∧ kind = 3 ∧ (∀ l ∈ s.lanesIn (i / 4), l = i)) ∧
    (∃ (s : State) (m : Master) (kind : Nat) (i : Nat), Accepts s m R.SHNT_CMD_STATUS ∧ s.noUnit kind i = false ∧ s.proves kind i = false ∧ s.isShunted kind i = false ∧ (kind = 4 ∨ kind = 5 ∨ kind = 6)) ∧
    (∃ (s : State) (m : Master) (kind : Nat) (i : Nat), Accepts s m R.SHNT_CMD_STATUS ∧ s.noUnit kind i = false ∧ s.proves kind i = false ∧ (s.isShunted kind i = true ∨ s.fencedUnit kind i = true) ∧ kind = 2) ∧
    (∃ (s : State) (m : Master) (kind : Nat) (i : Nat), Accepts s m R.SHNT_CMD_STATUS ∧ s.noUnit kind i = false ∧ s.proves kind i = false ∧ (s.isShunted kind i = true ∨ s.fencedUnit kind i = true) ∧ kind ≠ 2) ∧
    (∃ (s : State) (m : Master) (kind : Nat) (i : Nat), Accepts s m R.SHNT_CMD_STATUS ∧ s.noUnit kind i = false ∧ s.proves kind i = false ∧ (s.isShunted kind i = true ∨ s.fencedUnit kind i = true) ∧ s.isShunted kind i = true) ∧
    (∃ (s : State) (i : Nat) (cals : List CalResult) (temp : Int) (cuts : List (Nat × TxRef)), i < 6 ∧ (1, i) ∈ s.shunt.back) ∧
    (∃ (s : State) (i : Nat) (cals : List CalResult) (temp : Int) (cuts : List (Nat × TxRef)), i < 24 ∧ (3, i) ∈ s.shunt.back) ∧
    (∃ (s : State) (i : Nat) (cals : List CalResult) (temp : Int) (cuts : List (Nat × TxRef)), i < 8 ∧ (4, i) ∈ s.shunt.back ∧ s.ticSt i ≠ 4) ∧
    (∃ (s : State) (i : Nat) (cals : List CalResult) (temp : Int) (cuts : List (Nat × TxRef)), i < 6 ∧ (1, i) ∉ s.shunt.back ∧ s.isCmd 1 1 i = true ∧ bitOn s.shunt.coaches i = true ∧ s.coachBusy i = false) :=
  ⟨⟨dev0, Master.pf0, 0, 0, by decide⟩,
   ⟨dev0, Master.pf0, 1, 0, by decide⟩,
   ⟨dev0, Master.pf0, 2, 0, by decide⟩,
   ⟨dev0, Master.pf0, 3, 23, by decide⟩,
   ⟨st39_0, Master.pf0, 3, 23, by decide⟩,
   ⟨dev0, Master.pf0, 4, 0, by decide⟩,
   ⟨st39_1, Master.pf0, 2, 2, by decide⟩,
   ⟨st39_1, Master.pf0, 6, 0, by decide⟩,
   ⟨st39_1, Master.pf0, 1, 0, by decide⟩,
   ⟨st39_2, (6 - 1), [], 0, [], by decide⟩,
   ⟨st39_3, (24 - 1), [], 0, [], by decide⟩,
   ⟨st39_4, (8 - 1), [okCal, okCal], 0, [], by decide⟩,
   ⟨st39_5, (6 - 1), [], 0, [], by decide⟩⟩

def st40_0 : State := let s : State := { dev0 with ax := { dev0.ax with secMark := true } }; { s with prove := { s.prove with asked := true } }
def st40_1 : State := let s : State := { dev0 with ax := { dev0.ax with secMark := true } }; sets ({ s with prove := { s.prove with asked := true } }) [(R.PROVE_CTRL_EN, 0)]
def st40_2 : State := let s : State := { dev0 with prove := { dev0.prove with running := true } }; { s with prove := { s.prove with testing := [(1, (8 - 1))] } }
def st40_3 : State := let s : State := { dev0 with prove := { dev0.prove with running := true } }; { s with prove := { s.prove with testing := [(3, (8 - 1))] } }
def st40_4 : State := let s : State := { dev0 with prove := { dev0.prove with running := true } }; { s with prove := { s.prove with testing := [(2, (8 - 1))] } }
def st40_5 : State := let s : State := { dev0 with prove := { dev0.prove with running := true } }; { s with prove := { s.prove with start := -10000*secU } }
theorem witness_ProvingRunsTestTheirUnits :
    (∃ (s : State) (m : Master), Accepts s m R.PROVE_CMD_STATUS) ∧
    (∃ (s : State), s.ax.secMark = true ∧ s.up islMGT = true ∧ s.prove.running = false ∧ (s.prove.asked = true ∨ s.proveDue = true) ∧ s.mayProve = true ∧ s.get R.PROVE_CTRL_CHECK = 1) ∧
    (∃ (s : State), s.ax.secMark = true ∧ s.up islMGT = true ∧ s.prove.running = false ∧ (s.prove.asked = true ∨ s.proveDue = true) ∧ s.mayProve = false) ∧
    (∃ (s : State) (u : Nat) (cals : List CalResult) (temp : Int), s.prove.running = true ∧ s.prove.left = [] ∧ u < 8 ∧ s.prove.testing = [(1, u)]) ∧
    (∃ (s : State) (u : Nat) (cals : List CalResult) (temp : Int), s.prove.running = true ∧ s.prove.left = [] ∧ u < 8 ∧ s.prove.testing = [(3, u)] ∧ s.migOf u = none) ∧
    (∃ (s : State) (u : Nat) (cals : List CalResult) (temp : Int), s.prove.running = true ∧ s.prove.left = [] ∧ u < 8 ∧ s.prove.testing = [(2, u)]) ∧
    (∃ (s : State) (m : Master), Open s m R.PROVE_CMD) ∧
    (∃ (s : State), s.prove.start + (s.getOr R.PROVE_WINDOW_S 300 3600 1800 : Nat) * secU ≤ s.ax.mark ∧ s.prove.running = true) :=
  ⟨⟨dev0, Master.pf0, by decide⟩,
   ⟨st40_0, by decide⟩,
   ⟨st40_1, by decide⟩,
   ⟨st40_2, (8 - 1), [], 0, by decide⟩,
   ⟨st40_3, (8 - 1), [], 0, by decide⟩,
   ⟨st40_4, (8 - 1), [], 0, by decide⟩,
   ⟨dev0, Master.pf0, by decide⟩,
   ⟨st40_5, by decide⟩⟩

def st41_0 : State := let s : State := sets dev0 [(R.DUG_CFG_PORT_EN, 3), (R.DUG_CFG_GROUP, 0), (R.DUG_CFG_MODE, 2)]; { s with boot := { s.boot with dugOn := true } }
def st41_1 : State := let s : State := sets dev0 [(R.DUG_CFG_PORT_EN, 3), (R.DUG_CFG_MODE, 2)]; { s with boot := { s.boot with dugOn := true } }
def st41_2 : State := sets dev0 [(R.DUG_PEER_STAT_HB_OK (2 - 1), 1)]
def st41_3 : State := let s : State := sets dev0 [(R.DUG_CFG_PORT_EN, 3), (R.DUG_CFG_MODE, 2)]; sets ({ s with boot := { s.boot with dugOn := true } }) [(R.DUG_PEER_STAT_LANE0_UP (2 - 1), 1)]
theorem witness_LinksExchangeTimeAndHeartbeat :
    (∃ (s : State), s.ax.running = true) ∧
    (∃ (s : State) (n : Nat) (f : DugFrame) (st : Stamp) (t1 : Int) (t4 : Int) (q : Nat) (teb : Nat) (sg : Nat) (src : Nat), Taken s n f ∧ f.body = .tt t1 q t4 teb sg src) ∧
    (∃ (s : State) (n : Nat) (tick : Nat) (f : DugFrame) (st : Stamp), n ∈ s.dugLinks ∧ (f.ok = false ∨ f.group ≠ s.get R.DUG_CFG_GROUP)) ∧
    (∃ (s : State) (n : Nat) (tick : Nat), n < 2 ∧ s.up islRH = true ∧ s.heart n = true) ∧
    (∃ (s : State) (n : Nat) (tick : Nat), n < 2 ∧ s.up islRH = true ∧ n ∈ s.dugLinks ∧ s.heart n = false ∧ s.get (R.DUG_PEER_STAT_LANE0_UP n) = 1) ∧
    (∃ (s : State) (n : Nat) (tick : Nat), n < 2 ∧ s.up islRH = true ∧ n ∈ s.dugLinks ∧ s.get (R.DUG_PEER_STAT_LANE0_UP n) = 0) :=
  ⟨⟨dev0, by decide⟩,
   ⟨st41_0, 0, { dug0 with body := .tt 0 0 0 0 0 0 }, st0, 0, 0, 0, 0, 0, 0, by decide⟩,
   ⟨st41_1, 0, 0, { dug0 with ok := false }, st0, by decide⟩,
   ⟨st41_2, (2 - 1), 0, by decide⟩,
   ⟨st41_3, (2 - 1), 0, by decide⟩,
   ⟨st41_1, (2 - 1), 0, by decide⟩⟩

def st42_0 : State := sets dev0 [(R.DUG_STATUS_ROLE, 1), (R.DUG_CFG_MODE, 2)]
def st42_1 : State := let s : State := sets dev0 [(R.DUG_STATUS_ROLE, 1)]; { s with dug := { s.dug with stopping := true } }
def st42_2 : State := let s : State := sets dev0 [(R.DUG_CFG_PORT_EN, 3), (R.DUG_CFG_GROUP, 0), (R.DUG_CFG_MODE, 2)]; sets ({ s with boot := { s.boot with dugOn := true } }) [(R.DUG_STATUS_ROLE, 2)]
def st42_3 : State := let s : State := sets dev0 [(R.DUG_CFG_PORT_EN, 3), (R.DUG_CFG_GROUP, 0), (R.DUG_CFG_MODE, 2)]; let s : State := sets ({ s with boot := { s.boot with dugOn := true } }) [(R.DUG_STATUS_ROLE, 2)]; ({ s with dug := { s.dug with renewed := true, leaseOf := 9 } }).wrT R.DUG_LEASE_END (2000*2^60)
def st42_4 : State := let s : State := sets dev0 [(R.DUG_CFG_PORT_EN, 3), (R.DUG_CFG_GROUP, 0), (R.DUG_CFG_MODE, 2)]; sets ({ s with boot := { s.boot with dugOn := true } }) [(R.DUG_STATUS_ROLE, 1), (R.DUG_STATUS_READY, 1)]
def st42_5 : State := let s : State := sets dev0 [(R.DUG_CFG_PORT_EN, 3), (R.DUG_CFG_GROUP, 0), (R.DUG_CFG_MODE, 2)]; sets ({ s with boot := { s.boot with dugOn := true } }) [(R.DUG_STATUS_ROLE, 1)]
def st42_6 : State := let s : State := sets dev0 [(R.DUG_CFG_PORT_EN, 3), (R.DUG_CFG_GROUP, 0), (R.DUG_CFG_MODE, 2)]; let s : State := sets ({ s with boot := { s.boot with dugOn := true } }) [(R.DUG_STATUS_ROLE, 1)]; ({ s with dug := { s.dug with pendE := 3000*secU, lease := 9, stopping := false } }).wrT R.DUG_LEASE_END 0
def st42_7 : State := let s : State := sets dev0 [(R.DUG_STATUS_ROLE, 1), (R.DUG_CFG_MODE, 2)]; { s with dug := { s.dug with stopping := true } }
def st42_8 : State := sets dev0 [(R.DUG_STATUS_ROLE, 1), (R.DUG_CFG_MODE, 2), (R.DUG_CFG_SIZE, 3)]
def st42_9 : State := { dev0 with dug := { dev0.dug with soloEnd := some 0 } }
theorem witness_LeaseIsRenewedAcknowledgedAndEnds :
    (∃ (s : State) (tick : Nat), s.role = 1 ∧ s.inGroup = true ∧ s.up islRH = true ∧ s.ax.running = true ∧ s.dug.stopping = false ∧ s.flt.brake = .off) ∧
    (∃ (s : State) (tick : Nat), s.role = 1 ∧ (s.dug.stopping = true ∨ s.flt.brake ≠ .off)) ∧
    (∃ (s : State) (n : Nat) (tick : Nat) (lease : Nat) (e : Int) (f : DugFrame), Taken s n f ∧ s.inGroup = true ∧ f.body = .renew lease e ∧ s.role = 2 ∧ (s.dug.leaseOf = f.serial ∨ s.leaseEnd + s.guardT ≤ s.rhTime tick)) ∧
    (∃ (s : State) (n : Nat) (tick : Nat) (lease : Nat) (e : Int) (f : DugFrame), Taken s n f ∧ s.inGroup = true ∧ f.body = .renew lease e ∧ s.role = 2 ∧ s.dug.leaseOf ≠ f.serial ∧ s.dug.renewed = true ∧ s.rhTime tick < s.leaseEnd + s.guardT ∧ s.dug.handT = none) ∧
    (∃ (s : State) (n : Nat) (tick : Nat) (lease : Nat) (e : Int) (f : DugFrame), Taken s n f ∧ s.inGroup = true ∧ f.body = .renew lease e ∧ s.role = 1 ∧ f.role = 1 ∧ s.outranksOf f = true) ∧
    (∃ (s : State) (n : Nat) (tick : Nat) (lease : Nat) (e : Int) (f : DugFrame), Taken s n f ∧ s.inGroup = true ∧ f.body = .renew lease e ∧ s.role = 1 ∧ f.role = 1 ∧ s.outranksOf f = false) ∧
    (∃ (s : State) (n : Nat) (lease : Nat) (e : Int) (f : DugFrame), Taken s n f ∧ s.inGroup = true ∧ f.body = .ack lease e ∧ s.role = 1 ∧ s.dug.stopping = false ∧ lease ≤ s.dug.lease ∧ e ≤ s.dug.pendE ∧ s.leaseEnd < e) ∧
    (∃ (s : State) (tick : Nat), s.role = 1 ∧ s.inGroup = true ∧ s.leaseEnd - s.guardT ≤ s.rhTime tick ∧ s.dug.stopping = true) ∧
    (∃ (s : State) (tick : Nat), s.role = 1 ∧ s.inGroup = true ∧ s.leaseEnd - s.guardT ≤ s.rhTime tick ∧ s.dug.stopping = false ∧ s.get R.DUG_CFG_SIZE = 3) ∧
    (∃ (s : State) (tick : Nat), s.role = 1 ∧ s.inGroup = true ∧ s.leaseEnd - s.guardT ≤ s.rhTime tick ∧ s.dug.stopping = false ∧ s.get R.DUG_CFG_SIZE = 2) ∧
    (∃ (s : State) (tick : Nat) (e : Int), s.role = 0 ∧ s.dug.soloEnd = some e ∧ e ≤ s.rhTime tick) :=
  ⟨⟨st42_0, 0, by decide⟩,
   ⟨st42_1, 0, by decide⟩,
   ⟨st42_2, 0, 0, 0, 0, { dug0 with body := .renew 0 0 }, by decide⟩,
   ⟨st42_3, 0, 0, 0, 0, { dug0 with body := .renew 0 0 }, by decide⟩,
   ⟨st42_4, 0, 0, 0, 0, { dug0 with ready := false, role := 1, body := .renew 0 0 }, by decide⟩,
   ⟨st42_5, 0, 0, 0, 0, { dug0 with body := .renew 0 0, role := 1 }, by decide⟩,
   ⟨st42_6, 0, 5, (2000*secU), { dug0 with body := .ack 5 (2000*secU) }, by decide⟩,
   ⟨st42_7, 0, by decide⟩,
   ⟨st42_8, 0, by decide⟩,
   ⟨st42_0, 0, by decide⟩,
   ⟨st42_9, 0, 0, by decide⟩⟩

def st43_0 : State := sets dev0 [(R.DUG_STATUS_ROLE, 2), (R.DUG_CFG_MODE, 2)]
def st43_1 : State := sets dev0 [(R.DUG_STATUS_ROLE, 2), (R.DUG_CFG_MODE, 2), (R.DUG_CFG_SIZE, (2) + 1)]
def st43_2 : State := let s : State := sets dev0 [(R.DUG_CFG_PORT_EN, 3), (R.DUG_CFG_GROUP, 0), (R.DUG_CFG_MODE, 2)]; sets ({ s with boot := { s.boot with dugOn := true } }) [(R.DUG_STATUS_ROLE, 1)]
def st43_3 : State := let s : State := sets dev0 [(R.DUG_CFG_PORT_EN, 3), (R.DUG_CFG_GROUP, 0), (R.DUG_CFG_MODE, 2)]; sets ({ s with boot := { s.boot with dugOn := true } }) [(R.DUG_STATUS_ROLE, 2)]
def st43_4 : State := let s : State := sets dev0 [(R.DUG_CFG_PORT_EN, 3), (R.DUG_CFG_GROUP, 0), (R.DUG_CFG_MODE, 2)]; ((sets ({ s with boot := { s.boot with dugOn := true } }) [(R.DUG_STATUS_ROLE, 3)]).set R.DUG_STATUS_READY 1).wrT R.DUG_LEASE_END 0
def st43_5 : State := let s : State := sets dev0 [(R.DUG_CFG_PORT_EN, 3), (R.DUG_CFG_GROUP, 0), (R.DUG_CFG_MODE, 2)]; sets ({ s with boot := { s.boot with dugOn := true } }) [(R.DUG_STATUS_ROLE, 3)]
def st43_6 : State := let s : State := sets dev0 [(R.DUG_CFG_PORT_EN, 3), (R.DUG_CFG_GROUP, 0), (R.DUG_CFG_MODE, 2)]; let s : State := sets ({ s with boot := { s.boot with dugOn := true } }) [(R.DUG_STATUS_ROLE, 3)]; { s with dug := { s.dug with claimT := 2000*secU } }
def st43_7 : State := sets dev0 [(R.DUG_STATUS_ROLE, 3)]
def st43_8 : State := let s : State := sets dev0 [(R.DUG_STATUS_ROLE, 3)]; { (s.set (R.DUG_PEER_STAT_HB_OK 0) 1) with dug := { s.dug with claimT := 0, refused := false } }
def st43_9 : State := sets dev0 [(R.DUG_STATUS_ROLE, 1), (R.DUG_CFG_MODE, 2)]
def st43_10 : State := sets dev0 [(R.DUG_STATUS_ROLE, 1), (R.DUG_CFG_MODE, 2), (R.DUG_PEER_STAT_HB_OK 0, 1),(R.DUG_PEER_STAT_ROLE 0,2),(R.DUG_PEER_STAT_FLAGS 0,1)]
def st43_11 : State := let s : State := sets dev0 [(R.DUG_CFG_PORT_EN, 3), (R.DUG_CFG_GROUP, 0), (R.DUG_CFG_MODE, 2)]; sets ({ s with boot := { s.boot with dugOn := true } }) [(R.DUG_STATUS_ROLE, 0 + 1), (R.DUG_STATUS_ROLE, 1 + 1)]
def st43_12 : State := let s : State := sets ({ dev0 with dug := { dev0.dug with handT := some 0 } }) [(R.DUG_STATUS_ROLE, 2), (R.DUG_CFG_MODE, 2)]; { s with dug := { s.dug with target := s.ownSerial } }
def st43_13 : State := { dev0 with dug := { dev0.dug with handT := some 0 } }
theorem witness_ReinsAreClaimedAndHandedOver :
    (∃ (s : State) (tick : Nat), s.role = 2 ∧ s.inGroup = true ∧ s.up islRH = true ∧ s.ax.running = true ∧ s.dug.handT = none ∧ s.dug.claimed = false ∧ s.claimFrom ≤ s.rhTime tick ∧ s.get R.DUG_CFG_SIZE = 2) ∧
    (∃ (s : State) (tick : Nat), s.role = 2 ∧ s.inGroup = true ∧ s.up islRH = true ∧ s.ax.running = true ∧ s.dug.handT = none ∧ s.dug.claimed = false ∧ s.claimFrom ≤ s.rhTime tick ∧ s.get R.DUG_CFG_SIZE ≠ 2) ∧
    (∃ (s : State) (n : Nat) (tick : Nat) (old : Int) (f : DugFrame), Taken s n f ∧ s.inGroup = true ∧ f.body = .claim old ∧ (s.role = 1 ∨ (s.dug.renewed = true ∧ s.rhTime tick < s.leaseEnd + s.guardT))) ∧
    (∃ (s : State) (n : Nat) (tick : Nat) (old : Int) (f : DugFrame), Taken s n f ∧ s.inGroup = true ∧ f.body = .claim old ∧ s.role = 2 ∧ s.leaseEnd + s.guardT ≤ s.rhTime tick) ∧
    (∃ (s : State) (n : Nat) (tick : Nat) (old : Int) (f : DugFrame), Taken s n f ∧ s.inGroup = true ∧ f.body = .claim old ∧ s.role = 3 ∧ s.leaseEnd + s.guardT ≤ s.rhTime tick ∧ s.outranksOf f = true) ∧
    (∃ (s : State) (n : Nat) (tick : Nat) (old : Int) (f : DugFrame), Taken s n f ∧ s.inGroup = true ∧ f.body = .claim old ∧ s.role = 3 ∧ s.leaseEnd + s.guardT ≤ s.rhTime tick ∧ s.outranksOf f = false) ∧
    (∃ (s : State) (n : Nat) (tick : Nat) (v : Nat) (f : DugFrame), Taken s n f ∧ s.inGroup = true ∧ f.body = .reply s.ownSerial v ∧ s.role = 3 ∧ s.rhTime tick ≤ s.dug.claimT + msU ∧ v = 1) ∧
    (∃ (s : State) (n : Nat) (tick : Nat) (v : Nat) (f : DugFrame), Taken s n f ∧ s.inGroup = true ∧ f.body = .reply s.ownSerial v ∧ s.role = 3 ∧ s.rhTime tick ≤ s.dug.claimT + msU ∧ v = 2) ∧
    (∃ (s : State) (tick : Nat), s.role = 3 ∧ s.dug.claimT + msU ≤ s.rhTime tick ∧ (s.dug.refused = true ∨ (s.heart 0 = false ∧ s.heart 1 = false))) ∧
    (∃ (s : State) (tick : Nat), s.role = 3 ∧ s.dug.claimT + msU ≤ s.rhTime tick ∧ s.dug.refused = false ∧ (s.heart 0 = true ∨ s.heart 1 = true)) ∧
    (∃ (s : State) (m : Master) (dest : Nat) (tick : Nat), Accepts s m R.DUG_CMD_STATUS ∧ s.role ≠ 1) ∧
    (∃ (s : State) (m : Master) (dest : Nat) (tick : Nat), Accepts s m R.DUG_CMD_STATUS ∧ s.role = 1 ∧ s.inGroup = true ∧ s.dug.stopping = false ∧ s.bestStandby = none) ∧
    (∃ (s : State) (m : Master) (dest : Nat) (tick : Nat) (n : Nat), Accepts s m R.DUG_CMD_STATUS ∧ s.role = 1 ∧ s.inGroup = true ∧ s.dug.stopping = false ∧ s.bestStandby = some n) ∧
    (∃ (s : State) (n : Nat) (serial : Nat) (eh : Int) (f : DugFrame), Taken s n f ∧ s.inGroup = true ∧ f.body = .handover serial eh ∧ s.role ≠ 0 ∧ s.role ≠ 1) ∧
    (∃ (s : State) (tick : Nat) (eh : Int), s.dug.handT = some eh ∧ s.role = 2 ∧ s.inGroup = true ∧ s.dug.stopping = false ∧ s.dug.target = s.ownSerial ∧ eh + s.guardT ≤ s.rhTime tick) ∧
    (∃ (s : State) (tick : Nat) (eh : Int), s.dug.handT = some eh ∧ s.role ≠ 1 ∧ eh + 5 * msU ≤ s.rhTime tick) :=
  ⟨⟨st43_0, 0, by decide⟩,
   ⟨st43_1, 0, by decide⟩,
   ⟨st43_2, 0, 0, 0, { dug0 with body := .claim 0 }, by decide⟩,
   ⟨st43_3, 0, 0, 0, { dug0 with body := .claim 0 }, by decide⟩,
   ⟨st43_4, 0, 0, 0, { dug0 with ready := false, body := .claim 0 }, by decide⟩,
   ⟨st43_5, 0, 0, 0, { dug0 with body := .claim 0 }, by decide⟩,
   ⟨st43_6, 0, 0, 1, { dug0 with body := .reply st43_6.ownSerial 1 }, by decide, by decide, rfl, by decide, by decide, by decide⟩,
   ⟨st43_6, 0, 0, 2, { dug0 with body := .reply st43_6.ownSerial 2 }, by decide, by decide, rfl, by decide, by decide, by decide⟩,
   ⟨st43_7, 0, by decide⟩,
   ⟨st43_8, 0, by decide⟩,
   ⟨dev0, Master.pf0, 0, 0, by decide⟩,
   ⟨st43_9, Master.pf0, 0, 0, by decide⟩,
   ⟨st43_10, Master.pf0, 0, 0, ((st43_10.bestStandby)).get (by decide), by decide⟩,
   ⟨st43_11, 0, 0, 0, { dug0 with body := .handover 0 0 }, by decide⟩,
   ⟨st43_12, 0, 0, by decide, by decide, by decide, by decide, rfl, by decide⟩,
   ⟨st43_13, 0, 0, by decide⟩⟩

def st44_0 : State := let s : State := sets dev0 [(R.DUG_CFG_PORT_EN, 3), (R.DUG_CFG_GROUP, 0), (R.DUG_CFG_MODE, 2)]; sets ({ s with boot := { s.boot with dugOn := true } }) [(R.DUG_STATUS_FOLLOW, 1), (R.DUG_STATUS_HOLDER_AT, 0+1),(R.DUG_CFG_SIZE,3)]
def st44_1 : State := let s : State := sets dev0 [(R.DUG_CFG_PORT_EN, 3), (R.DUG_CFG_GROUP, 0), (R.DUG_CFG_MODE, 2)]; sets ({ s with boot := { s.boot with dugOn := true } }) [(R.DUG_STATUS_FOLLOW, 1), (R.DUG_STATUS_HOLDER_AT, 0+1),(R.DUG_CFG_SIZE,3),(R.VOTE_UTC_OFFSET,5)]
def st44_2 : State := let s : State := sets dev0 [(R.DUG_CFG_PORT_EN, 3), (R.DUG_CFG_GROUP, 0), (R.DUG_CFG_MODE, 2)]; (addCl 7 ({ent0 with state := 1}) (sets (sets ({ s with boot := { s.boot with dugOn := true } }) [(R.DUG_STATUS_FOLLOW, 1)]) [(R.DUG_STATUS_HOLDER_AT, 0+1),(R.DUG_CFG_SIZE,3)]))
def st44_3 : State := let s : State := sets dev0 [(R.DUG_CFG_PORT_EN, 3), (R.DUG_CFG_GROUP, 0), (R.DUG_CFG_MODE, 2)]; let s : State := sets ({ s with boot := { s.boot with dugOn := true } }) [(R.DUG_STATUS_FOLLOW, 1)]; { (addCl 7 { ent0 with state := 1 } (addCl 8 { ent0 with state := 1, portId := 6 } (sets s [(R.DUG_STATUS_HOLDER_AT, 0+1),(R.DUG_CFG_SIZE,3)]))) with dug := { s.dug with inSweep := true, sweepNo := 3, sweepKeys := [(5, 0x77)] } }
def st44_4 : State := sets dev0 [(R.DUG_STATUS_ROLE, 1)]
def st44_5 : State := sets dev0 [(R.DUG_STATUS_ROLE, 2)]
def st44_6 : State := sets dev0 [(R.DUG_STATUS_ROLE, 5)]
def st44_7 : State := sets dev0 [(R.DUG_STATUS_ROLE, 6)]
theorem witness_FollowersMirrorTheHolder :
    (∃ (s : State) (n : Nat) (f : DugFrame) (status : Word) (kind : Nat) (amount : Int) (at_ : Int), Taken s n f ∧ s.inGroup = true ∧ s.get R.DUG_STATUS_FOLLOW = 1 ∧ s.mirrorLink = some n ∧ f.body = .sel status kind amount at_) ∧
    (∃ (s : State) (n : Nat) (f : DugFrame) (v : Nat) (at_ : Word), Taken s n f ∧ s.inGroup = true ∧ s.get R.DUG_STATUS_FOLLOW = 1 ∧ s.mirrorLink = some n ∧ f.body = .leap v at_ ∧ v / 2 % 2 = 1 ∧ v / 4 % 4 = 0 ∧ s.get R.VOTE_STATUS_LEAP_PEND = 0 ∧ s.get R.VOTE_UTC_OFFSET ≠ v / 16 % 4096) ∧
    (∃ (s : State) (n : Nat) (f : DugFrame) (sw : Bool) (e : ClientEntry), Taken s n f ∧ s.inGroup = true ∧ s.get R.DUG_STATUS_FOLLOW = 1 ∧ s.mirrorLink = some n ∧ f.body = .client sw false e ∧ s.up islSW = true ∧ e.port < 24 ∧ s.cltFree ≠ 0 ∧ s.findClient e.port e.portId = none) ∧
    (∃ (s : State) (n : Nat) (f : DugFrame) (sw : Bool) (e : ClientEntry) (i : Nat) (o : ClientEntry), Taken s n f ∧ s.inGroup = true ∧ s.get R.DUG_STATUS_FOLLOW = 1 ∧ s.mirrorLink = some n ∧ f.body = .client sw true e ∧ s.up islSW = true ∧ s.findClient e.port e.portId = some i ∧ s.entry i = some o) ∧
    (∃ (s : State) (n : Nat) (f : DugFrame) (no : Nat) (count : Nat) (tick : Nat), Taken s n f ∧ s.inGroup = true ∧ s.get R.DUG_STATUS_FOLLOW = 1 ∧ s.mirrorLink = some n ∧ f.body = .sweep no false count ∧ s.up islSW = true) ∧
    (∃ (s : State) (n : Nat) (f : DugFrame) (no : Nat) (tick : Nat), Taken s n f ∧ s.inGroup = true ∧ s.get R.DUG_STATUS_FOLLOW = 1 ∧ s.mirrorLink = some n ∧ f.body = .sweep no true s.dug.sweepKeys.length ∧ s.up islSW = true ∧ s.dug.inSweep = true ∧ s.dug.sweepNo = no) ∧
    (∃ (s : State), s.role = 1 ∧ s.up islSW = true) ∧
    (∃ (s : State) (m : Master), Accepts s m R.DUG_CMD_STATUS ∧ s.role = 2) ∧
    (∃ (s : State) (m : Master), Accepts s m R.DUG_CMD_STATUS ∧ s.role ≠ 2) ∧
    (∃ (s : State) (m : Master), Accepts s m R.DUG_CMD_STATUS ∧ s.role = 5) ∧
    (∃ (s : State) (m : Master), Accepts s m R.DUG_CMD_STATUS ∧ s.role ≠ 5) ∧
    (∃ (s : State) (cals : List CalResult) (temp : Int), s.role = 6 ∧ ((∀ (p : Nat), p < 24 → s.link p = 0) ∨ (∃ p, p < 24 ∧ 2 ≤ s.link p))) :=
  ⟨⟨st44_0, 0, { dug0 with body := .sel 0 0 0 0 }, 0, 0, 0, 0, by decide⟩,
   ⟨st44_1, 0, { dug0 with body := .leap (2 + 16*37) 0 }, (2 + 16*37), 0, by decide⟩,
   ⟨st44_0, 0, { dug0 with body := .client true false ({ent0 with state := 1}) }, true, {ent0 with state := 1}, by decide⟩,
   ⟨st44_2, 0, { dug0 with body := .client true true ent0 }, true, ent0, 7, {ent0 with state := 1}, by decide⟩,
   ⟨st44_0, 0, { dug0 with body := .sweep 0 false 0 }, 0, 0, 0, by decide⟩,
   ⟨st44_3, 0, { dug0 with body := .sweep 3 true st44_3.dug.sweepKeys.length }, 3, 0, by decide⟩,
   ⟨st44_4, by decide⟩,
   ⟨st44_5, Master.pf0, by decide⟩,
   ⟨dev0, Master.pf0, by decide⟩,
   ⟨st44_6, Master.pf0, by decide⟩,
   ⟨dev0, Master.pf0, by decide⟩,
   ⟨st44_7, [], 0, by decide⟩⟩

theorem witness_JunctionSensorsAreSampled :
    (∃ (s : State) (t0 : Int) (rest : List Int), s.aoOn = true ∧ (∀ x ∈ t0 :: rest, -46080 ≤ x ∧ x ≤ 128000) ∧ bitOn (s.get R.TMP_NOW_SENSOR) 4 = false) ∧
    (∃ (s : State) (temps : List Int), s.aoOn = true ∧ s.watched 4 = true ∧ bitOn (s.get R.TMP_NOW_SENSOR) 4 = false ∧ (∃ x ∈ temps, 128000 < x ∨ x < -46080)) :=
  ⟨⟨dev0, 0, [0], by decide⟩,
   ⟨dev0, [200000], by decide⟩⟩

def st46_0 : State := { dev0 with erec := { dev0.erec with transit := ({ trig0 with island := (16 - 1) }) :: ([]) } }
def st46_1 : State := let s : State := { dev0 with erec := { dev0.erec with transit := ({ trig0 with island := 1 }) :: ([]) } }; { s with erec := { s.erec with queue := List.replicate 256 trig0 } }
def st46_2 : State := let s : State := { dev0 with erec := { dev0.erec with transit := ({ trig0 with island := 1 }) :: ([]) } }; { s with erec := { s.erec with cfg := [(({ trig0 with island := 1 }).code,{fill := 1, depth := 1, snap := []})], tokens := [(({ trig0 with island := 1 }).code,(0,7))] } }
def st46_3 : State := { dev0 with erec := { dev0.erec with queue := trig0 :: ([]) } }
def st46_4 : State := expert (R.REC_CODE_SEL / 512) dev0
def st46_5 : State := expert (R.REC_CODE_CFG / 512) dev0
def st46_6 : State := { (dev0.set R.REC_JRN_BATCH_BATCH 2) with erec := { dev0.erec with waiting := [1,2,3], ring := [(1,zeros62),(2,zeros62),(3,zeros62)] } }
def st46_7 : State := { dev0 with erec := { dev0.erec with fetching := some 0 } }
def st46_8 : State := let s : State := { dev0 with erec := { dev0.erec with fetching := some 0 } }; { s with nvm := { s.nvm with journal := { recs := [{at_ := 0, type := 0x20, seq := 1, time := 0, payload := zeros62, state := .committed}], next := 100 } } }
theorem witness_RecorderQueuesAndRecords :
    (∃ (s : State) (i : Nat) (us : Nat) (tr : Trigger) (rest : List Trigger), i < 16 ∧ (i = islMGT ∨ s.linkOpen i islMGT 2 = true) ∧ s.erec.transit = tr :: rest ∧ tr.island = i ∧ ((s.codeCfg tr.code).fill = 0 ∨ 1000000 ≤ s.bucketAt tr.code us) ∧ s.erec.queue.length < 256) ∧
    (∃ (s : State) (i : Nat) (us : Nat) (tr : Trigger) (rest : List Trigger), i < 16 ∧ (i = islMGT ∨ s.linkOpen i islMGT 2 = true) ∧ s.erec.transit = tr :: rest ∧ tr.island = i ∧ ((s.codeCfg tr.code).fill = 0 ∨ 1000000 ≤ s.bucketAt tr.code us) ∧ 256 ≤ s.erec.queue.length) ∧
    (∃ (s : State) (i : Nat) (us : Nat) (tr : Trigger) (rest : List Trigger), i < 16 ∧ (i = islMGT ∨ s.linkOpen i islMGT 2 = true) ∧ s.erec.transit = tr :: rest ∧ tr.island = i ∧ (s.codeCfg tr.code).fill ≠ 0 ∧ s.bucketAt tr.code us < 1000000) ∧
    (∃ (s : State) (tr : Trigger) (rest : List Trigger), s.up islMGT = true ∧ s.erec.queue = tr :: rest ∧ tr.code < 256) ∧
    (∃ (s : State) (m : Master) (v : Word), Open s m R.REC_HOST_MARK) ∧
    (∃ (s : State) (m : Master) (v : Word), Open s m R.REC_CODE_SEL) ∧
    (∃ (s : State) (m : Master) (v : Word), Open s m R.REC_CODE_CFG) ∧
    (∃ (s : State) (ageMs : Nat) (retryOk : Bool) (l : List Nat), l = s.erec.waiting.take (s.getOr R.REC_JRN_BATCH_BATCH 1 16 16) ∧ l ≠ [] ∧ s.up islMGT = true ∧ s.nvm.savingBatches = [] ∧ (l.length = s.getOr R.REC_JRN_BATCH_BATCH 1 16 16 ∨ s.getOr R.REC_JRN_CFG_MAX_AGE 10 60000 1000 ≤ ageMs)) ∧
    (∃ (s : State) (m : Master), Accepts s m R.REC_FETCH_CMD_STATUS) ∧
    (∃ (s : State) (n : Nat), s.erec.fetching = some n ∧ s.journalRecs.find? (fun w => decide (recSeq w = n)) = none) ∧
    (∃ (s : State) (n : Nat) (w : List Word), s.erec.fetching = some n ∧ s.journalRecs.find? (fun w => decide (recSeq w = n)) = some w) :=
  ⟨⟨st46_0, (16 - 1), 0, { trig0 with island := (16 - 1) }, [], by decide⟩,
   ⟨st46_1, 1, 0, { trig0 with island := 1 }, [], by decide⟩,
   ⟨st46_2, 1, 7, { trig0 with island := 1 }, [], by decide⟩,
   ⟨st46_3, trig0, [], by decide⟩,
   ⟨dev0, Master.pf0, 0, by decide⟩,
   ⟨st46_4, Master.pf0, 0, by decide⟩,
   ⟨st46_5, Master.pf0, 0, by decide⟩,
   ⟨st46_6, 60000, true, (st46_6.erec.waiting.take (st46_6.getOr R.REC_JRN_BATCH_BATCH 1 16 16)), by decide⟩,
   ⟨dev0, Master.pf0, by decide⟩,
   ⟨st46_7, 0, by decide⟩,
   ⟨st46_8, 0, ((st46_8.journalRecs.find? (fun w => decide (recSeq w = 0)))).get (by decide), by decide⟩⟩

theorem witness_SpiReadsWritesAndDiscards :
    (∃ (s : State) (a : Nat) (b : Nat) (c : Nat) (wait : Nat) (tick : Nat), s.hostUp .spi = true) ∧
    (∃ (s : State) (l : List Nat) (a : Arrival) (crc : Nat), s.hostUp .spi = true ∧ l.length = 9 ∧ l.headD 0 = 0x02 ∧ crc ≠ crc8 l) ∧
    (∃ (s : State) (v : Word) (a : Arrival) (l : List Nat), Open s .spi R.FLT_LINE_SEL ∧ l = 0x02 :: (bytesBE 3 R.FLT_LINE_SEL ++ bytesBE 5 v.toNat)) ∧
    (∃ (s : State) (cmd : Nat) (n : Nat), s.hostUp .spi = true ∧ cmd ≠ 0x05) :=
  ⟨⟨dev0, 0, 0, 0, 0, 0, by decide⟩,
   ⟨dev0, [2,0,0,0,0,0,0,0,0], plainArrival, (crc8 [2,0,0,0,0,0,0,0,0] + 1), by decide⟩,
   ⟨dev0, 0, plainArrival, (0x02 :: (bytesBE 3 R.FLT_LINE_SEL ++ bytesBE 5 (0 : Word).toNat)), by decide⟩,
   ⟨dev0, 0, 0, by decide⟩⟩

def st48_0 : State := let s : State := sets dev0 [(R.DMA_CFG_EN 0, 1)]; (if s.get (R.DMA_HEAD_IDX 0) = (s.get (R.DMA_TAIL_IDX 0)) then s.set (R.DMA_HEAD_IDX 0) ((s.get (R.DMA_TAIL_IDX 0)) + 1) else s)
def st48_1 : State := let s : State := sets dev0 [(R.DMA_CFG_EN 4, 1)]; (if s.get (R.DMA_HEAD_IDX 4) = (s.get (R.DMA_TAIL_IDX 4)) then s.set (R.DMA_HEAD_IDX 4) ((s.get (R.DMA_TAIL_IDX 4)) + 1) else s)
def st48_2 : State := (addSwf { swf0 with cls := (8 - 1), bound := (8 - 1), copies := [{ copy0 with dst := 24, ready := true }] } (dev0.set (R.DMA_CFG_EN (dev0.rxRing (8 - 1))) 0))
def st48_3 : State := (addSwf { swf0 with cls := (8 - 1), bound := (8 - 1), copies := [{ copy0 with dst := 24, ready := true }] } (dev0.set (R.DMA_CFG_EN (dev0.rxRing (8 - 1))) 1))
def st48_4 : State := (addSwf { swf0 with cls := (8 - 1), bound := (8 - 1), copies := [{ copy0 with dst := 24, ready := true }] } (dev0.set (R.DMA_CFG_EN (dev0.rxRing (8 - 1))) 1)).putDma (dev0.rxRing (8 - 1)) { rx := [(3,2000)], tx := [], noted := [], nobuf := false, stopped := false }
def st48_5 : State := { dev0 with dma := { dev0.dma with rings := kvPut dev0.dma.rings ((8 - 1)) { dev0.dmaRing (8 - 1) with tx := ({ job0 with res := some (0, 0) }) :: ([]) } } }
def st48_6 : State := (dev0.putPort 5 { PortState.init with awaits := [((8 - 1),3)] }).putDma (8 - 1) { rx := [], tx := [{ job0 with idx := 3, res := none }], noted := [], nobuf := false, stopped := false }
def st48_7 : State := dev0.putDma (8 - 1) { rx := [], tx := [], noted := [3], nobuf := false, stopped := false }
theorem witness_RingsFetchAndComplete :
    (∃ (s : State) (m : Master) (q : Nat) (idx : Nat), q < 8 ∧ Open s m (R.DMA_TAIL q) ∧ idx < 65536 ∧ s.ringWorld m q = false ∧ idx < s.ringSize q) ∧
    (∃ (s : State) (m : Master) (q : Nat) (idx : Nat), q < 8 ∧ Open s m (R.DMA_TAIL q) ∧ idx < 65536 ∧ s.ringWorld m q = false ∧ s.ringSize q ≤ idx) ∧
    (∃ (s : State) (m : Master) (q : Nat) (idx : Nat), q < 8 ∧ Open s m (R.DMA_TAIL q) ∧ idx < 65536 ∧ s.ringWorld m q = true) ∧
    (∃ (s : State) (q : Nat) (slot : Nat) (addr : Nat) (len : Nat), q < 8 ∧ s.up islMGT = true ∧ s.ringOn q = true ∧ s.get (R.PG_CTRL_EN P.DMA) = 1 ∧ 2 ≤ s.get R.BOOT_STAGE_STAGE ∧ s.get (R.DMA_HEAD_IDX q) ≠ s.get (R.DMA_TAIL_IDX q) ∧ q < 4) ∧
    (∃ (s : State) (q : Nat) (slot : Nat) (d : TxDesc), q < 8 ∧ s.up islMGT = true ∧ s.ringOn q = true ∧ s.get (R.PG_CTRL_EN P.DMA) = 1 ∧ 2 ≤ s.get R.BOOT_STAGE_STAGE ∧ s.get (R.DMA_HEAD_IDX q) ≠ s.get (R.DMA_TAIL_IDX q) ∧ 4 ≤ q ∧ s.linkOpen islMGT islSW 0 = true ∧ s.descOk d = false) ∧
    (∃ (s : State) (q : Nat) (slot : Nat) (d : TxDesc), q < 8 ∧ s.up islMGT = true ∧ s.ringOn q = true ∧ s.get (R.PG_CTRL_EN P.DMA) = 1 ∧ 2 ≤ s.get R.BOOT_STAGE_STAGE ∧ s.get (R.DMA_HEAD_IDX q) ≠ s.get (R.DMA_TAIL_IDX q) ∧ 4 ≤ q ∧ s.linkOpen islMGT islSW 0 = true ∧ s.descOk d = true) ∧
    (∃ (s : State) (cls : Nat) (q : Nat) (f : SwFrame), cls < 8 ∧ q = s.rxRing cls ∧ s.headOf 24 cls = some f ∧ s.up islMGT = true ∧ (s.dmaRing q).stopped = false ∧ s.ringOn q = false) ∧
    (∃ (s : State) (cls : Nat) (q : Nat) (f : SwFrame), cls < 8 ∧ q = s.rxRing cls ∧ s.headOf 24 cls = some f ∧ s.up islMGT = true ∧ (s.dmaRing q).stopped = false ∧ s.ringOn q = true ∧ (s.dmaRing q).rx = [] ∧ (s.dmaRing q).nobuf = false) ∧
    (∃ (s : State) (cls : Nat) (q : Nat) (f : SwFrame) (idx : Nat) (len : Nat) (rest : List (Nat × Nat)), cls < 8 ∧ q = s.rxRing cls ∧ s.headOf 24 cls = some f ∧ s.up islMGT = true ∧ (s.dmaRing q).stopped = false ∧ s.ringOn q = true ∧ (s.dmaRing q).rx = (idx, len) :: rest ∧ f.frame.len - 4 ≤ len) ∧
    (∃ (s : State) (q : Nat) (st : Nat) (stamp : Int) (j : TxJob) (rest : List TxJob), q < 8 ∧ (s.dmaRing q).tx = j :: rest ∧ j.res = some (st, stamp) ∧ s.up islMGT = true ∧ (s.portOf j.port).tsf = []) ∧
    (∃ (s : State) (q : Nat) (idx : Nat) (p : Nat) (ms : Nat), q < 8 ∧ 10 ≤ ms ∧ (List.range 24).find? (fun p => (s.portOf p).awaits.contains (q, idx)) = some p) ∧
    (∃ (s : State) (q : Nat) (us : Nat), q < 8 ∧ s.up islMGT = true ∧ (s.dmaRing q).noted ≠ [] ∧ s.get1 (R.DMA_MOD_TIME q) ≤ us) ∧
    (∃ (s : State) (m : Master) (v : Word), Open s m R.DMA_DQ_PEND) :=
  ⟨⟨dev0, Master.pf0, (8 - 1), 0, by decide⟩,
   ⟨dev0, Master.pf0, (8 - 1), (65536 - 1), by decide⟩,
   ⟨dev0, Master.pf1, (8 - 1), (65536 - 1), by decide⟩,
   ⟨st48_0, 0, 0, 0, 0, by decide⟩,
   ⟨st48_1, 4, 0, { txd with port := 24 }, by decide⟩,
   ⟨st48_1, 4, 0, txd, by decide⟩,
   ⟨st48_2, (8 - 1), (st48_2.rxRing (8 - 1)), ((st48_2.headOf 24 (8 - 1))).get (by decide), by decide⟩,
   ⟨st48_3, (8 - 1), (st48_3.rxRing (8 - 1)), ((st48_3.headOf 24 (8 - 1))).get (by decide), by decide⟩,
   ⟨st48_4, (8 - 1), (st48_4.rxRing (8 - 1)), ((st48_4.headOf 24 (8 - 1))).get (by decide), 3, 2000, [], by decide⟩,
   ⟨st48_5, (8 - 1), 0, 0, { job0 with res := some (0, 0) }, [], by decide⟩,
   ⟨st48_6, (8 - 1), 3, (((List.range 24).find? (fun p => (st48_6.portOf p).awaits.contains ((8 - 1), 3)))).get (by decide), 10, by decide⟩,
   ⟨st48_7, (8 - 1), (2^36), by decide⟩,
   ⟨dev0, Master.pf0, 0, by decide⟩⟩

def st49_0 : State := sets dev0 [(R.DMA_CFG_EN (8 - 1), 1)]
theorem witness_RingsStartAndStop :
    (∃ (s : State) (m : Master) (q : Nat) (w : Word), q < 8 ∧ Open s m (R.DMA_CFG q) ∧ s.ringWorld m q = false ∧ s.ringOn q = false ∧ (R.DMA_CFG_EN q).of w = 1) ∧
    (∃ (s : State) (m : Master) (q : Nat) (w : Word), q < 8 ∧ Open s m (R.DMA_CFG q) ∧ s.ringWorld m q = false ∧ s.ringOn q = true ∧ (R.DMA_CFG_EN q).of w = 0) ∧
    (∃ (s : State) (m : Master) (q : Nat) (w : Word), q < 8 ∧ Open s m (R.DMA_CFG q) ∧ s.ringWorld m q = false ∧ s.ringOn q = true ∧ (R.DMA_CFG_EN q).of w = 1 ∧ (R.DMA_CFG_LOG2 q).of w ≠ s.get (R.DMA_CFG_LOG2 q)) ∧
    (∃ (s : State) (q : Nat) (corr : Nat) (uncorr : Nat), q < 8 ∧ s.up islMGT = true ∧ s.ringOn q = true) ∧
    (∃ (s : State) (m : Master), Open s m (R.PG_CTRL P.DMA) ∧ s.get (R.PG_CTRL_EN P.DMA) = 1) :=
  ⟨⟨dev0, Master.pf0, (8 - 1), 5, by decide⟩,
   ⟨st49_0, Master.pf0, (8 - 1), 0, by decide⟩,
   ⟨st49_0, Master.pf0, (8 - 1), 5, by decide⟩,
   ⟨st49_0, (8 - 1), 0, 0, by decide⟩,
   ⟨dev0, Master.pf0, by decide⟩⟩

def st50_0 : State := dev0.putMst Master.pf0 { dev0.mst Master.pf0 with snap := [((R.GEN_COMMIT_AT+1),7)] }
def st50_1 : State := { dev0 with isl := { dev0.isl with inReset := 2^6 } }
theorem witness_ReadsAnswerTheirMaster :
    (∃ (s : State) (m : Master) (a : Nat) (tick : Nat), s.hostUp m = true ∧ a < 512 * aliasPage ∧ slotDefined a = true ∧ s.pageDead (a / 512) = false ∧ a ≠ R.KEY_DATA ∧ a ≠ R.ATT_OUT_DATA ∧ snapMember a = false) ∧
    (∃ (s : State) (m : Master) (a : Nat) (tick : Nat) (w : Word), s.hostUp m = true ∧ a < 512 * aliasPage ∧ slotDefined a = true ∧ s.pageDead (a / 512) = false ∧ a ≠ R.KEY_DATA ∧ a ≠ R.ATT_OUT_DATA ∧ snapMember a = true ∧ kvGet (s.mst m).snap a = some w) ∧
    (∃ (s : State) (m : Master) (a : Nat) (tick : Nat), s.hostUp m = true ∧ a < 512 * aliasPage ∧ slotDefined a = false) ∧
    (∃ (s : State) (m : Master) (a : Nat) (tick : Nat), s.hostUp m = true ∧ a < 512 * aliasPage ∧ slotDefined a = true ∧ s.pageDead (a / 512) = true) ∧
    (∃ (s : State) (m : Master) (slot : Nat), s.hostUp m = true) :=
  ⟨⟨dev0, Master.pf0, 0, 0, by decide⟩,
   ⟨st50_0, Master.pf0, (R.GEN_COMMIT_AT+1), 0, 7, by decide⟩,
   ⟨dev0, Master.pf0, (512 * aliasPage - 1), 0, by decide⟩,
   ⟨st50_1, Master.pf0, R.SEL_STATUS, 0, by decide⟩,
   ⟨dev0, Master.pf0, 0, by decide⟩⟩

def st51_0 : State := { dev0 with isl := { dev0.isl with inReset := 2^6 } }
def st51_1 : State := { dev0 with isl := { dev0.isl with inReset := 2^8 } }
def st51_2 : State := dev0.putMst Master.pf0 { dev0.mst Master.pf0 with staged := kvPut (kvPut [] R.GEN_COMMIT_AT 5) (R.GEN_COMMIT_AT+1) 7 }
def st51_3 : State := dev0.putMst Master.pf0 { dev0.mst Master.pf0 with staged := kvPut (kvPut [] R.GEN_COMMIT_AT 5) (R.GEN_COMMIT_AT+1) 0xFFFFFFFFF }
theorem witness_WritesReachTheirRegisters :
    (∃ (s : State) (m : Master) (slot : Nat) (v : Word) (a : Arrival), s.hostUp m = true ∧ slotDefined slot = false) ∧
    (∃ (s : State) (m : Master) (slot : Nat) (v : Word) (a : Arrival), s.hostUp m = true ∧ s.pageDead P.SEL = true) ∧
    (∃ (s : State) (m : Master) (slot : Nat) (v : Word) (a : Arrival), s.hostUp m = true ∧ s.pageDead P.FLT = false ∧ s.expertOk m P.FLT = false) ∧
    (∃ (s : State) (m : Master) (v : Word) (a : Arrival), Open s m R.FLT_LINE_SEL) ∧
    (∃ (s : State) (m : Master) (slot : Nat) (v : Word) (d : RegDef), slotDef slot = some d ∧ d.rws ≠ 0 ∧ d.rw = 0 ∧ d.time = 0 ∧ Open s m slot) ∧
    (∃ (s : State) (m : Master) (slot : Nat) (v : Word) (d : RegDef), slotDef slot = some d ∧ d.rws ≠ 0 ∧ d.rw = 0 ∧ d.time = 0 ∧ s.hostUp m = true ∧ s.pageDead (slot / 512) = true) ∧
    (∃ (s : State) (m : Master) (v : Word) (w0 : Word) (w1 : Word) (a : Arrival), Open s m R.GEN_COMMIT_AT ∧ kvGet (s.mst m).staged R.GEN_COMMIT_AT = some w0 ∧ kvGet (s.mst m).staged (R.GEN_COMMIT_AT + 1) = some w1 ∧ t108Ok (w0.toNat * 2 ^ 72 + w1.toNat * 2 ^ 36 + v.toNat) = true) ∧
    (∃ (s : State) (m : Master) (v : Word) (w0 : Word) (w1 : Word) (a : Arrival), Open s m R.GEN_COMMIT_AT ∧ kvGet (s.mst m).staged R.GEN_COMMIT_AT = some w0 ∧ kvGet (s.mst m).staged (R.GEN_COMMIT_AT + 1) = some w1 ∧ t108Ok (w0.toNat * 2 ^ 72 + w1.toNat * 2 ^ 36 + v.toNat) = false) ∧
    (∃ (s : State) (m : Master) (v : Word) (a : Arrival), R.SEL_CMD_OP.of v = 2) ∧
    (∃ (s : State) (m : Master) (v : Word) (a : Arrival), R.GEN_CMD_OP.of v = 1) :=
  ⟨⟨dev0, Master.pf0, (512 * 5 + 500), 0, plainArrival, by decide⟩,
   ⟨st51_0, Master.pf0, 0, 0, plainArrival, by decide⟩,
   ⟨dev0, Master.pf0, 0, 0, plainArrival, by decide⟩,
   ⟨dev0, Master.pf0, 0, plainArrival, by decide⟩,
   ⟨dev0, Master.pf0, (R.PRT_CFG 3), 0, ((slotDef (R.PRT_CFG 3))).get (by decide), by decide⟩,
   ⟨st51_1, Master.pf0, (R.PRT_CFG 3), 0, ((slotDef (R.PRT_CFG 3))).get (by decide), by decide⟩,
   ⟨st51_2, Master.pf0, 9, 5, 7, plainArrival, by decide⟩,
   ⟨st51_3, Master.pf0, 0xFFFFFFFFF, 5, 0xFFFFFFFFF, plainArrival, by decide⟩,
   ⟨dev0, Master.pf0, (R.SEL_CMD_OP.put 0 2), plainArrival, by decide⟩,
   ⟨dev0, Master.pf0, (R.GEN_CMD_OP.put 0 1), plainArrival, by decide⟩⟩

def st52_0 : State := (dev0.set R.GLB_EXPERT_CTRL_PERMIT_PF1 1).putMst Master.pf0 { dev0.mst Master.pf0 with window := 1 }
def st52_1 : State := dev0.putMst Master.pf0 { dev0.mst Master.pf0 with window := 1 }
def st52_2 : State := dev0.putMst Master.pf0 { dev0.mst Master.pf0 with window := 2 }
def st52_3 : State := let s : State := sets dev0 [(R.GLB_EXPERT_CTRL_TIMEOUT, 0)]; s.putMst Master.pf0 { s.mst Master.pf0 with window := 2 }
def st52_4 : State := { ((((dev0.wr (R.EVT_EN 0) 0xFFFFFFFF).wr (R.EVT_MAP 0) (BitVec.ofNat 36 31)).wr (R.PG_EVT ((pageOfSource 0).getD 0)) 0x3).wr (R.PG_EVT_EN ((pageOfSource 0).getD 0)) 0x3) with host := { dev0.host with x0 := { enabled := true, funcMask := false, masked := 0, pend := 0 }, x1 := { enabled := true, funcMask := false, masked := 0, pend := 0 } } }
def st52_5 : State := { dev0 with host := { dev0.host with x0 := { enabled := true, funcMask := false, masked := 0xFFFFFFFF, pend := 0xFFFFFFFF }, x1 := { enabled := true, funcMask := false, masked := 0, pend := 0xFFFFFFFF } } }
theorem witness_WindowsEventsAndVectors :
    (∃ (s : State) (m : Master) (since : Nat), Open s m R.GLB_EXPERT_KEY ∧ (s.mst m).window = 1 ∧ since ≤ 1000 ∧ ((m = .pf1) → s.get R.GLB_EXPERT_CTRL_PERMIT_PF1 = 1)) ∧
    (∃ (s : State) (m : Master) (since : Nat), Open s m R.GLB_EXPERT_KEY ∧ (s.mst m).window = 1 ∧ 1000 < since) ∧
    (∃ (s : State) (m : Master) (since : Nat) (v : Word), Open s m R.GLB_EXPERT_KEY ∧ v.toNat ≠ 0x5C0A71E42 ∧ v.toNat ≠ 0xA3F58E1BD) ∧
    (∃ (s : State) (m : Master), (s.mst m).window = 2 ∧ s.get R.GLB_EXPERT_CTRL_TIMEOUT ≠ 0) ∧
    (∃ (s : State) (m : Master), (s.mst m).window = 2 ∧ s.get R.GLB_EXPERT_CTRL_TIMEOUT = 0) ∧
    (∃ (s : State) (m : Master) (page : Nat) (v : Word) (same : Nat), pageDefined page = true ∧ Open s m (R.PG_EVT page)) ∧
    (∃ (s : State) (m : Master) (v : Word) (k : Nat) (pf : Nat), Open s m R.EVT_VEC_ACK ∧ k < 32 ∧ v.toNat.testBit k = true ∧ s.vecLevel k = true ∧ pf = (if bitOn (s.rd R.EVT_VEC_PF).toNat k then 1 else 0) ∧ (s.msixOf pf).enabled = true ∧ (s.msixOf pf).funcMask = false ∧ bitOn (s.msixOf pf).masked k = false) ∧
    (∃ (s : State) (pf : Nat) (vec : Nat), pf < 2 ∧ vec < 32 ∧ (s.msixOf pf).enabled = true ∧ (s.msixOf pf).funcMask = false ∧ bitOn (s.msixOf pf).pend vec = true) :=
  ⟨⟨st52_0, Master.pf0, 1000, by decide⟩,
   ⟨st52_1, Master.pf0, 1001, by decide⟩,
   ⟨dev0, Master.pf0, 0, 0, by decide⟩,
   ⟨st52_2, Master.pf0, by decide⟩,
   ⟨st52_3, Master.pf0, by decide⟩,
   ⟨dev0, Master.pf0, 0, 0, 0, by decide⟩,
   ⟨st52_4, Master.pf0, 0xFFFFFFFF#36, 31, (if bitOn (st52_4.rd R.EVT_VEC_PF).toNat 31 then 1 else 0), by decide⟩,
   ⟨st52_5, (2 - 1), 31, by decide⟩⟩

theorem witness_ResetIsTheRegisterTables :
    (∃ (i : Nat), 1 ≤ i ∧ i ≤ 15) ∧
    (∃ (p : Nat) (b : Nat), b < 32) :=
  ⟨⟨1, by decide⟩,
   ⟨0, (32 - 1), by decide⟩⟩

theorem witness_UndefinedSlotsAndTheShadowAlias :
    (∃ (s : State) (m : Master) (a : Nat) (tick : Nat), s.hostUp m = true ∧ a < 512 * aliasPage ∧ slotDefined a = false) ∧
    (∃ (s : State) (m : Master) (a : Nat) (v : Word) (x : Arrival), s.hostUp m = true ∧ (slotDefined a = false ∨ 512 * aliasPage ≤ a)) ∧
    (∃ (s : State) (m : Master) (a : Nat) (tick : Nat), s.hostUp m = true ∧ a < 512 * aliasPage ∧ slotDefined a = true ∧ s.pageDead (a / 512) = false) ∧
    (∃ (s : State) (m : Master) (write : Bool) (a : Nat), s.hostUp m = true) :=
  ⟨⟨dev0, Master.pf0, (512 * aliasPage - 1), 0, by decide⟩,
   ⟨dev0, Master.pf0, (512*aliasPage + 20), 0, plainArrival, by decide⟩,
   ⟨dev0, Master.pf0, 0, 0, by decide⟩,
   ⟨dev0, Master.pf0, true, 0, by decide⟩⟩

def queued : State := { State.reset with pending := [.vinGood 12000, .holdupReady] }
theorem witness_StepRunsTheFrontCommand : ∃ (s : State) (c : Instr) (rest : List Instr), s.pending = c :: rest :=
  ⟨queued, _, _, rfl⟩

theorem witness_EveryStepKeepsTheRegistersCanonical : ∃ s t : State, RegsWf s ∧ step s = .next t :=
  ⟨queued, _, by unfold RegsWf; decide, rfl⟩

def fused : State := { queued with key := { KeyPart.init with fuses := 2 } }
theorem witness_FusesNeverGoBack : ∃ (s t : State) (k : Nat), step s = .next t ∧ bitOn s.key.fuses k = true :=
  ⟨fused, _, 1, rfl, by decide⟩

theorem witness_CommandsCompleteAndKeepTheQueue : ∃ c : Instr, c.wf = true ∧ c ≠ .jtagPrivateInstruction :=
  ⟨.selHoldover .pf0, by decide, nofun⟩

theorem witness_CommandsStayInTheirUnit :
    (∃ (m : Master) (k : Nat) (v : Word) (s t : State) (c : Instr), c ∈ [Instr.selSwitch m k, .selHoldover m, .selRelease m, .lockoutWrite m v, .steerSubmit m v] ∧ exec c s = .next t) ∧
    (∃ (m : Master) (v : Word) (k : Nat) (s t : State) (c : Instr), c ∈ [Instr.voteSet m, .cancelStep m, .hostStepSubmit m v, .recover m k, .utcOffsetWrite m v, .leapSchedule m v] ∧ exec c s = .next t) ∧
    (∃ (m : Master) (s t : State) (c : Instr), c ∈ [Instr.addStatic m, .fdbDelete m, .fdbRead m, .flushLearned m, .flushPort m] ∧ exec c s = .next t) ∧
    (∃ (m : Master) (s t : State) (c : Instr), c ∈ [Instr.cltRead m, .cltFind m] ∧ exec c s = .next t) ∧
    (∃ (m : Master) (v : Word) (s t : State) (c : Instr), c ∈ [Instr.hostMark m v, .fetch m, .codeSelWrite m v, .codeCfgWrite m v] ∧ exec c s = .next t) ∧
    (∃ (m : Master) (v : Word) (s t : State) (c : Instr), c ∈ [Instr.codeOpen m, .codeDataWrite m v] ∧ exec c s = .next t) ∧
    (∃ (m : Master) (s t : State), exec (.genCancel m) s = .next t) ∧
    (∃ (m : Master) (s t : State), exec (.runNow m) s = .next t) ∧
    (∃ (m : Master) (v : Word) (s t : State), exec (.dqPendClear m v) s = .next t) ∧
    (∃ (m : Master) (s t : State), exec (.wdogKick m) s = .next t) ∧
    (∃ (m : Master) (k : Nat) (s t : State), exec (.ticDisarm m k) s = .next t) ∧
    (∃ (m : Master) (a k : Nat) (s t : State) (c : Instr), c ∈ [Instr.rsLeadRead m a k, .t108ReadSnapshot m a k] ∧ exec c s = .next t) ∧
    (∃ (coach : Nat) (s t : State) (c : Instr), c ∈ [Instr.keyPin coach, .keyRelease coach] ∧ exec c s = .next t) ∧
    (∃ (link : Nat) (f : DugFrame) (s t : State), exec (.ackReceive link f) s = .next t) ∧
    (∃ (client mtype : Nat) (s t : State), exec (.grantExpiry client mtype) s = .next t) ∧
    (∃ (m : Master) (w : Word) (s t : State), exec (.tmpLatchClear m w) s = .next t) :=
  ⟨⟨.pf0, 0, 0, dev0, _, .selHoldover .pf0, .tail _ (.head _), rfl⟩,
   ⟨.pf0, 0, 0, dev0, _, .cancelStep .pf0, .tail _ (.head _), rfl⟩,
   ⟨.pf0, dev0, _, .addStatic .pf0, .head _, rfl⟩,
   ⟨.pf0, dev0, _, .cltRead .pf0, .head _, rfl⟩,
   ⟨.pf0, 0, dev0, _, .hostMark .pf0 0, .head _, rfl⟩,
   ⟨.pf0, 0, dev0, _, .codeOpen .pf0, .head _, rfl⟩,
   ⟨.pf0, dev0, _, rfl⟩,
   ⟨.pf0, dev0, _, rfl⟩,
   ⟨.pf0, 0, dev0, _, rfl⟩,
   ⟨.pf0, dev0, _, rfl⟩,
   ⟨.pf0, 0, dev0, _, rfl⟩,
   ⟨.pf0, 0, 0, dev0, _, .rsLeadRead .pf0 0 0, .head _, rfl⟩,
   ⟨0, dev0, _, .keyPin 0, .head _, rfl⟩,
   ⟨0, dug0, dev0, _, rfl⟩,
   ⟨0, 0, dev0, _, rfl⟩,
   ⟨.pf0, 0, dev0, _, rfl⟩⟩

end Sys2Proof.Tests
end

section
/-! PROOFS.
The register model (spec/04): undefined slots, the shadow alias and accesses of 32 bits (R82 to R84).
-/
namespace Sys2Proof.Machine
open Sys2Proof

/-! ## What a master keeps: reads of its state after an update -/

section
variable (s : State)

@[simp] theorem State.mst_putMst_same (m : Master) (x : MasterState) : (s.putMst m x).mst m = x := by cases m <;> rfl

/-- A read returns its value, and changes nothing else of what its master keeps. -/
@[simp] theorem State.ret_mst (m : Master) (v : Word) : (s.ret m v).mst m = { s.mst m with readData := v } := State.mst_putMst_same ..

@[simp] theorem State.ret_regs (m : Master) (v : Word) : (s.ret m v).regs = s.regs := State.putMst_regs ..

@[simp] theorem State.ret_get (m : Master) (v : Word) (f : Fld) : (s.ret m v).get f = s.get f := State.get_congr (State.ret_regs ..) f

theorem State.event_ret (m : Master) (v : Word) (p b : Nat) : Event (s.ret m v) p b ↔ Event s p b := by
  unfold Event
  rw [State.rd_congr (State.ret_regs s m v)]

/-- Messages to the host leave what the masters keep as it is. -/
@[simp] theorem State.sendVec_mst (v : Nat) (m : Master) : (s.sendVec v).mst m = s.mst m := by
  unfold State.sendVec
  extract_lets pf x x'
  split
  · rfl
  · split
    · split <;> cases m <;> rfl
    · cases m <;> rfl

@[simp] theorem State.vecRises_mst (old : State) (m : Master) : (State.vecRises old s).mst m = s.mst m := by
  unfold State.vecRises
  split
  · refine List.foldlRecOn (motive := fun t : State => t.mst m = s.mst m) _ _ rfl fun t ht v _ => ?_
    split
    · rw [State.sendVec_mst, ht]
    · exact ht
  · rfl

@[simp] theorem State.wr_mst (a : Nat) (v : Word) (m : Master) : (s.wr a v).mst m = s.mst m := by cases m <;> rfl

/-- An event leaves what the masters keep as it is. -/
@[simp] theorem State.raise_mst (p b : Nat) (m : Master) : (s.raise p b).mst m = s.mst m := by
  unfold State.raise State.putEvt
  extract_lets old en t
  split
  · rw [State.vecRises_mst, State.wr_mst]
  · exact State.wr_mst ..

end

/-! ## ACCESS_ERR: what the report changes and what it shows (R99, R100) -/

section
variable (s : State) (m : Master) (cause : Nat) (write : Bool) (slot : Nat)

@[simp] theorem State.accessErr_mst (n : Master) : (s.accessErr m cause write slot).mst n = s.mst n := by
  unfold State.accessErr
  extract_lets t u
  have hu : u.mst n = t.mst n := by
    dsimp only [u]
    split
    · rfl
    · exact State.wr_mst ..
  rw [State.raise_mst, hu]
  exact State.wr_mst ..

/-- The report changes registers and what goes to the host, and no other part of the device. -/
theorem State.accessErr_onlyReports : OnlyReports s (s.accessErr m cause write slot) := by
  unfold State.accessErr State.raise OnlyReports
  extract_lets t u
  have hu : u = { s with regs := u.regs } := by
    dsimp only [u]
    split <;> rfl
  rw [State.putEvt_frame]
  generalize u.putEvt _ _ = w
  rw [hu]

/-- The report is in the registers of GLB. -/
theorem State.accessErr_onlyPages : OnlyPages [P.GLB] s (s.accessErr m cause write slot) := by
  intro a ha
  have away : ∀ b < 512, a ≠ b := by
    rintro b hb rfl
    exact ha (by simp [Nat.div_eq_of_lt hb])
  unfold State.accessErr
  extract_lets t u
  have hu : u.rd a = t.rd a := by
    dsimp only [u]
    split
    · rfl
    · exact State.rd_wr_other _ _ _ _ (away _ (by decide))
  rw [State.raise_rd_other _ _ _ _ (away _ (by decide)), hu]
  exact State.bump_rd_other _ _ _ (away _ (by decide))

theorem State.accessErr_event : Event (s.accessErr m cause write slot) P.GLB E.GLB_ACCESS_ERR := event_raise _ _ _ (by decide)

/-- The first error since the event was cleared is the one GLB.ACCESS_ERR shows. -/
theorem State.accessErr_rd_first (h : ¬ Event s P.GLB E.GLB_ACCESS_ERR) :
    (s.accessErr m cause write slot).rd R.GLB_ACCESS_ERR =
      BitVec.ofNat 36 (cause * 2 ^ 32 + masterCode m * 2 ^ 30 + (if write then 2 ^ 23 else 0) + slot % 2 ^ 23) := by
  unfold State.accessErr
  rw [State.raise_rd_other _ _ _ _ (by decide), if_neg h, State.rd_wr_same]

/-- The fields CAUSE, WRITE and SLOT of the error shown. -/
theorem State.accessErr_get_first (h : ¬ Event s P.GLB E.GLB_ACCESS_ERR) (hc : cause < 8) :
    (s.accessErr m cause write slot).get R.GLB_ACCESS_ERR_CAUSE = cause ∧
      (s.accessErr m cause write slot).get R.GLB_ACCESS_ERR_WRITE = (if write then 1 else 0) ∧
      (s.accessErr m cause write slot).get R.GLB_ACCESS_ERR_SLOT = slot % 2 ^ 23 := by
  have hm : masterCode m < 4 := by cases m <;> decide
  simp only [State.get, Fld.of, State.accessErr_rd_first s m cause write slot h, BitVec.toNat_ofNat]
  cases write <;> simp only [if_true, Bool.false_eq_true, if_false] <;> omega

end

/-! ## The pages of the shadow alias (R82, R83) -/

/-- The directory ends below the alias. -/
theorem pageRow?_alias {p : Nat} (h : aliasPage ≤ p) : pageRow? p = none := by
  have ends : ∀ r ∈ pageDir, r.first + r.count ≤ aliasPage := by decide
  have none_found : pageDir.find? (fun r => decide (r.first ≤ p ∧ p < r.first + r.count)) = none := by
    refine List.find?_eq_none.2 fun r hr => ?_
    have := ends r hr
    simp only [decide_eq_true_eq]
    omega
  unfold pageRow?
  rw [none_found]

theorem aliasPage_le_div {a : Nat} (h : 512 * aliasPage ≤ a) : aliasPage ≤ a / 512 := by omega

/-- No slot of the alias is defined in the register space's sense. -/
theorem slotDefined_alias {a : Nat} (h : 512 * aliasPage ≤ a) : slotDefined a = false := by
  simp [slotDefined, pageDefined, pageRow?_alias (aliasPage_le_div h)]

/-- A read of the alias neither takes a snapshot nor returns one. -/
theorem snapSlots_alias {a : Nat} (h : 512 * aliasPage ≤ a) : snapSlots a = [] := by
  simp [snapSlots, pageRow?_alias (aliasPage_le_div h)]

theorem snapMember_alias {a : Nat} (h : 512 * aliasPage ≤ a) : snapMember a = false := by
  simp [snapMember, pageRow?_alias (aliasPage_le_div h)]

/-- The cores' copies hold no shadows: each core shows those of the state. -/
@[simp] theorem State.asCore_shadow (s : State) (k : Nat) : (s.asCore k).shadow = s.shadow := by
  unfold State.asCore
  split <;> rfl

/-- The alias of a defined slot shows the shadowed bits of its shadow. -/
theorem State.live_alias (s : State) (m : Option Master) (tick : Nat) {a : Nat} (h : slotDefined a = true) :
    s.live m tick (a + 512 * aliasPage) = s.shadow.read a &&& BitVec.ofNat 36 (rwsMask a) := by
  have back : a + 512 * aliasPage - aliasPage * 512 = a := by omega
  unfold State.live
  rw [if_pos (aliasPage_le_div (Nat.le_add_left ..))]
  dsimp only
  rw [back, if_pos h]

/-! ## Reads and writes (R82 to R84) -/

section
variable {s : State} {m : Master} {a : Nat} (up : s.hostUp m = true)
include up

/-- A read of an undefined slot of the register space returns 0 and does nothing else. -/
theorem State.hostRead_undefined (tick : Nat) (low : a < 512 * aliasPage) (h : slotDefined a = false) : s.hostRead m tick a = s.ret m 0 := by
  have space : ¬ aliasPage ≤ a / 512 := by omega
  unfold State.hostRead
  simp [up, space, h]

/-- A read of the alias of a register whose page lives returns the register's shadow and does nothing else. -/
theorem State.hostRead_alias (tick : Nat) (h : slotDefined a = true) (lives : s.pageDead (a / 512) = false) :
    s.hostRead m tick (a + 512 * aliasPage) = s.ret m (s.shadow.read a &&& BitVec.ofNat 36 (rwsMask a)) := by
  have inAlias : 512 * aliasPage ≤ a + 512 * aliasPage := Nat.le_add_left ..
  have back : a + 512 * aliasPage - aliasPage * 512 = a := by omega
  have notKey : a + 512 * aliasPage ≠ R.KEY_DATA := Nat.ne_of_gt (Nat.lt_of_lt_of_le (by decide) inAlias)
  have notAtt : a + 512 * aliasPage ≠ R.ATT_OUT_DATA := Nat.ne_of_gt (Nat.lt_of_lt_of_le (by decide) inAlias)
  unfold State.hostRead
  rw [if_pos (aliasPage_le_div inAlias), back]
  simp only [up, h, lives, notKey, notAtt, snapSlots_alias inAlias, snapMember_alias inAlias, State.live_alias _ _ _ h, Bool.not_true, Bool.false_eq_true,
    if_false, List.foldl_nil]
  split
  · rw [State.asCore_shadow]
  · rfl

/-- A write of an undefined slot is ignored and reported with cause UNDEF. -/
theorem State.writeAny_undefined (v : Word) (x : Arrival) (h : slotDefined a = false) : s.writeAny m a v x = s.accessErr m 2 true a := by
  have other : ∀ b, slotDefined b = true → a ≠ b := by
    rintro b hb rfl
    simp [h] at hb
  unfold State.writeAny
  rw [if_neg (other _ (by decide)), if_neg (other _ (by decide))]
  unfold State.regWrite State.plainWrite
  simp [up, h]

/-- An access of 32 bits is reported with cause WIDTH; a write has no other effect, and a read returns 0xFFFF_FFFF (R7). -/
theorem execWidthAccess_up (write : Bool) :
    execWidthAccess m write a s =
      .next (if write then s.accessErr m 1 write a else (s.accessErr m 1 write a).ret m (BitVec.ofNat 36 0xFFFFFFFF)) := by
  simp [execWidthAccess, up]

end

theorem exec_rsLeadRead (m : Master) (a tick : Nat) (s : State) : exec (.rsLeadRead m a tick) s = .next (s.hostRead m tick a) := rfl

theorem exec_registerWrite (m : Master) (a : Nat) (v : Word) (x : Arrival) (s : State) : exec (.registerWrite m a v x) s = .next (s.writeAny m a v x) := rfl

theorem exec_widthAccess (m : Master) (write : Bool) (a : Nat) (s : State) : exec (.widthAccess m write a) s = execWidthAccess m write a s := rfl

/-- A value returned to a master is a report of the state before it. -/
theorem OnlyReports.ret {s t : State} (h : OnlyReports s t) (m : Master) (v : Word) : OnlyReports s (t.ret m v) := by
  unfold OnlyReports at *
  rw [h]
  cases m <;> rfl

/-- A value returned to a master changes no register. -/
theorem OnlyPages.ret {l : List Nat} {s t : State} (h : OnlyPages l s t) (m : Master) (v : Word) : OnlyPages l s (t.ret m v) := fun a ha => by
  rw [State.rd_congr (State.ret_regs t m v), h a ha]

/-- Settles O59: each access is one of two things, a value returned to its master or a report of ACCESS_ERR, and the laws of the two give the clauses. That an
undefined slot of a dead page reads 0 is the model's choice (log entry 21). -/
theorem undefinedSlotsAndTheShadowAlias : Obligations.UndefinedSlotsAndTheShadowAlias := by
  refine ⟨fun s m a tick up low undef => ?_, fun s m a v x up out => ?_, fun s m a tick up _ known lives => ?_, fun s m write a up => ?_⟩
  · refine ⟨s.ret m 0, ?_, by rw [State.ret_mst], rfl⟩
    rw [exec_rsLeadRead, State.hostRead_undefined up tick low undef]
  · have undef : slotDefined a = false := out.elim id slotDefined_alias
    refine ⟨s.accessErr m 2 true a, ?_, State.accessErr_onlyReports .., State.accessErr_onlyPages s m 2 true a, State.accessErr_event ..,
      fun first => State.accessErr_get_first s m 2 true a first (by decide)⟩
    rw [exec_registerWrite, State.writeAny_undefined up v x undef]
  · refine ⟨s.ret m (s.shadow.read a &&& BitVec.ofNat 36 (rwsMask a)), ?_, by rw [State.ret_mst], fun plain => ?_, State.ret_regs ..⟩
    · rw [exec_rsLeadRead, State.hostRead_alias up tick known lives]
    · rw [State.ret_mst, plain]
      exact BitVec.and_zero
  · have reports := State.accessErr_onlyReports s m 1 write a
    have pages := State.accessErr_onlyPages s m 1 write a
    have event := State.accessErr_event s m 1 write a
    have shown := fun first => (State.accessErr_get_first s m 1 write a first (by decide)).1
    refine ⟨_, (exec_widthAccess ..).trans (execWidthAccess_up up write), ?_⟩
    cases write with
    | true => exact ⟨nofun, by simp, by simp, by simp, reports, pages, event, shown⟩
    | false =>
      exact ⟨fun _ => by simp, by simp, by simp, by simp, reports.ret .., pages.ret m _, (State.event_ret ..).2 event,
        fun first => (State.ret_get ..).trans (shown first)⟩

end Sys2Proof.Machine
end

section
/-! PROOFS.
The life cycle (spec/16): the confirmation that each command spends, the commands and what a change programs (R372 to R375).
-/
namespace Sys2Proof.Machine
open Sys2Proof

/-- A command that completes with `P` completes with what follows from `P`. -/
theorem Completes.imp {c : Instr} {s : State} {P Q : State → Prop} (h : Completes c s P) (pq : ∀ t, P t → Q t) : Completes c s Q := by
  obtain ⟨t, ht, hp⟩ := h
  exact ⟨t, ht, pq t hp⟩

/-! ## LCY.CONFIRM of one master (R375) -/

section
variable (s : State) (m : Master) (c : Confirm)

@[simp] theorem State.putConfirm_regs : (s.putConfirm m c).regs = s.regs := by cases m <;> rfl
@[simp] theorem State.putConfirm_get (f : Fld) : (s.putConfirm m c).get f = s.get f := State.get_congr (State.putConfirm_regs ..) f
@[simp] theorem State.confirmOf_putConfirm : (s.putConfirm m c).confirmOf m = c := by cases m <;> rfl
@[simp] theorem State.putConfirm_fuses : (s.putConfirm m c).key.fuses = s.key.fuses := by cases m <;> rfl
@[simp] theorem State.putConfirm_lcyRun : (s.putConfirm m c).key.lcyRun = s.key.lcyRun := by cases m <;> rfl
@[simp] theorem State.putConfirm_lcs : (s.putConfirm m c).lcs = s.lcs := by cases m <;> rfl

/-- A master's confirmation is a part of what KV keeps. -/
theorem State.confirmOf_congr {s t : State} (h : t.key = s.key) (m : Master) : t.confirmOf m = s.confirmOf m := by
  cases m <;> simp only [State.confirmOf, h]

end

/-- A confirmation closed: neither armed nor given. -/
abbrev Confirm.closed : Confirm := { armedAt := none, okAt := none }

/-- A confirmation after a write to LCY.CONFIRM: the first word arms it, and the second gives it within 1 ms of the first. -/
def Confirm.write (c : Confirm) (w : Word) (us : Nat) : Confirm where
  armedAt := if w.toNat = 0x31C5DA947 then some us else none
  okAt := if w.toNat = 0xCE3A256B8 ∧ c.armedAt.any (fun a => decide (us ≤ a + 1000)) = true then some us else none

theorem exec_lcyConfirm (m : Master) (w : Word) (us : Nat) (s : State) : exec (.lcyConfirm m w us) s = execLcyConfirm m w us s := rfl

/-- A write that reaches LCY.CONFIRM changes its master's confirmation, and nothing else. -/
theorem exec_lcyConfirm_open {s : State} {m : Master} (h : Open s m R.LCY_CONFIRM) (w : Word) (us : Nat) :
    exec (.lcyConfirm m w us) s = .next (s.putConfirm m ((s.confirmOf m).write w us)) := by
  rw [exec_lcyConfirm, execLcyConfirm, hostWrite_open h]
  by_cases first : w.toNat = 0x31C5DA947
  · simp [Confirm.write, first]
  · cases armed : (s.confirmOf m).armedAt with
    | none => simp [Confirm.write, first, armed]
    | some a =>
      by_cases second : w.toNat = 0xCE3A256B8 ∧ us ≤ a + 1000
      · simp [Confirm.write, armed, second]
      · simp only [Confirm.write, first, armed, second, Option.any_some, decide_eq_true_eq, if_false]

/-- A write to LCY.CONFIRM completes with its master's confirmation as `Confirm.write` gives it, and with the registers as they were. -/
theorem lcyConfirm_completes {s : State} {m : Master} (h : Open s m R.LCY_CONFIRM) {w : Word} {us : Nat} {c : Confirm} (hc : (s.confirmOf m).write w us = c) :
    Completes (.lcyConfirm m w us) s fun t => t.confirmOf m = c ∧ t.regs = s.regs :=
  ⟨_, exec_lcyConfirm_open h w us, by rw [State.confirmOf_putConfirm, hc], State.putConfirm_regs ..⟩

/-! ## The commands (R373, R375) -/

section
variable (s : State) (st : Nat)

/-- A command that completes changes registers and reports, and nothing of KV. -/
@[simp] theorem State.lcyDone_key : (s.lcyDone st).key = s.key := by rw [State.lcyDone, State.raise_key, State.set_key]

theorem State.lcyDone_status (h : st < 16) : (s.lcyDone st).get R.LCY_CMD_STATUS = st := by
  unfold State.lcyDone
  rw [State.raise_get_other _ _ _ _ (by decide), State.get_set_same _ _ _ (by decide)]
  exact Nat.mod_eq_of_lt h

theorem State.lcyDone_event : Event (s.lcyDone st) P.LCY E.LCY_CMD_DONE := event_raise _ _ _ (by decide)

theorem State.lcyDone_get_other (f : Fld) (h : f.slot ≠ R.LCY_CMD) (h' : f.slot ≠ R.PG_EVT P.LCY) : (s.lcyDone st).get f = s.get f := by
  unfold State.lcyDone
  rw [State.raise_get_other _ _ _ _ h', State.get_set_other _ _ _ _ (.inl h.symm)]

/-- An event that shows stays shown when another one occurs. -/
theorem Event.raise {s : State} {p b : Nat} (h : Event s p b) (q c : Nat) : Event (s.raise q c) p b := by
  by_cases page : p = q
  · subst page
    have low : b < 36 := by
      by_contra high
      have clear := Nat.testBit_lt_two_pow (Nat.lt_of_lt_of_le (s.rd (R.PG_EVT p)).isLt (Nat.pow_le_pow_right (by decide) (Nat.le_of_not_lt high)))
      exact Bool.false_ne_true (clear.symm.trans h)
    unfold Event at *
    rw [State.raise_rd_evt, BitVec.toNat_ofNat]
    unfold bitOn at *
    rw [Nat.testBit_mod_two_pow, testBit_setBit]
    split <;> simp [low, h]
  · unfold Event at *
    rwa [State.raise_rd_other _ _ _ _ (by unfold R.PG_EVT; omega)]

theorem Event.lcyDone {s : State} {b : Nat} (h : Event s P.LCY b) (st : Nat) : Event (s.lcyDone st) P.LCY b := by
  refine Event.raise ?_ P.LCY E.LCY_CMD_DONE
  unfold Event at *
  rwa [State.rd_set_other _ _ _ _ (by decide)]

end

/-- Each life-cycle command is `State.lcyAsk`, with the states it may start from and what it asks for. -/
theorem exec_lcyCommand {m : Master} {us mode slot : Nat} {c : Instr} (h : c ∈ [Instr.lcyProvision m mode slot us, .lcyDeploy m us, .lcyReturn m us, .lcyDisable m us])
    (s : State) : ∃ froms new mode slot bad, exec c s = .next (s.lcyAsk m us froms new mode slot bad) := by
  simp only [List.mem_cons, List.not_mem_nil, or_false] at h
  obtain rfl | rfl | rfl | rfl := h <;> exact ⟨_, _, _, _, _, rfl⟩

theorem exec_lcyProvision (m : Master) (mode slot us : Nat) (s : State) :
    exec (.lcyProvision m mode slot us) s = .next (s.lcyAsk m us [0] 1 mode slot (decide (mode ≠ 1 ∧ mode ≠ 2))) := rfl
theorem exec_lcyDeploy (m : Master) (us : Nat) (s : State) :
    exec (.lcyDeploy m us) s = .next (s.lcyAsk m us [1] 2 s.key.attMode s.key.attSlot false) := rfl
theorem exec_lcyReturn (m : Master) (us : Nat) (s : State) :
    exec (.lcyReturn m us) s = .next (s.lcyAsk m us [1, 2] 3 s.key.attMode s.key.attSlot false) := rfl
theorem exec_lcyDisable (m : Master) (us : Nat) (s : State) :
    exec (.lcyDisable m us) s = .next (s.lcyAsk m us [0, 1, 2, 3] 4 s.key.attMode s.key.attSlot false) := rfl

section
variable {s : State} {m : Master} {us : Nat} (ok : Accepts s m R.LCY_CMD_STATUS)
include ok

/-- Without a confirmation of the last 10 s a command completes with CONFIRM. -/
theorem State.lcyAsk_unconfirmed (none_ : ∀ o, (s.confirmOf m).okAt = some o → o + 10000000 < us) (froms : List Nat) (new mode slot : Nat) (bad : Bool) :
    s.lcyAsk m us froms new mode slot bad = s.lcyDone 5 := by
  unfold State.lcyAsk
  rw [hostCmd_accepts ok]
  cases given : (s.confirmOf m).okAt with
  | none => simp [given]
  | some o => simp [given, Nat.not_le.2 (none_ o given)]

variable {o : Nat} (given : (s.confirmOf m).okAt = some o) (fresh : us ≤ o + 10000000)
include given fresh

/-- A confirmed command spends its confirmation, and then is refused or starts its change. -/
theorem State.lcyAsk_confirmed (froms : List Nat) (new mode slot : Nat) (bad : Bool) :
    s.lcyAsk m us froms new mode slot bad =
      (let t := s.putConfirm m .closed
      if m = .pf1 then t.lcyDone 3
      else if !froms.contains s.lcs then t.lcyDone 4
      else if bad then t.lcyDone 8
      else { t with key := { t.key with lcyRun := some (new, mode, slot) } }.set R.LCY_CMD_STATUS 1) := by
  unfold State.lcyAsk
  rw [hostCmd_accepts ok]
  simp only [given, fresh, decide_true, Bool.not_true, Bool.false_eq_true, if_false, State.putConfirm_lcs]

/-- A confirmed command leaves no confirmation, and does not end with CONFIRM. -/
theorem State.lcyAsk_spends (froms : List Nat) (new mode slot : Nat) (bad : Bool) :
    (s.lcyAsk m us froms new mode slot bad).confirmOf m = .closed ∧ (s.lcyAsk m us froms new mode slot bad).get R.LCY_CMD_STATUS ≠ 5 := by
  have refused : ∀ st, st < 16 → st ≠ 5 →
      ((s.putConfirm m .closed).lcyDone st).confirmOf m = .closed ∧ ((s.putConfirm m .closed).lcyDone st).get R.LCY_CMD_STATUS ≠ 5 := fun st small other =>
    ⟨by rw [State.confirmOf_congr (State.lcyDone_key ..), State.confirmOf_putConfirm], by rwa [State.lcyDone_status _ _ small]⟩
  rw [State.lcyAsk_confirmed ok given fresh]
  dsimp only
  split
  · exact refused 3 (by decide) (by decide)
  · split
    · exact refused 4 (by decide) (by decide)
    · split
      · exact refused 8 (by decide) (by decide)
      · refine ⟨?_, by rw [State.get_set_same _ _ _ (by decide)]; decide⟩
        rw [State.confirmOf_congr (State.set_key ..)]
        cases m <;> rfl

/-- From PF1 a confirmed command is refused with WORLD. -/
theorem State.lcyAsk_world (pf1 : m = .pf1) (froms : List Nat) (new mode slot : Nat) (bad : Bool) :
    s.lcyAsk m us froms new mode slot bad = (s.putConfirm m .closed).lcyDone 3 := by
  rw [State.lcyAsk_confirmed ok given fresh]
  simp only [pf1, if_true]

variable (world : m ≠ .pf1) {froms : List Nat}
include world

/-- From a state it may not start from a confirmed command is refused with STATE. -/
theorem State.lcyAsk_state (notFrom : s.lcs ∉ froms) (new mode slot : Nat) (bad : Bool) :
    s.lcyAsk m us froms new mode slot bad = (s.putConfirm m .closed).lcyDone 4 := by
  rw [State.lcyAsk_confirmed ok given fresh]
  simp [world, notFrom]

/-- From a state it may start from a confirmed command with good operands starts its change, and no fuse is programmed yet. -/
theorem State.lcyAsk_starts (from_ : s.lcs ∈ froms) (new mode slot : Nat) :
    (s.lcyAsk m us froms new mode slot false).key.lcyRun = some (new, mode, slot) ∧
      (s.lcyAsk m us froms new mode slot false).get R.LCY_CMD_STATUS = 1 ∧ (s.lcyAsk m us froms new mode slot false).key.fuses = s.key.fuses := by
  rw [State.lcyAsk_confirmed ok given fresh]
  simp only [world, if_false, List.contains_eq_mem, from_, decide_true, Bool.not_true, Bool.false_eq_true, State.set_key, State.putConfirm_fuses, true_and, and_true]
  exact State.get_set_same _ _ _ (by decide)

end

/-! ## The record of a change: what a write of the nonvolatile memory leaves of KV (R69, R374) -/

section
variable (s : State) (a : NvArea)

@[simp] theorem State.putRing_key (r : NvRing) : (s.putRing a r).key = s.key := by cases a <;> rfl

@[simp] theorem State.showWear_key : s.showWear.key = s.key := by
  unfold State.showWear
  extract_lets top t on
  rw [State.level_key, State.setFlag_key]
  exact (State.set_key ..).trans (State.set_key ..)

@[simp] theorem State.wearErase_key (k : Nat) : (s.wearErase k).key = s.key := by simp [State.wearErase]

@[simp] theorem State.eraseAreaSector_key (k : Nat) : (s.eraseAreaSector a k).key = s.key := by simp [State.eraseAreaSector]

@[simp] theorem State.roomFor_key (n : Nat) : (s.roomFor a n).key = s.key := by
  unfold State.roomFor
  extract_lets r k k' t
  split
  · rfl
  · rw [State.putRing_key]
    show (if _ then _ else _ : State).key = _
    split
    · exact State.eraseAreaSector_key ..
    · rfl

variable (ty : Nat) (p : List Word) (n : Nat)

@[simp] theorem State.putRec_key (st : RecState) : (s.putRec a ty p st n).key = s.key := by simp [State.putRec]

@[simp] theorem State.writeFail_key : (s.writeFail a ty p n).key = s.key := by simp [State.writeFail]

@[simp] theorem State.injFlag_key : s.injFlag.key = s.key := rfl

/-- A record written changes nothing of KV. -/
@[simp] theorem State.nvWrite_key (ok : Bool) : (s.nvWrite a ty p ok n).1.key = s.key := by
  have injected : ∀ i : Injection, (if i.quiet then s else s.writeFail a ty p n).key = s.key := fun i => by split <;> simp
  unfold State.nvWrite
  dsimp only
  cases s.injWaits 5 <;> cases ok <;> simp [injected]

/-- The record commits exactly when its read-back matches. -/
theorem State.nvWrite_snd (ok : Bool) : (s.nvWrite a ty p ok n).2 = ok := by
  obtain ⟨u, e⟩ := nvWrite_cases s a ty p ok n
  rw [e]
  cases ok <;> rfl

end

/-! ## The slots cleared (R373) -/

theorem kvGet_map_self {α : Type} (f : Nat → α) (l : List Nat) {k : Nat} (h : k ∈ l) : kvGet (l.map fun k => (k, f k)) k = some (f k) := by
  induction l with
  | nil => simp at h
  | cons j l ih =>
    by_cases here : j = k
    · simp [kvGet, here]
    · have later : k ∈ l := by simpa [Ne.symm here] using h
      simp [kvGet, here, ih later]

theorem packWords_length (l : List Nat) (n : Nat) : (packWords l n).length = n := by simp [packWords]

section
variable (s : State)

@[simp] theorem State.keyEvt_key (b slot ver : Nat) : (s.keyEvt b slot ver).key = s.key := by simp [State.keyEvt, State.keyRec]

@[simp] theorem State.keyEvt_get_other (b slot ver : Nat) (f : Fld) (h : f.slot ≠ R.PG_EVT P.KEY) : (s.keyEvt b slot ver).get f = s.get f := by
  simp [State.keyEvt, State.keyRec, h]

@[simp] theorem State.showKeys_key : s.showKeys.key = s.key := rfl
@[simp] theorem State.showLcy_key : s.showLcy.key = s.key := rfl
@[simp] theorem State.showZeroized_key (slot : Nat) : (s.showZeroized slot).key = s.key := by simp [State.showZeroized]
@[simp] theorem State.showPub_key : s.showPub.key = s.key := 
  foldl_keep (fun t (p : Word × Nat) => t.wr (R.ATT_PUBKEY p.2) p.1) State.key (fun _ _ => rfl) _ s

/-- ATT.PUBKEY is shown in its own 24 registers. -/
theorem State.showPub_rd_other (a : Nat) (h : ∀ i < 24, a ≠ R.ATT_PUBKEY i) : s.showPub.rd a = s.rd a := by
  unfold State.showPub
  extract_lets b
  have slots : ∀ x ∈ (packWords b 24).zipIdx, x.2 < 24 := fun x hx => by
    simpa [packWords_length] using (List.mem_zipIdx hx).2.1
  refine List.foldlRecOn (motive := fun t : State => t.rd a = s.rd a) _ _ rfl fun t ht x hx => ?_
  rw [State.rd_wr_other _ _ _ _ (h _ (slots x hx)), ht]

theorem State.showPub_get_other (f : Fld) (h : ∀ i < 24, f.slot ≠ R.ATT_PUBKEY i) : s.showPub.get f = s.get f := by
  unfold State.get
  rw [State.showPub_rd_other _ _ h]

theorem State.showLcy_get_other (f : Fld) (h : f.slot ≠ R.LCY_STATE) (h' : f.slot ≠ R.ATT_STATUS) : s.showLcy.get f = s.get f := by
  unfold State.showLcy
  extract_lets r
  rw [State.get_set_other _ _ _ _ (.inl h'.symm), State.get_set_other _ _ _ _ (.inl h.symm), State.get_set_other _ _ _ _ (.inl h.symm)]

theorem State.showZeroized_get (slot : Nat) : (s.showZeroized slot).get R.KEY_STATUS_ZEROIZED = 1 := by
  unfold State.showZeroized
  rw [State.keyEvt_get_other _ _ _ _ _ (by decide), State.bump_get_other _ _ _ (by decide)]
  exact State.get_set_same _ _ _ (by decide)

variable (tamper : Bool)

/-- What zeroization changes of KV. -/
theorem State.zeroize_key : (s.zeroize tamper).key =
    { s.key with slots := (List.range 256).map (fun k => (k, s.wiped k)), alive := s.key.alive && !tamper, tampered := s.key.tampered || tamper } := by
  simp [State.zeroize]

/-- Every slot is wiped. -/
theorem State.slotK_zeroize {k : Nat} (h : k < 256) : (s.zeroize tamper).slotK k = s.wiped k := by
  simp [State.slotK, State.zeroize_key, kvGetD, kvGet_map_self s.wiped _ (List.mem_range.2 h)]

theorem State.zeroize_get : (s.zeroize tamper).get R.KEY_STATUS_ZEROIZED = 1 := by
  unfold State.zeroize State.showKeys
  rw [State.showPub_get_other _ _ (by decide), State.get_set_other _ _ _ _ (by decide), State.showZeroized_get]

end

/-! ## The change applied (R373, R374) -/

section
variable (s : State) (new mode slot : Nat)

/-- The first half of `State.lcyApply`: the fuse and the owner's root, before the slots are cleared. -/
def State.lcyFused : State :=
  let t : State := { s with key := { s.key with fuses := setBit s.key.fuses new true, lcyRun := none, attMode := mode, attSlot := slot } }
  if new = 1 then { t.drbg.2 with key := { t.drbg.2.key with owner := some (t.drbg.1 % 2 ^ 384) } }
  else if new = 4 then { t with key := { t.key with owner := none } } else t

/-- A change applied: after the first half the slots are cleared, unless it is DEPLOY, and the new state is shown and reported. -/
theorem State.lcyApply_eq : s.lcyApply new mode slot =
    ((((if new = 2 then s.lcyFused new mode slot else (s.lcyFused new mode slot).zeroize false).showLcy.showPub).raise P.LCY E.LCY_STATE).trig islKV 0x82 [s.lcs, new]) := rfl

theorem State.lcyFused_key : (s.lcyFused new mode slot).key.fuses = setBit s.key.fuses new true ∧ (s.lcyFused new mode slot).key.lcyRun = none ∧
    (s.lcyFused new mode slot).key.attMode = mode := by
  unfold State.lcyFused
  extract_lets t
  split
  · exact ⟨rfl, rfl, rfl⟩
  · split <;> exact ⟨rfl, rfl, rfl⟩

/-- The change programs the fuse of its state, takes its attestation mode and ends. -/
theorem State.lcyApply_key : (s.lcyApply new mode slot).key.fuses = setBit s.key.fuses new true ∧ (s.lcyApply new mode slot).key.lcyRun = none ∧
    (s.lcyApply new mode slot).key.attMode = mode := by
  rw [State.lcyApply_eq, State.trig_key, State.raise_key, State.showPub_key, State.showLcy_key]
  split
  · exact State.lcyFused_key ..
  · rw [State.zeroize_key]
    exact State.lcyFused_key ..

theorem State.lcyApply_event : Event (s.lcyApply new mode slot) P.LCY E.LCY_STATE := by
  rw [State.lcyApply_eq]
  unfold Event
  rw [State.trig_rd]
  exact event_raise _ _ _ (by decide)

/-- Every change but DEPLOY clears the slots. -/
theorem State.lcyApply_zeroizes {new : Nat} (h : new ≠ 2) :
    (s.lcyApply new mode slot).get R.KEY_STATUS_ZEROIZED = 1 ∧ ∀ k, k < 256 → ((s.lcyApply new mode slot).slotK k).act = none := by
  rw [State.lcyApply_eq, if_neg h]
  constructor
  · rw [State.trig_get, State.raise_get_other _ _ _ _ (by decide), State.showPub_get_other _ _ (by decide), State.showLcy_get_other _ _ (by decide) (by decide),
      State.zeroize_get]
  · intro k hk
    have same : ∀ t : State, ((t.showLcy.showPub.raise P.LCY E.LCY_STATE).trig islKV 0x82 [s.lcs, new]).slotK k = t.slotK k := fun t => by
      simp only [State.slotK, State.trig_key, State.raise_key, State.showPub_key, State.showLcy_key]
    rw [same, State.slotK_zeroize _ _ hk]
    rfl

end

/-! ## The end of a change (R374) -/

/-- A change that the host asked for ends its command with the status. -/
def State.lcyEnd (s : State) (host : Bool) (st : Nat) : State := if host then s.lcyDone st else s

section
variable (s : State) (host : Bool) (st : Nat)

@[simp] theorem State.lcyEnd_key : (s.lcyEnd host st).key = s.key := by
  unfold State.lcyEnd
  split <;> simp

@[simp] theorem State.lcyEnd_slotK (k : Nat) : (s.lcyEnd host st).slotK k = s.slotK k := by simp [State.slotK]

theorem State.lcyEnd_status (h : host = true) (small : st < 16) : (s.lcyEnd host st).get R.LCY_CMD_STATUS = st := by
  rw [State.lcyEnd, if_pos h, State.lcyDone_status _ _ small]

theorem State.lcyEnd_get_other (f : Fld) (h : f.slot ≠ R.LCY_CMD) (h' : f.slot ≠ R.PG_EVT P.LCY) : (s.lcyEnd host st).get f = s.get f := by
  unfold State.lcyEnd
  split
  · exact State.lcyDone_get_other _ _ _ h h'
  · rfl

theorem Event.lcyEnd {s : State} {b : Nat} (h : Event s P.LCY b) (host : Bool) (st : Nat) : Event (s.lcyEnd host st) P.LCY b := by
  unfold State.lcyEnd
  split
  · exact h.lcyDone st
  · exact h

end

/-- A change under way is applied when its record commits and dropped when it fails, from a state `t` in which KV is as it was. -/
theorem exec_lcyChangeDone {s : State} {new mode slot : Nat} (run : s.key.lcyRun = some (new, mode, slot)) (ok : Bool) :
    ∃ t : State, t.key = s.key ∧ exec (.lcyChangeDone ok) s = .next (
      if ok then (t.lcyApply new mode slot).lcyEnd (decide (s.get R.LCY_CMD_STATUS = 1)) 2
      else { t with key := { t.key with lcyRun := none } }.lcyEnd (decide (s.get R.LCY_CMD_STATUS = 1)) 6) := by
  refine ⟨_, State.nvWrite_key s .lifeCycle 0x01 (s.lcyPayload new mode slot) s.nowT ok, ?_⟩
  show execLcyChangeDone ok s = _
  simp only [execLcyChangeDone, run, State.nvWrite_snd, State.lcyEnd]

/-- Settles O33: a write to LCY.CONFIRM by what it makes of its master's confirmation, a command by whether it finds one, and the end of a change by whether its
record commits. The order in which a confirmed command is tested is the model's choice (log entry 24). -/
theorem lifeCycleCommandsNeedConfirmation : Obligations.LifeCycleCommandsNeedConfirmation := by
  refine ⟨fun s m us open_ => ⟨?_, ?_, ?_, ?_, ?_⟩, fun s m us mode slot c hc ok => ⟨fun unconfirmed => ?_, fun o given fresh => ?_⟩,
    fun s m us c ok given fresh world => ⟨?_, ?_, ?_, ?_, ?_⟩, fun s us c ok given fresh => ?_, fun s new mode slot run => ⟨?_, ?_⟩⟩
  · exact lcyConfirm_completes open_ rfl
  · intro a armed inTime
    exact lcyConfirm_completes open_ (by simp [Confirm.write, armed, inTime])
  · intro a armed late
    exact (lcyConfirm_completes open_ (by simp [Confirm.write, armed, late])).imp fun _ h => h.1
  · intro unarmed
    exact (lcyConfirm_completes open_ (by simp [Confirm.write, unarmed])).imp fun _ h => h.1
  · intro w first second
    exact (lcyConfirm_completes open_ (by simp [Confirm.write, first, second])).imp fun _ h => h.1
  · obtain ⟨froms, new, mode, slot, bad, e⟩ := exec_lcyCommand hc s
    have old : ∀ o, (s.confirmOf m).okAt = some o → o + 10000000 < us := by
      rintro o given
      obtain none_ | ⟨o', given', late⟩ := unconfirmed
      · simp [none_] at given
      · rwa [← Option.some.inj (given'.symm.trans given)]
    rw [State.lcyAsk_unconfirmed ok old] at e
    exact ⟨_, e, State.lcyDone_key .., State.lcyDone_status _ _ (by decide), State.lcyDone_event ..⟩
  · obtain ⟨froms, new, mode, slot, bad, e⟩ := exec_lcyCommand hc s
    exact ⟨_, e, State.lcyAsk_spends ok given fresh ..⟩
  · intro mode slot manufacture good
    have operands : decide (mode ≠ 1 ∧ mode ≠ 2) = false := by simp; omega
    refine ⟨_, exec_lcyProvision .., ?_⟩
    rw [operands]
    exact State.lcyAsk_starts ok given fresh world (by simp [manufacture]) ..
  · intro mode slot elsewhere
    refine ⟨_, exec_lcyProvision .., ?_⟩
    rw [State.lcyAsk_state ok given fresh world (by simpa using elsewhere)]
    exact ⟨by simp, State.lcyDone_status _ _ (by decide), by simp, State.lcyDone_event ..⟩
  · intro provisioned
    exact ⟨_, exec_lcyDeploy .., State.lcyAsk_starts ok given fresh world (by simp [provisioned]) ..⟩
  · intro inUse
    exact ⟨_, exec_lcyReturn .., State.lcyAsk_starts ok given fresh world (by simpa using inUse) ..⟩
  · intro notDisabled
    exact ⟨_, exec_lcyDisable .., State.lcyAsk_starts ok given fresh world (by simp; omega) ..⟩
  · refine ⟨_, exec_lcyDisable .., ?_⟩
    rw [State.lcyAsk_world ok given fresh rfl]
    exact ⟨by simp, by simp, State.lcyDone_status _ _ (by decide)⟩
  · obtain ⟨t, keyT, e⟩ := exec_lcyChangeDone run true
    rw [if_pos rfl] at e
    obtain ⟨fuses, ended, attMode⟩ := State.lcyApply_key t new mode slot
    rw [keyT] at fuses
    refine ⟨_, e, ?_⟩
    simp only [State.lcyEnd_key, State.lcyEnd_slotK, fuses]
    refine ⟨bitOn_setBit_same .., fun j other => bitOn_setBit_other _ _ _ _ other, attMode, ended, (State.lcyApply_event ..).lcyEnd _ _,
      fun running => State.lcyEnd_status _ _ _ (by simp [running]) (by decide), fun cleared => ?_⟩
    rw [State.lcyEnd_get_other _ _ _ _ (by decide) (by decide)]
    exact State.lcyApply_zeroizes t mode slot cleared
  · obtain ⟨t, keyT, e⟩ := exec_lcyChangeDone run false
    rw [if_neg Bool.false_ne_true] at e
    exact ⟨_, e, by simp [keyT], by simp [keyT], by simp, fun running => State.lcyEnd_status _ _ _ (by simp [running]) (by decide)⟩

end Sys2Proof.Machine
end

section
/-! PROOFS.
What every command keeps: the canonical form of the register stores, the programmed fuses and the queue, function by function of the model.
-/
namespace Sys2Proof.Machine
open Sys2Proof

/-- What the registers' canonical form, the fuses and the queue rest on. -/
abbrev State.kept (s : State) : Store × Store × Store × Nat × List Instr := (s.regs, s.shadow, s.staging, s.key.fuses, s.pending)

/-- `State.kept`, taken from the parts of an update, so that it is compared with `State.kept` part by part. -/
def State.left : State → Store × Store × Store × Nat × List Instr
  | { regs := regs, shadow := shadow, staging := staging, key := key, pending := pending, .. } => (regs, shadow, staging, key.fuses, pending)

theorem State.left_eq (s : State) : s.left = s.kept := rfl

/-- From `s` to `t` the register stores stay canonical, no programmed fuse is cleared, and the queue stays. -/
structure Keeps (s t : State) : Prop where
  wf : RegsWf s → RegsWf t
  fuses : ∀ k, bitOn s.key.fuses k = true → bitOn t.key.fuses k = true
  pending : t.pending = s.pending

variable {s₀ s t u : State}

theorem Keeps.refl (s : State) : Keeps s s := ⟨id, fun _ => id, rfl⟩

theorem Keeps.trans (h : Keeps s t) (k : Keeps t u) : Keeps s u := ⟨k.wf ∘ h.wf, fun j => k.fuses j ∘ h.fuses j, k.pending.trans h.pending⟩

/-- An update that leaves the stores, the fuses and the queue as they are. -/
theorem Keeps.same (h : Keeps s t) (e : u.left = t.kept) : Keeps s u := by
  rw [State.left_eq] at e
  simp only [Prod.mk.injEq] at e
  obtain ⟨regs, shadow, staging, fuses, pending⟩ := e
  refine ⟨fun w => ?_, fun k => ?_, pending.trans h.pending⟩
  · unfold RegsWf
    rw [regs, shadow, staging]
    exact h.wf w
  · rw [fuses]
    exact h.fuses k

theorem Keeps.ite {c : Prop} [Decidable c] (h : Keeps s t) (k : Keeps s u) : Keeps s (if c then t else u) := by split; exacts [h, k]

theorem Keeps.dite {c : Prop} [Decidable c] {a : c → State} {b : ¬c → State} (h : ∀ x, Keeps s (a x)) (k : ∀ x, Keeps s (b x)) : Keeps s (if x : c then a x else b x) := by
  split; exacts [h _, k _]

theorem Keeps.ite1 {α : Type} {c : Prop} [Decidable c] {p q : State × α} (h : Keeps s p.1) (k : Keeps s q.1) : Keeps s (if c then p else q).1 := by split; exacts [h, k]

theorem Keeps.ite2 {α : Type} {c : Prop} [Decidable c] {p q : α × State} (h : Keeps s p.2) (k : Keeps s q.2) : Keeps s (if c then p else q).2 := by split; exacts [h, k]

theorem Keeps.bind (h : Keeps s t) (k : Keeps s t → Keeps s u) : Keeps s u := k h

theorem Keeps.foldl {α : Type} {f : State → α → State} {l : List α} (h : Keeps s t) (k : ∀ u x, Keeps s u → Keeps s (f u x)) : Keeps s (l.foldl f t) :=
  List.foldlRecOn (motive := fun u => Keeps s u) l f h fun u hu x _ => k u x hu

/-- The command completes in a state that `s` keeps, unless it names a unit that the device does not have. -/
def Answers (wf : Bool) (s : State) (o : Host.Outcome State Fault Refusal) : Prop := (∃ t, o = .next t ∧ Keeps s t) ∨ (wf = false ∧ o = .fault .noSuchUnit)

theorem Answers.next {b : Bool} (h : Keeps s t) : Answers b s (.next t) := .inl ⟨t, rfl, h⟩

theorem Answers.unit {n l : Nat} (h : Keeps s t) : Answers (decide (n < l)) s (withUnit n l t) := by
  unfold withUnit
  split
  · next c => exact .next h
  · next c => exact .inr ⟨by simpa using c, rfl⟩

theorem Answers.ite {b : Bool} {c : Prop} [Decidable c] {o p : Host.Outcome State Fault Refusal} (h : Answers b s o) (k : Answers b s p) : Answers b s (if c then o else p) := by
  split; exacts [h, k]

theorem Keeps.wr {a : Nat} {v : Word} (h : Keeps s₀ s) : Keeps s₀ (s.wr a v) :=
  ⟨fun w => ⟨Store.wf_write _ _ _ (h.wf w).1, (h.wf w).2⟩, h.fuses, h.pending⟩

theorem Keeps.retained (h : Keeps s₀ s) : Keeps s₀ (State.retained s) := by
  unfold State.retained
  split
  · exact h.wr
  · exact h

theorem Keeps.set {f : Fld} {n : ℕ} (h : Keeps s₀ s) : Keeps s₀ (State.set s f n) :=
  h.wr

theorem Keeps.emit {o : Out} (h : Keeps s₀ s) : Keeps s₀ (State.emit s o) :=
  (h.same (by rfl))

theorem Keeps.sendVec {v : ℕ} (h : Keeps s₀ s) : Keeps s₀ (State.sendVec s v) :=
  .ite h (.ite (h.same (by rfl)) h.emit)

theorem Keeps.vecRises {old : State} (h : Keeps s₀ s) : Keeps s₀ (State.vecRises old s) :=
  .ite (.foldl h fun _ _ h1 => .ite h1.sendVec h1) h

theorem Keeps.putEvt {page : ℕ} {new : ℕ} (h : Keeps s₀ s) : Keeps s₀ (State.putEvt s page new) :=
  have h1 := h.wr
  .ite h1.vecRises h1

theorem Keeps.raise {page : ℕ} {bit : ℕ} (h : Keeps s₀ s) : Keeps s₀ (State.raise s page bit) :=
  h.putEvt

theorem Keeps.level {page : ℕ} {bit : ℕ} {on : Bool} (h : Keeps s₀ s) : Keeps s₀ (State.level s page bit on) :=
  have h1 := h.wr
  .ite h1.raise h1

theorem Keeps.setFlag {f : Fld} {b : Bool} (h : Keeps s₀ s) : Keeps s₀ (State.setFlag s f b) :=
  h.set

theorem Keeps.showWear (h : Keeps s₀ s) : Keeps s₀ (State.showWear s) :=
  h.set.set.setFlag.level

theorem Keeps.aoStart {mv : ℕ} (h : Keeps s₀ s) : Keeps s₀ (State.aoStart s mv) :=
  (h.same (by rfl)).set.set.showWear.retained

theorem execVinGood_answers {mv : ℕ} : Answers true s (execVinGood mv s) :=
  .next (.ite (Keeps.refl s).aoStart (Keeps.refl s))

theorem execHoldupReady_answers : Answers true s (execHoldupReady s) :=
  .next (.ite (Keeps.refl s).set (Keeps.refl s))

theorem Keeps.putCtr {island : ℕ} {c : AxCtr} (h : Keeps s₀ s) : Keeps s₀ (State.putCtr s island c) :=
  (h.same (by rfl))

theorem Keeps.cagePins {c : ℕ} (h : Keeps s₀ s) : Keeps s₀ (State.cagePins s c) :=
  .foldl h fun _ _ h1 => .bind h1.setFlag.setFlag fun h2 => .ite h2.level h2

theorem Keeps.releaseIslands {mask : ℕ} (h : Keeps s₀ s) : Keeps s₀ (State.releaseIslands s mask) :=
  .foldl (.foldl (h.same (by rfl)) fun _ _ h1 => h1.putCtr) fun _ _ h1 => .ite h1.cagePins h1

theorem Keeps.takeFree (h : Keeps s₀ s) : Keeps s₀ (State.takeFree s).2 :=
  (h.same (by rfl))

theorem Keeps.trigAt {island : ℕ} {code : ℕ} {inst : ℕ} {args : List ℕ} (h : Keeps s₀ s) : Keeps s₀ (State.trigAt s island code inst args) :=
  .ite (h.same (by rfl)) (.ite (h.same (by rfl)) (h.same (by rfl)))

theorem Keeps.trig {island : ℕ} {code : ℕ} {args : List ℕ} (h : Keeps s₀ s) : Keeps s₀ (State.trig s island code args) :=
  h.trigAt

theorem Keeps.showServing {c : ℕ} (h : Keeps s₀ s) : Keeps s₀ (State.showServing s c) :=
  .ite h h.takeFree.setFlag.trig

theorem Keeps.showServings (h : Keeps s₀ s) : Keeps s₀ (State.showServings s) :=
  .foldl h fun _ _ h1 => h1.showServing

theorem Keeps.refreshFaults (h : Keeps s₀ s) : Keeps s₀ (State.refreshFaults s) :=
  have h1 := h.setFlag.set.setFlag.setFlag.setFlag
  .bind (.showServings (.ite h1 h1.level)) fun h2 => .ite h2 h2.level

theorem Keeps.thermPin (h : Keeps s₀ s) : Keeps s₀ (State.thermPin s) :=
  (h.same (by rfl))

theorem Keeps.tamperDisable (h : Keeps s₀ s) : Keeps s₀ (State.tamperDisable s) :=
  .ite (h.same (by rfl)) h

theorem Keeps.showOldest (h : Keeps s₀ s) : Keeps s₀ (State.showOldest s) :=
  h.set

theorem Keeps.showPending (h : Keeps s₀ s) : Keeps s₀ (State.showPending s) :=
  .ite h h.level

theorem Keeps.putHead {n : ℕ} (h : Keeps s₀ s) : Keeps s₀ (State.putHead s n) :=
  h.set.showPending

theorem Keeps.showJournal (h : Keeps s₀ s) : Keeps s₀ (State.showJournal s) :=
  h.set.set

theorem Keeps.bumpBy {f : Fld} {n : ℕ} (h : Keeps s₀ s) : Keeps s₀ (State.bumpBy s f n) :=
  h.set

theorem Keeps.startRecorder {head : ℕ} {fabric : Bool} (h : Keeps s₀ s) : Keeps s₀ (State.startRecorder s head fabric) :=
  have h1 := (h.showJournal.putHead.showOldest.same (by rfl))
  .ite h1.bumpBy h1.bumpBy

theorem Keeps.showPub (h : Keeps s₀ s) : Keeps s₀ (State.showPub s) :=
  .foldl h fun _ _ h1 => h1.wr

theorem Keeps.showLcy (h : Keeps s₀ s) : Keeps s₀ (State.showLcy s) :=
  h.set.set.set

theorem Keeps.drbg (h : Keeps s₀ s) : Keeps s₀ (State.drbg s).2 :=
  (h.takeFree.same (by rfl))

theorem Keeps.showKeys (h : Keeps s₀ s) : Keeps s₀ (State.showKeys s) :=
  h.set

theorem Keeps.keyRec {slot : ℕ} {what : ℕ} {ver : ℕ} {st : ℕ} (h : Keeps s₀ s) : Keeps s₀ (State.keyRec s slot what ver st) :=
  h.trig

theorem Keeps.keyEvt {bit : ℕ} {slot : ℕ} {ver : ℕ} (h : Keeps s₀ s) : Keeps s₀ (State.keyEvt s bit slot ver) :=
  h.raise.keyRec

theorem Keeps.bump {f : Fld} (h : Keeps s₀ s) : Keeps s₀ (State.bump s f) :=
  h.bumpBy

theorem Keeps.showZeroized {slot : ℕ} (h : Keeps s₀ s) : Keeps s₀ (State.showZeroized s slot) :=
  h.set.bump.keyEvt

theorem Keeps.zeroize {tamper : Bool} (h : Keeps s₀ s) : Keeps s₀ (State.zeroize s tamper) := by
  unfold State.zeroize
  extract_lets _ t2
  have h2 : Keeps s₀ t2 := (h.same (by rfl))
  exact h2.showZeroized.showKeys.showPub

/-- A fuse programmed. -/
theorem Keeps.fuse {k : Nat} (h : Keeps s₀ s) (regs : u.regs = s.regs) (shadow : u.shadow = s.shadow) (staging : u.staging = s.staging)
    (fuses : u.key.fuses = setBit s.key.fuses k true) (pending : u.pending = s.pending) : Keeps s₀ u := by
  refine ⟨fun hz => ?_, fun j on => ?_, pending.trans h.pending⟩
  · unfold RegsWf
    rw [regs, shadow, staging]
    exact h.wf hz
  · rw [fuses]
    by_cases same : j = k
    · rw [same, bitOn_setBit_same]
    · rw [bitOn_setBit_other _ _ _ _ same]
      exact h.fuses j on

theorem Keeps.lcyFused {new mode slot : Nat} (h : Keeps s₀ s) : Keeps s₀ (s.lcyFused new mode slot) := by
  unfold State.lcyFused
  extract_lets _ t
  have ht : Keeps s₀ t := .fuse h rfl rfl rfl rfl rfl
  have owned : Keeps s₀ { t.drbg.2 with key := { t.drbg.2.key with owner := some (t.drbg.1 % 2 ^ 384) } } := .same ht.drbg (by rfl)
  exact .ite owned (.ite (.same ht (by rfl)) ht)

theorem Keeps.lcyApply {new mode slot : Nat} (h : Keeps s₀ s) : Keeps s₀ (s.lcyApply new mode slot) := by
  rw [State.lcyApply_eq]
  exact .trig (.raise (.showPub (.showLcy (.ite h.lcyFused h.lcyFused.zeroize))))

theorem Keeps.lcyLoad (h : Keeps s₀ s) : Keeps s₀ (State.lcyLoad s) := by
  unfold State.lcyLoad
  split
  · exact h.showLcy.showPub
  · exact .bind (h.same (by rfl)) fun h1 => .ite h1.lcyApply h1.showLcy.showPub

theorem execHitchedEntry_answers : Answers true s (execHitchedEntry s) :=
  .next (.ite (Keeps.refl s) ((Keeps.refl s).releaseIslands.same (by rfl)).lcyLoad.startRecorder.tamperDisable.thermPin.refreshFaults)

theorem Keeps.putRing {a : NvArea} {r : NvRing} (h : Keeps s₀ s) : Keeps s₀ (State.putRing s a r) := by
  unfold State.putRing
  split
  · exact (h.same (by rfl))
  · exact (h.same (by rfl))
  · exact (h.same (by rfl))
  · exact (h.same (by rfl))
  · exact (h.same (by rfl))

theorem Keeps.raiseIf {b : Bool} {page : ℕ} {bit : ℕ} (h : Keeps s₀ s) : Keeps s₀ (State.raiseIf s b page bit) :=
  .ite h.raise h

theorem Keeps.scanReads {corr : ℕ} {bad : List (ℕ × ℕ)} (h : Keeps s₀ s) : Keeps s₀ (State.scanReads s corr bad) :=
  .raiseIf (.bumpBy (.bumpBy (.same (.foldl h fun _ _ h1 => h1.putRing) (by rfl))))

theorem Keeps.lineOn {line : ℕ} {cause : ℕ} (h : Keeps s₀ s) : Keeps s₀ (State.lineOn s line cause) :=
  .ite h (h.same (by rfl))

theorem Keeps.pulse {line : ℕ} (h : Keeps s₀ s) : Keeps s₀ (State.pulse s line) :=
  h.lineOn

theorem Keeps.goto {p : StartPos} (h : Keeps s₀ s) : Keeps s₀ (State.goto s p) :=
  (h.same (by rfl))

theorem Keeps.scanSave (h : Keeps s₀ s) : Keeps s₀ (State.scanSave s) := by
  unfold State.scanSave
  split
  · exact h
  · exact .ite h.set.wr.wr.wr (.ite h.set.raise h)

theorem execNvmScan_answers {corr : ℕ} {errs : List (ℕ × ℕ)} : Answers true s (execNvmScan corr errs s) :=
  .next (.ite (Keeps.refl s) (.bind (Keeps.refl s).scanReads.set.set fun h1 => .goto (.scanSave (.ite h1 h1.raise.pulse))))

theorem Keeps.putSlotK {k : ℕ} {x : KeySlot} (h : Keeps s₀ s) : Keeps s₀ (State.putSlotK s k x) :=
  (h.same (by rfl)).showKeys

theorem Keeps.keyLoadAll (h : Keeps s₀ s) : Keeps s₀ (State.keyLoadAll s) := by
  unfold State.keyLoadAll
  extract_lets _ _ _ t2 _ t3 t4
  have h2 : Keeps s₀ t2 := (h.same (by rfl))
  have h3 : Keeps s₀ t3 := .foldl h2 fun _ _ h2 => h2.bump.keyEvt
  have h4 : Keeps s₀ t4 := .foldl h3 fun _ _ h3 => .ite h3 (.bind h3.putSlotK fun h4 => .ite h4.keyEvt h4)
  exact h4.set.set.showKeys.showPub

theorem execKeyLoad_answers : Answers true s (execKeyLoad s) :=
  .next (.ite (Keeps.refl s) (.ite (Keeps.refl s).set.set.goto (Keeps.refl s).keyLoadAll.goto))

theorem Keeps.showBank {b : ℕ} {why : ℕ} {seq : ℕ} (h : Keeps s₀ s) : Keeps s₀ (State.showBank s b why seq) :=
  h.set.setFlag.set

theorem Keeps.validate {b : ℕ} (h : Keeps s₀ s) : Keeps s₀ (State.validate s b) :=
  h.showBank

theorem Keeps.jtagHold (h : Keeps s₀ s) : Keeps s₀ (State.jtagHold s) :=
  .ite h.set h

theorem Keeps.loadBank (h : Keeps s₀ s) : Keeps s₀ (State.loadBank s) :=
  h.set.setFlag.raiseIf

theorem execBankSelect_answers : Answers true s (execBankSelect s) :=
  .next (.ite (Keeps.refl s) (.bind (Keeps.refl s).validate.validate fun h1 => .ite h1.set.raise.goto (.ite h1.set.goto h1.loadBank.goto.jtagHold)))

theorem Keeps.oscRec (h : Keeps s₀ s) : Keeps s₀ (State.oscRec s) :=
  h.trig

theorem Keeps.lineOff {line : ℕ} {cause : ℕ} (h : Keeps s₀ s) : Keeps s₀ (State.lineOff s line cause) :=
  (h.same (by rfl))

theorem Keeps.lineSet {line : ℕ} {cause : ℕ} {on : Bool} (h : Keeps s₀ s) : Keeps s₀ (State.lineSet s line cause on) :=
  .ite h.lineOn h.lineOff

theorem Keeps.setEfc {code : ℤ} (h : Keeps s₀ s) : Keeps s₀ (State.setEfc s code) :=
  have h1 := h.set
  .ite h1 h1.setFlag.level.lineSet.oscRec

theorem Keeps.holdRec {bit : ℕ} (h : Keeps s₀ s) : Keeps s₀ (State.holdRec s bit) :=
  h.trig

theorem Keeps.holdEvt {bit : ℕ} (h : Keeps s₀ s) : Keeps s₀ (State.holdEvt s bit) :=
  h.raise.holdRec

theorem Keeps.injFlag (h : Keeps s₀ s) : Keeps s₀ (State.injFlag s) :=
  (h.same (by rfl))

theorem Keeps.wearErase {sector : ℕ} (h : Keeps s₀ s) : Keeps s₀ (State.wearErase s sector) :=
  (h.same (by rfl)).bump.showWear

theorem Keeps.eraseAreaSector {a : NvArea} {k : ℕ} (h : Keeps s₀ s) : Keeps s₀ (State.eraseAreaSector s a k) :=
  h.putRing.wearErase

theorem Keeps.roomFor {a : NvArea} {n : ℕ} (h : Keeps s₀ s) : Keeps s₀ (State.roomFor s a n) :=
  .ite h (.putRing (.ite h.eraseAreaSector h))

theorem Keeps.putRec {a : NvArea} {type : ℕ} {payload : List Word} {st : RecState} {time : ℕ} (h : Keeps s₀ s) : Keeps s₀ (State.putRec s a type payload st time) :=
  h.roomFor.putRing

theorem Keeps.writeFail {a : NvArea} {type : ℕ} {payload : List Word} {time : ℕ} (h : Keeps s₀ s) : Keeps s₀ (State.writeFail s a type payload time) :=
  h.putRec.bump.raise.pulse

theorem Keeps.nvWrite {a : NvArea} {type : ℕ} {payload : List Word} {ok : Bool} {time : ℕ} (h : Keeps s₀ s) : Keeps s₀ (State.nvWrite s a type payload ok time).1 :=
  .ite1 (.bump (.putRec (by split; exacts [.injFlag (.ite h h.writeFail), h]))) (.writeFail (by split; exacts [.injFlag (.ite h h.writeFail), h]))

theorem Keeps.nvPut {a : NvArea} {type : ℕ} {payload : List Word} {time : ℕ} (h : Keeps s₀ s) : Keeps s₀ (State.nvPut s a type payload time) :=
  h.nvWrite

theorem Keeps.writeHold (h : Keeps s₀ s) : Keeps s₀ (State.writeHold s) :=
  (h.nvPut.same (by rfl))

theorem Keeps.showLearn (h : Keeps s₀ s) : Keeps s₀ (State.showLearn s) :=
  .ite h (.bind h.set fun h1 => .ite h1.holdEvt.writeHold h1)

theorem Keeps.holdRestore (h : Keeps s₀ s) : Keeps s₀ (State.holdRestore s) := by
  unfold State.holdRestore
  split
  · exact h.set
  · exact (h.set.set.set.setEfc.same (by rfl)).set.showLearn.holdEvt

theorem execIslandRelease_answers : Answers true s (execIslandRelease s) := by
  unfold execIslandRelease
  refine .next ?_
  refine .ite ?_ ?_
  · exact (Keeps.refl s)
  · extract_lets t2 _ t3 t4 t5
    have h2 : Keeps s t2 := (Keeps.refl s).releaseIslands
    clear_value t2
    have h3 : Keeps s t3 := (h2.same (by rfl))
    have h4 : Keeps s t4 := .foldl h3.set fun _ _ h3 => h3.set
    have h5 : Keeps s t5 := .ite h4.set.level h4
    exact h5.holdRestore.goto

theorem Keeps.putTemp {island : ℕ} {t : ℤ} (h : Keeps s₀ s) : Keeps s₀ (State.putTemp s island t) :=
  (h.same (by rfl))

theorem Keeps.showCal {t : ℕ} (h : Keeps s₀ s) : Keeps s₀ (State.showCal s t) :=
  h.setFlag.setFlag.level

theorem Keeps.showPair {pair : ℕ} (h : Keeps s₀ s) : Keeps s₀ (State.showPair s pair) :=
  .ite h.set.set (.ite h h.set.raiseIf)

theorem Keeps.showPairs {island : ℕ} (h : Keeps s₀ s) : Keeps s₀ (State.showPairs s island) :=
  .foldl h fun _ _ h1 => h1.showPair

theorem Keeps.newTemp {island : ℕ} {temp : ℤ} (h : Keeps s₀ s) : Keeps s₀ (State.newTemp s island temp) :=
  have h1 := h.putTemp
  .ite (.foldl h1 fun _ _ h2 => h2.showCal) h1.showPairs

theorem Keeps.putTic {k : ℕ} {c : TicState} (h : Keeps s₀ s) : Keeps s₀ (State.putTic s k c) :=
  (h.same (by rfl))

theorem Keeps.setS {f : Fld} {z : ℤ} (h : Keeps s₀ s) : Keeps s₀ (State.setS s f z) :=
  h.set

theorem Keeps.ticCalTake {t : ℕ} {r0 : CalResult} {r1 : CalResult} {temp : ℤ} (h : Keeps s₀ s) : Keeps s₀ (State.ticCalTake s t r0 r1 temp) :=
  have h1 := h.putTic.newTemp
  .bind (.ite h1.setS.bump.raise h1.set.bump.raise) fun h2 => .trig (.trig (.ite h2.pulse h2))

theorem Keeps.putPair {k : ℕ} {c : PairState} (h : Keeps s₀ s) : Keeps s₀ (State.putPair s k c) :=
  (h.same (by rfl))

theorem Keeps.pairStart {pair : ℕ} {r0 : CalResult} {r1 : CalResult} {temp : ℤ} (h : Keeps s₀ s) : Keeps s₀ (State.pairStart s pair r0 r1 temp) :=
  have h1 := h.putPair.newTemp
  .trig (.trig (.showPair (.ite h1.pulse h1)))

theorem Keeps.startCals {cals : List CalResult} {temp : ℤ} (h : Keeps s₀ s) : Keeps s₀ (State.startCals s cals temp) :=
  .foldl (.foldl h fun _ _ h1 => .bind h1.ticCalTake fun h2 => .ite h2.set h2) fun _ _ h1 => h1.pairStart

theorem Keeps.gnsRec {bit : ℕ} (h : Keeps s₀ s) : Keeps s₀ (State.gnsRec s bit) :=
  h.trig

theorem Keeps.setEngine {st : ℕ} (h : Keeps s₀ s) : Keeps s₀ (State.setEngine s st) :=
  .ite h h.set.gnsRec

theorem Keeps.showTrack (h : Keeps s₀ s) : Keeps s₀ (State.showTrack s) :=
  h.set

theorem Keeps.searchAll {k : ChanState} (h : Keeps s₀ s) : Keeps s₀ (State.searchAll s k) :=
  (h.same (by rfl)).showTrack

theorem Keeps.engineRun {k : ChanState} (h : Keeps s₀ s) : Keeps s₀ (State.engineRun s k) :=
  .ite h.setEngine h.setEngine.searchAll

theorem Keeps.engineStart (h : Keeps s₀ s) : Keeps s₀ (State.engineStart s) :=
  h.engineRun

theorem Keeps.gnsGo (h : Keeps s₀ s) : Keeps s₀ (State.gnsGo s) :=
  .ite h.engineStart h

theorem Keeps.putCodeHash {d : ℕ} (h : Keeps s₀ s) : Keeps s₀ (State.putCodeHash s d) :=
  .foldl h fun _ _ h1 => h1.set

theorem Keeps.installCode {w : List Word} (h : Keeps s₀ s) : Keeps s₀ (State.installCode s w) :=
  (h.same (by rfl)).putCodeHash

theorem Keeps.applyCode (h : Keeps s₀ s) : Keeps s₀ (State.applyCode s) :=
  .foldl h fun _ _ h1 => .ite h1.installCode h1

theorem Keeps.accessErr {m : Master} {cause : ℕ} {write : Bool} {slot : ℕ} (h : Keeps s₀ s) : Keeps s₀ (State.accessErr s m cause write slot) :=
  have h1 := h.bump
  .raise (.ite h1 h1.wr)

theorem Keeps.hostWrite {m : Master} {slot : Nat} {k : State → State} (h : Keeps s₀ s) (hk : ∀ u, Keeps s₀ u → Keeps s₀ (k u)) : Keeps s₀ (s.hostWrite m slot k) :=
  .ite h (.ite h.accessErr (.ite h.accessErr (hk _ h)))

theorem Keeps.engineEnable (h : Keeps s₀ s) : Keeps s₀ (State.engineEnable s) :=
  .ite h h.engineRun

theorem Keeps.putPll {k : ℕ} {c : PllState} (h : Keeps s₀ s) : Keeps s₀ (State.putPll s k c) :=
  (h.same (by rfl))

theorem Keeps.setPll {p : ℕ} {st : ℕ} (h : Keeps s₀ s) : Keeps s₀ (State.setPll s p st) :=
  .ite h h.set.raise.trig

theorem Keeps.planPll {p : ℕ} (h : Keeps s₀ s) : Keeps s₀ (State.planPll s p) :=
  h.set.set.set

theorem Keeps.pllStart {p : ℕ} {loss : Bool} (h : Keeps s₀ s) : Keeps s₀ (State.pllStart s p loss) :=
  .ite h (.ite h.setPll.putPll h.planPll.setPll.putPll)

theorem Keeps.startPage {page : ℕ} (h : Keeps s₀ s) : Keeps s₀ (State.startPage s page) :=
  have h1 := h.setFlag
  .ite h1 (.ite h1.engineEnable (.ite h1.pllStart (.ite h1.showServing h1)))

theorem Keeps.enablePage {page : ℕ} (h : Keeps s₀ s) : Keeps s₀ (State.enablePage s page) :=
  .ite h (.ite (h.same (by rfl)) h.startPage)

theorem Keeps.settle {b : Bool} {o : Host.Outcome State Fault Refusal} (h : Keeps s₀ s) (k : Answers b s o) : Keeps s₀ (settle o s) := by
  obtain ⟨t, rfl, ht⟩ | ⟨-, rfl⟩ := k
  · exact h.trans ht
  · exact h

theorem Keeps.gnsStop {st : ℕ} (h : Keeps s₀ s) : Keeps s₀ (State.gnsStop s st) :=
  .setEngine (.set (.same (.ite h.bump h) (by rfl)))

theorem execGnssDisable_answers {m : Master} : Answers true s (execGnssDisable m s) :=
  .next (.hostWrite (Keeps.refl s) (fun _ h1 => .ite h1.set.gnsStop h1))

theorem Keeps.showOutBusy (h : Keeps s₀ s) : Keeps s₀ (State.showOutBusy s) :=
  h.setFlag

theorem Keeps.putOut {k : ℕ} {c : OutState} (h : Keeps s₀ s) : Keeps s₀ (State.putOut s k c) :=
  (h.same (by rfl))

theorem Keeps.endOutAs {v : State} {o : ℕ} (h : Keeps s₀ s) : Keeps s₀ (State.endOutAs s v o) :=
  .ite h.putOut h

theorem Keeps.endOut {o : ℕ} (h : Keeps s₀ s) : Keeps s₀ (State.endOut s o) :=
  h.endOutAs

theorem execOutDisable_answers {m : Master} : Answers true s (execOutDisable m s) :=
  .next (.hostWrite (Keeps.refl s) (fun _ h1 => .showOutBusy (.foldl h1.set fun _ _ h2 => h2.endOut)))

theorem Keeps.toSlot {t : ℕ} (h : Keeps s₀ s) : Keeps s₀ (State.toSlot s t) :=
  .ite h (h.same (by rfl))

theorem Keeps.showSwBusy (h : Keeps s₀ s) : Keeps s₀ (State.showSwBusy s) :=
  .ite h h.setFlag

theorem Keeps.showBuf (h : Keeps s₀ s) : Keeps s₀ (State.showBuf s) :=
  have h1 := h.set.set
  .bind (.ite h1 h1.setFlag.level) fun h2 => .setFlag (.set (.ite h2 h2.setFlag.level))

theorem Keeps.endSpill (h : Keeps s₀ s) : Keeps s₀ (State.endSpill s) :=
  (h.same (by rfl))

theorem Keeps.tidy (h : Keeps s₀ s) : Keeps s₀ (State.tidy s) :=
  (h.same (by rfl)).endSpill.showBuf

theorem Keeps.putSwFrame {f : SwFrame} (h : Keeps s₀ s) : Keeps s₀ (State.putSwFrame s f) :=
  (h.same (by rfl))

theorem Keeps.seqDone {key : ℕ} {v : ℕ} (h : Keeps s₀ s) : Keeps s₀ (State.seqDone s key v) :=
  (h.same (by rfl))

theorem Keeps.dropCopies {f : SwFrame} {p : Copy → Bool} (h : Keeps s₀ s) : Keeps s₀ (State.dropCopies s f p) :=
  .foldl h.putSwFrame fun _ _ h1 => .ite h1.seqDone h1

theorem Keeps.switchHalt {slot : ℕ} (h : Keeps s₀ s) : Keeps s₀ (State.switchHalt s slot) :=
  .showSwBusy (.tidy (.foldl h.toSlot fun _ _ h1 => h1.bump.dropCopies))

theorem Keeps.switchOff {slot : ℕ} (h : Keeps s₀ s) : Keeps s₀ (State.switchOff s slot) :=
  h.setFlag.switchHalt

theorem execSwitchDisable_answers {m : Master} {slot : ℕ} : Answers true s (execSwitchDisable m slot s) :=
  .next (.hostWrite (Keeps.refl s) (fun _ h1 => .ite h1.switchOff h1))

theorem Keeps.showDmaBusy (h : Keeps s₀ s) : Keeps s₀ (State.showDmaBusy s) :=
  .ite h h.setFlag

theorem Keeps.putPort {p : ℕ} {x : PortState} (h : Keeps s₀ s) : Keeps s₀ (State.putPort s p x) :=
  (h.same (by rfl))

theorem Keeps.putDma {q : ℕ} {x : RingState} (h : Keeps s₀ s) : Keeps s₀ (State.putDma s q x) :=
  (h.same (by rfl))

theorem Keeps.emptyRing {q : ℕ} {stopped : Bool} (h : Keeps s₀ s) : Keeps s₀ (State.emptyRing s q stopped) :=
  .putDma (.foldl (h.same (by rfl)) fun _ _ h1 => .ite h1.putPort h1)

theorem Keeps.putRun {q : ℕ} {on : Bool} (h : Keeps s₀ s) : Keeps s₀ (State.putRun s q on) :=
  h.setFlag.set

theorem Keeps.stopRing {q : ℕ} (h : Keeps s₀ s) : Keeps s₀ (State.stopRing s q) :=
  .ite h.putRun.emptyRing h

theorem Keeps.stopRings {p : ℕ → Bool} (h : Keeps s₀ s) : Keeps s₀ (State.stopRings s p) :=
  .foldl h fun _ _ h1 => .ite h1.stopRing h1

theorem execDmaDisable_answers {m : Master} : Answers true s (execDmaDisable m s) :=
  .next (.hostWrite (Keeps.refl s) (fun _ h1 => .ite h1.setFlag.stopRings.showDmaBusy h1))

theorem Keeps.pllOff {p : ℕ} (h : Keeps s₀ s) : Keeps s₀ (State.pllOff s p) :=
  .foldl h.setPll.lineOff.putPll fun _ _ h1 => h1.endOut

theorem execPllDisable_answers {m : Master} {pll : ℕ} : Answers (decide (pll < 4)) s (execPllDisable m pll s) :=
  .unit (.hostWrite (Keeps.refl s) (fun _ h1 => h1.set.pllOff))

theorem Keeps.ticDropCal {t : ℕ} (h : Keeps s₀ s) : Keeps s₀ (State.ticDropCal s t) :=
  .ite (.putTic (.set (.ite h.set h))) h

theorem Keeps.wrS {a : ℕ} {z : ℤ} (h : Keeps s₀ s) : Keeps s₀ (State.wrS s a z) :=
  h.wr.wr

theorem Keeps.ticEnd {t : ℕ} {status : ℕ} {st : ℕ} (h : Keeps s₀ s) : Keeps s₀ (State.ticEnd s t status st) :=
  .putTic (.set (.set (.ite h.wrS h)))

theorem Keeps.ticAbort {t : ℕ} (h : Keeps s₀ s) : Keeps s₀ (State.ticAbort s t) :=
  .ite h.ticEnd.raise h

theorem execTicDisable_answers {m : Master} {tic : ℕ} : Answers (decide (tic < 8)) s (execTicDisable m tic s) :=
  .unit (.hostWrite (Keeps.refl s) (fun _ h1 => h1.set.ticAbort.ticDropCal))

theorem Keeps.putCoach {c : ℕ} {x : CoachState} (h : Keeps s₀ s) : Keeps s₀ (State.putCoach s c x) :=
  (h.same (by rfl))

theorem Keeps.dropCar {c : ℕ} {cid : ℕ} (h : Keeps s₀ s) : Keeps s₀ (State.dropCar s c cid) :=
  h.putCoach

theorem Keeps.sendPin {c : ℕ} {pin : Bool} {slot : ℕ} {ver : ℕ} (h : Keeps s₀ s) : Keeps s₀ (State.sendPin s c pin slot ver) :=
  (h.same (by rfl))

theorem Keeps.unpin {c : Nat} {k : Carriage} (h : Keeps s₀ s) : Keeps s₀ (s.unpin c k) := by
  unfold State.unpin
  refine .ite h ?_
  extract_lets t
  have ht : Keeps s₀ t := by
    show Keeps s₀ (match k.key with | some (sl, v) => s.sendPin c false sl v | none => s)
    split
    · exact h.sendPin
    · exact h
  clear_value t
  split
  · exact ht.sendPin
  · exact ht

theorem Keeps.endCar {c : ℕ} {k : Carriage} (h : Keeps s₀ s) : Keeps s₀ (State.endCar s c k) :=
  h.unpin.dropCar

theorem Keeps.lose {c : ℕ} {k : Carriage} {f : Fld} (h : Keeps s₀ s) : Keeps s₀ (State.lose s c k f) :=
  h.endCar.bump

theorem Keeps.loseAll {c : ℕ} {p : Carriage → Bool} {f : Fld} (h : Keeps s₀ s) : Keeps s₀ (State.loseAll s c p f) :=
  .foldl h fun _ _ h1 => h1.lose

theorem Keeps.drainCoach {c : ℕ} (h : Keeps s₀ s) : Keeps s₀ (State.drainCoach s c) :=
  have h1 := h.loseAll.setFlag.setFlag
  .ite h1 h1.raise

theorem execCoachDisable_answers {m : Master} {coach : ℕ} : Answers (decide (coach < 6)) s (execCoachDisable m coach s) :=
  .unit (.hostWrite (Keeps.refl s) (fun _ h1 => .ite h1.setFlag.drainCoach.showServing h1))

theorem Keeps.setLink {p : ℕ} {st : ℕ} (h : Keeps s₀ s) : Keeps s₀ (State.setLink s p st) :=
  .ite h h.set.raise.level

theorem Keeps.sta {p : ℕ} {k : ℕ} {n : ℕ} (h : Keeps s₀ s) : Keeps s₀ (State.sta s p k n) :=
  h.wr.raiseIf

theorem Keeps.txResult {q : ℕ} {idx : ℕ} {st : ℕ} {stamp : ℤ} (h : Keeps s₀ s) : Keeps s₀ (State.txResult s q idx st stamp) :=
  h.putDma

theorem Keeps.descResult {f : SwFrame} {st : ℕ} (h : Keeps s₀ s) : Keeps s₀ (State.descResult s f st) := by
  unfold State.descResult
  split
  · exact h.txResult
  · exact h

theorem Keeps.flushQueues {dst : ℕ} (h : Keeps s₀ s) : Keeps s₀ (State.flushQueues s dst) :=
  .tidy (.foldl h fun _ _ h1 => .dropCopies (.descResult (.ite h1.sta h1)))

theorem Keeps.flushPort {p : ℕ} (h : Keeps s₀ s) : Keeps s₀ (State.flushPort s p) :=
  .foldl h.flushQueues fun _ _ h1 => h1.endCar.sta.sta

theorem Keeps.goOff {p : ℕ} (h : Keeps s₀ s) : Keeps s₀ (State.goOff s p) := by
  unfold State.goOff
  extract_lets t2 t3 _
  have h2 : Keeps s₀ t2 := h.flushPort.setLink
  have h3 : Keeps s₀ t3 := h2.set.set
  clear_value t3
  exact (h3.same (by rfl))

theorem execPortDisable_answers {m : Master} {port : Nat} {sending : Bool} : Answers (decide (port < 24)) s (execPortDisable m port sending s) := by
  refine .unit (.hostWrite (.refl s) fun u hu => .ite hu (.ite hu.setFlag (.ite ?_ hu.setFlag.goOff)))
  have sent : Keeps s (((u.setFlag (R.PG_CTRL_EN (P.PRT port)) false).goOff port).setFlag (R.PG_STAT_BUSY (P.PRT port)) true) := hu.setFlag.goOff.setFlag
  dsimp only
  generalize ((u.setFlag (R.PG_CTRL_EN (P.PRT port)) false).goOff port).setFlag (R.PG_STAT_BUSY (P.PRT port)) true = t at sent
  exact .putPort (.same sent (by rfl))

theorem Keeps.disablePage {m : Master} {page : ℕ} {a : Arrival} (h : Keeps s₀ s) : Keeps s₀ (State.disablePage s m page a) :=
  have h1 := (h.same (by rfl))
  .ite (.settle h1 execGnssDisable_answers) (.ite (.settle h1 execOutDisable_answers) (.ite (.settle h1 execSwitchDisable_answers) (.ite (.settle h1
    execDmaDisable_answers) (.ite (.settle h1 execPllDisable_answers) (.ite (.settle h1 execTicDisable_answers) (.ite (.settle h1 execCoachDisable_answers)
    (.ite (.settle h1 execPortDisable_answers) h1)))))))

theorem Keeps.clearEvt {page : ℕ} {mask : ℕ} (h : Keeps s₀ s) : Keeps s₀ (State.clearEvt s page mask) :=
  h.wr

theorem Keeps.writeHeader {m : Master} {slot : ℕ} {v : Word} {a : Arrival} (h : Keeps s₀ s) : Keeps s₀ (State.writeHeader s m slot v a) :=
  .ite (.bind h.set fun h1 => .ite h1 (.ite h1.enablePage h1.disablePage)) (.ite h.clearEvt (.ite h.wr.vecRises h))

theorem Keeps.worldErr {m : Master} {slot : ℕ} (h : Keeps s₀ s) : Keeps s₀ (State.worldErr s m slot) :=
  h.accessErr

theorem Keeps.putMst {m : Master} {x : MasterState} (h : Keeps s₀ s) : Keeps s₀ (State.putMst s m x) := by
  unfold State.putMst
  split
  · exact (h.same (by rfl))
  · exact (h.same (by rfl))
  · exact (h.same (by rfl))

theorem Keeps.keySet {m : Master} {f : Fld} {n : ℕ} (h : Keeps s₀ s) : Keeps s₀ (State.keySet s m f n) :=
  h.putMst

theorem Keeps.wrote {old : State} {a : Nat} (h : Keeps s₀ s) : Keeps s₀ (State.wrote old s a) :=
  .ite h.vecRises (.ite h.refreshFaults (.ite h.showPending (.ite (.ite h h.wr) (.ite h.showCal h))))

/-- A write to a shadow. -/
theorem Keeps.shadowed {a : Nat} {v : Word} (h : Keeps s₀ s) : Keeps s₀ { s with shadow := s.shadow.write a v } :=
  ⟨fun hz => ⟨(h.wf hz).1, Store.wf_write _ _ _ (h.wf hz).2.1, (h.wf hz).2.2⟩, h.fuses, h.pending⟩

theorem Keeps.writeWord {m : Master} {a : Nat} {v : Word} {d : RegDef} (h : Keeps s₀ s) : Keeps s₀ (s.writeWord m a v d) := by
  have inForce : ∀ v, Keeps s₀ (if d.rw = 0 then s else s.wr a v) := fun _ => .ite h h.wr
  have next : ∀ t w, Keeps s₀ t → Keeps s₀ (if d.rws = 0 then t else { t with shadow := t.shadow.write a w }) := fun _ _ ht => .ite ht ht.shadowed
  exact .ite h.keySet (.ite (next _ _ (inForce _)) (next _ _ (inForce _)).wrote)

theorem Keeps.writeSeen {q : ℕ} {v : ℕ} (h : Keeps s₀ s) : Keeps s₀ (State.writeSeen s q v) :=
  h.set.putDma

theorem Keeps.writeRingReg {m : Master} {a : ℕ} {v : Word} {d : RegDef} (h : Keeps s₀ s) : Keeps s₀ (State.writeRingReg s m a v d) :=
  .ite h.worldErr (.ite (.ite h.raise h.writeWord) (.ite h.writeSeen h.writeWord))

theorem Keeps.stage {m : Master} {a : ℕ} {v : Word} (h : Keeps s₀ s) : Keeps s₀ (State.stage s m a v) :=
  h.putMst

theorem Keeps.clearStaged {m : Master} (h : Keeps s₀ s) : Keeps s₀ (State.clearStaged s m) :=
  h.putMst

theorem Keeps.writeTime {m : Master} {a : Nat} {v : Word} {d : RegDef} (h : Keeps s₀ s) : Keeps s₀ (s.writeTime m a v d) :=
  .ite h (.ite h.stage (.ite h.clearStaged.raise (.foldl h.clearStaged fun _ _ h1 => .ite h1.shadowed h1.wr)))

theorem Keeps.writeSlot {m : Master} {slot : ℕ} {v : Word} {a : Arrival} (h : Keeps s₀ s) : Keeps s₀ (State.writeSlot s m slot v a) :=
  .ite h.writeHeader (by split; exacts [h, .ite h.worldErr (.ite h.writeRingReg (.ite h.writeTime h.writeWord))])

theorem Keeps.plainWrite {m : Master} {slot : ℕ} {v : Word} {a : Arrival} (h : Keeps s₀ s) : Keeps s₀ (State.plainWrite s m slot v a) :=
  .ite h (.ite h.accessErr (.hostWrite h (fun _ h1 => h1.writeSlot)))

theorem Keeps.setWindow {m : Master} {w : ℕ} (h : Keeps s₀ s) : Keeps s₀ (State.setWindow s m w) :=
  h.putMst

theorem Keeps.closeWindow {m : Master} (h : Keeps s₀ s) : Keeps s₀ (State.closeWindow s m) :=
  .ite h.putMst.raise h

theorem execExpertKeyWrite_answers {m : Master} {v : Word} {sinceArm : ℕ} : Answers true s (execExpertKeyWrite m v sinceArm s) :=
  .next (.hostWrite (Keeps.refl s) (fun _ h1 => .ite h1.closeWindow.setWindow (.ite (.ite h1 (.ite (.ite h1.setWindow.worldErr h1.setWindow.raise)
    h1.setWindow)) h1.closeWindow.setWindow)))

theorem execVectorAck_answers {m : Master} {v : Word} : Answers true s (execVectorAck m v s) :=
  .next (.hostWrite (Keeps.refl s) (fun _ h1 => .foldl h1 fun _ _ h2 => .ite h2.sendVec h2))

theorem execFltLatchClear_answers {m : Master} {bits : Word} : Answers true s (execFltLatchClear m bits s) :=
  .next (.hostWrite (Keeps.refl s) (fun _ h1 => h1.wr.refreshFaults))

theorem Keeps.mgtFault {lines : List ℕ} (h : Keeps s₀ s) : Keeps s₀ (State.mgtFault s lines) :=
  .ite (h.same (by rfl)) h

theorem Keeps.faultStop {c : ℕ} (h : Keeps s₀ s) : Keeps s₀ (State.faultStop s c) :=
  .ite h h.loseAll

theorem Keeps.faultStops {old : State} (h : Keeps s₀ s) : Keeps s₀ (State.faultStops old s) :=
  .foldl h fun _ _ h1 => .ite h1.faultStop h1

theorem Keeps.showProve (h : Keeps s₀ s) : Keeps s₀ (State.showProve s) := by
  unfold State.showProve
  split
  · exact h.set.set
  · exact h.set.set

theorem Keeps.proveRec {event : ℕ} {kind : ℕ} {unit : ℕ} (h : Keeps s₀ s) : Keeps s₀ (State.proveRec s event kind unit) :=
  h.trig

theorem Keeps.proveEnd {aborted : Bool} (h : Keeps s₀ s) : Keeps s₀ (State.proveEnd s aborted) :=
  have h1 := (h.same (by rfl)).showProve.set.set.bump
  .bind (.ite h1.set h1) fun h2 => .ite h2.bump.raise.proveRec h2.raise.proveRec

theorem Keeps.putMig {g : Migration} (h : Keeps s₀ s) : Keeps s₀ (State.putMig s g) :=
  (h.same (by rfl))

theorem Keeps.setLane {lane : ℕ} {st : ℕ} (h : Keeps s₀ s) : Keeps s₀ (State.setLane s lane st) :=
  h.set

theorem Keeps.setShunted {kind : ℕ} {idx : ℕ} {on : Bool} (h : Keeps s₀ s) : Keeps s₀ (State.setShunted s kind idx on) := by
  unfold State.setShunted
  split
  · exact (h.same (by rfl)).wr.setFlag
  · exact (h.same (by rfl)).set.setLane

theorem Keeps.putCore {k : ℕ} {c : CoreVote} (h : Keeps s₀ s) : Keeps s₀ (State.putCore s k c) := by
  unfold State.putCore
  split
  · exact (h.same (by rfl))
  · exact (h.same (by rfl))
  · exact (h.same (by rfl))

theorem Keeps.showBroken (h : Keeps s₀ s) : Keeps s₀ (State.showBroken s) :=
  h.set.set.set

theorem Keeps.healLinks {i : ℕ} (h : Keeps s₀ s) : Keeps s₀ (State.healLinks s i) :=
  .showBroken (.same (.foldl h fun _ _ h1 => h1.lineOff) (by rfl))

theorem Keeps.returnCore {k : ℕ} (h : Keeps s₀ s) : Keeps s₀ (State.returnCore s k) :=
  h.setShunted.healLinks.putCore

theorem Keeps.engineReturn (h : Keeps s₀ s) : Keeps s₀ (State.engineReturn s) :=
  have h1 := (h.same (by rfl))
  .ite h1.engineRun h1.setEngine

theorem Keeps.returnUnit {kind : ℕ} {unit : ℕ} (h : Keeps s₀ s) : Keeps s₀ (State.returnUnit s kind unit) := by
  unfold State.returnUnit
  split
  · exact (h.same (by rfl))
  · exact by split; exacts [.ite (h.same (by rfl)) h.putMig, (h.same (by rfl))]
  · exact h.setShunted.pllStart
  · exact .ite (h.same (by rfl)) (.ite h.returnCore h)
  · exact h.setShunted.engineReturn
  · exact h

theorem Keeps.proveAbort (h : Keeps s₀ s) : Keeps s₀ (State.proveAbort s) :=
  .ite h (.proveEnd (.foldl h fun _ _ h1 => h1.returnUnit))

theorem Keeps.reactions {old : State} {hard : Bool} (h : Keeps s₀ s) : Keeps s₀ (State.reactions old s hard) :=
  .ite h.refreshFaults.faultStops.proveAbort h.refreshFaults.faultStops

theorem Keeps.putSrc {o : ℕ} {new : ℕ} (h : Keeps s₀ s) : Keeps s₀ (State.putSrc s o new) :=
  .ite h h.set.trig

theorem Keeps.setTimeValid {b : Bool} (h : Keeps s₀ s) : Keeps s₀ (State.setTimeValid s b) :=
  .ite h (h.same (by rfl)).setFlag.raise

theorem Keeps.showBypass (h : Keeps s₀ s) : Keeps s₀ (State.showBypass s) :=
  h.level

theorem Keeps.brakeOn {b : Brake} (h : Keeps s₀ s) : Keeps s₀ (s.brakeOn b) := by
  unfold State.brakeOn
  extract_lets t1 _ t2 t3 _ t4
  have h1 : Keeps s₀ t1 := .foldl h fun _ _ h => h.putSrc.set.putOut
  clear_value t1
  have h2 : Keeps s₀ t2 := .same h1 (by rfl)
  clear_value t2
  have h3 : Keeps s₀ t3 := h2.setTimeValid
  clear_value t3
  have h4 : Keeps s₀ t4 := .ite h3 (.same h3 (by rfl))
  clear_value t4
  exact h4.showBypass.bump.refreshFaults

theorem Keeps.fatalBrake {lines : List ℕ} (h : Keeps s₀ s) : Keeps s₀ (State.fatalBrake s lines) :=
  .ite h (.bind (h.same (by rfl)) fun h1 => .ite h1.brakeOn h1)

theorem Keeps.sendBad {p : ℕ} {f : Frame} (h : Keeps s₀ s) : Keeps s₀ (State.sendBad s p f) :=
  h.sta.emit

theorem Keeps.cutTx {p : ℕ} {r : TxRef} (h : Keeps s₀ s) : Keeps s₀ (State.cutTx s p r) := by
  unfold State.cutTx
  split
  · exact by split; exacts [h.descResult.dropCopies.tidy.sendBad, h]
  · exact by split; exacts [.ite h.endCar.sta.sendBad h, h]

theorem Keeps.cutLaunches {cuts : List (ℕ × TxRef)} (h : Keeps s₀ s) : Keeps s₀ (State.cutLaunches s cuts) :=
  .foldl h fun _ _ h1 => by split; exacts [.ite h1.cutTx h1, h1]

theorem Keeps.brakeLines {lines : List ℕ} {cuts : List (ℕ × TxRef)} {slot : ℕ} (h : Keeps s₀ s) : Keeps s₀ (State.brakeLines s lines cuts slot) :=
  have h1 := h.fatalBrake
  .bind (.ite h1.cutLaunches h1) fun h2 => .ite h2.switchHalt.stopRings h2

theorem execFltSevWrite_answers {m : Master} {high : Bool} {v : Word} {cuts : List (Nat × TxRef)} {slot : Nat} :
    Answers true s (execFltSevWrite m high v cuts slot s) :=
  .next (.hostWrite (.refl s) fun _ h => .reactions h.wr.mgtFault.brakeLines)

theorem Keeps.wcReject {m : Master} {slot : ℕ} (h : Keeps s₀ s) : Keeps s₀ (State.wcReject s m slot) :=
  h.bump.wr.raise

theorem Keeps.hostCmd {m : Master} {f : Fld} {k : State → State} (h : Keeps s₀ s) (hk : ∀ u, Keeps s₀ u → Keeps s₀ (k u)) : Keeps s₀ (s.hostCmd m f k) :=
  .hostWrite h fun _ h1 => .ite h1.wcReject (hk _ h1)

theorem execFltAck_answers {m : Master} : Answers true s (execFltAck m s) :=
  .next (.hostCmd (Keeps.refl s) (fun _ h1 => h1.set.set.set))

theorem execFltRelease_answers {m : Master} : Answers true s (execFltRelease m s) :=
  .next (.hostCmd (Keeps.refl s) (fun _ h1 => by split; exacts [h1.set, (h1.same (by rfl)).set]))

theorem Keeps.noOp {m : Master} {status : Fld} (h : Keeps s₀ s) : Keeps s₀ (State.noOp s m status) :=
  .hostCmd h (fun _ h1 => h1)

theorem execFltSoftWrite_answers {m : Master} {v : Word} : Answers true s (execFltSoftWrite m v s) :=
  .next (.hostWrite (Keeps.refl s) (fun _ h1 => h1.set.lineSet))

theorem execWdogKick_answers {m : Master} : Answers true s (execWdogKick m s) :=
  .next (.hostWrite (Keeps.refl s) (fun _ h1 => h1.lineOff))

theorem execWdogCfgWrite_answers {m : Master} {v : Word} : Answers true s (execWdogCfgWrite m v s) :=
  .next (.hostWrite (Keeps.refl s) (fun _ h1 => h1.set))

theorem Keeps.injEnd {st : ℕ} (h : Keeps s₀ s) : Keeps s₀ (State.injEnd s st) :=
  (h.same (by rfl)).set.raise.trig

theorem Keeps.injUnit {unit : ℕ} {lim : ℕ} (h : Keeps s₀ s) : Keeps s₀ (State.injUnit s unit lim).2 :=
  .ite2 h h.takeFree

theorem Keeps.inject {m : Master} {bad : Bool} {lim : ℕ} {i : Injection} (h : Keeps s₀ s) : Keeps s₀ (State.inject s m bad lim i) :=
  .hostCmd h (fun _ h1 => .ite h1.injEnd (.ite h1.injEnd (h1.injUnit.same (by rfl)).set))

theorem execInjSramEcc_answers {m : Master} {unit : ℕ} {quiet : Bool} : Answers true s (execInjSramEcc m unit quiet s) :=
  .next (Keeps.refl s).inject

theorem execInjCouple_answers {m : Master} {src : ℕ} {dst : ℕ} {count : ℕ} {quiet : Bool} : Answers true s (execInjCouple m src dst count quiet s) :=
  .next (Keeps.refl s).inject

theorem execInjDramCrc_answers {m : Master} {count : ℕ} {quiet : Bool} : Answers true s (execInjDramCrc m count quiet s) :=
  .next (Keeps.refl s).inject

theorem execInjVote_answers {m : Master} {core : ℕ} {quiet : Bool} : Answers true s (execInjVote m core quiet s) :=
  .next (Keeps.refl s).inject

theorem execInjNvmCrc_answers {m : Master} {quiet : Bool} : Answers true s (execInjNvmCrc m quiet s) :=
  .next (Keeps.refl s).inject

theorem execFetch_answers {m : Master} : Answers true s (execFetch m s) :=
  .next (.hostCmd (Keeps.refl s) (fun _ h1 => (h1.same (by rfl)).set))

theorem execHostMark_answers {m : Master} {v : Word} : Answers true s (execHostMark m v s) :=
  .next (.hostWrite (Keeps.refl s) (fun _ h1 => h1.trig))

theorem Keeps.stageSnaps {l : List ℕ} (h : Keeps s₀ s) : Keeps s₀ (State.stageSnaps s l) :=
  .foldl h fun _ _ h1 => h1.set

theorem execCodeSelWrite_answers {m : Master} {v : Word} : Answers true s (execCodeSelWrite m v s) :=
  .next (.hostWrite (Keeps.refl s) (fun _ h1 => h1.set.stageSnaps))

theorem execCodeCfgWrite_answers {m : Master} {v : Word} : Answers true s (execCodeCfgWrite m v s) :=
  .next (.hostWrite (Keeps.refl s) (fun _ h1 => (h1.same (by rfl))))

theorem execTmpLatchClear_answers {m : Master} {w : Word} : Answers true s (execTmpLatchClear m w s) :=
  .next (.hostWrite (Keeps.refl s) (fun _ h1 => .bind h1.wr fun h2 => .ite h2.set h2))

theorem execTmpPolicyWrite_answers {m : Master} {w : Word} {ok : Bool} : Answers true s (execTmpPolicyWrite m w ok s) :=
  .next (.hostWrite (Keeps.refl s) (fun _ h1 => .ite h1.worldErr (.ite h1.nvWrite.wr.trig h1.nvWrite)))

theorem Keeps.setGenState {st : ℕ} (h : Keeps s₀ s) : Keeps s₀ (State.setGenState s st) :=
  h.set

/-- The staging set takes the shadows, which are in canonical form as the staging set is. -/
theorem Keeps.staged (h : Keeps s₀ s) (regs : u.regs = s.regs) (shadow : u.shadow = s.shadow) (staging : u.staging = s.shadow) (fuses : u.key.fuses = s.key.fuses)
    (pending : u.pending = s.pending) : Keeps s₀ u := by
  refine ⟨fun hz => ?_, fun k => ?_, pending.trans h.pending⟩
  · obtain ⟨hr, hsh, -⟩ := h.wf hz
    unfold RegsWf
    rw [regs, shadow, staging]
    exact ⟨hr, hsh, hsh⟩
  · rw [fuses]
    exact h.fuses k

theorem Keeps.prepare {arrival : Int} (h : Keeps s₀ s) : Keeps s₀ (s.prepare arrival) := by
  unfold State.prepare
  split
  · exact h.set
  · extract_lets _ t
    have ht : Keeps s₀ t := .staged h rfl rfl rfl rfl rfl
    exact ht.set.set.set.setGenState

theorem execGenPrepare_answers {m : Master} {tick : ℕ} : Answers true s (execGenPrepare m tick s) :=
  .next (.hostWrite (Keeps.refl s) (fun _ h1 => .ite h1.wcReject h1.proveAbort.prepare))

theorem execGenCancel_answers {m : Master} : Answers true s (execGenCancel m s) :=
  .next (.hostWrite (Keeps.refl s) (fun _ h1 => .ite (h1.same (by rfl)) h1.set))

theorem Keeps.shuntRefuse {st : ℕ} (h : Keeps s₀ s) : Keeps s₀ (State.shuntRefuse s st) :=
  h.set.raise

theorem Keeps.shuntBusy {op : ℕ} {kind : ℕ} {idx : ℕ} {dest : ℕ} (h : Keeps s₀ s) : Keeps s₀ (State.shuntBusy s op kind idx dest) :=
  (h.same (by rfl)).set

theorem Keeps.addMig {lane : ℕ} {dest : ℕ} {shunt : Bool} (h : Keeps s₀ s) : Keeps s₀ (State.addMig s lane dest shunt) :=
  (h.same (by rfl))

theorem Keeps.shuntRec {kind : ℕ} {idx : ℕ} {event : ℕ} (h : Keeps s₀ s) : Keeps s₀ (State.shuntRec s kind idx event) :=
  h.trig

theorem Keeps.shuntDone {kind : ℕ} {idx : ℕ} (h : Keeps s₀ s) : Keeps s₀ (State.shuntDone s kind idx) :=
  (h.same (by rfl)).set.bump.raise.shuntRec

theorem Keeps.shuntTic {t : ℕ} (h : Keeps s₀ s) : Keeps s₀ (State.shuntTic s t) :=
  h.ticAbort.ticDropCal.setShunted

theorem Keeps.changeSrc {n : ℕ} {new : ℕ} (h : Keeps s₀ s) : Keeps s₀ (State.changeSrc s n new) :=
  h.takeFree.takeFree.putOut.putSrc

theorem Keeps.showMisalign (h : Keeps s₀ s) : Keeps s₀ (State.showMisalign s) :=
  h.level

theorem Keeps.setMisalign {o : ℕ} {z : ℤ} (h : Keeps s₀ s) : Keeps s₀ (State.setMisalign s o z) :=
  .ite h h.wrS.showMisalign

theorem Keeps.muteOut {o : ℕ} (h : Keeps s₀ s) : Keeps s₀ (State.muteOut s o) :=
  h.putSrc.set.putOut.setMisalign.showBypass.showOutBusy

theorem Keeps.toBypass {n : ℕ} (h : Keeps s₀ s) : Keeps s₀ (State.toBypass s n) :=
  .ite h (.ite h.changeSrc.bump.showBypass h.muteOut)

theorem Keeps.pllToBypass {p : ℕ} (h : Keeps s₀ s) : Keeps s₀ (State.pllToBypass s p) :=
  .foldl h fun _ _ h1 => h1.toBypass

theorem Keeps.shuntPll {p : ℕ} (h : Keeps s₀ s) : Keeps s₀ (State.shuntPll s p) :=
  h.pllToBypass.setPll.lineOff.putPll.setShunted

theorem Keeps.shuntGns (h : Keeps s₀ s) : Keeps s₀ (State.shuntGns s) :=
  h.gnsStop.setShunted

theorem execShuntCmd_answers {m : Master} {kind index : Nat} : Answers true s (execShuntCmd m kind index s) := by
  refine .next (.hostCmd (.refl s) fun u h => .ite h.shuntRefuse (.ite h.shuntRefuse (.ite h.shuntRefuse ?_)))
  have busy : ∀ k n w, Keeps s (u.shuntBusy 1 k n w) := fun _ _ _ => h.shuntBusy
  split
  · have b := busy 1 index 31
    dsimp only
    generalize u.shuntBusy 1 1 index 31 = t at b
    exact .same b (by rfl)
  · have b := busy 2 index 31
    dsimp only
    generalize u.shuntBusy 1 2 index 31 = t at b
    exact .same b (by rfl)
  · exact .ite h.shuntBusy.addMig h.shuntRefuse
  · exact h.shuntTic.shuntDone
  · exact h.shuntPll.shuntDone
  · exact h.shuntGns.shuntDone

theorem Keeps.ticCalStart {t : ℕ} {kind : ℕ} (h : Keeps s₀ s) : Keeps s₀ (State.ticCalStart s t kind) :=
  h.set.putTic

theorem Keeps.beginReturn {kind : ℕ} {idx : ℕ} (h : Keeps s₀ s) : Keeps s₀ (State.beginReturn s kind idx) := by
  unfold State.beginReturn
  extract_lets _ t2 _ t3
  have h2 : Keeps s₀ t2 := (h.same (by rfl))
  clear_value t2
  have h3 : Keeps s₀ t3 := .ite (h2.same (by rfl)) h2
  clear_value t3
  split
  · exact h3.ticCalStart
  · exact h3.setShunted.pllStart
  · exact h3.setShunted.engineReturn
  · exact h3

theorem execShntReturn_answers {m : Master} {kind : ℕ} {index : ℕ} : Answers true s (execShntReturn m kind index s) :=
  .next (.hostCmd (Keeps.refl s) (fun _ h1 => .ite h1.shuntRefuse (.ite h1.shuntRefuse (.ite h1.shuntRefuse (.ite h1.returnCore.shuntDone h1.shuntBusy.beginReturn)))))

theorem execMigrateCmd_answers {m : Master} {kind : ℕ} {index : ℕ} {dest : ℕ} : Answers true s (execMigrateCmd m kind index dest s) :=
  .next (.hostCmd (Keeps.refl s) (fun _ h1 => .ite h1.shuntRefuse (.ite h1.shuntRefuse (.ite h1.shuntRefuse h1.shuntBusy.addMig))))

theorem execRunNow_answers {m : Master} : Answers true s (execRunNow m s) :=
  .next (.hostCmd (Keeps.refl s) (fun _ h1 => (h1.same (by rfl)).set))

theorem execProveStop_answers {m : Master} : Answers true s (execProveStop m s) :=
  .next (.hostWrite (Keeps.refl s) (fun _ h1 => (h1.same (by rfl)).proveAbort.set))

theorem execDqPendClear_answers {m : Master} {v : Word} : Answers true s (execDqPendClear m v s) :=
  .next (.hostWrite (Keeps.refl s) (fun _ h1 => h1.set))

theorem execDmaTailWrite_answers {m : Master} {ring : ℕ} {idx : ℕ} : Answers (decide (ring < 8)) s (execDmaTailWrite m ring idx s) :=
  .unit (.hostWrite (Keeps.refl s) (fun _ h1 => .ite h1.worldErr (.ite h1.bump h1.set)))

theorem Keeps.noBuf {q : ℕ} (h : Keeps s₀ s) : Keeps s₀ (State.noBuf s q) :=
  .ite h h.putDma.raise

theorem Keeps.writeRing {m : Master} {q : ℕ} {w : Word} (h : Keeps s₀ s) : Keeps s₀ (State.writeRing s m q w) :=
  .bind (.ite h.set h) fun h1 => .bind (.ite h1.raiseIf h1.set.set) fun h2 => .ite h2 (.ite h2.putRun.emptyRing (.bind h2.set.set.set.set.putRun.putDma fun h3
    => .ite h3.noBuf h3))

theorem execDmaRingEnable_answers {m : Master} {ring : ℕ} {w : Word} : Answers (decide (ring < 8)) s (execDmaRingEnable m ring w s) :=
  .unit (.hostWrite (Keeps.refl s) (fun _ h1 => .ite h1.worldErr h1.writeRing))

theorem Keeps.writeLow {m : Master} {slot : ℕ} {v : Word} {a : Arrival} (h : Keeps s₀ s) : Keeps s₀ (State.writeLow s m slot v a) :=
  .ite (.settle h execExpertKeyWrite_answers) (.ite (.settle h execVectorAck_answers) (.ite (.settle h execFltLatchClear_answers) (.ite (.settle h execFltSevWrite_answers) (.ite (by split; exacts [.settle h execFltAck_answers, .settle h execFltRelease_answers, h.noOp]) (.ite (.settle h execFltSoftWrite_answers) (.ite (.settle h execWdogKick_answers) (.ite (.settle h execWdogCfgWrite_answers) (.ite (by split; exacts [.settle h execInjSramEcc_answers, .settle h execInjCouple_answers, .settle h execInjDramCrc_answers, .settle h execInjVote_answers, .settle h execInjNvmCrc_answers, h.noOp]) (.ite (.ite (.settle h execFetch_answers) h.noOp) (.ite (.settle h execHostMark_answers) (.ite (.settle h execCodeSelWrite_answers) (.ite (.settle h execCodeCfgWrite_answers) (.ite (.settle h execTmpLatchClear_answers) (.ite (.settle h execTmpPolicyWrite_answers) (.ite (by split; exacts [.settle h execGenPrepare_answers, .settle h execGenCancel_answers, h.noOp]) (.ite (by split; exacts [.settle h execShuntCmd_answers, .settle h execShntReturn_answers, .settle h execMigrateCmd_answers, h.noOp]) (.ite (by split; exacts [.settle h execRunNow_answers, .settle h execProveStop_answers, h.noOp]) (.ite (.settle h execDqPendClear_answers) (.ite (.settle h execDmaTailWrite_answers) (.ite (.settle h execDmaRingEnable_answers) h.plainWrite))))))))))))))))))))

theorem execPllRelock_answers {m : Master} {pll : ℕ} : Answers (decide (pll < 4)) s (execPllRelock m pll s) :=
  .unit (.hostCmd (Keeps.refl s) (fun _ h1 => .ite h1.set h1.pllToBypass.lineOff.pllStart.set))

theorem Keeps.ticAdmit {n : Nat} {k : State → State} (h : Keeps s₀ s) (hk : ∀ u, Keeps s₀ u → Keeps s₀ (k u)) : Keeps s₀ (s.ticAdmit n k) :=
  .ite h.set (.ite h.set (.ite h.set.raise (hk _ (.ite h.set.set.putTic h.set))))

theorem Keeps.ticCmd {m : Master} {n : Nat} {k : State → State} (h : Keeps s₀ s) (hk : ∀ u, Keeps s₀ u → Keeps s₀ (k u)) : Keeps s₀ (s.ticCmd m n k) :=
  .ite (.hostWrite h fun _ h1 => h1.set) (.hostCmd h fun _ h1 => h1.ticAdmit hk)

theorem Keeps.wrT {a : ℕ} {v : ℕ} (h : Keeps s₀ s) : Keeps s₀ (State.wrT s a v) :=
  h.wr.wr.wr

theorem Keeps.clearMeas {t : ℕ} (h : Keeps s₀ s) : Keeps s₀ (State.clearMeas s t) :=
  h.wr.wr.wrT.wrT.wrS.set.set.set

theorem Keeps.ticArmNow {t : ℕ} {late : Bool} (h : Keeps s₀ s) : Keeps s₀ (State.ticArmNow s t late) :=
  h.clearMeas.set.setFlag.putTic

theorem execTicArm_answers {m : Master} {tic : ℕ} : Answers (decide (tic < 8)) s (execTicArm m tic s) :=
  .unit (.ticCmd (Keeps.refl s) (fun _ h1 => h1.ticArmNow))

theorem execTicArmAt_answers {m : Master} {tic : ℕ} {tick : ℕ} : Answers (decide (tic < 8)) s (execTicArmAt m tic tick s) :=
  .unit (.ticCmd (Keeps.refl s) (fun _ h1 => .ite h1.ticArmNow h1.putTic))

theorem execTicDisarm_answers {m : Master} {tic : ℕ} : Answers (decide (tic < 8)) s (execTicDisarm m tic s) :=
  .unit (.hostWrite (Keeps.refl s) (fun _ h1 => .ite h1.ticAbort h1.set))

theorem execTicCalibrate_answers {m : Master} {tic : ℕ} : Answers (decide (tic < 8)) s (execTicCalibrate m tic s) :=
  .unit (.hostCmd (Keeps.refl s) (fun _ h1 => .ite h1.set h1.set.ticCalStart))

theorem Keeps.setRst {p : ℕ} {released : Bool} (h : Keeps s₀ s) : Keeps s₀ (State.setRst s p released) :=
  (h.same (by rfl))

theorem execModuleRstWrite_answers {m : Master} {port : ℕ} {rst : Bool} : Answers (decide (port < 24)) s (execModuleRstWrite m port rst s) :=
  .unit (.hostWrite (Keeps.refl s) (fun _ h1 => .bind h1.setFlag fun h2 => .ite h2 h2.setRst))

theorem Keeps.i2cEnd {p : ℕ} {st : ℕ} (h : Keeps s₀ s) : Keeps s₀ (State.i2cEnd s p st) :=
  have h1 := h.set.raise
  .ite h1.bump h1

theorem Keeps.putBus {c : ℕ} {x : BusState} (h : Keeps s₀ s) : Keeps s₀ (State.putBus s c x) :=
  (h.same (by rfl))

theorem Keeps.runBus {c : Nat} {b : BusState} (h : Keeps s₀ s) : Keeps s₀ (s.runBus c b) := by
  have select : ∀ (o : Option Nat) (low : Bool) u, Keeps s₀ u → Keeps s₀ (match o with | some p => u.emit (.sel p low) | none => u) := fun o _ _ hu => by
    cases o
    · exact hu
    · exact hu.emit
  exact .ite h.putBus (.putBus (select _ true _ (select _ false _ h)))

theorem Keeps.i2cAsk {m : Master} {t : I2cTx} (h : Keeps s₀ s) : Keeps s₀ (State.i2cAsk s m t) :=
  .hostCmd h (fun _ h1 => .ite h1.i2cEnd (.ite h1.i2cEnd h1.set.runBus))

theorem execI2cRead_answers {m : Master} {port : ℕ} {len : ℕ} {offset : ℕ} {dev : ℕ} : Answers (decide (port < 24)) s (execI2cRead m port len offset dev s) :=
  .unit (Keeps.refl s).i2cAsk

theorem execI2cWrite_answers {m : Master} {port : ℕ} {len : ℕ} {offset : ℕ} {dev : ℕ} : Answers (decide (port < 24)) s (execI2cWrite m port len offset dev s) :=
  .unit (Keeps.refl s).i2cAsk

theorem execRestartBus_answers {m : Master} {port : ℕ} : Answers (decide (port < 24)) s (execRestartBus m port s) :=
  .unit (.hostCmd (Keeps.refl s) (fun _ h1 => h1.putBus.i2cEnd))

theorem Keeps.writeUnit {m : Master} {slot : ℕ} {v : Word} {a : Arrival} (h : Keeps s₀ s) : Keeps s₀ (State.writeUnit s m slot v a) := by
  unfold State.writeUnit
  extract_lets _ _ _ _ _ _ _
  refine .ite ?_ ?_
  · exact .ite (.settle h execPllRelock_answers) h.noOp
  · refine .ite ?_ ?_
    · split
      · exact .settle h execTicArm_answers
      · exact .settle h execTicArmAt_answers
      · exact .settle h execTicDisarm_answers
      · exact .settle h execTicCalibrate_answers
      · exact h.noOp
    · refine .ite ?_ ?_
      · exact .settle h execModuleRstWrite_answers
      · refine .ite ?_ ?_
        · split
          · exact .settle h execI2cRead_answers
          · exact .settle h execI2cWrite_answers
          · exact .settle h execRestartBus_answers
          · exact h.noOp
        · exact h.plainWrite

theorem Keeps.fdbDone {st : ℕ} (h : Keeps s₀ s) : Keeps s₀ (State.fdbDone s st) :=
  h.set

theorem Keeps.putFdb {l : List FdbEntry} (h : Keeps s₀ s) : Keeps s₀ (State.putFdb s l) :=
  (h.same (by rfl)).set

theorem execAddStatic_answers {m : Master} : Answers true s (execAddStatic m s) :=
  .next (.hostCmd (Keeps.refl s) (fun _ h1 => .ite h1.putFdb.fdbDone (by split; exacts [h1.putFdb.fdbDone, h1.fdbDone])))

theorem execFdbDelete_answers {m : Master} : Answers true s (execFdbDelete m s) :=
  .next (.hostCmd (Keeps.refl s) (fun _ h1 => .ite h1.putFdb.fdbDone h1.fdbDone))

theorem execFdbRead_answers {m : Master} : Answers true s (execFdbRead m s) :=
  .next (.hostCmd (Keeps.refl s) (fun _ h1 => by split; exacts [h1.set.setFlag.setFlag.fdbDone, h1.fdbDone]))

theorem execFlushLearned_answers {m : Master} : Answers true s (execFlushLearned m s) :=
  .next (.hostCmd (Keeps.refl s) (fun _ h1 => h1.putFdb.fdbDone))

theorem execFlushPort_answers {m : Master} : Answers true s (execFlushPort m s) :=
  .next (.hostCmd (Keeps.refl s) (fun _ h1 => h1.putFdb.fdbDone))

theorem Keeps.cltCmd {m : Master} {k : State → State} (h : Keeps s₀ s) (hk : ∀ u, Keeps s₀ u → Keeps s₀ (k u)) : Keeps s₀ (s.cltCmd m k) := h.hostCmd hk

theorem Keeps.cltDone {st : ℕ} (h : Keeps s₀ s) : Keeps s₀ (State.cltDone s st) :=
  h.set

theorem Keeps.takeEntry (h : Keeps s₀ s) : Keeps s₀ (State.takeEntry s).2 :=
  h.takeFree

theorem Keeps.putWheel {c : ℕ} {w : WheelState} (h : Keeps s₀ s) : Keeps s₀ (State.putWheel s c w) :=
  (h.same (by rfl))

theorem Keeps.placeRec {g : ℕ} {client : ℕ} {e : ClientEntry} {sync : Bool} {t : ℤ} (h : Keeps s₀ s) : Keeps s₀ (State.placeRec s g client e sync t) := by
  unfold State.placeRec
  extract_lets _ _
  split
  · exact h.putWheel
  · exact h

theorem Keeps.syncRecs {g : ℕ} {client : ℕ} {old : Option ClientEntry} {e : ClientEntry} {t : ℤ} (h : Keeps s₀ s) : Keeps s₀ (State.syncRecs s g client old e t) :=
  .foldl h fun _ _ h1 => .ite h1 (by split; exacts [.ite h1.placeRec (.ite h1.putWheel h1), h1.placeRec])

theorem Keeps.putPeer {n : ℕ} {x : PeerState} (h : Keeps s₀ s) : Keeps s₀ (State.putPeer s n x) :=
  (h.same (by rfl))

theorem Keeps.dugSend {n : ℕ} {lane : ℕ} {body : DugBody} (h : Keeps s₀ s) : Keeps s₀ (State.dugSend s n lane body) :=
  .ite h h.putPeer.emit

theorem Keeps.dugSendAll {lane : ℕ} {body : DugBody} (h : Keeps s₀ s) : Keeps s₀ (State.dugSendAll s lane body) :=
  .foldl h fun _ _ h1 => h1.dugSend

theorem Keeps.mirror {e : ClientEntry} (h : Keeps s₀ s) : Keeps s₀ (State.mirror s e) :=
  .ite h.dugSendAll h

theorem Keeps.showClt (h : Keeps s₀ s) : Keeps s₀ (State.showClt s) :=
  have h1 := h.set.set
  .set (.foldl (.ite h1 h1.level) fun _ _ h2 => h2.set)

theorem Keeps.putEntry {i : ℕ} {e : ClientEntry} (h : Keeps s₀ s) : Keeps s₀ (State.putEntry s i e) :=
  (h.same (by rfl)).showClt

theorem Keeps.writeEntry {i : ℕ} {e : ClientEntry} (h : Keeps s₀ s) : Keeps s₀ (State.writeEntry s i e) :=
  h.putEntry.mirror

theorem Keeps.chainIn {i : ℕ} {e : ClientEntry} (h : Keeps s₀ s) : Keeps s₀ (State.chainIn s i e) :=
  (h.same (by rfl))

theorem execCltAdd_answers {m : Master} : Answers true s (execCltAdd m s) :=
  .next (.cltCmd (Keeps.refl s) (fun _ h1 => .ite h1.cltDone (.ite h1.cltDone (.ite h1.cltDone h1.takeEntry.chainIn.writeEntry.syncRecs.showClt.set.cltDone))))

theorem execCltDelete_answers {m : Master} : Answers true s (execCltDelete m s) :=
  .next (.cltCmd (Keeps.refl s) (fun _ h1 => by split; exacts [h1.writeEntry.bumpBy.cltDone, h1.cltDone]))

theorem Keeps.putWindow {l : List ℕ} (h : Keeps s₀ s) : Keeps s₀ (State.putWindow s l) :=
  .foldl h fun _ _ h1 => h1.set

theorem execCltRead_answers {m : Master} : Answers true s (execCltRead m s) :=
  .next (.cltCmd (Keeps.refl s) (fun _ h1 => .ite h1.cltDone (by split; exacts [h1.putWindow.cltDone, h1.takeFree.putWindow.cltDone])))

theorem execCltFind_answers {m : Master} : Answers true s (execCltFind m s) := by
  refine .next (.cltCmd (.refl s) fun u h => ?_)
  dsimp only
  split
  · exact h.set.cltDone
  · exact h.cltDone

theorem Keeps.clientPlace {i : Nat} {e : ClientEntry} (h : Keeps s₀ s) : Keeps s₀ (s.clientPlace i e).2 := by
  unfold State.clientPlace
  split
  · split
    · exact h
    · exact .same h (by rfl)
  · exact .ite2 h h

theorem Keeps.addCar {c : ℕ} {f : ℕ → Carriage} (h : Keeps s₀ s) : Keeps s₀ (State.addCar s c f) :=
  h.takeFree.putCoach

theorem Keeps.demand {c : ℕ} (h : Keeps s₀ s) : Keeps s₀ (State.demand s c) :=
  h.putCoach

theorem Keeps.addTimed {port : ℕ} {client : ℕ} {place : ℕ} {ent : Option ClientEntry} {kind : TtKind} {t : ℤ} (h : Keeps s₀ s) : Keeps s₀ (State.addTimed s port client place ent kind t) :=
  h.demand.addCar

theorem execCltCancel_answers {m : Master} : Answers true s (execCltCancel m s) :=
  .next (.cltCmd (Keeps.refl s) (fun _ h1 => by split; exacts [.cltDone (.bumpBy (.writeEntry (.ite h1.clientPlace h1.clientPlace.addTimed))), h1.cltDone]))

theorem Keeps.chainOut {i : ℕ} {e : ClientEntry} (h : Keeps s₀ s) : Keeps s₀ (State.chainOut s i e) :=
  (h.same (by rfl))

theorem execCltWrite_answers {m : Master} : Answers true s (execCltWrite m s) :=
  .next (.cltCmd (Keeps.refl s) (fun _ h1 => by split; exacts [.ite h1.cltDone (.ite h1.cltDone (.cltDone (.showClt (.syncRecs (.writeEntry (.ite h1 h1.chainOut.chainIn)))))), h1.cltDone]))

theorem Keeps.buildNext (h : Keeps s₀ s) : Keeps s₀ (State.buildNext s) := by
  unfold State.buildNext
  split
  · exact .ite h (.showClt (.foldl h.putWheel fun _ _ h1 => .ite h1.syncRecs h1))
  · exact h

theorem execRebuild_answers {m : Master} {coach : Nat} : Answers true s (execRebuild m coach s) := by
  refine .next (.hostCmd (.refl s) fun u h => .buildNext ?_)
  have busy : Keeps s (u.set R.TTB_CMD_STATUS 1) := h.set
  generalize u.set R.TTB_CMD_STATUS 1 = t at busy
  exact .same busy (by rfl)

theorem Keeps.writeSwitchCmd {m : Master} {slot : ℕ} {v : Word} {a : Arrival} (h : Keeps s₀ s) : Keeps s₀ (State.writeSwitchCmd s m slot v a) :=
  .ite (by split; exacts [.settle h execAddStatic_answers, .settle h execFdbDelete_answers, .settle h execFdbRead_answers, .settle h execFlushLearned_answers, .settle h execFlushPort_answers, h.noOp]) (.ite (by split; exacts [.settle h execCltAdd_answers, .settle h execCltDelete_answers, .settle h execCltRead_answers, .settle h execCltFind_answers, .settle h execCltCancel_answers, .settle h execCltWrite_answers, h.noOp]) (.ite (.ite (.settle h execRebuild_answers) h.noOp) h.plainWrite))

theorem Keeps.keyDone {m : Master} {st : Nat} (h : Keeps s₀ s) : Keeps s₀ (s.keyDone m st) := h.keySet.raise

theorem Keeps.writePend {m : Master} {slot key : Nat} (h : Keeps s₀ s) : Keeps s₀ (s.writePend m slot key) := h.putSlotK.keyDone

/-- A command of a key slot is under way. -/
theorem Keeps.running {c : Option KeyCmd} (h : Keeps s₀ s) : Keeps s₀ { s with key := { s.key with running := c } } := .same h (by rfl)

theorem Keeps.startCommit {c : KeyCmd} {slot : Nat} (h : Keeps s₀ s) : Keeps s₀ (s.startCommit c slot) := by
  unfold State.startCommit
  dsimp only
  split
  · have recorded : ∀ (b : Bool) n w, Keeps s₀ (if b then (s.keyRec slot 7 n 1).writeKeyRec w c.nvOk else (s.keyRec slot 7 n 1, true)).1 := fun _ _ _ =>
      .ite1 h.keyRec.nvWrite h.keyRec
    exact .ite h.keyDone (.ite h.keyDone (.ite h.keyDone (.ite (recorded _ _ _).running (recorded _ _ _).keyDone)))
  · exact h.keyDone

theorem Keeps.startErase {c : KeyCmd} {slot : Nat} (h : Keeps s₀ s) : Keeps s₀ (s.startErase c slot) := by
  have recorded : ∀ (b : Bool) w, Keeps s₀ (if b then (s.keyRec slot 10 0 1).writeKeyRec w c.nvOk else (s.keyRec slot 10 0 1, true)).1 := fun _ _ =>
    .ite1 h.keyRec.nvWrite h.keyRec
  exact .ite h.keyDone (.ite (recorded _ _).running (recorded _ _).keyDone)

theorem Keeps.putBuf {m : Master} {ws : List Word} (h : Keeps s₀ s) : Keeps s₀ (s.putBuf m ws) := .foldl h fun _ _ h1 => h1.putMst

theorem Keeps.mintCookies {m : Master} {slot : Nat} (h : Keeps s₀ s) : Keeps s₀ (s.mintCookies m slot) := by
  unfold State.mintCookies
  dsimp only
  split
  · exact h.keyDone
  · exact h.keyDone
  · refine .ite h.keyDone (.keyDone (.bumpBy (.putBuf ?_)))
    exact List.foldlRecOn (motive := fun r : List Word × State => Keeps s₀ r.2) _ _ h fun _ hr _ _ => hr.drbg

theorem Keeps.keyExec {c : KeyCmd} (h : Keeps s₀ s) : Keeps s₀ (s.keyExec c) := by
  have done : ∀ m st, Keeps s₀ (s.keyDone m st) := fun _ _ => h.keyDone
  have put : ∀ m st slot x, Keeps s₀ ((s.putSlotK slot x).keyDone m st) := fun _ _ _ _ => h.putSlotK.keyDone
  have pend : ∀ m slot key, Keeps s₀ (s.writePend m slot key) := fun _ _ _ => h.writePend
  unfold State.keyExec
  dsimp only
  refine .ite (done _ _) (.ite (done _ _) (.ite (done _ _) ?_))
  split
  · exact .ite (done _ _) (.ite (done _ _) (put _ _ _ _))
  · split
    · exact h.drbg.writePend
    · exact done _ _
  · refine .ite (done _ _) (.ite ?_ ?_)
    · split
      · exact pend _ _ _
      · exact done _ _
    · split
      · exact pend _ _ _
      · exact done _ _
  · exact .ite (done _ _) (.ite (done _ _) (pend _ _ _))
  · refine .ite (done _ _) ?_
    split
    · exact done _ _
    · split
      · exact .ite (pend _ _ _) (done _ _)
      · exact done _ _
  · split
    · exact done _ _
    · exact .ite (put _ _ _ _) (put _ _ _ _)
  · exact h.startCommit
  · exact put _ _ _ _
  · exact .ite (put _ _ _ _) (done _ _)
  · exact h.startErase
  · exact h.mintCookies
  · exact .ite (done _ _) (.ite (done _ _) h.keyLoadAll.keyDone)
  · exact done _ _

theorem Keeps.keyRun {l : List KeyCmd} (h : Keeps s₀ s) : Keeps s₀ (s.keyRun l) := by
  induction l generalizing s with
  | nil => exact .same h (by rfl)
  | cons c l ih => exact .ite (.same h (by rfl)) (ih h.keyExec)

theorem Keeps.keyAsk {c : KeyCmd} (h : Keeps s₀ s) : Keeps s₀ (State.keyAsk s c) :=
  .hostWrite h (fun _ h1 => .ite h1.wcReject h1.keySet.keyRun)

theorem execKeyCreate_answers {m : Master} : Answers true s (execKeyCreate m s) :=
  .next (Keeps.refl s).keyAsk

theorem execKeyGenerate_answers {m : Master} : Answers true s (execKeyGenerate m s) :=
  .next (Keeps.refl s).keyAsk

theorem execKeyDerive_answers {m : Master} {src : ℕ} : Answers true s (execKeyDerive m src s) :=
  .next (Keeps.refl s).keyAsk

theorem execKeyImport_answers {m : Master} : Answers true s (execKeyImport m s) :=
  .next (Keeps.refl s).keyAsk

theorem execKeyUnwrap_answers {m : Master} {src : ℕ} : Answers true s (execKeyUnwrap m src s) :=
  .next (Keeps.refl s).keyAsk

theorem execKeyVerify_answers {m : Master} {check : Bool} {agree : Bool} : Answers true s (execKeyVerify m check agree s) :=
  .next (Keeps.refl s).keyAsk

theorem execKeyCommit_answers {m : Master} {nvOk : Bool} {ack : ℕ} : Answers true s (execKeyCommit m nvOk ack s) :=
  .next (Keeps.refl s).keyAsk

theorem execKeyDiscard_answers {m : Master} : Answers true s (execKeyDiscard m s) :=
  .next (Keeps.refl s).keyAsk

theorem execKeyRevoke_answers {m : Master} : Answers true s (execKeyRevoke m s) :=
  .next (Keeps.refl s).keyAsk

theorem execKeyErase_answers {m : Master} {nvOk : Bool} : Answers true s (execKeyErase m nvOk s) :=
  .next (Keeps.refl s).keyAsk

theorem execKeyMint_answers {m : Master} : Answers true s (execKeyMint m s) :=
  .next (Keeps.refl s).keyAsk

theorem execKeyReload_answers {m : Master} : Answers true s (execKeyReload m s) :=
  .next (Keeps.refl s).keyAsk

theorem Keeps.writeKeyCmd {m : Master} {v : Word} {a : Arrival} (h : Keeps s₀ s) : Keeps s₀ (State.writeKeyCmd s m v a) := by
  unfold State.writeKeyCmd
  split
  · exact .settle h execKeyCreate_answers
  · exact .settle h execKeyGenerate_answers
  · exact .settle h execKeyDerive_answers
  · exact .settle h execKeyImport_answers
  · exact .settle h execKeyUnwrap_answers
  · exact .settle h execKeyVerify_answers
  · exact .settle h execKeyCommit_answers
  · exact .settle h execKeyDiscard_answers
  · exact .settle h execKeyRevoke_answers
  · exact .settle h execKeyErase_answers
  · exact .settle h execKeyMint_answers
  · exact .settle h execKeyReload_answers
  · exact h.keyAsk

theorem Keeps.lcyDone {st : ℕ} (h : Keeps s₀ s) : Keeps s₀ (State.lcyDone s st) :=
  h.set.raise

theorem Keeps.putConfirm {m : Master} {c : Confirm} (h : Keeps s₀ s) : Keeps s₀ (State.putConfirm s m c) := by
  unfold State.putConfirm
  split
  · exact (h.same (by rfl))
  · exact (h.same (by rfl))
  · exact (h.same (by rfl))

theorem Keeps.lcyAsk {m : Master} {us : ℕ} {froms : List ℕ} {new : ℕ} {mode : ℕ} {slot : ℕ} {bad : Bool} (h : Keeps s₀ s) : Keeps s₀ (State.lcyAsk s m us froms new mode slot bad) :=
  .hostCmd h (fun _ h1 => .ite h1.lcyDone (.bind h1.putConfirm fun h2 => .ite h2.lcyDone (.ite h2.lcyDone (.ite h2.lcyDone (h2.same (by rfl)).set))))

theorem execLcyProvision_answers {m : Master} {mode : ℕ} {slot : ℕ} {us : ℕ} : Answers true s (execLcyProvision m mode slot us s) :=
  .next (Keeps.refl s).lcyAsk

theorem execLcyDeploy_answers {m : Master} {us : ℕ} : Answers true s (execLcyDeploy m us s) :=
  .next (Keeps.refl s).lcyAsk

theorem execLcyReturn_answers {m : Master} {us : ℕ} : Answers true s (execLcyReturn m us s) :=
  .next (Keeps.refl s).lcyAsk

theorem execLcyDisable_answers {m : Master} {us : ℕ} : Answers true s (execLcyDisable m us s) :=
  .next (Keeps.refl s).lcyAsk

theorem Keeps.attDone {st : ℕ} (h : Keeps s₀ s) : Keeps s₀ (State.attDone s st) :=
  h.set.raise

theorem Keeps.attest {now : ℕ} (h : Keeps s₀ s) : Keeps s₀ (State.attest s now) :=
  (h.same (by rfl)).set.bump.attDone

theorem execStatement_answers {m : Master} : Answers true s (execStatement m s) :=
  .next (.hostCmd (Keeps.refl s) (fun _ h1 => .ite h1.attDone (.ite h1.attDone (.ite h1.attDone (.ite h1.attDone (.ite h1.attDone (.ite h1.attest (h1.same (by
    rfl)).set)))))))

theorem execLcyConfirm_answers {m : Master} {w : Word} {us : Nat} : Answers true s (execLcyConfirm m w us s) := by
  refine .next (.hostWrite (.refl s) fun u h => .ite h.putConfirm ?_)
  dsimp only
  split
  · exact .ite h.putConfirm h.putConfirm
  · exact h.putConfirm

theorem execKeyDataAccess_answers {m : Master} {w : Option Word} : Answers true s (execKeyDataAccess m w s) := by
  unfold execKeyDataAccess
  refine .next ?_
  cases w with
  | some v => exact .hostWrite (.refl s) fun _ h => h.putMst.keySet
  | none => exact .ite (.refl s) (.ite (Keeps.refl s).accessErr.putMst (Keeps.refl s).putMst.keySet)

theorem Keeps.writeVaultCmd {m : Master} {slot : ℕ} {v : Word} {a : Arrival} (h : Keeps s₀ s) : Keeps s₀ (State.writeVaultCmd s m slot v a) :=
  .ite h.writeKeyCmd (.ite (by split; exacts [.settle h execLcyProvision_answers, .settle h execLcyDeploy_answers, .settle h execLcyReturn_answers, .settle h execLcyDisable_answers, h.noOp]) (.ite (.ite (.settle h execStatement_answers) h.noOp) (.ite (.settle h execLcyConfirm_answers) (.ite (.settle h execKeyDataAccess_answers) h.plainWrite))))

theorem execRecover_answers {m : Master} {donor : ℕ} : Answers true s (execRecover m donor s) :=
  .next (.hostCmd (Keeps.refl s) (fun _ h1 => .ite h1.set (.ite h1.set (h1.same (by rfl)).set)))

theorem Keeps.setRej {v : ℤ} {st : ℕ} (h : Keeps s₀ s) : Keeps s₀ (State.setRej s v st) :=
  h.set.trig

theorem Keeps.showStepPend (h : Keeps s₀ s) : Keeps s₀ (State.showStepPend s) :=
  h.setFlag

theorem execVoteSet_answers {m : Master} : Answers true s (execVoteSet m s) :=
  .next (.hostCmd (Keeps.refl s) (fun _ h1 => .ite h1.setRej (.ite h1.setRej (h1.same (by rfl)).set.showStepPend)))

theorem Keeps.stepRej {amount : ℤ} (h : Keeps s₀ s) : Keeps s₀ (State.stepRej s amount) :=
  h.raise.trig

theorem Keeps.dropHostSteps (h : Keeps s₀ s) : Keeps s₀ (State.dropHostSteps s) :=
  .showStepPend (.foldl (h.same (by rfl)) fun _ _ h1 => h1.stepRej)

theorem execCancelStep_answers {m : Master} : Answers true s (execCancelStep m s) :=
  .next (.hostCmd (Keeps.refl s) (fun _ h1 => .ite h1.dropHostSteps.set h1.set))

theorem Keeps.showDisc (h : Keeps s₀ s) : Keeps s₀ (State.showDisc s) :=
  have h1 := h.setFlag
  .ite h1.setFlag h1

theorem Keeps.setCell {st : ℕ} (h : Keeps s₀ s) : Keeps s₀ (State.setCell s st) :=
  .ite h (.bind (.raise (.set (.ite h.setEfc h))) fun h1 => .bind (.ite (h1.same (by rfl)) h1) fun h2 => .oscRec (.lineSet (.showDisc (.ite h2.setFlag.level h2))))

theorem execCellRestart_answers {m : Master} : Answers true s (execCellRestart m s) := by
  refine .next (.hostCmd (.refl s) fun u h => ?_)
  have done : Keeps s (u.set R.VOTE_CELL_CMD_STATUS 2) := h.set
  dsimp only
  generalize u.set R.VOTE_CELL_CMD_STATUS 2 = t at done
  exact .ite (.setCell (.same done (by rfl))) done

theorem execCellStop_answers {m : Master} : Answers true s (execCellStop m s) :=
  .next (.hostCmd (Keeps.refl s) (fun _ h1 => h1.set.setCell))

theorem Keeps.hostStep {d : ℤ} (h : Keeps s₀ s) : Keeps s₀ (State.hostStep s d) :=
  .ite h.stepRej (h.same (by rfl)).showStepPend

theorem Keeps.writeS72 {m : Master} {a : ℕ} {low : Word} (h : Keeps s₀ s) : Keeps s₀ (State.writeS72 s m a low) :=
  h.wrS.clearStaged

theorem execHostStepSubmit_answers {m : Master} {low : Word} : Answers true s (execHostStepSubmit m low s) :=
  .next (.hostWrite (Keeps.refl s) (fun _ h1 => h1.writeS72.hostStep))

theorem execUtcOffsetWrite_answers {m : Master} {v : Word} : Answers true s (execUtcOffsetWrite m v s) :=
  .next (.hostWrite (Keeps.refl s) (fun _ h1 => (h1.same (by rfl))))

theorem Keeps.setLeapPend {b : Bool} (h : Keeps s₀ s) : Keeps s₀ (State.setLeapPend s b) :=
  .ite h h.setFlag.level

theorem Keeps.leapKind {k : ℕ} (h : Keeps s₀ s) : Keeps s₀ (State.leapKind s k) :=
  .ite h.raise (.ite h.set.setLeapPend h.set)

theorem execLeapSchedule_answers {m : Master} {v : Word} : Answers true s (execLeapSchedule m v s) :=
  .next (.hostWrite (Keeps.refl s) (fun _ h1 => h1.set.leapKind))

theorem Keeps.selAsk {m : Master} {q : SelReq} (h : Keeps s₀ s) : Keeps s₀ (State.selAsk s m q) :=
  .hostCmd h (fun _ h1 => (h1.same (by rfl)).set)

theorem execSelSwitch_answers {m : Master} {slot : ℕ} : Answers true s (execSelSwitch m slot s) :=
  .next (Keeps.refl s).selAsk

theorem execSelHoldover_answers {m : Master} : Answers true s (execSelHoldover m s) :=
  .next (Keeps.refl s).selAsk

theorem execSelRelease_answers {m : Master} : Answers true s (execSelRelease m s) :=
  .next (Keeps.refl s).selAsk

theorem Keeps.putSlot {k : ℕ} {c : CandSlot} (h : Keeps s₀ s) : Keeps s₀ (State.putSlot s k c) :=
  (h.same (by rfl))

theorem Keeps.wtrEnd {k : ℕ} (h : Keeps s₀ s) : Keeps s₀ (State.wtrEnd s k) :=
  h.set.set.putSlot.raise

theorem execSelClearWtr_answers {m : Master} {slot : ℕ} : Answers true s (execSelClearWtr m slot s) :=
  .next (.hostCmd (Keeps.refl s) (fun _ h1 => .set (.ite h1.wtrEnd h1)))

theorem execLockoutWrite_answers {m : Master} {v : Word} : Answers true s (execLockoutWrite m v s) :=
  .next (.hostWrite (Keeps.refl s) (fun _ h1 => (h1.same (by rfl)).set))

theorem execSteerSubmit_answers {m : Master} {low : Word} : Answers true s (execSteerSubmit m low s) :=
  .next (.hostWrite (Keeps.refl s) (fun _ h1 => .ite h1.clearStaged.raise (h1.writeS72.same (by rfl))))

/-- The words of a core's copy are put into the store one by one, as writes. -/
theorem putCoreRegs_wf (r img : Store) (w : r.wf = true) : (putCoreRegs r img).wf = true :=
  List.foldlRecOn (motive := fun m : Store => m.wf = true) _ _ w fun m hm e _ => by
    split
    · exact Store.wf_write _ _ _ hm
    · exact hm

/-- Other words in the store in force, which keep it canonical, and nothing else of what is kept. -/
theorem Keeps.regs (h : Keeps s₀ s) (w : s.regs.wf = true → u.regs.wf = true) (e : u.left.2 = s.kept.2) : Keeps s₀ u := by
  rw [State.left_eq] at e
  simp only [Prod.mk.injEq] at e
  obtain ⟨shadow, staging, fuses, pending⟩ := e
  refine ⟨fun hz => ?_, fun k => ?_, pending.trans h.pending⟩
  · obtain ⟨hr, hsh, hst⟩ := h.wf hz
    exact ⟨w hr, shadow ▸ hsh, staging ▸ hst⟩
  · rw [fuses]
    exact h.fuses k

theorem Keeps.withImg {i : CoreImg} (h : Keeps s₀ s) : Keeps s₀ (s.withImg i) := .regs h (putCoreRegs_wf _ _) (by rfl)

theorem Keeps.setImgs {d : ℕ} {f : ℕ → CoreImg} (h : Keeps s₀ s) : Keeps s₀ (State.setImgs s d f) :=
  (h.withImg.same (by rfl))

theorem Keeps.perCore {m : State → State} (h : Keeps s₀ s) (hm : ∀ u, Keeps s₀ u → Keeps s₀ (m u)) : Keeps s₀ (s.perCore m) := by
  unfold State.perCore
  split
  · exact hm _ h
  · exact (hm _ h).setImgs

theorem Keeps.asCore {k : ℕ} (h : Keeps s₀ s) : Keeps s₀ (State.asCore s k) := by
  unfold State.asCore
  split
  · exact h
  · exact h.withImg

theorem Keeps.perLive {m : State → State} (h : Keeps s₀ s) (hm : ∀ u, Keeps s₀ u → Keeps s₀ (m u)) : Keeps s₀ (s.perLive m) :=
  .ite (h.perCore hm) (hm _ h).setImgs

theorem Keeps.putFeedCtrl {v : Word} (h : Keeps s₀ s) : Keeps s₀ (State.putFeedCtrl s v) :=
  have h1 := h.set.set
  .ite h1 (h1.same (by rfl)).set.raise

theorem execHostFeedMode_answers {m : Master} {v : Word} : Answers true s (execHostFeedMode m v s) :=
  .next (.hostWrite (Keeps.refl s) (fun _ h1 => .bind (.perLive h1 (fun _ h2 => h2.putFeedCtrl)) fun h2 => .ite h2 (h2.same (by rfl)).trig))

theorem Keeps.sendFeed {f : FeedSample} (h : Keeps s₀ s) : Keeps s₀ (State.sendFeed s f) :=
  .ite (.perCore h (fun _ h1 => (h1.same (by rfl)))) (h.same (by rfl)).setImgs

theorem execHostOffsetSubmit_answers {m : Master} {low : Word} {tick : ℕ} : Answers true s (execHostOffsetSubmit m low tick s) :=
  .next (.hostWrite (Keeps.refl s) (fun _ h1 => .ite (.perLive h1.clearStaged (fun _ h2 => h2.bump)) (.sendFeed (.perLive h1.clearStaged (fun _ h2 => .bind
    h2.wrS fun h3 => .same (.ite h3 h3.bump) (by rfl))))))

theorem Keeps.surveyClear (h : Keeps s₀ s) : Keeps s₀ (State.surveyClear s) :=
  (h.same (by rfl)).set.set

theorem execColdStart_answers {m : Master} : Answers true s (execColdStart m s) :=
  .next (.hostCmd (Keeps.refl s) (fun _ h1 => .ite (h1.same (by rfl)).surveyClear.searchAll.set h1.set))

theorem execClearSuspect_answers {m : Master} : Answers true s (execClearSuspect m s) :=
  .next (.hostCmd (Keeps.refl s) (fun _ h1 => (h1.same (by rfl)).set))

theorem execResurvey_answers {m : Master} : Answers true s (execResurvey m s) :=
  .next (.hostCmd (Keeps.refl s) (fun _ h1 => .ite h1.surveyClear.set h1.set))

theorem execCodeOpen_answers {m : Master} : Answers true s (execCodeOpen m s) :=
  .next (.hostCmd (Keeps.refl s) (fun _ h1 => .ite h1.set (.ite h1.set (h1.same (by rfl)).set)))

theorem execCodeClose_answers {m : Master} : Answers true s (execCodeClose m s) := by
  unfold execCodeClose
  refine .next ?_
  exact .hostCmd (Keeps.refl s) (fun _ h1 => .ite h1.set (by split; exacts [h1.set, .bind (h1.same (by rfl)) fun h2 => .ite h2.set h2.installCode.set]))

theorem execCodeDataWrite_answers {m : Master} {w : Word} : Answers true s (execCodeDataWrite m w s) :=
  .next (.hostWrite (Keeps.refl s) (fun _ h1 => (h1.same (by rfl))))

theorem Keeps.dugRec {ev : Option ℕ} {n : ℕ} (h : Keeps s₀ s) : Keeps s₀ (State.dugRec s ev n) := by
  unfold State.dugRec
  split
  · exact h.trig
  · exact h.takeFree.trig

theorem Keeps.startHandover {n : ℕ} {now : ℤ} (h : Keeps s₀ s) : Keeps s₀ (State.startHandover s n now) := by
  unfold State.startHandover
  extract_lets _ _ t2 t3
  have h2 : Keeps s₀ t2 := (h.same (by rfl))
  have h3 : Keeps s₀ t3 := h2.wrT.dugSendAll
  exact h3.dugRec

theorem execHandover_answers {m : Master} {dest tick : Nat} : Answers true s (execHandover m dest tick s) := by
  refine .next (.hostCmd (.refl s) fun u h => .ite h.set ?_)
  dsimp only
  split
  · exact h.set.startHandover
  · exact h.set

theorem Keeps.putImg {k : ℕ} {i : CoreImg} (h : Keeps s₀ s) : Keeps s₀ (State.putImg s k i) :=
  h.setImgs

theorem Keeps.showCore {d : ℕ} (h : Keeps s₀ s) : Keeps s₀ (State.showCore s d) :=
  .ite h h.setImgs

theorem Keeps.abortFrame {f : SwFrame} (h : Keeps s₀ s) : Keeps s₀ (State.abortFrame s f) := by
  unfold State.abortFrame
  extract_lets _
  split
  · exact h
  · extract_lets _ t2 _
    have h2 : Keeps s₀ t2 := h.putSwFrame
    clear_value t2
    exact (h2.same (by rfl))

theorem Keeps.abortInput {c : ℕ} (h : Keeps s₀ s) : Keeps s₀ (State.abortInput s c) :=
  .putCoach (.foldl h fun _ _ h1 => h1.abortFrame)

theorem Keeps.resetCoach {c : ℕ} (h : Keeps s₀ s) : Keeps s₀ (State.resetCoach s c) :=
  .same (.foldl h.abortInput fun _ _ h1 => h1.unpin) (by rfl)

theorem Keeps.resetPart {i : ℕ} (h : Keeps s₀ s) : Keeps s₀ (State.resetPart s i) :=
  .ite (h.same (by rfl)) (.ite (h.putImg.same (by rfl)) (.ite (h.showCore.same (by rfl)) (.ite (.same (.ite h.lineOn h) (by rfl)) (.ite (h.same (by rfl)) (.ite
    h.resetCoach (.ite (h.same (by rfl)) (.ite (h.same (by rfl)) h)))))))

theorem Keeps.showFences (h : Keeps s₀ s) : Keeps s₀ (State.showFences s) :=
  .lineSet (.ite h h.level)

theorem Keeps.healIsland {i : ℕ} (h : Keeps s₀ s) : Keeps s₀ (State.healIsland s i) :=
  (h.same (by rfl)).healLinks

/-- Pages put back to their reset words, and nothing else of what is kept. -/
theorem Keeps.resetPages {p : Nat → Bool} (h : Keeps s₀ s) (regs : u.regs = s.regs.resetPages p) (shadow : u.shadow = s.shadow.resetPages p)
    (staging : u.staging = s.staging.resetPages p) (fuses : u.key.fuses = s.key.fuses) (pending : u.pending = s.pending) : Keeps s₀ u := by
  refine ⟨fun hz => ?_, fun k => ?_, pending.trans h.pending⟩
  · obtain ⟨hr, hsh, hst⟩ := h.wf hz
    unfold RegsWf
    rw [regs, shadow, staging]
    exact ⟨Store.wf_resetPages _ _ hr, Store.wf_resetPages _ _ hsh, Store.wf_resetPages _ _ hst⟩
  · rw [fuses]
    exact h.fuses k

theorem Keeps.resetIslands {mask : Nat} (h : Keeps s₀ s) : Keeps s₀ (s.resetIslands mask) := by
  have parts : Keeps s₀ (((List.range 16).filter (fun i => bitOn mask i)).foldl State.resetPart s) := .foldl h fun _ _ h1 => h1.resetPart
  refine .foldl (.ite ?_ ?_) fun _ _ h1 => h1.healIsland
  · exact .showFences (.set (.set (.wr (.resetPages parts rfl rfl rfl rfl rfl))))
  · exact .set (.set (.wr (.resetPages parts rfl rfl rfl rfl rfl)))

theorem Keeps.endDual (h : Keeps s₀ s) : Keeps s₀ (State.endDual s) :=
  .ite h.set.level.lineOff h

theorem Keeps.showReady (h : Keeps s₀ s) : Keeps s₀ (State.showReady s) :=
  .ite h h.setFlag.raise

theorem Keeps.showFollow (h : Keeps s₀ s) : Keeps s₀ (State.showFollow s) := by
  unfold State.showFollow
  extract_lets _ t2 t3 _
  have h2 : Keeps s₀ t2 := h.setFlag
  clear_value t2
  have h3 : Keeps s₀ t3 := .perCore h2 (fun _ h2 => (h2.same (by rfl)))
  clear_value t3
  refine .ite ?_ ?_
  · exact h
  · refine .ite ?_ ?_
    · exact (h3.same (by rfl))
    · exact h2

theorem Keeps.setRole {r : ℕ} (h : Keeps s₀ s) : Keeps s₀ (State.setRole s r) :=
  .ite h (.bind h.set.lineSet fun h1 => .bind (.ite h1.set h1.endDual) fun h2 => .showReady (.showFollow (.trig (.raise (.takeFree (.takeFree (.ite h2.set h2)))))))

theorem execSleep_answers {m : Master} : Answers true s (execSleep m s) := by
  refine .next (.hostCmd (.refl s) fun u h => .ite h.set ?_)
  extract_lets t1 t2 t3 _ _ t4
  have h1 : Keeps s t1 := .foldl h fun _ _ h => h.endOut
  clear_value t1
  have h2 : Keeps s t2 := .foldl h1 fun _ _ h => h.goOff
  clear_value t2
  have h3 : Keeps s t3 := h2.flushQueues.resetIslands
  clear_value t3
  have h4 : Keeps s t4 := .same h3 (by rfl)
  clear_value t4
  exact h4.setRole.set

theorem execWake_answers {m : Master} : Answers true s (execWake m s) :=
  .next (.hostCmd (Keeps.refl s) (fun _ h1 => .ite h1.set (h1.same (by rfl)).set))

theorem Keeps.takeMoves {o : ℕ} {room : ℤ} (h : Keeps s₀ s) : Keeps s₀ (State.takeMoves s o room) :=
  h.putOut.setMisalign

theorem execOutRealign_answers {m : Master} {clk : ℕ} {pulse : ℕ} {tick : ℕ} : Answers true s (execOutRealign m clk pulse tick s) :=
  .next (.hostCmd (Keeps.refl s) (fun _ h1 => .foldl h1.set fun _ _ h2 => .ite (.bind h2.putOut fun h3 => .ite h3.setFlag (.ite h3.takeMoves h3)) h2))

theorem Keeps.writeTimePart {m : Master} {slot : ℕ} {v : Word} {a : Arrival} (h : Keeps s₀ s) : Keeps s₀ (State.writeTimePart s m slot v a) :=
  .ite (by split; exacts [.settle h execRecover_answers, .settle h execVoteSet_answers, .settle h execCancelStep_answers, h.noOp]) (.ite (by split; exacts [.settle h execCellRestart_answers, .settle h execCellStop_answers, h.noOp]) (.ite (.settle h execHostStepSubmit_answers) (.ite (.settle h execUtcOffsetWrite_answers) (.ite (.settle h execLeapSchedule_answers) (.ite (by split; exacts [.settle h execSelSwitch_answers, .settle h execSelHoldover_answers, .settle h execSelRelease_answers, .settle h execSelClearWtr_answers, h.noOp]) (.ite (.settle h execLockoutWrite_answers) (.ite (.settle h execSteerSubmit_answers) (.ite (.settle h execHostFeedMode_answers) (.ite (.settle h execHostOffsetSubmit_answers) (.ite (by split; exacts [.settle h execColdStart_answers, .settle h execClearSuspect_answers, .settle h execResurvey_answers, .settle h execCodeOpen_answers, .settle h execCodeClose_answers, h.noOp]) (.ite (.settle h execCodeDataWrite_answers) (.ite (by split; exacts [.settle h execHandover_answers, .settle h execSleep_answers, .settle h execWake_answers, h.noOp]) (.ite (.settle h execOutRealign_answers) (.ite (.perLive h (fun _ h1 => h1.plainWrite)) h.plainWrite))))))))))))))

theorem Keeps.regWrite {m : Master} {slot : ℕ} {v : Word} {a : Arrival} (h : Keeps s₀ s) : Keeps s₀ (State.regWrite s m slot v a) :=
  .ite h.plainWrite (.ite h.writeLow (.ite h.writeUnit (.ite h.writeSwitchCmd (.ite h.writeVaultCmd h.writeTimePart))))

theorem Keeps.applyEntries {p : ℕ → Bool} (h : Keeps s₀ s) : Keeps s₀ (State.applyEntries s p) := by
  unfold State.applyEntries
  extract_lets _ _ _ _ t2 t3 _ _
  have h2 : Keeps s₀ t2 := (h.same (by rfl))
  have h3 : Keeps s₀ t3 := .foldl h2 fun _ _ h2 => .ite h2.regWrite h2
  clear_value t3
  exact (h3.same (by rfl))

theorem execImageApply_answers {cals : List CalResult} {temp : ℤ} : Answers true s (execImageApply cals temp s) :=
  .next (.ite (Keeps.refl s) (Keeps.refl s).applyEntries.applyCode.gnsGo.startCals.goto)

theorem Keeps.stageRec {old : State} (h : Keeps s₀ s) : Keeps s₀ (State.stageRec s old) :=
  h.trig

theorem Keeps.enterStage {n : ℕ} (h : Keeps s₀ s) : Keeps s₀ (State.enterStage s n) :=
  h.set.raise.stageRec

theorem Keeps.refuseFld {old : Store} {f : Fld} {bad : Bool} {evt : Option ℕ} (h : Keeps s₀ s) : Keeps s₀ (State.refuseFld s old f bad evt) :=
  .ite h (.bind h.set fun h1 => by split; exacts [h1.raise, h1])

theorem Keeps.fcCommit {p : ℕ} (h : Keeps s₀ s) : Keeps s₀ (State.fcCommit s p) :=
  h.setFlag.putPort.raiseIf

theorem Keeps.goDown {p : ℕ} {cut : List TxRef} (h : Keeps s₀ s) : Keeps s₀ (State.goDown s p cut) :=
  .setFlag (.set (.setLink (.ite (.bump (.flushPort (.foldl h fun _ _ h1 => h1.cutTx))) h)))

theorem Keeps.portCommit {old : State} {p : ℕ} {cuts : List TxRef} (h : Keeps s₀ s) : Keeps s₀ (State.portCommit s old p cuts) := by
  unfold State.portCommit
  extract_lets t2 _ _ t3 _
  have h2 : Keeps s₀ t2 := h.fcCommit
  have h3 : Keeps s₀ t3 := h2.goDown
  clear_value t3
  refine .ite ?_ ?_
  · exact .ite h2 h2.goOff
  · refine .ite ?_ ?_
    · exact (h3.same (by rfl))
    · exact .ite h2.goDown h2

theorem Keeps.commitPort {old : Store} {cuts : List (ℕ × TxRef)} {p : ℕ} (h : Keeps s₀ s) : Keeps s₀ (State.commitPort s old cuts p) :=
  h.refuseFld.portCommit

theorem Keeps.setGear {c : ℕ} {g : ℕ} (h : Keeps s₀ s) : Keeps s₀ (State.setGear s c g) :=
  .ite h h.putCoach.set.raise.bump

theorem Keeps.clampGear {c : ℕ} (h : Keeps s₀ s) : Keeps s₀ (State.clampGear s c) :=
  h.setGear

theorem Keeps.commitCoach {old : Store} {c : ℕ} (h : Keeps s₀ s) : Keeps s₀ (State.commitCoach s old c) :=
  .set (.clampGear (.foldl h.refuseFld.refuseFld fun _ _ h1 => h1.refuseFld.refuseFld))

theorem Keeps.commitCoaches {old : Store} {cuts : List (ℕ × TxRef)} {mask : ℕ} (h : Keeps s₀ s) : Keeps s₀ (State.commitCoaches s old cuts mask) :=
  .foldl h fun _ _ h1 => .ite h1 (.foldl h1.commitCoach fun _ _ h2 => h2.commitPort)

theorem Keeps.commitPolicy {old : Store} {a : ℕ} {logMin : Fld} {logMax : Fld} {durMin : Fld} {durMax : Fld} (h : Keeps s₀ s) : Keeps s₀ (State.commitPolicy s old a logMin logMax durMin durMax) :=
  .ite h.wr h

theorem Keeps.commitPolicies {old : Store} (h : Keeps s₀ s) : Keeps s₀ (State.commitPolicies s old) :=
  h.commitPolicy.commitPolicy.commitPolicy

theorem Keeps.dugRefuse {old : Store} {f : Fld} {bad : Bool} (h : Keeps s₀ s) : Keeps s₀ (State.dugRefuse s old f bad) :=
  .ite h.set.raise h

theorem Keeps.linkOff {n : ℕ} (h : Keeps s₀ s) : Keeps s₀ (State.linkOff s n) :=
  h.set.set.set.lineOff.putPeer

theorem Keeps.showHeart (h : Keeps s₀ s) : Keeps s₀ (State.showHeart s) :=
  h.set.set

theorem Keeps.commitDug {old : Store} (h : Keeps s₀ s) : Keeps s₀ (State.commitDug s old) :=
  .bind (.foldl h.dugRefuse.dugRefuse.dugRefuse fun _ _ h1 => .ite h1 h1.linkOff) fun h1 => .showReady (.showFollow (.showHeart (.ite h1 (.ite (h1.same (by
    rfl)).wrT.set.setRole (h1.same (by rfl)).set.setRole))))

theorem Keeps.refuse {old : Store} {a : ℕ} (h : Keeps s₀ s) : Keeps s₀ (State.refuse s old a) :=
  h.wr

theorem Keeps.commitPll {old : Store} {p : ℕ} (h : Keeps s₀ s) : Keeps s₀ (State.commitPll s old p) :=
  .bind (.ite h.refuse.raise h) fun h1 => .ite h1.pllStart (.ite h1 (.bind (.foldl h1 fun _ _ h2 => h2.endOutAs) fun h2 => .ite h2 h2.pllStart))

theorem Keeps.commitPulse {old : Store} {n : ℕ} (h : Keeps s₀ s) : Keeps s₀ (State.commitPulse s old n) :=
  .bind (.ite h (.bind h.raise fun h1 => .bind h1.refuse fun h2 => .bind h2.refuse fun h3 => .ite h2 (.ite h1.refuse (.ite h3 h3.refuse)))) fun h1 => .ite h1.endOutAs h1

theorem Keeps.commitClk {old : Store} {n : ℕ} (h : Keeps s₀ s) : Keeps s₀ (State.commitClk s old n) :=
  .ite h (.ite (.ite h (.ite h.changeSrc.showBypass h.toBypass)) h.endOutAs)

theorem Keeps.commitComp {old : Store} {o : ℕ} (h : Keeps s₀ s) : Keeps s₀ (State.commitComp s old o) :=
  .bind (.ite h h.setS.raise) fun h1 => .ite h1 (.bind h1.putOut fun h2 => .ite h2.takeMoves h2)

theorem Keeps.showSquelch (h : Keeps s₀ s) : Keeps s₀ (State.showSquelch s) :=
  .foldl h fun _ _ h1 => .ite h1.putOut (.ite h1.putOut h1)

theorem Keeps.commitEn {old : Store} {o : ℕ} (h : Keeps s₀ s) : Keeps s₀ (State.commitEn s old o) :=
  .ite h (.ite h.endOutAs (.ite h.set.lineOff.putOut h))

theorem Keeps.commitOutputs {old : Store} (h : Keeps s₀ s) : Keeps s₀ (State.commitOutputs s old) :=
  .showSquelch (.foldl (.foldl (.foldl (.foldl (.foldl h fun _ _ h1 => h1.commitPll) fun _ _ h1 => h1.commitPulse) fun _ _ h1 => h1.commitClk) fun _ _ h1 =>
    h1.commitComp) fun _ _ h1 => h1.commitEn)

theorem Keeps.showDiffs (h : Keeps s₀ s) : Keeps s₀ (State.showDiffs s) :=
  .foldl h fun _ _ h1 => .ite h1 h1.wrS

theorem Keeps.candFresh {k : ℕ} (h : Keeps s₀ s) : Keeps s₀ (State.candFresh s k) :=
  h.wrS.wr.wr.putSlot

theorem Keeps.wtrStart {k : ℕ} (h : Keeps s₀ s) : Keeps s₀ (State.wtrStart s k) :=
  .ite h.wtrEnd h.set.set.putSlot

theorem Keeps.candEnter {k : ℕ} {new : ℕ} (h : Keeps s₀ s) : Keeps s₀ (State.candEnter s k new) :=
  have h1 := h.set.set.putSlot
  .ite h1.set.putSlot (.bind h1.set fun h2 => .ite h2.wtrStart h2)

theorem Keeps.setCand {k : ℕ} {new : ℕ} {why : ℕ} (h : Keeps s₀ s) : Keeps s₀ (State.setCand s k new why) :=
  .ite h (.bind h.set fun h1 => .bind (.ite h1.set h1) fun h2 => .trig (.raise (.candEnter (.ite h2.bump h2))))

theorem Keeps.commitCand {old : Store} {errs : List ℕ} {k : ℕ} (h : Keeps s₀ s) : Keeps s₀ (State.commitCand s old errs k) :=
  have h1 := h.raiseIf.setFlag.setFlag
  .ite (.ite h1 h1.setCand.candFresh) (.ite h1.candFresh.set.setCand.set (.ite h1.putSlot.setCand h1))

theorem Keeps.commitCands {old : Store} (h : Keeps s₀ s) : Keeps s₀ (State.commitCands s old) := by
  unfold State.commitCands
  extract_lets _
  exact .showDiffs (.foldl h fun _ _ h1 => h1.commitCand)

theorem Keeps.commitGns (h : Keeps s₀ s) : Keeps s₀ (State.commitGns s) :=
  (h.same (by rfl)).showTrack

theorem Keeps.commitBlocks {old : Store} {cuts : List (ℕ × TxRef)} {mask : ℕ} (h : Keeps s₀ s) : Keeps s₀ (State.commitBlocks s old cuts mask) :=
  have h1 := h.commitCoaches
  .bind (.ite h1.commitPolicies h1) fun h2 => .bind (.ite h2.commitCands.commitOutputs.commitDug h2) fun h3 => .ite h3.commitGns h3

theorem Keeps.genRec {bit : ℕ} {num : ℕ} {islands : ℕ} (h : Keeps s₀ s) : Keeps s₀ (State.genRec s bit num islands) :=
  h.trig

/-- A commit empties the staging set and puts the shadowed words in force. -/
theorem Keeps.merged {src : Store} {p : Nat → Bool} (h : Keeps s₀ s) (regs : u.regs = mergeRws s.regs src p) (shadow : u.shadow = s.shadow) (staging : u.staging = [])
    (fuses : u.key.fuses = s.key.fuses) (pending : u.pending = s.pending) : Keeps s₀ u := by
  refine ⟨fun hz => ?_, fun k => ?_, pending.trans h.pending⟩
  · obtain ⟨hr, hsh, -⟩ := h.wf hz
    unfold RegsWf
    rw [regs, shadow, staging]
    exact ⟨mergeRws_wf _ _ _ hr, hsh, Store.wf_nil⟩
  · rw [fuses]
    exact h.fuses k

theorem Keeps.commitSet {src : Store} {num skip : Nat} (h : Keeps s₀ s) : Keeps s₀ (s.commitSet src num skip) := by
  unfold State.commitSet
  extract_lets old out here imgs _ t1 _ _ _
  have h1 : Keeps s₀ t1 := .merged h rfl rfl rfl rfl rfl
  exact h1.setImgs.set.set.wrT.bump.raise.set.genRec

theorem Keeps.placeMc {c : ℕ} (h : Keeps s₀ s) : Keeps s₀ (State.placeMc s c) :=
  .foldl h fun _ _ h1 => h1.set

theorem Keeps.inRh (h : Keeps s₀ s) (k : Keeps s₀ t) : Keeps s₀ (s.inRh t) := .ite k h

theorem Keeps.cellMove {a : ℕ} {b : ℕ} (h : Keeps s₀ s) : Keeps s₀ (State.cellMove s a b) :=
  .inRh h (.ite h.setCell h)

theorem execRollingEntry_answers {us : ℕ} : Answers true s (execRollingEntry us s) :=
  .next (.ite (Keeps.refl s) (.showServings (.refreshFaults (.nvPut (.cellMove (.foldl ((Keeps.refl s).same (by rfl)).enterStage.set.commitSet.commitBlocks fun
    _ _ h1 => h1.placeMc))))))

theorem Keeps.showClass (h : Keeps s₀ s) : Keeps s₀ (State.showClass s) :=
  .ite h h.set.raise

theorem Keeps.judgeValid {lim : ℕ} {hyst : ℕ} (h : Keeps s₀ s) : Keeps s₀ (State.judgeValid s lim hyst) :=
  .ite (.ite h h.setTimeValid.showSquelch) (.ite h.setTimeValid.showSquelch h)

theorem execTimedEntry_answers : Answers true s (execTimedEntry s) :=
  .next (.ite (Keeps.refl s).enterStage.wrT.judgeValid.showClass.showReady (Keeps.refl s))

theorem execSteadyEntry_answers : Answers true s (execSteadyEntry s) :=
  .next (.ite (Keeps.refl s).enterStage.wrT (Keeps.refl s))

theorem Keeps.flushDone {batches : List (List Word)} (h : Keeps s₀ s) : Keeps s₀ (s.flushDone batches) := by
  unfold State.flushDone
  extract_lets done t1
  have h1 : Keeps s₀ t1 := .foldl h fun _ _ h => h.nvPut
  clear_value t1 done
  split
  · exact h1
  · exact .showJournal (.bumpBy (.same h1 (by rfl)))

theorem Keeps.flushRecords (h : Keeps s₀ s) : Keeps s₀ (State.flushRecords s) :=
  h.flushDone

theorem Keeps.aoParts (h : Keeps s₀ s) : Keeps s₀ (State.aoParts s) :=
  (h.same (by rfl))

theorem Keeps.aoReset (h : Keeps s₀ s) : Keeps s₀ s.aoReset :=
  .foldl (.foldl (.regs h (Store.wf_resetPages _ _) (by rfl)) fun _ _ h1 => h1.wr) fun _ _ h1 => h1.wr.wr

theorem Keeps.holdTrigger {t : Trigger} (h : Keeps s₀ s) : Keeps s₀ (State.holdTrigger s t) :=
  .ite (h.same (by rfl)) (h.same (by rfl))

theorem Keeps.resetRecorder {mask : ℕ} (h : Keeps s₀ s) : Keeps s₀ (State.resetRecorder s mask) :=
  .foldl (h.same (by rfl)) fun _ _ h1 => h1.holdTrigger

theorem Keeps.resetAll {mask : ℕ} (h : Keeps s₀ s) : Keeps s₀ (State.resetAll s mask) :=
  .ite h.resetIslands.resetRecorder h.resetIslands

theorem Keeps.resetN (h : Keeps s₀ s) : Keeps s₀ (State.resetN s) :=
  .refreshFaults (.retained (.lineOff (.set (.set (.set (.set (.aoParts (.aoReset (.resetAll (.brakeOn (.ite h h.flushRecords)))))))))))

theorem execResetNAssert_answers : Answers true s (execResetNAssert s) :=
  .next (.ite (Keeps.refl s) (.ite ((Keeps.refl s).same (by rfl)) (Keeps.refl s).resetN))

theorem execResetNRelease_answers : Answers true s (execResetNRelease s) :=
  .next ((Keeps.refl s).same (by rfl))

theorem Keeps.linkGone (h : Keeps s₀ s) : Keeps s₀ (State.linkGone s) :=
  .ite h.wr.raise.level h

theorem Keeps.resetMsix {pf : ℕ} (h : Keeps s₀ s) : Keeps s₀ (State.resetMsix s pf) :=
  (h.same (by rfl))

/-- Pages of the registers in force put back to their reset words. -/
theorem Keeps.clearPages {p : Nat → Bool} (h : Keeps s₀ s) : Keeps s₀ { s with regs := s.regs.resetPages p } := .regs h (Store.wf_resetPages _ _) (by rfl)

theorem execPerstAssert_answers : Answers true s (execPerstAssert s) := by
  have low : Keeps s { s with boot := { s.boot with perstLow := true, pcieReady := false } } := .same (.refl s) (by rfl)
  exact .next (.ite (.refl s) (.ite low low.stopRings.resetMsix.resetMsix.linkGone.clearPages))

theorem execPerstRelease_answers : Answers true s (execPerstRelease s) :=
  .next ((Keeps.refl s).same (by rfl))

theorem Keeps.putMsix {pf : ℕ} {x : MsixPart} (h : Keeps s₀ s) : Keeps s₀ (State.putMsix s pf x) :=
  (h.same (by rfl))

theorem Keeps.sendPending {pf : ℕ} (h : Keeps s₀ s) : Keeps s₀ (State.sendPending s pf) :=
  .ite h (.foldl h fun _ _ h1 => .ite h1.putMsix.emit h1)

theorem execPcieConfigRequest_answers {pf : ℕ} {ready : Bool} {msix : Option (Bool × Bool)} : Answers (decide (pf < 2)) s (execPcieConfigRequest pf ready msix s) := by
  unfold execPcieConfigRequest
  refine .unit ?_
  refine .ite ?_ ?_
  · exact (Keeps.refl s)
  · extract_lets _ _ t2 _
    have h2 : Keeps s t2 := ((Keeps.refl s).same (by rfl)).emit
    clear_value t2
    split
    · exact h2
    · exact .ite h2.putMsix.sendPending h2

theorem Keeps.endWriting {w : NvWrite} (h : Keeps s₀ s) : Keeps s₀ (State.endWriting s w) :=
  .ite h (.ite h.nvPut h.putRec)

theorem Keeps.wrFirst {w : List Word} (h : Keeps s₀ s) : Keeps s₀ (State.wrFirst s w) :=
  h.wr.wr.wr

theorem Keeps.latchLine {line : ℕ} {inst : ℕ} (h : Keeps s₀ s) : Keeps s₀ (State.latchLine s line inst) :=
  have h1 := (h.wr.wr.same (by rfl))
  .trigAt (.raise (.ite h1.wrFirst h1.bump.raise))

theorem Keeps.shutdown {tick : Nat} (h : Keeps s₀ s) : Keeps s₀ (s.shutdown tick) := by
  unfold State.shutdown
  extract_lets inst _ t1 t2 t3 _
  have h1 : Keeps s₀ t1 := .lineOn (.same h (by rfl))
  clear_value t1
  have h2 : Keeps s₀ t2 := .ite h1 h1.latchLine
  clear_value t2
  have h3 : Keeps s₀ t3 := h2.brakeOn.resetAll
  clear_value t3
  exact .refreshFaults (.same h3 (by rfl))

theorem execPowerFailWarning_answers {tick : ℕ} {mv : ℕ} {writing : Option NvWrite} : Answers true s (execPowerFailWarning tick mv writing s) :=
  .next (.ite (Keeps.refl s) (.bind (Keeps.refl s).set.set.set.raise fun h1 => .bind (.set (by split; exacts [h1.endWriting, h1])) fun h2 => .ite (h2.same (by rfl)) h2.shutdown))

theorem execPfShutdown_answers {tick : ℕ} : Answers true s (execPfShutdown tick s) :=
  .next (.ite (Keeps.refl s).shutdown (Keeps.refl s))

theorem Keeps.saveDone (h : Keeps s₀ s) : Keeps s₀ (State.saveDone s) := by
  unfold State.saveDone
  split
  · exact h
  · exact .bind (h.same (by rfl)).nvPut fun h1 => .ite h1.flushDone (.foldl h1 fun _ _ h2 => h2.nvPut)

theorem execPfSaveDone_answers : Answers true s (execPfSaveDone s) :=
  .next (Keeps.refl s).saveDone

theorem execRideThrough_answers {minMv : ℕ} {mv : ℕ} : Answers true s (execRideThrough minMv mv s) :=
  .next (.ite (Keeps.refl s) ((Keeps.refl s).saveDone.nvPut.bump.set.raise.set.set.set.set.same (by rfl)))

theorem Keeps.putBank {b : ℕ} {ws : List Word} (h : Keeps s₀ s) : Keeps s₀ (State.putBank s b ws) :=
  (h.same (by rfl))

theorem Keeps.cutErase (h : Keeps s₀ s) : Keeps s₀ (State.cutErase s) :=
  .ite h (.putBank (.foldl h.takeFree fun _ _ h1 => h1.wearErase))

/-- Without power the registers are gone; the fuses and the queue stay. -/
theorem Keeps.powerOff (h : Keeps s₀ s) : Keeps s₀ s.powerOff := by
  have cut : Keeps s₀ s.cutErase := h.cutErase
  exact ⟨fun _ => ⟨rfl, rfl, rfl⟩, cut.fuses, cut.pending⟩

theorem execHoldupEnd_answers : Answers true s (execHoldupEnd s) :=
  .next (.ite (Keeps.refl s).powerOff (Keeps.refl s))

theorem execPowerOnAfterShutdown_answers {mv : ℕ} : Answers true s (execPowerOnAfterShutdown mv s) :=
  .next (.ite (Keeps.refl s).powerOff.aoStart (Keeps.refl s))

theorem execNvmRecordWrite_answers {w : NvWrite} : Answers (decide (w.area < 5)) s (execNvmRecordWrite w s) :=
  .unit (.ite (Keeps.refl s).nvWrite (Keeps.refl s))

theorem execNvmSectorErase_answers {sector : ℕ} : Answers (decide (sector < 512)) s (execNvmSectorErase sector s) :=
  .unit (.ite (Keeps.refl s) (.ite ((Keeps.refl s).same (by rfl)).wearErase (.ite ((Keeps.refl s).same (by rfl)).wearErase (.ite (Keeps.refl s).eraseAreaSector
    (.ite (Keeps.refl s).eraseAreaSector (.ite (Keeps.refl s).eraseAreaSector (.ite (Keeps.refl s).eraseAreaSector (.ite (Keeps.refl s).eraseAreaSector
    (Keeps.refl s).wearErase))))))))

theorem execBootLoad_answers {m : Master} : Answers true s (execBootLoad m s) :=
  .next (.hostCmd (Keeps.refl s) (fun _ h1 => .ite h1.set (.ite h1.set h1.set.set.loadBank.goto.jtagHold)))

theorem Keeps.bootDone {st : ℕ} (h : Keeps s₀ s) : Keeps s₀ (State.bootDone s st) :=
  h.set

theorem Keeps.bankCmd {m : Master} {bank : Nat} {k : State → State} (h : Keeps s₀ s) (hk : ∀ u, Keeps s₀ u → Keeps s₀ (k u)) : Keeps s₀ (s.bankCmd m bank k) :=
  .hostCmd h fun u h1 => .ite h1.bootDone (.ite h1.bootDone (.ite h1.bootDone (.ite h1.bootDone (.ite h1.bootDone (hk u h1)))))

theorem execBootErase_answers {m : Master} {bank : ℕ} : Answers true s (execBootErase m bank s) :=
  .next (.bankCmd (Keeps.refl s) (fun _ h1 => (h1.same (by rfl)).wearErase.set.bootDone))

theorem execBankEraseDone_answers : Answers true s (execBankEraseDone s) :=
  .next (.ite (Keeps.refl s) (.set (.showBank (.foldl ((Keeps.refl s).same (by rfl)).putBank.set fun _ _ h1 => h1.wearErase))))

theorem execWriteOpen_answers {m : Master} {bank : ℕ} : Answers true s (execWriteOpen m bank s) :=
  .next (.bankCmd (Keeps.refl s) (fun _ h1 => .ite h1.bootDone (h1.same (by rfl)).putBank.showBank.bootDone))

theorem Keeps.placeHeld (h : Keeps s₀ s) : Keeps s₀ (State.placeHeld s) := by
  unfold State.placeHeld
  split
  · exact .ite h.putBank h
  · exact h

theorem execImgDataWrite_answers {m : Master} {w : Word} : Answers true s (execImgDataWrite m w s) :=
  .next (.hostWrite (Keeps.refl s) (fun _ h1 => .ite h1 (h1.placeHeld.same (by rfl))))

theorem Keeps.closeSession (h : Keeps s₀ s) : Keeps s₀ (State.closeSession s) :=
  have h1 := (h.placeHeld.same (by rfl))
  .ite h1.showBank.bootDone h1.putBank.showBank.bootDone

theorem execWriteClose_answers {m : Master} {_bank : ℕ} : Answers true s (execWriteClose m _bank s) :=
  .next (.hostCmd (Keeps.refl s) (fun _ h1 => .ite h1.bootDone (.ite h1.bootDone (.ite h1.bootDone h1.closeSession))))

theorem Keeps.showFlushed {old : State} {flushed : State} (h : Keeps s₀ s) : Keeps s₀ (State.showFlushed s old flushed) :=
  .foldl h fun _ _ h1 => h1.bumpBy.bumpBy

theorem Keeps.fabricReset (h : Keeps s₀ s) : Keeps s₀ (State.fabricReset s) := by
  unfold State.fabricReset
  extract_lets t2 t3 t4 t5 _ _ t6 _ _ t7 t8
  have h2 : Keeps s₀ t2 := h
  have h3 : Keeps s₀ t3 := .foldl h fun _ _ h2 => .ite h2.flushPort h2
  have h4 : Keeps s₀ t4 := h3
  have h5 : Keeps s₀ t5 := h3.proveAbort.flushRecords
  have h6 : Keeps s₀ t6 := h5.resetAll.showFlushed.set
  clear_value t6
  have h7 : Keeps s₀ t7 := (h6.same (by rfl))
  have h8 : Keeps s₀ t8 := h7.set.set.set.stageRec
  exact h8.refreshFaults

theorem execFabricReset_answers {m : Master} {force : Bool} : Answers true s (execFabricReset m force s) :=
  .next (.hostCmd (Keeps.refl s) (fun _ h1 => .ite h1.set (.ite h1.set (.ite h1.set h1.fabricReset))))

theorem Keeps.coachFresh {c : ℕ} {cals : List CalResult} {temp : ℤ} (h : Keeps s₀ s) : Keeps s₀ (State.coachFresh s c cals temp) :=
  .setGear (.foldl h fun _ _ h1 => h1.pairStart)

theorem Keeps.coachesFresh {cals : List CalResult} {temp : ℤ} (h : Keeps s₀ s) : Keeps s₀ (State.coachesFresh s cals temp) :=
  .foldl h fun _ _ h1 => .ite h1.coachFresh h1

theorem execFabricDone_answers {cals : List CalResult} {temp : ℤ} : Answers true s (execFabricDone cals temp s) :=
  .next (.ite (Keeps.refl s).coachesFresh.set.raise.set.stageRec (Keeps.refl s))

theorem Keeps.checkClock {dev : ℤ} {island : ℕ} {r : ClockReading} (h : Keeps s₀ s) : Keeps s₀ (State.checkClock s dev island r) :=
  have h1 := (h.same (by rfl))
  .ite h1 (.ite (.ite h1 (h1.same (by rfl)).set.bump.raise) (.ite h1.set h1))

theorem execIslandClockCheck_answers {oscDev : ℤ} {readings : List ClockReading} {mv : ℕ} : Answers true s (execIslandClockCheck oscDev readings mv s) :=
  .next (.ite (Keeps.refl s) (.lineSet (.setFlag (.foldl (Keeps.refl s).set.setS.setFlag.level.lineSet fun _ _ h1 => h1.checkClock))))

theorem Keeps.breakLink {l : Link} (h : Keeps s₀ s) : Keeps s₀ (State.breakLink s l) :=
  (h.same (by rfl)).showBroken.raise.lineOn.showServings

theorem Keeps.refuseGroup {l : Link} (h : Keeps s₀ s) : Keeps s₀ (State.refuseGroup s l) :=
  have h1 := (h.same (by rfl)).bump
  .ite h1 h1.breakLink

theorem execCouplingTransfer_answers {src : ℕ} {dst : ℕ} {ch : ℕ} {parityOk : Bool} {full : Bool} : Answers (decide (max src dst < 16)) s (execCouplingTransfer src dst ch parityOk full s) :=
  .unit (.ite (Keeps.refl s) (.ite ((Keeps.refl s).same (by rfl)) (by split; exacts [.ite (Keeps.refl s).injFlag ((Keeps.refl s).refuseGroup.same (by rfl)), .ite ((Keeps.refl s).same (by rfl)) (Keeps.refl s).refuseGroup])))

theorem Keeps.freeFeed {k : ℕ} (h : Keeps s₀ s) : Keeps s₀ (State.freeFeed s k) :=
  (h.putImg.same (by rfl))

theorem execCouplingResume_answers {src : ℕ} {dst : ℕ} {ch : ℕ} : Answers (decide (max src dst < 16)) s (execCouplingResume src dst ch s) := by
  unfold execCouplingResume
  refine .unit ?_
  extract_lets _ _ t2
  have h2 : Keeps s t2 := ((Keeps.refl s).same (by rfl))
  exact .ite (.ite h2.freeFeed h2) (Keeps.refl s)

theorem Keeps.axleFault {island : ℕ} {r : AxleRegs} (h : Keeps s₀ s) : Keeps s₀ (State.axleFault s island r) :=
  have h1 := h.bump.raise.pulse
  .ite h1.putCore h1

theorem Keeps.axleLost {island : ℕ} {k : ℕ} {r : AxleRegs} (h : Keeps s₀ s) : Keeps s₀ (State.axleLost s island k r) :=
  have h1 := h.putCtr.bump
  .ite h1.axleFault h1

theorem Keeps.axleCompare {island : ℕ} {r : AxleRegs} {markT : ℕ} (h : Keeps s₀ s) : Keeps s₀ (State.axleCompare s island r markT) :=
  have h1 := h.putCtr
  .ite h1.bump (.ite h1 (.ite h1.bump (.ite h1.bump.raise h1.axleFault)))

theorem Keeps.axleSub0 {island : ℕ} {r : AxleRegs} {f : List ℕ} (h : Keeps s₀ s) : Keeps s₀ (State.axleSub0 s island r f) :=
  h.axleCompare.putCtr

theorem Keeps.stepMissed {c : ℕ} (h : Keeps s₀ s) : Keeps s₀ (State.stepMissed s c) :=
  .ite h (.foldl h fun _ _ h1 => h1.endCar.sta)

theorem Keeps.hearSub0 {island : ℕ} {r : AxleRegs} {f : List ℕ} (h : Keeps s₀ s) : Keeps s₀ (State.hearSub0 s island r f) :=
  have h1 := h.axleSub0
  .ite h1.stepMissed h1

theorem execAxleSubframe_answers {island : ℕ} {k : ℕ} {err : ℕ} : Answers (decide (island < 16)) s (execAxleSubframe island k err s) := by
  unfold execAxleSubframe
  refine .unit ?_
  split
  · exact (Keeps.refl s)
  · refine .ite ?_ ?_
    · exact (Keeps.refl s)
    · extract_lets t2 _
      have h2 : Keeps s t2 := .ite (Keeps.refl s) (Keeps.refl s).putCtr
      clear_value t2
      split
      · exact h2.axleLost
      · exact .ite h2.hearSub0 h2.putCtr

theorem Keeps.moveScale {tick : ℕ} (h : Keeps s₀ s) : Keeps s₀ (State.moveScale s tick) :=
  .ite (h.same (by rfl)) (h.same (by rfl))

theorem Keeps.setCore {k : ℕ} {st : ℕ} {why : ℕ} (h : Keeps s₀ s) : Keeps s₀ (State.setCore s k st why) :=
  have h1 := h.set.set
  .ite h1 h1.raise.trig

theorem Keeps.showIn (h : Keeps s₀ s) : Keeps s₀ (State.showIn s) :=
  h.set.showCore

theorem Keeps.setMode {m : ℕ} (h : Keeps s₀ s) : Keeps s₀ (State.setMode s m) :=
  .ite h h.set.raise.trig

theorem Keeps.excludeCore {k : ℕ} {why : ℕ} {diff : ℤ} (h : Keeps s₀ s) : Keeps s₀ (State.excludeCore s k why diff) :=
  (h.setCore.setS.bump.bump.lineOn.putCore.same (by rfl)).setMode.showIn.set.raise

theorem Keeps.fatalVote {why : ℕ → ℕ} {tick : ℕ} (h : Keeps s₀ s) : Keeps s₀ (State.fatalVote s why tick) := by
  unfold State.fatalVote
  extract_lets _ _ _ _ t2 t3 _ t4 t5
  have h2 : Keeps s₀ t2 := .ite (h.same (by rfl)) h
  have h3 : Keeps s₀ t3 := .foldl h2 fun _ _ h2 => h2.setCore
  clear_value t3
  have h4 : Keeps s₀ t4 := (h3.same (by rfl))
  have h5 : Keeps s₀ t5 := h4.pulse.set.setMode
  exact h5.showIn

theorem Keeps.coreFault {k : ℕ} (h : Keeps s₀ s) : Keeps s₀ (State.coreFault s k) :=
  .ite h (.ite h.excludeCore h.fatalVote)

theorem Keeps.putFenced {i : ℕ} {on : Bool} (h : Keeps s₀ s) : Keeps s₀ (State.putFenced s i on) :=
  .foldl h.set fun _ _ h1 => h1.setFlag

theorem Keeps.coachDown {c : ℕ} {cuts : List (ℕ × TxRef)} (h : Keeps s₀ s) : Keeps s₀ (State.coachDown s c cuts) :=
  .foldl h.abortInput fun _ _ h1 => .ite h1 h1.goDown

theorem Keeps.fence {i : ℕ} {cuts : List (ℕ × TxRef)} (h : Keeps s₀ s) : Keeps s₀ (State.fence s i cuts) :=
  .ite h.coreFault (.ite h (.bind h.putFenced.bump.showFences.genRec fun h1 => .bind (.ite h1.coachDown.faultStops.showServing h1) fun h2 => .bind (.ite
    (h2.same (by rfl)).switchHalt.stopRings h2) fun h3 => .bind (.ite (h3.same (by rfl)) h3) fun h4 => .ite (.bind (h4.same (by rfl)) fun h5 => .ite
    h5.brakeOn.cutLaunches.faultStops h5.refreshFaults) h4))

theorem Keeps.applyGen {cuts : List (Nat × TxRef)} (h : Keeps s₀ s) : Keeps s₀ (s.applyGen cuts).1 := by
  unfold State.applyGen
  extract_lets parts bad late t1 _ t2 _
  have h1 : Keeps s₀ t1 := h.commitSet
  clear_value t1
  have h2 : Keeps s₀ t2 := .setGenState (.same h1 (by rfl))
  clear_value t2
  exact .ite1 h (.foldl (.same h2 (by rfl)) fun _ _ h => h.fence)

theorem Keeps.reconfigure {mask : ℕ} (h : Keeps s₀ s) : Keeps s₀ (State.reconfigure s mask) :=
  have h1 := h.releaseIslands
  .bind (.ite h1.startRecorder h1) fun h2 => .bind (.applyEntries (.ite h2.set h2)) fun h3 => .ite h3.applyCode h3

theorem Keeps.reconfCommit {cuts : List (ℕ × TxRef)} (h : Keeps s₀ s) : Keeps s₀ (State.reconfCommit s cuts) :=
  .bind (.foldl h.reconfigure.commitSet.commitBlocks fun _ _ h1 => .ite h1.placeMc.showServing h1) fun h1 => .same (.ite h1.gnsGo.searchAll.setRole.set h1) (by rfl)

theorem Keeps.genMark {cuts : List (ℕ × TxRef)} {ready : Bool} (h : Keeps s₀ s) : Keeps s₀ (State.genMark s cuts ready) :=
  .bind (.ite h.applyGen.commitBlocks h.applyGen) fun h1 => .ite h1.reconfCommit h1

theorem Keeps.outStep {amount : ℤ} (h : Keeps s₀ s) : Keeps s₀ (State.outStep s amount) :=
  .foldl h fun _ _ h1 => .ite (.bind h1.putOut fun h2 => .ite h2.setMisalign h2) h1

theorem Keeps.candLoad (h : Keeps s₀ s) : Keeps s₀ (State.candLoad s) :=
  .foldl (h.same (by rfl)) fun _ _ h1 => h1.putSlot

theorem Keeps.srvLoad {v : ℤ} (h : Keeps s₀ s) : Keeps s₀ (State.srvLoad s v) :=
  (h.same (by rfl))

theorem Keeps.tebShift {d : ℤ} (h : Keeps s₀ s) : Keeps s₀ (State.tebShift s d) :=
  (h.same (by rfl))

theorem Keeps.ticMark {amount : ℤ} (h : Keeps s₀ s) : Keeps s₀ (State.ticMark s amount) :=
  .foldl h fun _ _ h1 => .ite h1.putTic h1

theorem Keeps.tebHostLoad (h : Keeps s₀ s) : Keeps s₀ (State.tebHostLoad s) :=
  (h.same (by rfl))

theorem Keeps.loadDone {src : ℕ} {jump : ℤ} (h : Keeps s₀ s) : Keeps s₀ (State.loadDone s src jump) :=
  .bind (.trig (.raise (.setFlag (.tebShift (.ticMark (.outStep (.perCore (h.same (by rfl)).candLoad (fun _ h1 => h1.srvLoad)))))))) fun h1 => .ite h1.tebHostLoad.set h1

theorem Keeps.candStep {d : ℤ} (h : Keeps s₀ s) : Keeps s₀ (State.candStep s d) := by
  unfold State.candStep
  extract_lets _ t2 _ _ _
  have h2 : Keeps s₀ t2 := .foldl h fun _ _ h1 => .bind (.ite h1 h1.putSlot) fun h2 => .ite h2.wrS h2
  clear_value t2
  exact (h2.same (by rfl)).showDiffs

theorem Keeps.srvStep {d : ℤ} (h : Keeps s₀ s) : Keeps s₀ (State.srvStep s d) :=
  (h.same (by rfl))

theorem Keeps.tebHostStep {d : ℤ} (h : Keeps s₀ s) : Keeps s₀ (State.tebHostStep s d) :=
  (h.same (by rfl))

theorem Keeps.stepsDone (h : Keeps s₀ s) : Keeps s₀ (State.stepsDone s) :=
  .raise (.foldl (.wrS (.tebShift (.ticMark (.outStep (.perCore (h.same (by rfl)).candStep (fun _ h1 => h1.srvStep)))))) fun _ _ h1 => .trig (.ite h1.tebHostStep h1))

theorem Keeps.phaseDone {jump : ℤ} (h : Keeps s₀ s) : Keeps s₀ (State.phaseDone s jump) := by
  unfold State.phaseDone
  split
  · exact h.loadDone
  · exact .ite h.ticMark h.stepsDone

theorem Keeps.rejoined {k : ℕ} (h : Keeps s₀ s) : Keeps s₀ (State.rejoined s k) :=
  h.set.putCore

theorem Keeps.takeGen {k : ℕ} (h : Keeps s₀ s) : Keeps s₀ (State.takeGen s k) := by
  unfold State.takeGen
  split
  · exact h
  · exact (h.putImg.same (by rfl))

theorem Keeps.reload {k : ℕ} {d : ℕ} (h : Keeps s₀ s) : Keeps s₀ (State.reload s k d) :=
  (h.putImg.same (by rfl)).takeGen.putCore.setCore.putCtr

theorem Keeps.triadMark (h : Keeps s₀ s) : Keeps s₀ (State.triadMark s) :=
  .bind (.foldl h fun _ _ h1 => .ite (.bind h1.set.putCore fun h2 => .ite h2.rejoined h2) h1) fun h1 => .ite h1 (.ite (.foldl h1 fun _ _ h2 => .ite h2.reload h2) (by split; exacts [.foldl (h1.same (by rfl)).set.set fun _ _ h2 => .ite h2 h2.reload, h1]))

theorem Keeps.leapOld (h : Keeps s₀ s) : Keeps s₀ (State.leapOld s) :=
  (h.same (by rfl))

theorem Keeps.outLeap {d : ℤ} (h : Keeps s₀ s) : Keeps s₀ (State.outLeap s d) :=
  .foldl h fun _ _ h1 => .ite h1.putOut h1

theorem Keeps.leapIslands {sg : ℤ} (h : Keeps s₀ s) : Keeps s₀ (State.leapIslands s sg) :=
  .same (.foldl h fun _ _ h1 => h1.putCtr) (by rfl)

theorem Keeps.leapRec {bit : ℕ} (h : Keeps s₀ s) : Keeps s₀ (State.leapRec s bit) :=
  h.trig

theorem Keeps.leapMark {jumped : Bool} (h : Keeps s₀ s) : Keeps s₀ (State.leapMark s jumped) :=
  .bind (.ite h.leapOld h) fun h1 => .ite (.bind h1.set fun h2 => .leapRec (.raise (.setLeapPend (.set (.leapIslands (.ite h2.outLeap h2)))))) h1

theorem Keeps.utcMark (h : Keeps s₀ s) : Keeps s₀ (State.utcMark s) := by
  unfold State.utcMark
  split
  · exact h
  · exact .bind (h.same (by rfl)).set.set.outLeap fun h1 => .ite h1.set.setLeapPend.raise.leapRec h1.leapRec

theorem Keeps.markUnit {units lanes : Fld} {kind unit : Nat} (h : Keeps s₀ s) : Keeps s₀ (s.markUnit units lanes kind unit) := by
  unfold State.markUnit
  split
  · exact h.set
  · exact h.set

theorem Keeps.beginTest {kind unit : Nat} (h : Keeps s₀ s) : Keeps s₀ (s.beginTest kind unit) := by
  unfold State.beginTest
  extract_lets _ t
  have ht : Keeps s₀ t := .same h (by rfl)
  split
  · exact ht.shuntTic.ticCalStart
  · exact ht.addMig
  · exact ht.shuntPll
  · exact .same ht (by rfl)
  · exact ht.shuntGns
  · exact ht

theorem Keeps.proveStep {fuel : Nat} (h : Keeps s₀ s) : Keeps s₀ (s.proveStep fuel) := by
  induction fuel generalizing s with
  | zero => exact h.showProve
  | succ n ih =>
    refine .ite h ?_
    split
    · exact .ite h.proveEnd h.showProve
    · exact .ite (ih (.markUnit (.same h (by rfl)))) (ih (.beginTest (.same h (by rfl))))

theorem Keeps.proveMark (h : Keeps s₀ s) : Keeps s₀ (State.proveMark s) :=
  .ite h (.ite h.proveAbort h.proveStep)

theorem Keeps.shuntMark (h : Keeps s₀ s) : Keeps s₀ (State.shuntMark s) := by
  unfold State.shuntMark
  split
  · exact (h.same (by rfl)).drainCoach
  · exact h

theorem Keeps.qualify {k : ℕ} (h : Keeps s₀ s) : Keeps s₀ (State.qualify s k) :=
  h.setCand

theorem Keeps.candMark {k : ℕ} (h : Keeps s₀ s) : Keeps s₀ (State.candMark s k) :=
  .ite h.setCand (.ite (.bind h.putSlot.set fun h1 => .ite h1.qualify h1) (.ite (.bind h.putSlot.set fun h1 => .ite h1.wtrEnd h1) h))

theorem Keeps.dispute {rank : ℕ} (h : Keeps s₀ s) : Keeps s₀ (State.dispute s rank) :=
  .foldl h.raiseIf fun _ _ h1 => .bind h1.setFlag fun h2 => .ite h2.setCand h2.setCand

theorem Keeps.disputes (h : Keeps s₀ s) : Keeps s₀ (State.disputes s) :=
  .foldl (.foldl h fun _ _ h1 => .ite h1 h1.set) fun _ _ h1 => h1.dispute

theorem Keeps.steerMark (h : Keeps s₀ s) : Keeps s₀ (State.steerMark s) :=
  .ite h (h.same (by rfl)).wrS

theorem Keeps.selDone {st : ℕ} (h : Keeps s₀ s) : Keeps s₀ (State.selDone s st) :=
  h.set.raiseIf

theorem Keeps.followReq {q : SelReq} (h : Keeps s₀ s) : Keeps s₀ (State.followReq s q) := by
  unfold State.followReq
  split
  · exact (h.same (by rfl))
  · exact h.selDone

theorem Keeps.showSel (h : Keeps s₀ s) : Keeps s₀ (State.showSel s) :=
  .foldl h.setFlag.setFlag fun _ _ h1 => h1.setFlag

theorem Keeps.selFrame {kind : ℕ} {amount : ℤ} {at_ : ℤ} (h : Keeps s₀ s) : Keeps s₀ (State.selFrame s kind amount at_) :=
  .ite h.dugSendAll h

theorem Keeps.setSel {new : ℕ} {abort : Bool} (h : Keeps s₀ s) : Keeps s₀ (State.setSel s new abort) :=
  h.set.trig.selFrame

theorem Keeps.startSwitch {t : ℕ} {manual : Bool} {abort : Bool} (h : Keeps s₀ s) : Keeps s₀ (State.startSwitch s t manual abort) := by
  unfold State.startSwitch
  extract_lets _ _ _ t2 t3
  have h2 : Keeps s₀ t2 := (h.same (by rfl))
  have h3 : Keeps s₀ t3 := h2.set.set.bump.setSel
  exact h3.raise.showSel

theorem Keeps.enterHold {abort : Bool} (h : Keeps s₀ s) : Keeps s₀ (State.enterHold s abort) := by
  unfold State.enterHold
  extract_lets _ t2 t3 t4
  have h2 : Keeps s₀ t2 := .ite h.set h
  have h3 : Keeps s₀ t3 := h2.set.set.set
  have h4 : Keeps s₀ t4 := h3.set.setSel.raise
  exact h4.showSel.showDiffs

theorem Keeps.abortSwitch {follow : Bool} (h : Keeps s₀ s) : Keeps s₀ (State.abortSwitch s follow) :=
  have h1 := h.bump.raise.putSlot
  .ite h1 (by split; exacts [.ite h1.setSel.set.set.showSel h1.startSwitch, .ite h1.setSel.set.set h1.enterHold])

theorem Keeps.takeSwitch {slot : ℕ} (h : Keeps s₀ s) : Keeps s₀ (State.takeSwitch s slot) :=
  .ite h.selDone (.ite (.ite h.abortSwitch.setSel.set.set.showSel.selDone h.selDone) (.ite h.selDone (.ite h.selDone (.ite h.abortSwitch.startSwitch.selDone
    h.startSwitch.selDone))))

theorem Keeps.takeHoldover (h : Keeps s₀ s) : Keeps s₀ (State.takeHoldover s) :=
  .ite (h.same (by rfl)) (.ite h.set.selDone (.ite h.abortSwitch.enterHold.set.selDone h.enterHold.set.selDone))

theorem Keeps.takeReq {q : SelReq} (h : Keeps s₀ s) : Keeps s₀ (State.takeReq s q) := by
  unfold State.takeReq
  split
  · exact (h.same (by rfl))
  · exact h.takeSwitch
  · exact h.takeHoldover
  · exact h.set.selDone

theorem Keeps.uncommit (h : Keeps s₀ s) : Keeps s₀ (State.uncommit s) :=
  .bind (.showStepPend (.setSel (.set (.setFlag (.foldl (h.same (by rfl)) fun _ _ h1 => h1.putSlot))))) fun h1 => .ite (h1.same (by rfl)).takeHoldover h1

theorem Keeps.freqOrigin {k : ℕ} {c : ℤ} {t : ℤ} (h : Keeps s₀ s) : Keeps s₀ (State.freqOrigin s k c t) := by
  unfold State.freqOrigin
  extract_lets _
  split
  · exact h.putSlot
  · extract_lets _ _
    exact h.putSlot.wrS

theorem Keeps.commitSwitch (h : Keeps s₀ s) : Keeps s₀ (State.commitSwitch s) := by
  unfold State.commitSwitch
  extract_lets _ _ _ _ t2 _ t3 _ t4 t5 _ t6 t7 t8 t9
  have h2 : Keeps s₀ t2 := .ite (by split; exacts [h.freqOrigin, h]) h
  have h3 : Keeps s₀ t3 := h2.putSlot
  clear_value t3
  have h4 : Keeps s₀ t4 := (h3.same (by rfl))
  have h5 : Keeps s₀ t5 := h4.wrS
  clear_value t5
  have h6 : Keeps s₀ t6 := (h5.same (by rfl))
  have h7 : Keeps s₀ t7 := h6.set.set.set.set
  have h8 : Keeps s₀ t8 := h5.set.set
  have h9 : Keeps s₀ t9 := .ite h7.set.setSel.raise.selDone h8.setSel.set
  exact h9.showSel.showDiffs

theorem Keeps.decide_ (h : Keeps s₀ s) : Keeps s₀ (State.decide_ s) :=
  .ite h (.ite (by split; exacts [h, .ite (.ite (.ite h.startSwitch h) (.ite h h.putSlot.raise)) h]) (by split; exacts [h.startSwitch, .ite h.enterHold h]))

theorem Keeps.commitMark (h : Keeps s₀ s) : Keeps s₀ (State.commitMark s) :=
  have h1 := (h.same (by rfl))
  .ite h1.uncommit (.ite (.bind h1.commitSwitch fun h2 => .ite h2.decide_ h2) h1)

theorem Keeps.settleMark (h : Keeps s₀ s) : Keeps s₀ (State.settleMark s) :=
  have h1 := (h.same (by rfl))
  .ite h1.decide_ (.ite h1.setSel.raise h1)

theorem Keeps.selAdvance {fresh : Bool} (h : Keeps s₀ s) : Keeps s₀ (State.selAdvance s fresh) := by
  unfold State.selAdvance
  split
  · exact .ite h.abortSwitch (.ite h (h.same (by rfl)).putSlot.setSel)
  · exact .ite h.abortSwitch (h.same (by rfl))
  · exact h.commitMark
  · exact h.settleMark
  · exact h.decide_

theorem Keeps.selMark (h : Keeps s₀ s) : Keeps s₀ (State.selMark s) :=
  .bind (.foldl h fun _ _ h1 => h1.candMark) fun h1 => .bind (.same (.ite h1.disputes h1) (by rfl)) fun h2 => .ite (.steerMark (.foldl h2 fun _ _ h3 =>
    h3.followReq)) (.showSel (.steerMark (.selAdvance (.foldl h2 fun _ _ h3 => h3.takeReq))))

theorem Keeps.tebHold {now : ℤ} (h : Keeps s₀ s) : Keeps s₀ (State.tebHold s now) :=
  (h.same (by rfl)).set.setFlag.setFlag

theorem Keeps.tebCommit {freq : Bool} (h : Keeps s₀ s) : Keeps s₀ (State.tebCommit s freq) :=
  .ite (h.same (by rfl)).tebHold h

theorem Keeps.holdCommit (h : Keeps s₀ s) : Keeps s₀ (State.holdCommit s) :=
  .set (.same (.ite h.holdEvt h) (by rfl))

theorem Keeps.selectorMark (h : Keeps s₀ s) : Keeps s₀ (State.selectorMark s) :=
  have h1 := h.selMark
  .ite (.tebCommit (.perCore h1 (fun _ h2 => h2.holdCommit))) h1

theorem Keeps.endClks (h : Keeps s₀ s) : Keeps s₀ (State.endClks s) :=
  .foldl h fun _ _ h1 => .ite h1.muteOut h1

theorem Keeps.slewClks (h : Keeps s₀ s) : Keeps s₀ (State.slewClks s) :=
  .foldl h fun _ _ h1 => .ite h1 h1.putOut.setMisalign.setFlag

theorem Keeps.leapFlag (h : Keeps s₀ s) : Keeps s₀ (State.leapFlag s) :=
  (h.same (by rfl))

theorem Keeps.leapWarn (h : Keeps s₀ s) : Keeps s₀ (State.leapWarn s) :=
  .ite h.setLeapPend.leapRec h

theorem Keeps.takeDue (h : Keeps s₀ s) : Keeps s₀ (State.takeDue s) :=
  .foldl (h.same (by rfl)) fun _ _ h1 => .ite (h1.same (by rfl)) (h1.same (by rfl))

theorem Keeps.dropSet {st : ℕ} (h : Keeps s₀ s) : Keeps s₀ (State.dropSet s st) := by
  unfold State.dropSet
  split
  · exact (h.same (by rfl)).setRej
  · exact h

theorem Keeps.announceSel {next : ℤ} (h : Keeps s₀ s) : Keeps s₀ (State.announceSel s next) := by
  unfold State.announceSel
  split
  · exact h.selFrame
  · exact .ite h h.selFrame

theorem Keeps.announce (h : Keeps s₀ s) : Keeps s₀ (State.announce s) := by
  unfold State.announce
  extract_lets t2 t3 _ t4 _ t5 t6 _ _ t7
  have h2 : Keeps s₀ t2 := h.takeDue
  have h3 : Keeps s₀ t3 := h2.dropHostSteps.dropSet
  clear_value t3
  have h4 : Keeps s₀ t4 := h2.dropHostSteps.dropSet
  clear_value t4
  have h5 : Keeps s₀ t5 := .ite h2.dropSet h2
  clear_value t5
  have h6 : Keeps s₀ t6 := h5.dropHostSteps
  clear_value t6
  have h7 : Keeps s₀ t7 := .ite (h3.same (by rfl)) (by split; exacts [(h4.same (by rfl)), by split; exacts [(h6.same (by rfl)), (h5.same (by rfl))]])
  exact h7.announceSel.showStepPend

theorem Keeps.announceAll (h : Keeps s₀ s) : Keeps s₀ (State.announceAll s) :=
  (h.announce.leapWarn.leapFlag.same (by rfl))

theorem Keeps.sweepMissed (h : Keeps s₀ s) : Keeps s₀ (State.sweepMissed s) :=
  .ite (h.same (by rfl)).showReady h

theorem Keeps.freeGone {slot : ℕ} (h : Keeps s₀ s) : Keeps s₀ (State.freeGone s slot) :=
  .ite h (.foldl h.putSlotK fun _ _ h1 => h1.keyEvt)

theorem Keeps.keyMark (h : Keeps s₀ s) : Keeps s₀ (State.keyMark s) :=
  .foldl (by split; exacts [.ite h.putSlotK h, h]) fun _ _ h1 => .bind h1.freeGone fun h2 => .ite h2.putSlotK (.ite h2.putSlotK h2)

theorem Keeps.gnsMark (h : Keeps s₀ s) : Keeps s₀ (State.gnsMark s) :=
  .ite h (.bind (h.same (by rfl)) fun h1 => .ite h1.set h1)

theorem Keeps.lateEnables (h : Keeps s₀ s) : Keeps s₀ (State.lateEnables s) :=
  .foldl (h.same (by rfl)) fun _ _ h1 => h1.startPage

theorem Keeps.judgeOver {lim : ℕ} (h : Keeps s₀ s) : Keeps s₀ (State.judgeOver s lim) :=
  .bind (.ite h.bump h) fun h1 => .bind (.ite h1.bump h1) fun h2 => .ite h2 h2.setFlag.level.lineSet

theorem Keeps.sendPub {pre : State} {c : ℕ} (h : Keeps s₀ s) : Keeps s₀ (State.sendPub s pre c) :=
  .ite h (h.same (by rfl))

theorem Keeps.tebRecords {comps : List ℕ} {srcs : List ℕ} (h : Keeps s₀ s) : Keeps s₀ (State.tebRecords s comps srcs) :=
  .bind (.ite (h.takeFree.same (by rfl)).trig.raise h) fun h1 => .ite h1 (h1.same (by rfl)).trig

theorem Keeps.tebMark {pre : State} (h : Keeps s₀ s) : Keeps s₀ (State.tebMark s pre) :=
  .bind (.foldl h.set fun _ _ h1 => h1.set) fun h1 => .tebRecords (.foldl (.showClass (.judgeOver (.judgeValid (.ite h1 h1.setFlag.level)))) fun _ _ h2 => h2.sendPub)

theorem Keeps.learnY0 (h : Keeps s₀ s) : Keeps s₀ (State.learnY0 s) :=
  .ite h (h.same (by rfl)).setS

theorem Keeps.countSecond (h : Keeps s₀ s) : Keeps s₀ (State.countSecond s) :=
  (h.same (by rfl)).bump.learnY0.showLearn

theorem Keeps.holdSecond (h : Keeps s₀ s) : Keeps s₀ (State.holdSecond s) :=
  .bind (.same (.ite h.countSecond h) (by rfl)) fun h1 => .bind (.ite (h1.same (by rfl)) h1) fun h2 => .bind (.ite h2.set h2) fun h3 => .ite (h3.same (by
    rfl)).set (.ite h3 h3.set)

theorem Keeps.secondMark (h : Keeps s₀ s) : Keeps s₀ (State.secondMark s) :=
  .ite (.tebHold (.perCore h (fun _ h1 => h1.holdSecond))) h

theorem Keeps.boundMark {pre : State} (h : Keeps s₀ s) : Keeps s₀ (State.boundMark s pre) :=
  have h1 := h.secondMark.tebMark
  .ite h1.proveAbort h1

theorem Keeps.atMark {pre : State} {jump : ℤ} {cuts : List (ℕ × TxRef)} {ready : Bool} (h : Keeps s₀ s) : Keeps s₀ (State.atMark s pre jump cuts ready) :=
  h.phaseDone.genMark.utcMark.leapMark.triadMark.selectorMark.shuntMark.proveMark.announceAll.slewClks.endClks.gnsMark.keyMark.sweepMissed.showReady.boundMark.lateEnables

theorem Keeps.logEfc (h : Keeps s₀ s) : Keeps s₀ (State.logEfc s) :=
  (h.same (by rfl))

theorem Keeps.tebHoldRow {now : ℤ} (h : Keeps s₀ s) : Keeps s₀ (State.tebHoldRow s now) :=
  .ite h h.tebHold

theorem Keeps.tebShow {now : ℤ} (h : Keeps s₀ s) : Keeps s₀ (State.tebShow s now) :=
  h.tebHoldRow.set.set.set.set

theorem execAxmark_answers {tick : ℕ} {cuts : List (ℕ × TxRef)} {ready : Bool} : Answers true s (execAxmark tick cuts ready s) :=
  .next (.ite (Keeps.refl s) (.ite (Keeps.refl s) (.bind (Keeps.refl s).moveScale fun h1 => .atMark (.ite h1.logEfc h1))))

theorem Keeps.upset {k : ℕ} {r : CoreReport} (h : Keeps s₀ s) : Keeps s₀ (State.upset s k r) :=
  .bind (.ite h h.putCtr) fun h1 => .ite h1 h1.putImg

theorem Keeps.noteReport {k : ℕ} {x : CoreInput} {r : CoreReport} (h : Keeps s₀ s) : Keeps s₀ (State.noteReport s k x r) :=
  h.putCore.setS.bumpBy.raiseIf

theorem Keeps.followCore {k : ℕ} {tick : ℕ} (h : Keeps s₀ s) : Keeps s₀ (State.followCore s k tick) :=
  .ite h (h.same (by rfl))

theorem Keeps.setFreq {y : ℤ} (h : Keeps s₀ s) : Keeps s₀ (State.setFreq s y) :=
  h.setS

theorem Keeps.voteTriad {x0 : CoreInput} {x1 : CoreInput} {x2 : CoreInput} {tick : ℕ} (h : Keeps s₀ s) : Keeps s₀ (State.voteTriad s x0 x1 x2 tick) :=
  have h1 := h.putCore.putCore.putCore
  .ite h1.fatalVote (.bind h1.setFreq.followCore fun h2 => .ite h2.excludeCore (.ite h2.excludeCore (.ite h2.excludeCore h2)))

theorem Keeps.rejoinFail {k : ℕ} {why : ℕ} (h : Keeps s₀ s) : Keeps s₀ (State.rejoinFail s k why) :=
  h.putCore.set.setCore.bump.raise

theorem Keeps.voteProbation {k : ℕ} {x : CoreInput} {p : CoreInput} {q : CoreInput} (h : Keeps s₀ s) : Keeps s₀ (State.voteProbation s k x p q) :=
  have h1 := h.putCore
  .ite h1 h1.rejoinFail

theorem Keeps.votePair {d : ℕ} {o : ℕ} {xd : CoreInput} {xe : CoreInput} {xo : CoreInput} {tick : ℕ} (h : Keeps s₀ s) : Keeps s₀ (State.votePair s d o xd xe xo tick) :=
  have h1 := (h.same (by rfl))
  .ite h1.fatalVote (.bind h1.setFreq.followCore fun h2 => .ite h2.voteProbation h2)

theorem Keeps.voteRecover {d : ℕ} {x0 : CoreInput} {x1 : CoreInput} {x2 : CoreInput} (h : Keeps s₀ s) : Keeps s₀ (State.voteRecover s d x0 x1 x2) :=
  .ite (.bind h.putCore.putCore.putCore fun h1 => .ite h1 (.foldl (h1.same (by rfl)) fun _ _ h2 => .ite h2 h2.rejoinFail)) h

theorem execVoteUpdate_answers {k : ℕ} {r0 : CoreReport} {r1 : CoreReport} {r2 : CoreReport} : Answers true s (execVoteUpdate k r0 r1 r2 s) :=
  .next (.ite (Keeps.refl s) (.bind (.upset (.upset (.upset (.ite (Keeps.refl s) ((Keeps.refl s).same (by rfl)))))) fun h1 => .bind (.noteReport (.noteReport (.noteReport (.ite h1.injFlag h1)))) fun h2 => .bind (.ite h2.voteTriad (.ite (.ite h2.votePair (.ite h2.votePair h2.votePair)) (by split; exacts [h2.voteRecover, h2]))) fun h3 => .ite h3 (h3.same (by rfl))))

theorem execCoreCatchupDone_answers {core : ℕ} : Answers (decide (core < 3)) s (execCoreCatchupDone core s) :=
  .unit (.ite (Keeps.refl s).putCore.set.setCore (Keeps.refl s))

theorem execRejoinExpiry_answers {core : ℕ} : Answers (decide (core < 3)) s (execRejoinExpiry core s) :=
  .unit (.ite (Keeps.refl s).rejoined (Keeps.refl s))

theorem Keeps.coreIn {k : ℕ} (h : Keeps s₀ s) : Keeps s₀ (State.coreIn s k) :=
  h.takeGen.setCore.set.lineOff.putCore

theorem Keeps.recovered (h : Keeps s₀ s) : Keeps s₀ (State.recovered s) :=
  .showIn (.setMode (.foldl (h.same (by rfl)) fun _ _ h1 => h1.coreIn.raise))

theorem execCoreReadmit_answers {core : ℕ} : Answers (decide (core < 3)) s (execCoreReadmit core s) :=
  .unit (.ite (Keeps.refl s) (by split; exacts [.ite (Keeps.refl s).recovered (Keeps.refl s), .ite (Keeps.refl s).coreIn.setMode.showIn.raise (Keeps.refl s)]))

theorem execCoreShuntApply_answers : Answers true s (execCoreShuntApply s) :=
  .next (by split; exacts [(Keeps.refl s), .ite (Keeps.refl s) (.bind ((Keeps.refl s).same (by rfl)) fun h1 => .ite (.ite (h1.same (by rfl)).shuntRefuse h1) (.bind h1.setCore.putCore fun h2 => .bind (.setShunted (.ite (h2.same (by rfl)).setMode.showIn.set h2)) fun h3 => .ite h3.shuntDone h3.shuntRec))])

theorem execLeapPend_answers : Answers true s (execLeapPend s) :=
  .next (.ite (Keeps.refl s).leapWarn (Keeps.refl s))

theorem Keeps.setWarm {on : Bool} (h : Keeps s₀ s) : Keeps s₀ (State.setWarm s on) :=
  have h1 := (h.same (by rfl)).lineSet
  .ite h1.setFlag.level.showDisc.oscRec h1

theorem execOcxoWarmSet_answers : Answers true s (execOcxoWarmSet s) :=
  .next (.ite (Keeps.refl s).setWarm (Keeps.refl s))

theorem execOcxoWarmClear_answers : Answers true s (execOcxoWarmClear s) :=
  .next (.ite (Keeps.refl s).setWarm (Keeps.refl s))

theorem execCellHeatDone_answers : Answers true s (execCellHeatDone s) :=
  .next (Keeps.refl s).cellMove

theorem execCellLineFound_answers : Answers true s (execCellLineFound s) :=
  .next ((Keeps.refl s).same (by rfl)).cellMove

theorem execCellResonanceLock_answers : Answers true s (execCellResonanceLock s) :=
  .next (Keeps.refl s).cellMove

theorem execCellAcquireTimeout_answers : Answers true s (execCellAcquireTimeout s) :=
  .next (.inRh (Keeps.refl s) (.ite ((Keeps.refl s).same (by rfl)).setCell (Keeps.refl s)))

theorem execCellSignalLost_answers : Answers true s (execCellSignalLost s) :=
  .next ((Keeps.refl s).same (by rfl)).cellMove

theorem execCellMeasurement_answers {y : ℤ} : Answers true s (execCellMeasurement y s) :=
  .next (.inRh (Keeps.refl s) (.ite (.bind (.perCore (Keeps.refl s).setS (fun _ h1 => (h1.same (by rfl)))) fun h1 => .ite h1.setEfc h1) (Keeps.refl s)))

theorem Keeps.takeEdge {k : Nat} {r : RefStamp × State} (h : Keeps s₀ s) (e : s.takeEdge k = some r) : Keeps s₀ r.2 := by
  unfold State.takeEdge at e
  split at e
  · split at e
    · obtain rfl := Option.some.inj e
      exact .same h (by rfl)
    · cases e
  · cases e

theorem Keeps.candAccept {k : ℕ} {m : Meas} {pt : FreqPt} (h : Keeps s₀ s) : Keeps s₀ (State.candAccept s k m pt) := by
  unfold State.candAccept
  extract_lets _ _ t2 t3 t4
  have h2 : Keeps s₀ t2 := h.putSlot
  have h3 : Keeps s₀ t3 := h2.wrS
  have h4 : Keeps s₀ t4 := h3.set
  exact h4.setS.showDiffs

theorem Keeps.leaveLost {k : ℕ} {pt : FreqPt} {t : ℤ} {c : ℤ} {wait : Bool} (h : Keeps s₀ s) : Keeps s₀ (State.leaveLost s k pt t c wait) := by
  unfold State.leaveLost
  extract_lets _ t2 t3
  have h2 : Keeps s₀ t2 := h.putSlot
  have h3 : Keeps s₀ t3 := .ite h2.freqOrigin h2
  exact h3.wrS.setCand.showDiffs

theorem Keeps.candJudge {k : ℕ} {why : ℕ} {hit : Bool} {pt : FreqPt} {t : ℤ} {c : ℤ} (h : Keeps s₀ s) : Keeps s₀ (State.candJudge s k why hit pt t c) :=
  .bind (.ite h.putSlot h) fun h1 => .ite h1 (.ite h1.setCand (.ite (.ite h1 h1.leaveLost) (.ite h1.setCand h1)))

theorem Keeps.collect {k : ℕ} {m : Meas} (h : Keeps s₀ s) : Keeps s₀ (State.collect s k m) :=
  .ite h.putSlot h

theorem Keeps.feed {k : ℕ} {cold : Bool} {t : ℤ} {o : ℤ} (h : Keeps s₀ s) : Keeps s₀ (State.feed s k cold t o) :=
  .ite (h.same (by rfl)).sendFeed h

theorem Keeps.candSample {k : ℕ} {t : ℤ} {c : ℤ} {o : ℤ} {cold : Bool} {srcOk : Bool} (h : Keeps s₀ s) : Keeps s₀ (State.candSample s k t c o cold srcOk) :=
  .ite h (.bind h.bump.putSlot fun h1 => .bind (.candJudge (.ite h1.bump.raise h1.candAccept)) fun h2 => .ite h2 h2.feed.collect)

theorem Keeps.phaseSample {k : ℕ} {c : ℤ} {t : ℤ} {cold : Bool} {srcOk : Bool} (h : Keeps s₀ s) : Keeps s₀ (State.phaseSample s k c t cold srcOk) :=
  .candSample (.ite h.freqOrigin h)

theorem execCandidateSample_answers {slot : Nat} {raw : RawSample} : Answers (decide (slot < 12)) s (execCandidateSample slot raw s) := by
  unfold execCandidateSample
  have h : Keeps s s := .refl s
  refine .unit (.inRh h (.ite h ?_))
  dsimp only
  split
  · split
    · next e => exact (h.takeEdge e).candSample
    · exact h
  · split
    · next e => exact .ite (h.takeEdge e).phaseSample h
    · exact h
  · exact .ite h.phaseSample h
  · exact .ite (.candSample (.ite h.putSlot h)) h
  · exact .ite (.ite h.bump.setCand (.ite h.bump.setCand h.bump)) h

theorem execCandTimeout_answers {slot : ℕ} {tick : ℕ} : Answers (decide (slot < 12)) s (execCandTimeout slot tick s) :=
  .unit (.inRh (Keeps.refl s) (.ite (Keeps.refl s) (Keeps.refl s).putSlot.setCand))

theorem execCandQualified_answers {slot : ℕ} : Answers (decide (slot < 12)) s (execCandQualified slot s) :=
  .unit (.inRh (Keeps.refl s) (.ite (Keeps.refl s).qualify (Keeps.refl s)))

theorem execWtrDone_answers {slot : ℕ} : Answers (decide (slot < 12)) s (execWtrDone slot s) :=
  .unit (.inRh (Keeps.refl s) (.ite (Keeps.refl s).wtrEnd (Keeps.refl s)))

theorem execRefInEdge_answers {input : ℕ} {falling : Bool} {tick : ℕ} {phase : ℕ} {tap : ℕ} : Answers (decide (input < 4)) s (execRefInEdge input falling tick phase tap s) :=
  .unit (.inRh (Keeps.refl s) (.ite (Keeps.refl s) ((Keeps.refl s).same (by rfl))))

theorem Keeps.setEsmc {k : ℕ} {ssm : ℕ} {enh : ℕ} (h : Keeps s₀ s) : Keeps s₀ (State.setEsmc s k ssm enh) :=
  h.set.set.raiseIf

theorem execEsmcReceive_answers {slot : ℕ} {ssm : ℕ} {enh : ℕ} : Answers (decide (slot < 12)) s (execEsmcReceive slot ssm enh s) :=
  .unit (.inRh (Keeps.refl s) (.ite (Keeps.refl s).setEsmc (Keeps.refl s)))

theorem execEsmcTimeout_answers {slot : ℕ} : Answers (decide (slot < 12)) s (execEsmcTimeout slot s) :=
  .unit (.inRh (Keeps.refl s) (Keeps.refl s).setEsmc)

theorem execPrepareEnd_answers : Answers true s (execPrepareEnd s) :=
  .next (.inRh (Keeps.refl s) (.ite (Keeps.refl s) (.ite (Keeps.refl s).set (.bind ((Keeps.refl s).same (by rfl)) fun h1 => .bind (.setSel (.setFlag (.set
    (.ite (.foldl h1 fun _ _ h2 => h2.putSlot) h1)))) fun h2 => .ite h2.wrS (.ite (h2.wrS.raiseIf.same (by rfl)).showStepPend (h2.same (by rfl)).showStepPend)))))

theorem execSettleTimeout_answers : Answers true s (execSettleTimeout s) :=
  .next (.inRh (Keeps.refl s) (.ite (Keeps.refl s).setCand.raise.decide_.showSel (Keeps.refl s)))

theorem execSteerDone_answers : Answers true s (execSteerDone s) :=
  .next (.inRh (Keeps.refl s) (.ite ((Keeps.refl s).same (by rfl)).raise (Keeps.refl s)))

theorem Keeps.tebUpdate (h : Keeps s₀ s) : Keeps s₀ (State.tebUpdate s) :=
  .ite h (h.same (by rfl))

theorem Keeps.startClock {now : ℤ} {au : ℕ} (h : Keeps s₀ s) : Keeps s₀ (State.startClock s now au) :=
  (h.same (by rfl)).setS

theorem Keeps.holdModel {now : ℤ} (h : Keeps s₀ s) : Keeps s₀ (State.holdModel s now) := by
  unfold State.holdModel
  extract_lets _ _ _ _ t2 _ t3 _ t4
  have h2 : Keeps s₀ t2 := (h.same (by rfl))
  have h3 : Keeps s₀ t3 := h2.startClock
  clear_value t3
  have h4 : Keeps s₀ t4 := (h3.same (by rfl))
  exact .ite h (.ite h4.set.set.holdEvt h.set)

theorem Keeps.setSrv {new : ℕ} (h : Keeps s₀ s) : Keeps s₀ (State.setSrv s new) :=
  .ite h (.bind h.set.setFlag fun h1 => .bind (.ite h1 h1.set) fun h2 => .trig (.raise (.ite h2 h2.set)))

theorem Keeps.enterHoldover {now : ℤ} (h : Keeps s₀ s) : Keeps s₀ (State.enterHoldover s now) := by
  unfold State.enterHoldover
  extract_lets _ _ t2 t3 t4 _ t5
  have h2 : Keeps s₀ t2 := (h.same (by rfl))
  have h3 : Keeps s₀ t3 := h2.startClock.wrT.bump
  have h4 : Keeps s₀ t4 := h3.set.set.set
  clear_value t4
  have h5 : Keeps s₀ t5 := (h4.same (by rfl))
  exact h5.setSrv.holdEvt.writeHold

theorem Keeps.enterSwitchHold {now : ℤ} (h : Keeps s₀ s) : Keeps s₀ (State.enterSwitchHold s now) :=
  h.startClock.set.setSrv

theorem Keeps.takeSel {now : ℤ} (h : Keeps s₀ s) : Keeps s₀ (State.takeSel s now) :=
  have h1 := (h.same (by rfl))
  .ite h1.setSrv (.ite (.ite h1 h1.enterHoldover) (.ite h1.enterSwitchHold h1))

theorem Keeps.lockTest {t : ℤ} {o : ℤ} (h : Keeps s₀ s) : Keeps s₀ (State.lockTest s t o) :=
  .ite (.ite (.bind (h.same (by rfl)) fun h1 => .ite (h1.same (by rfl)).setSrv.bump.raise h1) (h.same (by rfl))) (.ite (.bind (h.same (by rfl)) fun h1 => .ite
    (h1.same (by rfl)).setSrv.bump.raise h1) h)

theorem Keeps.acceptFeed {f : FeedSample} (h : Keeps s₀ s) : Keeps s₀ (State.acceptFeed s f) :=
  ((h.same (by rfl)).set.same (by rfl)).wrS.set.lockTest

theorem Keeps.acquire {now : ℤ} (h : Keeps s₀ s) : Keeps s₀ (State.acquire s now) :=
  ((h.same (by rfl)).same (by rfl)).setSrv

theorem Keeps.takeFeed {now : ℤ} {f : FeedSample} (h : Keeps s₀ s) : Keeps s₀ (State.takeFeed now s f) :=
  have h1 := h.bump
  .ite h1.acquire.acceptFeed (.ite h1.acceptFeed h1)

theorem Keeps.setClamp {on : Bool} (h : Keeps s₀ s) : Keeps s₀ (State.setClamp s on) :=
  .ite h (.bind h.setFlag.level fun h1 => .ite h1.bump h1)

theorem Keeps.sendWord {raw : ℤ} (h : Keeps s₀ s) : Keeps s₀ (State.sendWord s raw) :=
  (h.setClamp.same (by rfl)).setS.setS

theorem Keeps.servoUpdate {k : ℕ} {temp : ℤ} (h : Keeps s₀ s) : Keeps s₀ (State.servoUpdate s k temp) := by
  unfold State.servoUpdate
  extract_lets _ t2 _ t3 t4 _ t5 _ _ t6 t7 t8 t9 t10 _
  have h2 : Keeps s₀ t2 := h.setS
  have h3 : Keeps s₀ t3 := h2.holdModel
  have h4 : Keeps s₀ t4 := .ite h3.takeSel h3
  clear_value t4
  have h5 : Keeps s₀ t5 := (h4.same (by rfl)).setFlag
  clear_value t5
  have h6 : Keeps s₀ t6 := (h5.same (by rfl))
  have h7 : Keeps s₀ t7 := .foldl h6 fun _ _ h6 => h6.takeFeed
  have h8 : Keeps s₀ t8 := h7.set.setFlag
  have h9 : Keeps s₀ t9 := h8.sendWord
  have h10 : Keeps s₀ t10 := .ite h9.wr h9
  clear_value t10
  exact (h10.same (by rfl))

theorem execServoUpdate_answers {k : ℕ} {temp : ℤ} : Answers true s (execServoUpdate k temp s) :=
  .next (.ite (Keeps.refl s) (.tebHoldRow (.tebUpdate (.perCore (Keeps.refl s) (fun _ h1 => h1.servoUpdate)))))

theorem Keeps.fitHours (h : Keeps s₀ s) : Keeps s₀ (State.fitHours s) :=
  .ite (.ite h (h.setS.setS.same (by rfl))) (.ite h (h.setS.same (by rfl)))

theorem execHoldFit_answers : Answers true s (execHoldFit s) :=
  .next (.ite (.perCore (Keeps.refl s) (fun _ h1 => .bind (h1.same (by rfl)) fun h2 => .ite h2.fitHours.holdRec h2)) (Keeps.refl s))

theorem execHoldRecordPeriod_answers : Answers true s (execHoldRecordPeriod s) :=
  .next (.ite (.perCore (Keeps.refl s) (fun _ h1 => h1.writeHold)) (Keeps.refl s))

theorem execPllBandChosen_answers {pll : ℕ} {band : ℕ} : Answers (decide (pll < 4)) s (execPllBandChosen pll band s) :=
  .unit (.inRh (Keeps.refl s) (.ite (.bind (Keeps.refl s).set fun h1 => .ite h1.setPll h1) (Keeps.refl s)))

theorem execPllLocked_answers {pll : ℕ} {us : ℕ} {errPs : ℕ} : Answers (decide (pll < 4)) s (execPllLocked pll us errPs s) :=
  .unit (.inRh (Keeps.refl s) (.ite (Keeps.refl s).setPll.set.bump.raise.putPll (Keeps.refl s)))

theorem Keeps.pllFail {p : ℕ} {loss : Bool} (h : Keeps s₀ s) : Keeps s₀ (State.pllFail s p loss) :=
  have h1 := h.bump
  .ite h1.setPll.raise.lineOn.putPll h1.pllStart

theorem execPllLockFail_answers {pll : ℕ} : Answers (decide (pll < 4)) s (execPllLockFail pll s) :=
  .unit (.inRh (Keeps.refl s) (.ite (Keeps.refl s).pllFail (Keeps.refl s)))

theorem execPllUnlock_answers {pll : ℕ} {errPs : ℕ} : Answers (decide (pll < 4)) s (execPllUnlock pll errPs s) :=
  .unit (.inRh (Keeps.refl s) (.ite (.bind (Keeps.refl s).bump.raise.setPll.pllToBypass fun h1 => .ite h1.pllStart h1.pllFail) (Keeps.refl s)))

theorem execPllRefLost_answers {pll : ℕ} : Answers (decide (pll < 4)) s (execPllRefLost pll s) :=
  .unit (.inRh (Keeps.refl s) (.ite (.bind (Keeps.refl s).set.bump.raise.lineOn.pllToBypass fun h1 => .ite h1.putPll h1.setPll.putPll) (Keeps.refl s)))

theorem execPllRefRestored_answers {pll : ℕ} {held : Bool} : Answers (decide (pll < 4)) s (execPllRefRestored pll held s) :=
  .unit (.inRh (Keeps.refl s) (.ite (Keeps.refl s).set.lineOff.putPll (.ite (.bind (Keeps.refl s).putPll fun h1 => .ite h1.pllStart h1) (Keeps.refl s))))

theorem execBypassSynthUnlock_answers : Answers true s (execBypassSynthUnlock s) :=
  .next (.inRh (Keeps.refl s) (.foldl ((Keeps.refl s).same (by rfl)).lineOn fun _ _ h1 => .ite h1.muteOut h1))

theorem execClkReturnToPll_answers {n : ℕ} : Answers (decide (n < 4)) s (execClkReturnToPll n s) :=
  .unit (.inRh (Keeps.refl s) (.ite (Keeps.refl s).changeSrc.showBypass (Keeps.refl s)))

theorem Keeps.pulseRise {o : ℕ} {k : ℤ} {t : ℤ} (h : Keeps s₀ s) : Keeps s₀ (State.pulseRise s o k t) :=
  h.putOut

theorem execStarted_answers {out : ℕ} : Answers (decide (out < 8)) s (execStarted out s) :=
  .unit (.inRh (Keeps.refl s) (.ite (.bind (Keeps.refl s).setMisalign.putOut fun h1 => .raise (.putSrc (.ite h1 h1.pulseRise))) (Keeps.refl s)))

theorem execPulseEdge_answers {n : ℕ} : Answers (decide (n < 4)) s (execPulseEdge n s) :=
  .unit (.inRh (Keeps.refl s) (.ite (Keeps.refl s) (.ite (Keeps.refl s).putOut.takeMoves (.ite (Keeps.refl s).muteOut (Keeps.refl s).pulseRise))))

theorem execRealignDone_answers : Answers true s (execRealignDone s) :=
  .next (.inRh (Keeps.refl s) (.ite (.raise (.bump (.set (.foldl (Keeps.refl s) fun _ _ h1 => .ite (.bind h1.putOut.setMisalign fun h2 => .trig (.ite
    h2.setFlag h2)) h1)))) (Keeps.refl s)))

theorem execDrvFault_answers {out : ℕ} : Answers (decide (out < 8)) s (execDrvFault out s) :=
  .unit (.inRh (Keeps.refl s) (.ite (Keeps.refl s).muteOut.set.putOut.lineOn.raise (Keeps.refl s)))

theorem execTicArmAtReached_answers {tic : ℕ} {tick : ℕ} : Answers (decide (tic < 8)) s (execTicArmAtReached tic tick s) :=
  .unit (.inRh (Keeps.refl s) (by split; exacts [.ite (Keeps.refl s).ticArmNow (Keeps.refl s), (Keeps.refl s)]))

theorem Keeps.ticTake {t : ℕ} {stop : Bool} {tick : ℕ} {phase : ℕ} {tap : ℕ} {stamp : ℤ} (h : Keeps s₀ s) : Keeps s₀ (State.ticTake s t stop tick phase tap stamp) :=
  .bind (.ite h.wr.wrT.set.putTic h.wr.wrT.set.putTic) fun h1 => .bind (.ite h1 h1.set) fun h2 => .ite h2.ticEnd.bump.raise h2

theorem execTicEdge_answers {tic : ℕ} {stop : Bool} {falling : Bool} {tick : ℕ} {phase : ℕ} {tap : ℕ} : Answers (decide (tic < 8)) s (execTicEdge tic stop falling tick phase tap s) :=
  .unit (.inRh (Keeps.refl s) (.ite (Keeps.refl s) (.ite (.ite (Keeps.refl s) (Keeps.refl s).ticTake) (.ite (Keeps.refl s) (.ite (.ite (Keeps.refl s) (.ite
    (Keeps.refl s).putTic (Keeps.refl s).ticTake)) (Keeps.refl s).ticTake)))))

theorem execTicTimeout_answers {tic : ℕ} : Answers (decide (tic < 8)) s (execTicTimeout tic s) :=
  .unit (.inRh (Keeps.refl s) (.ite (Keeps.refl s).ticEnd.bump.raise (Keeps.refl s)))

theorem execTicAutoCal_answers {tic : ℕ} {temp : ℤ} : Answers (decide (tic < 8)) s (execTicAutoCal tic temp s) :=
  .unit (.inRh (Keeps.refl s) (.bind (Keeps.refl s).newTemp fun h1 => .ite h1.ticCalStart h1))

theorem execTicCalDone_answers {tic : ℕ} {r0 : CalResult} {r1 : CalResult} {temp : ℤ} : Answers (decide (tic < 8)) s (execTicCalDone tic r0 r1 temp s) :=
  .unit (.inRh (Keeps.refl s) (.ite (Keeps.refl s) (.bind (Keeps.refl s).ticCalTake fun h1 => .putTic (.set (.ite h1.set h1)))))

theorem Keeps.pairTake {pair : ℕ} {m : ℕ} {r : CalResult} {temp : ℤ} (h : Keeps s₀ s) : Keeps s₀ (State.pairTake s pair m r temp) :=
  have h1 := h.newTemp
  .trig (.showPair (.ite (.bind h1.putPair fun h2 => .ite h2.bump h2) (.bind h1.putPair fun h2 => .ite h2.pulse h2)))

theorem execPairRecal_answers {pair : ℕ} {r : CalResult} {temp : ℤ} : Answers (decide (pair < pairCount)) s (execPairRecal pair r temp s) :=
  .unit (.ite (Keeps.refl s) (.ite (Keeps.refl s).newTemp.showPair (Keeps.refl s).pairTake.putPair))

theorem execPairSwap_answers {pair : ℕ} {tick : ℕ} : Answers (decide (pair < pairCount)) s (execPairSwap pair tick s) :=
  .unit (.ite (Keeps.refl s).putPair.showPair.trig (Keeps.refl s))

theorem Keeps.putPos {p : ℤ × ℤ × ℤ} (h : Keeps s₀ s) : Keeps s₀ (State.putPos s p) :=
  h.setS.setS.setS

theorem Keeps.posSync (h : Keeps s₀ s) : Keeps s₀ (State.posSync s) :=
  .ite h.set.putPos (.ite h.surveyClear h)

theorem Keeps.navTake {e : GnssEpoch} (h : Keeps s₀ s) : Keeps s₀ (State.navTake s e) :=
  (h.same (by rfl))

theorem Keeps.noiseTake {n1 : ℕ} {n5 : ℕ} (h : Keeps s₀ s) : Keeps s₀ (State.noiseTake s n1 n5) :=
  .ite (h.same (by rfl)) (h.same (by rfl))

theorem Keeps.gnsEvt {bit : ℕ} (h : Keeps s₀ s) : Keeps s₀ (State.gnsEvt s bit) :=
  h.raise.gnsRec

theorem Keeps.setExcl {sys : ℕ} {on : Bool} (h : Keeps s₀ s) : Keeps s₀ (State.setExcl s sys on) :=
  have h1 := h.set
  .ite h1.gnsEvt h1.gnsRec

theorem Keeps.readmit {all : List ConsMeas} {part : List ConsMeas} {sys : ℕ} (h : Keeps s₀ s) : Keeps s₀ (State.readmit s all part sys) :=
  .ite h (.ite (h.same (by rfl)).setExcl (h.same (by rfl)))

theorem Keeps.checkCons {all part : List ConsMeas} (h : Keeps s₀ s) : Keeps s₀ (s.checkCons all part).1 := by
  unfold State.checkCons
  extract_lets t known bad
  have ht : Keeps s₀ t := .foldl h fun _ _ h1 => h1.readmit
  clear_value t
  have run : ∀ r, Keeps s₀ { t with gns := { t.gns with outRun := r } } := fun r => .same ht (by rfl)
  refine .ite1 (run none) (.ite1 (run none) ?_)
  split
  · exact run none
  · refine .ite1 ?_ (run _)
    dsimp only
    exact (run none).setExcl

theorem Keeps.flyAdvance {stamp : ℤ} (h : Keeps s₀ s) : Keeps s₀ (State.flyAdvance s stamp) :=
  (h.same (by rfl))

theorem Keeps.clearSuspected (h : Keeps s₀ s) : Keeps s₀ (State.clearSuspected s) := by
  unfold State.clearSuspected
  extract_lets _ t2 t3
  have h2 : Keeps s₀ t2 := (h.same (by rfl))
  clear_value t2
  have h3 : Keeps s₀ t3 := h2.set.level.set.gnsEvt
  clear_value t3
  split
  · exact .ite h3.setCand h3
  · exact h3

theorem Keeps.setSuspect (h : Keeps s₀ s) : Keeps s₀ (State.setSuspect s) := by
  unfold State.setSuspect
  extract_lets t2 t3
  have h2 : Keeps s₀ t2 := h.set.level.bump
  clear_value t2
  have h3 : Keeps s₀ t3 := h2.set.gnsEvt
  clear_value t3
  split
  · exact h3.setCand
  · exact h3

theorem Keeps.suspectEpoch {res : List ℕ} (h : Keeps s₀ s) : Keeps s₀ (State.suspectEpoch s res) :=
  .ite (.ite h.clearSuspected (.ite h.clearSuspected h.set)) (.bind (h.same (by rfl)) fun h1 => .ite h1.setSuspect h1)

theorem Keeps.flyAnchor {tai : Option Int} {full passing : Bool} (h : Keeps s₀ s) : Keeps s₀ (s.flyAnchor tai full passing) := by
  unfold State.flyAnchor
  extract_lets n due
  clear_value n due
  split
  · exact .same h (by rfl)
  · exact .same h (by rfl)

theorem Keeps.learnGns {l : List ConsMeas} (h : Keeps s₀ s) : Keeps s₀ (State.learnGns s l) :=
  (h.same (by rfl))

theorem Keeps.posTake {pos : Option (ℤ × ℤ × ℤ)} {sigma : ℕ} {sats : ℕ} (h : Keeps s₀ s) : Keeps s₀ (State.posTake s pos sigma sats) :=
  have h1 := h.set
  .bind (.ite h1 h1.set) fun h2 => by
  unfold State.posTake
  split
  · exact h2
  · exact .ite h2.set.putPos (.ite (h2.same (by rfl)).set.putPos.set h2)

theorem Keeps.keepSol {stamp : ℤ} {r : Option ℤ} (h : Keeps s₀ s) : Keeps s₀ (State.keepSol s stamp r) := by
  unfold State.keepSol
  split
  · exact (h.same (by rfl))
  · exact (h.same (by rfl))

theorem Keeps.makeSample {stamp : ℤ} {r : ℤ} (h : Keeps s₀ s) : Keeps s₀ (State.makeSample s stamp r) := by
  unfold State.makeSample
  split
  · exact h
  · exact .same (.ite h h.putSlot) (by rfl)

theorem execGnssEpoch_answers {e : GnssEpoch} : Answers true s (execGnssEpoch e s) := by
  refine .next (.ite (.refl s) ?_)
  extract_lets stamp _ t1 t2 l sats usable need all en part
  have h1 : Keeps s t1 := .same (.refl s) (by rfl)
  have h2 : Keeps s t2 := h1.noiseTake.navTake.posSync
  clear_value t2
  have checked : Keeps s (if bitOn en 0 then t2.checkCons all part else (t2, 0, part)).1 := .ite1 h2.checkCons h2
  split
  next t3 cons part' e3 =>
  rw [e3] at checked
  extract_lets kept time r tai band t4 clock pos posr res runs _ t5 was t6 suspect by3 code t7 held t8 passing full t9 t10 t11 t12 _ t13
  have h4 : Keeps s t4 := checked.flyAdvance
  clear_value t4
  have h5 : Keeps s t5 := .same h4 (by rfl)
  have h7 : Keeps s t7 := h5.suspectEpoch.set
  clear_value t7
  have h8 : Keeps s t8 := .ite h7.bump h7
  have h9 : Keeps s t9 := h8.flyAnchor
  clear_value t9
  have h10 : Keeps s t10 := .ite h9.learnGns h9
  have h12 : Keeps s t12 := h10.setFlag.posTake.set.set
  clear_value t12
  have h13 : Keeps s t13 := .keepSol (.same h12 (by rfl))
  clear_value t13 held r
  split
  · exact h13.makeSample
  · exact h13

theorem execGnssSampleDelivery_answers : Answers true s (execGnssSampleDelivery s) := by
  refine .next (.inRh (.refl s) ?_)
  split
  · exact .refl s
  · have taken : Keeps s { s with gns := { s.gns with ready := none } } := .same (.refl s) (by rfl)
    refine .ite taken ?_
    dsimp only
    split
    · exact taken.bump
    · exact taken.bump.candSample

theorem execChannelAcquired_answers {ch : ℕ} {sig : ℕ} {sat : ℕ} {dop : ℤ} {chips : ℕ} {sums : ℕ} : Answers (decide (ch < 192)) s (execChannelAcquired ch sig sat dop chips sums s) :=
  .unit (.ite ((Keeps.refl s).same (by rfl)).showTrack (Keeps.refl s))

theorem Keeps.inGn (h : Keeps s₀ s) (k : Keeps s₀ t) : Keeps s₀ (s.inGn t) := .ite k h

theorem execChannelLockDrop_answers {ch : ℕ} {cn0 : ℕ} : Answers (decide (ch < 192)) s (execChannelLockDrop ch cn0 s) :=
  .unit (.inGn (Keeps.refl s) (by split; exacts [.ite ((Keeps.refl s).same (by rfl)).showTrack (Keeps.refl s), (Keeps.refl s)]))

theorem execChannelSearchWarm_answers {ch : ℕ} : Answers (decide (ch < 192)) s (execChannelSearchWarm ch s) :=
  .unit (.inGn (Keeps.refl s) (by split; exacts [.ite ((Keeps.refl s).same (by rfl)) (Keeps.refl s), (Keeps.refl s)]))

theorem execEngine_answers : Answers true s (execEngine s) :=
  .next (.ite (.bind ((Keeps.refl s).same (by rfl)).setEngine.raise.pulse fun h1 => .ite h1.engineStart h1) (Keeps.refl s))

theorem execSurveyDone_answers {sigma : ℕ} : Answers true s (execSurveyDone sigma s) :=
  .next (.ite (Keeps.refl s).putPos.set.set.set.gnsEvt (Keeps.refl s))

theorem Keeps.setJam {on : Bool} (h : Keeps s₀ s) : Keeps s₀ (State.setJam s on) :=
  .ite h h.setFlag.level.gnsRec

theorem execJamSet_answers : Answers true s (execJamSet s) :=
  .next (.inGn (Keeps.refl s) (.ite (Keeps.refl s).setJam (Keeps.refl s)))

theorem execJamClear_answers : Answers true s (execJamClear s) :=
  .next (.inGn (Keeps.refl s) (.ite (Keeps.refl s).setJam (Keeps.refl s)))

theorem execAnt_answers {ma : ℕ} {dv : ℕ} {limit : Bool} : Answers true s (execAnt ma dv limit s) :=
  .next (.inGn (Keeps.refl s) (.bind (Keeps.refl s).set.set fun h1 => .ite h1 (h1.set.same (by rfl)).lineSet.raiseIf.gnsRec))

theorem execAntBiasRetry_answers : Answers true s (execAntBiasRetry s) :=
  .next (.inGn (Keeps.refl s) (.ite ((Keeps.refl s).same (by rfl)) (Keeps.refl s)))

theorem Keeps.octets {a : ℕ} {n : ℕ} (h : Keeps s₀ s) : Keeps s₀ (State.octets s a n) :=
  h.wr.wr

theorem Keeps.rxPass {p : ℕ} {g : ℕ} {f : Frame} {ingT : ℤ} (h : Keeps s₀ s) : Keeps s₀ (State.rxPass s p g f ingT) := by
  unfold State.rxPass
  extract_lets t2 t3
  have h2 : Keeps s₀ t2 := h.sta
  have h3 : Keeps s₀ t3 := h2.sta
  exact h3.octets.addCar

theorem execFrameReceive_answers {port : ℕ} {st : Stamp} {f : Frame} {bad : Bool} {full : Bool} {codes : ℕ} {corr : ℕ} {uncorr : ℕ} : Answers (decide (port < 24)) s (execFrameReceive port st f bad full codes corr uncorr s) :=
  .unit (.ite (Keeps.refl s) (.bind (Keeps.refl s).demand.sta.sta.sta fun h1 => .ite h1.rxPass (.bind h1.sta fun h2 => by split; exacts [.ite h2.putPort h2, .ite h2.putPort h2, h2])))

theorem execLinkLoss_answers {port : ℕ} {why : ℕ} {cut : Option TxRef} : Answers (decide (port < 24)) s (execLinkLoss port why cut s) :=
  .unit (.ite (Keeps.refl s) (.bind (Keeps.refl s).goDown fun h1 => .bind (.ite h1.set h1) fun h2 => .ite h2.set h2))

theorem Keeps.goUp {p : ℕ} (h : Keeps s₀ s) : Keeps s₀ (State.goUp s p) :=
  h.setLink.putPort

theorem execLinkLock_answers {port : ℕ} : Answers (decide (port < 24)) s (execLinkLock port s) :=
  .unit (.ite (Keeps.refl s) (.bind (Keeps.refl s).setFlag.set.set.set.setLink fun h1 => .ite h1.goUp h1))

theorem execLinkHoldExpiry_answers {port : ℕ} {ms : ℕ} : Answers (decide (port < 24)) s (execLinkHoldExpiry port ms s) :=
  .unit (.ite (Keeps.refl s).goUp (Keeps.refl s))

theorem execModuleResetRelease_answers {port : ℕ} : Answers (decide (port < 24)) s (execModuleResetRelease port s) :=
  .unit (.ite (Keeps.refl s) ((Keeps.refl s).same (by rfl)).setRst)

theorem execModPresent_answers {port : ℕ} {present : Bool} : Answers (decide (port < 24)) s (execModPresent port present s) := by
  unfold execModPresent
  refine .unit ?_
  extract_lets _ t2 t3 _
  have h2 : Keeps s t2 := .ite ((Keeps.refl s).same (by rfl)) (Keeps.refl s)
  have h3 : Keeps s t3 := h2.setFlag.raise
  refine .ite ?_ ?_
  · exact h2
  · split
    · exact .ite h3.runBus.i2cEnd h3
    · exact h3

theorem execModInt_answers {port : ℕ} {low : Bool} : Answers (decide (port < 24)) s (execModInt port low s) :=
  .unit (.bind (.ite ((Keeps.refl s).same (by rfl)) (Keeps.refl s)) fun h1 => .ite h1 h1.setFlag.level)

theorem execI2cDone_answers {coach : ℕ} {ack : Bool} {data : ℕ} : Answers (decide (coach < 6)) s (execI2cDone coach ack data s) := by
  unfold execI2cDone
  refine .unit ?_
  extract_lets _
  split
  · exact (Keeps.refl s)
  · extract_lets t2 t3
    have h2 : Keeps s t2 := (Keeps.refl s).emit.runBus
    have h3 : Keeps s t3 := .ite h2.set h2
    exact .ite h2.i2cEnd h3.i2cEnd

theorem execI2cStuck_answers {coach : ℕ} {freed : Bool} : Answers (decide (coach < 6)) s (execI2cStuck coach freed s) :=
  .unit (.ite (Keeps.refl s) (.foldl (.foldl (Keeps.refl s).runBus fun _ _ h1 => h1.i2cEnd) fun _ _ h1 => h1.raise))

theorem execGearWindow_answers {coach : ℕ} : Answers (decide (coach < 6)) s (execGearWindow coach s) :=
  .unit (.ite (Keeps.refl s) (.bind (Keeps.refl s).clampGear.putCoach fun h1 => .ite h1.setGear (.ite h1.setGear h1)))

theorem Keeps.learn_ {mac : ℕ} {port : ℕ} (h : Keeps s₀ s) : Keeps s₀ (State.learn_ s mac port) :=
  .ite h (by split; exacts [.ite h h.putFdb, .ite h.bump.level (.bind h.putFdb fun h1 => .ite h1.level h1)])

theorem Keeps.countRefusal {dst : ℕ} {why : ℕ} {single : Bool} (h : Keeps s₀ s) : Keeps s₀ (State.countRefusal s dst why single) :=
  .bind (.ite h.sta h) fun h1 => .bind (.ite h1.bump h1) fun h2 => .ite h2.bump h2

theorem Keeps.queueCellsIn {f : SwFrame} (h : Keeps s₀ s) : Keeps s₀ (State.queueCellsIn s f) :=
  (h.same (by rfl))

theorem Keeps.admitFrame {o : Offer} (h : Keeps s₀ s) : Keeps s₀ (State.admitFrame s o) := by
  unfold State.admitFrame
  extract_lets _ _ t2 t3 _ _ _ _ _ _ _ _ t4
  have h2 : Keeps s₀ t2 := .foldl h fun _ _ h1 => .ite h1 h1.countRefusal
  clear_value t2
  have h3 : Keeps s₀ t3 := .ite (.ite h2.bump.raise h2.bump.raise) h2
  clear_value t3
  have h4 : Keeps s₀ t4 := (h3.same (by rfl))
  clear_value t4
  split
  · exact h3.txResult
  · exact h3
  · exact h4.queueCellsIn.showBuf

theorem Keeps.admitCarriage {c : ℕ} {k : Carriage} (h : Keeps s₀ s) : Keeps s₀ (State.admitCarriage s c k) :=
  have h1 := h.dropCar
  .ite h1.bump (.ite h1.bump (.bind (.ite h1.learn_ h1) fun h2 => .ite h2.bump h2.admitFrame))

theorem execFrameAdmission_answers {coach : ℕ} {slot : ℕ} : Answers (decide (coach < 6)) s (execFrameAdmission coach slot s) := by
  unfold execFrameAdmission
  refine .unit ?_
  extract_lets _
  split
  · exact (Keeps.refl s)
  · refine .ite ?_ ?_
    · exact (Keeps.refl s)
    · extract_lets t2
      have h2 : Keeps s t2 := (Keeps.refl s).toSlot.putCoach
      clear_value t2
      split
      · exact h2.admitCarriage
      · exact h2

theorem Keeps.sramCell {ecc : Nat} (h : Keeps s₀ s) : Keeps s₀ (s.sramCell ecc).1 := by
  unfold State.sramCell
  split
  · exact h.injFlag
  · exact h

theorem Keeps.crcRetry {n : ℕ} (h : Keeps s₀ s) : Keeps s₀ (State.crcRetry s n) :=
  h.bumpBy.raiseIf

theorem Keeps.dramTransfer {bad : Bool} (h : Keeps s₀ s) : Keeps s₀ (s.dramTransfer bad).1 := by
  unfold State.dramTransfer
  split
  · exact .ite1 h.injFlag h.injFlag.crcRetry
  · exact h

theorem Keeps.dramUncorr (h : Keeps s₀ s) : Keeps s₀ (State.dramUncorr s) :=
  h.bump.raise.pulse

theorem Keeps.dropFrame {f : SwFrame} (h : Keeps s₀ s) : Keeps s₀ (State.dropFrame s f) :=
  h.dropCopies.tidy

theorem Keeps.eccFrame {f : SwFrame} {dram : Bool} (h : Keeps s₀ s) : Keeps s₀ (s.eccFrame f dram) := by
  unfold State.eccFrame
  extract_lets t1 _ _ t2
  have h1 : Keeps s₀ t1 := .ite h.dramUncorr h.bump.raise.pulse
  have h2 : Keeps s₀ t2 := h1.putSwFrame
  clear_value t2
  exact .dropFrame (.same h2 (by rfl))

theorem Keeps.takeCell {out q : Nat} {c : Cell} {ecc0 : Nat} (h : Keeps s₀ s) : Keeps s₀ (s.takeCell out q c ecc0) := by
  have h1 : Keeps s₀ (s.sramCell ecc0).1 := h.sramCell
  unfold State.takeCell
  dsimp only
  generalize (s.sramCell ecc0).2 = ecc
  generalize (s.sramCell ecc0).1 = t1 at h1
  have h2 : Keeps s₀ (if q = 25 then t1.dramTransfer false else (t1, false)).1 := .ite1 h1.dramTransfer h1
  generalize (if q = 25 then t1.dramTransfer false else (t1, false)) = r at h2
  have h3 : Keeps s₀ (if ecc = 1 then r.1.bump R.BUF_ECC_CORR_COUNT else r.1) := .ite h2.bump h2
  generalize (if ecc = 1 then r.1.bump R.BUF_ECC_CORR_COUNT else r.1) = t at h3
  split
  · exact .ite h3.bump h3
  · exact .ite (.ite h3.bump h3) (.ite h3.eccFrame (.ite h3.putSwFrame.showBuf (.ite h3.putSwFrame.dropCopies.tidy h3.putSwFrame.bump.showBuf)))

theorem execCellArrival_answers {output slot ecc : Nat} : Answers (decide (output < 8)) s (execCellArrival output slot ecc s) := by
  refine .unit (.ite (.refl s) ?_)
  extract_lets t1 _ t2
  have h1 : Keeps s t1 := Keeps.toSlot (.refl s)
  clear_value t1
  have h2 : Keeps s t2 := .same h1 (by rfl)
  clear_value t2
  dsimp only
  split
  · exact h2
  · split
    · exact h2
    · exact .takeCell (.same h2 (by rfl))

theorem execFrameRelease_answers {output : ℕ} {input : ℕ} {fid : ℕ} : Answers (decide (output < 7)) s (execFrameRelease output input fid s) :=
  .unit (by split; exacts [(Keeps.refl s), by split; exacts [(Keeps.refl s), .ite (Keeps.refl s) (.ite (Keeps.refl s).dropCopies.tidy (Keeps.refl s).putSwFrame.seqDone.endSpill.showBuf)]])

theorem Keeps.skip {out : ℕ} {input : ℕ} {fid : ℕ} (h : Keeps s₀ s) : Keeps s₀ (State.skip s out input fid) :=
  (h.bump.raise.same (by rfl))

theorem execReseqSkip_answers {output input cls us : Nat} : Answers (decide (output < 7)) s (execReseqSkip output input cls us s) := by
  unfold execReseqSkip
  extract_lets key v next mine t
  have ht : Keeps s t := by
    show Keeps s (match s.sw.lost.find? (fun e => decide (e.1 = key ∧ e.2.1 = v)) with
      | some e => { s.skip output input e.2.2.2 with sw := { (s.skip output input e.2.2.2).sw with lost := s.sw.lost.erase e } }
      | none => (s.bump R.SWF_RESEQ_SKIP_COUNT).raise P.SWF E.SWF_RESEQ_SKIP)
    split
    · exact .same (Keeps.refl s).skip (by rfl)
    · exact (Keeps.refl s).bump.raise
  refine .unit (.ite (.refl s) ?_)
  split
  · exact .ite (.refl s) (Keeps.refl s).skip.dropCopies.tidy
  · exact ht.seqDone

theorem execSpillReissue_answers {dst cls slot : Nat} {ecc : Bool} : Answers (decide (dst < 25)) s (execSpillReissue dst cls slot ecc s) := by
  have h1 : Keeps s (s.toSlot slot) := Keeps.toSlot (.refl s)
  unfold execSpillReissue
  refine .unit ?_
  generalize s.toSlot slot = t at h1
  dsimp only
  split
  · exact h1
  · have h2 : Keeps s (t.dramTransfer ecc).1 := h1.dramTransfer
    generalize t.dramTransfer ecc = r at h2
    exact .ite h1 (.ite h2.eccFrame (.queueCellsIn (.tidy (.same h2 (by rfl)))))

theorem execAged_answers {dst : ℕ} {cls : ℕ} : Answers (decide (dst < 25)) s (execAged dst cls s) :=
  .unit (by split; exacts [(Keeps.refl s), .ite (Keeps.refl s) (Keeps.refl s).bump.set.set.raise.descResult.dropCopies.tidy])

theorem execFdbAgeSweep_answers : Answers true s (execFdbAgeSweep s) :=
  .next (.ite (Keeps.refl s) (Keeps.refl s).putFdb)

theorem Keeps.expCross {f : SwFrame} {land : ℤ} (h : Keeps s₀ s) : Keeps s₀ (State.expCross s f land) :=
  .ite h (.bind (.ite h.set h) fun h1 => .ite h1.bump.raise h1)

theorem Keeps.sendGood {p : ℕ} {f : Frame} {land : ℤ} (h : Keeps s₀ s) : Keeps s₀ (State.sendGood s p f land) :=
  have h1 := h.sta
  .emit (.octets (.ite h1.sta (.ite h1.sta h1)))

theorem Keeps.showTsf {p : ℕ} (h : Keeps s₀ s) : Keeps s₀ (State.showTsf s p) :=
  have h1 := h.set
  .ite h1.set h1

theorem Keeps.tsfStore {p : ℕ} {stamp : ℤ} {tag : ℕ} {ring : ℕ} {origin : ℕ} (h : Keeps s₀ s) : Keeps s₀ (State.tsfStore s p stamp tag ring origin) :=
  .ite h.sta.raise.putPort h.putPort.showTsf

theorem Keeps.sendOrdinary {p : ℕ} {f : SwFrame} {land : ℤ} (h : Keeps s₀ s) : Keeps s₀ (State.sendOrdinary s p f land) :=
  have h1 := h.expCross.dropCopies.tidy.sendGood
  .bind (.ite h1.sta h1) fun h2 => .showSwBusy (by split; exacts [.ite h2.putPort.tsfStore h2.txResult, h2])

theorem execFrameTransmit_answers {port : ℕ} {cls : ℕ} {ecc : ℕ} {st : Stamp} : Answers (decide (port < 24)) s (execFrameTransmit port cls ecc st s) :=
  .unit (by split; exacts [(Keeps.refl s), .ite (Keeps.refl s) (.ite (Keeps.refl s).descResult.sta.dropCopies.tidy (.ite (Keeps.refl s).bump.dropCopies.tidy (.bind (.ite (Keeps.refl s).bump (Keeps.refl s)) fun h1 => .ite h1.eccFrame h1.sendOrdinary)))])

theorem execDramTransferError_answers {fails : ℕ} {ecc : ℕ} {spill : Option (ℕ × ℕ)} : Answers true s (execDramTransferError fails ecc spill s) :=
  .next (.ite (Keeps.refl s) (.bind (Keeps.refl s).crcRetry fun h1 => .bind (.ite h1.bump h1) fun h2 => .ite (by split; exacts [h2.eccFrame, h2.dramUncorr]) h2))

theorem execThrottle_answers {temp : ℤ} {load : ℕ} : Answers true s (execThrottle temp load s) :=
  .next (.ite (Keeps.refl s) (.bind (Keeps.refl s).setS.set fun h1 => .ite h1 h1.setFlag.level))

theorem Keeps.atStage {c cid : Nat} {st : Stage} {f : Carriage → State → State} (h : Keeps s₀ s) (hf : ∀ k u, Keeps s₀ u → Keeps s₀ (f k u)) : Keeps s₀ (s.atStage c cid st f) := by
  unfold State.atStage
  split
  · exact .ite h (.ite h.lose (hf _ _ h))
  · exact h

theorem Keeps.putCar {c : ℕ} {k : Carriage} (h : Keeps s₀ s) : Keeps s₀ (State.putCar s c k) :=
  h.putCoach

theorem Keeps.forward {c : ℕ} {k : Carriage} (h : Keeps s₀ s) : Keeps s₀ (State.forward s c k) :=
  h.putCar.putCoach

theorem execCarriageParse_answers {coach cid : Nat} : Answers (decide (coach < 6)) s (execCarriageParse coach cid s) := by
  refine .unit (.atStage (.refl s) fun k u h => ?_)
  have lost : ∀ k f, Keeps s ((u.bump (R.CO_RX_TS_COUNT coach)).lose coach k f) := fun _ _ => h.bump.lose
  dsimp only
  split
  · split
    · exact lost _ _
    · exact h.bump.putCar
  · split
    · exact lost _ _
    · exact h.bump.putCar
  · exact h.forward
  · exact h.lose

theorem Keeps.putUp {p : ℕ} {u : UpState} (h : Keeps s₀ s) : Keeps s₀ (State.putUp s p u) :=
  h.putCoach

theorem execUpstreamAnnounceTimeout_answers {port tick : Nat} : Answers (decide (port < 24)) s (execUpstreamAnnounceTimeout port tick s) := by
  refine .unit (.ite (.refl s) ?_)
  have gone : Keeps s (s.putUp port { s.upOf port with master := none, ann := none, sync := none }) := Keeps.putUp (.refl s)
  dsimp only
  generalize s.putUp port _ = t at gone
  split
  · exact .ite gone.putSlot.setCand gone.putSlot
  · exact gone

theorem Keeps.cltEcc {i : Nat} (h : Keeps s₀ s) : Keeps s₀ (s.cltEcc i) := by
  unfold State.cltEcc
  extract_lets t
  have ht : Keeps s₀ t := h.dramUncorr.bump.raise
  clear_value t
  split
  · exact ht.putEntry
  · exact ht

theorem Keeps.charge {g : ℕ} {hash : ℕ} {ntp : Bool} {t : ℤ} (h : Keeps s₀ s) : Keeps s₀ (State.charge s g hash ntp t).2 :=
  .ite2 (.ite2 (h.same (by rfl)).bump (.ite2 (h.same (by rfl)).bump.raise (h.same (by rfl)).bump.raise.set)) (.ite2 (h.same (by rfl)).bump (h.same (by
    rfl)).bump.raise.set)

theorem Keeps.startVerify {c : Nat} {k : Carriage} (h : Keeps s₀ s) : Keeps s₀ (s.startVerify c k).2 := by
  unfold State.startVerify
  split
  · split
    · exact h.sendPin
    · exact h
  · split
    · exact h
    · split
      · exact h.sendPin.sendPin
      · exact h
  · exact h

theorem Keeps.toVerify {c : Nat} {k0 : Carriage} (h : Keeps s₀ s) : Keeps s₀ (s.toVerify c k0) := by
  have started : Keeps s₀ (s.startVerify c k0).2 := h.startVerify
  unfold State.toVerify
  generalize s.startVerify c k0 = r at started
  dsimp only
  split
  · exact started.clientPlace.putCar
  · exact started.putCar

theorem execLookupDone_answers {coach cid : Nat} {hit ecc : Bool} : Answers (decide (coach < 6)) s (execLookupDone coach cid hit ecc s) := by
  refine .unit (.atStage (.refl s) fun k u h => .ite h ?_)
  split
  · have h1 : Keeps s (u.bump (if hit then R.CLT_CACHE_HIT_COUNT else R.CLT_CACHE_MISS_COUNT)) := h.bump
    dsimp only
    generalize u.bump (if hit then R.CLT_CACHE_HIT_COUNT else R.CLT_CACHE_MISS_COUNT) = t at h1
    have h2 : Keeps s (if hit then (t, ecc) else t.dramTransfer ecc).1 := .ite1 h1 h1.dramTransfer
    generalize (if hit then (t, ecc) else t.dramTransfer ecc) = r at h2
    split
    · exact h2.endCar.cltEcc
    · have charged : ∀ b : Bool, Keeps s (if b then (0, r.1) else r.1.charge k.gen k.srch false k.ingT).2 := fun _ => .ite2 h2 h2.charge
      generalize ((r.1.findClient _ _).isSome && r.1.cflag k.gen R.RATE_CFG_PTP_REG_EXEMPT) = b
      have h3 := charged b
      generalize (if b then (0, r.1) else r.1.charge k.gen k.srch false k.ingT) = q at h3
      have lost : ∀ k f, Keeps s (q.2.lose coach k f) := fun _ _ => h3.lose
      have verified : ∀ k, Keeps s (q.2.toVerify coach k) := fun _ => h3.toVerify
      refine .ite h3.endCar (.ite (lost _ _) (.ite (verified _) ?_))
      split
      · exact .ite (.ite h3.putEntry.toVerify (lost _ _)) (.ite (verified _) (lost _ _))
      · exact .ite (verified _) (lost _ _)
  · have charged : Keeps s (u.charge k.gen k.srch true k.ingT).2 := h.charge
    dsimp only
    generalize u.charge k.gen k.srch true k.ingT = q at charged
    exact .ite charged.endCar charged.toVerify

theorem Keeps.laneFault {lane : ℕ} (h : Keeps s₀ s) : Keeps s₀ (State.laneFault s lane) :=
  h.setLane.loseAll.raise.pulse.trig

theorem Keeps.upSync {g p b : Nat} {t1 cS t2 log : Int} (h : Keeps s₀ s) : Keeps s₀ (s.upSync g p b t1 cS t2 log) := by
  unfold State.upSync
  extract_lets u sl t ld lim
  have ht : Keeps s₀ t := h.putSlot
  clear_value t u
  dsimp only
  split
  · exact .ite ht (.ite ht.bump.candSample ht.bump)
  · exact ht

theorem Keeps.upMsg {k : Carriage} {m : PtpMsg} (h : Keeps s₀ s) : Keeps s₀ (State.upMsg s k m) := by
  unfold State.upMsg
  split
  · exact h
  · exact .ite (by split; exacts [h, .ite h (.ite h.putUp.putSlot h)]) (.ite h (.ite (.bind h.putUp fun h1 => .ite h1 h1.upSync) (.ite (by split; exacts [.ite h.putUp.upSync h, h]) (by split; exacts [.ite h.putUp h, h]))))

theorem Keeps.verified {c : ℕ} {k : Carriage} (h : Keeps s₀ s) : Keeps s₀ (State.verified s c k) := by
  unfold State.verified
  split
  · exact .ite (.ite h.lose h.upMsg.endCar) h.putCar
  · exact h.putCar

theorem execVerifyDone_answers {coach : ℕ} {cid : ℕ} {disagree : Bool} : Answers (decide (coach < 6)) s (execVerifyDone coach cid disagree s) :=
  .unit (.atStage (Keeps.refl s) (fun _ _ h1 => .ite h1.laneFault (.ite h1.lose (by split; exacts [by split; exacts [h1.verified, by split; exacts [h1.lose, .ite h1.lose h1.verified]], by split; exacts [h1.verified, .ite h1.verified (.ite h1.lose h1.verified)], h1.verified]))))

theorem Keeps.admitSign {k : Carriage} (h : Keeps s₀ s) : Keeps s₀ (State.admitSign s k) :=
  h.putCar

theorem Keeps.promise {k : Carriage} {f : Frame} {now : ℤ} {signNs : ℕ} (h : Keeps s₀ s) : Keeps s₀ (State.promise s k f now signNs) :=
  .ite h.endCar (.ite h.lose (.admitSign (by split; exacts [h.putUp, h])))

theorem Keeps.timedFrame {k : Carriage} {mac : ℕ} {trans : ℕ} {ip : ℕ} {tags : List (Bool × ℕ)} {m : PtpMsg} (h : Keeps s₀ s) : Keeps s₀ (State.timedFrame s k mac trans ip tags m).2 :=
  .ite h h.takeFree

theorem Keeps.composeTimed {k : Carriage} {auth : Option AuthTlv} {now : Int} (h : Keeps s₀ s) : Keeps s₀ (s.composeTimed k auth now) := by
  unfold State.composeTimed
  dsimp only
  split
  · exact h.promise
  · exact h.putPort.timedFrame.promise
  · exact h.takeFree.timedFrame.promise
  · exact h.timedFrame.promise
  · exact h.putPort.timedFrame.promise

theorem Keeps.refuseReq {why : ℕ} (h : Keeps s₀ s) : Keeps s₀ (State.refuseReq s why) :=
  h.bump.raise

theorem Keeps.applyGrant {q : NegReq} {client : Option ℕ} {m : ℕ} {log : ℤ} {dur : ℕ} (h : Keeps s₀ s) : Keeps s₀ (State.applyGrant s q client m log dur) :=
  .bind (.bump (.syncRecs (.writeEntry (.ite (.chainIn (by split; exacts [h, h.takeEntry])) (by split; exacts [h, h.takeEntry]))))) fun h1 => .showClt (.ite h1.bump h1)

theorem Keeps.negTlv {q : NegReq} {v : Tlv} (h : Keeps s₀ s) : Keeps s₀ (s.negTlv q v).1 := by
  unfold State.negTlv
  dsimp only
  split
  · exact .ite1 h.refuseReq h.applyGrant
  · split
    · split
      · exact .ite h.writeEntry.bump h
      · exact h
    · exact h
  · exact h

theorem Keeps.moveClient {q : NegReq} (h : Keeps s₀ s) : Keeps s₀ (State.moveClient s q) := by
  unfold State.moveClient
  split
  · exact by split; exacts [.ite h h.writeEntry, h]
  · exact h

theorem Keeps.negotiate {q : NegReq} {tlvs : List Tlv} (h : Keeps s₀ s) : Keeps s₀ (s.negotiate q tlvs).1 :=
  List.foldlRecOn (motive := fun r : State × List Tlv => Keeps s₀ r.1) _ _ h.moveClient fun _ hr _ _ => hr.negTlv

theorem Keeps.ptpAnswer {k : Carriage} {m : PtpMsg} (h : Keeps s₀ s) : Keeps s₀ (State.ptpAnswer s k m).2 :=
  .ite2 h (.ite2 h (.negotiate (.ite h.bump h)))

theorem Keeps.ntpAnswer {k : Carriage} {m : NtpMsg} (h : Keeps s₀ s) : Keeps s₀ (s.ntpAnswer k m).2 :=
  .ite2 h (.ite2 h (.ite2 h (.ite2 h (by split; exacts [h, h.takeFree]))))

theorem execComposeCarriage_answers {coach cid tick : Nat} : Answers (decide (coach < 6)) s (execComposeCarriage coach cid tick s) := by
  refine .unit (.atStage (.refl s) fun k u h => ?_)
  dsimp only
  refine .ite h.lose (.ite ?_ ?_)
  · split
    · exact h.composeTimed
    · refine .ite h.lose ?_
      split
      · exact h.lose
      · exact .composeTimed (.ite h h.sendPin)
  · split
    · next m _ =>
      have answered : Keeps s (u.ptpAnswer k m).2 := h.ptpAnswer
      generalize u.ptpAnswer k m = r at answered
      split
      · exact .endCar (.ite answered.addCar.forward answered)
      · exact .promise (.ite answered.addCar.forward answered)
    · exact .promise (.ite h.ntpAnswer.bump h.ntpAnswer)
    · exact h.endCar

theorem execSignQueueAdmit_answers {coach : ℕ} {cid : ℕ} : Answers (decide (coach < 6)) s (execSignQueueAdmit coach cid s) :=
  .unit (.atStage (Keeps.refl s) (fun _ _ h1 => h1.admitSign))

theorem Keeps.newCookies {k : Carriage} {n : Nat} (h : Keeps s₀ s) : Keeps s₀ (s.newCookies k n).2 := by
  unfold State.newCookies
  split
  · exact h
  · exact List.foldlRecOn (motive := fun r : List Nat × State => Keeps s₀ r.2) _ _ h fun _ hr _ _ => hr.takeFree

theorem Keeps.signFrame {k : Carriage} (h : Keeps s₀ s) : Keeps s₀ (s.signFrame k).2 := by
  unfold State.signFrame
  split
  · split
    · exact h
    · exact h
  · split
    · exact .ite2 h h.newCookies.takeFree
    · exact h
  · exact h

theorem execSignDone_answers {coach : ℕ} {cid : ℕ} {disagree : Bool} : Answers (decide (coach < 6)) s (execSignDone coach cid disagree s) :=
  .unit (.atStage (Keeps.refl s) (fun _ _ h1 => .ite h1.laneFault (.ite h1.lose h1.signFrame.unpin.putCar)))

theorem execSealSetupCheck_answers {coach : ℕ} {cid : ℕ} {tick : ℕ} : Answers (decide (coach < 6)) s (execSealSetupCheck coach cid tick s) :=
  .unit (by split; exacts [by split; exacts [.ite (Keeps.refl s) (Keeps.refl s).lose.sta.raise, (Keeps.refl s)], (Keeps.refl s)])

theorem Keeps.addFollowUp {k : Carriage} {d : ℤ} (h : Keeps s₀ s) : Keeps s₀ (State.addFollowUp s k d) := by
  unfold State.addFollowUp
  split
  · exact .addCar (by split; exacts [h.sendPin, h])
  · exact h

theorem Keeps.syncStamp {k : Carriage} {land : ℤ} {d : ℤ} (h : Keeps s₀ s) : Keeps s₀ (State.syncStamp s k land d) :=
  have h1 := h.tsfStore
  .ite h1 (.bind h1.putPort.showTsf fun h2 => .ite h2.bump.raise.pulse.trig h2)

theorem Keeps.launchCar {k : Carriage} {d : ℤ} {land : ℤ} (h : Keeps s₀ s) : Keeps s₀ (State.launchCar s k d land) :=
  have h1 := h.dropCar.sendGood
  by
  unfold State.launchCar
  split
  · exact h1.bump
  · exact .bind h1.bump fun h2 => .ite h2.syncStamp.addFollowUp h2
  · exact h1

theorem execLaunch_answers {coach : ℕ} {cid : ℕ} {tick : ℕ} {st : Stamp} : Answers (decide (coach < 6)) s (execLaunch coach cid tick st s) :=
  .unit (.atStage (Keeps.refl s) (fun _ _ h1 => by split; exacts [h1, .ite h1 (.ite (.bind h1.endCar.sta fun h2 => .ite h2.bump h2) h1.launchCar)]))

theorem Keeps.countStop {c : ℕ} (h : Keeps s₀ s) : Keeps s₀ (State.countStop s c) :=
  .ite h h.bump

theorem Keeps.mcPlace {port : Nat} (h : Keeps s₀ s) : Keeps s₀ (s.mcPlace port).2 := by
  unfold State.mcPlace
  dsimp only
  split
  · exact h
  · exact .ite2 h h.set

theorem execMulticastTimer_answers {port : ℕ} {kind : ℕ} {tick : ℕ} : Answers (decide (port < 24)) s (execMulticastTimer port kind tick s) :=
  .unit (.ite (Keeps.refl s) (.ite (.ite (Keeps.refl s) (.ite (Keeps.refl s).countStop (Keeps.refl s).putPort.mcPlace.addTimed)) (.ite (.ite (Keeps.refl s)
    (.ite (Keeps.refl s).putPort (.ite (Keeps.refl s).countStop (Keeps.refl s).mcPlace.addTimed))) (.ite (Keeps.refl s) (.ite (Keeps.refl s).countStop
    (Keeps.refl s).mcPlace.addTimed)))))

theorem Keeps.portDrained {p : ℕ} (h : Keeps s₀ s) : Keeps s₀ (State.portDrained s p) :=
  .ite h (h.putPort.setFlag.same (by rfl))

theorem execDrained_answers {page : ℕ} : Answers true s (execDrained page s) :=
  .next (.lateEnables (.ite (Keeps.refl s).showSwBusy (.ite (Keeps.refl s).showDmaBusy (.ite (Keeps.refl s).portDrained (.ite (.ite (Keeps.refl s) (Keeps.refl
    s).set.set.raise) (Keeps.refl s))))))

theorem Keeps.recLoss {n : ℕ} (h : Keeps s₀ s) : Keeps s₀ (State.recLoss s n) :=
  have h1 := h.dramUncorr.bumpBy.raise
  .ite (h1.same (by rfl)) h1

theorem execWheelSlot_answers {coach : ℕ} {tick : ℕ} {ecc : Bool} : Answers (decide (coach < 6)) s (execWheelSlot coach tick ecc s) :=
  .unit (.ite (Keeps.refl s) (.ite (Keeps.refl s).dramTransfer (.ite (Keeps.refl s).dramTransfer.putWheel.recLoss.buildNext.showClt (.bind (.ite (Keeps.refl
    s).dramTransfer.set (Keeps.refl s).dramTransfer) fun h1 => .ite h1 h1.putWheel))))

theorem Keeps.moveOn {c : ℕ} {slot : ℕ} {r : TtRecord} {e : ClientEntry} {t : ℤ} (h : Keeps s₀ s) : Keeps s₀ (State.moveOn s c slot r e t) :=
  have h1 := h.putWheel
  .ite (by split; exacts [h.putWheel, h1]) h1

theorem Keeps.visit {c : Nat} {k : SlotWork} {r : TtRecord} {t : Int} (h : Keeps s₀ s) : Keeps s₀ (s.visit c k r t) := by
  unfold State.visit
  dsimp only
  split
  · exact h
  · have put : ∀ e, Keeps s₀ (s.putEntry r.client e) := fun _ => h.putEntry
    refine .ite h ?_
    refine .ite (put _).moveOn.bump ?_
    refine .ite (put _).moveOn.bump ?_
    refine .ite (put _).moveOn.bump.raise ?_
    refine .ite (put _).moveOn.countStop ?_
    exact (put _).clientPlace.addTimed.putEntry.moveOn.bump

theorem execWheelVisit_answers {coach tick ecc : Nat} : Answers (decide (coach < 6)) s (execWheelVisit coach tick ecc s) := by
  unfold execWheelVisit
  refine .unit ?_
  dsimp only
  split
  · exact .refl s
  · split
    · exact (Keeps.refl s).putWheel
    · have h : Keeps s (s.dramTransfer (decide (ecc = 2))).1 := (Keeps.refl s).dramTransfer
      generalize s.dramTransfer (decide (ecc = 2)) = r at h
      have slipped : ∀ (c : Prop) [Decidable c] w, Keeps s (if c then ((r.1.putWheel coach w).bump R.TTB_SLIPPED_COUNT).raise P.TTB E.TTB_SLIP else r.1.putWheel coach w) :=
        fun _ _ _ => .ite h.putWheel.bump.raise h.putWheel
      refine .ite (.refl s) (.ite h.putWheel.recLoss.buildNext.showClt (.ite ?_ ?_))
      · exact (slipped _ _).cltEcc
      · exact (slipped _ _).visit.showClt

theorem execGrantExpiry_answers {client : ℕ} {mtype : ℕ} : Answers true s (execGrantExpiry client mtype s) :=
  .next (by split; exacts [.ite (Keeps.refl s).putEntry.bump (Keeps.refl s), (Keeps.refl s)])

theorem execEntryFree_answers {client : Nat} : Answers true s (execEntryFree client s) := by
  unfold execEntryFree
  refine .next ?_
  split
  · next e _ =>
    have out : Keeps s (s.chainOut client e) := (Keeps.refl s).chainOut
    exact .ite (.refl s) (.showClt (.same out (by rfl)))
  · exact .refl s

theorem execClientScrub_answers : Answers true s (execClientScrub s) := by
  have moved : ∀ n, Keeps s { s with clt := { s.clt with scrubAt := n } } := fun _ => .same (.refl s) (by rfl)
  refine .next (.ite (.refl s) ?_)
  dsimp only
  split
  · exact .ite (moved _).putEntry (moved _)
  · exact moved _

theorem execRebuildDone_answers {coach : ℕ} : Answers (decide (coach < 6)) s (execRebuildDone coach s) :=
  .unit (by split; exacts [.ite (Keeps.refl s) (.bind ((Keeps.refl s).putWheel.raise.same (by rfl)) fun h1 => .buildNext (.ite h1.set h1)), (Keeps.refl s)])

theorem execLcyChangeDone_answers {ok : Bool} : Answers true s (execLcyChangeDone ok s) :=
  .next (by split; exacts [(Keeps.refl s), .ite (.bind (Keeps.refl s).nvWrite.lcyApply fun h1 => .ite h1.lcyDone h1) (.bind ((Keeps.refl s).nvWrite.same (by rfl)) fun h1 => .ite h1.lcyDone h1)])

theorem Keeps.endRunning {st : ℕ} (h : Keeps s₀ s) : Keeps s₀ (State.endRunning s st) := by
  unfold State.endRunning
  split
  · exact (h.same (by rfl)).keyDone.keyRun
  · exact h

theorem execActivated_answers : Answers true s (execActivated s) := by
  unfold execActivated
  refine .next ?_
  split
  · dsimp only
    split
    · exact .ite (.refl s) (Keeps.refl s).putSlotK.keyEvt.endRunning
    · exact .refl s
  · exact .refl s

theorem execKeyEraseDone_answers {slot : ℕ} : Answers (decide (slot < 256)) s (execKeyEraseDone slot s) :=
  .unit (.bind (Keeps.refl s).freeGone fun h1 => .ite h1.putSlotK.endRunning h1)

theorem Keeps.takePin {c : ℕ} {pin : Bool} (h : Keeps s₀ s) : Keeps s₀ (State.takePin s c pin) := by
  unfold State.takePin
  split
  · exact .ite (h.same (by rfl)).putSlotK h
  · exact h

theorem execKeyPin_answers {coach : ℕ} : Answers (decide (coach < 6)) s (execKeyPin coach s) :=
  .unit (Keeps.refl s).takePin

theorem execKeyRelease_answers {coach : ℕ} : Answers (decide (coach < 6)) s (execKeyRelease coach s) :=
  .unit (Keeps.refl s).takePin

theorem Keeps.freeOld {slot : Nat} (h : Keeps s₀ s) : Keeps s₀ (s.freeOld slot) := by
  unfold State.freeOld
  dsimp only
  split
  · exact .ite h.putSlotK.keyEvt h
  · exact h

theorem execKeyGraceEnd_answers {slot : ℕ} : Answers (decide (slot < 256)) s (execKeyGraceEnd slot s) :=
  .unit (.ite (Keeps.refl s).putSlotK.freeOld (Keeps.refl s))

theorem execFreed_answers {slot : ℕ} : Answers (decide (slot < 256)) s (execFreed slot s) :=
  .unit (Keeps.refl s).freeOld

theorem execDrbgReseed_answers : Answers true s (execDrbgReseed s) :=
  .next (.ite ((Keeps.refl s).same (by rfl)) (Keeps.refl s))

theorem execKeyStoreCompact_answers : Answers true s (execKeyStoreCompact s) :=
  .next (.foldl (.putRing (.foldl ((Keeps.refl s).same (by rfl)) fun _ _ h1 => h1.wearErase)) fun _ _ h1 => h1.nvPut)

theorem execKeyMemoryError_answers {slot : ℕ} : Answers (decide (slot < 256)) s (execKeyMemoryError slot s) :=
  .unit (Keeps.refl s).putSlotK.showZeroized.pulse

theorem Keeps.putTmpNow {k : ℕ} {on : Bool} (h : Keeps s₀ s) : Keeps s₀ (State.putTmpNow s k on) :=
  h.set.level.lineSet

theorem Keeps.abortKv (h : Keeps s₀ s) : Keeps s₀ (State.abortKv s) :=
  have h1 := h.endRunning
  .bind (.ite (.bind (h1.same (by rfl)) fun h2 => .ite h2.lcyDone h2) h1) fun h2 => .ite (h2.same (by rfl)).attDone h2

theorem Keeps.tamperStop {c : ℕ} (h : Keeps s₀ s) : Keeps s₀ (State.tamperStop s c) :=
  h.loseAll

theorem Keeps.tamper {k : ℕ} (h : Keeps s₀ s) : Keeps s₀ (State.tamper s k) :=
  have h1 := h.putTmpNow.wr
  .bind (.closeWindow (.closeWindow (.closeWindow (.lineOn (.trigAt (.raise (.bump (.ite h1.set h1)))))))) fun h2 => .bind (.ite h2.abortKv.zeroize h2) fun h3
    => .tamperDisable (.foldl (.ite h3.set h3) fun _ _ h4 => h4.tamperStop)

theorem execTamperAlarm_answers {sensor : ℕ} : Answers (decide (sensor < 6)) s (execTamperAlarm sensor s) :=
  .unit (.ite (Keeps.refl s) (Keeps.refl s).tamper)

theorem execGenHash_answers : Answers true s (execGenHash s) := by
  refine .next (.ite (.refl s) ?_)
  have shown : ∀ l : List (Word × Nat), Keeps s (((l.foldl (fun t p => t.wr (R.ATT_GEN_HASH p.2) p.1) s).set R.ATT_STATUS_GEN_HASH_OK 1).raise P.ATT E.ATT_GEN_HASH) :=
    fun _ => .raise (.set (.foldl (.refl s) fun _ _ h => h.wr))
  dsimp only
  split
  · exact (shown _).attest
  · exact shown _

theorem execPreparedReport_answers {island : ℕ} : Answers (decide (island < 16)) s (execPreparedReport island s) :=
  .unit (.ite (Keeps.refl s) (.bind (Keeps.refl s).set fun h1 => .ite h1.setGenState h1))

theorem Keeps.cancelGen {missing : Nat} (h : Keeps s₀ s) : Keeps s₀ (s.cancelGen missing) := by
  unfold State.cancelGen
  extract_lets n _ t1 t2
  have h1 : Keeps s₀ t1 := ⟨fun hz => ⟨(h.wf hz).1, (h.wf hz).2.1, Store.wf_nil⟩, h.fuses, h.pending⟩
  exact h1.set.set.set.setGenState.bump.raise.genRec

theorem execGenDecision_answers : Answers true s (execGenDecision s) :=
  .next (.ite (Keeps.refl s) (.ite (Keeps.refl s).cancelGen (Keeps.refl s).setGenState))

theorem Keeps.endApply (h : Keeps s₀ s) : Keeps s₀ (State.endApply s) :=
  h.setGenState.set

theorem execAppliedReport_answers {island : Nat} : Answers (decide (island < 16)) s (execAppliedReport island s) := by
  have merge : ∀ src p, s.regs.wf = true → Store.wf (if (kvGet s.gen.keep island).isSome then mergeRws s.regs src p else s.regs) = true := fun src p w => by
    split
    · exact mergeRws_wf _ _ _ w
    · exact w
  exact .unit (.ite (.refl s) (.ite (.ite (.refl s) (.ite (.commitBlocks (.regs (.refl s) (merge _ _) (by rfl))) (.regs (.refl s) (merge _ _) (by rfl))))
    (.ite (.refl s) (.ite (.endApply (.same (.refl s) (by rfl))) (.same (.refl s) (by rfl))))))

theorem execAppliedTimeout_answers {cuts : List (ℕ × TxRef)} : Answers true s (execAppliedTimeout cuts s) :=
  .next (.ite (Keeps.refl s) (.endApply (.foldl (Keeps.refl s) fun _ _ h1 => h1.fence)))

theorem Keeps.liftFence {i : ℕ} (h : Keeps s₀ s) : Keeps s₀ (State.liftFence s i) :=
  have h1 := (h.same (by rfl)).putFenced.showFences.raise.genRec
  .ite h1.showServing h1

theorem execUnfenced_answers : Answers true s (execUnfenced s) :=
  .next (.foldl (Keeps.refl s) fun _ _ h1 => .ite h1.liftFence h1)

theorem execMigrationStart_answers {lane : ℕ} : Answers (decide (lane < 24)) s (execMigrationStart lane s) :=
  .unit (by split; exacts [(Keeps.refl s), .ite (Keeps.refl s) (Keeps.refl s).putMig.set.set.set])

theorem execMigrationFenceFixed_answers {lane : ℕ} {tick : ℕ} : Answers (decide (lane < 24)) s (execMigrationFenceFixed lane tick s) :=
  .unit (by split; exacts [(Keeps.refl s), .ite (Keeps.refl s) (Keeps.refl s).loseAll.putMig.wrT])

theorem Keeps.moveMc {g : Migration} (h : Keeps s₀ s) : Keeps s₀ (State.moveMc s g) :=
  .foldl h fun _ _ h1 => .ite h1.set h1

theorem execMigrationFence_answers {lane : ℕ} {tick : ℕ} : Answers (decide (lane < 24)) s (execMigrationFence lane tick s) :=
  .unit (by split; exacts [(Keeps.refl s), by split; exacts [(Keeps.refl s), .ite (Keeps.refl s) (.bind (Keeps.refl s).putCoach.putMig fun h1 => .shuntRec (.takeFree (.moveMc (.ite h1.setShunted h1))))]])

theorem Keeps.rewritePlaces {g : Migration} (h : Keeps s₀ s) : Keeps s₀ (State.rewritePlaces s g) :=
  .foldl (.foldl h fun _ _ h1 => h1.clientPlace) fun _ _ h1 => (h1.same (by rfl))

theorem execMigrated_answers {lane : ℕ} : Answers (decide (lane < 24)) s (execMigrated lane s) :=
  .unit (by split; exacts [(Keeps.refl s), .ite (Keeps.refl s) (.bind ((Keeps.refl s).rewritePlaces.same (by rfl)).setFlag.bump.raise.shuntRec fun h1 => .ite h1.shuntDone (.ite (h1.same (by rfl)).set h1))])

theorem Keeps.endReturn {kind idx : Nat} (h : Keeps s₀ s) : Keeps s₀ (s.endReturn kind idx) := by
  have left : ∀ l, Keeps s₀ { s with shunt := { s.shunt with back := l } } := fun _ => .same h (by rfl)
  have healed : ∀ u, Keeps s₀ u → Keeps s₀ (match unitIsland kind idx with | some i => u.healLinks i | none => u) := fun _ hu => by
    split
    · exact hu.healLinks
    · exact hu
  exact .ite (healed _ (left _)).shuntDone (healed _ (left _)).shuntRec

theorem Keeps.coachBack {c : Nat} {cals : List CalResult} {temp : Int} (h : Keeps s₀ s) : Keeps s₀ (s.coachBack c cals temp) := by
  unfold State.coachBack
  extract_lets none' t1 t2 _
  have h1 : Keeps s₀ t1 := .foldl h fun _ _ h => h.pairStart
  have h2 : Keeps s₀ t2 := h1.setGear
  clear_value t2
  exact .setShunted (.same h2 (by rfl))

theorem Keeps.laneBad {lane : ℕ} (h : Keeps s₀ s) : Keeps s₀ (State.laneBad s lane) :=
  have h1 := (h.same (by rfl)).pulse
  .ite (h1.same (by rfl)).set h1

theorem Keeps.coachShunted {c : ℕ} {cuts : List (ℕ × TxRef)} (h : Keeps s₀ s) : Keeps s₀ (State.coachShunted s c cuts) :=
  h.setShunted.coachDown.shuntDone

theorem execShuntReturnDone_answers {kind : ℕ} {index : ℕ} {ok : Bool} {cals : List CalResult} {temp : ℤ} {cuts : List (ℕ × TxRef)} : Answers true s (execShuntReturnDone kind index ok cals temp cuts s) :=
  .next (.ite (by split; exacts [(Keeps.refl s).coachBack.endReturn, .ite (Keeps.refl s).setShunted.endReturn (Keeps.refl s).laneBad, .ite (Keeps.refl s) (Keeps.refl s).setShunted.endReturn, .ite (Keeps.refl s).endReturn (Keeps.refl s), (Keeps.refl s).endReturn]) (.ite (Keeps.refl s).coachShunted (Keeps.refl s)))

theorem execProveStart_answers : Answers true s (execProveStart s) :=
  .next (.ite (Keeps.refl s) (.bind ((Keeps.refl s).same (by rfl)) fun h1 => .ite (.proveRec (.raise (.bump (.ite h1.set h1)))) (h1.same (by
    rfl)).set.set.set.set.wrT.set.raise.proveRec.proveStep))

theorem Keeps.testOver {kind : ℕ} {unit : ℕ} (h : Keeps s₀ s) : Keeps s₀ (State.testOver s kind unit) :=
  (h.same (by rfl)).proveStep

theorem Keeps.unitFail {kind : ℕ} {unit : ℕ} (h : Keeps s₀ s) : Keeps s₀ (State.unitFail s kind unit) :=
  .bind (.markUnit (by split; exacts [(h.same (by rfl)), .ite (h.same (by rfl)) h])) fun h1 => .bind (.ite h1 (h1.same (by rfl))) fun h2 => .testOver (.proveRec (.raise (.bump (.ite h2.lineOn h2.pulse))))

theorem Keeps.ticTest {t : ℕ} {pass : Bool} {cals : List CalResult} {temp : ℤ} (h : Keeps s₀ s) : Keeps s₀ (State.ticTest s t pass cals temp) :=
  have h1 := h.ticCalTake.set.putTic
  .ite h1.setShunted.testOver h1.unitFail

theorem Keeps.coreTest {k : ℕ} {pass : Bool} (h : Keeps s₀ s) : Keeps s₀ (State.coreTest s k pass) :=
  .ite h (.ite h.testOver (.ite h (.ite (.ite h.returnCore h.unitFail) (.ite h h.unitFail))))

theorem execProveUnitDone_answers {kind : ℕ} {unit : ℕ} {pass : Bool} {cals : List CalResult} {temp : ℤ} : Answers true s (execProveUnitDone kind unit pass cals temp s) :=
  .next (.ite (Keeps.refl s) (by split; exacts [.ite (Keeps.refl s).testOver (Keeps.refl s).unitFail, (Keeps.refl s).ticTest, .ite (Keeps.refl s) (.ite (Keeps.refl s).setShunted.testOver (Keeps.refl s).unitFail), .ite (Keeps.refl s).setShunted.pllStart.testOver (Keeps.refl s).unitFail, (Keeps.refl s).coreTest, .ite (Keeps.refl s).setShunted.engineReturn.testOver (Keeps.refl s).unitFail]))

theorem execProveWindowEnd_answers : Answers true s (execProveWindowEnd s) :=
  .next (.ite (Keeps.refl s) (Keeps.refl s).proveAbort)

theorem execTtSend_answers : Answers true s (execTtSend s) := by
  refine .next (.ite (.refl s) (.foldl (.refl s) fun t n h => ?_))
  dsimp only
  split
  · exact h.putPeer.dugSend
  · exact h.takeFree.takeFree.putPeer.dugSend

theorem Keeps.dugTake {n : Nat} {f : DugFrame} {k : State → State} (h : Keeps s₀ s) (hk : ∀ u, Keeps s₀ u → Keeps s₀ (k u)) : Keeps s₀ (s.dugTake n f k) :=
  .ite h (.ite h.bump (hk _ (.ite h.set.set.set.set.putPeer h.set.set.set.set.putPeer.endDual)))

theorem Keeps.feedTheta {t2 : ℤ} {theta : ℤ} (h : Keeps s₀ s) : Keeps s₀ (State.feedTheta s t2 theta) :=
  .ite h (h.same (by rfl)).sendFeed

theorem Keeps.peerSample {n : ℕ} {t2 : ℤ} {theta : ℤ} {srcOk : Bool} (h : Keeps s₀ s) : Keeps s₀ (State.peerSample s n t2 theta srcOk) := by
  unfold State.peerSample
  split
  · exact h.candSample
  · exact h

theorem Keeps.autoHandover {now : ℤ} (h : Keeps s₀ s) : Keeps s₀ (State.autoHandover s now) :=
  .ite (by split; exacts [h.startHandover, h]) h

theorem execTtReceive_answers {link : ℕ} {f : DugFrame} {st : Stamp} : Answers (decide (link < 2)) s (execTtReceive link f st s) :=
  .unit (.dugTake (Keeps.refl s) (fun _ h1 => by split; exacts [.bind h1.set.putPeer fun h2 => .autoHandover (by split; exacts [h2, .bind h2.wrS.set.putPeer fun h3 => .peerSample (.ite h3.feedTheta h3)]), h1]))

theorem Keeps.renew {tick : ℕ} (h : Keeps s₀ s) : Keeps s₀ (State.renew s tick) :=
  have h1 := (h.same (by rfl)).set.dugSendAll
  .ite h1.wrT h1

theorem execRenewSend_answers {tick : ℕ} : Answers true s (execRenewSend tick s) :=
  .next (.ite (Keeps.refl s).renew (Keeps.refl s))

theorem Keeps.groupTake {n : Nat} {f : DugFrame} {k : State → State} (h : Keeps s₀ s) (hk : ∀ u, Keeps s₀ u → Keeps s₀ (k u)) : Keeps s₀ (s.groupTake n f k) :=
  h.dugTake fun u h1 => .ite (hk u h1) h1

theorem Keeps.meetHolder {n : ℕ} {f : DugFrame} (h : Keeps s₀ s) : Keeps s₀ (State.meetHolder s n f).1 :=
  .ite1 (.ite h h.set.bump.level.lineOn.dugRec) (.hostStep (.setRole (.pulse (.ite h h.set.bump.level.lineOn.dugRec))))

theorem Keeps.takeRenew {n : ℕ} {f : DugFrame} {lease : ℕ} {e : ℤ} {now : ℤ} (h : Keeps s₀ s) : Keeps s₀ (State.takeRenew s n f lease e now) :=
  .ite h (.bind (.set (.set (.wrT (.same (.ite h.bump.set h) (by rfl))))) fun h1 => .dugSend (.showReady (.showFollow (.ite h1.setRole h1))))

theorem execRenewReceive_answers {link : ℕ} {f : DugFrame} {tick : ℕ} : Answers (decide (link < 2)) s (execRenewReceive link f tick s) :=
  .unit (.groupTake (Keeps.refl s) (fun _ h1 => by split; exacts [.ite (.ite (h1.meetHolder.same (by rfl)).takeRenew h1.meetHolder) h1.takeRenew, h1]))

theorem execAckReceive_answers {link : ℕ} {f : DugFrame} : Answers (decide (link < 2)) s (execAckReceive link f s) :=
  .unit (.groupTake (Keeps.refl s) (fun _ h1 => by split; exacts [.ite h1.wrT h1, h1]))

theorem execLeaseStop_answers {tick : ℕ} : Answers true s (execLeaseStop tick s) :=
  .next (by split; exacts [(Keeps.refl s), .ite (Keeps.refl s) (.ite ((Keeps.refl s).same (by rfl)) (.ite (Keeps.refl s) (.ite (Keeps.refl s).setRole (.ite (Keeps.refl s).setRole (Keeps.refl s)))))])

theorem Keeps.takeSelector {now : ℤ} (h : Keeps s₀ s) : Keeps s₀ (State.takeSelector s now) :=
  .ite (h.set.set.set.set.same (by rfl)).showSel.showDiffs h.enterHold

theorem Keeps.becomeHolder {tick : Nat} (h : Keeps s₀ s) : Keeps s₀ (s.becomeHolder tick) := by
  unfold State.becomeHolder
  extract_lets now was _ t1 t2 t3 j _ t4 t5
  have h1 : Keeps s₀ t1 := .same h (by rfl)
  have h2 : Keeps s₀ t2 := h1.setRole
  clear_value t2
  have h3 : Keeps s₀ t3 := .ite h2.takeSelector h2
  clear_value t3
  have h4 : Keeps s₀ t4 := .same h3 (by rfl)
  clear_value t4
  exact h4.renew.wrT

theorem execClaimStart_answers {tick : ℕ} : Answers true s (execClaimStart tick s) :=
  .next (.ite (Keeps.refl s) (.bind (.foldl ((Keeps.refl s).same (by rfl)).setRole fun _ _ h1 => h1.dugSend.dugRec) fun h1 => .ite h1.bump.becomeHolder h1))

theorem execClaimReceive_answers {link : ℕ} {f : DugFrame} {tick : ℕ} : Answers (decide (link < 2)) s (execClaimReceive link f tick s) :=
  .unit (.groupTake (Keeps.refl s) (fun _ h1 => by split; exacts [.bind h1.dugRec fun h2 => .dugSend (.ite h2.setRole.bump.raise h2), h1]))

theorem execReplyReceive_answers {link : ℕ} {f : DugFrame} {tick : ℕ} : Answers (decide (link < 2)) s (execReplyReceive link f tick s) :=
  .unit (.groupTake (Keeps.refl s) (fun _ h1 => by split; exacts [.bind h1.dugRec fun h2 => .ite h2 (.ite (h2.same (by rfl)).bump.becomeHolder (.ite (h2.same (by rfl)) h2)), h1]))

theorem execClaimTimeout_answers {tick : ℕ} : Answers true s (execClaimTimeout tick s) :=
  .next (.ite (Keeps.refl s) ((Keeps.refl s).same (by rfl)).setRole)

theorem execHandoverReceive_answers {link : ℕ} {f : DugFrame} : Answers (decide (link < 2)) s (execHandoverReceive link f s) :=
  .unit (.groupTake (Keeps.refl s) (fun _ h1 => by split; exacts [.ite h1 (h1.dugRec.same (by rfl)).wrT, h1]))

theorem execHandoverTake_answers {tick : ℕ} : Answers true s (execHandoverTake tick s) :=
  .next (by split; exacts [(Keeps.refl s), .ite (Keeps.refl s) (Keeps.refl s).becomeHolder])

theorem execHandoverTimeout_answers {tick : ℕ} : Answers true s (execHandoverTimeout tick s) :=
  .next (by split; exacts [(Keeps.refl s), .ite (Keeps.refl s) (.bind ((Keeps.refl s).same (by rfl)) fun h1 => .ite h1.takeFree.set h1)])

theorem execSelFrameReceive_answers {link : ℕ} {f : DugFrame} : Answers (decide (link < 2)) s (execSelFrameReceive link f s) :=
  .unit (.groupTake (Keeps.refl s) (fun _ h1 => by split; exacts [.bind (.ite h1 h1.putPeer) fun h2 => .ite h2 (.bind h2.wr fun h3 => .ite h3 (.same (.ite h3.bump h3) (by rfl))), h1]))

theorem execLeapFrameReceive_answers {link : ℕ} {f : DugFrame} : Answers (decide (link < 2)) s (execLeapFrameReceive link f s) :=
  .unit (.groupTake (Keeps.refl s) (fun _ h1 => by split; exacts [.ite h1 (.bind (.ite h1 (h1.same (by rfl))) fun h2 => .ite (.ite h2.leapKind h2) (.ite h2 h2.wr.leapKind)), h1]))

theorem execLeapFrameSend_answers : Answers true s (execLeapFrameSend s) :=
  .next (.ite (Keeps.refl s).dugSendAll (Keeps.refl s))

theorem Keeps.applyMirror {e : ClientEntry} {deleted : Bool} (h : Keeps s₀ s) : Keeps s₀ (State.applyMirror s e deleted) := by
  unfold State.applyMirror
  split
  · exact by split; exacts [.ite h.putEntry h.putEntry.syncRecs.showClt, h]
  · exact .ite h h.takeEntry.chainIn.putEntry.syncRecs.showClt

theorem execClientFrameReceive_answers {link : ℕ} {f : DugFrame} : Answers (decide (link < 2)) s (execClientFrameReceive link f s) :=
  .unit (.groupTake (Keeps.refl s) (fun _ h1 => by split; exacts [.ite h1 (.applyMirror (.ite (h1.same (by rfl)) h1)), h1]))

theorem Keeps.freeEntry {i : Nat} {e : ClientEntry} (h : Keeps s₀ s) : Keeps s₀ (s.freeEntry i e) := by
  have out : Keeps s₀ ((s.chainOut i e).putWheel (e.port / 4) (((s.wheel (e.port / 4)).unlink i true).unlink i false)) := h.chainOut.putWheel
  exact .showClt (.same out (by rfl))

theorem execSweepReceive_answers {link : ℕ} {f : DugFrame} {tick : ℕ} : Answers (decide (link < 2)) s (execSweepReceive link f tick s) :=
  .unit (.groupTake (Keeps.refl s) (fun _ h1 => by split; exacts [.ite h1 (.ite (h1.same (by rfl)) (.ite (h1.same (by rfl)) (.showReady (.bump (.same (.foldl h1 fun _ _ h2 => h2.freeEntry) (by rfl)))))), h1]))

theorem execSweepSend_answers : Answers true s (execSweepSend s) :=
  .next (.ite (Keeps.refl s) (.bump (.dugSendAll (.foldl ((Keeps.refl s).same (by rfl)).dugSendAll fun _ _ h1 => h1.dugSendAll))))

theorem Keeps.loseHeart {n : ℕ} {now : ℤ} (h : Keeps s₀ s) : Keeps s₀ (State.loseHeart s n now) :=
  .ite h (.bind h.set.bump.raise.dugRec.showHeart.showFollow fun h1 => .ite h1.enterHoldover h1)

theorem execHbLost_answers {link : ℕ} {tick : ℕ} : Answers (decide (link < 2)) s (execHbLost link tick s) :=
  .unit (.inRh (Keeps.refl s) (Keeps.refl s).loseHeart)

theorem execHeartbeatReturn_answers {link : ℕ} {tick : ℕ} : Answers (decide (link < 2)) s (execHeartbeatReturn link tick s) :=
  .unit (.inRh (Keeps.refl s) (.ite (Keeps.refl s) (Keeps.refl s).set.showHeart.showFollow.autoHandover))

theorem execDugLinkDownTimer_answers {link : ℕ} : Answers (decide (link < 2)) s (execDugLinkDownTimer link s) :=
  .unit (.inRh (Keeps.refl s) (.ite (Keeps.refl s).lineOn (Keeps.refl s)))

theorem execWakeDone_answers {cals : List CalResult} {temp : ℤ} : Answers true s (execWakeDone cals temp s) :=
  .next (.ite (Keeps.refl s).coachesFresh.setRole (Keeps.refl s))

theorem Keeps.aoParity {lines : List ℕ} (h : Keeps s₀ s) : Keeps s₀ (State.aoParity s lines) :=
  .ite h.bump.raise h

theorem Keeps.genLines {lines : List ℕ} {cuts : List (ℕ × TxRef)} (h : Keeps s₀ s) : Keeps s₀ (State.genLines s lines cuts) :=
  .ite h (.ite (.foldl h fun _ _ h1 => h1.fence) (h.same (by rfl)))

theorem execFaultLineRise_answers {lines tick : Nat} {cuts : List (Nat × TxRef)} {slot : Nat} : Answers true s (execFaultLineRise lines tick cuts slot s) := by
  unfold execFaultLineRise
  extract_lets _ new hard t1 t2 t3 inst t4 _ t5
  have h2 : Keeps s t2 := .foldl (Keeps.refl s).aoParity.mgtFault fun _ _ h => .ite h h.pulse
  clear_value t2
  have h4 : Keeps s t4 := .foldl h2.brakeLines fun _ _ h => h.latchLine
  clear_value t4
  have h5 : Keeps s t5 := .same h4 (by rfl)
  exact .next h5.reactions.genLines

theorem execFaultLineFall_answers {line : ℕ} {tick : ℕ} : Answers (decide (line < 36)) s (execFaultLineFall line tick s) :=
  .unit (.bind (Keeps.refl s).lineOff fun h1 => .ite (h1.wr.same (by rfl)).trigAt.refreshFaults h1)

theorem Keeps.switchResume (h : Keeps s₀ s) : Keeps s₀ (State.switchResume s) :=
  .ite h (.showSwBusy (.tidy (.foldl (h.same (by rfl)) fun _ _ h1 => h1.dropCopies)))

theorem execReleased_answers : Answers true s (execReleased s) := by
  have asked : Keeps s { s with flt := { s.flt with releaseAsked := false } } := .same (.refl s) (by rfl)
  refine .next (.ite ?_ (.refl s))
  dsimp only
  split
  · exact asked.set
  · have free : Keeps s { s with flt := { s.flt with releaseAsked := false, brake := .off } } := .same (.refl s) (by rfl)
    exact .refreshFaults (.raise (.set (.foldl free.switchResume fun _ _ h => h.putSrc.setMisalign)))

theorem execWdogExpiry_answers {ms : ℕ} : Answers true s (execWdogExpiry ms s) :=
  .next (.ite (Keeps.refl s) (Keeps.refl s).lineOn)

theorem execInjDone_answers {expired : Bool} : Answers true s (execInjDone expired s) :=
  .next (by split; exacts [(Keeps.refl s), .ite (Keeps.refl s).bump.injEnd (.ite (Keeps.refl s).pulse.injEnd (Keeps.refl s))])

theorem Keeps.thermal {tj : ℤ} (h : Keeps s₀ s) : Keeps s₀ (State.thermal s tj) :=
  h.setFlag.level.setFlag.level.lineSet.thermPin

theorem Keeps.hotMs (h : Keeps s₀ s) : Keeps s₀ (State.hotMs s) :=
  .ite (h.same (by rfl)) (h.same (by rfl)).bump

theorem execThmSample_answers {temps : List ℤ} : Answers true s (execThmSample temps s) :=
  .next (by split; exacts [(Keeps.refl s), .ite (Keeps.refl s) (.bind (Keeps.refl s).setS fun h1 => .bind (.thermal (.same (.ite h1 h1.setS) (by rfl))) fun h2 => .bind (.ite h2.hotMs h2) fun h3 => .ite h3.tamper (.ite h3.putTmpNow h3))])

theorem Keeps.enqueue {t : Trigger} (h : Keeps s₀ s) : Keeps s₀ (State.enqueue s t) :=
  .ite (h.same (by rfl)) (h.same (by rfl)).bump.raise

theorem Keeps.suppress {code : ℕ} {us : ℕ} {n : ℕ} (h : Keeps s₀ s) : Keeps s₀ (State.suppress s code us n) :=
  have h1 := (h.same (by rfl)).bump.raiseIf
  .ite (h1.same (by rfl)) h1

theorem Keeps.arrive {t : Trigger} {us : ℕ} (h : Keeps s₀ s) : Keeps s₀ (State.arrive s t us) :=
  .ite h.enqueue (.ite h.suppress (h.same (by rfl)).enqueue)

theorem execRecTrigger_answers {island : ℕ} {us : ℕ} : Answers (decide (island < 16)) s (execRecTrigger island us s) :=
  .unit (.ite (Keeps.refl s) (by split; exacts [(Keeps.refl s), ((Keeps.refl s).same (by rfl)).arrive]))

theorem Keeps.overwrite {idx : ℕ} (h : Keeps s₀ s) : Keeps s₀ (State.overwrite s idx) := by
  unfold State.overwrite
  split
  · exact h
  · exact .ite (h.same (by rfl)).bump.raise h

theorem Keeps.record {t : Trigger} {rest : List Trigger} (h : Keeps s₀ s) : Keeps s₀ (State.record s t rest) :=
  (h.overwrite.same (by rfl)).putHead.showOldest

theorem execRecRecordWrite_answers : Answers true s (execRecRecordWrite s) :=
  .next (by split; exacts [(Keeps.refl s), .ite (Keeps.refl s).record (Keeps.refl s)])

theorem Keeps.ringError {seq : ℕ} {k : ℕ} {v : Word} (h : Keeps s₀ s) : Keeps s₀ (State.ringError s seq k v) := by
  unfold State.ringError
  split
  · exact h
  · exact (h.same (by rfl)).bump.raise.pulse

theorem Keeps.batchFail (h : Keeps s₀ s) : Keeps s₀ (State.batchFail s) :=
  h.bump.raise.pulse

/-- The recorder's own part takes other values. -/
theorem Keeps.recorder {r : RecPart} (h : Keeps s₀ s) : Keeps s₀ { s with erec := r } := .same h (by rfl)

theorem execJournalBatchWrite_answers {ageMs : Nat} {ecc : Option (Nat × Nat × Word)} {ok retryOk : Bool} :
    Answers true s (execJournalBatchWrite ageMs ecc ok retryOk s) := by
  refine .next (.ite (.refl s) ?_)
  extract_lets t ws r r2 _ u
  have read : Keeps s t := by
    show Keeps s (match ecc with | some (i, k, v) => if i < _ then s.ringError _ k v else s | none => s)
    split
    · exact .ite (Keeps.refl s).ringError (.refl s)
    · exact .refl s
  have hr : Keeps s r.1 := read.nvWrite
  have written : Keeps s r2.1 := .ite1 hr hr.batchFail.nvWrite
  clear_value r2
  exact .ite written.recorder.showJournal written.recorder.recorder.batchFail

theorem execFetchDone_answers : Answers true s (execFetchDone s) := by
  unfold execFetchDone
  refine .next ?_
  split
  · exact .refl s
  · have taken : Keeps s { s with erec := { s.erec with fetching := none } } := .same (.refl s) (by rfl)
    dsimp only
    split
    · exact taken.set.raise
    · have shown : ∀ w, Keeps s { s with erec := { s.erec with fetching := none, fetchBuf := w } } := fun _ => .same (.refl s) (by rfl)
      exact (shown _).set.raise

theorem Keeps.spiAbort (h : Keeps s₀ s) : Keeps s₀ (State.spiAbort s) :=
  h.bump.set

theorem Keeps.ret {m : Master} {v : Word} (h : Keeps s₀ s) : Keeps s₀ (State.ret s m v) :=
  h.putMst

theorem Keeps.hostRead {m : Master} {tick : ℕ} {a : ℕ} (h : Keeps s₀ s) : Keeps s₀ (State.hostRead s m tick a) :=
  .ite h (.ite h.ret (.ite h.accessErr.ret (.ite (.settle h execKeyDataAccess_answers) (.bind (.foldl h.ret fun _ _ h1 => h1.putMst) fun h1 => .ite h1.set h1))))

theorem Keeps.spiGood (h : Keeps s₀ s) : Keeps s₀ (State.spiGood s) :=
  h.set

theorem execSpiRead_answers {addr : List ℕ} {wait : ℕ} {clocked : ℕ} {tick : ℕ} : Answers true s (execSpiRead addr wait clocked tick s) :=
  .next (.ite (Keeps.refl s) (.ite (Keeps.refl s).spiAbort (.bind (Keeps.refl s).hostRead.emit fun h1 => .ite h1.bump.spiGood h1.spiAbort)))

theorem Keeps.spiShow {crc : Bool} {err : Bool} {done : Bool} (h : Keeps s₀ s) : Keeps s₀ (State.spiShow s crc err done) :=
  h.setFlag.setFlag.setFlag

theorem Keeps.writeBootCmd {m : Master} {v : Word} (h : Keeps s₀ s) : Keeps s₀ (State.writeBootCmd s m v) := by
  unfold State.writeBootCmd
  split
  · exact .settle h execBootLoad_answers
  · exact .settle h execBootErase_answers
  · exact .settle h execWriteOpen_answers
  · exact .settle h execWriteClose_answers
  · exact .settle h execFabricReset_answers
  · exact .hostCmd h (fun _ h1 => h1.bootDone)

theorem Keeps.writeAny {m : Master} {slot : ℕ} {v : Word} {a : Arrival} (h : Keeps s₀ s) : Keeps s₀ (State.writeAny s m slot v a) :=
  .ite h.writeBootCmd (.ite (.settle h execImgDataWrite_answers) h.regWrite)

theorem Keeps.spiPut {slot : ℕ} {v : Word} {a : Arrival} (h : Keeps s₀ s) : Keeps s₀ (State.spiPut s slot v a).1 :=
  .ite1 h.set.set.writeAny h.set.set.writeAny.bumpBy.bumpBy

theorem execSpiWrite_answers {bytes : List ℕ} {a : Arrival} : Answers true s (execSpiWrite bytes a s) :=
  .next (.ite (Keeps.refl s) (.ite (Keeps.refl s).spiAbort (.ite (Keeps.refl s).spiShow.spiAbort (.ite (Keeps.refl s).bump.raise.spiShow.spiGood (.ite
    (Keeps.refl s).spiPut (Keeps.refl s).spiPut.bump.spiShow.spiGood)))))

theorem execSpiStatus_answers {cmd : ℕ} {clocked : ℕ} : Answers true s (execSpiStatus cmd clocked s) :=
  .next (.ite (Keeps.refl s) (.ite (Keeps.refl s).spiAbort (.bind (Keeps.refl s).emit fun h1 => .ite h1.spiGood h1.spiAbort)))

theorem execFlr_answers {pf : ℕ} : Answers (decide (pf < 2)) s (execFlr pf s) :=
  .unit (.ite (Keeps.refl s) (Keeps.refl s).stopRings.resetMsix.bump.raise)

theorem Keeps.pcieErrors {corr : ℕ} {uncorr : ℕ} (h : Keeps s₀ s) : Keeps s₀ (State.pcieErrors s corr uncorr) :=
  h.bumpBy.bumpBy.raiseIf

theorem execPcieLinkLost_answers {corr : ℕ} {uncorr : ℕ} : Answers true s (execPcieLinkLost corr uncorr s) :=
  .next (.ite (Keeps.refl s) (Keeps.refl s).pcieErrors.linkGone.bump.stopRings.pulse)

theorem execPcieLinkUp_answers {width : ℕ} {speed : ℕ} : Answers true s (execPcieLinkUp width speed s) :=
  .next (.ite (Keeps.refl s) (Keeps.refl s).set.set.set.raise.level)

theorem Keeps.admitHost {fid : ℕ} {d : TxDesc} (h : Keeps s₀ s) : Keeps s₀ (State.admitHost s fid d) :=
  have h1 := h.demand
  .ite h1.bump h1.takeFree.admitFrame

theorem Keeps.takeTx {q : ℕ} {idx : ℕ} {d : TxDesc} (h : Keeps s₀ s) : Keeps s₀ (State.takeTx s q idx d) :=
  have h1 := h.putDma
  .ite h1.admitHost h1.bump

theorem execDmaDescFetch_answers {ring : ℕ} {slot : ℕ} {d : DmaDesc} : Answers (decide (ring < 8)) s (execDmaDescFetch ring slot d s) :=
  .unit (.ite (Keeps.refl s) (.bind (Keeps.refl s).set fun h1 => by split; exacts [.ite h1.putDma (Keeps.refl s), .ite (Keeps.refl s) h1.toSlot.takeTx]))

theorem Keeps.dropHost {f : SwFrame} (h : Keeps s₀ s) : Keeps s₀ (State.dropHost s f) :=
  h.dropCopies.tidy.showSwBusy

theorem Keeps.putPend {n : ℕ} (h : Keeps s₀ s) : Keeps s₀ (State.putPend s n) :=
  h.set.vecRises

theorem Keeps.note {q : ℕ} {idx : ℕ} (h : Keeps s₀ s) : Keeps s₀ (State.note s q idx) :=
  have h1 := h.putDma
  .ite h1.putPend h1

theorem Keeps.complete {q : ℕ} {idx : ℕ} {fields : List ℕ} {counts : Bool} (h : Keeps s₀ s) : Keeps s₀ (State.complete s q idx fields counts) :=
  have h1 := h.emit.set.bump
  .ite h1.note h1

theorem execDmaRxFrame_answers {cls : ℕ} : Answers (decide (cls < 8)) s (execDmaRxFrame cls s) :=
  .unit (by split; exacts [(Keeps.refl s), .ite (Keeps.refl s) (.ite (Keeps.refl s).bump.dropHost (by split; exacts [(Keeps.refl s).noBuf, .ite (Keeps.refl s).bump.dropHost (Keeps.refl s).putDma.emit.dropHost.complete]))])

theorem Keeps.takeStamp {p : ℕ} {e : TsfEntry} (h : Keeps s₀ s) : Keeps s₀ (State.takeStamp s p e) :=
  .ite (.txResult (.putPort (.foldl h fun _ _ h1 => h1.txResult))) h

theorem Keeps.drainTsf {p : ℕ} (h : Keeps s₀ s) : Keeps s₀ (State.drainTsf s p) :=
  .ite h (.showTsf (.putPort (.foldl h fun _ _ h1 => h1.takeStamp)))

theorem Keeps.backTx {q : ℕ} {j : TxJob} {rest : List TxJob} {st : ℕ} {stamp : ℤ} (h : Keeps s₀ s) : Keeps s₀ (State.backTx s q j rest st stamp) :=
  h.putDma.complete

theorem execDmaTxComplete_answers {ring : Nat} : Answers (decide (ring < 8)) s (execDmaTxComplete ring s) := by
  unfold execDmaTxComplete
  refine .unit ?_
  split
  · exact .refl s
  · next j _ _ =>
    refine .ite (.refl s) ?_
    extract_lets t
    have ht : Keeps s t := .ite (Keeps.refl s).drainTsf (.refl s)
    clear_value t
    split
    · exact ht
    · split
      · exact ht.backTx
      · exact .ite ht ht.takeFree.backTx

theorem execDmaStampTimeout_answers {ring : ℕ} {idx : ℕ} {ms : ℕ} : Answers (decide (ring < 8)) s (execDmaStampTimeout ring idx ms s) :=
  .unit (.ite (Keeps.refl s) (by split; exacts [(Keeps.refl s), (Keeps.refl s).putPort.txResult]))

theorem execRingErr_answers {ring : ℕ} {corr : ℕ} {uncorr : ℕ} : Answers (decide (ring < 8)) s (execRingErr ring corr uncorr s) :=
  .unit (.ite (Keeps.refl s) (Keeps.refl s).pcieErrors.stopRing.set.raise)

theorem execDmaModTimer_answers {ring : ℕ} {us : ℕ} : Answers (decide (ring < 8)) s (execDmaModTimer ring us s) :=
  .unit (.ite (Keeps.refl s) (Keeps.refl s).putPend)

theorem execExpertWindowTimeout_answers {m : Master} : Answers true s (execExpertWindowTimeout m s) :=
  .next (.ite (Keeps.refl s) (Keeps.refl s).closeWindow)

theorem execMsixUnmask_answers {pf vec : Nat} {masked : Bool} : Answers (decide (vec < 32) && decide (pf < 2)) s (execMsixUnmask pf vec masked s) := by
  unfold execMsixUnmask
  split
  · next c => exact .inr ⟨by simp [Nat.not_lt.2 c], rfl⟩
  · next c =>
    rw [decide_eq_true (Nat.lt_of_not_le c), Bool.true_and]
    exact .unit (.sendPending (.putMsix (.refl s)))

theorem execPgEvtClear_answers {m : Master} {page : ℕ} {v : Word} {same : ℕ} : Answers true s (execPgEvtClear m page v same s) :=
  .next (Keeps.refl s).plainWrite

theorem execRsLeadRead_answers {m : Master} {slot : ℕ} {tick : ℕ} : Answers true s (execRsLeadRead m slot tick s) :=
  .next (Keeps.refl s).hostRead

theorem execT108ReadSnapshot_answers {m : Master} {slot : ℕ} {tick : ℕ} : Answers true s (execT108ReadSnapshot m slot tick s) :=
  .next (Keeps.refl s).hostRead

theorem execT108CommitWrite_answers {m : Master} {slot : ℕ} {v : Word} {a : Arrival} : Answers true s (execT108CommitWrite m slot v a s) :=
  .next (Keeps.refl s).regWrite

theorem execShadowWrite_answers {m : Master} {slot : ℕ} {v : Word} : Answers true s (execShadowWrite m slot v s) :=
  .next (.ite (Keeps.refl s) (Keeps.refl s).plainWrite)

theorem execWidthAccess_answers {m : Master} {write : Bool} {slot : ℕ} : Answers true s (execWidthAccess m write slot s) :=
  .next (.ite (Keeps.refl s) (.bind (Keeps.refl s).accessErr fun h1 => .ite h1 h1.ret))

theorem execRegisterWrite_answers {m : Master} {slot : ℕ} {v : Word} {a : Arrival} : Answers true s (execRegisterWrite m slot v a s) :=
  .next (Keeps.refl s).writeAny

theorem Keeps.putTap {t : TapInstr} (h : Keeps s₀ s) : Keeps s₀ (State.putTap s t) :=
  (h.same (by rfl)).jtagHold

theorem Keeps.jtagRefused (h : Keeps s₀ s) : Keeps s₀ (State.jtagRefused s) :=
  .ite h.raise h

theorem execJtagPinInstruction_answers {i : PinInstr} : Answers true s (execJtagPinInstruction i s) :=
  .next (.ite (Keeps.refl s) (.bind (Keeps.refl s).putTap fun h1 => .ite h1 h1.jtagRefused))

theorem execJtagInstructionExit_answers : Answers true s (execJtagInstructionExit s) :=
  .next (Keeps.refl s).putTap

theorem execTmpNowClear_answers {sensor : ℕ} : Answers (decide (sensor < 6)) s (execTmpNowClear sensor s) :=
  .unit (.ite (Keeps.refl s).putTmpNow (Keeps.refl s))

theorem execLaneLockChange_answers {link : ℕ} {lane : ℕ} {locked : Bool} {tick : ℕ} : Answers (decide (link < 2)) s (execLaneLockChange link lane locked tick s) :=
  .unit (.inRh (Keeps.refl s) (.ite (Keeps.refl s) (.bind (Keeps.refl s).setFlag.raise fun h1 => .ite h1 (.ite h1.lineOff h1.loseHeart))))

theorem execBypassSynthRelock_answers : Answers true s (execBypassSynthRelock s) :=
  .next (.inRh (Keeps.refl s) ((Keeps.refl s).same (by rfl)).lineOff)

theorem execPllLockHeld_answers {pll : ℕ} : Answers (decide (pll < 4)) s (execPllLockHeld pll s) :=
  .unit (.inRh (Keeps.refl s) (.ite (Keeps.refl s).set.putPll (Keeps.refl s)))

/-- Every command but JTAG_PRIVATE_INSTRUCTION answers: it completes in a state that its start keeps, or it names a unit that the device does not have. -/
theorem exec_answers (c : Instr) (h : c ≠ .jtagPrivateInstruction) : Answers c.wf s (exec c s) := by
  cases c with
  | vinGood => exact execVinGood_answers
  | holdupReady => exact execHoldupReady_answers
  | hitchedEntry => exact execHitchedEntry_answers
  | nvmScan => exact execNvmScan_answers
  | keyLoad => exact execKeyLoad_answers
  | bankSelect => exact execBankSelect_answers
  | islandRelease => exact execIslandRelease_answers
  | imageApply => exact execImageApply_answers
  | rollingEntry => exact execRollingEntry_answers
  | timedEntry => exact execTimedEntry_answers
  | steadyEntry => exact execSteadyEntry_answers
  | resetNAssert => exact execResetNAssert_answers
  | resetNRelease => exact execResetNRelease_answers
  | perstAssert => exact execPerstAssert_answers
  | perstRelease => exact execPerstRelease_answers
  | pcieConfigRequest => exact execPcieConfigRequest_answers
  | powerFailWarning => exact execPowerFailWarning_answers
  | pfShutdown => exact execPfShutdown_answers
  | pfSaveDone => exact execPfSaveDone_answers
  | rideThrough => exact execRideThrough_answers
  | holdupEnd => exact execHoldupEnd_answers
  | powerOnAfterShutdown => exact execPowerOnAfterShutdown_answers
  | nvmRecordWrite => exact execNvmRecordWrite_answers
  | nvmSectorErase => exact execNvmSectorErase_answers
  | bootLoad => exact execBootLoad_answers
  | bootErase => exact execBootErase_answers
  | bankEraseDone => exact execBankEraseDone_answers
  | writeOpen => exact execWriteOpen_answers
  | imgDataWrite => exact execImgDataWrite_answers
  | writeClose => exact execWriteClose_answers (_bank := 0)
  | fabricReset => exact execFabricReset_answers
  | fabricDone => exact execFabricDone_answers
  | islandClockCheck => exact execIslandClockCheck_answers
  | couplingTransfer => exact execCouplingTransfer_answers
  | couplingResume => exact execCouplingResume_answers
  | axleSubframe => exact execAxleSubframe_answers
  | axmark => exact execAxmark_answers
  | voteUpdate => exact execVoteUpdate_answers
  | coreCatchupDone => exact execCoreCatchupDone_answers
  | rejoinExpiry => exact execRejoinExpiry_answers
  | coreReadmit => exact execCoreReadmit_answers
  | coreShuntApply => exact execCoreShuntApply_answers
  | voteSet => exact execVoteSet_answers
  | hostStepSubmit => exact execHostStepSubmit_answers
  | cancelStep => exact execCancelStep_answers
  | recover => exact execRecover_answers
  | utcOffsetWrite => exact execUtcOffsetWrite_answers
  | leapSchedule => exact execLeapSchedule_answers
  | leapPend => exact execLeapPend_answers
  | ocxoWarmSet => exact execOcxoWarmSet_answers
  | ocxoWarmClear => exact execOcxoWarmClear_answers
  | cellHeatDone => exact execCellHeatDone_answers
  | cellLineFound => exact execCellLineFound_answers
  | cellResonanceLock => exact execCellResonanceLock_answers
  | cellAcquireTimeout => exact execCellAcquireTimeout_answers
  | cellSignalLost => exact execCellSignalLost_answers
  | cellMeasurement => exact execCellMeasurement_answers
  | cellRestart => exact execCellRestart_answers
  | cellStop => exact execCellStop_answers
  | candidateSample => exact execCandidateSample_answers
  | candTimeout => exact execCandTimeout_answers
  | candQualified => exact execCandQualified_answers
  | wtrDone => exact execWtrDone_answers
  | refInEdge => exact execRefInEdge_answers
  | esmcReceive => exact execEsmcReceive_answers
  | esmcTimeout => exact execEsmcTimeout_answers
  | selSwitch => exact execSelSwitch_answers
  | selHoldover => exact execSelHoldover_answers
  | selRelease => exact execSelRelease_answers
  | selClearWtr => exact execSelClearWtr_answers
  | lockoutWrite => exact execLockoutWrite_answers
  | prepareEnd => exact execPrepareEnd_answers
  | settleTimeout => exact execSettleTimeout_answers
  | steerSubmit => exact execSteerSubmit_answers
  | steerDone => exact execSteerDone_answers
  | servoUpdate => exact execServoUpdate_answers
  | hostFeedMode => exact execHostFeedMode_answers
  | hostOffsetSubmit => exact execHostOffsetSubmit_answers
  | holdFit => exact execHoldFit_answers
  | holdRecordPeriod => exact execHoldRecordPeriod_answers
  | pllBandChosen => exact execPllBandChosen_answers
  | pllLocked => exact execPllLocked_answers
  | pllLockFail => exact execPllLockFail_answers
  | pllUnlock => exact execPllUnlock_answers
  | pllRefLost => exact execPllRefLost_answers
  | pllRefRestored => exact execPllRefRestored_answers
  | pllRelock => exact execPllRelock_answers
  | pllDisable => exact execPllDisable_answers
  | bypassSynthUnlock => exact execBypassSynthUnlock_answers
  | clkReturnToPll => exact execClkReturnToPll_answers
  | started => exact execStarted_answers
  | pulseEdge => exact execPulseEdge_answers
  | outRealign => exact execOutRealign_answers
  | realignDone => exact execRealignDone_answers
  | drvFault => exact execDrvFault_answers
  | outDisable => exact execOutDisable_answers
  | ticArm => exact execTicArm_answers
  | ticArmAt => exact execTicArmAt_answers
  | ticArmAtReached => exact execTicArmAtReached_answers
  | ticEdge => exact execTicEdge_answers
  | ticTimeout => exact execTicTimeout_answers
  | ticDisarm => exact execTicDisarm_answers
  | ticCalibrate => exact execTicCalibrate_answers
  | ticAutoCal => exact execTicAutoCal_answers
  | ticCalDone => exact execTicCalDone_answers
  | ticDisable => exact execTicDisable_answers
  | pairRecal => exact execPairRecal_answers
  | pairSwap => exact execPairSwap_answers
  | gnssEpoch => exact execGnssEpoch_answers
  | gnssSampleDelivery => exact execGnssSampleDelivery_answers
  | channelAcquired => exact execChannelAcquired_answers
  | channelLockDrop => exact execChannelLockDrop_answers
  | channelSearchWarm => exact execChannelSearchWarm_answers
  | engine => exact execEngine_answers
  | surveyDone => exact execSurveyDone_answers
  | jamSet => exact execJamSet_answers
  | jamClear => exact execJamClear_answers
  | ant => exact execAnt_answers
  | antBiasRetry => exact execAntBiasRetry_answers
  | coldStart => exact execColdStart_answers
  | clearSuspect => exact execClearSuspect_answers
  | resurvey => exact execResurvey_answers
  | codeOpen => exact execCodeOpen_answers
  | codeDataWrite => exact execCodeDataWrite_answers
  | codeClose => exact execCodeClose_answers
  | gnssDisable => exact execGnssDisable_answers
  | frameReceive => exact execFrameReceive_answers
  | linkLoss => exact execLinkLoss_answers
  | linkLock => exact execLinkLock_answers
  | linkHoldExpiry => exact execLinkHoldExpiry_answers
  | portDisable => exact execPortDisable_answers
  | moduleResetRelease => exact execModuleResetRelease_answers
  | moduleRstWrite => exact execModuleRstWrite_answers
  | modPresent => exact execModPresent_answers
  | modInt => exact execModInt_answers
  | i2cRead => exact execI2cRead_answers
  | i2cWrite => exact execI2cWrite_answers
  | restartBus => exact execRestartBus_answers
  | i2cDone => exact execI2cDone_answers
  | i2cStuck => exact execI2cStuck_answers
  | gearWindow => exact execGearWindow_answers
  | frameAdmission => exact execFrameAdmission_answers
  | cellArrival => exact execCellArrival_answers
  | frameRelease => exact execFrameRelease_answers
  | reseqSkip => exact execReseqSkip_answers
  | spillReissue => exact execSpillReissue_answers
  | aged => exact execAged_answers
  | fdbAgeSweep => exact execFdbAgeSweep_answers
  | addStatic => exact execAddStatic_answers
  | fdbDelete => exact execFdbDelete_answers
  | fdbRead => exact execFdbRead_answers
  | flushLearned => exact execFlushLearned_answers
  | flushPort => exact execFlushPort_answers
  | switchDisable => exact execSwitchDisable_answers
  | frameTransmit => exact execFrameTransmit_answers
  | dramTransferError => exact execDramTransferError_answers
  | throttle => exact execThrottle_answers
  | carriageParse => exact execCarriageParse_answers
  | upstreamAnnounceTimeout => exact execUpstreamAnnounceTimeout_answers
  | lookupDone => exact execLookupDone_answers
  | verifyDone => exact execVerifyDone_answers
  | composeCarriage => exact execComposeCarriage_answers
  | signQueueAdmit => exact execSignQueueAdmit_answers
  | signDone => exact execSignDone_answers
  | sealSetupCheck => exact execSealSetupCheck_answers
  | launch => exact execLaunch_answers
  | multicastTimer => exact execMulticastTimer_answers
  | coachDisable => exact execCoachDisable_answers
  | drained => exact execDrained_answers
  | wheelSlot => exact execWheelSlot_answers
  | wheelVisit => exact execWheelVisit_answers
  | grantExpiry => exact execGrantExpiry_answers
  | entryFree => exact execEntryFree_answers
  | clientScrub => exact execClientScrub_answers
  | cltAdd => exact execCltAdd_answers
  | cltDelete => exact execCltDelete_answers
  | cltRead => exact execCltRead_answers
  | cltFind => exact execCltFind_answers
  | cltCancel => exact execCltCancel_answers
  | cltWrite => exact execCltWrite_answers
  | rebuild => exact execRebuild_answers
  | rebuildDone => exact execRebuildDone_answers
  | lcyConfirm => exact execLcyConfirm_answers
  | lcyProvision => exact execLcyProvision_answers
  | lcyDeploy => exact execLcyDeploy_answers
  | lcyReturn => exact execLcyReturn_answers
  | lcyDisable => exact execLcyDisable_answers
  | lcyChangeDone => exact execLcyChangeDone_answers
  | keyCreate => exact execKeyCreate_answers
  | keyGenerate => exact execKeyGenerate_answers
  | keyDerive => exact execKeyDerive_answers
  | keyImport => exact execKeyImport_answers
  | keyUnwrap => exact execKeyUnwrap_answers
  | keyVerify => exact execKeyVerify_answers
  | keyCommit => exact execKeyCommit_answers
  | activated => exact execActivated_answers
  | keyDiscard => exact execKeyDiscard_answers
  | keyRevoke => exact execKeyRevoke_answers
  | keyErase => exact execKeyErase_answers
  | keyEraseDone => exact execKeyEraseDone_answers
  | keyMint => exact execKeyMint_answers
  | keyReload => exact execKeyReload_answers
  | keyDataAccess => exact execKeyDataAccess_answers
  | keyPin => exact execKeyPin_answers
  | keyRelease => exact execKeyRelease_answers
  | keyGraceEnd => exact execKeyGraceEnd_answers
  | freed => exact execFreed_answers
  | drbgReseed => exact execDrbgReseed_answers
  | keyStoreCompact => exact execKeyStoreCompact_answers
  | keyMemoryError => exact execKeyMemoryError_answers
  | tamperAlarm => exact execTamperAlarm_answers
  | tmpLatchClear => exact execTmpLatchClear_answers
  | tmpPolicyWrite => exact execTmpPolicyWrite_answers
  | statement => exact execStatement_answers
  | genHash => exact execGenHash_answers
  | genPrepare => exact execGenPrepare_answers
  | genCancel => exact execGenCancel_answers
  | preparedReport => exact execPreparedReport_answers
  | genDecision => exact execGenDecision_answers
  | appliedReport => exact execAppliedReport_answers
  | appliedTimeout => exact execAppliedTimeout_answers
  | unfenced => exact execUnfenced_answers
  | migrationStart => exact execMigrationStart_answers
  | migrationFenceFixed => exact execMigrationFenceFixed_answers
  | migrationFence => exact execMigrationFence_answers
  | migrated => exact execMigrated_answers
  | shuntCmd => exact execShuntCmd_answers
  | shntReturn => exact execShntReturn_answers
  | migrateCmd => exact execMigrateCmd_answers
  | shuntReturnDone => exact execShuntReturnDone_answers
  | proveStart => exact execProveStart_answers
  | runNow => exact execRunNow_answers
  | proveStop => exact execProveStop_answers
  | proveUnitDone => exact execProveUnitDone_answers
  | proveWindowEnd => exact execProveWindowEnd_answers
  | ttSend => exact execTtSend_answers
  | ttReceive => exact execTtReceive_answers
  | renewSend => exact execRenewSend_answers
  | renewReceive => exact execRenewReceive_answers
  | ackReceive => exact execAckReceive_answers
  | leaseStop => exact execLeaseStop_answers
  | claimStart => exact execClaimStart_answers
  | claimReceive => exact execClaimReceive_answers
  | replyReceive => exact execReplyReceive_answers
  | claimTimeout => exact execClaimTimeout_answers
  | handover => exact execHandover_answers
  | handoverReceive => exact execHandoverReceive_answers
  | handoverTake => exact execHandoverTake_answers
  | handoverTimeout => exact execHandoverTimeout_answers
  | selFrameReceive => exact execSelFrameReceive_answers
  | leapFrameReceive => exact execLeapFrameReceive_answers
  | leapFrameSend => exact execLeapFrameSend_answers
  | clientFrameReceive => exact execClientFrameReceive_answers
  | sweepReceive => exact execSweepReceive_answers
  | sweepSend => exact execSweepSend_answers
  | hbLost => exact execHbLost_answers
  | heartbeatReturn => exact execHeartbeatReturn_answers
  | dugLinkDownTimer => exact execDugLinkDownTimer_answers
  | sleep => exact execSleep_answers
  | wake => exact execWake_answers
  | wakeDone => exact execWakeDone_answers
  | faultLineRise => exact execFaultLineRise_answers
  | faultLineFall => exact execFaultLineFall_answers
  | fltAck => exact execFltAck_answers
  | fltRelease => exact execFltRelease_answers
  | released => exact execReleased_answers
  | fltLatchClear => exact execFltLatchClear_answers
  | fltSevWrite => exact execFltSevWrite_answers
  | fltSoftWrite => exact execFltSoftWrite_answers
  | wdogKick => exact execWdogKick_answers
  | wdogCfgWrite => exact execWdogCfgWrite_answers
  | wdogExpiry => exact execWdogExpiry_answers
  | injSramEcc => exact execInjSramEcc_answers
  | injCouple => exact execInjCouple_answers
  | injDramCrc => exact execInjDramCrc_answers
  | injVote => exact execInjVote_answers
  | injNvmCrc => exact execInjNvmCrc_answers
  | injDone => exact execInjDone_answers
  | thmSample => exact execThmSample_answers
  | recTrigger => exact execRecTrigger_answers
  | recRecordWrite => exact execRecRecordWrite_answers
  | journalBatchWrite => exact execJournalBatchWrite_answers
  | fetch => exact execFetch_answers
  | fetchDone => exact execFetchDone_answers
  | hostMark => exact execHostMark_answers
  | codeSelWrite => exact execCodeSelWrite_answers
  | codeCfgWrite => exact execCodeCfgWrite_answers
  | spiRead => exact execSpiRead_answers
  | spiWrite => exact execSpiWrite_answers
  | spiStatus => exact execSpiStatus_answers
  | flr => exact execFlr_answers
  | pcieLinkLost => exact execPcieLinkLost_answers
  | pcieLinkUp => exact execPcieLinkUp_answers
  | dmaTailWrite => exact execDmaTailWrite_answers
  | dmaDescFetch => exact execDmaDescFetch_answers
  | dmaRxFrame => exact execDmaRxFrame_answers
  | dmaTxComplete => exact execDmaTxComplete_answers
  | dmaStampTimeout => exact execDmaStampTimeout_answers
  | ringErr => exact execRingErr_answers
  | dmaModTimer => exact execDmaModTimer_answers
  | dqPendClear => exact execDqPendClear_answers
  | dmaRingEnable => exact execDmaRingEnable_answers
  | dmaDisable => exact execDmaDisable_answers
  | expertKeyWrite => exact execExpertKeyWrite_answers
  | expertWindowTimeout => exact execExpertWindowTimeout_answers
  | vectorAck => exact execVectorAck_answers
  | msixUnmask => exact execMsixUnmask_answers
  | pgEvtClear => exact execPgEvtClear_answers
  | rsLeadRead => exact execRsLeadRead_answers
  | t108ReadSnapshot => exact execT108ReadSnapshot_answers
  | t108CommitWrite => exact execT108CommitWrite_answers
  | shadowWrite => exact execShadowWrite_answers
  | widthAccess => exact execWidthAccess_answers
  | registerWrite => exact execRegisterWrite_answers
  | jtagPinInstruction => exact execJtagPinInstruction_answers
  | jtagPrivateInstruction => exact absurd rfl h
  | jtagInstructionExit => exact execJtagInstructionExit_answers
  | tmpNowClear => exact execTmpNowClear_answers
  | laneLockChange => exact execLaneLockChange_answers
  | bypassSynthRelock => exact execBypassSynthRelock_answers
  | pllLockHeld => exact execPllLockHeld_answers

/-- JTAG_PRIVATE_INSTRUCTION leaves the registers canonical too, where it completes. -/
theorem execJtagPrivateInstruction_keeps (e : execJtagPrivateInstruction s = .next t) : Keeps s t := by
  unfold execJtagPrivateInstruction at e
  split at e
  · obtain rfl := Host.Outcome.next.inj e
    exact .refl s
  · split at e
    · cases e
    · obtain rfl := Host.Outcome.next.inj e
      exact (Keeps.refl s).putTap.jtagRefused

theorem exec_keeps {c : Instr} (e : exec c s = .next t) : Keeps s t := by
  by_cases h : c = .jtagPrivateInstruction
  · rw [h] at e
    exact execJtagPrivateInstruction_keeps e
  · obtain ⟨u, next, k⟩ | ⟨-, fault⟩ := exec_answers c h
    · obtain rfl := Host.Outcome.next.inj (next.symm.trans e)
      exact k
    · rw [fault] at e
      cases e

/-- A step takes the front command off the queue, and the command keeps the rest. -/
theorem step_keeps (e : step s = .next t) : (RegsWf s → RegsWf t) ∧ ∀ k, bitOn s.key.fuses k = true → bitOn t.key.fuses k = true := by
  unfold step at e
  split at e
  · obtain rfl := Host.Outcome.next.inj e
    exact ⟨id, fun _ => id⟩
  · have k := exec_keeps e
    exact ⟨k.wf, k.fuses⟩

/-- The last of the numbers that a list keeps does not go back when the list keeps more of them. -/
theorem getLast?_filter_le {p q : Nat → Bool} (more : ∀ k, p k = true → q k = true) (l : List Nat) (rising : l.Pairwise (· ≤ ·)) :
    ((l.filter p).getLast?.getD 0) ≤ ((l.filter q).getLast?.getD 0) := by
  induction l using List.reverseRecOn with
  | nil => exact Nat.le_refl _
  | append_singleton l x ih =>
    obtain ⟨low, -, below⟩ := List.pairwise_append.1 rising
    have at_most : ∀ r : Nat → Bool, (l.filter r).getLast?.getD 0 ≤ x := fun r => by
      cases e : (l.filter r).getLast? with
      | none => exact Nat.zero_le x
      | some y => exact below y (List.mem_filter.1 (List.mem_of_getLast? e)).1 x (List.mem_singleton.2 rfl)
    rw [List.filter_append, List.filter_append]
    by_cases hp : p x = true
    · simp [hp, more x hp]
    · by_cases hq : q x = true
      · simpa [List.filter_singleton, hp, hq] using at_most p
      · simpa [List.filter_singleton, hp, hq] using ih low

theorem State.lcs_le (more : ∀ k, bitOn s.key.fuses k = true → bitOn t.key.fuses k = true) : s.lcs ≤ t.lcs :=
  getLast?_filter_le more (List.range 5) (by decide)

/-- Settles O56: one lemma for each function of the model says that it keeps the stores canonical, down to the single write. -/
theorem everyStepKeepsTheRegistersCanonical : Obligations.EveryStepKeepsTheRegistersCanonical := fun _ _ canonical e => (step_keeps e).1 canonical

/-- Settles O57: the one update of the fuses programs one, and the life-cycle state is the highest programmed fuse. -/
theorem fusesNeverGoBack : Obligations.FusesNeverGoBack := fun _ _ e => ⟨(step_keeps e).2, State.lcs_le (step_keeps e).2⟩

/-- Settles O58: a command answers at once, with no command put on the queue (log entries 37 and 38: the model's choice). -/
theorem commandsCompleteAndKeepTheQueue : Obligations.CommandsCompleteAndKeepTheQueue := by
  refine ⟨fun c s wf h => ?_, fun s h => ?_⟩
  · obtain ⟨t, e, k⟩ | ⟨bad, -⟩ := exec_answers (s := s) c h
    · exact ⟨t, e, k.pending⟩
    · rw [wf] at bad
      cases bad
  · have e : exec .jtagPrivateInstruction s = if !s.aoOn then .next s else .next (s.putTap .bypass).jtagRefused := by
      have open' : ¬ (s.lcs = 0 ∨ s.lcs = 3) := by omega
      show execJtagPrivateInstruction s = _
      simp [execJtagPrivateInstruction, open']
    by_cases on : (!s.aoOn) = true
    · exact ⟨s, by rw [e, if_pos on], rfl⟩
    · exact ⟨_, by rw [e, if_neg on], (Keeps.refl s).putTap.jtagRefused.pending⟩

end Sys2Proof.Machine
end

section
/-! PROOFS.
The queue's front and the reset.
-/
namespace Sys2Proof.Machine
open Sys2Proof

/-- No page's event latches are set at reset: PG_EVT is the header's slot 4 (R87), which resets to 0. -/
theorem regReset_pgEvt (p : Nat) : regReset (R.PG_EVT p) = 0 := by
  have slot : R.PG_EVT p % 512 = 4 := by
    show (p * 512 + 4) % 512 = 4
    omega
  unfold regReset
  split
  · rfl
  · rw [slot]
    rfl

/-- Settles O54. -/
theorem stepRunsTheFrontCommand : Obligations.StepRunsTheFrontCommand := by
  refine ⟨fun c rest s h => ?_, fun s h => ?_⟩
  · unfold step
    rw [h]
  · unfold step
    rw [h]

/-- Settles O55: at reset the stores list nothing, so each slot reads its reset word (log entries 18 and 19). -/
theorem resetIsTheRegisterTables : Obligations.ResetIsTheRegisterTables := by
  refine ⟨⟨rfl, rfl, rfl⟩, fun a => ⟨rfl, rfl⟩, rfl, rfl, ?_, rfl, rfl, rfl, ?_⟩
  · intro i lo hi
    interval_cases i <;> rfl
  · intro p b _ event
    have clear : State.reset.rd (R.PG_EVT p) = 0 := regReset_pgEvt p
    rw [Event, clear] at event
    simp [bitOn] at event

end Sys2Proof.Machine
end

section
/-! PROOFS.
What the helpers of the model may touch: the frames of the single updates.
-/
namespace Sys2Proof.Machine
open Sys2Proof

/-! ## What an update may touch

A helper of the model is described by what it may touch: fields of registers, the event latches of pages, and parts of the state.  What reports to the host (messages,
recorder triggers, what has left the device, the count of free values) is not counted.  Frames follow by choosing what may be touched. -/

/-- The parts of the state that are not registers and do not report to the host; `brake`: a brake that is on; `calm`: a brake that is off; `mark`: where the axle's marks stand;
`reins`: what the member knows of the lease. -/
inductive Part | shadow | staging | boot | isl | nvm | flt | ax | tri | osc | sel | srv | hold | cores | out | tic | gns | teb | pipe | sw | clt | key | gen | shunt | prove | dug | dma | pending | brake | calm | mark | reins
  deriving DecidableEq

/-- One thing that an update may touch: a field, the event latches of a page, every register of a page, a part. -/
inductive Touch | fld (f : Fld) | evt (page : Nat) | page (p : Nat) | part (p : Part)
  deriving DecidableEq

/-- What may be touched. -/
abbrev Cap := Touch → Bool

/-- Where the axle's marks stand: whether the first has been, the scale at the last, and their count. -/
def AxlePart.marked (x : AxlePart) : Bool × Int × Nat := (x.started, x.mark, x.marks)

/-- What the member knows of the lease, its claims and its handovers: the part without what it knows of its peers and without the start of its feed. -/
def DugPart.reins (x : DugPart) : DugPart := { x with p0 := .init, p1 := .init, followed := false, feedFirst := false }

/-- The part is the same in both states; a brake that is on in the first is on in the second, and one that is off is off. -/
def Part.same : Part → State → State → Prop
  | .shadow, s, t => t.shadow = s.shadow
  | .staging, s, t => t.staging = s.staging
  | .boot, s, t => t.boot = s.boot
  | .isl, s, t => t.isl = s.isl
  | .nvm, s, t => t.nvm = s.nvm
  | .flt, s, t => t.flt = s.flt
  | .ax, s, t => t.ax = s.ax
  | .tri, s, t => t.tri = s.tri
  | .osc, s, t => t.osc = s.osc
  | .sel, s, t => t.sel = s.sel
  | .srv, s, t => t.srv = s.srv
  | .hold, s, t => t.hold = s.hold
  | .cores, s, t => t.cores = s.cores
  | .out, s, t => t.out = s.out
  | .tic, s, t => t.tic = s.tic
  | .gns, s, t => t.gns = s.gns
  | .teb, s, t => t.teb = s.teb
  | .pipe, s, t => t.pipe = s.pipe
  | .sw, s, t => t.sw = s.sw
  | .clt, s, t => t.clt = s.clt
  | .key, s, t => t.key = s.key
  | .gen, s, t => t.gen = s.gen
  | .shunt, s, t => t.shunt = s.shunt
  | .prove, s, t => t.prove = s.prove
  | .dug, s, t => t.dug = s.dug
  | .dma, s, t => t.dma = s.dma
  | .pending, s, t => t.pending = s.pending
  | .brake, s, t => s.flt.brake ≠ .off → t.flt.brake ≠ .off
  | .calm, s, t => s.flt.brake = .off → t.flt.brake = .off
  | .mark, s, t => t.ax.marked = s.ax.marked
  | .reins, s, t => t.dug.reins = s.dug.reins

/-- A write of one field leaves the other as it is. -/
abbrev Fld.apart (f g : Fld) : Prop := f.slot ≠ g.slot ∨ f.lo + f.w ≤ 36 ∧ (g.lo + g.w ≤ f.lo ∨ f.lo + f.w ≤ g.lo)

/-- The field that is a whole slot. -/
abbrev whole (a : Nat) : Fld := ⟨a, 0, 36⟩

/-- From `s` to `t` nothing changes but what `C` names; no event falls whose latch is not written, and nothing that has left the device is taken back. -/
structure Within (C : Cap) (s t : State) : Prop where
  get : ∀ g, (∀ f, C (.fld f) = true → f.apart g) → (∀ p, C (.evt p) = true → R.PG_EVT p ≠ g.slot) → (∀ p, C (.page p) = true → g.slot / 512 ≠ p) →
    t.get g = s.get g
  evt : ∀ p b, (∀ f, C (.fld f) = true → f.slot ≠ R.PG_EVT p) → (∀ q, C (.page q) = true → R.PG_EVT p / 512 ≠ q) → Event s p b → Event t p b
  part : ∀ p, C (.part p) = false → p.same s t
  sent : s.sent <:+ t.sent

section
variable {C : Cap} {s₀ s t u : State}

theorem Part.same_refl (p : Part) (s : State) : p.same s s := by
  cases p with
  | brake => exact id
  | calm => exact id
  | _ => rfl

theorem Part.same_trans {p : Part} (h : p.same s t) (k : p.same t u) : p.same s u := by
  cases p with
  | brake => exact k ∘ h
  | calm => exact k ∘ h
  | _ => exact Eq.trans k h

theorem Within.refl (s : State) : Within C s s := ⟨fun _ _ _ _ => rfl, fun _ _ _ _ => id, fun p _ => p.same_refl s, List.suffix_refl _⟩

theorem Within.trans (h : Within C s t) (k : Within C t u) : Within C s u :=
  ⟨fun g a b c => (k.get g a b c).trans (h.get g a b c), fun p b a c => k.evt p b a c ∘ h.evt p b a c, fun p a => Part.same_trans (h.part p a) (k.part p a),
    h.sent.trans k.sent⟩

theorem Within.ite {c : Prop} [Decidable c] (h : Within C s t) (k : Within C s u) : Within C s (if c then t else u) := by split; exacts [h, k]

theorem Within.dite {c : Prop} [Decidable c] {a : c → State} {b : ¬c → State} (h : ∀ x, Within C s (a x)) (k : ∀ x, Within C s (b x)) :
    Within C s (if x : c then a x else b x) := by split; exacts [h _, k _]

theorem Within.ite1 {α : Type} {c : Prop} [Decidable c] {p q : State × α} (h : Within C s p.1) (k : Within C s q.1) : Within C s (if c then p else q).1 := by
  split; exacts [h, k]

theorem Within.ite2 {α : Type} {c : Prop} [Decidable c] {p q : α × State} (h : Within C s p.2) (k : Within C s q.2) : Within C s (if c then p else q).2 := by
  split; exacts [h, k]

theorem Within.bind (h : Within C s t) (k : Within C s t → Within C s u) : Within C s u := k h

theorem Within.foldl {α : Type} {f : State → α → State} {l : List α} (h : Within C s t) (k : ∀ x ∈ l, ∀ u, Within C s u → Within C s (f u x)) :
    Within C s (l.foldl f t) := List.foldlRecOn (motive := fun u => Within C s u) l f h fun u hu x m => k x m u hu

/-! ### The frames -/

/-- What may be touched while a field reads the same. -/
def Cap.away (g : Fld) : Cap
  | .fld f => decide (f.apart g)
  | .evt p => decide (R.PG_EVT p ≠ g.slot)
  | .page p => decide (g.slot / 512 ≠ p)
  | .part _ => true

/-- What may be touched while the events of a page stay. -/
def Cap.raising (p : Nat) : Cap
  | .fld f => decide (f.slot ≠ R.PG_EVT p)
  | .page q => decide (R.PG_EVT p / 512 ≠ q)
  | _ => true

/-- What may be touched while a part stays the same. -/
def Cap.sparing (p : Part) : Cap
  | .part q => decide (q ≠ p)
  | _ => true

theorem Within.get_eq {g : Fld} (h : Within (Cap.away g) s t) : t.get g = s.get g :=
  h.get g (fun _ e => of_decide_eq_true e) (fun _ e => of_decide_eq_true e) fun _ e => of_decide_eq_true e

theorem Within.flag_eq {g : Fld} (h : Within (Cap.away g) s t) : t.flag g = s.flag g := by
  unfold State.flag
  rw [h.get_eq]

theorem Fld.of_whole (v : Word) : (whole a).of v = v.toNat := by
  have := v.isLt
  simp only [Fld.of, pow_zero, Nat.div_one]
  exact Nat.mod_eq_of_lt this

/-- A field outside the word reads 0. -/
theorem Fld.of_outside {g : Fld} (h : g.lo + g.w ≤ 0 ∨ 36 ≤ g.lo) (v : Word) : g.of v = 0 := by
  unfold Fld.of
  rcases h with h | h
  · rw [show g.w = 0 by omega, pow_zero, Nat.mod_one]
  · rw [Nat.div_eq_of_lt (v.isLt.trans_le (Nat.pow_le_pow_right (by decide) h)), Nat.zero_mod]

theorem Within.rd_eq {a : Nat} (h : Within (Cap.away (whole a)) s t) : t.rd a = s.rd a := by
  have e := h.get_eq
  unfold State.get at e
  rw [Fld.of_whole, Fld.of_whole] at e
  exact BitVec.eq_of_toNat_eq e

theorem Within.event {p b : Nat} (h : Within (Cap.raising p) s t) (e : Event s p b) : Event t p b := h.evt p b (fun _ e => of_decide_eq_true e) (fun _ e => of_decide_eq_true e) e

theorem Within.same {p : Part} (h : Within (Cap.sparing p) s t) : p.same s t := h.part p (by simp [Cap.sparing])

theorem Within.shadow_eq (h : Within (Cap.sparing .shadow) s t) : t.shadow = s.shadow := h.same

theorem Within.staging_eq (h : Within (Cap.sparing .staging) s t) : t.staging = s.staging := h.same

theorem Within.boot_eq (h : Within (Cap.sparing .boot) s t) : t.boot = s.boot := h.same

theorem Within.isl_eq (h : Within (Cap.sparing .isl) s t) : t.isl = s.isl := h.same

theorem Within.nvm_eq (h : Within (Cap.sparing .nvm) s t) : t.nvm = s.nvm := h.same

theorem Within.flt_eq (h : Within (Cap.sparing .flt) s t) : t.flt = s.flt := h.same

theorem Within.ax_eq (h : Within (Cap.sparing .ax) s t) : t.ax = s.ax := h.same

theorem Within.tri_eq (h : Within (Cap.sparing .tri) s t) : t.tri = s.tri := h.same

theorem Within.osc_eq (h : Within (Cap.sparing .osc) s t) : t.osc = s.osc := h.same

theorem Within.sel_eq (h : Within (Cap.sparing .sel) s t) : t.sel = s.sel := h.same

theorem Within.srv_eq (h : Within (Cap.sparing .srv) s t) : t.srv = s.srv := h.same

theorem Within.hold_eq (h : Within (Cap.sparing .hold) s t) : t.hold = s.hold := h.same

theorem Within.cores_eq (h : Within (Cap.sparing .cores) s t) : t.cores = s.cores := h.same

theorem Within.out_eq (h : Within (Cap.sparing .out) s t) : t.out = s.out := h.same

theorem Within.tic_eq (h : Within (Cap.sparing .tic) s t) : t.tic = s.tic := h.same

theorem Within.gns_eq (h : Within (Cap.sparing .gns) s t) : t.gns = s.gns := h.same

theorem Within.teb_eq (h : Within (Cap.sparing .teb) s t) : t.teb = s.teb := h.same

theorem Within.pipe_eq (h : Within (Cap.sparing .pipe) s t) : t.pipe = s.pipe := h.same

theorem Within.sw_eq (h : Within (Cap.sparing .sw) s t) : t.sw = s.sw := h.same

theorem Within.clt_eq (h : Within (Cap.sparing .clt) s t) : t.clt = s.clt := h.same

theorem Within.key_eq (h : Within (Cap.sparing .key) s t) : t.key = s.key := h.same

theorem Within.gen_eq (h : Within (Cap.sparing .gen) s t) : t.gen = s.gen := h.same

theorem Within.shunt_eq (h : Within (Cap.sparing .shunt) s t) : t.shunt = s.shunt := h.same

theorem Within.prove_eq (h : Within (Cap.sparing .prove) s t) : t.prove = s.prove := h.same

theorem Within.dug_eq (h : Within (Cap.sparing .dug) s t) : t.dug = s.dug := h.same

theorem Within.dma_eq (h : Within (Cap.sparing .dma) s t) : t.dma = s.dma := h.same

theorem Within.pending_eq (h : Within (Cap.sparing .pending) s t) : t.pending = s.pending := h.same

theorem Within.calm (h : Within (Cap.sparing .calm) s t) (off : s.flt.brake = .off) : t.flt.brake = .off := h.same off

theorem Within.marked_eq (h : Within (Cap.sparing .mark) s t) : t.ax.marked = s.ax.marked := h.same

theorem Within.reins_eq (h : Within (Cap.sparing .reins) s t) : t.dug.reins = s.dug.reins := h.same

theorem Within.braked (h : Within (Cap.sparing .brake) s t) (on : s.flt.brake ≠ .off) : t.flt.brake ≠ .off := h.same on

/-! ### Updates of one part -/

theorem Within.updShadow {x : Store} (h : Within C s₀ s) (q : C (.part .shadow) = true) : Within C s₀ { s with shadow := x } :=
  ⟨h.get, h.evt, fun p e => by
    cases p with
    | shadow => exact absurd (q.symm.trans e) Bool.noConfusion
    | _ => exact h.part _ e, h.sent⟩

theorem Within.updStaging {x : Store} (h : Within C s₀ s) (q : C (.part .staging) = true) : Within C s₀ { s with staging := x } :=
  ⟨h.get, h.evt, fun p e => by
    cases p with
    | staging => exact absurd (q.symm.trans e) Bool.noConfusion
    | _ => exact h.part _ e, h.sent⟩

theorem Within.updBoot {x : BootPart} (h : Within C s₀ s) (q : C (.part .boot) = true) : Within C s₀ { s with boot := x } :=
  ⟨h.get, h.evt, fun p e => by
    cases p with
    | boot => exact absurd (q.symm.trans e) Bool.noConfusion
    | _ => exact h.part _ e, h.sent⟩

theorem Within.updIsl {x : IslandPart} (h : Within C s₀ s) (q : C (.part .isl) = true) : Within C s₀ { s with isl := x } :=
  ⟨h.get, h.evt, fun p e => by
    cases p with
    | isl => exact absurd (q.symm.trans e) Bool.noConfusion
    | _ => exact h.part _ e, h.sent⟩

theorem Within.updNvm {x : NvmPart} (h : Within C s₀ s) (q : C (.part .nvm) = true) : Within C s₀ { s with nvm := x } :=
  ⟨h.get, h.evt, fun p e => by
    cases p with
    | nvm => exact absurd (q.symm.trans e) Bool.noConfusion
    | _ => exact h.part _ e, h.sent⟩

/-- An update of the faults that leaves the brake. -/
theorem Within.updFlt {x : FaultPart} (h : Within C s₀ s) (q : C (.part .flt) = true) (keeps : x.brake = s.flt.brake) : Within C s₀ { s with flt := x } :=
  ⟨h.get, h.evt, fun p e => by
    cases p with
    | flt => exact absurd (q.symm.trans e) Bool.noConfusion
    | brake => exact fun on => keeps ▸ h.part .brake e on
    | calm => exact fun off => keeps.trans (h.part .calm e off)
    | _ => exact h.part _ e, h.sent⟩

theorem Within.updBrake {x : FaultPart} (h : Within C s₀ s) (q : C (.part .flt) = true ∧ C (.part .brake) = true ∧ C (.part .calm) = true) : Within C s₀ { s with flt := x } :=
  ⟨h.get, h.evt, fun p e => by
    cases p with
    | flt => exact absurd (q.1.symm.trans e) Bool.noConfusion
    | brake => exact absurd (q.2.1.symm.trans e) Bool.noConfusion
    | calm => exact absurd (q.2.2.symm.trans e) Bool.noConfusion
    | _ => exact h.part _ e, h.sent⟩

/-- An update of the axle that leaves its marks. -/
theorem Within.updAx {x : AxlePart} (h : Within C s₀ s) (q : C (.part .ax) = true) (keeps : x.marked = s.ax.marked) : Within C s₀ { s with ax := x } :=
  ⟨h.get, h.evt, fun p e => by
    cases p with
    | ax => exact absurd (q.symm.trans e) Bool.noConfusion
    | mark => exact keeps.trans (h.part .mark e)
    | _ => exact h.part _ e, h.sent⟩

theorem Within.updMarks {x : AxlePart} (h : Within C s₀ s) (q : C (.part .ax) = true ∧ C (.part .mark) = true) : Within C s₀ { s with ax := x } :=
  ⟨h.get, h.evt, fun p e => by
    cases p with
    | ax => exact absurd (q.1.symm.trans e) Bool.noConfusion
    | mark => exact absurd (q.2.symm.trans e) Bool.noConfusion
    | _ => exact h.part _ e, h.sent⟩

theorem Within.updTri {x : TriadPart} (h : Within C s₀ s) (q : C (.part .tri) = true) : Within C s₀ { s with tri := x } :=
  ⟨h.get, h.evt, fun p e => by
    cases p with
    | tri => exact absurd (q.symm.trans e) Bool.noConfusion
    | _ => exact h.part _ e, h.sent⟩

theorem Within.updOsc {x : OscPart} (h : Within C s₀ s) (q : C (.part .osc) = true) : Within C s₀ { s with osc := x } :=
  ⟨h.get, h.evt, fun p e => by
    cases p with
    | osc => exact absurd (q.symm.trans e) Bool.noConfusion
    | _ => exact h.part _ e, h.sent⟩

theorem Within.updSel {x : SelPart} (h : Within C s₀ s) (q : C (.part .sel) = true) : Within C s₀ { s with sel := x } :=
  ⟨h.get, h.evt, fun p e => by
    cases p with
    | sel => exact absurd (q.symm.trans e) Bool.noConfusion
    | _ => exact h.part _ e, h.sent⟩

theorem Within.updSrv {x : SrvPart} (h : Within C s₀ s) (q : C (.part .srv) = true) : Within C s₀ { s with srv := x } :=
  ⟨h.get, h.evt, fun p e => by
    cases p with
    | srv => exact absurd (q.symm.trans e) Bool.noConfusion
    | _ => exact h.part _ e, h.sent⟩

theorem Within.updHold {x : HoldPart} (h : Within C s₀ s) (q : C (.part .hold) = true) : Within C s₀ { s with hold := x } :=
  ⟨h.get, h.evt, fun p e => by
    cases p with
    | hold => exact absurd (q.symm.trans e) Bool.noConfusion
    | _ => exact h.part _ e, h.sent⟩

theorem Within.updCores {x : CoresPart} (h : Within C s₀ s) (q : C (.part .cores) = true) : Within C s₀ { s with cores := x } :=
  ⟨h.get, h.evt, fun p e => by
    cases p with
    | cores => exact absurd (q.symm.trans e) Bool.noConfusion
    | _ => exact h.part _ e, h.sent⟩

theorem Within.updOut {x : OutPart} (h : Within C s₀ s) (q : C (.part .out) = true) : Within C s₀ { s with out := x } :=
  ⟨h.get, h.evt, fun p e => by
    cases p with
    | out => exact absurd (q.symm.trans e) Bool.noConfusion
    | _ => exact h.part _ e, h.sent⟩

theorem Within.updTic {x : TicPart} (h : Within C s₀ s) (q : C (.part .tic) = true) : Within C s₀ { s with tic := x } :=
  ⟨h.get, h.evt, fun p e => by
    cases p with
    | tic => exact absurd (q.symm.trans e) Bool.noConfusion
    | _ => exact h.part _ e, h.sent⟩

theorem Within.updGns {x : GnsPart} (h : Within C s₀ s) (q : C (.part .gns) = true) : Within C s₀ { s with gns := x } :=
  ⟨h.get, h.evt, fun p e => by
    cases p with
    | gns => exact absurd (q.symm.trans e) Bool.noConfusion
    | _ => exact h.part _ e, h.sent⟩

theorem Within.updTeb {x : TebPart} (h : Within C s₀ s) (q : C (.part .teb) = true) : Within C s₀ { s with teb := x } :=
  ⟨h.get, h.evt, fun p e => by
    cases p with
    | teb => exact absurd (q.symm.trans e) Bool.noConfusion
    | _ => exact h.part _ e, h.sent⟩

theorem Within.updPipe {x : PipePart} (h : Within C s₀ s) (q : C (.part .pipe) = true) : Within C s₀ { s with pipe := x } :=
  ⟨h.get, h.evt, fun p e => by
    cases p with
    | pipe => exact absurd (q.symm.trans e) Bool.noConfusion
    | _ => exact h.part _ e, h.sent⟩

theorem Within.updSw {x : SwPart} (h : Within C s₀ s) (q : C (.part .sw) = true) : Within C s₀ { s with sw := x } :=
  ⟨h.get, h.evt, fun p e => by
    cases p with
    | sw => exact absurd (q.symm.trans e) Bool.noConfusion
    | _ => exact h.part _ e, h.sent⟩

theorem Within.updClt {x : CltPart} (h : Within C s₀ s) (q : C (.part .clt) = true) : Within C s₀ { s with clt := x } :=
  ⟨h.get, h.evt, fun p e => by
    cases p with
    | clt => exact absurd (q.symm.trans e) Bool.noConfusion
    | _ => exact h.part _ e, h.sent⟩

theorem Within.updKey {x : KeyPart} (h : Within C s₀ s) (q : C (.part .key) = true) : Within C s₀ { s with key := x } :=
  ⟨h.get, h.evt, fun p e => by
    cases p with
    | key => exact absurd (q.symm.trans e) Bool.noConfusion
    | _ => exact h.part _ e, h.sent⟩

theorem Within.updGen {x : GenPart} (h : Within C s₀ s) (q : C (.part .gen) = true) : Within C s₀ { s with gen := x } :=
  ⟨h.get, h.evt, fun p e => by
    cases p with
    | gen => exact absurd (q.symm.trans e) Bool.noConfusion
    | _ => exact h.part _ e, h.sent⟩

theorem Within.updShunt {x : ShuntPart} (h : Within C s₀ s) (q : C (.part .shunt) = true) : Within C s₀ { s with shunt := x } :=
  ⟨h.get, h.evt, fun p e => by
    cases p with
    | shunt => exact absurd (q.symm.trans e) Bool.noConfusion
    | _ => exact h.part _ e, h.sent⟩

theorem Within.updProve {x : ProvePart} (h : Within C s₀ s) (q : C (.part .prove) = true) : Within C s₀ { s with prove := x } :=
  ⟨h.get, h.evt, fun p e => by
    cases p with
    | prove => exact absurd (q.symm.trans e) Bool.noConfusion
    | _ => exact h.part _ e, h.sent⟩

/-- An update of what is known of the peers. -/
theorem Within.updPeers {x : DugPart} (h : Within C s₀ s) (q : C (.part .dug) = true) (keeps : x.reins = s.dug.reins) : Within C s₀ { s with dug := x } :=
  ⟨h.get, h.evt, fun p e => by
    cases p with
    | dug => exact absurd (q.symm.trans e) Bool.noConfusion
    | reins => exact keeps.trans (h.part .reins e)
    | _ => exact h.part _ e, h.sent⟩

theorem Within.updDug {x : DugPart} (h : Within C s₀ s) (q : C (.part .dug) = true ∧ C (.part .reins) = true) : Within C s₀ { s with dug := x } :=
  ⟨h.get, h.evt, fun p e => by
    cases p with
    | dug => exact absurd (q.1.symm.trans e) Bool.noConfusion
    | reins => exact absurd (q.2.symm.trans e) Bool.noConfusion
    | _ => exact h.part _ e, h.sent⟩

theorem Within.updDma {x : DmaPart} (h : Within C s₀ s) (q : C (.part .dma) = true) : Within C s₀ { s with dma := x } :=
  ⟨h.get, h.evt, fun p e => by
    cases p with
    | dma => exact absurd (q.symm.trans e) Bool.noConfusion
    | _ => exact h.part _ e, h.sent⟩

theorem Within.updPending {x : List Instr} (h : Within C s₀ s) (q : C (.part .pending) = true) : Within C s₀ { s with pending := x } :=
  ⟨h.get, h.evt, fun p e => by
    cases p with
    | pending => exact absurd (q.symm.trans e) Bool.noConfusion
    | _ => exact h.part _ e, h.sent⟩

theorem Within.updHost {x : HostPart} (h : Within C s₀ s) : Within C s₀ { s with host := x } :=
  ⟨h.get, h.evt, fun p e => by cases p <;> exact h.part _ e, h.sent⟩

theorem Within.updErec {x : RecPart} (h : Within C s₀ s) : Within C s₀ { s with erec := x } :=
  ⟨h.get, h.evt, fun p e => by cases p <;> exact h.part _ e, h.sent⟩

theorem Within.updFree {x : Nat} (h : Within C s₀ s) : Within C s₀ { s with free := x } :=
  ⟨h.get, h.evt, fun p e => by cases p <;> exact h.part _ e, h.sent⟩

/-! ### Writes of registers -/

/-- A write of a register leaves every part. -/
theorem Part.same_wr (p : Part) (s : State) (a : Nat) (v : Word) : p.same s (s.wr a v) := by
  cases p with
  | brake => exact id
  | calm => exact id
  | _ => rfl

abbrev Ok.wr (C : Cap) (a : Nat) : Prop := C (.fld (whole a)) = true
abbrev Ok.set (C : Cap) (f : Fld) : Prop := C (.fld f) = true
abbrev Ok.raise (C : Cap) (page : Nat) : Prop := C (.evt page) = true
abbrev Ok.level (C : Cap) (page : Nat) : Prop := C (.evt page) = true ∧ C (.fld (whole (R.PG_EVT_NOW page))) = true
abbrev Ok.wrT (C : Cap) (a : Nat) : Prop := Ok.wr C a ∧ Ok.wr C (a + 1) ∧ Ok.wr C (a + 2)
abbrev Ok.wrS (C : Cap) (a : Nat) : Prop := Ok.wr C a ∧ Ok.wr C (a + 1)

theorem Within.wr {a : Nat} {v : Word} (h : Within C s₀ s) (q : Ok.wr C a) : Within C s₀ (s.wr a v) := by
  refine h.trans ⟨fun g away _ _ => ?_, fun p b away _ e => ?_, fun p _ => ?_, List.suffix_refl _⟩
  · rcases away _ q with h | ⟨-, h⟩
    · exact State.get_wr_other _ _ _ _ h.symm
    · unfold State.get
      rw [Fld.of_outside h, Fld.of_outside h]
  · unfold Event
    rw [State.rd_wr_other _ _ _ _ (away _ q).symm]
    exact e
  · exact p.same_wr _ _ _

theorem Within.set {f : Fld} {n : Nat} (h : Within C s₀ s) (q : Ok.set C f) : Within C s₀ (s.set f n) := by
  refine h.trans ⟨fun g away _ _ => State.get_set_other _ _ _ _ (away _ q), fun p b away _ e => ?_, fun p _ => ?_, List.suffix_refl _⟩
  · unfold Event
    rw [State.rd_set_other _ _ _ _ (away _ q).symm]
    exact e
  · exact p.same_wr _ _ _

theorem Within.setFlag {f : Fld} {b : Bool} (h : Within C s₀ s) (q : Ok.set C f) : Within C s₀ (s.setFlag f b) := h.set q

theorem Within.setS {f : Fld} {z : Int} (h : Within C s₀ s) (q : Ok.set C f) : Within C s₀ (s.setS f z) := h.set q

theorem Within.bumpBy {f : Fld} {n : Nat} (h : Within C s₀ s) (q : Ok.set C f) : Within C s₀ (s.bumpBy f n) := h.set q

theorem Within.bump {f : Fld} (h : Within C s₀ s) (q : Ok.set C f) : Within C s₀ (s.bump f) := h.set q

theorem Within.wrT {a v : Nat} (h : Within C s₀ s) (q : Ok.wrT C a) : Within C s₀ (s.wrT a v) := ((h.wr q.1).wr q.2.1).wr q.2.2

theorem Within.wrS {a : Nat} {z : Int} (h : Within C s₀ s) (q : Ok.wrS C a) : Within C s₀ (s.wrS a z) := (h.wr q.1).wr q.2

theorem Within.emit {x : Out} (h : Within C s₀ s) : Within C s₀ (s.emit x) :=
  ⟨h.get, h.evt, fun p e => by cases p <;> exact h.part _ e, h.sent.trans (List.suffix_cons _ _)⟩

theorem Within.sendVec {v : Nat} (h : Within C s₀ s) : Within C s₀ (s.sendVec v) := .ite h (.ite h.updHost h.emit)

theorem Within.vecRises {old : State} (h : Within C s₀ s) : Within C s₀ (State.vecRises old s) :=
  .ite (.foldl h fun _ _ _ h1 => .ite h1.sendVec h1) h

/-- An event that occurs leaves the page's others as they are. -/
theorem event_raise_keeps {p b b' : Nat} (e : Event s p b') : Event (s.raise p b) p b' := by
  unfold Event at e ⊢
  have low : b' < 36 := by
    by_contra high
    rw [bitOn, Nat.testBit_lt_two_pow ((s.rd (R.PG_EVT p)).isLt.trans_le (Nat.pow_le_pow_right (by decide) (Nat.le_of_not_lt high)))] at e
    cases e
  rw [State.raise_rd_evt, BitVec.toNat_ofNat, bitOn, Nat.testBit_mod_two_pow, testBit_setBit]
  unfold bitOn at e
  simp [low, e]

theorem Within.raise {p b : Nat} (h : Within C s₀ s) (q : Ok.raise C p) : Within C s₀ (s.raise p b) := by
  have sent : Within (fun x => decide (x = .fld (whole (R.PG_EVT p)))) s (s.raise p b) := .ite (Within.vecRises (.wr (.refl s) (by simp))) (.wr (.refl s) (by simp))
  refine h.trans ⟨fun g _ away _ => State.raise_get_other _ _ _ _ (away p q).symm, fun p' b' _ _ e => ?_, fun p' _ => sent.part p' (by simp), sent.sent⟩
  by_cases same : p' = p
  · rw [same] at e ⊢
    exact event_raise_keeps e
  · unfold Event
    rw [State.raise_rd_other _ _ _ _ (by simpa using same)]
    exact e

theorem Within.raiseIf {c : Bool} {p b : Nat} (h : Within C s₀ s) (q : Ok.raise C p) : Within C s₀ (s.raiseIf c p b) := .ite (h.raise q) h

theorem Within.level {p b : Nat} {on : Bool} (h : Within C s₀ s) (q : Ok.level C p) : Within C s₀ (s.level p b on) :=
  .ite ((h.wr q.2).raise q.1) (h.wr q.2)

/-! ### The copies of the cores -/

/-- What may be touched where a core's copy comes in place of another (R86, R129). -/
abbrev Ok.cores (C : Cap) : Prop :=
  C (.part .srv) = true ∧ C (.part .hold) = true ∧ C (.part .cores) = true ∧ C (.page P.SRV) = true ∧ C (.page P.HOLD) = true

theorem putCoreRegs_read_other (r img : Store) {a : Nat} (h : corePage (a / 512) = false) : (putCoreRegs r img).read a = r.read a := by
  refine List.foldlRecOn (motive := fun m : Store => m.read a = r.read a) (img ++ r) _ rfl fun m hm e _ => ?_
  split
  next core =>
    rw [Store.read_write, if_neg fun same => ?_]
    · exact hm
    · rw [same, core] at h
      cases h
  · exact hm

theorem Within.withImg {i : CoreImg} (h : Within C s₀ s) (q : Ok.cores C) : Within C s₀ (s.withImg i) := by
  obtain ⟨srv, hold, -, onSrv, onHold⟩ := q
  have outside {a : Nat} (away : ∀ p, C (.page p) = true → a / 512 ≠ p) : (s.withImg i).rd a = s.rd a :=
    putCoreRegs_read_other _ _ (by simp [corePage, away _ onSrv, away _ onHold])
  refine h.trans ⟨fun g _ _ away => ?_, fun p b _ away e => ?_, fun p e => ?_, List.suffix_refl _⟩
  · unfold State.get
    rw [outside away]
  · unfold Event
    rw [outside away]
    exact e
  · cases p with
    | srv => exact absurd (srv.symm.trans e) Bool.noConfusion
    | hold => exact absurd (hold.symm.trans e) Bool.noConfusion
    | brake => exact id
    | calm => exact id
    | _ => rfl

theorem Within.setImgs {d : Nat} {f : Nat → CoreImg} (h : Within C s₀ s) (q : Ok.cores C) : Within C s₀ (s.setImgs d f) := (h.withImg q).updCores q.2.2.1

theorem Within.putImg {k : Nat} {i : CoreImg} (h : Within C s₀ s) (q : Ok.cores C) : Within C s₀ (s.putImg k i) := h.setImgs q

theorem Within.showCore {d : Nat} (h : Within C s₀ s) (q : Ok.cores C) : Within C s₀ (s.showCore d) := .ite h (h.setImgs q)

theorem Within.asCore {k : Nat} (h : Within C s₀ s) (q : Ok.cores C) : Within C s₀ (s.asCore k) := by
  unfold State.asCore
  split
  · exact h
  · exact h.withImg q

theorem Within.perCore {m : State → State} (h : Within C s₀ s) (hm : ∀ u, Within C s₀ u → Within C s₀ (m u)) (q : Ok.cores C) : Within C s₀ (s.perCore m) := by
  unfold State.perCore
  split
  · exact hm s h
  · exact (hm s h).setImgs q

theorem Within.inRh (h : Within C s₀ s) (k : Within C s₀ t) : Within C s₀ (s.inRh t) := .ite k h

theorem Within.inGn (h : Within C s₀ s) (k : Within C s₀ t) : Within C s₀ (s.inGn t) := .ite k h

end

end Sys2Proof.Machine
end

section
/-! PROOFS.
What the helpers of the model may touch, function by function of the model: the fields, events and parts that one may change, and that it changes nothing else.
-/
namespace Sys2Proof.Machine
open Sys2Proof

variable {C : Cap} {s₀ s t u : State}

abbrev Ok.setImgs := Ok.cores

abbrev Ok.putImg := Ok.cores

abbrev Ok.showCore := Ok.cores

abbrev Ok.setFlag := Ok.set

abbrev Ok.setS := Ok.set

abbrev Ok.bump := Ok.set

abbrev Ok.bumpBy := Ok.set

abbrev Ok.raiseIf := Ok.raise

theorem Ok.ite {c : Prop} [Decidable c] {f g : Fld} (a : Ok.set C f) (b : Ok.set C g) : Ok.set C (if c then f else g) := by split; exacts [a, b]

theorem Within.updBootTeb {xboot : BootPart} {xteb : TebPart} (h : Within C s₀ s) (qboot : C (.part .boot) = true) (qteb : C (.part .teb) = true) :
    Within C s₀ { s with boot := xboot, teb := xteb } := (Within.updTeb (s := { s with boot := xboot }) (Within.updBoot (s := s) h qboot) qteb)

theorem Within.updStagingGen {xstaging : Store} {xgen : GenPart} (h : Within C s₀ s) (qstaging : C (.part .staging) = true) (qgen : C (.part .gen) = true) :
    Within C s₀ { s with staging := xstaging, gen := xgen } := (Within.updGen (s := { s with staging := xstaging }) (Within.updStaging (s := s) h qstaging) qgen)

theorem Within.updBootTicTebPipeShunt {xboot : BootPart} {xtic : TicPart} {xteb : TebPart} {xpipe : PipePart} {xshunt : ShuntPart} (h : Within C s₀ s) (qboot : C (.part .boot) = true) (qtic : C (.part .tic) = true) (qteb : C (.part .teb) = true) (qpipe : C (.part .pipe) = true) (qshunt : C (.part .shunt) = true) :
    Within C s₀ { s with boot := xboot, tic := xtic, teb := xteb, pipe := xpipe, shunt := xshunt } := (Within.updShunt (s := { s with boot := xboot, tic := xtic, teb := xteb, pipe := xpipe }) (Within.updPipe (s := { s with boot := xboot, tic := xtic, teb := xteb }) (Within.updTeb (s := { s with boot := xboot, tic := xtic }) (Within.updTic (s := { s with boot := xboot }) (Within.updBoot (s := s) h qboot) qtic) qteb) qpipe) qshunt)

theorem Within.updIslHostGenShuntProveDma {xisl : IslandPart} {xhost : HostPart} {xgen : GenPart} {xshunt : ShuntPart} {xprove : ProvePart} {xdma : DmaPart} (h : Within C s₀ s) (qisl : C (.part .isl) = true) (qgen : C (.part .gen) = true) (qshunt : C (.part .shunt) = true) (qprove : C (.part .prove) = true) (qdma : C (.part .dma) = true) :
    Within C s₀ { s with isl := xisl, host := xhost, gen := xgen, shunt := xshunt, prove := xprove, dma := xdma } := (Within.updDma (s := { s with isl := xisl, host := xhost, gen := xgen, shunt := xshunt, prove := xprove }) (Within.updProve (s := { s with isl := xisl, host := xhost, gen := xgen, shunt := xshunt }) (Within.updShunt (s := { s with isl := xisl, host := xhost, gen := xgen }) (Within.updGen (s := { s with isl := xisl, host := xhost }) (Within.updHost (s := { s with isl := xisl }) (Within.updIsl (s := s) h qisl)) qgen) qshunt) qprove) qdma)

theorem Within.updMarksTri {xax : AxlePart} {xtri : TriadPart} (h : Within C s₀ s) (qax : C (.part .ax) = true ∧ C (.part .mark) = true) (qtri : C (.part .tri) = true) :
    Within C s₀ { s with ax := xax, tri := xtri } := (Within.updTri (s := { s with ax := xax }) (Within.updMarks (s := s) h qax) qtri)

theorem Within.updOscSelOutTicTebDug {xosc : OscPart} {xsel : SelPart} {xout : OutPart} {xtic : TicPart} {xteb : TebPart} {xdug : DugPart} (h : Within C s₀ s) (qosc : C (.part .osc) = true) (qsel : C (.part .sel) = true) (qout : C (.part .out) = true) (qtic : C (.part .tic) = true) (qteb : C (.part .teb) = true) (qdug : (C (.part .dug) = true ∧ C (.part .reins) = true)) :
    Within C s₀ { s with osc := xosc, sel := xsel, out := xout, tic := xtic, teb := xteb, dug := xdug } := (Within.updDug (s := { s with osc := xosc, sel := xsel, out := xout, tic := xtic, teb := xteb }) (Within.updTeb (s := { s with osc := xosc, sel := xsel, out := xout, tic := xtic }) (Within.updTic (s := { s with osc := xosc, sel := xsel, out := xout }) (Within.updOut (s := { s with osc := xosc, sel := xsel }) (Within.updSel (s := { s with osc := xosc }) (Within.updOsc (s := s) h qosc) qsel) qout) qtic) qteb) qdug)

theorem Within.updSwClt {xsw : SwPart} {xclt : CltPart} (h : Within C s₀ s) (qsw : C (.part .sw) = true) (qclt : C (.part .clt) = true) :
    Within C s₀ { s with sw := xsw, clt := xclt } := (Within.updClt (s := { s with sw := xsw }) (Within.updSw (s := s) h qsw) qclt)

theorem Within.updBootGns {xboot : BootPart} {xgns : GnsPart} (h : Within C s₀ s) (qboot : C (.part .boot) = true) (qgns : C (.part .gns) = true) :
    Within C s₀ { s with boot := xboot, gns := xgns } := (Within.updGns (s := { s with boot := xboot }) (Within.updBoot (s := s) h qboot) qgns)

theorem Within.updSelGns {xsel : SelPart} {xgns : GnsPart} (h : Within C s₀ s) (qsel : C (.part .sel) = true) (qgns : C (.part .gns) = true) :
    Within C s₀ { s with sel := xsel, gns := xgns } := (Within.updGns (s := { s with sel := xsel }) (Within.updSel (s := s) h qsel) qgns)

theorem Within.updSrvHold {xsrv : SrvPart} {xhold : HoldPart} (h : Within C s₀ s) (qsrv : C (.part .srv) = true) (qhold : C (.part .hold) = true) :
    Within C s₀ { s with srv := xsrv, hold := xhold } := (Within.updHold (s := { s with srv := xsrv }) (Within.updSrv (s := s) h qsrv) qhold)

theorem Within.updAxDug {xax : AxlePart} {xdug : DugPart} (h : Within C s₀ s) (qax : C (.part .ax) = true) (keeps : xax.marked = s.ax.marked) (qdug : (C (.part .dug) = true ∧ C (.part .reins) = true)) :
    Within C s₀ { s with ax := xax, dug := xdug } := (Within.updDug (s := { s with ax := xax }) (Within.updAx (s := s) h qax keeps) qdug)

theorem Within.updCoresGen {xcores : CoresPart} {xgen : GenPart} (h : Within C s₀ s) (qcores : C (.part .cores) = true) (qgen : C (.part .gen) = true) :
    Within C s₀ { s with cores := xcores, gen := xgen } := (Within.updGen (s := { s with cores := xcores }) (Within.updCores (s := s) h qcores) qgen)

theorem Within.updAxSel {xax : AxlePart} {xsel : SelPart} (h : Within C s₀ s) (qax : C (.part .ax) = true) (keeps : xax.marked = s.ax.marked) (qsel : C (.part .sel) = true) :
    Within C s₀ { s with ax := xax, sel := xsel } := (Within.updSel (s := { s with ax := xax }) (Within.updAx (s := s) h qax keeps) qsel)

theorem Within.updTebPipe {xteb : TebPart} {xpipe : PipePart} (h : Within C s₀ s) (qteb : C (.part .teb) = true) (qpipe : C (.part .pipe) = true) :
    Within C s₀ { s with teb := xteb, pipe := xpipe } := (Within.updPipe (s := { s with teb := xteb }) (Within.updTeb (s := s) h qteb) qpipe)

abbrev Ok.retained (C : Cap) : Prop := Ok.wr C R.TMP_POLICY

theorem Within.retained (h : Within C s₀ s) (may : Ok.retained C) : Within C s₀ (State.retained s) := by
  unfold State.retained
  split
  · exact (h.wr may)
  · exact h

abbrev Ok.showWear (C : Cap) : Prop := Ok.set C R.NVM_MAX_ERASE_SECTOR ∧ Ok.set C R.NVM_MAX_ERASE_COUNT ∧ Ok.setFlag C R.NVM_STATUS_WEAR ∧ Ok.level C P.NVM

theorem Within.showWear (h : Within C s₀ s) (may : Ok.showWear C) : Within C s₀ (State.showWear s) :=
  ((((h.set may.1).set may.2.1).setFlag may.2.2.1).level may.2.2.2)

abbrev Ok.putCtr (C : Cap) : Prop := C (.part .ax) = true

theorem Within.putCtr {island : ℕ} {c : AxCtr} (h : Within C s₀ s) (may : Ok.putCtr C) : Within C s₀ (State.putCtr s island c) :=
  (h.updAx may (by rfl))

theorem Within.takeFree (h : Within C s₀ s) : Within C s₀ (State.takeFree s).2 :=
  h.updFree

theorem Within.trigAt {island : ℕ} {code : ℕ} {inst : ℕ} {args : List ℕ} (h : Within C s₀ s) : Within C s₀ (State.trigAt s island code inst args) :=
  .ite h.updErec (.ite h.updErec h.updErec)

theorem Within.trig {island : ℕ} {code : ℕ} {args : List ℕ} (h : Within C s₀ s) : Within C s₀ (State.trig s island code args) :=
  h.trigAt

abbrev Ok.showServing (C : Cap) (c : ℕ) : Prop := Ok.setFlag C (R.CO_STATUS_SERVING c)

theorem Within.showServing {c : ℕ} (h : Within C s₀ s) (may : Ok.showServing C c) : Within C s₀ (State.showServing s c) :=
  .ite h (h.takeFree.setFlag may).trig

abbrev Ok.showServings (C : Cap) : Prop := (∀ i < 6, Ok.showServing C i)

theorem Within.showServings (h : Within C s₀ s) (may : Ok.showServings C) : Within C s₀ (State.showServings s) :=
  .foldl h fun _ m0 _ h1 => (h1.showServing (may _ (List.mem_range.1 m0)))

abbrev Can.refreshFaults (C : Cap) : Bool := decide (Ok.setFlag C R.FLT_STATUS_SEV_ALL ∧ Ok.set C R.FLT_STATUS_SEV_COACH ∧ Ok.setFlag C R.FLT_STATUS_SEV_AUTH ∧ Ok.setFlag C R.FLT_STATUS_BRAKE ∧ Ok.setFlag C R.FLT_STATUS_ALARM ∧ Ok.level C P.FLT ∧ Ok.showServings C)

abbrev Ok.refreshFaults (C : Cap) : Prop := Can.refreshFaults C = true

theorem Within.refreshFaults (h : Within C s₀ s) (may : Ok.refreshFaults C) : Within C s₀ (State.refreshFaults s) :=
  .bind (((((h.setFlag (of_decide_eq_true may).1).set (of_decide_eq_true may).2.1).setFlag (of_decide_eq_true may).2.2.1).setFlag (of_decide_eq_true may).2.2.2.1).setFlag (of_decide_eq_true may).2.2.2.2.1) fun h1 => .bind (.showServings (.ite h1 (h1.level (of_decide_eq_true may).2.2.2.2.2.1)) (of_decide_eq_true may).2.2.2.2.2.2) fun h2 => .ite h2 (h2.level (of_decide_eq_true may).2.2.2.2.2.1)

abbrev Ok.thermPin (C : Cap) : Prop := C (.part .boot) = true

theorem Within.thermPin (h : Within C s₀ s) (may : Ok.thermPin C) : Within C s₀ (State.thermPin s) :=
  (h.updBoot may)

abbrev Ok.tamperDisable (C : Cap) : Prop := C (.part .key) = true

theorem Within.tamperDisable (h : Within C s₀ s) (may : Ok.tamperDisable C) : Within C s₀ (State.tamperDisable s) :=
  .ite (h.updKey may) h

abbrev Ok.showOldest (C : Cap) : Prop := Ok.set C R.REC_OLDEST_SEQ

theorem Within.showOldest (h : Within C s₀ s) (may : Ok.showOldest C) : Within C s₀ (State.showOldest s) :=
  (h.set may)

abbrev Ok.showPending (C : Cap) : Prop := Ok.level C P.REC

theorem Within.showPending (h : Within C s₀ s) (may : Ok.showPending C) : Within C s₀ (State.showPending s) :=
  .ite h (h.level may)

abbrev Ok.putHead (C : Cap) : Prop := Ok.set C R.REC_HEAD_SEQ ∧ Ok.showPending C

theorem Within.putHead {n : ℕ} (h : Within C s₀ s) (may : Ok.putHead C) : Within C s₀ (State.putHead s n) :=
  ((h.set may.1).showPending may.2)

abbrev Ok.showJournal (C : Cap) : Prop := Ok.set C R.REC_JRN_HEAD_SEQ ∧ Ok.set C R.REC_JRN_OLDEST_SEQ

theorem Within.showJournal (h : Within C s₀ s) (may : Ok.showJournal C) : Within C s₀ (State.showJournal s) :=
  ((h.set may.1).set may.2)

abbrev Ok.startRecorder (C : Cap) : Prop := Ok.showJournal C ∧ Ok.putHead C ∧ Ok.showOldest C ∧ Ok.bumpBy C R.REC_Q_LOST_COUNT ∧ Ok.bumpBy C R.REC_AO_LOST_COUNT

theorem Within.startRecorder {head : ℕ} {fabric : Bool} (h : Within C s₀ s) (may : Ok.startRecorder C) : Within C s₀ (State.startRecorder s head fabric) :=
  .bind (((h.showJournal may.1).putHead may.2.1).showOldest may.2.2.1) fun h1 => .bind h1.updErec fun h2 => .ite (h2.bumpBy may.2.2.2.1) (h2.bumpBy may.2.2.2.2)

abbrev Ok.showPub (C : Cap) : Prop := ∀ i < 24, Ok.wr C (R.ATT_PUBKEY i)

theorem Within.showPub (h : Within C s₀ s) (may : Ok.showPub C) : Within C s₀ s.showPub :=
  .foldl h fun p m _ h => h.wr (may p.2 (by simpa [packWords] using (List.mem_zipIdx' m).1))

abbrev Ok.showLcy (C : Cap) : Prop := Ok.set C R.LCY_STATE_STATE ∧ Ok.set C R.LCY_STATE_ROOT ∧ Ok.set C R.ATT_STATUS_MODE

theorem Within.showLcy (h : Within C s₀ s) (may : Ok.showLcy C) : Within C s₀ (State.showLcy s) :=
  (((h.set may.1).set may.2.1).set may.2.2)

abbrev Ok.drbg (C : Cap) : Prop := C (.part .key) = true

theorem Within.drbg (h : Within C s₀ s) (may : Ok.drbg C) : Within C s₀ (State.drbg s).2 :=
  .bind h.takeFree fun h1 => (h1.updKey may)

abbrev Ok.showKeys (C : Cap) : Prop := Ok.set C R.KEY_STATUS_IN_USE

theorem Within.showKeys (h : Within C s₀ s) (may : Ok.showKeys C) : Within C s₀ (State.showKeys s) :=
  (h.set may)

theorem Within.keyRec {slot : ℕ} {what : ℕ} {ver : ℕ} {st : ℕ} (h : Within C s₀ s) : Within C s₀ (State.keyRec s slot what ver st) :=
  h.trig

abbrev Ok.keyEvt (C : Cap) : Prop := Ok.raise C P.KEY

theorem Within.keyEvt {bit : ℕ} {slot : ℕ} {ver : ℕ} (h : Within C s₀ s) (may : Ok.keyEvt C) : Within C s₀ (State.keyEvt s bit slot ver) :=
  (h.raise may).keyRec

abbrev Ok.showZeroized (C : Cap) : Prop := Ok.set C R.KEY_STATUS_ZEROIZED ∧ Ok.bump C R.KEY_ZEROIZES_COUNT ∧ Ok.keyEvt C

theorem Within.showZeroized {slot : ℕ} (h : Within C s₀ s) (may : Ok.showZeroized C) : Within C s₀ (State.showZeroized s slot) :=
  (((h.set may.1).bump may.2.1).keyEvt may.2.2)

abbrev Can.zeroize (C : Cap) : Bool := decide (C (.part .key) = true ∧ Ok.showZeroized C ∧ Ok.showKeys C ∧ Ok.showPub C)

abbrev Ok.zeroize (C : Cap) : Prop := Can.zeroize C = true

theorem Within.zeroize {tamper : Bool} (h : Within C s₀ s) (may : Ok.zeroize C) : Within C s₀ (State.zeroize s tamper) := by
  unfold State.zeroize
  extract_lets _ t1
  have h1 : Within C s₀ t1 := (h.updKey (of_decide_eq_true may).1)
  exact (((h1.showZeroized (of_decide_eq_true may).2.1).showKeys (of_decide_eq_true may).2.2.1).showPub (of_decide_eq_true may).2.2.2)

abbrev Can.lcyApply (C : Cap) : Bool := decide (C (.part .key) = true ∧ Ok.drbg C ∧ Ok.zeroize C ∧ Ok.showLcy C ∧ Ok.showPub C ∧ Ok.raise C P.LCY)

abbrev Ok.lcyApply (C : Cap) : Prop := Can.lcyApply C = true

theorem Within.lcyApply {new : ℕ} {mode : ℕ} {slot : ℕ} (h : Within C s₀ s) (may : Ok.lcyApply C) : Within C s₀ (State.lcyApply s new mode slot) :=
  .bind (h.updKey (of_decide_eq_true may).1) fun h1 => .bind (.ite (.bind (h1.drbg (of_decide_eq_true may).2.1) fun h2 => (h2.updKey (of_decide_eq_true may).1)) (.ite (h1.updKey (of_decide_eq_true may).1) h1)) fun h2 => .trig (.raise (.showPub (.showLcy (.ite h2 (h2.zeroize (of_decide_eq_true may).2.2.1)) (of_decide_eq_true may).2.2.2.1) (of_decide_eq_true may).2.2.2.2.1) (of_decide_eq_true may).2.2.2.2.2)

abbrev Can.lcyLoad (C : Cap) : Bool := decide (Ok.showLcy C ∧ Ok.showPub C ∧ C (.part .key) = true ∧ Ok.lcyApply C)

abbrev Ok.lcyLoad (C : Cap) : Prop := Can.lcyLoad C = true

theorem Within.lcyLoad (h : Within C s₀ s) (may : Ok.lcyLoad C) : Within C s₀ (State.lcyLoad s) := by
  unfold State.lcyLoad
  split
  · exact ((h.showLcy (of_decide_eq_true may).1).showPub (of_decide_eq_true may).2.1)
  · extract_lets _ _ _ _ t1
    have h1 : Within C s₀ t1 := (h.updKey (of_decide_eq_true may).2.2.1)
    exact .ite (h1.lcyApply (of_decide_eq_true may).2.2.2) ((h1.showLcy (of_decide_eq_true may).1).showPub (of_decide_eq_true may).2.1)

abbrev Ok.putRing (C : Cap) : Prop := C (.part .nvm) = true

theorem Within.putRing {a : NvArea} {r : NvRing} (h : Within C s₀ s) (may : Ok.putRing C) : Within C s₀ (State.putRing s a r) := by
  unfold State.putRing
  split
  · exact (h.updNvm may)
  · exact (h.updNvm may)
  · exact (h.updNvm may)
  · exact (h.updNvm may)
  · exact (h.updNvm may)

abbrev Ok.lineOn (C : Cap) : Prop := C (.part .flt) = true

theorem Within.lineOn {line : ℕ} {cause : ℕ} (h : Within C s₀ s) (may : Ok.lineOn C) : Within C s₀ (State.lineOn s line cause) := by
  unfold State.lineOn
  refine .ite ?_ ?_
  · exact h
  · exact (h.updFlt may rfl)

abbrev Ok.pulse (C : Cap) : Prop := Ok.lineOn C

theorem Within.pulse {line : ℕ} (h : Within C s₀ s) (may : Ok.pulse C) : Within C s₀ (State.pulse s line) :=
  (h.lineOn may)

abbrev Ok.goto (C : Cap) : Prop := C (.part .boot) = true

theorem Within.goto {p : StartPos} (h : Within C s₀ s) (may : Ok.goto C) : Within C s₀ (State.goto s p) :=
  (h.updBoot may)

abbrev Ok.scanSave (C : Cap) : Prop := Ok.set C R.BOOT_CAUSE_PFAIL_SAVED ∧ Ok.wr C R.BOOT_PF_T ∧ Ok.wr C (R.BOOT_PF_T + 1) ∧ Ok.wr C (R.BOOT_PF_T + 2) ∧ Ok.set C R.BOOT_CAUSE_UNSAVED ∧ Ok.raise C P.BOOT

theorem Within.scanSave (h : Within C s₀ s) (may : Ok.scanSave C) : Within C s₀ (State.scanSave s) := by
  unfold State.scanSave
  split
  · exact h
  · exact .ite ((((h.set may.1).wr may.2.1).wr may.2.2.1).wr may.2.2.2.1) (.ite ((h.set may.2.2.2.2.1).raise may.2.2.2.2.2) h)

abbrev Ok.putSlotK (C : Cap) : Prop := C (.part .key) = true ∧ Ok.showKeys C

theorem Within.putSlotK {k : ℕ} {x : KeySlot} (h : Within C s₀ s) (may : Ok.putSlotK C) : Within C s₀ (State.putSlotK s k x) :=
  ((h.updKey may.1).showKeys may.2)

abbrev Can.keyLoadAll (C : Cap) : Bool := decide (C (.part .key) = true ∧ Ok.bump C R.KEY_ROLLBACKS_COUNT ∧ Ok.keyEvt C ∧ Ok.putSlotK C ∧ Ok.set C R.KEY_STATUS_ZEROIZED ∧ Ok.set C R.KEY_STATUS_SUPPRESSED ∧ Ok.showKeys C ∧ Ok.showPub C)

abbrev Ok.keyLoadAll (C : Cap) : Prop := Can.keyLoadAll C = true

theorem Within.keyLoadAll (h : Within C s₀ s) (may : Ok.keyLoadAll C) : Within C s₀ (State.keyLoadAll s) := by
  unfold State.keyLoadAll
  extract_lets _ _ _ t1 _ t2 t3
  have h1 : Within C s₀ t1 := (h.updKey (of_decide_eq_true may).1)
  have h2 : Within C s₀ t2 := .foldl h1 fun _ _ _ h2 => ((h2.bump (of_decide_eq_true may).2.1).keyEvt (of_decide_eq_true may).2.2.1)
  have h3 : Within C s₀ t3 := .foldl h2 fun _ _ _ h3 => .ite h3 (.bind (h3.putSlotK (of_decide_eq_true may).2.2.2.1) fun h4 => .ite (h4.keyEvt (of_decide_eq_true may).2.2.1) h4)
  exact ((((h3.set (of_decide_eq_true may).2.2.2.2.1).set (of_decide_eq_true may).2.2.2.2.2.1).showKeys (of_decide_eq_true may).2.2.2.2.2.2.1).showPub (of_decide_eq_true may).2.2.2.2.2.2.2)

abbrev Ok.showBank (C : Cap) (b : ℕ) : Prop := Ok.set C (whyFld b) ∧ Ok.setFlag C (validFld b) ∧ Ok.set C (seqFld b)

theorem Within.showBank {b : ℕ} {why : ℕ} {seq : ℕ} (h : Within C s₀ s) (may : Ok.showBank C b) : Within C s₀ (State.showBank s b why seq) :=
  (((h.set may.1).setFlag may.2.1).set may.2.2)

abbrev Ok.validate (C : Cap) (b : ℕ) : Prop := Ok.showBank C b

theorem Within.validate {b : ℕ} (h : Within C s₀ s) (may : Ok.validate C b) : Within C s₀ (State.validate s b) :=
  (h.showBank may)

abbrev Ok.jtagHold (C : Cap) : Prop := Ok.set C R.BOOT_STAGE_HOLD_WHY

theorem Within.jtagHold (h : Within C s₀ s) (may : Ok.jtagHold C) : Within C s₀ (State.jtagHold s) :=
  .ite (h.set may) h

abbrev Ok.loadBank (C : Cap) : Prop := Ok.set C R.BOOT_IMG_STAT_LOADED ∧ Ok.setFlag C R.BOOT_IMG_STAT_FALLBACK ∧ Ok.raiseIf C P.BOOT

theorem Within.loadBank (h : Within C s₀ s) (may : Ok.loadBank C) : Within C s₀ (State.loadBank s) :=
  (((h.set may.1).setFlag may.2.1).raiseIf may.2.2)

theorem Within.oscRec (h : Within C s₀ s) : Within C s₀ (State.oscRec s) :=
  h.trig

abbrev Ok.lineOff (C : Cap) : Prop := C (.part .flt) = true

theorem Within.lineOff {line : ℕ} {cause : ℕ} (h : Within C s₀ s) (may : Ok.lineOff C) : Within C s₀ (State.lineOff s line cause) := by
  unfold State.lineOff
  exact (h.updFlt may rfl)

abbrev Ok.lineSet (C : Cap) : Prop := Ok.lineOn C ∧ Ok.lineOff C

theorem Within.lineSet {line : ℕ} {cause : ℕ} {on : Bool} (h : Within C s₀ s) (may : Ok.lineSet C) : Within C s₀ (State.lineSet s line cause on) :=
  .ite (h.lineOn may.1) (h.lineOff may.2)

abbrev Ok.setEfc (C : Cap) : Prop := Ok.set C R.VOTE_OSC_EFC_CODE ∧ Ok.setFlag C R.VOTE_OSC_STAT_EFC_RAIL ∧ Ok.level C P.VOTE ∧ Ok.lineSet C

theorem Within.setEfc {code : ℤ} (h : Within C s₀ s) (may : Ok.setEfc C) : Within C s₀ (State.setEfc s code) :=
  .bind (h.set may.1) fun h1 => .ite h1 (((h1.setFlag may.2.1).level may.2.2.1).lineSet may.2.2.2).oscRec

theorem Within.holdRec {bit : ℕ} (h : Within C s₀ s) : Within C s₀ (State.holdRec s bit) :=
  h.trig

abbrev Ok.holdEvt (C : Cap) : Prop := Ok.raise C P.HOLD

theorem Within.holdEvt {bit : ℕ} (h : Within C s₀ s) (may : Ok.holdEvt C) : Within C s₀ (State.holdEvt s bit) :=
  (h.raise may).holdRec

abbrev Ok.injFlag (C : Cap) : Prop := C (.part .flt) = true

theorem Within.injFlag (h : Within C s₀ s) (may : Ok.injFlag C) : Within C s₀ (State.injFlag s) := by
  unfold State.injFlag
  exact (h.updFlt may rfl)

abbrev Ok.wearErase (C : Cap) : Prop := C (.part .nvm) = true ∧ Ok.bump C R.NVM_ERASES_COUNT ∧ Ok.showWear C

theorem Within.wearErase {sector : ℕ} (h : Within C s₀ s) (may : Ok.wearErase C) : Within C s₀ (State.wearErase s sector) :=
  (((h.updNvm may.1).bump may.2.1).showWear may.2.2)

abbrev Ok.eraseAreaSector (C : Cap) : Prop := Ok.putRing C ∧ Ok.wearErase C

theorem Within.eraseAreaSector {a : NvArea} {k : ℕ} (h : Within C s₀ s) (may : Ok.eraseAreaSector C) : Within C s₀ (State.eraseAreaSector s a k) :=
  ((h.putRing may.1).wearErase may.2)

abbrev Can.roomFor (C : Cap) : Bool := decide (Ok.eraseAreaSector C ∧ Ok.putRing C)

abbrev Ok.roomFor (C : Cap) : Prop := Can.roomFor C = true

theorem Within.roomFor {a : NvArea} {n : ℕ} (h : Within C s₀ s) (may : Ok.roomFor C) : Within C s₀ (State.roomFor s a n) :=
  .ite h (.bind (.ite (h.eraseAreaSector (of_decide_eq_true may).1) h) fun h1 => (h1.putRing (of_decide_eq_true may).2))

abbrev Ok.putRec (C : Cap) : Prop := Ok.roomFor C ∧ Ok.putRing C

theorem Within.putRec {a : NvArea} {type : ℕ} {payload : List Word} {st : RecState} {time : ℕ} (h : Within C s₀ s) (may : Ok.putRec C) : Within C s₀ (State.putRec s a type payload st time) :=
  .bind (h.roomFor may.1) fun h1 => (h1.putRing may.2)

abbrev Ok.writeFail (C : Cap) : Prop := Ok.putRec C ∧ Ok.bump C R.NVM_WRITE_FAIL_COUNT ∧ Ok.raise C P.NVM ∧ Ok.pulse C

theorem Within.writeFail {a : NvArea} {type : ℕ} {payload : List Word} {time : ℕ} (h : Within C s₀ s) (may : Ok.writeFail C) : Within C s₀ (State.writeFail s a type payload time) :=
  ((((h.putRec may.1).bump may.2.1).raise may.2.2.1).pulse may.2.2.2)

abbrev Can.nvWrite (C : Cap) : Bool := decide (Ok.writeFail C ∧ Ok.injFlag C ∧ Ok.putRec C ∧ Ok.bump C R.NVM_RECORDS_COUNT)

abbrev Ok.nvWrite (C : Cap) : Prop := Can.nvWrite C = true

theorem Within.nvWrite {a : NvArea} {type : ℕ} {payload : List Word} {ok : Bool} {time : ℕ} (h : Within C s₀ s) (may : Ok.nvWrite C) : Within C s₀ (State.nvWrite s a type payload ok time).1 :=
  .bind (by split; exacts [.injFlag (.ite h (h.writeFail (of_decide_eq_true may).1)) (of_decide_eq_true may).2.1, h]) fun h1 => .ite1 ((h1.putRec (of_decide_eq_true may).2.2.1).bump (of_decide_eq_true may).2.2.2) (h1.writeFail (of_decide_eq_true may).1)

abbrev Ok.nvPut (C : Cap) : Prop := Ok.nvWrite C

theorem Within.nvPut {a : NvArea} {type : ℕ} {payload : List Word} {time : ℕ} (h : Within C s₀ s) (may : Ok.nvPut C) : Within C s₀ (State.nvPut s a type payload time) :=
  (h.nvWrite may)

abbrev Ok.writeHold (C : Cap) : Prop := Ok.nvPut C ∧ C (.part .hold) = true

theorem Within.writeHold (h : Within C s₀ s) (may : Ok.writeHold C) : Within C s₀ (State.writeHold s) :=
  .bind (h.nvPut may.1) fun h1 => (h1.updHold may.2)

abbrev Ok.showLearn (C : Cap) : Prop := Ok.set C R.HOLD_STATUS_LEARN ∧ Ok.holdEvt C ∧ Ok.writeHold C

theorem Within.showLearn (h : Within C s₀ s) (may : Ok.showLearn C) : Within C s₀ (State.showLearn s) :=
  .ite h (.bind (h.set may.1) fun h1 => .ite ((h1.holdEvt may.2.1).writeHold may.2.2) h1)

abbrev Can.holdRestore (C : Cap) : Bool := decide (Ok.set C R.VOTE_OSC_EFC_CODE ∧ Ok.set C R.HOLD_Y0_Y ∧ Ok.set C R.HOLD_AGE_Y ∧ Ok.set C R.HOLD_TC_Y ∧ Ok.setEfc C ∧ C (.part .hold) = true ∧ Ok.set C R.HOLD_STATUS_RESTORED ∧ Ok.showLearn C ∧ Ok.holdEvt C)

abbrev Ok.holdRestore (C : Cap) : Prop := Can.holdRestore C = true

theorem Within.holdRestore (h : Within C s₀ s) (may : Ok.holdRestore C) : Within C s₀ (State.holdRestore s) := by
  unfold State.holdRestore
  split
  · exact (h.set (of_decide_eq_true may).1)
  · extract_lets _ _ _ t1 t2 _ t3
    have h1 : Within C s₀ t1 := (((h.set (of_decide_eq_true may).2.1).set (of_decide_eq_true may).2.2.1).set (of_decide_eq_true may).2.2.2.1)
    clear_value t1
    have h2 : Within C s₀ t2 := (h1.setEfc (of_decide_eq_true may).2.2.2.2.1)
    clear_value t2
    have h3 : Within C s₀ t3 := (h2.updHold (of_decide_eq_true may).2.2.2.2.2.1)
    exact (((h3.set (of_decide_eq_true may).2.2.2.2.2.2.1).showLearn (of_decide_eq_true may).2.2.2.2.2.2.2.1).holdEvt (of_decide_eq_true may).2.2.2.2.2.2.2.2)

abbrev Ok.putTemp (C : Cap) : Prop := C (.part .tic) = true

theorem Within.putTemp {island : ℕ} {t : ℤ} (h : Within C s₀ s) (may : Ok.putTemp C) : Within C s₀ (State.putTemp s island t) :=
  (h.updTic may)

abbrev Ok.showCal (C : Cap) (t : ℕ) : Prop := Ok.setFlag C (R.TIC_STATUS_CAL_VALID t) ∧ Ok.setFlag C (R.TIC_STATUS_CAL_STALE t) ∧ Ok.level C (P.TIC t)

theorem Within.showCal {t : ℕ} (h : Within C s₀ s) (may : Ok.showCal C t) : Within C s₀ (State.showCal s t) :=
  (((h.setFlag may.1).setFlag may.2.1).level may.2.2)

abbrev Ok.showPair (C : Cap) (pair : ℕ) : Prop := Ok.set C (R.TIC_RH_PAIRS_FAILED 0) ∧ Ok.set C (R.TIC_RH_PAIRS_UNCAL 0) ∧ Ok.set C ({ slot := R.PRT_STAMP_STAT ((pair - 8) / 2), lo := 4 * ((pair - 8) % 2), w := 4 }) ∧ Ok.raiseIf C (P.PRT ((pair - 8) / 2))

theorem Within.showPair {pair : ℕ} (h : Within C s₀ s) (may : Ok.showPair C pair) : Within C s₀ (State.showPair s pair) :=
  .ite ((h.set may.1).set may.2.1) (.ite h (.bind (h.set may.2.2.1) fun h1 => (h1.raiseIf may.2.2.2)))

abbrev Ok.showPairs (C : Cap) : Prop := ∀ p < 61, Ok.showPair C p

theorem Within.showPairs {island : Nat} (h : Within C s₀ s) (may : Ok.showPairs C) : Within C s₀ (s.showPairs island) :=
  .foldl h fun _ m _ h => h.showPair (may _ (List.mem_range.mp (List.mem_of_mem_filter m)))

abbrev Can.newTemp (C : Cap) : Bool := decide (Ok.putTemp C ∧ (∀ i : Nat, i < 8 → Ok.showCal C i) ∧ Ok.showPairs C)

abbrev Ok.newTemp (C : Cap) : Prop := Can.newTemp C = true

theorem Within.newTemp {island : ℕ} {temp : ℤ} (h : Within C s₀ s) (may : Ok.newTemp C) : Within C s₀ (State.newTemp s island temp) :=
  .bind (h.putTemp (of_decide_eq_true may).1) fun h1 => .ite (.foldl h1 fun _ m0 _ h2 => (h2.showCal ((of_decide_eq_true may).2.1 _ (List.mem_range.1 m0)))) (h1.showPairs (of_decide_eq_true may).2.2)

abbrev Ok.putTic (C : Cap) : Prop := C (.part .tic) = true

theorem Within.putTic {k : ℕ} {c : TicState} (h : Within C s₀ s) (may : Ok.putTic C) : Within C s₀ (State.putTic s k c) :=
  (h.updTic may)

abbrev Ok.ticCalTake (C : Cap) (t : ℕ) : Prop := Ok.putTic C ∧ Ok.newTemp C ∧ Ok.setS C (R.TIC_CAL_STAT_TEMP t) ∧ Ok.bump C (R.TIC_CAL_COUNT_COUNT t) ∧ Ok.raise C (P.TIC t) ∧ Ok.set C (R.TIC_CAL_STAT_WHY t) ∧ Ok.bump C (R.TIC_CAL_FAILS_COUNT t) ∧ Ok.pulse C

theorem Within.ticCalTake {t : ℕ} {r0 : CalResult} {r1 : CalResult} {temp : ℤ} (h : Within C s₀ s) (may : Ok.ticCalTake C t) : Within C s₀ (State.ticCalTake s t r0 r1 temp) :=
  .bind ((h.putTic may.1).newTemp may.2.1) fun h1 => .bind (.ite (((h1.setS may.2.2.1).bump may.2.2.2.1).raise may.2.2.2.2.1) (((h1.set may.2.2.2.2.2.1).bump may.2.2.2.2.2.2.1).raise may.2.2.2.2.1)) fun h2 => .trig (.trig (.ite (h2.pulse may.2.2.2.2.2.2.2) h2))

abbrev Ok.putPair (C : Cap) : Prop := C (.part .tic) = true

theorem Within.putPair {k : ℕ} {c : PairState} (h : Within C s₀ s) (may : Ok.putPair C) : Within C s₀ (State.putPair s k c) :=
  (h.updTic may)

abbrev Ok.pairStart (C : Cap) (pair : ℕ) : Prop := Ok.putPair C ∧ Ok.newTemp C ∧ Ok.pulse C ∧ Ok.showPair C pair

theorem Within.pairStart {pair : ℕ} {r0 : CalResult} {r1 : CalResult} {temp : ℤ} (h : Within C s₀ s) (may : Ok.pairStart C pair) : Within C s₀ (State.pairStart s pair r0 r1 temp) :=
  .bind ((h.putPair may.1).newTemp may.2.1) fun h1 => .trig (.trig (.showPair (.ite (h1.pulse may.2.2.1) h1) may.2.2.2))

abbrev Can.startCals (C : Cap) : Bool := decide ((∀ i : Nat, i < 8 → Ok.ticCalTake C i) ∧ (∀ i : Nat, i < 8 → Ok.set C (R.TIC_STATUS_STATE i)) ∧ (∀ i : Nat, i < pairCount → Ok.pairStart C i))

abbrev Ok.startCals (C : Cap) : Prop := Can.startCals C = true

theorem Within.startCals {cals : List CalResult} {temp : ℤ} (h : Within C s₀ s) (may : Ok.startCals C) : Within C s₀ (State.startCals s cals temp) :=
  .foldl (.foldl h fun _ m0 _ h1 => .bind (h1.ticCalTake ((of_decide_eq_true may).1 _ (List.mem_range.1 m0))) fun h2 => .ite (h2.set ((of_decide_eq_true may).2.1 _ (List.mem_range.1 m0))) h2) fun _ m0 _ h1 => (h1.pairStart ((of_decide_eq_true may).2.2 _ (List.mem_range.1 m0)))

theorem Within.gnsRec {bit : ℕ} (h : Within C s₀ s) : Within C s₀ (State.gnsRec s bit) :=
  h.trig

abbrev Ok.setEngine (C : Cap) : Prop := Ok.set C R.GNS_STATUS_ENGINE

theorem Within.setEngine {st : ℕ} (h : Within C s₀ s) (may : Ok.setEngine C) : Within C s₀ (State.setEngine s st) :=
  .ite h (h.set may).gnsRec

abbrev Ok.showTrack (C : Cap) : Prop := Ok.set C R.GNS_TRACK_SATS

theorem Within.showTrack (h : Within C s₀ s) (may : Ok.showTrack C) : Within C s₀ (State.showTrack s) :=
  (h.set may)

abbrev Ok.searchAll (C : Cap) : Prop := C (.part .gns) = true ∧ Ok.showTrack C

theorem Within.searchAll {k : ChanState} (h : Within C s₀ s) (may : Ok.searchAll C) : Within C s₀ (State.searchAll s k) :=
  ((h.updGns may.1).showTrack may.2)

abbrev Ok.engineRun (C : Cap) : Prop := Ok.setEngine C ∧ Ok.searchAll C

theorem Within.engineRun {k : ChanState} (h : Within C s₀ s) (may : Ok.engineRun C) : Within C s₀ (State.engineRun s k) :=
  .ite (h.setEngine may.1) ((h.setEngine may.1).searchAll may.2)

abbrev Ok.engineStart (C : Cap) : Prop := Ok.engineRun C

theorem Within.engineStart (h : Within C s₀ s) (may : Ok.engineStart C) : Within C s₀ (State.engineStart s) :=
  (h.engineRun may)

abbrev Ok.gnsGo (C : Cap) : Prop := Ok.engineStart C

theorem Within.gnsGo (h : Within C s₀ s) (may : Ok.gnsGo C) : Within C s₀ (State.gnsGo s) :=
  .ite (h.engineStart may) h

abbrev Ok.putCodeHash (C : Cap) : Prop := (∀ i < 11, Ok.set C (R.GNS_CODE_HASH_D i))

theorem Within.putCodeHash {d : ℕ} (h : Within C s₀ s) (may : Ok.putCodeHash C) : Within C s₀ (State.putCodeHash s d) :=
  .foldl h fun _ m0 _ h1 => (h1.set (may _ (List.mem_range.1 m0)))

abbrev Ok.installCode (C : Cap) : Prop := C (.part .gns) = true ∧ Ok.putCodeHash C

theorem Within.installCode {w : List Word} (h : Within C s₀ s) (may : Ok.installCode C) : Within C s₀ (State.installCode s w) :=
  ((h.updGns may.1).putCodeHash may.2)

abbrev Ok.applyCode (C : Cap) : Prop := Ok.installCode C

theorem Within.applyCode (h : Within C s₀ s) (may : Ok.applyCode C) : Within C s₀ (State.applyCode s) :=
  .foldl h fun _ _ _ h1 => .ite (h1.installCode may) h1

abbrev Ok.accessErr (C : Cap) : Prop := Ok.bump C R.GLB_ACCESS_ERR_COUNT_COUNT ∧ Ok.wr C R.GLB_ACCESS_ERR ∧ Ok.raise C P.GLB

theorem Within.accessErr {m : Master} {cause : ℕ} {write : Bool} {slot : ℕ} (h : Within C s₀ s) (may : Ok.accessErr C) : Within C s₀ (State.accessErr s m cause write slot) :=
  .bind (h.bump may.1) fun h1 => .raise (.ite h1 (h1.wr may.2.1)) may.2.2

abbrev Ok.engineEnable (C : Cap) : Prop := Ok.engineRun C

theorem Within.engineEnable (h : Within C s₀ s) (may : Ok.engineEnable C) : Within C s₀ (State.engineEnable s) :=
  .ite h (h.engineRun may)

abbrev Ok.putPll (C : Cap) : Prop := C (.part .out) = true

theorem Within.putPll {k : ℕ} {c : PllState} (h : Within C s₀ s) (may : Ok.putPll C) : Within C s₀ (State.putPll s k c) :=
  (h.updOut may)

abbrev Ok.setPll (C : Cap) (p : ℕ) : Prop := Ok.set C (R.PLL_STATUS_STATE p) ∧ Ok.raise C (P.PLL p)

theorem Within.setPll {p : ℕ} {st : ℕ} (h : Within C s₀ s) (may : Ok.setPll C p) : Within C s₀ (State.setPll s p st) :=
  .ite h (.bind ((h.set may.1).raise may.2) fun h1 => h1.trig)

abbrev Ok.planPll (C : Cap) (p : ℕ) : Prop := Ok.set C (R.PLL_DIV1_D1 p) ∧ Ok.set C (R.PLL_DIV2_D2 p) ∧ Ok.set C (R.PLL_VCO_MHZ p)

theorem Within.planPll {p : ℕ} (h : Within C s₀ s) (may : Ok.planPll C p) : Within C s₀ (State.planPll s p) :=
  (((h.set may.1).set may.2.1).set may.2.2)

abbrev Ok.pllStart (C : Cap) (p : ℕ) : Prop := Ok.setPll C p ∧ Ok.putPll C ∧ Ok.planPll C p

theorem Within.pllStart {p : ℕ} {loss : Bool} (h : Within C s₀ s) (may : Ok.pllStart C p) : Within C s₀ (State.pllStart s p loss) :=
  .ite h (.ite ((h.setPll may.1).putPll may.2.1) (((h.planPll may.2.2).setPll may.1).putPll may.2.1))

abbrev Can.startPage (C : Cap) (page : ℕ) : Bool := decide (Ok.setFlag C (R.PG_CTRL_EN page) ∧ Ok.engineEnable C ∧ Ok.pllStart C (page - P.PLL 0) ∧ Ok.showServing C (page - P.CO 0))

abbrev Ok.startPage (C : Cap) (page : ℕ) : Prop := Can.startPage C page = true

theorem Within.startPage {page : ℕ} (h : Within C s₀ s) (may : Ok.startPage C page) : Within C s₀ (State.startPage s page) :=
  .bind (h.setFlag (of_decide_eq_true may).1) fun h1 => .ite h1 (.ite (h1.engineEnable (of_decide_eq_true may).2.1) (.ite (h1.pllStart (of_decide_eq_true may).2.2.1) (.ite (h1.showServing (of_decide_eq_true may).2.2.2) h1)))

abbrev Ok.gnsStop (C : Cap) : Prop := Ok.bump C R.GNS_DROPPED_COUNT ∧ C (.part .gns) = true ∧ Ok.set C (R.PG_STAT_BUSY P.GNS) ∧ Ok.setEngine C

theorem Within.gnsStop {st : ℕ} (h : Within C s₀ s) (may : Ok.gnsStop C) : Within C s₀ (State.gnsStop s st) :=
  .bind (.ite (h.bump may.1) h) fun h1 => .bind (h1.updGns may.2.1) fun h2 => ((h2.set may.2.2.1).setEngine may.2.2.2)

abbrev Ok.showOutBusy (C : Cap) : Prop := Ok.setFlag C (R.PG_STAT_BUSY P.OUT)

theorem Within.showOutBusy (h : Within C s₀ s) (may : Ok.showOutBusy C) : Within C s₀ (State.showOutBusy s) :=
  (h.setFlag may)

abbrev Ok.putOut (C : Cap) : Prop := C (.part .out) = true

theorem Within.putOut {k : ℕ} {c : OutState} (h : Within C s₀ s) (may : Ok.putOut C) : Within C s₀ (State.putOut s k c) :=
  (h.updOut may)

abbrev Ok.endOutAs (C : Cap) : Prop := Ok.putOut C

theorem Within.endOutAs {v : State} {o : ℕ} (h : Within C s₀ s) (may : Ok.endOutAs C) : Within C s₀ (State.endOutAs s v o) :=
  .ite (h.putOut may) h

abbrev Ok.endOut (C : Cap) : Prop := Ok.endOutAs C

theorem Within.endOut {o : ℕ} (h : Within C s₀ s) (may : Ok.endOut C) : Within C s₀ (State.endOut s o) :=
  (h.endOutAs may)

abbrev Ok.toSlot (C : Cap) : Prop := C (.part .sw) = true

theorem Within.toSlot {t : ℕ} (h : Within C s₀ s) (may : Ok.toSlot C) : Within C s₀ (State.toSlot s t) :=
  .ite h (h.updSw may)

abbrev Ok.showSwBusy (C : Cap) : Prop := Ok.setFlag C (R.PG_STAT_BUSY P.SWF)

theorem Within.showSwBusy (h : Within C s₀ s) (may : Ok.showSwBusy C) : Within C s₀ (State.showSwBusy s) :=
  .ite h (h.setFlag may)

abbrev Ok.showBuf (C : Cap) : Prop := Ok.set C R.BUF_SRAM_FREE_CELLS ∧ Ok.set C R.BUF_DRAM_FREE_CELLS ∧ Ok.setFlag C R.BUF_STATUS_SRAM_LOW ∧ Ok.level C P.BUF ∧ Ok.setFlag C R.BUF_STATUS_SPILLING ∧ Ok.set C R.BUF_Q_DEPTH_CELLS ∧ Ok.setFlag C R.BUF_Q_DEPTH_SPILL

theorem Within.showBuf (h : Within C s₀ s) (may : Ok.showBuf C) : Within C s₀ (State.showBuf s) :=
  .bind ((h.set may.1).set may.2.1) fun h1 => .bind (.ite h1 ((h1.setFlag may.2.2.1).level may.2.2.2.1)) fun h2 => .bind (.ite h2 ((h2.setFlag may.2.2.2.2.1).level may.2.2.2.1)) fun h3 => ((h3.set may.2.2.2.2.2.1).setFlag may.2.2.2.2.2.2)

abbrev Ok.endSpill (C : Cap) : Prop := C (.part .sw) = true

theorem Within.endSpill (h : Within C s₀ s) (may : Ok.endSpill C) : Within C s₀ (State.endSpill s) :=
  (h.updSw may)

abbrev Can.tidy (C : Cap) : Bool := decide (C (.part .sw) = true ∧ Ok.endSpill C ∧ Ok.showBuf C)

abbrev Ok.tidy (C : Cap) : Prop := Can.tidy C = true

theorem Within.tidy (h : Within C s₀ s) (may : Ok.tidy C) : Within C s₀ (State.tidy s) :=
  (((h.updSw (of_decide_eq_true may).1).endSpill (of_decide_eq_true may).2.1).showBuf (of_decide_eq_true may).2.2)

abbrev Ok.putSwFrame (C : Cap) : Prop := C (.part .sw) = true

theorem Within.putSwFrame {f : SwFrame} (h : Within C s₀ s) (may : Ok.putSwFrame C) : Within C s₀ (State.putSwFrame s f) :=
  (h.updSw may)

abbrev Ok.seqDone (C : Cap) : Prop := C (.part .sw) = true

theorem Within.seqDone {key : ℕ} {v : ℕ} (h : Within C s₀ s) (may : Ok.seqDone C) : Within C s₀ (State.seqDone s key v) :=
  (h.updSw may)

abbrev Ok.dropCopies (C : Cap) : Prop := Ok.putSwFrame C ∧ Ok.seqDone C

theorem Within.dropCopies {f : SwFrame} {p : Copy → Bool} (h : Within C s₀ s) (may : Ok.dropCopies C) : Within C s₀ (State.dropCopies s f p) :=
  .foldl (h.putSwFrame may.1) fun _ _ _ h1 => .ite (h1.seqDone may.2) h1

abbrev Ok.switchHalt (C : Cap) : Prop := Ok.toSlot C ∧ Ok.bump C R.SWF_DIS_DROP_COUNT ∧ Ok.dropCopies C ∧ Ok.tidy C ∧ Ok.showSwBusy C

theorem Within.switchHalt {slot : ℕ} (h : Within C s₀ s) (may : Ok.switchHalt C) : Within C s₀ (State.switchHalt s slot) :=
  .bind (h.toSlot may.1) fun h1 => .showSwBusy (.tidy (.foldl h1 fun _ _ _ h2 => ((h2.bump may.2.1).dropCopies may.2.2.1)) may.2.2.2.1) may.2.2.2.2

abbrev Ok.showDmaBusy (C : Cap) : Prop := Ok.setFlag C (R.PG_STAT_BUSY P.DMA)

theorem Within.showDmaBusy (h : Within C s₀ s) (may : Ok.showDmaBusy C) : Within C s₀ (State.showDmaBusy s) :=
  .ite h (h.setFlag may)

abbrev Ok.putPort (C : Cap) : Prop := C (.part .pipe) = true

theorem Within.putPort {p : ℕ} {x : PortState} (h : Within C s₀ s) (may : Ok.putPort C) : Within C s₀ (State.putPort s p x) :=
  (h.updPipe may)

abbrev Ok.putDma (C : Cap) : Prop := C (.part .dma) = true

theorem Within.putDma {q : ℕ} {x : RingState} (h : Within C s₀ s) (may : Ok.putDma C) : Within C s₀ (State.putDma s q x) :=
  (h.updDma may)

abbrev Ok.emptyRing (C : Cap) : Prop := C (.part .sw) = true ∧ Ok.putPort C ∧ Ok.putDma C

theorem Within.emptyRing {q : ℕ} {stopped : Bool} (h : Within C s₀ s) (may : Ok.emptyRing C) : Within C s₀ (State.emptyRing s q stopped) :=
  .putDma (.foldl (h.updSw may.1) fun _ _ _ h1 => .ite (h1.putPort may.2.1) h1) may.2.2

abbrev Ok.putRun (C : Cap) (q : ℕ) : Prop := Ok.setFlag C (R.DMA_CFG_EN q) ∧ Ok.set C R.DMA_STATUS_RUN

theorem Within.putRun {q : ℕ} {on : Bool} (h : Within C s₀ s) (may : Ok.putRun C q) : Within C s₀ (State.putRun s q on) :=
  .bind (h.setFlag may.1) fun h1 => (h1.set may.2)

abbrev Ok.stopRing (C : Cap) (q : ℕ) : Prop := Ok.putRun C q ∧ Ok.emptyRing C

theorem Within.stopRing {q : ℕ} (h : Within C s₀ s) (may : Ok.stopRing C q) : Within C s₀ (State.stopRing s q) :=
  .ite ((h.putRun may.1).emptyRing may.2) h

abbrev Ok.stopRings (C : Cap) : Prop := (∀ i < 8, Ok.stopRing C i)

theorem Within.stopRings {p : ℕ → Bool} (h : Within C s₀ s) (may : Ok.stopRings C) : Within C s₀ (State.stopRings s p) :=
  .foldl h fun _ m0 _ h1 => .ite (h1.stopRing (may _ (List.mem_range.1 m0))) h1

abbrev Ok.ticDropCal (C : Cap) (t : ℕ) : Prop := Ok.set C (R.TIC_CMD_STATUS t) ∧ Ok.set C (R.TIC_STATUS_STATE t) ∧ Ok.putTic C

theorem Within.ticDropCal {t : ℕ} (h : Within C s₀ s) (may : Ok.ticDropCal C t) : Within C s₀ (State.ticDropCal s t) :=
  .ite (.putTic (.set (.ite (h.set may.1) h) may.2.1) may.2.2) h

abbrev Ok.ticEnd (C : Cap) (t : ℕ) : Prop := Ok.wrS C (R.TIC_STEP_SUM t) ∧ Ok.set C (R.TIC_CMD_STATUS t) ∧ Ok.set C (R.TIC_STATUS_STATE t) ∧ Ok.putTic C

theorem Within.ticEnd {t : ℕ} {status : ℕ} {st : ℕ} (h : Within C s₀ s) (may : Ok.ticEnd C t) : Within C s₀ (State.ticEnd s t status st) :=
  .bind (.ite (h.wrS may.1) h) fun h1 => (((h1.set may.2.1).set may.2.2.1).putTic may.2.2.2)

abbrev Ok.ticAbort (C : Cap) (t : ℕ) : Prop := Ok.ticEnd C t ∧ Ok.raise C (P.TIC t)

theorem Within.ticAbort {t : ℕ} (h : Within C s₀ s) (may : Ok.ticAbort C t) : Within C s₀ (State.ticAbort s t) :=
  .ite ((h.ticEnd may.1).raise may.2) h

abbrev Ok.putCoach (C : Cap) : Prop := C (.part .pipe) = true

theorem Within.putCoach {c : ℕ} {x : CoachState} (h : Within C s₀ s) (may : Ok.putCoach C) : Within C s₀ (State.putCoach s c x) :=
  (h.updPipe may)

abbrev Ok.dropCar (C : Cap) : Prop := Ok.putCoach C

theorem Within.dropCar {c : ℕ} {cid : ℕ} (h : Within C s₀ s) (may : Ok.dropCar C) : Within C s₀ (State.dropCar s c cid) :=
  (h.putCoach may)

abbrev Ok.sendPin (C : Cap) : Prop := C (.part .key) = true

theorem Within.sendPin {c : ℕ} {pin : Bool} {slot : ℕ} {ver : ℕ} (h : Within C s₀ s) (may : Ok.sendPin C) : Within C s₀ (State.sendPin s c pin slot ver) :=
  (h.updKey may)

abbrev Ok.unpin (C : Cap) : Prop := Ok.sendPin C

theorem Within.unpin {c : Nat} {k : Carriage} (h : Within C s₀ s) (may : Ok.unpin C) : Within C s₀ (State.unpin s c k) := by
  have key : ∀ (o : Option (Nat × Nat)) u, Within C s₀ u → Within C s₀ (match o with | some (sl, v) => u.sendPin c false sl v | none => u) := fun o _ hu => by
    split
    · exact hu.sendPin may
    · exact hu
  exact .ite h (key _ _ (key _ _ h))

abbrev Ok.endCar (C : Cap) : Prop := Ok.unpin C ∧ Ok.dropCar C

theorem Within.endCar {c : ℕ} {k : Carriage} (h : Within C s₀ s) (may : Ok.endCar C) : Within C s₀ (State.endCar s c k) :=
  ((h.unpin may.1).dropCar may.2)

abbrev Ok.lose (C : Cap) (f : Fld) : Prop := Ok.endCar C ∧ Ok.bump C f

theorem Within.lose {c : ℕ} {k : Carriage} {f : Fld} (h : Within C s₀ s) (may : Ok.lose C f) : Within C s₀ (State.lose s c k f) :=
  ((h.endCar may.1).bump may.2)

abbrev Ok.loseAll (C : Cap) (f : Fld) : Prop := Ok.lose C f

theorem Within.loseAll {c : ℕ} {p : Carriage → Bool} {f : Fld} (h : Within C s₀ s) (may : Ok.loseAll C f) : Within C s₀ (State.loseAll s c p f) :=
  .foldl h fun _ _ _ h1 => (h1.lose may)

abbrev Ok.drainCoach (C : Cap) (c : ℕ) : Prop := Ok.loseAll C (R.CO_DIS_DROP_COUNT c) ∧ Ok.setFlag C (R.PG_STAT_BUSY (P.CO c)) ∧ Ok.setFlag C (R.CO_STATUS_DRAINING c) ∧ Ok.raise C (P.CO c)

theorem Within.drainCoach {c : ℕ} (h : Within C s₀ s) (may : Ok.drainCoach C c) : Within C s₀ (State.drainCoach s c) :=
  .bind (h.loseAll may.1) fun h1 => .bind ((h1.setFlag may.2.1).setFlag may.2.2.1) fun h2 => .ite h2 (h2.raise may.2.2.2)

abbrev Ok.setLink (C : Cap) (p : ℕ) : Prop := Ok.set C (R.PRT_STATUS_LINK p) ∧ Ok.raise C (P.PRT p) ∧ Ok.level C (P.PRT p)

theorem Within.setLink {p : ℕ} {st : ℕ} (h : Within C s₀ s) (may : Ok.setLink C p) : Within C s₀ (State.setLink s p st) :=
  .ite h (((h.set may.1).raise may.2.1).level may.2.2)

abbrev Ok.sta (C : Cap) (p : ℕ) (k : ℕ) : Prop := Ok.wr C (R.STA_RX_FRAMES p + k) ∧ Ok.raiseIf C (P.STA p)

theorem Within.sta {p : ℕ} {k : ℕ} {n : ℕ} (h : Within C s₀ s) (may : Ok.sta C p k) : Within C s₀ (State.sta s p k n) :=
  ((h.wr may.1).raiseIf may.2)

abbrev Ok.txResult (C : Cap) : Prop := Ok.putDma C

theorem Within.txResult {q : ℕ} {idx : ℕ} {st : ℕ} {stamp : ℤ} (h : Within C s₀ s) (may : Ok.txResult C) : Within C s₀ (State.txResult s q idx st stamp) :=
  (h.putDma may)

abbrev Ok.descResult (C : Cap) : Prop := Ok.txResult C

theorem Within.descResult {f : SwFrame} {st : ℕ} (h : Within C s₀ s) (may : Ok.descResult C) : Within C s₀ (State.descResult s f st) := by
  unfold State.descResult
  split
  · exact (h.txResult may)
  · exact h

abbrev Ok.flushQueues (C : Cap) (dst : ℕ) : Prop := Ok.sta C dst 16 ∧ Ok.descResult C ∧ Ok.dropCopies C ∧ Ok.tidy C

theorem Within.flushQueues {dst : ℕ} (h : Within C s₀ s) (may : Ok.flushQueues C dst) : Within C s₀ (State.flushQueues s dst) :=
  .tidy (.foldl h fun _ _ _ h1 => .dropCopies (.descResult (.ite (h1.sta may.1) h1) may.2.1) may.2.2.1) may.2.2.2

abbrev Can.flushPort (C : Cap) (p : ℕ) : Bool := decide (Ok.flushQueues C p ∧ Ok.endCar C ∧ Ok.sta C p 15 ∧ Ok.sta C p 16)

abbrev Ok.flushPort (C : Cap) (p : ℕ) : Prop := Can.flushPort C p = true

theorem Within.flushPort {p : ℕ} (h : Within C s₀ s) (may : Ok.flushPort C p) : Within C s₀ (State.flushPort s p) :=
  .bind (h.flushQueues (of_decide_eq_true may).1) fun h1 => .foldl h1 fun _ _ _ h2 => (((h2.endCar (of_decide_eq_true may).2.1).sta (of_decide_eq_true may).2.2.1).sta (of_decide_eq_true may).2.2.2)

abbrev Ok.goOff (C : Cap) (p : ℕ) : Prop := Ok.flushPort C p ∧ Ok.setLink C p ∧ Ok.set C (R.PRT_STATUS_FEC_LOCK p) ∧ Ok.set C (R.PRT_STATUS_TRAINING p) ∧ C (.part .boot) = true

theorem Within.goOff {p : ℕ} (h : Within C s₀ s) (may : Ok.goOff C p) : Within C s₀ (State.goOff s p) :=
  .bind ((((h.flushPort may.1).setLink may.2.1).set may.2.2.1).set may.2.2.2.1) fun h1 => (h1.updBoot may.2.2.2.2)

abbrev Ok.clearEvt (C : Cap) (page : ℕ) : Prop := Ok.wr C (R.PG_EVT page)

theorem Within.clearEvt {page : ℕ} {mask : ℕ} (h : Within C s₀ s) (may : Ok.clearEvt C page) : Within C s₀ (State.clearEvt s page mask) :=
  (h.wr may)

abbrev Ok.worldErr (C : Cap) : Prop := Ok.accessErr C

theorem Within.worldErr {m : Master} {slot : ℕ} (h : Within C s₀ s) (may : Ok.worldErr C) : Within C s₀ (State.worldErr s m slot) :=
  (h.accessErr may)

theorem Within.putMst {m : Master} {x : MasterState} (h : Within C s₀ s) : Within C s₀ (State.putMst s m x) := by
  unfold State.putMst
  split
  · exact h.updHost
  · exact h.updHost
  · exact h.updHost

theorem Within.keySet {m : Master} {f : Fld} {n : ℕ} (h : Within C s₀ s) : Within C s₀ (State.keySet s m f n) :=
  h.putMst

theorem Within.clearStaged {m : Master} (h : Within C s₀ s) : Within C s₀ (State.clearStaged s m) :=
  h.putMst

abbrev Ok.closeWindow (C : Cap) : Prop := Ok.raise C P.GLB

theorem Within.closeWindow {m : Master} (h : Within C s₀ s) (may : Ok.closeWindow C) : Within C s₀ (State.closeWindow s m) :=
  .ite (h.putMst.raise may) h

abbrev Ok.mgtFault (C : Cap) : Prop := C (.part .isl) = true

theorem Within.mgtFault {lines : List ℕ} (h : Within C s₀ s) (may : Ok.mgtFault C) : Within C s₀ (State.mgtFault s lines) :=
  .ite (h.updIsl may) h

abbrev Ok.faultStop (C : Cap) (c : ℕ) : Prop := Ok.loseAll C (R.CO_FAULT_STOP_COUNT c)

theorem Within.faultStop {c : ℕ} (h : Within C s₀ s) (may : Ok.faultStop C c) : Within C s₀ (State.faultStop s c) :=
  .ite h (h.loseAll may)

abbrev Ok.faultStops (C : Cap) : Prop := ∀ c < 6, Ok.faultStop C c

theorem Within.faultStops {old : State} (h : Within C s₀ s) (may : Ok.faultStops C) : Within C s₀ (State.faultStops old s) :=
  .foldl h fun _ m _ h => .ite (h.faultStop (may _ (List.mem_range.mp m))) h

abbrev Ok.showProve (C : Cap) : Prop := Ok.set C R.PROVE_STATUS_KIND ∧ Ok.set C R.PROVE_STATUS_UNIT

theorem Within.showProve (h : Within C s₀ s) (may : Ok.showProve C) : Within C s₀ (State.showProve s) := by
  unfold State.showProve
  split
  · exact ((h.set may.1).set may.2)
  · exact ((h.set may.1).set may.2)

theorem Within.proveRec {event : ℕ} {kind : ℕ} {unit : ℕ} (h : Within C s₀ s) : Within C s₀ (State.proveRec s event kind unit) :=
  h.trig

abbrev Can.proveEnd (C : Cap) : Bool := decide (C (.part .prove) = true ∧ Ok.showProve C ∧ Ok.set C R.PROVE_STATUS_STATE ∧ Ok.set C R.PROVE_LAST_LEN_S ∧ Ok.bump C R.PROVE_RUNS_COUNT ∧ Ok.set C R.PROVE_CMD_STATUS ∧ Ok.bump C R.PROVE_ABORTS_COUNT ∧ Ok.raise C P.PROVE)

abbrev Ok.proveEnd (C : Cap) : Prop := Can.proveEnd C = true

theorem Within.proveEnd {aborted : Bool} (h : Within C s₀ s) (may : Ok.proveEnd C) : Within C s₀ (State.proveEnd s aborted) :=
  .bind (((((h.updProve (of_decide_eq_true may).1).showProve (of_decide_eq_true may).2.1).set (of_decide_eq_true may).2.2.1).set (of_decide_eq_true may).2.2.2.1).bump (of_decide_eq_true may).2.2.2.2.1) fun h1 => .bind (.ite (h1.set (of_decide_eq_true may).2.2.2.2.2.1) h1) fun h2 => .ite ((h2.bump (of_decide_eq_true may).2.2.2.2.2.2.1).raise (of_decide_eq_true may).2.2.2.2.2.2.2).proveRec (h2.raise (of_decide_eq_true may).2.2.2.2.2.2.2).proveRec

abbrev Ok.putMig (C : Cap) : Prop := C (.part .shunt) = true

theorem Within.putMig {g : Migration} (h : Within C s₀ s) (may : Ok.putMig C) : Within C s₀ (State.putMig s g) :=
  (h.updShunt may)

abbrev Ok.setLane (C : Cap) (lane : ℕ) : Prop := Ok.set C (R.CO_LANES_STATE (lane / 4))

theorem Within.setLane {lane : ℕ} {st : ℕ} (h : Within C s₀ s) (may : Ok.setLane C lane) : Within C s₀ (State.setLane s lane st) :=
  (h.set may)

abbrev Ok.setShunted (C : Cap) (kind : ℕ) (idx : ℕ) : Prop := C (.part .prove) = true ∧ Ok.wr C R.SHNT_UNITS ∧ Ok.setFlag C (R.PG_STAT_SHUNTED (unitPage kind idx)) ∧ Ok.set C R.SHNT_LANES_LANE ∧ Ok.setLane C idx

theorem Within.setShunted {kind : ℕ} {idx : ℕ} {on : Bool} (h : Within C s₀ s) (may : Ok.setShunted C kind idx) : Within C s₀ (State.setShunted s kind idx on) := by
  unfold State.setShunted
  split
  · extract_lets _ t1
    have h1 : Within C s₀ t1 := (h.updProve may.1)
    clear_value t1
    exact ((h1.wr may.2.1).setFlag may.2.2.1)
  · extract_lets _ t1
    have h1 : Within C s₀ t1 := (h.updProve may.1)
    exact ((h1.set may.2.2.2.1).setLane may.2.2.2.2)

abbrev Ok.putCore (C : Cap) : Prop := C (.part .tri) = true

theorem Within.putCore {k : ℕ} {c : CoreVote} (h : Within C s₀ s) (may : Ok.putCore C) : Within C s₀ (State.putCore s k c) := by
  unfold State.putCore
  split
  · exact (h.updTri may)
  · exact (h.updTri may)
  · exact (h.updTri may)

abbrev Ok.showBroken (C : Cap) : Prop := Ok.set C R.GLB_COUPLE_BROKEN_ISLANDS ∧ Ok.set C R.GLB_COUPLE_BROKEN_FIRST_FROM ∧ Ok.set C R.GLB_COUPLE_BROKEN_FIRST_TO

theorem Within.showBroken (h : Within C s₀ s) (may : Ok.showBroken C) : Within C s₀ (State.showBroken s) :=
  (((h.set may.1).set may.2.1).set may.2.2)

abbrev Ok.healLinks (C : Cap) : Prop := Ok.lineOff C ∧ C (.part .isl) = true ∧ Ok.showBroken C

theorem Within.healLinks {i : ℕ} (h : Within C s₀ s) (may : Ok.healLinks C) : Within C s₀ (State.healLinks s i) :=
  .bind (.foldl h fun _ _ _ h1 => (h1.lineOff may.1)) fun h1 => ((h1.updIsl may.2.1).showBroken may.2.2)

abbrev Can.returnCore (C : Cap) (k : ℕ) : Bool := decide (Ok.setShunted C 2 k ∧ Ok.healLinks C ∧ Ok.putCore C)

abbrev Ok.returnCore (C : Cap) (k : ℕ) : Prop := Can.returnCore C k = true

theorem Within.returnCore {k : ℕ} (h : Within C s₀ s) (may : Ok.returnCore C k) : Within C s₀ (State.returnCore s k) :=
  (((h.setShunted (of_decide_eq_true may).1).healLinks (of_decide_eq_true may).2.1).putCore (of_decide_eq_true may).2.2)

abbrev Ok.engineReturn (C : Cap) : Prop := C (.part .gns) = true ∧ Ok.engineRun C ∧ Ok.setEngine C

theorem Within.engineReturn (h : Within C s₀ s) (may : Ok.engineReturn C) : Within C s₀ (State.engineReturn s) :=
  .bind (h.updGns may.1) fun h1 => .ite (h1.engineRun may.2.1) (h1.setEngine may.2.2)

abbrev Can.returnUnit (C : Cap) (unit : ℕ) : Bool := decide (C (.part .shunt) = true ∧ Ok.putMig C ∧ Ok.setShunted C 5 unit ∧ Ok.pllStart C unit ∧ C (.part .tri) = true ∧ Ok.returnCore C unit ∧ Ok.setShunted C 6 0 ∧ Ok.engineReturn C)

abbrev Ok.returnUnit (C : Cap) (unit : ℕ) : Prop := Can.returnUnit C unit = true

theorem Within.returnUnit {kind : ℕ} {unit : ℕ} (h : Within C s₀ s) (may : Ok.returnUnit C unit) : Within C s₀ (State.returnUnit s kind unit) := by
  unfold State.returnUnit
  split
  · exact (h.updShunt (of_decide_eq_true may).1)
  · split
    · exact .ite (h.updShunt (of_decide_eq_true may).1) (h.putMig (of_decide_eq_true may).2.1)
    · exact (h.updShunt (of_decide_eq_true may).1)
  · exact ((h.setShunted (of_decide_eq_true may).2.2.1).pllStart (of_decide_eq_true may).2.2.2.1)
  · exact .ite (h.updTri (of_decide_eq_true may).2.2.2.2.1) (.ite (h.returnCore (of_decide_eq_true may).2.2.2.2.2.1) h)
  · exact ((h.setShunted (of_decide_eq_true may).2.2.2.2.2.2.1).engineReturn (of_decide_eq_true may).2.2.2.2.2.2.2)
  · exact h

abbrev Ok.proveAbort (C : Cap) : Prop := (∀ x1 : ℕ, Ok.returnUnit C x1) ∧ Ok.proveEnd C

theorem Within.proveAbort (h : Within C s₀ s) (may : Ok.proveAbort C) : Within C s₀ (State.proveAbort s) :=
  .ite h (.proveEnd (.foldl h fun _ _ _ h1 => (h1.returnUnit (may.1 _))) may.2)

abbrev Ok.putSrc (C : Cap) (o : ℕ) : Prop := Ok.set C (outSrc o)

theorem Within.putSrc {o : ℕ} {new : ℕ} (h : Within C s₀ s) (may : Ok.putSrc C o) : Within C s₀ (State.putSrc s o new) :=
  .ite h (h.set may).trig

abbrev Ok.setTimeValid (C : Cap) : Prop := C (.part .boot) = true ∧ C (.part .teb) = true ∧ Ok.setFlag C R.TEB_STATUS_VALID ∧ Ok.raise C P.TEB

theorem Within.setTimeValid {b : Bool} (h : Within C s₀ s) (may : Ok.setTimeValid C) : Within C s₀ (State.setTimeValid s b) := by
  unfold State.setTimeValid
  exact .ite h (((h.updBootTeb may.1 may.2.1).setFlag may.2.2.1).raise may.2.2.2)

abbrev Ok.showBypass (C : Cap) : Prop := Ok.level C P.OUT

theorem Within.showBypass (h : Within C s₀ s) (may : Ok.showBypass C) : Within C s₀ (State.showBypass s) :=
  (h.level may)

abbrev Can.brakeOn (C : Cap) (b : Brake) : Bool := decide ((b ≠ .off ∨ C (.part .brake) = true) ∧ ((∀ i : Nat, i < 8 → Ok.putSrc C i) ∧ (∀ i : Nat, i < 8 → Ok.set C (outSlewing i)) ∧ Ok.putOut C) ∧ (C (.part .flt) = true ∧ C (.part .calm) = true) ∧ Ok.setTimeValid C ∧ C (.part .boot) = true ∧ Ok.showBypass C ∧ Ok.bump C R.FLT_BRAKES_COUNT ∧ Ok.refreshFaults C)

abbrev Ok.brakeOn (C : Cap) (b : Brake) : Prop := Can.brakeOn C b = true

/-- The brake of a state set (R451). -/

theorem Within.putBrake {x : FaultPart} (h : Within C s₀ s) (q : C (.part .flt) = true ∧ C (.part .calm) = true) (on : x.brake ≠ .off ∨ C (.part .brake) = true) : Within C s₀ { s with flt := x } :=
  ⟨h.get, h.evt, fun p e => by
    cases p with
    | flt => exact absurd (q.1.symm.trans e) Bool.noConfusion
    | calm => exact absurd (q.2.symm.trans e) Bool.noConfusion
    | brake => exact fun _ => on.resolve_right (by rw [e]; exact Bool.false_ne_true)
    | _ => exact h.part _ e, h.sent⟩

theorem Within.brakeOn {b : Brake} (h : Within C s₀ s) (may : Ok.brakeOn C b) : Within C s₀ (s.brakeOn b) := by
  obtain ⟨on, ⟨src, slews, out⟩, flt, valid, boot, bypass, count, refresh⟩ := (of_decide_eq_true may)
  unfold State.brakeOn
  extract_lets t1 _ t2 t3 _ t4
  have h1 : Within C s₀ t1 := .foldl h fun _ m _ h => (((h.putSrc (src _ (List.mem_range.mp m))).set (slews _ (List.mem_range.mp m))).putOut out)
  clear_value t1
  have h2 : Within C s₀ t2 := h1.putBrake (x := { t1.flt with brake := b, releaseAsked := false }) flt on
  clear_value t2
  have h4 : Within C s₀ t4 := .ite (h2.setTimeValid valid) ((h2.setTimeValid valid).updBoot boot)
  exact ((h4.showBypass bypass).bump count).refreshFaults refresh

abbrev Ok.fatalBrake (C : Cap) : Prop := C (.part .flt) = true ∧ Ok.brakeOn C Brake.fault

theorem Within.fatalBrake {lines : List ℕ} (h : Within C s₀ s) (may : Ok.fatalBrake C) : Within C s₀ (State.fatalBrake s lines) := by
  unfold State.fatalBrake
  extract_lets _ _ t1
  have h1 : Within C s₀ t1 := (h.updFlt may.1 rfl)
  exact .ite h (.ite (h1.brakeOn may.2) h1)

abbrev Ok.sendBad (C : Cap) (p : ℕ) : Prop := Ok.sta C p 18

theorem Within.sendBad {p : ℕ} {f : Frame} (h : Within C s₀ s) (may : Ok.sendBad C p) : Within C s₀ (State.sendBad s p f) :=
  (h.sta may).emit

abbrev Can.cutTx (C : Cap) (p : ℕ) : Bool := decide (Ok.descResult C ∧ Ok.dropCopies C ∧ Ok.tidy C ∧ Ok.sendBad C p ∧ Ok.endCar C ∧ Ok.sta C p 15)

abbrev Ok.cutTx (C : Cap) (p : ℕ) : Prop := Can.cutTx C p = true

theorem Within.cutTx {p : ℕ} {r : TxRef} (h : Within C s₀ s) (may : Ok.cutTx C p) : Within C s₀ (State.cutTx s p r) := by
  unfold State.cutTx
  split
  · split
    · exact ((((h.descResult (of_decide_eq_true may).1).dropCopies (of_decide_eq_true may).2.1).tidy (of_decide_eq_true may).2.2.1).sendBad (of_decide_eq_true may).2.2.2.1)
    · exact h
  · split
    · exact .ite (((h.endCar (of_decide_eq_true may).2.2.2.2.1).sta (of_decide_eq_true may).2.2.2.2.2).sendBad (of_decide_eq_true may).2.2.2.1) h
    · exact h

abbrev Ok.cutLaunches (C : Cap) : Prop := ∀ p < 24, Ok.cutTx C p

theorem Within.cutLaunches {cuts : List (Nat × TxRef)} (h : Within C s₀ s) (may : Ok.cutLaunches C) : Within C s₀ (s.cutLaunches cuts) := by
  refine .foldl h fun e _ u hu => ?_
  split
  · split
    next low => exact hu.cutTx (may _ low)
    · exact hu
  · exact hu

abbrev Can.brakeLines (C : Cap) : Bool := decide (Ok.fatalBrake C ∧ Ok.cutLaunches C ∧ Ok.switchHalt C ∧ Ok.stopRings C)

abbrev Ok.brakeLines (C : Cap) : Prop := Can.brakeLines C = true

theorem Within.brakeLines {lines : List ℕ} {cuts : List (ℕ × TxRef)} {slot : ℕ} (h : Within C s₀ s) (may : Ok.brakeLines C) : Within C s₀ (State.brakeLines s lines cuts slot) :=
  .bind (h.fatalBrake (of_decide_eq_true may).1) fun h1 => .bind (.ite (h1.cutLaunches (of_decide_eq_true may).2.1) h1) fun h2 => .ite ((h2.switchHalt (of_decide_eq_true may).2.2.1).stopRings (of_decide_eq_true may).2.2.2) h2

abbrev Ok.wcReject (C : Cap) : Prop := Ok.bump C R.GLB_WC_REJECT_COUNT ∧ Ok.wr C R.GLB_WC_REJECT_LAST ∧ Ok.raise C P.GLB

theorem Within.wcReject {m : Master} {slot : ℕ} (h : Within C s₀ s) (may : Ok.wcReject C) : Within C s₀ (State.wcReject s m slot) :=
  (((h.bump may.1).wr may.2.1).raise may.2.2)

abbrev Ok.injEnd (C : Cap) : Prop := C (.part .flt) = true ∧ Ok.set C R.FLT_INJ_STATUS ∧ Ok.raise C P.FLT

theorem Within.injEnd {st : ℕ} (h : Within C s₀ s) (may : Ok.injEnd C) : Within C s₀ (State.injEnd s st) := by
  unfold State.injEnd
  extract_lets _ t1
  have h1 : Within C s₀ t1 := (((h.updFlt may.1 (by exact rfl)).set may.2.1).raise may.2.2)
  exact h1.trig

abbrev Ok.stageSnaps (C : Cap) : Prop := (∀ i < 24, Ok.set C (R.REC_SNAP_SLOT i))

theorem Within.stageSnaps {l : List ℕ} (h : Within C s₀ s) (may : Ok.stageSnaps C) : Within C s₀ (State.stageSnaps s l) :=
  .foldl h fun _ m0 _ h1 => (h1.set (may _ (List.mem_range.1 m0)))

abbrev Ok.setGenState (C : Cap) : Prop := Ok.set C R.GEN_STATUS_STATE

theorem Within.setGenState {st : ℕ} (h : Within C s₀ s) (may : Ok.setGenState C) : Within C s₀ (State.setGenState s st) :=
  (h.set may)

abbrev Ok.prepare (C : Cap) : Prop := Ok.set C R.GEN_CMD_STATUS ∧ C (.part .staging) = true ∧ C (.part .gen) = true ∧ Ok.set C R.GEN_NEXT_GEN ∧ Ok.set C R.GEN_PREPARED_ISLANDS ∧ Ok.setGenState C

theorem Within.prepare {arrival : ℤ} (h : Within C s₀ s) (may : Ok.prepare C) : Within C s₀ (State.prepare s arrival) := by
  unfold State.prepare
  split
  · exact (h.set may.1)
  · extract_lets _ t1
    have h1 : Within C s₀ t1 := (h.updStagingGen may.2.1 may.2.2.1)
    exact ((((h1.set may.1).set may.2.2.2.1).set may.2.2.2.2.1).setGenState may.2.2.2.2.2)

abbrev Ok.shuntRefuse (C : Cap) : Prop := Ok.set C R.SHNT_CMD_STATUS ∧ Ok.raise C P.SHNT

theorem Within.shuntRefuse {st : ℕ} (h : Within C s₀ s) (may : Ok.shuntRefuse C) : Within C s₀ (State.shuntRefuse s st) :=
  ((h.set may.1).raise may.2)

abbrev Ok.addMig (C : Cap) : Prop := C (.part .shunt) = true

theorem Within.addMig {lane : ℕ} {dest : ℕ} {shunt : Bool} (h : Within C s₀ s) (may : Ok.addMig C) : Within C s₀ (State.addMig s lane dest shunt) :=
  (h.updShunt may)

theorem Within.shuntRec {kind : ℕ} {idx : ℕ} {event : ℕ} (h : Within C s₀ s) : Within C s₀ (State.shuntRec s kind idx event) :=
  h.trig

abbrev Ok.shuntDone (C : Cap) : Prop := C (.part .shunt) = true ∧ Ok.set C R.SHNT_CMD_STATUS ∧ Ok.bump C R.SHNT_SHUNTS_COUNT ∧ Ok.raise C P.SHNT

theorem Within.shuntDone {kind : ℕ} {idx : ℕ} (h : Within C s₀ s) (may : Ok.shuntDone C) : Within C s₀ (State.shuntDone s kind idx) :=
  ((((h.updShunt may.1).set may.2.1).bump may.2.2.1).raise may.2.2.2).shuntRec

abbrev Can.shuntTic (C : Cap) (t : ℕ) : Bool := decide (Ok.ticAbort C t ∧ Ok.ticDropCal C t ∧ Ok.setShunted C 4 t)

abbrev Ok.shuntTic (C : Cap) (t : ℕ) : Prop := Can.shuntTic C t = true

theorem Within.shuntTic {t : ℕ} (h : Within C s₀ s) (may : Ok.shuntTic C t) : Within C s₀ (State.shuntTic s t) :=
  (((h.ticAbort (of_decide_eq_true may).1).ticDropCal (of_decide_eq_true may).2.1).setShunted (of_decide_eq_true may).2.2)

abbrev Ok.changeSrc (C : Cap) (n : ℕ) : Prop := Ok.putOut C ∧ Ok.putSrc C n

theorem Within.changeSrc {n : ℕ} {new : ℕ} (h : Within C s₀ s) (may : Ok.changeSrc C n) : Within C s₀ (State.changeSrc s n new) :=
  ((h.takeFree.takeFree.putOut may.1).putSrc may.2)

abbrev Ok.showMisalign (C : Cap) : Prop := Ok.level C P.OUT

theorem Within.showMisalign (h : Within C s₀ s) (may : Ok.showMisalign C) : Within C s₀ (State.showMisalign s) :=
  (h.level may)

abbrev Ok.setMisalign (C : Cap) (o : ℕ) : Prop := Ok.wrS C (misSlot o) ∧ Ok.showMisalign C

theorem Within.setMisalign {o : ℕ} {z : ℤ} (h : Within C s₀ s) (may : Ok.setMisalign C o) : Within C s₀ (State.setMisalign s o z) :=
  .ite h ((h.wrS may.1).showMisalign may.2)

abbrev Can.muteOut (C : Cap) (o : ℕ) : Bool := decide (Ok.putSrc C o ∧ Ok.set C (outSlewing o) ∧ Ok.putOut C ∧ Ok.setMisalign C o ∧ Ok.showBypass C ∧ Ok.showOutBusy C)

abbrev Ok.muteOut (C : Cap) (o : ℕ) : Prop := Can.muteOut C o = true

theorem Within.muteOut {o : ℕ} (h : Within C s₀ s) (may : Ok.muteOut C o) : Within C s₀ (State.muteOut s o) :=
  ((((((h.putSrc (of_decide_eq_true may).1).set (of_decide_eq_true may).2.1).putOut (of_decide_eq_true may).2.2.1).setMisalign (of_decide_eq_true may).2.2.2.1).showBypass (of_decide_eq_true may).2.2.2.2.1).showOutBusy (of_decide_eq_true may).2.2.2.2.2)

abbrev Ok.toBypass (C : Cap) (n : ℕ) : Prop := Ok.changeSrc C n ∧ Ok.bump C R.OUT_BYPASSES_COUNT ∧ Ok.showBypass C ∧ Ok.muteOut C n

theorem Within.toBypass {n : ℕ} (h : Within C s₀ s) (may : Ok.toBypass C n) : Within C s₀ (State.toBypass s n) :=
  .ite h (.ite (((h.changeSrc may.1).bump may.2.1).showBypass may.2.2.1) (h.muteOut may.2.2.2))

abbrev Can.pllToBypass (C : Cap) : Bool := decide (∀ n : Nat, n < 4 → Ok.toBypass C n)

abbrev Ok.pllToBypass (C : Cap) : Prop := Can.pllToBypass C = true

theorem Within.pllToBypass {p : Nat} (h : Within C s₀ s) (may : Ok.pllToBypass C) : Within C s₀ (s.pllToBypass p) :=
  .foldl h fun _ m _ h => h.toBypass ((of_decide_eq_true may) _ (List.mem_range.mp (List.mem_of_mem_filter m)))

abbrev Can.shuntPll (C : Cap) (p : ℕ) : Bool := decide (Ok.pllToBypass C ∧ Ok.setPll C p ∧ Ok.lineOff C ∧ Ok.putPll C ∧ Ok.setShunted C 5 p)

abbrev Ok.shuntPll (C : Cap) (p : ℕ) : Prop := Can.shuntPll C p = true

theorem Within.shuntPll {p : ℕ} (h : Within C s₀ s) (may : Ok.shuntPll C p) : Within C s₀ (State.shuntPll s p) :=
  (((((h.pllToBypass (of_decide_eq_true may).1).setPll (of_decide_eq_true may).2.1).lineOff (of_decide_eq_true may).2.2.1).putPll (of_decide_eq_true may).2.2.2.1).setShunted (of_decide_eq_true may).2.2.2.2)

abbrev Can.shuntGns (C : Cap) : Bool := decide (Ok.gnsStop C ∧ Ok.setShunted C 6 0)

abbrev Ok.shuntGns (C : Cap) : Prop := Can.shuntGns C = true

theorem Within.shuntGns (h : Within C s₀ s) (may : Ok.shuntGns C) : Within C s₀ (State.shuntGns s) :=
  ((h.gnsStop (of_decide_eq_true may).1).setShunted (of_decide_eq_true may).2)

abbrev Ok.ticCalStart (C : Cap) (t : ℕ) : Prop := Ok.set C (R.TIC_STATUS_STATE t) ∧ Ok.putTic C

theorem Within.ticCalStart {t : ℕ} {kind : ℕ} (h : Within C s₀ s) (may : Ok.ticCalStart C t) : Within C s₀ (State.ticCalStart s t kind) :=
  ((h.set may.1).putTic may.2)

abbrev Can.beginReturn (C : Cap) (idx : ℕ) : Bool := decide (C (.part .shunt) = true ∧ C (.part .gen) = true ∧ Ok.ticCalStart C idx ∧ Ok.setShunted C 5 idx ∧ Ok.pllStart C idx ∧ Ok.setShunted C 6 0 ∧ Ok.engineReturn C)

abbrev Ok.beginReturn (C : Cap) (idx : ℕ) : Prop := Can.beginReturn C idx = true

theorem Within.beginReturn {kind : ℕ} {idx : ℕ} (h : Within C s₀ s) (may : Ok.beginReturn C idx) : Within C s₀ (State.beginReturn s kind idx) := by
  unfold State.beginReturn
  extract_lets _ t1 _ t2
  have h1 : Within C s₀ t1 := (h.updShunt (of_decide_eq_true may).1)
  clear_value t1
  have h2 : Within C s₀ t2 := .ite (h1.updGen (of_decide_eq_true may).2.1) h1
  clear_value t2
  split
  · exact (h2.ticCalStart (of_decide_eq_true may).2.2.1)
  · exact ((h2.setShunted (of_decide_eq_true may).2.2.2.1).pllStart (of_decide_eq_true may).2.2.2.2.1)
  · exact ((h2.setShunted (of_decide_eq_true may).2.2.2.2.2.1).engineReturn (of_decide_eq_true may).2.2.2.2.2.2)
  · exact h2

abbrev Ok.noBuf (C : Cap) : Prop := Ok.putDma C ∧ Ok.raise C P.DMA

theorem Within.noBuf {q : ℕ} (h : Within C s₀ s) (may : Ok.noBuf C) : Within C s₀ (State.noBuf s q) :=
  .ite h ((h.putDma may.1).raise may.2)

abbrev Can.clearMeas (C : Cap) (t : ℕ) : Bool := decide (Ok.wr C (R.TIC_START_RAW t) ∧ Ok.wr C (R.TIC_STOP_RAW t) ∧ Ok.wrT C (R.TIC_START_T t) ∧ Ok.wrT C (R.TIC_STOP_T t) ∧ Ok.wrS C (R.TIC_STEP_SUM t) ∧ Ok.set C (R.TIC_STATUS_START_OK t) ∧ Ok.set C (R.TIC_STATUS_STOP_OK t) ∧ Ok.set C (R.TIC_STATUS_LATE_ARM t))

abbrev Ok.clearMeas (C : Cap) (t : ℕ) : Prop := Can.clearMeas C t = true

theorem Within.clearMeas {t : ℕ} (h : Within C s₀ s) (may : Ok.clearMeas C t) : Within C s₀ (State.clearMeas s t) :=
  ((((((((h.wr (of_decide_eq_true may).1).wr (of_decide_eq_true may).2.1).wrT (of_decide_eq_true may).2.2.1).wrT (of_decide_eq_true may).2.2.2.1).wrS (of_decide_eq_true may).2.2.2.2.1).set (of_decide_eq_true may).2.2.2.2.2.1).set (of_decide_eq_true may).2.2.2.2.2.2.1).set (of_decide_eq_true may).2.2.2.2.2.2.2)

abbrev Ok.ticArmNow (C : Cap) (t : ℕ) : Prop := Ok.clearMeas C t ∧ Ok.set C (R.TIC_STATUS_STATE t) ∧ Ok.setFlag C (R.TIC_STATUS_LATE_ARM t) ∧ Ok.putTic C

theorem Within.ticArmNow {t : ℕ} {late : Bool} (h : Within C s₀ s) (may : Ok.ticArmNow C t) : Within C s₀ (State.ticArmNow s t late) :=
  .bind (((h.clearMeas may.1).set may.2.1).setFlag may.2.2.1) fun h1 => (h1.putTic may.2.2.2)

abbrev Ok.i2cEnd (C : Cap) (p : ℕ) : Prop := Ok.set C (R.PRT_I2C_CMD_STATUS p) ∧ Ok.raise C (P.PRT p) ∧ Ok.bump C (R.PRT_I2C_ERRS_COUNT p)

theorem Within.i2cEnd {p : ℕ} {st : ℕ} (h : Within C s₀ s) (may : Ok.i2cEnd C p) : Within C s₀ (State.i2cEnd s p st) :=
  .bind ((h.set may.1).raise may.2.1) fun h1 => .ite (h1.bump may.2.2) h1

abbrev Ok.putBus (C : Cap) : Prop := C (.part .pipe) = true

theorem Within.putBus {c : ℕ} {x : BusState} (h : Within C s₀ s) (may : Ok.putBus C) : Within C s₀ (State.putBus s c x) :=
  (h.updPipe may)

abbrev Ok.runBus (C : Cap) : Prop := Ok.putBus C

theorem Within.runBus {c : Nat} {b : BusState} (h : Within C s₀ s) (may : Ok.runBus C) : Within C s₀ (State.runBus s c b) := by
  have select : ∀ (o : Option Nat) (low : Bool) u, Within C s₀ u → Within C s₀ (match o with | some p => u.emit (.sel p low) | none => u) := fun o _ _ hu => by
    cases o
    · exact hu
    · exact hu.emit
  exact .ite (h.putBus may) (.putBus (select _ true _ (select _ false _ h)) may)

abbrev Ok.fdbDone (C : Cap) : Prop := Ok.set C R.SWF_FDB_CMD_STATUS

theorem Within.fdbDone {st : ℕ} (h : Within C s₀ s) (may : Ok.fdbDone C) : Within C s₀ (State.fdbDone s st) :=
  (h.set may)

abbrev Ok.putFdb (C : Cap) : Prop := C (.part .sw) = true ∧ Ok.set C R.SWF_FDB_COUNT_N

theorem Within.putFdb {l : List FdbEntry} (h : Within C s₀ s) (may : Ok.putFdb C) : Within C s₀ (State.putFdb s l) :=
  ((h.updSw may.1).set may.2)

abbrev Ok.putPeer (C : Cap) : Prop := C (.part .dug) = true

theorem Within.putPeer {n : ℕ} {x : PeerState} (h : Within C s₀ s) (may : Ok.putPeer C) : Within C s₀ (State.putPeer s n x) := by
  refine h.updPeers may ?_
  split
  · rfl
  · rfl

abbrev Ok.dugSend (C : Cap) : Prop := Ok.putPeer C

theorem Within.dugSend {n : ℕ} {lane : ℕ} {body : DugBody} (h : Within C s₀ s) (may : Ok.dugSend C) : Within C s₀ (State.dugSend s n lane body) :=
  .ite h (h.putPeer may).emit

abbrev Ok.dugSendAll (C : Cap) : Prop := Ok.dugSend C

theorem Within.dugSendAll {lane : ℕ} {body : DugBody} (h : Within C s₀ s) (may : Ok.dugSendAll C) : Within C s₀ (State.dugSendAll s lane body) :=
  .foldl h fun _ _ _ h1 => (h1.dugSend may)

abbrev Ok.mirror (C : Cap) : Prop := Ok.dugSendAll C

theorem Within.mirror {e : ClientEntry} (h : Within C s₀ s) (may : Ok.mirror C) : Within C s₀ (State.mirror s e) :=
  .ite (h.dugSendAll may) h

abbrev Can.showClt (C : Cap) : Bool := decide (Ok.set C R.CLT_COUNT_N ∧ Ok.set C R.CLT_FREE_N ∧ Ok.level C P.CLT ∧ (∀ i : Nat, i < 6 → Ok.set C (R.TTB_COMMIT_RATE i)) ∧ Ok.set C R.TTB_RECORDS_N)

abbrev Ok.showClt (C : Cap) : Prop := Can.showClt C = true

theorem Within.showClt (h : Within C s₀ s) (may : Ok.showClt C) : Within C s₀ (State.showClt s) :=
  .bind ((h.set (of_decide_eq_true may).1).set (of_decide_eq_true may).2.1) fun h1 => .bind (.foldl (.ite h1 (h1.level (of_decide_eq_true may).2.2.1)) fun _ m0 _ h2 => (h2.set ((of_decide_eq_true may).2.2.2.1 _ (List.mem_range.1 m0)))) fun h2 => (h2.set (of_decide_eq_true may).2.2.2.2)

abbrev Ok.putEntry (C : Cap) : Prop := C (.part .clt) = true ∧ Ok.showClt C

theorem Within.putEntry {i : ℕ} {e : ClientEntry} (h : Within C s₀ s) (may : Ok.putEntry C) : Within C s₀ (State.putEntry s i e) :=
  ((h.updClt may.1).showClt may.2)

abbrev Ok.putWindow (C : Cap) : Prop := (∀ i < 16, Ok.set C (R.CLT_ENTRY_BYTES i))

theorem Within.putWindow {l : List ℕ} (h : Within C s₀ s) (may : Ok.putWindow C) : Within C s₀ (State.putWindow s l) :=
  .foldl h fun _ m0 _ h1 => (h1.set (may _ (List.mem_range.1 m0)))

abbrev Ok.clientPlace (C : Cap) : Prop := C (.part .clt) = true

theorem Within.clientPlace {i : Nat} {e : ClientEntry} (h : Within C s₀ s) (may : Ok.clientPlace C) : Within C s₀ (s.clientPlace i e).2 := by
  unfold State.clientPlace
  split
  · split
    · exact h
    · exact h.updClt may
  · exact .ite2 h h

abbrev Ok.addCar (C : Cap) : Prop := Ok.putCoach C

theorem Within.addCar {c : ℕ} {f : ℕ → Carriage} (h : Within C s₀ s) (may : Ok.addCar C) : Within C s₀ (State.addCar s c f) :=
  (h.takeFree.putCoach may)

abbrev Ok.demand (C : Cap) : Prop := Ok.putCoach C

theorem Within.demand {c : ℕ} (h : Within C s₀ s) (may : Ok.demand C) : Within C s₀ (State.demand s c) :=
  (h.putCoach may)

abbrev Ok.addTimed (C : Cap) : Prop := Ok.demand C ∧ Ok.addCar C

theorem Within.addTimed {port : ℕ} {client : ℕ} {place : ℕ} {ent : Option ClientEntry} {kind : TtKind} {t : ℤ} (h : Within C s₀ s) (may : Ok.addTimed C) : Within C s₀ (State.addTimed s port client place ent kind t) :=
  ((h.demand may.1).addCar may.2)

abbrev Ok.keyDone (C : Cap) : Prop := Ok.raise C P.KEY

theorem Within.keyDone {m : Master} {st : ℕ} (h : Within C s₀ s) (may : Ok.keyDone C) : Within C s₀ (State.keyDone s m st) :=
  (h.keySet.raise may)

abbrev Ok.writePend (C : Cap) : Prop := Ok.putSlotK C ∧ Ok.keyDone C

theorem Within.writePend {m : Master} {slot : ℕ} {key : ℕ} (h : Within C s₀ s) (may : Ok.writePend C) : Within C s₀ (State.writePend s m slot key) :=
  ((h.putSlotK may.1).keyDone may.2)

abbrev Ok.writeKeyRec (C : Cap) : Prop := Ok.nvWrite C

theorem Within.writeKeyRec {payload : List Word} {ok : Bool} (h : Within C s₀ s) (may : Ok.writeKeyRec C) : Within C s₀ (State.writeKeyRec s payload ok).1 :=
  (h.nvWrite may)

abbrev Ok.startCommit (C : Cap) : Prop := Ok.keyDone C ∧ Ok.nvWrite C ∧ C (.part .key) = true

theorem Within.startCommit {c : KeyCmd} {slot : Nat} (h : Within C s₀ s) (may : Ok.startCommit C) : Within C s₀ (s.startCommit c slot) := by
  obtain ⟨done, nv, key⟩ := may
  unfold State.startCommit
  dsimp only
  split
  · have recorded : ∀ (b : Bool) n w, Within C s₀ (if b then (s.keyRec slot 7 n 1).writeKeyRec w c.nvOk else (s.keyRec slot 7 n 1, true)).1 := fun _ _ _ =>
      .ite1 (h.keyRec.nvWrite nv) h.keyRec
    exact .ite (h.keyDone done) (.ite (h.keyDone done) (.ite (h.keyDone done) (.ite ((recorded _ _ _).updKey key) ((recorded _ _ _).keyDone done))))
  · exact h.keyDone done

abbrev Ok.startErase (C : Cap) : Prop := Ok.keyDone C ∧ Ok.nvWrite C ∧ C (.part .key) = true

theorem Within.startErase {c : KeyCmd} {slot : Nat} (h : Within C s₀ s) (may : Ok.startErase C) : Within C s₀ (s.startErase c slot) := by
  obtain ⟨done, nv, key⟩ := may
  have recorded : ∀ (b : Bool) w, Within C s₀ (if b then (s.keyRec slot 10 0 1).writeKeyRec w c.nvOk else (s.keyRec slot 10 0 1, true)).1 := fun _ _ =>
    .ite1 (h.keyRec.nvWrite nv) h.keyRec
  exact .ite (h.keyDone done) (.ite ((recorded _ _).updKey key) ((recorded _ _).keyDone done))

theorem Within.putBuf {m : Master} {ws : List Word} (h : Within C s₀ s) : Within C s₀ (State.putBuf s m ws) :=
  .foldl h fun _ _ _ h1 => h1.putMst

abbrev Ok.mintCookies (C : Cap) : Prop := Ok.keyDone C ∧ Ok.drbg C ∧ Ok.bumpBy C R.KEY_MINTED_COUNT

theorem Within.mintCookies {m : Master} {slot : Nat} (h : Within C s₀ s) (may : Ok.mintCookies C) : Within C s₀ (s.mintCookies m slot) := by
  obtain ⟨done, drbg, minted⟩ := may
  unfold State.mintCookies
  dsimp only
  split
  · exact h.keyDone done
  · exact h.keyDone done
  · refine .ite (h.keyDone done) (.keyDone (.bumpBy (.putBuf ?_) minted) done)
    exact List.foldlRecOn (motive := fun r : List Word × State => Within C s₀ r.2) _ _ h fun _ hr _ _ => hr.drbg drbg

abbrev Ok.keyExec (C : Cap) : Prop := Ok.writePend C ∧ Ok.startCommit C ∧ Ok.bumpBy C R.KEY_MINTED_COUNT ∧ Ok.keyLoadAll C

theorem Within.keyExec {c : KeyCmd} (h : Within C s₀ s) (may : Ok.keyExec C) : Within C s₀ (s.keyExec c) := by
  obtain ⟨mayPend, commit, minted, load⟩ := may
  obtain ⟨mayPut, mayDone⟩ := id mayPend
  have drbg : Ok.drbg C := commit.2.2
  have done : ∀ m st, Within C s₀ (s.keyDone m st) := fun _ _ => h.keyDone mayDone
  have put : ∀ m st slot x, Within C s₀ ((s.putSlotK slot x).keyDone m st) := fun _ _ _ _ => (h.putSlotK mayPut).keyDone mayDone
  have pend : ∀ m slot key, Within C s₀ (s.writePend m slot key) := fun _ _ _ => h.writePend mayPend
  unfold State.keyExec
  dsimp only
  refine .ite (done _ _) (.ite (done _ _) (.ite (done _ _) ?_))
  split
  · exact .ite (done _ _) (.ite (done _ _) (put _ _ _ _))
  · split
    · exact (h.drbg drbg).writePend mayPend
    · exact done _ _
  · refine .ite (done _ _) (.ite ?_ ?_)
    · split
      · exact pend _ _ _
      · exact done _ _
    · split
      · exact pend _ _ _
      · exact done _ _
  · exact .ite (done _ _) (.ite (done _ _) (pend _ _ _))
  · refine .ite (done _ _) ?_
    split
    · exact done _ _
    · split
      · exact .ite (pend _ _ _) (done _ _)
      · exact done _ _
  · split
    · exact done _ _
    · exact .ite (put _ _ _ _) (put _ _ _ _)
  · exact h.startCommit commit
  · exact put _ _ _ _
  · exact .ite (put _ _ _ _) (done _ _)
  · exact h.startErase commit
  · exact h.mintCookies ⟨mayDone, drbg, minted⟩
  · exact .ite (done _ _) (.ite (done _ _) ((h.keyLoadAll load).keyDone mayDone))
  · exact done _ _

abbrev Can.keyRun (C : Cap) : Bool := decide (C (.part .key) = true ∧ Ok.keyExec C)

abbrev Ok.keyRun (C : Cap) : Prop := Can.keyRun C = true

theorem Within.keyRun {l : List KeyCmd} (h : Within C s₀ s) (may : Ok.keyRun C) : Within C s₀ (s.keyRun l) := by
  induction l generalizing s with
  | nil => exact h.updKey (of_decide_eq_true may).1
  | cons c l ih => exact .ite (h.updKey (of_decide_eq_true may).1) (ih (h.keyExec (of_decide_eq_true may).2))

abbrev Ok.lcyDone (C : Cap) : Prop := Ok.set C R.LCY_CMD_STATUS ∧ Ok.raise C P.LCY

theorem Within.lcyDone {st : ℕ} (h : Within C s₀ s) (may : Ok.lcyDone C) : Within C s₀ (State.lcyDone s st) :=
  ((h.set may.1).raise may.2)

abbrev Ok.attDone (C : Cap) : Prop := Ok.set C R.ATT_CMD_STATUS ∧ Ok.raise C P.ATT

theorem Within.attDone {st : ℕ} (h : Within C s₀ s) (may : Ok.attDone C) : Within C s₀ (State.attDone s st) :=
  ((h.set may.1).raise may.2)

abbrev Ok.attest (C : Cap) : Prop := C (.part .key) = true ∧ Ok.set C R.ATT_OUT_IDX_IDX ∧ Ok.bump C R.ATT_STATEMENTS_COUNT ∧ Ok.attDone C

theorem Within.attest {now : ℕ} (h : Within C s₀ s) (may : Ok.attest C) : Within C s₀ (State.attest s now) :=
  ((((h.updKey may.1).set may.2.1).bump may.2.2.1).attDone may.2.2.2)

abbrev Ok.setRej (C : Cap) : Prop := Ok.set C R.VOTE_CMD_STATUS

theorem Within.setRej {v : ℤ} {st : ℕ} (h : Within C s₀ s) (may : Ok.setRej C) : Within C s₀ (State.setRej s v st) :=
  (h.set may).trig

abbrev Ok.showStepPend (C : Cap) : Prop := Ok.setFlag C R.VOTE_STATUS_STEP_PEND

theorem Within.showStepPend (h : Within C s₀ s) (may : Ok.showStepPend C) : Within C s₀ (State.showStepPend s) :=
  (h.setFlag may)

abbrev Ok.stepRej (C : Cap) : Prop := Ok.raise C P.VOTE

theorem Within.stepRej {amount : ℤ} (h : Within C s₀ s) (may : Ok.stepRej C) : Within C s₀ (State.stepRej s amount) :=
  (h.raise may).trig

abbrev Ok.dropHostSteps (C : Cap) : Prop := C (.part .ax) = true ∧ Ok.stepRej C ∧ Ok.showStepPend C

theorem Within.dropHostSteps (h : Within C s₀ s) (may : Ok.dropHostSteps C) : Within C s₀ (State.dropHostSteps s) :=
  .showStepPend (.foldl (h.updAx may.1 (by rfl)) fun _ _ _ h1 => (h1.stepRej may.2.1)) may.2.2

abbrev Ok.showDisc (C : Cap) : Prop := Ok.setFlag C R.VOTE_OSC_STAT_DISC ∧ Ok.setFlag C R.BOOT_STAGE_STEADY_LOST

theorem Within.showDisc (h : Within C s₀ s) (may : Ok.showDisc C) : Within C s₀ (State.showDisc s) :=
  .bind (h.setFlag may.1) fun h1 => .ite (h1.setFlag may.2) h1

abbrev Can.setCell (C : Cap) : Bool := decide (Ok.setEfc C ∧ Ok.set C R.VOTE_OSC_STAT_CELL_STATE ∧ Ok.raise C P.VOTE ∧ C (.part .osc) = true ∧ Ok.setFlag C R.VOTE_OSC_STAT_CELL_LOCK ∧ Ok.level C P.VOTE ∧ Ok.showDisc C ∧ Ok.lineSet C)

abbrev Ok.setCell (C : Cap) : Prop := Can.setCell C = true

theorem Within.setCell {st : ℕ} (h : Within C s₀ s) (may : Ok.setCell C) : Within C s₀ (State.setCell s st) :=
  .ite h (.bind (.raise (.set (.ite (h.setEfc (of_decide_eq_true may).1) h) (of_decide_eq_true may).2.1) (of_decide_eq_true may).2.2.1) fun h1 => .bind (.ite (h1.updOsc (of_decide_eq_true may).2.2.2.1) h1) fun h2 => .bind (.ite ((h2.setFlag (of_decide_eq_true may).2.2.2.2.1).level (of_decide_eq_true may).2.2.2.2.2.1) h2) fun h3 => ((h3.showDisc (of_decide_eq_true may).2.2.2.2.2.2.1).lineSet (of_decide_eq_true may).2.2.2.2.2.2.2).oscRec)

abbrev Ok.hostStep (C : Cap) : Prop := Ok.stepRej C ∧ C (.part .ax) = true ∧ Ok.showStepPend C

theorem Within.hostStep {d : ℤ} (h : Within C s₀ s) (may : Ok.hostStep C) : Within C s₀ (State.hostStep s d) :=
  .ite (h.stepRej may.1) ((h.updAx may.2.1 (by rfl)).showStepPend may.2.2)

abbrev Ok.writeS72 (C : Cap) (a : ℕ) : Prop := Ok.wrS C a

theorem Within.writeS72 {m : Master} {a : ℕ} {low : Word} (h : Within C s₀ s) (may : Ok.writeS72 C a) : Within C s₀ (State.writeS72 s m a low) :=
  (h.wrS may).clearStaged

abbrev Ok.setLeapPend (C : Cap) : Prop := Ok.setFlag C R.VOTE_STATUS_LEAP_PEND ∧ Ok.level C P.VOTE

theorem Within.setLeapPend {b : Bool} (h : Within C s₀ s) (may : Ok.setLeapPend C) : Within C s₀ (State.setLeapPend s b) :=
  .ite h ((h.setFlag may.1).level may.2)

abbrev Ok.leapKind (C : Cap) : Prop := Ok.raise C P.VOTE ∧ Ok.set C R.VOTE_LEAP_CTRL_KIND ∧ Ok.setLeapPend C

theorem Within.leapKind {k : ℕ} (h : Within C s₀ s) (may : Ok.leapKind C) : Within C s₀ (State.leapKind s k) :=
  .ite (h.raise may.1) (.ite ((h.set may.2.1).setLeapPend may.2.2) (h.set may.2.1))

abbrev Ok.putSlot (C : Cap) : Prop := C (.part .sel) = true

theorem Within.putSlot {k : ℕ} {c : CandSlot} (h : Within C s₀ s) (may : Ok.putSlot C) : Within C s₀ (State.putSlot s k c) :=
  (h.updSel may)

abbrev Ok.wtrEnd (C : Cap) (k : ℕ) : Prop := Ok.set C (R.CAND_STATUS_WTR_RUN k) ∧ Ok.set C (R.CAND_WTR_LEFT_S k) ∧ Ok.putSlot C ∧ Ok.raise C (P.CAND k)

theorem Within.wtrEnd {k : ℕ} (h : Within C s₀ s) (may : Ok.wtrEnd C k) : Within C s₀ (State.wtrEnd s k) :=
  .bind ((h.set may.1).set may.2.1) fun h1 => ((h1.putSlot may.2.2.1).raise may.2.2.2)

abbrev Can.sendFeed (C : Cap) : Bool := decide (C (.part .srv) = true ∧ Ok.cores C ∧ C (.part .cores) = true ∧ Ok.setImgs C)

abbrev Ok.sendFeed (C : Cap) : Prop := Can.sendFeed C = true

theorem Within.sendFeed {f : FeedSample} (h : Within C s₀ s) (may : Ok.sendFeed C) : Within C s₀ (State.sendFeed s f) :=
  .ite (.perCore h (fun _ h1 => (h1.updSrv (of_decide_eq_true may).1)) (of_decide_eq_true may).2.1) ((h.updCores (of_decide_eq_true may).2.2.1).setImgs (of_decide_eq_true may).2.2.2)

abbrev Ok.surveyClear (C : Cap) : Prop := C (.part .gns) = true ∧ Ok.set C R.GNS_STATUS_POS ∧ Ok.set C R.GNS_SURVEY_LEFT_S

theorem Within.surveyClear (h : Within C s₀ s) (may : Ok.surveyClear C) : Within C s₀ (State.surveyClear s) :=
  (((h.updGns may.1).set may.2.1).set may.2.2)

theorem Within.dugRec {ev : Option ℕ} {n : ℕ} (h : Within C s₀ s) : Within C s₀ (State.dugRec s ev n) := by
  unfold State.dugRec
  extract_lets _
  split
  · exact h.trig
  · exact h.takeFree.trig

abbrev Ok.startHandover (C : Cap) : Prop := (C (.part .dug) = true ∧ C (.part .reins) = true) ∧ Ok.wrT C R.DUG_LEASE_END ∧ Ok.dugSendAll C

theorem Within.startHandover {n : Nat} {now : Int} (h : Within C s₀ s) (may : Ok.startHandover C) : Within C s₀ (State.startHandover s n now) := by
  unfold State.startHandover
  extract_lets _ _ t
  have ht : Within C s₀ t := h.updDug may.1
  clear_value t
  exact ((ht.wrT may.2.1).dugSendAll may.2.2).dugRec

abbrev Ok.abortFrame (C : Cap) : Prop := Ok.putSwFrame C ∧ C (.part .sw) = true

theorem Within.abortFrame {f : SwFrame} (h : Within C s₀ s) (may : Ok.abortFrame C) : Within C s₀ (State.abortFrame s f) := by
  unfold State.abortFrame
  extract_lets _
  split
  · exact h
  · extract_lets _ t1 _
    have h1 : Within C s₀ t1 := (h.putSwFrame may.1)
    clear_value t1
    exact (h1.updSw may.2)

abbrev Ok.abortInput (C : Cap) : Prop := Ok.abortFrame C ∧ Ok.putCoach C

theorem Within.abortInput {c : ℕ} (h : Within C s₀ s) (may : Ok.abortInput C) : Within C s₀ (State.abortInput s c) :=
  .putCoach (.foldl h fun _ _ _ h1 => (h1.abortFrame may.1)) may.2

abbrev Can.resetCoach (C : Cap) : Bool := decide (Ok.abortInput C ∧ Ok.unpin C ∧ C (.part .boot) = true ∧ C (.part .tic) = true ∧ C (.part .teb) = true ∧ C (.part .pipe) = true ∧ C (.part .shunt) = true)

abbrev Ok.resetCoach (C : Cap) : Prop := Can.resetCoach C = true

theorem Within.resetCoach {c : ℕ} (h : Within C s₀ s) (may : Ok.resetCoach C) : Within C s₀ (State.resetCoach s c) :=
  .bind (.foldl (h.abortInput (of_decide_eq_true may).1) fun _ _ _ h1 => (h1.unpin (of_decide_eq_true may).2.1)) fun h1 => (h1.updBootTicTebPipeShunt (of_decide_eq_true may).2.2.1 (of_decide_eq_true may).2.2.2.1 (of_decide_eq_true may).2.2.2.2.1 (of_decide_eq_true may).2.2.2.2.2.1 (of_decide_eq_true may).2.2.2.2.2.2)

abbrev Can.resetPart (C : Cap) : Bool := decide (C (.part .isl) = true ∧ C (.part .gen) = true ∧ C (.part .shunt) = true ∧ C (.part .prove) = true ∧ C (.part .dma) = true ∧ Ok.putImg C ∧ C (.part .cores) = true ∧ Ok.showCore C ∧ (C (.part .ax) = true ∧ C (.part .mark) = true) ∧ C (.part .tri) = true ∧ Ok.lineOn C ∧ C (.part .osc) = true ∧ C (.part .sel) = true ∧ C (.part .out) = true ∧ C (.part .tic) = true ∧ C (.part .teb) = true ∧ (C (.part .dug) = true ∧ C (.part .reins) = true) ∧ C (.part .gns) = true ∧ Ok.resetCoach C ∧ C (.part .sw) = true ∧ C (.part .clt) = true ∧ C (.part .key) = true)

abbrev Ok.resetPart (C : Cap) : Prop := Can.resetPart C = true

theorem Within.resetPart {i : ℕ} (h : Within C s₀ s) (may : Ok.resetPart C) : Within C s₀ (State.resetPart s i) :=
  .ite (h.updIslHostGenShuntProveDma (of_decide_eq_true may).1 (of_decide_eq_true may).2.1 (of_decide_eq_true may).2.2.1 (of_decide_eq_true may).2.2.2.1 (of_decide_eq_true may).2.2.2.2.1) (.ite (.bind (h.putImg (of_decide_eq_true may).2.2.2.2.2.1) fun h1 => (h1.updCores (of_decide_eq_true may).2.2.2.2.2.2.1)) (.ite (.bind (h.showCore (of_decide_eq_true may).2.2.2.2.2.2.2.1) fun h1 => (h1.updMarksTri (of_decide_eq_true may).2.2.2.2.2.2.2.2.1 (of_decide_eq_true may).2.2.2.2.2.2.2.2.2.1)) (.ite (.bind (.ite (h.lineOn (of_decide_eq_true may).2.2.2.2.2.2.2.2.2.2.1) h) fun h1 => (h1.updOscSelOutTicTebDug (of_decide_eq_true may).2.2.2.2.2.2.2.2.2.2.2.1 (of_decide_eq_true may).2.2.2.2.2.2.2.2.2.2.2.2.1 (of_decide_eq_true may).2.2.2.2.2.2.2.2.2.2.2.2.2.1 (of_decide_eq_true may).2.2.2.2.2.2.2.2.2.2.2.2.2.2.1 (of_decide_eq_true may).2.2.2.2.2.2.2.2.2.2.2.2.2.2.2.1 (of_decide_eq_true may).2.2.2.2.2.2.2.2.2.2.2.2.2.2.2.2.1)) (.ite (h.updGns (of_decide_eq_true may).2.2.2.2.2.2.2.2.2.2.2.2.2.2.2.2.2.1) (.ite (h.resetCoach (of_decide_eq_true may).2.2.2.2.2.2.2.2.2.2.2.2.2.2.2.2.2.2.1) (.ite (h.updSwClt (of_decide_eq_true may).2.2.2.2.2.2.2.2.2.2.2.2.2.2.2.2.2.2.2.1 (of_decide_eq_true may).2.2.2.2.2.2.2.2.2.2.2.2.2.2.2.2.2.2.2.2.1) (.ite (h.updKey (of_decide_eq_true may).2.2.2.2.2.2.2.2.2.2.2.2.2.2.2.2.2.2.2.2.2) h)))))))

abbrev Ok.showFences (C : Cap) : Prop := Ok.level C P.GEN ∧ Ok.lineSet C

theorem Within.showFences (h : Within C s₀ s) (may : Ok.showFences C) : Within C s₀ (State.showFences s) :=
  .lineSet (.ite h (h.level may.1)) may.2

abbrev Ok.healIsland (C : Cap) : Prop := C (.part .isl) = true ∧ Ok.healLinks C

theorem Within.healIsland {i : ℕ} (h : Within C s₀ s) (may : Ok.healIsland C) : Within C s₀ (State.healIsland s i) :=
  ((h.updIsl may.1).healLinks may.2)

abbrev Ok.endDual (C : Cap) : Prop := Ok.set C R.DUG_STATUS_DUAL ∧ Ok.level C P.DUG ∧ Ok.lineOff C

theorem Within.endDual (h : Within C s₀ s) (may : Ok.endDual C) : Within C s₀ (State.endDual s) :=
  .ite (((h.set may.1).level may.2.1).lineOff may.2.2) h

abbrev Ok.showReady (C : Cap) : Prop := Ok.setFlag C R.DUG_STATUS_READY ∧ Ok.raise C P.DUG

theorem Within.showReady (h : Within C s₀ s) (may : Ok.showReady C) : Within C s₀ (State.showReady s) :=
  .ite h ((h.setFlag may.1).raise may.2)

abbrev Ok.showFollow (C : Cap) : Prop := Ok.setFlag C R.DUG_STATUS_FOLLOW ∧ C (.part .srv) = true ∧ Ok.cores C ∧ C (.part .dug) = true

theorem State.perCore_dug (s : State) (m : State → State) (keeps : ∀ u, (m u).dug = u.dug) : (s.perCore m).dug = s.dug := by
  unfold State.perCore
  split
  · exact keeps s
  · exact keeps s

theorem Within.showFollow (h : Within C s₀ s) (may : Ok.showFollow C) : Within C s₀ (State.showFollow s) :=
  .ite h (.bind (h.setFlag may.1) fun h1 => .ite (.bind (.perCore h1 (fun _ h2 => (h2.updSrv may.2.1)) may.2.2.1) fun h2 =>
    (h2.updPeers may.2.2.2 (by rw [State.perCore_dug]; exacts [rfl, fun _ => rfl]))) h1)

abbrev Can.setRole (C : Cap) : Bool := decide (Ok.set C R.DUG_STATUS_ROLE ∧ Ok.lineSet C ∧ Ok.set C R.DUG_STATUS_HOLDER_AT ∧ Ok.endDual C ∧ Ok.raise C P.DUG ∧ Ok.showFollow C ∧ Ok.showReady C)

abbrev Ok.setRole (C : Cap) : Prop := Can.setRole C = true

theorem Within.setRole {r : ℕ} (h : Within C s₀ s) (may : Ok.setRole C) : Within C s₀ (State.setRole s r) :=
  .ite h (.bind ((h.set (of_decide_eq_true may).1).lineSet (of_decide_eq_true may).2.1) fun h1 => .bind (.ite (h1.set (of_decide_eq_true may).2.2.1) (h1.endDual (of_decide_eq_true may).2.2.2.1)) fun h2 => .showReady (.showFollow (.trig (.raise (.takeFree (.takeFree (.ite (h2.set (of_decide_eq_true may).2.2.1) h2))) (of_decide_eq_true may).2.2.2.2.1)) (of_decide_eq_true may).2.2.2.2.2.1) (of_decide_eq_true may).2.2.2.2.2.2)

abbrev Ok.takeMoves (C : Cap) (o : ℕ) : Prop := Ok.putOut C ∧ Ok.setMisalign C o

theorem Within.takeMoves {o : ℕ} {room : ℤ} (h : Within C s₀ s) (may : Ok.takeMoves C o) : Within C s₀ (State.takeMoves s o room) :=
  .bind (h.putOut may.1) fun h1 => (h1.setMisalign may.2)

theorem Within.stageRec {old : State} (h : Within C s₀ s) : Within C s₀ (State.stageRec s old) :=
  h.trig

abbrev Ok.enterStage (C : Cap) : Prop := Ok.set C R.BOOT_STAGE_STAGE ∧ Ok.raise C P.BOOT

theorem Within.enterStage {n : ℕ} (h : Within C s₀ s) (may : Ok.enterStage C) : Within C s₀ (State.enterStage s n) :=
  ((h.set may.1).raise may.2).stageRec

abbrev Ok.refuseFld (C : Cap) (f : Fld) : Prop := Ok.set C f ∧ Ok.raise C (Fld.slot f / 512)

theorem Within.refuseFld {old : Store} {f : Fld} {bad : Bool} {evt : Option ℕ} (h : Within C s₀ s) (may : Ok.refuseFld C f) : Within C s₀ (State.refuseFld s old f bad evt) := by
  unfold State.refuseFld
  refine .ite ?_ ?_
  · exact h
  · extract_lets t1
    have h1 : Within C s₀ t1 := (h.set may.1)
    clear_value t1
    split
    · exact (h1.raise may.2)
    · exact h1

abbrev Ok.fcCommit (C : Cap) (p : ℕ) : Prop := Ok.setFlag C (R.PRT_STATUS_FC_REFUSED p) ∧ Ok.putPort C ∧ Ok.raiseIf C (P.PRT p)

theorem Within.fcCommit {p : ℕ} (h : Within C s₀ s) (may : Ok.fcCommit C p) : Within C s₀ (State.fcCommit s p) :=
  (((h.setFlag may.1).putPort may.2.1).raiseIf may.2.2)

abbrev Can.goDown (C : Cap) (p : ℕ) : Bool := decide (Ok.cutTx C p ∧ Ok.flushPort C p ∧ Ok.bump C (R.PRT_LINK_DOWNS_COUNT p) ∧ Ok.setLink C p ∧ Ok.set C (R.PRT_STATUS_FEC_LOCK p) ∧ Ok.setFlag C (R.PRT_STATUS_TRAINING p))

abbrev Ok.goDown (C : Cap) (p : ℕ) : Prop := Can.goDown C p = true

theorem Within.goDown {p : ℕ} {cut : List TxRef} (h : Within C s₀ s) (may : Ok.goDown C p) : Within C s₀ (State.goDown s p cut) :=
  .bind (.ite (.bump (.flushPort (.foldl h fun _ _ _ h1 => (h1.cutTx (of_decide_eq_true may).1)) (of_decide_eq_true may).2.1) (of_decide_eq_true may).2.2.1) h) fun h1 => .bind ((h1.setLink (of_decide_eq_true may).2.2.2.1).set (of_decide_eq_true may).2.2.2.2.1) fun h2 => (h2.setFlag (of_decide_eq_true may).2.2.2.2.2)

abbrev Can.portCommit (C : Cap) (p : ℕ) : Bool := decide (Ok.fcCommit C p ∧ Ok.goOff C p ∧ Ok.goDown C p ∧ C (.part .boot) = true)

abbrev Ok.portCommit (C : Cap) (p : ℕ) : Prop := Can.portCommit C p = true

theorem Within.portCommit {old : State} {p : ℕ} {cuts : List TxRef} (h : Within C s₀ s) (may : Ok.portCommit C p) : Within C s₀ (State.portCommit s old p cuts) :=
  .bind (h.fcCommit (of_decide_eq_true may).1) fun h1 => .ite (.ite h1 (h1.goOff (of_decide_eq_true may).2.1)) (.ite (.bind (h1.goDown (of_decide_eq_true may).2.2.1) fun h2 => (h2.updBoot (of_decide_eq_true may).2.2.2)) (.ite (h1.goDown (of_decide_eq_true may).2.2.1) h1))

abbrev Ok.commitPort (C : Cap) (p : ℕ) : Prop := Ok.refuseFld C (R.PRT_FRAME_MAX_BYTES p) ∧ Ok.portCommit C p

theorem Within.commitPort {old : Store} {cuts : List (ℕ × TxRef)} {p : ℕ} (h : Within C s₀ s) (may : Ok.commitPort C p) : Within C s₀ (State.commitPort s old cuts p) :=
  .bind (h.refuseFld may.1) fun h1 => (h1.portCommit may.2)

abbrev Ok.setGear (C : Cap) (c : ℕ) : Prop := Ok.putCoach C ∧ Ok.set C (R.CO_GEAR_NOW_GEAR c) ∧ Ok.raise C (P.CO c) ∧ Ok.bump C (R.CO_GEAR_UPS_COUNT c) ∧ Ok.bump C (R.CO_GEAR_DOWNS_COUNT c)

theorem Within.setGear {c : ℕ} {g : ℕ} (h : Within C s₀ s) (may : Ok.setGear C c) : Within C s₀ (State.setGear s c g) :=
  .ite h ((((h.putCoach may.1).set may.2.1).raise may.2.2.1).bump (Ok.ite may.2.2.2.1 may.2.2.2.2))

abbrev Ok.clampGear (C : Cap) (c : ℕ) : Prop := Ok.setGear C c

theorem Within.clampGear {c : ℕ} (h : Within C s₀ s) (may : Ok.clampGear C c) : Within C s₀ (State.clampGear s c) :=
  (h.setGear may)

abbrev Can.commitCoach (C : Cap) (c : ℕ) : Bool := decide (Ok.refuseFld C (R.CO_GEAR_CTRL_MIN c) ∧ Ok.refuseFld C (R.CO_GEAR_CTRL_MAX c) ∧ (∀ i : Nat, i < 4 → Ok.refuseFld C (R.CO_MC_CFG_TRANSPORT c i)) ∧ (∀ i : Nat, i < 4 → Ok.refuseFld C (R.CO_UP_CFG_TRANSPORT c i)) ∧ Ok.clampGear C c ∧ Ok.set C (R.CO_LEAD_MIN_NS c))

abbrev Ok.commitCoach (C : Cap) (c : ℕ) : Prop := Can.commitCoach C c = true

theorem Within.commitCoach {old : Store} {c : ℕ} (h : Within C s₀ s) (may : Ok.commitCoach C c) : Within C s₀ (State.commitCoach s old c) :=
  .bind (h.refuseFld (of_decide_eq_true may).1) fun h1 => .bind (.foldl (h1.refuseFld (of_decide_eq_true may).2.1) fun _ m0 _ h2 => .bind (h2.refuseFld ((of_decide_eq_true may).2.2.1 _ (List.mem_range.1 m0))) fun h3 => (h3.refuseFld ((of_decide_eq_true may).2.2.2.1 _ (List.mem_range.1 m0)))) fun h2 => ((h2.clampGear (of_decide_eq_true may).2.2.2.2.1).set (of_decide_eq_true may).2.2.2.2.2)

abbrev Can.commitCoaches (C : Cap) : Bool := decide ((∀ i : Nat, i < 6 → Ok.commitCoach C i) ∧ (∀ i : Nat, i < 6 → ∀ i1 : Nat, i1 < 4 → Ok.commitPort C (4 * i + i1)))

abbrev Ok.commitCoaches (C : Cap) : Prop := Can.commitCoaches C = true

theorem Within.commitCoaches {old : Store} {cuts : List (ℕ × TxRef)} {mask : ℕ} (h : Within C s₀ s) (may : Ok.commitCoaches C) : Within C s₀ (State.commitCoaches s old cuts mask) :=
  .foldl h fun _ m0 _ h1 => .ite h1 (.foldl (h1.commitCoach ((of_decide_eq_true may).1 _ (List.mem_range.1 m0))) fun _ m1 _ h2 => (h2.commitPort ((of_decide_eq_true may).2 _ (List.mem_range.1 m0) _ (List.mem_range.1 m1))))

abbrev Ok.commitPolicy (C : Cap) (a : ℕ) : Prop := Ok.wr C a

theorem Within.commitPolicy {old : Store} {a : ℕ} {logMin : Fld} {logMax : Fld} {durMin : Fld} {durMax : Fld} (h : Within C s₀ s) (may : Ok.commitPolicy C a) : Within C s₀ (State.commitPolicy s old a logMin logMax durMin durMax) :=
  .ite (h.wr may) h

abbrev Ok.commitPolicies (C : Cap) : Prop := Ok.commitPolicy C R.CLT_POL_ANN ∧ Ok.commitPolicy C R.CLT_POL_SYNC ∧ Ok.commitPolicy C R.CLT_POL_DRESP

theorem Within.commitPolicies {old : Store} (h : Within C s₀ s) (may : Ok.commitPolicies C) : Within C s₀ (State.commitPolicies s old) :=
  (((h.commitPolicy may.1).commitPolicy may.2.1).commitPolicy may.2.2)

abbrev Ok.dugRefuse (C : Cap) (f : Fld) : Prop := Ok.set C f ∧ Ok.raise C P.DUG

theorem Within.dugRefuse {old : Store} {f : Fld} {bad : Bool} (h : Within C s₀ s) (may : Ok.dugRefuse C f) : Within C s₀ (State.dugRefuse s old f bad) :=
  .ite ((h.set may.1).raise may.2) h

abbrev Ok.linkOff (C : Cap) (n : ℕ) : Prop := Ok.set C (R.DUG_PEER_STAT_HB_OK n) ∧ Ok.set C (R.DUG_PEER_STAT_LANE0_UP n) ∧ Ok.set C (R.DUG_PEER_STAT_LANE1_UP n) ∧ Ok.lineOff C ∧ Ok.putPeer C

theorem Within.linkOff {n : ℕ} (h : Within C s₀ s) (may : Ok.linkOff C n) : Within C s₀ (State.linkOff s n) :=
  (((((h.set may.1).set may.2.1).set may.2.2.1).lineOff may.2.2.2.1).putPeer may.2.2.2.2)

abbrev Ok.showHeart (C : Cap) : Prop := Ok.set C R.DUG_STATUS_HB_OK ∧ Ok.set C R.DUG_STATUS_VOTERS

theorem Within.showHeart (h : Within C s₀ s) (may : Ok.showHeart C) : Within C s₀ (State.showHeart s) :=
  .bind (h.set may.1) fun h1 => (h1.set may.2)

abbrev Can.commitDug (C : Cap) : Bool := decide (Ok.dugRefuse C R.DUG_CFG_SIZE ∧ Ok.dugRefuse C R.DUG_LEASE_MS ∧ Ok.dugRefuse C R.DUG_LEASE_RENEW_MS ∧ (∀ i : Nat, i < 2 → Ok.linkOff C i) ∧ (C (.part .dug) = true ∧ C (.part .reins) = true) ∧ Ok.wrT C R.DUG_LEASE_END ∧ Ok.set C R.DUG_STATUS_HOLDER_AT ∧ Ok.setRole C ∧ Ok.showHeart C ∧ Ok.showFollow C ∧ Ok.showReady C)

abbrev Ok.commitDug (C : Cap) : Prop := Can.commitDug C = true

theorem Within.commitDug {old : Store} (h : Within C s₀ s) (may : Ok.commitDug C) : Within C s₀ (State.commitDug s old) :=
  .bind (h.dugRefuse (of_decide_eq_true may).1) fun h1 => .bind (h1.dugRefuse (of_decide_eq_true may).2.1) fun h2 => .bind (.foldl (h2.dugRefuse (of_decide_eq_true may).2.2.1) fun _ m0 _ h3 => .ite h3 (h3.linkOff ((of_decide_eq_true may).2.2.2.1 _ (List.mem_range.1 m0)))) fun h3 => .showReady (.showFollow (.showHeart (.ite h3 (.ite ((((h3.updDug (of_decide_eq_true may).2.2.2.2.1).wrT (of_decide_eq_true may).2.2.2.2.2.1).set (of_decide_eq_true may).2.2.2.2.2.2.1).setRole (of_decide_eq_true may).2.2.2.2.2.2.2.1) (((h3.updDug (of_decide_eq_true may).2.2.2.2.1).set (of_decide_eq_true may).2.2.2.2.2.2.1).setRole (of_decide_eq_true may).2.2.2.2.2.2.2.1))) (of_decide_eq_true may).2.2.2.2.2.2.2.2.1) (of_decide_eq_true may).2.2.2.2.2.2.2.2.2.1) (of_decide_eq_true may).2.2.2.2.2.2.2.2.2.2

abbrev Ok.refuse (C : Cap) (a : ℕ) : Prop := Ok.wr C a

theorem Within.refuse {old : Store} {a : ℕ} (h : Within C s₀ s) (may : Ok.refuse C a) : Within C s₀ (State.refuse s old a) :=
  (h.wr may)

abbrev Can.commitPll (C : Cap) (p : ℕ) : Bool := decide (Ok.refuse C (R.PLL_FREQ p) ∧ Ok.raise C (P.PLL p) ∧ Ok.pllStart C p ∧ Ok.endOutAs C)

abbrev Ok.commitPll (C : Cap) (p : ℕ) : Prop := Can.commitPll C p = true

theorem Within.commitPll {old : Store} {p : ℕ} (h : Within C s₀ s) (may : Ok.commitPll C p) : Within C s₀ (State.commitPll s old p) :=
  .bind (.ite ((h.refuse (of_decide_eq_true may).1).raise (of_decide_eq_true may).2.1) h) fun h1 => .ite (h1.pllStart (of_decide_eq_true may).2.2.1) (.ite h1 (.bind (.foldl h1 fun _ _ _ h2 => (h2.endOutAs (of_decide_eq_true may).2.2.2)) fun h2 => .ite h2 (h2.pllStart (of_decide_eq_true may).2.2.1)))

abbrev Ok.commitPulse (C : Cap) (n : ℕ) : Prop := Ok.raise C P.OUT ∧ Ok.refuse C (R.OUT_PULSE_FRAME n) ∧ Ok.refuse C (R.OUT_PULSE_WIDTH n) ∧ Ok.refuse C (R.OUT_PULSE_PERIOD n) ∧ Ok.endOutAs C

theorem Within.commitPulse {old : Store} {n : ℕ} (h : Within C s₀ s) (may : Ok.commitPulse C n) : Within C s₀ (State.commitPulse s old n) :=
  .bind (.ite h (.bind (h.raise may.1) fun h1 => .bind (h1.refuse may.2.1) fun h2 => .bind (h1.refuse may.2.2.1) fun h3 => .bind (h2.refuse may.2.2.1) fun h4 => .ite h2 (.ite h3 (.ite h4 (h4.refuse may.2.2.2.1))))) fun h1 => .ite (h1.endOutAs may.2.2.2.2) h1

abbrev Can.commitClk (C : Cap) (n : ℕ) : Bool := decide (Ok.changeSrc C n ∧ Ok.showBypass C ∧ Ok.toBypass C n ∧ Ok.endOutAs C)

abbrev Ok.commitClk (C : Cap) (n : ℕ) : Prop := Can.commitClk C n = true

theorem Within.commitClk {old : Store} {n : ℕ} (h : Within C s₀ s) (may : Ok.commitClk C n) : Within C s₀ (State.commitClk s old n) :=
  .ite h (.ite (.ite h (.ite ((h.changeSrc (of_decide_eq_true may).1).showBypass (of_decide_eq_true may).2.1) (h.toBypass (of_decide_eq_true may).2.2.1))) (h.endOutAs (of_decide_eq_true may).2.2.2))

abbrev Can.commitComp (C : Cap) (o : ℕ) : Bool := decide (Ok.setS C (R.OUT_CLK_COMP_PS o) ∧ Ok.setS C (R.OUT_PULSE_COMP_PS (o - 4)) ∧ Ok.raise C P.OUT ∧ Ok.putOut C ∧ Ok.takeMoves C o)

abbrev Ok.commitComp (C : Cap) (o : ℕ) : Prop := Can.commitComp C o = true

theorem Within.commitComp {old : Store} {o : ℕ} (h : Within C s₀ s) (may : Ok.commitComp C o) : Within C s₀ (State.commitComp s old o) :=
  .bind (.ite h ((h.setS (Ok.ite (of_decide_eq_true may).1 (of_decide_eq_true may).2.1)).raise (of_decide_eq_true may).2.2.1)) fun h1 => .ite h1 (.bind (h1.putOut (of_decide_eq_true may).2.2.2.1) fun h2 => .ite (h2.takeMoves (of_decide_eq_true may).2.2.2.2) h2)

abbrev Ok.showSquelch (C : Cap) : Prop := Ok.putOut C

theorem Within.showSquelch (h : Within C s₀ s) (may : Ok.showSquelch C) : Within C s₀ (State.showSquelch s) :=
  .foldl h fun _ _ _ h1 => .ite (h1.putOut may) (.ite (h1.putOut may) h1)

abbrev Ok.commitEn (C : Cap) (o : ℕ) : Prop := Ok.endOutAs C ∧ Ok.set C (outDrv o) ∧ Ok.lineOff C ∧ Ok.putOut C

theorem Within.commitEn {old : Store} {o : ℕ} (h : Within C s₀ s) (may : Ok.commitEn C o) : Within C s₀ (State.commitEn s old o) :=
  .ite h (.ite (h.endOutAs may.1) (.ite (((h.set may.2.1).lineOff may.2.2.1).putOut may.2.2.2) h))

abbrev Can.commitOutputs (C : Cap) : Bool := decide ((∀ i : Nat, i < 4 → Ok.commitPll C i) ∧ (∀ i : Nat, i < 4 → Ok.commitPulse C i) ∧ (∀ i : Nat, i < 4 → Ok.commitClk C i) ∧ (∀ i : Nat, i < 8 → Ok.commitComp C i) ∧ (∀ i : Nat, i < 8 → Ok.commitEn C i) ∧ Ok.showSquelch C)

abbrev Ok.commitOutputs (C : Cap) : Prop := Can.commitOutputs C = true

theorem Within.commitOutputs {old : Store} (h : Within C s₀ s) (may : Ok.commitOutputs C) : Within C s₀ (State.commitOutputs s old) :=
  .showSquelch (.foldl (.foldl (.foldl (.foldl (.foldl h fun _ m0 _ h1 => (h1.commitPll ((of_decide_eq_true may).1 _ (List.mem_range.1 m0)))) fun _ m0 _ h1 => (h1.commitPulse ((of_decide_eq_true may).2.1 _ (List.mem_range.1 m0)))) fun _ m0 _ h1 => (h1.commitClk ((of_decide_eq_true may).2.2.1 _ (List.mem_range.1 m0)))) fun _ m0 _ h1 => (h1.commitComp ((of_decide_eq_true may).2.2.2.1 _ (List.mem_range.1 m0)))) fun _ m0 _ h1 => (h1.commitEn ((of_decide_eq_true may).2.2.2.2.1 _ (List.mem_range.1 m0)))) (of_decide_eq_true may).2.2.2.2.2

abbrev Ok.showDiffs (C : Cap) : Prop := (∀ i < 12, Ok.wrS C (R.CAND_DIFF i))

theorem Within.showDiffs (h : Within C s₀ s) (may : Ok.showDiffs C) : Within C s₀ (State.showDiffs s) :=
  .foldl h fun _ m0 _ h1 => .ite h1 (h1.wrS (may _ (List.mem_range.1 m0)))

abbrev Ok.candFresh (C : Cap) (k : ℕ) : Prop := Ok.wrS C (R.CAND_OFFSET k) ∧ Ok.wr C (R.CAND_FREQ k) ∧ Ok.wr C (R.CAND_NOISE k) ∧ Ok.putSlot C

theorem Within.candFresh {k : ℕ} (h : Within C s₀ s) (may : Ok.candFresh C k) : Within C s₀ (State.candFresh s k) :=
  .bind (((h.wrS may.1).wr may.2.1).wr may.2.2.1) fun h1 => (h1.putSlot may.2.2.2)

abbrev Ok.wtrStart (C : Cap) (k : ℕ) : Prop := Ok.wtrEnd C k ∧ Ok.set C (R.CAND_STATUS_WTR_RUN k) ∧ Ok.set C (R.CAND_WTR_LEFT_S k) ∧ Ok.putSlot C

theorem Within.wtrStart {k : ℕ} (h : Within C s₀ s) (may : Ok.wtrStart C k) : Within C s₀ (State.wtrStart s k) :=
  .ite (h.wtrEnd may.1) (((h.set may.2.1).set may.2.2.1).putSlot may.2.2.2)

abbrev Can.candEnter (C : Cap) (k : ℕ) : Bool := decide (Ok.set C (R.CAND_STATUS_WTR_RUN k) ∧ Ok.set C (R.CAND_WTR_LEFT_S k) ∧ Ok.putSlot C ∧ Ok.set C (R.CAND_QUAL_LEFT_S k) ∧ Ok.wtrStart C k)

abbrev Ok.candEnter (C : Cap) (k : ℕ) : Prop := Can.candEnter C k = true

theorem Within.candEnter {k : ℕ} {new : ℕ} (h : Within C s₀ s) (may : Ok.candEnter C k) : Within C s₀ (State.candEnter s k new) :=
  .bind (((h.set (of_decide_eq_true may).1).set (of_decide_eq_true may).2.1).putSlot (of_decide_eq_true may).2.2.1) fun h1 => .ite ((h1.set (of_decide_eq_true may).2.2.2.1).putSlot (of_decide_eq_true may).2.2.1) (.bind (h1.set (of_decide_eq_true may).2.2.2.1) fun h2 => .ite (h2.wtrStart (of_decide_eq_true may).2.2.2.2) h2)

abbrev Ok.setCand (C : Cap) (k : ℕ) : Prop := Ok.set C (R.CAND_STATUS_STATE k) ∧ Ok.set C (R.CAND_STATUS_WHY k) ∧ Ok.bump C (R.CAND_LOSSES_COUNT k) ∧ Ok.candEnter C k ∧ Ok.raise C (P.CAND k)

theorem Within.setCand {k : ℕ} {new : ℕ} {why : ℕ} (h : Within C s₀ s) (may : Ok.setCand C k) : Within C s₀ (State.setCand s k new why) :=
  .ite h (.bind (h.set may.1) fun h1 => .bind (.ite (h1.set may.2.1) h1) fun h2 => .bind (.raise (.candEnter (.ite (h2.bump may.2.2.1) h2) may.2.2.2.1) may.2.2.2.2) fun h3 => h3.trig)

abbrev Can.commitCand (C : Cap) (k : ℕ) : Bool := decide (Ok.raiseIf C (P.CAND k) ∧ Ok.setFlag C (R.CAND_STATUS_BIND_ERR k) ∧ Ok.setFlag C (R.CAND_STATUS_FREQ_KIND k) ∧ Ok.setCand C k ∧ Ok.candFresh C k ∧ Ok.set C (R.CAND_STATUS_WHY k) ∧ Ok.set C (R.CAND_QUAL_LEFT_S k) ∧ Ok.putSlot C)

abbrev Ok.commitCand (C : Cap) (k : ℕ) : Prop := Can.commitCand C k = true

theorem Within.commitCand {old : Store} {errs : List ℕ} {k : ℕ} (h : Within C s₀ s) (may : Ok.commitCand C k) : Within C s₀ (State.commitCand s old errs k) :=
  .bind (h.raiseIf (of_decide_eq_true may).1) fun h1 => .bind ((h1.setFlag (of_decide_eq_true may).2.1).setFlag (of_decide_eq_true may).2.2.1) fun h2 => .ite (.ite h2 ((h2.setCand (of_decide_eq_true may).2.2.2.1).candFresh (of_decide_eq_true may).2.2.2.2.1)) (.ite ((((h2.candFresh (of_decide_eq_true may).2.2.2.2.1).set (of_decide_eq_true may).2.2.2.2.2.1).setCand (of_decide_eq_true may).2.2.2.1).set (of_decide_eq_true may).2.2.2.2.2.2.1) (.ite ((h2.putSlot (of_decide_eq_true may).2.2.2.2.2.2.2).setCand (of_decide_eq_true may).2.2.2.1) h2))

abbrev Can.commitCands (C : Cap) : Bool := decide ((∀ i : Nat, i < 12 → Ok.commitCand C i) ∧ Ok.showDiffs C)

abbrev Ok.commitCands (C : Cap) : Prop := Can.commitCands C = true

theorem Within.commitCands {old : Store} (h : Within C s₀ s) (may : Ok.commitCands C) : Within C s₀ (State.commitCands s old) := by
  unfold State.commitCands
  extract_lets _
  exact .showDiffs (.foldl h fun _ m0 _ h1 => (h1.commitCand ((of_decide_eq_true may).1 _ (List.mem_range.1 m0)))) (of_decide_eq_true may).2

abbrev Ok.commitGns (C : Cap) : Prop := C (.part .boot) = true ∧ C (.part .gns) = true ∧ Ok.showTrack C

theorem Within.commitGns (h : Within C s₀ s) (may : Ok.commitGns C) : Within C s₀ (State.commitGns s) :=
  ((h.updBootGns may.1 may.2.1).showTrack may.2.2)

abbrev Can.commitBlocks (C : Cap) : Bool := decide (Ok.commitCoaches C ∧ Ok.commitPolicies C ∧ Ok.commitCands C ∧ Ok.commitOutputs C ∧ Ok.commitDug C ∧ Ok.commitGns C)

abbrev Ok.commitBlocks (C : Cap) : Prop := Can.commitBlocks C = true

theorem Within.commitBlocks {old : Store} {cuts : List (ℕ × TxRef)} {mask : ℕ} (h : Within C s₀ s) (may : Ok.commitBlocks C) : Within C s₀ (State.commitBlocks s old cuts mask) :=
  .bind (h.commitCoaches (of_decide_eq_true may).1) fun h1 => .bind (.ite (h1.commitPolicies (of_decide_eq_true may).2.1) h1) fun h2 => .bind (.ite (((h2.commitCands (of_decide_eq_true may).2.2.1).commitOutputs (of_decide_eq_true may).2.2.2.1).commitDug (of_decide_eq_true may).2.2.2.2.1) h2) fun h3 => .ite (h3.commitGns (of_decide_eq_true may).2.2.2.2.2) h3

theorem Within.genRec {bit : ℕ} {num : ℕ} {islands : ℕ} (h : Within C s₀ s) : Within C s₀ (State.genRec s bit num islands) :=
  h.trig

abbrev Ok.placeMc (C : Cap) (c : ℕ) : Prop := (∀ i < 4, Ok.set C (mcFld (4 * c + i)))

theorem Within.placeMc {c : ℕ} (h : Within C s₀ s) (may : Ok.placeMc C c) : Within C s₀ (State.placeMc s c) :=
  .foldl h fun _ m0 _ h1 => (h1.set (may _ (List.mem_range.1 m0)))

abbrev Ok.cellMove (C : Cap) : Prop := Ok.setCell C

theorem Within.cellMove {a : ℕ} {b : ℕ} (h : Within C s₀ s) (may : Ok.cellMove C) : Within C s₀ (State.cellMove s a b) :=
  .inRh h (.ite (h.setCell may) h)

abbrev Ok.showClass (C : Cap) : Prop := Ok.set C R.TEB_STATUS_CLASS ∧ Ok.raise C P.TEB

theorem Within.showClass (h : Within C s₀ s) (may : Ok.showClass C) : Within C s₀ (State.showClass s) :=
  .ite h ((h.set may.1).raise may.2)

abbrev Ok.judgeValid (C : Cap) : Prop := Ok.setTimeValid C ∧ Ok.showSquelch C

theorem Within.judgeValid {lim : ℕ} {hyst : ℕ} (h : Within C s₀ s) (may : Ok.judgeValid C) : Within C s₀ (State.judgeValid s lim hyst) :=
  .ite (.ite h ((h.setTimeValid may.1).showSquelch may.2)) (.ite ((h.setTimeValid may.1).showSquelch may.2) h)

abbrev Ok.flushDone (C : Cap) : Prop := Ok.nvPut C ∧ Ok.bumpBy C R.REC_JRN_LOST_COUNT ∧ Ok.showJournal C

theorem Within.flushDone {batches : List (List Word)} (h : Within C s₀ s) (may : Ok.flushDone C) : Within C s₀ (s.flushDone batches) := by
  unfold State.flushDone
  extract_lets done t1
  have h1 : Within C s₀ t1 := .foldl h fun _ _ _ h => h.nvPut may.1
  clear_value t1 done
  split
  · exact h1
  · exact .showJournal (.bumpBy h1.updErec may.2.1) may.2.2

abbrev Ok.flushRecords (C : Cap) : Prop := Ok.flushDone C

theorem Within.flushRecords (h : Within C s₀ s) (may : Ok.flushRecords C) : Within C s₀ (State.flushRecords s) :=
  (h.flushDone may)

theorem Within.holdTrigger {t : Trigger} (h : Within C s₀ s) : Within C s₀ (State.holdTrigger s t) :=
  .ite h.updErec h.updErec

theorem Within.resetRecorder {mask : ℕ} (h : Within C s₀ s) : Within C s₀ (State.resetRecorder s mask) :=
  .foldl h.updErec fun _ _ _ h1 => h1.holdTrigger

abbrev Ok.linkGone (C : Cap) : Prop := Ok.wr C R.PCI_LINK ∧ Ok.raise C P.PCI ∧ Ok.level C P.PCI

theorem Within.linkGone (h : Within C s₀ s) (may : Ok.linkGone C) : Within C s₀ (State.linkGone s) :=
  .ite (((h.wr may.1).raise may.2.1).level may.2.2) h

theorem Within.resetMsix {pf : ℕ} (h : Within C s₀ s) : Within C s₀ (State.resetMsix s pf) :=
  h.updHost

abbrev Ok.endWriting (C : Cap) : Prop := Ok.nvPut C ∧ Ok.putRec C

theorem Within.endWriting {w : NvWrite} (h : Within C s₀ s) (may : Ok.endWriting C) : Within C s₀ (State.endWriting s w) :=
  .ite h (.ite (h.nvPut may.1) (h.putRec may.2))

abbrev Ok.wrFirst (C : Cap) : Prop := Ok.wr C R.FLT_FIRST ∧ Ok.wr C R.FLT_FIRST_MID ∧ Ok.wr C R.FLT_FIRST_LOW

theorem Within.wrFirst {w : List Word} (h : Within C s₀ s) (may : Ok.wrFirst C) : Within C s₀ (State.wrFirst s w) :=
  (((h.wr may.1).wr may.2.1).wr may.2.2)

abbrev Ok.latchLine (C : Cap) : Prop := Ok.wr C R.FLT_LATCH ∧ Ok.wr C R.FLT_NOW ∧ C (.part .flt) = true ∧ Ok.wrFirst C ∧ Ok.bump C R.FLT_MERGED_COUNT ∧ Ok.raise C P.FLT

theorem Within.latchLine {line : ℕ} {inst : ℕ} (h : Within C s₀ s) (may : Ok.latchLine C) : Within C s₀ (State.latchLine s line inst) := by
  unfold State.latchLine
  extract_lets _ _ _ t1 t2 _ t3 t4 t5
  have h1 : Within C s₀ t1 := (h.wr may.1)
  clear_value t1
  have h2 : Within C s₀ t2 := (h1.wr may.2.1)
  clear_value t2
  have h3 : Within C s₀ t3 := (h2.updFlt may.2.2.1 rfl)
  have h4 : Within C s₀ t4 := .ite (h3.wrFirst may.2.2.2.1) ((h3.bump may.2.2.2.2.1).raise may.2.2.2.2.2)
  have h5 : Within C s₀ t5 := (h4.raise may.2.2.2.2.2)
  exact h5.trigAt

abbrev Ok.saveDone (C : Cap) : Prop := C (.part .nvm) = true ∧ Ok.nvPut C ∧ Ok.flushDone C

theorem Within.saveDone (h : Within C s₀ s) (may : Ok.saveDone C) : Within C s₀ (State.saveDone s) := by
  unfold State.saveDone
  split
  · exact h
  · extract_lets _ _ t1
    have h1 : Within C s₀ t1 := ((h.updNvm may.1).nvPut may.2.1)
    exact .ite (h1.flushDone may.2.2) (.foldl h1 fun _ _ _ h2 => (h2.nvPut may.2.1))

abbrev Ok.checkClock (C : Cap) : Prop := C (.part .isl) = true ∧ Ok.set C R.AO_ISLCLK_FAIL_ISLANDS ∧ Ok.bump C R.AO_ISLCLK_EVENTS_COUNT ∧ Ok.raise C P.AO

theorem Within.checkClock {dev : ℤ} {island : ℕ} {r : ClockReading} (h : Within C s₀ s) (may : Ok.checkClock C) : Within C s₀ (State.checkClock s dev island r) :=
  .bind (h.updIsl may.1) fun h1 => .ite h1 (.ite (.ite h1 ((((h1.updIsl may.1).set may.2.1).bump may.2.2.1).raise may.2.2.2)) (.ite (h1.set may.2.1) h1))

abbrev Can.breakLink (C : Cap) : Bool := decide (C (.part .isl) = true ∧ Ok.showBroken C ∧ Ok.raise C P.GLB ∧ Ok.lineOn C ∧ Ok.showServings C)

abbrev Ok.breakLink (C : Cap) : Prop := Can.breakLink C = true

theorem Within.breakLink {l : Link} (h : Within C s₀ s) (may : Ok.breakLink C) : Within C s₀ (State.breakLink s l) :=
  (((((h.updIsl (of_decide_eq_true may).1).showBroken (of_decide_eq_true may).2.1).raise (of_decide_eq_true may).2.2.1).lineOn (of_decide_eq_true may).2.2.2.1).showServings (of_decide_eq_true may).2.2.2.2)

abbrev Ok.freeFeed (C : Cap) : Prop := Ok.putImg C ∧ C (.part .cores) = true

theorem Within.freeFeed {k : ℕ} (h : Within C s₀ s) (may : Ok.freeFeed C) : Within C s₀ (State.freeFeed s k) :=
  .bind (h.putImg may.1) fun h1 => (h1.updCores may.2)

abbrev Ok.axleFault (C : Cap) (r : AxleRegs) : Prop := Ok.bump C (AxleRegs.fault r) ∧ Ok.raise C (AxleRegs.page r) ∧ Ok.pulse C ∧ Ok.putCore C

theorem Within.axleFault {island : ℕ} {r : AxleRegs} (h : Within C s₀ s) (may : Ok.axleFault C r) : Within C s₀ (State.axleFault s island r) :=
  .bind (((h.bump may.1).raise may.2.1).pulse may.2.2.1) fun h1 => .ite (h1.putCore may.2.2.2) h1

abbrev Ok.setCore (C : Cap) (k : ℕ) : Prop := Ok.set C (R.TCORE_STATE_STATE k) ∧ Ok.set C (R.TCORE_STATE_OUT_WHY k) ∧ Ok.raise C (P.TCORE k)

theorem Within.setCore {k : ℕ} {st : ℕ} {why : ℕ} (h : Within C s₀ s) (may : Ok.setCore C k) : Within C s₀ (State.setCore s k st why) :=
  .bind ((h.set may.1).set may.2.1) fun h1 => .ite h1 (h1.raise may.2.2).trig

abbrev Ok.showIn (C : Cap) : Prop := Ok.set C R.VOTE_STATUS_IN ∧ Ok.showCore C

theorem Within.showIn (h : Within C s₀ s) (may : Ok.showIn C) : Within C s₀ (State.showIn s) :=
  ((h.set may.1).showCore may.2)

abbrev Ok.setMode (C : Cap) : Prop := Ok.set C R.VOTE_STATUS_MODE ∧ Ok.raise C P.VOTE

theorem Within.setMode {m : ℕ} (h : Within C s₀ s) (may : Ok.setMode C) : Within C s₀ (State.setMode s m) :=
  .ite h ((h.set may.1).raise may.2).trig

abbrev Can.excludeCore (C : Cap) (k : ℕ) : Bool := decide (Ok.setCore C k ∧ Ok.setS C (R.TCORE_LAST_DIFF_Y k) ∧ Ok.bump C (R.TCORE_OUT_COUNT_COUNT k) ∧ Ok.bump C R.VOTE_DISAGREE_COUNT ∧ Ok.lineOn C ∧ Ok.putCore C ∧ C (.part .tri) = true ∧ Ok.setMode C ∧ Ok.showIn C ∧ Ok.set C R.VOTE_STATUS_DONOR ∧ Ok.raise C P.VOTE)

abbrev Ok.excludeCore (C : Cap) (k : ℕ) : Prop := Can.excludeCore C k = true

theorem Within.excludeCore {k : ℕ} {why : ℕ} {diff : ℤ} (h : Within C s₀ s) (may : Ok.excludeCore C k) : Within C s₀ (State.excludeCore s k why diff) :=
  .bind (((((h.setCore (of_decide_eq_true may).1).setS (of_decide_eq_true may).2.1).bump (of_decide_eq_true may).2.2.1).bump (of_decide_eq_true may).2.2.2.1).lineOn (of_decide_eq_true may).2.2.2.2.1) fun h1 => .bind (.showIn (.setMode (.bind (h1.putCore (of_decide_eq_true may).2.2.2.2.2.1) fun h2 => (h2.updTri (of_decide_eq_true may).2.2.2.2.2.2.1)) (of_decide_eq_true may).2.2.2.2.2.2.2.1) (of_decide_eq_true may).2.2.2.2.2.2.2.2.1) fun h2 => ((h2.set (of_decide_eq_true may).2.2.2.2.2.2.2.2.2.1).raise (of_decide_eq_true may).2.2.2.2.2.2.2.2.2.2)

theorem State.inCores_lt {k : Nat} (m : k ∈ s.inCores) : k < 3 := by
  unfold State.inCores at m
  split at m
  · cases m
  · exact List.mem_range.mp (List.mem_of_mem_filter m)

abbrev Can.fatalVote (C : Cap) : Bool := decide (C (.part .ax) = true ∧ (∀ k : Nat, k < 3 → Ok.setCore C k) ∧ C (.part .flt) = true ∧ Ok.pulse C ∧ Ok.set C R.VOTE_STATUS_DONOR ∧ Ok.setMode C ∧ Ok.showIn C)

abbrev Ok.fatalVote (C : Cap) : Prop := Can.fatalVote C = true

theorem Within.fatalVote {why : Nat → Nat} {tick : Nat} (h : Within C s₀ s) (may : Ok.fatalVote C) : Within C s₀ (s.fatalVote why tick) := by
  obtain ⟨ax, core, flt, pulse, donor, mode, shown⟩ := (of_decide_eq_true may)
  unfold State.fatalVote
  extract_lets inC d v _ s1 s2 _ s3
  have h1 : Within C s₀ s1 := .ite (h.updAx ax (by rfl)) h
  clear_value s1
  have h2 : Within C s₀ s2 := .foldl h1 fun k m _ h => h.setCore (core k (State.inCores_lt m))
  clear_value s2
  exact ((((h2.updFlt (x := { s2.flt with forcedFatal := setBit s2.flt.forcedFatal 5 true }) flt rfl).pulse pulse).set donor).setMode mode).showIn shown

abbrev Can.coreFault (C : Cap) (k : ℕ) : Bool := decide (Ok.excludeCore C k ∧ Ok.fatalVote C)

abbrev Ok.coreFault (C : Cap) (k : ℕ) : Prop := Can.coreFault C k = true

theorem Within.coreFault {k : ℕ} (h : Within C s₀ s) (may : Ok.coreFault C k) : Within C s₀ (State.coreFault s k) :=
  .ite h (.ite (h.excludeCore (of_decide_eq_true may).1) (h.fatalVote (of_decide_eq_true may).2))

theorem islandPages_mem {i p : Nat} (m : p ∈ islandPages i) : ∃ r ∈ pageDir, ∃ k < r.count, r.first + k = p := by
  obtain ⟨r, mr, mp⟩ := List.mem_flatMap.mp m
  obtain ⟨k, mk, e⟩ := List.mem_map.mp (List.mem_of_mem_filter mp)
  exact ⟨r, mr, k, List.mem_range.mp mk, e⟩

abbrev Can.putFenced (C : Cap) : Bool := decide (Ok.set C R.GEN_FENCED_ISLANDS ∧ ∀ r : PageRow, r ∈ pageDir → ∀ k : Nat, k < r.count → Ok.set C (R.PG_STAT_FENCED (r.first + k)))

abbrev Ok.putFenced (C : Cap) : Prop := Can.putFenced C = true

theorem Within.putFenced {i : Nat} {on : Bool} (h : Within C s₀ s) (may : Ok.putFenced C) : Within C s₀ (s.putFenced i on) :=
  .foldl (h.set (of_decide_eq_true may).1) fun p m _ h => by
    obtain ⟨r, mr, k, mk, e⟩ := islandPages_mem m
    exact e ▸ h.setFlag ((of_decide_eq_true may).2 r mr k mk)

abbrev Ok.coachDown (C : Cap) (c : ℕ) : Prop := Ok.abortInput C ∧ (∀ i < 4, Ok.goDown C (4 * c + i))

theorem Within.coachDown {c : ℕ} {cuts : List (ℕ × TxRef)} (h : Within C s₀ s) (may : Ok.coachDown C c) : Within C s₀ (State.coachDown s c cuts) :=
  .foldl (h.abortInput may.1) fun _ m0 _ h1 => .ite h1 (h1.goDown (may.2 _ (List.mem_range.1 m0)))

/-- A fence shows (R409). -/
def State.fenceShown (s : State) (i : Nat) : State :=
  (((s.putFenced i true).bump R.GEN_FENCES_COUNT).showFences).genRec E.GEN_FENCED ((((s.putFenced i true).bump R.GEN_FENCES_COUNT).showFences).get R.GEN_IN_FORCE_GEN) (2 ^ i)

/-- A fenced coach stops (R409). -/
def State.fenceCoach (old s : State) (i : Nat) (cuts : List (Nat × TxRef)) : State :=
  if 8 ≤ i ∧ i ≤ 13 then (State.faultStops old (s.coachDown (i - 8) cuts)).showServing (i - 8) else s

/-- The fenced switch stops (R409). -/
def State.fenceSwitch (s : State) (i : Nat) : State :=
  if i = 14 then ({ s with flt := { s.flt with swStopped := true } }.switchHalt s.sw.slot).stopRings (fun _ => true) else s

/-- MGT fenced is lost (R28). -/
def State.fenceMgt (s : State) (i : Nat) : State := if i = 1 then { s with isl := { s.isl with mgtLost := true } } else s

/-- Line 33 is FATAL where an island fenced carries the device (R445). -/
def State.fenceForced (s : State) : State := { s with flt := { s.flt with forcedFatal := setBit s.flt.forcedFatal 33 true } }

/-- An island that carries the device brakes it (R445). -/
def State.fenceFatal (s : State) (i : Nat) (cuts : List (Nat × TxRef)) : State :=
  if i = 1 ∨ i = 5 ∨ i = 6 ∨ i = 14 then
    if s.fenceForced.present 33 ∧ s.fenceForced.flt.brake = .off then State.faultStops s.fenceForced ((s.fenceForced.brakeOn .fault).cutLaunches cuts)
    else s.fenceForced.refreshFaults
  else s

theorem State.fence_eq (s : State) (i : Nat) (cuts : List (Nat × TxRef)) : s.fence i cuts =
    if 2 ≤ i ∧ i ≤ 4 then s.coreFault (i - 2)
    else if bitOn (s.get R.GEN_FENCED_ISLANDS) i then s
    else (((State.fenceCoach s (s.fenceShown i) i cuts).fenceSwitch i).fenceMgt i).fenceFatal i cuts := rfl

abbrev Can.fenceCore (C : Cap) (i : Nat) : Bool := decide (2 ≤ i → i ≤ 4 → Ok.coreFault C (i - 2))

abbrev Ok.fenceCore (C : Cap) (i : Nat) : Prop := Can.fenceCore C i = true

abbrev Can.fenceShown (C : Cap) : Bool := decide (Ok.putFenced C ∧ Ok.bump C R.GEN_FENCES_COUNT ∧ Ok.showFences C)

abbrev Ok.fenceShown (C : Cap) : Prop := Can.fenceShown C = true

abbrev Can.fenceCoach (C : Cap) (i : Nat) : Bool := decide (8 ≤ i → i ≤ 13 → Ok.coachDown C (i - 8) ∧ Ok.showServing C (i - 8))

abbrev Ok.fenceCoach (C : Cap) (i : Nat) : Prop := Can.fenceCoach C i = true

abbrev Can.fence (C : Cap) (i : Nat) : Bool := decide (Ok.fenceCore C i ∧ Ok.fenceShown C ∧ Ok.fenceCoach C i ∧ Ok.faultStops C ∧ C (.part .flt) = true ∧ Ok.switchHalt C ∧ Ok.stopRings C ∧ C (.part .isl) = true ∧ Ok.brakeOn C .fault ∧ Ok.cutLaunches C ∧ Ok.refreshFaults C)

abbrev Ok.fence (C : Cap) (i : Nat) : Prop := Can.fence C i = true

theorem Within.fenceShown {i : Nat} (h : Within C s₀ s) (may : Ok.fenceShown C) : Within C s₀ (s.fenceShown i) :=
  (((h.putFenced (of_decide_eq_true may).1).bump (of_decide_eq_true may).2.1).showFences (of_decide_eq_true may).2.2).genRec

theorem Within.fenceCoach {old : State} {i : Nat} {cuts : List (Nat × TxRef)} (h : Within C s₀ s)
    (may : Ok.fenceCoach C i) (stops : Ok.faultStops C) : Within C s₀ (State.fenceCoach old s i cuts) := by
  unfold State.fenceCoach
  split
  next is =>
    obtain ⟨down, serving⟩ := (of_decide_eq_true may) is.1 is.2
    exact ((h.coachDown down).faultStops stops).showServing serving
  · exact h

theorem Within.fenceSwitch {i : Nat} (h : Within C s₀ s) (flt : C (.part .flt) = true) (halt : Ok.switchHalt C) (rings : Ok.stopRings C) : Within C s₀ (s.fenceSwitch i) :=
  .ite (((h.updFlt (x := { s.flt with swStopped := true }) flt rfl).switchHalt halt).stopRings rings) h

theorem Within.fenceMgt {i : Nat} (h : Within C s₀ s) (isl : C (.part .isl) = true) : Within C s₀ (s.fenceMgt i) := .ite (h.updIsl isl) h

theorem Within.fenceFatal {i : Nat} {cuts : List (Nat × TxRef)} (h : Within C s₀ s) (flt : C (.part .flt) = true) (brake : Ok.brakeOn C .fault) (cut : Ok.cutLaunches C)
    (stops : Ok.faultStops C) (refresh : Ok.refreshFaults C) : Within C s₀ (s.fenceFatal i cuts) := by
  have forced : Within C s₀ s.fenceForced := h.updFlt flt rfl
  exact .ite (.ite (((forced.brakeOn brake).cutLaunches cut).faultStops stops) (forced.refreshFaults refresh)) h

theorem Within.fence {i : Nat} {cuts : List (Nat × TxRef)} (h : Within C s₀ s) (may : Ok.fence C i) : Within C s₀ (s.fence i cuts) := by
  obtain ⟨core, shown, coach, stops, flt, halt, rings, isl, brake, cut, refresh⟩ := (of_decide_eq_true may)
  rw [State.fence_eq]
  split
  next is => exact h.coreFault (of_decide_eq_true core is.1 is.2)
  · exact .ite h (((((h.fenceShown shown).fenceCoach coach stops).fenceSwitch flt halt rings).fenceMgt isl).fenceFatal flt brake cut stops refresh)

abbrev Ok.outStep (C : Cap) : Prop := Ok.putOut C ∧ (∀ i < 8, Ok.setMisalign C i)

theorem Within.outStep {amount : ℤ} (h : Within C s₀ s) (may : Ok.outStep C) : Within C s₀ (State.outStep s amount) :=
  .foldl h fun _ m0 _ h1 => .ite (.bind (h1.putOut may.1) fun h2 => .ite (h2.setMisalign (may.2 _ (List.mem_range.1 m0))) h2) h1

abbrev Ok.candLoad (C : Cap) : Prop := C (.part .sel) = true ∧ C (.part .gns) = true ∧ Ok.putSlot C

theorem Within.candLoad (h : Within C s₀ s) (may : Ok.candLoad C) : Within C s₀ (State.candLoad s) :=
  .foldl (h.updSelGns may.1 may.2.1) fun _ _ _ h1 => (h1.putSlot may.2.2)

abbrev Ok.srvLoad (C : Cap) : Prop := C (.part .srv) = true ∧ C (.part .hold) = true

theorem Within.srvLoad {v : ℤ} (h : Within C s₀ s) (may : Ok.srvLoad C) : Within C s₀ (State.srvLoad s v) :=
  (h.updSrvHold may.1 may.2)

abbrev Ok.tebShift (C : Cap) : Prop := C (.part .teb) = true

theorem Within.tebShift {d : ℤ} (h : Within C s₀ s) (may : Ok.tebShift C) : Within C s₀ (State.tebShift s d) :=
  (h.updTeb may)

abbrev Ok.ticMark (C : Cap) : Prop := Ok.putTic C

theorem Within.ticMark {amount : ℤ} (h : Within C s₀ s) (may : Ok.ticMark C) : Within C s₀ (State.ticMark s amount) :=
  .foldl h fun _ _ _ h1 => .ite (h1.putTic may) h1

abbrev Ok.tebHostLoad (C : Cap) : Prop := C (.part .teb) = true

theorem Within.tebHostLoad (h : Within C s₀ s) (may : Ok.tebHostLoad C) : Within C s₀ (State.tebHostLoad s) :=
  (h.updTeb may)

abbrev Can.loadDone (C : Cap) : Bool := decide (C (.part .ax) = true ∧ (C (.part .dug) = true ∧ C (.part .reins) = true) ∧ Ok.candLoad C ∧ Ok.srvLoad C ∧ Ok.cores C ∧ Ok.outStep C ∧ Ok.ticMark C ∧ Ok.tebShift C ∧ Ok.setFlag C R.VOTE_STATUS_TS_SET ∧ Ok.raise C P.VOTE ∧ Ok.tebHostLoad C ∧ Ok.set C R.VOTE_CMD_STATUS)

abbrev Ok.loadDone (C : Cap) : Prop := Can.loadDone C = true

theorem Within.loadDone {src : ℕ} {jump : ℤ} (h : Within C s₀ s) (may : Ok.loadDone C) : Within C s₀ (State.loadDone s src jump) :=
  .bind (.trig (.raise (.setFlag (.tebShift (.ticMark (.outStep (.perCore ((h.updAxDug (of_decide_eq_true may).1 (by rfl) (of_decide_eq_true may).2.1).candLoad (of_decide_eq_true may).2.2.1) (fun _ h1 => (h1.srvLoad (of_decide_eq_true may).2.2.2.1)) (of_decide_eq_true may).2.2.2.2.1) (of_decide_eq_true may).2.2.2.2.2.1) (of_decide_eq_true may).2.2.2.2.2.2.1) (of_decide_eq_true may).2.2.2.2.2.2.2.1) (of_decide_eq_true may).2.2.2.2.2.2.2.2.1) (of_decide_eq_true may).2.2.2.2.2.2.2.2.2.1)) fun h1 => .ite ((h1.tebHostLoad (of_decide_eq_true may).2.2.2.2.2.2.2.2.2.2.1).set (of_decide_eq_true may).2.2.2.2.2.2.2.2.2.2.2) h1

abbrev Can.candStep (C : Cap) : Bool := decide (Ok.putSlot C ∧ (∀ i : Nat, i < 12 → Ok.wrS C (R.CAND_OFFSET i)) ∧ C (.part .sel) = true ∧ C (.part .gns) = true ∧ Ok.showDiffs C)

abbrev Ok.candStep (C : Cap) : Prop := Can.candStep C = true

theorem Within.candStep {d : ℤ} (h : Within C s₀ s) (may : Ok.candStep C) : Within C s₀ (State.candStep s d) := by
  unfold State.candStep
  extract_lets _ t1 _ _ _
  have h1 : Within C s₀ t1 := .foldl h fun _ m0 _ h1 => .bind (.ite h1 (h1.putSlot (of_decide_eq_true may).1)) fun h2 => .ite (h2.wrS ((of_decide_eq_true may).2.1 _ (List.mem_range.1 m0))) h2
  clear_value t1
  exact ((h1.updSelGns (of_decide_eq_true may).2.2.1 (of_decide_eq_true may).2.2.2.1).showDiffs (of_decide_eq_true may).2.2.2.2)

abbrev Ok.srvStep (C : Cap) : Prop := C (.part .srv) = true ∧ C (.part .hold) = true

theorem Within.srvStep {d : ℤ} (h : Within C s₀ s) (may : Ok.srvStep C) : Within C s₀ (State.srvStep s d) :=
  (h.updSrvHold may.1 may.2)

abbrev Ok.tebHostStep (C : Cap) : Prop := C (.part .teb) = true

theorem Within.tebHostStep {d : ℤ} (h : Within C s₀ s) (may : Ok.tebHostStep C) : Within C s₀ (State.tebHostStep s d) :=
  (h.updTeb may)

abbrev Can.stepsDone (C : Cap) : Bool := decide (C (.part .ax) = true ∧ (C (.part .dug) = true ∧ C (.part .reins) = true) ∧ Ok.candStep C ∧ Ok.srvStep C ∧ Ok.cores C ∧ Ok.outStep C ∧ Ok.ticMark C ∧ Ok.tebShift C ∧ Ok.wrS C R.VOTE_STEP_LAST ∧ Ok.tebHostStep C ∧ Ok.raise C P.VOTE)

abbrev Ok.stepsDone (C : Cap) : Prop := Can.stepsDone C = true

theorem Within.stepsDone (h : Within C s₀ s) (may : Ok.stepsDone C) : Within C s₀ (State.stepsDone s) :=
  .raise (.foldl (.wrS (.tebShift (.ticMark (.outStep (.perCore ((h.updAxDug (of_decide_eq_true may).1 (by rfl) (of_decide_eq_true may).2.1).candStep (of_decide_eq_true may).2.2.1) (fun _ h1 => (h1.srvStep (of_decide_eq_true may).2.2.2.1)) (of_decide_eq_true may).2.2.2.2.1) (of_decide_eq_true may).2.2.2.2.2.1) (of_decide_eq_true may).2.2.2.2.2.2.1) (of_decide_eq_true may).2.2.2.2.2.2.2.1) (of_decide_eq_true may).2.2.2.2.2.2.2.2.1) fun _ _ _ h1 => .trig (.ite (h1.tebHostStep (of_decide_eq_true may).2.2.2.2.2.2.2.2.2.1) h1)) (of_decide_eq_true may).2.2.2.2.2.2.2.2.2.2

abbrev Ok.phaseDone (C : Cap) : Prop := Ok.loadDone C ∧ Ok.ticMark C ∧ Ok.stepsDone C

theorem Within.phaseDone {jump : ℤ} (h : Within C s₀ s) (may : Ok.phaseDone C) : Within C s₀ (State.phaseDone s jump) := by
  unfold State.phaseDone
  split
  · exact (h.loadDone may.1)
  · exact .ite (h.ticMark may.2.1) (h.stepsDone may.2.2)

abbrev Ok.rejoined (C : Cap) (k : ℕ) : Prop := Ok.set C (R.TCORE_REJOIN_LEFT_S k) ∧ Ok.putCore C

theorem Within.rejoined {k : ℕ} (h : Within C s₀ s) (may : Ok.rejoined C k) : Within C s₀ (State.rejoined s k) :=
  ((h.set may.1).putCore may.2)

abbrev Ok.takeGen (C : Cap) : Prop := Ok.putImg C ∧ C (.part .gen) = true

theorem Within.takeGen {k : ℕ} (h : Within C s₀ s) (may : Ok.takeGen C) : Within C s₀ (State.takeGen s k) := by
  unfold State.takeGen
  split
  · exact h
  · extract_lets _ t1 _
    have h1 : Within C s₀ t1 := (h.putImg may.1)
    clear_value t1
    exact (h1.updGen may.2)

abbrev Can.reload (C : Cap) (k : ℕ) : Bool := decide (Ok.putImg C ∧ C (.part .cores) = true ∧ C (.part .gen) = true ∧ Ok.takeGen C ∧ Ok.putCore C ∧ Ok.setCore C k ∧ Ok.putCtr C)

abbrev Ok.reload (C : Cap) (k : ℕ) : Prop := Can.reload C k = true

theorem Within.reload {k : ℕ} {d : ℕ} (h : Within C s₀ s) (may : Ok.reload C k) : Within C s₀ (State.reload s k d) :=
  .bind (h.putImg (of_decide_eq_true may).1) fun h1 => .bind ((h1.updCoresGen (of_decide_eq_true may).2.1 (of_decide_eq_true may).2.2.1).takeGen (of_decide_eq_true may).2.2.2.1) fun h2 => .bind (h2.putCore (of_decide_eq_true may).2.2.2.2.1) fun h3 => ((h3.setCore (of_decide_eq_true may).2.2.2.2.2.1).putCtr (of_decide_eq_true may).2.2.2.2.2.2)

abbrev Can.triadMark (C : Cap) : Bool := decide ((∀ i : Nat, i < 3 → Ok.set C (R.TCORE_REJOIN_LEFT_S i)) ∧ Ok.putCore C ∧ (∀ i : Nat, i < 3 → Ok.rejoined C i) ∧ (∀ i : Nat, i < 3 → Ok.reload C i) ∧ C (.part .tri) = true ∧ Ok.set C R.VOTE_CMD_STATUS ∧ Ok.set C R.VOTE_STATUS_DONOR)

abbrev Ok.triadMark (C : Cap) : Prop := Can.triadMark C = true

theorem Within.triadMark (h : Within C s₀ s) (may : Ok.triadMark C) : Within C s₀ (State.triadMark s) := by
  unfold State.triadMark
  extract_lets t1 _
  have h1 : Within C s₀ t1 := .foldl h fun _ m0 _ h1 => .ite (.bind ((h1.set ((of_decide_eq_true may).1 _ (List.mem_range.1 m0))).putCore (of_decide_eq_true may).2.1) fun h2 => .ite (h2.rejoined ((of_decide_eq_true may).2.2.1 _ (List.mem_range.1 m0))) h2) h1
  clear_value t1
  refine .ite ?_ ?_
  · exact h1
  · refine .ite ?_ ?_
    · exact .foldl h1 fun _ m0 _ h2 => .ite (h2.reload ((of_decide_eq_true may).2.2.2.1 _ (List.mem_range.1 m0))) h2
    · split
      · extract_lets t2 t3
        have h2 : Within C s₀ t2 := (h1.updTri (of_decide_eq_true may).2.2.2.2.1)
        have h3 : Within C s₀ t3 := ((h2.set (of_decide_eq_true may).2.2.2.2.2.1).set (of_decide_eq_true may).2.2.2.2.2.2)
        exact .foldl h3 fun _ m0 _ h4 => .ite h4 (h4.reload ((of_decide_eq_true may).2.2.2.1 _ (List.mem_range.1 m0)))
      · exact h1

abbrev Ok.leapOld (C : Cap) : Prop := C (.part .pipe) = true

theorem Within.leapOld (h : Within C s₀ s) (may : Ok.leapOld C) : Within C s₀ (State.leapOld s) :=
  (h.updPipe may)

abbrev Ok.outLeap (C : Cap) : Prop := Ok.putOut C

theorem Within.outLeap {d : ℤ} (h : Within C s₀ s) (may : Ok.outLeap C) : Within C s₀ (State.outLeap s d) :=
  .foldl h fun _ _ _ h1 => .ite (h1.putOut may) h1

abbrev Ok.leapIslands (C : Cap) : Prop := Ok.putCtr C ∧ C (.part .pipe) = true

theorem Within.leapIslands {sg : ℤ} (h : Within C s₀ s) (may : Ok.leapIslands C) : Within C s₀ (State.leapIslands s sg) :=
  .bind (.foldl h fun _ _ _ h1 => (h1.putCtr may.1)) fun h1 => (h1.updPipe may.2)

theorem Within.leapRec {bit : ℕ} (h : Within C s₀ s) : Within C s₀ (State.leapRec s bit) :=
  h.trig

abbrev Can.leapMark (C : Cap) : Bool := decide (Ok.leapOld C ∧ Ok.set C R.VOTE_UTC_OFFSET ∧ Ok.outLeap C ∧ Ok.leapIslands C ∧ Ok.set C R.VOTE_LEAP_CTRL_KIND ∧ Ok.setLeapPend C ∧ Ok.raise C P.VOTE)

abbrev Ok.leapMark (C : Cap) : Prop := Can.leapMark C = true

theorem Within.leapMark {jumped : Bool} (h : Within C s₀ s) (may : Ok.leapMark C) : Within C s₀ (State.leapMark s jumped) :=
  .bind (.ite (h.leapOld (of_decide_eq_true may).1) h) fun h1 => .ite (.bind (h1.set (of_decide_eq_true may).2.1) fun h2 => .leapRec (.raise (.setLeapPend (.set (.leapIslands (.ite (h2.outLeap (of_decide_eq_true may).2.2.1) h2) (of_decide_eq_true may).2.2.2.1) (of_decide_eq_true may).2.2.2.2.1) (of_decide_eq_true may).2.2.2.2.2.1) (of_decide_eq_true may).2.2.2.2.2.2)) h1

abbrev Can.utcMark (C : Cap) : Bool := decide (C (.part .ax) = true ∧ Ok.set C R.VOTE_UTC_OFFSET ∧ Ok.set C R.VOTE_UTC_VALID ∧ Ok.outLeap C ∧ Ok.set C R.VOTE_LEAP_CTRL_KIND ∧ Ok.setLeapPend C ∧ Ok.raise C P.VOTE)

abbrev Ok.utcMark (C : Cap) : Prop := Can.utcMark C = true

theorem Within.utcMark (h : Within C s₀ s) (may : Ok.utcMark C) : Within C s₀ (State.utcMark s) := by
  unfold State.utcMark
  split
  · exact h
  · extract_lets _ _ t1 t2
    have h1 : Within C s₀ t1 := (h.updAx (of_decide_eq_true may).1 (by rfl))
    have h2 : Within C s₀ t2 := (((h1.set (of_decide_eq_true may).2.1).set (of_decide_eq_true may).2.2.1).outLeap (of_decide_eq_true may).2.2.2.1)
    exact .ite (((h2.set (of_decide_eq_true may).2.2.2.2.1).setLeapPend (of_decide_eq_true may).2.2.2.2.2.1).raise (of_decide_eq_true may).2.2.2.2.2.2).leapRec h2.leapRec

abbrev Ok.markUnit (C : Cap) (units : Fld) (lanes : Fld) : Prop := Ok.set C units ∧ Ok.set C lanes

theorem Within.markUnit {units : Fld} {lanes : Fld} {kind : ℕ} {unit : ℕ} (h : Within C s₀ s) (may : Ok.markUnit C units lanes) : Within C s₀ (State.markUnit s units lanes kind unit) := by
  unfold State.markUnit
  split
  · exact (h.set may.1)
  · exact (h.set may.2)

abbrev Ok.beginTest (C : Cap) (unit : ℕ) : Prop := C (.part .prove) = true ∧ Ok.shuntTic C unit ∧ Ok.ticCalStart C unit ∧ Ok.addMig C ∧ Ok.shuntPll C unit ∧ C (.part .tri) = true ∧ Ok.shuntGns C

theorem Within.beginTest {kind : ℕ} {unit : ℕ} (h : Within C s₀ s) (may : Ok.beginTest C unit) : Within C s₀ (State.beginTest s kind unit) := by
  unfold State.beginTest
  extract_lets _ t1 _
  have h1 : Within C s₀ t1 := (h.updProve may.1)
  clear_value t1
  split
  · exact ((h1.shuntTic may.2.1).ticCalStart may.2.2.1)
  · exact (h1.addMig may.2.2.2.1)
  · exact (h1.shuntPll may.2.2.2.2.1)
  · exact (h1.updTri may.2.2.2.2.2.1)
  · exact (h1.shuntGns may.2.2.2.2.2.2)
  · exact h1

abbrev Ok.proveStep (C : Cap) : Prop := Ok.showProve C ∧ Ok.proveEnd C ∧ C (.part .prove) = true ∧ (∀ u l, Ok.markUnit C u l) ∧ ∀ u, Ok.beginTest C u

theorem Within.proveStep {fuel : Nat} (h : Within C s₀ s) (may : Ok.proveStep C) : Within C s₀ (s.proveStep fuel) := by
  induction fuel generalizing s with
  | zero => exact h.showProve may.1
  | succ n ih =>
    obtain ⟨prove, finish, part, mark, test⟩ := may
    refine .ite h ?_
    split
    · exact .ite (h.proveEnd finish) (h.showProve prove)
    · exact .ite (ih (.markUnit (h.updProve part) (mark _ _))) (ih (.beginTest (h.updProve part) (test _)))

abbrev Ok.proveMark (C : Cap) : Prop := Ok.proveAbort C ∧ Ok.proveStep C

theorem Within.proveMark (h : Within C s₀ s) (may : Ok.proveMark C) : Within C s₀ (State.proveMark s) :=
  .ite h (.ite (h.proveAbort may.1) (h.proveStep may.2))

abbrev Ok.shuntMark (C : Cap) : Prop := C (.part .shunt) = true ∧ (∀ x1 : ShuntCmd, Ok.drainCoach C (ShuntCmd.index x1))

theorem Within.shuntMark (h : Within C s₀ s) (may : Ok.shuntMark C) : Within C s₀ (State.shuntMark s) := by
  unfold State.shuntMark
  split
  · exact ((h.updShunt may.1).drainCoach (may.2 _))
  · exact h

abbrev Ok.qualify (C : Cap) (k : ℕ) : Prop := Ok.setCand C k

theorem Within.qualify {k : ℕ} (h : Within C s₀ s) (may : Ok.qualify C k) : Within C s₀ (State.qualify s k) :=
  (h.setCand may)

abbrev Can.candMark (C : Cap) (k : ℕ) : Bool := decide (Ok.setCand C k ∧ Ok.putSlot C ∧ Ok.set C (R.CAND_QUAL_LEFT_S k) ∧ Ok.qualify C k ∧ Ok.set C (R.CAND_WTR_LEFT_S k) ∧ Ok.wtrEnd C k)

abbrev Ok.candMark (C : Cap) (k : ℕ) : Prop := Can.candMark C k = true

theorem Within.candMark {k : ℕ} (h : Within C s₀ s) (may : Ok.candMark C k) : Within C s₀ (State.candMark s k) :=
  .ite (h.setCand (of_decide_eq_true may).1) (.ite (.bind ((h.putSlot (of_decide_eq_true may).2.1).set (of_decide_eq_true may).2.2.1) fun h1 => .ite (h1.qualify (of_decide_eq_true may).2.2.2.1) h1) (.ite (.bind ((h.putSlot (of_decide_eq_true may).2.1).set (of_decide_eq_true may).2.2.2.2.1) fun h1 => .ite (h1.wtrEnd (of_decide_eq_true may).2.2.2.2.2) h1) h))

abbrev Can.dispute (C : Cap) : Bool := decide (Ok.raise C P.SEL ∧ ∀ k : Nat, k < 12 → Ok.set C (R.CAND_STATUS_DISAGREE k) ∧ Ok.setCand C k)

abbrev Ok.dispute (C : Cap) : Prop := Can.dispute C = true

theorem Within.dispute {rank : Nat} (h : Within C s₀ s) (may : Ok.dispute C) : Within C s₀ (s.dispute rank) :=
  .foldl (h.raiseIf (of_decide_eq_true may).1) fun k m _ h => by
    obtain ⟨flag, cand⟩ := (of_decide_eq_true may).2 k (List.mem_range.mp (List.mem_of_mem_filter m))
    exact .ite ((h.setFlag flag).setCand cand) ((h.setFlag flag).setCand cand)

abbrev Ok.disputes (C : Cap) : Prop := (∀ i < 12, Ok.set C (R.CAND_STATUS_DISAGREE i)) ∧ Ok.dispute C

theorem Within.disputes (h : Within C s₀ s) (may : Ok.disputes C) : Within C s₀ (State.disputes s) :=
  .foldl (.foldl h fun _ m0 _ h1 => .ite h1 (h1.set (may.1 _ (List.mem_range.1 m0)))) fun _ _ _ h1 => (h1.dispute may.2)

abbrev Ok.steerMark (C : Cap) : Prop := C (.part .sel) = true ∧ Ok.wrS C R.SEL_STEER_BIAS

theorem Within.steerMark (h : Within C s₀ s) (may : Ok.steerMark C) : Within C s₀ (State.steerMark s) :=
  .ite h ((h.updSel may.1).wrS may.2)

abbrev Ok.selDone (C : Cap) : Prop := Ok.set C R.SEL_CMD_STATUS ∧ Ok.raiseIf C P.SEL

theorem Within.selDone {st : ℕ} (h : Within C s₀ s) (may : Ok.selDone C) : Within C s₀ (State.selDone s st) :=
  ((h.set may.1).raiseIf may.2)

abbrev Ok.followReq (C : Cap) : Prop := C (.part .sel) = true ∧ Ok.selDone C

theorem Within.followReq {q : SelReq} (h : Within C s₀ s) (may : Ok.followReq C) : Within C s₀ (State.followReq s q) := by
  unfold State.followReq
  split
  · exact (h.updSel may.1)
  · exact (h.selDone may.2)

abbrev Ok.showSel (C : Cap) : Prop := Ok.setFlag C R.SEL_STATUS_FREQ_ONLY ∧ Ok.setFlag C R.SEL_STATUS_ATOM_HOLD ∧ (∀ i < 12, Ok.setFlag C (R.CAND_STATUS_SELECTED i))

theorem Within.showSel (h : Within C s₀ s) (may : Ok.showSel C) : Within C s₀ (State.showSel s) :=
  .bind (h.setFlag may.1) fun h1 => .foldl (h1.setFlag may.2.1) fun _ m0 _ h2 => (h2.setFlag (may.2.2 _ (List.mem_range.1 m0)))

abbrev Ok.selFrame (C : Cap) : Prop := Ok.dugSendAll C

theorem Within.selFrame {kind : ℕ} {amount : ℤ} {at_ : ℤ} (h : Within C s₀ s) (may : Ok.selFrame C) : Within C s₀ (State.selFrame s kind amount at_) :=
  .ite (h.dugSendAll may) h

abbrev Ok.setSel (C : Cap) : Prop := Ok.set C R.SEL_STATUS_STATE ∧ Ok.selFrame C

theorem Within.setSel {new : ℕ} {abort : Bool} (h : Within C s₀ s) (may : Ok.setSel C) : Within C s₀ (State.setSel s new abort) :=
  ((h.set may.1).trig.selFrame may.2)

abbrev Can.startSwitch (C : Cap) : Bool := decide (C (.part .sel) = true ∧ Ok.set C R.SEL_STATUS_TARGET ∧ Ok.set C R.SEL_STATUS_WAIT_VOTE ∧ Ok.bump C R.SEL_SWITCHES_COUNT ∧ Ok.setSel C ∧ Ok.raise C P.SEL ∧ Ok.showSel C)

abbrev Ok.startSwitch (C : Cap) : Prop := Can.startSwitch C = true

theorem Within.startSwitch {t : ℕ} {manual : Bool} {abort : Bool} (h : Within C s₀ s) (may : Ok.startSwitch C) : Within C s₀ (State.startSwitch s t manual abort) := by
  unfold State.startSwitch
  extract_lets _ _ _ t1 t2
  have h1 : Within C s₀ t1 := (h.updSel (of_decide_eq_true may).1)
  have h2 : Within C s₀ t2 := ((((h1.set (of_decide_eq_true may).2.1).set (of_decide_eq_true may).2.2.1).bump (of_decide_eq_true may).2.2.2.1).setSel (of_decide_eq_true may).2.2.2.2.1)
  exact ((h2.raise (of_decide_eq_true may).2.2.2.2.2.1).showSel (of_decide_eq_true may).2.2.2.2.2.2)

abbrev Can.enterHold (C : Cap) : Bool := decide (Ok.set C R.SEL_STATUS_PREV ∧ Ok.set C R.SEL_STATUS_SELECTED ∧ Ok.set C R.SEL_STATUS_MANUAL ∧ Ok.set C R.SEL_STATUS_WAIT_VOTE ∧ Ok.set C R.SEL_STATUS_TARGET ∧ Ok.setSel C ∧ Ok.raise C P.SEL ∧ Ok.showSel C ∧ Ok.showDiffs C)

abbrev Ok.enterHold (C : Cap) : Prop := Can.enterHold C = true

theorem Within.enterHold {abort : Bool} (h : Within C s₀ s) (may : Ok.enterHold C) : Within C s₀ (State.enterHold s abort) := by
  unfold State.enterHold
  extract_lets _ t1 t2 t3
  have h1 : Within C s₀ t1 := .ite (h.set (of_decide_eq_true may).1) h
  have h2 : Within C s₀ t2 := (((h1.set (of_decide_eq_true may).2.1).set (of_decide_eq_true may).2.2.1).set (of_decide_eq_true may).2.2.2.1)
  have h3 : Within C s₀ t3 := (((h2.set (of_decide_eq_true may).2.2.2.2.1).setSel (of_decide_eq_true may).2.2.2.2.2.1).raise (of_decide_eq_true may).2.2.2.2.2.2.1)
  exact ((h3.showSel (of_decide_eq_true may).2.2.2.2.2.2.2.1).showDiffs (of_decide_eq_true may).2.2.2.2.2.2.2.2)

abbrev Can.abortSwitch (C : Cap) : Bool := decide (Ok.bump C R.SEL_ABORTS_COUNT ∧ Ok.raise C P.SEL ∧ Ok.putSlot C ∧ Ok.setSel C ∧ Ok.set C R.SEL_STATUS_TARGET ∧ Ok.set C R.SEL_STATUS_WAIT_VOTE ∧ Ok.showSel C ∧ Ok.startSwitch C ∧ Ok.enterHold C)

abbrev Ok.abortSwitch (C : Cap) : Prop := Can.abortSwitch C = true

theorem Within.abortSwitch {follow : Bool} (h : Within C s₀ s) (may : Ok.abortSwitch C) : Within C s₀ (State.abortSwitch s follow) := by
  unfold State.abortSwitch
  extract_lets _ t1 _ t2
  have h1 : Within C s₀ t1 := ((h.bump (of_decide_eq_true may).1).raise (of_decide_eq_true may).2.1)
  have h2 : Within C s₀ t2 := (h1.putSlot (of_decide_eq_true may).2.2.1)
  refine .ite ?_ ?_
  · exact h2
  · split
    · exact .ite ((((h2.setSel (of_decide_eq_true may).2.2.2.1).set (of_decide_eq_true may).2.2.2.2.1).set (of_decide_eq_true may).2.2.2.2.2.1).showSel (of_decide_eq_true may).2.2.2.2.2.2.1) (h2.startSwitch (of_decide_eq_true may).2.2.2.2.2.2.2.1)
    · exact .ite (((h2.setSel (of_decide_eq_true may).2.2.2.1).set (of_decide_eq_true may).2.2.2.2.1).set (of_decide_eq_true may).2.2.2.2.2.1) (h2.enterHold (of_decide_eq_true may).2.2.2.2.2.2.2.2)

abbrev Can.takeSwitch (C : Cap) : Bool := decide (Ok.selDone C ∧ Ok.abortSwitch C ∧ Ok.setSel C ∧ Ok.set C R.SEL_STATUS_TARGET ∧ Ok.set C R.SEL_STATUS_WAIT_VOTE ∧ Ok.showSel C ∧ Ok.startSwitch C)

abbrev Ok.takeSwitch (C : Cap) : Prop := Can.takeSwitch C = true

theorem Within.takeSwitch {slot : ℕ} (h : Within C s₀ s) (may : Ok.takeSwitch C) : Within C s₀ (State.takeSwitch s slot) :=
  .ite (h.selDone (of_decide_eq_true may).1) (.ite (.ite ((((((h.abortSwitch (of_decide_eq_true may).2.1).setSel (of_decide_eq_true may).2.2.1).set (of_decide_eq_true may).2.2.2.1).set (of_decide_eq_true may).2.2.2.2.1).showSel (of_decide_eq_true may).2.2.2.2.2.1).selDone (of_decide_eq_true may).1) (h.selDone (of_decide_eq_true may).1)) (.ite (h.selDone (of_decide_eq_true may).1) (.ite (h.selDone (of_decide_eq_true may).1) (.ite (((h.abortSwitch (of_decide_eq_true may).2.1).startSwitch (of_decide_eq_true may).2.2.2.2.2.2).selDone (of_decide_eq_true may).1) ((h.startSwitch (of_decide_eq_true may).2.2.2.2.2.2).selDone (of_decide_eq_true may).1)))))

abbrev Ok.takeHoldover (C : Cap) : Prop := C (.part .sel) = true ∧ Ok.set C R.SEL_STATUS_FORCED_HOLD ∧ Ok.selDone C ∧ Ok.abortSwitch C ∧ Ok.enterHold C

theorem Within.takeHoldover (h : Within C s₀ s) (may : Ok.takeHoldover C) : Within C s₀ (State.takeHoldover s) :=
  .ite (h.updSel may.1) (.ite ((h.set may.2.1).selDone may.2.2.1) (.ite ((((h.abortSwitch may.2.2.2.1).enterHold may.2.2.2.2).set may.2.1).selDone may.2.2.1) (((h.enterHold may.2.2.2.2).set may.2.1).selDone may.2.2.1)))

abbrev Can.takeReq (C : Cap) : Bool := decide (C (.part .sel) = true ∧ Ok.takeSwitch C ∧ Ok.takeHoldover C ∧ Ok.set C R.SEL_STATUS_FORCED_HOLD ∧ Ok.selDone C)

abbrev Ok.takeReq (C : Cap) : Prop := Can.takeReq C = true

theorem Within.takeReq {q : SelReq} (h : Within C s₀ s) (may : Ok.takeReq C) : Within C s₀ (State.takeReq s q) := by
  unfold State.takeReq
  split
  · exact (h.updSel (of_decide_eq_true may).1)
  · exact (h.takeSwitch (of_decide_eq_true may).2.1)
  · exact (h.takeHoldover (of_decide_eq_true may).2.2.1)
  · exact ((h.set (of_decide_eq_true may).2.2.2.1).selDone (of_decide_eq_true may).2.2.2.2)

abbrev Can.uncommit (C : Cap) : Bool := decide (C (.part .ax) = true ∧ C (.part .sel) = true ∧ Ok.putSlot C ∧ Ok.setFlag C R.SEL_STATUS_MANUAL ∧ Ok.set C R.SEL_STATUS_WAIT_VOTE ∧ Ok.setSel C ∧ Ok.showStepPend C ∧ Ok.takeHoldover C)

abbrev Ok.uncommit (C : Cap) : Prop := Can.uncommit C = true

theorem Within.uncommit (h : Within C s₀ s) (may : Ok.uncommit C) : Within C s₀ (State.uncommit s) := by
  unfold State.uncommit
  extract_lets _ _ t1 t2 t3 _
  have h1 : Within C s₀ t1 := (h.updAxSel (of_decide_eq_true may).1 (by rfl) (of_decide_eq_true may).2.1)
  clear_value t1
  have h2 : Within C s₀ t2 := .foldl h1 fun _ _ _ h2 => (h2.putSlot (of_decide_eq_true may).2.2.1)
  clear_value t2
  have h3 : Within C s₀ t3 := ((((h2.setFlag (of_decide_eq_true may).2.2.2.1).set (of_decide_eq_true may).2.2.2.2.1).setSel (of_decide_eq_true may).2.2.2.2.2.1).showStepPend (of_decide_eq_true may).2.2.2.2.2.2.1)
  clear_value t3
  exact .ite ((h3.updSel (of_decide_eq_true may).2.1).takeHoldover (of_decide_eq_true may).2.2.2.2.2.2.2) h3

abbrev Ok.freqOrigin (C : Cap) (k : ℕ) : Prop := Ok.putSlot C ∧ Ok.wrS C (R.CAND_OFFSET k)

theorem Within.freqOrigin {k : ℕ} {c : ℤ} {t : ℤ} (h : Within C s₀ s) (may : Ok.freqOrigin C k) : Within C s₀ (State.freqOrigin s k c t) := by
  unfold State.freqOrigin
  extract_lets _
  split
  · exact (h.putSlot may.1)
  · extract_lets _ _
    exact ((h.putSlot may.1).wrS may.2)

abbrev Ok.commitSwitch (C : Cap) : Prop := (∀ x1 : State, Ok.freqOrigin C (State.target x1)) ∧ Ok.putSlot C ∧ C (.part .sel) = true ∧ Ok.wrS C R.SEL_STEER_BIAS ∧ Ok.set C R.SEL_STATUS_PREV ∧ Ok.set C R.SEL_STATUS_SELECTED ∧ Ok.set C R.SEL_STATUS_TARGET ∧ Ok.set C R.SEL_STATUS_MANUAL ∧ Ok.set C R.SEL_STATUS_FORCED_HOLD ∧ Ok.setSel C ∧ Ok.raise C P.SEL ∧ Ok.selDone C ∧ Ok.showSel C ∧ Ok.showDiffs C

theorem Within.commitSwitch (h : Within C s₀ s) (may : Ok.commitSwitch C) : Within C s₀ (State.commitSwitch s) := by
  unfold State.commitSwitch
  extract_lets _ _ _ _ t1 _ t2 _ t3 t4 _ t5 t6 t7 t8
  have h1 : Within C s₀ t1 := .ite (by split; exacts [(h.freqOrigin (may.1 _)), h]) h
  clear_value t1
  have h2 : Within C s₀ t2 := (h1.putSlot may.2.1)
  clear_value t2
  have h3 : Within C s₀ t3 := (h2.updSel may.2.2.1)
  clear_value t3
  have h4 : Within C s₀ t4 := (h3.wrS may.2.2.2.1)
  clear_value t4
  have h5 : Within C s₀ t5 := (h4.updSel may.2.2.1)
  have h6 : Within C s₀ t6 := ((((h5.set may.2.2.2.2.1).set may.2.2.2.2.2.1).set may.2.2.2.2.2.2.1).set may.2.2.2.2.2.2.2.1)
  have h7 : Within C s₀ t7 := ((h4.set may.2.2.2.2.1).set may.2.2.2.2.2.1)
  have h8 : Within C s₀ t8 := .ite ((((h6.set may.2.2.2.2.2.2.2.2.1).setSel may.2.2.2.2.2.2.2.2.2.1).raise may.2.2.2.2.2.2.2.2.2.2.1).selDone may.2.2.2.2.2.2.2.2.2.2.2.1) ((h7.setSel may.2.2.2.2.2.2.2.2.2.1).set may.2.2.2.2.2.2.1)
  exact ((h8.showSel may.2.2.2.2.2.2.2.2.2.2.2.2.1).showDiffs may.2.2.2.2.2.2.2.2.2.2.2.2.2)

abbrev Ok.decide_ (C : Cap) : Prop := Ok.startSwitch C ∧ Ok.putSlot C ∧ Ok.raise C P.SEL ∧ Ok.enterHold C

theorem Within.decide_ (h : Within C s₀ s) (may : Ok.decide_ C) : Within C s₀ (State.decide_ s) := by
  unfold State.decide_
  extract_lets _
  refine .ite ?_ ?_
  · exact h
  · refine .ite ?_ ?_
    · split
      · exact h
      · exact .ite (.ite (.ite (h.startSwitch may.1) h) (.ite h ((h.putSlot may.2.1).raise may.2.2.1))) h
    · split
      · exact (h.startSwitch may.1)
      · exact .ite (h.enterHold may.2.2.2) h

abbrev Ok.commitMark (C : Cap) : Prop := C (.part .sel) = true ∧ Ok.uncommit C ∧ Ok.commitSwitch C ∧ Ok.decide_ C

theorem Within.commitMark (h : Within C s₀ s) (may : Ok.commitMark C) : Within C s₀ (State.commitMark s) :=
  .bind (h.updSel may.1) fun h1 => .ite (h1.uncommit may.2.1) (.ite (.bind (h1.commitSwitch may.2.2.1) fun h2 => .ite (h2.decide_ may.2.2.2) h2) h1)

abbrev Ok.settleMark (C : Cap) : Prop := C (.part .sel) = true ∧ Ok.decide_ C ∧ Ok.setSel C ∧ Ok.raise C P.SEL

theorem Within.settleMark (h : Within C s₀ s) (may : Ok.settleMark C) : Within C s₀ (State.settleMark s) :=
  .bind (h.updSel may.1) fun h1 => .ite (h1.decide_ may.2.1) (.ite ((h1.setSel may.2.2.1).raise may.2.2.2) h1)

abbrev Ok.selAdvance (C : Cap) : Prop := Ok.abortSwitch C ∧ C (.part .sel) = true ∧ Ok.putSlot C ∧ Ok.setSel C ∧ Ok.commitMark C ∧ Ok.settleMark C ∧ Ok.decide_ C

theorem Within.selAdvance {fresh : Bool} (h : Within C s₀ s) (may : Ok.selAdvance C) : Within C s₀ (State.selAdvance s fresh) := by
  unfold State.selAdvance
  split
  · exact .ite (h.abortSwitch may.1) (.ite h (((h.updSel may.2.1).putSlot may.2.2.1).setSel may.2.2.2.1))
  · exact .ite (h.abortSwitch may.1) (h.updSel may.2.1)
  · exact (h.commitMark may.2.2.2.2.1)
  · exact (h.settleMark may.2.2.2.2.2.1)
  · exact (h.decide_ may.2.2.2.2.2.2)

abbrev Ok.selMark (C : Cap) : Prop := (∀ i < 12, Ok.candMark C i) ∧ Ok.disputes C ∧ C (.part .sel) = true ∧ Ok.takeReq C ∧ Ok.selAdvance C ∧ Ok.followReq C ∧ Ok.steerMark C ∧ Ok.showSel C

theorem Within.selMark (h : Within C s₀ s) (may : Ok.selMark C) : Within C s₀ (State.selMark s) := by
  unfold State.selMark
  extract_lets t1 t2 _ _ t3 t4 t5
  have h1 : Within C s₀ t1 := .foldl h fun _ m0 _ h1 => (h1.candMark (may.1 _ (List.mem_range.1 m0)))
  clear_value t1
  have h2 : Within C s₀ t2 := .ite (h1.disputes may.2.1) h1
  clear_value t2
  have h3 : Within C s₀ t3 := (h2.updSel may.2.2.1)
  have h4 : Within C s₀ t4 := .foldl h3 fun _ _ _ h4 => (h4.takeReq may.2.2.2.1)
  have h5 : Within C s₀ t5 := (h4.selAdvance may.2.2.2.2.1)
  exact .ite (.steerMark (.foldl h3 fun _ _ _ h6 => (h6.followReq may.2.2.2.2.2.1)) may.2.2.2.2.2.2.1) ((h5.steerMark may.2.2.2.2.2.2.1).showSel may.2.2.2.2.2.2.2)

abbrev Ok.tebHold (C : Cap) : Prop := C (.part .teb) = true ∧ Ok.set C R.TEB_HOLD_PS ∧ Ok.setFlag C R.TEB_STATUS_HOLD_USED ∧ Ok.setFlag C R.TEB_STATUS_FREQ_ONLY

theorem Within.tebHold {now : ℤ} (h : Within C s₀ s) (may : Ok.tebHold C) : Within C s₀ (State.tebHold s now) :=
  ((((h.updTeb may.1).set may.2.1).setFlag may.2.2.1).setFlag may.2.2.2)

abbrev Ok.tebCommit (C : Cap) : Prop := C (.part .teb) = true ∧ Ok.tebHold C

theorem Within.tebCommit {freq : Bool} (h : Within C s₀ s) (may : Ok.tebCommit C) : Within C s₀ (State.tebCommit s freq) :=
  .ite ((h.updTeb may.1).tebHold may.2) h

abbrev Ok.holdCommit (C : Cap) : Prop := Ok.holdEvt C ∧ C (.part .hold) = true ∧ Ok.set C R.HOLD_ENVELOPE_PS

theorem Within.holdCommit (h : Within C s₀ s) (may : Ok.holdCommit C) : Within C s₀ (State.holdCommit s) :=
  .bind (.ite (h.holdEvt may.1) h) fun h1 => ((h1.updHold may.2.1).set may.2.2)

abbrev Ok.selectorMark (C : Cap) : Prop := Ok.selMark C ∧ Ok.holdCommit C ∧ Ok.cores C ∧ Ok.tebCommit C

theorem Within.selectorMark (h : Within C s₀ s) (may : Ok.selectorMark C) : Within C s₀ (State.selectorMark s) :=
  .bind (h.selMark may.1) fun h1 => .ite (.tebCommit (.perCore h1 (fun _ h2 => (h2.holdCommit may.2.1)) may.2.2.1) may.2.2.2) h1

abbrev Ok.endClks (C : Cap) : Prop := (∀ i < 4, Ok.muteOut C i)

theorem Within.endClks (h : Within C s₀ s) (may : Ok.endClks C) : Within C s₀ (State.endClks s) :=
  .foldl h fun _ m0 _ h1 => .ite (h1.muteOut (may _ (List.mem_range.1 m0))) h1

abbrev Can.slewClks (C : Cap) : Bool := decide (Ok.putOut C ∧ (∀ i : Nat, i < 4 → Ok.setMisalign C i) ∧ (∀ i : Nat, i < 4 → Ok.setFlag C (outSlewing i)))

abbrev Ok.slewClks (C : Cap) : Prop := Can.slewClks C = true

theorem Within.slewClks (h : Within C s₀ s) (may : Ok.slewClks C) : Within C s₀ (State.slewClks s) :=
  .foldl h fun _ m0 _ h1 => .ite h1 (.bind (h1.putOut (of_decide_eq_true may).1) fun h2 => .bind (h2.setMisalign ((of_decide_eq_true may).2.1 _ (List.mem_range.1 m0))) fun h3 => (h3.setFlag ((of_decide_eq_true may).2.2 _ (List.mem_range.1 m0))))

abbrev Ok.leapFlag (C : Cap) : Prop := C (.part .ax) = true

theorem Within.leapFlag (h : Within C s₀ s) (may : Ok.leapFlag C) : Within C s₀ (State.leapFlag s) :=
  (h.updAx may (by rfl))

abbrev Ok.leapWarn (C : Cap) : Prop := Ok.setLeapPend C

theorem Within.leapWarn (h : Within C s₀ s) (may : Ok.leapWarn C) : Within C s₀ (State.leapWarn s) :=
  .ite (h.setLeapPend may).leapRec h

abbrev Ok.takeDue (C : Cap) : Prop := (C (.part .dug) = true ∧ C (.part .reins) = true) ∧ C (.part .ax) = true

theorem Within.takeDue (h : Within C s₀ s) (may : Ok.takeDue C) : Within C s₀ (State.takeDue s) :=
  .foldl (h.updDug may.1) fun _ _ _ h1 => .ite (h1.updAx may.2 (by rfl)) (h1.updAx may.2 (by rfl))

abbrev Ok.dropSet (C : Cap) : Prop := C (.part .ax) = true ∧ Ok.setRej C

theorem Within.dropSet {st : ℕ} (h : Within C s₀ s) (may : Ok.dropSet C) : Within C s₀ (State.dropSet s st) := by
  unfold State.dropSet
  split
  · exact ((h.updAx may.1 (by rfl)).setRej may.2)
  · exact h

abbrev Ok.announceSel (C : Cap) : Prop := Ok.selFrame C

theorem Within.announceSel {next : ℤ} (h : Within C s₀ s) (may : Ok.announceSel C) : Within C s₀ (State.announceSel s next) := by
  unfold State.announceSel
  split
  · exact (h.selFrame may)
  · exact .ite h (h.selFrame may)

abbrev Can.announce (C : Cap) : Bool := decide (Ok.takeDue C ∧ Ok.dropHostSteps C ∧ Ok.dropSet C ∧ C (.part .ax) = true ∧ Ok.announceSel C ∧ Ok.showStepPend C)

abbrev Ok.announce (C : Cap) : Prop := Can.announce C = true

theorem Within.announce (h : Within C s₀ s) (may : Ok.announce C) : Within C s₀ (State.announce s) := by
  unfold State.announce
  extract_lets t1 t2 _ t3 _ t4 t5 _ _ t6
  have h1 : Within C s₀ t1 := (h.takeDue (of_decide_eq_true may).1)
  clear_value t1
  have h2 : Within C s₀ t2 := ((h1.dropHostSteps (of_decide_eq_true may).2.1).dropSet (of_decide_eq_true may).2.2.1)
  clear_value t2
  have h3 : Within C s₀ t3 := ((h1.dropHostSteps (of_decide_eq_true may).2.1).dropSet (of_decide_eq_true may).2.2.1)
  clear_value t3
  have h4 : Within C s₀ t4 := .ite (h1.dropSet (of_decide_eq_true may).2.2.1) h1
  clear_value t4
  have h5 : Within C s₀ t5 := (h4.dropHostSteps (of_decide_eq_true may).2.1)
  clear_value t5
  have h6 : Within C s₀ t6 := .ite (h2.updAx (of_decide_eq_true may).2.2.2.1 (by rfl)) (by split; exacts [(h3.updAx (of_decide_eq_true may).2.2.2.1 (by rfl)), by split; exacts [(h5.updAx (of_decide_eq_true may).2.2.2.1 (by rfl)), (h4.updAx (of_decide_eq_true may).2.2.2.1 (by rfl))]])
  exact ((h6.announceSel (of_decide_eq_true may).2.2.2.2.1).showStepPend (of_decide_eq_true may).2.2.2.2.2)

abbrev Ok.announceAll (C : Cap) : Prop := Ok.announce C ∧ Ok.leapWarn C ∧ Ok.leapFlag C ∧ C (.part .ax) = true

theorem Within.announceAll (h : Within C s₀ s) (may : Ok.announceAll C) : Within C s₀ (State.announceAll s) :=
  .bind (((h.announce may.1).leapWarn may.2.1).leapFlag may.2.2.1) fun h1 => (h1.updAx may.2.2.2 (by rfl))

abbrev Ok.sweepMissed (C : Cap) : Prop := (C (.part .dug) = true ∧ C (.part .reins) = true) ∧ Ok.showReady C

theorem Within.sweepMissed (h : Within C s₀ s) (may : Ok.sweepMissed C) : Within C s₀ (State.sweepMissed s) :=
  .ite ((h.updDug may.1).showReady may.2) h

abbrev Ok.freeGone (C : Cap) : Prop := Ok.putSlotK C ∧ Ok.keyEvt C

theorem Within.freeGone {slot : ℕ} (h : Within C s₀ s) (may : Ok.freeGone C) : Within C s₀ (State.freeGone s slot) :=
  .ite h (.foldl (h.putSlotK may.1) fun _ _ _ h1 => (h1.keyEvt may.2))

abbrev Ok.keyMark (C : Cap) : Prop := Ok.putSlotK C ∧ Ok.freeGone C

theorem Within.keyMark (h : Within C s₀ s) (may : Ok.keyMark C) : Within C s₀ (State.keyMark s) := by
  refine .foldl ?_ fun _ _ _ h => .ite ((h.freeGone may.2).putSlotK may.1) (.ite ((h.freeGone may.2).putSlotK may.1) (h.freeGone may.2))
  split
  · exact .ite (h.putSlotK may.1) h
  · exact h

abbrev Ok.gnsMark (C : Cap) : Prop := C (.part .gns) = true ∧ Ok.set C (R.PG_STAT_BUSY P.GNS)

theorem Within.gnsMark (h : Within C s₀ s) (may : Ok.gnsMark C) : Within C s₀ (State.gnsMark s) :=
  .ite h (.bind (h.updGns may.1) fun h1 => .ite (h1.set may.2) h1)

abbrev Ok.lateEnables (C : Cap) : Prop := (∀ x1 : ℕ, Ok.startPage C x1)

theorem Within.lateEnables (h : Within C s₀ s) (may : Ok.lateEnables C) : Within C s₀ (State.lateEnables s) :=
  .foldl h.updHost fun _ _ _ h1 => (h1.startPage (may _))

abbrev Ok.judgeOver (C : Cap) : Prop := Ok.bump C R.TEB_OVERS_COUNT ∧ Ok.bump C R.TEB_OVER_MS_COUNT ∧ Ok.setFlag C R.TEB_STATUS_OVER ∧ Ok.level C P.TEB ∧ Ok.lineSet C

theorem Within.judgeOver {lim : ℕ} (h : Within C s₀ s) (may : Ok.judgeOver C) : Within C s₀ (State.judgeOver s lim) :=
  .bind (.ite (h.bump may.1) h) fun h1 => .bind (.ite (h1.bump may.2.1) h1) fun h2 => .ite h2 (((h2.setFlag may.2.2.1).level may.2.2.2.1).lineSet may.2.2.2.2)

abbrev Ok.sendPub (C : Cap) : Prop := C (.part .teb) = true

theorem Within.sendPub {pre : State} {c : ℕ} (h : Within C s₀ s) (may : Ok.sendPub C) : Within C s₀ (State.sendPub s pre c) :=
  .ite h (h.updTeb may)

abbrev Ok.tebRecords (C : Cap) : Prop := C (.part .teb) = true ∧ Ok.raise C P.TEB

theorem Within.tebRecords {comps : List ℕ} {srcs : List ℕ} (h : Within C s₀ s) (may : Ok.tebRecords C) : Within C s₀ (State.tebRecords s comps srcs) :=
  .bind (.ite (.raise (.trig (.bind h.takeFree fun h1 => (h1.updTeb may.1))) may.2) h) fun h1 => .ite h1 (h1.updTeb may.1).trig

abbrev Can.tebMark (C : Cap) : Bool := decide (Ok.set C R.TEB_BOUND_PS ∧ (∀ i : Nat, i < 24 → Ok.set C (R.TEB_PORT_PS i)) ∧ Ok.setFlag C R.TEB_STATUS_SAT ∧ Ok.level C P.TEB ∧ Ok.judgeValid C ∧ Ok.judgeOver C ∧ Ok.showClass C ∧ Ok.sendPub C ∧ Ok.tebRecords C)

abbrev Ok.tebMark (C : Cap) : Prop := Can.tebMark C = true

theorem Within.tebMark {pre : State} (h : Within C s₀ s) (may : Ok.tebMark C) : Within C s₀ (State.tebMark s pre) :=
  .bind (.foldl (h.set (of_decide_eq_true may).1) fun _ m0 _ h1 => (h1.set ((of_decide_eq_true may).2.1 _ (List.mem_range.1 m0)))) fun h1 => .tebRecords (.foldl (.showClass (.judgeOver (.judgeValid (.ite h1 ((h1.setFlag (of_decide_eq_true may).2.2.1).level (of_decide_eq_true may).2.2.2.1)) (of_decide_eq_true may).2.2.2.2.1) (of_decide_eq_true may).2.2.2.2.2.1) (of_decide_eq_true may).2.2.2.2.2.2.1) fun _ _ _ h2 => (h2.sendPub (of_decide_eq_true may).2.2.2.2.2.2.2.1)) (of_decide_eq_true may).2.2.2.2.2.2.2.2

abbrev Ok.learnY0 (C : Cap) : Prop := C (.part .hold) = true ∧ Ok.setS C R.HOLD_Y0_Y

theorem Within.learnY0 (h : Within C s₀ s) (may : Ok.learnY0 C) : Within C s₀ (State.learnY0 s) :=
  .ite h ((h.updHold may.1).setS may.2)

abbrev Ok.countSecond (C : Cap) : Prop := C (.part .hold) = true ∧ Ok.bump C R.HOLD_LEARNED_S ∧ Ok.learnY0 C ∧ Ok.showLearn C

theorem Within.countSecond (h : Within C s₀ s) (may : Ok.countSecond C) : Within C s₀ (State.countSecond s) :=
  ((((h.updHold may.1).bump may.2.1).learnY0 may.2.2.1).showLearn may.2.2.2)

abbrev Can.holdSecond (C : Cap) : Bool := decide (Ok.countSecond C ∧ C (.part .srv) = true ∧ C (.part .hold) = true ∧ Ok.set C R.HOLD_ELAPSED_S ∧ Ok.set C R.HOLD_ENVELOPE_PS)

abbrev Ok.holdSecond (C : Cap) : Prop := Can.holdSecond C = true

theorem Within.holdSecond (h : Within C s₀ s) (may : Ok.holdSecond C) : Within C s₀ (State.holdSecond s) :=
  .bind (.ite (h.countSecond (of_decide_eq_true may).1) h) fun h1 => .bind (h1.updSrv (of_decide_eq_true may).2.1) fun h2 => .bind (.ite (h2.updHold (of_decide_eq_true may).2.2.1) h2) fun h3 => .bind (.ite (h3.set (of_decide_eq_true may).2.2.2.1) h3) fun h4 => .ite (.bind (h4.updHold (of_decide_eq_true may).2.2.1) fun h5 => (h5.set (of_decide_eq_true may).2.2.2.2)) (.ite h4 (h4.set (of_decide_eq_true may).2.2.2.2))

abbrev Can.secondMark (C : Cap) : Bool := decide (Ok.holdSecond C ∧ Ok.cores C ∧ Ok.tebHold C)

abbrev Ok.secondMark (C : Cap) : Prop := Can.secondMark C = true

theorem Within.secondMark (h : Within C s₀ s) (may : Ok.secondMark C) : Within C s₀ (State.secondMark s) :=
  .ite (.tebHold (.perCore h (fun _ h1 => (h1.holdSecond (of_decide_eq_true may).1)) (of_decide_eq_true may).2.1) (of_decide_eq_true may).2.2) h

abbrev Ok.boundMark (C : Cap) : Prop := Ok.secondMark C ∧ Ok.tebMark C ∧ Ok.proveAbort C

theorem Within.boundMark {pre : State} (h : Within C s₀ s) (may : Ok.boundMark C) : Within C s₀ (State.boundMark s pre) :=
  .bind ((h.secondMark may.1).tebMark may.2.1) fun h1 => .ite (h1.proveAbort may.2.2) h1

abbrev Ok.logEfc (C : Cap) : Prop := C (.part .osc) = true

theorem Within.logEfc (h : Within C s₀ s) (may : Ok.logEfc C) : Within C s₀ (State.logEfc s) :=
  (h.updOsc may)

abbrev Ok.tebHoldRow (C : Cap) : Prop := Ok.tebHold C

theorem Within.tebHoldRow {now : ℤ} (h : Within C s₀ s) (may : Ok.tebHoldRow C) : Within C s₀ (State.tebHoldRow s now) :=
  .ite h (h.tebHold may)

abbrev Ok.upset (C : Cap) : Prop := Ok.putCtr C ∧ Ok.putImg C

theorem Within.upset {k : Nat} {r : CoreReport} (h : Within C s₀ s) (may : Ok.upset C) : Within C s₀ (s.upset k r) := by
  have moved : Within C s₀ (if r.dt = 0 then s else s.putCtr (2 + k) ((s.ctrOf (2 + k)).add r.dt)) := .ite h (h.putCtr may.1)
  exact .ite moved (moved.putImg may.2)

abbrev Ok.noteReport (C : Cap) (k : ℕ) : Prop := Ok.putCore C ∧ Ok.setS C (R.TCORE_FREQ_Y k) ∧ Ok.bumpBy C (R.TCORE_SELF_ERR_COUNT k) ∧ Ok.raiseIf C (P.TCORE k)

theorem Within.noteReport {k : ℕ} {x : CoreInput} {r : CoreReport} (h : Within C s₀ s) (may : Ok.noteReport C k) : Within C s₀ (State.noteReport s k x r) :=
  ((((h.putCore may.1).setS may.2.1).bumpBy may.2.2.1).raiseIf may.2.2.2)

abbrev Ok.followCore (C : Cap) : Prop := C (.part .ax) = true

theorem Within.followCore {k : ℕ} {tick : ℕ} (h : Within C s₀ s) (may : Ok.followCore C) : Within C s₀ (State.followCore s k tick) :=
  .ite h (h.updAx may (by rfl))

abbrev Ok.setFreq (C : Cap) : Prop := Ok.setS C R.VOTE_FREQ_Y

theorem Within.setFreq {y : ℤ} (h : Within C s₀ s) (may : Ok.setFreq C) : Within C s₀ (State.setFreq s y) :=
  (h.setS may)

abbrev Can.candAccept (C : Cap) (k : ℕ) : Bool := decide (Ok.putSlot C ∧ Ok.wrS C (R.CAND_OFFSET k) ∧ Ok.set C (R.CAND_NOISE_PS k) ∧ Ok.setS C (R.CAND_FREQ_Y k) ∧ Ok.showDiffs C)

abbrev Ok.candAccept (C : Cap) (k : ℕ) : Prop := Can.candAccept C k = true

theorem Within.candAccept {k : ℕ} {m : Meas} {pt : FreqPt} (h : Within C s₀ s) (may : Ok.candAccept C k) : Within C s₀ (State.candAccept s k m pt) := by
  unfold State.candAccept
  extract_lets _ _ t1 t2 t3
  have h1 : Within C s₀ t1 := (h.putSlot (of_decide_eq_true may).1)
  have h2 : Within C s₀ t2 := (h1.wrS (of_decide_eq_true may).2.1)
  have h3 : Within C s₀ t3 := (h2.set (of_decide_eq_true may).2.2.1)
  exact ((h3.setS (of_decide_eq_true may).2.2.2.1).showDiffs (of_decide_eq_true may).2.2.2.2)

abbrev Can.leaveLost (C : Cap) (k : ℕ) : Bool := decide (Ok.putSlot C ∧ Ok.freqOrigin C k ∧ Ok.wrS C (R.CAND_OFFSET k) ∧ Ok.setCand C k ∧ Ok.showDiffs C)

abbrev Ok.leaveLost (C : Cap) (k : ℕ) : Prop := Can.leaveLost C k = true

theorem Within.leaveLost {k : ℕ} {pt : FreqPt} {t : ℤ} {c : ℤ} {wait : Bool} (h : Within C s₀ s) (may : Ok.leaveLost C k) : Within C s₀ (State.leaveLost s k pt t c wait) := by
  unfold State.leaveLost
  extract_lets _ t1 t2
  have h1 : Within C s₀ t1 := (h.putSlot (of_decide_eq_true may).1)
  have h2 : Within C s₀ t2 := .ite (h1.freqOrigin (of_decide_eq_true may).2.1) h1
  exact (((h2.wrS (of_decide_eq_true may).2.2.1).setCand (of_decide_eq_true may).2.2.2.1).showDiffs (of_decide_eq_true may).2.2.2.2)

abbrev Ok.candJudge (C : Cap) (k : ℕ) : Prop := Ok.putSlot C ∧ Ok.setCand C k ∧ Ok.leaveLost C k

theorem Within.candJudge {k : ℕ} {why : ℕ} {hit : Bool} {pt : FreqPt} {t : ℤ} {c : ℤ} (h : Within C s₀ s) (may : Ok.candJudge C k) : Within C s₀ (State.candJudge s k why hit pt t c) :=
  .bind (.ite (h.putSlot may.1) h) fun h1 => .ite h1 (.ite (h1.setCand may.2.1) (.ite (.ite h1 (h1.leaveLost may.2.2)) (.ite (h1.setCand may.2.1) h1)))

abbrev Ok.collect (C : Cap) : Prop := Ok.putSlot C

theorem Within.collect {k : ℕ} {m : Meas} (h : Within C s₀ s) (may : Ok.collect C) : Within C s₀ (State.collect s k m) :=
  .ite (h.putSlot may) h

abbrev Ok.feed (C : Cap) : Prop := C (.part .sel) = true ∧ Ok.sendFeed C

theorem Within.feed {k : ℕ} {cold : Bool} {t : ℤ} {o : ℤ} (h : Within C s₀ s) (may : Ok.feed C) : Within C s₀ (State.feed s k cold t o) :=
  .ite ((h.updSel may.1).sendFeed may.2) h

abbrev Can.candSample (C : Cap) (k : ℕ) : Bool := decide (Ok.bump C (R.CAND_SAMPLES_COUNT k) ∧ Ok.putSlot C ∧ Ok.bump C (R.CAND_HITS_COUNT k) ∧ Ok.raise C (P.CAND k) ∧ Ok.candAccept C k ∧ Ok.candJudge C k ∧ Ok.feed C ∧ Ok.collect C)

abbrev Ok.candSample (C : Cap) (k : ℕ) : Prop := Can.candSample C k = true

theorem Within.candSample {k : ℕ} {t : ℤ} {c : ℤ} {o : ℤ} {cold : Bool} {srcOk : Bool} (h : Within C s₀ s) (may : Ok.candSample C k) : Within C s₀ (State.candSample s k t c o cold srcOk) :=
  .ite h (.bind (h.bump (of_decide_eq_true may).1) fun h1 => .bind (h1.putSlot (of_decide_eq_true may).2.1) fun h2 => .bind (.ite ((h2.bump (of_decide_eq_true may).2.2.1).raise (of_decide_eq_true may).2.2.2.1) (h2.candAccept (of_decide_eq_true may).2.2.2.2.1)) fun h3 => .bind (h3.candJudge (of_decide_eq_true may).2.2.2.2.2.1) fun h4 => .ite h4 ((h4.feed (of_decide_eq_true may).2.2.2.2.2.2.1).collect (of_decide_eq_true may).2.2.2.2.2.2.2))

abbrev Ok.tebUpdate (C : Cap) : Prop := C (.part .teb) = true

theorem Within.tebUpdate (h : Within C s₀ s) (may : Ok.tebUpdate C) : Within C s₀ (State.tebUpdate s) :=
  .ite h (h.updTeb may)

abbrev Ok.startClock (C : Cap) : Prop := C (.part .hold) = true ∧ Ok.setS C R.HOLD_TEMP0_T

theorem Within.startClock {now : ℤ} {au : ℕ} (h : Within C s₀ s) (may : Ok.startClock C) : Within C s₀ (State.startClock s now au) :=
  ((h.updHold may.1).setS may.2)

abbrev Ok.holdModel (C : Cap) : Prop := C (.part .hold) = true ∧ Ok.startClock C ∧ Ok.set C R.HOLD_STATUS_MODEL ∧ Ok.set C R.HOLD_STATUS_SEGMENT ∧ Ok.holdEvt C

theorem Within.holdModel {now : ℤ} (h : Within C s₀ s) (may : Ok.holdModel C) : Within C s₀ (State.holdModel s now) :=
  .ite h (.ite (.bind (h.updHold may.1) fun h1 => .bind (h1.startClock may.2.1) fun h2 => ((((h2.updHold may.1).set may.2.2.1).set may.2.2.2.1).holdEvt may.2.2.2.2)) (h.set may.2.2.1))

abbrev Ok.setSrv (C : Cap) : Prop := Ok.set C R.SRV_STATUS_STATE ∧ Ok.setFlag C R.HOLD_STATUS_IN_HOLD ∧ Ok.set C R.HOLD_ENVELOPE_PS ∧ Ok.set C R.SRV_STATUS_SLOT ∧ Ok.raise C P.SRV

theorem Within.setSrv {new : ℕ} (h : Within C s₀ s) (may : Ok.setSrv C) : Within C s₀ (State.setSrv s new) :=
  .ite h (.bind ((h.set may.1).setFlag may.2.1) fun h1 => .bind (.ite h1 (h1.set may.2.2.1)) fun h2 => .trig (.raise (.ite h2 (h2.set may.2.2.2.1)) may.2.2.2.2))

abbrev Can.enterHoldover (C : Cap) : Bool := decide (C (.part .hold) = true ∧ Ok.startClock C ∧ Ok.wrT C R.HOLD_ENTER_T ∧ Ok.bump C R.HOLD_ENTRIES_COUNT ∧ Ok.set C R.HOLD_ELAPSED_S ∧ Ok.set C R.HOLD_STATUS_SEGMENT ∧ Ok.set C R.HOLD_ENVELOPE_PS ∧ Ok.setSrv C ∧ Ok.holdEvt C ∧ Ok.writeHold C)

abbrev Ok.enterHoldover (C : Cap) : Prop := Can.enterHoldover C = true

theorem Within.enterHoldover {now : ℤ} (h : Within C s₀ s) (may : Ok.enterHoldover C) : Within C s₀ (State.enterHoldover s now) :=
  .bind (h.updHold (of_decide_eq_true may).1) fun h1 => .bind (((h1.startClock (of_decide_eq_true may).2.1).wrT (of_decide_eq_true may).2.2.1).bump (of_decide_eq_true may).2.2.2.1) fun h2 => .bind (((h2.set (of_decide_eq_true may).2.2.2.2.1).set (of_decide_eq_true may).2.2.2.2.2.1).set (of_decide_eq_true may).2.2.2.2.2.2.1) fun h3 => ((((h3.updHold (of_decide_eq_true may).1).setSrv (of_decide_eq_true may).2.2.2.2.2.2.2.1).holdEvt (of_decide_eq_true may).2.2.2.2.2.2.2.2.1).writeHold (of_decide_eq_true may).2.2.2.2.2.2.2.2.2)

abbrev Ok.enterSwitchHold (C : Cap) : Prop := Ok.startClock C ∧ Ok.set C R.HOLD_ENVELOPE_PS ∧ Ok.setSrv C

theorem Within.enterSwitchHold {now : ℤ} (h : Within C s₀ s) (may : Ok.enterSwitchHold C) : Within C s₀ (State.enterSwitchHold s now) :=
  (((h.startClock may.1).set may.2.1).setSrv may.2.2)

abbrev Can.takeSel (C : Cap) : Bool := decide (C (.part .srv) = true ∧ Ok.setSrv C ∧ Ok.enterHoldover C ∧ Ok.enterSwitchHold C)

abbrev Ok.takeSel (C : Cap) : Prop := Can.takeSel C = true

theorem Within.takeSel {now : ℤ} (h : Within C s₀ s) (may : Ok.takeSel C) : Within C s₀ (State.takeSel s now) :=
  .bind (h.updSrv (of_decide_eq_true may).1) fun h1 => .ite (h1.setSrv (of_decide_eq_true may).2.1) (.ite (.ite h1 (h1.enterHoldover (of_decide_eq_true may).2.2.1)) (.ite (h1.enterSwitchHold (of_decide_eq_true may).2.2.2) h1))

abbrev Can.lockTest (C : Cap) : Bool := decide (C (.part .srv) = true ∧ Ok.setSrv C ∧ Ok.bump C R.SRV_LOCKS_COUNT ∧ Ok.raise C P.SRV ∧ Ok.bump C R.SRV_UNLOCKS_COUNT)

abbrev Ok.lockTest (C : Cap) : Prop := Can.lockTest C = true

theorem Within.lockTest {t : ℤ} {o : ℤ} (h : Within C s₀ s) (may : Ok.lockTest C) : Within C s₀ (State.lockTest s t o) :=
  .ite (.ite (.bind (h.updSrv (of_decide_eq_true may).1) fun h1 => .ite ((((h1.updSrv (of_decide_eq_true may).1).setSrv (of_decide_eq_true may).2.1).bump (of_decide_eq_true may).2.2.1).raise (of_decide_eq_true may).2.2.2.1) h1) (h.updSrv (of_decide_eq_true may).1)) (.ite (.bind (h.updSrv (of_decide_eq_true may).1) fun h1 => .ite ((((h1.updSrv (of_decide_eq_true may).1).setSrv (of_decide_eq_true may).2.1).bump (of_decide_eq_true may).2.2.2.2).raise (of_decide_eq_true may).2.2.2.1) h1) h)

abbrev Ok.acceptFeed (C : Cap) : Prop := C (.part .teb) = true ∧ C (.part .pipe) = true ∧ Ok.set C R.SRV_STATUS_SLOT ∧ C (.part .srv) = true ∧ Ok.wrS C R.SRV_OFFSET_LAST ∧ Ok.set C R.SRV_RESIDUAL_PS ∧ Ok.lockTest C

theorem Within.acceptFeed {f : FeedSample} (h : Within C s₀ s) (may : Ok.acceptFeed C) : Within C s₀ (State.acceptFeed s f) := by
  unfold State.acceptFeed
  extract_lets _ _ t1 t2 _ _ _ _ _ _ _ _ t3 t4 t5
  have h1 : Within C s₀ t1 := (h.updTebPipe may.1 may.2.1)
  clear_value t1
  have h2 : Within C s₀ t2 := (h1.set may.2.2.1)
  clear_value t2
  have h3 : Within C s₀ t3 := (h2.updSrv may.2.2.2.1)
  have h4 : Within C s₀ t4 := (h3.wrS may.2.2.2.2.1)
  have h5 : Within C s₀ t5 := (h4.set may.2.2.2.2.2.1)
  exact (h5.lockTest may.2.2.2.2.2.2)

abbrev Ok.acquire (C : Cap) : Prop := C (.part .srv) = true ∧ C (.part .hold) = true ∧ Ok.setSrv C

theorem Within.acquire {now : ℤ} (h : Within C s₀ s) (may : Ok.acquire C) : Within C s₀ (State.acquire s now) :=
  .bind (h.updSrv may.1) fun h1 => ((h1.updHold may.2.1).setSrv may.2.2)

abbrev Can.takeFeed (C : Cap) : Bool := decide (Ok.bump C R.SRV_SAMPLES_COUNT ∧ Ok.acquire C ∧ Ok.acceptFeed C)

abbrev Ok.takeFeed (C : Cap) : Prop := Can.takeFeed C = true

theorem Within.takeFeed {now : ℤ} {f : FeedSample} (h : Within C s₀ s) (may : Ok.takeFeed C) : Within C s₀ (State.takeFeed now s f) :=
  .bind (h.bump (of_decide_eq_true may).1) fun h1 => .ite ((h1.acquire (of_decide_eq_true may).2.1).acceptFeed (of_decide_eq_true may).2.2) (.ite (h1.acceptFeed (of_decide_eq_true may).2.2) h1)

abbrev Ok.setClamp (C : Cap) : Prop := Ok.setFlag C R.SRV_STATUS_CLAMP ∧ Ok.level C P.SRV ∧ Ok.bump C R.SRV_CLAMPS_COUNT

theorem Within.setClamp {on : Bool} (h : Within C s₀ s) (may : Ok.setClamp C) : Within C s₀ (State.setClamp s on) :=
  .ite h (.bind ((h.setFlag may.1).level may.2.1) fun h1 => .ite (h1.bump may.2.2) h1)

abbrev Ok.sendWord (C : Cap) : Prop := Ok.setClamp C ∧ C (.part .srv) = true ∧ Ok.setS C R.SRV_FREQ_OUT_Y ∧ Ok.setS C R.SRV_INTEG_Y

theorem Within.sendWord {raw : ℤ} (h : Within C s₀ s) (may : Ok.sendWord C) : Within C s₀ (State.sendWord s raw) :=
  .bind (h.setClamp may.1) fun h1 => .bind (h1.updSrv may.2.1) fun h2 => ((h2.setS may.2.2.1).setS may.2.2.2)

abbrev Ok.pulseRise (C : Cap) : Prop := Ok.putOut C

theorem Within.pulseRise {o : ℕ} {k : ℤ} {t : ℤ} (h : Within C s₀ s) (may : Ok.pulseRise C) : Within C s₀ (State.pulseRise s o k t) :=
  (h.putOut may)

abbrev Ok.putPos (C : Cap) : Prop := Ok.setS C (R.GNS_POS_MM 0) ∧ Ok.setS C (R.GNS_POS_MM 1) ∧ Ok.setS C (R.GNS_POS_MM 2)

theorem Within.putPos {p : ℤ × ℤ × ℤ} (h : Within C s₀ s) (may : Ok.putPos C) : Within C s₀ (State.putPos s p) :=
  (((h.setS may.1).setS may.2.1).setS may.2.2)

abbrev Ok.posSync (C : Cap) : Prop := Ok.set C R.GNS_STATUS_POS ∧ Ok.putPos C ∧ Ok.surveyClear C

theorem Within.posSync (h : Within C s₀ s) (may : Ok.posSync C) : Within C s₀ (State.posSync s) :=
  .ite ((h.set may.1).putPos may.2.1) (.ite (h.surveyClear may.2.2) h)

abbrev Ok.navTake (C : Cap) : Prop := C (.part .gns) = true

theorem Within.navTake {e : GnssEpoch} (h : Within C s₀ s) (may : Ok.navTake C) : Within C s₀ (State.navTake s e) :=
  (h.updGns may)

abbrev Ok.noiseTake (C : Cap) : Prop := C (.part .gns) = true

theorem Within.noiseTake {n1 : ℕ} {n5 : ℕ} (h : Within C s₀ s) (may : Ok.noiseTake C) : Within C s₀ (State.noiseTake s n1 n5) :=
  .ite (h.updGns may) (h.updGns may)

abbrev Ok.gnsEvt (C : Cap) : Prop := Ok.raise C P.GNS

theorem Within.gnsEvt {bit : ℕ} (h : Within C s₀ s) (may : Ok.gnsEvt C) : Within C s₀ (State.gnsEvt s bit) :=
  (h.raise may).gnsRec

abbrev Ok.flyAdvance (C : Cap) : Prop := C (.part .gns) = true

theorem Within.flyAdvance {stamp : ℤ} (h : Within C s₀ s) (may : Ok.flyAdvance C) : Within C s₀ (State.flyAdvance s stamp) :=
  (h.updGns may)

/-- The slot bound to GNSS is one of the twelve. -/

abbrev Ok.flyAnchor (C : Cap) : Prop := C (.part .gns) = true

theorem Within.flyAnchor {tai : Option Int} {full passing : Bool} (h : Within C s₀ s) (may : Ok.flyAnchor C) : Within C s₀ (s.flyAnchor tai full passing) := by
  unfold State.flyAnchor
  extract_lets n due
  clear_value n due
  split
  · exact h.updGns may
  · exact h.updGns may

abbrev Ok.learnGns (C : Cap) : Prop := C (.part .gns) = true

theorem Within.learnGns {l : List ConsMeas} (h : Within C s₀ s) (may : Ok.learnGns C) : Within C s₀ (State.learnGns s l) :=
  (h.updGns may)

abbrev Ok.posTake (C : Cap) : Prop := Ok.set C R.GNS_POS_QUAL_SATS ∧ Ok.set C R.GNS_POS_QUAL_SIGMA ∧ Ok.set C R.GNS_STATUS_POS ∧ Ok.putPos C ∧ C (.part .gns) = true ∧ Ok.set C R.GNS_SURVEY_LEFT_S

theorem Within.posTake {pos : Option (ℤ × ℤ × ℤ)} {sigma : ℕ} {sats : ℕ} (h : Within C s₀ s) (may : Ok.posTake C) : Within C s₀ (State.posTake s pos sigma sats) := by
  unfold State.posTake
  extract_lets t1 _ t2 _ _
  have h1 : Within C s₀ t1 := (h.set may.1)
  clear_value t1
  have h2 : Within C s₀ t2 := .ite h1 (h1.set may.2.1)
  clear_value t2
  split
  · exact h2
  · refine .ite ?_ ?_
    · exact ((h2.set may.2.2.1).putPos may.2.2.2.1)
    · refine .ite ?_ ?_
      · extract_lets t3
        have h3 : Within C s₀ t3 := (h2.updGns may.2.2.2.2.1)
        exact (((h3.set may.2.2.1).putPos may.2.2.2.1).set may.2.2.2.2.2)
      · exact h2

abbrev Ok.keepSol (C : Cap) : Prop := C (.part .gns) = true

theorem Within.keepSol {stamp : ℤ} {r : Option ℤ} (h : Within C s₀ s) (may : Ok.keepSol C) : Within C s₀ (State.keepSol s stamp r) := by
  unfold State.keepSol
  split
  · exact (h.updGns may)
  · exact (h.updGns may)

abbrev Ok.makeSample (C : Cap) : Prop := Ok.putSlot C ∧ C (.part .gns) = true

theorem Within.makeSample {stamp : ℤ} {r : ℤ} (h : Within C s₀ s) (may : Ok.makeSample C) : Within C s₀ (State.makeSample s stamp r) := by
  unfold State.makeSample
  split
  · exact h
  · extract_lets _ _ t1 _ _
    have h1 : Within C s₀ t1 := .ite h (h.putSlot may.1)
    clear_value t1
    exact (h1.updGns may.2)

abbrev Ok.octets (C : Cap) (a : ℕ) : Prop := Ok.wr C a ∧ Ok.wr C (a + 1)

theorem Within.octets {a : ℕ} {n : ℕ} (h : Within C s₀ s) (may : Ok.octets C a) : Within C s₀ (State.octets s a n) :=
  ((h.wr may.1).wr may.2)

abbrev Ok.goUp (C : Cap) (p : ℕ) : Prop := Ok.setLink C p ∧ Ok.putPort C

theorem Within.goUp {p : ℕ} (h : Within C s₀ s) (may : Ok.goUp C p) : Within C s₀ (State.goUp s p) :=
  ((h.setLink may.1).putPort may.2)

abbrev Ok.countRefusal (C : Cap) (dst : ℕ) : Prop := Ok.sta C dst 17 ∧ Ok.bump C (R.BUF_Q_DROP_COUNT dst) ∧ Ok.bump C (R.BUF_MC_DROP_COUNT dst)

theorem Within.countRefusal {dst : ℕ} {why : ℕ} {single : Bool} (h : Within C s₀ s) (may : dst < 24 → Ok.countRefusal C dst) : Within C s₀ (State.countRefusal s dst why single) := by
  by_cases low : dst < 24
  · exact .bind (.ite (h.sta (may low).1) h) fun h1 => .bind (.ite (h1.bump (may low).2.1) h1) fun h2 => .ite (h2.bump (may low).2.2) h2
  · unfold State.countRefusal
    rw [if_neg fun hit => low hit.2, if_neg fun hit => low hit.2.2, if_neg fun hit => low hit.2]
    exact h

abbrev Ok.queueCellsIn (C : Cap) : Prop := C (.part .sw) = true

theorem Within.queueCellsIn {f : SwFrame} (h : Within C s₀ s) (may : Ok.queueCellsIn C) : Within C s₀ (State.queueCellsIn s f) :=
  (h.updSw may)

abbrev Ok.admitFrame (C : Cap) : Prop := (∀ dst < 24, Ok.countRefusal C dst) ∧ Ok.bump C R.BUF_EXP_DROP_COUNT ∧ Ok.raise C P.BUF ∧ Ok.bump C R.BUF_SPILL_FULL_COUNT ∧ C (.part .sw) = true ∧ Ok.txResult C ∧ Ok.queueCellsIn C ∧ Ok.showBuf C

theorem Within.admitFrame {o : Offer} (h : Within C s₀ s) (may : Ok.admitFrame C) : Within C s₀ (State.admitFrame s o) := by
  unfold State.admitFrame
  extract_lets _ _ t1 t2 _ _ _ _ _ _ _ _ t3
  have h1 : Within C s₀ t1 := .foldl h fun _ _ _ h1 => .ite h1 (h1.countRefusal (may.1 _))
  clear_value t1
  have h2 : Within C s₀ t2 := .ite (.ite ((h1.bump may.2.1).raise may.2.2.1) ((h1.bump may.2.2.2.1).raise may.2.2.1)) h1
  clear_value t2
  have h3 : Within C s₀ t3 := (h2.updSw may.2.2.2.2.1)
  clear_value t3
  split
  · exact (h2.txResult may.2.2.2.2.2.1)
  · exact h2
  · exact ((h3.queueCellsIn may.2.2.2.2.2.2.1).showBuf may.2.2.2.2.2.2.2)

abbrev Ok.crcRetry (C : Cap) : Prop := Ok.bumpBy C R.DRM_CRC_RETRY_COUNT ∧ Ok.raiseIf C P.DRM

theorem Within.crcRetry {n : ℕ} (h : Within C s₀ s) (may : Ok.crcRetry C) : Within C s₀ (State.crcRetry s n) :=
  ((h.bumpBy may.1).raiseIf may.2)

abbrev Ok.dramTransfer (C : Cap) : Prop := Ok.injFlag C ∧ Ok.crcRetry C

theorem Within.dramTransfer {bad : Bool} (h : Within C s₀ s) (may : Ok.dramTransfer C) : Within C s₀ (s.dramTransfer bad).1 := by
  unfold State.dramTransfer
  split
  · exact .ite1 (h.injFlag may.1) ((h.injFlag may.1).crcRetry may.2)
  · exact h

abbrev Ok.dramUncorr (C : Cap) : Prop := Ok.bump C R.DRM_ECC_UNCORR_COUNT ∧ Ok.raise C P.DRM ∧ Ok.pulse C

theorem Within.dramUncorr (h : Within C s₀ s) (may : Ok.dramUncorr C) : Within C s₀ (State.dramUncorr s) :=
  (((h.bump may.1).raise may.2.1).pulse may.2.2)

abbrev Ok.dropFrame (C : Cap) : Prop := Ok.dropCopies C ∧ Ok.tidy C

theorem Within.dropFrame {f : SwFrame} (h : Within C s₀ s) (may : Ok.dropFrame C) : Within C s₀ (State.dropFrame s f) :=
  ((h.dropCopies may.1).tidy may.2)

abbrev Can.eccFrame (C : Cap) : Bool := decide (Ok.dramUncorr C ∧ Ok.bump C R.BUF_ECC_UNCORR_COUNT ∧ Ok.raise C P.BUF ∧ Ok.pulse C ∧ Ok.putSwFrame C ∧ C (.part .sw) = true ∧ Ok.dropFrame C)

abbrev Ok.eccFrame (C : Cap) : Prop := Can.eccFrame C = true

theorem Within.eccFrame {f : SwFrame} {dram : Bool} (h : Within C s₀ s) (may : Ok.eccFrame C) : Within C s₀ (State.eccFrame s f dram) :=
  .bind (.putSwFrame (.ite (h.dramUncorr (of_decide_eq_true may).1) (((h.bump (of_decide_eq_true may).2.1).raise (of_decide_eq_true may).2.2.1).pulse (of_decide_eq_true may).2.2.2.1)) (of_decide_eq_true may).2.2.2.2.1) fun h1 => ((h1.updSw (of_decide_eq_true may).2.2.2.2.2.1).dropFrame (of_decide_eq_true may).2.2.2.2.2.2)

abbrev Ok.expCross (C : Cap) : Prop := Ok.set C R.SWF_EXP_MAX_NS ∧ Ok.bump C R.SWF_EXP_OVER_COUNT ∧ Ok.raise C P.SWF

theorem Within.expCross {f : SwFrame} {land : ℤ} (h : Within C s₀ s) (may : Ok.expCross C) : Within C s₀ (State.expCross s f land) :=
  .ite h (.bind (.ite (h.set may.1) h) fun h1 => .ite ((h1.bump may.2.1).raise may.2.2) h1)

abbrev Ok.sendGood (C : Cap) (p : ℕ) : Prop := Ok.sta C p 12 ∧ Ok.sta C p 14 ∧ Ok.sta C p 13 ∧ Ok.octets C (R.STA_TX_OCTETS p)

theorem Within.sendGood {p : ℕ} {f : Frame} {land : ℤ} (h : Within C s₀ s) (may : Ok.sendGood C p) : Within C s₀ (State.sendGood s p f land) :=
  .bind (h.sta may.1) fun h1 => .emit (.octets (.ite (h1.sta may.2.1) (.ite (h1.sta may.2.2.1) h1)) may.2.2.2)

abbrev Ok.showTsf (C : Cap) (p : ℕ) : Prop := Ok.set C (R.PRT_TSF_STAT_LEVEL p) ∧ Ok.set C (R.PRT_TSF_STAT_HWM p)

theorem Within.showTsf {p : ℕ} (h : Within C s₀ s) (may : Ok.showTsf C p) : Within C s₀ (State.showTsf s p) :=
  .bind (h.set may.1) fun h1 => .ite (h1.set may.2) h1

abbrev Ok.tsfStore (C : Cap) (p : ℕ) : Prop := Ok.sta C p 20 ∧ Ok.raise C (P.PRT p) ∧ Ok.putPort C ∧ Ok.showTsf C p

theorem Within.tsfStore {p : ℕ} {stamp : ℤ} {tag : ℕ} {ring : ℕ} {origin : ℕ} (h : Within C s₀ s) (may : Ok.tsfStore C p) : Within C s₀ (State.tsfStore s p stamp tag ring origin) :=
  .ite (((h.sta may.1).raise may.2.1).putPort may.2.2.1) ((h.putPort may.2.2.1).showTsf may.2.2.2)

abbrev Ok.putCar (C : Cap) : Prop := Ok.putCoach C

theorem Within.putCar {c : ℕ} {k : Carriage} (h : Within C s₀ s) (may : Ok.putCar C) : Within C s₀ (State.putCar s c k) :=
  (h.putCoach may)

abbrev Ok.cltEcc (C : Cap) : Prop := Ok.dramUncorr C ∧ Ok.bump C R.CLT_ECC_LOST_COUNT ∧ Ok.raise C P.CLT ∧ Ok.putEntry C

theorem Within.cltEcc {i : ℕ} (h : Within C s₀ s) (may : Ok.cltEcc C) : Within C s₀ (State.cltEcc s i) := by
  unfold State.cltEcc
  extract_lets t1
  have h1 : Within C s₀ t1 := (((h.dramUncorr may.1).bump may.2.1).raise may.2.2.1)
  clear_value t1
  split
  · exact (h1.putEntry may.2.2.2)
  · exact h1

abbrev Ok.charge (C : Cap) : Prop := C (.part .clt) = true ∧ Ok.bump C R.RATE_PASSED_COUNT ∧ Ok.bump C R.RATE_KISS_COUNT ∧ Ok.raise C P.RATE ∧ Ok.bump C R.RATE_DROP_NTP_COUNT ∧ Ok.set C R.RATE_LAST_DROP_BUCKET ∧ Ok.bump C R.RATE_DROP_PTP_COUNT

theorem Within.charge {g : ℕ} {hash : ℕ} {ntp : Bool} {t : ℤ} (h : Within C s₀ s) (may : Ok.charge C) : Within C s₀ (State.charge s g hash ntp t).2 :=
  .ite2 (.ite2 ((h.updClt may.1).bump may.2.1) (.ite2 (((h.updClt may.1).bump may.2.2.1).raise may.2.2.2.1) ((((h.updClt may.1).bump may.2.2.2.2.1).raise may.2.2.2.1).set may.2.2.2.2.2.1))) (.ite2 ((h.updClt may.1).bump may.2.1) ((((h.updClt may.1).bump may.2.2.2.2.2.2).raise may.2.2.2.1).set may.2.2.2.2.2.1))

abbrev Ok.startVerify (C : Cap) : Prop := Ok.sendPin C

theorem Within.startVerify {c : Nat} {k : Carriage} (h : Within C s₀ s) (may : Ok.startVerify C) : Within C s₀ (s.startVerify c k).2 := by
  unfold State.startVerify
  split
  · split
    · exact h.sendPin may
    · exact h
  · split
    · exact h
    · split
      · exact (h.sendPin may).sendPin may
      · exact h
  · exact h

abbrev Ok.toVerify (C : Cap) : Prop := Ok.startVerify C ∧ Ok.clientPlace C ∧ Ok.putCar C

theorem Within.toVerify {c : Nat} {k0 : Carriage} (h : Within C s₀ s) (may : Ok.toVerify C) : Within C s₀ (s.toVerify c k0) := by
  have started : Within C s₀ (s.startVerify c k0).2 := h.startVerify may.1
  unfold State.toVerify
  generalize s.startVerify c k0 = r at started
  dsimp only
  split
  · exact (started.clientPlace may.2.1).putCar may.2.2
  · exact started.putCar may.2.2

abbrev Ok.endRunning (C : Cap) : Prop := C (.part .key) = true ∧ Ok.keyDone C ∧ Ok.keyRun C

theorem Within.endRunning {st : ℕ} (h : Within C s₀ s) (may : Ok.endRunning C) : Within C s₀ (State.endRunning s st) := by
  unfold State.endRunning
  split
  · extract_lets _ t1
    have h1 : Within C s₀ t1 := ((h.updKey may.1).keyDone may.2.1)
    exact (h1.keyRun may.2.2)
  · exact h

abbrev Ok.takePin (C : Cap) : Prop := C (.part .key) = true ∧ Ok.putSlotK C

theorem Within.takePin {c : ℕ} {pin : Bool} (h : Within C s₀ s) (may : Ok.takePin C) : Within C s₀ (State.takePin s c pin) := by
  unfold State.takePin
  split
  · exact .ite ((h.updKey may.1).putSlotK may.2) h
  · exact h

abbrev Ok.putTmpNow (C : Cap) : Prop := Ok.set C R.TMP_NOW_SENSOR ∧ Ok.level C P.TMP ∧ Ok.lineSet C

theorem Within.putTmpNow {k : ℕ} {on : Bool} (h : Within C s₀ s) (may : Ok.putTmpNow C) : Within C s₀ (State.putTmpNow s k on) :=
  .bind (h.set may.1) fun h1 => ((h1.level may.2.1).lineSet may.2.2)

abbrev Ok.abortKv (C : Cap) : Prop := Ok.endRunning C ∧ C (.part .key) = true ∧ Ok.lcyDone C ∧ Ok.attDone C

theorem Within.abortKv (h : Within C s₀ s) (may : Ok.abortKv C) : Within C s₀ (State.abortKv s) :=
  .bind (h.endRunning may.1) fun h1 => .bind (.ite (.bind (h1.updKey may.2.1) fun h2 => .ite (h2.lcyDone may.2.2.1) h2) h1) fun h2 => .ite ((h2.updKey may.2.1).attDone may.2.2.2) h2

abbrev Ok.tamperStop (C : Cap) (c : ℕ) : Prop := Ok.loseAll C (R.CO_KEY_OFF_COUNT c)

theorem Within.tamperStop {c : ℕ} (h : Within C s₀ s) (may : Ok.tamperStop C c) : Within C s₀ (State.tamperStop s c) :=
  (h.loseAll may)

abbrev Can.tamper (C : Cap) : Bool := decide (Ok.putTmpNow C ∧ Ok.wr C R.TMP_LATCH ∧ Ok.set C R.TMP_FIRST_SENSOR ∧ Ok.bump C R.TMP_ALARMS_COUNT ∧ Ok.raise C P.TMP ∧ Ok.lineOn C ∧ Ok.closeWindow C ∧ Ok.abortKv C ∧ Ok.zeroize C ∧ Ok.set C R.BOOT_CAUSE_KEYS_SUPPRESSED ∧ (∀ i : Nat, i < 6 → Ok.tamperStop C i) ∧ Ok.tamperDisable C)

abbrev Ok.tamper (C : Cap) : Prop := Can.tamper C = true

theorem Within.tamper {k : ℕ} (h : Within C s₀ s) (may : Ok.tamper C) : Within C s₀ (State.tamper s k) :=
  .bind (h.putTmpNow (of_decide_eq_true may).1) fun h1 => .bind (h1.wr (of_decide_eq_true may).2.1) fun h2 => .bind (.raise (.bump (.ite (h2.set (of_decide_eq_true may).2.2.1) h2) (of_decide_eq_true may).2.2.2.1) (of_decide_eq_true may).2.2.2.2.1) fun h3 => .bind ((((h3.trigAt.lineOn (of_decide_eq_true may).2.2.2.2.2.1).closeWindow (of_decide_eq_true may).2.2.2.2.2.2.1).closeWindow (of_decide_eq_true may).2.2.2.2.2.2.1).closeWindow (of_decide_eq_true may).2.2.2.2.2.2.1) fun h4 => .bind (.ite ((h4.abortKv (of_decide_eq_true may).2.2.2.2.2.2.2.1).zeroize (of_decide_eq_true may).2.2.2.2.2.2.2.2.1) h4) fun h5 => .tamperDisable (.foldl (.ite (h5.set (of_decide_eq_true may).2.2.2.2.2.2.2.2.2.1) h5) fun _ m0 _ h6 => (h6.tamperStop ((of_decide_eq_true may).2.2.2.2.2.2.2.2.2.2.1 _ (List.mem_range.1 m0)))) (of_decide_eq_true may).2.2.2.2.2.2.2.2.2.2.2

abbrev Ok.cancelGen (C : Cap) : Prop := C (.part .staging) = true ∧ C (.part .gen) = true ∧ Ok.set C R.GEN_LAGGARDS_ISLANDS ∧ Ok.set C R.GEN_NEXT_GEN ∧ Ok.set C R.GEN_CMD_STATUS ∧ Ok.setGenState C ∧ Ok.bump C R.GEN_CANCELS_COUNT ∧ Ok.raise C P.GEN

theorem Within.cancelGen {missing : ℕ} (h : Within C s₀ s) (may : Ok.cancelGen C) : Within C s₀ (State.cancelGen s missing) := by
  unfold State.cancelGen
  extract_lets _ _ t1 t2
  have h1 : Within C s₀ t1 := (h.updStagingGen may.1 may.2.1)
  have h2 : Within C s₀ t2 := ((((h1.set may.2.2.1).set may.2.2.2.1).set may.2.2.2.2.1).setGenState may.2.2.2.2.2.1)
  exact ((h2.bump may.2.2.2.2.2.2.1).raise may.2.2.2.2.2.2.2).genRec

abbrev Ok.endApply (C : Cap) : Prop := Ok.setGenState C ∧ Ok.set C R.GEN_CMD_STATUS

theorem Within.endApply (h : Within C s₀ s) (may : Ok.endApply C) : Within C s₀ (State.endApply s) :=
  ((h.setGenState may.1).set may.2)

abbrev Ok.moveMc (C : Cap) (g : Migration) : Prop := (∀ i < 4, Ok.set C (mcFld (4 * (Migration.lane g / 4) + i)))

theorem Within.moveMc {g : Migration} (h : Within C s₀ s) (may : Ok.moveMc C g) : Within C s₀ (State.moveMc s g) :=
  .foldl h fun _ m0 _ h1 => .ite (h1.set (may _ (List.mem_range.1 m0))) h1

abbrev Ok.rewritePlaces (C : Cap) : Prop := Ok.clientPlace C ∧ C (.part .clt) = true

theorem Within.rewritePlaces {g : Migration} (h : Within C s₀ s) (may : Ok.rewritePlaces C) : Within C s₀ (State.rewritePlaces s g) :=
  .foldl (.foldl h fun _ _ _ h1 => (h1.clientPlace may.1)) fun _ _ _ h1 => (h1.updClt may.2)

abbrev Can.endReturn (C : Cap) : Bool := decide (C (.part .shunt) = true ∧ Ok.healLinks C ∧ Ok.shuntDone C)

abbrev Ok.endReturn (C : Cap) : Prop := Can.endReturn C = true

theorem Within.endReturn {kind idx : Nat} (h : Within C s₀ s) (may : Ok.endReturn C) : Within C s₀ (s.endReturn kind idx) := by
  have left : ∀ l, Within C s₀ { s with shunt := { s.shunt with back := l } } := fun _ => h.updShunt (of_decide_eq_true may).1
  have healed : ∀ u, Within C s₀ u → Within C s₀ (match unitIsland kind idx with | some i => u.healLinks i | none => u) := fun _ hu => by
    split
    · exact hu.healLinks (of_decide_eq_true may).2.1
    · exact hu
  exact .ite ((healed _ (left _)).shuntDone (of_decide_eq_true may).2.2) (healed _ (left _)).shuntRec

abbrev Ok.laneBad (C : Cap) : Prop := C (.part .shunt) = true ∧ Ok.pulse C ∧ Ok.set C R.SHNT_CMD_STATUS

theorem Within.laneBad {lane : ℕ} (h : Within C s₀ s) (may : Ok.laneBad C) : Within C s₀ (State.laneBad s lane) :=
  .bind ((h.updShunt may.1).pulse may.2.1) fun h1 => .ite ((h1.updShunt may.1).set may.2.2) h1

abbrev Ok.feedTheta (C : Cap) : Prop := C (.part .dug) = true ∧ Ok.sendFeed C

theorem Within.feedTheta {t2 : ℤ} {theta : ℤ} (h : Within C s₀ s) (may : Ok.feedTheta C) : Within C s₀ (State.feedTheta s t2 theta) :=
  .ite h ((h.updPeers (x := { s.dug with feedFirst := false }) may.1 rfl).sendFeed may.2)

abbrev Ok.peerSample (C : Cap) : Prop := ∀ k < 12, Ok.candSample C k

theorem Within.peerSample {n : ℕ} {t2 : ℤ} {theta : ℤ} {srcOk : Bool} (h : Within C s₀ s) (may : Ok.peerSample C) : Within C s₀ (State.peerSample s n t2 theta srcOk) := by
  unfold State.peerSample
  split
  next k found => exact h.candSample (may k (List.mem_range.1 (List.mem_of_find?_eq_some found)))
  · exact h

abbrev Ok.autoHandover (C : Cap) : Prop := Ok.startHandover C

theorem Within.autoHandover {now : ℤ} (h : Within C s₀ s) (may : Ok.autoHandover C) : Within C s₀ (State.autoHandover s now) := by
  unfold State.autoHandover
  refine .ite ?_ ?_
  · split
    · exact (h.startHandover may)
    · exact h
  · exact h

abbrev Ok.renew (C : Cap) : Prop := (C (.part .dug) = true ∧ C (.part .reins) = true) ∧ Ok.set C R.DUG_GUARD_NS ∧ Ok.dugSendAll C ∧ Ok.wrT C R.DUG_LEASE_END

theorem Within.renew {tick : ℕ} (h : Within C s₀ s) (may : Ok.renew C) : Within C s₀ (State.renew s tick) :=
  .bind (h.updDug may.1) fun h1 => .bind ((h1.set may.2.1).dugSendAll may.2.2.1) fun h2 => .ite (h2.wrT may.2.2.2) h2

abbrev Can.takeSelector (C : Cap) : Bool := decide (Ok.set C R.SEL_STATUS_STATE ∧ Ok.set C R.SEL_STATUS_TARGET ∧ Ok.set C R.SEL_STATUS_WAIT_VOTE ∧ Ok.set C R.SEL_STATUS_MANUAL ∧ C (.part .sel) = true ∧ Ok.showSel C ∧ Ok.showDiffs C ∧ Ok.enterHold C)

abbrev Ok.takeSelector (C : Cap) : Prop := Can.takeSelector C = true

theorem Within.takeSelector {now : ℤ} (h : Within C s₀ s) (may : Ok.takeSelector C) : Within C s₀ (State.takeSelector s now) :=
  .ite (.bind ((((h.set (of_decide_eq_true may).1).set (of_decide_eq_true may).2.1).set (of_decide_eq_true may).2.2.1).set (of_decide_eq_true may).2.2.2.1) fun h1 => (((h1.updSel (of_decide_eq_true may).2.2.2.2.1).showSel (of_decide_eq_true may).2.2.2.2.2.1).showDiffs (of_decide_eq_true may).2.2.2.2.2.2.1)) (h.enterHold (of_decide_eq_true may).2.2.2.2.2.2.2)

abbrev Can.becomeHolder (C : Cap) : Bool := decide ((C (.part .dug) = true ∧ C (.part .reins) = true) ∧ Ok.setRole C ∧ Ok.takeSelector C ∧ C (.part .clt) = true ∧ Ok.renew C ∧ Ok.wrT C R.DUG_LEASE_END)

abbrev Ok.becomeHolder (C : Cap) : Prop := Can.becomeHolder C = true

theorem Within.becomeHolder {tick : ℕ} (h : Within C s₀ s) (may : Ok.becomeHolder C) : Within C s₀ (State.becomeHolder s tick) :=
  .bind ((h.updDug (of_decide_eq_true may).1).setRole (of_decide_eq_true may).2.1) fun h1 => .bind (.ite (h1.takeSelector (of_decide_eq_true may).2.2.1) h1) fun h2 => .bind ((h2.updClt (of_decide_eq_true may).2.2.2.1).renew (of_decide_eq_true may).2.2.2.2.1) fun h3 => (h3.wrT (of_decide_eq_true may).2.2.2.2.2)

abbrev Can.loseHeart (C : Cap) (n : ℕ) : Bool := decide (Ok.set C (R.DUG_PEER_STAT_HB_OK n) ∧ Ok.bump C (R.DUG_HB_LOSS_COUNT n) ∧ Ok.raise C P.DUG ∧ Ok.showHeart C ∧ Ok.showFollow C ∧ Ok.enterHoldover C)

abbrev Ok.loseHeart (C : Cap) (n : ℕ) : Prop := Can.loseHeart C n = true

theorem Within.loseHeart {n : ℕ} {now : ℤ} (h : Within C s₀ s) (may : Ok.loseHeart C n) : Within C s₀ (State.loseHeart s n now) :=
  .ite h (.bind (((((h.set (of_decide_eq_true may).1).bump (of_decide_eq_true may).2.1).raise (of_decide_eq_true may).2.2.1).dugRec.showHeart (of_decide_eq_true may).2.2.2.1).showFollow (of_decide_eq_true may).2.2.2.2.1) fun h1 => .ite (h1.enterHoldover (of_decide_eq_true may).2.2.2.2.2) h1)

abbrev Ok.aoParity (C : Cap) : Prop := Ok.bump C R.AO_PARITY_ERR_COUNT ∧ Ok.raise C P.AO

theorem Within.aoParity {lines : List ℕ} (h : Within C s₀ s) (may : Ok.aoParity C) : Within C s₀ (State.aoParity s lines) :=
  .ite ((h.bump may.1).raise may.2) h

abbrev Ok.genLines (C : Cap) : Prop := (∀ i ∈ genIslands, Ok.fence C i) ∧ C (.part .gen) = true

theorem Within.genLines {lines : List Nat} {cuts : List (Nat × TxRef)} (h : Within C s₀ s) (may : Ok.genLines C) : Within C s₀ (s.genLines lines cuts) :=
  .ite h (.ite (.foldl h fun _ m _ h => h.fence (may.1 _ (List.mem_of_mem_filter (List.mem_of_mem_filter m)))) (h.updGen may.2))

abbrev Ok.thermal (C : Cap) : Prop := Ok.setFlag C R.THM_STATUS_ALERT ∧ Ok.level C P.THM ∧ Ok.setFlag C R.THM_STATUS_CRIT ∧ Ok.lineSet C ∧ Ok.thermPin C

theorem Within.thermal {tj : ℤ} (h : Within C s₀ s) (may : Ok.thermal C) : Within C s₀ (State.thermal s tj) :=
  ((((((h.setFlag may.1).level may.2.1).setFlag may.2.2.1).level may.2.1).lineSet may.2.2.2.1).thermPin may.2.2.2.2)

abbrev Ok.hotMs (C : Cap) : Prop := C (.part .boot) = true ∧ Ok.bump C R.THM_HOURS_HOT_COUNT

theorem Within.hotMs (h : Within C s₀ s) (may : Ok.hotMs C) : Within C s₀ (State.hotMs s) :=
  .ite (h.updBoot may.1) ((h.updBoot may.1).bump may.2)

abbrev Ok.spiAbort (C : Cap) : Prop := Ok.bump C R.SPI_ABORTED_COUNT ∧ Ok.set C R.SPI_STATUS_ABORTED

theorem Within.spiAbort (h : Within C s₀ s) (may : Ok.spiAbort C) : Within C s₀ (State.spiAbort s) :=
  ((h.bump may.1).set may.2)

theorem Within.ret {m : Master} {v : Word} (h : Within C s₀ s) : Within C s₀ (State.ret s m v) :=
  h.putMst

abbrev Ok.spiGood (C : Cap) : Prop := Ok.set C R.SPI_STATUS_ABORTED

theorem Within.spiGood (h : Within C s₀ s) (may : Ok.spiGood C) : Within C s₀ (State.spiGood s) :=
  (h.set may)

abbrev Ok.spiShow (C : Cap) : Prop := Ok.setFlag C R.SPI_STATUS_CRC ∧ Ok.setFlag C R.SPI_STATUS_ERR ∧ Ok.setFlag C R.SPI_STATUS_DONE

theorem Within.spiShow {crc : Bool} {err : Bool} {done : Bool} (h : Within C s₀ s) (may : Ok.spiShow C) : Within C s₀ (State.spiShow s crc err done) :=
  (((h.setFlag may.1).setFlag may.2.1).setFlag may.2.2)

abbrev Ok.pcieErrors (C : Cap) : Prop := Ok.bumpBy C R.PCI_ERR_CORR_COUNT ∧ Ok.bumpBy C R.PCI_ERR_UNCORR_COUNT ∧ Ok.raiseIf C P.PCI

theorem Within.pcieErrors {corr : ℕ} {uncorr : ℕ} (h : Within C s₀ s) (may : Ok.pcieErrors C) : Within C s₀ (State.pcieErrors s corr uncorr) :=
  (((h.bumpBy may.1).bumpBy may.2.1).raiseIf may.2.2)

abbrev Ok.admitHost (C : Cap) : Prop := Ok.demand C ∧ Ok.bump C R.SWF_DIS_DROP_COUNT ∧ Ok.admitFrame C

theorem Within.admitHost {fid : ℕ} {d : TxDesc} (h : Within C s₀ s) (may : Ok.admitHost C) : Within C s₀ (State.admitHost s fid d) :=
  .bind (h.demand may.1) fun h1 => .ite (h1.bump may.2.1) (h1.takeFree.admitFrame may.2.2)

abbrev Ok.takeTx (C : Cap) : Prop := Ok.putDma C ∧ Ok.admitHost C ∧ Ok.bump C R.DMA_BAD_DESC_COUNT

theorem Within.takeTx {q : ℕ} {idx : ℕ} {d : TxDesc} (h : Within C s₀ s) (may : Ok.takeTx C) : Within C s₀ (State.takeTx s q idx d) :=
  .bind (h.putDma may.1) fun h1 => .ite (h1.admitHost may.2.1) (h1.bump may.2.2)

abbrev Ok.dropHost (C : Cap) : Prop := Ok.dropCopies C ∧ Ok.tidy C ∧ Ok.showSwBusy C

theorem Within.dropHost {f : SwFrame} (h : Within C s₀ s) (may : Ok.dropHost C) : Within C s₀ (State.dropHost s f) :=
  (((h.dropCopies may.1).tidy may.2.1).showSwBusy may.2.2)

abbrev Ok.putPend (C : Cap) : Prop := Ok.set C R.DMA_DQ_PEND_PEND

theorem Within.putPend {n : ℕ} (h : Within C s₀ s) (may : Ok.putPend C) : Within C s₀ (State.putPend s n) :=
  (h.set may).vecRises

abbrev Ok.note (C : Cap) : Prop := Ok.putDma C ∧ Ok.putPend C

theorem Within.note {q : ℕ} {idx : ℕ} (h : Within C s₀ s) (may : Ok.note C) : Within C s₀ (State.note s q idx) :=
  .bind (h.putDma may.1) fun h1 => .ite (h1.putPend may.2) h1

abbrev Ok.putTap (C : Cap) : Prop := C (.part .boot) = true ∧ Ok.jtagHold C

theorem Within.putTap {t : TapInstr} (h : Within C s₀ s) (may : Ok.putTap C) : Within C s₀ (State.putTap s t) :=
  ((h.updBoot may.1).jtagHold may.2)

abbrev Ok.jtagRefused (C : Cap) : Prop := Ok.raise C P.GLB

theorem Within.jtagRefused (h : Within C s₀ s) (may : Ok.jtagRefused C) : Within C s₀ (State.jtagRefused s) :=
  .ite (h.raise may) h

end Sys2Proof.Machine
end

section
/-! PROOFS.
How a clause about a command is proved: its equation first, then what holds of the next state.
-/
namespace Sys2Proof.Machine
open Sys2Proof

theorem Completes.intro {c : Instr} {s t : State} {P : State → Prop} (e : exec c s = .next t) (h : P t) : Completes c s P := ⟨t, e, h⟩

theorem Within.getS_eq {g : Fld} {s t : State} (h : Within (Cap.away g) s t) : t.getS g = s.getS g := by
  unfold State.getS
  rw [h.get_eq]

theorem event_level (s : State) {p b : Nat} (h : b < 36) : Event (s.level p b true) p b := event_raise _ _ _ h

/-- The cause that holds a line stands among the causes. -/
theorem State.lineOn_causes (s : State) (l c : Nat) : (l, c) ∈ (s.lineOn l c).flt.causes := by
  unfold State.lineOn
  split
  next held => exact List.contains_iff_mem.mp held
  · exact List.mem_append_right _ (List.mem_singleton_self _)

/-! ## Registers only, and the registers outside a list -/

/-- What may be touched while only the registers at some slots change. -/
def Cap.slots (l : List Nat) : Cap
  | .fld f => decide (f.slot ∈ l)
  | .evt p => decide (R.PG_EVT p ∈ l)
  | .page _ => false
  | .part _ => true

theorem Within.onlySlots {l : List Nat} {s t : State} (h : Within (Cap.slots l) s t) : OnlySlots l s t := fun a out => by
  have same : t.get (whole a) = s.get (whole a) :=
    h.get _ (fun f m => .inl fun (e : f.slot = a) => out (e ▸ of_decide_eq_true m)) (fun p m (e : R.PG_EVT p = a) => out (e ▸ of_decide_eq_true m)) fun p m => by cases m
  unfold State.get at same
  rw [Fld.of_whole, Fld.of_whole] at same
  exact BitVec.eq_of_toNat_eq same

/-- What may be touched while only the registers of some pages change. -/
def Cap.pages (l : List Nat) : Cap
  | .fld f => decide (f.slot / 512 ∈ l)
  | .evt p => decide (p ∈ l)
  | .page p => decide (p ∈ l)
  | .part _ => true

theorem Within.onlyPages {l : List Nat} {s t : State} (h : Within (Cap.pages l) s t) : OnlyPages l s t := fun a out => by
  have same : t.get (whole a) = s.get (whole a) :=
    h.get _ (fun f m => .inl fun (e : f.slot = a) => out (e ▸ of_decide_eq_true m))
      (fun p m (e : p * 512 + 4 = a) => out (by rw [← e, show (p * 512 + 4) / 512 = p by omega]; exact of_decide_eq_true m))
      fun p m (e : a / 512 = p) => out (e ▸ of_decide_eq_true m)
  unfold State.get at same
  rw [Fld.of_whole, Fld.of_whole] at same
  exact BitVec.eq_of_toNat_eq same

theorem OnlyRegs.refl (s : State) : OnlyRegs s s := rfl

theorem OnlyRegs.wr {s t : State} {a : Nat} {v : Word} (h : OnlyRegs s t) : OnlyRegs s (t.wr a v) := by
  unfold OnlyRegs at h ⊢
  rw [h]
  rfl

theorem OnlyRegs.set {s t : State} {f : Fld} {n : Nat} (h : OnlyRegs s t) : OnlyRegs s (t.set f n) := h.wr

theorem OnlyRegs.setFlag {s t : State} {f : Fld} {b : Bool} (h : OnlyRegs s t) : OnlyRegs s (t.setFlag f b) := h.wr

theorem Within.mono {C D : Cap} {s t : State} (h : Within C s t) (le : ∀ x, C x = true → D x = true) : Within D s t :=
  ⟨fun g a b c => h.get g (fun f m => a f (le _ m)) (fun p m => b p (le _ m)) fun p m => c p (le _ m),
    fun p b a c => h.evt p b (fun f m => a f (le _ m)) fun q m => c q (le _ m),
    fun p off => h.part p (Bool.eq_false_iff.mpr fun on => Bool.false_ne_true (off.symm.trans (le _ on))), h.sent⟩

/-! ## What opens a register to a master -/

/-- The slots that open the path. -/
abbrev pathSlots : List Nat := [R.AO_ISLCLK_FAIL, R.BOOT_STAGE, R.PCI_LINK]

/-- What may be touched while the masters' path to the registers stays open or closed. -/
def Cap.path : Cap
  | .fld f => decide (f.slot ∉ pathSlots)
  | .evt _ => true
  | .page p => decide (p ∉ pathSlots.map (· / 512))
  | .part p => decide (p ≠ .boot ∧ p ≠ .isl)

section
variable {s t : State}

theorem State.islandDead_congr (isl : t.isl = s.isl) (clock : t.get R.AO_ISLCLK_FAIL_ISLANDS = s.get R.AO_ISLCLK_FAIL_ISLANDS) (i : Nat) : t.islandDead i = s.islandDead i := by
  unfold State.islandDead State.up
  rw [isl, clock]

theorem State.pageDead_congr (isl : t.isl = s.isl) (clock : t.get R.AO_ISLCLK_FAIL_ISLANDS = s.get R.AO_ISLCLK_FAIL_ISLANDS) (p : Nat) : t.pageDead p = s.pageDead p := by
  unfold State.pageDead
  simp only [State.islandDead_congr isl clock]

theorem State.hostUp_congr (boot : t.boot = s.boot) (isl : t.isl = s.isl) (clock : t.get R.AO_ISLCLK_FAIL_ISLANDS = s.get R.AO_ISLCLK_FAIL_ISLANDS)
    (stage : t.get R.BOOT_STAGE_STAGE = s.get R.BOOT_STAGE_STAGE) (link : t.flag R.PCI_LINK_UP = s.flag R.PCI_LINK_UP) (m : Master) : t.hostUp m = s.hostUp m := by
  unfold State.hostUp State.mgtServes State.tapInForce State.inHitched State.up
  rw [boot, isl, clock, stage, link]

theorem Within.pathAway {g : Fld} (h : Within Cap.path s t) (on : g.slot ∈ pathSlots) : t.get g = s.get g := by
  have notEvent : ∀ a ∈ pathSlots, a % 512 ≠ 4 := by decide
  refine h.get g (fun f m => .inl fun e => of_decide_eq_true m (e ▸ on)) (fun p _ e => notEvent _ on (e ▸ Nat.mul_add_mod' p 512 4)) fun p m e => ?_
  exact of_decide_eq_true m (e ▸ List.mem_map_of_mem on)

theorem Within.hostUp_eq (h : Within Cap.path s t) (m : Master) : t.hostUp m = s.hostUp m := by
  refine State.hostUp_congr (h.part .boot (by decide)) (h.part .isl (by decide)) (h.pathAway (by decide)) (h.pathAway (by decide)) ?_ m
  unfold State.flag
  rw [h.pathAway (by decide)]

theorem Within.pageDead_eq (h : Within Cap.path s t) (p : Nat) : t.pageDead p = s.pageDead p :=
  State.pageDead_congr (h.part .isl (by decide)) (h.pathAway (by decide)) p

end

end Sys2Proof.Machine
end

section
/-! PROOFS.
The release of the brake (spec/19, R454).
-/
namespace Sys2Proof.Machine
open Sys2Proof

theorem State.switchResume_eq (s : State) : s.switchResume = if !s.flt.swStopped then s else
    ((s.sw.frames.foldl (fun (t : State) f => t.dropCopies f (fun c => c.spilled)) { s with flt := { s.flt with swStopped := false } }).tidy).showSwBusy := rfl

/-- What RELEASED leaves of the fault part: switching has resumed (R452). -/
theorem State.switchResume_flt (s : State) : s.switchResume.flt = { s.flt with swStopped := false } := by
  rw [State.switchResume_eq]
  split
  · next h =>
    have off : s.flt.swStopped = false := by simpa using h
    rw [← off]
  · exact (Within.showSwBusy (.tidy (.foldl (.refl _) fun _ _ _ h => h.dropCopies (by decide)) (by decide)) (by decide)).flt_eq

/-- The outputs that wait to start again leave the faults as they are (R208). -/
theorem outputsWait_flt (s : State) : ((List.range 8).foldl (fun (t : State) o => (t.putSrc o 0).setMisalign o 0) s).flt = s.flt :=
  (Within.foldl (.refl s) fun _ _ _ h => (h.putSrc rfl).setMisalign ⟨⟨rfl, rfl⟩, rfl, rfl⟩).flt_eq

theorem exec_released {s : State} (asked : s.flt.releaseAsked = true) (row : s.releaseStatus = none) : exec .released s =
    .next (((((List.range 8).foldl (fun (t : State) o => (t.putSrc o 0).setMisalign o 0) (State.switchResume { s with flt := { s.flt with releaseAsked := false, brake := .off } })).set
      R.FLT_CMD_STATUS 2).raise P.FLT E.FLT_RELEASED).refreshFaults) := by
  have row' : State.releaseStatus { s with flt := { s.flt with releaseAsked := false } } = none := row
  show execReleased s = _
  unfold execReleased
  rw [if_pos asked]
  dsimp only
  rw [row']

theorem exec_fltRelease_refused {s : State} {m : Master} {st : Nat} (acc : Accepts s m R.FLT_CMD_STATUS) (row : s.releaseStatus = some st) :
    exec (.fltRelease m) s = .next (s.set R.FLT_CMD_STATUS st) := by
  show execFltRelease m s = _
  unfold execFltRelease
  rw [hostCmd_accepts acc]
  simp only [row]

theorem exec_fltRelease_taken {s : State} {m : Master} (acc : Accepts s m R.FLT_CMD_STATUS) (row : s.releaseStatus = none) :
    exec (.fltRelease m) s = .next (State.set { s with flt := { s.flt with releaseAsked := true } } R.FLT_CMD_STATUS 1) := by
  show execFltRelease m s = _
  unfold execFltRelease
  rw [hostCmd_accepts acc]
  simp only [row]

theorem releaseStatus_lt {s : State} {st : Nat} (row : s.releaseStatus = some st) : st < 2 ^ 4 := by
  unfold State.releaseStatus at row
  grind

/-- Settles O7: the rows of R454 are `State.releaseStatus`. -/
theorem brakeIsReleasedByTheTable : Obligations.BrakeIsReleasedByTheTable := by
  refine ⟨fun s m st acc row => ?_, fun s m acc row => ?_, fun s asked row => ?_⟩
  · exact .intro (exec_fltRelease_refused acc row) ⟨(State.get_set_same _ _ _ (by decide)).trans (Nat.mod_eq_of_lt (releaseStatus_lt row)), State.set_flt _ _ _⟩
  · exact .intro (exec_fltRelease_taken acc row) ⟨State.get_set_same _ _ _ (by decide), rfl, rfl⟩
  · refine .intro (exec_released asked row) ?_
    rw [(((Within.set (.refl _) (by decide)).raise (by decide)).refreshFaults (by decide)).flt_eq, outputsWait_flt, State.switchResume_flt]
    refine ⟨rfl, rfl, rfl, ?_, ?_⟩
    · rw [((Within.refl _).refreshFaults (by decide)).get_eq]
      simp (disch := decide)
    · exact ((Within.refl _).refreshFaults (by decide)).event (event_raise _ _ _ (by decide))

end Sys2Proof.Machine
end

section
/-! PROOFS.
The test access port (spec/02, R52, R53).
-/
namespace Sys2Proof.Machine
open Sys2Proof

theorem State.putTap_boot (s : State) (t : TapInstr) : (s.putTap t).boot = { s.boot with tap := t } :=
  (Within.jtagHold (.refl _) (by decide)).boot_eq

theorem State.putTap_key (s : State) (t : TapInstr) : (s.putTap t).key = s.key :=
  ((Within.refl s).putTap (by decide)).key_eq

theorem State.putTap_isl (s : State) (t : TapInstr) : (s.putTap t).isl = s.isl :=
  ((Within.refl s).putTap (by decide)).isl_eq

theorem State.putTap_inHitched (s : State) (t : TapInstr) : (s.putTap t).inHitched = s.inHitched := by
  unfold State.inHitched
  rw [State.up_congr (State.putTap_isl s t), ((Within.refl s).putTap (by decide)).get_eq]

/-- The port's instruction is in force where it takes the pins and the device is in reset or in HITCHED (R52). -/
theorem State.putTap_inForce (s : State) (t : TapInstr) : (s.putTap t).tapInForce = (t.pin?.isSome && (s.boot.resetLow || s.inHitched)) := by
  unfold State.tapInForce
  rw [State.putTap_boot, State.putTap_inHitched]

theorem State.jtagRefused_boot (s : State) : s.jtagRefused.boot = s.boot := ((Within.refl s).jtagRefused (by decide)).boot_eq

theorem State.jtagRefused_key (s : State) : s.jtagRefused.key = s.key := ((Within.refl s).jtagRefused (by decide)).key_eq

theorem State.jtagRefused_inForce (s : State) : s.jtagRefused.tapInForce = s.tapInForce := by
  have w {C : Cap} (may : Ok.jtagRefused C) : Within C s s.jtagRefused := (Within.refl s).jtagRefused may
  unfold State.tapInForce State.inHitched
  rw [(w (by decide)).boot_eq, State.up_congr (w (by decide)).isl_eq, (w (by decide)).get_eq]

theorem State.jtagRefused_event (s : State) (up : s.up islMGT = true) : Event s.jtagRefused P.GLB E.GLB_JTAG_REFUSED := by
  rw [State.jtagRefused, if_pos up]
  exact event_raise _ _ _ (by decide)

theorem State.putTap_up (s : State) (t : TapInstr) (i : Nat) : (s.putTap t).up i = s.up i := State.up_congr (State.putTap_isl s t) i

theorem exec_jtagPinInstruction {s : State} (i : PinInstr) (on : s.aoOn = true) : exec (.jtagPinInstruction i) s =
    .next (if (s.putTap (.pins i)).tapInForce then s.putTap (.pins i) else (s.putTap (.pins i)).jtagRefused) := by
  show execJtagPinInstruction i s = _
  rw [execJtagPinInstruction, if_neg (by simp [on])]

theorem exec_jtagPrivateInstruction {s : State} (on : s.aoOn = true) : exec .jtagPrivateInstruction s =
    if s.lcs = 0 ∨ s.lcs = 3 then .refused .privateTest else .next (s.putTap .bypass).jtagRefused := by
  show execJtagPrivateInstruction s = _
  rw [execJtagPrivateInstruction, if_neg (by simp [on])]

/-- While the start sequence waits behind the port, HOLD_WHY tells whether the instruction in force holds it (R59). -/
theorem State.jtagHold_why (s : State) (waits : s.boot.pos = .chosen ∨ s.boot.pos = .released ∨ s.boot.pos = .applied) :
    s.jtagHold.get R.BOOT_STAGE_HOLD_WHY = if s.tapInForce then 2 else 0 := by
  unfold State.jtagHold
  simp only [waits, decide_true, if_true]
  rw [State.get_set_same _ _ _ (by decide)]
  split <;> rfl

/-- Settles O35: outside its two conditions the port raises JTAG_REFUSED and takes no pin (R52, R53). -/
theorem testPortInstructionsAreGuarded : Obligations.TestPortInstructionsAreGuarded := by
  refine ⟨fun s i on => ⟨fun cond => ?_, fun high elsewhere => ?_⟩, fun s on => ⟨fun notMan notRet up => ?_, fun open' => ?_⟩, fun s => ?_⟩
  · have inForce : (s.putTap (.pins i)).tapInForce = true := by
      rw [State.putTap_inForce]
      simpa [TapInstr.pin?] using cond
    refine .intro (exec_jtagPinInstruction i on) ?_
    rw [if_pos inForce]
    exact ⟨by rw [State.putTap_boot], inForce, State.putTap_key _ _⟩
  · have out : (s.putTap (.pins i)).tapInForce = false := by
      rw [State.putTap_inForce]
      simp [high, elsewhere]
    refine .intro (exec_jtagPinInstruction i on) ?_
    rw [out, if_neg Bool.false_ne_true]
    refine ⟨?_, ?_, ?_, fun up => State.jtagRefused_event _ ?_⟩
    · rw [State.jtagRefused_boot, State.putTap_boot]
    · rw [State.jtagRefused_inForce, out]
    · rw [State.jtagRefused_key, State.putTap_key]
    · rw [State.putTap_up, up]
  · have e : exec .jtagPrivateInstruction s = .next (s.putTap .bypass).jtagRefused := by
      rw [exec_jtagPrivateInstruction on, if_neg (by omega)]
    refine .intro e ⟨?_, ?_, State.jtagRefused_event _ ?_⟩
    · rw [State.jtagRefused_boot, State.putTap_boot]
    · rw [State.jtagRefused_key, State.putTap_key]
    · rw [State.putTap_up, up]
  · rw [exec_jtagPrivateInstruction on, if_pos open']
  · refine ⟨s.putTap .reset, rfl, by rw [State.putTap_boot], by rw [State.putTap_inForce]; rfl, fun waits => ?_⟩
    have why := State.jtagHold_why { s with boot := { s.boot with tap := .reset } } waits
    rw [State.putTap, why]
    split <;> decide

end Sys2Proof.Machine
end

section
/-! PROOFS.
The junction sensors (spec/22, R506; spec/16, R391).
-/
namespace Sys2Proof.Machine
open Sys2Proof

/-- TJ and its peak after a sample (R506). -/
def State.thmPeaked (s : State) (tj : Int) : State :=
  if (s.setS R.THM_TJ_T tj).boot.thmSeen && decide (tj ≤ (s.setS R.THM_TJ_T tj).getS R.THM_TJ_PEAK_T) then s.setS R.THM_TJ_T tj
  else (s.setS R.THM_TJ_T tj).setS R.THM_TJ_PEAK_T tj

/-- The thresholds applied to TJ after a sample (R506). -/
def State.thmJudged (s : State) (tj : Int) : State :=
  State.thermal { s.thmPeaked tj with boot := { (s.thmPeaked tj).boot with thmSeen := true } } tj

/-- What a sample leaves before the tamper sensor looks at it (R506). -/
def State.thmTaken (s : State) (tj : Int) : State := if 102400 < tj then (s.thmJudged tj).hotMs else s.thmJudged tj

/-- The tamper sensor 4 on the junctions (R391). -/
def State.thmWatched (s : State) (bad : Bool) : State :=
  if bad && !bitOn (s.get R.TMP_NOW_SENSOR) 4 && s.watched 4 then s.tamper 4
  else if !bad && bitOn (s.get R.TMP_NOW_SENSOR) 4 then s.putTmpNow 4 false else s

theorem exec_thmSample {s : State} (on : s.aoOn = true) (t0 : Int) (rest : List Int) : exec (.thmSample (t0 :: rest)) s =
    .next ((s.thmTaken (clampInt (-131072) 131071 (rest.foldl max t0))).thmWatched ((t0 :: rest).any fun t => decide (128000 < t ∨ t < -46080))) := by
  show execThmSample (t0 :: rest) s = _
  unfold execThmSample
  simp only [on, Bool.not_true, Bool.false_eq_true, if_false]
  rfl

theorem le_foldl_max (l : List Int) (a : Int) : a ≤ l.foldl max a := by
  induction l generalizing a with
  | nil => exact le_refl a
  | cons b l ih => exact (le_max_left a b).trans (ih _)

theorem foldl_max_le (l : List Int) (a b : Int) (ha : a ≤ b) (hl : ∀ x ∈ l, x ≤ b) : l.foldl max a ≤ b :=
  List.foldlRecOn (motive := fun c => c ≤ b) l _ ha fun _ hc x hx => max_le hc (hl x hx)

theorem clampInt_of_mem {lo hi z : Int} (l : lo ≤ z) (u : z ≤ hi) : clampInt lo hi z = z := by
  rw [clampInt, min_eq_right u, max_eq_right l]

section
variable {C : Cap} {s₀ s : State} {tj : Int}

theorem Within.thmPeaked (h : Within C s₀ s) (may : Ok.set C R.THM_TJ_T ∧ Ok.set C R.THM_TJ_PEAK_T) : Within C s₀ (s.thmPeaked tj) :=
  .ite (h.setS may.1) ((h.setS may.1).setS may.2)

theorem Within.thmSeen (h : Within C s₀ s) (may : (Ok.set C R.THM_TJ_T ∧ Ok.set C R.THM_TJ_PEAK_T) ∧ C (.part .boot) = true) :
    Within C s₀ { s.thmPeaked tj with boot := { (s.thmPeaked tj).boot with thmSeen := true } } := (h.thmPeaked may.1).updBoot may.2

/-- What stands before the hot milliseconds stands after them, but `THM_HOURS_HOT`. -/
theorem Within.thmTaken (h : Within C s₀ (s.thmJudged tj)) (may : Ok.hotMs C) : Within C s₀ (s.thmTaken tj) := .ite (h.hotMs may) h

theorem Within.thmWatched {bad : Bool} (h : Within C s₀ s) (may : Ok.tamper C ∧ Ok.putTmpNow C) : Within C s₀ (s.thmWatched bad) :=
  .ite (h.tamper may.1) (.ite (h.putTmpNow may.2) h)

end

section
variable {s : State} {tj : Int}

theorem State.thmPeaked_boot (s : State) (tj : Int) : (s.thmPeaked tj).boot = s.boot := ((Within.refl s).thmPeaked (by decide)).boot_eq

theorem State.thmPeaked_tj (l : -131072 ≤ tj) (u : tj < 131072) : (s.thmPeaked tj).getS R.THM_TJ_T = tj := by
  have set : (s.setS R.THM_TJ_T tj).getS R.THM_TJ_T = tj := State.getS_setS _ _ _ (by decide) (by decide) l u
  unfold State.thmPeaked
  split
  · exact set
  · exact (((Within.refl _).setS (by decide)).getS_eq).trans set

theorem State.thmPeaked_peak (seen : s.boot.thmSeen = true) (l : -131072 ≤ tj) (u : tj < 131072) :
    (s.thmPeaked tj).getS R.THM_TJ_PEAK_T = max (s.getS R.THM_TJ_PEAK_T) tj := by
  have old : (s.setS R.THM_TJ_T tj).getS R.THM_TJ_PEAK_T = s.getS R.THM_TJ_PEAK_T := ((Within.refl s).setS (by decide)).getS_eq
  have seen' : (s.setS R.THM_TJ_T tj).boot.thmSeen = true := seen
  unfold State.thmPeaked
  rw [old, seen', Bool.true_and]
  split
  next le => rw [old, max_eq_left (of_decide_eq_true le)]
  next gt => rw [State.getS_setS _ _ _ (by decide) (by decide) l u, max_eq_right (by simpa using le_of_lt (not_le.mp (by simpa using gt)))]

/-- The alert threshold is met (R506). -/
theorem State.thermal_alert (hot : s.getS R.THM_ALERT_SET_T ≤ tj) : (s.thermal tj).get R.THM_STATUS_ALERT = 1 ∧ Event (s.thermal tj) P.THM E.THM_ALERT := by
  unfold State.thermal
  simp only [decide_eq_true hot, Bool.true_or]
  constructor
  · rw [((((Within.refl _).setFlag (by decide)).level (by decide)).lineSet (by decide)).thermPin (by decide) |>.get_eq, ((Within.refl _).level (by decide)).get_eq]
    exact State.setFlag_get_same _ _ _ (by decide) rfl
  · exact ((((Within.refl _).setFlag (by decide)).level (by decide)).lineSet (by decide)).thermPin (by decide) |>.event (event_level _ (by decide))

/-- The critical threshold is met, and holds line 26 (R506). -/
theorem State.thermal_crit (hot : min (s.getS R.THM_CRIT_T) 122880 ≤ tj) : (s.thermal tj).get R.THM_STATUS_CRIT = 1 ∧ (26, 1) ∈ (s.thermal tj).flt.causes := by
  unfold State.thermal
  simp only [decide_eq_true hot, Bool.true_or]
  constructor
  · rw [(((Within.refl _).level (by decide)).lineSet (by decide)).thermPin (by decide) |>.get_eq]
    exact State.setFlag_get_same _ _ _ (by decide) rfl
  · rw [((Within.refl _).thermPin (by decide)).flt_eq]
    exact State.lineOn_causes _ _ _

/-- Where the sensor is quiet and no junction is out of its range, the sample only shows (R391). -/
theorem State.thmWatched_quiet (quiet : bitOn (s.get R.TMP_NOW_SENSOR) 4 = false) : s.thmWatched false = s := by
  unfold State.thmWatched
  rw [quiet]
  rfl

/-- The condition of a sensor shows (R391). -/
theorem State.putTmpNow_on (s : State) : bitOn ((s.putTmpNow 4 true).get R.TMP_NOW_SENSOR) 4 = true := by
  unfold State.putTmpNow
  dsimp only
  rw [(((Within.refl _).level (by decide)).lineSet (by decide)).get_eq, State.get_set_same _ _ _ (by decide), bitOn, Nat.testBit_mod_two_pow, testBit_setBit]
  simp

/-- What an alarm sets stays set while it is answered (R392). -/
theorem State.tamper_four (s : State) : bitOn ((s.tamper 4).get R.TMP_NOW_SENSOR) 4 = true ∧ bitOn ((s.tamper 4).rd R.TMP_LATCH).toNat 4 = true ∧
    Event (s.tamper 4) P.TMP E.TMP_ALARM := by
  unfold State.tamper
  extract_lets first s1 s2 s3 s4 s5 s6 s7 s8 s9
  have answered {C : Cap} {t : State} (h : Within C t s4) (on : Ok.lineOn C) (close : Ok.closeWindow C) (abort : Ok.abortKv C) (zero : Ok.zeroize C)
      (keys : Ok.set C R.BOOT_CAUSE_KEYS_SUPPRESSED) (stop : ∀ c < 6, Ok.tamperStop C c) (off : Ok.tamperDisable C) :
      Within C t ((List.range 6).foldl (fun (t : State) c => t.tamperStop c) s9).tamperDisable :=
    .bind ((((h.trigAt.lineOn on).closeWindow close).closeWindow close).closeWindow close) fun closed => .bind (.ite ((closed.abortKv abort).zeroize zero) closed) fun h =>
      .tamperDisable (.foldl (.ite (h.set keys) h) fun _ m _ h => h.tamperStop (stop _ (List.mem_range.mp m))) off
  have s3_s2 {C : Cap} (may : Ok.set C R.TMP_FIRST_SENSOR) : Within C s2 s3 := .ite ((Within.refl _).set may) (.refl _)
  have latch : bitOn (s2.rd R.TMP_LATCH).toNat 4 = true := by
    show bitOn ((s1.wr R.TMP_LATCH _).rd R.TMP_LATCH).toNat 4 = true
    rw [State.rd_wr_same, BitVec.toNat_ofNat, bitOn, Nat.testBit_mod_two_pow, testBit_setBit]
    rfl
  refine ⟨?_, ?_, ?_⟩
  · rw [(answered (((s3_s2 (by decide)).bump (by decide)).raise (by decide)) (by decide) (by decide) (by decide) (by decide) (by decide) (by decide) (by decide)).get_eq]
    rw [((Within.refl _).wr (by decide)).get_eq]
    exact State.putTmpNow_on s
  · rw [(answered (((s3_s2 (by decide)).bump (by decide)).raise (by decide)) (by decide) (by decide) (by decide) (by decide) (by decide) (by decide) (by decide)).rd_eq]
    exact latch
  · exact (answered (.refl _) (by decide) (by decide) (by decide) (by decide) (by decide) (by decide) (by decide)).event (event_raise _ _ _ (by decide))

/-- The thresholds leave what the sample has counted (R506). -/
theorem State.thermal_boot (s : State) (tj : Int) : (s.thermal tj).boot.thmSeen = s.boot.thmSeen ∧ (s.thermal tj).boot.hotMs = s.boot.hotMs := by
  simp [State.thermal, State.thermPin]

theorem State.hotMs_thmSeen (s : State) : s.hotMs.boot.thmSeen = s.boot.thmSeen := by
  unfold State.hotMs
  split
  · rfl
  · simp

end

/-- Settles O46. -/
theorem junctionSensorsAreSampled : Obligations.JunctionSensorsAreSampled := by
  refine ⟨fun s t0 rest on range quiet => ?_, fun s temps on watched quiet ⟨x, mem, out⟩ => ?_⟩
  · have low : -46080 ≤ rest.foldl max t0 := (range t0 List.mem_cons_self).1.trans (le_foldl_max rest t0)
    have high : rest.foldl max t0 ≤ 128000 := foldl_max_le _ _ _ (range t0 List.mem_cons_self).2 fun y m => (range y (List.mem_cons_of_mem _ m)).2
    have inRange : ((t0 :: rest).any fun t => decide (128000 < t ∨ t < -46080)) = false :=
      List.any_eq_false.mpr fun y m => by have := range y m; simp; omega
    have e := exec_thmSample on t0 rest
    revert e low high
    generalize rest.foldl max t0 = tj
    intro low high e
    have frame {C : Cap} (may : (Ok.set C R.THM_TJ_T ∧ Ok.set C R.THM_TJ_PEAK_T) ∧ C (.part .boot) = true) (may' : Ok.thermal C) (may'' : Ok.hotMs C) :
        Within C s (s.thmTaken tj) := (((Within.refl s).thmSeen may).thermal may').thmTaken may''
    have late {C : Cap} (may' : Ok.thermal C) (may'' : Ok.hotMs C) : Within C { s.thmPeaked tj with boot := { (s.thmPeaked tj).boot with thmSeen := true } } (s.thmTaken tj) :=
      ((Within.refl _).thermal may').thmTaken may''
    have last {C : Cap} (may : Ok.hotMs C) : Within C (s.thmJudged tj) (s.thmTaken tj) := (Within.refl _).thmTaken may
    rw [clampInt_of_mem (by omega) (by omega), inRange, State.thmWatched_quiet (by rw [(frame (by decide) (by decide) (by decide)).get_eq]; exact quiet)] at e
    have alerts : (s.thmPeaked tj).getS R.THM_ALERT_SET_T = s.getS R.THM_ALERT_SET_T := ((Within.refl s).thmPeaked (by decide)).getS_eq
    have crits : (s.thmPeaked tj).getS R.THM_CRIT_T = s.getS R.THM_CRIT_T := ((Within.refl s).thmPeaked (by decide)).getS_eq
    refine .intro e ⟨?_, ?_, fun seen => ?_, fun hot => ?_, fun hot => ?_, fun cool => ?_, (frame (by decide) (by decide) (by decide)).rd_eq⟩
    · exact (late (by decide) (by decide)).getS_eq.trans (State.thmPeaked_tj (by omega) (by omega))
    · have judged : (s.thmJudged tj).boot.thmSeen = true := (State.thermal_boot _ _).1
      rw [State.thmTaken]
      split
      · rw [State.hotMs_thmSeen, judged]
      · exact judged
    · exact (late (by decide) (by decide)).getS_eq.trans (State.thmPeaked_peak seen (by omega) (by omega))
    · obtain ⟨shown, event⟩ := State.thermal_alert (s := { s.thmPeaked tj with boot := { (s.thmPeaked tj).boot with thmSeen := true } }) (alerts.trans_le hot)
      exact ⟨(last (by decide)).get_eq.trans shown, (last (by decide)).event event⟩
    · obtain ⟨shown, held⟩ := State.thermal_crit (s := { s.thmPeaked tj with boot := { (s.thmPeaked tj).boot with thmSeen := true } }) ((congrArg (min · 122880) crits).trans_le hot)
      exact ⟨(last (by decide)).get_eq.trans shown, (last (by decide)).flt_eq ▸ held⟩
    · rw [State.thmTaken, if_neg (not_lt.mpr cool)]
      exact (State.thermal_boot _ _).2.trans (congrArg BootPart.hotMs (State.thmPeaked_boot s tj : (s.thmPeaked tj).boot = s.boot) :)
  · cases temps with
    | nil => cases mem
    | cons t0 rest =>
      have outside : ((t0 :: rest).any fun t => decide (128000 < t ∨ t < -46080)) = true := List.any_eq_true.mpr ⟨x, mem, decide_eq_true out⟩
      have e := exec_thmSample on t0 rest
      rw [outside] at e
      revert e
      generalize clampInt (-131072) 131071 (rest.foldl max t0) = tj
      intro e
      have frame {C : Cap} (may : (Ok.set C R.THM_TJ_T ∧ Ok.set C R.THM_TJ_PEAK_T) ∧ C (.part .boot) = true) (may' : Ok.thermal C) (may'' : Ok.hotMs C) :
          Within C s (s.thmTaken tj) := (((Within.refl s).thmSeen may).thermal may').thmTaken may''
      have quiet' : bitOn ((s.thmTaken tj).get R.TMP_NOW_SENSOR) 4 = false := by rw [(frame (by decide) (by decide) (by decide)).get_eq]; exact quiet
      have watched' : (s.thmTaken tj).watched 4 = true := by
        unfold State.watched
        rw [(frame (by decide) (by decide) (by decide)).get_eq]
        exact watched
      rw [State.thmWatched, quiet', watched'] at e
      exact .intro e (State.tamper_four _)

end Sys2Proof.Machine
end

section
/-! PROOFS.
Attestation (spec/16, R396 to R398).
-/
namespace Sys2Proof.Machine
open Sys2Proof

section
variable {s : State} {m : Master}

/-- A statement completes with the status that its first failing test names (R396, R378). -/
theorem exec_statement_tampered (acc : Accepts s m R.ATT_CMD_STATUS) (latch : s.rd R.TMP_LATCH ≠ 0) : exec (.statement m) s = .next (s.attDone 6) := by
  show execStatement m s = _
  unfold execStatement
  rw [hostCmd_accepts acc]
  exact congrArg _ (if_pos latch)

theorem exec_statement_noMode (acc : Accepts s m R.ATT_CMD_STATUS) (latch : s.rd R.TMP_LATCH = 0) (none : s.key.attMode = 0 ∨ s.lcs = 3 ∨ s.lcs = 4) :
    exec (.statement m) s = .next (s.attDone 3) := by
  show execStatement m s = _
  unfold execStatement
  rw [hostCmd_accepts acc]
  dsimp only
  rw [if_neg (not_not.mpr latch), if_pos (by tauto)]

theorem exec_statement_attests (acc : Accepts s m R.ATT_CMD_STATUS) (latch : s.rd R.TMP_LATCH = 0) (idle : s.key.lcyRun = none) (three : s.lcs ≠ 3)
    (four : s.lcs ≠ 4) (mode : s.key.attMode = 1) (alive : s.key.alive = true) (ok : s.get R.ATT_STATUS_GEN_HASH_OK = 1) :
    exec (.statement m) s = .next (s.attest s.nowT) := by
  show execStatement m s = _
  unfold execStatement
  rw [hostCmd_accepts acc]
  simp [latch, idle, three, four, mode, alive, State.flag, ok]

theorem exec_statement_waits (acc : Accepts s m R.ATT_CMD_STATUS) (latch : s.rd R.TMP_LATCH = 0) (idle : s.key.lcyRun = none) (three : s.lcs ≠ 3)
    (four : s.lcs ≠ 4) (mode : s.key.attMode = 1) (alive : s.key.alive = true) (waits : s.get R.ATT_STATUS_GEN_HASH_OK = 0) :
    exec (.statement m) s = .next (State.set { s with key := { s.key with attAsked := some s.nowT } } R.ATT_CMD_STATUS 1) := by
  show execStatement m s = _
  unfold execStatement
  rw [hostCmd_accepts acc]
  simp [latch, idle, three, four, mode, alive, State.flag, waits]

theorem State.attDone_key (s : State) (st : Nat) : (s.attDone st).key = s.key := ((Within.refl s).attDone (by decide)).key_eq

theorem State.attDone_status (s : State) {st : Nat} (h : st < 2 ^ 4) : (s.attDone st).get R.ATT_CMD_STATUS = st := by
  unfold State.attDone
  rw [((Within.refl _).raise (by decide)).get_eq, State.get_set_same _ _ _ (by decide)]
  exact Nat.mod_eq_of_lt h

theorem State.attDone_event (s : State) (st : Nat) : Event (s.attDone st) P.ATT E.ATT_DONE := event_raise _ _ _ (by decide)

/-- A statement is held with its length (R396). -/
theorem State.attest_key (s : State) (now : Nat) : (s.attest now).key.attAsked = none ∧ (s.attest now).key.stmt.length = (if s.key.attMode = 1 then 93 else 81) := by
  unfold State.attest
  extract_lets st x tail n
  rw [(((Within.set (.refl _) (by decide)).bump (by decide)).attDone (by decide)).key_eq]
  exact ⟨rfl, by rw [packWords, List.length_map, List.length_range]⟩

theorem State.attest_shown (s : State) (now : Nat) : (s.attest now).get R.ATT_CMD_STATUS = 2 ∧ (s.attest now).get R.ATT_OUT_IDX_IDX = 0 ∧
    (s.attest now).get R.ATT_STATEMENTS_COUNT = min (s.get R.ATT_STATEMENTS_COUNT + 1) (2 ^ 36 - 1) ∧ Event (s.attest now) P.ATT E.ATT_DONE := by
  unfold State.attest
  extract_lets st x tail n
  refine ⟨State.attDone_status _ (by decide), ?_, ?_, State.attDone_event _ _⟩
  · rw [((Within.bump (.refl _) (by decide)).attDone (by decide)).get_eq]
    exact State.get_set_same _ _ _ (by decide)
  · rw [((Within.refl _).attDone (by decide)).get_eq, State.bump_get_same _ _ (by decide), ((Within.refl _).set (by decide)).get_eq]
    rfl

end

section
variable {s : State}

/-- The state once the hash of the generation stands in its registers (R398). -/
def State.hashed (s : State) : State :=
  (((packWords (bytesBE 48 (sha384Bytes s.genHashBytes)) 12).zipIdx.foldl (fun (t : State) (p : Word × Nat) => t.wr (R.ATT_GEN_HASH p.2) p.1) s).set
    R.ATT_STATUS_GEN_HASH_OK 1).raise P.ATT E.ATT_GEN_HASH

theorem State.hashed_key (s : State) : s.hashed.key = s.key :=
  (((Within.foldl (.refl s) fun _ _ _ h => h.wr rfl).set (by decide)).raise (by decide)).key_eq

theorem State.hashed_ok (s : State) : s.hashed.get R.ATT_STATUS_GEN_HASH_OK = 1 := by
  unfold State.hashed
  rw [((Within.refl _).raise (by decide)).get_eq]
  exact State.get_set_same _ _ _ (by decide)

theorem State.hashed_event (s : State) : Event s.hashed P.ATT E.ATT_GEN_HASH := event_raise _ _ _ (by decide)

theorem exec_genHash (kv : s.up islKV = true) (mgt : s.up islMGT = true) (waits : s.get R.ATT_STATUS_GEN_HASH_OK = 0) (gen : s.get R.GEN_IN_FORCE_GEN ≠ 0) :
    (s.key.attAsked = none → exec .genHash s = .next s.hashed) ∧ ∀ now, s.key.attAsked = some now → exec .genHash s = .next (s.hashed.attest now) := by
  have open' : ¬(!s.up islKV ∨ !s.up islMGT ∨ s.flag R.ATT_STATUS_GEN_HASH_OK ∨ s.get R.GEN_IN_FORCE_GEN = 0) := by simp [kv, mgt, State.flag, waits, gen]
  show (_ → execGenHash s = _) ∧ ∀ now, _ → execGenHash s = _
  unfold execGenHash
  rw [if_neg open', ← s.hashed_key]
  refine ⟨fun who => ?_, fun now who => ?_⟩
  · unfold State.hashed at who ⊢
    simp only [who]
  · unfold State.hashed at who ⊢
    simp only [who]

end

/-- Settles O36: mode 0 answers STATE, and TAMPER comes before STATE, by log entry 24. -/
theorem attestationStatesAndHashes : Obligations.AttestationStatesAndHashes := by
  refine ⟨fun s m acc => ⟨fun latch => ?_, fun latch none => ?_, fun latch idle three four mode alive => ⟨fun ok => ?_, fun waits => ?_⟩⟩, fun s kv mgt waits gen => ?_⟩
  · exact .intro (exec_statement_tampered acc latch) ⟨State.attDone_status s (by decide), State.attDone_key s 6, State.attDone_event s 6⟩
  · exact .intro (exec_statement_noMode acc latch none) ⟨State.attDone_status s (by decide), State.attDone_key s 3⟩
  · obtain ⟨-, length⟩ := s.attest_key s.nowT
    obtain ⟨status, idx, count, event⟩ := s.attest_shown s.nowT
    exact .intro (exec_statement_attests acc latch idle three four mode alive ok) ⟨status, length.trans (if_pos mode), idx, count, event⟩
  · exact .intro (exec_statement_waits acc latch idle three four mode alive waits) ⟨State.get_set_same _ _ _ (by decide), by rw [State.set_key], by rw [State.set_key]⟩
  · cases who : s.key.attAsked with
    | none => exact .intro ((exec_genHash kv mgt waits gen).1 who) ⟨s.hashed_ok, s.hashed_event, fun some => by cases some⟩
    | some now =>
      have frame {C : Cap} (may : Ok.attest C) : Within C s.hashed (s.hashed.attest now) := (Within.refl _).attest may
      exact .intro ((exec_genHash kv mgt waits gen).2 now who) ⟨(frame (by decide)).get_eq.trans s.hashed_ok, (frame (by decide)).event s.hashed_event,
        fun _ => ⟨(State.attest_key _ _).1, (State.attest_shown _ _).1⟩⟩

end Sys2Proof.Machine
end

section
/-! PROOFS.
The forwarding table (spec/13, R302, R303).
-/
namespace Sys2Proof.Machine
open Sys2Proof

section
variable {s : State} {m : Master}

theorem State.putFdb_fdb (s : State) (l : List FdbEntry) : (s.putFdb l).sw.fdb = l := by rw [State.putFdb, State.set_sw]

theorem State.fdbDone_sw (s : State) (st : Nat) : (s.fdbDone st).sw = s.sw := State.set_sw _ _ _

theorem State.fdbDone_status (s : State) {st : Nat} (h : st < 2 ^ 4) : (s.fdbDone st).get R.SWF_FDB_CMD_STATUS = st :=
  (State.get_set_same _ _ _ (by decide)).trans (Nat.mod_eq_of_lt h)

theorem State.fdbFind_congr {s t : State} (h : t.sw = s.sw) (mac : Nat) : t.fdbFind mac = s.fdbFind mac := by
  unfold State.fdbFind
  rw [h]

theorem exec_fdbAgeSweep (up : s.up islSW = true) (age : s.get R.SWF_FDB_AGE_S ≠ 0) : exec .fdbAgeSweep s =
    .next (s.putFdb ((s.sw.fdb.map fun e => { e with seen := e.seen + 1 }).filter fun e => e.isStatic || decide (e.seen ≤ s.get R.SWF_FDB_AGE_S))) := by
  have runs : ¬(!s.up islSW ∨ s.get R.SWF_FDB_AGE_S = 0) := by simp [up, age]
  show execFdbAgeSweep s = _
  unfold execFdbAgeSweep
  rw [if_neg runs]

/-- The entry that ADD_STATIC makes of FDB_MAC and FDB_DEST (R303). -/
def State.fdbStatic (s : State) : FdbEntry :=
  { mac := s.fdbMac, ports := s.get R.SWF_FDB_DEST_PORTS, host := s.flag R.SWF_FDB_DEST_HOST, isStatic := true, seen := 0 }

variable (acc : Accepts s m R.SWF_FDB_CMD_STATUS)
include acc

theorem exec_addStatic (room : ((s.fdbSetOf s.fdbMac).filter fun x => decide (x.mac ≠ s.fdbMac)).length < 4) : exec (.addStatic m) s =
    .next ((s.putFdb (s.fdbStatic :: s.sw.fdb.filter fun x => decide (x.mac ≠ s.fdbMac))).fdbDone 2) := by
  show execAddStatic m s = _
  unfold execAddStatic
  rw [hostCmd_accepts acc]
  dsimp only
  rw [if_pos room]
  rfl

theorem exec_fdbDelete (found : (s.fdbFind s.fdbMac).isSome = true) : exec (.fdbDelete m) s =
    .next ((s.putFdb (s.sw.fdb.filter fun x => decide (x.mac ≠ s.fdbMac))).fdbDone 2) := by
  show execFdbDelete m s = _
  unfold execFdbDelete
  rw [hostCmd_accepts acc, if_pos found]

theorem exec_fdbDelete_none (none : s.fdbFind s.fdbMac = none) : exec (.fdbDelete m) s = .next (s.fdbDone 4) := by
  show execFdbDelete m s = _
  unfold execFdbDelete
  rw [hostCmd_accepts acc, if_neg (by rw [none]; decide)]

theorem exec_fdbRead {e : FdbEntry} (found : s.fdbFind s.fdbMac = some e) : exec (.fdbRead m) s =
    .next ((((s.set R.SWF_FDB_DEST_PORTS e.ports).setFlag R.SWF_FDB_DEST_HOST e.host).setFlag R.SWF_FDB_DEST_STATIC e.isStatic).fdbDone 2) := by
  show execFdbRead m s = _
  unfold execFdbRead
  rw [hostCmd_accepts acc]
  simp only [found]

theorem exec_fdbRead_none (none : s.fdbFind s.fdbMac = none) : exec (.fdbRead m) s = .next (s.fdbDone 4) := by
  show execFdbRead m s = _
  unfold execFdbRead
  rw [hostCmd_accepts acc]
  simp only [none]

theorem exec_flushLearned : exec (.flushLearned m) s = .next ((s.putFdb (s.sw.fdb.filter fun x => x.isStatic)).fdbDone 2) := by
  show execFlushLearned m s = _
  unfold execFlushLearned
  rw [hostCmd_accepts acc]

theorem exec_flushPort : exec (.flushPort m) s =
    .next ((s.putFdb (s.sw.fdb.filter fun x => x.isStatic || decide (x.ports &&& s.get R.SWF_FDB_DEST_PORTS = 0))).fdbDone 2) := by
  show execFlushPort m s = _
  unfold execFlushPort
  rw [hostCmd_accepts acc]

end

/-- A command that puts a table and completes leaves the table and the status. -/
theorem State.putFdb_done (s : State) (l : List FdbEntry) : ((s.putFdb l).fdbDone 2).get R.SWF_FDB_CMD_STATUS = 2 ∧ ((s.putFdb l).fdbDone 2).sw.fdb = l :=
  ⟨State.fdbDone_status _ (by decide), by rw [State.fdbDone_sw, State.putFdb_fdb]⟩

/-- Settles O27. -/
theorem forwardingTableCommands : Obligations.ForwardingTableCommands := by
  refine ⟨fun s up age => .intro (exec_fdbAgeSweep up age) (State.putFdb_fdb _ _), fun s m acc =>
    ⟨fun room => ?_, fun found => ?_, fun none => ?_, fun e found ports => ?_, fun none => ?_, .intro (exec_flushLearned acc) (State.putFdb_done _ _),
      .intro (exec_flushPort acc) (State.putFdb_done _ _)⟩⟩
  · obtain ⟨status, table⟩ := s.putFdb_done (s.fdbStatic :: s.sw.fdb.filter fun x => decide (x.mac ≠ s.fdbMac))
    refine .intro (exec_addStatic acc room) ⟨status, ?_⟩
    rw [State.fdbFind, table]
    exact List.find?_cons_of_pos (decide_eq_true rfl)
  · obtain ⟨status, table⟩ := s.putFdb_done (s.sw.fdb.filter fun x => decide (x.mac ≠ s.fdbMac))
    refine .intro (exec_fdbDelete acc found) ⟨status, ?_⟩
    rw [State.fdbFind, table, List.find?_eq_none]
    intro x mem
    simpa using List.of_mem_filter mem
  · exact .intro (exec_fdbDelete_none acc none) ⟨State.fdbDone_status _ (by decide), State.fdbDone_sw _ _⟩
  · refine .intro (exec_fdbRead acc found) ⟨State.fdbDone_status _ (by decide), ?_, ?_, ?_, OnlyRegs.setFlag (.setFlag (.set (.refl s))) |>.set, ?_⟩
    · rw [((((Within.refl _).setFlag (by decide)).setFlag (by decide)).fdbDone (by decide)).get_eq, State.get_set_same _ _ _ (by decide)]
      exact Nat.mod_eq_of_lt ports
    · rw [(((Within.refl _).setFlag (by decide)).fdbDone (by decide)).flag_eq]
      exact State.setFlag_flag_same _ _ _ (by decide) rfl
    · rw [((Within.refl _).fdbDone (by decide)).flag_eq]
      exact State.setFlag_flag_same _ _ _ (by decide) rfl
    · exact ((((Within.refl s).set (by decide)).setFlag (by decide)).setFlag (by decide)).set (by decide) |>.onlySlots
  · exact .intro (exec_fdbRead_none acc none) ⟨State.fdbDone_status _ (by decide), (OnlyRegs.refl s).set, ((Within.refl s).set (by decide)).onlySlots⟩

end Sys2Proof.Machine
end

section
/-! PROOFS.
The egress scheduler (spec/12, R289; spec/13, R298).
-/
namespace Sys2Proof.Machine
open Sys2Proof

section
variable {s : State}

theorem State.dropCopies_frames (s : State) (f : SwFrame) (q : Copy → Bool) : (s.dropCopies f q).sw.frames =
    s.sw.frames.map fun g => if g.is f.input f.fid then { f with copies := f.copies.filter fun c => !q c } else g := by
  refine List.foldlRecOn (motive := fun t : State => t.sw.frames = _) _ _ rfl fun t ht e _ => ?_
  rw [← ht]
  split <;> rfl

theorem State.tidy_frames (s : State) : s.tidy.sw.frames = s.sw.frames.filter fun f => decide (f.copies ≠ []) :=
  congrArg SwPart.frames ((Within.refl (State.endSpill { s with sw := _ })).showBuf (by decide)).sw_eq

/-- The counters of a port that may move while a frame leaves it are not its TX_FRAMES. -/
theorem State.sendGood_count (s : State) {p : Nat} (low : p < 24) (f : Frame) (land : Int) :
    (s.sendGood p f land).rd (R.STA_RX_FRAMES p + 12) = s.rd (R.STA_RX_FRAMES p + 12) + 1 := by
  have others : ∀ p < 24, Ok.sta (Cap.away (whole (R.STA_RX_FRAMES p + 12))) p 14 ∧ Ok.sta (Cap.away (whole (R.STA_RX_FRAMES p + 12))) p 13 ∧
      Ok.octets (Cap.away (whole (R.STA_RX_FRAMES p + 12))) (R.STA_TX_OCTETS p) ∧ Ok.raise (Cap.away (whole (R.STA_RX_FRAMES p + 12))) (P.STA p) := by decide
  obtain ⟨bcast, mcast, octets, evt⟩ := others p low
  have after : Within (Cap.away (whole (R.STA_RX_FRAMES p + 12))) (s.sta p 12 1) (s.sendGood p f land) :=
    .emit (.octets (.ite ((Within.refl _).sta bcast) (.ite ((Within.refl _).sta mcast) (.refl _))) octets)
  rw [after.rd_eq, State.sta, ((Within.refl _).raiseIf evt).rd_eq, State.rd_wr_same]
  exact BitVec.eq_of_toNat_eq (by simp)

theorem State.sendGood_sent (s : State) (p : Nat) (f : Frame) (land : Int) : Out.frame p f (toT108 land) true ∈ (s.sendGood p f land).sent := List.mem_cons_self

/-- A frame that the scheduler sends is counted and leaves, and no copy of it for the port is left (R289, R298). -/
theorem State.sendOrdinary_spec (s : State) {p : Nat} (low : p < 24) (f : SwFrame) (land : Int) :
    (s.sendOrdinary p f land).rd (R.STA_RX_FRAMES p + 12) = s.rd (R.STA_RX_FRAMES p + 12) + 1 ∧
    (f.verdict ≠ 1 → Out.frame p f.frame (toT108 land) true ∈ (s.sendOrdinary p f land).sent) ∧
    (s.sendOrdinary p f land).sw.frames =
      (s.sw.frames.map fun g => if g.is f.input f.fid then { f with copies := f.copies.filter fun c => !decide (c.dst = p) } else g).filter fun g => decide (g.copies ≠ []) := by
  unfold State.sendOrdinary
  extract_lets outer tc fr t1 t2 t3 t4 x t5
  have after {C : Cap} (may : Ok.sta C p 19 ∧ Ok.putPort C ∧ Ok.tsfStore C p ∧ Ok.txResult C ∧ Ok.showSwBusy C) : Within C t3 t5.showSwBusy := by
    obtain ⟨sta, port, tsf, res, busy⟩ := may
    have counted : Within C t3 t4 := .ite ((Within.refl _).sta sta) (.refl _)
    refine .showSwBusy ?_ busy
    show Within C t3 (match f.desc with
      | some (q, idx, ts) => if ts then (t4.putPort p _).tsfStore p outer idx q 2 else t4.txResult q idx 0 0
      | none => t4)
    split
    · exact .ite ((counted.putPort port).tsfStore tsf) (counted.txResult res)
    · exact counted
  refine ⟨?_, fun ordinary => ?_, ?_⟩
  · have others : ∀ p < 24, Ok.sta (Cap.away (whole (R.STA_RX_FRAMES p + 12))) p 19 ∧ Ok.putPort (Cap.away (whole (R.STA_RX_FRAMES p + 12))) ∧
        Ok.tsfStore (Cap.away (whole (R.STA_RX_FRAMES p + 12))) p ∧ Ok.txResult (Cap.away (whole (R.STA_RX_FRAMES p + 12))) ∧
        Ok.showSwBusy (Cap.away (whole (R.STA_RX_FRAMES p + 12))) := by decide
    have before : ∀ p < 24, Ok.expCross (Cap.away (whole (R.STA_RX_FRAMES p + 12))) ∧ Ok.dropCopies (Cap.away (whole (R.STA_RX_FRAMES p + 12))) ∧
        Ok.tidy (Cap.away (whole (R.STA_RX_FRAMES p + 12))) := by decide
    obtain ⟨cross, drop, tidy⟩ := before p low
    rw [(after (others p low)).rd_eq, State.sendGood_count _ low, ((((Within.refl s).expCross cross).dropCopies drop).tidy tidy).rd_eq]
  · have unchanged : fr = f.frame := if_neg (by simpa [tc] using ordinary)
    have may : ∀ p < 24, Ok.sta (Cap.sparing .flt) p 19 ∧ Ok.putPort (Cap.sparing .flt) ∧ Ok.tsfStore (Cap.sparing .flt) p ∧ Ok.txResult (Cap.sparing .flt) ∧
        Ok.showSwBusy (Cap.sparing .flt) := by decide
    exact (after (may p low)).sent.subset (unchanged ▸ State.sendGood_sent t2 p fr land)
  · have may : ∀ p < 24, (Ok.sta (Cap.sparing .sw) p 19 ∧ Ok.putPort (Cap.sparing .sw) ∧ Ok.tsfStore (Cap.sparing .sw) p ∧ Ok.txResult (Cap.sparing .sw) ∧
        Ok.showSwBusy (Cap.sparing .sw)) ∧ Ok.sendGood (Cap.sparing .sw) p := by decide
    obtain ⟨later, good⟩ := may p low
    rw [(after later).sw_eq, ((Within.refl t2).sendGood good).sw_eq, State.tidy_frames, State.dropCopies_frames, ((Within.refl s).expCross (by decide)).sw_eq]

theorem exec_frameTransmit {port cls ecc : Nat} {st : Stamp} {f : SwFrame} (low : port < 24) (head : s.headOf port cls = some f) (up : s.link port = 3)
    (free : s.paused port cls (s.stampOf (9 + 2 * port) st) = false)
    (clear : ∀ r ∈ s.reserved port, spansMeet (wireSpan (s.portMode port) f.frame.len (s.stampOf (9 + 2 * port) st)) r = false)
    (coach : s.coachLost (port / 4) = false) (gen : s.staleGen f.gen = false) (ok : ecc < 2) : exec (.frameTransmit port cls ecc st) s =
      .next ((if ecc = 1 then s.bump R.BUF_ECC_CORR_COUNT else s).sendOrdinary port f (s.stampOf (9 + 2 * port) st)) := by
  have sends : ¬(!s.portUp port ∨ s.paused port cls (s.stampOf (9 + 2 * port) st) ∨
      (s.reserved port).any (fun r => spansMeet (wireSpan (s.portMode port) f.frame.len (s.stampOf (9 + 2 * port) st)) r)) := by
    simpa [State.portUp, up, free] using clear
  show execFrameTransmit port cls ecc st s = _
  unfold execFrameTransmit
  rw [withUnit_next low, head]
  simp only [if_neg sends, coach, gen, Bool.false_eq_true, if_false, if_neg (show ecc ≠ 2 by omega)]

end

/-- Settles O26. -/
theorem egressSchedulerSendsTheHead : Obligations.EgressSchedulerSendsTheHead := by
  intro s port cls ecc st f low head up free clear coach gen ok
  have corrected {C : Cap} (may : Ok.bump C R.BUF_ECC_CORR_COUNT) : Within C s (if ecc = 1 then s.bump R.BUF_ECC_CORR_COUNT else s) := .ite ((Within.refl s).bump may) (.refl s)
  have may : ∀ p < 24, Ok.bump (Cap.away (whole (R.STA_RX_FRAMES p + 12))) R.BUF_ECC_CORR_COUNT := by decide
  obtain ⟨count, leaves, frames⟩ := State.sendOrdinary_spec (if ecc = 1 then s.bump R.BUF_ECC_CORR_COUNT else s) low f (s.stampOf (9 + 2 * port) st)
  refine .intro (exec_frameTransmit low head up free clear coach gen ok) ⟨count.trans (congrArg (· + 1) (corrected (may port low)).rd_eq), leaves, fun g found x mem same => ?_⟩
  unfold State.swFrame SwPart.frame at found
  have isG : g.is f.input f.fid = true := List.find?_some (p := fun g : SwFrame => g.is f.input f.fid) found
  have memG := List.mem_of_find?_eq_some found
  rw [frames] at memG
  obtain ⟨g', -, e⟩ := List.mem_map.mp (List.mem_of_mem_filter memG)
  split at e
  · rw [← e] at mem
    simpa [same] using List.of_mem_filter mem
  next other => exact other (e ▸ isG)

end Sys2Proof.Machine
end

section
/-! PROOFS.
The lines of the fault collector (spec/19, R446 to R458).
-/
namespace Sys2Proof.Machine
open Sys2Proof

/-! ## What stays on FLT while a proving run is aborted -/

/-- What may be touched while FLT stays, and the brake. -/
def Cap.offFlt : Cap
  | .fld f => decide (f.slot / 512 ≠ P.FLT)
  | .evt p => decide (p ≠ P.FLT)
  | .page p => decide (p ≠ P.FLT)
  | .part p => decide (p ≠ .brake)

theorem Ok.set_offFlt {f : Fld} (h : f.slot / 512 ≠ P.FLT) : Ok.set Cap.offFlt f := decide_eq_true h

/-- A unit returns without FLT, whatever its number (R415). -/
theorem Ok.returnUnit_offFlt (u : Nat) : Ok.returnUnit Cap.offFlt u := by
  have lane : Ok.setLane Cap.offFlt u := Ok.set_offFlt (by show ((96 + u / 4) * 512 + 15) / 512 ≠ 3; omega)
  have pll {a : Nat} (low : a < 512) : ((64 + u) * 512 + a) / 512 ≠ 3 := by omega
  have pllShunted : Ok.setShunted Cap.offFlt 5 u := ⟨by decide, by decide, Ok.set_offFlt (pll (by decide)), by decide, lane⟩
  have coreShunted : Ok.setShunted Cap.offFlt 2 u := ⟨by decide, by decide, Ok.set_offFlt (by show ((16 + u) * 512 + 3) / 512 ≠ 3; omega), by decide, lane⟩
  have started : Ok.pllStart Cap.offFlt u := ⟨⟨Ok.set_offFlt (pll (by decide)), decide_eq_true (by show 64 + u ≠ 3; omega)⟩, by decide,
    Ok.set_offFlt (pll (by decide)), Ok.set_offFlt (pll (by decide)), Ok.set_offFlt (pll (by decide))⟩
  exact decide_eq_true ⟨by decide, by decide, pllShunted, started, by decide, decide_eq_true ⟨coreShunted, by decide, by decide⟩, by decide, by decide⟩

/-- What leaves FLT leaves a register of FLT. -/
theorem Cap.offFlt_le_away {g : Fld} (on : g.slot / 512 = P.FLT) (x : Touch) (m : Cap.offFlt x = true) : Cap.away g x = true := by
  cases x with
  | fld f => exact decide_eq_true (.inl fun e => of_decide_eq_true m (e ▸ on))
  | evt p =>
    refine decide_eq_true fun e => of_decide_eq_true m ?_
    have : p * 512 + 4 = g.slot := e
    omega
  | page p => exact decide_eq_true fun e => of_decide_eq_true m (e.symm.trans on)
  | part => rfl

theorem Cap.offFlt_le_brake (x : Touch) (m : Cap.offFlt x = true) : Cap.sparing .brake x = true := by
  cases x with
  | part p => exact m
  | _ => rfl

/-- What a line sets off beside the brake (R450), while what the abort of a proving run leaves stays. -/
theorem Within.reactionsFlt {C : Cap} {s₀ s old : State} {hard : Bool} (h : Within C s₀ s) (le : ∀ x, Cap.offFlt x = true → C x = true)
    (may : Ok.refreshFaults C ∧ Ok.faultStops C) : Within C s₀ (State.reactions old s hard) := by
  have stopped := (h.refreshFaults may.1).faultStops (old := old) may.2
  exact .ite (stopped.trans (((Within.refl _).proveAbort ⟨Ok.returnUnit_offFlt, by decide⟩).mono le)) stopped

/-! ## One line rises -/

section
variable {s : State} {line : Nat}

theorem bitOn_two_pow (a b : Nat) : bitOn (2 ^ a) b = decide (a = b) := Nat.testBit_two_pow

theorem State.sev_lt (s : State) (line : Nat) : s.sev line < 4 := by
  unfold State.sev
  split
  · decide
  · split <;> exact Nat.mod_lt _ (by decide)

/-- A mask of one line names that line, whatever its severity (R447). -/
theorem State.firstOrder_one (low : line < 36) : s.firstOrder (2 ^ line) = [line] := by
  have one (sv : Nat) : (List.range 36).filter (fun l => bitOn (2 ^ line) l && decide (s.sev l = sv)) = if s.sev line = sv then [line] else [] := by
    have same : (fun l => bitOn (2 ^ line) l && decide (s.sev l = sv)) = fun l => decide (l = line) && decide (s.sev line = sv) := by
      funext l
      rw [bitOn_two_pow]
      by_cases e : l = line
      · simp [e]
      · simp [e, Ne.symm e]
    rw [same]
    split
    next sv =>
      simp only [sv, decide_true, Bool.and_true]
      rw [List.filter_eq, List.count_eq_one_of_mem List.nodup_range (List.mem_range.mpr low)]
      rfl
    next sv => simp [sv]
  have bound := s.sev_lt line
  unfold State.firstOrder
  simp only [one]
  interval_cases s.sev line <;> rfl

/-- The device with the line's fault, before AO latches it (R444, R451). -/
def State.struck (s : State) (line : Nat) : State :=
  if ((s.aoParity [line]).mgtFault [line]).lineHeld line then (s.aoParity [line]).mgtFault [line] else ((s.aoParity [line]).mgtFault [line]).pulse line

/-- The device when AO has latched the line (R446, R447). -/
def State.struckLatched (s : State) (line tick : Nat) (cuts : List (Nat × TxRef)) (slot : Nat) : State :=
  ((s.struck line).brakeLines [line] cuts slot).latchLine line (((s.struck line).brakeLines [line] cuts slot).instAt tick)

theorem exec_faultLineRise (low : line < 36) (absent : s.present line = false) (tick : Nat) (cuts : List (Nat × TxRef)) (slot : Nat) :
    ∃ hard failed, exec (.faultLineRise (2 ^ line) tick cuts slot) s =
      .next ((State.reactions s { s.struckLatched line tick cuts slot with prove := failed } hard).genLines [line] cuts) := by
  have new : (s.firstOrder (2 ^ line)).filter (fun l => !s.present l) = [line] := by
    rw [State.firstOrder_one low]
    simp [absent]
  refine ⟨[line].any fun l => decide (2 ≤ s.sev l) && !bitOn s.prove.failed l,
    { (s.struckLatched line tick cuts slot).prove with failed := [line].foldl (fun m l => setBit m l false) (s.struckLatched line tick cuts slot).prove.failed }, ?_⟩
  show execFaultLineRise _ _ _ _ s = _
  unfold execFaultLineRise
  rw [new]
  rfl

/-- The severity of a line follows the severity registers and what R445 forces. -/
theorem State.sev_congr {s t : State} (forced : t.flt.forcedFatal = s.flt.forcedFatal) (lo : t.rd R.FLT_SEV_LO = s.rd R.FLT_SEV_LO)
    (hi : t.rd R.FLT_SEV_HI = s.rd R.FLT_SEV_HI) (line : Nat) : t.sev line = s.sev line := by
  unfold State.sev
  rw [forced, lo, hi]

theorem State.instAt_congr {s t : State} (ax : t.ax = s.ax) (isl : t.isl.inReset = s.isl.inReset) (tick : Nat) : t.instAt tick = s.instAt tick := by
  unfold State.instAt State.rhTime State.ctrOf State.up
  rw [ax, isl]

theorem State.noTime_congr {s t : State} (ax : t.ax = s.ax) (isl : t.isl.inReset = s.isl.inReset) : t.noTime = s.noTime := by
  unfold State.noTime State.up
  rw [ax, isl]

theorem Within.struck {C : Cap} {s₀ : State} (h : Within C s₀ s) (may : Ok.aoParity C ∧ C (.part .isl) = true ∧ C (.part .flt) = true) : Within C s₀ (s.struck line) := by
  obtain ⟨parity, isl, flt⟩ := may
  have lost := (h.aoParity (lines := [line]) parity).mgtFault (lines := [line]) isl
  exact .ite lost (lost.pulse flt)

theorem State.mgtFault_inReset (s : State) (lines : List Nat) : (s.mgtFault lines).isl.inReset = s.isl.inReset := by
  unfold State.mgtFault
  split <;> rfl

theorem State.lineOn_forced (s : State) (line cause : Nat) : (s.lineOn line cause).flt.forcedFatal = s.flt.forcedFatal := by
  unfold State.lineOn
  split <;> rfl

theorem State.struck_inReset (s : State) (line : Nat) : (s.struck line).isl.inReset = s.isl.inReset := by
  have before : ((s.aoParity [line]).mgtFault [line]).isl.inReset = s.isl.inReset := by rw [State.mgtFault_inReset, ((Within.refl s).aoParity (by decide)).isl_eq]
  unfold State.struck
  split
  · exact before
  · exact (congrArg IslandPart.inReset ((Within.refl _).pulse (by decide)).isl_eq).trans before

theorem State.struck_forced (s : State) (line : Nat) : (s.struck line).flt.forcedFatal = s.flt.forcedFatal := by
  have before : ((s.aoParity [line]).mgtFault [line]).flt = s.flt := (((Within.refl s).aoParity (by decide)).mgtFault (by decide)).flt_eq
  unfold State.struck
  split
  · rw [before]
  · rw [State.pulse, State.lineOn_forced, before]

theorem State.putBrake_flt (t : State) (b : Brake) : State.flt { t with flt := { t.flt with brake := b, releaseAsked := false } } =
    { t.flt with brake := b, releaseAsked := false } := rfl

/-- A brake changes of the faults only the brake and the release asked for (R451). -/
theorem State.brakeOn_flt (s : State) (b : Brake) : (s.brakeOn b).flt = { s.flt with brake := b, releaseAsked := false } := by
  have outs : Within (Cap.sparing .flt) s ((List.range 8).foldl (fun (t : State) o => ((t.putSrc o 3).set (outSlewing o) 0).putOut o (t.outOf o).stopped) s) :=
    .foldl (.refl s) fun o m _ h => ((h.putSrc (by rfl)).set (by rfl)).putOut (by rfl)
  rw [← outs.flt_eq]
  refine Eq.trans ?_ (State.putBrake_flt _ b)
  refine (((Within.ite ((Within.refl _).setTimeValid ?_) (.updBoot ((Within.refl _).setTimeValid ?_) ?_)).showBypass ?_).bump ?_).refreshFaults ?_ |>.flt_eq
  all_goals decide

theorem State.fatalBrake_forced (s : State) (lines : List Nat) : (s.fatalBrake lines).flt.forcedFatal = s.flt.forcedFatal := by
  unfold State.fatalBrake
  dsimp only
  split
  · rfl
  · split
    · rw [State.brakeOn_flt]
    · rfl

/-- What stops with the brake leaves the faults (R451, R452). -/
theorem State.brakeLines_flt (s : State) (lines : List Nat) (cuts : List (Nat × TxRef)) (slot : Nat) :
    (s.brakeLines lines cuts slot).flt = (s.fatalBrake lines).flt := by
  unfold State.brakeLines
  extract_lets t t'
  have cut : t'.flt = t.flt := (Within.ite ((Within.refl t).cutLaunches (by decide)) (.refl t)).flt_eq
  rw [← cut]
  split
  · exact (((Within.refl t').switchHalt (by decide)).stopRings (by decide)).flt_eq
  · rfl

/-- A FATAL line brakes (R451). -/
theorem State.fatalBrake_brake (fatal : s.sev line = 3) : (s.fatalBrake [line]).flt.brake ≠ .off := by
  unfold State.fatalBrake
  have named : ([line].filter fun l => decide (s.sev l = 3)) = [line] := by simp [fatal]
  rw [named]
  simp only [List.isEmpty_cons, Bool.false_eq_true, if_false]
  split
  · rw [State.brakeOn_flt]
    exact Brake.noConfusion
  next on => exact on

/-- AO latches the line (R446, R447). -/
theorem State.latchLine_spec (s : State) (low : line < 36) (inst : Nat) : (s.latchLine line inst).present line = true ∧ (s.latchLine line inst).latched line = true ∧
    (s.get R.FLT_FIRST_VALID = 0 → (s.latchLine line inst).rd R.FLT_FIRST = (firstWords line (s.sev line) inst s.noTime).getD 0 0) := by
  have setBits (w : Word) : bitOn (BitVec.ofNat 36 (setBit w.toNat line true)).toNat line = true := by
    rw [BitVec.toNat_ofNat, bitOn, Nat.testBit_mod_two_pow, testBit_setBit]
    simp [low]
  unfold State.latchLine State.present State.latched
  extract_lets nt sv first s1 s2 _ s3 s4 s5
  have late {C : Cap} {t : State} (h : Within C t s3) (may : Ok.wrFirst C ∧ Ok.bump C R.FLT_MERGED_COUNT ∧ Ok.raise C P.FLT) :
      Within C t (s5.trigAt islAO 0x10 inst ([line, sv, if first then 1 else 0, s5.get R.FLT_MERGED_COUNT] ++ if line = 29 then [s5.get R.AO_ISLCLK_FAIL_ISLANDS] else [])) :=
    .trigAt (.raise (.ite (h.wrFirst may.1) ((h.bump may.2.1).raise may.2.2)) may.2.2)
  refine ⟨?_, ?_, fun free => ?_⟩
  · rw [(late (.refl _) (by decide)).rd_eq]
    show bitOn ((s1.wr R.FLT_NOW _).rd R.FLT_NOW).toNat line = true
    rw [State.rd_wr_same]
    exact setBits _
  · rw [(late (.refl _) (by decide)).rd_eq]
    show bitOn ((s1.wr R.FLT_NOW _).rd R.FLT_LATCH).toNat line = true
    rw [State.rd_wr_other _ _ _ _ (by decide)]
    show bitOn ((s.wr R.FLT_LATCH _).rd R.FLT_LATCH).toNat line = true
    rw [State.rd_wr_same]
    exact setBits _
  · have isFirst : first = true := by simp [first, State.flag, free]
    have named : s4 = s3.wrFirst (firstWords line sv inst nt) := if_pos isFirst
    rw [(Within.trigAt ((Within.refl s4).raise (by decide))).rd_eq, named, State.wrFirst, State.rd_wr_other _ _ _ _ (by decide), State.rd_wr_other _ _ _ _ (by decide),
      State.rd_wr_same]

end

/-! ## The other commands -/

section
variable {s : State} {m : Master}

theorem exec_faultLineFall {line : Nat} (low : line < 36) (present : s.present line = true) (only : ∀ c, (line, c) ∈ s.flt.causes → c = 0) (tick : Nat) :
    ∃ flt : FaultPart, ∃ inst args, exec (.faultLineFall line tick) s = .next ((State.trigAt
      { (s.lineOff line 0).wr R.FLT_NOW (BitVec.ofNat 36 (setBit (s.rd R.FLT_NOW).toNat line false)) with flt := flt } islAO 0x11 inst args).refreshFaults) := by
  have free : (s.lineOff line 0).lineHeld line = false := by
    unfold State.lineHeld State.lineOff
    simp only [List.any_filter, List.any_eq_false, Bool.and_eq_true, decide_eq_true_eq, not_and]
    intro c mem kept is
    exact kept (Prod.ext is (only c.2 (is ▸ mem)))
  refine ⟨{ (s.lineOff line 0).flt with
      clrT := kvPut (s.lineOff line 0).flt.clrT line ((s.lineOff line 0).instAt tick)
      noTime := setBit (s.lineOff line 0).flt.noTime line (bitOn (s.lineOff line 0).flt.noTime line || (s.lineOff line 0).noTime)
      forcedFatal := if line = 33 then setBit (s.lineOff line 0).flt.forcedFatal 33 false else (s.lineOff line 0).flt.forcedFatal },
    (s.lineOff line 0).instAt tick, [line, (s.lineOff line 0).sev line] ++ (t108Words (kvGetD (s.lineOff line 0).flt.setT line 0)).map BitVec.toNat, ?_⟩
  show execFaultLineFall line tick s = _
  unfold execFaultLineFall
  rw [withUnit_next low]
  have falls : ((s.lineOff line 0).present line && !(s.lineOff line 0).lineHeld line) = true := by rw [free]; exact congrArg (· && !false) present
  dsimp only
  rw [if_pos falls]
  rfl

theorem exec_fltAck (acc : Accepts s m R.FLT_CMD_STATUS) :
    exec (.fltAck m) s = .next (((s.set R.FLT_FIRST_VALID 0).set R.FLT_MERGED_COUNT 0).set R.FLT_CMD_STATUS 2) := by
  show execFltAck m s = _
  unfold execFltAck
  rw [hostCmd_accepts acc]

theorem exec_fltLatchClear (op : Open s m R.FLT_LATCH) (bits : Word) :
    exec (.fltLatchClear m bits) s = .next (s.wr R.FLT_LATCH (s.rd R.FLT_LATCH &&& ~~~(bits &&& ~~~(s.rd R.FLT_NOW)))).refreshFaults := by
  show execFltLatchClear m bits s = _
  unfold execFltLatchClear
  rw [hostWrite_open op]

theorem exec_fltSevWrite {high : Bool} (op : Open s m (if high then R.FLT_SEV_HI else R.FLT_SEV_LO)) (v : Word) (cuts : List (Nat × TxRef)) (slot : Nat) :
    ∃ shown severe, exec (.fltSevWrite m high v cuts slot) s =
      .next (State.reactions s (((s.wr (if high then R.FLT_SEV_HI else R.FLT_SEV_LO) v).mgtFault shown).brakeLines severe cuts slot) false) := by
  refine ⟨(List.range 36).filter fun l => s.present l,
    (List.range 36).filter fun l => s.present l && decide (s.sev l ≠ 3), ?_⟩
  show execFltSevWrite m high v cuts slot s = _
  unfold execFltSevWrite
  rw [hostWrite_open op]

theorem exec_fltSoftWrite (op : Open s m R.FLT_SOFT) (v : Word) :
    exec (.fltSoftWrite m v) s = .next ((s.set R.FLT_SOFT_RAISE (R.FLT_SOFT_RAISE.of v)).lineSet 34 1 (decide (R.FLT_SOFT_RAISE.of v = 1))) := by
  show execFltSoftWrite m v s = _
  unfold execFltSoftWrite
  rw [hostWrite_open op]

theorem exec_wdogKick (op : Open s m R.FLT_WDOG) : exec (.wdogKick m) s = .next (s.lineOff 35 1) := by
  show execWdogKick m s = _
  unfold execWdogKick
  rw [hostWrite_open op]

theorem exec_wdogCfgWrite (op : Open s m R.FLT_WDOG_CFG) (v : Word) :
    exec (.wdogCfgWrite m v) s = .next (s.set R.FLT_WDOG_CFG_PERIOD (R.FLT_WDOG_CFG_PERIOD.of v)) := by
  show execWdogCfgWrite m v s = _
  unfold execWdogCfgWrite
  rw [hostWrite_open op]

theorem exec_wdogExpiry {ms : Nat} (on : s.get R.FLT_WDOG_CFG_PERIOD ≠ 0) (passed : s.get R.FLT_WDOG_CFG_PERIOD ≤ ms) : exec (.wdogExpiry ms) s = .next (s.lineOn 35 1) := by
  have runs : ¬(s.get R.FLT_WDOG_CFG_PERIOD = 0 ∨ ms < s.get R.FLT_WDOG_CFG_PERIOD) := by omega
  show execWdogExpiry ms s = _
  unfold execWdogExpiry
  rw [if_neg runs]

theorem State.lineOff_causes (s : State) (l c : Nat) : (l, c) ∉ (s.lineOff l c).flt.causes := fun mem => by
  simpa using List.of_mem_filter mem

theorem State.lineSet_causes (s : State) (l c : Nat) (on : Bool) : (l, c) ∈ (s.lineSet l c on).flt.causes ↔ on = true := by
  cases on with
  | true => exact iff_of_true (State.lineOn_causes s l c) rfl
  | false => exact iff_of_false (State.lineOff_causes s l c) Bool.false_ne_true

end

/-- Settles O6: the split of a cause and of the rise that AO sees is log entry 8. -/
theorem faultLinesRiseLatchAndFall : Obligations.FaultLinesRiseLatchAndFall := by
  refine ⟨fun s line tick cuts slot low absent => ?_, fun s line tick low present only => ?_, fun s m acc => ?_, fun s m bits op => ?_,
    fun s m v cuts slot => ⟨fun op => ?_, fun op => ?_⟩, fun s m v op => ?_, fun s m op => ?_, fun s m v op => ?_, fun s ms on passed => ?_⟩
  · obtain ⟨hard, failed, e⟩ := exec_faultLineRise low absent tick cuts slot
    have late {C : Cap} (le : ∀ x, Cap.offFlt x = true → C x = true) (may : (Ok.refreshFaults C ∧ Ok.faultStops C) ∧ Ok.genLines C ∧ C (.part .prove) = true) :
        Within C (s.struckLatched line tick cuts slot) ((State.reactions s { s.struckLatched line tick cuts slot with prove := failed } hard).genLines [line] cuts) :=
      (((Within.refl _).updProve may.2.2).reactionsFlt le may.1).genLines may.2.1
    have struck {C : Cap} (may : (Ok.aoParity C ∧ C (.part .isl) = true ∧ C (.part .flt) = true) ∧ Ok.brakeLines C) :
        Within C s ((s.struck line).brakeLines [line] cuts slot) := ((Within.refl s).struck may.1).brakeLines may.2
    have sev : (s.struck line).sev line = s.sev line :=
      State.sev_congr (s.struck_forced line) ((Within.refl s).struck (by decide)).rd_eq ((Within.refl s).struck (by decide)).rd_eq line
    have sev' : ((s.struck line).brakeLines [line] cuts slot).sev line = s.sev line := by
      refine (State.sev_congr ?_ ?_ ?_ line).trans sev
      · rw [State.brakeLines_flt, State.fatalBrake_forced]
      · exact ((Within.refl _).brakeLines (by decide)).rd_eq
      · exact ((Within.refl _).brakeLines (by decide)).rd_eq
    have inReset : ((s.struck line).brakeLines [line] cuts slot).isl.inReset = s.isl.inReset :=
      (congrArg IslandPart.inReset ((Within.refl _).brakeLines (by decide)).isl_eq).trans (s.struck_inReset line)
    have ax : ((s.struck line).brakeLines [line] cuts slot).ax = s.ax := (struck (by decide)).ax_eq
    obtain ⟨shown, latched, first⟩ := State.latchLine_spec ((s.struck line).brakeLines [line] cuts slot) low (((s.struck line).brakeLines [line] cuts slot).instAt tick)
    refine .intro e ⟨?_, ?_, fun free => ?_, fun fatal => ?_⟩
    · unfold State.present
      rw [(late (Cap.offFlt_le_away (by decide)) (by decide)).rd_eq]
      exact shown
    · unfold State.latched
      rw [(late (Cap.offFlt_le_away (by decide)) (by decide)).rd_eq]
      exact latched
    · rw [(late (Cap.offFlt_le_away (by decide)) (by decide)).rd_eq, State.struckLatched, first ((struck (by decide)).get_eq.trans free), sev',
        State.instAt_congr ax inReset, State.noTime_congr ax inReset]
    · refine (late Cap.offFlt_le_brake (by decide)).braked ?_
      refine ((Within.refl _).latchLine (by decide)).braked ?_
      rw [State.brakeLines_flt]
      exact State.fatalBrake_brake (sev.trans fatal)
  · obtain ⟨flt, inst, args, e⟩ := exec_faultLineFall low present only tick
    refine .intro e ⟨?_, ?_⟩
    · unfold State.present
      rw [((Within.trigAt (.refl _)).refreshFaults (by decide)).rd_eq]
      show bitOn (((s.lineOff line 0).wr R.FLT_NOW _).rd R.FLT_NOW).toNat line = false
      rw [State.rd_wr_same, BitVec.toNat_ofNat, bitOn, Nat.testBit_mod_two_pow, testBit_setBit]
      simp
    · rw [((Within.trigAt (.refl _)).refreshFaults (by decide)).rd_eq]
      exact State.rd_wr_other _ _ _ _ (by decide)
  · refine .intro (exec_fltAck acc) ⟨State.get_set_same _ _ _ (by decide), ?_, ?_, (((Within.set (.refl s) (by decide)).set (by decide)).set (by decide)).rd_eq,
      ((OnlyRegs.refl s).set.set.set), (((Within.set (.refl s) (by decide)).set (by decide)).set (by decide)).onlySlots⟩
    · rw [((Within.set (.refl _) (by decide)).set (by decide)).get_eq]
      exact State.get_set_same _ _ _ (by decide)
    · rw [(Within.set (.refl _) (by decide)).get_eq]
      exact State.get_set_same _ _ _ (by decide)
  · refine .intro (exec_fltLatchClear op bits) ?_
    rw [((Within.refl _).refreshFaults (by decide)).rd_eq]
    exact State.rd_wr_same _ _ _
  · obtain ⟨shown, severe, e⟩ := exec_fltSevWrite (high := false) op v cuts slot
    refine .intro e ⟨?_, ?_⟩
    · rw [((((Within.refl _).mgtFault (by decide)).brakeLines (by decide)).reactionsFlt (Cap.offFlt_le_away (by decide)) (by decide)).rd_eq]
      exact State.rd_wr_same _ _ _
    · rw [(((((Within.refl s).wr (by decide)).mgtFault (by decide)).brakeLines (by decide)).reactionsFlt (Cap.offFlt_le_away (by decide)) (by decide)).rd_eq]
  · obtain ⟨shown, severe, e⟩ := exec_fltSevWrite (high := true) op v cuts slot
    refine .intro e ⟨?_, ?_⟩
    · rw [((((Within.refl _).mgtFault (by decide)).brakeLines (by decide)).reactionsFlt (Cap.offFlt_le_away (by decide)) (by decide)).rd_eq]
      exact State.rd_wr_same _ _ _
    · rw [(((((Within.refl s).wr (by decide)).mgtFault (by decide)).brakeLines (by decide)).reactionsFlt (Cap.offFlt_le_away (by decide)) (by decide)).rd_eq]
  · refine .intro (exec_fltSoftWrite op v) ⟨?_, ?_⟩
    · rw [((Within.refl _).lineSet (by decide)).get_eq, State.get_set_same _ _ _ (by decide)]
      exact Nat.mod_eq_of_lt (Nat.mod_lt _ (by decide))
    · rw [State.lineSet_causes, decide_eq_true_eq]
  · exact .intro (exec_wdogKick op) ⟨State.lineOff_causes _ _ _, rfl⟩
  · refine .intro (exec_wdogCfgWrite op v) ⟨?_, (OnlyRegs.refl s).set, ((Within.refl s).set (by decide)).onlySlots⟩
    rw [State.get_set_same _ _ _ (by decide)]
    exact Nat.mod_eq_of_lt (Nat.mod_lt _ (by decide))
  · exact .intro (exec_wdogExpiry on passed) ⟨State.lineOn_causes _ _ _, State.lineOn_regs _ _ _⟩

end Sys2Proof.Machine
end

section
/-! PROOFS.
The fault injections (spec/19, R459).
-/
namespace Sys2Proof.Machine
open Sys2Proof

/-- The injection as FLT holds it. -/
abbrev Injection.armed (checker unit to_ left : Nat) (quiet : Bool) : Injection :=
  { checker := checker, unit := unit, to_ := to_, left := left, quiet := quiet, flagged := false }

/-- From ROLLING on, outside a proving run of the checker, an injection is armed (R459). -/
theorem State.inject_arms {s : State} {m : Master} {lim checker unit to_ left : Nat} {quiet : Bool} (acc : Accepts s m R.FLT_INJ_STATUS)
    (idle : s.provingChecker checker = false) (rolling : 2 ≤ s.get R.BOOT_STAGE_STAGE) (low : unit < lim) :
    s.inject m false lim (.armed checker unit to_ left quiet) =
      State.set { s with flt := { s.flt with inj := some (.armed checker unit to_ left quiet) } } R.FLT_INJ_STATUS 1 := by
  unfold State.inject
  rw [hostCmd_accepts acc]
  simp only [idle, Bool.false_eq_true, if_false, Bool.false_or, decide_eq_true_eq, if_neg (Nat.not_lt.mpr rolling), State.injUnit, if_pos low]

/-- Islands with a coupling between them are islands (R17). -/
theorem coupledAny_lt {src dst : Nat} (any : coupledAny src dst = true) : src < 16 := by
  obtain ⟨ch, low, joined⟩ := List.any_eq_true.mp any
  have channels : ch = 0 ∨ ch = 1 ∨ ch = 2 := by have := List.mem_range.mp low; omega
  rcases channels with rfl | rfl | rfl <;> simp [coupled] at joined <;> omega

section
variable {s : State} {i : Injection}

/-- What an injection that completes leaves (R459). -/
theorem State.injEnd_spec (s : State) {st : Nat} (low : st < 2 ^ 4) : (s.injEnd st).flt.inj = none ∧ (s.injEnd st).flt.causes = s.flt.causes ∧
    Event (s.injEnd st) P.FLT E.FLT_INJ_DONE ∧ (s.injEnd st).get R.FLT_INJ_STATUS = st := by
  have flt : (s.injEnd st).flt = { s.flt with inj := none } := (((Within.set (.refl _) (by decide)).raise (by decide)).trig).flt_eq
  refine ⟨by rw [flt], by rw [flt], (Within.trig (.refl _)).event (event_raise _ _ _ (by decide)), ?_⟩
  refine (((Within.refl _).raise (by decide)).trig).get_eq.trans ?_
  rw [State.get_set_same _ _ _ (by decide)]
  exact Nat.mod_eq_of_lt low

theorem exec_injDone_detected (held : s.flt.inj = some i) (flagged : i.flagged = true) (expired : Bool) :
    exec (.injDone expired) s = .next ((s.bump R.FLT_INJ_DETECT_COUNT).injEnd 2) := by
  show execInjDone expired s = _
  unfold execInjDone
  simp only [held, flagged, if_true]

theorem exec_injDone_missed (held : s.flt.inj = some i) (flagged : i.flagged = false) : exec (.injDone true) s = .next ((s.pulse (injLine i)).injEnd 3) := by
  show execInjDone true s = _
  unfold execInjDone
  simp only [held, flagged, Bool.false_eq_true, if_false, if_true]

theorem exec_injDone_waits (held : s.flt.inj = some i) (flagged : i.flagged = false) : exec (.injDone false) s = .next s := by
  show execInjDone false s = _
  unfold execInjDone
  simp only [held, flagged, Bool.false_eq_true, if_false]

end

/-- Settles O8: that the operand `expired` tells of the 10 ms is log entry 9. -/
theorem faultInjectionsRunAndEnd : Obligations.FaultInjectionsRunAndEnd := by
  have armed {s t : State} {m : Master} {lim checker unit to_ left : Nat} {quiet : Bool} (e : t = s.inject m false lim (.armed checker unit to_ left quiet))
      (acc : Accepts s m R.FLT_INJ_STATUS) (idle : s.provingChecker checker = false) (rolling : 2 ≤ s.get R.BOOT_STAGE_STAGE) (low : unit < lim) :
      t.get R.FLT_INJ_STATUS = 1 ∧ t.flt.inj = some (.armed checker unit to_ left quiet) := by
    rw [e, State.inject_arms acc idle rolling low]
    exact ⟨State.get_set_same _ _ _ (by decide), by rw [State.set_flt]⟩
  refine ⟨fun s m unit quiet low acc idle rolling => ⟨_, rfl, armed rfl acc idle rolling low⟩, fun s m src dst n quiet acc idle rolling joined => ?_,
    fun s m n quiet acc idle rolling => ⟨_, rfl, armed rfl acc idle rolling (by decide)⟩, fun s m core quiet low acc idle rolling triad => ?_,
    fun s m quiet acc idle rolling => ⟨_, rfl, armed rfl acc idle rolling (by decide)⟩, fun s i expired held => ?_⟩
  · have bad : (!coupledAny src dst) = false := by rw [joined]; rfl
    exact ⟨_, rfl, armed (by rw [bad]; rfl) acc idle rolling (coupledAny_lt joined)⟩
  · have bad : decide (s.get R.VOTE_STATUS_MODE ≠ 1) = false := decide_eq_false (not_not.mpr triad)
    exact ⟨_, rfl, armed (by rw [bad]) acc idle rolling low⟩
  · cases flagged : i.flagged with
    | true =>
      obtain ⟨gone, -, event, status⟩ := State.injEnd_spec (s.bump R.FLT_INJ_DETECT_COUNT) (st := 2) (by decide)
      refine .intro (exec_injDone_detected held flagged expired) ⟨fun _ => ⟨gone, event, status, ?_⟩, nofun, nofun⟩
      rw [((Within.refl _).injEnd (by decide)).get_eq]
      exact State.bump_get_same _ _ (by decide)
    | false =>
      cases expired with
      | true =>
        obtain ⟨gone, causes, event, status⟩ := State.injEnd_spec (s.pulse (injLine i)) (st := 3) (by decide)
        refine .intro (exec_injDone_missed held flagged) ⟨nofun, fun _ _ => ⟨gone, event, status, ?_⟩, nofun⟩
        exact causes ▸ State.lineOn_causes _ _ _
      | false => exact .intro (exec_injDone_waits held flagged) ⟨nofun, nofun, fun _ _ => rfl⟩

end Sys2Proof.Machine
end

section
/-! PROOFS.
Windows, events and vectors (spec/04, R87 to R92, R105).
-/
namespace Sys2Proof.Machine
open Sys2Proof

section
variable {s : State} {m : Master} {since : Nat}

theorem State.setWindow_mst (s : State) (m : Master) (w : Nat) : ((s.setWindow m w).mst m).window = w := by rw [State.setWindow, State.mst_putMst_same]

theorem exec_expertKeyWrite_arms (op : Open s m R.GLB_EXPERT_KEY) (since : Nat) :
    exec (.expertKeyWrite m (BitVec.ofNat 36 0x5C0A71E42) since) s = .next ((s.closeWindow m).setWindow m 1) := by
  show execExpertKeyWrite _ _ _ s = _
  unfold execExpertKeyWrite
  rw [hostWrite_open op]
  exact congrArg _ (if_pos (by decide))

theorem exec_expertKeyWrite_opens (op : Open s m R.GLB_EXPERT_KEY) (armed : (s.mst m).window = 1) (soon : since ≤ 1000)
    (permit : m = .pf1 → s.get R.GLB_EXPERT_CTRL_PERMIT_PF1 = 1) :
    exec (.expertKeyWrite m (BitVec.ofNat 36 0xA3F58E1BD) since) s = .next ((s.setWindow m 2).raise P.GLB E.GLB_EXPERT_OPEN) := by
  have permitted : ¬(m = .pf1 ∧ s.get R.GLB_EXPERT_CTRL_PERMIT_PF1 = 0) := fun ⟨is, off⟩ => by rw [permit is] at off; cases off
  have key : (BitVec.ofNat 36 0xA3F58E1BD).toNat = 0xA3F58E1BD := by decide
  show execExpertKeyWrite _ _ _ s = _
  unfold execExpertKeyWrite
  rw [hostWrite_open op, key]
  simp only [armed, soon, permitted]
  rfl

theorem exec_expertKeyWrite_late (op : Open s m R.GLB_EXPERT_KEY) (armed : (s.mst m).window = 1) (late : 1000 < since) :
    exec (.expertKeyWrite m (BitVec.ofNat 36 0xA3F58E1BD) since) s = .next (s.setWindow m 0) := by
  have key : (BitVec.ofNat 36 0xA3F58E1BD).toNat = 0xA3F58E1BD := by decide
  show execExpertKeyWrite _ _ _ s = _
  unfold execExpertKeyWrite
  rw [hostWrite_open op, key]
  simp [armed, Nat.not_le.mpr late]

theorem exec_expertKeyWrite_other (op : Open s m R.GLB_EXPERT_KEY) {v : Word} (first : v.toNat ≠ 0x5C0A71E42) (second : v.toNat ≠ 0xA3F58E1BD) (since : Nat) :
    exec (.expertKeyWrite m v since) s = .next ((s.closeWindow m).setWindow m 0) := by
  show execExpertKeyWrite _ _ _ s = _
  unfold execExpertKeyWrite
  rw [hostWrite_open op, if_neg first, if_neg second]

/-- A window that closes tells (R91). -/
theorem State.closeWindow_open (s : State) (m : Master) (is : (s.mst m).window = 2) : ((s.closeWindow m).mst m).window = 0 ∧ Event (s.closeWindow m) P.GLB E.GLB_EXPERT_CLOSE := by
  rw [State.closeWindow, if_pos is]
  exact ⟨by rw [State.raise_mst, State.mst_putMst_same], event_raise _ _ _ (by decide)⟩

end

/-! ## The clearing of events -/

section
variable {s : State} {m : Master}

theorem slotDefined_evt {page : Nat} (h : pageDefined page = true) : slotDefined (R.PG_EVT page) = true := by
  have num : R.PG_EVT page / 512 = page := by show (page * 512 + 4) / 512 = page; omega
  have head : R.PG_EVT page % 512 < 8 := by show (page * 512 + 4) % 512 < 8; omega
  unfold slotDefined
  rw [num, h, decide_eq_true head]
  rfl

theorem exec_pgEvtClear {page : Nat} (defined : pageDefined page = true) (op : Open s m (R.PG_EVT page)) (v : Word) (same : Nat) :
    exec (.pgEvtClear m page v same) s = .next (s.clearEvt page (v.toNat % 2 ^ 32 - (v.toNat % 2 ^ 32 &&& same))) := by
  have num : R.PG_EVT page / 512 = page := by show (page * 512 + 4) / 512 = page; omega
  have head : R.PG_EVT page % 512 < 8 := by show (page * 512 + 4) % 512 < 8; omega
  have other : R.PG_EVT page ≠ R.PG_CTRL page := by show page * 512 + 4 ≠ page * 512 + 2; omega
  show execPgEvtClear m page v same s = _
  unfold execPgEvtClear State.plainWrite
  rw [op.1, slotDefined_evt defined, hostWrite_open op]
  simp only [State.writeSlot, if_pos head, State.writeHeader, num, if_neg other, if_true, plainArrival]
  rfl

/-- The bits of PG_EVT after a clearing write (R87). -/
theorem State.clearEvt_bit (s : State) (page : Nat) (v : Word) (same b : Nat) (low : b < 32) :
    bitOn ((s.clearEvt page (v.toNat % 2 ^ 32 - (v.toNat % 2 ^ 32 &&& same))).rd (R.PG_EVT page)).toNat b =
      (bitOn (s.rd (R.PG_EVT page)).toNat b && (!bitOn v.toNat b || bitOn same b || bitOn (s.rd (R.PG_EVT_NOW page)).toNat b)) := by
  unfold State.clearEvt bitOn
  rw [State.rd_wr_same, BitVec.toNat_ofNat, Nat.testBit_mod_two_pow, Nat.testBit_or, testBit_sub_and, Nat.testBit_and, Nat.testBit_and, testBit_sub_and, Nat.testBit_mod_two_pow]
  have low' : b < 36 := by omega
  have cleared : ∀ o v q n : Bool, ((o && !(v && !q)) || (o && (v && !q) && n)) = (o && (!v || q || n)) := by decide
  simp only [low, low', decide_true, Bool.true_and]
  exact cleared _ _ _ _

end

/-! ## Messages -/

/-- Only messages have gone from `s` to `t`, and what masks them is the same. -/
structure Messages (s t : State) : Prop where
  regs : t.regs = s.regs
  enabled : ∀ pf, (t.msixOf pf).enabled = (s.msixOf pf).enabled
  funcMask : ∀ pf, (t.msixOf pf).funcMask = (s.msixOf pf).funcMask
  masked : ∀ pf, (t.msixOf pf).masked = (s.msixOf pf).masked
  sent : ∃ l, t.sent = l ++ s.sent

theorem Messages.refl (s : State) : Messages s s := ⟨rfl, fun _ => rfl, fun _ => rfl, fun _ => rfl, [], rfl⟩

theorem Messages.trans {s t u : State} (h : Messages s t) (k : Messages t u) : Messages s u := by
  obtain ⟨l, el⟩ := h.sent
  obtain ⟨l', el'⟩ := k.sent
  exact ⟨k.regs.trans h.regs, fun pf => (k.enabled pf).trans (h.enabled pf), fun pf => (k.funcMask pf).trans (h.funcMask pf), fun pf => (k.masked pf).trans (h.masked pf),
    l' ++ l, by rw [el', el, List.append_assoc]⟩

theorem Messages.emit (s : State) (x : Out) : Messages s (s.emit x) := ⟨rfl, fun _ => rfl, fun _ => rfl, fun _ => rfl, [x], rfl⟩

/-- A function's pending bits change. -/
theorem Messages.putMsix (s : State) (pf : Nat) (x : MsixPart) (enabled : x.enabled = (s.msixOf pf).enabled) (funcMask : x.funcMask = (s.msixOf pf).funcMask)
    (masked : x.masked = (s.msixOf pf).masked) : Messages s (s.putMsix pf x) := by
  have of (q : Nat) : (s.putMsix pf x).msixOf q = if (q = 1 ↔ pf = 1) then x else s.msixOf q := by
    unfold State.putMsix State.msixOf
    by_cases h : pf = 1 <;> by_cases k : q = 1 <;> simp [h, k]
  have same {q : Nat} (is : q = 1 ↔ pf = 1) : s.msixOf q = s.msixOf pf := by
    unfold State.msixOf
    by_cases h : pf = 1 <;> simp [h, is]
  refine ⟨rfl, fun q => ?_, fun q => ?_, fun q => ?_, [], rfl⟩ <;> rw [of] <;> split
  next is => rw [same is, enabled]
  · rfl
  next is => rw [same is, funcMask]
  · rfl
  next is => rw [same is, masked]
  · rfl

/-- The function to which a vector's message goes (R105). -/
def State.vecPf (s : State) (v : Nat) : Nat := if bitOn (s.rd R.EVT_VEC_PF).toNat v then 1 else 0

theorem State.sendVec_eq (s : State) (v : Nat) : s.sendVec v =
    if !(s.msixOf (s.vecPf v)).enabled then s
    else if (s.msixOf (s.vecPf v)).funcMask || bitOn (s.msixOf (s.vecPf v)).masked v then
      s.putMsix (s.vecPf v) { s.msixOf (s.vecPf v) with pend := setBit (s.msixOf (s.vecPf v)).pend v true }
    else s.emit (.msix (s.vecPf v) v) := rfl

theorem Messages.sendVec (s : State) (v : Nat) : Messages s (s.sendVec v) := by
  rw [State.sendVec_eq]
  split
  · exact .refl s
  · split
    · exact .putMsix s _ _ rfl rfl rfl
    · exact .emit s _

/-- A message that nothing masks leaves. -/
theorem State.sendVec_sends {s t : State} {v : Nat} (h : Messages s t) (on : (s.msixOf (s.vecPf v)).enabled = true) (open' : (s.msixOf (s.vecPf v)).funcMask = false)
    (clear : bitOn (s.msixOf (s.vecPf v)).masked v = false) : ∃ l, (t.sendVec v).sent = l ++ s.sent ∧ Out.msix (s.vecPf v) v ∈ l := by
  have pf : t.vecPf v = s.vecPf v := by unfold State.vecPf; rw [State.rd_congr h.regs]
  obtain ⟨l, el⟩ := h.sent
  rw [State.sendVec_eq, pf, h.enabled, h.funcMask, h.masked, on, open', clear]
  exact ⟨.msix (s.vecPf v) v :: l, congrArg _ el, List.mem_cons_self⟩

theorem Messages.mem {s t u : State} (k : Messages t u) {x : Out} (new : ∃ l, t.sent = l ++ s.sent ∧ x ∈ l) : ∃ l, u.sent = l ++ s.sent ∧ x ∈ l := by
  obtain ⟨l, el, m⟩ := new
  obtain ⟨l', el'⟩ := k.sent
  exact ⟨l' ++ l, by rw [el', el, List.append_assoc], List.mem_append_right _ m⟩

/-- What steps leave, their whole walk leaves. -/
theorem Messages.foldl {f : State → Nat → State} (step : ∀ t v, Messages t (f t v)) (l : List Nat) (t : State) : Messages t (l.foldl f t) := by
  induction l generalizing t with
  | nil => exact .refl t
  | cons v l ih => exact (step t v).trans (ih _)

/-- An acknowledgement sends each vector that is named and whose level is 1 (R105). -/
theorem foldl_sendVec {s t : State} {c : Nat → Bool} {l : List Nat} {v : Nat} (h : Messages s t) (mem : v ∈ l) (named : c v = true)
    (on : (s.msixOf (s.vecPf v)).enabled = true) (open' : (s.msixOf (s.vecPf v)).funcMask = false) (clear : bitOn (s.msixOf (s.vecPf v)).masked v = false) :
    ∃ x, (l.foldl (fun (t : State) k => if c k then t.sendVec k else t) t).sent = x ++ s.sent ∧ Out.msix (s.vecPf v) v ∈ x := by
  have step (t : State) (k : Nat) : Messages t (if c k then t.sendVec k else t) := by
    split
    · exact .sendVec t k
    · exact .refl t
  induction l generalizing t with
  | nil => cases mem
  | cons k l ih =>
    rcases List.mem_cons.mp mem with rfl | mem
    · refine Messages.mem (.foldl step l _) ?_
      show ∃ l, (if c v then t.sendVec v else t).sent = l ++ s.sent ∧ _
      rw [if_pos named]
      exact State.sendVec_sends h on open' clear
    · exact ih (h.trans (step t k)) mem

/-- A pending message that nothing masks any more leaves (R476). -/
def State.sendOne (pf : Nat) (t : State) (v : Nat) : State :=
  if bitOn (t.msixOf pf).pend v && !bitOn (t.msixOf pf).masked v then
    (t.putMsix pf { t.msixOf pf with pend := setBit (t.msixOf pf).pend v false }).emit (.msix pf v)
  else t

theorem State.sendPending_eq (s : State) (pf : Nat) : s.sendPending pf =
    if !(s.msixOf pf).enabled || (s.msixOf pf).funcMask then s else (List.range 32).foldl (State.sendOne pf) s := rfl

theorem Messages.sendOne (pf : Nat) (t : State) (v : Nat) : Messages t (t.sendOne pf v) := by
  unfold State.sendOne
  split
  · exact (Messages.putMsix t pf { t.msixOf pf with pend := setBit (t.msixOf pf).pend v false } rfl rfl rfl).trans (.emit _ _)
  · exact .refl t

theorem Messages.sendPending (s : State) (pf : Nat) : Messages s (s.sendPending pf) := by
  rw [State.sendPending_eq]
  split
  · exact .refl s
  · exact .foldl (.sendOne pf) _ _

theorem State.msixOf_putMsix (s : State) (pf : Nat) (x : MsixPart) : (s.putMsix pf x).msixOf pf = x := by
  unfold State.putMsix State.msixOf
  by_cases h : pf = 1 <;> simp [h]

theorem State.sendOne_pend (pf : Nat) (t : State) (v w : Nat) : bitOn ((t.sendOne pf v).msixOf pf).pend w =
    (bitOn (t.msixOf pf).pend w && !(decide (w = v) && !bitOn (t.msixOf pf).masked v)) := by
  unfold State.sendOne
  split
  next sends =>
    obtain ⟨pend, clear⟩ := Bool.and_eq_true_iff.mp sends
    show bitOn ((t.putMsix pf { t.msixOf pf with pend := setBit (t.msixOf pf).pend v false }).msixOf pf).pend w = _
    rw [State.msixOf_putMsix, clear]
    by_cases is : w = v
    · rw [is, bitOn_setBit_same]
      simp
    · rw [bitOn_setBit_other _ _ _ _ is]
      simp [is]
  next stays =>
    by_cases is : w = v
    · rw [is]
      cases pend : bitOn (t.msixOf pf).pend v <;> cases mask : bitOn (t.msixOf pf).masked v <;> simp_all
    · simp [is]

/-- A pending vector that nothing masks is sent, and pends no more (R105, R476). -/
theorem foldl_sendOne {pf v : Nat} {l : List Nat} {t : State} (mem : v ∈ l) (clear : bitOn (t.msixOf pf).masked v = false) :
    bitOn ((l.foldl (State.sendOne pf) t).msixOf pf).pend v = false ∧
    (bitOn (t.msixOf pf).pend v = true → ∃ x, (l.foldl (State.sendOne pf) t).sent = x ++ t.sent ∧ Out.msix pf v ∈ x) := by
  have gone (l : List Nat) (t : State) (off : bitOn (t.msixOf pf).pend v = false) : bitOn ((l.foldl (State.sendOne pf) t).msixOf pf).pend v = false :=
    List.foldlRecOn (motive := fun t : State => bitOn (t.msixOf pf).pend v = false) l _ off fun t ht k _ => by rw [State.sendOne_pend, ht, Bool.false_and]
  induction l generalizing t with
  | nil => cases mem
  | cons k l ih =>
    by_cases is : v = k
    · subst is
      refine ⟨gone l _ (by rw [State.sendOne_pend, clear]; simp), fun pend => ?_⟩
      refine Messages.mem (.foldl (.sendOne pf) l _) ⟨[.msix pf v], ?_, List.mem_singleton_self _⟩
      rw [State.sendOne, pend, clear]
      rfl
    · have mem : v ∈ l := (List.mem_cons.mp mem).resolve_left is
      obtain ⟨off, sends⟩ := ih (t := t.sendOne pf k) mem (by rw [(Messages.sendOne pf t k).masked]; exact clear)
      refine ⟨off, fun pend => ?_⟩
      obtain ⟨x, ex, m⟩ := sends (by rw [State.sendOne_pend, pend]; simp [is])
      obtain ⟨y, ey⟩ := (Messages.sendOne pf t k).sent
      exact ⟨x ++ y, by rw [List.foldl_cons, ex, ey, List.append_assoc], List.mem_append_left _ m⟩

theorem exec_vectorAck {s : State} {m : Master} (op : Open s m R.EVT_VEC_ACK) (v : Word) :
    exec (.vectorAck m v) s = .next ((List.range 32).foldl (fun (t : State) k => if v.toNat.testBit k && s.vecLevel k then t.sendVec k else t) s) := by
  show execVectorAck m v s = _
  unfold execVectorAck
  rw [hostWrite_open op]

theorem exec_msixUnmask {s : State} {pf vec : Nat} (low : pf < 2) (slot : vec < 32) (masked : Bool) : exec (.msixUnmask pf vec masked) s =
    .next ((s.putMsix pf { s.msixOf pf with masked := setBit (s.msixOf pf).masked vec masked }).sendPending pf) := by
  show execMsixUnmask pf vec masked s = _
  unfold execMsixUnmask
  rw [if_neg (Nat.not_le.mpr slot), withUnit_next low]

/-- Settles O53. -/
theorem windowsEventsAndVectors : Obligations.WindowsEventsAndVectors := by
  refine ⟨fun s m since op => ⟨.intro (exec_expertKeyWrite_arms op since) (State.setWindow_mst _ _ _), fun armed soon permit => ?_, fun armed late => ?_, fun v first second => ?_⟩,
    fun s m is => ⟨fun on => ?_, fun off => ?_⟩, fun s m page v same defined op => ?_, fun s m v k pf op low bit level who on open' clear => ?_,
    fun s pf vec low slot => ⟨?_, fun on open' pend => ?_⟩⟩
  · exact .intro (exec_expertKeyWrite_opens op armed soon permit) ⟨by rw [State.raise_mst, State.setWindow_mst], event_raise _ _ _ (by decide)⟩
  · exact .intro (exec_expertKeyWrite_late op armed late) ⟨State.setWindow_mst _ _ _, State.putMst_regs ..⟩
  · exact .intro (exec_expertKeyWrite_other op first second since) (State.setWindow_mst _ _ _)
  · have e : exec (.expertWindowTimeout m) s = .next (s.closeWindow m) := congrArg _ (if_neg on)
    exact .intro e (s.closeWindow_open m is)
  · have e : exec (.expertWindowTimeout m) s = .next s := congrArg _ (if_pos off)
    exact .intro e rfl
  · exact .intro (exec_pgEvtClear defined op v same) ⟨((Within.refl s).clearEvt (decide_eq_true (List.mem_singleton_self _))).onlySlots, fun b => s.clearEvt_bit page v same b⟩
  · have step (t : State) (k : Nat) : Messages t (if v.toNat.testBit k && s.vecLevel k then t.sendVec k else t) := by
      split
      · exact .sendVec t k
      · exact .refl t
    subst who
    exact .intro (exec_vectorAck op v) ⟨foldl_sendVec (c := fun k => v.toNat.testBit k && s.vecLevel k) (.refl s) (List.mem_range.mpr low) (by rw [bit, level]; rfl) on open' clear,
      (Messages.foldl step _ s).regs⟩
  · have sent := Messages.sendPending (s.putMsix pf { s.msixOf pf with masked := setBit (s.msixOf pf).masked vec true }) pf
    refine .intro (exec_msixUnmask low slot true) ⟨?_, sent.regs⟩
    rw [sent.masked, State.msixOf_putMsix]
    exact bitOn_setBit_same (s.msixOf pf).masked vec true
  · have sent := Messages.sendPending (s.putMsix pf { s.msixOf pf with masked := setBit (s.msixOf pf).masked vec false }) pf
    refine .intro (exec_msixUnmask low slot false) ⟨?_, ?_⟩
    · rw [sent.masked, State.msixOf_putMsix]
      exact bitOn_setBit_same (s.msixOf pf).masked vec false
    · have runs : ¬((!((s.putMsix pf { s.msixOf pf with masked := setBit (s.msixOf pf).masked vec false }).msixOf pf).enabled ||
          ((s.putMsix pf { s.msixOf pf with masked := setBit (s.msixOf pf).masked vec false }).msixOf pf).funcMask) = true) := by
        rw [State.msixOf_putMsix]
        simp [on, open']
      rw [State.sendPending_eq, if_neg runs]
      obtain ⟨off, sends⟩ := foldl_sendOne (pf := pf) (t := s.putMsix pf { s.msixOf pf with masked := setBit (s.msixOf pf).masked vec false }) (List.mem_range.mpr slot)
        (by rw [State.msixOf_putMsix]; exact bitOn_setBit_same (s.msixOf pf).masked vec false)
      exact ⟨off, sends (by rw [State.msixOf_putMsix]; exact pend)⟩

end Sys2Proof.Machine
end

section
/-! PROOFS.
Writes of registers (spec/04, R96; spec/00, R5).
-/
namespace Sys2Proof.Machine
open Sys2Proof

/-- A device in ROLLING with every island released. -/
def released : State := { State.reset with boot := { BootPart.init with pos := .rolling, pins := .driven }, isl := { IslandPart.init with inReset := 0 } }

/-- The word −1 in a 36-bit register. -/
def minusOne : Word := BitVec.ofNat 36 wordMax

/-- A shadow write of a slot with RWS bits is a write of its register. -/
theorem exec_shadowWrite (m : Master) (slot : Nat) (v : Word) (s : State) (shadowed : rwsMask slot ≠ 0) :
    exec (.shadowWrite m slot v) s = .next (s.plainWrite m slot v plainArrival) := by
  show execShadowWrite m slot v s = _
  unfold execShadowWrite
  rw [if_neg shadowed]

/-- The shadow of VOTE_TOL_F takes 0 for a negative word (R5): the write is clamped before its bits are merged. -/
theorem shadow_plainWrite_voteTolF : (released.plainWrite .spi R.VOTE_TOL_F minusOne plainArrival).shadow.read R.VOTE_TOL_F = 0 := by
  decide

/-- Refutes O52: a shadowed register with a limit does not take the word as written. VOTE_TOL_F takes a negative word as 0 (R5, `clampSlot`), where the statement's third part
wants all of the word's bits in the shadow. -/
theorem not_writesReachTheirRegisters : ¬ Obligations.WritesReachTheirRegisters := by
  unfold Obligations.WritesReachTheirRegisters
  rintro ⟨-, -, shadowed, -⟩
  have opened : Open released .spi R.VOTE_TOL_F := by decide
  have row : slotDef R.VOTE_TOL_F = some ((slotDef R.VOTE_TOL_F).get (by decide)) := (Option.some_get _).symm
  obtain ⟨u, ran, stored, -, -⟩ := (shadowed released .spi R.VOTE_TOL_F minusOne _ row (by decide) (by decide) (by decide)).1 opened
  obtain rfl := Host.Outcome.next.inj ((exec_shadowWrite .spi R.VOTE_TOL_F minusOne released (by decide)).symm.trans ran)
  exact absurd (shadow_plainWrite_voteTolF.symm.trans stored) (by decide)

end Sys2Proof.Machine
end

section
/-! PROOFS.
The SPI target (spec/21, R478, R479).
-/
namespace Sys2Proof.Machine
open Sys2Proof

/-! ## What a host read may touch -/

theorem Within.keyDataRead {C : Cap} {s₀ s : State} {m : Master} (h : Within C s₀ s) (may : Ok.accessErr C) : Within C s₀ (settle (execKeyDataAccess m none s) s) :=
  .ite h (.ite ((h.accessErr may).putMst) (.keySet (.putMst h)))

/-- A read touches the report of its error and the index of ATT.OUT_DATA. -/
theorem Within.hostRead {C : Cap} {s₀ s : State} {m : Master} {tick a : Nat} (h : Within C s₀ s) (may : Ok.accessErr C ∧ Ok.set C R.ATT_OUT_IDX_IDX) :
    Within C s₀ (s.hostRead m tick a) := by
  have snaps (view : State) (v : Word) : Within C s₀ ((snapSlots a).foldl (fun (t : State) (k : Nat) =>
      t.putMst m { t.mst m with snap := kvPut (t.mst m).snap k (view.live (some m) tick k) }) (s.ret m v)) := .foldl h.ret fun _ _ _ h => h.putMst
  unfold State.hostRead
  exact .ite h (.ite h.ret (.ite (h.accessErr may.1).ret (.ite (h.keyDataRead may.1) (.ite ((snaps _ _).set may.2) (snaps _ _)))))

/-- LINE_SEL has no effect of its own: a write stores its bits. -/
theorem State.writeSlot_lineSel (s : State) (m : Master) (v : Word) (a : Arrival) :
    s.writeSlot m R.FLT_LINE_SEL v a = s.wr R.FLT_LINE_SEL (mergeBits (s.rd R.FLT_LINE_SEL) v 63) := by
  obtain ⟨d, row, rw, rws, time⟩ : ∃ d, slotDef R.FLT_LINE_SEL = some d ∧ d.rw = 63 ∧ d.rws = 0 ∧ d.time = 0 :=
    ⟨_, (Option.some_get (by decide)).symm, by decide, by decide, by decide⟩
  have word : clampSlot R.FLT_LINE_SEL v = v := by
    unfold clampSlot
    rw [if_neg (by simp), if_neg (by decide)]
  unfold State.writeSlot
  rw [if_neg (by decide), row]
  simp only
  rw [if_neg (by simp), if_neg (by decide), if_neg (by simp [time]), State.writeWord, word, rw, rws]
  rw [if_neg (by decide), if_neg (by decide), if_pos rfl, if_neg (by decide), State.wrote]
  simp +decide only [if_false]

theorem State.writeAny_plain_lineSel (s : State) (m : Master) (v : Word) (a : Arrival) : s.writeAny m R.FLT_LINE_SEL v a = s.plainWrite m R.FLT_LINE_SEL v a := by
  unfold State.writeAny State.regWrite
  rw [if_neg (by decide), if_neg (by decide), if_neg (by decide), if_pos (by decide)]
  unfold State.writeLow
  simp +decide only [if_false]

theorem State.writeAny_lineSel {s : State} {m : Master} (up : s.hostUp m = true) (alive : s.pageDead P.FLT = false) (v : Word) (a : Arrival) :
    s.writeAny m R.FLT_LINE_SEL v a = s.wr R.FLT_LINE_SEL (mergeBits (s.rd R.FLT_LINE_SEL) v 63) := by
  rw [s.writeAny_plain_lineSel, State.plainWrite, hostWrite_open ⟨up, alive, .inl (by decide)⟩, s.writeSlot_lineSel, if_neg (by simp [up]), if_neg (by decide)]

section
variable {s : State}

/-- The value that SPI clocks out, after a read (R478). -/
def State.spiAnswer (s : State) (a tick : Nat) : State :=
  (s.hostRead .spi tick a).emit (.spi (0x5A :: bytesBE 5 ((s.hostRead .spi tick a).mst .spi).readData.toNat))

theorem exec_spiRead (up : s.hostUp .spi = true) (a b c wait tick : Nat) : exec (.spiRead [a, b, c] wait (wait + 6) tick) s =
    .next ((s.spiAnswer (ofBytes [a, b, c] % 2 ^ 23) tick).bump R.SPI_TRANSFERS_COUNT).spiGood := by
  have six (n : Nat) : (0x5A :: bytesBE 5 n).take (wait + 6 - wait) = 0x5A :: bytesBE 5 n := by
    rw [Nat.add_sub_cancel_left]
    rfl
  show execSpiRead [a, b, c] wait (wait + 6) tick s = _
  unfold execSpiRead
  simp only [up, six]
  rfl

theorem exec_spiRead_short (up : s.hostUp .spi = true) (a b wait tick : Nat) : exec (.spiRead [a, b] wait 0 tick) s = .next s.spiAbort := by
  show execSpiRead [a, b] wait 0 tick s = _
  unfold execSpiRead
  simp only [up]
  rfl

theorem exec_spiWrite_crc (up : s.hostUp .spi = true) {l : List Nat} (nine : l.length = 9) (write : l.headD 0 = 0x02) {crc : Nat} (bad : crc ≠ crc8 l) (a : Arrival) :
    exec (.spiWrite (l ++ [crc]) a) s = .next (((s.bump R.SPI_CRC_ERR_COUNT).raise P.SPI E.SPI_CRC_ERR).spiShow true false false).spiGood := by
  have head : (l ++ [crc]).headD 0 = 0x02 := by
    cases l with
    | nil => cases nine
    | cons x l => exact write
  have ten : (l ++ [crc]).length = 10 := by simp [nine]
  have body : (l ++ [crc]).take 9 = l := by rw [← nine]; exact List.take_left
  have last : (l ++ [crc]).getD 9 0 = crc := by simp [List.getD, nine]
  show execSpiWrite (l ++ [crc]) a s = _
  unfold execSpiWrite
  rw [if_neg (by simp [up]), if_neg (not_not.mpr head), if_neg (not_not.mpr ten), body, last, if_pos bad.symm]

theorem exec_spiWrite_short (up : s.hostUp .spi = true) {l : List Nat} (nine : l.length = 9) (write : l.headD 0 = 0x02) (a : Arrival) :
    exec (.spiWrite l a) s = .next ((s.spiShow false false false).spiAbort) := by
  show execSpiWrite l a s = _
  unfold execSpiWrite
  rw [if_neg (by simp [up]), if_neg (not_not.mpr write), if_pos (by omega)]

/-- The bytes of a number, first byte most significant, are its value. -/
theorem ofBytes_bytesBE (n v : Nat) : ofBytes (bytesBE n v) = v % 256 ^ n := by
  suffices ∀ z, (bytesBE n v).foldl (fun z b => z * 256 + b % 256) z = z * 256 ^ n + v % 256 ^ n by
    rw [ofBytes, this, Nat.zero_mul, Nat.zero_add]
  induction n with
  | zero => intro z; simp [bytesBE, Nat.mod_one]
  | succ n ih =>
    intro z
    rw [bytesBE, List.foldl_cons, ih, Nat.mod_mod, Nat.add_mul, Nat.add_assoc, pow_succ, Nat.mod_mul, Nat.add_comm (v % 256 ^ n), Nat.mul_comm (v / 256 ^ n % 256), Nat.mul_assoc, Nat.mul_comm 256]

/-- The merged word of LINE_SEL has the field of the written one. -/
theorem Fld.of_mergeBits_lineSel (old v : Word) : R.FLT_LINE_SEL_LINE.of (mergeBits old v 63) = R.FLT_LINE_SEL_LINE.of v := by
  have low : ∀ i < 6, Nat.testBit (2 ^ 36 - 1 - 63) i = false ∧ Nat.testBit 63 i = true := by decide
  refine Nat.eq_of_testBit_eq fun i => ?_
  simp only [Fld.of, pow_zero, Nat.div_one, Nat.testBit_mod_two_pow, mergeBits]
  by_cases h : i < 6
  · obtain ⟨out, inside⟩ := low i h
    simpa [h, inside] using fun _ on => absurd on (Bool.eq_false_iff.mp out)
  · simp [h]

/-- The state in which a good WRITE of LINE_SEL has stored its bits, with the counters that tell its outcome from 0. -/
def State.lineSelPut (s : State) (v : Word) : State :=
  let t := (s.set R.GLB_ACCESS_ERR_COUNT_COUNT 0).set R.GLB_WC_REJECT_COUNT 0
  t.wr R.FLT_LINE_SEL (mergeBits (t.rd R.FLT_LINE_SEL) v 63)

/-- … and with those counters moved on from what they were. -/
def State.lineSelDone (s : State) (v : Word) : State :=
  ((s.lineSelPut v).bumpBy R.GLB_ACCESS_ERR_COUNT_COUNT (s.get R.GLB_ACCESS_ERR_COUNT_COUNT)).bumpBy R.GLB_WC_REJECT_COUNT (s.get R.GLB_WC_REJECT_COUNT)

/-- Only LINE_SEL and the two counters change. -/
theorem Within.lineSelDone {C : Cap} {s₀ s : State} {v : Word} (h : Within C s₀ s)
    (may : Ok.wr C R.FLT_LINE_SEL ∧ Ok.set C R.GLB_ACCESS_ERR_COUNT_COUNT ∧ Ok.set C R.GLB_WC_REJECT_COUNT) : Within C s₀ (s.lineSelDone v) :=
  ((((h.set may.2.1).set may.2.2).wr may.1).bumpBy may.2.1).bumpBy may.2.2

theorem State.lineSelDone_get (s : State) (v : Word) : (s.lineSelDone v).get R.FLT_LINE_SEL_LINE = R.FLT_LINE_SEL_LINE.of v := by
  rw [State.lineSelDone, (((Within.refl _).bumpBy (by decide)).bumpBy (by decide)).get_eq, State.lineSelPut, State.get, State.rd_wr_same, Fld.of_mergeBits_lineSel]

theorem State.spiPut_lineSel {s : State} (opened : Open s .spi R.FLT_LINE_SEL) (v : Word) (a : Arrival) : s.spiPut R.FLT_LINE_SEL v a = (s.lineSelDone v, false, false) := by
  obtain ⟨up, alive, -⟩ := opened
  have cleared : Within Cap.path s ((s.set R.GLB_ACCESS_ERR_COUNT_COUNT 0).set R.GLB_WC_REJECT_COUNT 0) := ((Within.refl s).set (by decide)).set (by decide)
  have put := State.writeAny_lineSel ((cleared.hostUp_eq .spi).trans up) ((cleared.pageDead_eq P.FLT).trans alive) v a
  have up' : (s.lineSelPut v).hostUp .spi = true := ((cleared.wr (by decide)).hostUp_eq .spi).trans up
  have noError : (s.lineSelPut v).get R.GLB_ACCESS_ERR_COUNT_COUNT = 0 := by
    rw [State.lineSelPut, (((Within.refl _).set (by decide)).wr (by decide)).get_eq]
    exact State.get_set_same _ _ _ (by decide)
  have noReject : (s.lineSelPut v).get R.GLB_WC_REJECT_COUNT = 0 := by
    rw [State.lineSelPut, ((Within.refl _).wr (by decide)).get_eq]
    exact State.get_set_same _ _ _ (by decide)
  unfold State.spiPut
  simp only
  rw [put, ← State.lineSelPut, if_neg (by simp [up']), noError, noReject]
  rfl

theorem exec_spiWrite_lineSel (opened : Open s .spi R.FLT_LINE_SEL) (v : Word) (a : Arrival) {l : List Nat} (bytes : l = 0x02 :: (bytesBE 3 R.FLT_LINE_SEL ++ bytesBE 5 v.toNat)) :
    exec (.spiWrite (l ++ [crc8 l]) a) s = .next ((((s.lineSelDone v).bump R.SPI_TRANSFERS_COUNT).spiShow false false true).spiGood) := by
  have nine : l.length = 9 := by rw [bytes]; rfl
  have tail : l ++ [crc8 l] = 0x02 :: (bytesBE 3 R.FLT_LINE_SEL ++ bytesBE 5 v.toNat) ++ [crc8 l] := by rw [← bytes]
  have head : (l ++ [crc8 l]).headD 0 = 0x02 := by rw [bytes]; rfl
  have slot : ofBytes (((l ++ [crc8 l]).drop 1).take 3) % 2 ^ 23 = R.FLT_LINE_SEL := by rw [tail]; rfl
  have word : BitVec.ofNat 36 (ofBytes (((l ++ [crc8 l]).drop 4).take 5)) = v := by
    rw [tail, show ((0x02 :: (bytesBE 3 R.FLT_LINE_SEL ++ bytesBE 5 v.toNat) ++ [crc8 l]).drop 4).take 5 = bytesBE 5 v.toNat from rfl, ofBytes_bytesBE]
    exact BitVec.eq_of_toNat_eq (by have := v.isLt; simp; omega)
  have crc : crc8 ((l ++ [crc8 l]).take 9) = (l ++ [crc8 l]).getD 9 0 := by
    rw [← nine, List.take_left]
    simp
  show execSpiWrite (l ++ [crc8 l]) a s = _
  unfold execSpiWrite
  rw [if_neg (by simp [opened.1]), if_neg (not_not.mpr head), if_neg (by simp [nine]), if_neg (not_not.mpr crc)]
  simp only [slot, word, State.spiPut_lineSel opened]
  rw [if_neg (by simp [((Within.refl s).lineSelDone (by decide)).hostUp_eq, opened.1])]
  rfl

theorem exec_spiStatus (up : s.hostUp .spi = true) : exec (.spiStatus 0x05 1) s =
    .next (s.emit (.spi [(s.live (some .spi) 0 R.SPI_STATUS).toNat % 256])).spiGood := by
  show execSpiStatus 0x05 1 s = _
  unfold execSpiStatus
  simp only [up]
  rfl

theorem exec_spiStatus_other (up : s.hostUp .spi = true) {cmd : Nat} (other : cmd ≠ 0x05) (n : Nat) : exec (.spiStatus cmd n) s = .next s.spiAbort := by
  show execSpiStatus cmd n s = _
  unfold execSpiStatus
  rw [if_neg (by simp [up]), if_pos other]

/-- A discarded transaction is counted (R479). -/
theorem State.spiAbort_spec (s : State) : s.spiAbort.get R.SPI_STATUS_ABORTED = 1 ∧ s.spiAbort.get R.SPI_ABORTED_COUNT = min (s.get R.SPI_ABORTED_COUNT + 1) (2 ^ 36 - 1) ∧
    s.spiAbort.host = s.host ∧ s.spiAbort.sent = s.sent := by
  refine ⟨State.get_set_same _ _ _ (by decide), ?_, State.set_host _ _ _, State.set_sent _ _ _⟩
  rw [State.spiAbort, ((Within.refl _).set (by decide)).get_eq]
  exact State.bump_get_same _ _ (by decide)

end

/-- Settles O48: STATUS clearing ABORTED, and a CRC error leaving it 0, are log entry 22. -/
theorem spiReadsWritesAndDiscards : Obligations.SpiReadsWritesAndDiscards := by
  refine ⟨fun s a b c wait tick up => ⟨?_, ?_⟩, fun s l a up nine write => ⟨fun crc bad => ?_, ?_⟩, fun s v a l op bytes => ?_, fun s up => ⟨?_, fun cmd n other => ?_⟩⟩
  · refine .intro (exec_spiRead up a b c wait tick) ⟨?_, State.get_set_same _ _ _ (by decide), ?_⟩
    · have count : (s.spiAnswer (ofBytes [a, b, c] % 2 ^ 23) tick).get R.SPI_TRANSFERS_COUNT = s.get R.SPI_TRANSFERS_COUNT :=
        (((Within.refl s).hostRead (by decide)).emit).get_eq
      rw [State.spiGood, ((Within.refl _).set (by decide)).get_eq, State.bump_get_same _ _ (by decide), count]
    · rw [State.spiGood, State.bump, State.bumpBy, State.set_sent, State.set_sent, State.set, State.set, State.wr_mst, State.wr_mst]
      rfl
  · obtain ⟨status, count, host, sent⟩ := s.spiAbort_spec
    exact .intro (exec_spiRead_short up a b wait tick) ⟨count, status, host, sent⟩
  · refine .intro (exec_spiWrite_crc up nine write bad a) ⟨?_, ?_, ?_, ?_, ?_⟩
    · rw [((((Within.refl _).raise (by decide)).spiShow (by decide)).spiGood (by decide)).get_eq]
      exact State.bump_get_same _ _ (by decide)
    · rw [((Within.refl _).spiGood (by decide)).get_eq, State.spiShow, (((Within.refl _).setFlag (by decide)).setFlag (by decide)).get_eq]
      exact State.setFlag_get_same _ _ _ (by decide) rfl
    · rw [((Within.refl _).spiGood (by decide)).get_eq]
      exact State.setFlag_get_same _ _ _ (by decide) rfl
    · exact (((Within.refl _).spiShow (by decide)).spiGood (by decide)).event (event_raise _ _ _ (by decide))
    · exact (((((Within.refl s).bump (by decide)).raise (by decide)).spiShow (by decide)).spiGood (by decide)).onlyPages
  · obtain ⟨status, count, host, sent⟩ := State.spiAbort_spec (s.spiShow false false false)
    refine .intro (exec_spiWrite_short up nine write a) ⟨?_, count.trans ?_, (((Within.refl s).spiShow (by decide)).spiAbort (by decide)).onlyPages⟩
    · rw [((Within.refl _).spiAbort (by decide)).get_eq]
      exact State.setFlag_get_same _ _ _ (by decide) rfl
    · rw [((Within.refl s).spiShow (by decide)).get_eq]
  · have frame : Within (Cap.away R.FLT_LINE_SEL_LINE) (s.lineSelDone v) ((((s.lineSelDone v).bump R.SPI_TRANSFERS_COUNT).spiShow false false true).spiGood) :=
      (((Within.refl _).bump (f := R.SPI_TRANSFERS_COUNT) (by decide)).spiShow (by decide)).spiGood (by decide)
    refine .intro (exec_spiWrite_lineSel op v a bytes) ⟨frame.get_eq.trans (s.lineSelDone_get v), ?_, ?_, ?_⟩
    · rw [((Within.refl _).spiGood (by decide)).get_eq]
      exact State.setFlag_get_same _ _ _ (by decide) rfl
    · rw [((Within.refl _).spiGood (by decide)).get_eq, State.spiShow, ((Within.refl _).setFlag (by decide)).get_eq]
      exact State.setFlag_get_same _ _ _ (by decide) rfl
    · rw [(((Within.refl _).spiShow (by decide)).spiGood (by decide)).get_eq, State.bump_get_same _ _ (by decide), ((Within.refl s).lineSelDone (by decide)).get_eq]
  · exact .intro (exec_spiStatus up) ⟨State.get_set_same _ _ _ (by decide), by rw [State.spiGood, State.set_sent]; rfl⟩
  · obtain ⟨status, count, host, sent⟩ := s.spiAbort_spec
    exact .intro (exec_spiStatus_other up other n) ⟨status, sent⟩

end Sys2Proof.Machine
end

section
/-! PROOFS.
Reads and their snapshots (spec/04, R82, R86, R94, R95).
-/
namespace Sys2Proof.Machine
open Sys2Proof

/-! ## A snapshot -/

/-- The master keeps, for each of the slots, the value it shows. -/
def State.snapshot (s : State) (m : Master) (value : Nat → Word) (slots : List Nat) : State :=
  slots.foldl (fun t k => t.putMst m { t.mst m with snap := kvPut (t.mst m).snap k (value k) }) s

section
variable (s : State) (m : Master) (value : Nat → Word)

theorem State.snapshot_regs (slots : List Nat) : (s.snapshot m value slots).regs = s.regs :=
  List.foldlRecOn (motive := fun t : State => t.regs = s.regs) _ _ rfl fun _ h _ _ => (State.putMst_regs ..).trans h

theorem State.snapshot_readData (slots : List Nat) : ((s.snapshot m value slots).mst m).readData = (s.mst m).readData :=
  List.foldlRecOn (motive := fun t : State => (t.mst m).readData = (s.mst m).readData) _ _ rfl fun t h k _ => by
    rw [State.mst_putMst_same]
    exact h

/-- A slot once kept stays: it is written with the same value only. -/
theorem State.snapshot_keeps (slots : List Nat) {k : Nat} (kept : kvGet (s.mst m).snap k = some (value k)) :
    kvGet ((s.snapshot m value slots).mst m).snap k = some (value k) :=
  List.foldlRecOn (motive := fun t : State => kvGet (t.mst m).snap k = some (value k)) _ _ kept fun t h j _ => by
    rw [State.mst_putMst_same]
    by_cases e : k = j
    · rw [e, kvGet_kvPut_same]
    · rw [kvGet_kvPut_other _ _ _ _ e, h]

theorem State.snapshot_snap (slots : List Nat) : ∀ k ∈ slots, kvGet ((s.snapshot m value slots).mst m).snap k = some (value k) := by
  induction slots generalizing s with
  | nil => exact fun _ none => nomatch none
  | cons j slots ih =>
    intro k on
    rcases List.mem_cons.mp on with rfl | later
    · exact State.snapshot_keeps _ m value slots (by rw [State.mst_putMst_same, kvGet_kvPut_same])
    · exact ih _ k later

end

/-! ## Reads -/

/-- The device as the core that answers for the slot sees it (R86). -/
def State.view (s : State) (a : Nat) : State := if corePage (a / 512) then s.asCore s.reader else s

section
variable {s : State} {m : Master} {a : Nat} (up : s.hostUp m = true) (low : a < 512 * aliasPage) (known : slotDefined a = true)
include up low known

theorem State.hostRead_dead (tick : Nat) (dead : s.pageDead (a / 512) = true) :
    s.hostRead m tick a = (s.accessErr m 4 false a).ret m (BitVec.ofNat 36 wordMax) := by
  have space : ¬ aliasPage ≤ a / 512 := by omega
  unfold State.hostRead
  simp [up, space, known, dead]

variable (lives : s.pageDead (a / 512) = false) (notKey : a ≠ R.KEY_DATA) (notAtt : a ≠ R.ATT_OUT_DATA)
include lives notKey notAtt

/-- A read that the master's snapshot does not answer returns the live value and takes the snapshot of its group. -/
theorem State.hostRead_live (tick : Nat) (fresh : (if snapMember a then kvGet (s.mst m).snap a else none) = none) :
    s.hostRead m tick a = (s.ret m ((s.view a).live (some m) tick a)).snapshot m ((s.view a).live (some m) tick) (snapSlots a) := by
  have space : ¬ aliasPage ≤ a / 512 := by omega
  unfold State.hostRead
  simp only [space, if_false, up, known, lives, notKey, notAtt, fresh]
  rfl

/-- A read that the snapshot answers returns its value. -/
theorem State.hostRead_kept (tick : Nat) {w : Word} (kept : (if snapMember a then kvGet (s.mst m).snap a else none) = some w) :
    s.hostRead m tick a = (s.ret m w).snapshot m ((s.view a).live (some m) tick) (snapSlots a) := by
  have space : ¬ aliasPage ≤ a / 512 := by omega
  unfold State.hostRead
  simp only [space, if_false, up, known, lives, notKey, notAtt, kept]
  rfl

end

theorem exec_t108ReadSnapshot (m : Master) (a tick : Nat) (s : State) : exec (.t108ReadSnapshot m a tick) s = .next (s.hostRead m tick a) := rfl

/-- Settles O51: a read is an ACCESS_ERR, or its value returned and a snapshot taken. That an undefined slot of a dead page reads 0 is log entry 21. -/
theorem readsAnswerTheirMaster : Obligations.ReadsAnswerTheirMaster := by
  refine ⟨fun s m a tick up low known lives notKey notAtt => ⟨fun first => ?_, fun w member kept => ?_⟩, fun s m a tick up low => ⟨fun undef => ?_, fun known dead => ?_⟩, fun s m slot up => ⟨?_, ?_⟩⟩
  · have read := State.hostRead_live up low known lives notKey notAtt tick (by rw [first]; rfl)
    have answer : ((s.hostRead m tick a).mst m).readData = (s.view a).live (some m) tick a ∧
        (∀ k ∈ snapSlots a, kvGet ((s.hostRead m tick a).mst m).snap k = some ((s.view a).live (some m) tick k)) ∧ (s.hostRead m tick a).regs = s.regs := by
      rw [read]
      exact ⟨by rw [State.snapshot_readData, State.ret_mst], State.snapshot_snap _ _ _ _, by rw [State.snapshot_regs, State.ret_regs]⟩
    exact ⟨.intro (exec_rsLeadRead ..) answer, .intro (exec_t108ReadSnapshot ..) answer⟩
  · refine .intro ((exec_rsLeadRead ..).trans (congrArg _ (State.hostRead_kept up low known lives notKey notAtt tick (by rw [member]; exact kept)))) ⟨?_, ?_⟩
    · rw [State.snapshot_readData, State.ret_mst]
    · rw [State.snapshot_regs, State.ret_regs]
  · exact .intro ((exec_rsLeadRead ..).trans (congrArg _ (State.hostRead_undefined up tick low undef))) ⟨by rw [State.ret_mst], State.ret_regs ..⟩
  · exact .intro ((exec_rsLeadRead ..).trans (congrArg _ (State.hostRead_dead up low known tick dead)))
      ⟨by rw [State.ret_mst], (State.event_ret ..).2 (State.accessErr_event ..), (State.accessErr_onlyPages s m 4 false a).ret m _⟩
  · exact .intro ((exec_widthAccess ..).trans (execWidthAccess_up up false))
      ⟨by rw [if_neg (by decide), State.ret_mst], (State.event_ret ..).2 (State.accessErr_event ..), (State.accessErr_onlyPages s m 1 false slot).ret m _⟩
  · exact .intro ((exec_widthAccess ..).trans (execWidthAccess_up up true))
      ⟨by rw [if_pos rfl, State.accessErr_mst], State.accessErr_event .., State.accessErr_onlyPages s m 1 true slot⟩

end Sys2Proof.Machine
end

section
/-! PROOFS.
What host commands leave alone (spec/04 and the units' sections).
-/
namespace Sys2Proof.Machine
open Sys2Proof

/-! ## Updates that only talk to the host -/

/-- Nothing differs but registers, messages to the host with their pending bits, and what has left the device. -/
def Talks (s t : State) : Prop := ∃ r h o, t = { s with regs := r, host := h, sent := o }

section
variable {s t : State}

theorem Talks.refl (s : State) : Talks s s := ⟨_, _, _, rfl⟩

theorem Talks.wr {a : Nat} {v : Word} (h : Talks s t) : Talks s (t.wr a v) := by
  obtain ⟨_, _, _, rfl⟩ := h
  exact ⟨_, _, _, rfl⟩

theorem Talks.set {f : Fld} {n : Nat} (h : Talks s t) : Talks s (t.set f n) := h.wr

theorem Talks.setFlag {f : Fld} {b : Bool} (h : Talks s t) : Talks s (t.setFlag f b) := h.set

theorem Talks.bump {f : Fld} (h : Talks s t) : Talks s (t.bump f) := h.set

theorem Talks.putMst {m : Master} {x : MasterState} (h : Talks s t) : Talks s (t.putMst m x) := by
  obtain ⟨_, _, _, rfl⟩ := h
  cases m <;> exact ⟨_, _, _, rfl⟩

theorem Talks.ite {c : Prop} [Decidable c] {u : State} (h : Talks s t) (k : Talks s u) : Talks s (if c then t else u) := by
  split
  exacts [h, k]

theorem Talks.foldl {α : Type} {f : State → α → State} {l : List α} (h : Talks s t) (k : ∀ x ∈ l, ∀ u, Talks s u → Talks s (f u x)) : Talks s (l.foldl f t) :=
  List.foldlRecOn (motive := fun u => Talks s u) l f h fun u hu x m => k x m u hu

theorem Talks.raise {p b : Nat} (h : Talks s t) : Talks s (t.raise p b) := by
  obtain ⟨_, _, _, rfl⟩ := h
  exact ⟨_, _, _, State.putEvt_frame _ _ _⟩

theorem Talks.level {p b : Nat} {on : Bool} (h : Talks s t) : Talks s (t.level p b on) := .ite h.wr.raise h.wr

theorem Talks.accessErr {m : Master} {c : Nat} {w : Bool} {a : Nat} (h : Talks s t) : Talks s (t.accessErr m c w a) :=
  .raise (.ite h.bump h.bump.wr)

theorem Talks.wcReject {m : Master} {a : Nat} (h : Talks s t) : Talks s (t.wcReject m a) := h.bump.wr.raise

theorem Talks.wrT {a v : Nat} (h : Talks s t) : Talks s (t.wrT a v) := h.wr.wr.wr

theorem Talks.wrS {a : Nat} {v : Int} (h : Talks s t) : Talks s (t.wrS a v) := h.wr.wr

theorem Talks.leapKind {k : Nat} (h : Talks s t) : Talks s (t.leapKind k) := .ite h.raise (.ite (.ite h.set h.set.setFlag.level) h.set)

theorem Talks.updSel {x : SelPart} (h : Talks s t) : Talks { s with sel := x } { t with sel := x } := by
  obtain ⟨_, _, _, rfl⟩ := h
  exact ⟨_, _, _, rfl⟩

theorem Talks.updAx {x : AxlePart} (h : Talks s t) : Talks { s with ax := x } { t with ax := x } := by
  obtain ⟨_, _, _, rfl⟩ := h
  exact ⟨_, _, _, rfl⟩

theorem Talks.updErec {x : RecPart} (h : Talks s t) : Talks { s with erec := x } { t with erec := x } := by
  obtain ⟨_, _, _, rfl⟩ := h
  exact ⟨_, _, _, rfl⟩

/-- A trigger goes to the recorder. -/
theorem State.trig_erec (s : State) (i c : Nat) (l : List Nat) : ∃ e, s.trig i c l = { s with erec := e } := by
  unfold State.trig State.trigAt
  extract_lets
  split
  · exact ⟨_, rfl⟩
  · split
    exacts [⟨_, rfl⟩, ⟨_, rfl⟩]

theorem Talks.trig (h : Talks s t) (i c : Nat) (l : List Nat) : ∃ e, Talks { s with erec := e } (t.trig i c l) := by
  obtain ⟨e, told⟩ := t.trig_erec i c l
  exact ⟨e, told ▸ h.updErec⟩

end

/-! ## Updates of one unit -/

/-- The registers of the pages change, and of what lies behind them only what `K` admits. -/
def Stays (l : List Nat) (K : State → Prop) (s t : State) : Prop := Within (Cap.pages l) s t ∧ ∃ u, K u ∧ Talks u t

section
variable {l : List Nat} {K : State → Prop} {s : State} {k : State → State} {m : Master} {f : Fld} {a : Nat}

theorem Stays.refl (self : K s) : Stays l K s s := ⟨.refl s, s, self, .refl s⟩

theorem Stays.ite {c : Prop} [Decidable c] {t u : State} (h : Stays l K s t) (k : Stays l K s u) : Stays l K s (if c then t else u) := by
  split
  exacts [h, k]

theorem Stays.foldl {α : Type} {f : State → α → State} {l' : List α} {t : State} (h : Stays l K s t) (k : ∀ x ∈ l', ∀ u, Stays l K s u → Stays l K s (f u x)) :
    Stays l K s (l'.foldl f t) := List.foldlRecOn (motive := fun u => Stays l K s u) l' f h fun u hu x m => k x m u hu

theorem Stays.talk {t u : State} (h : Stays l K s t) (pages : Within (Cap.pages l) s t → Within (Cap.pages l) s u) (talks : ∀ {v}, Talks v t → Talks v u) : Stays l K s u := by
  obtain ⟨w, v, admitted, told⟩ := h
  exact ⟨pages w, v, admitted, talks told⟩

/-- A host write that reaches its register stays where its effect does; one that does not is reported on GLB. -/
theorem Stays.hostWrite (glb : Ok.accessErr (Cap.pages l)) (self : K s) (act : Stays l K s (k s)) : Stays l K s (s.hostWrite m a k) := by
  have error (c : Nat) : Stays l K s (s.accessErr m c true a) := ⟨.accessErr (.refl s) glb, s, self, (Talks.refl s).accessErr⟩
  unfold State.hostWrite
  split
  · exact .refl self
  · split
    · exact error 4
    · split
      exacts [error 3, act]

/-- So does a command. -/
theorem Stays.hostCmd (glb : Ok.accessErr (Cap.pages l) ∧ Ok.wcReject (Cap.pages l)) (self : K s) (act : Stays l K s (k s)) : Stays l K s (s.hostCmd m f k) := by
  refine .hostWrite glb.1 self ?_
  split
  · exact ⟨.wcReject (.refl s) glb.2, s, self, (Talks.refl s).wcReject⟩
  · exact act

end

/-! ## The reference selector, the vote and the forwarding table -/

/-- Only the selector's part differs. -/
abbrev SelOnly (s u : State) : Prop := ∃ x, u = { s with sel := x }

theorem Stays.selAsk (s : State) (m : Master) (q : SelReq) : Stays [P.GLB, P.SEL] (SelOnly s) s (s.selAsk m q) :=
  .hostCmd (by decide) ⟨_, rfl⟩ ⟨((Within.refl s).updSel (by decide)).set (by decide), _, ⟨_, rfl⟩, (Talks.refl _).set⟩

theorem stays_lockoutWrite {m : Master} {v : Word} {s t : State} (ran : exec (.lockoutWrite m v) s = .next t) : Stays [P.GLB, P.SEL] (SelOnly s) s t := by
  obtain rfl := Host.Outcome.next.inj ran
  exact .hostWrite (by decide) ⟨_, rfl⟩ ⟨((Within.refl s).updSel (by decide)).set (by decide), _, ⟨_, rfl⟩, (Talks.refl _).set⟩

theorem stays_steerSubmit {m : Master} {v : Word} {s t : State} (ran : exec (.steerSubmit m v) s = .next t) : Stays [P.GLB, P.SEL] (SelOnly s) s t := by
  obtain rfl := Host.Outcome.next.inj ran
  have staged : Talks s (s.writeS72 m R.SEL_PHASE_STEP v) := (Talks.refl s).wrS.putMst
  exact .hostWrite (by decide) ⟨_, rfl⟩ (.ite ⟨((Within.refl s).clearStaged).raise (by decide), s, ⟨_, rfl⟩, (Talks.refl s).putMst.raise⟩
    ⟨((Within.refl s).writeS72 (by decide)).updSel (by decide), _, ⟨_, rfl⟩, staged.updSel⟩)

theorem stays_ofSelList {m : Master} {k : Nat} {v : Word} {s t : State} {c : Instr}
    (on : c ∈ [Instr.selSwitch m k, .selHoldover m, .selRelease m, .lockoutWrite m v, .steerSubmit m v]) (ran : exec c s = .next t) : Stays [P.GLB, P.SEL] (SelOnly s) s t := by
  simp only [List.mem_cons, List.not_mem_nil, or_false] at on
  rcases on with rfl | rfl | rfl | rfl | rfl
  · exact Host.Outcome.next.inj ran ▸ .selAsk s m (.switch k)
  · exact Host.Outcome.next.inj ran ▸ .selAsk s m .holdover
  · exact Host.Outcome.next.inj ran ▸ .selAsk s m .release
  · exact stays_lockoutWrite ran
  · exact stays_steerSubmit ran

/-- Only the axle's, the triad's and the recorder's parts differ. -/
abbrev VoteOnly (s u : State) : Prop := ∃ e a t, u = { s with erec := e, ax := a, tri := t }

theorem Stays.trigVote {l : List Nat} {s₀ s t : State} {i c : Nat} {a : List Nat} (h : Stays l (VoteOnly s₀) s t) : Stays l (VoteOnly s₀) s (t.trig i c a) := by
  obtain ⟨w, _, ⟨_, _, _, rfl⟩, talks⟩ := h
  obtain ⟨_, told⟩ := talks.trig i c a
  exact ⟨w.trig, _, ⟨_, _, _, rfl⟩, told⟩

theorem Stays.stepRej {s₀ s t : State} {a : Int} (h : Stays [P.GLB, P.VOTE] (VoteOnly s₀) s t) : Stays [P.GLB, P.VOTE] (VoteOnly s₀) s (t.stepRej a) :=
  .trigVote (h.talk (fun w => w.raise (by decide)) fun h => h.raise)

theorem Stays.updAx {s₀ s t : State} {x : AxlePart} (h : Stays [P.GLB, P.VOTE] (VoteOnly s₀) s t) : Stays [P.GLB, P.VOTE] (VoteOnly s₀) s { t with ax := x } := by
  obtain ⟨w, _, ⟨_, _, _, rfl⟩, talks⟩ := h
  exact ⟨w.updMarks (by decide), _, ⟨_, _, _, rfl⟩, talks.updAx⟩

section
variable {m : Master} {v : Word} {k : Nat} {s t : State}

theorem VoteOnly.refl (s : State) : VoteOnly s s := ⟨_, _, _, rfl⟩

theorem Stays.setVote {f : Fld} {n : Nat} (h : Stays [P.GLB, P.VOTE] (VoteOnly s) s t) (may : Ok.set (Cap.pages [P.GLB, P.VOTE]) f) :
    Stays [P.GLB, P.VOTE] (VoteOnly s) s (t.set f n) := h.talk (fun w => w.set may) fun h => h.set

theorem stays_voteSet (ran : exec (.voteSet m) s = .next t) : Stays [P.GLB, P.VOTE] (VoteOnly s) s t := by
  obtain rfl := Host.Outcome.next.inj ran
  have self := Stays.refl (l := [P.GLB, P.VOTE]) (VoteOnly.refl s)
  exact .hostCmd (by decide) (.refl s) (.ite (.trigVote (self.setVote (by decide))) (.ite (.trigVote (self.setVote (by decide))) (Stays.setVote (self.updAx.setVote (by decide)) (by decide))))

theorem stays_cancelStep (ran : exec (.cancelStep m) s = .next t) : Stays [P.GLB, P.VOTE] (VoteOnly s) s t := by
  obtain rfl := Host.Outcome.next.inj ran
  have self := Stays.refl (l := [P.GLB, P.VOTE]) (VoteOnly.refl s)
  have dropped : Stays [P.GLB, P.VOTE] (VoteOnly s) s s.dropHostSteps := .setVote (.foldl self.updAx fun _ _ _ h => h.stepRej) (by decide)
  exact .hostCmd (by decide) (.refl s) (.ite (dropped.setVote (by decide)) (self.setVote (by decide)))

theorem stays_hostStepSubmit (ran : exec (.hostStepSubmit m v) s = .next t) : Stays [P.GLB, P.VOTE] (VoteOnly s) s t := by
  obtain rfl := Host.Outcome.next.inj ran
  have staged : Stays [P.GLB, P.VOTE] (VoteOnly s) s (s.writeS72 m R.VOTE_STEP v) :=
    ⟨(Within.refl s).writeS72 (by decide), s, .refl s, (Talks.refl s).wrS.putMst⟩
  exact .hostWrite (by decide) (.refl s) (.ite staged.stepRej (staged.updAx.setVote (by decide)))

theorem stays_recover (ran : exec (.recover m k) s = .next t) : Stays [P.GLB, P.VOTE] (VoteOnly s) s t := by
  obtain rfl := Host.Outcome.next.inj ran
  have self := Stays.refl (l := [P.GLB, P.VOTE]) (VoteOnly.refl s)
  exact .hostCmd (by decide) (.refl s) (.ite (self.setVote (by decide)) (.ite (self.setVote (by decide))
    ⟨((Within.refl s).updTri (by decide)).set (by decide), _, ⟨_, _, _, rfl⟩, (Talks.refl _).set⟩))

theorem stays_utcOffsetWrite (ran : exec (.utcOffsetWrite m v) s = .next t) : Stays [P.GLB, P.VOTE] (VoteOnly s) s t := by
  obtain rfl := Host.Outcome.next.inj ran
  exact .hostWrite (by decide) (.refl s) (Stays.refl (.refl s)).updAx

theorem stays_leapSchedule (ran : exec (.leapSchedule m v) s = .next t) : Stays [P.GLB, P.VOTE] (VoteOnly s) s t := by
  obtain rfl := Host.Outcome.next.inj ran
  exact .hostWrite (by decide) (.refl s) ⟨((Within.refl s).set (by decide)).leapKind (by decide), s, .refl s, (Talks.refl s).set.leapKind⟩

theorem stays_ofVoteList {c : Instr} (on : c ∈ [Instr.voteSet m, .cancelStep m, .hostStepSubmit m v, .recover m k, .utcOffsetWrite m v, .leapSchedule m v]) (ran : exec c s = .next t) :
    Stays [P.GLB, P.VOTE] (VoteOnly s) s t := by
  simp only [List.mem_cons, List.not_mem_nil, or_false] at on
  rcases on with rfl | rfl | rfl | rfl | rfl | rfl
  exacts [stays_voteSet ran, stays_cancelStep ran, stays_hostStepSubmit ran, stays_recover ran, stays_utcOffsetWrite ran, stays_leapSchedule ran]

end

/-- Only the forwarding table differs. -/
abbrev FdbOnly (s u : State) : Prop := ∃ x, u = { s with sw := { s.sw with fdb := x } }

/-- Only the count of free values differs. -/
abbrev FreeOnly (s u : State) : Prop := ∃ x, u = { s with free := x }

/-- Only the recorder's part differs. -/
abbrev RecOnly (s u : State) : Prop := ∃ x, u = { s with erec := x }

/-- Only the receiver's code session differs. -/
abbrev SessionOnly (s u : State) : Prop := ∃ x, u = { s with gns := { s.gns with session := x } }

section
variable {m : Master} {v : Word} {k : Nat} {s t : State}

theorem Stays.fdbDone {n : Nat} (h : Stays [P.GLB, P.SWF] (FdbOnly s) s t) : Stays [P.GLB, P.SWF] (FdbOnly s) s (t.fdbDone n) :=
  h.talk (fun w => w.set (by decide)) fun h => h.set

theorem stays_putFdb (s : State) (l : List FdbEntry) : Stays [P.GLB, P.SWF] (FdbOnly s) s (s.putFdb l) :=
  ⟨(Within.refl s).putFdb (by decide), _, ⟨_, rfl⟩, (Talks.refl _).set⟩

theorem stays_addStatic (ran : exec (.addStatic m) s = .next t) : Stays [P.GLB, P.SWF] (FdbOnly s) s t := by
  obtain rfl := Host.Outcome.next.inj ran
  refine .hostCmd (by decide) ⟨_, rfl⟩ (.ite (stays_putFdb s _).fdbDone ?_)
  split
  exacts [(stays_putFdb s _).fdbDone, (Stays.refl ⟨_, rfl⟩).fdbDone]

theorem stays_fdbRead (ran : exec (.fdbRead m) s = .next t) : Stays [P.GLB, P.SWF] (FdbOnly s) s t := by
  obtain rfl := Host.Outcome.next.inj ran
  refine .hostCmd (by decide) ⟨_, rfl⟩ ?_
  split
  · exact Stays.fdbDone ⟨(((Within.refl s).set (by decide)).setFlag (by decide)).setFlag (by decide), s, ⟨_, rfl⟩, (Talks.refl s).set.setFlag.setFlag⟩
  · exact (Stays.refl ⟨_, rfl⟩).fdbDone

theorem stays_ofFdbList {c : Instr} (on : c ∈ [Instr.addStatic m, .fdbDelete m, .fdbRead m, .flushLearned m, .flushPort m]) (ran : exec c s = .next t) :
    Stays [P.GLB, P.SWF] (FdbOnly s) s t := by
  simp only [List.mem_cons, List.not_mem_nil, or_false] at on
  rcases on with rfl | rfl | rfl | rfl | rfl
  · exact stays_addStatic ran
  · exact Host.Outcome.next.inj ran ▸ .hostCmd (by decide) ⟨_, rfl⟩ (.ite (stays_putFdb s _).fdbDone (Stays.refl ⟨_, rfl⟩).fdbDone)
  · exact stays_fdbRead ran
  · exact Host.Outcome.next.inj ran ▸ .hostCmd (by decide) ⟨_, rfl⟩ (stays_putFdb s _).fdbDone
  · exact Host.Outcome.next.inj ran ▸ .hostCmd (by decide) ⟨_, rfl⟩ (stays_putFdb s _).fdbDone

/-! ## The client table's window, the recorder and the receiver -/

theorem Stays.cltDone {n : Nat} (h : Stays [P.GLB, P.CLT] (FreeOnly s) s t) : Stays [P.GLB, P.CLT] (FreeOnly s) s (t.cltDone n) :=
  h.talk (fun w => w.set (by decide)) fun h => h.set

theorem Talks.putWindow {l : List Nat} (h : Talks s t) : Talks s (t.putWindow l) := .foldl h fun _ _ _ h => h.set

theorem Stays.putWindow {l : List Nat} (h : Stays [P.GLB, P.CLT] (FreeOnly s) s t) : Stays [P.GLB, P.CLT] (FreeOnly s) s (t.putWindow l) :=
  h.talk (fun w => w.putWindow (by decide)) fun h => h.putWindow

theorem stays_cltRead (ran : exec (.cltRead m) s = .next t) : Stays [P.GLB, P.CLT] (FreeOnly s) s t := by
  obtain rfl := Host.Outcome.next.inj ran
  have taken : Stays [P.GLB, P.CLT] (FreeOnly s) s s.takeFree.2 := ⟨(Within.refl s).takeFree, _, ⟨_, rfl⟩, .refl _⟩
  have self := Stays.refl (l := [P.GLB, P.CLT]) (K := FreeOnly s) (s := s) ⟨_, rfl⟩
  refine .hostCmd (by decide) ⟨_, rfl⟩ (.ite self.cltDone ?_)
  split
  exacts [self.putWindow.cltDone, taken.putWindow.cltDone]

theorem stays_cltFind (ran : exec (.cltFind m) s = .next t) : Stays [P.GLB, P.CLT] (FreeOnly s) s t := by
  obtain rfl := Host.Outcome.next.inj ran
  refine .hostCmd (by decide) ⟨_, rfl⟩ ?_
  extract_lets
  split
  · exact Stays.cltDone ⟨(Within.refl s).set (by decide), s, ⟨_, rfl⟩, (Talks.refl s).set⟩
  · exact (Stays.refl ⟨_, rfl⟩).cltDone

theorem stays_hostMark (ran : exec (.hostMark m v) s = .next t) : Stays [P.GLB, P.REC] (RecOnly s) s t := by
  obtain rfl := Host.Outcome.next.inj ran
  obtain ⟨e, told⟩ := (Talks.refl s).trig islMGT 0x03 [v.toNat, masterCode m]
  exact .hostWrite (by decide) ⟨_, rfl⟩ ⟨(Within.refl s).trig, _, ⟨_, rfl⟩, told⟩

theorem Talks.stageSnaps {l : List Nat} (h : Talks s t) : Talks s (t.stageSnaps l) := .foldl h fun _ _ _ h => h.set

theorem stays_ofRecList {c : Instr} (on : c ∈ [Instr.hostMark m v, .fetch m, .codeSelWrite m v, .codeCfgWrite m v]) (ran : exec c s = .next t) :
    Stays [P.GLB, P.REC] (RecOnly s) s t := by
  simp only [List.mem_cons, List.not_mem_nil, or_false] at on
  rcases on with rfl | rfl | rfl | rfl
  · exact stays_hostMark ran
  · exact Host.Outcome.next.inj ran ▸ .hostCmd (by decide) ⟨_, rfl⟩ ⟨((Within.refl s).updErec).set (by decide), _, ⟨_, rfl⟩, (Talks.refl _).set⟩
  · exact Host.Outcome.next.inj ran ▸ .hostWrite (by decide) ⟨_, rfl⟩
      ⟨((Within.refl s).set (by decide)).stageSnaps (by decide), s, ⟨_, rfl⟩, (Talks.refl s).set.stageSnaps⟩
  · exact Host.Outcome.next.inj ran ▸ .hostWrite (by decide) ⟨_, rfl⟩ ⟨(Within.refl s).updErec, _, ⟨_, rfl⟩, .refl _⟩

theorem stays_codeOpen (ran : exec (.codeOpen m) s = .next t) : Stays [P.GLB, P.GNS] (SessionOnly s) s t := by
  obtain rfl := Host.Outcome.next.inj ran
  have status (n : Nat) : Stays [P.GLB, P.GNS] (SessionOnly s) s (s.set R.GNS_CMD_STATUS n) := ⟨(Within.refl s).set (by decide), s, ⟨_, rfl⟩, (Talks.refl s).set⟩
  exact .hostCmd (by decide) ⟨_, rfl⟩ (.ite (status 4) (.ite (status 3) ⟨((Within.refl s).updGns (by decide)).set (by decide), _, ⟨_, rfl⟩, (Talks.refl _).set⟩))

theorem stays_codeDataWrite (ran : exec (.codeDataWrite m v) s = .next t) : Stays [P.GLB, P.GNS] (SessionOnly s) s t :=
  Host.Outcome.next.inj ran ▸ .hostWrite (by decide) ⟨_, rfl⟩ ⟨(Within.refl s).updGns (by decide), _, ⟨_, rfl⟩, .refl _⟩

end

/-! ## Interval counters, faults and reads -/

/-- Only the interval counters' states and the recorder's part differ. -/
abbrev TicsOnly (s u : State) : Prop := ∃ e x, u = { s with erec := e, tic := { s.tic with tics := x } }

/-- Only the causes of the fault lines differ. -/
abbrev CausesOnly (s u : State) : Prop := ∃ x, u = { s with flt := { s.flt with causes := x } }

section
variable {m : Master} {v : Word} {k : Nat} {s t : State}

theorem Talks.putTic {c : TicState} (h : Talks s t) : ∃ u, TicsOnly s u ∧ Talks u (t.putTic k c) := by
  obtain ⟨_, _, _, rfl⟩ := h
  exact ⟨_, ⟨_, _, rfl⟩, _, _, _, rfl⟩

/-- The end of a measurement is a chain of registers, then the counter's state. -/
theorem ticEnd_talks (s : State) (k a b : Nat) : ∃ x c, Talks s x ∧ s.ticEnd k a b = x.putTic k c :=
  ⟨_, _, (Talks.ite (Talks.refl s).wrS (.refl s)).set.set, rfl⟩

theorem ticAbort_tics (s : State) (k : Nat) : ∃ u, TicsOnly s u ∧ Talks u (s.ticAbort k) := by
  obtain ⟨x, c, talks, ended⟩ := ticEnd_talks s k 4 0
  obtain ⟨u, tics, told⟩ := talks.putTic (k := k) (c := c)
  unfold State.ticAbort
  split
  · exact ⟨u, tics, ended ▸ told.raise⟩
  · exact ⟨s, ⟨_, _, rfl⟩, .refl s⟩

theorem withUnit_inj {u l : Nat} {x : State} (h : withUnit u l x = .next t) : x = t := by
  unfold withUnit at h
  split at h
  exacts [Host.Outcome.next.inj h, nomatch h]

theorem withUnit_limit {u l : Nat} {x : State} (h : withUnit u l x = .next t) : u < l := by
  by_contra none
  exact absurd ((if_neg none).symm.trans h) nofun

theorem ok_ticAbort : ∀ k < 8, Ok.ticAbort (Cap.pages [P.GLB, P.TIC k]) k ∧ Ok.accessErr (Cap.pages [P.GLB, P.TIC k]) ∧ Ok.set (Cap.pages [P.GLB, P.TIC k]) (R.TIC_CMD_STATUS k) := by decide

theorem stays_ticDisarm (ran : exec (.ticDisarm m k) s = .next t) : Stays [P.GLB, P.TIC k] (TicsOnly s) s t := by
  have unit : k < 8 := withUnit_limit ran
  obtain rfl := withUnit_inj ran
  obtain ⟨abort, error, status⟩ := ok_ticAbort k unit
  have self : Stays [P.GLB, P.TIC k] (TicsOnly s) s s := .refl ⟨_, _, rfl⟩
  exact .hostWrite error ⟨_, _, rfl⟩ (.ite ⟨(Within.refl s).ticAbort abort, ticAbort_tics s k⟩ (self.talk (fun w => w.set status) fun h => h.set))

theorem Talks.hostRead {tick a : Nat} (s : State) (m : Master) : Talks s (s.hostRead m tick a) := by
  have snaps (view : State) (v : Word) : Talks s ((snapSlots a).foldl (fun (t : State) (k : Nat) =>
      t.putMst m { t.mst m with snap := kvPut (t.mst m).snap k (view.live (some m) tick k) }) (s.ret m v)) := .foldl (Talks.refl s).putMst fun _ _ _ h => h.putMst
  have key : Talks s (settle (execKeyDataAccess m none s) s) := .ite (.refl s) (.ite (Talks.refl s).accessErr.putMst (Talks.refl s).putMst.putMst)
  unfold State.hostRead
  exact .ite (.refl s) (.ite (Talks.refl s).putMst (.ite (Talks.refl s).accessErr.putMst (.ite key (.ite (snaps _ _).set (snaps _ _)))))

theorem stays_ofReadList {a : Nat} {c : Instr} (on : c ∈ [Instr.rsLeadRead m a k, .t108ReadSnapshot m a k]) (ran : exec c s = .next t) : Stays [P.GLB, P.ATT] (· = s) s t := by
  simp only [List.mem_cons, List.not_mem_nil, or_false] at on
  rcases on with rfl | rfl <;> exact Host.Outcome.next.inj ran ▸ ⟨(Within.refl s).hostRead (by decide), s, rfl, .hostRead s m⟩

theorem stays_tmpLatchClear (ran : exec (.tmpLatchClear m v) s = .next t) : Stays [P.GLB, P.TMP] (· = s) s t :=
  Host.Outcome.next.inj ran ▸ .hostWrite (by decide) rfl
    ⟨.ite (((Within.refl s).wr (by decide)).set (by decide)) ((Within.refl s).wr (by decide)), s, rfl, .ite (Talks.refl s).wr.set (Talks.refl s).wr⟩

/-! ## Keys, the redundancy group and the client table -/

/-- A pin message changes one key slot and leaves the queue. -/
theorem takePin_cases (s : State) (c : Nat) (pin : Bool) : s.takePin c pin = s ∨
    ∃ slot x l, s.takePin c pin = ({ s with key := { s.key with msgs := l } }.putSlotK slot x) := by
  unfold State.takePin
  split
  · split
    exacts [.inr ⟨_, _, _, rfl⟩, .inl rfl]
  · exact .inl rfl

theorem takePin_stays (s : State) (c : Nat) (pin : Bool) (t : State) (is : s.takePin c pin = t) :
    OnlyPages [P.KEY] s t ∧ (∃ slot, OnlyKey slot s t) ∧ t = { s with regs := t.regs, key := { s.key with slots := t.key.slots, msgs := t.key.msgs } } := by
  have pages : OnlyPages [P.KEY] s t := is ▸ ((Within.refl s).takePin (by decide)).onlyPages
  rcases takePin_cases s c pin with same | ⟨slot, x, l, put⟩
  · obtain rfl := same.symm.trans is
    exact ⟨pages, ⟨0, fun _ _ => rfl⟩, rfl⟩
  · obtain rfl := put.symm.trans is
    refine ⟨pages, ⟨slot, fun j other => ?_⟩, rfl⟩
    show kvGetD (kvPut s.key.slots slot x) j .init = _
    rw [kvGetD, kvGet_kvPut_other _ _ _ _ other]
    rfl

/-- Only the causes of the fault lines and what is kept of the two peers differ. -/
abbrev PeersOnly (s u : State) : Prop := ∃ c a b, u = { s with flt := { s.flt with causes := c }, dug := { s.dug with p0 := a, p1 := b } }

theorem Stays.putPeer {n : Nat} {x : PeerState} (h : Stays [P.DUG] (PeersOnly s) s t) : Stays [P.DUG] (PeersOnly s) s (t.putPeer n x) := by
  obtain ⟨w, _, ⟨_, _, _, rfl⟩, _, _, _, rfl⟩ := h
  refine ⟨w.putPeer (by decide), ?_⟩
  unfold State.putPeer
  split <;> exact ⟨_, ⟨_, _, _, rfl⟩, _, _, _, rfl⟩

theorem Stays.endDual (h : Stays [P.DUG] (PeersOnly s) s t) : Stays [P.DUG] (PeersOnly s) s t.endDual := by
  have shown : Stays [P.DUG] (PeersOnly s) s ((t.set R.DUG_STATUS_DUAL 0).level P.DUG E.DUG_DUAL false) :=
    h.talk (fun w => (w.set (by decide)).level (by decide)) fun h => h.set.level
  refine .ite ?_ h
  obtain ⟨w, _, ⟨_, _, _, rfl⟩, _, _, _, e⟩ := shown
  rw [e] at w ⊢
  exact ⟨w.lineOff (by decide), _, ⟨_, _, _, rfl⟩, _, _, _, rfl⟩

theorem Stays.endDualUnless {c : Prop} [Decidable c] (h : Stays [P.DUG] (PeersOnly s) s t) : Stays [P.DUG] (PeersOnly s) s (if c then t else t.endDual) := .ite h h.endDual

/-- A frame that arrives on a link shows its peer, and then takes its effect. -/
theorem Stays.dugTake {k : State → State} {n : Nat} {f : DugFrame} (unit : n < 2) (act : ∀ u, Stays [P.DUG] (PeersOnly s) s u → Stays [P.DUG] (PeersOnly s) s (k u)) :
    Stays [P.DUG] (PeersOnly s) s (s.dugTake n f k) := by
  have shown (f : Fld) (x : Nat) (may : Ok.set (Cap.pages [P.DUG]) f) {t : State} (h : Stays [P.DUG] (PeersOnly s) s t) : Stays [P.DUG] (PeersOnly s) s (t.set f x) :=
    h.talk (fun w => w.set may) fun h => h.set
  have fields : ∀ n < 2, Ok.bump (Cap.pages [P.DUG]) (R.DUG_RX_ERR_COUNT n) ∧ Ok.set (Cap.pages [P.DUG]) (R.DUG_PEER_STAT_ROLE n) ∧ Ok.set (Cap.pages [P.DUG]) (R.DUG_PEER_STAT_FLAGS n) ∧
      Ok.set (Cap.pages [P.DUG]) (R.DUG_PEER_SERIAL_HI_SN n) ∧ Ok.set (Cap.pages [P.DUG]) (R.DUG_PEER_SERIAL_LO_SN n) := by decide
  obtain ⟨error, role, flags, high, low⟩ := fields n unit
  have self : Stays [P.DUG] (PeersOnly s) s s := .refl ⟨_, _, _, rfl⟩
  exact .ite self (.ite (self.talk (fun w => w.bump error) fun h => h.bump)
    (act _ (.endDualUnless (.putPeer (shown _ _ low (shown _ _ high (shown _ _ flags (shown _ _ role self))))))))

theorem stays_ackReceive {link : Nat} {f : DugFrame} (ran : exec (.ackReceive link f) s = .next t) : Stays [P.DUG] (PeersOnly s) s t := by
  have unit : link < 2 := withUnit_limit ran
  obtain rfl := withUnit_inj ran
  refine .dugTake unit fun u h => .ite ?_ h
  split
  · exact .ite (h.talk (fun w => w.wrT (by decide)) fun h => h.wrT) h
  · exact h

/-- Only entries of the client table and their drain times differ. -/
abbrev EntriesOnly (s u : State) : Prop := ∃ e d, u = { s with clt := { s.clt with entries := e, drainAt := d } }

theorem Talks.showClt (h : Talks s t) : Talks s t.showClt := .set (.foldl (.ite h.set.set h.set.set.level) fun _ _ _ h => h.set)

/-- An entry written is one entry of the table, and what CLT and TTB show of it. -/
theorem putEntry_entries (s : State) (i : Nat) (e : ClientEntry) : ∃ d, Talks { s with clt := { s.clt with entries := kvPut s.clt.entries i e, drainAt := d } } (s.putEntry i e) :=
  ⟨_, (Talks.refl _).showClt⟩

theorem grantExpiry_cases {client mtype : Nat} (ran : exec (.grantExpiry client mtype) s = .next t) : t = s ∨
    ∃ e, t = (s.putEntry client e).bump R.CLT_EXPIRED_COUNT := by
  obtain rfl := Host.Outcome.next.inj ran
  split
  · split
    exacts [.inr ⟨_, rfl⟩, .inl rfl]
  · exact .inl rfl

theorem grantExpiry_stays {client mtype : Nat} (ran : exec (.grantExpiry client mtype) s = .next t) : OnlyPages [P.CLT, P.TTB] s t ∧ (∀ i, i ≠ client → t.entry i = s.entry i) ∧
      t = { s with regs := t.regs, host := t.host, sent := t.sent, clt := { s.clt with entries := t.clt.entries, drainAt := t.clt.drainAt } } := by
  rcases grantExpiry_cases ran with rfl | ⟨e, rfl⟩
  · exact ⟨fun _ _ => rfl, fun _ _ => rfl, rfl⟩
  · have pages : OnlyPages [P.CLT, P.TTB] s ((s.putEntry client e).bump R.CLT_EXPIRED_COUNT) := (((Within.refl s).putEntry (by decide)).bump (by decide)).onlyPages
    obtain ⟨_, told⟩ := putEntry_entries s client e
    obtain ⟨_, _, _, put⟩ := told.bump (f := R.CLT_EXPIRED_COUNT)
    rw [put] at pages ⊢
    exact ⟨pages, fun i other => kvGet_kvPut_other _ _ _ _ other, rfl⟩

end

/-- Settles O60: each command reaches its register or is reported on GLB, and each effect is a chain of updates of its unit. -/
theorem commandsStayInTheirUnit : Obligations.CommandsStayInTheirUnit := by
  refine ⟨fun m k v s t c on ran => ?_, fun m v k s t c on ran => ?_, fun m s t c on ran => ?_, fun m s t c on ran => ?_, fun m v s t c on ran => ?_, fun m v s t c on ran => ?_,
    fun m s t ran => ?_, fun m s t ran => ?_, fun m v s t ran => ?_, fun m s t ran => ?_, fun m k s t ran => ?_, fun m a k s t c on ran => ?_, fun coach s t c on ran => ?_,
    fun link f s t ran => ?_, fun client mtype s t ran => ?_, fun m w s t ran => ?_⟩
  · obtain ⟨w, _, ⟨_, rfl⟩, _, _, _, rfl⟩ := stays_ofSelList on ran
    exact ⟨w.onlyPages, rfl⟩
  · obtain ⟨w, _, ⟨_, _, _, rfl⟩, _, _, _, rfl⟩ := stays_ofVoteList on ran
    exact ⟨w.onlyPages, rfl⟩
  · obtain ⟨w, _, ⟨_, rfl⟩, _, _, _, rfl⟩ := stays_ofFdbList on ran
    exact ⟨w.onlyPages, rfl⟩
  · simp only [List.mem_cons, List.not_mem_nil, or_false] at on
    have stays : Stays [P.GLB, P.CLT] (FreeOnly s) s t := by
      rcases on with rfl | rfl
      exacts [stays_cltRead ran, stays_cltFind ran]
    obtain ⟨w, _, ⟨_, rfl⟩, _, _, _, rfl⟩ := stays
    exact ⟨w.onlyPages, rfl⟩
  · obtain ⟨w, _, ⟨_, rfl⟩, _, _, _, rfl⟩ := stays_ofRecList on ran
    exact ⟨w.onlyPages, rfl⟩
  · simp only [List.mem_cons, List.not_mem_nil, or_false] at on
    have stays : Stays [P.GLB, P.GNS] (SessionOnly s) s t := by
      rcases on with rfl | rfl
      exacts [stays_codeOpen ran, stays_codeDataWrite ran]
    obtain ⟨w, _, ⟨_, rfl⟩, _, _, _, rfl⟩ := stays
    exact ⟨w.onlyPages, rfl⟩
  · have stays : Stays [P.GLB, P.GEN] (fun u => ∃ x, u = { s with gen := { s.gen with asked := x } }) s t := Host.Outcome.next.inj ran ▸ .hostWrite (by decide) ⟨_, rfl⟩
      (.ite ⟨(Within.refl s).updGen (by decide), _, ⟨_, rfl⟩, .refl _⟩ ⟨(Within.refl s).set (by decide), s, ⟨_, rfl⟩, (Talks.refl s).set⟩)
    obtain ⟨w, _, ⟨_, rfl⟩, _, _, _, rfl⟩ := stays
    exact ⟨w.onlyPages, rfl⟩
  · have stays : Stays [P.GLB, P.PROVE] (fun u => ∃ x, u = { s with prove := { s.prove with asked := x } }) s t := Host.Outcome.next.inj ran ▸ .hostCmd (by decide) ⟨_, rfl⟩
      ⟨((Within.refl s).updProve (by decide)).set (by decide), _, ⟨_, rfl⟩, (Talks.refl _).set⟩
    obtain ⟨w, _, ⟨_, rfl⟩, _, _, _, rfl⟩ := stays
    exact ⟨w.onlyPages, rfl⟩
  · have stays : Stays [P.GLB, P.DMA] (· = s) s t := Host.Outcome.next.inj ran ▸ .hostWrite (by decide) rfl ⟨(Within.refl s).set (by decide), s, rfl, (Talks.refl s).set⟩
    obtain ⟨w, _, rfl, _, _, _, rfl⟩ := stays
    exact ⟨w.onlyPages, rfl⟩
  · have stays : Stays [P.GLB] (CausesOnly s) s t := Host.Outcome.next.inj ran ▸ .hostWrite (by decide) ⟨_, rfl⟩ ⟨(Within.refl s).lineOff (by decide), _, ⟨_, rfl⟩, .refl _⟩
    obtain ⟨w, _, ⟨_, rfl⟩, _, _, _, rfl⟩ := stays
    exact ⟨w.onlyPages, rfl⟩
  · obtain ⟨w, _, ⟨_, _, rfl⟩, _, _, _, rfl⟩ := stays_ticDisarm ran
    exact ⟨w.onlyPages, rfl⟩
  · obtain ⟨w, _, rfl, _, _, _, rfl⟩ := stays_ofReadList on ran
    exact ⟨w.onlyPages, rfl⟩
  · simp only [List.mem_cons, List.not_mem_nil, or_false] at on
    rcases on with rfl | rfl <;> exact takePin_stays s coach _ t (withUnit_inj ran)
  · obtain ⟨w, _, ⟨_, _, _, rfl⟩, _, _, _, rfl⟩ := stays_ackReceive ran
    exact ⟨w.onlyPages, rfl⟩
  · exact grantExpiry_stays ran
  · obtain ⟨w, _, rfl, _, _, _, rfl⟩ := stays_tmpLatchClear ran
    exact ⟨w.onlyPages, rfl⟩

end Sys2Proof.Machine
end

section
/-! PROOFS.
Grants and entries (spec/15, R355, R359, R360).
-/
namespace Sys2Proof.Machine
open Sys2Proof

section
variable {s : State} {i : Nat} {e : ClientEntry}

/-- An entry written is in the table. -/
theorem State.putEntry_entry (s : State) (i : Nat) (e : ClientEntry) : (s.putEntry i e).entry i = some e ∧ ∀ j, j ≠ i → (s.putEntry i e).entry j = s.entry j := by
  unfold State.putEntry State.entry
  rw [((Within.refl _).showClt (by decide)).clt_eq]
  exact ⟨kvGet_kvPut_same .., fun j other => kvGet_kvPut_other _ _ _ _ other⟩

theorem State.entry_congr {t : State} (same : t.clt = s.clt) (j : Nat) : t.entry j = s.entry j := by
  unfold State.entry
  rw [same]

theorem State.putEntry_scrubAt (s : State) (i : Nat) (e : ClientEntry) : (s.putEntry i e).clt.scrubAt = s.clt.scrubAt := by
  unfold State.putEntry
  rw [((Within.refl _).showClt (by decide)).clt_eq]

theorem exec_grantExpiry {mtype : Nat} (known : s.entry i = some e) (active : e.state = 1) (grant : grantBit e mtype = true) (ended : granted e mtype s.ax.mark = false) :
    exec (.grantExpiry i mtype) s = .next ((s.putEntry i (endGrant e mtype)).bump R.CLT_EXPIRED_COUNT) := by
  show execGrantExpiry i mtype s = _
  unfold execGrantExpiry
  simp only [known, active, grant, ended]
  rfl

/-- The table without an entry. -/
def CltPart.free (c : CltPart) (i : Nat) : CltPart := { c with entries := kvDel c.entries i, migrating := kvDel c.migrating i, drainAt := kvDel c.drainAt i }

theorem exec_entryFree (known : s.entry i = some e) (draining : e.state = 2) (drained : kvGetD s.clt.drainAt i 0 + 17000 ≤ s.ax.marks) :
    exec (.entryFree i) s = .next (State.showClt { s.chainOut i e with clt := (s.chainOut i e).clt.free i }) := by
  show execEntryFree i s = _
  unfold execEntryFree
  simp only [known]
  rw [if_neg (by omega)]
  rfl

/-- An entry taken out of its chain is not in it. -/
theorem State.chainOut_chain (s : State) (i : Nat) (e : ClientEntry) : i ∉ kvGetD (s.chainOut i e).clt.chains (keySlotOf e.port e.portId) [] := by
  unfold State.chainOut
  simp only
  split
  · simp [kvGetD, kvGet_kvDel_same]
  · simp [kvGetD, kvGet_kvPut_same]

/-- The scrub has moved on to the next entry. -/
def State.scrubNext (s : State) : State := { s with clt := { s.clt with scrubAt := (s.clt.scrubAt + 1) % 1048576 } }

/-- LAST_DREQ stands more than half a turn back (R360). -/
def dreqStale (e : ClientEntry) (mark : Int) : Prop := 2 ^ 31 < (unit16 mark + 2 ^ 32 - e.lastDreq) % 2 ^ 32

theorem exec_clientScrub_stale (up : s.up islSW = true) (known : s.entry s.clt.scrubAt = some e) (stale : dreqStale e s.ax.mark) :
    exec .clientScrub s = .next (s.scrubNext.putEntry s.clt.scrubAt { e with lastDreq := dreqStart s.ax.mark }) := by
  have known' : s.scrubNext.entry s.clt.scrubAt = some e := known
  show execClientScrub s = _
  unfold execClientScrub
  rw [up]
  simp only [← State.scrubNext.eq_1, known']
  rw [if_neg (by decide)]
  exact congrArg _ (if_pos stale)

theorem exec_clientScrub_other (up : s.up islSW = true) (fresh : ∀ e, s.entry s.clt.scrubAt = some e → ¬ dreqStale e s.ax.mark) : exec .clientScrub s = .next s.scrubNext := by
  show execClientScrub s = _
  unfold execClientScrub
  rw [up, if_neg (by decide)]
  simp only [← State.scrubNext.eq_1]
  split
  next e known => exact congrArg _ (if_neg (fresh e known))
  · rfl

end

/-- Settles O29. -/
theorem grantsExpireAndEntriesAreFreed : Obligations.GrantsExpireAndEntriesAreFreed := by
  refine ⟨fun s i mtype e known active grant ended => ?_, fun s i e known draining drained => ?_, fun s up => ?_⟩
  · obtain ⟨written, others⟩ := s.putEntry_entry i (endGrant e mtype)
    refine .intro (exec_grantExpiry known active grant ended) ⟨?_, ?_, ?_⟩
    · rw [State.entry_congr ((Within.refl _).bump (by decide)).clt_eq]
      exact written
    · rw [State.bump_get_same _ _ (by decide), ((Within.refl s).putEntry (by decide)).get_eq]
    · intro j other
      rw [State.entry_congr ((Within.refl _).bump (by decide)).clt_eq]
      exact others j other
  · refine .intro (exec_entryFree known draining drained) ?_
    unfold State.entry
    rw [((Within.refl _).showClt (by decide)).clt_eq]
    exact ⟨kvGet_kvDel_same .., s.chainOut_chain i e, fun j other => kvGet_kvDel_other _ _ _ other⟩
  · by_cases stale : ∃ e, s.entry s.clt.scrubAt = some e ∧ dreqStale e s.ax.mark
    · obtain ⟨e, known, stale⟩ := stale
      refine .intro (exec_clientScrub_stale up known stale) ⟨State.putEntry_scrubAt .., fun e' known' _ => ?_⟩
      rw [(State.putEntry_entry ..).1]
      rfl
    · exact .intro (exec_clientScrub_other up fun e known old => stale ⟨e, known, old⟩) ⟨rfl, fun e known old => absurd ⟨e, known, old⟩ stale⟩

end Sys2Proof.Machine
end

section
/-! PROOFS.
Reference candidates (spec/06, R140 to R147, R161).
-/
namespace Sys2Proof.Machine
open Sys2Proof

/-! ## Samples of a candidate (R140, R143, R146) -/

theorem State.inRh_up {s : State} (up : s.up islRH = true) (t : State) : s.inRh t = t := if_pos up

/-- Neither the judgement nor the feed of a sample moves its counts. -/
theorem ok_sampleCounts : ∀ k < 12, ∀ f ∈ [R.CAND_SAMPLES_COUNT k, R.CAND_HITS_COUNT k], Ok.candAccept (Cap.away f) k ∧ Ok.candJudge (Cap.away f) k ∧ Ok.feed (Cap.away f) ∧
    Ok.raise (Cap.away f) (P.CAND k) ∧ Ok.freqOrigin (Cap.away f) k ∧ Ok.setCand (Cap.away f) k := by decide

theorem ok_sampleEvents : ∀ k < 12, Ok.candJudge (Cap.raising (P.CAND k)) k ∧ Ok.bump (Cap.away (R.CAND_SAMPLES_COUNT k)) (R.CAND_HITS_COUNT k) ∧
    Ok.bump (Cap.away (R.CAND_HITS_COUNT k)) (R.CAND_SAMPLES_COUNT k) ∧ Ok.bump (Cap.away (R.CAND_PH_LIM_PS k)) (R.CAND_SAMPLES_COUNT k) := by decide

/-- The slot's binding is not touched by a frequency origin. -/
theorem ok_origin : ∀ k < 12, ∀ f ∈ [R.CAND_BIND_RANK k, R.CAND_BIND_SRC k, R.CAND_STATUS_BIND_ERR k], Ok.freqOrigin (Cap.away f) k := by decide

section
variable {s : State} {k : Nat} (unit : k < 12)
include unit

theorem State.freqOrigin_candOn (c t : Int) : (s.freqOrigin k c t).candOn k = s.candOn k := by
  unfold State.candOn State.candSrc
  rw [((Within.refl s).freqOrigin (ok_origin k unit _ (List.mem_cons_self ..))).get_eq, ((Within.refl s).freqOrigin (ok_origin k unit _ (by simp))).get_eq,
    ((Within.refl s).freqOrigin (ok_origin k unit _ (by simp))).flag_eq]

theorem State.candSample_count (on : s.candOn k = true) (t c o : Int) (cold ok : Bool) :
    (s.candSample k t c o cold ok).get (R.CAND_SAMPLES_COUNT k) = min (s.get (R.CAND_SAMPLES_COUNT k) + 1) (2 ^ (R.CAND_SAMPLES_COUNT k).w - 1) := by
  obtain ⟨accept, judge, feed, event, -, -⟩ := ok_sampleCounts k unit _ (List.mem_cons_self ..)
  have rest : Within (Cap.away (R.CAND_SAMPLES_COUNT k)) (s.bump (R.CAND_SAMPLES_COUNT k)) (s.candSample k t c o cold ok) := by
    unfold State.candSample
    rw [if_neg (by simp [on])]
    exact .bind ((Within.refl _).putSlot rfl) fun h2 => .bind (.ite ((h2.bump (ok_sampleEvents k unit).2.1).raise event) (h2.candAccept accept)) fun h3 =>
      .bind (h3.candJudge judge) fun h4 => .ite h4 ((h4.feed feed).collect rfl)
  exact rest.get_eq.trans (State.bump_get_same _ _ (Nat.le_refl 36))

/-- A phase counts as one sample, also the one that sets the origin. -/
theorem State.phaseSample_count (on : s.candOn k = true) (c t : Int) (cold ok : Bool) :
    (s.phaseSample k c t cold ok).get (R.CAND_SAMPLES_COUNT k) = min (s.get (R.CAND_SAMPLES_COUNT k) + 1) (2 ^ (R.CAND_SAMPLES_COUNT k).w - 1) := by
  obtain ⟨-, -, -, -, origin, -⟩ := ok_sampleCounts k unit _ (List.mem_cons_self ..)
  unfold State.phaseSample
  split
  · rw [State.candSample_count unit ((State.freqOrigin_candOn unit c t).trans on), ((Within.refl s).freqOrigin origin).get_eq]
  · exact State.candSample_count unit on ..

/-- A sample off the line is counted, and reported, before the judgement. -/
theorem State.candSample_hit (on : s.candOn k = true) {t c o : Int} (off : isHit (s.slotOf k).fit { t := t, o := o } (s.get (R.CAND_PH_LIM_PS k)) = true) (cold ok : Bool) :
    ∃ x why pt, s.candSample k t c o cold ok =
      (((((s.bump (R.CAND_SAMPLES_COUNT k)).putSlot k x).bump (R.CAND_HITS_COUNT k)).raise (P.CAND k) E.CAND_PHASE_HIT).candJudge k why true pt t c) := by
  have lim : (s.bump (R.CAND_SAMPLES_COUNT k)).get (R.CAND_PH_LIM_PS k) = s.get (R.CAND_PH_LIM_PS k) :=
    ((Within.refl s).bump (ok_sampleEvents k unit).2.2.2).get_eq
  unfold State.candSample
  rw [if_neg (by simp [on])]
  extract_lets s1 u pt m sl hits hit s2 s3 s4
  have isOff : hit = true := by
    dsimp only [hit, s1, m]
    rw [lim]
    exact off
  have counted : s3 = (s2.bump (R.CAND_HITS_COUNT k)).raise (P.CAND k) E.CAND_PHASE_HIT := if_pos isOff
  obtain ⟨x, put⟩ : ∃ x, s2 = s1.putSlot k x := ⟨_, rfl⟩
  rw [if_pos isOff]
  refine ⟨x, s3.candWhy k ok, pt, ?_⟩
  show s3.candJudge k (s3.candWhy k ok) hit pt t c = _
  rw [isOff, counted, put]

/-! ## What a slot changes to (R145, R147) -/

omit unit in
/-- After the new state is written, a change shows why, counts a loss, starts and ends what the state does, and is reported. -/
theorem Within.afterState {C : Cap} {new why : Nat} (change : s.candSt k ≠ new)
    (may : Ok.set C (R.CAND_STATUS_WHY k) ∧ Ok.bump C (R.CAND_LOSSES_COUNT k) ∧ Ok.candEnter C k ∧ Ok.raise C (P.CAND k)) :
    Within C (s.set (R.CAND_STATUS_STATE k) new) (s.setCand k new why) := by
  obtain ⟨shown, losses, enter, event⟩ := may
  unfold State.setCand
  rw [if_neg change]
  exact .bind (.ite ((Within.refl _).set shown) (.refl _)) fun h2 => .bind (.ite (h2.bump losses) h2) fun h3 => ((h3.candEnter enter).raise event).trig

omit unit in
/-- A loss shows why. -/
theorem Within.afterWhy {C : Cap} {why : Nat} (change : s.candSt k ≠ 1) (may : Ok.bump C (R.CAND_LOSSES_COUNT k) ∧ Ok.candEnter C k ∧ Ok.raise C (P.CAND k)) :
    Within C ((s.set (R.CAND_STATUS_STATE k) 1).set (R.CAND_STATUS_WHY k) why) (s.setCand k 1 why) := by
  obtain ⟨losses, enter, event⟩ := may
  unfold State.setCand
  rw [if_neg change]
  exact .bind (.ite ((Within.refl _).bump losses) (.refl _)) fun h3 => ((h3.candEnter enter).raise event).trig

omit unit in
theorem State.setCand_event {new why : Nat} (change : s.candSt k ≠ new) : Event (s.setCand k new why) (P.CAND k) E.CAND_STATE := by
  unfold State.setCand
  rw [if_neg change]
  exact (Within.refl _).trig.event (event_raise _ _ _ (by decide))

/-- A state entered shows. -/
theorem State.setCand_candSt {new : Nat} (change : s.candSt k ≠ new) (range : new < 8) (why : Nat) : (s.setCand k new why).candSt k = new := by
  have may : ∀ k < 12, Ok.set (Cap.away (R.CAND_STATUS_STATE k)) (R.CAND_STATUS_WHY k) ∧ Ok.bump (Cap.away (R.CAND_STATUS_STATE k)) (R.CAND_LOSSES_COUNT k) ∧
    Ok.candEnter (Cap.away (R.CAND_STATUS_STATE k)) k ∧ Ok.raise (Cap.away (R.CAND_STATUS_STATE k)) (P.CAND k) := by decide
  exact (Within.afterState change (may k unit)).get_eq.trans ((State.get_set_same _ (R.CAND_STATUS_STATE k) new (Nat.le_of_ble_eq_true rfl)).trans (Nat.mod_eq_of_lt range))

theorem State.setCand_why {why : Nat} (change : s.candSt k ≠ 1) (range : why < 16) : (s.setCand k 1 why).get (R.CAND_STATUS_WHY k) = why := by
  have may : ∀ k < 12, Ok.bump (Cap.away (R.CAND_STATUS_WHY k)) (R.CAND_LOSSES_COUNT k) ∧ Ok.candEnter (Cap.away (R.CAND_STATUS_WHY k)) k ∧
    Ok.raise (Cap.away (R.CAND_STATUS_WHY k)) (P.CAND k) := by decide
  exact (Within.afterWhy change (may k unit)).get_eq.trans ((State.get_set_same _ (R.CAND_STATUS_WHY k) why (Nat.le_of_ble_eq_true rfl)).trans (Nat.mod_eq_of_lt range))

end

/-- A slot that goes LOST keeps what it is given to keep: only its waits end. -/
def CandSlot.waitless (c : CandSlot) : CandSlot := { c with wtrMs := 0, qualMs := 0, betterSeen := false }

section
variable {s : State} {k : Nat}

theorem State.slotOf_congr {t : State} (same : t.sel = s.sel) (j : Nat) : t.slotOf j = s.slotOf j := by
  unfold State.slotOf
  rw [same]

theorem State.putSlot_slotOf (s : State) (k : Nat) (c : CandSlot) : (s.putSlot k c).slotOf k = c := by
  show kvGetD (kvPut s.sel.slots k c) k .init = c
  rw [kvGetD, kvGet_kvPut_same]
  rfl

theorem State.candEnter_lost_slot (s : State) (k : Nat) : (s.candEnter k 1).slotOf k = CandSlot.waitless (s.slotOf k) := by
  have entered : s.candEnter k 1 = (((s.set (R.CAND_STATUS_WTR_RUN k) 0).set (R.CAND_WTR_LEFT_S k) 0).putSlot k (CandSlot.waitless (s.slotOf k))).set (R.CAND_QUAL_LEFT_S k) 0 := rfl
  rw [entered, State.slotOf_congr ((Within.refl _).set rfl).sel_eq, State.putSlot_slotOf]

theorem State.setCand_lost_slot (change : s.candSt k ≠ 1) (why : Nat) : (s.setCand k 1 why).slotOf k = CandSlot.waitless (s.slotOf k) := by
  unfold State.setCand
  rw [if_neg change]
  extract_lets s1 s2 s3 s4
  have before : s3.sel = s.sel := by
    have : Within (Cap.sparing .sel) s s3 := .ite (.bump (.ite (((Within.refl s).set rfl).set rfl) ((Within.refl s).set rfl)) rfl) (.ite (((Within.refl s).set rfl).set rfl) ((Within.refl s).set rfl))
    exact this.sel_eq
  have after : Within (Cap.sparing .sel) (s3.candEnter k 1) (s4.trig islRH 0x30 [k, s.candSt k, 1, s4.get (R.CAND_STATUS_WHY k), (s4.rd (R.CAND_FREQ k)).toNat, (s4.rd (R.CAND_NOISE k)).toNat]) :=
    ((Within.refl _).raise rfl).trig
  rw [State.slotOf_congr after.sel_eq, State.candEnter_lost_slot, State.slotOf_congr before]

/-! ## The commands -/

/-- A fresh edge is taken; only the selector's part differs. -/
theorem State.takeEdge_fresh {p : RefStamp → Bool} (fresh : (kvGet s.sel.refStamps (s.candUnit k)).any (fun r => r.fresh && p r) = true) :
    ∃ r t, s.takeEdge k = some (r, t) ∧ p r = true ∧ t.regs = s.regs := by
  obtain ⟨r, known, has⟩ := (Option.any_eq_true _ _).mp fresh
  obtain ⟨isFresh, more⟩ := (Bool.and_eq_true _ _).mp has
  unfold State.takeEdge
  rw [known]
  simp only [isFresh]
  exact ⟨_, _, rfl, more, rfl⟩

/-- The cell's slot follows its source alone. -/
def State.judgeCell (s : State) (k : Nat) : State :=
  if s.srcWhy k true ≠ 0 then s.setCand k 1 (s.srcWhy k true) else if s.candSt k = 1 then s.setCand k 3 0 else s

theorem Within.judgeCell {C : Cap} {s₀ s : State} (h : Within C s₀ s) (may : Ok.setCand C k) : Within C s₀ (s.judgeCell k) :=
  .ite (h.setCand may) (.ite (h.setCand may) h)

section
variable {t : State} {r : RefStamp} (unit : k < 12) (up : s.up islRH = true) (on : s.candOn k = true)
include unit up on

theorem exec_candidateSample_pps (pps : s.candPps k = true) (takes : s.takeEdge k = some (r, t)) :
    ∃ c o, exec (.candidateSample k .pps) s = .next (t.candSample k r.stamp c o r.cold true) := by
  refine ⟨nearSecond r.stamp + t.rdS (R.CAND_DELAY k) * s72U, quot (nearSecond r.stamp + t.rdS (R.CAND_DELAY k) * s72U - r.stamp) s72U.toNat, ?_⟩
  show execCandidateSample k .pps s = _
  unfold execCandidateSample
  rw [withUnit_next unit, State.inRh_up up, if_neg (by simp [on])]
  simp only [pps, takes]

theorem exec_candidateSample_edges (src : s.candSrc k = 1) (freq : s.candFreq k = true) (takes : s.takeEdge k = some (r, t)) (second : r.prev.isSome = true) :
    exec (.candidateSample k .edges) s = .next (t.phaseSample k (t.edgePhase k r) r.stamp r.cold (t.periodOk k r)) := by
  show execCandidateSample k .edges s = _
  unfold execCandidateSample
  rw [withUnit_next unit, State.inRh_up up, if_neg (by simp [on])]
  simp only [src, freq, takes, decide_true, Bool.and_self]
  rw [if_pos second]

theorem exec_candidateSample_phase (src : s.candSrc k = 4) (c i : Int) :
    exec (.candidateSample k (.phase c i)) s = .next (s.phaseSample k c i (!s.flag R.VOTE_OSC_STAT_OCXO_WARM) true) := by
  show execCandidateSample k (.phase c i) s = _
  unfold execCandidateSample
  rw [withUnit_next unit, State.inRh_up up, if_neg (by simp [on])]
  simp only [src, if_true]

theorem exec_candidateSample_offset (src : s.candSrc k = 2) (i o l : Int) :
    exec (.candidateSample k (.offset i o l)) s = .next (s.candSample k i (i + o * s72U) o (!s.flag R.VOTE_OSC_STAT_OCXO_WARM) true) := by
  show execCandidateSample k (.offset i o l) s = _
  unfold execCandidateSample
  rw [withUnit_next unit, State.inRh_up up, if_neg (by simp [on])]
  simp only [src]
  rfl

/-- An offset of a PTP master also keeps when its Sync came. -/
theorem exec_candidateSample_sync (src : s.candSrc k = 3) (i o l : Int) : ∃ x,
    exec (.candidateSample k (.offset i o l)) s = .next ((s.putSlot k x).candSample k i (i + o * s72U) o (!s.flag R.VOTE_OSC_STAT_OCXO_WARM) true) := by
  refine ⟨{ s.slotOf k with logSync := l, syncs := (s.ocxoAt i :: (s.slotOf k).syncs).take 16 }, ?_⟩
  show execCandidateSample k (.offset i o l) s = _
  unfold execCandidateSample
  rw [withUnit_next unit, State.inRh_up up, if_neg (by simp [on])]
  simp only [src]
  rfl

theorem exec_candidateSample_cell (src : s.candSrc k = 6) : exec (.candidateSample k .cell) s = .next ((s.bump (R.CAND_SAMPLES_COUNT k)).judgeCell k) := by
  show execCandidateSample k .cell s = _
  unfold execCandidateSample
  rw [withUnit_next unit, State.inRh_up up, if_neg (by simp [on])]
  simp only [src, if_true]
  rfl

end

theorem State.candOn_congr {t : State} (same : t.regs = s.regs) (k : Nat) : t.candOn k = s.candOn k := by
  unfold State.candOn State.candSrc State.flag
  simp only [State.get_congr same]

/-- A state other than QUALIFYING has no qualification time left. -/
theorem State.setCand_qualLeft {new why : Nat} (unit : k < 12) (change : s.candSt k ≠ new) (other : new ≠ 3) : (s.setCand k new why).get (R.CAND_QUAL_LEFT_S k) = 0 := by
  have apart : ∀ k < 12, Ok.wtrStart (Cap.away (R.CAND_QUAL_LEFT_S k)) k ∧ Ok.raise (Cap.away (R.CAND_QUAL_LEFT_S k)) (P.CAND k) := by decide
  obtain ⟨start, event⟩ := apart k unit
  have entered (u : State) : (u.candEnter k new).get (R.CAND_QUAL_LEFT_S k) = 0 := by
    unfold State.candEnter
    extract_lets c u1 u2 _ _ u3
    rw [if_neg other]
    have rest : Within (Cap.away (R.CAND_QUAL_LEFT_S k)) (u2.set (R.CAND_QUAL_LEFT_S k) 0) (if new = 4 then u3.wtrStart k else u3) := .ite ((Within.refl _).wtrStart start) (.refl _)
    exact rest.get_eq.trans ((State.get_set_same _ (R.CAND_QUAL_LEFT_S k) 0 (Nat.le_of_ble_eq_true rfl)).trans (Nat.zero_mod _))
  unfold State.setCand
  rw [if_neg change]
  exact ((Within.refl _).raise event).trig.get_eq.trans (entered _)

/-- The end of a wait-to-restore. -/
theorem State.wtrEnd_spec (unit : k < 12) : (s.wtrEnd k).get (R.CAND_STATUS_WTR_RUN k) = 0 ∧ (s.wtrEnd k).get (R.CAND_WTR_LEFT_S k) = 0 ∧ ((s.wtrEnd k).slotOf k).manualOk = true ∧
    Event (s.wtrEnd k) (P.CAND k) E.CAND_WTR_DONE := by
  have apart : ∀ k < 12, Ok.set (Cap.away (R.CAND_STATUS_WTR_RUN k)) (R.CAND_WTR_LEFT_S k) ∧ Ok.raise (Cap.away (R.CAND_STATUS_WTR_RUN k)) (P.CAND k) ∧
      Ok.raise (Cap.away (R.CAND_WTR_LEFT_S k)) (P.CAND k) := by decide
  obtain ⟨left, run, event⟩ := apart k unit
  unfold State.wtrEnd
  extract_lets t
  refine ⟨?_, ?_, ?_, event_raise _ _ _ (by decide)⟩
  · exact ((((Within.refl _).set left).putSlot rfl).raise run).get_eq.trans (State.get_set_same _ (R.CAND_STATUS_WTR_RUN k) 0 (Nat.le_of_ble_eq_true rfl))
  · exact (((Within.refl t).putSlot rfl).raise event).get_eq.trans (State.get_set_same _ (R.CAND_WTR_LEFT_S k) 0 (Nat.le_of_ble_eq_true rfl))
  · rw [State.slotOf_congr ((Within.refl _).raise rfl).sel_eq, State.putSlot_slotOf]

theorem exec_candTimeout {tick : Nat} (unit : k < 12) (up : s.up islRH = true) (src : s.candSrc k ≠ 6) (low : 2 ≤ s.candSt k) (high : s.candSt k ≤ 5)
    (late : s.candWait k ≤ s.ax.ocxo + quot ((tick : Int) * 64 * nsU) 10 - (s.slotOf k).last) :
    exec (.candTimeout k tick) s = .next ((s.putSlot k { s.slotOf k with fit := [], win := [], nacc := 0, origin := none }).setCand k 1 1) := by
  show execCandTimeout k tick s = _
  unfold execCandTimeout
  rw [withUnit_next unit, State.inRh_up up]
  simp only
  rw [if_neg (by omega)]

theorem exec_candQualified (unit : k < 12) (up : s.up islRH = true) (state : s.candSt k = 3) (ended : (s.slotOf k).qualMs ≤ 1) :
    exec (.candQualified k) s = .next (s.qualify k) := by
  show execCandQualified k s = _
  unfold execCandQualified
  rw [withUnit_next unit, State.inRh_up up, if_pos ⟨state, ended⟩]

theorem exec_wtrDone (unit : k < 12) (up : s.up islRH = true) (runs : s.get (R.CAND_STATUS_WTR_RUN k) = 1) (ended : (s.slotOf k).wtrMs ≤ 1) :
    exec (.wtrDone k) s = .next (s.wtrEnd k) := by
  show execWtrDone k s = _
  unfold execWtrDone
  rw [withUnit_next unit, State.inRh_up up, if_pos ⟨by simp [State.flag, runs], ended⟩]

/-- The stamp of an active edge. -/
def State.edgeStamp (s : State) (n tick phase tap : Nat) : RefStamp :=
  { stamp := s.rhTime tick + (s.pairOf n).onDuty.offset phase tap, prev := (kvGet s.sel.refStamps n).map (·.stamp), cold := !s.flag R.VOTE_OSC_STAT_OCXO_WARM,
    uncal := s.pairUncal n, stale := s.pairStale n, cycles := ((kvGet s.sel.refStamps n).map (·.cycles)).getD 0 + 1, fresh := true }

section
variable {n : Nat} (unit : n < 4) (up : s.up islRH = true)
include unit up

theorem exec_refInEdge (mode : s.get (R.SEL_REFIN_CFG_MODE n) < 2) (pins : s.boot.pins = .driven) (tick phase tap : Nat) :
    exec (.refInEdge n (s.flag (R.SEL_REFIN_CFG_EDGE n)) tick phase tap) s =
      .next { s with sel := { s.sel with refStamps := kvPut s.sel.refStamps n (s.edgeStamp n tick phase tap) } } := by
  show execRefInEdge n (s.flag (R.SEL_REFIN_CFG_EDGE n)) tick phase tap s = _
  unfold execRefInEdge
  rw [withUnit_next unit, State.inRh_up up, if_neg (by simp [pins]; omega)]
  rfl

theorem exec_refInEdge_other (tick phase tap : Nat) : exec (.refInEdge n (!s.flag (R.SEL_REFIN_CFG_EDGE n)) tick phase tap) s = .next s := by
  show execRefInEdge n (!s.flag (R.SEL_REFIN_CFG_EDGE n)) tick phase tap s = _
  unfold execRefInEdge
  rw [withUnit_next unit, State.inRh_up up, if_pos (by simp)]

end

theorem exec_esmcReceive {ssm enh : Nat} (unit : k < 12) (up : s.up islRH = true) (src : s.candSrc k = 4) :
    exec (.esmcReceive k ssm enh) s = .next (s.setEsmc k ssm enh) := by
  show execEsmcReceive k ssm enh s = _
  unfold execEsmcReceive
  rw [withUnit_next unit, State.inRh_up up, if_pos src]

theorem exec_esmcTimeout (unit : k < 12) (up : s.up islRH = true) : exec (.esmcTimeout k) s = .next (s.setEsmc k 15 0) := by
  show execEsmcTimeout k s = _
  unfold execEsmcTimeout
  rw [withUnit_next unit, State.inRh_up up]

/-- An SSM shows, and a change of it is reported. -/
theorem State.setEsmc_spec {ssm : Nat} (unit : k < 12) (range : ssm < 16) (enh : Nat) : (s.setEsmc k ssm enh).get (R.CAND_ESMC_SSM k) = ssm ∧
    (s.get (R.CAND_ESMC_SSM k) ≠ ssm → Event (s.setEsmc k ssm enh) (P.CAND k) E.CAND_QL_CHANGE) := by
  have apart : ∀ k < 12, Ok.set (Cap.away (R.CAND_ESMC_SSM k)) (R.CAND_ESMC_ENH k) ∧ Ok.raiseIf (Cap.away (R.CAND_ESMC_SSM k)) (P.CAND k) := by decide
  obtain ⟨enhanced, event⟩ := apart k unit
  have shown : ((s.set (R.CAND_ESMC_SSM k) ssm).set (R.CAND_ESMC_ENH k) enh).get (R.CAND_ESMC_SSM k) = ssm :=
    ((Within.refl _).set enhanced).get_eq.trans ((State.get_set_same _ (R.CAND_ESMC_SSM k) ssm (Nat.le_of_ble_eq_true rfl)).trans (Nat.mod_eq_of_lt range))
  unfold State.setEsmc
  extract_lets was t
  refine ⟨((Within.refl t).raiseIf event).get_eq.trans shown, fun other => ?_⟩
  have changed : decide (t.get (R.CAND_ESMC_SSM k) ≠ was) = true := decide_eq_true (shown.trans_ne other.symm)
  rw [changed]
  exact event_raise _ _ _ (by decide)

end

/-- Settles O13: that a timeout discards the samples and the window is log entry 11. -/
theorem candidatesTakeSamplesAndQualify : Obligations.CandidatesTakeSamplesAndQualify := by
  refine ⟨fun s k raw unit up on form => ?_, fun s k i o l unit up on src off => ?_, fun s k tick unit up src low high late => ?_, fun s k unit up state ended => ?_,
    fun s k unit up runs ended => ?_, fun s n tick phase tap unit up mode pins => ⟨?_, ?_⟩, fun s k ssm enh unit up src range => ?_, fun s k unit up => ?_⟩
  · rcases form with ⟨rfl, pps, fresh⟩ | ⟨rfl, src, freq, fresh⟩ | ⟨c, i, rfl, src⟩ | ⟨i, o, l, rfl, src | src⟩ | ⟨rfl, src⟩
    · obtain ⟨r, t, takes, -, same⟩ := State.takeEdge_fresh (p := fun _ => true) (by simpa using fresh)
      obtain ⟨c, o, ran⟩ := exec_candidateSample_pps unit up on pps takes
      refine .intro ran ?_
      rw [State.candSample_count unit ((State.candOn_congr same k).trans on), State.get_congr same]
    · obtain ⟨r, t, takes, second, same⟩ := State.takeEdge_fresh fresh
      refine .intro (exec_candidateSample_edges unit up on src freq takes second) ?_
      rw [State.phaseSample_count unit ((State.candOn_congr same k).trans on), State.get_congr same]
    · exact .intro (exec_candidateSample_phase unit up on src c i) (State.phaseSample_count unit on ..)
    · exact .intro (exec_candidateSample_offset unit up on src i o l) (State.candSample_count unit on ..)
    · obtain ⟨x, ran⟩ := exec_candidateSample_sync unit up on src i o l
      exact .intro ran (State.candSample_count unit (s := s.putSlot k x) on ..)
    · obtain ⟨-, -, -, -, -, change⟩ := ok_sampleCounts k unit _ (List.mem_cons_self ..)
      exact .intro (exec_candidateSample_cell unit up on src) (((Within.refl _).judgeCell change).get_eq.trans (State.bump_get_same _ _ (Nat.le_refl 36)))
  · obtain ⟨x, why, pt, sampled⟩ := State.candSample_hit unit on off (!s.flag R.VOTE_OSC_STAT_OCXO_WARM) true (c := i + o * s72U)
    obtain ⟨-, judge, -, event, -, -⟩ := ok_sampleCounts k unit _ (List.mem_cons_of_mem _ (List.mem_cons_self ..))
    obtain ⟨events, -, samples, -⟩ := ok_sampleEvents k unit
    refine .intro ((exec_candidateSample_offset unit up on src i o l).trans (congrArg _ sampled)) ⟨?_, ?_⟩
    · refine (((Within.refl _).raise event).candJudge judge).get_eq.trans ((State.bump_get_same _ (R.CAND_HITS_COUNT k) (Nat.le_refl 36)).trans ?_)
      rw [(((Within.refl s).bump samples).putSlot rfl).get_eq]
    · exact ((Within.refl _).candJudge events).event (event_raise _ _ _ (by decide))
  · have change : (s.putSlot k { s.slotOf k with fit := [], win := [], nacc := 0, origin := none }).candSt k ≠ 1 := by
      show s.candSt k ≠ 1
      omega
    refine .intro (exec_candTimeout unit up src low high late) ⟨State.setCand_candSt unit change (by decide) 1, State.setCand_why unit change (by decide), ?_, ?_, State.setCand_event change⟩
    · rw [State.setCand_lost_slot change, State.putSlot_slotOf]
      rfl
    · rw [State.setCand_lost_slot change, State.putSlot_slotOf]
      rfl
  · have change : s.candSt k ≠ 4 := by omega
    refine .intro (exec_candQualified unit up state ended) ⟨State.setCand_candSt unit change (by decide) 0, State.setCand_qualLeft unit change (by decide), State.setCand_event change⟩
  · exact .intro (exec_wtrDone unit up runs ended) (State.wtrEnd_spec unit)
  · refine .intro (exec_refInEdge unit up mode pins tick phase tap) ⟨?_, rfl⟩
    rw [kvGet_kvPut_same]
    rfl
  · exact .intro (exec_refInEdge_other unit up tick phase tap) rfl
  · exact .intro (exec_esmcReceive unit up src) (State.setEsmc_spec unit range enh)
  · exact .intro (exec_esmcTimeout unit up) (State.setEsmc_spec unit (by decide) 0)

end Sys2Proof.Machine
end

section
/-! PROOFS.
The selector (spec/06, R147 to R157).
-/
namespace Sys2Proof.Machine
open Sys2Proof

section
variable {s : State} {m : Master}

/-! ## The commands of SEL.CMD (R147, R149, R151) -/

/-- A request waits for the next mark. -/
def State.selWaits (s : State) (q : SelReq) : State := { s with sel := { s.sel with reqs := s.sel.reqs ++ [q] } }.set R.SEL_CMD_STATUS 1

theorem State.selAsk_accepted (acc : Accepts s m R.SEL_CMD_STATUS) (q : SelReq) : s.selAsk m q = s.selWaits q := hostCmd_accepts acc

theorem State.selWaits_spec (s : State) (q : SelReq) :
    (s.selWaits q).sel.reqs = s.sel.reqs ++ [q] ∧ (s.selWaits q).get R.SEL_CMD_STATUS = 1 ∧ (s.selWaits q).selSt = s.selSt := by
  refine ⟨?_, State.get_set_same _ _ _ (by decide), (((Within.refl s).updSel (by decide)).set (by decide)).get_eq⟩
  rw [State.selWaits, State.set_sel]

theorem exec_selClearWtr {k : Nat} (acc : Accepts s m R.SEL_CMD_STATUS) (unit : k < 12) (runs : s.get (R.CAND_STATUS_WTR_RUN k) = 1) :
    exec (.selClearWtr m k) s = .next ((s.wtrEnd k).set R.SEL_CMD_STATUS 2) := by
  show execSelClearWtr m k s = _
  unfold execSelClearWtr
  rw [hostCmd_accepts acc, if_pos ⟨unit, by simp [State.flag, runs]⟩]

/-- The mask shows at once, and waits for the next mark. -/
def State.lockoutWaits (s : State) (mask : Nat) : State :=
  { s with sel := { s.sel with reqs := s.sel.reqs ++ [SelReq.lockout mask] } }.set R.SEL_LOCKOUT_MASK mask

theorem exec_lockoutWrite {v : Word} (opened : Open s m R.SEL_LOCKOUT) : exec (.lockoutWrite m v) s = .next (s.lockoutWaits (R.SEL_LOCKOUT_MASK.of v)) := by
  show execLockoutWrite m v s = _
  unfold execLockoutWrite
  exact congrArg _ (hostWrite_open opened)

/-! ## A switch (R152, R153, R155) -/

section
variable (up : s.up islRH = true) (alone : s.get R.DUG_STATUS_FOLLOW = 0) (prepare : s.selSt = 3) (ended : s.getOr R.SEL_PREP_TIME_MS 10 10000 100 ≤ s.sel.prepMs)
  (sampled : (s.slotOf s.target).prep ≠ []) (alive : s.switchDead = false)
include up alone prepare ended sampled alive

theorem exec_prepareEnd_failed (failed : s.mode = 3) : exec .prepareEnd s = .next (s.set R.SEL_STATUS_WAIT_VOTE 1) := by
  show execPrepareEnd s = _
  unfold execPrepareEnd
  rw [State.inRh_up up]
  simp only
  rw [if_neg (by simp [State.flag, alone, prepare, sampled, alive, ended]), if_pos failed]

end

/-- The step of a switch to a time target (R153). -/
def State.switchStep (s : State) : Int := stepOf (s.slotOf s.target).prep (s.getS (R.CAND_FREQ_Y s.target)) s.ax.mark

/-- COMMIT begins: what the selector notes. -/
def State.commitNoted (s : State) : State :=
  { s with sel := { s.sel with mcT := s.ax.mark, commitAge := 0, shift := s.switchStep, submitted := true, manualWas := s.flag R.SEL_STATUS_MANUAL,
                               okWas := (List.range 12).filter (fun k => (s.slotOf k).manualOk) } }

/-- A manual switch leaves no slot marked. -/
def State.manualCleared (s : State) : State :=
  if s.sel.manualSwitch then (List.range 12).foldl (fun u k => u.putSlot k { u.slotOf k with manualOk := false }) s else s

/-- COMMIT shows. -/
def State.commitShown (s : State) : State := ((s.set R.SEL_STATUS_WAIT_VOTE 0).setFlag R.SEL_STATUS_MANUAL s.sel.manualSwitch).setSel 4 false

/-- The step of a time target is submitted. -/
def State.submitStep (s : State) (amount : Int) : State := { s with ax := { s.ax with steps := s.ax.steps ++ [PhaseReq.mk 0 amount] } }.showStepPend

/-- The step of a time target shows, with an event where it is big. -/
def State.stepShown (s : State) (amount : Int) : State :=
  (s.wrS R.SEL_STEP_LAST amount).raiseIf (decide (((s.wrS R.SEL_STEP_LAST amount).get R.SEL_STEP_WARN_PS : Int) * 65536 < amount.natAbs * 1000)) P.SEL E.SEL_STEP_BIG

/-- Before the scale is set, its load is submitted. -/
def State.submitLoad (s : State) (amount : Int) : State := { s with ax := { s.ax with selLoad := some (0, false, amount) } }.showStepPend

/-- What a COMMIT submits to VOTE. -/
def State.submits (s : State) (target : Nat) (step load : Int) : State :=
  if s.candFreq target then s.wrS R.SEL_STEP_LAST 0 else if s.flag R.VOTE_STATUS_TS_SET then (s.stepShown step).submitStep step else s.submitLoad load

theorem exec_prepareEnd (up : s.up islRH = true) (alone : s.get R.DUG_STATUS_FOLLOW = 0) (prepare : s.selSt = 3) (ended : s.getOr R.SEL_PREP_TIME_MS 10 10000 100 ≤ s.sel.prepMs)
    (sampled : (s.slotOf s.target).prep ≠ []) (alive : s.switchDead = false) (lives : s.mode ≠ 3) :
    exec .prepareEnd s = .next (s.commitNoted.manualCleared.commitShown.submits s.target s.switchStep (s.switchStep + quot ((s.slotOf s.target).base.getD 0) s72U.toNat)) := by
  show execPrepareEnd s = _
  unfold execPrepareEnd
  rw [State.inRh_up up]
  simp only
  rw [if_neg (by simp [State.flag, alone, prepare, sampled, alive, ended]), if_neg lives]
  rfl

/-- What the start of a COMMIT leaves as it is, and what it notes. -/
theorem Within.commitBegun (C : Cap) (may : C (.part .sel) = true ∧ Ok.set C R.SEL_STATUS_WAIT_VOTE ∧ Ok.setFlag C R.SEL_STATUS_MANUAL ∧ Ok.setSel C) (s : State) :
    Within C s s.commitNoted.manualCleared.commitShown := by
  obtain ⟨sel, wait, manual, phase⟩ := may
  have cleared : Within C s s.commitNoted.manualCleared :=
    .bind ((Within.refl s).updSel sel) fun h => .ite (.foldl h fun _ _ _ h => h.putSlot sel) h
  exact ((cleared.set wait).setFlag manual).setSel phase

theorem State.commitShown_selSt (s : State) : s.commitShown.selSt = 4 := by
  have shown : Within (Cap.away R.SEL_STATUS_STATE) ((((s.set R.SEL_STATUS_WAIT_VOTE 0).setFlag R.SEL_STATUS_MANUAL s.sel.manualSwitch)).set R.SEL_STATUS_STATE 4) s.commitShown :=
    .selFrame (.trig (.refl _)) (by decide)
  exact shown.get_eq.trans (State.get_set_same _ _ _ (by decide))

theorem State.manualCleared_mcT (s : State) : s.manualCleared.sel.mcT = s.sel.mcT := by
  unfold State.manualCleared
  split
  · exact List.foldlRecOn (motive := fun u : State => u.sel.mcT = s.sel.mcT) _ _ rfl fun _ h _ _ => h
  · rfl

theorem State.commitBegun_mcT (s : State) : s.commitNoted.manualCleared.commitShown.sel.mcT = s.ax.mark := by
  have shown (t : State) : t.commitShown.sel = t.sel := ((((Within.refl t).set (by decide)).setFlag (by decide)).setSel (by decide)).sel_eq
  rw [shown, State.manualCleared_mcT]
  rfl

section
variable {target : Nat} {step load : Int}

theorem Within.submits {C : Cap} {s₀ s : State} (h : Within C s₀ s) (may : Ok.wrS C R.SEL_STEP_LAST ∧ Ok.raiseIf C P.SEL ∧ C (.part .ax) = true ∧ Ok.showStepPend C) :
    Within C s₀ (s.submits target step load) := by
  obtain ⟨last, event, ax, pend⟩ := may
  exact .ite (h.wrS last) (.ite (.bind ((h.wrS last).raiseIf event) fun h => (h.updAx ax (by rfl)).showStepPend pend) ((h.updAx ax (by rfl)).showStepPend pend))

/-- A frequency target submits nothing. -/
theorem State.submits_freq (freq : s.candFreq target = true) : (s.submits target step load).ax = s.ax := by
  rw [State.submits, if_pos freq]
  exact ((Within.refl s).wrS (by decide)).ax_eq

theorem State.submits_step (time : s.candFreq target = false) (set : s.flag R.VOTE_STATUS_TS_SET = true) :
    (s.submits target step load).ax.steps = s.ax.steps ++ [PhaseReq.mk 0 step] := by
  rw [State.submits, if_neg (by simp [time]), if_pos set, State.submitStep]
  have same : (s.stepShown step).ax = s.ax := (((Within.refl s).wrS (by decide)).raiseIf (by decide)).ax_eq
  rw [((Within.refl _).showStepPend (by decide)).ax_eq, same]

end

/-- The bindings of a slot are not touched when a COMMIT begins. -/
theorem State.candFreq_congr {t : State} {k : Nat} (src : t.get (R.CAND_BIND_SRC k) = s.get (R.CAND_BIND_SRC k)) (unit : t.get (R.CAND_BIND_UNIT k) = s.get (R.CAND_BIND_UNIT k))
    (mode : ∀ n, t.get (R.SEL_REFIN_CFG_MODE n) = s.get (R.SEL_REFIN_CFG_MODE n)) : t.candFreq k = s.candFreq k := by
  unfold State.candFreq State.candSrc State.candUnit
  rw [src, unit, mode]

/-- Only SEL.STATUS and the events of SEL show that a COMMIT begins. -/
theorem State.commitBegun_get (s : State) {g : Fld} (other : g.slot ≠ R.SEL_STATUS) : s.commitNoted.manualCleared.commitShown.get g = s.get g := by
  have field (f : Fld) (status : f.slot = R.SEL_STATUS) : Ok.set (Cap.away g) f := decide_eq_true (.inl (status ▸ other.symm))
  exact (Within.commitBegun (Cap.away g) ⟨rfl, field _ rfl, field _ rfl, field _ rfl, rfl⟩ s).get_eq

theorem State.commitBegun_candFreq (s : State) (k : Nat) : s.commitNoted.manualCleared.commitShown.candFreq k = s.candFreq k := by
  have slot : (48 + k) * 512 + 8 ≠ 16392 := by omega
  exact State.candFreq_congr (s.commitBegun_get slot) (s.commitBegun_get slot) fun n => s.commitBegun_get (show 16411 + n ≠ 16392 by omega)

/-! ## Settling and steering (R152, R157) -/

theorem exec_settleTimeout (up : s.up islRH = true) (alone : s.get R.DUG_STATUS_FOLLOW = 0) (settle : s.selSt = 5) (ended : 1000 * s.getOr R.SEL_SETTLE_MAX_S 10 3600 600 ≤ s.sel.settleMs) :
    exec .settleTimeout s = .next (((s.setCand s.selected 1 8).raise P.SEL E.SEL_SETTLE_FAIL).decide_.showSel) := by
  show execSettleTimeout s = _
  unfold execSettleTimeout
  rw [State.inRh_up up, if_pos ⟨by simp [State.flag, alone], settle, ended⟩]

theorem exec_steerDone (up : s.up islRH = true) (steers : s.sel.steering = true) (there : s.sel.bias = s.sel.biasTarget) :
    exec .steerDone s = .next ({ s with sel := { s.sel with steering := false } }.raise P.SEL E.SEL_STEER_DONE) := by
  show execSteerDone s = _
  unfold execSteerDone
  rw [State.inRh_up up, if_pos ⟨steers, there⟩]

variable {low : Word} (opened : Open s m (R.SEL_PHASE_STEP + 1))
include opened

theorem exec_steerSubmit_refused (state : s.selSt = 0 ∨ s.selSt = 1 ∨ s.selSt = 4) : exec (.steerSubmit m low) s = .next ((s.clearStaged m).raise P.SEL E.SEL_CMD_REJ) := by
  show execSteerSubmit m low s = _
  unfold execSteerSubmit
  rw [hostWrite_open opened]
  exact congrArg _ (if_pos state)

/-- The target of the bias moves. -/
def State.steered (s : State) (d : Int) : State := { s with sel := { s.sel with biasTarget := s.sel.biasTarget + d * 1000000, steering := true } }

theorem exec_steerSubmit (state : ¬ (s.selSt = 0 ∨ s.selSt = 1 ∨ s.selSt = 4)) :
    exec (.steerSubmit m low) s = .next ((s.writeS72 m R.SEL_PHASE_STEP low).steered (s.commitS72 m R.SEL_PHASE_STEP low)) := by
  show execSteerSubmit m low s = _
  unfold execSteerSubmit
  rw [hostWrite_open opened]
  exact congrArg _ (if_neg state)

end

/-- Settles O14: that a COMMIT to a frequency target submits no step is log entry 13. -/
theorem selectorTakesCommandsAndSwitches : Obligations.SelectorTakesCommandsAndSwitches := by
  refine ⟨fun s m k acc => ⟨?_, ?_, ?_, fun unit runs => ?_⟩, fun s m v opened => ?_, fun s up alone prepare ended sampled alive => ⟨fun failed => ?_, fun lives => ?_⟩,
    fun s up alone settle unit change ended => ?_, fun s m low opened => ⟨fun state => ?_, fun off hold commit => ?_⟩, fun s up steers there => ?_⟩
  · exact .intro (congrArg Host.Outcome.next (State.selAsk_accepted acc (.switch k))) (s.selWaits_spec _)
  · exact .intro (congrArg Host.Outcome.next (State.selAsk_accepted acc .holdover)) (s.selWaits_spec _)
  · exact .intro (congrArg Host.Outcome.next (State.selAsk_accepted acc .release)) (s.selWaits_spec _)
  · obtain ⟨run, left, -, event⟩ := State.wtrEnd_spec (s := s) unit
    have apart : ∀ k < 12, Ok.set (Cap.away (R.CAND_STATUS_WTR_RUN k)) R.SEL_CMD_STATUS ∧ Ok.set (Cap.away (R.CAND_WTR_LEFT_S k)) R.SEL_CMD_STATUS ∧
        Ok.set (Cap.raising (P.CAND k)) R.SEL_CMD_STATUS := by decide
    obtain ⟨noRun, noLeft, noEvent⟩ := apart k unit
    exact .intro (exec_selClearWtr acc unit runs)
      ⟨((Within.refl _).set noRun).get_eq.trans run, ((Within.refl _).set noLeft).get_eq.trans left, State.get_set_same _ _ _ (by decide), ((Within.refl _).set noEvent).event event⟩
  · refine .intro (exec_lockoutWrite opened) ⟨?_, (State.get_set_same _ _ _ (by decide)).trans (Nat.mod_eq_of_lt (Nat.mod_lt _ (by decide))), ?_⟩
    · rw [State.lockoutWaits, State.set_sel]
    · rw [State.lockoutWaits, State.set_sel]
  · exact .intro (exec_prepareEnd_failed up alone prepare ended sampled alive failed)
      ⟨State.get_set_same _ _ _ (by decide), ((Within.refl s).set (by decide)).get_eq.trans prepare, State.set_ax ..⟩
  · have begun : Within (Cap.sparing .ax) s s.commitNoted.manualCleared.commitShown := Within.commitBegun _ (by decide) s
    refine .intro (exec_prepareEnd up alone prepare ended sampled alive lives) ⟨?_, ?_, fun freq => ?_, fun time set => ?_⟩
    · exact ((Within.refl _).submits (by decide)).get_eq.trans (State.commitShown_selSt _)
    · rw [((Within.refl _).submits (by decide)).sel_eq, State.commitBegun_mcT]
    · rw [State.submits_freq ((s.commitBegun_candFreq _).trans freq), begun.ax_eq]
      exact ⟨rfl, rfl⟩
    · rw [State.submits_step ((s.commitBegun_candFreq _).trans time) (by rw [State.flag, s.commitBegun_get (by decide), set]; rfl), begun.ax_eq]
      rfl
  · have apart : ∀ k < 12, Ok.decide_ (Cap.away (R.CAND_STATUS_STATE k)) ∧ Ok.showSel (Cap.away (R.CAND_STATUS_STATE k)) ∧ Ok.raise (Cap.away (R.CAND_STATUS_STATE k)) P.SEL ∧
        Ok.decide_ (Cap.away (R.CAND_STATUS_WHY k)) ∧ Ok.showSel (Cap.away (R.CAND_STATUS_WHY k)) ∧ Ok.raise (Cap.away (R.CAND_STATUS_WHY k)) P.SEL := by decide
    obtain ⟨d1, s1, r1, d2, s2, r2⟩ := apart _ unit
    exact .intro (exec_settleTimeout up alone settle ended) ⟨((((Within.refl _).raise r1).decide_ d1).showSel s1).get_eq.trans (State.setCand_candSt unit change (by decide) 8),
      ((((Within.refl _).raise r2).decide_ d2).showSel s2).get_eq.trans (State.setCand_why unit change (by decide)),
      (((Within.refl _).decide_ (by decide)).showSel (by decide)).event (event_raise _ _ _ (by decide))⟩
  · exact .intro (exec_steerSubmit_refused opened state) ⟨((Within.refl s).clearStaged.raise (by decide)).sel_eq, event_raise _ _ _ (by decide)⟩
  · have written : (s.writeS72 m R.SEL_PHASE_STEP low).sel = s.sel := ((Within.refl s).writeS72 (by decide)).sel_eq
    exact .intro (exec_steerSubmit opened (by omega)) ⟨by rw [State.steered, written], by rw [State.steered, written]⟩
  · exact .intro (exec_steerDone up steers there) ⟨by rw [State.raise_sel], event_raise _ _ _ (by decide)⟩

end Sys2Proof.Machine
end

section
/-! PROOFS.
Registers outside a list of slots, and fields that hold what is written.
-/
namespace Sys2Proof.Machine
open Sys2Proof

section
variable {s t : State}

/-- What may be touched while the registers at some slots stay the same. -/
def Cap.outside (l : List Nat) : Cap
  | .fld f => decide (f.slot ∉ l)
  | .evt p => decide (R.PG_EVT p ∉ l)
  | .page p => decide (p ∉ l.map (· / 512))
  | .part _ => true

theorem Within.get_outside {l : List Nat} {g : Fld} (h : Within (Cap.outside l) s t) (on : g.slot ∈ l) : t.get g = s.get g :=
  h.get g (fun _ m => .inl fun e => of_decide_eq_true m (e ▸ on)) (fun _ m e => of_decide_eq_true m (e ▸ on)) fun _ m e => of_decide_eq_true m (e ▸ List.mem_map_of_mem on)

theorem Within.flag_outside {l : List Nat} {g : Fld} (h : Within (Cap.outside l) s t) (on : g.slot ∈ l) : t.flag g = s.flag g := by
  unfold State.flag
  rw [h.get_outside on]

theorem Within.rd_outside {l : List Nat} {a : Nat} (h : Within (Cap.outside l) s t) (on : a ∈ l) : t.rd a = s.rd a := by
  have e := h.get_outside (g := whole a) on
  unfold State.get at e
  rw [Fld.of_whole, Fld.of_whole] at e
  exact BitVec.eq_of_toNat_eq e

/-- The slots of a T108 register. -/
abbrev slotsT (a : Nat) : List Nat := [a, a + 1, a + 2]

theorem Within.rdT_eq {a : Nat} (h : Within (Cap.outside (slotsT a)) s t) : t.rdT a = s.rdT a := by
  unfold State.rdT
  rw [h.rd_outside (by simp), h.rd_outside (by simp), h.rd_outside (by simp)]

/-- A field reads what was last written to it, where its bits hold that. -/
theorem State.get_set_fits (s : State) (f : Fld) {n : Nat} (inside : f.lo + f.w ≤ 36) (fits : n < 2 ^ f.w) : (s.set f n).get f = n :=
  (State.get_set_same _ _ _ inside).trans (Nat.mod_eq_of_lt fits)

/-- A flag of one bit is set exactly when its field reads 1. -/
theorem State.flag_of_get {f : Fld} (one : s.get f = 1) : s.flag f = true := by
  unfold State.flag
  rw [one]
  rfl

theorem State.flag_of_get_zero {f : Fld} (zero : s.get f = 0) : s.flag f = false := by
  unfold State.flag
  rw [zero]
  rfl

/-- A flag reads what was last written to it. -/
theorem State.setFlag_flag (s : State) (f : Fld) (b : Bool) (inside : f.lo + f.w ≤ 36) (one : f.w = 1) : (s.setFlag f b).flag f = b := by
  unfold State.flag
  rw [State.setFlag_get_same _ f b inside one]
  cases b <;> rfl

end

end Sys2Proof.Machine
end

section
/-! PROOFS.
The interval counters and the converter pairs (spec/09, R217 to R228).
-/
namespace Sys2Proof.Machine
open Sys2Proof

/-! ## What an interval counter's updates show -/

section
variable (s : State) (k : Nat)

theorem State.putTic_ticOf (c : TicState) : (s.putTic k c).ticOf k = c := by
  show kvGetD (kvPut s.tic.tics k c) k .init = c
  rw [kvGetD, kvGet_kvPut_same]
  rfl

theorem State.ticOf_congr {s t : State} (same : t.tic = s.tic) (k : Nat) : t.ticOf k = s.ticOf k := by
  unfold State.ticOf
  rw [same]

end

/-- The registers of a configuration. -/
abbrev cfgSlots (k : Nat) : List Nat := [R.TIC_CFG k, R.TIC_HOLDOFF k, R.TIC_SKIP k, R.TIC_TIMEOUT k]

section
variable {s t : State} {k : Nat}

theorem Within.ticConfig_eq (h : Within (Cap.outside (cfgSlots k)) s t) : t.ticConfig k = s.ticConfig k := by
  have cfg {f : Fld} (on : f.slot ∈ cfgSlots k) : t.get f = s.get f := h.get_outside on
  unfold State.ticConfig State.flag
  rw [cfg (by simp), cfg (by simp), cfg (by simp), cfg (by simp), cfg (by simp), cfg (by simp), cfg (by simp), cfg (by simp)]

/-- Arming: the state, the flags and the configuration taken. -/
theorem State.ticArmNow_spec (unit : k < 8) (s : State) (late : Bool) : (s.ticArmNow k late).ticSt k = 1 ∧ (s.ticArmNow k late).get (R.TIC_CMD_STATUS k) = s.get (R.TIC_CMD_STATUS k) ∧
    (s.ticArmNow k late).get (R.TIC_STATUS_START_OK k) = 0 ∧ (s.ticArmNow k late).get (R.TIC_STATUS_LATE_ARM k) = (if late then 1 else 0) ∧
    ((s.ticArmNow k late).ticOf k).cfg = s.ticConfig k ∧ ((s.ticArmNow k late).ticOf k).armAt = none := by
  have apart : ∀ k < 8, Ok.setFlag (Cap.away (R.TIC_STATUS_STATE k)) (R.TIC_STATUS_LATE_ARM k) ∧ Ok.ticArmNow (Cap.away (R.TIC_CMD_STATUS k)) k ∧
      Ok.set (Cap.away (R.TIC_STATUS_START_OK k)) (R.TIC_STATUS_STATE k) ∧ Ok.setFlag (Cap.away (R.TIC_STATUS_START_OK k)) (R.TIC_STATUS_LATE_ARM k) ∧
      Ok.set (Cap.away (R.TIC_STATUS_START_OK k)) (R.TIC_STATUS_STOP_OK k) := by decide
  obtain ⟨late', status, state, late'', stop⟩ := apart k unit
  refine ⟨?_, ((Within.refl s).ticArmNow status).get_eq, ?_, ?_, ?_, ?_⟩
  · exact (((Within.refl _).setFlag late').putTic rfl).get_eq.trans (State.get_set_fits _ (R.TIC_STATUS_STATE k) (Nat.le_of_ble_eq_true rfl) (show 1 < 2 ^ 3 by decide))
  · exact (((((Within.refl _).set stop).set late'').set state |>.setFlag late'').putTic rfl).get_eq.trans (State.get_set_fits _ (R.TIC_STATUS_START_OK k) (Nat.le_of_ble_eq_true rfl) (show 0 < 2 ^ 1 by decide))
  · exact ((Within.refl _).putTic rfl).get_eq.trans (State.setFlag_get_same _ (R.TIC_STATUS_LATE_ARM k) late (Nat.le_of_ble_eq_true rfl) rfl)
  · rw [State.ticArmNow, State.putTic_ticOf]
  · rw [State.ticArmNow, State.putTic_ticOf]

/-- The end of a measurement: its status and state, with the start stamp kept. -/
theorem State.ticEnd_spec (unit : k < 8) (s : State) {status st : Nat} (small : status < 16) (few : st < 8) : (s.ticEnd k status st).ticSt k = st ∧
    (s.ticEnd k status st).get (R.TIC_CMD_STATUS k) = status ∧ (s.ticEnd k status st).rdT (R.TIC_START_T k) = s.rdT (R.TIC_START_T k) ∧
    (s.ticEnd k status st).get (R.TIC_MEASURES_COUNT k) = s.get (R.TIC_MEASURES_COUNT k) := by
  have apart : ∀ k < 8, Ok.set (Cap.away (R.TIC_CMD_STATUS k)) (R.TIC_STATUS_STATE k) ∧ Ok.ticEnd (Cap.outside (slotsT (R.TIC_START_T k))) k ∧
      Ok.ticEnd (Cap.away (R.TIC_MEASURES_COUNT k)) k := by decide
  obtain ⟨state, start, measures⟩ := apart k unit
  refine ⟨?_, ?_, ((Within.refl s).ticEnd start).rdT_eq, ((Within.refl s).ticEnd measures).get_eq⟩
  · exact ((Within.refl _).putTic rfl).get_eq.trans (State.get_set_fits _ (R.TIC_STATUS_STATE k) (Nat.le_of_ble_eq_true rfl) few)
  · exact (((Within.refl _).set state).putTic rfl).get_eq.trans (State.get_set_fits _ (R.TIC_CMD_STATUS k) (Nat.le_of_ble_eq_true rfl) small)

/-! ## ARM and ARM_AT (R219, R220) -/

/-- An ARM is admitted: an automatic calibration is abandoned. -/
def State.ticAdmitted (s : State) (k : Nat) : State :=
  let s := s.set (R.TIC_CMD_STATUS k) 1
  if s.ticSt k = 4 then (s.set (R.TIC_STATUS_STATE k) (s.ticOf k).back).putTic k { s.ticOf k with calKind := 0 } else s

theorem Within.ticAdmitted {C : Cap} {s₀ s : State} (h : Within C s₀ s) (may : Ok.set C (R.TIC_CMD_STATUS k) ∧ Ok.set C (R.TIC_STATUS_STATE k) ∧ Ok.putTic C) :
    Within C s₀ (s.ticAdmitted k) := by
  obtain ⟨status, state, tic⟩ := may
  exact .bind (h.set status) fun h => .ite ((h.set state).putTic tic) h

theorem State.ticAdmitted_status (unit : k < 8) (s : State) : (s.ticAdmitted k).get (R.TIC_CMD_STATUS k) = 1 := by
  have apart : ∀ k < 8, Ok.set (Cap.away (R.TIC_CMD_STATUS k)) (R.TIC_STATUS_STATE k) := by decide
  have rest : Within (Cap.away (R.TIC_CMD_STATUS k)) (s.set (R.TIC_CMD_STATUS k) 1) (s.ticAdmitted k) :=
    .ite (((Within.refl _).set (apart k unit)).putTic rfl) (.refl _)
  exact rest.get_eq.trans (State.get_set_fits _ (R.TIC_CMD_STATUS k) (Nat.le_of_ble_eq_true rfl) (show 1 < 2 ^ 4 by decide))

section
variable {f : State → State} (serves : s.ticServes k = true) (free : s.ticSt k ≠ 4 ∨ (s.ticOf k).calKind = 2)
include serves free

theorem State.ticAdmit_ok (source : (s.ticConfig k).startSrc ≠ 0) (order : ¬((s.ticConfig k).seq = true ∧ (s.ticConfig k).stopSrc = 0 ∧ (s.ticConfig k).skip ≠ 0)) :
    s.ticAdmit k f = f (s.ticAdmitted k) := by
  unfold State.ticAdmit
  simp only
  rw [if_neg (by simp [serves]), if_neg (by omega), if_neg (not_or.mpr ⟨source, order⟩)]
  rfl

theorem State.ticAdmit_noSource (none : (s.ticConfig k).startSrc = 0) : s.ticAdmit k f = (s.set (R.TIC_CMD_STATUS k) 5).raise (P.TIC k) E.TIC_CFG_ERR := by
  unfold State.ticAdmit
  simp only
  rw [if_neg (by simp [serves]), if_neg (by omega), if_pos (.inl none)]

omit serves in
theorem State.ticCmd_accepts {m : Master} (acc : Accepts s m (R.TIC_CMD_STATUS k)) : s.ticCmd m k f = s.ticAdmit k f := by
  unfold State.ticCmd
  rw [if_neg (by omega), hostCmd_accepts acc]

end

theorem State.ticCmd_busy {m : Master} {f : State → State} (opened : Open s m (R.TIC_CMD k)) (calibrates : s.ticSt k = 4) (commanded : (s.ticOf k).calKind = 1) :
    s.ticCmd m k f = s.set (R.TIC_CMD_STATUS k) 6 := by
  unfold State.ticCmd
  rw [if_pos ⟨calibrates, commanded⟩, hostWrite_open opened]

theorem exec_ticArm (unit : k < 8) (m : Master) (s : State) : exec (.ticArm m k) s = .next (s.ticCmd m k fun s => s.ticArmNow k false) := withUnit_next unit

/-- ARM_AT arms at its instant, or at once where that is past. -/
def State.ticArmAt (s : State) (k tick : Nat) : State :=
  if ofT108 (s.rdT (R.TIC_ARM_AT k)) ≤ s.rhTime tick then s.ticArmNow k true else s.putTic k { s.ticOf k with armAt := some (ofT108 (s.rdT (R.TIC_ARM_AT k))) }

theorem exec_ticArmAt (unit : k < 8) (m : Master) (tick : Nat) (s : State) : exec (.ticArmAt m k tick) s = .next (s.ticCmd m k fun s => s.ticArmAt k tick) :=
  (withUnit_next unit).trans rfl

theorem exec_ticArmAtReached {tick : Nat} {a : Int} (unit : k < 8) (up : s.up islRH = true) (waits : (s.ticOf k).armAt = some a) (reached : a ≤ s.rhTime tick) :
    exec (.ticArmAtReached k tick) s = .next (s.ticArmNow k false) := by
  show execTicArmAtReached k tick s = _
  unfold execTicArmAtReached
  rw [withUnit_next unit, State.inRh_up up, waits]
  exact congrArg _ (if_pos reached)

/-! ## Edges (R215 to R223) -/

/-- The start edge is stamped. -/
def State.ticStamped (s : State) (k tick phase tap : Nat) (stamp : Int) : State :=
  ((((s.wr (R.TIC_START_RAW k) (s.ticRaw k (s.ticOf k).start tick phase tap)).wrT (R.TIC_START_T k) (toT108 stamp)).set (R.TIC_STATUS_START_OK k) 1).putTic k
    { s.ticOf k with startT := stamp, startIdx := (s.ticOf k).marks }).set (R.TIC_STATUS_STATE k) 2

/-- The stamp of a channel's start edge (R217, R218). -/
def State.startStamp (s : State) (k tick phase tap : Nat) : Int :=
  s.rhTime tick + (s.ticOf k).start.offset phase tap - ticPathU k false (s.ticOf k).cfg.startSrc

theorem State.ticStamped_spec (unit : k < 8) (s : State) (tick phase tap : Nat) (stamp : Int) : (s.ticStamped k tick phase tap stamp).ticSt k = 2 ∧
    (s.ticStamped k tick phase tap stamp).get (R.TIC_STATUS_START_OK k) = 1 ∧ (s.ticStamped k tick phase tap stamp).rdT (R.TIC_START_T k) = toT108 stamp % 2 ^ 108 ∧
    (s.ticStamped k tick phase tap stamp).get (R.TIC_STATUS_STOP_OK k) = s.get (R.TIC_STATUS_STOP_OK k) ∧
    (s.ticStamped k tick phase tap stamp).get (R.TIC_MEASURES_COUNT k) = s.get (R.TIC_MEASURES_COUNT k) := by
  have apart : ∀ k < 8, Ok.set (Cap.away (R.TIC_STATUS_START_OK k)) (R.TIC_STATUS_STATE k) ∧ Ok.set (Cap.outside (slotsT (R.TIC_START_T k))) (R.TIC_STATUS_START_OK k) ∧
      Ok.set (Cap.outside (slotsT (R.TIC_START_T k))) (R.TIC_STATUS_STATE k) ∧
      (∀ f ∈ [R.TIC_STATUS_STOP_OK k, R.TIC_MEASURES_COUNT k], Ok.wr (Cap.away f) (R.TIC_START_RAW k) ∧ Ok.wrT (Cap.away f) (R.TIC_START_T k) ∧
        Ok.set (Cap.away f) (R.TIC_STATUS_START_OK k) ∧ Ok.set (Cap.away f) (R.TIC_STATUS_STATE k)) := by decide
  obtain ⟨state, startT, stateT, others⟩ := apart k unit
  have kept {f : Fld} (on : f ∈ [R.TIC_STATUS_STOP_OK k, R.TIC_MEASURES_COUNT k]) : (s.ticStamped k tick phase tap stamp).get f = s.get f := by
    obtain ⟨raw, start, taken, state⟩ := others f on
    exact (((((Within.refl s).wr raw).wrT start).set taken).putTic rfl |>.set state).get_eq
  refine ⟨State.get_set_fits _ (R.TIC_STATUS_STATE k) (Nat.le_of_ble_eq_true rfl) (show 2 < 2 ^ 3 by decide), ?_, ?_, kept (by simp), kept (by simp)⟩
  · exact (((Within.refl _).putTic rfl).set state).get_eq.trans (State.get_set_fits _ (R.TIC_STATUS_START_OK k) (Nat.le_of_ble_eq_true rfl) (show 1 < 2 ^ 1 by decide))
  · exact ((((Within.refl _).set startT).putTic rfl).set stateT).rdT_eq.trans (State.wrT_rdT_same ..)

/-- A measurement is complete. -/
def State.ticDone (s : State) (k : Nat) : State := ((s.ticEnd k 2 3).bump (R.TIC_MEASURES_COUNT k)).raise (P.TIC k) E.TIC_DONE

section
variable {tick phase tap : Nat} (unit : k < 8) (up : s.up islRH = true) (armed : s.ticArmed k = true) (first : s.get (R.TIC_STATUS_START_OK k) = 0)
  (gives : s.ticSrcGives (s.ticOf k).cfg.startSrc tick = true)
include unit up armed first gives

theorem exec_ticEdge_start : exec (.ticEdge k false (s.ticOf k).cfg.startFall tick phase tap) s = .next (s.ticTake k false tick phase tap (s.startStamp k tick phase tap)) := by
  have fits : edgeFits (s.ticOf k).cfg.startSrc (s.ticOf k).cfg.startFall (s.ticOf k).cfg.startFall = true := by simp [edgeFits]
  show execTicEdge k false (s.ticOf k).cfg.startFall tick phase tap s = _
  unfold execTicEdge
  rw [withUnit_next unit, State.inRh_up up, State.startStamp]
  simp only [armed, Bool.false_eq_true, if_false, gives, fits, State.flag_of_get_zero first, Bool.not_true, Bool.or_self, Bool.not_false, if_true]

end

theorem State.ticTake_waits (unit : k < 8) {tick phase tap : Nat} {stamp : Int} (needs : (s.ticOf k).cfg.stopSrc ≠ 0) (none : s.get (R.TIC_STATUS_STOP_OK k) = 0) :
    s.ticTake k false tick phase tap stamp = s.ticStamped k tick phase tap stamp := by
  obtain ⟨-, -, -, stop, -⟩ := s.ticStamped_spec unit tick phase tap stamp
  have noStop : (s.ticStamped k tick phase tap stamp).flag (R.TIC_STATUS_STOP_OK k) = false := State.flag_of_get_zero (stop.trans none)
  have taken : s.ticTake k false tick phase tap stamp = if (s.ticStamped k tick phase tap stamp).flag (R.TIC_STATUS_START_OK k) &&
      (!decide ((s.ticOf k).cfg.stopSrc ≠ 0) || (s.ticStamped k tick phase tap stamp).flag (R.TIC_STATUS_STOP_OK k)) then
      (s.ticStamped k tick phase tap stamp).ticDone k else s.ticStamped k tick phase tap stamp := rfl
  rw [taken, if_neg (by simp [noStop, needs])]

theorem State.ticTake_done (unit : k < 8) {tick phase tap : Nat} {stamp : Int} (alone : (s.ticOf k).cfg.stopSrc = 0) :
    s.ticTake k false tick phase tap stamp = (s.ticStamped k tick phase tap stamp).ticDone k := by
  obtain ⟨-, start, -⟩ := s.ticStamped_spec unit tick phase tap stamp
  have taken : s.ticTake k false tick phase tap stamp = if (s.ticStamped k tick phase tap stamp).flag (R.TIC_STATUS_START_OK k) &&
      (!decide ((s.ticOf k).cfg.stopSrc ≠ 0) || (s.ticStamped k tick phase tap stamp).flag (R.TIC_STATUS_STOP_OK k)) then
      (s.ticStamped k tick phase tap stamp).ticDone k else s.ticStamped k tick phase tap stamp := rfl
  rw [taken, if_pos (by simp [State.flag_of_get start, alone])]

/-- A complete measurement shows, and is counted. -/
theorem State.ticDone_spec (unit : k < 8) (s : State) : (s.ticDone k).ticSt k = 3 ∧ (s.ticDone k).get (R.TIC_CMD_STATUS k) = 2 ∧
    (s.ticDone k).rdT (R.TIC_START_T k) = s.rdT (R.TIC_START_T k) ∧ Event (s.ticDone k) (P.TIC k) E.TIC_DONE ∧
    (s.ticDone k).get (R.TIC_MEASURES_COUNT k) = min (s.get (R.TIC_MEASURES_COUNT k) + 1) (2 ^ (R.TIC_MEASURES_COUNT k).w - 1) := by
  have apart : ∀ k < 8, (∀ f ∈ [R.TIC_STATUS_STATE k, R.TIC_CMD_STATUS k], Ok.bump (Cap.away f) (R.TIC_MEASURES_COUNT k) ∧ Ok.raise (Cap.away f) (P.TIC k)) ∧
      Ok.bump (Cap.outside (slotsT (R.TIC_START_T k))) (R.TIC_MEASURES_COUNT k) ∧ Ok.raise (Cap.outside (slotsT (R.TIC_START_T k))) (P.TIC k) ∧
      Ok.raise (Cap.away (R.TIC_MEASURES_COUNT k)) (P.TIC k) := by decide
  obtain ⟨fields, count, event, event'⟩ := apart k unit
  obtain ⟨state, status, start, measures⟩ := State.ticEnd_spec unit s (status := 2) (st := 3) (by decide) (by decide)
  have kept {f : Fld} (on : f ∈ [R.TIC_STATUS_STATE k, R.TIC_CMD_STATUS k]) : (s.ticDone k).get f = (s.ticEnd k 2 3).get f :=
    (((Within.refl _).bump (fields f on).1).raise (fields f on).2).get_eq
  refine ⟨(kept (by simp)).trans state, (kept (by simp)).trans status, (((Within.refl _).bump count).raise event).rdT_eq.trans start, event_raise _ _ _ (by decide), ?_⟩
  refine ((Within.refl _).raise event').get_eq.trans ((State.bump_get_same _ (R.TIC_MEASURES_COUNT k) (Nat.le_refl 36)).trans ?_)
  rw [measures]

/-! ## Timeout, DISARM, calibrations and the page disabled (R219, R220, R226) -/

theorem exec_ticTimeout (unit : k < 8) (up : s.up islRH = true) (armed : s.ticArmed k = true) (limit : (s.ticOf k).cfg.timeout ≠ 0) :
    exec (.ticTimeout k) s = .next (((s.ticEnd k 3 0).bump (R.TIC_TIMEOUTS_COUNT k)).raise (P.TIC k) E.TIC_TIMEOUT) := by
  show execTicTimeout k s = _
  unfold execTicTimeout
  rw [withUnit_next unit, State.inRh_up up, if_pos ⟨armed, limit⟩]

theorem State.ticAbort_armed (armed : s.ticArmed k = true ∨ (s.ticOf k).armAt.isSome = true) : s.ticAbort k = (s.ticEnd k 4 0).raise (P.TIC k) E.TIC_ABORT := by
  unfold State.ticAbort
  rw [if_pos (by simpa using armed)]

theorem State.ticAbort_idle (idle : s.ticArmed k = false) (none : (s.ticOf k).armAt.isSome = false) : s.ticAbort k = s := by
  unfold State.ticAbort
  rw [if_neg (by simp [idle, none])]

/-- An aborted measurement leaves the counter idle, with ABORT. -/
theorem State.ticAbort_spec (unit : k < 8) (armed : s.ticArmed k = true ∨ (s.ticOf k).armAt.isSome = true) : (s.ticAbort k).ticSt k = 0 ∧ (s.ticAbort k).get (R.TIC_CMD_STATUS k) = 4 ∧
    Event (s.ticAbort k) (P.TIC k) E.TIC_ABORT := by
  have apart : ∀ k < 8, Ok.raise (Cap.away (R.TIC_STATUS_STATE k)) (P.TIC k) ∧ Ok.raise (Cap.away (R.TIC_CMD_STATUS k)) (P.TIC k) := by decide
  obtain ⟨state, status⟩ := apart k unit
  obtain ⟨idle, aborted, -, -⟩ := State.ticEnd_spec unit s (status := 4) (st := 0) (by decide) (by decide)
  rw [State.ticAbort_armed armed]
  exact ⟨((Within.refl _).raise state).get_eq.trans idle, ((Within.refl _).raise status).get_eq.trans aborted, event_raise _ _ _ (by decide)⟩

section
variable {m : Master}

theorem exec_ticDisarm (unit : k < 8) (opened : Open s m (R.TIC_CMD k)) (armed : s.ticArmed k = true) : exec (.ticDisarm m k) s = .next (s.ticAbort k) := by
  show execTicDisarm m k s = _
  unfold execTicDisarm
  rw [withUnit_next unit, hostWrite_open opened, if_pos (by simp [armed])]

theorem exec_ticDisarm_idle (unit : k < 8) (opened : Open s m (R.TIC_CMD k)) (idle : s.ticArmed k = false) (none : (s.ticOf k).armAt = none) :
    exec (.ticDisarm m k) s = .next (s.set (R.TIC_CMD_STATUS k) 7) := by
  show execTicDisarm m k s = _
  unfold execTicDisarm
  rw [withUnit_next unit, hostWrite_open opened, if_neg (by simp [idle, none])]

theorem exec_ticCalibrate (unit : k < 8) (acc : Accepts s m (R.TIC_CMD_STATUS k)) (serves : s.ticServes k = true) :
    exec (.ticCalibrate m k) s = .next ((s.set (R.TIC_CMD_STATUS k) 1).ticCalStart k 1) := by
  show execTicCalibrate m k s = _
  unfold execTicCalibrate
  rw [withUnit_next unit, hostCmd_accepts acc, if_neg (by simp [serves])]

theorem exec_ticCalibrate_off (unit : k < 8) (acc : Accepts s m (R.TIC_CMD_STATUS k)) (off : s.ticServes k = false) :
    exec (.ticCalibrate m k) s = .next (s.set (R.TIC_CMD_STATUS k) 7) := by
  show execTicCalibrate m k s = _
  unfold execTicCalibrate
  rw [withUnit_next unit, hostCmd_accepts acc, if_pos (by simp [off])]

theorem exec_ticDisable (unit : k < 8) (opened : Open s m (R.PG_CTRL (P.TIC k))) :
    exec (.ticDisable m k) s = .next (((s.set (R.PG_CTRL_EN (P.TIC k)) 0).ticAbort k).ticDropCal k) := by
  show execTicDisable m k s = _
  unfold execTicDisable
  rw [withUnit_next unit, hostWrite_open opened]

end

/-- A calibration that begins. -/
theorem State.ticCalStart_spec (unit : k < 8) (s : State) (kind : Nat) : (s.ticCalStart k kind).ticSt k = 4 ∧ ((s.ticCalStart k kind).ticOf k).calKind = kind ∧
    (s.ticCalStart k kind).get (R.TIC_CMD_STATUS k) = s.get (R.TIC_CMD_STATUS k) ∧ (s.ticCalStart k kind).get (R.TIC_STATUS_CAL_STALE k) = s.get (R.TIC_STATUS_CAL_STALE k) := by
  have apart : ∀ k < 8, Ok.ticCalStart (Cap.away (R.TIC_CMD_STATUS k)) k ∧ Ok.ticCalStart (Cap.away (R.TIC_STATUS_CAL_STALE k)) k := by decide
  obtain ⟨status, stale⟩ := apart k unit
  refine ⟨?_, ?_, ((Within.refl s).ticCalStart status).get_eq, ((Within.refl s).ticCalStart stale).get_eq⟩
  · exact ((Within.refl _).putTic rfl).get_eq.trans (State.get_set_fits _ (R.TIC_STATUS_STATE k) (Nat.le_of_ble_eq_true rfl) (show 4 < 2 ^ 3 by decide))
  · rw [State.ticCalStart, State.putTic_ticOf]

/-- A temperature changes no more of the counters and pairs than the temperature. -/
theorem Within.newTemp_tic (s : State) (island : Nat) (temp : Int) : Within (Cap.sparing .tic) (s.putTemp island temp) (s.newTemp island temp) := by
  have counters : ∀ i < 8, Ok.showCal (Cap.sparing .tic) i := by decide
  exact .ite (.foldl (.refl _) fun i on _ h => h.showCal (counters i (List.mem_range.mp on))) ((Within.refl _).showPairs (by decide))

/-- What the age of the tables is judged by. -/
structure AgeAs (k : Nat) (s t : State) : Prop where
  tic : t.tic = s.tic
  step : t.get (R.TIC_CAL_CTRL_DTEMP k) = s.get (R.TIC_CAL_CTRL_DTEMP k)

theorem AgeAs.showCal {s t : State} {j : Nat} (unit : k < 8) (other : j < 8) (h : AgeAs k s t) : AgeAs k s (t.showCal j) := by
  have apart : ∀ k < 8, ∀ j < 8, Ok.showCal (Cap.away (R.TIC_CAL_CTRL_DTEMP k)) j ∧ Ok.showCal (Cap.sparing .tic) j := by decide
  obtain ⟨step, tic⟩ := apart k unit j other
  exact ⟨((Within.refl t).showCal tic).tic_eq.trans h.tic, ((Within.refl t).showCal step).get_eq.trans h.step⟩

/-- A counter's own flag shows that its tables are old. -/
theorem State.showCal_stale (unit : k < 8) (far : (s.ticOf k).older.far (s.tempOf islRH) (s.get1 (R.TIC_CAL_CTRL_DTEMP k)) = true) :
    (s.showCal k).get (R.TIC_STATUS_CAL_STALE k) = 1 := by
  have apart : ∀ k < 8, Ok.level (Cap.away (R.TIC_STATUS_CAL_STALE k)) (P.TIC k) := by decide
  unfold State.showCal
  simp only [far]
  exact ((Within.refl _).level (apart k unit)).get_eq.trans (State.setFlag_get_same _ (R.TIC_STATUS_CAL_STALE k) true (Nat.le_of_ble_eq_true rfl) rfl)

/-- The tables' age is shown for every counter when the temperature is known. -/
theorem State.newTemp_stale (unit : k < 8) (s : State) (temp : Int) (far : (s.ticOf k).older.far temp (s.get1 (R.TIC_CAL_CTRL_DTEMP k)) = true) :
    (s.newTemp islRH temp).get (R.TIC_STATUS_CAL_STALE k) = 1 := by
  have others : ∀ k < 8, ∀ j < 8, j ≠ k → Ok.showCal (Cap.away (R.TIC_STATUS_CAL_STALE k)) j := by decide
  have shown (l : List Nat) (units : ∀ j ∈ l, j < 8) (t : State) (as : AgeAs k (s.putTemp islRH temp) t) (done : k ∈ l ∨ t.get (R.TIC_STATUS_CAL_STALE k) = 1) :
      (l.foldl (fun t j => t.showCal j) t).get (R.TIC_STATUS_CAL_STALE k) = 1 := by
    induction l generalizing t with
    | nil => exact done.resolve_left List.not_mem_nil
    | cons j l ih =>
      have unit' : j < 8 := units j (List.mem_cons_self ..)
      refine ih (fun i on => units i (List.mem_cons_of_mem _ on)) _ (as.showCal unit unit') ?_
      by_cases own : j = k
      · subst own
        refine .inr (State.showCal_stale unit ?_)
        rw [State.ticOf_congr as.tic, State.tempOf, as.tic, State.get1, as.step]
        rw [State.get1] at far
        show (s.ticOf j).older.far (kvGetD (kvPut s.tic.temps islRH temp) islRH 0) _ = true
        rw [kvGetD, kvGet_kvPut_same]
        exact far
      · exact done.imp (fun on => (List.mem_cons.mp on).resolve_left (Ne.symm own)) fun one => ((Within.refl t).showCal (others k unit j unit' own)).get_eq.trans one
  unfold State.newTemp
  rw [if_pos rfl]
  exact shown (List.range 8) (fun j on => List.mem_range.mp on) _ ⟨rfl, rfl⟩ (.inl (List.mem_range.mpr unit))

theorem exec_ticAutoCal {temp : Int} (unit : k < 8) (up : s.up islRH = true) (serves : s.ticServes k = true) (auto : s.get (R.TIC_CAL_CTRL_AUTO k) = 1)
    (idle : s.ticSt k = 0 ∨ s.ticSt k = 3 ∨ s.ticSt k = 5) (none : (s.ticOf k).armAt = none) (far : (s.ticOf k).older.far temp (s.get1 (R.TIC_CAL_CTRL_DTEMP k)) = true) :
    exec (.ticAutoCal k temp) s = .next ((s.newTemp islRH temp).ticCalStart k 2) := by
  have apart : ∀ k < 8, ∀ f ∈ [R.PG_CTRL_EN (P.TIC k), R.PG_STAT_SHUNTED (P.TIC k), R.TIC_CAL_CTRL_AUTO k, R.TIC_STATUS_STATE k], Ok.newTemp (Cap.away f) := by decide
  have same {f : Fld} (on : f ∈ [R.PG_CTRL_EN (P.TIC k), R.PG_STAT_SHUNTED (P.TIC k), R.TIC_CAL_CTRL_AUTO k, R.TIC_STATUS_STATE k]) :
      (s.newTemp islRH temp).get f = s.get f := ((Within.refl s).newTemp (apart k unit f on)).get_eq
  have serves' : (s.newTemp islRH temp).ticServes k = true := by
    unfold State.ticServes State.flag
    rw [same (by simp), same (by simp)]
    exact serves
  have counter : (s.newTemp islRH temp).ticOf k = s.ticOf k := State.ticOf_congr (s := s.putTemp islRH temp) (Within.newTemp_tic s islRH temp).tic_eq k
  have idle' : (s.newTemp islRH temp).ticSt k = s.ticSt k := same (by simp)
  show execTicAutoCal k temp s = _
  unfold execTicAutoCal
  rw [withUnit_next unit, State.inRh_up up]
  simp only
  rw [if_pos ⟨serves', State.flag_of_get ((same (by simp)).trans auto), by omega, by rw [counter, none]; rfl, State.flag_of_get (State.newTemp_stale unit s temp far)⟩]

/-! ## The end of a calibration (R224 to R228) -/

section
variable {r0 r1 : CalResult} {temp : Int}

/-- Both results taken: the count that moves and the event that occurs. -/
theorem State.ticCalTake_done (unit : k < 8) (accepted : s.ticCalWhy k r0 r1 = 0) : Event (s.ticCalTake k r0 r1 temp) (P.TIC k) E.TIC_CAL_DONE ∧
    (s.ticCalTake k r0 r1 temp).get (R.TIC_CAL_COUNT_COUNT k) = min (s.get (R.TIC_CAL_COUNT_COUNT k) + 1) (2 ^ (R.TIC_CAL_COUNT_COUNT k).w - 1) := by
  have apart : ∀ k < 8, Ok.raise (Cap.away (R.TIC_CAL_COUNT_COUNT k)) (P.TIC k) ∧ Ok.newTemp (Cap.away (R.TIC_CAL_COUNT_COUNT k)) ∧
      Ok.setS (Cap.away (R.TIC_CAL_COUNT_COUNT k)) (R.TIC_CAL_STAT_TEMP k) ∧ Ok.pulse (Cap.away (R.TIC_CAL_COUNT_COUNT k)) ∧ Ok.pulse (Cap.raising (P.TIC k)) := by decide
  obtain ⟨event, known, shown, pulse, pulse'⟩ := apart k unit
  unfold State.ticCalTake
  extract_lets w0 w1 why c n c' s1 s2 s3
  have taken : s2 = ((s1.setS (R.TIC_CAL_STAT_TEMP k) temp).bump (R.TIC_CAL_COUNT_COUNT k)).raise (P.TIC k) E.TIC_CAL_DONE := if_pos accepted
  have rest {C : Cap} (line : Ok.pulse C) : Within C s2 ((s3.trig islRH 0x58 [k, w0, ofSigned 36 temp]).trig islRH 0x58 [k, w1, ofSigned 36 temp]) :=
    .trig (.trig (.ite ((Within.refl s2).pulse line) (.refl s2)))
  have before : (s1.setS (R.TIC_CAL_STAT_TEMP k) temp).get (R.TIC_CAL_COUNT_COUNT k) = s.get (R.TIC_CAL_COUNT_COUNT k) :=
    ((((Within.refl s).putTic rfl).newTemp known).setS shown).get_eq
  refine ⟨(rest pulse').event (taken ▸ event_raise _ _ _ (by decide)), (rest pulse).get_eq.trans ?_⟩
  rw [taken]
  refine ((Within.refl _).raise event).get_eq.trans ((State.bump_get_same _ (R.TIC_CAL_COUNT_COUNT k) (Nat.le_refl 36)).trans ?_)
  rw [before]

theorem State.ticCalTake_fail (unit : k < 8) (refused : s.ticCalWhy k r0 r1 ≠ 0) : Event (s.ticCalTake k r0 r1 temp) (P.TIC k) E.TIC_CAL_FAIL ∧
    (s.ticCalTake k r0 r1 temp).get (R.TIC_CAL_FAILS_COUNT k) = min (s.get (R.TIC_CAL_FAILS_COUNT k) + 1) (2 ^ (R.TIC_CAL_FAILS_COUNT k).w - 1) := by
  have apart : ∀ k < 8, Ok.raise (Cap.away (R.TIC_CAL_FAILS_COUNT k)) (P.TIC k) ∧ Ok.newTemp (Cap.away (R.TIC_CAL_FAILS_COUNT k)) ∧
      Ok.set (Cap.away (R.TIC_CAL_FAILS_COUNT k)) (R.TIC_CAL_STAT_WHY k) ∧ Ok.pulse (Cap.away (R.TIC_CAL_FAILS_COUNT k)) ∧ Ok.pulse (Cap.raising (P.TIC k)) := by decide
  obtain ⟨event, known, shown, pulse, pulse'⟩ := apart k unit
  unfold State.ticCalTake
  extract_lets w0 w1 why c n c' s1 s2 s3
  have taken : s2 = ((s1.set (R.TIC_CAL_STAT_WHY k) why).bump (R.TIC_CAL_FAILS_COUNT k)).raise (P.TIC k) E.TIC_CAL_FAIL := if_neg refused
  have rest {C : Cap} (line : Ok.pulse C) : Within C s2 ((s3.trig islRH 0x58 [k, w0, ofSigned 36 temp]).trig islRH 0x58 [k, w1, ofSigned 36 temp]) :=
    .trig (.trig (.ite ((Within.refl s2).pulse line) (.refl s2)))
  have before : (s1.set (R.TIC_CAL_STAT_WHY k) why).get (R.TIC_CAL_FAILS_COUNT k) = s.get (R.TIC_CAL_FAILS_COUNT k) :=
    ((((Within.refl s).putTic rfl).newTemp known).set shown).get_eq
  refine ⟨(rest pulse').event (taken ▸ event_raise _ _ _ (by decide)), (rest pulse).get_eq.trans ?_⟩
  rw [taken]
  refine ((Within.refl _).raise event).get_eq.trans ((State.bump_get_same _ (R.TIC_CAL_FAILS_COUNT k) (Nat.le_refl 36)).trans ?_)
  rw [before]

/-- A commanded calibration ends with a status and in a state. -/
def State.ticCalEnd (s : State) (k status st : Nat) : State :=
  let t := (s.set (R.TIC_CMD_STATUS k) status).set (R.TIC_STATUS_STATE k) st
  t.putTic k { t.ticOf k with calKind := 0 }

theorem exec_ticCalDone (unit : k < 8) (up : s.up islRH = true) (calibrates : s.ticSt k = 4) (commanded : (s.ticOf k).calKind = 1) : ∃ st,
    exec (.ticCalDone k r0 r1 temp) s = .next ((s.ticCalTake k r0 r1 temp).ticCalEnd k (if s.ticCalWhy k r0 r1 = 0 then 2 else 8) st) := by
  refine ⟨if ((s.ticCalTake k r0 r1 temp).ticOf k).start.uncal || ((s.ticCalTake k r0 r1 temp).ticOf k).stop.uncal then 5 else if (s.ticOf k).back = 5 then 0 else (s.ticOf k).back, ?_⟩
  show execTicCalDone k r0 r1 temp s = _
  unfold execTicCalDone
  rw [withUnit_next unit, State.inRh_up up, if_neg (not_not.mpr calibrates)]
  simp only [commanded, if_true, decide_eq_true_eq]
  rfl

theorem State.ticCalEnd_spec (unit : k < 8) (s : State) {status : Nat} (small : status < 16) (st : Nat) : (s.ticCalEnd k status st).get (R.TIC_CMD_STATUS k) = status ∧
    ((s.ticCalEnd k status st).ticOf k).calKind = 0 := by
  have apart : ∀ k < 8, Ok.set (Cap.away (R.TIC_CMD_STATUS k)) (R.TIC_STATUS_STATE k) := by decide
  refine ⟨?_, ?_⟩
  · exact (((Within.refl _).set (apart k unit)).putTic rfl).get_eq.trans (State.get_set_fits _ (R.TIC_CMD_STATUS k) (Nat.le_of_ble_eq_true rfl) small)
  · rw [State.ticCalEnd, State.putTic_ticOf]

end

/-! ## Converter pairs (R227, R228) -/

theorem State.putPair_pairOf (s : State) (n : Nat) (c : PairState) : (s.putPair n c).pairOf n = c := by
  show kvGetD (kvPut s.tic.pairs n c) n .init = c
  rw [kvGetD, kvGet_kvPut_same]
  rfl

theorem State.pairOf_congr {t : State} (same : t.tic = s.tic) (n : Nat) : t.pairOf n = s.pairOf n := by
  unfold State.pairOf
  rw [same]

/-- A member takes its result: its table and its failures. -/
theorem State.pairTake_pairOf (s : State) {n : Nat} (unit : n < pairCount) (m : Nat) (r : CalResult) (temp : Int) : ∃ table,
    (s.pairTake n m r temp).pairOf n = (s.pairOf n).put m table (if calWhy (2 ^ 24) r = 0 then 0 else (s.pairOf n).fails m + 1) := by
  have shows : ∀ n < pairCount, Ok.showPair (Cap.sparing .tic) n := by decide
  unfold State.pairTake
  extract_lets c why s1 good fails bad s2
  have shown : Within (Cap.sparing .tic) s2 ((s2.showPair n).trig (pairIsland n) 0x58 [8 + n, why, ofSigned 36 temp]) := ((Within.refl s2).showPair (shows n unit)).trig
  rw [State.pairOf_congr shown.tic_eq]
  by_cases accepted : why = 0
  · refine ⟨calTable r temp, ?_⟩
    have taken : Within (Cap.sparing .tic) (s1.putPair n (c.put m (calTable r temp) 0)) s2 := by
      dsimp only [s2]
      rw [if_pos accepted]
      exact .ite ((Within.refl _).bump (by decide)) (.refl _)
    rw [State.pairOf_congr taken.tic_eq, State.putPair_pairOf, if_pos accepted]
  · refine ⟨c.table m, ?_⟩
    have taken : Within (Cap.sparing .tic) (s1.putPair n (c.put m (c.table m) (c.fails m + 1))) s2 := by
      dsimp only [s2]
      rw [if_neg accepted]
      exact .ite ((Within.refl _).pulse (by decide)) (.refl _)
    rw [State.pairOf_congr taken.tic_eq, State.putPair_pairOf, if_neg accepted]

theorem PairState.put_spec (c : PairState) (m : Nat) (table : ConvTable) (f : Nat) : (c.put m table f).duty = c.duty ∧ (c.put m table f).fails m = f := by
  unfold PairState.put PairState.fails
  split <;> exact ⟨rfl, rfl⟩

section
variable {n : Nat} (unit : n < pairCount)
include unit

theorem exec_pairRecal {r : CalResult} {temp : Int} (up : s.up (pairIsland n) = true) (alive0 : (s.pairOf n).failed 0 = false) (alive1 : (s.pairOf n).failed 1 = false) :
    exec (.pairRecal n r temp) s = .next ((s.pairTake n (1 - (s.pairOf n).duty) r temp).putPair n
      { (s.pairTake n (1 - (s.pairOf n).duty) r temp).pairOf n with swap := decide (calWhy (2 ^ 24) r = 0) }) := by
  show execPairRecal n r temp s = _
  unfold execPairRecal
  rw [withUnit_next unit]
  simp only
  rw [if_neg (by simp [up]), if_neg (by simp [alive0, alive1])]

/-- The members have changed places. -/
def State.pairSwapped (s : State) (n : Nat) : State := s.putPair n { s.pairOf n with duty := 1 - (s.pairOf n).duty, swap := false }

theorem exec_pairSwap (swaps : (s.pairOf n).swap = true) : exec (.pairSwap n 0) s =
    .next (((s.pairSwapped n).showPair n).trig (pairIsland n) 0x58 [8 + n, 0, ofSigned 36 ((s.pairSwapped n).tempOf (pairIsland n))]) := by
  show execPairSwap n 0 s = _
  unfold execPairSwap
  rw [withUnit_next unit]
  exact congrArg _ (if_pos ⟨swaps, rfl⟩)

end

end

theorem State.rhTime_congr {s t : State} (same : t.ax = s.ax) (tick : Nat) : t.rhTime tick = s.rhTime tick := by
  unfold State.rhTime State.ctrOf
  rw [same]

section
variable {s : State} {m : Master} {k tick : Nat} (unit : k < 8)
include unit

/-- ARM_AT that is admitted sees the same instant and the same time. -/
theorem State.ticAdmitted_instant (s : State) : (s.ticAdmitted k).rdT (R.TIC_ARM_AT k) = s.rdT (R.TIC_ARM_AT k) ∧ (s.ticAdmitted k).rhTime tick = s.rhTime tick := by
  have apart : ∀ k < 8, Ok.set (Cap.outside (slotsT (R.TIC_ARM_AT k))) (R.TIC_CMD_STATUS k) ∧ Ok.set (Cap.outside (slotsT (R.TIC_ARM_AT k))) (R.TIC_STATUS_STATE k) := by decide
  exact ⟨((Within.refl s).ticAdmitted ⟨(apart k unit).1, (apart k unit).2, rfl⟩).rdT_eq, State.rhTime_congr ((Within.refl s).ticAdmitted ⟨rfl, rfl, rfl⟩).ax_eq tick⟩

/-- A status alone changes one register. -/
theorem State.statusOnly_spec (s : State) {n : Nat} (small : n < 16) : (s.set (R.TIC_CMD_STATUS k) n).get (R.TIC_CMD_STATUS k) = n ∧ OnlyRegs s (s.set (R.TIC_CMD_STATUS k) n) ∧
    OnlySlots [R.TIC_CMD k] s (s.set (R.TIC_CMD_STATUS k) n) := by
  have slot : ∀ k < 8, Ok.set (Cap.slots [R.TIC_CMD k]) (R.TIC_CMD_STATUS k) := by decide
  exact ⟨State.get_set_fits _ (R.TIC_CMD_STATUS k) (Nat.le_of_ble_eq_true rfl) small, (OnlyRegs.refl s).set, ((Within.refl s).set (slot k unit)).onlySlots⟩

theorem State.busy_spec (calibrates : s.ticSt k = 4) : (s.set (R.TIC_CMD_STATUS k) 6).get (R.TIC_CMD_STATUS k) = 6 ∧ (s.set (R.TIC_CMD_STATUS k) 6).ticSt k = 4 ∧
    OnlyRegs s (s.set (R.TIC_CMD_STATUS k) 6) ∧ OnlySlots [R.TIC_CMD k] s (s.set (R.TIC_CMD_STATUS k) 6) := by
  have apart : ∀ k < 8, Ok.set (Cap.away (R.TIC_STATUS_STATE k)) (R.TIC_CMD_STATUS k) := by decide
  obtain ⟨status, regs, slots⟩ := State.statusOnly_spec unit s (n := 6) (by decide)
  exact ⟨status, ((Within.refl s).set (apart k unit)).get_eq.trans calibrates, regs, slots⟩

omit unit in
theorem Within.ticCalEnd {C : Cap} {s₀ s : State} {status st : Nat} (h : Within C s₀ s) (may : Ok.set C (R.TIC_CMD_STATUS k) ∧ Ok.set C (R.TIC_STATUS_STATE k) ∧ Ok.putTic C) :
    Within C s₀ (s.ticCalEnd k status st) := ((h.set may.1).set may.2.1).putTic may.2.2

omit unit in
theorem ok_ticCalEnd : ∀ k < 8, (Ok.set (Cap.raising (P.TIC k)) (R.TIC_CMD_STATUS k) ∧ Ok.set (Cap.raising (P.TIC k)) (R.TIC_STATUS_STATE k) ∧ Ok.putTic (Cap.raising (P.TIC k))) ∧
    (Ok.set (Cap.away (R.TIC_CAL_COUNT_COUNT k)) (R.TIC_CMD_STATUS k) ∧ Ok.set (Cap.away (R.TIC_CAL_COUNT_COUNT k)) (R.TIC_STATUS_STATE k) ∧ Ok.putTic (Cap.away (R.TIC_CAL_COUNT_COUNT k))) ∧
    (Ok.set (Cap.away (R.TIC_CAL_FAILS_COUNT k)) (R.TIC_CMD_STATUS k) ∧ Ok.set (Cap.away (R.TIC_CAL_FAILS_COUNT k)) (R.TIC_STATUS_STATE k) ∧ Ok.putTic (Cap.away (R.TIC_CAL_FAILS_COUNT k))) := by
  decide

/-- What a counter does ends: its measurement ABORT, its calibration abandoned. -/
theorem State.ticEnded_spec (u : State) : (u.ticArmed k = true → ((u.ticAbort k).ticDropCal k).ticSt k = 0 ∧ ((u.ticAbort k).ticDropCal k).get (R.TIC_CMD_STATUS k) = 4) ∧
    (u.ticSt k = 4 → ((u.ticAbort k).ticDropCal k).ticSt k = 0) := by
  have idle (v : State) (zero : v.ticSt k = 0) : v.ticDropCal k = v := by
    unfold State.ticDropCal
    rw [if_neg (by omega)]
  have dropped (v : State) (calibrates : v.ticSt k = 4) : (v.ticDropCal k).ticSt k = 0 := by
    unfold State.ticDropCal
    rw [if_pos calibrates]
    exact ((Within.refl _).putTic rfl).get_eq.trans (State.get_set_fits _ (R.TIC_STATUS_STATE k) (Nat.le_of_ble_eq_true rfl) (show 0 < 2 ^ 3 by decide))
  refine ⟨fun runs => ?_, fun calibrates => ?_⟩
  · obtain ⟨zero, aborted, -⟩ := State.ticAbort_spec unit (.inl runs)
    rw [idle _ zero]
    exact ⟨zero, aborted⟩
  · by_cases waits : (u.ticOf k).armAt.isSome = true
    · obtain ⟨zero, -, -⟩ := State.ticAbort_spec unit (.inr waits)
      rw [idle _ zero]
      exact zero
    · rw [State.ticAbort_idle (by simp [State.ticArmed, calibrates]) (by simpa using waits)]
      exact dropped u calibrates

/-- A page that is disabled ends what its counter does. -/
theorem State.ticDisabled_spec (s : State) : (((s.set (R.PG_CTRL_EN (P.TIC k)) 0).ticAbort k).ticDropCal k).get (R.PG_CTRL_EN (P.TIC k)) = 0 ∧
    (s.ticArmed k = true → (((s.set (R.PG_CTRL_EN (P.TIC k)) 0).ticAbort k).ticDropCal k).ticSt k = 0 ∧
      (((s.set (R.PG_CTRL_EN (P.TIC k)) 0).ticAbort k).ticDropCal k).get (R.TIC_CMD_STATUS k) = 4) ∧
    (s.ticSt k = 4 → (((s.set (R.PG_CTRL_EN (P.TIC k)) 0).ticAbort k).ticDropCal k).ticSt k = 0) := by
  have apart : ∀ k < 8, Ok.ticAbort (Cap.away (R.PG_CTRL_EN (P.TIC k))) k ∧ Ok.ticDropCal (Cap.away (R.PG_CTRL_EN (P.TIC k))) k ∧
      Ok.set (Cap.away (R.TIC_STATUS_STATE k)) (R.PG_CTRL_EN (P.TIC k)) := by decide
  obtain ⟨abort, drop, enable⟩ := apart k unit
  have state : (s.set (R.PG_CTRL_EN (P.TIC k)) 0).ticSt k = s.ticSt k := ((Within.refl s).set enable).get_eq
  obtain ⟨armed, calibrates⟩ := State.ticEnded_spec unit (s.set (R.PG_CTRL_EN (P.TIC k)) 0)
  unfold State.ticArmed at armed
  rw [state] at armed calibrates
  exact ⟨(((Within.refl _).ticAbort abort).ticDropCal drop).get_eq.trans (State.get_set_fits _ (R.PG_CTRL_EN (P.TIC k)) (Nat.le_of_ble_eq_true rfl) (show 0 < 2 ^ 1 by decide)),
    armed, calibrates⟩

end

/-- Settles O18. -/
theorem intervalCountersMeasureAndCalibrate : Obligations.IntervalCountersMeasureAndCalibrate := by
  refine ⟨fun s m k tick unit acc serves free => ⟨fun source order => ⟨?_, fun future => ?_, fun past => ?_⟩, fun none => ?_⟩,
    fun s m k tick unit opened calibrates commanded => ⟨?_, ?_⟩, fun s k tick a unit up waits reached => ?_,
    fun s k tick phase tap unit up armed first gives => ⟨fun needs none => ?_, fun alone => ?_⟩, fun s k unit up armed limit => ?_,
    fun s m k unit opened => ⟨fun armed => ?_, fun idle none => ?_⟩, fun s m k unit acc => ⟨fun serves => ?_, fun off => ?_⟩,
    fun s k temp unit up serves auto idle none far => ?_, fun s k r0 r1 temp unit up calibrates commanded => ⟨fun accepted => ?_, fun refused => ?_⟩,
    fun s m k unit opened => ?_, fun s n r temp unit up alive0 alive1 => ?_, fun s n unit swaps => ?_⟩
  · have apart : ∀ k < 8, Ok.set (Cap.outside (cfgSlots k)) (R.TIC_CMD_STATUS k) ∧ Ok.set (Cap.outside (cfgSlots k)) (R.TIC_STATUS_STATE k) := by decide
    have ran : exec (.ticArm m k) s = .next ((s.ticAdmitted k).ticArmNow k false) := by
      rw [exec_ticArm unit, State.ticCmd_accepts free acc, State.ticAdmit_ok serves free source order]
    obtain ⟨state, status, start, -, cfg, -⟩ := State.ticArmNow_spec unit (s.ticAdmitted k) false
    exact .intro ran ⟨state, status.trans (State.ticAdmitted_status unit s), cfg.trans ((Within.refl s).ticAdmitted ⟨(apart k unit).1, (apart k unit).2, rfl⟩).ticConfig_eq, start⟩
  · have ran : exec (.ticArmAt m k tick) s = .next ((s.ticAdmitted k).putTic k { (s.ticAdmitted k).ticOf k with armAt := some (ofT108 (s.rdT (R.TIC_ARM_AT k))) }) := by
      obtain ⟨instant, time⟩ := s.ticAdmitted_instant (tick := tick) unit
      rw [exec_ticArmAt unit, State.ticCmd_accepts free acc, State.ticAdmit_ok serves free source order, State.ticArmAt, instant, time, if_neg (not_le.mpr future)]
    refine .intro ran ⟨by rw [State.putTic_ticOf], ((Within.refl _).putTic rfl).get_eq.trans (State.ticAdmitted_status unit s)⟩
  · have ran : exec (.ticArmAt m k tick) s = .next ((s.ticAdmitted k).ticArmNow k true) := by
      obtain ⟨instant, time⟩ := s.ticAdmitted_instant (tick := tick) unit
      rw [exec_ticArmAt unit, State.ticCmd_accepts free acc, State.ticAdmit_ok serves free source order, State.ticArmAt, instant, time, if_pos past]
    obtain ⟨state, status, -, late, -, -⟩ := State.ticArmNow_spec unit (s.ticAdmitted k) true
    exact .intro ran ⟨state, late, status.trans (State.ticAdmitted_status unit s)⟩
  · have apart : ∀ k < 8, Ok.raise (Cap.away (R.TIC_CMD_STATUS k)) (P.TIC k) ∧ Ok.raise (Cap.away (R.TIC_STATUS_STATE k)) (P.TIC k) ∧
        Ok.set (Cap.away (R.TIC_STATUS_STATE k)) (R.TIC_CMD_STATUS k) := by decide
    obtain ⟨event, event', status⟩ := apart k unit
    have ran : exec (.ticArm m k) s = .next ((s.set (R.TIC_CMD_STATUS k) 5).raise (P.TIC k) E.TIC_CFG_ERR) := by
      rw [exec_ticArm unit, State.ticCmd_accepts free acc, State.ticAdmit_noSource serves free none]
    exact .intro ran ⟨((Within.refl _).raise event).get_eq.trans (State.get_set_fits _ (R.TIC_CMD_STATUS k) (Nat.le_of_ble_eq_true rfl) (show 5 < 2 ^ 4 by decide)),
      (((Within.refl s).set status).raise event').get_eq, event_raise _ _ _ (by decide)⟩
  · exact .intro ((exec_ticArm unit m s).trans (congrArg _ (State.ticCmd_busy opened calibrates commanded))) (State.busy_spec unit calibrates)
  · exact .intro ((exec_ticArmAt unit m tick s).trans (congrArg _ (State.ticCmd_busy opened calibrates commanded))) (State.busy_spec unit calibrates)
  · obtain ⟨state, -, -, late, cfg, none⟩ := State.ticArmNow_spec unit s false
    exact .intro (exec_ticArmAtReached unit up waits reached) ⟨state, late, none, cfg⟩
  · obtain ⟨state, start, stamp, -, -⟩ := s.ticStamped_spec unit tick phase tap (s.startStamp k tick phase tap)
    exact .intro ((exec_ticEdge_start unit up armed first gives).trans (congrArg _ (State.ticTake_waits unit needs none))) ⟨state, start, stamp⟩
  · obtain ⟨-, -, stamp, -, measures⟩ := s.ticStamped_spec unit tick phase tap (s.startStamp k tick phase tap)
    obtain ⟨state, status, start, event, count⟩ := State.ticDone_spec unit (s.ticStamped k tick phase tap (s.startStamp k tick phase tap))
    exact .intro ((exec_ticEdge_start unit up armed first gives).trans (congrArg _ (State.ticTake_done unit alone))) ⟨state, status, start.trans stamp, event, by rw [count, measures]⟩
  · have apart : ∀ k < 8, (∀ f ∈ [R.TIC_STATUS_STATE k, R.TIC_CMD_STATUS k], Ok.bump (Cap.away f) (R.TIC_TIMEOUTS_COUNT k) ∧ Ok.raise (Cap.away f) (P.TIC k)) ∧
        Ok.bump (Cap.outside (slotsT (R.TIC_START_T k))) (R.TIC_TIMEOUTS_COUNT k) ∧ Ok.raise (Cap.outside (slotsT (R.TIC_START_T k))) (P.TIC k) := by decide
    obtain ⟨fields, count, event⟩ := apart k unit
    obtain ⟨state, status, start, -⟩ := State.ticEnd_spec unit s (status := 3) (st := 0) (by decide) (by decide)
    obtain ⟨countS, eventS⟩ := fields (R.TIC_STATUS_STATE k) (by simp)
    obtain ⟨countC, eventC⟩ := fields (R.TIC_CMD_STATUS k) (by simp)
    exact .intro (exec_ticTimeout unit up armed limit) ⟨(((Within.refl _).bump countS).raise eventS).get_eq.trans state, (((Within.refl _).bump countC).raise eventC).get_eq.trans status,
      event_raise _ _ _ (by decide), (((Within.refl _).bump count).raise event).rdT_eq.trans start⟩
  · exact .intro (exec_ticDisarm unit opened armed) (State.ticAbort_spec unit (.inl armed))
  · exact .intro (exec_ticDisarm_idle unit opened idle none) (State.statusOnly_spec unit s (by decide))
  · obtain ⟨state, kind, status, -⟩ := State.ticCalStart_spec unit (s.set (R.TIC_CMD_STATUS k) 1) 1
    exact .intro (exec_ticCalibrate unit acc serves)
      ⟨state, kind, status.trans (State.get_set_fits _ (R.TIC_CMD_STATUS k) (Nat.le_of_ble_eq_true rfl) (show 1 < 2 ^ 4 by decide))⟩
  · exact .intro (exec_ticCalibrate_off unit acc off) (State.statusOnly_spec unit s (by decide))
  · obtain ⟨state, kind, -, stale⟩ := State.ticCalStart_spec unit (s.newTemp islRH temp) 2
    exact .intro (exec_ticAutoCal unit up serves auto idle none far) ⟨state, kind, stale.trans (State.newTemp_stale unit s temp far)⟩
  · obtain ⟨st, ran⟩ := exec_ticCalDone (r0 := r0) (r1 := r1) (temp := temp) unit up calibrates commanded
    obtain ⟨event, count⟩ := State.ticCalTake_done (temp := temp) unit accepted
    obtain ⟨status, kind⟩ := State.ticCalEnd_spec unit (s.ticCalTake k r0 r1 temp) (status := 2) (by decide) st
    rw [if_pos accepted] at ran
    exact .intro ran ⟨status, kind, ((Within.refl _).ticCalEnd (ok_ticCalEnd k unit).1).event event, ((Within.refl _).ticCalEnd (ok_ticCalEnd k unit).2.1).get_eq.trans count⟩
  · obtain ⟨st, ran⟩ := exec_ticCalDone (r0 := r0) (r1 := r1) (temp := temp) unit up calibrates commanded
    obtain ⟨event, count⟩ := State.ticCalTake_fail (temp := temp) unit refused
    obtain ⟨status, kind⟩ := State.ticCalEnd_spec unit (s.ticCalTake k r0 r1 temp) (status := 8) (by decide) st
    rw [if_neg refused] at ran
    exact .intro ran ⟨status, kind, ((Within.refl _).ticCalEnd (ok_ticCalEnd k unit).1).event event, ((Within.refl _).ticCalEnd (ok_ticCalEnd k unit).2.2).get_eq.trans count⟩
  · exact .intro (exec_ticDisable unit opened) (State.ticDisabled_spec unit s)
  · obtain ⟨table, taken⟩ := s.pairTake_pairOf unit (1 - (s.pairOf n).duty) r temp
    obtain ⟨duty, fails⟩ := (s.pairOf n).put_spec (1 - (s.pairOf n).duty) table (if calWhy (2 ^ 24) r = 0 then 0 else (s.pairOf n).fails (1 - (s.pairOf n).duty) + 1)
    refine .intro (exec_pairRecal unit up alive0 alive1) ?_
    rw [State.putPair_pairOf, taken]
    exact ⟨rfl, duty, fails⟩
  · have shows : ∀ n < pairCount, Ok.showPair (Cap.sparing .tic) n := by decide
    refine .intro (exec_pairSwap unit swaps) ?_
    rw [State.pairOf_congr ((Within.refl _).showPair (shows n unit)).trig.tic_eq, State.pairSwapped, State.putPair_pairOf]
    exact ⟨rfl, rfl⟩

end Sys2Proof.Machine
end

section
/-! PROOFS.
The receiver's commands, survey and code (spec/10, R239 to R255).
-/
namespace Sys2Proof.Machine
open Sys2Proof

section
variable {s : State} {m : Master}

/-! ## COLD_START, CLEAR_SUSPECT and RESURVEY (R242, R251, R255) -/

/-- The almanac and the ephemeris discarded. -/
def State.forgetOrbits (s : State) : State := { s with gns := { s.gns with almAt := none, ephAt := none } }

theorem exec_coldStart (acc : Accepts s m R.GNS_CMD_STATUS) (runs : s.engineRuns = true) :
    exec (.coldStart m) s = .next ((s.forgetOrbits.surveyClear.searchAll .cold).set R.GNS_CMD_STATUS 2) := by
  show execColdStart m s = _
  unfold execColdStart
  rw [hostCmd_accepts acc, if_pos runs]
  rfl

theorem exec_coldStart_stopped (acc : Accepts s m R.GNS_CMD_STATUS) (stopped : s.engineRuns = false) : exec (.coldStart m) s = .next (s.set R.GNS_CMD_STATUS 3) := by
  show execColdStart m s = _
  unfold execColdStart
  rw [hostCmd_accepts acc, if_neg (by simp [stopped])]

/-- Every channel searches from the start, and nothing else of the receiver changes. -/
theorem State.searchAll_gns (s : State) (k : ChanState) :
    (s.searchAll k).gns = { s.gns with search := k, chans := s.gns.chans.map (fun p => (p.1, { p.2 with st := k })) } :=
  ((Within.refl _).showTrack (by decide)).gns_eq

theorem State.surveyClear_gns (s : State) : s.surveyClear.gns = { s.gns with surveyN := 0, surveyX := 0, surveyY := 0, surveyZ := 0 } :=
  (((Within.refl _).set (by decide)).set (by decide)).gns_eq

theorem State.surveyClear_shown (s : State) : s.surveyClear.get R.GNS_STATUS_POS = 0 ∧ s.surveyClear.get R.GNS_SURVEY_LEFT_S = 0 :=
  ⟨((Within.refl _).set (by decide)).get_eq.trans (State.get_set_fits _ _ (by decide) (by decide)), State.get_set_fits _ _ (by decide) (by decide)⟩

/-- The request waits for the next epoch. -/
def State.askClear (s : State) : State := { s with gns := { s.gns with clearAsked := true } }

theorem exec_clearSuspect (acc : Accepts s m R.GNS_CMD_STATUS) : exec (.clearSuspect m) s = .next (s.askClear.set R.GNS_CMD_STATUS 2) := by
  show execClearSuspect m s = _
  unfold execClearSuspect
  rw [hostCmd_accepts acc]
  rfl

theorem exec_resurvey (acc : Accepts s m R.GNS_CMD_STATUS) (survey : s.posMode = 0) : exec (.resurvey m) s = .next (s.surveyClear.set R.GNS_CMD_STATUS 2) := by
  show execResurvey m s = _
  unfold execResurvey
  rw [hostCmd_accepts acc, if_pos survey]

/-! ## A code session (R239, R241) -/

/-- The session of the receiver's code. -/
def State.withSession (s : State) (l : Option (List Word)) : State := { s with gns := { s.gns with session := l } }

theorem exec_codeOpen (acc : Accepts s m R.GNS_CMD_STATUS) (host : m ≠ .pf1) (shunted : s.get (R.PG_STAT_SHUNTED P.GNS) = 1) :
    exec (.codeOpen m) s = .next ((s.withSession (some [])).set R.GNS_CMD_STATUS 2) := by
  show execCodeOpen m s = _
  unfold execCodeOpen
  rw [hostCmd_accepts acc, if_neg host, if_neg (by simp [State.flag_of_get shunted])]
  rfl

theorem exec_codeOpen_pf1 (acc : Accepts s .pf1 R.GNS_CMD_STATUS) : exec (.codeOpen .pf1) s = .next (s.set R.GNS_CMD_STATUS 4) := by
  show execCodeOpen .pf1 s = _
  unfold execCodeOpen
  rw [hostCmd_accepts acc, if_pos rfl]

theorem exec_codeDataWrite {w : Word} (opened : Open s m R.GNS_CODE_DATA) : exec (.codeDataWrite m w) s = .next (s.withSession (s.gns.session.map (fun l => l ++ [w]))) := by
  show execCodeDataWrite m w s = _
  unfold execCodeDataWrite
  rw [hostWrite_open opened]
  rfl

theorem exec_codeClose {l : List Word} (acc : Accepts s m R.GNS_CMD_STATUS) (host : m ≠ .pf1) (session : s.gns.session = some l) (some_ : l ≠ []) (fits : l.length ≤ 524288) :
    exec (.codeClose m) s = .next (((s.withSession none).installCode l).set R.GNS_CMD_STATUS 2) := by
  show execCodeClose m s = _
  unfold execCodeClose
  rw [hostCmd_accepts acc, if_neg host]
  simp only [session]
  rw [if_neg (by simp [some_]; omega)]
  rfl

theorem ok_codeHash : ∀ i < 11, ∀ j < 11, j ≠ i → Ok.set (Cap.away (R.GNS_CODE_HASH_D i)) (R.GNS_CODE_HASH_D j) := by decide

/-- Each word of the digest shows in its own register. -/
theorem State.putCodeHash_get (s : State) (d : Nat) {i : Nat} (word : i < 11) : (s.putCodeHash d).get (R.GNS_CODE_HASH_D i) = d * 4096 / 2 ^ (36 * (10 - i)) % 2 ^ 36 := by
  suffices ∀ (l : List Nat) (t : State), (∀ j ∈ l, j < 11) → (i ∈ l ∨ t.get (R.GNS_CODE_HASH_D i) = d * 4096 / 2 ^ (36 * (10 - i)) % 2 ^ 36) →
      (l.foldl (fun t j => t.set (R.GNS_CODE_HASH_D j) (d * 4096 / 2 ^ (36 * (10 - j)))) t).get (R.GNS_CODE_HASH_D i) = d * 4096 / 2 ^ (36 * (10 - i)) % 2 ^ 36 from
    this (List.range 11) s (fun j on => List.mem_range.mp on) (.inl (List.mem_range.mpr word))
  intro l
  induction l with
  | nil => exact fun t _ done => done.resolve_left List.not_mem_nil
  | cons j l ih =>
    intro t words done
    refine ih _ (fun k on => words k (List.mem_cons_of_mem _ on)) ?_
    by_cases own : j = i
    · subst own
      exact .inr (State.get_set_same _ (R.GNS_CODE_HASH_D j) _ (Nat.le_refl 36))
    · exact done.imp (fun on => (List.mem_cons.mp on).resolve_left (Ne.symm own))
        fun shown => ((Within.refl t).set (ok_codeHash i word j (words j (List.mem_cons_self ..)) own)).get_eq.trans shown

theorem State.installCode_gns (s : State) (l : List Word) : (s.installCode l).gns = { s.gns with code := l } :=
  ((Within.refl _).putCodeHash (by decide)).gns_eq

/-! ## The survey's end and the page disabled (R242, R254) -/

/-- HOLD begins on a position. -/
def State.surveyHeld (s : State) (pos : Int × Int × Int) (sigma : Nat) : State :=
  ((((s.putPos pos).set R.GNS_STATUS_POS 3).set R.GNS_POS_QUAL_SIGMA (min 65535 sigma)).set R.GNS_SURVEY_LEFT_S 0).gnsEvt E.GNS_SURVEY_DONE

theorem exec_surveyDone {sigma : Nat} (runs : s.engineRuns = true) (survey : s.get R.GNS_STATUS_POS = 2) (time : s.surveyTime ≤ s.gns.surveyN) (some_ : 0 < s.gns.surveyN)
    (good : sigma ≤ max 1 (s.get R.GNS_SURVEY_SIGMA)) : exec (.surveyDone sigma) s =
      .next (s.surveyHeld (quot s.gns.surveyX s.gns.surveyN, quot s.gns.surveyY s.gns.surveyN, quot s.gns.surveyZ s.gns.surveyN) sigma) := by
  show execSurveyDone sigma s = _
  unfold execSurveyDone
  exact congrArg _ (if_pos (by simp [runs, survey, time, some_, State.get1]; omega))

theorem exec_gnssDisable (opened : Open s m (R.PG_CTRL P.GNS)) (enabled : s.get (R.PG_CTRL_EN P.GNS) = 1) :
    exec (.gnssDisable m) s = .next ((s.set (R.PG_CTRL_EN P.GNS) 0).gnsStop 5) := by
  show execGnssDisable m s = _
  unfold execGnssDisable
  rw [hostWrite_open opened, if_pos (State.flag_of_get enabled)]

/-- The engine's state shows what it is set to. -/
theorem State.setEngine_get (s : State) {st : Nat} (few : st < 8) : (s.setEngine st).get R.GNS_STATUS_ENGINE = st := by
  unfold State.setEngine
  split
  next same => exact same
  · exact ((Within.refl _).gnsRec).get_eq.trans (State.get_set_fits _ _ (by decide) few)

/-- The receiver stops: nothing is ready, its page is busy, and its engine's state follows from what it was. -/
theorem State.gnsStop_spec (s : State) {st : Nat} (few : st < 8) : (s.gnsStop st).gns.ready = none ∧ (s.gnsStop st).get (R.PG_STAT_BUSY P.GNS) = 1 ∧
    (s.gnsStop st).get R.GNS_STATUS_ENGINE = (if st = 5 ∧ (s.get R.GNS_STATUS_ENGINE = 0 ∨ s.get R.GNS_STATUS_ENGINE = 3 ∨ s.get R.GNS_STATUS_ENGINE = 4) then s.get R.GNS_STATUS_ENGINE else st) := by
  have small : s.get R.GNS_STATUS_ENGINE < 8 := Nat.mod_lt _ (by decide)
  unfold State.gnsStop
  extract_lets s1 _ s2 was
  have same : was = s.get R.GNS_STATUS_ENGINE := (Within.updGns (Within.ite ((Within.refl s).bump (by decide)) (.refl s)) (by decide)).get_eq
  rw [same]
  refine ⟨?_, ?_, State.setEngine_get _ (by split; exacts [small, few])⟩
  · rw [(((Within.refl s2).set (by decide)).setEngine (by decide)).gns_eq]
  · exact ((Within.refl _).setEngine (by decide)).get_eq.trans (State.get_set_fits _ _ (by decide) (by decide))

end

/-- Settles O20: NO_CODE keeping ENGINE and COLD_START giving POS 0 are log entry 14. -/
theorem gnssCommandsSurveyAndCode : Obligations.GnssCommandsSurveyAndCode := by
  have done (t : State) {n : Nat} (small : n < 16) : (t.set R.GNS_CMD_STATUS n).get R.GNS_CMD_STATUS = n := State.get_set_fits _ _ (by decide) small
  refine ⟨fun s m acc => ⟨fun runs => ?_, fun stopped => ?_, ?_, fun survey => ?_, fun host shunted => ?_, ?_, fun l host session some_ fits => ?_⟩, fun s m w l opened session => ?_,
    fun s sigma runs survey time some_ good => ?_, fun s m opened enabled => ?_⟩
  · have gns : ((s.forgetOrbits.surveyClear.searchAll .cold).set R.GNS_CMD_STATUS 2).gns = (s.forgetOrbits.surveyClear.searchAll .cold).gns := State.set_gns ..
    refine .intro (exec_coldStart acc runs) ⟨done _ (by decide), ?_, ?_, ?_, ?_⟩
    · rw [gns, State.searchAll_gns, State.surveyClear_gns]
      rfl
    · rw [gns, State.searchAll_gns, State.surveyClear_gns]
      rfl
    · exact (((Within.refl _).searchAll (by decide)).set (by decide)).get_eq.trans (State.surveyClear_shown _).1
    · rw [gns, State.searchAll_gns]
      intro p on
      obtain ⟨q, -, rfl⟩ := List.mem_map.mp on
      rfl
  · exact .intro (exec_coldStart_stopped acc stopped) ⟨done _ (by decide), (OnlyRegs.refl s).set, ((Within.refl s).set (by decide)).onlySlots⟩
  · exact .intro (exec_clearSuspect acc) ⟨done _ (by decide), by rw [State.set_gns]; rfl, (((Within.refl s).updGns (by decide)).set (by decide)).onlySlots⟩
  · obtain ⟨pos, left⟩ := s.surveyClear_shown
    refine .intro (exec_resurvey acc survey) ⟨done _ (by decide), ((Within.refl _).set (by decide)).get_eq.trans pos, ((Within.refl _).set (by decide)).get_eq.trans left, ?_⟩
    rw [State.set_gns, State.surveyClear_gns]
  · exact .intro (exec_codeOpen acc host shunted) ⟨done _ (by decide), by rw [State.set_gns]; rfl⟩
  · rintro rfl
    exact .intro (exec_codeOpen_pf1 acc) ⟨done _ (by decide), State.set_gns ..⟩
  · refine .intro (exec_codeClose acc host session some_ fits) ⟨done _ (by decide), ?_, ?_, fun i word => ?_⟩
    · rw [State.set_gns, State.installCode_gns]
      rfl
    · rw [State.set_gns, State.installCode_gns]
    · have apart : ∀ i < 11, Ok.set (Cap.away (R.GNS_CODE_HASH_D i)) R.GNS_CMD_STATUS := by decide
      exact ((Within.refl _).set (apart i word)).get_eq.trans (State.putCodeHash_get _ _ word)
  · refine .intro (exec_codeDataWrite opened) ⟨?_, rfl⟩
    rw [session]
    rfl
  · refine .intro (exec_surveyDone runs survey time some_ good) ⟨?_, ?_, (Within.refl _).gnsRec.event (event_raise _ _ _ (by decide))⟩
    · exact ((((Within.refl _).set (by decide)).set (by decide)).gnsEvt (by decide)).get_eq.trans (State.get_set_fits _ _ (by decide) (by decide))
    · exact (((Within.refl _).set (by decide)).gnsEvt (by decide)).get_eq.trans (State.get_set_fits _ _ (by decide) (Nat.lt_succ_of_le (min_le_left ..)))
  · obtain ⟨ready, busy, engine⟩ := (s.set (R.PG_CTRL_EN P.GNS) 0).gnsStop_spec (st := 5) (by decide)
    refine .intro (exec_gnssDisable opened enabled) ⟨((Within.refl _).gnsStop (by decide)).get_eq.trans (State.get_set_fits _ _ (by decide) (by decide)), busy, ready, ?_⟩
    rw [engine, ((Within.refl s).set (by decide)).get_eq]
    simp only [true_and]

end Sys2Proof.Machine
end

section
/-! PROOFS.
Ports: reception and the link state (spec/12, R276 to R285).
-/
namespace Sys2Proof.Machine
open Sys2Proof

section
variable {s : State}

/-! ## The link state (R283) -/

/-- The events of a port's page do not write its state. -/
theorem ok_portEvents : ∀ p < 24, Ok.raise (Cap.away (R.PRT_STATUS_LINK p)) (P.PRT p) ∧ Ok.level (Cap.away (R.PRT_STATUS_LINK p)) (P.PRT p) ∧ Ok.level (Cap.raising (P.PRT p)) (P.PRT p) := by
  decide

theorem State.setLink_link (s : State) {p st : Nat} (low : p < 24) (few : st < 8) : (s.setLink p st).link p = st := by
  obtain ⟨raise, level, -⟩ := ok_portEvents p low
  unfold State.setLink
  split
  next same => exact same
  · exact (((Within.refl _).raise raise).level level).get_eq.trans (State.get_set_fits _ (R.PRT_STATUS_LINK p) (Nat.le_of_ble_eq_true rfl) few)

theorem State.setLink_event {p st : Nat} (low : p < 24) (moved : s.link p ≠ st) : Event (s.setLink p st) (P.PRT p) E.PRT_LINK := by
  unfold State.setLink
  rw [if_neg moved]
  exact ((Within.refl _).level (ok_portEvents p low).2.2).event (event_raise _ _ _ (by decide))

theorem State.setLink_up {p : Nat} (moved : s.link p ≠ 3) : Event (s.setLink p 3) (P.PRT p) E.PRT_UP := by
  unfold State.setLink
  rw [if_neg moved]
  exact event_level _ (by decide)

theorem State.goUp_spec (s : State) {p : Nat} (low : p < 24) (moved : s.link p ≠ 3) : (s.goUp p).link p = 3 ∧ Event (s.goUp p) (P.PRT p) E.PRT_LINK ∧
    Event (s.goUp p) (P.PRT p) E.PRT_UP ∧ ((s.goUp p).portOf p).ups = ((s.portOf p).ups + 1) % 16 := by
  have may : Ok.putPort (Cap.away (R.PRT_STATUS_LINK p)) ∧ Ok.putPort (Cap.raising (P.PRT p)) := ⟨rfl, rfl⟩
  exact ⟨((Within.refl _).putPort may.1).get_eq.trans (s.setLink_link low (by decide)), ((Within.refl _).putPort may.2).event (State.setLink_event low moved),
    ((Within.refl _).putPort may.2).event (State.setLink_up moved), congrArg PortState.ups (kvGetD_kvPut_same ..)⟩

/-! ## Reception (R276 to R282) -/

theorem State.sta_same (s : State) {p k n : Nat} (apart : R.PG_EVT (P.STA p) ≠ R.STA_RX_FRAMES p + k) : (s.sta p k n).rd (R.STA_RX_FRAMES p + k) = s.rd (R.STA_RX_FRAMES p + k) + BitVec.ofNat 36 n := by
  have event : Ok.raise (Cap.away (whole (R.STA_RX_FRAMES p + k))) (P.STA p) := decide_eq_true apart
  rw [State.sta, ((Within.refl _).raiseIf event).rd_eq, State.rd_wr_same, BitVec.ofNat_add, BitVec.ofNat_toNat, BitVec.setWidth_eq]

/-- The counters of codes and codewords of R279, and the work asked of the coach (R287), before a frame is decided. -/
def State.heard (s : State) (port codes corr uncorr : Nat) : State := ((((s.demand (port / 4)).sta port 21 codes).sta port 22 corr).sta port 23 uncorr)

theorem Within.heard {C : Cap} {port codes corr uncorr : Nat} (may : Ok.demand C ∧ Ok.sta C port 21 ∧ Ok.sta C port 22 ∧ Ok.sta C port 23) : Within C s (s.heard port codes corr uncorr) :=
  ((((Within.refl s).demand may.1).sta may.2.1).sta may.2.2.1).sta may.2.2.2

theorem State.heard_cars (s : State) (port codes corr uncorr c : Nat) : ((s.heard port codes corr uncorr).coachOf c).cars = (s.coachOf c).cars := by
  have counted : (s.heard port codes corr uncorr).pipe = (s.demand (port / 4)).pipe :=
    ((((Within.refl (s.demand (port / 4))).sta ⟨rfl, rfl⟩).sta ⟨rfl, rfl⟩).sta ⟨rfl, rfl⟩).pipe_eq
  unfold State.coachOf
  rw [counted]
  show (kvGetD (kvPut s.pipe.coaches (port / 4) _) c .init).cars = _
  by_cases same : c = port / 4
  · rw [same, kvGetD_kvPut_same]
    rfl
  · rw [kvGetD_kvPut_other _ _ _ _ _ same]

/-- The pause that a PAUSE or PFC frame asks for, where the port obeys it (R282). -/
def State.obeyPause (s : State) (port g k : Nat) (f : Frame) (land : Int) : State :=
  match f.body with
  | .pause q => if k = 9 ∧ s.fcObey g port = 1 then s.putPort port { s.portOf port with pause := (List.range 8).map (fun cl => (cl, s.pauseEnd port q land)) } else s
  | .pfc en qs =>
    if k = 10 ∧ s.fcObey g port = 2 then
      s.putPort port { s.portOf port with pause := (List.range 8).foldl (fun m cl => if bitOn en cl then kvPut m cl (s.pauseEnd port (qs.getD cl 0) land) else m) (s.portOf port).pause }
    else s
  | _ => s

theorem State.obeyPause_keeps (s : State) (port g k : Nat) (f : Frame) (land : Int) : (s.obeyPause port g k f land).regs = s.regs ∧ (s.obeyPause port g k f land).pipe.coaches = s.pipe.coaches := by
  unfold State.obeyPause
  split
  · split <;> exact ⟨rfl, rfl⟩
  · split <;> exact ⟨rfl, rfl⟩
  · exact ⟨rfl, rfl⟩

/-- A field has the same value under a generation where its register, the generation in force and the set before it are the same. -/
theorem State.cget_congr {s t : State} {g : Nat} {f : Fld} (same : t.get f = s.get f) (force : t.get R.GEN_IN_FORCE_GEN = s.get R.GEN_IN_FORCE_GEN) (before : t.gen.before = s.gen.before) :
    t.cget g f = s.cget g f := by
  unfold State.cget State.cfg
  rw [force, before]
  split
  exacts [same, rfl]

/-- The counters of a frame do not bear on the check that decides it. -/
theorem State.heard_rxCheck (s : State) {port : Nat} (low : port < 24) (codes corr uncorr g : Nat) (f : Frame) (bad full : Bool) :
    (s.heard port codes corr uncorr).rxCheck port g f bad full = s.rxCheck port g f bad full := by
  have may : ∀ p < 24, ∀ h ∈ [R.GEN_IN_FORCE_GEN, R.PRT_FRAME_MAX_BYTES p, R.PRT_CFG_MC_ALL p], Ok.demand (Cap.away h) ∧ Ok.sta (Cap.away h) p 21 ∧ Ok.sta (Cap.away h) p 22 ∧ Ok.sta (Cap.away h) p 23 := by
    decide
  have bins : ∀ p < 24, ∀ i < 16, Ok.demand (Cap.away (R.PRT_MC_HASH_BINS p i)) ∧ Ok.sta (Cap.away (R.PRT_MC_HASH_BINS p i)) p 21 ∧ Ok.sta (Cap.away (R.PRT_MC_HASH_BINS p i)) p 22 ∧
      Ok.sta (Cap.away (R.PRT_MC_HASH_BINS p i)) p 23 := by decide
  have force := (Within.heard (s := s) (codes := codes) (corr := corr) (uncorr := uncorr) (may port low _ (by simp))).get_eq (g := R.GEN_IN_FORCE_GEN)
  have before : (s.heard port codes corr uncorr).gen.before = s.gen.before := congrArg GenPart.before (Within.heard ⟨rfl, ⟨rfl, rfl⟩, ⟨rfl, rfl⟩, rfl, rfl⟩).gen_eq
  have most : (s.heard port codes corr uncorr).cget g (R.PRT_FRAME_MAX_BYTES port) = s.cget g (R.PRT_FRAME_MAX_BYTES port) :=
    State.cget_congr (Within.heard (may port low _ (by simp))).get_eq force before
  have all : (s.heard port codes corr uncorr).cget g (R.PRT_CFG_MC_ALL port) = s.cget g (R.PRT_CFG_MC_ALL port) := State.cget_congr (Within.heard (may port low _ (by simp))).get_eq force before
  have hash {i : Nat} (few : i < 16) : (s.heard port codes corr uncorr).cget g (R.PRT_MC_HASH_BINS port i) = s.cget g (R.PRT_MC_HASH_BINS port i) :=
    State.cget_congr (Within.heard (bins port low _ few)).get_eq force before
  unfold State.rxCheck State.accepts State.cflag
  simp only [most, all, hash (show crcBytes (bytesBE 6 f.dst) % 512 / 32 < 16 by omega)]

theorem State.rxCheck_few (s : State) (p g : Nat) (f : Frame) (bad full : Bool) : s.rxCheck p g f bad full < 12 := by
  unfold State.rxCheck
  repeat' split
  all_goals decide

/-- A frame that passes is counted first, and is the last carriage of its coach. -/
theorem State.rxPass_spec (s : State) {p : Nat} (low : p < 24) (g : Nat) (f : Frame) (ingT : Int) : (s.rxPass p g f ingT).rd (R.STA_RX_FRAMES p + 0) = s.rd (R.STA_RX_FRAMES p + 0) + 1 ∧
    ((s.rxPass p g f ingT).coachOf (p / 4)).cars.length = (s.coachOf (p / 4)).cars.length + 1 ∧
    ((s.rxPass p g f ingT).coachOf (p / 4)).cars.getLast?.map (fun c => (c.stage, c.port, c.frame, c.ingT)) = some (.parse, p, f, ingT) := by
  have may : ∀ p < 24, (∀ k ∈ [1, 2, 3], Ok.sta (Cap.away (whole (R.STA_RX_FRAMES p + 0))) p k) ∧ Ok.octets (Cap.away (whole (R.STA_RX_FRAMES p + 0))) (R.STA_RX_OCTETS p) ∧
      R.PG_EVT (P.STA p) ≠ R.STA_RX_FRAMES p + 0 := by decide
  obtain ⟨others, octets, apart⟩ := may p low
  have kind : (if f.dst = macBcast then 3 else if isGroup f.dst then 2 else 1) ∈ [1, 2, 3] := by split; exacts [by decide, by split <;> decide]
  refine ⟨(((((Within.refl _).sta (others _ kind)).octets octets).addCar rfl).rd_eq).trans (State.sta_same s apart), ?_⟩
  generalize counted : ((s.sta p 0 1).sta p (if f.dst = macBcast then 3 else if isGroup f.dst then 2 else 1) 1).octets (R.STA_RX_OCTETS p) f.len = t
  have pipe : t.pipe = s.pipe := by
    rw [← counted]
    exact ((((Within.refl s).sta ⟨rfl, rfl⟩).sta ⟨rfl, rfl⟩).octets ⟨rfl, rfl⟩).pipe_eq
  unfold State.rxPass
  simp only [counted, State.addCar, State.takeFree, State.coachOf, State.putCoach, kvGetD_kvPut_same, pipe]
  exact ⟨List.length_append, by simp⟩

theorem exec_frameReceive {port : Nat} {st : Stamp} {f : Frame} {bad full : Bool} {codes corr uncorr : Nat} (low : port < 24) (on : s.up (8 + port / 4) = true) (up : s.link port = 3) {land ingT : Int} {g k : Nat}
    (hl : s.stampOf (8 + 2 * port) st = land) (hi : land - ofPs (s.cdelay (s.genAt land) (R.PRT_DELAY_RX_PS port)) = ingT) (hg : s.genAt ingT = g) (hk : s.rxCheck port g f bad full = k) :
    exec (.frameReceive port st f bad full codes corr uncorr) s = .next (if k = 0 then (s.heard port codes corr uncorr).rxPass port g f ingT
      else ((s.heard port codes corr uncorr).sta port k 1).obeyPause port g k f land) := by
  subst hl hi hg hk
  rw [← s.heard_rxCheck low codes corr uncorr]
  show execFrameReceive port st f bad full codes corr uncorr s = _
  unfold execFrameReceive
  rw [withUnit_next low]
  exact congrArg _ (if_neg (by simp [on, State.portUp, up]))

/-! ## Loss, lock and closing (R283 to R285) -/

/-- The frames of a port that goes down are lost, and the loss of an UP port is counted (R284). -/
def State.cutOff (s : State) (p : Nat) (cut : List TxRef) : State :=
  if s.link p = 3 then (((cut.take 1).foldl (fun t r => t.cutTx p r) s).flushPort p).bump (R.PRT_LINK_DOWNS_COUNT p) else s

theorem Within.cutOff {C : Cap} {p : Nat} {cut : List TxRef} (may : Ok.cutTx C p ∧ Ok.flushPort C p ∧ Ok.bump C (R.PRT_LINK_DOWNS_COUNT p)) : Within C s (s.cutOff p cut) :=
  .ite (((Within.refl s).foldl fun _ _ _ h => h.cutTx may.1).flushPort may.2.1 |>.bump may.2.2) (.refl s)

theorem State.cutOff_counts {p : Nat} (cut : List TxRef) (low : p < 24) (up : s.link p = 3) :
    (s.cutOff p cut).get (R.PRT_LINK_DOWNS_COUNT p) = min (s.get (R.PRT_LINK_DOWNS_COUNT p) + 1) (2 ^ (R.PRT_LINK_DOWNS_COUNT p).w - 1) := by
  have may : ∀ p < 24, Ok.cutTx (Cap.away (R.PRT_LINK_DOWNS_COUNT p)) p ∧ Ok.flushPort (Cap.away (R.PRT_LINK_DOWNS_COUNT p)) p := by decide
  obtain ⟨cuts, flush⟩ := may p low
  have before : Within (Cap.away (R.PRT_LINK_DOWNS_COUNT p)) s (((cut.take 1).foldl (fun t r => t.cutTx p r) s).flushPort p) :=
    ((Within.refl s).foldl fun _ _ _ h => h.cutTx cuts).flushPort flush
  unfold State.cutOff
  rw [if_pos up, State.bump_get_same _ (R.PRT_LINK_DOWNS_COUNT p) (Nat.le_refl 36), before.get_eq]

/-- What a port shows once it has gone DOWN. -/
theorem State.goDown_spec (s : State) {p : Nat} (low : p < 24) (cut : List TxRef) (moved : 2 ≤ s.link p) : (s.goDown p cut).link p = 1 ∧ (s.goDown p cut).get (R.PRT_STATUS_FEC_LOCK p) = 0 ∧
    Event (s.goDown p cut) (P.PRT p) E.PRT_LINK ∧
    (s.link p = 3 → (s.goDown p cut).get (R.PRT_LINK_DOWNS_COUNT p) = min (s.get (R.PRT_LINK_DOWNS_COUNT p) + 1) (2 ^ (R.PRT_LINK_DOWNS_COUNT p).w - 1)) := by
  have may : ∀ p < 24, (Ok.cutTx (Cap.away (R.PRT_STATUS_LINK p)) p ∧ Ok.flushPort (Cap.away (R.PRT_STATUS_LINK p)) p ∧ Ok.bump (Cap.away (R.PRT_STATUS_LINK p)) (R.PRT_LINK_DOWNS_COUNT p)) ∧
      (Ok.set (Cap.away (R.PRT_STATUS_LINK p)) (R.PRT_STATUS_FEC_LOCK p) ∧ Ok.set (Cap.away (R.PRT_STATUS_LINK p)) (R.PRT_STATUS_TRAINING p)) ∧
      Ok.set (Cap.away (R.PRT_STATUS_FEC_LOCK p)) (R.PRT_STATUS_TRAINING p) ∧
      (Ok.set (Cap.raising (P.PRT p)) (R.PRT_STATUS_FEC_LOCK p) ∧ Ok.set (Cap.raising (P.PRT p)) (R.PRT_STATUS_TRAINING p)) ∧
      Ok.setLink (Cap.away (R.PRT_LINK_DOWNS_COUNT p)) p ∧ Ok.set (Cap.away (R.PRT_LINK_DOWNS_COUNT p)) (R.PRT_STATUS_FEC_LOCK p) ∧
      Ok.set (Cap.away (R.PRT_LINK_DOWNS_COUNT p)) (R.PRT_STATUS_TRAINING p) := by decide
  obtain ⟨cuts, ⟨fecL, trainL⟩, trainF, ⟨fecE, trainE⟩, linkC, fecC, trainC⟩ := may p low
  have same : (s.cutOff p cut).link p = s.link p := (Within.cutOff cuts).get_eq
  show State.link (((s.cutOff p cut).setLink p 1).set (R.PRT_STATUS_FEC_LOCK p) 0 |>.setFlag _ _) p = 1 ∧
    State.get (((s.cutOff p cut).setLink p 1).set (R.PRT_STATUS_FEC_LOCK p) 0 |>.setFlag _ _) _ = 0 ∧
    Event (((s.cutOff p cut).setLink p 1).set (R.PRT_STATUS_FEC_LOCK p) 0 |>.setFlag _ _) _ _ ∧
    (_ → State.get (((s.cutOff p cut).setLink p 1).set (R.PRT_STATUS_FEC_LOCK p) 0 |>.setFlag _ _) _ = _)
  refine ⟨(((Within.refl _).set fecL).setFlag trainL).get_eq.trans (State.setLink_link _ low (by decide)), ?_, ?_, fun up => ?_⟩
  · exact ((Within.refl _).setFlag trainF).get_eq.trans (State.get_set_fits _ (R.PRT_STATUS_FEC_LOCK p) (Nat.le_of_ble_eq_true rfl) (show 0 < 2 ^ 1 by decide))
  · exact (((Within.refl _).set fecE).setFlag trainE).event (State.setLink_event low (by omega))
  · exact ((((Within.refl _).setLink linkC).set fecC).setFlag trainC).get_eq.trans (State.cutOff_counts cut low up)

/-- The fault that took the link, where it is one that shows (R283). -/
def State.showFault (s : State) (port why : Nat) : State :=
  if why = 4 then (if why = 3 then s.set (R.PRT_STATUS_LOCAL_FAULT port) 1 else s).set (R.PRT_STATUS_REMOTE_FAULT port) 1
  else if why = 3 then s.set (R.PRT_STATUS_LOCAL_FAULT port) 1 else s

theorem Within.showFault {C : Cap} {port why : Nat} (may : Ok.set C (R.PRT_STATUS_LOCAL_FAULT port) ∧ Ok.set C (R.PRT_STATUS_REMOTE_FAULT port)) : Within C s (s.showFault port why) :=
  .ite (.set (.ite (.set (.refl _) may.1) (.refl _)) may.2) (.ite (.set (.refl _) may.1) (.refl _))

theorem exec_linkLoss {port why : Nat} {cut : Option TxRef} (low : port < 24) (on : 2 ≤ s.link port) : exec (.linkLoss port why cut) s = .next ((s.goDown port cut.toList).showFault port why) := by
  show execLinkLoss port why cut s = _
  unfold execLinkLoss
  rw [withUnit_next low, if_neg (by omega)]
  rfl

/-- A port that has locked: its FEC shown, trained, without a fault, and in HOLD. -/
def State.locked (s : State) (port : Nat) (fec : Bool) : State :=
  ((((s.setFlag (R.PRT_STATUS_FEC_LOCK port) fec).set (R.PRT_STATUS_TRAINING port) 0).set (R.PRT_STATUS_LOCAL_FAULT port) 0).set (R.PRT_STATUS_REMOTE_FAULT port) 0).setLink port 2

theorem exec_linkLock {port : Nat} (low : port < 24) (on : s.up (8 + port / 4) = true) (down : s.link port = 1) (inService : s.coachOut (port / 4) = false) :
    ∃ fec, exec (.linkLock port) s = .next (if (s.locked port fec).get (R.PRT_LINK_HOLD_MS port) = 0 then (s.locked port fec).goUp port else s.locked port fec) := by
  refine ⟨decide (s.portMode port = 4 ∨ s.portMode port = 5) || (decide (s.portMode port = 3) && s.flag (R.PRT_MODE_FEC port)), ?_⟩
  show execLinkLock port s = _
  unfold execLinkLock
  rw [withUnit_next low]
  exact congrArg _ (if_neg (by simp [on, down, inService]))

theorem State.locked_spec (s : State) {p : Nat} (low : p < 24) (down : s.link p = 1) (fec : Bool) : (s.locked p fec).link p = 2 ∧ (s.locked p fec).get (R.PRT_STATUS_TRAINING p) = 0 ∧
    Event (s.locked p fec) (P.PRT p) E.PRT_LINK ∧ (s.locked p fec).get (R.PRT_LINK_HOLD_MS p) = s.get (R.PRT_LINK_HOLD_MS p) := by
  have may : ∀ p < 24, (∀ h ∈ [R.PRT_STATUS_LINK p, R.PRT_LINK_HOLD_MS p], Ok.set (Cap.away h) (R.PRT_STATUS_FEC_LOCK p) ∧ Ok.set (Cap.away h) (R.PRT_STATUS_TRAINING p) ∧
        Ok.set (Cap.away h) (R.PRT_STATUS_LOCAL_FAULT p) ∧ Ok.set (Cap.away h) (R.PRT_STATUS_REMOTE_FAULT p)) ∧
      (Ok.set (Cap.away (R.PRT_STATUS_TRAINING p)) (R.PRT_STATUS_LOCAL_FAULT p) ∧ Ok.set (Cap.away (R.PRT_STATUS_TRAINING p)) (R.PRT_STATUS_REMOTE_FAULT p) ∧
        Ok.setLink (Cap.away (R.PRT_STATUS_TRAINING p)) p) ∧ Ok.setLink (Cap.away (R.PRT_LINK_HOLD_MS p)) p := by decide
  obtain ⟨status, ⟨localT, remoteT, linkT⟩, linkH⟩ := may p low
  have before {h : Fld} (on : h ∈ [R.PRT_STATUS_LINK p, R.PRT_LINK_HOLD_MS p]) : State.get ((((s.setFlag (R.PRT_STATUS_FEC_LOCK p) fec).set (R.PRT_STATUS_TRAINING p) 0).set (R.PRT_STATUS_LOCAL_FAULT p) 0).set
      (R.PRT_STATUS_REMOTE_FAULT p) 0) h = s.get h := by
    obtain ⟨fecOk, train, localOk, remote⟩ := status h on
    exact (((((Within.refl s).setFlag fecOk).set train).set localOk).set remote).get_eq
  refine ⟨State.setLink_link _ low (by decide), ?_, State.setLink_event low ?_, ((Within.refl _).setLink linkH).get_eq.trans (before (by simp))⟩
  · exact ((((Within.refl _).set localT).set remoteT).setLink linkT).get_eq.trans (State.get_set_fits _ (R.PRT_STATUS_TRAINING p) (Nat.le_of_ble_eq_true rfl) (show 0 < 2 ^ 1 by decide))
  · unfold State.link
    rw [before (by simp), show s.get (R.PRT_STATUS_LINK p) = 1 from down]
    decide

theorem exec_linkHoldExpiry {port ms : Nat} (low : port < 24) (on : s.up (8 + port / 4) = true) (hold : s.link port = 2) (long : min 10000 (s.get (R.PRT_LINK_HOLD_MS port)) ≤ ms) :
    exec (.linkHoldExpiry port ms) s = .next (s.goUp port) := by
  show execLinkHoldExpiry port ms s = _
  unfold execLinkHoldExpiry
  rw [withUnit_next low, if_pos ⟨hold, on, long⟩]

/-- A port that is closed while it sends: its transmitter stays as it was until the frame has left. -/
def State.stillSending (s : State) (port txOn : Nat) : State :=
  State.putPort { s with boot := { s.boot with txOn := txOn } } port { s.portOf port with closing := true }

theorem State.stillSending_keeps (s : State) (port txOn : Nat) : (s.stillSending port txOn).regs = s.regs ∧ ((s.stillSending port txOn).portOf port).closing = true ∧
    (s.stillSending port txOn).boot.txOn = txOn := ⟨rfl, congrArg PortState.closing (kvGetD_kvPut_same ..), rfl⟩

theorem exec_portDisable {m : Master} {port : Nat} {sending : Bool} (low : port < 24) (opened : Open s m (R.PG_CTRL (P.PRT port))) (enabled : s.get (R.PG_CTRL_EN (P.PRT port)) = 1)
    (on : (s.setFlag (R.PG_CTRL_EN (P.PRT port)) false).link port ≠ 0) : exec (.portDisable m port sending) s =
      .next (if sending then (((s.setFlag (R.PG_CTRL_EN (P.PRT port)) false).goOff port).setFlag (R.PG_STAT_BUSY (P.PRT port)) true).stillSending port (s.setFlag (R.PG_CTRL_EN (P.PRT port)) false).boot.txOn
        else (s.setFlag (R.PG_CTRL_EN (P.PRT port)) false).goOff port) := by
  show execPortDisable m port sending s = _
  unfold execPortDisable
  rw [withUnit_next low, hostWrite_open opened, if_neg (by simp [State.flag_of_get enabled])]
  exact congrArg _ (if_neg on)

theorem State.goOff_spec (s : State) {p : Nat} (low : p < 24) : (s.goOff p).link p = 0 ∧ bitOn (s.goOff p).boot.txOn p = false := by
  have may : ∀ p < 24, Ok.set (Cap.away (R.PRT_STATUS_LINK p)) (R.PRT_STATUS_FEC_LOCK p) ∧ Ok.set (Cap.away (R.PRT_STATUS_LINK p)) (R.PRT_STATUS_TRAINING p) := by decide
  obtain ⟨fec, train⟩ := may p low
  exact ⟨((((Within.refl _).set fec).set train).updBoot rfl).get_eq.trans (State.setLink_link _ low (by decide)), by
    unfold State.goOff
    dsimp only
    exact bitOn_setBit_same ..⟩

end

/-- Settles O21. -/
theorem portsReceiveAndFollowTheirLinks : Obligations.PortsReceiveAndFollowTheirLinks := by
  refine ⟨fun s port st f bad full codes corr uncorr low on up => ?_, fun s port why cut low on => ?_, fun s port low on => ⟨fun down inService => ?_, fun ms hold long => ?_⟩,
    fun s m port sending low opened enabled on => ?_⟩
  · extract_lets land ingT k
    have few : k < 12 := s.rxCheck_few ..
    have counters : ∀ p < 24, ∀ k < 12, (Ok.demand (Cap.away (whole (R.STA_RX_FRAMES p + k))) ∧ Ok.sta (Cap.away (whole (R.STA_RX_FRAMES p + k))) p 21 ∧
        Ok.sta (Cap.away (whole (R.STA_RX_FRAMES p + k))) p 22 ∧ Ok.sta (Cap.away (whole (R.STA_RX_FRAMES p + k))) p 23) ∧ R.PG_EVT (P.STA p) ≠ R.STA_RX_FRAMES p + k := by decide
    obtain ⟨may, apart⟩ := counters port low k few
    have heard : (s.heard port codes corr uncorr).rd (R.STA_RX_FRAMES port + k) = s.rd (R.STA_RX_FRAMES port + k) := (Within.heard may).rd_eq
    refine .intro (exec_frameReceive low on up (land := land) (ingT := ingT) (k := k) rfl rfl rfl rfl) ?_
    by_cases passes : k = 0
    · obtain ⟨counted, more, last⟩ := (s.heard port codes corr uncorr).rxPass_spec low (s.genAt ingT) f ingT
      rw [if_pos passes, passes]
      rw [passes] at heard
      exact ⟨counted.trans (congrArg (· + 1) heard), fun _ => ⟨more.trans (congrArg (fun l => l.length + 1) (s.heard_cars ..)), last⟩, fun no => absurd rfl no⟩
    · obtain ⟨regs, coaches⟩ := ((s.heard port codes corr uncorr).sta port k 1).obeyPause_keeps port (s.genAt ingT) k f land
      rw [if_neg passes]
      refine ⟨?_, fun yes => absurd yes passes, fun _ => ?_⟩
      · unfold State.rd
        rw [regs]
        exact (State.sta_same _ apart).trans (congrArg (· + 1) heard)
      · unfold State.coachOf
        rw [coaches, ((Within.refl _).sta ⟨rfl, rfl⟩).pipe_eq]
        exact s.heard_cars ..
  · obtain ⟨link, fec, event, counted⟩ := s.goDown_spec low cut.toList on
    have may : ∀ p < 24, (∀ h ∈ [R.PRT_STATUS_LINK p, R.PRT_STATUS_FEC_LOCK p, R.PRT_LINK_DOWNS_COUNT p], Ok.set (Cap.away h) (R.PRT_STATUS_LOCAL_FAULT p) ∧ Ok.set (Cap.away h) (R.PRT_STATUS_REMOTE_FAULT p)) ∧
        Ok.set (Cap.raising (P.PRT p)) (R.PRT_STATUS_LOCAL_FAULT p) ∧ Ok.set (Cap.raising (P.PRT p)) (R.PRT_STATUS_REMOTE_FAULT p) := by decide
    obtain ⟨fields, localE, remoteE⟩ := may port low
    refine .intro (exec_linkLoss low on) ⟨(Within.showFault (fields _ (by simp))).get_eq.trans link, (Within.showFault (fields _ (by simp))).get_eq.trans fec,
      (Within.showFault ⟨localE, remoteE⟩).event event, fun up => (Within.showFault (fields _ (by simp))).get_eq.trans (counted up), ?_, ?_⟩
    · rintro rfl
      exact State.get_set_fits _ (R.PRT_STATUS_LOCAL_FAULT port) (Nat.le_of_ble_eq_true rfl) (show 1 < 2 ^ 1 by decide)
    · rintro rfl
      exact State.get_set_fits _ (R.PRT_STATUS_REMOTE_FAULT port) (Nat.le_of_ble_eq_true rfl) (show 1 < 2 ^ 1 by decide)
  · obtain ⟨fec, e⟩ := exec_linkLock low on down inService
    obtain ⟨link, train, event, hold⟩ := s.locked_spec low down fec
    refine .intro e ?_
    rw [hold]
    split
    · obtain ⟨up, moved, -⟩ := (s.locked port fec).goUp_spec low (by omega)
      have may : ∀ p < 24, Ok.goUp (Cap.away (R.PRT_STATUS_TRAINING p)) p := by decide
      exact ⟨up, ((Within.refl _).goUp (may port low)).get_eq.trans train, moved⟩
    · exact ⟨link, train, event⟩
  · obtain ⟨up, moved, event, ups⟩ := s.goUp_spec low (by omega)
    exact .intro (exec_linkHoldExpiry low on hold long) ⟨up, ups, moved, event⟩
  · have may : ∀ p < 24, Ok.set (Cap.away (R.PRT_STATUS_LINK p)) (R.PG_CTRL_EN (P.PRT p)) ∧ Ok.goOff (Cap.away (R.PG_CTRL_EN (P.PRT p))) p ∧
        Ok.set (Cap.away (R.PG_CTRL_EN (P.PRT p))) (R.PG_STAT_BUSY (P.PRT p)) ∧ Ok.set (Cap.away (R.PRT_STATUS_LINK p)) (R.PG_STAT_BUSY (P.PRT p)) := by decide
    obtain ⟨enL, offE, busyE, busyL⟩ := may port low
    have same : (s.setFlag (R.PG_CTRL_EN (P.PRT port)) false).link port ≠ 0 := by
      unfold State.link
      rwa [((Within.refl s).setFlag enL).get_eq]
    have off : (s.setFlag (R.PG_CTRL_EN (P.PRT port)) false).get (R.PG_CTRL_EN (P.PRT port)) = 0 := State.setFlag_get_same _ (R.PG_CTRL_EN (P.PRT port)) false (Nat.le_of_ble_eq_true rfl) rfl
    obtain ⟨link, quiet⟩ := (s.setFlag (R.PG_CTRL_EN (P.PRT port)) false).goOff_spec low
    refine .intro (exec_portDisable low opened enabled same) ?_
    cases sending with
    | false => exact ⟨((Within.refl _).goOff offE).get_eq.trans off, link, fun no => Bool.noConfusion no, fun _ => quiet⟩
    | true =>
      obtain ⟨regs, closing, txOn⟩ := (((s.setFlag (R.PG_CTRL_EN (P.PRT port)) false).goOff port).setFlag (R.PG_STAT_BUSY (P.PRT port)) true).stillSending_keeps port
        (s.setFlag (R.PG_CTRL_EN (P.PRT port)) false).boot.txOn
      refine ⟨(State.get_congr regs _).trans ((((Within.refl _).goOff offE).setFlag busyE).get_eq.trans off), (State.get_congr regs _).trans (((Within.refl _).setFlag busyL).get_eq.trans link), fun _ =>
        ⟨(State.get_congr regs _).trans (State.setFlag_get_same _ (R.PG_STAT_BUSY (P.PRT port)) true (Nat.le_of_ble_eq_true rfl) rfl), closing, txOn.trans (congrArg BootPart.txOn (State.setFlag_boot ..))⟩,
        fun no => Bool.noConfusion no⟩

end Sys2Proof.Machine
end

section
/-! PROOFS.
The modules, the cage's buses and the gears (spec/02, R41, R42; spec/12, R286, R287).
-/
namespace Sys2Proof.Machine
open Sys2Proof

section
variable {s : State} {m : Master}

/-! ## The pins of the modules (R286) -/

theorem exec_moduleResetRelease {port : Nat} (low : port < 24) (stage : 2 ≤ s.get R.BOOT_STAGE_STAGE) (turn : s.boot.rstNext = port) :
    exec (.moduleResetRelease port) s = .next (State.setRst { s with boot := { s.boot with rstNext := port + 1 } } port (!s.flag (R.PRT_MODULE_RST port))) := by
  show execModuleResetRelease port s = _
  unfold execModuleResetRelease
  rw [withUnit_next low, if_neg (by omega)]

theorem exec_moduleRstWrite {port : Nat} {rst : Bool} (low : port < 24) (opened : Open s m (R.PRT_MODULE port)) : exec (.moduleRstWrite m port rst) s =
    .next (if s.boot.rstNext ≤ port then s.setFlag (R.PRT_MODULE_RST port) rst else (s.setFlag (R.PRT_MODULE_RST port) rst).setRst port (!rst)) := by
  show execModuleRstWrite m port rst s = _
  unfold execModuleRstWrite
  rw [withUnit_next low, hostWrite_open opened]
  rfl

/-- The pin's level, as the cage samples it. -/
def State.samplePrs (s : State) (port : Nat) (on : Bool) : State := { s with boot := { s.boot with prs := setBit s.boot.prs port on } }

/-- The interrupt pin's level, as the cage samples it. -/
def State.sampleInt (s : State) (port : Nat) (on : Bool) : State := { s with boot := { s.boot with intLow := setBit s.boot.intLow port on } }

/-- The transaction of a module that has gone ends (R286). -/
def State.goneNomod (s : State) (port : Nat) (present : Bool) : State :=
  match present, (s.busOf (port / 4)).queue with
  | false, t :: rest => if t.port = port then (s.runBus (port / 4) { s.busOf (port / 4) with queue := rest }).i2cEnd port 4 else s
  | _, _ => s

theorem Within.goneNomod {C : Cap} {port : Nat} {present : Bool} (may : Ok.runBus C ∧ Ok.i2cEnd C port) : Within C s (s.goneNomod port present) := by
  unfold State.goneNomod
  split
  · exact .ite (((Within.refl s).runBus may.1).i2cEnd may.2) (.refl s)
  · exact .refl s

theorem exec_modPresent {port : Nat} {b : Bool} (low : port < 24) (on : s.up (8 + port / 4) = true) (cage : s.cageOn = true) (moved : s.flag (R.PRT_MODULE_PRESENT port) = !b) :
    exec (.modPresent port b) s = .next ((((s.samplePrs port b).setFlag (R.PRT_MODULE_PRESENT port) b).raise (P.PRT port) E.PRT_MOD_PRESENT).goneNomod port b) := by
  have acts : ¬(!(s.samplePrs port b).cageOn ∨ !(s.samplePrs port b).up (8 + port / 4) ∨ (s.samplePrs port b).flag (R.PRT_MODULE_PRESENT port) = b) := by
    show ¬(!s.cageOn ∨ !s.up (8 + port / 4) ∨ s.flag (R.PRT_MODULE_PRESENT port) = b)
    simp [cage, on, moved]
  show execModPresent port b s = _
  unfold execModPresent
  rw [withUnit_next low, if_pos cage]
  exact congrArg _ ((if_neg acts).trans rfl)

theorem exec_modInt {port : Nat} {b : Bool} (low : port < 24) (on : s.up (8 + port / 4) = true) (cage : s.cageOn = true) (moved : s.flag (R.PRT_MODULE_INT port) = !b) :
    exec (.modInt port b) s = .next (((s.sampleInt port b).setFlag (R.PRT_MODULE_INT port) b).level (P.PRT port) E.PRT_MOD_INT b) := by
  have acts : ¬(!(s.sampleInt port b).cageOn ∨ !(s.sampleInt port b).up (8 + port / 4) ∨ (s.sampleInt port b).flag (R.PRT_MODULE_INT port) = b) := by
    show ¬(!s.cageOn ∨ !s.up (8 + port / 4) ∨ s.flag (R.PRT_MODULE_INT port) = b)
    simp [cage, on, moved]
  show execModInt port b s = _
  unfold execModInt
  rw [withUnit_next low, if_pos cage]
  exact congrArg _ (if_neg acts)

/-! ## The buses of the cage (R41, R42, R286) -/

theorem State.putBus_busOf (s : State) (c : Nat) (x : BusState) : (s.putBus c x).busOf c = x := kvGetD_kvPut_same ..

/-- A bus that runs on holds what it is given, and selects the port of its head. -/
theorem State.runBus_busOf (s : State) (c : Nat) (b : BusState) : (s.runBus c b).busOf c = { b with sel := if b.stuck then none else b.queue.head?.map (fun t => t.port) } := by
  unfold State.runBus
  extract_lets want t u
  by_cases same : want = b.sel
  · rw [if_pos same, State.putBus_busOf]
    show b = { b with sel := want }
    rw [same]
  · rw [if_neg same, State.putBus_busOf]

/-- The end of a transaction writes what its port shows of it, wherever the port lies. -/
theorem State.i2cEnd_spec (s : State) (p : Nat) {st : Nat} (few : st < 16) : (s.i2cEnd p st).get (R.PRT_I2C_CMD_STATUS p) = st ∧ Event (s.i2cEnd p st) (P.PRT p) E.PRT_I2C_DONE ∧
    (s.i2cEnd p st).get (R.PRT_I2C_DATA_BYTES p) = s.get (R.PRT_I2C_DATA_BYTES p) := by
  have apart {a b : Nat} (ne : a ≠ b) : (128 + p) * 512 + a ≠ (128 + p) * 512 + b := by omega
  unfold State.i2cEnd
  extract_lets t
  have status : t.get (R.PRT_I2C_CMD_STATUS p) = st :=
    ((Within.refl _).raise (decide_eq_true (apart (a := 4) (b := 37) (by decide)))).get_eq.trans (State.get_set_fits _ (R.PRT_I2C_CMD_STATUS p) (Nat.le_of_ble_eq_true rfl) (show st < 2 ^ 4 from few))
  have event : Event t (P.PRT p) E.PRT_I2C_DONE := event_raise _ _ _ (by decide)
  have data : t.get (R.PRT_I2C_DATA_BYTES p) = s.get (R.PRT_I2C_DATA_BYTES p) :=
    (((Within.refl s).set (decide_eq_true (.inl (apart (a := 37) (b := 38) (by decide))))).raise (decide_eq_true (apart (a := 4) (b := 38) (by decide)))).get_eq
  have status2 : Ok.bump (Cap.away (R.PRT_I2C_CMD_STATUS p)) (R.PRT_I2C_ERRS_COUNT p) := decide_eq_true (.inl (apart (a := 39) (b := 37) (by decide)))
  have data2 : Ok.bump (Cap.away (R.PRT_I2C_DATA_BYTES p)) (R.PRT_I2C_ERRS_COUNT p) := decide_eq_true (.inl (apart (a := 39) (b := 38) (by decide)))
  have event2 : Ok.bump (Cap.raising (P.PRT p)) (R.PRT_I2C_ERRS_COUNT p) := decide_eq_true (apart (a := 39) (b := 4) (by decide))
  exact ⟨(Within.ite ((Within.refl t).bump status2) (.refl t)).get_eq.trans status, (Within.ite ((Within.refl t).bump event2) (.refl t)).event event,
    (Within.ite ((Within.refl t).bump data2) (.refl t)).get_eq.trans data⟩

theorem State.i2cEnd_pipe (s : State) (p st : Nat) : (s.i2cEnd p st).pipe = s.pipe := ((Within.refl s).i2cEnd ⟨rfl, rfl, rfl⟩).pipe_eq

theorem State.i2cAsk_queued {x : I2cTx} (acc : Accepts s m (R.PRT_I2C_CMD_STATUS x.port)) (free : (s.busOf (x.port / 4)).stuck = false) (present : s.get (R.PRT_MODULE_PRESENT x.port) = 1) :
    s.i2cAsk m x = (s.set (R.PRT_I2C_CMD_STATUS x.port) 1).runBus (x.port / 4)
      { s.busOf (x.port / 4) with queue := (s.busOf (x.port / 4)).queue ++ [{ x with data := s.get (R.PRT_I2C_DATA_BYTES x.port) }] } := by
  unfold State.i2cAsk
  rw [hostCmd_accepts acc, if_neg (by simp [free]), if_neg (by simp [State.flag_of_get present])]

theorem State.i2cAsk_absent {x : I2cTx} (acc : Accepts s m (R.PRT_I2C_CMD_STATUS x.port)) (free : (s.busOf (x.port / 4)).stuck = false) (absent : s.get (R.PRT_MODULE_PRESENT x.port) = 0) :
    s.i2cAsk m x = s.i2cEnd x.port 4 := by
  unfold State.i2cAsk
  rw [hostCmd_accepts acc, if_neg (by simp [free]), if_pos (by simp [State.flag_of_get_zero absent])]

theorem State.i2cAsk_spec {x : I2cTx} (acc : Accepts s m (R.PRT_I2C_CMD_STATUS x.port)) (free : (s.busOf (x.port / 4)).stuck = false)
    (present : s.get (R.PRT_MODULE_PRESENT x.port) = 1) : (s.i2cAsk m x).get (R.PRT_I2C_CMD_STATUS x.port) = 1 ∧
    ((s.busOf (x.port / 4)).queue = [] → ((s.i2cAsk m x).busOf (x.port / 4)).sel = some x.port) ∧
    ((s.i2cAsk m x).busOf (x.port / 4)).queue = (s.busOf (x.port / 4)).queue ++ [{ x with data := s.get (R.PRT_I2C_DATA_BYTES x.port) }] := by
  rw [State.i2cAsk_queued acc free present, State.runBus_busOf]
  refine ⟨((Within.refl _).runBus rfl).get_eq.trans (State.get_set_fits _ (R.PRT_I2C_CMD_STATUS x.port) (Nat.le_of_ble_eq_true rfl) (show 1 < 2 ^ 4 by decide)), fun idle => ?_, rfl⟩
  simp [free, idle]

theorem exec_restartBus {port : Nat} (low : port < 24) (acc : Accepts s m (R.PRT_I2C_CMD_STATUS port)) :
    exec (.restartBus m port) s = .next ((s.putBus (port / 4) { s.busOf (port / 4) with stuck := false }).i2cEnd port 2) := by
  show execRestartBus m port s = _
  unfold execRestartBus
  rw [withUnit_next low, hostCmd_accepts acc]

/-- The transaction at the head has been on the bus, which goes on to the next. -/
def State.headDone (s : State) (c : Nat) (x : I2cTx) (rest : List I2cTx) : State :=
  (s.emit (.cage c x ((List.range 4).all (fun i => s.flag (R.PRT_I2C_CFG_FAST (4 * c + i)))))).runBus c { s.busOf c with queue := rest }

theorem exec_i2cDone {c data : Nat} {ack : Bool} {x : I2cTx} {rest : List I2cTx} (low : c < 6) (head : (s.busOf c).queue = x :: rest) : exec (.i2cDone c ack data) s =
    .next (if ack then (if x.op = 1 then (s.headDone c x rest).set (R.PRT_I2C_DATA_BYTES x.port) (data % 2 ^ (8 * x.len)) else s.headDone c x rest).i2cEnd x.port 2
      else (s.headDone c x rest).i2cEnd x.port 3) := by
  show execI2cDone c ack data s = _
  unfold execI2cDone
  rw [withUnit_next low]
  simp only [head]
  unfold State.headDone
  generalize State.runBus _ _ _ = u
  simp only [Bool.not_eq_true']
  cases ack with
  | false => exact congrArg _ ((if_pos rfl).trans (if_neg Bool.false_ne_true).symm)
  | true => exact congrArg _ ((if_neg (Ne.symm Bool.false_ne_true)).trans (if_pos rfl).symm)

/-- A bus whose SDA stays low: what waits on it ends. -/
def State.busStuck (s : State) (c : Nat) : State := (s.busOf c).queue.foldl (fun t x => t.i2cEnd x.port 5) (s.runBus c { s.busOf c with queue := [], stuck := true })

theorem exec_i2cStuck {c : Nat} (low : c < 6) (on : s.up (8 + c) = true) :
    exec (.i2cStuck c false) s = .next ((List.range 4).foldl (fun t i => t.raise (P.PRT (4 * c + i)) E.PRT_I2C_STUCK) (s.busStuck c)) := by
  show execI2cStuck c false s = _
  unfold execI2cStuck
  rw [withUnit_next low, if_neg (by simp [on])]
  rfl

theorem State.busStuck_pipe (s : State) (c : Nat) : (s.busStuck c).pipe = (s.runBus c { s.busOf c with queue := [], stuck := true }).pipe :=
  ((Within.refl _).foldl fun _ _ _ h => h.i2cEnd ⟨rfl, rfl, rfl⟩).pipe_eq

/-- Each page of a list has its event raised. -/
theorem foldl_raise_event {l : List Nat} {f : Nat → Nat} {b : Nat} (t : State) {i : Nat} (small : b < 36) (done : i ∈ l ∨ Event t (f i) b) :
    Event (l.foldl (fun t i => t.raise (f i) b) t) (f i) b := by
  induction l generalizing t with
  | nil => exact done.resolve_left List.not_mem_nil
  | cons j l ih =>
    refine ih _ ?_
    rcases done with on | event
    · rcases List.mem_cons.mp on with rfl | on
      · exact .inr (event_raise _ _ _ small)
      · exact .inl on
    · exact .inr (((Within.refl t).raise rfl).event event)

/-! ## Gears (R287) -/

theorem State.setGear_demand (s : State) (c g : Nat) : ((s.setGear c g).coachOf c).demand = (s.coachOf c).demand := by
  unfold State.setGear
  extract_lets old x t
  split
  · rfl
  · unfold State.coachOf
    rw [((((Within.refl (s.putCoach c { x with lowRun := 0 })).set (f := R.CO_GEAR_NOW_GEAR c) (n := g) rfl).raise rfl).bump rfl).pipe_eq]
    have kept := congrArg CoachState.demand (kvGetD_kvPut_same s.pipe.coaches c { x with lowRun := 0 } .init)
    exact kept

/-- A window's demand, taken up. -/
def State.windowDone (s : State) (c run : Nat) : State := s.putCoach c { s.coachOf c with demand := 0, lowRun := run }

/-- The gear's turn at the end of a window, `run` the windows in a row with little demand. -/
def State.gearTurn (s : State) (c : Nat) (low : Bool) (run : Nat) : State :=
  if decide (s.get (R.CO_GEAR_NOW_GEAR c) < min 2 (s.get (R.CO_GEAR_CTRL_MAX c))) &&
      decide (s.get (R.CO_GEAR_CTRL_UP c) * (80 * 2 ^ s.get (R.CO_GEAR_NOW_GEAR c)) < 100 * (s.coachOf c).demand) then (s.windowDone c run).setGear c (s.get (R.CO_GEAR_NOW_GEAR c) + 1)
  else if low ∧ (s.windowDone c run).get (R.CO_GEAR_CTRL_DWELL c) * 1000 ≤ run * 256 then (s.windowDone c run).setGear c (s.get (R.CO_GEAR_NOW_GEAR c) - 1) else s.windowDone c run

theorem exec_gearWindow {c : Nat} (low : c < 6) (on : s.up (8 + c) = true) (running : s.ax.running = true) :
    ∃ little run, exec (.gearWindow c) s = .next ((s.clampGear c).gearTurn c little run) := by
  refine ⟨decide ((s.clampGear c).get (R.CO_GEAR_CTRL_MIN c) < (s.clampGear c).get (R.CO_GEAR_NOW_GEAR c)) &&
    decide (200 * ((s.clampGear c).coachOf c).demand ≤ (s.clampGear c).get (R.CO_GEAR_CTRL_DOWN c) * (80 * 2 ^ (s.clampGear c).get (R.CO_GEAR_NOW_GEAR c))),
    if decide ((s.clampGear c).get (R.CO_GEAR_CTRL_MIN c) < (s.clampGear c).get (R.CO_GEAR_NOW_GEAR c)) &&
    decide (200 * ((s.clampGear c).coachOf c).demand ≤ (s.clampGear c).get (R.CO_GEAR_CTRL_DOWN c) * (80 * 2 ^ (s.clampGear c).get (R.CO_GEAR_NOW_GEAR c))) then ((s.clampGear c).coachOf c).lowRun + 1 else 0, ?_⟩
  show execGearWindow c s = _
  unfold execGearWindow
  rw [withUnit_next low, if_neg (by simp [on, running])]
  rfl

theorem State.windowDone_demand (s : State) (c run : Nat) : ((s.windowDone c run).coachOf c).demand = 0 :=
  congrArg CoachState.demand (kvGetD_kvPut_same s.pipe.coaches c { s.coachOf c with demand := 0, lowRun := run } .init)

theorem State.gearTurn_demand (s : State) (c : Nat) (low : Bool) (run : Nat) : ((s.gearTurn c low run).coachOf c).demand = 0 := by
  unfold State.gearTurn
  split
  · exact (State.setGear_demand ..).trans (s.windowDone_demand c run)
  · split
    · exact (State.setGear_demand ..).trans (s.windowDone_demand c run)
    · exact s.windowDone_demand c run

/-- The gear holds where it lies within its limits. -/
theorem State.clampGear_within {c : Nat} (least : s.get (R.CO_GEAR_CTRL_MIN c) ≤ s.get (R.CO_GEAR_NOW_GEAR c)) (most : s.get (R.CO_GEAR_NOW_GEAR c) ≤ min 2 (s.get (R.CO_GEAR_CTRL_MAX c))) :
    s.clampGear c = s := by
  unfold State.clampGear State.setGear
  exact if_pos (by omega)

theorem State.setGear_spec (s : State) {c g : Nat} (low : c < 6) (few : g < 4) (moved : s.get (R.CO_GEAR_NOW_GEAR c) ≠ g) :
    (s.setGear c g).get (R.CO_GEAR_NOW_GEAR c) = g ∧ Event (s.setGear c g) (P.CO c) E.CO_GEAR := by
  have may : ∀ c < 6, (Ok.raise (Cap.away (R.CO_GEAR_NOW_GEAR c)) (P.CO c) ∧ Ok.bump (Cap.away (R.CO_GEAR_NOW_GEAR c)) (R.CO_GEAR_UPS_COUNT c) ∧
      Ok.bump (Cap.away (R.CO_GEAR_NOW_GEAR c)) (R.CO_GEAR_DOWNS_COUNT c)) ∧ Ok.bump (Cap.raising (P.CO c)) (R.CO_GEAR_UPS_COUNT c) ∧ Ok.bump (Cap.raising (P.CO c)) (R.CO_GEAR_DOWNS_COUNT c) := by decide
  obtain ⟨⟨raise, ups, downs⟩, upsE, downsE⟩ := may c low
  unfold State.setGear
  extract_lets old x t
  rw [if_neg moved]
  exact ⟨(((Within.refl _).raise raise).bump (Ok.ite ups downs)).get_eq.trans (State.get_set_fits _ (R.CO_GEAR_NOW_GEAR c) (Nat.le_of_ble_eq_true rfl) (show g < 2 ^ 2 from few)),
    ((Within.refl _).bump (Ok.ite upsE downsE)).event (event_raise _ _ _ (by decide))⟩

end

/-- Settles O22: a port whose turn has not come staying low, and the release's order, are log entry 29. -/
theorem modulesCageBusAndGears : Obligations.ModulesCageBusAndGears := by
  refine ⟨fun s port low stage turn => ?_, fun s m port rst low opened => ?_, fun s port b low on cage => ⟨fun moved => ?_, fun moved => ?_⟩,
    fun s m port len offset dev low acc free => ⟨fun present => ⟨?_, ?_⟩, fun absent => ?_⟩, fun s m port low acc => ?_, fun s c x rest data low head few => ⟨?_, ?_⟩,
    fun s c low on => ?_, fun s c low on running => ?_⟩
  · exact .intro (exec_moduleResetRelease low stage turn) ⟨bitOn_setBit_same .., rfl, rfl⟩
  · have written : (s.setFlag (R.PRT_MODULE_RST port) rst).get (R.PRT_MODULE_RST port) = if rst then 1 else 0 :=
      State.setFlag_get_same _ (R.PRT_MODULE_RST port) rst (Nat.le_of_ble_eq_true rfl) rfl
    refine .intro (exec_moduleRstWrite low opened) ?_
    split
    next turn => exact ⟨written, fun no => absurd turn (by omega), fun _ => State.setFlag_boot ..⟩
    next turn => exact ⟨written, fun _ => bitOn_setBit_same .., fun no => absurd no turn⟩
  · have may : ∀ p < 24, (Ok.raise (Cap.away (R.PRT_MODULE_PRESENT p)) (P.PRT p) ∧ Ok.i2cEnd (Cap.away (R.PRT_MODULE_PRESENT p)) p) ∧ Ok.i2cEnd (Cap.raising (P.PRT p)) p := by decide
    obtain ⟨⟨raise, gone⟩, goneE⟩ := may port low
    exact .intro (exec_modPresent low on cage moved) ⟨((((Within.refl _).raise raise).trans (Within.goneNomod ⟨rfl, gone⟩)).flag_eq).trans (State.setFlag_flag _ (R.PRT_MODULE_PRESENT port) b (Nat.le_of_ble_eq_true rfl) rfl),
      (Within.goneNomod ⟨rfl, goneE⟩).event (event_raise _ _ _ (by decide))⟩
  · have may : ∀ p < 24, Ok.level (Cap.away (R.PRT_MODULE_INT p)) (P.PRT p) := by decide
    refine .intro (exec_modInt low on cage moved) ⟨((Within.refl _).level (may port low)).flag_eq.trans (State.setFlag_flag _ (R.PRT_MODULE_INT port) b (Nat.le_of_ble_eq_true rfl) rfl), ?_⟩
    rintro rfl
    exact event_level _ (by decide)
  · exact .intro (withUnit_next low) (State.i2cAsk_spec (x := { port := port, op := 1, len := i2cLen len, offset := offset, dev := dev, data := 0 }) acc free present)
  · obtain ⟨status, -, queue⟩ := State.i2cAsk_spec (x := { port := port, op := 2, len := i2cLen len, offset := offset, dev := dev, data := 0 }) acc free present
    exact .intro (withUnit_next low) ⟨status, queue⟩
  · refine .intro ((withUnit_next low).trans (congrArg _ (State.i2cAsk_absent (x := { port := port, op := 1, len := i2cLen len, offset := offset, dev := dev, data := 0 }) acc free absent))) ?_
    obtain ⟨status, event, -⟩ := s.i2cEnd_spec port (st := 4) (by decide)
    exact ⟨status, event, s.i2cEnd_pipe port 4⟩
  · obtain ⟨status, event, -⟩ := (s.putBus (port / 4) { s.busOf (port / 4) with stuck := false }).i2cEnd_spec port (st := 2) (by decide)
    refine .intro (exec_restartBus low acc) ⟨status, ?_, event⟩
    unfold State.busOf
    rw [State.i2cEnd_pipe]
    exact congrArg BusState.stuck (s.putBus_busOf ..)
  · refine .intro (exec_i2cDone low head) ?_
    rw [if_pos rfl]
    generalize hd : s.headDone c x rest = u
    have queue : (u.busOf c).queue = rest := by
      rw [← hd]
      exact congrArg BusState.queue (State.runBus_busOf ..)
    obtain ⟨status, event, data'⟩ := (if x.op = 1 then u.set (R.PRT_I2C_DATA_BYTES x.port) (data % 2 ^ (8 * x.len)) else u).i2cEnd_spec x.port (st := 2) (by decide)
    refine ⟨?_, status, event, fun reads => data'.trans ?_⟩
    · unfold State.busOf at queue ⊢
      rw [State.i2cEnd_pipe, (Within.ite ((Within.refl u).set rfl) (.refl u)).pipe_eq, queue]
    · rw [if_pos reads]
      refine State.get_set_fits _ (R.PRT_I2C_DATA_BYTES x.port) (Nat.le_of_ble_eq_true rfl) ((Nat.mod_lt _ (by positivity)).trans_le ?_)
      exact Nat.pow_le_pow_right (by decide) (show 8 * x.len ≤ 32 by omega)
  · refine .intro (exec_i2cDone low head) ?_
    rw [if_neg (by decide)]
    obtain ⟨status, event, -⟩ := (s.headDone c x rest).i2cEnd_spec x.port (st := 3) (by decide)
    refine ⟨?_, status, event⟩
    unfold State.busOf
    rw [State.i2cEnd_pipe]
    exact congrArg BusState.queue (State.runBus_busOf ..)
  · refine .intro (exec_i2cStuck low on) ⟨?_, fun i port => ?_⟩
    · unfold State.busOf
      rw [((Within.refl _).foldl fun _ _ _ h => h.raise rfl).pipe_eq, State.busStuck_pipe]
      exact State.runBus_busOf ..
    · exact foldl_raise_event (f := fun i => P.PRT (4 * c + i)) _ (by decide) (.inl (List.mem_range.mpr port))
  · obtain ⟨little, run, e⟩ := exec_gearWindow low on running
    refine .intro e ⟨State.gearTurn_demand .., fun least most much => ?_⟩
    rw [State.clampGear_within least most.le]
    unfold State.gearTurn
    rw [if_pos (by simp only [Bool.and_eq_true, decide_eq_true_eq]; exact ⟨most, much⟩)]
    exact State.setGear_spec _ low (by omega) (Nat.ne_of_lt (Nat.lt_succ_self _))

end Sys2Proof.Machine
end

section
/-! PROOFS.
What a reset of islands touches, and what it leaves (spec/03, R62 to R65).
-/
namespace Sys2Proof.Machine
open Sys2Proof

section
variable {C : Cap} {s₀ s : State}

/-! ## The frame of a reset of islands (R62 to R65) -/

theorem Within.resetRegs {p : Nat → Bool} (h : Within C s₀ s) (may : ∀ q, p q = true → C (.page q) = true) : Within C s₀ { s with regs := s.regs.resetPages p } := by
  refine h.trans ⟨fun g _ _ pages => ?_, fun q b _ pages event => ?_, fun part _ => ?_, List.suffix_refl _⟩
  · have stays : p (g.slot / 512) = false := Bool.eq_false_iff.mpr fun on => pages _ (may _ on) rfl
    show g.of ((s.regs.resetPages p).read g.slot) = _
    rw [Store.read_resetPages, stays]
    rfl
  · have stays : p (R.PG_EVT q / 512) = false := Bool.eq_false_iff.mpr fun on => pages _ (may _ on) rfl
    unfold Event State.rd at event ⊢
    rwa [Store.read_resetPages, stays]
  · cases part with
    | brake => exact id
    | calm => exact id
    | _ => rfl

/-- What a reset of islands may touch: all but what AO keeps, NVM, and a brake that is on. -/
abbrev Ok.resetIslands (C : Cap) (mask : Nat) : Prop :=
  (∀ q, pageIn mask q = true → C (.page q) = true) ∧ Ok.resetPart C ∧ (C (.part .shadow) = true ∧ C (.part .staging) = true ∧ C (.part .isl) = true ∧ C (.part .flt) = true ∧ C (.part .gen) = true) ∧
    (Ok.wr C R.SHNT_UNITS ∧ Ok.set C R.SHNT_LANES_LANE ∧ Ok.set C R.GEN_FENCED_ISLANDS) ∧ Ok.showFences C ∧ Ok.healIsland C

theorem Within.resetIslands {mask : Nat} (h : Within C s₀ s) (may : Ok.resetIslands C mask) : Within C s₀ (s.resetIslands mask) := by
  obtain ⟨pages, part, ⟨shadow, staging, isl, flt, gen⟩, ⟨units, lanes, fenced⟩, fences, heal⟩ := may
  unfold State.resetIslands
  extract_lets l p unitsOn lanesOn fencedOn a _ _ _ b c d e f
  have ha : Within C s₀ a := .foldl h fun _ _ _ h => h.resetPart part
  have hb : Within C s₀ b := (((((ha.resetRegs pages).updShadow (x := b.shadow) shadow).updStaging (x := b.staging) staging).updIsl (x := b.isl) isl).updFlt (x := b.flt) flt rfl).updGen (x := b.gen) gen
  have he : Within C s₀ e := ((hb.wr units).set lanes).set fenced
  exact .foldl (.ite (he.showFences fences) he) fun _ _ _ h => h.healIsland heal

theorem Within.resetAll {mask : Nat} (h : Within C s₀ s) (may : Ok.resetIslands C mask) : Within C s₀ (s.resetAll mask) :=
  .ite (h.resetIslands may).resetRecorder (h.resetIslands may)

/-- A page that does not lie in the mask alone keeps its registers. -/
theorem pages_away {mask : Nat} {g : Fld} (outside : pageIn mask (g.slot / 512) = false) (q : Nat) (on : pageIn mask q = true) : Cap.away g (.page q) = true :=
  decide_eq_true fun e => Bool.false_ne_true (outside.symm.trans (e ▸ on))

/-! ## The brake and the fuses through a reset -/

/-- The brake and the fuses of one state in another. -/
abbrev SameBrake (s t : State) : Prop := t.flt.brake = s.flt.brake ∧ t.key.fuses = s.key.fuses

/-- What may be touched while the fault collector and the key store stay the same. -/
def Cap.quiet : Cap := fun x => decide (x ≠ .part .flt ∧ x ≠ .part .key)

theorem Within.sameBrake {t : State} (h : Within Cap.quiet s t) : SameBrake s t :=
  ⟨congrArg FaultPart.brake (h.part .flt rfl), congrArg KeyPart.fuses (h.part .key rfl)⟩

theorem SameBrake.foldl {α : Type} {f : State → α → State} {l : List α} {t : State} (h : SameBrake s t) (keeps : ∀ u x, SameBrake u (f u x)) : SameBrake s (l.foldl f t) :=
  ⟨(foldl_keep f (fun t => t.flt.brake) (fun t x => (keeps t x).1) l t).trans h.1, (foldl_keep f (fun t => t.key.fuses) (fun t x => (keeps t x).2) l t).trans h.2⟩

theorem SameBrake.trans {t u : State} (h : SameBrake s t) (k : SameBrake t u) : SameBrake s u := ⟨k.1.trans h.1, k.2.trans h.2⟩

theorem sameBrake_lineOn (s : State) (l c : Nat) : SameBrake s (s.lineOn l c) := by
  unfold State.lineOn
  split <;> exact ⟨rfl, rfl⟩

theorem sameBrake_resetCoach (s : State) (c : Nat) : SameBrake s (s.resetCoach c) := by
  have unpin (u : State) (k : Carriage) : SameBrake u (u.unpin c k) := by
    unfold State.unpin
    split
    · exact ⟨rfl, rfl⟩
    · cases k.key <;> cases k.cookKey <;> exact ⟨rfl, rfl⟩
  unfold State.resetCoach
  extract_lets t _
  have before : SameBrake s (s.abortInput c) := ((Within.refl s).abortInput (by decide)).sameBrake
  exact SameBrake.trans (t := t) (before.foldl unpin) ⟨rfl, rfl⟩

theorem sameBrake_resetPart (s : State) (i : Nat) : SameBrake s (s.resetPart i) := by
  unfold State.resetPart
  split
  · exact ⟨rfl, rfl⟩
  split
  · exact (((Within.refl s).putImg (k := i - 2) (i := .init) (by decide)).updCores (by decide)).sameBrake
  split
  · exact (((Within.refl s).showCore (d := 0) (by decide)).updMarksTri (by decide) (by decide)).sameBrake
  split
  · refine SameBrake.trans (t := if s.osc.lockedEver then s.lineOn 23 1 else s) ?_ ⟨rfl, rfl⟩
    split
    exacts [sameBrake_lineOn s 23 1, ⟨rfl, rfl⟩]
  split
  · exact ⟨rfl, rfl⟩
  split
  · exact sameBrake_resetCoach ..
  split
  · exact ⟨rfl, rfl⟩
  split <;> exact ⟨rfl, rfl⟩

theorem sameBrake_showFences (s : State) : SameBrake s s.showFences := by
  unfold State.showFences State.lineSet
  extract_lets on t
  have before : SameBrake s t := (Within.ite (.refl s) ((Within.refl s).level (by decide))).sameBrake
  split
  · exact before.trans (sameBrake_lineOn ..)
  · exact before

theorem sameBrake_healIsland (s : State) (i : Nat) : SameBrake s (s.healIsland i) := by
  unfold State.healIsland State.healLinks
  extract_lets _ touched marks healed whole t keep
  refine SameBrake.trans (t := t) (SameBrake.foldl ⟨rfl, rfl⟩ fun u x => ⟨rfl, rfl⟩) ?_
  exact (((Within.refl t).updIsl (by decide)).showBroken (by decide)).sameBrake

theorem sameBrake_resetAll (s : State) (mask : Nat) : SameBrake s (s.resetAll mask) := by
  have islands : SameBrake s (s.resetIslands mask) := by
    unfold State.resetIslands
    extract_lets l p units lanes fenced a _ _ _ b c d e f
    have ha : SameBrake s a := SameBrake.foldl ⟨rfl, rfl⟩ sameBrake_resetPart
    have he : SameBrake s e := ha.trans (SameBrake.trans (t := b) ⟨rfl, rfl⟩ ((((Within.refl b).wr (by decide)).set (by decide)).set (by decide)).sameBrake)
    refine SameBrake.foldl ?_ sameBrake_healIsland
    show SameBrake s (if _ then _ else _)
    split
    exacts [he.trans (sameBrake_showFences e), he]
  unfold State.resetAll
  split
  exacts [islands.trans (Within.refl _).resetRecorder.sameBrake, islands]

end

end Sys2Proof.Machine
end

section
/-! PROOFS.
The pins, resets and the endpoint (spec/03, R62, R63; spec/21, R475, R477).
-/
namespace Sys2Proof.Machine
open Sys2Proof

section
variable {s : State}

/-! ## RESET_N (R62, R63) -/

theorem exec_resetNAssert (high : s.boot.resetLow = false) (started : s.boot.pos ≠ .off) (running : s.boot.pos ≠ .ao) : exec .resetNAssert s = .next s.resetN := by
  show execResetNAssert s = _
  unfold execResetNAssert
  rw [if_neg (by simp [high]), if_neg (by simp [started, running])]

/-- What AO's pages show after a reset does not lie in the islands, the keys or the faults. -/
theorem State.aoReset_parts (s : State) : s.aoReset.isl = s.isl ∧ s.aoReset.key = s.key := by
  have pages {α : Type} (f : State → α) (wr : ∀ (u : State) a v, f (u.wr a v) = f u) (t : State) (l : List Nat) :
      f (l.foldl (fun (u : State) p => (u.wr (R.PG_EVT_NOW p) (s.rd (R.PG_EVT_NOW p))).wr (R.PG_EVT p) (s.rd (R.PG_EVT_NOW p))) t) = f t :=
    foldl_keep (fun (u : State) p => (u.wr (R.PG_EVT_NOW p) (s.rd (R.PG_EVT_NOW p))).wr (R.PG_EVT p) (s.rd (R.PG_EVT_NOW p))) f (fun _ _ => (wr ..).trans (wr ..)) l t
  have kept {α : Type} (f : State → α) (wr : ∀ (u : State) a v, f (u.wr a v) = f u) (t : State) (l : List Nat) : f (l.foldl (fun (u : State) a => u.wr a (s.rd a)) t) = f t :=
    foldl_keep (fun (u : State) a => u.wr a (s.rd a)) f (fun _ _ => wr ..) l t
  unfold State.aoReset
  exact ⟨(pages State.isl (fun _ _ _ => rfl) ..).trans (kept State.isl (fun _ _ _ => rfl) ..), (pages State.key (fun _ _ _ => rfl) ..).trans (kept State.key (fun _ _ _ => rfl) ..)⟩

/-- The records are flushed and the brake acts, before the islands enter reset. -/
def State.resetBrake (s : State) : State := (if s.nvm.saving.isSome then s else s.flushRecords).brakeOn .resetN

theorem Within.resetBrake {C : Cap} (may : Ok.flushRecords C ∧ Ok.brakeOn C .resetN) : Within C s s.resetBrake := (Within.ite (.refl s) ((Within.refl s).flushRecords may.1)).brakeOn may.2

/-- What AO shows of the reset's cause (R62). -/
def State.showCause (s : State) : State :=
  (((((s.set R.BOOT_CAUSE_POR 0).set R.BOOT_CAUSE_RESET_N 1).set R.BOOT_CAUSE_FABRIC 0).set R.BOOT_CAUSE_KEYS_SUPPRESSED 0).lineOff 34 1).retained.refreshFaults

theorem State.resetN_eq (s : State) : s.resetN = (((s.resetBrake.resetAll 0xFFFE).aoReset).aoParts).showCause := rfl

/-- The cause is shown in AO alone. -/
theorem State.showCause_keeps (s : State) : s.showCause.boot = s.boot ∧ s.showCause.isl = s.isl ∧ s.showCause.key = s.key ∧ s.showCause.flt.brake = s.flt.brake ∧
    s.showCause.rd R.FLT_LATCH = s.rd R.FLT_LATCH ∧ s.showCause.get R.BOOT_CAUSE_RESET_N = 1 := by
  have after {C : Cap} (may : Ok.lineOff C ∧ Ok.retained C ∧ Ok.refreshFaults C) (t : State) : Within C t ((t.lineOff 34 1).retained.refreshFaults) :=
    (((Within.refl t).lineOff may.1).retained may.2.1).refreshFaults may.2.2
  have causes {C : Cap} (may : Ok.set C R.BOOT_CAUSE_POR ∧ Ok.set C R.BOOT_CAUSE_RESET_N ∧ Ok.set C R.BOOT_CAUSE_FABRIC ∧ Ok.set C R.BOOT_CAUSE_KEYS_SUPPRESSED) :
      Within C s ((((s.set R.BOOT_CAUSE_POR 0).set R.BOOT_CAUSE_RESET_N 1).set R.BOOT_CAUSE_FABRIC 0).set R.BOOT_CAUSE_KEYS_SUPPRESSED 0) :=
    ((((Within.refl s).set may.1).set may.2.1).set may.2.2.1).set may.2.2.2
  refine ⟨((causes (by decide)).trans (after (by decide) _)).boot_eq, ((causes (by decide)).trans (after (by decide) _)).isl_eq, ((causes (by decide)).trans (after (by decide) _)).key_eq, ?_,
    ((causes (by decide)).trans (after (by decide) _)).rd_eq, ?_⟩
  · have quiet (t : State) : ((t.lineOff 34 1).retained.refreshFaults).flt.brake = t.flt.brake :=
      (congrArg FaultPart.brake (((Within.refl (t.lineOff 34 1)).retained (by decide)).refreshFaults (by decide)).flt_eq).trans rfl
    exact (quiet _).trans (congrArg FaultPart.brake (causes (by decide)).flt_eq)
  · exact ((((Within.refl _).set (by decide)).set (by decide)).trans (after (by decide) _)).get_eq.trans (State.get_set_fits _ _ (by decide) (by decide))

theorem bitOn_islands {i : Nat} (least : 1 ≤ i) (most : i ≤ 15) : bitOn 0xFFFE i = true := by
  have all : ∀ i < 16, 1 ≤ i → bitOn 0xFFFE i = true := by decide
  exact all i (by omega) least

/-- The islands' reset under RESET_N keeps the latch and the fuses. -/
theorem State.resetN_islands (s : State) : (s.resetAll 0xFFFE).rd R.FLT_LATCH = s.rd R.FLT_LATCH ∧ (s.resetAll 0xFFFE).key.fuses = s.key.fuses ∧
    ∀ i, 1 ≤ i → i ≤ 15 → (s.resetAll 0xFFFE).up i = false := by
  have ao : Within (Cap.away (whole R.FLT_LATCH)) s (s.resetAll 0xFFFE) := (Within.refl _).resetAll ⟨pages_away (by decide), by decide⟩
  refine ⟨ao.rd_eq, (sameBrake_resetAll s 0xFFFE).2, fun i least most => ?_⟩
  rw [resetAll_up, bitOn_islands least most, Bool.not_true, Bool.and_false]

/-- What AO does after the islands' reset keeps what they have become. -/
theorem State.resetN_ao (r : State) : r.aoReset.aoParts.showCause.boot.pos = .ao ∧ r.aoReset.aoParts.showCause.boot.resetLow = true ∧ r.aoReset.aoParts.showCause.flt.brake = .resetN ∧
    r.aoReset.aoParts.showCause.get R.BOOT_CAUSE_RESET_N = 1 ∧ r.aoReset.aoParts.showCause.rd R.FLT_LATCH = r.rd R.FLT_LATCH ∧
    r.aoReset.aoParts.showCause.key.fuses = r.key.fuses ∧ r.aoReset.aoParts.showCause.isl = r.isl := by
  obtain ⟨isl', key'⟩ := r.aoReset_parts
  have latch' := aoReset_rd_kept r R.FLT_LATCH (by decide)
  generalize r.aoReset = q at isl' key' latch'
  obtain ⟨boot, isl, key, brake, latch, cause⟩ := q.aoParts.showCause_keeps
  exact ⟨congrArg BootPart.pos boot, congrArg BootPart.resetLow boot, brake, cause, latch.trans latch', congrArg KeyPart.fuses (key.trans key'), isl.trans isl'⟩

/-- A RESET_N reset keeps the latch and the fuses, and resets every island but AO. -/
theorem State.resetN_spec (s : State) : s.resetN.boot.pos = .ao ∧ s.resetN.boot.resetLow = true ∧ s.resetN.flt.brake = .resetN ∧ s.resetN.get R.BOOT_CAUSE_RESET_N = 1 ∧
    s.resetN.rd R.FLT_LATCH = s.rd R.FLT_LATCH ∧ s.resetN.key.fuses = s.key.fuses ∧ ∀ i, 1 ≤ i → i ≤ 15 → s.resetN.up i = false := by
  obtain ⟨latched, fused, down⟩ := s.resetBrake.resetN_islands
  obtain ⟨pos, low, brake, cause, latch, fuses, isl⟩ := (s.resetBrake.resetAll 0xFFFE).resetN_ao
  rw [State.resetN_eq]
  refine ⟨pos, low, brake, cause, latch.trans (latched.trans (Within.resetBrake (by decide)).rd_eq), fuses.trans (fused.trans (congrArg KeyPart.fuses (Within.resetBrake (by decide)).key_eq)), fun i least most => ?_⟩
  have reset := down i least most
  unfold State.up at reset ⊢
  rwa [isl]

/-! ## The endpoint (R57, R475, R477) -/

/-- What of the endpoint is reset with PERST_N (R477). -/
def State.endpointDown (s : State) : State := (((s.stopRings (fun _ => true)).resetMsix 0).resetMsix 1).linkGone

theorem exec_perstAssert (high : s.boot.perstLow = false) (up : s.up islMGT = true) {t : State}
    (down : State.endpointDown { s with boot := { s.boot with perstLow := true, pcieReady := false } } = t) :
    exec .perstAssert s = .next { t with regs := t.regs.resetPages (fun p => decide (p = P.DMA)) } := by
  have runs : ¬(!State.up { s with boot := { s.boot with perstLow := true, pcieReady := false } } islMGT) = true := by
    show ¬(!s.up islMGT) = true
    simp [up]
  subst down
  show execPerstAssert s = _
  unfold execPerstAssert
  rw [if_neg (by simp [high])]
  exact congrArg _ (if_neg runs)

theorem exec_pcieConfigRequest {pf : Nat} {ready : Bool} (low : pf < 2) (high : s.boot.perstLow = false) (up : s.up islMGT = true) :
    exec (.pcieConfigRequest pf ready none) s = .next (State.emit { s with boot := { s.boot with pcieReady := ready || s.boot.pcieReady } } (.pcieConfig pf (!(ready || s.boot.pcieReady)))) := by
  show execPcieConfigRequest pf ready none s = _
  unfold execPcieConfigRequest
  rw [withUnit_next low, if_neg (by simp [high, up])]

theorem exec_flr {pf : Nat} (low : pf < 2) (serves : s.mgtServes = true) (high : s.boot.perstLow = false) (ready : s.boot.pcieReady = true) : exec (.flr pf) s =
    .next ((((s.stopRings (fun q => decide (s.get (R.DMA_CFG_PF q) = pf))).resetMsix pf).bump (if pf = 1 then R.PCI_FLRS_PF1 else R.PCI_FLRS_PF0)).raise P.PCI E.PCI_FLR) := by
  show execFlr pf s = _
  unfold execFlr
  rw [withUnit_next low, if_neg (by simp [serves, high, ready])]

theorem exec_pcieLinkLost {corr uncorr : Nat} (up : s.up islMGT = true) (link : s.flag R.PCI_LINK_UP = true) :
    exec (.pcieLinkLost corr uncorr) s = .next ((((s.pcieErrors corr uncorr).linkGone.bump R.PCI_LINK_DOWNS_COUNT).stopRings (fun _ => true)).pulse 28) := by
  show execPcieLinkLost corr uncorr s = _
  unfold execPcieLinkLost
  rw [if_neg (by simp [up, link])]

theorem exec_pcieLinkUp {width speed : Nat} (up : s.up islMGT = true) (high : s.boot.perstLow = false) (link : s.flag R.PCI_LINK_UP = false) : exec (.pcieLinkUp width speed) s =
    .next ((((((s.set R.PCI_LINK_WIDTH width).set R.PCI_LINK_SPEED speed).set R.PCI_LINK_UP 1).raise P.PCI E.PCI_LINK).level P.PCI E.PCI_UP true)) := by
  show execPcieLinkUp width speed s = _
  unfold execPcieLinkUp
  rw [if_neg (by simp [up, high, link])]

/-- The link gone shows UP 0. -/
theorem State.linkGone_up (s : State) : s.linkGone.get R.PCI_LINK_UP = 0 := by
  unfold State.linkGone
  split
  · refine (((Within.refl _).raise (by decide)).level (by decide)).get_eq.trans ?_
    unfold State.get
    rw [State.rd_wr_same]
    decide
  next off =>
    have small : s.get R.PCI_LINK_UP < 2 := Nat.mod_lt _ (by decide)
    have notOne : s.get R.PCI_LINK_UP ≠ 1 := fun one => off (State.flag_of_get one)
    omega

/-- The uncorrectable errors counted, with their event. -/
theorem State.pcieErrors_spec (s : State) (corr uncorr : Nat) : (s.pcieErrors corr uncorr).get R.PCI_ERR_UNCORR_COUNT = min (s.get R.PCI_ERR_UNCORR_COUNT + uncorr) (2 ^ R.PCI_ERR_UNCORR_COUNT.w - 1) ∧
    (0 < uncorr → Event (s.pcieErrors corr uncorr) P.PCI E.PCI_ERR) := by
  unfold State.pcieErrors
  refine ⟨?_, fun some_ => ?_⟩
  · rw [((Within.refl _).raiseIf (by decide)).get_eq, State.bumpBy_get_same _ _ _ (by decide), ((Within.refl _).bumpBy (by decide)).get_eq]
  · rw [State.raiseIf, if_pos (decide_eq_true some_)]
    exact event_raise _ _ _ (by decide)

end

/-- Settles O3: PCIe errors that PCIE_LINK_LOST counts by its operand are log entry 30. -/
theorem resetPinsAndEndpoint : Obligations.ResetPinsAndEndpoint := by
  refine ⟨fun s high started running => .intro (exec_resetNAssert high started running) s.resetN_spec, fun s => .intro rfl rfl, fun s high up => ?_, fun s => .intro rfl rfl,
    fun s pf low high up notReady => ⟨?_, ?_⟩, fun s pf low serves high ready => ?_, fun s corr uncorr up link => ?_, fun s width speed up high link wide fast => ?_⟩
  · generalize down : State.endpointDown { s with boot := { s.boot with perstLow := true, pcieReady := false } } = t
    have boot : t.boot = { s.boot with perstLow := true, pcieReady := false } := by
      rw [← down]
      exact (((Within.refl _).stopRings (by decide)).trans (.linkGone (.resetMsix (.resetMsix (.refl _))) (by decide))).boot_eq
    refine .intro (exec_perstAssert high up down) ⟨congrArg BootPart.perstLow boot, congrArg BootPart.pcieReady boot, fun a dma => ?_⟩
    exact (Store.read_resetPages t.regs (fun p => decide (p = P.DMA)) a).trans (if_pos (decide_eq_true dma))
  · refine .intro (exec_pcieConfigRequest low high up) ?_
    show s.emit (.pcieConfig pf (!(false || s.boot.pcieReady))) = _
    rw [notReady]
    rfl
  · exact .intro (exec_pcieConfigRequest low high up) ⟨rfl, rfl, rfl⟩
  · have only : pf = 0 ∨ pf = 1 := by omega
    refine .intro (exec_flr low serves high ready) ⟨event_raise _ _ _ (by decide), ?_⟩
    obtain rfl | rfl := only
    · rw [((Within.refl _).raise (by decide)).get_eq, State.bump_get_same _ _ (by decide), (((Within.refl s).stopRings (by decide)).resetMsix).get_eq]
      rfl
    · rw [((Within.refl _).raise (by decide)).get_eq, State.bump_get_same _ _ (by decide), (((Within.refl s).stopRings (by decide)).resetMsix).get_eq]
      rfl
  · obtain ⟨counted, event⟩ := s.pcieErrors_spec corr uncorr
    refine .intro (exec_pcieLinkLost up link) ⟨?_, ?_, fun some_ => ?_, ?_, State.lineOn_causes .., fun q low => ?_⟩
    · rw [(((Within.refl _).stopRings (by decide)).pulse (by decide)).get_eq, State.bump_get_same _ _ (by decide), (((Within.refl s).pcieErrors (by decide)).linkGone (by decide)).get_eq]
    · exact (((((Within.refl _).linkGone (by decide)).bump (by decide)).stopRings (by decide)).pulse (by decide)).get_eq.trans counted
    · exact (((((Within.refl _).linkGone (by decide)).bump (by decide)).stopRings (by decide)).pulse (by decide)).event (event some_)
    · exact ((((Within.refl _).bump (by decide)).stopRings (by decide)).pulse (by decide)).get_eq.trans (State.linkGone_up _)
    · have stopped := stopRings_ringOn ((s.pcieErrors corr uncorr).linkGone.bump R.PCI_LINK_DOWNS_COUNT) (fun _ => true) q low
      exact (State.flag_congr (State.pulse_regs _ _) _).trans (stopped.trans (Bool.and_false _))
  · refine .intro (exec_pcieLinkUp up high link) ⟨?_, ?_, ?_, ?_⟩
    · exact (((Within.refl _).raise (by decide)).level (by decide)).get_eq.trans (State.get_set_fits _ _ (by decide) (by decide))
    · exact (((((Within.refl _).set (by decide)).set (by decide)).raise (by decide)).level (by decide)).get_eq.trans (State.get_set_fits _ _ (by decide) wide)
    · exact ((((Within.refl _).set (by decide)).raise (by decide)).level (by decide)).get_eq.trans (State.get_set_fits _ _ (by decide) fast)
    · exact ((Within.refl _).level (by decide)).event (event_raise _ _ _ (by decide))

end Sys2Proof.Machine
end

section
/-! PROOFS.
The power-fail sequence (spec/03, R74 to R76, R511).
-/
namespace Sys2Proof.Machine
open Sys2Proof

section
variable {s : State}

/-! ## The save (R68, R74) -/

theorem putRing_saving (s : State) (a : NvArea) (r : NvRing) : (s.putRing a r).nvm.saving = s.nvm.saving := by
  rw [putRing_nvm]
  cases a <;> rfl

theorem roomFor_saving (s : State) (a : NvArea) (n : Nat) : (s.roomFor a n).nvm.saving = s.nvm.saving := by
  unfold State.roomFor
  extract_lets r k k' t
  split
  · rfl
  · rw [putRing_saving]
    show (if _ then _ else _ : State).nvm.saving = _
    split
    · unfold State.eraseAreaSector
      rw [wearErase_wear]
      exact putRing_saving ..
    · rfl

theorem putRec_saving (s : State) (a : NvArea) (ty : Nat) (p : List Word) (st : RecState) (n : Nat) : (s.putRec a ty p st n).nvm.saving = s.nvm.saving := by
  unfold State.putRec
  dsimp only
  rw [putRing_saving, roomFor_saving]

theorem writeFail_saving (s : State) (a : NvArea) (ty : Nat) (p : List Word) (n : Nat) : (s.writeFail a ty p n).nvm.saving = s.nvm.saving := by
  unfold State.writeFail
  rw [State.pulse_nvm, State.raise_nvm, State.bump_nvm, putRec_saving]

/-- A record that is written leaves the save that waits. -/
theorem nvPut_saving (s : State) (a : NvArea) (ty : Nat) (p : List Word) (n : Nat) : (s.nvPut a ty p n).nvm.saving = s.nvm.saving := by
  have written (u : State) : ((u.putRec a ty p .committed n).bump R.NVM_RECORDS_COUNT).nvm.saving = u.nvm.saving := by rw [State.bump_nvm, putRec_saving]
  refine (written _).trans ?_
  split
  · show (if _ then _ else _ : State).nvm.saving = _
    split
    exacts [rfl, writeFail_saving ..]
  · rfl

/-- What a later write leaves: the save that waits, and the records of the save's area. -/
abbrev SameSave (s t : State) : Prop := t.nvm.saving = s.nvm.saving ∧ t.ringOf .startSave = s.ringOf .startSave

theorem sameSave_journal (s : State) (ty : Nat) (p : List Word) : SameSave s (s.nvPut .journal ty p) :=
  ⟨nvPut_saving .., ringOf_nvPut_other _ _ _ _ _ _ (by decide)⟩

theorem sameSave_journals (s : State) (l : List (List Word)) : SameSave s (l.foldl (fun (t : State) b => t.nvPut .journal 0x20 b) s) :=
  ⟨foldl_keep (fun (t : State) b => t.nvPut .journal 0x20 b) (fun t => t.nvm.saving) (fun t b => (sameSave_journal t 0x20 b).1) l s,
    foldl_keep (fun (t : State) b => t.nvPut .journal 0x20 b) (fun t => t.ringOf .startSave) (fun t b => (sameSave_journal t 0x20 b).2) l s⟩

theorem sameSave_flushDone (s : State) (l : List (List Word)) : SameSave s (s.flushDone l) := by
  have journal := sameSave_journals s l
  unfold State.flushDone
  extract_lets done t
  clear_value done
  split
  · exact journal
  · refine ⟨(congrArg NvmPart.saving ?_).trans journal.1, (ringOf_congr ?_ _).trans journal.2⟩
    · exact (((Within.refl t).updErec.bumpBy (by decide)).showJournal (by decide)).nvm_eq
    · exact (((Within.refl t).updErec.bumpBy (by decide)).showJournal (by decide)).nvm_eq

theorem nvPut_newest_payload (s : State) (a : NvArea) (ty : Nat) (p : List Word) (types : List Nat) (n : Nat) (h : types.contains ty = true) :
    ((s.nvPut a ty p n).newest a types).map (fun r => r.payload) = some p := by
  have put := congrArg (Option.map Prod.snd) (nvPut_newest s a ty p types n h)
  rwa [Option.map_map] at put

/-- The save's record is written. -/
def State.saved (s : State) (p : List Word) : State := State.nvPut { s with nvm := { s.nvm with saving := none, savingBatches := [] } } .startSave 0x31 p

theorem State.saveDone_eq {p : List Word} (saving : s.nvm.saving = some p) :
    s.saveDone = if (s.saved p).up islMGT then (s.saved p).flushDone s.nvm.savingBatches else s.nvm.savingBatches.foldl (fun (t : State) b => t.nvPut .journal 0x20 b) (s.saved p) := by
  unfold State.saveDone
  rw [saving]
  rfl

theorem State.saveDone_spec {p : List Word} (saving : s.nvm.saving = some p) : s.saveDone.nvm.saving = none ∧ (s.saveDone.newest .startSave [0x31]).map (fun r => r.payload) = some p := by
  have cleared : (s.saved p).nvm.saving = none := nvPut_saving ..
  have newest : ((s.saved p).newest .startSave [0x31]).map (fun r => r.payload) = some p := nvPut_newest_payload _ .startSave 0x31 p [0x31] _ rfl
  have after {u : State} (same : SameSave (s.saved p) u) : u.nvm.saving = none ∧ (u.newest .startSave [0x31]).map (fun r => r.payload) = some p := by
    refine ⟨same.1.trans cleared, ?_⟩
    unfold State.newest State.committed at newest ⊢
    rwa [same.2]
  rw [State.saveDone_eq saving]
  split
  · exact after (sameSave_flushDone ..)
  · exact after (sameSave_journals ..)

theorem State.saveDone_saving (s : State) : s.saveDone.nvm.saving = none := by
  cases saving : s.nvm.saving with
  | some p => exact (State.saveDone_spec saving).1
  | none =>
    unfold State.saveDone
    rw [saving]
    exact saving

/-! ## The warning and the shutdown (R74) -/

/-- The warning as it shows: the supply's state, the record that was being written, and NVM held. -/
def State.warn (s : State) (mv : Nat) (w : Option NvWrite) : State :=
  (match w with
    | some w => ((((s.set R.PWR_VIN_MV (min mv 65535)).set R.PWR_STAT_PFW 1).set R.PWR_STAT_VIN_GOOD 0).raise P.PWR E.PWR_PFW).endWriting w
    | none => (((s.set R.PWR_VIN_MV (min mv 65535)).set R.PWR_STAT_PFW 1).set R.PWR_STAT_VIN_GOOD 0).raise P.PWR E.PWR_PFW).set R.NVM_STATUS_PFW_HOLD 1

/-- The save begins. -/
def State.startSave (s : State) (tick : Nat) : State :=
  { s with boot := { s.boot with pf := .warned }, nvm := { s.nvm with saving := some (s.pfPayload (s.instAt tick)), savingBatches := s.flushPayloads } }

theorem exec_powerFailWarning {tick mv : Nat} {w : Option NvWrite} (on : s.boot.pos ≠ .off) (good : s.boot.pf = .none) : exec (.powerFailWarning tick mv w) s =
    .next (if (s.warn mv w).flag R.PWR_STAT_HOLDUP_RDY then (s.warn mv w).startSave tick else (s.warn mv w).shutdown tick) := by
  show execPowerFailWarning tick mv w s = _
  unfold execPowerFailWarning
  rw [if_neg (by simp [on, good])]
  rfl

theorem Within.warn {C : Cap} {mv : Nat} {w : Option NvWrite} (may : (Ok.set C R.PWR_VIN_MV ∧ Ok.set C R.PWR_STAT_PFW ∧ Ok.set C R.PWR_STAT_VIN_GOOD ∧ Ok.raise C P.PWR) ∧ Ok.endWriting C ∧ Ok.set C R.NVM_STATUS_PFW_HOLD) :
    Within C s (s.warn mv w) := by
  obtain ⟨⟨vin, pfw, good, raise⟩, writing, hold⟩ := may
  have shown : Within C s ((((s.set R.PWR_VIN_MV (min mv 65535)).set R.PWR_STAT_PFW 1).set R.PWR_STAT_VIN_GOOD 0).raise P.PWR E.PWR_PFW) := ((((Within.refl s).set vin).set pfw).set good).raise raise
  unfold State.warn
  cases w with
  | none => exact shown.set hold
  | some w => exact (shown.endWriting writing).set hold

theorem State.warn_spec (s : State) (mv : Nat) (w : Option NvWrite) : (s.warn mv w).get R.PWR_STAT_PFW = 1 ∧ (s.warn mv w).get R.NVM_STATUS_PFW_HOLD = 1 ∧ Event (s.warn mv w) P.PWR E.PWR_PFW := by
  have pfw : ((((s.set R.PWR_VIN_MV (min mv 65535)).set R.PWR_STAT_PFW 1).set R.PWR_STAT_VIN_GOOD 0).raise P.PWR E.PWR_PFW).get R.PWR_STAT_PFW = 1 :=
    (((Within.refl _).set (by decide)).raise (by decide)).get_eq.trans (State.get_set_fits _ _ (by decide) (by decide))
  have event : Event ((((s.set R.PWR_VIN_MV (min mv 65535)).set R.PWR_STAT_PFW 1).set R.PWR_STAT_VIN_GOOD 0).raise P.PWR E.PWR_PFW) P.PWR E.PWR_PFW := event_raise _ _ _ (by decide)
  have held (t : State) : (t.set R.NVM_STATUS_PFW_HOLD 1).get R.NVM_STATUS_PFW_HOLD = 1 := State.get_set_fits _ _ (by decide) (by decide)
  unfold State.warn
  cases w with
  | none => exact ⟨((Within.refl _).set (by decide)).get_eq.trans pfw, held _, ((Within.refl _).set (by decide)).event event⟩
  | some w => exact ⟨(((Within.refl _).endWriting (by decide)).set (by decide)).get_eq.trans pfw, held _, (((Within.refl _).endWriting (by decide)).set (by decide)).event event⟩

/-- The words of the save do not depend on how the warning shows (R74). -/
theorem State.warn_payload (s : State) (mv tick : Nat) : (s.warn mv none).pfPayload ((s.warn mv none).instAt tick) = s.pfPayload (s.instAt tick) := by
  have shown {C : Cap} (may : (Ok.set C R.PWR_VIN_MV ∧ Ok.set C R.PWR_STAT_PFW ∧ Ok.set C R.PWR_STAT_VIN_GOOD ∧ Ok.raise C P.PWR) ∧ Ok.set C R.NVM_STATUS_PFW_HOLD) : Within C s (s.warn mv none) :=
    (((((Within.refl s).set may.1.1).set may.1.2.1).set may.1.2.2.1).raise may.1.2.2.2).set may.2
  unfold State.pfPayload
  rw [State.instAt_congr (shown (by decide)).ax_eq (congrArg IslandPart.inReset (shown (by decide)).isl_eq), (shown (by decide)).rd_eq, (shown (by decide)).rd_eq, (shown (by decide)).rd_eq, (shown (by decide)).rd_eq,
    (shown (by decide)).rd_eq, (shown (by decide)).rd_eq, (shown (by decide)).rd_eq, (shown (by decide)).rd_eq]

theorem State.shutdown_pf (s : State) (tick : Nat) : (s.shutdown tick).boot.pf = .down := by
  unfold State.shutdown
  extract_lets _ _ _ _ r _
  clear_value r
  exact congrArg BootPart.pf ((Within.refl _).refreshFaults (by decide)).boot_eq

theorem State.shutdown_brake (s : State) (tick : Nat) : (s.shutdown tick).flt.brake = .shutdown := by
  unfold State.shutdown
  extract_lets _ _ _ t r _
  have made : r = (t.brakeOn .shutdown).resetAll 0xFFFE := rfl
  have brake := (sameBrake_resetAll (t.brakeOn .shutdown) 0xFFFE).1.trans (congrArg FaultPart.brake (t.brakeOn_flt .shutdown))
  rw [← made] at brake
  clear_value r
  rwa [(((Within.refl r).updBoot (by decide)).refreshFaults (by decide)).flt_eq]

theorem State.shutdown_up (s : State) (tick : Nat) {i : Nat} (least : 1 ≤ i) (most : i ≤ 15) : (s.shutdown tick).up i = false := by
  unfold State.shutdown
  extract_lets _ _ _ t r _
  have down : r.up i = false := (t.brakeOn .shutdown).resetN_islands.2.2 i least most
  clear_value r
  unfold State.up at down ⊢
  rwa [(((Within.refl r).updBoot (by decide)).refreshFaults (by decide)).isl_eq]

theorem State.shutdown_spec (s : State) (tick : Nat) : (s.shutdown tick).boot.pf = .down ∧ (s.shutdown tick).flt.brake = .shutdown ∧ ∀ i, 1 ≤ i → i ≤ 15 → (s.shutdown tick).up i = false :=
  ⟨s.shutdown_pf tick, s.shutdown_brake tick, fun _ => s.shutdown_up tick⟩

theorem exec_pfShutdown {tick : Nat} (warned : s.boot.pf = .warned) : exec (.pfShutdown tick) s = .next (s.shutdown tick) := congrArg _ (if_pos warned)

/-! ## VIN's return (R75, R511) -/

/-- The save is complete and the RIDE record follows. -/
def State.rideRec (s : State) : State := s.saveDone.nvPut .startSave 0x33 []

/-- What a ride-through shows. -/
def State.rode (s : State) (least mv : Nat) : State :=
  ((((((s.bump R.PWR_RIDE_COUNT_COUNT).set R.PWR_RIDE_MIN_MV (min least 65535)).raise P.PWR E.PWR_PFW_RIDE).set R.PWR_VIN_MV (min mv 65535)).set R.PWR_STAT_PFW 0).set R.PWR_STAT_VIN_GOOD 1).set
    R.NVM_STATUS_PFW_HOLD 0

theorem State.rode_spec (s : State) {least mv : Nat} (few : least < 65536) (small : mv < 65536) : (s.rode least mv).nvm = s.nvm ∧
    (s.rode least mv).get R.PWR_RIDE_COUNT_COUNT = min (s.get R.PWR_RIDE_COUNT_COUNT + 1) (2 ^ R.PWR_RIDE_COUNT_COUNT.w - 1) ∧ (s.rode least mv).get R.PWR_RIDE_MIN_MV = least ∧
    Event (s.rode least mv) P.PWR E.PWR_PFW_RIDE ∧ (s.rode least mv).get R.PWR_VIN_MV = mv ∧ (s.rode least mv).get R.PWR_STAT_PFW = 0 ∧ (s.rode least mv).get R.PWR_STAT_VIN_GOOD = 1 ∧
    (s.rode least mv).get R.NVM_STATUS_PFW_HOLD = 0 := by
  have after {C : Cap} (may : Ok.set C R.PWR_VIN_MV ∧ Ok.set C R.PWR_STAT_PFW ∧ Ok.set C R.PWR_STAT_VIN_GOOD ∧ Ok.set C R.NVM_STATUS_PFW_HOLD) (t : State) :
      Within C t ((((t.set R.PWR_VIN_MV (min mv 65535)).set R.PWR_STAT_PFW 0).set R.PWR_STAT_VIN_GOOD 1).set R.NVM_STATUS_PFW_HOLD 0) :=
    ((((Within.refl t).set may.1).set may.2.1).set may.2.2.1).set may.2.2.2
  refine ⟨((((Within.refl s).bump (by decide)).set (by decide)).raise (by decide) |>.trans (after (by decide) _)).nvm_eq, ?_, ?_, ?_, ?_, ?_, ?_, State.get_set_fits _ _ (by decide) (by decide)⟩
  · exact ((((Within.refl _).set (by decide)).raise (by decide)).trans (after (by decide) _)).get_eq.trans (State.bump_get_same _ _ (by decide))
  · refine (((Within.refl _).raise (by decide)).trans (after (by decide) _)).get_eq.trans ((State.get_set_fits _ _ (by decide) ?_).trans (by omega))
    exact Nat.lt_of_le_of_lt (min_le_right ..) (by decide)
  · exact (after (by decide) _).event (event_raise _ _ _ (by decide))
  · refine ((((Within.refl _).set (by decide)).set (by decide)).set (by decide)).get_eq.trans ((State.get_set_fits _ _ (by decide) ?_).trans (by omega))
    exact Nat.lt_of_le_of_lt (min_le_right ..) (by decide)
  · exact (((Within.refl _).set (by decide)).set (by decide)).get_eq.trans (State.get_set_fits _ _ (by decide) (by decide))
  · exact ((Within.refl _).set (by decide)).get_eq.trans (State.get_set_fits _ _ (by decide) (by decide))

theorem exec_rideThrough {least mv : Nat} (warned : s.boot.pf = .warned) {t : State} (rode : s.rideRec.rode least mv = t) :
    exec (.rideThrough least mv) s = .next { t with boot := { t.boot with pf := .none } } := by
  subst rode
  show execRideThrough least mv s = _
  unfold execRideThrough
  rw [if_neg (by simp [warned])]
  rfl

theorem State.powerOff_spec (s : State) : s.powerOff.boot.pos = .off ∧ s.powerOff.boot.pf = .dark ∧ s.powerOff.regs = [] ∧ s.powerOff.key.fuses = s.cutErase.key.fuses ∧
    s.powerOff.nvm = { s.cutErase.nvm with saving := none, savingBatches := [] } := ⟨rfl, rfl, rfl, rfl, rfl⟩

theorem State.cutErase_key (s : State) : s.cutErase.key = s.key := by
  unfold State.cutErase
  extract_lets b f n t
  split
  · rfl
  · exact (foldl_keep (fun (t : State) k => t.wearErase (128 * (b - 1) + 1 + k)) State.key (fun t k => ((Within.refl t).wearErase (by decide)).key_eq) _ f.2).trans rfl

theorem State.aoStart_spec (s : State) {mv : Nat} (small : mv < 65536) : (s.aoStart mv).boot.pos = .ao ∧ (s.aoStart mv).boot.pf = .none ∧ (s.aoStart mv).get R.PWR_VIN_MV = mv ∧
    (s.aoStart mv).get R.BOOT_CAUSE_POR = 1 ∧ (s.aoStart mv).key = s.key := by
  have after {C : Cap} (may : Ok.set C R.PWR_VIN_MV ∧ Ok.set C R.BOOT_CAUSE_POR ∧ Ok.showWear C ∧ Ok.retained C) (t : State) : Within C t (((t.set R.PWR_VIN_MV mv).set R.BOOT_CAUSE_POR 1).showWear).retained :=
    ((((Within.refl t).set may.1).set may.2.1).showWear may.2.2.1).retained may.2.2.2
  exact ⟨congrArg BootPart.pos (after (by decide) _).boot_eq, congrArg BootPart.pf (after (by decide) _).boot_eq,
    ((((Within.refl _).set (by decide)).showWear (by decide)).retained (by decide)).get_eq.trans (State.get_set_fits _ _ (by decide) small),
    (((Within.refl _).showWear (by decide)).retained (by decide)).get_eq.trans (State.get_set_fits _ _ (by decide) (by decide)), (after (by decide) _).key_eq⟩

theorem exec_powerOnAfterShutdown {mv : Nat} (down : s.boot.pf = .down ∨ s.boot.pf = .dark) (saved : s.nvm.saving = none) (back : 10500 ≤ mv) :
    exec (.powerOnAfterShutdown mv) s = .next (s.powerOff.aoStart mv) := congrArg _ (if_pos ⟨down, by rw [saved]; rfl, back⟩)

end

/-- Settles O4: VIN_GOOD 1 and PFW_HOLD 0 at a ride-through, and the hold-up's end waiting for the save, are log entry 22. -/
theorem powerFailSavesThenShutsDown : Obligations.PowerFailSavesThenShutsDown := by
  refine ⟨fun s tick mv w on good ready => ?_, fun s tick mv w on good empty => ?_, fun s tick warned => .intro (exec_pfShutdown warned) (s.shutdown_spec tick),
    fun s p saving => .intro rfl (State.saveDone_spec saving), fun s least mv warned few small => ?_, fun s down saved quiet => ?_, fun s mv down saved back small => ?_⟩
  · have holdup : (s.warn mv w).flag R.PWR_STAT_HOLDUP_RDY = true := (Within.warn (by decide)).flag_eq.trans ready
    obtain ⟨pfw, hold, event⟩ := s.warn_spec mv w
    refine .intro ((exec_powerFailWarning on good).trans (congrArg _ (if_pos holdup))) ⟨rfl, pfw, hold, event, ?_⟩
    rintro rfl
    exact congrArg some (s.warn_payload mv tick)
  · have holdup : ¬(s.warn mv w).flag R.PWR_STAT_HOLDUP_RDY = true := by
      rw [(Within.warn (by decide)).flag_eq, empty]
      exact Bool.false_ne_true
    exact .intro ((exec_powerFailWarning on good).trans (congrArg _ (if_neg holdup))) ((s.warn mv w).shutdown_spec tick)
  · have saving : s.rideRec.nvm.saving = none := (nvPut_saving ..).trans s.saveDone_saving
    have count : s.rideRec.get R.PWR_RIDE_COUNT_COUNT = s.get R.PWR_RIDE_COUNT_COUNT := (((Within.refl s).saveDone (by decide)).nvPut (by decide)).get_eq
    obtain ⟨nvm, counted, ride, event, vin, pfw, good, hold⟩ := s.rideRec.rode_spec few small
    exact .intro (exec_rideThrough warned rfl) ⟨rfl, pfw, good, hold, ride, vin, event, (congrArg NvmPart.saving nvm).trans saving, count ▸ counted⟩
  · have kept : s.cutErase = s := if_pos quiet
    obtain ⟨pos, pf, regs, fuses, nvm⟩ := s.powerOff_spec
    rw [kept] at fuses nvm
    have e : exec .holdupEnd s = .next s.powerOff := congrArg Host.Outcome.next (if_pos ⟨down, by rw [saved]; rfl⟩)
    refine .intro e ⟨pos, pf, regs, nvm.trans ?_, fuses⟩
    rw [← saved]
  · obtain ⟨pos, pf, vin, por, key⟩ := s.powerOff.aoStart_spec small
    obtain ⟨-, -, -, fuses, -⟩ := s.powerOff_spec
    exact .intro (exec_powerOnAfterShutdown down saved back) ⟨pos, pf, vin, por, (congrArg KeyPart.fuses key).trans (fuses.trans (congrArg KeyPart.fuses s.cutErase_key))⟩

end Sys2Proof.Machine
end

section
/-! PROOFS.
The start to the choice of a bank (spec/03, R54 to R61, R69, R72).
-/
namespace Sys2Proof.Machine
open Sys2Proof

section
variable {s : State}

/-! ## Power on (R54, R56) -/

theorem exec_vinGood {mv : Nat} (off : s.boot.pos = .off) (good : 10500 ≤ mv) : exec (.vinGood mv) s = .next (s.aoStart mv) := congrArg _ (if_pos ⟨off, good⟩)

theorem exec_holdupReady (on : s.boot.pos ≠ .off) (good : s.boot.pf = .none) : exec .holdupReady s = .next (s.set R.PWR_STAT_HOLDUP_RDY 1) := congrArg _ (if_pos ⟨on, good⟩)

/-- What happens once MGT and KV run (R54, R374, R464, R392). -/
def State.hitched (s : State) : State :=
  ((({ s with boot := { s.boot with pos := .hitched, pins := .hitched } } : State).lcyLoad.startRecorder
    ({ s with boot := { s.boot with pos := .hitched, pins := .hitched } } : State).ringHead false).tamperDisable.thermPin).refreshFaults

theorem exec_hitchedEntry (ao : s.boot.pos = .ao) (high : s.boot.resetLow = false) (power : s.boot.pf ≠ .down) (ready : s.get R.PWR_STAT_HOLDUP_RDY = 1) :
    exec .hitchedEntry s = .next (s.releaseIslands (2 ^ islMGT + 2 ^ islKV)).hitched := by
  show execHitchedEntry s = _
  unfold execHitchedEntry
  rw [if_neg (by simp [ao, high, power, ready])]
  rfl

theorem State.hitched_spec (s : State) : s.hitched.boot.pos = .hitched ∧ s.hitched.boot.pins = .hitched ∧ s.hitched.isl = s.isl := by
  have placed : ∀ {C : Cap}, Ok.lcyLoad C ∧ Ok.startRecorder C ∧ Ok.tamperDisable C → ∀ (t : State) (h : Nat), Within C t ((t.lcyLoad.startRecorder h false).tamperDisable) :=
    fun may t h => (((Within.refl t).lcyLoad may.1).startRecorder may.2.1).tamperDisable may.2.2
  have boot (t : State) : t.thermPin.refreshFaults.boot.pos = t.boot.pos ∧ t.thermPin.refreshFaults.boot.pins = t.boot.pins ∧ t.thermPin.refreshFaults.isl = t.isl :=
    ⟨(congrArg BootPart.pos ((Within.refl t.thermPin).refreshFaults (by decide)).boot_eq).trans rfl, (congrArg BootPart.pins ((Within.refl t.thermPin).refreshFaults (by decide)).boot_eq).trans rfl,
      (((Within.refl t).thermPin (by decide)).refreshFaults (by decide)).isl_eq⟩
  obtain ⟨pos, pins, isl⟩ := boot _
  exact ⟨pos.trans (congrArg BootPart.pos (placed (by decide) _ _).boot_eq), pins.trans (congrArg BootPart.pins (placed (by decide) _ _).boot_eq), isl.trans ((placed (by decide) _ _).isl_eq.trans rfl)⟩

/-! ## The scan (R69, R77, R81) -/

/-- What the scan counts and reports, once it has read. -/
def State.scanned (s : State) (cut bad : Nat) : State :=
  ((if bad = 0 then (s.set R.BOOT_NVM_SCAN_UNCOMMITTED (min 255 cut)).set R.BOOT_NVM_SCAN_CORRUPT (min 255 bad)
    else (((s.set R.BOOT_NVM_SCAN_UNCOMMITTED (min 255 cut)).set R.BOOT_NVM_SCAN_CORRUPT (min 255 bad)).raise P.BOOT E.BOOT_NVM_CORRUPT).pulse 22).scanSave).goto .scanned

theorem exec_nvmScan {corr : Nat} {errs : List (Nat × Nat)} (hitched : s.boot.pos = .hitched) {u : State} (reads : s.scanReads corr errs = u) : exec (.nvmScan corr errs) s =
    .next (u.scanned ((u.allRecs.filter (fun r => decide (r.state = .uncommitted))).length + [bankEnd u.nvm.bankA, bankEnd u.nvm.bankB].count 2)
      ((u.allRecs.filter (fun r => decide (r.state = .corrupt))).length + [bankEnd u.nvm.bankA, bankEnd u.nvm.bankB].count 3)) := by
  subst reads
  show execNvmScan corr errs s = _
  unfold execNvmScan
  rw [if_neg (by simp [hitched])]
  rfl

theorem Within.scanned {C : Cap} {cut bad : Nat} (may : Ok.set C R.BOOT_NVM_SCAN_UNCOMMITTED ∧ Ok.set C R.BOOT_NVM_SCAN_CORRUPT ∧ Ok.raise C P.BOOT ∧ Ok.pulse C ∧ Ok.scanSave C ∧ Ok.goto C) :
    Within C s (s.scanned cut bad) := by
  obtain ⟨cuts, bads, raise, pulse, save, go⟩ := may
  have counted := ((Within.refl (C := C) s).set (n := min 255 cut) cuts).set (n := min 255 bad) bads
  exact ((Within.ite counted ((counted.raise raise).pulse pulse)).scanSave save).goto go

theorem State.scanned_spec (s : State) (cut bad : Nat) : (s.scanned cut bad).boot.pos = .scanned ∧ (s.scanned cut bad).get R.BOOT_NVM_SCAN_UNCOMMITTED = min 255 cut ∧
    (s.scanned cut bad).get R.BOOT_NVM_SCAN_CORRUPT = min 255 bad := by
  have small (n : Nat) : min 255 n < 2 ^ 8 := by omega
  have after {C : Cap} (may : Ok.raise C P.BOOT ∧ Ok.pulse C ∧ Ok.scanSave C ∧ Ok.goto C) :
      Within C ((s.set R.BOOT_NVM_SCAN_UNCOMMITTED (min 255 cut)).set R.BOOT_NVM_SCAN_CORRUPT (min 255 bad)) (s.scanned cut bad) :=
    ((Within.ite (.refl _) (((Within.refl _).raise may.1).pulse may.2.1)).scanSave may.2.2.1).goto may.2.2.2
  exact ⟨rfl, ((((Within.refl _).set (by decide)).trans (after (by decide))).get_eq).trans (State.get_set_fits _ _ (by decide) (small cut)),
    (after (by decide)).get_eq.trans (State.get_set_fits _ _ (by decide) (small bad))⟩

theorem State.putRing_ringOf (s : State) (a : NvArea) : s.putRing a (s.ringOf a) = s := by cases a <;> rfl

theorem NvRing.spoil_nil (r : NvRing) : r.spoil [] = r := by
  simp [NvRing.spoil]

theorem spoilBank_nil (b : List Word) : spoilBank b [] = b := by
  simp [spoilBank]

/-- Without word errors nothing of the nonvolatile memory changes. -/
theorem State.scanReads_nvm (s : State) (corr : Nat) : (s.scanReads corr []).nvm = s.nvm := by
  unfold State.scanReads
  extract_lets of_ t _ u _
  have none_ (k : Nat) : of_ k = [] := rfl
  have rings : t = s := by
    show (List.range 5).foldl _ s = s
    refine List.foldlRecOn (motive := fun u => u = s) _ _ rfl fun v e k _ => ?_
    rw [none_, NvRing.spoil_nil, State.putRing_ringOf, e]
  have banks : u.nvm = s.nvm := by
    show ({ t.nvm with bankA := spoilBank t.nvm.bankA (of_ 5), bankB := spoilBank t.nvm.bankB (of_ 6) } : NvmPart) = _
    rw [none_, none_, spoilBank_nil, spoilBank_nil, rings]
  exact ((((Within.refl u).bumpBy (by decide)).bumpBy (by decide)).raiseIf (by decide)).nvm_eq.trans banks

theorem State.scanReads_counts (s : State) (corr : Nat) (errs : List (Nat × Nat)) :
    (s.scanReads corr errs).get R.NVM_ECC_CORR_COUNT = min (s.get R.NVM_ECC_CORR_COUNT + corr) (2 ^ R.NVM_ECC_CORR_COUNT.w - 1) ∧
    (s.scanReads corr errs).get R.NVM_ECC_UNCORR_COUNT = min (s.get R.NVM_ECC_UNCORR_COUNT + errs.length) (2 ^ R.NVM_ECC_UNCORR_COUNT.w - 1) := by
  unfold State.scanReads
  extract_lets of_ t _ u v
  have before {C : Cap} (may : Ok.putRing C ∧ C (.part .nvm) = true) : Within C s u := ((Within.refl s).foldl fun _ _ _ h => h.putRing may.1).updNvm may.2
  refine ⟨?_, ?_⟩
  · exact (((Within.refl _).bumpBy (by decide)).raiseIf (by decide)).get_eq.trans ((State.bumpBy_get_same _ _ _ (by decide)).trans (by rw [(before (by decide)).get_eq]))
  · exact ((Within.refl _).raiseIf (by decide)).get_eq.trans ((State.bumpBy_get_same _ _ _ (by decide)).trans (by rw [(((before (by decide)).bumpBy (by decide))).get_eq]))

/-! ## The keys (R386, R393) -/

theorem exec_keyLoad (scanned : s.boot.pos = .scanned) : exec .keyLoad s =
    .next (if s.rd R.TMP_LATCH ≠ 0 ∨ s.get R.TMP_NOW_SENSOR ≠ 0 then ((s.set R.KEY_STATUS_SUPPRESSED 1).set R.BOOT_CAUSE_KEYS_SUPPRESSED 1).goto .keys else s.keyLoadAll.goto .keys) := by
  show execKeyLoad s = _
  unfold execKeyLoad
  rw [if_neg (by simp [scanned])]

/-- KV runs once its slots are loaded, and says so. -/
theorem State.keyLoadAll_spec (s : State) : s.keyLoadAll.key.alive = true ∧ s.keyLoadAll.get R.KEY_STATUS_SUPPRESSED = 0 := by
  unfold State.keyLoadAll
  extract_lets drain _ _ t cut u v
  have rolls : u.key.alive = true :=
    (foldl_keep (fun (t : State) (_ : Nat) => (t.bump R.KEY_ROLLBACKS_COUNT).keyEvt E.KEY_KEY_ROLLBACK 0 0) (fun t => t.key.alive)
      (fun t _ => congrArg KeyPart.alive (((Within.refl t).bump (by decide)).keyEvt (by decide)).key_eq) _ t).trans rfl
  have loads : v.key.alive = true := by
    refine List.foldlRecOn (motive := fun v : State => v.key.alive = true) _ _ rolls fun t alive p _ => ?_
    split
    · exact alive
    · have put (x : KeySlot) : (t.putSlotK p.1 x).key.alive = true := (congrArg KeyPart.alive (State.set_key ..)).trans alive
      dsimp only
      split
      · exact (congrArg KeyPart.alive ((Within.refl _).keyEvt (by decide)).key_eq).trans (put _)
      · exact put _
  clear_value v
  exact ⟨(congrArg KeyPart.alive ((((Within.refl v).set (by decide)).set (by decide)).showKeys (by decide) |>.showPub (by decide)).key_eq).trans loads,
    (((Within.refl _).showKeys (by decide)).showPub (by decide)).get_eq.trans (State.get_set_fits _ _ (by decide) (by decide))⟩

/-! ## The banks (R59, R72) -/

/-- Both banks validated. -/
def State.validated (s : State) : State := (s.validate 1).validate 2

theorem exec_bankSelect (keys : s.boot.pos = .keys) {u : State} (validated : s.validated = u) : exec .bankSelect s =
    .next (if u.chooseBank.1 = 0 then ((u.set R.BOOT_STAGE_HOLD_WHY 1).raise P.BOOT E.BOOT_NO_IMAGE).goto .held
      else if u.boot.holdAtReset then (u.set R.BOOT_STAGE_HOLD_WHY 3).goto .held else (u.loadBank.goto .chosen).jtagHold) := by
  subst validated
  show execBankSelect s = _
  unfold execBankSelect
  rw [if_neg (by simp [keys])]
  rfl

theorem State.validated_spec (s : State) : s.validated.boot = s.boot ∧ s.validated.flag R.BOOT_IMG_STAT_A_VALID = decide (bankWhy s.nvm.bankA s.lcs = 0) ∧
    s.validated.flag R.BOOT_IMG_STAT_B_VALID = decide (bankWhy s.nvm.bankB s.lcs = 0) := by
  refine ⟨(((Within.refl s).validate (by decide)).validate (by decide)).boot_eq, ?_, ?_⟩
  · exact (((Within.refl _).set (by decide)).validate (b := 2) (by decide)).flag_eq.trans (State.setFlag_flag _ R.BOOT_IMG_STAT_A_VALID _ (by decide) rfl)
  · refine ((Within.refl _).set (by decide)).flag_eq.trans ((State.setFlag_flag _ R.BOOT_IMG_STAT_B_VALID _ (by decide) rfl).trans ?_)
    have nvm : (s.validate 1).nvm = s.nvm := ((Within.refl s).validate (by decide)).nvm_eq
    have key : (s.validate 1).key = s.key := ((Within.refl s).validate (by decide)).key_eq
    unfold State.bank State.lcs
    rw [nvm, key]
    rfl

/-- A bank is chosen exactly if one is valid, and it is one of the two. -/
theorem State.chooseBank_spec (s : State) : (s.chooseBank.1 = 0 ↔ s.flag R.BOOT_IMG_STAT_A_VALID = false ∧ s.flag R.BOOT_IMG_STAT_B_VALID = false) ∧ s.chooseBank.1 < 4 := by
  unfold State.chooseBank
  extract_lets a b
  split
  next none_ =>
    obtain ⟨noA, noB⟩ := Bool.and_eq_true_iff.mp none_
    exact ⟨iff_of_true rfl ⟨by simpa using noA, by simpa using noB⟩, by decide⟩
  next some_ =>
    have one : ¬(a = false ∧ b = false) := fun no => some_ (by rw [no.1, no.2]; rfl)
    split
    · split; exacts [⟨iff_of_false (by decide) one, by decide⟩, ⟨iff_of_false (by decide) one, by decide⟩]
    · split; exacts [⟨iff_of_false (by decide) one, by decide⟩, ⟨iff_of_false (by decide) one, by decide⟩]
    · dsimp only
      split; exacts [⟨iff_of_false (by decide) one, by decide⟩, ⟨iff_of_false (by decide) one, by decide⟩]

theorem State.loadBank_loaded (s : State) : s.loadBank.get R.BOOT_IMG_STAT_LOADED = s.chooseBank.1 :=
  (((Within.refl _).setFlag (by decide)).raiseIf (by decide)).get_eq.trans (State.get_set_fits _ _ (by decide) s.chooseBank_spec.2)

theorem State.jtagHold_boot (s : State) : s.jtagHold.boot = s.boot := ((Within.refl s).jtagHold (by decide)).boot_eq

end

/-- Settles O1. -/
theorem startRunsToTheChoiceOfABank : Obligations.StartRunsToTheChoiceOfABank := by
  refine ⟨fun s mv off good small => ?_, fun s on good => ?_, fun s ao high power ready => ?_, fun s corr errs hitched => ?_, fun s scanned => ?_, fun s keys => ?_⟩
  · have after {C : Cap} (may : Ok.set C R.PWR_VIN_MV ∧ Ok.set C R.BOOT_CAUSE_POR ∧ Ok.showWear C ∧ Ok.retained C) (t : State) : Within C t (((t.set R.PWR_VIN_MV mv).set R.BOOT_CAUSE_POR 1).showWear).retained :=
      ((((Within.refl t).set may.1).set may.2.1).showWear may.2.2.1).retained may.2.2.2
    exact .intro (exec_vinGood off good) ⟨congrArg BootPart.pos (after (by decide) _).boot_eq, congrArg BootPart.pins (after (by decide) _).boot_eq,
      ((((Within.refl _).set (by decide)).showWear (by decide)).retained (by decide)).get_eq.trans (State.get_set_fits _ _ (by decide) small),
      (((Within.refl _).showWear (by decide)).retained (by decide)).get_eq.trans (State.get_set_fits _ _ (by decide) (by decide)), (after (by decide) _).isl_eq⟩
  · exact .intro (exec_holdupReady on good) ⟨State.get_set_fits _ _ (by decide) (by decide), (OnlyRegs.refl s).set, ((Within.refl s).set (by decide)).onlySlots⟩
  · obtain ⟨pos, pins, isl⟩ := (s.releaseIslands (2 ^ islMGT + 2 ^ islKV)).hitched_spec
    have up (i : Nat) : (s.releaseIslands (2 ^ islMGT + 2 ^ islKV)).hitched.up i = (s.up i || bitOn (2 ^ islMGT + 2 ^ islKV) i) := by
      rw [← releaseIslands_up]
      unfold State.up
      rw [isl]
    have others : ∀ i < 15, 2 ≤ i → bitOn (2 ^ islMGT + 2 ^ islKV) i = false := by decide
    refine .intro (exec_hitchedEntry ao high power ready) ⟨pos, pins, ?_, ?_, fun i least most => ?_⟩
    · rw [up, show bitOn (2 ^ islMGT + 2 ^ islKV) islMGT = true by decide, Bool.or_true]
    · rw [up, show bitOn (2 ^ islMGT + 2 ^ islKV) islKV = true by decide, Bool.or_true]
    · rw [up, others i (by omega) least, Bool.or_false]
  · intro u ends
    obtain ⟨corrected, uncorrected⟩ := s.scanReads_counts corr errs
    obtain ⟨pos, cut, bad⟩ := u.scanned_spec ((u.allRecs.filter (fun r => decide (r.state = .uncommitted))).length + ends.count 2) ((u.allRecs.filter (fun r => decide (r.state = .corrupt))).length + ends.count 3)
    refine .intro (exec_nvmScan hitched rfl) ⟨pos, (Within.scanned (by decide)).nvm_eq, ?_, cut, bad, (Within.scanned (by decide)).get_eq.trans corrected, (Within.scanned (by decide)).get_eq.trans uncorrected⟩
    rintro rfl
    exact (Within.scanned (by decide)).nvm_eq.trans (s.scanReads_nvm corr)
  · obtain ⟨alive, free⟩ := s.keyLoadAll_spec
    refine .intro (exec_keyLoad scanned) ⟨?_, fun latched => ?_, fun quiet calm => ?_⟩
    · split <;> rfl
    · rw [if_pos (.inl latched)]
      exact ⟨congrArg KeyPart.slots (((Within.refl s).set (by decide)).set (by decide) |>.goto (by decide)).key_eq,
        (((Within.refl _).set (by decide)).goto (by decide)).get_eq.trans (State.get_set_fits _ _ (by decide) (by decide)),
        ((Within.refl _).goto (by decide)).get_eq.trans (State.get_set_fits _ _ (by decide) (by decide))⟩
    · rw [if_neg (by simp [quiet, calm])]
      exact ⟨(congrArg KeyPart.alive ((Within.refl s.keyLoadAll).goto (by decide)).key_eq).trans alive, ((Within.refl s.keyLoadAll).goto (by decide)).get_eq.trans free⟩
  · obtain ⟨boot, aValid, bValid⟩ := s.validated_spec
    obtain ⟨none_, -⟩ := s.validated.chooseBank_spec
    rw [aValid, bValid, decide_eq_false_iff_not, decide_eq_false_iff_not] at none_
    have one (h : bankWhy s.nvm.bankA s.lcs = 0 ∨ bankWhy s.nvm.bankB s.lcs = 0) : ¬s.validated.chooseBank.1 = 0 := fun e => (none_.mp e).1 (h.resolve_right (none_.mp e).2)
    generalize chosen : s.validated = u at boot none_ one
    refine .intro (exec_bankSelect keys chosen) ⟨fun neither => ?_, fun valid held => ?_, fun valid free => ?_⟩
    · rw [if_pos (none_.mpr neither)]
      exact ⟨rfl, (((Within.refl _).raise (by decide)).goto (by decide)).get_eq.trans (State.get_set_fits _ _ (by decide) (by decide)), event_raise _ _ _ (by decide)⟩
    · rw [if_neg (one valid), if_pos (by rw [boot]; exact held)]
      exact ⟨rfl, ((Within.refl _).goto (by decide)).get_eq.trans (State.get_set_fits _ _ (by decide) (by decide))⟩
    · rw [if_neg (one valid), if_neg (by rw [boot, free]; exact Bool.false_ne_true)]
      refine ⟨congrArg BootPart.pos (State.jtagHold_boot _), ?_⟩
      rw [(((Within.refl _).goto (by decide)).jtagHold (by decide)).get_eq, State.loadBank_loaded]
      exact one valid

end Sys2Proof.Machine
end

section
/-! PROOFS.
The start from a bank to STEADY (spec/03, R54 to R60).
-/
namespace Sys2Proof.Machine
open Sys2Proof

section
variable {s : State} {m : Master}

/-! ## From a bank to the release of the islands (R56, R59) -/

theorem exec_bootLoad (acc : Accepts s m R.BOOT_CMD_STATUS) (held : s.boot.pos = .held) (bank : s.chooseBank.1 ≠ 0) :
    exec (.bootLoad m) s = .next ((((s.set R.BOOT_CMD_STATUS 2).set R.BOOT_STAGE_HOLD_WHY 0).loadBank.goto .chosen).jtagHold) := by
  show execBootLoad m s = _
  unfold execBootLoad
  rw [hostCmd_accepts acc, if_neg (by simp [held]), if_neg bank]

/-- Without a boundary-scan hold in force the start shows none. -/
theorem State.jtagHold_none (notHeld : s.tapInForce = false) (why : s.get R.BOOT_STAGE_HOLD_WHY = 0) : s.jtagHold.get R.BOOT_STAGE_HOLD_WHY = 0 := by
  unfold State.jtagHold
  extract_lets waits
  split
  · rw [State.get_set_same _ _ _ (by decide), notHeld]
    rfl
  · exact why

/-- The path of the test access port depends on its own state, the stage and RESET_N alone. -/
theorem State.tapInForce_congr {t : State} (tap : t.boot.tap = s.boot.tap) (reset : t.boot.resetLow = s.boot.resetLow) (isl : t.isl = s.isl)
    (stage : t.get R.BOOT_STAGE_STAGE = s.get R.BOOT_STAGE_STAGE) : t.tapInForce = s.tapInForce := by
  unfold State.tapInForce State.inHitched State.up
  rw [tap, reset, isl, stage]

theorem State.chooseBank_congr {t : State} (a : t.flag R.BOOT_IMG_STAT_A_VALID = s.flag R.BOOT_IMG_STAT_A_VALID) (b : t.flag R.BOOT_IMG_STAT_B_VALID = s.flag R.BOOT_IMG_STAT_B_VALID)
    (pref : t.get R.BOOT_CTRL_PREF = s.get R.BOOT_CTRL_PREF) (seqA : t.get R.BOOT_IMG_SEQ_A_W = s.get R.BOOT_IMG_SEQ_A_W) (seqB : t.get R.BOOT_IMG_SEQ_B_W = s.get R.BOOT_IMG_SEQ_B_W) :
    t.chooseBank = s.chooseBank := by
  unfold State.chooseBank
  rw [a, b, pref, seqA, seqB]

/-- The islands run, with the axle clock and DRAM (R56). -/
def State.islandsUp (s : State) : State :=
  let s := s.releaseIslands startMask
  let s := { s with ax := { s.ax with running := true } }
  let s := (List.range 4).foldl (fun (t : State) p => t.set (R.PLL_STATUS_REF_OK p) 1) (s.set R.DRM_STATUS_TRAINED 1)
  if s.osc.warm then (s.set R.VOTE_OSC_STAT_OCXO_WARM 1).level P.VOTE E.VOTE_OCXO_WARM true else s

theorem exec_islandRelease (chosen : s.boot.pos = .chosen) (free : s.tapInForce = false) : exec .islandRelease s = .next (s.islandsUp.holdRestore.goto .released) := by
  show execIslandRelease s = _
  unfold execIslandRelease
  rw [if_neg (by simp [chosen, free])]
  rfl

/-- The islands' clock and DRAM as they show after the release. -/
theorem State.islandsUp_spec (s : State) : s.islandsUp.ax.running = true ∧ s.islandsUp.get R.DRM_STATUS_TRAINED = 1 ∧ s.islandsUp.isl = (s.releaseIslands startMask).isl := by
  unfold State.islandsUp
  extract_lets t _ u v
  have after {C : Cap} (may : (∀ p < 4, Ok.set C (R.PLL_STATUS_REF_OK p)) ∧ Ok.set C R.VOTE_OSC_STAT_OCXO_WARM ∧ Ok.level C P.VOTE) :
      Within C (u.set R.DRM_STATUS_TRAINED 1) (if v.osc.warm then (v.set R.VOTE_OSC_STAT_OCXO_WARM 1).level P.VOTE E.VOTE_OCXO_WARM true else v) := by
    have locked : Within C (u.set R.DRM_STATUS_TRAINED 1) v := (Within.refl _).foldl fun p on _ h => h.set (may.1 p (List.mem_range.mp on))
    exact .ite ((locked.set may.2.1).level may.2.2) locked
  refine ⟨?_, (after (by decide)).get_eq.trans (State.get_set_fits _ _ (by decide) (by decide)), ?_⟩
  · exact congrArg AxlePart.running ((after (by decide)).ax_eq.trans (State.set_ax ..))
  · exact (after (by decide)).isl_eq.trans (State.set_isl ..)

/-! ## The image (R56, R71, R239) -/

theorem exec_imageApply {cals : List CalResult} {temp : Int} (released : s.boot.pos = .released) (free : s.tapInForce = false) :
    exec (.imageApply cals temp) s = .next ((((s.applyEntries (fun _ => true)).applyCode.gnsGo).startCals cals temp).goto .applied) := by
  show execImageApply cals temp s = _
  unfold execImageApply
  rw [if_neg (by simp [released, free])]

/-! ## ROLLING (R54, R56, R453) -/

/-- What the start stands at: its position and its pins. -/
abbrev SamePlace (s t : State) : Prop := t.boot.pos = s.boot.pos ∧ t.boot.pins = s.boot.pins

theorem SamePlace.trans {t u : State} (h : SamePlace s t) (k : SamePlace t u) : SamePlace s u := ⟨k.1.trans h.1, k.2.trans h.2⟩

theorem Within.samePlace {t : State} (h : Within (Cap.sparing .boot) s t) : SamePlace s t := ⟨congrArg BootPart.pos h.boot_eq, congrArg BootPart.pins h.boot_eq⟩

theorem SamePlace.foldl {α : Type} {f : State → α → State} {l : List α} {t : State} (h : SamePlace s t) (keeps : ∀ u, ∀ x ∈ l, SamePlace u (f u x)) : SamePlace s (l.foldl f t) :=
  List.foldlRecOn (motive := fun u => SamePlace s u) l f h fun _ hu x m => hu.trans (keeps _ x m)

theorem samePlace_txOn (s : State) (n : Nat) : SamePlace s { s with boot := { s.boot with txOn := n } } := ⟨rfl, rfl⟩

theorem samePlace_goOff (s : State) {p : Nat} (low : p < 24) : SamePlace s (s.goOff p) := by
  have may : ∀ p < 24, Ok.flushPort (Cap.sparing .boot) p ∧ Ok.setLink (Cap.sparing .boot) p := by decide
  exact SamePlace.trans ((((Within.refl s).flushPort (may p low).1).setLink (may p low).2).set rfl |>.set rfl).samePlace (samePlace_txOn ..)

theorem samePlace_portCommit (s old : State) {p : Nat} (low : p < 24) (cuts : List TxRef) : SamePlace s (s.portCommit old p cuts) := by
  have may : ∀ p < 24, Ok.fcCommit (Cap.sparing .boot) p ∧ Ok.goDown (Cap.sparing .boot) p := by decide
  obtain ⟨fc, down⟩ := may p low
  unfold State.portCommit
  extract_lets t live pol u
  have before : SamePlace s t := ((Within.refl s).fcCommit fc).samePlace
  split
  · split
    exacts [before, before.trans (samePlace_goOff t low)]
  split
  · exact before.trans (((Within.refl t).goDown down).samePlace.trans (samePlace_txOn ..))
  split
  · exact before.trans ((Within.refl t).goDown down).samePlace
  · exact before

theorem samePlace_commitPort (s : State) (old : Store) (cuts : List (Nat × TxRef)) {p : Nat} (low : p < 24) : SamePlace s (s.commitPort old cuts p) := by
  have may : ∀ p < 24, Ok.refuseFld (Cap.sparing .boot) (R.PRT_FRAME_MAX_BYTES p) := by decide
  unfold State.commitPort
  exact SamePlace.trans ((Within.refl s).refuseFld (may p low)).samePlace (samePlace_portCommit _ _ low _)

theorem samePlace_commitCoaches (s : State) (old : Store) (cuts : List (Nat × TxRef)) (mask : Nat) : SamePlace s (s.commitCoaches old cuts mask) := by
  have may : ∀ c < 6, Ok.commitCoach (Cap.sparing .boot) c := by decide
  refine SamePlace.foldl ⟨rfl, rfl⟩ fun t c coach => ?_
  have low := List.mem_range.mp coach
  split
  · exact ⟨rfl, rfl⟩
  · refine SamePlace.foldl ((Within.refl t).commitCoach (may c low)).samePlace fun u i port => samePlace_commitPort u old cuts ?_
    have := List.mem_range.mp port
    omega

theorem samePlace_commitGns (s : State) : SamePlace s s.commitGns :=
  SamePlace.trans (t := { s with boot := { s.boot with antBias := s.antBias }, gns := { s.gns with chans := s.gns.chans.filter (fun (p : Nat × GnsChan) => bitOn (s.get R.GNS_CFG_SIG_EN) p.2.sig) } })
    ⟨rfl, rfl⟩ ((Within.refl _).showTrack (by decide)).samePlace

theorem samePlace_commitBlocks (s : State) (old : Store) (cuts : List (Nat × TxRef)) (mask : Nat) : SamePlace s (s.commitBlocks old cuts mask) := by
  unfold State.commitBlocks
  extract_lets on t u v
  have coaches : SamePlace s t := samePlace_commitCoaches ..
  have policies : SamePlace t u := (Within.ite ((Within.refl t).commitPolicies (by decide)) (.refl t)).samePlace
  have rest : SamePlace u v := (Within.ite ((((Within.refl u).commitCands (by decide)).commitOutputs (by decide)).commitDug (by decide)) (.refl u)).samePlace
  have before := (coaches.trans policies).trans rest
  split
  exacts [before.trans (samePlace_commitGns v), before]

/-- A commit leaves what is not shadowed and not of a core, where it is not its own register. -/
theorem State.commitSet_spec (s : State) (src : Store) (num skip : Nat) : (s.commitSet src num skip).boot = s.boot ∧ (s.commitSet src num skip).flt = s.flt ∧
    ∀ g : Fld, rwsMask g.slot = 0 → Ok.cores (Cap.away g) → Ok.set (Cap.away g) R.GEN_IN_FORCE_GEN → Ok.set (Cap.away g) R.GEN_NEXT_GEN → Ok.wrT (Cap.away g) R.GEN_LAST_T →
      Ok.bump (Cap.away g) R.GEN_COMMITS_COUNT → Ok.raise (Cap.away g) P.GEN → Ok.set (Cap.away g) R.ATT_STATUS_GEN_HASH_OK → (s.commitSet src num skip).get g = s.get g := by
  unfold State.commitSet
  extract_lets old out here imgs _ t u v w
  have after {C : Cap} (may : Ok.cores C ∧ Ok.set C R.GEN_IN_FORCE_GEN ∧ Ok.set C R.GEN_NEXT_GEN ∧ Ok.wrT C R.GEN_LAST_T ∧ Ok.bump C R.GEN_COMMITS_COUNT ∧ Ok.raise C P.GEN ∧ Ok.set C R.ATT_STATUS_GEN_HASH_OK) :
      Within C t (w.genRec E.GEN_COMMITTED num (maskOf w.participants)) := by
    obtain ⟨cores, force, next, last, commits, raise, hash⟩ := may
    exact ((((((((Within.refl t).setImgs cores).set force).set next).wrT last).bump commits).raise raise).set hash).genRec
  refine ⟨(after (by decide)).boot_eq, (after (by decide)).flt_eq, fun g plain cores force next last commits raise hash => (after ⟨cores, force, next, last, commits, raise, hash⟩).get_eq.trans ?_⟩
  exact congrArg g.of (mergeRws_read_other _ _ _ _ (.inl plain))

/-- The stage ROLLING and its time are entered, the brake of a reset ended. -/
def State.rollIn (s : State) (us : Nat) : State :=
  (State.enterStage { s with boot := { s.boot with pos := .rolling, pins := .driven, dugOn := true }, flt := { s.flt with brake := .off }, out := { s.out with synthOk := true } } 2).set
    R.BOOT_T_ROLLING_W (min us (2 ^ 36 - 1))

/-- Generation 1 in force, in the registers and in the blocks. -/
def State.firstSet (s : State) : State := (s.commitSet (mergeRws s.regs s.shadow (fun _ => true)) 1 0).commitBlocks s.regs [] 0xFFFF

/-- What follows the first commit. -/
def State.rollOn (s : State) : State :=
  ((((List.range 6).foldl (fun (t : State) c => t.placeMc c) s).cellMove 0 1).nvPut .startSave 0x32 []).refreshFaults.showServings

theorem exec_rollingEntry {us : Nat} (applied : s.boot.pos = .applied) (free : s.tapInForce = false) (started : s.ax.started = true) :
    exec (.rollingEntry us) s = .next (s.rollIn us).firstSet.rollOn := by
  show execRollingEntry us s = _
  unfold execRollingEntry
  rw [if_neg (by simp [applied, free, started])]
  rfl

theorem State.rollIn_spec (s : State) {us : Nat} (fits : us < 2 ^ 36) : (s.rollIn us).boot.pos = .rolling ∧ (s.rollIn us).boot.pins = .driven ∧ (s.rollIn us).flt.brake = .off ∧
    (s.rollIn us).get R.BOOT_STAGE_STAGE = 2 ∧ (s.rollIn us).get R.BOOT_T_ROLLING_W = us := by
  have entered {C : Cap} (may : Ok.enterStage C ∧ Ok.set C R.BOOT_T_ROLLING_W) (t : State) : Within C t ((t.enterStage 2).set R.BOOT_T_ROLLING_W (min us (2 ^ 36 - 1))) :=
    ((Within.refl t).enterStage may.1).set may.2
  have stage (t : State) : (t.enterStage 2).get R.BOOT_STAGE_STAGE = 2 := ((Within.refl _).raise (by decide)).trig.get_eq.trans (State.get_set_fits _ _ (by decide) (by decide))
  refine ⟨congrArg BootPart.pos (entered (by decide) _).boot_eq, congrArg BootPart.pins (entered (by decide) _).boot_eq, congrArg FaultPart.brake (entered (by decide) _).flt_eq,
    ((Within.refl _).set (by decide)).get_eq.trans (stage _), ?_⟩
  have least : min us (2 ^ 36 - 1) = us := by omega
  unfold State.rollIn
  rw [least]
  exact State.get_set_fits _ _ (by decide) fits

theorem State.firstSet_spec (s : State) : SamePlace s s.firstSet ∧ (s.flt.brake = .off → s.firstSet.flt.brake = .off) ∧ s.firstSet.get R.BOOT_STAGE_STAGE = s.get R.BOOT_STAGE_STAGE ∧
    s.firstSet.get R.BOOT_T_ROLLING_W = s.get R.BOOT_T_ROLLING_W ∧ s.firstSet.get R.GEN_IN_FORCE_GEN = 1 := by
  obtain ⟨boot, flt, fields⟩ := s.commitSet_spec (mergeRws s.regs s.shadow (fun _ => true)) 1 0
  have force : (s.commitSet (mergeRws s.regs s.shadow (fun _ => true)) 1 0).get R.GEN_IN_FORCE_GEN = 1 := by
    unfold State.commitSet
    extract_lets old out here imgs _ t u v w
    exact (((((Within.refl _).set (by decide)).wrT (by decide)).bump (by decide)).raise (by decide) |>.set (by decide) |>.genRec).get_eq.trans (State.get_set_fits _ _ (by decide) (by decide))
  unfold State.firstSet
  generalize s.commitSet (mergeRws s.regs s.shadow (fun _ => true)) 1 0 = t at boot flt fields force
  refine ⟨SamePlace.trans ⟨congrArg BootPart.pos boot, congrArg BootPart.pins boot⟩ (samePlace_commitBlocks ..), fun off => ((Within.refl t).commitBlocks (by decide)).calm (flt ▸ off), ?_, ?_,
    ((Within.refl t).commitBlocks (by decide)).get_eq.trans force⟩
  · exact ((Within.refl t).commitBlocks (by decide)).get_eq.trans (fields _ (by decide) (by decide) (by decide) (by decide) (by decide) (by decide) (by decide) (by decide))
  · exact ((Within.refl t).commitBlocks (by decide)).get_eq.trans (fields _ (by decide) (by decide) (by decide) (by decide) (by decide) (by decide) (by decide) (by decide))

theorem Within.rollOn {C : Cap} (may : (∀ c < 6, Ok.placeMc C c) ∧ Ok.cellMove C ∧ Ok.nvPut C ∧ Ok.refreshFaults C ∧ Ok.showServings C) : Within C s s.rollOn :=
  (((((Within.refl s).foldl fun c on _ h => h.placeMc (may.1 c (List.mem_range.mp on))).cellMove may.2.1).nvPut may.2.2.1).refreshFaults may.2.2.2.1).showServings may.2.2.2.2

/-! ## TIMED and STEADY (R54, R60) -/

theorem exec_timedEntry (started : s.ax.started = true) (stage : s.get R.BOOT_STAGE_STAGE = 2) (timed : s.timedOk = true) : exec .timedEntry s =
    .next ((((s.enterStage 3).wrT R.BOOT_TIMED_AT (toT108 s.ax.mark)).judgeValid (s.get R.TEB_LIMIT_PS) (s.get R.TEB_HYST_PS)).showClass.showReady) := congrArg _ (if_pos ⟨started, stage, timed⟩)

theorem exec_steadyEntry (started : s.ax.started = true) (stage : s.get R.BOOT_STAGE_STAGE = 3) (warm : s.flag R.VOTE_OSC_STAT_OCXO_WARM = true) (lock : s.flag R.VOTE_OSC_STAT_CELL_LOCK = true)
    (learnt : s.get R.HOLD_STATUS_LEARN = 2) : exec .steadyEntry s = .next ((s.enterStage 4).wrT R.BOOT_STEADY_AT (toT108 s.ax.mark)) := congrArg _ (if_pos ⟨started, stage, warm, lock, learnt⟩)

theorem State.enterStage_stage (s : State) {n : Nat} (few : n < 8) : (s.enterStage n).get R.BOOT_STAGE_STAGE = n :=
  ((Within.refl _).raise (by decide)).trig.get_eq.trans (State.get_set_fits _ _ (by decide) few)

end

/-- Settles O2: that the brake of a reset lasts to the entry of ROLLING, in every state, is log entry 34. -/
theorem startRunsFromABankToSteady : Obligations.StartRunsFromABankToSteady := by
  refine ⟨fun s m acc held bank free => ?_, fun s chosen free => ?_, fun s cals temp released free => ?_, fun s us applied free started fits => ?_, fun s started stage timed => ?_,
    fun s started stage warm lock learnt => ?_⟩
  · have shown {C : Cap} (may : Ok.set C R.BOOT_CMD_STATUS ∧ Ok.set C R.BOOT_STAGE_HOLD_WHY) : Within C s ((s.set R.BOOT_CMD_STATUS 2).set R.BOOT_STAGE_HOLD_WHY 0) := ((Within.refl s).set may.1).set may.2
    have choice : ((s.set R.BOOT_CMD_STATUS 2).set R.BOOT_STAGE_HOLD_WHY 0).chooseBank = s.chooseBank :=
      State.chooseBank_congr (shown (by decide)).flag_eq (shown (by decide)).flag_eq (shown (by decide)).get_eq (shown (by decide)).get_eq (shown (by decide)).get_eq
    have done : ((s.set R.BOOT_CMD_STATUS 2).set R.BOOT_STAGE_HOLD_WHY 0).get R.BOOT_CMD_STATUS = 2 := ((Within.refl _).set (by decide)).get_eq.trans (State.get_set_fits _ _ (by decide) (by decide))
    have why : ((s.set R.BOOT_CMD_STATUS 2).set R.BOOT_STAGE_HOLD_WHY 0).get R.BOOT_STAGE_HOLD_WHY = 0 := State.get_set_fits _ _ (by decide) (by decide)
    have boot : ((s.set R.BOOT_CMD_STATUS 2).set R.BOOT_STAGE_HOLD_WHY 0).boot = s.boot := (shown (by decide)).boot_eq
    have isl : ((s.set R.BOOT_CMD_STATUS 2).set R.BOOT_STAGE_HOLD_WHY 0).isl = s.isl := (shown (by decide)).isl_eq
    have stage : ((s.set R.BOOT_CMD_STATUS 2).set R.BOOT_STAGE_HOLD_WHY 0).get R.BOOT_STAGE_STAGE = s.get R.BOOT_STAGE_STAGE := (shown (by decide)).get_eq
    refine .intro (exec_bootLoad acc held bank) ?_
    generalize (s.set R.BOOT_CMD_STATUS 2).set R.BOOT_STAGE_HOLD_WHY 0 = t at choice done why boot isl stage
    have loaded {C : Cap} (may : Ok.loadBank C ∧ Ok.goto C) : Within C t (t.loadBank.goto .chosen) := ((Within.refl t).loadBank may.1).goto may.2
    refine ⟨congrArg BootPart.pos (State.jtagHold_boot _), ((loaded (by decide)).jtagHold (by decide)).get_eq.trans done, State.jtagHold_none ?_ ((loaded (by decide)).get_eq.trans why), ?_⟩
    · have same : (t.loadBank.goto .chosen).boot = { s.boot with pos := .chosen } := congrArg (fun b : BootPart => { b with pos := .chosen }) (((Within.refl t).loadBank (by decide)).boot_eq.trans boot)
      rw [State.tapInForce_congr (s := s) (by rw [same]) (by rw [same]) ((loaded (by decide)).isl_eq.trans isl) ((loaded (by decide)).get_eq.trans stage), free]
    · exact (((Within.refl _).goto (by decide)).jtagHold (by decide)).get_eq.trans ((State.loadBank_loaded t).trans (congrArg Prod.fst choice))
  · obtain ⟨running, trained, isl⟩ := s.islandsUp_spec
    have after {C : Cap} (may : Ok.holdRestore C ∧ Ok.goto C) : Within C s.islandsUp (s.islandsUp.holdRestore.goto .released) := ((Within.refl _).holdRestore may.1).goto may.2
    refine .intro (exec_islandRelease chosen free) ⟨rfl, (congrArg AxlePart.running (after (by decide)).ax_eq).trans running, (after (by decide)).get_eq.trans trained, fun i least most => ?_⟩
    have all : ∀ i < 15, 2 ≤ i → bitOn startMask i = true := by decide
    have up := releaseIslands_up s startMask i
    rw [all i (by omega) least, Bool.or_true] at up
    unfold State.up at up ⊢
    rwa [(after (by decide)).isl_eq, isl]
  · refine .intro (exec_imageApply released free) ⟨rfl, ?_⟩
    exact congrArg BootPart.loading ((((Within.refl (s.applyEntries _)).applyCode (by decide)).gnsGo (by decide)).startCals (by decide)).boot_eq
  · obtain ⟨pos, pins, brake, stage, rolled⟩ := s.rollIn_spec fits
    obtain ⟨place, calm, sameStage, sameRolled, force⟩ := (s.rollIn us).firstSet_spec
    refine .intro (exec_rollingEntry applied free started) ⟨?_, ?_, (Within.rollOn (by decide)).get_eq.trans (sameStage.trans stage), (Within.rollOn (by decide)).calm (calm brake),
      (Within.rollOn (by decide)).get_eq.trans force, (Within.rollOn (by decide)).get_eq.trans (sameRolled.trans rolled)⟩
    · exact (Within.rollOn (by decide)).samePlace.1.trans (place.1.trans pos)
    · exact (Within.rollOn (by decide)).samePlace.2.trans (place.2.trans pins)
  · have after {C : Cap} (may : Ok.judgeValid C ∧ Ok.showClass C ∧ Ok.showReady C) (t : State) : Within C t ((t.judgeValid (s.get R.TEB_LIMIT_PS) (s.get R.TEB_HYST_PS)).showClass.showReady) :=
      (((Within.refl t).judgeValid may.1).showClass may.2.1).showReady may.2.2
    refine .intro (exec_timedEntry started stage timed) ⟨?_, (after (by decide) _).rdT_eq.trans (State.wrT_rdT_same ..)⟩
    exact (after (by decide) _).get_eq.trans (((Within.refl _).wrT (by decide)).get_eq.trans (State.enterStage_stage _ (by decide)))
  · refine .intro (exec_steadyEntry started stage warm lock learnt) ⟨?_, State.wrT_rdT_same ..⟩
    exact ((Within.refl _).wrT (by decide)).get_eq.trans (State.enterStage_stage _ (by decide))

end Sys2Proof.Machine
end

section
/-! PROOFS.
Islands, couplings and the fabric reset (spec/01, R13 to R21; spec/03, R64, R65).
-/
namespace Sys2Proof.Machine
open Sys2Proof

section
variable {s : State} {m : Master}

/-! ## The clocks of the islands (R13, R462) -/

/-- A flag of one bit reads 1 exactly when what was written to it holds. -/
theorem State.setFlag_iff (s : State) (f : Fld) (p : Prop) [Decidable p] (inside : f.lo + f.w ≤ 36) (one : f.w = 1) : (s.setFlag f (decide p)).get f = 1 ↔ p := by
  rw [State.setFlag_get_same _ f _ inside one]
  by_cases h : p <;> simp [h]

/-- The oscillator judged, with VIN. -/
def State.oscShown (s : State) (dev : Int) (mv : Nat) : State :=
  ((((s.set R.PWR_VIN_MV (min mv 65535)).setS R.AO_OSC_DEV_DEV (clampInt (-32768) 32767 dev)).setFlag R.AO_STATUS_OSC_BAD (decide (1000 < dev.natAbs))).level P.AO E.AO_OSC (decide (1000 < dev.natAbs))).lineSet
    0 1 (decide (1000 < dev.natAbs))

/-- Each clock judged. -/
def State.clocksShown (s : State) (dev : Int) (l : List ClockReading) : State := (l.zipIdx.filter (fun p => decide (p.2 < 16))).foldl (fun t p => t.checkClock dev p.2 p.1) s

theorem exec_islandClockCheck {dev : Int} {l : List ClockReading} {mv : Nat} (on : s.boot.pos ≠ .off) {t : State} (shown : (s.oscShown dev mv).clocksShown dev l = t) :
    exec (.islandClockCheck dev l mv) s = .next ((t.setFlag R.AO_STATUS_ISLCLK_BAD (decide (t.get R.AO_ISLCLK_FAIL_ISLANDS ≠ 0))).lineSet 29 1 (decide (t.get R.AO_ISLCLK_FAIL_ISLANDS ≠ 0))) := by
  subst shown
  show execIslandClockCheck dev l mv s = _
  unfold execIslandClockCheck
  rw [if_neg on]
  rfl

theorem Within.clocksShown {C : Cap} {dev : Int} {l : List ClockReading} (may : Ok.checkClock C) : Within C s (s.clocksShown dev l) := (Within.refl s).foldl fun _ _ _ h => h.checkClock may

/-! ## Couplings (R14 to R17) -/

variable {src dst ch : Nat}

theorem exec_couplingTransfer_held {ok full : Bool} (low : max src dst < 16) (held : Link.mk src dst ch ∈ s.isl.withheld) : exec (.couplingTransfer src dst ch ok full) s = .next s := by
  show execCouplingTransfer src dst ch ok full s = _
  unfold execCouplingTransfer
  rw [withUnit_next low]
  exact congrArg _ (if_pos (by simp [held]))

/-- A group held in its sender. -/
def State.withhold (s : State) (l : Link) : State := { s with isl := { s.isl with withheld := s.isl.withheld ++ [l] } }

theorem exec_couplingTransfer_full {ok : Bool} (low : max src dst < 16) (up : s.linkUp (Link.mk src dst ch) = true) (free : Link.mk src dst ch ∉ s.isl.withheld) :
    exec (.couplingTransfer src dst ch ok true) s = .next (s.withhold (Link.mk src dst ch)) := by
  show execCouplingTransfer src dst ch ok true s = _
  unfold execCouplingTransfer
  rw [withUnit_next low]
  exact congrArg _ ((if_neg (by simp [up, free])).trans (if_pos (by simp)))

/-- A group that crosses ends the refusals in a row. -/
def State.crossed (s : State) (l : Link) : State := { s with isl := { s.isl with refused := kvDel s.isl.refused (linkKey l) } }

theorem exec_couplingTransfer {ok : Bool} (low : max src dst < 16) (up : s.linkUp (Link.mk src dst ch) = true) (free : Link.mk src dst ch ∉ s.isl.withheld)
    (runs : bitOn (s.get R.AO_ISLCLK_FAIL_ISLANDS) dst = false) (none_ : s.coupleInj (Link.mk src dst ch) = none) :
    exec (.couplingTransfer src dst ch ok false) s = .next (if ok then s.crossed (Link.mk src dst ch) else s.refuseGroup (Link.mk src dst ch)) := by
  show execCouplingTransfer src dst ch ok false s = _
  unfold execCouplingTransfer
  rw [withUnit_next low]
  refine congrArg _ ((if_neg (by simp [up, free])).trans ((if_neg (by simp [runs])).trans ?_))
  rw [none_]
  rfl

theorem exec_couplingTransfer_crosses (low : max src dst < 16) (up : s.linkUp (Link.mk src dst ch) = true) (free : Link.mk src dst ch ∉ s.isl.withheld)
    (runs : bitOn (s.get R.AO_ISLCLK_FAIL_ISLANDS) dst = false) (none_ : s.coupleInj (Link.mk src dst ch) = none) :
    exec (.couplingTransfer src dst ch true false) s = .next (s.crossed (Link.mk src dst ch)) := exec_couplingTransfer low up free runs none_

theorem exec_couplingTransfer_refused (low : max src dst < 16) (up : s.linkUp (Link.mk src dst ch) = true) (free : Link.mk src dst ch ∉ s.isl.withheld)
    (runs : bitOn (s.get R.AO_ISLCLK_FAIL_ISLANDS) dst = false) (none_ : s.coupleInj (Link.mk src dst ch) = none) :
    exec (.couplingTransfer src dst ch false false) s = .next (s.refuseGroup (Link.mk src dst ch)) :=
  (exec_couplingTransfer low up free runs none_).trans (congrArg Host.Outcome.next (if_neg Bool.false_ne_true))

/-- One more refusal on a coupling. -/
def State.refusedOnce (s : State) (l : Link) : State :=
  State.bump { s with isl := { s.isl with refused := kvPut s.isl.refused (linkKey l) (kvGetD s.isl.refused (linkKey l) 0 + 1) } } R.GLB_COUPLE_RETRY_COUNT

theorem State.refuseGroup_eq (s : State) (l : Link) : s.refuseGroup l = if kvGetD s.isl.refused (linkKey l) 0 + 1 < 3 then s.refusedOnce l else (s.refusedOnce l).breakLink l := rfl

theorem State.refusedOnce_spec (s : State) (l : Link) : (s.refusedOnce l).isl.broken = s.isl.broken ∧
    (s.refusedOnce l).get R.GLB_COUPLE_RETRY_COUNT = min (s.get R.GLB_COUPLE_RETRY_COUNT + 1) (2 ^ R.GLB_COUPLE_RETRY_COUNT.w - 1) :=
  ⟨(congrArg IslandPart.broken (State.bump_isl ..)).trans rfl, (State.bump_get_same _ _ (by decide)).trans rfl⟩

/-- The coupling is no longer used. -/
def State.unlink (s : State) (l : Link) : State := { s with isl := { s.isl with broken := s.isl.broken ++ [l], refused := kvDel s.isl.refused (linkKey l) } }

theorem State.breakLink_eq (s : State) (l : Link) : s.breakLink l = (((s.unlink l).showBroken.raise P.GLB E.GLB_COUPLE_BROKEN).lineOn 30 (1 + linkKey l)).showServings := rfl

theorem State.breakLink_spec (s : State) (l : Link) : l ∈ (s.breakLink l).isl.broken ∧ Event (s.breakLink l) P.GLB E.GLB_COUPLE_BROKEN ∧ (30, 1 + linkKey l) ∈ (s.breakLink l).flt.causes ∧
    (s.breakLink l).get R.GLB_COUPLE_RETRY_COUNT = s.get R.GLB_COUPLE_RETRY_COUNT := by
  have broken : l ∈ (s.unlink l).isl.broken := List.mem_append_right _ (List.mem_singleton_self _)
  refine ⟨?_, ?_, ?_, ((Within.refl s).breakLink (by decide)).get_eq⟩
  · rw [State.breakLink_eq, ((((Within.refl (s.unlink l)).showBroken (by decide)).raise (by decide)).lineOn (by decide) |>.showServings (by decide)).isl_eq]
    exact broken
  · rw [State.breakLink_eq]
    exact (((Within.refl _).lineOn (by decide)).showServings (by decide)).event (event_raise _ _ _ (by decide))
  · rw [State.breakLink_eq, ((Within.refl _).showServings (by decide)).flt_eq]
    exact State.lineOn_causes ..

/-- The group that was held crosses. -/
def State.resumed (s : State) (l : Link) : State :=
  { s with isl := { s.isl with withheld := s.isl.withheld.filter (fun x => x ≠ l), refused := kvDel s.isl.refused (linkKey l) } }

theorem exec_couplingResume (low : max src dst < 16) (held : Link.mk src dst ch ∈ s.isl.withheld) (runs : bitOn (s.get R.AO_ISLCLK_FAIL_ISLANDS) dst = false) : exec (.couplingResume src dst ch) s =
    .next (if src = islRH ∧ 2 ≤ dst ∧ dst ≤ 4 ∧ ch = 0 then (s.resumed (Link.mk src dst ch)).freeFeed (dst - 2) else s.resumed (Link.mk src dst ch)) := by
  show execCouplingResume src dst ch s = _
  unfold execCouplingResume
  rw [withUnit_next low]
  exact congrArg _ (if_pos (by simp [held, runs]))

/-! ## The axle's subframes (R20, R21) -/

/-- The increment that waited takes effect. -/
def State.turned (s : State) (island k : Nat) : State := if k = 0 then s else s.putCtr island ((s.ctrOf island).turn (6250 * k) (!s.subStarts (k + 1)))

theorem State.turned_subBits (s : State) (island k : Nat) : (s.turned island k).subBits k = s.subBits k := by
  unfold State.turned
  split <;> rfl

theorem exec_axleSubframe {island k err : Nat} {r : AxleRegs} (low : island < 16) (regs : axleRegs island = some r) (running : s.ax.running = true) (up : s.up island = true) (starts : s.subStarts k = true)
    (bad : readSub k (flipBits err (s.subBits k)) = none) : exec (.axleSubframe island k err) s = .next ((s.turned island k).axleLost island k r) := by
  rw [← s.turned_subBits island k] at bad
  show execAxleSubframe island k err s = _
  unfold execAxleSubframe
  rw [withUnit_next low, regs]
  refine congrArg _ ((if_neg (by simp [running, up, starts])).trans ?_)
  show (match readSub k (flipBits err ((s.turned island k).subBits k)) with
    | none => _
    | some f => _) = _
  rw [bad]
  rfl

theorem axleRegs_ok : ∀ island < 16, ∀ r ∈ axleRegs island, Ok.axleFault (Cap.away r.crc) r ∧ r.crc.lo + r.crc.w ≤ 36 := by decide

theorem State.turned_get (s : State) (island k : Nat) (f : Fld) : (s.turned island k).get f = s.get f := by
  unfold State.turned
  split <;> rfl

/-- A subframe that is lost is counted, and the increment in force goes on. -/
theorem State.axleLost_spec (s : State) {island : Nat} (k : Nat) {r : AxleRegs} (low : island < 16) (regs : axleRegs island = some r) :
    (s.axleLost island k r).get r.crc = min (s.get r.crc + 1) (2 ^ r.crc.w - 1) ∧ ((s.axleLost island k r).ctrOf island).incNext = ((s.axleLost island k r).ctrOf island).inc := by
  obtain ⟨fault, inside⟩ := axleRegs_ok island low r regs
  unfold State.axleLost
  extract_lets c c' t
  have count : t.get r.crc = min (s.get r.crc + 1) (2 ^ r.crc.w - 1) := State.bump_get_same _ _ inside
  have ax : t.ax = (s.putCtr island c').ax := State.bump_ax ..
  have ctr : t.ctrOf island = c' := by
    unfold State.ctrOf
    rw [ax]
    exact kvGetD_kvPut_same ..
  have after : State.ctrOf (if k = 0 ∧ 1 ≤ c.badSub0 then t.axleFault island r else t) island = c' := by
    rw [← ctr]
    unfold State.ctrOf
    rw [(Within.ite ((Within.refl t).axleFault ⟨rfl, rfl, rfl, rfl⟩) (.refl t)).ax_eq]
  rw [after]
  exact ⟨(Within.ite ((Within.refl t).axleFault fault) (.refl t)).get_eq.trans count, rfl⟩

/-! ## The fabric service reset (R64, R65) -/

/-- The slots that the return of a unit writes lie at other places of their pages than GEN.IN_FORCE does of its own, whatever the unit's number. -/
theorem Ok.returnUnit_inForce (u : Nat) : Ok.returnUnit (Cap.away R.GEN_IN_FORCE_GEN) u := by
  have other {p a : Nat} (low : a < 512) (ne : a ≠ 9) : p * 512 + a ≠ R.GEN_IN_FORCE := by
    show p * 512 + a ≠ 114697
    omega
  have fld {p a lo w : Nat} (low : a < 512) (ne : a ≠ 9) : Ok.set (Cap.away R.GEN_IN_FORCE_GEN) ⟨p * 512 + a, lo, w⟩ := decide_eq_true (.inl (other low ne))
  have evt (p : Nat) : Ok.raise (Cap.away R.GEN_IN_FORCE_GEN) p := decide_eq_true (other (by decide) (by decide))
  have lane : Ok.setLane (Cap.away R.GEN_IN_FORCE_GEN) u := fld (by decide) (by decide)
  have pllShunted : Ok.setShunted (Cap.away R.GEN_IN_FORCE_GEN) 5 u := ⟨by decide, by decide, fld (by decide) (by decide), by decide, lane⟩
  have coreShunted : Ok.setShunted (Cap.away R.GEN_IN_FORCE_GEN) 2 u := ⟨by decide, by decide, fld (by decide) (by decide), by decide, lane⟩
  have started : Ok.pllStart (Cap.away R.GEN_IN_FORCE_GEN) u := ⟨⟨fld (by decide) (by decide), evt _⟩, by decide, fld (by decide) (by decide), fld (by decide) (by decide), fld (by decide) (by decide)⟩
  exact decide_eq_true ⟨by decide, by decide, pllShunted, started, by decide, decide_eq_true ⟨coreShunted, by decide, by decide⟩, by decide, by decide⟩

theorem State.healLinks_inReset (s : State) (i : Nat) : (s.healLinks i).isl.inReset = s.isl.inReset := by
  unfold State.healLinks
  extract_lets touched marks healed whole t keep
  have before : t.isl.inReset = s.isl.inReset := congrArg IslandPart.inReset (foldl_keep (fun (t : State) (l : Link) => t.lineOff 30 (1 + linkKey l)) State.isl (fun _ _ => rfl) _ s)
  clear_value t
  rw [((Within.refl _).showBroken (by decide)).isl_eq]
  exact before

/-- A unit that returns resets no island and releases none. -/
theorem State.returnUnit_inReset (s : State) (kind unit : Nat) : (s.returnUnit kind unit).isl.inReset = s.isl.inReset := by
  have shunted (t : State) (k u : Nat) (b : Bool) : (t.setShunted k u b).isl = t.isl := ((Within.refl t).setShunted ⟨rfl, rfl, rfl, rfl, rfl⟩).isl_eq
  unfold State.returnUnit
  split
  · rfl
  · split
    · split <;> rfl
    · rfl
  · rw [((Within.refl _).pllStart ⟨⟨rfl, rfl⟩, rfl, rfl, rfl, rfl⟩).isl_eq, shunted]
  · split
    · rfl
    · split
      · unfold State.returnCore
        rw [((Within.refl _).putCore rfl).isl_eq, State.healLinks_inReset, shunted]
      · rfl
  · rw [((Within.refl _).engineReturn (by decide)).isl_eq, shunted]
  · rfl

theorem State.proveAbort_inReset (s : State) : s.proveAbort.isl.inReset = s.isl.inReset := by
  unfold State.proveAbort
  split
  · rfl
  · rw [((Within.refl _).proveEnd (by decide)).isl_eq]
    exact foldl_keep (fun (t : State) (u : Nat × Nat) => t.returnUnit u.1 u.2) (fun t => t.isl.inReset) (fun t u => t.returnUnit_inReset u.1 u.2) _ s

/-- The queues of the ports that run flushed. -/
def State.portsFlushed (s : State) : State := (List.range 24).foldl (fun (t : State) p => if t.up (8 + p / 4) then t.flushPort p else t) s

/-- What the fabric service reset leaves of the state before it: FABRIC_DOWN, its cause and its command's status are shown, GEN.IN_FORCE keeps its number, and the islands stand as the reset left them. -/
theorem State.fabricReset_spec (s : State) : (s.fabricReset).get R.BOOT_STAGE_FABRIC_DOWN = 1 ∧ (s.fabricReset).get R.BOOT_CAUSE_FABRIC = 1 ∧ (s.fabricReset).get R.BOOT_CMD_STATUS = 1 ∧
    (s.fabricReset).get R.GEN_IN_FORCE_GEN = s.get R.GEN_IN_FORCE_GEN ∧ ∃ x : State, x.isl.inReset = s.isl.inReset ∧ s.fabricReset.isl = (x.resetAll fabricMask).isl := by
  unfold State.fabricReset
  extract_lets old ports flushed ended gen mask r1 r2 r3
  have flushes {C : Cap} (may : ∀ p < 24, Ok.flushPort C p) : Within C s ports := (Within.refl s).foldl fun p low _ h => .ite (h.flushPort (may p (List.mem_range.1 low))) h
  have runs {C : Cap} (may : Ok.proveAbort C ∧ Ok.flushRecords C) : Within C ports ended := ((Within.refl ports).proveAbort may.1).flushRecords may.2
  have kept : gen = s.get R.GEN_IN_FORCE_GEN :=
    (runs ⟨⟨Ok.returnUnit_inForce, by decide⟩, by decide⟩).get_eq.trans (flushes (by decide)).get_eq
  have still : ended.isl.inReset = s.isl.inReset :=
    (congrArg IslandPart.inReset ((Within.refl ports.proveAbort).flushRecords (by decide)).isl_eq).trans
      ((State.proveAbort_inReset ports).trans (congrArg IslandPart.inReset (flushes (fun _ _ => rfl)).isl_eq))
  have down : r1.isl = (ended.resetAll fabricMask).isl := ((Within.refl (ended.resetAll fabricMask)).foldl (fun _ _ _ h => (h.bumpBy rfl).bumpBy rfl) |>.set rfl).isl_eq
  have inForce : r1.get R.GEN_IN_FORCE_GEN = gen := State.get_set_fits _ _ (by decide) (State.get_lt _ _)
  clear_value r1 gen ended mask ports
  subst kept
  refine ⟨?_, ?_, ?_, ?_, ended, still, ?_⟩
  · exact (((Within.refl _).stageRec).refreshFaults (by decide)).get_eq.trans (((Within.refl _).set (by decide)).get_eq.trans (State.get_set_fits _ _ (by decide) (by decide)))
  · exact (((Within.refl _).stageRec).refreshFaults (by decide)).get_eq.trans (State.get_set_fits _ _ (by decide) (by decide))
  · exact (((((Within.refl _).set (by decide)).set (by decide)).stageRec).refreshFaults (by decide)).get_eq.trans (State.get_set_fits _ _ (by decide) (by decide))
  · exact ((((((Within.refl _).set (by decide)).set (by decide)).set (by decide)).stageRec).refreshFaults (by decide)).get_eq.trans inForce
  · exact ((((((Within.refl _).set rfl).set rfl).set rfl).stageRec).refreshFaults rfl).isl_eq.trans down

theorem exec_fabricReset {force : Bool} (acc : Accepts s m R.BOOT_CMD_STATUS) (rolling : 2 ≤ s.get R.BOOT_STAGE_STAGE) (reins : s.role ≠ 1 ∨ force = true) (idle : s.genState = 0) :
    exec (.fabricReset m force) s = .next s.fabricReset := by
  show execFabricReset m force s = _
  unfold execFabricReset
  rw [hostCmd_accepts acc, if_neg (Nat.not_lt.2 rolling), if_neg (by rcases reins with h | h <;> simp [h]), if_neg (by simp [idle])]

/-- What the end of the fabric reset shows. -/
def State.fabricUp (s old : State) : State := ((((s.set R.BOOT_STAGE_FABRIC_DOWN 0).raise P.BOOT E.BOOT_FABRIC_DONE).set R.BOOT_CMD_STATUS 2).stageRec old)

theorem exec_fabricDone {cals : List CalResult} {temp : Int} (down : s.get R.BOOT_STAGE_FABRIC_DOWN = 1) (up : s.up islMGT = true) :
    exec (.fabricDone cals temp) s = .next ((s.coachesFresh cals temp).fabricUp s) := by
  show execFabricDone cals temp s = _
  unfold execFabricDone
  exact congrArg _ (if_pos ⟨State.flag_of_get down, up⟩)

theorem State.fabricUp_spec (s old : State) : (s.fabricUp old).get R.BOOT_STAGE_FABRIC_DOWN = 0 ∧ (s.fabricUp old).get R.BOOT_CMD_STATUS = 2 ∧ Event (s.fabricUp old) P.BOOT E.BOOT_FABRIC_DONE := by
  unfold State.fabricUp
  refine ⟨?_, ?_, ?_⟩
  · exact ((((Within.refl _).raise (by decide)).set (by decide)).stageRec).get_eq.trans (State.get_set_fits _ _ (by decide) (by decide))
  · exact ((Within.refl _).stageRec).get_eq.trans (State.get_set_fits _ _ (by decide) (by decide))
  · exact (((Within.refl _).set (by decide)).stageRec).event (event_raise _ _ _ (by decide))

/-! ## What the pieces give -/

/-- The oscillator's part of the check shows VIN and the deviation judged. -/
theorem State.oscShown_spec (s : State) (dev : Int) (mv : Nat) : ((s.oscShown dev mv).get R.AO_STATUS_OSC_BAD = 1 ↔ 1000 < dev.natAbs) ∧ (s.oscShown dev mv).get R.PWR_VIN_MV = min mv 65535 := by
  unfold State.oscShown
  refine ⟨?_, ?_⟩
  · rw [(((Within.refl _).level (by decide)).lineSet (by decide)).get_eq]
    exact State.setFlag_iff _ _ _ (by decide) rfl
  · exact (((((Within.refl _).setS (by decide)).setFlag (by decide)).level (by decide)).lineSet (by decide)).get_eq.trans (State.get_set_fits _ _ (by decide) (by show min mv 65535 < 65536; omega))

/-- A group refused once more: the third refusal in a row breaks the coupling, an earlier one does not. -/
theorem State.refuseGroup_spec (s : State) {src dst ch : Nat} (l : Link) (is : l = Link.mk src dst ch) :
    (s.refuseGroup l).get R.GLB_COUPLE_RETRY_COUNT = min (s.get R.GLB_COUPLE_RETRY_COUNT + 1) (2 ^ R.GLB_COUPLE_RETRY_COUNT.w - 1) ∧
    (kvGetD s.isl.refused (linkKey l) 0 = 2 → l ∈ (s.refuseGroup l).isl.broken ∧ Event (s.refuseGroup l) P.GLB E.GLB_COUPLE_BROKEN ∧ (30, 1 + linkKey l) ∈ (s.refuseGroup l).flt.causes ∧
      (s.refuseGroup l).linkOpen src dst ch = false) ∧
    (kvGetD s.isl.refused (linkKey l) 0 < 2 → (s.refuseGroup l).isl.broken = s.isl.broken) := by
  obtain ⟨same, count⟩ := s.refusedOnce_spec l
  obtain ⟨broken, event, cause, counted⟩ := (s.refusedOnce l).breakLink_spec l
  rw [State.refuseGroup_eq]
  refine ⟨?_, fun third => ?_, fun early => ?_⟩
  · split
    · exact count
    · exact counted.trans count
  · rw [if_neg (by omega)]
    refine ⟨broken, event, cause, ?_⟩
    subst is
    simp [State.linkOpen, State.linkUp, broken]
  · rw [if_pos (by omega)]
    exact same

end

/-- Settles O9. The clock check shows what it finds, VIN with it, and the command stays under way while the fabric is in reset (both log entry 22); a coupling breaks at the third refusal in a row
because the count of its refusals reaches 3; and GEN.IN_FORCE is written back with the number it had, since nothing that the reset does to the queues, the proving run and the journal
writes it. -/
theorem islandsCouplingsAndFabricReset : Obligations.IslandsCouplingsAndFabricReset := by
  unfold Obligations.IslandsCouplingsAndFabricReset
  refine ⟨fun s dev l mv on => ?_, fun s src dst ch lowSrc lowDst => ?_, fun s src dst ch lowSrc lowDst held => ⟨fun ok full => ?_, fun runs => ?_⟩,
    fun s island k err r low regs running up _ starts bad => ?_, fun s m force acc rolling reins idle => ?_, fun s cals temp down up => ?_⟩
  · refine .intro (exec_islandClockCheck on rfl) ?_
    obtain ⟨osc, vin⟩ := s.oscShown_spec dev mv
    have judged {C : Cap} (may : Ok.checkClock C) := Within.clocksShown (s := s.oscShown dev mv) (dev := dev) (l := l) may
    have quiet {C : Cap} (t : State) (b : Bool) (may : Ok.setFlag C R.AO_STATUS_ISLCLK_BAD ∧ Ok.lineSet C) : Within C t ((t.setFlag R.AO_STATUS_ISLCLK_BAD b).lineSet 29 1 b) :=
      ((Within.refl t).setFlag may.1).lineSet may.2
    have failing (t : State) (b : Bool) : ((t.setFlag R.AO_STATUS_ISLCLK_BAD b).lineSet 29 1 b).get R.AO_ISLCLK_FAIL_ISLANDS = t.get R.AO_ISLCLK_FAIL_ISLANDS := (quiet t b (by decide)).get_eq
    have osc' := (judged (by decide)).get_eq (g := R.AO_STATUS_OSC_BAD)
    have vin' := (judged (by decide)).get_eq (g := R.PWR_VIN_MV)
    generalize (s.oscShown dev mv).clocksShown dev l = t at osc' vin'
    refine ⟨?_, ?_, ?_, ?_⟩
    · rw [(quiet t _ (by decide)).get_eq, osc', osc]
    · rw [(quiet t _ (by decide)).get_eq, vin', vin]
    · rw [failing, ((Within.refl _).lineSet (by decide)).get_eq]
      exact State.setFlag_iff _ _ _ (by decide) rfl
    · rw [failing, State.lineSet_causes]
      exact decide_eq_true_iff
  · intro l up free
    have low : max src dst < 16 := by omega
    refine ⟨fun runs none_ => ⟨.intro (exec_couplingTransfer_crosses low up free runs none_) ⟨rfl, kvGet_kvDel_same ..⟩, .intro (exec_couplingTransfer_refused low up free runs none_) (s.refuseGroup_spec l rfl)⟩,
      fun ok => .intro (exec_couplingTransfer_full low up free) ⟨List.mem_append_right _ (List.mem_singleton_self _), rfl, rfl⟩⟩
  · exact .intro (exec_couplingTransfer_held (by omega) held) rfl
  · refine .intro (exec_couplingResume (by omega) held runs) ⟨?_, fun other => ?_⟩
    · have gone : Link.mk src dst ch ∉ (s.resumed (Link.mk src dst ch)).isl.withheld := by simp [State.resumed]
      split
      · rw [((Within.refl _).freeFeed (by decide)).isl_eq]
        exact gone
      · exact gone
    · rw [if_neg (by simp [other])]
      rfl
  · exact .intro (exec_axleSubframe low regs running up starts bad) ((s.turned island k).axleLost_spec k low regs |>.imp_left fun h => h.trans (by rw [State.turned_get]))
  · refine .intro (exec_fabricReset acc rolling reins idle) ?_
    obtain ⟨down, cause, busy, inForce, x, before, islands⟩ := s.fabricReset_spec
    have same (i : Nat) : s.fabricReset.up i = (s.up i && !bitOn fabricMask i) := by
      rw [State.up_congr islands, resetAll_up]
      unfold State.up
      rw [before]
    exact ⟨down, cause, busy, inForce, fun i on => by simp [same, on], fun i off => by simp [same, off]⟩
  · exact .intro (exec_fabricDone down up) (State.fabricUp_spec ..)

end Sys2Proof.Machine
end

section
/-! PROOFS.
The scale, its steps and loads, and leap seconds (spec/05, R119 to R128).
-/
namespace Sys2Proof.Machine
open Sys2Proof

section
variable {s : State} {m : Master}

/-! ## The mark (R19 to R23, R119, R120) -/

theorem exec_axmark_first {tick : Nat} {cuts : List (Nat × TxRef)} {ready : Bool} (running : s.ax.running = true) (first : s.ax.started = false) :
    exec (.axmark tick cuts ready) s =
      .next ((if s.ax.ocxo / secU < (s.moveScale tick).ax.ocxo / secU then (s.moveScale tick).logEfc else s.moveScale tick).atMark (s.tebShow (s.ax.v.at_ tick)) 0 cuts ready) := by
  show execAxmark tick cuts ready s = _
  unfold execAxmark
  rw [if_neg (by simp [running]), if_neg (by simp [first]), first]
  rfl

theorem exec_axmark_next {tick : Nat} {cuts : List (Nat × TxRef)} {ready : Bool} (running : s.ax.running = true) (started : s.ax.started = true)
    (due : tick = s.ax.v.reach (nextMs s.ax.mark)) : exec (.axmark tick cuts ready) s =
      .next ((if s.ax.ocxo / secU < (s.moveScale tick).ax.ocxo / secU then (s.moveScale tick).logEfc else s.moveScale tick).atMark (s.tebShow (s.ax.v.at_ tick)) (s.jumpAt (s.ax.v.at_ tick))
        cuts ready) := by
  show execAxmark tick cuts ready s = _
  unfold execAxmark
  rw [if_neg (by simp [running]), if_neg (by simp [due]), started]
  rfl

/-- A commit leaves the marks and the islands that wait to be reconfigured. -/
theorem State.commitSet_marked (s : State) (src : Store) (num skip : Nat) : (s.commitSet src num skip).ax.marked = s.ax.marked ∧ (s.commitSet src num skip).gen.reconf = s.gen.reconf := by
  unfold State.commitSet
  extract_lets old out here imgs _ t u v w
  have after {C : Cap} (may : Ok.cores C ∧ Ok.set C R.GEN_IN_FORCE_GEN ∧ Ok.set C R.GEN_NEXT_GEN ∧ Ok.wrT C R.GEN_LAST_T ∧ Ok.bump C R.GEN_COMMITS_COUNT ∧ Ok.raise C P.GEN ∧ Ok.set C R.ATT_STATUS_GEN_HASH_OK) :
      Within C t (w.genRec E.GEN_COMMITTED num (maskOf w.participants)) := by
    obtain ⟨cores, force, next, last, commits, raise, hash⟩ := may
    exact ((((((((Within.refl t).setImgs cores).set force).set next).wrT last).bump commits).raise raise).set hash).genRec
  exact ⟨(after (by decide)).marked_eq, (congrArg GenPart.reconf (after (by decide)).gen_eq).trans rfl⟩

/-- The commit waits for the reports of its participants. -/
def State.heardBy (s : State) (parts : Nat) : State := { s with gen := { s.gen with parts := parts, applied := 0 } }

/-- No participant is known to have faulted. -/
def State.noneGone (s : State) : State := { s with gen := { s.gen with gone := 0 } }

/-- The participants that are fenced at the commit. -/
def State.fencedOff (s : State) (l : List Nat) (cuts : List (Nat × TxRef)) : State := l.foldl (fun (t : State) i => t.fence i cuts) s

theorem State.applyGen_eq (s : State) (cuts : List (Nat × TxRef)) : s.applyGen cuts =
    if s.genState ≠ 3 ∨ s.ax.mark < s.gen.at_ then (s, false)
    else
      let bad := genIslands.filter (fun i => bitOn (maskOf s.participants) i && (bitOn s.gen.gone i || s.islandBad i))
      let late := genIslands.filter (fun i => bitOn (maskOf s.participants) i && s.genMissed i)
      (((((s.commitSet s.staging (s.get R.GEN_NEXT_GEN) (maskOf (bad ++ late))).heardBy (maskOf s.participants)).setGenState 4).noneGone).fencedOff bad cuts, true) := rfl

/-- The two states stand at the same mark, and the same islands wait to be reconfigured in them. -/
abbrev SameMark (s t : State) : Prop := t.ax.marked = s.ax.marked ∧ t.gen.reconf = s.gen.reconf

theorem SameMark.trans {t u : State} (h : SameMark s t) (k : SameMark t u) : SameMark s u := ⟨k.1.trans h.1, k.2.trans h.2⟩

theorem Within.sameMark {t : State} (h : Within (Cap.sparing .mark) s t) (k : Within (Cap.sparing .gen) s t) : SameMark s t := ⟨h.marked_eq, congrArg GenPart.reconf k.gen_eq⟩

theorem sameMark_heardBy (s : State) (parts : Nat) : SameMark s (s.heardBy parts) := ⟨rfl, rfl⟩

theorem sameMark_noneGone (s : State) : SameMark s s.noneGone := ⟨rfl, rfl⟩

theorem sameMark_fencedOff (s : State) {l : List Nat} (islands : ∀ i ∈ l, i ∈ genIslands) (cuts : List (Nat × TxRef)) : SameMark s (s.fencedOff l cuts) := by
  have may : ∀ i ∈ genIslands, Ok.fence (Cap.sparing .mark) i ∧ Ok.fence (Cap.sparing .gen) i := by decide
  exact Within.sameMark ((Within.refl s).foldl fun i m _ h => h.fence (may i (islands i m)).1) ((Within.refl s).foldl fun i m _ h => h.fence (may i (islands i m)).2)

theorem sameMark_setGenState (s : State) (st : Nat) : SameMark s (s.setGenState st) := Within.sameMark ((Within.refl s).setGenState (by decide)) ((Within.refl s).setGenState (by decide))

theorem sameMark_applyGen (s : State) (cuts : List (Nat × TxRef)) : SameMark s (s.applyGen cuts).1 := by
  rw [State.applyGen_eq]
  split
  · exact ⟨rfl, rfl⟩
  · exact (((SameMark.trans (s.commitSet_marked ..) (sameMark_heardBy ..)).trans (sameMark_setGenState ..)).trans (sameMark_noneGone _)).trans
      (sameMark_fencedOff _ (fun _ m => (List.mem_filter.mp m).1) cuts)

theorem sameMark_commitBlocks (s : State) (old : Store) (cuts : List (Nat × TxRef)) (mask : Nat) : SameMark s (s.commitBlocks old cuts mask) :=
  Within.sameMark ((Within.refl s).commitBlocks (by decide)) ((Within.refl s).commitBlocks (by decide))

/-- Where no island waits to be reconfigured, or the device is not ready for it, the generations of a mark leave the marks. -/
theorem State.genMark_marked (s : State) (cuts : List (Nat × TxRef)) (ready : Bool) (still : s.gen.reconf = 0 ∨ ready = false) : (s.genMark cuts ready).ax.marked = s.ax.marked := by
  unfold State.genMark
  extract_lets old r t
  have applied : SameMark s r.1 := sameMark_applyGen s cuts
  have taken : SameMark s t := by
    show SameMark s (if r.2 = true then r.1.commitBlocks old cuts 0xFFFF else r.1)
    split
    exacts [applied.trans (sameMark_commitBlocks ..), applied]
  clear_value t
  rw [if_neg fun waits => ?_]
  · exact taken.1
  · obtain ⟨some_, rdy, _⟩ := waits
    rcases still with none_ | not_
    · exact some_ (taken.2.trans none_)
    · simp [not_] at rdy

/-- What follows the generations at a mark. -/
def State.afterGen (s pre : State) (jumped : Bool) : State :=
  (((((((((((((((s.utcMark.leapMark jumped).triadMark).selectorMark).shuntMark).proveMark).announceAll).slewClks).endClks).gnsMark).keyMark).sweepMissed).showReady).boundMark pre).lateEnables))

theorem State.atMark_eq (s pre : State) (jump : Int) (cuts : List (Nat × TxRef)) (ready : Bool) :
    s.atMark pre jump cuts ready = ((s.phaseDone jump).genMark cuts ready).afterGen pre (decide (jump ≠ 0)) := rfl

theorem State.afterGen_marked (s pre : State) (jumped : Bool) : (s.afterGen pre jumped).ax.marked = s.ax.marked := by
  have abort : Ok.proveAbort (Cap.sparing .mark) := ⟨fun _ => rfl, by decide⟩
  have switch : Ok.commitSwitch (Cap.sparing .mark) := ⟨fun _ => ⟨by decide, rfl, rfl⟩, by decide, rfl, by decide, rfl, rfl, rfl, rfl, rfl, by decide, rfl, by decide, by decide, by decide⟩
  have select : Ok.selMark (Cap.sparing .mark) :=
    ⟨by decide, by decide, by decide, by decide, ⟨by decide, by decide, by decide, by decide, ⟨rfl, by decide, switch, by decide⟩, by decide, by decide⟩, by decide, by decide, by decide⟩
  have prove : Ok.proveStep (Cap.sparing .mark) := ⟨by decide, by decide, by decide, fun _ _ => ⟨rfl, rfl⟩, fun _ => ⟨rfl, rfl, ⟨rfl, by decide⟩, rfl, rfl, rfl, rfl⟩⟩
  have drain (c : ShuntCmd) : Ok.drainCoach (Cap.sparing .mark) c.index := ⟨⟨by decide, rfl⟩, rfl, rfl, rfl⟩
  have start (page : Nat) : Ok.startPage (Cap.sparing .mark) page := rfl
  have h : Within (Cap.sparing .mark) s _ := (((((Within.refl s).utcMark (by decide)).leapMark (jumped := jumped) (by decide)).triadMark (by decide)).selectorMark ⟨select, by decide⟩).shuntMark ⟨rfl, drain⟩
  have k := ((((((h.proveMark ⟨abort, prove⟩).announceAll (by decide)).slewClks (by decide)).endClks (by decide)).gnsMark (by decide)).keyMark (by decide)).sweepMissed (by decide)
  exact (((k.showReady (by decide)).boundMark (pre := pre) ⟨by decide, by decide, abort⟩).lateEnables start).marked_eq

/-- Everything due at a mark leaves the marks. -/
theorem State.atMark_marked (s pre : State) (jump : Int) (cuts : List (Nat × TxRef)) {ready : Bool} (still : s.gen.reconf = 0 ∨ ready = false) :
    (s.atMark pre jump cuts ready).ax.marked = s.ax.marked := by
  have phased : SameMark s (s.phaseDone jump) := Within.sameMark ((Within.refl s).phaseDone (by decide)) ((Within.refl s).phaseDone (by decide))
  rw [State.atMark_eq, State.afterGen_marked, State.genMark_marked _ _ _ (phased.2 ▸ still), phased.1]

/-- The scale at the first mark, and at a mark that follows. -/
theorem State.moveScale_mark (s : State) (tick : Nat) : (s.moveScale tick).gen = s.gen ∧ (s.ax.started = false → (s.moveScale tick).ax.started = true ∧ (s.moveScale tick).ax.mark = 0) ∧
    (s.ax.started = true → (s.moveScale tick).ax.mark = s.ax.v.at_ tick + s.jumpAt (s.ax.v.at_ tick)) := by
  unfold State.moveScale
  refine ⟨?_, fun first => ?_, fun started => ?_⟩
  · split <;> rfl
  · rw [first]
    exact ⟨rfl, rfl⟩
  · rw [started]
    rfl

/-- What the axle's mark leaves, of the marks that its scale has moved to. -/
theorem State.marked_axmark (s t : State) (pre : State) (jump : Int) (cuts : List (Nat × TxRef)) {ready : Bool} (c : Prop) [Decidable c] (still : s.gen.reconf = 0 ∨ ready = false)
    (gen : t.gen = s.gen) : ((if c then t.logEfc else t).atMark pre jump cuts ready).ax.marked = t.ax.marked := by
  have logged {C : Cap} (may : Ok.logEfc C) : Within C t (if c then t.logEfc else t) := .ite ((Within.refl t).logEfc may) (.refl t)
  rw [State.atMark_marked _ _ _ _ (by rw [(logged (by decide)).gen_eq, gen]; exact still), (logged (by decide)).marked_eq]

/-! ## The commands on the scale (R122 to R125, R127) -/

theorem exec_voteSet (acc : Accepts s m R.VOTE_CMD_STATUS) (votes : s.mode ≠ 3) (free : s.get R.DUG_STATUS_FOLLOW = 0) (unset : s.get R.VOTE_STATUS_TS_SET = 0 ∨ s.timeCommitted = false) :
    exec (.voteSet m) s = .next ((State.set { s with ax := { s.ax with setReq := some (ofT108 (s.rdT R.VOTE_SET_T)) } } R.VOTE_CMD_STATUS 1).showStepPend) := by
  have open_ : (s.flag R.DUG_STATUS_FOLLOW || (s.flag R.VOTE_STATUS_TS_SET && s.timeCommitted)) = false := by
    rw [State.flag_of_get_zero free]
    rcases unset with zero | none_
    · rw [State.flag_of_get_zero zero]
      rfl
    · rw [none_, Bool.and_false]
      rfl
  show execVoteSet m s = _
  unfold execVoteSet
  rw [hostCmd_accepts acc]
  exact congrArg _ ((if_neg votes).trans (if_neg (by simp [open_])))

/-- STEP_PEND shows that a step or a load waits. -/
theorem State.showStepPend_get (s : State) (waits : (decide (s.ax.steps ≠ [] ∨ s.ax.annSteps ≠ []) || s.ax.setReq.isSome || s.ax.selLoad.isSome || s.ax.annLoad.isSome) = true) :
    s.showStepPend.get R.VOTE_STATUS_STEP_PEND = 1 := by
  unfold State.showStepPend
  extract_lets a
  rw [State.setFlag_get_same _ _ _ (by decide) rfl, waits]
  rfl

theorem exec_hostStepSubmit {low : Word} (opened : Open s m (R.VOTE_STEP + 1)) :
    exec (.hostStepSubmit m low) s = .next ((s.writeS72 m R.VOTE_STEP low).hostStep (s.commitS72 m R.VOTE_STEP low)) := by
  show execHostStepSubmit m low s = _
  unfold execHostStepSubmit
  rw [hostWrite_open opened]

/-- The step that is submitted waits for its mark. -/
theorem State.hostStep_taken (s : State) {d : Int} (set_ : s.get R.VOTE_STATUS_TS_SET = 1) (votes : s.mode ≠ 3) (fits : 0 ≤ s.voteTime 0 + s.stepsWaiting + d * s72U) :
    s.hostStep d = State.showStepPend { s with ax := { s.ax with steps := s.ax.steps ++ [PhaseReq.mk 1 d] } } := by
  unfold State.hostStep
  exact if_neg (by simp [State.flag_of_get set_, votes, fits])

theorem State.hostStep_refused (s : State) {d : Int} (unset : s.get R.VOTE_STATUS_TS_SET = 0) : s.hostStep d = s.stepRej d := by
  unfold State.hostStep
  exact if_pos (by simp [State.flag_of_get_zero unset])

theorem State.stepRej_spec (s : State) (d : Int) : (s.stepRej d).ax = s.ax ∧ Event (s.stepRej d) P.VOTE E.VOTE_STEP_REJ :=
  ⟨((Within.refl s).stepRej (by decide)).ax_eq, ((Within.refl _).trig).event (event_raise _ _ _ (by decide))⟩

theorem exec_cancelStep_some (acc : Accepts s m R.VOTE_CMD_STATUS) (waits : s.ax.steps.any (fun q => decide (q.source = 1)) = true) :
    exec (.cancelStep m) s = .next (s.dropHostSteps.set R.VOTE_CMD_STATUS 2) := by
  show execCancelStep m s = _
  unfold execCancelStep
  rw [hostCmd_accepts acc, if_pos waits]

theorem exec_cancelStep_none (acc : Accepts s m R.VOTE_CMD_STATUS) (none_ : s.ax.steps.any (fun q => decide (q.source = 1)) = false) :
    exec (.cancelStep m) s = .next (s.set R.VOTE_CMD_STATUS 5) := by
  show execCancelStep m s = _
  unfold execCancelStep
  rw [hostCmd_accepts acc, if_neg (by simp [none_])]

/-- Each step that is refused is told. -/
theorem foldl_stepRej_event (l : List PhaseReq) (s : State) (told : Event s P.VOTE E.VOTE_STEP_REJ ∨ l ≠ []) :
    Event (l.foldl (fun (t : State) q => t.stepRej q.amount) s) P.VOTE E.VOTE_STEP_REJ := by
  induction l generalizing s with
  | nil => exact told.resolve_right fun h => h rfl
  | cons q l ih => exact ih _ (.inl (s.stepRej_spec q.amount).2)

/-- The host steps that wait are refused, the other ones stay. -/
theorem State.dropHostSteps_spec (s : State) (waits : s.ax.steps.any (fun q => decide (q.source = 1)) = true) :
    s.dropHostSteps.ax.steps = s.ax.steps.filter (fun q => decide (q.source ≠ 1)) ∧ Event s.dropHostSteps P.VOTE E.VOTE_STEP_REJ := by
  unfold State.dropHostSteps
  extract_lets h _ t
  have some_ : h ≠ [] := by
    obtain ⟨q, mem, host⟩ := List.any_eq_true.mp waits
    exact List.ne_nil_of_mem (List.mem_filter.mpr ⟨mem, host⟩)
  refine ⟨?_, ?_⟩
  · exact congrArg AxlePart.steps (((Within.refl t).foldl fun _ _ _ w => w.stepRej (by decide)).showStepPend (by decide)).ax_eq
  · exact ((Within.refl _).showStepPend (by decide)).event (foldl_stepRej_event h t (.inr some_))

theorem exec_utcOffsetWrite {v : Word} (opened : Open s m R.VOTE_UTC) : exec (.utcOffsetWrite m v) s = .next { s with ax := { s.ax with utcReq := some (R.VOTE_UTC_OFFSET.of v) } } := by
  show execUtcOffsetWrite m v s = _
  unfold execUtcOffsetWrite
  rw [hostWrite_open opened]

/-! ## Leap seconds (R128) -/

theorem exec_leapSchedule {v : Word} (opened : Open s m R.VOTE_LEAP_CTRL) :
    exec (.leapSchedule m v) s = .next ((s.set R.VOTE_LEAP_CTRL_WARN (R.VOTE_LEAP_CTRL_WARN.of v)).leapKind (R.VOTE_LEAP_CTRL_KIND.of v)) := by
  show execLeapSchedule m v s = _
  unfold execLeapSchedule
  rw [hostWrite_open opened]

theorem State.leapKind_refused (s : State) {k : Nat} (no : k = 3 ∨ s.get R.VOTE_UTC_VALID = 0 ∨ s.get R.VOTE_LEAP_AT_S < (s.voteTime 0 / secU).toNat + 2) :
    s.leapKind k = s.raise P.VOTE E.VOTE_LEAP_REJ := by
  unfold State.leapKind
  exact if_pos no

theorem State.leapKind_taken (s : State) {k : Nat} (kind : k ≠ 3) (valid : s.get R.VOTE_UTC_VALID = 1) (ahead : (s.voteTime 0 / secU).toNat + 2 ≤ s.get R.VOTE_LEAP_AT_S) :
    s.leapKind k = if k = 0 then (s.set R.VOTE_LEAP_CTRL_KIND 0).setLeapPend false else s.set R.VOTE_LEAP_CTRL_KIND k := by
  unfold State.leapKind
  exact if_neg (by simp [kind, valid, ahead])

theorem exec_leapPend (running : s.ax.running = true) (up : s.up islVOTE = true) (kind : s.get R.VOTE_LEAP_CTRL_KIND ≠ 0) (unseen : s.get R.VOTE_STATUS_LEAP_PEND = 0)
    (near : s.get R.VOTE_LEAP_AT_S ≤ s.scaleSec + s.get R.VOTE_LEAP_CTRL_WARN) : exec .leapPend s = .next ((s.setLeapPend true).leapRec E.VOTE_LEAP_PEND) := by
  show execLeapPend s = _
  unfold execLeapPend State.leapWarn
  rw [running, up]
  exact congrArg _ (if_pos (And.intro kind ⟨near, by simp [State.flag_of_get_zero unseen]⟩))

theorem State.setLeapPend_spec (s : State) (unseen : s.get R.VOTE_STATUS_LEAP_PEND = 0) :
    (s.setLeapPend true).get R.VOTE_STATUS_LEAP_PEND = 1 ∧ Event (s.setLeapPend true) P.VOTE E.VOTE_LEAP_PEND := by
  unfold State.setLeapPend
  rw [if_neg (by simp [State.flag_of_get_zero unseen])]
  exact ⟨((Within.refl _).level (by decide)).get_eq.trans (State.setFlag_get_same _ _ _ (by decide) rfl), event_level _ (by decide)⟩

end

/-- Settles O10. The mark that moveScale sets is left by everything due at it, generations, triad, selector, proving run and late enables; what the host asks waits for the next mark. The sign
test of a host step and the test of LEAP_AT are by the scale of the last AXMARK (voteTime 0), which is the model's choice (log entry 12). -/
theorem scaleAndLeapSeconds : Obligations.ScaleAndLeapSeconds := by
  unfold Obligations.ScaleAndLeapSeconds
  refine ⟨fun s tick cuts ready running still => ⟨fun first => ?_, fun started due => ?_⟩, fun s m acc votes free unset => ?_, fun s m low opened => ⟨fun set_ votes fits => ?_, fun unset => ?_⟩,
    fun s m acc => ⟨fun waits => ?_, fun none_ => ?_⟩, fun s m v opened => .intro (exec_utcOffsetWrite opened) ⟨rfl, rfl⟩,
    fun s m v opened => ⟨fun kind valid ahead => ?_, fun no => ?_⟩, fun s running up kind unseen near => ?_⟩
  · obtain ⟨gen, begun, _⟩ := s.moveScale_mark tick
    have marked := s.marked_axmark (s.moveScale tick) (s.tebShow (s.ax.v.at_ tick)) 0 cuts (s.ax.ocxo / secU < (s.moveScale tick).ax.ocxo / secU) still gen
    refine .intro (exec_axmark_first running first) ⟨?_, ?_⟩
    · exact (congrArg Prod.fst marked).trans (begun first).1
    · exact (congrArg (fun x => x.2.1) marked).trans (begun first).2
  · obtain ⟨gen, _, moved⟩ := s.moveScale_mark tick
    have marked := s.marked_axmark (s.moveScale tick) (s.tebShow (s.ax.v.at_ tick)) (s.jumpAt (s.ax.v.at_ tick)) cuts (s.ax.ocxo / secU < (s.moveScale tick).ax.ocxo / secU) still gen
    exact .intro (exec_axmark_next running started due) ((congrArg (fun x => x.2.1) marked).trans (moved started))
  · refine .intro (exec_voteSet acc votes free unset) ⟨?_, ?_, ?_, ?_⟩
    · exact (congrArg AxlePart.setReq ((Within.refl _).showStepPend (by decide)).ax_eq).trans rfl
    · exact ((Within.refl _).showStepPend (by decide)).get_eq.trans (State.get_set_fits _ _ (by decide) (by decide))
    · exact State.showStepPend_get _ (by simp)
    · exact (congrArg AxlePart.mark ((Within.refl _).showStepPend (by decide)).ax_eq).trans rfl
  · have wrote {C : Cap} (may : Ok.writeS72 C R.VOTE_STEP) : Within C s (s.writeS72 m R.VOTE_STEP low) := (Within.refl s).writeS72 may
    have ax := (wrote (by decide)).ax_eq
    have same := (wrote (by decide)).get_eq (g := R.VOTE_STATUS_TS_SET)
    have mode := (wrote (by decide)).get_eq (g := R.VOTE_STATUS_MODE)
    refine .intro (exec_hostStepSubmit opened) ?_
    generalize s.writeS72 m R.VOTE_STEP low = t at ax same mode
    rw [State.hostStep_taken t (same.trans set_) (fun h => votes (mode.symm.trans h)) (by unfold State.voteTime State.stepsWaiting; rw [ax]; exact fits)]
    refine ⟨?_, State.showStepPend_get _ (by simp)⟩
    rw [((Within.refl _).showStepPend (by decide)).ax_eq, ← ax]
  · have wrote {C : Cap} (may : Ok.writeS72 C R.VOTE_STEP) : Within C s (s.writeS72 m R.VOTE_STEP low) := (Within.refl s).writeS72 may
    refine .intro (exec_hostStepSubmit opened) ?_
    rw [State.hostStep_refused _ ((wrote (by decide)).get_eq.trans unset)]
    obtain ⟨ax, told⟩ := (s.writeS72 m R.VOTE_STEP low).stepRej_spec (s.commitS72 m R.VOTE_STEP low)
    exact ⟨ax.trans (wrote (by decide)).ax_eq, told⟩
  · obtain ⟨steps, told⟩ := s.dropHostSteps_spec waits
    refine .intro (exec_cancelStep_some acc waits) ⟨?_, State.get_set_fits _ _ (by decide) (by decide), ((Within.refl _).set (by decide)).event told⟩
    rw [State.set_ax]
    exact steps
  · exact .intro (exec_cancelStep_none acc none_) ⟨State.set_ax .., State.get_set_fits _ _ (by decide) (by decide)⟩
  · refine .intro (exec_leapSchedule opened) ?_
    have wrote {C : Cap} (may : Ok.set C R.VOTE_LEAP_CTRL_WARN) : Within C s (s.set R.VOTE_LEAP_CTRL_WARN (R.VOTE_LEAP_CTRL_WARN.of v)) := (Within.refl s).set may
    have warn : (s.set R.VOTE_LEAP_CTRL_WARN (R.VOTE_LEAP_CTRL_WARN.of v)).get R.VOTE_LEAP_CTRL_WARN = R.VOTE_LEAP_CTRL_WARN.of v := State.get_set_fits _ _ (by decide) (Fld.of_lt _ _)
    rw [State.leapKind_taken _ kind ((wrote (by decide)).get_eq.trans valid) (by rw [(wrote (by decide)).get_eq]; exact ahead)]
    refine ⟨?_, ?_, ?_, fun some_ => ?_⟩
    · split
      next zero => exact ((Within.refl _).setLeapPend (by decide)).get_eq.trans ((State.get_set_fits _ _ (by decide) (by decide)).trans zero.symm)
      next => exact State.get_set_fits _ _ (by decide) (Fld.of_lt _ _)
    · rw [(Within.ite (((Within.refl _).set (by decide)).setLeapPend (by decide)) ((Within.refl _).set (by decide))).get_eq]
      exact warn
    · exact (((wrote (by decide)).trans (.ite (((Within.refl _).set (by decide)).setLeapPend (by decide)) ((Within.refl _).set (by decide))))).ax_eq
    · rw [if_neg some_]
      exact ⟨((OnlyRegs.refl s).set).set, ((wrote (by decide)).set (by decide)).onlySlots⟩
  · refine .intro (exec_leapSchedule opened) ?_
    have wrote {C : Cap} (may : Ok.set C R.VOTE_LEAP_CTRL_WARN) : Within C s (s.set R.VOTE_LEAP_CTRL_WARN (R.VOTE_LEAP_CTRL_WARN.of v)) := (Within.refl s).set may
    rw [State.leapKind_refused _ (by rw [(wrote (by decide)).get_eq, (wrote (by decide)).get_eq]; exact no)]
    exact ⟨((wrote (by decide)).raise (by decide)).get_eq, event_raise _ _ _ (by decide)⟩
  · obtain ⟨pend, told⟩ := s.setLeapPend_spec unseen
    exact .intro (exec_leapPend running up kind unseen near) ⟨(Within.refl _).leapRec.get_eq.trans pend, (Within.refl _).leapRec.event told, ((Within.refl s).setLeapPend (by decide)).leapRec.get_eq⟩

end Sys2Proof.Machine
end

section
/-! PROOFS.
The vote and the cores (spec/05, R117, R129 to R137).
-/
namespace Sys2Proof.Machine
open Sys2Proof

section
variable {s : State} {m : Master}

/-! ## The vote (R117, R130) -/

/-- The counter as the subframe begins. -/
def State.voteTurn (s : State) (k : Nat) : State := if k = 0 then s else { s with ax := { s.ax with v := s.ax.v.turn (6250 * k) (!s.subStarts (k + 1)) } }

/-- What VOTE notes of the three reports. -/
def State.noted (s : State) (x0 x1 x2 : CoreInput) (r0 r1 r2 : CoreReport) : State := ((s.noteReport 0 x0 r0).noteReport 1 x1 r1).noteReport 2 x2 r2

/-- The increment follows the word that has been voted. -/
def State.increment (s : State) : State := { s with ax := { s.ax with v := { s.ax.v with incNext := incOf (s.getS R.VOTE_FREQ_Y) } } }

theorem exec_voteUpdate {k : Nat} {r0 r1 r2 : CoreReport} {u n v : State} {x0 x1 x2 : CoreInput} (running : s.ax.running = true) (up : s.up islVOTE = true) (starts : s.subStarts k = true)
    (reports : (((s.voteTurn k).upset 0 r0).upset 1 r1).upset 2 r2 = u) (in0 : u.coreInput 0 k r0 = x0) (in1 : u.coreInput 1 k r1 = x1) (in2 : u.coreInput 2 k r2 = x2)
    (quiet : u.injWaits 4 = none) (notes : u.noted x0 x1 x2 r0 r1 r2 = n) (triad : n.mode = 1) (voted : n.voteTriad x0 x1 x2 (6250 * k) = v) (stays : v.mode = 1) :
    exec (.voteUpdate k r0 r1 r2) s = .next v.increment := by
  show execVoteUpdate k r0 r1 r2 s = _
  unfold execVoteUpdate
  rw [if_neg (by simp [running, up, starts])]
  extract_lets tick _ turned u' y0 y1 y2 i n' v' _ _
  have isU : u' = u := reports
  clear_value u'
  subst isU
  have isI : i = u' := if_neg (by simp [quiet])
  have is0 : y0 = x0 := in0
  have is1 : y1 = x1 := in1
  have is2 : y2 = x2 := in2
  clear_value i y0 y1 y2
  subst isI is0 is1 is2
  have isN : n' = n := notes
  clear_value n'
  subst isN
  have isV : v' = v := (if_pos triad).trans voted
  clear_value v'
  subst isV
  exact congrArg _ (if_neg (by simp [stays]))

/-- What VOTE compares the cores by. -/
theorem State.outWhy_congr {s t : State} (regs : t.get R.VOTE_PERSIST_N = s.get R.VOTE_PERSIST_N ∧ t.get R.VOTE_TOL_F_Y = s.get R.VOTE_TOL_F_Y ∧ t.get R.VOTE_TOL_T_PS = s.get R.VOTE_TOL_T_PS)
    {k : Nat} (run : (t.coreOf k).run = (s.coreOf k).run) (x p q : CoreInput) : t.outWhy k x p q = s.outWhy k x p q := by
  obtain ⟨persist, freq, time⟩ := regs
  unfold State.outWhy State.get1 State.farRun State.timeBad State.farF State.farT State.getS
  rw [persist, freq, time, run]

/-- What a core is kept with, but for a fault of its axle that has been taken, has the count of its updates. -/
theorem State.putCore_run (s : State) (j k : Nat) (b : Bool) : ((s.putCore j { s.coreOf j with axleBad := b }).coreOf k).run = (s.coreOf k).run := by
  rcases j with _ | _ | j <;> rcases k with _ | _ | k <;> rfl

theorem State.coreOf_congr {s t : State} (tri : t.tri = s.tri) (k : Nat) : t.coreOf k = s.coreOf k := by
  unfold State.coreOf
  rw [tri]

theorem State.noteReport_run (s : State) (j : Nat) (x : CoreInput) (r : CoreReport) (k : Nat) : ((s.noteReport j x r).coreOf k).run = (s.coreOf k).run := by
  unfold State.noteReport
  extract_lets _ t u
  have tri : (u.raiseIf (decide (r.corr ≠ 0) || r.self) (P.TCORE j) E.TCORE_SELF_ERR).tri = t.tri := ((((Within.refl t).setS rfl).bumpBy rfl).raiseIf rfl).tri_eq
  rw [State.coreOf_congr tri]
  exact s.putCore_run ..

theorem State.noted_run (s : State) (x0 x1 x2 : CoreInput) (r0 r1 r2 : CoreReport) (k : Nat) : ((s.noted x0 x1 x2 r0 r1 r2).coreOf k).run = (s.coreOf k).run := by
  unfold State.noted
  rw [State.noteReport_run, State.noteReport_run, State.noteReport_run]

/-- Three cores that pass vote the median. -/
theorem State.voteTriad_agree (s : State) {x0 x1 x2 : CoreInput} {tick : Nat} (ok0 : s.outWhy 0 x0 x1 x2 = 0) (ok1 : s.outWhy 1 x1 x0 x2 = 0) (ok2 : s.outWhy 2 x2 x0 x1 = 0)
    (least : -34359738368 ≤ median3 x0.y x1.y x2.y) (most : median3 x0.y x1.y x2.y ≤ 34359738367) :
    (s.voteTriad x0 x1 x2 tick).getS R.VOTE_FREQ_Y = median3 x0.y x1.y x2.y ∧ (s.voteTriad x0 x1 x2 tick).mode = s.mode := by
  unfold State.voteTriad
  rw [ok0, ok1, ok2]
  extract_lets none_ med n f0 f1 f2 _ _ _ t v
  have kept : t.mode = s.mode := ((((Within.refl s).putCore rfl).putCore rfl).putCore rfl).get_eq
  rw [if_neg (by decide)]
  show v.getS R.VOTE_FREQ_Y = med ∧ v.mode = s.mode
  have same : clampInt (-34359738368) 34359738367 med = med := by
    unfold clampInt
    omega
  refine ⟨?_, ?_⟩
  · rw [((Within.refl (t.setFreq med)).followCore (by decide)).getS_eq, State.setFreq, same]
    exact State.getS_setS t R.VOTE_FREQ_Y med (by decide) (by decide) least (show med < 34359738368 by omega)
  · exact (((Within.refl t).setFreq (by decide)).followCore (by decide)).get_eq.trans kept

theorem median3_range {a b c : Int} (ha : -34359738368 ≤ a ∧ a ≤ 34359738367) (hb : -34359738368 ≤ b ∧ b ≤ 34359738367) (hc : -34359738368 ≤ c ∧ c ≤ 34359738367) :
    -34359738368 ≤ median3 a b c ∧ median3 a b c ≤ 34359738367 := by
  unfold median3
  omega

/-- A word as a register of 36 bits holds it. -/
theorem State.coreInput_range (s : State) (k j : Nat) (r : CoreReport) : -34359738368 ≤ (s.coreInput k j r).y ∧ (s.coreInput k j r).y ≤ 34359738367 := by
  have field (n : Nat) : -34359738368 ≤ toSigned 36 n ∧ toSigned 36 n ≤ 34359738367 := by
    unfold toSigned
    have := Nat.mod_lt n (show 0 < 2 ^ 36 by decide)
    split <;> omega
  unfold State.coreInput
  dsimp only
  split
  exacts [field _, field _]

/-! ## Reloads, the return to the vote, shunts and RECOVER (R133 to R137) -/

variable {k : Nat}

theorem exec_coreCatchupDone (low : k < 3) (copying : s.coreSt k = 2) (taken : (s.ctrOf (2 + k)).loadNow = false) : exec (.coreCatchupDone k) s =
    .next (((s.putCore k { s.coreOf k with probMs := 1000 * s.getOr R.VOTE_REJOIN_SECONDS 1 3600 60, ready := false, run := 0 }).set (R.TCORE_REJOIN_LEFT_S k) (s.getOr R.VOTE_REJOIN_SECONDS 1 3600 60)).setCore k 3
      ((s.putCore k { s.coreOf k with probMs := 1000 * s.getOr R.VOTE_REJOIN_SECONDS 1 3600 60, ready := false, run := 0 }).get (R.TCORE_STATE_OUT_WHY k))) := by
  show execCoreCatchupDone k s = _
  unfold execCoreCatchupDone
  rw [withUnit_next low]
  exact congrArg _ (if_pos ⟨copying, by simp [taken]⟩)

theorem exec_rejoinExpiry (low : k < 3) (prob : s.coreSt k = 3) (over_ : (s.coreOf k).probMs ≤ 1) : exec (.rejoinExpiry k) s = .next (s.rejoined k) := by
  show execRejoinExpiry k s = _
  unfold execRejoinExpiry
  rw [withUnit_next low]
  exact congrArg _ (if_pos ⟨prob, over_⟩)

theorem exec_coreReadmit (low : k < 3) (prob : s.coreSt k = 3) (ready : (s.coreOf k).ready = true) (second : s.ax.secMark = true) (calm : s.tri.recovering = none) (pair : s.mode = 2) :
    exec (.coreReadmit k) s = .next ((((s.coreIn k).setMode 1).showIn).raise P.VOTE E.VOTE_CORE_IN) := by
  show execCoreReadmit k s = _
  unfold execCoreReadmit
  rw [withUnit_next low, if_neg (by simp [prob, ready, second]), calm]
  exact congrArg _ (if_pos pair)

theorem exec_recover_failed {donor : Nat} (acc : Accepts s m R.VOTE_CMD_STATUS) (failed : s.mode = 3) (low : donor < 3) :
    exec (.recover m donor) s = .next (State.set { s with tri := { s.tri with recoverReq := some donor } } R.VOTE_CMD_STATUS 1) := by
  show execRecover m donor s = _
  unfold execRecover
  rw [hostCmd_accepts acc, if_neg (by simp [failed]), if_neg (Nat.not_le.2 low)]

theorem exec_recover_refused {donor : Nat} (acc : Accepts s m R.VOTE_CMD_STATUS) (votes : s.mode ≠ 3) : exec (.recover m donor) s = .next (s.set R.VOTE_CMD_STATUS 3) := by
  show execRecover m donor s = _
  unfold execRecover
  rw [hostCmd_accepts acc, if_pos votes]

/-- A shunt request has been taken up. -/
def State.unasked (s : State) : State := { s with tri := { s.tri with shuntReq := none } }

/-- A core is shunted out. -/
def State.coreOut (s : State) (k : Nat) : State := (s.setCore k 1 4).putCore k { s.coreOf k with run := 0, returned := false, ready := false, probMs := 0 }

/-- No pair has disagreed. -/
def State.freshPair (s : State) : State := { s with tri := { s.tri with pairRun := 0 } }

/-- A pair votes on. -/
def State.pairVotes (s : State) : State := (s.freshPair.setMode 2).showIn.set R.VOTE_STATUS_DONOR ((s.freshPair.setMode 2).showIn.inCores.headD 0)

/-- The command has ended. -/
def State.noCmd (s : State) : State := { s with shunt := { s.shunt with cmd := none } }

theorem exec_coreShuntApply_triad (low : k < 3) (asked : s.tri.shuntReq = some k) (up : s.up islVOTE = true) (triad : s.mode = 1) (in_ : s.coreSt k = 0) : exec .coreShuntApply s =
    .next (if ((s.unasked.coreOut k).pairVotes.setShunted 2 k true).isCmd 1 2 k then ((s.unasked.coreOut k).pairVotes.setShunted 2 k true).shuntDone 2 k
      else ((s.unasked.coreOut k).pairVotes.setShunted 2 k true).shuntRec 2 k E.SHNT_DONE) := by
  have votes : s.unasked.inCores.contains k = true := by
    show s.inCores.contains k = true
    unfold State.inCores
    rw [if_neg (by omega), List.contains_iff_mem, List.mem_filter]
    exact ⟨List.mem_range.mpr low, decide_eq_true in_⟩
  show execCoreShuntApply s = _
  unfold execCoreShuntApply
  rw [asked]
  refine congrArg _ ((if_neg (by simp [up])).trans ?_)
  extract_lets _ t inVote _ _ out_ _ pair u v
  have mode : t.mode = 1 := triad
  have shown : u = (s.unasked.coreOut k).pairVotes := if_pos votes
  clear_value u
  subst shown
  exact if_neg (by simp [mode])

theorem exec_coreShuntApply_pair (asked : s.tri.shuntReq = some k) (up : s.up islVOTE = true) (pair : s.mode = 2) :
    exec .coreShuntApply s = .next (if s.unasked.isCmd 1 2 k then s.unasked.noCmd.shuntRefuse 3 else s.unasked) := by
  show execCoreShuntApply s = _
  unfold execCoreShuntApply
  rw [asked]
  exact congrArg _ ((if_neg (by simp [up])).trans (if_pos (.inl pair)))

/-- A core that changes its state has it, with why, and tells of it. -/
theorem State.setCore_spec (s : State) {k st why : Nat} (low : k < 3) (fits : st < 8) (named : why < 16) (changes : s.coreSt k ≠ st) :
    (s.setCore k st why).coreSt k = st ∧ (s.setCore k st why).get (R.TCORE_STATE_OUT_WHY k) = why ∧ Event (s.setCore k st why) (P.TCORE k) E.TCORE_STATE := by
  have may : ∀ k < 3, (Ok.raise (Cap.away (R.TCORE_STATE_STATE k)) (P.TCORE k) ∧ Ok.set (Cap.away (R.TCORE_STATE_STATE k)) (R.TCORE_STATE_OUT_WHY k)) ∧
      Ok.raise (Cap.away (R.TCORE_STATE_OUT_WHY k)) (P.TCORE k) := by decide
  obtain ⟨⟨event, other⟩, event'⟩ := may k low
  unfold State.setCore
  extract_lets old t
  have state : t.get (R.TCORE_STATE_STATE k) = st := ((Within.refl _).set other).get_eq.trans (State.get_set_fits _ _ (by show 0 + 3 ≤ 36; decide) (show st < 2 ^ 3 from fits))
  have reason : t.get (R.TCORE_STATE_OUT_WHY k) = why := State.get_set_fits _ _ (by show 4 + 4 ≤ 36; decide) (show why < 2 ^ 4 from named)
  clear_value t
  rw [if_neg changes]
  exact ⟨((Within.refl _).raise event).trig.get_eq.trans state, ((Within.refl _).raise event').trig.get_eq.trans reason, (Within.refl _).trig.event (event_raise _ _ _ (by decide))⟩

/-- A change of mode shows. -/
theorem State.setMode_mode (s : State) {n : Nat} (fits : n < 4) : (s.setMode n).mode = n := by
  unfold State.setMode
  extract_lets old
  split
  next same => exact same
  next => exact ((Within.refl _).raise (by decide)).trig.get_eq.trans (State.get_set_fits _ _ (by decide) (Nat.lt_of_lt_of_le fits (by decide)))

theorem State.putCore_shuntReq (s : State) (k : Nat) (c : CoreVote) : (s.putCore k c).tri.shuntReq = s.tri.shuntReq := by
  rcases k with _ | _ | k <;> rfl

/-- A core that leaves the vote stands out of it by the host's request. -/
theorem State.coreOut_spec (s : State) (low : k < 3) (in_ : s.coreSt k = 0) :
    (s.coreOut k).coreSt k = 1 ∧ (s.coreOut k).get (R.TCORE_STATE_OUT_WHY k) = 4 ∧ (s.coreOut k).tri.shuntReq = s.tri.shuntReq := by
  obtain ⟨state, why, _⟩ := s.setCore_spec (st := 1) (why := 4) low (by decide) (by decide) (by rw [in_]; decide)
  have quiet {C : Cap} (may : Ok.putCore C) : Within C (s.setCore k 1 4) (s.coreOut k) := (Within.refl _).putCore may
  have may : ∀ k < 3, Ok.setCore (Cap.sparing .tri) k := by decide
  exact ⟨(quiet rfl).get_eq.trans state, (quiet rfl).get_eq.trans why,
    (State.putCore_shuntReq ..).trans (congrArg TriadPart.shuntReq ((Within.refl s).setCore (may k low)).tri_eq)⟩

theorem Within.pairVotes {C : Cap} (may : C (.part .tri) = true ∧ Ok.setMode C ∧ Ok.showIn C ∧ Ok.set C R.VOTE_STATUS_DONOR) : Within C s s.pairVotes :=
  ((((Within.refl s).updTri may.1).setMode may.2.1).showIn may.2.2.1).set may.2.2.2

theorem State.pairVotes_spec (s : State) : s.pairVotes.mode = 2 ∧ s.pairVotes.tri.shuntReq = s.tri.shuntReq := by
  refine ⟨(((Within.refl _).showIn (by decide)).set (by decide)).get_eq.trans (State.setMode_mode _ (by decide)), ?_⟩
  exact (congrArg TriadPart.shuntReq ((((Within.refl s.freshPair).setMode (by decide)).showIn (by decide)).set (by decide)).tri_eq).trans rfl

/-- What is told of a shunt and shown of its unit. -/
theorem Within.shuntTold {C : Cap} {c : Prop} [Decidable c] (may : Ok.setShunted C 2 k ∧ Ok.shuntDone C) :
    Within C s (if c then (s.setShunted 2 k true).shuntDone 2 k else (s.setShunted 2 k true).shuntRec 2 k E.SHNT_DONE) :=
  .ite (((Within.refl s).setShunted may.1).shuntDone may.2) ((Within.refl s).setShunted may.1).shuntRec

/-- A core in PROBATION that is taken back is in the vote, and its line falls. -/
theorem State.coreIn_spec (s : State) (low : k < 3) (prob : s.coreSt k = 3) : (s.coreIn k).coreSt k = 0 ∧ (2 + k, 1) ∉ (s.coreIn k).flt.causes := by
  have may : ∀ k < 3, (Ok.takeGen (Cap.away (R.TCORE_STATE_STATE k)) ∧ Ok.set (Cap.away (R.TCORE_STATE_STATE k)) (R.TCORE_REJOIN_LEFT_S k)) ∧
      Ok.lineOff (Cap.away (R.TCORE_STATE_STATE k)) := by decide
  obtain ⟨⟨gen, left⟩, line⟩ := may k low
  unfold State.coreIn
  have before : (s.takeGen k).coreSt k = 3 := ((Within.refl s).takeGen gen).get_eq.trans prob
  obtain ⟨state, _⟩ := (s.takeGen k).setCore_spec (st := 0) (why := 0) low (by decide) (by decide) (by rw [before]; decide)
  refine ⟨?_, ?_⟩
  · exact ((((Within.refl _).set left).lineOff line).putCore rfl).get_eq.trans state
  · rw [((Within.refl _).putCore rfl).flt_eq]
    exact State.lineOff_causes _ _ _

/-- PROBATION has its seconds to go. -/
theorem State.coreOf_putCore (s : State) (low : k < 3) (c : CoreVote) : (s.putCore k c).coreOf k = c := by
  match k with
  | 0 => rfl
  | 1 => rfl
  | 2 => rfl

end

/-- Settles O11. With three cores that pass their tests against each other the median, which no range of a word exceeds, is voted; a core's state is changed by setCore alone, and what follows it
does not write the core's own page. -/
theorem coresVoteAndRejoin : Obligations.CoresVoteAndRejoin := by
  unfold Obligations.CoresVoteAndRejoin
  refine ⟨fun s k r0 r1 r2 running up starts mode quiet => ?_, fun s k low copying taken => ?_, fun s k low prob over_ => ?_, fun s k low prob ready second calm pair => ?_,
    fun s k low asked up => ⟨fun triad in_ => ?_, fun pair => ?_⟩, fun s m donor acc => ⟨fun failed low => ?_, fun votes => ?_⟩⟩
  · intro v u x0 x1 x2 ok0 ok1 ok2
    have turned : v.mode = 1 ∧ v.flt = s.flt ∧ v = s.voteTurn k := by
      refine ⟨?_, ?_, rfl⟩
      · show (s.voteTurn k).mode = 1
        unfold State.voteTurn
        split <;> exact mode
      · show (s.voteTurn k).flt = s.flt
        unfold State.voteTurn
        split <;> rfl
    obtain ⟨mode', flt, same⟩ := turned
    have upsets {C : Cap} (may : Ok.upset C) : Within C v u := (((Within.refl v).upset may).upset may).upset may
    have quiet' : u.injWaits 4 = none := by
      unfold State.injWaits at quiet ⊢
      rw [(upsets (by decide)).flt_eq, flt]
      exact quiet
    have isU : (((s.voteTurn k).upset 0 r0).upset 1 r1).upset 2 r2 = u := rfl
    have is0 : u.coreInput 0 k r0 = x0 := rfl
    have is1 : u.coreInput 1 k r1 = x1 := rfl
    have is2 : u.coreInput 2 k r2 = x2 := rfl
    have range0 := u.coreInput_range 0 k r0
    have range1 := u.coreInput_range 1 k r1
    have range2 := u.coreInput_range 2 k r2
    rw [is0] at range0
    rw [is1] at range1
    rw [is2] at range2
    have modeU : u.mode = 1 := (upsets (by decide)).get_eq.trans mode'
    clear_value x0 x1 x2 u
    have notes {C : Cap} (may : Ok.noteReport C 0 ∧ Ok.noteReport C 1 ∧ Ok.noteReport C 2) : Within C u (u.noted x0 x1 x2 r0 r1 r2) :=
      (((Within.refl u).noteReport may.1).noteReport may.2.1).noteReport may.2.2
    have agree (j : Nat) (x p q : CoreInput) : (u.noted x0 x1 x2 r0 r1 r2).outWhy j x p q = u.outWhy j x p q :=
      State.outWhy_congr ⟨(notes (by decide)).get_eq, (notes (by decide)).get_eq, (notes (by decide)).get_eq⟩ (u.noted_run ..) x p q
    have triad : (u.noted x0 x1 x2 r0 r1 r2).mode = 1 := (notes (by decide)).get_eq.trans modeU
    obtain ⟨least, most⟩ := median3_range range0 range1 range2
    obtain ⟨word, stays⟩ := (u.noted x0 x1 x2 r0 r1 r2).voteTriad_agree (tick := 6250 * k) ((agree ..).trans ok0) ((agree ..).trans ok1) ((agree ..).trans ok2) least most
    refine .intro (exec_voteUpdate running up starts isU is0 is1 is2 quiet' rfl triad rfl (stays.trans triad)) ⟨word, ?_, stays.trans triad⟩
    exact congrArg incOf word
  · have may : ∀ k < 3, (Ok.setCore (Cap.away (R.TCORE_REJOIN_LEFT_S k)) k ∧ Ok.set (Cap.away (R.TCORE_STATE_STATE k)) (R.TCORE_REJOIN_LEFT_S k)) := by decide
    obtain ⟨after, before⟩ := may k low
    have seconds : s.getOr R.VOTE_REJOIN_SECONDS 1 3600 60 < 2 ^ 12 := by
      unfold State.getOr
      dsimp only
      split <;> omega
    refine .intro (exec_coreCatchupDone low copying taken) ?_
    have why := State.get_lt (s := s.putCore k { s.coreOf k with probMs := 1000 * s.getOr R.VOTE_REJOIN_SECONDS 1 3600 60, ready := false, run := 0 }) (R.TCORE_STATE_OUT_WHY k)
    have quiet {C : Cap} (c : CoreVote) (may : Ok.putCore C ∧ Ok.set C (R.TCORE_REJOIN_LEFT_S k)) : Within C s ((s.putCore k c).set (R.TCORE_REJOIN_LEFT_S k) (s.getOr R.VOTE_REJOIN_SECONDS 1 3600 60)) :=
      ((Within.refl s).putCore may.1).set may.2
    have copying' : ((s.putCore k { s.coreOf k with probMs := 1000 * s.getOr R.VOTE_REJOIN_SECONDS 1 3600 60, ready := false, run := 0 }).set (R.TCORE_REJOIN_LEFT_S k)
        (s.getOr R.VOTE_REJOIN_SECONDS 1 3600 60)).coreSt k = 2 := (quiet _ ⟨rfl, before⟩).get_eq.trans copying
    obtain ⟨state, _, told⟩ := State.setCore_spec (st := 3) _ low (by decide) why (by rw [copying']; decide)
    exact ⟨state, ((Within.refl _).setCore after).get_eq.trans (State.get_set_fits _ _ (by show 0 + 12 ≤ 36; decide) seconds), told⟩
  · have may : ∀ k < 3, Ok.set (Cap.away (R.TCORE_STATE_STATE k)) (R.TCORE_REJOIN_LEFT_S k) := by decide
    refine .intro (exec_rejoinExpiry low prob over_) ⟨?_, ?_, (((Within.refl s).set (may k low)).putCore rfl).get_eq.trans prob⟩
    · exact congrArg CoreVote.ready (State.coreOf_putCore _ low _)
    · exact ((Within.refl _).putCore rfl).get_eq.trans (State.get_set_fits _ _ (by show 0 + 12 ≤ 36; decide) (by show 0 < 2 ^ 12; decide))
  · have may : ∀ k < 3, (Ok.setMode (Cap.away (R.TCORE_STATE_STATE k)) ∧ Ok.showIn (Cap.away (R.TCORE_STATE_STATE k))) ∧ Ok.raise (Cap.away (R.TCORE_STATE_STATE k)) P.VOTE := by decide
    obtain ⟨⟨mode, shown⟩, event⟩ := may k low
    obtain ⟨state, line⟩ := s.coreIn_spec low prob
    refine .intro (exec_coreReadmit low prob ready second calm pair) ⟨?_, ?_, event_raise _ _ _ (by decide), ?_⟩
    · exact ((((Within.refl _).setMode mode).showIn shown).raise event).get_eq.trans state
    · exact (((Within.refl _).showIn (by decide)).raise (by decide)).get_eq.trans (State.setMode_mode _ (by decide))
    · rw [((((Within.refl _).setMode (by decide)).showIn (by decide)).raise (by decide)).flt_eq]
      exact line
  · have outState : ∀ k < 3, (Ok.setMode (Cap.away (R.TCORE_STATE_STATE k)) ∧ Ok.showIn (Cap.away (R.TCORE_STATE_STATE k)) ∧ Ok.set (Cap.away (R.TCORE_STATE_STATE k)) R.VOTE_STATUS_DONOR) ∧
        Ok.setShunted (Cap.away (R.TCORE_STATE_STATE k)) 2 k ∧ Ok.shuntDone (Cap.away (R.TCORE_STATE_STATE k)) := by decide
    have outWhy : ∀ k < 3, (Ok.setMode (Cap.away (R.TCORE_STATE_OUT_WHY k)) ∧ Ok.showIn (Cap.away (R.TCORE_STATE_OUT_WHY k)) ∧ Ok.set (Cap.away (R.TCORE_STATE_OUT_WHY k)) R.VOTE_STATUS_DONOR) ∧
        Ok.setShunted (Cap.away (R.TCORE_STATE_OUT_WHY k)) 2 k ∧ Ok.shuntDone (Cap.away (R.TCORE_STATE_OUT_WHY k)) := by decide
    have outMode : ∀ k < 3, Ok.setShunted (Cap.away R.VOTE_STATUS_MODE) 2 k ∧ Ok.setShunted (Cap.sparing .tri) 2 k := by decide
    obtain ⟨modeShunt, triShunt⟩ := outMode k low
    obtain ⟨state, why, request⟩ := s.unasked.coreOut_spec low in_
    obtain ⟨mode, kept⟩ := (s.unasked.coreOut k).pairVotes_spec
    refine .intro (exec_coreShuntApply_triad low asked up triad in_) ⟨?_, ?_, ?_, ?_⟩
    · exact ((Within.pairVotes ⟨rfl, (outState k low).1⟩).trans (Within.shuntTold (outState k low).2)).get_eq.trans state
    · exact ((Within.pairVotes ⟨rfl, (outWhy k low).1⟩).trans (Within.shuntTold (outWhy k low).2)).get_eq.trans why
    · exact (Within.shuntTold ⟨modeShunt, by decide⟩).get_eq.trans mode
    · exact (congrArg TriadPart.shuntReq (Within.shuntTold ⟨triShunt, by decide⟩).tri_eq).trans (kept.trans request)
  · have may : ∀ k < 3, Ok.shuntRefuse (Cap.away (R.TCORE_STATE_STATE k)) := by decide
    have refused {C : Cap} (shunt : C (.part .shunt) = true) (told : Ok.shuntRefuse C) : Within C s.unasked (if s.unasked.isCmd 1 2 k then s.unasked.noCmd.shuntRefuse 3 else s.unasked) :=
      .ite (((Within.refl s.unasked).updShunt shunt).shuntRefuse told) (.refl s.unasked)
    refine .intro (exec_coreShuntApply_pair asked up pair) ⟨?_, ?_, ?_⟩
    · exact (refused rfl (may k low)).get_eq
    · exact (refused rfl (by decide)).get_eq.trans pair
    · exact congrArg TriadPart.shuntReq (refused rfl (by decide)).tri_eq
  · exact .intro (exec_recover_failed acc failed low) ⟨congrArg TriadPart.recoverReq (State.set_tri ..), State.get_set_fits _ _ (by decide) (by decide)⟩
  · exact .intro (exec_recover_refused acc votes) ⟨State.get_set_fits _ _ (by decide) (by decide), (OnlyRegs.refl s).set, ((Within.refl s).set (by decide)).onlySlots⟩

end Sys2Proof.Machine
end

section
/-! PROOFS.
The servo and HOLD (spec/07, R166 to R179).
-/
namespace Sys2Proof.Machine
open Sys2Proof

section
variable {s : State} {m : Master}

/-! ## Cores in step -/

theorem State.perCore_inStep (inStep : InStep s) (f : State → State) : s.perCore f = f s := by
  unfold State.perCore
  rw [inStep.1]

theorem State.perLive_inStep (inStep : InStep s) (f : State → State) : s.perLive f = f s := by
  unfold State.perLive
  rw [if_pos (List.all_eq_true.mpr fun k mem => by simp [inStep.2 k (List.mem_range.mp mem)])]
  exact State.perCore_inStep inStep f

/-! ## The word sent (R166 to R168) -/

/-- A quotient of what a limit bounds is bounded by it. -/
theorem quot_bounded {n : Int} {d b : Nat} (pos : 0 < d) (least : -((b : Int) * d) ≤ n) (most : n ≤ b * d) : -(b : Int) ≤ quot n d ∧ quot n d ≤ b := by
  have dp : (0 : Int) < d := by exact_mod_cast pos
  have low : -(b : Int) ≤ n / d := by
    rw [Int.le_ediv_iff_mul_le dp]
    linarith
  have high : n / d ≤ b := by
    have := Int.ediv_le_ediv dp most
    rwa [Int.mul_ediv_cancel _ (by omega)] at this
  unfold quot
  split
  · exact ⟨low, high⟩
  next part =>
    have less : n / d < b := by
      rw [Int.ediv_lt_iff_lt_mul dp]
      refine lt_of_le_of_ne most fun eq => part ?_
      rw [eq]
      exact Int.mul_emod_left ..
    split <;> constructor <;> omega

/-- The model and the selector's state are taken up. -/
def State.servoTakes (s : State) (k : Nat) (now : Int) (host : Bool) : State :=
  let s := s.holdModel now
  if !host && !s.flag R.DUG_STATUS_FOLLOW && (decide (k = 0) || s.srv.hostSeen) then s.takeSel now else s

/-- The samples that are old enough are processed. -/
def State.servoFeeds (s : State) (now : Int) (host : Bool) : State :=
  let s := { s with srv := { s.srv with hostSeen := host, recent := s.srv.recent.filter (fun q => decide (now - 10 * secU < q)) } }.setFlag R.SRV_STATUS_HOST host
  let due := s.srv.feed.filter (fun f => decide (f.t + 2000 * nsU ≤ now))
  due.foldl (State.takeFeed now) { s with srv := { s.srv with feed := s.srv.feed.filter (fun f => decide (now < f.t + 2000 * nsU)) } }

/-- The bandwidth shows and the word is sent. -/
def State.servoSends (s : State) (now : Int) : State :=
  let s := (s.set R.SRV_STATUS_BW_NOW s.bwNow).setFlag R.SRV_STATUS_BW_LIMITED (decide (s.bwNow < s.setCode))
  s.sendWord (s.stateWord now)

/-- The word is kept for the means. -/
def State.servoKeeps (s : State) : State :=
  let s := if s.srvSt = 4 ∨ s.srvSt = 0 then s.wr R.HOLD_PRED_Y (s.rd R.SRV_FREQ_OUT) else s
  { s with srv := { s.srv with secSum := s.srv.secSum + s.getS R.SRV_FREQ_OUT_Y, secN := s.srv.secN + 1, secOk := s.srv.secOk && s.learns } }

/-- One update, the temperature in its register. -/
def State.servoRun (s : State) (k : Nat) (now : Int) (host : Bool) : State := (((s.servoTakes k now host).servoFeeds now host).servoSends now).servoKeeps

theorem State.servoUpdate_eq (s : State) (k : Nat) (temp : Int) :
    s.servoUpdate k temp = (s.setS R.HOLD_TEMP_T temp).servoRun k (s.voteTime (6250 * k)) (s.setS R.HOLD_TEMP_T temp).hostFeed := rfl

theorem exec_servoUpdate {k : Nat} {temp : Int} (inStep : InStep s) (running : s.ax.running = true) (starts : s.subStarts k = true) :
    exec (.servoUpdate k temp) s = .next ((s.servoUpdate k temp).tebUpdate.tebHoldRow (s.voteTime (6250 * k))) := by
  show execServoUpdate k temp s = _
  unfold execServoUpdate
  rw [if_neg (by simp [running, starts]), State.perCore_inStep inStep]

theorem Within.servoTakes {C : Cap} {k : Nat} {now : Int} {host : Bool} (may : Ok.holdModel C ∧ Ok.takeSel C) : Within C s (s.servoTakes k now host) :=
  .bind ((Within.refl s).holdModel may.1) fun h => .ite (h.takeSel may.2) h

theorem Within.servoFeeds {C : Cap} {now : Int} {host : Bool} (may : C (.part .srv) = true ∧ Ok.setFlag C R.SRV_STATUS_HOST ∧ Ok.takeFeed C) : Within C s (s.servoFeeds now host) :=
  .bind (((Within.refl s).updSrv may.1).setFlag may.2.1) fun h => .foldl (h.updSrv may.1) fun _ _ _ h => h.takeFeed may.2.2

theorem Within.servoKeeps {C : Cap} (may : Ok.wr C R.HOLD_PRED_Y ∧ C (.part .srv) = true) : Within C s s.servoKeeps :=
  .bind (.ite ((Within.refl s).wr may.1) (.refl s)) fun h => h.updSrv may.2

/-- The word sent is the quotient of the word of the state within the limit. -/
theorem State.sendWord_word (s : State) (raw : Int) : (s.sendWord raw).getS R.SRV_FREQ_OUT_Y = quot (clampInt (-s.wordLim) s.wordLim raw) 4294967296 ∧
    ((s.sendWord raw).getS R.SRV_FREQ_OUT_Y).natAbs ≤ s.get R.SRV_FREQ_LIM_Y := by
  unfold State.sendWord
  extract_lets w t _ u
  have word : w = clampInt (-s.wordLim) s.wordLim raw := rfl
  have bounded : -((min (s.get R.SRV_FREQ_LIM_Y) 34359738367 : Nat) : Int) ≤ quot w 4294967296 ∧ quot w 4294967296 ≤ (min (s.get R.SRV_FREQ_LIM_Y) 34359738367 : Nat) := by
    have lim : s.wordLim = ((min (s.get R.SRV_FREQ_LIM_Y) 34359738367 : Nat) : Int) * (4294967296 : Nat) := rfl
    rw [lim] at word
    refine quot_bounded (by decide) ?_ ?_ <;> rw [word] <;> unfold clampInt <;> omega
  have shown : ((u.setS R.SRV_FREQ_OUT_Y (quot w 4294967296)).setS R.SRV_INTEG_Y (clampInt (-34359738368) 34359738367 (quot u.srv.integ 4294967296))).getS R.SRV_FREQ_OUT_Y = quot w 4294967296 :=
    ((Within.refl _).setS (by decide)).getS_eq.trans (State.getS_setS _ _ _ (by decide) (by decide) (show -34359738368 ≤ quot w 4294967296 by omega) (show quot w 4294967296 < 34359738368 by omega))
  clear_value u w
  subst word
  refine ⟨shown, ?_⟩
  rw [shown]
  omega

theorem State.servoRun_word (s : State) (k : Nat) (now : Int) (host : Bool) : ((s.servoRun k now host).getS R.SRV_FREQ_OUT_Y).natAbs ≤ s.get R.SRV_FREQ_LIM_Y := by
  have fed {C : Cap} (may : (Ok.holdModel C ∧ Ok.takeSel C) ∧ C (.part .srv) = true ∧ Ok.setFlag C R.SRV_STATUS_HOST ∧ Ok.takeFeed C) : Within C s ((s.servoTakes k now host).servoFeeds now host) :=
    (Within.servoTakes may.1).trans (Within.servoFeeds may.2)
  have limit := (fed (by decide)).get_eq (g := R.SRV_FREQ_LIM_Y)
  unfold State.servoRun
  generalize (s.servoTakes k now host).servoFeeds now host = t at limit
  unfold State.servoSends
  extract_lets u
  have shown : u.get R.SRV_FREQ_LIM_Y = t.get R.SRV_FREQ_LIM_Y := (((Within.refl t).set (by decide)).setFlag (by decide)).get_eq
  rw [(Within.servoKeeps ⟨by decide, rfl⟩).getS_eq, ← limit, ← shown]
  exact (u.sendWord_word _).2

/-- In SWITCH_HOLD, away from subframe 0 and with nothing fed, the update leaves the state and the integral term. -/
theorem State.servoTakes_held (s : State) {k : Nat} (now : Int) {host : Bool} (later : k ≠ 0) (unseen : s.srv.hostSeen = false) (held : s.srvSt = 3) :
    (s.servoTakes k now host).srv = s.srv ∧ (s.servoTakes k now host).srvSt = 3 := by
  have model : s.holdModel now = s ∨ s.holdModel now = s.set R.HOLD_STATUS_MODEL (if s.flag R.SEL_STATUS_ATOM_HOLD then 0 else 1) := by
    unfold State.holdModel
    extract_lets n
    split
    · exact .inl rfl
    · rw [if_neg (by simp [held])]
      exact .inr rfl
  have kept : (s.holdModel now).srv = s.srv ∧ (s.holdModel now).srvSt = 3 := by
    rcases model with same | set_
    · rw [same]
      exact ⟨rfl, held⟩
    · rw [set_]
      exact ⟨State.set_srv .., ((Within.refl s).set (by decide)).get_eq.trans held⟩
  unfold State.servoTakes
  extract_lets t
  rw [if_neg (by simp [show t.srv.hostSeen = false from (congrArg SrvPart.hostSeen kept.1).trans unseen, later])]
  exact kept

theorem State.servoFeeds_none (s : State) (now : Int) (host : Bool) (none_ : s.srv.feed = []) : (s.servoFeeds now host).srv.integ = s.srv.integ ∧ (s.servoFeeds now host).srvSt = s.srvSt := by
  unfold State.servoFeeds
  extract_lets _ t due
  have feed : t.srv.feed = [] := (congrArg SrvPart.feed (State.setFlag_srv ..)).trans none_
  have isNone : due = [] := by
    show t.srv.feed.filter _ = []
    rw [feed]
    rfl
  rw [isNone]
  refine ⟨?_, ?_⟩
  · show t.srv.integ = s.srv.integ
    exact (congrArg SrvPart.integ (((Within.refl _).setFlag (by decide)).srv_eq (t := t))).trans rfl
  · show t.srvSt = s.srvSt
    exact ((Within.refl _).setFlag (by decide)).get_eq.trans rfl

theorem State.servoRun_held (s : State) {k : Nat} (now : Int) {host : Bool} (later : k ≠ 0) (unseen : s.srv.hostSeen = false) (held : s.srvSt = 3) (none_ : s.srv.feed = []) :
    (s.servoRun k now host).srvSt = 3 ∧ (s.servoRun k now host).getS R.SRV_FREQ_OUT_Y = quot (clampInt (-s.wordLim) s.wordLim s.srv.integ) 4294967296 := by
  obtain ⟨srv, state⟩ := s.servoTakes_held now (host := host) later unseen held
  obtain ⟨integ, state'⟩ := (s.servoTakes k now host).servoFeeds_none now host ((congrArg SrvPart.feed srv).trans none_)
  have fed {C : Cap} (may : (Ok.holdModel C ∧ Ok.takeSel C) ∧ C (.part .srv) = true ∧ Ok.setFlag C R.SRV_STATUS_HOST ∧ Ok.takeFeed C) : Within C s ((s.servoTakes k now host).servoFeeds now host) :=
    (Within.servoTakes may.1).trans (Within.servoFeeds may.2)
  have limit := (fed (by decide)).get_eq (g := R.SRV_FREQ_LIM_Y)
  rw [srv] at integ
  rw [state] at state'
  unfold State.servoRun
  generalize (s.servoTakes k now host).servoFeeds now host = t at limit integ state'
  unfold State.servoSends
  extract_lets u
  have shown {C : Cap} (may : Ok.set C R.SRV_STATUS_BW_NOW ∧ Ok.setFlag C R.SRV_STATUS_BW_LIMITED) : Within C t u := ((Within.refl t).set may.1).setFlag may.2
  have limit' : u.wordLim = s.wordLim := by
    unfold State.wordLim
    rw [(shown (by decide)).get_eq, limit]
  have stateU : u.srvSt = 3 := (shown (by decide)).get_eq.trans state'
  have raw : u.stateWord now = s.srv.integ := by
    unfold State.stateWord
    rw [stateU]
    exact (congrArg SrvPart.integ (State.setFlag_srv ..)).trans integ
  clear_value u
  rw [raw, (Within.servoKeeps ⟨by decide, rfl⟩).getS_eq, (u.sendWord_word _).1, limit']
  exact ⟨((Within.servoKeeps (by decide)).get_eq.trans ((Within.refl u).sendWord (by decide)).get_eq).trans stateU, rfl⟩

/-! ## The host feed (R173, R174) -/

theorem exec_hostFeedMode {v : Word} (inStep : InStep s) (opened : Open s m R.SRV_FEED_CTRL) : exec (.hostFeedMode m v) s = .next (if (s.putFeedCtrl v).hostFeed = s.hostFeed then s.putFeedCtrl v
    else State.trig { s.putFeedCtrl v with sel := { (s.putFeedCtrl v).sel with firstNext := s.hostFeed || (s.putFeedCtrl v).sel.firstNext } } 2 0x40 [(s.putFeedCtrl v).srvSt, (s.putFeedCtrl v).srvSt]) := by
  show execHostFeedMode m v s = _
  unfold execHostFeedMode
  rw [hostWrite_open opened, State.perLive_inStep inStep]

/-- The fields of FEED_CTRL as they are written. -/
def State.feedFields (s : State) (v : Word) : State := (s.set R.SRV_FEED_CTRL_RATE (R.SRV_FEED_CTRL_RATE.of v)).set R.SRV_FEED_CTRL_HOST (R.SRV_FEED_CTRL_HOST.of v)

theorem State.feedFields_spec (s : State) (v : Word) : (s.feedFields v).get R.SRV_FEED_CTRL_HOST = R.SRV_FEED_CTRL_HOST.of v ∧ (s.feedFields v).get R.SRV_FEED_CTRL_RATE = R.SRV_FEED_CTRL_RATE.of v :=
  ⟨State.get_set_fits _ _ (by decide) (Fld.of_lt _ _), ((Within.refl _).set (by decide)).get_eq.trans (State.get_set_fits _ _ (by decide) (Fld.of_lt _ _))⟩

/-- A feed that is switched starts empty. -/
def State.feedSwitched (s : State) (was : Bool) : State :=
  (State.set { s with srv := { s.srv with feed := [], firstNext := !was, keepI := was } } R.SRV_STATUS_SLOT 15).raise P.SRV E.SRV_HOST_MODE

theorem State.putFeedCtrl_eq (s : State) (v : Word) : s.putFeedCtrl v = if (s.feedFields v).hostFeed = s.hostFeed then s.feedFields v else (s.feedFields v).feedSwitched s.hostFeed := rfl

theorem InStep.congr {t : State} (h : InStep s) (cores : t.cores = s.cores) (isl : t.isl = s.isl) (clocks : t.get R.AO_ISLCLK_FAIL_ISLANDS = s.get R.AO_ISLCLK_FAIL_ISLANDS) : InStep t := by
  refine ⟨cores ▸ h.1, fun k low => ?_⟩
  have dead := h.2 k low
  unfold State.islandDead State.up at dead ⊢
  rwa [isl, clocks]

/-- The host's sample in the register of one core. -/
def State.feedPut (s : State) (o : Int) : State :=
  let t := s.wrS R.SRV_OFFSET_FEED o
  let t := if t.srv.feed = [] then t else t.bump R.SRV_FEED_OVERRUN_COUNT
  { t with srv := { t.srv with firstNext := false } }

/-- The host's sample as RH stamps it. -/
def State.feedSample (s : State) (o : Int) (tick : Nat) : FeedSample :=
  { slot := 15, freq := false, first := s.srv.firstNext || s.srv.feed.any (fun f => f.first), cold := !s.flag R.VOTE_OSC_STAT_OCXO_WARM, t := s.rhTime tick, o := o }

theorem exec_hostOffsetSubmit_on {low : Word} {tick : Nat} (inStep : InStep s) (opened : Open s m (R.SRV_OFFSET_FEED + 1)) (on : s.get R.SRV_FEED_CTRL_HOST = 1) :
    exec (.hostOffsetSubmit m low tick) s =
      .next (((s.clearStaged m).feedPut (s.commitS72 m R.SRV_OFFSET_FEED low)).sendFeed (s.feedSample (s.commitS72 m R.SRV_OFFSET_FEED low) tick)) := by
  have inStep' : InStep (s.clearStaged m) := inStep.congr (Within.refl s).clearStaged.cores_eq (Within.refl s).clearStaged.isl_eq (Within.refl s).clearStaged.get_eq
  show execHostOffsetSubmit m low tick s = _
  unfold execHostOffsetSubmit
  rw [hostWrite_open opened]
  refine congrArg _ ((if_neg ?_).trans ?_)
  · unfold State.hostFeed
    simp [State.flag_of_get on]
  · exact congrArg (fun t => State.sendFeed t (s.feedSample (s.commitS72 m R.SRV_OFFSET_FEED low) tick)) (State.perLive_inStep inStep' _)

theorem exec_hostOffsetSubmit_off {low : Word} {tick : Nat} (inStep : InStep s) (opened : Open s m (R.SRV_OFFSET_FEED + 1)) (off : s.get R.SRV_FEED_CTRL_HOST = 0) :
    exec (.hostOffsetSubmit m low tick) s = .next ((s.clearStaged m).bump R.SRV_FEED_REJ_COUNT) := by
  have inStep' : InStep (s.clearStaged m) := inStep.congr (Within.refl s).clearStaged.cores_eq (Within.refl s).clearStaged.isl_eq (Within.refl s).clearStaged.get_eq
  show execHostOffsetSubmit m low tick s = _
  unfold execHostOffsetSubmit
  rw [hostWrite_open opened]
  refine congrArg _ ((if_pos ?_).trans (State.perLive_inStep inStep' _))
  unfold State.hostFeed
  simp [State.flag_of_get_zero off]

theorem State.feedPut_overrun (s : State) (o : Int) (waits : s.srv.feed ≠ []) :
    (s.feedPut o).get R.SRV_FEED_OVERRUN_COUNT = min (s.get R.SRV_FEED_OVERRUN_COUNT + 1) (2 ^ R.SRV_FEED_OVERRUN_COUNT.w - 1) := by
  unfold State.feedPut
  extract_lets t u
  have isU : u = t.bump R.SRV_FEED_OVERRUN_COUNT := if_neg waits
  show u.get R.SRV_FEED_OVERRUN_COUNT = _
  rw [isU, State.bump_get_same _ _ (by decide), ((Within.refl s).wrS (by decide)).get_eq]

theorem Within.feedPut {C : Cap} {o : Int} (may : Ok.wrS C R.SRV_OFFSET_FEED ∧ Ok.bump C R.SRV_FEED_OVERRUN_COUNT ∧ C (.part .srv) = true) : Within C s (s.feedPut o) :=
  .bind ((Within.refl s).wrS may.1) fun h => .bind (.ite h (h.bump may.2.1)) fun h => h.updSrv may.2.2

theorem State.linkOpen_congr {t : State} (isl : t.isl = s.isl) (clocks : t.get R.AO_ISLCLK_FAIL_ISLANDS = s.get R.AO_ISLCLK_FAIL_ISLANDS) (src dst ch : Nat) :
    t.linkOpen src dst ch = s.linkOpen src dst ch := by
  unfold State.linkOpen State.linkUp State.up
  rw [isl, clocks]

/-- Over three open couplings a sample reaches the cores. -/
theorem State.sendFeed_open (s : State) (f : FeedSample) (inStep : InStep s) (links : ∀ k, k < 3 → s.linkOpen islRH (2 + k) 0 = true) :
    s.sendFeed f = { s with srv := (s.mainImg.take (s.flag R.SRV_FEED_CTRL_HOST) f).srv } := by
  unfold State.sendFeed
  extract_lets host shut waits
  rw [if_pos (List.all_eq_true.mpr fun k mem => by
    show (!(!s.linkOpen 6 (2 + k) 0)) = true
    rw [Bool.not_not]
    exact links k (List.mem_range.mp mem))]
  exact State.perCore_inStep inStep _

/-- The feed's mode is its bit. -/
theorem State.feedFields_mode (s : State) (v : Word) : (s.feedFields v).hostFeed = s.hostFeed ↔ R.SRV_FEED_CTRL_HOST.of v = s.get R.SRV_FEED_CTRL_HOST := by
  have new := (s.feedFields_spec v).1
  have bit : R.SRV_FEED_CTRL_HOST.of v < 2 := Fld.of_lt _ _
  have bit' : s.get R.SRV_FEED_CTRL_HOST < 2 := State.get_lt s R.SRV_FEED_CTRL_HOST
  unfold State.hostFeed State.flag
  rw [new, decide_eq_decide]
  omega

/-- A change of the feed's mode empties the feed and is told. -/
theorem State.feedSwitched_spec (s : State) (was : Bool) : (s.feedSwitched was).srv.feed = [] ∧ Event (s.feedSwitched was) P.SRV E.SRV_HOST_MODE ∧
    (s.feedSwitched was).get R.SRV_FEED_CTRL_HOST = s.get R.SRV_FEED_CTRL_HOST ∧ (s.feedSwitched was).get R.SRV_FEED_CTRL_RATE = s.get R.SRV_FEED_CTRL_RATE := by
  have quiet {C : Cap} (may : C (.part .srv) = true ∧ Ok.set C R.SRV_STATUS_SLOT ∧ Ok.raise C P.SRV) : Within C s (s.feedSwitched was) :=
    (((Within.refl s).updSrv may.1).set may.2.1).raise may.2.2
  exact ⟨(congrArg SrvPart.feed (((Within.refl _).set (by decide)).raise (by decide)).srv_eq).trans rfl, event_raise _ _ _ (by decide), (quiet (by decide)).get_eq, (quiet (by decide)).get_eq⟩

/-! ## The hourly fit and the periodic record (R177, R179) -/

/-- The hours that are kept, and whether a fit is due, are the same in both states. -/
abbrev SameHours (s t : State) : Prop := t.hold.fitDue = s.hold.fitDue ∧ t.hold.hours = s.hold.hours

theorem SameHours.fitted {t : State} {h : HoldPart} {a b c : Nat} (same : h = s.hold) : SameHours s { t with hold := { h with tcFitted := true, sY0 := a, sAge := b, sTc := c } } := by
  subst same
  exact ⟨rfl, rfl⟩

theorem SameHours.fittedAge {t : State} {h : HoldPart} {a b : Nat} (same : h = s.hold) : SameHours s { t with hold := { h with sY0 := a, sAge := b } } := by
  subst same
  exact ⟨rfl, rfl⟩

theorem State.fitHours_hold (s : State) : SameHours s s.fitHours := by
  unfold State.fitHours
  extract_lets l n at0 t th z w st stt hi lo put stw sww sz stz swz d d0 d1 d2 rss den s1 s2 src2 tc zz sz' stz' d' d0' d1' rss' den' s3 src3
  have two : src2 = s.hold := rfl
  have three : src3 = s.hold := rfl
  split
  · split
    exacts [⟨rfl, rfl⟩, SameHours.fitted two]
  · split
    exacts [⟨rfl, rfl⟩, SameHours.fittedAge three]

theorem exec_holdFit (inStep : InStep s) (due : s.hold.fitDue = true) : exec .holdFit s = .next (if 24 ≤ s.hold.hours.length then
    (State.fitHours { s with hold := { s.hold with fitDue := false } }).holdRec 5 else { s with hold := { s.hold with fitDue := false } }) := by
  show execHoldFit s = _
  unfold execHoldFit
  rw [if_pos due, State.perCore_inStep inStep]

theorem exec_holdRecordPeriod (inStep : InStep s) (learnt : s.learn = 2) (locked : s.srvSt ≠ 4) (due : s.getOr R.HOLD_REC_PERIOD_S 600 86400 3600 ≤ s.hold.recSecs) :
    exec .holdRecordPeriod s = .next s.writeHold := by
  show execHoldRecordPeriod s = _
  unfold execHoldRecordPeriod
  rw [if_pos ⟨learnt, locked, due⟩, State.perCore_inStep inStep]

end

/-- Settles O15. Every word sent is the quotient of a word that the limit bounds, whatever the state; in SWITCH_HOLD, with nothing fed and away from subframe 0, no stage before the word changes the
state or the integral term. Cores in step have one copy between them. -/
theorem servoSendsItsWordAndHoldRecords : Obligations.ServoSendsItsWordAndHoldRecords := by
  unfold Obligations.ServoSendsItsWordAndHoldRecords
  refine ⟨fun s k temp inStep running starts => ?_, fun s m v inStep opened => ?_, fun s m low tick inStep opened => ⟨fun on links => ?_, fun off => ?_⟩, fun s inStep due => ?_,
    fun s inStep learnt locked due => ?_⟩
  · refine .intro (exec_servoUpdate inStep running starts) ?_
    have wrote {C : Cap} (may : Ok.setS C R.HOLD_TEMP_T) : Within C s (s.setS R.HOLD_TEMP_T temp) := (Within.refl s).setS may
    have after {C : Cap} (t : State) (now : Int) (may : Ok.tebUpdate C ∧ Ok.tebHoldRow C) : Within C t (t.tebUpdate.tebHoldRow now) := ((Within.refl t).tebUpdate may.1).tebHoldRow may.2
    refine ⟨?_, fun later off unseen _ held none_ => ⟨?_, ?_⟩⟩
    · rw [(after _ _ (by decide)).getS_eq, State.servoUpdate_eq, ← (wrote (by decide)).get_eq (g := R.SRV_FREQ_LIM_Y)]
      exact State.servoRun_word ..
    · obtain ⟨state, _⟩ := (s.setS R.HOLD_TEMP_T temp).servoRun_held (s.voteTime (6250 * k)) (host := (s.setS R.HOLD_TEMP_T temp).hostFeed) later unseen ((wrote (by decide)).get_eq.trans held) none_
      rw [State.servoUpdate_eq]
      exact (after _ _ (by decide)).get_eq.trans state
    · obtain ⟨_, word⟩ := (s.setS R.HOLD_TEMP_T temp).servoRun_held (s.voteTime (6250 * k)) (host := (s.setS R.HOLD_TEMP_T temp).hostFeed) later unseen ((wrote (by decide)).get_eq.trans held) none_
      have limit : (s.setS R.HOLD_TEMP_T temp).wordLim = s.wordLim := by
        unfold State.wordLim
        rw [(wrote (by decide)).get_eq]
      rw [(after _ _ (by decide)).getS_eq, State.servoUpdate_eq, word, limit]
      rfl
  · refine .intro (exec_hostFeedMode inStep opened) ?_
    obtain ⟨host, rate⟩ := s.feedFields_spec v
    by_cases same : (s.feedFields v).hostFeed = s.hostFeed
    · have put : s.putFeedCtrl v = s.feedFields v := (s.putFeedCtrl_eq v).trans (if_pos same)
      rw [put, if_pos same]
      exact ⟨host, rate, fun changes => absurd ((s.feedFields_mode v).mp same) changes, fun _ => ⟨(OnlyRegs.refl s).set.set, (((Within.refl s).set (by decide)).set (by decide)).onlySlots⟩⟩
    · obtain ⟨none_, told, host', rate'⟩ := (s.feedFields v).feedSwitched_spec s.hostFeed
      have put : s.putFeedCtrl v = (s.feedFields v).feedSwitched s.hostFeed := (s.putFeedCtrl_eq v).trans (if_neg same)
      have still : ((s.feedFields v).feedSwitched s.hostFeed).hostFeed = (s.feedFields v).hostFeed := by
        show decide (_ = 1) = decide (_ = 1)
        rw [host']
      rw [put, still, if_neg same]
      generalize (s.feedFields v).feedSwitched s.hostFeed = t at none_ told host' rate'
      have quiet {C : Cap} (c : List Nat) (x : SelPart) (may : C (.part .sel) = true) : Within C t (State.trig { t with sel := x } 2 0x40 c) := ((Within.refl t).updSel may).trig
      exact ⟨(quiet _ _ rfl).get_eq.trans (host'.trans host), (quiet _ _ rfl).get_eq.trans (rate'.trans rate),
        fun _ => ⟨(congrArg SrvPart.feed (quiet _ _ rfl).srv_eq).trans none_, (quiet _ _ rfl).event told⟩, fun equal => absurd ((s.feedFields_mode v).mpr equal) same⟩
  · have cleared {C : Cap} : Within C s (s.clearStaged m) := (Within.refl s).clearStaged
    have put {C : Cap} (may : Ok.wrS C R.SRV_OFFSET_FEED ∧ Ok.bump C R.SRV_FEED_OVERRUN_COUNT ∧ C (.part .srv) = true) :
        Within C s ((s.clearStaged m).feedPut (s.commitS72 m R.SRV_OFFSET_FEED low)) := cleared.trans (Within.feedPut may)
    have inStep' := inStep.congr (put (by decide)).cores_eq (put (by decide)).isl_eq (put (by decide)).get_eq
    have links' : ∀ k, k < 3 → ((s.clearStaged m).feedPut (s.commitS72 m R.SRV_OFFSET_FEED low)).linkOpen islRH (2 + k) 0 = true := fun k lowK =>
      (State.linkOpen_congr (put (by decide)).isl_eq (put (by decide)).get_eq ..).trans (links k lowK)
    have on' : ((s.clearStaged m).feedPut (s.commitS72 m R.SRV_OFFSET_FEED low)).flag R.SRV_FEED_CTRL_HOST = true := State.flag_of_get ((put (by decide)).get_eq.trans on)
    refine .intro (exec_hostOffsetSubmit_on inStep opened on) ⟨?_, fun waits => ?_⟩
    · rw [State.sendFeed_open _ _ inStep' links', on']
      rfl
    · rw [State.sendFeed_open _ _ inStep' links']
      exact (State.feedPut_overrun (s.clearStaged m) _ (by rw [cleared.srv_eq]; exact waits)).trans (by rw [cleared.get_eq])
  · have cleared {C : Cap} : Within C s (s.clearStaged m) := (Within.refl s).clearStaged
    refine .intro (exec_hostOffsetSubmit_off inStep opened off) ⟨(cleared.bump (by decide)).srv_eq, ?_⟩
    rw [State.bump_get_same _ _ (by decide), cleared.get_eq]
  · refine .intro (exec_holdFit inStep due) ⟨?_, ?_, fun few => ?_⟩
    · split
      · exact (congrArg HoldPart.fitDue ((Within.refl _).trig).hold_eq).trans (State.fitHours_hold _).1
      · rfl
    · split
      · exact (congrArg HoldPart.hours ((Within.refl _).trig).hold_eq).trans (State.fitHours_hold _).2
      · rfl
    · rw [if_neg (Nat.not_le.2 few)]
  · exact .intro (exec_holdRecordPeriod inStep learnt locked due) ⟨rfl, nvPut_newest_payload s .holdover 0x30 s.holdPayload [0x30] _ rfl⟩

end Sys2Proof.Machine
end

section
/-! PROOFS.
The outputs (spec/08, R198 to R209).
-/
namespace Sys2Proof.Machine
open Sys2Proof

/-! ## Loops over the outputs -/

theorem foldl_keeps_of_mem {α σ β : Type} (f : σ → α → σ) (g : σ → β) (l : List α) (keeps : ∀ t, ∀ x ∈ l, g (f t x) = g t) (s : σ) : g (l.foldl f s) = g s := by
  induction l generalizing s with
  | nil => rfl
  | cons x l ih => rw [List.foldl_cons, ih (fun t y m => keeps t y (List.mem_cons_of_mem _ m)), keeps s x List.mem_cons_self]

/-- Of a loop over a range in which each turn leaves what it does not number, one turn decides. -/
theorem foldl_range_at {σ β : Type} (f : σ → Nat → σ) (g : σ → β) {o n : Nat} (low : o < n) (other : ∀ t, ∀ j < n, j ≠ o → g (f t j) = g t) (s : σ) :
    ∃ u, g u = g s ∧ g ((List.range n).foldl f s) = g (f u o) := by
  induction n with
  | zero => exact absurd low (Nat.not_lt_zero _)
  | succ n ih =>
    rw [List.range_succ, List.foldl_append, List.foldl_cons, List.foldl_nil]
    rcases Nat.lt_succ_iff_lt_or_eq.mp low with less | rfl
    · obtain ⟨u, same, turn⟩ := ih less fun t j lowJ => other t j (by omega)
      exact ⟨u, same, (other _ n (by omega) (by omega)).trans turn⟩
    · exact ⟨_, foldl_keeps_of_mem f g _ (fun t j m => other t j (by have := List.mem_range.mp m; omega) (by have := List.mem_range.mp m; omega)) s, rfl⟩

section
variable {s : State} {m : Master} {o : Nat}

/-! ## What is kept and shown of one output -/

/-- The slots of an S72 register. -/
abbrev slotsS (a : Nat) : List Nat := [a, a + 1]

theorem Within.rdS_eq {a : Nat} {t : State} (h : Within (Cap.outside (slotsS a)) s t) : t.rdS a = s.rdS a := by
  unfold State.rdS
  rw [h.rd_outside (by simp), h.rd_outside (by simp)]

/-- What a clause about one output speaks of: what RH keeps for it, its source and its MISALIGN. -/
def State.outView (s : State) (o : Nat) : OutState × Nat × Int := (s.outOf o, s.get (outSrc o), s.rdS (misSlot o))

theorem State.outOf_putOut_same (s : State) (o : Nat) (c : OutState) : (s.putOut o c).outOf o = c := kvGetD_kvPut_same ..

theorem State.outOf_putOut_other (s : State) {o j : Nat} (c : OutState) (ne : o ≠ j) : (s.putOut j c).outOf o = s.outOf o := kvGetD_kvPut_other _ _ _ _ _ ne

theorem State.outOf_congr {t : State} (out : t.out = s.out) (o : Nat) : t.outOf o = s.outOf o := by
  unfold State.outOf
  rw [out]

/-- What leaves the outputs, an output's source and its MISALIGN leaves the view of it. -/
theorem State.outView_congr {t : State} (out : t.outOf o = s.outOf o) (src : t.get (outSrc o) = s.get (outSrc o)) (mis : t.rdS (misSlot o) = s.rdS (misSlot o)) : t.outView o = s.outView o := by
  unfold State.outView
  rw [out, src, mis]

theorem outSrc_fits : ∀ o < 8, (outSrc o).lo + (outSrc o).w ≤ 36 ∧ (outDrv o).lo + (outDrv o).w ≤ 36 := by decide

/-- The moves of an output that is taken leave its source and what else is kept for it. -/
theorem State.takeMoves_other (s : State) {j : Nat} (lowJ : j < 8) (low : o < 8) (ne : j ≠ o) (room : Int) : (s.takeMoves j room).outView o = s.outView o := by
  have src : ∀ j < 8, ∀ o < 8, Ok.takeMoves (Cap.away (outSrc o)) j := by decide
  have mis : ∀ j < 8, ∀ o < 8, j ≠ o → Ok.takeMoves (Cap.outside (slotsS (misSlot o))) j := by decide
  have out : ∀ j < 8, Ok.setMisalign (Cap.sparing .out) j := by decide
  refine State.outView_congr ?_ ((Within.refl s).takeMoves (src j lowJ o low)).get_eq ((Within.refl s).takeMoves (mis j lowJ o low ne)).rdS_eq
  exact (State.outOf_congr ((Within.refl _).setMisalign (out j lowJ)).out_eq o).trans (State.outOf_putOut_other s _ ne.symm)

theorem State.putSrc_src (s : State) {n : Nat} (low : o < 8) (fits : n < 4) : (s.putSrc o n).get (outSrc o) = n := by
  unfold State.putSrc
  extract_lets old
  split
  next same => exact same
  next => exact (Within.refl _).trig.get_eq.trans (State.get_set_fits _ _ (outSrc_fits o low).1 fits)

theorem State.setMisalign_zero (s : State) (low : o < 8) : (s.setMisalign o 0).rdS (misSlot o) = 0 := by
  have event : ∀ o < 8, Ok.showMisalign (Cap.outside (slotsS (misSlot o))) := by decide
  unfold State.setMisalign
  split
  next same => exact same
  next => exact ((Within.refl _).showMisalign (event o low)).rdS_eq.trans (State.wrS_rdS_same _ _ 0 (by decide) (by decide))

/-! ## Sources, pulses and faults (R198 to R203, R209) -/

variable {n : Nat}

theorem exec_clkReturnToPll (low : n < 4) (up : s.up islRH = true) (bypass : s.get (outSrc n) = 2) (locked : s.get (R.PLL_STATUS_STATE (s.get (R.OUT_CLK_CFG_PLL n))) = 3) :
    exec (.clkReturnToPll n) s = .next ((s.changeSrc n 1).showBypass) := by
  show execClkReturnToPll n s = _
  unfold execClkReturnToPll
  rw [withUnit_next low, State.inRh_up up, if_pos ⟨bypass, locked⟩]

/-- The output begins a full period. -/
def State.begun (s : State) (o : Nat) : State := (s.setMisalign o 0).putOut o (s.outOf o).stopped

theorem exec_started (low : o < 8) (up : s.up islRH = true) (muted : s.get (outSrc o) = 0) (en : s.outEn o = true) (page : s.get (R.PG_CTRL_EN P.OUT) = 1) (starts : s.startHolds o = true)
    (free : (s.outOf o).drvHeld = false) : exec (.started o) s =
      .next (((if o < 4 then s.begun o else (s.begun o).pulseRise o (s.pulseNext (o - 4) (s.rhTime 0 * 1000)) ((s.begun o).pulseGrid (o - 4) (s.pulseNext (o - 4) (s.rhTime 0 * 1000)))).putSrc o 1).raise
        P.OUT E.OUT_STARTED) := by
  show execStarted o s = _
  unfold execStarted
  rw [withUnit_next low, State.inRh_up up, if_pos ⟨muted, en, State.flag_of_get page, starts, by simp [free]⟩]
  rfl

/-- The pulse falls. -/
def State.pulseFall (s : State) (o : Nat) : State :=
  let c := s.outOf o
  (s.putOut o { c with high := false, nextT := c.lastRise + c.per, edge := s.placedEdge c.nextT }).takeMoves o (c.per - c.hi)

theorem exec_pulseEdge (low : n < 4) (up : s.up islRH = true) (runs : s.get (outSrc (n + 4)) = 1) : exec (.pulseEdge n) s = .next (if (s.outOf (n + 4)).high then s.pulseFall (n + 4)
    else if (s.outOf (n + 4)).ending || s.squelched (n + 4) then s.muteOut (n + 4) else s.pulseRise (n + 4) ((s.outOf (n + 4)).idx + 1) (s.outOf (n + 4)).nextT) := by
  show execPulseEdge n s = _
  unfold execPulseEdge
  rw [withUnit_next low, State.inRh_up up]
  exact congrArg _ (if_neg (by simp [runs]))

/-- What moves leave of the output that takes them. -/
theorem State.takeMoves_same (s : State) (low : o < 8) (room : Int) : ((s.takeMoves o room).outOf o).high = (s.outOf o).high ∧ ((s.takeMoves o room).outOf o).idx = (s.outOf o).idx ∧
    ((s.takeMoves o room).outOf o).named = (s.outOf o).named := by
  have out : ∀ j < 8, Ok.setMisalign (Cap.sparing .out) j := by decide
  unfold State.takeMoves
  extract_lets c w low' lo hi a b keep d t
  have kept : t.outOf o = _ := State.outOf_putOut_same s o _
  clear_value t
  rw [State.outOf_congr ((Within.refl t).setMisalign (out o low)).out_eq, kept]
  exact ⟨rfl, rfl, rfl⟩

theorem State.pulseFall_spec (s : State) (low : o < 8) : ((s.pulseFall o).outOf o).high = false ∧ ((s.pulseFall o).outOf o).idx = (s.outOf o).idx := by
  unfold State.pulseFall
  extract_lets c
  obtain ⟨high, idx, _⟩ := State.takeMoves_same (s.putOut o { c with high := false, nextT := c.lastRise + c.per, edge := s.placedEdge c.nextT }) low (c.per - c.hi)
  rw [high, idx, State.outOf_putOut_same]
  exact ⟨rfl, rfl⟩

theorem State.pulseRise_spec (s : State) (k t : Int) : ((s.pulseRise o k t).outOf o).high = true ∧ ((s.pulseRise o k t).outOf o).idx = k ∧ ((s.pulseRise o k t).outOf o).lastRise = t := by
  unfold State.pulseRise
  extract_lets h _
  rw [State.outOf_putOut_same]
  exact ⟨rfl, rfl, rfl⟩

/-- An output that mutes has no source. -/
theorem State.muteOut_src (s : State) (low : o < 8) : (s.muteOut o).get (outSrc o) = 0 := by
  have may : ∀ o < 8, (Ok.set (Cap.away (outSrc o)) (outSlewing o) ∧ Ok.setMisalign (Cap.away (outSrc o)) o) ∧ Ok.showBypass (Cap.away (outSrc o)) ∧ Ok.showOutBusy (Cap.away (outSrc o)) := by decide
  obtain ⟨⟨slewing, mis⟩, bypass, busy⟩ := may o low
  unfold State.muteOut
  exact ((((((Within.refl _).set slewing).putOut rfl).setMisalign mis).showBypass bypass).showOutBusy busy).get_eq.trans (State.putSrc_src s low (by decide))

theorem exec_drvFault (low : o < 8) (up : s.up islRH = true) (runs : s.get (outSrc o) = 1 ∨ s.get (outSrc o) = 2) : exec (.drvFault o) s =
    .next (((((s.muteOut o).set (outDrv o) 1).putOut o { (s.muteOut o).outOf o with drvHeld := true }).lineOn 8 (1 + o)).raise P.OUT E.OUT_DRV_FAULT) := by
  show execDrvFault o s = _
  unfold execDrvFault
  rw [withUnit_next low, State.inRh_up up]
  exact congrArg _ (if_pos runs)

/-- An output with a drive fault is muted, shows it and is held. -/
theorem State.drvFault_spec (s : State) (low : o < 8) (c : OutState) (held : c.drvHeld = true) :
    let t := ((((s.muteOut o).set (outDrv o) 1).putOut o c).lineOn 8 (1 + o)).raise P.OUT E.OUT_DRV_FAULT
    t.get (outSrc o) = 0 ∧ t.get (outDrv o) = 1 ∧ (t.outOf o).drvHeld = true ∧ (8, 1 + o) ∈ t.flt.causes ∧ Event t P.OUT E.OUT_DRV_FAULT := by
  have may : ∀ o < 8, (Ok.set (Cap.away (outSrc o)) (outDrv o) ∧ Ok.lineOn (Cap.away (outSrc o)) ∧ Ok.raise (Cap.away (outSrc o)) P.OUT) ∧
      Ok.lineOn (Cap.away (outDrv o)) ∧ Ok.raise (Cap.away (outDrv o)) P.OUT := by decide
  obtain ⟨⟨drv, line, event⟩, line', event'⟩ := may o low
  refine ⟨?_, ?_, ?_, ?_, event_raise _ _ _ (by decide)⟩
  · exact (((((Within.refl _).set drv).putOut rfl).lineOn line).raise event).get_eq.trans (s.muteOut_src low)
  · exact ((((Within.refl _).putOut rfl).lineOn line').raise event').get_eq.trans (State.get_set_fits _ _ (outSrc_fits o low).2 (by decide : 1 < 2 ^ 1))
  · rw [State.outOf_congr (((Within.refl _).lineOn (by decide)).raise (by decide)).out_eq, State.outOf_putOut_same]
    exact held
  · rw [((Within.refl _).raise (by decide)).flt_eq]
    exact State.lineOn_causes ..

/-! ## REALIGN (R205) -/

/-- One turn of REALIGN: a named output that runs is to move by its misalignment. -/
def State.realignTurn (t : State) (clk pulse : Nat) (now : Int) (o : Nat) : State :=
  let src := t.get (outSrc o)
  if (if o < 4 then bitOn clk o else bitOn pulse (o - 4)) && decide (src = 1 ∨ src = 2) then
    let c := t.outOf o
    let t := t.putOut o { c with named := true, move := -(t.rdS (misSlot o)) * s72X }
    if o < 4 then t.setFlag (outSlewing o) (decide (t.rdS (misSlot o) ≠ 0))
    else if !c.high && decide (now + 1000 * nsX ≤ c.nextT) then t.takeMoves o (c.nextT - now) else t
  else t

theorem exec_outRealign {clk pulse tick : Nat} (acc : Accepts s m R.OUT_REALIGN_STATUS) : exec (.outRealign m clk pulse tick) s =
    .next ((List.range 8).foldl (fun t o => t.realignTurn clk pulse ((s.set R.OUT_REALIGN_STATUS 1).rhTime tick * 1000) o) (s.set R.OUT_REALIGN_STATUS 1)) := by
  show execOutRealign m clk pulse tick s = _
  unfold execOutRealign
  rw [hostCmd_accepts acc]
  rfl

theorem Within.realignTurn {C : Cap} {clk pulse : Nat} {now : Int} (may : C (.part .out) = true ∧ Ok.setFlag C (outSlewing o) ∧ Ok.takeMoves C o) : Within C s (s.realignTurn clk pulse now o) :=
  .ite (.ite (((Within.refl s).putOut may.1).setFlag may.2.1) (.ite (((Within.refl s).putOut may.1).takeMoves may.2.2) ((Within.refl s).putOut may.1))) (.refl s)

theorem State.realignTurn_other (s : State) (clk pulse : Nat) (now : Int) {j : Nat} (lowJ : j < 8) (low : o < 8) (ne : j ≠ o) : (s.realignTurn clk pulse now j).outView o = s.outView o := by
  have src : ∀ j < 8, ∀ o < 8, Ok.setFlag (Cap.away (outSrc o)) (outSlewing j) := by decide
  have mis : ∀ j < 8, ∀ o < 8, Ok.setFlag (Cap.outside (slotsS (misSlot o))) (outSlewing j) := by decide
  unfold State.realignTurn
  extract_lets d c t
  have put : t.outView o = s.outView o := State.outView_congr (State.outOf_putOut_other s _ ne.symm) rfl rfl
  clear_value t
  have slews (b : Bool) : (t.setFlag (outSlewing j) b).outView o = t.outView o :=
    State.outView_congr (State.outOf_congr (State.setFlag_out ..) o) ((Within.refl t).setFlag (src j lowJ o low)).get_eq ((Within.refl t).setFlag (mis j lowJ o low)).rdS_eq
  have moved (r : Int) : (t.takeMoves j r).outView o = s.outView o := (t.takeMoves_other lowJ low ne r).trans put
  split
  · split
    exacts [(slews _).trans put, rfl]
  · split
    · split
      exacts [moved _, put]
    · rfl

/-- What the turn of a named output that runs gives it. -/
theorem State.realignTurn_same (s : State) {clk pulse : Nat} (now : Int) (low : o < 8) (named : (if o < 4 then bitOn clk o else bitOn pulse (o - 4)) = true)
    (runs : s.get (outSrc o) = 1 ∨ s.get (outSrc o) = 2) :
    ((s.realignTurn clk pulse now o).outOf o).named = true ∧ (o < 4 → ((s.realignTurn clk pulse now o).outOf o).move = -(s.rdS (misSlot o)) * s72X) := by
  unfold State.realignTurn
  extract_lets d c t
  have put : t.outOf o = { c with named := true, move := -(s.rdS (misSlot o)) * s72X } := State.outOf_putOut_same ..
  clear_value t
  have runs' : d = 1 ∨ d = 2 := runs
  rw [named, if_pos (by simp [runs'])]
  split
  · rw [State.outOf_congr (State.setFlag_out ..), put]
    exact ⟨rfl, fun _ => rfl⟩
  next high =>
    refine ⟨?_, fun less => absurd less high⟩
    split
    · rw [(t.takeMoves_same low _).2.2, put]
    · rw [put]

/-- One turn of the end of a REALIGN: a named output has moved. -/
def State.alignedTurn (t : State) (o : Nat) : State :=
  let c := t.outOf o
  if c.named then
    let t := t.putOut o { c with named := false, move := 0 }
    let t := t.setMisalign o (t.rdS (misSlot o) + c.move / s72X)
    let t := if o < 4 then t.setFlag (outSlewing o) (decide (c.compMove ≠ 0)) else t
    t.trig islRH 0x50 [o, t.get (outSrc o), t.get (outSrc o)]
  else t

/-- An output with a move left but what it slews in less than a millisecond. -/
def State.moveLeft (s : State) (o : Nat) : Bool :=
  (s.outOf o).named && (if o < 4 then decide ((s.get1 R.OUT_CLK_SLEW_PS_PER_US * nsX : Int) < ((s.outOf o).move.natAbs : Int)) else decide ((s.outOf o).move ≠ 0))

theorem exec_realignDone (up : s.up islRH = true) (busy : s.get R.OUT_REALIGN_STATUS = 1) (none_ : (List.range 8).any s.moveLeft = false) : exec .realignDone s =
    .next (((((List.range 8).foldl State.alignedTurn s).set R.OUT_REALIGN_STATUS 2).bump R.OUT_REALIGNS_COUNT).raise P.OUT E.OUT_REALIGN_DONE) := by
  show execRealignDone s = _
  unfold execRealignDone
  rw [State.inRh_up up]
  exact congrArg _ (if_pos ⟨busy, congrArg (fun b => !b) none_⟩)

theorem Within.alignedTurn {C : Cap} (may : C (.part .out) = true ∧ Ok.setMisalign C o ∧ Ok.setFlag C (outSlewing o)) : Within C s (s.alignedTurn o) :=
  .ite (.trig (.bind (((Within.refl s).putOut may.1).setMisalign may.2.1) fun h => .ite (h.setFlag may.2.2) h)) (.refl s)

/-- After its turn an output is not named, and a turn names none. -/
theorem State.alignedTurn_named (s : State) {j : Nat} (lowJ : j < 8) (o : Nat) : ((s.alignedTurn j).outOf o).named = (if j = o then false else (s.outOf o).named) := by
  have out : ∀ j < 8, Ok.setMisalign (Cap.sparing .out) j := by decide
  unfold State.alignedTurn
  extract_lets c t u v
  have kept : ∀ l, (v.trig islRH 0x50 l).outOf o = t.outOf o := fun l =>
    State.outOf_congr (Within.trig (.bind ((Within.refl t).setMisalign (out j lowJ)) fun h => .ite (h.setFlag rfl) h)).out_eq o
  split
  · rw [kept]
    split
    next same =>
      subst same
      exact congrArg OutState.named (State.outOf_putOut_same ..)
    next other => exact congrArg OutState.named (State.outOf_putOut_other s _ (Ne.symm other))
  next free =>
    split
    next same =>
      subst same
      exact Bool.eq_false_iff.mpr free
    next => rfl

theorem State.alignedTurns_named (s : State) (l : List Nat) (low : ∀ j ∈ l, j < 8) (o : Nat) : ((l.foldl State.alignedTurn s).outOf o).named = (if o ∈ l then false else (s.outOf o).named) := by
  induction l generalizing s with
  | nil => rfl
  | cons j l ih =>
    rw [List.foldl_cons, ih _ fun i m => low i (List.mem_cons_of_mem _ m), State.alignedTurn_named s (low j List.mem_cons_self)]
    by_cases here : o ∈ l
    · simp [here]
    · by_cases same : j = o
      · simp [same]
      · simp [here, same, Ne.symm same]

/-! ## The page disabled (R206) -/

theorem exec_outDisable (opened : Open s m (R.PG_CTRL P.OUT)) : exec (.outDisable m) s = .next (((List.range 8).foldl State.endOut (s.set (R.PG_CTRL_EN P.OUT) 0)).showOutBusy) := by
  show execOutDisable m s = _
  unfold execOutDisable
  rw [hostWrite_open opened]

/-- Each output that runs is to end with its period. -/
theorem State.endOut_same (s : State) (runs : s.get (outSrc o) = 1 ∨ s.get (outSrc o) = 2) : ((s.endOut o).outOf o).ending = true := by
  unfold State.endOut State.endOutAs
  extract_lets src
  rw [if_pos (show src = 1 ∨ src = 2 from runs), State.outOf_putOut_same]

theorem State.endOut_other (s : State) {j : Nat} (ne : j ≠ o) : (s.endOut j).outView o = s.outView o := by
  unfold State.endOut State.endOutAs
  extract_lets src
  split
  · exact State.outView_congr (State.outOf_putOut_other s _ ne.symm) rfl rfl
  · rfl

theorem State.showOutBusy_get (s : State) (off : s.get (R.PG_CTRL_EN P.OUT) = 0) (low : o < 8) (runs : s.get (outSrc o) = 1 ∨ s.get (outSrc o) = 2) :
    s.showOutBusy.get (R.PG_STAT_BUSY P.OUT) = 1 := by
  unfold State.showOutBusy
  rw [State.setFlag_get_same _ _ _ (by decide) rfl, State.flag_of_get_zero off]
  have busy : (List.range 8).any (fun o => decide (s.get (outSrc o) = 1 ∨ s.get (outSrc o) = 2)) = true := List.any_eq_true.mpr ⟨o, List.mem_range.mpr low, decide_eq_true runs⟩
  rw [busy]
  rfl

/-- A clock output that changes its source has it, and no PLL changes. -/
theorem State.clkReturn_spec (s : State) {n : Nat} (low : n < 4) : ((s.changeSrc n 1).showBypass).get (outSrc n) = 1 ∧
    ∀ p < 4, ((s.changeSrc n 1).showBypass).get (R.PLL_STATUS_STATE p) = s.get (R.PLL_STATUS_STATE p) := by
  have may : ∀ n < 4, ∀ p < 4, Ok.changeSrc (Cap.away (R.PLL_STATUS_STATE p)) n := by decide
  have away : ∀ p < 4, Ok.showBypass (Cap.away (R.PLL_STATUS_STATE p)) := by decide
  have event : ∀ n < 4, Ok.showBypass (Cap.away (outSrc n)) := by decide
  refine ⟨((Within.refl _).showBypass (event n low)).get_eq.trans (State.putSrc_src _ (by omega) (by decide)), fun p lowP => ?_⟩
  exact (((Within.refl s).changeSrc (may n low p lowP)).showBypass (away p lowP)).get_eq

/-- An output that starts has its source, stands aligned and, a pulse, is high. -/
theorem State.started_spec (s : State) (low : o < 8) (k t : Int) :
    let u := ((if o < 4 then s.begun o else (s.begun o).pulseRise o k t).putSrc o 1).raise P.OUT E.OUT_STARTED
    u.get (outSrc o) = 1 ∧ u.rdS (misSlot o) = 0 ∧ Event u P.OUT E.OUT_STARTED ∧ (4 ≤ o → (u.outOf o).high = true) := by
  have may : ∀ o < 8, (Ok.raise (Cap.away (outSrc o)) P.OUT ∧ Ok.raise (Cap.outside (slotsS (misSlot o))) P.OUT) ∧ Ok.putSrc (Cap.outside (slotsS (misSlot o))) o ∧ Ok.putSrc (Cap.sparing .out) o := by
    decide
  obtain ⟨⟨event, event'⟩, src, out⟩ := may o low
  refine ⟨((Within.refl _).raise event).get_eq.trans (State.putSrc_src _ low (by decide)), ?_, event_raise _ _ _ (by decide), fun pulse => ?_⟩
  · have begun : (s.begun o).rdS (misSlot o) = 0 := ((Within.refl _).putOut rfl).rdS_eq.trans (s.setMisalign_zero low)
    exact (((Within.ite (.refl (s.begun o)) ((Within.refl (s.begun o)).pulseRise rfl)).putSrc src).raise event').rdS_eq.trans begun
  · rw [State.outOf_congr (((Within.refl _).putSrc out).raise (by decide)).out_eq, if_neg (Nat.not_lt.2 pulse)]
    exact (State.pulseRise_spec _ k t).1

end

/-- Settles O17. What RH keeps and shows of one output is written in that output's own turn of each loop. A REALIGN is finished with what a CLK_OUT slews in less than a millisecond still to come
(log entry 36 of a single finish at the mark). -/
theorem outputsStartMoveAndMute : Obligations.OutputsStartMoveAndMute := by
  unfold Obligations.OutputsStartMoveAndMute
  refine ⟨fun s n low up bypass locked => ?_, fun s o low up muted en page starts free => ?_, fun s n low up runs => ⟨fun high => ?_, fun fallen goes lit => ?_, fun fallen ends => ?_⟩,
    fun s m clk pulse tick acc => ?_, fun s up busy done => ?_, fun s o low up runs => .intro (exec_drvFault low up runs) (s.drvFault_spec low _ rfl), fun s m opened => ?_⟩
  · obtain ⟨src, plls⟩ := s.clkReturn_spec low
    exact .intro (exec_clkReturnToPll low up bypass locked) ⟨src, (plls _ (State.get_lt s (R.OUT_CLK_CFG_PLL n))).trans locked⟩
  · exact .intro (exec_started low up muted en page starts free) (s.started_spec low _ _)
  · exact .intro ((exec_pulseEdge low up runs).trans (congrArg Host.Outcome.next (if_pos high))) (s.pulseFall_spec (by omega))
  · refine .intro (exec_pulseEdge low up runs) ?_
    rw [fallen, goes, lit]
    obtain ⟨high, idx, rise⟩ := State.pulseRise_spec (o := n + 4) s ((s.outOf (n + 4)).idx + 1) (s.outOf (n + 4)).nextT
    exact ⟨high, idx, rise, rfl⟩
  · refine .intro (exec_pulseEdge low up runs) ?_
    rw [fallen, if_neg Bool.false_ne_true, if_pos (by rcases ends with h | h <;> simp [h])]
    exact s.muteOut_src (by omega)
  · have wrote {C : Cap} (may : Ok.set C R.OUT_REALIGN_STATUS) : Within C s (s.set R.OUT_REALIGN_STATUS 1) := (Within.refl s).set may
    have src : ∀ o < 8, Ok.set (Cap.away (outSrc o)) R.OUT_REALIGN_STATUS := by decide
    have mis : ∀ o < 8, Ok.set (Cap.outside (slotsS (misSlot o))) R.OUT_REALIGN_STATUS := by decide
    have turns : ∀ o < 8, Ok.setFlag (Cap.away R.OUT_REALIGN_STATUS) (outSlewing o) ∧ Ok.takeMoves (Cap.away R.OUT_REALIGN_STATUS) o := by decide
    refine .intro (exec_outRealign acc) ?_
    generalize (s.set R.OUT_REALIGN_STATUS 1).rhTime tick * 1000 = now
    have status := State.get_set_fits s R.OUT_REALIGN_STATUS (n := 1) (by decide) (by decide)
    have turn (o : Nat) (low : o < 8) (named : (if o < 4 then bitOn clk o else bitOn pulse (o - 4)) = true) (runs : s.get (outSrc o) = 1 ∨ s.get (outSrc o) = 2) :
        (((List.range 8).foldl (fun t o => t.realignTurn clk pulse now o) (s.set R.OUT_REALIGN_STATUS 1)).outOf o).named = true ∧
          (o < 4 → (((List.range 8).foldl (fun t o => t.realignTurn clk pulse now o) (s.set R.OUT_REALIGN_STATUS 1)).outOf o).move = -(s.rdS (misSlot o)) * s72X) := by
      obtain ⟨u, same, turned⟩ := foldl_range_at (fun t o => State.realignTurn t clk pulse now o) (fun t => t.outView o) low
        (fun t j lowJ ne => t.realignTurn_other clk pulse now lowJ low ne) (s.set R.OUT_REALIGN_STATUS 1)
      have view : (s.set R.OUT_REALIGN_STATUS 1).outView o = s.outView o :=
        State.outView_congr (State.outOf_congr (State.set_out ..) o) (wrote (src o low)).get_eq (wrote (mis o low)).rdS_eq
      have before : u.outView o = s.outView o := same.trans view
      have srcU : u.get (outSrc o) = s.get (outSrc o) := congrArg (fun x => x.2.1) before
      have misU : u.rdS (misSlot o) = s.rdS (misSlot o) := congrArg (fun x => x.2.2) before
      have after := congrArg Prod.fst turned
      obtain ⟨name, move⟩ := u.realignTurn_same now low named (srcU ▸ runs)
      change (State.outOf _ o) = State.outOf _ o at after
      rw [after, ← misU]
      exact ⟨name, move⟩
    refine ⟨?_, fun n low on runs => ?_, fun n low on runs => ?_⟩
    · exact ((Within.refl _).foldl fun o low _ h => h.trans (Within.realignTurn ⟨rfl, turns o (List.mem_range.mp low)⟩)).get_eq.trans status
    · obtain ⟨name, move⟩ := turn n (by omega) (by rw [if_pos low]; exact on) runs
      exact ⟨name, move low⟩
    · exact (turn (n + 4) (by omega) (by rw [if_neg (by omega), Nat.add_sub_cancel]; exact on) (.inl runs)).1
  · have none_ : (List.range 8).any s.moveLeft = false := by
      rw [List.any_eq_false]
      intro o mem
      have left := done o (List.mem_range.mp mem)
      unfold State.moveLeft State.get1
      cases named : (s.outOf o).named with
      | false => simp
      | true =>
        have := left named
        split at this
        next less =>
          rw [if_pos less, decide_eq_false (not_lt.mpr this)]
          decide
        next high => simp [high, this]
    have turns : ∀ o < 8, Ok.setMisalign (Cap.away R.OUT_REALIGNS_COUNT) o ∧ Ok.setFlag (Cap.away R.OUT_REALIGNS_COUNT) (outSlewing o) := by decide
    refine .intro (exec_realignDone up busy none_) ⟨?_, event_raise _ _ _ (by decide), fun o low => ?_, ?_⟩
    · exact (((Within.refl _).bump (by decide)).raise (by decide)).get_eq.trans (State.get_set_fits _ _ (by decide) (by decide))
    · rw [State.outOf_congr ((((Within.refl _).set (by decide)).bump (by decide)).raise (by decide)).out_eq,
        State.alignedTurns_named s _ (fun j mem => List.mem_range.mp mem), if_pos (List.mem_range.mpr low)]
    · rw [((Within.refl _).raise (by decide)).get_eq, State.bump_get_same _ _ (by decide), ((Within.refl _).set (by decide)).get_eq,
        ((Within.refl s).foldl fun o low _ h => h.trans (Within.alignedTurn ⟨rfl, turns o (List.mem_range.mp low)⟩)).get_eq]
  · have wrote {C : Cap} (may : Ok.set C (R.PG_CTRL_EN P.OUT)) : Within C s (s.set (R.PG_CTRL_EN P.OUT) 0) := (Within.refl s).set may
    have ends {C : Cap} (may : Ok.endOut C) : Within C (s.set (R.PG_CTRL_EN P.OUT) 0) ((List.range 8).foldl State.endOut (s.set (R.PG_CTRL_EN P.OUT) 0)) :=
      (Within.refl _).foldl fun _ _ _ h => h.endOut may
    have off : ((List.range 8).foldl State.endOut (s.set (R.PG_CTRL_EN P.OUT) 0)).get (R.PG_CTRL_EN P.OUT) = 0 :=
      (ends (by decide)).get_eq.trans (State.get_set_fits _ _ (by decide) (by decide))
    refine .intro (exec_outDisable opened) ⟨((Within.refl _).showOutBusy (by decide)).get_eq.trans off, fun o low runs => ?_⟩
    have away : ∀ o < 8, Ok.set (Cap.away (outSrc o)) (R.PG_CTRL_EN P.OUT) ∧ Ok.showOutBusy (Cap.away (outSrc o)) := by decide
    have src : ((List.range 8).foldl State.endOut (s.set (R.PG_CTRL_EN P.OUT) 0)).get (outSrc o) = s.get (outSrc o) := (ends rfl).get_eq.trans (wrote (away o low).1).get_eq
    obtain ⟨u, same, turned⟩ := foldl_range_at State.endOut (fun t => t.outView o) low (fun t j _ ne => t.endOut_other ne) (s.set (R.PG_CTRL_EN P.OUT) 0)
    have srcU : u.get (outSrc o) = s.get (outSrc o) := (congrArg (fun x => x.2.1) same).trans (wrote (away o low).1).get_eq
    refine ⟨?_, ((Within.refl _).showOutBusy (away o low).2).get_eq.trans src, State.showOutBusy_get _ off low (src ▸ runs)⟩
    rw [State.outOf_congr ((Within.refl _).showOutBusy (by decide)).out_eq]
    exact (congrArg (fun x => x.1.ending) turned).trans (u.endOut_same (srcU ▸ runs))

end Sys2Proof.Machine
end

section
/-! PROOFS.
GNSS epochs and supply (spec/10, R233 to R255).
-/
namespace Sys2Proof.Machine
open Sys2Proof

section
variable {s : State}

/-! ## Channels (R233, R235) -/

variable {ch : Nat}

/-- A channel takes a state. -/
def State.putChan (s : State) (ch : Nat) (c : GnsChan) : State := { s with gns := { s.gns with chans := kvPut s.gns.chans ch c } }

theorem State.putChan_chan (s : State) (ch : Nat) (c : GnsChan) : kvGet (s.putChan ch c).gns.chans ch = some c := kvGet_kvPut_same ..

/-- A channel's new state shows in TRACK alone. -/
theorem State.putChan_shown (s : State) (ch : Nat) (c : GnsChan) : kvGet (s.putChan ch c).showTrack.gns.chans ch = some c ∧ OnlySlots [R.GNS_TRACK] s (s.putChan ch c).showTrack := by
  refine ⟨?_, (((Within.refl s).updGns rfl).showTrack (by decide)).onlySlots⟩
  rw [((Within.refl _).showTrack (by decide)).gns_eq]
  exact s.putChan_chan ch c

theorem exec_channelAcquired {sig sat chips sums : Nat} {dop : Int} (low : ch < 192) (runs : s.engineRuns = true) (signal : sig < 9) (en : bitOn (s.get R.GNS_CFG_SIG_EN) sig = true)
    (near : dop.natAbs ≤ (searchSpan (((kvGet s.gns.chans ch).map (·.st)).getD s.gns.search)).1)
    (span : chips ≤ (searchSpan (((kvGet s.gns.chans ch).map (·.st)).getD s.gns.search)).2.getD chips) (least : 1 ≤ sums) (most : sums ≤ 20) :
    exec (.channelAcquired ch sig sat dop chips sums) s = .next (s.putChan ch { st := .track, sig := sig, sat := sat }).showTrack := by
  show execChannelAcquired ch sig sat dop chips sums s = _
  unfold execChannelAcquired
  rw [withUnit_next low]
  exact congrArg _ (if_pos (by
    rw [runs, en, decide_eq_true signal, decide_eq_true ⟨near, span, least, most⟩]
    rfl))

theorem exec_channelLockDrop {cn0 : Nat} {c : GnsChan} (low : ch < 192) (up : s.up islGN = true) (is : kvGet s.gns.chans ch = some c) (tracks : c.st = .track) (weak : cn0 < 24) :
    exec (.channelLockDrop ch cn0) s = .next (s.putChan ch { c with st := .hot }).showTrack := by
  show execChannelLockDrop ch cn0 s = _
  unfold execChannelLockDrop State.inGn
  rw [withUnit_next low, if_pos up, is]
  exact congrArg _ (if_pos ⟨tracks, weak⟩)

theorem exec_channelSearchWarm {c : GnsChan} (low : ch < 192) (up : s.up islGN = true) (is : kvGet s.gns.chans ch = some c) (hot : c.st = .hot) :
    exec (.channelSearchWarm ch) s = .next (s.putChan ch { c with st := .warm }) := by
  show execChannelSearchWarm ch s = _
  unfold execChannelSearchWarm State.inGn
  rw [withUnit_next low, if_pos up, is]
  exact congrArg _ (if_pos hot)

/-! ## The engine's faults (R240) -/

/-- The faults of the last hour, the new one first. -/
def State.faultsNow (s : State) : List Int := s.ax.ocxo :: s.gns.faults.filter (fun t => decide (s.ax.ocxo < t + 3600 * secU))

/-- A fault of the engine: what it measured is gone, its state, its event and its line show it. -/
def State.engineFails (s : State) : State :=
  ((State.setEngine { s with gns := { s.gns with faults := s.faultsNow, ready := none, sol := [] } } 4).raise P.GNS E.GNS_ENGINE).pulse 10

theorem exec_engine (runs : s.engineRuns = true) : exec .engine s = .next (if s.faultsNow.length ≤ 3 then s.engineFails.engineStart else s.engineFails) := by
  show execEngine s = _
  unfold execEngine
  exact congrArg _ (if_pos runs)

theorem State.engineFails_spec (s : State) : (s.engineFails).get R.GNS_STATUS_ENGINE = 4 ∧ (10, 0) ∈ s.engineFails.flt.causes ∧ Event s.engineFails P.GNS E.GNS_ENGINE ∧
    s.engineFails.gns.code = s.gns.code := by
  unfold State.engineFails
  refine ⟨?_, State.lineOn_causes .., ?_, ?_⟩
  · exact (((Within.refl _).raise (by decide)).pulse (by decide)).get_eq.trans (State.setEngine_get _ (by decide))
  · exact ((Within.refl _).pulse (by decide)).event (event_raise _ _ _ (by decide))
  · exact (congrArg GnsPart.code ((((Within.refl _).setEngine (by decide)).raise (by decide)).pulse (by decide)).gns_eq).trans rfl

/-- An engine with code that starts runs it. -/
theorem State.engineStart_get (s : State) (code : s.gns.code ≠ []) : s.engineStart.get R.GNS_STATUS_ENGINE = 2 := by
  unfold State.engineStart State.engineRun
  rw [if_neg code]
  exact ((Within.refl _).searchAll (by decide)).get_eq.trans (State.setEngine_get _ (by decide))

/-! ## Samples, jamming and the antenna (R236, R252, R253) -/

/-- The epoch's sample has been taken. -/
def State.sampleTaken (s : State) : State := { s with gns := { s.gns with ready := none } }

/-- What is delivered of a sample that no load has come after. -/
def State.delivers (s : State) (q : GnsSample) : State :=
  match s.gnsSlot with
  | none => s
  | some k => s.candSample k (q.stamp + (s.ax.stepTotal - q.steps) * s72U) (q.stamp + (s.ax.stepTotal - q.steps) * s72U + (q.o - (s.ax.stepTotal - q.steps)) * s72U + (s.slotOf k).base.getD 0)
      (q.o - (s.ax.stepTotal - q.steps)) (!s.flag R.VOTE_OSC_STAT_OCXO_WARM) true

theorem exec_gnssSampleDelivery {q : GnsSample} (up : s.up islRH = true) (ready : s.gns.ready = some q) (link : s.linkOpen islGN islRH 0 = true) (free : s.get (R.PG_STAT_FENCED P.GNS) = 0) :
    exec .gnssSampleDelivery s = .next (if q.loads ≠ s.ax.loads then s.sampleTaken else (s.sampleTaken.bump R.GNS_SAMPLES_COUNT).delivers q) := by
  show execGnssSampleDelivery s = _
  unfold execGnssSampleDelivery
  rw [State.inRh_up up, if_pos (by
    have link' : s.linkOpen 7 6 0 = true := link
    simp [link', State.flag_of_get_zero free]), ready]
  rfl

theorem State.gnsSlot_low (s : State) {k : Nat} (bound : s.gnsSlot = some k) : k < 12 := List.mem_range.mp (List.mem_of_find?_eq_some bound)

theorem Within.delivers {C : Cap} {q : GnsSample} (may : ∀ k < 12, Ok.candSample C k) : Within C s (s.delivers q) := by
  unfold State.delivers
  split
  next => exact .refl s
  next k bound => exact (Within.refl s).candSample (may k (s.gnsSlot_low bound))

theorem exec_jamSet (up : s.up islGN = true) (run : 2 ≤ s.gns.jamRun) : exec .jamSet s = .next (s.setJam true) := by
  show execJamSet s = _
  unfold execJamSet State.inGn
  rw [if_pos up, if_pos run]

theorem exec_jamClear (up : s.up islGN = true) (run : 10 ≤ s.gns.calmRun) : exec .jamClear s = .next (s.setJam false) := by
  show execJamClear s = _
  unfold execJamClear State.inGn
  rw [if_pos up, if_pos run]

theorem State.setJam_on (s : State) (calm : s.get R.GNS_STATUS_JAM = 0) : (s.setJam true).get R.GNS_STATUS_JAM = 1 ∧ Event (s.setJam true) P.GNS E.GNS_JAM := by
  unfold State.setJam
  rw [if_neg (by simp [State.flag_of_get_zero calm])]
  exact ⟨(((Within.refl _).level (by decide)).gnsRec).get_eq.trans (State.setFlag_get_same _ _ _ (by decide) rfl), ((Within.refl _).gnsRec).event (event_level _ (by decide))⟩

/-- A level event whose condition ends is no longer shown. -/
theorem State.level_off (s : State) (p b : Nat) : bitOn ((s.level p b false).rd (R.PG_EVT_NOW p)).toNat b = false := by
  unfold State.level
  rw [if_neg Bool.false_ne_true, State.rd_wr_same]
  have off : bitOn (setBit (s.rd (R.PG_EVT_NOW p)).toNat b false) b = false := bitOn_setBit_same ..
  unfold bitOn at off ⊢
  rw [BitVec.toNat_ofNat, Nat.testBit_mod_two_pow, off, Bool.and_false]

theorem State.setJam_off (s : State) (jams : s.get R.GNS_STATUS_JAM = 1) :
    (s.setJam false).get R.GNS_STATUS_JAM = 0 ∧ bitOn ((s.setJam false).rd (R.PG_EVT_NOW P.GNS)).toNat E.GNS_JAM = false := by
  unfold State.setJam
  rw [if_neg (by simp [State.flag_of_get jams])]
  refine ⟨(((Within.refl _).level (by decide)).gnsRec).get_eq.trans (State.setFlag_get_same _ _ _ (by decide) rfl), ?_⟩
  rw [((Within.refl _).gnsRec).rd_eq]
  exact State.level_off _ _ _

theorem exec_antBiasRetry (up : s.up islGN = true) (short : s.get R.GNS_STATUS_ANT = 3) : exec .antBiasRetry s = .next { s with gns := { s.gns with foldback := false } } := by
  show execAntBiasRetry s = _
  unfold execAntBiasRetry State.inGn
  rw [if_pos up, if_pos short]

/-- The antenna's current and voltage measured. -/
def State.antMeasured (s : State) (ma dv : Nat) : State := (s.set R.GNS_ANT_MON_DV (min 255 dv)).set R.GNS_ANT_MON_MA (min 255 ma)

/-- The antenna supply in a state it was not in. -/
def State.antShown (s : State) (st : Nat) : State :=
  let s := s.set R.GNS_STATUS_ANT st
  (((State.lineSet { s with gns := { s.gns with foldback := decide (st = 3) } } 10 2 (decide (st = 3))).raiseIf (decide (2 ≤ st)) P.GNS E.GNS_ANT)).gnsRec E.GNS_ANT

theorem exec_ant {ma dv : Nat} {limit : Bool} (up : s.up islGN = true) : exec (.ant ma dv limit) s = .next (if (s.antMeasured ma dv).get R.GNS_STATUS_ANT = (s.antMeasured ma dv).antState ma dv limit then
    s.antMeasured ma dv else (s.antMeasured ma dv).antShown ((s.antMeasured ma dv).antState ma dv limit)) := by
  show execAnt ma dv limit s = _
  unfold execAnt State.inGn
  rw [if_pos up]
  rfl

theorem State.antMeasured_spec (s : State) (ma dv : Nat) (limit : Bool) : (s.antMeasured ma dv).get R.GNS_ANT_MON_MA = min 255 ma ∧ (s.antMeasured ma dv).get R.GNS_ANT_MON_DV = min 255 dv ∧
    (s.antMeasured ma dv).get R.GNS_STATUS_ANT = s.get R.GNS_STATUS_ANT ∧ (s.antMeasured ma dv).antState ma dv limit = s.antState ma dv limit := by
  have quiet {C : Cap} (may : Ok.set C R.GNS_ANT_MON_DV ∧ Ok.set C R.GNS_ANT_MON_MA) : Within C s (s.antMeasured ma dv) := ((Within.refl s).set may.1).set may.2
  refine ⟨State.get_set_fits _ _ (by decide) (by show min 255 ma < 256; omega), ?_, (quiet (by decide)).get_eq, ?_⟩
  · exact ((Within.refl _).set (by decide)).get_eq.trans (State.get_set_fits _ _ (by decide) (by show min 255 dv < 256; omega))
  · unfold State.antState State.antBias
    rw [(quiet (by decide)).get_eq, (quiet (by decide)).get_eq]

theorem State.antState_fits (s : State) (ma dv : Nat) (limit : Bool) : s.antState ma dv limit < 8 := by
  have shown : s.get R.GNS_STATUS_ANT < 8 := State.get_lt s R.GNS_STATUS_ANT
  unfold State.antState
  extract_lets b
  split
  · split <;> omega
  · repeat' split
    all_goals omega

theorem State.antShown_spec (s : State) {st : Nat} (fits : st < 8) : (s.antShown st).get R.GNS_STATUS_ANT = st ∧ (s.antShown st).get R.GNS_ANT_MON_MA = s.get R.GNS_ANT_MON_MA ∧
    (s.antShown st).get R.GNS_ANT_MON_DV = s.get R.GNS_ANT_MON_DV ∧
    (st = 3 → (s.antShown st).gns.foldback = true ∧ (10, 2) ∈ (s.antShown st).flt.causes ∧ Event (s.antShown st) P.GNS E.GNS_ANT) := by
  have quiet {C : Cap} (may : C (.part .gns) = true ∧ Ok.lineSet C ∧ Ok.raiseIf C P.GNS) : Within C (s.set R.GNS_STATUS_ANT st) (s.antShown st) :=
    ((((Within.refl _).updGns may.1).lineSet may.2.1).raiseIf may.2.2).gnsRec
  have wrote {C : Cap} (may : Ok.set C R.GNS_STATUS_ANT) : Within C s (s.set R.GNS_STATUS_ANT st) := (Within.refl s).set may
  refine ⟨(quiet (by decide)).get_eq.trans (State.get_set_fits _ _ (by decide) fits), ((wrote (by decide)).trans (quiet (by decide))).get_eq, ((wrote (by decide)).trans (quiet (by decide))).get_eq,
    fun short => ?_⟩
  subst short
  refine ⟨?_, ?_, ?_⟩
  · exact (congrArg GnsPart.foldback ((((Within.refl _).lineSet (by decide)).raiseIf (by decide)).gnsRec).gns_eq).trans rfl
  · unfold State.antShown
    rw [(((Within.refl _).raiseIf (by decide : Ok.raiseIf (Cap.sparing .flt) P.GNS)).gnsRec).flt_eq]
    exact State.lineOn_causes ..
  · exact ((Within.refl _).gnsRec).event (event_raise _ _ _ (by decide))

/-! ## The epoch (R235 to R251) -/

/-- What an epoch takes of its measurement before it solves. -/
def State.epochTaken (s : State) (e : GnssEpoch) : State :=
  ((State.noiseTake { s with gns := { s.gns with epochAt := some s.ax.marks } } e.noise1 e.noise5).navTake e).posSync

/-- The satellites of an epoch's solution. -/
def State.epochSats (s : State) (e : GnssEpoch) : Nat := (((e.cons.map (fitCons e.dev)).filter (fun c => s.consOn c)).map (fun c => c.sats)).sum

/-- What an epoch shows of its solution. -/
def State.epochShown (s : State) (e : GnssEpoch) (ok : Bool) (pos : Option (Int × Int × Int)) (sats : Nat) : State :=
  (((s.setFlag R.GNS_STATUS_TIME_OK ok).posTake pos e.sigma sats).set R.GNS_CN0_L1 (min 255 e.cn1)).set R.GNS_CN0_L5 (min 255 e.cn5)

/-- What an epoch keeps of its solution, and its sample. -/
def State.epochKept (s : State) (stamp : Int) (r : Option Int) (held : Bool) : State :=
  let s := State.keepSol { s with gns := { s.gns with ready := none } } stamp r
  match held, r with
  | false, some r => s.makeSample stamp r
  | _, _ => s

/-- Without a failing run nothing becomes suspect. -/
theorem State.suspectEpoch_calm (s : State) (res : List Nat) (calm : s.flag R.GNS_STATUS_SUSPECT = false) (none' : ∀ r ∈ s.gns.runs, r = 0) :
    s.suspectEpoch res = { s with gns := { s.gns with clearAsked := false } } := by
  have persists (u : State) : 1 ≤ u.gnsPersist := by
    unfold State.gnsPersist clampNat
    omega
  unfold State.suspectEpoch
  rw [if_neg (by rw [calm]; exact Bool.false_ne_true)]
  refine if_neg ?_
  rw [List.any_eq_true]
  rintro ⟨r, among, runs⟩
  have zero := none' r among
  have := persists { s with gns := { s.gns with clearAsked := false } }
  have := of_decide_eq_true runs
  omega

theorem exec_gnssEpoch {e : GnssEpoch} (runs : s.engineRuns = true) (en : s.get (R.PG_CTRL_EN P.GNS) = 1) (due : s.epochDue = true) : ∃ (u : State) (stamp : Int) (r : Option Int) (pos : Option (Int × Int × Int)) (held : Bool),
    exec (.gnssEpoch e) s = .next ((u.epochShown e r.isSome pos ((s.epochTaken e).epochSats e)).epochKept stamp r held) ∧
    (s.get R.GNS_CHECK_CTRL_EN = 0 → s.get R.GNS_STATUS_SUSPECT = 0 → u.get R.GNS_CHECKS_RESULT = 0 ∧ u.get R.GNS_STATUS_SUSPECT = 0 ∧ u.get R.GNS_WITHHELD_COUNT = s.get R.GNS_WITHHELD_COUNT) := by
  show ∃ u stamp r pos held, execGnssEpoch e s = _ ∧ _
  unfold execGnssEpoch
  rw [if_neg (by simp [runs, State.flag_of_get en, due])]
  extract_lets stamp _ t taken l sats usable need all en part
  generalize isCons : (if bitOn en 0 = true then taken.checkCons all part else (taken, 0, part)) = x
  obtain ⟨checked, cons, part'⟩ := x
  dsimp -zeta only
  extract_lets kept time r tai band flown clock pos posr res runs' _ ran was judged suspect by3 code coded held counted passing full anchored learnt shown1 shown2 kept'
  refine ⟨learnt, stamp, r, pos, held, rfl, fun off calm => ?_⟩
  have took {C : Cap} (may : C (.part .gns) = true ∧ Ok.noiseTake C ∧ Ok.navTake C ∧ Ok.posSync C) : Within C s taken :=
    ((((Within.refl s).updGns may.1).noiseTake may.2.1).navTake may.2.2.1).posSync may.2.2.2
  have enOff : en = 0 := (took (by decide)).get_eq.trans off
  have noBit (k : Nat) : ¬ bitOn en k = true := by
    rw [enOff]
    exact Bool.eq_false_iff.mp (Nat.zero_testBit k)
  rw [if_neg (noBit 0), Prod.mk.injEq, Prod.mk.injEq] at isCons
  obtain ⟨isTaken, noCons, -⟩ := isCons
  have noRes : res = [0, 0, 0, 0] := by
    show [cons, if bitOn en 1 = true then _ else 0, if bitOn en 2 = true then _ else 0, if bitOn en 3 = true then _ else 0] = _
    rw [if_neg (noBit 1), if_neg (noBit 2), if_neg (noBit 3), ← noCons]
  have noRun : ∀ n ∈ ran.gns.runs, n = 0 := by
    show ∀ n ∈ (flown.gns.runs.zip res).map _, n = 0
    rw [noRes]
    intro n among
    obtain ⟨⟨k, z⟩, pair, rfl⟩ := List.mem_map.mp among
    have zero : z = 0 := by simpa using (List.of_mem_zip pair).2
    exact if_neg (by simp [zero])
  have reached {C : Cap} (may : C (.part .gns) = true ∧ Ok.noiseTake C ∧ Ok.navTake C ∧ Ok.posSync C ∧ Ok.flyAdvance C) : Within C s ran := by
    refine Within.updGns (Within.flyAdvance ?_ may.2.2.2.2) may.1
    rw [← isTaken]
    exact took ⟨may.1, may.2.1, may.2.2.1, may.2.2.2.1⟩
  have ranCalm : ran.get R.GNS_STATUS_SUSPECT = 0 := (reached (by decide)).get_eq.trans calm
  have isJudged : judged = _ := State.suspectEpoch_calm ran res (State.flag_of_get_zero ranCalm) noRun
  have judgedCalm : judged.get R.GNS_STATUS_SUSPECT = 0 := by
    rw [isJudged]
    exact ranCalm
  have noCode (k : Nat) : code k = 0 := by
    show (if (judged.flag R.GNS_STATUS_SUSPECT && _ && _) = true then 3 else res.getD k 0) = 0
    rw [State.flag_of_get_zero judgedCalm, noRes]
    match k with
    | 0 | 1 | 2 | 3 | _ + 4 => rfl
  have notHeld : held = false := by
    show (res.any _ || judged.flag R.GNS_STATUS_SUSPECT) = false
    rw [State.flag_of_get_zero judgedCalm, noRes]
    rfl
  have isCounted : counted = coded := if_neg (by rw [notHeld]; exact Bool.false_ne_true)
  have last {C : Cap} (may : Ok.flyAnchor C ∧ Ok.learnGns C) : Within C coded learnt := by
    have h := ((Within.refl coded).flyAnchor (tai := tai) (full := full) (passing := passing) may.1)
    rw [← isCounted] at h ⊢
    exact .ite (h.learnGns may.2) h
  refine ⟨?_, ?_, ?_⟩
  · rw [(last (by decide)).get_eq]
    show (judged.set R.GNS_CHECKS_RESULT (code 0 + 4 * code 1 + 16 * code 2 + 64 * code 3)).get _ = 0
    rw [noCode, noCode, noCode, noCode]
    exact State.get_set_fits _ _ (by decide) (by decide)
  · exact (last (by decide)).get_eq.trans (((Within.refl judged).set (by decide)).get_eq.trans judgedCalm)
  · rw [(last (by decide)).get_eq, ((Within.refl judged).set (by decide)).get_eq, isJudged]
    exact (reached (by decide)).get_eq

theorem State.consOn_congr {s t : State} (en : t.get R.GNS_CFG_SIG_EN = s.get R.GNS_CFG_SIG_EN) (c : ConsMeas) : t.consOn c = s.consOn c := by
  unfold State.consOn State.bandOn
  rw [en]

theorem State.epochTaken_sats (s : State) (e : GnssEpoch) : (s.epochTaken e).epochSats e = s.epochSats e := by
  have same : (s.epochTaken e).get R.GNS_CFG_SIG_EN = s.get R.GNS_CFG_SIG_EN := (((((Within.refl s).updGns rfl).noiseTake (by decide)).navTake (by decide)).posSync (by decide)).get_eq
  unfold State.epochSats
  rw [List.filter_congr fun c _ => State.consOn_congr same c]

theorem State.posTake_sats (s : State) (pos : Option (Int × Int × Int)) (sigma sats : Nat) : (s.posTake pos sigma sats).get R.GNS_POS_QUAL_SATS = min 255 sats := by
  have wrote : (s.set R.GNS_POS_QUAL_SATS (min 255 sats)).get R.GNS_POS_QUAL_SATS = min 255 sats := State.get_set_fits _ _ (by decide) (by show min 255 sats < 256; omega)
  unfold State.posTake
  extract_lets first st graded
  have kept : Within (Cap.away R.GNS_POS_QUAL_SATS) first graded := .ite (.refl first) ((Within.refl first).set (by decide))
  have isGraded : graded.get R.GNS_POS_QUAL_SATS = min 255 sats := kept.get_eq.trans wrote
  clear_value graded
  split
  next => exact isGraded
  next p =>
    refine Eq.trans (Within.get_eq (?_ : Within (Cap.away R.GNS_POS_QUAL_SATS) graded _)) isGraded
    refine .ite (((Within.refl graded).set (by decide)).putPos (by decide)) (.ite ?_ (.refl graded))
    exact ((((Within.refl graded).updGns rfl).set (by decide)).putPos (by decide)).set (by decide)

/-- An epoch shows its levels and its satellites. -/
theorem State.epochShown_spec (s : State) (e : GnssEpoch) (ok : Bool) (pos : Option (Int × Int × Int)) (sats : Nat) : (s.epochShown e ok pos sats).get R.GNS_CN0_L1 = min 255 e.cn1 ∧
    (s.epochShown e ok pos sats).get R.GNS_CN0_L5 = min 255 e.cn5 ∧ (s.epochShown e ok pos sats).get R.GNS_POS_QUAL_SATS = min 255 sats := by
  refine ⟨?_, ?_, ?_⟩
  · exact ((Within.refl _).set (by decide)).get_eq.trans (State.get_set_fits _ _ (by decide) (by show min 255 e.cn1 < 256; omega))
  · exact State.get_set_fits _ _ (by decide) (by show min 255 e.cn5 < 256; omega)
  · exact (((Within.refl _).set (by decide)).set (by decide)).get_eq.trans (State.posTake_sats ..)

theorem Within.epochShown {C : Cap} {s₀ : State} {e : GnssEpoch} {ok : Bool} {pos : Option (Int × Int × Int)} {sats : Nat} (h : Within C s₀ s)
    (may : Ok.setFlag C R.GNS_STATUS_TIME_OK ∧ Ok.posTake C ∧ Ok.set C R.GNS_CN0_L1 ∧ Ok.set C R.GNS_CN0_L5) : Within C s₀ (s.epochShown e ok pos sats) :=
  (((h.setFlag may.1).posTake may.2.1).set may.2.2.1).set may.2.2.2

theorem Within.epochKept {C : Cap} {s₀ : State} {stamp : Int} {r : Option Int} {held : Bool} (h : Within C s₀ s)
    (may : C (.part .gns) = true ∧ Ok.keepSol C ∧ Ok.makeSample C) : Within C s₀ (s.epochKept stamp r held) := by
  have kept := (h.updGns (s := s) (x := { s.gns with ready := none }) may.1).keepSol (stamp := stamp) (r := r) may.2.1
  unfold State.epochKept
  extract_lets s'
  split
  · exact kept.makeSample may.2.2
  · exact kept

end

/-- Settles O19. A restart within the command is the model's choice (log entry 14), and a load discards the sample of the epoch before it (log entry 11): `exec_engine`
and `exec_gnssSampleDelivery` say what becomes of each; of an epoch, `exec_gnssEpoch` names the state that its solution is shown in. -/
theorem gnssTracksEpochsAndSupply : Obligations.GnssTracksEpochsAndSupply := by
  unfold Obligations.GnssTracksEpochsAndSupply
  refine ⟨?_, ?_, ?_, ?_, ?_, ?_, ?_⟩
  · intro s ch sig sat dop chips sums low runs signal en near' near span least most
    exact .intro (exec_channelAcquired low runs signal en near span least most) (s.putChan_shown ch _)
  · intro s ch cn0 c low up is
    refine ⟨fun tracks weak => .intro (exec_channelLockDrop low up is tracks weak) (s.putChan_shown ch _), fun hot => ?_⟩
    exact .intro (exec_channelSearchWarm low up is hot) ⟨s.putChan_chan ch _, rfl⟩
  · intro s runs code
    obtain ⟨status, line, event, same⟩ := s.engineFails_spec
    by_cases few : (s.gns.faults.filter (fun u => decide (s.ax.ocxo < u + 3600 * secU))).length < 3
    · have started {C : Cap} (may : Ok.engineStart C) : Within C s.engineFails s.engineFails.engineStart := (Within.refl _).engineStart may
      refine .intro ((exec_engine runs).trans (congrArg Host.Outcome.next (if_pos (Nat.succ_le_of_lt few)))) ⟨(started (by decide)).event event, ?_, ?_⟩
      · rw [(started (by decide)).flt_eq]
        exact line
      · rw [if_pos few]
        exact State.engineStart_get _ (same ▸ code)
    · refine .intro ((exec_engine runs).trans (congrArg Host.Outcome.next (if_neg fun le => few (Nat.lt_of_succ_le le)))) ⟨event, line, ?_⟩
      rw [if_neg few]
      exact status
  · intro s e runs en due
    obtain ⟨u, stamp, r, pos, held, is, quiet⟩ := exec_gnssEpoch runs en due
    obtain ⟨cn1, cn5, sats⟩ := u.epochShown_spec e r.isSome pos ((s.epochTaken e).epochSats e)
    have kept {C : Cap} (may : C (.part .gns) = true ∧ Ok.keepSol C ∧ Ok.makeSample C) := (Within.refl (u.epochShown e r.isSome pos ((s.epochTaken e).epochSats e))).epochKept (C := C) (stamp := stamp) (r := r) (held := held) may
    have shown {C : Cap} (may : Ok.setFlag C R.GNS_STATUS_TIME_OK ∧ Ok.posTake C ∧ Ok.set C R.GNS_CN0_L1 ∧ Ok.set C R.GNS_CN0_L5) :=
      (Within.refl u).epochShown (C := C) (e := e) (ok := r.isSome) (pos := pos) (sats := (s.epochTaken e).epochSats e) may
    refine .intro is ⟨(kept (by decide)).get_eq.trans cn1, (kept (by decide)).get_eq.trans cn5, ?_, fun off calm => ?_⟩
    · exact (kept (by decide)).get_eq.trans (sats.trans (congrArg (min 255) (s.epochTaken_sats e)))
    · obtain ⟨result, suspect, withheld⟩ := quiet off calm
      exact ⟨((shown (by decide)).trans (kept (by decide))).get_eq.trans result, ((shown (by decide)).trans (kept (by decide))).get_eq.trans suspect,
        ((shown (by decide)).trans (kept (by decide))).get_eq.trans withheld⟩
  · intro s q up ready link free
    refine ⟨fun same => ?_, fun loaded => .intro ((exec_gnssSampleDelivery up ready link free).trans (congrArg Host.Outcome.next (if_pos loaded))) ⟨rfl, rfl⟩⟩
    have delivered {C : Cap} (may : ∀ k < 12, Ok.candSample C k) := Within.delivers (C := C) (s := s.sampleTaken.bump R.GNS_SAMPLES_COUNT) (q := q) may
    refine .intro ((exec_gnssSampleDelivery up ready link free).trans (congrArg Host.Outcome.next (if_neg (not_not.mpr same)))) ⟨?_, ?_⟩
    · rw [(delivered (by decide)).gns_eq, ((Within.refl _).bump (by decide)).gns_eq]
      rfl
    · exact (delivered (by decide)).get_eq.trans (State.bump_get_same _ _ (by decide))
  · intro s up
    exact ⟨fun calm run => .intro (exec_jamSet up run) (s.setJam_on calm), fun jams run => .intro (exec_jamClear up run) (s.setJam_off jams),
      fun short => .intro (exec_antBiasRetry up short) ⟨rfl, rfl⟩⟩
  · intro s ma dv limit up
    obtain ⟨isMa, isDv, was, same⟩ := s.antMeasured_spec ma dv limit
    have isExec := exec_ant (ma := ma) (dv := dv) (limit := limit) up
    rw [was, same] at isExec
    by_cases stays : s.get R.GNS_STATUS_ANT = s.antState ma dv limit
    · exact .intro (isExec.trans (congrArg Host.Outcome.next (if_pos stays))) ⟨isMa, isDv, was.trans stays, fun short differs => absurd (stays.trans short) differs⟩
    · obtain ⟨status, keptMa, keptDv, short⟩ := (s.antMeasured ma dv).antShown_spec (s.antState_fits ma dv limit)
      exact .intro (isExec.trans (congrArg Host.Outcome.next (if_neg stays))) ⟨keptMa.trans isMa, keptDv.trans isDv, status, fun three _ => short three⟩

end Sys2Proof.Machine
end

section
/-! PROOFS.
Generations: PREPARE and the decision (spec/17, R406, R407).
-/
namespace Sys2Proof.Machine
open Sys2Proof

section
variable {s : State} {m : Master}

/-! ## Masks of islands -/

theorem setBit_fits {v i k : Nat} (b : Bool) (fits : v < 2 ^ k) (low : i < k) : setBit v i b < 2 ^ k := by
  unfold setBit
  split
  · exact Nat.or_lt_two_pow fits (Nat.pow_lt_pow_right (by decide) low)
  · split
    · exact lt_of_le_of_lt (Nat.sub_le ..) fits
    · exact fits

theorem foldl_setBit_testBit (l : List Nat) (v j : Nat) : (l.foldl (fun m i => setBit m i true) v).testBit j = (decide (j ∈ l) || v.testBit j) := by
  induction l generalizing v with
  | nil => simp
  | cons x xs ih =>
    rw [List.foldl_cons, ih, testBit_setBit]
    by_cases is : j = x <;> simp [is]

/-- A mask's bits are the members of its list. -/
theorem maskOf_bit (l : List Nat) (j : Nat) : bitOn (maskOf l) j = decide (j ∈ l) := by
  unfold bitOn maskOf
  rw [foldl_setBit_testBit, Nat.zero_testBit, Bool.or_false]

theorem maskOf_fits {l : List Nat} {k : Nat} (low : ∀ i ∈ l, i < k) : maskOf l < 2 ^ k :=
  Nat.lt_pow_two_of_testBit _ fun j high => (maskOf_bit l j).trans (decide_eq_false fun among => absurd (low j among) (Nat.not_lt.mpr high))

theorem maskOf_ne_zero {l : List Nat} {j : Nat} (among : j ∈ l) : maskOf l ≠ 0 := fun zero => by
  have on := maskOf_bit l j
  rw [zero, decide_eq_true among] at on
  exact absurd on (by simp [bitOn])

theorem State.participants_low (s : State) {i : Nat} (among : i ∈ s.participants) : i < 16 := by
  have low : ∀ j ∈ genIslands, j < 16 := by decide
  exact low i (List.mem_of_mem_filter among)

theorem State.inCores_congr {s t : State} (mode : t.mode = s.mode) (cores : ∀ k < 3, t.coreSt k = s.coreSt k) : t.inCores = s.inCores := by
  unfold State.inCores
  rw [mode]
  exact congrArg _ (List.filter_congr fun k among => by rw [cores k (List.mem_range.mp among)])

theorem State.participants_congr {s t : State} (mode : t.mode = s.mode) (cores : ∀ k < 3, t.coreSt k = s.coreSt k) : t.participants = s.participants := by
  unfold State.participants
  rw [State.inCores_congr mode cores]

theorem State.setGenState_genState (s : State) {st : Nat} (fits : st < 8) : (s.setGenState st).genState = st := State.get_set_fits s R.GEN_STATUS_STATE (by decide) fits

/-! ## PREPARE and CANCEL (R406) -/

theorem State.proveAbort_idle (idle : s.prove.running = false) : s.proveAbort = s := if_pos (by rw [idle]; rfl)

theorem exec_genPrepare {tick : Nat} (opened : Open s m R.GEN_CMD) (rests : s.genState = 0) (idle : s.prove.running = false) :
    exec (.genPrepare m tick) s = .next (s.prepare (s.voteTime tick)) := by
  show execGenPrepare m tick s = _
  unfold execGenPrepare
  rw [hostWrite_open opened, if_neg (not_not.mpr rests), State.proveAbort_idle idle]

theorem exec_genPrepare_again {tick : Nat} (opened : Open s m R.GEN_CMD) (pending : s.genState ≠ 0) : exec (.genPrepare m tick) s = .next (s.wcReject m R.GEN_CMD) := by
  show execGenPrepare m tick s = _
  unfold execGenPrepare
  rw [hostWrite_open opened]
  exact congrArg _ (if_pos pending)

theorem exec_genCancel (opened : Open s m R.GEN_CMD) : exec (.genCancel m) s = .next (if s.genState = 1 ∨ s.genState = 2 then { s with gen := { s.gen with asked := true } } else s.set R.GEN_CMD_STATUS 4) := by
  show execGenCancel m s = _
  unfold execGenCancel
  rw [hostWrite_open opened]

/-- A PREPARE that is refused shows its reason and schedules nothing. -/
theorem State.prepare_refused {arrival : Int} {st : Nat} (refused : s.prepareStatus arrival = some st) (fits : st < 16) :
    (s.prepare arrival).get R.GEN_CMD_STATUS = st ∧ (s.prepare arrival).genState = s.genState ∧ (s.prepare arrival).staging = s.staging := by
  have is : s.prepare arrival = s.set R.GEN_CMD_STATUS st := by
    unfold State.prepare
    rw [refused]
  rw [is]
  exact ⟨State.get_set_fits _ _ (by decide) fits, ((Within.refl s).set (by decide)).get_eq, ((Within.refl s).set (by decide)).staging_eq⟩

/-- The participants' staging sets are the shadows, and the commit is to be at `T`. -/
def State.prepared (s : State) : State :=
  { s with staging := s.shadow, gen := { s.gen with at_ := ofT108 (s.rdT R.GEN_COMMIT_AT), asked := false, parts := 0, gone := 0, applied := 0 } }

/-- A state shows that a generation of that number prepares. -/
def State.showsPrepare (s : State) (n : Nat) : State := (((s.set R.GEN_CMD_STATUS 1).set R.GEN_NEXT_GEN n).set R.GEN_PREPARED_ISLANDS 0).setGenState 1

theorem State.prepare_taken {arrival : Int} (taken : s.prepareStatus arrival = none) : s.prepare arrival = s.prepared.showsPrepare s.genNextNum := by
  have same : s.prepared.genNextNum = s.genNextNum := rfl
  rw [← same]
  unfold State.prepare
  rw [taken]
  rfl

theorem State.showsPrepare_spec (s : State) {n : Nat} (fits : n < 2 ^ 24) : (s.showsPrepare n).genState = 1 ∧ (s.showsPrepare n).get R.GEN_CMD_STATUS = 1 ∧
    (s.showsPrepare n).get R.GEN_NEXT_GEN = n ∧ (s.showsPrepare n).get R.GEN_PREPARED_ISLANDS = 0 ∧ (s.showsPrepare n).staging = s.staging ∧ (s.showsPrepare n).gen = s.gen := by
  have quiet {C : Cap} (may : Ok.set C R.GEN_CMD_STATUS ∧ Ok.set C R.GEN_NEXT_GEN ∧ Ok.set C R.GEN_PREPARED_ISLANDS ∧ Ok.setGenState C) : Within C s (s.showsPrepare n) :=
    ((((Within.refl s).set may.1).set may.2.1).set may.2.2.1).setGenState may.2.2.2
  refine ⟨State.setGenState_genState _ (by decide), ?_, ?_, ?_, (quiet (by decide)).staging_eq, (quiet (by decide)).gen_eq⟩
  · exact ((((Within.refl _).set (by decide)).set (by decide)).setGenState (by decide)).get_eq.trans (State.get_set_fits _ _ (by decide) (by decide))
  · exact (((Within.refl _).set (by decide)).setGenState (by decide)).get_eq.trans (State.get_set_fits _ _ (by decide) fits)
  · exact ((Within.refl _).setGenState (by decide)).get_eq.trans (State.get_set_fits _ _ (by decide) (by decide))

theorem State.genNextNum_fits (s : State) : s.genNextNum < 2 ^ 24 := by
  have := State.get_lt s R.GEN_IN_FORCE_GEN
  unfold State.genNextNum
  extract_lets n
  have : n < 2 ^ 24 := this
  split <;> omega

theorem State.prepare_spec {arrival : Int} (taken : s.prepareStatus arrival = none) :
    (s.prepare arrival).staging = s.shadow ∧ (s.prepare arrival).genState = 1 ∧ (s.prepare arrival).get R.GEN_CMD_STATUS = 1 ∧ (s.prepare arrival).get R.GEN_NEXT_GEN = s.genNextNum ∧
      (s.prepare arrival).get R.GEN_PREPARED_ISLANDS = 0 ∧ (s.prepare arrival).gen.at_ = ofT108 (s.rdT R.GEN_COMMIT_AT) ∧ OnlySlots [R.GEN_CMD, R.GEN_NEXT, R.GEN_PREPARED, R.GEN_STATUS] s (s.prepare arrival) := by
  have only : Within (Cap.slots [R.GEN_CMD, R.GEN_NEXT, R.GEN_PREPARED, R.GEN_STATUS]) s (s.prepare arrival) := (Within.refl s).prepare (by decide)
  obtain ⟨st, status, next, reports, staging, gen⟩ := s.prepared.showsPrepare_spec s.genNextNum_fits
  rw [State.prepare_taken taken] at only ⊢
  exact ⟨staging, st, status, next, reports, congrArg GenPart.at_ gen, only.onlySlots⟩

/-! ## The reports and the decision (R407) -/

/-- A participant's report is in. -/
def State.reported (s : State) (i : Nat) : State := s.set R.GEN_PREPARED_ISLANDS (setBit (s.get R.GEN_PREPARED_ISLANDS) i true)

theorem exec_preparedReport {i : Nat} (low : i < 16) (prepares : s.genState = 1) (takes : i ∈ s.participants) (alive : s.islandDead i = false) (up : s.up islMGT = true) :
    exec (.preparedReport i) s = .next (if s.participants.all (fun j => bitOn (setBit (s.get R.GEN_PREPARED_ISLANDS) i true) j) then (s.reported i).setGenState 2 else s.reported i) := by
  show execPreparedReport i s = _
  unfold execPreparedReport
  rw [withUnit_next low]
  refine congrArg _ ((if_neg (by simp [prepares, takes, alive, up])).trans ?_)
  have same : (s.reported i).participants = s.participants :=
    have kept {C : Cap} (may : Ok.set C R.GEN_PREPARED_ISLANDS) : Within C s (s.reported i) := (Within.refl s).set may
    have cores : ∀ k < 3, Ok.set (Cap.away (R.TCORE_STATE_STATE k)) R.GEN_PREPARED_ISLANDS := by decide
    State.participants_congr (kept (by decide)).get_eq fun k low => (kept (cores k low)).get_eq
  rw [← same]
  rfl

theorem exec_genDecision (pending : s.genState = 1 ∨ s.genState = 2) (due : s.gen.at_ - s.genGuard ≤ s.ax.mark) : exec .genDecision s = .next (
    if s.gen.asked ∨ maskOf (s.participants.filter (fun i => !bitOn (s.get R.GEN_PREPARED_ISLANDS) i)) ≠ 0 then
      s.cancelGen (maskOf (s.participants.filter (fun i => !bitOn (s.get R.GEN_PREPARED_ISLANDS) i))) else s.setGenState 3) := by
  show execGenDecision s = _
  unfold execGenDecision
  exact congrArg _ (if_neg (by omega))

/-- A commit cancelled leaves nothing staged, and names what was missing. -/
theorem State.cancelGen_spec (s : State) {missing : Nat} (fits : missing < 2 ^ 16) :
    (s.cancelGen missing).genState = 0 ∧ (s.cancelGen missing).staging = [] ∧ (s.cancelGen missing).get R.GEN_CMD_STATUS = 3 ∧ (s.cancelGen missing).get R.GEN_NEXT_GEN = 0 ∧
      (s.cancelGen missing).shadow = s.shadow ∧ Event (s.cancelGen missing) P.GEN E.GEN_CANCELLED ∧ (s.cancelGen missing).get R.GEN_LAGGARDS_ISLANDS = missing := by
  have kept : Within (Cap.sparing .shadow) s (s.cancelGen missing) := (Within.refl s).cancelGen (by decide)
  refine ⟨?_, ?_, ?_, ?_, kept.shadow_eq, ?_, ?_⟩
  all_goals unfold State.cancelGen State.genRec; extract_lets n _ u marked
  · exact ((((Within.refl marked).bump (by decide)).raise (by decide)).trig).get_eq.trans (State.get_set_fits _ _ (by decide) (by decide))
  · exact ((((Within.refl marked).bump (by decide)).raise (by decide)).trig).staging_eq
  · exact (((((Within.refl _).setGenState (by decide)).bump (by decide)).raise (by decide)).trig).get_eq.trans (State.get_set_fits _ _ (by decide) (by decide))
  · exact ((((((Within.refl _).set (by decide)).setGenState (by decide)).bump (by decide)).raise (by decide)).trig).get_eq.trans (State.get_set_fits _ _ (by decide) (by decide))
  · exact ((Within.refl _).trig).event (event_raise _ _ _ (by decide))
  · exact (((((((Within.refl _).set (by decide)).set (by decide)).setGenState (by decide)).bump (by decide)).raise (by decide)).trig).get_eq.trans (State.get_set_fits _ _ (by decide) fits)

/-- The island that reports is shown, and no other. -/
theorem State.reported_bit (s : State) {i : Nat} (low : i < 16) (j : Nat) : bitOn ((s.reported i).get R.GEN_PREPARED_ISLANDS) j = if j = i then true else bitOn (s.get R.GEN_PREPARED_ISLANDS) j := by
  unfold State.reported
  rw [State.get_set_fits s R.GEN_PREPARED_ISLANDS (by decide) (setBit_fits true (State.get_lt s R.GEN_PREPARED_ISLANDS) low)]
  exact testBit_setBit ..

theorem exec_preparedReport_of {i : Nat} (low : i < 16) (prepares : s.genState = 1) (takes : i ∈ s.participants) (alive : s.islandDead i = false) (up : s.up islMGT = true) :
    exec (.preparedReport i) s = .next (if ∀ j ∈ s.participants, j = i ∨ bitOn (s.get R.GEN_PREPARED_ISLANDS) j = true then (s.reported i).setGenState 2 else s.reported i) := by
  refine (exec_preparedReport low prepares takes alive up).trans (congrArg _ ?_)
  refine ite_cond_congr (propext ?_)
  rw [List.all_eq_true]
  refine forall₂_congr fun j _ => ?_
  show (setBit _ i true).testBit j = true ↔ _
  rw [testBit_setBit]
  by_cases is : j = i <;> simp [is, bitOn]

theorem State.participants_missing (s : State) : maskOf (s.participants.filter (fun i => !bitOn (s.get R.GEN_PREPARED_ISLANDS) i)) < 2 ^ 16 ∧
    (∀ i ∈ s.participants, bitOn (maskOf (s.participants.filter (fun i => !bitOn (s.get R.GEN_PREPARED_ISLANDS) i))) i = !bitOn (s.get R.GEN_PREPARED_ISLANDS) i) ∧
    ((∀ i ∈ s.participants, bitOn (s.get R.GEN_PREPARED_ISLANDS) i = true) → maskOf (s.participants.filter (fun i => !bitOn (s.get R.GEN_PREPARED_ISLANDS) i)) = 0) := by
  refine ⟨maskOf_fits fun i among => s.participants_low (List.mem_of_mem_filter among), fun i among => ?_, fun all => ?_⟩
  · rw [maskOf_bit, Bool.eq_iff_iff, decide_eq_true_iff, List.mem_filter, and_iff_right among]
  · rw [List.filter_eq_nil_iff.mpr fun i among => by simp [all i among]]
    rfl

end

/-- Settles O37. Without a proving run, which a PREPARE would abort first, the command goes to the participants alone. -/
theorem generationsPrepareAndDecide : Obligations.GenerationsPrepareAndDecide := by
  unfold Obligations.GenerationsPrepareAndDecide
  refine ⟨?_, ?_, ?_, ?_, ?_⟩
  · intro s m tick opened rests idle
    have refused {st : Nat} (fits : st < 16) (is : s.prepareStatus (s.voteTime tick) = some st) :
        Completes (.genPrepare m tick) s fun t => t.get R.GEN_CMD_STATUS = st ∧ t.genState = 0 ∧ t.staging = s.staging := by
      obtain ⟨status, same, staging⟩ := State.prepare_refused is fits
      exact .intro (exec_genPrepare opened rests idle) ⟨status, same.trans rests, staging⟩
    refine ⟨fun early => refused (by decide) (if_pos early), fun late fenced => refused (by decide) ?_, fun late free soon => refused (by decide) ?_, fun late free whole even after before => ?_⟩
    · exact (if_neg (Nat.not_lt.mpr late)).trans (if_pos fenced)
    · exact (if_neg (Nat.not_lt.mpr late)).trans ((if_neg (not_not.mpr free)).trans (if_pos (.inr (.inr (.inl soon)))))
    · refine .intro (exec_genPrepare opened rests idle) (State.prepare_spec ?_)
      exact (if_neg (Nat.not_lt.mpr late)).trans ((if_neg (not_not.mpr free)).trans (if_neg (by omega)))
  · intro s m tick opened pending
    have quiet {C : Cap} (may : Ok.wcReject C) : Within C s (s.wcReject m R.GEN_CMD) := (Within.refl s).wcReject may
    exact .intro (exec_genPrepare_again opened pending) ⟨(quiet (by decide)).staging_eq, (quiet (by decide)).gen_eq, (quiet (by decide)).get_eq, event_raise _ _ _ (by decide)⟩
  · intro s m opened
    refine ⟨fun before => .intro ((exec_genCancel opened).trans (congrArg Host.Outcome.next (if_pos before))) ⟨rfl, rfl⟩, fun no1 no2 => ?_⟩
    exact .intro ((exec_genCancel opened).trans (congrArg Host.Outcome.next (if_neg (not_or.mpr ⟨no1, no2⟩)))) ⟨((Within.refl s).set (by decide)).gen_eq, State.get_set_fits _ _ (by decide) (by decide)⟩
  · intro s i low prepares takes alive up
    have same {C : Cap} (may : Ok.setGenState C) : Within C (s.reported i) (if ∀ j ∈ s.participants, j = i ∨ bitOn (s.get R.GEN_PREPARED_ISLANDS) j = true then (s.reported i).setGenState 2 else s.reported i) :=
      .ite ((Within.refl _).setGenState may) (.refl _)
    refine .intro (exec_preparedReport_of low prepares takes alive up) ⟨?_, fun j other => ?_, fun all => ?_, fun some' => ?_⟩
    · rw [(same (by decide)).get_eq, s.reported_bit low, if_pos rfl]
    · rw [(same (by decide)).get_eq, s.reported_bit low, if_neg other]
    · rw [if_pos all]
      exact State.setGenState_genState _ (by decide)
    · rw [if_neg some']
      exact ((Within.refl s).set (by decide)).get_eq.trans prepares
  · intro s pending due
    obtain ⟨fits, named, none'⟩ := s.participants_missing
    refine ⟨fun ends => ?_, fun goes all => ?_⟩
    · obtain ⟨st, staging, status, next, shadow, event, laggards⟩ := s.cancelGen_spec fits
      refine .intro ((exec_genDecision pending due).trans (congrArg Host.Outcome.next (if_pos (ends.imp id ?_)))) ⟨st, staging, status, next, shadow, event, fun i among => ?_⟩
      · rintro ⟨i, among, off⟩
        exact maskOf_ne_zero (List.mem_filter.mpr ⟨among, by rw [off]; rfl⟩)
      · rw [laggards]
        exact named i among
    · have set {C : Cap} (may : Ok.setGenState C) : Within C s (s.setGenState 3) := (Within.refl s).setGenState may
      exact .intro ((exec_genDecision pending due).trans (congrArg Host.Outcome.next (if_neg (by simp [goes, none' all])))) ⟨State.setGenState_genState _ (by decide), (set (by decide)).staging_eq, (set (by decide)).onlySlots⟩

end Sys2Proof.Machine
end

section
/-! PROOFS.
DMA rings start and stop (spec/21, R477 to R490).
-/
namespace Sys2Proof.Machine
open Sys2Proof

section
variable {s : State} {m : Master} {q : Nat} {w : Word}

theorem exec_dmaRingEnable (low : q < 8) (opened : Open s m (R.DMA_CFG q)) (world : s.ringWorld m q = false) : exec (.dmaRingEnable m q w) s = .next (s.writeRing m q w) := by
  show execDmaRingEnable m q w s = _
  unfold execDmaRingEnable
  rw [withUnit_next low, hostWrite_open opened, if_neg (by rw [world]; exact Bool.false_ne_true)]

/-! ## A ring that starts (R490) -/

/-- A write of DMA.CFGq with HOST_ERR 1 clears it. -/
def State.errCleared (s : State) (q : Nat) (w : Word) : State := if (R.DMA_CFG_HOST_ERR q).of w = 1 then s.set (R.DMA_CFG_HOST_ERR q) 0 else s

theorem Within.errCleared {C : Cap} (may : Ok.set C (R.DMA_CFG_HOST_ERR q)) : Within C s (s.errCleared q w) := .ite ((Within.refl s).set may) (.refl s)

/-- A ring starts with its indices 0 and no descriptor in hand. -/
def State.ringStart (s : State) (q : Nat) : State :=
  (((((s.set (R.DMA_HEAD_IDX q) 0).set (R.DMA_TAIL_IDX q) 0).set (R.DMA_DONE_IDX q) 0).set (R.DMA_SEEN_IDX q) 0).putRun q true).putDma q .init

/-- What a write that starts a ring does. -/
def State.ringEmpty (s : State) (q : Nat) : State := if decide (q < 4) && (List.range 8).any (fun c => decide (s.rxRing c = q) && (s.headOf 24 c).isSome) then s.noBuf q else s

theorem State.writeRing_starts (off : s.ringOn q = false) (en : (R.DMA_CFG_EN q).of w = 1) (low : q < 8) :
    ∃ pf, s.writeRing m q w = ((((s.errCleared q w).set (R.DMA_CFG_PF q) pf).set (R.DMA_CFG_LOG2 q) ((R.DMA_CFG_LOG2 q).of w)).ringStart q).ringEmpty q := by
  have may : ∀ k < 8, Ok.set (Cap.away (R.DMA_CFG_EN k)) (R.DMA_CFG_HOST_ERR k) := by decide
  have stays : (s.errCleared q w).ringOn q = false := by
    unfold State.ringOn at off ⊢
    rw [(Within.errCleared (may q low)).flag_eq, off]
  unfold State.writeRing
  extract_lets u on pf lg en' t t1 t2
  have isOff : on = false := stays
  have isEn : en' = true := decide_eq_true en
  have wrote : t = (u.set (R.DMA_CFG_PF q) pf).set (R.DMA_CFG_LOG2 q) lg := if_neg (by rw [isOff]; exact Bool.false_ne_true)
  rw [if_neg (by rw [isEn, isOff]; exact Bool.true_eq_false.mp), if_neg (by rw [isEn]; exact Bool.false_ne_true)]
  refine ⟨pf, ?_⟩
  show t2.ringEmpty q = _
  rw [show t2 = t.ringStart q from rfl, wrote]
  rfl

theorem State.errCleared_on (on : s.ringOn q = true) (low : q < 8) : (s.errCleared q w).ringOn q = true := by
  have may : ∀ k < 8, Ok.set (Cap.away (R.DMA_CFG_EN k)) (R.DMA_CFG_HOST_ERR k) := by decide
  unfold State.ringOn at on ⊢
  rw [(Within.errCleared (may q low)).flag_eq, on]

theorem State.writeRing_stops (on : s.ringOn q = true) (en : (R.DMA_CFG_EN q).of w = 0) (low : q < 8) : ∃ u, s.writeRing m q w = (State.putRun u q false).emptyRing q false := by
  have stays := State.errCleared_on (w := w) on low
  unfold State.writeRing
  extract_lets u on' pf lg en' t t1 t2
  have isOn : on' = true := stays
  have isEn : en' = false := decide_eq_false (by rw [en]; decide)
  rw [if_neg (by rw [isEn, isOn]; exact Bool.false_ne_true), if_pos (by rw [isEn]; rfl)]
  exact ⟨t, rfl⟩

theorem State.writeRing_keeps (on : s.ringOn q = true) (en : (R.DMA_CFG_EN q).of w = 1) (low : q < 8) (differs : (R.DMA_CFG_LOG2 q).of w ≠ s.get (R.DMA_CFG_LOG2 q)) :
    s.writeRing m q w = (s.errCleared q w).raise P.DMA E.DMA_CFG_ERR := by
  have may : ∀ k < 8, Ok.set (Cap.away (R.DMA_CFG_LOG2 k)) (R.DMA_CFG_HOST_ERR k) := by decide
  have stays := State.errCleared_on (w := w) on low
  unfold State.writeRing
  extract_lets u on' pf lg en' t t1 t2
  have isOn : on' = true := stays
  have isEn : en' = true := decide_eq_true en
  have same : u.get (R.DMA_CFG_LOG2 q) = s.get (R.DMA_CFG_LOG2 q) := (Within.errCleared (may q low)).get_eq
  rw [if_pos (by rw [isEn, isOn]), show t = _ from if_pos isOn, State.raiseIf, if_pos (decide_eq_true (.inr (by rw [same]; exact differs)))]
  rfl

theorem State.putRun_spec (s : State) (b : Bool) (low : q < 8) : (s.putRun q b).ringOn q = b ∧ bitOn ((s.putRun q b).get R.DMA_STATUS_RUN) q = b := by
  have may : ∀ k < 8, Ok.set (Cap.away (R.DMA_CFG_EN k)) R.DMA_STATUS_RUN := by decide
  unfold State.putRun State.ringOn
  extract_lets u
  refine ⟨((Within.refl u).set (may q low)).flag_eq.trans (State.setFlag_flag _ _ _ (by decide : 0 + 1 ≤ 36) rfl), ?_⟩
  rw [State.get_set_fits u R.DMA_STATUS_RUN (by decide) (setBit_fits b (u.get_lt R.DMA_STATUS_RUN) low), bitOn_setBit_same]

theorem State.putDma_dmaRing (s : State) (q : Nat) (x : RingState) : (s.putDma q x).dmaRing q = x := kvGetD_kvPut_same ..

/-- What is left of a ring that has been emptied. -/
theorem State.emptyRing_dmaRing (s : State) (q : Nat) (b : Bool) : (s.emptyRing q b).dmaRing q = { RingState.init with stopped := b } := by
  unfold State.emptyRing
  extract_lets n _ t u
  exact State.putDma_dmaRing u q _

theorem State.ringEmpty_ring (s : State) (q : Nat) : ((s.ringEmpty q).dmaRing q).rx = (s.dmaRing q).rx ∧ ((s.ringEmpty q).dmaRing q).tx = (s.dmaRing q).tx := by
  unfold State.ringEmpty State.noBuf
  extract_lets r
  split
  · split
    · exact ⟨rfl, rfl⟩
    · have is : ((s.putDma q { r with nobuf := true }).raise P.DMA E.DMA_NOBUF).dmaRing q = { r with nobuf := true } := by
        unfold State.dmaRing
        rw [((Within.refl _).raise (by decide)).dma_eq]
        exact kvGetD_kvPut_same ..
      rw [is]
      exact ⟨rfl, rfl⟩
  · exact ⟨rfl, rfl⟩

theorem Within.ringEmpty {C : Cap} (may : Ok.noBuf C) : Within C s (s.ringEmpty q) := .ite ((Within.refl s).noBuf may) (.refl s)

theorem Within.ringStart {C : Cap} (may : Ok.set C (R.DMA_HEAD_IDX q) ∧ Ok.set C (R.DMA_TAIL_IDX q) ∧ Ok.set C (R.DMA_DONE_IDX q) ∧ Ok.set C (R.DMA_SEEN_IDX q) ∧ Ok.putRun C q ∧ Ok.putDma C) : Within C s (s.ringStart q) :=
  (((((((Within.refl s).set may.1).set may.2.1).set may.2.2.1).set may.2.2.2.1).putRun may.2.2.2.2.1)).putDma may.2.2.2.2.2

/-- A ring that has started is enabled and empty. -/
theorem State.ringStart_spec (s : State) (low : q < 8) : (s.ringStart q).ringOn q = true ∧ (s.ringStart q).get (R.DMA_HEAD_IDX q) = 0 ∧ (s.ringStart q).get (R.DMA_TAIL_IDX q) = 0 ∧
    (s.ringStart q).get (R.DMA_DONE_IDX q) = 0 ∧ (s.ringStart q).get (R.DMA_SEEN_IDX q) = 0 ∧ bitOn ((s.ringStart q).get R.DMA_STATUS_RUN) q = true ∧ (s.ringStart q).dmaRing q = .init := by
  have head : ∀ k < 8, Ok.set (Cap.away (R.DMA_HEAD_IDX k)) (R.DMA_TAIL_IDX k) ∧ Ok.set (Cap.away (R.DMA_HEAD_IDX k)) (R.DMA_DONE_IDX k) ∧ Ok.set (Cap.away (R.DMA_HEAD_IDX k)) (R.DMA_SEEN_IDX k) ∧
    Ok.putRun (Cap.away (R.DMA_HEAD_IDX k)) k ∧ Ok.putDma (Cap.away (R.DMA_HEAD_IDX k)) := by decide
  have tail : ∀ k < 8, Ok.set (Cap.away (R.DMA_TAIL_IDX k)) (R.DMA_DONE_IDX k) ∧ Ok.set (Cap.away (R.DMA_TAIL_IDX k)) (R.DMA_SEEN_IDX k) ∧ Ok.putRun (Cap.away (R.DMA_TAIL_IDX k)) k ∧
    Ok.putDma (Cap.away (R.DMA_TAIL_IDX k)) := by decide
  have done : ∀ k < 8, Ok.set (Cap.away (R.DMA_DONE_IDX k)) (R.DMA_SEEN_IDX k) ∧ Ok.putRun (Cap.away (R.DMA_DONE_IDX k)) k ∧ Ok.putDma (Cap.away (R.DMA_DONE_IDX k)) := by decide
  have seen : ∀ k < 8, Ok.putRun (Cap.away (R.DMA_SEEN_IDX k)) k ∧ Ok.putDma (Cap.away (R.DMA_SEEN_IDX k)) := by decide
  have en : ∀ k < 8, Ok.putDma (Cap.away (R.DMA_CFG_EN k)) := by decide
  have zero (t : State) {f : Fld} (inside : f.lo + f.w ≤ 36) : (t.set f 0).get f = 0 := State.get_set_fits _ _ inside (Nat.two_pow_pos _)
  obtain ⟨isOn, runs⟩ := State.putRun_spec ((((s.set (R.DMA_HEAD_IDX q) 0).set (R.DMA_TAIL_IDX q) 0).set (R.DMA_DONE_IDX q) 0).set (R.DMA_SEEN_IDX q) 0) true low
  unfold State.ringStart
  refine ⟨?_, ?_, ?_, ?_, ?_, ?_, kvGetD_kvPut_same ..⟩
  · exact ((Within.refl _).putDma (en q low)).flag_eq.trans isOn
  · obtain ⟨a, b, c, d, e⟩ := head q low
    exact ((((((Within.refl _).set a).set b).set c).putRun d).putDma e).get_eq.trans (zero _ (by decide : 0 + 16 ≤ 36))
  · obtain ⟨a, b, c, d⟩ := tail q low
    exact (((((Within.refl _).set a).set b).putRun c).putDma d).get_eq.trans (zero _ (by decide : 0 + 16 ≤ 36))
  · obtain ⟨a, b, c⟩ := done q low
    exact ((((Within.refl _).set a).putRun b).putDma c).get_eq.trans (zero _ (by decide : 0 + 16 ≤ 36))
  · obtain ⟨a, b⟩ := seen q low
    exact (((Within.refl _).putRun a).putDma b).get_eq.trans (zero _ (by decide : 0 + 16 ≤ 36))
  · exact (congrArg (bitOn · q) ((Within.refl _).putDma (by decide)).get_eq).trans runs

/-! ## Errors and the page disabled (R477, R485, R487) -/

theorem exec_ringErr {corr uncorr : Nat} (low : q < 8) (up : s.up islMGT = true) (on : s.ringOn q = true) :
    exec (.ringErr q corr uncorr) s = .next ((((s.pcieErrors corr uncorr).stopRing q).set (R.DMA_CFG_HOST_ERR q) 1).raise P.DMA E.DMA_RING_ERR) := by
  show execRingErr q corr uncorr s = _
  unfold execRingErr
  rw [withUnit_next low]
  exact congrArg _ (if_neg (by simp [up, on]))

theorem State.stopRing_dmaRing (s : State) (q : Nat) (on : s.ringOn q = true) : (s.stopRing q).dmaRing q = { RingState.init with stopped := true } := by
  unfold State.stopRing
  rw [if_pos on]
  exact State.emptyRing_dmaRing ..

theorem State.pcieErrors_corr (s : State) (corr uncorr : Nat) : (s.pcieErrors corr uncorr).get R.PCI_ERR_CORR_COUNT = min (s.get R.PCI_ERR_CORR_COUNT + corr) (2 ^ R.PCI_ERR_CORR_COUNT.w - 1) :=
  (((Within.refl _).bumpBy (by decide)).raiseIf (by decide)).get_eq.trans (State.bumpBy_get_same _ _ _ (by decide))

theorem exec_dmaDisable (opened : Open s m (R.PG_CTRL P.DMA)) (en : s.get (R.PG_CTRL_EN P.DMA) = 1) :
    exec (.dmaDisable m) s = .next ((s.setFlag (R.PG_CTRL_EN P.DMA) false).stopRings (fun _ => true)).showDmaBusy := by
  show execDmaDisable m s = _
  unfold execDmaDisable
  rw [hostWrite_open opened]
  exact congrArg _ (if_pos (State.flag_of_get en))

end

/-- Settles O50: PCIe errors that RING_ERR counts by its operand are log entry 30. -/
theorem ringsStartAndStop : Obligations.RingsStartAndStop := by
  unfold Obligations.RingsStartAndStop
  refine ⟨?_, ?_, ?_⟩
  · intro s m q w low opened world
    refine ⟨fun off en => ?_, fun on en => ?_, fun on en differs => ?_⟩
    · obtain ⟨pf, is⟩ := State.writeRing_starts (m := m) off en low
      obtain ⟨isOn, head, tail, done, seen, runs, empty⟩ := State.ringStart_spec (((s.errCleared q w).set (R.DMA_CFG_PF q) pf).set (R.DMA_CFG_LOG2 q) ((R.DMA_CFG_LOG2 q).of w)) low
      have log : ∀ k < 8, Ok.set (Cap.away (R.DMA_CFG_LOG2 k)) (R.DMA_HEAD_IDX k) ∧ Ok.set (Cap.away (R.DMA_CFG_LOG2 k)) (R.DMA_TAIL_IDX k) ∧ Ok.set (Cap.away (R.DMA_CFG_LOG2 k)) (R.DMA_DONE_IDX k) ∧
        Ok.set (Cap.away (R.DMA_CFG_LOG2 k)) (R.DMA_SEEN_IDX k) ∧ Ok.putRun (Cap.away (R.DMA_CFG_LOG2 k)) k ∧ Ok.putDma (Cap.away (R.DMA_CFG_LOG2 k)) := by decide
      have buffer : ∀ k < 8, Ok.noBuf (Cap.away (R.DMA_CFG_EN k)) ∧ Ok.noBuf (Cap.away (R.DMA_CFG_LOG2 k)) ∧ Ok.noBuf (Cap.away (R.DMA_HEAD_IDX k)) ∧ Ok.noBuf (Cap.away (R.DMA_TAIL_IDX k)) ∧
        Ok.noBuf (Cap.away (R.DMA_DONE_IDX k)) ∧ Ok.noBuf (Cap.away (R.DMA_SEEN_IDX k)) := by decide
      obtain ⟨mayEn, mayLog, mayHead, mayTail, mayDone, maySeen⟩ := buffer q low
      obtain ⟨rx, tx⟩ := ((((s.errCleared q w).set (R.DMA_CFG_PF q) pf).set (R.DMA_CFG_LOG2 q) ((R.DMA_CFG_LOG2 q).of w)).ringStart q).ringEmpty_ring q
      refine .intro ((exec_dmaRingEnable low opened world).trans (congrArg Host.Outcome.next is)) ⟨?_, ?_, ?_, ?_, ?_, ?_, ?_, ?_, ?_⟩
      · exact (Within.ringEmpty mayEn).flag_eq.trans isOn
      · rw [(Within.ringEmpty mayLog).get_eq, (Within.ringStart (log q low)).get_eq]
        exact State.get_set_fits _ _ (by decide : 4 + 4 ≤ 36) (Nat.mod_lt _ (Nat.two_pow_pos _))
      · exact (Within.ringEmpty mayHead).get_eq.trans head
      · exact (Within.ringEmpty mayTail).get_eq.trans tail
      · exact (Within.ringEmpty mayDone).get_eq.trans done
      · exact (Within.ringEmpty maySeen).get_eq.trans seen
      · exact (congrArg (bitOn · q) (Within.ringEmpty (by decide)).get_eq).trans runs
      · rw [rx, empty]
        rfl
      · rw [tx, empty]
        rfl
    · obtain ⟨u, is⟩ := State.writeRing_stops (m := m) on en low
      have may : ∀ k < 8, Ok.emptyRing (Cap.away (R.DMA_CFG_EN k)) := by decide
      obtain ⟨isOff, rests⟩ := u.putRun_spec false low
      refine .intro ((exec_dmaRingEnable low opened world).trans (congrArg Host.Outcome.next is)) ⟨?_, ?_, ?_, ?_⟩
      · exact ((Within.refl _).emptyRing (may q low)).flag_eq.trans isOff
      · exact (congrArg (bitOn · q) ((Within.refl _).emptyRing (by decide)).get_eq).trans rests
      · rw [State.emptyRing_dmaRing]
        rfl
      · rw [State.emptyRing_dmaRing]
        rfl
    · have cleared : ∀ k < 8, Ok.set (Cap.away (R.DMA_CFG_LOG2 k)) (R.DMA_CFG_HOST_ERR k) ∧ Ok.set (Cap.sparing .dma) (R.DMA_CFG_HOST_ERR k) := by decide
      have raised : ∀ k < 8, Ok.raise (Cap.away (R.DMA_CFG_LOG2 k)) P.DMA ∧ Ok.raise (Cap.away (R.DMA_CFG_EN k)) P.DMA := by decide
      obtain ⟨mayLog, mayDma⟩ := cleared q low
      obtain ⟨keepsLog, keepsEn⟩ := raised q low
      refine .intro ((exec_dmaRingEnable low opened world).trans (congrArg Host.Outcome.next (State.writeRing_keeps on en low differs))) ⟨?_, ?_, event_raise _ _ _ (by decide), ?_⟩
      · exact ((Within.refl _).raise keepsEn).flag_eq.trans (State.errCleared_on on low)
      · exact ((Within.errCleared mayLog).raise keepsLog).get_eq
      · exact ((Within.errCleared mayDma).raise (by decide)).dma_eq
  · intro s q corr uncorr low up on
    obtain ⟨errors, event⟩ := s.pcieErrors_spec corr uncorr
    have may : ∀ k < 8, Ok.pcieErrors (Cap.away (R.DMA_CFG_EN k)) ∧ Ok.set (Cap.away (R.DMA_CFG_EN k)) (R.DMA_CFG_HOST_ERR k) ∧ Ok.raise (Cap.away (R.DMA_CFG_EN k)) P.DMA ∧
      Ok.raise (Cap.away (R.DMA_CFG_HOST_ERR k)) P.DMA := by decide
    have counts : ∀ k < 8, Ok.stopRing (Cap.away R.PCI_ERR_CORR_COUNT) k ∧ Ok.set (Cap.away R.PCI_ERR_CORR_COUNT) (R.DMA_CFG_HOST_ERR k) ∧
      Ok.stopRing (Cap.away R.PCI_ERR_UNCORR_COUNT) k ∧ Ok.set (Cap.away R.PCI_ERR_UNCORR_COUNT) (R.DMA_CFG_HOST_ERR k) := by decide
    have events : ∀ k < 8, Ok.stopRing (Cap.raising P.PCI) k ∧ Ok.set (Cap.raising P.PCI) (R.DMA_CFG_HOST_ERR k) ∧ Ok.set (Cap.sparing .dma) (R.DMA_CFG_HOST_ERR k) := by decide
    obtain ⟨mayErrors, mayErr, mayRaise, mayShow⟩ := may q low
    obtain ⟨corrStop, corrSet, uncorrStop, uncorrSet⟩ := counts q low
    obtain ⟨eventStop, eventSet, dmaSet⟩ := events q low
    have isOn : (s.pcieErrors corr uncorr).ringOn q = true := ((Within.refl s).pcieErrors mayErrors).flag_eq.trans on
    refine .intro (exec_ringErr low up on) ⟨?_, ?_, ?_, fun some' => ?_, ?_, ?_, event_raise _ _ _ (by decide)⟩
    · refine (((Within.refl _).set mayErr).raise mayRaise).flag_eq.trans ((stopRing_ringOn _ q q low low).trans ?_)
      rw [decide_eq_false (not_not.mpr rfl), Bool.and_false]
    · exact ((((Within.refl _).stopRing corrStop).set corrSet).raise (by decide)).get_eq.trans (s.pcieErrors_corr corr uncorr)
    · exact ((((Within.refl _).stopRing uncorrStop).set uncorrSet).raise (by decide)).get_eq.trans errors
    · exact ((((Within.refl _).stopRing eventStop).set eventSet).raise (by decide)).event (event some')
    · exact ((Within.refl _).raise mayShow).get_eq.trans (State.get_set_fits _ _ (by decide : 9 + 1 ≤ 36) (by decide : 1 < 2 ^ 1))
    · unfold State.dmaRing
      rw [(((Within.refl _).set dmaSet).raise (by decide)).dma_eq]
      exact congrArg RingState.stopped (State.stopRing_dmaRing _ q isOn)
  · intro s m opened en
    refine .intro (exec_dmaDisable opened en) ⟨?_, fun q low => ?_⟩
    · exact (((Within.refl _).stopRings (by decide)).showDmaBusy (by decide)).get_eq.trans (State.setFlag_get_same _ _ _ (by decide) rfl)
    · have may : ∀ k < 8, Ok.showDmaBusy (Cap.away (R.DMA_CFG_EN k)) := by decide
      refine ((Within.refl _).showDmaBusy (may q low)).flag_eq.trans ((stopRings_ringOn _ _ q low).trans ?_)
      rw [Bool.not_true, Bool.and_false]

end Sys2Proof.Machine
end

section
/-! PROOFS.
Commits end and fences lift (spec/17, R407 to R409).
-/
namespace Sys2Proof.Machine
open Sys2Proof

section
variable {s : State} {i : Nat}

/-! ## APPLIED (R407, R408) -/

/-- A participant's report of the set in force is in. -/
def State.applies (s : State) (i : Nat) : State := { s with gen := { s.gen with applied := setBit s.gen.applied i true } }

theorem exec_appliedReport (low : i < 16) (alive : s.islandDead i = false) (up : s.up islMGT = true) (free : bitOn (s.get R.GEN_FENCED_ISLANDS) i = false) (applies : s.genState = 4)
    (takes : bitOn s.gen.parts i = true) (fresh : kvGet s.gen.keep i = none) :
    exec (.appliedReport i) s = .next (if ∀ j ∈ s.toApply, j = i ∨ bitOn s.gen.applied j = true then (s.applies i).endApply else s.applies i) := by
  show execAppliedReport i s = _
  unfold execAppliedReport
  rw [withUnit_next low]
  refine congrArg _ ((if_neg (by simp [alive, up])).trans ((if_neg (by rw [free]; exact Bool.false_ne_true)).trans ((if_neg (by simp [applies, takes, fresh])).trans ?_)))
  refine ite_cond_congr (propext ?_)
  show s.toApply.all (fun j => bitOn (setBit s.gen.applied i true) j) = true ↔ _
  rw [List.all_eq_true]
  refine forall₂_congr fun j _ => ?_
  show (setBit _ i true).testBit j = true ↔ _
  rw [testBit_setBit]
  by_cases is : j = i <;> simp [is, bitOn]

/-- The commit's end shows. -/
theorem State.endApply_spec (s : State) : s.endApply.genState = 0 ∧ s.endApply.get R.GEN_CMD_STATUS = 2 := by
  refine ⟨?_, State.get_set_fits _ _ (by decide) (by decide)⟩
  exact ((Within.refl _).set (by decide)).get_eq.trans (State.setGenState_genState _ (by decide))

/-- What an island takes that was fenced, and when it did (R409). -/
def State.appliesLate (s : State) (i : Nat) : State :=
  { s with regs := if (kvGet s.gen.keep i).isSome then mergeRws s.regs (kvGetD s.gen.keep i []) (fun p => (pageIslands p).contains i) else s.regs,
           gen := { s.gen with keep := kvDel s.gen.keep i, late := kvPut s.gen.late i s.ax.marks } }

theorem exec_appliedReport_fenced (low : i < 16) (alive : s.islandDead i = false) (up : s.up islMGT = true) (fenced : bitOn (s.get R.GEN_FENCED_ISLANDS) i = true)
    (returned : bitOn s.gen.returned i = true) (first : kvGet s.gen.late i = none) :
    exec (.appliedReport i) s = .next (if (kvGet s.gen.keep i).isSome then (s.appliesLate i).commitBlocks s.regs [] (2 ^ i) else s.appliesLate i) := by
  show execAppliedReport i s = _
  unfold execAppliedReport
  rw [withUnit_next low]
  exact congrArg _ ((if_neg (by simp [alive, up])).trans ((if_pos fenced).trans (if_neg (by simp [returned, first]))))

/-! ## Fences (R408, R409) -/

theorem State.putFenced_get (s : State) (i : Nat) (b : Bool) : (s.putFenced i b).get R.GEN_FENCED_ISLANDS = setBit (s.get R.GEN_FENCED_ISLANDS) i b % 2 ^ 16 := by
  have flags : ∀ r : PageRow, r ∈ pageDir → ∀ k : Nat, k < r.count → Ok.set (Cap.away R.GEN_FENCED_ISLANDS) (R.PG_STAT_FENCED (r.first + k)) := by decide
  unfold State.putFenced
  extract_lets t
  have shown : Within (Cap.away R.GEN_FENCED_ISLANDS) t ((islandPages i).foldl (fun (t : State) p => t.setFlag (R.PG_STAT_FENCED p) b) t) := .foldl (.refl t) fun p m _ h => by
    obtain ⟨r, row, k, low, is⟩ := islandPages_mem m
    exact is ▸ h.setFlag (flags r row k low)
  rw [shown.get_eq]
  exact State.get_set_same _ _ _ (by decide)

theorem State.putFenced_bits (s : State) (i : Nat) (b : Bool) {j : Nat} (low : j < 16) : bitOn ((s.putFenced i b).get R.GEN_FENCED_ISLANDS) j = if j = i then b else bitOn (s.get R.GEN_FENCED_ISLANDS) j := by
  rw [State.putFenced_get, bitOn, Nat.testBit_mod_two_pow, show decide (j < 16) = true from decide_eq_true low, Bool.true_and]
  exact testBit_setBit ..

/-- GEN.FENCED has a bit for each of sixteen islands. -/
theorem State.fenced_low (s : State) {j : Nat} (on : bitOn (s.get R.GEN_FENCED_ISLANDS) j = true) : j < 16 := by
  refine Nat.lt_of_not_le fun high => ?_
  have off : (s.get R.GEN_FENCED_ISLANDS).testBit j = false := Nat.testBit_lt_two_pow (Nat.lt_of_lt_of_le (s.get_lt R.GEN_FENCED_ISLANDS) (Nat.pow_le_pow_right (by decide) high))
  exact Bool.false_ne_true (off.symm.trans on)

/-- What becomes of a fence that is shown leaves GEN.FENCED as it is. -/
theorem State.fence_fenced (s : State) (cuts : List (Nat × TxRef)) (island : i ∈ genIslands) (notCore : ¬(2 ≤ i ∧ i ≤ 4)) (free : ¬ bitOn (s.get R.GEN_FENCED_ISLANDS) i = true) :
    (s.fence i cuts).get R.GEN_FENCED_ISLANDS = (s.putFenced i true).get R.GEN_FENCED_ISLANDS := by
  have coach : ∀ k ∈ genIslands, Ok.fenceCoach (Cap.away R.GEN_FENCED_ISLANDS) k := by decide
  have stops : Ok.faultStops (Cap.away R.GEN_FENCED_ISLANDS) := by decide
  have halt : Ok.switchHalt (Cap.away R.GEN_FENCED_ISLANDS) := by decide
  rw [State.fence_eq, if_neg notCore, if_neg free]
  have shown : Within (Cap.away R.GEN_FENCED_ISLANDS) (s.putFenced i true) (s.fenceShown i) := (((Within.refl _).bump (by decide)).showFences (by decide)).genRec
  exact (((((shown.fenceCoach (coach i island) stops).fenceSwitch rfl halt (by decide)).fenceMgt rfl)).fenceFatal rfl (by decide) (by decide) stops (by decide)).get_eq

/-- An island that is no core is fenced, and no fence lifts by it. -/
theorem State.fence_bits (s : State) (cuts : List (Nat × TxRef)) (island : i ∈ genIslands) :
    (∀ j, bitOn (s.get R.GEN_FENCED_ISLANDS) j = true → bitOn ((s.fence i cuts).get R.GEN_FENCED_ISLANDS) j = true) ∧
    (i < 2 ∨ 4 < i → bitOn ((s.fence i cuts).get R.GEN_FENCED_ISLANDS) i = true) := by
  have cores : ∀ k < 3, Ok.coreFault (Cap.away R.GEN_FENCED_ISLANDS) k := by decide
  have low : ∀ k ∈ genIslands, k < 16 := by decide
  by_cases core : 2 ≤ i ∧ i ≤ 4
  · rw [State.fence_eq, if_pos core, ((Within.refl s).coreFault (cores (i - 2) (by omega))).get_eq]
    exact ⟨fun _ on => on, fun other => by omega⟩
  by_cases fenced : bitOn (s.get R.GEN_FENCED_ISLANDS) i = true
  · rw [State.fence_eq, if_neg core, if_pos fenced]
    exact ⟨fun _ on => on, fun _ => fenced⟩
  rw [s.fence_fenced cuts island core fenced]
  refine ⟨fun j on => ?_, fun _ => ?_⟩
  · rw [s.putFenced_bits i true (s.fenced_low on), on, ite_self]
  · rw [s.putFenced_bits i true (low i island), if_pos rfl]

theorem State.fences_bits (cuts : List (Nat × TxRef)) (l : List Nat) (islands : ∀ k ∈ l, k ∈ genIslands) (s : State) :
    (∀ j, bitOn (s.get R.GEN_FENCED_ISLANDS) j = true → bitOn ((l.foldl (fun (t : State) k => t.fence k cuts) s).get R.GEN_FENCED_ISLANDS) j = true) ∧
    (∀ k ∈ l, k < 2 ∨ 4 < k → bitOn ((l.foldl (fun (t : State) k => t.fence k cuts) s).get R.GEN_FENCED_ISLANDS) k = true) := by
  induction l generalizing s with
  | nil => exact ⟨fun _ on => on, fun _ none' => nomatch none'⟩
  | cons x xs ih =>
    obtain ⟨keeps, fenced⟩ := s.fence_bits cuts (islands x List.mem_cons_self)
    obtain ⟨keeps', fenced'⟩ := ih (fun k among => islands k (List.mem_cons_of_mem _ among)) (s.fence x cuts)
    refine ⟨fun j on => keeps' j (keeps j on), fun k among other => ?_⟩
    rcases List.mem_cons.mp among with is | later
    · subst is
      exact keeps' k (fenced other)
    · exact fenced' k later other

theorem exec_appliedTimeout {cuts : List (Nat × TxRef)} (applies : s.genState = 4) (late : ofT108 (s.rdT R.GEN_LAST_T) + msU ≤ s.ax.mark) :
    exec (.appliedTimeout cuts) s = .next ((s.toApply.filter (fun i => !bitOn s.gen.applied i)).foldl (fun (t : State) i => t.fence i cuts) s).endApply := by
  show execAppliedTimeout cuts s = _
  unfold execAppliedTimeout
  exact congrArg _ (if_neg (by omega))

/-! ## A fence lifts (R409) -/

/-- The fence of an island is over, with its event. -/
structure Lifted (i : Nat) (t : State) : Prop where
  free : bitOn (t.get R.GEN_FENCED_ISLANDS) i = false
  told : kvGet t.gen.late i = none
  event : Event t P.GEN E.GEN_UNFENCED

/-- The island's report is used up. -/
def State.reportUsed (s : State) (i : Nat) : State := { s with gen := { s.gen with late := kvDel s.gen.late i, returned := setBit s.gen.returned i false, keep := kvDel s.gen.keep i } }

/-- A fence no longer shows. -/
def State.fenceOff (s : State) (i : Nat) : State := ((s.putFenced i false).showFences).raise P.GEN E.GEN_UNFENCED

/-- The unit behind a lifted fence serves again. -/
def State.fenceServes (s : State) (i : Nat) : State :=
  let s := s.genRec E.GEN_UNFENCED (s.get R.GEN_IN_FORCE_GEN) (2 ^ i)
  if 8 ≤ i ∧ i ≤ 13 then s.showServing (i - 8) else s

theorem State.liftFence_eq (s : State) (i : Nat) : s.liftFence i = ((s.reportUsed i).fenceOff i).fenceServes i := rfl

theorem Within.fenceServes {C : Cap} {t : State} (h : Within C s t) (may : ∀ c < 6, Ok.showServing C c) : Within C s (t.fenceServes i) := by
  unfold State.fenceServes
  split
  · exact h.genRec.showServing (may _ (by omega))
  · exact h.genRec

theorem State.liftFence_bits (s : State) (i : Nat) {j : Nat} (low : j < 16) : bitOn ((s.liftFence i).get R.GEN_FENCED_ISLANDS) j = if j = i then false else bitOn (s.get R.GEN_FENCED_ISLANDS) j := by
  have served : Within (Cap.away R.GEN_FENCED_ISLANDS) ((s.reportUsed i).putFenced i false) (((s.reportUsed i).fenceOff i).fenceServes i) :=
    (((Within.refl _).showFences (by decide)).raise (by decide)).fenceServes (by decide)
  rw [s.liftFence_eq, served.get_eq, State.putFenced_bits _ i false low]
  rfl

theorem State.liftFence_late (s : State) (i : Nat) : (s.liftFence i).gen.late = kvDel s.gen.late i := by
  have served : Within (Cap.sparing .gen) (s.reportUsed i) (((s.reportUsed i).fenceOff i).fenceServes i) :=
    ((((Within.refl _).putFenced (by decide)).showFences (by decide)).raise (by decide)).fenceServes (by decide)
  exact congrArg GenPart.late ((congrArg State.gen (s.liftFence_eq i)).trans served.gen_eq)

theorem State.liftFence_event (s : State) (i : Nat) : Event (s.liftFence i) P.GEN E.GEN_UNFENCED := by
  rw [s.liftFence_eq]
  exact ((Within.refl _).fenceServes (by decide)).event (event_raise _ _ _ (by decide))

theorem State.liftFence_lifted (s : State) (low : i < 16) : Lifted i (s.liftFence i) := by
  refine ⟨?_, ?_, s.liftFence_event i⟩
  · rw [s.liftFence_bits i low, if_pos rfl]
  · rw [s.liftFence_late]
    exact kvGet_kvDel_same ..

/-- A fence that lifts leaves lifted what is lifted. -/
theorem Lifted.liftFence (h : Lifted i s) (low : i < 16) (j : Nat) : Lifted i (s.liftFence j) := by
  refine ⟨?_, ?_, s.liftFence_event j⟩
  · rw [s.liftFence_bits j low, h.free, ite_self]
  · rw [s.liftFence_late]
    by_cases is : i = j
    · subst is
      exact kvGet_kvDel_same ..
    · exact (kvGet_kvDel_other _ _ _ is).trans h.told

/-- An island among those whose time has come is lifted when all of them are. -/
theorem liftFences_lifted (low : i < 16) (marks : Nat) (l : List (Nat × Nat)) (s : State) (among : Lifted i s ∨ ∃ m, (i, m) ∈ l ∧ m < marks) :
    Lifted i (l.foldl (fun (t : State) (e : Nat × Nat) => if e.2 < marks then t.liftFence e.1 else t) s) := by
  induction l generalizing s with
  | nil => exact among.elim id fun ⟨_, none', _⟩ => nomatch none'
  | cons x xs ih =>
    refine ih _ ?_
    rcases among with lifted | ⟨m, among, due⟩
    · left
      show Lifted i (if _ then _ else _)
      split
      exacts [lifted.liftFence low _, lifted]
    · rcases List.mem_cons.mp among with is | later
      · left
        subst is
        show Lifted i (if m < marks then s.liftFence i else s)
        rw [if_pos due]
        exact s.liftFence_lifted low
      · exact .inr ⟨m, later, due⟩

theorem kvGet_mem {α : Type} {l : List (Nat × α)} {k : Nat} {v : α} (is : kvGet l k = some v) : (k, v) ∈ l := by
  induction l with
  | nil => cases is
  | cons x xs ih =>
    obtain ⟨j, u⟩ := x
    unfold kvGet at is
    split at is
    next same =>
      cases is
      rw [same]
      exact List.mem_cons_self
    · exact List.mem_cons_of_mem _ (ih is)

end

/-- Settles O38. What takes force again in an island (`State.appliesLate`), and DONE at the last APPLIED rather than at T, are the model's choices (log entry 32). -/
theorem commitsEndAndFencesLift : Obligations.CommitsEndAndFencesLift := by
  unfold Obligations.CommitsEndAndFencesLift
  refine ⟨?_, ?_, ?_, ?_⟩
  · intro s i low alive up free applies takes fresh
    obtain ⟨st, status⟩ := (s.applies i).endApply_spec
    have told : bitOn (s.applies i).gen.applied i = true := testBit_setBit_on ..
    by_cases all : ∀ j ∈ s.toApply, j = i ∨ bitOn s.gen.applied j = true
    · refine .intro ((exec_appliedReport low alive up free applies takes fresh).trans (congrArg Host.Outcome.next (if_pos all))) ⟨?_, fun _ => ⟨st, status⟩, fun some' => absurd all some'⟩
      rw [((Within.refl _).endApply (by decide)).gen_eq]
      exact told
    · exact .intro ((exec_appliedReport low alive up free applies takes fresh).trans (congrArg Host.Outcome.next (if_neg all))) ⟨told, fun some' => absurd some' all, fun _ => rfl⟩
  · intro s i low alive up fenced returned first
    have kept : Within (Cap.sparing .gen) (s.appliesLate i) (if (kvGet s.gen.keep i).isSome then (s.appliesLate i).commitBlocks s.regs [] (2 ^ i) else s.appliesLate i) :=
      .ite ((Within.refl _).commitBlocks (by decide)) (.refl _)
    refine .intro (exec_appliedReport_fenced low alive up fenced returned first) ⟨?_, ?_⟩
    · rw [kept.gen_eq]
      exact kvGet_kvPut_same ..
    · rw [kept.gen_eq]
      exact kvGet_kvDel_same ..
  · intro s cuts applies late
    obtain ⟨st, status⟩ := ((s.toApply.filter (fun i => !bitOn s.gen.applied i)).foldl (fun (t : State) i => t.fence i cuts) s).endApply_spec
    refine .intro (exec_appliedTimeout applies late) ⟨st, status, fun i waits silent other => ?_⟩
    rw [((Within.refl _).endApply (by decide)).get_eq]
    exact (State.fences_bits cuts _ (fun k among => List.mem_of_mem_filter (List.mem_of_mem_filter among)) s).2 i (List.mem_filter.mpr ⟨waits, by rw [silent]; rfl⟩) other
  · intro s
    refine .intro rfl fun i island m told due => ?_
    have low : ∀ k ∈ genIslands, k < 16 := by decide
    obtain ⟨free, gone, event⟩ := liftFences_lifted (low i island) s.ax.marks s.gen.late s (.inr ⟨m, kvGet_mem told, due⟩)
    exact ⟨free, gone, event⟩

end Sys2Proof.Machine
end

section
/-! PROOFS.
Proving runs (spec/17, R414 to R418).
-/
namespace Sys2Proof.Machine
open Sys2Proof

section
variable {s : State}

/-! ## Units out of service (R413, R420) -/

theorem unitBit_of {kind idx : Nat} (unit : idx < unitCount kind) (notLane : kind ≠ 3) : ∃ b, unitBit kind idx = some b ∧ b < 36 := by
  have known : kind < 7 := by
    refine Nat.lt_of_not_le fun high => ?_
    obtain ⟨k, rfl⟩ := Nat.exists_eq_add_of_le' high
    exact Nat.not_lt_zero _ unit
  have all : ∀ k < 7, k ≠ 3 → ∀ i < unitCount k, ∃ b ∈ List.range 36, unitBit k i = some b := by decide
  obtain ⟨b, low, is⟩ := all kind known notLane idx unit
  exact ⟨b, is, List.mem_range.mp low⟩

/-- A unit's bit of SHNT.UNITS and PG_STAT.SHUNTED. -/
theorem State.setShunted_unit {kind idx b : Nat} (is : unitBit kind idx = some b) (on : Bool) : s.setShunted kind idx on =
    ((State.wr { s with prove := { s.prove with units := setBit s.prove.units b false } } R.SHNT_UNITS (BitVec.ofNat 36 (setBit (s.rd R.SHNT_UNITS).toNat b on))).setFlag (R.PG_STAT_SHUNTED (unitPage kind idx)) on) := by
  unfold State.setShunted
  rw [is]
  rfl

theorem State.setShunted_isShunted {kind idx : Nat} (s : State) (unit : idx < unitCount kind) (on : Bool) : (s.setShunted kind idx on).isShunted kind idx = on := by
  by_cases lane : kind = 3
  · subst lane
    have keeps : ∀ i < 24, Ok.setLane (Cap.away R.SHNT_LANES_LANE) i := by decide
    show bitOn ((s.setShunted 3 idx on).get R.SHNT_LANES_LANE) idx = on
    have is : (s.setShunted 3 idx on).get R.SHNT_LANES_LANE = setBit (s.get R.SHNT_LANES_LANE) idx on :=
      ((Within.refl _).setLane (keeps idx unit)).get_eq.trans (State.get_set_fits _ R.SHNT_LANES_LANE (by decide) (setBit_fits on (s.get_lt R.SHNT_LANES_LANE) unit))
    rw [is, bitOn_setBit_same]
  · obtain ⟨b, is, low⟩ := unitBit_of unit lane
    have keeps : ∀ p, Ok.setFlag (Cap.outside [R.SHNT_UNITS]) (R.PG_STAT_SHUNTED p) := by
      intro p
      refine decide_eq_true fun among => ?_
      have same : p * 512 + 3 = 115209 := List.mem_singleton.mp among
      omega
    have isRd : (s.setShunted kind idx on).rd R.SHNT_UNITS = BitVec.ofNat 36 (setBit (s.rd R.SHNT_UNITS).toNat b on) := by
      rw [State.setShunted_unit is, ((Within.refl _).setFlag (keeps _)).rd_outside List.mem_cons_self]
      exact State.rd_wr_same ..
    unfold State.isShunted
    rw [is, isRd]
    show bitOn _ b = on
    rw [BitVec.toNat_ofNat, Nat.mod_eq_of_lt (setBit_fits on (s.rd R.SHNT_UNITS).isLt low), bitOn_setBit_same]

/-- Two bits of a byte replaced. -/
theorem two_bits_replaced {v st k : Nat} (small : v < 256) (fits : st < 4) (low : k < 4) : v - v / 4 ^ k % 4 * 4 ^ k + st * 4 ^ k < 256 ∧ (v - v / 4 ^ k % 4 * 4 ^ k + st * 4 ^ k) / 4 ^ k % 4 = st := by
  match k with
  | 0 | 1 | 2 | 3 => omega

/-- A lane's state in CO.LANES, as it is set. -/
theorem State.setLane_laneSt (s : State) {lane st : Nat} (known : lane < 24) (fits : st < 4) : (s.setLane lane st).laneSt lane = st := by
  have all : ∀ c < 6, (R.CO_LANES_STATE c).lo + (R.CO_LANES_STATE c).w ≤ 36 := by decide
  obtain ⟨still, replaced⟩ := two_bits_replaced (s.get_lt (R.CO_LANES_STATE (lane / 4))) fits (Nat.mod_lt lane (by decide : 4 > 0))
  have isVal : (s.setLane lane st).get (R.CO_LANES_STATE (lane / 4)) = s.get (R.CO_LANES_STATE (lane / 4)) - s.laneSt lane * 4 ^ (lane % 4) + st * 4 ^ (lane % 4) :=
    State.get_set_fits s _ (all _ (by omega)) still
  unfold State.laneSt at isVal ⊢
  rw [isVal]
  exact replaced

/-! ## The end of a run (R418) -/

/-- A run that is over. -/
def State.proveRests (s : State) : State := { s with prove := { s.prove with running := false, left := [], testing := [] } }

/-- The end of a run shows. -/
def State.proveShown (s : State) (len : Nat) : State := ((s.showProve.set R.PROVE_STATUS_STATE 0).set R.PROVE_LAST_LEN_S (min 4095 len)).bump R.PROVE_RUNS_COUNT

/-- RUN_NOW completes. -/
def State.proveDone (s : State) : State := if s.get R.PROVE_CMD_STATUS = 1 then s.set R.PROVE_CMD_STATUS 2 else s

/-- What is said of the end. -/
def State.proveTold (s : State) (aborted : Bool) : State :=
  if aborted then ((s.bump R.PROVE_ABORTS_COUNT).raise P.PROVE E.PROVE_ABORT).proveRec E.PROVE_ABORT 0 0
  else (s.raise P.PROVE E.PROVE_DONE).proveRec E.PROVE_DONE 0 0

theorem State.proveEnd_eq (s : State) (aborted : Bool) : s.proveEnd aborted = ((s.proveRests.proveShown ((s.ax.mark - s.prove.start) / secU).toNat).proveDone).proveTold aborted := rfl

theorem Within.proveTold {C : Cap} {t : State} {aborted : Bool} (h : Within C s t) (may : Ok.bump C R.PROVE_ABORTS_COUNT ∧ Ok.raise C P.PROVE) : Within C s (t.proveTold aborted) :=
  .ite ((h.bump may.1).raise may.2).proveRec (h.raise may.2).proveRec

theorem Within.proveDone {C : Cap} {t : State} (h : Within C s t) (may : Ok.set C R.PROVE_CMD_STATUS) : Within C s t.proveDone := .ite (h.set may) h

theorem Within.proveShown {C : Cap} {t : State} {len : Nat} (h : Within C s t) (may : Ok.showProve C ∧ Ok.set C R.PROVE_STATUS_STATE ∧ Ok.set C R.PROVE_LAST_LEN_S ∧ Ok.bump C R.PROVE_RUNS_COUNT) : Within C s (t.proveShown len) :=
  (((h.showProve may.1).set may.2.1).set may.2.2.1).bump may.2.2.2

theorem State.proveEnd_prove (s : State) (aborted : Bool) : (s.proveEnd aborted).prove = { s.prove with running := false, left := [], testing := [] } := by
  have after : Within (Cap.sparing .prove) s.proveRests (s.proveEnd aborted) := by
    rw [s.proveEnd_eq]
    exact (((Within.refl _).proveShown (by decide)).proveDone (by decide)).proveTold (by decide)
  exact after.prove_eq

theorem State.proveEnd_shown (s : State) (aborted : Bool) : (s.proveEnd aborted).get R.PROVE_STATUS_STATE = 0 ∧ (s.proveEnd aborted).get R.PROVE_RUNS_COUNT = min (s.get R.PROVE_RUNS_COUNT + 1) (2 ^ 36 - 1) := by
  rw [s.proveEnd_eq]
  refine ⟨?_, ?_⟩
  · exact (((((Within.refl _).set (by decide)).bump (by decide)).proveDone (by decide)).proveTold (by decide)).get_eq.trans (State.get_set_fits _ _ (by decide) (by decide))
  · rw [(((Within.refl _).proveDone (by decide)).proveTold (by decide)).get_eq]
    refine (State.bump_get_same _ _ (by decide)).trans ?_
    rw [((((Within.refl s.proveRests).showProve (by decide)).set (by decide)).set (by decide)).get_eq]
    rfl

theorem State.proveEnd_done (s : State) : Event (s.proveEnd false) P.PROVE E.PROVE_DONE := ((Within.refl _).proveRec).event (event_raise _ _ _ (by decide))

theorem State.proveEnd_aborted (s : State) : Event (s.proveEnd true) P.PROVE E.PROVE_ABORT ∧ (s.proveEnd true).get R.PROVE_ABORTS_COUNT = min (s.get R.PROVE_ABORTS_COUNT + 1) (2 ^ 36 - 1) := by
  rw [s.proveEnd_eq]
  refine ⟨((Within.refl _).proveRec).event (event_raise _ _ _ (by decide)), ?_⟩
  refine (((Within.refl _).raise (by decide)).proveRec).get_eq.trans ((State.bump_get_same _ _ (by decide)).trans ?_)
  rw [(((Within.refl s.proveRests).proveShown (by decide)).proveDone (by decide)).get_eq]
  rfl

/-- Nothing is under test. -/
def State.untested (s : State) : State := { s with prove := { s.prove with testing := [] } }

/-- The only unit under test, and the last of its run. -/
structure LastTest (s : State) (kind u : Nat) : Prop where
  runs : s.prove.running = true
  left : s.prove.left = []
  only : s.prove.testing = [(kind, u)]

theorem LastTest.among {kind u : Nat} (h : LastTest s kind u) : (!s.prove.testing.contains (kind, u)) = false := by
  rw [h.only, List.contains_eq_mem, decide_eq_true List.mem_cons_self]
  rfl

/-- The last test of a run ends it. -/
theorem LastTest.testOver {kind u : Nat} (h : LastTest s kind u) : s.testOver kind u = s.untested.proveEnd false := by
  have none' : s.prove.testing.filter (fun t => t ≠ (kind, u)) = [] := by
    rw [h.only]
    exact List.filter_eq_nil_iff.mpr fun x among => by simp [List.mem_singleton.mp among]
  have next : s.untested.nextUnit = none := by
    unfold State.nextUnit
    rw [show s.untested.prove.left = [] from h.left]
  have one : s.prove.left.length + 1 = 1 := by rw [h.left]; rfl
  unfold State.testOver
  rw [none']
  show s.untested.proveStep (s.prove.left.length + 1) = _
  rw [one]
  unfold State.proveStep
  rw [next]
  exact (if_neg (by show ¬ (!s.prove.running) = true; rw [h.runs]; exact Bool.false_ne_true)).trans (if_pos ⟨h.left, rfl⟩)

theorem LastTest.ends {kind u : Nat} (h : LastTest s kind u) : (s.testOver kind u).prove.running = false ∧ (s.testOver kind u).prove.testing = [] ∧ (s.testOver kind u).get R.PROVE_STATUS_STATE = 0 ∧
    Event (s.testOver kind u) P.PROVE E.PROVE_DONE ∧ (s.testOver kind u).get R.PROVE_RUNS_COUNT = min (s.get R.PROVE_RUNS_COUNT + 1) (2 ^ 36 - 1) := by
  obtain ⟨state, count⟩ := s.untested.proveEnd_shown false
  have is := s.untested.proveEnd_prove false
  rw [h.testOver]
  exact ⟨congrArg ProvePart.running is, congrArg ProvePart.testing is, state, s.untested.proveEnd_done, count⟩

theorem LastTest.within {C : Cap} {t : State} {kind u : Nat} (h : LastTest t kind u) (before : Within C s t) (part : C (.part .prove) = true) (may : Ok.proveEnd C) : Within C s (t.testOver kind u) := by
  rw [h.testOver]
  exact (before.updProve part).proveEnd may

/-! ## A unit that fails (R417) -/

/-- The unit is left out of service by the run. -/
def State.failLeft (s : State) (kind unit : Nat) : State :=
  match unitBit (shuntKind kind) unit with
  | some b => { s with prove := { s.prove with units := setBit s.prove.units b true } }
  | none => if kind = 3 then { s with prove := { s.prove with lanes := setBit s.prove.lanes unit true } } else s

/-- The line of a failing unit. -/
def State.failLined (s : State) (kind unit : Nat) : State :=
  let l := proveLine kind unit
  let s := if s.present l then s else { s with prove := { s.prove with failed := setBit s.prove.failed l true } }
  if kind = 5 then s.lineOn l 1 else s.pulse l

/-- A failing unit before the run goes on. -/
def State.failShown (s : State) (kind unit : Nat) : State :=
  ((((s.failLeft kind unit).markUnit R.PROVE_FAIL_UNITS_UNITS R.PROVE_FAIL_LANES_LANE kind unit).failLined kind unit).bump R.PROVE_FAILS_COUNT).raise P.PROVE E.PROVE_FAIL |>.proveRec E.PROVE_FAIL kind unit

theorem State.unitFail_eq (s : State) (kind unit : Nat) : s.unitFail kind unit = (s.failShown kind unit).testOver kind unit := rfl

theorem Within.failLeft {C : Cap} {t : State} {kind unit : Nat} (h : Within C s t) (may : C (.part .prove) = true) : Within C s (t.failLeft kind unit) := by
  unfold State.failLeft
  split
  · exact h.updProve may
  · exact .ite (h.updProve may) h

theorem Within.failLined {C : Cap} {t : State} {kind unit : Nat} (h : Within C s t) (may : C (.part .prove) = true ∧ Ok.lineOn C) : Within C s (t.failLined kind unit) := by
  have h1 : Within C s (if t.present (proveLine kind unit) then t else { t with prove := { t.prove with failed := setBit t.prove.failed (proveLine kind unit) true } }) := .ite h (h.updProve may.1)
  exact .ite (h1.lineOn may.2) (h1.pulse may.2)

theorem Within.failShown {C : Cap} {t : State} {kind unit : Nat} (h : Within C s t)
    (may : C (.part .prove) = true ∧ Ok.markUnit C R.PROVE_FAIL_UNITS_UNITS R.PROVE_FAIL_LANES_LANE ∧ Ok.lineOn C ∧ Ok.bump C R.PROVE_FAILS_COUNT ∧ Ok.raise C P.PROVE) : Within C s (t.failShown kind unit) :=
  (((((h.failLeft may.1).markUnit may.2.1).failLined ⟨may.1, may.2.2.1⟩).bump may.2.2.2.1).raise may.2.2.2.2).proveRec

/-- A run goes on as it did. -/
def SameRun (s t : State) : Prop := t.prove.running = s.prove.running ∧ t.prove.left = s.prove.left ∧ t.prove.testing = s.prove.testing

theorem SameRun.trans {s t u : State} (h : SameRun s t) (k : SameRun t u) : SameRun s u := ⟨k.1.trans h.1, k.2.1.trans h.2.1, k.2.2.trans h.2.2⟩

theorem Within.sameRun {t : State} (h : Within (Cap.sparing .prove) s t) : SameRun s t := ⟨congrArg ProvePart.running h.prove_eq, congrArg ProvePart.left h.prove_eq, congrArg ProvePart.testing h.prove_eq⟩

theorem LastTest.same {t : State} {kind u : Nat} (h : LastTest s kind u) (same : SameRun s t) : LastTest t kind u :=
  ⟨same.1.trans h.runs, same.2.1.trans h.left, same.2.2.trans h.only⟩

theorem State.failLeft_run (s : State) (kind unit : Nat) : SameRun s (s.failLeft kind unit) := by
  unfold State.failLeft
  split
  · exact ⟨rfl, rfl, rfl⟩
  · split <;> exact ⟨rfl, rfl, rfl⟩

theorem State.failLined_run (s : State) (kind unit : Nat) : SameRun s (s.failLined kind unit) := by
  have noted : SameRun s (if s.present (proveLine kind unit) then s else { s with prove := { s.prove with failed := setBit s.prove.failed (proveLine kind unit) true } }) := by
    split <;> exact ⟨rfl, rfl, rfl⟩
  exact noted.trans (Within.ite ((Within.refl _).lineOn (by decide)) ((Within.refl _).pulse (by decide))).sameRun

theorem State.failShown_run (s : State) (kind unit : Nat) : SameRun s (s.failShown kind unit) := by
  have marked : SameRun (s.failLeft kind unit) ((s.failLeft kind unit).markUnit R.PROVE_FAIL_UNITS_UNITS R.PROVE_FAIL_LANES_LANE kind unit) := ((Within.refl _).markUnit (by decide)).sameRun
  refine (s.failLeft_run kind unit).trans (marked.trans ((State.failLined_run _ kind unit).trans ?_))
  exact (((Within.refl _).bump (by decide)).raise (by decide)).proveRec.sameRun

/-- What a failing unit shows. -/
theorem State.failShown_spec (s : State) (kind unit : Nat) : Event (s.failShown kind unit) P.PROVE E.PROVE_FAIL ∧
    (s.failShown kind unit).get R.PROVE_FAILS_COUNT = min (s.get R.PROVE_FAILS_COUNT + 1) (2 ^ 36 - 1) ∧ (kind ≠ 5 → (proveLine kind unit, 0) ∈ (s.failShown kind unit).flt.causes) := by
  refine ⟨((Within.refl _).proveRec).event (event_raise _ _ _ (by decide)), ?_, fun notCore => ?_⟩
  · refine (((Within.refl _).raise (by decide)).proveRec).get_eq.trans ((State.bump_get_same _ _ (by decide)).trans ?_)
    rw [((((Within.refl s).failLeft rfl).markUnit (by decide)).failLined (by decide)).get_eq]
  · unfold State.failShown
    rw [((((Within.refl _).bump (by decide)).raise (by decide)).proveRec).flt_eq]
    unfold State.failLined
    rw [if_neg notCore]
    exact State.lineOn_causes ..

theorem LastTest.fails {kind u : Nat} (h : LastTest s kind u) : (s.unitFail kind u).prove.testing = [] ∧ Event (s.unitFail kind u) P.PROVE E.PROVE_FAIL ∧
    (s.unitFail kind u).get R.PROVE_FAILS_COUNT = min (s.get R.PROVE_FAILS_COUNT + 1) (2 ^ 36 - 1) ∧ (kind ≠ 5 → (proveLine kind u, 0) ∈ (s.unitFail kind u).flt.causes) := by
  have shown := h.same (s.failShown_run kind u)
  have ended {C : Cap} (part : C (.part .prove) = true) (may : Ok.proveEnd C) : Within C (s.failShown kind u) (s.unitFail kind u) := shown.within (.refl _) part may
  obtain ⟨event, count, line⟩ := s.failShown_spec kind u
  refine ⟨shown.ends.2.1, (ended rfl (by decide)).event event, (ended rfl (by decide)).get_eq.trans count, fun notCore => ?_⟩
  rw [(ended rfl (by decide)).flt_eq]
  exact line notCore

/-- The registers of a failing unit: its own bit, and what they keep. -/
theorem LastTest.failWithin {C : Cap} {t : State} {kind u : Nat} (h : LastTest t kind u) (before : Within C s t)
    (may : C (.part .prove) = true ∧ Ok.markUnit C R.PROVE_FAIL_UNITS_UNITS R.PROVE_FAIL_LANES_LANE ∧ Ok.lineOn C ∧ Ok.bump C R.PROVE_FAILS_COUNT ∧ Ok.raise C P.PROVE) (finish : Ok.proveEnd C) :
    Within C s (t.unitFail kind u) := (h.same (t.failShown_run kind u)).within (before.failShown may) may.1 finish

/-- After the registers of a failing unit are marked they stay. -/
theorem LastTest.failMarked {f : Fld} {kind u : Nat} (h : LastTest s kind u) (may : Ok.lineOn (Cap.away f) ∧ Ok.bump (Cap.away f) R.PROVE_FAILS_COUNT ∧ Ok.raise (Cap.away f) P.PROVE ∧ Ok.proveEnd (Cap.away f)) :
    (s.unitFail kind u).get f = ((s.failLeft kind u).markUnit R.PROVE_FAIL_UNITS_UNITS R.PROVE_FAIL_LANES_LANE kind u).get f :=
  ((h.same (s.failShown_run kind u)).within (((((Within.refl _).failLined ⟨rfl, may.1⟩).bump may.2.1).raise may.2.2.1).proveRec) rfl may.2.2.2).get_eq

theorem State.failLeft_regs (s : State) (kind unit : Nat) : (s.failLeft kind unit).regs = s.regs := by
  unfold State.failLeft
  split
  · rfl
  · split <;> rfl

/-- A failing checker is bit 22 of PROVE.FAIL_UNITS. -/
theorem LastTest.failUnits {u : Nat} (h : LastTest s 1 u) : bitOn ((s.unitFail 1 u).get R.PROVE_FAIL_UNITS_UNITS) 22 = true := by
  rw [h.failMarked (by decide)]
  show bitOn (((s.failLeft 1 u).set R.PROVE_FAIL_UNITS_UNITS (setBit ((s.failLeft 1 u).get R.PROVE_FAIL_UNITS_UNITS) 22 true)).get R.PROVE_FAIL_UNITS_UNITS) 22 = true
  rw [State.get_set_fits (s.failLeft 1 u) R.PROVE_FAIL_UNITS_UNITS (by decide) (setBit_fits true (State.get_lt _ R.PROVE_FAIL_UNITS_UNITS) (by decide)), bitOn_setBit_same]

/-- A failing lane is its own bit of PROVE.FAIL_LANES. -/
theorem LastTest.failLanes {u : Nat} (h : LastTest s 3 u) (known : u < 24) : bitOn ((s.unitFail 3 u).get R.PROVE_FAIL_LANES_LANE) u = true := by
  rw [h.failMarked (by decide)]
  show bitOn (((s.failLeft 3 u).set R.PROVE_FAIL_LANES_LANE (setBit ((s.failLeft 3 u).get R.PROVE_FAIL_LANES_LANE) u true)).get R.PROVE_FAIL_LANES_LANE) u = true
  rw [State.get_set_fits (s.failLeft 3 u) R.PROVE_FAIL_LANES_LANE (by decide) (setBit_fits true (State.get_lt _ R.PROVE_FAIL_LANES_LANE) known), bitOn_setBit_same]

/-! ## A run that starts (R414) -/

/-- The first checker comes under test. -/
def State.firstTest (s : State) : State :=
  { s with prove := { s.prove with left := s.prove.left.filter (fun t => t ≠ (1, 1)), testing := [(1, 1)] } }

/-- A run whose first unit is a checker begins with its test. -/
theorem State.proveStep_checker (s : State) {l : List (Nat × Nat)} (runs : s.prove.running = true) (left : s.prove.left = (1, 1) :: l) (rests : s.prove.testing = []) (n : Nat) :
    s.proveStep (n + 2) = s.firstTest.showProve := by
  have first : s.nextUnit = some (1, 1) := by
    unfold State.nextUnit
    rw [left]
    exact (if_neg (by decide)).trans ((if_neg (not_not.mpr rests)).trans (if_neg fun core => absurd core.1 (by decide)))
  have waits : s.firstTest.nextUnit = none := by
    unfold State.nextUnit
    split
    · rfl
    · split
      · exact if_pos rfl
      · rfl
  have begun : State.beginTest { s with prove := { s.prove with left := s.prove.left.filter (fun t => t ≠ (1, 1)) } } 1 1 = s.firstTest := by
    show ({ s with prove := { s.prove with left := _, testing := s.prove.testing ++ [(1, 1)] } } : State) = _
    rw [rests]
    rfl
  have runs' (t : State) (on : t.prove.running = true) : ¬ (!t.prove.running) = true := by
    rw [on]
    exact Bool.false_ne_true
  unfold State.proveStep
  rw [if_neg (runs' s runs), first]
  refine (if_neg (by exact Bool.false_ne_true)).trans ?_
  rw [begun]
  unfold State.proveStep
  rw [if_neg (runs' s.firstTest runs), waits]
  exact if_neg fun none' => List.cons_ne_nil _ _ none'.2

/-- A run has started: what it has to do, and what it shows. -/
def State.proveBegun (s : State) (l : List (Nat × Nat)) : State := { s with prove := { s.prove with running := true, asked := false, start := s.ax.mark, left := l, testing := [], failed := 0 } }

/-- A run that starts shows. -/
def State.proveOpens (s : State) : State :=
  let t := ((s.set R.PROVE_FAIL_UNITS_UNITS 0).set R.PROVE_FAIL_LANES_LANE 0).set R.PROVE_SKIP_UNITS_UNITS 0
  let t := ((t.set R.PROVE_SKIP_LANES_LANE 0).wrT R.PROVE_LAST_START (toT108 t.ax.mark)).set R.PROVE_STATUS_STATE 1
  (t.raise P.PROVE E.PROVE_START).proveRec E.PROVE_START 0 0

/-- The time for a run, that RUN_NOW or PROVE.AT asks for. -/
structure ProveTime (s : State) : Prop where
  mark : s.ax.secMark = true
  up : s.up islMGT = true
  rests : s.prove.running = false
  asked : s.prove.asked = true ∨ s.proveDue = true

theorem ProveTime.goes (h : ProveTime s) : ¬((!s.ax.secMark) = true ∨ (!s.up islMGT) = true ∨ s.prove.running = true ∨ (!(s.prove.asked || s.proveDue)) = true) := by
  have asked : (s.prove.asked || s.proveDue) = true := Bool.or_eq_true_iff.mpr h.asked
  rw [h.mark, h.up, h.rests, asked]
  decide

theorem ProveTime.exec_start (h : ProveTime s) (may : s.mayProve = true) : exec .proveStart s = .next ((s.proveBegun s.proveList).proveOpens.proveStep (s.proveList.length + 1)) := by
  show execProveStart s = _
  unfold execProveStart
  exact congrArg _ ((if_neg h.goes).trans (if_neg (by
    show ¬ (!s.mayProve) = true
    rw [may]
    exact Bool.false_ne_true)))

/-- A run that may not start is counted. -/
def State.proveDenied (s : State) : State :=
  let t : State := { s with prove := { s.prove with asked := false } }
  (((if s.prove.asked then t.set R.PROVE_CMD_STATUS 3 else t).bump R.PROVE_ABORTS_COUNT).raise P.PROVE E.PROVE_ABORT).proveRec E.PROVE_ABORT 0 0

theorem ProveTime.exec_denied (h : ProveTime s) (may : s.mayProve = false) : exec .proveStart s = .next s.proveDenied := by
  show execProveStart s = _
  unfold execProveStart
  exact congrArg _ ((if_neg h.goes).trans (if_pos (by
    show (!s.mayProve) = true
    rw [may]
    rfl)))

theorem State.proveDenied_spec (s : State) (rests : s.prove.running = false) : s.proveDenied.prove.running = false ∧ s.proveDenied.prove.asked = false ∧ Event s.proveDenied P.PROVE E.PROVE_ABORT ∧
    s.proveDenied.get R.PROVE_ABORTS_COUNT = min (s.get R.PROVE_ABORTS_COUNT + 1) (2 ^ 36 - 1) ∧ (s.prove.asked = true → s.proveDenied.get R.PROVE_CMD_STATUS = 3) := by
  unfold State.proveDenied
  extract_lets _ t
  have status {C : Cap} (may : Ok.set C R.PROVE_CMD_STATUS) : Within C t (if s.prove.asked = true then t.set R.PROVE_CMD_STATUS 3 else t) := .ite ((Within.refl _).set may) (.refl _)
  have after {C : Cap} {u v : State} (h : Within C u v) (may : Ok.bump C R.PROVE_ABORTS_COUNT ∧ Ok.raise C P.PROVE) : Within C u (((v.bump R.PROVE_ABORTS_COUNT).raise P.PROVE E.PROVE_ABORT).proveRec E.PROVE_ABORT 0 0) :=
    ((h.bump may.1).raise may.2).proveRec
  refine ⟨?_, ?_, ((Within.refl _).proveRec).event (event_raise _ _ _ (by decide)), ?_, fun asked => ?_⟩
  · rw [(after (status (by decide)) (by decide)).prove_eq]
    exact rests
  · rw [(after (status (by decide)) (by decide)).prove_eq]
  · refine (((Within.refl _).raise (by decide)).proveRec).get_eq.trans ((State.bump_get_same _ _ (by decide)).trans ?_)
    rw [(status (by decide)).get_eq]
    rfl
  · rw [(after (.refl _) (by decide)).get_eq, if_pos asked]
    exact State.get_set_fits _ _ (by decide) (by decide)

/-- A run whose first kind is the checkers' begins with the first checker. -/
theorem State.proveList_checker (s : State) (check : s.get R.PROVE_CTRL_CHECK = 1) : ∃ l, s.proveList = (1, 1) :: l ∧ l ≠ [] := by
  unfold State.proveList
  extract_lets on
  have checkers : on R.PROVE_CTRL_CHECK 1 5 1 = [(1, 1), (1, 2), (1, 3), (1, 4), (1, 5)] := if_pos (State.flag_of_get check)
  rw [checkers]
  exact ⟨_, rfl, List.cons_ne_nil _ _⟩

theorem State.proveStart_spec (s : State) {l : List (Nat × Nat)} (n : Nat) : let t := (s.proveBegun ((1, 1) :: l)).proveOpens.proveStep (n + 2)
    t.prove.running = true ∧ t.prove.testing = [(1, 1)] ∧ t.prove.asked = false ∧ t.prove.start = s.ax.mark ∧ t.get R.PROVE_STATUS_STATE = 1 ∧ t.get R.PROVE_STATUS_KIND = 1 ∧
      t.get R.PROVE_STATUS_UNIT = 1 ∧ t.get R.PROVE_FAIL_UNITS_UNITS = 0 ∧ Event t P.PROVE E.PROVE_START := by
  intro t
  have opened {C : Cap} (may : Ok.set C R.PROVE_FAIL_UNITS_UNITS ∧ Ok.set C R.PROVE_FAIL_LANES_LANE ∧ Ok.set C R.PROVE_SKIP_UNITS_UNITS ∧ Ok.set C R.PROVE_SKIP_LANES_LANE ∧
      Ok.wrT C R.PROVE_LAST_START ∧ Ok.set C R.PROVE_STATUS_STATE ∧ Ok.raise C P.PROVE) : Within C (s.proveBegun ((1, 1) :: l)) (s.proveBegun ((1, 1) :: l)).proveOpens := by
    obtain ⟨units, lanes, skips, skipped, start, state, event⟩ := may
    exact ((((((((Within.refl _).set units).set lanes).set skips).set skipped).wrT start).set state).raise event).proveRec
  have part : (s.proveBegun ((1, 1) :: l)).proveOpens.prove = (s.proveBegun ((1, 1) :: l)).prove := (opened (by decide)).prove_eq
  have isT : t = (s.proveBegun ((1, 1) :: l)).proveOpens.firstTest.showProve :=
    State.proveStep_checker _ (congrArg ProvePart.running part) (congrArg ProvePart.left part) (congrArg ProvePart.testing part) n
  rw [isT]
  generalize isU : (s.proveBegun ((1, 1) :: l)).proveOpens = u at part
  have shown : u.firstTest.showProve = (u.firstTest.set R.PROVE_STATUS_KIND 1).set R.PROVE_STATUS_UNIT 1 := rfl
  have after {C : Cap} (may : C (.part .prove) = true ∧ Ok.showProve C) : Within C u u.firstTest.showProve := ((Within.refl u).updProve may.1).showProve may.2
  have prove : u.firstTest.showProve.prove = { u.prove with left := u.prove.left.filter (fun t => t ≠ (1, 1)), testing := [(1, 1)] } :=
    ((Within.refl u.firstTest).showProve (by decide : Ok.showProve (Cap.sparing .prove))).prove_eq
  rw [prove, part]
  refine ⟨rfl, rfl, rfl, rfl, ?_, ?_, ?_, ?_, ?_⟩
  · rw [(after (by decide)).get_eq, ← isU]
    exact (((Within.refl _).raise (by decide)).proveRec).get_eq.trans (State.get_set_fits _ _ (by decide) (by decide))
  · rw [shown]
    exact ((Within.refl _).set (by decide)).get_eq.trans (State.get_set_fits _ _ (by decide) (by decide))
  · rw [shown]
    exact State.get_set_fits _ _ (by decide) (by decide)
  · rw [(after (by decide)).get_eq, ← isU]
    exact ((((((((Within.refl _).set (by decide)).set (by decide)).set (by decide)).wrT (by decide)).set (by decide)).raise (by decide)).proveRec).get_eq.trans (State.get_set_fits _ _ (by decide) (by decide))
  · refine (after (by decide)).event ?_
    rw [← isU]
    exact ((Within.refl _).proveRec).event (event_raise _ _ _ (by decide))

/-! ## Tests (R415, R417) -/

theorem LastTest.goes {kind u : Nat} (h : LastTest s kind u) : ¬ (!s.prove.testing.contains (kind, u)) = true := by
  rw [h.among]
  exact Bool.false_ne_true

variable {u : Nat} {pass : Bool} {cals : List CalResult} {temp : Int}

theorem exec_proveUnitDone_checker (last : LastTest s 1 u) : exec (.proveUnitDone 1 u pass cals temp) s = .next (if pass then s.testOver 1 u else s.unitFail 1 u) :=
  congrArg Host.Outcome.next (if_neg last.goes)

theorem exec_proveUnitDone_tic (last : LastTest s 2 u) : exec (.proveUnitDone 2 u pass cals temp) s = .next (s.ticTest u pass cals temp) :=
  congrArg Host.Outcome.next (if_neg last.goes)

theorem exec_proveUnitDone_lane (last : LastTest s 3 u) (still : s.migOf u = none) :
    exec (.proveUnitDone 3 u pass cals temp) s = .next (if pass then (s.setShunted 3 u false).testOver 3 u else s.unitFail 3 u) :=
  congrArg Host.Outcome.next ((if_neg last.goes).trans (if_neg (by rw [still]; exact Bool.false_ne_true)))

/-- A TIC's calibration is taken, and its state shown. -/
def State.ticTested (s : State) (u : Nat) (cals : List CalResult) (temp : Int) : State :=
  let none' : CalResult := { n := 0, np := [], ck := [], topTap := true }
  let s := s.ticCalTake u (cals.getD 0 none') (cals.getD 1 none') temp
  (s.set (R.TIC_STATUS_STATE u) (if (s.ticOf u).start.uncal || (s.ticOf u).stop.uncal then 5 else 0)).putTic u { s.ticOf u with calKind := 0 }

theorem State.ticTest_fails (s : State) (u : Nat) (cals : List CalResult) (temp : Int) : s.ticTest u false cals temp = (s.ticTested u cals temp).unitFail 2 u := by
  unfold State.ticTest
  extract_lets none' ok s1 c s2
  exact if_neg fun both => Bool.false_ne_true both.1

theorem Within.ticTested {C : Cap} {u : Nat} {cals : List CalResult} {temp : Int} (may : Ok.ticCalTake C u ∧ Ok.set C (R.TIC_STATUS_STATE u) ∧ Ok.putTic C) : Within C s (s.ticTested u cals temp) :=
  (((Within.refl s).ticCalTake may.1).set may.2.1).putTic may.2.2

/-- A lane that passes is back in service, and under test still. -/
theorem State.setShunted_run (s : State) (lane : Nat) (on : Bool) : SameRun s (s.setShunted 3 lane on) := by
  have shown : Within (Cap.sparing .prove) { s with prove := { s.prove with lanes := setBit s.prove.lanes lane false } } (s.setShunted 3 lane on) := ((Within.refl _).set (by decide)).setLane rfl
  exact SameRun.trans ⟨rfl, rfl, rfl⟩ shown.sameRun

theorem State.setShunted_laneSt (s : State) {lane : Nat} (known : lane < 24) (on : Bool) : (s.setShunted 3 lane on).laneSt lane = if on then 1 else 0 :=
  State.setLane_laneSt _ known (by cases on <;> decide)

theorem State.laneSt_congr {s t : State} {lane : Nat} (same : t.get (R.CO_LANES_STATE (lane / 4)) = s.get (R.CO_LANES_STATE (lane / 4))) : t.laneSt lane = s.laneSt lane := by
  unfold State.laneSt
  rw [same]

/-! ## A run that is aborted (R418) -/

/-- The slots that the return of a unit writes lie at other places of their pages than PROVE.ABORTS does of its own, whatever the unit's number. -/
theorem Ok.returnUnit_aborts (u : Nat) : Ok.returnUnit (Cap.away R.PROVE_ABORTS_COUNT) u := by
  have other {p a : Nat} (low : a < 512) (ne : a ≠ 23) : p * 512 + a ≠ R.PROVE_ABORTS := by
    show p * 512 + a ≠ 115735
    omega
  have fld {p a lo w : Nat} (low : a < 512) (ne : a ≠ 23) : Ok.set (Cap.away R.PROVE_ABORTS_COUNT) ⟨p * 512 + a, lo, w⟩ := decide_eq_true (.inl (other low ne))
  have evt (p : Nat) : Ok.raise (Cap.away R.PROVE_ABORTS_COUNT) p := decide_eq_true (other (by decide) (by decide))
  have lane : Ok.setLane (Cap.away R.PROVE_ABORTS_COUNT) u := fld (by decide) (by decide)
  have pllShunted : Ok.setShunted (Cap.away R.PROVE_ABORTS_COUNT) 5 u := ⟨by decide, by decide, fld (by decide) (by decide), by decide, lane⟩
  have coreShunted : Ok.setShunted (Cap.away R.PROVE_ABORTS_COUNT) 2 u := ⟨by decide, by decide, fld (by decide) (by decide), by decide, lane⟩
  have started : Ok.pllStart (Cap.away R.PROVE_ABORTS_COUNT) u := ⟨⟨fld (by decide) (by decide), evt _⟩, by decide, fld (by decide) (by decide), fld (by decide) (by decide), fld (by decide) (by decide)⟩
  exact decide_eq_true ⟨by decide, by decide, pllShunted, started, by decide, decide_eq_true ⟨coreShunted, by decide, by decide⟩, by decide, by decide⟩

theorem State.setShunted_asked (s : State) (kind u : Nat) (on : Bool) : (s.setShunted kind u on).prove.asked = s.prove.asked := by
  unfold State.setShunted
  split
  · extract_lets _ t
    rw [(((Within.refl t).wr rfl).setFlag rfl).prove_eq]
  · extract_lets _ t
    rw [(((Within.refl t).set rfl).setLane rfl).prove_eq]

/-- A unit that returns asks for no run. -/
theorem State.returnUnit_asked (s : State) (kind u : Nat) : (s.returnUnit kind u).prove.asked = s.prove.asked := by
  unfold State.returnUnit
  split
  · rfl
  · split
    · split <;> rfl
    · rfl
  · rw [((Within.refl _).pllStart ⟨⟨rfl, rfl⟩, rfl, rfl, rfl, rfl⟩).prove_eq, State.setShunted_asked]
  · split
    · rfl
    · split
      · unfold State.returnCore
        rw [(((Within.refl _).healLinks (by decide)).putCore rfl).prove_eq, State.setShunted_asked]
      · rfl
  · rw [((Within.refl _).engineReturn (by decide)).prove_eq, State.setShunted_asked]
  · rfl

/-- The units under test returned. -/
def State.testedBack (s : State) : State := s.prove.testing.foldl (fun (t : State) (u : Nat × Nat) => t.returnUnit u.1 u.2) s

theorem State.proveAbort_runs (runs : s.prove.running = true) : s.proveAbort = s.testedBack.proveEnd true := if_neg (by rw [runs]; exact Bool.false_ne_true)

theorem State.testedBack_asked (s : State) : s.testedBack.prove.asked = s.prove.asked :=
  foldl_keep (fun (t : State) (u : Nat × Nat) => t.returnUnit u.1 u.2) (fun t => t.prove.asked) (fun t u => t.returnUnit_asked u.1 u.2) _ s

/-- A run aborted is over, with its event. -/
theorem State.proveAbort_spec (runs : s.prove.running = true) : s.proveAbort.prove.running = false ∧ s.proveAbort.prove.asked = s.prove.asked ∧ s.proveAbort.prove.testing = [] ∧
    s.proveAbort.get R.PROVE_STATUS_STATE = 0 ∧ Event s.proveAbort P.PROVE E.PROVE_ABORT ∧ s.proveAbort.get R.PROVE_ABORTS_COUNT = min (s.get R.PROVE_ABORTS_COUNT + 1) (2 ^ 36 - 1) := by
  have back : Within (Cap.away R.PROVE_ABORTS_COUNT) s s.testedBack := .foldl (.refl s) fun _ u _ h => h.returnUnit (Ok.returnUnit_aborts _)
  obtain ⟨event, count⟩ := s.testedBack.proveEnd_aborted
  have is := s.testedBack.proveEnd_prove true
  rw [State.proveAbort_runs runs]
  exact ⟨congrArg ProvePart.running is, (congrArg ProvePart.asked is).trans s.testedBack_asked, congrArg ProvePart.testing is, (s.testedBack.proveEnd_shown true).1, event,
    count.trans (by rw [back.get_eq])⟩

theorem exec_proveStop {m : Master} (opened : Open s m R.PROVE_CMD) : exec (.proveStop m) s = .next ((State.proveAbort { s with prove := { s.prove with asked := false } }).set R.PROVE_CMD_STATUS 2) := by
  show execProveStop m s = _
  unfold execProveStop
  rw [hostWrite_open opened]

theorem exec_proveWindowEnd (late : s.prove.start + (s.getOr R.PROVE_WINDOW_S 300 3600 1800 : Nat) * secU ≤ s.ax.mark) : exec .proveWindowEnd s = .next s.proveAbort := by
  show execProveWindowEnd s = _
  unfold execProveWindowEnd
  exact congrArg _ (if_neg (Int.not_lt.mpr late))

theorem exec_runNow {m : Master} (acc : Accepts s m R.PROVE_CMD_STATUS) : exec (.runNow m) s = .next (State.set { s with prove := { s.prove with asked := true } } R.PROVE_CMD_STATUS 1) := by
  show execRunNow m s = _
  unfold execRunNow
  rw [hostCmd_accepts acc]

end

/-- Settles O41. What becomes of a run's last unit is said once (`LastTest.ends`, `LastTest.fails`), and of a run that is aborted in `State.proveAbort_spec`. -/
theorem provingRunsTestTheirUnits : Obligations.ProvingRunsTestTheirUnits := by
  unfold Obligations.ProvingRunsTestTheirUnits
  refine ⟨?_, ?_, ?_, ?_, ?_⟩
  · intro s m acc
    have wrote {C : Cap} (may : C (.part .prove) = true ∧ Ok.set C R.PROVE_CMD_STATUS) : Within C s (State.set { s with prove := { s.prove with asked := true } } R.PROVE_CMD_STATUS 1) :=
      ((Within.refl s).updProve may.1).set may.2
    have part := ((Within.refl { s with prove := { s.prove with asked := true } }).set (n := 1) (by decide : Ok.set (Cap.sparing .prove) R.PROVE_CMD_STATUS)).prove_eq
    exact .intro (exec_runNow acc) ⟨congrArg ProvePart.asked part, State.get_set_fits _ _ (by decide) (by decide), (congrArg ProvePart.running part).trans rfl, (wrote (by decide)).onlySlots⟩
  · intro s mark up rests asked
    have time : ProveTime s := ⟨mark, up, rests, asked⟩
    refine ⟨fun may check => ?_, fun denied => .intro (time.exec_denied denied) (s.proveDenied_spec rests)⟩
    obtain ⟨l, is, more⟩ := s.proveList_checker check
    obtain ⟨x, xs, rfl⟩ := List.exists_cons_of_ne_nil more
    have isExec := time.exec_start may
    rw [is] at isExec
    exact .intro isExec (s.proveStart_spec (xs.length + 1))
  · intro s u cals temp runs left known
    refine ⟨fun only => ?_, fun only rests => ?_, fun only => ?_⟩
    · have last : LastTest s 1 u := ⟨runs, left, only⟩
      obtain ⟨ended, rests, state, event, count⟩ := last.ends
      obtain ⟨fails, failed, failCount, -⟩ := last.fails
      exact ⟨.intro (exec_proveUnitDone_checker last) ⟨ended, rests, state, event, count, (last.within (.refl _) rfl (by decide)).get_eq⟩,
        .intro (exec_proveUnitDone_checker last) ⟨fails, failed, failCount, last.failUnits⟩⟩
    · have last : LastTest s 3 u := ⟨runs, left, only⟩
      have lane : u < 24 := by omega
      have back : LastTest (s.setShunted 3 u false) 3 u := last.same (s.setShunted_run u false)
      obtain ⟨fails, -, -, line⟩ := last.fails
      have ended {C : Cap} (part : C (.part .prove) = true) (may : Ok.proveEnd C) := back.within (C := C) (.refl _) part may
      have may : ∀ c < 6, Ok.proveEnd (Cap.away (R.CO_LANES_STATE c)) := by decide
      have marks : ∀ c < 6, Ok.markUnit (Cap.away (R.CO_LANES_STATE c)) R.PROVE_FAIL_UNITS_UNITS R.PROVE_FAIL_LANES_LANE ∧ Ok.lineOn (Cap.away (R.CO_LANES_STATE c)) ∧
        Ok.bump (Cap.away (R.CO_LANES_STATE c)) R.PROVE_FAILS_COUNT ∧ Ok.raise (Cap.away (R.CO_LANES_STATE c)) P.PROVE := by decide
      refine ⟨.intro (exec_proveUnitDone_lane last rests) ⟨?_, ?_, back.ends.2.1⟩, .intro (exec_proveUnitDone_lane last rests) ⟨?_, fails, last.failLanes lane, line (by decide)⟩⟩
      · have same : ((s.setShunted 3 u false).testOver 3 u).isShunted 3 u = (s.setShunted 3 u false).isShunted 3 u := congrArg (bitOn · u) (ended rfl (by decide)).get_eq
        exact same.trans (State.setShunted_isShunted s lane false)
      · exact (State.laneSt_congr (ended rfl (may _ (by omega))).get_eq).trans (s.setShunted_laneSt lane false)
      · exact State.laneSt_congr (last.failWithin (.refl s) ⟨rfl, marks _ (by omega)⟩ (may _ (by omega))).get_eq
    · have last : LastTest s 2 u := ⟨runs, left, only⟩
      have run : ∀ k < 8, Ok.ticCalTake (Cap.sparing .prove) k ∧ Ok.set (Cap.sparing .prove) (R.TIC_STATUS_STATE k) ∧ Ok.putTic (Cap.sparing .prove) := by decide
      have units : ∀ k < 8, Ok.ticCalTake (Cap.outside [R.SHNT_UNITS]) k ∧ Ok.set (Cap.outside [R.SHNT_UNITS]) (R.TIC_STATUS_STATE k) ∧ Ok.putTic (Cap.outside [R.SHNT_UNITS]) := by decide
      have tested : LastTest (s.ticTested u cals temp) 2 u := last.same (Within.ticTested (run u known)).sameRun
      obtain ⟨fails, event, -, line⟩ := tested.fails
      refine .intro ((exec_proveUnitDone_tic last).trans (congrArg Host.Outcome.next (s.ticTest_fails u cals temp))) ⟨fails, ?_, event, line (by decide)⟩
      have same : ((s.ticTested u cals temp).unitFail 2 u).rd R.SHNT_UNITS = s.rd R.SHNT_UNITS := (tested.failWithin (Within.ticTested (units u known)) (by decide) (by decide)).rd_outside List.mem_cons_self
      exact congrArg (fun v : Word => bitOn v.toNat (9 + u)) same
  · intro s m opened
    refine .intro (exec_proveStop opened) ?_
    generalize isT : ({ s with prove := { s.prove with asked := false } } : State) = t
    have set {C : Cap} (may : Ok.set C R.PROVE_CMD_STATUS) : Within C t.proveAbort (t.proveAbort.set R.PROVE_CMD_STATUS 2) := (Within.refl _).set may
    have asked : t.prove.asked = false := by rw [← isT]
    have running : t.prove.running = s.prove.running := by rw [← isT]
    have aborts : t.get R.PROVE_ABORTS_COUNT = s.get R.PROVE_ABORTS_COUNT := by rw [← isT]; rfl
    rw [(set (by decide)).prove_eq]
    by_cases runs : s.prove.running = true
    · obtain ⟨rests, same, testing, state, event, count⟩ := State.proveAbort_spec (running.trans runs)
      exact ⟨rests, same.trans asked, State.get_set_fits _ _ (by decide) (by decide), fun _ => ⟨testing, (set (by decide)).get_eq.trans state, (set (by decide)).event event,
        (set (by decide)).get_eq.trans (count.trans (by rw [aborts]))⟩⟩
    · have idle := running.trans (Bool.eq_false_iff.mpr runs)
      rw [State.proveAbort_idle idle]
      exact ⟨idle, asked, State.get_set_fits _ _ (by decide) (by decide), fun on => absurd on runs⟩
  · intro s late runs
    obtain ⟨rests, -, testing, -, event, -⟩ := State.proveAbort_spec runs
    exact .intro (exec_proveWindowEnd late) ⟨rests, testing, event⟩

end Sys2Proof.Machine
end

section
/-! PROOFS.
Units are shunted and returned (spec/17, R413, R420).
-/
namespace Sys2Proof.Machine
open Sys2Proof

section
variable {s : State} {m : Master} {kind i : Nat}

/-! ## How a command ends (R413) -/

theorem State.shuntRefuse_spec (s : State) {st : Nat} (fits : st < 16) : (s.shuntRefuse st).get R.SHNT_CMD_STATUS = st ∧ (s.shuntRefuse st).shunt = s.shunt ∧ Event (s.shuntRefuse st) P.SHNT E.SHNT_REFUSED :=
  ⟨((Within.refl _).raise (by decide)).get_eq.trans (State.get_set_fits _ _ (by decide) fits), ((Within.refl s).shuntRefuse (by decide)).shunt_eq, event_raise _ _ _ (by decide)⟩

/-- No host command is under way. -/
def State.noShuntCmd (s : State) : State := { s with shunt := { s.shunt with cmd := none } }

theorem State.shuntDone_eq (s : State) (kind i : Nat) : s.shuntDone kind i = (((s.noShuntCmd.set R.SHNT_CMD_STATUS 2).bump R.SHNT_SHUNTS_COUNT).raise P.SHNT E.SHNT_DONE).shuntRec kind i E.SHNT_DONE := rfl

theorem State.shuntDone_spec (s : State) (kind i : Nat) : (s.shuntDone kind i).get R.SHNT_CMD_STATUS = 2 ∧ (s.shuntDone kind i).shunt = { s.shunt with cmd := none } ∧
    (s.shuntDone kind i).get R.SHNT_SHUNTS_COUNT = min (s.get R.SHNT_SHUNTS_COUNT + 1) (2 ^ 36 - 1) ∧ Event (s.shuntDone kind i) P.SHNT E.SHNT_DONE := by
  rw [s.shuntDone_eq]
  refine ⟨?_, ?_, ?_, ((Within.refl _).shuntRec).event (event_raise _ _ _ (by decide))⟩
  · exact ((((Within.refl _).bump (by decide)).raise (by decide)).shuntRec).get_eq.trans (State.get_set_fits _ _ (by decide) (by decide))
  · exact (((((Within.refl s.noShuntCmd).set (by decide)).bump (by decide)).raise (by decide)).shuntRec).shunt_eq
  · refine (((Within.refl _).raise (by decide)).shuntRec).get_eq.trans ((State.bump_get_same _ _ (by decide)).trans ?_)
    rw [((Within.refl s.noShuntCmd).set (by decide)).get_eq]
    rfl

theorem State.shuntBusy_spec (s : State) (op kind i dest : Nat) : (s.shuntBusy op kind i dest).get R.SHNT_CMD_STATUS = 1 ∧
    (s.shuntBusy op kind i dest).shunt = { s.shunt with cmd := some { op := op, kind := kind, index := i, to_ := dest } } :=
  ⟨State.get_set_fits _ _ (by decide) (by decide), ((Within.refl ({ s with shunt := { s.shunt with cmd := some { op := op, kind := kind, index := i, to_ := dest } } } : State)).set (by decide)).shunt_eq⟩

theorem State.isShunted_congr {s t : State} (units : t.rd R.SHNT_UNITS = s.rd R.SHNT_UNITS) (lanes : t.get R.SHNT_LANES_LANE = s.get R.SHNT_LANES_LANE) (kind i : Nat) : t.isShunted kind i = s.isShunted kind i := by
  unfold State.isShunted
  rw [units, lanes]

theorem Within.isShunted_eq {t : State} (h : Within (Cap.outside [R.SHNT_UNITS, R.SHNT_LANES]) s t) (kind i : Nat) : t.isShunted kind i = s.isShunted kind i :=
  State.isShunted_congr (h.rd_outside (by decide)) (h.get_outside (by decide)) kind i

/-! ## SHUNT (R413) -/

theorem State.noUnit_known (known : s.noUnit kind i = false) : i < unitCount kind := by
  have := of_decide_eq_false known
  omega

theorem unitCount_known (known : i < unitCount kind) : kind < 7 := by
  refine Nat.lt_of_not_le fun high => ?_
  obtain ⟨k, rfl⟩ := Nat.exists_eq_add_of_le' high
  exact Nat.not_lt_zero _ known

/-- A coach leaves service at the next AXMARK. -/
def State.shuntCoach (s : State) (index : Nat) : State :=
  { s.shuntBusy 1 1 index 31 with shunt := { (s.shuntBusy 1 1 index 31).shunt with ask := (s.shuntBusy 1 1 index 31).shunt.cmd } }

/-- A core leaves service at the next update of the vote. -/
def State.shuntCore (s : State) (index : Nat) : State := { s.shuntBusy 1 2 index 31 with tri := { (s.shuntBusy 1 2 index 31).tri with shuntReq := some index } }

/-- A lane leaves service by a migration, if its coach has another. -/
def State.shuntLane (s : State) (index : Nat) : State :=
  if (s.lanesIn (index / 4)).any (fun l => decide (l ≠ index)) then (s.shuntBusy 1 3 index 31).addMig index 31 true else s.shuntRefuse 4

/-- What SHUNT does with a unit in service. -/
def State.shuntUnit (s : State) (kind index : Nat) : State :=
  if kind = 1 then s.shuntCoach index else if kind = 2 then s.shuntCore index else if kind = 3 then s.shuntLane index else if kind = 4 then (s.shuntTic index).shuntDone 4 index
  else if kind = 5 then (s.shuntPll index).shuntDone 5 index else s.shuntGns.shuntDone 6 0

theorem exec_shuntCmd (acc : Accepts s m R.SHNT_CMD_STATUS) : exec (.shuntCmd m kind i) s = .next (
    if s.noUnit kind i then s.shuntRefuse 6 else if s.proves kind i then s.shuntRefuse 5 else if s.isShunted kind i then s.shuntRefuse 6 else s.shuntUnit kind i) := by
  show execShuntCmd m kind i s = _
  unfold execShuntCmd
  rw [hostCmd_accepts acc]
  refine congrArg _ (congrArg _ (congrArg _ (congrArg _ ?_)))
  unfold State.shuntUnit
  split
  case h_6 no1 no2 no3 no4 no5 => rw [if_neg no1, if_neg no2, if_neg no3, if_neg no4, if_neg no5]
  all_goals simp only [reduceIte, Nat.reduceEqDiff]
  all_goals rfl

theorem exec_shntReturn (acc : Accepts s m R.SHNT_CMD_STATUS) : exec (.shntReturn m kind i) s = .next (
    if s.noUnit kind i then s.shuntRefuse 6 else if s.proves kind i then s.shuntRefuse 5 else if !s.isShunted kind i && !s.fencedUnit kind i then s.shuntRefuse 6
    else if kind = 2 then (s.returnCore i).shuntDone 2 i else (s.shuntBusy 2 kind i 31).beginReturn kind i) := by
  show execShntReturn m kind i s = _
  unfold execShntReturn
  rw [hostCmd_accepts acc]

theorem exec_shuntCmd_known (acc : Accepts s m R.SHNT_CMD_STATUS) (known : s.noUnit kind i = false) (free : s.proves kind i = false) (serves : s.isShunted kind i = false) :
    exec (.shuntCmd m kind i) s = .next (s.shuntUnit kind i) := by
  rw [exec_shuntCmd acc, if_neg (by rw [known]; exact Bool.false_ne_true), if_neg (by rw [free]; exact Bool.false_ne_true), if_neg (by rw [serves]; exact Bool.false_ne_true)]

/-- A unit that leaves service at once shows it, and its command is DONE. -/
theorem State.shunted_spec (s : State) (known : i < unitCount kind) (notLane : kind ≠ 3) : let t := (s.setShunted kind i true).shuntDone kind i
    t.isShunted kind i = true ∧ t.get (R.PG_STAT_SHUNTED (unitPage kind i)) = 1 ∧ t.get R.SHNT_CMD_STATUS = 2 ∧
      t.get R.SHNT_SHUNTS_COUNT = min (s.get R.SHNT_SHUNTS_COUNT + 1) (2 ^ 36 - 1) ∧ Event t P.SHNT E.SHNT_DONE := by
  intro t
  have may : ∀ k < 7, ∀ j < unitCount k, Ok.shuntDone (Cap.away (R.PG_STAT_SHUNTED (unitPage k j))) := by decide
  have keeps : ∀ k < 7, ∀ j < unitCount k, Ok.setShunted (Cap.away R.SHNT_SHUNTS_COUNT) k j := by decide
  have low := unitCount_known known
  obtain ⟨b, is, -⟩ := unitBit_of known notLane
  obtain ⟨status, -, count, event⟩ := (s.setShunted kind i true).shuntDone_spec kind i
  refine ⟨?_, ?_, status, ?_, event⟩
  · exact (((Within.refl _).shuntDone (by decide)).isShunted_eq kind i).trans (s.setShunted_isShunted known true)
  · refine ((Within.refl _).shuntDone (may kind low i known)).get_eq.trans ?_
    rw [State.setShunted_unit is]
    exact State.setFlag_get_same _ _ _ (by decide : 1 + 1 ≤ 36) rfl
  · rw [count, ((Within.refl s).setShunted (keeps kind low i known)).get_eq]

/-- A TIC, an output PLL and the GNSS receiver leave service at once. -/
theorem State.shuntUnit_spec (s : State) (known : i < unitCount kind) (sort : kind = 4 ∨ kind = 5 ∨ kind = 6) : (s.shuntUnit kind i).isShunted kind i = true ∧
    (s.shuntUnit kind i).get (R.PG_STAT_SHUNTED (unitPage kind i)) = 1 ∧ (s.shuntUnit kind i).get R.SHNT_CMD_STATUS = 2 ∧
      (s.shuntUnit kind i).get R.SHNT_SHUNTS_COUNT = min (s.get R.SHNT_SHUNTS_COUNT + 1) (2 ^ 36 - 1) ∧ Event (s.shuntUnit kind i) P.SHNT E.SHNT_DONE := by
  obtain rfl | rfl | rfl := sort
  · have may : ∀ k < 8, Ok.ticAbort (Cap.away R.SHNT_SHUNTS_COUNT) k ∧ Ok.ticDropCal (Cap.away R.SHNT_SHUNTS_COUNT) k := by decide
    obtain ⟨abort, drop⟩ := may i known
    have is : s.shuntUnit 4 i = (((s.ticAbort i).ticDropCal i).setShunted 4 i true).shuntDone 4 i := by
      rw [State.shuntUnit, if_neg (by decide), if_neg (by decide), if_neg (by decide), if_pos rfl, State.shuntTic]
    obtain ⟨out, shown, status, count, event⟩ := State.shunted_spec ((s.ticAbort i).ticDropCal i) known (by decide)
    rw [is]
    exact ⟨out, shown, status, count.trans (by rw [(((Within.refl s).ticAbort abort).ticDropCal drop).get_eq]), event⟩
  · have may : ∀ k < 4, Ok.setPll (Cap.away R.SHNT_SHUNTS_COUNT) k := by decide
    have is : s.shuntUnit 5 i = (((((s.pllToBypass i).setPll i 0).lineOff 7 (1 + i)).putPll i .init).setShunted 5 i true).shuntDone 5 i := by
      rw [State.shuntUnit, if_neg (by decide), if_neg (by decide), if_neg (by decide), if_neg (by decide), if_pos rfl, State.shuntPll]
    obtain ⟨out, shown, status, count, event⟩ := State.shunted_spec ((((s.pllToBypass i).setPll i 0).lineOff 7 (1 + i)).putPll i .init) known (by decide)
    rw [is]
    exact ⟨out, shown, status, count.trans (by rw [(((((Within.refl s).pllToBypass (by decide)).setPll (may i known)).lineOff (by decide)).putPll (by decide)).get_eq]), event⟩
  · have zero : i = 0 := Nat.lt_one_iff.mp known
    subst zero
    have is : s.shuntUnit 6 0 = ((s.gnsStop 3).setShunted 6 0 true).shuntDone 6 0 := by
      rw [State.shuntUnit, if_neg (by decide), if_neg (by decide), if_neg (by decide), if_neg (by decide), if_neg (by decide), State.shuntGns]
    obtain ⟨out, shown, status, count, event⟩ := State.shunted_spec (s.gnsStop 3) known (by decide)
    rw [is]
    exact ⟨out, shown, status, count.trans (by rw [((Within.refl s).gnsStop (by decide)).get_eq]), event⟩

/-! ## RETURN (R413) -/

theorem exec_shntReturn_known (acc : Accepts s m R.SHNT_CMD_STATUS) (known : s.noUnit kind i = false) (free : s.proves kind i = false) (out : s.isShunted kind i = true ∨ s.fencedUnit kind i = true) :
    exec (.shntReturn m kind i) s = .next (if kind = 2 then (s.returnCore i).shuntDone 2 i else (s.shuntBusy 2 kind i 31).beginReturn kind i) := by
  have goes : (!s.isShunted kind i && !s.fencedUnit kind i) = false := by
    rcases out with out | out <;> simp [out]
  rw [exec_shntReturn acc, if_neg (by rw [known]; exact Bool.false_ne_true), if_neg (by rw [free]; exact Bool.false_ne_true), if_neg (by rw [goes]; exact Bool.false_ne_true)]

/-- A core that returns may be loaded again. -/
theorem State.returnCore_spec (s : State) (low : i < 3) : ((s.returnCore i).shuntDone 2 i).isShunted 2 i = false ∧ (((s.returnCore i).shuntDone 2 i).coreOf i).returned = true ∧
    ((s.returnCore i).shuntDone 2 i).get R.SHNT_CMD_STATUS = 2 := by
  refine ⟨?_, ?_, (State.shuntDone_spec _ 2 i).1⟩
  · refine ((((Within.refl _).healLinks (by decide)).putCore (by decide)).shuntDone (by decide)).isShunted_eq 2 i |>.trans ?_
    exact s.setShunted_isShunted (kind := 2) low false
  · rw [State.coreOf_congr ((Within.refl (s.returnCore i)).shuntDone (by decide)).tri_eq]
    exact congrArg CoreVote.returned (State.coreOf_putCore _ low _)

theorem State.beginReturn_back (s : State) (kind : Nat) (low : i < 24) : (kind, i) ∈ (s.beginReturn kind i).shunt.back := by
  have tic : ∀ k < 24, Ok.ticCalStart (Cap.sparing .shunt) k := by decide
  have pll : ∀ k < 24, Ok.setShunted (Cap.sparing .shunt) 5 k ∧ Ok.pllStart (Cap.sparing .shunt) k := by decide
  unfold State.beginReturn
  extract_lets _ t _ u
  have among : (kind, i) ∈ u.shunt.back := by
    have is : u.shunt = t.shunt := by
      show State.shunt (if _ then _ else _) = _
      split <;> rfl
    rw [is]
    exact List.mem_append_right _ (List.mem_singleton_self _)
  clear_value u
  split
  · rw [((Within.refl u).ticCalStart (tic i low)).shunt_eq]
    exact among
  · rw [(((Within.refl u).setShunted (pll i low).1).pllStart (pll i low).2).shunt_eq]
    exact among
  · rw [(((Within.refl u).setShunted (by decide)).engineReturn (by decide)).shunt_eq]
    exact among
  · exact among

theorem State.beginReturn_spec (s : State) (known : i < unitCount kind) : (kind, i) ∈ ((s.shuntBusy 2 kind i 31).beginReturn kind i).shunt.back ∧
    ((s.shuntBusy 2 kind i 31).beginReturn kind i).get R.SHNT_CMD_STATUS = 1 := by
  have may : ∀ k < 24, Ok.beginReturn (Cap.away R.SHNT_CMD_STATUS) k := by decide
  have counts : ∀ k < 7, unitCount k ≤ 24 := by decide
  have low := Nat.lt_of_lt_of_le known (counts kind (unitCount_known known))
  exact ⟨State.beginReturn_back _ kind low, ((Within.refl _).beginReturn (may i low)).get_eq.trans (s.shuntBusy_spec 2 kind i 31).1⟩

/-! ## A return that is over (R413) -/

theorem State.endReturn_spec (s : State) (kind i : Nat) : (kind, i) ∉ (s.endReturn kind i).shunt.back ∧ (s.endReturn kind i).shunt.coaches = s.shunt.coaches ∧
    (s.isCmd 2 kind i = true → (s.endReturn kind i).get R.SHNT_CMD_STATUS = 2) := by
  unfold State.endReturn
  extract_lets _ t u
  have is : u.shunt = t.shunt := by
    show State.shunt (match unitIsland kind i with | some j => t.healLinks j | none => t) = _
    split
    · exact ((Within.refl t).healLinks (by decide)).shunt_eq
    · rfl
  have cmd : u.isCmd 2 kind i = s.isCmd 2 kind i := by
    unfold State.isCmd
    rw [is]
  have gone : (kind, i) ∉ t.shunt.back := fun among => by simpa using (List.mem_filter.mp among).2
  clear_value u
  split
  next mine =>
    obtain ⟨status, rest, -, -⟩ := u.shuntDone_spec kind i
    rw [rest, is]
    exact ⟨gone, rfl, fun _ => status⟩
  next other =>
    rw [((Within.refl u).shuntRec).shunt_eq, is]
    exact ⟨gone, rfl, fun mine => absurd (cmd.trans mine) other⟩

variable {ok : Bool} {cals : List CalResult} {temp : Int} {cuts : List (Nat × TxRef)}

theorem contains_of_mem {x : Nat × Nat} {l : List (Nat × Nat)} (among : x ∈ l) : l.contains x = true := List.contains_iff_mem.mpr among

theorem exec_shuntReturnDone_coach (back : (1, i) ∈ s.shunt.back) : exec (.shuntReturnDone 1 i ok cals temp cuts) s = .next ((s.coachBack i cals temp).endReturn 1 i) :=
  congrArg Host.Outcome.next (if_pos (contains_of_mem back))

theorem exec_shuntReturnDone_lane (back : (3, i) ∈ s.shunt.back) : exec (.shuntReturnDone 3 i ok cals temp cuts) s = .next (if ok then (s.setShunted 3 i false).endReturn 3 i else s.laneBad i) :=
  congrArg Host.Outcome.next (if_pos (contains_of_mem back))

theorem exec_shuntReturnDone_tic (back : (4, i) ∈ s.shunt.back) (rests : s.ticSt i ≠ 4) : exec (.shuntReturnDone 4 i ok cals temp cuts) s = .next ((s.setShunted 4 i false).endReturn 4 i) :=
  congrArg Host.Outcome.next ((if_pos (contains_of_mem back)).trans (if_neg rests))

theorem exec_shuntReturnDone_entry (out : (1, i) ∉ s.shunt.back) (mine : s.isCmd 1 1 i = true) (drains : bitOn s.shunt.coaches i = true) (empty : s.coachBusy i = false) :
    exec (.shuntReturnDone 1 i ok cals temp cuts) s = .next (s.coachShunted i cuts) :=
  congrArg Host.Outcome.next ((if_neg fun among => out (List.contains_iff_mem.mp among)).trans (if_pos ⟨rfl, mine, drains, by rw [empty]; rfl⟩))

/-- The coach is in service again, its mark in the shunt's own list gone. -/
def State.coachServes (s : State) (c : Nat) : State := State.setShunted { s with shunt := { s.shunt with coaches := setBit s.shunt.coaches c false } } 1 c false

theorem State.coachBack_spec (s : State) (low : i < 6) (cals : List CalResult) (temp : Int) : (s.coachBack i cals temp).isShunted 1 i = false ∧ bitOn (s.coachBack i cals temp).shunt.coaches i = false ∧
    ((s.coachBack i cals temp).isCmd 2 1 i = s.isCmd 2 1 i) := by
  have pairs : ∀ c < 6, ∀ j < 8, Ok.pairStart (Cap.sparing .shunt) (8 + 8 * c + j) := by decide
  have gear : ∀ c < 6, Ok.setGear (Cap.sparing .shunt) c := by decide
  have serves : ∀ c < 6, Ok.setShunted (Cap.sparing .shunt) 1 c := by decide
  unfold State.coachBack
  extract_lets none' t u
  have before : Within (Cap.sparing .shunt) s u := (Within.foldl (.refl s) fun j among _ h => h.pairStart (pairs i low j (List.mem_range.mp among))).setGear (gear i low)
  have same : u.shunt = s.shunt := before.shunt_eq
  clear_value u
  have after : (u.coachServes i).shunt = { u.shunt with coaches := setBit u.shunt.coaches i false } := ((Within.refl _).setShunted (serves i low)).shunt_eq
  show (u.coachServes i).isShunted 1 i = false ∧ bitOn (u.coachServes i).shunt.coaches i = false ∧ (u.coachServes i).isCmd 2 1 i = s.isCmd 2 1 i
  refine ⟨State.setShunted_isShunted _ (kind := 1) low false, ?_, ?_⟩
  · rw [after]
    show bitOn (setBit u.shunt.coaches i false) i = false
    exact bitOn_setBit_same ..
  · unfold State.isCmd
    rw [after, same]

/-- A lane whose tests fail stays out. -/
theorem State.laneBad_spec (s : State) (low : i < 24) : (s.laneBad i).laneSt i = s.laneSt i ∧ (3, i) ∉ (s.laneBad i).shunt.back ∧ (31, 0) ∈ (s.laneBad i).flt.causes ∧
    (s.isCmd 2 3 i = true → (s.laneBad i).get R.SHNT_CMD_STATUS = 7) := by
  have lanes : ∀ c < 6, Ok.laneBad (Cap.away (R.CO_LANES_STATE c)) := by decide
  refine ⟨State.laneSt_congr ((Within.refl s).laneBad (lanes _ (by omega))).get_eq, ?_⟩
  unfold State.laneBad
  extract_lets _ t
  have back : t.shunt.back = s.shunt.back.filter (fun u => u ≠ (3, i)) := congrArg ShuntPart.back ((Within.refl _).pulse (by decide : Ok.pulse (Cap.sparing .shunt))).shunt_eq
  have cmd : t.isCmd 2 3 i = s.isCmd 2 3 i := by
    unfold State.isCmd
    rw [((Within.refl _).pulse (by decide : Ok.pulse (Cap.sparing .shunt))).shunt_eq]
  have line : (31, 0) ∈ t.flt.causes := State.lineOn_causes ..
  have gone : (3, i) ∉ t.shunt.back := by
    rw [back]
    exact fun among => by simpa using (List.mem_filter.mp among).2
  clear_value t
  split
  next mine =>
    show (3, i) ∉ (t.noShuntCmd.set R.SHNT_CMD_STATUS 7).shunt.back ∧ (31, 0) ∈ (t.noShuntCmd.set R.SHNT_CMD_STATUS 7).flt.causes ∧ _
    rw [((Within.refl t.noShuntCmd).set (by decide)).shunt_eq, ((Within.refl t.noShuntCmd).set (by decide)).flt_eq]
    exact ⟨gone, line, fun _ => State.get_set_fits _ _ (by decide) (by decide)⟩
  next other => exact ⟨gone, line, fun mine => absurd (cmd.trans mine) other⟩

/-- A coach that has drained leaves service. -/
theorem State.coachShunted_spec (s : State) (low : i < 6) (cuts : List (Nat × TxRef)) : (s.coachShunted i cuts).isShunted 1 i = true ∧ (s.coachShunted i cuts).get R.SHNT_CMD_STATUS = 2 ∧
    (s.coachShunted i cuts).shunt.cmd = none := by
  have down : ∀ c < 6, Ok.coachDown (Cap.outside [R.SHNT_UNITS, R.SHNT_LANES]) c := by decide
  obtain ⟨status, rest, -, -⟩ := ((s.setShunted 1 i true).coachDown i cuts).shuntDone_spec 1 i
  refine ⟨?_, status, congrArg ShuntPart.cmd rest⟩
  exact ((((Within.refl _).coachDown (down i low)).shuntDone (by decide)).isShunted_eq 1 i).trans (s.setShunted_isShunted (kind := 1) low true)

end

/-- Settles O40. The RETURN of a core completes DONE at once (`State.returnCore_spec`), which is the model's choice (log entry 32). -/
theorem unitsAreShuntedAndReturned : Obligations.UnitsAreShuntedAndReturned := by
  unfold Obligations.UnitsAreShuntedAndReturned
  refine ⟨?_, ?_, ?_, ?_⟩
  · intro s m kind i acc none'
    have refused := s.shuntRefuse_spec (by decide : 6 < 16)
    exact ⟨.intro ((exec_shuntCmd acc).trans (congrArg Host.Outcome.next (if_pos none'))) refused, .intro ((exec_shntReturn acc).trans (congrArg Host.Outcome.next (if_pos none'))) refused⟩
  · intro s m kind i acc unit free serves
    have known := State.noUnit_known unit
    have goes := exec_shuntCmd_known acc unit free serves
    refine ⟨fun is => ?_, fun is => ?_, fun is other => ?_, fun is only => ?_, fun sort => .intro goes (s.shuntUnit_spec known sort)⟩
    · obtain ⟨status, part⟩ := s.shuntBusy_spec 1 1 i 31
      subst is
      rw [State.shuntUnit, if_pos rfl] at goes
      exact .intro goes ⟨((Within.refl (s.shuntBusy 1 1 i 31)).updShunt rfl).get_eq.trans status, congrArg ShuntPart.cmd part⟩
    · subst is
      rw [State.shuntUnit, if_neg (by decide), if_pos rfl] at goes
      exact .intro goes ⟨((Within.refl (s.shuntBusy 1 2 i 31)).updTri rfl).get_eq.trans (s.shuntBusy_spec 1 2 i 31).1, rfl⟩
    · obtain ⟨l, among, differs⟩ := other
      obtain ⟨status, part⟩ := s.shuntBusy_spec 1 3 i 31
      subst is
      rw [State.shuntUnit, if_neg (by decide), if_neg (by decide), if_pos rfl, State.shuntLane, if_pos (List.any_eq_true.mpr ⟨l, among, decide_eq_true differs⟩)] at goes
      refine .intro goes ⟨((Within.refl (s.shuntBusy 1 3 i 31)).addMig rfl).get_eq.trans status, ?_⟩
      unfold State.addMig
      rw [List.getLast?_concat]
      rfl
    · subst is
      rw [State.shuntUnit, if_neg (by decide), if_neg (by decide), if_pos rfl, State.shuntLane, if_neg (by
        rw [List.any_eq_true]
        rintro ⟨l, among, differs⟩
        exact of_decide_eq_true differs (only l among))] at goes
      obtain ⟨status, part, -⟩ := s.shuntRefuse_spec (by decide : 4 < 16)
      exact .intro goes ⟨status, part⟩
  · intro s m kind i acc unit free out
    have goes := exec_shntReturn_known acc unit free out
    have known := State.noUnit_known unit
    refine ⟨fun is => ?_, fun other => ?_, fun out => ?_⟩
    · subst is
      rw [if_pos rfl] at goes
      exact .intro goes (s.returnCore_spec known)
    · rw [if_neg other] at goes
      exact .intro goes (s.beginReturn_spec known)
    · obtain ⟨status, part, -⟩ := s.shuntRefuse_spec (by decide : 6 < 16)
      refine .intro ((exec_shuntCmd acc).trans (congrArg Host.Outcome.next ?_)) ⟨part, status⟩
      rw [if_neg (by rw [unit]; exact Bool.false_ne_true), if_neg (by rw [free]; exact Bool.false_ne_true), if_pos out]
  · intro s i cals temp cuts
    have ended (t : State) (kind : Nat) : (t.endReturn kind i).isShunted kind i = t.isShunted kind i := ((Within.refl t).endReturn (by decide)).isShunted_eq kind i
    refine ⟨fun low back => ?_, fun low back => ?_, fun low back => ?_, fun low back rests => ?_, fun low out mine drains empty => ?_⟩
    · obtain ⟨serves, drained, same⟩ := s.coachBack_spec low cals temp
      obtain ⟨gone, coaches, status⟩ := (s.coachBack i cals temp).endReturn_spec 1 i
      exact .intro (exec_shuntReturnDone_coach back) ⟨(ended _ 1).trans serves, gone, by rw [coaches]; exact drained, fun mine => status (same.trans mine)⟩
    · obtain ⟨gone, -, status⟩ := (s.setShunted 3 i false).endReturn_spec 3 i
      have lanes : ∀ c < 6, Ok.endReturn (Cap.away (R.CO_LANES_STATE c)) := by decide
      have part : (s.setShunted 3 i false).shunt = s.shunt := ((Within.refl s).setShunted ⟨rfl, rfl, rfl, rfl, rfl⟩).shunt_eq
      refine .intro ((exec_shuntReturnDone_lane back).trans (congrArg Host.Outcome.next (if_pos rfl))) ⟨(ended _ 3).trans (s.setShunted_isShunted (kind := 3) low false), ?_, gone, fun mine => status ?_⟩
      · exact (State.laneSt_congr ((Within.refl _).endReturn (lanes _ (by omega))).get_eq).trans (s.setShunted_laneSt low false)
      · unfold State.isCmd at mine ⊢
        rw [part]
        exact mine
    · exact .intro ((exec_shuntReturnDone_lane back).trans (congrArg Host.Outcome.next (if_neg Bool.false_ne_true))) (s.laneBad_spec low)
    · exact .intro (exec_shuntReturnDone_tic back rests) ⟨(ended _ 4).trans (s.setShunted_isShunted (kind := 4) low false), (State.endReturn_spec _ 4 i).1⟩
    · exact .intro (exec_shuntReturnDone_entry out mine drains empty) (s.coachShunted_spec low cuts)

end Sys2Proof.Machine
end

section
/-! PROOFS.
Migrations move a lane (spec/17, R410 to R412).
-/
namespace Sys2Proof.Machine
open Sys2Proof

section
variable {s : State} {lane : Nat} {g : Migration}

/-! ## The migration of a lane (R410) -/

/-- The migration that is found is the lane's own. -/
theorem State.migOf_lane (is : s.migOf lane = some g) : g.lane = lane := of_decide_eq_true (List.find?_some (p := fun (x : Migration) => decide (x.lane = lane)) is)

theorem find_replaced {l : List Migration} {x : Migration} (own : x.lane = lane) (is : (l.find? (fun y => decide (y.lane = lane))) = some g) :
    (l.map (fun y => if y.lane = x.lane then x else y)).find? (fun y => decide (y.lane = lane)) = some x := by
  induction l with
  | nil => cases is
  | cons y ys ih =>
    rw [List.map_cons, List.find?_cons]
    by_cases hit : y.lane = lane
    · rw [if_pos (hit.trans own.symm), decide_eq_true own]
    · rw [List.find?_cons_of_neg (by simpa using hit)] at is
      rw [if_neg fun e => hit (e.trans own), decide_eq_false hit]
      exact ih is

/-- A migration that is put in the place of the lane's own is the lane's own. -/
theorem State.putMig_migOf {x : Migration} (is : s.migOf lane = some g) (own : x.lane = lane) : (s.putMig x).migOf lane = some x := find_replaced own is

theorem State.migOf_congr {s t : State} (same : t.shunt = s.shunt) (lane : Nat) : t.migOf lane = s.migOf lane := by
  unfold State.migOf
  rw [same]

theorem State.isCmd_congr {s t : State} (same : t.shunt.cmd = s.shunt.cmd) (op kind i : Nat) : t.isCmd op kind i = s.isCmd op kind i := by
  unfold State.isCmd
  rw [same]

/-- The carriages of the lane's old placement. -/
def State.oldCids (s : State) (lane : Nat) : List Nat :=
  ((s.coachOf (lane / 4)).cars.filter (fun (k : Carriage) => decide (k.place = s.placeOf lane) && holdsLane k lane)).map (fun (k : Carriage) => k.cid)

/-- The migration as it starts. -/
def State.migStarts (s : State) (lane : Nat) (g : Migration) : Migration := { g with begun := true, start := s.ax.mark, oldPlace := s.placeOf lane, oldCids := s.oldCids lane }

theorem exec_migrationStart (known : lane < 24) (is : s.migOf lane = some g) (waits : g.begun = false) (due : g.asked < s.ax.marks) :
    exec (.migrationStart lane) s = .next ((((s.putMig (s.migStarts lane g)).set R.SHNT_MIG_STAT_ACTIVE 1).set R.SHNT_MIG_STAT_TO g.to_).set R.SHNT_MIG_STAT_FROM lane) := by
  show execMigrationStart lane s = _
  unfold execMigrationStart
  rw [withUnit_next known, is]
  exact congrArg _ (if_neg (by rw [waits]; simpa using due))

/-! ## Its fence (R411) -/

/-- A carriage of the old placement that has not passed COMPOSE. -/
def Migration.holds (g : Migration) (k : Carriage) : Bool := g.oldCids.contains k.cid && beforeCompose k

/-- The latest departure of the old placement, or the present. -/
def Migration.fenceAt (g : Migration) (now : Int) (cars : List Carriage) : Int :=
  cars.foldl (fun (z : Int) (k : Carriage) =>
    match k.depart with
    | some d => if k.place = g.oldPlace then max z d else z
    | none => z) now

/-- The carriages that have not passed COMPOSE are lost. -/
def State.migLoses (s : State) (lane : Nat) (g : Migration) : State := s.loseAll (lane / 4) g.holds (R.CO_MIGRATE_DROP_COUNT (lane / 4))

/-- The fence that a coach's carriages give. -/
def State.migFence (s : State) (lane tick : Nat) (g : Migration) : Int :=
  g.fenceAt ((s.ctrOf (8 + lane / 4)).at_ tick) ((s.migLoses lane g).coachOf (lane / 4)).cars

theorem exec_migrationFenceFixed {tick : Nat} (known : lane < 24) (is : s.migOf lane = some g) (begun : g.begun = true) (free : g.fence = none)
    (due : (∀ k ∈ (s.coachOf (lane / 4)).cars, g.oldCids.contains k.cid = true → beforeCompose k = false) ∨ g.start + 10000 * nsU ≤ (s.ctrOf (8 + lane / 4)).at_ tick) :
    exec (.migrationFenceFixed lane tick) s = .next (((s.migLoses lane g).putMig { g with fence := some (s.migFence lane tick g) }).wrT R.SHNT_MIG_FENCE (toT108 (s.migFence lane tick g))) := by
  show execMigrationFenceFixed lane tick s = _
  unfold execMigrationFenceFixed
  rw [withUnit_next known, is]
  refine congrArg _ (if_neg ?_)
  rw [begun, free]
  rintro (h | h | ⟨busy, early⟩)
  · exact absurd h (by decide)
  · exact absurd h (by decide)
  · rcases due with passed | late
    · obtain ⟨k, among, holds⟩ := List.any_eq_true.mp busy
      obtain ⟨old, before⟩ := Bool.and_eq_true_iff.mp holds
      exact Bool.false_ne_true ((passed k among old).symm.trans before)
    · exact absurd early (Int.not_lt.mpr late)

/-- A fence lies at the present or after it, and at or after each departure of the old placement. -/
theorem Migration.fenceAt_spec (g : Migration) (cars : List Carriage) (now : Int) : now ≤ g.fenceAt now cars ∧ ∀ k ∈ cars, k.place = g.oldPlace → ∀ d, k.depart = some d → d ≤ g.fenceAt now cars := by
  induction cars generalizing now with
  | nil => exact ⟨le_refl _, fun _ none' => nomatch none'⟩
  | cons x xs ih =>
    obtain ⟨after, covers⟩ := ih (match x.depart with
      | some d => if x.place = g.oldPlace then max now d else now
      | none => now)
    have grows : now ≤ (match x.depart with
      | some d => if x.place = g.oldPlace then max now d else now
      | none => now) := by
      split
      · split
        exacts [le_max_left _ _, le_refl _]
      · exact le_refl _
    refine ⟨grows.trans after, fun k among old d departs => ?_⟩
    rcases List.mem_cons.mp among with is | later
    · subst is
      refine le_trans ?_ after
      rw [departs]
      show d ≤ if k.place = g.oldPlace then max now d else now
      rw [if_pos old]
      exact le_max_right _ _
    · exact covers k later old d departs

theorem State.migLoses_shunt (s : State) (lane : Nat) (g : Migration) : (s.migLoses lane g).shunt = s.shunt := ((Within.refl s).loseAll ⟨by decide, rfl⟩).shunt_eq

/-! ## At the fence (R411, R412) -/

/-- The lane's epoch moves on. -/
def State.nextEpoch (s : State) (lane : Nat) : State :=
  s.putCoach (lane / 4) { s.coachOf (lane / 4) with epochs := kvPut (s.coachOf (lane / 4)).epochs lane ((kvGetD (s.coachOf (lane / 4)).epochs lane 0 + 1) % 8) }

theorem State.nextEpoch_coachOf (s : State) (lane : Nat) : (s.nextEpoch lane).coachOf (lane / 4) =
    { s.coachOf (lane / 4) with epochs := kvPut (s.coachOf (lane / 4)).epochs lane ((kvGetD (s.coachOf (lane / 4)).epochs lane 0 + 1) % 8) } := kvGetD_kvPut_same ..

theorem State.coachOf_congr {s t : State} (same : t.pipe = s.pipe) (c : Nat) : t.coachOf c = s.coachOf c := by
  unfold State.coachOf
  rw [same]

/-- A lane whose fence has come: its epoch and its migration. -/
def State.migFenced (s : State) (lane : Nat) (g : Migration) : State := (s.nextEpoch lane).putMig { g with fenced := true }

/-- The multicast placements move, and the fence is recorded. -/
def State.migMoves (s : State) (lane : Nat) (g : Migration) : State := (s.moveMc g).takeFree.2.shuntRec 3 lane (s.moveMc g).takeFree.1

theorem Within.migMoves {C : Cap} (may : Ok.moveMc C g) : Within C s (s.migMoves lane g) := ((Within.refl s).moveMc may).takeFree.shuntRec

theorem exec_migrationFence {tick : Nat} {f : Int} (known : lane < 24) (is : s.migOf lane = some g) (fence : g.fence = some f) (fresh : g.fenced = false)
    (due : f ≤ (s.ctrOf (8 + lane / 4)).at_ tick) :
    exec (.migrationFence lane tick) s = .next (State.migMoves (if g.shunt then (s.migFenced lane g).setShunted 3 lane true else s.migFenced lane g) lane g) := by
  show execMigrationFence lane tick s = _
  unfold execMigrationFence
  rw [withUnit_next known, is]
  refine congrArg _ ?_
  dsimp only
  split
  next none' => rw [fence] at none'; cases none'
  next f' is' =>
    have same : f' = f := Option.some.inj (is'.symm.trans fence)
    refine if_neg ?_
    rw [fresh, same]
    rintro (h | early)
    · exact absurd h (by decide)
    · exact absurd early (Int.not_lt.mpr due)

theorem moveMc_low (low : g.lane < 24) : Ok.moveMc (Cap.sparing .shunt) g ∧ Ok.moveMc (Cap.sparing .pipe) g ∧ Ok.moveMc (Cap.away R.SHNT_LANES_LANE) g ∧ Ok.moveMc (Cap.away (R.CO_LANES_STATE (g.lane / 4))) g := by
  have lanes : ∀ c < 6, ∀ i < 4, Ok.set (Cap.away R.SHNT_LANES_LANE) (mcFld (4 * c + i)) := by decide
  have states : ∀ c < 6, ∀ i < 4, Ok.set (Cap.away (R.CO_LANES_STATE c)) (mcFld (4 * c + i)) := by decide
  exact ⟨fun _ _ => rfl, fun _ _ => rfl, lanes _ (by omega), states _ (by omega)⟩

/-! ## The end of a migration (R412) -/

/-- A migration that is over. -/
def State.migDone (s : State) (lane : Nat) : State := { s with shunt := { s.shunt with migs := s.shunt.migs.filter (fun x => decide (x.lane ≠ lane)) } }

/-- The end of a migration shows. -/
def State.migShown (s : State) (lane : Nat) : State :=
  ((((s.migDone lane).setFlag R.SHNT_MIG_STAT_ACTIVE ((s.shunt.migs.filter (fun x => decide (x.lane ≠ lane))).any (fun x => x.begun))).bump R.SHNT_MIGRATIONS_COUNT).raise P.SHNT E.SHNT_MIGRATED).shuntRec 3 lane E.SHNT_MIGRATED

/-- A host command for the lane completes. -/
def State.migTold (s : State) (lane : Nat) : State :=
  if s.isCmd 1 3 lane then s.shuntDone 3 lane else if s.isCmd 3 3 lane then s.noShuntCmd.set R.SHNT_CMD_STATUS 2 else s

theorem exec_migrated (known : lane < 24) (is : s.migOf lane = some g) (fenced : g.fenced = true) : exec (.migrated lane) s = .next (((s.rewritePlaces g).migShown lane).migTold lane) := by
  show execMigrated lane s = _
  unfold execMigrated
  rw [withUnit_next known, is]
  exact congrArg _ (if_neg (by rw [fenced]; decide))

theorem State.migShown_spec (s : State) (lane : Nat) : (s.migShown lane).shunt = (s.migDone lane).shunt ∧ Event (s.migShown lane) P.SHNT E.SHNT_MIGRATED ∧
    (s.migShown lane).get R.SHNT_MIGRATIONS_COUNT = min (s.get R.SHNT_MIGRATIONS_COUNT + 1) (2 ^ 36 - 1) := by
  refine ⟨((((Within.refl (s.migDone lane)).setFlag (by decide)).bump (by decide)).raise (by decide)).shuntRec.shunt_eq, ((Within.refl _).shuntRec).event (event_raise _ _ _ (by decide)), ?_⟩
  refine (((Within.refl _).raise (by decide)).shuntRec).get_eq.trans ((State.bump_get_same _ _ (by decide)).trans ?_)
  rw [((Within.refl (s.migDone lane)).setFlag (by decide)).get_eq]
  rfl

theorem State.migDone_migOf (s : State) (lane : Nat) : (s.migDone lane).migOf lane = none := by
  refine List.find?_eq_none.mpr fun x among => ?_
  have other := of_decide_eq_true (List.mem_filter.mp among).2
  simpa using other

/-- What a migration's end leaves, whichever command asked for it. -/
theorem State.migTold_spec (s : State) (lane : Nat) : (s.migTold lane).shunt.migs = s.shunt.migs ∧ ((s.isCmd 1 3 lane = true ∨ s.isCmd 3 3 lane = true) →
    (s.migTold lane).get R.SHNT_CMD_STATUS = 2 ∧ (s.migTold lane).shunt.cmd = none) := by
  unfold State.migTold
  split
  next =>
    obtain ⟨status, part, -, -⟩ := s.shuntDone_spec 3 lane
    rw [part]
    exact ⟨rfl, fun _ => ⟨status, rfl⟩⟩
  next not1 =>
    split
    next =>
      rw [((Within.refl s.noShuntCmd).set (by decide)).shunt_eq]
      exact ⟨rfl, fun _ => ⟨State.get_set_fits _ _ (by decide) (by decide), rfl⟩⟩
    next not3 => exact ⟨rfl, fun mine => (mine.elim not1 not3).elim⟩

theorem Within.migTold {C : Cap} (may : Ok.shuntDone C) : Within C s (s.migTold lane) :=
  .ite ((Within.refl s).shuntDone may) (.ite (((Within.refl s).updShunt may.1).set may.2.1) (.refl s))

/-! ## MIGRATE (R413, R420) -/

theorem exec_migrateCmd {m : Master} {kind dest : Nat} (acc : Accepts s m R.SHNT_CMD_STATUS) : exec (.migrateCmd m kind lane dest) s = .next (
    if kind ≠ 3 ∨ s.noUnit kind lane then s.shuntRefuse 6 else if s.proves 3 lane then s.shuntRefuse 5
    else if s.laneSt lane ≠ 0 ∨ dest / 4 ≠ lane / 4 ∨ dest = lane ∨ s.laneSt dest ≠ 0 then s.shuntRefuse 6 else (s.shuntBusy 3 3 lane dest).addMig lane dest false) := by
  show execMigrateCmd m kind lane dest s = _
  unfold execMigrateCmd
  rw [hostCmd_accepts acc]

end

/-- Settles O39. A fence at or after the instant in which it is fixed, and a lane's SHUNT or MIGRATE complete at MIGRATED, are the model's choices (log entry 32). -/
theorem migrationsMoveALane : Obligations.MigrationsMoveALane := by
  unfold Obligations.MigrationsMoveALane
  refine ⟨?_, ?_, ?_, ?_, ?_⟩
  · intro s lane g known is waits due
    have own := State.migOf_lane is
    have shown {C : Cap} (may : Ok.set C R.SHNT_MIG_STAT_ACTIVE ∧ Ok.set C R.SHNT_MIG_STAT_TO ∧ Ok.set C R.SHNT_MIG_STAT_FROM) : Within C (s.putMig (s.migStarts lane g))
        ((((s.putMig (s.migStarts lane g)).set R.SHNT_MIG_STAT_ACTIVE 1).set R.SHNT_MIG_STAT_TO g.to_).set R.SHNT_MIG_STAT_FROM lane) := (((Within.refl _).set may.1).set may.2.1).set may.2.2
    refine .intro (exec_migrationStart known is waits due) ⟨?_, ?_, ?_, (((Within.refl s).putMig (by decide)).trans (shown (by decide))).onlySlots⟩
    · rw [State.migOf_congr (shown (by decide)).shunt_eq, State.putMig_migOf is (show (s.migStarts lane g).lane = lane from own)]
      rfl
    · exact (((Within.refl _).set (by decide)).set (by decide)).get_eq.trans (State.get_set_fits _ _ (by decide) (by decide))
    · exact State.get_set_fits _ _ (by decide) (by show lane < 32; omega)
  · intro s lane tick g known is begun free due
    have own := State.migOf_lane is
    obtain ⟨after, covers⟩ := g.fenceAt_spec ((s.migLoses lane g).coachOf (lane / 4)).cars ((s.ctrOf (8 + lane / 4)).at_ tick)
    have wrote {C : Cap} (may : Ok.wrT C R.SHNT_MIG_FENCE) := (Within.refl ((s.migLoses lane g).putMig { g with fence := some (s.migFence lane tick g) })).wrT (v := toT108 (s.migFence lane tick g)) may
    refine .intro (exec_migrationFenceFixed known is begun free due) ⟨s.migFence lane tick g, ?_, after, State.wrT_rdT_same .., ?_⟩
    · rw [State.migOf_congr (wrote (by decide)).shunt_eq, State.putMig_migOf (x := { g with fence := some (s.migFence lane tick g) }) ((State.migOf_congr (s.migLoses_shunt lane g) lane).trans is) own]
      rfl
    · rw [State.coachOf_congr (wrote (by decide)).pipe_eq]
      exact covers
  · intro s lane tick g f known is fence fresh due
    have own := State.migOf_lane is
    obtain ⟨shunt, pipe, lanes, states⟩ := moveMc_low (g := g) (by omega)
    rw [own] at states
    have out : (if g.shunt then (s.migFenced lane g).setShunted 3 lane true else s.migFenced lane g).shunt = (s.migFenced lane g).shunt ∧
        (if g.shunt then (s.migFenced lane g).setShunted 3 lane true else s.migFenced lane g).pipe = (s.migFenced lane g).pipe :=
      ⟨(Within.ite ((Within.refl (s.migFenced lane g)).setShunted ⟨rfl, rfl, rfl, rfl, rfl⟩) (.refl _)).shunt_eq, (Within.ite ((Within.refl (s.migFenced lane g)).setShunted ⟨rfl, rfl, rfl, rfl, rfl⟩) (.refl _)).pipe_eq⟩
    have coach := (State.coachOf_congr ((Within.migMoves (lane := lane) pipe).pipe_eq.trans out.2) (lane / 4)).trans (s.nextEpoch_coachOf lane)
    refine .intro (exec_migrationFence known is fence fresh due) ⟨?_, ?_, fun shunts => ⟨?_, ?_⟩, fun stays => ?_, ?_⟩
    · rw [coach]
      exact kvGetD_kvPut_same ..
    · rw [State.migOf_congr ((Within.migMoves shunt).shunt_eq.trans out.1), State.migFenced, State.putMig_migOf (x := { g with fenced := true }) (show (s.nextEpoch lane).migOf lane = some g from is) own]
      rfl
    · rw [if_pos shunts, State.laneSt_congr (Within.migMoves states).get_eq]
      exact State.setShunted_laneSt _ known true
    · rw [if_pos shunts]
      exact (congrArg (bitOn · lane) (Within.migMoves lanes).get_eq).trans (State.setShunted_isShunted _ (kind := 3) known true)
    · rw [if_neg (by rw [stays]; exact Bool.false_ne_true), State.laneSt_congr (Within.migMoves states).get_eq]
      rfl
    · rw [coach]
  · intro s lane g known is fenced
    obtain ⟨part, event, count⟩ := (s.rewritePlaces g).migShown_spec lane
    obtain ⟨migs, told⟩ := ((s.rewritePlaces g).migShown lane).migTold_spec lane
    have rewrote {C : Cap} (may : Ok.rewritePlaces C) : Within C s (s.rewritePlaces g) := (Within.refl s).rewritePlaces may
    have cmd (op : Nat) : ((s.rewritePlaces g).migShown lane).isCmd op 3 lane = s.isCmd op 3 lane :=
      State.isCmd_congr (by
        rw [part]
        show (s.rewritePlaces g).shunt.cmd = s.shunt.cmd
        rw [(rewrote (by decide)).shunt_eq]) op 3 lane
    refine .intro (exec_migrated known is fenced) ⟨?_, (Within.migTold (by decide)).event event, ?_, fun mine => told ?_⟩
    · unfold State.migOf
      rw [migs, part]
      exact State.migDone_migOf ..
    · rw [(Within.migTold (by decide)).get_eq, count, (rewrote (by decide)).get_eq]
    · rw [cmd, cmd]
      exact mine
  · intro s m lane dest acc
    refine ⟨fun unit free serves coach other stands => ?_, fun kind other => ?_⟩
    · obtain ⟨status, part⟩ := s.shuntBusy_spec 3 3 lane dest
      refine .intro (t := (s.shuntBusy 3 3 lane dest).addMig lane dest false) ((exec_migrateCmd acc).trans (congrArg Host.Outcome.next ?_)) ⟨((Within.refl (s.shuntBusy 3 3 lane dest)).addMig rfl).get_eq.trans status, ?_, ?_⟩
      · rw [if_neg (by simp [unit]), if_neg (by rw [free]; exact Bool.false_ne_true), if_neg (by simp [serves, coach, other, stands])]
      · unfold State.addMig
        show ((s.shuntBusy 3 3 lane dest).shunt.migs ++ [_]).length = _
        rw [List.length_append, part]
        rfl
      · unfold State.addMig
        rw [List.getLast?_concat]
        rfl
    · exact .intro ((exec_migrateCmd acc).trans (congrArg Host.Outcome.next (if_pos (.inl other)))) (s.shuntRefuse_spec (by decide))

end Sys2Proof.Machine
end

section
/-! PROOFS.
The redundancy group's links, frames and role (spec/18).
-/
namespace Sys2Proof.Machine
open Sys2Proof

/-! ## The group's settings -/

/-- What may be touched while the group's settings and the links in use stay the same. -/
def Cap.group : Cap
  | .fld f => decide (f.slot ≠ R.DUG_CFG)
  | .evt p => decide (R.PG_EVT p ≠ R.DUG_CFG)
  | .page p => decide (p ≠ R.DUG_CFG / 512)
  | .part p => decide (p ≠ .boot ∧ p ≠ .isl)

section
variable {s t u : State} {n lane : Nat} {b : DugBody} {f : DugFrame}

theorem Within.cfg_eq (h : Within Cap.group s t) {g : Fld} (cfg : g.slot = R.DUG_CFG) : t.get g = s.get g :=
  h.get g (fun _ m => .inl fun e => of_decide_eq_true m (e.trans cfg)) (fun _ m e => of_decide_eq_true m (e.trans cfg))
    fun _ m e => of_decide_eq_true m (e.symm.trans (congrArg (· / 512) cfg))

theorem Within.dugLinks_eq (h : Within Cap.group s t) : t.dugLinks = s.dugLinks := by
  unfold State.dugLinks State.up
  rw [h.cfg_eq rfl, h.cfg_eq rfl, h.part .boot (by decide), h.part .isl (by decide)]

theorem Within.inGroup_eq (h : Within Cap.group s t) : t.inGroup = s.inGroup := by
  unfold State.inGroup
  rw [h.cfg_eq rfl]

theorem State.dugLinks_lt (on : n ∈ s.dugLinks) : n < 2 := by
  unfold State.dugLinks at on
  dsimp only at on
  split at on
  · exact List.mem_range.1 (List.mem_of_mem_filter on)
  · cases on

theorem State.dugLinks_nodup (s : State) : s.dugLinks.Nodup := by
  unfold State.dugLinks
  dsimp only
  split
  · exact List.nodup_range.filter _
  · exact List.nodup_nil

/-! ## What is known of the peers -/

theorem State.putPeer_peer (s : State) (n : Nat) (x : PeerState) : (s.putPeer n x).peer n = x := by
  unfold State.putPeer State.peer
  by_cases zero : n = 0
  · rw [if_pos zero, if_pos zero]
  · rw [if_neg zero, if_neg zero]

theorem State.putPeer_peer_other (s : State) {n m : Nat} (x : PeerState) (low : n < 2) (low' : m < 2) (other : n ≠ m) : (s.putPeer n x).peer m = s.peer m := by
  unfold State.putPeer State.peer
  by_cases zero : n = 0
  · rw [if_pos zero, if_neg (by omega), if_neg (by omega)]
  · rw [if_neg zero, if_pos (by omega), if_pos (by omega)]

theorem State.peer_congr (same : t.dug = s.dug) (n : Nat) : t.peer n = s.peer n := by
  unfold State.peer
  rw [same]

/-- What the member knows of the lease is all that a part of it needs. -/
theorem DugPart.eq_of_reins {α : Type} {x y : DugPart} (same : x.reins = y.reins) (g : DugPart → α) (blind : ∀ z : DugPart, g z.reins = g z) : g x = g y :=
  (blind x).symm.trans ((congrArg g same).trans (blind y))

/-! ## Frames sent (R424) -/

/-- What has left before or leaves later does not matter to what leaves. -/
theorem Sends.later (h : Sends s t n lane b) (k : t.sent <:+ u.sent) : Sends s u n lane b := by
  obtain ⟨f, l, is, mem, body⟩ := h
  obtain ⟨l', is'⟩ := k
  exact ⟨f, l' ++ l, by rw [← is', is, List.append_assoc], List.mem_append_right _ mem, body⟩

theorem Sends.since (k : s.sent <:+ t.sent) (h : Sends t u n lane b) : Sends s u n lane b := by
  obtain ⟨f, l, is, mem, body⟩ := h
  obtain ⟨l', is'⟩ := k
  exact ⟨f, l ++ l', by rw [is, ← is', List.append_assoc], List.mem_append_left _ mem, body⟩

theorem State.dugSend_sends (on : n ∈ s.dugLinks) : Sends s (s.dugSend n lane b) n lane b := by
  unfold State.dugSend
  rw [if_neg (by simpa using on)]
  exact ⟨_, [_], rfl, List.mem_singleton.2 rfl, rfl⟩

theorem State.dugSendAll_sends (s : State) (lane : Nat) (b : DugBody) : ∀ n ∈ s.dugLinks, Sends s (s.dugSendAll lane b) n lane b := by
  have each : ∀ (l : List Nat) (u : State), Within Cap.group s u → ∀ n ∈ l, n ∈ s.dugLinks → Sends u (l.foldl (fun t n => t.dugSend n lane b) u) n lane b := by
    intro l
    induction l with
    | nil => exact fun _ _ _ mem => nomatch mem
    | cons m l ih =>
      intro u keeps n mem on
      have next := Within.dugSend (n := m) (lane := lane) (body := b) keeps (by decide)
      have step : Within Cap.group u (u.dugSend m lane b) := .dugSend (.refl u) (by decide)
      rw [List.foldl_cons]
      rcases List.mem_cons.1 mem with rfl | mem
      · have rest : Within Cap.group (u.dugSend n lane b) (l.foldl (fun t n => t.dugSend n lane b) (u.dugSend n lane b)) :=
          .foldl (.refl _) fun _ _ _ h => h.dugSend (by decide)
        exact (State.dugSend_sends (keeps.dugLinks_eq ▸ on)).later rest.sent
      · exact (ih _ next n mem on).since step.sent
  exact fun n on => each _ s (.refl s) n on on

/-- What is known of a peer but for the sequence numbers of the frames sent. -/
def PeerState.known (x : PeerState) : PeerState := { x with txSeq := 0, txSeq1 := 0 }

theorem State.dugSend_known (s : State) {j n : Nat} (lane : Nat) (b : DugBody) (low : n < 2) : ((s.dugSend j lane b).peer n).known = (s.peer n).known := by
  unfold State.dugSend
  split
  · rfl
  next on =>
    have low' := State.dugLinks_lt (n := j) (s := s) (by simpa using on)
    by_cases same : j = n
    · subst same
      refine (congrArg PeerState.known (State.putPeer_peer s j _)).trans ?_
      split
      · rfl
      · rfl
    · exact congrArg PeerState.known (State.putPeer_peer_other s _ low' low same)

theorem State.dugSendAll_known (s : State) (lane : Nat) (b : DugBody) (low : n < 2) : ((s.dugSendAll lane b).peer n).known = (s.peer n).known :=
  List.foldlRecOn (motive := fun u : State => (u.peer n).known = (s.peer n).known) _ _ rfl fun u is _ _ => (u.dugSend_known lane b low).trans is

/-! ## Frames received (R424) -/

/-- A bit of the peer's flags. -/
def flagBit (x : Bool) (v : Nat) : Nat := if x then v else 0

/-- The state that shows what the header of a frame says. -/
def State.dugHeard (s : State) (n : Nat) (f : DugFrame) : State :=
  let s := (s.set (R.DUG_PEER_STAT_ROLE n) f.role).set (R.DUG_PEER_STAT_FLAGS n) (flagBit f.follows 4 + flagBit f.timed 2 + flagBit f.ready 1)
  let s := (s.set (R.DUG_PEER_SERIAL_HI_SN n) (f.serial / 2 ^ 32)).set (R.DUG_PEER_SERIAL_LO_SN n) (f.serial % 2 ^ 32)
  let s := s.putPeer n { s.peer n with serial := f.serial, prio := f.prio }
  if (List.range 2).any (fun j => decide (s.get (R.DUG_PEER_STAT_ROLE j) = 1)) then s else s.endDual

theorem State.dugTake_of_taken (taken : Taken s n f) (k : State → State) : s.dugTake n f k = k (s.dugHeard n f) := by
  obtain ⟨on, ok, group⟩ := taken
  unfold State.dugTake
  rw [if_neg (by simpa using on), if_neg (by simp [ok, group])]
  rfl

abbrev Ok.heard (C : Cap) (n : Nat) : Prop :=
  Ok.set C (R.DUG_PEER_STAT_ROLE n) ∧ Ok.set C (R.DUG_PEER_STAT_FLAGS n) ∧ Ok.set C (R.DUG_PEER_SERIAL_HI_SN n) ∧ Ok.set C (R.DUG_PEER_SERIAL_LO_SN n) ∧ Ok.putPeer C ∧ Ok.endDual C

theorem Within.dugHeard {C : Cap} (h : Within C s t) (may : Ok.heard C n) : Within C s (t.dugHeard n f) := by
  obtain ⟨role, flags, hi, lo, peer, dual⟩ := may
  exact .bind (Within.putPeer ((((h.set role).set flags).set hi).set lo) peer) fun shown => .ite shown (shown.endDual dual)

theorem Within.ofHeard {C : Cap} (may : Ok.heard C n) : Within C s (s.dugHeard n f) := .dugHeard (.refl s) may

/-- What a frame's header says leaves the settings. -/
theorem State.heard_group (low : n < 2) : Within Cap.group s (s.dugHeard n f) := .ofHeard ((by decide : ∀ n < 2, Ok.heard Cap.group n) n low)

theorem State.groupTake_of_taken (taken : Taken s n f) (group : s.inGroup = true) (k : State → State) : s.groupTake n f k = k (s.dugHeard n f) := by
  unfold State.groupTake
  rw [State.dugTake_of_taken taken, if_pos ((State.heard_group (State.dugLinks_lt taken.1)).inGroup_eq.trans group)]

theorem State.heard_reins (low : n < 2) : (s.dugHeard n f).dug.reins = s.dug.reins := (Within.ofHeard ((by decide : ∀ n < 2, Ok.heard (Cap.sparing .reins) n) n low)).reins_eq

/-! ## The role (R443) -/

theorem State.lineOff_keeps (s : State) {l c l' c' : Nat} (other : (l', c') ≠ (l, c)) (mem : (l', c') ∈ s.flt.causes) : (l', c') ∈ (s.lineOff l c).flt.causes :=
  List.mem_filter.2 ⟨mem, decide_eq_true other⟩

theorem State.endDual_dual (s : State) : s.endDual.get R.DUG_STATUS_DUAL = 0 := by
  unfold State.endDual
  split
  · have ends : Within (Cap.away R.DUG_STATUS_DUAL) (s.set R.DUG_STATUS_DUAL 0) (((s.set R.DUG_STATUS_DUAL 0).level P.DUG E.DUG_DUAL false).lineOff 27 1) :=
      .lineOff (.level (.refl _) (by decide)) (by decide)
    rw [ends.get_eq, State.get_set_fits _ _ (by decide) (by decide)]
  next off =>
    have one := s.get_lt R.DUG_STATUS_DUAL
    rw [show R.DUG_STATUS_DUAL.w = 1 from rfl, pow_one] at one
    have zero : s.get R.DUG_STATUS_DUAL ≠ 1 := fun e => off (State.flag_of_get e)
    omega

theorem State.endDual_causes (s : State) {l c : Nat} (other : (l, c) ≠ (27, 1)) (mem : (l, c) ∈ s.flt.causes) : (l, c) ∈ s.endDual.flt.causes := by
  unfold State.endDual
  split
  · refine State.lineOff_keeps _ other ?_
    have ends : Within (Cap.sparing .flt) s ((s.set R.DUG_STATUS_DUAL 0).level P.DUG E.DUG_DUAL false) := .level (.set (.refl s) (by decide)) (by decide)
    rw [ends.flt_eq]
    exact mem
  · exact mem

/-- The role with what depends on it at once. -/
def State.roleSet (s : State) (r : Nat) : State :=
  let s := (s.set R.DUG_STATUS_ROLE r).lineSet 27 2 (decide (r = 4))
  let s := if r = 1 then s.set R.DUG_STATUS_HOLDER_AT 0 else s.endDual
  if r ≠ 1 ∧ s.get R.DUG_STATUS_HOLDER_AT = 0 then s.set R.DUG_STATUS_HOLDER_AT 3 else s

/-- The new role is announced. -/
def State.roleTold (s : State) : State :=
  let f := s.takeFree
  let g := f.2.takeFree
  ((g.2.raise P.DUG E.DUG_ROLE).trig islRH 0xA0 [E.DUG_ROLE, f.1, g.1]).showFollow.showReady

theorem State.setRole_eq {r : Nat} (differs : s.role ≠ r) : s.setRole r = (s.roleSet r).roleTold := by
  unfold State.setRole
  rw [if_neg differs]
  rfl

theorem Within.roleTold {C : Cap} (h : Within C s t) (raise : Ok.raise C P.DUG) (follow : Ok.showFollow C) (ready : Ok.showReady C) : Within C s t.roleTold :=
  .showReady (.showFollow (.trig (.raise (.takeFree (.takeFree h)) raise)) follow) ready

theorem State.roleTold_event (s : State) : Event s.roleTold P.DUG E.DUG_ROLE :=
  Within.event (.showReady (.showFollow (.trig (.refl _)) (by decide)) (by decide)) (event_raise _ _ _ (by decide))

theorem State.roleSet_role (s : State) {r : Nat} (fits : r < 8) : (s.roleSet r).role = r := by
  have rest : Within (Cap.away R.DUG_STATUS_ROLE) (s.set R.DUG_STATUS_ROLE r) (s.roleSet r) :=
    .bind (.lineSet (.refl _) (by decide)) fun h => .bind (.ite (h.set (by decide)) (h.endDual (by decide))) fun k => .ite (k.set (by decide)) k
  exact rest.get_eq.trans (State.get_set_fits _ _ (by decide) fits)

theorem State.roleSet_dual (s : State) {r : Nat} (other : r ≠ 1) : (s.roleSet r).get R.DUG_STATUS_DUAL = 0 := by
  unfold State.roleSet
  extract_lets a b
  have zero : b.get R.DUG_STATUS_DUAL = 0 := (congrArg (State.get · R.DUG_STATUS_DUAL) (if_neg other)).trans a.endDual_dual
  exact (Within.ite (.set (.refl b) (by decide)) (.refl b)).get_eq.trans zero

theorem State.roleSet_isolated (s : State) {r : Nat} (isolated : r = 4) : (27, 2) ∈ (s.roleSet r).flt.causes := by
  unfold State.roleSet
  extract_lets a b
  have held : (27, 2) ∈ a.flt.causes := (State.lineSet_causes _ 27 2 _).2 (decide_eq_true isolated)
  have keeps : b = a.endDual := if_neg (by omega)
  have rest : (if r ≠ 1 ∧ b.get R.DUG_STATUS_HOLDER_AT = 0 then b.set R.DUG_STATUS_HOLDER_AT 3 else b).flt = b.flt :=
    Within.flt_eq (.ite (.set (.refl b) (by decide)) (.refl b))
  rw [rest, keeps]
  exact a.endDual_causes (by decide) held

/-- The role changes, and it is announced. -/
theorem State.setRole_role (s : State) {r : Nat} (fits : r < 8) : (s.setRole r).role = r := by
  by_cases same : s.role = r
  · unfold State.setRole
    rw [if_pos same]
    exact same
  · rw [State.setRole_eq same]
    exact (Within.roleTold (C := Cap.away R.DUG_STATUS_ROLE) (.refl _) (by decide) (by decide) (by decide)).get_eq.trans (State.roleSet_role s fits)

theorem State.setRole_event {r : Nat} (differs : s.role ≠ r) : Event (s.setRole r) P.DUG E.DUG_ROLE := by
  rw [State.setRole_eq differs]
  exact State.roleTold_event _

theorem State.setRole_isolated (differs : s.role ≠ 4) : (27, 2) ∈ (s.setRole 4).flt.causes := by
  rw [State.setRole_eq differs, (Within.roleTold (C := Cap.sparing .flt) (.refl _) (by decide) (by decide) (by decide)).flt_eq]
  exact State.roleSet_isolated s rfl

theorem State.setRole_dual {r : Nat} (differs : s.role ≠ r) (other : r ≠ 1) : (s.setRole r).get R.DUG_STATUS_DUAL = 0 := by
  rw [State.setRole_eq differs]
  exact (Within.roleTold (C := Cap.away R.DUG_STATUS_DUAL) (.refl _) (by decide) (by decide) (by decide)).get_eq.trans (State.roleSet_dual s other)

end

end Sys2Proof.Machine
end

section
/-! PROOFS.
Lease is renewed, acknowledged and ends (spec/18, R429 to R434).
-/
namespace Sys2Proof.Machine
open Sys2Proof

section
variable {s : State} {n tick lease : Nat} {e : Int} {f : DugFrame}

/-! ## What a frame's header leaves -/

theorem State.heard_get (low : n < 2) {g : Fld} (away : ∀ n < 2, Ok.heard (Cap.away g) n) : (s.dugHeard n f).get g = s.get g := (Within.ofHeard (away n low)).get_eq

theorem State.heard_role (low : n < 2) : (s.dugHeard n f).role = s.role := State.heard_get low (by decide)

theorem State.heard_leaseEnd (low : n < 2) : (s.dugHeard n f).rdT R.DUG_LEASE_END = s.rdT R.DUG_LEASE_END :=
  (Within.ofHeard ((by decide : ∀ n < 2, Ok.heard (Cap.outside (slotsT R.DUG_LEASE_END)) n) n low)).rdT_eq

theorem State.heard_rhTime (low : n < 2) (tick : Nat) : (s.dugHeard n f).rhTime tick = s.rhTime tick :=
  State.rhTime_congr (Within.ofHeard ((by decide : ∀ n < 2, Ok.heard (Cap.sparing .ax) n) n low)).ax_eq tick

theorem State.outranksOf_congr {t : State} (ready : t.get R.DUG_STATUS_READY = s.get R.DUG_STATUS_READY) (prio : t.get R.DUG_CFG_PRIO = s.get R.DUG_CFG_PRIO) :
    t.outranksOf f = s.outranksOf f := by
  unfold State.outranksOf State.flag State.ownSerial
  rw [ready, prio]

theorem State.heard_outranksOf (low : n < 2) : (s.dugHeard n f).outranksOf f = s.outranksOf f :=
  State.outranksOf_congr (State.heard_get low (by decide)) (State.heard_get low (by decide))

theorem State.heard_guardT (low : n < 2) : (s.dugHeard n f).guardT = s.guardT := by
  unfold State.guardT
  rw [State.heard_get low (by decide)]

/-- The lease that a frame finds is the one before it. -/
theorem State.heard_lease (low : n < 2) : (s.dugHeard n f).leaseEnd = s.leaseEnd := congrArg ofT108 (State.heard_leaseEnd low)

/-! ## RENEW is sent (R429, R430) -/

/-- What a holder notes of the RENEW that it sends. -/
def State.renewing (s : State) (tick : Nat) : DugPart :=
  { s.dug with lease := (s.dug.lease + 1) % 2 ^ 32, leaseOf := s.ownSerial, pendE := cutT (s.rhTime tick + s.leaseLen), renewed := true }

theorem State.renew_reins (s : State) (tick : Nat) : (s.renew tick).dug.reins = (s.renewing tick).reins := by
  have rest : Within (Cap.sparing .reins) { s with dug := s.renewing tick } (s.renew tick) :=
    .bind (.dugSendAll (.set (.refl _) (by decide)) (by decide)) fun h => .ite (h.wrT (by decide)) h
  exact rest.reins_eq

theorem State.renew_sends (s : State) (tick : Nat) : ∀ n ∈ s.dugLinks,
    Sends s (s.renew tick) n 0 (.renew ((s.dug.lease + 1) % 2 ^ 32) (cutT (s.rhTime tick + s.leaseLen))) := by
  unfold State.renew
  extract_lets e q _ a b
  intro n on
  have guard : Within Cap.group s (a.set R.DUG_GUARD_NS a.dugGuard) := .set (.updDug (.refl s) (by decide)) (by decide)
  have last : Within Cap.group b (if b.get R.DUG_CFG_SIZE = 2 then b.wrT R.DUG_LEASE_END (toT108 e) else b) := .ite (.wrT (.refl b) (by decide)) (.refl b)
  exact (((a.set R.DUG_GUARD_NS a.dugGuard).dugSendAll_sends 0 (.renew q e) n (guard.dugLinks_eq ▸ on)).since guard.sent).later last.sent

theorem State.renew_leaseEnd (s : State) (tick : Nat) : (s.renew tick).rdT R.DUG_LEASE_END =
    if s.get R.DUG_CFG_SIZE = 2 then toT108 (cutT (s.rhTime tick + s.leaseLen)) % 2 ^ 108 else s.rdT R.DUG_LEASE_END := by
  unfold State.renew
  extract_lets e q _ a b
  have size : b.get R.DUG_CFG_SIZE = s.get R.DUG_CFG_SIZE := Within.get_eq (.dugSendAll (.set (.updDug (.refl s) (by decide)) (by decide)) (by decide))
  rw [size]
  split
  · exact State.wrT_rdT_same _ _ _
  · exact Within.rdT_eq (.dugSendAll (.set (.updDug (.refl s) (by decide)) (by decide)) (by decide))

theorem exec_renewSend_holds (may : s.role = 1 ∧ s.inGroup = true ∧ s.up islRH = true ∧ s.ax.running = true ∧ s.dug.stopping = false ∧ s.flt.brake = .off) :
    exec (.renewSend tick) s = .next (s.renew tick) := by
  show execRenewSend tick s = _
  unfold execRenewSend
  rw [if_pos (by simpa using may)]

theorem exec_renewSend_silent (stops : s.dug.stopping = true ∨ s.flt.brake ≠ .off) : exec (.renewSend tick) s = .next s := by
  show execRenewSend tick s = _
  unfold execRenewSend
  rw [if_neg fun ⟨_, _, _, _, runs, off⟩ => stops.elim (fun stop => by simp [stop] at runs) (fun on => on off)]

/-! ## RENEW is received (R429, R433, R434) -/

/-- A member keeps the lease of another that still holds. -/
theorem State.takeRenew_holds {now : Int} (holds : s.dug.leaseOf ≠ f.serial ∧ s.dug.renewed ∧ now < s.leaseEnd + s.guardT ∧ s.dug.handT.isNone) : s.takeRenew n f lease e now = s := by
  unfold State.takeRenew
  rw [if_pos holds]

/-- What a member has taken from a RENEW: the lease, its end, and where its holder is. -/
structure Renewed (s t : State) (n lease : Nat) (e : Int) (f : DugFrame) : Prop where
  seq : t.dug.lease = lease
  leaseOf : t.dug.leaseOf = f.serial
  leaseEnd : t.rdT R.DUG_LEASE_END = toT108 e % 2 ^ 108
  holder : t.get R.DUG_STATUS_HOLDER_AT = n + 1
  role : t.role = 2
  ack : Sends s t n 0 (.ack lease e)
  dual : t.get R.DUG_STATUS_DUAL = s.get R.DUG_STATUS_DUAL

theorem State.takeRenew_takes {now : Int} (on : n ∈ s.dugLinks) (standby : s.role = 2) (may : ¬(s.dug.leaseOf ≠ f.serial ∧ s.dug.renewed ∧ now < s.leaseEnd + s.guardT ∧ s.dug.handT.isNone)) :
    Renewed s (s.takeRenew n f lease e now) n lease e f := by
  unfold State.takeRenew
  rw [if_neg may]
  extract_lets done a fresh _ b c d
  have low := State.dugLinks_lt on
  have toC {C : Cap} (may : Ok.set C R.DUG_HANDOVERS_COUNT ∧ Ok.set C R.DUG_CMD_STATUS ∧ (C (.part .dug) = true ∧ C (.part .reins) = true) ∧ Ok.wrT C R.DUG_LEASE_END ∧
      Ok.set C R.DUG_GUARD_NS ∧ Ok.set C R.DUG_STATUS_HOLDER_AT) : Within C s c := by
    obtain ⟨hands, cmd, dug, lease, guard, holder⟩ := may
    exact .bind (.ite (.set (.bump (.refl s) hands) cmd) (.refl s)) fun h => (((h.updDug dug).wrT lease).set guard).set holder
  have roleC : c.role = 2 := (toC (C := Cap.away R.DUG_STATUS_ROLE) (by decide)).get_eq.trans standby
  have same : d = c := if_neg (by omega)
  have toEnd {C : Cap} (may : Ok.showFollow C ∧ Ok.showReady C ∧ Ok.dugSend C) : Within C c ((d.showFollow.showReady).dugSend n 0 (.ack lease e)) :=
    same ▸ .dugSend (.showReady (.showFollow (.refl d) may.1) may.2.1) may.2.2
  have noted : c.dug = b.dug := Within.dug_eq (.set (.set (.wrT (.refl b) (by decide)) (by decide)) (by decide))
  have reins := (toEnd (C := Cap.sparing .reins) (by decide)).reins_eq.trans (congrArg DugPart.reins noted)
  have group : Within Cap.group s (d.showFollow.showReady) := (toC (by decide)).trans (same ▸ .showReady (.showFollow (.refl d) (by decide)) (by decide))
  exact
    { seq := DugPart.eq_of_reins reins DugPart.lease fun _ => rfl
      leaseOf := DugPart.eq_of_reins reins DugPart.leaseOf fun _ => rfl
      leaseEnd := by
        rw [(toEnd (C := Cap.outside (slotsT R.DUG_LEASE_END)) (by decide)).rdT_eq]
        exact (Within.rdT_eq (.set (.set (.refl _) (by decide)) (by decide))).trans (State.wrT_rdT_same _ _ _)
      holder := by
        rw [(toEnd (C := Cap.away R.DUG_STATUS_HOLDER_AT) (by decide)).get_eq]
        exact State.get_set_fits _ _ (by decide) (show n + 1 < 4 by omega)
      role := (toEnd (C := Cap.away R.DUG_STATUS_ROLE) (by decide)).get_eq.trans roleC
      ack := (State.dugSend_sends (group.dugLinks_eq ▸ on)).since group.sent
      dual := (toEnd (C := Cap.away R.DUG_STATUS_DUAL) (by decide)).get_eq.trans (toC (by decide)).get_eq }

/-- The DUAL state as a holder meets another. -/
def State.dualMet (s : State) (n : Nat) : State :=
  if s.flag R.DUG_STATUS_DUAL then s else
    (((s.set R.DUG_STATUS_DUAL 1).bump R.DUG_DUALS_COUNT).level P.DUG E.DUG_DUAL true).lineOn 27 1 |>.dugRec (some E.DUG_DUAL) n

theorem Within.dualMet {C : Cap} {t : State} (h : Within C s t) (may : Ok.set C R.DUG_STATUS_DUAL ∧ Ok.bump C R.DUG_DUALS_COUNT ∧ Ok.level C P.DUG ∧ Ok.lineOn C) :
    Within C s (t.dualMet n) := by
  obtain ⟨dual, duals, level, line⟩ := may
  exact .ite h (((((h.set dual).bump duals).level level).lineOn line).dugRec)

theorem State.dualMet_dual (s : State) (n : Nat) : (s.dualMet n).get R.DUG_STATUS_DUAL = 1 := by
  unfold State.dualMet
  split
  next on => exact of_decide_eq_true on
  · have rest : Within (Cap.away R.DUG_STATUS_DUAL) (s.set R.DUG_STATUS_DUAL 1)
        ((((s.set R.DUG_STATUS_DUAL 1).bump R.DUG_DUALS_COUNT).level P.DUG E.DUG_DUAL true).lineOn 27 1 |>.dugRec (some E.DUG_DUAL) n) :=
      .dugRec (.lineOn (.level (.bump (.refl _) (by decide)) (by decide)) (by decide))
    exact rest.get_eq.trans (State.get_set_fits _ _ (by decide) (by decide))

theorem State.dualMet_outranksOf (s : State) (n : Nat) : (s.dualMet n).outranksOf f = s.outranksOf f :=
  State.outranksOf_congr (Within.get_eq (.dualMet (.refl s) (by decide))) (Within.get_eq (.dualMet (.refl s) (by decide)))

theorem State.meetHolder_stays (stays : s.outranksOf f = true) : s.meetHolder n f = (s.dualMet n, false) := by
  unfold State.meetHolder
  exact if_pos ((s.dualMet_outranksOf n).trans stays)

/-- A holder that has given way. -/
def State.gaveWay (s : State) (n : Nat) : State := (((s.dualMet n).pulse 27).setRole 2).hostStep ((s.dualMet n).rdS (R.DUG_OFFSET n))

theorem State.meetHolder_gives (gives : s.outranksOf f = false) : s.meetHolder n f = (s.gaveWay n, true) := by
  unfold State.meetHolder
  exact if_neg (Bool.eq_false_iff.1 ((s.dualMet_outranksOf n).trans gives))

theorem State.gaveWay_spec (holder : s.role = 1) : (s.gaveWay n).role = 2 ∧ (s.gaveWay n).get R.DUG_STATUS_DUAL = 0 ∧ (s.gaveWay n).dug.reins = s.dug.reins ∧ Within Cap.group s (s.gaveWay n) := by
  have pulsed {C : Cap} (may : Ok.set C R.DUG_STATUS_DUAL ∧ Ok.bump C R.DUG_DUALS_COUNT ∧ Ok.level C P.DUG ∧ Ok.lineOn C ∧ Ok.pulse C) : Within C s ((s.dualMet n).pulse 27) :=
    .pulse (.dualMet (.refl s) ⟨may.1, may.2.1, may.2.2.1, may.2.2.2.1⟩) may.2.2.2.2
  have differs : ((s.dualMet n).pulse 27).role ≠ 2 := by
    rw [show ((s.dualMet n).pulse 27).role = s.role from (pulsed (by decide)).get_eq, holder]
    decide
  have step {C : Cap} (may : Ok.hostStep C) : Within C (((s.dualMet n).pulse 27).setRole 2) (s.gaveWay n) := .hostStep (.refl _) may
  refine ⟨(step (by decide)).get_eq.trans (State.setRole_role _ (by decide)), (step (by decide)).get_eq.trans (State.setRole_dual differs (by decide)), ?_, ?_⟩
  · exact ((Within.setRole (pulsed (by decide)) (by decide)).trans (step (by decide))).reins_eq
  · exact (Within.setRole (pulsed (by decide)) (by decide)).trans (step (by decide))

theorem exec_renewReceive_standby (taken : Taken s n f) (group : s.inGroup = true) (body : f.body = .renew lease e) (standby : s.role ≠ 1) :
    exec (.renewReceive n f tick) s = .next ((s.dugHeard n f).takeRenew n f lease e ((s.dugHeard n f).rhTime tick)) := by
  have low := State.dugLinks_lt taken.1
  show execRenewReceive n f tick s = _
  unfold execRenewReceive
  rw [withUnit_next low, State.groupTake_of_taken taken group, body]
  exact congrArg _ (if_neg (by rwa [State.heard_role low]))

theorem exec_renewReceive_holder (taken : Taken s n f) (group : s.inGroup = true) (body : f.body = .renew lease e) (holder : s.role = 1) {t : State} {lost : Bool}
    (meets : (s.dugHeard n f).meetHolder n f = (t, lost)) : exec (.renewReceive n f tick) s =
      .next (if lost then ({ t with dug := { t.dug with leaseOf := f.serial } }).takeRenew n f lease e ((s.dugHeard n f).rhTime tick) else t) := by
  have low := State.dugLinks_lt taken.1
  show execRenewReceive n f tick s = _
  unfold execRenewReceive
  rw [withUnit_next low, State.groupTake_of_taken taken group, body]
  refine congrArg _ ((if_pos ((State.heard_role low).trans holder)).trans ?_)
  rw [meets]

/-- An acknowledgement that ends the lease later. -/
theorem exec_ackReceive_quorum (taken : Taken s n f) (group : s.inGroup = true) (body : f.body = .ack lease e) (holder : s.role = 1) (goes : s.dug.stopping = false)
    (seq : lease ≤ s.dug.lease) (sent : e ≤ s.dug.pendE) (later : s.leaseEnd < e) : exec (.ackReceive n f) s = .next ((s.dugHeard n f).wrT R.DUG_LEASE_END (toT108 e)) := by
  have low := State.dugLinks_lt taken.1
  have reins : (s.dugHeard n f).dug.reins = s.dug.reins := State.heard_reins low
  show execAckReceive n f s = _
  unfold execAckReceive
  rw [withUnit_next low, State.groupTake_of_taken taken group, body]
  refine congrArg _ (if_pos ⟨(State.heard_role low).trans holder, ?_, ?_, ?_, ?_⟩)
  · rw [DugPart.eq_of_reins reins DugPart.stopping fun _ => rfl, goes]
    rfl
  · rwa [DugPart.eq_of_reins reins DugPart.lease fun _ => rfl]
  · rwa [DugPart.eq_of_reins reins DugPart.pendE fun _ => rfl]
  · rwa [State.heard_lease low]

/-! ## The end of a holder's promises (R431) -/

theorem exec_leaseStop_holder (holder : s.role = 1) (group : s.inGroup = true) (past : s.leaseEnd - s.guardT ≤ s.rhTime tick) : exec (.leaseStop tick) s =
    .next (if s.dug.stopping then s.setRole 2 else if s.get R.DUG_CFG_SIZE = 3 then s.setRole 4 else s) := by
  have ends : s.reinsEnd = some (s.leaseEnd - s.guardT) := by
    unfold State.reinsEnd
    exact (if_neg (by rw [show s.get R.DUG_STATUS_ROLE = 1 from holder]; decide)).trans (if_pos holder)
  show execLeaseStop tick s = _
  unfold execLeaseStop
  rw [ends]
  refine congrArg _ ((if_neg (by omega)).trans ((if_neg (by omega)).trans (if_neg ?_)))
  simp [holder, group]

theorem exec_leaseStop_solo {e : Int} (off : s.role = 0) (ends : s.dug.soloEnd = some e) (past : e ≤ s.rhTime tick) :
    exec (.leaseStop tick) s = .next { s with dug := { s.dug with soloOff := true } } := by
  have reins : s.reinsEnd = some e := by
    unfold State.reinsEnd
    exact (if_pos off).trans ends
  show execLeaseStop tick s = _
  unfold execLeaseStop
  rw [reins]
  exact congrArg _ ((if_neg (by omega)).trans (if_pos off))

end

/-- Settles O43: each RENEW that is taken is a short chain of updates, and what they leave alone is read from their frames; that a member keeps the
lease of another that still holds, and withholds its ACK, is the model's reading (log entry 33). -/
theorem leaseIsRenewedAcknowledgedAndEnds : Obligations.LeaseIsRenewedAcknowledgedAndEnds := by
  unfold Obligations.LeaseIsRenewedAcknowledgedAndEnds
  refine ⟨fun s tick holder group up runs goes off => ?_, fun s tick _ stops => .intro (exec_renewSend_silent stops) rfl, fun s n tick lease e f taken group body => ?_,
    fun s n lease e f taken group body holder goes seq sent later => ?_, fun s tick holder group past => ?_, fun s tick e off ends past => ?_⟩
  · have noted := s.renew_reins tick
    refine .intro (exec_renewSend_holds ⟨holder, group, up, runs, goes, off⟩) ⟨DugPart.eq_of_reins noted DugPart.lease fun _ => rfl,
      DugPart.eq_of_reins noted DugPart.pendE fun _ => rfl, s.renew_sends tick, fun two => ?_, fun other => ?_⟩
    · rw [s.renew_leaseEnd, if_pos two]
    · rw [s.renew_leaseEnd, if_neg other]
  · have low := State.dugLinks_lt taken.1
    have reins : (s.dugHeard n f).dug.reins = s.dug.reins := State.heard_reins low
    have heard : Within Cap.group s (s.dugHeard n f) := State.heard_group low
    have leaseOf := DugPart.eq_of_reins reins DugPart.leaseOf fun _ => rfl
    have renewed := DugPart.eq_of_reins reins DugPart.renewed fun _ => rfl
    have handT := DugPart.eq_of_reins reins DugPart.handT fun _ => rfl
    refine ⟨fun standby may => ?_, fun standby other known early free => ?_, fun holder _ stays => ?_, fun holder _ gives => ?_⟩
    · have takes := State.takeRenew_takes (s := s.dugHeard n f) (lease := lease) (e := e) (f := f) (now := (s.dugHeard n f).rhTime tick) (heard.dugLinks_eq ▸ taken.1)
        ((State.heard_role low).trans standby) fun ⟨other, _, early, _⟩ => by
          rw [State.heard_rhTime low, State.heard_lease low, State.heard_guardT low] at early
          exact may.elim (fun same => other (leaseOf.trans same)) (by omega)
      exact .intro (exec_renewReceive_standby taken group body (by omega)) ⟨takes.seq, takes.leaseOf, takes.leaseEnd, takes.holder, takes.role, takes.ack.since heard.sent⟩
    · refine .intro ((exec_renewReceive_standby taken group body (by omega)).trans (congrArg _ (State.takeRenew_holds ⟨?_, ?_, ?_, ?_⟩)))
        ⟨DugPart.eq_of_reins reins DugPart.lease fun _ => rfl, State.heard_leaseEnd low, (State.heard_role low).trans standby⟩
      · rwa [leaseOf]
      · rwa [renewed]
      · rwa [State.heard_rhTime low, State.heard_lease low, State.heard_guardT low]
      · rw [handT, free]
        rfl
    · refine .intro ((exec_renewReceive_holder taken group body holder (State.meetHolder_stays ((State.heard_outranksOf low).trans stays))).trans rfl)
        ⟨(Within.get_eq (.dualMet (.refl _) (by decide))).trans ((State.heard_role low).trans holder), State.dualMet_dual _ _, ?_⟩
      exact DugPart.eq_of_reins ((Within.reins_eq (.dualMet (.refl _) (by decide))).trans reins) DugPart.lease fun _ => rfl
    · have heldHolder := (State.heard_role (s := s) (f := f) low).trans holder
      obtain ⟨role, dual, kept, gave⟩ := State.gaveWay_spec (n := n) heldHolder
      have takes := State.takeRenew_takes (s := { (s.dugHeard n f).gaveWay n with dug := { ((s.dugHeard n f).gaveWay n).dug with leaseOf := f.serial } }) (lease := lease) (e := e) (f := f)
        (now := (s.dugHeard n f).rhTime tick) (by
          have all : Within Cap.group s { (s.dugHeard n f).gaveWay n with dug := { ((s.dugHeard n f).gaveWay n).dug with leaseOf := f.serial } } := (heard.trans gave).updDug (by decide)
          exact all.dugLinks_eq ▸ taken.1) role fun ⟨other, _⟩ => other rfl
      exact .intro ((exec_renewReceive_holder taken group body holder (State.meetHolder_gives ((State.heard_outranksOf low).trans gives))).trans (congrArg _ (if_pos rfl)))
        ⟨takes.role, takes.dual.trans dual, takes.seq, takes.leaseOf⟩
  · exact .intro (exec_ackReceive_quorum taken group body holder goes seq sent later) (State.wrT_rdT_same _ _ _)
  · have stop := exec_leaseStop_holder holder group past
    refine ⟨fun stops => ?_, fun goes three => ?_, fun goes two => ?_⟩
    · exact .intro (stop.trans (congrArg _ (if_pos stops))) ⟨State.setRole_role _ (by decide), State.setRole_event (by omega)⟩
    · rw [goes, if_neg Bool.false_ne_true, if_pos three] at stop
      exact .intro stop ⟨State.setRole_role _ (by decide), State.setRole_isolated (by omega), State.setRole_event (by omega)⟩
    · rw [goes, if_neg Bool.false_ne_true, if_neg (by omega)] at stop
      exact .intro stop rfl
  · exact .intro (exec_leaseStop_solo off ends past) ⟨rfl, rfl⟩

end Sys2Proof.Machine
end

section
/-! PROOFS.
Reins are claimed and handed over (spec/18, R432, R433, R438, R439).
-/
namespace Sys2Proof.Machine
open Sys2Proof

section
variable {s : State} {n tick : Nat} {f : DugFrame}

/-! ## The claimant becomes HOLDER (R433, R438) -/

/-- What the new holder starts from. -/
def DugPart.taking (x : DugPart) : DugPart := { x with stopping := false, claimed := false, handT := none, soloEnd := none, soloOff := false, due := [] }

/-- The clients' sequence numbers jump, and their next Announce waits. -/
def CltPart.jumped (x : CltPart) (j : Nat) : CltPart :=
  { x with entries := x.entries.map (fun (p : Nat × ClientEntry) =>
      (p.1, { p.2 with annSeq := (p.2.annSeq + j) % 65536, syncSeq := (p.2.syncSeq + j) % 65536, annOk := false })) }

/-- The state in which the new holder sends its first RENEW. -/
def State.reinsTaken (s : State) (tick : Nat) : State :=
  let t := { s with dug := s.dug.taking }.setRole 1
  let t := if s.dug.followed then t.takeSelector (s.rhTime tick) else t
  { t with clt := t.clt.jumped (t.get R.DUG_SYNC_SEQ_JUMP) }

theorem State.becomeHolder_eq (s : State) (tick : Nat) :
    s.becomeHolder tick = ((s.reinsTaken tick).renew tick).wrT R.DUG_LEASE_END (toT108 ((s.reinsTaken tick).renew tick).dug.pendE) := rfl

theorem State.reinsTaken_reins (s : State) (tick : Nat) : (s.reinsTaken tick).dug.reins = s.dug.taking.reins := by
  unfold State.reinsTaken
  have role : Within (Cap.sparing .reins) { s with dug := s.dug.taking } ({ s with dug := s.dug.taking }.setRole 1) := .setRole (.refl _) (by decide)
  exact (Within.updClt (.ite (role.takeSelector (by decide)) role) (by decide)).reins_eq

/-- What the device is once it has become HOLDER. -/
theorem State.becomeHolder_spec (s : State) (tick : Nat) : (s.becomeHolder tick).role = 1 ∧ (s.becomeHolder tick).dug.lease = (s.dug.lease + 1) % 2 ^ 32 ∧
    (s.becomeHolder tick).dug.handT = none ∧ Within (Cap.away R.DUG_TAKEOVERS_COUNT) s (s.becomeHolder tick) := by
  have from_ := s.reinsTaken_reins tick
  have renewed := (s.reinsTaken tick).renew_reins tick
  have kept : ((s.becomeHolder tick).dug).reins = ((s.reinsTaken tick).renewing tick).reins := by
    rw [State.becomeHolder_eq]
    exact (Within.reins_eq (.wrT (.refl _) (by decide))).trans renewed
  refine ⟨?_, ?_, ?_, .becomeHolder (.refl s) (by decide)⟩
  · have rest : Within (Cap.away R.DUG_STATUS_ROLE) ({ s with dug := s.dug.taking }.setRole 1) (s.becomeHolder tick) :=
      .bind (.ite (.takeSelector (.refl _) (by decide)) (.refl _)) fun h => .wrT (.renew (h.updClt (by decide)) (by decide)) (by decide)
    exact rest.get_eq.trans (State.setRole_role _ (by decide))
  · refine (DugPart.eq_of_reins kept DugPart.lease fun _ => rfl).trans ?_
    exact congrArg (fun x => (x + 1) % 2 ^ 32) (DugPart.eq_of_reins from_ DugPart.lease fun _ => rfl)
  · refine (DugPart.eq_of_reins kept DugPart.handT fun _ => rfl).trans ?_
    exact DugPart.eq_of_reins from_ DugPart.handT fun _ => rfl

/-! ## The claim (R432) -/

/-- The claim has begun: the role, and the claim on every link with heartbeat. -/
def State.claiming (s : State) (tick : Nat) : State :=
  let t := { s with dug := { s.dug with claimT := s.rhTime tick, grants := 0, refused := false } }.setRole 3
  let old := if t.dug.renewed then t.leaseEnd else 0
  ((List.range 2).filter (fun n => t.heart n)).foldl (fun (t : State) n => (t.dugSend n 0 (.claim old)).dugRec none n) t

theorem Within.claimingSends {C : Cap} {t : State} {l : List Nat} {old : Int} (h : Within C s t) (may : Ok.dugSend C) :
    Within C s (l.foldl (fun (t : State) n => (t.dugSend n 0 (.claim old)).dugRec none n) t) := .foldl h fun _ _ _ k => .dugRec (k.dugSend may)

theorem exec_claimStart (standby : s.role = 2) (group : s.inGroup = true) (up : s.up islRH = true) (runs : s.ax.running = true) (free : s.dug.handT = none)
    (fresh : s.dug.claimed = false) (due : s.claimFrom ≤ s.rhTime tick) : exec (.claimStart tick) s =
      .next (if (s.claiming tick).get R.DUG_CFG_SIZE = 2 then ((s.claiming tick).bump R.DUG_TAKEOVERS_COUNT).becomeHolder tick else s.claiming tick) := by
  show execClaimStart tick s = _
  unfold execClaimStart
  exact congrArg _ (if_neg (by simp [standby, group, up, runs, free, fresh, due]))

theorem State.claiming_spec (s : State) (tick : Nat) : (s.claiming tick).role = 3 ∧ (s.claiming tick).dug.claimT = s.rhTime tick ∧ (s.claiming tick).dug.lease = s.dug.lease ∧
    (s.claiming tick).get R.DUG_TAKEOVERS_COUNT = s.get R.DUG_TAKEOVERS_COUNT ∧ Within Cap.group s (s.claiming tick) := by
  have noted {C : Cap} (dug : C (.part .dug) = true ∧ C (.part .reins) = true) (may : Ok.setRole C) : Within C s (s.claiming tick) :=
    .claimingSends (.setRole (.updDug (.refl s) dug) may) dug.1
  have kept : Within (Cap.sparing .reins) { s with dug := { s.dug with claimT := s.rhTime tick, grants := 0, refused := false } } (s.claiming tick) :=
    .claimingSends (.setRole (.refl _) (by decide)) (by decide)
  refine ⟨(Within.get_eq (.claimingSends (.refl _) (by decide))).trans (State.setRole_role _ (by decide)), DugPart.eq_of_reins kept.reins_eq DugPart.claimT fun _ => rfl,
    DugPart.eq_of_reins kept.reins_eq DugPart.lease fun _ => rfl, (noted (by decide) (by decide)).get_eq, noted (by decide) (by decide)⟩

/-! ## A claim is answered (R432) -/

/-- The state in which a frame is answered: its header is shown and it has its record. -/
def State.answering (s : State) (n : Nat) (f : DugFrame) : State := (s.dugHeard n f).dugRec none n

theorem Within.answering {C : Cap} (may : Ok.heard C n) : Within C s (s.answering n f) := .dugRec (.ofHeard may)

/-- What the group knows is what it knew before the frame. -/
theorem State.answering_spec (low : n < 2) : (s.answering n f).role = s.role ∧ (s.answering n f).dug.reins = s.dug.reins ∧ (∀ tick, (s.answering n f).rhTime tick = s.rhTime tick) ∧
    (s.answering n f).leaseEnd + (s.answering n f).guardT = s.leaseEnd + s.guardT ∧ (s.answering n f).outranksOf f = s.outranksOf f ∧ Within Cap.group s (s.answering n f) := by
  have keeps {C : Cap} (may : ∀ n < 2, Ok.heard C n) : Within C s (s.answering n f) := .answering (may n low)
  refine ⟨(keeps (by decide)).get_eq, (keeps (by decide)).reins_eq, State.rhTime_congr (keeps (by decide)).ax_eq, ?_,
    State.outranksOf_congr (keeps (by decide)).get_eq (keeps (by decide)).get_eq, keeps (by decide)⟩
  unfold State.leaseEnd State.guardT
  rw [(keeps (by decide)).rdT_eq, (keeps (by decide)).get_eq]

/-- The verdict on a claim. -/
def State.verdict (s : State) (f : DugFrame) (tick : Nat) : Nat :=
  if s.role = 1 ∨ (s.dug.renewed ∧ s.rhTime tick < s.leaseEnd + s.guardT) then 2 else if s.role = 3 ∧ s.outranksOf f then 3 else 1

/-- The answer; a claimant that grants withdraws. -/
def State.answered (s : State) (n : Nat) (f : DugFrame) (v : Nat) : State :=
  (if v = 1 ∧ s.role = 3 then ((s.setRole 2).bump R.DUG_CLAIMS_LOST_COUNT).raise P.DUG E.DUG_CLAIM_LOST else s).dugSend n 0 (.reply f.serial v)

theorem exec_claimReceive {old : Int} (taken : Taken s n f) (group : s.inGroup = true) (body : f.body = .claim old) :
    exec (.claimReceive n f tick) s = .next ((s.answering n f).answered n f ((s.answering n f).verdict f tick)) := by
  show withUnit n 2 (s.groupTake n f fun u => match f.body with
    | .claim _ => (u.dugRec none n).answered n f ((u.dugRec none n).verdict f tick)
    | _ => u) = _
  rw [withUnit_next (State.dugLinks_lt taken.1), State.groupTake_of_taken taken group, body]
  rfl

theorem State.answered_sends (on : n ∈ s.dugLinks) (f : DugFrame) (v : Nat) : Sends s (s.answered n f v) n 0 (.reply f.serial v) := by
  unfold State.answered
  have gave : Within Cap.group s (if v = 1 ∧ s.role = 3 then ((s.setRole 2).bump R.DUG_CLAIMS_LOST_COUNT).raise P.DUG E.DUG_CLAIM_LOST else s) :=
    .ite (.raise (.bump (.setRole (.refl s) (by decide)) (by decide)) (by decide)) (.refl s)
  exact (State.dugSend_sends (gave.dugLinks_eq ▸ on)).since gave.sent

theorem State.answered_role {v : Nat} (keeps : ¬(v = 1 ∧ s.role = 3)) : (s.answered n f v).role = s.role := by
  unfold State.answered
  rw [if_neg keeps]
  exact Within.get_eq (.dugSend (.refl s) (by decide))

theorem State.answered_withdraws (claims : s.role = 3) : (s.answered n f 1).role = 2 ∧ Event (s.answered n f 1) P.DUG E.DUG_CLAIM_LOST := by
  unfold State.answered
  rw [if_pos ⟨rfl, claims⟩]
  exact ⟨(Within.get_eq (.dugSend (.raise (.bump (.refl _) (by decide)) (by decide)) (by decide))).trans (State.setRole_role s (by decide)),
    Within.event (.dugSend (.refl _) (by decide)) (event_raise _ _ _ (by decide))⟩

/-! ## A claim ends (R432, R441) -/

/-- A grant is noted. -/
def State.granted (s : State) (n : Nat) : State := { s with dug := { s.dug with grants := setBit s.dug.grants n true } }.bump R.DUG_TAKEOVERS_COUNT

theorem exec_replyReceive {v : Nat} (taken : Taken s n f) (group : s.inGroup = true) (body : f.body = .reply s.ownSerial v) (claims : s.role = 3)
    (early : s.rhTime tick ≤ s.dug.claimT + msU) : exec (.replyReceive n f tick) s =
      .next (if v = 1 then ((s.answering n f).granted n).becomeHolder tick
        else if v = 2 then { s.answering n f with dug := { (s.answering n f).dug with refused := true } } else s.answering n f) := by
  obtain ⟨role, reins, now, -⟩ := State.answering_spec (s := s) (f := f) (State.dugLinks_lt taken.1)
  show execReplyReceive n f tick s = _
  unfold execReplyReceive
  rw [withUnit_next (State.dugLinks_lt taken.1), State.groupTake_of_taken taken group, body]
  refine congrArg _ (if_neg (t := s.answering n f) ?_)
  rintro (other | other | late)
  · exact other (role.trans claims)
  · exact other rfl
  · have at_ := DugPart.eq_of_reins reins DugPart.claimT fun _ => rfl
    exact absurd (at_ ▸ now tick ▸ early) (Int.not_le.2 late)

/-- The claim has failed. -/
def State.claimFailed (s : State) : State := { s with dug := { s.dug with claimed := true } }

theorem exec_claimTimeout (claims : s.role = 3) (past : s.dug.claimT + msU ≤ s.rhTime tick) : exec (.claimTimeout tick) s =
    .next (s.claimFailed.setRole (if s.dug.refused || !(List.range 2).any (fun n => s.heart n) then 4 else 2)) := by
  show execClaimTimeout tick s = _
  unfold execClaimTimeout
  exact congrArg _ (if_neg (by omega))

theorem State.claimFailed_claimed (s : State) (r : Nat) : (s.claimFailed.setRole r).dug.claimed = true := by
  have kept : Within (Cap.sparing .reins) s.claimFailed (s.claimFailed.setRole r) := .setRole (.refl _) (by decide)
  exact DugPart.eq_of_reins kept.reins_eq DugPart.claimed fun _ => rfl

/-! ## Handover (R439) -/

theorem le_ceilDiv_mul (x : Int) {d : Nat} (pos : 0 < d) : x ≤ ceilDiv x d * d := by
  unfold ceilDiv
  have := Int.ediv_mul_le (-x) (b := (d : Int)) (by omega)
  rw [Int.neg_mul]
  omega

/-- The instant at which the reins change hands. -/
def State.handAt (s : State) (now : Int) : Int := ceilDiv (now + msU + 2 * s.guardT) msU.toNat * msU

theorem State.le_handAt (s : State) (now : Int) : now + msU + 2 * s.guardT ≤ s.handAt now := le_ceilDiv_mul _ (by decide)

/-- The holder is handing over. -/
def State.handing (s : State) (n : Nat) (now : Int) : State := { s with dug := { s.dug with stopping := true, target := (s.peer n).serial, handT := some (s.handAt now) } }

theorem State.startHandover_eq (s : State) (n : Nat) (now : Int) : s.startHandover n now =
    (((s.handing n now).wrT R.DUG_LEASE_END (toT108 (s.handAt now))).dugSendAll 0 (.handover (s.peer n).serial (s.handAt now))).dugRec none n := rfl

theorem State.startHandover_spec (s : State) (n : Nat) (now : Int) : (s.startHandover n now).dug.reins = (s.handing n now).dug.reins ∧
    ∀ j ∈ s.dugLinks, Sends s (s.startHandover n now) j 0 (.handover (s.peer n).serial (s.handAt now)) := by
  rw [State.startHandover_eq]
  refine ⟨Within.reins_eq (.dugRec (.dugSendAll (.wrT (.refl _) (by decide)) (by decide))), fun j on => ?_⟩
  have started : Within Cap.group s ((s.handing n now).wrT R.DUG_LEASE_END (toT108 (s.handAt now))) := .wrT (.updDug (.refl s) (by decide)) (by decide)
  have sends := ((s.handing n now).wrT R.DUG_LEASE_END (toT108 (s.handAt now))).dugSendAll_sends 0 (.handover (s.peer n).serial (s.handAt now)) j (started.dugLinks_eq ▸ on)
  exact (sends.since started.sent).later (Within.sent (C := Cap.group) (.dugRec (.refl _)))

section
variable {m : Master} {dest : Nat} (acc : Accepts s m R.DUG_CMD_STATUS)
include acc

theorem exec_handover_refused (standby : s.role ≠ 1) : exec (.handover m dest tick) s = .next (s.set R.DUG_CMD_STATUS 3) := by
  show execHandover m dest tick s = _
  unfold execHandover
  rw [hostCmd_accepts acc]
  exact congrArg _ (if_pos (.inl standby))

theorem exec_handover_none (holder : s.role = 1) (group : s.inGroup = true) (goes : s.dug.stopping = false) (best : s.bestStandby = none) :
    exec (.handover m 0 tick) s = .next (s.set R.DUG_CMD_STATUS 4) := by
  show execHandover m 0 tick s = _
  unfold execHandover
  rw [hostCmd_accepts acc]
  refine congrArg _ ((if_neg (by simp [holder, group, goes])).trans ?_)
  dsimp only
  rw [if_pos rfl, best]

theorem exec_handover_some (holder : s.role = 1) (group : s.inGroup = true) (goes : s.dug.stopping = false) (best : s.bestStandby = some n) :
    exec (.handover m 0 tick) s = .next ((s.set R.DUG_CMD_STATUS 1).startHandover n (s.rhTime tick)) := by
  show execHandover m 0 tick s = _
  unfold execHandover
  rw [hostCmd_accepts acc]
  refine congrArg _ ((if_neg (by simp [holder, group, goes])).trans ?_)
  dsimp only
  rw [if_pos rfl, best]

end

/-- What a member learns from a handover. -/
def State.toldHandover (s : State) (serial : Nat) (eh : Int) : State :=
  { s with dug := { s.dug with handT := some eh, leaseOf := serial, renewed := true, target := serial } }.wrT R.DUG_LEASE_END (toT108 eh)

theorem State.toldHandover_dug (s : State) (serial : Nat) (eh : Int) {α : Type} (g : DugPart → α) :
    g (s.toldHandover serial eh).dug = g { s.dug with handT := some eh, leaseOf := serial, renewed := true, target := serial } :=
  congrArg g (Within.dug_eq (.wrT (.refl _) (by decide)))

theorem exec_handoverReceive {serial : Nat} {eh : Int} (taken : Taken s n f) (group : s.inGroup = true) (body : f.body = .handover serial eh) (member : s.role ≠ 0) (other : s.role ≠ 1) :
    exec (.handoverReceive n f) s = .next ((s.answering n f).toldHandover serial eh) := by
  have low := State.dugLinks_lt taken.1
  show execHandoverReceive n f s = _
  unfold execHandoverReceive
  rw [withUnit_next low, State.groupTake_of_taken taken group, body]
  refine congrArg _ (if_neg ?_)
  rw [State.heard_role low]
  omega

theorem exec_handoverTake {eh : Int} (hand : s.dug.handT = some eh) (standby : s.role = 2) (group : s.inGroup = true) (goes : s.dug.stopping = false)
    (mine : s.dug.target = s.ownSerial) (past : eh + s.guardT ≤ s.rhTime tick) : exec (.handoverTake tick) s = .next (s.becomeHolder tick) := by
  show execHandoverTake tick s = _
  unfold execHandoverTake
  rw [hand]
  exact congrArg _ (if_neg (by simp [standby, group, goes, mine, past]))

/-- No RENEW has followed: the handover is forgotten. -/
def State.handoverOver (s : State) : State := { s with dug := { s.dug with handT := none, stopping := false } }

theorem exec_handoverTimeout {eh : Int} (hand : s.dug.handT = some eh) (standby : s.role ≠ 1) (past : eh + 5 * msU ≤ s.rhTime tick) : exec (.handoverTimeout tick) s =
    .next (if s.dug.stopping && decide (s.get R.DUG_CMD_STATUS = 1) then s.handoverOver.takeFree.2.set R.DUG_CMD_STATUS (2 + s.handoverOver.takeFree.1 % 3) else s.handoverOver) := by
  show execHandoverTimeout tick s = _
  unfold execHandoverTimeout
  rw [hand]
  exact congrArg _ (if_neg (by omega))

end

/-- Settles O44: a claim, its answers and a handover each are a change of the role with what the member notes, and what else they change is read from their frames; a claimant that stands back
without heartbeat, or that has met VERDICT 2, is ISOLATED with line 27, and E_H falls on whole milliseconds, by the model's reading (log entry 33). -/
theorem reinsAreClaimedAndHandedOver : Obligations.ReinsAreClaimedAndHandedOver := by
  unfold Obligations.ReinsAreClaimedAndHandedOver
  refine ⟨fun s tick standby group up runs free fresh due => ?_, fun s n tick old f taken group body => ?_, fun s n tick v f taken group body claims early => ?_,
    fun s tick claims past => ?_, fun s m dest tick acc => ?_, fun s n serial eh f taken group body member other => ?_, fun s tick eh hand => ?_⟩
  · obtain ⟨role, claimT, lease, count, kept⟩ := s.claiming_spec tick
    have step := exec_claimStart standby group up runs free fresh due
    rw [kept.cfg_eq rfl] at step
    refine ⟨fun two => ?_, fun more => .intro (step.trans (congrArg _ (if_neg more))) ⟨role, claimT⟩⟩
    obtain ⟨holder, next, -, keeps⟩ := ((s.claiming tick).bump R.DUG_TAKEOVERS_COUNT).becomeHolder_spec tick
    refine .intro (step.trans (congrArg _ (if_pos two))) ⟨holder, ?_, next.trans (congrArg (fun x => (x + 1) % 2 ^ 32) lease)⟩
    rw [keeps.get_eq, State.bump_get_same _ _ (by decide), count]
  · obtain ⟨role, reins, now, ends, ranks, kept⟩ := State.answering_spec (s := s) (f := f) (State.dugLinks_lt taken.1)
    have renewed := DugPart.eq_of_reins reins DugPart.renewed fun _ => rfl
    have step := exec_claimReceive (tick := tick) taken group body
    have sends (v : Nat) := (State.answered_sends (s := s.answering n f) (kept.dugLinks_eq ▸ taken.1) f v).since kept.sent
    have verdict : (s.answering n f).verdict f tick = s.verdict f tick := by
      unfold State.verdict
      rw [role, renewed, now, ends, ranks]
    rw [verdict] at step
    unfold State.verdict at step
    refine ⟨fun held => ?_, fun standby past => ?_, fun claims past stays => ?_, fun claims past gives => ?_⟩
    · rw [if_pos held] at step
      exact .intro step ⟨sends 2, (State.answered_role (by simp)).trans role⟩
    · rw [if_neg (by omega), if_neg (by omega)] at step
      exact .intro step ⟨sends 1, ((State.answered_role (by omega)).trans role).trans standby⟩
    · rw [if_neg (by omega), if_pos ⟨claims, stays⟩] at step
      exact .intro step ⟨sends 3, ((State.answered_role (by simp)).trans role).trans claims⟩
    · rw [if_neg (by omega), if_neg (by simp [gives])] at step
      exact .intro step ⟨sends 1, State.answered_withdraws (role.trans claims)⟩
  · have step := exec_replyReceive taken group body claims early
    obtain ⟨role, -, -, -, -, -⟩ := State.answering_spec (s := s) (f := f) (State.dugLinks_lt taken.1)
    refine ⟨fun grants => ?_, fun refuses => ?_⟩
    · obtain ⟨holder, -, -, keeps⟩ := ((s.answering n f).granted n).becomeHolder_spec tick
      refine .intro (step.trans (congrArg _ (if_pos grants))) ⟨holder, ?_⟩
      rw [keeps.get_eq]
      refine (State.bump_get_same _ _ (by decide)).trans (congrArg (fun x => min (x + 1) (2 ^ 36 - 1)) ?_)
      exact (Within.answering ((by decide : ∀ n < 2, Ok.heard (Cap.away R.DUG_TAKEOVERS_COUNT) n) n (State.dugLinks_lt taken.1))).get_eq
    · exact .intro (step.trans (congrArg _ ((if_neg (by omega)).trans (if_pos refuses)))) ⟨role.trans claims, rfl⟩
  · have step := exec_claimTimeout claims past
    have differs (r : Nat) (other : r ≠ 3) : s.claimFailed.role ≠ r := fun is => other (is.symm.trans claims)
    refine ⟨fun alone => ?_, fun fair near => ?_⟩
    · have stands : (s.dug.refused || !(List.range 2).any (fun n => s.heart n)) = true := by
        rcases alone with refused | ⟨none0, none1⟩
        · simp [refused]
        · simp [List.range_succ, none0, none1]
      exact .intro (step.trans (by rw [if_pos stands]))
        ⟨State.setRole_role _ (by decide), State.setRole_isolated (differs 4 (by decide)), s.claimFailed_claimed 4⟩
    · have stands : (s.dug.refused || !(List.range 2).any (fun n => s.heart n)) = false := by
        rcases near with near | near <;> simp [List.range_succ, fair, near]
      exact .intro (step.trans (by rw [stands, if_neg Bool.false_ne_true])) ⟨State.setRole_role _ (by decide), s.claimFailed_claimed 2⟩
  · refine ⟨fun standby => .intro (exec_handover_refused acc standby) ⟨State.get_set_fits _ _ (by decide) (by decide), Within.dug_eq (.set (.refl s) (by decide))⟩, fun holder group goes none_ => ?_,
      fun n holder group goes best => ?_⟩
    · exact .intro (exec_handover_none acc holder group goes none_) ⟨State.get_set_fits _ _ (by decide) (by decide), Within.dug_eq (.set (.refl s) (by decide))⟩
    · obtain ⟨reins, sends⟩ := (s.set R.DUG_CMD_STATUS 1).startHandover_spec n (s.rhTime tick)
      have guard : (s.set R.DUG_CMD_STATUS 1).guardT = s.guardT := by
        unfold State.guardT
        rw [Within.get_eq (.set (.refl s) (by decide))]
      have late := (s.set R.DUG_CMD_STATUS 1).le_handAt (s.rhTime tick)
      rw [guard] at late
      have peer : (s.set R.DUG_CMD_STATUS 1).peer n = s.peer n := State.peer_congr (Within.dug_eq (.set (.refl s) (by decide))) n
      have begun : Within Cap.group s (s.set R.DUG_CMD_STATUS 1) := .set (.refl s) (by decide)
      rw [peer, begun.dugLinks_eq] at sends
      have target := DugPart.eq_of_reins reins DugPart.target fun _ => rfl
      refine .intro (exec_handover_some acc holder group goes best) ⟨?_, DugPart.eq_of_reins reins DugPart.stopping fun _ => rfl,
        target.trans (congrArg PeerState.serial peer), _, DugPart.eq_of_reins reins DugPart.handT fun _ => rfl, late, fun j on => (sends j on).since begun.sent⟩
      exact (Within.get_eq (.startHandover (.refl _) (by decide))).trans (State.get_set_fits _ _ (by decide) (by decide))
  · exact .intro (exec_handoverReceive taken group body member other) ⟨State.toldHandover_dug _ _ _ DugPart.handT, State.toldHandover_dug _ _ _ DugPart.target, State.wrT_rdT_same _ _ _⟩
  · refine ⟨fun standby group goes mine past => ?_, fun standby past => ?_⟩
    · obtain ⟨holder, -, free, -⟩ := s.becomeHolder_spec tick
      exact .intro (exec_handoverTake hand standby group goes mine past) ⟨holder, free⟩
    · refine .intro (exec_handoverTimeout hand standby past) ?_
      split
      · exact ⟨rfl, rfl, Within.get_eq (s := s.handoverOver) (.set (.takeFree (.refl _)) (by decide))⟩
      · exact ⟨rfl, rfl, rfl⟩

end Sys2Proof.Machine
end

section
/-! PROOFS.
Links exchange time and heartbeat (spec/18, R425, R426, R428, R441, R443).
-/
namespace Sys2Proof.Machine
open Sys2Proof

section
variable {s t : State} {n tick : Nat} {f : DugFrame} {b : DugBody}

/-! ## TT frames sent (R425) -/

theorem State.dugSend_txSeq (on : n ∈ s.dugLinks) : ((s.dugSend n 0 b).peer n).txSeq = ((s.peer n).txSeq + 1) % 2 ^ 32 := by
  unfold State.dugSend
  rw [if_neg (by simpa using on)]
  exact congrArg PeerState.txSeq (State.putPeer_peer s n _)

theorem State.dugSend_peer_other {m lane : Nat} (low : n < 2) (low' : m < 2) (other : m ≠ n) : (s.dugSend n lane b).peer m = s.peer m := by
  unfold State.dugSend
  split
  · rfl
  · exact State.putPeer_peer_other s _ low low' other.symm

/-- What a TT frame names: the last one received, or free values. -/
def State.ttNames (t : State) (n : Nat) : Nat × Int × State :=
  match (t.peer n).rx with
  | some (q, r) => (q, r, t)
  | none => (t.takeFree.1 % 2 ^ 32, (t.takeFree.2.takeFree.1 : Int), t.takeFree.2.takeFree.2)

/-- The launch of a TT frame. -/
def State.ttAt (t : State) (n : Nat) : Int := cutT (t.ax.mark + 500 * 1000 * nsU + Config.gridDelay 3 (24 + n) (t.ax.mark + 500 * 1000 * nsU))

/-- The TT frame of one link, launched at `tx`, that names the frame `q` received at `r`. -/
def State.ttOut (t : State) (n : Nat) (x : PeerState) (tx : Int) (q : Nat) (r : Int) : State :=
  let src := if t.selected < 12 then t.candSrc t.selected else 0xFF
  let t := t.putPeer n { x with sent := ({ seq := x.txSeq, t := tx, epoch := t.dug.epoch } :: x.sent).take 32 }
  t.dugSend n 0 (.tt tx q r (t.get R.TEB_BOUND_PS - t.get R.TEB_QUANT_OUT_PS) (t.get R.BOOT_STAGE_STAGE) src)

def State.ttStep (t : State) (n : Nat) : State := (t.ttNames n).2.2.ttOut n (t.peer n) (t.ttAt n) (t.ttNames n).1 (t.ttNames n).2.1

/-- A TT frame has left the link from `s` to `t`, and the other link is as it was. -/
structure TtLeft (s t : State) (n : Nat) : Prop where
  sends : ∃ tx q r teb st src, Sends s t n 0 (.tt tx q r teb st src)
  next : (t.peer n).txSeq = ((s.peer n).txSeq + 1) % 2 ^ 32
  others : ∀ m < 2, m ≠ n → t.peer m = s.peer m
  group : Within Cap.group s t

theorem State.ttNames_free (s : State) (n : Nat) : (s.ttNames n).2.2.dug = s.dug ∧ Within Cap.group s (s.ttNames n).2.2 := by
  unfold State.ttNames
  split
  · exact ⟨rfl, .refl s⟩
  · exact ⟨rfl, .takeFree (.takeFree (.refl s))⟩

theorem State.ttStep_left (on : n ∈ s.dugLinks) : TtLeft s (s.ttStep n) n := by
  obtain ⟨same, free⟩ := s.ttNames_free n
  unfold State.ttStep State.ttOut
  generalize (s.ttNames n).2.2 = u at same free ⊢
  extract_lets src t
  have low := State.dugLinks_lt on
  have put : Within Cap.group s t := free.putPeer (by decide)
  have on' : n ∈ t.dugLinks := put.dugLinks_eq ▸ on
  exact
    { sends := ⟨_, _, _, _, _, _, (State.dugSend_sends on').since put.sent⟩
      next := by
        rw [State.dugSend_txSeq on', State.putPeer_peer]
      others := fun m low' other =>
        (State.dugSend_peer_other low low' other).trans ((State.putPeer_peer_other u _ low low' other.symm).trans (State.peer_congr same m))
      group := put.dugSend (by decide) }

/-- One frame leaves every link of the list. -/
theorem State.ttSteps_left (l : List Nat) (s : State) (once : l.Nodup) (on : ∀ n ∈ l, n ∈ s.dugLinks) :
    (∀ n ∈ l, (∃ tx q r teb st src, Sends s (l.foldl State.ttStep s) n 0 (.tt tx q r teb st src)) ∧ ((l.foldl State.ttStep s).peer n).txSeq = ((s.peer n).txSeq + 1) % 2 ^ 32) ∧
    (∀ m < 2, m ∉ l → (l.foldl State.ttStep s).peer m = s.peer m) ∧ Within Cap.group s (l.foldl State.ttStep s) := by
  induction l generalizing s with
  | nil => exact ⟨fun _ mem => (nomatch mem), fun _ _ _ => rfl, .refl s⟩
  | cons n l ih =>
    have first := State.ttStep_left (on n (List.mem_cons_self ..))
    obtain ⟨fresh, once⟩ := List.nodup_cons.1 once
    obtain ⟨each, others, group⟩ := ih (s.ttStep n) once fun m mem => first.group.dugLinks_eq ▸ on m (List.mem_cons_of_mem _ mem)
    have low : ∀ m ∈ n :: l, m < 2 := fun m mem => State.dugLinks_lt (on m mem)
    refine ⟨fun m mem => ?_, fun m low' out => ?_, first.group.trans group⟩
    · rcases List.mem_cons.1 mem with rfl | mem
      · obtain ⟨tx, q, r, teb, st, src, sends⟩ := first.sends
        refine ⟨⟨tx, q, r, teb, st, src, sends.later group.sent⟩, ?_⟩
        rw [List.foldl_cons, others m (low m (List.mem_cons_self ..)) fresh, first.next]
      · obtain ⟨⟨tx, q, r, teb, st, src, sends⟩, next⟩ := each m mem
        have other : m ≠ n := fun e => fresh (e ▸ mem)
        rw [first.others m (low m (List.mem_cons_of_mem _ mem)) other] at next
        exact ⟨⟨tx, q, r, teb, st, src, sends.since first.group.sent⟩, next⟩
    · rw [List.foldl_cons, others m low' fun mem => out (List.mem_cons_of_mem _ mem)]
      exact first.others m low' fun e => out (e ▸ List.mem_cons_self ..)

theorem exec_ttSend (runs : s.ax.running = true) : exec .ttSend s = .next (s.dugLinks.foldl State.ttStep s) := by
  show execTtSend s = _
  unfold execTtSend
  rw [if_neg (by simp [runs])]
  rfl

/-! ## TT frames received (R426) -/

theorem State.dugHeard_peer : (s.dugHeard n f).peer n = { s.peer n with serial := f.serial, prio := f.prio } := by
  unfold State.dugHeard
  extract_lets a b _ c
  have dug : b.dug = s.dug := Within.dug_eq (.set (.set (.set (.set (.refl s) rfl) rfl) rfl) rfl)
  have shown : c.peer n = { s.peer n with serial := f.serial, prio := f.prio } := by
    rw [← State.peer_congr dug]
    exact State.putPeer_peer b n _
  split
  · exact shown
  · rw [← shown]
    exact State.peer_congr (Within.dug_eq (.endDual (.refl c) (by decide))) n

/-- What the pair of a TT frame is computed from. -/
theorem State.ttPair_congr {t1 t2 t4 : Int} {q : Nat} (sent : (t.peer n).sent = (s.peer n).sent) (applyT : (t.peer n).applyT = (s.peer n).applyT) (epoch : t.dug.epoch = s.dug.epoch)
    (asym : t.get (R.DUG_ASYM_PS n) = s.get (R.DUG_ASYM_PS n)) : t.ttPair n t1 t2 t4 q = s.ttPair n t1 t2 t4 q := by
  unfold State.ttPair State.getS
  dsimp only
  rw [sent, applyT, epoch, asym]

/-- The frame is shown: what its sender says of its error, and when it has come. -/
def State.ttShown (s : State) (n : Nat) (f : DugFrame) (teb : Nat) (t2 : Int) : State :=
  let s := s.set (R.DUG_PEER_TEB_PS n) (min wordMax teb)
  s.putPeer n { s.peer n with rx := some (f.seq, t2) }

/-- An offset with the frame that this one answers is noted. -/
def State.ttNoted (s : State) (n : Nat) (theta d : Int) : State :=
  let s := (s.wrS (R.DUG_OFFSET n) theta).set (R.DUG_DELAY_PS n) (sat36 (psOf d).toNat)
  s.putPeer n { s.peer n with thetas := (theta :: (s.peer n).thetas).take 64 }

/-- An offset goes to the servo and to the candidate of the link. -/
def State.ttUsed (s : State) (n : Nat) (t2 theta : Int) (srcOk : Bool) : State :=
  State.peerSample (if s.flag R.DUG_STATUS_FOLLOW ∧ s.feedLink = some n then s.feedTheta t2 theta else s) n t2 theta srcOk

/-- What becomes of a frame's offset, if it has one. -/
def State.ttOffset (s : State) (n : Nat) (f : DugFrame) (t2 : Int) (pair : Option (Int × Int)) : State :=
  match pair with
  | none => s
  | some (theta, d) => (s.ttNoted n theta d).ttUsed n t2 theta (f.timed && !f.follows)

theorem exec_ttReceive {st : Stamp} {t1 t4 : Int} {q teb sg src : Nat} (taken : Taken s n f) (body : f.body = .tt t1 q t4 teb sg src) :
    exec (.ttReceive n f st) s = .next (State.autoHandover (((s.dugHeard n f).ttShown n f teb (cutT ((s.dugHeard n f).stampOf (56 + 2 * n) st))).ttOffset n f
      (cutT ((s.dugHeard n f).stampOf (56 + 2 * n) st))
      (((s.dugHeard n f).set (R.DUG_PEER_TEB_PS n) (min wordMax teb)).ttPair n t1 (cutT ((s.dugHeard n f).stampOf (56 + 2 * n) st)) t4 q))
      (cutT ((s.dugHeard n f).stampOf (56 + 2 * n) st))) := by
  show execTtReceive n f st s = _
  unfold execTtReceive
  rw [withUnit_next (State.dugLinks_lt taken.1), State.dugTake_of_taken taken, body]
  dsimp only
  generalize State.ttPair _ n t1 _ t4 q = pair
  rcases pair with _ | ⟨theta, d⟩
  · rfl
  · rfl

theorem Within.ttUsed {C : Cap} {n : Nat} {t2 theta : Int} {srcOk : Bool} (h : Within C s t) (feeds : Ok.feedTheta C) (may : Ok.peerSample C) :
    Within C s (t.ttUsed n t2 theta srcOk) := .peerSample (.ite (h.feedTheta feeds) h) may

theorem State.ttUsed_peer (s : State) (n : Nat) (t2 theta : Int) (srcOk : Bool) (m : Nat) : (s.ttUsed n t2 theta srcOk).peer m = s.peer m := by
  unfold State.ttUsed
  rw [State.peer_congr (Within.dug_eq (.peerSample (.refl _) (by decide)))]
  split
  · unfold State.feedTheta
    split
    · rfl
    · rw [State.peer_congr (Within.dug_eq (.sendFeed (.refl _) (by decide)))]
      rfl
  · rfl

theorem State.autoHandover_known (s : State) (low : n < 2) (now : Int) : ((s.autoHandover now).peer n).known = (s.peer n).known := by
  unfold State.autoHandover
  split
  · split
    next m _ =>
      unfold State.startHandover
      extract_lets eh _ a b
      have dug : (b.dugRec none m).peer n = b.peer n := State.peer_congr (Within.dug_eq (.dugRec (.refl b))) n
      rw [dug]
      refine (State.dugSendAll_known _ _ _ low).trans ?_
      exact congrArg PeerState.known (State.peer_congr (Within.dug_eq (.wrT (.refl a) (by decide))) n)
    · rfl
  · rfl

/-- The frame is noted, whether it has an offset or not. -/
theorem State.ttOffset_rx (s : State) (t2 : Int) (pair : Option (Int × Int)) : ((s.ttOffset n f t2 pair).peer n).rx = (s.peer n).rx := by
  unfold State.ttOffset
  split
  · rfl
  · rw [State.ttUsed_peer]
    unfold State.ttNoted
    extract_lets a
    rw [State.putPeer_peer]
    exact (congrArg PeerState.rx (State.peer_congr (t := a) (Within.dug_eq (.set (.wrS (.refl s) ⟨rfl, rfl⟩) rfl)) n) : (a.peer n).rx = _)

theorem State.dugHeard_peerRole (low : n < 2) : (s.dugHeard n f).get (R.DUG_PEER_STAT_ROLE n) = f.role % 8 := by
  have may : ∀ n < 2, Ok.set (Cap.away (R.DUG_PEER_STAT_ROLE n)) (R.DUG_PEER_STAT_FLAGS n) ∧ Ok.set (Cap.away (R.DUG_PEER_STAT_ROLE n)) (R.DUG_PEER_SERIAL_HI_SN n) ∧
    Ok.set (Cap.away (R.DUG_PEER_STAT_ROLE n)) (R.DUG_PEER_SERIAL_LO_SN n) ∧ Ok.putPeer (Cap.away (R.DUG_PEER_STAT_ROLE n)) ∧ Ok.endDual (Cap.away (R.DUG_PEER_STAT_ROLE n)) := by decide
  obtain ⟨flags, hi, lo, peer, dual⟩ := may n low
  have rest : Within (Cap.away (R.DUG_PEER_STAT_ROLE n)) (s.set (R.DUG_PEER_STAT_ROLE n) f.role) (s.dugHeard n f) :=
    .bind (.putPeer (.set (.set (.set (.refl _) flags) hi) lo) peer) fun shown => .ite shown (shown.endDual dual)
  exact rest.get_eq.trans (State.get_set_same _ _ _ (Nat.le_of_ble_eq_true rfl))

/-- What a TT frame leaves: its arrival, the error and the role of its sender, and with an offset that offset. -/
structure TtTaken (s t : State) (n : Nat) (f : DugFrame) (teb : Nat) (t2 : Int) (pair : Option (Int × Int)) : Prop where
  rx : (t.peer n).rx = some (f.seq, t2)
  teb : t.get (R.DUG_PEER_TEB_PS n) = min wordMax teb
  role : t.get (R.DUG_PEER_STAT_ROLE n) = f.role % 8
  offset : ∀ th d, pair = some (th, d) → -(2 ^ 71 : Int) ≤ th → th < 2 ^ 71 → t.rdS (R.DUG_OFFSET n) = th ∧ (t.peer n).thetas.head? = some th

abbrev Ok.ttOffset (C : Cap) (n : Nat) : Prop :=
  Ok.wrS C (R.DUG_OFFSET n) ∧ Ok.set C (R.DUG_DELAY_PS n) ∧ Ok.putPeer C ∧ Ok.feedTheta C ∧ Ok.peerSample C

theorem Within.ttOffset {C : Cap} {t2 : Int} {pair : Option (Int × Int)} (h : Within C s t) (may : Ok.ttOffset C n) : Within C s (t.ttOffset n f t2 pair) := by
  obtain ⟨offset, delay, peer, feeds, samples⟩ := may
  unfold State.ttOffset
  split
  · exact h
  · exact .ttUsed (.putPeer (.set (.wrS h offset) delay) peer) feeds samples

/-- The state after a TT frame. -/
def State.ttReceived (s : State) (n : Nat) (f : DugFrame) (teb : Nat) (t2 : Int) (pair : Option (Int × Int)) : State :=
  (((s.dugHeard n f).ttShown n f teb t2).ttOffset n f t2 pair).autoHandover t2

theorem State.ttReceived_offset (low : n < 2) (teb : Nat) (t2 th d : Int) (l : -(2 ^ 71 : Int) ≤ th) (u : th < 2 ^ 71) :
    (s.ttReceived n f teb t2 (some (th, d))).rdS (R.DUG_OFFSET n) = th := by
  have keeps : ∀ n < 2, Ok.feedTheta (Cap.outside (slotsS (R.DUG_OFFSET n))) ∧ (Ok.peerSample (Cap.outside (slotsS (R.DUG_OFFSET n)))) ∧
    Ok.autoHandover (Cap.outside (slotsS (R.DUG_OFFSET n))) ∧ Ok.set (Cap.outside (slotsS (R.DUG_OFFSET n))) (R.DUG_DELAY_PS n) := by decide
  obtain ⟨feeds, samples, handover, delay⟩ := keeps n low
  have rest : Within (Cap.outside (slotsS (R.DUG_OFFSET n))) (((s.dugHeard n f).ttShown n f teb t2).wrS (R.DUG_OFFSET n) th) (s.ttReceived n f teb t2 (some (th, d))) :=
    .autoHandover (.ttUsed (.putPeer (.set (.refl _) delay) rfl) feeds samples) handover
  exact rest.rdS_eq.trans (State.wrS_rdS_same _ _ _ l u)

theorem State.ttReceived_taken (low : n < 2) (teb : Nat) (t2 : Int) (pair : Option (Int × Int)) : TtTaken s (s.ttReceived n f teb t2 pair) n f teb t2 pair := by
  have known := State.autoHandover_known (((s.dugHeard n f).ttShown n f teb t2).ttOffset n f t2 pair) low t2
  have keepsTeb : ∀ n < 2, Ok.ttOffset (Cap.away (R.DUG_PEER_TEB_PS n)) n ∧ Ok.autoHandover (Cap.away (R.DUG_PEER_TEB_PS n)) := by decide
  have keepsRole : ∀ n < 2, Ok.ttOffset (Cap.away (R.DUG_PEER_STAT_ROLE n)) n ∧ Ok.autoHandover (Cap.away (R.DUG_PEER_STAT_ROLE n)) ∧
    Ok.set (Cap.away (R.DUG_PEER_STAT_ROLE n)) (R.DUG_PEER_TEB_PS n) := by decide
  refine ⟨?_, ?_, ?_, fun th d is l u => ⟨?_, ?_⟩⟩
  · refine (congrArg PeerState.rx known).trans ((State.ttOffset_rx _ t2 pair).trans ?_)
    exact congrArg PeerState.rx (State.putPeer_peer _ n _)
  · have rest : Within (Cap.away (R.DUG_PEER_TEB_PS n)) ((s.dugHeard n f).set (R.DUG_PEER_TEB_PS n) (min wordMax teb)) (s.ttReceived n f teb t2 pair) :=
      .autoHandover (.ttOffset (.putPeer (.refl _) rfl) (keepsTeb n low).1) (keepsTeb n low).2
    exact rest.get_eq.trans (State.get_set_fits _ _ (Nat.le_of_ble_eq_true rfl) (Nat.lt_succ_of_le (Nat.min_le_left _ _)))
  · obtain ⟨offset, handover, error⟩ := keepsRole n low
    have rest : Within (Cap.away (R.DUG_PEER_STAT_ROLE n)) (s.dugHeard n f) (s.ttReceived n f teb t2 pair) := .autoHandover (.ttOffset (.putPeer (.set (.refl _) error) rfl) offset) handover
    exact rest.get_eq.trans (State.dugHeard_peerRole low)
  · exact is ▸ State.ttReceived_offset low teb t2 th d l u
  · subst is
    refine (congrArg (fun x : PeerState => x.thetas.head?) known).trans ?_
    refine (congrArg (fun x : PeerState => x.thetas.head?) (State.ttUsed_peer _ n t2 th _ n)).trans ?_
    exact congrArg (fun x : PeerState => x.thetas.head?) (State.putPeer_peer _ n _)

theorem State.dugHeard_stampOf (low : n < 2) (k : Nat) (st : Stamp) : (s.dugHeard n f).stampOf k st = s.stampOf k st := by
  have keeps {C : Cap} (may : ∀ n < 2, Ok.heard C n) : Within C s (s.dugHeard n f) := .ofHeard (may n low)
  unfold State.stampOf State.ctrOf State.pairOf
  rw [(keeps (by decide)).ax_eq, (keeps (by decide)).tic_eq]

/-- What the pair is computed from is what it was before the frame. -/
theorem State.dugHeard_ttPair (low : n < 2) (teb : Nat) (t1 t2 t4 : Int) (q : Nat) :
    ((s.dugHeard n f).set (R.DUG_PEER_TEB_PS n) teb).ttPair n t1 t2 t4 q = s.ttPair n t1 t2 t4 q := by
  have shown : Within (Cap.sparing .dug) (s.dugHeard n f) ((s.dugHeard n f).set (R.DUG_PEER_TEB_PS n) teb) := .set (.refl _) rfl
  have peer : ((s.dugHeard n f).set (R.DUG_PEER_TEB_PS n) teb).peer n = { s.peer n with serial := f.serial, prio := f.prio } :=
    (State.peer_congr shown.dug_eq n).trans State.dugHeard_peer
  have asym : ∀ n < 2, Ok.heard (Cap.away (R.DUG_ASYM_PS n)) n ∧ Ok.set (Cap.away (R.DUG_ASYM_PS n)) (R.DUG_PEER_TEB_PS n) := by decide
  refine State.ttPair_congr (by rw [peer]) (by rw [peer]) ?_ (Within.get_eq (.set (.ofHeard (asym n low).1) (asym n low).2))
  exact (congrArg DugPart.epoch shown.dug_eq).trans (DugPart.eq_of_reins (State.heard_reins low) DugPart.epoch fun _ => rfl)

theorem exec_ttReceive_taken {st : Stamp} {t1 t4 : Int} {q teb sg src : Nat} (taken : Taken s n f) (body : f.body = .tt t1 q t4 teb sg src) : exec (.ttReceive n f st) s =
    .next (s.ttReceived n f teb (cutT (s.stampOf (56 + 2 * n) st)) (s.ttPair n t1 (cutT (s.stampOf (56 + 2 * n) st)) t4 q)) := by
  have low := State.dugLinks_lt taken.1
  rw [exec_ttReceive taken body, State.dugHeard_stampOf low, State.dugHeard_ttPair low]
  rfl

/-! ## Frames refused (R424) -/

theorem State.dugTake_refused (on : n ∈ s.dugLinks) (bad : f.ok = false ∨ f.group ≠ s.get R.DUG_CFG_GROUP) (k : State → State) : s.dugTake n f k = s.bump (R.DUG_RX_ERR_COUNT n) := by
  unfold State.dugTake
  rw [if_neg (by simpa using on), if_pos (bad.imp (fun wrong => by simp [wrong]) id)]

/-! ## Heartbeat and locks (R428, R441, R443) -/

/-- Heartbeat on a port is lost: the flag, the count and the event. -/
def State.heartLost (s : State) (n : Nat) : State := ((s.set (R.DUG_PEER_STAT_HB_OK n) 0).bump (R.DUG_HB_LOSS_COUNT n)).raise P.DUG E.DUG_HB_LOST

/-- What follows the loss of heartbeat. -/
def State.heartMissed (s : State) (n : Nat) (now : Int) (fed : Bool) : State :=
  let s := ((s.dugRec (some E.DUG_HB_LOST) n).showHeart).showFollow
  if fed ∧ !s.flag R.DUG_STATUS_FOLLOW ∧ !s.hostFeed ∧ (s.srvSt = 1 ∨ s.srvSt = 2 ∨ s.srvSt = 3) then s.enterHoldover now else s

theorem State.loseHeart_eq (alive : s.heart n = true) (now : Int) : s.loseHeart n now = (s.heartLost n).heartMissed n now (s.flag R.DUG_STATUS_FOLLOW) := by
  unfold State.loseHeart
  rw [if_neg (by simp [alive])]
  rfl

abbrev Ok.heartMissed (C : Cap) : Prop := Ok.showHeart C ∧ Ok.showFollow C ∧ Ok.enterHoldover C

theorem Within.heartMissed {C : Cap} {now : Int} {fed : Bool} (h : Within C s t) (may : Ok.heartMissed C) : Within C s (t.heartMissed n now fed) :=
  .bind (.showFollow (.showHeart (.dugRec h) may.1) may.2.1) fun k => .ite (k.enterHoldover may.2.2) k

theorem State.loseHeart_spec (low : n < 2) (alive : s.heart n = true) (now : Int) : (s.loseHeart n now).heart n = false ∧ Event (s.loseHeart n now) P.DUG E.DUG_HB_LOST ∧
    (s.loseHeart n now).get (R.DUG_HB_LOSS_COUNT n) = min (s.get (R.DUG_HB_LOSS_COUNT n) + 1) (2 ^ (R.DUG_HB_LOSS_COUNT n).w - 1) := by
  have may : ∀ n < 2, (Ok.bump (Cap.away (R.DUG_PEER_STAT_HB_OK n)) (R.DUG_HB_LOSS_COUNT n) ∧ Ok.raise (Cap.away (R.DUG_PEER_STAT_HB_OK n)) P.DUG ∧
      Ok.heartMissed (Cap.away (R.DUG_PEER_STAT_HB_OK n))) ∧ Ok.set (Cap.away (R.DUG_HB_LOSS_COUNT n)) (R.DUG_PEER_STAT_HB_OK n) ∧
      Ok.raise (Cap.away (R.DUG_HB_LOSS_COUNT n)) P.DUG ∧ Ok.heartMissed (Cap.away (R.DUG_HB_LOSS_COUNT n)) := by decide
  obtain ⟨⟨count, raise, missed⟩, flag, raise', missed'⟩ := may n low
  rw [State.loseHeart_eq alive]
  refine ⟨?_, Within.event (.heartMissed (.refl _) (by decide)) (event_raise _ _ _ (by decide)), ?_⟩
  · refine (Within.flag_eq (.heartMissed (.raise (.bump (.refl _) count) raise) missed)).trans (State.flag_of_get_zero ?_)
    exact State.get_set_fits _ _ (Nat.le_of_ble_eq_true rfl) (Nat.le_of_ble_eq_true rfl)
  · refine (Within.get_eq (.heartMissed (.raise (.refl _) raise') missed')).trans ?_
    rw [State.bump_get_same _ _ (Nat.le_of_ble_eq_true rfl), Within.get_eq (.set (.refl s) flag)]

theorem State.loseHeart_heart (low : n < 2) (s : State) (now : Int) : (s.loseHeart n now).heart n = false := by
  by_cases alive : s.heart n = true
  · exact (State.loseHeart_spec low alive now).1
  · unfold State.loseHeart
    rw [if_pos (by simpa using alive)]
    exact Bool.eq_false_iff.2 alive

section
variable (low : n < 2) (up : s.up islRH = true)
include low up

theorem exec_hbLost : exec (.hbLost n tick) s = .next (s.loseHeart n (s.rhTime tick)) := by
  show execHbLost n tick s = _
  unfold execHbLost
  rw [withUnit_next low, State.inRh_up up]

theorem exec_heartbeatReturn (on : n ∈ s.dugLinks) (dead : s.heart n = false) (locked : s.get (R.DUG_PEER_STAT_LANE0_UP n) = 1) : exec (.heartbeatReturn n tick) s =
    .next ((((s.set (R.DUG_PEER_STAT_HB_OK n) 1).showHeart).showFollow).autoHandover (s.rhTime tick)) := by
  show execHeartbeatReturn n tick s = _
  unfold execHeartbeatReturn
  rw [withUnit_next low, State.inRh_up up, if_neg (by simp [on, dead, State.flag_of_get locked])]

theorem exec_dugLinkDownTimer (on : n ∈ s.dugLinks) (down : s.get (R.DUG_PEER_STAT_LANE0_UP n) = 0) : exec (.dugLinkDownTimer n) s = .next (s.lineOn 27 (3 + n)) := by
  show execDugLinkDownTimer n s = _
  unfold execDugLinkDownTimer
  rw [withUnit_next low, State.inRh_up up, if_pos (by simp [on, State.flag_of_get_zero down])]

/-- A lane's lock is shown. -/
def State.lockShown (s : State) (n : Nat) (locked : Bool) : State := (s.setFlag (R.DUG_PEER_STAT_LANE0_UP n) locked).raise P.DUG E.DUG_LINK

theorem exec_laneLockChange {locked : Bool} (on : n ∈ s.dugLinks) (changes : s.flag (R.DUG_PEER_STAT_LANE0_UP n) = !locked) : exec (.laneLockChange n 0 locked tick) s =
    .next (if locked then (s.lockShown n locked).lineOff 27 (3 + n) else (s.lockShown n locked).loseHeart n ((s.lockShown n locked).rhTime tick)) := by
  show execLaneLockChange n 0 locked tick s = _
  unfold execLaneLockChange
  rw [withUnit_next low, State.inRh_up up]
  refine congrArg _ ((if_neg ?_).trans (if_neg (by decide)))
  rintro (off | high | same)
  · simp [on] at off
  · omega
  · rw [if_pos rfl, changes] at same
    cases locked with
    | false => cases same
    | true => cases same

end

end

/-- Settles O42: a TT frame on each link by induction on the links in use; what a received one shows, and what heartbeat and locks do, from the frames of what follows. -/
theorem linksExchangeTimeAndHeartbeat : Obligations.LinksExchangeTimeAndHeartbeat := by
  unfold Obligations.LinksExchangeTimeAndHeartbeat
  refine ⟨fun s runs => ?_, fun s n f st t1 t4 q teb sg src taken body => ?_, fun s n tick f st on bad => ?_, fun s n tick low up => ⟨fun alive => ?_, fun on dead locked => ?_,
    fun on down => ?_, fun on down => ?_, fun on locked => ?_⟩⟩
  · exact .intro (exec_ttSend runs) (State.ttSteps_left s.dugLinks s s.dugLinks_nodup fun _ on => on).1
  · have told := State.ttReceived_taken (s := s) (f := f) (State.dugLinks_lt taken.1) teb (cutT (s.stampOf (56 + 2 * n) st)) (s.ttPair n t1 (cutT (s.stampOf (56 + 2 * n) st)) t4 q)
    exact .intro (exec_ttReceive_taken taken body) ⟨told.rx, told.teb, told.role, told.offset⟩
  · have low := State.dugLinks_lt on
    refine ⟨.intro ((withUnit_next low).trans ?_) rfl, .intro ((withUnit_next low).trans ?_) rfl⟩
    · exact congrArg _ (State.dugTake_refused on bad _)
    · exact congrArg _ (State.dugTake_refused on bad _)
  · exact .intro (exec_hbLost low up) (State.loseHeart_spec low alive _)
  · have may : ∀ n < 2, Ok.showHeart (Cap.away (R.DUG_PEER_STAT_HB_OK n)) ∧ Ok.showFollow (Cap.away (R.DUG_PEER_STAT_HB_OK n)) ∧ Ok.autoHandover (Cap.away (R.DUG_PEER_STAT_HB_OK n)) := by
      decide
    obtain ⟨shows, follows, hands⟩ := may n low
    refine .intro (exec_heartbeatReturn low up on dead locked) ((Within.flag_eq (.autoHandover (.showFollow (.showHeart (.refl _) shows) follows) hands)).trans (State.flag_of_get ?_))
    exact State.get_set_fits _ _ (Nat.le_of_ble_eq_true rfl) (Nat.le_of_ble_eq_true rfl)
  · exact .intro (exec_dugLinkDownTimer low up on down) (State.lineOn_causes _ _ _)
  · have may : ∀ n < 2, Ok.raise (Cap.away (R.DUG_PEER_STAT_LANE0_UP n)) P.DUG ∧ Ok.lineOff (Cap.away (R.DUG_PEER_STAT_LANE0_UP n)) := by decide
    refine .intro (exec_laneLockChange low up on (State.flag_of_get_zero down)) ⟨?_, State.lineOff_causes _ _ _, Within.event (.lineOff (.refl _) (by decide)) (event_raise _ _ _ (by decide))⟩
    exact (Within.get_eq (.lineOff (.raise (.refl _) (may n low).1) (may n low).2)).trans (State.get_set_fits _ _ (Nat.le_of_ble_eq_true rfl) (Nat.le_of_ble_eq_true rfl))
  · have may : ∀ n < 2, Ok.raise (Cap.away (R.DUG_PEER_STAT_LANE0_UP n)) P.DUG ∧ Ok.loseHeart (Cap.away (R.DUG_PEER_STAT_LANE0_UP n)) n ∧ Ok.loseHeart (Cap.raising P.DUG) n := by decide
    obtain ⟨raise, lost, events⟩ := may n low
    refine .intro (exec_laneLockChange low up on (State.flag_of_get locked)) ⟨?_, State.loseHeart_heart low _ _, Within.event (.loseHeart (.refl _) events) (event_raise _ _ _ (by decide))⟩
    exact (Within.get_eq (.loseHeart (.raise (.refl _) raise) lost)).trans (State.get_set_fits _ _ (Nat.le_of_ble_eq_true rfl) (Nat.le_of_ble_eq_true rfl))

end Sys2Proof.Machine
end

section
/-! PROOFS.
Recorder queues and records (spec/20, R463 to R467, R469, R472, R473).
-/
namespace Sys2Proof.Machine
open Sys2Proof

section
variable {s : State} {i us : Nat} {tr : Trigger} {rest : List Trigger}

/-! ## A trigger reaches MGT (R463, R465, R467) -/

/-- The trigger as it arrives: one without an instant takes the generation in force. -/
def State.arriving (s : State) (tr : Trigger) : Trigger := if tr.noTime then { tr with gen := s.get R.GEN_IN_FORCE_GEN } else tr

theorem State.arriving_spec (s : State) (tr : Trigger) : (s.arriving tr).code = tr.code ∧ (s.arriving tr).inst = tr.inst ∧ (s.arriving tr).args = tr.args := by
  unfold State.arriving
  split
  · exact ⟨rfl, rfl, rfl⟩
  · exact ⟨rfl, rfl, rfl⟩

/-- The trigger is no longer on its way. -/
def State.landed (s : State) (rest : List Trigger) : State := { s with erec := { s.erec with transit := rest } }

theorem exec_recTrigger (low : i < 16) (opened : i = islMGT ∨ s.linkOpen i islMGT 2 = true) (first : s.erec.transit = tr :: rest) (own : tr.island = i) :
    exec (.recTrigger i us) s = .next ((s.landed rest).arrive tr us) := by
  show execRecTrigger i us s = _
  unfold execRecTrigger
  rw [withUnit_next low, if_neg (by rintro ⟨other, shut⟩; exact opened.elim other fun is => by simp [is] at shut), first]
  unfold takeFirst
  rw [if_pos own]
  rfl

/-- The state with the codes' tokens replaced. -/
def State.withTokens (s : State) (x : List (Nat × (Nat × Nat))) : State := { s with erec := { s.erec with tokens := x } }

/-- A trigger of a code that has a token, or needs none, goes on to the queue; only the code's tokens may change. -/
theorem State.arrive_admitted (room : (s.codeCfg tr.code).fill = 0 ∨ 1000000 ≤ s.bucketAt tr.code us) : ∃ x, s.arrive tr us = (s.withTokens x).enqueue (s.arriving tr) := by
  have code := (s.arriving_spec tr).1
  unfold State.arrive
  rw [show (if tr.noTime then { tr with gen := s.get R.GEN_IN_FORCE_GEN } else tr) = s.arriving tr from rfl]
  dsimp only
  rw [code]
  split
  · exact ⟨s.erec.tokens, rfl⟩
  next fill =>
    rw [if_neg (Nat.not_lt.2 (room.resolve_left fill))]
    exact ⟨_, rfl⟩

theorem State.arrive_suppressed (fill : (s.codeCfg tr.code).fill ≠ 0) (empty : s.bucketAt tr.code us < 1000000) : s.arrive tr us = s.suppress tr.code us (s.bucketAt tr.code us) := by
  have code := (s.arriving_spec tr).1
  unfold State.arrive
  rw [show (if tr.noTime then { tr with gen := s.get R.GEN_IN_FORCE_GEN } else tr) = s.arriving tr from rfl]
  dsimp only
  rw [code, if_neg fill, if_pos empty]

theorem State.enqueue_room (room : s.erec.queue.length < 256) : s.enqueue tr = { s with erec := { s.erec with queue := s.erec.queue ++ [tr] } } := if_pos room

/-- A trigger that finds the queue full is lost and counted. -/
theorem State.enqueue_lost (full : 256 ≤ s.erec.queue.length) : (s.enqueue tr).erec.queue = s.erec.queue ∧ (s.enqueue tr).erec.qGap = true ∧
    (s.enqueue tr).get R.REC_Q_LOST_COUNT = min (s.get R.REC_Q_LOST_COUNT + 1) (2 ^ 36 - 1) ∧ Event (s.enqueue tr) P.REC E.REC_Q_LOST := by
  unfold State.enqueue
  rw [if_neg (by omega)]
  refine ⟨?_, ?_, ?_, event_raise _ _ _ (by decide)⟩
  · rw [State.raise_erec, State.bump_erec]
  · rw [State.raise_erec, State.bump_erec]
  · rw [Within.get_eq (.raise (.refl _) (by decide)), State.bump_get_same _ _ (by decide)]
    rfl

theorem State.suppress_spec (s : State) (code us n : Nat) : (s.suppress code us n).erec.transit = s.erec.transit ∧ (s.suppress code us n).erec.queue = s.erec.queue ∧
    (s.suppress code us n).get R.REC_SUPPRESSED_COUNT = min (s.get R.REC_SUPPRESSED_COUNT + 1) (2 ^ 36 - 1) ∧
    kvGetD (s.suppress code us n).erec.supp code 0 = kvGetD s.erec.supp code 0 + 1 := by
  unfold State.suppress
  extract_lets k _ a b
  have erec : (if code = 0x48 then { b with teb := { b.teb with force := true } } else b).erec = a.erec := by
    have same : b.erec = a.erec := by rw [State.raiseIf_erec, State.bump_erec]
    split
    · exact same
    · exact same
  have keeps : Within (Cap.away R.REC_SUPPRESSED_COUNT) (a.bump R.REC_SUPPRESSED_COUNT) (if code = 0x48 then { b with teb := { b.teb with force := true } } else b) :=
    .bind (.raiseIf (.refl _) (by decide)) fun h => .ite (h.updTeb (by decide)) h
  rw [erec, keeps.get_eq, State.bump_get_same _ _ (by decide)]
  exact ⟨rfl, rfl, rfl, kvGetD_kvPut_same _ _ _ _⟩

/-! ## A trigger becomes a record (R463, R464) -/

theorem State.snaps_words (s : State) (l : List Nat) : ((l.map s.snapEntry).flatMap (fun e => e.2)).length = 2 * l.length := by
  induction l with
  | nil => rfl
  | cons a l ih =>
    rw [List.map_cons, List.flatMap_cons, List.length_append, ih, show (s.snapEntry a).2.length = 2 from rfl, List.length_cons]
    omega

/-- The CRC word of a record covers its first 61 words. -/
theorem recCrc_append {l : List Word} (long : l.length = 61) (x : Word) : recCrc (l ++ [x]) = recCrc l := by
  unfold recCrc
  rw [List.getD_append _ _ _ _ (by omega), List.drop_append_of_le_length (by omega), List.take_append_of_le_length (by rw [List.length_drop]; omega)]

/-- The second word of a record holds the code above 28 bits. -/
theorem second_word_code {code snaps noTime gap dead supp : Nat} (low : code < 256) (few : snaps ≤ 24) (one : noTime ≤ 2 ^ 22) (two : gap ≤ 2 ^ 21) (three : dead ≤ 2 ^ 20) (cut : supp ≤ 4095) :
    (BitVec.ofNat 36 (code * 2 ^ 28 + snaps * 2 ^ 23 + noTime + gap + dead + supp)).toNat / 2 ^ 28 = code := by
  rw [BitVec.toNat_ofNat, Nat.mod_eq_of_lt (by omega)]
  omega

theorem ite_le {c : Prop} [Decidable c] (n : Nat) : (if c then n else 0) ≤ n := by
  split
  · exact Nat.le_refl n
  · exact Nat.zero_le n

theorem State.recordOf_spec (s : State) {t : Trigger} {seq : Nat} (low : t.code < 256) (fits : seq < 2 ^ 36) : (s.recordOf t seq).length = 62 ∧ ((s.recordOf t seq).getD 0 0).toNat = seq ∧
    ((s.recordOf t seq).getD 1 0).toNat / 2 ^ 28 = t.code ∧ (s.recordOf t seq).getD 61 0 = recCrc (s.recordOf t seq) := by
  unfold State.recordOf
  extract_lets snaps supp w1 args body full
  have few : snaps.length ≤ 24 := by
    rw [List.length_map, List.length_take]
    exact Nat.min_le_left _ _
  have words : (snaps.flatMap (fun e => e.2)).length = 2 * snaps.length := (State.snaps_words s _).trans (by rw [List.length_map])
  have bodyLen : body.length = 13 + 2 * snaps.length := by
    rw [List.length_append, words]
    rfl
  have fullLen : full.length = 61 := by
    rw [List.length_append, List.length_replicate, bodyLen]
    omega
  refine ⟨?_, ?_, ?_, ?_⟩
  · rw [List.length_append, fullLen]
    rfl
  · rw [List.getD_append _ _ _ _ (by omega), List.getD_append _ _ _ _ (by omega), show body.getD 0 0 = BitVec.ofNat 36 seq from rfl, BitVec.toNat_ofNat, Nat.mod_eq_of_lt fits]
  · rw [List.getD_append _ _ _ _ (by omega), List.getD_append _ _ _ _ (by omega)]
    exact second_word_code low few (ite_le _) (ite_le _) (ite_le _) (Nat.min_le_left _ _)
  · rw [recCrc_append fullLen, List.getD_append_right _ _ _ _ (by omega), fullLen]
    rfl

theorem nextSeq_lt (n : Nat) : nextSeq n < 2 ^ 35 := by
  unfold nextSeq
  split
  · assumption
  · decide

theorem State.seqNext_lt (s : State) : s.seqNext < 2 ^ 35 := nextSeq_lt _

theorem State.putHead_erec (s : State) (n : Nat) : (s.putHead n).erec = s.erec := by
  unfold State.putHead State.showPending
  extract_lets n d on
  split
  · rfl
  · rw [State.level_erec]
    rfl

theorem State.overwrite_ring (s : State) (k : Nat) : (s.overwrite k).erec.ring = s.erec.ring := by
  unfold State.overwrite
  split
  · rfl
  · dsimp only
    split
    · rw [State.raise_erec, State.bump_erec]
    · rfl

/-- The state as the record enters the ring. -/
def State.ringed (s : State) (t : Trigger) (rest : List Trigger) : State :=
  let u := s.overwrite (s.seqNext % 2048)
  { u with erec := { u.erec with queue := rest, qGap := false, ring := kvPut u.erec.ring (s.seqNext % 2048) (s.recordOf t s.seqNext), waiting := u.erec.waiting ++ [s.seqNext],
                                 supp := kvDel u.erec.supp t.code } }

theorem State.record_eq (s : State) (t : Trigger) (rest : List Trigger) : s.record t rest = ((s.ringed t rest).putHead s.seqNext).showOldest := rfl

theorem State.record_erec (s : State) (t : Trigger) (rest : List Trigger) : (s.record t rest).erec = (s.ringed t rest).erec := by
  rw [State.record_eq]
  exact State.putHead_erec _ _

theorem State.record_head (s : State) (t : Trigger) (rest : List Trigger) : (s.record t rest).get R.REC_HEAD_SEQ = s.seqNext := by
  have rest_ : Within (Cap.away R.REC_HEAD_SEQ) ((s.ringed t rest).set R.REC_HEAD_SEQ s.seqNext) (s.record t rest) := .showOldest (.showPending (.refl _) (by decide)) (by decide)
  exact rest_.get_eq.trans (State.get_set_fits _ _ (by decide) s.seqNext_lt)

theorem exec_recRecordWrite (up : s.up islMGT = true) (first : s.erec.queue = tr :: rest) : exec .recRecordWrite s = .next (s.record tr rest) := by
  show execRecRecordWrite s = _
  unfold execRecRecordWrite
  rw [first]
  exact congrArg _ (if_pos up)

/-! ## The host's mark and a code's configuration (R466, R473) -/

/-- Where the REC page is not dead, MGT is out of reset. -/
theorem up_of_recAlive (alive : s.pageDead P.REC = false) : s.up islMGT = true := by
  have pages : pageIslands P.REC = [islMGT] := by decide
  unfold State.pageDead at alive
  rw [pages, List.all_cons, List.all_nil, Bool.and_true] at alive
  unfold State.islandDead at alive
  simp only [Bool.or_eq_false_iff, Bool.not_eq_false'] at alive
  exact alive.1.1

theorem State.trig_transit_append (up : s.up islMGT = true) (island code : Nat) (args : List Nat) : ∃ tr : Trigger, (s.trig island code args).erec.transit = s.erec.transit ++ [tr] ∧
    (tr.island, tr.code, tr.args) = (island, code, args) := by
  unfold State.trig State.trigAt
  dsimp only
  rw [if_pos up]
  exact ⟨_, rfl, rfl⟩

section
variable {m : Master} {v : Word}

theorem exec_hostMark (opened : Open s m R.REC_HOST_MARK) : exec (.hostMark m v) s = .next (s.trig islMGT 0x03 [v.toNat, masterCode m]) := by
  show execHostMark m v s = _
  unfold execHostMark
  rw [hostWrite_open opened]

theorem exec_codeSelWrite (opened : Open s m R.REC_CODE_SEL) : exec (.codeSelWrite m v) s =
    .next ((s.set R.REC_CODE_SEL_CODE (R.REC_CODE_SEL_CODE.of v)).stageSnaps (s.codeCfg (R.REC_CODE_SEL_CODE.of v)).snap) := by
  show execCodeSelWrite m v s = _
  unfold execCodeSelWrite
  rw [hostWrite_open opened]

/-- What a write of REC.CODE_CFG commits. -/
def State.newCfg (s : State) (v : Word) : CodeCfg :=
  { fill := R.REC_CODE_CFG_FILL.of v, depth := R.REC_CODE_CFG_DEPTH.of v, snap := (List.range (min 24 (R.REC_CODE_CFG_NSNAP.of v))).map (fun k => s.get (R.REC_SNAP_SLOT k)) }

theorem exec_codeCfgWrite (opened : Open s m R.REC_CODE_CFG) : exec (.codeCfgWrite m v) s =
    .next { s with erec := { s.erec with cfg := kvPut s.erec.cfg (s.get R.REC_CODE_SEL_CODE) (s.newCfg v) } } := by
  show execCodeCfgWrite m v s = _
  unfold execCodeCfgWrite
  rw [hostWrite_open opened]
  rfl

theorem exec_fetch (acc : Accepts s m R.REC_FETCH_CMD_STATUS) : exec (.fetch m) s =
    .next ({ s with erec := { s.erec with fetching := some (s.get R.REC_FETCH_SEQ_SEQ) } }.set R.REC_FETCH_CMD_STATUS 1) := by
  show execFetch m s = _
  unfold execFetch
  rw [hostCmd_accepts acc]

end

theorem State.stageSnaps_erec (s : State) (l : List Nat) : (s.stageSnaps l).erec = s.erec :=
  List.foldlRecOn (motive := fun u : State => u.erec = s.erec) _ _ rfl fun _ is _ _ => is

theorem State.stageSnaps_get (s : State) (l : List Nat) {k : Nat} (low : k < 24) : (s.stageSnaps l).get (R.REC_SNAP_SLOT k) = l.getD k 0 % 2 ^ 23 := by
  have apart : ∀ k < 24, ∀ j < 24, j ≠ k → Ok.set (Cap.away (R.REC_SNAP_SLOT k)) (R.REC_SNAP_SLOT j) := by decide
  obtain ⟨t, -, is⟩ := foldl_range_at (fun (t : State) k => t.set (R.REC_SNAP_SLOT k) (l.getD k 0)) (fun t => t.get (R.REC_SNAP_SLOT k)) low
    (fun t j low' other => Within.get_eq (.set (.refl t) (apart k low j low' other))) s
  exact is.trans (State.get_set_same _ _ _ (Nat.le_of_ble_eq_true rfl))

/-! ## The journal (R469) -/

theorem State.putRing_erec (s : State) (a : NvArea) (r : NvRing) : (s.putRing a r).erec = s.erec := by
  cases a with
  | _ => rfl

theorem State.showWear_erec (s : State) : s.showWear.erec = s.erec := by
  unfold State.showWear
  extract_lets top t on
  rw [State.level_erec, State.setFlag_erec, State.set_erec, State.set_erec]

theorem State.wearErase_erec (s : State) (k : Nat) : (s.wearErase k).erec = s.erec := (State.showWear_erec _).trans rfl

theorem State.eraseAreaSector_erec (s : State) (a : NvArea) (k : Nat) : (s.eraseAreaSector a k).erec = s.erec :=
  (State.wearErase_erec _ _).trans (State.putRing_erec _ _ _)

theorem State.roomFor_erec (s : State) (a : NvArea) (n : Nat) : (s.roomFor a n).erec = s.erec := by
  unfold State.roomFor
  extract_lets r k k' t
  split
  · rfl
  · rw [State.putRing_erec]
    show (if _ then _ else _ : State).erec = _
    split
    · exact State.eraseAreaSector_erec _ _ _
    · rfl

theorem State.putRec_erec (s : State) (a : NvArea) (type : Nat) (payload : List Word) (st : RecState) (time : Nat) : (s.putRec a type payload st time).erec = s.erec :=
  (State.putRing_erec _ _ _).trans (State.roomFor_erec s a _)

theorem State.writeFail_erec (s : State) (a : NvArea) (type : Nat) (payload : List Word) (time : Nat) : (s.writeFail a type payload time).erec = s.erec := by
  unfold State.writeFail
  rw [State.pulse_erec, State.raise_erec, State.bump_erec]
  exact State.putRec_erec _ _ _ _ _ _

/-- A write of the nonvolatile memory leaves the recorder. -/
theorem State.nvWrite_erec (s : State) (a : NvArea) (type : Nat) (payload : List Word) (ok : Bool) (time : Nat) : (s.nvWrite a type payload ok time).1.erec = s.erec := by
  have before : (match s.injWaits 5 with
      | some i => (if i.quiet then s else s.writeFail a type payload time).injFlag
      | none => s).erec = s.erec := by
    split
    · show (if _ then s else s.writeFail a type payload time).erec = _
      split
      · rfl
      · exact State.writeFail_erec _ _ _ _ _
    · rfl
  unfold State.nvWrite
  dsimp only
  cases ok with
  | true => exact (State.putRec_erec _ _ _ _ _ _).trans before
  | false => exact (State.writeFail_erec _ _ _ _ _).trans before

theorem State.nvWrite_ok (s : State) (a : NvArea) (type : Nat) (payload : List Word) (ok : Bool) (time : Nat) : (s.nvWrite a type payload ok time).2 = ok := by
  cases ok with
  | true => rfl
  | false => rfl

theorem State.batchFail_erec (s : State) : s.batchFail.erec = s.erec := by
  unfold State.batchFail
  rw [State.pulse_erec, State.raise_erec, State.bump_erec]

theorem State.showJournal_erec (s : State) : s.showJournal.erec = s.erec := rfl

/-- The batch is no longer waiting. -/
def State.batchTaken (s : State) (n : Nat) : State := { s with erec := { s.erec with waiting := s.erec.waiting.drop n } }

theorem State.batchTaken_failed (s : State) (n : Nat) : (s.batchTaken n).erec.failed = s.erec.failed := rfl

/-- The batch has failed twice: its records are marked. -/
def State.batchMarked (s : State) (l : List Nat) : State := { s with erec := { s.erec with failed := s.erec.failed ++ l } }

/-- The oldest waiting records, as many as a batch holds. -/
def State.batch (s : State) : List Nat := s.erec.waiting.take (s.getOr R.REC_JRN_BATCH_BATCH 1 16 16)

/-- A batch is due: it is full, or its oldest record is old enough. -/
def State.batchDue (s : State) (ageMs : Nat) : Prop :=
  s.batch ≠ [] ∧ s.up islMGT = true ∧ s.nvm.savingBatches = [] ∧ (s.batch.length = s.getOr R.REC_JRN_BATCH_BATCH 1 16 16 ∨ s.getOr R.REC_JRN_CFG_MAX_AGE 10 60000 1000 ≤ ageMs)

theorem State.batchDue.goes {ageMs : Nat} (due : s.batchDue ageMs) : ¬(s.batch = [] ∨ !s.up islMGT ∨ s.nvm.savingBatches ≠ [] ∨
    (s.batch.length < s.getOr R.REC_JRN_BATCH_BATCH 1 16 16 ∧ ageMs < s.getOr R.REC_JRN_CFG_MAX_AGE 10 60000 1000)) := by
  obtain ⟨some_, up, idle, ready⟩ := due
  rintro (none_ | down | busy | ⟨few, young⟩)
  · exact some_ none_
  · simp [up] at down
  · exact busy idle
  · omega

/-- A batch is written and read back. -/
def State.batchWritten (s : State) : State := ((s.nvWrite .journal 0x20 (s.ringWords s.batch) true).1.batchTaken s.batch.length).showJournal

/-- A batch is written twice, and both times the read-back fails. -/
def State.batchLost (s : State) : State :=
  ((((s.nvWrite .journal 0x20 (s.ringWords s.batch) false).1.batchFail.nvWrite .journal 0x20 (s.ringWords s.batch) false).1.batchTaken s.batch.length).batchMarked s.batch).batchFail

theorem exec_journalBatchWrite_ok {ageMs : Nat} {retryOk : Bool} (due : s.batchDue ageMs) : exec (.journalBatchWrite ageMs none true retryOk) s = .next s.batchWritten :=
  congrArg _ (if_neg due.goes)

theorem exec_journalBatchWrite_fails {ageMs : Nat} (due : s.batchDue ageMs) : exec (.journalBatchWrite ageMs none false false) s = .next s.batchLost :=
  congrArg _ (if_neg due.goes)

theorem State.batchWritten_spec (s : State) : s.batchWritten.erec.waiting = s.erec.waiting.drop s.batch.length ∧ s.batchWritten.erec.failed = s.erec.failed ∧
    s.batchWritten.get R.REC_JRN_FAIL_COUNT = s.get R.REC_JRN_FAIL_COUNT ∧ s.batchWritten.get R.REC_ECC_UNCORR_COUNT = s.get R.REC_ECC_UNCORR_COUNT := by
  have erec := s.nvWrite_erec .journal 0x20 (s.ringWords s.batch) true s.nowT
  have keeps {C : Cap} (may : Ok.nvWrite C ∧ Ok.showJournal C) : Within C s s.batchWritten := .showJournal (.updErec (.nvWrite (.refl s) may.1)) may.2
  refine ⟨?_, ?_, (keeps (by decide)).get_eq, (keeps (by decide)).get_eq⟩
  · exact (congrArg RecPart.waiting (State.showJournal_erec _)).trans (congrArg (fun x : RecPart => x.waiting.drop s.batch.length) erec)
  · exact (congrArg RecPart.failed (State.showJournal_erec _)).trans ((State.batchTaken_failed _ _).trans (congrArg RecPart.failed erec))

theorem State.batchFail_count (s : State) : s.batchFail.get R.REC_JRN_FAIL_COUNT = min (s.get R.REC_JRN_FAIL_COUNT + 1) (2 ^ 36 - 1) := by
  unfold State.batchFail
  rw [Within.get_eq (.pulse (.raise (.refl _) (by decide)) (by decide)), State.bump_get_same _ _ (by decide)]

theorem State.batchLost_spec (s : State) : s.batchLost.erec.waiting = s.erec.waiting.drop s.batch.length ∧ s.batchLost.erec.failed = s.erec.failed ++ s.batch ∧
    (21, 0) ∈ s.batchLost.flt.causes ∧ s.batchLost.get R.REC_JRN_FAIL_COUNT = min (s.get R.REC_JRN_FAIL_COUNT + 2) (2 ^ 36 - 1) ∧ Event s.batchLost P.REC E.REC_JRN_FAIL := by
  have erec : ((s.nvWrite .journal 0x20 (s.ringWords s.batch) false).1.batchFail.nvWrite .journal 0x20 (s.ringWords s.batch) false).1.erec = s.erec :=
    (State.nvWrite_erec _ _ _ _ _ _).trans ((State.batchFail_erec _).trans (State.nvWrite_erec _ _ _ _ _ _))
  have first : (s.nvWrite .journal 0x20 (s.ringWords s.batch) false).1.get R.REC_JRN_FAIL_COUNT = s.get R.REC_JRN_FAIL_COUNT := Within.get_eq (.nvWrite (.refl s) (by decide))
  have second := State.batchFail_count (s.nvWrite .journal 0x20 (s.ringWords s.batch) false).1
  unfold State.batchLost
  generalize (s.nvWrite .journal 0x20 (s.ringWords s.batch) false).1.batchFail = u at erec second ⊢
  have again : (((u.nvWrite .journal 0x20 (s.ringWords s.batch) false).1.batchTaken s.batch.length).batchMarked s.batch).get R.REC_JRN_FAIL_COUNT = u.get R.REC_JRN_FAIL_COUNT :=
    Within.get_eq (.updErec (.updErec (.nvWrite (.refl u) (by decide))))
  refine ⟨?_, ?_, State.lineOn_causes _ _ _, ?_, Within.event (.pulse (.refl _) (by decide)) (event_raise _ _ _ (by decide))⟩
  · exact (congrArg RecPart.waiting (State.batchFail_erec _)).trans (congrArg (fun x : RecPart => x.waiting.drop s.batch.length) erec)
  · exact (congrArg RecPart.failed (State.batchFail_erec _)).trans (congrArg (· ++ s.batch) ((State.batchTaken_failed _ _).trans (congrArg RecPart.failed erec)))
  · rw [State.batchFail_count, again, second, first]
    omega

/-! ## A fetch ends (R472) -/

/-- The record that a fetch has found. -/
def State.fetched (s : State) (w : List Word) : State :=
  ({ s with erec := { s.erec with fetching := none, fetchBuf := w } }.set R.REC_FETCH_CMD_STATUS (if w.getD 61 0 = recCrc w then 2 else 4)).raise P.REC E.REC_FETCH_DONE

/-- A fetch has found nothing. -/
def State.fetchMissed (s : State) : State := ({ s with erec := { s.erec with fetching := none } }.set R.REC_FETCH_CMD_STATUS 3).raise P.REC E.REC_FETCH_DONE

theorem State.fetched_erec (s : State) (w : List Word) : (s.fetched w).erec = { s.erec with fetching := none, fetchBuf := w } := (State.raise_erec _ _ _).trans (State.set_erec _ _ _)

theorem State.fetchMissed_erec (s : State) : s.fetchMissed.erec = { s.erec with fetching := none } := (State.raise_erec _ _ _).trans (State.set_erec _ _ _)

theorem exec_fetchDone_missed {n : Nat} (fetches : s.erec.fetching = some n) (none_ : s.journalRecs.find? (fun w => decide (recSeq w = n)) = none) :
    exec .fetchDone s = .next s.fetchMissed := by
  show execFetchDone s = _
  unfold execFetchDone
  rw [fetches]
  dsimp only
  rw [show (State.journalRecs { s with erec := { s.erec with fetching := none } }).find? (fun w => decide (recSeq w = n)) = none from none_]
  rfl

theorem exec_fetchDone_found {n : Nat} {w : List Word} (fetches : s.erec.fetching = some n) (found : s.journalRecs.find? (fun w => decide (recSeq w = n)) = some w) :
    exec .fetchDone s = .next (s.fetched w) := by
  show execFetchDone s = _
  unfold execFetchDone State.fetched
  rw [fetches]
  dsimp only
  rw [show (State.journalRecs { s with erec := { s.erec with fetching := none } }).find? (fun w => decide (recSeq w = n)) = some w from found]
  dsimp only
  simp only [decide_eq_true_eq]

end

/-- Settles O47: a trigger's arrival, the words of a record, and what a batch and a fetch leave of the recorder, each by its own equation.  The bucket before the queue, the two failures of a
batch that is lost, and the mark of an idle host are the model's reading (log entry 23). -/
theorem recorderQueuesAndRecords : Obligations.RecorderQueuesAndRecords := by
  unfold Obligations.RecorderQueuesAndRecords
  refine ⟨fun s i us tr rest low opened first own => ?_, fun s tr rest up first low => ?_, fun s m v opened => ?_, fun s m v opened => ?_, fun s m v opened => ?_,
    fun s ageMs retryOk l is some_ up idle ready => ?_, fun s m acc => ?_, fun s n fetches => ?_⟩
  · have step := exec_recTrigger (us := us) low opened first own
    obtain ⟨code, inst, args⟩ := (s.landed rest).arriving_spec tr
    refine ⟨fun token room => ?_, fun token full => ?_, fun fill empty => ?_⟩
    · obtain ⟨x, is⟩ := (s.landed rest).arrive_admitted (tr := tr) (us := us) token
      rw [is, State.enqueue_room (s := (s.landed rest).withTokens x) room] at step
      refine .intro step ⟨rfl, List.length_append, ?_, rfl⟩
      rw [List.getLast?_concat, Option.map_some, code, inst, args]
    · obtain ⟨x, is⟩ := (s.landed rest).arrive_admitted (tr := tr) (us := us) token
      rw [is] at step
      exact .intro step (State.enqueue_lost full)
    · rw [State.arrive_suppressed (s := s.landed rest) fill empty] at step
      exact .intro step (State.suppress_spec _ _ _ _)
  · obtain ⟨long, seq, code, crc⟩ := s.recordOf_spec low (s.seqNext_lt.trans (by decide))
    have erec := s.record_erec tr rest
    refine .intro (exec_recRecordWrite up first) ⟨congrArg RecPart.queue erec, s.record_head tr rest, congrArg RecPart.qGap erec, _, ?_, long, seq, code, crc⟩
    rw [congrArg RecPart.ring erec]
    exact kvGet_kvPut_same _ _ _
  · obtain ⟨tr, sent, is⟩ := State.trig_transit_append (up_of_recAlive opened.2.1) islMGT 0x03 [v.toNat, masterCode m]
    refine .intro (exec_hostMark opened) ⟨State.trig_regs _ _ _ _, ?_, ?_⟩
    · rw [sent, List.length_append]
      rfl
    · rw [sent, List.getLast?_concat, Option.map_some, is]
  · refine .intro (exec_codeSelWrite opened) ⟨?_, State.stageSnaps_erec _ _, fun k low => State.stageSnaps_get _ _ low⟩
    rw [Within.get_eq (.stageSnaps (.refl _) (by decide)), State.get_set_same _ _ _ (by decide)]
    exact Nat.mod_eq_of_lt (Nat.mod_lt _ (by decide))
  · have mine : State.codeCfg { s with erec := { s.erec with cfg := kvPut s.erec.cfg (s.get R.REC_CODE_SEL_CODE) (s.newCfg v) } } (s.get R.REC_CODE_SEL_CODE) = s.newCfg v :=
      kvGetD_kvPut_same _ _ _ _
    refine .intro (exec_codeCfgWrite opened) ⟨congrArg CodeCfg.fill mine, congrArg CodeCfg.depth mine, ?_, fun c other => kvGetD_kvPut_other _ _ _ _ _ other, rfl⟩
    rw [mine]
    exact (List.length_map _).trans List.length_range
  · have own : l = s.batch := is
    subst own
    have due : s.batchDue ageMs := ⟨some_, up, idle, ready⟩
    exact ⟨.intro (exec_journalBatchWrite_ok due) s.batchWritten_spec, .intro (exec_journalBatchWrite_fails due) s.batchLost_spec⟩
  · exact .intro (exec_fetch acc) ⟨rfl, State.get_set_fits _ _ (by decide) (by decide), Within.onlySlots (.set (.updErec (.refl s)) (by decide))⟩
  · refine ⟨fun none_ => ?_, fun w found => ?_⟩
    · refine .intro (exec_fetchDone_missed fetches none_) ⟨?_, ?_, ?_, event_raise _ _ _ (by decide)⟩
      · exact (Within.get_eq (.raise (.refl _) (by decide))).trans (State.get_set_fits _ _ (by decide) (by decide))
      · rw [s.fetchMissed_erec]
      · rw [s.fetchMissed_erec]
    · refine .intro (exec_fetchDone_found fetches found) ⟨congrArg RecPart.fetchBuf (s.fetched_erec w), congrArg RecPart.fetching (s.fetched_erec w), ?_, event_raise _ _ _ (by decide)⟩
      refine (Within.get_eq (.raise (.refl _) (by decide))).trans (State.get_set_fits _ _ (by decide) ?_)
      split
      · decide
      · decide

end Sys2Proof.Machine
end

section
/-! PROOFS.
Rings fetch and complete (spec/21, R480 to R484, R486, R490).
-/
namespace Sys2Proof.Machine
open Sys2Proof

section
variable {s : State} {m : Master} {q : Nat}

/-! ## The rings' memory -/

theorem State.putDma_dmaRing_other (s : State) {q r : Nat} (x : RingState) (other : r ≠ q) : (s.putDma q x).dmaRing r = s.dmaRing r := kvGetD_kvPut_other _ _ _ _ _ other

theorem State.dmaRing_congr {t : State} (same : t.dma = s.dma) (q : Nat) : t.dmaRing q = s.dmaRing q := by
  unfold State.dmaRing
  rw [same]

/-- A ring has at most 2^15 descriptors (R490). -/
theorem State.ringSize_le (s : State) (q : Nat) : s.ringSize q ≤ 2 ^ 15 := by
  have fits := s.get_lt (R.DMA_CFG_LOG2 q)
  unfold State.ringSize
  refine Nat.pow_le_pow_right (by decide) ?_
  split
  · exact Nat.le_of_lt_succ fits
  · decide

theorem State.ringSize_pos (s : State) (q : Nat) : 0 < s.ringSize q := Nat.pow_pos (by decide)

/-- An index of a ring fits its register. -/
theorem State.ringIndex_fits (s : State) (q n : Nat) : n % s.ringSize q < 2 ^ 16 := ((Nat.mod_lt n (s.ringSize_pos q)).trans_le (s.ringSize_le q)).trans (by decide)

/-! ## The tail (R480, R490) -/

section
variable {idx : Nat} (low : q < 8) (opened : Open s m (R.DMA_TAIL q))
include low opened

theorem exec_dmaTailWrite (fits : idx < 65536) : exec (.dmaTailWrite m q idx) s = .next (if s.ringWorld m q then s.worldErr m (R.DMA_TAIL q)
    else if s.ringSize q ≤ idx then s.bump R.DMA_BAD_TAIL_COUNT else s.set (R.DMA_TAIL_IDX q) idx) := by
  show execDmaTailWrite m q idx s = _
  unfold execDmaTailWrite
  rw [withUnit_next low, hostWrite_open opened, Nat.mod_eq_of_lt fits]

end

theorem State.worldErr_event (s : State) (m : Master) (a : Nat) : Event (s.worldErr m a) P.GLB E.GLB_ACCESS_ERR := event_raise _ _ _ (by decide)

/-! ## A descriptor is fetched (R480, R483) -/

/-- A fetch has what it needs. -/
structure Fetches (s : State) (q : Nat) : Prop where
  low : q < 8
  up : s.up islMGT = true
  on : s.ringOn q = true
  en : s.get (R.PG_CTRL_EN P.DMA) = 1
  stage : 2 ≤ s.get R.BOOT_STAGE_STAGE
  some : s.get (R.DMA_HEAD_IDX q) ≠ s.get (R.DMA_TAIL_IDX q)

/-- The head passes the descriptor. -/
def State.headPast (s : State) (q : Nat) : State := s.set (R.DMA_HEAD_IDX q) ((s.get (R.DMA_HEAD_IDX q) + 1) % s.ringSize q)

theorem State.headPast_head (s : State) (q : Nat) : (s.headPast q).get (R.DMA_HEAD_IDX q) = (s.get (R.DMA_HEAD_IDX q) + 1) % s.ringSize q :=
  State.get_set_fits _ _ (Nat.le_of_ble_eq_true rfl) (s.ringIndex_fits q _)

/-- The ring takes a receive descriptor. -/
def State.takeRx (s : State) (q idx len : Nat) : State := s.putDma q { s.dmaRing q with rx := (s.dmaRing q).rx ++ [(idx, len)] }

section
variable (may : Fetches s q)
include may

theorem Fetches.goes : ¬(!s.up islMGT ∨ !s.ringOn q ∨ !s.flag (R.PG_CTRL_EN P.DMA) ∨ s.get R.BOOT_STAGE_STAGE < 2 ∨ s.get (R.DMA_HEAD_IDX q) = s.get (R.DMA_TAIL_IDX q)) := by
  obtain ⟨-, up, on, en, stage, some_⟩ := may
  rintro (down | off | shut | early | empty)
  · simp [up] at down
  · simp [on] at off
  · simp [State.flag_of_get en] at shut
  · omega
  · exact some_ empty

theorem exec_dmaDescFetch_rx {slot len : Nat} {addr : Nat} (receive : q < 4) :
    exec (.dmaDescFetch q slot (.rx addr len)) s = .next ((s.headPast q).takeRx q (s.get (R.DMA_HEAD_IDX q)) len) := by
  show execDmaDescFetch q slot (.rx addr len) s = _
  unfold execDmaDescFetch
  rw [withUnit_next may.low]
  exact congrArg _ ((if_neg may.goes).trans (if_pos receive))

theorem exec_dmaDescFetch_tx {slot : Nat} {d : TxDesc} (transmit : 4 ≤ q) (opened : s.linkOpen islMGT islSW 0 = true) :
    exec (.dmaDescFetch q slot (.tx d)) s = .next (((s.headPast q).toSlot slot).takeTx q (s.get (R.DMA_HEAD_IDX q)) d) := by
  show execDmaDescFetch q slot (.tx d) s = _
  unfold execDmaDescFetch
  rw [withUnit_next may.low]
  refine congrArg _ ((if_neg may.goes).trans (if_neg ?_))
  simpa [opened] using transmit

end

/-- The job of a transmit descriptor. -/
def txJob (idx : Nat) (d : TxDesc) (ok : Bool) : TxJob := { idx := idx, flags := d.flags, tag := d.tag, port := d.port, sent := ok, res := if ok then none else some (6, 0) }

/-- The ring takes a transmit descriptor. -/
def State.queueTx (s : State) (q : Nat) (j : TxJob) : State := s.putDma q { s.dmaRing q with tx := (s.dmaRing q).tx ++ [j] }

theorem State.takeTx_eq (s : State) (q idx : Nat) (d : TxDesc) : s.takeTx q idx d =
    if s.descOk d then (s.queueTx q (txJob idx d (s.descOk d))).admitHost (65536 * (q - 4) + idx) d else (s.queueTx q (txJob idx d (s.descOk d))).bump R.DMA_BAD_DESC_COUNT := rfl

theorem State.queueTx_tx (s : State) (q : Nat) (j : TxJob) : ((s.queueTx q j).dmaRing q).tx = (s.dmaRing q).tx ++ [j] := congrArg RingState.tx (State.putDma_dmaRing _ _ _)

theorem Within.queueTx {C : Cap} {t : State} {j : TxJob} (h : Within C s t) (may : Ok.putDma C) : Within C s (t.queueTx q j) := h.putDma may

/-- A descriptor is judged as before the head moved. -/
theorem State.fetching_descOk (low : q < 8) (slot : Nat) (d : TxDesc) : ((s.headPast q).toSlot slot).descOk d = s.descOk d := by
  have may : ∀ q < 8, ∀ p < 24, Ok.set (Cap.away (R.PRT_FRAME_MAX_BYTES p)) (R.DMA_HEAD_IDX q) := by decide
  unfold State.descOk
  by_cases port : d.port < 24
  · have most : ((s.headPast q).toSlot slot).get (R.PRT_FRAME_MAX_BYTES d.port) = s.get (R.PRT_FRAME_MAX_BYTES d.port) :=
      Within.get_eq (.toSlot (.set (.refl s) (may q low _ port)) rfl)
    rw [most]
  · simp only [port, false_and]

/-- The number of jobs of a ring. -/
theorem State.txResult_length (s : State) (q r idx st : Nat) (stamp : Int) : ((s.txResult q idx st stamp).dmaRing r).tx.length = (s.dmaRing r).tx.length := by
  unfold State.txResult
  by_cases same : r = q
  · subst same
    rw [State.putDma_dmaRing]
    exact List.length_map _
  · rw [State.putDma_dmaRing_other _ _ same]

/-- A frame that enters the switch leaves the number of jobs of every ring. -/
theorem State.admitFrame_txLength (s : State) (o : Offer) (q : Nat) : ((s.admitFrame o).dmaRing q).tx.length = (s.dmaRing q).tx.length := by
  have refusal : ∀ d < 24, Ok.countRefusal (Cap.sparing .dma) d := by decide
  unfold State.admitFrame
  extract_lets _ why t1 t2 _ _ _ _ _ _ _ _ t3
  have first : Within (Cap.sparing .dma) s t1 := .foldl (.refl s) fun _ _ _ h => .ite h (h.countRefusal (refusal _))
  have second : Within (Cap.sparing .dma) s t2 := .ite (.ite (.raise (.bump first (by decide)) (by decide)) (.raise (.bump first (by decide)) (by decide))) first
  have third : Within (Cap.sparing .dma) s t3 := second.updSw (by decide)
  clear_value t1 t2 t3
  split
  · rw [State.txResult_length, State.dmaRing_congr second.dma_eq]
  · rw [State.dmaRing_congr second.dma_eq]
  · rw [State.dmaRing_congr (Within.dma_eq (.showBuf (.queueCellsIn third (by decide)) (by decide)))]

theorem State.admitHost_txLength (s : State) (fid : Nat) (d : TxDesc) (q : Nat) : ((s.admitHost fid d).dmaRing q).tx.length = (s.dmaRing q).tx.length := by
  unfold State.admitHost
  extract_lets r idx u f b
  have demand : Within (Cap.sparing .dma) s u := .demand (.refl s) (by decide)
  split
  · rw [State.dmaRing_congr (Within.dma_eq (.bump demand (by decide)))]
  · rw [State.admitFrame_txLength, State.dmaRing_congr (Within.dma_eq (.takeFree demand))]

/-! ## A frame is received (R477, R481, R482) -/

theorem State.rxRing_lt (s : State) (cls : Nat) : s.rxRing cls < 4 := Nat.mod_lt _ (by decide)

/-- A received frame fills the oldest descriptor of its ring. -/
def State.rxFilled (s : State) (q : Nat) (f : SwFrame) (idx : Nat) (rest : List (Nat × Nat)) : State :=
  ((s.putDma q { s.dmaRing q with rx := rest }).emit (.hostFrame q idx { f.frame with len := f.frame.len - 4 })).dropHost f

section
variable {cls : Nat} {f : SwFrame} (low : cls < 8) (own : q = s.rxRing cls) (head : s.headOf 24 cls = some f) (up : s.up islMGT = true) (runs : (s.dmaRing q).stopped = false)
include low own head up runs

theorem exec_dmaRxFrame : exec (.dmaRxFrame cls) s = .next (if !s.ringOn q then (s.bump (R.DMA_DROP_COUNT q)).dropHost f
    else match (s.dmaRing q).rx with
      | [] => s.noBuf q
      | (idx, len) :: rest =>
        if len < f.frame.len - 4 then (s.bump (R.DMA_TOOBIG_COUNT q)).dropHost f else (s.rxFilled q f idx rest).complete q idx (rxFields f) true) := by
  subst own
  show execDmaRxFrame cls s = _
  unfold execDmaRxFrame
  rw [withUnit_next low, head]
  exact congrArg _ (if_neg (by simp [up, runs]))

theorem exec_dmaRxFrame_drops (off : s.ringOn q = false) : exec (.dmaRxFrame cls) s = .next ((s.bump (R.DMA_DROP_COUNT q)).dropHost f) :=
  (exec_dmaRxFrame low own head up runs).trans (congrArg _ (if_pos (by simp [off])))

theorem exec_dmaRxFrame_waits (on : s.ringOn q = true) (none_ : (s.dmaRing q).rx = []) : exec (.dmaRxFrame cls) s = .next (s.noBuf q) := by
  rw [exec_dmaRxFrame low own head up runs, if_neg (by simp [on]), none_]

theorem exec_dmaRxFrame_fills {idx len : Nat} {rest : List (Nat × Nat)} (on : s.ringOn q = true) (first : (s.dmaRing q).rx = (idx, len) :: rest) (fits : f.frame.len - 4 ≤ len) :
    exec (.dmaRxFrame cls) s = .next ((s.rxFilled q f idx rest).complete q idx (rxFields f) true) := by
  rw [exec_dmaRxFrame low own head up runs, if_neg (by simp [on]), first]
  exact congrArg _ (if_neg (by omega))

end

/-! ## A completion (R480) -/

/-- A ring but for the completions that count toward its DQ_PEND bit. -/
def RingState.jobs (r : RingState) : RingState := { r with noted := [] }

theorem RingState.eq_of_jobs {a b : RingState} (same : a.jobs = b.jobs) : a.rx = b.rx ∧ a.tx = b.tx := by
  cases a
  cases b
  cases same
  exact ⟨rfl, rfl⟩

theorem State.note_jobs (s : State) (q idx : Nat) : ((s.note q idx).dmaRing q).jobs = (s.dmaRing q).jobs := by
  unfold State.note
  extract_lets r l u
  have put : (u.dmaRing q).jobs = r.jobs := (congrArg RingState.jobs (State.putDma_dmaRing s q { r with noted := l })).trans rfl
  split
  · rw [State.dmaRing_congr (Within.dma_eq (.putPend (.refl u) (by decide))), put]
  · exact put

/-- What a completion shows. -/
structure Completed (s t : State) (q idx : Nat) (fields : List Nat) : Prop where
  done : t.get (R.DMA_DONE_IDX q) = (idx + 1) % s.ringSize q
  frames : t.get (R.DMA_FRAMES_COUNT q) = min (s.get (R.DMA_FRAMES_COUNT q) + 1) (2 ^ 36 - 1)
  jobs : (t.dmaRing q).jobs = (s.dmaRing q).jobs
  sent : Out.dmaDone q idx fields ∈ t.sent
  kept : s.sent <:+ t.sent

theorem State.complete_spec (s : State) (low : q < 8) (idx : Nat) (fields : List Nat) (counts : Bool) : Completed s (s.complete q idx fields counts) q idx fields := by
  have may : ∀ q < 8, (Ok.bump (Cap.away (R.DMA_DONE_IDX q)) (R.DMA_FRAMES_COUNT q) ∧ Ok.note (Cap.away (R.DMA_DONE_IDX q))) ∧
    Ok.set (Cap.away (R.DMA_FRAMES_COUNT q)) (R.DMA_DONE_IDX q) ∧ Ok.note (Cap.away (R.DMA_FRAMES_COUNT q)) := by decide
  obtain ⟨⟨frames, note⟩, done, note'⟩ := may q low
  unfold State.complete
  extract_lets a b
  have noted {C : Cap} (may : Ok.note C) : Within C b (if counts then b.note q idx else b) := .ite (.note (.refl b) may) (.refl b)
  have told : Within (fun _ => true) a b := .bump (.refl a) rfl
  have rest : Within (fun _ => true) b (if counts then b.note q idx else b) := noted ⟨rfl, rfl⟩
  refine ⟨?_, ?_, ?_, (told.trans rest).sent.subset List.mem_cons_self, (List.suffix_cons _ _).trans (told.trans rest).sent⟩
  · rw [(noted note).get_eq, Within.get_eq (.bump (.refl a) frames)]
    exact State.get_set_fits _ _ (Nat.le_of_ble_eq_true rfl) (s.ringIndex_fits q _)
  · rw [(noted note').get_eq, State.bump_get_same _ _ (Nat.le_of_ble_eq_true rfl), Within.get_eq (.set (.emit (.refl s)) done)]
  · split
    · exact State.note_jobs b q idx
    · rfl

/-! ## Transmit completions (R484) -/

theorem State.drainTsf_empty {p : Nat} (empty : (s.portOf p).tsf = []) : s.drainTsf p = s := by
  unfold State.drainTsf
  dsimp only
  rw [if_pos (by rw [empty]; rfl)]

theorem exec_dmaTxComplete {st : Nat} {stamp : Int} {j : TxJob} {rest : List TxJob} (low : q < 8) (first : (s.dmaRing q).tx = j :: rest) (res : j.res = some (st, stamp)) (up : s.up islMGT = true)
    (empty : (s.portOf j.port).tsf = []) : exec (.dmaTxComplete q) s = .next (s.backTx q j rest st stamp) := by
  have drained : (if j.port < 24 then s.drainTsf j.port else s) = s := by
    rw [State.drainTsf_empty empty, ite_self]
  show execDmaTxComplete q s = _
  unfold execDmaTxComplete
  rw [withUnit_next low, first]
  dsimp only
  rw [if_neg (by simp [up]), drained, first]
  dsimp only
  rw [res]

/-- The stamps that are awaited no longer name the frame. -/
def State.stampGivenUp (s : State) (p q idx : Nat) : State :=
  (s.putPort p { s.portOf p with awaits := (s.portOf p).awaits.filter (fun a => a ≠ (q, idx)) }).txResult q idx 1 0

theorem exec_dmaStampTimeout {idx p ms : Nat} (low : q < 8) (late : 10 ≤ ms) (found : (List.range 24).find? (fun p => (s.portOf p).awaits.contains (q, idx)) = some p) :
    exec (.dmaStampTimeout q idx ms) s = .next (s.stampGivenUp p q idx) := by
  show execDmaStampTimeout q idx ms s = _
  unfold execDmaStampTimeout
  rw [withUnit_next low, if_neg (by omega), found]
  rfl

/-- Every job of the descriptor has its result. -/
theorem State.txResult_res (s : State) (q idx st : Nat) (stamp : Int) : ∀ j ∈ ((s.txResult q idx st stamp).dmaRing q).tx, j.idx = idx → j.res ≠ none := by
  unfold State.txResult
  rw [State.putDma_dmaRing]
  intro j mem own
  obtain ⟨j', -, rfl⟩ := List.mem_map.1 mem
  split at own
  next hit =>
    rw [if_pos hit]
    exact Option.some_ne_none _
  next miss =>
    rw [if_neg miss]
    exact fun none_ => miss ⟨own, none_⟩

/-! ## Queue events (R486) -/

theorem exec_dmaModTimer {us : Nat} (low : q < 8) (up : s.up islMGT = true) (some_ : (s.dmaRing q).noted ≠ []) (due : s.get1 (R.DMA_MOD_TIME q) ≤ us) :
    exec (.dmaModTimer q us) s = .next (s.putPend (setBit (s.get R.DMA_DQ_PEND_PEND) q true)) := by
  show execDmaModTimer q us s = _
  unfold execDmaModTimer
  rw [withUnit_next low]
  refine congrArg _ (if_neg ?_)
  rintro (empty | down | early)
  · exact some_ (List.isEmpty_iff.1 empty)
  · simp [up] at down
  · omega

theorem State.putPend_bit (s : State) (low : q < 8) : bitOn ((s.putPend (setBit (s.get R.DMA_DQ_PEND_PEND) q true)).get R.DMA_DQ_PEND_PEND) q = true := by
  rw [State.putPend, Within.get_eq (.vecRises (.refl _)), State.get_set_fits _ R.DMA_DQ_PEND_PEND (by decide) (setBit_fits true (s.get_lt R.DMA_DQ_PEND_PEND) low), bitOn_setBit_same]

theorem exec_dqPendClear {v : Word} (opened : Open s m R.DMA_DQ_PEND) :
    exec (.dqPendClear m v) s = .next (s.set R.DMA_DQ_PEND_PEND (s.get R.DMA_DQ_PEND_PEND - (s.get R.DMA_DQ_PEND_PEND &&& v.toNat))) := by
  show execDqPendClear m v s = _
  unfold execDqPendClear
  rw [hostWrite_open opened]

/-- What is cleared from a mask is gone, and the rest stays. -/
theorem bitOn_sub_and (a v b : Nat) : bitOn (a - (a &&& v)) b = (bitOn a b && !bitOn v b) := by
  unfold bitOn
  induction b generalizing a v with
  | zero =>
    have both : (a &&& v) % 2 = 1 ↔ a % 2 = 1 ∧ v % 2 = 1 := Nat.and_mod_two_eq_one
    have le : a &&& v ≤ a := Nat.and_le_left
    rw [Nat.testBit_zero, Nat.testBit_zero, Nat.testBit_zero, Bool.eq_iff_iff, Bool.and_eq_true, Bool.not_eq_true', decide_eq_true_eq, decide_eq_true_eq, decide_eq_false_iff_not]
    omega
  | succ b ih =>
    have both : (a &&& v) % 2 = 1 ↔ a % 2 = 1 ∧ v % 2 = 1 := Nat.and_mod_two_eq_one
    have half : (a &&& v) / 2 = a / 2 &&& v / 2 := Nat.and_div_two
    have le : a &&& v ≤ a := Nat.and_le_left
    have halves : (a - (a &&& v)) / 2 = a / 2 - (a / 2 &&& v / 2) := by omega
    rw [Nat.testBit_succ, Nat.testBit_succ, Nat.testBit_succ, halves, ih]

end

/-- Settles O49: each command is a short chain of updates of one ring; what the switch, the messages and the counters add to it is read from their frames. -/
theorem ringsFetchAndComplete : Obligations.RingsFetchAndComplete := by
  unfold Obligations.RingsFetchAndComplete
  refine ⟨fun s m q idx low opened fits => ?_, fun s q slot low up on en stage some_ => ?_, fun s cls q f low own head up runs => ?_,
    fun s q st stamp j rest low first res up empty => ?_, fun s q idx p ms low late found => ?_, fun s q us low up some_ due => ?_, fun s m v opened => ?_⟩
  · have step := exec_dmaTailWrite (idx := idx) low opened fits
    have may : ∀ q < 8, Ok.bump (Cap.away (R.DMA_TAIL_IDX q)) R.DMA_BAD_TAIL_COUNT ∧ Ok.worldErr (Cap.away (R.DMA_TAIL_IDX q)) ∧ Ok.set (Cap.slots [R.DMA_TAIL q]) (R.DMA_TAIL_IDX q) := by decide
    obtain ⟨bad, world, slot⟩ := may q low
    refine ⟨fun mine small => ?_, fun mine large => ?_, fun foreign => ?_⟩
    · rw [mine, if_neg Bool.false_ne_true, if_neg (by omega)] at step
      exact .intro step ⟨State.get_set_fits _ _ (Nat.le_of_ble_eq_true rfl) fits, Within.onlySlots (.set (.refl s) slot)⟩
    · rw [mine, if_neg Bool.false_ne_true, if_pos large] at step
      exact .intro step ⟨Within.get_eq (.bump (.refl s) bad), State.bump_get_same _ _ (by decide)⟩
    · rw [if_pos foreign] at step
      exact .intro step ⟨Within.get_eq (.worldErr (.refl s) world), s.worldErr_event _ _⟩
  · have fetches : Fetches s q := ⟨low, up, on, en, stage, some_⟩
    have may : ∀ q < 8, Ok.putDma (Cap.away (R.DMA_HEAD_IDX q)) ∧ Ok.toSlot (Cap.away (R.DMA_HEAD_IDX q)) ∧ Ok.takeTx (Cap.away (R.DMA_HEAD_IDX q)) := by decide
    obtain ⟨put, slots, take⟩ := may q low
    have before : Within (Cap.sparing .dma) s ((s.headPast q).toSlot slot) := .toSlot (.set (.refl s) rfl) rfl
    have counted : ((s.headPast q).toSlot slot).get R.DMA_BAD_DESC_COUNT = s.get R.DMA_BAD_DESC_COUNT :=
      Within.get_eq (.toSlot (.set (.refl s) ((by decide : ∀ q < 8, Ok.set (Cap.away R.DMA_BAD_DESC_COUNT) (R.DMA_HEAD_IDX q)) q low)) (by decide))
    have headOf (d : TxDesc) : (((s.headPast q).toSlot slot).takeTx q (s.get (R.DMA_HEAD_IDX q)) d).get (R.DMA_HEAD_IDX q) = (s.get (R.DMA_HEAD_IDX q) + 1) % s.ringSize q :=
      (Within.get_eq (.takeTx (.toSlot (.refl _) slots) take)).trans (s.headPast_head q)
    refine ⟨fun addr len receive => ?_, fun d transmit opened bad => ?_, fun d transmit opened good => ?_⟩
    · refine .intro (exec_dmaDescFetch_rx fetches receive) ⟨(Within.get_eq (.putDma (.refl _) put)).trans (s.headPast_head q), ?_⟩
      rw [State.takeRx, State.putDma_dmaRing, State.dmaRing_congr (Within.dma_eq (.set (.refl s) rfl) : (s.headPast q).dma = s.dma)]
    · refine .intro (exec_dmaDescFetch_tx fetches transmit opened) ⟨headOf d, ?_⟩
      rw [State.takeTx_eq, State.fetching_descOk low, bad, if_neg Bool.false_ne_true, State.bump_get_same _ _ (by decide), Within.get_eq (.queueTx (.refl _) (by decide)), counted]
      refine ⟨?_, rfl⟩
      rw [State.dmaRing_congr (Within.dma_eq (.bump (.refl _) (by decide))), State.queueTx_tx, List.getLast?_concat]
      rfl
    · refine .intro (exec_dmaDescFetch_tx fetches transmit opened) ⟨headOf d, ?_⟩
      rw [State.takeTx_eq, State.fetching_descOk low, good, if_pos rfl, State.admitHost_txLength, State.queueTx_tx, List.length_append, State.dmaRing_congr before.dma_eq]
      exact ⟨rfl, (Within.get_eq (.admitHost (.queueTx (.refl _) (by decide)) (by decide))).trans counted⟩
  · have lowQ : q < 8 := (own ▸ s.rxRing_lt cls).trans (by decide)
    refine ⟨fun off => ?_, fun on none_ fresh => ?_, fun idx len rest on first fits => ?_⟩
    · refine .intro (exec_dmaRxFrame_drops low own head up runs off) ?_
      rw [Within.get_eq (.dropHost (.refl _) ((by decide : ∀ q < 8, Ok.dropHost (Cap.away (R.DMA_DROP_COUNT q))) q lowQ)), State.bump_get_same _ _ (Nat.le_of_ble_eq_true rfl)]
    · refine .intro (exec_dmaRxFrame_waits low own head up runs on none_) ⟨Within.sw_eq (.noBuf (.refl s) (by decide)), ?_⟩
      unfold State.noBuf
      dsimp only
      rw [fresh, if_neg Bool.false_ne_true]
      refine ⟨event_raise _ _ _ (by decide), ?_⟩
      rw [State.dmaRing_congr (Within.dma_eq (.raise (.refl _) (by decide))), State.putDma_dmaRing]
    · have told := (s.rxFilled q f idx rest).complete_spec lowQ idx (rxFields f) true
      have may : ∀ q < 8, Ok.dropHost (Cap.away (R.DMA_FRAMES_COUNT q)) ∧ Ok.dropHost (Cap.away (R.DMA_CFG_LOG2 q)) := by decide
      have filled {C : Cap} (dma : C (.part .dma) = true) (drop : Ok.dropHost C) : Within C s (s.rxFilled q f idx rest) := .dropHost (.emit (.putDma (.refl s) dma)) drop
      have size : (s.rxFilled q f idx rest).ringSize q = s.ringSize q := by
        unfold State.ringSize
        rw [(filled rfl (may q lowQ).2).get_eq]
      have ring : (s.rxFilled q f idx rest).dmaRing q = { s.dmaRing q with rx := rest } :=
        (State.dmaRing_congr (Within.dma_eq (.dropHost (.emit (.refl _)) (by decide))) q).trans (State.putDma_dmaRing s q _)
      have sent : Out.hostFrame q idx { f.frame with len := f.frame.len - 4 } ∈ (s.rxFilled q f idx rest).sent :=
        (Within.sent (C := fun _ => true) (.dropHost (.refl _) (by decide))).subset List.mem_cons_self
      refine .intro (exec_dmaRxFrame_fills low own head up runs on first fits) ⟨(RingState.eq_of_jobs told.jobs).1.trans (congrArg RingState.rx ring), ?_, ?_, told.kept.subset sent, told.sent⟩
      · rw [told.done, size]
      · rw [told.frames, (filled rfl (may q lowQ).1).get_eq]
  · have told := (s.putDma q { s.dmaRing q with tx := rest }).complete_spec low j.idx [toT108 stamp, st, 128] (bitOn j.flags 4)
    have may : ∀ q < 8, Ok.putDma (Cap.away (R.DMA_FRAMES_COUNT q)) ∧ Ok.putDma (Cap.away (R.DMA_CFG_LOG2 q)) := by decide
    have size : (s.putDma q { s.dmaRing q with tx := rest }).ringSize q = s.ringSize q := by
      unfold State.ringSize
      rw [Within.get_eq (.putDma (.refl s) (may q low).2)]
    refine .intro (exec_dmaTxComplete low first res up empty) ⟨(RingState.eq_of_jobs told.jobs).2.trans (congrArg RingState.tx (State.putDma_dmaRing s q _)), ?_, ?_, told.sent⟩
    · rw [State.backTx, told.done, size]
    · rw [State.backTx, told.frames, Within.get_eq (.putDma (.refl s) (may q low).1)]
  · refine .intro (exec_dmaStampTimeout low late found) ⟨?_, rfl, State.txResult_res _ _ _ _ _⟩
    have awaits : ((s.stampGivenUp p q idx).portOf p).awaits = (s.portOf p).awaits.filter (fun a => a ≠ (q, idx)) := congrArg PortState.awaits (kvGetD_kvPut_same _ _ _ _)
    rw [awaits]
    exact fun mem => by simpa using List.of_mem_filter mem
  · exact .intro (exec_dmaModTimer low up some_ due) (s.putPend_bit low)
  · refine .intro (exec_dqPendClear opened) ⟨fun b => ?_, Within.onlySlots (.set (.refl s) (by decide))⟩
    rw [State.get_set_fits _ R.DMA_DQ_PEND_PEND (by decide) ((Nat.sub_le _ _).trans_lt (s.get_lt R.DMA_DQ_PEND_PEND)), bitOn_sub_and]

end Sys2Proof.Machine
end

section
/-! PROOFS.
Tamper (spec/16, R391 to R395, R402).
-/
namespace Sys2Proof.Machine
open Sys2Proof

/-! # Tamper (spec/16, R391 to R395, R402) -/

section

variable (s : State)

/-! ## A condition begins -/

theorem exec_tamperAlarm_rises {k : Nat} (low : k < 6) (on : s.aoOn = true) (watched : s.watched k = true) (quiet : bitOn (s.get R.TMP_NOW_SENSOR) k = false) :
    exec (.tamperAlarm k) s = .next (s.tamper k) := by
  show execTamperAlarm k s = _
  unfold execTamperAlarm
  rw [withUnit_next low, if_neg (by simp [on, watched, quiet])]

theorem exec_tamperAlarm_on {k : Nat} (low : k < 6) (active : bitOn (s.get R.TMP_NOW_SENSOR) k = true) : exec (.tamperAlarm k) s = .next s := by
  show execTamperAlarm k s = _
  unfold execTamperAlarm
  rw [withUnit_next low, if_pos (.inr (.inr active))]

/-- The condition of a sensor shows in TMP.NOW as it is now (R391, R394). -/
theorem State.putTmpNow_get {k : Nat} (low : k < 6) (on : Bool) : (s.putTmpNow k on).get R.TMP_NOW_SENSOR = setBit (s.get R.TMP_NOW_SENSOR) k on := by
  unfold State.putTmpNow
  dsimp only
  rw [Within.get_eq (.lineSet (.level (.refl _) (by decide)) (by decide))]
  exact State.get_set_fits _ _ (by decide) (setBit_fits on (s.get_lt R.TMP_NOW_SENSOR) low)

theorem State.closeWindow_shut (m : Master) : ((s.closeWindow m).mst m).window ≠ 2 := by
  unfold State.closeWindow
  split
  · rw [State.raise_mst, State.mst_putMst_same]
    exact fun h => nomatch h
  · assumption

theorem State.mst_putMst_other {m n : Master} (x : MasterState) (ne : n ≠ m) : (s.putMst m x).mst n = s.mst n := by
  cases m <;> cases n <;> first | rfl | exact absurd rfl ne

/-- Closing one master's window leaves the others' as they are (R91). -/
theorem State.closeWindow_other {m n : Master} (ne : n ≠ m) : (s.closeWindow m).mst n = s.mst n := by
  unfold State.closeWindow
  split
  · rw [State.raise_mst, State.mst_putMst_other s _ ne]
  · rfl

/-- A tamper alarm closes every expert window (R392). -/
theorem State.closeWindows_shut (m : Master) : ((((s.closeWindow .pf0).closeWindow .pf1).closeWindow .spi).mst m).window ≠ 2 := by
  cases m with
  | pf0 =>
    rw [State.closeWindow_other _ (by decide), State.closeWindow_other _ (by decide)]
    exact State.closeWindow_shut s _
  | pf1 =>
    rw [State.closeWindow_other _ (by decide)]
    exact State.closeWindow_shut _ _
  | spi => exact State.closeWindow_shut _ _

theorem State.keyDone_window (n : Master) (st : Nat) (m : Master) : ((s.keyDone n st).mst m).window = (s.mst m).window := by
  unfold State.keyDone State.keySet
  rw [State.raise_mst]
  by_cases same : m = n
  · rw [same, State.mst_putMst_same]
  · rw [State.mst_putMst_other s _ same]

theorem State.updKey_mst (x : KeyPart) (m : Master) : ({ s with key := x } : State).mst m = s.mst m := by cases m <;> rfl

theorem State.keyExec_latched (c : KeyCmd) (latched : s.rd R.TMP_LATCH ≠ 0) : s.keyExec c = s.keyDone c.m 8 := by
  unfold State.keyExec
  exact if_pos latched

/-- With the latch set the waiting commands complete without effect (R392). -/
theorem State.keyRun_window (l : List KeyCmd) (m : Master) (latched : s.rd R.TMP_LATCH ≠ 0) : ((s.keyRun l).mst m).window = (s.mst m).window := by
  induction l generalizing s with
  | nil =>
    unfold State.keyRun
    rw [State.updKey_mst]
  | cons c l ih =>
    unfold State.keyRun
    split
    · rw [State.updKey_mst]
    · rw [State.keyExec_latched s c latched, ih _ (by rwa [Within.rd_eq (.keyDone (.refl s) (by decide))]), State.keyDone_window]

/-- With the latch set, what KV aborts only completes (R393). -/
theorem Within.keyRun_latched {C : Cap} {s₀ : State} (l : List KeyCmd) (h : Within C s₀ s) (latched : s.rd R.TMP_LATCH ≠ 0) (key : C (.part .key) = true) (done : Ok.keyDone C) :
    Within C s₀ (s.keyRun l) := by
  induction l generalizing s with
  | nil => exact h.updKey key
  | cons c l ih =>
    unfold State.keyRun
    split
    · exact h.updKey key
    · rw [State.keyExec_latched s c latched]
      exact ih _ (h.keyDone done) (by rwa [Within.rd_eq (.keyDone (.refl s) (by decide))])

theorem State.abortKv_flt (latched : s.rd R.TMP_LATCH ≠ 0) : s.abortKv.flt = s.flt := by
  have ended : Within (Cap.sparing .flt) s (s.endRunning 9) := by
    unfold State.endRunning
    split
    next c _ =>
      extract_lets u v
      have v_latch : v.rd R.TMP_LATCH = s.rd R.TMP_LATCH := Within.rd_eq (.keyDone (.updKey (.refl s) (by decide)) (by decide))
      exact .keyRun_latched _ _ (.keyDone (.updKey (.refl s) rfl) (by decide)) (v_latch ▸ latched) rfl (by decide)
    · exact .refl s
  exact Within.flt_eq <| .bind ended fun h1 => .bind (.ite (.bind (h1.updKey rfl) fun h2 => .ite (h2.lcyDone (by decide)) h2) h1) fun h2 => .ite ((h2.updKey rfl).attDone (by decide)) h2

/-- What KV aborts while the latch is set leaves every window as it is (R393). -/
theorem State.abortKv_window (m : Master) (latched : s.rd R.TMP_LATCH ≠ 0) : (s.abortKv.mst m).window = (s.mst m).window := by
  have ended : ((s.endRunning 9).mst m).window = (s.mst m).window := by
    unfold State.endRunning
    split
    next c _ =>
      extract_lets u v
      have v_latch : v.rd R.TMP_LATCH = s.rd R.TMP_LATCH := Within.rd_eq (.keyDone (.updKey (.refl s) (by decide)) (by decide))
      rw [State.keyRun_window _ _ _ (v_latch ▸ latched), State.keyDone_window, State.updKey_mst]
    · rfl
  have lcy (u : State) (st : Nat) : (u.lcyDone st).mst m = u.mst m := by
    unfold State.lcyDone
    rw [State.raise_mst]
    exact State.wr_mst _ _ _ _
  have att (u : State) (st : Nat) : (u.attDone st).mst m = u.mst m := by
    unfold State.attDone
    rw [State.raise_mst]
    exact State.wr_mst _ _ _ _
  unfold State.abortKv
  extract_lets s1 _ t s2
  have s2_s1 : s2.mst m = s1.mst m := by
    unfold s2
    split
    · split
      · rw [lcy, State.updKey_mst]
      · rw [State.updKey_mst]
    · rfl
  split
  · rw [att, State.updKey_mst, s2_s1, ended]
  · rw [s2_s1, ended]

theorem State.showPub_host : s.showPub.host = s.host := by
  unfold State.showPub
  extract_lets b
  exact foldl_keep (fun t (p : Word × Nat) => t.wr (R.ATT_PUBKEY p.2) p.1) State.host (fun _ _ => rfl) _ _

theorem State.mst_congr {s t : State} (h : t.host = s.host) (m : Master) : t.mst m = s.mst m := by
  unfold State.mst
  rw [h]

theorem State.zeroize_window (tamper : Bool) (m : Master) : (s.zeroize tamper).mst m = s.mst m := by
  unfold State.zeroize
  dsimp only
  rw [State.mst_congr (State.showPub_host _)]
  unfold State.showKeys State.showZeroized State.keyEvt State.keyRec
  rw [State.mst_congr (State.set_host ..), State.mst_congr (State.trig_host ..), State.raise_mst, State.mst_congr (State.bump_host ..), State.mst_congr (State.set_host ..), State.updKey_mst]

/-! ## The carriages that the alarm stops -/

/-- A carriage that is dropped only sends its releases (R328). -/
theorem State.unpin_keeps (c : Nat) (k : Carriage) : (s.unpin c k).key.slots = s.key.slots ∧ (s.unpin c k).key.alive = s.key.alive ∧ (s.unpin c k).host = s.host := by
  unfold State.unpin
  split
  · exact ⟨rfl, rfl, rfl⟩
  · split <;> split <;> exact ⟨rfl, rfl, rfl⟩

theorem State.tamperStop_keeps (c : Nat) : (s.tamperStop c).key.slots = s.key.slots ∧ (s.tamperStop c).key.alive = s.key.alive ∧ (s.tamperStop c).host = s.host := by
  have lose (u : State) (k : Carriage) : (u.lose c k (R.CO_KEY_OFF_COUNT c)).key = (u.unpin c k).key ∧ (u.lose c k (R.CO_KEY_OFF_COUNT c)).host = (u.unpin c k).host := by
    unfold State.lose State.endCar
    rw [State.bump_key, State.bump_host]
    exact ⟨rfl, rfl⟩
  unfold State.tamperStop State.loseAll
  refine ⟨foldl_keep _ (fun u => u.key.slots) (fun u k => ?_) _ _, foldl_keep _ (fun u => u.key.alive) (fun u k => ?_) _ _, foldl_keep _ State.host (fun u k => ?_) _ _⟩
  · show (u.lose c k _).key.slots = _
    rw [(lose u k).1, (u.unpin_keeps c k).1]
  · show (u.lose c k _).key.alive = _
    rw [(lose u k).1, (u.unpin_keeps c k).2.1]
  · show (u.lose c k _).host = _
    rw [(lose u k).2, (u.unpin_keeps c k).2.2]

theorem State.tamperStops_keep (l : List Nat) : (l.foldl (fun (t : State) c => t.tamperStop c) s).key.slots = s.key.slots ∧
    (l.foldl (fun (t : State) c => t.tamperStop c) s).key.alive = s.key.alive ∧ (l.foldl (fun (t : State) c => t.tamperStop c) s).host = s.host :=
  ⟨foldl_keep _ (fun u => u.key.slots) (fun u c => (u.tamperStop_keeps c).1) _ _, foldl_keep _ (fun u => u.key.alive) (fun u c => (u.tamperStop_keeps c).2.1) _ _,
    foldl_keep _ State.host (fun u c => (u.tamperStop_keeps c).2.2) _ _⟩

theorem State.tamperDisable_keeps : s.tamperDisable.key.slots = s.key.slots ∧ s.tamperDisable.key.alive = s.key.alive ∧ s.tamperDisable.host = s.host := by
  unfold State.tamperDisable
  split
  · exact ⟨rfl, rfl, rfl⟩
  · exact ⟨rfl, rfl, rfl⟩

/-! ## What the alarm leaves (R392) -/

theorem State.up_sparing {s t : State} {i : Nat} (h : Within (Cap.sparing .isl) s t) : t.up i = s.up i := State.up_congr h.isl_eq i

/-- What KV holds after an alarm, and the windows (R392, R393). -/
theorem State.tamper_spec {k : Nat} (low : k < 6) :
    bitOn ((s.tamper k).get R.TMP_NOW_SENSOR) k = true ∧ bitOn ((s.tamper k).rd R.TMP_LATCH).toNat k = true ∧ Event (s.tamper k) P.TMP E.TMP_ALARM ∧
      (20, 1) ∈ (s.tamper k).flt.causes ∧ (s.rd R.TMP_LATCH = 0 → (s.tamper k).get R.TMP_FIRST_SENSOR = k) ∧
      (s.tamper k).get R.TMP_ALARMS_COUNT = min (s.get R.TMP_ALARMS_COUNT + 1) (2 ^ 36 - 1) ∧ (∀ m, ((s.tamper k).mst m).window ≠ 2) ∧
      (s.up islKV = true → (s.tamper k).key.alive = false ∧ (s.tamper k).get R.KEY_STATUS_ZEROIZED = 1 ∧
        ∀ j, j < 256 → ((s.tamper k).slotK j).act = none ∧ ((s.tamper k).slotK j).pend = none) := by
  unfold State.tamper
  extract_lets first s1 s2 s3 s4 s5 s6 s7 s8 s9
  have stopped {C : Cap} {t : State} (h : Within C t s9) (stop : ∀ c < 6, Ok.tamperStop C c) (off : Ok.tamperDisable C) :
      Within C t ((List.range 6).foldl (fun (t : State) c => t.tamperStop c) s9).tamperDisable :=
    .tamperDisable (.foldl h fun _ m _ h => h.tamperStop (stop _ (List.mem_range.mp m))) off
  have loaded {C : Cap} {t : State} (h : Within C t s8) (keys : Ok.set C R.BOOT_CAUSE_KEYS_SUPPRESSED) : Within C t s9 := .ite (h.set keys) h
  have closed {C : Cap} {t : State} (h : Within C t s6) (close : Ok.closeWindow C) (abort : Ok.abortKv C) (zero : Ok.zeroize C) : Within C t s8 :=
    .bind (((h.closeWindow close).closeWindow close).closeWindow close) fun h => .ite ((h.abortKv abort).zeroize zero) h
  have first_at {C : Cap} (may : Ok.set C R.TMP_FIRST_SENSOR) : Within C s2 s3 := .ite ((Within.refl _).set may) (.refl _)
  have kept : ((List.range 6).foldl (fun (t : State) c => t.tamperStop c) s9).tamperDisable.key.slots = s9.key.slots ∧
      ((List.range 6).foldl (fun (t : State) c => t.tamperStop c) s9).tamperDisable.key.alive = s9.key.alive ∧
      ((List.range 6).foldl (fun (t : State) c => t.tamperStop c) s9).tamperDisable.host = s9.host := by
    obtain ⟨slots, alive, host⟩ := State.tamperStops_keep s9 (List.range 6)
    obtain ⟨slots', alive', host'⟩ := State.tamperDisable_keeps ((List.range 6).foldl (fun (t : State) c => t.tamperStop c) s9)
    exact ⟨slots'.trans slots, alive'.trans alive, host'.trans host⟩
  revert stopped kept
  generalize ((List.range 6).foldl (fun (t : State) c => t.tamperStop c) s9).tamperDisable = t
  intro stopped ⟨slots, alive, host⟩
  have s9_key : s9.key = s8.key := by
    unfold s9
    split
    · exact State.set_key ..
    · rfl
  have s9_host : s9.host = s8.host := by
    unfold s9
    split
    · exact State.set_host ..
    · rfl
  have latch : bitOn (s2.rd R.TMP_LATCH).toNat k = true := by
    show bitOn ((s1.wr R.TMP_LATCH _).rd R.TMP_LATCH).toNat k = true
    rw [State.rd_wr_same, BitVec.toNat_ofNat, bitOn, Nat.testBit_mod_two_pow, testBit_setBit, if_pos rfl, decide_eq_true (by omega : k < 36)]
    rfl
  have s7_latch : s7.rd R.TMP_LATCH = s2.rd R.TMP_LATCH :=
    Within.rd_eq (.closeWindow (.closeWindow (.closeWindow (.lineOn (.trigAt (.raise (.bump (first_at (by decide)) (by decide)) (by decide))) (by decide)) (by decide)) (by decide)) (by decide))
  have s7_latched : s7.rd R.TMP_LATCH ≠ 0 := fun zero => by
    rw [← s7_latch, zero, bitOn] at latch
    exact absurd latch (by simp)
  have s8_flt : s8.flt = s7.flt := by
    unfold s8
    split
    · rw [Within.flt_eq (.zeroize (.refl _) (by decide)), State.abortKv_flt _ s7_latched]
    · rfl
  have shut (m : Master) : (s8.mst m).window ≠ 2 := by
    have s7_shut : (s7.mst m).window ≠ 2 := State.closeWindows_shut s6 m
    unfold s8
    split
    · rw [State.zeroize_window, State.abortKv_window _ _ s7_latched]
      exact s7_shut
    · exact s7_shut
  refine ⟨?_, ?_, ?_, ?_, fun was => ?_, ?_, fun m => ?_, fun up => ?_⟩
  · rw [(stopped (loaded (closed (.lineOn (.trigAt (.raise (.bump (first_at (by decide)) (by decide)) (by decide))) (by decide)) (by decide) (by decide) (by decide)) (by decide)) (by decide) (by decide)).get_eq]
    rw [Within.get_eq (.wr (.refl s1) (by decide)), State.putTmpNow_get s low, bitOn, testBit_setBit_on]
  · rw [(stopped (loaded (closed (.lineOn (.trigAt (.raise (.bump (first_at (by decide)) (by decide)) (by decide))) (by decide)) (by decide) (by decide) (by decide)) (by decide)) (by decide) (by decide)).rd_eq]
    exact latch
  · exact (stopped (loaded (closed (.lineOn (.trigAt (.refl s4)) (by decide)) (by decide) (by decide) (by decide)) (by decide)) (by decide) (by decide)).event (event_raise _ _ _ (by decide))
  · rw [(stopped (loaded (.refl s8) (by decide)) (by decide) (by decide)).flt_eq, s8_flt, Within.flt_eq (.closeWindow (.closeWindow (.closeWindow (.refl s6) (by decide)) (by decide)) (by decide))]
    exact State.lineOn_causes _ _ _
  · rw [(stopped (loaded (closed (.lineOn (.trigAt (.raise (.bump (.refl s3) (by decide)) (by decide))) (by decide)) (by decide) (by decide) (by decide)) (by decide)) (by decide) (by decide)).get_eq]
    have s3_eq : s3 = s2.set R.TMP_FIRST_SENSOR k := if_pos (decide_eq_true was)
    rw [s3_eq]
    exact State.get_set_fits _ _ (by decide) (by show k < 16; omega)
  · rw [(stopped (loaded (closed (.lineOn (.trigAt (.raise (.refl (s3.bump R.TMP_ALARMS_COUNT)) (by decide))) (by decide)) (by decide) (by decide) (by decide)) (by decide)) (by decide) (by decide)).get_eq]
    rw [State.bump_get_same _ _ (by decide), Within.get_eq (first_at (by decide)), Within.get_eq (.wr (.putTmpNow (.refl s) (by decide)) (by decide))]
  · rw [State.mst_congr (host.trans s9_host)]
    exact shut m
  · have s7_up : s7.up islKV = true := by
      rw [← up]
      exact State.up_sparing (.closeWindow (.closeWindow (.closeWindow (.lineOn (.trigAt (.raise (.bump (.ite (.set (.wr (.putTmpNow (.refl s) (by decide)) (by decide)) (by decide)) (.wr (.putTmpNow (.refl s) (by decide)) (by decide))) (by decide)) (by decide))) (by decide)) (by decide)) (by decide)) (by decide))
    have s8_eq : s8 = s7.abortKv.zeroize true := if_pos s7_up
    have key : s8.key = _ := (congrArg State.key s8_eq).trans (State.zeroize_key _ true)
    refine ⟨?_, ?_, fun j small => ?_⟩
    · rw [alive, s9_key, key, Bool.not_true, Bool.and_false]
    · rw [(stopped (loaded (.refl s8) (by decide)) (by decide) (by decide)).get_eq, s8_eq]
      exact State.zeroize_get _ _
    · have slot : t.slotK j = s7.abortKv.wiped j := by
        have same : t.slotK j = s8.slotK j := by
          unfold State.slotK
          rw [slots, s9_key]
        rw [same, s8_eq, State.slotK_zeroize _ _ small]
      rw [slot]
      exact ⟨rfl, rfl⟩

/-! ## A condition ends, and the host's clear (R394) -/

theorem exec_tmpNowClear {k : Nat} (low : k < 6) (active : bitOn (s.get R.TMP_NOW_SENSOR) k = true) : exec (.tmpNowClear k) s = .next (s.putTmpNow k false) := by
  show execTmpNowClear k s = _
  unfold execTmpNowClear
  rw [withUnit_next low, if_pos active]

theorem State.putTmpNow_lets_go {k : Nat} (none : (s.putTmpNow k false).get R.TMP_NOW_SENSOR = 0) : (20, 1) ∉ (s.putTmpNow k false).flt.causes := by
  unfold State.putTmpNow at none ⊢
  dsimp only at none ⊢
  rw [Within.get_eq (.lineSet (.level (.refl _) (by decide)) (by decide))] at none
  rw [State.lineSet_causes, none]
  decide

/-- The latch that a clear leaves: the bits not asked for, and those whose condition still holds. -/
def State.latchLeft (s : State) (w : Word) : Nat :=
  let l := (s.rd R.TMP_LATCH).toNat
  let c := l &&& w.toNat
  let c := c - (c &&& (s.rd R.TMP_NOW).toNat)
  l - c

/-- What TMP.LATCH's clear does. -/
def State.latchCleared (s : State) (w : Word) : State :=
  let s := s.wr R.TMP_LATCH (BitVec.ofNat 36 (s.latchLeft w))
  if s.rd R.TMP_LATCH = 0 then s.set R.TMP_FIRST_SENSOR 0xF else s

variable {s} {m : Master} {w : Word}

theorem exec_tmpLatchClear (opened : Open s m R.TMP_LATCH) : exec (.tmpLatchClear m w) s = .next (s.latchCleared w) := by
  show execTmpLatchClear m w s = _
  unfold execTmpLatchClear
  rw [hostWrite_open opened]
  rfl

theorem bitOn_latchLeft (j : Nat) : bitOn (s.latchLeft w) j = (bitOn (s.rd R.TMP_LATCH).toNat j && (!bitOn w.toNat j || bitOn (s.rd R.TMP_NOW).toNat j)) := by
  have asked (l v n : Nat) : l &&& ((l &&& v) - (l &&& v &&& n)) = (l &&& v) - (l &&& v &&& n) :=
    Nat.eq_of_testBit_eq fun i => by
      have := bitOn_sub_and (l &&& v) n i
      unfold bitOn at this
      rw [Nat.testBit_and, this, Nat.testBit_and, ← Bool.and_assoc, ← Bool.and_assoc, Bool.and_self]
  unfold State.latchLeft
  dsimp only
  rw [← asked, bitOn_sub_and, bitOn_sub_and, bitOn, bitOn, bitOn, bitOn, Nat.testBit_and]
  cases (s.rd R.TMP_LATCH).toNat.testBit j <;> cases w.toNat.testBit j <;> simp

theorem State.latchCleared_rd : (s.latchCleared w).rd R.TMP_LATCH = BitVec.ofNat 36 (s.latchLeft w) := by
  unfold State.latchCleared
  extract_lets t
  have t_rd : t.rd R.TMP_LATCH = BitVec.ofNat 36 (s.latchLeft w) := State.rd_wr_same ..
  split
  · rw [Within.rd_eq (.set (.refl t) (by decide)), t_rd]
  · exact t_rd

theorem State.latchLeft_lt : s.latchLeft w < 2 ^ 36 := (Nat.sub_le _ _).trans_lt (s.rd R.TMP_LATCH).isLt

theorem State.latchCleared_spec : (∀ j, bitOn ((s.latchCleared w).rd R.TMP_LATCH).toNat j =
      (bitOn (s.rd R.TMP_LATCH).toNat j && (!bitOn w.toNat j || bitOn (s.rd R.TMP_NOW).toNat j))) ∧
    ((s.latchCleared w).rd R.TMP_LATCH = 0 → (s.latchCleared w).get R.TMP_FIRST_SENSOR = 15) ∧ OnlySlots [R.TMP_LATCH, R.TMP_FIRST] s (s.latchCleared w) := by
  refine ⟨fun j => ?_, fun zero => ?_, ?_⟩
  · rw [State.latchCleared_rd, BitVec.toNat_ofNat, Nat.mod_eq_of_lt State.latchLeft_lt, bitOn_latchLeft]
  · rw [State.latchCleared_rd] at zero
    unfold State.latchCleared
    dsimp only
    rw [if_pos (by rw [State.rd_wr_same, zero])]
    exact State.get_set_same _ _ _ (by decide)
  · exact Within.onlySlots (.bind (.wr (.refl s) (by decide)) fun h => .ite (h.set (by decide)) h)

/-! ## The policy (R391, R395) -/

/-- The policy word that is saved: the first three sensors are always watched (R391). -/
def policyWord (w : Word) : Word := R.TMP_POLICY_EN.put (R.TMP_POLICY_DISABLE.put 0 (R.TMP_POLICY_DISABLE.of w)) (R.TMP_POLICY_EN.of w ||| 7)

/-- The LCY record written for the policy. -/
def State.policySaved (s : State) (w : Word) : State :=
  (s.nvWrite .lifeCycle 0x01 [BitVec.ofNat 36 1, BitVec.ofNat 36 (s.key.attMode + s.key.attSlot * 2 ^ 8), policyWord w] true).1

theorem exec_tmpPolicyWrite (opened : Open s m R.TMP_POLICY) (provisioned : s.lcs = 1) :
    exec (.tmpPolicyWrite m w true) s = .next (((s.policySaved w).wr R.TMP_POLICY (policyWord w)).trig islKV 0x82 [1, 1]) := by
  show execTmpPolicyWrite m w true s = _
  unfold execTmpPolicyWrite
  rw [hostWrite_open opened, if_neg (not_not_intro provisioned)]
  exact congrArg _ (if_pos (State.nvWrite_ok _ _ _ _ _ _))

theorem exec_tmpPolicyWrite_refused (opened : Open s m R.TMP_POLICY) (other : s.lcs ≠ 1) : exec (.tmpPolicyWrite m w true) s = .next (s.worldErr m R.TMP_POLICY) := by
  show execTmpPolicyWrite m w true s = _
  unfold execTmpPolicyWrite
  rw [hostWrite_open opened, if_pos other]

theorem policyWord_en : R.TMP_POLICY_EN.of (policyWord w) = R.TMP_POLICY_EN.of w ||| 7 := by
  rw [policyWord, Fld.of_put _ _ _ (by decide)]
  exact Nat.mod_eq_of_lt (Nat.or_lt_two_pow (Fld.of_lt R.TMP_POLICY_EN w) (by decide))

theorem policyWord_disable : R.TMP_POLICY_DISABLE.of (policyWord w) = R.TMP_POLICY_DISABLE.of w := by
  rw [policyWord, Fld.of_put_apart _ _ _ _ (by decide) (by decide), Fld.of_put _ _ _ (by decide)]
  exact Nat.mod_eq_of_lt (Fld.of_lt R.TMP_POLICY_DISABLE w)

end

/-- Settles O34: that an alarm answers the commands waiting at KV and line 20 goes with TMP.NOW is the model's reading (log 24). -/
theorem tamperLatchesAndTakesTheKeys : Obligations.TamperLatchesAndTakesTheKeys := by
  refine ⟨fun s k low on watched quiet => ?_, fun s k low on active => ?_, fun s k low active => ?_, fun s m w opened => ?_, fun s m w opened => ⟨fun is => ?_, fun other => ?_⟩⟩
  · exact .intro (exec_tamperAlarm_rises s low on watched quiet) (s.tamper_spec low)
  · exact .intro (exec_tamperAlarm_on s low active) rfl
  · refine .intro (exec_tmpNowClear s low active) ⟨?_, fun j ne => ?_, Within.rd_eq (.putTmpNow (.refl s) (by decide)), s.putTmpNow_lets_go⟩
    · rw [State.putTmpNow_get s low, bitOn, testBit_setBit, if_pos rfl]
    · rw [State.putTmpNow_get s low, bitOn, testBit_setBit, if_neg ne]
      rfl
  · exact .intro (exec_tmpLatchClear opened) State.latchCleared_spec
  · refine .intro (exec_tmpPolicyWrite opened is) ⟨?_, ?_⟩
    · rw [Within.get_eq (.trig (.refl _))]
      show R.TMP_POLICY_EN.of (((s.policySaved w).wr R.TMP_POLICY (policyWord w)).rd R.TMP_POLICY) = _
      rw [State.rd_wr_same, policyWord_en]
    · rw [Within.get_eq (.trig (.refl _))]
      show R.TMP_POLICY_DISABLE.of (((s.policySaved w).wr R.TMP_POLICY (policyWord w)).rd R.TMP_POLICY) = _
      rw [State.rd_wr_same, policyWord_disable]
  · exact .intro (exec_tmpPolicyWrite_refused opened other) ⟨Within.rd_eq (.worldErr (.refl s) (by decide)), Within.nvm_eq (.worldErr (.refl s) (by decide)), s.worldErr_event _ _⟩

end Sys2Proof.Machine
end

section
/-! PROOFS.
Commands of the client table (spec/15, R361).
-/
namespace Sys2Proof.Machine
open Sys2Proof

/-! # Commands of the client table (spec/15, R361) -/

section

variable {s : State} {m : Master} {i : Nat} {o e : ClientEntry}

/-! ## A free entry number -/

/-- A number found in use means that every number tried is in use. -/
theorem used_of_freeFrom (used : List (Nat × ClientEntry)) (n fuel : Nat) (low : n < 1048576) (found : (kvGet used (freeFrom used n fuel)).isSome = true) :
    ∀ i ≤ fuel, (kvGet used ((n + i) % 1048576)).isSome = true := by
  induction fuel generalizing n with
  | zero =>
    intro i le
    obtain rfl : i = 0 := by omega
    rwa [Nat.add_zero, Nat.mod_eq_of_lt low]
  | succ k ih =>
    unfold freeFrom at found
    split at found
    next here =>
      intro i le
      cases i with
      | zero => rwa [Nat.add_zero, Nat.mod_eq_of_lt low]
      | succ i =>
        have next := ih _ (Nat.mod_lt _ (by decide)) found i (by omega)
        rwa [Nat.mod_add_mod, Nat.add_assoc, Nat.add_comm 1 i] at next
    next free => exact absurd found free

theorem freeFrom_lt (used : List (Nat × ClientEntry)) (n fuel : Nat) (low : n < 1048576) : freeFrom used n fuel < 1048576 := by
  induction fuel generalizing n with
  | zero => exact low
  | succ k ih =>
    unfold freeFrom
    split
    · exact ih _ (Nat.mod_lt _ (by decide))
    · exact low

/-- While the table is not full, the number taken is free: more numbers are tried than entries are listed. -/
theorem freeFrom_free (used : List (Nat × ClientEntry)) (n : Nat) (low : n < 1048576) (room : used.length < 1048576) : kvGet used (freeFrom used n used.length) = none := by
  by_contra found
  have all := used_of_freeFrom used n used.length low (Option.isSome_iff_ne_none.mpr found)
  have listed : ∀ i ∈ Finset.range (used.length + 1), (n + i) % 1048576 ∈ (used.map Prod.fst).toFinset := fun i mem => by
    obtain ⟨e, is⟩ := Option.isSome_iff_exists.mp (all i (Nat.lt_succ_iff.mp (Finset.mem_range.mp mem)))
    exact List.mem_toFinset.mpr (List.mem_map.mpr ⟨_, kvGet_mem is, rfl⟩)
  have apart : Set.InjOn (fun i => (n + i) % 1048576) (Finset.range (used.length + 1)) := fun i mem j mem' same => by
    have := Finset.mem_range.mp mem
    have := Finset.mem_range.mp mem'
    dsimp only at same
    omega
  have more := Finset.card_le_card_of_injOn _ listed apart
  have fewer : (used.map Prod.fst).toFinset.card ≤ used.length := (List.toFinset_card_le _).trans_eq (List.length_map _)
  rw [Finset.card_range] at more
  omega

/-! ## What the operations of the table leave -/

theorem State.entry_of_entries {t : State} (same : t.clt.entries = s.clt.entries) (j : Nat) : t.entry j = s.entry j := by
  unfold State.entry
  rw [same]

theorem State.writeEntry_clt (s : State) (i : Nat) (e : ClientEntry) : (s.writeEntry i e).clt = (s.putEntry i e).clt :=
  Within.clt_eq (.mirror (.refl _) (by decide))

theorem State.writeEntry_entry (s : State) (i : Nat) (e : ClientEntry) : (s.writeEntry i e).entry i = some e ∧ ∀ j, j ≠ i → (s.writeEntry i e).entry j = s.entry j := by
  obtain ⟨here, others⟩ := s.putEntry_entry i e
  have same := State.entry_congr (s.writeEntry_clt i e)
  exact ⟨(same i).trans here, fun j ne => (same j).trans (others j ne)⟩

theorem State.writeEntry_chains (s : State) (i : Nat) (e : ClientEntry) : (s.writeEntry i e).clt.chains = s.clt.chains := by
  rw [State.writeEntry_clt]
  unfold State.putEntry
  rw [Within.clt_eq (.showClt (.refl _) (by decide))]

theorem State.placeRec_keeps (s : State) (g client : Nat) (e : ClientEntry) (sync : Bool) (t : Int) :
    (s.placeRec g client e sync t).clt.entries = s.clt.entries ∧ (s.placeRec g client e sync t).clt.chains = s.clt.chains := by
  unfold State.placeRec
  dsimp only
  split
  · exact ⟨rfl, rfl⟩
  · exact ⟨rfl, rfl⟩

/-- What a write of the entry does to the records of one message type (R359, R362, R363). -/
def State.syncRec (g client : Nat) (old : Option ClientEntry) (e : ClientEntry) (t : Int) (z : State) (sync : Bool) : State :=
  let m := if sync then 0 else 0xB
  if !grantBit e m then z
  else match old with
    | some o =>
      if !grantBit o m then z.placeRec g client e sync t
      else if grantLog o m ≠ grantLog e m then z.putWheel (e.port / 4) ((z.wheel (e.port / 4)).mark client sync) else z
    | none => z.placeRec g client e sync t

theorem State.syncRecs_eq (s : State) (g client : Nat) (old : Option ClientEntry) (e : ClientEntry) (t : Int) :
    s.syncRecs g client old e t = [true, false].foldl (State.syncRec g client old e t) s := by
  cases old <;> rfl

theorem State.syncRec_keeps (s : State) (g client : Nat) (old : Option ClientEntry) (e : ClientEntry) (t : Int) (sync : Bool) :
    (State.syncRec g client old e t s sync).clt.entries = s.clt.entries ∧ (State.syncRec g client old e t s sync).clt.chains = s.clt.chains := by
  unfold State.syncRec
  extract_lets m
  split
  · exact ⟨rfl, rfl⟩
  · cases old with
    | none => exact s.placeRec_keeps g client e sync t
    | some o =>
      dsimp only
      split
      · exact s.placeRec_keeps g client e sync t
      · split
        · exact ⟨rfl, rfl⟩
        · exact ⟨rfl, rfl⟩

/-- The records of the timetable are apart from the entries and their chains. -/
theorem State.syncRecs_keeps (s : State) (g client : Nat) (old : Option ClientEntry) (e : ClientEntry) (t : Int) :
    (s.syncRecs g client old e t).clt.entries = s.clt.entries ∧ (s.syncRecs g client old e t).clt.chains = s.clt.chains := by
  rw [State.syncRecs_eq]
  exact ⟨foldl_keep _ (fun z => z.clt.entries) (fun z sync => (z.syncRec_keeps g client old e t sync).1) _ _,
    foldl_keep _ (fun z => z.clt.chains) (fun z sync => (z.syncRec_keeps g client old e t sync).2) _ _⟩

theorem State.clientPlace_entries (s : State) (i : Nat) (e : ClientEntry) : (s.clientPlace i e).2.clt.entries = s.clt.entries := by
  unfold State.clientPlace
  split
  · split
    · rfl
    · rfl
  · dsimp only
    split
    · rfl
    · rfl

theorem State.chainOut_entries (s : State) (i : Nat) (e : ClientEntry) : (s.chainOut i e).clt.entries = s.clt.entries := rfl

theorem State.chainIn_entries (s : State) (i : Nat) (e : ClientEntry) : (s.chainIn i e).clt.entries = s.clt.entries := rfl

/-- An entry that enters its chain is its head (R351). -/
theorem State.chainIn_chain (s : State) (i : Nat) (e : ClientEntry) :
    kvGetD (s.chainIn i e).clt.chains (keySlotOf e.port e.portId) [] = i :: kvGetD s.clt.chains (keySlotOf e.port e.portId) [] :=
  kvGetD_kvPut_same ..

/-! ## FIND and READ -/

theorem State.cltDone_status (s : State) {n : Nat} (low : n < 8) : (s.cltDone n).get R.CLT_CMD_STATUS = n :=
  State.get_set_fits _ _ (by decide) (low.trans_le (by decide))

theorem State.cltDone_clt (s : State) (n : Nat) : (s.cltDone n).clt = s.clt := State.set_clt ..

theorem exec_cltFind_found (acc : Accepts s m R.CLT_CMD_STATUS) (found : s.findClient s.windowEntry.port s.windowEntry.portId = some i) :
    exec (.cltFind m) s = .next ((s.set R.CLT_CMD_IDX_INDEX i).cltDone 2) := by
  show execCltFind m s = _
  unfold execCltFind State.cltCmd
  rw [hostCmd_accepts acc]
  dsimp only
  rw [found]

theorem exec_cltFind_none (acc : Accepts s m R.CLT_CMD_STATUS) (none : s.findClient s.windowEntry.port s.windowEntry.portId = none) :
    exec (.cltFind m) s = .next (s.cltDone 4) := by
  show execCltFind m s = _
  unfold execCltFind State.cltCmd
  rw [hostCmd_accepts acc]
  dsimp only
  rw [none]

theorem exec_cltRead (acc : Accepts s m R.CLT_CMD_STATUS) (known : s.entry (s.get R.CLT_CMD_IDX_INDEX) = some e) (low : s.get R.CLT_CMD_IDX_INDEX < 1048576) :
    exec (.cltRead m) s = .next ((s.putWindow (entryBytes e (s.nextOf (s.get R.CLT_CMD_IDX_INDEX) e))).cltDone 2) := by
  show execCltRead m s = _
  unfold execCltRead State.cltCmd
  rw [hostCmd_accepts acc, if_neg (by omega), known]

theorem exec_cltRead_beyond (acc : Accepts s m R.CLT_CMD_STATUS) (high : 1048576 ≤ s.get R.CLT_CMD_IDX_INDEX) : exec (.cltRead m) s = .next (s.cltDone 4) := by
  show execCltRead m s = _
  unfold execCltRead State.cltCmd
  rw [hostCmd_accepts acc, if_pos high]

theorem entryBytes_apart : ∀ j < 16, ∀ i < 16, i ≠ j → Ok.set (Cap.away (R.CLT_ENTRY_BYTES j)) (R.CLT_ENTRY_BYTES i) := by decide

/-- The entry's bytes show in CLT.ENTRY0 to ENTRY15. -/
theorem State.putWindow_get (s : State) (l : List Nat) {j : Nat} (low : j < 16) :
    (s.putWindow l).get (R.CLT_ENTRY_BYTES j) = ofBytes ((l.drop (4 * j)).take 4) % 2 ^ 32 := by
  have other (t : State) (n : Nat) : ∀ i < 16, i ≠ j → (t.set (R.CLT_ENTRY_BYTES i) n).get (R.CLT_ENTRY_BYTES j) = t.get (R.CLT_ENTRY_BYTES j) :=
    fun i lt ne => Within.get_eq (.set (.refl t) (entryBytes_apart j low i lt ne))
  obtain ⟨u, _, is⟩ := foldl_range_at _ (State.get · (R.CLT_ENTRY_BYTES j)) low (fun t i lt ne => other t (ofBytes ((l.drop (4 * i)).take 4)) i lt ne) s
  exact is.trans (State.get_set_same _ _ _ (Nat.le_of_ble_eq_true rfl))

/-! ## DELETE, CANCEL and WRITE -/

theorem exec_cltDelete (acc : Accepts s m R.CLT_CMD_STATUS) (named : s.cltNamed = some (i, o)) :
    exec (.cltDelete m) s = .next (((s.writeEntry i (drained o)).bumpBy R.CLT_CANCELS_COUNT (grantsOf o).length).cltDone 2) := by
  show execCltDelete m s = _
  unfold execCltDelete State.cltCmd
  rw [hostCmd_accepts acc, named]

/-- The timetable's cancellation of an entry's grants, where it has any. -/
def State.cancelSent (s : State) (i : Nat) (o : ClientEntry) : State :=
  if grantsOf o = [] then (s.clientPlace i o).2
  else (s.clientPlace i o).2.addTimed o.port i (s.clientPlace i o).1 (some o)
    (.cancel ((if o.annG then 1 else 0) + (if o.syncG then 2 else 0) + (if o.drespG then 4 else 0))) (s.clientPlace i o).2.ax.mark

theorem exec_cltCancel (acc : Accepts s m R.CLT_CMD_STATUS) (named : s.cltNamed = some (i, o)) :
    exec (.cltCancel m) s =
      .next ((((s.cancelSent i o).writeEntry i ((grantsOf o).foldl endGrant o)).bumpBy R.CLT_CANCELS_COUNT (grantsOf o).length).cltDone 2) := by
  show execCltCancel m s = _
  unfold execCltCancel State.cltCmd
  rw [hostCmd_accepts acc, named]
  rfl

theorem exec_cltWrite_port (acc : Accepts s m R.CLT_CMD_STATUS) (named : s.cltNamed = some (i, o)) (ne : s.windowEntry.port ≠ o.port) :
    exec (.cltWrite m) s = .next (s.cltDone 5) := by
  show execCltWrite m s = _
  unfold execCltWrite State.cltCmd
  rw [hostCmd_accepts acc, named]
  exact congrArg _ (if_pos ne)

/-- What WRITE makes of the entry `o` with the window (R361). -/
def State.rewritten (s : State) (o : ClientEntry) : ClientEntry :=
  { s.windowEntry with state := o.state, port := o.port, annSeq := o.annSeq, syncSeq := o.syncSeq, annOk := s.windowEntry.annOk && o.annG }

/-- The entry `o` leaves its chain for that of `e`, where their keys differ. -/
def State.rechained (s : State) (i : Nat) (o e : ClientEntry) : State := if e.portId = o.portId then s else (s.chainOut i o).chainIn i e

theorem exec_cltWrite (acc : Accepts s m R.CLT_CMD_STATUS) (named : s.cltNamed = some (i, o)) (same : s.windowEntry.port = o.port)
    (afford : s.overBudget (s.get R.GEN_IN_FORCE_GEN) (some o) (s.rewritten o) = false) (fits : s.placeable i (some o) (s.rewritten o) = true) :
    exec (.cltWrite m) s = .next ((((s.rechained i o (s.rewritten o)).writeEntry i (s.rewritten o)).syncRecs (s.get R.GEN_IN_FORCE_GEN) i (some o) (s.rewritten o)
      (s.rechained i o (s.rewritten o)).ax.mark).showClt.cltDone 2) := by
  show execCltWrite m s = _
  unfold execCltWrite State.cltCmd
  rw [hostCmd_accepts acc, named]
  refine congrArg _ ((if_neg (not_not_intro same)).trans ((if_neg ?_).trans rfl))
  rintro (beyond | apart)
  · exact absurd (beyond.symm.trans afford) (by decide)
  · exact absurd ((congrArg not fits).symm.trans apart) (by decide)

theorem exec_cltDelete_none (acc : Accepts s m R.CLT_CMD_STATUS) (named : s.cltNamed = none) : exec (.cltDelete m) s = .next (s.cltDone 4) := by
  show execCltDelete m s = _
  unfold execCltDelete State.cltCmd
  rw [hostCmd_accepts acc, named]

theorem exec_cltCancel_none (acc : Accepts s m R.CLT_CMD_STATUS) (named : s.cltNamed = none) : exec (.cltCancel m) s = .next (s.cltDone 4) := by
  show execCltCancel m s = _
  unfold execCltCancel State.cltCmd
  rw [hostCmd_accepts acc, named]

theorem exec_cltWrite_none (acc : Accepts s m R.CLT_CMD_STATUS) (named : s.cltNamed = none) : exec (.cltWrite m) s = .next (s.cltDone 4) := by
  show execCltWrite m s = _
  unfold execCltWrite State.cltCmd
  rw [hostCmd_accepts acc, named]

theorem grantBit_endGrant (e : ClientEntry) (m j : Nat) : grantBit (endGrant e m) j = (grantBit e j && decide (j ≠ m)) := by
  have state (e : ClientEntry) (n : Nat) : grantBit { e with state := n } j = grantBit e j := rfl
  have off : grantBit (setGrant e m false) j = (grantBit e j && decide (j ≠ m)) := by
    clear state
    unfold setGrant grantBit
    split_ifs <;> simp_all <;> omega
  unfold endGrant
  dsimp only
  split
  · rw [state, off]
  · exact off

theorem grantBit_ended (l : List Nat) (e : ClientEntry) (j : Nat) : grantBit (l.foldl endGrant e) j = (grantBit e j && decide (j ∉ l)) := by
  induction l generalizing e with
  | nil => simp
  | cons m l ih => simp [ih, grantBit_endGrant, Bool.and_assoc]

/-- After the grants that an entry has have ended it has none. -/
theorem noGrant_ended (o : ClientEntry) : noGrant ((grantsOf o).foldl endGrant o) = true := by
  have none (j : Nat) (is : j ∈ [0xB, 0, 9]) : grantBit ((grantsOf o).foldl endGrant o) j = false := by
    rw [grantBit_ended, grantsOf]
    cases has : grantBit o j with
    | false => rfl
    | true => rw [Bool.true_and, decide_eq_false (not_not_intro (List.mem_filter.mpr ⟨is, has⟩))]
  have ann : ((grantsOf o).foldl endGrant o).annG = false := none 0xB (by decide)
  have sync : ((grantsOf o).foldl endGrant o).syncG = false := none 0 (by decide)
  have dresp : ((grantsOf o).foldl endGrant o).drespG = false := none 9 (by decide)
  rw [noGrant, ann, sync, dresp]
  rfl

/-- The count of the grants ended, and the command done. -/
def State.cltCounted (s : State) (n : Nat) : State := (s.bumpBy R.CLT_CANCELS_COUNT n).cltDone 2

theorem State.cltCounted_clt (s : State) (n : Nat) : (s.cltCounted n).clt = s.clt := Within.clt_eq (.set (.bumpBy (.refl s) (by decide)) (by decide))

theorem State.cltCounted_pipe (s : State) (n : Nat) : (s.cltCounted n).pipe = s.pipe := Within.pipe_eq (.set (.bumpBy (.refl s) (by decide)) (by decide))

theorem State.cancelSent_entries (s : State) (i : Nat) (o : ClientEntry) : (s.cancelSent i o).clt.entries = s.clt.entries := by
  unfold State.cancelSent
  split
  · exact s.clientPlace_entries i o
  · rw [Within.clt_eq (.addTimed (.refl _) (by decide)), s.clientPlace_entries i o]

theorem State.coachOf_putCoach (s : State) (c : Nat) (x : CoachState) : (s.putCoach c x).coachOf c = x := kvGetD_kvPut_same ..

/-- The carriage made at an instant is the last of its coach (R363). -/
theorem State.addTimed_last (s : State) (port client place : Nat) (ent : Option ClientEntry) (kind : TtKind) (t : Int) :
    ∃ x : Carriage, ((s.addTimed port client place ent kind t).coachOf (port / 4)).cars.getLast? = some x ∧ x.origin = 1 ∧ x.port = port ∧ x.client = client ∧ x.stage = .compose ∧ x.kind = kind := by
  unfold State.addTimed State.addCar
  dsimp only
  rw [State.coachOf_putCoach]
  dsimp only
  rw [List.getLast?_append_of_ne_nil _ (List.cons_ne_nil _ _)]
  exact ⟨_, rfl, rfl, rfl, rfl, rfl, rfl⟩

theorem State.rechained_entries (s : State) (i : Nat) (o e : ClientEntry) : (s.rechained i o e).clt.entries = s.clt.entries := by
  unfold State.rechained
  split
  · rfl
  · rw [State.chainIn_entries, State.chainOut_entries]

/-! ## ADD -/

theorem exec_cltAdd_port (acc : Accepts s m R.CLT_CMD_STATUS) (high : 23 < s.windowEntry.port) : exec (.cltAdd m) s = .next (s.cltDone 5) := by
  show execCltAdd m s = _
  unfold execCltAdd State.cltCmd
  rw [hostCmd_accepts acc]
  exact congrArg _ (if_pos (.inl high))

/-- The entry that ADD makes of the window (R361). -/
def State.added (s : State) : ClientEntry :=
  { s.windowEntry with state := 1, annOk := false, upEpoch := (s.portOf s.windowEntry.port).ups % 16, lastDreq := dreqStart s.ax.mark,
                       place := s.placeOf (s.freeLane (s.windowEntry.port / 4)) }

theorem exec_cltAdd_full (acc : Accepts s m R.CLT_CMD_STATUS) (low : s.windowEntry.port ≤ 23) (new : s.findClient s.windowEntry.port s.windowEntry.portId = none)
    (full : s.cltFree = 0) : exec (.cltAdd m) s = .next (s.cltDone 3) := by
  show execCltAdd m s = _
  unfold execCltAdd State.cltCmd
  rw [hostCmd_accepts acc]
  refine congrArg _ ((if_neg ?_).trans (if_pos full))
  rintro (high | known)
  · omega
  · exact absurd ((congrArg Option.isSome new).symm.trans known) (by decide)

/-- An entry takes a number, with its chain and its records. -/
def State.enter (s : State) (g : Nat) (e : ClientEntry) : State :=
  ((s.takeEntry.2.chainIn s.takeEntry.1 e).writeEntry s.takeEntry.1 e).syncRecs g s.takeEntry.1 none e s.takeEntry.2.ax.mark

theorem exec_cltAdd (acc : Accepts s m R.CLT_CMD_STATUS) (low : s.windowEntry.port ≤ 23) (new : s.findClient s.windowEntry.port s.windowEntry.portId = none)
    (room : s.cltFree ≠ 0) (afford : s.overBudget (s.get R.GEN_IN_FORCE_GEN) none s.added = false) (fits : s.placeable noClient none s.added = true) :
    exec (.cltAdd m) s = .next (((s.enter (s.get R.GEN_IN_FORCE_GEN) s.added).showClt.set R.CLT_CMD_IDX_INDEX s.takeEntry.1).cltDone 2) := by
  show execCltAdd m s = _
  unfold execCltAdd State.cltCmd
  rw [hostCmd_accepts acc]
  refine congrArg _ ((if_neg ?_).trans ((if_neg room).trans ((if_neg ?_).trans rfl)))
  · rintro (high | known)
    · omega
    · exact absurd ((congrArg Option.isSome new).symm.trans known) (by decide)
  · rintro (beyond | apart)
    · exact absurd (beyond.symm.trans afford) (by decide)
    · exact absurd ((congrArg not fits).symm.trans apart) (by decide)

theorem State.takeEntry_lt (s : State) : s.takeEntry.1 < 1048576 := freeFrom_lt _ _ _ (Nat.mod_lt _ (by decide))

theorem State.takeEntry_free (s : State) (room : s.cltFree ≠ 0) : s.entry s.takeEntry.1 = none :=
  freeFrom_free _ _ (Nat.mod_lt _ (by decide)) (by unfold State.cltFree at room; omega)

theorem State.enter_entry (s : State) (g : Nat) (e : ClientEntry) : (s.enter g e).entry s.takeEntry.1 = some e := by
  unfold State.enter
  rw [State.entry_of_entries (State.syncRecs_keeps ..).1]
  exact (State.writeEntry_entry _ _ _).1

theorem State.enter_chain (s : State) (g : Nat) (e : ClientEntry) :
    kvGetD (s.enter g e).clt.chains (keySlotOf e.port e.portId) [] = s.takeEntry.1 :: kvGetD s.takeEntry.2.clt.chains (keySlotOf e.port e.portId) [] := by
  unfold State.enter
  rw [(State.syncRecs_keeps ..).2, State.writeEntry_chains]
  exact State.chainIn_chain _ _ _

/-- The entry at the head of its chain is found by its key (R351). -/
theorem State.findClient_head {l : List Nat} (chain : kvGetD s.clt.chains (keySlotOf e.port e.portId) [] = i :: l) (known : s.entry i = some e) :
    s.findClient e.port e.portId = some i := by
  unfold State.findClient
  rw [chain, List.find?_cons, known]
  simp

theorem State.findClient_congr {t : State} (same : t.clt = s.clt) (p id : Nat) : t.findClient p id = s.findClient p id := by
  unfold State.findClient State.entry
  rw [same]

end

/-- Settles O28: that WRITE to an entry not ACTIVE answers NOT_FOUND is the model's choice (log 16). -/
theorem clientCommandsWorkOnTheTable : Obligations.ClientCommandsWorkOnTheTable := by
  refine ⟨fun s m acc => ⟨fun i found low => ?_, fun none => ?_⟩, fun s m acc => ⟨fun e known low => ?_, fun high => ?_⟩, fun s m i o acc named => ⟨?_, ?_, fun ne => ?_, ?_⟩,
    fun s m acc none => ⟨?_, ?_, ?_⟩, fun s m acc => ⟨fun high => ?_, fun low new full => ?_, ?_⟩⟩
  · refine .intro (exec_cltFind_found acc found) ⟨?_, State.cltDone_status _ (by decide), (State.cltDone_clt _ _).trans (State.set_clt ..)⟩
    unfold State.cltDone
    rw [Within.get_eq (.set (.refl _) (by decide))]
    exact State.get_set_fits _ _ (by decide) (low.trans (by decide))
  · exact .intro (exec_cltFind_none acc none) ⟨State.cltDone_status _ (by decide), Within.get_eq (.set (.refl _) (by decide))⟩
  · refine .intro (exec_cltRead acc known low) ⟨State.cltDone_status _ (by decide), Within.clt_eq (.set (.putWindow (.refl s) (by decide)) (by decide)), fun j lt => ?_⟩
    have keep : ∀ j < 16, Ok.set (Cap.away (R.CLT_ENTRY_BYTES j)) R.CLT_CMD_STATUS := by decide
    exact (Within.get_eq (.set (.refl _) (keep j lt))).trans (State.putWindow_get s _ lt)
  · have keep : ∀ j < 16, Ok.set (Cap.away (R.CLT_ENTRY_BYTES j)) R.CLT_CMD_STATUS := by decide
    exact .intro (exec_cltRead_beyond acc high) ⟨State.cltDone_status _ (by decide), fun j lt => Within.get_eq (.set (.refl s) (keep j lt))⟩
  · obtain ⟨here, others⟩ := s.writeEntry_entry i (drained o)
    have same := State.entry_congr ((s.writeEntry i (drained o)).cltCounted_clt (grantsOf o).length)
    exact .intro (exec_cltDelete acc named) ⟨(same i).trans here, State.cltDone_status _ (by decide), fun j ne => (same j).trans (others j ne)⟩
  · obtain ⟨here, others⟩ := (s.cancelSent i o).writeEntry_entry i ((grantsOf o).foldl endGrant o)
    have same := State.entry_congr (((s.cancelSent i o).writeEntry i ((grantsOf o).foldl endGrant o)).cltCounted_clt (grantsOf o).length)
    have before := State.entry_of_entries (s.cancelSent_entries i o)
    refine .intro (exec_cltCancel acc named) ⟨?_, State.cltDone_status _ (by decide), fun j ne => (same j).trans ((others j ne).trans (before j)), fun has => ?_⟩
    · refine (congrArg _ ((same i).trans here)).trans (congrArg _ (noGrant_ended o))
    · have written : ((s.cancelSent i o).writeEntry i ((grantsOf o).foldl endGrant o)).pipe = (s.cancelSent i o).pipe :=
        Within.pipe_eq (.mirror (.putEntry (.refl _) (by decide)) (by decide))
      have pipe := State.coachOf_congr ((State.cltCounted_pipe _ (grantsOf o).length).trans written) (o.port / 4)
      obtain ⟨x, last, origin, port, client, stage, -⟩ := (s.clientPlace i o).2.addTimed_last o.port i (s.clientPlace i o).1 (some o)
        (.cancel ((if o.annG then 1 else 0) + (if o.syncG then 2 else 0) + (if o.drespG then 4 else 0))) (s.clientPlace i o).2.ax.mark
      have sent : ((s.cancelSent i o).coachOf (o.port / 4)).cars.getLast? = some x := by
        rw [State.cancelSent, if_neg has]
        exact last
      refine (congrArg (fun c : CoachState => c.cars.getLast?.map _) pipe).trans ?_
      rw [sent, Option.map_some, origin, port, client, stage]
  · exact .intro (exec_cltWrite_port acc named ne) ⟨State.cltDone_status _ (by decide), State.cltDone_clt _ _⟩
  · rintro e rfl same afford fits
    obtain ⟨here, others⟩ := (s.rechained i o (s.rewritten o)).writeEntry_entry i (s.rewritten o)
    have later (u : State) := State.entry_of_entries ((congrArg CltPart.entries (Within.clt_eq (.set (.showClt (.refl _) (by decide)) (by decide)) :
      ((u.syncRecs (s.get R.GEN_IN_FORCE_GEN) i (some o) (s.rewritten o) (s.rechained i o (s.rewritten o)).ax.mark).showClt.cltDone 2).clt = _)).trans (State.syncRecs_keeps ..).1)
    have before := State.entry_of_entries (s.rechained_entries i o (s.rewritten o))
    exact .intro (exec_cltWrite acc named same afford fits)
      ⟨(later _ i).trans here, State.cltDone_status _ (by decide), fun j ne => (later _ j).trans ((others j ne).trans (before j))⟩
  · exact .intro (exec_cltDelete_none acc none) ⟨State.cltDone_status _ (by decide), State.cltDone_clt _ _⟩
  · exact .intro (exec_cltCancel_none acc none) ⟨State.cltDone_status _ (by decide), State.cltDone_clt _ _⟩
  · exact .intro (exec_cltWrite_none acc none) ⟨State.cltDone_status _ (by decide), State.cltDone_clt _ _⟩
  · exact .intro (exec_cltAdd_port acc high) ⟨State.cltDone_status _ (by decide), State.cltDone_clt _ _⟩
  · exact .intro (exec_cltAdd_full acc low new full) ⟨State.cltDone_status _ (by decide), State.cltDone_clt _ _⟩
  · rintro e rfl low new room afford fits
    have shown {C : Cap} {u t : State} (h : Within C t u) (may : (Ok.showClt C ∧ Ok.set C R.CLT_CMD_IDX_INDEX) ∧ Ok.set C R.CLT_CMD_STATUS) :
        Within C t ((u.showClt.set R.CLT_CMD_IDX_INDEX s.takeEntry.1).cltDone 2) := .set (.set (.showClt h may.1.1) may.1.2) may.2
    have number (u : State) : ((u.set R.CLT_CMD_IDX_INDEX s.takeEntry.1).cltDone 2).get R.CLT_CMD_IDX_INDEX = s.takeEntry.1 := by
      unfold State.cltDone
      rw [Within.get_eq (.set (.refl _) (by decide))]
      exact State.get_set_fits _ _ (by decide) (s.takeEntry_lt.trans (by decide))
    have clt := (shown (.refl (s.enter (s.get R.GEN_IN_FORCE_GEN) s.added)) (by decide)).clt_eq
    refine .intro (exec_cltAdd acc low new room afford fits) ⟨State.cltDone_status _ (by decide), ?_, ?_, ?_⟩
    · rw [number]
      exact s.takeEntry_free room
    · rw [number, State.entry_congr clt]
      exact s.enter_entry _ _
    · rw [number, State.findClient_congr clt]
      exact State.findClient_head (e := s.added) (s.enter_chain _ _) (s.enter_entry _ _)

end Sys2Proof.Machine
end

section
/-! PROOFS.
The timetable (spec/15, R362 to R366).
-/
namespace Sys2Proof.Machine
open Sys2Proof

/-! # The timetable (spec/15, R362 to R366) -/

/-- A static Announce grant of port 72, which no device has: the slot of its PRT.STATUS would be that of CLT.COUNT. -/
def strayEntry : ClientEntry := { entryOf [] with state := 1, isStatic := true, port := 72, annG := true }

/-- The record of the first stray grant, due on coach 0. -/
def strayWork : SlotWork := { slot := 0, start := 0, count := 1, left := [{ client := 0, sync := false, place := 0, changed := false }] }

/-- Three stray grants and a record of the first due on coach 0, whose wheel is being rebuilt; every island is released. -/
def strayVisit : State :=
  { State.reset with
    isl := { IslandPart.init with inReset := 0 }
    clt := { CltPart.init with
      entries := [(0, strayEntry), (1, strayEntry), (2, strayEntry)]
      wheels := [(0, { slots := [], work := [strayWork], rebuilding := true })] } }

/-- The record taken from its slot's work. -/
def strayTaken : State := strayVisit.putWheel 0 { strayVisit.wheel 0 with work := [] }

/-- What the visit leaves before the table's counts are shown once more. -/
def strayVisited : State := strayTaken.visit 0 strayWork { client := 0, sync := false, place := 0, changed := false } 0

theorem exec_strayVisit : exec (.wheelVisit 0 0 0) strayVisit = .next strayVisited.showClt := by
  show execWheelVisit 0 0 0 strayVisit = _
  unfold execWheelVisit
  rw [withUnit_next (by decide)]
  refine congrArg _ ((if_neg ?_).trans ((if_neg ?_).trans rfl))
  · decide
  · decide

/-- The visit writes the entry before it looks at the port: CLT.COUNT then reads 3, which port 72 takes for its link UP, and the visit is skipped for the rebuild (R366). -/
theorem strayVisited_notUp : strayVisited.get R.TTB_NOT_UP_COUNT = 0 := by decide

/-- Refutes O30: the statement admits an entry whose port the device does not have. Port 72's LINK lies in CLT.COUNT (3 entries read as UP once the visit has shown them),
so a visit that finds LINK not 3 beforehand does not count in TTB.NOT_UP. -/
theorem not_wheelVisitsCreateCarriages : ¬ Obligations.WheelVisitsCreateCarriages := by
  unfold Obligations.WheelVisitsCreateCarriages
  rintro ⟨-, visits, -⟩
  have down : strayVisit.portUp strayEntry.port = false := by decide
  obtain ⟨t, ran, counted, -⟩ := (visits strayVisit 0 0 strayWork [] { client := 0, sync := false, place := 0, changed := false } [] strayEntry (by decide) (by decide)
    (by decide) rfl rfl rfl (by decide) (by decide)).1 (.inl down)
  obtain rfl := Host.Outcome.next.inj (exec_strayVisit.symm.trans ran)
  rw [Within.get_eq (.showClt (.refl _) (by decide)), strayVisited_notUp] at counted
  exact absurd counted (by decide)

end Sys2Proof.Machine
end

section
/-! PROOFS.
Commands of the key store (spec/16, R377 to R381).
-/
namespace Sys2Proof.Machine
open Sys2Proof

/-! # Commands of the key store (spec/16, R377 to R381) -/

section

variable (s : State) (m : Master)

/-! ## What a master keeps of the KEY page -/

theorem State.keySet_key (f : Fld) (n : Nat) : (s.keySet m f n).key = s.key := State.putMst_key ..

theorem State.keyDone_key (st : Nat) : (s.keyDone m st).key = s.key := by
  unfold State.keyDone
  rw [State.raise_key, State.keySet_key]

/-- A word of the KEY registers that the master keeps. -/
def State.keyWord (s : State) (m : Master) (a : Nat) : Word :=
  match kvGet (s.mst m).key a with
  | some v => v
  | none => regReset a

theorem State.keyGet_eq (f : Fld) : s.keyGet m f = f.of (s.keyWord m f.slot) := rfl

theorem State.keySet_eq (f : Fld) (n : Nat) : s.keySet m f n = s.putMst m { s.mst m with
    key := (if f.put (s.keyWord m f.slot) n = regReset f.slot then kvDel (s.mst m).key f.slot else kvPut (s.mst m).key f.slot (f.put (s.keyWord m f.slot) n)) } := rfl

/-- A field written changes the word of its own register only. -/
theorem State.keySet_word (f : Fld) (n a : Nat) : (s.keySet m f n).keyWord m a = if a = f.slot then f.put (s.keyWord m f.slot) n else s.keyWord m a := by
  rw [State.keySet_eq]
  generalize f.put (s.keyWord m f.slot) n = v
  unfold State.keyWord
  rw [State.mst_putMst_same]
  dsimp only
  by_cases same : a = f.slot
  · subst same
    rw [if_pos rfl]
    by_cases reset : v = regReset f.slot
    · rw [if_pos reset, kvGet_kvDel_same, reset]
    · rw [if_neg reset, kvGet_kvPut_same]
  · rw [if_neg same]
    by_cases reset : v = regReset f.slot
    · rw [if_pos reset, kvGet_kvDel_other _ _ _ same]
    · rw [if_neg reset, kvGet_kvPut_other _ _ _ _ same]

theorem State.keySet_keyGet_same (f : Fld) (n : Nat) (inside : f.lo + f.w ≤ 36) (fits : n < 2 ^ f.w) : (s.keySet m f n).keyGet m f = n := by
  rw [State.keyGet_eq, State.keySet_word, if_pos rfl, Fld.of_put _ _ _ inside, Nat.mod_eq_of_lt fits]

theorem State.keySet_keyGet_other (f g : Fld) (n : Nat) (ne : g.slot ≠ f.slot) : (s.keySet m f n).keyGet m g = s.keyGet m g := by
  rw [State.keyGet_eq, State.keySet_word, if_neg ne, State.keyGet_eq]

theorem State.keySet_bufWord (f : Fld) (n i : Nat) : (s.keySet m f n).bufWord m i = s.bufWord m i := by
  unfold State.bufWord State.keySet
  rw [State.mst_putMst_same]

theorem State.keySet_bufBytes (f : Fld) (n k : Nat) : (s.keySet m f n).bufBytes m k = s.bufBytes m k := by
  unfold State.bufBytes
  simp only [State.keySet_bufWord]

variable {s} {m}

theorem State.keyGet_congr {t : State} (same : t.mst m = s.mst m) (f : Fld) : t.keyGet m f = s.keyGet m f := by
  unfold State.keyGet
  rw [same]

theorem State.slotK_congr {t : State} (same : t.key.slots = s.key.slots) (k : Nat) : t.slotK k = s.slotK k := by
  unfold State.slotK
  rw [same]

/-! ## A command that runs at once (R378) -/

/-- The command shows as under way. -/
def State.asked (s : State) (m : Master) : State := s.keySet m R.KEY_CMD_STATUS 1

theorem State.asked_key : (s.asked m).key = s.key := State.keySet_key ..

theorem State.asked_rd (a : Nat) : (s.asked m).rd a = s.rd a := Within.rd_eq (.keySet (.refl s))

/-- The other registers of KEY stay as they were given. -/
theorem State.asked_keyGet (f : Fld) (ne : f.slot ≠ R.KEY_CMD) : (s.asked m).keyGet m f = s.keyGet m f := State.keySet_keyGet_other _ _ _ _ _ ne

theorem State.asked_slotK (k : Nat) : (s.asked m).slotK k = s.slotK k := State.slotK_congr (congrArg KeyPart.slots State.asked_key) k

theorem State.root_congr {t : State} (same : t.key = s.key) : t.root = s.root := by
  unfold State.root State.lcs
  rw [same]

theorem State.useKey_congr {t : State} (same : t.key = s.key) (m : Master) (k usage : Nat) : t.useKey m k usage = s.useKey m k usage := by
  unfold State.useKey State.slotK State.lcs
  rw [same]

theorem State.keyRun_alone (c : KeyCmd) (idle : s.key.running = none) : s.keyRun [c] = (s.keyExec c).keyRun [] := by
  show (if s.key.running.isSome then _ else (s.keyExec c).keyRun []) = _
  rw [idle, if_neg (by decide)]

theorem State.keyAsk_turn (c : KeyCmd) (turn : KeyTurn s c.m) : s.keyAsk c = ((s.asked c.m).keyExec c).keyRun [] := by
  obtain ⟨opened, idle, running, waiting, -, -⟩ := turn
  unfold State.keyAsk
  rw [hostWrite_open opened, if_neg idle, waiting]
  exact State.keyRun_alone c ((congrArg KeyPart.running State.asked_key).trans running)

theorem State.keyRun_nil_slots (x : State) : (x.keyRun []).key.slots = x.key.slots := rfl

/-- What a command that completes at once leaves. -/
theorem State.keyDone_spec (x : State) (st : Nat) (fits : st < 16) : ((x.keyDone m st).keyRun []).key.slots = x.key.slots ∧
    ((x.keyDone m st).keyRun []).keyGet m R.KEY_CMD_STATUS = st ∧ Event ((x.keyDone m st).keyRun []) P.KEY E.KEY_CMD_DONE := by
  refine ⟨(State.keyRun_nil_slots _).trans (congrArg KeyPart.slots (x.keyDone_key m st)), ?_, ?_⟩
  · unfold State.keyRun
    rw [State.keyGet_congr (State.updKey_mst ..)]
    unfold State.keyDone
    rw [State.keyGet_congr (State.raise_mst ..)]
    exact State.keySet_keyGet_same _ _ _ _ (by decide) fits
  · unfold State.keyRun
    exact Within.event (.updKey (.refl _) (by decide)) (event_raise _ _ _ (by decide))

/-- A master may give a command of OP `op` (R378): PF1 only where the slot, or what CREATE makes of it, admits it. -/
def State.mayAsk (s : State) (m : Master) (op : Nat) : Prop :=
  m = .pf1 → attrOps (if op = 1 then s.keyGet m R.KEY_NEW_ATTR_ATTR else (s.slotK (s.keyGet m R.KEY_SEL_SLOT)).attr) = true

/-- A key command that its master may give is not refused before its OP is looked at (R378, R380). -/
theorem State.keyExec_allowed (c : KeyCmd) (turn : KeyTurn s c.m) (may : s.mayAsk c.m c.op) :
    ¬ (s.asked c.m).rd R.TMP_LATCH ≠ 0 ∧ ¬ (s.asked c.m).key.lcyRun.isSome = true ∧ ¬ (c.m = .pf1 ∧ c.op ≤ 10 ∧
      (!attrOps (if c.op = 1 then (s.asked c.m).keyGet c.m R.KEY_NEW_ATTR_ATTR else ((s.asked c.m).slotK ((s.asked c.m).keyGet c.m R.KEY_SEL_SLOT)).attr)) = true) := by
  obtain ⟨-, -, -, -, latch, lcy⟩ := turn
  refine ⟨not_not_intro ((State.asked_rd _).trans latch), ?_, ?_⟩
  · rw [State.asked_key, lcy]
    exact Bool.false_ne_true
  · rw [State.asked_keyGet _ (by decide), State.asked_keyGet _ (by decide), State.asked_slotK]
    rintro ⟨pf1, -, refused⟩
    rw [may pf1] at refused
    exact absurd refused (by decide)

/-- What a command that its master may give comes to, from what the clause of its OP makes of it. -/
theorem State.keyAsk_allowed (c : KeyCmd) (turn : KeyTurn s c.m) (may : s.mayAsk c.m c.op) {x : State} (clause :
    ¬ (s.asked c.m).rd R.TMP_LATCH ≠ 0 → ¬ (s.asked c.m).key.lcyRun.isSome = true → ¬ (c.m = .pf1 ∧ c.op ≤ 10 ∧
      (!attrOps (if c.op = 1 then (s.asked c.m).keyGet c.m R.KEY_NEW_ATTR_ATTR else ((s.asked c.m).slotK ((s.asked c.m).keyGet c.m R.KEY_SEL_SLOT)).attr)) = true) →
      (s.asked c.m).keyExec c = x) : s.keyAsk c = x.keyRun [] := by
  obtain ⟨latch, lcy, ops⟩ := State.keyExec_allowed c turn may
  rw [State.keyAsk_turn c turn, clause latch lcy ops]

/-! ## CREATE -/

theorem exec_keyCreate (turn : KeyTurn s m) (may : s.mayAsk m 1) (free : (s.slotK (s.keyGet m R.KEY_SEL_SLOT)).st = 0) (ok : attrOk (s.keyGet m R.KEY_NEW_ATTR_ATTR) = true) :
    exec (.keyCreate m) s = .next ((((s.asked m).putSlotK (s.keyGet m R.KEY_SEL_SLOT)
      { KeySlot.init with st := 1, attr := s.keyGet m R.KEY_NEW_ATTR_ATTR, grace := s.keyGet m R.KEY_NEW_GRACE_S }).keyDone m 2).keyRun []) := by
  have sel : (s.asked m).keyGet m R.KEY_SEL_SLOT = s.keyGet m R.KEY_SEL_SLOT := State.asked_keyGet _ (by decide)
  have attr : (s.asked m).keyGet m R.KEY_NEW_ATTR_ATTR = s.keyGet m R.KEY_NEW_ATTR_ATTR := State.asked_keyGet _ (by decide)
  have grace : (s.asked m).keyGet m R.KEY_NEW_GRACE_S = s.keyGet m R.KEY_NEW_GRACE_S := State.asked_keyGet _ (by decide)
  rw [← State.asked_slotK (m := m), ← sel] at free
  rw [← attr] at ok
  rw [← sel, ← attr, ← grace]
  exact congrArg _ (State.keyAsk_allowed (plainCmd m 1) turn may fun latch lcy ops =>
    (if_neg latch).trans ((if_neg lcy).trans ((if_neg ops).trans ((if_neg (not_not_intro free)).trans (if_neg (by rw [Bool.not_eq_true', Bool.not_eq_false]; exact ok))))))

theorem exec_keyCreate_used (turn : KeyTurn s m) (may : s.mayAsk m 1) (used : (s.slotK (s.keyGet m R.KEY_SEL_SLOT)).st ≠ 0) :
    exec (.keyCreate m) s = .next (((s.asked m).keyDone m 5).keyRun []) := by
  rw [← State.asked_slotK (m := m), ← State.asked_keyGet (m := m) _ (by decide : R.KEY_SEL_SLOT.slot ≠ R.KEY_CMD)] at used
  exact congrArg _ (State.keyAsk_allowed (plainCmd m 1) turn may fun latch lcy ops => (if_neg latch).trans ((if_neg lcy).trans ((if_neg ops).trans (if_pos used))))

/-! ## What a change of one slot leaves -/

theorem State.putSlotK_slots (u : State) (k : Nat) (x : KeySlot) : (u.putSlotK k x).key.slots = kvPut u.key.slots k x := by
  unfold State.putSlotK
  exact congrArg KeyPart.slots (State.set_key ..)

/-- A slot is written, and the command completes. -/
def State.slotDone (u : State) (m : Master) (k : Nat) (x : KeySlot) (st : Nat) : State := ((u.putSlotK k x).keyDone m st).keyRun []

theorem State.slotDone_spec (u : State) (k : Nat) (x : KeySlot) {st : Nat} (fits : st < 16) : (u.slotDone m k x st).slotK k = x ∧ OnlyKey k u (u.slotDone m k x st) ∧
    (u.slotDone m k x st).keyGet m R.KEY_CMD_STATUS = st ∧ Event (u.slotDone m k x st) P.KEY E.KEY_CMD_DONE := by
  obtain ⟨slots, status, event⟩ := State.keyDone_spec (m := m) (u.putSlotK k x) st fits
  rw [State.putSlotK_slots] at slots
  refine ⟨?_, fun j ne => ?_, status, event⟩
  · rw [State.slotK, State.slotDone, slots]
    exact kvGetD_kvPut_same ..
  · rw [State.slotK, State.slotDone, slots]
    exact kvGetD_kvPut_other _ _ _ _ _ ne

/-- The command's turn changes no slot by itself. -/
theorem onlyKey_asked {k : Nat} {t : State} (h : OnlyKey k (s.asked m) t) : OnlyKey k s t := fun j ne => (h j ne).trans (State.asked_slotK j)

/-- The version that a key source writes (R380). -/
def State.newVer (u : State) (m : Master) (k key : Nat) : KeyVer :=
  { num := (u.slotK k).nextNum, key := key, keyId := u.keyGet m R.KEY_NEW_KEYID_ID, kcv := kcvOf key, pins := 0 }

/-- The slot with the version as its PENDING one. -/
def State.pended (u : State) (m : Master) (k key : Nat) : KeySlot := { u.slotK k with pend := some (u.newVer m k key), verified := false }

theorem State.writePend_eq (u : State) (k key : Nat) : (u.writePend m k key).keyRun [] = u.slotDone m k (u.pended m k key) 2 := rfl

/-- A key source leaves the ACTIVE version and the other slots as they are. -/
theorem State.writePend_spec (u : State) (k key : Nat) :
    (((u.writePend m k key).keyRun []).slotK k).pend = some (u.newVer m k key) ∧ (((u.writePend m k key).keyRun []).slotK k).verified = false ∧
      (((u.writePend m k key).keyRun []).slotK k).act = (u.slotK k).act ∧ OnlyKey k u ((u.writePend m k key).keyRun []) ∧
      ((u.writePend m k key).keyRun []).keyGet m R.KEY_CMD_STATUS = 2 := by
  rw [State.writePend_eq]
  obtain ⟨slot, only, status, -⟩ := State.slotDone_spec (m := m) u k (u.pended m k key) (by decide : 2 < 16)
  rw [slot]
  exact ⟨rfl, rfl, rfl, only, status⟩

/-! ## GENERATE, DERIVE, IMPORT and UNWRAP -/

theorem State.asked_sel : (s.asked m).keyGet m R.KEY_SEL_SLOT = s.keyGet m R.KEY_SEL_SLOT := State.asked_keyGet _ (by decide)

theorem State.asked_named : (s.asked m).slotK ((s.asked m).keyGet m R.KEY_SEL_SLOT) = s.slotK (s.keyGet m R.KEY_SEL_SLOT) := by
  rw [State.asked_sel, State.asked_slotK]

variable {root src : Nat}

/-- GENERATE's clause (R380). -/
def State.generated (u : State) (m : Master) : State :=
  match (u.slotK (u.keyGet m R.KEY_SEL_SLOT)).st, u.root with
  | 1, some r =>
    u.drbg.2.writePend m (u.keyGet m R.KEY_SEL_SLOT) (Config.hkdf r (u.drbg.1 % 2 ^ 384) (hkdfInfo 1 (attrUsage (u.slotK (u.keyGet m R.KEY_SEL_SLOT)).attr) 0)
      (keyLen (u.slotK (u.keyGet m R.KEY_SEL_SLOT)).attr))
  | _, _ => u.keyDone m 5

theorem State.generated_eq {u : State} (st : (u.slotK (u.keyGet m R.KEY_SEL_SLOT)).st = 1) (has : u.root = some root) :
    u.generated m = u.drbg.2.writePend m (u.keyGet m R.KEY_SEL_SLOT)
      (Config.hkdf root (u.drbg.1 % 2 ^ 384) (hkdfInfo 1 (attrUsage (u.slotK (u.keyGet m R.KEY_SEL_SLOT)).attr) 0) (keyLen (u.slotK (u.keyGet m R.KEY_SEL_SLOT)).attr)) := by
  unfold State.generated
  simp only [st, has]

theorem exec_keyGenerate (turn : KeyTurn s m) (may : s.mayAsk m 2) (st : (s.slotK (s.keyGet m R.KEY_SEL_SLOT)).st = 1) (has : s.root = some root) :
    exec (.keyGenerate m) s = .next (((s.asked m).drbg.2.writePend m (s.keyGet m R.KEY_SEL_SLOT)
      (Config.hkdf root ((s.asked m).drbg.1 % 2 ^ 384) (hkdfInfo 1 (attrUsage (s.slotK (s.keyGet m R.KEY_SEL_SLOT)).attr) 0)
        (keyLen (s.slotK (s.keyGet m R.KEY_SEL_SLOT)).attr))).keyRun []) := by
  rw [← State.asked_named (m := m)] at st
  rw [← State.root_congr (State.asked_key (m := m))] at has
  rw [← State.asked_named (m := m), ← State.asked_sel (m := m)]
  exact congrArg _ (State.keyAsk_allowed (plainCmd m 2) turn may fun latch lcy ops => (if_neg latch).trans ((if_neg lcy).trans ((if_neg ops).trans (State.generated_eq st has))))

theorem exec_keyDerive (turn : KeyTurn s m) (may : s.mayAsk m 3) (st : (s.slotK (s.keyGet m R.KEY_SEL_SLOT)).st = 1) (has : s.root = some root) :
    exec (.keyDerive m 0xFF) s = .next (((s.asked m).writePend m (s.keyGet m R.KEY_SEL_SLOT)
      (Config.hkdf root 0 (hkdfInfo 1 (attrUsage (s.slotK (s.keyGet m R.KEY_SEL_SLOT)).attr) (ofBytes (s.bufBytes m 16)))
        (keyLen (s.slotK (s.keyGet m R.KEY_SEL_SLOT)).attr))).keyRun []) := by
  rw [← State.asked_named (m := m)] at st
  rw [← State.root_congr (State.asked_key (m := m))] at has
  rw [← State.asked_named (m := m), ← State.asked_sel (m := m), ← State.keySet_bufBytes s m R.KEY_CMD_STATUS 1 16]
  refine congrArg _ (State.keyAsk_allowed { plainCmd m 3 with src := 0xFF } turn may fun latch lcy ops => (if_neg latch).trans ((if_neg lcy).trans ((if_neg ops).trans
    ((if_neg (not_not_intro st)).trans ((if_pos rfl).trans ?_)))))
  dsimp only [plainCmd]
  rw [has]
  rfl

theorem exec_keyImport (turn : KeyTurn s m) (may : s.mayAsk m 4) (st : (s.slotK (s.keyGet m R.KEY_SEL_SLOT)).st = 1)
    (usage : attrUsage (s.slotK (s.keyGet m R.KEY_SEL_SLOT)).attr ≠ 1) :
    exec (.keyImport m) s = .next (((s.asked m).writePend m (s.keyGet m R.KEY_SEL_SLOT)
      (ofBytes (s.bufBytes m (keyLen (s.slotK (s.keyGet m R.KEY_SEL_SLOT)).attr)))).keyRun []) := by
  rw [← State.asked_named (m := m)] at st usage
  rw [← State.asked_named (m := m), ← State.asked_sel (m := m), ← State.keySet_bufBytes s m R.KEY_CMD_STATUS 1]
  exact congrArg _ (State.keyAsk_allowed (plainCmd m 4) turn may fun latch lcy ops => (if_neg latch).trans ((if_neg lcy).trans ((if_neg ops).trans
    ((if_neg (not_not_intro st)).trans (if_neg usage)))))

theorem exec_keyImport_refused (turn : KeyTurn s m) (may : s.mayAsk m 4) (st : (s.slotK (s.keyGet m R.KEY_SEL_SLOT)).st = 1)
    (usage : attrUsage (s.slotK (s.keyGet m R.KEY_SEL_SLOT)).attr = 1) : exec (.keyImport m) s = .next (((s.asked m).keyDone m 14).keyRun []) := by
  rw [← State.asked_named (m := m)] at st usage
  exact congrArg _ (State.keyAsk_allowed (plainCmd m 4) turn may fun latch lcy ops => (if_neg latch).trans ((if_neg lcy).trans ((if_neg ops).trans
    ((if_neg (not_not_intro st)).trans (if_pos usage)))))

/-- What UNWRAP makes of the bytes in the buffer (R380). -/
def State.unwrapped (u : State) (m : Master) (w : KeyVer) : State :=
  match Config.keyUnwrap w.key (u.bufBytes m (wrapLen (u.slotK (u.keyGet m R.KEY_SEL_SLOT)).attr)) with
  | some (v, n) => if n = keyLen (u.slotK (u.keyGet m R.KEY_SEL_SLOT)).attr then u.writePend m (u.keyGet m R.KEY_SEL_SLOT) v else u.keyDone m 10
  | none => u.keyDone m 10

theorem exec_keyUnwrap {w : KeyVer} (turn : KeyTurn s m) (may : s.mayAsk m 5) (st : (s.slotK (s.keyGet m R.KEY_SEL_SLOT)).st = 1) (use : s.useKey m src 16 = .inl w) :
    exec (.keyUnwrap m src) s = .next (((s.asked m).unwrapped m w).keyRun []) := by
  have use' := (State.useKey_congr (State.asked_key (s := s) (m := m)) m src 16).trans use
  rw [← State.asked_named (m := m)] at st
  refine congrArg _ (State.keyAsk_allowed { plainCmd m 5 with src := src } turn may fun latch lcy ops => (if_neg latch).trans ((if_neg lcy).trans ((if_neg ops).trans
    ((if_neg (not_not_intro st)).trans ?_))))
  dsimp only [plainCmd]
  rw [use']
  rfl

/-- UNWRAP writes the PENDING version where the bytes hold a key of the slot's length, and is refused otherwise. -/
theorem State.unwrapped_spec (u : State) (w : KeyVer) : OnlyKey (u.keyGet m R.KEY_SEL_SLOT) u ((u.unwrapped m w).keyRun []) ∧
    match Config.keyUnwrap w.key (u.bufBytes m (wrapLen (u.slotK (u.keyGet m R.KEY_SEL_SLOT)).attr)) with
    | some (v, n) => if n = keyLen (u.slotK (u.keyGet m R.KEY_SEL_SLOT)).attr then
        (((u.unwrapped m w).keyRun []).slotK (u.keyGet m R.KEY_SEL_SLOT)).pend.map (fun x => (x.num, x.key)) = some ((u.slotK (u.keyGet m R.KEY_SEL_SLOT)).nextNum, v) ∧
          ((u.unwrapped m w).keyRun []).keyGet m R.KEY_CMD_STATUS = 2
      else ((u.unwrapped m w).keyRun []).key.slots = u.key.slots ∧ ((u.unwrapped m w).keyRun []).keyGet m R.KEY_CMD_STATUS = 10
    | none => ((u.unwrapped m w).keyRun []).key.slots = u.key.slots ∧ ((u.unwrapped m w).keyRun []).keyGet m R.KEY_CMD_STATUS = 10 := by
  obtain ⟨slots, status, -⟩ := State.keyDone_spec (m := m) u 10 (by decide)
  unfold State.unwrapped
  cases Config.keyUnwrap w.key (u.bufBytes m (wrapLen (u.slotK (u.keyGet m R.KEY_SEL_SLOT)).attr)) with
  | none => exact ⟨fun j _ => State.slotK_congr slots j, slots, status⟩
  | some r =>
    obtain ⟨v, n⟩ := r
    dsimp only
    by_cases len : n = keyLen (u.slotK (u.keyGet m R.KEY_SEL_SLOT)).attr
    · obtain ⟨pend, -, -, only, done⟩ := State.writePend_spec (m := m) u (u.keyGet m R.KEY_SEL_SLOT) v
      rw [if_pos len, if_pos len, pend]
      exact ⟨only, rfl, done⟩
    · rw [if_neg len, if_neg len]
      exact ⟨fun j _ => State.slotK_congr slots j, slots, status⟩

/-! ## VERIFY and DISCARD -/

/-- VERIFY's outcome (R381): the engines agree, and the KCV is as expected where it is checked. -/
def State.kcvSeen (u : State) (m : Master) (check agree : Bool) : State :=
  match (u.slotK (u.keyGet m R.KEY_SEL_SLOT)).pend with
  | none => u.keyDone m 5
  | some v =>
    if agree ∧ (!check ∨ v.kcv = u.keyGet m R.KEY_KCV_EXP_KCV) then
      (u.putSlotK (u.keyGet m R.KEY_SEL_SLOT) { u.slotK (u.keyGet m R.KEY_SEL_SLOT) with verified := true }).keyDone m 2
    else (u.putSlotK (u.keyGet m R.KEY_SEL_SLOT) { u.slotK (u.keyGet m R.KEY_SEL_SLOT) with verified := false }).keyDone m 6

theorem State.kcvSeen_some {u : State} {v : KeyVer} (check agree : Bool) (pend : (u.slotK (u.keyGet m R.KEY_SEL_SLOT)).pend = some v) :
    (u.kcvSeen m check agree).keyRun [] = if agree ∧ (!check ∨ v.kcv = u.keyGet m R.KEY_KCV_EXP_KCV)
      then u.slotDone m (u.keyGet m R.KEY_SEL_SLOT) { u.slotK (u.keyGet m R.KEY_SEL_SLOT) with verified := true } 2
      else u.slotDone m (u.keyGet m R.KEY_SEL_SLOT) { u.slotK (u.keyGet m R.KEY_SEL_SLOT) with verified := false } 6 := by
  unfold State.kcvSeen
  simp only [pend]
  exact apply_ite (State.keyRun · []) _ _ _

theorem exec_keyVerify {v : KeyVer} (check agree : Bool) (turn : KeyTurn s m) (may : s.mayAsk m 6) (pend : (s.slotK (s.keyGet m R.KEY_SEL_SLOT)).pend = some v) :
    exec (.keyVerify m check agree) s = .next (if agree ∧ (!check ∨ v.kcv = s.keyGet m R.KEY_KCV_EXP_KCV)
      then (s.asked m).slotDone m (s.keyGet m R.KEY_SEL_SLOT) { s.slotK (s.keyGet m R.KEY_SEL_SLOT) with verified := true } 2
      else (s.asked m).slotDone m (s.keyGet m R.KEY_SEL_SLOT) { s.slotK (s.keyGet m R.KEY_SEL_SLOT) with verified := false } 6) := by
  rw [← State.asked_named (m := m)] at pend
  rw [← State.asked_named (m := m), ← State.asked_sel (m := m), ← State.asked_keyGet (m := m) R.KEY_KCV_EXP_KCV (by decide)]
  exact congrArg _ ((State.keyAsk_allowed (x := (s.asked m).kcvSeen m check agree) { plainCmd m 6 with check := check, nvOk := agree } turn may fun latch lcy ops =>
    (if_neg latch).trans ((if_neg lcy).trans (if_neg ops))).trans (State.kcvSeen_some check agree pend))

theorem exec_keyDiscard (turn : KeyTurn s m) (may : s.mayAsk m 8) :
    exec (.keyDiscard m) s = .next ((s.asked m).slotDone m (s.keyGet m R.KEY_SEL_SLOT) { s.slotK (s.keyGet m R.KEY_SEL_SLOT) with pend := none, verified := false } 2) := by
  rw [← State.asked_named (m := m), ← State.asked_sel (m := m)]
  exact congrArg _ (State.keyAsk_allowed (plainCmd m 8) turn may fun latch lcy ops => (if_neg latch).trans ((if_neg lcy).trans (if_neg ops)))

/-! ## A slot without OPS -/

theorem exec_keyGenerate_refused (turn : KeyTurn s .pf1) (ops : attrOps (s.slotK (s.keyGet .pf1 R.KEY_SEL_SLOT)).attr = false) :
    exec (.keyGenerate .pf1) s = .next (((s.asked .pf1).keyDone .pf1 3).keyRun []) := by
  have refused : (s.asked .pf1).keyExec (plainCmd .pf1 2) = (s.asked .pf1).keyDone .pf1 3 := by
    obtain ⟨-, -, -, -, latch, lcy⟩ := turn
    rw [← State.asked_named (m := .pf1)] at ops
    refine (if_neg (not_not_intro ((State.asked_rd _).trans latch))).trans ((if_neg ?_).trans (if_pos ⟨rfl, by decide, ?_⟩))
    · show ¬ (s.asked .pf1).key.lcyRun.isSome = true
      rw [State.asked_key, lcy]
      exact Bool.false_ne_true
    · exact congrArg not ops
  show Host.Outcome.next (s.keyAsk (plainCmd .pf1 2)) = _
  rw [State.keyAsk_turn (plainCmd .pf1 2) turn]
  exact congrArg (fun u : State => Host.Outcome.next (u.keyRun [])) refused

end

/-- Settles O31. -/
theorem keySourcesWriteThePendingVersion : Obligations.KeySourcesWriteThePendingVersion := by
  refine ⟨?_, ?_, ?_, ?_, fun s turn ops => ?_⟩
  · rintro s m k turn rfl may
    refine ⟨fun free ok => ?_, fun used => ?_⟩
    · obtain ⟨slot, only, status, event⟩ := State.slotDone_spec (m := m) (s.asked m) (s.keyGet m R.KEY_SEL_SLOT)
        { KeySlot.init with st := 1, attr := s.keyGet m R.KEY_NEW_ATTR_ATTR, grace := s.keyGet m R.KEY_NEW_GRACE_S } (by decide : 2 < 16)
      exact .intro (exec_keyCreate turn may free ok) ⟨slot, onlyKey_asked only, status, event⟩
    · obtain ⟨slots, status, -⟩ := State.keyDone_spec (m := m) (s.asked m) 5 (by decide)
      exact .intro (exec_keyCreate_used turn may used) ⟨slots.trans (congrArg KeyPart.slots State.asked_key), status⟩
  · rintro s m k root turn rfl may st has
    refine ⟨.intro (exec_keyGenerate turn may st has) ?_, .intro (exec_keyDerive turn may st has) ?_⟩
    · obtain ⟨pend, verified, act, only, status⟩ := State.writePend_spec (m := m) (s.asked m).drbg.2 (s.keyGet m R.KEY_SEL_SLOT)
        (Config.hkdf root ((s.asked m).drbg.1 % 2 ^ 384) (hkdfInfo 1 (attrUsage (s.slotK (s.keyGet m R.KEY_SEL_SLOT)).attr) 0)
          (keyLen (s.slotK (s.keyGet m R.KEY_SEL_SLOT)).attr))
      have slots (j : Nat) : (s.asked m).drbg.2.slotK j = s.slotK j := State.asked_slotK (m := m) j
      have keyId : (s.asked m).drbg.2.keyGet m R.KEY_NEW_KEYID_ID = s.keyGet m R.KEY_NEW_KEYID_ID :=
        (State.keyGet_congr (State.updKey_mst ..) _).trans (State.asked_keyGet _ (by decide))
      refine ⟨?_, verified, act.trans (congrArg KeySlot.act (slots _)), fun j ne => (only j ne).trans (slots j), status⟩
      rw [pend, State.newVer, slots, keyId]
      rfl
    · obtain ⟨pend, -, act, only, status⟩ := State.writePend_spec (m := m) (s.asked m) (s.keyGet m R.KEY_SEL_SLOT)
        (Config.hkdf root 0 (hkdfInfo 1 (attrUsage (s.slotK (s.keyGet m R.KEY_SEL_SLOT)).attr) (ofBytes (s.bufBytes m 16))) (keyLen (s.slotK (s.keyGet m R.KEY_SEL_SLOT)).attr))
      refine ⟨?_, act.trans (congrArg KeySlot.act (State.asked_slotK _)), onlyKey_asked only, status⟩
      rw [pend, State.newVer, State.asked_slotK]
      rfl
  · rintro s m k turn rfl may st
    refine ⟨fun usage => ?_, fun usage => ?_, fun src w use => ?_⟩
    · obtain ⟨pend, -, act, only, status⟩ := State.writePend_spec (m := m) (s.asked m) (s.keyGet m R.KEY_SEL_SLOT)
        (ofBytes (s.bufBytes m (keyLen (s.slotK (s.keyGet m R.KEY_SEL_SLOT)).attr)))
      refine .intro (exec_keyImport turn may st usage) ⟨?_, act.trans (congrArg KeySlot.act (State.asked_slotK _)), onlyKey_asked only, status⟩
      rw [pend, State.newVer, State.asked_slotK]
      rfl
    · obtain ⟨slots, status, -⟩ := State.keyDone_spec (m := m) (s.asked m) 14 (by decide)
      exact .intro (exec_keyImport_refused turn may st usage) ⟨slots.trans (congrArg KeyPart.slots State.asked_key), status⟩
    · have spec := (s.asked m).unwrapped_spec (m := m) w
      rw [State.asked_named, State.asked_sel, State.asked, State.keySet_bufBytes, State.keySet_key] at spec
      exact .intro (exec_keyUnwrap turn may st use) ⟨onlyKey_asked spec.1, spec.2⟩
  · rintro s m k v check turn rfl may pend
    have slot (x : KeySlot) {st : Nat} (fits : st < 16) : ((s.asked m).slotDone m (s.keyGet m R.KEY_SEL_SLOT) x st).slotK (s.keyGet m R.KEY_SEL_SLOT) = x ∧
        OnlyKey (s.keyGet m R.KEY_SEL_SLOT) s ((s.asked m).slotDone m (s.keyGet m R.KEY_SEL_SLOT) x st) ∧
        ((s.asked m).slotDone m (s.keyGet m R.KEY_SEL_SLOT) x st).keyGet m R.KEY_CMD_STATUS = st := by
      obtain ⟨here, only, status, -⟩ := State.slotDone_spec (m := m) (s.asked m) (s.keyGet m R.KEY_SEL_SLOT) x fits
      exact ⟨here, onlyKey_asked only, status⟩
    refine ⟨fun good => ?_, fun asked other => ?_, ?_, .intro (exec_keyDiscard turn may) (slot _ (by decide))⟩
    · refine .intro ((exec_keyVerify check true turn may pend).trans (congrArg _ (if_pos ⟨rfl, good.imp_left fun off => ?_⟩))) (slot _ (by decide))
      rw [off]
      rfl
    · obtain ⟨here, -, status⟩ := slot { s.slotK (s.keyGet m R.KEY_SEL_SLOT) with verified := false } (by decide : 6 < 16)
      refine .intro ((exec_keyVerify check true turn may pend).trans (congrArg _ (if_neg ?_))) ⟨here, status⟩
      rintro ⟨-, off | same⟩
      · rw [asked] at off
        exact absurd off (by decide)
      · exact other same
    · obtain ⟨here, -, status⟩ := slot { s.slotK (s.keyGet m R.KEY_SEL_SLOT) with verified := false } (by decide : 6 < 16)
      exact .intro ((exec_keyVerify check false turn may pend).trans (congrArg _ (if_neg fun h => absurd h.1 (by decide)))) ⟨here, status⟩
  · obtain ⟨slots, status, -⟩ := State.keyDone_spec (m := .pf1) (s.asked .pf1) 3 (by decide)
    exact .intro (exec_keyGenerate_refused turn ops) ⟨slots.trans (congrArg KeyPart.slots State.asked_key), status⟩

end Sys2Proof.Machine
end

section
/-! PROOFS.
Key versions (spec/16, R382 to R386, R390, R394).
-/
namespace Sys2Proof.Machine
open Sys2Proof

/-! # Key versions (spec/16, R382 to R386, R390, R394) -/

section

variable {s u : State} {m : Master} {k : Nat} {x : KeySlot} {v : KeyVer} {c : KeyCmd}

/-! ## What a write of the nonvolatile memory leaves of the masters -/

theorem State.level_mst (s : State) (p b : Nat) (on : Bool) (m : Master) : (s.level p b on).mst m = s.mst m := by
  unfold State.level
  dsimp only
  split
  · rw [State.raise_mst, State.wr_mst]
  · rw [State.wr_mst]

theorem State.showWear_mst (s : State) (m : Master) : s.showWear.mst m = s.mst m := by
  unfold State.showWear
  extract_lets top t on
  rw [State.level_mst, State.mst_congr (State.setFlag_host ..), State.mst_congr (State.set_host ..), State.mst_congr (State.set_host ..)]

theorem State.putRing_host (s : State) (a : NvArea) (r : NvRing) : (s.putRing a r).host = s.host := by
  cases a with
  | _ => rfl

theorem State.wearErase_mst (s : State) (j : Nat) (m : Master) : (s.wearErase j).mst m = s.mst m := (State.showWear_mst _ _).trans (State.mst_congr rfl m)

theorem State.roomFor_mst (s : State) (a : NvArea) (n : Nat) (m : Master) : (s.roomFor a n).mst m = s.mst m := by
  unfold State.roomFor
  extract_lets r j j' t
  split
  · rfl
  · rw [State.mst_congr (State.putRing_host ..)]
    show (if _ then _ else _ : State).mst m = _
    split
    · exact (State.wearErase_mst _ _ m).trans (State.mst_congr (State.putRing_host ..) m)
    · rfl

theorem State.putRec_mst (s : State) (a : NvArea) (type : Nat) (payload : List Word) (st : RecState) (time : Nat) (m : Master) :
    (s.putRec a type payload st time).mst m = s.mst m :=
  (State.mst_congr (State.putRing_host ..) m).trans (State.roomFor_mst s a _ m)

theorem State.writeFail_mst (s : State) (a : NvArea) (type : Nat) (payload : List Word) (time : Nat) (m : Master) : (s.writeFail a type payload time).mst m = s.mst m := by
  unfold State.writeFail
  rw [State.mst_congr (State.pulse_host ..), State.raise_mst, State.mst_congr (State.bump_host ..)]
  exact State.putRec_mst ..

/-- A write of the nonvolatile memory leaves what the masters keep. -/
theorem State.nvWrite_mst (s : State) (a : NvArea) (type : Nat) (payload : List Word) (ok : Bool) (time : Nat) (m : Master) :
    (s.nvWrite a type payload ok time).1.mst m = s.mst m := by
  have before : State.mst (match s.injWaits 5 with
      | some i => (if i.quiet then s else s.writeFail a type payload time).injFlag
      | none => s) m = s.mst m := by
    split
    · refine (State.mst_congr rfl m : _ = (if _ then s else s.writeFail a type payload time).mst m).trans ?_
      split
      · rfl
      · exact State.writeFail_mst ..
    · rfl
  unfold State.nvWrite
  dsimp only
  cases ok with
  | true => exact (State.mst_congr (State.bump_host ..) m).trans ((State.putRec_mst ..).trans before)
  | false => exact (State.writeFail_mst ..).trans before

/-! ## A command that stays under way: COMMIT and ERASE -/

/-- The record that starts a COMMIT or an ERASE, and its copy in the key store where the slot is persistent (R382, R384, R385). -/
def State.keySaved (u : State) (k what ver attr : Nat) (payload : List Word) : State :=
  if attrPersist attr then ((u.keyRec k what ver 1).writeKeyRec payload true).1 else u.keyRec k what ver 1

theorem State.keySaved_keeps (u : State) (k what ver attr : Nat) (payload : List Word) (m : Master) :
    (u.keySaved k what ver attr payload).key = u.key ∧ (u.keySaved k what ver attr payload).mst m = u.mst m := by
  have noted : (u.keyRec k what ver 1).mst m = u.mst m := State.mst_congr (State.trig_host ..) m
  unfold State.keySaved
  split
  · exact ⟨Within.key_eq (.writeKeyRec (.keyRec (.refl u)) (by decide)), (State.nvWrite_mst ..).trans noted⟩
  · exact ⟨Within.key_eq (.keyRec (.refl u)), noted⟩

/-- The command stays under way in KV. -/
def State.underWay (u : State) (c : KeyCmd) (k : Nat) : State := { u with key := { u.key with running := some { c with slot := k } } }

theorem State.underWay_spec (u : State) (c : KeyCmd) (k : Nat) : ((u.underWay c k).keyRun []).key.slots = u.key.slots ∧
    ((u.underWay c k).keyRun []).key.running = some { c with slot := k } ∧ ((u.underWay c k).keyRun []).mst m = u.mst m := by
  unfold State.keyRun State.underWay
  exact ⟨rfl, rfl, (State.updKey_mst ..).trans (State.updKey_mst ..)⟩

theorem State.asked_status : (s.asked m).keyGet m R.KEY_CMD_STATUS = 1 := State.keySet_keyGet_same _ _ _ _ (by decide) (by decide)

/-- What is saved when a command of KV stays under way. -/
theorem State.underWay_saved (s : State) (m : Master) (c : KeyCmd) (k what ver attr : Nat) (payload : List Word) :
    (((((s.asked m).keySaved k what ver attr payload).underWay c k).keyRun []).key.slots = s.key.slots) ∧
    ((((s.asked m).keySaved k what ver attr payload).underWay c k).keyRun []).keyGet m R.KEY_CMD_STATUS = 1 ∧
    ((((s.asked m).keySaved k what ver attr payload).underWay c k).keyRun []).key.running = some { c with slot := k } := by
  obtain ⟨key, host⟩ := (s.asked m).keySaved_keeps k what ver attr payload m
  obtain ⟨slots, running, mst⟩ := ((s.asked m).keySaved k what ver attr payload).underWay_spec (m := m) c k
  exact ⟨slots.trans (congrArg KeyPart.slots (key.trans State.asked_key)), (State.keyGet_congr (mst.trans host) _).trans State.asked_status, running⟩

/-- With a good record the command stays under way. -/
theorem State.keyStarts {what ver attr : Nat} {payload : List Word} (ok : c.nvOk = true) :
    (let r := if attrPersist attr then (u.keyRec k what ver 1).writeKeyRec payload c.nvOk else (u.keyRec k what ver 1, true)
      if r.2 then r.1.underWay c k else r.1.keyDone c.m 12) = (u.keySaved k what ver attr payload).underWay c k := by
  unfold State.keySaved
  rw [ok]
  dsimp only
  by_cases persist : attrPersist attr = true
  · rw [if_pos persist, if_pos persist]
    exact if_pos (State.nvWrite_ok ..)
  · rw [if_neg persist, if_neg persist, if_pos rfl]

theorem State.startCommit_unverified {root : Nat} (pend : (u.slotK k).pend = some v) (has : u.root = some root) (verified : (u.slotK k).verified = false) :
    u.startCommit c k = u.keyDone c.m 5 := by
  unfold State.startCommit
  simp only [pend, has, verified]
  rfl

theorem State.startCommit_starts {root : Nat} (pend : (u.slotK k).pend = some v) (has : u.root = some root) (verified : (u.slotK k).verified = true)
    (old : (u.slotK k).old = none) (apart : ¬ (attrUsage (u.slotK k).attr = 4 ∧ u.pairHeld (attrSpp (u.slotK k).attr) v.keyId = true)) (ok : c.nvOk = true) :
    u.startCommit c k = (u.keySaved k 7 v.num (u.slotK k).attr (commitPayload k (u.slotK k) v root)).underWay c k := by
  unfold State.startCommit
  simp only [pend, has, verified, old]
  exact (if_neg Bool.false_ne_true).trans ((if_neg Bool.false_ne_true).trans ((if_neg apart).trans (State.keyStarts ok)))

theorem State.startErase_free (st : (u.slotK k).st = 0) : u.startErase c k = u.keyDone c.m 2 := if_pos st

theorem State.startErase_starts (st : (u.slotK k).st ≠ 0) (ok : c.nvOk = true) : u.startErase c k =
    (u.keySaved k 10 0 (u.slotK k).attr [BitVec.ofNat 36 (2 * 2 ^ 32 + k), BitVec.ofNat 36 (u.slotK k).attr, BitVec.ofNat 36 (u.slotK k).grace]).underWay c k :=
  (if_neg st).trans (State.keyStarts ok)

theorem exec_keyCommit {ack : Nat} (turn : KeyTurn s m) (may : s.mayAsk m 7) : exec (.keyCommit m true ack) s =
    .next (((s.asked m).startCommit { plainCmd m 7 with nvOk := true, ackAt := s.voteTime ack } (s.keyGet m R.KEY_SEL_SLOT)).keyRun []) := by
  rw [← State.asked_sel (m := m)]
  exact congrArg _ (State.keyAsk_allowed { plainCmd m 7 with nvOk := true, ackAt := s.voteTime ack } turn may fun latch lcy ops =>
    (if_neg latch).trans ((if_neg lcy).trans (if_neg ops)))

theorem exec_keyErase (turn : KeyTurn s m) (may : s.mayAsk m 10) : exec (.keyErase m true) s =
    .next (((s.asked m).startErase { plainCmd m 10 with nvOk := true } (s.keyGet m R.KEY_SEL_SLOT)).keyRun []) := by
  rw [← State.asked_sel (m := m)]
  exact congrArg _ (State.keyAsk_allowed { plainCmd m 10 with nvOk := true } turn may fun latch lcy ops => (if_neg latch).trans ((if_neg lcy).trans (if_neg ops)))

/-! ## The end of a command under way -/

theorem State.putSlotK_key (u : State) (k : Nat) (x : KeySlot) : (u.putSlotK k x).key = { u.key with slots := kvPut u.key.slots k x } := by
  unfold State.putSlotK
  exact State.set_key ..

theorem State.putSlotK_slotK (u : State) (k : Nat) (x : KeySlot) : (u.putSlotK k x).slotK k = x ∧ OnlyKey k u (u.putSlotK k x) := by
  refine ⟨?_, fun j ne => ?_⟩
  · rw [State.slotK, State.putSlotK_slots]
    exact kvGetD_kvPut_same ..
  · rw [State.slotK, State.putSlotK_slots]
    exact kvGetD_kvPut_other _ _ _ _ _ ne

/-- KV runs nothing. -/
def State.keyIdle (u : State) : State := { u with key := { u.key with running := none } }

theorem State.endRunning_eq {st : Nat} (running : u.key.running = some c) (waiting : u.key.waiting = []) : u.endRunning st = (u.keyIdle.keyDone c.m st).keyRun [] := by
  have none : (u.keyIdle.keyDone c.m st).key.waiting = [] := (congrArg KeyPart.waiting (State.keyDone_key ..)).trans waiting
  unfold State.endRunning
  simp only [running]
  show (u.keyIdle.keyDone c.m st).keyRun (u.keyIdle.keyDone c.m st).key.waiting = _
  rw [none]

/-- The command under way completes and nothing follows it (R378). -/
theorem State.endRunning_spec {st : Nat} (fits : st < 16) (running : u.key.running = some c) (waiting : u.key.waiting = []) :
    (u.endRunning st).key.slots = u.key.slots ∧ (u.endRunning st).key.running = none ∧ (u.endRunning st).keyGet c.m R.KEY_CMD_STATUS = st ∧
      ∀ {bit : Nat}, Event u P.KEY bit → Event (u.endRunning st) P.KEY bit := by
  obtain ⟨slots, status, -⟩ := State.keyDone_spec (m := c.m) u.keyIdle st fits
  rw [State.endRunning_eq running waiting]
  exact ⟨slots, congrArg KeyPart.running (u.keyIdle.keyDone_key c.m st :), status, fun event => Within.event (.updKey (.keyDone (.updKey (.refl u) rfl) (by decide)) rfl) event⟩

/-- The slot in which a version has become ACTIVE (R382, R383). -/
def State.activeSlot (s : State) (c : KeyCmd) (v : KeyVer) : KeySlot :=
  { s.slotK c.slot with pend := none, verified := false, act := some v, old := (s.slotK c.slot).act, draining := false,
                        graceEnd := if (s.slotK c.slot).act.isSome then some (s.ax.mark + (s.slotK c.slot).grace * secU) else none }

theorem exec_activated (running : s.key.running = some c) (op : c.op = 7) (pend : (s.slotK c.slot).pend = some v) (due : c.ackAt + 100000 * nsU ≤ s.ax.mark) :
    exec .activated s = .next (((s.putSlotK c.slot (s.activeSlot c v)).keyEvt E.KEY_ACTIVATED c.slot v.num).endRunning 2) := by
  show execActivated s = _
  unfold execActivated
  simp only [running, pend]
  exact congrArg _ (if_neg (by omega))

/-! ## REVOKE -/

/-- REVOKE's clause (R380). -/
def State.revoked (u : State) (m : Master) (k : Nat) : State :=
  if (u.slotK k).old.isSome ∧ !(u.slotK k).draining then (u.putSlotK k { u.slotK k with graceEnd := none }).keyDone m 2 else u.keyDone m 5

theorem exec_keyRevoke (turn : KeyTurn s m) (may : s.mayAsk m 9) (old : (s.slotK (s.keyGet m R.KEY_SEL_SLOT)).old.isSome = true)
    (grace : (s.slotK (s.keyGet m R.KEY_SEL_SLOT)).draining = false) :
    exec (.keyRevoke m) s = .next ((s.asked m).slotDone m (s.keyGet m R.KEY_SEL_SLOT) { s.slotK (s.keyGet m R.KEY_SEL_SLOT) with graceEnd := none } 2) := by
  rw [← State.asked_named (m := m)] at old grace
  rw [← State.asked_named (m := m), ← State.asked_sel (m := m)]
  refine congrArg _ ((State.keyAsk_allowed (x := (s.asked m).revoked m ((s.asked m).keyGet m R.KEY_SEL_SLOT)) (plainCmd m 9) turn may fun latch lcy ops =>
    (if_neg latch).trans ((if_neg lcy).trans (if_neg ops))).trans ?_)
  unfold State.revoked
  rw [if_pos ⟨old, by rw [grace]; rfl⟩]
  rfl

/-! ## MINT -/

/-- One cookie minted: its words, and the random bytes that it takes (R390). -/
def cookieStep (k num key : Nat) (p : List Nat) (acc : List Word × State) : List Word × State :=
  (acc.1 ++ packWords (makeCookie k num key (bytesBE 16 (acc.2.drbg.1 % 2 ^ 128)) (takeBytes p 66)) 25, acc.2.drbg.2)

/-- `n` cookies minted one after the other. -/
def State.cookies (u : State) (k num key : Nat) (p : List Nat) (n : Nat) : List Word × State := (List.range n).foldl (fun acc _ => cookieStep k num key p acc) ([], u)

/-- A cookie begins with its slot and its version (R390). -/
theorem cookie_head (k num key : Nat) (nonce plain : List Nat) :
    ∃ w ws, packWords (makeCookie k num key nonce plain) 25 = w :: ws ∧ w.toNat / 2 ^ 16 = k % 256 * 256 + num % 256 := by
  refine ⟨_, _, rfl, ?_⟩
  have word (a b c d : Nat) : ofBytes [a, b, c, d] = ((a % 256 * 256 + b % 256) * 256 + c % 256) * 256 + d % 256 := by simp [ofBytes]
  have first : (List.range 4).map (fun j => (makeCookie k num key nonce plain).getD (4 * 0 + j) 0) =
      [k, num, (makeCookie k num key nonce plain).getD 2 0, (makeCookie k num key nonce plain).getD 3 0] := rfl
  dsimp only
  rw [first, word, BitVec.toNat_ofNat]
  omega

theorem cookies_head {num key n : Nat} {p : List Nat} (some : 1 ≤ n) : ∃ w ws, (u.cookies k num key p n).1 = w :: ws ∧ w.toNat / 2 ^ 16 = k % 256 * 256 + num % 256 := by
  have later (w : Word) (l : List Nat) (acc : List Word × State) (starts : ∃ ws, acc.1 = w :: ws) : ∃ ws, (l.foldl (fun acc _ => cookieStep k num key p acc) acc).1 = w :: ws := by
    induction l generalizing acc with
    | nil => exact starts
    | cons _ l ih =>
      obtain ⟨ws, is⟩ := starts
      exact ih _ ⟨ws ++ packWords (makeCookie k num key (bytesBE 16 (acc.2.drbg.1 % 2 ^ 128)) (takeBytes p 66)) 25, congrArg (· ++ _) is⟩
  obtain ⟨n, rfl⟩ := Nat.exists_eq_add_of_le' some
  obtain ⟨w, ws, first, head⟩ := cookie_head k num key (bytesBE 16 (u.drbg.1 % 2 ^ 128)) (takeBytes p 66)
  unfold State.cookies
  rw [List.range_succ_eq_map, List.foldl_cons]
  obtain ⟨ws', is⟩ := later w ((List.range n).map Nat.succ) (cookieStep k num key p ([], u)) ⟨ws, first⟩
  exact ⟨w, ws', is, head⟩

theorem cookies_keeps {num key n : Nat} {p : List Nat} : (u.cookies k num key p n).2.key.slots = u.key.slots ∧
    (u.cookies k num key p n).2.get R.KEY_MINTED_COUNT = u.get R.KEY_MINTED_COUNT :=
  ⟨foldl_keeps_of_mem (fun acc _ => cookieStep k num key p acc) (fun acc => acc.2.key.slots) _ (fun _ _ _ => rfl) _,
    foldl_keeps_of_mem (fun acc _ => cookieStep k num key p acc) (fun acc => acc.2.get R.KEY_MINTED_COUNT) _
      (fun acc _ _ => Within.get_eq (.drbg (.refl acc.2) (by decide))) _⟩

theorem State.putBuf_keeps (u : State) (m : Master) (ws : List Word) : (u.putBuf m ws).key = u.key :=
  foldl_keeps_of_mem _ State.key _ (fun _ _ _ => State.putMst_key ..) _

/-- The buffer begins with the first word put into it. -/
theorem State.putBuf_first (u : State) (m : Master) (w : Word) (ws : List Word) : (u.putBuf m (w :: ws)).bufWord m 0 = w := by
  unfold State.putBuf
  rw [List.zipIdx_cons, List.foldl_cons]
  refine (foldl_keeps_of_mem _ (fun t : State => t.bufWord m 0) _ (fun t p mem => ?_) _).trans ?_
  · have later : p.2 ≠ 0 := by have := List.le_snd_of_mem_zipIdx mem; omega
    unfold State.bufWord
    rw [State.mst_putMst_same]
    exact kvGetD_kvPut_other _ _ _ _ _ later.symm
  · unfold State.bufWord
    rw [State.mst_putMst_same]
    exact kvGetD_kvPut_same ..

theorem State.useKey_active {a : KeyVer} {usage : Nat} (is : attrUsage (s.slotK k).attr = usage) (st : (s.slotK k).st = 1)
    (master : bitOn (s.slotK k).attr (masterBit m) = true) (lcs : attrLcs (s.slotK k).attr s.lcs = true) (act : (s.slotK k).act = some a) :
    s.useKey m k usage = .inl a := by
  unfold State.useKey
  simp only [is, st, master, lcs, act]
  exact (if_neg (by simp)).trans ((if_neg (by decide)).trans (if_neg (by decide)))

theorem State.mintCookies_eq {a : KeyVer} (use : u.useKey m k 1 = .inl a) (plain : u.keyGet m R.KEY_MINT_SEALED = 0) (tag : ofBytes ((u.bufBytes m 66).take 2) = 0x000F)
    (some : 1 ≤ u.keyGet m R.KEY_MINT_COUNT) (few : u.keyGet m R.KEY_MINT_COUNT ≤ 8) :
    u.mintCookies m k = (((u.cookies k a.num a.key (u.bufBytes m 66) (u.keyGet m R.KEY_MINT_COUNT)).2.putBuf m
      (u.cookies k a.num a.key (u.bufBytes m 66) (u.keyGet m R.KEY_MINT_COUNT)).1).bumpBy R.KEY_MINTED_COUNT (u.keyGet m R.KEY_MINT_COUNT)).keyDone m 2 := by
  have open_ : u.mintPlain m = .inl (u.bufBytes m 66) := if_pos (by rw [plain]; decide)
  unfold State.mintCookies
  simp only [use, open_]
  exact if_neg (by rw [tag]; omega)

theorem exec_keyMint (turn : KeyTurn s m) (may : s.mayAsk m 11) :
    exec (.keyMint m) s = .next (((s.asked m).mintCookies m (s.keyGet m R.KEY_SEL_SLOT)).keyRun []) := by
  rw [← State.asked_sel (m := m)]
  exact congrArg _ (State.keyAsk_allowed (plainCmd m 11) turn may fun latch lcy ops => (if_neg latch).trans ((if_neg lcy).trans (if_neg ops)))

/-- What the host finds after MINT (R390). -/
theorem State.minted_spec {num key n : Nat} {p : List Nat} (some : 1 ≤ n) (t : State)
    (is : t = ((((u.cookies k num key p n).2.putBuf m (u.cookies k num key p n).1).bumpBy R.KEY_MINTED_COUNT n).keyDone m 2).keyRun []) :
    t.keyGet m R.KEY_CMD_STATUS = 2 ∧ t.key.slots = u.key.slots ∧ (t.bufWord m 0).toNat / 2 ^ 16 = k % 256 * 256 + num % 256 ∧
      t.get R.KEY_MINTED_COUNT = min (u.get R.KEY_MINTED_COUNT + n) (2 ^ 36 - 1) := by
  obtain ⟨w, ws, words, head⟩ := cookies_head (u := u) (k := k) (num := num) (key := key) (p := p) some
  obtain ⟨slots, count⟩ := cookies_keeps (u := u) (k := k) (num := num) (key := key) (p := p) (n := n)
  obtain ⟨kept, status, -⟩ := State.keyDone_spec (m := m) (((u.cookies k num key p n).2.putBuf m (u.cookies k num key p n).1).bumpBy R.KEY_MINTED_COUNT n) 2 (by decide)
  have buf (x : State) : ((x.keyDone m 2).keyRun []).bufWord m 0 = x.bufWord m 0 := by
    have host : ((x.keyDone m 2).keyRun []).mst m = (x.keySet m R.KEY_CMD_STATUS 2).mst m := by
      unfold State.keyRun State.keyDone
      rw [State.updKey_mst, State.raise_mst]
    rw [State.bufWord, host]
    exact State.keySet_bufWord ..
  refine ⟨is ▸ status, ?_, ?_, ?_⟩
  · rw [is, kept, State.bumpBy_key, State.putBuf_keeps, slots]
  · have first (x : State) : (x.bumpBy R.KEY_MINTED_COUNT n).bufWord m 0 = x.bufWord m 0 := by rw [State.bufWord, State.mst_congr (State.bumpBy_host ..), ← State.bufWord]
    rw [is, buf, first, words, State.putBuf_first, head]
  · rw [is]
    unfold State.keyRun
    rw [Within.get_eq (.updKey (.keyDone (.refl _) (by decide)) rfl), State.bumpBy_get_same _ R.KEY_MINTED_COUNT n (by decide), Within.get_eq (.putBuf (.refl _)), count]

/-! ## RELOAD -/

theorem State.keyLoadAll_alive (u : State) : u.keyLoadAll.key.alive = true := by
  unfold State.keyLoadAll
  extract_lets _ drain _ s1 cut s2 s3
  have shown : (((s3.set R.KEY_STATUS_ZEROIZED 0).set R.KEY_STATUS_SUPPRESSED 0).showKeys.showPub).key = s3.key :=
    Within.key_eq (.showPub (.showKeys (.set (.set (.refl s3) (by decide)) (by decide)) (by decide)) (by decide))
  have s2_s1 : s2.key = s1.key := foldl_keep (fun t _ => (t.bump R.KEY_ROLLBACKS_COUNT).keyEvt E.KEY_KEY_ROLLBACK 0 0) State.key (fun t _ => by rw [State.keyEvt_key, State.bump_key]) _ _
  have s3_s2 : s3.key.alive = s2.key.alive := by
    refine foldl_keep _ (fun t => t.key.alive) (fun t p => ?_) _ _
    dsimp only
    split
    · rfl
    · split
      · rw [State.keyEvt_key, State.putSlotK_key]
      · rw [State.putSlotK_key]
  rw [shown, s3_s2, s2_s1]

theorem State.keyLoadAll_zeroized (u : State) : u.keyLoadAll.get R.KEY_STATUS_ZEROIZED = 0 := by
  unfold State.keyLoadAll
  extract_lets _ drain _ s1 cut s2 s3
  rw [Within.get_eq (.showPub (.showKeys (.set (.refl _) (by decide)) (by decide)) (by decide))]
  exact State.get_set_same _ _ _ (by decide)

theorem exec_keyReload (turn : KeyTurn s m) (may : s.mayAsk m 12) (master : m ≠ .pf1) (lcs : s.lcs ≠ 4) :
    exec (.keyReload m) s = .next (((s.asked m).keyLoadAll.keyDone m 2).keyRun []) := by
  have lcs' : (s.asked m).lcs ≠ 4 := by
    unfold State.lcs at lcs ⊢
    rwa [State.asked_key]
  exact congrArg _ (State.keyAsk_allowed (plainCmd m 12) turn may fun latch lcy ops => (if_neg latch).trans ((if_neg lcy).trans ((if_neg ops).trans
    ((if_neg master).trans (if_neg lcs')))))

theorem State.reloaded_spec (u : State) : ((u.keyLoadAll.keyDone m 2).keyRun []).key.alive = true ∧ ((u.keyLoadAll.keyDone m 2).keyRun []).get R.KEY_STATUS_ZEROIZED = 0 ∧
    ((u.keyLoadAll.keyDone m 2).keyRun []).keyGet m R.KEY_CMD_STATUS = 2 := by
  obtain ⟨-, status, -⟩ := State.keyDone_spec (m := m) u.keyLoadAll 2 (by decide)
  refine ⟨(congrArg KeyPart.alive (u.keyLoadAll.keyDone_key m 2) :).trans u.keyLoadAll_alive, ?_, status⟩
  unfold State.keyRun
  rw [Within.get_eq (.updKey (.keyDone (.refl _) (by decide)) rfl), State.keyLoadAll_zeroized]

/-! ## A version is freed (R383) -/

theorem State.pinned_congr {t : State} (same : t.key.msgs = s.key.msgs) (k : Nat) (v : KeyVer) : t.pinned k v = s.pinned k v := by
  unfold State.pinned
  rw [same]

theorem State.keyEvt_event (u : State) (b slot ver : Nat) (fits : b < 36) : Event (u.keyEvt b slot ver) P.KEY b :=
  Within.event (.keyRec (.refl _)) (event_raise _ _ _ fits)

/-- The slot without its draining version. -/
def State.freedSlot (u : State) (k : Nat) : KeySlot := { u.slotK k with old := none, draining := false, graceEnd := none }

theorem State.freeOld_free (old : (u.slotK k).old = some v) (draining : (u.slotK k).draining = true) (free : u.pinned k v = false) :
    u.freeOld k = (u.putSlotK k (u.freedSlot k)).keyEvt E.KEY_FREED k v.num := by
  unfold State.freeOld
  simp only [old]
  have unpinned : (u.slotK k).draining = true ∧ (!u.pinned k v) = true := ⟨draining, by rw [free]; rfl⟩
  exact if_pos unpinned

theorem State.freeOld_pinned (old : (u.slotK k).old = some v) (pinned : u.pinned k v = true) : u.freeOld k = u := by
  unfold State.freeOld
  simp only [old]
  exact if_neg fun h => absurd ((congrArg not pinned).symm.trans h.2) (by decide)

/-- What is freed is gone from its slot, with its event; no other slot differs. -/
theorem State.freeOld_spec (old : (u.slotK k).old = some v) (draining : (u.slotK k).draining = true) (free : u.pinned k v = false) :
    (u.freeOld k).slotK k = u.freedSlot k ∧ OnlyKey k u (u.freeOld k) ∧ Event (u.freeOld k) P.KEY E.KEY_FREED := by
  rw [State.freeOld_free old draining free]
  obtain ⟨slot, only⟩ := u.putSlotK_slotK k (u.freedSlot k)
  have same := State.slotK_congr (congrArg KeyPart.slots ((u.putSlotK k (u.freedSlot k)).keyEvt_key E.KEY_FREED k v.num))
  exact ⟨(same k).trans slot, fun j ne => (same j).trans (only j ne), State.keyEvt_event _ _ _ _ (by decide)⟩

/-- The RETIRING version's grace has ended. -/
def State.graceOver (s : State) (k : Nat) : State := s.putSlotK k { s.slotK k with draining := true }

theorem exec_keyGraceEnd {e : Int} (low : k < 256) (old : (s.slotK k).old = some v) (grace : (s.slotK k).draining = false) (ends : (s.slotK k).graceEnd = some e)
    (from_ : 0 ≤ e) (due : e ≤ s.ax.mark) : exec (.keyGraceEnd k) s = .next ((s.graceOver k).freeOld k) := by
  show execKeyGraceEnd k s = _
  unfold execKeyGraceEnd
  rw [withUnit_next low]
  have passed : (s.slotK k).old.isSome = true ∧ (!(s.slotK k).draining) = true ∧ (match (s.slotK k).graceEnd with
      | some t => decide (0 ≤ t) && decide (t ≤ s.ax.mark)
      | none => false) = true := by
    rw [old, grace, ends]
    exact ⟨rfl, rfl, Bool.and_eq_true_iff.mpr ⟨decide_eq_true from_, decide_eq_true due⟩⟩
  exact congrArg _ (if_pos passed)

theorem exec_freed (low : k < 256) : exec (.freed k) s = .next (s.freeOld k) := by
  show execFreed k s = _
  unfold execFreed
  rw [withUnit_next low]

/-! ## Pins -/

/-- KV has taken the message of a coach. -/
def State.pinTaken (s : State) (c : Nat) (pin : Bool) (k ver : Nat) : State :=
  { s with key := { s.key with msgs := s.key.msgs.erase (c, pin, k, ver) } }.putSlotK k ((s.slotK k).bumpPin ver pin)

theorem State.takePin_eq {c ver : Nat} {pin : Bool} (oldest : s.key.msgs.find? (fun q => decide (q.1 = c)) = some (c, pin, k, ver)) (open_ : s.linkOpen (8 + c) islKV 0 = true) :
    s.takePin c pin = s.pinTaken c pin k ver := by
  unfold State.takePin
  simp only [oldest]
  exact if_pos ⟨trivial, open_⟩

theorem State.pinTaken_spec (s : State) (c : Nat) (pin : Bool) (k ver : Nat) : (s.pinTaken c pin k ver).slotK k = (s.slotK k).bumpPin ver pin ∧
    (s.pinTaken c pin k ver).key.msgs = s.key.msgs.erase (c, pin, k, ver) ∧ OnlyKey k s (s.pinTaken c pin k ver) := by
  unfold State.pinTaken
  obtain ⟨slot, only⟩ := State.putSlotK_slotK { s with key := { s.key with msgs := s.key.msgs.erase (c, pin, k, ver) } } k ((s.slotK k).bumpPin ver pin)
  exact ⟨slot, congrArg KeyPart.msgs (State.putSlotK_key ..), only⟩

theorem exec_keyPin {c : Nat} (low : c < 6) : exec (.keyPin c) s = .next (s.takePin c true) := by
  show execKeyPin c s = _
  unfold execKeyPin
  rw [withUnit_next low]

theorem exec_keyRelease {c : Nat} (low : c < 6) : exec (.keyRelease c) s = .next (s.takePin c false) := by
  show execKeyRelease c s = _
  unfold execKeyRelease
  rw [withUnit_next low]

/-! ## A slot is lost or erased -/

theorem exec_keyMemoryError (low : k < 256) : exec (.keyMemoryError k) s = .next (((s.putSlotK k (s.wiped k)).showZeroized k).pulse 19) := by
  show execKeyMemoryError k s = _
  unfold execKeyMemoryError
  rw [withUnit_next low]

theorem State.memoryError_slots (s : State) (k : Nat) : (((s.putSlotK k (s.wiped k)).showZeroized k).pulse 19).key.slots = (s.putSlotK k (s.wiped k)).key.slots :=
  congrArg KeyPart.slots (Within.key_eq (.pulse (.showZeroized (.refl _) (by decide)) (by decide)))

theorem exec_keyEraseDone (low : k < 256) (st : ((s.freeGone k).slotK k).st = 2) (gone : ((s.freeGone k).slotK k).gone = []) :
    exec (.keyEraseDone k) s = .next (((s.freeGone k).putSlotK k .init).endRunning 2) := by
  show execKeyEraseDone k s = _
  unfold execKeyEraseDone
  rw [withUnit_next low]
  exact congrArg _ (if_pos ⟨st, gone⟩)

/-- Once no pin is left every version that was ended is freed (R384). -/
theorem State.freeGone_spec (drained : ∀ v ∈ (s.slotK k).gone, s.pinned k v = false) : ((s.freeGone k).slotK k).st = (s.slotK k).st ∧ ((s.freeGone k).slotK k).gone = [] ∧
    OnlyKey k s (s.freeGone k) ∧ (s.freeGone k).key.running = s.key.running ∧ (s.freeGone k).key.waiting = s.key.waiting := by
  have all : (s.slotK k).gone.filter (fun v => !s.pinned k v) = (s.slotK k).gone := List.filter_eq_self.mpr fun v is => by rw [drained v is]; rfl
  have none : (s.slotK k).gone.filter (s.pinned k) = [] := List.filter_eq_nil_iff.mpr fun v is => by rw [drained v is]; decide
  unfold State.freeGone
  extract_lets x l
  by_cases empty : (s.slotK k).gone = []
  · rw [if_pos (all.trans empty)]
    exact ⟨rfl, empty, fun _ _ => rfl, rfl, rfl⟩
  · rw [if_neg (by rw [show l = _ from all]; exact empty)]
    have key : (l.foldl (fun t v => t.keyEvt E.KEY_FREED k v.num) (s.putSlotK k { x with gone := x.gone.filter (s.pinned k) })).key =
        (s.putSlotK k { x with gone := x.gone.filter (s.pinned k) }).key :=
      foldl_keep (fun t (v : KeyVer) => t.keyEvt E.KEY_FREED k v.num) State.key (fun t v => t.keyEvt_key _ _ _) _ _
    obtain ⟨slot, only⟩ := s.putSlotK_slotK k { x with gone := x.gone.filter (s.pinned k) }
    have same := State.slotK_congr (congrArg KeyPart.slots key)
    refine ⟨?_, ?_, fun j ne => (same j).trans (only j ne), ?_, ?_⟩
    · rw [same, slot]
    · rw [same, slot]
      exact none
    · rw [key, State.putSlotK_key]
    · rw [key, State.putSlotK_key]

theorem exec_drbgReseed (many : 2 ^ 20 ≤ s.key.drbg) : exec .drbgReseed s = .next { s with key := { s.key with drbg := 0 } } :=
  congrArg Host.Outcome.next (if_pos many)

/-! ## The store's halves (R385) -/

/-- Every record of the key store is a KEY record. -/
def State.onlyKeyRecs (s : State) : Prop := ∀ r ∈ (s.ringOf .keyStore).recs, r.type = 2

theorem State.onlyKeyRecs_congr {t : State} (same : t.ringOf .keyStore = s.ringOf .keyStore) (h : s.onlyKeyRecs) : t.onlyKeyRecs := by
  unfold State.onlyKeyRecs
  rwa [same]

theorem State.onlyKeyRecs_roomFor (n : Nat) (h : s.onlyKeyRecs) : (s.roomFor .keyStore n).onlyKeyRecs := by
  unfold State.roomFor
  extract_lets r j j' t
  split
  · exact h
  · have left : t.onlyKeyRecs := by
      unfold t
      split
      · intro x mem
        unfold State.eraseAreaSector at mem
        rw [ringOf_wearErase, ringOf_putRing_same] at mem
        exact h x (List.mem_filter.mp mem).1
      · exact h
    intro x mem
    rw [ringOf_putRing_same] at mem
    exact left x mem

theorem State.onlyKeyRecs_putRec {payload : List Word} {st : RecState} {time : Nat} (h : s.onlyKeyRecs) : (s.putRec .keyStore 2 payload st time).onlyKeyRecs := by
  unfold State.putRec
  extract_lets n t r seq
  intro x mem
  rw [ringOf_putRing_same] at mem
  rcases List.mem_append.mp mem with old | new
  · exact State.onlyKeyRecs_roomFor n h x old
  · rw [List.mem_singleton.mp new]

theorem State.onlyKeyRecs_nvPut {payload : List Word} {time : Nat} (h : s.onlyKeyRecs) : (s.nvPut .keyStore 2 payload time).onlyKeyRecs := by
  have failed : (s.writeFail .keyStore 2 payload time).onlyKeyRecs := by
    unfold State.writeFail
    exact State.onlyKeyRecs_congr (ringOf_congr (Within.nvm_eq (.pulse (.raise (.bump (.refl _) (by decide)) (by decide)) (by decide))) _) (State.onlyKeyRecs_putRec h)
  unfold State.nvPut State.nvWrite
  dsimp only
  refine State.onlyKeyRecs_congr (bump_ringOf _ _ _) (State.onlyKeyRecs_putRec ?_)
  split
  · show (if _ then s else s.writeFail .keyStore 2 payload time).onlyKeyRecs
    split
    · exact h
    · exact failed
  · exact h

theorem exec_keyStoreCompact_spec (s : State) : Completes .keyStoreCompact s fun t => t.key.half = 1 - s.key.half ∧ t.key.slots = s.key.slots ∧ ∀ r ∈ t.nvm.keyStore.recs, r.type = 2 := by
  refine .intro rfl ?_
  extract_lets keep half _ s1 sec s2 s3
  have put {l : List NvRec} {C : Cap} {t u : State} (h : Within C t u) (may : Ok.nvPut C) : Within C t (l.foldl (fun t (r : NvRec) => t.nvPut .keyStore 0x02 r.payload) u) :=
    .foldl h fun _ _ _ h => h.nvPut may
  have key : (keep.foldl (fun t (r : NvRec) => t.nvPut .keyStore 0x02 r.payload) s3).key = s1.key :=
    Within.key_eq (put (.putRing (.foldl (.refl s1) fun _ _ _ h => h.wearErase (by decide)) (by decide)) (by decide))
  refine ⟨(congrArg KeyPart.half key :), (congrArg KeyPart.slots key :), ?_⟩
  have empty : s3.onlyKeyRecs := fun r mem => by
    rw [ringOf_putRing_same] at mem
    cases mem
  exact List.foldlRecOn (motive := State.onlyKeyRecs) keep _ empty fun _ h _ _ => State.onlyKeyRecs_nvPut h

/-! ## The data buffer (R380) -/

/-- What an access to the buffer leaves: the index has moved on. -/
def State.idxMoved (s : State) (m : Master) (x : MasterState) : State := (s.putMst m x).keySet m R.KEY_DATA_IDX_IDX (s.keyGet m R.KEY_DATA_IDX_IDX + 1)

theorem exec_keyDataAccess_write {w : Word} (opened : Open s m R.KEY_DATA) : exec (.keyDataAccess m (some w)) s =
    .next (s.idxMoved m { s.mst m with keyBuf := kvPut (s.mst m).keyBuf (s.keyGet m R.KEY_DATA_IDX_IDX) (BitVec.ofNat 36 (w.toNat % 2 ^ 32)) }) :=
  congrArg _ (hostWrite_open opened)

theorem exec_keyDataAccess_read (opened : Open s m R.KEY_DATA) : exec (.keyDataAccess m none) s =
    .next (s.idxMoved m { s.mst m with readData := s.bufWord m (s.keyGet m R.KEY_DATA_IDX_IDX) }) := by
  obtain ⟨up, alive, -⟩ := opened
  have alive' : ¬ s.pageDead P.KEY = true := fun dead => absurd (dead.symm.trans alive) (by decide)
  exact congrArg _ ((if_neg (by rw [up]; decide)).trans (if_neg alive'))

theorem State.idxMoved_idx (x : MasterState) :
    (s.idxMoved m x).keyGet m R.KEY_DATA_IDX_IDX = (s.keyGet m R.KEY_DATA_IDX_IDX + 1) % 2 ^ R.KEY_DATA_IDX_IDX.w := by
  unfold State.idxMoved
  rw [State.keyGet_eq, State.keySet_word, if_pos rfl, Fld.of_put _ _ _ (by decide)]

theorem State.idxMoved_kept (s : State) (m : Master) (x : MasterState) : ((s.idxMoved m x).mst m).keyBuf = x.keyBuf ∧ ((s.idxMoved m x).mst m).readData = x.readData := by
  unfold State.idxMoved
  rw [State.keySet_eq, State.mst_putMst_same, State.mst_putMst_same]
  exact ⟨rfl, rfl⟩

end

/-- Settles O32. -/
theorem keyVersionsActivateRetireAndGo : Obligations.KeyVersionsActivateRetireAndGo := by
  refine ⟨?_, fun s c v running op pend due idle => ?_, ?_, fun s k v low old => ⟨?_, fun draining free => ?_⟩, fun s c k ver lowC low open_ => ⟨fun oldest => ?_, fun oldest => ?_⟩,
    fun s k low => ?_, fun s k c low st drained running idle => ?_, fun s => ⟨fun many => ?_, exec_keyStoreCompact_spec s⟩, fun s m w opened => ⟨?_, ?_⟩⟩
  · rintro s m k ack root v turn rfl may pend has old apart
    have slot : (s.asked m).slotK (s.keyGet m R.KEY_SEL_SLOT) = s.slotK (s.keyGet m R.KEY_SEL_SLOT) := State.asked_slotK _
    have root' : (s.asked m).root = some root := (State.root_congr State.asked_key).trans has
    have pend' := (congrArg KeySlot.pend slot).trans pend
    refine ⟨fun verified => ?_, fun verified => ?_⟩
    · obtain ⟨slots, status, -⟩ := State.keyDone_spec (m := m) (s.asked m) 5 (by decide)
      refine .intro ((exec_keyCommit turn may).trans (congrArg (fun u : State => Host.Outcome.next (u.keyRun []))
        (State.startCommit_unverified pend' root' ((congrArg KeySlot.verified slot).trans verified)))) ⟨slots.trans (congrArg KeyPart.slots State.asked_key), status⟩
    · have starts := State.startCommit_starts (c := { plainCmd m 7 with nvOk := true, ackAt := s.voteTime ack }) pend' root' ((congrArg KeySlot.verified slot).trans verified)
        ((congrArg KeySlot.old slot).trans old) (fun h => by
          rw [slot] at h
          have held : (s.asked m).pairHeld (attrSpp (s.slotK (s.keyGet m R.KEY_SEL_SLOT)).attr) v.keyId = s.pairHeld (attrSpp (s.slotK (s.keyGet m R.KEY_SEL_SLOT)).attr) v.keyId := by
            unfold State.pairHeld State.lcs
            rw [State.asked_key]
          rw [held, apart h.1] at h
          exact absurd h.2 (by decide)) rfl
      obtain ⟨slots, status, running⟩ := State.underWay_saved s m { plainCmd m 7 with nvOk := true, ackAt := s.voteTime ack } (s.keyGet m R.KEY_SEL_SLOT) 7 v.num
        ((s.asked m).slotK (s.keyGet m R.KEY_SEL_SLOT)).attr (commitPayload (s.keyGet m R.KEY_SEL_SLOT) ((s.asked m).slotK (s.keyGet m R.KEY_SEL_SLOT)) v root)
      refine .intro ((exec_keyCommit turn may).trans (congrArg (fun u : State => Host.Outcome.next (u.keyRun [])) starts)) ⟨slots, status, ?_⟩
      rw [running]
      rfl
  · obtain ⟨slot, only⟩ := s.putSlotK_slotK c.slot (s.activeSlot c v)
    have key := (s.putSlotK c.slot (s.activeSlot c v)).keyEvt_key E.KEY_ACTIVATED c.slot v.num
    have putKey := s.putSlotK_key c.slot (s.activeSlot c v)
    obtain ⟨slots, none, status, event⟩ := State.endRunning_spec (u := (s.putSlotK c.slot (s.activeSlot c v)).keyEvt E.KEY_ACTIVATED c.slot v.num) (st := 2) (c := c) (by decide)
      (by rw [key, putKey, running]) (by rw [key, putKey, idle])
    have same := State.slotK_congr (slots.trans (congrArg KeyPart.slots key))
    refine .intro (exec_activated running op pend due) ?_
    rw [same, slot]
    exact ⟨rfl, rfl, rfl, fun was => if_pos was, fun j ne => (same j).trans (only j ne), none, status, event (State.keyEvt_event _ _ _ _ (by decide))⟩
  · rintro s m k turn rfl may
    have slot : (s.asked m).slotK (s.keyGet m R.KEY_SEL_SLOT) = s.slotK (s.keyGet m R.KEY_SEL_SLOT) := State.asked_slotK _
    refine ⟨fun old grace => ?_, fun st => ?_, fun st => ?_, fun a usage st master lcs act plain tag some few => ?_, fun master lcs => ?_⟩
    · obtain ⟨here, only, status, -⟩ := State.slotDone_spec (m := m) (s.asked m) (s.keyGet m R.KEY_SEL_SLOT) { s.slotK (s.keyGet m R.KEY_SEL_SLOT) with graceEnd := none } (by decide : 2 < 16)
      exact .intro (exec_keyRevoke turn may old grace) ⟨here, onlyKey_asked only, status⟩
    · obtain ⟨slots, status, -⟩ := State.keyDone_spec (m := m) (s.asked m) 2 (by decide)
      exact .intro ((exec_keyErase turn may).trans (congrArg (fun u : State => Host.Outcome.next (u.keyRun [])) (State.startErase_free ((congrArg KeySlot.st slot).trans st))))
        ⟨slots.trans (congrArg KeyPart.slots State.asked_key), status⟩
    · have starts := State.startErase_starts (c := { plainCmd m 10 with nvOk := true }) (k := s.keyGet m R.KEY_SEL_SLOT) (u := s.asked m) (by rw [slot]; exact st) rfl
      obtain ⟨slots, status, running⟩ := State.underWay_saved s m { plainCmd m 10 with nvOk := true } (s.keyGet m R.KEY_SEL_SLOT) 10 0
        ((s.asked m).slotK (s.keyGet m R.KEY_SEL_SLOT)).attr [BitVec.ofNat 36 (2 * 2 ^ 32 + s.keyGet m R.KEY_SEL_SLOT),
          BitVec.ofNat 36 ((s.asked m).slotK (s.keyGet m R.KEY_SEL_SLOT)).attr, BitVec.ofNat 36 ((s.asked m).slotK (s.keyGet m R.KEY_SEL_SLOT)).grace]
      refine .intro ((exec_keyErase turn may).trans (congrArg (fun u : State => Host.Outcome.next (u.keyRun [])) starts)) ⟨slots, status, ?_⟩
      rw [running]
      rfl
    · have use := (State.useKey_congr (State.asked_key (s := s) (m := m)) m _ 1).trans (State.useKey_active usage st master lcs act)
      have count : (s.asked m).keyGet m R.KEY_MINT_COUNT = s.keyGet m R.KEY_MINT_COUNT := State.asked_keyGet _ (by decide)
      have bytes : (s.asked m).bufBytes m 66 = s.bufBytes m 66 := State.keySet_bufBytes ..
      have minted := State.mintCookies_eq use ((State.asked_keyGet _ (by decide)).trans plain) (by rw [bytes]; exact tag) (count ▸ some) (count ▸ few)
      obtain ⟨status, slots, head, counted⟩ := State.minted_spec (u := s.asked m) (m := m) (k := s.keyGet m R.KEY_SEL_SLOT) (num := a.num) (key := a.key)
        (p := (s.asked m).bufBytes m 66) (n := (s.asked m).keyGet m R.KEY_MINT_COUNT) (count ▸ some) _ rfl
      refine .intro ((exec_keyMint turn may).trans (congrArg (fun u : State => Host.Outcome.next (u.keyRun [])) minted))
        ⟨status, slots.trans (congrArg KeyPart.slots State.asked_key), head, counted.trans ?_⟩
      rw [count, State.asked, Within.get_eq (.keySet (.refl s))]
    · exact .intro (exec_keyReload turn may master lcs) (s.asked m).reloaded_spec
  · rintro grace ⟨e, ends, from_, due⟩
    obtain ⟨slot, only⟩ := s.putSlotK_slotK k { s.slotK k with draining := true }
    have old' : ((s.graceOver k).slotK k).old = some v := (congrArg KeySlot.old slot).trans old
    have draining : ((s.graceOver k).slotK k).draining = true := congrArg KeySlot.draining slot
    have pins : (s.graceOver k).pinned k v = s.pinned k v := State.pinned_congr (congrArg KeyPart.msgs (s.putSlotK_key k { s.slotK k with draining := true }) :) k v
    refine .intro (exec_keyGraceEnd low old grace ends from_ due) ⟨?_, fun free => ?_, fun pinned => ?_⟩
    · by_cases pinned : s.pinned k v = true
      · rw [State.freeOld_pinned old' (pins.trans pinned)]
        exact only
      · obtain ⟨-, only', -⟩ := State.freeOld_spec old' draining (pins.trans (Bool.eq_false_iff.mpr pinned))
        exact fun j ne => (only' j ne).trans (only j ne)
    · obtain ⟨here, -, event⟩ := State.freeOld_spec old' draining (pins.trans free)
      exact ⟨congrArg KeySlot.old here, event⟩
    · rw [State.freeOld_pinned old' (pins.trans pinned)]
      exact slot
  · obtain ⟨here, only, event⟩ := State.freeOld_spec old draining free
    exact .intro (exec_freed low) ⟨congrArg KeySlot.old here, (congrArg KeySlot.act here :), only, event⟩
  · exact .intro ((exec_keyPin lowC).trans (congrArg _ (State.takePin_eq oldest open_))) (s.pinTaken_spec c true k ver)
  · exact .intro ((exec_keyRelease lowC).trans (congrArg _ (State.takePin_eq oldest open_))) (s.pinTaken_spec c false k ver)
  · obtain ⟨slot, only⟩ := s.putSlotK_slotK k (s.wiped k)
    have same := State.slotK_congr (s.memoryError_slots k)
    refine .intro (exec_keyMemoryError low) ?_
    rw [same, slot]
    exact ⟨rfl, rfl, rfl, fun j ne => (same j).trans (only j ne), State.lineOn_causes _ _ _⟩
  · obtain ⟨st', gone, kept, running', idle'⟩ := State.freeGone_spec drained
    obtain ⟨slot, only⟩ := (s.freeGone k).putSlotK_slotK k .init
    have putKey := (s.freeGone k).putSlotK_key k .init
    obtain ⟨slots, none, status, -⟩ := State.endRunning_spec (u := (s.freeGone k).putSlotK k .init) (st := 2) (c := c) (by decide)
      (by rw [putKey]; exact running'.trans running) (by rw [putKey]; exact idle'.trans idle)
    have same := State.slotK_congr slots
    exact .intro (exec_keyEraseDone low (st'.trans st) gone) ⟨(same k).trans slot, fun j ne => (same j).trans ((only j ne).trans (kept j ne)), none, status⟩
  · exact .intro (exec_drbgReseed many) ⟨rfl, rfl⟩
  · refine .intro (exec_keyDataAccess_write opened) ⟨?_, State.idxMoved_idx _⟩
    rw [State.bufWord, (State.idxMoved_kept s m _).1]
    exact kvGetD_kvPut_same ..
  · exact .intro (exec_keyDataAccess_read opened) ⟨(State.idxMoved_kept s m _).2, State.idxMoved_idx _⟩

end Sys2Proof.Machine
end

section
/-! PROOFS.
The carriages of a coach.
-/
namespace Sys2Proof.Machine
open Sys2Proof

/-! # The carriages of a coach -/

section

variable {s : State} {c cid : Nat} {k x : Carriage} {st : Stage}

/-- A carriage of a current generation in its stage meets what the stage does (R405). -/
theorem State.atStage_at {f : Carriage → State → State} (known : s.car c cid = some k) (stage : k.stage = st) (up : s.up (8 + c) = true) (fresh : s.staleGen k.gen = false) :
    s.atStage c cid st f = f k s := by
  unfold State.atStage
  simp only [known]
  exact (if_neg (by simp [stage, up])).trans (if_neg (by rw [fresh]; decide))

theorem State.car_cid (known : s.car c cid = some k) : k.cid = cid := of_decide_eq_true (List.find?_some known :)

theorem State.car_of_cars {t : State} (same : (t.coachOf c).cars = (s.coachOf c).cars) : t.car c cid = s.car c cid := by
  unfold State.car
  rw [same]

theorem State.car_congr {t : State} (same : t.pipe = s.pipe) : t.car c cid = s.car c cid := State.car_of_cars (congrArg CoachState.cars (State.coachOf_congr same c))

/-- The carriage rewritten in its place is found by its number. -/
theorem State.putCar_car (known : s.car c cid = some k) (same : x.cid = cid) : (s.putCar c x).car c cid = some x := by
  unfold State.car State.putCar at *
  rw [State.coachOf_putCoach]
  dsimp only
  generalize (s.coachOf c).cars = l at known
  induction l with
  | nil => cases known
  | cons j l ih =>
    rw [List.map_cons]
    by_cases here : j.cid = cid
    · rw [if_pos (here.trans same.symm)]
      exact List.find?_cons_of_pos (p := fun j : Carriage => decide (j.cid = cid)) (decide_eq_true same)
    · rw [if_neg (same ▸ here), List.find?_cons_of_neg (by simpa using here)]
      rw [List.find?_cons_of_neg (by simpa using here)] at known
      exact ih known

theorem State.putCar_regs (s : State) (c : Nat) (x : Carriage) : (s.putCar c x).regs = s.regs := rfl

/-- A carriage that ends is no longer found. -/
theorem State.endCar_car (s : State) (c : Nat) (k : Carriage) : (s.endCar c k).car c k.cid = none := by
  unfold State.endCar State.dropCar State.car
  rw [State.coachOf_putCoach]
  refine List.find?_eq_none.mpr fun j mem => ?_
  have other := (List.mem_filter.mp mem).2
  simpa using other

theorem State.lose_car (s : State) (c : Nat) (k : Carriage) (f : Fld) : (s.lose c k f).car c k.cid = none :=
  (State.car_congr (State.bump_pipe ..)).trans (s.endCar_car c k)

/-- The carriages of a coach after one has left it. -/
theorem State.endCar_cars (s : State) (c : Nat) (k : Carriage) : ((s.endCar c k).coachOf c).cars = (s.coachOf c).cars.filter (fun j => decide (j.cid ≠ k.cid)) := by
  have unpinned : (s.unpin c k).coachOf c = s.coachOf c := by
    unfold State.unpin
    split
    · rfl
    · split <;> split <;> rfl
  unfold State.endCar State.dropCar
  rw [State.coachOf_putCoach, unpinned]

theorem State.lose_cars (s : State) (c : Nat) (k : Carriage) (f : Fld) : ((s.lose c k f).coachOf c).cars = (s.coachOf c).cars.filter (fun j => decide (j.cid ≠ k.cid)) :=
  (congrArg CoachState.cars (State.coachOf_congr (State.bump_pipe ..) c)).trans (s.endCar_cars c k)

theorem State.endCar_get (s : State) (c : Nat) (k : Carriage) (f : Fld) : (s.endCar c k).get f = s.get f := by
  have unpinned : (s.unpin c k).get f = s.get f := by
    unfold State.unpin
    split
    · rfl
    · split <;> split <;> rfl
  exact unpinned

/-- A carriage lost counts in the field named. -/
theorem State.lose_get (s : State) (c : Nat) (k : Carriage) (f : Fld) (inside : f.lo + f.w ≤ 36) : (s.lose c k f).get f = min (s.get f + 1) (2 ^ f.w - 1) := by
  unfold State.lose
  rw [State.bump_get_same _ _ inside, State.endCar_get]

/-- What `loseAll` drops is gone. -/
theorem State.loseAll_car {p : Carriage → Bool} {f : Fld} (known : s.car c cid = some k) (lost : p k = true) : (s.loseAll c p f).car c cid = none := by
  obtain ⟨mem, same⟩ : k ∈ (s.coachOf c).cars ∧ k.cid = cid := ⟨List.mem_of_find?_eq_some known, State.car_cid known⟩
  have picked : k ∈ (s.coachOf c).cars.filter p := List.mem_filter.mpr ⟨mem, lost⟩
  have gone (l : List Carriage) (t : State) (has : k ∈ l ∨ t.car c cid = none) : (l.foldl (fun t j => t.lose c j f) t).car c cid = none := by
    induction l generalizing t with
    | nil => exact has.resolve_left List.not_mem_nil
    | cons j l ih =>
      refine ih _ ?_
      rcases has with mem | none
      · rcases List.mem_cons.mp mem with rfl | later
        · exact .inr (same ▸ t.lose_car c k f)
        · exact .inl later
      · refine .inr ?_
        unfold State.car at none ⊢
        rw [State.lose_cars]
        exact List.find?_eq_none.mpr fun y mem => List.find?_eq_none.mp none y (List.mem_filter.mp mem).1
  exact gone _ s (.inl picked)

end

end Sys2Proof.Machine
end

section
/-! PROOFS.
From PARSE to COMPOSE (spec/14, R322 to R332, R340).
-/
namespace Sys2Proof.Machine
open Sys2Proof

/-! # From PARSE to COMPOSE (spec/14, R322 to R332, R340) -/

section

variable {s : State} {c cid tick : Nat} {k : Carriage} {hit ecc : Bool} {v : Nat}

/-! ## PARSE -/

/-- The carriage with the hash of its source (R321). -/
def Carriage.hashed (k : Carriage) : Carriage :=
  { k with srch := (Config.srcHash (match k.frame.ip with
      | some h => h.src
      | none => k.frame.src)).toNat }

/-- What a stage makes of a carriage in it. -/
theorem exec_carriageParse (low : c < 6) (known : s.car c cid = some k) (stage : k.stage = .parse) (up : s.up (8 + c) = true) (fresh : s.staleGen k.gen = false) :
    exec (.carriageParse c cid) s = .next (match s.classOf k with
      | .verdict 0 => match (s.bump (R.CO_RX_TS_COUNT c)).classDrop k false with
        | some f => (s.bump (R.CO_RX_TS_COUNT c)).lose c k.hashed f
        | none => (s.bump (R.CO_RX_TS_COUNT c)).putCar c { k.hashed with verdict := 0, stage := .lookup }
      | .client => match (s.bump (R.CO_RX_TS_COUNT c)).classDrop k true with
        | some f => (s.bump (R.CO_RX_TS_COUNT c)).lose c k.hashed f
        | none => (s.bump (R.CO_RX_TS_COUNT c)).putCar c { k.hashed with verdict := 0, stage := .lookup }
      | .verdict v => s.forward c { k.hashed with verdict := v }
      | .drop f => s.lose c k.hashed f) := by
  show execCarriageParse c cid s = _
  unfold execCarriageParse
  rw [withUnit_next low, State.atStage_at known stage up fresh]
  rfl

/-- Counting a request at PARSE moves no other register. -/
theorem State.counted_get (f : Fld) (ne : f.slot ≠ R.CO_RX_TS c) : (s.bump (R.CO_RX_TS_COUNT c)).get f = s.get f := State.bump_get_other _ _ _ (.inl (Ne.symm ne))

theorem State.counted_cflag (low : c < 6) (g : Nat) (f : Fld) (ne : f.slot ≠ R.CO_RX_TS c) : (s.bump (R.CO_RX_TS_COUNT c)).cflag g f = s.cflag g f := by
  have force : (s.bump (R.CO_RX_TS_COUNT c)).get R.GEN_IN_FORCE_GEN = s.get R.GEN_IN_FORCE_GEN := State.counted_get _ (by show (114697 : Nat) ≠ (96 + c) * 512 + 80; omega)
  unfold State.cflag State.cget State.cfg
  rw [force, State.bump_gen]
  split
  · exact congrArg (fun n => decide (n = 1)) (State.counted_get f ne)
  · rfl

theorem State.counted_serviceOf (low : c < 6) (k : Carriage) : (s.bump (R.CO_RX_TS_COUNT c)).serviceOf k = s.serviceOf k := by
  have cfg (f : Fld) (p : Nat) (at_ : f.slot = R.CO_TS_CFG p (k.port % 4)) : (s.bump (R.CO_RX_TS_COUNT c)).cflag k.gen f = s.cflag k.gen f :=
    State.counted_cflag low k.gen f (by rw [at_]; show (96 + p) * 512 + 16 + k.port % 4 ≠ (96 + c) * 512 + 80; omega)
  unfold State.serviceOf
  simp only [cfg (R.CO_TS_CFG_DELAY_REQ (k.port / 4) (k.port % 4)) _ rfl, cfg (R.CO_TS_CFG_PDELAY (k.port / 4) (k.port % 4)) _ rfl,
    cfg (R.CO_TS_CFG_PTP_AUTH (k.port / 4) (k.port % 4)) _ rfl, cfg (R.CO_TS_CFG_PTP_PLAIN (k.port / 4) (k.port % 4)) _ rfl,
    cfg (R.CO_TS_CFG_NTS (k.port / 4) (k.port % 4)) _ rfl, cfg (R.CO_TS_CFG_NTP_PLAIN (k.port / 4) (k.port % 4)) _ rfl]

/-- The check of a request at CLASS does not see its own count (R323). -/
theorem State.counted_classDrop (low : c < 6) (k : Carriage) : (s.bump (R.CO_RX_TS_COUNT c)).classDrop k false = s.classDrop k false := by
  have page (f : Fld) (q i : Nat) (at_ : f.slot = q * 512 + i) (ne : i % 512 ≠ 80) : (s.bump (R.CO_RX_TS_COUNT c)).get f = s.get f :=
    State.counted_get f (by rw [at_]; show q * 512 + i ≠ (96 + c) * 512 + 80; omega)
  have fenced := page (R.PG_STAT_FENCED (P.CO (k.port / 4))) (96 + k.port / 4) 3 rfl (by decide)
  have enabled := page (R.PG_CTRL_EN (P.CO (k.port / 4))) (96 + k.port / 4) 2 rfl (by decide)
  have sevAll := page R.FLT_STATUS_SEV_ALL 3 18 rfl (by decide)
  have sevCoach := page R.FLT_STATUS_SEV_COACH 3 18 rfl (by decide)
  have sevAuth := page R.FLT_STATUS_SEV_AUTH 3 18 rfl (by decide)
  have brake := page R.FLT_STATUS_BRAKE 3 18 rfl (by decide)
  have stage := page R.BOOT_STAGE_STAGE 1 8 rfl (by decide)
  have suppressed := page R.KEY_STATUS_SUPPRESSED 208 8 rfl (by decide)
  have role := page R.DUG_STATUS_ROLE 240 8 rfl (by decide)
  have scope : (s.bump (R.CO_RX_TS_COUNT c)).stopScope (k.port / 4) = s.stopScope (k.port / 4) := by
    unfold State.stopScope State.flag State.coachCut
    rw [fenced, sevAll, sevCoach, sevAuth, brake, State.bump_isl]
  have reins : (s.bump (R.CO_RX_TS_COUNT c)).holdsReins = s.holdsReins := by
    unfold State.holdsReins
    rw [role, State.bump_dug]
  have off : (s.bump (R.CO_RX_TS_COUNT c)).tamperOff = s.tamperOff := by
    unfold State.tamperOff State.flag
    rw [suppressed, State.bump_key]
  unfold State.classDrop State.flag
  dsimp only
  rw [enabled, stage, scope, reins, off, State.counted_serviceOf low, State.bump_shunt]

/-- A carriage for the switch stands in FORWARD. -/
theorem State.forward_car {x : Carriage} (known : s.car c cid = some x) (same : k.cid = cid) :
    (s.forward c k).car c cid = some { k with tclass := s.pcpClass k.gen k.frame, stage := .forward } := by
  unfold State.forward
  refine (State.car_of_cars ?_).trans (State.putCar_car known (same :))
  rw [State.coachOf_putCoach]

/-- The counters of what CLASS drops lie within a word (R324). -/
theorem State.classOf_drop_inside {f : Fld} (is : s.classOf k = .drop f) : f.lo + f.w ≤ 36 := by
  have inside : f = R.CO_TS_OFF_COUNT (k.port / 4) ∨ f = R.CO_MALFORMED_COUNT (k.port / 4) → f.lo + f.w ≤ 36 := by
    rintro (rfl | rfl)
    · exact Nat.le_of_ble_eq_true rfl
    · exact Nat.le_of_ble_eq_true rfl
  refine inside ?_
  unfold State.classOf at is
  grind

/-! ## LOOKUP -/

/-- VERIFY's start keeps the carriage's number and changes no other carriage. -/
theorem State.startVerify_keeps (s : State) (c : Nat) (k : Carriage) : (s.startVerify c k).1.cid = k.cid ∧ (s.startVerify c k).2.pipe = s.pipe := by
  unfold State.startVerify
  split
  · split
    · exact ⟨rfl, rfl⟩
    · exact ⟨rfl, rfl⟩
  · split
    · exact ⟨rfl, rfl⟩
    · split
      · exact ⟨rfl, rfl⟩
      · exact ⟨rfl, rfl⟩
  · exact ⟨rfl, rfl⟩

theorem State.clientPlace_pipe (s : State) (i : Nat) (e : ClientEntry) : (s.clientPlace i e).2.pipe = s.pipe := by
  unfold State.clientPlace
  split
  · split
    · rfl
    · rfl
  · dsimp only
    split
    · rfl
    · rfl

/-- A carriage that goes on to VERIFY stands there. -/
theorem State.toVerify_stage {k' : Carriage} (known : s.car c cid = some k) (same : k'.cid = cid) : ((s.toVerify c k').car c cid).map (fun x => x.stage) = some .verify := by
  obtain ⟨number, pipe⟩ := s.startVerify_keeps c k'
  have known' : (s.startVerify c k').2.car c cid = some k := (State.car_congr pipe).trans known
  unfold State.toVerify
  dsimp only
  split
  next e _ =>
    refine (congrArg (Option.map _) (State.putCar_car ((State.car_congr (State.clientPlace_pipe ..)).trans known') ?_)).trans rfl
    exact number.trans same
  next =>
    refine (congrArg (Option.map _) (State.putCar_car known' ?_)).trans rfl
    exact number.trans same

theorem State.charge_pipe (s : State) (g hash : Nat) (ntp : Bool) (t : Int) : (s.charge g hash ntp t).2.pipe = s.pipe := by
  unfold State.charge
  dsimp only
  split
  · split
    · exact State.bump_pipe ..
    · split
      · rw [State.raise_pipe, State.bump_pipe]
      · rw [State.set_pipe, State.raise_pipe, State.bump_pipe]
  · split
    · exact State.bump_pipe ..
    · rw [State.set_pipe, State.raise_pipe, State.bump_pipe]

theorem exec_lookupDone_ntp {m : NtpMsg} (low : c < 6) (known : s.car c cid = some k) (stage : k.stage = .lookup) (up : s.up (8 + c) = true) (fresh : s.staleGen k.gen = false)
    (reach : hit = true ∨ s.linkOpen (8 + c) islSW 1 = true) (body : k.frame.body = .ntp m) :
    exec (.lookupDone c cid hit false) s = .next (if (s.charge k.gen k.srch true k.ingT).1 = 1
      then (s.charge k.gen k.srch true k.ingT).2.endCar c { k with rateAct := (s.charge k.gen k.srch true k.ingT).1 }
      else (s.charge k.gen k.srch true k.ingT).2.toVerify c { k with rateAct := (s.charge k.gen k.srch true k.ingT).1 }) := by
  show execLookupDone c cid hit false s = _
  unfold execLookupDone
  rw [withUnit_next low, State.atStage_at known stage up fresh]
  dsimp only
  rw [if_neg (by rcases reach with h | h <;> simp [h])]
  simp only [body]

/-- What LOOKUP may touch once the cache has been counted. -/
abbrev Can.lookedUp (C : Cap) (c : Nat) : Bool := decide (Ok.dramTransfer C ∧ Ok.endCar C ∧ Ok.cltEcc C ∧ Ok.charge C ∧ Ok.lose C (R.CO_FAULT_STOP_COUNT c) ∧
  Ok.lose C R.CLT_DREQ_FAST_COUNT ∧ Ok.lose C R.CLT_NO_GRANT_COUNT ∧ Ok.toVerify C ∧ Ok.putEntry C)

/-- A request of PTP counts in the cache's counters before anything else (R353). -/
theorem lookupDone_ptp {m : PtpMsg} (low : c < 6) (known : s.car c cid = some k) (stage : k.stage = .lookup) (up : s.up (8 + c) = true) (fresh : s.staleGen k.gen = false)
    (reach : hit = true ∨ s.linkOpen (8 + c) islSW 1 = true) (body : k.frame.body = .ptp m) :
    Completes (.lookupDone c cid hit ecc) s fun t => ∀ C : Cap, Can.lookedUp C c = true → Within C (s.bump (if hit then R.CLT_CACHE_HIT_COUNT else R.CLT_CACHE_MISS_COUNT)) t := by
  show ∃ t, execLookupDone c cid hit ecc s = .next t ∧ _
  unfold execLookupDone
  rw [withUnit_next low, State.atStage_at known stage up fresh]
  dsimp only
  rw [if_neg (by rcases reach with h | h <;> simp [h])]
  simp only [body]
  refine ⟨_, rfl, fun C may => ?_⟩
  obtain ⟨dram, leaves, lost, charged, stop, fast, grant, verify, entry⟩ := of_decide_eq_true may
  generalize s.bump (if hit then R.CLT_CACHE_HIT_COUNT else R.CLT_CACHE_MISS_COUNT) = u
  have read : Within C u (if hit = true then (u, ecc) else u.dramTransfer ecc).1 := .ite1 (.refl u) (.dramTransfer (.refl u) dram)
  generalize (if hit = true then (u, ecc) else u.dramTransfer ecc) = r at read ⊢
  obtain ⟨w, bad⟩ := r
  dsimp only at read ⊢
  generalize (if bad = true then w.findClient k.port m.srcId else none) = broken
  cases broken with
  | some i => exact (read.endCar leaves).cltEcc lost
  | none =>
    dsimp only
    have paid : Within C u (if ((w.findClient k.port m.srcId).isSome && w.cflag k.gen R.RATE_CFG_PTP_REG_EXEMPT) = true then (0, w)
        else w.charge k.gen k.srch false k.ingT).2 := .ite2 read (read.charge charged)
    generalize (if ((w.findClient k.port m.srcId).isSome && w.cflag k.gen R.RATE_CFG_PTP_REG_EXEMPT) = true then (0, w) else w.charge k.gen k.srch false k.ingT) = p at paid ⊢
    obtain ⟨act, z⟩ := p
    dsimp only at paid ⊢
    refine .ite (paid.endCar leaves) (.ite (paid.lose stop) (.ite (paid.toVerify verify) ?_))
    have refused {k' : Carriage} : Within C u (if z.cflag k.gen R.CLT_POLICY_DREQ_NOGRANT = true then z.toVerify c k' else z.lose c k' R.CLT_NO_GRANT_COUNT) :=
      .ite (paid.toVerify verify) (paid.lose grant)
    generalize (w.findClient k.port m.srcId).bind (fun i => w.entry i) = e
    cases e with
    | none => exact refused
    | some x =>
      dsimp only
      split
      · exact .ite (.ite ((paid.putEntry entry).toVerify verify) (paid.lose fast)) refused
      · exact refused

/-! ## VERIFY -/

theorem exec_verifyDone_ntp {m : NtpMsg} (low : c < 6) (known : s.car c cid = some k) (stage : k.stage = .verify) (up : s.up (8 + c) = true) (fresh : s.staleGen k.gen = false)
    (body : k.frame.body = .ntp m) (plain : m.nts = none) (current : s.oldPlace k = false) :
    exec (.verifyDone c cid false) s = .next (s.putCar c { k with stage := .compose }) := by
  show execVerifyDone c cid false s = _
  unfold execVerifyDone
  rw [withUnit_next low, State.atStage_at known stage up fresh, if_neg Bool.false_ne_true, if_neg (by rw [current]; decide)]
  simp only [body, plain]
  unfold State.verified
  simp only [body]

theorem exec_verifyDone_disagree (low : c < 6) (known : s.car c cid = some k) (stage : k.stage = .verify) (up : s.up (8 + c) = true) (fresh : s.staleGen k.gen = false) :
    exec (.verifyDone c cid true) s = .next (s.laneFault (k.place % 32)) := by
  show execVerifyDone c cid true s = _
  unfold execVerifyDone
  rw [withUnit_next low, State.atStage_at known stage up fresh]
  exact congrArg _ (if_pos rfl)

theorem State.setLane_pipe (s : State) (lane st : Nat) : (s.setLane lane st).pipe = s.pipe := State.set_pipe ..

/-- A lane whose results disagree is out, and what it held is gone (R329). -/
theorem State.laneFault_spec {lane : Nat} (low : lane < 24) (known : s.car (lane / 4) cid = some k) (holds : holdsLane k lane = true) :
    (s.laneFault lane).car (lane / 4) cid = none ∧ (s.laneFault lane).laneSt lane = 2 ∧ Event (s.laneFault lane) (P.CO (lane / 4)) E.CO_LANE_FAULT ∧
      (31, 0) ∈ (s.laneFault lane).flt.causes := by
  have told {C : Cap} {t u : State} (h : Within C t u) (raise : Ok.raise C (P.CO (lane / 4))) (pulse : Ok.pulse C) :
      Within C t (((u.raise (P.CO (lane / 4)) E.CO_LANE_FAULT).pulse 31).trig (8 + lane / 4) 0x70 [lane / 4, E.CO_LANE_FAULT, lane]) := .trig (.pulse (.raise h raise) pulse)
  have lost := State.loseAll_car (p := fun j => holdsLane j lane) (f := R.CO_LANE_DROP_COUNT (lane / 4)) ((State.car_congr (s.setLane_pipe lane 2)).trans known) holds
  have drops : ∀ n < 24, Ok.loseAll (Cap.away (R.CO_LANES_STATE (n / 4))) (R.CO_LANE_DROP_COUNT (n / 4)) ∧ Ok.raise (Cap.away (R.CO_LANES_STATE (n / 4))) (P.CO (n / 4)) ∧
      Ok.pulse (Cap.away (R.CO_LANES_STATE (n / 4))) ∧ Ok.raise (Cap.sparing .pipe) (P.CO (n / 4)) ∧ Ok.pulse (Cap.raising (P.CO (n / 4))) := by decide
  obtain ⟨drop, raise, pulse, raise', pulse'⟩ := drops lane low
  unfold State.laneFault
  dsimp only
  refine ⟨?_, ?_, ?_, ?_⟩
  · rw [State.car_congr (told (.refl _) raise' (by decide)).pipe_eq]
    exact lost
  · rw [State.laneSt_congr (told (.loseAll (.refl _) drop) raise pulse).get_eq]
    exact State.setLane_laneSt s low (by decide)
  · exact Within.event (.trig (.pulse (.refl _) pulse')) (event_raise _ _ _ (by decide))
  · rw [Within.flt_eq (.trig (.refl _))]
    exact State.lineOn_causes _ _ _

/-! ## COMPOSE and the SIGN queue -/

theorem State.admitSign_car (known : s.car c cid = some k) {k' : Carriage} (same : k'.cid = cid) (place : k'.port / 4 = c) :
    (s.admitSign k').car c cid = some { k' with stage := if s.signRoom k' then .sign else .composed } := by
  unfold State.admitSign
  rw [place]
  exact State.putCar_car known same

/-- The carriage with its departure promised (R330). -/
def State.promisedCar (s : State) (k : Carriage) (f : Frame) (now : Int) (n : Nat) : Carriage :=
  { k with frame := s.writeDepart k f (s.promised (k.port / 4) (s.chooseDepart k f.len now (n - 600))).1
           depart := some (s.promised (k.port / 4) (s.chooseDepart k f.len now (n - 600))).1
           scaleNo := (s.promised (k.port / 4) (s.chooseDepart k f.len now (n - 600))).2
           laneNs := n
           tebv := (s.pubFor (k.port / 4) k.ingT).ports.getD (k.port % 4) 0 }

/-- On a port that is UP, with no end to the reins, the answer's departure is promised (R330, R431). -/
theorem State.promise_eq {f : Frame} {now : Int} {n : Nat} (origin : k.origin = 0) (up : s.link k.port = 3) (held : s.reinsEnd = none) :
    s.promise k f now n = s.admitSign (s.promisedCar k f now n) := by
  have portUp : ¬ (!s.portUp k.port) = true := by rw [State.portUp, up]; decide
  unfold State.promise
  dsimp only
  rw [if_neg portUp, held]
  refine (if_neg Bool.false_ne_true).trans (congrArg (fun u : State => u.admitSign (s.promisedCar k f now n)) ?_)
  split
  next _ one => exact absurd (origin.symm.trans one) (by decide)
  next => rfl

/-- The answer of NTP takes at most a free value. -/
theorem Within.ntpAnswer {C : Cap} {s₀ : State} {m : NtpMsg} (h : Within C s₀ s) : Within C s₀ (s.ntpAnswer k m).2 := by
  have free : Within C s₀ s.takeFree.2 := h.takeFree
  unfold State.ntpAnswer
  extract_lets nts base smear p q src f
  refine .ite2 h (.ite2 h ?_)
  have named : Within C s₀ (if q.2.1 = 16 then (0x494E4954, s) else if p.source = 0xF0 then (0x484F5354, s) else match src with
      | some x => (x, s)
      | none => (f.1 % 2 ^ 32, f.2)).2 := by
    clear_value src
    cases src with
    | some x => exact .ite2 h (.ite2 h h)
    | none => exact .ite2 h (.ite2 h free)
  exact named

/-- The answer to a request of NTP is known (R341): its carriage goes toward SIGN with its departure promised. -/
theorem composeCarriage_ntp {m : NtpMsg} (low : c < 6) (known : s.car c cid = some k) (stage : k.stage = .compose) (up : s.up (8 + c) = true) (fresh : s.staleGen k.gen = false)
    (origin : k.origin = 0) (body : k.frame.body = .ntp m) (current : s.oldPlace k = false) (place : k.port / 4 = c) (link : s.link k.port = 3) (held : s.reinsEnd = none) :
    Completes (.composeCarriage c cid tick) s fun t => ∃ x, t.car c cid = some x ∧ (x.stage = .sign ∨ x.stage = .composed) ∧ x.depart.isSome = true := by
  show ∃ t, execComposeCarriage c cid tick s = .next t ∧ _
  unfold execComposeCarriage
  rw [withUnit_next low, State.atStage_at known stage up fresh]
  dsimp only
  rw [if_neg (by rw [current]; decide), if_neg (by rw [origin]; decide)]
  simp only [body]
  refine ⟨_, rfl, ?_⟩
  have answered {C : Cap} (may : Ok.bump C (R.CO_NTS_NAK_COUNT c)) : Within C s (if k.nak = true then (s.ntpAnswer k m).2.bump (R.CO_NTS_NAK_COUNT c) else (s.ntpAnswer k m).2) :=
    .ite (.bump (.ntpAnswer (.refl s)) may) (.ntpAnswer (.refl s))
  generalize (if k.nak = true then (s.ntpAnswer k m).2.bump (R.CO_NTS_NAK_COUNT c) else (s.ntpAnswer k m).2) = u at answered ⊢
  have naks : ∀ c < 6, Ok.bump (Cap.sparing .pipe) (R.CO_NTS_NAK_COUNT c) ∧ Ok.bump (Cap.sparing .reins) (R.CO_NTS_NAK_COUNT c) ∧
      Ok.bump (Cap.away R.DUG_STATUS_ROLE) (R.CO_NTS_NAK_COUNT c) ∧ Ok.bump (Cap.away R.DUG_GUARD_NS) (R.CO_NTS_NAK_COUNT c) ∧
      Ok.bump (Cap.outside (slotsT R.DUG_LEASE_END)) (R.CO_NTS_NAK_COUNT c) := by decide
  obtain ⟨pipe, reins, role, guard, lease⟩ := naks c low
  have links : ∀ p < 24, ∀ c < 6, Ok.bump (Cap.away (R.PRT_STATUS_LINK p)) (R.CO_NTS_NAK_COUNT c) := by decide
  have known' : u.car c cid = some k := (State.car_congr (answered pipe).pipe_eq).trans known
  have link' : u.link k.port = 3 := (answered (links k.port (by omega) c low)).get_eq.trans link
  have held' : u.reinsEnd = none := by
    have ends : u.dug.soloEnd = s.dug.soloEnd := DugPart.eq_of_reins (answered reins).reins_eq DugPart.soloEnd fun _ => rfl
    unfold State.reinsEnd at held ⊢
    rw [(answered role).get_eq, (answered guard).get_eq, (answered lease).rdT_eq, ends]
    exact held
  rw [State.promise_eq origin link' held']
  have either (p : Prop) [Decidable p] : (if p then Stage.sign else .composed) = .sign ∨ (if p then Stage.sign else .composed) = .composed := by
    by_cases h : p
    · exact .inl (if_pos h)
    · exact .inr (if_neg h)
  exact ⟨_, State.admitSign_car known' (State.car_cid known :) (place :), either _, rfl⟩

theorem exec_signQueueAdmit (low : c < 6) (known : s.car c cid = some k) (stage : k.stage = .composed) (up : s.up (8 + c) = true) (fresh : s.staleGen k.gen = false) :
    exec (.signQueueAdmit c cid) s = .next (s.admitSign k) := by
  show execSignQueueAdmit c cid s = _
  unfold execSignQueueAdmit
  rw [withUnit_next low, State.atStage_at known stage up fresh]

/-! ## The upstream's Announce (R340) -/

/-- The port's master is given up. -/
def State.masterGone (s : State) (port : Nat) : State := s.putUp port { s.upOf port with master := none, ann := none, sync := none }

/-- The candidate bound to the port without the quality announced. -/
def State.annGone (s : State) (b : Nat) : State := s.putSlot b { s.slotOf b with annClass := none }

/-- The candidate bound to the port, if there is one, has no signal any more. -/
def State.boundGone (s : State) (bound : Option Nat) : State :=
  match bound with
  | some b =>
    if (s.annGone b).up islRH ∧ (s.annGone b).candSt b ≠ 0 ∧ (s.annGone b).candSt b ≠ 6 ∧ (s.annGone b).candSt b ≠ 1 then (s.annGone b).setCand b 1 6 else s.annGone b
  | none => s

theorem exec_upstreamAnnounceTimeout {port : Nat} (low : port < 24) (master : (s.upOf port).master.isSome = true)
    (silent : (s.upOf port).annAt + 3 * logSpan (s.upOf port).annLog ≤ (s.ctrOf (8 + port / 4)).at_ tick) :
    exec (.upstreamAnnounceTimeout port tick) s = .next ((s.masterGone port).boundGone ((s.masterGone port).boundCand port)) := by
  show execUpstreamAnnounceTimeout port tick s = _
  unfold execUpstreamAnnounceTimeout
  rw [withUnit_next low]
  refine congrArg _ ((if_neg ?_).trans rfl)
  rintro (none | early)
  · rw [Option.isNone_iff_eq_none.mp none] at master
    exact absurd master (by decide)
  · omega

theorem State.masterGone_upOf (s : State) (port : Nat) : ((s.masterGone port).upOf port).master = none ∧ ((s.masterGone port).upOf port).ann = none := by
  unfold State.masterGone State.upOf State.putUp
  rw [State.coachOf_putCoach]
  dsimp only
  rw [kvGetD_kvPut_same]
  exact ⟨rfl, rfl⟩

theorem State.boundCand_lt {port b : Nat} (is : s.boundCand port = some b) : b < 12 := List.mem_range.mp (List.mem_of_find?_eq_some is)

theorem State.upOf_congr {t : State} (same : t.pipe = s.pipe) (port : Nat) : t.upOf port = s.upOf port := by
  unfold State.upOf
  rw [State.coachOf_congr same]

/-- A candidate that is in use loses its signal (R145, R340). -/
theorem State.boundGone_some {b : Nat} (low : b < 12) (up : s.up islRH = true) (above : 2 ≤ s.candSt b) (below : s.candSt b ≤ 5) :
    (s.boundGone (some b)).candSt b = 1 ∧ (s.boundGone (some b)).get (R.CAND_STATUS_WHY b) = 6 := by
  have st : (s.annGone b).candSt b = s.candSt b := rfl
  have up' : (s.annGone b).up islRH = true := (State.up_congr (t := s.annGone b) (s := s) rfl _).trans up
  have lost : s.boundGone (some b) = (s.annGone b).setCand b 1 6 := if_pos ⟨up', by omega, by omega, by omega⟩
  rw [lost]
  exact ⟨State.setCand_candSt low (by omega) (by decide) 6, State.setCand_why low (by omega) (by decide)⟩

theorem State.boundGone_pipe (s : State) (bound : Option Nat) (low : ∀ b, bound = some b → b < 12) : (s.boundGone bound).pipe = s.pipe := by
  have keep : ∀ b < 12, Ok.setCand (Cap.sparing .pipe) b := by decide
  cases bound with
  | none => rfl
  | some b => exact Within.pipe_eq (.ite ((Within.refl s).putSlot (by decide) |>.setCand (keep b (low b rfl))) ((Within.refl s).putSlot (by decide)))

end

/-- Settles O23. -/
theorem carriagesPassFromParseToCompose : Obligations.CarriagesPassFromParseToCompose := by
  refine ⟨fun s c cid k low known stage up fresh => ⟨fun v is ne => ?_, fun is serves => ?_, fun f is => ?_⟩,
    fun s c cid k hit low known stage up fresh reach => ⟨fun m body => ?_, fun m ecc body => ?_⟩,
    fun s c cid k low known stage up fresh => ⟨fun m body plain current => ?_, fun place => ?_⟩,
    fun s c cid tick k m low known stage up fresh origin body current place link held => composeCarriage_ntp low known stage up fresh origin body current place link held,
    fun s c cid k low known stage up fresh place => ?_, fun s port tick low master silent => ?_⟩
  · have e := exec_carriageParse low known stage up fresh
    rw [is] at e
    obtain ⟨n, rfl⟩ := Nat.exists_eq_succ_of_ne_zero ne
    exact .intro e ⟨(congrArg (Option.map _) (State.forward_car (k := { k.hashed with verdict := n + 1 }) known (State.car_cid known :))).trans rfl, rfl⟩
  · have e := exec_carriageParse low known stage up fresh
    rw [is] at e
    dsimp only at e
    rw [State.counted_classDrop low, serves] at e
    refine .intro e ⟨?_, ?_⟩
    · have same : ({ k.hashed with verdict := 0, stage := .lookup } : Carriage).cid = cid := (show k.cid = cid from State.car_cid known)
      exact (congrArg (Option.map _) (State.putCar_car ((State.car_congr (State.bump_pipe ..)).trans known) same)).trans rfl
    · exact State.bump_get_same _ _ (Nat.le_of_ble_eq_true rfl)
  · have e := exec_carriageParse low known stage up fresh
    rw [is] at e
    refine .intro e ⟨?_, s.lose_get c k.hashed f (State.classOf_drop_inside is)⟩
    exact State.car_cid known ▸ s.lose_car c k.hashed f
  · refine .intro (exec_lookupDone_ntp low known stage up fresh reach body) ⟨fun one => ?_, fun other => ?_⟩
    · have same : ({ k with rateAct := (s.charge k.gen k.srch true k.ingT).1 } : Carriage).cid = cid := (show k.cid = cid from State.car_cid known)
      rw [if_pos one, ← same]
      exact State.endCar_car ..
    · rw [if_neg other]
      exact State.toVerify_stage ((State.car_congr (State.charge_pipe ..)).trans known) (show k.cid = cid from State.car_cid known)
  · obtain ⟨t, ran, looked⟩ := lookupDone_ptp (ecc := ecc) low known stage up fresh reach body
    have counts : ∀ c < 6, Can.lookedUp (Cap.away R.CLT_CACHE_HIT_COUNT) c = true ∧ Can.lookedUp (Cap.away R.CLT_CACHE_MISS_COUNT) c = true := by decide
    obtain ⟨hits, misses⟩ := counts c low
    refine ⟨t, ran, ?_, ?_⟩
    · rw [(looked _ hits).get_eq]
      cases hit with
      | true => exact State.bump_get_same _ _ (by decide)
      | false => exact Within.get_eq (.bump (.refl s) (by decide))
    · rw [(looked _ misses).get_eq]
      cases hit with
      | true => exact Within.get_eq (.bump (.refl s) (by decide))
      | false => exact State.bump_get_same _ _ (by decide)
  · refine .intro (exec_verifyDone_ntp low known stage up fresh body plain current) ⟨?_, State.putCar_regs ..⟩
    have same : ({ k with stage := .compose } : Carriage).cid = cid := (show k.cid = cid from State.car_cid known)
    exact (congrArg (Option.map _) (State.putCar_car known same)).trans rfl
  · subst place
    exact .intro (exec_verifyDone_disagree low known stage up fresh)
      (State.laneFault_spec (by omega) known (by unfold holdsLane; rw [stage, decide_eq_true rfl]; rfl))
  · refine .intro (exec_signQueueAdmit low known stage up fresh) ⟨?_, rfl⟩
    rw [State.admitSign_car known (State.car_cid known) place]
    rfl
  · have bound : (s.masterGone port).boundCand port = s.boundCand port := rfl
    have pipe := State.boundGone_pipe (s.masterGone port) (s.boundCand port) fun b is => State.boundCand_lt is
    obtain ⟨master', ann⟩ := s.masterGone_upOf port
    refine .intro (exec_upstreamAnnounceTimeout low master silent) ⟨?_, ?_, fun b is up above below => ?_⟩
    · rw [bound, State.upOf_congr pipe, master']
    · rw [bound, State.upOf_congr pipe, ann]
    · rw [bound, is]
      exact State.boundGone_some (s := s.masterGone port) (State.boundCand_lt is) up above below

end Sys2Proof.Machine
end

section
/-! PROOFS.
From SIGN to the port, and the drain (spec/14, R322, R333 to R336, R346).
-/
namespace Sys2Proof.Machine
open Sys2Proof

/-! # From SIGN to the port, and the drain (spec/14, R322, R333 to R336, R346) -/

section

variable {s : State} {c cid tick : Nat} {k : Carriage} {d : Int}

/-! ## SIGN -/

theorem State.newCookies_pipe (s : State) (k : Carriage) (n : Nat) : (s.newCookies k n).2.pipe = s.pipe := by
  unfold State.newCookies
  split
  · rfl
  · dsimp only
    generalize List.range n = l
    generalize hz : (([], s) : List Nat × State) = z
    have start : z.2.pipe = s.pipe := hz ▸ rfl
    clear hz
    induction l generalizing z with
    | nil => exact start
    | cons _ l ih => exact ih _ start

theorem State.signFrame_pipe (s : State) (k : Carriage) : (s.signFrame k).2.pipe = s.pipe := by
  unfold State.signFrame
  split
  · split <;> rfl
  · split
    · split
      · rfl
      · exact State.newCookies_pipe ..
    · rfl
  · rfl

/-- SIGN hands the carriage to SEAL with its frame signed and its pins released (R328). -/
theorem exec_signDone (low : c < 6) (known : s.car c cid = some k) (stage : k.stage = .sign) (up : s.up (8 + c) = true) (fresh : s.staleGen k.gen = false) (current : s.oldPlace k = false) :
    exec (.signDone c cid false) s = .next (((s.signFrame k).2.unpin c k).putCar c { k with frame := (s.signFrame k).1, stage := .seal }) := by
  show execSignDone c cid false s = _
  unfold execSignDone
  rw [withUnit_next low, State.atStage_at known stage up fresh]
  exact congrArg _ ((if_neg Bool.false_ne_true).trans (if_neg (by rw [current]; decide)))

/-! ## SEAL -/

theorem exec_sealSetupCheck (low : c < 6) (known : s.car c cid = some k) (stage : k.stage ≠ .seal) (up : s.up (8 + c) = true) (departs : s.departNow k = some d)
    (due : d - s.getOr (R.CO_SEAL_SETUP_NS c) 200 2000 400 * nsU ≤ (s.ctrOf (8 + c)).at_ tick) :
    exec (.sealSetupCheck c cid tick) s = .next (((s.lose c k (R.CO_LATE_COUNT c)).sta k.port 15 1).raise (P.CO c) E.CO_LATE) := by
  show execSealSetupCheck c cid tick s = _
  unfold execSealSetupCheck
  rw [withUnit_next low]
  simp only [known, departs]
  refine congrArg _ (if_neg ?_)
  rintro (sealed | down | early)
  · exact stage sealed
  · rw [up] at down
    exact absurd down (by decide)
  · omega

/-! ## The launch -/

/-- A frame of NTP launched leaves the port and counts (R334, R335). -/
theorem exec_launch_ntp {st : Stamp} {m : NtpMsg} (low : c < 6) (known : s.car c cid = some k) (stage : k.stage = .seal) (up : s.up (8 + c) = true) (fresh : s.staleGen k.gen = false)
    (departs : s.departNow k = some d) (body : k.frame.body = .ntp m) (open_ : s.noLaunch k = false)
    (due : (wireSpan (s.portMode k.port) k.frame.len (d - ofPs (s.cdelay k.gen (R.PRT_DELAY_TX_PS k.port)))).1 ≤ (s.ctrOf (8 + c)).at_ (tick + 1)) :
    exec (.launch c cid tick st) s =
      .next (((s.dropCar (k.port / 4) k.cid).sendGood k.port k.frame (d - ofPs (s.cdelay k.gen (R.PRT_DELAY_TX_PS k.port)))).bump (R.CO_NTP_TX_COUNT (k.port / 4))) := by
  show execLaunch c cid tick st s = _
  unfold execLaunch
  rw [withUnit_next low, State.atStage_at known stage up fresh]
  simp only [departs]
  rw [if_neg (Int.not_lt.mpr due), if_neg (by rw [open_]; decide)]
  simp only [body]
  rw [if_neg Bool.false_ne_true]
  unfold State.launchCar
  simp only [body]

theorem State.dropCar_car (s : State) (c cid : Nat) : (s.dropCar c cid).car c cid = none := by
  unfold State.dropCar State.car
  rw [State.coachOf_putCoach]
  refine List.find?_eq_none.mpr fun j mem => ?_
  have other := (List.mem_filter.mp mem).2
  simpa using other

/-! ## The multicast timer -/

/-- The state in which the timer's carriage is made: Announce carriages of the port may follow one another. -/
def State.announcing (s : State) (port : Nat) : State :=
  s.putPort port { s.portOf port with mcUps := (s.portOf port).ups, mcOk := true }

theorem exec_multicastTimer_announce {port : Nat} (low : port < 24) (up : s.up (8 + port / 4) = true) (in_ : bitOn s.shunt.coaches (port / 4) = false)
    (en : s.get (R.CO_MC_CFG_EN (port / 4) (port % 4)) = 1)
    (due : atMultiple ((s.ctrOf (8 + port / 4)).at_ tick) (toSigned 4 (s.get (R.CO_MC_CFG_LOG_ANN (port / 4) (port % 4)))) = true)
    (may : s.mayCreate (port / 4) true (s.flag (R.CO_MC_CFG_AUTH (port / 4) (port % 4))) ((s.ctrOf (8 + port / 4)).at_ tick) = true) :
    exec (.multicastTimer port 0 tick) s =
      .next (((s.announcing port).mcPlace port).2.addTimed port noClient ((s.announcing port).mcPlace port).1 none .announce ((s.ctrOf (8 + port / 4)).at_ tick)) := by
  show execMulticastTimer port 0 tick s = _
  unfold execMulticastTimer
  rw [withUnit_next low]
  dsimp only
  rw [if_neg, if_pos rfl, if_neg, if_neg]
  · rfl
  · rw [may]
    decide
  · rw [State.flag_of_get en, due]
    decide
  · rw [up]
    rintro (down | out)
    · exact absurd down (by decide)
    · exact Bool.false_ne_true (in_.symm.trans out)

theorem State.mcPlace_pipe (s : State) (port : Nat) : (s.mcPlace port).2.pipe = s.pipe := by
  unfold State.mcPlace
  dsimp only
  split
  · rfl
  · split <;> rfl

theorem State.addTimed_length (s : State) (port client place : Nat) (ent : Option ClientEntry) (kind : TtKind) (t : Int) :
    ((s.addTimed port client place ent kind t).coachOf (port / 4)).cars.length = (s.coachOf (port / 4)).cars.length + 1 := by
  have asked : ((s.demand (port / 4)).takeFree.2.coachOf (port / 4)).cars = (s.coachOf (port / 4)).cars := by
    show ((s.demand (port / 4)).coachOf (port / 4)).cars = _
    unfold State.demand
    rw [State.coachOf_putCoach]
  unfold State.addTimed State.addCar
  dsimp only
  rw [State.coachOf_putCoach]
  dsimp only
  rw [List.length_append, asked]
  rfl

theorem State.addTimed_portOf (s : State) (port client place : Nat) (ent : Option ClientEntry) (kind : TtKind) (t : Int) (p : Nat) :
    (s.addTimed port client place ent kind t).portOf p = s.portOf p := by
  unfold State.addTimed State.addCar State.demand
  rfl

theorem State.announcing_portOf (s : State) (port : Nat) : ((s.announcing port).portOf port).mcOk = true := by
  unfold State.announcing State.portOf State.putPort
  dsimp only
  rw [kvGetD_kvPut_same]

/-! ## The drain of a coach (R346) -/

theorem exec_coachDisable {m : Master} (low : c < 6) (opened : Open s m (R.PG_CTRL (P.CO c))) (en : s.get (R.PG_CTRL_EN (P.CO c)) = 1) :
    exec (.coachDisable m c) s = .next (((s.setFlag (R.PG_CTRL_EN (P.CO c)) false).drainCoach c).showServing c) := by
  show execCoachDisable m c s = _
  unfold execCoachDisable
  rw [withUnit_next low, hostWrite_open opened]
  exact congrArg _ (if_pos (State.flag_of_get en))

/-- The coach without its carriages before their point of no return. -/
def State.turnedAway (s : State) (c : Nat) : State := s.loseAll c (fun k => inService k && !past k) (R.CO_DIS_DROP_COUNT c)

/-- BUSY and DRAINING of a coach as they stand (R346). -/
def State.busyShown (s : State) (c : Nat) (b : Bool) : State := (s.setFlag (R.PG_STAT_BUSY (P.CO c)) b).setFlag (R.CO_STATUS_DRAINING c) b

theorem State.drainCoach_eq (s : State) (c : Nat) :
    s.drainCoach c = if (s.turnedAway c).coachBusy c then (s.turnedAway c).busyShown c ((s.turnedAway c).coachBusy c)
      else ((s.turnedAway c).busyShown c ((s.turnedAway c).coachBusy c)).raise (P.CO c) E.CO_DRAINED := rfl

theorem State.busyShown_get (s : State) (low : c < 6) (b : Bool) :
    (s.busyShown c b).get (R.PG_STAT_BUSY (P.CO c)) = (if b then 1 else 0) ∧ (s.busyShown c b).get (R.CO_STATUS_DRAINING c) = (if b then 1 else 0) := by
  have apart : ∀ c < 6, Ok.setFlag (Cap.away (R.PG_STAT_BUSY (P.CO c))) (R.CO_STATUS_DRAINING c) := by decide
  have fits : (if b then 1 else 0) < 2 ^ 1 := by split <;> decide
  refine ⟨?_, State.get_set_fits _ _ (Nat.le_of_ble_eq_true rfl) fits⟩
  unfold State.busyShown
  rw [((Within.refl _).setFlag (apart c low)).get_eq]
  exact State.get_set_fits _ _ (Nat.le_of_ble_eq_true rfl) fits

/-- A coach whose work is all past its point of no return keeps it. -/
theorem State.turnedAway_all (all : ∀ k ∈ (s.coachOf c).cars, past k = true) : s.turnedAway c = s := by
  have none : (s.coachOf c).cars.filter (fun k => inService k && !past k) = [] := List.filter_eq_nil_iff.mpr fun k mem => by rw [all k mem]; simp
  unfold State.turnedAway State.loseAll
  rw [none]
  rfl

/-- Losing carriages does not make a coach busy. -/
theorem State.turnedAway_idle (idle : s.coachBusy c = false) : (s.turnedAway c).coachBusy c = false := by
  unfold State.turnedAway State.loseAll
  generalize (s.coachOf c).cars.filter (fun k => inService k && !past k) = l
  induction l generalizing s with
  | nil => exact idle
  | cons j l ih =>
    refine ih ?_
    unfold State.coachBusy at idle ⊢
    rw [State.lose_cars]
    exact List.any_eq_false.mpr fun k mem => List.any_eq_false.mp idle k (List.mem_filter.mp mem).1

/-- A disabled coach does not serve (R347). -/
theorem State.showServing_off (off : s.get (R.PG_CTRL_EN (P.CO c)) = 0) : (s.showServing c).get (R.CO_STATUS_SERVING c) = 0 := by
  have on : (s.flag (R.PG_CTRL_EN (P.CO c)) && decide (s.stopScope c = 0) && s.up (8 + c)) = false := by rw [State.flag_of_get_zero off]; rfl
  unfold State.showServing
  dsimp only
  rw [on]
  split
  next flag =>
    have bound : s.get (R.CO_STATUS_SERVING c) < 2 ^ 1 := State.get_lt ..
    have not : s.get (R.CO_STATUS_SERVING c) ≠ 1 := of_decide_eq_false flag
    exact Nat.lt_one_iff.mp (Nat.lt_of_le_of_ne (Nat.le_of_lt_succ bound) not)
  next =>
    have apart : Within (Cap.away (R.CO_STATUS_SERVING c)) (s.takeFree.2.setFlag (R.CO_STATUS_SERVING c) false) _ := .trig (island := 8 + c) (code := 0x70) (args := [c, s.takeFree.1, 0]) (.refl _)
    rw [apart.get_eq]
    exact State.get_set_fits _ _ (Nat.le_of_ble_eq_true rfl) (show 0 < 2 ^ 1 by decide)

/-- The last work of a disabled coach has gone (R88). -/
def State.drainedCoach (s : State) (c : Nat) : State := ((s.set (R.PG_STAT_BUSY (P.CO c)) 0).set (R.CO_STATUS_DRAINING c) 0).raise (P.CO c) E.CO_DRAINED

/-- Messages to the host leave the enables that wait as they are (R88). -/
theorem State.sendVec_enAsked (s : State) (v : Nat) : (s.sendVec v).host.enAsked = s.host.enAsked := by
  unfold State.sendVec
  extract_lets pf x x'
  split
  · rfl
  · split
    · split <;> rfl
    · rfl

theorem State.raise_enAsked (s : State) (p b : Nat) : (s.raise p b).host.enAsked = s.host.enAsked := by
  unfold State.raise State.putEvt State.vecRises
  dsimp only
  split
  · split
    · refine foldl_keep _ (fun t => t.host.enAsked) (fun t v => ?_) _ _
      split
      · exact t.sendVec_enAsked v
      · rfl
    · rfl
  · rfl

theorem State.drainedCoach_enAsked (s : State) (c : Nat) : (s.drainedCoach c).host.enAsked = s.host.enAsked := State.raise_enAsked ..

theorem exec_drained_coach (low : c < 6) (busy : s.get (R.PG_STAT_BUSY (P.CO c)) = 1) (idle : s.coachBusy c = false) : exec (.drained (P.CO c)) s = .next (s.drainedCoach c).lateEnables := by
  have pages : ∀ c < 6, P.CO c ≠ P.SWF ∧ P.CO c ≠ P.DMA ∧ ¬ (P.PRT 0 ≤ P.CO c ∧ P.CO c ≤ P.PRT 23) ∧ (P.CO 0 ≤ P.CO c ∧ P.CO c ≤ P.CO 5) ∧ P.CO c - P.CO 0 = c := by decide
  obtain ⟨switch, rings, port, inside, coach⟩ := pages c low
  show execDrained (P.CO c) s = _
  unfold execDrained
  rw [if_neg switch, if_neg rings, if_neg port, if_pos inside]
  dsimp only
  rw [coach, if_neg]
  · rfl
  · rw [State.flag_of_get busy, idle]
    decide

theorem State.lateEnables_none (none : s.host.enAsked = []) : s.lateEnables.regs = s.regs ∧ ∀ p b, Event s p b → Event s.lateEnables p b := by
  unfold State.lateEnables
  rw [none]
  exact ⟨rfl, fun _ _ e => e⟩

end

/-- Settles O24: that the multicast timer makes its carriage whatever the state of its port is the model's choice (log entry 16). -/
theorem carriagesAreSealedLaunchedAndDrained : Obligations.CarriagesAreSealedLaunchedAndDrained := by
  refine ⟨fun s c cid k low known stage up fresh current => ?_, fun s c cid tick k d low known stage up departs place due => ?_,
    fun s c cid tick st k d m low known stage up fresh departs body place open_ due => ?_, fun s port tick low up in_ en due may => ?_,
    fun s m c low opened en => ?_, fun s c low busy idle asked => ?_⟩
  · refine .intro (exec_signDone low known stage up fresh current) ?_
    have pipe : ((s.signFrame k).2.unpin c k).pipe = s.pipe := (Within.pipe_eq (.unpin (.refl _) (by decide))).trans (State.signFrame_pipe ..)
    have same : ({ k with frame := (s.signFrame k).1, stage := .seal } : Carriage).cid = cid := (show k.cid = cid from State.car_cid known)
    exact (congrArg (Option.map _) (State.putCar_car ((State.car_congr pipe).trans known) same)).trans rfl
  · subst place
    refine .intro (exec_sealSetupCheck low known stage up departs due) ⟨?_, event_raise _ _ _ (by decide), ?_⟩
    · have may : ∀ p < 24, Ok.sta (Cap.sparing .pipe) p 15 ∧ Ok.raise (Cap.sparing .pipe) (P.CO (p / 4)) := by decide
      obtain ⟨sta, raise⟩ := may k.port (by omega)
      rw [State.car_congr (Within.pipe_eq (.raise (.sta (.refl _) sta) raise))]
      exact State.car_cid known ▸ State.lose_car ..
    · have may : ∀ p < 24, Ok.sta (Cap.away (R.CO_LATE_COUNT (p / 4))) p 15 ∧ Ok.raise (Cap.away (R.CO_LATE_COUNT (p / 4))) (P.CO (p / 4)) := by decide
      obtain ⟨sta, raise⟩ := may k.port (by omega)
      rw [Within.get_eq (.raise (.sta (.refl _) sta) raise)]
      exact State.lose_get _ _ _ _ (Nat.le_of_ble_eq_true rfl)
  · subst place
    have may : ∀ p < 24, Ok.sendGood (Cap.sparing .pipe) p ∧ Ok.sendGood (Cap.away (R.CO_NTP_TX_COUNT (p / 4))) p := by decide
    obtain ⟨pipe, count⟩ := may k.port (by omega)
    refine .intro (exec_launch_ntp low known stage up fresh departs body open_ due) ⟨?_, ?_, ?_⟩
    · rw [State.car_congr (State.bump_pipe ..), State.car_congr (Within.pipe_eq (.sendGood (.refl _) pipe))]
      exact State.car_cid known ▸ State.dropCar_car ..
    · exact State.sendGood_sent ..
    · rw [State.bump_get_same _ _ (Nat.le_of_ble_eq_true rfl), Within.get_eq (.sendGood (.refl _) count)]
      rfl
  · refine .intro (exec_multicastTimer_announce low up in_ en due may) ⟨?_, ?_, ?_⟩
    · rw [State.addTimed_length, State.coachOf_congr (State.mcPlace_pipe ..)]
      rfl
    · obtain ⟨x, last, origin, at_, -, stage, kind⟩ := ((s.announcing port).mcPlace port).2.addTimed_last port noClient ((s.announcing port).mcPlace port).1 none .announce
        ((s.ctrOf (8 + port / 4)).at_ tick)
      rw [last, Option.map_some, origin, at_, stage, kind]
    · have kept : ((s.announcing port).mcPlace port).2.portOf port = (s.announcing port).portOf port := by
        unfold State.portOf
        rw [State.mcPlace_pipe]
      rw [State.addTimed_portOf, kept]
      exact s.announcing_portOf port
  · have may : ∀ c < 6, Ok.showServing (Cap.away (R.PG_CTRL_EN (P.CO c))) c ∧ Ok.drainCoach (Cap.away (R.PG_CTRL_EN (P.CO c))) c ∧
        Ok.showServing (Cap.away (R.PG_STAT_BUSY (P.CO c))) c ∧ Ok.showServing (Cap.away (R.CO_STATUS_DRAINING c)) c ∧ Ok.showServing (Cap.raising (P.CO c)) c ∧
        Ok.raise (Cap.away (R.PG_STAT_BUSY (P.CO c))) (P.CO c) ∧ Ok.raise (Cap.away (R.CO_STATUS_DRAINING c)) (P.CO c) := by decide
    obtain ⟨enShow, enDrain, busyShow, drainShow, raiseShow, busyRaise, drainRaise⟩ := may c low
    let u := s.setFlag (R.PG_CTRL_EN (P.CO c)) false
    have off : (u.drainCoach c).get (R.PG_CTRL_EN (P.CO c)) = 0 := by
      rw [Within.get_eq (.drainCoach (.refl u) enDrain)]
      exact State.get_set_fits _ _ (Nat.le_of_ble_eq_true rfl) (show 0 < 2 ^ 1 by decide)
    refine .intro (exec_coachDisable low opened en) ⟨?_, State.showServing_off off, fun some_ all => ?_, fun idle => ?_⟩
    · rw [Within.get_eq (.showServing (.refl _) enShow), off]
    · have busy : u.coachBusy c = true := by
        obtain ⟨k, mem⟩ := List.exists_mem_of_ne_nil _ some_
        exact List.any_eq_true.mpr ⟨k, mem, all k mem⟩
      have kept : u.turnedAway c = u := State.turnedAway_all (s := u) all
      rw [Within.get_eq (.showServing (.refl _) busyShow), Within.get_eq (.showServing (.refl _) drainShow), State.drainCoach_eq, kept, busy, if_pos rfl]
      exact State.busyShown_get u low true
    · have still : (u.turnedAway c).coachBusy c = false := State.turnedAway_idle (s := u) idle
      obtain ⟨busy, draining⟩ := (u.turnedAway c).busyShown_get low false
      rw [State.drainCoach_eq, still, if_neg Bool.false_ne_true]
      refine ⟨?_, ?_, ?_⟩
      · rw [Within.get_eq (.showServing (.refl _) busyShow), Within.get_eq (.raise (.refl _) busyRaise)]
        exact busy
      · rw [Within.get_eq (.showServing (.refl _) drainShow), Within.get_eq (.raise (.refl _) drainRaise)]
        exact draining
      · exact Within.event (.showServing (.refl _) raiseShow) (event_raise _ _ _ (by decide))
  · obtain ⟨regs, events⟩ := State.lateEnables_none (s := s.drainedCoach c) (by rw [State.drainedCoach_enAsked, asked])
    have may : ∀ c < 6, Ok.set (Cap.away (R.PG_STAT_BUSY (P.CO c))) (R.CO_STATUS_DRAINING c) ∧ Ok.raise (Cap.away (R.PG_STAT_BUSY (P.CO c))) (P.CO c) ∧
        Ok.raise (Cap.away (R.CO_STATUS_DRAINING c)) (P.CO c) := by decide
    obtain ⟨set, raise, raise'⟩ := may c low
    refine .intro (exec_drained_coach low busy idle) ⟨?_, ?_, events _ _ (event_raise _ _ _ (by decide))⟩
    · rw [State.get_congr regs]
      exact (Within.get_eq (.raise (.set (.refl _) set) raise)).trans (State.get_set_fits _ _ (Nat.le_of_ble_eq_true rfl) (show 0 < 2 ^ 1 by decide))
    · rw [State.get_congr regs]
      exact (Within.get_eq (.raise (.refl _) raise')).trans (State.get_set_fits _ _ (Nat.le_of_ble_eq_true rfl) (show 0 < 2 ^ 1 by decide))

end Sys2Proof.Machine
end

section
/-! PROOFS.
The switch (spec/13, R295 to R314).
-/
namespace Sys2Proof.Machine
open Sys2Proof

/-! # The switch (spec/13, R295, R298 to R301, R304, R307, R309 to R314) -/

section

variable {s : State} {c slot cid : Nat} {rest : List Nat} {k : Carriage}

/-! ## Admission -/

/-- The state in which the frame of a coach is offered: the coach has one carriage less for the coupling. -/
def State.atHead (s : State) (c slot : Nat) (rest : List Nat) : State := (s.toSlot slot).putCoach c { s.coachOf c with toSw := rest }

theorem exec_frameAdmission (low : c < 6) (link : s.linkOpen (8 + c) islSW 0 = true) (queue : (s.coachOf c).toSw = cid :: rest)
    (known : (s.coachOf c).cars.find? (fun x => decide (x.cid = cid ∧ x.stage = .forward)) = some k) :
    exec (.frameAdmission c slot) s = .next ((s.atHead c slot rest).admitCarriage c k) := by
  show execFrameAdmission c slot s = _
  unfold execFrameAdmission
  rw [withUnit_next low]
  simp only [queue, known]
  exact congrArg _ (if_neg (by rw [link]; decide))

/-- The slots that stage 1 has run change the switch's cells only. -/
theorem State.toSlot_frame (s : State) (slot : Nat) : s.toSlot slot = { s with sw := (s.toSlot slot).sw } := by
  unfold State.toSlot
  split <;> rfl

theorem State.toSlot_regs (s : State) (slot : Nat) : (s.toSlot slot).regs = s.regs := (congrArg State.regs (s.toSlot_frame slot) :)

/-- What admission asks of the registers does not depend on the coaches nor on the switch's cells. -/
theorem State.atHead_regs (s : State) (c slot : Nat) (rest : List Nat) (cid : Nat) : ((s.atHead c slot rest).dropCar c cid).regs = s.regs := s.toSlot_regs slot

theorem State.atHead_flt (s : State) (c slot : Nat) (rest : List Nat) (cid : Nat) : ((s.atHead c slot rest).dropCar c cid).flt = s.flt :=
  (congrArg State.flt (s.toSlot_frame slot) :)

theorem State.toSlot_injWaits (s : State) (slot c : Nat) : (s.toSlot slot).injWaits c = s.injWaits c := by
  unfold State.injWaits
  rw [(congrArg State.flt (s.toSlot_frame slot) :)]

theorem State.staleGen_congr {t : State} (regs : t.regs = s.regs) (gen : t.gen = s.gen) (g : Nat) : t.staleGen g = s.staleGen g := by
  unfold State.staleGen
  rw [gen, State.get_congr regs]

theorem State.swOn_congr {t : State} (regs : t.regs = s.regs) (flt : t.flt = s.flt) : t.swOn = s.swOn := by
  unfold State.swOn
  rw [flt, State.flag_congr regs]

theorem State.atHead_gen (s : State) (c slot : Nat) (rest : List Nat) (cid : Nat) : ((s.atHead c slot rest).dropCar c cid).gen = s.gen :=
  (congrArg State.gen (s.toSlot_frame slot) :)

/-- The carriage has left the coach and the coupling. -/
theorem State.atHead_coach (s : State) (c slot : Nat) (rest : List Nat) (cid : Nat) :
    ((s.atHead c slot rest).dropCar c cid).car c cid = none ∧ (((s.atHead c slot rest).dropCar c cid).coachOf c).toSw = rest := by
  unfold State.dropCar State.atHead State.car
  simp only [State.coachOf_putCoach]
  refine ⟨List.find?_eq_none.mpr fun j mem => ?_, trivial⟩
  have other := (List.mem_filter.mp mem).2
  simpa using other

/-- The switch disabled counts what is offered to it (R311). -/
theorem State.admitCarriage_off (fresh : s.staleGen k.gen = false) (off : s.swOn = false) :
    (s.atHead c slot rest).admitCarriage c k = ((s.atHead c slot rest).dropCar c k.cid).bump R.SWF_DIS_DROP_COUNT := by
  have current := (State.staleGen_congr (s.atHead_regs c slot rest k.cid) (s.atHead_gen c slot rest k.cid) k.gen).trans fresh
  have stopped := (State.swOn_congr (s.atHead_regs c slot rest k.cid) (s.atHead_flt c slot rest k.cid)).trans off
  unfold State.admitCarriage
  dsimp only
  rw [if_neg (by rw [current]; decide), if_pos (by rw [stopped]; decide)]

/-- The offer of a frame for the host (R304). -/
def State.hostOffer (s : State) (c : Nat) (k : Carriage) : Offer :=
  { input := c, fid := k.cid, frame := k.frame, portIn := k.portIn, verdict := k.verdict, origin := 0, gen := k.gen, ingT := k.ingT, cls := s.pcpClass k.gen k.frame,
    bound := cellsOf (s.cget k.gen (R.PRT_FRAME_MAX_BYTES k.port)), dsts := [24], desc := none, cold := s.rxFlags k.port, place := k.place, buf := k.buf, depart := k.depart }

theorem State.admitCarriage_host (port : k.port < 24) (fresh : s.staleGen k.gen = false) (on : s.swOn = true) (host : k.verdict = 3) :
    (s.atHead c slot rest).admitCarriage c k = ((s.atHead c slot rest).dropCar c k.cid).admitFrame (((s.atHead c slot rest).dropCar c k.cid).hostOffer c k) := by
  have current := (State.staleGen_congr (s.atHead_regs c slot rest k.cid) (s.atHead_gen c slot rest k.cid) k.gen).trans fresh
  have running := (State.swOn_congr (s.atHead_regs c slot rest k.cid) (s.atHead_flt c slot rest k.cid)).trans on
  have ordinary : ¬ (k.verdict = 1 ∨ k.verdict = 2) := by rw [host]; decide
  have sets : ∀ p < 24, setBit (2 ^ 24) p false ≠ 0 ∧ maskDsts (setBit (2 ^ 24) p false) = [24] := by decide
  obtain ⟨some_, one⟩ := sets k.port port
  unfold State.admitCarriage State.destSet
  dsimp only
  rw [if_neg (by rw [current]; decide), if_neg (by rw [running]; decide), if_neg ordinary, if_pos host, if_neg some_, one]
  rw [decide_eq_false ordinary, Bool.and_false]
  rfl

theorem State.putCoach_refusal (s : State) (c : Nat) (x : CoachState) (g cls n d : Nat) (b : Bool) : (s.putCoach c x).refusal g cls n d b = s.refusal g cls n d b := rfl

theorem State.putCoach_spillDue (s : State) (c : Nat) (x : CoachState) (g cls d : Nat) : (s.putCoach c x).spillDue g cls d = s.spillDue g cls d := rfl

theorem State.putCoach_hostOffer (s : State) (c : Nat) (x : CoachState) (k : Carriage) : (s.putCoach c x).hostOffer c k = s.hostOffer c k := rfl

theorem State.toSlot_cget (s : State) (slot g : Nat) (f : Fld) : (s.toSlot slot).cget g f = s.cget g f := by
  rw [State.toSlot_frame]
  rfl

theorem State.toSlot_pcpClass (s : State) (slot g : Nat) (f : Frame) : (s.toSlot slot).pcpClass g f = s.pcpClass g f := by
  rw [State.toSlot_frame]
  rfl

/-- What the queue of the host says to the offer is what it says of the frame (R304). -/
theorem State.hostOffer_refusal (s : State) (c slot : Nat) (rest : List Nat) (k : Carriage) :
    let o := ((s.atHead c slot rest).dropCar c k.cid).hostOffer c k
    ((s.atHead c slot rest).dropCar c k.cid).refusal o.gen o.cls o.bound 24 (((s.atHead c slot rest).dropCar c k.cid).spillDue o.gen o.cls 24) =
      (s.toSlot slot).refusal k.gen (s.pcpClass k.gen k.frame) (cellsOf (s.cget k.gen (R.PRT_FRAME_MAX_BYTES k.port))) 24
        ((s.toSlot slot).spillDue k.gen (s.pcpClass k.gen k.frame) 24) := by
  unfold State.dropCar State.atHead
  dsimp only
  rw [State.putCoach_refusal, State.putCoach_refusal, State.putCoach_spillDue, State.putCoach_spillDue, State.putCoach_hostOffer, State.putCoach_hostOffer]
  unfold State.hostOffer
  dsimp only
  rw [State.toSlot_pcpClass, State.toSlot_cget]

/-- A frame offered to one destination that takes it joins the frames with its copy (R304). -/
theorem State.admitFrame_one {o : Offer} {d : Nat} (dsts : o.dsts = [d]) (desc : o.desc = none) (takes : s.refusal o.gen o.cls o.bound d (s.spillDue o.gen o.cls d) = 0) :
    ∃ f : SwFrame, (s.admitFrame o).sw.frames = s.sw.frames ++ [f] ∧ f.input = o.input ∧ f.fid = o.fid ∧ f.frame = o.frame ∧ f.copies.map (fun x => x.dst) = [d] := by
  unfold State.admitFrame
  simp only [dsts, desc, List.map_cons, List.map_nil, takes, List.foldl_cons, List.foldl_nil, List.any_cons, List.any_nil, List.filter_cons, List.filter_nil, decide_true, if_true]
  refine ⟨_, ((congrArg SwPart.frames (Within.sw_eq (.showBuf (.refl _) (by decide)))).trans rfl), rfl, rfl, rfl, rfl⟩

/-! ## Frames by input and FID -/

theorem SwFrame.is_self (f : SwFrame) : f.is f.input f.fid = true := decide_eq_true ⟨rfl, rfl⟩

theorem State.swFrame_is {input fid : Nat} {f : SwFrame} (known : s.swFrame input fid = some f) : f.input = input ∧ f.fid = fid := of_decide_eq_true (List.find?_some known :)

theorem State.swFrame_of_frames {t : State} (same : t.sw.frames = s.sw.frames) (input fid : Nat) : t.swFrame input fid = s.swFrame input fid := by
  unfold State.swFrame SwPart.frame
  rw [same]

/-- A frame replaced is found in the place of the old one. -/
theorem State.putSwFrame_swFrame {input fid : Nat} {f g : SwFrame} (known : s.swFrame input fid = some f) (same : g.input = input ∧ g.fid = fid) :
    (s.putSwFrame g).swFrame input fid = some g := by
  obtain ⟨rfl, rfl⟩ := same
  unfold State.swFrame SwPart.frame at known
  show (s.sw.frames.map (fun j => if j.is g.input g.fid then g else j)).find? (fun j => j.is g.input g.fid) = some g
  generalize s.sw.frames = l at known
  induction l with
  | nil => cases known
  | cons j l ih =>
    rw [List.map_cons]
    by_cases here : j.is g.input g.fid = true
    · rw [if_pos here]
      exact List.find?_cons_of_pos g.is_self
    · rw [if_neg here, List.find?_cons_of_neg (p := fun j : SwFrame => j.is g.input g.fid) here]
      rw [List.find?_cons_of_neg (p := fun j : SwFrame => j.is g.input g.fid) here] at known
      exact ih known

theorem State.showBuf_sw (s : State) : s.showBuf.sw = s.sw := Within.sw_eq (.showBuf (.refl s) (by decide))

theorem State.tidy_fseq (s : State) : s.tidy.sw.fseq = s.sw.fseq := (congrArg SwPart.fseq (State.showBuf_sw _) :)

/-- A frame dropped is not found any more. -/
theorem State.dropFrame_gone (s : State) (f : SwFrame) : (s.dropFrame f).swFrame f.input f.fid = none := by
  unfold State.dropFrame State.swFrame SwPart.frame
  rw [State.tidy_frames, State.dropCopies_frames]
  refine List.find?_eq_none.mpr fun g mem is => ?_
  obtain ⟨in_, some_⟩ := List.mem_filter.mp mem
  obtain ⟨j, -, rfl⟩ := List.mem_map.mp in_
  by_cases here : j.is f.input f.fid = true
  · rw [if_pos here] at some_
    exact of_decide_eq_true some_ (List.filter_eq_nil_iff.mpr fun _ _ => by simp)
  · rw [if_neg here] at is
    exact here is

/-! ## Cells -/

theorem State.sramCell_none (idle : s.injWaits 1 = none) (ecc : Nat) : s.sramCell ecc = (s, ecc) := by
  unfold State.sramCell
  rw [idle]

section

variable {out q : Nat} {x : Cell} {f : SwFrame} (idle : s.injWaits 1 = none) (sram : q ≠ 25) (known : s.swFrame x.input x.fid = some f)
  (hit : f.copies.any (fun k => decide (k.dst = q) && !k.spilled) = true)

/-- The frame with one more cell of its copy at the resequencer. -/
def SwFrame.cellIn (f : SwFrame) (q : Nat) (last : Bool) : SwFrame :=
  { f with copies := f.copies.map (fun k => if (decide (k.dst = q) && !k.spilled) = true then { k with cells := k.cells + 1, entered := true, last := k.last || last } else k) }

include idle sram known hit in
/-- A cell with no error is counted (R298). -/
theorem State.takeCell_good : s.takeCell out q x 0 = (s.putSwFrame (f.cellIn q x.last)).showBuf := by
  unfold State.takeCell
  rw [State.sramCell_none idle]
  dsimp only
  simp only [if_neg sram]
  rw [if_neg (by decide : ¬ 0 = 1), known]
  dsimp only
  rw [hit]
  simp [sram, SwFrame.cellIn]

include idle sram known hit in
/-- An uncorrectable cell takes its frame (R313). -/
theorem State.takeCell_bad : s.takeCell out q x 2 = s.eccFrame f false := by
  unfold State.takeCell
  rw [State.sramCell_none idle]
  dsimp only
  simp only [if_neg sram]
  rw [if_neg (by decide : ¬ 2 = 1), known]
  dsimp only
  rw [hit]
  simp

end

/-- The state in which the cell chosen reaches its output. -/
def State.taking (s : State) (w : SwPart) (out slot key : Nat) (rest : List Cell) : State :=
  { s with sw := { w with sent := kvPut s.sw.sent out (slot + 1), banks := kvPut w.banks key rest } }

/-- The choice of a cell does not see which slots stage 2 has used. -/
theorem State.pickCell_sent (s : State) (l : List (Nat × Nat)) (bank out : Nat) :
    ({ s with sw := { s.sw with sent := l } } : State).pickCell bank out = (s.pickCell bank out).map (fun e => (e.1, e.2.1, { e.2.2 with sent := l })) := by
  unfold State.pickCell
  have heads : ({ s.sw with sent := l } : SwPart).heads = s.sw.heads := rfl
  have quantum : ({ s with sw := { s.sw with sent := l } } : State).quantum = s.quantum := rfl
  dsimp only
  rw [heads, quantum]
  split
  · rfl
  · split
    · rfl
    · rfl

/-- The choice of a cell changes turns only. -/
theorem State.pickCell_frames {bank out cls : Nat} {q : Nat} {w : SwPart} (is : s.pickCell bank out = some (q, cls, w)) : w.frames = s.sw.frames := by
  unfold State.pickCell at is
  dsimp only at is
  split at is
  · cases is
    rfl
  · split at is
    · cases is
    · cases is
      rfl

theorem exec_cellArrival {out q cls ecc : Nat} {w : SwPart} {x : Cell} {rest : List Cell} (low : out < 7) (up : s.up islSW = true) (open_ : s.outOpen out = true) (slot' : s.sw.slot ≤ slot)
    (sent : kvGetD s.sw.sent out 0 ≤ slot) (pick : (s.toSlot slot).pickCell ((out + slot) % 8) out = some (q, cls, w))
    (head : kvGetD w.banks (208 * ((out + slot) % 8) + 8 * q + cls) [] = x :: rest) :
    exec (.cellArrival out slot ecc) s = .next (((s.toSlot slot).taking w out slot (208 * ((out + slot) % 8) + 8 * q + cls) rest).takeCell out q x ecc) := by
  show execCellArrival out slot ecc s = _
  unfold execCellArrival
  rw [withUnit_next (by omega), if_neg]
  · dsimp only
    rw [State.pickCell_sent, pick]
    dsimp only [Option.map_some]
    rw [head]
    rfl
  · rw [up, open_]
    rintro (down | closed | past | used)
    · exact absurd down (by decide)
    · exact absurd closed (by decide)
    · omega
    · omega

/-- What remains of an uncorrectable error once it has been counted and reported. -/
def State.eccGone (s : State) (f : SwFrame) : State :=
  let gone := f.fseq.filter (fun (e : Nat × Nat) => !f.copies.any (fun c => decide (fabOut c.dst = e.1 ∧ 0 < c.cells)) && f.copies.any (fun c => decide (fabOut c.dst = e.1)))
  let g : SwFrame := { f with fseq := f.fseq.filter (fun (e : Nat × Nat) => !gone.contains e) }
  let s := s.putSwFrame g
  State.dropFrame { s with sw := { s.sw with lost := gone.map (fun (e : Nat × Nat) => (fseqKey f.input e.1 f.cls, e.2, f.input, f.fid)) ++ s.sw.lost } } g

theorem State.eccFrame_sram (s : State) (f : SwFrame) : s.eccFrame f false = (((s.bump R.BUF_ECC_UNCORR_COUNT).raise P.BUF E.BUF_ECC_UNCORR).pulse 17).eccGone f := rfl

theorem State.eccFrame_dram (s : State) (f : SwFrame) : s.eccFrame f true = s.dramUncorr.eccGone f := rfl

theorem State.eccGone_gone (s : State) (f : SwFrame) : (s.eccGone f).swFrame f.input f.fid = none := by
  unfold State.eccGone
  dsimp only
  exact State.dropFrame_gone _ { f with fseq := _ }

abbrev Can.eccGone (C : Cap) : Bool := decide (C (.part .sw) = true ∧ Ok.dropFrame C)

theorem Within.eccGone {C : Cap} {s₀ : State} {f : SwFrame} (h : Within C s₀ s) (may : Can.eccGone C = true) : Within C s₀ (s.eccGone f) := by
  obtain ⟨sw, drop⟩ := of_decide_eq_true may
  exact ((h.putSwFrame sw).updSw sw).dropFrame drop

/-! ## Release and skip at the resequencer -/

/-- The frame with its copies behind an output released (R298). -/
def SwFrame.released (f : SwFrame) (out : Nat) : SwFrame :=
  { f with copies := f.copies.map (fun x => if (decide (fabOut x.dst = out) && !x.spilled) = true then { x with ready := true } else x) }

theorem exec_frameRelease {out input fid v : Nat} {f : SwFrame} (low : out < 7) (known : s.swFrame input fid = some f)
    (seq : f.fseq.find? (fun e => decide (e.1 = out)) = some (out, v)) (turn : kvGetD s.sw.waiting (fseqKey input out f.cls) 0 = v) (sound : f.st = 0)
    (some_ : ∃ x ∈ f.copies, fabOut x.dst = out ∧ x.spilled = false) (whole : ∀ x ∈ f.copies, fabOut x.dst = out → x.spilled = false → x.cells = f.total ∧ x.ready = false) :
    exec (.frameRelease out input fid) s = .next (((s.putSwFrame (f.released out)).seqDone (fseqKey input out f.cls) v).endSpill).showBuf := by
  have here : f.copies.any (fun c => decide (fabOut c.dst = out) && !c.spilled) = true := by
    obtain ⟨x, mem, at_, sram⟩ := some_
    exact List.any_eq_true.mpr ⟨x, mem, by rw [at_, sram]; simp⟩
  have all : f.copies.all (fun c => !(decide (fabOut c.dst = out) && !c.spilled) || (decide (c.cells = f.total) && !c.ready)) = true := List.all_eq_true.mpr fun x mem => by
    by_cases mine : fabOut x.dst = out ∧ x.spilled = false
    · obtain ⟨cells, ready⟩ := whole x mem mine.1 mine.2
      rw [cells, ready]
      simp
    · rw [Bool.or_eq_true]
      refine .inl ?_
      rw [Bool.not_eq_true', Bool.and_eq_false_iff]
      by_cases at_ : fabOut x.dst = out
      · exact .inr (by simpa using fun sram => mine ⟨at_, sram⟩)
      · exact .inl (decide_eq_false at_)
  show execFrameRelease out input fid s = _
  unfold execFrameRelease
  rw [withUnit_next low, known]
  simp only [seq]
  rw [here, all]
  refine congrArg _ ((if_neg ?_).trans (if_neg (not_not_intro sound)))
  rintro (not | other)
  · exact absurd not (by decide)
  · exact other turn

theorem State.seqEnd_frames (s : State) (key v : Nat) : (((s.seqDone key v).endSpill).showBuf).sw.frames = s.sw.frames := (congrArg SwPart.frames (State.showBuf_sw _) :)

/-- A skip counted and reported (R300). -/
def State.skipCounted (s : State) : State := (s.bump R.SWF_RESEQ_SKIP_COUNT).raise P.SWF E.SWF_RESEQ_SKIP

/-- What a skip may touch besides. -/
abbrev Can.reseqSkip (C : Cap) : Bool := decide (C (.part .sw) = true ∧ Ok.dropCopies C ∧ Ok.tidy C)

theorem reseqSkip {out input cls us : Nat} (low : out < 7)
    (behind : kvGetD s.sw.waiting (fseqKey input out cls) 0 ≠ kvGetD s.sw.fseq (fseqKey input out cls) 0) (late : min 1000 (max 1 (s.get R.SWF_RESEQ_TMO_US)) ≤ us)
    (none_ : ∀ f, s.sw.frames.find? (fun f => decide (f.input = input ∧ f.cls = cls) && f.fseq.contains (out, kvGetD s.sw.waiting (fseqKey input out cls) 0)) = some f →
      ∀ x ∈ f.copies, fabOut x.dst = out → x.cells = 0) :
    Completes (.reseqSkip out input cls us) s fun t => ∀ C : Cap, Can.reseqSkip C = true → Within C s.skipCounted t := by
  show ∃ t, execReseqSkip out input cls us s = .next t ∧ _
  unfold execReseqSkip
  rw [withUnit_next low]
  dsimp only
  rw [if_neg (by rintro (same | early) <;> [exact behind same; omega])]
  refine ⟨_, rfl, fun C may => ?_⟩
  obtain ⟨sw, drop, tidy⟩ := of_decide_eq_true may
  split
  next f is =>
    have waits : ¬ f.copies.any (fun c => decide (fabOut c.dst = out) && decide (0 < c.cells)) = true := fun some_ => by
      obtain ⟨x, mem, has⟩ := List.any_eq_true.mp some_
      obtain ⟨at_, cells⟩ := Bool.and_eq_true_iff.mp has
      exact absurd (of_decide_eq_true cells) (none_ f is x mem (of_decide_eq_true at_) ▸ Nat.lt_irrefl 0)
    rw [if_neg waits]
    exact .tidy (.dropCopies (.updSw (.refl s.skipCounted) sw) drop) tidy
  next =>
    refine .seqDone ?_ sw
    split
    · exact .updSw (.updSw (.refl s.skipCounted) sw) sw
    · exact .refl s.skipCounted

/-! ## Re-issue from DRAM -/

theorem SwPart.issueOne_fseq (w : SwPart) (slot i : Nat) : (w.issueOne slot i).fseq = w.fseq := by
  unfold SwPart.issueOne
  split
  · rfl
  · dsimp only
    split <;> rfl

theorem SwPart.issueSlots_fseq (w : SwPart) (slot n : Nat) : (w.issueSlots slot n).fseq = w.fseq := by
  induction n generalizing w slot with
  | zero => rfl
  | succ n ih =>
    refine (ih ..).trans ?_
    exact List.foldlRecOn (motive := fun z : SwPart => z.fseq = w.fseq) _ _ rfl fun z hz i _ => (z.issueOne_fseq slot i).trans hz

theorem State.toSlot_fseq (s : State) (slot : Nat) : (s.toSlot slot).sw.fseq = s.sw.fseq := by
  unfold State.toSlot
  split
  · rfl
  · exact SwPart.issueSlots_fseq ..

/-- The re-issued copy of a frame, a frame of its own at input 7 (R307). -/
def SwFrame.reissued (f : SwFrame) (dst v : Nat) : SwFrame :=
  { f with input := 7, fid := f.fid + 2 ^ 20 * f.input + 2 ^ 23 * dst, fseq := [(fabOut dst, v)],
           copies := (f.copies.filter (fun c => decide (c.dst = dst))).map (fun c => { c with spilled := false, issued := false, cells := 0, last := false }) }

/-- The switch with the copy re-issued. -/
def State.reissue (s : State) (dst cls : Nat) (f : SwFrame) : State :=
  let v := kvGetD s.sw.fseq (fseqKey 7 (fabOut dst) cls) 0
  let f' : SwFrame := { f with copies := f.copies.filter (fun c => decide (c.dst ≠ dst)) }
  { s with sw := { s.sw with frames := s.sw.frames.flatMap (fun x => if x.is f.input f.fid then [f.reissued dst v, f'] else [x]),
                             fseq := kvPut s.sw.fseq (fseqKey 7 (fabOut dst) cls) ((v + 1) % 4096) } }

theorem State.reissue_frames (s : State) (dst cls : Nat) (f : SwFrame) : (s.reissue dst cls f).sw.frames = s.sw.frames.flatMap (fun x => if x.is f.input f.fid
    then [f.reissued dst (kvGetD s.sw.fseq (fseqKey 7 (fabOut dst) cls) 0), { f with copies := f.copies.filter (fun c => decide (c.dst ≠ dst)) }] else [x]) := rfl

theorem State.reissue_fseq (s : State) (dst cls : Nat) (f : SwFrame) :
    kvGetD (s.reissue dst cls f).sw.fseq (fseqKey 7 (fabOut dst) cls) 0 = (kvGetD s.sw.fseq (fseqKey 7 (fabOut dst) cls) 0 + 1) % 4096 := kvGetD_kvPut_same ..

theorem State.queueCellsIn_frames (s : State) (f : SwFrame) : (s.queueCellsIn f).sw.frames = s.sw.frames := rfl

theorem State.queueCellsIn_fseq (s : State) (f : SwFrame) : (s.queueCellsIn f).sw.fseq = s.sw.fseq := rfl

theorem exec_spillReissue {dst cls : Nat} {f : SwFrame} (low : dst < 25)
    (oldest : ((s.toSlot slot).queue dst cls).find? (fun f => f.copies.any (fun x => decide (x.dst = dst) && x.spilled)) = some f)
    (clear : (((s.toSlot slot).queue dst cls).takeWhile (fun g => !g.is f.input f.fid)).all (fun g => g.copies.all (fun x => decide (x.dst ≠ dst) || x.ready)) = true)
    (whole : f.copies.all (fun x => decide (x.dst ≠ dst) || decide (x.cells = f.total)) = true)
    (room : 2 * (s.toSlot slot).queueCells dst cls true < (s.toSlot slot).cget f.gen R.BUF_SPILL_AT_CELLS) (idle : s.injWaits 3 = none) :
    exec (.spillReissue dst cls slot false) s =
      .next (((s.toSlot slot).reissue dst cls f).tidy.queueCellsIn (f.reissued dst (kvGetD (s.toSlot slot).sw.fseq (fseqKey 7 (fabOut dst) cls) 0))) := by
  have idle' := (s.toSlot_injWaits slot 3).trans idle
  have sound : (s.toSlot slot).dramTransfer false = (s.toSlot slot, false) := by
    unfold State.dramTransfer
    rw [idle']
  show execSpillReissue dst cls slot false s = _
  unfold execSpillReissue
  rw [withUnit_next low]
  dsimp only
  rw [oldest]
  dsimp only
  rw [clear, whole, if_neg, sound]
  · rfl
  · rintro (no | no | full)
    · exact absurd no (by decide)
    · exact absurd no (by decide)
    · omega

/-- The re-issued frame stands among the frames. -/
theorem State.reissue_mem {dst cls : Nat} {f : SwFrame} (mem : f ∈ s.sw.frames) (has : f.copies.any (fun x => decide (x.dst = dst) && x.spilled) = true) (g : SwFrame) :
    f.reissued dst (kvGetD s.sw.fseq (fseqKey 7 (fabOut dst) cls) 0) ∈ ((s.reissue dst cls f).tidy.queueCellsIn g).sw.frames := by
  have some_ : (f.reissued dst (kvGetD s.sw.fseq (fseqKey 7 (fabOut dst) cls) 0)).copies ≠ [] := by
    obtain ⟨x, in_, is⟩ := List.any_eq_true.mp has
    obtain ⟨at_, -⟩ := Bool.and_eq_true_iff.mp is
    exact fun empty => List.ne_nil_of_mem (List.mem_filter.mpr ⟨in_, at_⟩) (List.map_eq_nil_iff.mp empty)
  rw [State.queueCellsIn_frames, State.tidy_frames, State.reissue_frames]
  refine List.mem_filter.mpr ⟨List.mem_flatMap.mpr ⟨f, mem, ?_⟩, decide_eq_true some_⟩
  rw [if_pos f.is_self]
  exact List.mem_cons_self

theorem SwFrame.reissued_copies (f : SwFrame) (dst v : Nat) : (f.reissued dst v).copies.all (fun x => decide (x.dst = dst) && !x.spilled) = true := by
  refine List.all_eq_true.mpr fun x mem => ?_
  obtain ⟨y, in_, rfl⟩ := List.mem_map.mp mem
  obtain ⟨-, at_⟩ := List.mem_filter.mp in_
  exact Bool.and_eq_true_iff.mpr ⟨at_, rfl⟩

/-! ## Aged copies -/

/-- A copy past its age is counted and named (R310). -/
def State.agedNamed (s : State) (dst cls : Nat) : State :=
  (((s.bump R.BUF_AGED_COUNT).set R.BUF_AGE_LAST_PORT dst).set R.BUF_AGE_LAST_CLASS cls).raise P.BUF E.BUF_AGED

theorem exec_aged {dst cls : Nat} {f : SwFrame} {l : List SwFrame} (low : dst < 25) (queue : s.queue dst cls = f :: l) (some_ : s.cget f.gen R.BUF_MAX_AGE_MS ≠ 0)
    (out : ∀ x ∈ f.copies, x.dst = dst → x.entered = false) (old : (s.cget f.gen R.BUF_MAX_AGE_MS : Int) * msU - msU ≤ s.ax.mark - f.admT) :
    exec (.aged dst cls) s = .next (((s.agedNamed dst cls).descResult f 4).dropCopies f (fun c => decide (c.dst = dst))).tidy := by
  show execAged dst cls s = _
  unfold execAged
  rw [withUnit_next low, queue]
  dsimp only
  refine congrArg _ (if_neg ?_)
  rintro (zero | entered | young)
  · exact some_ zero
  · obtain ⟨x, mem, has⟩ := List.any_eq_true.mp entered
    obtain ⟨at_, in_⟩ := Bool.and_eq_true_iff.mp has
    exact Bool.false_ne_true ((out x mem (of_decide_eq_true at_)).symm.trans in_)
  · omega

/-! ## The switch disabled -/

theorem exec_switchDisable {m : Master} (opened : Open s m (R.PG_CTRL P.SWF)) (en : s.get (R.PG_CTRL_EN P.SWF) = 1) :
    exec (.switchDisable m slot) s = .next (s.switchOff slot) := by
  show execSwitchDisable m slot s = _
  unfold execSwitchDisable
  rw [hostWrite_open opened]
  exact congrArg _ (if_pos (State.flag_of_get en))

/-- The frame is past its point of no return (R311). -/
def SwFrame.onItsWay (f : SwFrame) : Bool := f.copies.any (fun c => c.issued && !c.spilled)

/-- The frames left when those before their point of no return have been discarded. -/
def State.halted (s : State) : State :=
  ((s.sw.frames.filter (fun f => !f.onItsWay)).foldl (fun t f => (t.bump R.SWF_DIS_DROP_COUNT).dropCopies f (fun _ => true)) s).tidy

theorem State.switchOff_eq (s : State) (slot : Nat) : s.switchOff slot = ((s.setFlag (R.PG_CTRL_EN P.SWF) false).toSlot slot).halted.showSwBusy := rfl

/-- A frame of a list discarded is empty; the others stay. -/
theorem State.discarded_frames (l : List SwFrame) : ∀ g ∈ (l.foldl (fun t f => (t.bump R.SWF_DIS_DROP_COUNT).dropCopies f (fun _ => true)) s).sw.frames,
    g.copies = [] ∨ (g ∈ s.sw.frames ∧ g ∉ l) := by
  induction l generalizing s with
  | nil => exact fun g mem => .inr ⟨mem, List.not_mem_nil⟩
  | cons f l ih =>
    intro g mem
    rcases ih g mem with empty | ⟨here, not⟩
    · exact .inl empty
    · rw [State.dropCopies_frames, State.bump_sw] at here
      obtain ⟨j, in_, rfl⟩ := List.mem_map.mp here
      by_cases same : j.is f.input f.fid = true
      · rw [if_pos same]
        exact .inl (List.filter_eq_nil_iff.mpr fun _ _ => by simp)
      · rw [if_neg same] at not ⊢
        refine .inr ⟨in_, fun mem => ?_⟩
        rcases List.mem_cons.mp mem with rfl | later
        · exact same j.is_self
        · exact not later

theorem State.halted_frames (s : State) : ∀ f ∈ s.halted.sw.frames, f.onItsWay = true := by
  intro f mem
  unfold State.halted at mem
  rw [State.tidy_frames] at mem
  obtain ⟨in_, some_⟩ := List.mem_filter.mp mem
  rcases State.discarded_frames _ f in_ with empty | ⟨here, not⟩
  · exact absurd empty (of_decide_eq_true some_)
  · by_contra off
    exact not (List.mem_filter.mpr ⟨here, by simpa using off⟩)

abbrev Can.halted (C : Cap) : Bool := decide (Ok.bump C R.SWF_DIS_DROP_COUNT ∧ Ok.dropCopies C ∧ Ok.tidy C)

theorem Within.halted {C : Cap} {s₀ : State} (h : Within C s₀ s) (may : Can.halted C = true) : Within C s₀ s.halted := by
  obtain ⟨count, drop, tidy⟩ := of_decide_eq_true may
  exact .tidy (.foldl h fun _ _ _ h => (h.bump count).dropCopies drop) tidy

/-- BUSY of the disabled switch shows the frames not yet released (R311). -/
theorem State.showSwBusy_busy (off : s.get (R.PG_CTRL_EN P.SWF) = 0) :
    s.showSwBusy.get (R.PG_STAT_BUSY P.SWF) = 1 ↔ ∃ f ∈ s.sw.frames, ∃ x ∈ f.copies, x.ready = false := by
  unfold State.showSwBusy
  rw [if_neg (by rw [State.flag_of_get_zero off]; decide)]
  have shown (b : Bool) : (s.setFlag (R.PG_STAT_BUSY P.SWF) b).get (R.PG_STAT_BUSY P.SWF) = if b then 1 else 0 :=
    State.get_set_fits _ _ (by decide) (by cases b <;> decide)
  rw [shown]
  have any : (s.sw.frames.any (fun f => f.copies.any (fun c => !c.ready))) = true ↔ ∃ f ∈ s.sw.frames, ∃ x ∈ f.copies, x.ready = false := by simp
  rw [← any]
  cases s.sw.frames.any (fun f => f.copies.any (fun c => !c.ready)) <;> decide

/-! ## The DRAM -/

/-- The counts of a transfer that fails (R314). -/
def State.transferCounted (s : State) (fails ecc : Nat) : State :=
  if ecc = 1 then (s.crcRetry (min fails 4)).bump R.DRM_ECC_CORR_COUNT else s.crcRetry (min fails 4)

/-- What an uncorrectable transfer does, to its frame if it has one. -/
def State.transferLost (s : State) (spill : Option (Nat × Nat)) : State :=
  match spill.bind (fun (e : Nat × Nat) => s.swFrame e.1 e.2) with
  | some f => s.eccFrame f true
  | none => s.dramUncorr

theorem exec_dramTransferError {fails ecc : Nat} {spill : Option (Nat × Nat)} (up : s.up islSW = true) :
    exec (.dramTransferError fails ecc spill) s =
      .next (if 5 ≤ fails ∨ ecc = 2 then (s.transferCounted fails ecc).transferLost spill else s.transferCounted fails ecc) := by
  show execDramTransferError fails ecc spill s = _
  unfold execDramTransferError
  exact congrArg _ (if_neg (by rw [up]; decide))

/-- An uncorrectable transfer is reported on line 18. -/
theorem State.transferLost_spec (s : State) (spill : Option (Nat × Nat)) : (18, 0) ∈ (s.transferLost spill).flt.causes ∧ Event (s.transferLost spill) P.DRM E.DRM_ECC_UNCORR := by
  have told : (18, 0) ∈ s.dramUncorr.flt.causes ∧ Event s.dramUncorr P.DRM E.DRM_ECC_UNCORR :=
    ⟨State.lineOn_causes .., Within.event (.pulse (.refl _) (by decide)) (event_raise _ _ _ (by decide))⟩
  obtain ⟨cause, event⟩ := told
  unfold State.transferLost
  split
  · rw [State.eccFrame_dram]
    refine ⟨?_, Within.event (.eccGone (.refl _) (by decide)) event⟩
    rw [Within.flt_eq (.eccGone (.refl _) (by decide))]
    exact cause
  · exact ⟨cause, event⟩

theorem Within.transferLost {C : Cap} {s₀ : State} {spill : Option (Nat × Nat)} (h : Within C s₀ s) (may : Ok.eccFrame C) (may' : Ok.dramUncorr C) : Within C s₀ (s.transferLost spill) := by
  unfold State.transferLost
  split
  · exact h.eccFrame may
  · exact h.dramUncorr may'

/-- The temperature and the load taken (R314). -/
def State.throttleTaken (s : State) (temp : Int) (load : Nat) : State := (s.setS R.DRM_TEMP_T temp).set R.DRM_LOAD_PERMILLE (min 1000 load)

/-- THROTTLE shown with its event. -/
def State.throttleShown (s : State) (on : Bool) : State :=
  if s.flag R.DRM_STATUS_THROTTLE = on then s else (s.setFlag R.DRM_STATUS_THROTTLE on).level P.DRM E.DRM_THROTTLE on

theorem exec_throttle {temp : Int} {load : Nat} (up : s.up islSW = true) :
    exec (.throttle temp load) s = .next ((s.throttleTaken temp load).throttleShown (decide (85 * 1024 < temp))) := by
  show execThrottle temp load s = _
  unfold execThrottle
  exact congrArg _ (if_neg (by rw [up]; decide))

theorem State.throttleShown_flag (s : State) (on : Bool) : (s.throttleShown on).flag R.DRM_STATUS_THROTTLE = on := by
  unfold State.throttleShown
  split
  next same => exact same
  next =>
    rw [Within.flag_eq (.level (.refl _) (by decide))]
    exact State.setFlag_flag _ _ _ (by decide) rfl

theorem Within.throttleShown {C : Cap} {s₀ : State} {on : Bool} (h : Within C s₀ s) (may : Ok.setFlag C R.DRM_STATUS_THROTTLE) (may' : Ok.level C P.DRM) : Within C s₀ (s.throttleShown on) :=
  .ite h ((h.setFlag may).level may')

end

/-- Settles O25: that a copy is aged from MAX_AGE less 1 ms on is log entries 7 and 36, and what becomes of spilled copies is log entry 35; the model's choices. -/
theorem switchStoresReleasesAndDropsFrames : Obligations.SwitchStoresReleasesAndDropsFrames := by
  refine ⟨fun s c slot cid rest k low link queue fresh port known => ?_, fun s out slot q cls w x rest f low up open_ slot' sent pick head sram known hit idle => ?_,
    fun s out input fid v f low known seq turn sound some_ whole => ?_, fun s out input cls us low behind late none_ => ?_,
    fun s dst cls slot f low oldest clear whole room idle => ?_, fun s dst cls f l low cls' queue some_ out old => ?_, fun s m slot opened en => ?_,
    fun s fails ecc spill up => ?_, fun s temp load up above below => ?_⟩
  · have same : k.cid = cid := (of_decide_eq_true (List.find?_some known :) : k.cid = cid ∧ k.stage = .forward).1
    obtain ⟨gone, next⟩ := s.atHead_coach c slot rest k.cid
    have e := exec_frameAdmission (slot := slot) low link queue known
    refine ⟨fun off => ?_, fun on host takes => ?_⟩
    · rw [State.admitCarriage_off fresh off] at e
      refine .intro e ⟨?_, ?_, ?_, ?_⟩
      · rw [State.car_congr (State.bump_pipe ..), ← same, gone]
      · rw [State.coachOf_congr (State.bump_pipe ..), next]
      · exact State.bump_sw ..
      · rw [State.bump_get_same _ _ (by decide), State.get_congr (s.atHead_regs c slot rest k.cid)]
    · rw [State.admitCarriage_host port fresh on host] at e
      obtain ⟨f, frames, input, fid, frame, dsts⟩ := State.admitFrame_one (s := (s.atHead c slot rest).dropCar c k.cid) (o := ((s.atHead c slot rest).dropCar c k.cid).hostOffer c k) (d := 24) rfl rfl ((s.hostOffer_refusal c slot rest k).trans takes)
      have pipe : (((s.atHead c slot rest).dropCar c k.cid).admitFrame (((s.atHead c slot rest).dropCar c k.cid).hostOffer c k)).pipe = ((s.atHead c slot rest).dropCar c k.cid).pipe :=
        Within.pipe_eq (.admitFrame (.refl _) (by decide))
      refine .intro e ⟨?_, ?_, ?_, ?_⟩
      · rw [State.car_congr pipe, ← same, gone]
      · rw [State.coachOf_congr pipe, next]
      · rw [frames, List.length_append]
        rfl
      · rw [frames, List.getLast?_append_of_ne_nil _ (List.cons_ne_nil _ _), List.getLast?_singleton, Option.map_some, input, fid, frame, dsts, ← same]
        rfl
  · have frames : ((s.toSlot slot).taking w out slot (208 * ((out + slot) % 8) + 8 * q + cls) rest).sw.frames = (s.toSlot slot).sw.frames :=
      (State.pickCell_frames pick : w.frames = _)
    have known' := (State.swFrame_of_frames frames x.input x.fid).trans known
    have idle' : ((s.toSlot slot).taking w out slot (208 * ((out + slot) % 8) + 8 * q + cls) rest).injWaits 1 = none := (State.toSlot_injWaits s slot 1).trans idle
    have regs : ((s.toSlot slot).taking w out slot (208 * ((out + slot) % 8) + 8 * q + cls) rest).regs = s.regs := s.toSlot_regs slot
    obtain ⟨is, named⟩ := State.swFrame_is known
    refine ⟨.intro (exec_cellArrival low up open_ slot' sent pick head) ?_, .intro (exec_cellArrival low up open_ slot' sent pick head) ?_⟩
    · rw [State.takeCell_good idle' sram known' hit]
      have shown := State.showBuf_sw (((s.toSlot slot).taking w out slot (208 * ((out + slot) % 8) + 8 * q + cls) rest).putSwFrame (f.cellIn q x.last))
      refine ⟨?_, ?_⟩
      · rw [State.swFrame_of_frames (congrArg SwPart.frames shown), State.putSwFrame_swFrame (g := f.cellIn q x.last) known' ⟨is, named⟩]
        rfl
      · rw [shown]
        exact kvGetD_kvPut_same ..
    · rw [State.takeCell_bad idle' sram known' hit, State.eccFrame_sram]
      refine ⟨?_, ?_, ?_, ?_⟩
      · rw [← is, ← named]
        exact State.eccGone_gone ..
      · rw [Within.flt_eq (.eccGone (.refl _) (by decide))]
        exact State.lineOn_causes ..
      · exact Within.event (.eccGone (.pulse (.refl _) (by decide)) (by decide)) (event_raise _ _ _ (by decide))
      · rw [Within.get_eq (.eccGone (.pulse (.raise (.refl _) (by decide)) (by decide)) (by decide)), State.bump_get_same _ _ (by decide), State.get_congr regs]
  · refine .intro (exec_frameRelease low known seq turn sound some_ whole) ?_
    obtain ⟨is, named⟩ := State.swFrame_is known
    rw [State.swFrame_of_frames (State.seqEnd_frames ..), State.putSwFrame_swFrame (g := f.released out) known ⟨is, named⟩]
    rfl
  · obtain ⟨t, ran, skipped⟩ := reseqSkip low behind late none_
    refine ⟨t, ran, (skipped _ (by decide)).event (event_raise _ _ _ (by decide)), ?_⟩
    rw [(skipped (Cap.away R.SWF_RESEQ_SKIP_COUNT) (by decide)).get_eq]
    exact (Within.get_eq (.raise (.refl _) (by decide))).trans (State.bump_get_same _ _ (by decide))
  · refine .intro (exec_spillReissue low oldest clear whole room idle) ⟨?_, _, State.reissue_mem ?_ (List.find?_some oldest :) _, rfl, rfl, SwFrame.reissued_copies ..⟩
    · rw [State.queueCellsIn_fseq, State.tidy_fseq, State.reissue_fseq, State.toSlot_fseq]
    · exact (List.mem_filter.mp (List.mem_of_find?_eq_some oldest)).1
  · have after {C : Cap} (res : Ok.descResult C) (drop : Ok.dropCopies C) (tidy : Ok.tidy C) :
        Within C (s.agedNamed dst cls) (((s.agedNamed dst cls).descResult f 4).dropCopies f (fun c => decide (c.dst = dst))).tidy :=
      .tidy (.dropCopies (.descResult (.refl _) res) drop) tidy
    refine .intro (exec_aged low queue some_ out old) ⟨?_, ?_, ?_, ?_⟩
    · exact (after (by decide) (by decide) (by decide)).event (event_raise _ _ _ (by decide))
    · rw [(after (by decide) (by decide) (by decide)).get_eq]
      exact (Within.get_eq (.raise (.set (.refl _) (by decide)) (by decide))).trans (State.get_set_fits _ _ (by decide) (Nat.lt_trans low (by decide)))
    · rw [(after (by decide) (by decide) (by decide)).get_eq]
      exact (Within.get_eq (.raise (.refl _) (by decide))).trans (State.get_set_fits _ _ (by decide) cls')
    · rw [(after (by decide) (by decide) (by decide)).get_eq]
      exact (Within.get_eq (.raise (.set (.set (.refl _) (by decide)) (by decide)) (by decide))).trans (State.bump_get_same _ _ (by decide))
  · have off : ((s.setFlag (R.PG_CTRL_EN P.SWF) false).toSlot slot).halted.get (R.PG_CTRL_EN P.SWF) = 0 :=
      (Within.get_eq (.halted (.toSlot (.refl _) (by decide)) (by decide))).trans (State.get_set_fits _ _ (by decide) (by decide))
    have kept : ((s.setFlag (R.PG_CTRL_EN P.SWF) false).toSlot slot).halted.showSwBusy.sw = ((s.setFlag (R.PG_CTRL_EN P.SWF) false).toSlot slot).halted.sw :=
      Within.sw_eq (.showSwBusy (.refl _) (by decide))
    refine .intro (exec_switchDisable opened en) ?_
    rw [State.switchOff_eq, kept]
    exact ⟨(Within.get_eq (.showSwBusy (.refl _) (by decide))).trans off, State.halted_frames _, State.showSwBusy_busy off⟩
  · refine .intro (exec_dramTransferError up) ⟨?_, ?_, fun lost => ?_⟩
    · have after : Within (Cap.away R.DRM_CRC_RETRY_COUNT) (s.bumpBy R.DRM_CRC_RETRY_COUNT (min fails 4)) (if 5 ≤ fails ∨ ecc = 2 then (s.transferCounted fails ecc).transferLost spill
          else s.transferCounted fails ecc) := by
        have counted : Within (Cap.away R.DRM_CRC_RETRY_COUNT) (s.bumpBy R.DRM_CRC_RETRY_COUNT (min fails 4)) (s.transferCounted fails ecc) :=
          .ite (.bump (.raiseIf (.refl _) (by decide)) (by decide)) (.raiseIf (.refl _) (by decide))
        exact .ite (counted.transferLost (by decide) (by decide)) counted
      rw [after.get_eq]
      exact State.bumpBy_get_same _ _ _ (by decide)
    · have after : Within (Cap.away R.DRM_ECC_CORR_COUNT) (s.transferCounted fails ecc) (if 5 ≤ fails ∨ ecc = 2 then (s.transferCounted fails ecc).transferLost spill
          else s.transferCounted fails ecc) := .ite (.transferLost (.refl _) (by decide) (by decide)) (.refl _)
      have retried : (s.crcRetry (min fails 4)).get R.DRM_ECC_CORR_COUNT = s.get R.DRM_ECC_CORR_COUNT := Within.get_eq (.crcRetry (.refl s) (by decide))
      rw [after.get_eq]
      unfold State.transferCounted
      split
      · rw [State.bump_get_same _ _ (by decide), retried]
      · exact retried
    · rw [if_pos lost]
      exact State.transferLost_spec ..
  · refine .intro (exec_throttle up) ⟨?_, ?_, State.throttleShown_flag ..⟩
    · rw [Within.getS_eq (.throttleShown (.refl _) (by decide) (by decide))]
      exact (Within.getS_eq (.set (.refl _) (by decide))).trans (State.getS_setS _ _ _ (by decide) (by decide) above below)
    · rw [Within.get_eq (.throttleShown (.refl _) (by decide) (by decide))]
      exact State.get_set_fits _ _ (by decide) (Nat.lt_of_le_of_lt (Nat.min_le_left ..) (by decide))

end Sys2Proof.Machine
end
